-- ==== Sys2Proof/Word.lean ====
section
/-! DEFINITION. The plainest types: bytes and words, sparse tables, and the descriptor of a register field. -/
namespace Sys2Proof

/-- One byte of memory. -/
abbrev Byte := BitVec 8

/-- One 64-bit word: a register word, an Armature register, a word of a descriptor. -/
abbrev Word := BitVec 64

/-- A sparse table: keys strictly rising, one entry a key. -/
abbrev Tbl (α : Type) := List (Nat × α)

/-- A field of a BAR0 register: the position of its lowest bit in BAR0 (8 × offset + bit), its width, and its value
after cold reset (R9). A function's own copy of a per-function register lies `fnStride` bits further a function. -/
structure Fld where
  bit : Nat
  w : Nat
  rst : Nat
  deriving DecidableEq, Repr

/-- Distance, in bits, between two functions' copies of a per-function register (R704): above every BAR0 bit. -/
def fnStride : Nat := 0x1_0000_0000

end Sys2Proof
end

