-- ==== Sys2Proof/Operand.lean ====
section
/-! DEFINITION. The types of the commands' operands: who commands, which agent or block, and 64-byte descriptors. -/
namespace Sys2Proof

/-! ## Who commands and what is commanded -/

/-- The BAR0 blocks of the domain table (R17), in the order of their BAR0 offset in units of 1 MiB (R661). -/
inductive Block where
  | glb | hif | flt | pcr | tck | wkc | col | kva | mem | amt | lnk | dvt | pkt | dma | nvs | ckp | sec | obs | pat
  deriving DecidableEq, Repr

/-- A block agent (R16): WKC has one agent for each work core (R164), AMT one whose commands may name a core. -/
inductive Agent where
  | block (b : Block)
  | wc (n : Fin 64)
  | ac (n : Fin 16)
  deriving DecidableEq, Repr

/-- The requester of a BAR0 access (R6): a host function, numbered as in R498, or an Armature core. -/
inductive Req where
  | fn (f : Nat)
  | core (n : Fin 16)
  deriving DecidableEq, Repr

/-- Where an item comes from, and so where its reply goes: a host ring pair, a handle of an Armature core (R325), a
step of a plan with its REPLY_RING (R706), an attention service's ring entry (R229), a persistent slot (R193), an
NVMe submission queue (R531), or the device itself. -/
inductive Origin where
  | ring (r : Nat)
  | core (n : Fin 16) (handle : Nat)
  | step (plan : Nat) (ring : Nat)
  | service (svc : Nat) (entry : Nat)
  | slot (k : Nat)
  | nvme (fn : Nat) (sqid : Nat) (cid : Nat)
  | internal
  deriving DecidableEq, Repr

/-- What every submitted command carries beside its operands: its origin and its tag (R486). -/
structure Submit where
  origin : Origin
  tag : BitVec 32
  deriving DecidableEq, Repr

/-- Sixty-four bytes as eight 64-bit words, word w holding bytes 8w to 8w + 7 (R3): a work descriptor (R128), a
collective request (R174), a DVT operation (R411), a general command (R486), the body of a ledger slot (R24). -/
structure Desc where
  w0 : Word := 0
  w1 : Word := 0
  w2 : Word := 0
  w3 : Word := 0
  w4 : Word := 0
  w5 : Word := 0
  w6 : Word := 0
  w7 : Word := 0
  deriving DecidableEq, Repr

/-- What the sensors and meters give at the close of a Caliper record (R671). -/
structure CaliperSample where
  pkgMw : Nat
  coreMv : Nat
  temps : List Int
  sensorFailed : Bool
  deriving DecidableEq, Repr

/-- The link word of a received DVL frame (R381) but for TYPE and CTX: sequence, cumulative acknowledgement, control symbol
(KIND 0 none, 1 PACE, 2 LINK; LINE or OP; ARG), credit return (VC, frames in units of 8), and how many symbols the FEC corrected
in the frame, at most one in each of its two codewords. -/
structure LinkWord where
  seq : Fin 2048
  ack : Fin 2048
  symKind : Fin 4
  symOp : Fin 64
  symArg : BitVec 8
  crdVc : Fin 2
  crdCount : Fin 8
  fec : Fin 3
  deriving DecidableEq, Repr

/-- The header of a received DVT packet (R403) but for OPCODE: the receiver's connection, FLAGS (0 FIRST, 1 LAST, 2 ACKREQ, 3
ECN_ECHO, 4 RETX, 5 NEED, 6 POISON, 7 NOTIFY), path, NAK reason, PSN, MSN, OFFSET, RKEY, MSG_BYTES; whether the packet carried a CE
mark (R405), and whether it breaks R406 (a nonzero reserved field). -/
structure DvtHead where
  conn : BitVec 20
  flags : BitVec 8
  path : Fin 64
  reason : BitVec 8
  psn : BitVec 32
  msn : BitVec 32
  offset : Word
  rkey : BitVec 32
  msgBytes : BitVec 32
  ce : Bool
  bad : Bool
  deriving DecidableEq, Repr

end Sys2Proof
end

