-- ==== Sys2Proof/Syntax.lean ====
section
/-! DEFINITION. The commands the F960 takes: one constructor for each row of the operation table. -/
namespace Sys2Proof

/-- The commands of the F960, one constructor for each row of the operation table.
The instructions of the Armature cores, which have words of their own (Machine/ArmWord.lean), stand first. -/
inductive Instr where
  /-- ADD (R316): Armature instruction rd := rs1 + rs2. -/
  | add (n : Fin 16) (rd rs1 rs2 : Fin 32)
  /-- SUB (R316): Armature instruction rd := rs1 − rs2. -/
  | sub (n : Fin 16) (rd rs1 rs2 : Fin 32)
  /-- AND (R316): Armature bitwise AND. -/
  | andInsn (n : Fin 16) (rd rs1 rs2 : Fin 32)
  /-- OR (R316): Armature bitwise OR. -/
  | orInsn (n : Fin 16) (rd rs1 rs2 : Fin 32)
  /-- XOR (R316): Armature bitwise XOR. -/
  | xorInsn (n : Fin 16) (rd rs1 rs2 : Fin 32)
  /-- SHL (R316): Armature shift left. -/
  | shl (n : Fin 16) (rd rs1 rs2 : Fin 32)
  /-- SHR (R316): Armature logical shift right. -/
  | shr (n : Fin 16) (rd rs1 rs2 : Fin 32)
  /-- SAR (R316): Armature arithmetic shift right. -/
  | sar (n : Fin 16) (rd rs1 rs2 : Fin 32)
  /-- SLT (R316): Armature signed set-less-than. -/
  | slt (n : Fin 16) (rd rs1 rs2 : Fin 32)
  /-- SLTU (R316): Armature unsigned set-less-than. -/
  | sltu (n : Fin 16) (rd rs1 rs2 : Fin 32)
  /-- MIN (R316): Armature signed minimum. -/
  | minInsn (n : Fin 16) (rd rs1 rs2 : Fin 32)
  /-- MAX (R316): Armature signed maximum. -/
  | maxInsn (n : Fin 16) (rd rs1 rs2 : Fin 32)
  /-- MINU (R316): Armature unsigned minimum. -/
  | minu (n : Fin 16) (rd rs1 rs2 : Fin 32)
  /-- MAXU (R316): Armature unsigned maximum. -/
  | maxu (n : Fin 16) (rd rs1 rs2 : Fin 32)
  /-- MUL (R316): Armature multiply, low 64 bits. -/
  | mul (n : Fin 16) (rd rs1 rs2 : Fin 32)
  /-- MULH (R316): Armature signed multiply, high 64 bits. -/
  | mulh (n : Fin 16) (rd rs1 rs2 : Fin 32)
  /-- MULHU (R316): Armature unsigned multiply, high 64 bits. -/
  | mulhu (n : Fin 16) (rd rs1 rs2 : Fin 32)
  /-- DIV (R316): Armature signed divide, trapping on zero divisor. -/
  | div (n : Fin 16) (rd rs1 rs2 : Fin 32)
  /-- DIVU (R316): Armature unsigned divide. -/
  | divu (n : Fin 16) (rd rs1 rs2 : Fin 32)
  /-- REM (R316): Armature signed remainder. -/
  | rem (n : Fin 16) (rd rs1 rs2 : Fin 32)
  /-- REMU (R316): Armature unsigned remainder. -/
  | remu (n : Fin 16) (rd rs1 rs2 : Fin 32)
  /-- ADDI (R316): Armature add immediate; ADDI s0, s0, 0 is NOP. -/
  | addi (n : Fin 16) (rd rs1 : Fin 32) (imm : BitVec 15)
  /-- ANDI (R316): Armature AND immediate. -/
  | andi (n : Fin 16) (rd rs1 : Fin 32) (imm : BitVec 15)
  /-- ORI (R316): Armature OR immediate. -/
  | ori (n : Fin 16) (rd rs1 : Fin 32) (imm : BitVec 15)
  /-- XORI (R316): Armature XOR immediate. -/
  | xori (n : Fin 16) (rd rs1 : Fin 32) (imm : BitVec 15)
  /-- SLTI (R316): Armature signed compare with immediate. -/
  | slti (n : Fin 16) (rd rs1 : Fin 32) (imm : BitVec 15)
  /-- SLTIU (R316): Armature unsigned compare with immediate. -/
  | sltiu (n : Fin 16) (rd rs1 : Fin 32) (imm : BitVec 15)
  /-- SHI (R316): Armature shift by immediate. -/
  | shi (n : Fin 16) (rd rs1 : Fin 32) (imm : BitVec 15)
  /-- LUI (R316): Armature load upper immediate. -/
  | lui (n : Fin 16) (rd : Fin 32) (imm : BitVec 20)
  /-- LUIH (R316): Armature set bits 63:32 from immediate. -/
  | luih (n : Fin 16) (rd : Fin 32) (imm : BitVec 20)
  /-- LD (R317): Armature load with offset, under the load delay. -/
  | ld (n : Fin 16) (rd rs1 : Fin 32) (sz : Fin 8) (imm : BitVec 12)
  /-- ST (R317): Armature store with offset. -/
  | st (n : Fin 16) (rs rs1 : Fin 32) (sz : Fin 8) (imm : BitVec 12)
  /-- LDP (R317): Armature load with post-increment of the base. -/
  | ldp (n : Fin 16) (rd rs1 : Fin 32) (sz : Fin 8) (imm : BitVec 12)
  /-- STP (R317): Armature store with post-increment of the base. -/
  | stp (n : Fin 16) (rs rs1 : Fin 32) (sz : Fin 8) (imm : BitVec 12)
  /-- LDD (R317): Armature load with pre-decrement of the base. -/
  | ldd (n : Fin 16) (rd rs1 : Fin 32) (sz : Fin 8) (imm : BitVec 12)
  /-- STD (R317): Armature store with pre-decrement of the base. -/
  | std (n : Fin 16) (rs rs1 : Fin 32) (sz : Fin 8) (imm : BitVec 12)
  /-- LDX (R317): Armature indexed load. -/
  | ldx (n : Fin 16) (rd rs1 rs2 : Fin 32) (sz : Fin 8) (sc : Fin 4)
  /-- STX (R317): Armature indexed store. -/
  | stx (n : Fin 16) (rs rs1 rs2 : Fin 32) (sz : Fin 8) (sc : Fin 4)
  /-- STT (R310): Armature tagged store into own local memory. -/
  | stt (n : Fin 16) (rs rs1 : Fin 32) (sz : Fin 8) (imm : BitVec 12)
  /-- AMOADD (R319): Armature atomic add. -/
  | amoadd (n : Fin 16) (rd rs1 rs2 : Fin 32)
  /-- AMOSWP (R319): Armature atomic swap. -/
  | amoswp (n : Fin 16) (rd rs1 rs2 : Fin 32)
  /-- AMOCAS (R319): Armature atomic compare-and-swap. -/
  | amocas (n : Fin 16) (rd rs1 rs2 : Fin 32)
  /-- BEQ (R320): Armature branch if equal. -/
  | beq (n : Fin 16) (rs1 rs2 : Fin 32) (off : BitVec 12)
  /-- BNE (R320): Armature branch if not equal. -/
  | bne (n : Fin 16) (rs1 rs2 : Fin 32) (off : BitVec 12)
  /-- BLT (R320): Armature signed branch if less. -/
  | blt (n : Fin 16) (rs1 rs2 : Fin 32) (off : BitVec 12)
  /-- BGE (R320): Armature signed branch if greater or equal. -/
  | bge (n : Fin 16) (rs1 rs2 : Fin 32) (off : BitVec 12)
  /-- BLTU (R320): Armature unsigned branch if less. -/
  | bltu (n : Fin 16) (rs1 rs2 : Fin 32) (off : BitVec 12)
  /-- BGEU (R320): Armature unsigned branch if greater or equal. -/
  | bgeu (n : Fin 16) (rs1 rs2 : Fin 32) (off : BitVec 12)
  /-- J (R320): Armature jump. -/
  | jump (n : Fin 16) (off : BitVec 25)
  /-- CALL (R338): Armature call under the return-stack mode. -/
  | call (n : Fin 16) (off : BitVec 25)
  /-- JR (R320): Armature jump to register. -/
  | jr (n : Fin 16) (rs1 : Fin 32)
  /-- CALLR (R338): Armature call to register. -/
  | callr (n : Fin 16) (rs1 : Fin 32)
  /-- RET (R338): Armature return from the return stack or s31. -/
  | retInsn (n : Fin 16)
  /-- FADD_D (R322): Armature FP64 add. -/
  | faddD (n : Fin 16) (rd rs1 rs2 : Fin 32)
  /-- FSUB_D (R322): Armature FP64 subtract. -/
  | fsubD (n : Fin 16) (rd rs1 rs2 : Fin 32)
  /-- FMUL_D (R322): Armature FP64 multiply. -/
  | fmulD (n : Fin 16) (rd rs1 rs2 : Fin 32)
  /-- FDIV_D (R322): Armature FP64 divide. -/
  | fdivD (n : Fin 16) (rd rs1 rs2 : Fin 32)
  /-- FSQRT_D (R322): Armature FP64 square root. -/
  | fsqrtD (n : Fin 16) (rd rs1 : Fin 32)
  /-- FMIN_D (R322): Armature FP64 minimum. -/
  | fminD (n : Fin 16) (rd rs1 rs2 : Fin 32)
  /-- FMAX_D (R322): Armature FP64 maximum. -/
  | fmaxD (n : Fin 16) (rd rs1 rs2 : Fin 32)
  /-- FEQ_D (R322): Armature FP64 equality compare. -/
  | feqD (n : Fin 16) (rd rs1 rs2 : Fin 32)
  /-- FLT_D (R322): Armature FP64 less-than compare. -/
  | fltD (n : Fin 16) (rd rs1 rs2 : Fin 32)
  /-- FLE_D (R322): Armature FP64 less-or-equal compare. -/
  | fleD (n : Fin 16) (rd rs1 rs2 : Fin 32)
  /-- FADD_S (R322): Armature paired FP32 add. -/
  | faddS (n : Fin 16) (rd rs1 rs2 : Fin 32)
  /-- FSUB_S (R322): Armature paired FP32 subtract. -/
  | fsubS (n : Fin 16) (rd rs1 rs2 : Fin 32)
  /-- FMUL_S (R322): Armature paired FP32 multiply. -/
  | fmulS (n : Fin 16) (rd rs1 rs2 : Fin 32)
  /-- FDIV_S (R322): Armature paired FP32 divide. -/
  | fdivS (n : Fin 16) (rd rs1 rs2 : Fin 32)
  /-- FSQRT_S (R322): Armature paired FP32 square root. -/
  | fsqrtS (n : Fin 16) (rd rs1 : Fin 32)
  /-- FMIN_S (R322): Armature paired FP32 minimum. -/
  | fminS (n : Fin 16) (rd rs1 rs2 : Fin 32)
  /-- FMAX_S (R322): Armature paired FP32 maximum. -/
  | fmaxS (n : Fin 16) (rd rs1 rs2 : Fin 32)
  /-- FEQ_S (R322): Armature paired FP32 equality compare. -/
  | feqS (n : Fin 16) (rd rs1 rs2 : Fin 32)
  /-- FLT_S (R322): Armature paired FP32 less-than compare. -/
  | fltS (n : Fin 16) (rd rs1 rs2 : Fin 32)
  /-- FLE_S (R322): Armature paired FP32 less-or-equal compare. -/
  | fleS (n : Fin 16) (rd rs1 rs2 : Fin 32)
  /-- CVT_D_I (R322): Armature integer to FP64 conversion. -/
  | cvtDI (n : Fin 16) (rd rs1 : Fin 32)
  /-- CVT_I_D (R322): Armature FP64 to integer conversion, saturating. -/
  | cvtID (n : Fin 16) (rd rs1 : Fin 32)
  /-- CVT_S_D (R322): Armature two FP64 values to an FP32 pair. -/
  | cvtSD (n : Fin 16) (rd rs1 rs2 : Fin 32)
  /-- CVT_D_S0 (R322): Armature lane 0 of an FP32 pair to FP64. -/
  | cvtDS0 (n : Fin 16) (rd rs1 : Fin 32)
  /-- CVT_D_S1 (R322): Armature lane 1 of an FP32 pair to FP64. -/
  | cvtDS1 (n : Fin 16) (rd rs1 : Fin 32)
  /-- MOV (R323): Armature register copy with tag. -/
  | mov (n : Fin 16) (rd rs1 : Fin 32)
  /-- TAGOF (R323): Armature read of a register's tag. -/
  | tagof (n : Fin 16) (rd rs1 : Fin 32)
  /-- RETAG (R306): Armature copy with a new tag under the allowed conversions. -/
  | retag (n : Fin 16) (rd rs1 : Fin 32) (tag : Fin 32)
  /-- CLR (R323): Armature clear of a register to NUL. -/
  | clr (n : Fin 16) (rd : Fin 32)
  /-- MACD (R331): Armature dual-fetch multiply-accumulate, issued without waiting for its fetches. -/
  | macd (n : Fin 16) (acc : Fin 4) (mode : Fin 4) (rs1 rs2 : Fin 32)
  /-- ACZ (R323): Armature accumulator clear. -/
  | acz (n : Fin 16) (acc : Fin 4)
  /-- ACRD_D (R323): Armature read of an accumulator half as F64. -/
  | acrdD (n : Fin 16) (rd : Fin 32) (acc : Fin 4) (half : Bool)
  /-- ACRD_I (R323): Armature read of an accumulator half as INT. -/
  | acrdI (n : Fin 16) (rd : Fin 32) (acc : Fin 4) (half : Bool)
  /-- ACWR (R323): Armature write of an accumulator half. -/
  | acwr (n : Fin 16) (acc : Fin 4) (half : Bool) (rs1 : Fin 32)
  /-- WQ (R326): Armature queue of a work descriptor, returning a DESC handle. -/
  | wq (n : Fin 16) (rd rs1 rs2 : Fin 32)
  /-- WQK (R326): Armature queue of a bulk-cipher descriptor with a key handle. -/
  | wqk (n : Fin 16) (rd rs1 rs2 : Fin 32)
  /-- WSEQ (R327): Armature wait for an item's sequence number. -/
  | wseq (n : Fin 16) (rd rs1 : Fin 32)
  /-- WWAIT (R327): Armature wait for an item's end-state reply. -/
  | wwait (n : Fin 16) (rd rs1 rs2 : Fin 32)
  /-- WPOLL (R323): Armature poll for an item's end-state reply. -/
  | wpoll (n : Fin 16) (rd rs1 : Fin 32)
  /-- WFREE (R325): Armature release of a DESC handle. -/
  | wfree (n : Fin 16) (rs1 : Fin 32)
  /-- KOPEN (R328): Armature request for a key handle from the security island. -/
  | kopen (n : Fin 16) (rd rs1 : Fin 32)
  /-- LACC (R329): Armature creation of an internal ledger item, stalling until accepted. -/
  | lacc (n : Fin 16) (rd rs1 rs2 : Fin 32)
  /-- LCMT (R330): Armature commit of an internal item, optionally with a redo record. -/
  | lcmt (n : Fin 16) (rd rs1 rs2 : Fin 32)
  /-- LWDR (R330): Armature withdrawal of an internal item. -/
  | lwdr (n : Fin 16) (rd rs1 : Fin 32)
  /-- CSRR (R324): Armature CSR read. -/
  | csrr (n : Fin 16) (rd : Fin 32) (csr : Fin 4096)
  /-- CSRW (R324): Armature CSR write. -/
  | csrw (n : Fin 16) (csr : Fin 4096) (rs1 : Fin 32)
  /-- CSRS (R324): Armature CSR bit set. -/
  | csrs (n : Fin 16) (rd : Fin 32) (csr : Fin 4096) (rs1 : Fin 32)
  /-- CSRC (R324): Armature CSR bit clear. -/
  | csrc (n : Fin 16) (rd : Fin 32) (csr : Fin 4096) (rs1 : Fin 32)
  /-- ERET (R340): Armature return from trap, completing a held load when LDPEND is valid. -/
  | eret (n : Fin 16)
  /-- FENCE_INSN (R312): Armature FENCE instruction completing earlier loads and stores before later ones. -/
  | fenceInsn (n : Fin 16)
  /-- IFENCE (R313): Armature instruction making written code visible to fetch. -/
  | ifenceInsn (n : Fin 16)
  /-- WAITE (R324): Armature wait until an enabled interrupt is pending. -/
  | waite (n : Fin 16)
  /-- TRAP (R324): Armature software trap with cause SOFT. -/
  | trap (n : Fin 16) (code : Fin 1024)
  /-- BRK (R324): Armature breakpoint trap. -/
  | brk (n : Fin 16)
  /-- REGISTER_WRITE (R5): A completed BAR0 or MMIO write to a register or field with no row of its own updates its RW fields, subject to the access codes and R8. -/
  | registerWrite (by_ : Req) (addr : Nat) (wide : Bool) (value : Word)
  /-- INVALID_BAR0_ACCESS (R5): A BAR0 access that is not 32 or 64 bits wide and naturally aligned is discarded, or read as 0xFFFF_FFFF. -/
  | invalidBar0Access (by_ : Req) (addr : Nat) (bytes : Nat) (write : Bool)
  /-- HELD_LOWER_HALF_WRITE (R6): A 32-bit write to the lower half of a 64-bit word is held for its requester until the upper half is written. -/
  | heldLowerHalfWrite (by_ : Req) (addr : Nat) (value : BitVec 32)
  /-- UPPER_HALF_WRITE (R6): A 32-bit write to the upper half of a 64-bit word writes the whole word, using the held lower half or the stored one. -/
  | upperHalfWrite (by_ : Req) (addr : Nat) (value : BitVec 32)
  /-- LATCHING_LOWER_HALF_READ (R6): A 32-bit read of a lower half latches the upper half for the requester and clears the RC fields of the word. -/
  | latchingLowerHalfRead (by_ : Req) (addr : Nat)
  /-- RC_FIELD_READ (R11): A read of a register with RC fields returns their value and clears them, keeping any event of the same cycle. -/
  | rcFieldRead (by_ : Req) (addr : Nat) (wide : Bool)
  /-- STATUS (R18): Agent command returning the block state and its active fault sources. -/
  | status (agent : Agent)
  /-- FENCE (R19): Agent command stopping new work in a block and abandoning its uncommitted items back to ACCEPTED. -/
  | fence (agent : Agent)
  /-- FENCE_COMPLETE (R19): The fence finishes within 2 µs: credits are returned and the agent reports FENCED. -/
  | fenceComplete (agent : Agent)
  /-- UNFENCE (R18): Agent command returning a fenced block to RUNNING once its faults are cleared. -/
  | unfence (agent : Agent)
  /-- RESET (R18): Agent command resetting a block, fencing it first or refusing when its chapter requires FENCED. -/
  | reset (agent : Agent)
  /-- GATE (R655): Agent command removing power from a fenced block behind isolation clamps. -/
  | gate (agent : Agent)
  /-- UNGATE (R18): Agent command restoring power to a block, which returns FENCED. -/
  | ungate (agent : Agent)
  /-- SAMPLE (R18): Agent command latching the counter bank outside the tick for hang analysis. -/
  | sample (agent : Agent)
  /-- INJECT (R18): Agent command raising a chosen fault source of the block, taken only in TEST mode. -/
  | inject (agent : Agent) (source : Fin 768) (detail : BitVec 16)
  /-- ITEM_ACCEPTED (R30): The ledger entry and body of an item are complete in both copies, and the item is accepted with its sequence number. -/
  | itemAccepted
  /-- COMMIT_RECORD_TAKEN (R34): The ledger unit takes an engine's commit record, or holds it under R41 while predecessors are unfinished. -/
  | commitRecordTaken (seq : Nat)
  /-- COMMIT_POINT (R32): The COMMITTED entry write completes in both copies, after which the item's reply is due. -/
  | commitPoint (seq : Nat)
  /-- WITHDRAWAL_APPLIED (R33): A withdrawal reaches an item's entry and moves it to WITHDRAWN, or is answered ALREADY_DONE after the commit point. -/
  | withdrawalApplied (seq : Nat) (code : Nat)
  /-- ENTRY_CHECK_FAIL (R25): An entry whose CHECK fails in one copy is read from the other copy and rewritten. -/
  | entryCheckFail (slot : Fin 2097152) (copy : Fin 2)
  /-- LEDGER_STALL (R27): Acceptance has stalled for lack of a FREE slot for 1,000 consecutive frame cycles. -/
  | ledgerStall (cycles : Nat)
  /-- MIRROR_PASS_COMPLETE (R28): The mirror header write of a pass is acknowledged and the pass completes. -/
  | mirrorPassComplete
  /-- LEDGER_COPY_FAIL (R29): One ledger copy fails; the surviving copy carries alone and a rebuild into a relocation area starts. -/
  | ledgerCopyFail (copy : Fin 2) (slot : Fin 2097152) (body : Bool)
  /-- LEDGER_REBUILD_COMPLETE (R29): The failed ledger copy has been rebuilt and both copies serve again. -/
  | ledgerRebuildComplete
  /-- LEDGER_LOST (R48): Both ledger copies are lost; the device accepts and commits nothing until the next chip reset. -/
  | ledgerLost
  /-- RECOVERY_REPORT_BUILD (R48): At start after possible loss, the device reads the mirror header and writes the recovery report before initialising the ledger. -/
  | recoveryReportBuild (decrypts : Bool)
  /-- GLB_RECOVERY_ACK (R48): A write of GLB_RECOVERY.ACK ends the ASK condition of the recovery report. -/
  | glbRecoveryAck
  /-- GLB_ATTN_NOTE_CLEAR (R52): A W1C write of GLB_ATTN_NOTE ends the NOTE condition of the named classes. -/
  | glbAttnNoteClear (mask : BitVec 16)
  /-- ATTENTION_REPLY (R51): After ATTN rises, an attention reply is written to ring pair 0 of each enabled function that has had no reply since. -/
  | attentionReply (fn : Nat)
  /-- CANCEL (R35): General command withdrawing the item named by sequence, answered OK, ALREADY_DONE or ACCESS_VIOLATION. -/
  | cancel (src : Submit) (target : Nat)
  /-- NOP (R487): General command that commits at acceptance. -/
  | nop (src : Submit)
  /-- TICK (R72): Tick boundary at frame cycle 0: TCK_NUMBER increments, counters latch, lane steering and carried-item marking occur. -/
  | tick
  /-- SHAPER_CALENDAR_ADVANCE (R466): At frame cycle 2 the shaper calendar advances one slot and moves due entries into the fine ring. -/
  | shaperCalendarAdvance
  /-- LEDGER_PUBLISH (R72): At frame cycle 4 GLB_LEDGER_HEAD and GLB_LEDGER_LOW are published. -/
  | ledgerPublish
  /-- CALIPER_RECORD_CLOSE (R671): At frame cycle 8 the Caliper record of the old frame is closed and written to the Caliper ring. -/
  | caliperRecordClose (sample : CaliperSample)
  /-- PENDING_FRIEZE_SWAP (R82): At frame cycle 16 the shadow Frieze becomes active, committing plan loads, unloads and resumes. -/
  | pendingFriezeSwap
  /-- CARRIED_ITEMS_RESUME (R89): At frame cycle 64 carried items resume ahead of the plan's new slots. -/
  | carriedItemsResume
  /-- FRIEZE_SLOT_FIRE (R87): A Frieze slot fires at its OFFSET and phase, or counts an overrun when its previous firing still runs. -/
  | friezeSlotFire (slot : Fin 1024)
  /-- TICK_MARKER (R63): A received K28.1 marker aligns the local tick towards the master's and is forwarded. -/
  | tickMarker (error : Int)
  /-- TICK_CELL (R57): A received TICK cell gives the tick number, period and master position. -/
  | tickCell (crcOk : Bool) (number : Nat) (period : Nat) (master : Fin 16)
  /-- FLAGS_CELL (R59): A FLAGS cell is received, its flags acted upon, the own flags ORed in and the cell forwarded. -/
  | flagsCell (crcOk : Bool) (flags : BitVec 8)
  /-- PROBE_CELL (R62): A device adds ring-table delays to a PROBE, takes its offset from the master and forwards it. -/
  | probeCell (crcOk : Bool) (delay : Nat) (last : Fin 16)
  /-- PROBE_RETURN (R62): The master compares a returned PROBE total with its loop delay and may raise DELAY_MISMATCH. -/
  | probeReturn (total : Nat) (loop : Nat)
  /-- PERIODIC_PROBE (R62): The master sends a PROBE once 65,536 ticks pass without one. -/
  | periodicProbe
  /-- JOINED (R69): MSG JOINED reaches the master, which sends a PROBE. -/
  | joined (source : Fin 16)
  /-- LEAVING (R70): MSG LEAVING from a device that is leaving the ring is received. -/
  | leaving (source : Fin 16)
  /-- OWN_CELL_SEND (R60): After 16 idle characters outside the join window a device sends its own cell, buffering arriving characters. -/
  | ownCellSend (held : List (BitVec 8))
  /-- MARKER_MISS (R64): No marker arrives within 100 ns of the local tick; the device ticks alone and counts a miss. -/
  | markerMiss
  /-- JOIN_SWITCHOVER (R69): At 200 ns into the frame after the join is asked, the tick unit opens the bypass and starts forwarding. -/
  | joinSwitchover
  /-- LEAVE_SWITCHOVER (R70): At 200 ns into the frame after MSG LEAVING, the bypass switch closes. -/
  | leaveSwitchover
  /-- RELOCK (R66): TCK_CTRL.RELOCK adopts a lower received tick number after TICK_BACKWARD. -/
  | relock
  /-- LEAVE (R70): TCK_CTRL.LEAVE starts a controlled leave by sending MSG LEAVING. -/
  | leave
  /-- JOIN (R69): TCK_CTRL.JOIN asks the tick unit to join the ring. -/
  | join
  /-- PROBE (R62): TCK_CTRL.PROBE makes the master send a PROBE. -/
  | probe
  /-- RING_PROBE (R91): TCK agent command sending a PROBE from the master. -/
  | ringProbe
  /-- RING_JOIN (R91): TCK agent command starting a ring join. -/
  | ringJoin
  /-- RING_LEAVE (R91): TCK agent command starting a controlled ring leave. -/
  | ringLeave
  /-- FRIEZE_SWAP (R91): TCK agent command, used by the loader, scheduling the shadow Frieze swap. -/
  | friezeSwap
  /-- PLAN_LOAD (R75): Host command checking a plan image, admitting it and granting cores; it commits at the next Frieze swap. -/
  | planLoad (src : Submit) (image : Nat)
  /-- PLAN_UNLOAD (R83): Host command removing a plan's slots at the next Frieze swap while its items drain. -/
  | planUnload (src : Submit) (plan : Nat)
  /-- PLAN_RESUME (R84): Host command returning a FAULTED or SUSPENDED plan to ACTIVE after readmission. -/
  | planResume (src : Submit) (plan : Nat)
  /-- WORK_DESCRIPTOR_SUBMIT (R130): A work descriptor from a ring, core, slot or step is checked before acceptance and accepted or refused. -/
  | workDescriptorSubmit (src : Submit) (x : Desc)
  /-- REDUCE_SUM (R136): Operator adding A, B and optionally D elementwise and writing the scaled result. -/
  | reduceSum (seq : Nat) (core : Fin 64)
  /-- REDUCE_MAX (R136): Operator taking the elementwise maximum of its operands. -/
  | reduceMax (seq : Nat) (core : Fin 64)
  /-- REDUCE_MIN (R136): Operator taking the elementwise minimum of its operands. -/
  | reduceMin (seq : Nat) (core : Fin 64)
  /-- REDUCE_ARRIVE (R137): Operator accumulating tagged contributions as they arrive and writing the scaled sum after the last. -/
  | reduceArrive (seq : Nat) (core : Fin 64)
  /-- ATTN_PARTIAL (R138): Operator computing partial attention O, m and L over a list of KV blocks. -/
  | attnPartial (seq : Nat) (core : Fin 64)
  /-- DOT_ROWS (R140): Operator writing scaled dot products of rows with query vectors. -/
  | dotRows (seq : Nat) (core : Fin 64)
  /-- CONVERT (R141): Operator converting scaled A into the destination format. -/
  | convert (seq : Nat) (core : Fin 64)
  /-- QUANT_EF (R142): Operator quantising a residual-corrected input and writing the new residual. -/
  | quantEf (seq : Nat) (core : Fin 64)
  /-- TOPK (R143): Operator selecting the top K elements of each window with their indices. -/
  | topk (seq : Nat) (core : Fin 64)
  /-- TOPK_EF (R144): Operator selecting top-K of a residual-corrected input by magnitude and writing the residual. -/
  | topkEf (seq : Nat) (core : Fin 64)
  /-- SHA256 (R145): Operator writing a SHA-256 digest per chunk of A. -/
  | sha256 (seq : Nat) (core : Fin 64)
  /-- CRC32C (R145): Operator writing a CRC-32C per chunk of A. -/
  | crc32c (seq : Nat) (core : Fin 64)
  /-- LZ4_PACK (R146): Operator compressing A into one LZ4 block. -/
  | lz4Pack (seq : Nat) (core : Fin 64)
  /-- LZ4_UNPACK (R146): Operator decoding one LZ4 block. -/
  | lz4Unpack (seq : Nat) (core : Fin 64)
  /-- COPY (R147): Operator copying LEN bytes from A to D. -/
  | copy (seq : Nat) (core : Fin 64)
  /-- GATHER (R147): Operator copying the blocks of a list to consecutive bytes. -/
  | gather (seq : Nat) (core : Fin 64)
  /-- SCATTER (R147): Operator copying consecutive bytes to the blocks of a list. -/
  | scatter (seq : Nat) (core : Fin 64)
  /-- FILL (R147): Operator writing a 64-bit pattern over a range. -/
  | fill (seq : Nat) (core : Fin 64)
  /-- ITEM_FINISH (R152): The last plain write of an item is acknowledged and its engine issues the commit record. -/
  | itemFinish (seq : Nat)
  /-- REDO_COPY_COMPLETE (R153): The redo area copy of an in-place item finishes and its reply is written. -/
  | redoCopyComplete (seq : Nat) (core : Fin 64)
  /-- OPERAND_BUFFER_CRC (R126): An operand-buffer line fails its CRC; the line is refetched or the step recomputed. -/
  | operandBufferCrc (core : Fin 64) (line : Fin 16384 × Fin 4)
  /-- WC_UNIT_PARITY (R166): A datapath parity error in a unit fences the core. -/
  | wcUnitParity (core : Fin 64)
  /-- WC_QUEUE_PARITY (R166): A unit queue parity error fences the core. -/
  | wcQueueParity (core : Fin 64)
  /-- WC_ITEM_HANG (R166): An item runs longer than WKC_ITEM_LIMIT and the core is fenced. -/
  | wcItemHang (core : Fin 64) (unit : Fin 4)
  /-- WC_NOC_CREDIT (R166): A mesh credit is not returned within 10 µs and the core is fenced. -/
  | wcNocCredit (core : Fin 64)
  /-- WC_GATE_FAIL (R166): A core misses power-good within 20 µs of UNGATE and is fenced. -/
  | wcGateFail (core : Fin 64)
  /-- PROMOTE (R164): WKC command placing a spare into a named grant position. -/
  | promote (core : Fin 64) (plan : Nat) (position : Nat)
  /-- SELFTEST (R164): WKC command starting the 150 µs built-in test of a fenced core. -/
  | selftest (core : Fin 64)
  /-- SELFTEST_COMPLETE (R164): The self test ends and WKC_STATE.SELFTEST shows PASS or FAIL. -/
  | selftestComplete (core : Fin 64) (pass : Bool)
  /-- RETIRE (R163): WKC command removing a fenced core from the pool until cold start and gating it. -/
  | retire (core : Fin 64)
  /-- ALL_REDUCE (R169): Collective request reducing every element over all ranks, optionally compressed. -/
  | allReduce (src : Submit) (x : Desc)
  /-- REDUCE_SCATTER (R169): Collective request giving each rank its share of the all-reduce result. -/
  | reduceScatter (src : Submit) (x : Desc)
  /-- ALL_GATHER (R169): Collective request concatenating all inputs to every rank. -/
  | allGather (src : Submit) (x : Desc)
  /-- BROADCAST (R169): Collective request copying the root's input to every rank. -/
  | broadcast (src : Submit) (x : Desc)
  /-- REDUCE (R169): Collective request reducing to the root only. -/
  | reduce (src : Submit) (x : Desc)
  /-- ALL_TO_ALL (R169): Collective request exchanging blocks between all ranks. -/
  | allToAll (src : Submit) (x : Desc)
  /-- SEND (R177): Collective request delivering its input to the matching receive. -/
  | send (src : Submit) (x : Desc)
  /-- RECEIVE (R177): Collective request taking the input of the matching send. -/
  | receive (src : Submit) (x : Desc)
  /-- SEND_MATCH_TIMEOUT (R177): A send without a matching receive is withdrawn with TIMEOUT. -/
  | sendMatchTimeout (seq : Nat)
  /-- GROUP_SET (R172): Host command writing a group record. -/
  | groupSet (src : Submit) (record : Nat)
  /-- GROUP_CLEAR (R172): Host command clearing a READY group. -/
  | groupClear (src : Submit) (group : Nat)
  /-- SLOT_ARM (R191): Host command checking and arming a persistent slot, committing at the tick it becomes ARMED. -/
  | slotArm (src : Submit) (x : Desc)
  /-- SLOT_DISARM (R196): Host command disarming a slot at a tick and replying when its firings have ended. -/
  | slotDisarm (src : Submit) (slot : Nat)
  /-- SLOT_FORCE_DISARM (R206): COL agent command withdrawing a slot's uncommitted firings and leaving it EMPTY. -/
  | slotForceDisarm (slot : Fin 256)
  /-- TRIGGER (R194): A TRIGGER pace symbol from a member fires the slot's firing or is checked against the expected number. -/
  | trigger (port : Fin 8) (line : Fin 64) (arg : BitVec 8)
  /-- STREAM_FRAME (R178): A DVL STREAM frame delivers a contribution to the reduce unit that owns its stripe. -/
  | streamFrame (member stream offset : Nat) (data : List (BitVec 8)) (poison : Bool) (link : Option LinkWord)
  /-- FIRING_COMPLETE (R201): Every granule write of a firing is acknowledged and the firing's commit record is issued. -/
  | firingComplete (slot : Fin 256) (number : Nat) (latency : Nat)
  /-- FIRING_TIMEOUT (R197): A firing lacks contributions after COL_SLOT_TIMEOUT and is withdrawn; the slot enters FAULTED. -/
  | firingTimeout (slot : Fin 256) (number : Nat)
  /-- SEQ_OPEN (R216): Host command opening a KV sequence with its runs and zeroed summary areas. -/
  | seqOpen (src : Submit) (x : Desc)
  /-- SEQ_CLOSE (R216): Host command dropping every block of a sequence and freeing its runs. -/
  | seqClose (src : Submit) (sid : Nat)
  /-- KV_PUT (R222): Host command storing one KV block and its summary row in a tier pool. -/
  | kvPut (src : Submit) (from_ : Nat) (sumSrc : Nat) (sid : Nat) (layer : Nat) (block : Nat) (tokens : Nat) (tier : Nat)
  /-- KV_DROP (R226): Host command setting the map entries of a block range to FREE. -/
  | kvDrop (src : Submit) (sid : Nat) (layer : Nat) (first : Nat) (last : Nat)
  /-- SVC_BIND (R228): Host command binding an attention service with its rings and pace lines. -/
  | svcBind (src : Submit) (record : Nat)
  /-- SVC_UNBIND (R240): Host command unbinding a service and withdrawing its uncommitted queries. -/
  | svcUnbind (src : Submit) (service : Nat)
  /-- MAP_COMPACT (R248): Host command starting block-map compaction, answered DEFERRED when one runs. -/
  | mapCompact (src : Submit)
  /-- QUERY (R229): A QUERY pace symbol marks a ring entry pending and the query is checked, accepted and run. -/
  | query (port : Fin 8) (line : Fin 64) (arg : BitVec 8)
  /-- HEAT_SWEEP (R244): The periodic sweep halves block heat and demotes cold blocks. -/
  | heatSweep
  /-- BLOCK_MOVE (R246): The block mover allocates target cells and starts copying a queued block. -/
  | blockMove
  /-- BLOCK_MOVE_COMPLETE (R246): A block copy ends; the mover confirms the entry and writes the new address, or drops the move. -/
  | blockMoveComplete
  /-- COMPACTION_COPY_DONE (R248): Compaction finishes copying runs into the inactive version and enters DRAIN. -/
  | compactionCopyDone
  /-- COMPACTION_DRAIN_DONE (R248): At most 1,024 logged writes remain and compaction enters SWITCH. -/
  | compactionDrainDone
  /-- COMPACTION_SWITCH_DONE (R250): The log is applied, ACTIVE flips and compaction enters RETIRE. -/
  | compactionSwitchDone
  /-- COMPACTION_RESTART (R250): An abandoned compaction restarts 1,024 ticks later. -/
  | compactionRestart
  /-- MOVE_PAUSE (R253): KVA agent command pausing the block mover. -/
  | movePause
  /-- MOVE_RESUME (R253): KVA agent command resuming the block mover. -/
  | moveResume
  /-- COMPACT_ABANDON (R253): KVA agent command abandoning compaction without counting an abandon. -/
  | compactAbandon
  /-- MERGE_ENTRY_FLUSH (R261): A Plinth merge entry is written to the array when full, idle 32 cycles, evicted or drained. -/
  | mergeEntryFlush (word : Nat)
  /-- PATROL_SCRUB (R266): The patrol scrub reads its per-frame share of initialised Plinth words, correcting or poisoning them. -/
  | patrolScrub
  /-- SPARE_BANK_READY (R268): The spare bank's poison fill ends and waiting accesses proceed. -/
  | spareBankReady (bank : Fin 512)
  /-- MEM_FLIP_ARM (R270): A write setting MEM_FLIP_CTRL.ARM arms the check-bit flip for the next write to the target word. -/
  | memFlipArm (value : BitVec 32)
  /-- PAGE_MAP (R290): Host command mapping paged-range pages to zeroed tier pages. -/
  | pageMap (src : Submit) (addr : Nat) (pages : Nat) (tier : Nat) (pin : Nat)
  /-- PAGE_UNMAP (R291): Host command unmapping pages, their tier pages reclaimed after LOW passes H. -/
  | pageUnmap (src : Submit) (addr : Nat) (pages : Nat)
  /-- PAGE_PIN (R290): Host command pinning or unpinning pages, moving them to a tier if needed. -/
  | pagePin (src : Submit) (addr : Nat) (pages : Nat) (tier : Nat) (pin : Nat)
  /-- MEM_INIT (R274): Host command filling whole 64 KiB pages and marking them initialised. -/
  | memInit (src : Submit) (addr : Nat) (length : Nat) (pattern : Word) (force : Nat)
  /-- SRAM_CRC (R277): A core-die SRAM line fails its CRC and is refetched, recomputed or poisoned. -/
  | sramCrc (addr : Nat)
  /-- NEAR_CRC (R281): A near-tier line fails its CRC after retries and is poisoned. -/
  | nearCrc (addr : Nat)
  /-- RETRAIN_WINDOW_END (R282): A GDDR7 retraining window ends and waiting accesses to the channel proceed. -/
  | retrainWindowEnd (chan : Fin 24) (pass : Bool)
  /-- CXL_DEVICE_TRAINED (R285): A CXL device trains and its usable capacity joins the Quarry. -/
  | cxlDeviceTrained (dev : Fin 8) (units : Nat)
  /-- QUARRY_DEVICE_FAIL (R287): A CXL device that fails to retrain or reports a fatal error is retired. -/
  | quarryDeviceFail (dev : Fin 8)
  /-- TRANSLATION_MISS (R289): A paged-range access misses the translation cache and completes after the page-table read. -/
  | translationMiss (page : Fin 16777216)
  /-- MIGRATION_SWEEP (R292): The page sweep decays heat and queues page promotions and demotions. -/
  | migrationSweep
  /-- PAGE_MIGRATION (R293): The migration engine starts moving a queued page, marking it MIGRATING. -/
  | pageMigration
  /-- PAGE_MIGRATION_COMPLETE (R293): A page copy ends and the entry is switched to the new tier page. -/
  | pageMigrationComplete
  /-- SCRUB_PASS (R297): MEM agent command restarting the patrol scrub. -/
  | scrubPass
  /-- MIG_PAUSE (R297): MEM agent command pausing page migration. -/
  | migPause
  /-- MIG_RESUME (R297): MEM agent command resuming page migration. -/
  | migResume
  /-- RETIRE_CHANNEL (R297): MEM agent command retiring a named GDDR7 channel. -/
  | retireChannel (chan : Fin 24)
  /-- RETIRE_QUARRY (R297): MEM agent command retiring a named CXL device. -/
  | retireQuarry (dev : Fin 8)
  /-- MACD_COMPLETE (R334): A MACD's fetches return and its accumulation applies, or a deferred trap is taken. -/
  | macdComplete (n : Fin 16)
  /-- LOAD_DATA_RETURN (R336): A load's data returns and is written to its destination after the load-delay slot. -/
  | loadDataReturn (n : Fin 16)
  /-- INTERRUPT_TAKEN (R343): An enabled pending interrupt, or NMI on AC0, is taken between instructions. -/
  | interruptTaken (n : Fin 16)
  /-- COMMAND_DISPATCH (R356): A firmware-served command is placed in its serving core's inbox and DOORBELL raised. -/
  | commandDispatch (ring : Nat) (entry : Desc)
  /-- ACCEPT (R357): AMT_CMD operation accepting a named inbox entry. -/
  | accept (n : Fin 16)
  /-- REFUSE (R357): AMT_CMD operation refusing an inbox entry with sequence 0. -/
  | refuse (n : Fin 16)
  /-- END (R357): AMT_CMD operation ending an accepted item with a code and reply bytes. -/
  | endItem (n : Fin 16)
  /-- AMT_MSG (R361): A write ORs into a core's message word and raises MESSAGE. -/
  | amtMsg (n : Fin 16) (value : Word)
  /-- AMT_WDOG_PET (R364): A write restarts the watchdog of a core. -/
  | amtWdogPet (n : Fin 16)
  /-- AC_WDOG (R364): A core's watchdog expires and the core crashes into its restart sequence. -/
  | acWdog (n : Fin 16)
  /-- CORE_RESTART_COMPLETE (R364): A restarted core has reloaded and taken its resume list. -/
  | coreRestartComplete (n : Fin 16)
  /-- CORE_RESTART (R376): AMT agent command crashing a core into its restart sequence. -/
  | coreRestart (n : Fin 16)
  /-- CORE_RETIRE (R376): AMT agent command retiring a core. -/
  | coreRetire (n : Fin 16)
  /-- FIRMWARE_START (R352): The firmware image is verified, copied and AC0 released to load and start all cores. -/
  | firmwareStart
  /-- FW_DOWNLOAD (R370): Host command copying image bytes into the staging buffer. -/
  | fwDownload (src : Submit) (from_ off len : Nat)
  /-- FW_STAGE (R371): Host command verifying the staged image and writing it to the inactive slot. -/
  | fwStage (src : Submit) (length : Nat) (flashOk : Bool)
  /-- FW_ACTIVATE (R372): Host command making a staged slot active at reset or live. -/
  | fwActivate (src : Submit) (slot mode : BitVec 8)
  /-- ACTIVATION_DEFERRAL_END (R373): A deferred activation proceeds after 256 ticks without an emergency. -/
  | activationDeferralEnd
  /-- CORE_SWITCH (R375): During live activation a core reaches an item boundary and restarts on the incoming image. -/
  | coreSwitch (n : Fin 16)
  /-- WRITE_FRAME (R382): A DVL WRITE frame writes its lines to device memory. -/
  | writeFrame (p : Fin 12) (w : LinkWord) (addr : BitVec 38) (lines rsvd : Fin 4) (flit : List (BitVec 8))
  /-- WRITE_HP_FRAME (R381): A DVL WRITE_HP frame writes its lines on VC0. -/
  | writeHpFrame (p : Fin 12) (w : LinkWord) (addr : BitVec 38) (lines rsvd : Fin 4) (flit : List (BitVec 8))
  /-- READ_REQ_FRAME (R382): A DVL READ_REQ frame carries up to 8 read requests. -/
  | readReqFrame (p : Fin 12) (w : LinkWord) (count : Fin 8) (flit : BitVec 39 × List (BitVec 8))
  /-- READ_CPL_FRAME (R381): A DVL READ_CPL frame returns read data for a tag. -/
  | readCplFrame (p : Fin 12) (w : LinkWord) (lines : Fin 4) (offset : BitVec 24) (addr : BitVec 45) (flit : List (BitVec 8))
  /-- DVT_FRAME (R404): A DVL frame of TYPE 6 carries part of a DVT packet. -/
  | dvtFrame (p : Fin 12) (w : LinkWord) (first last : Bool) (flit : List (BitVec 8))
  /-- TAG_FRAME (R386): A DVL TAG frame carries the GCM tag of a record, which is verified. -/
  | tagFrame (p : Fin 12) (w : LinkWord) (counter : BitVec 42 × BitVec 48) (phase : Fin 2) (tagOk : Bool)
  /-- CTRL_FRAME (R381): A DVL CTRL frame carries a control symbol with an empty flit. -/
  | ctrlFrame (p : Fin 12) (w : LinkWord × Fin 8 × BitVec 42)
  /-- FRAME_RECEIVE_FAIL (R384): A frame failing FEC or CRC, or out of sequence, is discarded and a NAK sent. -/
  | frameReceiveFail (p : Fin 12)
  /-- RECORD_CLOSE (R386): A GCM record closes after 512 frames or at an idle slot and its TAG frame is sent. -/
  | recordClose (p : Fin 12)
  /-- NAK (R384): A received NAK symbol makes the sender resend from ACK + 1. -/
  | nak (p : Fin 12)
  /-- REPLAY_TIMEOUT (R384): 2 µs pass with unacknowledged frames and no ACK advance, and the sender resends. -/
  | replayTimeout (p : Fin 12)
  /-- RETRAIN_COMPLETE (R385): Retraining ends and the port resumes, or the port goes DOWN. -/
  | retrainComplete (p : Fin 12) (ok : Bool)
  /-- UNHELD_PACE_SYMBOL (R388): A PACE symbol on a line held by nothing for receiving is dropped and counted. -/
  | unheldPaceSymbol (p : Fin 12) (line : Fin 64)
  /-- STEER_PREP (R389): A received STEER_PREP makes the transmitter mirror a position onto the spare. -/
  | steerPrep (p : Fin 12) (pos : Fin 16)
  /-- STEER_DONE (R389): A received STEER_DONE makes the transmitter send training pattern on the lane. -/
  | steerDone (p : Fin 12) (pos : Fin 16)
  /-- RETURN_PREP (R389): A received RETURN_PREP makes the transmitter send the position on lane and spare. -/
  | returnPrep (p : Fin 12) (pos : Fin 16)
  /-- RETURN_DONE (R389): A received RETURN_DONE lets the spare go idle. -/
  | returnDone (p : Fin 12) (pos : Fin 16)
  /-- SPARE (R392): A received SPARE makes the transmitter move a failed position to the spare. -/
  | spare (p : Fin 12) (pos : Fin 16)
  /-- SPARE_TRAIN (R389): A received SPARE_TRAIN makes the transmitter send training pattern on the idle spare. -/
  | spareTrain (p : Fin 12)
  /-- HALF (R394): A received HALF makes both ends stripe over 8 positions. -/
  | half (p : Fin 12) (half : BitVec 8)
  /-- CALIBRATION_SESSION_START (R389): The receiver starts a rolling calibration session for the next position. -/
  | calibrationSessionStart (p : Fin 12)
  /-- TRAINING_TIME_EXPIRY (R389): TRAIN_US of lane training ends and the receiver sends RETURN_PREP, or fails the lane. -/
  | trainingTimeExpiry (p : Fin 12) (reached : Bool)
  /-- STEER_TIMEOUT (R390): A session check fails or the transmitter does not follow within 10 µs; the session is abandoned. -/
  | steerTimeout (p : Fin 12)
  /-- STEER_RETRY (R390): An abandoned position is retried after 1,024 ticks. -/
  | steerRetry (p : Fin 12)
  /-- LANE_FAILURE (R392): A lane fails and its position moves to the spare at once, or the port goes HALF or DOWN. -/
  | laneFailure (p : Fin 12) (position : Fin 16)
  /-- SPARE_FAILURE (R393): An idle spare fails and rolling calibration ends for its group. -/
  | spareFailure (p : Fin 12)
  /-- LNK_CREDIT (R399): No credit is returned for 100 µs while frames wait. -/
  | lnkCredit (p : Fin 12)
  /-- PORT_UP (R399): Link command bringing a port UP. -/
  | portUp (src : Submit) (p : BitVec 8)
  /-- PORT_DOWN (R399): Link command taking a port DOWN after its items end. -/
  | portDown (src : Submit) (p : BitVec 8)
  /-- MACSEC_SA (R397): Link command installing a MACsec SA with a key slot. -/
  | macsecSa (src : Submit) (p mac sc sa : BitVec 8) (slot : BitVec 16) (xpn : Word)
  /-- CAL_PAUSE (R399): LNK agent command pausing rolling calibration. -/
  | calPause
  /-- CAL_RESUME (R399): LNK agent command resuming rolling calibration. -/
  | calResume
  /-- LANE_FAIL (R399): LNK agent command failing a named lane under R392. -/
  | laneFail (lane : Fin 204)
  /-- MARGIN (R399): LNK agent command writing a lane's eye margin to LNK_PORT_STATE. -/
  | margin (lane : Fin 204) (margin : BitVec 8)
  /-- WRITE (R411): DVT operation writing local bytes to a remote region. -/
  | write (src : Submit) (x : Desc)
  /-- READ (R411): DVT operation reading a remote region into local memory. -/
  | read (src : Submit) (x : Desc)
  /-- FADD (R411): DVT operation fetch-and-add on a remote word. -/
  | fadd (src : Submit) (x : Desc)
  /-- CAS (R411): DVT operation compare-and-swap on a remote word. -/
  | cas (src : Submit) (x : Desc)
  /-- WRITE_PACKET (R420): A received WRITE packet is placed, staged, dropped or re-acknowledged by PSN. -/
  | writePacket (h : DvtHead) (data : List (BitVec 8))
  /-- READ_REQ (R414): A received READ_REQ is answered with READ_RESP in PSN order. -/
  | readReq (h : DvtHead)
  /-- READ_RESP (R414): A received READ_RESP places read data in LOCAL, poisoned where flagged. -/
  | readResp (h : DvtHead) (data : List (BitVec 8))
  /-- FADD_PACKET (R424): A received FADD packet is executed as a responder atomic or answered from the record. -/
  | faddPacket (h : DvtHead) (addend : Word)
  /-- CAS_PACKET (R424): A received CAS packet is executed as a responder atomic or answered from the record. -/
  | casPacket (h : DvtHead) (compare swap : Word)
  /-- ATOMIC_RESP (R433): A received ATOMIC_RESP writes the old value to LOCAL. -/
  | atomicResp (h : DvtHead) (value : Word)
  /-- SKIP (R413): A received SKIP occupies its PSN and places nothing. -/
  | skip (h : DvtHead)
  /-- COLL (R186): A received COLL packet delivers a cross-node collective chunk. -/
  | coll (h : DvtHead) (data : List (BitVec 8))
  /-- COLL_ABORT (R204): A received COLL_ABORT withdraws the named collective if before its commit point. -/
  | collAbort (h : DvtHead) (tag : BitVec 32)
  /-- ACK (R422): A received ACK advances cumulative acknowledgement, records HAVE and resends NEED packets. -/
  | ack (h : DvtHead) (have_ need : BitVec 256)
  /-- NAK_PACKET (R419): A received DVT NAK triggers resend, violation handling or resync. -/
  | nakPacket (h : DvtHead)
  /-- CONNECT (R408): A received CONNECT is answered with CONNECT_ACK, opening or reconnecting a connection. -/
  | connect (dst : BitVec 20) (peer : BitVec 128) (from_ : BitVec 20) (psn : BitVec 32) (paths : BitVec 8)
  /-- CONNECT_ACK (R408): A received CONNECT_ACK opens the connection or completes reconnection. -/
  | connectAck (dst from_ : BitVec 20) (psn : BitVec 32)
  /-- CLOSE (R410): A received CLOSE ends the peer's side of a connection. -/
  | close (dst : BitVec 20)
  /-- RETRANSMISSION_TIMEOUT (R417): An unacknowledged packet is resent after RTO_US on another path. -/
  | retransmissionTimeout (c : BitVec 20) (psn : BitVec 32)
  /-- PATH_PROBE (R417): Every 1,024 ticks a failed path is probed with an ACKREQ SKIP. -/
  | pathProbe (c : BitVec 20) (path : Fin 64)
  /-- RECONNECT_TIMEOUT (R418): A reconnection not done in 10 ms puts the connection in ERROR and withdraws its items. -/
  | reconnectTimeout (c : BitVec 20)
  /-- CONNECT_TIMEOUT (R408): CONNECT unanswered for 1 ms is resent once, then CONN_OPEN is withdrawn. -/
  | connectTimeout (c : BitVec 20)
  /-- CONN_OPEN (R408): Host command opening a DVT connection. -/
  | connOpen (src : Submit) (record : Nat)
  /-- CONN_CLOSE (R410): Host command closing a connection after its items end. -/
  | connClose (src : Submit) (c : BitVec 32)
  /-- REGION_REG (R427): Host command registering a region and returning its RKEY. -/
  | regionReg (src : Submit) (x : Desc)
  /-- REGION_REVOKE (R430): Host command revoking a region, committing when in-flight messages end. -/
  | regionRevoke (src : Submit) (rkey : BitVec 32)
  /-- REVOKE_CUT (R430): 100 ms after the revoke point remaining in-flight messages are cut and the revoke commits. -/
  | revokeCut (r : BitVec 18)
  /-- CONTEXT_FILL (R409): A connection context missing the cache arrives from the near tier, evicting the least recently used. -/
  | contextFill (c : BitVec 20)
  /-- PATH_DOWN (R435): DVT agent command failing a named path. -/
  | pathDown (c : BitVec 20) (path : Fin 64)
  /-- CTX_FLUSH (R435): DVT agent command writing every cached context back. -/
  | ctxFlush
  /-- RECEIVED_FRAME (R438): An Ethernet frame is parsed, classified, policed, edited and enqueued or dropped. -/
  | receivedFrame (m : Fin 16) (cyc : BitVec 32) (data : List (BitVec 8)) (room : Bool)
  /-- EM_MISS_FILL (R445): A near-tier exact-match read for a hot-cache miss returns and the waiting frame proceeds. -/
  | emMissFill (cyc : BitVec 32)
  /-- SEND_OPPORTUNITY (R462): A MAC sends the eligible head with the smallest finish time and advances its virtual time. -/
  | sendOpportunity (m : Fin 16) (cyc : BitVec 32)
  /-- PFC_PAUSE (R463): A received PFC pause makes a priority's queues ineligible. -/
  | pfcPause (m : Fin 16) (prio : Fin 8) (time : BitVec 16)
  /-- PFC_PAUSE_EXPIRY (R463): A PFC pause time ends and the priority's queues become eligible. -/
  | pfcPauseExpiry (m : Fin 16) (prio : Fin 8)
  /-- SHAPER_WHEEL_EXPIRY (R466): A timing-wheel entry falls due and its shaped queue becomes eligible. -/
  | shaperWheelExpiry (q : BitVec 16) (cyc : BitVec 32)
  /-- CREDIT_MODE_SCAN (R466): The scanner makes credit-mode queues with positive credit eligible. -/
  | creditModeScan (cyc : BitVec 32)
  /-- LAYOUT_SET (R443): Packet command staging a layout record. -/
  | layoutSet (src : Submit) (layout : BitVec 8) (record : Nat)
  /-- SELECT_SET (R440): Packet command staging a port's selection record. -/
  | selectSet (src : Submit) (port : BitVec 8) (record : Nat)
  /-- ACTION_SET (R449): Packet command writing a FREE action record. -/
  | actionSet (src : Submit) (index : BitVec 16) (record : Nat)
  /-- ACTION_FREE (R448): Packet command freeing an unused action index. -/
  | actionFree (src : Submit) (index : BitVec 16)
  /-- RULE_ADD (R455): Packet command staging a new exact-match or ternary rule at the pending version. -/
  | ruleAdd (src : Submit) (table override : BitVec 8) (action index : BitVec 16) (record : Nat)
  /-- RULE_DEL (R455): Packet command staging the deletion of a live rule. -/
  | ruleDel (src : Submit) (table : BitVec 8) (index : BitVec 16) (record : Nat)
  /-- GROUP_COMMIT (R457): Packet command making the staged group live by advancing the version. -/
  | groupCommit (src : Submit)
  /-- GROUP_ABORT (R457): Packet command discarding every staged change. -/
  | groupAbort (src : Submit)
  /-- INDIR_WRITE (R456): Packet command staging indirection-table entries. -/
  | indirWrite (src : Submit) (first count : BitVec 16) (record : Nat)
  /-- QUEUE_SET (R460): Packet command writing a transmit queue record and resetting its shaper. -/
  | queueSet (src : Submit) (queue : BitVec 16) (mac prio : BitVec 8) (weight : BitVec 16) (flags : BitVec 8) (depth rate burst : BitVec 32)
  /-- POLICER_SET (R467): Packet command writing a policer and resetting its tokens. -/
  | policerSet (src : Submit) (policer : BitVec 16) (flags : BitVec 8) (rate burst : BitVec 32)
  /-- EM_REBUILD (R458): Packet command rebuilding the exact-match table under new seeds. -/
  | emRebuild (src : Submit) (seed0 seed1 : BitVec 32)
  /-- VERSION_RETIRE (R456): The last frame of the old version leaves the edit stage; deleted entries free and second copies sync. -/
  | versionRetire
  /-- REBUILD_COPY_DONE (R458): The rebuild finishes inserting entries into the inactive copy and enters DRAIN. -/
  | rebuildCopyDone
  /-- REBUILD_DRAIN_DONE (R458): At most 1,024 logged changes remain and the rebuild enters SWITCH. -/
  | rebuildDrainDone
  /-- REBUILD_SWITCH_DONE (R458): The log is applied, ACTIVE flips and the hot cache is invalidated. -/
  | rebuildSwitchDone
  /-- REBUILD_RESTART (R459): An abandoned rebuild restarts after 1,024 ticks with new seeds. -/
  | rebuildRestart
  /-- REBUILD_ABANDON (R468): PKT agent command abandoning a rebuild without counting. -/
  | rebuildAbandon
  /-- CACHE_FLUSH (R468): PKT agent command invalidating the hot cache. -/
  | cacheFlush
  /-- PKT_TREAD_ADDR (R471): A write selects a table entry and part, which is then returned in PKT_TREAD_DATA with DONE. -/
  | pktTreadAddr (table : Fin 16) (copy : Fin 2) (part : Fin 4) (index : BitVec 24)
  /-- PKT_TOEPLITZ_KEY (R456): A write stages Toeplitz key bytes into the pending copy. -/
  | pktToeplitzKey (k : Fin 17) (value : BitVec 32)
  /-- HIF_DB_CMD (R482): A command doorbell sets CMD_TAIL of a ring pair or is refused. -/
  | hifDbCmd (by_ : Req) (r : BitVec 14) (tail : BitVec 32)
  /-- HIF_DB_RPL (R482): A reply doorbell sets RPL_TAIL of a ring pair or is refused. -/
  | hifDbRpl (by_ : Req) (r : BitVec 14) (tail : BitVec 32)
  /-- COMMAND_FETCH (R483): The device fetches the next command of a ring pair when reply room allows. -/
  | commandFetch (r : BitVec 14) (entry : Desc) (poison : Bool)
  /-- REPLY_WRITE (R484): A reply is written at RPL_HEAD when the ring has room, and mirrored when set. -/
  | replyWrite (r : BitVec 14)
  /-- INTERRUPT_MODERATION_EXPIRY (R488): MOD_US passes since the first unsignalled reply and the vector is sent. -/
  | interruptModerationExpiry (r : BitVec 14)
  /-- HIF_RING_ENABLE (R481): Setting HIF_RING.ENABLE checks the ring pair record and zeroes its indices. -/
  | hifRingEnable (by_ : Req) (r : BitVec 14)
  /-- HIF_RING_DISABLE (R481): Clearing HIF_RING.ENABLE stops fetch and sets DRAINING. -/
  | hifRingDisable (by_ : Req) (r : BitVec 14)
  /-- UNCORRECTABLE_LINK_ERROR (R493): An uncorrectable PCIe error freezes the port and its VFs. -/
  | uncorrectableLinkError (pf : Fin 2) (cause : BitVec 5)
  /-- HIF_FREEZE_RELEASE (R494): A write of HIF_FREEZE.RELEASE ends the freeze when the AER cause is cleared. -/
  | hifFreezeRelease (pf : Fin 2)
  /-- RELEASE (R499): HIF agent command acting as HIF_FREEZE.RELEASE for a PF. -/
  | release (pf : Fin 2)
  /-- BUS_MASTER_ENABLE_CLEAR (R495): Clearing Bus Master Enable pauses a function's host traffic. -/
  | busMasterEnableClear (fn : Fin 128)
  /-- BUS_MASTER_ENABLE_SET (R495): Setting Bus Master Enable reissues paused reads and held writes. -/
  | busMasterEnableSet (fn : Fin 128)
  /-- VF_ENABLE_SET (R489): Setting VF Enable makes AC0 check pool records and activate VFs. -/
  | vfEnableSet (pf : Fin 2) (num : Fin 64)
  /-- VF_ENABLE_CLEAR (R489): Clearing VF Enable withdraws each VF's items as an FLR does. -/
  | vfEnableClear (pf : Fin 2)
  /-- FUNCTION_LEVEL_RESET (R497): Initiate FLR stops a function's fetch and withdraws its uncommitted items. -/
  | functionLevelReset (fn : Fin 128)
  /-- FLR_COMPLETE (R498): Every item of the function has ended; the FLR report is written and records cleared. -/
  | flrComplete (fn : Fin 128)
  /-- VF_FLR (R499): HIF agent command running an FLR for a named VF. -/
  | vfFlr (pf : Fin 2) (vf : Fin 64)
  /-- COMPLETION_TIMEOUT (R496): A read without full completion after HIF_CPL_TIMEOUT is quarantined and reissued, or withdrawn. -/
  | completionTimeout (pf : Fin 2) (tag : BitVec 14)
  /-- COMPLETION_ARRIVAL (R496): A PCIe completion arrives and is merged, or discarded for a quarantined tag. -/
  | completionArrival (pf : Fin 2) (tag : BitVec 14) (ok : Bool)
  /-- TAG_QUARANTINE_EXPIRY (R496): A quarantined tag without a late completion is released after a further timeout. -/
  | tagQuarantineExpiry (pf : Fin 2) (tag : BitVec 14)
  /-- ATS_INVALIDATION (R479): An ATS invalidation completes after every request using the translation has issued. -/
  | atsInvalidation (pf : Fin 2) (addr : Word) (pages : BitVec 32)
  /-- VF_MBOX_DB (R491): A VF mailbox doorbell hands a message to AC0 or is refused while pending. -/
  | vfMboxDb (pf : Fin 2) (vf : Fin 64) (message : List (BitVec 8))
  /-- DIRTY_LOG_START (R492): DIRTY_LOG START opens a written-page log on a bitmap. -/
  | dirtyLogStart (src : Submit) (vf : BitVec 8) (hbase : Nat) (pages : BitVec 32) (bitmap : Nat)
  /-- DIRTY_LOG_SWAP (R492): DIRTY_LOG SWAP moves the log to a new bitmap. -/
  | dirtyLogSwap (src : Submit) (vf : BitVec 8) (bitmap : Nat)
  /-- DIRTY_LOG_STOP (R492): DIRTY_LOG STOP closes the log. -/
  | dirtyLogStop (src : Submit) (vf : BitVec 8)
  /-- DMA_XFER (R507): General command moving bytes on a DMA channel, paced or not. -/
  | dmaXfer (src : Submit) (x : Desc)
  /-- DMA_CHAN_ENABLE (R505): Setting DMA_CHAN_CFG.ENABLE checks the channel's configuration. -/
  | dmaChanEnable (c : Fin 32)
  /-- DMA_CHAN_DISABLE (R520): Clearing ENABLE drops every uncommitted transfer of the channel with DMA_DROPPED. -/
  | dmaChanDisable (c : Fin 32)
  /-- DMA_PACE_REQUEST (R510): A PACE symbol or PACE_IN edge adds a credit to a paced channel, starting a waiting burst. -/
  | dmaPaceRequest (c : Fin 32)
  /-- BURST_WRITES_ISSUED (R511): A burst's writes are issued and PACE is sent on LINE + 1 for a virtual line. -/
  | burstWritesIssued (c : Fin 32)
  /-- READ_BACK_COMPLETE (R513): A transfer's read-back completes and its commit record is issued. -/
  | readBackComplete (seq : Nat) (poison : Bool)
  /-- DMA_PACE_TIMEOUT (R512): A paced transfer waits PACE_TIMEOUT ms for a credit and is withdrawn. -/
  | dmaPaceTimeout (c : Fin 32)
  /-- CHAN_DROP (R523): DMA agent command disabling and dropping a named channel. -/
  | chanDrop (c : Fin 32)
  /-- NVME_SQ_DOORBELL (R527): A submission queue tail doorbell is written. -/
  | nvmeSqDoorbell (fn : Fin 128) (qid : BitVec 16) (tail : BitVec 16)
  /-- NVME_CQ_DOORBELL (R527): A completion queue head doorbell is written. -/
  | nvmeCqDoorbell (fn : Fin 128) (qid : BitVec 16) (head : BitVec 16)
  /-- NVME_COMMAND_FETCH (R531): The controller takes the next command by arbitration when a slot and lock entry are free. -/
  | nvmeCommandFetch
  /-- CREATE_IO_SQ (R529): Admin command creating an I/O submission queue in the CMB. -/
  | createIoSq (fn : Fin 128) (cid qid size : BitVec 16) (prp1 : Nat) (prio : Fin 4) (cqid : BitVec 16) (contiguous : Bool)
  /-- DELETE_IO_SQ (R541): Admin command deleting a submission queue and withdrawing its commands. -/
  | deleteIoSq (fn : Fin 128) (cid qid : BitVec 16)
  /-- CREATE_IO_CQ (R526): Admin command creating an I/O completion queue. -/
  | createIoCq (fn : Fin 128) (cid qid size : BitVec 16) (prp1 : Nat) (vector : BitVec 16) (interrupts contiguous : Bool)
  /-- DELETE_IO_CQ (R526): Admin command deleting an I/O completion queue. -/
  | deleteIoCq (fn : Fin 128) (cid qid : BitVec 16)
  /-- IDENTIFY (R526): Admin command returning identify data. -/
  | identify (fn : Fin 128) (cid : BitVec 16) (cns : BitVec 8) (nsid : BitVec 32) (prps : List Nat)
  /-- GET_LOG_PAGE (R526): Admin command returning a log page. -/
  | getLogPage (fn : Fin 128) (cid : BitVec 16) (lid : BitVec 8) (numd : BitVec 16) (prps : List Nat)
  /-- SET_FEATURES (R526): Admin command setting a supported feature. -/
  | setFeatures (fn : Fin 128) (cid : BitVec 16) (fid : BitVec 8) (value : BitVec 32)
  /-- GET_FEATURES (R526): Admin command returning a feature value. -/
  | getFeatures (fn : Fin 128) (cid : BitVec 16) (fid : BitVec 8)
  /-- FIRMWARE_IMAGE_DOWNLOAD (R545): Admin command running FW_DOWNLOAD. -/
  | firmwareImageDownload (fn : Fin 128) (cid : BitVec 16) (numd ofst : BitVec 32) (prps : List Nat) (data : List (BitVec 8))
  /-- FIRMWARE_COMMIT (R545): Admin command running FW_STAGE and FW_ACTIVATE by its action code. -/
  | firmwareCommit (fn : Fin 128) (cid : BitVec 16) (fs ca : Fin 8) (flashOk : Bool)
  /-- INVALID_COMMAND_OPCODE (R526): An unsupported NVMe opcode is completed with Invalid Command Opcode. -/
  | invalidCommandOpcode (fn : Fin 128) (qid cid : BitVec 16)
  /-- NVME_READ (R536): I/O Read under a shared range lock, committing when host data is written. -/
  | nvmeRead (fn : Fin 128) (qid cid : BitVec 16) (nsid : BitVec 32) (slba : Word) (nlb : BitVec 16) (prps : List Nat)
  /-- NVME_WRITE (R536): I/O Write under an exclusive range lock, committing when durable. -/
  | nvmeWrite (fn : Fin 128) (qid cid : BitVec 16) (nsid : BitVec 32) (slba : Word) (nlb : BitVec 16) (prps : List Nat) (data : List (BitVec 8))
  /-- NVME_FLUSH (R536): I/O Flush committing when earlier writes of the namespace have ended. -/
  | nvmeFlush (fn : Fin 128) (qid cid : BitVec 16) (nsid : BitVec 32)
  /-- WRITE_ZEROES (R536): I/O Write Zeroes under an exclusive range lock. -/
  | writeZeroes (fn : Fin 128) (qid cid : BitVec 16) (nsid : BitVec 32) (slba : Word) (nlb : BitVec 16)
  /-- CC_EN_SET (R529): Setting CC.EN enables the controller or sets CFS for an admin queue outside the CMB. -/
  | ccEnSet (fn : Fin 128)
  /-- CC_EN_CLEAR (R542): Clearing CC.EN withdraws every uncommitted command of the controller. -/
  | ccEnClear (fn : Fin 128)
  /-- NVM_SUBSYSTEM_RESET (R542): An NVM subsystem reset withdraws the controller's uncommitted commands. -/
  | nvmSubsystemReset (fn : Fin 128)
  /-- NVS_NS_SET (R532): General command defining a namespace. -/
  | nvsNsSet (src : Submit) (record : Nat)
  /-- NVS_NS_CLEAR (R532): General command removing a namespace. -/
  | nvsNsClear (src : Submit) (index : BitVec 16)
  /-- NVS_TARGET_SET (R533): General command defining a remote NVMe-oF target and connecting to it. -/
  | nvsTargetSet (src : Submit) (record : Nat)
  /-- TARGET_CONNECT_COMPLETE (R533): Every back-end queue pair to a target is connected and NVS_TARGET_SET commits. -/
  | targetConnectComplete (t : BitVec 8)
  /-- NVS_TARGET_CLEAR (R533): General command removing a target no namespace names. -/
  | nvsTargetClear (src : Submit) (t : BitVec 8)
  /-- BACKEND_COMPLETION (R536): A completion arrives from a remote target for a back-end command. -/
  | backendCompletion (seq : Nat) (sct : Fin 8) (sc : BitVec 8) (data : List (BitVec 8))
  /-- BACKEND_TIMEOUT (R534): A back-end command times out and is resent once, or withdrawn, possibly making the target LOST. -/
  | backendTimeout (seq : Nat)
  /-- TARGET_RECONNECT (R534): Every 65,536 ticks the device tries to reconnect a LOST target. -/
  | targetReconnect (t : BitVec 8) (ok : Bool)
  /-- TARGET_DROP (R547): NVS agent command putting a target in LOST. -/
  | targetDrop (t : BitVec 8)
  /-- CKP_JOB_SET (R551): Checkpoint command defining a job. -/
  | ckpJobSet (src : Submit) (record : Nat)
  /-- CKP_JOB_CLEAR (R551): Checkpoint command clearing an IDLE job. -/
  | ckpJobClear (src : Submit) (job : BitVec 8)
  /-- CKP_STEP (R554): Checkpoint command naming the step that begins at the next fence. -/
  | ckpStep (src : Submit) (job : BitVec 8) (step : Word)
  /-- CKP_NOW (R556): Checkpoint command on rank 0 meeting a trigger, optionally full. -/
  | ckpNow (src : Submit) (job flags : BitVec 8)
  /-- CKP_RESTORE (R578): Checkpoint command restoring the job's pages from a committed checkpoint. -/
  | ckpRestore (src : Submit) (job : BitVec 8) (step : Word) (store : List (Nat × List (BitVec 8)))
  /-- CKP_ABORT (R575): Checkpoint command abandoning the running checkpoint for the reason ABORT. -/
  | ckpAbort (src : Submit) (job : BitVec 8)
  /-- CHECKPOINT_NOTICE (R556): A node receives rank 0's notice of a checkpoint at a future step, or abandons it as LATE. -/
  | checkpointNotice (job : Fin 64) (step : Word × Bool)
  /-- COW_WRITE (R560): A write to an unvisited page copies it to the capture buffer or marks it, then proceeds. -/
  | cowWrite (addr : Nat) (data : List (BitVec 8))
  /-- WALKER_VISIT (R561): The walker visits the page at the cursor, copying, skipping or resetting its bits. -/
  | walkerVisit (job : Fin 64)
  /-- BATCH_HASHED (R564): A batch of captured pages has been hashed and enters its exchange round. -/
  | batchHashed (job : Fin 64)
  /-- HASH_EXCHANGE_ROUND (R565): A round's writer answers arrive and each node writes the pages it owns. -/
  | hashExchangeRound (job : Fin 64) (writers : List Nat)
  /-- WRITER_CONFIRM (R566): A writer's shard writes of a batch complete and it confirms the batch. -/
  | writerConfirm (job : Fin 64) (batch rank : Nat) (places : List (Nat × Nat × Nat)) (ok : Bool)
  /-- NODE_LOST (R567): A node is marked lost and writers are chosen again for unconfirmed batches. -/
  | nodeLost (job : Fin 64) (rank : Nat) (writers : List (Nat × Nat) × Bool)
  /-- SEGMENT_WRITE (R571): After its last confirmed batch a node writes its manifest segment. -/
  | segmentWrite (job : Fin 64)
  /-- ROOT_WRITE (R572): Rank 0 writes the manifest root after every segment. -/
  | rootWrite (job : Fin 64) (segments : List (Nat × Nat × Nat × Nat × List (BitVec 8))) (covered : Bool)
  /-- COMMIT_RECORD_WRITE (R573): Rank 0's commit record write completes, the commit point on rank 0. -/
  | commitRecordWrite (job : Fin 64) (tail : Nat)
  /-- COMMITTED_MESSAGE (R574): Rank 0's COMMITTED message arrives and the node's item commits. -/
  | committedMessage (job : Fin 64) (tail : Nat)
  /-- JOB_ABANDON (R582): CKP agent command abandoning a job's checkpoint. -/
  | jobAbandon (job : Fin 64)
  /-- KEY_LOAD (R595): Security command loading a key slot. -/
  | keyLoad (src : Submit) (record : Nat)
  /-- KEY_ZERO (R597): Security command zeroing a key slot not in use. -/
  | keyZero (src : Submit) (slot : Fin 65536)
  /-- ENCRYPT (R608): BULK operation encrypting with AES-256-GCM and writing the IV and tag. -/
  | encrypt (src : Submit) (x : Desc)
  /-- DECRYPT (R608): BULK operation verifying and decrypting, zeroing the output on tag failure. -/
  | decrypt (src : Submit) (x : Desc)
  /-- KMAC (R608): BULK operation computing KMAC256. -/
  | kmac (src : Submit) (x : Desc)
  /-- SEC_PORT_PHASE (R605): A write changing a port's transmit phase takes effect at the next record boundary. -/
  | secPortPhase (value : BitVec 12)
  /-- SEC_PORT_KEY (R604): A write naming new inline key slots, clearing a phase's receive counter state. -/
  | secPortKey (p : Fin 12) (value : Word)
  /-- SEC_ZEROISE (R613): A write of SEC_ZEROISE.GO zeroises every key and session within 10 µs. -/
  | secZeroise
  /-- ZEROISE_ALL (R614): SEC agent command starting zeroisation. -/
  | zeroiseAll
  /-- DRBG_RESEED (R614): SEC agent command reseeding the DRBG. -/
  | drbgReseed
  /-- GET_VERSION (R590): SPDM request answered with the supported version. -/
  | getVersion (t : Fin 3)
  /-- GET_CAPABILITIES (R590): SPDM request answered with capabilities. -/
  | getCapabilities (t : Fin 3)
  /-- NEGOTIATE_ALGORITHMS (R590): SPDM request negotiating algorithms. -/
  | negotiateAlgorithms (t : Fin 3) (offered : Bool)
  /-- GET_DIGESTS (R590): SPDM request returning certificate digests. -/
  | getDigests (t : Fin 3) (length : Nat)
  /-- GET_CERTIFICATE (R590): SPDM request returning part of the slot 0 chain. -/
  | getCertificate (t : Fin 3) (slot : Nat) (offset length : Nat)
  /-- CHALLENGE (R590): SPDM request answered with a signed CHALLENGE_AUTH. -/
  | challenge (t : Fin 3) (nonce : List (BitVec 8))
  /-- GET_MEASUREMENTS (R592): SPDM request returning the measurement blocks. -/
  | getMeasurements (t : Fin 3) (index : Nat) (signed : Bool) (nonce : List (BitVec 8))
  /-- KEY_EXCHANGE (R590): SPDM request opening a secured session. -/
  | keyExchange (t : Fin 3) (exchange : List (BitVec 8))
  /-- FINISH (R590): SPDM request finishing session setup. -/
  | finish (t : Fin 3) (id : Nat) (macOk : Bool)
  /-- HEARTBEAT (R590): SPDM session heartbeat. -/
  | heartbeat (t : Fin 3) (id : Nat)
  /-- KEY_UPDATE (R590): SPDM session key update. -/
  | keyUpdate (t : Fin 3) (id : Nat)
  /-- END_SESSION (R590): SPDM request ending a session. -/
  | endSession (t : Fin 3) (id : Nat)
  /-- CHUNK_SEND (R590): SPDM chunked request transfer. -/
  | chunkSend (t : Fin 3) (last : Bool) (piece : List (BitVec 8))
  /-- CHUNK_GET (R590): SPDM chunked response transfer. -/
  | chunkGet (t : Fin 3) (offset length : Nat)
  /-- COMPANION_SIGN (R591): Vendor request returning an ML-DSA-65 signature over the preceding signed message. -/
  | companionSign (t : Fin 3)
  /-- COMPANION_CERT (R591): Vendor request returning part of the ML-DSA-65 certificate chain. -/
  | companionCert (t : Fin 3) (offset length : Nat)
  /-- KEY_PROG (R609): IDE_KM request programming a PCIe IDE stream key. -/
  | keyProg (pf : Fin 2) (id : Nat) (stream set : Nat) (key : List (BitVec 8))
  /-- K_SET_GO (R609): IDE_KM request starting use of a key set. -/
  | kSetGo (pf : Fin 2) (id : Nat) (stream set : Nat)
  /-- K_SET_STOP (R609): IDE_KM request stopping a key set. -/
  | kSetStop (pf : Fin 2) (id : Nat) (stream set : Nat)
  /-- CXL_IDE_KEY_REFRESH (R610): After 2^32 flits the device generates and programs new CXL IDE keys. -/
  | cxlIdeKeyRefresh (k : Fin 8) (ok : Bool)
  /-- ENTROPY_HEALTH_FAIL (R611): The entropy source fails its health tests and the DRBG stops. -/
  | entropyHealthFail
  /-- ENTROPY_HEALTH_PASS (R611): A later health test passes and the DRBG resumes. -/
  | entropyHealthPass
  /-- DEBUG_UNLOCK_TOKEN (R612): A valid unlock token zeroises the device and sets SEC_STATE.DEBUG. -/
  | debugUnlockToken (keyId : Fin 4) (pub : List (BitVec 8)) (sigs : List (BitVec 8) × List (BitVec 8))
  /-- SEC_CORE_WDOG (R614): The security core watchdog expires and the core restarts from stage 1. -/
  | secCoreWdog
  /-- MCTP_MESSAGE (R590): An MCTP message over I3C reaches AC0, which relays SPDM unchanged. -/
  | mctpMessage (type : Nat)
  /-- FAULT_EVENT (R620): The fault hub records a source event, applies the window count and carries out or holds its reaction. -/
  | faultEvent (source : Fin 768) (detail : BitVec 16) (addr : Nat)
  /-- GRACE_TIMER_EXPIRY (R628): A held reaction's grace timer expires and the reaction is carried out. -/
  | graceTimerExpiry (source : Fin 768)
  /-- HELD_REACTION_DROP (R628): Writing 1 to FLT_SRC_STATE.HELD drops a held reaction. -/
  | heldReactionDrop (source : Fin 768)
  /-- FLT_MODE_NORMAL (R627): FLT_MODE write to NORMAL carries out every held reaction. -/
  | fltModeNormal
  /-- FLT_MODE_TEST (R627): FLT_MODE write entering TEST, where INJECT is taken. -/
  | fltModeTest
  /-- FLT_MODE_RECOVERY (R627): FLT_MODE write entering RECOVERY, where heavy reactions are held. -/
  | fltModeRecovery
  /-- STARTUP_MODE_EXPIRY (R627): 30 s after READY the hub leaves STARTUP for NORMAL. -/
  | startupModeExpiry
  /-- FLT_SAFE_ENTER (R629): AC0's write of FLT_SAFE.ENTER puts the device in the safe state. -/
  | fltSafeEnter
  /-- CHIP_WATCHDOG_EXPIRY (R632): The chip watchdog expires and a warm chip reset begins within 100 µs. -/
  | chipWatchdogExpiry
  /-- FLT_CHIP_PET (R632): A write restarts the chip watchdog. -/
  | fltChipPet
  /-- I3C_STATUS_READ (R695): An I3C read of the status register latches and returns the status record. -/
  | i3cStatusRead (index : BitVec 8) (bytes : BitVec 8)
  /-- I3C_WAKE_WRITE (R695): An I3C write to the WAKE register is a wake event. -/
  | i3cWakeWrite (value : BitVec 8)
  /-- POR_N_ASSERT (R636): POR_N taken low forces a cold reset and releases FAULT_N. -/
  | porNAssert
  /-- POR_N_RELEASE (R637): POR_N is released with rails in tolerance and cold start begins, sampling the straps. -/
  | porNRelease (straps : Fin 8)
  /-- REFCLK_LOCK (R637): The always-on clock locks to REFCLK and the tick generator starts. -/
  | refclkLock
  /-- STAGE1_VERIFY (R588): The boot ROM verifies stage 1 from the primary or alternate flash. -/
  | stage1Verify
  /-- MAQUETTE_APPLY (R641): The Maquette is verified, checked in a shadow and committed, locking RWL fields. -/
  | maquetteApply
  /-- COLD_INIT_COMPLETE (R272): Cold-start initialisation of ledger, maps and pools finishes and INIT_BUSY clears. -/
  | coldInitComplete
  /-- START_UP_READY (R637): Initialisation and firmware start complete and PCR_STATE.READY is set. -/
  | startUpReady
  /-- PLL_START (R645): PCR_CLK_CTRL.START starts the PLLs. -/
  | pllStart
  /-- PLL_SWITCH (R645): PCR_CLK_CTRL.SWITCH moves the core die to the PLLs at the next boundary. -/
  | pllSwitch
  /-- PLL_LOCK_LOSS (R645): A PLL loses lock and its clock domains are held. -/
  | pllLockLoss (which : Fin 2)
  /-- PLL_LOCK_RETURN (R645): Lock returns and the held domains run again. -/
  | pllLockReturn (which : Fin 2)
  /-- REFCLK_LOSS (R646): REFCLK is lost; the always-on island moves to the oscillator and the tick enters HOLDOVER. -/
  | refclkLoss
  /-- WARM_CHIP_RESET (R648): A warm reset trigger stops acceptance, fences every block, writes the report and asserts reset. -/
  | warmChipReset
  /-- WARM_RESET (R657): PCR agent command acting as PCR_RESET.WARM. -/
  | warmReset
  /-- WARM_RESET_RELEASE (R648): The core die is released 1,000 µs after the trigger and the Maquette copy reloaded. -/
  | warmResetRelease
  /-- WARM_RESET_READY (R648): Firmware is running again, accepted items resume and READY is set. -/
  | warmResetReady (failed : BitVec 64)
  /-- IDLE_TIMER_A1 (R651): The A1 idle timer expires and the device gates its clocks. -/
  | idleTimerA1
  /-- IDLE_TIMER_A2 (R651): The A2 idle timer expires and the device power-gates work cores. -/
  | idleTimerA2
  /-- IDLE_TIMER_A3 (R652): The A3 idle timer expires and the device saves state and powers down the core die. -/
  | idleTimerA3
  /-- WAKE_EVENT (R653): A latched wake event reverses entry or starts exit to A0. -/
  | wakeEvent
  /-- EXIT_COMPLETE (R653): Exit from a power state ends and the device is in A0. -/
  | exitComplete
  /-- WAKE_BOUND_EXPIRY (R654): An exit exceeds its bound and PCR_WAKE_FAIL is raised. -/
  | wakeBoundExpiry
  /-- RAIL_EXCURSION (R685): A rail stays out of tolerance for 200 ns; PCR_RAIL is raised, and the Plinth rail forces a cold reset. -/
  | railExcursion (rail : Fin 8)
  /-- PCR_GATE_FAIL (R657): A domain misses power-good within 20 µs of ungating. -/
  | pcrGateFail (domain : BitVec 16)
  /-- PCR_OSC (R657): The internal oscillator measures outside 190 MHz to 210 MHz. -/
  | pcrOsc (mhz : BitVec 8)
  /-- THERMTRIP (R697): A die sensor reaches 125 °C and THERMTRIP_N is driven low. -/
  | thermtrip
  /-- OBS_CTR_CLEAR (R661): A write clears every counter of a block in one cycle. -/
  | obsCtrClear (block : BitVec 5)
  /-- TRACE_ENABLE (R667): Setting OBS_TRACE_CFG.ENABLE enters PRE and writes SYNC records. -/
  | traceEnable (value : BitVec 63)
  /-- TRACE_DISABLE (R667): Clearing ENABLE enters OFF and leaves stored records. -/
  | traceDisable
  /-- TRACE_TRIGGER (R667): OBS_TRACE_TRIG.GO triggers the trace into POST. -/
  | traceTrigger
  /-- TRACE_POST_DONE (R666): The buffer holds its post-trigger share and the trace enters DONE. -/
  | tracePostDone
  /-- HALT (R669): OBS_DBG_CTRL.HALT halts a core when debug is unlocked. -/
  | halt (n : Fin 16)
  /-- RESUME (R669): OBS_DBG_CTRL.RESUME continues a halted core. -/
  | resume (n : Fin 16)
  /-- STEP (R669): OBS_DBG_CTRL.STEP runs one instruction and halts again. -/
  | step (n : Fin 16)
  /-- OBS_DBG_ACC (R669): OBS_DBG_ACC.GO reads or writes a halted core's register. -/
  | obsDbgAcc (n : Fin 16) (write : Bool) (tag : BitVec 4) (index : BitVec 12)
  /-- OBS_HANG (R670): OBS_HANG.GO sends SAMPLE to every agent and collects hang records. -/
  | obsHang (silent : List (Fin 97))
  /-- HANG_AGENT_TIMEOUT (R670): An agent silent for 10 µs gets a NOANS record from the hub. -/
  | hangAgentTimeout (agent : Fin 97)
  /-- EMERGENCY_END (R672): 16 consecutive ticks pass without an emergency flag and the emergency ends. -/
  | emergencyEnd
  /-- REPORT (R673): A Caliper REPORT message is recorded for the matching port. -/
  | report (source : Fin 16) (power : BitVec 16) (temp : BitVec 8)
  /-- BUDGET (R673): The owner sends a BUDGET or EMERG message on change or every 256 ticks. -/
  | budget (p : Fin 8)
  /-- PATINA_SUMMARY (R676): Every 2^26 µs, or on A3 entry, AC0 writes a Patina summary record. -/
  | patinaSummary
  /-- HISTOGRAM_SAMPLE (R676): Every 262,144 µs the summary histograms take a sample. -/
  | histogramSample (sample : CaliperSample)
  /-- PAT_FLUSH (R678): PAT agent command writing a summary at once. -/
  | patFlush
  /-- TRACE_STOP (R678): OBS agent command clearing trace ENABLE. -/
  | traceStop
  /-- PORT_TRAINING_COMPLETE (R399): A DVL or Ethernet port finishes training with its partner and enters UP, committing PORT_UP. -/
  | portTrainingComplete (p : Fin 12)
  /-- MIRROR_TRAINING_WAIT_EXPIRY (R48): The 100 ms wait for the mirror device to train runs out and start-up proceeds without a recovery report. -/
  | mirrorTrainingWaitExpiry
  /-- POWER_STATE_ENTRY_COMPLETE (R654): Entry to A1, A2 or A3 finishes gating the core-die clocks, after which a wake event no longer reverses it. -/
  | powerStateEntryComplete
  /-- REFCLK_RETURN (R646): REFCLK returns after a loss while the always-on island runs on the internal oscillator. -/
  | refclkReturn
  /-- DYNAMIC_ADDRESS_ASSIGNMENT (R694): An I3C SETDASA or ENTDAA gives a target of the device a dynamic address. -/
  | dynamicAddressAssignment (target : Fin 2) (addr : BitVec 7)
  /-- AER_STATUS_CLEAR (R494): A configuration write clears the AER Uncorrectable Error Status bit named in HIF_FREEZE.CAUSE. -/
  | aerStatusClear (pf : Fin 2)
  /-- MSIX_VECTOR_UNMASK (R488): Unmasking an MSI-X vector with its pending bit set sends the held message. -/
  | msixVectorUnmask (fn : Fin 128) (vector : BitVec 11)
  /-- PERST_N_ASSERT (R682): The host asserts PERST_N on a PCIe link. -/
  | perstNAssert (pf : Fin 2)
  deriving DecidableEq, Repr

end Sys2Proof
end

