-- ==== Sys2Proof/Machine/PartsArm.lean ====
section
/-! DEFINITION. State of the Armature cores (chapter 08). -/
namespace Sys2Proof.Machine
open Sys2Proof

/-- Register tags (R303). -/
inductive Tag where
  | nul | int | f64 | f32p | ptr | desc | seq | keyh
  deriving DecidableEq, Repr

/-- A tagged register value. -/
structure TVal where
  v : Word := 0
  t : Tag := .nul
  deriving DecidableEq, Repr

/-- A load in flight (R336): its destination, the data read, whether the slot has issued, whether the data has
returned, and, for a load held over a trap (R337), that a write of the register by the slot wins. -/
structure InFlight where
  rd : Fin 32
  val : TVal
  slotDone : Bool
  ready : Bool
  slotWins : Bool
  deriving DecidableEq, Repr

/-- An outstanding MACD (R334): accumulator, mode, the two fetch addresses and the fetched words; `bad` is the
deferred trap its fetches call for (R335): cause code and fetch address. -/
structure Macd where
  acc : Fin 4
  mode : Fin 3
  x : Word
  y : Word
  bad : Option (Nat × Word)
  deriving DecidableEq, Repr

/-- A key handle's namespace and index (R328). -/
inductive KeyName where
  | slot (k : Nat)
  | ctx (c : Nat)
  deriving DecidableEq, Repr

/-- A DESC handle in use (R325, R326): the descriptor copied, the target named (logical core, or 256 for any core),
whether it is for the cipher engine and with which key, the plan its item belongs to, its item once accepted (0 for a
refusal), and its end-state reply. -/
structure Handle where
  desc : Desc
  target : Nat
  plan : Nat
  key : Option KeyName
  cipher : Bool
  seq : Option Nat
  reply : Option (List Word)
  deriving DecidableEq, Repr

/-- One Armature core: s1 to s31, a0 to a3, the CSRs of R345, loads and MACDs in flight, handles and local-memory
tags; the items it created with LACC (0 open, 1 committed, 2 withdrawn), its place in its reply ring, whether it has been
released to run (R352) and whether it is to halt after one instruction (R669), and its counts for trace records (R664).
A register, an accumulator, a return-stack entry, a handle's generation or a tag that is not listed has its
reset value. -/
structure ArmCore where
  s : Tbl TVal := []
  a : Tbl (BitVec 128) := []
  pc : Word := 0
  ie : Bool := false
  pie : Bool := false
  intrap : Bool := false
  rsmode : Nat := 1
  tvec : Word := 0
  epc : Word := 0
  cause : Word := 0
  tval : Word := 0
  scr0 : TVal := {}
  scr1 : TVal := {}
  ldReg : Nat := 0
  ldTag : Nat := 0
  ldValid : Bool := false
  ldVal : Word := 0
  rsDepth : Nat := 0
  rsPtr : Nat := 0
  rs : Tbl Word := []
  fflags : Nat := 0
  planctx : Nat := 0
  instret : Nat := 0
  wmask : Nat := 0
  ien : Nat := 0
  ipend : Nat := 0
  loads : List InFlight := []
  macds : List Macd := []
  handles : Tbl Handle := []
  gens : Tbl Nat := []
  ltags : Tbl Tag := []
  codeStale : Bool := false
  laccs : Tbl Nat := []
  rplIdx : Nat := 0
  released : Bool := false
  stepping : Bool := false
  icount : Nat := 0
  trecs : Nat := 0
  crashes : List Nat := []
  deriving DecidableEq, Repr

end Sys2Proof.Machine
end

