-- ==== Sys2Proof/Machine/PartsCore.lean ====
section
/-! DEFINITION. State of the ledger, the attention conditions, the block agents, the fault hub, the tick unit, the
loader and the Frieze (chapters 01, 02 and 18). -/
namespace Sys2Proof.Machine
open Sys2Proof

/-! ## The ledger (R22 to R48) -/

/-- STATE of a ledger entry; a FREE slot has no entry in the model's list. -/
inductive ItemState where
  | accepted | running | committed | withdrawn
  deriving DecidableEq, Repr

/-- The ordering domain an entry names (R40). -/
inductive Domain where
  | ring (r : Nat) | plan (p : Nat) | conn (c : Nat) | dma (c : Nat) | nvme (q : Nat) | slot (k : Nat)
  | core (n : Nat) | job (j : Nat)
  deriving DecidableEq, Repr

/-- The commit record of an item (R34, R41): not issued, issued by its engine, held untaken by the ledger unit, or taken
and being written. -/
inductive CommitRec where
  | none | issued | held | taken
  deriving DecidableEq, Repr

/-- The end-state reply an item has earned: its code and bytes 16 to 31 of the reply (R49). -/
structure ReplyData where
  code : Nat := 0
  lo : Nat := 0
  hi : Nat := 0
  deriving DecidableEq, Repr

/-- What an item is, and so which engine runs it. -/
inductive ItemKind where
  | work | coll | dvt | general (opcode : Nat) | firing (slot number : Nat) | query (svc entry : Nat)
  | armature (core : Nat) | nvme (fn sqid cid : Nat) | dma (chan : Nat) | checkpoint (job : Nat) | atomic (conn psn : Nat)
  deriving DecidableEq, Repr

/-- One item: its ledger entry (R24 to R26), its body of 64 bytes, and what the device keeps of it until its slot is
free. `fn` is the function it belongs to, for R35 and R497; `fin` is the reply its engine has for it once all its writes
are made (R152). -/
structure Item where
  seq : Nat
  slot : Nat
  state : ItemState
  domain : Domain
  tag : Nat
  owner : Nat
  replied : Bool
  redo : Bool
  replayed : Bool
  plan : Nat
  acceptTick : Nat
  endTick : Nat
  origin : Origin
  fn : Nat
  kind : ItemKind
  body : Desc
  crec : CommitRec
  fin : Option ReplyData
  redoRec : Option Desc
  carried : Bool
  single : Bool
  reply : ReplyData
  deriving DecidableEq, Repr

/-- An item that waits where it arose, for a FREE slot or for its two copies to be written (R27, R30). For the item of a plan step,
`frieze` holds the Frieze slot and the step's logical core; its chapter's checks are made when it is accepted. -/
structure Arising where
  domain : Domain
  tag : Nat
  plan : Nat
  origin : Origin
  fn : Nat
  owner : Nat
  kind : ItemKind
  body : Desc
  frieze : Option (Nat × Nat)
  deriving DecidableEq, Repr

/-- What the mirror area of R47 holds in plaintext terms: its device address, the header and the entries a complete pass copied, and the draw of
the ciphertext that stands for them. -/
structure MirrorArea where
  base : Nat
  draw : Nat
  tick : Nat
  head : Nat
  low : Nat
  items : List Item
  deriving DecidableEq, Repr

/-- One record of the recovery report (R47). -/
structure ReportRec where
  seq : Nat
  domain : Domain
  tag : Nat
  owner : Nat
  running : Bool
  plan : Nat
  acceptTick : Nat
  deriving DecidableEq, Repr

/-- The ledger unit. `checked` says that the mirror header has been read, or its wait has run out, since the reset (R48). -/
structure Ledger where
  nextSeq : Nat := 1
  items : List Item := []
  arising : List Arising := []
  freed : List Nat := []
  lost : Bool := false
  stallRun : Nat := 0
  pass : Option (List Item) := none
  passHead : Nat := 0
  passLow : Nat := 0
  passTick : Nat := 0
  mirrored : List Nat := []
  mirror : Option MirrorArea := none
  checked : Bool := false
  mirrorDev : Option Nat := none
  mirrorAlt : Option Nat := none
  report : List ReportRec := []
  deriving DecidableEq, Repr

/-! ## Attention (R50 to R52) -/

/-- Why an attention condition is active. A NOTE condition is a bit of GLB_ATTN_NOTE and is not listed here. -/
inductive Attn where
  | recoveryReport | singleCopy | ledgerLost | holdover | planFault (plan : Nat) | planSuspended (plan : Nat)
  | corePool | slotFaulted (slot : Nat) | plinthBank (bank : Nat) | nearChannel (g : Nat) | quarryDevice (k : Nat)
  | coreRetired | portDown (p : Nat) | frozen (fn : Nat) | ringParity (r : Nat) | emergency | haltRequest
  | faultReaction (source : Nat) | safe | laneSpares (p : Nat) | keySlot (k : Nat) | job (j : Nat) | target (t : Nat)
  | other (cls : Nat) (key : Nat)
  deriving DecidableEq, Repr

/-- Attention levels (R51). -/
inductive Level where
  | quiet | note | ask | degraded | halting
  deriving DecidableEq, Repr

/-- A condition with its level and its class. -/
structure AttnCond where
  why : Attn
  level : Level
  cls : Nat
  deriving DecidableEq, Repr

/-! ## Block agents (R16 to R21) -/

/-- The block state an agent reports. -/
inductive BlockState where
  | running | fenced | gated | resetting
  deriving DecidableEq, Repr

/-- One agent: its state, a fence in progress, a reset that follows the fence, and whether the block has been reset
since the fence began (R625). -/
structure AgentState where
  st : BlockState := .running
  fencing : Bool := false
  resetAfter : Bool := false
  resetDone : Bool := false
  deriving DecidableEq, Repr

/-- The answer an agent last gave to AC0: whether it took the command and, for STATUS, what it reported; for SAMPLE the live
values of its block's fields, keyed as in the register table. -/
structure AgentAnswer where
  agent : Agent
  taken : Bool
  st : BlockState
  active : List Nat
  bank : Tbl Nat := []
  deriving DecidableEq, Repr

/-! ## The fault hub (R617 to R635); its registers hold the sources and the history -/

/-- A held reaction (R628): its source, the highest reaction called for, the event's DETAIL, whether it was injected, and the tick of the hold. -/
structure HeldReaction where
  source : Nat
  reaction : Nat
  detail : Nat
  injected : Bool
  since : Nat
  deriving DecidableEq, Repr

/-- The hub's state beside its registers; `hang` holds the agents that have not yet answered a hang snapshot, by their position in the
source map (R670). -/
structure Hub where
  held : List HeldReaction := []
  faultN : Bool := false
  chipReset : Bool := false
  inReset : Bool := false
  hang : List Nat := []
  deriving DecidableEq, Repr

/-! ## The tick unit and the Plumb ring (R55 to R70) -/

/-- What the device puts on the ring (R56 to R58): the tick marker, a cell, or a cell forwarded with the bad CRC-16 it came with. -/
inductive RingCell where
  | marker
  | tick (number period master : Nat)
  | flags (byte : Nat)
  | probe (delay last : Nat)
  | msg (dest source kind : Nat) (data : List Nat)
  | bad (cell : RingCell)
  deriving DecidableEq, Repr

/-- The tick unit. `out` holds the cells of its own that wait for idle on the ring (R60), oldest first; `last` is the
cell it most recently put on the ring, its own or one it changed in passing, and `behind` the characters it held while
its own cell was on the output; `line` the characters of `last`, its CRC-16 among them. `frames` counts the frames since cold reset;
`join` and `leaveSent` hold the frame in which a join was asked and MSG LEAVING was sent, `rxAt` that of the first tick number
received; `taken` says that the number of a master has been taken since cold reset (R67), `acting` that a standby has become master
(R65); `adopt` is the number the next tick takes; `lower` a received number below the local count (R66); `markersSent` counts the
markers this device has sent (R58); `fired` holds the last item each Frieze slot created, `skip` the slots that have had their turn in
this frame, and `turn` the last of them (R87). -/
structure TickUnit where
  cycle : Nat := 0
  frames : Nat := 0
  rxAt : Nat := 0
  taken : Bool := false
  acting : Bool := false
  markersSent : Nat := 0
  line : List Nat := []
  turn : Option Nat := none
  join : Option Nat := none
  leaving : Bool := false
  leaveSent : Option Nat := none
  probeOut : Bool := false
  probeDue : Bool := false
  stopped : Bool := false
  sinceProbe : Nat := 0
  rxNumber : Option Nat := none
  rxPeriod : Nat := 0
  adopt : Option Nat := none
  lower : Option Nat := none
  phaseRun : Nat := 0
  out : List RingCell := []
  last : Option RingCell := none
  behind : List (BitVec 8) := []
  markers : Nat := 0
  trace : List Nat := []
  bypass : List Nat := []
  carriedWait : Bool := false
  fired : Tbl Nat := []
  skip : List Nat := []
  deriving DecidableEq, Repr

/-! ## Plans and the Frieze (R74 to R95) -/

/-- Plan states. -/
inductive PlanState where
  | loading | active | faulted | suspended | unloading
  deriving DecidableEq, Repr

/-- The header of a plan image (R74), as the loader keeps it. -/
structure PlanHeader where
  kind : Nat
  elastic : Bool
  period : Nat
  wcMin : Nat
  wcDesired : Nat
  imageLen : Nat
  wcCycles : Nat
  plinthBytes : Nat
  armInstr : Nat
  items : Nat
  slots : Nat
  footPlinth : Nat
  footNear : Nat
  footQuarry : Nat
  overrunLimit : Nat
  stepTable : Nat
  stepCount : Nat
  replyRing : Nat
  egress : List Nat
  ingress : List Nat
  deriving DecidableEq, Repr

/-- What a plan has used of the four measures in the present frame (R88): work-core cycles, Plinth bytes, Armature instructions, and
link bytes by port, egress and ingress. -/
structure PlanUse where
  wc : Nat := 0
  plinth : Nat := 0
  arm : Nat := 0
  egress : Tbl Nat := []
  ingress : Tbl Nat := []
  deriving DecidableEq, Repr

/-- A plan-table entry (R95) with its place in the table and what the loader keeps of it. `cores` is the grant in logical order (R159). -/
structure Plan where
  id : Nat
  entry : Nat := 0
  state : PlanState
  hdr : PlanHeader
  image : Nat
  cores : List Nat
  consec : Nat
  overruns : Nat
  loadSeq : Nat
  overran : Bool
  unloadSeq : Nat
  deriving DecidableEq, Repr

/-- A plan command awaiting its commit tick (R82): its item, its plan, the operation (0 load, 1 unload, 2 resume),
whether a tick has passed since its acceptance, and the cores it was granted at acceptance. -/
structure PlanCmd where
  seq : Nat
  plan : Nat
  op : Nat
  due : Bool
  grant : List Nat
  deriving DecidableEq, Repr

/-- A Frieze slot (R86). -/
structure FriezeSlot where
  kind : Nat
  plan : Nat
  step : Nat
  offset : Nat
  target : Nat
  phase : Nat
  cadence : Nat
  deriving DecidableEq, Repr

/-- The loader's tables, and each plan's use of the measures in the present frame. `readmit` marks a change of capacity and `regrant` a core's
return to service, for the next tick (R85, R163). -/
structure Loader where
  plans : List Plan := []
  cmds : List PlanCmd := []
  active : Tbl FriezeSlot := []
  shadow : Tbl FriezeSlot := []
  swap : Bool := false
  readmit : Bool := false
  regrant : Bool := false
  meters : Tbl PlanUse := []
  deriving DecidableEq, Repr

/-- A reply waiting to be written to a ring pair (R49, R484): `more` marks an intermediate reply, `seq` 0 a refusal. -/
structure Reply where
  ring : Nat
  code : Nat
  tag : Nat
  seq : Nat
  replayed : Bool
  single : Bool
  carried : Bool
  more : Bool
  lo : Nat
  hi : Nat
  deriving DecidableEq, Repr

/-- BAR0 access state (R6): held lower halves and upper-half latches, by requester and word address, and the value
the last completed read returned. -/
structure Bus where
  held : List (Req × Nat × Nat) := []
  latch : List (Req × Nat × Nat) := []
  data : Nat := 0
  deriving DecidableEq, Repr

/-- Device memory: bytes by device address in canonical form, and the poisoned granules by their first address. -/
structure Memory where
  cells : List Host.Cell := []
  poison : List Nat := []
  deriving DecidableEq, Repr

end Sys2Proof.Machine
end

