-- ==== Sys2Proof/Machine/PartsCkp.lean ====
section
/-! DEFINITION. State of the checkpoint engine beside its registers (chapter 16). -/
namespace Sys2Proof.Machine
open Sys2Proof

/-- A range of a job (R550). -/
structure CkpRange where
  addr : Nat
  pages : Nat
  logical : Nat
  deriving DecidableEq, Repr

/-- A captured page (R559 to R566): its capture-buffer page (none once freed), logical page, poison, batch, hash, writer, and the
shard header block and entry that hold it. -/
structure CkpCap where
  slot : Option Nat
  logical : Nat
  poison : Bool
  batch : Option Nat := none
  hash : List Nat := []
  writer : Option Nat := none
  place : Option (Nat × Nat) := none
  deriving DecidableEq, Repr

/-- A batch: whether its round's answers have arrived, the writers that confirmed it, and whether it is confirmed. -/
structure CkpBatch where
  answered : Bool := false
  confirmed : List Nat := []
  done : Bool := false
  deriving DecidableEq, Repr

/-- A running checkpoint (R574): its item, step, kind, the nodes lost, the captured pages and batches, whether the walk has ended, the
node's segment and the root once written (block, entries, blocks, SHA-256), pages this node wrote, whether the item was returned and asks
for the outcome (R576), whether a captured page was poisoned, and the KiB that the walker may still copy in this frame (R563). -/
structure CkpRun where
  seq : Nat
  step : Nat
  full : Bool
  lost : List Nat := []
  caps : List CkpCap := []
  batches : List CkpBatch := []
  walked : Bool := false
  segment : Option (Nat × Nat × Nat × List Nat) := none
  root : Option (Nat × Nat × List Nat) := none
  wrote : Nat := 0
  asking : Bool := false
  poison : Bool := false
  credit : Nat := 0
  deriving DecidableEq, Repr

/-- A job that is not EMPTY (R550): its record and ranges, the CKP_STEP that waits for its fence, the checkpoint notified with its kind, the step
and the tick of the last one started, CKP_NOW met and full, incremental checkpoints since a full one, HEAD after the last commit,
CKP_NUMBER, the last committed root (step, chain length, block, SHA-256), the running checkpoint and the restore's item. -/
structure CkpJob where
  raw : List Nat
  ranges : List CkpRange
  stepSeq : Option (Nat × Nat) := none
  notice : Option (Nat × Bool) := none
  lastStep : Nat := 0
  lastTick : Nat := 0
  now : Bool := false
  nowFull : Bool := false
  incr : Nat := 0
  headKept : Nat := 0
  number : Nat := 0
  base : Option (Nat × Nat × Nat × List Nat) := none
  run : Option CkpRun := none
  restore : Option Nat := none
  deriving DecidableEq, Repr

/-- The checkpoint engine. `store` holds the blocks written to the shared store: namespace, block, bytes; `notices` the notices rank 0
broadcast: job, step, whether the checkpoint is asked to be full. -/
structure CkpUnit where
  jobs : Tbl CkpJob := []
  recs : Tbl (List Nat) := []
  store : List (Nat × Nat × List Nat) := []
  notices : List (Nat × Nat × Bool) := []
  deriving DecidableEq, Repr

end Sys2Proof.Machine
end

