-- ==== Sys2Proof/Machine/PartsWork.lean ====
section
/-! DEFINITION. State of the work cores beside their registers (chapter 04), and of the host windows (chapter 13). -/
namespace Sys2Proof.Machine
open Sys2Proof

/-- What a core keeps of a work item from its dispatch to its reply: the core, the runs so far, the outcome of the last
run (its flags, output length and result, whether poisoned data went in, and the code it is withdrawn with, 0 for none), the cycles
of R150 it was charged, its in-place writes, each as its address in the redo area, its destination and its length (R153), and the stochastic
key of its core when the run started (R156), and the unit. -/
structure WorkRun where
  core : Nat := 0
  runs : Nat := 0
  done : Bool := false
  flags : Nat := 0
  outLen : Nat := 0
  result : Nat := 0
  poison : Bool := false
  fail : Nat := 0
  cycles : Nat := 0
  staged : List (Nat × Nat × Nat) := []
  key : Nat := 0
  unit : Nat := 0
  deriving DecidableEq, Repr

/-- One contribution of a REDUCE_ARRIVE as it arrives: its port, the bytes received, by offset, and the offsets of those that came
poisoned (R137, R149, R178). -/
structure Contribution where
  port : Nat
  bytes : Tbl Nat
  bad : List Nat
  deriving DecidableEq, Repr

/-- A line of an operand buffer that has failed its CRC: its core, the item it serves, and its failures within that item (R126). -/
structure ObLine where
  core : Nat
  line : Nat
  seq : Nat
  count : Nat
  deriving DecidableEq, Repr

/-- The work cores. `logical` is the logical core an item names, 256 for any core (R159, R326); `arrive` holds contributions by item. -/
structure WorkUnit where
  runs : Tbl WorkRun := []
  logical : Tbl Nat := []
  obFail : List ObLine := []
  arrive : Tbl (List Contribution) := []
  configured : Nat := 60
  deriving DecidableEq, Repr

/-- A host window entry (R477). -/
structure HWin where
  base : Nat := 0
  limit : Nat := 0
  valid : Bool := false
  read : Bool := false
  write : Bool := false
  at_ : Bool := false
  pasidEn : Bool := false
  pasid : Nat := 0
  func : Nat := 0
  deriving DecidableEq, Repr

end Sys2Proof.Machine
end

