-- ==== Sys2Proof/Machine/PartsColl.lean ====
section
/-! DEFINITION. State of the collective engine (chapter 05): groups, persistent slots, firings, requests and the pace symbols the
device has sent. -/
namespace Sys2Proof.Machine
open Sys2Proof

/-- A PACE symbol the device sent: port, line, argument. -/
structure PaceSym where
  port : Nat
  line : Nat
  arg : Nat
  deriving DecidableEq, Repr

/-- A firing in progress (R194, R202): its number, the members whose TRIGGER was taken, the contributions by port, the granules
written, whether its egress waits for an allowance (R195), whether it waits for its stripe to be held again, RESEND events,
runs, and its arithmetic flags and poison so far. -/
structure Firing where
  number : Nat
  members : List Nat := []
  contribs : List Contribution := []
  written : List Nat := []
  waits : Bool := false
  resends : Nat := 0
  runs : Nat := 1
  flags : Nat := 0
  poison : Bool := false
  deriving DecidableEq, Repr

/-- STATE of a slot record (R190). -/
inductive SlotState where
  | empty | arming | armed | faulted | disarming
  deriving DecidableEq, Repr

/-- A persistent slot: bytes 0 to 47 of its record in w0 to w5, the device's fields, the firings in progress, the next firing
number each member triggers, the members whose contribution is dropped, and the SLOT_ARM or SLOT_DISARM that waits. -/
structure SlotRec where
  img : Desc := {}
  state : SlotState := .empty
  firing : Nat := 0
  lastSeq : Nat := 0
  overdraws : Nat := 0
  resends : Nat := 0
  latMax : Nat := 0
  allowance : Nat := 0
  firings : List Firing := []
  next : Tbl Nat := []
  dropping : List Nat := []
  armSeq : Nat := 0
  disarmSeq : Nat := 0
  due : Bool := false
  deriving DecidableEq, Repr

/-- A cross-node message the device sent (R186, R204): connection, opcode, GROUP_KEY, chunk offset, and its bytes with their poison. -/
structure CollMsg where
  conn : Nat
  op : Nat
  key : Nat
  ofs : Nat
  data : List (Nat × Bool)
  deriving DecidableEq, Repr

/-- A chunk of a request (R186): the node that sent it, its place in the request's exchange, its bytes, and where they stand: at an address
of the group's staging area, or kept beside it (address 0) when the area has no room. -/
structure StagedChunk where
  node : Nat
  ofs : Nat
  len : Nat
  addr : Nat
  kept : List (Nat × Bool)
  deriving DecidableEq, Repr

/-- A request in progress: its stream (R178), its runs, whether its own part stands in the staging area, the chunks staged, the parts of
the exchange that have been sent, the rank named by the send that answered a receive, and the flags and poison of its steps so far. -/
structure CollRun where
  stream : Nat := 0
  runs : Nat := 0
  begun : Bool := false
  staged : List StagedChunk := []
  sent : List Nat := []
  rank : Nat := 0
  flags : Nat := 0
  poison : Bool := false
  deriving DecidableEq, Repr

/-- A part of a cross-node message that has arrived: group, node, tag, kind of message, the rank it names, its place and its bytes. -/
structure CollPart where
  group : Nat
  node : Nat
  tag : Nat
  type : Nat
  rank : Nat
  ofs : Nat
  data : List (Nat × Bool)
  deriving DecidableEq, Repr

/-- The collective engine. A group not listed is EMPTY; `early` holds what has arrived for a request not yet accepted, `ready` the receives
that peer nodes have announced, `open_` the message being received on each connection, and `answers` the COLL_ABORT messages answered
ALREADY_DONE, by connection and tag. -/
structure CollUnit where
  groups : Tbl Desc := []
  slots : Tbl SlotRec := []
  runs : Tbl CollRun := []
  early : List CollPart := []
  ready : List CollPart := []
  open_ : Tbl CollPart := []
  pace : List PaceSym := []
  out : List CollMsg := []
  answers : List (Nat × Nat) := []
  deriving DecidableEq, Repr

end Sys2Proof.Machine
end

