-- ==== Sys2Proof/Machine/PartsDma.lean ====
section
/-! DEFINITION. State of the DMA engines beside their registers (chapter 14). -/
namespace Sys2Proof.Machine
open Sys2Proof

/-- A transfer (R506 to R522): bytes whose writes were acknowledged, bursts begun and moved, bursts that rerun without a credit,
whether a burst's reads are under way, whether every write is made and the read-back outstanding, poison met, runs begun, and the
tick since which it has waited for a credit. -/
structure DmaRun where
  bytes : Nat := 0
  begun : Nat := 0
  moved : Nat := 0
  free : Nat := 0
  burst : Bool := false
  readback : Bool := false
  poison : Bool := false
  runs : Nat := 0
  waitSince : Option Nat := none
  dropped : Bool := false
  deriving DecidableEq, Repr

/-- The DMA block: the transfers that have not ended, and the bytes the read engine has moved in the present frame (R518). -/
structure DmaUnit where
  runs : Tbl DmaRun := []
  read : Nat := 0
  deriving DecidableEq, Repr

end Sys2Proof.Machine
end

