-- ==== Sys2Proof/Machine/PartsDvt.lean ====
section
/-! DEFINITION. State of Dalivitric Transport beside its registers (chapter 11). -/
namespace Sys2Proof.Machine
open Sys2Proof

/-- A DVT packet (R403): its header fields and its payload. -/
structure DvtPkt where
  op : Nat
  flags : Nat
  path : Nat
  reason : Nat
  dst : Nat
  psn : Nat
  msn : Nat
  offset : Nat
  rkey : Nat
  msgBytes : Nat
  data : List Nat
  deriving DecidableEq, Repr

/-- A packet of the device's sending space that is not yet acknowledged: the item it belongs to (0 none), the local address a
WRITE's payload is read from again (R412), how often it was sent (0: it waits for a window), and, for a READ_RESP, the region and
message it answers (R430). -/
structure DvtSent where
  pkt : DvtPkt
  item : Nat
  src : Option (Nat × Nat)
  sends : Nat
  region : Option (Nat × Nat)
  deriving DecidableEq, Repr

/-- A path (R416, R417). `probeAt` is the tick it failed at or was last probed at. -/
structure DvtPath where
  window : Nat := 16
  mark : Nat := 0
  timeouts : Nat := 0
  failed : Bool := false
  ecn : Bool := false
  probeAt : Nat := 0
  deriving DecidableEq, Repr

/-- Connection states (R409). -/
inductive ConnState where
  | connecting | open | reconnecting | error | closing
  deriving DecidableEq, Repr

/-- An operation's PSNs and message (R426), the bytes a READ has received and whether any was poisoned. -/
structure DvtOp where
  seq : Nat
  first : Nat
  last : Nat
  msn : Nat
  got : Nat
  poison : Bool
  deriving DecidableEq, Repr

/-- A connection that is not CLOSED (R407 to R426): its record, the item that opens or closes it, the state it was closed from, and the sends of CONNECT, its
sending space, its receiving space, and the operations that wait to be started or are under way. -/
structure DvtConn where
  state : ConnState
  mode : Nat
  paths : Nat
  portMask : Nat
  pd : Nat
  budget : Nat
  peer : Nat
  peerConn : Nat
  sport : Nat
  fn : Nat
  openSeq : Nat := 0
  closeSeq : Nat := 0
  closeFrom : ConnState := .open
  connects : Nat := 0
  peerClosed : Bool := false
  start : Nat := 0
  nextPsn : Nat := 0
  nextMsn : Nat := 0
  acked : Nat := 0
  expected : Nat := 0
  pathTbl : Tbl DvtPath := []
  sent : List DvtSent := []
  todo : List Nat := []
  ops : List DvtOp := []
  staged : List DvtPkt := []
  need : List Nat := []
  incoming : Tbl (Nat × Nat) := []
  atomics : List (Nat × Nat) := []
  deriving DecidableEq, Repr

/-- A region (R427, R430): state 0 while its REGION_REG has not committed, 1 ACTIVE, 2 REVOKING; the in-flight messages as
connection and message number, the item that registers or revokes it, and the tick of the revoke point. -/
structure DvtRegion where
  base : Nat
  len : Nat
  rights : Nat
  state : Nat
  pd : Nat
  inflight : List (Nat × Nat) := []
  seq : Nat := 0
  since : Nat := 0
  deriving DecidableEq, Repr

/-- A packet on its way to a port: its connection's mode, the port index and the path's route tag or source port. -/
structure DvtOut where
  conn : Nat
  mode : Nat
  port : Nat
  route : Nat
  pkt : DvtPkt
  deriving DecidableEq, Repr

/-- DVT: connections, regions and the generations of region indices, the conns whose context is on the die (most recently used first), the packets
handed to the network ports (those of MODE 0 until the port makes frames of them), and the packet being put together on each DVL port. -/
structure DvtUnit where
  conns : Tbl DvtConn := []
  regions : Tbl DvtRegion := []
  gens : Tbl Nat := []
  cache : List Nat := []
  wire : List DvtOut := []
  part : Tbl (List Nat) := []
  deriving DecidableEq, Repr

/-- The port index of a path (R407). -/
def DvtConn.port (c : DvtConn) (j : Nat) : Nat :=
  let ks := (List.range 4).filter (fun k => c.portMask / 2 ^ k % 2 = 1)
  8 + ks.getD (j % max ks.length 1) 0

end Sys2Proof.Machine
end

