-- ==== Sys2Proof/Machine/PartsFw.lean ====
section
/-! DEFINITION. State of firmware loading and activation beside the AMT registers (chapter 09). -/
namespace Sys2Proof.Machine
open Sys2Proof

/-- A trace point that firmware on a core reaches (R362, R363): its number, its level, the sequence number in hand and its arguments. -/
structure TracePoint where
  core : Nat
  point : Nat
  level : Nat
  seq : Nat
  args : List Nat
  deriving DecidableEq, Repr

/-- Boot flash bytes written since manufacture, by device × 2^29 + offset; whether the two image parts of the store have
exchanged roles; the FW_ACTIVATE in hand (0 none) with its slot and mode, and the core that switches next; cores' ENDs that have
not completed, as core and item; the tick of each core's last watchdog pet, and at which it
was halted for debug; the plan and the Frieze slot of an inbox entry of a plan step, keyed
256 n + i; the trace-point enable map, by 32-bit word (R378); the trace points that firmware has reached and that are not yet served,
oldest first, and the instructions each core has spent on records in this frame (R363); the ACCEPTs that wait, as core and inbox entry (R360). -/
structure FwUnit where
  flash : Tbl Nat := []
  swapped : Bool := false
  actSeq : Nat := 0
  actSlot : Nat := 0
  actMode : Nat := 0
  next : Nat := 15
  ends : List (Nat × Nat) := []
  pets : Tbl Nat := []
  haltAt : Tbl Nat := []
  stepPlan : Tbl (Nat × Nat) := []
  traceMap : Tbl Nat := []
  points : List TracePoint := []
  logCost : Tbl Nat := []
  accepting : Tbl Nat := []
  deriving DecidableEq, Repr

end Sys2Proof.Machine
end

