-- ==== Sys2Proof/Machine/PartsHost.lean ====
section
/-! DEFINITION. State of the host endpoint beside its registers (chapter 13). -/
namespace Sys2Proof.Machine
open Sys2Proof

/-- A pool record of a VF (R489). STATE: 0 DISABLED, 1 ACTIVE, 2 NO_RESOURCES, 3 FLR. -/
structure PoolRec where
  ringFirst : Nat := 0
  ringCount : Nat := 0
  vectors : Nat := 0
  hwinFirst : Nat := 0
  hwinCount : Nat := 0
  state : Nat := 0
  memBase : Nat := 0
  qpairs : Nat := 0
  deriving DecidableEq, Repr

/-- A read request of an item on a host link (R496): its PF, its tag (none: discarded, to be reissued), the item, the requester,
the tick of its issue, whether it is the retry, and whether it is a read-back (R513). -/
structure HostRead where
  pf : Nat
  tag : Option Nat
  seq : Nat
  fn : Nat
  since : Nat
  retried : Bool
  back : Bool
  deriving DecidableEq, Repr

/-- A VF's mailbox (R491). -/
structure Mbox where
  out : List Nat := []
  db : Bool := false
  inn : List Nat := []
  inValid : Bool := false
  deriving DecidableEq, Repr

/-- What a ring pair's interrupts need (R488): replies since the last message, the tick of the first of them, the attention state of the
last reply. -/
structure RingInt where
  count : Nat := 0
  first : Nat := 0
  attn : Nat := 0
  deriving DecidableEq, Repr

/-- An open written-page log (R492). -/
structure DirtyLog where
  hbase : Nat
  pages : Nat
  bitmap : Nat
  deriving DecidableEq, Repr

/-- The host endpoint. `hwin` is keyed PF × 128 + entry, `pools` and `dirty` PF × 64 + VF. `vfMe` lists the VFs whose Bus Master
Enable is set, `aer` the AER Uncorrectable Error Status bits by PF × 65,536 + bit, `unmasked` and `msiPend` the MSI-X vectors by
function × 2,048 + vector, `msix` the messages sent, `atc` the translations held by PF × 2^52 + page, `mirrorHeld` the mirror writes
held, `flr` the functions in reset, `vfOff` the VFs being disabled. -/
structure Hif where
  hwin : Tbl HWin := []
  pools : Tbl PoolRec := []
  reads : List HostRead := []
  quar : List (Nat × Nat × Nat) := []
  vfMe : List Nat := []
  aer : List Nat := []
  unmasked : List Nat := []
  msiPend : List Nat := []
  msix : List (Nat × Nat) := []
  ints : Tbl RingInt := []
  mirrorHeld : List (Nat × Nat × List Nat) := []
  dirty : Tbl DirtyLog := []
  atc : List Nat := []
  mbox : Tbl Mbox := []
  flr : List Nat := []
  vfOff : List Nat := []
  deriving DecidableEq, Repr

end Sys2Proof.Machine
end

