-- ==== Sys2Proof/Machine/PartsKv.lean ====
section
/-! DEFINITION. State of the KV store (chapter 06) beside its registers and its memory: the block map and the run directory
lie in device memory. -/
namespace Sys2Proof.Machine
open Sys2Proof

/-- STATE of a sequence (R215). -/
inductive SeqState where
  | ready | closing
  deriving DecidableEq, Repr

/-- A sequence record: its 32 bytes in w0 to w3. -/
structure SeqRec where
  img : Desc
  state : SeqState
  deriving DecidableEq, Repr

/-- STATE of a service (R228). -/
inductive SvcState where
  | bound | unbinding
  deriving DecidableEq, Repr

/-- An attention service: its record, the ring entries whose QUERY is pending and not yet taken, as port and entry in arrival
order, the entries pending in all, and the SVC_UNBIND that waits. -/
structure SvcRec where
  img : Desc
  state : SvcState
  queue : List (Nat × Nat) := []
  pending : List (Nat × Nat) := []
  unbindSeq : Nat := 0
  deriving DecidableEq, Repr

/-- A block by sequence, layer and number. -/
structure BlockId where
  s : Nat
  layer : Nat
  block : Nat
  deriving DecidableEq, Repr

/-- A queued block move (R245): block and target tier (0 Plinth, 1 near tier, 2 Quarry). -/
structure KvMove where
  block : BlockId
  tier : Nat
  deriving DecidableEq, Repr

/-- The block move in progress: the address the entry held, the first new cell, and how many there are. -/
structure KvMoving where
  block : BlockId
  tier : Nat
  old : Nat
  cell : Nat
  cells : Nat
  done : Nat := 0
  deriving DecidableEq, Repr

/-- An extent of map entries: first index and length. -/
structure Extent where
  base : Nat
  cap : Nat
  deriving DecidableEq, Repr

/-- A record of the change log (R250): a map entry by its index, or the directory entry of a sequence's layer. -/
inductive KvLog where
  | entry (index : Nat)
  | dir (s layer : Nat)
  deriving DecidableEq, Repr

/-- What a query's run found (R235), kept until its commit. -/
structure QueryRun where
  blocks : Nat := 0
  skipped : Nat := 0
  runs : Nat := 1
  deriving DecidableEq, Repr

/-- The KV store. `ext` are the extents of the runs of the active version, `old` extents awaiting GLB_LEDGER_LOW with their H,
`log` the change log: the map writes not yet applied to the inactive version (where it stands in the Plinth is not given); `running` is the
MAP_COMPACT that compaction serves, `waiting` those that were answered DEFERRED; `restart` the tick an abandoned compaction may start again
at; `retireH` the H of RETIRE; `swept` the frame of the last heat sweep; `moveLeft` the bytes of tier traffic the mover may still cause in this
frame. -/
structure KvUnit where
  seqs : Tbl SeqRec := []
  svcs : Tbl SvcRec := []
  ext : List Extent := []
  old : List (Extent × Nat) := []
  log : List KvLog := []
  waiting : List Nat := []
  running : Option Nat := none
  restart : Option Nat := none
  retireH : Nat := 0
  swept : Nat := 0
  moveQ : List KvMove := []
  moving : Option KvMoving := none
  paused : Bool := false
  moveLeft : Nat := 0
  runs : Tbl QueryRun := []
  deriving DecidableEq, Repr

end Sys2Proof.Machine
end

