-- ==== Sys2Proof/Machine/PartsLink.lean ====
section
/-! DEFINITION. State of the ports beside their registers (chapter 10). -/
namespace Sys2Proof.Machine
open Sys2Proof

/-- A frame the device sent and still keeps, or one that waits for credit: SEQ, TYPE, CTX, flit, control symbol, how often it
has been resent, and the credit it returns (CRD). -/
structure TxFrame where
  seq : Nat
  type : Nat
  ctx : Nat
  flit : List Nat
  sym : Nat × Nat × Nat
  resent : Nat
  crd : Nat
  deriving DecidableEq, Repr

/-- A calibration session of the receiver (R389): the position (16 the spare) and its step: 1 STEER_PREP sent, 2 training,
3 RETURN_PREP sent. -/
structure Session where
  pos : Nat
  step : Nat
  deriving DecidableEq, Repr

/-- One port. Transmit: frames kept for replay, frames waiting for credit, next SEQ, credits, sequenced frames in the open record,
its number and phase. Receive: next SEQ expected, whether a NAK is out, frames whose credit is owed by VC, and the firings and
items that consumed flits of the record not yet verified. Lanes: the half in use (none, 0 lower, 1 upper), the session, the next
position, the position to retry and when, consecutive low margins, and what the transmitter does for the partner's rotation:
position mirrored on the spare, position in training, position moved to the spare, spare in training. The command that waits:
PORT_UP. `dead` marks a sealed port whose transmit slot cannot seal, so that it sends IDLE (R605); `unkeyed` one that a failed tag put DOWN
and that has not been keyed again (R387). -/
structure LinkPort where
  tx : List TxFrame := []
  waiting : List TxFrame := []
  txNext : Nat := 0
  credit0 : Nat := 256
  credit1 : Nat := 1024
  recFrames : Nat := 0
  recNo : Nat := 0
  phase : Nat := 0
  rxNext : Nat := 0
  nakSent : Bool := false
  owe0 : Nat := 0
  owe1 : Nat := 0
  rxFirings : List (Nat × Nat) := []
  rxItems : List Nat := []
  half : Option Nat := none
  session : Option Session := none
  nextPos : Nat := 0
  retry : Option (Nat × Nat) := none
  low : Tbl Nat := []
  txMirror : Option Nat := none
  txTrain : Option Nat := none
  txSpared : Option Nat := none
  txSpareTrain : Bool := false
  upSeq : Nat := 0
  dead : Bool := false
  unkeyed : Bool := false
  deriving DecidableEq, Repr

/-- A MACsec secure association: key slot and packet number (R396, R397). -/
structure MacsecSa where
  slot : Nat
  xpn : Nat
  deriving DecidableEq, Repr

/-- The ports, the secure associations by port, MAC, channel and association, whether calibration is paused (R399), and the timestamps of the
last frame received and of the last frame sent on each MAC (R398). -/
structure LinkUnit where
  ports : Tbl LinkPort := []
  sas : Tbl MacsecSa := []
  calPaused : Bool := false
  rxStamp : Tbl Nat := []
  txStamp : Tbl Nat := []
  deriving DecidableEq, Repr

end Sys2Proof.Machine
end

