-- ==== Sys2Proof/Machine/PartsMem.lean ====
section
/-! DEFINITION. State of the memory controllers and of the paged range (chapter 07). -/
namespace Sys2Proof.Machine
open Sys2Proof

/-- A merge-buffer entry (R260): the word's address and the bytes written, by offset in the word. -/
structure MergeEntry where
  word : Nat
  bytes : Tbl Nat
  deriving DecidableEq, Repr

/-- A remap-table entry (R267, R300): where it comes from (0 Maquette, 1 Patina, 2 run-time) and the die word. -/
structure RemapEntry where
  source : Nat
  word : Nat
  deriving DecidableEq, Repr

/-- STATE of a page-table entry (R288). -/
inductive PageState where
  | unmapped | valid | migrating | poisoned
  deriving DecidableEq, Repr

/-- A page-table entry (R288). -/
structure PTE where
  tpage : Nat
  state : PageState
  tier : Nat
  pin : Bool
  dirty : Bool
  cow : Bool
  heat : Nat
  deriving DecidableEq, Repr

/-- A pool of equal units the device allocates from (R259): its extents as first address and number of units, in the order the
Maquette names them, bytes a unit, and the units in use, by index. -/
structure Pool where
  ext : List (Nat × Nat) := []
  unit : Nat := 1
  used : List Nat := []
  deriving DecidableEq, Repr

/-- Units waiting for GLB_LEDGER_LOW to exceed H before they return to their pool (R227, R291). -/
structure Reclaim where
  pool : Nat
  units : List Nat
  h : Nat
  deriving DecidableEq, Repr

/-- A queued page move (R292): page and target tier. -/
structure PageMove where
  page : Nat
  tier : Nat
  deriving DecidableEq, Repr

/-- The page move in progress (R293): page, target tier, target unit of its page pool, and the KiB copied in earlier frames. -/
structure PageMoving where
  page : Nat
  tier : Nat
  unit : Nat
  done : Nat := 0
  deriving DecidableEq, Repr

/-- The memory controllers' state beside their registers. Pools: 0 to 2 page pools of Plinth, near tier and Quarry;
3 to 5 the KV pools of the same tiers; 6 the summary pool; 7 the reorder region; plan pools are bounds only. The initialised
map is kept as ranges (first page, pages); `poisonBanks` holds the banks a spare took over, with the words written since; `leftOut` the
channels, and 24 + k the CXL devices, whose pages the last cold start left out of the pools; `swept` the frame of the last migration sweep, and
`migLeft` the KiB that moves may still copy in this frame. -/
structure MemUnit where
  merge : List MergeEntry := []
  flips : Tbl Nat := []
  ceSeen : List (Nat × Nat) := []
  ueSeen : List (Nat × Nat × Nat) := []
  remap0 : List RemapEntry := []
  remap1 : List RemapEntry := []
  spareOf : Tbl Nat := []
  filling : List Nat := []
  retired : List Nat := []
  initPlinth : List (Nat × Nat) := []
  initNear : List (Nat × Nat) := []
  poisonBanks : Tbl (List Nat) := []
  scrub0 : Nat := 0
  scrub1 : Nat := 0
  inWindow : List Nat := []
  retrainFails : Tbl Nat := []
  edcSeen : List (Nat × Nat) := []
  pt : Tbl PTE := []
  xlat : Tbl Nat := []
  pools : Tbl Pool := []
  planPlinth : Nat := 0
  planNear : Nat := 0
  planQuarry : Nat := 0
  reclaim : List Reclaim := []
  moveQ : List PageMove := []
  moving : Option PageMoving := none
  paused : Bool := false
  leftOut : List Nat := []
  swept : Nat := 0
  migLeft : Nat := 0
  deriving DecidableEq, Repr

end Sys2Proof.Machine
end

