-- ==== Sys2Proof/Machine/PartsNvme.lean ====
section
/-! DEFINITION. State of the storage front end beside its registers (chapter 15). -/
namespace Sys2Proof.Machine
open Sys2Proof

/-- A submission queue: its near-tier address, entries, priority class (QPRIO), completion queue, head and tail, its global queue
number, and the Delete command that waits for it. -/
structure NvmeSq where
  base : Nat
  size : Nat
  prio : Nat
  cq : Nat
  head : Nat := 0
  tail : Nat := 0
  global : Nat := 0
  deleting : Option Nat := none
  deriving DecidableEq, Repr

/-- A completion that is due: queue, command identifier, status (SCT × 256 + SC), dword 0, sequence. -/
structure NvmeCqe where
  sq : Nat
  cid : Nat
  status : Nat
  dw0 : Nat
  seq : Nat
  deriving DecidableEq, Repr

/-- A completion queue: bus address, entries, vector (none without interrupts), head, tail, phase, and the entries that wait. -/
structure NvmeCq where
  base : Nat
  size : Nat
  vector : Option Nat
  head : Nat := 0
  tail : Nat := 0
  phase : Nat := 1
  wait : List NvmeCqe := []
  deriving DecidableEq, Repr

/-- A controller (R526 to R531): its properties, features, queues, arbitration position (the last urgent queue and the last queue of each
class, the class being visited, what is left of its weight and of the queue's burst), the image bytes downloaded, the activation that
follows a staging, the reset in progress and the replies that go to the report. -/
structure NvmeCtl where
  cc : Nat := 0
  rdy : Bool := false
  cfs : Bool := false
  aqa : Nat := 0
  asq : Nat := 0
  acq : Nat := 0
  cmbmsc : Nat := 0
  features : Tbl Nat := []
  sqs : Tbl NvmeSq := []
  cqs : Tbl NvmeCq := []
  lastUrgent : Nat := 0
  lastOf : Tbl Nat := []
  cls : Nat := 1
  weight : Nat := 0
  burst : Nat := 0
  pairs : Nat := 0
  image : Nat := 0
  chain : Option (Nat × Nat × Nat) := none
  resetting : Bool := false
  report : List (Nat × Nat) := []
  deriving DecidableEq, Repr

/-- A namespace (R532) that is ACTIVE. -/
structure NvmeNs where
  backing : Nat
  nsid : Nat
  lbads : Nat
  target : Nat
  nsze : Nat
  base : Nat
  attach : Nat
  raw : List Nat
  deriving DecidableEq, Repr

/-- A remote target (R533, R534): its record, STATE (1 CONNECTING, 2 READY, 3 LOST), the command that waits for it, the ticks of its recent
timeouts and the tick of the last attempt to reconnect. -/
structure NvmeTarget where
  raw : List Nat
  state : Nat
  seq : Nat := 0
  timeouts : List Nat := []
  tried : Nat := 0
  deriving DecidableEq, Repr

/-- An accepted I/O command, which holds its range-lock entry (R539): opcode (0 Flush, 1 Write, 2 Read, 8 Write Zeroes), namespace index,
LBAs, its pages, and its data: the host's for a Write, or what the target returned for a Read; whether it has started; whether the
target's data is here; the status a target returned. -/
structure NvmeCmd where
  fn : Nat
  qid : Nat
  cid : Nat
  op : Nat
  ns : Nat
  slba : Nat
  count : Nat
  prps : List Nat
  data : List Nat
  started : Bool := false
  got : Bool := false
  status : Option Nat := none
  deriving DecidableEq, Repr

/-- A back-end command out at a target: its item, the tick it was sent, whether it is the second. -/
structure NvmeBack where
  seq : Nat
  target : Nat
  since : Nat
  resent : Bool
  deriving DecidableEq, Repr

/-- A reply that became due for an NVMe command: function, queue, command, reply code, sequence. -/
structure NvmeDue where
  fn : Nat
  qid : Nat
  cid : Nat
  code : Nat
  seq : Nat
  deriving DecidableEq, Repr

/-- The storage front end. `hand` lists the commands fetched and not yet decided by function and queue; `hostOut` holds what was written
to host memory at a bus address. -/
structure NvsUnit where
  ctls : Tbl NvmeCtl := []
  ns : Tbl NvmeNs := []
  targets : Tbl NvmeTarget := []
  cmds : Tbl NvmeCmd := []
  back : List NvmeBack := []
  due : List NvmeDue := []
  hand : List (Nat × Nat) := []
  pos : Nat := 0
  left : Nat := 0
  recs : Tbl (List Nat) := []
  hostOut : List (Nat × Nat × List Nat) := []
  deriving DecidableEq, Repr

end Sys2Proof.Machine
end

