-- ==== Sys2Proof/Machine/PartsObs.lean ====
section
/-! DEFINITION. State of Patina beside its registers (chapter 20). -/
namespace Sys2Proof.Machine
open Sys2Proof

/-- A Patina record (R675), but for its MAC: type, SEQ, tick and the numbers of its body. -/
structure PatRec where
  type : Nat
  seq : Nat
  tick : Nat
  body : List Nat
  deriving DecidableEq, Repr

/-- Patina: the records in flash, oldest first; event records held while PAT is FENCED; the working copy of the summary and
the summary last written, as numbers by their offset in the summary body (R676); when the histograms are next sampled
and when the next summary is due, in 250 ns units of tick time; and the blocks marked bad. -/
structure Patina where
  log : List PatRec := []
  held : List PatRec := []
  nextSeq : Nat := 1
  work : Tbl Nat := []
  summary : Tbl Nat := []
  time : Nat := 0
  histDue : Nat := 0
  sumDue : Nat := 0
  block : Nat := 0
  bad : List Nat := []
  deriving DecidableEq, Repr

/-- The instruction trace beside its registers (R665, R666): each core's FIFO of records, oldest first, the records each core has dropped
since its last LOSS record, and the core the funnel served last; the next index of the trigger reserve's lower half, the records its
upper half holds, the records the buffer still takes after the trigger, and a trigger a fault source has called for. Then the
observation of the present frame (R663): its bytes to the Plinth, its Armature instructions, and whether any of it was dropped. -/
structure TraceUnit where
  fifo : Tbl (List (List Nat)) := []
  lost : Tbl Nat := []
  turn : Nat := 0
  obsPlinth : Nat := 0
  obsArm : Nat := 0
  capped : Bool := false
  low : Nat := 0
  high : Nat := 0
  left : Nat := 0
  due : Bool := false
  deriving DecidableEq, Repr

/-- Caliper (R671 to R674): whether an emergency is in force, the tick of the last flag and of the last emergency's end, whether
this device sets the power and thermal flags, the mean power of the last frames, newest first, the dies above EMERG_C, whether
turbo is granted, and for each port the budget last sent with its tick and the power last reported; whether an emergency flag was set or
received in this frame; whether the record of the frame that `frame` opened is due, and the counts it covers, as they stood at its end
and at its beginning. -/
structure Caliper where
  emergency : Bool := false
  lastFlag : Nat := 0
  ended : Nat := 0
  power : Bool := false
  thermal : Bool := false
  means : List Nat := []
  turbo : Bool := false
  sent : Tbl (Nat × Nat) := []
  reported : Tbl Nat := []
  flagged : Bool := false
  due : Bool := false
  frame : Nat := 0
  totals : List Nat := []
  base : List Nat := []
  deriving DecidableEq, Repr

end Sys2Proof.Machine
end

