-- ==== Sys2Proof/Machine/PartsPkt.lean ====
section
/-! DEFINITION. State of the packet path beside its registers (chapter 12). -/
namespace Sys2Proof.Machine
open Sys2Proof

/-- An exact-match entry (R445). `id` tells it apart in the rebuild's log; `pend` is the RULE_ADD that holds the slot before its
commit point (0 none: the entry is VALID). -/
structure EmEntry where
  id : Nat
  key : List Nat
  profile : Nat
  addVer : Nat
  delVer : Nat
  deleted : Bool
  action : Nat
  pend : Nat
  deriving DecidableEq, Repr

/-- A copy of the exact-match table (R445, R458): entries by bucket × 4 + slot, and its two seeds. -/
structure EmCopy where
  slots : Tbl EmEntry := []
  seed0 : Nat := 0
  seed1 : Nat := 0
  deriving DecidableEq, Repr

/-- A change of the exact-match table that the rebuild's log holds (R459). -/
inductive EmChange where
  | put (e : EmEntry)
  | del (id : Nat)
  deriving DecidableEq, Repr

/-- A ternary entry (R446). -/
structure TcamEntry where
  value : List Nat
  mask : List Nat
  action : Nat
  addVer : Nat
  delVer : Nat
  deleted : Bool
  override : Bool
  pend : Nat
  deriving DecidableEq, Repr

/-- A policer (R451): RATE in 2^-16 bytes a frame cycle, BURST in bytes, tokens in 2^-16 bytes as they stood at cycle `at_`. -/
structure Policer where
  rate : Nat := 0
  burst : Nat := 0
  full : Bool := false
  tokens : Nat := 0
  at_ : Nat := 0
  drops : Nat := 0
  deriving DecidableEq, Repr

/-- A queued frame: its bytes without the FCS, its length with it, the MAC and priority it arrived with (none for a frame of the
transport engine or a mirror copy), and its finish time F (R462). -/
structure PFrame where
  data : List Nat
  len : Nat
  rx : Option (Nat × Nat)
  fin : Nat
  deriving DecidableEq, Repr

/-- A transmit queue (R460 to R466). Tokens are in 1/16,000 of a byte, as they stood at cycle `at_`; `credit` is 0 outside credit
mode, 1 while its credit is awaited, 2 once the scanner has made it eligible. -/
structure PQueue where
  mac : Nat := 0
  prio : Nat := 0
  weight : Nat := 0
  depth : Nat := 0
  shape : Bool := false
  full : Bool := false
  rate : Nat := 0
  burst : Nat := 0
  tokens : Int := 0
  at_ : Nat := 0
  frames : List PFrame := []
  fLast : Nat := 0
  credit : Nat := 0
  drops : Nat := 0
  deriving DecidableEq, Repr

/-- An entry of the timing wheel (R466): the queue, when it is due, and the calendar slot it still lies in. -/
structure WheelEntry where
  q : Nat
  due : Nat
  slot : Option Nat
  deriving DecidableEq, Repr

/-- The tables of one copy (R456): layout records, selection records, the indirection table, the Toeplitz key. -/
structure PktCopy where
  layouts : Tbl (List Nat) := []
  selects : Tbl (List Nat) := []
  indir : Tbl Nat := []
  key : Tbl Nat := []
  deriving DecidableEq, Repr

/-- A frame that waits for the near tier (R445): its MAC, version, layout, field vector, valid mask and whether room was had. -/
structure PktMiss where
  data : List Nat
  mac : Nat
  ver : Nat
  layout : Nat
  room : Bool
  deriving DecidableEq, Repr

/-- The rebuild (R458, R459): the seeds in use, the item (0: it started by itself), the entries to copy, the inactive copy, the log,
the tick of its restart, and whether a rebuild is wanted. -/
structure Rebuild where
  on : Bool := false
  seed0 : Nat := 0
  seed1 : Nat := 0
  seq : Nat := 0
  todo : List EmEntry := []
  log : List EmChange := []
  restart : Option Nat := none
  deriving DecidableEq, Repr

/-- The packet path. `now` counts the frame cycles the packet path's events have told of, `frameAt` those before the last tick, `nextFill`
the cycle at which the near tier serves the next miss. `toHost` holds frames delivered to host
receive queues, `toDvt` those handed to the transport engine, `tx` those sent by MAC, `pfc` the XOFF (1) and XON (0) sent: MAC,
priority. `recs` keeps the record of each accepted command that has not ended. -/
structure PktUnit where
  now : Nat := 0
  frameAt : Nat := 0
  rxNow : Nat := 0
  txNow : Nat := 0
  nextFill : Nat := 0
  copy0 : PktCopy := {}
  copy1 : PktCopy := {}
  em0 : EmCopy := {}
  em1 : EmCopy := {}
  nextId : Nat := 0
  cache : List (List Nat) := []
  miss : List PktMiss := []
  tcam : Tbl TcamEntry := []
  actions : Tbl (List Nat) := []
  actPend : List (Nat × Nat) := []
  policers : Tbl Policer := []
  queues : Tbl PQueue := []
  vtime : Tbl Nat := []
  paused : List Nat := []
  xoff : List Nat := []
  wheel : List WheelEntry := []
  calendar : Nat := 0
  scan : Nat := 0
  keyWait : List (Nat × Nat) := []
  recs : Tbl (List Nat) := []
  reb : Rebuild := {}
  tread : List Nat := []
  toHost : List (Nat × List Nat) := []
  toDvt : List (List Nat) := []
  tx : List (Nat × List Nat) := []
  pfc : List (Nat × Nat × Nat) := []
  deriving DecidableEq, Repr

end Sys2Proof.Machine
end

