-- ==== Sys2Proof/Machine/PartsPwr.lean ====
section
/-! DEFINITION. State of start-up, clocks, power and reset, of the I3C targets and of the pins, beside their registers (chapters 18,
19 and 21). -/
namespace Sys2Proof.Machine
open Sys2Proof

/-- Start-up and reset: POR_N held low; the straps sampled at its release (STRAP_I3C in bits 1:0, STRAP_TEST in bit 2); the always-on
island on REFCLK; stage 1 verified; the warm reset called for, by WARM_CAUSE (0 none); the core die released in a warm reset; the
cores that were fenced at it; the digest and length of the kept Maquette, its
VERSION and BOARD_ID, and whether it asks for the ring join. Clocks: the PLLs started, and those
that have lost lock (bit 0 core, bit 1 Armature). Power: the state being entered (0 none), and an exit to A0 under way. Pins and I3C:
THERMTRIP_N low, PERST_N low by link, the status target's index, the STATUS record latched, and the dynamic address of each
target. The chip watchdog's last pet, the tick of READY. -/
structure PwrUnit where
  por : Bool := true
  straps : Nat := 0
  refclk : Bool := false
  stage1 : Bool := false
  stage1Ver : Nat := 0
  trigger : Nat := 0
  released : Bool := false
  fencedAt : List Nat := []
  maqDigest : List Nat := []
  maqLen : Nat := 0
  maqVersion : Nat := 0
  boardId : Nat := 0
  joinWanted : Bool := false
  pllStart : Bool := false
  pllLost : Nat := 0
  refLost : Bool := false
  switchDue : Bool := false
  entering : Nat := 0
  exiting : Bool := false
  thermtrip : Bool := false
  perst : List Nat := []
  i3cIndex : Nat := 0
  i3cLatch : List Nat := []
  i3cAddr : Tbl Nat := []
  petTick : Nat := 0
  readyTick : Nat := 0
  deriving DecidableEq, Repr

end Sys2Proof.Machine
end

