-- ==== Sys2Proof/Machine/PartsSec.lean ====
section
/-! DEFINITION. State of the security island beside its registers (chapter 17). -/
namespace Sys2Proof.Machine
open Sys2Proof

/-- A key slot that is not EMPTY (R594): EXHAUSTED or LOADED, the record fields of KEY_LOAD, the key and the counter. -/
structure KeySlot where
  exhausted : Bool := false
  uses : Nat := 0
  func : Nat := 0
  cores : Nat := 0
  fixed : Nat := 0
  key : List Nat := []
  counter : Nat := 0
  deriving DecidableEq, Repr

/-- A derived-key context's counter and the end of the step last recorded in Patina (R601). -/
structure CtxCounter where
  counter : Nat := 0
  stepEnd : Nat := 0
  deriving DecidableEq, Repr

/-- An AES-256-GCM key of a PCIe or CXL IDE stream (R609, R610): transport (0, 1 the PFs' link, 2 + k CXL device k), stream,
set and direction, and whether the set is in use. -/
structure IdeKey where
  port : Nat
  stream : Nat
  set : Nat
  slot : Nat
  key : List Nat
  active : Bool
  deriving DecidableEq, Repr

/-- An SPDM session (R590): identifier, whether FINISH has completed, and its key generation. -/
structure SpdmSession where
  id : Nat
  established : Bool
  gen : Nat
  deriving DecidableEq, Repr

/-- An SPDM connection of one transport: 0 and 1 the PFs' DOE mailboxes, 2 MCTP. Its stage (0 none, 1 version, 2 capabilities,
3 algorithms), the transcript so far, the message the last signed response covers while nothing has intervened, sessions, the
chunks of a request taken in, and the response that chunks are read from. -/
structure SpdmConn where
  stage : Nat := 0
  transcript : List Nat := []
  signed : Option (List Nat) := none
  sessions : List SpdmSession := []
  chunks : List Nat := []
  big : List Nat := []
  response : List Nat := []
  deriving DecidableEq, Repr

/-- The security island: slots by number, context counters, the last receive COUNTER of a port and phase (keyed 2p + phase),
IDE keys, SPDM connections, MCTP messages AC0
has relayed and the island not yet answered, whether the DRBG runs and its requests since it was seeded, the generation
of the Alias keys and whether private seeds are cleared, the digests of the verified stage 1,
Maquette and running firmware, their SVN, and the KEY_IDs a Maquette revokes. -/
structure SecUnit where
  slots : Tbl KeySlot := []
  ctxs : Tbl CtxCounter := []
  rxCounter : Tbl Nat := []
  ide : List IdeKey := []
  spdm : Tbl SpdmConn := []
  relayed : Nat := 0
  drbgStopped : Bool := false
  drbgUsed : Nat := 0
  cleared : Bool := false
  s1Digest : List Nat := []
  maqDigest : List Nat := []
  fwDigest : List Nat := []
  s1Svn : Nat := 0
  maqSvn : Nat := 0
  revoke : Nat := 0
  deriving DecidableEq, Repr

end Sys2Proof.Machine
end

