-- ==== Sys2Proof/Machine/Sources.lean ====
section
/-! DEFINITION. Fault source numbers (R617, R618 and the fault-source table of each chapter), their default reactions
(R625, R626), and the completion codes (R53 and the code table of each chapter). -/
namespace Sys2Proof

/-! ## Fault sources: `Src.<name>` is the hub's source number; for WKC and AMT it takes the core. -/
def Src.WC_OB_CRC (n : Nat) : Nat := 8 * n + 0
def Src.WC_OB_STUCK (n : Nat) : Nat := 8 * n + 1
def Src.WC_UNIT_PARITY (n : Nat) : Nat := 8 * n + 2
def Src.WC_ITEM_HANG (n : Nat) : Nat := 8 * n + 3
def Src.WC_QUEUE_PARITY (n : Nat) : Nat := 8 * n + 4
def Src.WC_NOC_CREDIT (n : Nat) : Nat := 8 * n + 5
def Src.WC_GATE_FAIL (n : Nat) : Nat := 8 * n + 6
def Src.AC_WDOG (n : Nat) : Nat := 512 + 8 * n + 0
def Src.AC_DOUBLE_TRAP (n : Nat) : Nat := 512 + 8 * n + 1
def Src.AC_LMEM_CRC (n : Nat) : Nat := 512 + 8 * n + 2
def Src.AC_IMAGE_CRC (n : Nat) : Nat := 512 + 8 * n + 3
def Src.AC_RESTART_LOOP (n : Nat) : Nat := 512 + 8 * n + 4
def Src.FW_FALLBACK (n : Nat) : Nat := 512 + 8 * n + 5
def Src.RING_CRC : Nat := 640
def Src.RING_MISS : Nat := 641
def Src.HOLDOVER : Nat := 642
def Src.PHASE_LIMIT : Nat := 643
def Src.DELAY_MISMATCH : Nat := 644
def Src.TICK_BACKWARD : Nat := 645
def Src.DUAL_MASTER : Nat := 646
def Src.RING_NODE_FAULT : Nat := 647
def Src.PLAN_FAULT : Nat := 648
def Src.FRIEZE_PARITY : Nat := 649
def Src.COL_PACE_SEQ : Nat := 652
def Src.COL_STREAM_ORPHAN : Nat := 653
def Src.COL_SLOT_TIMEOUT : Nat := 654
def Src.COL_RESEND_LIMIT : Nat := 655
def Src.COL_STEER_PARITY : Nat := 656
def Src.COL_TABLE_PARITY : Nat := 657
def Src.KVA_MAP_POISON : Nat := 660
def Src.KVA_CACHE_PARITY : Nat := 661
def Src.KVA_LOG_FULL : Nat := 662
def Src.KVA_MOVE_FAIL : Nat := 663
def Src.KVA_QUERY_SEQ : Nat := 664
def Src.PLINTH_CE : Nat := 668
def Src.PLINTH_UE : Nat := 669
def Src.PLINTH_BANK_FAIL : Nat := 670
def Src.REMAP_FULL : Nat := 671
def Src.MERGE_PARITY : Nat := 672
def Src.SRAM_CRC : Nat := 673
def Src.NEAR_CRC : Nat := 674
def Src.NEAR_CHANNEL_FAIL : Nat := 675
def Src.QUARRY_DEVICE_FAIL : Nat := 676
def Src.PT_POISON : Nat := 677
def Src.XLAT_PARITY : Nat := 678
def Src.LNK_PROTOCOL : Nat := 684
def Src.LNK_AUTH : Nat := 685
def Src.LNK_LANE_FAIL : Nat := 686
def Src.LNK_SPARE_FAIL : Nat := 687
def Src.LNK_STEER_TIMEOUT : Nat := 688
def Src.LNK_RETRAIN : Nat := 689
def Src.LNK_PORT_DOWN : Nat := 690
def Src.LNK_CREDIT : Nat := 691
def Src.DVT_PROTOCOL : Nat := 692
def Src.DVT_PATH_FAIL : Nat := 693
def Src.DVT_CONN_FAIL : Nat := 694
def Src.DVT_REMOTE_ACCESS : Nat := 695
def Src.DVT_REORDER_FULL : Nat := 696
def Src.DVT_CTX_PARITY : Nat := 697
def Src.DVT_CTX_POISON : Nat := 698
def Src.PKT_TCAM_PARITY : Nat := 700
def Src.PKT_EM_POISON : Nat := 701
def Src.PKT_CACHE_PARITY : Nat := 702
def Src.PKT_ACTION_PARITY : Nat := 703
def Src.PKT_WHEEL_PARITY : Nat := 704
def Src.PKT_BUFFER_CRC : Nat := 705
def Src.DMA_PACE_OVER : Nat := 724
def Src.DMA_BUF_CRC : Nat := 725
def Src.DMA_QUEUE_PARITY : Nat := 726
def Src.DMA_READBACK : Nat := 727
def Src.NVS_LOCK_PARITY : Nat := 728
def Src.NVS_SQ_POISON : Nat := 729
def Src.NVS_TARGET_LOST : Nat := 730
def Src.NVS_DOORBELL : Nat := 731
def Src.CKP_TABLE_PARITY : Nat := 732
def Src.CKP_CAP_POISON : Nat := 733
def Src.CKP_STORE_ERROR : Nat := 734
def Src.CKP_LATE : Nat := 735
def Src.CKP_NODE_LOST : Nat := 736
def Src.SEC_ENTROPY : Nat := 740
def Src.SEC_OTP_ECC : Nat := 741
def Src.SEC_SLOT_PARITY : Nat := 742
def Src.SEC_KEY_EXHAUSTED : Nat := 743
def Src.SEC_CORE_WDOG : Nat := 744
def Src.SEC_AUTH : Nat := 745
def Src.PCR_RAIL : Nat := 748
def Src.PCR_PLL_LOCK : Nat := 749
def Src.PCR_REFCLK : Nat := 750
def Src.PCR_MAQ_ALT : Nat := 751
def Src.PCR_WAKE_FAIL : Nat := 752
def Src.PCR_GATE_FAIL : Nat := 753
def Src.PCR_OSC : Nat := 754
def Src.HIF_UNCORR (fn : Nat) : Nat := 708 + 8 * fn + 0
def Src.HIF_CORR (fn : Nat) : Nat := 708 + 8 * fn + 1
def Src.HIF_CPL_TIMEOUT (fn : Nat) : Nat := 708 + 8 * fn + 2
def Src.HIF_LATE_CPL (fn : Nat) : Nat := 708 + 8 * fn + 3
def Src.HIF_DOORBELL (fn : Nat) : Nat := 708 + 8 * fn + 4
def Src.HIF_ATC_PARITY (fn : Nat) : Nat := 708 + 8 * fn + 5
def Src.HIF_RING_PARITY (fn : Nat) : Nat := 708 + 8 * fn + 6
def Src.OBS_COUNTER_SAT : Nat := 760
def Src.OBS_TRACE_LOSS : Nat := 761
def Src.CAL_EMERGENCY : Nat := 762
def Src.CAL_SENSOR : Nat := 763
def Src.PAT_FLASH : Nat := 764
def Src.PAT_MAC : Nat := 765
def Src.LEDGER_CHECK : Nat := 756
def Src.LEDGER_COPY_FAIL : Nat := 757
def Src.LEDGER_LOST : Nat := 758
def Src.LEDGER_STALL : Nat := 759
def Src.FLT_SELF : Nat := 766
def Src.FLT_CHIP_WDOG : Nat := 767

/-- The configuration of a fault source after cold reset: FIXED, N, W, REACT and SEV_REACT (R625). -/
structure SrcDefault where
  fixed : Nat
  n : Nat
  w : Nat
  react : Nat
  sevReact : Nat
  deriving DecidableEq, Repr

/-- Sources in the row "…_PARITY, …_CRC, …_CE, HIF_CORR, RING_MISS, LEDGER_CHECK" outside WKC and AMT. -/
def paritySources : List Nat := [640, 641, 649, 656, 657, 661, 668, 672, 673, 674, 678, 697, 700, 702, 703, 704, 705, 709, 713, 714, 717, 721, 722, 725, 726, 728, 732, 742, 756]

/-- Sources whose own rule raises ATTN DEGRADED at the event. -/
def degradedSources : List Nat := [642, 670, 675, 676, 690, 757, 762]

/-- Default reactions after cold reset (R625), the row that names the source first (R626). -/
def srcDefault (s : Nat) : SrcDefault :=
  if s < 512 then ⟨0, 16, 4096, 0, 2⟩
  else if s = 516 then ⟨1, 0, 4096, 3, 3⟩
  else if s < 640 then (if (s - 512) % 8 ≤ 3 ∨ (s - 512) % 8 = 5 then ⟨0, 0, 4096, 0, 1⟩ else ⟨0, 16, 4096, 0, 1⟩)
  else if s = 708 ∨ s = 716 then ⟨0, 4, 65535, 1, 4⟩
  else if s = 758 then ⟨0, 0, 4096, 4, 4⟩
  else if s = 766 then ⟨1, 0, 4096, 5, 5⟩
  else if s = 767 then ⟨1, 0, 4096, 3, 3⟩
  else if degradedSources.contains s then ⟨0, 0, 4096, 1, 1⟩
  else if paritySources.contains s then ⟨0, 64, 1024, 0, 1⟩
  else ⟨0, 16, 4096, 0, 1⟩

/-! ## Completion codes: `Code.<name>`. -/
def Code.OK : Nat := 0x0000
def Code.ALREADY_DONE : Nat := 0x0001
def Code.WITHDRAWN : Nat := 0x0002
def Code.REFUSED_FIT : Nat := 0x0003
def Code.DEFERRED : Nat := 0x0004
def Code.TIMEOUT : Nat := 0x0005
def Code.POISONED_DATA : Nat := 0x0006
def Code.ACCESS_VIOLATION : Nat := 0x0007
def Code.REMOTE_VIOLATION : Nat := 0x0008
def Code.LENGTH_OVER : Nat := 0x0009
def Code.KEY_EXHAUSTED : Nat := 0x000A
def Code.AUTH_FAIL : Nat := 0x000B
def Code.PLAN_BAD_IMAGE : Nat := 0x0101
def Code.PLAN_PERIOD : Nat := 0x0102
def Code.PLAN_SLOT_BAD : Nat := 0x0103
def Code.PLAN_TABLE_FULL : Nat := 0x0104
def Code.TICK_UNLOCKED : Nat := 0x0105
def Code.PLAN_UNKNOWN : Nat := 0x0106
def Code.PLAN_STATE : Nat := 0x0107
def Code.WC_BAD_OP : Nat := 0x0201
def Code.WC_FORMAT : Nat := 0x0202
def Code.WC_MIXED_CLASS : Nat := 0x0203
def Code.WC_ALIGN : Nat := 0x0204
def Code.WC_SHAPE : Nat := 0x0205
def Code.WC_LIST_BAD : Nat := 0x0206
def Code.WC_DST_SHORT : Nat := 0x0207
def Code.WC_LZ4_CORRUPT : Nat := 0x0208
def Code.COL_BAD_REQ : Nat := 0x0220
def Code.COL_GROUP_UNKNOWN : Nat := 0x0221
def Code.COL_GROUP_STATE : Nat := 0x0222
def Code.COL_ALGO : Nat := 0x0223
def Code.COL_SLOT_STATE : Nat := 0x0224
def Code.COL_LINE_BUSY : Nat := 0x0225
def Code.COL_SLOT_FIT : Nat := 0x0226
def Code.COL_RESID : Nat := 0x0227
def Code.COL_MEMBER_LOST : Nat := 0x0228
def Code.COL_PEER_LOST : Nat := 0x0229
def Code.COL_ABORTED_BY_PEER : Nat := 0x022A
def Code.COL_RESEND_LIMIT : Nat := 0x022B
def Code.KVA_BAD_REQ : Nat := 0x0301
def Code.KVA_SEQ_UNKNOWN : Nat := 0x0302
def Code.KVA_SEQ_STATE : Nat := 0x0303
def Code.KVA_SHAPE : Nat := 0x0304
def Code.KVA_MAP_FULL : Nat := 0x0305
def Code.KVA_POOL_FULL : Nat := 0x0306
def Code.KVA_TAIL : Nat := 0x0307
def Code.KVA_SVC_STATE : Nat := 0x0308
def Code.KVA_LINE_BUSY : Nat := 0x0309
def Code.KVA_NO_SUMMARY : Nat := 0x030A
def Code.KVA_UNBOUND : Nat := 0x030B
def Code.KVA_LOG_FULL : Nat := 0x030C
def Code.MEM_UNMAPPED : Nat := 0x0401
def Code.MEM_PAGE_STATE : Nat := 0x0402
def Code.MEM_POOL_FULL : Nat := 0x0403
def Code.MEM_INIT_DONE : Nat := 0x0404
def Code.MEM_RANGE : Nat := 0x0405
def Code.FW_BAD_IMAGE : Nat := 0x0501
def Code.FW_ROLLBACK : Nat := 0x0502
def Code.FW_NOT_STAGED : Nat := 0x0503
def Code.FW_BUSY : Nat := 0x0504
def Code.FW_IFACE_CHANGE : Nat := 0x0505
def Code.FW_FLASH : Nat := 0x0506
def Code.FW_RANGE : Nat := 0x0507
def Code.FW_NO_CORE : Nat := 0x0508
def Code.LNK_PORT_DOWN : Nat := 0x0601
def Code.LNK_STATE : Nat := 0x0602
def Code.LNK_BAD_REQ : Nat := 0x0603
def Code.DVT_BAD_REQ : Nat := 0x0701
def Code.DVT_CONN_STATE : Nat := 0x0702
def Code.DVT_TABLE_FULL : Nat := 0x0703
def Code.DVT_REGION_STATE : Nat := 0x0704
def Code.DVT_CONN_LOST : Nat := 0x0705
def Code.PKT_BAD_REQ : Nat := 0x0801
def Code.PKT_BAD_LAYOUT : Nat := 0x0802
def Code.PKT_RULE_EXISTS : Nat := 0x0803
def Code.PKT_RULE_STATE : Nat := 0x0804
def Code.PKT_EM_FULL : Nat := 0x0805
def Code.PKT_ACTION_STATE : Nat := 0x0806
def Code.PKT_ACTION_BUSY : Nat := 0x0807
def Code.PKT_GROUP_FULL : Nat := 0x0808
def Code.PKT_REBUILD_ABANDONED : Nat := 0x0809
def Code.PLAN_LOAD : Nat := 0x0101
def Code.GROUP_SET : Nat := 0x0201
def Code.GROUP_CLEAR : Nat := 0x0202
def Code.SLOT_ARM : Nat := 0x0203
def Code.SLOT_DISARM : Nat := 0x0204
def Code.SEQ_OPEN : Nat := 0x0301
def Code.SEQ_CLOSE : Nat := 0x0302
def Code.KV_PUT : Nat := 0x0303
def Code.KV_DROP : Nat := 0x0304
def Code.SVC_BIND : Nat := 0x0305
def Code.SVC_UNBIND : Nat := 0x0306
def Code.MAP_COMPACT : Nat := 0x0307
def Code.PAGE_UNMAP : Nat := 0x0402
def Code.MEM_INIT : Nat := 0x0404
def Code.FW_DOWNLOAD : Nat := 0x0501
def Code.FW_STAGE : Nat := 0x0502
def Code.FW_ACTIVATE : Nat := 0x0503
def Code.MACSEC_SA : Nat := 0x0603
def Code.CONN_OPEN : Nat := 0x0701
def Code.CONN_CLOSE : Nat := 0x0702
def Code.REGION_REG : Nat := 0x0703
def Code.REGION_REVOKE : Nat := 0x0704
def Code.LAYOUT_SET : Nat := 0x0801
def Code.SELECT_SET : Nat := 0x0802
def Code.ACTION_SET : Nat := 0x0803
def Code.ACTION_FREE : Nat := 0x0804
def Code.RULE_ADD : Nat := 0x0805
def Code.RULE_DEL : Nat := 0x0806
def Code.INDIR_WRITE : Nat := 0x0809
def Code.QUEUE_SET : Nat := 0x080A
def Code.POLICER_SET : Nat := 0x080B
def Code.EM_REBUILD : Nat := 0x080C
def Code.CANCEL : Nat := 0x0901
def Code.DIRTY_LOG : Nat := 0x0902
def Code.NOP : Nat := 0x0903
def Code.HIF_BAD_CMD : Nat := 0x0901
def Code.HIF_XLAT_FAULT : Nat := 0x0902
def Code.HIF_UR : Nat := 0x0903
def Code.HIF_LOG_STATE : Nat := 0x0904
def Code.HIF_CMD_POISON : Nat := 0x0905
def Code.DMA_BAD_REQ : Nat := 0x0A01
def Code.DMA_CHAN_STATE : Nat := 0x0A02
def Code.DMA_DROPPED : Nat := 0x0A03
def Code.DMA_PACE_TIMEOUT : Nat := 0x0A04
def Code.NVS_BAD_REQ : Nat := 0x0B01
def Code.NVS_NS_STATE : Nat := 0x0B02
def Code.NVS_TARGET_STATE : Nat := 0x0B03
def Code.NVS_TABLE_FULL : Nat := 0x0B04
def Code.NVS_TARGET_LOST : Nat := 0x0B05
def Code.CKP_BAD_REQ : Nat := 0x0C01
def Code.CKP_JOB_STATE : Nat := 0x0C02
def Code.CKP_LAYOUT : Nat := 0x0C03
def Code.CKP_NOT_COORD : Nat := 0x0C04
def Code.CKP_ABANDONED : Nat := 0x0C05
def Code.CKP_NONE : Nat := 0x0C06
def Code.CKP_INCOMPLETE : Nat := 0x0C07
def Code.CKP_STEP_MISMATCH : Nat := 0x0C08
def Code.CKP_SHARD_BAD : Nat := 0x0C09
def Code.SEC_BAD_REQ : Nat := 0x0D01
def Code.SEC_SLOT_STATE : Nat := 0x0D02
def Code.SEC_KEY_DENIED : Nat := 0x0D03
def Code.SEC_SLOT_BUSY : Nat := 0x0D04
def Code.SEC_KEY_GONE : Nat := 0x0D05

end Sys2Proof
end

