-- ==== Sys2Proof/Machine/RegMap.lean ====
section
/-! DEFINITION. The BAR0 register map of the chapters' register tables: one field descriptor per field (its bit
position in BAR0, its width, its reset value) and one row per register for accesses by offset (R4, R5, R10). -/
namespace Sys2Proof.Reg
open Sys2Proof

/-! `GLB_ATTN`: attention state, at 0x0008_0000 (chapter 01). -/
def GLB_ATTN.CLASS : Fld := ⟨0x400000 + 20, 4, 0⟩
def GLB_ATTN.LEVEL : Fld := ⟨0x400000 + 16, 4, 0⟩
def GLB_ATTN.ACTIVE : Fld := ⟨0x400000, 16, 0⟩
/-! `GLB_ATTN_NOTE`: pending notes, at 0x0008_0004 (chapter 01). -/
def GLB_ATTN_NOTE.NOTE : Fld := ⟨0x400020, 16, 0⟩
/-! `GLB_LEDGER_STATE`: ledger state, at 0x0008_0008 (chapter 01). -/
def GLB_LEDGER_STATE.COPIES : Fld := ⟨0x400040 + 30, 2, 3⟩
def GLB_LEDGER_STATE.REBUILD : Fld := ⟨0x400040 + 29, 1, 0⟩
def GLB_LEDGER_STATE.MIRROR : Fld := ⟨0x400040 + 28, 1, 0⟩
def GLB_LEDGER_STATE.FREE : Fld := ⟨0x400040, 22, 0x200000⟩
/-! `GLB_LEDGER_HEAD`: published ledger head, at 0x0008_0010 (chapter 01). -/
def GLB_LEDGER_HEAD.HEAD : Fld := ⟨0x400080, 64, 0⟩
/-! `GLB_LEDGER_LOW`: low-water mark, at 0x0008_0018 (chapter 01). -/
def GLB_LEDGER_LOW.LOW : Fld := ⟨0x4000c0, 64, 1⟩
/-! `GLB_LEDGER_NOTE_FREE`: free-slot threshold, at 0x0008_0020 (chapter 01). -/
def GLB_LEDGER_NOTE_FREE.THRESHOLD : Fld := ⟨0x400100, 22, 0x40000⟩
/-! `GLB_LEDGER_STALLS`: acceptance stalls, at 0x0008_0028 (chapter 01). -/
def GLB_LEDGER_STALLS.COUNT : Fld := ⟨0x400140, 48, 0⟩
/-! `GLB_RECOVERY`: recovery report, at 0x0008_0030 (chapter 01). -/
def GLB_RECOVERY.VALID : Fld := ⟨0x400180 + 63, 1, 0⟩
def GLB_RECOVERY.ACK : Fld := ⟨0x400180 + 62, 1, 0⟩
def GLB_RECOVERY.DEVICE : Fld := ⟨0x400180 + 24, 3, 0⟩
def GLB_RECOVERY.COUNT : Fld := ⟨0x400180, 22, 0⟩
/-! `TCK_CTRL`: ring control, at 0x0040_0000 (chapter 02). -/
def TCK_CTRL.POSITION : Fld := ⟨0x2000000 + 12, 4, 0⟩
def TCK_CTRL.ROLE : Fld := ⟨0x2000000 + 6, 2, 1⟩
def TCK_CTRL.RELOCK : Fld := ⟨0x2000000 + 5, 1, 0⟩
def TCK_CTRL.LEAVE : Fld := ⟨0x2000000 + 4, 1, 0⟩
def TCK_CTRL.JOIN : Fld := ⟨0x2000000 + 3, 1, 0⟩
def TCK_CTRL.PROBE : Fld := ⟨0x2000000 + 2, 1, 0⟩
/-! `TCK_STATUS`: ring status, at 0x0040_0004 (chapter 02). -/
def TCK_STATUS.MISSES : Fld := ⟨0x2000020 + 24, 8, 0⟩
def TCK_STATUS.BOARD_FLAGS : Fld := ⟨0x2000020 + 20, 4, 0⟩
def TCK_STATUS.MASTER_POS : Fld := ⟨0x2000020 + 16, 4, 0⟩
def TCK_STATUS.BYPASS : Fld := ⟨0x2000020 + 8, 1, 1⟩
def TCK_STATUS.STATE : Fld := ⟨0x2000020, 4, 0⟩
/-! `TCK_PERIOD`: tick period, at 0x0040_0010 (chapter 02). -/
def TCK_PERIOD.PERIOD : Fld := ⟨0x2000080, 9, 0x10⟩
/-! `TCK_NUMBER`: tick number, at 0x0040_0018 (chapter 02). -/
def TCK_NUMBER.NUMBER : Fld := ⟨0x20000c0, 64, 0⟩
/-! `TCK_PHASE`: alignment, at 0x0040_0020 (chapter 02). -/
def TCK_PHASE.OFFSET : Fld := ⟨0x2000100 + 16, 16, 0⟩
def TCK_PHASE.ERROR : Fld := ⟨0x2000100, 16, 0⟩
/-! `TCK_OVERRUN_LIMIT`: plan fault threshold, at 0x0040_0028 (chapter 02). -/
def TCK_OVERRUN_LIMIT.LIMIT : Fld := ⟨0x2000140, 8, 8⟩
/-! `TCK_ADMIT`: admitted load, at 0x0040_0030 (chapter 02). -/
def TCK_ADMIT.LINK : Fld := ⟨0x2000180 + 48, 10, 0⟩
def TCK_ADMIT.ARM : Fld := ⟨0x2000180 + 32, 10, 0⟩
def TCK_ADMIT.PLINTH : Fld := ⟨0x2000180 + 16, 10, 0⟩
def TCK_ADMIT.WC : Fld := ⟨0x2000180, 10, 0⟩
/-! `TCK_CARRIES`: carried items, at 0x0040_0038 (chapter 02). -/
def TCK_CARRIES.COUNT : Fld := ⟨0x20001c0, 48, 0⟩
/-! `TCK_MISSES`: missed markers, at 0x0040_0040 (chapter 02). -/
def TCK_MISSES.COUNT : Fld := ⟨0x2000200, 48, 0⟩
/-! `TCK_CELL_ERRORS`: cell CRC errors, at 0x0040_0048 (chapter 02). -/
def TCK_CELL_ERRORS.COUNT : Fld := ⟨0x2000240, 48, 0⟩
/-! `WKC_STATE`: core state, at 0x0050_0000 + n × 0x4000 (chapter 04). -/
def WKC_STATE.FAULTS (n : Nat) : Fld := ⟨8 * (0x500000 + n * 0x4000) + 16, 7, 0⟩
def WKC_STATE.SELFTEST (n : Nat) : Fld := ⟨8 * (0x500000 + n * 0x4000) + 10, 2, 0⟩
def WKC_STATE.ROLE (n : Nat) : Fld := ⟨8 * (0x500000 + n * 0x4000) + 8, 2, 0⟩
def WKC_STATE.STATE (n : Nat) : Fld := ⟨8 * (0x500000 + n * 0x4000), 4, 0⟩
/-! `WKC_GRANT`: plan grant, at 0x0050_0004 + n × 0x4000 (chapter 04). -/
def WKC_GRANT.LOGICAL (n : Nat) : Fld := ⟨8 * (0x500004 + n * 0x4000) + 24, 8, 0⟩
def WKC_GRANT.PLAN (n : Nat) : Fld := ⟨8 * (0x500004 + n * 0x4000), 16, 0⟩
/-! `WKC_SR_KEY`: stochastic rounding key, at 0x0050_0008 + n × 0x4000 (chapter 04). -/
def WKC_SR_KEY.KEY (n : Nat) : Fld := ⟨8 * (0x500008 + n * 0x4000), 64, 0⟩
/-! `WKC_UNIT_SEQ`: running items, at 0x0050_0010 + n × 0x4000 + u × 8 (chapter 04). -/
def WKC_UNIT_SEQ.SEQ (n u : Nat) : Fld := ⟨8 * (0x500010 + n * 0x4000 + u * 8), 64, 0⟩
/-! `WKC_ITEMS`: committed items, at 0x0050_0040 + n × 0x4000 (chapter 04). -/
def WKC_ITEMS.COUNT (n : Nat) : Fld := ⟨8 * (0x500040 + n * 0x4000), 48, 0⟩
/-! `WKC_BUSY`: unit busy cycles, at 0x0050_0048 + n × 0x4000 + u × 8 (chapter 04). -/
def WKC_BUSY.COUNT (n u : Nat) : Fld := ⟨8 * (0x500048 + n * 0x4000 + u * 8), 48, 0⟩
/-! `WKC_AFLAG_COUNT`: flag counts, at 0x0050_0080 + n × 0x4000 + b × 8 (chapter 04). -/
def WKC_AFLAG_COUNT.COUNT (n b : Nat) : Fld := ⟨8 * (0x500080 + n * 0x4000 + b * 8), 48, 0⟩
/-! `WKC_OB_REFETCH`: buffer refetches, at 0x0050_00C0 + n × 0x4000 (chapter 04). -/
def WKC_OB_REFETCH.COUNT (n : Nat) : Fld := ⟨8 * (0x5000c0 + n * 0x4000), 48, 0⟩
/-! `WKC_REPLAYS`: replayed items, at 0x0050_00C8 + n × 0x4000 (chapter 04). -/
def WKC_REPLAYS.COUNT (n : Nat) : Fld := ⟨8 * (0x5000c8 + n * 0x4000), 48, 0⟩
/-! `WKC_POOL`: pool status, at 0x0050_3000 (chapter 04). -/
def WKC_POOL.RETIRED : Fld := ⟨0x2818000 + 24, 7, 0⟩
def WKC_POOL.FENCED : Fld := ⟨0x2818000 + 16, 7, 0⟩
def WKC_POOL.SPARES : Fld := ⟨0x2818000 + 8, 4, 4⟩
def WKC_POOL.IN_SERVICE : Fld := ⟨0x2818000, 7, 0x3c⟩
/-! `WKC_SPARES_CFG`: configured spares, at 0x0050_3004 (chapter 04). -/
def WKC_SPARES_CFG.COUNT : Fld := ⟨0x2818020, 4, 4⟩
/-! `WKC_RETIRE`: retired cores, at 0x0050_3008 (chapter 04). -/
def WKC_RETIRE.MASK : Fld := ⟨0x2818040, 64, 0⟩
/-! `WKC_FENCED`: fenced cores, at 0x0050_3010 (chapter 04). -/
def WKC_FENCED.MASK : Fld := ⟨0x2818080, 64, 0⟩
/-! `WKC_SPARE_MASK`: spare cores, at 0x0050_3018 (chapter 04). -/
def WKC_SPARE_MASK.MASK : Fld := ⟨0x28180c0, 64, 0xf000000000000000⟩
/-! `WKC_ITEM_LIMIT`: item time limit, at 0x0050_3020 (chapter 04). -/
def WKC_ITEM_LIMIT.LIMIT : Fld := ⟨0x2818100, 16, 0x3e8⟩
/-! `COL_ALGO_CFG`: algorithm choice, at 0x0060_0000 (chapter 05). -/
def COL_ALGO_CFG.RING_MIN : Fld := ⟨0x3000000, 5, 0x13⟩
/-! `COL_SLOT_TIMEOUT`: firing timeout, at 0x0060_0008 (chapter 05). -/
def COL_SLOT_TIMEOUT.LIMIT : Fld := ⟨0x3000040, 16, 0x64⟩
/-! `COL_SLOT_ARMED`: armed slots, at 0x0060_0010 + k × 8 (chapter 05). -/
def COL_SLOT_ARMED.MASK (k : Nat) : Fld := ⟨8 * (0x600010 + k * 8), 64, 0⟩
/-! `COL_FIRINGS`: firings, at 0x0060_0040 (chapter 05). -/
def COL_FIRINGS.COUNT : Fld := ⟨0x3000200, 48, 0⟩
/-! `COL_OVERDRAWS`: overdrawn firings, at 0x0060_0048 (chapter 05). -/
def COL_OVERDRAWS.COUNT : Fld := ⟨0x3000240, 48, 0⟩
/-! `COL_RESENDS`: resend events, at 0x0060_0050 (chapter 05). -/
def COL_RESENDS.COUNT : Fld := ⟨0x3000280, 48, 0⟩
/-! `COL_ORPHANS`: dropped stream writes and messages, at 0x0060_0058 (chapter 05). -/
def COL_ORPHANS.COUNT : Fld := ⟨0x30002c0, 48, 0⟩
/-! `COL_DUP_WRITES`: duplicate stream writes, at 0x0060_0060 (chapter 05). -/
def COL_DUP_WRITES.COUNT : Fld := ⟨0x3000300, 48, 0⟩
/-! `COL_WITHDRAWN`: withdrawn collectives, at 0x0060_0068 (chapter 05). -/
def COL_WITHDRAWN.COUNT : Fld := ⟨0x3000340, 48, 0⟩
/-! `COL_LAT_MAX`: worst slot latency, at 0x0060_0070 (chapter 05). -/
def COL_LAT_MAX.SLOT : Fld := ⟨0x3000380 + 24, 8, 0⟩
def COL_LAT_MAX.CYCLES : Fld := ⟨0x3000380, 16, 0⟩
/-! `KVA_MAP_BASE`: map base, at 0x0070_0000 (chapter 06). -/
def KVA_MAP_BASE.BASE : Fld := ⟨0x3800000, 52, 0x1000000000⟩
/-! `KVA_MAP_STATE`: map state, at 0x0070_0008 (chapter 06). -/
def KVA_MAP_STATE.COMPACT : Fld := ⟨0x3800040 + 5, 3, 0⟩
def KVA_MAP_STATE.ABANDONS : Fld := ⟨0x3800040 + 1, 4, 0⟩
def KVA_MAP_STATE.ACTIVE : Fld := ⟨0x3800040, 1, 0⟩
/-! `KVA_MAP_FREE`: free map entries, at 0x0070_0010 (chapter 06). -/
def KVA_MAP_FREE.LARGEST : Fld := ⟨0x3800080 + 32, 26, 0x2000000⟩
def KVA_MAP_FREE.FREE : Fld := ⟨0x3800080, 26, 0x2000000⟩
/-! `KVA_COMPACT`: compaction control, at 0x0070_0018 (chapter 06). -/
def KVA_COMPACT.RATE : Fld := ⟨0x38000c0 + 16, 16, 0x40⟩
def KVA_COMPACT.AUTO : Fld := ⟨0x38000c0, 16, 0x4000⟩
/-! `KVA_HEAT_CFG`: heat thresholds, at 0x0070_0020 (chapter 06). -/
def KVA_HEAT_CFG.DECAY : Fld := ⟨0x3800100 + 32, 5, 0xc⟩
def KVA_HEAT_CFG.HOT_PLINTH : Fld := ⟨0x3800100 + 24, 8, 0x20⟩
def KVA_HEAT_CFG.HOT_NEAR : Fld := ⟨0x3800100 + 16, 8, 4⟩
def KVA_HEAT_CFG.COLD_PLINTH : Fld := ⟨0x3800100 + 8, 8, 8⟩
def KVA_HEAT_CFG.COLD_NEAR : Fld := ⟨0x3800100, 8, 1⟩
/-! `KVA_MOVE_CFG`: mover rate, at 0x0070_0028 (chapter 06). -/
def KVA_MOVE_CFG.BYTES : Fld := ⟨0x3800140, 16, 0x40⟩
/-! `KVA_POOL_FILL`: pool fill, at 0x0070_0080 + k × 8 (chapter 06). -/
def KVA_POOL_FILL.FREE (k : Nat) : Fld := ⟨8 * (0x700080 + k * 8) + 32, 32, 0⟩
def KVA_POOL_FILL.SIZE (k : Nat) : Fld := ⟨8 * (0x700080 + k * 8), 32, 0⟩
/-! `KVA_QUERIES`: committed queries, at 0x0070_0040 (chapter 06). -/
def KVA_QUERIES.COUNT : Fld := ⟨0x3800200, 48, 0⟩
/-! `KVA_BLOCKS_READ`: blocks computed, at 0x0070_0048 (chapter 06). -/
def KVA_BLOCKS_READ.COUNT : Fld := ⟨0x3800240, 48, 0⟩
/-! `KVA_MOVES`: completed moves, at 0x0070_0050 (chapter 06). -/
def KVA_MOVES.COUNT : Fld := ⟨0x3800280, 48, 0⟩
/-! `KVA_MOVE_DROPS`: dropped moves, at 0x0070_0058 (chapter 06). -/
def KVA_MOVE_DROPS.COUNT : Fld := ⟨0x38002c0, 48, 0⟩
/-! `KVA_QUERY_ERRORS`: refused queries, at 0x0070_0060 (chapter 06). -/
def KVA_QUERY_ERRORS.COUNT : Fld := ⟨0x3800300, 48, 0⟩
/-! `KVA_SKIPPED`: poisoned blocks left out, at 0x0070_0068 (chapter 06). -/
def KVA_SKIPPED.COUNT : Fld := ⟨0x3800340, 48, 0⟩
/-! `KVA_COMPACTIONS`: compactions, at 0x0070_0070 (chapter 06). -/
def KVA_COMPACTIONS.COUNT : Fld := ⟨0x3800380, 48, 0⟩
/-! `MEM_PLINTH_STATE`: Plinth state, at 0x0080_0000 (chapter 07). -/
def MEM_PLINTH_STATE.RETAINED : Fld := ⟨0x4000000 + 31, 1, 0⟩
def MEM_PLINTH_STATE.INIT_BUSY : Fld := ⟨0x4000000 + 30, 1, 1⟩
def MEM_PLINTH_STATE.P1_SPARES : Fld := ⟨0x4000000 + 20, 4, 4⟩
def MEM_PLINTH_STATE.P0_SPARES : Fld := ⟨0x4000000 + 16, 4, 4⟩
def MEM_PLINTH_STATE.P1_REMAP : Fld := ⟨0x4000000 + 8, 8, 0⟩
def MEM_PLINTH_STATE.P0_REMAP : Fld := ⟨0x4000000, 8, 0⟩
/-! `MEM_NEAR_STATE`: near-tier state, at 0x0080_0008 (chapter 07). -/
def MEM_NEAR_STATE.SPEED : Fld := ⟨0x4000040 + 48, 8, 0x24⟩
def MEM_NEAR_STATE.TRAINED : Fld := ⟨0x4000040 + 24, 24, 0⟩
def MEM_NEAR_STATE.FAILED : Fld := ⟨0x4000040, 24, 0⟩
/-! `MEM_QUARRY_STATE`: Quarry state, at 0x0080_0010 (chapter 07). -/
def MEM_QUARRY_STATE.FAILED : Fld := ⟨0x4000080 + 16, 8, 0⟩
def MEM_QUARRY_STATE.PRESENT : Fld := ⟨0x4000080 + 8, 8, 0⟩
def MEM_QUARRY_STATE.BIFURCATION : Fld := ⟨0x4000080, 4, 0⟩
/-! `MEM_QUARRY_CAP`: Quarry device capacity, at 0x0080_0048 + k × 8 (chapter 07). -/
def MEM_QUARRY_CAP.UNITS (k : Nat) : Fld := ⟨8 * (0x800048 + k * 8), 11, 0⟩
/-! `MEM_PT_BASE`: page table base, at 0x0080_0018 (chapter 07). -/
def MEM_PT_BASE.BASE : Fld := ⟨0x40000c0, 52, 0x1050000000⟩
/-! `MEM_SCRUB_CFG`: scrub rate, at 0x0080_0020 (chapter 07). -/
def MEM_SCRUB_CFG.RATE : Fld := ⟨0x4000100, 16, 4⟩
/-! `MEM_MIG_CFG`: page migration, at 0x0080_0028 (chapter 07). -/
def MEM_MIG_CFG.RATE : Fld := ⟨0x4000140 + 40, 16, 0x40⟩
def MEM_MIG_CFG.DECAY : Fld := ⟨0x4000140 + 32, 5, 0xc⟩
def MEM_MIG_CFG.HOT_PLINTH : Fld := ⟨0x4000140 + 24, 8, 0x20⟩
def MEM_MIG_CFG.HOT_NEAR : Fld := ⟨0x4000140 + 16, 8, 4⟩
def MEM_MIG_CFG.COLD_PLINTH : Fld := ⟨0x4000140 + 8, 8, 8⟩
def MEM_MIG_CFG.COLD_NEAR : Fld := ⟨0x4000140, 8, 1⟩
/-! `MEM_RETRAIN_CFG`: retraining windows, at 0x0080_0030 (chapter 07). -/
def MEM_RETRAIN_CFG.OFFSET : Fld := ⟨0x4000180 + 4, 17, 0⟩
def MEM_RETRAIN_CFG.CADENCE : Fld := ⟨0x4000180, 4, 5⟩
/-! `MEM_FLIP_ADDR`: flip target, at 0x0080_0038 (chapter 07). -/
def MEM_FLIP_ADDR.ADDR : Fld := ⟨0x40001c0 + 5, 47, 0⟩
/-! `MEM_FLIP_CTRL`: flip control, at 0x0080_0040 (chapter 07). -/
def MEM_FLIP_CTRL.ARM : Fld := ⟨0x4000200 + 31, 1, 0⟩
def MEM_FLIP_CTRL.DONE : Fld := ⟨0x4000200 + 30, 1, 0⟩
def MEM_FLIP_CTRL.DATA_EN : Fld := ⟨0x4000200 + 24, 1, 0⟩
def MEM_FLIP_CTRL.DATA_BIT : Fld := ⟨0x4000200 + 16, 8, 0⟩
def MEM_FLIP_CTRL.CHECK_MASK : Fld := ⟨0x4000200, 10, 0⟩
/-! `MEM_COUNT`: memory counters, at 0x0080_0100 + k × 8 (chapter 07). -/
def MEM_COUNT.COUNT (k : Nat) : Fld := ⟨8 * (0x800100 + k * 8), 48, 0⟩
/-! `AMT_FW_VERSION`: running firmware version, at 0x0090_0000 (chapter 09). -/
def AMT_FW_VERSION.VERSION : Fld := ⟨0x4800000, 64, 0⟩
/-! `AMT_FW_IFACE`: interface revision, at 0x0090_0008 (chapter 09). -/
def AMT_FW_IFACE.IFACE : Fld := ⟨0x4800040, 32, 0⟩
/-! `AMT_FW_STATE`: firmware state, at 0x0090_0010 (chapter 09). -/
def AMT_FW_STATE.ACT : Fld := ⟨0x4800080 + 8, 4, 0⟩
def AMT_FW_STATE.SOURCE : Fld := ⟨0x4800080 + 6, 2, 0⟩
def AMT_FW_STATE.STAGED : Fld := ⟨0x4800080 + 4, 2, 0⟩
def AMT_FW_STATE.ACTIVE : Fld := ⟨0x4800080, 1, 0⟩
/-! `AMT_WDOG_CFG`: watchdog limit, at 0x0090_0018 (chapter 09). -/
def AMT_WDOG_CFG.LIMIT : Fld := ⟨0x48000c0, 16, 0x1f4⟩
/-! `AMT_LOG_CFG`: log ring, at 0x0090_0020 (chapter 09). -/
def AMT_LOG_CFG.LEVEL : Fld := ⟨0x4800100 + 60, 4, 3⟩
def AMT_LOG_CFG.SIZE : Fld := ⟨0x4800100 + 56, 4, 2⟩
def AMT_LOG_CFG.BASE : Fld := ⟨0x4800100 + 20, 32, 0x105e0⟩
/-! `AMT_LOG_HEAD`: records written, at 0x0090_0028 (chapter 09). -/
def AMT_LOG_HEAD.HEAD : Fld := ⟨0x4800140, 64, 0⟩
/-! `AMT_LOG_DROPS`: dropped records, at 0x0090_0030 (chapter 09). -/
def AMT_LOG_DROPS.COUNT : Fld := ⟨0x4800180, 48, 0⟩
/-! `AMT_CORE_STATE`: core state, at 0x0090_0100 + n × 8 (chapter 09). -/
def AMT_CORE_STATE.RESTARTS (n : Nat) : Fld := ⟨8 * (0x900100 + n * 8) + 32, 16, 0⟩
def AMT_CORE_STATE.RESUME (n : Nat) : Fld := ⟨8 * (0x900100 + n * 8) + 16, 13, 0⟩
def AMT_CORE_STATE.ROLE (n : Nat) : Fld := ⟨8 * (0x900100 + n * 8) + 8, 8, n⟩
def AMT_CORE_STATE.STATE (n : Nat) : Fld := ⟨8 * (0x900100 + n * 8), 4, 0⟩
/-! `AMT_WDOG_PET`: watchdog pet, at 0x0090_0180 + n × 8 (chapter 09). -/
def AMT_WDOG_PET.PET (n : Nat) : Fld := ⟨8 * (0x900180 + n * 8), 32, 0⟩
/-! `AMT_MSG`: message word, at 0x0090_0200 + n × 8 (chapter 09). -/
def AMT_MSG.BITS (n : Nat) : Fld := ⟨8 * (0x900200 + n * 8), 64, 0⟩
/-! `AMT_CMD`: command window, at 0x0090_1000 + n × 0x40 (chapter 09). -/
def AMT_CMD.RESULT (n : Nat) : Fld := ⟨8 * (0x901000 + n * 0x40) + 448, 64, 0⟩
def AMT_CMD.OP (n : Nat) : Fld := ⟨8 * (0x901000 + n * 0x40) + 384, 64, 0⟩
def AMT_CMD.REDO (n : Nat) : Fld := ⟨8 * (0x901000 + n * 0x40) + 320, 64, 0⟩
def AMT_CMD.REPLY (n : Nat) : Fld := ⟨8 * (0x901000 + n * 0x40) + 192, 128, 0⟩
def AMT_CMD.ACCEPTED_SEQ (n : Nat) : Fld := ⟨8 * (0x901000 + n * 0x40) + 80, 64, 0⟩
def AMT_CMD.CODE (n : Nat) : Fld := ⟨8 * (0x901000 + n * 0x40) + 64, 16, 0⟩
def AMT_CMD.SEQ (n : Nat) : Fld := ⟨8 * (0x901000 + n * 0x40), 64, 0⟩
/-! `LNK_GROUP_MAP`: group assignment, at 0x00A0_0000 (chapter 10). -/
def LNK_GROUP_MAP.GROUP : Fld := ⟨0x5000000, 48, 0xba9876543210⟩
/-! `LNK_CAL_CFG`: calibration, at 0x00A0_0010 (chapter 10). -/
def LNK_CAL_CFG.FAIL_SYMBOLS : Fld := ⟨0x5000080 + 24, 8, 0x40⟩
def LNK_CAL_CFG.MIN_MARGIN : Fld := ⟨0x5000080 + 16, 8, 0x18⟩
def LNK_CAL_CFG.TRAIN_US : Fld := ⟨0x5000080, 10, 0xc8⟩
/-! `LNK_PTP_BASE`: timestamp base, at 0x00A0_0018 (chapter 10). -/
def LNK_PTP_BASE.BASE : Fld := ⟨0x50000c0, 64, 0⟩
/-! `LNK_PORT_CFG`: port configuration, at 0x00A0_0100 + p × 0x20 (chapter 10). -/
def LNK_PORT_CFG.CAL (p : Nat) : Fld := ⟨8 * (0xa00100 + p * 0x20) + 5, 1, 1⟩
def LNK_PORT_CFG.GCM (p : Nat) : Fld := ⟨8 * (0xa00100 + p * 0x20) + 4, 1, 1⟩
def LNK_PORT_CFG.SPLIT (p : Nat) : Fld := ⟨8 * (0xa00100 + p * 0x20) + 2, 2, 0⟩
def LNK_PORT_CFG.MODE (p : Nat) : Fld := ⟨8 * (0xa00100 + p * 0x20), 2, 0⟩
/-! `LNK_PORT_STATE`: port state, at 0x00A0_0108 + p × 0x20 (chapter 10). -/
def LNK_PORT_STATE.FAILED (p : Nat) : Fld := ⟨8 * (0xa00108 + p * 0x20) + 48, 16, 0⟩
def LNK_PORT_STATE.MARGIN (p : Nat) : Fld := ⟨8 * (0xa00108 + p * 0x20) + 40, 8, 0⟩
def LNK_PORT_STATE.SPARE (p : Nat) : Fld := ⟨8 * (0xa00108 + p * 0x20) + 32, 2, 0⟩
def LNK_PORT_STATE.SPARED_POS (p : Nat) : Fld := ⟨8 * (0xa00108 + p * 0x20) + 24, 5, 0x1f⟩
def LNK_PORT_STATE.CAL_POS (p : Nat) : Fld := ⟨8 * (0xa00108 + p * 0x20) + 16, 5, 0x1f⟩
def LNK_PORT_STATE.STATE (p : Nat) : Fld := ⟨8 * (0xa00108 + p * 0x20), 4, 0⟩
/-! `LNK_COUNT`: link counters, at 0x00A0_1000 + p × 0x80 + k × 8 (chapter 10). -/
def LNK_COUNT.COUNT (p k : Nat) : Fld := ⟨8 * (0xa01000 + p * 0x80 + k * 8), 48, 0⟩
/-! `DVT_CFG`: transport configuration, at 0x00B0_0000 (chapter 11). -/
def DVT_CFG.NOTIFY_RING : Fld := ⟨0x5800000 + 48, 16, 0⟩
def DVT_CFG.ROCE_MTU : Fld := ⟨0x5800000 + 32, 2, 2⟩
def DVT_CFG.UDP_PORT : Fld := ⟨0x5800000, 16, 0x2581⟩
/-! `DVT_CTX_BASE`: context array, at 0x00B0_0008 (chapter 11). -/
def DVT_CTX_BASE.BASE : Fld := ⟨0x5800040, 52, 0x1060000000⟩
/-! `DVT_REORDER_CFG`: reorder staging, at 0x00B0_0010 (chapter 11). -/
def DVT_REORDER_CFG.FREE : Fld := ⟨0x5800080 + 32, 32, 0⟩
def DVT_REORDER_CFG.BUDGET : Fld := ⟨0x5800080, 16, 0x100⟩
/-! `DVT_RETRY_CFG`: retransmission, at 0x00B0_0018 (chapter 11). -/
def DVT_RETRY_CFG.PATH_FAILS : Fld := ⟨0x58000c0 + 28, 4, 3⟩
def DVT_RETRY_CFG.LIMIT : Fld := ⟨0x58000c0 + 24, 4, 7⟩
def DVT_RETRY_CFG.RTO_US : Fld := ⟨0x58000c0, 16, 0x40⟩
/-! `DVT_CONN_STATE`: connection counts, at 0x00B0_0020 (chapter 11). -/
def DVT_CONN_STATE.CACHED : Fld := ⟨0x5800100 + 32, 16, 0⟩
def DVT_CONN_STATE.OPEN : Fld := ⟨0x5800100, 21, 0⟩
/-! `DVT_VIOL_RING`: violation ring, at 0x00B0_0028 (chapter 11). -/
def DVT_VIOL_RING.SIZE : Fld := ⟨0x5800140 + 60, 4, 4⟩
def DVT_VIOL_RING.BASE : Fld := ⟨0x5800140, 52, 0x1070000000⟩
/-! `DVT_VIOL_HEAD`: violation records written, at 0x00B0_0030 (chapter 11). -/
def DVT_VIOL_HEAD.HEAD : Fld := ⟨0x5800180, 64, 0⟩
/-! `DVT_COUNT`: transport counters, at 0x00B0_0100 + k × 8 (chapter 11). -/
def DVT_COUNT.COUNT (k : Nat) : Fld := ⟨8 * (0xb00100 + k * 8), 48, 0⟩
/-! `PKT_VERSION`: rule versions, at 0x00C0_0000 (chapter 12). -/
def PKT_VERSION.RETIRING : Fld := ⟨0x6000000 + 48, 1, 0⟩
def PKT_VERSION.STAGED : Fld := ⟨0x6000000 + 32, 16, 0⟩
def PKT_VERSION.COMMITTED : Fld := ⟨0x6000000, 16, 0⟩
/-! `PKT_EM_BASE`: exact-match table, at 0x00C0_0008 (chapter 12). -/
def PKT_EM_BASE.BASE : Fld := ⟨0x6000040, 52, 0x1100000000⟩
/-! `PKT_EM_STATE`: exact-match state, at 0x00C0_0010 (chapter 12). -/
def PKT_EM_STATE.ENTRIES : Fld := ⟨0x6000080 + 32, 25, 0⟩
def PKT_EM_STATE.REBUILD : Fld := ⟨0x6000080 + 5, 3, 0⟩
def PKT_EM_STATE.ABANDONS : Fld := ⟨0x6000080 + 1, 4, 0⟩
def PKT_EM_STATE.ACTIVE : Fld := ⟨0x6000080, 1, 0⟩
/-! `PKT_EM_REBUILD`: rebuild control, at 0x00C0_0018 (chapter 12). -/
def PKT_EM_REBUILD.RATE : Fld := ⟨0x60000c0 + 16, 16, 0x40⟩
def PKT_EM_REBUILD.AUTO : Fld := ⟨0x60000c0, 1, 1⟩
/-! `PKT_TREAD_ADDR`: table read, at 0x00C0_0020 (chapter 12). -/
def PKT_TREAD_ADDR.DONE : Fld := ⟨0x6000100 + 63, 1, 0⟩
def PKT_TREAD_ADDR.TABLE : Fld := ⟨0x6000100 + 56, 4, 0⟩
def PKT_TREAD_ADDR.COPY : Fld := ⟨0x6000100 + 55, 1, 0⟩
def PKT_TREAD_ADDR.PART : Fld := ⟨0x6000100 + 53, 2, 0⟩
def PKT_TREAD_ADDR.INDEX : Fld := ⟨0x6000100, 24, 0⟩
/-! `PKT_TOEPLITZ_KEY`: hash key, at 0x00C0_0040 + k × 4 (chapter 12). -/
def PKT_TOEPLITZ_KEY.KEY (k : Nat) : Fld := ⟨8 * (0xc00040 + k * 4), 32, 0⟩
/-! `PKT_MAC_CFG`: MAC settings, at 0x00C0_0200 + m × 8 (chapter 12). -/
def PKT_MAC_CFG.DVT_QUEUE (m : Nat) : Fld := ⟨8 * (0xc00200 + m * 8) + 48, 16, 0⟩
def PKT_MAC_CFG.XOFF (m : Nat) : Fld := ⟨8 * (0xc00200 + m * 8) + 16, 16, 0x200⟩
def PKT_MAC_CFG.XON (m : Nat) : Fld := ⟨8 * (0xc00200 + m * 8), 16, 0x100⟩
/-! `PKT_COUNT`: packet counters, at 0x00C0_1000 + k × 8 (chapter 12). -/
def PKT_COUNT.COUNT (k : Nat) : Fld := ⟨8 * (0xc01000 + k * 8), 48, 0⟩
/-! `HIF_STATE`: link state, at 0x0010_0000 (per function) (chapter 13). -/
def HIF_STATE.FROZEN (fn : Nat) : Fld := ⟨0x800000 + 31 + fn * fnStride, 1, 0⟩
def HIF_STATE.FLR_BUSY (fn : Nat) : Fld := ⟨0x800000 + 30 + fn * fnStride, 1, 0⟩
def HIF_STATE.ME (fn : Nat) : Fld := ⟨0x800000 + 29 + fn * fnStride, 1, 0⟩
def HIF_STATE.NUM_VFS (fn : Nat) : Fld := ⟨0x800000 + 16 + fn * fnStride, 8, 0⟩
def HIF_STATE.WIDTH (fn : Nat) : Fld := ⟨0x800000 + 8 + fn * fnStride, 4, 0⟩
def HIF_STATE.SPEED (fn : Nat) : Fld := ⟨0x800000 + fn * fnStride, 4, 0⟩
/-! `HIF_FREEZE`: port freeze, at 0x0010_0008 (per function) (chapter 13). -/
def HIF_FREEZE.RELEASE (fn : Nat) : Fld := ⟨0x800040 + 31 + fn * fnStride, 1, 0⟩
def HIF_FREEZE.CAUSE (fn : Nat) : Fld := ⟨0x800040 + fn * fnStride, 16, 0xffff⟩
/-! `HIF_CPL_TIMEOUT`: completion timeout, at 0x0010_0010 (chapter 13). -/
def HIF_CPL_TIMEOUT.LIMIT : Fld := ⟨0x800080, 16, 0x2710⟩
/-! `HIF_BAR2_BASE`: ring memory mapping, at 0x0010_0018 (per function) (chapter 13). -/
def HIF_BAR2_BASE.BASE (fn : Nat) : Fld := ⟨0x8000c0 + fn * fnStride, 52, (if fn = 1 then 0x0013_0000_0000 else 0x0012_0000_0000)⟩
/-! `HIF_FUNC_RINGS`: ring pair range, at 0x0010_0020 (per function) (chapter 13). -/
def HIF_FUNC_RINGS.COUNT (fn : Nat) : Fld := ⟨0x800100 + 16 + fn * fnStride, 16, 0x2000⟩
def HIF_FUNC_RINGS.FIRST (fn : Nat) : Fld := ⟨0x800100 + fn * fnStride, 16, (if fn = 1 then 0x2000 else 0)⟩
/-! `HIF_VF_CFG`: VF BAR2 size, at 0x0010_0028 (per function) (chapter 13). -/
def HIF_VF_CFG.BAR2_LOG2 (fn : Nat) : Fld := ⟨0x800140 + fn * fnStride, 5, 0x19⟩
/-! `HIF_FLR_BASE`: FLR reports, at 0x0010_0030 (chapter 13). -/
def HIF_FLR_BASE.BASE : Fld := ⟨0x800180, 52, 0x1400000000⟩
/-! `HIF_FLR_COUNT`: FLR report records, at 0x0010_0038 (per function) (chapter 13). -/
def HIF_FLR_COUNT.COUNT (fn : Nat) : Fld := ⟨0x8001c0 + fn * fnStride, 17, 0⟩
/-! `HIF_COUNT`: host counters, at 0x0010_0100 + k × 8 (per function) (chapter 13). -/
def HIF_COUNT.COUNT (fn k : Nat) : Fld := ⟨8 * (0x100100 + k * 8) + fn * fnStride, 48, 0⟩
/-! `HIF_DB_CMD`: command doorbell, at 0x0012_0000 + r × 8 (chapter 13). -/
def HIF_DB_CMD.CMD_TAIL (r : Nat) : Fld := ⟨8 * (0x120000 + r * 8), 32, 0⟩
/-! `HIF_DB_RPL`: reply doorbell, at 0x0012_0004 + r × 8 (chapter 13). -/
def HIF_DB_RPL.RPL_TAIL (r : Nat) : Fld := ⟨8 * (0x120004 + r * 8), 32, 0⟩
/-! `HIF_RING_IDX`: ring indices, at 0x0014_0000 + r × 8 (chapter 13). -/
def HIF_RING_IDX.RPL_HEAD (r : Nat) : Fld := ⟨8 * (0x140000 + r * 8) + 32, 32, 0⟩
def HIF_RING_IDX.CMD_HEAD (r : Nat) : Fld := ⟨8 * (0x140000 + r * 8), 32, 0⟩
/-! `HIF_RING`: ring pair record, at 0x0018_0000 + r × 32 (chapter 13). -/
def HIF_RING.MOD_US (r : Nat) : Fld := ⟨8 * (0x180000 + r * 0x20) + 232, 16, 0⟩
def HIF_RING.MOD_COUNT (r : Nat) : Fld := ⟨8 * (0x180000 + r * 0x20) + 224, 8, 0⟩
def HIF_RING.ERR (r : Nat) : Fld := ⟨8 * (0x180000 + r * 0x20) + 213, 1, 0⟩
def HIF_RING.DRAINING (r : Nat) : Fld := ⟨8 * (0x180000 + r * 0x20) + 212, 1, 0⟩
def HIF_RING.ENABLE (r : Nat) : Fld := ⟨8 * (0x180000 + r * 0x20) + 211, 1, 0⟩
def HIF_RING.VECTOR (r : Nat) : Fld := ⟨8 * (0x180000 + r * 0x20) + 200, 11, 0⟩
def HIF_RING.FUNC (r : Nat) : Fld := ⟨8 * (0x180000 + r * 0x20) + 192, 8, 0⟩
def HIF_RING.MIRROR (r : Nat) : Fld := ⟨8 * (0x180000 + r * 0x20) + 128, 64, 0⟩
def HIF_RING.RPL_BASE (r : Nat) : Fld := ⟨8 * (0x180000 + r * 0x20) + 64, 52, 0⟩
def HIF_RING.KIND (r : Nat) : Fld := ⟨8 * (0x180000 + r * 0x20) + 60, 4, 0⟩
def HIF_RING.RPL_SIZE (r : Nat) : Fld := ⟨8 * (0x180000 + r * 0x20) + 56, 4, 0⟩
def HIF_RING.CMD_SIZE (r : Nat) : Fld := ⟨8 * (0x180000 + r * 0x20) + 52, 4, 0⟩
def HIF_RING.CMD_BASE (r : Nat) : Fld := ⟨8 * (0x180000 + r * 0x20), 52, 0⟩
/-! `DMA_CFG`: engine rate cap, at 0x00D0_0000 (chapter 14). -/
def DMA_CFG.RATE : Fld := ⟨0x6800000, 24, 0⟩
/-! `DMA_CHAN_CFG`: channel configuration, at 0x00D0_1000 + c × 0x20 (chapter 14). -/
def DMA_CHAN_CFG.ENABLE (c : Nat) : Fld := ⟨8 * (0xd01000 + c * 0x20) + 63, 1, 0⟩
def DMA_CHAN_CFG.ERR (c : Nat) : Fld := ⟨8 * (0xd01000 + c * 0x20) + 62, 1, 0⟩
def DMA_CHAN_CFG.PACE_TIMEOUT (c : Nat) : Fld := ⟨8 * (0xd01000 + c * 0x20) + 48, 8, 0⟩
def DMA_CHAN_CFG.WEIGHT (c : Nat) : Fld := ⟨8 * (0xd01000 + c * 0x20) + 40, 8, 1⟩
def DMA_CHAN_CFG.BUF (c : Nat) : Fld := ⟨8 * (0xd01000 + c * 0x20) + 32, 8, 4⟩
def DMA_CHAN_CFG.PACE_SRC (c : Nat) : Fld := ⟨8 * (0xd01000 + c * 0x20) + 22, 2, 0⟩
def DMA_CHAN_CFG.LINE (c : Nat) : Fld := ⟨8 * (0xd01000 + c * 0x20) + 16, 6, 0⟩
def DMA_CHAN_CFG.PORT (c : Nat) : Fld := ⟨8 * (0xd01000 + c * 0x20) + 12, 4, 0⟩
def DMA_CHAN_CFG.PIN (c : Nat) : Fld := ⟨8 * (0xd01000 + c * 0x20) + 8, 4, 0⟩
def DMA_CHAN_CFG.FUNC (c : Nat) : Fld := ⟨8 * (0xd01000 + c * 0x20), 7, 0⟩
/-! `DMA_CHAN_STATE`: channel state, at 0x00D0_1008 + c × 0x20 (chapter 14). -/
def DMA_CHAN_STATE.QUEUED (c : Nat) : Fld := ⟨8 * (0xd01008 + c * 0x20) + 24, 8, 0⟩
def DMA_CHAN_STATE.CREDITS (c : Nat) : Fld := ⟨8 * (0xd01008 + c * 0x20) + 16, 8, 0⟩
def DMA_CHAN_STATE.STATE (c : Nat) : Fld := ⟨8 * (0xd01008 + c * 0x20), 4, 0⟩
/-! `DMA_CHAN_BYTES`: bytes written, at 0x00D0_1010 + c × 0x20 (chapter 14). -/
def DMA_CHAN_BYTES.COUNT (c : Nat) : Fld := ⟨8 * (0xd01010 + c * 0x20), 48, 0⟩
/-! `DMA_COUNT`: DMA counters, at 0x00D0_0100 + k × 8 (chapter 14). -/
def DMA_COUNT.COUNT (k : Nat) : Fld := ⟨8 * (0xd00100 + k * 8), 48, 0⟩
/-! `NVS_CFG`: front-end configuration, at 0x00E1_0000 (chapter 15). -/
def NVS_CFG.TARGET_TIMEOUT : Fld := ⟨0x7080000 + 16, 16, 0x1388⟩
/-! `NVS_CMB_BASE`: controller memory buffers, at 0x00E1_0008 (chapter 15). -/
def NVS_CMB_BASE.BASE : Fld := ⟨0x7080040, 52, 0x1500000000⟩
/-! `NVS_QPAIRS`: PF queue pairs, at 0x00E1_0010 (chapter 15). -/
def NVS_QPAIRS.PF1 : Fld := ⟨0x7080080 + 16, 16, 0x200⟩
def NVS_QPAIRS.PF0 : Fld := ⟨0x7080080, 16, 0x200⟩
/-! `NVS_LOCKS`: range locks, at 0x00E1_0018 (chapter 15). -/
def NVS_LOCKS.WAITING : Fld := ⟨0x70800c0 + 16, 14, 0⟩
def NVS_LOCKS.IN_USE : Fld := ⟨0x70800c0, 14, 0⟩
/-! `NVS_SQ_MAP`: queue map, at 0x00E1_1000 + g × 4 (chapter 15). -/
def NVS_SQ_MAP.VALID (g : Nat) : Fld := ⟨8 * (0xe11000 + g * 4) + 31, 1, 0⟩
def NVS_SQ_MAP.FUNC (g : Nat) : Fld := ⟨8 * (0xe11000 + g * 4) + 16, 7, 0⟩
def NVS_SQ_MAP.SQID (g : Nat) : Fld := ⟨8 * (0xe11000 + g * 4), 16, 0⟩
/-! `NVS_COUNT`: storage counters, at 0x00E1_0100 + k × 8 (chapter 15). -/
def NVS_COUNT.COUNT (k : Nat) : Fld := ⟨8 * (0xe10100 + k * 8), 48, 0⟩
/-! `CKP_JOB_STATE`: job state, at 0x00F0_1000 + j × 0x40 (chapter 16). -/
def CKP_JOB_STATE.BATCHES (j : Nat) : Fld := ⟨8 * (0xf01000 + j * 0x40) + 32, 32, 0⟩
def CKP_JOB_STATE.FULL_NEXT (j : Nat) : Fld := ⟨8 * (0xf01000 + j * 0x40) + 11, 1, 1⟩
def CKP_JOB_STATE.PHASE (j : Nat) : Fld := ⟨8 * (0xf01000 + j * 0x40) + 8, 3, 0⟩
def CKP_JOB_STATE.STATE (j : Nat) : Fld := ⟨8 * (0xf01000 + j * 0x40), 2, 0⟩
/-! `CKP_JOB_STEP`: current step, at 0x00F0_1008 + j × 0x40 (chapter 16). -/
def CKP_JOB_STEP.STEP (j : Nat) : Fld := ⟨8 * (0xf01008 + j * 0x40), 64, 0⟩
/-! `CKP_JOB_LAST`: last committed checkpoint, at 0x00F0_1010 + j × 0x40 (chapter 16). -/
def CKP_JOB_LAST.STEP (j : Nat) : Fld := ⟨8 * (0xf01010 + j * 0x40), 64, 0⟩
/-! `CKP_JOB_CURSOR`: walk position, at 0x00F0_1018 + j × 0x40 (chapter 16). -/
def CKP_JOB_CURSOR.RANGE (j : Nat) : Fld := ⟨8 * (0xf01018 + j * 0x40) + 56, 8, 0⟩
def CKP_JOB_CURSOR.PAGE (j : Nat) : Fld := ⟨8 * (0xf01018 + j * 0x40), 25, 0⟩
/-! `CKP_LOG_HEAD`: log head, at 0x00F0_1020 + j × 0x40 (chapter 16). -/
def CKP_LOG_HEAD.BLOCK (j : Nat) : Fld := ⟨8 * (0xf01020 + j * 0x40), 48, 0⟩
/-! `CKP_LOG_TAIL`: log tail, at 0x00F0_1028 + j × 0x40 (chapter 16). -/
def CKP_LOG_TAIL.BLOCK (j : Nat) : Fld := ⟨8 * (0xf01028 + j * 0x40), 48, 0⟩
/-! `CKP_COUNT`: checkpoint counters, at 0x00F0_0100 + k × 8 (chapter 16). -/
def CKP_COUNT.COUNT (k : Nat) : Fld := ⟨8 * (0xf00100 + k * 8), 48, 0⟩
/-! `SEC_STATE`: security state, at 0x0100_0000 (chapter 17). -/
def SEC_STATE.DEBUG : Fld := ⟨0x8000000 + 31, 1, 0⟩
def SEC_STATE.ZEROISED : Fld := ⟨0x8000000 + 30, 1, 0⟩
def SEC_STATE.ENTROPY_OK : Fld := ⟨0x8000000 + 29, 1, 0⟩
def SEC_STATE.REVOKED : Fld := ⟨0x8000000 + 8, 4, 0⟩
def SEC_STATE.MAQ_SRC : Fld := ⟨0x8000000 + 2, 2, 0⟩
def SEC_STATE.S1_SRC : Fld := ⟨0x8000000, 2, 0⟩
/-! `SEC_SVN`: anti-rollback counts, at 0x0100_0008 (chapter 17). -/
def SEC_SVN.FIRMWARE : Fld := ⟨0x8000040 + 16, 8, 0⟩
def SEC_SVN.MAQUETTE : Fld := ⟨0x8000040 + 8, 8, 0⟩
def SEC_SVN.STAGE1 : Fld := ⟨0x8000040, 8, 0⟩
/-! `SEC_ZEROISE`: zeroisation, at 0x0100_0010 (chapter 17). -/
def SEC_ZEROISE.GO : Fld := ⟨0x8000080, 1, 0⟩
/-! `SEC_SLOT_QUERY`: slot status, at 0x0100_0018 (chapter 17). -/
def SEC_SLOT_QUERY.NOTE : Fld := ⟨0x80000c0 + 35, 1, 0⟩
def SEC_SLOT_QUERY.USES : Fld := ⟨0x80000c0 + 28, 7, 0⟩
def SEC_SLOT_QUERY.FUNC : Fld := ⟨0x80000c0 + 20, 7, 0⟩
def SEC_SLOT_QUERY.STATE : Fld := ⟨0x80000c0 + 16, 4, 0⟩
def SEC_SLOT_QUERY.SLOT : Fld := ⟨0x80000c0, 16, 0⟩
/-! `SEC_PORT_PHASE`: inline key phases, at 0x0100_0020 (chapter 17). -/
def SEC_PORT_PHASE.RX_SEEN : Fld := ⟨0x8000100 + 16, 12, 0⟩
def SEC_PORT_PHASE.TX : Fld := ⟨0x8000100, 12, 0⟩
/-! `SEC_PORT_KEY`: inline key slots, at 0x0100_0100 + p × 8 (chapter 17). -/
def SEC_PORT_KEY.RX_SLOT1 (p : Nat) : Fld := ⟨8 * (0x1000100 + p * 8) + 48, 16, 0⟩
def SEC_PORT_KEY.RX_SLOT0 (p : Nat) : Fld := ⟨8 * (0x1000100 + p * 8) + 32, 16, 0⟩
def SEC_PORT_KEY.TX_SLOT1 (p : Nat) : Fld := ⟨8 * (0x1000100 + p * 8) + 16, 16, 0⟩
def SEC_PORT_KEY.TX_SLOT0 (p : Nat) : Fld := ⟨8 * (0x1000100 + p * 8), 16, 0⟩
/-! `SEC_CTX_CFG`: derived-context roots, at 0x0100_1000 + c × 8 (chapter 17). -/
def SEC_CTX_CFG.CORES (c : Nat) : Fld := ⟨8 * (0x1001000 + c * 8) + 48, 16, 0⟩
def SEC_CTX_CFG.ROOT_SLOT (c : Nat) : Fld := ⟨8 * (0x1001000 + c * 8) + 24, 16, 0⟩
def SEC_CTX_CFG.ROOT (c : Nat) : Fld := ⟨8 * (0x1001000 + c * 8) + 16, 2, 0⟩
/-! `SEC_COUNT`: security counters, at 0x0100_0200 + k × 8 (chapter 17). -/
def SEC_COUNT.COUNT (k : Nat) : Fld := ⟨8 * (0x1000200 + k * 8), 48, 0⟩
/-! `FLT_MODE`: hub mode, at 0x0020_0000 (chapter 18). -/
def FLT_MODE.HELD : Fld := ⟨0x1000000 + 4, 4, 0⟩
def FLT_MODE.MODE : Fld := ⟨0x1000000, 2, 0⟩
/-! `FLT_GRACE`: grace time, at 0x0020_0008 (chapter 18). -/
def FLT_GRACE.US : Fld := ⟨0x1000040, 16, 0x3e8⟩
/-! `FLT_CHIP_WDOG`: chip watchdog limit, at 0x0020_0010 (chapter 18). -/
def FLT_CHIP_WDOG.LIMIT : Fld := ⟨0x1000080, 16, 0⟩
/-! `FLT_CHIP_PET`: chip watchdog pet, at 0x0020_0018 (chapter 18). -/
def FLT_CHIP_PET.PET : Fld := ⟨0x10000c0, 32, 0⟩
/-! `FLT_SAFE`: safe state, at 0x0020_0020 (chapter 18). -/
def FLT_SAFE.SAFE : Fld := ⟨0x1000100 + 31, 1, 0⟩
def FLT_SAFE.ENTER : Fld := ⟨0x1000100 + 30, 1, 0⟩
def FLT_SAFE.BOOT : Fld := ⟨0x1000100 + 15, 1, 0⟩
def FLT_SAFE.CAUSE : Fld := ⟨0x1000100, 10, 0x3ff⟩
/-! `FLT_HIST_HEAD`: history entries written, at 0x0020_0028 (chapter 18). -/
def FLT_HIST_HEAD.HEAD : Fld := ⟨0x1000140, 64, 0⟩
/-! `FLT_HIST`: history entry, at 0x0020_0800 + e × 16 (chapter 18). -/
def FLT_HIST.TICK (e : Nat) : Fld := ⟨8 * (0x200800 + e * 0x10) + 64, 64, 0⟩
def FLT_HIST.REACTION (e : Nat) : Fld := ⟨8 * (0x200800 + e * 0x10) + 50, 3, 0⟩
def FLT_HIST.CYCLE (e : Nat) : Fld := ⟨8 * (0x200800 + e * 0x10) + 32, 18, 0⟩
def FLT_HIST.DETAIL (e : Nat) : Fld := ⟨8 * (0x200800 + e * 0x10) + 16, 16, 0⟩
def FLT_HIST.GRACE_END (e : Nat) : Fld := ⟨8 * (0x200800 + e * 0x10) + 15, 1, 0⟩
def FLT_HIST.HANDLED (e : Nat) : Fld := ⟨8 * (0x200800 + e * 0x10) + 14, 1, 0⟩
def FLT_HIST.HELD (e : Nat) : Fld := ⟨8 * (0x200800 + e * 0x10) + 13, 1, 0⟩
def FLT_HIST.SEVERE (e : Nat) : Fld := ⟨8 * (0x200800 + e * 0x10) + 12, 1, 0⟩
def FLT_HIST.INJECTED (e : Nat) : Fld := ⟨8 * (0x200800 + e * 0x10) + 11, 1, 0⟩
def FLT_HIST.SAFE (e : Nat) : Fld := ⟨8 * (0x200800 + e * 0x10) + 10, 1, 0⟩
def FLT_HIST.SOURCE (e : Nat) : Fld := ⟨8 * (0x200800 + e * 0x10), 10, 0⟩
/-! `FLT_SRC_CFG`: source configuration, at 0x0020_1000 + s × 8 (chapter 18). -/
def FLT_SRC_CFG.FIXED (s : Nat) : Fld := ⟨8 * (0x201000 + s * 8) + 63, 1, (srcDefault s).fixed⟩
def FLT_SRC_CFG.N (s : Nat) : Fld := ⟨8 * (0x201000 + s * 8) + 48, 8, (srcDefault s).n⟩
def FLT_SRC_CFG.W (s : Nat) : Fld := ⟨8 * (0x201000 + s * 8) + 32, 16, (srcDefault s).w⟩
def FLT_SRC_CFG.SEV_REACT (s : Nat) : Fld := ⟨8 * (0x201000 + s * 8) + 8, 3, (srcDefault s).sevReact⟩
def FLT_SRC_CFG.REACT (s : Nat) : Fld := ⟨8 * (0x201000 + s * 8), 3, (srcDefault s).react⟩
/-! `FLT_SRC_STATE`: source state, at 0x0020_4000 + s × 8 (chapter 18). -/
def FLT_SRC_STATE.WSTART (s : Nat) : Fld := ⟨8 * (0x204000 + s * 8) + 32, 32, 0⟩
def FLT_SRC_STATE.COUNT (s : Nat) : Fld := ⟨8 * (0x204000 + s * 8) + 8, 8, 0⟩
def FLT_SRC_STATE.HELD (s : Nat) : Fld := ⟨8 * (0x204000 + s * 8) + 2, 1, 0⟩
def FLT_SRC_STATE.SEVERE (s : Nat) : Fld := ⟨8 * (0x204000 + s * 8) + 1, 1, 0⟩
def FLT_SRC_STATE.ACTIVE (s : Nat) : Fld := ⟨8 * (0x204000 + s * 8), 1, 0⟩
/-! `FLT_SRC_EVENTS`: source event count, at 0x0020_6000 + s × 8 (chapter 18). -/
def FLT_SRC_EVENTS.COUNT (s : Nat) : Fld := ⟨8 * (0x206000 + s * 8), 48, 0⟩
/-! `PCR_STATE`: power and reset state, at 0x0030_0000 (chapter 19). -/
def PCR_STATE.WARM_COUNT : Fld := ⟨0x1800000 + 16, 16, 0⟩
def PCR_STATE.MAQ_CAUSE : Fld := ⟨0x1800000 + 13, 3, 0⟩
def PCR_STATE.CLK_SRC : Fld := ⟨0x1800000 + 12, 1, 0⟩
def PCR_STATE.MAQ_SRC : Fld := ⟨0x1800000 + 10, 2, 0⟩
def PCR_STATE.MAQ_LOADED : Fld := ⟨0x1800000 + 9, 1, 0⟩
def PCR_STATE.READY : Fld := ⟨0x1800000 + 8, 1, 0⟩
def PCR_STATE.WARM_CAUSE : Fld := ⟨0x1800000 + 4, 4, 0⟩
def PCR_STATE.LAST_RESET : Fld := ⟨0x1800000 + 2, 2, 0⟩
def PCR_STATE.POWER : Fld := ⟨0x1800000, 2, 0⟩
/-! `PCR_RESET`: reset request, at 0x0030_0008 (chapter 19). -/
def PCR_RESET.WARM : Fld := ⟨0x1800040, 1, 0⟩
/-! `PCR_IDLE_CFG`: idle timers, at 0x0030_0010 (chapter 19). -/
def PCR_IDLE_CFG.MAX_STATE : Fld := ⟨0x1800080 + 48, 2, 3⟩
def PCR_IDLE_CFG.A3_MS : Fld := ⟨0x1800080 + 32, 16, 0x3e8⟩
def PCR_IDLE_CFG.A2_MS : Fld := ⟨0x1800080 + 16, 16, 0xa⟩
def PCR_IDLE_CFG.A1_US : Fld := ⟨0x1800080, 16, 0x32⟩
/-! `PCR_CLK_CTRL`: clock switch, at 0x0030_0018 (chapter 19). -/
def PCR_CLK_CTRL.OSC_MHZ : Fld := ⟨0x18000c0 + 24, 8, 0xc8⟩
def PCR_CLK_CTRL.LOCKED : Fld := ⟨0x18000c0 + 3, 1, 0⟩
def PCR_CLK_CTRL.SWITCH : Fld := ⟨0x18000c0 + 1, 1, 0⟩
def PCR_CLK_CTRL.START : Fld := ⟨0x18000c0, 1, 0⟩
/-! `PCR_WARM_REPORT`: warm-reset report, at 0x0030_0020 (chapter 19). -/
def PCR_WARM_REPORT.BASE : Fld := ⟨0x1800100 + 16, 36, 0x107400⟩
def PCR_WARM_REPORT.COUNT : Fld := ⟨0x1800100, 15, 0⟩
/-! `PCR_COUNT`: power counters, at 0x0030_0100 + k × 8 (chapter 19). -/
def PCR_COUNT.COUNT (k : Nat) : Fld := ⟨8 * (0x300100 + k * 8), 48, 0⟩
/-! `OBS_CTR_CLEAR`: counter clear, at 0x0110_0000 (chapter 20). -/
def OBS_CTR_CLEAR.BLOCK : Fld := ⟨0x8800000, 5, 0⟩
/-! `OBS_SAT_BLOCKS`: saturated blocks, at 0x0110_0008 (chapter 20). -/
def OBS_SAT_BLOCKS.BLOCKS : Fld := ⟨0x8800040, 19, 0⟩
/-! `OBS_SAT_HEAD`: saturation log entries, at 0x0110_0010 (chapter 20). -/
def OBS_SAT_HEAD.HEAD : Fld := ⟨0x8800080, 64, 0⟩
/-! `OBS_TRACE_CFG`: trace configuration, at 0x0110_0020 (chapter 20). -/
def OBS_TRACE_CFG.ENABLE : Fld := ⟨0x8800100 + 63, 1, 0⟩
def OBS_TRACE_CFG.DATA : Fld := ⟨0x8800100 + 62, 1, 0⟩
def OBS_TRACE_CFG.PRE : Fld := ⟨0x8800100 + 59, 3, 2⟩
def OBS_TRACE_CFG.SIZE : Fld := ⟨0x8800100 + 55, 4, 6⟩
def OBS_TRACE_CFG.BASE : Fld := ⟨0x8800100 + 16, 36, 0x108000⟩
def OBS_TRACE_CFG.CORES : Fld := ⟨0x8800100, 16, 0xffff⟩
/-! `OBS_TRACE_STATE`: trace state, at 0x0110_0028 (chapter 20). -/
def OBS_TRACE_STATE.STATE : Fld := ⟨0x8800140 + 62, 2, 0⟩
def OBS_TRACE_STATE.TRIG_INDEX : Fld := ⟨0x8800140 + 32, 25, 0⟩
def OBS_TRACE_STATE.WRITE_INDEX : Fld := ⟨0x8800140, 25, 0⟩
/-! `OBS_TRACE_TRIG`: trace trigger, at 0x0110_0030 (chapter 20). -/
def OBS_TRACE_TRIG.GO : Fld := ⟨0x8800180 + 31, 1, 0⟩
def OBS_TRACE_TRIG.SRC : Fld := ⟨0x8800180 + 29, 2, 0⟩
def OBS_TRACE_TRIG.FAULT : Fld := ⟨0x8800180, 10, 0⟩
/-! `OBS_HANG`: hang snapshot, at 0x0110_0038 (chapter 20). -/
def OBS_HANG.GO : Fld := ⟨0x88001c0 + 63, 1, 0⟩
def OBS_HANG.DONE : Fld := ⟨0x88001c0 + 62, 1, 0⟩
def OBS_HANG.NOANS : Fld := ⟨0x88001c0 + 52, 10, 0⟩
def OBS_HANG.BASE : Fld := ⟨0x88001c0, 52, 0x107c000000⟩
/-! `CAL_CFG`: Caliper configuration, at 0x0110_0040 (chapter 20). -/
def CAL_CFG.OWNER : Fld := ⟨0x8800200 + 63, 1, 0⟩
def CAL_CFG.SIZE : Fld := ⟨0x8800200 + 56, 4, 4⟩
def CAL_CFG.BASE : Fld := ⟨0x8800200, 52, 0x1078000000⟩
/-! `CAL_LIMIT`: emergency limits, at 0x0110_0048 (chapter 20). -/
def CAL_LIMIT.DUTY : Fld := ⟨0x8800240 + 48, 5, 0xc⟩
def CAL_LIMIT.EMERG_C : Fld := ⟨0x8800240 + 40, 8, 0x69⟩
def CAL_LIMIT.EMERG_W : Fld := ⟨0x8800240 + 16, 16, 0x41a⟩
def CAL_LIMIT.TURBO_W : Fld := ⟨0x8800240, 16, 0x384⟩
/-! `CAL_ACC`: accelerator budgets, at 0x0110_0050 + p × 8 (chapter 20). -/
def CAL_ACC.EMERG (p : Nat) : Fld := ⟨8 * (0x1100050 + p * 8) + 32, 16, 0⟩
def CAL_ACC.BUDGET (p : Nat) : Fld := ⟨8 * (0x1100050 + p * 8) + 16, 16, 0⟩
def CAL_ACC.POS (p : Nat) : Fld := ⟨8 * (0x1100050 + p * 8), 4, 0⟩
/-! `OBS_COUNT`: observation counters, at 0x0110_0200 + k × 8 (chapter 20). -/
def OBS_COUNT.COUNT (k : Nat) : Fld := ⟨8 * (0x1100200 + k * 8), 48, 0⟩
/-! `OBS_BP`: breakpoint, at 0x0110_1000 + n × 0x100 + i × 0x10 (chapter 20). -/
def OBS_BP.ENABLE (n i : Nat) : Fld := ⟨8 * (0x1101000 + n * 0x100 + i * 0x10) + 95, 1, 0⟩
def OBS_BP.KIND (n i : Nat) : Fld := ⟨8 * (0x1101000 + n * 0x100 + i * 0x10) + 93, 2, 0⟩
def OBS_BP.ACTION (n i : Nat) : Fld := ⟨8 * (0x1101000 + n * 0x100 + i * 0x10) + 91, 2, 0⟩
def OBS_BP.MASK (n i : Nat) : Fld := ⟨8 * (0x1101000 + n * 0x100 + i * 0x10) + 86, 5, 0⟩
def OBS_BP.COUNT (n i : Nat) : Fld := ⟨8 * (0x1101000 + n * 0x100 + i * 0x10) + 72, 8, 0⟩
def OBS_BP.HITS (n i : Nat) : Fld := ⟨8 * (0x1101000 + n * 0x100 + i * 0x10) + 64, 8, 0⟩
def OBS_BP.ADDR (n i : Nat) : Fld := ⟨8 * (0x1101000 + n * 0x100 + i * 0x10), 64, 0⟩
/-! `OBS_DBG_CTRL`: core debug, at 0x0110_2000 + n × 0x20 (chapter 20). -/
def OBS_DBG_CTRL.PC (n : Nat) : Fld := ⟨8 * (0x1102000 + n * 0x20) + 12, 52, 0⟩
def OBS_DBG_CTRL.HALTED (n : Nat) : Fld := ⟨8 * (0x1102000 + n * 0x20) + 7, 1, 0⟩
def OBS_DBG_CTRL.STEP (n : Nat) : Fld := ⟨8 * (0x1102000 + n * 0x20) + 2, 1, 0⟩
def OBS_DBG_CTRL.RESUME (n : Nat) : Fld := ⟨8 * (0x1102000 + n * 0x20) + 1, 1, 0⟩
def OBS_DBG_CTRL.HALT (n : Nat) : Fld := ⟨8 * (0x1102000 + n * 0x20), 1, 0⟩
/-! `OBS_DBG_ACC`: register access, at 0x0110_2008 + n × 0x20 (chapter 20). -/
def OBS_DBG_ACC.GO (n : Nat) : Fld := ⟨8 * (0x1102008 + n * 0x20) + 63, 1, 0⟩
def OBS_DBG_ACC.WRITE (n : Nat) : Fld := ⟨8 * (0x1102008 + n * 0x20) + 62, 1, 0⟩
def OBS_DBG_ACC.ERR (n : Nat) : Fld := ⟨8 * (0x1102008 + n * 0x20) + 61, 1, 0⟩
def OBS_DBG_ACC.TAG (n : Nat) : Fld := ⟨8 * (0x1102008 + n * 0x20) + 44, 4, 0⟩
def OBS_DBG_ACC.INDEX (n : Nat) : Fld := ⟨8 * (0x1102008 + n * 0x20), 12, 0⟩
/-! `PAT_STATE`: Patina state, at 0x0120_0000 (chapter 20). -/
def PAT_STATE.LAST_SUMMARY : Fld := ⟨0x9000000 + 32, 32, 0⟩
def PAT_STATE.BAD_BLOCKS : Fld := ⟨0x9000000 + 16, 13, 0⟩
def PAT_STATE.FREE_BLOCKS : Fld := ⟨0x9000000, 13, 0⟩
/-! `PAT_SEQ`: record sequence, at 0x0120_0008 (chapter 20). -/
def PAT_SEQ.SEQ : Fld := ⟨0x9000040, 64, 0⟩
/-! `PAT_COUNT`: Patina counters, at 0x0120_0100 + k × 8 (chapter 20). -/
def PAT_COUNT.COUNT (k : Nat) : Fld := ⟨8 * (0x1200100 + k * 8), 48, 0⟩
/-! `OBS_DBG_DATA`: register access data, at 0x0110_2010 + n × 0x20 (chapter 20). -/
def OBS_DBG_DATA.DATA (n : Nat) : Fld := ⟨8 * (0x1102010 + n * 0x20), 64, 0⟩
/-! `OBS_SAT_LOG`: saturation log, at 0x0110_0100 + e × 4 (chapter 20). -/
def OBS_SAT_LOG.OFFSET (e : Nat) : Fld := ⟨8 * (0x1100100 + e * 4), 32, 0⟩

/-- Access codes of a field (R10). -/
inductive Acc where
  | ro | rw | wo | w1c | w1s | rc | rwl
  deriving DecidableEq, Repr

/-- One field of a register: its name, access code, whether it is sticky across warm reset, the descriptor of its
copy for a function and an array index, and which written values the field accepts (R8 and the chapter's own text). -/
structure FldRow where
  name : String
  acc : Acc
  st : Bool
  fld : Nat → Nat × Nat → Fld
  ok : Nat → Bool := fun _ => true

/-- One register of a chapter's table: BAR0 offset, array dimensions (count and stride), size in bits, whether it is
per function, and its fields. -/
structure Row where
  name : String
  base : Nat
  dims : List (Nat × Nat)
  size : Nat
  perFn : Bool
  flds : List FldRow

/-- Rows of the register map, part 0. -/
def rows0 : List Row := [
  { name := "GLB_ATTN", base := 0x80000, dims := [], size := 32, perFn := false, flds := [
    { name := "CLASS", acc := .ro, st := false, fld := fun _ _ => GLB_ATTN.CLASS },
    { name := "LEVEL", acc := .ro, st := false, fld := fun _ _ => GLB_ATTN.LEVEL },
    { name := "ACTIVE", acc := .ro, st := false, fld := fun _ _ => GLB_ATTN.ACTIVE }] },
  { name := "GLB_ATTN_NOTE", base := 0x80004, dims := [], size := 32, perFn := false, flds := [
    { name := "NOTE", acc := .w1c, st := false, fld := fun _ _ => GLB_ATTN_NOTE.NOTE }] },
  { name := "GLB_LEDGER_STATE", base := 0x80008, dims := [], size := 32, perFn := false, flds := [
    { name := "COPIES", acc := .ro, st := false, fld := fun _ _ => GLB_LEDGER_STATE.COPIES },
    { name := "REBUILD", acc := .ro, st := false, fld := fun _ _ => GLB_LEDGER_STATE.REBUILD },
    { name := "MIRROR", acc := .ro, st := false, fld := fun _ _ => GLB_LEDGER_STATE.MIRROR },
    { name := "FREE", acc := .ro, st := false, fld := fun _ _ => GLB_LEDGER_STATE.FREE }] },
  { name := "GLB_LEDGER_HEAD", base := 0x80010, dims := [], size := 64, perFn := false, flds := [
    { name := "HEAD", acc := .ro, st := false, fld := fun _ _ => GLB_LEDGER_HEAD.HEAD }] },
  { name := "GLB_LEDGER_LOW", base := 0x80018, dims := [], size := 64, perFn := false, flds := [
    { name := "LOW", acc := .ro, st := false, fld := fun _ _ => GLB_LEDGER_LOW.LOW }] },
  { name := "GLB_LEDGER_NOTE_FREE", base := 0x80020, dims := [], size := 32, perFn := false, flds := [
    { name := "THRESHOLD", acc := .rw, st := false, fld := fun _ _ => GLB_LEDGER_NOTE_FREE.THRESHOLD }] },
  { name := "GLB_LEDGER_STALLS", base := 0x80028, dims := [], size := 64, perFn := false, flds := [
    { name := "COUNT", acc := .ro, st := true, fld := fun _ _ => GLB_LEDGER_STALLS.COUNT }] },
  { name := "GLB_RECOVERY", base := 0x80030, dims := [], size := 64, perFn := false, flds := [
    { name := "VALID", acc := .ro, st := true, fld := fun _ _ => GLB_RECOVERY.VALID },
    { name := "ACK", acc := .w1s, st := false, fld := fun _ _ => GLB_RECOVERY.ACK },
    { name := "DEVICE", acc := .ro, st := true, fld := fun _ _ => GLB_RECOVERY.DEVICE },
    { name := "COUNT", acc := .ro, st := true, fld := fun _ _ => GLB_RECOVERY.COUNT }] },
  { name := "TCK_CTRL", base := 0x400000, dims := [], size := 32, perFn := false, flds := [
    { name := "POSITION", acc := .rwl, st := false, fld := fun _ _ => TCK_CTRL.POSITION },
    { name := "ROLE", acc := .rwl, st := false, fld := fun _ _ => TCK_CTRL.ROLE, ok := fun v => v != 3 },
    { name := "RELOCK", acc := .w1s, st := false, fld := fun _ _ => TCK_CTRL.RELOCK },
    { name := "LEAVE", acc := .w1s, st := false, fld := fun _ _ => TCK_CTRL.LEAVE },
    { name := "JOIN", acc := .w1s, st := false, fld := fun _ _ => TCK_CTRL.JOIN },
    { name := "PROBE", acc := .w1s, st := false, fld := fun _ _ => TCK_CTRL.PROBE }] },
  { name := "TCK_STATUS", base := 0x400004, dims := [], size := 32, perFn := false, flds := [
    { name := "MISSES", acc := .ro, st := false, fld := fun _ _ => TCK_STATUS.MISSES },
    { name := "BOARD_FLAGS", acc := .ro, st := false, fld := fun _ _ => TCK_STATUS.BOARD_FLAGS },
    { name := "MASTER_POS", acc := .ro, st := false, fld := fun _ _ => TCK_STATUS.MASTER_POS },
    { name := "BYPASS", acc := .ro, st := false, fld := fun _ _ => TCK_STATUS.BYPASS },
    { name := "STATE", acc := .ro, st := false, fld := fun _ _ => TCK_STATUS.STATE }] },
  { name := "TCK_PERIOD", base := 0x400010, dims := [], size := 32, perFn := false, flds := [
    { name := "PERIOD", acc := .rwl, st := false, fld := fun _ _ => TCK_PERIOD.PERIOD, ok := fun v => 4 ≤ v && v ≤ 256 }] },
  { name := "TCK_NUMBER", base := 0x400018, dims := [], size := 64, perFn := false, flds := [
    { name := "NUMBER", acc := .ro, st := true, fld := fun _ _ => TCK_NUMBER.NUMBER }] },
  { name := "TCK_PHASE", base := 0x400020, dims := [], size := 32, perFn := false, flds := [
    { name := "OFFSET", acc := .ro, st := false, fld := fun _ _ => TCK_PHASE.OFFSET },
    { name := "ERROR", acc := .ro, st := false, fld := fun _ _ => TCK_PHASE.ERROR }] },
  { name := "TCK_OVERRUN_LIMIT", base := 0x400028, dims := [], size := 32, perFn := false, flds := [
    { name := "LIMIT", acc := .rw, st := false, fld := fun _ _ => TCK_OVERRUN_LIMIT.LIMIT, ok := fun v => v != 0 }] },
  { name := "TCK_ADMIT", base := 0x400030, dims := [], size := 64, perFn := false, flds := [
    { name := "LINK", acc := .ro, st := false, fld := fun _ _ => TCK_ADMIT.LINK },
    { name := "ARM", acc := .ro, st := false, fld := fun _ _ => TCK_ADMIT.ARM },
    { name := "PLINTH", acc := .ro, st := false, fld := fun _ _ => TCK_ADMIT.PLINTH },
    { name := "WC", acc := .ro, st := false, fld := fun _ _ => TCK_ADMIT.WC }] },
  { name := "TCK_CARRIES", base := 0x400038, dims := [], size := 64, perFn := false, flds := [
    { name := "COUNT", acc := .ro, st := true, fld := fun _ _ => TCK_CARRIES.COUNT }] },
  { name := "TCK_MISSES", base := 0x400040, dims := [], size := 64, perFn := false, flds := [
    { name := "COUNT", acc := .ro, st := true, fld := fun _ _ => TCK_MISSES.COUNT }] },
  { name := "TCK_CELL_ERRORS", base := 0x400048, dims := [], size := 64, perFn := false, flds := [
    { name := "COUNT", acc := .ro, st := true, fld := fun _ _ => TCK_CELL_ERRORS.COUNT }] },
  { name := "WKC_STATE", base := 0x500000, dims := [(64, 0x4000)], size := 32, perFn := false, flds := [
    { name := "FAULTS", acc := .ro, st := false, fld := fun _ i => WKC_STATE.FAULTS i.1 },
    { name := "SELFTEST", acc := .ro, st := false, fld := fun _ i => WKC_STATE.SELFTEST i.1 },
    { name := "ROLE", acc := .ro, st := false, fld := fun _ i => WKC_STATE.ROLE i.1 },
    { name := "STATE", acc := .ro, st := false, fld := fun _ i => WKC_STATE.STATE i.1 }] },
  { name := "WKC_GRANT", base := 0x500004, dims := [(64, 0x4000)], size := 32, perFn := false, flds := [
    { name := "LOGICAL", acc := .ro, st := false, fld := fun _ i => WKC_GRANT.LOGICAL i.1 },
    { name := "PLAN", acc := .ro, st := false, fld := fun _ i => WKC_GRANT.PLAN i.1 }] }]

/-- Rows of the register map, part 1. -/
def rows1 : List Row := [
  { name := "WKC_SR_KEY", base := 0x500008, dims := [(64, 0x4000)], size := 64, perFn := false, flds := [
    { name := "KEY", acc := .rw, st := true, fld := fun _ i => WKC_SR_KEY.KEY i.1 }] },
  { name := "WKC_UNIT_SEQ", base := 0x500010, dims := [(64, 0x4000), (4, 8)], size := 64, perFn := false, flds := [
    { name := "SEQ", acc := .ro, st := false, fld := fun _ i => WKC_UNIT_SEQ.SEQ i.1 i.2 }] },
  { name := "WKC_ITEMS", base := 0x500040, dims := [(64, 0x4000)], size := 64, perFn := false, flds := [
    { name := "COUNT", acc := .ro, st := true, fld := fun _ i => WKC_ITEMS.COUNT i.1 }] },
  { name := "WKC_BUSY", base := 0x500048, dims := [(64, 0x4000), (4, 8)], size := 64, perFn := false, flds := [
    { name := "COUNT", acc := .ro, st := true, fld := fun _ i => WKC_BUSY.COUNT i.1 i.2 }] },
  { name := "WKC_AFLAG_COUNT", base := 0x500080, dims := [(64, 0x4000), (7, 8)], size := 64, perFn := false, flds := [
    { name := "COUNT", acc := .ro, st := true, fld := fun _ i => WKC_AFLAG_COUNT.COUNT i.1 i.2 }] },
  { name := "WKC_OB_REFETCH", base := 0x5000c0, dims := [(64, 0x4000)], size := 64, perFn := false, flds := [
    { name := "COUNT", acc := .ro, st := true, fld := fun _ i => WKC_OB_REFETCH.COUNT i.1 }] },
  { name := "WKC_REPLAYS", base := 0x5000c8, dims := [(64, 0x4000)], size := 64, perFn := false, flds := [
    { name := "COUNT", acc := .ro, st := true, fld := fun _ i => WKC_REPLAYS.COUNT i.1 }] },
  { name := "WKC_POOL", base := 0x503000, dims := [], size := 32, perFn := false, flds := [
    { name := "RETIRED", acc := .ro, st := false, fld := fun _ _ => WKC_POOL.RETIRED },
    { name := "FENCED", acc := .ro, st := false, fld := fun _ _ => WKC_POOL.FENCED },
    { name := "SPARES", acc := .ro, st := false, fld := fun _ _ => WKC_POOL.SPARES },
    { name := "IN_SERVICE", acc := .ro, st := false, fld := fun _ _ => WKC_POOL.IN_SERVICE }] },
  { name := "WKC_SPARES_CFG", base := 0x503004, dims := [], size := 32, perFn := false, flds := [
    { name := "COUNT", acc := .rwl, st := false, fld := fun _ _ => WKC_SPARES_CFG.COUNT, ok := fun v => v ≤ 8 }] },
  { name := "WKC_RETIRE", base := 0x503008, dims := [], size := 64, perFn := false, flds := [
    { name := "MASK", acc := .rwl, st := true, fld := fun _ _ => WKC_RETIRE.MASK }] },
  { name := "WKC_FENCED", base := 0x503010, dims := [], size := 64, perFn := false, flds := [
    { name := "MASK", acc := .ro, st := false, fld := fun _ _ => WKC_FENCED.MASK }] },
  { name := "WKC_SPARE_MASK", base := 0x503018, dims := [], size := 64, perFn := false, flds := [
    { name := "MASK", acc := .ro, st := false, fld := fun _ _ => WKC_SPARE_MASK.MASK }] },
  { name := "WKC_ITEM_LIMIT", base := 0x503020, dims := [], size := 32, perFn := false, flds := [
    { name := "LIMIT", acc := .rw, st := false, fld := fun _ _ => WKC_ITEM_LIMIT.LIMIT, ok := fun v => v != 0 }] },
  { name := "COL_ALGO_CFG", base := 0x600000, dims := [], size := 32, perFn := false, flds := [
    { name := "RING_MIN", acc := .rw, st := false, fld := fun _ _ => COL_ALGO_CFG.RING_MIN, ok := fun v => 16 ≤ v && v ≤ 30 }] },
  { name := "COL_SLOT_TIMEOUT", base := 0x600008, dims := [], size := 32, perFn := false, flds := [
    { name := "LIMIT", acc := .rw, st := false, fld := fun _ _ => COL_SLOT_TIMEOUT.LIMIT, ok := fun v => v != 0 }] },
  { name := "COL_SLOT_ARMED", base := 0x600010, dims := [(4, 8)], size := 64, perFn := false, flds := [
    { name := "MASK", acc := .ro, st := false, fld := fun _ i => COL_SLOT_ARMED.MASK i.1 }] },
  { name := "COL_FIRINGS", base := 0x600040, dims := [], size := 64, perFn := false, flds := [
    { name := "COUNT", acc := .ro, st := true, fld := fun _ _ => COL_FIRINGS.COUNT }] },
  { name := "COL_OVERDRAWS", base := 0x600048, dims := [], size := 64, perFn := false, flds := [
    { name := "COUNT", acc := .ro, st := true, fld := fun _ _ => COL_OVERDRAWS.COUNT }] },
  { name := "COL_RESENDS", base := 0x600050, dims := [], size := 64, perFn := false, flds := [
    { name := "COUNT", acc := .ro, st := true, fld := fun _ _ => COL_RESENDS.COUNT }] },
  { name := "COL_ORPHANS", base := 0x600058, dims := [], size := 64, perFn := false, flds := [
    { name := "COUNT", acc := .ro, st := true, fld := fun _ _ => COL_ORPHANS.COUNT }] }]

/-- Rows of the register map, part 2. -/
def rows2 : List Row := [
  { name := "COL_DUP_WRITES", base := 0x600060, dims := [], size := 64, perFn := false, flds := [
    { name := "COUNT", acc := .ro, st := true, fld := fun _ _ => COL_DUP_WRITES.COUNT }] },
  { name := "COL_WITHDRAWN", base := 0x600068, dims := [], size := 64, perFn := false, flds := [
    { name := "COUNT", acc := .ro, st := true, fld := fun _ _ => COL_WITHDRAWN.COUNT }] },
  { name := "COL_LAT_MAX", base := 0x600070, dims := [], size := 32, perFn := false, flds := [
    { name := "SLOT", acc := .rc, st := false, fld := fun _ _ => COL_LAT_MAX.SLOT },
    { name := "CYCLES", acc := .rc, st := false, fld := fun _ _ => COL_LAT_MAX.CYCLES }] },
  { name := "KVA_MAP_BASE", base := 0x700000, dims := [], size := 64, perFn := false, flds := [
    { name := "BASE", acc := .rwl, st := false, fld := fun _ _ => KVA_MAP_BASE.BASE }] },
  { name := "KVA_MAP_STATE", base := 0x700008, dims := [], size := 32, perFn := false, flds := [
    { name := "COMPACT", acc := .ro, st := false, fld := fun _ _ => KVA_MAP_STATE.COMPACT },
    { name := "ABANDONS", acc := .ro, st := false, fld := fun _ _ => KVA_MAP_STATE.ABANDONS },
    { name := "ACTIVE", acc := .ro, st := true, fld := fun _ _ => KVA_MAP_STATE.ACTIVE }] },
  { name := "KVA_MAP_FREE", base := 0x700010, dims := [], size := 64, perFn := false, flds := [
    { name := "LARGEST", acc := .ro, st := false, fld := fun _ _ => KVA_MAP_FREE.LARGEST },
    { name := "FREE", acc := .ro, st := false, fld := fun _ _ => KVA_MAP_FREE.FREE }] },
  { name := "KVA_COMPACT", base := 0x700018, dims := [], size := 32, perFn := false, flds := [
    { name := "RATE", acc := .rw, st := false, fld := fun _ _ => KVA_COMPACT.RATE, ok := fun v => v != 0 },
    { name := "AUTO", acc := .rw, st := false, fld := fun _ _ => KVA_COMPACT.AUTO }] },
  { name := "KVA_HEAT_CFG", base := 0x700020, dims := [], size := 64, perFn := false, flds := [
    { name := "DECAY", acc := .rw, st := false, fld := fun _ _ => KVA_HEAT_CFG.DECAY, ok := fun v => 4 ≤ v && v ≤ 24 },
    { name := "HOT_PLINTH", acc := .rw, st := false, fld := fun _ _ => KVA_HEAT_CFG.HOT_PLINTH },
    { name := "HOT_NEAR", acc := .rw, st := false, fld := fun _ _ => KVA_HEAT_CFG.HOT_NEAR },
    { name := "COLD_PLINTH", acc := .rw, st := false, fld := fun _ _ => KVA_HEAT_CFG.COLD_PLINTH },
    { name := "COLD_NEAR", acc := .rw, st := false, fld := fun _ _ => KVA_HEAT_CFG.COLD_NEAR }] },
  { name := "KVA_MOVE_CFG", base := 0x700028, dims := [], size := 32, perFn := false, flds := [
    { name := "BYTES", acc := .rw, st := false, fld := fun _ _ => KVA_MOVE_CFG.BYTES }] },
  { name := "KVA_POOL_FILL", base := 0x700080, dims := [(4, 8)], size := 64, perFn := false, flds := [
    { name := "FREE", acc := .ro, st := false, fld := fun _ i => KVA_POOL_FILL.FREE i.1 },
    { name := "SIZE", acc := .ro, st := false, fld := fun _ i => KVA_POOL_FILL.SIZE i.1 }] },
  { name := "KVA_QUERIES", base := 0x700040, dims := [], size := 64, perFn := false, flds := [
    { name := "COUNT", acc := .ro, st := true, fld := fun _ _ => KVA_QUERIES.COUNT }] },
  { name := "KVA_BLOCKS_READ", base := 0x700048, dims := [], size := 64, perFn := false, flds := [
    { name := "COUNT", acc := .ro, st := true, fld := fun _ _ => KVA_BLOCKS_READ.COUNT }] },
  { name := "KVA_MOVES", base := 0x700050, dims := [], size := 64, perFn := false, flds := [
    { name := "COUNT", acc := .ro, st := true, fld := fun _ _ => KVA_MOVES.COUNT }] },
  { name := "KVA_MOVE_DROPS", base := 0x700058, dims := [], size := 64, perFn := false, flds := [
    { name := "COUNT", acc := .ro, st := true, fld := fun _ _ => KVA_MOVE_DROPS.COUNT }] },
  { name := "KVA_QUERY_ERRORS", base := 0x700060, dims := [], size := 64, perFn := false, flds := [
    { name := "COUNT", acc := .ro, st := true, fld := fun _ _ => KVA_QUERY_ERRORS.COUNT }] },
  { name := "KVA_SKIPPED", base := 0x700068, dims := [], size := 64, perFn := false, flds := [
    { name := "COUNT", acc := .ro, st := true, fld := fun _ _ => KVA_SKIPPED.COUNT }] },
  { name := "KVA_COMPACTIONS", base := 0x700070, dims := [], size := 64, perFn := false, flds := [
    { name := "COUNT", acc := .ro, st := true, fld := fun _ _ => KVA_COMPACTIONS.COUNT }] },
  { name := "MEM_PLINTH_STATE", base := 0x800000, dims := [], size := 32, perFn := false, flds := [
    { name := "RETAINED", acc := .ro, st := false, fld := fun _ _ => MEM_PLINTH_STATE.RETAINED },
    { name := "INIT_BUSY", acc := .ro, st := false, fld := fun _ _ => MEM_PLINTH_STATE.INIT_BUSY },
    { name := "P1_SPARES", acc := .ro, st := true, fld := fun _ _ => MEM_PLINTH_STATE.P1_SPARES },
    { name := "P0_SPARES", acc := .ro, st := true, fld := fun _ _ => MEM_PLINTH_STATE.P0_SPARES },
    { name := "P1_REMAP", acc := .ro, st := true, fld := fun _ _ => MEM_PLINTH_STATE.P1_REMAP },
    { name := "P0_REMAP", acc := .ro, st := true, fld := fun _ _ => MEM_PLINTH_STATE.P0_REMAP }] },
  { name := "MEM_NEAR_STATE", base := 0x800008, dims := [], size := 64, perFn := false, flds := [
    { name := "SPEED", acc := .ro, st := false, fld := fun _ _ => MEM_NEAR_STATE.SPEED },
    { name := "TRAINED", acc := .ro, st := false, fld := fun _ _ => MEM_NEAR_STATE.TRAINED },
    { name := "FAILED", acc := .ro, st := true, fld := fun _ _ => MEM_NEAR_STATE.FAILED }] },
  { name := "MEM_QUARRY_STATE", base := 0x800010, dims := [], size := 32, perFn := false, flds := [
    { name := "FAILED", acc := .ro, st := true, fld := fun _ _ => MEM_QUARRY_STATE.FAILED },
    { name := "PRESENT", acc := .ro, st := false, fld := fun _ _ => MEM_QUARRY_STATE.PRESENT },
    { name := "BIFURCATION", acc := .rwl, st := false, fld := fun _ _ => MEM_QUARRY_STATE.BIFURCATION }] }]

/-- Rows of the register map, part 3. -/
def rows3 : List Row := [
  { name := "MEM_QUARRY_CAP", base := 0x800048, dims := [(8, 8)], size := 32, perFn := false, flds := [
    { name := "UNITS", acc := .ro, st := false, fld := fun _ i => MEM_QUARRY_CAP.UNITS i.1 }] },
  { name := "MEM_PT_BASE", base := 0x800018, dims := [], size := 64, perFn := false, flds := [
    { name := "BASE", acc := .rwl, st := false, fld := fun _ _ => MEM_PT_BASE.BASE }] },
  { name := "MEM_SCRUB_CFG", base := 0x800020, dims := [], size := 32, perFn := false, flds := [
    { name := "RATE", acc := .rw, st := false, fld := fun _ _ => MEM_SCRUB_CFG.RATE }] },
  { name := "MEM_MIG_CFG", base := 0x800028, dims := [], size := 64, perFn := false, flds := [
    { name := "RATE", acc := .rw, st := false, fld := fun _ _ => MEM_MIG_CFG.RATE },
    { name := "DECAY", acc := .rw, st := false, fld := fun _ _ => MEM_MIG_CFG.DECAY, ok := fun v => 4 ≤ v && v ≤ 24 },
    { name := "HOT_PLINTH", acc := .rw, st := false, fld := fun _ _ => MEM_MIG_CFG.HOT_PLINTH },
    { name := "HOT_NEAR", acc := .rw, st := false, fld := fun _ _ => MEM_MIG_CFG.HOT_NEAR },
    { name := "COLD_PLINTH", acc := .rw, st := false, fld := fun _ _ => MEM_MIG_CFG.COLD_PLINTH },
    { name := "COLD_NEAR", acc := .rw, st := false, fld := fun _ _ => MEM_MIG_CFG.COLD_NEAR }] },
  { name := "MEM_RETRAIN_CFG", base := 0x800030, dims := [], size := 32, perFn := false, flds := [
    { name := "OFFSET", acc := .rwl, st := false, fld := fun _ _ => MEM_RETRAIN_CFG.OFFSET },
    { name := "CADENCE", acc := .rwl, st := false, fld := fun _ _ => MEM_RETRAIN_CFG.CADENCE, ok := fun v => 5 ≤ v && v ≤ 7 }] },
  { name := "MEM_FLIP_ADDR", base := 0x800038, dims := [], size := 64, perFn := false, flds := [
    { name := "ADDR", acc := .rw, st := false, fld := fun _ _ => MEM_FLIP_ADDR.ADDR }] },
  { name := "MEM_FLIP_CTRL", base := 0x800040, dims := [], size := 32, perFn := false, flds := [
    { name := "ARM", acc := .w1s, st := false, fld := fun _ _ => MEM_FLIP_CTRL.ARM },
    { name := "DONE", acc := .ro, st := false, fld := fun _ _ => MEM_FLIP_CTRL.DONE },
    { name := "DATA_EN", acc := .rw, st := false, fld := fun _ _ => MEM_FLIP_CTRL.DATA_EN },
    { name := "DATA_BIT", acc := .rw, st := false, fld := fun _ _ => MEM_FLIP_CTRL.DATA_BIT },
    { name := "CHECK_MASK", acc := .rw, st := false, fld := fun _ _ => MEM_FLIP_CTRL.CHECK_MASK }] },
  { name := "MEM_COUNT", base := 0x800100, dims := [(32, 8)], size := 64, perFn := false, flds := [
    { name := "COUNT", acc := .ro, st := true, fld := fun _ i => MEM_COUNT.COUNT i.1 }] },
  { name := "AMT_FW_VERSION", base := 0x900000, dims := [], size := 64, perFn := false, flds := [
    { name := "VERSION", acc := .ro, st := false, fld := fun _ _ => AMT_FW_VERSION.VERSION }] },
  { name := "AMT_FW_IFACE", base := 0x900008, dims := [], size := 32, perFn := false, flds := [
    { name := "IFACE", acc := .ro, st := false, fld := fun _ _ => AMT_FW_IFACE.IFACE }] },
  { name := "AMT_FW_STATE", base := 0x900010, dims := [], size := 32, perFn := false, flds := [
    { name := "ACT", acc := .ro, st := false, fld := fun _ _ => AMT_FW_STATE.ACT },
    { name := "SOURCE", acc := .ro, st := false, fld := fun _ _ => AMT_FW_STATE.SOURCE },
    { name := "STAGED", acc := .ro, st := false, fld := fun _ _ => AMT_FW_STATE.STAGED },
    { name := "ACTIVE", acc := .ro, st := false, fld := fun _ _ => AMT_FW_STATE.ACTIVE }] },
  { name := "AMT_WDOG_CFG", base := 0x900018, dims := [], size := 32, perFn := false, flds := [
    { name := "LIMIT", acc := .rw, st := false, fld := fun _ _ => AMT_WDOG_CFG.LIMIT, ok := fun v => 100 ≤ v }] },
  { name := "AMT_LOG_CFG", base := 0x900020, dims := [], size := 64, perFn := false, flds := [
    { name := "LEVEL", acc := .rw, st := false, fld := fun _ _ => AMT_LOG_CFG.LEVEL },
    { name := "SIZE", acc := .rwl, st := false, fld := fun _ _ => AMT_LOG_CFG.SIZE, ok := fun v => v ≤ 6 },
    { name := "BASE", acc := .rwl, st := false, fld := fun _ _ => AMT_LOG_CFG.BASE }] },
  { name := "AMT_LOG_HEAD", base := 0x900028, dims := [], size := 64, perFn := false, flds := [
    { name := "HEAD", acc := .ro, st := false, fld := fun _ _ => AMT_LOG_HEAD.HEAD }] },
  { name := "AMT_LOG_DROPS", base := 0x900030, dims := [], size := 64, perFn := false, flds := [
    { name := "COUNT", acc := .ro, st := true, fld := fun _ _ => AMT_LOG_DROPS.COUNT }] },
  { name := "AMT_CORE_STATE", base := 0x900100, dims := [(16, 8)], size := 64, perFn := false, flds := [
    { name := "RESTARTS", acc := .ro, st := true, fld := fun _ i => AMT_CORE_STATE.RESTARTS i.1 },
    { name := "RESUME", acc := .ro, st := false, fld := fun _ i => AMT_CORE_STATE.RESUME i.1 },
    { name := "ROLE", acc := .ro, st := false, fld := fun _ i => AMT_CORE_STATE.ROLE i.1 },
    { name := "STATE", acc := .ro, st := false, fld := fun _ i => AMT_CORE_STATE.STATE i.1 }] },
  { name := "AMT_WDOG_PET", base := 0x900180, dims := [(16, 8)], size := 32, perFn := false, flds := [
    { name := "PET", acc := .wo, st := false, fld := fun _ i => AMT_WDOG_PET.PET i.1 }] },
  { name := "AMT_MSG", base := 0x900200, dims := [(16, 8)], size := 64, perFn := false, flds := [
    { name := "BITS", acc := .rc, st := false, fld := fun _ i => AMT_MSG.BITS i.1 }] },
  { name := "AMT_CMD", base := 0x901000, dims := [(16, 0x40)], size := 512, perFn := false, flds := [
    { name := "RESULT", acc := .ro, st := false, fld := fun _ i => AMT_CMD.RESULT i.1 },
    { name := "OP", acc := .wo, st := false, fld := fun _ i => AMT_CMD.OP i.1 },
    { name := "REDO", acc := .rw, st := false, fld := fun _ i => AMT_CMD.REDO i.1 },
    { name := "REPLY", acc := .rw, st := false, fld := fun _ i => AMT_CMD.REPLY i.1 },
    { name := "ACCEPTED_SEQ", acc := .ro, st := false, fld := fun _ i => AMT_CMD.ACCEPTED_SEQ i.1 },
    { name := "CODE", acc := .rw, st := false, fld := fun _ i => AMT_CMD.CODE i.1 },
    { name := "SEQ", acc := .rw, st := false, fld := fun _ i => AMT_CMD.SEQ i.1 }] },
  { name := "LNK_GROUP_MAP", base := 0xa00000, dims := [], size := 64, perFn := false, flds := [
    { name := "GROUP", acc := .rwl, st := false, fld := fun _ _ => LNK_GROUP_MAP.GROUP }] }]

/-- Rows of the register map, part 4. -/
def rows4 : List Row := [
  { name := "LNK_CAL_CFG", base := 0xa00010, dims := [], size := 32, perFn := false, flds := [
    { name := "FAIL_SYMBOLS", acc := .rw, st := false, fld := fun _ _ => LNK_CAL_CFG.FAIL_SYMBOLS },
    { name := "MIN_MARGIN", acc := .rw, st := false, fld := fun _ _ => LNK_CAL_CFG.MIN_MARGIN },
    { name := "TRAIN_US", acc := .rw, st := false, fld := fun _ _ => LNK_CAL_CFG.TRAIN_US, ok := fun v => 50 ≤ v }] },
  { name := "LNK_PTP_BASE", base := 0xa00018, dims := [], size := 64, perFn := false, flds := [
    { name := "BASE", acc := .rw, st := false, fld := fun _ _ => LNK_PTP_BASE.BASE }] },
  { name := "LNK_PORT_CFG", base := 0xa00100, dims := [(12, 0x20)], size := 32, perFn := false, flds := [
    { name := "CAL", acc := .rw, st := false, fld := fun _ i => LNK_PORT_CFG.CAL i.1 },
    { name := "GCM", acc := .rwl, st := false, fld := fun _ i => LNK_PORT_CFG.GCM i.1 },
    { name := "SPLIT", acc := .rwl, st := false, fld := fun _ i => LNK_PORT_CFG.SPLIT i.1, ok := fun v => v != 3 },
    { name := "MODE", acc := .rwl, st := false, fld := fun _ i => LNK_PORT_CFG.MODE i.1, ok := fun v => v ≤ 1 }] },
  { name := "LNK_PORT_STATE", base := 0xa00108, dims := [(12, 0x20)], size := 64, perFn := false, flds := [
    { name := "FAILED", acc := .ro, st := true, fld := fun _ i => LNK_PORT_STATE.FAILED i.1 },
    { name := "MARGIN", acc := .ro, st := false, fld := fun _ i => LNK_PORT_STATE.MARGIN i.1 },
    { name := "SPARE", acc := .ro, st := true, fld := fun _ i => LNK_PORT_STATE.SPARE i.1 },
    { name := "SPARED_POS", acc := .ro, st := true, fld := fun _ i => LNK_PORT_STATE.SPARED_POS i.1 },
    { name := "CAL_POS", acc := .ro, st := false, fld := fun _ i => LNK_PORT_STATE.CAL_POS i.1 },
    { name := "STATE", acc := .ro, st := false, fld := fun _ i => LNK_PORT_STATE.STATE i.1 }] },
  { name := "LNK_COUNT", base := 0xa01000, dims := [(12, 0x80), (16, 8)], size := 64, perFn := false, flds := [
    { name := "COUNT", acc := .ro, st := true, fld := fun _ i => LNK_COUNT.COUNT i.1 i.2 }] },
  { name := "DVT_CFG", base := 0xb00000, dims := [], size := 64, perFn := false, flds := [
    { name := "NOTIFY_RING", acc := .rw, st := false, fld := fun _ _ => DVT_CFG.NOTIFY_RING },
    { name := "ROCE_MTU", acc := .rw, st := false, fld := fun _ _ => DVT_CFG.ROCE_MTU, ok := fun v => v != 3 },
    { name := "UDP_PORT", acc := .rwl, st := false, fld := fun _ _ => DVT_CFG.UDP_PORT }] },
  { name := "DVT_CTX_BASE", base := 0xb00008, dims := [], size := 64, perFn := false, flds := [
    { name := "BASE", acc := .rwl, st := false, fld := fun _ _ => DVT_CTX_BASE.BASE }] },
  { name := "DVT_REORDER_CFG", base := 0xb00010, dims := [], size := 64, perFn := false, flds := [
    { name := "FREE", acc := .ro, st := false, fld := fun _ _ => DVT_REORDER_CFG.FREE },
    { name := "BUDGET", acc := .rw, st := false, fld := fun _ _ => DVT_REORDER_CFG.BUDGET, ok := fun v => v != 0 && v % 4 == 0 }] },
  { name := "DVT_RETRY_CFG", base := 0xb00018, dims := [], size := 32, perFn := false, flds := [
    { name := "PATH_FAILS", acc := .rw, st := false, fld := fun _ _ => DVT_RETRY_CFG.PATH_FAILS, ok := fun v => v != 0 },
    { name := "LIMIT", acc := .rw, st := false, fld := fun _ _ => DVT_RETRY_CFG.LIMIT, ok := fun v => v != 0 },
    { name := "RTO_US", acc := .rw, st := false, fld := fun _ _ => DVT_RETRY_CFG.RTO_US, ok := fun v => 4 ≤ v }] },
  { name := "DVT_CONN_STATE", base := 0xb00020, dims := [], size := 64, perFn := false, flds := [
    { name := "CACHED", acc := .ro, st := false, fld := fun _ _ => DVT_CONN_STATE.CACHED },
    { name := "OPEN", acc := .ro, st := false, fld := fun _ _ => DVT_CONN_STATE.OPEN }] },
  { name := "DVT_VIOL_RING", base := 0xb00028, dims := [], size := 64, perFn := false, flds := [
    { name := "SIZE", acc := .rwl, st := false, fld := fun _ _ => DVT_VIOL_RING.SIZE, ok := fun v => v ≤ 8 },
    { name := "BASE", acc := .rwl, st := false, fld := fun _ _ => DVT_VIOL_RING.BASE }] },
  { name := "DVT_VIOL_HEAD", base := 0xb00030, dims := [], size := 64, perFn := false, flds := [
    { name := "HEAD", acc := .ro, st := false, fld := fun _ _ => DVT_VIOL_HEAD.HEAD }] },
  { name := "DVT_COUNT", base := 0xb00100, dims := [(16, 8)], size := 64, perFn := false, flds := [
    { name := "COUNT", acc := .ro, st := true, fld := fun _ i => DVT_COUNT.COUNT i.1 }] },
  { name := "PKT_VERSION", base := 0xc00000, dims := [], size := 64, perFn := false, flds := [
    { name := "RETIRING", acc := .ro, st := false, fld := fun _ _ => PKT_VERSION.RETIRING },
    { name := "STAGED", acc := .ro, st := false, fld := fun _ _ => PKT_VERSION.STAGED },
    { name := "COMMITTED", acc := .ro, st := false, fld := fun _ _ => PKT_VERSION.COMMITTED }] },
  { name := "PKT_EM_BASE", base := 0xc00008, dims := [], size := 64, perFn := false, flds := [
    { name := "BASE", acc := .rwl, st := false, fld := fun _ _ => PKT_EM_BASE.BASE }] },
  { name := "PKT_EM_STATE", base := 0xc00010, dims := [], size := 64, perFn := false, flds := [
    { name := "ENTRIES", acc := .ro, st := false, fld := fun _ _ => PKT_EM_STATE.ENTRIES },
    { name := "REBUILD", acc := .ro, st := false, fld := fun _ _ => PKT_EM_STATE.REBUILD },
    { name := "ABANDONS", acc := .ro, st := false, fld := fun _ _ => PKT_EM_STATE.ABANDONS },
    { name := "ACTIVE", acc := .ro, st := true, fld := fun _ _ => PKT_EM_STATE.ACTIVE }] },
  { name := "PKT_EM_REBUILD", base := 0xc00018, dims := [], size := 32, perFn := false, flds := [
    { name := "RATE", acc := .rw, st := false, fld := fun _ _ => PKT_EM_REBUILD.RATE, ok := fun v => v != 0 },
    { name := "AUTO", acc := .rw, st := false, fld := fun _ _ => PKT_EM_REBUILD.AUTO }] },
  { name := "PKT_TREAD_ADDR", base := 0xc00020, dims := [], size := 64, perFn := false, flds := [
    { name := "DONE", acc := .ro, st := false, fld := fun _ _ => PKT_TREAD_ADDR.DONE },
    { name := "TABLE", acc := .rw, st := false, fld := fun _ _ => PKT_TREAD_ADDR.TABLE, ok := fun v => v ≤ 8 },
    { name := "COPY", acc := .rw, st := false, fld := fun _ _ => PKT_TREAD_ADDR.COPY },
    { name := "PART", acc := .rw, st := false, fld := fun _ _ => PKT_TREAD_ADDR.PART },
    { name := "INDEX", acc := .rw, st := false, fld := fun _ _ => PKT_TREAD_ADDR.INDEX }] },
  { name := "PKT_TOEPLITZ_KEY", base := 0xc00040, dims := [(17, 4)], size := 32, perFn := false, flds := [
    { name := "KEY", acc := .rw, st := false, fld := fun _ i => PKT_TOEPLITZ_KEY.KEY i.1 }] },
  { name := "PKT_MAC_CFG", base := 0xc00200, dims := [(16, 8)], size := 64, perFn := false, flds := [
    { name := "DVT_QUEUE", acc := .rw, st := false, fld := fun _ i => PKT_MAC_CFG.DVT_QUEUE i.1 },
    { name := "XOFF", acc := .rw, st := false, fld := fun _ i => PKT_MAC_CFG.XOFF i.1 },
    { name := "XON", acc := .rw, st := false, fld := fun _ i => PKT_MAC_CFG.XON i.1 }] }]

/-- Rows of the register map, part 5. -/
def rows5 : List Row := [
  { name := "PKT_COUNT", base := 0xc01000, dims := [(16, 8)], size := 64, perFn := false, flds := [
    { name := "COUNT", acc := .ro, st := true, fld := fun _ i => PKT_COUNT.COUNT i.1 }] },
  { name := "HIF_STATE", base := 0x100000, dims := [], size := 32, perFn := true, flds := [
    { name := "FROZEN", acc := .ro, st := false, fld := fun fn _ => HIF_STATE.FROZEN fn },
    { name := "FLR_BUSY", acc := .ro, st := false, fld := fun fn _ => HIF_STATE.FLR_BUSY fn },
    { name := "ME", acc := .ro, st := false, fld := fun fn _ => HIF_STATE.ME fn },
    { name := "NUM_VFS", acc := .ro, st := false, fld := fun fn _ => HIF_STATE.NUM_VFS fn },
    { name := "WIDTH", acc := .ro, st := false, fld := fun fn _ => HIF_STATE.WIDTH fn },
    { name := "SPEED", acc := .ro, st := false, fld := fun fn _ => HIF_STATE.SPEED fn }] },
  { name := "HIF_FREEZE", base := 0x100008, dims := [], size := 32, perFn := true, flds := [
    { name := "RELEASE", acc := .w1s, st := false, fld := fun fn _ => HIF_FREEZE.RELEASE fn },
    { name := "CAUSE", acc := .ro, st := false, fld := fun fn _ => HIF_FREEZE.CAUSE fn }] },
  { name := "HIF_CPL_TIMEOUT", base := 0x100010, dims := [], size := 32, perFn := false, flds := [
    { name := "LIMIT", acc := .rw, st := false, fld := fun _ _ => HIF_CPL_TIMEOUT.LIMIT, ok := fun v => 1000 ≤ v && v ≤ 64000 }] },
  { name := "HIF_BAR2_BASE", base := 0x100018, dims := [], size := 64, perFn := true, flds := [
    { name := "BASE", acc := .rwl, st := false, fld := fun fn _ => HIF_BAR2_BASE.BASE fn }] },
  { name := "HIF_FUNC_RINGS", base := 0x100020, dims := [], size := 32, perFn := true, flds := [
    { name := "COUNT", acc := .rwl, st := false, fld := fun fn _ => HIF_FUNC_RINGS.COUNT fn },
    { name := "FIRST", acc := .rwl, st := false, fld := fun fn _ => HIF_FUNC_RINGS.FIRST fn }] },
  { name := "HIF_VF_CFG", base := 0x100028, dims := [], size := 32, perFn := true, flds := [
    { name := "BAR2_LOG2", acc := .rwl, st := false, fld := fun fn _ => HIF_VF_CFG.BAR2_LOG2 fn, ok := fun v => 20 ≤ v && v ≤ 25 }] },
  { name := "HIF_FLR_BASE", base := 0x100030, dims := [], size := 64, perFn := false, flds := [
    { name := "BASE", acc := .rwl, st := false, fld := fun _ _ => HIF_FLR_BASE.BASE }] },
  { name := "HIF_FLR_COUNT", base := 0x100038, dims := [], size := 32, perFn := true, flds := [
    { name := "COUNT", acc := .ro, st := false, fld := fun fn _ => HIF_FLR_COUNT.COUNT fn }] },
  { name := "HIF_COUNT", base := 0x100100, dims := [(16, 8)], size := 64, perFn := true, flds := [
    { name := "COUNT", acc := .ro, st := true, fld := fun fn i => HIF_COUNT.COUNT fn i.1 }] },
  { name := "HIF_DB_CMD", base := 0x120000, dims := [(16384, 8)], size := 32, perFn := false, flds := [
    { name := "CMD_TAIL", acc := .wo, st := false, fld := fun _ i => HIF_DB_CMD.CMD_TAIL i.1 }] },
  { name := "HIF_DB_RPL", base := 0x120004, dims := [(16384, 8)], size := 32, perFn := false, flds := [
    { name := "RPL_TAIL", acc := .wo, st := false, fld := fun _ i => HIF_DB_RPL.RPL_TAIL i.1 }] },
  { name := "HIF_RING_IDX", base := 0x140000, dims := [(16384, 8)], size := 64, perFn := false, flds := [
    { name := "RPL_HEAD", acc := .ro, st := false, fld := fun _ i => HIF_RING_IDX.RPL_HEAD i.1 },
    { name := "CMD_HEAD", acc := .ro, st := false, fld := fun _ i => HIF_RING_IDX.CMD_HEAD i.1 }] },
  { name := "HIF_RING", base := 0x180000, dims := [(16384, 0x20)], size := 256, perFn := false, flds := [
    { name := "MOD_US", acc := .rw, st := false, fld := fun _ i => HIF_RING.MOD_US i.1 },
    { name := "MOD_COUNT", acc := .rw, st := false, fld := fun _ i => HIF_RING.MOD_COUNT i.1 },
    { name := "ERR", acc := .ro, st := false, fld := fun _ i => HIF_RING.ERR i.1 },
    { name := "DRAINING", acc := .ro, st := false, fld := fun _ i => HIF_RING.DRAINING i.1 },
    { name := "ENABLE", acc := .rw, st := false, fld := fun _ i => HIF_RING.ENABLE i.1 },
    { name := "VECTOR", acc := .rw, st := false, fld := fun _ i => HIF_RING.VECTOR i.1 },
    { name := "FUNC", acc := .ro, st := false, fld := fun _ i => HIF_RING.FUNC i.1 },
    { name := "MIRROR", acc := .rw, st := false, fld := fun _ i => HIF_RING.MIRROR i.1 },
    { name := "RPL_BASE", acc := .rw, st := false, fld := fun _ i => HIF_RING.RPL_BASE i.1 },
    { name := "KIND", acc := .rw, st := false, fld := fun _ i => HIF_RING.KIND i.1, ok := fun v => v ≤ 3 },
    { name := "RPL_SIZE", acc := .rw, st := false, fld := fun _ i => HIF_RING.RPL_SIZE i.1 },
    { name := "CMD_SIZE", acc := .rw, st := false, fld := fun _ i => HIF_RING.CMD_SIZE i.1 },
    { name := "CMD_BASE", acc := .rw, st := false, fld := fun _ i => HIF_RING.CMD_BASE i.1 }] },
  { name := "DMA_CFG", base := 0xd00000, dims := [], size := 32, perFn := false, flds := [
    { name := "RATE", acc := .rw, st := true, fld := fun _ _ => DMA_CFG.RATE }] },
  { name := "DMA_CHAN_CFG", base := 0xd01000, dims := [(32, 0x20)], size := 64, perFn := false, flds := [
    { name := "ENABLE", acc := .rw, st := true, fld := fun _ i => DMA_CHAN_CFG.ENABLE i.1 },
    { name := "ERR", acc := .ro, st := false, fld := fun _ i => DMA_CHAN_CFG.ERR i.1 },
    { name := "PACE_TIMEOUT", acc := .rw, st := true, fld := fun _ i => DMA_CHAN_CFG.PACE_TIMEOUT i.1 },
    { name := "WEIGHT", acc := .rw, st := true, fld := fun _ i => DMA_CHAN_CFG.WEIGHT i.1, ok := fun v => v != 0 },
    { name := "BUF", acc := .rw, st := true, fld := fun _ i => DMA_CHAN_CFG.BUF i.1 },
    { name := "PACE_SRC", acc := .rw, st := true, fld := fun _ i => DMA_CHAN_CFG.PACE_SRC i.1, ok := fun v => v != 3 },
    { name := "LINE", acc := .rw, st := true, fld := fun _ i => DMA_CHAN_CFG.LINE i.1 },
    { name := "PORT", acc := .rw, st := true, fld := fun _ i => DMA_CHAN_CFG.PORT i.1 },
    { name := "PIN", acc := .rw, st := true, fld := fun _ i => DMA_CHAN_CFG.PIN i.1 },
    { name := "FUNC", acc := .rw, st := true, fld := fun _ i => DMA_CHAN_CFG.FUNC i.1 }] },
  { name := "DMA_CHAN_STATE", base := 0xd01008, dims := [(32, 0x20)], size := 32, perFn := false, flds := [
    { name := "QUEUED", acc := .ro, st := false, fld := fun _ i => DMA_CHAN_STATE.QUEUED i.1 },
    { name := "CREDITS", acc := .ro, st := false, fld := fun _ i => DMA_CHAN_STATE.CREDITS i.1 },
    { name := "STATE", acc := .ro, st := false, fld := fun _ i => DMA_CHAN_STATE.STATE i.1 }] },
  { name := "DMA_CHAN_BYTES", base := 0xd01010, dims := [(32, 0x20)], size := 64, perFn := false, flds := [
    { name := "COUNT", acc := .ro, st := false, fld := fun _ i => DMA_CHAN_BYTES.COUNT i.1 }] },
  { name := "DMA_COUNT", base := 0xd00100, dims := [(16, 8)], size := 64, perFn := false, flds := [
    { name := "COUNT", acc := .ro, st := true, fld := fun _ i => DMA_COUNT.COUNT i.1 }] },
  { name := "NVS_CFG", base := 0xe10000, dims := [], size := 32, perFn := false, flds := [
    { name := "TARGET_TIMEOUT", acc := .rw, st := false, fld := fun _ _ => NVS_CFG.TARGET_TIMEOUT, ok := fun v => v != 0 }] }]

/-- Rows of the register map, part 6. -/
def rows6 : List Row := [
  { name := "NVS_CMB_BASE", base := 0xe10008, dims := [], size := 64, perFn := false, flds := [
    { name := "BASE", acc := .rwl, st := false, fld := fun _ _ => NVS_CMB_BASE.BASE }] },
  { name := "NVS_QPAIRS", base := 0xe10010, dims := [], size := 32, perFn := false, flds := [
    { name := "PF1", acc := .rwl, st := false, fld := fun _ _ => NVS_QPAIRS.PF1 },
    { name := "PF0", acc := .rwl, st := false, fld := fun _ _ => NVS_QPAIRS.PF0 }] },
  { name := "NVS_LOCKS", base := 0xe10018, dims := [], size := 32, perFn := false, flds := [
    { name := "WAITING", acc := .ro, st := false, fld := fun _ _ => NVS_LOCKS.WAITING },
    { name := "IN_USE", acc := .ro, st := false, fld := fun _ _ => NVS_LOCKS.IN_USE }] },
  { name := "NVS_SQ_MAP", base := 0xe11000, dims := [(4096, 4)], size := 32, perFn := false, flds := [
    { name := "VALID", acc := .ro, st := false, fld := fun _ i => NVS_SQ_MAP.VALID i.1 },
    { name := "FUNC", acc := .ro, st := false, fld := fun _ i => NVS_SQ_MAP.FUNC i.1 },
    { name := "SQID", acc := .ro, st := false, fld := fun _ i => NVS_SQ_MAP.SQID i.1 }] },
  { name := "NVS_COUNT", base := 0xe10100, dims := [(16, 8)], size := 64, perFn := false, flds := [
    { name := "COUNT", acc := .ro, st := true, fld := fun _ i => NVS_COUNT.COUNT i.1 }] },
  { name := "CKP_JOB_STATE", base := 0xf01000, dims := [(64, 0x40)], size := 64, perFn := false, flds := [
    { name := "BATCHES", acc := .ro, st := false, fld := fun _ i => CKP_JOB_STATE.BATCHES i.1 },
    { name := "FULL_NEXT", acc := .ro, st := true, fld := fun _ i => CKP_JOB_STATE.FULL_NEXT i.1 },
    { name := "PHASE", acc := .ro, st := false, fld := fun _ i => CKP_JOB_STATE.PHASE i.1 },
    { name := "STATE", acc := .ro, st := false, fld := fun _ i => CKP_JOB_STATE.STATE i.1 }] },
  { name := "CKP_JOB_STEP", base := 0xf01008, dims := [(64, 0x40)], size := 64, perFn := false, flds := [
    { name := "STEP", acc := .ro, st := true, fld := fun _ i => CKP_JOB_STEP.STEP i.1 }] },
  { name := "CKP_JOB_LAST", base := 0xf01010, dims := [(64, 0x40)], size := 64, perFn := false, flds := [
    { name := "STEP", acc := .ro, st := true, fld := fun _ i => CKP_JOB_LAST.STEP i.1 }] },
  { name := "CKP_JOB_CURSOR", base := 0xf01018, dims := [(64, 0x40)], size := 64, perFn := false, flds := [
    { name := "RANGE", acc := .ro, st := false, fld := fun _ i => CKP_JOB_CURSOR.RANGE i.1 },
    { name := "PAGE", acc := .ro, st := false, fld := fun _ i => CKP_JOB_CURSOR.PAGE i.1 }] },
  { name := "CKP_LOG_HEAD", base := 0xf01020, dims := [(64, 0x40)], size := 64, perFn := false, flds := [
    { name := "BLOCK", acc := .ro, st := true, fld := fun _ i => CKP_LOG_HEAD.BLOCK i.1 }] },
  { name := "CKP_LOG_TAIL", base := 0xf01028, dims := [(64, 0x40)], size := 64, perFn := false, flds := [
    { name := "BLOCK", acc := .ro, st := true, fld := fun _ i => CKP_LOG_TAIL.BLOCK i.1 }] },
  { name := "CKP_COUNT", base := 0xf00100, dims := [(16, 8)], size := 64, perFn := false, flds := [
    { name := "COUNT", acc := .ro, st := true, fld := fun _ i => CKP_COUNT.COUNT i.1 }] },
  { name := "SEC_STATE", base := 0x1000000, dims := [], size := 32, perFn := false, flds := [
    { name := "DEBUG", acc := .ro, st := false, fld := fun _ _ => SEC_STATE.DEBUG },
    { name := "ZEROISED", acc := .ro, st := false, fld := fun _ _ => SEC_STATE.ZEROISED },
    { name := "ENTROPY_OK", acc := .ro, st := false, fld := fun _ _ => SEC_STATE.ENTROPY_OK },
    { name := "REVOKED", acc := .ro, st := false, fld := fun _ _ => SEC_STATE.REVOKED },
    { name := "MAQ_SRC", acc := .ro, st := false, fld := fun _ _ => SEC_STATE.MAQ_SRC },
    { name := "S1_SRC", acc := .ro, st := false, fld := fun _ _ => SEC_STATE.S1_SRC }] },
  { name := "SEC_SVN", base := 0x1000008, dims := [], size := 32, perFn := false, flds := [
    { name := "FIRMWARE", acc := .ro, st := false, fld := fun _ _ => SEC_SVN.FIRMWARE },
    { name := "MAQUETTE", acc := .ro, st := false, fld := fun _ _ => SEC_SVN.MAQUETTE },
    { name := "STAGE1", acc := .ro, st := false, fld := fun _ _ => SEC_SVN.STAGE1 }] },
  { name := "SEC_ZEROISE", base := 0x1000010, dims := [], size := 32, perFn := false, flds := [
    { name := "GO", acc := .w1s, st := false, fld := fun _ _ => SEC_ZEROISE.GO }] },
  { name := "SEC_SLOT_QUERY", base := 0x1000018, dims := [], size := 64, perFn := false, flds := [
    { name := "NOTE", acc := .ro, st := false, fld := fun _ _ => SEC_SLOT_QUERY.NOTE },
    { name := "USES", acc := .ro, st := false, fld := fun _ _ => SEC_SLOT_QUERY.USES },
    { name := "FUNC", acc := .ro, st := false, fld := fun _ _ => SEC_SLOT_QUERY.FUNC },
    { name := "STATE", acc := .ro, st := false, fld := fun _ _ => SEC_SLOT_QUERY.STATE },
    { name := "SLOT", acc := .rw, st := false, fld := fun _ _ => SEC_SLOT_QUERY.SLOT }] },
  { name := "SEC_PORT_PHASE", base := 0x1000020, dims := [], size := 32, perFn := false, flds := [
    { name := "RX_SEEN", acc := .ro, st := false, fld := fun _ _ => SEC_PORT_PHASE.RX_SEEN },
    { name := "TX", acc := .rw, st := false, fld := fun _ _ => SEC_PORT_PHASE.TX }] },
  { name := "SEC_PORT_KEY", base := 0x1000100, dims := [(12, 8)], size := 64, perFn := false, flds := [
    { name := "RX_SLOT1", acc := .rw, st := false, fld := fun _ i => SEC_PORT_KEY.RX_SLOT1 i.1 },
    { name := "RX_SLOT0", acc := .rw, st := false, fld := fun _ i => SEC_PORT_KEY.RX_SLOT0 i.1 },
    { name := "TX_SLOT1", acc := .rw, st := false, fld := fun _ i => SEC_PORT_KEY.TX_SLOT1 i.1 },
    { name := "TX_SLOT0", acc := .rw, st := false, fld := fun _ i => SEC_PORT_KEY.TX_SLOT0 i.1 }] },
  { name := "SEC_CTX_CFG", base := 0x1001000, dims := [(64, 8)], size := 64, perFn := false, flds := [
    { name := "CORES", acc := .rwl, st := false, fld := fun _ i => SEC_CTX_CFG.CORES i.1 },
    { name := "ROOT_SLOT", acc := .rwl, st := false, fld := fun _ i => SEC_CTX_CFG.ROOT_SLOT i.1 },
    { name := "ROOT", acc := .rwl, st := false, fld := fun _ i => SEC_CTX_CFG.ROOT i.1, ok := fun v => v != 3 }] },
  { name := "SEC_COUNT", base := 0x1000200, dims := [(16, 8)], size := 64, perFn := false, flds := [
    { name := "COUNT", acc := .ro, st := true, fld := fun _ i => SEC_COUNT.COUNT i.1 }] }]

/-- Rows of the register map, part 7. -/
def rows7 : List Row := [
  { name := "FLT_MODE", base := 0x200000, dims := [], size := 32, perFn := false, flds := [
    { name := "HELD", acc := .ro, st := false, fld := fun _ _ => FLT_MODE.HELD },
    { name := "MODE", acc := .rw, st := false, fld := fun _ _ => FLT_MODE.MODE, ok := fun v => v != 0 }] },
  { name := "FLT_GRACE", base := 0x200008, dims := [], size := 32, perFn := false, flds := [
    { name := "US", acc := .rw, st := false, fld := fun _ _ => FLT_GRACE.US, ok := fun v => v != 0 }] },
  { name := "FLT_CHIP_WDOG", base := 0x200010, dims := [], size := 32, perFn := false, flds := [
    { name := "LIMIT", acc := .rwl, st := false, fld := fun _ _ => FLT_CHIP_WDOG.LIMIT }] },
  { name := "FLT_CHIP_PET", base := 0x200018, dims := [], size := 32, perFn := false, flds := [
    { name := "PET", acc := .wo, st := false, fld := fun _ _ => FLT_CHIP_PET.PET }] },
  { name := "FLT_SAFE", base := 0x200020, dims := [], size := 32, perFn := false, flds := [
    { name := "SAFE", acc := .ro, st := false, fld := fun _ _ => FLT_SAFE.SAFE },
    { name := "ENTER", acc := .w1s, st := false, fld := fun _ _ => FLT_SAFE.ENTER },
    { name := "BOOT", acc := .ro, st := true, fld := fun _ _ => FLT_SAFE.BOOT },
    { name := "CAUSE", acc := .ro, st := true, fld := fun _ _ => FLT_SAFE.CAUSE }] },
  { name := "FLT_HIST_HEAD", base := 0x200028, dims := [], size := 64, perFn := false, flds := [
    { name := "HEAD", acc := .ro, st := true, fld := fun _ _ => FLT_HIST_HEAD.HEAD }] },
  { name := "FLT_HIST", base := 0x200800, dims := [(32, 0x10)], size := 128, perFn := false, flds := [
    { name := "TICK", acc := .ro, st := true, fld := fun _ i => FLT_HIST.TICK i.1 },
    { name := "REACTION", acc := .ro, st := true, fld := fun _ i => FLT_HIST.REACTION i.1 },
    { name := "CYCLE", acc := .ro, st := true, fld := fun _ i => FLT_HIST.CYCLE i.1 },
    { name := "DETAIL", acc := .ro, st := true, fld := fun _ i => FLT_HIST.DETAIL i.1 },
    { name := "GRACE_END", acc := .ro, st := true, fld := fun _ i => FLT_HIST.GRACE_END i.1 },
    { name := "HANDLED", acc := .ro, st := true, fld := fun _ i => FLT_HIST.HANDLED i.1 },
    { name := "HELD", acc := .ro, st := true, fld := fun _ i => FLT_HIST.HELD i.1 },
    { name := "SEVERE", acc := .ro, st := true, fld := fun _ i => FLT_HIST.SEVERE i.1 },
    { name := "INJECTED", acc := .ro, st := true, fld := fun _ i => FLT_HIST.INJECTED i.1 },
    { name := "SAFE", acc := .ro, st := true, fld := fun _ i => FLT_HIST.SAFE i.1 },
    { name := "SOURCE", acc := .ro, st := true, fld := fun _ i => FLT_HIST.SOURCE i.1 }] },
  { name := "FLT_SRC_CFG", base := 0x201000, dims := [(768, 8)], size := 64, perFn := false, flds := [
    { name := "FIXED", acc := .ro, st := false, fld := fun _ i => FLT_SRC_CFG.FIXED i.1 },
    { name := "N", acc := .rw, st := false, fld := fun _ i => FLT_SRC_CFG.N i.1 },
    { name := "W", acc := .rw, st := false, fld := fun _ i => FLT_SRC_CFG.W i.1, ok := fun v => v != 0 },
    { name := "SEV_REACT", acc := .rwl, st := false, fld := fun _ i => FLT_SRC_CFG.SEV_REACT i.1, ok := fun v => v ≤ 4 },
    { name := "REACT", acc := .rwl, st := false, fld := fun _ i => FLT_SRC_CFG.REACT i.1, ok := fun v => v ≤ 4 }] },
  { name := "FLT_SRC_STATE", base := 0x204000, dims := [(768, 8)], size := 64, perFn := false, flds := [
    { name := "WSTART", acc := .ro, st := false, fld := fun _ i => FLT_SRC_STATE.WSTART i.1 },
    { name := "COUNT", acc := .ro, st := false, fld := fun _ i => FLT_SRC_STATE.COUNT i.1 },
    { name := "HELD", acc := .w1c, st := false, fld := fun _ i => FLT_SRC_STATE.HELD i.1 },
    { name := "SEVERE", acc := .w1c, st := true, fld := fun _ i => FLT_SRC_STATE.SEVERE i.1 },
    { name := "ACTIVE", acc := .w1c, st := false, fld := fun _ i => FLT_SRC_STATE.ACTIVE i.1 }] },
  { name := "FLT_SRC_EVENTS", base := 0x206000, dims := [(768, 8)], size := 64, perFn := false, flds := [
    { name := "COUNT", acc := .ro, st := true, fld := fun _ i => FLT_SRC_EVENTS.COUNT i.1 }] },
  { name := "PCR_STATE", base := 0x300000, dims := [], size := 32, perFn := false, flds := [
    { name := "WARM_COUNT", acc := .ro, st := true, fld := fun _ _ => PCR_STATE.WARM_COUNT },
    { name := "MAQ_CAUSE", acc := .ro, st := true, fld := fun _ _ => PCR_STATE.MAQ_CAUSE },
    { name := "CLK_SRC", acc := .ro, st := false, fld := fun _ _ => PCR_STATE.CLK_SRC },
    { name := "MAQ_SRC", acc := .ro, st := false, fld := fun _ _ => PCR_STATE.MAQ_SRC },
    { name := "MAQ_LOADED", acc := .ro, st := false, fld := fun _ _ => PCR_STATE.MAQ_LOADED },
    { name := "READY", acc := .ro, st := false, fld := fun _ _ => PCR_STATE.READY },
    { name := "WARM_CAUSE", acc := .ro, st := true, fld := fun _ _ => PCR_STATE.WARM_CAUSE },
    { name := "LAST_RESET", acc := .ro, st := true, fld := fun _ _ => PCR_STATE.LAST_RESET },
    { name := "POWER", acc := .ro, st := false, fld := fun _ _ => PCR_STATE.POWER }] },
  { name := "PCR_RESET", base := 0x300008, dims := [], size := 32, perFn := false, flds := [
    { name := "WARM", acc := .w1s, st := false, fld := fun _ _ => PCR_RESET.WARM }] },
  { name := "PCR_IDLE_CFG", base := 0x300010, dims := [], size := 64, perFn := false, flds := [
    { name := "MAX_STATE", acc := .rw, st := false, fld := fun _ _ => PCR_IDLE_CFG.MAX_STATE },
    { name := "A3_MS", acc := .rw, st := false, fld := fun _ _ => PCR_IDLE_CFG.A3_MS, ok := fun v => v != 0 },
    { name := "A2_MS", acc := .rw, st := false, fld := fun _ _ => PCR_IDLE_CFG.A2_MS, ok := fun v => v != 0 },
    { name := "A1_US", acc := .rw, st := false, fld := fun _ _ => PCR_IDLE_CFG.A1_US, ok := fun v => v != 0 }] },
  { name := "PCR_CLK_CTRL", base := 0x300018, dims := [], size := 32, perFn := false, flds := [
    { name := "OSC_MHZ", acc := .ro, st := false, fld := fun _ _ => PCR_CLK_CTRL.OSC_MHZ },
    { name := "LOCKED", acc := .ro, st := false, fld := fun _ _ => PCR_CLK_CTRL.LOCKED },
    { name := "SWITCH", acc := .w1s, st := false, fld := fun _ _ => PCR_CLK_CTRL.SWITCH },
    { name := "START", acc := .w1s, st := false, fld := fun _ _ => PCR_CLK_CTRL.START }] },
  { name := "PCR_WARM_REPORT", base := 0x300020, dims := [], size := 64, perFn := false, flds := [
    { name := "BASE", acc := .rwl, st := false, fld := fun _ _ => PCR_WARM_REPORT.BASE },
    { name := "COUNT", acc := .ro, st := true, fld := fun _ _ => PCR_WARM_REPORT.COUNT }] },
  { name := "PCR_COUNT", base := 0x300100, dims := [(16, 8)], size := 64, perFn := false, flds := [
    { name := "COUNT", acc := .ro, st := true, fld := fun _ i => PCR_COUNT.COUNT i.1 }] },
  { name := "OBS_CTR_CLEAR", base := 0x1100000, dims := [], size := 32, perFn := false, flds := [
    { name := "BLOCK", acc := .wo, st := false, fld := fun _ _ => OBS_CTR_CLEAR.BLOCK }] },
  { name := "OBS_SAT_BLOCKS", base := 0x1100008, dims := [], size := 32, perFn := false, flds := [
    { name := "BLOCKS", acc := .w1c, st := true, fld := fun _ _ => OBS_SAT_BLOCKS.BLOCKS }] },
  { name := "OBS_SAT_HEAD", base := 0x1100010, dims := [], size := 64, perFn := false, flds := [
    { name := "HEAD", acc := .ro, st := true, fld := fun _ _ => OBS_SAT_HEAD.HEAD }] },
  { name := "OBS_TRACE_CFG", base := 0x1100020, dims := [], size := 64, perFn := false, flds := [
    { name := "ENABLE", acc := .rw, st := false, fld := fun _ _ => OBS_TRACE_CFG.ENABLE },
    { name := "DATA", acc := .rw, st := false, fld := fun _ _ => OBS_TRACE_CFG.DATA },
    { name := "PRE", acc := .rw, st := false, fld := fun _ _ => OBS_TRACE_CFG.PRE },
    { name := "SIZE", acc := .rw, st := false, fld := fun _ _ => OBS_TRACE_CFG.SIZE, ok := fun v => v ≤ 9 },
    { name := "BASE", acc := .rw, st := false, fld := fun _ _ => OBS_TRACE_CFG.BASE },
    { name := "CORES", acc := .rw, st := false, fld := fun _ _ => OBS_TRACE_CFG.CORES }] }]

/-- Rows of the register map, part 8. -/
def rows8 : List Row := [
  { name := "OBS_TRACE_STATE", base := 0x1100028, dims := [], size := 64, perFn := false, flds := [
    { name := "STATE", acc := .ro, st := false, fld := fun _ _ => OBS_TRACE_STATE.STATE },
    { name := "TRIG_INDEX", acc := .ro, st := true, fld := fun _ _ => OBS_TRACE_STATE.TRIG_INDEX },
    { name := "WRITE_INDEX", acc := .ro, st := true, fld := fun _ _ => OBS_TRACE_STATE.WRITE_INDEX }] },
  { name := "OBS_TRACE_TRIG", base := 0x1100030, dims := [], size := 32, perFn := false, flds := [
    { name := "GO", acc := .w1s, st := false, fld := fun _ _ => OBS_TRACE_TRIG.GO },
    { name := "SRC", acc := .rw, st := false, fld := fun _ _ => OBS_TRACE_TRIG.SRC, ok := fun v => v != 3 },
    { name := "FAULT", acc := .rw, st := false, fld := fun _ _ => OBS_TRACE_TRIG.FAULT }] },
  { name := "OBS_HANG", base := 0x1100038, dims := [], size := 64, perFn := false, flds := [
    { name := "GO", acc := .w1s, st := false, fld := fun _ _ => OBS_HANG.GO },
    { name := "DONE", acc := .ro, st := false, fld := fun _ _ => OBS_HANG.DONE },
    { name := "NOANS", acc := .ro, st := false, fld := fun _ _ => OBS_HANG.NOANS },
    { name := "BASE", acc := .rw, st := false, fld := fun _ _ => OBS_HANG.BASE }] },
  { name := "CAL_CFG", base := 0x1100040, dims := [], size := 64, perFn := false, flds := [
    { name := "OWNER", acc := .rwl, st := false, fld := fun _ _ => CAL_CFG.OWNER },
    { name := "SIZE", acc := .rwl, st := false, fld := fun _ _ => CAL_CFG.SIZE, ok := fun v => v ≤ 8 },
    { name := "BASE", acc := .rwl, st := false, fld := fun _ _ => CAL_CFG.BASE }] },
  { name := "CAL_LIMIT", base := 0x1100048, dims := [], size := 64, perFn := false, flds := [
    { name := "DUTY", acc := .rw, st := false, fld := fun _ _ => CAL_LIMIT.DUTY, ok := fun v => 1 ≤ v && v ≤ 16 },
    { name := "EMERG_C", acc := .rw, st := false, fld := fun _ _ => CAL_LIMIT.EMERG_C },
    { name := "EMERG_W", acc := .rw, st := false, fld := fun _ _ => CAL_LIMIT.EMERG_W },
    { name := "TURBO_W", acc := .rw, st := false, fld := fun _ _ => CAL_LIMIT.TURBO_W }] },
  { name := "CAL_ACC", base := 0x1100050, dims := [(8, 8)], size := 64, perFn := false, flds := [
    { name := "EMERG", acc := .rw, st := false, fld := fun _ i => CAL_ACC.EMERG i.1 },
    { name := "BUDGET", acc := .rw, st := false, fld := fun _ i => CAL_ACC.BUDGET i.1 },
    { name := "POS", acc := .rw, st := false, fld := fun _ i => CAL_ACC.POS i.1 }] },
  { name := "OBS_COUNT", base := 0x1100200, dims := [(16, 8)], size := 64, perFn := false, flds := [
    { name := "COUNT", acc := .ro, st := true, fld := fun _ i => OBS_COUNT.COUNT i.1 }] },
  { name := "OBS_BP", base := 0x1101000, dims := [(16, 0x100), (8, 0x10)], size := 128, perFn := false, flds := [
    { name := "ENABLE", acc := .rw, st := false, fld := fun _ i => OBS_BP.ENABLE i.1 i.2 },
    { name := "KIND", acc := .rw, st := false, fld := fun _ i => OBS_BP.KIND i.1 i.2 },
    { name := "ACTION", acc := .rw, st := false, fld := fun _ i => OBS_BP.ACTION i.1 i.2, ok := fun v => v != 3 },
    { name := "MASK", acc := .rw, st := false, fld := fun _ i => OBS_BP.MASK i.1 i.2, ok := fun v => v ≤ 20 },
    { name := "COUNT", acc := .rw, st := false, fld := fun _ i => OBS_BP.COUNT i.1 i.2 },
    { name := "HITS", acc := .ro, st := false, fld := fun _ i => OBS_BP.HITS i.1 i.2 },
    { name := "ADDR", acc := .rw, st := false, fld := fun _ i => OBS_BP.ADDR i.1 i.2 }] },
  { name := "OBS_DBG_CTRL", base := 0x1102000, dims := [(16, 0x20)], size := 64, perFn := false, flds := [
    { name := "PC", acc := .ro, st := false, fld := fun _ i => OBS_DBG_CTRL.PC i.1 },
    { name := "HALTED", acc := .ro, st := false, fld := fun _ i => OBS_DBG_CTRL.HALTED i.1 },
    { name := "STEP", acc := .w1s, st := false, fld := fun _ i => OBS_DBG_CTRL.STEP i.1 },
    { name := "RESUME", acc := .w1s, st := false, fld := fun _ i => OBS_DBG_CTRL.RESUME i.1 },
    { name := "HALT", acc := .w1s, st := false, fld := fun _ i => OBS_DBG_CTRL.HALT i.1 }] },
  { name := "OBS_DBG_ACC", base := 0x1102008, dims := [(16, 0x20)], size := 64, perFn := false, flds := [
    { name := "GO", acc := .w1s, st := false, fld := fun _ i => OBS_DBG_ACC.GO i.1 },
    { name := "WRITE", acc := .rw, st := false, fld := fun _ i => OBS_DBG_ACC.WRITE i.1 },
    { name := "ERR", acc := .ro, st := false, fld := fun _ i => OBS_DBG_ACC.ERR i.1 },
    { name := "TAG", acc := .rw, st := false, fld := fun _ i => OBS_DBG_ACC.TAG i.1 },
    { name := "INDEX", acc := .rw, st := false, fld := fun _ i => OBS_DBG_ACC.INDEX i.1 }] },
  { name := "PAT_STATE", base := 0x1200000, dims := [], size := 64, perFn := false, flds := [
    { name := "LAST_SUMMARY", acc := .ro, st := false, fld := fun _ _ => PAT_STATE.LAST_SUMMARY },
    { name := "BAD_BLOCKS", acc := .ro, st := false, fld := fun _ _ => PAT_STATE.BAD_BLOCKS },
    { name := "FREE_BLOCKS", acc := .ro, st := false, fld := fun _ _ => PAT_STATE.FREE_BLOCKS }] },
  { name := "PAT_SEQ", base := 0x1200008, dims := [], size := 64, perFn := false, flds := [
    { name := "SEQ", acc := .ro, st := false, fld := fun _ _ => PAT_SEQ.SEQ }] },
  { name := "PAT_COUNT", base := 0x1200100, dims := [(16, 8)], size := 64, perFn := false, flds := [
    { name := "COUNT", acc := .ro, st := true, fld := fun _ i => PAT_COUNT.COUNT i.1 }] },
  { name := "OBS_DBG_DATA", base := 0x1102010, dims := [(16, 0x20)], size := 64, perFn := false, flds := [
    { name := "DATA", acc := .rw, st := false, fld := fun _ i => OBS_DBG_DATA.DATA i.1 }] },
  { name := "OBS_SAT_LOG", base := 0x1100100, dims := [(64, 4)], size := 32, perFn := false, flds := [
    { name := "OFFSET", acc := .ro, st := true, fld := fun _ i => OBS_SAT_LOG.OFFSET i.1 }] }]

/-- The whole register map. -/
def rows : List Row :=
  rows0 ++ rows1 ++ rows2 ++ rows3 ++ rows4 ++ rows5 ++ rows6 ++ rows7 ++ rows8

end Sys2Proof.Reg
end

