-- ==== Sys2Proof/Machine/Chip.lean ====
section
/-! DEFINITION. The whole chip's state but for the queue of waiting commands. -/
namespace Sys2Proof.Machine
open Sys2Proof

/-- Everything the specification gives the F960. Registers are held field by field in `regs` (and the values
latched for counters at the last tick in `latch`), keyed as `Fld.bit`; a field not listed holds its reset value. -/
structure Chip where
  free : Nat := 0
  regs : Tbl Nat := []
  latch : Tbl Nat := []
  satCtrs : List Nat := []
  bus : Bus := {}
  mem : Memory := {}
  led : Ledger := {}
  attn : List AttnCond := []
  attnServed : List Nat := []
  owed : List Reply := []
  fetched : List Nat := []
  agents : List (Agent × AgentState) := []
  answer : Option AgentAnswer := none
  hub : Hub := {}
  tck : TickUnit := {}
  ldr : Loader := {}
  arm : Tbl ArmCore := []
  mu : MemUnit := {}
  wk : WorkUnit := {}
  coll : CollUnit := {}
  kv : KvUnit := {}
  hif : Hif := {}
  pat : Patina := {}
  trc : TraceUnit := {}
  lnk : LinkUnit := {}
  sec : SecUnit := {}
  fw : FwUnit := {}
  cal : Caliper := {}
  dvt : DvtUnit := {}
  dma : DmaUnit := {}
  pkt : PktUnit := {}
  nvs : NvsUnit := {}
  ckp : CkpUnit := {}
  pwr : PwrUnit := {}
  deriving DecidableEq, Repr

end Sys2Proof.Machine
end

