-- ==== Sys2Proof/Machine/State.lean ====
section
/-! DEFINITION. The state of the block, the reasons a step can stop, and the state after reset. -/
namespace Sys2Proof.Machine
open Sys2Proof

/-- The state: the commands that wait, first in, first out, and the chip. -/
structure State where
  pending : List Instr
  chip : Chip
  deriving DecidableEq, Repr

/-- Reasons to stop with a fault. No command of this block raises one: every command of the table has an effect in
every state (safe: the type is inhabited only so that a later mending can name a fault). -/
inductive Fault where
  /-- Reserved: raised by no command. -/
  | unused
  deriving DecidableEq, Repr

/-- Reasons to refuse a command. -/
inductive Refusal where
  /-- The command has no meaning yet in `exec`; raised by its arm (safe: the run ends). -/
  | notModelled (mnemonic : String)
  deriving DecidableEq, Repr

/-- The three outcomes of a command. -/
abbrev Out := Host.Outcome State Fault Refusal

/-- A command that changes the chip: the queue is untouched. -/
def State.on (s : State) (f : Chip → Chip) : Out := .next { s with chip := f s.chip }

/-- The chip right after cold reset: every register field at its reset value (R9), nothing accepted, nothing written. -/
def State.reset : State := { pending := [], chip := {} }

end Sys2Proof.Machine
end

