-- ==== Sys2Proof/Config.lean ====
section
/-! DEFINITION. The free values: what the specification leaves open and the part nevertheless produces. Each is a
constant without a body, so that no proof can lean on a value of it; the step applies most of them to the counter
`free` of State, which it advances. -/
namespace Sys2Proof

/-- A fresh 64-bit value the specification does not state: an undefined count, a random draw, a chosen seed. -/
opaque Config.freeWord : Nat → BitVec 64
/-- A fresh choice among alternatives the specification leaves open. -/
opaque Config.freeNat : Nat → Nat
/-- The order and grouping of the additions of one sum (R116): use, element, step. -/
opaque Config.freeOrder : Nat → Nat → Nat → Nat
/-- exp2 of an FP32 value between the fixed cases of R121 (within 2 ulp in the part). -/
opaque Config.exp2 : Nat → Nat
/-- log2 of an FP32 value, as the attention unit evaluates it (R138). -/
opaque Config.log2 : Nat → Nat
/-- The LZ4 block stepping B0 writes for an input (R146); used only when it decodes to that input. -/
opaque Config.lz4 : List Nat → List Nat
/-- A byte of a random value (DRBG output, R611): draw and index. -/
opaque Config.randomByte : Nat → Nat → BitVec 8
/-- An ML-DSA, LMS or ECDSA signature over a message under a device key (R586, R591): key, message, byte index. -/
opaque Config.signByte : Nat → List Nat → Nat → BitVec 8
/-- Whether a signature verifies (R586): key, signed bytes, signature. -/
opaque Config.verifies : Nat → List Nat → List Nat → Bool
/-- A byte of the device's certificate chains (R590): chain and index. -/
opaque Config.certByte : Nat → Nat → BitVec 8
/-- A byte of a Patina record's MAC (R675): record SEQ and index. -/
opaque Config.patMac : Nat → Nat → BitVec 8
/-- FIXED_DEV of OTP (R599), the OTP key records by KEY_ID and byte (R587). -/
opaque Config.fixedDev : BitVec 32
opaque Config.otpKey : Nat → Nat → BitVec 8
/-- A byte of a boot flash device as it left manufacture: device and offset (R347). -/
opaque Config.flashByte : Nat → Nat → BitVec 8
/-- The device secret of the root of trust (R587): never readable. -/
opaque Config.deviceSecret : Nat → BitVec 8

end Sys2Proof
end

