-- ==== Sys2Proof/Machine/Arith.lean ====
section
/-! DEFINITION. Number formats and arithmetic (chapter 03): exact dyadic values, decoding, rounding, conversion and MX
block scaling, shared by the work cores and the Armature cores. -/
namespace Sys2Proof.Machine
open Sys2Proof

/-- A value of a number format: NaN, an infinity, or ± m × 2^e exactly. -/
inductive Val where
  | nan
  | inf (neg : Bool)
  | fin (neg : Bool) (m : Nat) (e : Int)
  deriving DecidableEq, Repr

/-- A floating-point layout (R96, R97). `special`: 0 IEEE 754 infinities and NaNs, 1 the E4M3 NaN only, 2 neither. -/
structure FloatFmt where
  ebits : Nat
  mbits : Nat
  bias : Nat
  special : Nat
  deriving DecidableEq, Repr

def fmtF32 : FloatFmt := ⟨8, 23, 127, 0⟩
def fmtF64 : FloatFmt := ⟨11, 52, 1023, 0⟩

/-- The layout of a format code; MXINT8 and the integer formats have none. -/
def floatFmt (code : Nat) : Option FloatFmt :=
  match code with
  | 0x0 => some fmtF32
  | 0x1 => some ⟨8, 7, 127, 0⟩
  | 0x2 => some ⟨5, 10, 15, 0⟩
  | 0x3 => some ⟨4, 3, 7, 1⟩
  | 0x4 => some ⟨5, 2, 15, 0⟩
  | 0x5 => some ⟨4, 3, 7, 1⟩
  | 0x6 => some ⟨5, 2, 15, 0⟩
  | 0x7 => some ⟨3, 2, 3, 2⟩
  | 0x8 => some ⟨2, 3, 1, 2⟩
  | 0x9 => some ⟨2, 1, 1, 2⟩
  | 0xE => some fmtF64
  | _ => none

/-- Bits of one element of a format code (R96). -/
def fmtBits (code : Nat) : Nat :=
  match code with
  | 0x0 => 32 | 0x1 => 16 | 0x2 => 16 | 0x7 => 6 | 0x8 => 6 | 0x9 => 4 | 0xC => 32 | 0xE => 64
  | _ => 8

def isMX (code : Nat) : Bool := 0x5 ≤ code && code ≤ 0xA
def isInt (code : Nat) : Bool := code == 0xB || code == 0xC || code == 0xD
def isNarrow (code : Nat) : Bool := (0x3 ≤ code && code ≤ 0xB) || code == 0xD
def isWideFloat (code : Nat) : Bool := code == 0x0 || code == 0x1 || code == 0x2 || code == 0xE

/-- Two's-complement value of an n-bit pattern. -/
def sint (n w : Nat) : Int :=
  let x := w % 2 ^ n
  if x < 2 ^ (n - 1) then (x : Int) else (x : Int) - (2 ^ n : Nat)

/-- The n-bit pattern of an integer. -/
def toBits (n : Nat) (i : Int) : Nat := (i % (2 ^ n : Nat)).toNat

def Val.ofInt (i : Int) : Val := .fin (decide (i < 0)) i.natAbs 0

/-- Decoding of a floating-point pattern (R97). -/
def decodeFloat (f : FloatFmt) (bits : Nat) : Val :=
  let neg := (bits >>> (f.ebits + f.mbits)) % 2 == 1
  let ex := (bits >>> f.mbits) % 2 ^ f.ebits
  let mt := bits % 2 ^ f.mbits
  let ones := 2 ^ f.ebits - 1
  if f.special = 0 ∧ ex = ones then (if mt = 0 then .inf neg else .nan)
  else if f.special = 1 ∧ ex = ones ∧ mt = 2 ^ f.mbits - 1 then .nan
  else if ex = 0 then .fin neg mt (1 - (f.bias : Int) - f.mbits)
  else .fin neg (2 ^ f.mbits + mt) ((ex : Int) - f.bias - f.mbits)

/-- Rounding codes of R105; `stoch r` carries the generator's 16 bits. -/
inductive Rnd where
  | nearest | zero | stoch (r : Nat)
  deriving DecidableEq, Repr

/-- Whether a remainder over 2^sh rounds the magnitude up (R105, R106). -/
def roundsUp (rnd : Rnd) (lo rem sh : Nat) : Bool :=
  match rnd with
  | .nearest => 2 * rem > 2 ^ sh || (2 * rem == 2 ^ sh && lo % 2 == 1)
  | .zero => false
  | .stoch r => rem != 0 && rem * 65536 / 2 ^ sh + r % 65536 ≥ 65536

/-- m × 2^e rounded to a multiple of 2^q: the multiple. -/
def quantise (rnd : Rnd) (m : Nat) (e q : Int) : Nat :=
  if q ≤ e then m * 2 ^ (e - q).toNat
  else
    let sh := (q - e).toNat
    let lo := m / 2 ^ sh
    if roundsUp rnd lo (m % 2 ^ sh) sh then lo + 1 else lo

/-- The exponent of the spacing at a nonzero magnitude m × 2^e, subnormal spacing included. -/
def spacing (f : FloatFmt) (m : Nat) (e : Int) : Int :=
  max ((Nat.log2 m : Int) + e) (1 - (f.bias : Int)) - f.mbits

/-- Largest finite magnitude as mantissa and exponent. -/
def maxFinite (f : FloatFmt) : Nat × Int :=
  match f.special with
  | 0 => (2 ^ (f.mbits + 1) - 1, (2 ^ f.ebits : Nat) - 2 - (f.bias : Int) - f.mbits)
  | 1 => (2 ^ (f.mbits + 1) - 2, (2 ^ f.ebits : Nat) - 1 - (f.bias : Int) - f.mbits)
  | _ => (2 ^ (f.mbits + 1) - 1, (2 ^ f.ebits : Nat) - 1 - (f.bias : Int) - f.mbits)

/-- Comparison a × 2^x > b × 2^y of magnitudes. -/
def magGt (a : Nat) (x : Int) (b : Nat) (y : Int) : Bool :=
  if x ≤ y then a > b * 2 ^ (y - x).toNat else a * 2 ^ (x - y).toNat > b

/-- The pattern of ± n × 2^q, q a spacing of the format and n at most 2^(mbits + 1). -/
def encodeMag (f : FloatFmt) (neg : Bool) (n : Nat) (q : Int) : Nat :=
  let (n, q) := if n = 2 ^ (f.mbits + 1) then (n / 2, q + 1) else (n, q)
  let s := if neg then 2 ^ (f.ebits + f.mbits) else 0
  if n < 2 ^ f.mbits then s + n
  else s + (q + f.mbits + f.bias).toNat * 2 ^ f.mbits + (n - 2 ^ f.mbits)

def maxBits (f : FloatFmt) (neg : Bool) : Nat :=
  let (n, q) := maxFinite f
  encodeMag f neg n q

def infBits (f : FloatFmt) (neg : Bool) : Nat :=
  (if neg then 2 ^ (f.ebits + f.mbits) else 0) + (2 ^ f.ebits - 1) * 2 ^ f.mbits

/-- The canonical NaN (R100). -/
def nanBits (f : FloatFmt) : Nat :=
  match f.special with
  | 0 => (2 ^ f.ebits - 1) * 2 ^ f.mbits + 2 ^ (f.mbits - 1)
  | _ => 2 ^ (f.ebits + f.mbits) - 1

/-! ## Arithmetic flags (R123) -/

def afSAT : Nat := 1
def afNAN_ZERO : Nat := 2
def afNAN_OUT : Nat := 4
def afINF_OUT : Nat := 8
def afUFLOW : Nat := 16
def afSCALE_CLAMP : Nat := 32
def afINT_SAT : Nat := 64

/-- Conversion into a floating-point layout (R109, R110): pattern and flags. `wide` selects the wide-format column. -/
def convFloat (f : FloatFmt) (wide : Bool) (rnd : Rnd) (nanp : Bool) (v : Val) : Nat × Nat :=
  match v with
  | .nan =>
    if wide ∨ nanp then (nanBits f, afNAN_OUT) else (0, afNAN_ZERO)
  | .inf neg =>
    if wide then (infBits f neg, afINF_OUT)
    else if nanp then
      (if f.special = 0 then (infBits f neg, afINF_OUT) else (nanBits f, afNAN_OUT))
    else (maxBits f neg, afSAT)
  | .fin neg m e =>
    if m = 0 then (encodeMag f neg 0 0, 0)
    else
      let q := spacing f m e
      let n := quantise rnd m e q
      let (mn, mq) := maxFinite f
      if n = 0 then (encodeMag f neg 0 0, afUFLOW)
      else if magGt n q mn mq then
        (if wide then
          (match rnd with
           | .zero => (maxBits f neg, afSAT)
           | _ => (infBits f neg, afINF_OUT))
         else (maxBits f neg, afSAT))
      else (encodeMag f neg n q, 0)

/-- Range of an integer format. -/
def intRange (code : Nat) : Int × Int :=
  if code = 0xB then (-128, 127) else if code = 0xD then (0, 255) else (-2147483648, 2147483647)

/-- Conversion into an integer format (R109, R112). -/
def convInt (code : Nat) (rnd : Rnd) (v : Val) : Nat × Nat :=
  let w := fmtBits code
  let (lo, hi) := intRange code
  match v with
  | .nan => (0, afNAN_ZERO)
  | .inf neg => (toBits w (if neg then lo else hi), afSAT)
  | .fin neg m e =>
    let n : Int := quantise rnd m e 0
    let i := if neg then -n else n
    if i < lo then (toBits w lo, afSAT) else if i > hi then (toBits w hi, afSAT) else (toBits w i, 0)

/-- Conversion of a scaled element into MXINT8 (R98, R109): steps of 2^-6, never 0x80. -/
def convMxInt8 (rnd : Rnd) (v : Val) : Nat × Nat :=
  match v with
  | .nan => (0, afNAN_ZERO)
  | .inf neg => (toBits 8 (if neg then -127 else 127), afSAT)
  | .fin neg m e =>
    let n := quantise rnd m e (-6)
    let s (k : Nat) : Int := if neg then -(k : Int) else k
    if n > 127 then (toBits 8 (s 127), afSAT)
    else if n = 0 ∧ m ≠ 0 then (0, afUFLOW)
    else (toBits 8 (s n), 0)

/-- Conversion of one element into any format, an MX element after division by its block scale. -/
def convElem (code : Nat) (rnd : Rnd) (nanp : Bool) (v : Val) : Nat × Nat :=
  if code = 0xA then convMxInt8 rnd v
  else if isInt code then convInt code rnd v
  else match floatFmt code with
    | some f => convFloat f (isWideFloat code) rnd nanp v
    | none => (0, 0)

/-- The value of one element pattern, MX elements before their block scale (R97, R98). -/
def decodeElem (code bits : Nat) : Val :=
  match floatFmt code with
  | some f => decodeFloat f bits
  | none =>
    if code = 0xA then
      let i := sint 8 bits
      .fin (decide (i < 0)) i.natAbs (-6)
    else if code = 0xB then .ofInt (sint 8 bits)
    else if code = 0xC then .ofInt (sint 32 bits)
    else .ofInt (bits % 256)

/-! ## IEEE arithmetic on values -/

/-- Rounding to nearest-even in a format, as a value (R105: internal arithmetic). -/
def roundVal (f : FloatFmt) (v : Val) : Val :=
  match v with
  | .fin neg m e =>
    if m = 0 then .fin neg 0 0
    else decodeFloat f (convFloat f true .nearest true (.fin neg m e)).1
  | v => v

def Val.isNaN : Val → Bool
  | .nan => true
  | _ => false

def Val.neg : Val → Val
  | .nan => .nan
  | .inf s => .inf (!s)
  | .fin s m e => .fin (!s) m e

def Val.isNeg : Val → Bool
  | .nan => false
  | .inf s => s
  | .fin s _ _ => s

def Val.isZero : Val → Bool
  | .fin _ 0 _ => true
  | _ => false

def Val.abs : Val → Val
  | .nan => .nan
  | .inf _ => .inf false
  | .fin _ m e => .fin false m e

/-- Signed mantissa at exponent `e'`, not above the value's own. -/
def atExp (neg : Bool) (m : Nat) (e e' : Int) : Int :=
  let n : Int := (m * 2 ^ (e - e').toNat : Nat)
  if neg then -n else n

/-- Exact sum (R118). -/
def addExact (a b : Val) : Val :=
  match a, b with
  | .nan, _ => .nan
  | _, .nan => .nan
  | .inf s, .inf t => if s = t then .inf s else .nan
  | .inf s, _ => .inf s
  | _, .inf t => .inf t
  | .fin s m e, .fin t n d =>
    let k := min e d
    let i := atExp s m e k + atExp t n d k
    if i = 0 then .fin (s && t) 0 0 else .fin (decide (i < 0)) i.natAbs k

/-- Exact product. -/
def mulExact (a b : Val) : Val :=
  match a, b with
  | .nan, _ => .nan
  | _, .nan => .nan
  | .inf s, .inf t => .inf (s != t)
  | .inf s, .fin t n _ => if n = 0 then .nan else .inf (s != t)
  | .fin s m _, .inf t => if m = 0 then .nan else .inf (s != t)
  | .fin s m e, .fin t n d => .fin (s != t) (m * n) (if m * n = 0 then 0 else e + d)

/-- Quotient with enough bits and a sticky bit for one correct rounding. -/
def divSticky (a b : Val) : Val :=
  match a, b with
  | .nan, _ => .nan
  | _, .nan => .nan
  | .inf _, .inf _ => .nan
  | .inf s, .fin t _ _ => .inf (s != t)
  | .fin s _ _, .inf t => .fin (s != t) 0 0
  | .fin s m e, .fin t n d =>
    if n = 0 then (if m = 0 then .nan else .inf (s != t))
    else if m = 0 then .fin (s != t) 0 0
    else
      let k := 72 + Nat.log2 n
      let x := m * 2 ^ k
      .fin (s != t) (x / n * 2 + (if x % n = 0 then 0 else 1)) (e - d - k - 1)

/-- Integer square root by bits, from bit `k` down. -/
def isqrtAux : Nat → Nat → Nat → Nat
  | 0, _, r => r
  | k + 1, x, r => let c := r + 2 ^ k; isqrtAux k x (if c * c ≤ x then c else r)

def isqrt (x : Nat) : Nat := isqrtAux (Nat.log2 x / 2 + 1) x 0

/-- Square root with enough bits and a sticky bit for one correct rounding. -/
def sqrtSticky (a : Val) : Val :=
  match a with
  | .nan => .nan
  | .inf s => if s then .nan else .inf false
  | .fin s m e =>
    if m = 0 then .fin s 0 0
    else if s then .nan
    else
      let (m, e) := if e % 2 = 0 then (m, e) else (2 * m, e - 1)
      let x := m * 2 ^ 128
      let r := isqrt x
      .fin false (2 * r + (if r * r = x then 0 else 1)) ((e - 128) / 2 - 1)

def addF (f : FloatFmt) (a b : Val) : Val := roundVal f (addExact a b)
def mulF (f : FloatFmt) (a b : Val) : Val := roundVal f (mulExact a b)
def divF (f : FloatFmt) (a b : Val) : Val := roundVal f (divSticky a b)
def sqrtF (f : FloatFmt) (a : Val) : Val := roundVal f (sqrtSticky a)

/-- a < b for values that are not NaN; −0 orders below +0 when `signedZero` (R122). -/
def valLt (signedZero : Bool) (a b : Val) : Bool :=
  match a, b with
  | .nan, _ => false
  | _, .nan => false
  | .inf s, .inf t => s && !t
  | .inf s, .fin _ _ _ => s
  | .fin _ _ _, .inf t => !t
  | .fin s m e, .fin t n d =>
    if m = 0 ∧ n = 0 then signedZero && s && !t
    else
      let k := min e d
      decide (atExp s m e k < atExp t n d k)

def valEq (a b : Val) : Bool := !a.isNaN && !b.isNaN && !valLt false a b && !valLt false b a

/-- IEEE 754-2019 maximum and minimum (R122): NaN propagates. -/
def valMax (a b : Val) : Val := if a.isNaN || b.isNaN then .nan else if valLt true a b then b else a
def valMin (a b : Val) : Val := if a.isNaN || b.isNaN then .nan else if valLt true a b then a else b

/-! ## Sums: each addition rounds to nearest-even, in an order and grouping that is free (R116, R117) -/

/-- One sum over a list: at each step the free choice names two of the terms left, which are added and put back. -/
def sumFree (f : FloatFmt) (choice : Nat → Nat) : Nat → List Val → Val
  | 0, ts => ts.headD (.fin false 0 0)
  | k + 1, ts =>
    match ts with
    | [] => .fin false 0 0
    | [t] => t
    | ts =>
      let i := choice (2 * k) % ts.length
      let a := ts.getD i .nan
      let rest := ts.eraseIdx i
      let j := choice (2 * k + 1) % rest.length
      let b := rest.getD j .nan
      sumFree f choice k (addF f a b :: rest.eraseIdx j)

def sumOf (f : FloatFmt) (use elem : Nat) (ts : List Val) : Val :=
  sumFree f (Config.freeOrder use elem) ts.length ts

/-- A zero result of a sum: +0 unless every term is −0 (R118). -/
def zeroSum (ts : List Val) : Val := .fin (ts.all (fun t => t.isZero && t.isNeg)) 0 0

/-- A sum within the error bound of R116 of the exact one: the free value where it meets the bound, else the sum in
one free order. -/
def sumBounded (use elem : Nat) (ts : List Val) : Val :=
  let exact := ts.foldl addExact (.fin true 0 0)
  let direct := sumOf fmtF32 use elem ts
  let c := decodeFloat fmtF32 (Config.freeOrder use elem (2 * ts.length) % 2 ^ 32)
  match exact, c with
  | .fin s m e, .fin t n d =>
    let total := (ts.map Val.abs).foldl addExact (.fin false 0 0)
    match addExact (.fin s m e) (.fin (!t) n d), total with
    | .fin _ dm de, .fin _ tm te =>
      let k := ts.length - 1
      if k < 2 ^ 24 ∧ !magGt (dm * (2 ^ 24 - k)) de (k * tm) te then (if n = 0 then zeroSum ts else c) else direct
    | _, _ => direct
  | _, _ => direct

/-! ## exp2 and log2 (R121, R138): free values within their bounds -/

/-- A number times 2^k, cut to an integer. -/
def shiftTo (m : Nat) (e : Int) (k : Nat) : Nat := if e + k ≥ 0 then m * 2 ^ (e + k).toNat else m / 2 ^ (-(e + k)).toNat

/-- The product of 2^(2^-i) over the bits set of a 64-bit fraction, highest first, from the root 2^(2^-i) of the bit before; all in 96
fraction bits and rounded down. -/
def exp2Bits : Nat → Nat → Nat → Nat → Nat
  | 0, _, _, acc => acc
  | k + 1, f, root, acc =>
    let r := isqrt (root * 2 ^ 96)
    exp2Bits k f r (if f / 2 ^ k % 2 = 1 then acc * r / 2 ^ 96 else acc)

/-- 2^x for a finite x: its exponent, and bounds of its significand with 96 fraction bits. The upper bound allows for the roundings and for
what of x lies below 2^-64. -/
def exp2Bounds (neg : Bool) (m : Nat) (e : Int) : Int × Nat × Nat :=
  let whole : Bool := e ≥ 0 || m % 2 ^ (-e).toNat = 0
  let q := shiftTo m e 64
  let x : Int := if neg then -(q : Int) - (if e < -64 ∧ m % 2 ^ (-(e + 64)).toNat ≠ 0 then 1 else 0) else q
  let lo := exp2Bits 64 (x % 2 ^ 64).toNat (2 * 2 ^ 96) (2 ^ 96)
  (x / 2 ^ 64, lo, if whole then lo else lo + 2 ^ 34)

/-- exp2 on an FP32 value (R121): the fixed cases, and between them the free value, which is within 2 ulp of 2^x. -/
def exp2F32 (v : Val) : Val :=
  match v with
  | .nan => .nan
  | .inf s => if s then .fin false 0 0 else .inf false
  | .fin s m e =>
    if valLt false v (.fin true 126 0) then .fin false 0 0
    else if !valLt false v (.fin false 128 0) then .inf false
    else
      let b := exp2Bounds s m e
      let u := 2 * 2 ^ 73
      match decodeFloat fmtF32 (Config.exp2 (convFloat fmtF32 true .nearest true v).1 % 2 ^ 31) with
      | .fin t n d =>
        let c := shiftTo n (d - b.1) 96
        if c ≤ b.2.1 + u ∧ b.2.2 ≤ c + u ∧ n ≠ 0 then .fin t n d else .fin false (b.2.1 / 2 ^ 73) (b.1 - 23)
      | _ => .fin false (b.2.1 / 2 ^ 73) (b.1 - 23)

/-- The fraction bits of the logarithm of y in [1, 2), y in 160 fraction bits: each squaring gives one. -/
def log2Bits : Nat → Nat → Nat → Nat
  | 0, _, acc => acc
  | k + 1, y, acc =>
    let z := y * y / 2 ^ 160
    if z ≥ 2 ^ 161 then log2Bits k (z / 2) (2 * acc + 1) else log2Bits k z (2 * acc)

/-- log2 of an FP32 value, as R138 forms L with it: the free value, within the bound that R116 gives for a sum of n terms, relative to the
logarithm (DEDUCED, log entry 76: R138 puts its results within that bound and names no other). -/
def log2F32 (n : Nat) (v : Val) : Val :=
  match v with
  | .nan => .nan
  | .inf s => if s then .nan else .inf false
  | .fin s m e =>
    if m = 0 then .inf true
    else if s then .nan
    else
      let k := Nat.log2 m
      let lo : Int := ((k : Int) + e) * 2 ^ 60 + log2Bits 60 (shiftTo m (-k) 160) 0
      let hi : Int := if m = 2 ^ k then lo else lo + 4
      let g := min (n - 1) (2 ^ 24 - 1)
      let w (x : Int) : Int := x * 2 ^ 100 * (2 ^ 24 - g)
      let tol (x : Int) : Int := x.natAbs * 2 ^ 100 * g
      let direct := roundVal fmtF32 (.fin (decide (lo < 0)) lo.natAbs (-60))
      match decodeFloat fmtF32 (Config.log2 (convFloat fmtF32 true .nearest true v).1 % 2 ^ 32) with
      | .fin t c d =>
        let x : Int := atExp t c d (-160) * (2 ^ 24 - g)
        if x ≤ w lo + tol lo ∧ w hi - tol hi ≤ x ∧ d ≥ -160 then .fin t c d else direct
      | _ => direct

/-! ## MX blocks (R101 to R104, R111) -/

/-- EMAX of an MX destination. -/
def mxEmax (code : Nat) : Int :=
  match code with
  | 0x5 => 8 | 0x6 => 15 | 0x7 => 4 | 0x8 => 2 | 0x9 => 2
  | _ => 0

/-- Whether a magnitude, rounded to nearest-even, exceeds ELEMMAX of an MX destination (the FIT test). -/
def mxOverflows (code : Nat) (m : Nat) (e : Int) : Bool :=
  match floatFmt code with
  | some f => let q := spacing f m e; let (mn, mq) := maxFinite f; magGt (quantise .nearest m e q) q mn mq
  | none => quantise .nearest m e (-6) > 127

/-- The largest finite magnitude of a block, as mantissa and exponent. -/
def blockMax (vs : List Val) : Nat × Int :=
  vs.foldl (fun acc v => match v with
    | .fin _ m e => if magGt m e acc.1 acc.2 then (m, e) else acc
    | _ => acc) (0, 0)

/-- The block exponent and the SCALE_CLAMP flag of R103. -/
def mxExponent (code : Nat) (fit : Bool) (vs : List Val) : Int × Nat :=
  let (m, e) := blockMax vs
  let x : Int :=
    if m = 0 then 0
    else
      let x := (Nat.log2 m : Int) + e - mxEmax code
      if fit && mxOverflows code m (e - x) then x + 1 else x
  if x < -127 then (-127, afSCALE_CLAMP) else if x > 127 then (127, afSCALE_CLAMP) else (x, 0)

def Val.scale (x : Int) : Val → Val
  | .fin s m e => .fin s m (if m = 0 then e else e + x)
  | v => v

def Val.special : Val → Bool
  | .fin _ _ _ => false
  | _ => true

/-- One MX block: scale byte, element patterns and flags. `rnd i` is the rounding of element i of the block. -/
def mxBlock (code : Nat) (fit nanp : Bool) (rnd : Nat → Rnd) (vs : List Val) : Nat × List Nat × Nat :=
  if 0x7 ≤ code ∧ nanp ∧ vs.any Val.special then (0xFF, vs.map (fun _ => 0), afNAN_OUT)
  else
    let (x, fl) := mxExponent code fit vs
    let es := vs.zipIdx.map (fun p => convElem code (rnd p.2) nanp (p.1.scale (-x)))
    ((x + 127).toNat, es.map (·.1), es.foldl (fun a p => a ||| p.2) fl)

/-- An MX element under its block scale, exactly in FP32 (R102). -/
def mxDecode (code scale bits : Nat) : Val :=
  if scale = 0xFF then .nan else roundVal fmtF32 ((decodeElem code bits).scale ((scale : Int) - 127))

/-- The generator of R107: key, low 32 bits of the sequence number, output element. -/
def srBits (key seqLo i : Nat) : Nat :=
  let x0 := (key ^^^ (seqLo % 2 ^ 32 * 2 ^ 32) ^^^ i) % 2 ^ 64
  let f (x : Nat) := ((x ^^^ (x >>> 31)) * 0x9E3779B97F4A7C15) % 2 ^ 64
  f (f (f x0)) >>> 48

end Sys2Proof.Machine
end

