-- ==== Sys2Proof/Machine/Crypto.lean ====
section
/-! DEFINITION. The named algorithms of the specification: CRC-16 of the Plumb ring (R57), CRC-32C (R145), SHA-256,
SHA-384, AES-256-GCM, KMAC256, the Toeplitz hash and the LZ4 block format. Words are numbers below 2^32 or 2^64. -/
namespace Sys2Proof.Machine
open Sys2Proof

/-! ## Bytes and words -/

/-- Little-endian number of a byte list. -/
def leNat : List Nat → Nat
  | [] => 0
  | b :: bs => b % 256 + 256 * leNat bs

/-- The n little-endian bytes of a number. -/
def leBytes : Nat → Nat → List Nat
  | 0, _ => []
  | n + 1, x => x % 256 :: leBytes n (x / 256)

/-- Big-endian number of a byte list. -/
def beNat (bs : List Nat) : Nat := bs.foldl (fun a b => a * 256 + b % 256) 0

/-- The n big-endian bytes of a number. -/
def beBytes (n x : Nat) : List Nat := (leBytes n x).reverse

/-- Consecutive pieces of n elements; the last may be short. The first argument bounds the number of pieces. -/
def pieces {α : Type} : Nat → Nat → List α → List (List α)
  | 0, _, _ => []
  | k + 1, n, xs => if xs.isEmpty then [] else xs.take n :: pieces k n (xs.drop n)

def rotr (w x n : Nat) : Nat := ((x >>> n) ||| (x <<< (w - n))) % 2 ^ w
def rotl (w x n : Nat) : Nat := ((x <<< n) ||| (x >>> (w - n))) % 2 ^ w

/-! ## CRCs -/

def crc32cBit (c : Nat) : Nat := if c % 2 = 1 then (c / 2) ^^^ 0x82F63B78 else c / 2

def crc32cByte (c b : Nat) : Nat :=
  let c := c ^^^ (b % 256)
  crc32cBit (crc32cBit (crc32cBit (crc32cBit (crc32cBit (crc32cBit (crc32cBit (crc32cBit c)))))))

/-- CRC-32C: reflected polynomial 0x1EDC_6F41, initial value 0xFFFF_FFFF, final inversion (R145). -/
def crc32c (bs : List Nat) : Nat := (bs.foldl crc32cByte 0xFFFFFFFF) ^^^ 0xFFFFFFFF

def crc16Bit (c : Nat) : Nat := if c / 0x8000 % 2 = 1 then ((c * 2) % 0x10000) ^^^ 0x1021 else (c * 2) % 0x10000

def crc16Byte (c b : Nat) : Nat :=
  let c := c ^^^ ((b % 256) * 256)
  crc16Bit (crc16Bit (crc16Bit (crc16Bit (crc16Bit (crc16Bit (crc16Bit (crc16Bit c)))))))

/-- CRC-16 with polynomial 0x1021 and initial value 0xFFFF (R57). -/
def crc16 (bs : List Nat) : Nat := bs.foldl crc16Byte 0xFFFF

/-! ## SHA-2 (FIPS 180-4) -/

/-- The fractions of the cube roots of the first 80 primes, 64 bits each, the first lowest. -/
def cubeFractions : Nat :=
  0x6c44198c4a4758175fcb6fab3ad6faec597f299cfc657e2a4cc5d4becb3e42b6431d67c49c100d4c3c9ebe0a15c9bebc32caab7b40c7249328db77f523047d841b710b35131c471b113f9804bef90dae0a637dc5a2c898a606f067aa72176fbaf57d4f7fee6ed178eada7dd6cde0eb1ed186b8c721c0c207ca273eceea26619cc67178f2e372532bbef9a3f7b2c67915a4506cebde82bde990befffa23631e288cc702081a6439ec84c87814a1f0ab7278a5636f43172f60748f82ee5defb2fc682e6ff3d6b2b8a35b9cca4f7763e3734ed8aa4ae3418acb391c0cb3c5c95a6334b0bcb5e19b48a82748774cdf8eeb991e376c085141ab5319a4c116b8d2d0c8106aa07032bbd1b8f40e35855771202ad69906245565a910d192e819d6ef5218c76c51a30654be30c24b8b70d0f89791a81a664bbc423001a2bfe8a14cf1036492722c851482353b81c2c92e47edaee6766a0abb3c77b2a8650a73548baf63de53380d139d95b3df4d2c6dfc5ac42aed2e1b21385c26c92627b70a8546d22ffc142929670a0e6e7006ca6351e003826fd5a79147930aa725c6e00bf33da88fc2bf597fc7beef0ee4b00327c898fb213fa831c66d2db43210983e5152ee66dfab76f988da831153b55cb0a9dcbd41fbd44a7484aa6ea6e4832de92c6f592b0275240ca1cc77ac9c650fc19dc68b8cd5b5efbe4786384f25e3e49b69c19ef14ad2c19bf174cf6926949bdc06a725c7123580deb1fe3b1696b172be5d74f27b896f550c7dc3d5ffb4e2243185be4ee4b28c12835b0145706fbed807aa98a3030242ab1c5ed5da6d8118923f82a4af194f9b59f111f1b605d0193956c25bf348b538e9b5dba58189dbbcb5c0fbcfec4d3b2f7137449123ef65cd428a2f98d728ae22

/-- Round constants: the whole fractions for SHA-384, their upper halves for SHA-256. -/
def sha512K : List Nat := (List.range 80).map (fun i => cubeFractions >>> (64 * i) % 2 ^ 64)
def sha256K : List Nat := (sha512K.take 64).map (· >>> 32)

/-- The initial value of SHA-256: the fractions of the square roots of the first 8 primes. -/
def sha256H : List Nat := (List.range 8).map (fun i => 0x5be0cd191f83d9ab9b05688c510e527fa54ff53a3c6ef372bb67ae856a09e667 >>> (32 * i) % 2 ^ 32)

/-- The initial value of SHA-384: those of the 9th to 16th primes. -/
def sha384H : List Nat :=
  (List.range 8).map (fun i =>
    0x47b5481dbefa4fa4db0c2e0d64f98fa78eb44a876858151167332667ffc00b31152fecd8f70e59399159015a3070dd17629a292a367cd507cbbb9d5dc1059ed8 >>>
      (64 * i) % 2 ^ 64)

/-- The rotations of one SHA-2 member: word bits, Σ0, Σ1, σ0, σ1 (the last amount of a σ is a shift). -/
structure ShaParam where
  w : Nat
  S0 : Nat × Nat × Nat
  S1 : Nat × Nat × Nat
  s0 : Nat × Nat × Nat
  s1 : Nat × Nat × Nat
  k : List Nat

def sha256P : ShaParam := ⟨32, (2, 13, 22), (6, 11, 25), (7, 18, 3), (17, 19, 10), sha256K⟩
def sha512P : ShaParam := ⟨64, (28, 34, 39), (14, 18, 41), (1, 8, 7), (19, 61, 6), sha512K⟩

def shaBig (p : ShaParam) (r : Nat × Nat × Nat) (x : Nat) : Nat :=
  rotr p.w x r.1 ^^^ rotr p.w x r.2.1 ^^^ rotr p.w x r.2.2

def shaSmall (p : ShaParam) (r : Nat × Nat × Nat) (x : Nat) : Nat :=
  rotr p.w x r.1 ^^^ rotr p.w x r.2.1 ^^^ (x >>> r.2.2)

/-- One step of the message schedule on the last 16 words, newest first. -/
def shaNext (p : ShaParam) (w : List Nat) : Nat :=
  (shaSmall p p.s1 (w.getD 1 0) + w.getD 6 0 + shaSmall p p.s0 (w.getD 14 0) + w.getD 15 0) % 2 ^ p.w

/-- The rounds: schedule window newest first, working variables a to h. -/
def shaRounds (p : ShaParam) : List Nat → List Nat → List Nat → List Nat
  | [], _, v => v
  | k :: ks, win, v =>
    let a := v.getD 0 0; let b := v.getD 1 0; let c := v.getD 2 0; let d := v.getD 3 0
    let e := v.getD 4 0; let f := v.getD 5 0; let g := v.getD 6 0; let h := v.getD 7 0
    let ch := (e &&& f) ^^^ ((2 ^ p.w - 1 - e) &&& g)
    let mj := (a &&& b) ^^^ (a &&& c) ^^^ (b &&& c)
    let t1 := h + shaBig p p.S1 e + ch + k + win.getD 15 0
    let t2 := shaBig p p.S0 a + mj
    shaRounds p ks (shaNext p win :: win.take 15)
      [(t1 + t2) % 2 ^ p.w, a, b, c, (d + t1) % 2 ^ p.w, e, f, g]

def shaBlock (p : ShaParam) (h : List Nat) (block : List Nat) : List Nat :=
  let ws := (pieces 16 (p.w / 8) block).map beNat
  let v := shaRounds p p.k ws.reverse h
  h.zipWith (fun x y => (x + y) % 2 ^ p.w) v

def shaPad (p : ShaParam) (m : List Nat) : List Nat :=
  let blk := 2 * p.w
  let lenBytes := p.w / 4
  let z := (blk - (m.length + 1 + lenBytes) % blk) % blk
  m ++ [0x80] ++ List.replicate z 0 ++ beBytes lenBytes (8 * m.length)

def shaHash (p : ShaParam) (h : List Nat) (m : List Nat) : List Nat :=
  let bs := pieces (m.length + 2) (2 * p.w) (shaPad p m)
  (bs.foldl (shaBlock p) h).flatMap (beBytes (p.w / 8))

/-- SHA-256: 32 bytes. -/
def sha256 (m : List Nat) : List Nat := shaHash sha256P sha256H m

/-- SHA-384: 48 bytes. -/
def sha384 (m : List Nat) : List Nat := (shaHash sha512P sha384H m).take 48

/-! ## AES-256 and GCM (FIPS 197, SP 800-38D) -/

/-- The AES S-box. -/
def aesSbox : List Nat :=
  [0x63, 0x7c, 0x77, 0x7b, 0xf2, 0x6b, 0x6f, 0xc5, 0x30, 0x1, 0x67, 0x2b, 0xfe, 0xd7, 0xab, 0x76, 0xca, 0x82, 0xc9, 0x7d, 0xfa, 0x59, 0x47, 0xf0, 0xad, 0xd4, 0xa2, 0xaf, 0x9c, 0xa4, 0x72, 0xc0] ++
  [0xb7, 0xfd, 0x93, 0x26, 0x36, 0x3f, 0xf7, 0xcc, 0x34, 0xa5, 0xe5, 0xf1, 0x71, 0xd8, 0x31, 0x15, 0x4, 0xc7, 0x23, 0xc3, 0x18, 0x96, 0x5, 0x9a, 0x7, 0x12, 0x80, 0xe2, 0xeb, 0x27, 0xb2, 0x75] ++
  [0x9, 0x83, 0x2c, 0x1a, 0x1b, 0x6e, 0x5a, 0xa0, 0x52, 0x3b, 0xd6, 0xb3, 0x29, 0xe3, 0x2f, 0x84, 0x53, 0xd1, 0x0, 0xed, 0x20, 0xfc, 0xb1, 0x5b, 0x6a, 0xcb, 0xbe, 0x39, 0x4a, 0x4c, 0x58, 0xcf] ++
  [0xd0, 0xef, 0xaa, 0xfb, 0x43, 0x4d, 0x33, 0x85, 0x45, 0xf9, 0x2, 0x7f, 0x50, 0x3c, 0x9f, 0xa8, 0x51, 0xa3, 0x40, 0x8f, 0x92, 0x9d, 0x38, 0xf5, 0xbc, 0xb6, 0xda, 0x21, 0x10, 0xff, 0xf3, 0xd2] ++
  [0xcd, 0xc, 0x13, 0xec, 0x5f, 0x97, 0x44, 0x17, 0xc4, 0xa7, 0x7e, 0x3d, 0x64, 0x5d, 0x19, 0x73, 0x60, 0x81, 0x4f, 0xdc, 0x22, 0x2a, 0x90, 0x88, 0x46, 0xee, 0xb8, 0x14, 0xde, 0x5e, 0xb, 0xdb] ++
  [0xe0, 0x32, 0x3a, 0xa, 0x49, 0x6, 0x24, 0x5c, 0xc2, 0xd3, 0xac, 0x62, 0x91, 0x95, 0xe4, 0x79, 0xe7, 0xc8, 0x37, 0x6d, 0x8d, 0xd5, 0x4e, 0xa9, 0x6c, 0x56, 0xf4, 0xea, 0x65, 0x7a, 0xae, 0x8] ++
  [0xba, 0x78, 0x25, 0x2e, 0x1c, 0xa6, 0xb4, 0xc6, 0xe8, 0xdd, 0x74, 0x1f, 0x4b, 0xbd, 0x8b, 0x8a, 0x70, 0x3e, 0xb5, 0x66, 0x48, 0x3, 0xf6, 0xe, 0x61, 0x35, 0x57, 0xb9, 0x86, 0xc1, 0x1d, 0x9e] ++
  [0xe1, 0xf8, 0x98, 0x11, 0x69, 0xd9, 0x8e, 0x94, 0x9b, 0x1e, 0x87, 0xe9, 0xce, 0x55, 0x28, 0xdf, 0x8c, 0xa1, 0x89, 0xd, 0xbf, 0xe6, 0x42, 0x68, 0x41, 0x99, 0x2d, 0xf, 0xb0, 0x54, 0xbb, 0x16]

def aesSub (x : Nat) : Nat := aesSbox.getD (x % 256) 0

def xtime (x : Nat) : Nat := if x ≥ 128 then (x * 2 - 256) ^^^ 0x1B else x * 2

def xorBytes (a b : List Nat) : List Nat := a.zipWith (· ^^^ ·) b

/-- Key expansion: words newest first, the word index and the round constant. -/
def aesExpand : Nat → Nat → Nat → List (List Nat) → List (List Nat)
  | 0, _, _, ws => ws
  | k + 1, i, rc, ws =>
    let t := ws.headD []
    let t1 :=
      if i % 8 = 0 then xorBytes ((t.drop 1 ++ t.take 1).map aesSub) [rc, 0, 0, 0]
      else if i % 8 = 4 then t.map aesSub else t
    aesExpand k (i + 1) (if i % 8 = 0 then xtime rc else rc) (xorBytes (ws.getD 7 []) t1 :: ws)

/-- The 15 round keys of a 32-byte key. -/
def aesKeys (key : List Nat) : List (List Nat) :=
  pieces 15 16 ((aesExpand 52 8 1 (pieces 8 4 key).reverse).reverse.flatMap id)

def shiftRows (s : List Nat) : List Nat :=
  [0, 5, 10, 15, 4, 9, 14, 3, 8, 13, 2, 7, 12, 1, 6, 11].map (fun i => s.getD i 0)

def mixColumn (c : List Nat) : List Nat :=
  let g (i : Nat) := c.getD (i % 4) 0
  [0, 1, 2, 3].map (fun i => xtime (g i) ^^^ (xtime (g (i + 1)) ^^^ g (i + 1)) ^^^ g (i + 2) ^^^ g (i + 3))

def aesRounds : List (List Nat) → List Nat → List Nat
  | [], s => s
  | [k], s => xorBytes (shiftRows (s.map aesSub)) k
  | k :: ks, s => aesRounds ks (xorBytes ((pieces 4 4 (shiftRows (s.map aesSub))).flatMap mixColumn) k)

/-- AES-256 of one 16-byte block under expanded keys. -/
def aesBlock (keys : List (List Nat)) (b : List Nat) : List Nat :=
  aesRounds (keys.drop 1) (xorBytes b (keys.headD []))

/-- The inverse S-box, shift and column mix. -/
def aesInvSub (x : Nat) : Nat := aesSbox.findIdx (· = x)

def gfMul : Nat → Nat → Nat → Nat
  | 0, _, _ => 0
  | k + 1, a, b => (if b % 2 = 1 then a else 0) ^^^ gfMul k (xtime a) (b / 2)

def invShiftRows (s : List Nat) : List Nat :=
  [0, 13, 10, 7, 4, 1, 14, 11, 8, 5, 2, 15, 12, 9, 6, 3].map (fun i => s.getD i 0)

def invMixColumn (c : List Nat) : List Nat :=
  let g (i : Nat) := c.getD (i % 4) 0
  [0, 1, 2, 3].map (fun i => gfMul 8 (g i) 14 ^^^ gfMul 8 (g (i + 1)) 11 ^^^ gfMul 8 (g (i + 2)) 13 ^^^ gfMul 8 (g (i + 3)) 9)

/-- The inverse cipher: round keys last first. -/
def aesInvRounds : List (List Nat) → List Nat → List Nat
  | [], s => s
  | [k], s => xorBytes s k
  | k :: ks, s => aesInvRounds ks ((invShiftRows (((pieces 4 4 (xorBytes s k)).flatMap invMixColumn))).map aesInvSub)

/-- AES-256 decryption of one block. -/
def aesUnblock (keys : List (List Nat)) (b : List Nat) : List Nat :=
  match keys.reverse with
  | [] => b
  | k :: ks => aesInvRounds ks ((invShiftRows (xorBytes b k)).map aesInvSub)

/-- AES key unwrap of RFC 3394 on 40 bytes: the 32-byte key, or none when the integrity check fails. -/
def keyUnwrap (kek wrapped : List Nat) : Option (List Nat) :=
  let keys := aesKeys kek
  let start : List Nat × List (List Nat) := (wrapped.take 8, pieces 4 8 (wrapped.drop 8))
  let r := (List.range 24).foldl (fun (s : List Nat × List (List Nat)) j =>
    let t := 24 - j
    let i := (t - 1) % 4
    let b := aesUnblock keys (xorBytes s.1 (beBytes 8 t) ++ s.2.getD i [])
    (b.take 8, s.2.set i (b.drop 8))) start
  if r.1 = List.replicate 8 0xA6 then some r.2.flatten else none

/-- Multiplication in GF(2^128) of GCM, bit 127 of a number being the first bit. -/
def ghashMulAux : Nat → Nat → Nat → Nat → Nat
  | 0, _, _, z => z
  | k + 1, x, v, z =>
    ghashMulAux k x (if v % 2 = 1 then (v / 2) ^^^ (0xE1 <<< 120) else v / 2)
      (if (x >>> k) % 2 = 1 then z ^^^ v else z)

def ghashMul (x h : Nat) : Nat := ghashMulAux 128 x h 0

def padTo16 (m : List Nat) : List Nat := m ++ List.replicate ((16 - m.length % 16) % 16) 0

def ghash (h : Nat) (m : List Nat) : Nat :=
  (pieces (m.length + 1) 16 m).foldl (fun y b => ghashMul (y ^^^ beNat b) h) 0

def gcmCtr (keys : List (List Nat)) (iv : List Nat) (ctr : Nat) : List Nat := aesBlock keys (iv ++ beBytes 4 (ctr % 2 ^ 32))

def gcmStream (keys : List (List Nat)) (iv m : List Nat) : List Nat :=
  (pieces (m.length + 1) 16 m).zipIdx.flatMap (fun p => xorBytes p.1 (gcmCtr keys iv (p.2 + 2)))

def gcmTag (keys : List (List Nat)) (iv aad c : List Nat) : List Nat :=
  let h := beNat (aesBlock keys (List.replicate 16 0))
  let s := ghash h (padTo16 aad ++ padTo16 c ++ beBytes 8 (8 * aad.length) ++ beBytes 8 (8 * c.length))
  xorBytes (beBytes 16 s) (gcmCtr keys iv 1)

/-- AES-256-GCM encryption with a 12-byte IV: ciphertext and 16-byte tag. -/
def gcmEncrypt (key iv aad m : List Nat) : List Nat × List Nat :=
  let keys := aesKeys key
  let c := gcmStream keys iv m
  (c, gcmTag keys iv aad c)

/-- AES-256-GCM decryption: none when the tag does not verify. -/
def gcmDecrypt (key iv aad c tag : List Nat) : Option (List Nat) :=
  let keys := aesKeys key
  if gcmTag keys iv aad c = tag then some (gcmStream keys iv c) else none

/-! ## KMAC256 (SP 800-185) -/

/-- Round constants of Keccak-f[1600]. -/
def keccakRC : List Nat :=
  [0x1, 0x8082, 0x800000000000808a, 0x8000000080008000, 0x808b, 0x80000001, 0x8000000080008081, 0x8000000000008009, 0x8a, 0x88, 0x80008009, 0x8000000a, 0x8000808b, 0x800000000000008b, 0x8000000000008089, 0x8000000000008003, 0x8000000000008002, 0x8000000000000080, 0x800a, 0x800000008000000a, 0x8000000080008081, 0x8000000000008080, 0x80000001, 0x8000000080008008]

def keccakRho : List Nat := [0, 1, 62, 28, 27, 36, 44, 6, 55, 20, 3, 10, 43, 25, 39, 41, 45, 15, 21, 8, 18, 2, 61, 56, 14]

def keccakRound (a : List Nat) (rc : Nat) : List Nat :=
  let g (x y : Nat) := a.getD (x % 5 + 5 * (y % 5)) 0
  let c (x : Nat) := g x 0 ^^^ g x 1 ^^^ g x 2 ^^^ g x 3 ^^^ g x 4
  let cs := [0, 1, 2, 3, 4].map c
  let d (x : Nat) := cs.getD ((x + 4) % 5) 0 ^^^ rotl 64 (cs.getD ((x + 1) % 5) 0) 1
  let ds := [0, 1, 2, 3, 4].map d
  let b := (List.range 25).map (fun i =>
    let x := i % 5; let y := i / 5
    let x' := (x + 3 * y) % 5; let y' := x
    rotl 64 (g x' y' ^^^ ds.getD x' 0) (keccakRho.getD (x' + 5 * y') 0))
  let h (x y : Nat) := b.getD (x % 5 + 5 * y) 0
  (List.range 25).map (fun i =>
    let x := i % 5; let y := i / 5
    let v := h x y ^^^ ((2 ^ 64 - 1 - h (x + 1) y) &&& h (x + 2) y)
    if i = 0 then v ^^^ rc else v)

def keccakF (a : List Nat) : List Nat := keccakRC.foldl keccakRound a

def keccakAbsorb (rate : Nat) (m : List Nat) : List Nat :=
  (pieces (m.length + 1) rate m).foldl
    (fun a blk =>
      let ws := (pieces 25 8 blk).map leNat
      keccakF (a.zipIdx.map (fun p => p.1 ^^^ ws.getD p.2 0)))
    (List.replicate 25 0)

def keccakSqueeze : Nat → Nat → List Nat → List Nat
  | 0, _, _ => []
  | k + 1, rate, a => ((a.flatMap (leBytes 8)).take rate) ++ keccakSqueeze k rate (keccakF a)

/-- Minimal big-endian bytes of a length, with at least one byte. -/
def minBytes (x : Nat) : List Nat := beBytes (Nat.log2 x / 8 + 1) x

def leftEncode (x : Nat) : List Nat := let b := minBytes x; b.length :: b
def rightEncode (x : Nat) : List Nat := let b := minBytes x; b ++ [b.length]
def encodeString (s : List Nat) : List Nat := leftEncode (8 * s.length) ++ s
def bytepad (x : List Nat) (w : Nat) : List Nat :=
  let z := leftEncode w ++ x
  z ++ List.replicate ((w - z.length % w) % w) 0

/-- KMAC256 of a message with `outLen` output bytes. -/
def kmac256 (key msg custom : List Nat) (outLen : Nat) : List Nat :=
  let m := bytepad (encodeString [0x4B, 0x4D, 0x41, 0x43] ++ encodeString custom) 136 ++
    bytepad (encodeString key) 136 ++ msg ++ rightEncode (8 * outLen) ++ [0x04]
  let z := (136 - m.length % 136) % 136
  let p := m ++ List.replicate z 0
  let p := p.zipIdx.map (fun q => if q.2 + 1 = p.length then q.1 ^^^ 0x80 else q.1)
  (keccakSqueeze (outLen / 136 + 1) 136 (keccakAbsorb 136 p)).take outLen

/-! ## The Toeplitz hash -/

/-- The Toeplitz hash of input bytes under a key: for every set input bit, most significant first, the 32 key bits
that start at that bit. -/
def toeplitz (key input : List Nat) : Nat :=
  let kb := 8 * key.length
  let k := beNat key
  (List.range (8 * input.length)).foldl (fun h i =>
    if (input.getD (i / 8) 0 >>> (7 - i % 8)) % 2 = 1 then h ^^^ ((k >>> (kb - 32 - i)) % 2 ^ 32) else h) 0

/-! ## The LZ4 block format -/

/-- A length continued in bytes of 255: the value and the rest of the input; none at the end of the input. -/
def lz4Len : List Nat → Nat → Option (Nat × List Nat)
  | [], _ => none
  | b :: bs, n => if b = 255 then lz4Len bs (n + 255) else some (n + b, bs)

/-- Bytes copied from `off` back in the output (newest first), one at a time so that a match may overlap itself. -/
def lz4Copy : Nat → Nat → List Nat → List Nat
  | 0, _, out => out
  | n + 1, off, out => lz4Copy n off (out.getD (off - 1) 0 :: out)

/-- Decoding of the sequences of a block: input, output newest first; none for malformed input. The first argument
bounds the number of sequences. -/
def lz4Seqs : Nat → List Nat → List Nat → Option (List Nat)
  | 0, _, _ => none
  | k + 1, inp, out =>
    match inp with
    | [] => none
    | t :: rest =>
      let lit := if t / 16 = 15 then lz4Len rest 15 else some (t / 16, rest)
      match lit with
      | none => none
      | some (n, rest) =>
        if rest.length < n then none
        else
          let out := (rest.take n).reverse ++ out
          match rest.drop n with
          | [] => some out
          | [_] => none
          | o0 :: o1 :: rest =>
            let off := o0 + 256 * o1
            if off = 0 ∨ out.length < off then none
            else
              let ml := if t % 16 = 15 then lz4Len rest 15 else some (t % 16, rest)
              match ml with
              | none => none
              | some (m, rest) => lz4Seqs k rest (lz4Copy (m + 4) off out)

/-- One LZ4 block decoded; none for malformed input. -/
def lz4Decode (inp : List Nat) : Option (List Nat) := (lz4Seqs (inp.length + 1) inp []).map List.reverse

/-- A block of literals only, which decodes to its input. -/
def lz4Literals (m : List Nat) : List Nat :=
  if m.length < 15 then m.length * 16 :: m
  else
    let r := m.length - 15
    240 :: (List.replicate (r / 255) 255 ++ [r % 255] ++ m)

/-- The block LZ4_PACK writes (R146): the free value where it decodes to the input, else the literal block. -/
def lz4Pack (m : List Nat) : List Nat :=
  let b := (Config.lz4 m).map (· % 256)
  if lz4Decode b = some m then b else lz4Literals m

end Sys2Proof.Machine
end

