-- ==== Sys2Proof/Machine/Tables.lean ====
section
/-! DEFINITION. Operations on sparse tables: look up, put, delete. -/
namespace Sys2Proof.Machine
open Sys2Proof

/-- The value under a key. -/
def tget {α : Type} : Tbl α → Nat → Option α
  | [], _ => none
  | (k, v) :: t, n => if k = n then some v else tget t n

def tdel {α : Type} (t : Tbl α) (n : Nat) : Tbl α := t.filter (fun p => p.1 ≠ n)

/-- A value put under a key, the keys kept rising. -/
def tput {α : Type} : Tbl α → Nat → α → Tbl α
  | [], n, v => [(n, v)]
  | (k, w) :: t, n, v =>
    if n < k then (n, v) :: (k, w) :: t
    else if k = n then (n, v) :: t
    else (k, w) :: tput t n v

/-- The value under a key changed, where there is one. -/
def tupd {α : Type} (t : Tbl α) (n : Nat) (f : α → α) : Tbl α :=
  t.map (fun p => if p.1 = n then (p.1, f p.2) else p)

/-- Keys strictly rising. -/
def tSorted {α : Type} (t : Tbl α) : Bool := decide (t.Pairwise (fun a b => a.1 < b.1))

/-- Numbers below `n` not used as keys, lowest first: the first of them, searched up to `n`. -/
def firstFree {α : Type} (t : Tbl α) (n : Nat) : Option Nat := (List.range n).find? (fun i => (tget t i).isNone)

/-- Bit `i` of a number. -/
def bitOf (x i : Nat) : Bool := x / 2 ^ i % 2 = 1

/-- Bits lo to lo + w − 1 of a number. -/
def bitsOf (x lo w : Nat) : Nat := x / 2 ^ lo % 2 ^ w

/-- Field lo to lo + w − 1 of a word. -/
def wf (x : Word) (lo w : Nat) : Nat := x.toNat / 2 ^ lo % 2 ^ w

def b2n (b : Bool) : Nat := if b then 1 else 0

def ceilDiv (a b : Nat) : Nat := (a + b - 1) / b

/-- The number whose set bits are a list of bit numbers. -/
def maskOf (l : List Nat) : Nat := l.foldl (fun a i => a ||| 2 ^ i) 0

/-- Element i of a list replaced. -/
def lset {α : Type} (l : List α) (i : Nat) (v : α) : List α := l.set i v

end Sys2Proof.Machine
end

