-- ==== Sys2Proof/Machine/Ops.lean ====
section
/-! DEFINITION. The named operations on the chip that the commands share: register fields and counters, memory bytes
and poison, attention, faults, the ledger and replies. -/
namespace Sys2Proof.Machine
open Sys2Proof

/-! ## Registers (R4, R9) -/

/-- The value of a field: its reset value where nothing else was stored. -/
def Chip.rg (d : Chip) (f : Fld) : Nat := (tget d.regs f.bit).getD f.rst

/-- A field set; the value is cut to the field's width. -/
def Chip.sr (d : Chip) (f : Fld) (v : Nat) : Chip :=
  let v := v % 2 ^ f.w
  { d with regs := if v = f.rst then tdel d.regs f.bit else tput d.regs f.bit v }

def Chip.flag (d : Chip) (f : Fld) : Bool := d.rg f = 1

/-- A field changed by a function of its value. -/
def Chip.mr (d : Chip) (f : Fld) (g : Nat → Nat) : Chip := d.sr f (g (d.rg f))

/-- Bit `i` of a field set or cleared. -/
def Chip.setBit (d : Chip) (f : Fld) (i : Nat) (b : Bool) : Chip :=
  d.mr f (fun v => if bitOf v i = b then v else if b then v + 2 ^ i else v - 2 ^ i)

def Chip.tick (d : Chip) : Nat := d.rg Reg.TCK_NUMBER.NUMBER

/-- Frame cycles of a frame (R71). -/
def Chip.F (d : Chip) : Nat := d.rg Reg.TCK_PERIOD.PERIOD * 500

/-- A step of the tick boundary at its frame cycle (R72): void where that cycle of this frame has passed. -/
def Chip.atCycle (d : Chip) (c : Nat) (f : Chip → Chip) : Chip :=
  if c ≤ d.tck.cycle then d else f { d with tck := { d.tck with cycle := c } }

/-- A free value taken: the counter it is read at, and the counter advanced. -/
def Chip.takeFree (d : Chip) : Chip := { d with free := d.free + 1 }

/-! ## Attention (R50 to R52) -/

def Level.code : Level → Nat
  | .quiet => 0 | .note => 1 | .ask => 2 | .degraded => 3 | .halting => 4

/-- The highest level among active conditions; the bits of GLB_ATTN_NOTE are conditions of level NOTE. -/
def Chip.attnLevel (d : Chip) : Nat :=
  (d.attn.map (·.level.code)).foldl max (if d.rg Reg.GLB_ATTN_NOTE.NOTE = 0 then 0 else 1)

/-- The classes with an active condition. -/
def Chip.attnActive (d : Chip) : Nat :=
  d.attn.foldl (fun a c => a ||| 2 ^ c.cls) (d.rg Reg.GLB_ATTN_NOTE.NOTE)

/-- The lowest-numbered class among the conditions of the highest level; 0 when QUIET. -/
def Chip.attnClass (d : Chip) : Nat :=
  let l := d.attnLevel
  if l = 0 then 0
  else
    let m := (d.attn.filter (fun c => c.level.code = l)).foldl (fun a c => a ||| 2 ^ c.cls)
      (if l = 1 then d.rg Reg.GLB_ATTN_NOTE.NOTE else 0)
    ((List.range 16).find? (fun i => bitOf m i)).getD 0

/-- GLB_ATTN brought up to date, and the functions served since the last rise forgotten when the level rises (R51). -/
def Chip.attnUpdate (d : Chip) : Chip :=
  let old := d.rg Reg.GLB_ATTN.LEVEL
  let d := ((d.sr Reg.GLB_ATTN.LEVEL d.attnLevel).sr Reg.GLB_ATTN.CLASS d.attnClass).sr Reg.GLB_ATTN.ACTIVE d.attnActive
  if d.attnLevel > old then { d with attnServed := [] } else d

/-- A condition becomes active. -/
def Chip.raiseAttn (d : Chip) (why : Attn) (l : Level) (cls : Nat) : Chip :=
  (if d.attn.any (fun c => c.why = why) then d else { d with attn := ⟨why, l, cls⟩ :: d.attn }).attnUpdate

/-- A condition ends. -/
def Chip.endAttn (d : Chip) (why : Attn) : Chip :=
  { d with attn := d.attn.filter (fun c => c.why ≠ why) }.attnUpdate

/-- A NOTE condition of a class (R52). -/
def Chip.note (d : Chip) (cls : Nat) : Chip := (d.setBit Reg.GLB_ATTN_NOTE.NOTE cls true).attnUpdate

/-! Classes of attention. -/
def clsCompute : Nat := 1
def clsMemory : Nat := 2
def clsLinks : Nat := 3
def clsHost : Nat := 4
def clsSecurity : Nat := 5
def clsObs : Nat := 6
def clsPower : Nat := 7
def clsLedger : Nat := 8
def clsFirmware : Nat := 9
def clsFaults : Nat := 10

/-! ## Armature cores: interrupt pending bits (R343) -/

def Chip.core (d : Chip) (n : Nat) : ArmCore := (tget d.arm n).getD {}

def Chip.setCore (d : Chip) (n : Nat) (c : ArmCore) : Chip := { d with arm := tput d.arm n c }

def setBitN (x i : Nat) : Nat := if bitOf x i then x else x + 2 ^ i

def clrBitN (x i : Nat) : Nat := if bitOf x i then x - 2 ^ i else x

/-- IPEND bit `b` of core `n` set. -/
def Chip.pend (d : Chip) (n b : Nat) : Chip :=
  let c := d.core n
  d.setCore n { c with ipend := setBitN c.ipend b }

/-! ## Block agents (R18, R19, R625) -/

def blockIdx : Block → Nat
  | .glb => 0 | .hif => 1 | .flt => 2 | .pcr => 3 | .tck => 4 | .wkc => 5 | .col => 6 | .kva => 7 | .mem => 8
  | .amt => 9 | .lnk => 10 | .dvt => 11 | .pkt => 12 | .dma => 13 | .nvs => 14 | .ckp => 15 | .sec => 16 | .obs => 17
  | .pat => 18

def wcAgent (n : Nat) : Agent := .wc ⟨n % 64, Nat.mod_lt _ (by decide)⟩
def acAgent (n : Nat) : Agent := .ac ⟨n % 16, Nat.mod_lt _ (by decide)⟩

/-- What is kept of an agent. -/
def Chip.agentRec (d : Chip) (a : Agent) : AgentState := ((d.agents.find? (fun p => p.1 = a)).map (·.2)).getD {}

def Chip.setAgentRec (d : Chip) (a : Agent) (x : AgentState) : Chip :=
  { d with agents := (a, x) :: d.agents.filter (fun p => p.1 ≠ a) }

def BlockState.code : BlockState → Nat
  | .running => 0 | .fenced => 1 | .gated => 2 | .resetting => 3

def BlockState.ofCode : Nat → BlockState
  | 0 => .running | 1 => .fenced | 2 => .gated | _ => .resetting

/-- The state an agent reports. A work core's state lives in WKC_STATE, an Armature core's in AMT_CORE_STATE. -/
def Chip.agentSt (d : Chip) (a : Agent) : BlockState :=
  match a with
  | .block _ => (d.agentRec a).st
  | .wc n => .ofCode (d.rg (Reg.WKC_STATE.STATE n))
  | .ac n =>
    match d.rg (Reg.AMT_CORE_STATE.STATE n) with
    | 2 => .fenced | 3 => .resetting | 6 => .gated | _ => .running

def Chip.setAgentSt (d : Chip) (a : Agent) (st : BlockState) : Chip :=
  match a with
  | .block _ => d.setAgentRec a { d.agentRec a with st := st }
  | .wc n =>
    let d := d.sr (Reg.WKC_STATE.STATE n) st.code
    d.setBit Reg.WKC_FENCED.MASK n (decide (st = .fenced) || (decide (st = .gated) && bitOf (d.rg Reg.WKC_FENCED.MASK) n))
  | .ac n =>
    d.sr (Reg.AMT_CORE_STATE.STATE n) (match st with | .running => 0 | .fenced => 2 | .gated => 6 | .resetting => 3)

/-- The blocks whose work stops in the safe state (R629, R630): no item is accepted or committed, no DMA or host request is made, and no
write leaves the device. -/
def safeStops : Block → Bool
  | .hif | .tck | .wkc | .col | .kva | .mem | .dvt | .pkt | .dma | .nvs | .ckp => true
  | .flt | .pcr | .glb | .lnk | .amt | .sec | .obs | .pat => false

/-- Whether a block does its work. -/
def Chip.running (d : Chip) (b : Block) : Bool := d.agentSt (.block b) = .running && !(d.flag Reg.FLT_SAFE.SAFE && safeStops b)

/-- A block resets: it stays FENCED, and a work core's self test must run again (R163, R164). -/
def Chip.resetAgent (d : Chip) (a : Agent) : Chip :=
  let d := (d.setAgentSt a .fenced)
  let d := d.setAgentRec a { d.agentRec a with fencing := false, resetAfter := false, resetDone := true }
  match a with
  | .wc n => d.sr (Reg.WKC_STATE.SELFTEST n) 0
  | _ => d

/-- A fence begins: no new work is admitted (R19 step 1). -/
def Chip.beginFence (d : Chip) (a : Agent) (thenReset : Bool) : Chip :=
  d.setAgentRec a { d.agentRec a with fencing := true, resetAfter := thenReset || (d.agentRec a).resetAfter, resetDone := false }

/-- BLOCK_RESET of R619 under R625: the block is fenced first, or reset where it stands fenced and not yet reset. -/
def Chip.blockReset (d : Chip) (a : Agent) : Chip :=
  match d.agentSt a with
  | .running => d.beginFence a true
  | .fenced => if (d.agentRec a).resetDone then d else d.resetAgent a
  | .gated => d
  | .resetting => d

/-- What an agent last answered AC0 (R18). -/
def Chip.answered (d : Chip) (a : Agent) (ok : Bool) : Chip := { d with answer := some ⟨a, ok, d.agentSt a, [], []⟩ }

/-! ## Patina (R675, R676) -/

/-- A count of the working copy, at its offset in the summary body, one step on; w is its width in bits. -/
def Chip.patCount (d : Chip) (off w : Nat) (n : Nat := 1) : Chip :=
  { d with pat := { d.pat with work := tput d.pat.work off (min ((tget d.pat.work off).getD 0 + n) (2 ^ w - 1)) } }

/-- Bit b of a field of the working copy set. -/
def Chip.patSet (d : Chip) (off b : Nat) : Chip :=
  { d with pat := { d.pat with work := tput d.pat.work off (setBitN ((tget d.pat.work off).getD 0) b) } }

/-- A byte of the summary body. -/
def summaryByte (t : Tbl Nat) (o : Nat) : Nat :=
  t.foldl (fun (a : Nat) p => if p.1 ≤ o then a + p.2 / 256 ^ (o - p.1) % 256 else a) 0 % 256

/-! ## The fault hub (R617 to R629) -/

/-- The agent of a source's block (R617). -/
def agentOfSource (s : Nat) : Agent :=
  if h : s < 512 then .wc ⟨s / 8, by omega⟩
  else if h : s < 640 then .ac ⟨(s - 512) / 8, by omega⟩
  else .block (
    if s < 652 then .tck else if s < 660 then .col else if s < 668 then .kva else if s < 684 then .mem
    else if s < 692 then .lnk else if s < 700 then .dvt else if s < 708 then .pkt else if s < 724 then .hif
    else if s < 728 then .dma else if s < 732 then .nvs else if s < 740 then .ckp else if s < 748 then .sec
    else if s < 756 then .pcr else if s < 760 then .glb else if s < 764 then .obs else if s < 766 then .pat else .flt)

/-- INTERRUPT of R619: bit 62 of AMT_MSG of AC0, raising MESSAGE (R361). -/
def Chip.hubInterrupt (d : Chip) : Chip := (d.setBit (Reg.AMT_MSG.BITS 0) 62 true).pend 0 3

/-- NMI of R622: bit 63 of AMT_MSG of AC0 and bit 4 of its IPEND. -/
def Chip.hubNmi (d : Chip) : Chip := (d.setBit (Reg.AMT_MSG.BITS 0) 63 true).pend 0 4

/-- Entry to the safe state (R629, R630): FAULT_N, the bypass closed, ATTN HALTING, the cause kept. -/
def Chip.enterSafe (d : Chip) (cause : Nat) (boot : Bool) : Chip :=
  let d := ((d.sr Reg.FLT_SAFE.SAFE 1).sr Reg.FLT_SAFE.CAUSE cause).sr Reg.FLT_SAFE.BOOT (b2n boot)
  let d := { d with hub := { d.hub with faultN := true } }.patCount 0x14 32
  let d := (d.sr Reg.TCK_STATUS.BYPASS 1).sr Reg.TCK_STATUS.STATE 0
  d.raiseAttn .safe .halting clsFaults

/-- A reaction carried out (R619). -/
def Chip.react (d : Chip) (source r : Nat) : Chip :=
  match r with
  | 0 => d.hubInterrupt
  | 1 => d.hubNmi
  | 2 => ((d.blockReset (agentOfSource source)).hubInterrupt).note clsFaults
  | 3 => { (d.raiseAttn (.faultReaction source) .halting clsFaults) with hub := { d.hub with chipReset := true } }
  | 4 =>
    let d := { d with hub := { d.hub with faultN := true } }.patCount 0x10 32
    (d.raiseAttn (.faultReaction source) .halting clsFaults).hubNmi
  | 5 => d.enterSafe source false
  | _ => d

/-- A history entry at index FLT_HIST_HEAD mod 32 (R624). -/
def Chip.history (d : Chip) (source detail reaction : Nat) (graceEnd handled held severe injected safe : Bool) : Chip :=
  let e := d.rg Reg.FLT_HIST_HEAD.HEAD % 32
  let d := (d.sr (Reg.FLT_HIST.TICK e) d.tick).sr (Reg.FLT_HIST.REACTION e) reaction
  let d := (d.sr (Reg.FLT_HIST.CYCLE e) d.tck.cycle).sr (Reg.FLT_HIST.DETAIL e) detail
  let d := (d.sr (Reg.FLT_HIST.GRACE_END e) (b2n graceEnd)).sr (Reg.FLT_HIST.HANDLED e) (b2n handled)
  let d := (d.sr (Reg.FLT_HIST.HELD e) (b2n held)).sr (Reg.FLT_HIST.SEVERE e) (b2n severe)
  let d := (d.sr (Reg.FLT_HIST.INJECTED e) (b2n injected)).sr (Reg.FLT_HIST.SAFE e) (b2n safe)
  (d.sr (Reg.FLT_HIST.SOURCE e) source).mr Reg.FLT_HIST_HEAD.HEAD (· + 1)

/-- A counter at its maximum marked saturated, once (R662), without its fault event. -/
def Chip.satMark (d : Chip) (f : Fld) : Chip :=
  let off := f.bit % fnStride / 8
  let d := { d with satCtrs := f.bit :: d.satCtrs }
  let d := d.setBit Reg.OBS_SAT_BLOCKS.BLOCKS (off / 0x100000) true
  (d.sr (Reg.OBS_SAT_LOG.OFFSET (d.rg Reg.OBS_SAT_HEAD.HEAD % 64)) off).mr Reg.OBS_SAT_HEAD.HEAD (· + 1)

/-- A counter one step on, saturating; the event that first finds it saturated is marked (R659). -/
def Chip.bump (d : Chip) (f : Fld) (n : Nat := 1) : Chip :=
  let v := d.rg f
  if v = 2 ^ f.w - 1 then (if d.satCtrs.contains f.bit then d else d.satMark f)
  else d.sr f (min (v + n) (2 ^ f.w - 1))

/-- The window count of R621: whether the source is severe after the event. -/
def Chip.window (d : Chip) (s : Nat) : Chip :=
  let n := d.rg (Reg.FLT_SRC_CFG.N s)
  if n = 0 then d
  else
    let ws := d.rg (Reg.FLT_SRC_STATE.WSTART s)
    let start := d.rg (Reg.FLT_SRC_STATE.COUNT s) = 0 ∨ (d.tick - ws) % 2 ^ 32 ≥ d.rg (Reg.FLT_SRC_CFG.W s)
    let d := if start then (d.sr (Reg.FLT_SRC_STATE.WSTART s) d.tick).sr (Reg.FLT_SRC_STATE.COUNT s) 1
      else d.mr (Reg.FLT_SRC_STATE.COUNT s) (fun c => min (c + 1) 255)
    if d.rg (Reg.FLT_SRC_STATE.COUNT s) ≥ n then d.sr (Reg.FLT_SRC_STATE.SEVERE s) 1 else d

/-- Whether a reaction is held in the hub's mode (R628). -/
def Chip.holds (d : Chip) (s r : Nat) : Bool :=
  d.rg Reg.FLT_MODE.MODE ≠ 1 && (r = 2 || r = 3 || r = 4) && d.rg (Reg.FLT_SRC_CFG.FIXED s) = 0 &&
  (d.hub.held.length < 16 || d.hub.held.any (fun h => h.source = s))

def Chip.syncHeld (d : Chip) : Chip := d.sr Reg.FLT_MODE.HELD (min d.hub.held.length 15)

/-- A reaction held, or the held one raised (R628). -/
def Chip.hold (d : Chip) (s r detail : Nat) (inj : Bool) : Chip :=
  let d :=
    if d.hub.held.any (fun h => h.source = s) then
      { d with hub := { d.hub with held := d.hub.held.map (fun (h : HeldReaction) =>
        if h.source = s then { h with reaction := max h.reaction r } else h) } }
    else { d with hub := { d.hub with held := d.hub.held ++ [(⟨s, r, detail, inj, d.tick⟩ : HeldReaction)] } }
  ((d.sr (Reg.FLT_SRC_STATE.HELD s) 1).hubNmi).syncHeld

/-- An event of a source (R620). `d.hub.inReset` marks a warm chip reset, which draws no reaction (R625). -/
def Chip.raiseCore (d : Chip) (s detail : Nat) (inj : Bool) : Chip :=
  let d := (d.sr (Reg.FLT_SRC_STATE.ACTIVE s) 1).bump (Reg.FLT_SRC_EVENTS.COUNT s)
  let d := d.window s
  let d := if d.rg Reg.OBS_TRACE_TRIG.SRC = 2 ∧ d.rg Reg.OBS_TRACE_TRIG.FAULT = s ∧ d.rg Reg.OBS_TRACE_STATE.STATE = 1 then
      { d with trc := { d.trc with due := true } } else d
  let severe := d.rg (Reg.FLT_SRC_STATE.SEVERE s) = 1
  let r := if severe then d.rg (Reg.FLT_SRC_CFG.SEV_REACT s) else d.rg (Reg.FLT_SRC_CFG.REACT s)
  if d.hub.inReset then d.history s detail 6 false false false severe inj false
  else if d.holds s r then (d.history s detail 6 false false true severe inj false).hold s r detail inj
  else (d.history s detail r false false false severe inj (r = 5)).react s r

/-- A counter counted (R659 to R662). -/
def Chip.count (d : Chip) (f : Fld) (n : Nat := 1) : Chip :=
  let k := d.satCtrs.length
  let d := d.bump f n
  if d.satCtrs.length > k then
    (d.bump (Reg.OBS_COUNT.COUNT 8)).raiseCore Src.OBS_COUNTER_SAT (f.bit % fnStride / 8 / 0x100000) false
  else d

/-- A counter counted for each of n events: one that passes its maximum meets it there, and is marked (R659). -/
def Chip.countEach (d : Chip) (f : Fld) (n : Nat) : Chip :=
  if n = 0 then d else if 2 ^ f.w - 1 < d.rg f + n then (d.count f n).count f else d.count f n

/-- A wake event (R653, R654): it reverses an entry that has not gated the clocks, or starts the exit to A0. -/
def Chip.wake (d : Chip) : Chip :=
  if d.pwr.entering ≠ 0 then { d with pwr := { d.pwr with entering := 0 } }.count (Reg.PCR_COUNT.COUNT 4)
  else if d.rg Reg.PCR_STATE.POWER ≠ 0 ∧ !d.pwr.exiting then
    { d with pwr := { d.pwr with exiting := true } }.count (Reg.PCR_COUNT.COUNT 3)
  else d

/-- An event of a source, with the saturation of its event count reported (R662); it is a wake event. -/
def Chip.fault (d : Chip) (s : Nat) (detail : Nat := 0) (inj : Bool := false) : Chip :=
  let n := d.satCtrs.length
  let d := d.wake.raiseCore s detail inj
  if d.satCtrs.length > n then d.raiseCore Src.OBS_COUNTER_SAT 2 false else d

/-! ## Patina's event records (R675, R678) -/

/-- An event record: written at once, or held in the working copy while PAT is FENCED (R678). -/
def Chip.patEvent (d : Chip) (type : Nat) (body : List Nat) : Chip :=
  let r : PatRec := ⟨type, d.pat.nextSeq, d.tick, body⟩
  if d.running .pat then
    ({ d with pat := { d.pat with nextSeq := d.pat.nextSeq + 1, log := d.pat.log ++ [r] } }.sr Reg.PAT_SEQ.SEQ d.pat.nextSeq).count
      (Reg.PAT_COUNT.COUNT 0)
  else { d with pat := { d.pat with held := d.pat.held ++ [r] } }

end Sys2Proof.Machine
end

