-- ==== Sys2Proof/Machine/LedgerView.lean ====
section
/-! DEFINITION. The ledger as the Plinth shows it: the 32-byte entries and 64-byte bodies of the two copies (R22 to R25). The ledger unit keeps
the items; these bytes are read out of what it keeps, so that each copy in service always holds each entry and body complete, and a line read
bad in one copy reads as the other copy has it. -/
namespace Sys2Proof.Machine
open Sys2Proof

def Domain.kind : Domain → Nat
  | .ring _ => 1 | .plan _ => 2 | .conn _ => 3 | .dma _ => 4 | .nvme _ => 5 | .slot _ => 6 | .core _ => 7 | .job _ => 8

def Domain.id : Domain → Nat
  | .ring n => n | .plan n => n | .conn n => n | .dma n => n | .nvme n => n | .slot n => n | .core n => n | .job n => n

def ItemState.code : ItemState → Nat
  | .accepted => 1 | .running => 2 | .committed => 3 | .withdrawn => 4


/-- Bits 223:0 of a ledger entry, as 28 bytes, and the CHECK over them (R24). -/
def entryBytes (i : Item) : List Nat :=
  let body := leBytes 8 i.seq ++ [i.state.code + i.domain.kind * 16] ++ leBytes 3 i.domain.id ++ leBytes 4 i.tag ++
    [i.owner, b2n i.replied + b2n i.redo * 2 + b2n i.replayed * 4] ++ leBytes 2 i.plan ++ leBytes 4 i.acceptTick ++
    leBytes 4 i.endTick
  body ++ leBytes 4 (crc32c body)

def descWords (x : Desc) : List Nat :=
  [x.w0.toNat, x.w1.toNat, x.w2.toNat, x.w3.toNat, x.w4.toNat, x.w5.toNat, x.w6.toNat, x.w7.toNat]

def descBytes (x : Desc) : List Nat := (descWords x).flatMap (leBytes 8)

/-- Whether an address lies in the ledger regions of a Plinth die. -/
def isLedger (a : Nat) : Bool := a < 0x8000_0000 && 0x3400_0000 ≤ a % 0x4000_0000

/-- A byte of the ledger regions. A FREE slot reads as zeros, and so does a copy that is out of service (DESIGN CHOICE, log entry 70: the spec
gives neither). -/
def Chip.ledgerByte (d : Chip) (a : Nat) : Nat :=
  let o := a % 0x4000_0000
  let slot := if o < 0x3800_0000 then (o - 0x3400_0000) / 32 else (o - 0x3800_0000) / 64
  if !bitOf (d.rg Reg.GLB_LEDGER_STATE.COPIES) (a / 0x4000_0000) then 0
  else match d.led.items.find? (fun i => i.slot = slot) with
    | none => 0
    | some i => if o < 0x3800_0000 then (entryBytes i).getD (o % 32) 0 else (descBytes i.body).getD (o % 64) 0

/-- Whether an address lies in the tag array or the encrypted copies of the mirror area, once a pass has written them (R47). -/
def Chip.isMirrored (d : Chip) (a : Nat) : Bool :=
  match d.led.mirror with
  | some m => m.base + 0x1_0000 ≤ a && a < m.base + 0x0C10_0000
  | none => false

/-- A byte of the ciphertext or of the tags there: R47 states neither the IV of a record nor its associated data, so the bytes are free (log
entry 72). What they decrypt to is kept in `led.mirror`. -/
def Chip.mirrorByte (d : Chip) (a : Nat) : Nat :=
  match d.led.mirror with
  | some m => (Config.randomByte m.draw (a - m.base)).toNat
  | none => 0

end Sys2Proof.Machine
end

