-- ==== Sys2Proof/Machine/Meter.lean ====
section
/-! DEFINITION. The meters of R88: what each plan has used of the four measures in the present frame, and whether it has spent a budget. -/
namespace Sys2Proof.Machine
open Sys2Proof

def Chip.updPlan (d : Chip) (id : Nat) (f : Plan → Plan) : Chip :=
  { d with ldr := { d.ldr with plans := d.ldr.plans.map (fun p => if p.id = id then f p else p) } }

def Chip.plan (d : Chip) (id : Nat) : Option Plan := d.ldr.plans.find? (fun p => p.id = id)

/-- Amounts by key added. -/
def tadd (t u : Tbl Nat) : Tbl Nat := u.foldl (fun (t : Tbl Nat) p => tput t p.1 ((tget t p.1).getD 0 + p.2)) t

def PlanUse.add (a b : PlanUse) : PlanUse :=
  { wc := a.wc + b.wc, plinth := a.plinth + b.plinth, arm := a.arm + b.arm, egress := tadd a.egress b.egress, ingress := tadd a.ingress b.ingress }

/-- Whether a use has reached its budget: something has been used, and no less than the budget. -/
def reached (use budget : Nat) : Bool := use ≠ 0 && decide (budget ≤ use)

/-- Whether any metered use has reached its budget. PLINTH_BYTES leaves ledger traffic out (R74), and so does the meter. -/
def PlanUse.spent (u : PlanUse) (h : PlanHeader) : Bool :=
  reached u.wc h.wcCycles || reached u.plinth h.plinthBytes || reached u.arm h.armInstr ||
  u.egress.any (fun p => reached p.2 (h.egress.getD p.1 0)) || u.ingress.any (fun p => reached p.2 (h.ingress.getD p.1 0))

def Chip.planUse (d : Chip) (p : Nat) : PlanUse := (tget d.ldr.meters p).getD {}

/-- Whether a plan's remaining work waits until the next tick. -/
def Chip.spent (d : Chip) (p : Nat) : Bool := (d.plan p).any (fun x => (d.planUse p).spent x.hdr)

/-- What a use has beyond its budget: work of a run that is charged whole when it starts, and that is left for the frames to come. Nothing is
left of a measure that a plan declares none of (DESIGN CHOICE, log entry 75: it would wait for ever). -/
def beyond (use budget : Nat) : Nat := if budget = 0 then 0 else use - budget

def PlanUse.left (u : PlanUse) (h : PlanHeader) : PlanUse :=
  { wc := beyond u.wc h.wcCycles, plinth := beyond u.plinth h.plinthBytes, arm := beyond u.arm h.armInstr
    egress := u.egress.map (fun p => (p.1, beyond p.2 (h.egress.getD p.1 0)))
    ingress := u.ingress.map (fun p => (p.1, beyond p.2 (h.ingress.getD p.1 0))) }

def PlanUse.any (u : PlanUse) : Bool :=
  u.wc ≠ 0 || u.plinth ≠ 0 || u.arm ≠ 0 || u.egress.any (fun p => p.2 ≠ 0) || u.ingress.any (fun p => p.2 ≠ 0)

/-- Whether a plan's runs have work left over for the next frame: none of them is finished yet. -/
def Chip.over (d : Chip) (p : Nat) : Bool := (d.plan p).any (fun x => ((d.planUse p).left x.hdr).any)

/-- A use charged to a plan; one that reaches a budget makes the frame an overrun of the plan. -/
def Chip.charge (d : Chip) (p : Nat) (u : PlanUse) : Chip :=
  match d.plan p with
  | none => d
  | some x =>
    let m := (d.planUse p).add u
    let d : Chip := { d with ldr := { d.ldr with meters := tput d.ldr.meters p m } }
    if m.spent x.hdr then d.updPlan p (fun q => { q with overran := true }) else d

/-- A use that no budget holds back (R563): what exceeds a budget marks the frame and is left out of the next one. -/
def Chip.chargeOver (d : Chip) (p : Nat) (u : PlanUse) : Chip :=
  match d.plan p with
  | none => d
  | some x =>
    let c := d.planUse p
    let m := c.add u
    let cap (had use budget : Nat) : Nat := max had (min use budget)
    let ports (had use : Tbl Nat) (budget : List Nat) : Tbl Nat :=
      use.map (fun q => (q.1, cap ((tget had q.1).getD 0) q.2 (budget.getD q.1 0)))
    let kept : PlanUse :=
      { wc := cap c.wc m.wc x.hdr.wcCycles, plinth := cap c.plinth m.plinth x.hdr.plinthBytes, arm := cap c.arm m.arm x.hdr.armInstr
        egress := ports c.egress m.egress x.hdr.egress, ingress := ports c.ingress m.ingress x.hdr.ingress }
    let d : Chip := { d with ldr := { d.ldr with meters := tput d.ldr.meters p kept } }
    if m.spent x.hdr then d.updPlan p (fun q => { q with overran := true }) else d

/-- The meters begun anew at a tick: what a frame left over is charged to the next one (R89). -/
def Chip.nextMeters (d : Chip) : Chip :=
  let old := d.ldr.meters
  d.ldr.plans.foldl (fun (d : Chip) p =>
    let u := ((tget old p.id).getD {}).left p.hdr
    if u.any then d.charge p.id u else d) { d with ldr := { d.ldr with meters := [] } }

end Sys2Proof.Machine
end

