-- ==== Sys2Proof/Machine/MemOps.lean ====
section
/-! DEFINITION. Device memory (R257 to R289): the address map, reads with poison, writes through the merge buffers,
translation of the paged range, and the pools. -/
namespace Sys2Proof.Machine
open Sys2Proof

/-! ## The address map (R257, R259, R275) -/

def isPlinth (a : Nat) : Bool := a < 0x8000_0000
def isSram (a : Nat) : Bool := 0x1_0000_0000 ≤ a && a ≤ 0x1_08FF_FFFF
def isNear (a : Nat) : Bool := 0x10_0000_0000 ≤ a && a ≤ 0x27_3FFF_FFFF
def isQuarry (a : Nat) : Bool := 0x100_0000_0000 ≤ a && a < 0x300_0000_0000
def isPaged (a : Nat) : Bool := 0x300_0000_0000 ≤ a && a < 0x400_0000_0000
def isAccel (a : Nat) : Bool := 0x8000_0000_0000 ≤ a && a < 0x1_8000_0000_0000
def isHostWin (a : Nat) : Bool := 0x2_0000_0000_0000 ≤ a && a < 0x3_0000_0000_0000
def isMmio (a : Nat) : Bool := 0x2_0000_0000 ≤ a && a < 0x3_0000_0000
def isShared (a : Nat) : Bool := 0x1_0400_0000 ≤ a && a ≤ 0x1_04FF_FFFF
def isLocal (a : Nat) : Bool := 0x1_0500_0000 ≤ a && a ≤ 0x1_053F_FFFF
def isStaging (a : Nat) : Bool := 0x1_0800_0000 ≤ a && a ≤ 0x1_08FF_FFFF

/-- Device of a Quarry address. -/
def quarryDev (a : Nat) : Nat := (a - 0x100_0000_0000) / 0x40_0000_0000

/-- Channel of a near-tier address (R279). -/
def nearChan (a : Nat) : Nat := (a - 0x10_0000_0000) / 0x1_0000 % 24

/-- Global bank of a Plinth address: 0 to 255 on P0, 256 to 511 on P1 (R258). -/
def plinthBank (a : Nat) : Nat := a / 0x4000_0000 * 256 + a / 256 % 256

/-- The mapped range an address lies in, as first and last address; a Plinth die and a device window are one range
each. Parts the map marks not accessible have none; the MMIO window has its two BAR0 views. -/
def Chip.mapped (d : Chip) (a : Nat) : Option (Nat × Nat) :=
  if a < 0x4000_0000 then some (0, 0x3FFF_FFFF)
  else if a < 0x8000_0000 then some (0x4000_0000, 0x7FFF_FFFF)
  else if isMmio a then (if a < 0x2_0800_0000 then some (0x2_0000_0000, 0x2_07FF_FFFF) else none)
  else if isShared a then some (0x1_0400_0000, 0x1_04FF_FFFF)
  else if isLocal a then some (0x1_0500_0000, 0x1_053F_FFFF)
  else if isStaging a then some (0x1_0800_0000, 0x1_08FF_FFFF)
  else if isNear a then some (0x10_0000_0000, 0x27_3FFF_FFFF)
  else if isQuarry a then
    let k := quarryDev a
    let base := 0x100_0000_0000 + k * 0x40_0000_0000
    let cap := d.rg (Reg.MEM_QUARRY_CAP.UNITS k) * 0x1000_0000
    if a < base + cap then some (base, base + cap - 1) else none
  else if isPaged a then some (0x300_0000_0000, 0x3FF_FFFF_FFFF)
  else if isAccel a then
    let b := 0x8000_0000_0000 + (a - 0x8000_0000_0000) / 0x2000_0000_0000 * 0x2000_0000_0000
    some (b, b + 0x1FFF_FFFF_FFFF)
  else if isHostWin a then
    (if a < 0x2_8000_0000_0000 then some (0x2_0000_0000_0000, 0x2_7FFF_FFFF_FFFF)
     else some (0x2_8000_0000_0000, 0x2_FFFF_FFFF_FFFF))
  else none

/-- Whether [a, a + n) lies wholly within one mapped range (R130); an empty range asks for its start only. -/
def Chip.inOne (d : Chip) (a n : Nat) : Bool :=
  match d.mapped a with
  | none => false
  | some (_, hi) => a + n ≤ hi + 1

def overlaps (a n b m : Nat) : Bool := a < b + m && b < a + n && n != 0 && m != 0

/-- The ledger regions (R22). -/
def inLedger (a n : Nat) : Bool :=
  overlaps a n 0x3400_0000 0xC00_0000 || overlaps a n 0x7400_0000 0xC00_0000

/-- The redo areas (R153). -/
def inRedo (a n : Nat) : Bool := overlaps a n 0x3000_0000 0x400_0000

/-- The system regions (R259). -/
def inSystem (a n : Nat) : Bool :=
  overlaps a n 0x2C00_0000 0x400_0000 || overlaps a n 0x6C00_0000 0x800_0000

/-- The near-tier structures that only the device writes: both block-map versions (R217), the page table (R288), the
context array (R409), the image store (R353) and both exact-match copies (R445). -/
def Chip.deviceNear (d : Chip) (a n : Nat) : Bool :=
  overlaps a n (d.rg Reg.KVA_MAP_BASE.BASE) 0x5000_0000 || overlaps a n (d.rg Reg.MEM_PT_BASE.BASE) 0x800_0000 ||
  overlaps a n (d.rg Reg.DVT_CTX_BASE.BASE) 0x1000_0000 || overlaps a n 0x10_5800_0000 0x600_0000 ||
  overlaps a n (d.rg Reg.PKT_EM_BASE.BASE) 0x8000_0000

/-- Regions of the Plinth that the device owns (R259). -/
def deviceOwned (a n : Nat) : Bool := inLedger a n || inRedo a n || inSystem a n

/-- A read range a work item may name (R130): the MMIO window is reached by Armature cores alone (R704), as are their local memories
(R275). -/
def Chip.rangeOk (d : Chip) (a n : Nat) : Bool :=
  d.inOne a n && !isMmio a && !isLocal a && !inLedger a (max n 1) && !inRedo a (max n 1)

/-- A range a work item may write: no device-owned region either (R259). -/
def Chip.writeOk (d : Chip) (a n : Nat) : Bool :=
  d.rangeOk a n && !inSystem a (max n 1) && !d.deviceNear a (max n 1)

/-- Wholly within one Plinth die or within the usable near tier (R81, R486). -/
def Chip.inDieOrNear (d : Chip) (a n : Nat) : Bool := (isPlinth a || isNear a) && d.inOne a n

/-! ## Poison (R264, R277, R281, R286) -/

/-- Bytes of the poison granule at an address. -/
def granule (a : Nat) : Nat := if isPlinth a then 32 else if isNear a then 128 else 64

def granOf (a : Nat) : Nat := a / granule a * granule a

/-- Whether the store at an address is retired: its bank, channel or CXL device (R269, R283, R287). -/
def Chip.lost (d : Chip) (a : Nat) : Bool :=
  if isPlinth a then d.mu.retired.contains (plinthBank a)
  else if isNear a then bitOf (d.rg Reg.MEM_NEAR_STATE.FAILED) (nearChan a)
  else if isQuarry a then bitOf (d.rg Reg.MEM_QUARRY_STATE.FAILED) (quarryDev a)
  else false

/-- Whether a Plinth word still holds the poison pattern its bank's spare was filled with (R268). -/
def Chip.bankPoison (d : Chip) (a : Nat) : Bool :=
  isPlinth a && (match tget d.mu.poisonBanks (plinthBank a) with | some ws => !ws.contains (granOf a) | none => false)

def Chip.poisonedAt (d : Chip) (a : Nat) : Bool := d.mem.poison.contains (granOf a) || d.lost a || d.bankPoison a

def insNat (x : Nat) : List Nat → List Nat
  | [] => [x]
  | y :: ys => if x < y then x :: y :: ys else if x = y then y :: ys else y :: insNat x ys

def Chip.setPoison (d : Chip) (g : Nat) (p : Bool) : Chip :=
  { d with
    mem := { d.mem with poison := if p then insNat g d.mem.poison else d.mem.poison.filter (· ≠ g) }
    mu := { d.mu with poisonBanks :=
      if p || !isPlinth g then d.mu.poisonBanks else tupd d.mu.poisonBanks (plinthBank g) (insNat g) } }

/-! ## Bytes -/

/-- What a byte that nothing has written reads as (log entry 4). -/
def unwritten : Nat := 0

/-- Memory's canonical form: addresses strictly rising, and no byte listed that equals an unlisted one. -/
def cellsWf (cs : List Host.Cell) : Bool :=
  decide (cs.Pairwise (fun a b => a.1 < b.1)) && cs.all (fun c => c.2 ≠ BitVec.ofNat 8 unwritten)

/-- The byte stored in the array at a physical address. -/
def Chip.arrayByte (d : Chip) (a : Nat) : Nat :=
  match tget d.mem.cells a with
  | some b => b.toNat
  | none => unwritten

/-- A byte written to the array; the byte an unlisted address reads as is not listed. -/
def cellsPut (cs : List Host.Cell) (a : Nat) (b : Nat) : List Host.Cell :=
  let v : BitVec 8 := BitVec.ofNat 8 b
  if v = BitVec.ofNat 8 unwritten then tdel cs a else tput cs a v

def Chip.putByte (d : Chip) (a b : Nat) : Chip := { d with mem := { d.mem with cells := cellsPut d.mem.cells a b } }

def Chip.mergeEntry (d : Chip) (w : Nat) : Option MergeEntry := d.mu.merge.find? (fun e => e.word = w)

/-- The byte a read of a physical address returns: a merge entry's byte over the array's (R262); in the ledger regions and
the encrypted part of the mirror area, what the ledger unit has written there. -/
def Chip.byteAt (d : Chip) (a : Nat) : Nat :=
  if isLedger a then d.ledgerByte a
  else if d.isMirrored a then d.mirrorByte a
  else match (if isPlinth a then d.mergeEntry (a / 32 * 32) else none) with
  | some e => (tget e.bytes (a % 32)).getD (d.arrayByte a)
  | none => d.arrayByte a

/-- A write that reaches the array at a Plinth word carries an armed flip (R270). -/
def Chip.applyFlip (d : Chip) (w : Nat) : Chip :=
  if d.flag Reg.MEM_FLIP_CTRL.ARM ∧ d.rg Reg.MEM_FLIP_ADDR.ADDR * 32 = w then
    let m := d.rg Reg.MEM_FLIP_CTRL.CHECK_MASK
    let n := ((List.range 10).filter (fun i => bitOf m i)).length + d.rg Reg.MEM_FLIP_CTRL.DATA_EN
    let d := (d.sr Reg.MEM_FLIP_CTRL.ARM 0).sr Reg.MEM_FLIP_CTRL.DONE 1
    if n = 0 then d else { d with mu := { d.mu with flips := tput d.mu.flips w n } }
  else d

/-- A whole Plinth word written to the array: fresh check bits, no poison, no earlier error. -/
def Chip.wordWritten (d : Chip) (w : Nat) : Chip :=
  let d := d.setPoison w false
  { d with mu := { d.mu with flips := tdel d.mu.flips w } }.applyFlip w

/-! ## Plinth errors (R263 to R269) -/

def plinthDie (a : Nat) : Nat := if a < 0x4000_0000 then 0 else 1

/-- Spare banks left on a die, and remap entries in use. -/
def sparesFld (die : Nat) : Fld := if die = 0 then Reg.MEM_PLINTH_STATE.P0_SPARES else Reg.MEM_PLINTH_STATE.P1_SPARES
def remapFld (die : Nat) : Fld := if die = 0 then Reg.MEM_PLINTH_STATE.P0_REMAP else Reg.MEM_PLINTH_STATE.P1_REMAP

def Chip.remap (d : Chip) (die : Nat) : List RemapEntry := if die = 0 then d.mu.remap0 else d.mu.remap1

/-- An entry added to a die's remap table, where one is free (R267); the word is then read from its spare. -/
def Chip.addRemap (d : Chip) (source a : Nat) : Chip :=
  let die := plinthDie a
  let w := a % 0x4000_0000 / 32
  if (d.remap die).any (fun e => e.word = w) then d
  else if (d.remap die).length ≥ 32 then
    ((d.count (Reg.MEM_COUNT.COUNT 7)).fault Src.REMAP_FULL a).note clsMemory
  else
    let e : RemapEntry := ⟨source, w⟩
    let d := if die = 0 then { d with mu := { d.mu with remap0 := d.mu.remap0 ++ [e] } }
      else { d with mu := { d.mu with remap1 := d.mu.remap1 ++ [e] } }
    d.sr (remapFld die) (d.remap die).length

/-- The histogram index of the bank that serves an address (R676). -/
def Chip.bankIndex (d : Chip) (a : Nat) : Nat :=
  plinthDie a * 260 + match tget d.mu.spareOf (plinthBank a) with | some k => 256 + k | none => plinthBank a % 256

/-- A single-bit error corrected: counted, and at the third of one word within 2^20 ticks a run-time remap entry (R267). -/
def Chip.plinthCE (d : Chip) (w : Nat) : Chip :=
  let d := ((d.count (Reg.MEM_COUNT.COUNT (plinthDie w))).patCount (0x520 + 4 * d.bankIndex w) 32).fault Src.PLINTH_CE (plinthBank w)
  let seen := ((w, d.tick) :: d.mu.ceSeen).filter (fun p => d.tick - p.2 < 2 ^ 20)
  let n := (seen.filter (fun p => p.1 = w)).length
  if n ≥ 3 then
    let d := { d with mu := { d.mu with ceSeen := seen.filter (fun p => p.1 ≠ w) } }
    (d.addRemap 2 w).patEvent 2 [w]
  else { d with mu := { d.mu with ceSeen := seen } }

/-- Both ledger copies are lost (R48): LEDGER_LOST, and nothing is accepted or committed until the next chip reset. -/
def Chip.ledgerLost (d : Chip) : Chip :=
  if d.led.lost then d
  else
    let d : Chip := { d with led := { d.led with lost := true } }.sr Reg.GLB_LEDGER_STATE.COPIES 0
    (d.sr Reg.GLB_LEDGER_STATE.REBUILD 0).fault Src.LEDGER_LOST

/-- A ledger copy fails (R29): the other carries alone, with a rebuild where the failed lines can be relocated; with no other copy both
are lost. -/
def Chip.copyFail (d : Chip) (die : Nat) (room : Bool) : Chip :=
  let c := d.rg Reg.GLB_LEDGER_STATE.COPIES
  let room := room && !d.mu.retired.any (fun b => b / 256 = die)
  if !bitOf c (1 - die) then d.ledgerLost
  else
    let d := (d.setBit Reg.GLB_LEDGER_STATE.COPIES die false).sr Reg.GLB_LEDGER_STATE.REBUILD (b2n room)
    (if bitOf c die then d.fault Src.LEDGER_COPY_FAIL die else d).raiseAttn .singleCopy .degraded clsLedger

/-- A bank fails (R268, R269): the lowest free spare takes its addresses over, every word poisoned, or it is retired. Every bank
holds lines of its die's ledger copy, which fails with it (R29). -/
def Chip.bankFail (d : Chip) (bank : Nat) : Chip :=
  let die := bank / 256
  let left := d.rg (sparesFld die)
  let d := (d.fault Src.PLINTH_BANK_FAIL bank).raiseAttn (.plinthBank bank) .degraded clsMemory
  let clear (u : MemUnit) : MemUnit :=
    { u with merge := u.merge.filter (fun e => plinthBank e.word ≠ bank), flips := u.flips.filter (fun p => plinthBank p.1 ≠ bank),
             ueSeen := u.ueSeen.filter (fun p => p.1 ≠ bank) }
  let d := d.copyFail die (left ≠ 0)
  if left = 0 then { d with mu := { clear d.mu with retired := insNat bank d.mu.retired } }
  else
    let d := (d.sr (sparesFld die) (left - 1)).patEvent 3 [bank, 4 - left]
    { d with mu := { clear d.mu with spareOf := tput d.mu.spareOf bank (4 - left), filling := insNat bank d.mu.filling,
                                     poisonBanks := tput d.mu.poisonBanks bank [] } }

/-- An uncorrectable word: poisoned and counted; the sixteenth distinct word of a bank within 1,024 ticks fails the bank. -/
def Chip.plinthUE (d : Chip) (w : Nat) : Chip :=
  let d := (((d.setPoison w true).count (Reg.MEM_COUNT.COUNT (2 + plinthDie w))).patCount (0xD40 + 8 * plinthDie w) 64).fault
    Src.PLINTH_UE (plinthBank w)
  let b := plinthBank w
  let seen := ((b, w, d.tick) :: d.mu.ueSeen.filter (fun p => p.2.1 ≠ w)).filter (fun p => d.tick - p.2.2 < 1024)
  let d := { d with mu := { d.mu with ueSeen := seen } }
  if (seen.filter (fun p => p.1 = b)).length ≥ 16 then d.bankFail b else d

/-- Plinth words of a read range with array errors settled: one flipped bit is corrected and written back (R263), two
poison the word (R264); for more, which the code does not promise to detect, the free value decides. -/
def Chip.settle (d : Chip) (a n : Nat) : Chip :=
  (d.mu.flips.filter (fun p => overlaps a n p.1 32)).foldl (fun (d : Chip) p =>
    let d' := { d with mu := { d.mu with flips := tdel d.mu.flips p.1 } }
    let correctable := p.2 = 1 ∨ (3 ≤ p.2 ∧ Config.freeNat d.free % 2 = 0)
    let d' := if 3 ≤ p.2 then d'.takeFree else d'
    if correctable then d'.plinthCE p.1 else d'.plinthUE p.1) d

/-- A merge entry leaves for the array (R261, R265): whole when its mask is full, else by read-modify-write, whose read
finds the word's errors (R263, R264) and which loses the merged bytes in a poisoned word. -/
def Chip.flushMerge (d : Chip) (w : Nat) : Chip :=
  match d.mergeEntry w with
  | none => d
  | some e =>
    let d := { d with mu := { d.mu with merge := d.mu.merge.filter (fun x => x.word ≠ w) } }
    if e.bytes.length = 32 then
      (e.bytes.foldl (fun (d : Chip) (p : Nat × Nat) => d.putByte (w + p.1) p.2) d).wordWritten w
    else
      let d := (d.count (Reg.MEM_COUNT.COUNT 5)).settle w 32
      if d.poisonedAt w then d
      else (e.bytes.foldl (fun (d : Chip) (p : Nat × Nat) => d.putByte (w + p.1) p.2) d).applyFlip w

/-- Bytes entering the merge buffer of their word's bank (R260, R261); the oldest entry leaves for a ninth word. -/
def Chip.mergeWrite (d : Chip) (w : Nat) (bs : List (Nat × Nat)) : Chip :=
  match d.mergeEntry w with
  | some e =>
    let e := { e with bytes := bs.foldl (fun t p => tput t p.1 p.2) e.bytes }
    let d := { d with mu := { d.mu with merge := d.mu.merge.map (fun x => if x.word = w then e else x) } }
    if e.bytes.length = 32 then d.flushMerge w else d
  | none =>
    let bank := d.mu.merge.filter (fun x => plinthBank x.word = plinthBank w)
    let d := if bank.length ≥ 8 then d.flushMerge ((bank.head?.map (·.word)).getD 0) else d
    { d with mu := { d.mu with merge := d.mu.merge ++ [⟨w, bs.foldl (fun t p => tput t p.1 p.2) []⟩] } }

/-- A write to one granule, at offsets of it, of bytes the writer holds clean or poisoned. A partial write leaves a
poisoned granule poisoned (R264, R277, R281); in the Quarry the CXL device decides, and the choice is free (R286). -/
def Chip.writeGran (d : Chip) (g : Nat) (bs : List (Nat × Nat)) (poison : Bool) : Chip :=
  if d.lost g then d.count (Reg.MEM_COUNT.COUNT 12)
  else
    let whole := bs.length = granule g
    if isPlinth g then
      if poison then { (d.setPoison g true) with mu := { d.mu with merge := d.mu.merge.filter (fun x => x.word ≠ g), flips := tdel d.mu.flips g } }
      else if whole then
        let d := { d with mu := { d.mu with merge := d.mu.merge.filter (fun x => x.word ≠ g) } }
        (bs.foldl (fun (d : Chip) (p : Nat × Nat) => d.putByte (g + p.1) p.2) d).wordWritten g
      else d.mergeWrite g bs
    else
      let clears := isQuarry g && Config.freeNat d.free % 2 = 0
      let was := d.mem.poison.contains g && !(clears && !whole && !poison)
      let d := if isQuarry g && d.mem.poison.contains g && !whole then (d.setPoison g was).takeFree else d
      let d := if was && !whole then d else bs.foldl (fun (d : Chip) (p : Nat × Nat) => d.putByte (g + p.1) p.2) d
      if poison then d.setPoison g true else if whole then d.setPoison g false else d

/-- A write of consecutive bytes at a physical address, granule by granule; each byte comes with its poison. -/
def Chip.writePhysAux (d : Chip) : Nat → Nat → List (Nat × Bool) → Chip
  | 0, _, _ => d
  | k + 1, a, bs =>
    if bs.isEmpty then d
    else
      let g := granOf a
      let n := granule a - (a - g)
      let part := bs.take n
      (d.writeGran g (part.zipIdx.map (fun p => (a - g + p.2, p.1.1))) (part.any (·.2))).writePhysAux k (a + n) (bs.drop n)

def Chip.writePhys (d : Chip) (a : Nat) (bs : List (Nat × Bool)) : Chip := d.writePhysAux bs.length a bs

/-! ## Pools (R259, R213, R290) -/

def Chip.pool (d : Chip) (k : Nat) : Pool := (tget d.mu.pools k).getD {}

def Chip.setPool (d : Chip) (k : Nat) (p : Pool) : Chip := { d with mu := { d.mu with pools := tput d.mu.pools k p } }

/-- Units of a pool, over all its extents. -/
def Pool.count (p : Pool) : Nat := p.ext.foldl (fun (n : Nat) e => n + e.2) 0

/-- The address of unit i: the extents follow one another. -/
def Pool.addr (p : Pool) (i : Nat) : Nat :=
  go i p.ext
where
  go (i : Nat) : List (Nat × Nat) → Nat
    | [] => 0
    | (b, n) :: es => if i < n then b + i * p.unit else go (i - n) es

/-- The unit an address lies in. -/
def Pool.index (p : Pool) (a : Nat) : Nat :=
  go 0 p.ext
where
  go (k : Nat) : List (Nat × Nat) → Nat
    | [] => 0
    | (b, n) :: es => if b ≤ a ∧ a < b + n * p.unit then k + (a - b) / max p.unit 1 else go (k + n) es

/-- Whether the pages of an address have left every pool: their channel or CXL device is retired, or was recorded as retired by the last
cold start (R283, R287), or their bank is. -/
def Chip.unitLost (d : Chip) (a : Nat) : Bool :=
  d.lost a || (isNear a && d.mu.leftOut.contains (nearChan a)) || (isQuarry a && d.mu.leftOut.contains (24 + quarryDev a))

/-- Whether units i to i + n − 1 of a pool lie together and are free and usable. -/
def Chip.unitsFree (d : Chip) (p : Pool) (i n : Nat) : Bool :=
  i + n ≤ p.count && (n = 0 || p.addr (i + n - 1) = p.addr i + (n - 1) * p.unit) &&
  (List.range n).all (fun j => !p.used.contains (i + j) && !d.unitLost (p.addr (i + j)))

/-- The lowest n consecutive free units of a pool. -/
def Chip.findUnits (d : Chip) (k n : Nat) : Option Nat :=
  let p := d.pool k
  (List.range p.count).find? (fun i => d.unitsFree p i n)

def Chip.takeUnits (d : Chip) (k i n : Nat) : Chip :=
  let p := d.pool k
  d.setPool k { p with used := (List.range n).map (i + ·) ++ p.used }

def Chip.freeUnits (d : Chip) (k : Nat) (us : List Nat) : Chip :=
  let p := d.pool k
  d.setPool k { p with used := p.used.filter (fun u => !us.contains u) }

def Chip.poolFree (d : Chip) (k : Nat) : Nat :=
  let p := d.pool k
  let gone := d.mu.leftOut ≠ [] || d.mu.retired ≠ [] || d.rg Reg.MEM_NEAR_STATE.FAILED ≠ 0 || d.rg Reg.MEM_QUARRY_STATE.FAILED ≠ 0
  if gone then ((List.range p.count).filter (fun i => d.unitsFree p i 1)).length else p.count - p.used.length

/-- KVA_POOL_FILL brought up to date (R256). -/
def Chip.syncFill (d : Chip) : Chip :=
  (List.range 4).foldl (fun (d : Chip) k =>
    (d.sr (Reg.KVA_POOL_FILL.FREE k) (d.poolFree (3 + k))).sr (Reg.KVA_POOL_FILL.SIZE k) (d.pool (3 + k)).count) d

/-- The address of unit i of a pool. -/
def Chip.unitAddr (d : Chip) (k i : Nat) : Nat := (d.pool k).addr i

def Chip.unitOf (d : Chip) (k a : Nat) : Nat := (d.pool k).index a

/-! ## The paged range (R288, R289) -/

def noPage : PTE := ⟨0, .unmapped, 0, false, false, false, 0⟩

def Chip.pte (d : Chip) (n : Nat) : PTE := (tget d.mu.pt n).getD noPage

def PageState.code : PageState → Nat
  | .unmapped => 0 | .valid => 1 | .migrating => 2 | .poisoned => 3

/-- The 8 bytes of a page-table entry. -/
def pteWord (e : PTE) : Nat :=
  e.tpage + e.state.code * 2 ^ 36 + e.tier * 2 ^ 39 + b2n e.pin * 2 ^ 41 + b2n e.dirty * 2 ^ 42 + b2n e.cow * 2 ^ 43 + e.heat * 2 ^ 44

/-- A page-table entry written, in the near tier too. -/
def Chip.setPte (d : Chip) (n : Nat) (e : PTE) : Chip :=
  let a := d.rg Reg.MEM_PT_BASE.BASE + 8 * n
  let d := (leBytes 8 (pteWord e)).zipIdx.foldl (fun (d : Chip) b => d.putByte (a + b.2) b.1) d
  { d with mu := { d.mu with pt := if e = noPage then tdel d.mu.pt n else tput d.mu.pt n e } }

def pageOf (a : Nat) : Nat := (a - 0x300_0000_0000) / 0x1_0000

/-- The physical address behind an address; none where the page is unmapped. -/
def Chip.xlate (d : Chip) (a : Nat) : Option Nat :=
  if isPaged a then
    let e := d.pte (pageOf a)
    if e.state = .unmapped then none else some (e.tpage * 0x1_0000 + a % 0x1_0000)
  else some a

/-- A paged address whose page is POISONED reads as a failed channel's line. -/
def Chip.pagePoisoned (d : Chip) (a : Nat) : Bool := isPaged a && (d.pte (pageOf a)).state = .poisoned

/-- The bytes of a range with their poison; a byte of an unmapped page is poisoned here, and `unmapped` finds it. -/
def Chip.readRange (d : Chip) (a n : Nat) : List (Nat × Bool) :=
  (List.range n).map (fun i =>
    match d.xlate (a + i) with
    | some p => (d.byteAt p, d.poisonedAt p || d.pagePoisoned (a + i))
    | none => (0, true))

def Chip.bytes (d : Chip) (a n : Nat) : List Nat := (d.readRange a n).map (·.1)

/-- A little-endian number of n bytes. -/
def Chip.num (d : Chip) (a n : Nat) : Nat := leNat (d.bytes a n)

def Chip.anyPoison (d : Chip) (a n : Nat) : Bool := (d.readRange a n).any (·.2)

/-- The bytes of a range as a unit that reads 64-byte lines sees them: a line with a poisoned granule is poisoned whole
(R264). -/
def Chip.lineRead (d : Chip) (a n : Nat) : List (Nat × Bool) :=
  let lines := (List.range (ceilDiv (a % 64 + n) 64)).map (fun k => d.anyPoison (a / 64 * 64 + 64 * k) 64)
  (d.readRange a n).zipIdx.map (fun p => (p.1.1, p.1.2 || lines.getD ((a % 64 + p.2) / 64) false))

/-- Whether a range touches an unmapped page. -/
def Chip.unmapped (d : Chip) (a n : Nat) : Bool :=
  isPaged a && (List.range (pageOf (a + n - 1) + 1 - pageOf a)).any (fun i => (d.pte (pageOf a + i)).state = .unmapped)

/-- The line that holds an address marked poisoned in a memory of the device; a window's lines are the board's. -/
def Chip.poisonLine (d : Chip) (a : Nat) : Chip :=
  match d.xlate a with
  | none => d
  | some p =>
    if isAccel p || isHostWin p then d
    else
      let lo := p / 64 * 64
      let gs := if granule lo < 64 then [lo, lo + 32] else [granOf lo]
      gs.foldl (fun (d : Chip) g => { (d.setPoison g true) with mu := { d.mu with merge := d.mu.merge.filter (fun x => x.word ≠ g) } }) d

/-- A page move queued, or dropped for a full queue or a full pool (R292, R294). -/
def Chip.queuePage (d : Chip) (page tier : Nat) (up : Bool) : Chip :=
  let p := d.pool tier
  if d.mu.moveQ.length ≥ 4096 ∨ (up ∧ p.used.length * 16 > p.count * 15) then d.count (Reg.MEM_COUNT.COUNT 15)
  else { d with mu := { d.mu with moveQ := d.mu.moveQ ++ [⟨page, tier⟩] } }

/-- Accesses added to a page's HEAT, and the promotions for which it reaches the threshold (R243, R245, R292). -/
def Chip.heatPage (d : Chip) (n k : Nat) : Chip :=
  let e := d.pte n
  let h := min 255 (e.heat + k)
  if k = 0 ∨ e.state = .unmapped then d
  else
    let d := d.setPte n { e with heat := h }
    let crosses (f : Fld) : Bool := e.state = .valid && !e.pin && e.heat < d.rg f && d.rg f ≤ h
    let d := if e.tier = 2 ∧ crosses Reg.MEM_MIG_CFG.HOT_NEAR then d.queuePage n 1 true else d
    if e.tier ≠ 0 ∧ crosses Reg.MEM_MIG_CFG.HOT_PLINTH then d.queuePage n 0 true else d

/-- An access counted in the translation cache of 16 Ki entries: a page that is not in it takes an entry, and the entry
that leaves adds its accesses to its page's HEAT (R289, R292). -/
def Chip.xlatTouch (d : Chip) (n k : Nat) : Chip :=
  let d := if (tget d.mu.xlat n).isNone ∧ d.mu.xlat.length ≥ 16384 then
      match d.mu.xlat[Config.freeNat d.free % 16384]? with
      | some v =>
        { d with mu := { d.mu with xlat := tdel d.mu.xlat v.1 } }.takeFree.heatPage v.1 v.2
      | none => d
    else d
  { d with mu := { d.mu with xlat := tput d.mu.xlat n ((tget d.mu.xlat n).getD 0 + k) } }

/-! Pages of checkpoint jobs (R552, R559, R560). -/

/-- The job a page belongs to, with the range and the page within it. -/
def Chip.ckpPage (d : Chip) (n : Nat) : Option (Nat × CkpJob × Nat × Nat) :=
  d.ckp.jobs.findSome? (fun (j : Nat × CkpJob) =>
    ((List.range j.2.ranges.length).zip j.2.ranges).findSome? (fun (r : Nat × CkpRange) =>
      if pageOf r.2.addr ≤ n ∧ n < pageOf r.2.addr + r.2.pages then some (j.1, j.2, r.1, n - pageOf r.2.addr) else none))

/-- The lowest free page of a job's capture buffer. -/
def CkpRun.freeSlot (r : CkpRun) (pages : Nat) : Option Nat :=
  (List.range pages).find? (fun k => !r.caps.any (fun c => c.slot = some k))

/-- The use of one captured page (R563): the cycles of its SHA256 item at 4 bytes a cycle, and its Plinth bytes (log entry 92). -/
def Chip.captureUse (d : Chip) (a : Nat) : PlanUse :=
  { wc := 16384, plinth := if (d.xlate a).any isPlinth then 0x1_0000 else 0 }

/-- A page copied into the capture buffer page `k`. -/
def Chip.ckpCopy (d : Chip) (j : Nat) (x : CkpJob) (r : CkpRun) (n k logical : Nat) : Chip :=
  let a := 0x300_0000_0000 + n * 0x1_0000
  let bs := d.readRange a 0x1_0000
  let poison := bs.any (·.2) || (d.pte n).state = .poisoned
  let base := leNat ((x.raw.drop 48).take 8)
  let d := d.writePhys (base + k * 0x1_0000) (bs.map (fun b => (b.1, b.2)))
  let c : CkpCap := { slot := some k, logical := logical, poison := poison }
  let d : Chip := { d with ckp := { d.ckp with jobs := tput d.ckp.jobs j { x with run := some { r with
    caps := r.caps ++ [c], poison := r.poison || poison } } } }
  (d.count (Reg.CKP_COUNT.COUNT 3))

/-- The page bits after a write to a page of a running checkpoint (R560), with the copy into the capture buffer where one is due; a
write that finds the buffer full is counted (log entry 54). -/
def Chip.cowWrite (d : Chip) (n : Nat) : Chip :=
  let e := d.pte n
  match d.ckpPage n with
  | some (j, x, ri, pi) =>
    match x.run with
    | some r =>
      let cr := d.rg (Reg.CKP_JOB_CURSOR.RANGE j)
      let cp := d.rg (Reg.CKP_JOB_CURSOR.PAGE j)
      if r.asking ∨ r.walked ∨ ri < cr ∨ (ri = cr ∧ pi < cp) then (if e.dirty then d else d.setPte n { e with dirty := true })
      else if e.cow then d
      else if !e.dirty ∧ !r.full then d.setPte n { e with cow := true }
      else
        let logical := (x.ranges.map (fun g => g.logical)).getD ri 0 + pi
        match r.freeSlot (leNat ((x.raw.drop 56).take 4)) with
        | some k =>
          let d := d.chargeOver (leNat ((x.raw.drop 18).take 2)) (d.captureUse (0x300_0000_0000 + n * 0x1_0000))
          ((d.ckpCopy j x r n k logical).count (Reg.CKP_COUNT.COUNT 6)).setPte n { e with dirty := true, cow := true }
        | none => (d.count (Reg.CKP_COUNT.COUNT 7)).setPte n { e with dirty := true, cow := true }
    | none => if e.dirty then d else d.setPte n { e with dirty := true }
  | none => if e.dirty then d else d.setPte n { e with dirty := true }

/-- A first write to a page sets DIRTY (R289), by the rule of the snapshot where a checkpoint runs; its access is counted towards
HEAT (R292). -/
def Chip.touchPage (d : Chip) (a : Nat) (write : Bool) : Chip :=
  if isPaged a then
    let n := pageOf a
    let e := d.pte n
    (if write && e.state ≠ .unmapped then d.cowWrite n else d).xlatTouch n 1
  else d

/-- The parts of a range that lie in one page each; outside the paged range, the range. -/
def pageSpans (a n : Nat) : List (Nat × Nat) :=
  if n = 0 then []
  else if !isPaged a then [(a, n)]
  else (List.range (pageOf (a + n - 1) + 1 - pageOf a)).map (fun k =>
    let lo := max a ((a / 0x1_0000 + k) * 0x1_0000)
    (lo, min (a + n) ((a / 0x1_0000 + k + 1) * 0x1_0000) - lo))

/-- The effects of a read of physical bytes on counts and errors: errors settled, and poisoned granules counted (R263, R264, R286). -/
def Chip.notePhys (d : Chip) (p n : Nat) : Chip :=
  let d := d.settle p n
  let k := if isPlinth p then
      ((List.range (ceilDiv (p % 32 + n) 32)).filter (fun i => d.poisonedAt (p / 32 * 32 + 32 * i))).length else 0
  let q := (d.mem.poison.filter (fun g => isQuarry g && overlaps p n g 64)).length
  let d := if k = 0 then d else d.count (Reg.MEM_COUNT.COUNT 4) k
  if q = 0 then d else d.count (Reg.MEM_COUNT.COUNT 13) q

/-- The effects of a read of a range, made before its bytes are taken: on each page's heat, on counts and on errors. -/
def Chip.noteRead (d : Chip) (a n : Nat) : Chip :=
  (pageSpans a n).foldl (fun (d : Chip) s =>
    match d.xlate s.1 with
    | none => d
    | some p => (d.touchPage s.1 false).notePhys p s.2) d

/-- A write of a range of bytes with their poison, page by page through translation. A write to a page being moved
goes to the page it has and is carried by the copy (R293). -/
def Chip.writeRangeAux (d : Chip) : Nat → Nat → List (Nat × Bool) → Chip
  | 0, _, _ => d
  | k + 1, a, bs =>
    if bs.isEmpty then d
    else if isPaged a then
      let n := 0x1_0000 - a % 0x1_0000
      let d := d.touchPage a true
      let d := match d.xlate a with
        | some p => if d.pagePoisoned a then d.count (Reg.MEM_COUNT.COUNT 12) else d.writePhys p (bs.take n)
        | none => d
      d.writeRangeAux k (a + n) (bs.drop n)
    else d.writePhys a bs

def hostPf (a : Nat) : Nat := (a - 0x2_0000_0000_0000) / 2 ^ 47

/-- The pages an access through an AT window translates (R479): a page not held counts an ATS miss and enters the cache of 4,096. -/
def Chip.translate (d : Chip) (a n : Nat) : Chip :=
  let p := hostPf a
  match tget d.hif.hwin (p * 128 + a / 2 ^ 40 % 128) with
  | none => d
  | some w =>
    if !w.at_ ∨ n = 0 then d
    else
      let h := w.base + a % 2 ^ 40
      (List.range ((h + n - 1) / 4096 + 1 - h / 4096)).foldl (fun (d : Chip) k =>
        let key := p * 2 ^ 52 + h / 4096 + k
        if d.hif.atc.contains key then d
        else ({ d with hif := { d.hif with atc := (key :: d.hif.atc).take 4096 } }).count (Reg.HIF_COUNT.COUNT p 11)) d

/-- The pages a device write through a host window covers are set in the written-page log of the VF whose requester ID it
carries, before the write; pages outside the log's range are counted (R492). -/
def Chip.markDirty (d : Chip) (a n : Nat) : Chip :=
  let p := hostPf a
  match tget d.hif.hwin (p * 128 + a / 2 ^ 40 % 128) with
  | none => d
  | some w =>
    match if 1 ≤ w.func ∧ w.func ≤ 63 then tget d.hif.dirty (p * 64 + w.func) else none with
    | none => d
    | some g =>
      let h := w.base + a % 2 ^ 40
      let pages := (List.range ((h + n - 1) / 4096 + 1 - h / 4096)).map (· + h / 4096)
      let inside (k : Nat) : Bool := g.hbase / 4096 ≤ k && k < g.hbase / 4096 + g.pages
      let d := (pages.filter inside).foldl (fun (d : Chip) k =>
        let i := k - g.hbase / 4096
        let b := d.byteAt (g.bitmap + i / 8)
        d.writePhys (g.bitmap + i / 8) [(b ||| 2 ^ (i % 8), d.poisonedAt (g.bitmap + i / 8))]) d
      if pages.any (fun k => !inside k) then d.count (Reg.HIF_COUNT.COUNT p 10) else d

def Chip.writeRange (d : Chip) (a : Nat) (bs : List (Nat × Bool)) : Chip :=
  let d := if isHostWin a ∧ bs ≠ [] then (d.translate a bs.length).markDirty a bs.length else d
  d.writeRangeAux (bs.length + 1) a bs

/-- A write of clean bytes. -/
def Chip.wr (d : Chip) (a : Nat) (bs : List Nat) : Chip := d.writeRange a (bs.map (fun b => (b, false)))

/-- A number written as n little-endian bytes. -/
def Chip.wrNum (d : Chip) (a n v : Nat) : Chip := d.wr a (leBytes n v)

/-- A range filled with zeros in the array, without poison: the device's own initialisation. -/
def Chip.zeroRange (d : Chip) (a n : Nat) : Chip :=
  let words (bank : Nat) : List Nat :=
    if isPlinth a then ((List.range (n / 32)).map (fun k => a + 32 * k)).filter (fun w => plinthBank w = bank) else []
  let d := { d with
    mem := { cells := d.mem.cells.filter (fun c => !(a ≤ c.1 && c.1 < a + n)),
             poison := d.mem.poison.filter (fun g => !overlaps a n g (granule g)) },
    mu := { d.mu with merge := d.mu.merge.filter (fun e => !overlaps a n e.word 32),
                      flips := d.mu.flips.filter (fun p => !overlaps a n p.1 32),
                      poisonBanks := d.mu.poisonBanks.map (fun p => (p.1, (words p.1).foldl (fun l w => insNat w l) p.2)) } }
  let w := d.rg Reg.MEM_FLIP_ADDR.ADDR * 32
  if a ≤ w ∧ w < a + n then d.applyFlip w else d

/-- Whether a write of a range is lost in a retired store, so that its item commits with POISONED_DATA. -/
def Chip.writeLost (d : Chip) (a n : Nat) : Bool :=
  (List.range n).any (fun i => match d.xlate (a + i) with
    | some p => d.lost p || d.pagePoisoned (a + i)
    | none => false)

end Sys2Proof.Machine
end

