-- ==== Sys2Proof/Machine/CollBase.lean ====
section
/-! DEFINITION. Group and slot records (R172, R190), pace symbols, and what the end of a firing does to its slot. -/
namespace Sys2Proof
open Sys2Proof.Machine

/-! ## Fields of a collective request (R174) -/

def Desc.cKind (x : Desc) : Nat := wf x.w0 0 8
def Desc.cIn (x : Desc) : Nat := wf x.w0 8 4
def Desc.cWire (x : Desc) : Nat := wf x.w0 12 4
def Desc.cOut (x : Desc) : Nat := wf x.w0 16 4
def Desc.cRnd (x : Desc) : Nat := wf x.w0 20 2
def Desc.cNanp (x : Desc) : Bool := wf x.w0 22 1 = 1
def Desc.cScl (x : Desc) : Bool := wf x.w0 23 1 = 1
def Desc.cRedop (x : Desc) : Nat := wf x.w0 24 3
def Desc.cDev (x : Desc) : Bool := wf x.w0 27 1 = 1
def Desc.cAlgo (x : Desc) : Nat := wf x.w0 28 4
def Desc.cTag (x : Desc) : Nat := wf x.w0 32 32
def Desc.cCount (x : Desc) : Nat := wf x.w1 0 32
def Desc.cSigma (x : Desc) : Nat := wf x.w1 32 32
def Desc.cGroup (x : Desc) : Nat := wf x.w2 0 16
def Desc.cRoot (x : Desc) : Nat := wf x.w2 16 16
def Desc.cCompress (x : Desc) : Nat := wf x.w2 32 2
def Desc.cOuter (x : Desc) : Nat := wf x.w2 34 2
def Desc.cSrc (x : Desc) : Nat := wf x.w3 0 52
def Desc.cDst (x : Desc) : Nat := wf x.w4 0 52
def Desc.cResIn (x : Desc) : Nat := wf x.w5 0 52
def Desc.cResOut (x : Desc) : Nat := wf x.w6 0 52
def Desc.cKwin (x : Desc) : Nat := wf x.w7 0 16
def Desc.cScaleOfs (x : Desc) : Nat := wf x.w7 16 36

/-! ## Group record (R172) -/

def Desc.gId (x : Desc) : Nat := wf x.w0 0 16
def Desc.gMask (x : Desc) : Nat := wf x.w0 24 8
def Desc.gNodes (x : Desc) : Nat := wf x.w0 32 16
def Desc.gRank (x : Desc) : Nat := wf x.w0 48 16
def Desc.gPeers (x : Desc) : Nat := x.w1.toNat
def Desc.gStage (x : Desc) : Nat := x.w2.toNat
def Desc.gStageBytes (x : Desc) : Nat := wf x.w3 0 32
def Desc.gKey (x : Desc) : Nat := wf x.w3 32 32

/-! ## Slot record, bytes 0 to 47 (R190) -/

def Desc.sSlot (x : Desc) : Nat := wf x.w0 0 16
def Desc.sKind (x : Desc) : Nat := wf x.w0 24 8
def Desc.sGroup (x : Desc) : Nat := wf x.w0 32 16
def Desc.sPlan (x : Desc) : Nat := wf x.w0 48 16
def Desc.sFmtIn (x : Desc) : Nat := wf x.w1 0 4
def Desc.sFmtOut (x : Desc) : Nat := wf x.w1 4 4
def Desc.sRnd (x : Desc) : Nat := wf x.w1 8 2
def Desc.sNanp (x : Desc) : Bool := wf x.w1 10 1 = 1
def Desc.sScl (x : Desc) : Bool := wf x.w1 11 1 = 1
def Desc.sRedop (x : Desc) : Nat := wf x.w1 12 3
def Desc.sRoot (x : Desc) : Nat := wf x.w1 16 8
def Desc.sLine (x : Desc) : Nat := wf x.w1 24 8
def Desc.sCores (x : Desc) : Nat := wf x.w1 32 8
def Desc.sGranule (x : Desc) : Nat := wf x.w1 40 8
def Desc.sFires (x : Desc) : Nat := wf x.w1 48 8
def Desc.sDepth (x : Desc) : Nat := wf x.w1 56 8
def Desc.sCount (x : Desc) : Nat := wf x.w2 0 32
def Desc.sSigma (x : Desc) : Nat := wf x.w2 32 32
def Desc.sDst (x : Desc) : Nat := x.w3.toNat
def Desc.sScaleOfs (x : Desc) : Nat := x.w4.toNat
def Desc.sReplyRing (x : Desc) : Nat := wf x.w5 0 16

end Sys2Proof

namespace Sys2Proof.Machine
open Sys2Proof

/-- Set bits of an 8-bit port mask, ascending. -/
def portsOf (m : Nat) : List Nat := (List.range 8).filter (bitOf m)

/-- A PACE symbol sent on a port. -/
def Chip.pace (d : Chip) (port line arg : Nat) : Chip :=
  { d with coll := { d.coll with pace := d.coll.pace ++ [(⟨port, line, arg % 256⟩ : PaceSym)] } }

def Chip.paceAll (d : Chip) (ports : List Nat) (line arg : Nat) : Chip :=
  ports.foldl (fun (d : Chip) p => d.pace p line arg) d

def Chip.group (d : Chip) (g : Nat) : Option Desc := tget d.coll.groups g

def SlotState.code : SlotState → Nat
  | .empty => 0 | .arming => 1 | .armed => 2 | .faulted => 3 | .disarming => 4

def Chip.slotRec (d : Chip) (k : Nat) : SlotRec := (tget d.coll.slots k).getD {}

/-- A slot record stored, COL_SLOT_ARMED following. -/
def Chip.setSlot (d : Chip) (k : Nat) (s : SlotRec) : Chip :=
  { d with coll := { d.coll with slots := tput d.coll.slots k s } }.setBit (Reg.COL_SLOT_ARMED.MASK (k / 64)) (k % 64)
    (decide (s.state = SlotState.armed))

/-- The member ports of a slot's group. -/
def Chip.slotPorts (d : Chip) (s : SlotRec) : List Nat := portsOf (((d.group s.img.sGroup).map Desc.gMask).getD 0)

/-- A slot enters FAULTED (R197, R202): no firing until it is disarmed and armed again, and ATTN ASK. One that has left ARMED by a SLOT_DISARM
already takes no firing: it stays DISARMING, so that its command ends as R196 says (DESIGN CHOICE, log entry 81). -/
def Chip.faultSlot (d : Chip) (k : Nat) : Chip :=
  if (d.slotRec k).state = .disarming then d
  else (d.setSlot k { d.slotRec k with state := .faulted }).raiseAttn (.slotFaulted k) .ask clsCompute

/-- A firing ends (R194, R196, R204): DONE or ABORT to every member, and its number is passed for all of them. -/
def Chip.firingEnd (d : Chip) (k n seq : Nat) (committed : Bool) : Chip :=
  let s := d.slotRec k
  let ps := d.slotPorts s
  let d := d.paceAll ps (s.img.sLine + if committed then 1 else 3) n
  let d := d.count (if committed then Reg.COL_FIRINGS.COUNT else Reg.COL_WITHDRAWN.COUNT)
  d.setSlot k { s with
    firings := s.firings.filter (fun f => f.number ≠ n)
    next := ps.foldl (fun t p => tput t p (max ((tget t p).getD 0) (n + 1))) s.next
    lastSeq := seq }

/-- The connection to a node of a group (R172). -/
def Chip.peerConn (d : Chip) (g : Desc) (node : Nat) : Nat := d.num (g.gPeers + 4 * node) 4

def Chip.peerNodes (g : Desc) : List Nat := (List.range g.gNodes).filter (· ≠ g.gRank)

/-- COLL_ABORT of a request to every peer node of its group (R204). -/
def Chip.abortPeers (d : Chip) (g : Desc) (tag : Nat) : Chip :=
  let ms := (Chip.peerNodes g).map (fun p =>
    (⟨d.peerConn g p, 9, g.gKey, 0, (leBytes 4 tag ++ [0, 0, 0, 0]).map (fun b => (b, false))⟩ : CollMsg))
  { d with coll := { d.coll with out := d.coll.out ++ ms } }

/-- A collective request ends WITHDRAWN: counted, and a COLL_ABORT to every peer unless a peer's abort withdrew it. -/
def Chip.collWithdrawn (d : Chip) (body : Desc) (code : Nat) : Chip :=
  let d := d.count Reg.COL_WITHDRAWN.COUNT
  match d.group (wf body.w2 0 16) with
  | none => d
  | some g => if g.gNodes = 1 ∨ code = Code.COL_ABORTED_BY_PEER then d else d.abortPeers g body.cTag

end Sys2Proof.Machine
end

