-- ==== Sys2Proof/Machine/KvBase.lean ====
section
/-! DEFINITION. Service records (R228) and what the end of a query does to its service. -/
namespace Sys2Proof
open Sys2Proof.Machine

/-! ## Service record (R228) -/

def Desc.vService (x : Desc) : Nat := wf x.w0 0 8
def Desc.vMask (x : Desc) : Nat := wf x.w0 8 8
def Desc.vPlan (x : Desc) : Nat := wf x.w0 16 16
def Desc.vLine (x : Desc) : Nat := wf x.w0 32 8
def Desc.vEntries (x : Desc) : Nat := wf x.w0 40 8 + 1
def Desc.vEntryBytes (x : Desc) : Nat := wf x.w1 0 32
def Desc.vRing (x : Desc) : Nat := x.w2.toNat

end Sys2Proof

namespace Sys2Proof.Machine
open Sys2Proof

def Chip.svc (d : Chip) (n : Nat) : Option SvcRec := tget d.kv.svcs n

def Chip.setSvc (d : Chip) (n : Nat) (s : SvcRec) : Chip := { d with kv := { d.kv with svcs := tput d.kv.svcs n s } }

/-- The address of entry e of the ring of port p. -/
def entryAddr (x : Desc) (p e : Nat) : Nat := x.vRing + p * x.vEntries * x.vEntryBytes + e * x.vEntryBytes

/-- An entry answered (R229): RESULT or FAIL with its index, and it is pending no longer. -/
def Chip.answerQuery (d : Chip) (n p e : Nat) (ok : Bool) : Chip :=
  match d.svc n with
  | none => d
  | some s =>
    (d.pace p (s.img.vLine + if ok then 1 else 2) e).setSvc n { s with
      pending := s.pending.filter (· ≠ (p, e)), queue := s.queue.filter (· ≠ (p, e)) }

/-- A query ends (R238 to R240); `entry` is 256 × port + ring entry. -/
def Chip.queryEnd (d : Chip) (n entry seq : Nat) (committed : Bool) : Chip :=
  let r := (tget d.kv.runs seq).getD {}
  let d := { d with kv := { d.kv with runs := tdel d.kv.runs seq } }
  let d := if committed then
      let d := (d.count Reg.KVA_QUERIES.COUNT).count Reg.KVA_BLOCKS_READ.COUNT r.blocks
      if r.skipped = 0 then d else d.count Reg.KVA_SKIPPED.COUNT r.skipped
    else d
  d.answerQuery n (entry / 256) (entry % 256) committed

end Sys2Proof.Machine
end

