-- ==== Sys2Proof/Machine/KvMap.lean ====
section
/-! DEFINITION. Sequences, the run directory and the block map in device memory (R210 to R227), runs, cells and their
reclaim. -/
namespace Sys2Proof
open Sys2Proof.Machine

/-! ## Sequence record (R215), in w0 to w3 -/

def Desc.qSeq (x : Desc) : Nat := wf x.w0 0 16
def Desc.qLayers (x : Desc) : Nat := wf x.w0 24 8 + 1
def Desc.qHkv (x : Desc) : Nat := wf x.w0 32 8
def Desc.qFmt (x : Desc) : Nat := wf x.w0 40 4
def Desc.qSumFmt (x : Desc) : Nat := wf x.w0 44 4
def Desc.qDim (x : Desc) : Nat := wf x.w0 48 16
def Desc.qSdim (x : Desc) : Nat := wf x.w1 0 16
def Desc.qService (x : Desc) : Nat := wf x.w1 16 8
def Desc.qPutTier (x : Desc) : Nat := wf x.w1 24 8
def Desc.qRunCap (x : Desc) : Nat := wf x.w1 32 32

end Sys2Proof

namespace Sys2Proof.Machine
open Sys2Proof

def pad64 (n : Nat) : Nat := ceilDiv n 64 * 64

/-! ## Slabs (R210) -/

/-- Bytes of the K elements of a slab, padded, and of its K scales; V has the same. -/
def slabElems (fmt dim : Nat) : Nat := pad64 (64 * dim * fmtBits fmt / 8)
def slabScales (fmt dim : Nat) : Nat := if isMX fmt then pad64 (2 * dim) else 0
def slabBytes (fmt dim : Nat) : Nat := 2 * (slabElems fmt dim + slabScales fmt dim)

/-- Bytes of a block of a sequence, and its cells. -/
def blockBytes (x : Desc) : Nat := x.qHkv * slabBytes x.qFmt x.qDim
def cellsOf (n : Nat) : Nat := ceilDiv n 4096

/-- ROW_ELEM and ROW_SCALE (R219). -/
def rowElem (x : Desc) : Nat := x.qHkv * x.qSdim * fmtBits x.qSumFmt / 8
def rowScale (x : Desc) : Nat := if isMX x.qSumFmt then x.qHkv * x.qSdim / 32 else 0

def Chip.seqRec (d : Chip) (s : Nat) : Option SeqRec := tget d.kv.seqs s

/-- Cells of a block of sequence s. -/
def Chip.blockCells (d : Chip) (s : Nat) : Nat := match d.seqRec s with | some r => cellsOf (blockBytes r.img) | none => 0

/-! ## The two versions (R217 to R219) -/

def Chip.mapBase (d : Chip) (v : Nat) : Nat := d.rg Reg.KVA_MAP_BASE.BASE + v * 0x2800_0000
def Chip.kvActive (d : Chip) : Nat := d.rg Reg.KVA_MAP_STATE.ACTIVE
def Chip.dirAddr (d : Chip) (v s l : Nat) : Nat := d.mapBase v + (s * 256 + l) * 32
def Chip.entAddr (d : Chip) (v i : Nat) : Nat := d.mapBase v + 0x800_0000 + i * 16

/-- A run directory entry. -/
structure DirEnt where
  base : Nat := 0
  cap : Nat := 0
  high : Nat := 0
  sumElem : Nat := 0
  sumScale : Nat := 0
  deriving DecidableEq, Repr

def Chip.dir (d : Chip) (v s l : Nat) : DirEnt :=
  let a := d.dirAddr v s l
  let w := d.num a 8
  ⟨bitsOf w 0 25, bitsOf w 25 17, bitsOf w 42 17, d.num (a + 8) 8 % 2 ^ 52, d.num (a + 16) 8 % 2 ^ 52⟩

/-- A record added to the change log while a compaction copies or drains (R250). -/
def Chip.logMap (d : Chip) (r : KvLog) : Chip :=
  let c := d.rg Reg.KVA_MAP_STATE.COMPACT
  if c = 1 ∨ c = 2 then { d with kv := { d.kv with log := d.kv.log ++ [r] } } else d

/-- Whether a directory entry lies in a poisoned line: the entries of its run read as POISONED (R254). -/
def Chip.dirBad (d : Chip) (s l : Nat) : Bool := d.anyPoison (d.dirAddr d.kvActive s l / 64 * 64) 64

/-- A directory entry written; one of the active version is logged. -/
def Chip.setDir (d : Chip) (v s l : Nat) (e : DirEnt) : Chip :=
  let a := d.dirAddr v s l
  let d := if v = d.kvActive then d.logMap (.dir s l) else d
  ((d.wrNum a 8 (e.base + e.cap * 2 ^ 25 + e.high * 2 ^ 42)).wrNum (a + 8) 8 e.sumElem).wrNum (a + 16) 8 e.sumScale

/-- A block-map entry; `state` 0 FREE, 1 VALID, 2 POISONED. -/
structure MapEnt where
  addr : Nat := 0
  state : Nat := 0
  tokens : Nat := 0
  nosum : Bool := false
  heat : Nat := 0
  s : Nat := 0
  layer : Nat := 0
  block : Nat := 0
  deriving DecidableEq, Repr

/-- An entry as a lookup reads it: one of a poisoned line reads as POISONED. -/
def Chip.ent (d : Chip) (v i : Nat) : MapEnt :=
  let a := d.entAddr v i
  let w := d.num a 8
  let u := d.num (a + 8) 8
  ⟨bitsOf w 0 46 * 64, if d.anyPoison (a / 64 * 64) 64 then 2 else bitsOf w 46 2, bitsOf w 48 7, bitOf w 55, bitsOf w 56 8,
   bitsOf u 0 14, bitsOf u 14 8, bitsOf u 22 16⟩

/-- A map write: to the active version, and logged while a compaction copies or drains (R250). -/
def Chip.setEnt (d : Chip) (v i : Nat) (e : MapEnt) (logged : Bool := true) : Chip :=
  let a := d.entAddr v i
  let d := d.wrNum a 8 (e.addr / 64 + e.state * 2 ^ 46 + e.tokens * 2 ^ 48 + b2n e.nosum * 2 ^ 55 + e.heat * 2 ^ 56)
  let d := d.wrNum (a + 8) 8 (e.s + e.layer * 2 ^ 14 + e.block * 2 ^ 22)
  if logged then d.logMap (.entry i) else d

/-- Block n of a run, as its entry's index; none at or above CAP. -/
def Chip.entIndex (d : Chip) (s l n : Nat) : Option Nat :=
  let e := d.dir d.kvActive s l
  if n < e.cap then some (e.base + n) else none

/-- The entry of a block in the active version; an absent block reads FREE. -/
def Chip.block (d : Chip) (s l n : Nat) : MapEnt :=
  match d.entIndex s l n with
  | some i => let e := d.ent d.kvActive i; if d.dirBad s l then { e with state := 2 } else e
  | none => {}

/-- A read of a layer's directory entry: one of a poisoned line is reported (R254). -/
def Chip.touchDir (d : Chip) (s l : Nat) : Chip := if d.dirBad s l then d.fault Src.KVA_MAP_POISON s else d

/-- HIGH brought up to date: highest VALID block number + 1. -/
def Chip.syncHigh (d : Chip) (s l : Nat) : Chip :=
  let e := d.dir d.kvActive s l
  let h := (List.range e.cap).foldl (fun h n => if (d.ent d.kvActive (e.base + n)).state = 1 then n + 1 else h) 0
  d.setDir d.kvActive s l { e with high := h }

/-! ## Extents of map entries -/

def mapEntries : Nat := 0x200_0000

/-- Extents in use and awaiting reclaim, by first index. -/
def Chip.extents (d : Chip) : Tbl Nat :=
  (d.kv.ext ++ d.kv.old.map (·.1)).foldl (fun t (e : Extent) => tput t e.base e.cap) []

/-- Free gaps between extents: first index and length. -/
def gaps : Nat → Tbl Nat → List (Nat × Nat)
  | a, [] => if a < mapEntries then [(a, mapEntries - a)] else []
  | a, (b, n) :: t => (if a < b then [(a, b - a)] else []) ++ gaps (b + n) t

/-- KVA_MAP_FREE brought up to date. -/
def Chip.syncMap (d : Chip) : Chip :=
  let g := (gaps 0 d.extents).map (·.2)
  (d.sr Reg.KVA_MAP_FREE.LARGEST (g.foldl max 0)).sr Reg.KVA_MAP_FREE.FREE (g.foldl (· + ·) 0)

/-- The lowest gap that holds n entries. -/
def Chip.findExtent (d : Chip) (n : Nat) : Option Nat := ((gaps 0 d.extents).find? (fun g => g.2 ≥ n)).map (·.1)

def Chip.takeExtent (d : Chip) (base n : Nat) : Chip :=
  { d with kv := { d.kv with ext := (⟨base, n⟩ : Extent) :: d.kv.ext } }.syncMap

/-- The ledger head at a map write that removes storage (R227). -/
def Chip.ledgerHead (d : Chip) : Nat := d.led.nextSeq - 1

def Chip.dropExtent (d : Chip) (base n : Nat) : Chip :=
  { d with kv := { d.kv with ext := d.kv.ext.filter (fun e => e.base ≠ base), old := (⟨base, n⟩, d.ledgerHead) :: d.kv.old } }.syncMap

/-! ## Cells (R213, R222, R227) -/

/-- The KV pool of a tier (0 Plinth, 1 near tier, 2 Quarry), and the tier of an address. -/
def tierPool (t : Nat) : Nat := 3 + t
def tierOf (a : Nat) : Nat := if isPlinth a then 0 else if isNear a then 1 else 2

def Chip.takeCells (d : Chip) (pool i n : Nat) : Chip := (d.takeUnits pool i n).syncFill

/-- Cells at an address given back at once. -/
def Chip.freeCells (d : Chip) (a n : Nat) : Chip :=
  let k := tierPool (tierOf a)
  (d.freeUnits k ((List.range n).map (d.unitOf k a + ·))).syncFill

/-- Cells given back when GLB_LEDGER_LOW exceeds H (R227). -/
def Chip.reclaimCells (d : Chip) (pool a n : Nat) : Chip :=
  { d with mu := { d.mu with reclaim := ⟨pool, (List.range n).map (d.unitOf pool a + ·), d.ledgerHead⟩ :: d.mu.reclaim } }

/-- Cells for a block from a tier downward: the pool's tier and the first cell. -/
def Chip.findCells (d : Chip) (tier n : Nat) : Option (Nat × Nat) :=
  ([tier, tier + 1, tier + 2].filter (· ≤ 2)).findSome? (fun t => (d.findUnits (tierPool t) n).map (fun i => (t, i)))

/-- A map entry set to FREE, its cells reclaimed. -/
def Chip.dropEntry (d : Chip) (s i : Nat) : Chip :=
  let e := d.ent d.kvActive i
  if e.state = 1 ∨ e.state = 2 then
    (d.reclaimCells (tierPool (tierOf e.addr)) e.addr (d.blockCells s)).setEnt d.kvActive i {}
  else d

/-- The summary pool's cells for a run of cap rows: elements, then scales. -/
def sumCells (x : Desc) (cap : Nat) : Nat × Nat := (cellsOf (rowElem x * cap), cellsOf (rowScale x * cap))

/-- A run, its entries FREE, and its summary area zeroed; none where no extent, or no summary cells, are left. -/
def Chip.newRun (d : Chip) (x : Desc) (cap : Nat) : Except Nat (Chip × DirEnt) :=
  match d.findExtent cap with
  | none => .error Code.KVA_MAP_FULL
  | some b =>
    let c := sumCells x cap
    match d.findUnits 6 (c.1 + c.2) with
    | none => .error Code.KVA_POOL_FULL
    | some u =>
      let a := d.unitAddr 6 u
      let d := (d.takeExtent b cap).takeCells 6 u (c.1 + c.2)
      let d := d.zeroRange (d.entAddr d.kvActive b) (16 * cap)
      let d := d.wr a (List.replicate (rowElem x * cap) 0)
      let d := d.wr (a + c.1 * 4096) (List.replicate (rowScale x * cap) 0)
      .ok (d, ⟨b, cap, 0, if c.1 = 0 then 0 else a, if c.2 = 0 then 0 else a + c.1 * 4096⟩)

/-- A run and its summary area dropped (R227). -/
def Chip.dropRun (d : Chip) (x : Desc) (e : DirEnt) : Chip :=
  let c := sumCells x e.cap
  let d := if e.cap = 0 then d else d.dropExtent e.base e.cap
  if c.1 = 0 then d else d.reclaimCells 6 e.sumElem (c.1 + c.2)

/-- Every run of a sequence record dropped, its directory entries emptied. -/
def Chip.freeSeq (d : Chip) (x : Desc) : Chip :=
  (List.range x.qLayers).foldl (fun (d : Chip) l =>
    (d.dropRun x (d.dir d.kvActive x.qSeq l)).setDir d.kvActive x.qSeq l {}) d

end Sys2Proof.Machine
end

