-- ==== Sys2Proof/Machine/EndHooks.lean ====
section
/-! DEFINITION. What an item's end does to the engine it ran in, by the item's kind. -/
namespace Sys2Proof.Machine
open Sys2Proof

/-- A work item leaves its unit: one that it put aside has the unit again, and the failures of its lines are forgotten (R126, R159). -/
def Chip.leaveUnit (d : Chip) (i : Item) : Chip :=
  let d : Chip := { d with wk := { d.wk with obFail := d.wk.obFail.filter (fun p => p.seq ≠ i.seq) } }
  (List.range 4).foldl (fun (d : Chip) u =>
    if i.owner < 64 ∧ d.rg (Reg.WKC_UNIT_SEQ.SEQ i.owner u) = i.seq then
      let rest := d.led.items.filter (fun j => j.kind = .work && j.state = .running && j.owner = i.owner && j.seq ≠ i.seq && j.crec = .none &&
        (tget d.wk.runs j.seq).any (fun r => r.unit = u))
      d.sr (Reg.WKC_UNIT_SEQ.SEQ i.owner u) ((rest.head?.map (·.seq)).getD 0)
    else d) d

/-- A withdrawn work item leaves its unit (R155). -/
def Chip.workWithdrawn (d : Chip) (i : Item) : Chip :=
  let d := d.leaveUnit i
  { d with wk := { d.wk with arrive := tdel d.wk.arrive i.seq } }

/-- A withdrawn SLOT_ARM leaves its slot EMPTY, a withdrawn SLOT_DISARM leaves it as it is. -/
def Chip.slotCmdWithdrawn (d : Chip) (seq : Nat) : Chip :=
  d.coll.slots.foldl (fun (d : Chip) p =>
    if p.2.armSeq = seq ∧ p.2.state = .arming then d.setSlot p.1 { p.2 with state := .empty, armSeq := 0 }
    else if p.2.disarmSeq = seq ∧ p.2.state ≠ .disarming then d.setSlot p.1 { p.2 with disarmSeq := 0 }
    else d) d

/-- A withdrawn KV or page command that had been accepted gives back what it allocated: SEQ_OPEN its runs, KV_PUT its cells,
PAGE_MAP its pages; a withdrawn SEQ_CLOSE leaves its sequence READY; a withdrawn DECRYPT zeroes its destination (R608). -/
def Chip.kvWithdrawn (d : Chip) (op : Nat) (body : Desc) : Chip :=
  match op with
  | 0x0301 => d.freeSeq { body with w0 := body.w1, w1 := body.w2, w2 := body.w3, w3 := body.w4 }
  | 0x0302 => { d with kv := { d.kv with seqs := tupd d.kv.seqs (wf body.w1 0 16) (fun s => { s with state := .ready }) } }
  | 0x0303 => d.freeCells body.w6.toNat (d.blockCells (wf body.w3 0 16))
  | 0x0401 =>
    let p0 := pageOf body.w1.toNat
    (List.range (wf body.w2 0 32)).foldl (fun (d : Chip) k =>
      let e := d.pte (p0 + k)
      if e.state = .unmapped ∧ e ≠ noPage then (d.freeUnits e.tier [d.unitOf e.tier (e.tpage * 0x1_0000)]).setPte (p0 + k) noPage else d) d
  | 0x0D03 => if wf body.w1 16 8 = 2 then d.wr body.w3.toNat (List.replicate (wf body.w1 32 32) 0) else d
  | _ => d

/-- A withdrawn SVC_UNBIND leaves its service bound; a withdrawn MAP_COMPACT waits no longer. -/
def Chip.kvCmdWithdrawn (d : Chip) (seq : Nat) : Chip :=
  { d with kv := { d.kv with
      svcs := d.kv.svcs.map (fun p => if p.2.unbindSeq = seq then (p.1, { p.2 with state := .bound, unbindSeq := 0 }) else p)
      waiting := d.kv.waiting.filter (· ≠ seq)
      running := if d.kv.running = some seq then none else d.kv.running } }

def inboxAddr (n i : Nat) : Nat := 0x1_04E0_0000 + n * 0x8000 + 128 * i

/-- FLAGS of an inbox entry. -/
def Chip.inboxFlags (d : Chip) (n i : Nat) : Nat := d.num (inboxAddr n i + 75) 1

/-- The inbox entry of an item that ends: freed when it commits, marked WITHDRAW when it is withdrawn (R355). -/
def Chip.inboxEnded (d : Chip) (n seq : Nat) (committed : Bool) : Chip :=
  (List.range 256).foldl (fun (d : Chip) i =>
    if d.inboxFlags n i % 2 = 1 ∧ d.num (inboxAddr n i + 64) 8 = seq then
      d.wrNum (inboxAddr n i + 75) 1 (if committed then 0 else d.inboxFlags n i ||| 4)
    else d) d

/-- An END of a core whose item ends completes (R357, R358): RESULT with DONE, and DOORBELL on the core. -/
def Chip.endDone (d : Chip) (seq : Nat) (committed : Bool) : Chip :=
  match d.fw.ends.find? (fun e => e.2 = seq) with
  | none => d
  | some e =>
    let d := { d with fw := { d.fw with ends := d.fw.ends.filter (fun x => x.2 ≠ seq) } }
    (d.sr (Reg.AMT_CMD.RESULT e.1) (2 ^ 63 + if committed then Code.OK else Code.WITHDRAWN)).pend e.1 2

/-- A withdrawn FW_ACTIVATE leaves the boot record and frees the activation (R374). -/
def Chip.actWithdrawn (d : Chip) (seq : Nat) : Chip :=
  if d.fw.actSeq = seq then { d with fw := { d.fw with actSeq := 0 } }.sr Reg.AMT_FW_STATE.ACT 0 else d

/-- A withdrawn operation sends its unsent packets as SKIP packets (R413); withdrawn connection and region commands leave what they
found (R408, R430). -/
def Chip.dvtWithdrawn (d : Chip) (seq : Nat) : Chip :=
  let gone := d.dvt.conns.any (fun (c : Nat × DvtConn) => c.2.openSeq = seq && c.2.state = .connecting)
  let d := if gone then d.mr Reg.DVT_CONN_STATE.OPEN (· - 1) else d
  { d with dvt := { d.dvt with
    conns := (d.dvt.conns.filter (fun (c : Nat × DvtConn) => c.2.openSeq ≠ seq || c.2.state ≠ .connecting)).map (fun (c : Nat × DvtConn) =>
      (c.1, { c.2 with
        sent := c.2.sent.map (fun x => if x.item = seq ∧ x.sends = 0 then
          { x with pkt := { x.pkt with op := 7, data := [] }, src := none } else x)
        todo := c.2.todo.filter (· ≠ seq)
        ops := c.2.ops.filter (fun o => o.seq ≠ seq)
        state := if c.2.closeSeq = seq then c.2.closeFrom else c.2.state
        closeSeq := if c.2.closeSeq = seq then 0 else c.2.closeSeq }))
    regions := (d.dvt.regions.filter (fun (r : Nat × DvtRegion) => r.2.seq ≠ seq || r.2.state ≠ 0)).map (fun (r : Nat × DvtRegion) =>
      if r.2.seq = seq ∧ r.2.state = 2 then (r.1, { r.2 with state := 1, seq := 0 }) else r) } }

/-- A withdrawn packet command gives back the slot, index or record it held; its record is dropped when it ends. -/
def Chip.pktEnded (d : Chip) (seq : Nat) (committed : Bool) : Chip :=
  let p := { d.pkt with recs := tdel d.pkt.recs seq }
  if committed ∨ seq = 0 then { d with pkt := p }
  else
    let d := if p.reb.on ∧ p.reb.seq = seq then d.sr Reg.PKT_EM_STATE.REBUILD 0 else d
    { d with pkt := { p with
    em0 := { p.em0 with slots := p.em0.slots.filter (fun (e : Nat × EmEntry) => e.2.pend ≠ seq) }
    em1 := { p.em1 with slots := p.em1.slots.filter (fun (e : Nat × EmEntry) => e.2.pend ≠ seq) }
    tcam := p.tcam.filter (fun (e : Nat × TcamEntry) => e.2.pend ≠ seq)
    actPend := p.actPend.filter (fun a => a.2 ≠ seq)
    reb := if p.reb.seq = seq then {} else p.reb } }

/-- The walk of R575 over the pages a checkpoint has not visited: 0,1 and 1,1 become 1,0 without a copy. -/
def Chip.ckpRelease (d : Chip) (x : CkpJob) : Chip :=
  x.ranges.foldl (fun (d : Chip) (r : CkpRange) =>
    (List.range r.pages).foldl (fun (d : Chip) k =>
      let n := pageOf r.addr + k
      let e := d.pte n
      if e.cow then d.setPte n { e with dirty := true, cow := false } else d) d) d

/-- The end of a checkpoint item (R574, R575): the job is IDLE; a withdrawn one leaves the previous commit record, rewinds HEAD,
and makes the next checkpoint full. -/
def Chip.ckpEnded (d : Chip) (j : Nat) (committed : Bool) : Chip :=
  match tget d.ckp.jobs j with
  | none => d
  | some x =>
    match x.run with
    | none => d
    | some r =>
      let d := (d.sr (Reg.CKP_JOB_STATE.STATE j) 1).sr (Reg.CKP_JOB_STATE.PHASE j) 0
      if committed then
        let incr := if r.full then 0 else x.incr + 1
        let d := (d.sr (Reg.CKP_JOB_LAST.STEP j) r.step).count (Reg.CKP_COUNT.COUNT 0)
        let d := d.sr (Reg.CKP_JOB_STATE.FULL_NEXT j) (if incr + 1 ≥ x.raw.getD 76 1 then 1 else 0)
        { d with ckp := { d.ckp with jobs := tput d.ckp.jobs j { x with
          run := none, incr := incr, headKept := d.rg (Reg.CKP_LOG_HEAD.BLOCK j), number := x.number + 1 } } }
      else
        let d := d.ckpRelease x
        let d := ((d.sr (Reg.CKP_LOG_HEAD.BLOCK j) x.headKept).sr (Reg.CKP_JOB_STATE.FULL_NEXT j) 1).count (Reg.CKP_COUNT.COUNT 1)
        { d with ckp := { d.ckp with jobs := tput d.ckp.jobs j { x with run := none } } }

/-- Checkpoint commands that end: a restore leaves the job IDLE, a withdrawn CKP_STEP leaves no step waiting, and a withdrawn
CKP_JOB_SET or CKP_JOB_CLEAR leaves no record. -/
def Chip.ckpCmdEnded (d : Chip) (seq : Nat) (committed : Bool) : Chip :=
  let rs := d.ckp.jobs.filter (fun (j : Nat × CkpJob) => j.2.restore = some seq)
  let d := rs.foldl (fun (d : Chip) (j : Nat × CkpJob) => d.sr (Reg.CKP_JOB_STATE.STATE j.1) 1) d
  { d with ckp := { d.ckp with
    recs := tdel d.ckp.recs seq
    jobs := d.ckp.jobs.map (fun (j : Nat × CkpJob) => (j.1, { j.2 with
      restore := if j.2.restore = some seq then none else j.2.restore
      stepSeq := if !committed && j.2.stepSeq.any (fun s => s.1 = seq) then none else j.2.stepSeq })) } }

/-- The end of an item, in its engine. -/
def Chip.onEnd (d : Chip) (i : Item) (committed : Bool) (code : Nat) : Chip :=
  let d := d.endDone i.seq committed
  let d := if 0x40 ≤ i.owner ∧ i.owner < 0x50 then d.inboxEnded (i.owner - 0x40) i.seq committed else d
  match i.kind with
  | .dvt => if committed then { d with dvt := { d.dvt with conns := d.dvt.conns.map (fun (c : Nat × DvtConn) =>
      (c.1, { c.2 with ops := c.2.ops.filter (fun o => o.seq ≠ i.seq) })) } } else d.dvtWithdrawn i.seq
  | .dma c =>
    let d : Chip := { d with dma := { d.dma with runs := tdel d.dma.runs i.seq } }
    let d := d.mr (Reg.DMA_CHAN_STATE.QUEUED c) (· - 1)
    if d.rg (Reg.DMA_CHAN_STATE.QUEUED c) = 0 ∧ d.rg (Reg.DMA_CHAN_CFG.ENABLE c) = 1 then d.sr (Reg.DMA_CHAN_STATE.STATE c) 1 else d
  | .work => if committed then d else d.workWithdrawn i
  | .firing k n => d.firingEnd k n i.seq committed
  | .coll =>
    let d := { d with coll := { d.coll with runs := tdel d.coll.runs i.seq } }
    if committed then d else d.collWithdrawn i.body code
  | .armature n =>
    let c := d.core n
    d.setCore n { c with laccs := tupd c.laccs i.seq (fun _ => if committed then 1 else 2) }
  | .query n e => d.queryEnd n e i.seq committed
  | .checkpoint j => d.ckpEnded j committed
  | .general op =>
    let d := if 0x0800 ≤ op ∧ op ≤ 0x08FF then d.pktEnded i.seq committed else d
    let d := if 0x0C00 ≤ op ∧ op ≤ 0x0CFF then d.ckpCmdEnded i.seq committed else d
    if committed then d else ((((d.dvtWithdrawn i.seq).actWithdrawn i.seq).slotCmdWithdrawn i.seq).kvCmdWithdrawn i.seq).kvWithdrawn op i.body
  | _ => d

end Sys2Proof.Machine
end

