-- ==== Sys2Proof/Machine/Sums.lean ====
section
/-! DEFINITION. Frame capacities and the sums of admission (R73, R75 to R77, R94). -/
namespace Sys2Proof.Machine
open Sys2Proof

/-- The plan cores (R354, R368): AC3 to AC15 in service and serving their own role, ascending (log entry 21). -/
def planCores (d : Chip) : List Nat :=
  ((List.range 13).map (· + 3)).filter (fun k =>
    d.rg (Reg.AMT_CORE_STATE.STATE k) ≠ 6 && d.rg (Reg.AMT_CORE_STATE.ROLE k) = k)

/-! ## Capacities (R73) -/

def inService (d : Chip) (n : Nat) : Bool :=
  d.rg (Reg.WKC_STATE.ROLE n) = 0 && !bitOf (d.rg Reg.WKC_SPARE_MASK.MASK) n

/-- A work core that can run work: in service and RUNNING. -/
def coreUp (d : Chip) (n : Nat) : Bool := inService d n && d.rg (Reg.WKC_STATE.STATE n) = 0

/-- Work cores in service and not fenced, lowest first. -/
def upCores (d : Chip) : List Nat := (List.range 64).filter (coreUp d)

def armCores (d : Chip) : Nat := (planCores d).length

/-- Link bytes of a frame for a port and direction (R73, R394, R395, R397): none on a port that went DOWN, in proportion to its
lanes on an Ethernet port. -/
def linkCap (d : Chip) (p : Nat) : Nat :=
  let c := if d.rg (Reg.LNK_PORT_CFG.MODE p) = 1 then 192 * d.F else 416 * d.F
  if d.attn.any (fun x => x.why = .portDown p) then 0
  else if d.rg (Reg.LNK_PORT_CFG.MODE p) = 1 then
    c * (16 - ((List.range 16).filter (bitOf (d.rg (Reg.LNK_PORT_STATE.FAILED p)))).length) / 16
  else if d.rg (Reg.LNK_PORT_STATE.STATE p) = 3 then c / 2 else c

def capWc (d : Chip) : Nat := (upCores d).length * d.F
def capPlinth (d : Chip) : Nat := 24576 * d.F
def capArm (d : Chip) : Nat := armCores d * d.F * 4 / 5

/-- The limit of R77. -/
def limitOf (c : Nat) : Nat := c * 9 / 10

/-! ## Sums (R75, R76) -/

def PlanState.live : PlanState → Bool
  | .active => true
  | .loading => true
  | .faulted => true
  | _ => false

/-- Whether an accepted PLAN_RESUME of a plan waits for its commit tick. -/
def resuming (d : Chip) (p : Nat) : Bool := d.ldr.cmds.any (fun c => c.plan = p && c.op = 2)

/-- The plans in the sums of measures 0 to 4, but for one left out. A SUSPENDED plan whose accepted PLAN_RESUME waits is among them
(DESIGN CHOICE, log entry 63: R75 names states only, and R80 says so of loads). -/
def sumPlans (d : Chip) (ex : Nat) : List Plan :=
  d.ldr.plans.filter (fun p => p.id ≠ ex && (p.state.live || resuming d p.id))

/-- The plans in the sums of the footprint measures; UNLOADING ones stay until their last item ends. -/
def footPlans (d : Chip) (ex : Nat) : List Plan := d.ldr.plans.filter (fun p => p.id ≠ ex)

/-- The plans in the sum of Frieze slots. -/
def slotPlans (d : Chip) (ex : Nat) : List Plan := d.ldr.plans.filter (fun p => p.id ≠ ex && p.state ≠ .unloading)

def sumBy (ps : List Plan) (f : PlanHeader → Nat) : Nat := (ps.map (fun p => f p.hdr)).foldl (· + ·) 0

/-- The Plinth charge of a plan (R76). -/
def plinthCharge (h : PlanHeader) : Nat := h.plinthBytes + h.items * 256

def egressOf (p : Nat) (h : PlanHeader) : Nat := h.egress.getD p 0
def ingressOf (p : Nat) (h : PlanHeader) : Nat := h.ingress.getD p 0

/-- Permille of a capacity; 0 of none. Cut to the field's ten bits by the register (DESIGN CHOICE, log entry 64: R94 gives no reading of a
sum above 1,023 permille or of a capacity of 0). -/
def permille (s c : Nat) : Nat := if c = 0 then 0 else s * 1000 / c

/-- TCK_ADMIT brought up to date (R94). -/
def Chip.syncAdmit (d : Chip) : Chip :=
  let ps := sumPlans d 0
  let links := (List.range 12).flatMap (fun p =>
    [permille (sumBy ps (egressOf p)) (linkCap d p), permille (sumBy ps (ingressOf p)) (linkCap d p)])
  (((d.sr Reg.TCK_ADMIT.WC (permille (sumBy ps (·.wcCycles)) (capWc d))).sr Reg.TCK_ADMIT.PLINTH
    (permille (sumBy ps plinthCharge) (capPlinth d))).sr Reg.TCK_ADMIT.ARM
    (permille (sumBy ps (·.armInstr)) (capArm d))).sr Reg.TCK_ADMIT.LINK (links.foldl max 0)

end Sys2Proof.Machine
end

