-- ==== Sys2Proof/Machine/LedgerOps.lean ====
section
/-! DEFINITION. The ledger and replies (R22 to R53): acceptance, commit records, end states, withdrawal, replies owed
and written. -/
namespace Sys2Proof.Machine
open Sys2Proof

/-! ## Functions and ring pairs -/

/-- The physical function of a function number (R498). -/
def pfOf (f : Nat) : Nat := if f = 1 ∨ 65 ≤ f then 1 else 0

def isVF (f : Nat) : Bool := 2 ≤ f

/-- The VF number (1 to 63) of a function number of a VF. -/
def vfOf (f : Nat) : Nat := if 65 ≤ f then f - 64 else f - 1

def Chip.ringFn (d : Chip) (r : Nat) : Nat := d.rg (Reg.HIF_RING.FUNC r)

/-- Function number 0x100 + n stands for Armature core n, 0x200 for the device itself. -/
def Chip.originFn (d : Chip) (o : Origin) : Nat :=
  match o with
  | .ring r => d.ringFn r
  | .step _ r => d.ringFn r
  | .core n _ => 0x100 + n
  | .nvme fn _ _ => fn
  | .service _ _ => 0x200
  | .slot _ => 0x200
  | .internal => 0x200

/-- The plan of an item that core n queues (R326): that of its handle, or PLANCTX for an item LACC creates. -/
def Chip.corePlan (d : Chip) (n h : Nat) : Nat := ((tget (d.core n).handles h).map (·.plan)).getD (d.core n).planctx

/-- The ordering domain of an item of an origin that its chapter puts in no other (R40, R706, R326). -/
def Chip.originDomain (d : Chip) (o : Origin) : Domain :=
  match o with
  | .ring r => .ring r
  | .step p _ => .plan p
  | .core n h => let p := d.corePlan n h; if p = 0 then .core n else .plan p
  | .nvme _ _ _ => .core 2
  | .service s _ => .ring s
  | .slot k => .slot k
  | .internal => .core 0

def Chip.originPlan (d : Chip) (o : Origin) : Nat :=
  match o with
  | .step p _ => p
  | .core n h => d.corePlan n h
  | _ => 0

/-! ## Ledger entries -/

/-- Whether items of a domain commit in sequence order (R40). -/
def Domain.ordered : Domain → Bool
  | .nvme _ => false
  | _ => true

def ItemState.ended : ItemState → Bool
  | .committed => true
  | .withdrawn => true
  | _ => false

def Chip.item (d : Chip) (seq : Nat) : Option Item := d.led.items.find? (fun i => i.seq = seq)

/-- An item changed. -/
def Chip.updItem (d : Chip) (seq : Nat) (f : Item → Item) : Chip :=
  { d with led := { d.led with items := d.led.items.map (fun i => if i.seq = seq then f i else i) } }

def ledgerSlots : Nat := 0x20_0000

/-- GLB_LEDGER_STATE.FREE brought up to date; a NOTE is raised when it falls below its threshold (R26, R54). -/
def Chip.syncFree (d : Chip) : Chip :=
  let old := d.rg Reg.GLB_LEDGER_STATE.FREE
  let n := ledgerSlots - d.led.items.length
  let low := d.rg Reg.GLB_LEDGER_NOTE_FREE.THRESHOLD
  let d := d.sr Reg.GLB_LEDGER_STATE.FREE n
  if n < low ∧ low ≤ old then d.note clsLedger else d

/-- Whether one ledger copy carries alone (R29). -/
def Chip.single (d : Chip) : Bool := d.rg Reg.GLB_LEDGER_STATE.COPIES ≠ 3

/-- Whether the core die's clocks run on the PLLs, in A0, and neither clock is lost (R645, R651); `b` is 0 for the core PLL, 1 for the
Armature PLL. -/
def Chip.clocked (d : Chip) (b : Nat) : Bool := d.rg Reg.PCR_STATE.POWER = 0 && !bitOf d.pwr.pllLost b

/-- Whether the device takes items: READY, clocks on the PLLs, a FREE slot, no lost ledger, no safe state, no reset under way and the
cold-start initialisation done (R27, R48, R272, R630, R638, R645). -/
def Chip.takesItems (d : Chip) : Bool :=
  d.flag Reg.PCR_STATE.READY && d.flag Reg.PCR_STATE.CLK_SRC && d.clocked 0 && d.pwr.trigger = 0 && !d.flag Reg.MEM_PLINTH_STATE.INIT_BUSY && d.led.items.length < ledgerSlots && !d.led.lost && !d.flag Reg.FLT_SAFE.SAFE && !d.hub.inReset

/-- The lowest free ledger slot (log entry 6). -/
def lowestSlot (is : List Item) : Nat :=
  ((List.range (is.length + 1)).find? (fun n => is.all (fun i => i.slot ≠ n))).getD is.length

/-- An item accepted with the next sequence number (R24, R30). -/
def Chip.accept (d : Chip) (a : Arising) (st : ItemState := .accepted) : Chip :=
  let i : Item :=
    { seq := d.led.nextSeq, slot := lowestSlot d.led.items, state := st, domain := a.domain, tag := a.tag,
      owner := a.owner, replied := false, redo := false, replayed := false, plan := a.plan,
      acceptTick := d.tick % 2 ^ 32, endTick := 0, origin := a.origin, fn := a.fn, kind := a.kind, body := a.body,
      crec := .none, fin := none, redoRec := none, carried := false, single := d.single, reply := {} }
  { d with led := { d.led with nextSeq := d.led.nextSeq + 1, items := d.led.items ++ [i], stallRun := 0 } }.syncFree

/-! ## Items that wait where they arose (R27, R31) -/

/-- Whether an Armature core serves commands: RUNNING or RESUMING (R354, R367), and no fence has begun (R19). -/
def Chip.coreServes (d : Chip) (n : Nat) : Bool :=
  let st := d.rg (Reg.AMT_CORE_STATE.STATE n)
  (st = 0 || st = 5) && !(d.agentRec (acAgent n)).fencing

/-- The plan core that serves the commands of a group (R354). -/
def Chip.groupCore (d : Chip) (g : Nat) : Option Nat :=
  let p := planCores d
  p[g % p.length]?

/-- Whether a group command's core does not serve at present. -/
def Chip.groupWaits (d : Chip) (g : Nat) : Bool :=
  match d.groupCore g with
  | none => false
  | some n => !d.coreServes n

/-- Whether the unit that runs the item of a plan step takes it now: its block runs, the core that serves it serves, and no CKP_STEP of
its job waits for a fence already. -/
def Chip.stepReady (d : Chip) (a : Arising) : Bool :=
  let up (b : Block) : Bool := d.agentSt (.block b) = .running && !(d.agentRec (.block b)).fencing
  match a.kind with
  | .work => up .wkc
  | .coll => up .col && !d.groupWaits a.body.cGroup
  | .general op => up .ckp && !(op = 0x0C03 && ((tget d.ckp.jobs (wf a.body.w1 0 8)).bind (·.stepSeq)).isSome)
  | _ => true

/-- The first of a list that may be accepted, no earlier one of its domain waiting. -/
def firstReady (ok : Arising → Bool) (seen : List Domain) : List Arising → Option Arising
  | [] => none
  | a :: t => if ok a && !seen.contains a.domain then some a else firstReady ok (a.domain :: seen) t

/-- The waiting item that takes the next slot: in the order in which they arose, but for plan steps whose unit does not take them. -/
def Chip.nextArising (d : Chip) : Option Arising := firstReady (fun a => a.frieze.isNone || d.stepReady a) [] d.led.arising

/-- Whether an item of a domain is accepted now: nothing that waits goes first. -/
def Chip.admits (d : Chip) (dom : Domain) : Bool :=
  d.takesItems && d.nextArising.isNone && d.led.arising.all (fun a => a.domain ≠ dom)

/-- An item of the device that waits where it arose until a slot is FREE (R27). -/
def Chip.arise (d : Chip) (a : Arising) : Chip :=
  if d.admits a.domain then d.accept a
  else { d with led := { d.led with arising := d.led.arising ++ [a] } }

/-! ## Replies (R49, R484) -/

/-- The reply of an item at its end state. -/
def Chip.replyOf (d : Chip) (i : Item) (ring code lo hi : Nat) : Reply :=
  { ring := ring, code := code, tag := i.tag, seq := i.seq, replayed := i.replayed, single := i.single || d.single,
    carried := i.carried, more := false, lo := lo, hi := hi }

/-- The two common words of a reply as written now, with the attention state of the moment (R50), and SINGLE_COPY while a copy is
single, whenever the reply fell due (R29). -/
def Chip.replyWords (d : Chip) (r : Reply) (mirrored : Bool) : List Nat :=
  [r.code + d.attnLevel * 2 ^ 16 + d.attnClass * 2 ^ 20 + b2n r.replayed * 2 ^ 24 + b2n (r.single || d.single) * 2 ^ 25 +
     b2n r.carried * 2 ^ 26 + b2n mirrored * 2 ^ 27 + b2n r.more * 2 ^ 28 + r.seq % 2 ^ 32 * 2 ^ 32,
   r.tag % 2 ^ 32 + r.seq / 2 ^ 32 % 2 ^ 32 * 2 ^ 32, r.lo % 2 ^ 64, r.hi % 2 ^ 64]

def Chip.owe (d : Chip) (r : Reply) : Chip := { d with owed := d.owed ++ [r] }

/-- A core's reply ring takes a reply, oldest overwritten when full (R359); for an item of WQ or WQK its handle has it too and REPLY is raised (R343). -/
def Chip.coreReply (d : Chip) (n : Nat) (h : Option Nat) (r : Reply) : Chip :=
  let ws := d.replyWords r false
  let c := d.core n
  let d := d.wr (0x1_04E8_0000 + n * 0x8000 + c.rplIdx % 1024 * 32) (ws.flatMap (leBytes 8))
  let c := { c with
    rplIdx := c.rplIdx + 1
    handles := match h with
      | some h => tupd c.handles h (fun x => { x with seq := some r.seq, reply := some (ws.map (BitVec.ofNat 64)) })
      | none => c.handles }
  if h.isSome then (d.setCore n c).pend n 1 else d.setCore n c

/-- A refusal before acceptance: a reply with sequence 0 to where the command came from (R30). -/
def Chip.refuse (d : Chip) (src : Submit) (code : Nat) (lo hi : Nat := 0) : Chip :=
  let r (ring : Nat) : Reply := ⟨ring, code, src.tag.toNat, 0, false, d.single, false, false, lo, hi⟩
  match src.origin with
  | .ring k =>
    (((d.owe (r k)).mr (Reg.HIF_RING_IDX.CMD_HEAD k) (· + 1)).count (Reg.HIF_COUNT.COUNT (pfOf (d.ringFn k)) 1))
  | .step _ k => d.owe (r k)
  | .core n h =>
    let c := d.core n
    (d.setCore n { c with handles := tupd c.handles h (fun x =>
      { x with seq := some 0, reply := some ((d.replyWords (r 0) false).map (BitVec.ofNat 64)) }) }).pend n 1
  | .nvme fn q cid => { d with nvs := { d.nvs with due := d.nvs.due ++ [(⟨fn, q, cid, code, 0⟩ : NvmeDue)] } }
  | _ => d

/-- A command taken from its ring: CMD_HEAD advances (R483). -/
def Chip.taken (d : Chip) (o : Origin) : Chip :=
  match o with
  | .ring k => (d.mr (Reg.HIF_RING_IDX.CMD_HEAD k) (· + 1)).count (Reg.HIF_COUNT.COUNT (pfOf (d.ringFn k)) 0)
  | .core n h =>
    let c := d.core n
    d.setCore n { c with handles := tupd c.handles h (fun x => { x with seq := some (d.led.nextSeq - 1) }) }
  | _ => d

/-- A command accepted as an item of its origin's domain. -/
def Chip.acceptCmd (d : Chip) (src : Submit) (kind : ItemKind) (body : Desc) (dom : Domain) (owner : Nat := 0xFF)
    (st : ItemState := .accepted) : Chip :=
  (d.accept ⟨dom, src.tag.toNat, d.originPlan src.origin, src.origin, d.originFn src.origin, owner, kind, body, none⟩ st).taken
    src.origin

/-- An intermediate reply of an accepted item (R39). -/
def Chip.oweMore (d : Chip) (seq code : Nat) (lo hi : Nat := 0) : Chip :=
  match d.item seq with
  | some i =>
    match i.origin with
    | .ring r => d.owe { d.replyOf i r code lo hi with more := true }
    | .step _ r => d.owe { d.replyOf i r code lo hi with more := true }
    | _ => d
  | none => d

/-- The accelerator window of a port (R175). -/
def memberWindow (p : Nat) : Nat := 0x8000_0000_0000 + p * 0x2000_0000_0000

/-- The end-state reply of an item that has ended becomes due (R32, R359). Origins whose reply is of another form are
marked replied here, and their chapter writes it. -/
def Chip.replyDue (d : Chip) (i : Item) (code lo hi : Nat) : Chip :=
  match i.origin with
  | .ring r => d.owe (d.replyOf i r code lo hi)
  | .step _ r => d.owe (d.replyOf i r code lo hi)
  | .core n h => (d.coreReply n (if h < 256 then some h else none) (d.replyOf i 0 code lo hi)).updItem i.seq (fun i => { i with replied := true })
  | .slot k =>
    (d.owe (d.replyOf i (d.slotRec k).img.sReplyRing code lo hi))
  | .service _ e =>
    let d := if code = Code.OK ∨ code = Code.POISONED_DATA then d
      else d.wr (memberWindow (e / 256) + i.body.w4.toNat)
        (((d.replyWords (d.replyOf i 0 code 0 0) false).take 2).flatMap (leBytes 8) ++ List.replicate 48 0)
    d.updItem i.seq (fun i => { i with replied := true })
  | .nvme fn q cid =>
    ({ d with nvs := { d.nvs with due := d.nvs.due ++ [(⟨fn, q, cid, code, i.seq⟩ : NvmeDue)] } }).updItem i.seq (fun i => { i with replied := true })
  | _ => d.updItem i.seq (fun i => { i with replied := true })

/-! ## Commit and withdrawal (R32 to R41) -/

/-- Whether every predecessor of an item in its ordered domain has reached an end state (R41). -/
def predsEnded (is : List Item) (i : Item) : Bool :=
  !i.domain.ordered || is.all (fun j => !(j.domain = i.domain && j.seq < i.seq) || j.state.ended)

/-- Held commit records whose predecessors have all ended are taken (R41). -/
def Chip.release (d : Chip) : Chip :=
  { d with led := { d.led with items := d.led.items.map (fun i =>
      if i.crec = .held ∧ predsEnded d.led.items i then { i with crec := .taken } else i) } }

/-- Whether a plan has work that has not ended: items, steps that wait to be accepted, and step bodies undecided in an inbox. -/
def Chip.planBusy (d : Chip) (p : Nat) : Bool :=
  d.led.items.any (fun i => i.plan = p && !i.state.ended) || d.led.arising.any (fun a => a.plan = p) ||
  d.fw.stepPlan.any (fun (e : Nat × Nat × Nat) => e.2.1 = p)

/-- The plans whose last item has ended while UNLOADING are drained (R83): cores and footprint freed, and the
PLAN_UNLOAD reply due. -/
def Chip.drainPlans (d : Chip) : Chip :=
  (d.ldr.plans.filter (fun (p : Plan) => p.state = .unloading && !d.ldr.cmds.any (fun c => c.plan = p.id) && !d.planBusy p.id)).foldl
    (fun (d : Chip) (p : Plan) =>
      let d := { d with ldr := { d.ldr with plans := d.ldr.plans.filter (fun q => q.id ≠ p.id) } }
      let d := p.cores.foldl (fun (d : Chip) n => (d.sr (Reg.WKC_GRANT.PLAN n) 0).sr (Reg.WKC_GRANT.LOGICAL n) 0) d
      match d.item p.unloadSeq with
      | some i => d.replyDue i i.reply.code i.reply.lo i.reply.hi
      | none => d) d

/-- A plan command withdrawn before its commit tick (R81, R82): a load leaves nothing, an unload names its plan again,
a resume gives back its new grant. -/
def Chip.dropPlanCmd (d : Chip) (seq : Nat) : Chip :=
  match d.ldr.cmds.find? (fun c => c.seq = seq) with
  | none => d
  | some c =>
    let d := { d with ldr := { d.ldr with cmds := d.ldr.cmds.filter (fun x => x.seq ≠ seq) } }
    let d := c.grant.foldl (fun (d : Chip) n => (d.sr (Reg.WKC_GRANT.PLAN n) 0).sr (Reg.WKC_GRANT.LOGICAL n) 0) d
    Chip.syncAdmit <| match c.op with
    | 0 => { d with ldr := { d.ldr with
        plans := d.ldr.plans.filter (fun q => q.id ≠ c.plan), shadow := d.ldr.shadow.filter (fun q => q.2.plan ≠ c.plan) } }
    | 1 => { d with ldr := { d.ldr with plans := d.ldr.plans.map (fun (q : Plan) => if q.id = c.plan then { q with unloadSeq := 0 } else q) } }
    | _ => { d with ldr := { d.ldr with plans := d.ldr.plans.map (fun (q : Plan) =>
        if q.id = c.plan ∧ q.state = .suspended then { q with cores := [] } else q) } }

/-- A slot that is DISARMING and has no firing left is EMPTY, and its SLOT_DISARM is answered (R196). -/
def Chip.drainSlots (d : Chip) : Chip :=
  (d.coll.slots.filter (fun p => p.2.state = .disarming && p.2.firings.isEmpty)).foldl (fun (d : Chip) p =>
    let d := d.setSlot p.1 { p.2 with state := .empty, disarmSeq := 0 }
    match d.item p.2.disarmSeq with
    | some i => if i.state.ended then d.replyDue i i.reply.code i.reply.lo i.reply.hi else d
    | none => d) d

/-- Reply bytes 16 to 31 at an item's end where its kind gives them: a DMA transfer (chapter 14), the tick number of the commit for a
collective and a DVT operation that is no atomic, and what R205 gives of a collective or firing that is withdrawn. -/
def Chip.endBytes (d : Chip) (i : Item) (st : ItemState) (lo hi : Nat) : Nat × Nat :=
  match i.kind with
  | .dma c =>
    let r := (tget d.dma.runs i.seq).getD {}
    let bytes := if r.dropped then (Config.freeWord (d.free + i.seq)).toNat % 2 ^ 32 else r.bytes
    (c + min r.runs 255 * 2 ^ 8 + min r.moved 0xFFFF * 2 ^ 16 + bytes * 2 ^ 32, d.tick)
  | .coll =>
    if st = .committed then (lo, d.tick)
    else (0xFF * 2 ^ 24 + min ((tget d.coll.runs i.seq).getD {}).runs 255 * 2 ^ 16, hi)
  | .firing k n =>
    if st = .committed then (lo, hi)
    else
      let runs := ((((tget d.coll.slots k).getD {}).firings.find? (fun f => f.number = n)).map (·.runs)).getD 1
      (2 ^ 8 + min runs 255 * 2 ^ 16 + k * 2 ^ 24, n)
  | .dvt => (lo, if st = .committed ∧ (wf i.body.w0 0 8 = 1 ∨ wf i.body.w0 0 8 = 2) then d.tick else hi)
  | _ => (lo, hi)

/-- One item to its end state, with its reply and its engine's part; the work of `endItem` but for what it lets go on. -/
def Chip.endOne (d : Chip) (i : Item) (st : ItemState) (code lo hi : Nat) (due : Bool) : Chip :=
  let (lo, hi) := d.endBytes i st lo hi
  let d := d.updItem i.seq (fun i =>
    { i with state := st, crec := .none, fin := none, endTick := d.tick % 2 ^ 32, reply := ⟨code, lo, hi⟩,
             redo := st = .committed && i.redoRec.isSome, body := if st = .committed then i.redoRec.getD i.body else i.body })
  let d := if due then d.replyDue i code lo hi else d
  let d := d.onEnd i (st = .committed) code
  if st = .withdrawn then d.dropPlanCmd i.seq else d

/-- Whether the ledger unit commits: not with both copies lost, in the safe state, or while a warm reset runs (R48, R630). -/
def Chip.commits (d : Chip) : Bool := !d.led.lost && !d.flag Reg.FLT_SAFE.SAFE && !d.hub.inReset

/-- Services that are UNBINDING and have no query left are EMPTY, and their SVC_UNBIND commits (R240). -/
def Chip.drainSvcs (d : Chip) : Chip :=
  (d.kv.svcs.filter (fun p => p.2.state = .unbinding && !d.led.items.any (fun i => !i.state.ended && (match i.kind with
      | .query n _ => n = p.1
      | _ => false)))).foldl (fun (d : Chip) p =>
    let d := { d with kv := { d.kv with svcs := tdel d.kv.svcs p.1 } }
    match d.item p.2.unbindSeq with
    | some i =>
      if i.state.ended then d
      else if predsEnded d.led.items i ∧ d.commits then d.endOne i .committed Code.OK 0 0 true
      else d.updItem i.seq (fun i => { i with crec := .held, reply := ⟨Code.OK, 0, 0⟩ })
    | none => d) d

/-- Connections that are CLOSING and have no open item are CLOSED: CLOSE goes out, and their CONN_CLOSE commits (R410). -/
def Chip.drainConns (d : Chip) : Chip :=
  (d.dvt.conns.filter (fun (c : Nat × DvtConn) => c.2.state = .closing && c.2.closeSeq ≠ 0 && !d.led.items.any (fun i =>
      !i.state.ended && i.domain = .conn c.1))).foldl (fun (d : Chip) (c : Nat × DvtConn) =>
    let d : Chip := { d with dvt := { d.dvt with
      conns := tdel d.dvt.conns c.1
      wire := if c.2.mode = 2 then d.dvt.wire else d.dvt.wire ++
        [(⟨c.1, c.2.mode, c.2.port 0, c.2.sport, ⟨0x22, 0, 0, 0, c.2.peerConn, 0, 0, 0, 0, 0, []⟩⟩ : DvtOut)] } }
    let d := d.sr Reg.DVT_CONN_STATE.OPEN d.dvt.conns.length
    match d.item c.2.closeSeq with
    | some i =>
      if i.state.ended then d
      else if predsEnded d.led.items i ∧ d.commits then d.endOne i .committed Code.OK c.1 d.tick true
      else d.updItem i.seq (fun i => { i with crec := .held, reply := ⟨Code.OK, c.1, d.tick⟩ })
    | none => d) d

/-- An item reaches an end state: COMMITTED or WITHDRAWN, with the code and the reply bytes it ends with. `due` says
whether its end-state reply is due at once: it is not for an in-place work item (R153), for PLAN_UNLOAD (R83), nor for
SLOT_DISARM (R196). -/
def Chip.endItem (d : Chip) (seq : Nat) (st : ItemState) (code : Nat) (lo hi : Nat := 0) (due : Bool := true) : Chip :=
  match d.item seq with
  | none => d
  | some i =>
    if i.state.ended ∨ d.led.lost then d
    else if st = .committed ∧ !d.commits then d.updItem seq (fun i => { i with crec := .held, reply := ⟨code, lo, hi⟩ })
    else (d.endOne i st code lo hi due).drainSvcs.drainConns.release.drainPlans.drainSlots

/-- An item that needs no further work commits: at once where R41 lets it, else its commit record is held. -/
def Chip.finish (d : Chip) (seq : Nat) (code : Nat) (lo hi : Nat := 0) (due : Bool := true) : Chip :=
  match d.item seq with
  | none => d
  | some i =>
    if predsEnded d.led.items i then d.endItem seq .committed code lo hi due
    else d.updItem seq (fun i => if i.state.ended then i else { i with crec := .held, reply := ⟨code, lo, hi⟩ })

/-- An item whose effect is its commit point: it commits with the effect where R41 lets it, else its commit record is held and
COMMIT_POINT applies the effect. -/
def Chip.finishWith (d : Chip) (seq : Nat) (effect : Chip → Chip) (code : Nat := 0) (lo hi : Nat := 0) : Chip :=
  match d.item seq with
  | none => d
  | some i =>
    if predsEnded d.led.items i ∧ d.commits then (effect d).endItem seq .committed code lo hi
    else d.updItem seq (fun i => if i.state.ended then i else { i with crec := .held, reply := ⟨code, lo, hi⟩ })

/-- Whether a withdrawal that reaches the ledger unit now withdraws the item: it has not ended, and its commit record
has not been taken. -/
def Chip.canWithdraw (d : Chip) (seq : Nat) : Bool :=
  match d.item seq with
  | some i => !i.state.ended && i.crec ≠ .taken
  | none => false

/-- A withdrawal applied (R33, R34). -/
def Chip.withdraw (d : Chip) (seq code : Nat) (lo hi : Nat := 0) : Chip :=
  if d.canWithdraw seq then d.endItem seq .withdrawn code lo hi else d

/-- An engine issues an item's commit record, with the reply it earns (R152). -/
def Chip.issueCommit (d : Chip) (seq : Nat) (r : ReplyData) (redo : Option Desc := none) : Chip :=
  d.updItem seq (fun i => if i.state.ended ∨ i.crec ≠ .none then i else { i with reply := r, redoRec := redo, crec := .issued })

/-- The ledger unit takes an issued commit record, or holds it under R41. -/
def Chip.takeCommit (d : Chip) (seq : Nat) : Chip :=
  d.updItem seq (fun i => if i.crec = .issued ∨ i.crec = .held then
    { i with crec := if predsEnded d.led.items i then .taken else .held } else i)

/-- An uncommitted item returns to ACCEPTED after a fence or restart (R19, R37). -/
def backToAccepted (i : Item) : Item :=
  if i.state.ended then i else { i with state := .accepted, replayed := true, owner := 0xFF, crec := .none, fin := none }

/-- Uncommitted items meeting a condition returned to ACCEPTED, but for those whose commit record has been issued
(R165). -/
def Chip.giveBack (d : Chip) (p : Item → Bool) : Chip :=
  let back (q : Nat) : Bool := d.led.items.any (fun i => i.seq = q && p i && i.crec = .none)
  { d with
    led := { d.led with items := d.led.items.map (fun i => if p i && i.crec = .none then backToAccepted i else i) }
    hif := { d.hif with reads := d.hif.reads.map (fun r => if back r.seq then { r with seq := 0 } else r) } }

/-- The uncommitted general commands of an opcode group that a fence returned to ACCEPTED: what their chapters keep of them stays, and
they go on with it (R19, R92). -/
def Chip.opsBack (d : Chip) (k : Nat) : Chip :=
  { d with led := { d.led with items := d.led.items.map (fun i =>
      match i.kind with
      | .general op => if op / 256 = k ∧ !i.state.ended ∧ i.crec = .none then { i with state := .accepted, replayed := true } else i
      | _ => i) } }

/-- What is kept of items beside the ledger goes with their slots. -/
def Chip.dropFreed (d : Chip) : Chip :=
  { d with
    led := { d.led with mirrored := d.led.mirrored.filter (fun q => d.led.items.any (fun i => i.seq = q)) }
    wk := { d.wk with runs := d.wk.runs.filter (fun r => d.led.items.any (fun i => i.seq = r.1))
                      logical := d.wk.logical.filter (fun r => d.led.items.any (fun i => i.seq = r.1)) } }

/-- Slots freed (R26): ended, replied, and copied by a completed mirror pass while the mirror is active. -/
def Chip.freeSlots (d : Chip) : Chip :=
  { d with led := { d.led with items := d.led.items.filter (fun i =>
      !(i.state.ended && i.replied && (!d.flag Reg.GLB_LEDGER_STATE.MIRROR || d.led.mirrored.contains i.seq))) } }.dropFreed.syncFree

def descOf (l : List Nat) : Desc :=
  let g (i : Nat) : Word := BitVec.ofNat 64 (l.getD i 0)
  ⟨g 0, g 1, g 2, g 3, g 4, g 5, g 6, g 7⟩

/-- The 64 bytes at an address as a body. -/
def Chip.desc (d : Chip) (a : Nat) : Desc := descOf ((pieces 8 8 (d.bytes a 64)).map leNat)

/-- A general command's body: opcode, tag and operand words (R486). -/
def genBody (op : Nat) (src : Submit) (ws : List Nat) : Desc :=
  descOf ((op + src.tag.toNat * 2 ^ 32) :: ws)

/-! ## Commands before acceptance (R27, R483, R486) -/

/-- Whether a submitted command is in the device's hand: fetched from its ring, or waiting in a core's handle. -/
def Chip.inHand (d : Chip) (o : Origin) : Bool :=
  match o with
  | .ring r => d.fetched.contains r
  | .core n h => match tget (d.core n).handles h with
    | some x => x.seq.isNone
    | none => false
  | _ => true

/-- Whether a submitter's ring pair is of a kind (R481). -/
def Chip.ringIs (d : Chip) (o : Origin) (kind : Nat) : Bool :=
  match o with
  | .ring r => d.rg (Reg.HIF_RING.KIND r) = kind
  | _ => true

/-- A command decided: no longer in hand. -/
def Chip.dropHand (d : Chip) (o : Origin) : Chip :=
  match o with
  | .ring r => { d with fetched := d.fetched.filter (· ≠ r) }
  | _ => d

/-- The common way of a command before its chapter's checks: it is in hand from a ring of its kind, its block takes work, and the device takes
items; otherwise it stays where it is. A command not marked V is refused when a VF submits it (R486). -/
def Chip.submit (d : Chip) (src : Submit) (b : Block) (v : Bool) (k : Chip → Chip) (kind : Nat := 0) : Chip :=
  if !d.inHand src.origin || !d.ringIs src.origin kind then d
  else if d.agentSt (.block b) ≠ .running || (d.agentRec (.block b)).fencing then d
  else if !d.admits (d.originDomain src.origin) then d
  else
    let d := d.dropHand src.origin
    match src.origin with
    | .ring r => if !v && isVF (d.ringFn r) then d.refuse src Code.ACCESS_VIOLATION else k d
    | _ => k d

/-- The core that serves a role of AC0 to AC2 (R354, R368, R369): the one whose ROLE names it, else the other of AC1 and AC2
when it runs, else AC0. -/
def Chip.roleCore (d : Chip) (r : Nat) : Nat :=
  match (List.range 16).find? (fun n => d.rg (Reg.AMT_CORE_STATE.ROLE n) = r && d.rg (Reg.AMT_CORE_STATE.STATE n) ≠ 6) with
  | some n => n
  | none => if r ≠ 0 ∧ d.coreServes (3 - r) then 3 - r else 0

/-- A command served by a role's core waits in its ring while that core does not serve (R367). -/
def Chip.served (d : Chip) (r : Nat) (k : Chip → Chip) : Chip := if d.coreServes (d.roleCore r) then k d else d

/-- A command of a group: refused with FW_NO_CORE where no plan core is left (R369), waiting while its core does not serve. -/
def Chip.groupServed (d : Chip) (src : Submit) (g : Nat) (k : Nat → Chip) : Chip :=
  match d.groupCore g with
  | none => d.refuse src Code.FW_NO_CORE
  | some n => k (0x40 + n)

/-- A command with a RECORD operand: the record's place, its read and its poison come before its chapter's checks (R486). -/
def Chip.withRecord (d : Chip) (src : Submit) (a n : Nat) (k : Chip → Chip) : Chip :=
  if a % 64 ≠ 0 || !d.inDieOrNear a n then d.refuse src Code.HIF_BAD_CMD
  else
    let d := d.noteRead a n
    if d.anyPoison a n then d.refuse src Code.HIF_CMD_POISON else k d

/-- The sequence number the last accepted item received. -/
def Chip.lastSeq (d : Chip) : Nat := d.led.nextSeq - 1

end Sys2Proof.Machine
end

