-- ==== Sys2Proof/Machine/WorkDesc.lean ====
section
/-! DEFINITION. Work descriptors (R128 to R135, R151): fields, formats, ranges, and the checks made before acceptance. -/
namespace Sys2Proof
open Sys2Proof.Machine

/-! ## Fields (R128) -/

def Desc.op (x : Desc) : Nat := wf x.w0 0 8
def Desc.fmtA (x : Desc) : Nat := wf x.w0 8 4
def Desc.fmtB (x : Desc) : Nat := wf x.w0 12 4
def Desc.fmtD (x : Desc) : Nat := wf x.w0 16 4
def Desc.rnd (x : Desc) : Nat := wf x.w0 20 2
def Desc.nanp (x : Desc) : Bool := wf x.w0 22 1 = 1
def Desc.scl (x : Desc) : Bool := wf x.w0 23 1 = 1
def Desc.acc (x : Desc) : Bool := wf x.w0 24 1 = 1
def Desc.wait (x : Desc) : Bool := wf x.w0 25 1 = 1
def Desc.nob (x : Desc) : Bool := wf x.w0 26 1 = 1
def Desc.absrank (x : Desc) : Bool := wf x.w0 27 1 = 1
def Desc.tag (x : Desc) : Nat := wf x.w0 32 32
def Desc.len (x : Desc) : Nat := wf x.w1 0 32
def Desc.param (x : Desc) : Nat := wf x.w1 32 32
def Desc.addrA (x : Desc) : Nat := wf x.w2 0 52
def Desc.addrB (x : Desc) : Nat := wf x.w3 0 52
def Desc.addrD (x : Desc) : Nat := wf x.w4 0 52
def Desc.scaleA (x : Desc) : Nat := wf x.w5 0 52
def Desc.scaleB (x : Desc) : Nat := wf x.w6 0 52
def Desc.scaleD (x : Desc) : Nat := wf x.w7 0 52
/-- ADDR_R of QUANT_EF and ADDR_IDX of the TOPK operators. -/
def Desc.addrY (x : Desc) : Nat := wf x.w6 0 52
/-- ADDR_R of TOPK_EF. -/
def Desc.addrZ (x : Desc) : Nat := wf x.w7 0 52
def Desc.window (x : Desc) : Nat := wf x.w5 0 17
def Desc.contrib (x : Desc) : Nat := wf x.w5 0 8
def Desc.stream (x : Desc) : Nat := wf x.w5 16 16
def Desc.hq (x : Desc) : Nat := wf x.w5 0 8
def Desc.hkv (x : Desc) : Nat := wf x.w5 8 8
/-- DIM of ATTN_PARTIAL. -/
def Desc.dimX (x : Desc) : Nat := wf x.w5 16 12
def Desc.validLast (x : Desc) : Nat := wf x.w5 32 7
/-- DIM of DOT_ROWS. -/
def Desc.dimY (x : Desc) : Nat := wf x.w6 0 16
def Desc.nq (x : Desc) : Nat := wf x.w6 16 8

/-- The scale factor σ: 0x0000_0000 stands for 1.0 (R129). -/
def Desc.sigma (x : Desc) : Val := if x.param = 0 then .ofInt 1 else decodeFloat fmtF32 x.param

end Sys2Proof

namespace Sys2Proof.Machine
open Sys2Proof

/-! ## The operator menu (R134, R135) -/

/-- Which formats an operator allows for one operand; none for a field it does not use. -/
inductive FmtSet where
  | none | any | nonMx | float | kvq | attn | wideOut | f32 | quantOut
  deriving DecidableEq, Repr

/-- The formats of R114. -/
def attnFmt (f : Nat) : Bool := (3 ≤ f && f ≤ 0xA) || f = 1 || f = 2

def FmtSet.has : FmtSet → Nat → Bool
  | .none, f => f = 0
  | .any, f => f ≤ 0xE
  | .nonMx, f => f ≤ 0xE && !isMX f
  | .float, f => f ≤ 4
  | .kvq, f => 1 ≤ f && f ≤ 4
  | .attn, f => attnFmt f
  | .wideOut, f => f ≤ 1
  | .f32, f => f = 0
  | .quantOut, f => 3 ≤ f && f ≤ 0xA

/-- What a word of X, Y or Z holds. -/
inductive WordUse where
  | unused | scale | mask (m : Nat)
  deriving DecidableEq, Repr

/-- One row of the menu: formats of A, B and D, which of RND/NANP, SCL, ACC and NOB, ABSRANK, PARAM it uses, which of the
addresses A, B, D, and its use of W5 to W7. -/
structure OpRow where
  a : FmtSet
  b : FmtSet
  dst : FmtSet
  conv : Bool
  scl : Bool
  red : Bool
  absr : Bool
  param : Bool
  useA : Bool
  useB : Bool
  useD : Bool
  x : WordUse
  y : WordUse
  z : WordUse
  unit : Nat
  deriving DecidableEq, Repr

/-- Bits 51:0. -/
def addrMask : Nat := 2 ^ 52 - 1

def opRow (op : Nat) : Option OpRow :=
  let byteRow (param useA : Bool) (x : WordUse) (unit : Nat) : OpRow :=
    ⟨.none, .none, .none, false, false, false, false, param, useA, false, true, x, .unused, .unused, unit⟩
  match op with
  | 0x01 => some ⟨.any, .any, .any, true, true, true, false, true, true, true, true, .scale, .scale, .scale, 0⟩
  | 0x02 => some ⟨.any, .any, .any, true, true, true, false, false, true, true, true, .scale, .scale, .scale, 0⟩
  | 0x03 => some ⟨.any, .any, .any, true, true, true, false, false, true, true, true, .scale, .scale, .scale, 0⟩
  | 0x04 => some ⟨.nonMx, .nonMx, .any, true, true, false, false, true, true, false, true, .mask 0xFFFF00FF, .unused, .scale, 0⟩
  | 0x10 => some ⟨.kvq, .attn, .wideOut, true, false, false, false, true, true, true, true, .mask 0x7F0FFFFFFF, .unused, .unused, 1⟩
  | 0x11 => some ⟨.attn, .kvq, .f32, true, false, false, false, true, true, true, true, .scale, .mask 0xFFFFFF, .unused, 1⟩
  | 0x20 => some ⟨.any, .none, .any, true, true, false, false, true, true, false, true, .scale, .unused, .scale, 2⟩
  | 0x21 => some ⟨.float, .f32, .quantOut, true, true, false, false, false, true, true, true, .scale, .mask addrMask, .scale, 2⟩
  | 0x22 => some ⟨.nonMx, .none, .nonMx, true, false, false, true, true, true, false, true, .mask 0x1FFFF, .mask addrMask, .unused, 2⟩
  | 0x23 => some ⟨.float, .f32, .float, true, false, false, false, true, true, true, true, .mask 0x1FFFF, .mask addrMask, .mask addrMask, 2⟩
  | 0x24 => some (byteRow true true .unused 2)
  | 0x25 => some (byteRow true true .unused 2)
  | 0x26 => some (byteRow true true .unused 2)
  | 0x27 => some (byteRow true true .unused 2)
  | 0x30 => some (byteRow false true .unused 3)
  | 0x31 => some (byteRow false true .unused 3)
  | 0x32 => some (byteRow false true .unused 3)
  | 0x33 => some (byteRow false false (.mask (2 ^ 64 - 1)) 3)
  | _ => none

def opUnit (op : Nat) : Nat := ((opRow op).map (·.unit)).getD 3

/-- Whether operand B is present (R129, R137). -/
def usesB (x : Desc) (r : OpRow) : Bool := r.useB && !(r.red && x.nob)

/-! ## Reserved encodings (R129, R130) -/

/-- Whether a word holds a nonzero bit its operand does not use. -/
def badWord (w : Word) (u : WordUse) (mx : Bool) : Bool :=
  match u with
  | .unused => w ≠ 0
  | .scale => if mx then wf w 52 12 ≠ 0 else w ≠ 0
  | .mask m => w.toNat &&& m ≠ w.toNat

/-- The formats of the operands a reduction combines (R120, R135). -/
def reduceFmts (x : Desc) : List Nat :=
  (if x.op = 4 && x.addrA = 0 then [] else [x.fmtA]) ++ (if x.op = 4 || !x.nob then [x.fmtB] else []) ++ [x.fmtD]

def isReduction (op : Nat) : Bool := 1 ≤ op && op ≤ 4

/-- Whether a descriptor carries a reserved encoding or a nonzero unused field (WC_BAD_OP). -/
def badEncoding (x : Desc) (r : OpRow) : Bool :=
  let b := usesB x r
  let fb := if r.red && x.nob then FmtSet.none else r.b
  wf x.w0 28 4 ≠ 0 || wf x.w2 52 12 ≠ 0 || wf x.w3 52 12 ≠ 0 || wf x.w4 52 12 ≠ 0 || x.rnd = 3 ||
  (!r.conv && wf x.w0 20 3 ≠ 0) || (!r.scl && x.scl) || (!r.red && (x.acc || x.nob)) || (!r.absr && x.absrank) ||
  x.fmtA = 0xF || x.fmtB = 0xF || x.fmtD = 0xF ||
  (r.a = .none && x.fmtA ≠ 0) || (fb = .none && x.fmtB ≠ 0) || (r.dst = .none && x.fmtD ≠ 0) ||
  (!r.useA && x.addrA ≠ 0) || (!b && x.addrB ≠ 0) || (!r.param && x.param ≠ 0) ||
  (isReduction x.op && x.param ≠ 0 && (reduceFmts x).all isInt) ||
  badWord x.w5 r.x (isMX x.fmtA) || badWord x.w6 r.y (b && isMX x.fmtB) || badWord x.w7 r.z (isMX x.fmtD)

/-- Whether a format lies outside its cell of R135 (WC_FORMAT). -/
def badFormat (x : Desc) (r : OpRow) : Bool :=
  !r.a.has x.fmtA || (!(r.red && x.nob) && !r.b.has x.fmtB) || !r.dst.has x.fmtD

/-- Whether a reduction mixes the integer and the floating-point class (WC_MIXED_CLASS). -/
def mixed (x : Desc) : Bool :=
  isReduction x.op && (reduceFmts x).any isInt && !(reduceFmts x).all isInt

/-! ## Ranges (R99, R101, R130, R143, R145, R151) -/

/-- A range an operator reads or writes: address, bytes, whether it is written, and its alignment. -/
structure Rng where
  addr : Nat
  bytes : Nat
  write : Bool
  align : Nat
  deriving DecidableEq, Repr

/-- Packed bytes of n elements (R99). -/
def packedBytes (fmt n : Nat) : Nat :=
  if fmtBits fmt = 6 then ceilDiv n 4 * 3 else if fmtBits fmt = 4 then ceilDiv n 2 else n * fmtBits fmt / 8

/-- Bytes a written tensor takes: an MX tensor is written in whole blocks (R101). -/
def writtenBytes (fmt n : Nat) : Nat := packedBytes fmt (if isMX fmt then ceilDiv n 32 * 32 else n)

/-- The arrays of a tensor: its elements and, in an MX format, its scales. -/
def tensorRng (addr fmt n scale : Nat) (write : Bool) : List Rng :=
  ⟨addr, if write then writtenBytes fmt n else packedBytes fmt n, write, 64⟩ ::
    (if isMX fmt then [⟨scale, ceilDiv n 32, write, 64⟩] else [])

/-- Elements TOPK selects from n in windows of w, k a window (R143). -/
def topkCount (n k w : Nat) : Nat := if w = 0 then 0 else n / w * min k w + min k (n % w)

/-- Digests SHA256 writes, and CRCs CRC32C writes (R132, R145). -/
def chunkCount (x : Desc) : Nat := if x.param = 0 ∨ x.len = 0 then 1 else ceilDiv x.len x.param

/-- Bytes of O, m and L (R139). -/
def attnBytes (x : Desc) : Nat :=
  ceilDiv (x.hq * x.dimX * fmtBits x.fmtD / 8) 64 * 64 + 8 * x.hq

/-- The ranges of a descriptor. The consecutive range of GATHER and SCATTER is known by its start alone (R130). -/
def ranges (x : Desc) : List Rng :=
  let n := x.len
  match x.op with
  | 0x04 => (if x.addrA = 0 then [] else tensorRng x.addrA x.fmtA n 0 false) ++ tensorRng x.addrD x.fmtD n x.scaleD true
  | 0x10 => tensorRng x.addrA x.fmtA (x.hq * x.dimX) 0 false ++ [⟨x.addrB, 16 * n, false, 16⟩, ⟨x.addrD, attnBytes x, true, 64⟩]
  | 0x11 => tensorRng x.addrA x.fmtA (n * x.dimY) x.scaleA false ++ tensorRng x.addrB x.fmtB (x.nq * x.dimY) 0 false ++
      [⟨x.addrD, 4 * n * x.nq, true, 64⟩]
  | 0x20 => tensorRng x.addrA x.fmtA n x.scaleA false ++ tensorRng x.addrD x.fmtD n x.scaleD true
  | 0x21 => tensorRng x.addrA x.fmtA n x.scaleA false ++ [⟨x.addrB, 4 * n, false, 64⟩] ++
      tensorRng x.addrD x.fmtD n x.scaleD true ++ [⟨x.addrY, 4 * n, true, 64⟩]
  | 0x22 => tensorRng x.addrA x.fmtA n 0 false ++
      [⟨x.addrD, packedBytes x.fmtD (topkCount n x.param x.window), true, 64⟩, ⟨x.addrY, 4 * topkCount n x.param x.window, true, 64⟩]
  | 0x23 => tensorRng x.addrA x.fmtA n 0 false ++ [⟨x.addrB, 4 * n, false, 64⟩,
      ⟨x.addrD, packedBytes x.fmtD (topkCount n x.param x.window), true, 64⟩, ⟨x.addrY, 4 * topkCount n x.param x.window, true, 64⟩,
      ⟨x.addrZ, 4 * n, true, 64⟩]
  | 0x24 => [⟨x.addrA, n, false, 1⟩, ⟨x.addrD, 32 * chunkCount x, true, 1⟩]
  | 0x25 => [⟨x.addrA, n, false, 1⟩, ⟨x.addrD, 4 * chunkCount x, true, 1⟩]
  | 0x26 => [⟨x.addrA, n, false, 1⟩, ⟨x.addrD, x.param, true, 1⟩]
  | 0x27 => [⟨x.addrA, n, false, 1⟩, ⟨x.addrD, x.param, true, 1⟩]
  | 0x30 => [⟨x.addrA, n, false, 1⟩, ⟨x.addrD, n, true, 1⟩]
  | 0x31 => [⟨x.addrA, 16 * n, false, 16⟩, ⟨x.addrD, 0, true, 1⟩]
  | 0x32 => [⟨x.addrD, 16 * n, false, 16⟩, ⟨x.addrA, 0, false, 1⟩]
  | 0x33 => [⟨x.addrD, n, true, 1⟩]
  | _ => tensorRng x.addrA x.fmtA n x.scaleA false ++ (if x.nob then [] else tensorRng x.addrB x.fmtB n x.scaleB false) ++
      (if x.acc then tensorRng x.addrD x.fmtD n x.scaleD false else []) ++ tensorRng x.addrD x.fmtD n x.scaleD true

/-- Whether a destination range is written in place: it overlaps a source range (R151). -/
def Rng.inPlace (rs : List Rng) (r : Rng) : Bool :=
  r.write && rs.any (fun s => !s.write && overlaps r.addr r.bytes s.addr s.bytes)

/-- In-place destination bytes of a descriptor; GATHER and SCATTER are not examined (R148). -/
def inPlaceBytes (x : Desc) : Nat :=
  if x.op = 0x31 ∨ x.op = 0x32 then 0
  else (((ranges x).filter (Rng.inPlace (ranges x))).map (·.bytes)).foldl (· + ·) 0

def isInPlace (x : Desc) : Bool := x.acc || inPlaceBytes x ≠ 0

/-! ## Host windows (R477, R478) -/

/-- The host function a submitter counts as in a window's FUNC field; none for items no function submitted. -/
def winFunc (fn p : Nat) : Option Nat :=
  if fn < 0x100 ∧ pfOf fn = p then some (if isVF fn then vfOf fn else 0) else none

/-- Whether a host window access passes R478. -/
def Chip.winOk (d : Chip) (fn a n : Nat) (write : Bool) : Bool :=
  let p := (a - 0x2_0000_0000_0000) / 2 ^ 47
  match tget d.hif.hwin (p * 128 + a / 2 ^ 40 % 128) with
  | none => false
  | some w => w.valid && (if write then w.write else w.read) && a % 2 ^ 40 + n ≤ w.limit + 1 &&
      (w.func = 0x7F || winFunc fn p = some w.func)

/-- Whether a range passes R130 and R259 for an item of function `fn`. -/
def Chip.accessOk (d : Chip) (fn a n : Nat) (write : Bool) : Bool :=
  (if write then d.writeOk a n else d.rangeOk a n) && (!isHostWin a || d.winOk fn a n write)

/-- A range that units other than Armature cores, work cores and the DMA block may reach: the Armature shared memory is not theirs (R275). -/
def Chip.unitOk (d : Chip) (fn a n : Nat) (write : Bool) : Bool := !isShared a && d.accessOk fn a n write

/-! ## Checks before acceptance (R130 to R132) -/

/-- Inconsistent shape fields (WC_SHAPE). -/
def badShape (x : Desc) : Bool :=
  match x.op with
  | 0x10 => x.len = 0 || x.hq = 0 || x.hq > 128 || x.hkv = 0 || x.hq % x.hkv ≠ 0 || x.dimX < 16 || x.dimX > 512 ||
      x.dimX % 16 ≠ 0 || x.validLast = 0 || x.validLast > 64
  | 0x11 => x.len = 0 || x.dimY = 0 || x.nq = 0 || x.nq > 64 || (isMX x.fmtA && x.dimY % 32 ≠ 0)
  | 0x04 => x.contrib = 0 || x.contrib > 64
  | 0x22 => x.window = 0 || x.window > 65536 || x.param = 0 || x.param > 65536 || x.param > x.window
  | 0x23 => x.window = 0 || x.window > 65536 || x.param = 0 || x.param > 65536 || x.param > x.window
  | 0x24 => x.param % 64 ≠ 0
  | 0x25 => x.param % 64 ≠ 0
  | _ => false

/-- A length beyond its limit (LENGTH_OVER). -/
def tooLong (x : Desc) : Bool :=
  x.len > 0x8000_0000 || (x.op = 0x04 && x.len * (if (reduceFmts x).contains 0xE then 8 else 4) > 786432) ||
  inPlaceBytes x > 0x10_0000

/-- The checks of R130 in its order: the refusal code, or none. -/
def Chip.workCheck (d : Chip) (fn : Nat) (x : Desc) : Option Nat :=
  match opRow x.op with
  | none => some Code.WC_BAD_OP
  | some r =>
    if badEncoding x r then some Code.WC_BAD_OP
    else if badFormat x r then some Code.WC_FORMAT
    else if mixed x then some Code.WC_MIXED_CLASS
    else if (ranges x).any (fun g => (g.bytes ≠ 0 || x.op = 0x31 || x.op = 0x32) && g.addr % g.align ≠ 0) then some Code.WC_ALIGN
    else if badShape x then some Code.WC_SHAPE
    else if tooLong x then some Code.LENGTH_OVER
    else if (ranges x).any (fun g => (g.bytes ≠ 0 || x.op = 0x31 || x.op = 0x32) && !d.accessOk fn g.addr g.bytes g.write) then
      some Code.ACCESS_VIOLATION
    else none

end Sys2Proof.Machine
end

