-- ==== Sys2Proof/Machine/HostBase.lean ====
section
/-! DEFINITION. What the engines need of the host endpoint (chapter 13): who requests through a host window, whether its traffic is
stopped, and the read requests an item has out. -/
namespace Sys2Proof.Machine
open Sys2Proof

/-- The function whose requester ID a host window access carries (R478). -/
def Chip.requester (d : Chip) (a : Nat) : Nat :=
  let p := hostPf a
  match tget d.hif.hwin (p * 128 + a / 2 ^ 40 % 128) with
  | some w => if w.func = 0 ∨ w.func = 0x7F then p else if p = 0 then 1 + w.func else 64 + w.func
  | none => p

/-- Bus Master Enable of a function. -/
def Chip.busMaster (d : Chip) (fn : Nat) : Bool := if isVF fn then d.hif.vfMe.contains fn else d.flag (Reg.HIF_STATE.ME fn)

def Chip.frozen (d : Chip) (fn : Nat) : Bool := d.flag (Reg.HIF_STATE.FROZEN (pfOf fn))

/-- Whether a function issues no request now (R493, R495, R629). -/
def Chip.hostStopped (d : Chip) (fn : Nat) : Bool := d.frozen fn || !d.busMaster fn || d.flag Reg.FLT_SAFE.SAFE

/-- The host window ranges an item reads and writes: address, bytes, whether written. -/
def Item.hostRanges (i : Item) : List (Nat × Nat × Bool) :=
  let rs := match i.kind with
    | .work => (ranges i.body).map (fun (r : Rng) => (r.addr, r.bytes, r.write))
    | .dma _ => [(i.body.w1.toNat, wf i.body.w3 0 32, false), (i.body.w2.toNat, wf i.body.w3 0 32, true)]
    | .general 0x0D03 =>
      let op := wf i.body.w1 16 8
      let n := wf i.body.w1 32 32
      [(i.body.w2.toNat, n, false), (i.body.w3.toNat, if op = 3 then 32 else n, true), (i.body.w4.toNat, wf i.body.w5 0 32, false),
       (i.body.w6.toNat, if op = 3 then 0 else 28, op = 1), (i.body.w7.toNat, wf i.body.w1 24 8, false)]
    | _ => []
  rs.filter (fun r => isHostWin r.1 && r.2.1 ≠ 0)

/-- The host window addresses an item goes through: its ranges, and the LOCAL of a DVT operation. -/
def Item.hostAddrs (i : Item) : List Nat :=
  (i.hostRanges.map (·.1)) ++ (if i.kind = .dvt ∧ isHostWin (wf i.body.w2 0 52) ∧ wf i.body.w1 0 32 ≠ 0 then [wf i.body.w2 0 52] else [])

/-- Whether device access to a range pauses because the host link it needs is stopped (R493, R495). -/
def Chip.hostHeld (d : Chip) (a n : Nat) : Bool := n ≠ 0 && isHostWin a && d.hostStopped (d.requester a)

/-- Whether an item pauses because a host link it needs is stopped. -/
def Chip.hostPaused (d : Chip) (i : Item) : Bool := i.hostRanges.any (fun r => d.hostStopped (d.requester r.1))

/-- The lowest tag of a PF that is neither out nor quarantined. -/
def Chip.freeTag (d : Chip) (pf : Nat) : Nat :=
  ((List.range 16384).find? (fun t => !d.hif.reads.any (fun r => r.pf = pf && r.tag = some t) &&
    !d.hif.quar.any (fun q => q.1 = pf && q.2.1 = t))).getD 0

/-- A read request of an item. With 4,096 of its PF outstanding (R472) it waits for a tag. -/
def Chip.issueRead (d : Chip) (fn seq : Nat) (back : Bool := false) : Chip :=
  let full := (d.hif.reads.filter (fun r => r.pf = pfOf fn && r.tag.isSome)).length ≥ 4096
  { d with hif := { d.hif with reads := d.hif.reads ++
      [(⟨pfOf fn, if full then none else some (d.freeTag (pfOf fn)), seq, fn, d.tick, false, back⟩ : HostRead)] } }

/-- Read requests without a tag issued, oldest first, for the functions that may request. -/
def Chip.readsGo (d : Chip) : Chip :=
  d.hif.reads.foldl (fun (d : Chip) (r : HostRead) =>
    if r.tag.isNone ∧ !d.hostStopped r.fn ∧ (d.hif.reads.filter (fun x => x.pf = r.pf && x.tag.isSome)).length < 4096 then
      let t := d.freeTag r.pf
      { d with hif := { d.hif with reads := d.hif.reads.map (fun x => if x = r then { r with tag := some t, since := d.tick } else x) } }
    else d) d

/-- The read requests an item that starts has out. -/
def Chip.hostReads (d : Chip) (i : Item) : Chip :=
  i.hostRanges.foldl (fun (d : Chip) r =>
    if r.2.2 then d else (d.translate r.1 r.2.1).issueRead (d.requester r.1) i.seq) d

/-- Whether an item still waits for a completion. -/
def Chip.readsOut (d : Chip) (seq : Nat) : Bool := d.hif.reads.any (fun r => r.seq = seq)

end Sys2Proof.Machine
end

