-- ==== Sys2Proof/Machine/Plans.lean ====
section
/-! DEFINITION. The plan loader (R73 to R86, R93, R706): plan images, admission, grants, the plan commands and the
Frieze swap. -/
namespace Sys2Proof.Machine
open Sys2Proof

/-! ## Grants (R78) -/

/-- In-service cores no plan holds, lowest first; those of `own` count as free. -/
def freeCores (d : Chip) (own : List Nat) : List Nat :=
  (upCores d).filter (fun n => own.contains n || !d.ldr.plans.any (fun p => p.cores.contains n))

/-- The cores a plan would be granted: the desired number where free, else all free cores. -/
def grantOf (d : Chip) (h : PlanHeader) (own : List Nat) : List Nat := (freeCores d own).take h.wcDesired

/-- A failing measure: its code, port byte and detail (R84). -/
structure Misfit where
  measure : Nat
  port : Nat
  detail : Nat
  deriving DecidableEq, Repr

/-- Excess of a sum over its limit. -/
def excess (m port s lim : Nat) : Option Misfit := if s > lim then some ⟨m, port, s - lim⟩ else none

/-- Measure 3: ports ascending, egress before ingress. -/
def linkFit (d : Chip) (ps : List Plan) (h : PlanHeader) : Option Misfit :=
  (List.range 12).findSome? (fun p =>
    (excess 3 p (sumBy ps (egressOf p) + egressOf p h) (limitOf (linkCap d p))).orElse (fun _ =>
      excess 3 (128 + p) (sumBy ps (ingressOf p) + ingressOf p h) (limitOf (linkCap d p))))

/-- Measure 4: the grant. -/
def grantFit (d : Chip) (h : PlanHeader) (own : List Nat) : Option Misfit :=
  let g := (grantOf d h own).length
  if g < h.wcMin then some ⟨4, 0, h.wcMin - g⟩
  else
    let per := ceilDiv h.wcCycles g
    if per > limitOf d.F then some ⟨4, 0, 2 ^ 63 + (per - limitOf d.F)⟩ else none

/-- Admission under R75: the first measure that fails, the plan `ex` left out of the sums. -/
def misfit (d : Chip) (h : PlanHeader) (ex : Nat) (own : List Nat) : Option Misfit :=
  let ps := sumPlans d ex
  let fs := footPlans d ex
  [excess 0 0 (sumBy ps (·.wcCycles) + h.wcCycles) (limitOf (capWc d)),
   excess 1 0 (sumBy ps plinthCharge + plinthCharge h) (limitOf (capPlinth d)),
   excess 2 0 (sumBy ps (·.armInstr) + h.armInstr) (limitOf (capArm d)),
   linkFit d ps h, grantFit d h own,
   excess 5 0 (sumBy fs (·.footPlinth) + h.footPlinth) d.mu.planPlinth,
   excess 6 0 (sumBy fs (·.footNear) + h.footNear) d.mu.planNear,
   excess 7 0 (sumBy fs (·.footQuarry) + h.footQuarry) d.mu.planQuarry,
   excess 8 0 (sumBy (slotPlans d ex) (·.slots) + h.slots) 960].findSome? id

/-- A plan's grant written to the cores in logical order (R159, R168). -/
def Chip.grant (d : Chip) (plan : Nat) (cores : List Nat) : Chip :=
  cores.zipIdx.foldl (fun (d : Chip) p => (d.sr (Reg.WKC_GRANT.PLAN p.1) plan).sr (Reg.WKC_GRANT.LOGICAL p.1) p.2) d

def Chip.ungrant (d : Chip) (cores : List Nat) : Chip :=
  cores.foldl (fun (d : Chip) n => (d.sr (Reg.WKC_GRANT.PLAN n) 0).sr (Reg.WKC_GRANT.LOGICAL n) 0) d

/-! ## Plan images (R74, R706) -/

/-- A step entry. -/
structure Step where
  kind : Nat
  logical : Nat
  slotRef : Nat
  body : Nat
  offset : Nat
  cadence : Nat
  phase : Nat
  deriving DecidableEq, Repr

def fieldAt (bs : List Nat) (o n : Nat) : Nat := leNat ((bs.drop o).take n)

/-- The header of an image, from its 192 bytes. -/
def parseHeader (b : List Nat) : PlanHeader where
  kind := fieldAt b 6 1
  elastic := bitOf (fieldAt b 7 1) 0
  period := fieldAt b 8 2
  wcMin := fieldAt b 0xA 1
  wcDesired := fieldAt b 0xB 1
  imageLen := fieldAt b 0xC 4
  wcCycles := fieldAt b 0x10 4
  plinthBytes := fieldAt b 0x14 4
  armInstr := fieldAt b 0x18 4
  items := fieldAt b 0x1C 2
  slots := fieldAt b 0x1E 2
  footPlinth := fieldAt b 0x20 4
  footNear := fieldAt b 0x24 4
  footQuarry := fieldAt b 0x28 4
  overrunLimit := fieldAt b 0x2C 1
  stepTable := fieldAt b 0x30 4
  stepCount := fieldAt b 0x34 2
  replyRing := fieldAt b 0x36 2
  egress := (List.range 12).map (fun p => fieldAt b (0x40 + 4 * p) 4)
  ingress := (List.range 12).map (fun p => fieldAt b (0x70 + 4 * p) 4)

/-- Whether all bytes of a reserved part are zero. -/
def zeroAt (b : List Nat) (o n : Nat) : Bool := ((b.drop o).take n).all (· = 0)

/-- Whether the header's MAGIC, VERSION, CHECK and encodings are right (R74, R93). -/
def headerOk (d : Chip) (b : List Nat) (h : PlanHeader) : Bool :=
  fieldAt b 0 4 = 0x504C_414E && fieldAt b 4 2 = 1 && fieldAt b 0xBC 4 = crc32c (b.take 0xBC) &&
  1 ≤ h.kind && h.kind ≤ 4 && fieldAt b 7 1 < 2 && zeroAt b 0x2D 3 && zeroAt b 0x38 8 && zeroAt b 0xA0 0x1C &&
  1 ≤ h.wcMin && h.wcMin ≤ h.wcDesired && h.wcDesired ≤ 64 && 1 ≤ h.stepCount && h.stepCount ≤ 4096 &&
  h.stepTable % 32 = 0 && h.stepTable + 32 * h.stepCount ≤ h.imageLen &&
  h.replyRing < 16384 && d.rg (Reg.HIF_RING.ENABLE h.replyRing) = 1 && !isVF (d.ringFn h.replyRing)

def parseStep (b : List Nat) : Step :=
  ⟨fieldAt b 0 1, fieldAt b 1 1, fieldAt b 2 2, fieldAt b 4 4, fieldAt b 8 4, fieldAt b 12 1, fieldAt b 13 1⟩

/-- Whether a step entry carries no reserved encoding (R706). -/
def stepOk (b : List Nat) (s : Step) : Bool :=
  s.kind ≤ 4 && s.offset < 2 ^ 17 && zeroAt b 14 18 &&
  (if s.kind = 0 then s.logical = 0 && s.body = 0 && (s.slotRef ≤ 255 || s.slotRef = 0xFFFF)
   else s.slotRef = 0xFFFF && s.body % 64 = 0 && (if s.kind = 1 then s.logical < 64 else s.logical = 0))

/-- Whether a step's Frieze slot is one the loader can install (R93, PLAN_SLOT_BAD). -/
def stepSlotOk (d : Chip) (s : Step) : Bool :=
  64 ≤ s.offset && s.offset < d.F && s.cadence ≤ 7 && s.phase < 2 ^ s.cadence

def stepBytes (d : Chip) (image : Nat) (h : PlanHeader) (k : Nat) : List Nat := d.bytes (image + h.stepTable + 32 * k) 32

/-- Whether a step table reads as poisoned (R93). -/
def stepsPoisoned (d : Chip) (image : Nat) (h : PlanHeader) : Bool := d.anyPoison (image + h.stepTable) (32 * h.stepCount)

/-! ## Replies (R84) -/

def planLo (id granted measure port : Nat) : Nat := id + granted * 2 ^ 16 + measure * 2 ^ 24 + port * 2 ^ 32

def Chip.refuseFit (d : Chip) (src : Submit) (id : Nat) (m : Misfit) : Chip :=
  d.refuse src Code.REFUSED_FIT (planLo id 0 m.measure m.port) m.detail

def unlocked (d : Chip) : Bool := d.rg Reg.TCK_STATUS.STATE ≠ 1 && d.rg Reg.TCK_STATUS.STATE ≠ 3

/-- Whether a plan can still be named: loaded and with no PLAN_UNLOAD accepted (R81). -/
def named (d : Chip) (id : Nat) : Option Plan :=
  (d.plan id).filter (fun p => p.state ≠ .unloading && !d.ldr.cmds.any (fun c => c.plan = id && c.op = 1))

/-- Steps written into free shadow slots, in order (R706, R86). -/
def installSteps (sh : Tbl FriezeSlot) (plan : Nat) : List (Nat × Step) → Tbl FriezeSlot
  | [] => sh
  | (k, s) :: rest =>
    match firstFree sh 960 with
    | some i => installSteps (tput sh i ⟨0, plan, k, s.offset, 0, s.phase, s.cadence⟩) plan rest
    | none => sh

/-- PLAN_LOAD past its checks: the plan is LOADING with its grant and its shadow slots (R78, R82). It takes the lowest free identifier and
the lowest free place in the plan table (DESIGN CHOICE, log entry 65: R81 says only that the loader assigns them). -/
def loadPlan (d : Chip) (src : Submit) (image : Nat) (h : PlanHeader) (steps : List Step) : Chip :=
  let id := ((List.range 65535).find? (fun i => (d.plan (i + 1)).isNone)).getD 0 + 1
  let g := grantOf d h []
  let d := d.acceptCmd src (.general 0x0101) (genBody 0x0101 src [image]) (d.originDomain src.origin) (0x40 + d.roleCore 0)
  let entry := ((List.range 256).find? (fun k => d.ldr.plans.all (fun p => p.entry ≠ k))).getD 0
  let p : Plan := { id := id, entry := entry, state := .loading, hdr := h, image := image, cores := g, consec := 0, overruns := 0,
                    loadSeq := d.lastSeq, overran := false, unloadSeq := 0 }
  let c : PlanCmd := ⟨d.lastSeq, id, 0, false, g⟩
  let sh := installSteps d.ldr.shadow id (steps.zipIdx.map (fun p => (p.2, p.1)))
  let d : Chip := { d with ldr := { d.ldr with plans := d.ldr.plans ++ [p], cmds := d.ldr.cmds ++ [c], shadow := sh } }
  (d.grant id g).syncAdmit

/-- PLAN_LOAD's checks in the order of R93. -/
def planLoad (d : Chip) (src : Submit) (image : Nat) : Chip :=
  let d := if d.inDieOrNear image 192 then d.noteRead image 192 else d
  let b := d.bytes image 192
  let h := parseHeader b
  let d := if d.inDieOrNear image h.imageLen && d.inDieOrNear (image + h.stepTable) (32 * h.stepCount) then
      d.noteRead (image + h.stepTable) (32 * h.stepCount) else d
  if !d.inDieOrNear image 192 || !d.inDieOrNear image h.imageLen then d.refuse src Code.ACCESS_VIOLATION
  else if d.anyPoison image 192 || !headerOk d b h || stepsPoisoned d image h then d.refuse src Code.PLAN_BAD_IMAGE
  else
    let bs := (List.range h.stepCount).map (stepBytes d image h)
    let steps := bs.map parseStep
    if !bs.all (fun b => stepOk b (parseStep b)) then d.refuse src Code.PLAN_BAD_IMAGE
    else if h.period ≠ d.rg Reg.TCK_PERIOD.PERIOD then d.refuse src Code.PLAN_PERIOD
    else if h.slots ≠ h.stepCount || !steps.all (stepSlotOk d) then d.refuse src Code.PLAN_SLOT_BAD
    else if d.ldr.plans.length ≥ 256 then d.refuse src Code.PLAN_TABLE_FULL
    else if unlocked d then d.refuse src Code.TICK_UNLOCKED
    else match misfit d h 0 [] with
      | some m => d.refuseFit src 0 m
      | none => loadPlan d src image h steps

def execPlanLoad (src : Submit) (image : Nat) (s : State) : Out :=
  s.on (fun d => d.served 0 (fun d => d.submit src .tck false (fun d => planLoad d src image)))

/-- PLAN_UNLOAD (R83, R93). -/
def planUnload (d : Chip) (src : Submit) (id : Nat) : Chip :=
  match named d id with
  | none => d.refuse src Code.PLAN_UNKNOWN (planLo id 0 0 0)
  | some _ =>
    if unlocked d then d.refuse src Code.TICK_UNLOCKED (planLo id 0 0 0)
    else
      let d := d.acceptCmd src (.general 0x0102) (genBody 0x0102 src [id]) (d.originDomain src.origin) (0x40 + d.roleCore 0)
      let c : PlanCmd := ⟨d.lastSeq, id, 1, false, []⟩
      { d with ldr := { d.ldr with cmds := d.ldr.cmds ++ [c] } }

def execPlanUnload (src : Submit) (plan : Nat) (s : State) : Out :=
  s.on (fun d => d.served 0 (fun d => d.submit src .tck false (fun d => planUnload d src (plan % 65536))))

/-- PLAN_RESUME (R84, R93): a FAULTED plan's own cores count as free, a SUSPENDED plan receives a new grant, in place of the one that an
earlier PLAN_RESUME still waiting was given. -/
def planResume (d : Chip) (src : Submit) (id : Nat) : Chip :=
  match named d id with
  | none => d.refuse src Code.PLAN_UNKNOWN (planLo id 0 0 0)
  | some p =>
    if p.state ≠ .faulted && p.state ≠ .suspended then d.refuse src Code.PLAN_STATE (planLo id 0 0 0)
    else if unlocked d then d.refuse src Code.TICK_UNLOCKED (planLo id 0 0 0)
    else match misfit d p.hdr id p.cores with
      | some m => d.refuseFit src id m
      | none =>
        let g := if p.state = .suspended then grantOf d p.hdr p.cores else []
        let d := d.acceptCmd src (.general 0x0103) (genBody 0x0103 src [id]) (d.originDomain src.origin) (0x40 + d.roleCore 0)
        let c : PlanCmd := ⟨d.lastSeq, id, 2, false, g⟩
        let d : Chip := { d with ldr := { d.ldr with cmds := d.ldr.cmds ++ [c] } }
        (if p.state = .suspended then ((d.ungrant p.cores).updPlan id (fun p => { p with cores := g })).grant id g else d).syncAdmit

def execPlanResume (src : Submit) (plan : Nat) (s : State) : Out :=
  s.on (fun d => d.served 0 (fun d => d.submit src .tck false (fun d => planResume d src (plan % 65536))))

/-! ## The Frieze swap (R72, R82 to R84) -/

/-- The active Frieze follows the shadow: the device's own slots, and the slots of every plan that has been loaded. -/
def Chip.activate (d : Chip) : Chip :=
  { d with ldr := { d.ldr with active := d.ldr.shadow.filter (fun q =>
      q.2.kind ≠ 0 || d.ldr.plans.any (fun p => p.id = q.2.plan && p.state ≠ .loading)) } }

/-- The retraining slots of the 24 channels in the shadow Frieze (R282). -/
def Chip.retrainSlots (d : Chip) : Chip :=
  let o := d.rg Reg.MEM_RETRAIN_CFG.OFFSET
  { d with ldr := { d.ldr with shadow := (List.range 24).foldl (fun (t : Tbl FriezeSlot) g =>
      tput t (960 + g) ⟨1, 0, 0, if o = 0 then d.F - 1200 else o, g, g, d.rg Reg.MEM_RETRAIN_CFG.CADENCE⟩) d.ldr.shadow } }

/-- One plan command takes effect at the swap of the present tick. -/
def commitPlanCmd (d : Chip) (c : PlanCmd) : Chip :=
  let d := { d with ldr := { d.ldr with cmds := d.ldr.cmds.filter (fun x => x.seq ≠ c.seq) } }
  let granted := ((d.plan c.plan).map (·.cores.length)).getD 0
  match c.op with
  | 0 => (d.updPlan c.plan (fun p => { p with state := if p.state = .loading then .active else p.state })).endItem c.seq .committed Code.OK
      (planLo c.plan granted 0 0) d.tick
  | 1 =>
    let d := d.updPlan c.plan (fun p => { p with state := .unloading, unloadSeq := c.seq })
    let d := { d with ldr := { d.ldr with shadow := d.ldr.shadow.filter (fun q => q.2.plan ≠ c.plan || q.2.kind ≠ 0) } }
    let d := (d.endAttn (.planFault c.plan)).endAttn (.planSuspended c.plan)
    d.endItem c.seq .committed Code.OK (planLo c.plan 0 0 0) d.tick (due := false)
  | _ =>
    let d := d.updPlan c.plan (fun p => { p with state := .active, consec := 0 })
    let d := (d.endAttn (.planFault c.plan)).endAttn (.planSuspended c.plan)
    d.endItem c.seq .committed Code.OK (planLo c.plan 0 0 0) d.tick

/-- Whether a waiting plan command takes effect now: accepted before this tick, its item not withdrawn, and its
predecessors at an end state (R41). -/
def cmdReady (d : Chip) (c : PlanCmd) : Bool :=
  c.due && (match d.item c.seq with
    | some i => !i.state.ended && predsEnded d.led.items i
    | none => false)

/-- The waiting commands taken in sequence order, each against the state the earlier ones leave. -/
def commitPlanCmds (d : Chip) : List PlanCmd → Chip
  | [] => d
  | c :: cs => commitPlanCmds (if cmdReady d c then commitPlanCmd d c else d) cs

/-- The swap at frame cycle 16; none while TCK is FENCED (R92). -/
def friezeSwap (d : Chip) : Chip :=
  d.atCycle 16 (fun d =>
    if d.running .tck && !(d.agentRec (.block .tck)).fencing then
      let d := (commitPlanCmds d d.ldr.cmds).retrainSlots.activate
      { d with ldr := { d.ldr with swap := false } }.syncAdmit
    else d)

def execPendingFriezeSwap (s : State) : Out := s.on friezeSwap

/-- FRIEZE_SWAP of the TCK agent, used by the loader (R91): the swap is scheduled. -/
def execFriezeSwap (s : State) : Out :=
  s.on (fun d => { d with ldr := { d.ldr with swap := true },
                          answer := some ⟨.block .tck, true, d.agentSt (.block .tck), [], []⟩ })

end Sys2Proof.Machine
end

