-- ==== Sys2Proof/Machine/WorkOps.lean ====
section
/-! DEFINITION. The operators of the work cores (R136, R140 to R149): what each computes from memory, with the poison of its
inputs carried to its outputs. -/
namespace Sys2Proof.Machine
open Sys2Proof

/-- A byte with its poison. -/
abbrev PByte := Nat × Bool

/-- What one run of an operator gives: its writes in order, its flags, OUT_LEN and RESULT, and the code it is withdrawn
with (0 for none). -/
structure WorkOut where
  writes : List (Nat × List PByte) := []
  flags : Nat := 0
  outLen : Nat := 0
  result : Nat := 0
  fail : Nat := 0
  poison : Bool := false
  deriving DecidableEq, Repr

/-! ## Elements (R99) -/

/-- Element i of width w in a byte array, and whether a byte it lies in is poisoned. -/
def elemAt (bs : List PByte) (w i : Nat) : Nat × Bool :=
  let lo := i * w / 8
  let part := (bs.drop lo).take (ceilDiv (i * w % 8 + w) 8)
  (leNat (part.map (·.1)) / 2 ^ (i * w % 8) % 2 ^ w, part.any (·.2))

/-- Element patterns packed into bytes; a byte that holds part of a poisoned element is poisoned. -/
def packElems (w : Nat) (es : List (Nat × Bool)) : List PByte :=
  let total := es.zipIdx.foldl (fun a p => a + p.1.1 % 2 ^ w * 2 ^ (p.2 * w)) 0
  let n := if w = 6 then ceilDiv es.length 4 * 3 else if w = 4 then ceilDiv es.length 2 else es.length * w / 8
  (List.range n).map (fun j =>
    (total / 2 ^ (8 * j) % 256, (es.drop (8 * j / w)).take (ceilDiv 8 w + 1) |>.zipIdx |>.any (fun p =>
      p.1.2 && (8 * j / w + p.2) * w < 8 * j + 8)))

/-- A source tensor: its element patterns with their scale bytes (127 outside MX formats) and poison. -/
def Chip.rawElems (d : Chip) (addr fmt n scale : Nat) : List (Nat × Nat × Bool) :=
  let bs := d.lineRead addr (packedBytes fmt n)
  let sc := if isMX fmt then d.lineRead scale (ceilDiv n 32) else []
  (List.range n).map (fun i =>
    let e := elemAt bs (fmtBits fmt) i
    let s := if isMX fmt then sc.getD (i / 32) (127, false) else (127, false)
    (e.1, s.1, e.2 || s.2))

def elemVal (fmt : Nat) (e : Nat × Nat × Bool) : Val :=
  if isMX fmt then mxDecode fmt e.2.1 e.1 else decodeElem fmt e.1

/-- A source tensor as values (R102). -/
def Chip.elems (d : Chip) (addr fmt n scale : Nat) : List (Val × Bool) :=
  (d.rawElems addr fmt n scale).map (fun e => (elemVal fmt e, e.2.2))

/-! ## Destinations (R101, R105, R109, R113) -/

/-- The rounding of output element i of an item (R105, R107). -/
def roundingOf (rnd key seq i : Nat) : Rnd :=
  match rnd with
  | 0 => .nearest
  | 1 => .zero
  | _ => .stoch (srBits key seq i)

/-- Values converted into a format: element bytes, scale bytes and flags. -/
def convertTensor (fmt : Nat) (scl nanp : Bool) (rnd : Nat → Rnd) (vs : List (Val × Bool)) :
    List PByte × List PByte × Nat :=
  if isMX fmt then
    let blocks := (pieces (ceilDiv vs.length 32) 32 vs).zipIdx.map (fun b =>
      let r := mxBlock fmt scl nanp (fun i => rnd (32 * b.2 + i)) (b.1.map (·.1))
      let p := b.1.any (·.2)
      let pad := List.replicate (32 - b.1.length) 0
      ((r.1, p), (r.2.1 ++ pad).map (fun e => (e, p)), r.2.2))
    (packElems (fmtBits fmt) (blocks.flatMap (·.2.1)), blocks.map (·.1), blocks.foldl (fun a b => a ||| b.2.2) 0)
  else
    let es := vs.zipIdx.map (fun v => (convElem fmt (rnd v.2) nanp v.1.1, v.1.2))
    (packElems (fmtBits fmt) (es.map (fun e => (e.1.1, e.2))), [], es.foldl (fun a e => a ||| e.1.2) 0)

/-- The writes of a tensor of a descriptor at D, and their flags. -/
def destTensor (x : Desc) (key seq : Nat) (vs : List (Val × Bool)) : WorkOut :=
  let r := convertTensor x.fmtD x.scl x.nanp (roundingOf x.rnd key seq) vs
  { writes := (x.addrD, r.1) :: (if isMX x.fmtD then [(x.scaleD, r.2.1)] else []),
    flags := r.2.2, outLen := r.1.length, poison := vs.any (·.2) }

/-- FP32 values written as they are, with the flags their NaNs and infinities set (R123). -/
def f32Bytes (vs : List (Val × Bool)) : List PByte × Nat :=
  let r := convertTensor 0 false true (fun _ => .nearest) vs
  (r.1, r.2.2)

/-- A destination as it is written: a byte of a line that holds a poisoned byte is poisoned too, since whole lines are marked (R149). -/
def poisonLines (a : Nat) (bs : List PByte) : List PByte :=
  let first := 64 - a % 64
  (bs.take first :: pieces (ceilDiv (bs.length - first) 64) 64 (bs.drop first)).flatMap (fun l =>
    if l.any (·.2) then l.map (fun b => (b.1, true)) else l)

/-! ## Reductions (R120, R122, R136) -/

/-- A sum of integers in INT32 with saturation, in a free order; whether it saturated. -/
def satSum (choice : Nat → Nat) : Nat → Int → List Int → Int × Bool
  | 0, acc, _ => (acc, false)
  | k + 1, acc, ts =>
    if ts.isEmpty then (acc, false)
    else
      let i := choice k % ts.length
      let s := acc + ts.getD i 0
      let c := max (-2147483648) (min 2147483647 s)
      let r := satSum choice k c (ts.eraseIdx i)
      (r.1, r.2 || c ≠ s)

def valInt : Val → Int
  | .fin s m e => atExp s m e (min e 0) / (2 ^ (-(min e 0)).toNat : Nat)
  | _ => 0

/-- One element of a reduction by addition: the sum, and whether an integer sum saturated. -/
def reduceAdd (use elem : Nat) (ints f64 : Bool) (ts : List Val) : Val × Bool :=
  if ints then
    let r := satSum (Config.freeOrder use elem) ts.length 0 (ts.map valInt)
    (Val.ofInt r.1, r.2)
  else (sumOf (if f64 then fmtF64 else fmtF32) use elem ts, false)

/-- The operands of a reduction, element by element: A, B unless NOB, and D when ACC. -/
def Chip.reduceTerms (d : Chip) (x : Desc) : List (List Val × Bool) :=
  let a := d.elems x.addrA x.fmtA x.len x.scaleA
  let b := if x.nob then [] else d.elems x.addrB x.fmtB x.len x.scaleB
  let c := if x.acc then d.elems x.addrD x.fmtD x.len x.scaleD else []
  (List.range x.len).map (fun i =>
    let ts := [a, b, c].filterMap (fun l => if l.isEmpty then none else l[i]?)
    (ts.map (·.1), ts.any (·.2)))

/-- REDUCE_SUM: convert(σ × sum). -/
def opReduceSum (d : Chip) (x : Desc) (key seq : Nat) : WorkOut :=
  let fs := reduceFmts x
  let rs := (d.reduceTerms x).zipIdx.map (fun t => (reduceAdd d.free t.2 (fs.all isInt) (fs.contains 0xE) t.1.1, t.1.2))
  let o := destTensor x key seq (rs.map (fun r => (mulExact x.sigma r.1.1, r.2)))
  { o with flags := o.flags ||| (if rs.any (·.1.2) then afINT_SAT else 0) }

def foldVals (f : Val → Val → Val) : List Val → Val
  | [] => .fin false 0 0
  | v :: vs => vs.foldl f v

/-- REDUCE_MAX and REDUCE_MIN. -/
def opReducePick (f : Val → Val → Val) (d : Chip) (x : Desc) (key seq : Nat) : WorkOut :=
  destTensor x key seq ((d.reduceTerms x).map (fun t => (foldVals f t.1, t.2)))

/-- REDUCE_ARRIVE once every contribution is in: its contributions and A are summed (R137). -/
def opReduceArrive (cs : List Contribution) (d : Chip) (x : Desc) (key seq : Nat) : WorkOut :=
  let fs := reduceFmts x
  let arr := cs.map (fun c =>
    let bs := (List.range (packedBytes x.fmtB x.len)).map (fun i => ((tget c.bytes i).getD 0, c.bad.contains i))
    (List.range x.len).map (fun i => let e := elemAt bs (fmtBits x.fmtB) i; (decodeElem x.fmtB e.1, e.2)))
  let a := if x.addrA = 0 then [] else [d.elems x.addrA x.fmtA x.len 0]
  let rs := (List.range x.len).map (fun i =>
    let ts := (a ++ arr).map (fun l => l.getD i (.fin false 0 0, false))
    (reduceAdd d.free i (fs.all isInt) (fs.contains 0xE) (ts.map (·.1)), ts.any (·.2)))
  let o := destTensor x key seq (rs.map (fun r => (mulExact x.sigma r.1.1, r.2)))
  { o with flags := o.flags ||| (if rs.any (·.1.2) then afINT_SAT else 0) }

/-! ## DOT_ROWS (R115, R119, R140) -/

/-- A product as it enters a sum (R115). -/
def dotProduct (a b : Val) : Val := roundVal fmtF32 (mulExact a b)

/-- One dot product of a row and a vector: in an MX row, block by block under the block's scale. -/
def dotRow (use elem fmtA fmtB : Nat) (row : List (Nat × Nat × Bool)) (vec : List (Nat × Nat × Bool)) : Val :=
  if isMX fmtA then
    let bs := (pieces (ceilDiv row.length 32) 32 (row.zip vec)).zipIdx.map (fun b =>
      let s := sumOf fmtF32 use (elem * 65536 + b.2) (b.1.map (fun p => dotProduct (decodeElem fmtA p.1.1) (decodeElem fmtB p.2.1)))
      let x := ((b.1.head?.map (fun p => p.1.2.1)).getD 127)
      if x = 0xFF then Val.nan else roundVal fmtF32 (s.scale ((x : Int) - 127)))
    sumOf fmtF32 use (elem * 65536 + 65535) bs
  else sumOf fmtF32 use elem ((row.zip vec).map (fun p => dotProduct (decodeElem fmtA p.1.1) (decodeElem fmtB p.2.1)))

def opDotRows (d : Chip) (x : Desc) (key seq : Nat) : WorkOut :=
  let rows := pieces x.len x.dimY (d.rawElems x.addrA x.fmtA (x.len * x.dimY) x.scaleA)
  let vecs := pieces x.nq x.dimY (d.rawElems x.addrB x.fmtB (x.nq * x.dimY) 0)
  let vs := rows.zipIdx.flatMap (fun r => vecs.zipIdx.map (fun q =>
    (mulExact x.sigma (dotRow d.free (r.2 * x.nq + q.2) x.fmtA x.fmtB r.1 q.1), r.1.any (·.2.2) || q.1.any (·.2.2))))
  destTensor x key seq vs

/-! ## Transform (R141 to R146) -/

def opConvert (d : Chip) (x : Desc) (key seq : Nat) : WorkOut :=
  destTensor x key seq ((d.elems x.addrA x.fmtA x.len x.scaleA).map (fun e => (mulExact x.sigma e.1, e.2)))

/-- The sums g of the error-feedback operators, in FP32. -/
def Chip.feedback (d : Chip) (x : Desc) : List (Val × Bool) :=
  ((d.elems x.addrA x.fmtA x.len x.scaleA).zip (d.elems x.addrB 0 x.len 0)).map (fun p =>
    (addF fmtF32 (roundVal fmtF32 p.1.1) p.2.1, p.1.2 || p.2.2))

/-- The values a written tensor decodes to. -/
def decodeBack (fmt n : Nat) (els scs : List PByte) : List Val :=
  (List.range n).map (fun i => elemVal fmt ((elemAt els (fmtBits fmt) i).1, (scs.getD (i / 32) (127, false)).1, false))

def opQuantEf (d : Chip) (x : Desc) (key seq : Nat) : WorkOut :=
  let g := d.feedback x
  let r := convertTensor x.fmtD x.scl x.nanp (roundingOf x.rnd key seq) g
  let back := decodeBack x.fmtD x.len r.1 r.2.1
  let res := f32Bytes ((g.zip back).map (fun p => (addF fmtF32 p.1.1 p.2.neg, p.1.2)))
  { writes := ((x.addrD, r.1) :: (if isMX x.fmtD then [(x.scaleD, r.2.1)] else [])) ++ [(x.addrY, res.1)],
    flags := r.2.2 ||| (res.2 &&& (afNAN_OUT + afINF_OUT)), outLen := r.1.length, poison := g.any (·.2) }

/-- Whether an element ranks above another (R122): by value or magnitude, NaN below or above every number, equal values by
lower index. -/
def ranksAbove (absr nanp : Bool) (a b : Val × Nat) : Bool :=
  let f (v : Val) := if absr then v.abs else v
  match a.1.isNaN, b.1.isNaN with
  | true, true => a.2 < b.2
  | true, false => nanp
  | false, true => !nanp
  | false, false => valLt false (f b.1) (f a.1) || (!valLt false (f a.1) (f b.1) && a.2 < b.2)

def insertRank (lt : Val × Nat → Val × Nat → Bool) (a : Val × Nat) : List (Val × Nat) → List (Val × Nat)
  | [] => [a]
  | b :: bs => if lt a b then a :: b :: bs else b :: insertRank lt a bs

/-- The elements selected, window after window, in rank order: value and item-relative index (R143). -/
def topkSelect (absr nanp : Bool) (k w : Nat) (vs : List Val) : List (Val × Nat) :=
  (pieces (ceilDiv vs.length w) w vs).zipIdx.flatMap (fun win =>
    let es := win.1.zipIdx.map (fun e => (e.1, win.2 * w + e.2))
    (es.foldl (fun acc e => insertRank (ranksAbove absr nanp) e acc) []).take (min k win.1.length))

/-- Whether any element of the window that element i lies in is poisoned. -/
def windowPoison (w : Nat) (vs : List (Val × Bool)) (i : Nat) : Bool := ((vs.drop (i / w * w)).take w).any (·.2)

def indexBytes (w : Nat) (vs : List (Val × Bool)) (sel : List (Val × Nat)) : List PByte :=
  sel.flatMap (fun s => (leBytes 4 s.2).map (fun b => (b, windowPoison w vs s.2)))

def opTopk (d : Chip) (x : Desc) (key seq : Nat) : WorkOut :=
  let vs := d.elems x.addrA x.fmtA x.len 0
  let sel := topkSelect x.absrank x.nanp x.param x.window (vs.map (·.1))
  let o := destTensor x key seq (sel.map (fun s => (s.1, windowPoison x.window vs s.2)))
  { o with writes := o.writes ++ [(x.addrY, indexBytes x.window vs sel)], outLen := sel.length }

def opTopkEf (d : Chip) (x : Desc) (key seq : Nat) : WorkOut :=
  let g := d.feedback x
  let sel := topkSelect true x.nanp x.param x.window (g.map (·.1))
  let o := destTensor x key seq (sel.map (fun s => (s.1, windowPoison x.window g s.2)))
  let back := decodeBack x.fmtD sel.length ((o.writes.head?.map (·.2)).getD []) []
  let res := f32Bytes (g.zipIdx.map (fun e =>
    match (sel.zip back).find? (fun s => s.1.2 = e.2) with
    | some s => (addF fmtF32 e.1.1 s.2.neg, windowPoison x.window g e.2)
    | none => (e.1.1, windowPoison x.window g e.2)))
  { o with writes := o.writes ++ [(x.addrY, indexBytes x.window g sel), (x.addrZ, res.1)],
           flags := o.flags ||| (res.2 &&& (afNAN_OUT + afINF_OUT)), outLen := sel.length }

/-- The chunks of a byte operand; an empty operand has one empty chunk (R132, R145). -/
def Chip.chunks (d : Chip) (x : Desc) : List (List PByte) :=
  if x.param = 0 ∨ x.len = 0 then [d.lineRead x.addrA x.len]
  else pieces (chunkCount x) x.param (d.lineRead x.addrA x.len)

/-- A digest of every chunk, written one after the other. -/
def opDigest (h : List Nat → List Nat) (d : Chip) (x : Desc) : WorkOut :=
  let ds := (d.chunks x).map (fun c => (h (c.map (·.1)), c.any (·.2)))
  let out := ds.flatMap (fun g => g.1.map (fun b => (b, g.2)))
  { writes := [(x.addrD, out)], outLen := out.length, poison := ds.any (·.2),
    result := leNat (((ds.getLast?.map (·.1)).getD []).take 8) }

def opSha256 (d : Chip) (x : Desc) : WorkOut := opDigest sha256 d x

def opCrc32c (d : Chip) (x : Desc) : WorkOut := opDigest (fun bs => leBytes 4 (crc32c bs)) d x

/-- A whole byte output that must fit in PARAM bytes. -/
def bytesOut (x : Desc) (out : List Nat) (p : Bool) : WorkOut :=
  if out.length > x.param then { fail := Code.WC_DST_SHORT, poison := p }
  else { writes := [(x.addrD, out.map (fun b => (b, p)))], outLen := out.length, poison := p }

def opLz4Pack (d : Chip) (x : Desc) : WorkOut :=
  let a := d.lineRead x.addrA x.len
  if x.len = 0 then {} else bytesOut x (lz4Pack (a.map (·.1))) (a.any (·.2))

def opLz4Unpack (d : Chip) (x : Desc) : WorkOut :=
  let a := d.lineRead x.addrA x.len
  if x.len = 0 then {}
  else match lz4Decode (a.map (·.1)) with
    | some out => bytesOut x out (a.any (·.2))
    | none => { fail := Code.WC_LZ4_CORRUPT, poison := a.any (·.2) }

/-! ## Gather and scatter (R133, R147, R148) -/

def opCopy (d : Chip) (x : Desc) : WorkOut :=
  let a := d.lineRead x.addrA x.len
  { writes := [(x.addrD, a)], outLen := x.len, poison := a.any (·.2) }

def opFill (x : Desc) : WorkOut :=
  { writes := [(x.addrD, (List.range x.len).map (fun j => (x.w5.toNat / 2 ^ (8 * (j % 8)) % 256, false)))], outLen := x.len }

/-- Entry i of a block list: address and length, or none where the walker refuses it (R133). -/
def Chip.listEntry (d : Chip) (list i fn : Nat) (write : Bool) : Option (Nat × Nat) :=
  let e := list + 16 * i
  let w := d.num e 8
  let v := d.num (e + 8) 8
  let n := v % 2 ^ 32
  if (d.lineRead e 16).any (·.2) || w ≥ 2 ^ 52 || v ≥ 2 ^ 32 || n = 0 || n > 0x1000_0000 ||
      !d.accessOk fn w n write then none
  else some (w, n)

/-- The walker: pairs (list block, consecutive address) with their lengths, and the code it stops with. -/
def Chip.walkList (d : Chip) (list fn run0 : Nat) (listWrites : Bool) : Nat → Nat → Nat → List (Nat × Nat × Nat) × Nat
  | 0, _, _ => ([], 0)
  | k + 1, i, run =>
    match d.listEntry list i fn listWrites with
    | none => ([], Code.WC_LIST_BAD)
    | some (a, n) =>
      if !d.accessOk fn run0 (run + n - run0) (!listWrites) then ([], Code.ACCESS_VIOLATION)
      else
        let r := d.walkList list fn run0 listWrites k (i + 1) (run + n)
        ((a, run, n) :: r.1, r.2)

/-- Blocks moved: from and to addresses and lengths. Where a destination overlaps a source, each byte of it holds the
source byte before or after the item, as the free value chooses (R148). -/
def moveBlocks (d : Chip) (ms : List (Nat × Nat × Nat)) (code : Nat) : WorkOut :=
  let data := ms.map (fun m => (m.2.1, d.lineRead m.1 m.2.2))
  let clash := ms.any (fun m => ms.any (fun k => overlaps m.1 m.2.2 k.2.1 k.2.2))
  let d1 := data.foldl (fun (e : Chip) (w : Nat × List PByte) => e.writeRange w.1 w.2) d
  let data := if clash then ms.map (fun m =>
      (m.2.1, (d.lineRead m.1 m.2.2).zipIdx.map (fun b =>
        if Config.freeNat (d.free + m.2.1 + b.2) % 2 = 0 then b.1 else ((d1.byteAt (m.1 + b.2)), b.1.2)))) else data
  { writes := data, outLen := (ms.map (·.2.2)).foldl (· + ·) 0, fail := code, poison := data.any (fun w => w.2.any (·.2)) }

def opGather (d : Chip) (x : Desc) (fn : Nat) : WorkOut :=
  let r := d.walkList x.addrA fn x.addrD false x.len 0 x.addrD
  moveBlocks d r.1 r.2

def opScatter (d : Chip) (x : Desc) (fn : Nat) : WorkOut :=
  let r := d.walkList x.addrD fn x.addrA true x.len 0 x.addrA
  moveBlocks d (r.1.map (fun m => (m.2.1, m.1, m.2.2))) r.2

end Sys2Proof.Machine
end

