-- ==== Sys2Proof/Machine/Attention.lean ====
section
/-! DEFINITION. Partial attention (R138, R139) over KV blocks in their slab layout (R210 to R212). -/
namespace Sys2Proof.Machine
open Sys2Proof

/-- Row t of the keys of the slab at an address, or of its values. -/
def Chip.kvRow (d : Chip) (fmt dim slab t : Nat) (values : Bool) : List (Nat × Nat × Bool) :=
  let base := slab + if values then slabElems fmt dim + slabScales fmt dim else 0
  d.rawElems (base + t * (dim * fmtBits fmt / 8)) fmt dim (base + slabElems fmt dim + t * (dim / 32))

/-! ## One head (R138) -/

/-- The format the weights p are rounded to. -/
def pFmt (kv : Nat) : FloatFmt := (floatFmt (if kv = 1 ∨ kv = 2 then 1 else 3)).getD fmtF32

/-- What one query head gives: O, m and L, and whether a poisoned line went in: into each element of O, and into m and L, which no value
of V enters. -/
structure HeadOut where
  o : List (Val × Bool)
  m : Val
  l : Val
  poison : Bool
  deriving DecidableEq, Repr

def HeadOut.anyPoison (h : HeadOut) : Bool := h.poison || h.o.any (·.2)

/-- Tokens of the blocks as (slab address of the head, row). -/
def tokensOf (blocks : List (Nat × Nat)) (ofs : Nat) : List (Nat × Nat) :=
  blocks.flatMap (fun b => (List.range b.2).map (fun t => (b.1 + ofs, t)))

def attnHead (d : Chip) (use : Nat) (sigma : Val) (fmtQ fmtK dim : Nat) (q : List (Nat × Nat × Bool))
    (toks : List (Nat × Nat)) : HeadOut :=
  let ks := toks.map (fun t => d.kvRow fmtK dim t.1 t.2 false)
  let vs := toks.map (fun t => d.kvRow fmtK dim t.1 t.2 true)
  let s := ks.zipIdx.map (fun k => roundVal fmtF32 (mulExact sigma (dotRow use k.2 fmtK fmtQ k.1 q)))
  let m := foldVals valMax s
  let p := s.map (fun x => roundVal (pFmt fmtK) (exp2F32 (addF fmtF32 x m.neg)))
  let l := sumBounded use toks.length p
  let bad := (q ++ ks.flatten).any (·.2.2)
  let o := (List.range dim).map (fun j =>
    let col := vs.map (fun v => v.getD j (0, 127, false))
    (divF fmtF32 (sumBounded use (toks.length + 1 + j)
      ((p.zip col).map (fun w => roundVal fmtF32 (mulExact w.1 (elemVal fmtK w.2))))) l, bad || col.any (·.2.2)))
  ⟨o, m, addF fmtF32 m (log2F32 toks.length l), bad⟩

/-- All heads over blocks given by the address of their first covered slab and their tokens. -/
def attnCore (d : Chip) (sigma : Val) (fmtQ fmtK hq hkv dim : Nat) (qs : List (List (Nat × Nat × Bool)))
    (blocks : List (Nat × Nat)) : List HeadOut :=
  qs.zipIdx.map (fun q => attnHead d (d.free + 65536 * q.2) sigma fmtQ fmtK dim q.1
    (tokensOf blocks (q.2 * hkv / hq * slabBytes fmtK dim)))

/-- O, padded to 64 bytes, then m and L in FP32 (R139). -/
def attnOut (fmtO : Nat) (nanp : Bool) (rnd : Nat → Rnd) (hs : List HeadOut) : List PByte × Nat :=
  let r := convertTensor fmtO false nanp rnd (hs.flatMap (·.o))
  let m := f32Bytes (hs.map (fun h => (h.m, h.poison)))
  let l := f32Bytes (hs.map (fun h => (h.l, h.poison)))
  (r.1 ++ List.replicate (pad64 r.1.length - r.1.length) (0, false) ++ m.1 ++ l.1, r.2.2 ||| m.2 ||| l.2)

/-- ATTN_PARTIAL over the block list at B (R133, R138): every entry's length is HKV slabs. -/
def opAttnPartial (d : Chip) (x : Desc) (fn key seq : Nat) : WorkOut :=
  let need := x.hkv * slabBytes x.fmtB x.dimX
  let es := (List.range x.len).map (fun i => d.listEntry x.addrB i fn false)
  if es.any (fun e => match e with | some (_, n) => n ≠ need | none => true) then { fail := Code.WC_LIST_BAD }
  else
    let blocks := (es.filterMap id).zipIdx.map (fun e => (e.1.1, if e.2 + 1 = x.len then x.validLast else 64))
    let qs := pieces x.hq x.dimX (d.rawElems x.addrA x.fmtA (x.hq * x.dimX) 0)
    let hs := attnCore d x.sigma x.fmtA x.fmtB x.hq x.hkv x.dimX qs blocks
    let r := attnOut x.fmtD x.nanp (roundingOf x.rnd key seq) hs
    { writes := [(x.addrD, r.1)], flags := r.2, outLen := r.1.length, poison := hs.any HeadOut.anyPoison }

end Sys2Proof.Machine
end

