-- ==== Sys2Proof/Machine/WorkMeter.lean ====
section
/-! DEFINITION. What a work item costs (R114, R150): the bytes it reads and writes by place, and the cycles that it occupies its unit for. -/
namespace Sys2Proof.Machine
open Sys2Proof

/-! ## Bytes by place -/

/-- Bytes moved: Plinth bytes, bytes from other tiers and windows, bytes to them, and link bytes by port. -/
structure Traffic where
  plinth : Nat := 0
  fromOther : Nat := 0
  toOther : Nat := 0
  egress : Tbl Nat := []
  ingress : Tbl Nat := []
  deriving DecidableEq, Repr

def Traffic.add (a b : Traffic) : Traffic :=
  ⟨a.plinth + b.plinth, a.fromOther + b.fromOther, a.toOther + b.toOther, tadd a.egress b.egress, tadd a.ingress b.ingress⟩

/-- The bytes of a range that lies in one place; an accelerator window is reached through its port. -/
def placeTraffic (a n : Nat) (write : Bool) : Traffic :=
  if n = 0 then {}
  else if isPlinth a then { plinth := n }
  else
    let port := (a - 0x8000_0000_0000) / 0x2000_0000_0000
    let link : Tbl Nat := if isAccel a then [(port, n)] else []
    if write then { toOther := n, egress := link } else { fromOther := n, ingress := link }

/-- The bytes of a range: in the paged range each page counts where it lies. -/
def Chip.rangeTraffic (d : Chip) (a n : Nat) (write : Bool) : Traffic :=
  if !isPaged a then placeTraffic a n write
  else
    (List.range (ceilDiv (a % 0x1_0000 + n) 0x1_0000)).foldl (fun (t : Traffic) k =>
      let lo := max a ((a / 0x1_0000 + k) * 0x1_0000)
      let hi := min (a + n) ((a / 0x1_0000 + k + 1) * 0x1_0000)
      t.add (match d.xlate lo with
        | some p => placeTraffic p (hi - lo) write
        | none => {})) {}

def Chip.trafficOf (d : Chip) (rs : List (Nat × Nat)) (write : Bool) : Traffic :=
  rs.foldl (fun (t : Traffic) r => t.add (d.rangeTraffic r.1 r.2 write)) {}

/-- Staged in-place bytes pass through the redo area: written there, read from there, then written to their destination (R153). -/
def Traffic.staged (n : Nat) : Traffic := { plinth := 2 * n }

/-! ## Cycles (R150) -/

/-- What an operator works on: FIXED, what is added outside the maximum, and its terms of WORK / RATE, each as WORK and RATE. -/
structure WorkTerms where
  fixed : Nat
  added : Nat := 0
  terms : List (Nat × Nat) := []
  deriving DecidableEq, Repr

/-- MACs per cycle of an operand format (R114). -/
def macRate (fmt : Nat) : Nat := if fmt = 9 then 4096 else if fmt = 1 ∨ fmt = 2 then 1024 else 2048

def WorkTerms.cycles (w : WorkTerms) (t : Traffic) : Nat :=
  w.fixed + w.added +
    ((w.terms.map (fun p => ceilDiv p.1 p.2)) ++ [ceilDiv t.plinth 384, ceilDiv t.fromOther 512, ceilDiv t.toOther 512]).foldl max 0

/-- Terms of a reduction of n elements of streams with `bits` bits an element in all: a rate that is the lower of two is the higher of
two terms. -/
def reduceTerms (fp64 : Bool) (streams bits n : Nat) : List (Nat × Nat) :=
  [(n * streams, if fp64 then 32 else 256), (n * bits, 4096)]

/-- REDUCE_ARRIVE of `c` contributions of n elements. -/
def arriveTerms (fmtAcc fmtC n c : Nat) : WorkTerms :=
  ⟨24, 0, [(n * c, if fmtAcc = 0xE ∨ fmtC = 0xE then 32 else 256), (n * c * fmtBits fmtC, 4096)]⟩

def attnTerms (hq dim tokens fmtKv : Nat) : WorkTerms :=
  ⟨120, 0, [(2 * hq * dim * tokens, min (macRate fmtKv) (macRate (if fmtKv = 1 ∨ fmtKv = 2 then 1 else 3)))]⟩

def dotTerms (rows nq dim fmtA fmtB : Nat) : WorkTerms := ⟨64, 0, [(rows * nq * dim, min (macRate fmtA) (macRate fmtB))]⟩

def topkTerms (n k window : Nat) : WorkTerms :=
  let ws := if window = 0 then 1 else ceilDiv n window
  ⟨32 * ws, 0, [(n + 4 * ceilDiv k 64 * ws, 64)]⟩

/-- The terms of a work item; `out` is the output it wrote, `tokens` those of its KV blocks. -/
def workTerms (x : Desc) (tokens out : Nat) : WorkTerms :=
  match x.op with
  | 0x04 => arriveTerms x.fmtA x.fmtB x.len x.contrib
  | 0x10 => attnTerms x.hq x.dimX tokens x.fmtB
  | 0x11 => dotTerms x.len x.nq x.dimY x.fmtA x.fmtB
  | 0x20 => ⟨40, 0, [(x.len, 128)]⟩
  | 0x21 => ⟨48, 0, [(x.len, 128)]⟩
  | 0x22 => topkTerms x.len x.param x.window
  | 0x23 => topkTerms x.len x.param x.window
  | 0x24 => ⟨80 * chunkCount x, 0, [(x.len, 4)]⟩
  | 0x25 => ⟨16 * chunkCount x, 0, [(x.len, 64)]⟩
  | 0x26 => ⟨64, 0, [(x.len, 16)]⟩
  | 0x27 => ⟨32, 0, [(out, 32)]⟩
  | 0x30 => ⟨24, 0, []⟩
  | 0x31 => ⟨24, 8 * x.len, []⟩
  | 0x32 => ⟨24, 8 * x.len, []⟩
  | 0x33 => ⟨16, 0, []⟩
  | _ =>
    let fmts := x.fmtA :: ((if x.nob then [] else [x.fmtB]) ++ (if x.acc then [x.fmtD] else []))
    ⟨40, 0, reduceTerms (fmts.contains 0xE || x.fmtD = 0xE) fmts.length ((fmts.map fmtBits).foldl (· + ·) 0) x.len⟩

/-! ## One item -/

/-- The KV blocks of an ATTN_PARTIAL: address, bytes read and tokens. -/
def Chip.kvBlocks (d : Chip) (x : Desc) (fn : Nat) : List (Nat × Nat × Nat) :=
  (List.range x.len).filterMap (fun i =>
    let t := if i + 1 = x.len then x.validLast else 64
    (d.listEntry x.addrB i fn false).map (fun e => (e.1, e.2 * t / 64, t)))

/-- What an item reads beside the ranges of its descriptor: KV blocks, and the blocks of a list. -/
def Chip.listReads (d : Chip) (x : Desc) (fn : Nat) : List (Nat × Nat) :=
  match x.op with
  | 0x10 => (d.kvBlocks x fn).map (fun b => (b.1, b.2.1))
  | 0x31 => (d.walkList x.addrA fn x.addrD false x.len 0 x.addrD).1.map (fun m => (m.1, m.2.2))
  | 0x32 => (d.walkList x.addrD fn x.addrA true x.len 0 x.addrA).1.map (fun m => (m.2.1, m.2.2))
  | _ => []

/-- The use of an item that wrote `o`, by R150: its cycles and its bytes. -/
def Chip.itemUse (d : Chip) (x : Desc) (fn : Nat) (o : WorkOut) : PlanUse :=
  let reads := ((ranges x).filter (fun r => !r.write)).map (fun r => (r.addr, r.bytes)) ++ d.listReads x fn
  let writes := o.writes.map (fun w => (w.1, w.2.length))
  let t := ((d.trafficOf reads false).add (d.trafficOf writes true)).add (Traffic.staged (inPlaceBytes x))
  let tokens := if x.op = 0x10 then ((d.kvBlocks x fn).map (fun b => b.2.2)).foldl (· + ·) 0 else 0
  { wc := (workTerms x tokens ((writes.map (·.2)).foldl (· + ·) 0)).cycles t
    plinth := t.plinth, egress := t.egress, ingress := t.ingress }

end Sys2Proof.Machine
end

