-- ==== Sys2Proof/Machine/WorkPool.lean ====
section
/-! DEFINITION. Work items on the work cores (R124 to R166): submission, the operators' runs, in-place items, the core pool, and
the commands of the WKC agents. -/
namespace Sys2Proof.Machine
open Sys2Proof

/-! ## Submission (R128, R130) -/

/-- A descriptor checked and accepted as a work item of a domain and plan, for a logical core (256 for any). -/
def Chip.submitWork (d : Chip) (src : Submit) (x : Desc) (logical : Nat) : Chip :=
  let src := { src with tag := BitVec.ofNat 32 x.tag }
  match d.workCheck (d.originFn src.origin) x with
  | some c => d.refuse src c
  | none =>
    let d := d.acceptCmd src .work x (d.originDomain src.origin)
    { d with wk := { d.wk with logical := tput d.wk.logical d.lastSeq logical, runs := tput d.wk.runs d.lastSeq {} } }

/-- The target a descriptor of an Armature core names (R326); any core for the others. -/
def Chip.targetOf (d : Chip) (o : Origin) : Nat :=
  match o with
  | .core n h => ((tget (d.core n).handles h).map (·.target)).getD 256
  | _ => 256

/-- Whether a descriptor is the one its submitter holds out. -/
def Chip.ownDesc (d : Chip) (o : Origin) (x : Desc) (cipher : Bool) : Bool :=
  match o with
  | .core n h => (tget (d.core n).handles h).any (fun k => k.desc = x && k.cipher = cipher)
  | _ => true

def execWorkDescriptorSubmit (src : Submit) (x : Desc) (s : State) : Out :=
  s.on (fun d => if d.ownDesc src.origin x false then
    d.submit src .wkc true (fun d => d.submitWork src x (d.targetOf src.origin)) 1 else d)

/-! ## Dispatch (R124, R151, R155, R159, R161) -/

/-- Whether every earlier item of an item's domain has reached an end state. -/
def earlierEnded (is : List Item) (i : Item) : Bool :=
  is.all (fun j => !(j.domain = i.domain && j.seq < i.seq) || j.state.ended)

/-- Whether another in-place item holds the redo area of a core: it runs there, or has committed and its copy is not complete (R151). -/
def redoBusy (d : Chip) (core seq : Nat) : Bool :=
  d.led.items.any (fun i => i.kind = .work && i.seq ≠ seq && !i.replied && ((tget d.wk.runs i.seq).any (fun r => r.core = core)) &&
    (if i.state.ended then i.redo else i.state = .running && isInPlace i.body))

/-- The physical core that a plan's item is bound to (R159); none for an item outside plans, and of a plan that is SUSPENDED (R161), whose new
grant counts from the commit of its PLAN_RESUME (R78). -/
def boundCore (d : Chip) (i : Item) : Option Nat :=
  let l := (tget d.wk.logical i.seq).getD 256
  if i.plan = 0 ∨ l ≥ 256 then none
  else (d.plan i.plan).bind (fun p => if p.state = .suspended then none else p.cores[l % p.cores.length]?)

/-- Whether an item waits though its unit is idle: its block, its host, its plan's budget, the tick's order or its predecessors hold it. -/
def itemHeld (d : Chip) (i : Item) : Bool :=
  d.hostPaused i || d.spent i.plan || (i.carried && d.tck.carriedWait) || (i.body.wait && !earlierEnded d.led.items i)

/-- Whether an item goes before another: among those bound to one unit the queue is in the order of acceptance (R124), and the items of a
SUSPENDED plan start in the order of their ordering domain (R161). -/
def goesBefore (d : Chip) (j i : Item) : Bool :=
  j.seq < i.seq && j.state = .accepted && j.kind = .work &&
  (match boundCore d i with
   | some c => j.plan = i.plan && boundCore d j = some c && opUnit j.body.op = opUnit i.body.op
   | none => j.domain = i.domain && i.plan ≠ 0 && (d.plan i.plan).any (fun p => p.state = .suspended))

/-- Whether work of a plan waits for a unit of a core: an item from outside the plans never delays it (R159, R161). -/
def planWaits (d : Chip) (core unit : Nat) : Bool :=
  d.led.items.any (fun j => j.state = .accepted && j.kind = .work && opUnit j.body.op = unit && boundCore d j = some core && !itemHeld d j)

/-- Whether a unit takes an item: it is idle, or what it holds came from outside the plans and the item is bound to the core (R159). The
item put aside stays RUNNING, and has the unit again when the plan's work has ended (DESIGN CHOICE, log entry 77: R159 says that such items
run in cycles left idle, and not what a unit shows meanwhile). -/
def unitFree (d : Chip) (i : Item) (core unit : Nat) : Bool :=
  let q := d.rg (Reg.WKC_UNIT_SEQ.SEQ core unit)
  q = 0 || (boundCore d i = some core && (d.item q).any (fun j => boundCore d j ≠ some core))

/-- Whether an item may run on a core (R159, R161): a plan item on its logical core, any other on an in-service core that
no plan holds, or on a granted one when every core is granted. -/
def coreFits (d : Chip) (i : Item) (core : Nat) : Bool :=
  let unit := opUnit i.body.op
  coreUp d core && !(d.agentRec (wcAgent core)).fencing &&
  (match boundCore d i with
   | some c => c = core
   | none => !planWaits d core unit && ((d.plan i.plan).any (fun p => p.state = .suspended) || (freeCores d []).isEmpty ||
      (freeCores d []).contains core))

/-- Whether a core is a stripe core of an ARMED slot: its reduce unit runs no other item (R191). -/
def slotCore (d : Chip) (core : Nat) : Bool :=
  d.coll.slots.any (fun p => p.2.state = .armed &&
    ((((d.plan p.2.img.sPlan).map (·.cores)).getD []).take p.2.img.sCores).contains core)

/-- Whether an item may be dispatched to a core now. -/
def canRun (d : Chip) (i : Item) (core op : Nat) : Bool :=
  i.state = .accepted && i.kind = .work && i.body.op = op && d.running .wkc && !d.flag Reg.FLT_SAFE.SAFE && d.clocked 0 && !d.hub.inReset &&
  !itemHeld d i && !d.led.items.any (fun j => goesBefore d j i) && coreFits d i core && unitFree d i core (opUnit op) &&
  !(opUnit op = 0 && slotCore d core) && !(isInPlace i.body && redoBusy d core i.seq)

/-- The redo area of a core (R153). -/
def redoArea (core : Nat) : Nat := 0x3000_0000 + core * 0x10_0000

/-- The writes of a run: in-place ranges go to the redo area, the others to their destinations. -/
def Chip.workWrites (d : Chip) (x : Desc) (core : Nat) : Nat → List (Nat × List PByte) → Chip × List (Nat × Nat × Nat)
  | _, [] => (d, [])
  | ofs, w :: ws =>
    let ip := (ranges x).any (fun r => r.write && r.addr = w.1 && r.bytes ≠ 0 && (Rng.inPlace (ranges x) r))
    if ip ∧ x.op ≠ 0x31 ∧ x.op ≠ 0x32 then
      let r := (d.writePhys (redoArea core + ofs) w.2).workWrites x core (ofs + w.2.length) ws
      (r.1, (redoArea core + ofs, w.1, w.2.length) :: r.2)
    else (d.writeRange w.1 w.2).workWrites x core ofs ws

/-- The lines at both ends of a destination that a run leaves poisoned, marked whole (R149). -/
def Chip.poisonEnds (d : Chip) (a : Nat) (bs : List PByte) : Chip :=
  let d := if bs.head?.any (·.2) then d.poisonLine a else d
  if bs.getLast?.any (·.2) then d.poisonLine (a + bs.length - 1) else d

/-- A run's destinations with the poison of their lines. -/
def WorkOut.lines (o : WorkOut) : List (Nat × List PByte) := o.writes.map (fun w => (w.1, poisonLines w.1 w.2))

/-- The reply of a work item (R157). -/
def workReply (r : WorkRun) : ReplyData :=
  ⟨if r.poison then Code.POISONED_DATA else Code.OK, r.flags + r.core * 2 ^ 8 + r.runs * 2 ^ 16 + r.outLen * 2 ^ 32, r.result⟩

/-- An item taken by a core: RUNNING, its unit held, its run counted. -/
def Chip.dispatch (d : Chip) (i : Item) (core : Nat) : Chip :=
  let r := (tget d.wk.runs i.seq).getD {}
  let d := d.updItem i.seq (fun i => { i with state := .running, owner := core })
  let d := d.sr (Reg.WKC_UNIT_SEQ.SEQ core (opUnit i.body.op)) i.seq
  let d := if i.replayed then d.count (Reg.WKC_REPLAYS.COUNT core) else d
  let r := { r with core := core, runs := min (r.runs + 1) 255, done := false, staged := [], key := d.rg (Reg.WKC_SR_KEY.KEY core), unit := opUnit i.body.op }
  ({ d with wk := { d.wk with runs := tput d.wk.runs i.seq r } }).hostReads i

/-- The outcome of a run: what it wrote, or the withdrawal its inputs call for. Its use is charged to its plan (R88, R150). -/
def Chip.applyRun (d : Chip) (i : Item) (core : Nat) (o : WorkOut) : Chip :=
  let lost := o.writes.any (fun w => d.writeLost w.1 w.2.length)
  let use := d.itemUse i.body i.fn o
  let w := d.workWrites i.body core 0 o.lines
  let d := o.lines.foldl (fun (d : Chip) l => if w.2.any (fun s => s.2.1 = l.1) then d else d.poisonEnds l.1 l.2) w.1
  let d := d.takeFree.charge i.plan use
  if o.fail ≠ 0 then d.withdraw i.seq o.fail
  else
    let r := (tget d.wk.runs i.seq).getD {}
    let r := { r with done := true, flags := o.flags, outLen := o.outLen % 2 ^ 32, result := o.result % 2 ^ 64,
                      poison := o.poison || lost, cycles := use.wc, staged := w.2 }
    let d := { d with wk := { d.wk with runs := tput d.wk.runs i.seq r } }
    d.updItem i.seq (fun i => { i with fin := some (workReply r) })

/-- The ranges of an item that have bytes. -/
def workRanges (i : Item) : List Rng := (ranges i.body).filter (fun r => r.bytes ≠ 0)

/-- The chip as an operator sees it: the item dispatched to its core and its sources read. -/
def Chip.opView (d : Chip) (i : Item) (core : Nat) : Chip :=
  let d := (workRanges i).foldl (fun (d : Chip) r => if r.write then d else d.noteRead r.addr r.bytes) (d.dispatch i core)
  (d.listReads i.body i.fn).foldl (fun (d : Chip) r => d.noteRead r.1 r.2) d

/-- One operator's run of an item on a core. -/
def Chip.runWork (d : Chip) (seq core op : Nat) (f : Chip → Item → WorkOut) : Chip :=
  match d.item seq with
  | none => d
  | some i =>
    if !canRun d i core op then d
    else if (workRanges i).any (fun r => (d.dispatch i core).unmapped r.addr r.bytes) then
      (d.dispatch i core).withdraw seq Code.MEM_UNMAPPED
    else (d.opView i core).applyRun i core (f (d.opView i core) i)

def srKey (d : Chip) (core : Nat) : Nat := d.rg (Reg.WKC_SR_KEY.KEY core)

def execReduceSum (seq : Nat) (core : Fin 64) (s : State) : Out :=
  s.on (fun d => d.runWork seq core.val 0x01 (fun d i => opReduceSum d i.body (srKey d core.val) seq))

def execReduceMax (seq : Nat) (core : Fin 64) (s : State) : Out :=
  s.on (fun d => d.runWork seq core.val 0x02 (fun d i => opReducePick valMax d i.body (srKey d core.val) seq))

def execReduceMin (seq : Nat) (core : Fin 64) (s : State) : Out :=
  s.on (fun d => d.runWork seq core.val 0x03 (fun d i => opReducePick valMin d i.body (srKey d core.val) seq))

def execDotRows (seq : Nat) (core : Fin 64) (s : State) : Out :=
  s.on (fun d => d.runWork seq core.val 0x11 (fun d i => opDotRows d i.body (srKey d core.val) seq))

def execConvert (seq : Nat) (core : Fin 64) (s : State) : Out :=
  s.on (fun d => d.runWork seq core.val 0x20 (fun d i => opConvert d i.body (srKey d core.val) seq))

def execQuantEf (seq : Nat) (core : Fin 64) (s : State) : Out :=
  s.on (fun d => d.runWork seq core.val 0x21 (fun d i => opQuantEf d i.body (srKey d core.val) seq))

def execTopk (seq : Nat) (core : Fin 64) (s : State) : Out :=
  s.on (fun d => d.runWork seq core.val 0x22 (fun d i => opTopk d i.body (srKey d core.val) seq))

def execTopkEf (seq : Nat) (core : Fin 64) (s : State) : Out :=
  s.on (fun d => d.runWork seq core.val 0x23 (fun d i => opTopkEf d i.body (srKey d core.val) seq))

def execSha256 (seq : Nat) (core : Fin 64) (s : State) : Out :=
  s.on (fun d => d.runWork seq core.val 0x24 (fun d i => opSha256 d i.body))

def execCrc32c (seq : Nat) (core : Fin 64) (s : State) : Out :=
  s.on (fun d => d.runWork seq core.val 0x25 (fun d i => opCrc32c d i.body))

def execLz4Pack (seq : Nat) (core : Fin 64) (s : State) : Out :=
  s.on (fun d => d.runWork seq core.val 0x26 (fun d i => opLz4Pack d i.body))

def execLz4Unpack (seq : Nat) (core : Fin 64) (s : State) : Out :=
  s.on (fun d => d.runWork seq core.val 0x27 (fun d i => opLz4Unpack d i.body))

def execCopy (seq : Nat) (core : Fin 64) (s : State) : Out :=
  s.on (fun d => d.runWork seq core.val 0x30 (fun d i => opCopy d i.body))

def execGather (seq : Nat) (core : Fin 64) (s : State) : Out :=
  s.on (fun d => d.runWork seq core.val 0x31 (fun d i => opGather d i.body i.fn))

def execScatter (seq : Nat) (core : Fin 64) (s : State) : Out :=
  s.on (fun d => d.runWork seq core.val 0x32 (fun d i => opScatter d i.body i.fn))

def execFill (seq : Nat) (core : Fin 64) (s : State) : Out :=
  s.on (fun d => d.runWork seq core.val 0x33 (fun _ i => opFill i.body))

/-! ## REDUCE_ARRIVE (R137) -/

/-- Whether a contribution holds every byte of its LEN elements. -/
def contributionFull (x : Desc) (c : Contribution) : Bool := c.bytes.length ≥ packedBytes x.fmtB x.len

/-- The item's contributions are all in, or it has no element: the sum is written. -/
def Chip.arriveDone (d : Chip) (seq core : Nat) : Chip :=
  match d.item seq with
  | none => d
  | some i =>
    let cs := (tget d.wk.arrive seq).getD []
    let key := ((tget d.wk.runs seq).map (·.key)).getD 0
    if i.state = .running ∧ i.fin.isNone ∧ (i.body.len = 0 ∨ (cs.length ≥ i.body.contrib ∧ cs.all (contributionFull i.body))) then
      d.applyRun i core (opReduceArrive (cs.take i.body.contrib) d i.body key seq)
    else d

/-- REDUCE_ARRIVE: the item takes its unit and opens its accumulator; it writes once its last contribution has come. -/
def execReduceArrive (seq : Nat) (core : Fin 64) (s : State) : Out :=
  s.on (fun d => match d.item seq with
    | none => d
    | some i =>
      if !canRun d i core.val 0x04 then d
      else
        let d := d.dispatch i core.val
        let d := if i.body.addrA = 0 then d else d.noteRead i.body.addrA (packedBytes i.body.fmtA i.body.len)
        let d := if (tget d.wk.arrive seq).isSome then d else { d with wk := { d.wk with arrive := tput d.wk.arrive seq [] } }
        d.arriveDone seq core.val)

/-! ## The redo copy (R153, R154, R705) -/

/-- The staged bytes copied to their destinations. -/
def Chip.copyStaged (d : Chip) (st : List (Nat × Nat × Nat)) : Chip :=
  st.foldl (fun (d : Chip) s => let bs := d.readRange s.1 s.2.2; (d.writeRange s.2.1 bs).poisonEnds s.2.1 bs) d

/-- REDO_COPY_COMPLETE: the redo area is at the destination and the reply is due. A core that stands in for one fenced
after the commit applies the record under its own number. -/
def redoCopyComplete (d : Chip) (seq core : Nat) : Chip :=
  match d.item seq, tget d.wk.runs seq with
  | some i, some r =>
    if i.state ≠ .committed ∨ !i.redo ∨ i.replied ∨ r.staged.isEmpty ∨ d.hub.inReset ∨ !d.flag Reg.PCR_STATE.READY ∨ !coreUp d core ∨ (core ≠ r.core ∧ coreUp d r.core) then d
    else
      let d := d.copyStaged r.staged
      let stand := core ≠ r.core || i.replayed
      let d := if stand then (d.count (Reg.WKC_REPLAYS.COUNT core)).updItem seq (fun i => { i with replayed := true }) else d
      let r := { r with core := core, staged := [] }
      let d := { d with wk := { d.wk with runs := tput d.wk.runs seq r } }
      match d.item seq with
      | some i => d.replyDue i i.reply.code (workReply r).lo r.result
      | none => d
  | _, _ => d

def execRedoCopyComplete (seq : Nat) (core : Fin 64) (s : State) : Out := s.on (fun d => redoCopyComplete d seq core.val)

/-- The redo record of an item's staged writes (R153); none for a plain item. -/
def redoRecord (r : WorkRun) : Option Desc :=
  match r.staged with
  | [] => none
  | (st, dst, n) :: _ => some (descOf [st, dst, n + r.flags * 2 ^ 32 + r.core * 2 ^ 40, r.outLen, r.result])

/-! ## The core pool (R158 to R163) -/

/-- WKC_POOL brought up to date (R168). -/
def Chip.syncPool (d : Chip) : Chip :=
  let n (p : Nat → Bool) : Nat := ((List.range 64).filter p).length
  (((d.sr Reg.WKC_POOL.IN_SERVICE (n (coreUp d))).sr Reg.WKC_POOL.SPARES
    (n (fun k => bitOf (d.rg Reg.WKC_SPARE_MASK.MASK) k && d.rg (Reg.WKC_STATE.STATE k) = 0))).sr Reg.WKC_POOL.FENCED
    (n (fun k => bitOf (d.rg Reg.WKC_FENCED.MASK) k && d.rg (Reg.WKC_STATE.ROLE k) ≠ 2))).sr Reg.WKC_POOL.RETIRED
    (n (fun k => d.rg (Reg.WKC_STATE.ROLE k) = 2))

/-- The lowest-numbered spare. -/
def lowestSpare (d : Chip) : Option Nat :=
  (List.range 64).find? (fun k => bitOf (d.rg Reg.WKC_SPARE_MASK.MASK) k && d.rg (Reg.WKC_STATE.STATE k) = 0)

/-- A spare enters service. -/
def Chip.enterService (d : Chip) (k : Nat) : Chip :=
  (d.sr (Reg.WKC_STATE.ROLE k) 0).setBit Reg.WKC_SPARE_MASK.MASK k false

/-- A plan's grant replaced, its cores' WKC_GRANT following. -/
def Chip.regrant (d : Chip) (id : Nat) (cores : List Nat) : Chip :=
  match d.plan id with
  | none => d
  | some p => ((d.ungrant p.cores).updPlan id (fun p => { p with cores := cores })).grant id cores

/-- A plan SUSPENDED for want of capacity (R85, R160): its grant released, with ATTN DEGRADED, class compute. One that is UNLOADING releases
its grant and goes on draining. -/
def Chip.suspend (d : Chip) (id : Nat) : Chip :=
  let d' := d.regrant id []
  if (d.plan id).any (fun p => p.state = .unloading) then d'
  else (d'.updPlan id (fun p => { p with state := .suspended })).raiseAttn (.planSuspended id) .degraded clsCompute

/-- Whether an elastic plan may run on fewer cores (R160 step 3). -/
def canShrink (d : Chip) (p : Plan) (g : Nat) : Bool :=
  p.hdr.elastic && g ≥ max p.hdr.wcMin 1 && ceilDiv p.hdr.wcCycles g ≤ limitOf d.F

/-- A fenced core's place taken (R160): by the lowest spare, or by shrinking, by a free core, or by suspension. -/
def Chip.replaceCore (d : Chip) (n : Nat) : Chip :=
  let holder := d.ldr.plans.find? (fun p => p.cores.contains n)
  match lowestSpare d with
  | some k =>
    let d := (d.enterService k).note clsCompute
    match holder with
    | some p => d.regrant p.id (p.cores.map (fun c => if c = n then k else c))
    | none => d
  | none =>
    let d := { d with ldr := { d.ldr with readmit := true } }
    match holder with
    | none => d
    | some p =>
      let rest := p.cores.filter (· ≠ n)
      if canShrink d p rest.length then d.regrant p.id rest
      else match (freeCores d []).find? (· ≠ n) with
        | some k => d.regrant p.id (p.cores.map (fun c => if c = n then k else c))
        | none => d.suspend p.id

/-- A fenced core gives back its unfinished items; those whose commit record was issued commit, and those that are copying
from its redo area are left to another core (R160, R163, R165). -/
def Chip.emptyCore (d : Chip) (n : Nat) : Chip :=
  let d := d.giveBack (fun i => i.kind = .work && i.owner = n && i.state = .running)
  let d : Chip := { d with led := { d.led with items := d.led.items.map (fun i =>
    if i.kind = .work ∧ i.owner = n ∧ i.state = .committed ∧ i.redo ∧ !i.replied then { i with replayed := true } else i) } }
  let d := (List.range 4).foldl (fun (d : Chip) u => d.sr (Reg.WKC_UNIT_SEQ.SEQ n u) 0) d
  let back := (d.led.items.filter (fun i => i.kind = .work && i.state = .accepted)).map (·.seq)
  { d with wk := { d.wk with obFail := d.wk.obFail.filter (fun p => p.core ≠ n),
                             arrive := d.wk.arrive.filter (fun p => !back.contains p.1) } }

/-- FENCE_COMPLETE of a work core. -/
def Chip.wcFenced (d : Chip) (n : Nat) : Chip :=
  let was := inService d n
  let d := d.emptyCore n
  let d := (d.patCount (0x1160 + 4 * n) 32)
  (if was then d.replaceCore n else d).syncPool

/-- Fault sources of a core that are ACTIVE (R164, R168). -/
def coreFaults (d : Chip) (n : Nat) : List Nat :=
  (List.range 7).filter (fun k => d.rg (Reg.FLT_SRC_STATE.ACTIVE (8 * n + k)) = 1)

/-- UNFENCE of a work core (R163, R164): whether the agent takes it. -/
def wcUnfenceOk (d : Chip) (n : Nat) : Bool :=
  d.rg (Reg.WKC_STATE.STATE n) = 1 && (coreFaults d n).isEmpty && (d.agentRec (wcAgent n)).resetDone && d.rg (Reg.WKC_STATE.SELFTEST n) = 1 &&
  d.rg (Reg.WKC_STATE.ROLE n) ≠ 2

/-- A core back from its fence enters service while the in-service count is below the configured figure, and then the next tick regrants
shrunk plans; else it becomes a spare (R163). -/
def Chip.wcReturns (d : Chip) (n : Nat) : Chip :=
  let low := (upCores d).length < d.wk.configured
  let d := d.setAgentSt (.wc ⟨n % 64, by omega⟩) .running
  let d := if low then d.enterService n
    else (d.sr (Reg.WKC_STATE.ROLE n) 1).setBit Reg.WKC_SPARE_MASK.MASK n true
  let d := if (upCores d).length ≥ d.wk.configured then d.endAttn .corePool else d
  { d with ldr := { d.ldr with readmit := true, regrant := d.ldr.regrant || low } }.syncPool

/-- A core removed from the pool until cold start (R163, R164). -/
def Chip.retireCore (d : Chip) (n : Nat) : Chip :=
  let d := (d.sr (Reg.WKC_STATE.ROLE n) 2).setBit Reg.WKC_RETIRE.MASK n true
  let d := (d.setBit Reg.WKC_SPARE_MASK.MASK n false).setAgentSt (.wc ⟨n % 64, by omega⟩) .gated
  ((d.patEvent 5 [n]).patSet 0x1260 n).syncPool

/-! ## WKC agent commands (R164) -/
/-- PROMOTE: the lowest spare takes a position whose core is fenced, or is appended to a shrunk elastic grant. -/
def promote (d : Chip) (id pos : Nat) (a : Agent) : Chip :=
  match d.plan id, lowestSpare d with
  | some p, some k =>
    let g := p.cores.length
    if pos < g ∧ d.rg (Reg.WKC_STATE.STATE (p.cores.getD pos 0)) = 1 then
      (((d.enterService k).regrant id (p.cores.set pos k)).note clsCompute).syncPool.answered a true
    else if pos = g ∧ p.hdr.elastic ∧ g < p.hdr.wcDesired then
      ((d.enterService k).regrant id (p.cores ++ [k])).syncPool.answered a true
    else d.answered a false
  | _, _ => d.answered a false

def execPromote (core : Fin 64) (plan position : Nat) (s : State) : Out :=
  s.on (fun d => promote d plan position (.wc core))

/-- SELFTEST: only of a FENCED core. -/
def execSelftest (core : Fin 64) (s : State) : Out :=
  s.on (fun d =>
    if d.rg (Reg.WKC_STATE.STATE core.val) = 1 then (d.sr (Reg.WKC_STATE.SELFTEST core.val) 3).answered (.wc core) true
    else d.answered (.wc core) false)

/-- The built-in test ends, 150 µs after it began. -/
def execSelftestComplete (core : Fin 64) (pass : Bool) (s : State) : Out :=
  s.on (fun d =>
    if d.rg (Reg.WKC_STATE.SELFTEST core.val) = 3 then d.sr (Reg.WKC_STATE.SELFTEST core.val) (if pass then 1 else 2) else d)

/-- RETIRE: only of a FENCED core. -/
def execRetire (core : Fin 64) (s : State) : Out :=
  s.on (fun d =>
    if d.rg (Reg.WKC_STATE.STATE core.val) = 1 then (d.retireCore core.val).answered (.wc core) true
    else d.answered (.wc core) false)

/-! ## Faults of a work core (R126, R166) -/

/-- Every source but WC_OB_CRC fences the core. -/
def Chip.fenceCore (d : Chip) (n : Nat) : Chip :=
  let a : Agent := .wc ⟨n % 64, by omega⟩
  if d.agentSt a = .running ∧ !(d.agentRec a).fencing then d.beginFence a false else d

/-- A line of the operand buffer that serves a unit's item fails its CRC: refetched or recomputed, and counted; the third failure of one
line within one item raises WC_OB_STUCK. -/
def operandBufferCrc (d : Chip) (n line unit : Nat) : Chip :=
  let d := (d.count (Reg.WKC_OB_REFETCH.COUNT n)).fault (Src.WC_OB_CRC n) line
  let q := d.rg (Reg.WKC_UNIT_SEQ.SEQ n unit)
  let here (p : ObLine) : Bool := p.core = n && p.line = line
  let k := ((d.wk.obFail.find? (fun p => here p && p.seq = q)).map (·.count)).getD 0 + 1
  let d := { d with wk := { d.wk with obFail := ⟨n, line, q, k⟩ :: d.wk.obFail.filter (fun p => !here p) } }
  if k = 3 then (d.fault (Src.WC_OB_STUCK n) line).fenceCore n else d

/-- The line that failed, and the unit that read it. -/
def execOperandBufferCrc (core : Fin 64) (line : Fin 16384 × Fin 4) (s : State) : Out :=
  s.on (fun d => operandBufferCrc d core.val line.1.val line.2.val)

def execWcUnitParity (core : Fin 64) (s : State) : Out :=
  s.on (fun d => (d.fault (Src.WC_UNIT_PARITY core.val)).fenceCore core.val)

def execWcQueueParity (core : Fin 64) (s : State) : Out :=
  s.on (fun d => (d.fault (Src.WC_QUEUE_PARITY core.val)).fenceCore core.val)

/-- An item on one unit beyond WKC_ITEM_LIMIT. -/
def execWcItemHang (core : Fin 64) (unit : Fin 4) (s : State) : Out :=
  s.on (fun d => if d.rg (Reg.WKC_UNIT_SEQ.SEQ core.val unit.val) = 0 then d
    else (d.fault (Src.WC_ITEM_HANG core.val) unit.val).fenceCore core.val)

def execWcNocCredit (core : Fin 64) (s : State) : Out :=
  s.on (fun d => (d.fault (Src.WC_NOC_CREDIT core.val)).fenceCore core.val)

def execWcGateFail (core : Fin 64) (s : State) : Out :=
  s.on (fun d => (d.fault (Src.WC_GATE_FAIL core.val)).fenceCore core.val)

end Sys2Proof.Machine
end

