-- ==== Sys2Proof/Machine/Slots.lean ====
section
/-! DEFINITION. Groups and persistent slots (R172, R178 to R197, R201, R202, R206). -/
namespace Sys2Proof.Machine
open Sys2Proof

/-! ## Groups (R172, R173) -/

/-- Whether a group has an armed slot or an unfinished collective. -/
def Chip.groupBusy (d : Chip) (g : Nat) : Bool :=
  d.coll.slots.any (fun p => p.2.state ≠ .empty && p.2.img.sGroup = g) ||
  d.led.items.any (fun i => i.kind = .coll && !i.state.ended && wf i.body.w2 0 16 = g)

def groupOk (d : Chip) (x : Desc) : Bool :=
  x.gId < 4096 && wf x.w0 16 8 = 0 && x.gMask ≠ 0 && 1 ≤ x.gNodes && x.gNodes ≤ 4096 && x.gRank < x.gNodes &&
  x.w4 = 0 && x.w5 = 0 && x.w6 = 0 && x.w7 = 0 &&
  (if x.gNodes = 1 then x.gStageBytes = 0
   else d.inDieOrNear x.gPeers (4 * x.gNodes) && isPlinth x.gStage && d.inOne x.gStage x.gStageBytes && x.gStage % 64 = 0 &&
     x.gStageBytes ≥ 0x40_0000)

/-- The record written to the group table, READY. -/
def setGroup (x : Desc) (d : Chip) : Chip :=
  let x := { x with w0 := x.w0 ||| BitVec.ofNat 64 0x10000 }
  { d with coll := { d.coll with groups := tput d.coll.groups x.gId x } }

def groupSet (d : Chip) (src : Submit) (record : Nat) : Chip :=
  d.withRecord src record 64 (fun d =>
    let x := d.desc record
    d.groupServed src x.gId (fun owner =>
      if !groupOk d x then d.refuse src Code.COL_BAD_REQ
      else if d.groupBusy x.gId then d.refuse src Code.COL_GROUP_STATE
      else
        let d := d.acceptCmd src (.general 0x0201) (genBody 0x0201 src [record]) (d.originDomain src.origin) owner
        d.finishWith d.lastSeq (setGroup x)))

def execGroupSet (src : Submit) (record : Nat) (s : State) : Out :=
  s.on (fun d => if d.groupWaits (d.desc record).gId then d else d.submit src .col false (fun d => groupSet d src record))

def clearGroup (g : Nat) (d : Chip) : Chip := { d with coll := { d.coll with groups := tdel d.coll.groups g } }

def groupClear (d : Chip) (src : Submit) (g : Nat) : Chip :=
  d.groupServed src g (fun owner =>
    if d.groupBusy g then d.refuse src Code.COL_GROUP_STATE
    else if (d.group g).isNone then d.refuse src Code.COL_GROUP_UNKNOWN
    else
      let d := d.acceptCmd src (.general 0x0202) (genBody 0x0202 src [g]) (d.originDomain src.origin) owner
      d.finishWith d.lastSeq (clearGroup g))

def execGroupClear (src : Submit) (group : Nat) (s : State) : Out :=
  s.on (fun d => if d.groupWaits (group % 65536) then d else
    d.submit src .col false (fun d => groupClear d src (group % 65536)))

/-! ## Arming (R180, R190, R191) -/

/-- GE of R180 for a granule of n output bytes. -/
def granElems (fmt n : Nat) : Nat := let e := n * 8 / fmtBits fmt; if isMX fmt then e / 32 * 32 else e

def slotGe (x : Desc) : Nat := max 1 (granElems x.sFmtOut (2 ^ x.sGranule))

/-- E of R180: elements a stripe core owns. -/
def slotStripe (x : Desc) : Nat := ceilDiv x.sCount (x.sCores * slotGe x) * slotGe x

/-- Members' ports of a slot's group and N. -/
def Chip.groupPorts (d : Chip) (g : Nat) : List Nat := portsOf (((d.group g).map Desc.gMask).getD 0)

/-- Elements a member of a slot receives (R169). -/
def slotOutCount (x : Desc) (n : Nat) : Nat := if x.sKind = 2 then x.sCount / n else if x.sKind = 3 then x.sCount * n else x.sCount

/-- Bytes of a rank's result and of its scale array. -/
def slotOut (x : Desc) (n : Nat) : Nat × Nat :=
  let e := slotOutCount x n
  (packedBytes x.sFmtOut e, if isMX x.sFmtOut then ceilDiv e 32 else 0)

/-- A reserved encoding or invalid combination of a slot record (R191, check 1, but for the plan). -/
def slotBad (x : Desc) : Bool :=
  let reduces := x.sKind ≤ 2
  x.sSlot > 255 || wf x.w0 16 8 ≠ 0 || x.sKind = 0 || x.sKind > 4 || isMX x.sFmtIn || x.sFmtIn = 0xF || x.sFmtOut = 0xF ||
  x.sRnd = 3 || wf x.w1 15 1 ≠ 0 || x.sRedop > 3 || (!reduces && x.sRedop ≠ 0) || (x.sKind ≠ 4 && x.sRoot ≠ 0) ||
  x.sLine % 4 ≠ 0 || x.sLine > 60 || x.sCores = 0 || x.sCores > 64 || x.sGranule < 9 || x.sGranule > 16 || x.sFires = 0 ||
  x.sDepth = 0 || x.sDepth > 4 || x.sCount = 0 || (!isMX x.sFmtOut && x.w4 ≠ 0) || wf x.w5 16 48 ≠ 0 ||
  (isInt x.sFmtIn && isInt x.sFmtOut && x.sSigma ≠ 0) || (reduces && x.sRedop = 3 && (isInt x.sFmtIn || isInt x.sFmtOut))

/-- Whether a plan of KIND 1 is loaded and a TIMING step of it names a slot (R706). -/
def Chip.planTimes (d : Chip) (plan slot : Nat) : Bool :=
  match named d plan with
  | none => false
  | some p => p.state ≠ .loading && p.hdr.kind = 1 && (List.range p.hdr.stepCount).any (fun k =>
      let s := parseStep (stepBytes d p.image p.hdr k)
      s.kind = 0 && s.slotRef = slot)

/-- Check 5 of R191. -/
def slotShapeBad (x : Desc) (n : Nat) : Bool :=
  (x.sKind = 4 && x.sRoot ≥ n) || (x.sKind = 2 && x.sCount % n ≠ 0) ||
  (isMX x.sFmtOut && ((x.sKind = 2 && x.sCount / n % 32 ≠ 0) || (x.sKind = 3 && x.sCount % 32 ≠ 0)))

/-- R175 on a slot's DST and SCALE_OFS, in the order of check 6: alignment, then lengths, then the windows. -/
def slotRange (x : Desc) (n : Nat) : Option Nat :=
  let o := slotOut x n
  if x.sDst % 64 ≠ 0 ∨ x.sScaleOfs % 64 ≠ 0 then some Code.WC_ALIGN
  else if o.1 > 2 ^ 32 ∨ packedBytes x.sFmtIn x.sCount > 2 ^ 32 then some Code.LENGTH_OVER
  else if x.sDst + o.1 > 2 ^ 45 ∨ (o.2 ≠ 0 ∧ x.sDst + x.sScaleOfs + o.2 > 2 ^ 45) then some Code.ACCESS_VIOLATION
  else none

/-- Whether lines l to l + 3 of a port are held by an armed slot, a bound service or an enabled DMA channel on virtual
lines (R191, R228, R511). -/
def Chip.slotHolds (d : Chip) (port l : Nat) : Bool :=
  d.coll.slots.any (fun p => p.2.state ≠ .empty && p.2.img.sLine = l && (d.slotPorts p.2).contains port)

def Chip.svcHolds (d : Chip) (port l : Nat) : Bool :=
  d.kv.svcs.any (fun p => p.2.img.vLine = l && bitOf p.2.img.vMask port)

/-- The enabled channel whose virtual line is a line of a port. -/
def Chip.dmaLine (d : Chip) (port line : Nat) : Option Nat :=
  (List.range 32).find? (fun c => d.rg (Reg.DMA_CHAN_CFG.ENABLE c) = 1 && d.rg (Reg.DMA_CHAN_CFG.PACE_SRC c) = 1 &&
    d.rg (Reg.DMA_CHAN_CFG.PORT c) = port && d.rg (Reg.DMA_CHAN_CFG.LINE c) = line)

def Chip.dmaHolds (d : Chip) (port l : Nat) : Bool :=
  (List.range 4).any (fun k => (d.dmaLine port (l + k)).isSome)

def Chip.lineBusy (d : Chip) (ports : List Nat) (l : Nat) : Bool :=
  ports.any (fun p => d.slotHolds p l || d.svcHolds p l || d.dmaHolds p l)

/-- Whether the plan's grant and the accumulators hold the slot (check 8). -/
def slotFits (d : Chip) (x : Desc) : Bool :=
  ((d.plan x.sPlan).map (·.cores.length)).getD 0 ≥ x.sCores &&
  x.sDepth * slotStripe x * (if x.sFmtIn = 0xE ∨ x.sFmtOut = 0xE then 8 else 4) ≤ 786432

/-- The checks of R191 in order. -/
def slotCheck (d : Chip) (x : Desc) : Option Nat :=
  if slotBad x || !d.planTimes x.sPlan x.sSlot then some Code.COL_BAD_REQ
  else if (d.slotRec x.sSlot).state ≠ .empty then some Code.COL_SLOT_STATE
  else match d.group x.sGroup with
    | none => some Code.COL_GROUP_UNKNOWN
    | some g =>
      let ports := portsOf g.gMask
      if g.gNodes ≠ 1 then some Code.COL_ALGO
      else if slotShapeBad x ports.length then some Code.COL_BAD_REQ
      else if let some c := slotRange x ports.length then some c
      else if d.lineBusy ports x.sLine then some Code.COL_LINE_BUSY
      else if !slotFits d x then some Code.COL_SLOT_FIT
      else none

def slotArm (d : Chip) (src : Submit) (x : Desc) : Chip :=
  if x.w6 ≠ 0 ∨ x.w7 ≠ 0 then d.refuse src Code.HIF_BAD_CMD
  else match slotCheck d x with
    | some c => d.refuse src c
    | none =>
      let d := d.acceptCmd src (.general 0x0203) (genBody 0x0203 src (descWords x |>.take 6)) (d.originDomain src.origin) (0x40 + d.roleCore 0)
      d.setSlot x.sSlot { img := x, state := .arming, armSeq := d.lastSeq }

def execSlotArm (src : Submit) (x : Desc) (s : State) : Out :=
  s.on (fun d => d.served 0 (fun d => d.submit src .col false (fun d => slotArm d src x)))

def slotDisarm (d : Chip) (src : Submit) (k : Nat) : Chip :=
  let s := d.slotRec k
  if k > 255 ∨ (s.state ≠ .armed ∧ s.state ≠ .faulted) ∨ s.disarmSeq ≠ 0 then d.refuse src Code.COL_SLOT_STATE
  else
    let d := d.acceptCmd src (.general 0x0204) (genBody 0x0204 src [k]) (d.originDomain src.origin) (0x40 + d.roleCore 0)
    d.setSlot k { s with disarmSeq := d.lastSeq, due := false }

def execSlotDisarm (src : Submit) (slot : Nat) (s : State) : Out :=
  s.on (fun d => d.served 0 (fun d => d.submit src .col false (fun d => slotDisarm d src (slot % 65536))))

/-- The slot commands that wait, at a tick (R191, R196): those accepted before it commit, and the slots change state. -/
def Chip.slotTick (d : Chip) : Chip :=
  d.coll.slots.foldl (fun (d : Chip) p =>
    let s := d.slotRec p.1
    let seq := if s.state = .arming then s.armSeq else s.disarmSeq
    match d.item seq with
    | none => d
    | some i =>
      if i.state.ended ∨ !predsEnded d.led.items i then d
      else if s.state = .arming then
        (d.setSlot p.1 { s with state := .armed, armSeq := 0 }).endItem seq .committed Code.OK
      else ((d.setSlot p.1 { s with state := .disarming }).endAttn (.slotFaulted p.1)).endItem seq .committed Code.OK 0 0 false) d

/-! ## Firings (R192 to R197, R201, R202) -/

/-- The unfinished item of a firing. -/
def Chip.firingItem (d : Chip) (k n : Nat) : Option Item :=
  d.led.items.find? (fun i => i.kind = .firing k n && !i.state.ended)

/-- The ports whose contribution a firing takes: the root's for a broadcast, every member's for the others. -/
def contributors (x : Desc) (ports : List Nat) : List Nat :=
  if x.sKind = 4 then [ports.getD x.sRoot 0] else ports

def Firing.has (f : Firing) (port lo hi : Nat) : Bool :=
  match f.contribs.find? (fun c => c.port = port) with
  | none => false
  | some c => (List.range (hi - lo)).all (fun i => (tget c.bytes (lo + i)).isSome)

/-- Whether every member's contribution has arrived. -/
def Firing.full (f : Firing) (x : Desc) (ports : List Nat) : Bool :=
  (contributors x ports).all (fun p => f.has p 0 (packedBytes x.sFmtIn x.sCount))

/-- Elements lo to hi − 1 of a contribution. -/
def Firing.elems (f : Firing) (fmt port lo hi : Nat) : List (Nat × Nat × Bool) :=
  match f.contribs.find? (fun c => c.port = port) with
  | none => []
  | some c =>
    let w := fmtBits fmt
    (List.range (hi - lo)).map (fun i =>
      let a := (lo + i) * w / 8
      let at_ := (List.range (ceilDiv ((lo + i) * w % 8 + w) 8)).map (a + ·)
      (leNat (at_.map (fun j => (tget c.bytes j).getD 0)) / 2 ^ ((lo + i) * w % 8) % 2 ^ w, 127, at_.any (fun j => c.bad.contains j)))

/-- One reduced element: REDOP over the terms, and whether an integer sum saturated (R170). -/
def reduceOne (use elem redop : Nat) (ints f64 : Bool) (ts : List Val) : Val × Bool :=
  match redop with
  | 1 => (foldVals valMax ts, false)
  | 2 => (foldVals valMin ts, false)
  | _ => reduceAdd use elem ints f64 ts

/-- σ of a collective of n ranks: AVG divides it (R170). -/
def collSigma (sigma redop n : Nat) : Val :=
  let v := if sigma = 0 then Val.ofInt 1 else decodeFloat fmtF32 sigma
  if redop = 3 then divF fmtF32 v (.ofInt n) else v

/-- The stripe cores of a slot (R190): stripe core i is the plan's logical core i, on grant[i mod g] after a shrink (R159, R202). The firings of a
SUSPENDED plan go on on an in-service core, as its accepted items do (R161): the lowest one (DESIGN CHOICE, log entry 82). -/
def Chip.stripeCores (d : Chip) (s : SlotRec) : List Nat :=
  let cores : List Nat := match d.plan s.img.sPlan with
    | some (p : Plan) => if p.state = PlanState.suspended ∨ p.cores.isEmpty then (upCores d).take 1 else p.cores
    | none => []
  if cores.isEmpty then [] else (List.range s.img.sCores).map (fun i => cores.getD (i % cores.length) 0)

/-- Whether the stripe is held: every stripe core is up and none has begun a fence (R204). -/
def Chip.stripeHeld (d : Chip) (s : SlotRec) : Bool :=
  let cs := d.stripeCores s
  !cs.isEmpty && cs.all (fun c => coreUp d c && !(d.agentRec (wcAgent c)).fencing)

/-- What a firing is charged to its plan (R200): a REDUCE_ARRIVE item for each stripe core, whose granules leave once as a multicast, the link
bytes of every member port, and the update of the slot table. -/
def firingUse (s : SlotRec) (ports : List Nat) : PlanUse :=
  let x := s.img
  let e := slotStripe x
  let parts := ((List.range x.sCores).map (fun i => min e (x.sCount - i * e))).filter (· ≠ 0)
  let cycles (n : Nat) : Nat := (arriveTerms (if x.sFmtIn = 0xE ∨ x.sFmtOut = 0xE then 0xE else 0) x.sFmtIn n (contributors x ports).length).cycles
    { toOther := packedBytes x.sFmtOut n }
  { wc := (parts.map cycles).foldl (· + ·) 0, plinth := 64
    ingress := ports.map (fun p => (p, packedBytes x.sFmtIn x.sCount)), egress := ports.map (fun p => (p, packedBytes x.sFmtOut x.sCount)) }

/-- Writes of elements lo to hi − 1 of a rank's result at a destination, and their flags. -/
def rankWrites (fmt dst scale lo : Nat) (r : List PByte × List PByte × Nat) : List (Nat × List PByte) :=
  (dst + lo * fmtBits fmt / 8, r.1) :: (if isMX fmt then [(scale + lo / 32, r.2.1)] else [])

/-- The granule of elements lo to hi − 1: its writes, its flags and whether poisoned data went in (R179 to R181). The generator's index is the
element's place in the output of the firing, which is the item (R107); the key is that of the stripe core. -/
def granuleOut (d : Chip) (s : SlotRec) (f : Firing) (ports : List Nat) (seq lo hi : Nat) : List (Nat × List PByte) × Nat × Bool :=
  let x := s.img
  let n := ports.length
  let core := (d.stripeCores s).getD (lo / max (slotStripe x) 1) 0
  let rnd (b i : Nat) := roundingOf x.sRnd (d.rg (Reg.WKC_SR_KEY.KEY core)) seq (b + i)
  let conv (b : Nat) (vs : List (Val × Bool)) := convertTensor x.sFmtOut x.sScl x.sNanp (rnd b) vs
  let raw (es : List (Nat × Nat × Bool)) (b : Nat) : List PByte × List PByte × Nat :=
    if x.sFmtIn = x.sFmtOut ∧ x.sKind ≥ 3 then (packElems (fmtBits x.sFmtIn) (es.map (fun e => (e.1, e.2.2))), [], 0)
    else conv b (es.map (fun e => (mulExact (collSigma x.sSigma 0 1) (elemVal x.sFmtIn e), e.2.2)))
  let win (p : Nat) := memberWindow p + x.sDst
  let cols := (contributors x ports).map (fun p => f.elems x.sFmtIn p lo hi)
  if x.sKind ≤ 2 then
    let ints := isInt x.sFmtIn
    let vs := (List.range (hi - lo)).map (fun i =>
      let ts := cols.map (fun c => c.getD i (0, 127, false))
      (reduceOne d.free (lo + i) x.sRedop ints (x.sFmtIn = 0xE || x.sFmtOut = 0xE) (ts.map (elemVal x.sFmtIn)), ts.any (·.2.2)))
    let sg := collSigma x.sSigma x.sRedop n
    let vals := vs.map (fun v => (mulExact sg v.1.1, v.2))
    let sat := if vs.any (·.1.2) then afINT_SAT else 0
    if x.sKind = 1 then
      let r := conv lo vals
      (ports.flatMap (fun p => rankWrites x.sFmtOut (win p) (win p + x.sScaleOfs) lo r), r.2.2 ||| sat, vals.any (·.2))
    else
      let part := x.sCount / n
      let rs := ports.zipIdx.filterMap (fun p =>
        let a := max lo (p.2 * part)
        let b := min hi ((p.2 + 1) * part)
        if a < b then some (p, a, conv a ((vals.drop (a - lo)).take (b - a))) else none)
      (rs.flatMap (fun r => rankWrites x.sFmtOut (win r.1.1) (win r.1.1 + x.sScaleOfs) (r.2.1 - r.1.2 * part) r.2.2),
        (rs.foldl (fun a r => a ||| r.2.2.2.2) 0) ||| sat, vals.any (·.2))
  else
    let rs := cols.zipIdx.map (fun c => (c.2, raw c.1 (c.2 * x.sCount + lo)))
    (ports.flatMap (fun p => rs.flatMap (fun r =>
      rankWrites x.sFmtOut (win p) (win p + x.sScaleOfs) (r.1 * x.sCount + lo) r.2)),
      rs.foldl (fun a r => a ||| r.2.2.2) 0, cols.any (fun c => c.any (·.2.2)))

/-- Granules of a slot. -/
def slotGranules (x : Desc) : Nat := ceilDiv x.sCount (slotGe x)

/-- The bytes of a contribution that granule g reads. -/
def granBytes (x : Desc) (g : Nat) : Nat × Nat :=
  let lo := g * slotGe x
  let hi := min ((g + 1) * slotGe x) x.sCount
  (lo * fmtBits x.sFmtIn / 8, ceilDiv (hi * fmtBits x.sFmtIn) 8)

/-- One firing's complete granules written (R179), once it is accepted and its egress may go (R194, R195). -/
def Chip.firingRun (d : Chip) (k : Nat) (f : Firing) : Chip :=
  let s := d.slotRec k
  let ports := d.slotPorts s
  match d.firingItem k f.number with
  | none => d
  | some i =>
    if f.waits ∨ !d.running .col ∨ i.crec ≠ .none ∨ !d.stripeHeld s ∨ d.spent i.plan ∨ (i.carried ∧ d.tck.carriedWait) then d
    else
      let ready := (List.range (slotGranules s.img)).filter (fun g => !f.written.contains g &&
        (contributors s.img ports).all (fun p => let b := granBytes s.img g; f.has p b.1 b.2))
      let r := ready.foldl (fun (a : Chip × Nat × Bool) g =>
        let o := granuleOut a.1 s f ports i.seq (g * slotGe s.img) (min ((g + 1) * slotGe s.img) s.img.sCount)
        (o.1.foldl (fun (d : Chip) w => d.writeRange w.1 (poisonLines w.1 w.2)) a.1.takeFree, a.2.1 ||| o.2.1, a.2.2 || o.2.2))
        (if f.written.isEmpty ∧ !ready.isEmpty then d.charge i.plan (firingUse s ports) else d, 0, false)
      let f' := { f with written := f.written ++ ready, flags := f.flags ||| r.2.1, poison := f.poison || r.2.2 }
      let d := r.1.updItem i.seq (fun i => { i with state := .running, owner := 0x50 })
      d.setSlot k { s with firings := s.firings.map (fun x => if x.number = f.number then f' else x) }

/-- All firings of a slot brought forward. -/
def Chip.slotRun (d : Chip) (k : Nat) : Chip :=
  (d.slotRec k).firings.foldl (fun (d : Chip) f => d.firingRun k f) d

/-- Whether a member's TRIGGER carries the expected number and stays within DEPTH (R193). -/
def expected (s : SlotRec) (port arg : Nat) : Bool :=
  ((tget s.next port).getD 0) % 256 = arg && (s.firings.filter (fun f => f.members.contains port)).length < s.img.sDepth

/-- A new firing (R194, R195): its item arises, and its allowance is taken or it is an overdraw. -/
def Chip.newFiring (d : Chip) (k port : Nat) : Chip :=
  let s := d.slotRec k
  let isOver := s.allowance = 0
  let n := (tget s.next port).getD 0
  let f : Firing := { number := n, members := [port], waits := isOver }
  let s' : SlotRec := { s with
    firing := s.firing + 1, firings := s.firings ++ [f], allowance := s.allowance - 1
    overdraws := if isOver then min (s.overdraws + 1) (2 ^ 48 - 1) else s.overdraws
    next := tput s.next port (n + 1), dropping := s.dropping.filter (· ≠ port) }
  let d := d.setSlot k s'
  let d := if isOver then (d.count Reg.COL_OVERDRAWS.COUNT).updPlan s.img.sPlan (fun p => { p with overran := true }) else d
  let tag := (Config.freeWord d.free).toNat % 2 ^ 32
  (d.takeFree.arise ⟨.slot k, tag, s.img.sPlan, .slot k, 0x200, 0x50, .firing k n, s.img, none⟩)

/-- A TRIGGER on a slot's line. -/
def slotTrigger (d : Chip) (k port arg : Nat) : Chip :=
  let s := d.slotRec k
  if s.state ≠ .armed ∨ !d.running .col ∨ (d.agentRec (.block .col)).fencing then
    (d.setSlot k { s with dropping := port :: s.dropping.filter (· ≠ port) }).pace port (s.img.sLine + 3) arg
  else if !expected s port arg then
    ((d.setSlot k { s with dropping := port :: s.dropping.filter (· ≠ port) }).fault Src.COL_PACE_SEQ k).pace port
      (s.img.sLine + 3) arg
  else
    let n := (tget s.next port).getD 0
    if s.firings.any (fun f => f.number = n) then
      d.setSlot k { s with
        firings := s.firings.map (fun f => if f.number = n then { f with members := port :: f.members } else f)
        next := tput s.next port (n + 1), dropping := s.dropping.filter (· ≠ port) }
    else (d.newFiring k port).slotRun k

/-- TRIGGER: taken by the slot that holds the line for receiving; a symbol on a line nothing holds is dropped (R388). -/
def trigger (d : Chip) (port line arg : Nat) : Chip :=
  match d.coll.slots.find? (fun p => p.2.state ≠ .empty && p.2.img.sLine = line && (d.slotPorts p.2).contains port) with
  | some p => slotTrigger d p.1 port arg
  | none => if d.svcHolds port line ∨ (d.dmaLine port line).isSome then d else d.count (Reg.LNK_COUNT.COUNT port 8)

def execTrigger (port : Fin 8) (line : Fin 64) (arg : BitVec 8) (s : State) : Out :=
  s.on (fun d => trigger d port.val line.val arg.toNat)

/-- Bytes added to a member's contribution; the first copy of a byte stands (R182). -/
def addBytes (cs : List Contribution) (port ofs : Nat) (data : List Nat) (poison : Bool) : List Contribution :=
  let add (c : Contribution) : Contribution := data.zipIdx.foldl (fun (c : Contribution) b =>
    if (tget c.bytes (ofs + b.2)).isSome then c
    else { c with bytes := tput c.bytes (ofs + b.2) b.1, bad := if poison then (ofs + b.2) :: c.bad else c.bad }) c
  if cs.any (fun c => c.port = port) then cs.map (fun c => if c.port = port then add c else c) else cs ++ [add ⟨port, [], []⟩]

/-- How many bytes of a write a member has sent already. -/
def heldBytes (cs : List Contribution) (port ofs n : Nat) : Nat :=
  match cs.find? (fun c => c.port = port) with
  | none => 0
  | some c => ((List.range n).filter (fun i => (tget c.bytes (ofs + i)).isSome)).length

/-- A stream write of n bytes measured against those its member has sent: none of it is new; or some of it is, the rest being counted as
repeated (DESIGN CHOICE, log entry 79: R182 drops a write that repeats a range, and says nothing of one that repeats part of one). -/
def Chip.countRepeat (d : Chip) (held : Nat) : Chip := if held = 0 then d else d.count Reg.COL_DUP_WRITES.COUNT

def Chip.orphan (d : Chip) (stream : Nat) : Chip := (d.count Reg.COL_ORPHANS.COUNT).fault Src.COL_STREAM_ORPHAN stream

/-- A stream write to a slot: to the member's oldest firing whose contribution is not complete. -/
def slotStream (d : Chip) (k port ofs : Nat) (data : List Nat) (poison : Bool) : Chip :=
  let s := d.slotRec k
  let total := packedBytes s.img.sFmtIn s.img.sCount
  let data := data.take (total - ofs)
  if s.state = .empty ∨ s.state = .arming then d.orphan k
  else if s.dropping.contains port then d
  else match s.firings.find? (fun f => f.members.contains port && !f.has port 0 total) with
    | none => if s.firings.any (fun f => f.members.contains port) then d.count Reg.COL_DUP_WRITES.COUNT else d.orphan k
    | some f =>
      let held := heldBytes f.contribs port ofs data.length
      if held = data.length ∨ !(contributors s.img (d.slotPorts s)).contains port then d.count Reg.COL_DUP_WRITES.COUNT
      else
        let d := d.countRepeat held
        let f' := { f with contribs := addBytes f.contribs port ofs data poison }
        (d.setSlot k { s with firings := s.firings.map (fun x => if x.number = f.number then f' else x) }).slotRun k

/-- The item that holds a stream: a REDUCE_ARRIVE that runs. -/
def Chip.streamItem (d : Chip) (stream : Nat) : Option Item :=
  d.led.items.find? (fun i => i.kind = .work && i.body.op = 0x04 && i.body.stream = stream && i.state = .running)

/-- A stream write to the item that holds its stream (R137, R178): a REDUCE_ARRIVE takes it; a collective request has all its contributions
already, which it took from the members' windows (R175). -/
def arriveStream (d : Chip) (stream member ofs : Nat) (data : List Nat) (poison : Bool) : Chip :=
  match d.streamItem stream with
  | none => if d.coll.runs.any (fun (r : Nat × CollRun) => r.2.stream = stream) then d.count Reg.COL_DUP_WRITES.COUNT else d.orphan stream
  | some i =>
    let cs := (tget d.wk.arrive i.seq).getD []
    let data := data.take (packedBytes i.body.fmtB i.body.len - ofs)
    let held := heldBytes cs member ofs data.length
    if held = data.length ∨ i.fin.isSome ∨ i.crec ≠ .none ∨ (!cs.any (fun c => c.port = member) ∧ cs.length ≥ i.body.contrib) then
      d.count Reg.COL_DUP_WRITES.COUNT
    else
      let d := d.countRepeat held
      { d with wk := { d.wk with arrive := tput d.wk.arrive i.seq (addBytes cs member ofs data poison) } }.arriveDone i.seq i.owner

/-- A stream write: OFFSET counts 256-byte units (R178). -/
def Chip.streamWrite (d : Chip) (member stream offset : Nat) (bs : List Nat) (poison : Bool) : Chip :=
  if stream < 256 then slotStream d stream member (256 * offset) bs poison
  else arriveStream d (stream % 65536) member (256 * offset) bs poison

/-- Whether a firing has consumed flits of a sealed record that is not yet verified (R387). -/
def Chip.unverified (d : Chip) (k n : Nat) : Bool := d.lnk.ports.any (fun p => p.2.rxFirings.contains (k, n))

/-- The same for an item. -/
def Chip.itemUnverified (d : Chip) (seq : Nat) : Bool := d.lnk.ports.any (fun p => p.2.rxItems.contains seq)

/-- The reply of a firing (R205). -/
def firingReply (s : SlotRec) (n k : Nat) (f : Firing) : ReplyData :=
  ⟨if f.poison then Code.POISONED_DATA else Code.OK,
   f.flags + 2 ^ 8 + min f.runs 255 * 2 ^ 16 + k * 2 ^ 24 + slotOutCount s.img n * 2 ^ 32, f.number⟩

/-- FIRING_COMPLETE: every granule write is acknowledged; the commit record is issued and the latency recorded (R198). -/
def firingComplete (d : Chip) (k n latency : Nat) : Chip :=
  let s := d.slotRec k
  match s.firings.find? (fun f => f.number = n), d.firingItem k n with
  | some f, some i =>
    if f.written.length < slotGranules s.img ∨ i.crec ≠ .none ∨ d.unverified k n ∨ !d.running .col ∨ d.over i.plan then d
    else
      let d := d.issueCommit i.seq (firingReply s (d.slotPorts s).length k f)
      let d := d.setSlot k { s with latMax := max s.latMax (min latency (2 ^ 32 - 1)) }
      let c := min latency 0xFFFF
      if c > d.rg Reg.COL_LAT_MAX.CYCLES then (d.sr Reg.COL_LAT_MAX.CYCLES c).sr Reg.COL_LAT_MAX.SLOT k else d
  | _, _ => d

def execFiringComplete (slot : Fin 256) (number latency : Nat) (s : State) : Out :=
  s.on (fun d => firingComplete d slot.val number latency)

/-- A firing withdrawn: its item, or what of it has not yet arisen. -/
def Chip.firingWithdraw (d : Chip) (k n code : Nat) : Chip :=
  match d.firingItem k n with
  | some i => d.withdraw i.seq code (0x100 + k * 2 ^ 24) n
  | none =>
    let d := { d with led := { d.led with arising := d.led.arising.filter (fun a => a.kind ≠ ItemKind.firing k n) } }
    d.firingEnd k n 0 false

/-- FIRING_TIMEOUT: a member has not contributed in time (R197). -/
def firingTimeout (d : Chip) (k n : Nat) : Chip :=
  let s := d.slotRec k
  match s.firings.find? (fun f => f.number = n) with
  | none => d
  | some f =>
    if f.full s.img (d.slotPorts s) then d
    else ((d.fault Src.COL_SLOT_TIMEOUT k).firingWithdraw k n Code.COL_MEMBER_LOST).faultSlot k

def execFiringTimeout (slot : Fin 256) (number : Nat) (s : State) : Out := s.on (fun d => firingTimeout d slot.val number)

/-- A firing returned to ACCEPTED and run again (R202): its contributions are asked for with RESEND, and the third RESEND
withdraws it. -/
def Chip.firingResend (d : Chip) (k n : Nat) : Chip :=
  let s := d.slotRec k
  match s.firings.find? (fun f => f.number = n) with
  | none => d
  | some f =>
    if (d.firingItem k n).any (fun i => i.crec ≠ .none) then d
    else if f.resends ≥ 2 then
      (((d.fault Src.COL_RESEND_LIMIT k).firingWithdraw k n Code.COL_RESEND_LIMIT)).faultSlot k
    else
      let f' := { f with contribs := [], written := [], resends := f.resends + 1, runs := f.runs + 1, flags := 0, poison := false }
      let d := d.setSlot k { s with
        resends := min (s.resends + 1) (2 ^ 48 - 1)
        firings := s.firings.map (fun x => if x.number = n then f' else x) }
      let d := (d.count Reg.COL_RESENDS.COUNT).paceAll (d.slotPorts s) (s.img.sLine + 2) n
      d.giveBack (fun i => i.kind = .firing k n && !i.state.ended)

/-- Every uncommitted firing of slots meeting a condition is run again. -/
def Chip.resendWhere (d : Chip) (p : SlotRec → Bool) : Chip :=
  (d.coll.slots.filter (fun q => q.2.state ≠ .empty && p q.2)).foldl (fun (d : Chip) q =>
    q.2.firings.foldl (fun (d : Chip) f => d.firingResend q.1 f.number) d) d

/-- A firing of the slot's Frieze slot (R195): the allowance is FIRES again, and overdrawn firings go, each taking one; those of a slot that is
FAULTED or DISARMING too. -/
def Chip.slotAllow (d : Chip) (k : Nat) : Chip :=
  let s := d.slotRec k
  if s.state = .empty ∨ s.state = .arming then d
  else
    let go := ((s.firings.filter (·.waits)).take s.img.sFires).map (·.number)
    (d.setSlot k { s with
      allowance := s.img.sFires - go.length
      firings := s.firings.map (fun f => if go.contains f.number then { f with waits := false } else f) }).slotRun k

/-- SLOT_FORCE_DISARM (R206): every uncommitted firing withdrawn with ABORT, the slot EMPTY; a SLOT_ARM that waits is
withdrawn and a SLOT_DISARM that waits commits. -/
def slotForceDisarm (d : Chip) (k : Nat) : Chip :=
  let s := d.slotRec k
  let d := s.firings.foldl (fun (d : Chip) f => d.firingWithdraw k f.number Code.WITHDRAWN) d
  let d := if s.state = .arming then d.withdraw s.armSeq Code.WITHDRAWN else d
  let d := if s.disarmSeq ≠ 0 ∧ s.state ≠ .disarming then d.finish s.disarmSeq Code.OK (due := false) else d
  let d := (d.setSlot k { d.slotRec k with state := .disarming, firings := [], allowance := 0 }).drainSlots
  (d.endAttn (.slotFaulted k)).answered (.block .col) true

def execSlotForceDisarm (slot : Fin 256) (s : State) : Out := s.on (fun d => slotForceDisarm d slot.val)

end Sys2Proof.Machine
end

