-- ==== Sys2Proof/Machine/CollExchange.lean ====
section
/-! DEFINITION. What the nodes of a collective exchange (R169 to R171, R173, R183 to R189): its segments and their routes, a node's own part,
the reduction of a segment, and the results of the ranks. The contents and the order of the chunks are firmware's (R186); those of this file
are a DESIGN CHOICE, log entry 78. -/
namespace Sys2Proof.Machine
open Sys2Proof

/-! ## Ranks (R173) -/

/-- Ports of a group's local members; in device mode the node is one rank, with no port. -/
def localRanks (g x : Desc) : List (Option Nat) := if x.cDev then [none] else (portsOf g.gMask).map some

def ranksOf (g x : Desc) : Nat := g.gNodes * (localRanks g x).length

/-- Global rank of the j-th local rank. -/
def rankOf (g x : Desc) (j : Nat) : Nat := g.gRank * (localRanks g x).length + j

/-- The node of a rank. -/
def nodeOf (g x : Desc) (r : Nat) : Nat := r / max (localRanks g x).length 1

/-- The local port of a rank, on the rank's node. -/
def portOf (g x : Desc) (r : Nat) : Option Nat := let l := localRanks g x; (l[r % max l.length 1]?).getD none

def reducing (k : Nat) : Bool := k = 1 || k = 2 || k = 5

/-- The address of a member's source or destination (R175). -/
def memberAddr (p : Option Nat) (ofs : Nat) : Nat := match p with | some p => memberWindow p + ofs | none => ofs

/-- Elements a rank gives and receives (R169). -/
def inCount (x : Desc) (n : Nat) : Nat := if x.cKind = 6 then n * x.cCount else x.cCount
def outCount (x : Desc) (n : Nat) : Nat :=
  match x.cKind with
  | 2 => x.cCount / max n 1
  | 3 => n * x.cCount
  | 6 => n * x.cCount
  | _ => x.cCount

/-- Elements written for each rank of this node: a reduce gives its root's node alone a result (R169, R205). -/
def nodeCount (g x : Desc) : Nat := if x.cKind = 5 ∧ nodeOf g x x.cRoot ≠ g.gRank then 0 else outCount x (ranksOf g x)

/-! ## The algorithm (R183, R185) -/

/-- The outer stage: 0 none, 1 ring, 2 tree, 3 shard exchange. -/
def outerStage (d : Chip) (g x : Desc) : Nat :=
  if x.cCompress ≠ 0 then 3
  else if g.gNodes = 1 then 0
  else if x.cAlgo = 2 then 1
  else if x.cAlgo = 3 then 2
  else if x.cOuter ≠ 0 then x.cOuter
  else if packedBytes x.cIn (inCount x (ranksOf g x)) ≥ 2 ^ d.rg Reg.COL_ALGO_CFG.RING_MIN then 1
  else 2

/-- Algorithm run, with the outer stage in bits 7:4 (R205). -/
def algoRun (d : Chip) (g x : Desc) : Nat :=
  let a := if x.cAlgo ≠ 0 then x.cAlgo else if g.gNodes = 1 then 1 else 4
  a + 16 * (if a = 4 ∨ x.cCompress ≠ 0 then outerStage d g x else 0)

/-! ## Segments and routes -/

/-- A node's place in the exchange of one segment: the nodes whose parts it takes, and where its own goes. -/
structure Route where
  ins : List Nat
  outs : List Nat
  deriving DecidableEq, Repr

/-- The children of node k of a binary tree of P nodes. -/
def treeKids (P k : Nat) : List Nat := [2 * k + 1, 2 * k + 2].filter (· < P)

/-- The place of a node in the tree of a segment, and the node of a place: the second tree is the first one mirrored. -/
def treePlace (P s k : Nat) : Nat := if s % 2 = 0 then k else P - 1 - k

/-- The node that reduces a segment (R184). -/
def ownerOf (o P s : Nat) : Nat := match o with | 1 => (s + P - 1) % P | 2 => treePlace P s 0 | _ => s % P

/-- The way of a segment's parts to its owner: along the ring from the node after it, up its tree, or straight to it. -/
def upRoute (o P s r : Nat) : Route :=
  match o with
  | 1 =>
    let k := (r + P - s % P) % P
    ⟨if k = 0 then [] else [(r + P - 1) % P], if k = P - 1 then [] else [(r + 1) % P]⟩
  | 2 =>
    let k := treePlace P s r
    ⟨(treeKids P k).map (treePlace P s), if k = 0 then [] else [treePlace P s ((k - 1) / 2)]⟩
  | _ =>
    let own := s % P
    if r = own then ⟨(List.range P).filter (· ≠ own), []⟩ else ⟨[], [own]⟩

/-- The way of a segment's result from its owner to the nodes that need it: onward along the ring or down a tree when all do, else straight. -/
def downRoute (o P own : Nat) (need : List Nat) (r : Nat) : Route :=
  let k := (r + P - own) % P
  match o, decide (need.length = P) with
  | 1, true => ⟨if k = 0 then [] else [(r + P - 1) % P], if k = P - 1 then [] else [(r + 1) % P]⟩
  | 2, true => ⟨if k = 0 then [] else [((k - 1) / 2 + own) % P], (treeKids P k).map (fun c => (c + own) % P)⟩
  | _, _ => if r = own then ⟨[], need.filter (· ≠ own)⟩ else ⟨if need.contains r then [own] else [], []⟩

/-- Segments of a collective: of its elements where it reduces, else one for each source, or for each source and destination. -/
def segCount (o : Nat) (g x : Desc) : Nat :=
  if reducing x.cKind then match o with | 0 => 1 | 2 => 2 | _ => g.gNodes
  else match x.cKind with | 3 => g.gNodes | 4 => 1 | _ => g.gNodes * g.gNodes

/-- Elements of a segment of a reducing collective: whole blocks of 32, whole windows of 4,096 in a shard exchange (R187). -/
def segElems (o : Nat) (g x : Desc) : Nat :=
  let u := if o = 3 then 4096 else 32
  ceilDiv (ceilDiv x.cCount u) (max (segCount o g x) 1) * u

/-- The elements of segment s. -/
def segRange (o : Nat) (g x : Desc) (s : Nat) : Nat × Nat := (min (s * segElems o g x) x.cCount, min ((s + 1) * segElems o g x) x.cCount)

/-- The accumulator format of a reduction: INT32, FP64 or FP32 (R120). -/
def accFmt (x : Desc) : Nat := if isInt x.cIn then 0xC else if x.cIn = 0xE ∨ x.cOut = 0xE then 0xE else 0

/-- Bytes of n elements of a part, of a result, and of a contribution on the wire. -/
def partLen (x : Desc) (n : Nat) : Nat :=
  match x.cCompress with
  | 1 => writtenBytes x.cWire n + ceilDiv n 32
  | 2 => 8 * topkCount n x.cKwin 4096
  | _ => packedBytes (accFmt x) n
def outLen (x : Desc) (n : Nat) : Nat := writtenBytes x.cOut n + if isMX x.cOut then ceilDiv n 32 else 0
def rawLen (x : Desc) (n : Nat) : Nat := packedBytes x.cIn n + if isMX x.cIn then n else 0

/-- Bytes of a segment that reduces nothing. -/
def moveLen (g x : Desc) : Nat :=
  let l := (localRanks g x).length
  rawLen x x.cCount * (match x.cKind with | 3 => l | 4 => 1 | _ => l * l)

def segPart (o : Nat) (g x : Desc) (s : Nat) : Nat :=
  let r := segRange o g x s
  partLen x (r.2 - r.1)
def segOut (o : Nat) (g x : Desc) (s : Nat) : Nat :=
  let r := segRange o g x s
  if reducing x.cKind then outLen x (r.2 - r.1) else moveLen g x

/-- The places of a segment's parts and of its result, and of g, in the exchange. -/
def placeP (o : Nat) (g x : Desc) (s : Nat) : Nat := if reducing x.cKind then s * partLen x (segElems o g x) else 0
def placeF (o : Nat) (g x : Desc) (s : Nat) : Nat :=
  placeP o g x (segCount o g x) + s * (if reducing x.cKind then outLen x (segElems o g x) else moveLen g x)
def placeG (o : Nat) (g x : Desc) : Nat := placeF o g x (segCount o g x)

/-- The nodes that need the result of a segment. -/
def needs (o : Nat) (g x : Desc) (s : Nat) : List Nat :=
  let all := List.range g.gNodes
  match x.cKind with
  | 2 =>
    let r := segRange o g x s
    let part := x.cCount / max g.gNodes 1
    all.filter (fun q => r.1 < (q + 1) * part && q * part < r.2)
  | 5 => all.filter (· = nodeOf g x x.cRoot)
  | 6 => all.filter (· = s % max g.gNodes 1)
  | _ => all

/-- The node a segment's result comes from. -/
def sourceOf (o : Nat) (g x : Desc) (s : Nat) : Nat :=
  if reducing x.cKind then ownerOf o g.gNodes s
  else match x.cKind with | 3 => s | 4 => nodeOf g x x.cRoot | _ => s / max g.gNodes 1

def segDown (o : Nat) (g x : Desc) (s : Nat) : Route :=
  downRoute (if x.cKind = 6 then 0 else o) g.gNodes (sourceOf o g x s) (needs o g x s) g.gRank

/-! ## The core of a request -/

/-- The work core whose units run a request's steps: the first of its plan's grant, or the lowest one that no plan holds. Its WKC_SR_KEY and
its redo area are used. -/
def collCore (d : Chip) (i : Item) : Nat :=
  match (d.plan i.plan).bind (fun p => if p.state = .suspended then none else p.cores.head?) with
  | some c => c
  | none => (((freeCores d []).head?).or ((upCores d).head?)).getD 0

def collRnd (d : Chip) (i : Item) : Nat → Rnd := roundingOf i.body.cRnd (d.rg (Reg.WKC_SR_KEY.KEY (collCore d i))) i.seq

/-! ## A node's own part (R184, R187, R188) -/

/-- A rank's input elements. Where an MX source keeps its scales is not stated: each is a free value. -/
def Chip.rankIn (d : Chip) (x : Desc) (p : Option Nat) (n : Nat) : List (Nat × Nat × Bool) :=
  let bs := d.lineRead (memberAddr p x.cSrc) (packedBytes x.cIn n)
  (List.range n).map (fun i =>
    let e := elemAt bs (fmtBits x.cIn) i
    (e.1, if isMX x.cIn then Config.freeNat (d.free + i / 32) % 256 else 127, e.2))

/-- Elements of a contribution on the wire, each MX one with its scale byte, and back. -/
def rawBytes (x : Desc) (es : List (Nat × Nat × Bool)) : List PByte :=
  packElems (fmtBits x.cIn) (es.map (fun e => (e.1, e.2.2))) ++ (if isMX x.cIn then es.map (fun e => (e.2.1, e.2.2)) else [])
def wireElems (x : Desc) (n : Nat) (bs : List PByte) : List (Nat × Nat × Bool) :=
  let sc := bs.drop (packedBytes x.cIn n)
  (List.range n).map (fun i =>
    let e := elemAt bs (fmtBits x.cIn) i
    (e.1, if isMX x.cIn then (sc.getD i (127, false)).1 else 127, e.2))

/-- The node's own reduction over its local ranks (R184): its values, their poison, and whether one saturated. -/
def Chip.nodeSum (d : Chip) (g x : Desc) : List (Val × Bool) × Bool :=
  let cols := (localRanks g x).map (fun p => d.rankIn x p x.cCount)
  let vs := (List.range x.cCount).map (fun i =>
    let ts := cols.map (fun c => c.getD i (0, 127, false))
    (reduceOne d.free i x.cRedop (isInt x.cIn) (accFmt x = 0xE) (ts.map (elemVal x.cIn)), ts.any (·.2.2)))
  (vs.map (fun v => (v.1.1, v.2)), vs.any (·.1.2))

/-- A node's part of a collective by segment, with g and the residual where it is compressed. -/
structure NodePart where
  segs : List (List PByte)
  g : List PByte := []
  resid : List PByte := []
  flags : Nat := 0

/-- QUANT_EF of a node's sum: the wire elements and scales of each segment (R142, R187). -/
def quantPart (o : Nat) (g x : Desc) (rnd : Nat → Rnd) (v : List (Val × Bool)) : NodePart :=
  let r := convertTensor x.cWire x.cScl x.cNanp rnd v
  let back := decodeBack x.cWire x.cCount r.1 r.2.1
  let res := f32Bytes ((v.zip back).map (fun p => (addF fmtF32 p.1.1 p.2.neg, p.1.2)))
  { resid := res.1, flags := r.2.2 ||| (res.2 &&& (afNAN_OUT + afINF_OUT))
    segs := (List.range (segCount o g x)).map (fun s =>
      let e := segRange o g x s
      (r.1.drop (e.1 * fmtBits x.cWire / 8)).take (writtenBytes x.cWire (e.2 - e.1)) ++
        (r.2.1.drop (e.1 / 32)).take (ceilDiv (e.2 - e.1) 32)) }

/-- TOPK_EF of a node's sum: the values and the indices kept of each segment (R144, R187). -/
def topkPart (o : Nat) (g x : Desc) (v : List (Val × Bool)) : NodePart :=
  let sel := topkSelect true x.cNanp x.cKwin 4096 (v.map (·.1))
  let res := f32Bytes (v.zipIdx.map (fun e =>
    (if sel.any (fun q => q.2 = e.2) then addF fmtF32 e.1.1 e.1.1.neg else e.1.1, windowPoison 4096 v e.2)))
  let vals := f32Bytes (sel.map (fun e => (e.1, false)))
  { resid := res.1, flags := vals.2 ||| (res.2 &&& (afNAN_OUT + afINF_OUT))
    segs := (List.range (segCount o g x)).map (fun s =>
      let e := segRange o g x s
      let sel := sel.filter (fun q => e.1 ≤ q.2 && q.2 < e.2)
      (f32Bytes (sel.map (fun e => (e.1, windowPoison 4096 v e.2)))).1 ++ indexBytes 4096 v sel) }

/-- The part of a node in a reducing collective. -/
def Chip.nodePart (d : Chip) (g : Desc) (i : Item) : NodePart :=
  let x := i.body
  let o := outerStage d g x
  let s := d.nodeSum g x
  let sat := if s.2 then afINT_SAT else 0
  if x.cCompress = 0 then
    { flags := sat, segs := (List.range (segCount o g x)).map (fun k =>
        let e := segRange o g x k
        (convertTensor (accFmt x) false true (fun _ => .nearest) ((s.1.drop e.1).take (e.2 - e.1))).1) }
  else
    let v := (s.1.zip (d.elems x.cResIn 0 x.cCount 0)).map (fun p => (addF fmtF32 p.1.1 p.2.1, p.1.2 || p.2.2))
    let r := if x.cCompress = 1 then quantPart o g x (collRnd d i) v else topkPart o g x v
    { r with g := (f32Bytes s.1).1, flags := r.flags ||| sat }

/-- The values of n elements of a part that begins at element lo. -/
def partVals (x : Desc) (lo n : Nat) (bs : List PByte) : List (Val × Bool) :=
  match x.cCompress with
  | 1 =>
    let e := writtenBytes x.cWire n
    (decodeBack x.cWire n (bs.take e) (bs.drop e)).zipIdx.map (fun v =>
      (v.1, (elemAt bs (fmtBits x.cWire) v.2).2 || (bs.getD (e + v.2 / 32) (0, false)).2))
  | 2 =>
    let k := topkCount n x.cKwin 4096
    let pairs := (List.range k).map (fun i => (elemAt bs 32 (k + i), elemAt bs 32 i))
    (List.range n).map (fun i =>
      match pairs.find? (fun p => p.1.1 = lo + i) with
      | some p => (decodeElem 0 p.2.1, p.1.2 || p.2.2)
      | none => (.fin false 0 0, pairs.any (fun p => p.1.2)))
  | _ => (List.range n).map (fun i => let e := elemAt bs (fmtBits (accFmt x)) i; (decodeElem (accFmt x) e.1, e.2))

/-- A segment reduced over the parts that have come to a node: as its result where the node owns it, converted once (R184), else as a part
to be passed on. The bytes, and the flags of the step. -/
def Chip.combine (d : Chip) (g : Desc) (i : Item) (s : Nat) (owner : Bool) (parts : List (List PByte)) : List PByte × Nat :=
  let x := i.body
  let e := segRange (outerStage d g x) g x s
  let cols := parts.map (partVals x e.1 (e.2 - e.1))
  let vs := (List.range (e.2 - e.1)).map (fun k =>
    let ts := cols.map (fun c => c.getD k (.fin false 0 0, false))
    (reduceOne d.free (e.1 + k) x.cRedop (isInt x.cIn) (accFmt x = 0xE) (ts.map (·.1)), ts.any (·.2)))
  let sat := if vs.any (·.1.2) then afINT_SAT else 0
  if owner then
    let sg := collSigma x.cSigma x.cRedop (ranksOf g x)
    let rnd := collRnd d i
    let r := convertTensor x.cOut x.cScl x.cNanp (fun k => rnd (e.1 + k)) (vs.map (fun v => (mulExact sg v.1.1, v.2)))
    (r.1 ++ r.2.1, r.2.2 ||| sat)
  else ((convertTensor (accFmt x) false true (fun _ => .nearest) (vs.map (fun v => (v.1.1, v.2)))).1, sat)

/-- A segment that is moved and not reduced, out of the ranks of the node it comes from. -/
def Chip.moveSeg (d : Chip) (g x : Desc) (s : Nat) : List PByte :=
  let l := localRanks g x
  match x.cKind with
  | 3 => l.flatMap (fun p => rawBytes x (d.rankIn x p x.cCount))
  | 4 => rawBytes x (d.rankIn x (portOf g x x.cRoot) x.cCount)
  | _ => l.flatMap (fun p =>
      let es := d.rankIn x p (ranksOf g x * x.cCount)
      (List.range l.length).flatMap (fun b =>
        rawBytes x ((es.drop ((s % max g.gNodes 1 * l.length + b) * x.cCount)).take x.cCount)))

/-! ## Results (R169, R171) -/

/-- Elements copied into a rank's result: unchanged where the formats agree, else converted (R171, R113). -/
def copyOut (x : Desc) (rnd : Nat → Rnd) (es : List (Nat × Nat × Bool)) : List PByte × List PByte × Nat :=
  if x.cIn = x.cOut then
    (packElems (fmtBits x.cIn) (es.map (fun e => (e.1, e.2.2))),
      if isMX x.cIn then (pieces (ceilDiv es.length 32) 32 es).map (fun b => ((b.head?.map (·.2.1)).getD 127, b.any (·.2.2))) else [], 0)
  else convertTensor x.cOut x.cScl x.cNanp rnd (es.map (fun e => (mulExact (collSigma x.cSigma 0 1) (elemVal x.cIn e), e.2.2)))

/-- n elements of a reduced result from element `lo` on, out of the segments' results. -/
def reducedOut (o : Nat) (g x : Desc) (segs : Nat → List PByte) (lo n : Nat) : List PByte × List PByte × Nat :=
  let w := fmtBits x.cOut
  let E := max (segElems o g x) 1
  let len (s : Nat) : Nat := let r := segRange o g x s; r.2 - r.1
  let es := (List.range n).map (fun k => elemAt (segs ((lo + k) / E)) w ((lo + k) % E))
  (packElems w es,
    if isMX x.cOut then (List.range (ceilDiv n 32)).map (fun b =>
      let k := lo + 32 * b
      (segs (k / E)).getD (writtenBytes x.cOut (len (k / E)) + k % E / 32) (127, false)) else [], 0)

/-- The result of the j-th local rank, or none where it receives nothing. -/
def Chip.collResult (d : Chip) (g : Desc) (i : Item) (segs : Nat → List PByte) (j : Nat) : Option (List PByte × List PByte × Nat) :=
  let x := i.body
  let o := outerStage d g x
  let r := rankOf g x j
  let n := ranksOf g x
  let l := (localRanks g x).length
  let rnd := collRnd d i
  let b := rawLen x x.cCount
  let part (s k : Nat) : List (Nat × Nat × Bool) := wireElems x x.cCount (((segs s).drop (k * b)).take b)
  match x.cKind with
  | 1 => some (reducedOut o g x segs 0 x.cCount)
  | 2 => some (reducedOut o g x segs (r * outCount x n) (outCount x n))
  | 3 => some (copyOut x rnd ((List.range n).flatMap (fun q => part (q / l) (q % l))))
  | 4 => some (copyOut x rnd (part 0 0))
  | 5 => if r = x.cRoot then some (reducedOut o g x segs 0 x.cCount) else none
  | _ => some (copyOut x (fun k => rnd (j * n * x.cCount + k)) ((List.range n).flatMap (fun q =>
      part (q / l * g.gNodes + g.gRank) (q % l * l + j))))

/-! ## The staging area (R186) -/

def Chip.collRun (d : Chip) (seq : Nat) : CollRun := (tget d.coll.runs seq).getD {}
def Chip.setCollRun (d : Chip) (seq : Nat) (r : CollRun) : Chip := { d with coll := { d.coll with runs := tput d.coll.runs seq r } }

/-- The chunks that stand in the staging area of a group: address and length. -/
def Chip.stagedIn (d : Chip) (gid : Nat) : List (Nat × Nat) :=
  d.coll.runs.flatMap (fun (r : Nat × CollRun) =>
    if (d.item r.1).any (fun i => i.body.cGroup = gid) then
      (r.2.staged.filter (fun c => c.addr ≠ 0)).map (fun c => (c.addr, c.len)) else [])

/-- The lowest place of a group's staging area that has room for a chunk; 0 when none has. -/
def Chip.stageRoom (d : Chip) (g : Desc) (len : Nat) : Nat :=
  let used := d.stagedIn g.gId
  let starts := g.gStage :: used.map (fun u => ceilDiv (u.1 + u.2) 64 * 64)
  let fits (a : Nat) : Bool := a + len ≤ g.gStage + g.gStageBytes && !used.any (fun u => overlaps a len u.1 u.2)
  ((starts.filter fits).foldl (fun (m : Option Nat) a => some (match m with | some b => min a b | none => a)) none).getD 0

/-- A chunk kept for a request until it ends: in the staging area where it has room. A chunk held already stands. -/
def Chip.keepChunk (d : Chip) (g : Desc) (seq node ofs : Nat) (data : List PByte) : Chip :=
  let r := d.collRun seq
  if data.isEmpty ∨ r.staged.any (fun c => c.node = node && c.ofs = ofs) then d
  else
    let a := if g.gStageBytes = 0 then 0 else d.stageRoom g data.length
    let d := d.setCollRun seq { r with staged := r.staged ++ [⟨node, ofs, data.length, a, if a = 0 then data else []⟩] }
    if a = 0 then d else d.writeRange a data

/-- Data kept in chunks of a quarter of the staging area. -/
def Chip.keepChunks (d : Chip) (g : Desc) (seq node ofs : Nat) (data : List PByte) : Chip :=
  let n := if g.gStageBytes = 0 then max data.length 1 else g.gStageBytes / 4
  (pieces (ceilDiv data.length n) n data).zipIdx.foldl (fun (d : Chip) c => d.keepChunk g seq node (ofs + c.2 * n) c.1) d

def Chip.chunkBytes (d : Chip) (c : StagedChunk) : List PByte := if c.addr = 0 then c.kept else d.readRange c.addr c.len

/-- The bytes of a place of the exchange that have come from a node, once all of them have. -/
def Chip.heldAux (d : Chip) (cs : List StagedChunk) : Nat → Nat → Nat → Option (List PByte)
  | _, _, 0 => some []
  | 0, _, _ => none
  | k + 1, ofs, len =>
    match cs.find? (fun c => c.ofs ≤ ofs && ofs < c.ofs + c.len) with
    | none => none
    | some c =>
      let bs := ((d.chunkBytes c).drop (ofs - c.ofs)).take len
      (d.heldAux cs k (ofs + bs.length) (len - bs.length)).map (bs ++ ·)

def Chip.held (d : Chip) (seq node ofs len : Nat) : Option (List PByte) :=
  let cs := (d.collRun seq).staged.filter (fun c => c.node = node)
  d.heldAux cs cs.length ofs len

/-! ## Messages -/

/-- The first port of a connection's path, which the bytes of a message leave by or come by. -/
def Chip.connPort (d : Chip) (c : Nat) : Nat := ((tget d.dvt.conns c).map (fun x => x.port 0)).getD 8

/-- One message to a peer node: the request's tag, the rank it names and its type before the data. -/
def Chip.collSend (d : Chip) (g : Desc) (i : Item) (node type rank ofs : Nat) (data : List PByte) : Chip :=
  let c := d.peerConn g node
  let head := (leBytes 4 i.body.cTag ++ leBytes 2 rank ++ [type, 0]).map (fun b => (b, false))
  let d : Chip := { d with coll := { d.coll with out := d.coll.out ++ [⟨c, 8, g.gKey, ofs, head ++ data⟩] } }
  d.charge i.plan { egress := [(d.connPort c, 8 + data.length)] }

/-- Data to a peer node, in chunks of a quarter of the staging area (R186). -/
def Chip.collSendAll (d : Chip) (g : Desc) (i : Item) (node type rank ofs : Nat) (data : List PByte) : Chip :=
  let n := g.gStageBytes / 4
  (pieces (ceilDiv data.length n) n data).zipIdx.foldl (fun (d : Chip) c => d.collSend g i node type rank (ofs + c.2 * n) c.1) d

/-- Data to several nodes, once: a mark keeps a rerun from sending them again. -/
def Chip.sendOnce (d : Chip) (g : Desc) (i : Item) (mark : Nat) (nodes : List Nat) (ofs : Nat) (data : List PByte) : Chip :=
  let r := d.collRun i.seq
  if nodes.isEmpty ∨ r.sent.contains mark then d
  else nodes.foldl (fun (d : Chip) q => d.collSendAll g i q 0 0 ofs data) (d.setCollRun i.seq { r with sent := mark :: r.sent })

end Sys2Proof.Machine
end

