-- ==== Sys2Proof/Machine/Coll.lean ====
section
/-! DEFINITION. Collective requests (R169 to R177, R183 to R189, R203 to R205). -/
namespace Sys2Proof.Machine
open Sys2Proof

/-! ## Checks (R175, R176, R183, R187) -/

/-- Reserved encodings and invalid combinations that need no group (COL_BAD_REQ). -/
def reqBad (x : Desc) : Bool :=
  x.cKind = 0 || x.cKind > 8 || x.cIn = 0xF || x.cOut = 0xF || (x.cCompress ≠ 1 && x.cWire ≠ 0) || x.cRnd = 3 || x.cRedop > 3 ||
  x.cAlgo > 4 || x.cCompress = 3 || wf x.w2 36 28 ≠ 0 || wf x.w3 52 12 ≠ 0 || wf x.w4 52 12 ≠ 0 ||
  wf x.w5 52 12 ≠ 0 || wf x.w6 52 12 ≠ 0 || wf x.w7 52 12 ≠ 0 ||
  (x.cCompress = 0 && (x.w5 ≠ 0 || x.w6 ≠ 0)) || (x.cCompress ≠ 2 && x.cKwin ≠ 0) ||
  (x.cCompress = 2 && (x.cKwin = 0 || x.cKwin > 4096)) || (!isMX x.cOut && x.cScaleOfs ≠ 0) ||
  (reducing x.cKind && x.cRedop = 3 && (isInt x.cIn || isInt x.cOut)) || (x.cCompress = 1 && !isMX x.cWire) ||
  (x.cCompress ≠ 0 && x.cKind ≠ 1) || (reducing x.cKind && isInt x.cIn && isInt x.cOut && x.cSigma ≠ 0)

def algoOk (g x : Desc) : Bool :=
  match x.cAlgo with
  | 1 => g.gNodes = 1
  | 2 => (localRanks g x).length = 1
  | 3 => (localRanks g x).length = 1
  | 4 => g.gNodes > 1
  | _ => true

/-- Combinations that depend on N (COL_BAD_REQ). -/
def reqShapeBad (x : Desc) (n : Nat) : Bool :=
  (x.cKind = 2 && x.cCount % n ≠ 0) ||
  (isMX x.cOut && ((x.cKind = 2 && x.cCount / n % 32 ≠ 0) || ((x.cKind = 3 || x.cKind = 6) && x.cCount % 32 ≠ 0)))

/-- R175 on SRC and DST, and on the ranges of one rank: alignment, lengths, then the windows, or the map for device addresses. -/
def Chip.reqRange (d : Chip) (x : Desc) (fn n : Nat) : Option Nat :=
  let sends := x.cKind ≠ 8
  let takes := x.cKind ≠ 7
  let i := if sends then packedBytes x.cIn (inCount x n) else 0
  let o := if takes then packedBytes x.cOut (outCount x n) else 0
  let sc := if isMX x.cOut && takes then x.cScaleOfs + ceilDiv (outCount x n) 32 else 0
  if x.cSrc % 64 ≠ 0 ∨ x.cDst % 64 ≠ 0 ∨ x.cScaleOfs % 64 ≠ 0 then some Code.WC_ALIGN
  else if i > 2 ^ 32 ∨ o > 2 ^ 32 then some Code.LENGTH_OVER
  else if x.cDev then
    if (sends && !d.accessOk fn x.cSrc i false) || (takes && !d.accessOk fn x.cDst (max o sc) true) then some Code.ACCESS_VIOLATION else none
  else if x.cSrc ≥ 2 ^ 45 ∨ x.cDst ≥ 2 ^ 45 ∨ x.cSrc + i > 2 ^ 45 ∨ x.cDst + max o sc > 2 ^ 45 then some Code.ACCESS_VIOLATION
  else none

def residBad (d : Chip) (a n : Nat) : Bool := a % 64 ≠ 0 || !isPlinth a || !d.inOne a (4 * n) || inLedger a (4 * n) || inRedo a (4 * n) || inSystem a (4 * n)

def Chip.reqCheck (d : Chip) (fn : Nat) (x : Desc) : Option Nat :=
  if reqBad x then some Code.COL_BAD_REQ
  else match d.group x.cGroup with
    | none => some Code.COL_GROUP_UNKNOWN
    | some g =>
      let n := ranksOf g x
      if !algoOk g x then some Code.COL_ALGO
      else if x.cRoot ≥ n ∨ reqShapeBad x n then some Code.COL_BAD_REQ
      else match d.reqRange x fn n with
        | some c => some c
        | none =>
          if x.cCompress ≠ 0 ∧ (residBad d x.cResIn x.cCount ∨ residBad d x.cResOut x.cCount) then some Code.COL_RESID else none

/-! ## Replies, writes and charges -/

def collReply (d : Chip) (g x : Desc) (r : CollRun) (flags count : Nat) (poison : Bool) : ReplyData :=
  ⟨if poison then Code.POISONED_DATA else Code.OK,
   (r.flags ||| flags) + algoRun d g x * 2 ^ 8 + min r.runs 255 * 2 ^ 16 + 0xFF * 2 ^ 24 + count * 2 ^ 32, 0⟩

/-- A rank's result written at its destination, and its scales. -/
def Chip.rankWrite (d : Chip) (x : Desc) (p : Option Nat) (o : List PByte × List PByte × Nat) : Chip :=
  let a := memberAddr p x.cDst
  let d := d.writeRange a (poisonLines a o.1)
  if isMX x.cOut then d.writeRange (a + x.cScaleOfs) (poisonLines (a + x.cScaleOfs) o.2.1) else d

/-- What a run of a request is charged to its plan (R88, R189): the reduction of its members' contributions as a REDUCE_ARRIVE whose result
leaves as one multicast, the residual and g, and the link bytes of every member port. The bytes of the network ports are charged as they go. -/
def collUse (g x : Desc) : PlanUse :=
  let n := ranksOf g x
  let i := if x.cKind = 8 then 0 else packedBytes x.cIn (inCount x n)
  let o := if x.cKind = 7 then 0 else packedBytes x.cOut (nodeCount g x)
  let ports := (localRanks g x).filterMap id
  { wc := if reducing x.cKind then (arriveTerms (accFmt x) x.cIn x.cCount (localRanks g x).length).cycles { toOther := o } else 0
    plinth := if x.cCompress = 0 then 0 else x.cCount * if x.cResIn = x.cResOut then 20 else 12
    ingress := ports.map (fun p => (p, i)), egress := ports.map (fun p => (p, o)) }

/-- The residual written: in place by way of the core's redo area, in items of at most 262,144 elements (R188, R153). -/
def Chip.residWrite (d : Chip) (i : Item) (bs : List PByte) : Chip :=
  let x := i.body
  if x.cResIn ≠ x.cResOut then d.writeRange x.cResOut bs
  else (pieces (ceilDiv bs.length 0x10_0000) 0x10_0000 bs).zipIdx.foldl (fun (d : Chip) p =>
    (d.writePhys (redoArea (collCore d i)) p.1).writeRange (x.cResOut + p.2 * 0x10_0000) p.1) d

/-! ## Starting and finishing -/

/-- Whether the core that runs a request serves. -/
def Chip.collServed (d : Chip) (i : Item) : Bool :=
  if 0x40 ≤ i.owner ∧ i.owner < 0x50 then d.coreServes (i.owner - 0x40) else (d.groupCore i.body.cGroup).any d.coreServes

/-- Whether a request goes on now: its block and its core serve, and neither its plan's budget nor the tick's order holds it. -/
def Chip.collGoes (d : Chip) (i : Item) : Bool :=
  i.kind = .coll && !i.state.ended && i.fin.isNone && i.crec = .none && d.running .col && !(d.agentRec (.block .col)).fencing &&
  d.collServed i && !d.hostPaused i && !d.spent i.plan && !(i.carried && d.tck.carriedWait) && !d.flag Reg.FLT_SAFE.SAFE && !d.hub.inReset

/-- Whether a request in device mode touches an unmapped page (R289). -/
def Chip.collUnmapped (d : Chip) (g x : Desc) : Bool :=
  x.cDev && ((x.cKind ≠ 8 && d.unmapped x.cSrc (max 1 (packedBytes x.cIn (inCount x (ranksOf g x))))) ||
    (x.cKind ≠ 7 && d.unmapped x.cDst (max 1 (packedBytes x.cOut (outCount x (ranksOf g x))))))

/-- A run of a request begins. A star has nothing staged to read again: its rerun reads the members' windows anew. -/
def Chip.collStart (d : Chip) (i : Item) (g : Desc) : Chip :=
  if i.state ≠ .accepted then d
  else
    let r := d.collRun i.seq
    let star := g.gNodes = 1 ∧ i.body.cCompress = 0 ∧ i.body.cKind ≤ 6
    let r := if star then { r with staged := [], begun := false, flags := 0 } else r
    ((d.setCollRun i.seq { r with runs := min (r.runs + 1) 255 }).updItem i.seq (fun i => { i with state := .running })).charge i.plan
      (collUse g i.body)

/-- The node's own part computed and kept, once (R186, R188): the parts of its segments with g and the residual, or the segments that it moves. -/
def Chip.collBegin (d : Chip) (i : Item) (g : Desc) : Chip :=
  let x := i.body
  let o := outerStage d g x
  let r := d.collRun i.seq
  if r.begun then d
  else if reducing x.cKind then
    let d := if x.cCompress = 0 then d else d.noteRead x.cResIn (4 * x.cCount)
    let p := d.nodePart g i
    let d := d.takeFree.setCollRun i.seq { r with begun := true, flags := r.flags ||| p.flags }
    let d := p.segs.zipIdx.foldl (fun (d : Chip) s => d.keepChunks g i.seq g.gRank (placeP o g x s.2) s.1) d
    if x.cCompress = 0 then d else (d.keepChunks g i.seq g.gRank (placeG o g x) p.g).residWrite i p.resid
  else
    let d := d.setCollRun i.seq { r with begun := true }
    let mine := (List.range (segCount o g x)).filter (fun s => sourceOf o g x s = g.gRank)
    (mine.foldl (fun (d : Chip) s => d.keepChunks g i.seq g.gRank (placeF o g x s) (d.moveSeg g x s)) d).takeFree

/-- A segment brought forward towards its owner: with every part in, it is reduced here, or what it comes to is passed on. -/
def Chip.segUp (d : Chip) (i : Item) (g : Desc) (s : Nat) : Chip :=
  let x := i.body
  let o := outerStage d g x
  let way := upRoute o g.gNodes s g.gRank
  let parts := (g.gRank :: way.ins).map (fun q => d.held i.seq q (placeP o g x s) (segPart o g x s))
  let r := d.collRun i.seq
  if parts.any (·.isNone) then d
  else
    let ps := parts.filterMap id
    let c := d.combine g i s way.outs.isEmpty ps
    if way.outs.isEmpty then
      if (d.held i.seq g.gRank (placeF o g x s) (segOut o g x s)).isSome then d
      else (d.takeFree.setCollRun i.seq { r with flags := r.flags ||| c.2 }).keepChunks g i.seq g.gRank (placeF o g x s) c.1
    else if r.sent.contains (2 * s) then d
    else if way.ins.isEmpty then d.sendOnce g i (2 * s) way.outs (placeP o g x s) (ps.flatMap id)
    else (d.takeFree.setCollRun i.seq { r with flags := r.flags ||| c.2 }).sendOnce g i (2 * s) way.outs (placeP o g x s) c.1

/-- The result of a segment, once the node has it. -/
def Chip.segResult (d : Chip) (i : Item) (g : Desc) (s : Nat) : Option (List PByte) :=
  let x := i.body
  let o := outerStage d g x
  let from_ := if sourceOf o g x s = g.gRank then g.gRank else ((segDown o g x s).ins.head?).getD g.gRank
  d.held i.seq from_ (placeF o g x s) (segOut o g x s)

/-- A result passed on to the nodes that have it from this one. -/
def Chip.segOn (d : Chip) (i : Item) (g : Desc) (s : Nat) : Chip :=
  let o := outerStage d g i.body
  match d.segResult i g s with
  | none => d
  | some bs => d.sendOnce g i (2 * s + 1) (segDown o g i.body s).outs (placeF o g i.body s) bs

/-- Whether a node has done all that a segment asks of it. -/
def Chip.segDone (d : Chip) (i : Item) (g : Desc) (s : Nat) : Bool :=
  let x := i.body
  let o := outerStage d g x
  let sent := (d.collRun i.seq).sent
  let up := upRoute o g.gNodes s g.gRank
  (!reducing x.cKind || up.outs.isEmpty || sent.contains (2 * s)) &&
  ((segDown o g x s).outs.isEmpty || sent.contains (2 * s + 1)) &&
  (!((needs o g x s).contains g.gRank || (reducing x.cKind && up.outs.isEmpty)) || (d.segResult i g s).isSome)

/-- A request whose segments are all in: its results are written, and its reply is ready. -/
def Chip.collFinish (d : Chip) (i : Item) (g : Desc) : Chip :=
  let x := i.body
  let segs (s : Nat) : List PByte := (d.segResult i g s).getD []
  let outs := (localRanks g x).zipIdx.filterMap (fun p => (d.collResult g i segs p.2).map (fun r => (p.1, r)))
  let lost := outs.any (fun o => d.writeLost (memberAddr o.1 x.cDst) o.2.1.length)
  let d := outs.foldl (fun (d : Chip) o => d.rankWrite x o.1 o.2) d
  let poison := lost || outs.any (fun o => (o.2.1 ++ o.2.2.1).any (·.2))
  let flags := outs.foldl (fun a o => a ||| o.2.2.2) 0
  d.updItem i.seq (fun i => { i with fin := some (collReply d g x (d.collRun i.seq) flags (nodeCount g x) poison) })

/-- A collective brought forward: the node's part, each segment as far as it goes, and the results when all is in. -/
def Chip.exchange (d : Chip) (i : Item) (g : Desc) : Chip :=
  let ss := List.range (segCount (outerStage d g i.body) g i.body)
  let d := d.collBegin i g
  let d := if reducing i.body.cKind then ss.foldl (fun (d : Chip) s => d.segUp i g s) d else d
  let d := ss.foldl (fun (d : Chip) s => d.segOn i g s) d
  if ss.all (d.segDone i g) then d.collFinish i g else d

/-! ## Send and receive (R177) -/

/-- Whether a receive matches a send of the same node: same group and tag, each naming the other's rank. -/
def pairs (g : Desc) (s r : Item) : Bool :=
  r.kind = .coll && !r.state.ended && r.fin.isNone && r.crec = .none && r.body.cKind = 8 && r.body.cGroup = s.body.cGroup &&
  r.body.cTag = s.body.cTag && nodeOf g r.body r.body.cRoot = g.gRank && nodeOf g s.body s.body.cRoot = g.gRank

/-- What a send carries: its COUNT and format, then its elements. -/
def Chip.sendBytes (d : Chip) (g : Desc) (s : Item) (rank : Nat) : List PByte :=
  (leBytes 4 s.body.cCount ++ [s.body.cIn, 0, 0, 0]).map (fun b => (b, false)) ++
    rawBytes s.body (d.rankIn s.body (portOf g s.body rank) s.body.cCount)

/-- A receive whose data is in: written to the rank that the send named. -/
def Chip.receiveTry (d : Chip) (i : Item) (g : Desc) : Chip :=
  let node := nodeOf g i.body i.body.cRoot
  match d.held i.seq node 0 8 with
  | none => d
  | some h =>
    let sent := leNat ((h.take 4).map (·.1))
    let f := ((h.getD 4 (0, false)).1) % 16
    let x := { i.body with w0 := i.body.w0 &&& ~~~(0xF00 : Word) ||| BitVec.ofNat 64 (f * 256) }
    let n := min sent i.body.cCount
    match d.held i.seq node 8 (rawLen x sent) with
    | none => d
    | some bs =>
      let o := copyOut x (collRnd d i) ((wireElems x sent bs).take n)
      let p := portOf g x (d.collRun i.seq).rank
      let lost := d.writeLost (memberAddr p x.cDst) o.1.length
      let d := d.rankWrite x p o
      d.updItem i.seq (fun i => { i with fin := some (collReply d g i.body (d.collRun i.seq) o.2.2 n (lost || (o.1 ++ o.2.1).any (·.2))) })

/-- A send that has found its receive: its data goes, and it is done. -/
def Chip.sendDone (d : Chip) (i : Item) (g : Desc) (bad : Bool) : Chip :=
  d.updItem i.seq (fun i => { i with fin := some (collReply d g i.body (d.collRun i.seq) 0 0 bad) })

/-- A send handed to a receive of its own node. -/
def Chip.deliver (d : Chip) (g : Desc) (s r : Item) : Chip :=
  let bs := d.sendBytes g s r.body.cRoot
  let d := (d.collStart s g).takeFree
  let d := d.setCollRun s.seq { d.collRun s.seq with begun := true, poison := bs.any (·.2) }
  let d := (d.sendDone s g (bs.any (·.2))).collStart r g
  let d := d.setCollRun r.seq { d.collRun r.seq with rank := s.body.cRoot }
  (d.keepChunks g r.seq g.gRank 0 bs).receiveTry r g

/-- A send: its receive is of this node, or one that the peer has announced; a rerun has its match already. -/
def Chip.sendTry (d : Chip) (i : Item) (g : Desc) : Chip :=
  let node := nodeOf g i.body i.body.cRoot
  let r := d.collRun i.seq
  if r.begun then (d.collStart i g).sendDone i g r.poison
  else if node = g.gRank then
    match d.led.items.find? (fun r => pairs g i r && (d.collRun r.seq).staged.isEmpty) with
    | some r => if d.collGoes r then d.deliver g i r else d
    | none => d
  else
    match d.coll.ready.find? (fun p => p.group = i.body.cGroup && p.node = node && p.tag = i.body.cTag) with
    | none => d
    | some p =>
      let bs := d.sendBytes g i p.rank
      let d : Chip := { d with coll := { d.coll with ready := d.coll.ready.erase p } }
      let d := (d.collStart i g).takeFree
      let d := d.setCollRun i.seq { d.collRun i.seq with begun := true, poison := bs.any (·.2) }
      (d.collSendAll g i node 2 i.body.cRoot 0 bs).sendDone i g (bs.any (·.2))

/-- A receive: the send of its own node that waits for it; or it is announced, once, to the node it receives from. -/
def Chip.receiveGo (d : Chip) (i : Item) (g : Desc) : Chip :=
  let node := nodeOf g i.body i.body.cRoot
  let r := d.collRun i.seq
  if !r.staged.isEmpty then (d.collStart i g).receiveTry i g
  else if node = g.gRank then
    match d.led.items.find? (fun s => d.collGoes s && s.body.cKind = 7 && !(d.collRun s.seq).begun && s.body.cTag = i.body.cTag && pairs g s i) with
    | some s => d.deliver g s i
    | none => d
  else if r.sent.isEmpty then
    let d := d.collStart i g
    (d.setCollRun i.seq { d.collRun i.seq with sent := [0] }).collSend g i node 1 i.body.cRoot 0 []
  else d.collStart i g

/-- A request brought forward as far as it goes. -/
def Chip.collTry (d : Chip) (seq : Nat) : Chip :=
  match d.item seq with
  | none => d
  | some i =>
    match d.group i.body.cGroup with
    | none => d
    | some g =>
      if !d.collGoes i then d
      else if d.collUnmapped g i.body then d.withdraw seq Code.MEM_UNMAPPED
      else match i.body.cKind with
        | 7 => d.sendTry i g
        | 8 => d.receiveGo i g
        | _ => (d.collStart i g).exchange i g

/-- The requests that were held go on. -/
def Chip.collsGo (d : Chip) : Chip :=
  (d.led.items.filter (fun i => i.kind = .coll && i.fin.isNone && !i.state.ended)).foldl (fun (d : Chip) i => d.collTry i.seq) d

/-! ## Messages from peers (R173, R186, R204) -/

/-- Whether a request takes a part that has come: its tag names it (R204), and it is the data of an exchange, or of the send it awaits. -/
def CollPart.fits (p : CollPart) (d : Chip) (i : Item) : Bool :=
  i.kind = .coll && !i.state.ended && i.body.cGroup = p.group && i.body.cTag = p.tag &&
  (if p.type = 2 then i.body.cKind = 8 && (d.group p.group).any (fun g => nodeOf g i.body i.body.cRoot = p.node)
   else i.body.cKind ≤ 6)

/-- A part kept for its request, which goes on with it. -/
def Chip.takePart (d : Chip) (i : Item) (p : CollPart) : Chip :=
  match d.group p.group with
  | none => d
  | some g =>
    let d := d.charge i.plan { ingress := [(d.connPort (d.peerConn g p.node), 8 + p.data.length)] }
    let d := if p.type = 2 then d.setCollRun i.seq { d.collRun i.seq with rank := p.rank } else d
    (d.keepChunk g i.seq p.node p.ofs p.data).collTry i.seq

/-- A whole message: a receive announced, or data for a request that has or has not been accepted yet. -/
def Chip.collTake (d : Chip) (p : CollPart) : Chip :=
  if p.type = 1 then
    let d : Chip := { d with coll := { d.coll with ready := d.coll.ready ++ [p] } }
    (d.led.items.filter (fun i => i.kind = .coll && i.body.cKind = 7 && i.body.cGroup = p.group && i.body.cTag = p.tag)).foldl
      (fun (d : Chip) i => d.collTry i.seq) d
  else match d.led.items.find? (fun i => p.fits d i) with
    | some i => d.takePart i p
    | none => { d with coll := { d.coll with early := d.coll.early ++ [p] } }

/-- What has come early for a request given to it. -/
def Chip.offerEarly (d : Chip) (seq : Nat) : Chip :=
  d.coll.early.foldl (fun (d : Chip) p =>
    match d.item seq with
    | some i => if p.fits d i then ({ d with coll := { d.coll with early := d.coll.early.erase p } }).takePart i p else d
    | none => d) d

/-- A packet of a chunk: the first gives the place and the head of the message, the last completes it. One whose key names no READY group of
which the connection is a peer is dropped and counted (R173). -/
def collPacket (d : Chip) (c : Nat) (p : DvtPkt) : Chip :=
  let bs := p.data.map (fun b => (b, bitOf p.flags 6))
  let cur : Option CollPart :=
    if bitOf p.flags 0 then
      (d.coll.groups.find? (fun g => g.2.gKey = p.rkey && g.2.gNodes > 1)).bind (fun g =>
        ((Chip.peerNodes g.2).find? (fun q => d.peerConn g.2 q = c)).map (fun q =>
          ⟨g.1, q, leNat (p.data.take 4), p.data.getD 6 0, leNat ((p.data.drop 4).take 2), p.offset, bs.drop 8⟩))
    else (tget d.coll.open_ c).map (fun x => { x with data := x.data ++ bs })
  match cur with
  | none => d.count Reg.COL_ORPHANS.COUNT
  | some x =>
    if bitOf p.flags 1 then ({ d with coll := { d.coll with open_ := tdel d.coll.open_ c } }).collTake x
    else { d with coll := { d.coll with open_ := tput d.coll.open_ c x } }

/-- COLL_ABORT: the named request is withdrawn before its commit point, else the answer is ALREADY_DONE (R204); it names the request to the
peer as COLL_ABORT does (DESIGN CHOICE, log entry 80: the form of the answer is not given). What has come for the tag is dropped. -/
def collAbort (d : Chip) (c key tag : Nat) : Chip :=
  match d.coll.groups.find? (fun p => p.2.gKey = key) with
  | none => d.count Reg.COL_ORPHANS.COUNT
  | some (gid, _) =>
    let other (p : CollPart) : Bool := p.group ≠ gid || p.tag ≠ tag
    match d.led.items.find? (fun i => i.kind = .coll && !i.state.ended && i.body.cGroup = gid && i.body.cTag = tag) with
    | none => ({ d with coll := { d.coll with early := d.coll.early.filter other, ready := d.coll.ready.filter other } }).count Reg.COL_ORPHANS.COUNT
    | some i =>
      if d.canWithdraw i.seq then
        ({ d with coll := { d.coll with early := d.coll.early.filter other, ready := d.coll.ready.filter other } }).withdraw i.seq
          Code.COL_ABORTED_BY_PEER
      else { d with coll := { d.coll with answers := d.coll.answers ++ [(c, tag)] } }

/-! ## The requests -/

/-- The stream of a request for its life (R178): the lowest of 256 to 65,535 that no request has. -/
def freeStream (d : Chip) : Nat :=
  (((List.range 65280).map (· + 256)).find? (fun k => !d.coll.runs.any (fun (r : Nat × CollRun) => r.2.stream = k))).getD 0

/-- A request submitted (R174, R176, R201). -/
def Chip.submitColl (d : Chip) (src : Submit) (x : Desc) : Chip :=
  let src := { src with tag := BitVec.ofNat 32 x.cTag }
  d.groupServed src x.cGroup (fun owner =>
    match d.reqCheck (d.originFn src.origin) x with
    | some c => d.refuse src c
    | none =>
      let d := d.acceptCmd src .coll x (d.originDomain src.origin) owner
      let seq := d.lastSeq
      ((d.setCollRun seq { stream := freeStream d }).collTry seq).offerEarly seq)

/-- The common way of the eight requests: the ring is a collective one, and the KIND is the command's; a
record with a reserved KIND comes by the first of them and is refused. -/
def Chip.request (d : Chip) (src : Submit) (x : Desc) (kind : Nat) : Chip :=
  if (x.cKind = kind ∨ (kind = 1 ∧ (x.cKind = 0 ∨ x.cKind > 8))) then
    if d.groupWaits x.cGroup then d else d.submit src .col true (fun d => d.submitColl src x) 2
  else d

def execAllReduce (src : Submit) (x : Desc) (s : State) : Out := s.on (fun d => d.request src x 1)
def execReduceScatter (src : Submit) (x : Desc) (s : State) : Out := s.on (fun d => d.request src x 2)
def execAllGather (src : Submit) (x : Desc) (s : State) : Out := s.on (fun d => d.request src x 3)
def execBroadcast (src : Submit) (x : Desc) (s : State) : Out := s.on (fun d => d.request src x 4)
def execReduce (src : Submit) (x : Desc) (s : State) : Out := s.on (fun d => d.request src x 5)
def execAllToAll (src : Submit) (x : Desc) (s : State) : Out := s.on (fun d => d.request src x 6)
def execSend (src : Submit) (x : Desc) (s : State) : Out := s.on (fun d => d.request src x 7)
def execReceive (src : Submit) (x : Desc) (s : State) : Out := s.on (fun d => d.request src x 8)

/-- SEND_MATCH_TIMEOUT (R177): a send that waits for its receive is withdrawn. -/
def execSendMatchTimeout (seq : Nat) (s : State) : Out :=
  s.on (fun d => match d.item seq with
    | some i => if i.kind = .coll ∧ i.body.cKind = 7 ∧ i.fin.isNone ∧ !(d.collRun seq).begun then d.withdraw seq Code.TIMEOUT else d
    | none => d)

end Sys2Proof.Machine
end

