-- ==== Sys2Proof/Machine/Kv.lean ====
section
/-! DEFINITION. The KV store (R214 to R227, R243 to R254): sequences, blocks, services, moves and compaction. -/
namespace Sys2Proof.Machine
open Sys2Proof

/-! ## What a map write may bring about (R248, R250) -/

def Chip.compactState (d : Chip) : Nat := d.rg Reg.KVA_MAP_STATE.COMPACT

/-- Compaction given up (R250, R253, R254): counted for a full log only; at the fourth its MAP_COMPACT is withdrawn, else it
starts again 1,024 ticks later. -/
def Chip.abandonCompact (d : Chip) (counted : Bool) : Chip :=
  if d.compactState = 0 ∨ d.compactState = 4 then d
  else
    let d := ({ d with kv := { d.kv with log := [], restart := some (d.tick + 1024) } }).sr Reg.KVA_MAP_STATE.COMPACT 0
    if !counted then d
    else
      let d := (d.mr Reg.KVA_MAP_STATE.ABANDONS (fun n => min (n + 1) 15)).fault Src.KVA_LOG_FULL
      if d.rg Reg.KVA_MAP_STATE.ABANDONS < 4 then d
      else match d.kv.running with
        | some s => ({ d with kv := { d.kv with running := none, restart := none } }).withdraw s Code.KVA_LOG_FULL
        | none => d

/-- A map write that finds the log full abandons compaction (R250). -/
def Chip.logCheck (d : Chip) : Chip :=
  if d.kv.log.length ≥ 65536 ∧ (d.compactState = 1 ∨ d.compactState = 2) then d.abandonCompact true else d

/-- COPY begins for a MAP_COMPACT, or by itself. -/
def Chip.beginCompact (d : Chip) (seq : Option Nat) : Chip :=
  ({ d with kv := { d.kv with log := [], running := seq, restart := none } }.sr Reg.KVA_MAP_STATE.COMPACT 1).sr
    Reg.KVA_MAP_STATE.ABANDONS 0

/-- Whether the KVA block runs and no fence of it has begun. -/
def Chip.kvaUp (d : Chip) : Bool := d.running .kva && !(d.agentRec (.block .kva)).fencing

/-- Compaction at IDLE (R248, R251): the MAP_COMPACT that has waited longest begins; with none, compaction starts by itself where the largest
free extent is small. One that was abandoned starts again after its 1,024 ticks. -/
def Chip.kvNext (d : Chip) : Chip :=
  if !d.kvaUp ∨ d.compactState ≠ 0 ∨ d.kv.running.isSome then d
  else match d.kv.waiting with
    | w :: ws => { d with kv := { d.kv with waiting := ws } }.beginCompact (some w)
    | [] =>
      if d.rg Reg.KVA_COMPACT.AUTO ≠ 0 ∧ d.kv.restart.isNone ∧ d.rg Reg.KVA_MAP_FREE.LARGEST < d.rg Reg.KVA_COMPACT.AUTO * 64 then
        d.beginCompact none
      else d

/-- After map writes: a full log abandons compaction, and a small largest extent starts it. -/
def Chip.kvSettle (d : Chip) : Chip := d.logCheck.kvNext

/-! ## Sequences (R214 to R216) -/

def sumFmtOk (f : Nat) : Bool := f = 1 || f = 3 || f = 5 || f = 8 || f = 9

def seqBad (x : Desc) : Bool :=
  wf x.w0 16 8 ≠ 0 || !attnFmt x.qFmt || !sumFmtOk x.qSumFmt ||
  x.qPutTier > 2 || x.qRunCap % 64 ≠ 0 || x.w2 ≠ 0 || x.w3 ≠ 0

def seqOver (x : Desc) : Bool :=
  x.qSeq ≥ 16384 || x.qHkv = 0 || x.qHkv > 64 || x.qDim < 16 || x.qDim > 512 || x.qDim % (if isMX x.qFmt then 32 else 16) ≠ 0 ||
  blockBytes x > 0x80_0000 || (x.qSdim ≠ 0 && (x.qSdim < 32 || x.qSdim > 256 || x.qSdim % 32 ≠ 0)) || x.qService > 63 ||
  x.qRunCap < 64 || x.qRunCap > 65536

/-- Runs and summary areas of every layer, or the code of the first that cannot be had. -/
def Chip.newRuns (d : Chip) (x : Desc) : Nat → Nat → Except Nat Chip
  | 0, _ => .ok d
  | k + 1, l =>
    match d.newRun x x.qRunCap with
    | .error c => .error c
    | .ok (d, e) => (d.setDir d.kvActive x.qSeq l e).newRuns x k (l + 1)

/-- STATE READY written: the commit point of SEQ_OPEN. -/
def openSeq (x : Desc) (d : Chip) : Chip :=
  { d with kv := { d.kv with seqs := tput d.kv.seqs x.qSeq ⟨{ x with w0 := x.w0 ||| 0x10000 }, .ready⟩ } }.kvSettle

def seqOpen (d : Chip) (src : Submit) (x : Desc) : Chip :=
  if x.w4 ≠ 0 ∨ x.w5 ≠ 0 ∨ x.w6 ≠ 0 ∨ x.w7 ≠ 0 then d.refuse src Code.HIF_BAD_CMD
  else if seqBad x then d.refuse src Code.KVA_BAD_REQ
  else if seqOver x then d.refuse src Code.KVA_SHAPE
  else if (d.seqRec x.qSeq).isSome ∨ (d.dir d.kvActive x.qSeq 0).cap ≠ 0 then d.refuse src Code.KVA_SEQ_STATE
  else match d.newRuns x x.qLayers 0 with
    | .error c => d.refuse src c
    | .ok d =>
      let d := d.acceptCmd src (.general 0x0301) (genBody 0x0301 src (descWords x |>.take 4)) (d.originDomain src.origin)
      d.finishWith d.lastSeq (openSeq x)

def execSeqOpen (src : Submit) (x : Desc) (s : State) : Out :=
  s.on (fun d => d.submit src .kva true (fun d => seqOpen d src x))

/-- Every block of a sequence dropped and its runs freed; STATE EMPTY: the commit point of SEQ_CLOSE. -/
def closeSeq (n : Nat) (d : Chip) : Chip :=
  match d.seqRec n with
  | none => d
  | some r =>
    let d := (List.range r.img.qLayers).foldl (fun (d : Chip) l =>
      let e := d.dir d.kvActive n l
      (List.range e.cap).foldl (fun (d : Chip) k => d.dropEntry n (e.base + k)) d) d
    let d := d.freeSeq r.img
    { d with kv := { d.kv with seqs := tdel d.kv.seqs n } }.kvSettle

def seqClose (d : Chip) (src : Submit) (n : Nat) : Chip :=
  if n ≥ 16384 then d.refuse src Code.KVA_SHAPE
  else match d.seqRec n with
  | none => d.refuse src Code.KVA_SEQ_UNKNOWN
  | some r =>
    if r.state = .closing then d.refuse src Code.KVA_SEQ_STATE
    else
      let d := d.acceptCmd src (.general 0x0302) (genBody 0x0302 src [n]) (d.originDomain src.origin)
      let d := { d with kv := { d.kv with seqs := tupd d.kv.seqs n (fun r => { r with state := .closing }) } }
      d.finishWith d.lastSeq (closeSeq n)

def execSeqClose (src : Submit) (sid : Nat) (s : State) : Out :=
  s.on (fun d => d.submit src .kva true (fun d => seqClose d src (sid % 65536)))

/-! ## Storing and dropping blocks (R222 to R227) -/

/-- The operands of KV_PUT. -/
structure KvPut where
  src : Nat
  sumSrc : Nat
  s : Nat
  layer : Nat
  block : Nat
  tokens : Nat
  tier : Nat
  deriving DecidableEq, Repr

/-- The tier a put names, R222. -/
def putTier (x : Desc) (t : Nat) : Nat := match t with | 0 => (match x.qPutTier with | 0 => 1 | 1 => 0 | _ => 2) | t => t - 1

/-- Whether a put breaks the rule of short blocks (R223). -/
def tailBad (d : Chip) (p : KvPut) : Bool :=
  let e := d.dir d.kvActive p.s p.layer
  (List.range e.cap).any (fun n =>
    let m := d.ent d.kvActive (e.base + n)
    m.state = 1 && ((n < p.block && m.tokens < 64) || (n > p.block && p.tokens < 64)))

/-- Growth of a run to a block number (R224): entries and summary rows are copied to the new run. -/
def Chip.growRun (d : Chip) (x : Desc) (l n : Nat) : Except Nat Chip :=
  let e := d.dir d.kvActive x.qSeq l
  if n < e.cap then .ok d
  else
    match d.newRun x (min 65536 (2 ^ (Nat.log2 n + 1))) with
    | .error c => .error c
    | .ok (d, f) =>
      let d := (List.range e.cap).foldl (fun (d : Chip) k =>
        let m := d.ent d.kvActive (e.base + k)
        if m.state = 0 then d else d.setEnt d.kvActive (f.base + k) m) d
      let d := (d.noteRead e.sumElem (rowElem x * e.cap)).noteRead e.sumScale (rowScale x * e.cap)
      let d := d.writeRange f.sumElem (d.readRange e.sumElem (rowElem x * e.cap))
      let d := d.writeRange f.sumScale (d.readRange e.sumScale (rowScale x * e.cap))
      .ok ((d.dropRun x e).setDir d.kvActive x.qSeq l { f with high := e.high })

/-- The entry written VALID: the commit point of KV_PUT (R225). -/
def storeBlock (p : KvPut) (addr : Nat) (d : Chip) : Chip :=
  match d.entIndex p.s p.layer p.block with
  | none => d
  | some i =>
    let d := d.dropEntry p.s i
    let d := d.setEnt d.kvActive i ⟨addr, 1, p.tokens, p.sumSrc = 0, 0, p.s, p.layer, p.block⟩
    (d.syncHigh p.s p.layer).kvSettle

/-- Block data and summary row copied before the commit point. -/
def copyBlock (d : Chip) (x : Desc) (p : KvPut) (addr : Nat) : Chip :=
  let d := d.writeRange addr (d.lineRead p.src (blockBytes x))
  if p.sumSrc = 0 then d
  else
    let e := d.dir d.kvActive p.s p.layer
    let d := d.writeRange (e.sumElem + p.block * rowElem x) (d.lineRead p.sumSrc (rowElem x))
    d.writeRange (e.sumScale + p.block * rowScale x) (d.lineRead (p.sumSrc + rowElem x) (rowScale x))

def kvPut (d : Chip) (src : Submit) (p : KvPut) : Chip :=
  if p.s ≥ 16384 then d.refuse src Code.KVA_SHAPE
  else match d.seqRec p.s with
  | none => d.refuse src Code.KVA_SEQ_UNKNOWN
  | some r =>
    let x := r.img
    let fn := d.originFn src.origin
    if r.state = .closing then d.refuse src Code.KVA_SEQ_STATE
    else if p.tier > 3 ∨ p.src % 64 ≠ 0 ∨ p.sumSrc % 64 ≠ 0 then d.refuse src Code.KVA_BAD_REQ
    else if p.layer ≥ x.qLayers ∨ p.block ≥ 65536 ∨ p.tokens = 0 ∨ p.tokens > 64 then d.refuse src Code.KVA_SHAPE
    else if !d.unitOk fn p.src (blockBytes x) false ||
        (p.sumSrc ≠ 0 && !d.unitOk fn p.sumSrc (rowElem x + rowScale x) false) then d.refuse src Code.ACCESS_VIOLATION
    else if tailBad d p then d.refuse src Code.KVA_TAIL
    else match d.findCells (putTier x p.tier) (cellsOf (blockBytes x)) with
      | none => d.refuse src Code.KVA_POOL_FULL
      | some (t, u) =>
        match d.growRun x p.layer p.block with
        | .error c => d.refuse src c
        | .ok d =>
          let addr := d.unitAddr (tierPool t) u
          let d := d.takeCells (tierPool t) u (cellsOf (blockBytes x))
          let d := d.noteRead p.src (blockBytes x)
          let d := if p.sumSrc = 0 then d else d.noteRead p.sumSrc (rowElem x + rowScale x)
          let e := d.dir d.kvActive p.s p.layer
          let lost := d.writeLost addr (blockBytes x) ||
            (p.sumSrc ≠ 0 && (d.writeLost (e.sumElem + p.block * rowElem x) (rowElem x) || d.writeLost (e.sumScale + p.block * rowScale x) (rowScale x)))
          let poison := lost || (d.lineRead p.src (blockBytes x)).any (·.2)
          let d := copyBlock (d.touchDir p.s p.layer) x p addr
          let d := d.acceptCmd src (.general 0x0303) (genBody 0x0303 src [p.src, p.sumSrc,
            p.s + p.layer * 2 ^ 16 + p.block * 2 ^ 32, p.tokens + p.tier * 256, 0, addr]) (d.originDomain src.origin)
          (d.finishWith d.lastSeq (storeBlock p addr) (if poison then Code.POISONED_DATA else Code.OK)).kvSettle

def execKvPut (src : Submit) (from_ : Nat) (sumSrc : Nat) (sid : Nat) (layer : Nat) (block : Nat) (tokens : Nat) (tier : Nat)
    (s : State) : Out :=
  s.on (fun d => d.submit src .kva true (fun d => kvPut d src ⟨from_, sumSrc, sid, layer, block, tokens, tier⟩))

/-- Layers a KV_DROP names. -/
def dropLayers (x : Desc) (l : Nat) : List Nat := if l = 0xFFFF then List.range x.qLayers else [l]

/-- The entries of a range set to FREE: the commit point of KV_DROP (R226). -/
def dropBlocks (n l lo hi : Nat) (d : Chip) : Chip :=
  match d.seqRec n with
  | none => d
  | some r =>
    (dropLayers r.img l).foldl (fun (d : Chip) l =>
      let d := d.touchDir n l
      let e := d.dir d.kvActive n l
      let d := (List.range e.cap).foldl (fun (d : Chip) k =>
        if lo ≤ k ∧ k < hi then d.dropEntry n (e.base + k) else d) d
      (d.syncHigh n l).kvSettle) d

def kvDrop (d : Chip) (src : Submit) (n l lo hi : Nat) : Chip :=
  if n ≥ 16384 then d.refuse src Code.KVA_SHAPE
  else match d.seqRec n with
  | none => d.refuse src Code.KVA_SEQ_UNKNOWN
  | some r =>
    if r.state = .closing then d.refuse src Code.KVA_SEQ_STATE
    else if (l ≠ 0xFFFF ∧ l ≥ r.img.qLayers) ∨ hi < lo ∨ hi > 65536 then d.refuse src Code.KVA_SHAPE
    else
      let d := d.acceptCmd src (.general 0x0304) (genBody 0x0304 src [n + l * 2 ^ 16 + lo * 2 ^ 32, hi]) (d.originDomain src.origin)
      d.finishWith d.lastSeq (dropBlocks n l lo hi)

def execKvDrop (src : Submit) (sid layer first last : Nat) (s : State) : Out :=
  s.on (fun d => d.submit src .kva true (fun d => kvDrop d src sid layer first last))

/-! ## Services (R228, R229, R240) -/

def svcBad (x : Desc) : Bool :=
  x.vService > 63 || x.vLine % 4 ≠ 0 || x.vLine > 60 || wf x.w0 48 16 ≠ 0 || x.vEntryBytes = 0 || x.vEntryBytes % 64 ≠ 0 ||
  x.vEntryBytes > 0x4_0000 || wf x.w1 32 32 ≠ 0 || x.w3 ≠ 0 || x.w4 ≠ 0 || x.w5 ≠ 0 || x.w6 ≠ 0 || x.w7 ≠ 0

/-- Whether the members' rings lie wholly in the Plinth. -/
def ringsOk (d : Chip) (x : Desc) : Bool :=
  (portsOf x.vMask).all (fun p =>
    let a := entryAddr x p 0
    isPlinth a && d.inOne a (x.vEntries * x.vEntryBytes) && !deviceOwned a (x.vEntries * x.vEntryBytes))

/-- The service BOUND: the commit point of SVC_BIND. -/
def bindSvc (x : Desc) (d : Chip) : Chip :=
  d.setSvc x.vService { img := { x with w0 := x.w0 ||| 0x1_0000_0000_0000 }, state := .bound }

def svcBind (d : Chip) (src : Submit) (record : Nat) : Chip :=
  d.withRecord src record 64 (fun d =>
    let x := d.desc record
    if svcBad x then d.refuse src Code.KVA_BAD_REQ
    else if (d.svc x.vService).isSome || !(named d x.vPlan).any (fun p => p.state ≠ .loading && p.hdr.kind = 2) then
      d.refuse src Code.KVA_SVC_STATE
    else if (portsOf x.vMask).any (fun p => d.slotHolds p x.vLine || d.svcHolds p x.vLine) then d.refuse src Code.KVA_LINE_BUSY
    else if !ringsOk d x then d.refuse src Code.KVA_BAD_REQ
    else
      let d := d.acceptCmd src (.general 0x0305) (genBody 0x0305 src [record]) (d.originDomain src.origin)
      d.finishWith d.lastSeq (bindSvc x))

def execSvcBind (src : Submit) (record : Nat) (s : State) : Out :=
  s.on (fun d => d.submit src .kva false (fun d => svcBind d src record))

/-- SVC_UNBIND: the queries not yet at their commit point are withdrawn with KVA_UNBOUND; those not accepted, taken or not, are answered with
FAIL and counted; and it commits when no taken query is left (R240, R256). -/
def svcUnbind (d : Chip) (src : Submit) (n : Nat) : Chip :=
  match d.svc n with
  | none => d.refuse src Code.KVA_SVC_STATE
  | some s =>
    if s.state = .unbinding then d.refuse src Code.KVA_SVC_STATE
    else
      let d := d.acceptCmd src (.general 0x0306) (genBody 0x0306 src [n]) (d.originDomain src.origin)
      let d := d.setSvc n { s with state := .unbinding, unbindSeq := d.lastSeq }
      let mine (k : ItemKind) : Bool := match k with | .query m _ => m = n | _ => false
      let entry (k : ItemKind) : Nat × Nat := match k with | .query _ e => (e / 256, e % 256) | _ => (0, 0)
      let unborn := (d.led.arising.filter (fun a => mine a.kind)).map (fun a => entry a.kind)
      let d : Chip := { d with led := { d.led with arising := d.led.arising.filter (fun a => !mine a.kind) } }
      let d := (s.queue ++ unborn).foldl (fun (d : Chip) e => (d.count Reg.KVA_QUERY_ERRORS.COUNT).answerQuery n e.1 e.2 false) d
      let d := (d.led.items.filter (fun i => mine i.kind && !i.state.ended)).foldl (fun (d : Chip) i =>
        d.withdraw i.seq Code.KVA_UNBOUND) d
      d.drainSvcs.release

def execSvcUnbind (src : Submit) (service : Nat) (s : State) : Out :=
  s.on (fun d => d.submit src .kva false (fun d => svcUnbind d src (service % 256)))

/-! ## Moves (R243 to R247) -/

/-- A promotion queued, or dropped for a full queue or pool (R245). -/
def Chip.promote (d : Chip) (b : BlockId) (tier : Nat) : Chip :=
  let p := d.pool (tierPool tier)
  if d.kv.moveQ.length ≥ 4096 ∨ p.used.length * 16 > p.count * 15 then d.count Reg.KVA_MOVE_DROPS.COUNT
  else { d with kv := { d.kv with moveQ := d.kv.moveQ ++ [⟨b, tier⟩] } }

/-- A query computes over a block: its HEAT, and the promotion it may reach (R243, R245). -/
def Chip.heatUp (d : Chip) (s l n : Nat) : Chip :=
  match d.entIndex s l n with
  | none => d
  | some i =>
    let e := d.ent d.kvActive i
    let h := min 255 (e.heat + 1)
    let t := tierOf e.addr
    let d := d.setEnt d.kvActive i { e with heat := h } false
    let d := if t = 2 ∧ h = d.rg Reg.KVA_HEAT_CFG.HOT_NEAR ∧ h ≠ e.heat then d.promote ⟨s, l, n⟩ 1 else d
    if t ≠ 0 ∧ h = d.rg Reg.KVA_HEAT_CFG.HOT_PLINTH ∧ h ≠ e.heat then d.promote ⟨s, l, n⟩ 0 else d

/-- One entry of the sweep (R244): HEAT halved, and a cold block queued downward. A move that finds the queue full is dropped and counted, as a
promotion is (DESIGN CHOICE, log entry 83: R245 says so of promotions). -/
def Chip.coolEntry (d : Chip) (s l n : Nat) : Chip :=
  match d.entIndex s l n with
  | none => d
  | some i =>
    let e := d.ent d.kvActive i
    if e.state ≠ 1 then d
    else
      let h := e.heat / 2
      let d := d.setEnt d.kvActive i { e with heat := h } false
      let t := tierOf e.addr
      let down (t : Nat) : Chip :=
        if d.kv.moveQ.length ≥ 4096 then d.count Reg.KVA_MOVE_DROPS.COUNT else { d with kv := { d.kv with moveQ := d.kv.moveQ ++ [⟨⟨s, l, n⟩, t⟩] } }
      if t = 0 ∧ h < d.rg Reg.KVA_HEAT_CFG.COLD_PLINTH then down 1
      else if t = 1 ∧ h < d.rg Reg.KVA_HEAT_CFG.COLD_NEAR ∧ (d.pool 5).count ≠ 0 then down 2
      else d

/-- HEAT_SWEEP: every VALID entry of every run; void before 2^DECAY ticks have passed since the last sweep (R244), and in a block that does
not run. -/
def heatSweep (d : Chip) : Chip :=
  if d.tck.frames < d.kv.swept + 2 ^ d.rg Reg.KVA_HEAT_CFG.DECAY ∨ !d.kvaUp then d
  else
    let d : Chip := { d with kv := { d.kv with swept := d.tck.frames } }
    d.kv.seqs.foldl (fun (d : Chip) q => (List.range q.2.img.qLayers).foldl (fun (d : Chip) l =>
      (List.range (d.dir d.kvActive q.1 l).cap).foldl (fun (d : Chip) n => d.coolEntry q.1 l n) d) d) d

def execHeatSweep (s : State) : Out := s.on heatSweep

/-- Cells of the target pool allocated for a move; a block that has gone, or lies there already, is dropped (R246). -/
def startMove (m : KvMove) (d : Chip) : Chip :=
  let e := d.block m.block.s m.block.layer m.block.block
  let n := d.blockCells m.block.s
  if e.state ≠ 1 ∨ tierOf e.addr = m.tier then d.count Reg.KVA_MOVE_DROPS.COUNT
  else match d.findUnits (tierPool m.tier) n with
    | none => d.fault Src.KVA_MOVE_FAIL m.block.s
    | some u =>
      let c := d.takeCells (tierPool m.tier) u n
      { c with kv := { c.kv with moving := some ⟨m.block, m.tier, e.addr, u, n, 0⟩ } }

/-- Whether the mover may take a move. -/
def moverIdle (d : Chip) : Bool :=
  !d.kv.paused && d.kvaUp && d.kv.moving.isNone && d.rg Reg.KVA_MOVE_CFG.BYTES ≠ 0

/-- BLOCK_MOVE: the head of the queue is taken. -/
def blockMove (d : Chip) : Chip :=
  match d.kv.moveQ with
  | [] => d
  | m :: q => if moverIdle d then startMove m { d with kv := { d.kv with moveQ := q } } else d

def execBlockMove (s : State) : Out := s.on blockMove

/-- The move in progress given up, its new cells freed. -/
def Chip.abandonMove (d : Chip) : Chip :=
  match d.kv.moving with
  | none => d
  | some m =>
    ({ d with kv := { d.kv with moving := none } }.freeUnits (tierPool m.tier)
      ((List.range m.cells).map (m.cell + ·))).syncFill

/-- The mover's allowance of the new frame, after what the last one left was spent on the copy in progress (R246). -/
def Chip.moveTick (d : Chip) : Chip :=
  { d with kv := { d.kv with
    moving := d.kv.moving.map (fun m => { m with done := m.done + d.kv.moveLeft })
    moveLeft := d.rg Reg.KVA_MOVE_CFG.BYTES } }

/-- BLOCK_MOVE_COMPLETE: the copy ends; the entry is confirmed and the new address written, or the move is dropped (R246, R247). Void while
this frame's BYTES do not cover the rest of the copy, read and written. -/
def blockMoveComplete (d : Chip) : Chip :=
  match d.kv.moving with
  | none => d
  | some m =>
    let dst := d.unitAddr (tierPool m.tier) m.cell
    match d.entIndex m.block.s m.block.layer m.block.block, d.seqRec m.block.s with
    | some i, some r =>
      let e := d.ent d.kvActive i
      let need := 2 * blockBytes r.img - m.done
      if d.kv.moveLeft < need then d
      else if e.state = 1 ∧ e.addr = m.old then
        let d : Chip := { d with kv := { d.kv with moveLeft := d.kv.moveLeft - need } }
        if d.writeLost dst (blockBytes r.img) then d.abandonMove.fault Src.KVA_MOVE_FAIL m.block.s
        else
          let d := d.noteRead m.old (blockBytes r.img)
          let d := d.writeRange dst (d.readRange m.old (blockBytes r.img))
          let d := d.setEnt d.kvActive i { e with addr := dst }
          let d := d.reclaimCells (tierPool (tierOf m.old)) m.old m.cells
          ({ d with kv := { d.kv with moving := none } }.count Reg.KVA_MOVES.COUNT).kvSettle
      else d.abandonMove.count Reg.KVA_MOVE_DROPS.COUNT
    | _, _ => d.abandonMove.count Reg.KVA_MOVE_DROPS.COUNT

def execBlockMoveComplete (s : State) : Out := s.on blockMoveComplete

def execMovePause (s : State) : Out :=
  s.on (fun d => { d with kv := { d.kv with paused := true } }.answered (.block .kva) true)

def execMoveResume (s : State) : Out :=
  s.on (fun d => { d with kv := { d.kv with paused := false } }.answered (.block .kva) true)

/-! ## Compaction (R248 to R251) -/

/-- MAP_COMPACT: starts compaction, or waits and is answered DEFERRED (R251). -/
def mapCompact (d : Chip) (src : Submit) : Chip :=
  let d := d.acceptCmd src (.general 0x0307) (genBody 0x0307 src []) (d.originDomain src.origin)
  if d.compactState = 0 ∧ d.kv.running.isNone ∧ d.kv.waiting.isEmpty then d.beginCompact (some d.lastSeq)
  else { d with kv := { d.kv with waiting := d.kv.waiting ++ [d.lastSeq] } }.oweMore d.lastSeq Code.DEFERRED

def execMapCompact (src : Submit) (s : State) : Out :=
  s.on (fun d => d.submit src .kva false (fun d => mapCompact d src))

/-- The sequences that have runs, with their layers: those open, and those whose SEQ_OPEN is accepted and has not committed. -/
def Chip.runSeqs (d : Chip) : Tbl Nat :=
  let opening := (d.led.items.filter (fun i => i.kind = .general 0x0301 && !i.state.ended)).map (fun i =>
    let x : Desc := { w0 := i.body.w1 }
    (x.qSeq, x.qLayers))
  opening.foldl (fun (t : Tbl Nat) p => tput t p.1 p.2) (d.kv.seqs.map (fun q => (q.1, q.2.img.qLayers)))

/-- The runs of the active version in order, copied packed into the other (R248). -/
def Chip.packRuns (d : Chip) : Chip × List Extent :=
  let a := d.kvActive
  let runs := d.runSeqs.flatMap (fun q => (List.range q.2).map (fun l => (q.1, l)))
  let r := runs.foldl (fun (t : Chip × Nat × List Extent) q =>
    let e := t.1.dir a q.1 q.2
    let c := (List.range e.cap).foldl (fun (c : Chip) k => c.setEnt (1 - a) (t.2.1 + k) (c.ent a (e.base + k)) false) t.1
    (c.setDir (1 - a) q.1 q.2 { e with base := t.2.1 }, t.2.1 + e.cap,
      if e.cap = 0 then t.2.2 else t.2.2 ++ [(⟨t.2.1, e.cap⟩ : Extent)])) (d, 0, [])
  (r.1, r.2.2)

/-- The inactive version emptied before a copy into it. -/
def Chip.clearInactive (d : Chip) : Chip := d.zeroRange (d.mapBase (1 - d.kvActive)) 0x2800_0000

def execCompactionCopyDone (s : State) : Out :=
  s.on (fun d => if d.compactState = 1 ∧ d.kvaUp then
    d.clearInactive.packRuns.1.sr Reg.KVA_MAP_STATE.COMPACT 2 else d)

/-- COMPACTION_DRAIN_DONE: logged writes are applied to the inactive version until at most 1,024 remain. -/
def execCompactionDrainDone (s : State) : Out :=
  s.on (fun d => if d.compactState = 2 ∧ d.kvaUp then
    ({ d with kv := { d.kv with log := d.kv.log.drop (d.kv.log.length - 1024) } }).sr Reg.KVA_MAP_STATE.COMPACT 3 else d)

/-- COMPACTION_SWITCH_DONE: the rest of the log is applied, ACTIVE flips, H is recorded, and MAP_COMPACT commits (R248,
R250). -/
def compactionSwitch (d : Chip) : Chip :=
  if d.compactState ≠ 3 ∨ !d.kvaUp then d
  else
    let p := d.clearInactive.packRuns
    let d := (p.1.sr Reg.KVA_MAP_STATE.ACTIVE (1 - d.kvActive)).sr Reg.KVA_MAP_STATE.COMPACT 4
    let seq := d.kv.running
    let d := { d with kv := { d.kv with ext := p.2, old := [], log := [], running := none, retireH := d.ledgerHead } }.syncMap
    let d := d.count Reg.KVA_COMPACTIONS.COUNT
    match seq with
    | some s => d.finish s Code.OK
    | none => d

def execCompactionSwitchDone (s : State) : Out := s.on compactionSwitch

/-- COMPACT_ABANDON of the KVA agent. -/
def execCompactAbandon (s : State) : Out :=
  s.on (fun d => if d.compactState = 0 ∨ d.compactState = 4 then d.answered (.block .kva) false
    else (d.abandonCompact false).kvNext.answered (.block .kva) true)

/-- COMPACTION_RESTART: 1,024 ticks after an abandoned compaction. -/
def execCompactionRestart (s : State) : Out :=
  s.on (fun d => match d.kv.restart with
    | some t => if d.tick ≥ t ∧ d.kvaUp ∧ d.compactState = 0 then
        ({ d with kv := { d.kv with restart := none, log := [] } }).sr Reg.KVA_MAP_STATE.COMPACT 1 else d
    | none => d)

/-- What a new GLB_LEDGER_LOW lets the KV store do (R227, R248, R251): cells and extents return, RETIRE ends, and a waiting
MAP_COMPACT starts. -/
def Chip.kvPublish (d : Chip) (low : Nat) : Chip :=
  let back := d.mu.reclaim.filter (fun r => r.h < low)
  let d := { d with mu := { d.mu with reclaim := d.mu.reclaim.filter (fun r => !(r.h < low)) },
                    kv := { d.kv with old := d.kv.old.filter (fun e => !(e.2 < low)) } }
  let d := (back.foldl (fun (d : Chip) r => d.freeUnits r.pool r.units) d).syncFill.syncMap
  let d := if d.compactState = 4 ∧ low > d.kv.retireH then d.sr Reg.KVA_MAP_STATE.COMPACT 0 else d
  d.kvNext

end Sys2Proof.Machine
end

