-- ==== Sys2Proof/Machine/Query.lean ====
section
/-! DEFINITION. Attention queries (R229 to R241) and ATTN_PARTIAL. -/
namespace Sys2Proof
open Sys2Proof.Machine

/-! ## Query record header (R230), 64 bytes -/

def Desc.yTag (x : Desc) : Nat := wf x.w0 0 32
def Desc.ySeq (x : Desc) : Nat := wf x.w0 32 16
def Desc.yLayer (x : Desc) : Nat := wf x.w0 48 8
def Desc.yMode (x : Desc) : Nat := wf x.w0 56 8
def Desc.yG0 (x : Desc) : Nat := wf x.w1 0 8
def Desc.yHkv (x : Desc) : Nat := wf x.w1 8 8
def Desc.yHq (x : Desc) : Nat := wf x.w1 16 8
def Desc.yParts (x : Desc) : Nat := wf x.w1 24 8
def Desc.yFmtQ (x : Desc) : Nat := wf x.w1 32 4
def Desc.yFmtSq (x : Desc) : Nat := wf x.w1 36 4
def Desc.yFmtO (x : Desc) : Nat := wf x.w1 40 4
def Desc.yForce (x : Desc) : Nat := wf x.w1 48 8
def Desc.ySigma (x : Desc) : Nat := wf x.w2 0 32
def Desc.yFirst (x : Desc) : Nat := wf x.w2 32 32
def Desc.yEnd (x : Desc) : Nat := wf x.w3 0 32
def Desc.yKsel (x : Desc) : Nat := wf x.w3 32 32
def Desc.yResult (x : Desc) : Nat := x.w4.toNat

end Sys2Proof

namespace Sys2Proof.Machine
open Sys2Proof

def execAttnPartial (seq : Nat) (core : Fin 64) (s : State) : Out :=
  s.on (fun d => d.runWork seq core.val 0x10 (fun d i => opAttnPartial d i.body i.fn (srKey d core.val) seq))

/-! ## Checks (R231) -/

def queryBad (x : Desc) : Bool :=
  x.yMode > 1 || !(1 ≤ x.yFmtQ && x.yFmtQ ≤ 4) || !(x.yFmtSq = 1 || x.yFmtSq = 3 || (x.yMode = 0 && x.yFmtSq = 0)) ||
  wf x.w1 40 8 > 1 || wf x.w1 56 8 ≠ 0 || x.w5 ≠ 0 || x.w6 ≠ 0 || x.w7 ≠ 0

/-- Whether RESULT names a place in a member's window. -/
def resultValid (x : Desc) : Bool := x.yResult % 64 = 0 && x.yResult + 64 ≤ 2 ^ 45

/-- Bytes of Q, padded, and of SQ. -/
def qBytes (x q : Desc) : Nat := pad64 (x.yHq * q.qDim * fmtBits x.yFmtQ / 8)
def sqBytes (x q : Desc) : Nat := if x.yMode = 1 then q.qHkv * q.qSdim * fmtBits x.yFmtSq / 8 else 0

/-- PART_BYTES (R235). -/
def partSize (x q : Desc) : Nat := pad64 (pad64 (x.yHq * q.qDim * fmtBits x.yFmtO / 8) + 8 * x.yHq)

def queryShape (x q v : Desc) : Bool :=
  x.yG0 + x.yHkv > q.qHkv || x.yHkv = 0 || x.yHq = 0 || x.yHq > 128 || x.yHq % x.yHkv ≠ 0 || x.yParts = 0 || x.yParts > 16 ||
  x.yLayer ≥ q.qLayers || 64 + qBytes x q + sqBytes x q > v.vEntryBytes || x.yEnd < x.yFirst || x.yEnd > 65536 || x.yKsel > 65536

def Chip.queryCheck (d : Chip) (n : Nat) (v x : Desc) (poison : Bool) : Option Nat :=
  if poison || queryBad x || x.yResult % 64 ≠ 0 then some Code.KVA_BAD_REQ
  else match d.seqRec x.ySeq with
    | none => some Code.KVA_SEQ_UNKNOWN
    | some q =>
      if q.state = .closing then some Code.KVA_SEQ_STATE
      else if q.img.qService ≠ n then some Code.ACCESS_VIOLATION
      else if queryShape x q.img v then some Code.KVA_SHAPE
      else if x.yMode = 1 ∧ q.img.qSdim = 0 then some Code.KVA_NO_SUMMARY
      else if x.yResult + 64 + x.yParts * partSize x q.img > 2 ^ 45 then some Code.ACCESS_VIOLATION
      else none

/-! ## The computed set (R232, R233) -/

/-- The entries of a query's range, by block number. -/
def Chip.scan (d : Chip) (x : Desc) : List (Nat × MapEnt) :=
  (List.range (x.yEnd - x.yFirst)).filterMap (fun k =>
    (d.entIndex x.ySeq x.yLayer (x.yFirst + k)).map (fun _ => (x.yFirst + k, d.block x.ySeq x.yLayer (x.yFirst + k))))

/-- A block's summary row: its elements with their scales and poison. -/
def Chip.sumRow (d : Chip) (q : Desc) (e : DirEnt) (n : Nat) : List (Nat × Nat × Bool) :=
  d.rawElems (e.sumElem + n * rowElem q) q.qSumFmt (q.qHkv * q.qSdim) (e.sumScale + n * rowScale q)

/-- What scoring and selection give: the blocks selected, the flags of the two sub-steps, and whether a candidate's score read poison. -/
structure Scored where
  blocks : List Nat := []
  flags : Nat := 0
  poison : Bool := false
  deriving DecidableEq, Repr

/-- Blocks selected by score: greatest first, lower number on ties, K_SEL of them, and never a NaN or −infinity. Every row of the run is
scored (R233), and the flags are those of the scores and of the values selected (R123). -/
def Chip.selected (d : Chip) (x q : Desc) (sqa : Nat) (es : List (Nat × MapEnt)) (scored : List Nat) : Scored :=
  let w := x.yEnd - x.yFirst
  if w = 0 ∨ x.yKsel = 0 then {}
  else
    let e := d.dir d.kvActive x.ySeq x.yLayer
    let sv := d.rawElems sqa x.yFmtSq (q.qHkv * q.qSdim) 0
    let rows := es.map (fun c => (c.1, d.sumRow q e c.1))
    let all := rows.map (fun r => (r.1, dotRow d.free (r.1 - x.yFirst) q.qSumFmt x.yFmtSq r.2 sv, r.2.any (·.2.2) || sv.any (·.2.2)))
    let sc := (List.range w).map (fun k => match all.find? (fun s => s.1 = x.yFirst + k && scored.contains s.1) with
      | some s => s.2.1
      | none => Val.inf true)
    let top := topkSelect false false (min x.yKsel w) w sc
    { blocks := (top.filter (fun t => !t.1.isNaN && t.1 ≠ .inf true)).map (fun t => x.yFirst + t.2)
      flags := (f32Bytes (all.map (fun s => (s.2.1, false)))).2 ||| (f32Bytes (top.map (fun t => (t.1, false)))).2
      poison := all.any (fun s => s.2.2 && scored.contains s.1) }

/-- What a query computes over: forced and selected blocks in ascending order, those of them that are forced, and what scoring gave beside. -/
structure Chosen where
  blocks : List (Nat × MapEnt)
  forced : List Nat
  candidates : Nat
  skipped : Nat
  flags : Nat
  poison : Bool
  deriving DecidableEq, Repr

def Chip.choose (d : Chip) (x q : Desc) (sqa : Nat) : Chosen :=
  let es := d.scan x
  let cand := es.filter (fun c => c.2.state = 1)
  let skip := (es.filter (fun c => c.2.state = 2)).length
  if x.yMode = 0 then ⟨cand, [], cand.length, skip, 0, false⟩
  else
    let isForced (c : Nat × MapEnt) : Bool := c.1 < x.yFirst + x.yForce || c.2.nosum
    let sel := d.selected x q sqa es ((cand.filter (fun c => !isForced c)).map (·.1))
    ⟨cand.filter (fun c => isForced c || sel.blocks.contains c.1), (cand.filter isForced).map (·.1), cand.length, skip, sel.flags, sel.poison⟩

/-- Blocks divided into parts, the first c mod PARTS of them one block longer (R234). -/
def splitParts {α : Type} (l : List α) (parts : Nat) : List (List α) :=
  let c := l.length
  let base := c / parts
  (List.range parts).map (fun j =>
    (l.drop (j * base + min j (c % parts))).take (base + if j < c % parts then 1 else 0))

/-! ## Running a query (R234 to R237) -/

/-- One part: its bytes, flags, and the blocks it left out for poison. -/
structure PartOut where
  bytes : List PByte
  flags : Nat
  bad : List Nat
  blocks : Nat
  tokens : Nat

/-- The bytes of an empty part: O +0, m and L −infinity. -/
def emptyPart (x q : Desc) : List PByte :=
  let o := pad64 (x.yHq * q.qDim * fmtBits x.yFmtO / 8)
  (List.replicate o 0 ++ (List.replicate (2 * x.yHq) (leBytes 4 0xFF80_0000)).flatten).map (fun b => (b, false))

def Chip.partRun (d : Chip) (x q : Desc) (qa : Nat) (bs : List (Nat × MapEnt)) : PartOut :=
  let slab := slabBytes q.qFmt q.qDim
  let addr (e : MapEnt) : Nat := e.addr + x.yG0 * slab
  let bad := (bs.filter (fun b => (d.lineRead (addr b.2) (x.yHkv * slab)).any (·.2))).map (·.1)
  let ok := bs.filter (fun b => !bad.contains b.1)
  if ok.isEmpty then ⟨emptyPart x q, 0, bad, 0, 0⟩
  else
    let blocks := ok.zipIdx.map (fun b => (addr b.1.2, if b.2 + 1 = ok.length then b.1.2.tokens else 64))
    let qs := pieces x.yHq q.qDim (d.rawElems qa x.yFmtQ (x.yHq * q.qDim) 0)
    let sigma := if x.ySigma = 0 then Val.ofInt 1 else decodeFloat fmtF32 x.ySigma
    let r := attnOut x.yFmtO true (fun _ => .nearest) (attnCore d sigma x.yFmtQ q.qFmt x.yHq x.yHkv q.qDim qs blocks)
    ⟨r.1, r.2, bad, ok.length, (blocks.map (·.2)).foldl (· + ·) 0⟩

/-- The fields of the result header from byte 16 (R235). -/
def headerTail (x : Desc) (flags runs blocks skipped forced cands tokens : Nat) : List Nat :=
  [x.yParts, flags, min runs 255, x.yMode] ++ leBytes 4 blocks ++ leBytes 4 skipped ++ leBytes 4 forced ++ leBytes 4 cands ++
    leBytes 4 tokens ++ List.replicate 24 0

/-- The result record written: parts first, the header last. -/
def Chip.writeResult (d : Chip) (i : Item) (port : Nat) (ps : List PartOut) (size code : Nat) (tail : List Nat) : Chip :=
  let base := memberWindow port + i.body.yResult
  let d := ps.zipIdx.foldl (fun (d : Chip) p => d.writeRange (base + 64 + p.2 * size)
    (p.1.bytes ++ List.replicate (size - p.1.bytes.length) (0, false))) d
  d.wr base (((d.replyWords (d.replyOf i 0 code 0 0) false).take 2).flatMap (leBytes 8) ++ tail)

/-! ## The cost of a query (R150, R242) -/

/-- The use of one sub-step: its terms, and the ranges it reads and writes. -/
def Chip.stepUse (d : Chip) (w : WorkTerms) (reads writes : List (Nat × Nat)) : PlanUse :=
  let t := (d.trafficOf reads false).add (d.trafficOf writes true)
  { wc := w.cycles t, plinth := t.plinth, egress := t.egress, ingress := t.ingress }

/-- Scoring and selection: the rows in up to PARTS items, split at multiples of 64 rows. The scores pass through the Plinth. -/
def Chip.scoreUse (d : Chip) (x q : Desc) (sqa : Nat) : PlanUse :=
  let w := x.yEnd - x.yFirst
  if x.yMode = 0 ∨ w = 0 ∨ x.yKsel = 0 then {}
  else
    let e := d.dir d.kvActive x.ySeq x.yLayer
    let size := ceilDiv (ceilDiv w (max x.yParts 1)) 64 * 64
    let items := (List.range (ceilDiv w size)).map (fun k => (x.yFirst + k * size, min size (w - k * size)))
    let k := min x.yKsel w
    let one (r : Nat × Nat) : PlanUse := d.stepUse (dotTerms r.2 1 (q.qHkv * q.qSdim) q.qSumFmt x.yFmtSq)
      [(e.sumElem + r.1 * rowElem q, r.2 * rowElem q), (e.sumScale + r.1 * rowScale q, r.2 * rowScale q), (sqa, sqBytes x q)] [(0, 4 * r.2)]
    (items.map one).foldl PlanUse.add (d.stepUse (topkTerms w k w) [(0, 4 * w)] [(0, 8 * k)])

/-- The parts: each an ATTN_PARTIAL over its blocks, written to the member's window; and the 64 bytes of the header. -/
def Chip.partsUse (d : Chip) (x q : Desc) (port qa : Nat) (parts : List (List (Nat × MapEnt))) : PlanUse :=
  let slab := slabBytes q.qFmt q.qDim
  let base := memberWindow port + x.yResult
  let size := partSize x q
  let one (p : List (Nat × MapEnt)) : PlanUse :=
    let last := p.length - 1
    let toks := p.zipIdx.map (fun b => if b.2 = last then b.1.2.tokens else 64)
    d.stepUse (attnTerms x.yHq q.qDim (toks.foldl (· + ·) 0) q.qFmt)
      ((qa, x.yHq * q.qDim * fmtBits x.yFmtQ / 8) :: (0, 16 * p.length) ::
        (p.zip toks).map (fun b => (b.1.2.addr + x.yG0 * slab, x.yHkv * slab * b.2 / 64))) [(base, size)]
  let empty := (parts.filter (·.isEmpty)).length
  ((parts.filter (fun p => !p.isEmpty)).map one).foldl PlanUse.add { egress := [(port, 64 + empty * size)] }

/-- The reads of a query's run (R263): its vectors, its summary rows, and the slabs of the blocks it computes over. -/
def Chip.queryReads (d : Chip) (x q : Desc) (qa : Nat) : Chip :=
  let e := d.dir d.kvActive x.ySeq x.yLayer
  let d := d.noteRead qa (qBytes x q + (if x.yMode = 0 then 0 else sqBytes x q))
  let d := if x.yMode = 0 ∨ q.qSdim = 0 then d else (d.noteRead e.sumElem (rowElem q * e.cap)).noteRead e.sumScale (rowScale q * e.cap)
  let slab := slabBytes q.qFmt q.qDim
  (d.choose x q (qa + qBytes x q)).blocks.foldl (fun (d : Chip) b => d.noteRead (b.2.addr + x.yG0 * slab) (x.yHkv * slab)) d

/-- A query run from its map scan: parts computed, poisoned blocks marked and left out (R237), heat counted, the result written, and its
reply ready. A result is never poisoned: where the query's own vectors were, the code says so (DESIGN CHOICE, log entry 84: R237 speaks of
poisoned blocks alone). -/
def Chip.queryRun (d : Chip) (i : Item) (v q : Desc) (port entry : Nat) : Chip :=
  let x := i.body
  let qa := entryAddr v port entry + 64
  let d := d.queryReads x q qa
  let c := d.choose x q (qa + qBytes x q)
  let parts := splitParts c.blocks (max x.yParts 1)
  let ps := parts.map (d.partRun x q qa)
  let bad := ps.flatMap (·.bad)
  let flags := ps.foldl (fun a p => a ||| p.flags) c.flags
  let blocks := (ps.map (·.blocks)).foldl (· + ·) 0
  let skipped := c.skipped + bad.length
  let poison := c.poison || ps.any (fun p => p.bytes.any (·.2))
  let code := if skipped = 0 && !poison then Code.OK else Code.POISONED_DATA
  let runs := ((tget d.kv.runs i.seq).getD { runs := 0 }).runs + 1
  let use := (d.scoreUse x q (qa + qBytes x q)).add (d.partsUse x q port qa parts)
  let mapBad := (d.scan x).any (fun e => e.2.state = 2 && d.anyPoison ((d.entAddr d.kvActive 0 + 16 * (d.dir d.kvActive x.ySeq x.yLayer).base + 16 * e.1) / 64 * 64) 64)
  let d := if mapBad then d.fault Src.KVA_MAP_POISON x.ySeq else d.touchDir x.ySeq x.yLayer
  let d := bad.foldl (fun (d : Chip) n => match d.entIndex x.ySeq x.yLayer n with
    | some k => d.setEnt d.kvActive k { d.ent d.kvActive k with state := 2 }
    | none => d) d
  let d := if bad.isEmpty then d else (d.syncHigh x.ySeq x.yLayer).kvSettle
  let d := (c.blocks.filter (fun b => !bad.contains b.1)).foldl (fun (d : Chip) b => d.heatUp x.ySeq x.yLayer b.1) d
  let d := d.takeFree.writeResult i port (ps.map (fun p => { p with bytes := p.bytes.map (fun b => (b.1, false)) })) (partSize x q) code
    (headerTail x flags runs blocks skipped (c.forced.filter (fun n => !bad.contains n)).length c.candidates ((ps.map (·.tokens)).foldl (· + ·) 0))
  let d := { d with kv := { d.kv with runs := tput d.kv.runs i.seq ⟨blocks, skipped, runs⟩ } }
  (d.updItem i.seq (fun i => { i with state := .running, owner := 0x51, fin := some ⟨code, 0, 0⟩ })).charge i.plan use

/-- An accepted query starts, or starts again after a fence. -/
def Chip.queryStart (d : Chip) (seq : Nat) : Chip :=
  match d.item seq with
  | none => d
  | some i =>
    match i.kind with
    | .query n e =>
      if i.state ≠ .accepted ∨ i.fin.isSome ∨ !d.kvaUp ∨ d.spent i.plan ∨ (i.carried ∧ d.tck.carriedWait) then d
      else match d.svc n, d.seqRec i.body.ySeq with
        | some s, some q => d.queryRun i s.img q.img (e / 256) (e % 256)
        | _, _ => d
    | _ => d

/-- A query refused (R231): a header with its code where RESULT is valid, and FAIL in every case. -/
def Chip.queryRefuse (d : Chip) (n port entry : Nat) (x : Desc) (code : Nat) (poison : Bool) : Chip :=
  let r : Reply := ⟨0, code, x.yTag, 0, false, d.single, false, false, 0, 0⟩
  let d := if resultValid x && !poison then
      d.wr (memberWindow port + x.yResult) (((d.replyWords r false).take 2).flatMap (leBytes 8) ++ List.replicate 48 0) else d
  (d.count Reg.KVA_QUERY_ERRORS.COUNT).answerQuery n port entry false

/-- One pending entry taken: checked, and accepted as an item of the plan of its service (R238). -/
def Chip.queryTake (d : Chip) (n port entry : Nat) : Chip :=
  match d.svc n with
  | none => d
  | some s =>
    let a := entryAddr s.img port entry
    let d := d.noteRead a 64
    let x := d.desc a
    let poison := d.anyPoison a 64
    let d := d.setSvc n { s with queue := s.queue.filter (· ≠ (port, entry)) }
    match d.queryCheck n s.img x poison with
    | some c => d.queryRefuse n port entry x c poison
    | none =>
      let d := d.arise ⟨.plan s.img.vPlan, x.yTag, s.img.vPlan, .service n (port * 256 + entry), 0x200, 0x51,
        .query n (port * 256 + entry), x, none⟩
      d.queryStart d.lastSeq

/-- The entries of a service that wait are taken in arrival order, while KVA runs (R229, R254). -/
def Chip.queriesTake (d : Chip) (n : Nat) : Chip :=
  match d.svc n with
  | none => d
  | some s => if d.kvaUp ∧ s.state = .bound then
      s.queue.foldl (fun (d : Chip) e => d.queryTake n e.1 e.2) d else d

/-- QUERY: a symbol on a service's line. One for an entry that is already pending is ignored and counted. -/
def query (d : Chip) (port line arg : Nat) : Chip :=
  match d.kv.svcs.find? (fun p => p.2.img.vLine = line && bitOf p.2.img.vMask port) with
  | none => if d.slotHolds port line ∨ (d.dmaLine port line).isSome then d else d.count (Reg.LNK_COUNT.COUNT port 8)
  | some (n, s) =>
    if s.pending.contains (port, arg) then (d.count Reg.KVA_QUERY_ERRORS.COUNT).fault Src.KVA_QUERY_SEQ (n * 256 + arg)
    else if arg ≥ s.img.vEntries ∨ s.state = .unbinding then
      (d.count Reg.KVA_QUERY_ERRORS.COUNT).pace port (s.img.vLine + 2) arg
    else
      (d.setSvc n { s with pending := s.pending ++ [(port, arg)], queue := s.queue ++ [(port, arg)] }).queriesTake n

def execQuery (port : Fin 8) (line : Fin 64) (arg : BitVec 8) (s : State) : Out :=
  s.on (fun d => query d port.val line.val arg.toNat)

end Sys2Proof.Machine
end

