-- ==== Sys2Proof/Machine/LinkBase.lean ====
section
/-! DEFINITION. Ports (R379 to R395): the transmitter's frames, credit and replay, and a port going DOWN. -/
namespace Sys2Proof.Machine
open Sys2Proof

def Chip.port (d : Chip) (p : Nat) : LinkPort := (tget d.lnk.ports p).getD {}

def Chip.setPort (d : Chip) (p : Nat) (x : LinkPort) : Chip := { d with lnk := { d.lnk with ports := tput d.lnk.ports p x } }

def Chip.portState (d : Chip) (p : Nat) : Nat := d.rg (Reg.LNK_PORT_STATE.STATE p)

/-- Whether frames pass on a port: UP or HALF. -/
def Chip.portUp (d : Chip) (p : Nat) : Bool := d.portState p = 2 || d.portState p = 3

/-- Whether a port runs DVL; A0 to A7 always do (R379). -/
def Chip.isDvl (d : Chip) (p : Nat) : Bool := p < 8 || d.rg (Reg.LNK_PORT_CFG.MODE p) = 0

/-- Whether a port's frames are sealed (R386). -/
def Chip.sealed (d : Chip) (p : Nat) : Bool := d.isDvl p && d.flag (Reg.LNK_PORT_CFG.GCM p)

/-- Virtual channel of a frame type; TAG takes no credit. -/
def frameVc (type : Nat) : Option Nat :=
  match type with
  | 1 | 3 | 8 => some 0
  | 2 | 4 | 5 | 6 => some 1
  | _ => none

/-- The credit the next frame returns (R383): frames received in units of 8, seven at most, of VC0 before VC1 (DESIGN CHOICE, log entry
87), as CRD and as frames of each channel. -/
def LinkPort.crd (x : LinkPort) : Nat × Nat × Nat :=
  if x.owe0 ≥ 8 then (min 7 (x.owe0 / 8), 8 * min 7 (x.owe0 / 8), 0)
  else if x.owe1 ≥ 8 then (8 + min 7 (x.owe1 / 8), 0, 8 * min 7 (x.owe1 / 8))
  else (0, 0, 0)

/-- A frame sent now: the next SEQ, with the credit it returns, kept for replay, counted in the open record. -/
def LinkPort.send (x : LinkPort) (f : TxFrame) : LinkPort :=
  { x with
    tx := x.tx ++ [{ f with seq := x.txNext, crd := x.crd.1 }], txNext := (x.txNext + 1) % 2048,
    owe0 := x.owe0 - x.crd.2.1, owe1 := x.owe1 - x.crd.2.2
    recFrames := if f.type = 7 then x.recFrames else x.recFrames + 1
    credit0 := if frameVc f.type = some 0 then x.credit0 - 1 else x.credit0
    credit1 := if frameVc f.type = some 1 then x.credit1 - 1 else x.credit1 }

/-- The link word of a frame as it goes out, with the acknowledgement of that moment (R380). -/
def LinkPort.word (x : LinkPort) (f : TxFrame) : Nat :=
  f.type * 2 ^ 84 + f.seq * 2 ^ 73 + (x.rxNext + 2047) % 2048 * 2 ^ 62 + (f.sym.1 * 2 ^ 14 + f.sym.2.1 * 2 ^ 8 + f.sym.2.2) * 2 ^ 46 +
  f.crd * 2 ^ 42 + f.ctx

/-- Bytes 0 to 270 of a frame: LINK, FLIT and CRC (R380); on a sealed port the FLIT is of the plaintext. PARITY, whose code the spec does
not give, is left out (log entry 88). -/
def LinkPort.frameBytes (x : LinkPort) (f : TxFrame) : List Nat :=
  let b := leBytes 11 (x.word f) ++ (f.flit ++ List.replicate 256 0).take 256
  b ++ leBytes 4 (crc32c b)

/-- Whether a frame may go now: room for replay and credit of its channel (R383, R384), and on a sealed port a record that is not full
(R386): one of 512 frames waits for its TAG. -/
def LinkPort.maySend (gcm : Bool) (x : LinkPort) (type : Nat) : Bool :=
  !x.dead && x.tx.length < 2047 && (!gcm || type = 7 || x.recFrames < 512) && (match frameVc type with | some 0 => x.credit0 > 0 | some _ => x.credit1 > 0 | none => true)

/-- Waiting frames that may now go, in order. -/
def LinkPort.drain (gcm : Bool) : Nat → LinkPort → LinkPort
  | 0, x => x
  | k + 1, x =>
    match x.waiting with
    | [] => x
    | f :: fs => if x.maySend gcm f.type then LinkPort.drain gcm k ({ x with waiting := fs }.send f) else x

/-- The frames of a port that wait and may now go: none in the safe state (R629). -/
def Chip.drainPort (d : Chip) (p : Nat) : Chip :=
  let x := d.port p
  if d.flag Reg.FLT_SAFE.SAFE then d
  else d.setPort p (x.drain (d.sealed p) x.waiting.length)

/-- A frame put on a port of the device: one in RETRAIN keeps it until it resumes (R385); a port that is DOWN or trains sends nothing. -/
def Chip.sendFrame (d : Chip) (p type ctx : Nat) (flit : List Nat) (sym : Nat × Nat × Nat := (0, 0, 0)) : Chip :=
  let x := d.port p
  let f : TxFrame := ⟨0, type, ctx, flit, sym, 0, 0⟩
  if d.portUp p then
    (d.setPort p { x with waiting := if type = 7 then f :: x.waiting else x.waiting ++ [f] }).drainPort p
  else if d.portState p = 4 then d.setPort p { x with waiting := x.waiting ++ [f] }
  else d

/-- A LINK symbol sent in a CTRL frame (R388). -/
def Chip.sendLink (d : Chip) (p op arg : Nat) : Chip := d.sendFrame p 8 0 [] (2, op, arg)

/-- The MACs of an Ethernet port by its split (R396), and the positions of a MAC's lanes: first and count. -/
def Chip.macCount (d : Chip) (p : Nat) : Nat :=
  match d.rg (Reg.LNK_PORT_CFG.SPLIT p) with | 0 => 2 | 1 => 4 | 2 => 3 | _ => 0

def Chip.macLanes (d : Chip) (p mac : Nat) : Nat × Nat :=
  match d.rg (Reg.LNK_PORT_CFG.SPLIT p) with
  | 0 => (8 * mac, 8)
  | 1 => (4 * mac, 4)
  | _ => if mac = 0 then (0, 8) else (4 + 4 * mac, 4)

/-- Whether a MAC passes frames: its port runs Ethernet and is UP, and no lane of the MAC has failed (R397). -/
def Chip.macUp (d : Chip) (p mac : Nat) : Bool :=
  d.portUp p && !d.isDvl p && mac < d.macCount p &&
  (List.range (d.macLanes p mac).2).all (fun i => !bitOf (d.rg (Reg.LNK_PORT_STATE.FAILED p)) ((d.macLanes p mac).1 + i))

/-- The timestamp of R398, in units of 0.25 ns: the base, the ticks at the present period, and the offset in the frame in frame cycles. -/
def Chip.timestamp (d : Chip) (offset : Nat) : Nat :=
  (d.rg Reg.LNK_PTP_BASE.BASE + d.tick * (d.rg Reg.TCK_PERIOD.PERIOD * 1000) + 2 * offset) % 2 ^ 64

/-! ## DOWN (R395) -/

/-- Whether an item's transfer needs a port: one of its addresses lies in the port's accelerator window, or it is a collective
with a member there. -/
def Chip.itemNeeds (d : Chip) (i : Item) (p : Nat) : Bool :=
  let inWindow (w : Word) : Bool := memberWindow p ≤ w.toNat && w.toNat < memberWindow p + 2 ^ 45
  let b := i.body
  match i.kind with
  | .coll => (d.groupPorts (wf b.w2 0 16)).contains p
  | .general op => op = 0x0D03 && [b.w1, b.w2, b.w3, b.w4, b.w5, b.w6, b.w7].any inWindow
  | .dma _ => [b.w1, b.w2].any inWindow
  | .work => [b.w1, b.w2, b.w3, b.w4, b.w5, b.w6, b.w7].any inWindow
  | _ => false

/-- A port goes DOWN: its items are withdrawn, what it kept is gone, the loader applies R85 at the next tick. -/
def Chip.portDown (d : Chip) (p : Nat) : Chip :=
  let d := d.sr (Reg.LNK_PORT_STATE.STATE p) 0
  let d := d.sr (Reg.LNK_PORT_STATE.CAL_POS p) 0x1F
  let x := d.port p
  let d := d.setPort p { upSeq := x.upSeq, half := x.half, nextPos := x.nextPos, phase := x.phase, unkeyed := x.unkeyed }
  let d := { d with ldr := { d.ldr with readmit := true } }
  let d := (d.fault Src.LNK_PORT_DOWN p).raiseAttn (.portDown p) .degraded clsLinks
  (d.led.items.filter (fun i => !i.state.ended && d.itemNeeds i p)).foldl
    (fun (d : Chip) i => d.withdraw i.seq Code.LNK_PORT_DOWN) d

/-- A port goes to RETRAIN (R385). -/
def Chip.retrain (d : Chip) (p : Nat) : Chip :=
  ((d.sr (Reg.LNK_PORT_STATE.STATE p) 4).count (Reg.LNK_COUNT.COUNT p 3)).fault Src.LNK_RETRAIN p

/-- Every unacknowledged frame sent again, in order (R384); a frame resent a third time makes the port retrain. -/
def Chip.resend (d : Chip) (p : Nat) : Chip :=
  let x := d.port p
  if x.tx.isEmpty then d
  else
    let d := d.setPort p { x with tx := x.tx.map (fun f => { f with resent := f.resent + 1 }) }
    let d := d.count (Reg.LNK_COUNT.COUNT p 2)
    if x.tx.any (fun f => f.resent + 1 ≥ 3) then d.retrain p else d

end Sys2Proof.Machine
end

