-- ==== Sys2Proof/Machine/Dma.lean ====
section
/-! DEFINITION. DMA engines (chapter 14). -/
namespace Sys2Proof
open Sys2Proof.Machine

/-! ## DMA_XFER (R506) -/

def Desc.mSrc (x : Desc) : Nat := x.w1.toNat
def Desc.mDst (x : Desc) : Nat := x.w2.toNat
def Desc.mLen (x : Desc) : Nat := wf x.w3 0 32
def Desc.mChan (x : Desc) : Nat := wf x.w3 32 8
def Desc.mFence (x : Desc) : Bool := wf x.w3 40 1 = 1
def Desc.mPaced (x : Desc) : Bool := wf x.w3 41 1 = 1
def Desc.mBurst (x : Desc) : Nat := wf x.w4 0 32

end Sys2Proof

namespace Sys2Proof.Machine
open Sys2Proof

def Chip.dmaRun (d : Chip) (seq : Nat) : DmaRun := (tget d.dma.runs seq).getD {}

def Chip.setRun (d : Chip) (seq : Nat) (r : DmaRun) : Chip := { d with dma := { d.dma with runs := tput d.dma.runs seq r } }

/-- The open transfers of a channel, oldest first. -/
def Chip.chanItems (d : Chip) (c : Nat) : List Item := d.led.items.filter (fun i => i.kind = .dma c && !i.state.ended)

/-- The bytes of a transfer from one offset moved, poison with them (R509); none where a page is not mapped. -/
def Chip.dmaCopy (d : Chip) (x : Desc) (ofs n : Nat) : Option (Chip × Bool) :=
  let a := x.mSrc + ofs
  let b := x.mDst + ofs
  if n = 0 then some (d, false)
  else if d.unmapped a n ∨ d.unmapped b n then none
  else
    let d := d.noteRead a n
    let bs := d.lineRead a n
    let lost := d.writeLost b n
    some (d.writeRange b bs, bs.any (·.2) || lost)

/-- Bytes of `n` that the read engine may still move in this frame: DMA_CFG.RATE caps them (R518). -/
def Chip.dmaRoom (d : Chip) (n : Nat) : Nat :=
  let cap := d.rg Reg.DMA_CFG.RATE * 1024
  if cap = 0 then n else min n (cap - d.dma.read)

/-- Bytes moved by a transfer counted. -/
def Chip.dmaMoved (d : Chip) (c n : Nat) : Chip :=
  { d with dma := { d.dma with read := d.dma.read + n } }.mr (Reg.DMA_CHAN_BYTES.COUNT c) (· + n)

/-- The read-back of a transfer whose writes are all made (R513): of the last line written, which in a host window is a read request. -/
def Chip.dmaReadback (d : Chip) (i : Item) (r : DmaRun) : Chip :=
  let d := (d.setRun i.seq { r with readback := true, burst := false, waitSince := none }).count (Reg.DMA_COUNT.COUNT 6)
  let last := i.body.mDst + i.body.mLen - 1
  if isHostWin last then d.issueRead (d.requester last) i.seq true else d

/-- What a channel does next: its first transfer with writes left goes on (R511, R515, R516). -/
def Chip.dmaGoAux : Nat → Chip → Nat → Chip
  | 0, d, _ => d
  | k + 1, d, c =>
    if !d.running .dma || (d.agentRec (.block .dma)).fencing then d
    else match (d.chanItems c).find? (fun i => !(d.dmaRun i.seq).readback && i.crec = .none) with
      | none => d
      | some i =>
        let r := d.dmaRun i.seq
        let x := i.body
        let earlier := (d.chanItems c).any (fun j => j.seq < i.seq)
        if (x.mFence ∧ earlier) ∨ d.hostPaused i then d
        else
          let d := d.updItem i.seq (fun i => { i with state := .running })
          let fresh := r.runs = 0 ∨ i.state = .accepted
          let d := if fresh then d.hostReads i else d
          let r := if fresh then { r with runs := r.runs + 1 } else r
          if !x.mPaced then
            let n := d.dmaRoom (x.mLen - r.bytes)
            match d.dmaCopy x r.bytes n with
            | none => Chip.dmaGoAux k (d.withdraw i.seq Code.MEM_UNMAPPED) c
            | some (d, poison) =>
              let d := (d.dmaMoved c n).sr (Reg.DMA_CHAN_STATE.STATE c) 2
              let r := { r with bytes := r.bytes + n, poison := r.poison || poison }
              if r.bytes < x.mLen then d.setRun i.seq r else Chip.dmaGoAux k (d.dmaReadback i r) c
          else if r.burst then d
          else
            let cr := d.rg (Reg.DMA_CHAN_STATE.CREDITS c)
            if r.begun < r.free then (d.setRun i.seq { r with burst := true, begun := r.begun + 1 }).sr (Reg.DMA_CHAN_STATE.STATE c) 2
            else if cr > 0 then
              let d := (d.sr (Reg.DMA_CHAN_STATE.CREDITS c) (cr - 1)).sr (Reg.DMA_CHAN_STATE.STATE c) 2
              d.setRun i.seq { r with burst := true, begun := r.begun + 1, waitSince := none }
            else
              (d.setRun i.seq { r with waitSince := some (r.waitSince.getD d.tick) }).sr (Reg.DMA_CHAN_STATE.STATE c) 3

def Chip.dmaGo (d : Chip) (c : Nat) : Chip := Chip.dmaGoAux ((d.chanItems c).length + 1) d c

/-! ## The command (R504, R506 to R508) -/

def dmaXfer (d : Chip) (src : Submit) (x : Desc) : Chip :=
  let c := x.mChan
  let fn := d.originFn src.origin
  let burstOk := if x.mPaced then x.mBurst % 64 = 0 ∧ 64 ≤ x.mBurst ∧ x.mBurst ≤ d.rg (Reg.DMA_CHAN_CFG.BUF c) * 0x1_0000 else x.mBurst = 0
  if c > 31 ∨ wf x.w3 42 22 ≠ 0 ∨ wf x.w4 32 32 ≠ 0 ∨ x.w5 ≠ 0 ∨ x.w6 ≠ 0 ∨ x.w7 ≠ 0 ∨ !burstOk ∨
      (x.mPaced ∧ d.rg (Reg.DMA_CHAN_CFG.PACE_SRC c) = 0) then d.refuse src Code.DMA_BAD_REQ
  else if x.mLen > 0x4000_0000 then d.refuse src Code.LENGTH_OVER
  else if fn ≠ d.rg (Reg.DMA_CHAN_CFG.FUNC c) ∨ (x.mLen ≠ 0 ∧ deviceOwned x.mSrc x.mLen) ∨ !d.accessOk fn x.mSrc x.mLen false ∨ !d.accessOk fn x.mDst x.mLen true then
    d.refuse src Code.ACCESS_VIOLATION
  else if !d.flag (Reg.DMA_CHAN_CFG.ENABLE c) then d.refuse src Code.DMA_CHAN_STATE
  else
    let d := (d.acceptCmd src (.dma c) x (.dma c) 0x55).count (Reg.DMA_COUNT.COUNT 0)
    let q := d.lastSeq
    let d := (d.setRun q {}).mr (Reg.DMA_CHAN_STATE.QUEUED c) (· + 1)
    if x.mLen = 0 then d.finish q Code.OK else d.dmaGo c

/-- DMA_XFER: a command naming a full channel stays in its ring (R508). -/
def execDmaXfer (src : Submit) (x : Desc) (s : State) : Out :=
  s.on (fun d => if x.mChan ≤ 31 ∧ d.rg (Reg.DMA_CHAN_STATE.QUEUED x.mChan) ≥ 64 then d
    else d.submit src .dma true (fun d => dmaXfer d src x))

/-! ## Channels (R505, R520, R523) -/

/-- Whether one of two lines of a port is held by a slot, a service or another channel. -/
def Chip.lineTaken (d : Chip) (c port line : Nat) : Bool :=
  [line, line + 1].any (fun l =>
    (List.range (min 4 (l + 1))).any (fun k => d.slotHolds port (l - k) || d.svcHolds port (l - k)) ||
    (List.range 32).any (fun k => k ≠ c && d.flag (Reg.DMA_CHAN_CFG.ENABLE k) && d.rg (Reg.DMA_CHAN_CFG.PACE_SRC k) = 1 &&
      d.rg (Reg.DMA_CHAN_CFG.PORT k) = port && d.rg (Reg.DMA_CHAN_CFG.LINE k) / 2 = l / 2))

/-- The check of R505. -/
def Chip.chanOk (d : Chip) (c : Nat) : Bool :=
  let on := (List.range 32).filter (fun k => k ≠ c && d.flag (Reg.DMA_CHAN_CFG.ENABLE k))
  let sum := (on.map (fun k => d.rg (Reg.DMA_CHAN_CFG.BUF k))).foldl (· + ·) (d.rg (Reg.DMA_CHAN_CFG.BUF c))
  sum ≤ 128 &&
  (match d.rg (Reg.DMA_CHAN_CFG.PACE_SRC c) with
   | 1 => d.rg (Reg.DMA_CHAN_CFG.LINE c) % 2 = 0 && !d.lineTaken c (d.rg (Reg.DMA_CHAN_CFG.PORT c)) (d.rg (Reg.DMA_CHAN_CFG.LINE c))
   | 2 => on.all (fun k => d.rg (Reg.DMA_CHAN_CFG.PACE_SRC k) ≠ 2 || d.rg (Reg.DMA_CHAN_CFG.PIN k) ≠ d.rg (Reg.DMA_CHAN_CFG.PIN c))
   | _ => true)

/-- ENABLE set (R505). -/
def Chip.chanEnable (d : Chip) (c : Nat) : Chip :=
  if d.flag (Reg.DMA_CHAN_CFG.ENABLE c) then d
  else if !d.chanOk c then d.sr (Reg.DMA_CHAN_CFG.ERR c) 1
  else
    let d := (d.sr (Reg.DMA_CHAN_CFG.ENABLE c) 1).sr (Reg.DMA_CHAN_CFG.ERR c) 0
    ((d.sr (Reg.DMA_CHAN_STATE.STATE c) 1).sr (Reg.DMA_CHAN_STATE.CREDITS c) 0).sr (Reg.DMA_CHAN_BYTES.COUNT c) 0

def execDmaChanEnable (c : Fin 32) (s : State) : Out := s.on (fun d => d.chanEnable c)

/-- ENABLE cleared (R520): the open transfers are withdrawn with DMA_DROPPED; the byte counts are free values. -/
def Chip.chanDrop (d : Chip) (c : Nat) : Chip :=
  if !d.flag (Reg.DMA_CHAN_CFG.ENABLE c) then d
  else
    let is := (d.chanItems c).filter (fun i => d.canWithdraw i.seq)
    let d := is.foldl (fun (d : Chip) i =>
      ((d.setRun i.seq { d.dmaRun i.seq with dropped := true }).count (Reg.DMA_COUNT.COUNT 3)).withdraw i.seq Code.DMA_DROPPED) d
    let d := (d.sr (Reg.DMA_CHAN_CFG.ENABLE c) 0).sr (Reg.DMA_CHAN_STATE.CREDITS c) 0
    (d.takeFree.sr (Reg.DMA_CHAN_BYTES.COUNT c) (Config.freeWord d.free).toNat).sr (Reg.DMA_CHAN_STATE.STATE c) 0

def execDmaChanDisable (c : Fin 32) (s : State) : Out := s.on (fun d => d.chanDrop c)

def execChanDrop (c : Fin 32) (s : State) : Out := s.on (fun d => (d.chanDrop c).answered (.block .dma) true)

/-! ## Pacing (R510 to R512) -/

/-- A pace request of a channel. -/
def Chip.dmaPace (d : Chip) (c : Nat) : Chip :=
  if !d.flag (Reg.DMA_CHAN_CFG.ENABLE c) then d
  else
    let cr := d.rg (Reg.DMA_CHAN_STATE.CREDITS c)
    if cr = 255 then (d.count (Reg.DMA_COUNT.COUNT 2)).fault Src.DMA_PACE_OVER c
    else (d.sr (Reg.DMA_CHAN_STATE.CREDITS c) (cr + 1)).dmaGo c

/-- DMA_PACE_REQUEST: a PACE symbol on the channel's line, or an edge on its pin; void on a channel that is not paced. -/
def execDmaPaceRequest (c : Fin 32) (s : State) : Out :=
  s.on (fun d => if d.rg (Reg.DMA_CHAN_CFG.PACE_SRC c) = 0 then d else d.wake.dmaPace c)

/-- BURST_WRITES_ISSUED: the burst under way of a channel, or as much of it as the frame's cap leaves; void where that is nothing. -/
def burstIssued (d : Chip) (c : Nat) : Chip :=
  match (d.chanItems c).find? (fun i => (d.dmaRun i.seq).burst) with
  | none => d
  | some i =>
    let r := d.dmaRun i.seq
    let x := i.body
    let whole := min ((r.moved + 1) * x.mBurst) x.mLen - r.bytes
    let n := d.dmaRoom whole
    if n = 0 then d else
    match d.dmaCopy x r.bytes n with
    | none => (d.withdraw i.seq Code.MEM_UNMAPPED).dmaGo c
    | some (d, poison) =>
      let d := d.dmaMoved c n
      if n < whole then d.setRun i.seq { r with bytes := r.bytes + n, poison := r.poison || poison } else
      let r := { r with bytes := r.bytes + n, moved := r.moved + 1, burst := false, poison := r.poison || poison }
      let d := d.count (Reg.DMA_COUNT.COUNT 1)
      let d := if d.rg (Reg.DMA_CHAN_CFG.PACE_SRC c) = 1 then
          d.pace (d.rg (Reg.DMA_CHAN_CFG.PORT c)) (d.rg (Reg.DMA_CHAN_CFG.LINE c) + 1) 0 else d
      if r.bytes ≥ x.mLen then (d.dmaReadback i r).dmaGo c else (d.setRun i.seq r).dmaGo c

def execBurstWritesIssued (c : Fin 32) (s : State) : Out := s.on (fun d => burstIssued d c)

/-- READ_BACK_COMPLETE: the commit record is issued; poison on the read-back or met before makes the code POISONED_DATA. -/
def readBack (d : Chip) (seq : Nat) (poison : Bool) : Chip :=
  match d.item seq with
  | none => d
  | some i =>
    let r := d.dmaRun seq
    if !r.readback ∨ i.state.ended ∨ d.readsOut seq then d
    else d.issueCommit seq ⟨if r.poison || poison then Code.POISONED_DATA else Code.OK, 0, 0⟩

def execReadBackComplete (seq : Nat) (poison : Bool) (s : State) : Out := s.on (fun d => readBack d seq poison)

/-- DMA_PACE_TIMEOUT of the transfer that waits on a channel: void before PACE_TIMEOUT ms have passed in whole ticks. -/
def paceTimeout (d : Chip) (c : Nat) : Chip :=
  let ms := d.rg (Reg.DMA_CHAN_CFG.PACE_TIMEOUT c)
  match (d.chanItems c).find? (fun i => (d.dmaRun i.seq).waitSince.isSome) with
  | none => d
  | some i =>
    let since := (d.dmaRun i.seq).waitSince.getD 0
    if ms = 0 ∨ d.tick - since < ms * 4000 / max (d.rg Reg.TCK_PERIOD.PERIOD) 1 then d
    else ((d.withdraw i.seq Code.DMA_PACE_TIMEOUT).count (Reg.DMA_COUNT.COUNT 4)).dmaGo c

def execDmaPaceTimeout (c : Fin 32) (s : State) : Out := s.on (fun d => paceTimeout d c)

/-- Transfers given back by a fence or a warm reset (R521, R522): they rerun from the start, the bursts begun without credits. -/
def Chip.dmaBack (d : Chip) : Chip :=
  { d with dma := { d.dma with runs := d.dma.runs.map (fun (p : Nat × DmaRun) =>
      match d.item p.1 with
      | some i => if i.crec = .none then
          (p.1, { p.2 with bytes := 0, moved := 0, begun := 0, free := max p.2.begun p.2.free, burst := false, readback := false,
                           poison := false, waitSince := none }) else p
      | none => p) } }

/-- The read engine's meter at a tick, and the channels that waited for it. -/
def Chip.dmaFrame (d : Chip) : Chip :=
  (List.range 32).foldl (fun (d : Chip) c => d.dmaGo c) { d with dma := { d.dma with read := 0 } }

/-- An item withdrawn because a read of its fails (R496); a read-back that ends so raises DMA_READBACK (R514). -/
def Chip.readFailed (d : Chip) (r : HostRead) (code : Nat) : Chip :=
  let d := if r.back then d.fault Src.DMA_READBACK (match d.item r.seq with | some i => i.body.mChan | none => 0) else d
  d.withdraw r.seq code

end Sys2Proof.Machine
end

