-- ==== Sys2Proof/Machine/CoreOps.lean ====
section
/-! DEFINITION. Crash, fence, retirement and restart of an Armature core (R364 to R369), and the inboxes (R355, R356). -/
namespace Sys2Proof.Machine
open Sys2Proof

/-! ## Inboxes (R355, R356) -/

/-- A command put into the lowest empty inbox entry of a core, with DOORBELL; a full inbox takes nothing. `fn` is 0xFF and `ring`
0xFFFF for a plan step. -/
def Chip.inboxPut (d : Chip) (n : Nat) (x : Desc) (seq ring fn flags : Nat) : Chip :=
  match (List.range 256).find? (fun i => d.inboxFlags n i % 2 = 0) with
  | none => d
  | some i =>
    (d.wr (inboxAddr n i) (descBytes x ++ leBytes 8 seq ++ leBytes 2 ring ++ [fn, flags] ++ List.replicate 52 0)).pend n 2

/-- An inbox entry freed, and what was kept of it as a plan step's. -/
def Chip.inboxClear (d : Chip) (n i : Nat) : Chip :=
  { d.wrNum (inboxAddr n i + 75) 1 0 with fw := { d.fw with stepPlan := tdel d.fw.stepPlan (n * 256 + i) } }

/-- The ring and function bytes of an origin in an inbox entry. -/
def Chip.inboxFrom (d : Chip) (o : Origin) : Nat × Nat :=
  match o with
  | .ring r => (r, d.ringFn r)
  | _ => (0xFFFF, 0xFF)

/-! ## Items of a core (R364 to R366) -/

def ownedBy (n : Nat) (i : Item) : Bool := i.owner = 0x40 + n && !i.state.ended

/-- The uncommitted items of a core return to ACCEPTED with REPLAYED set; a commit record already issued still commits (R365). -/
def Chip.coreGiveBack (d : Chip) (n : Nat) : Chip :=
  { d with
    led := { d.led with items := d.led.items.map (fun i =>
      if ownedBy n i ∧ i.crec = .none then { i with state := .accepted, replayed := true, fin := none } else i) }
    fw := { d.fw with ends := d.fw.ends.filter (fun e => e.1 ≠ n || (match d.item e.2 with | some i => i.crec ≠ .none | none => false)) } }

/-- The sequence numbers of the resume list of a core, in order. -/
def Chip.resumeSeqs (d : Chip) (n : Nat) : List Nat :=
  ((d.led.items.filter (fun i => ownedBy n i && i.state = .accepted)).map (·.seq)).mergeSort

/-- The core that takes over an item of a retired core: the one that now serves its group or its plan (R354, R368). -/
def Chip.heir (d : Chip) (role : Nat) (i : Item) : Nat :=
  if role ≤ 2 then d.roleCore role
  else
    let key := match i.kind with
      | .coll => wf i.body.w2 0 16
      | .general 0x0202 => wf i.body.w1 0 16
      | .general 0x0201 => (d.desc i.body.w1.toNat).gId
      | _ => i.plan
    (d.groupCore key).getD (d.roleCore 0)

/-- With no plan core left, the collective items already accepted are withdrawn (R369). -/
def Chip.noCores (d : Chip) : Chip :=
  if (planCores d).isEmpty then
    (d.led.items.filter (fun i => i.kind = .coll || i.kind = .general 0x0201 || i.kind = .general 0x0202)).foldl
      (fun (d : Chip) i => d.withdraw i.seq Code.FW_NO_CORE) d
  else d

/-- The inbox entries of a retired core put into another core's inbox; a plan step's stays its plan's. -/
def Chip.moveInbox (d : Chip) (n m : Nat) : Chip :=
  (List.range 256).foldl (fun (d : Chip) i =>
    if d.inboxFlags n i % 2 = 1 then
      let a := inboxAddr n i
      let d : Chip := match tget d.fw.stepPlan (n * 256 + i), (List.range 256).find? (fun j => d.inboxFlags m j % 2 = 0) with
        | some p, some j => { d with fw := { d.fw with stepPlan := tput d.fw.stepPlan (m * 256 + j) p } }
        | _, _ => d
      (d.inboxPut m (d.desc a) (d.num (a + 64) 8) (d.num (a + 72) 2) (d.num (a + 74) 1) (d.inboxFlags n i)).inboxClear n i
    else d) d

/-- A core retires (R368, R369): gated, its role moved to the highest plan core, its items and inbox to the cores that now
serve them, ATTN DEGRADED, and admission checked again at the next tick. -/
def Chip.retireAc (d : Chip) (n : Nat) : Chip :=
  let role := d.rg (Reg.AMT_CORE_STATE.ROLE n)
  let d := d.sr (Reg.AMT_CORE_STATE.STATE n) 6
  let d := match if role ≤ 2 then (planCores d).getLast? else none with
    | some m => d.sr (Reg.AMT_CORE_STATE.ROLE m) role
    | none => d
  let d := (d.raiseAttn (.other clsFirmware n) .degraded clsFirmware).patEvent 5 [0x40 + n]
  let d := d.coreGiveBack n
  let d : Chip := { d with
    ldr := { d.ldr with readmit := true }
    led := { d.led with items := d.led.items.map (fun i => if ownedBy n i then { i with owner := 0x40 + d.heir role i } else i) } }
  (d.moveInbox n (if role ≤ 2 then d.roleCore role else (planCores d).headD (d.roleCore 0))).noCores

/-! ## Crash (R364, R368) -/

/-- Ticks of a second. -/
def Chip.secondTicks (d : Chip) : Nat := 4_000_000 / max (d.rg Reg.TCK_PERIOD.PERIOD) 1

/-- A core crashes: halted, counted, its items given back; the third crash within a second retires the core, and raises
AC_RESTART_LOOP on AC0. -/
def Chip.crash (d : Chip) (n : Nat) : Chip :=
  let d := (d.sr (Reg.AMT_CORE_STATE.STATE n) 1).sr (Reg.OBS_DBG_CTRL.HALTED n) 0
  let d := d.mr (Reg.AMT_CORE_STATE.RESTARTS n) (fun v => min (v + 1) 0xFFFF)
  let d := d.patCount (0x1268 + 4 * n) 32
  let c := d.core n
  let recent := (d.tick :: c.crashes).filter (fun t => d.tick - t < d.secondTicks)
  let d := (d.setCore n { c with crashes := recent }).coreGiveBack n
  if recent.length < 3 then d
  else
    let d := d.setCore n { d.core n with crashes := [] }
    if n = 0 then d.fault (Src.AC_RESTART_LOOP 0) else d.retireAc n

end Sys2Proof.Machine
end

