-- ==== Sys2Proof/Machine/Trace.lean ====
section
/-! DEFINITION. The instruction trace (R664 to R667): records, the near-tier buffer, the trigger reserve and the trigger. -/
namespace Sys2Proof.Machine
open Sys2Proof

/-- Records the near-tier buffer holds. -/
def Chip.traceCap (d : Chip) : Nat := 2 ^ d.rg Reg.OBS_TRACE_CFG.SIZE * 0x1_0000

def traceBytes (type core icount cycle aux addr : Nat) : List Nat :=
  leBytes 8 (type % 16 + core % 16 * 2 ^ 4 + icount % 256 * 2 ^ 8 + cycle % 2 ^ 32 * 2 ^ 16 + aux % 2 ^ 16 * 2 ^ 48) ++
    leBytes 8 addr

/-- One record to the near-tier buffer, circular at WRITE_INDEX. -/
def Chip.traceBuffer (d : Chip) (bs : List Nat) : Chip :=
  let i := d.rg Reg.OBS_TRACE_STATE.WRITE_INDEX
  (d.wr (d.rg Reg.OBS_TRACE_CFG.BASE * 0x1_0000 + i * 16) bs).sr Reg.OBS_TRACE_STATE.WRITE_INDEX ((i + 1) % d.traceCap)

/-- One record from the funnel (R666), 16 bytes of observation at the Plinth; in DONE and OFF, and while OBS is FENCED (R678), it is discarded. -/
def Chip.traceWrite (d : Chip) (bs : List Nat) : Chip :=
  if !d.running .obs then d
  else
    let d : Chip := { d with trc := { d.trc with obsPlinth := d.trc.obsPlinth + 16 } }
    match d.rg Reg.OBS_TRACE_STATE.STATE with
    | 1 =>
      let d := (d.traceBuffer bs).wr (0x2F80_0000 + d.trc.low * 16) bs
      { d with trc := { d.trc with low := (d.trc.low + 1) % 0x2_0000 } }.count (Reg.OBS_COUNT.COUNT 0)
    | 2 =>
      let d := if d.trc.left = 0 then d else
        { d.traceBuffer bs with trc := { d.trc with left := d.trc.left - 1 } }.count (Reg.OBS_COUNT.COUNT 0)
      if d.trc.high < 0x2_0000 then
        { d.wr (0x2FA0_0000 + d.trc.high * 16) bs with trc := { d.trc with high := d.trc.high + 1 } }
      else d
    | _ => d

/-! ## The observation cap (R663) -/

/-- Whether observation in this frame has reached 3 % of the Plinth or of the Armature measure. -/
def Chip.obsFull (d : Chip) : Bool :=
  decide (d.trc.obsPlinth * 100 ≥ 3 * (24576 * d.F)) || decide (d.trc.obsArm * 100 ≥ 3 * (13 * d.F * 4 / 5))

/-- Observation of this frame dropped: the frame will count in CAP_FRAMES. -/
def Chip.obsDrop (d : Chip) : Chip := { d with trc := { d.trc with capped := true } }

/-- At a tick, the frame that ends counted where observation was dropped in it. -/
def Chip.obsTick (d : Chip) : Chip :=
  let was := d.trc.capped
  let d : Chip := { d with trc := { d.trc with obsPlinth := 0, obsArm := 0, capped := false }, fw := { d.fw with logCost := [] } }
  if was then d.count (Reg.OBS_COUNT.COUNT 2) else d

/-! ## The FIFOs and the funnel (R665) -/

def Chip.traceFifo (d : Chip) (n : Nat) : List (List Nat) := (tget d.trc.fifo n).getD []

def Chip.setTraceFifo (d : Chip) (n : Nat) (l : List (List Nat)) : Chip :=
  { d with trc := { d.trc with fifo := if l.isEmpty then tdel d.trc.fifo n else tput d.trc.fifo n l } }

/-- Records that wait in the FIFOs. -/
def Chip.traceWaiting (d : Chip) : Nat := (d.trc.fifo.map (fun (p : Nat × List (List Nat)) => p.2.length)).foldl (· + ·) 0

/-- The core the funnel serves next, in rotation. -/
def Chip.traceNext (d : Chip) : Option Nat :=
  ((List.range 16).map (fun i => (d.trc.turn + 1 + i) % 16)).find? (fun n => !(d.traceFifo n).isEmpty)

/-- The funnel takes one record. -/
def Chip.funnelOne (d : Chip) : Chip :=
  match d.traceNext with
  | none => d
  | some n =>
    match d.traceFifo n with
    | [] => d
    | r :: rest => ({ d.setTraceFifo n rest with trc := { (d.setTraceFifo n rest).trc with turn := n } }).traceWrite r

/-- The funnel takes up to `k` records, of the `w` that wait. -/
def Chip.funnel (d : Chip) (k : Nat) : Nat → Chip
  | 0 => d
  | w + 1 => if k ≤ w then d.funnel k w else (d.funnel k w).funnelOne

/-- What the funnel has taken since it was last looked at: how many records is a free value, since the cycles between two instructions
are not modelled. -/
def Chip.funnelSome (d : Chip) : Chip :=
  let w := d.traceWaiting
  if w = 0 then d else (d.funnel ((Config.freeWord d.free).toNat % (w + 1)) w).takeFree

/-- The funnel takes all that waits: a frame of 2,000 cycles or more gives it time for 4,000 records, and the FIFOs hold 1,024. -/
def Chip.funnelAll (d : Chip) : Chip := d.funnel d.traceWaiting d.traceWaiting

def traceLost (d : Chip) (n : Nat) : Nat := (tget d.trc.lost n).getD 0

/-- A record put into a core's FIFO, or dropped and counted where it is full. -/
def Chip.tracePush (d : Chip) (n : Nat) (bs : List Nat) : Chip :=
  if (d.traceFifo n).length < 64 then d.setTraceFifo n (d.traceFifo n ++ [bs])
  else { d with trc := { d.trc with lost := tput d.trc.lost n (traceLost d n + 1) } }

/-- Once room has returned: a LOSS record with the count of the records dropped, and a SYNC. -/
def Chip.traceRoom (d : Chip) (n : Nat) : Chip :=
  let l := traceLost d n
  if l = 0 ∨ 64 ≤ (d.traceFifo n).length then d
  else
    let cyc := (Config.freeWord d.free).toNat
    let d := d.tracePush n (traceBytes 5 n 0 cyc 0 l)
    let d := ({ d with trc := { d.trc with lost := tdel d.trc.lost n } }.count (Reg.OBS_COUNT.COUNT 1)).fault Src.OBS_TRACE_LOSS n
    (d.tracePush n (traceBytes 1 n 0 cyc (d.tick % 2 ^ 16) (d.core n).pc.toNat)).takeFree

/-- A record on its way from a core: dropped under the observation cap; nothing where the trace takes none. -/
def Chip.traceSend (d : Chip) (n : Nat) (bs : List Nat) : Chip :=
  if !d.running .obs ∨ (d.rg Reg.OBS_TRACE_STATE.STATE ≠ 1 ∧ d.rg Reg.OBS_TRACE_STATE.STATE ≠ 2) then d
  else if d.obsFull then
    { d with trc := { d.trc with lost := tput d.trc.lost n (traceLost d n + 1) } }.obsDrop
  else (d.traceRoom n).tracePush n bs

/-- Whether core n writes trace records. -/
def Chip.tracing (d : Chip) (n : Nat) : Bool :=
  d.flag Reg.OBS_TRACE_CFG.ENABLE && bitOf (d.rg Reg.OBS_TRACE_CFG.CORES) n

/-- One record of core n, its CYCLE a free value (timing is not modelled). -/
def Chip.traceOne (d : Chip) (n type aux addr : Nat) : Chip :=
  let c := d.core n
  ((d.setCore n { c with icount := 0, trecs := c.trecs + 1 }).traceSend n
    (traceBytes type n c.icount (Config.freeWord d.free).toNat aux addr)).takeFree

/-- A SYNC record of core n. -/
def Chip.traceSync (d : Chip) (n : Nat) : Chip := d.traceOne n 1 (d.tick % 2 ^ 16) (d.core n).pc.toNat

/-- Whether a trigger still counts: once per enable (R667). -/
def Chip.traceArmed (d : Chip) : Bool := d.rg Reg.OBS_TRACE_STATE.STATE = 1

/-- The trigger: what waits in the FIFOs, a TRIGGER record, and POST. -/
def Chip.traceTrigger (d : Chip) (n : Nat) : Chip :=
  if !d.traceArmed then d
  else
    let d := d.funnelAll
    let i := d.rg Reg.OBS_TRACE_STATE.WRITE_INDEX
    let d := (d.traceWrite (traceBytes 6 n (d.core n).icount (Config.freeWord d.free).toNat 0 0)).takeFree
    let d := (d.sr Reg.OBS_TRACE_STATE.TRIG_INDEX i).sr Reg.OBS_TRACE_STATE.STATE 2
    { d with trc := { d.trc with left := (8 - d.rg Reg.OBS_TRACE_CFG.PRE) * d.traceCap / 8, high := 0, due := false } }

/-- A trigger that a fault source has called for, taken. -/
def Chip.traceDue (d : Chip) : Chip := if d.trc.due then d.traceTrigger 0 else d

/-- A record of core n, with a SYNC after every 4,096 of its records (R664). -/
def Chip.trace (d : Chip) (n type aux addr : Nat) : Chip :=
  if !d.tracing n then d
  else
    let d := (d.traceDue).funnelSome.traceOne n type aux addr
    if (d.core n).trecs % 4096 = 0 then d.traceSync n else d

/-- A retired instruction counted for ICOUNT, with a RUN record where the count would pass 255. -/
def Chip.traceRetire (d : Chip) (n : Nat) : Chip :=
  if !d.tracing n then d
  else
    let d := if (d.core n).icount ≥ 255 then d.trace n 10 0 0 else d
    let c := d.core n
    d.setCore n { c with icount := c.icount + 1 }

end Sys2Proof.Machine
end

