-- ==== Sys2Proof/Machine/ArmBase.lean ====
section
/-! DEFINITION. How an Armature core runs one instruction (R301 to R346): registers and tags, breakpoints, traps, the load delay
and the retiring of an instruction. A command names the core and the instruction's fields; the core runs it at its program
counter. -/
namespace Sys2Proof.Machine
open Sys2Proof

/-! ## Registers (R302 to R305) -/

def ArmCore.reg (c : ArmCore) (r : Fin 32) : TVal := if r = 0 then ⟨0, .int⟩ else (tget c.s r.val).getD {}

def ArmCore.setReg (c : ArmCore) (r : Fin 32) (x : TVal) : ArmCore :=
  if r = 0 then c else { c with s := tput c.s r.val x }

def ArmCore.accum (c : ArmCore) (k : Nat) : BitVec 128 := (tget c.a k).getD 0

def ArmCore.setAccum (c : ArmCore) (k : Nat) (v : BitVec 128) : ArmCore := { c with a := tput c.a k v }

def Tag.code : Tag → Nat
  | .nul => 0 | .int => 1 | .f64 => 2 | .f32p => 3 | .ptr => 4 | .desc => 5 | .seq => 6 | .keyh => 7

def Tag.ofCode : Nat → Option Tag
  | 0 => some .nul | 1 => some .int | 2 => some .f64 | 3 => some .f32p | 4 => some .ptr | 5 => some .desc | 6 => some .seq
  | 7 => some .keyh | _ => none

/-- What an instruction comes to: it goes on to the next one, goes to a target, traps with a cause code and TVAL, halts the core
before itself (R668), or stalls. -/
inductive IOut where
  | next (d : Chip)
  | jump (d : Chip) (target : Nat)
  | trap (d : Chip) (code tval : Nat) (poison : Bool)
  | halt (d : Chip)
  | stall

/-! Trap cause codes (R342). -/
def tILLEGAL : Nat := 0x01
def tTAG_NUL : Nat := 0x02
def tTAG_TYPE : Nat := 0x03
def tTAG_FORGE : Nat := 0x04
def tTAG_LEAK : Nat := 0x05
def tALIGN : Nat := 0x06
def tACCESS : Nat := 0x07
def tFETCH : Nat := 0x08
def tPOISON : Nat := 0x09
def tDIV_ZERO : Nat := 0x0A
def tRS_OVER : Nat := 0x0B
def tRS_UNDER : Nat := 0x0C
def tHANDLE : Nat := 0x0D
def tKEY_DENIED : Nat := 0x0E
def tSOFT : Nat := 0x0F
def tBREAK : Nat := 0x10

/-- An operand read: a NUL register traps (R304). -/
def Chip.read1 (d : Chip) (n : Fin 16) (r : Fin 32) (k : TVal → IOut) : IOut :=
  let x := (d.core n).reg r
  if x.t = .nul then .trap d tTAG_NUL r false else k x

def Chip.read2 (d : Chip) (n : Fin 16) (r1 r2 : Fin 32) (k : TVal → TVal → IOut) : IOut :=
  d.read1 n r1 (fun x => d.read1 n r2 (fun y => k x y))

/-- An operand of one of some tags; any other traps (R305). -/
def Chip.typed1 (d : Chip) (n : Fin 16) (r : Fin 32) (ts : List Tag) (k : TVal → IOut) : IOut :=
  d.read1 n r (fun x => if ts.contains x.t then k x else .trap d tTAG_TYPE r false)

def allTags : List Tag := [.nul, .int, .f64, .f32p, .ptr, .desc, .seq, .keyh]

/-- Two operands under a tag rule giving the result's tag; TVAL of a TAG_TYPE trap is the first register no allowed pair begins
with, else the second. -/
def Chip.typed2 (d : Chip) (n : Fin 16) (r1 r2 : Fin 32) (rule : Tag → Tag → Option Tag) (k : Word → Word → Tag → IOut) : IOut :=
  d.read2 n r1 r2 (fun x y =>
    match rule x.t y.t with
    | some t => k x.v y.v t
    | none => .trap d tTAG_TYPE (if allTags.any (fun t => (rule x.t t).isSome) then r2 else r1) false)

/-- The core's registers changed, and on to the next instruction. -/
def Chip.thenCore (d : Chip) (n : Fin 16) (f : ArmCore → ArmCore) : IOut := .next (d.setCore n (f (d.core n)))

def Chip.writes (d : Chip) (n : Fin 16) (rd : Fin 32) (v : Word) (t : Tag) : IOut := d.thenCore n (fun c => c.setReg rd ⟨v, t⟩)

/-! ## Where a core may fetch (R307) -/

def localBase (n : Nat) : Nat := 0x1_0500_0000 + n * 0x4_0000

def ownLocal (n a : Nat) : Bool := localBase n ≤ a && a < localBase n + 0x4_0000

def fetchable (n a : Nat) : Bool := ownLocal n a || isShared a

/-! ## Traps (R340 to R342) -/

/-- Whether a load's slot is next. -/
def ArmCore.inSlot (c : ArmCore) : Bool := c.loads.any (fun l => !l.slotDone)

/-- The load whose slot traps is held in LDPEND and LDVAL (R337). -/
def ArmCore.holdLoad (c : ArmCore) : ArmCore :=
  match c.loads.find? (fun l => !l.slotDone) with
  | none => c
  | some l => { c with
      ldReg := l.rd, ldTag := l.val.t.code, ldVal := l.val.v, ldValid := true, loads := c.loads.filter (fun l => l.slotDone) }

/-- A trap: EPC, CAUSE and TVAL, IE to PIE, INTRAP, and on at TVEC; a trap while INTRAP is set stops the core. `deferred` and
`intr` mark the traps of R335 and R343. -/
def Chip.armTrap (d : Chip) (n : Fin 16) (code tval : Nat) (poison deferred intr : Bool) : Chip :=
  let c := d.core n
  if c.intrap then (d.crash n).fault (Src.AC_DOUBLE_TRAP n)
  else
    let slot := c.inSlot
    let cause := code + b2n poison * 2 ^ 28 + b2n deferred * 2 ^ 29 + b2n slot * 2 ^ 30 + b2n intr * 2 ^ 31
    let c' := { c.holdLoad with
      epc := c.pc, cause := BitVec.ofNat 64 cause, tval := BitVec.ofNat 64 tval, pie := c.ie, ie := false, intrap := true,
      pc := c.tvec }
    (d.setCore n c').trace n 3 (code + bitsOf cause 28 4 * 2 ^ 8) c.pc.toNat

/-! ## The load delay (R336) -/

/-- The slot of the loads in flight has issued: a load whose data is here is written, unless it was held over a trap and the
slot wrote its register (R337). -/
def ArmCore.slotOver (c : ArmCore) (old : List InFlight) (wrote : List (Fin 32)) : ArmCore :=
  old.foldl (fun c l =>
    let c := if l.slotWins then { c with ldValid := false } else c
    if !l.ready then { c with loads := { l with slotDone := true } :: c.loads }
    else if l.slotWins && wrote.contains l.rd then c
    else c.setReg l.rd l.val) { c with loads := c.loads.drop old.length }

/-! ## Breakpoints (R668) -/

/-- The breakpoints of core n that match an access: kind 0 fetch, 1 load, 2 store. -/
def Chip.bpMatches (d : Chip) (n : Nat) (kind a : Nat) : List Nat :=
  (List.range 8).filter (fun i =>
    let k := d.rg (Reg.OBS_BP.KIND n i)
    let m := min (d.rg (Reg.OBS_BP.MASK n i)) 20
    d.flag (Reg.OBS_BP.ENABLE n i) && (k = kind || (k = 3 && kind ≠ 0)) && a / 2 ^ m = d.rg (Reg.OBS_BP.ADDR n i) / 2 ^ m)

/-- The matches of one access counted in HITS, and the actions of those that fire: HITS exceeds COUNT. -/
def Chip.bpHit (d : Chip) (n : Nat) (is : List Nat) : Chip × List Nat :=
  is.foldl (fun (p : Chip × List Nat) i =>
    let d := p.1.mr (Reg.OBS_BP.HITS n i) (fun v => min (v + 1) 255)
    if d.rg (Reg.OBS_BP.HITS n i) > d.rg (Reg.OBS_BP.COUNT n i) then
      (d.count (Reg.OBS_COUNT.COUNT 5), p.2 ++ [d.rg (Reg.OBS_BP.ACTION n i)])
    else (d, p.2)) (d, [])

/-- The accesses of an instruction, each with its kind, held against the breakpoints before it goes on. -/
def Chip.breaks (d : Chip) (n : Fin 16) (as : List (Nat × Nat)) (k : Chip → IOut) : IOut :=
  let (d, acts) := d.bpHit n ((as.flatMap (fun a => d.bpMatches n a.1 a.2)).eraseDups)
  if acts.contains 1 then .halt d
  else if acts.contains 0 then .trap d tBREAK (d.core n).pc.toNat false
  else k (if acts.contains 2 ∧ d.rg Reg.OBS_TRACE_TRIG.SRC = 1 then d.traceTrigger n else d)

/-! ## One instruction -/

/-- The core halted by debug (R669). -/
def Chip.debugHalt (d : Chip) (n : Nat) : Chip :=
  let d : Chip := { d with fw := { d.fw with haltAt := tput d.fw.haltAt n d.tick } }
  let d := ((d.sr (Reg.AMT_CORE_STATE.STATE n) 1).sr (Reg.OBS_DBG_CTRL.HALTED n) 1)
  (d.sr (Reg.OBS_DBG_CTRL.PC n) (d.core n).pc.toNat).trace n 7 0 (d.core n).pc.toNat

/-- Whether a core runs instructions: released by the loader, RUNNING or RESUMING. -/
def Chip.coreRuns (d : Chip) (n : Nat) : Bool :=
  let st := d.rg (Reg.AMT_CORE_STATE.STATE n)
  (d.core n).released && (st = 0 || st = 5) && d.clocked 1

/-- A core that steps halts again after its instruction (R669). -/
def Chip.stepOver (d : Chip) (n : Nat) : Chip :=
  if (d.core n).stepping then (d.setCore n { d.core n with stepping := false }).debugHalt n else d

/-- The instruction retired: INSTRET, the load delay, the new pc. -/
def Chip.retire (d : Chip) (n : Fin 16) (old : List InFlight) (wrote : List (Fin 32)) (pc : Nat) : Chip :=
  let c := d.core n
  let c := { c.slotOver old wrote with pc := BitVec.ofNat 64 pc, instret := (c.instret + 1) % 2 ^ 64 }
  ((d.setCore n c).traceRetire n).stepOver n

/-- What an instruction came to, carried out; a taken transfer leaves a BRANCH record (an ERET its own). One that retires counts in the
Armature measure of the plan in hand, PLANCTX (R301). -/
def Chip.settleInsn (d : Chip) (n : Fin 16) (old : List InFlight) (wrote : List (Fin 32)) (kind : Nat) (o : IOut) : Chip :=
  match o with
  | .next d' => (d'.retire n old wrote ((d'.core n).pc.toNat + 4)).charge (d.core n).planctx { arm := 1 }
  | .jump d' t => ((d'.retire n old wrote t).charge (d.core n).planctx { arm := 1 }).trace n kind 0 t
  | .trap d' code tval poison => (d'.armTrap n code tval poison false false).stepOver n
  | .halt d' => d'.debugHalt n
  | .stall => d

/-- Core n runs one instruction that writes the registers `wrote`. It stalls while a load whose slot has issued has not
returned (R336), and waits while the plan in hand has spent its budget (R88); its fetch traps where the core may not fetch or reads poison (R307, R311). -/
def Chip.insn (d : Chip) (n : Fin 16) (wrote : List (Fin 32)) (body : Chip → IOut) (kind : Nat := 2) : Chip :=
  let c := d.core n
  if !d.coreRuns n || c.loads.any (fun l => l.slotDone) || d.spent c.planctx then d
  else
    let pc := c.pc.toNat
    let d := if fetchable n pc then d.noteRead pc 4 else d
    d.settleInsn n c.loads wrote kind (
      if !fetchable n pc then .trap d tFETCH pc false
      else if d.anyPoison pc 4 then .trap d tFETCH pc true
      else d.breaks n [(0, pc)] body)

/-- A taken transfer to a target: it traps when no fetch is possible there, and has no effect then (R321). -/
def Chip.goto (d : Chip) (n : Fin 16) (t : Nat) (k : Chip → Chip := id) : IOut :=
  if t % 4 ≠ 0 ∨ !fetchable n t then .trap d tFETCH t false else .jump (k d) t

/-! ## Instruction words, for TVAL of ILLEGAL (R314) -/

def wordR (op fn rs2 rs1 rd : Nat) : Nat := op + rd * 2 ^ 7 + rs1 * 2 ^ 12 + rs2 * 2 ^ 17 + fn * 2 ^ 22
def wordI (op imm rs1 rd : Nat) : Nat := op + rd * 2 ^ 7 + rs1 * 2 ^ 12 + imm % 2 ^ 15 * 2 ^ 17
def wordM (op imm sz rs1 rd : Nat) : Nat := op + rd * 2 ^ 7 + rs1 * 2 ^ 12 + sz * 2 ^ 17 + imm % 2 ^ 12 * 2 ^ 20
def wordX (op sc sz rs2 rs1 rd : Nat) : Nat := op + rd * 2 ^ 7 + rs1 * 2 ^ 12 + rs2 * 2 ^ 17 + sz * 2 ^ 22 + sc * 2 ^ 25

/-- ILLEGAL, with the instruction word as TVAL. -/
def Chip.illegal (d : Chip) (word : Nat) : IOut := .trap d tILLEGAL word false

end Sys2Proof.Machine
end

