-- ==== Sys2Proof/Machine/ArmData.lean ====
section
/-! DEFINITION. Device memory as an Armature core sees it (R307 to R312), the AMO instructions (R319), the dual-fetch
multiply-accumulate (R331 to R335), and the work and ledger instructions (R325 to R330). -/
namespace Sys2Proof.Machine
open Sys2Proof

/-! ## Regions (R307) -/

/-- The core whose local memory an address lies in. -/
def localCore (a : Nat) : Option Nat := if isLocal a then some ((a - 0x1_0500_0000) / 0x4_0000) else none

/-- Whether core n reaches size bytes at an address outside the MMIO window; a host window must be open to any function (R478). -/
def Chip.coreReach (d : Chip) (n a size : Nat) (write : Bool) : Bool :=
  a < 2 ^ 52 && !isMmio a && d.inOne a size && !d.unmapped a size && (!isHostWin a || d.winOk 0x100 a size write) &&
  (match localCore a with | some m => m = n || n = 0 | none => true)

/-- Whether core n may load there. -/
def Chip.coreLoads (d : Chip) (n a size : Nat) : Bool := d.coreReach n a size false

/-- Whether core n may store there: no device-owned region, but for the image store, which is AC0's (R353). -/
def Chip.coreStores (d : Chip) (n a size : Nat) : Bool :=
  d.coreReach n a size true && !deviceOwned a size &&
  (!d.deviceNear a size || (n = 0 && 0x10_5800_0000 ≤ a && a + size ≤ 0x10_5E00_0000))

/-! ## Local-memory tags (R309, R310) -/

def Chip.wordTag (d : Chip) (a : Nat) : Tag :=
  match localCore a with
  | some m => (tget (d.core m).ltags ((a - localBase m) / 8)).getD .nul
  | none => .int

def Chip.setWordTag (d : Chip) (a : Nat) (t : Tag) : Chip :=
  match localCore a with
  | some m =>
    let c := d.core m
    let k := (a - localBase m) / 8
    d.setCore m { c with ltags := if t = .nul then tdel c.ltags k else tput c.ltags k t }
  | none => d

/-- Words written without a tag of their own carry INT: by the loader (R352), by AC0 into another core's memory (R310), by the
device. -/
def Chip.tagInt (d : Chip) (a n : Nat) : Chip :=
  if n = 0 then d
  else (List.range ((a + n - 1) / 8 + 1 - a / 8)).foldl (fun (d : Chip) i => d.setWordTag ((a / 8 + i) * 8) .int) d

/-- A write of clean bytes by a core, tags set to INT where it reaches local memory. -/
def Chip.coreWr (d : Chip) (n a : Nat) (bs : List Nat) : Chip :=
  let d := (d.wr a bs).tagInt a bs.length
  if fetchable n a then d.setCore n { d.core n with codeStale := true } else d

/-- The accesses a core's instruction makes leave DATA records (R664): AUX bit 0 store, bits 3:1 SZ. -/
def Chip.traceData (d : Chip) (n : Nat) (store : Bool) (sz a : Nat) : Chip :=
  if d.flag Reg.OBS_TRACE_CFG.DATA then d.trace n 9 (b2n store + sz % 8 * 2) a else d

/-- The bytes of a range as core n reads them: KEYH words of another core's local memory read as 0 (R307). -/
def Chip.coreBytes (d : Chip) (n : Fin 16) (a size : Nat) : List Nat :=
  (d.bytes a size).zipIdx.map (fun b => if isLocal (a + b.2) && !ownLocal n (a + b.2) && d.wordTag ((a + b.2) / 8 * 8) = .keyh then 0 else b.1)

/-- A region read by an instruction as operands: aligned, loadable and clean. -/
def Chip.reads (d : Chip) (n : Fin 16) (a size : Nat) (k : Chip → List Nat → IOut) : IOut :=
  if a % size ≠ 0 then .trap d tALIGN a false
  else if !d.coreLoads n a size then .trap d tACCESS a false
  else
    let d := d.noteRead a size
    if d.anyPoison a size then .trap d tPOISON a false else k d (d.coreBytes n a size)

/-! ## AMO (R319) -/

/-- Armature shared memory, or a general region of the Plinth. -/
def amoPlace (a : Nat) : Bool := isShared a || (isPlinth a && !deviceOwned a 8)

/-- One AMO: rd receives the old word as INT; `f` gives the new word, or none, from the old word, rs2 and the old rd. -/
def Chip.amo (d : Chip) (n : Fin 16) (rd rs1 rs2 : Fin 32) (useRd : Bool) (f : Word → Word → Word → Option Word) : Chip :=
  d.insn n [rd] (fun d => d.typed1 n rs1 [.ptr] (fun p => d.typed1 n rs2 [.int] (fun y =>
    let go (z : Word) : IOut :=
      let a := p.v.toNat
      if a % 8 ≠ 0 then .trap d tALIGN a false
      else if a ≥ 2 ^ 52 ∨ !amoPlace a then .trap d tACCESS a false
      else d.breaks n [(1, a), (2, a)] (fun d => d.reads n a 8 (fun d bs =>
        let old : Word := wordOfBytes bs
        let d := match f old y.v z with
          | some v => (d.traceData n true 3 a).coreWr n a (leBytes 8 v.toNat)
          | none => d
        (d.traceData n false 3 a).writes n rd old .int))
    if useRd then d.typed1 n rd [.int] (fun z => go z.v) else go 0)))
where
  /-- Eight bytes as a word. -/
  wordOfBytes (bs : List Nat) : Word := BitVec.ofNat 64 (leNat bs)

def execAmoadd (n : Fin 16) (rd rs1 rs2 : Fin 32) (s : State) : Out :=
  s.on (fun d => d.amo n rd rs1 rs2 false (fun old y _ => some (old + y)))

def execAmoswp (n : Fin 16) (rd rs1 rs2 : Fin 32) (s : State) : Out :=
  s.on (fun d => d.amo n rd rs1 rs2 false (fun _ y _ => some y))

def execAmocas (n : Fin 16) (rd rs1 rs2 : Fin 32) (s : State) : Out :=
  s.on (fun d => d.amo n rd rs1 rs2 true (fun old y z => if old = z then some y else none))

/-! ## Dual-fetch multiply-accumulate (R331 to R335) -/

/-- What a fetched word calls for: POISON, or TAG_TYPE for a tag that is neither INT nor the mode's; another core's memory gives INT (R307). -/
def Chip.macdFetch (d : Chip) (n : Fin 16) (mode : Fin 3) (a : Nat) : Option (Nat × Word) :=
  let t := if ownLocal n a then d.wordTag a else .int
  let want : Tag := if mode = 0 then .int else if mode = 1 then .f64 else .f32p
  if d.anyPoison a 8 then some (tPOISON, BitVec.ofNat 64 a)
  else if t = .int ∨ t = want then none else some (tTAG_TYPE, BitVec.ofNat 64 a)

/-- The address of a MACD fetch held against R307 and R332. -/
def Chip.macdAddr (d : Chip) (n : Fin 16) (a : Nat) : Option Nat :=
  if a % 8 ≠ 0 then some tALIGN else if !d.coreLoads n a 8 then some tACCESS else none

def execMacd (n : Fin 16) (acc : Fin 4) (mode : Fin 4) (rs1 rs2 : Fin 32) (s : State) : Out :=
  s.on (fun d => d.insn n [rs1, rs2] (fun d =>
    let word := wordR 0x38 0 rs2 rs1 (acc.val + mode.val * 4)
    if h : mode.val < 3 then
      if rs1 = 0 ∨ rs2 = 0 then d.illegal word
      else if (d.core n).macds.length ≥ 4 then .stall
      else d.typed1 n rs1 [.ptr] (fun p => d.typed1 n rs2 [.ptr] (fun q =>
        let a := p.v.toNat
        let b := q.v.toNat
        match d.macdAddr n a, d.macdAddr n b with
        | some c, _ => .trap d c a false
        | _, some c => .trap d c b false
        | none, none => d.breaks n [(1, a), (1, b)] (fun d =>
          let d := (d.noteRead a 8).noteRead b 8
          let d := (d.traceData n false 3 a).traceData n false 3 b
          let bad := (d.macdFetch n ⟨mode.val, h⟩ a).or (d.macdFetch n ⟨mode.val, h⟩ b)
          let word (a : Nat) : Word := BitVec.ofNat 64 (leNat (d.coreBytes n a 8))
          let m : Macd := ⟨acc, ⟨mode.val, h⟩, word a, word b, bad⟩
          d.thenCore n (fun c =>
            let c := { c with macds := c.macds ++ [m] }.setReg rs1 ⟨p.v + 8, .ptr⟩
            if rs1 = rs2 then c else c.setReg rs2 ⟨q.v + 8, .ptr⟩))))
    else d.illegal word))

/-- An FP64 sum of a product and an addend with one rounding. -/
def fmaF64 (acc x y : Val) : Nat := (convFloat fmtF64 true .nearest true (addExact acc (mulExact x y))).1

/-- The accumulator after a MACD (R331). -/
def macdApply (mode : Fin 3) (acc : BitVec 128) (x y : Word) : BitVec 128 :=
  let half (k : Nat) : Val := decodeFloat fmtF64 (acc.toNat / 2 ^ (64 * k) % 2 ^ 64)
  let single (w : Word) (k : Nat) : Val := decodeFloat fmtF32 (w.toNat / 2 ^ (32 * k) % 2 ^ 32)
  if mode = 0 then acc + x.signExtend 128 * y.signExtend 128
  else if mode = 1 then
    BitVec.ofNat 128 (acc.toNat / 2 ^ 64 * 2 ^ 64 + fmaF64 (half 0) (decodeFloat fmtF64 x.toNat) (decodeFloat fmtF64 y.toNat))
  else
    BitVec.ofNat 128 (fmaF64 (half 0) (single x 0) (single y 0) + fmaF64 (half 1) (single x 1) (single y 1) * 2 ^ 64)

/-- The oldest MACD completes: its accumulation applies, or the deferred trap is taken and every outstanding MACD leaves the
accumulators unchanged. -/
def execMacdComplete (n : Fin 16) (s : State) : Out :=
  s.on (fun d =>
    let c := d.core n
    match c.macds with
    | [] => d
    | m :: ms =>
      match m.bad with
      | none => d.setCore n ({ c with macds := ms }.setAccum m.acc (macdApply m.mode (c.accum m.acc) m.x m.y))
      | some (code, a) =>
        if !d.coreRuns n then d
        else (d.setCore n { c with macds := [] }).armTrap n code a.toNat false true false)

/-! ## Work handles (R325 to R327) -/

def ArmCore.gen (c : ArmCore) (h : Nat) : Nat := (tget c.gens h).getD 0

def handleValue (c : ArmCore) (h : Nat) : Word := BitVec.ofNat 64 (h + c.gen h % 2 ^ 24 * 2 ^ 8)

/-- WQ and WQK from the handle on: the descriptor copied, the handle returned. -/
def Chip.queueDesc (d : Chip) (n : Fin 16) (rd : Fin 32) (a target : Nat) (cipher : Bool) (key : Option KeyName) : IOut :=
  d.reads n a 64 (fun d bs =>
    let c := d.core n
    match firstFree c.handles 256 with
    | none => .trap d tHANDLE 0 false
    | some h =>
      let x : Handle := ⟨descOf ((pieces 8 8 bs).map leNat), target, c.planctx, key, cipher, none, none⟩
      .next (d.setCore n ({ c with handles := tput c.handles h x }.setReg rd ⟨handleValue c h, .desc⟩)))

def execWq (n : Fin 16) (rd rs1 rs2 : Fin 32) (s : State) : Out :=
  s.on (fun d => d.insn n [rd] (fun d => d.typed1 n rs1 [.ptr] (fun p => d.typed1 n rs2 [.int] (fun t =>
    if t.v.toNat ≥ 2 ^ 9 then .trap d tTAG_TYPE rs2 false
    else d.queueDesc n rd p.v.toNat (if bitOf t.v.toNat 8 then 256 else t.v.toNat % 256) false none))))

/-- An operand that names a handle in use: its index. -/
def Chip.handleOf (d : Chip) (n : Fin 16) (r : Fin 32) (k : Nat → Handle → IOut) : IOut :=
  d.typed1 n r [.desc] (fun x =>
    let c := d.core n
    let h := x.v.toNat % 256
    match tget c.handles h with
    | some y => if x.v = handleValue c h then k h y else .trap d tHANDLE x.v.toNat false
    | none => .trap d tHANDLE x.v.toNat false)

def execWseq (n : Fin 16) (rd rs1 : Fin 32) (s : State) : Out :=
  s.on (fun d => d.insn n [rd] (fun d => d.handleOf n rs1 (fun _ h =>
    match h.seq with
    | none => .stall
    | some q => d.writes n rd (BitVec.ofNat 64 q) .seq)))

def execWwait (n : Fin 16) (rd rs1 rs2 : Fin 32) (s : State) : Out :=
  s.on (fun d => d.insn n [rd] (fun d => d.handleOf n rs1 (fun _ h =>
    let go (d : Chip) (dst : Option Nat) : IOut :=
      match h.reply with
      | none => .stall
      | some ws =>
        let d := match dst with
          | some a => d.coreWr n a (ws.flatMap (fun (w : Word) => leBytes 8 w.toNat))
          | none => d
        d.writes n rd (ws.headD 0) .int
    if rs2 = 0 then go d none
    else d.typed1 n rs2 [.ptr] (fun p =>
      let a := p.v.toNat
      if a % 32 ≠ 0 then .trap d tALIGN a false
      else if !d.coreStores n a 32 then .trap d tACCESS a false
      else d.breaks n [(2, a)] (fun d => go d (some a))))))

def execWpoll (n : Fin 16) (rd rs1 : Fin 32) (s : State) : Out :=
  s.on (fun d => d.insn n [rd] (fun d => d.handleOf n rs1 (fun _ h => d.writes n rd (if h.reply.isSome then 1 else 0) .int)))

/-- Whether a handle's item has been refused or has reached an end state. -/
def Chip.handleDone (d : Chip) (h : Handle) : Bool :=
  h.reply.isSome || (match h.seq.bind d.item with | some i => i.state.ended | none => false)

def execWfree (n : Fin 16) (rs1 : Fin 32) (s : State) : Out :=
  s.on (fun d => d.insn n [] (fun d => d.handleOf n rs1 (fun k h =>
    if !d.handleDone h then .trap d tHANDLE ((d.core n).reg rs1).v.toNat false
    else d.thenCore n (fun c => { c with handles := tdel c.handles k, gens := tput c.gens k ((c.gen k + 1) % 2 ^ 24) }))))

/-! ## Internal items (R329, R330, R359, R360) -/

/-- Items with core n's OWNER that have not ended. -/
def Chip.heldBy (d : Chip) (n : Nat) : Nat := (d.led.items.filter (fun i => i.owner = 0x40 + n && !i.state.ended)).length

def execLacc (n : Fin 16) (rd rs1 rs2 : Fin 32) (s : State) : Out :=
  s.on (fun d => d.insn n [rd] (fun d => d.typed1 n rs1 [.ptr] (fun p => d.typed1 n rs2 [.int] (fun t =>
    d.reads n p.v.toNat 64 (fun d bs =>
      if !d.admits (d.originDomain (.core n 256)) ∨ d.heldBy n ≥ 4096 then .stall
      else
        let o : Origin := .core n 256
        let d := d.accept ⟨d.originDomain o, wf t.v 0 32, d.originPlan o, o, d.originFn o, 0x40 + n, .armature n,
          descOf ((pieces 8 8 bs).map leNat), none⟩ .running
        let seq := d.lastSeq
        d.thenCore n (fun c => { c with laccs := tput c.laccs seq 0 }.setReg rd ⟨BitVec.ofNat 64 seq, .seq⟩))))))

/-- An operand that names an item this core created with LACC, and how the item stands: 0 open, 1 committed, 2 withdrawn. -/
def Chip.laccOf (d : Chip) (n : Fin 16) (r : Fin 32) (k : Nat → Nat → IOut) : IOut :=
  d.typed1 n r [.seq] (fun x =>
    match tget (d.core n).laccs x.v.toNat with
    | some st => k x.v.toNat st
    | none => .trap d tHANDLE x.v.toNat false)

/-- LCMT of an open item; it stalls until R41 lets the item commit. -/
def Chip.lcmt (d : Chip) (n : Fin 16) (rd : Fin 32) (seq : Nat) (redo : Option (List Nat)) : IOut :=
  match d.item seq with
  | none => .stall
  | some i =>
    if !predsEnded d.led.items i ∨ !d.commits then .stall
    else
      let ws := (redo.map (fun bs => (pieces 8 8 bs).map leNat)).getD []
      let d := match redo with
        | some _ => d.updItem seq (fun i => { i with redoRec := some (descOf ws) })
        | none => d
      (d.endItem seq .committed Code.OK (ws.getD 0 0) (ws.getD 1 0)).writes n rd (BitVec.ofNat 64 Code.OK) .int

def execLcmt (n : Fin 16) (rd rs1 rs2 : Fin 32) (s : State) : Out :=
  s.on (fun d => d.insn n [rd] (fun d => d.laccOf n rs1 (fun seq st =>
    let go (d : Chip) (redo : Option (List Nat)) : IOut :=
      if st = 0 then d.lcmt n rd seq redo
      else d.writes n rd (BitVec.ofNat 64 (if st = 1 then Code.OK else Code.WITHDRAWN)) .int
    if rs2 = 0 then go d none
    else d.typed1 n rs2 [.ptr] (fun p => d.reads n p.v.toNat 64 (fun d bs => go d (some bs))))))

def execLwdr (n : Fin 16) (rd rs1 : Fin 32) (s : State) : Out :=
  s.on (fun d => d.insn n [rd] (fun d => d.laccOf n rs1 (fun seq st =>
    if st ≠ 0 ∨ !d.canWithdraw seq then d.writes n rd (BitVec.ofNat 64 Code.ALREADY_DONE) .int
    else (d.withdraw seq Code.WITHDRAWN).writes n rd (BitVec.ofNat 64 Code.OK) .int)))

end Sys2Proof.Machine
end

