-- ==== Sys2Proof/Machine/Image.lean ====
section
/-! DEFINITION. Signed images in the boot flash (R347 to R350, R585 to R587): the flash devices, the boot record, signature
blocks and the firmware image's header and sections. -/
namespace Sys2Proof.Machine
open Sys2Proof

/-! ## Boot flash (R347) -/

/-- A byte of a flash device: 0 primary, 1 alternate. -/
def Chip.flashByte (d : Chip) (dev o : Nat) : Nat :=
  (tget d.fw.flash (dev * 2 ^ 29 + o)).getD (Config.flashByte dev o).toNat

def Chip.flashBytes (d : Chip) (dev o n : Nat) : List Nat := (List.range n).map (fun i => d.flashByte dev (o + i))

def Chip.flashWrite (d : Chip) (dev o : Nat) (bs : List Nat) : Chip :=
  { d with fw := { d.fw with flash := bs.zipIdx.foldl (fun t b => tput t (dev * 2 ^ 29 + o + b.2) b.1) d.fw.flash } }

/-- Flash offset and size of a firmware slot. -/
def slotOff (s : Nat) : Nat := 0x100_0000 + s * 0x200_0000
def slotSize : Nat := 0x200_0000

/-! ## The boot record (R347, R348) -/

structure BootRec where
  gen : Nat
  active : Nat
  state : Nat
  deriving DecidableEq, Repr

def bootRecOf (b : List Nat) : Option BootRec :=
  if leNat (b.take 4) = 0x4254_5243 ∧ leNat ((b.drop 60).take 4) = crc32c (b.take 60) then
    some ⟨leNat ((b.drop 4).take 4), b.getD 8 0, b.getD 9 0⟩
  else none

/-- The copy with a valid CHECK and the highest GENERATION, the primary device before the alternate. -/
def Chip.bootRec (d : Chip) : Option BootRec :=
  let pick (dev : Nat) : Option BootRec :=
    ([0, 0x8000].filterMap (fun o => bootRecOf (d.flashBytes dev o 64))).foldl (fun (m : Option BootRec) r =>
      match m with
      | none => some r
      | some x => some (if r.gen > x.gen then r else x)) none
  (pick 0).orElse (fun _ => pick 1)

def bootBytes (r : BootRec) : List Nat :=
  let b := leBytes 4 0x4254_5243 ++ leBytes 4 r.gen ++ [r.active, r.state] ++ List.replicate 50 0
  b ++ leBytes 4 (crc32c b)

/-- The boot record written to its four copies, with the next GENERATION. -/
def Chip.putBootRec (d : Chip) (active state : Nat) : Chip :=
  let b := bootBytes ⟨((d.bootRec.map (·.gen)).getD 0 + 1) % 2 ^ 32, active, state⟩
  let d := (d.flashWrite 0 0x8000 b).flashWrite 0 0 b
  ((d.flashWrite 1 0x8000 b).flashWrite 1 0 b).sr Reg.AMT_FW_STATE.STAGED state

/-! ## Signature blocks (R585 to R587) -/

/-- The OTP count of an image kind. -/
def svnFld (kind : Nat) : Fld :=
  if kind = 1 then Reg.SEC_SVN.STAGE1 else if kind = 2 then Reg.SEC_SVN.MAQUETTE else Reg.SEC_SVN.FIRMWARE

/-- The 48 bytes of an OTP key record (R587). -/
def otpRecord (k : Nat) : List Nat := (List.range 48).map (fun i => (Config.otpKey k i).toNat)

/-- The result of a verification: the code of the first check that fails, or the image's length, SVN and SHA-384. -/
inductive Verdict where
  | bad (code : Nat)
  | ok (len svn : Nat) (digest : List Nat)

/-- The checks of R586 on an image read byte by byte in an area of a size, in order. -/
def Chip.verifyImg (d : Chip) (rd : Nat → Nat) (kind area : Nat) : Verdict :=
  let rds (o n : Nat) : List Nat := (List.range n).map (fun i => rd (o + i))
  let sig := area - 0x2000
  let num (o n : Nat) : Nat := leNat (rds (sig + o) n)
  let len := num 0xC 4
  let svn := num 8 4
  let key := num 7 1
  if area < 0x2000 ∨ num 0 4 ≠ 0x5349_4742 ∨ num 4 2 ≠ 1 ∨ num 6 1 ≠ kind ∨ len > area - 0x2000 ∨ svn > 64 ∨
      !(rds (sig + 0x14FD) 0xB03).all (· = 0) ∨ (kind = 3 ∧ svn ≠ leNat (rds 0x14 4)) then .bad Code.FW_BAD_IMAGE
  else
    let pub := rds (sig + 0x10) 0x7C0
    if key > 3 ∨ sha384 pub ≠ otpRecord key ∨ bitOf (d.rg Reg.SEC_STATE.REVOKED) key then .bad Code.AUTH_FAIL
    else
      let img := rds 0 len
      let digest := sha384 (img ++ rds sig 16)
      if !Config.verifies (leNat (pub.take 32)) digest (rds (sig + 0x7D0) 64) ∨
          !Config.verifies (leNat (pub.drop 32)) digest (rds (sig + 0x810) 3309) then .bad Code.AUTH_FAIL
      else if svn < d.rg (svnFld kind) then .bad Code.FW_ROLLBACK
      else .ok len svn (sha384 img)

/-! ## The firmware image (R349, R350) -/

/-- A section: where it goes, its length, its CRC, and where its bytes begin in the image (log entry 33: the sections' bytes
follow the header in their order). -/
structure FwSection where
  dest : Nat
  len : Nat
  crc : Nat
  off : Nat
  deriving DecidableEq, Repr

structure FwRole where
  wmask : Nat
  code : Nat
  entry : Nat
  deriving DecidableEq, Repr

structure FwHead where
  version : Nat
  iface : Nat
  svn : Nat
  len : Nat
  roles : List FwRole
  secs : List FwSection
  magicOk : Bool
  deriving DecidableEq, Repr

def placeSections (off : Nat) : List (Nat × Nat × Nat) → List FwSection
  | [] => []
  | (a, n, c) :: rest => ⟨a, n, c, off⟩ :: placeSections (off + n) rest

/-- The header of an image read byte by byte. -/
def fwHead (rd : Nat → Nat) : FwHead :=
  let num (o n : Nat) : Nat := leNat ((List.range n).map (fun i => rd (o + i)))
  let k := num 0x1C 1
  { version := num 8 8, iface := num 0x10 4, svn := num 0x14 4, len := num 0x18 4
    roles := (List.range 16).map (fun n => ⟨num (0x20 + 8 * n) 4, num (0x24 + 8 * n) 1, num (0x26 + 8 * n) 2⟩)
    secs := placeSections 0x300 ((List.range (min k 32)).map (fun s =>
      (num (0xA0 + 16 * s) 8, num (0xA8 + 16 * s) 4, num (0xAC + 16 * s) 4)))
    magicOk := num 0 4 = 0x4657_4152 && num 4 2 = 1 && 1 ≤ k && k ≤ 32 &&
      num 0x2FC 4 = crc32c ((List.range 0x2FC).map rd) && num 0x18 4 ≤ slotSize - 0x2000 }

/-- The core whose local memory a section lies wholly in. -/
def sectionCore (s : FwSection) : Option Nat :=
  (List.range 16).find? (fun n => 0x1_0500_0000 + n * 0x4_0000 ≤ s.dest && s.dest + s.len ≤ 0x1_0500_0000 + (n + 1) * 0x4_0000)

def sectionPlaced (s : FwSection) : Bool :=
  s.dest % 64 = 0 && s.len % 64 = 0 &&
  ((sectionCore s).isSome || (0x1_0400_0000 ≤ s.dest && s.dest + s.len ≤ 0x1_04E0_0000))

/-- Whether an image is well formed (R349, R350). -/
def fwOk (rd : Nat → Nat) (h : FwHead) : Bool :=
  h.magicOk && h.secs.all (fun s => sectionPlaced s && s.off + s.len ≤ h.len &&
    crc32c ((List.range s.len).map (fun i => rd (s.off + i))) = s.crc) &&
  h.secs.zipIdx.all (fun p => h.secs.zipIdx.all (fun q => p.2 = q.2 || !overlaps p.1.dest p.1.len q.1.dest q.1.len)) &&
  h.roles.zipIdx.all (fun p =>
    (match h.secs[p.1.code]? with
     | some s => sectionCore s = some p.2
     | none => false) &&
    bitOf p.1.wmask 9 && (p.2 = 0 || (!bitOf p.1.wmask 2 && !bitOf p.1.wmask 3)))

end Sys2Proof.Machine
end

