-- ==== Sys2Proof/Machine/SecBase.lean ====
section
/-! DEFINITION. Key slots and derived-key contexts (R594 to R605): lookup, counters, derivation, and use. -/
namespace Sys2Proof.Machine
open Sys2Proof

/-! ## Key slots (R594) -/

def uINLINE : Nat := 0
def uMACSEC : Nat := 1
def uIDE : Nat := 2
def uBULK : Nat := 3
def uUNWRAP : Nat := 4
def uROOT : Nat := 5
def uKMAC : Nat := 6

def Chip.kslot (d : Chip) (k : Nat) : Option KeySlot := tget d.sec.slots k

def Chip.setKslot (d : Chip) (k : Nat) (s : KeySlot) : Chip := { d with sec := { d.sec with slots := tput d.sec.slots k s } }

/-- Whether a slot is LOADED with a use. -/
def Chip.loadedFor (d : Chip) (k use : Nat) : Bool :=
  match d.kslot k with
  | some s => !s.exhausted && bitOf s.uses use
  | none => false

/-- The next counter value of a slot taken (R600): a NOTE at 2^47, EXHAUSTED when the counter reaches 2^48 − 1. -/
def Chip.slotCounter (d : Chip) (k : Nat) : Option (Nat × Chip) :=
  match d.kslot k with
  | none => none
  | some s =>
    if s.exhausted then none
    else
      let v := s.counter
      let gone := v + 1 ≥ 2 ^ 48 - 1
      let d := d.setKslot k { s with counter := v + 1, exhausted := gone }
      let d := if v = 2 ^ 47 then d.note clsSecurity else d
      some (v, if gone then d.fault Src.SEC_KEY_EXHAUSTED k else d)

/-! ## Derived-key contexts (R598, R601) -/

/-- The next counter value of a context taken; a new step of 2^24 is recorded in Patina first. -/
def Chip.ctxCounter (d : Chip) (c : Nat) : Option (Nat × Chip) :=
  let x := (tget d.sec.ctxs c).getD {}
  if x.counter ≥ 2 ^ 48 - 1 then none
  else
    let v := x.counter
    let step := v ≥ x.stepEnd
    let x : CtxCounter := ⟨v + 1, if step then x.stepEnd + 2 ^ 24 else x.stepEnd⟩
    let d : Chip := { d with sec := { d.sec with ctxs := tput d.sec.ctxs c x } }
    let d := if step then d.patEvent 7 [c, x.stepEnd] else d
    some (v, if v = 2 ^ 47 then d.note clsSecurity else d)

def ascii (s : String) : List Nat := s.toList.map Char.toNat

/-- The unique device secret. -/
def uds : List Nat := (List.range 32).map (fun i => (Config.deviceSecret i).toNat)

/-- CDI_S1 and CDI_FW (identity layers of chapter 17). -/
def Chip.cdiS1 (d : Chip) : List Nat := kmac256 uds (d.sec.s1Digest ++ leBytes 4 d.sec.s1Svn) (ascii "CDI1") 32

def Chip.cdiFw (d : Chip) : List Nat :=
  kmac256 d.cdiS1 (d.sec.maqDigest ++ d.sec.fwDigest ++ [d.rg Reg.SEC_STATE.DEBUG]) (ascii "CDI2") 32

/-- ROOT of a context: fixed for contexts 0 to 4 by the table, else SEC_CTX_CFG. -/
def Chip.ctxRoot (d : Chip) (c : Nat) : Nat :=
  if c = 0 then 2 else if c ≤ 3 then 0 else if c = 4 then 1 else d.rg (Reg.SEC_CTX_CFG.ROOT c)

/-- The root key; none where its slot does not serve as one. -/
def Chip.rootKey (d : Chip) (c : Nat) : Option (List Nat) :=
  match d.ctxRoot c with
  | 0 => some (kmac256 uds (ascii "ROOT") [] 32)
  | 1 => some d.cdiFw
  | 2 =>
    let k := d.rg (Reg.SEC_CTX_CFG.ROOT_SLOT c)
    if d.loadedFor k uROOT then (d.kslot k).map (·.key) else none
  | _ => none

/-- The key of a context for a label (R598). -/
def Chip.derive (d : Chip) (c : Nat) (label : List Nat) : Option (List Nat) :=
  (d.rootKey c).map (fun root =>
    kmac256 root (beBytes 4 1 ++ label ++ [0] ++ beBytes 1 c ++ beBytes 4 256) (ascii "TVN-KDF") 32)

/-- The 96-bit IV of R599: FIXED, ENGINE, COUNTER, most significant byte first. -/
def ivOf (fixed engine counter : Nat) : List Nat := beBytes 4 fixed ++ beBytes 2 engine ++ beBytes 6 counter

/-! ## Slots in use (R597) -/

/-- The transmit and receive slot fields of a port's phase. -/
def txSlotFld (p phase : Nat) : Fld := if phase = 0 then Reg.SEC_PORT_KEY.TX_SLOT0 p else Reg.SEC_PORT_KEY.TX_SLOT1 p
def rxSlotFld (p phase : Nat) : Fld := if phase = 0 then Reg.SEC_PORT_KEY.RX_SLOT0 p else Reg.SEC_PORT_KEY.RX_SLOT1 p

def Chip.txPhase (d : Chip) (p : Nat) : Nat := bitsOf (d.rg Reg.SEC_PORT_PHASE.TX) p 1
def Chip.rxPhase (d : Chip) (p : Nat) : Nat := bitsOf (d.rg Reg.SEC_PORT_PHASE.RX_SEEN) p 1

/-- Whether an inline slot is in use on an UP port, or a MACsec SA or an IDE stream uses a slot. -/
def Chip.slotBusy (d : Chip) (k : Nat) : Bool :=
  (d.loadedFor k uINLINE && (List.range 12).any (fun p => d.portUp p && d.sealed p &&
    (d.rg (txSlotFld p (d.txPhase p)) = k || d.rg (rxSlotFld p (d.rxPhase p)) = k))) ||
  d.lnk.sas.any (fun s => s.2.slot = k) || d.sec.ide.any (fun i => i.active && i.slot = k)

/-- An inline-encrypted port whose transmit slot is EXHAUSTED sends IDLE, with ATTN ASK (R605). -/
def Chip.txDead (d : Chip) (p : Nat) : Bool :=
  d.sealed p && (match d.kslot (d.rg (txSlotFld p (d.txPhase p))) with | some s => s.exhausted | none => true)

/-- Whether a port can seal brought up to date; frames that waited go once it can. -/
def Chip.syncDead (d : Chip) (p : Nat) : Chip :=
  let x := { d.port p with dead := d.txDead p }
  let d := (d.setPort p x).drainPort p
  let k := d.rg (txSlotFld p (d.txPhase p))
  if x.dead ∧ d.portUp p ∧ ((d.kslot k).map (·.exhausted)).getD false then d.raiseAttn (.keySlot k) .ask clsSecurity else d

/-! ## The DRBG (R611) -/

/-- A reseed of the DRBG. -/
def Chip.reseed (d : Chip) : Chip := { d with sec := { d.sec with drbgUsed := 0 } }.count (Reg.SEC_COUNT.COUNT 9)

/-- Random bytes drawn; the DRBG reseeds every 2^20 requests. -/
def Chip.random (d : Chip) (n : Nat) : List Nat × Chip :=
  let used := d.sec.drbgUsed + 1
  let e := d.takeFree
  ((List.range n).map (fun i => (Config.randomByte d.free i).toNat),
   if used = 2 ^ 20 then e.reseed else { e with sec := { e.sec with drbgUsed := used } })

end Sys2Proof.Machine
end

