-- ==== Sys2Proof/Machine/Firmware.lean ====
section
/-! DEFINITION. Armature firmware (chapter 09): inboxes and command windows, messages, watchdogs, restart, start-up, update. -/
namespace Sys2Proof.Machine
open Sys2Proof

/-! ## Dispatch (R354, R356) -/

def opcodeOf (x : Desc) : Nat := wf x.w0 0 16

/-- The core that serves a command entry (R354); none for a command of a fixed-function engine, or where no plan core is left. -/
def Chip.servingCore (d : Chip) (x : Desc) : Option Nat :=
  let op := opcodeOf x
  if (0x0101 ≤ op ∧ op ≤ 0x0103) ∨ op = 0x0203 ∨ op = 0x0204 ∨ (0x0501 ≤ op ∧ op ≤ 0x0503) then some (d.roleCore 0)
  else if 0x0601 ≤ op ∧ op ≤ 0x07FF then some (d.roleCore 1)
  else if 0x0B00 ≤ op ∧ op ≤ 0x0BFF then some (d.roleCore 2)
  else if op = 0x0201 then d.groupCore (d.desc x.w1.toNat).gId
  else if op = 0x0202 then d.groupCore (wf x.w1 0 16)
  else none

/-- COMMAND_DISPATCH: a fetched command is put into its serving core's inbox; a collective ring's request goes to its group's
core. The ring stays in hand until the core decides. -/
def commandDispatch (d : Chip) (ring : Nat) (x : Desc) : Chip :=
  if !d.fetched.contains ring then d
  else
    match if d.rg (Reg.HIF_RING.KIND ring) = 2 then d.groupCore x.cGroup else d.servingCore x with
    | some n => d.inboxPut n x 0 ring (d.ringFn ring) 1
    | none => d

def execCommandDispatch (ring : Nat) (entry : Desc) (s : State) : Out := s.on (fun d => commandDispatch d (ring % 2048) entry)

/-- The body of an ARMATURE plan step put into its serving core's inbox (R706); no step is taken while no plan core is left. Of a core
halted for debug the step counts as an overrun (R669). A step that finds the inbox full is dropped and counts as an overrun (DESIGN
CHOICE, log entry 69: R706 does not say). -/
def Chip.armStep (d : Chip) (plan step slot : Nat) (x : Desc) : Chip :=
  match d.groupCore (plan + step) with
  | none => d
  | some n =>
    let late (d : Chip) : Chip := d.updPlan plan (fun q => { q with overran := true })
    let d := if d.flag (Reg.OBS_DBG_CTRL.HALTED n) then late d else d
    match (List.range 256).find? (fun i => d.inboxFlags n i % 2 = 0) with
    | none => late d
    | some i =>
      { d.inboxPut n x 0 0xFFFF 0xFF 1 with fw := { d.fw with stepPlan := tput d.fw.stepPlan (n * 256 + i) (plan, slot) } }

/-! ## The command window (R357, R358, R360) -/

/-- RESULT with DONE and DOORBELL. -/
def Chip.cmdResult (d : Chip) (n code : Nat) : Chip := (d.sr (Reg.AMT_CMD.RESULT n) (2 ^ 63 + code)).pend n 2

/-- The kind of item a command entry is. -/
def Chip.entryKind (d : Chip) (ring : Nat) (x : Desc) : ItemKind :=
  if ring < 2048 ∧ d.rg (Reg.HIF_RING.KIND ring) = 2 then .coll else .general (opcodeOf x)

/-- An undecided inbox entry of core n: its origin, where the ring still waits for the decision or the entry is a plan step's. -/
def Chip.inboxOrigin (d : Chip) (n i : Nat) : Option Origin :=
  let a := inboxAddr n i
  let ring := d.num (a + 72) 2
  if d.inboxFlags n i % 2 = 0 ∨ d.num (a + 64) 8 ≠ 0 then none
  else if ring = 0xFFFF then some (.core ⟨n % 16, by omega⟩ 256)
  else if d.fetched.contains ring then some (.ring ring) else none

/-- The tag of a command entry: bits 63:32 of a general command's first word, or of a collective request. -/
def Chip.entryTag (d : Chip) (ring : Nat) (x : Desc) : Nat :=
  if ring < 2048 ∧ d.rg (Reg.HIF_RING.KIND ring) = 2 then x.cTag else wf x.w0 32 32

/-- The inbox entry `i` accepted for core n (R357), or kept waiting while the core holds 4,096 items (R360) or the item cannot be admitted. -/
def acceptEntry (d : Chip) (n i : Nat) : Chip :=
  match d.inboxOrigin n i with
  | none => d.cmdResult n Code.ACCESS_VIOLATION
  | some o =>
    let a := inboxAddr n i
    let ring := d.num (a + 72) 2
    let (plan, slot) := (tget d.fw.stepPlan (n * 256 + i)).getD (0, 1024)
    let isStep := ring = 0xFFFF
    let dom : Domain := if isStep then .plan plan else .ring ring
    if d.heldBy n ≥ 4096 ∨ !d.admits dom then { d with fw := { d.fw with accepting := tput d.fw.accepting n i } }
    else
      let x := d.desc a
      let d : Chip := { d.dropHand o with
        fw := { d.fw with stepPlan := tdel d.fw.stepPlan (n * 256 + i), accepting := tdel d.fw.accepting n }
        tck := { d.tck with fired := if isStep then tput d.tck.fired slot d.led.nextSeq else d.tck.fired } }
      let d := (d.accept ⟨dom, d.entryTag ring x, if isStep then plan else 0, o, d.originFn o, 0x40 + n,
        d.entryKind ring x, x, none⟩ .running).taken o
      (d.wrNum (a + 64) 8 d.lastSeq).sr (Reg.AMT_CMD.ACCEPTED_SEQ n) d.lastSeq |>.cmdResult n Code.OK

/-- ACCEPT: the operation starts with DONE clear. -/
def cmdAccept (d : Chip) (n : Nat) : Chip := acceptEntry (d.sr (Reg.AMT_CMD.RESULT n) 0) n (d.rg (Reg.AMT_CMD.SEQ n) % 256)

/-- The ACCEPTs that wait tried again. -/
def Chip.acceptsGo (d : Chip) : Chip := d.fw.accepting.foldl (fun (d : Chip) e => acceptEntry d e.1 e.2) d

def execAccept (n : Fin 16) (s : State) : Out := s.on (fun d => cmdAccept d n)

/-- REFUSE: a reply with sequence 0, and the entry is free. -/
def cmdRefuse (d : Chip) (n : Nat) : Chip :=
  let i := d.rg (Reg.AMT_CMD.SEQ n) % 256
  let code := d.rg (Reg.AMT_CMD.CODE n)
  let v := d.rg (Reg.AMT_CMD.REPLY n)
  let d := (d.sr (Reg.AMT_CMD.RESULT n) 0).sr (Reg.AMT_CMD.ACCEPTED_SEQ n) 0
  match d.inboxOrigin n i with
  | none => d.cmdResult n Code.ACCESS_VIOLATION
  | some o =>
    let a := inboxAddr n i
    let ring := d.num (a + 72) 2
    let tag := d.entryTag ring (d.desc a)
    let d := (d.dropHand o).inboxClear n i
    let d := if ring = 0xFFFF then
        d.coreReply n none ⟨0, code, tag, 0, false, d.single, false, false, v % 2 ^ 64, v / 2 ^ 64⟩
      else d.refuse ⟨o, BitVec.ofNat 32 tag⟩ code (v % 2 ^ 64) (v / 2 ^ 64)
    d.drainPlans.cmdResult n Code.OK

def execRefuse (n : Fin 16) (s : State) : Out := s.on (fun d => cmdRefuse d n)

/-- The codes that R53 and the chapters mark "none; sequence 0". -/
def refusalCode (c : Nat) : Bool :=
  [0x0003, 0x0007, 0x0009, 0x000A, 0x0202, 0x0203, 0x0204, 0x0402, 0x0403, 0x0404, 0x0405, 0x0503, 0x0504, 0x0505, 0x0507,
   0x0602, 0x0603, 0x0701, 0x0702, 0x0703, 0x0704, 0x0901, 0x0904, 0x0905, 0x0A01, 0x0A02, 0x0C01, 0x0C02, 0x0C04].contains c ||
  (0x0220 ≤ c && c ≤ 0x0227) || (0x0301 ≤ c && c ≤ 0x030A) || (0x0801 ≤ c && c ≤ 0x0808) || (0x0B01 ≤ c && c ≤ 0x0B04) ||
  (0x0D01 ≤ c && c ≤ 0x0D04) || (0x0101 ≤ c && c ≤ 0x0107)

/-- END: the code says which end state the item takes (R53); DEFERRED is an intermediate reply, and the item goes on. A CODE that is valid
only with REFUSE has no effect, and RESULT is ACCESS_VIOLATION; the 33rd write that R358 discards is a 33rd END (DESIGN CHOICE, log entry 85). -/
def cmdEnd (d : Chip) (n : Nat) : Chip :=
  let seq := d.rg (Reg.AMT_CMD.SEQ n)
  let code := d.rg (Reg.AMT_CMD.CODE n)
  let v := d.rg (Reg.AMT_CMD.REPLY n)
  let redo := d.rg (Reg.AMT_CMD.REDO n)
  let d := (d.sr (Reg.AMT_CMD.RESULT n) 0).sr (Reg.AMT_CMD.ACCEPTED_SEQ n) 0
  match d.item seq with
  | none => d.cmdResult n Code.ACCESS_VIOLATION
  | some i =>
    if i.owner ≠ 0x40 + n ∨ i.state = .committed ∨ refusalCode code then d.cmdResult n Code.ACCESS_VIOLATION
    else if i.state = .withdrawn then (d.inboxEnded n seq true).cmdResult n Code.WITHDRAWN
    else if (d.fw.ends.filter (fun e => e.1 = n)).length ≥ 32 then d.cmdResult n Code.FW_BUSY
    else
      let lo := v % 2 ^ 64
      let hi := v / 2 ^ 64
      if code = Code.DEFERRED then (d.oweMore seq code lo hi).cmdResult n Code.OK
      else if code = Code.OK ∨ code = Code.POISONED_DATA ∨ code = Code.ALREADY_DONE then
        let d := if redo = 0 then d else d.updItem seq (fun i => { i with redoRec := some (d.desc redo) })
        let d : Chip := { d with fw := { d.fw with ends := d.fw.ends ++ [(n, seq)] } }
        d.finish seq code lo hi
      else ((d.endItem seq .withdrawn code lo hi).inboxEnded n seq true).cmdResult n Code.OK

def execEndItem (n : Fin 16) (s : State) : Out := s.on (fun d => cmdEnd d n)

/-! ## Messages and watchdogs (R361, R364) -/

/-- AMT_MSG of a core written (R361); bits 63 and 62 of AC0's word are the fault hub's, and no write sets them (R622). -/
def writeMsg (d : Chip) (n v : Nat) : Chip :=
  let v := v % 2 ^ 64 % (if n = 0 then 2 ^ 62 else 2 ^ 64)
  (d.mr (Reg.AMT_MSG.BITS n) (fun x => x ||| v)).pend n 3

def execAmtMsg (n : Fin 16) (value : Word) (s : State) : Out := s.on (fun d => writeMsg d n value.toNat)

def pet (d : Chip) (n : Nat) : Chip := { d with fw := { d.fw with pets := tput d.fw.pets n d.tick } }

def execAmtWdogPet (n : Fin 16) (s : State) : Out := s.on (fun d => pet d n)

/-- Ticks that pass in a number of microseconds, rounded up (PERIOD counts quarters of a microsecond, R55). -/
def Chip.usTicks (d : Chip) (us : Nat) : Nat := ceilDiv (us * 4) (max (d.rg Reg.TCK_PERIOD.PERIOD) 1)

/-- AC_WDOG: void while the last pet is younger than LIMIT in whole ticks, or the core does not run. -/
def execAcWdog (n : Fin 16) (s : State) : Out :=
  s.on (fun d =>
    let young : Bool := match tget d.fw.pets n with
      | some t => decide (d.tick - t < d.usTicks (d.rg Reg.AMT_WDOG_CFG.LIMIT) - 1)
      | none => false
    if !d.coreRuns n ∨ young then d else (d.fault (Src.AC_WDOG n)).crash n)

/-! ## The image store and restart (R353, R364, R366, R375) -/

def imageBase (half : Bool) : Nat := 0x10_5800_0000 + if half then 0x200_0000 else 0
def stagingBase : Nat := 0x10_5C00_0000

/-- The image a core restarts from: the incoming one once it has switched during a live activation (R375). -/
def Chip.coreImage (d : Chip) (n : Nat) : Nat :=
  let act := d.rg Reg.AMT_FW_STATE.ACT
  imageBase (d.fw.swapped != ((act = 2 || act = 3) && d.fw.actMode = 1 && d.fw.next < n))

/-- A section's bytes in the image, or from the flash slot in use where the copy fails its CRC or reads as poisoned. -/
def Chip.sectionBytes (d : Chip) (base : Nat) (x : FwSection) : List Nat × Bool :=
  let b := d.bytes (base + x.off) x.len
  if crc32c b = x.crc ∧ !d.anyPoison (base + x.off) x.len then (b, true)
  else (d.flashBytes (d.rg Reg.AMT_FW_STATE.SOURCE % 2) (slotOff (d.rg Reg.AMT_FW_STATE.ACTIVE) + x.off) x.len, false)

/-- A section loaded to its place; words of local memory carry INT. -/
def Chip.loadSection (d : Chip) (n base : Nat) (x : FwSection) : Chip :=
  let (b, ok) := d.sectionBytes base x
  let d := if ok then d else d.fault (Src.AC_IMAGE_CRC n)
  (d.wr x.dest b).tagInt x.dest x.len

/-- The host items of a resume list presented again in the inbox (R366). -/
def Chip.present (d : Chip) (n : Nat) (seqs : List Nat) : Chip :=
  seqs.foldl (fun (d : Chip) q =>
    match d.item q with
    | some i =>
      let there := (List.range 256).any (fun k => d.inboxFlags n k % 2 = 1 && d.num (inboxAddr n k + 64) 8 = q)
      match i.origin with
      | .ring r => if there then d else d.inboxPut n i.body q r (d.ringFn r) 3
      | _ => d
    | none => d) d

/-- A core reset and started at its ENTRY from an image: registers, tags and handles cleared, CODE loaded, shared sections checked
and recopied on mismatch, the resume list written, the cause in SCR0 (its encoding is not stated: a free value). -/
def Chip.coreReload (d : Chip) (n base : Nat) : Chip :=
  let rd (o : Nat) : Nat := d.byteAt (base + o)
  let h := fwHead rd
  let r := h.roles.getD n ⟨0, 0, 0⟩
  let c := d.core n
  let c' : ArmCore := {
    wmask := r.wmask, released := true, rplIdx := c.rplIdx, crashes := c.crashes,
    ipend := (if bitOf c.ipend 4 then 16 else 0),
    pc := BitVec.ofNat 64 (localBase n + 4 * r.entry), scr0 := ⟨Config.freeWord d.free, .int⟩ }
  let d := { d.takeFree with fw := { d.fw with accepting := tdel d.fw.accepting n } }.setCore n c'
  let d := match h.secs[r.code]? with
    | some x => d.loadSection n base x
    | none => d
  let d := (h.secs.filter (fun x => (sectionCore x).isNone)).foldl (fun (d : Chip) x =>
    if crc32c (d.bytes x.dest x.len) = x.crc then d else d.loadSection n base x) d
  let seqs := (d.resumeSeqs n).take 4096
  let d := d.wr (0x1_04F0_0000 + n * 0x8000) (seqs.flatMap (leBytes 8))
  let d := (d.sr (Reg.AMT_CORE_STATE.RESUME n) seqs.length).sr (Reg.AMT_CORE_STATE.STATE n) 0
  let d := (d.sr (Reg.OBS_DBG_CTRL.HALTED n) 0).setAgentRec (.ac ⟨n % 16, by omega⟩) {}
  ((pet d n).present n seqs).collsGo

/-- CORE_RESTART_COMPLETE: void unless the core has crashed or its restart sequence has begun. -/
def execCoreRestartComplete (n : Fin 16) (s : State) : Out :=
  s.on (fun d =>
    let st := d.rg (Reg.AMT_CORE_STATE.STATE n)
    if (st = 1 ∨ st = 3 ∨ st = 4) ∧ !d.flag (Reg.OBS_DBG_CTRL.HALTED n) ∧ (d.core n).released then
      (d.coreGiveBack n).coreReload n (d.coreImage n)
    else d)

/-- CORE_RESTART and CORE_RETIRE of the AMT agent: AC0 issues them, neither names AC0 (R376). -/
def execCoreRestart (n : Fin 16) (s : State) : Out :=
  s.on (fun d =>
    if n = 0 ∨ d.rg (Reg.AMT_CORE_STATE.STATE n) = 6 then d.answered (.ac n) false else (d.crash n).answered (.ac n) true)

def execCoreRetire (n : Fin 16) (s : State) : Out :=
  s.on (fun d =>
    if n = 0 ∨ d.rg (Reg.AMT_CORE_STATE.STATE n) = 6 then d.answered (.ac n) false else (d.retireAc n).answered (.ac n) true)

/-! ## Start-up (R352) -/

/-- An image that passes R586 and R350 in a flash slot: its length and digest. -/
def Chip.slotImage (d : Chip) (dev slot : Nat) : Option (Nat × List Nat) :=
  let rd (o : Nat) : Nat := d.flashByte dev (slotOff slot + o)
  match d.verifyImg rd 3 slotSize with
  | .bad _ => none
  | .ok len _ digest => if fwOk rd (fwHead rd) then some (len, digest) else none

/-- The registers and the identity that follow the running image. -/
def Chip.nowRunning (d : Chip) (h : FwHead) (slot source : Nat) (digest : List Nat) : Chip :=
  let d := ((d.sr Reg.AMT_FW_VERSION.VERSION h.version).sr Reg.AMT_FW_IFACE.IFACE h.iface)
  let d := ((d.sr Reg.AMT_FW_STATE.ACTIVE slot).sr Reg.AMT_FW_STATE.SOURCE source)
  { d with sec := { d.sec with fwDigest := digest } }

/-- The first image that passes is copied into the running part, its sections to their places, and the cores released that are
not retired; none passing, the device enters the safe state. -/
def Chip.firmwareStart (d : Chip) : Chip :=
  let br := d.bootRec.getD ⟨0, 0, 0⟩
  let a := br.active % 2
  let try4 : List (Nat × Nat) := [(0, a), (1, a), (0, 1 - a), (1, 1 - a)]
  match try4.zipIdx.findSome? (fun (p : (Nat × Nat) × Nat) => (d.slotImage p.1.1 p.1.2).map (fun i => (p.1, p.2, i))) with
  | none => ((List.range 4).foldl (fun (d : Chip) _ => d.fault Src.SEC_AUTH) d).enterSafe 0x3FF true
  | some ((dev, slot), source, (len, digest)) =>
    let d := (List.range source).foldl (fun (d : Chip) _ => d.fault Src.SEC_AUTH) d
    let d := d.sr Reg.AMT_FW_STATE.STAGED br.state
    let d := if source = 0 then d else (d.note clsFirmware).fault (Src.FW_FALLBACK 0)
    let waits := (d.item d.fw.actSeq).any (fun i => !i.state.ended)
    let d : Chip := { d with fw := { d.fw with swapped := false, actSeq := if waits then d.fw.actSeq else 0 } }.sr Reg.AMT_FW_STATE.ACT
      (b2n waits)
    let base := imageBase false
    let bs := d.flashBytes dev (slotOff slot) len
    let d := d.writeRange base (bs.map (fun b => (b, false)))
    let h := fwHead (fun o => bs.getD o 0)
    let d := d.nowRunning h slot source digest
    let d := h.secs.foldl (fun (d : Chip) x => d.loadSection 0 base x) d
    (List.range 16).foldl (fun (d : Chip) n =>
      if d.rg (Reg.AMT_CORE_STATE.STATE n) = 6 then d else d.coreReload n base) d

/-- FIRMWARE_START: void before the Maquette is applied, in the safe state, and while firmware runs. -/
def execFirmwareStart (s : State) : Out :=
  s.on (fun d => if !d.flag Reg.PCR_STATE.MAQ_LOADED ∨ d.flag Reg.FLT_SAFE.SAFE ∨ (d.core 0).released then d else d.firmwareStart)

/-! ## Download, staging and activation (R370 to R375) -/

def mib32 : Nat := 0x200_0000

/-- FW_DOWNLOAD: the poison of the source goes with its bytes. -/
def fwDownload (d : Chip) (src : Submit) (from_ off len : Nat) : Chip :=
  if off % 4096 ≠ 0 ∨ len % 4096 ≠ 0 ∨ len > 0x40_0000 then d.refuse src Code.FW_RANGE
  else if off + len > mib32 then d.refuse src Code.LENGTH_OVER
  else if !d.accessOk (d.originFn src.origin) from_ len false then d.refuse src Code.ACCESS_VIOLATION
  else
    let d := d.acceptCmd src (.general 0x0501) (genBody 0x0501 src [from_, off + len * 2 ^ 32]) (d.originDomain src.origin)
      (0x40 + d.roleCore 0)
    let d := d.noteRead from_ len
    let b := d.lineRead from_ len
    let lost := d.writeLost (stagingBase + off) len
    let d := d.writeRange (stagingBase + off) b
    d.finish d.lastSeq (if lost || b.any (·.2) then Code.POISONED_DATA else Code.OK)

def execFwDownload (src : Submit) (from_ off len : Nat) (s : State) : Out :=
  s.on (fun d => d.served 0 (fun d => d.submit src .amt false (fun d => fwDownload d src from_ (off % 2 ^ 32) (len % 2 ^ 32))))

/-- The boot record's slot state after a bit is set or cleared. -/
def Chip.slotBit (d : Chip) (slot : Nat) (b : Bool) : Chip :=
  let r := d.bootRec.getD ⟨0, 0, 0⟩
  d.putBootRec r.active (if b then setBitN r.state slot else clrBitN r.state slot)

/-- The commit point of FW_STAGE: the slot's bit is set. -/
def stageCommit (d : Chip) : Chip := d.slotBit (1 - (d.bootRec.getD ⟨0, 0, 0⟩).active % 2) true

/-- FW_STAGE; `flashOk` says whether each write reads back within three tries. -/
def fwStage (d : Chip) (src : Submit) (len : Nat) (flashOk : Bool) : Chip :=
  if d.fw.actSeq ≠ 0 then d.refuse src Code.FW_BUSY
  else
    let d := d.acceptCmd src (.general 0x0502) (genBody 0x0502 src [len]) (d.originDomain src.origin) (0x40 + d.roleCore 0)
    let q := d.lastSeq
    let rd (o : Nat) : Nat := d.byteAt (stagingBase + o)
    if len > mib32 ∨ d.anyPoison stagingBase len then d.withdraw q Code.FW_BAD_IMAGE
    else match d.verifyImg rd 3 len with
      | .bad c => (d.fault Src.SEC_AUTH).withdraw q c
      | .ok n _ _ =>
        if !fwOk rd (fwHead rd) then d.withdraw q Code.FW_BAD_IMAGE
        else
          let slot := 1 - (d.bootRec.getD ⟨0, 0, 0⟩).active % 2
          let d := d.slotBit slot false
          let img := (List.range n).map rd
          let blk := (List.range 0x2000).map (fun i => rd (len - 0x2000 + i))
          let put (d : Chip) (dev : Nat) : Chip :=
            (d.flashWrite dev (slotOff slot) (img ++ List.replicate (slotSize - 0x2000 - n) 0xFF)).flashWrite dev (slotOff slot + slotSize - 0x2000) blk
          let d := put (put d 0) 1
          if !flashOk then d.withdraw q Code.FW_FLASH
          else
            let d := (List.range (len / 0x40_0000)).foldl (fun (d : Chip) _ => d.oweMore q Code.OK) d
            d.finishWith q stageCommit

def execFwStage (src : Submit) (length : Nat) (flashOk : Bool) (s : State) : Out :=
  s.on (fun d => d.served 0 (fun d => d.submit src .amt false (fun d => fwStage d src (length % 2 ^ 32) flashOk)))

/-- Whether no emergency is in force, nor has been for 256 ticks since one ended (R373). -/
def Chip.calm (d : Chip) : Bool := !d.cal.emergency && (d.cal.ended = 0 || d.tick ≥ d.cal.ended + 256)

/-- The commit point of FW_ACTIVATE: the boot record with ACTIVE equal to SLOT, and the OTP count advanced (R374); with MODE 1 the
image goes into the incoming part and the cores switch from AC15 down. -/
def Chip.activateCommit (d : Chip) : Chip :=
  let q := d.fw.actSeq
  let slot := d.fw.actSlot
  let rd (o : Nat) : Nat := d.flashByte 0 (slotOff slot + o)
  let h := fwHead rd
  let d := d.putBootRec slot ((d.bootRec.map (·.state)).getD 0)
  let d := d.mr Reg.SEC_SVN.FIRMWARE (max h.svn)
  if d.fw.actMode = 0 then
    { d.endItem q .committed Code.OK with fw := { d.fw with actSeq := 0 } }.sr Reg.AMT_FW_STATE.ACT 0
  else
    let d := d.endItem q .committed Code.OK 0 0 false
    let d := d.writeRange (imageBase (!d.fw.swapped)) ((List.range h.len).map (fun i => (rd i, false)))
    { d with fw := { d.fw with next := 15 } }.sr Reg.AMT_FW_STATE.ACT 2

/-- An accepted FW_ACTIVATE goes on: DEFERRED while an emergency is in force, held while a predecessor has not ended (R41). -/
def Chip.activateGo (d : Chip) : Chip :=
  match d.item d.fw.actSeq with
  | none => d
  | some i =>
    if d.cal.emergency then (if d.rg Reg.AMT_FW_STATE.ACT = 1 then d else (d.oweMore i.seq Code.DEFERRED).sr Reg.AMT_FW_STATE.ACT 1)
    else if predsEnded d.led.items i ∧ d.commits then d.activateCommit
    else d.updItem i.seq (fun i => { i with crec := .held })

def fwActivate (d : Chip) (src : Submit) (slot mode : Nat) : Chip :=
  let br := d.bootRec.getD ⟨0, 0, 0⟩
  if mode > 1 then d.refuse src Code.HIF_BAD_CMD
  else if slot > 1 ∨ !bitOf br.state slot ∨ slot = br.active then d.refuse src Code.FW_NOT_STAGED
  else if d.fw.actSeq ≠ 0 then d.refuse src Code.FW_BUSY
  else if mode = 1 ∧ (fwHead (fun o => d.flashByte 0 (slotOff slot + o))).iface ≠ d.rg Reg.AMT_FW_IFACE.IFACE then
    d.refuse src Code.FW_IFACE_CHANGE
  else
    let d := d.acceptCmd src (.general 0x0503) (genBody 0x0503 src [slot + mode * 256]) (d.originDomain src.origin) (0x40 + d.roleCore 0)
    { d with fw := { d.fw with actSeq := d.lastSeq, actSlot := slot, actMode := mode } }.activateGo

def execFwActivate (src : Submit) (slot mode : BitVec 8) (s : State) : Out :=
  s.on (fun d => d.served 0 (fun d => d.submit src .amt false (fun d => fwActivate d src slot.toNat mode.toNat)))

/-- ACTIVATION_DEFERRAL_END: void until 256 ticks have passed without an emergency. -/
def execActivationDeferralEnd (s : State) : Out :=
  s.on (fun d =>
    if !d.calm then d
    else if d.rg Reg.AMT_FW_STATE.ACT = 1 then (d.sr Reg.AMT_FW_STATE.ACT 0).activateGo
    else if d.rg Reg.AMT_FW_STATE.ACT = 3 then d.sr Reg.AMT_FW_STATE.ACT 2
    else d)

/-- The last switch done: the image parts exchange roles and the reply is written. -/
def Chip.activateDone (d : Chip) : Chip :=
  let h := fwHead (fun o => d.byteAt (imageBase (!d.fw.swapped) + o))
  let digest := sha384 (d.bytes (imageBase (!d.fw.swapped)) h.len)
  let q := d.fw.actSeq
  let d := d.nowRunning h d.fw.actSlot 0 digest
  let d : Chip := { d with fw := { d.fw with swapped := !d.fw.swapped, actSeq := 0 } }.sr Reg.AMT_FW_STATE.ACT 0
  match d.item q with
  | some i => d.replyDue i Code.OK 0 0
  | none => d

/-- CORE_SWITCH: the next core in the order AC15 to AC1, then AC0; an emergency pauses the switching before it (R375). -/
def execCoreSwitch (n : Fin 16) (s : State) : Out :=
  s.on (fun d =>
    if d.rg Reg.AMT_FW_STATE.ACT ≠ 2 ∨ n.val ≠ d.fw.next then d
    else if d.cal.emergency then d.sr Reg.AMT_FW_STATE.ACT 3
    else
      let d := if d.rg (Reg.AMT_CORE_STATE.STATE n) = 6 then d else (d.coreGiveBack n).coreReload n (imageBase (!d.fw.swapped))
      if n = 0 then d.activateDone
      else
        let d : Chip := { d with fw := { d.fw with next := n.val - 1 } }
        if d.cal.emergency then d.sr Reg.AMT_FW_STATE.ACT 3 else d)

/-! ## Trace points and the log ring (R362, R363) -/

/-- Whether a trace point is enabled: its bit of the map is set and its level is not above LEVEL; one of level 0 always is. -/
def Chip.pointOn (d : Chip) (p : TracePoint) : Bool :=
  p.level = 0 || (bitOf ((tget d.fw.traceMap (p.point / 32)).getD 0) (p.point % 32) && decide (p.level ≤ d.rg Reg.AMT_LOG_CFG.LEVEL))

def logRecord (tick : Nat) (p : TracePoint) : List Nat :=
  leBytes 8 tick ++ leBytes 2 (p.point % 0x1000) ++ [p.core % 16 + p.level % 16 * 16, min p.args.length 2] ++ leBytes 4 p.seq ++
    leBytes 8 (p.args.getD 0 0) ++ leBytes 8 (p.args.getD 1 0)

/-- A record written to the log ring, with its cost in the core's share of this frame and in the observation of it (R663). -/
def Chip.logWrite (d : Chip) (p : TracePoint) : Chip :=
  let cap := 2 ^ d.rg Reg.AMT_LOG_CFG.SIZE * 0x8000
  let d := d.wr (d.rg Reg.AMT_LOG_CFG.BASE * 0x10_0000 + d.rg Reg.AMT_LOG_HEAD.HEAD % cap * 32) (logRecord d.tick p)
  let d : Chip := { d with
    fw := { d.fw with logCost := tput d.fw.logCost p.core ((tget d.fw.logCost p.core).getD 0 + 24) }
    trc := { d.trc with obsArm := d.trc.obsArm + 24 } }
  d.mr Reg.AMT_LOG_HEAD.HEAD (· + 1)

/-- A trace point reached by firmware: its cost goes to the plan of the work in hand; a record below level 0 is dropped and counted where
the core's records cost more than 3 % of its frame, or observation has used its share. -/
def Chip.tracePoint (d : Chip) (p : TracePoint) : Chip :=
  let on := d.pointOn p
  let d := d.charge (((d.item p.seq).map (·.plan)).getD 0) { arm := if on then 24 else 3 }
  if !on then d
  else if p.level ≠ 0 ∧ ((tget d.fw.logCost p.core).getD 0 * 100 > 3 * (d.F * 4 / 5) ∨ d.obsFull) then
    (d.count Reg.AMT_LOG_DROPS.COUNT).obsDrop
  else d.logWrite p

/-- What the device does where no command waits: ACCEPTs that wait are tried again, and firmware passes the oldest trace point that it has
reached, if any (log entry 58). -/
def Chip.idle (d : Chip) : Chip :=
  let d := d.acceptsGo
  match d.fw.points with
  | [] => d
  | p :: rest => { d with fw := { d.fw with points := rest } }.tracePoint p

end Sys2Proof.Machine
end

