-- ==== Sys2Proof/Machine/Rdma.lean ====
section
/-! DEFINITION. Remote memory access and Dalivitric Transport (chapter 11). -/
namespace Sys2Proof
open Sys2Proof.Machine

/-! ## DVT operation (R411) -/

def Desc.rOp (x : Desc) : Nat := wf x.w0 0 8
def Desc.rNotify (x : Desc) : Nat := wf x.w0 8 1
def Desc.rTag (x : Desc) : Nat := wf x.w0 32 32
def Desc.rLen (x : Desc) : Nat := wf x.w1 0 32
def Desc.rKey (x : Desc) : Nat := wf x.w1 32 32
def Desc.rLocal (x : Desc) : Nat := wf x.w2 0 52
def Desc.rRemote (x : Desc) : Nat := x.w3.toNat
def Desc.rConn (x : Desc) : Nat := wf x.w4 0 20

end Sys2Proof

namespace Sys2Proof.Machine
open Sys2Proof

/-! ## Connections and contexts (R407 to R409) -/

def Chip.conn (d : Chip) (c : Nat) : Option DvtConn := tget d.dvt.conns c

def Chip.syncConns (d : Chip) : Chip := d.sr Reg.DVT_CONN_STATE.OPEN d.dvt.conns.length

def Chip.setConn (d : Chip) (c : Nat) (x : DvtConn) : Chip :=
  { d with dvt := { d.dvt with conns := tput d.dvt.conns c x } }.syncConns

def Chip.updConn (d : Chip) (c : Nat) (f : DvtConn → DvtConn) : Chip := { d with dvt := { d.dvt with conns := tupd d.dvt.conns c f } }

def Chip.delConn (d : Chip) (c : Nat) : Chip := { d with dvt := { d.dvt with conns := tdel d.dvt.conns c } }.syncConns

/-- PSN space of a connection: 24 bits in MODE 2 (R431). -/
def DvtConn.psnMod (c : DvtConn) : Nat := if c.mode = 2 then 2 ^ 24 else 2 ^ 32

/-- Bytes of a full packet: the path MTU in MODE 2. -/
def Chip.mtu (d : Chip) (c : DvtConn) : Nat := if c.mode = 2 then 1024 * 2 ^ (d.rg Reg.DVT_CFG.ROCE_MTU) else 4096

/-- How far a PSN lies above another. -/
def DvtConn.above (c : DvtConn) (p q : Nat) : Nat := (p + c.psnMod - q % c.psnMod) % c.psnMod

/-- A connection's context on the die, counted when it was not; the least recently used leaves (R409). -/
def Chip.ctxIn (d : Chip) (c : Nat) (miss : Bool) : Chip :=
  let d := if miss ∧ !d.dvt.cache.contains c then d.count (Reg.DVT_COUNT.COUNT 6) else d
  let cache := (c :: d.dvt.cache.filter (· ≠ c)).take 32768
  { d with dvt := { d.dvt with cache := cache } }.sr Reg.DVT_CONN_STATE.CACHED cache.length

/-! ## Sending (R405, R416) -/

def DvtConn.pathOf (c : DvtConn) (j : Nat) : DvtPath := (tget c.pathTbl j).getD {}

/-- Packets in flight on a path. -/
def DvtConn.inFlight (c : DvtConn) (j : Nat) : Nat := (c.sent.filter (fun x => x.sends > 0 && x.pkt.path = j)).length

/-- The path with the most free window, ties to the lower index; `skip` is left out where another is OPEN. -/
def DvtConn.bestPath (c : DvtConn) (skip : Option Nat) : Option Nat :=
  let js := (List.range c.paths).filter (fun j => !(c.pathOf j).failed)
  let js := match skip with
    | some k => if js.any (· ≠ k) then js.filter (· ≠ k) else js
    | none => js
  (js.foldl (fun (b : Option (Nat × Nat)) j =>
    let free := (c.pathOf j).window - c.inFlight j
    match b with
    | some (_, f) => if free > f then some (j, free) else b
    | none => some (j, free)) none).map (·.1)

/-- A packet put on its way. -/
def Chip.dvtPut (d : Chip) (c : Nat) (x : DvtConn) (p : DvtPkt) : Chip :=
  { d with dvt := { d.dvt with wire := d.dvt.wire ++
      [(⟨c, x.mode, x.port p.path, (x.sport + p.path) % 65536, { p with dst := x.peerConn }⟩ : DvtOut)] } }.count (Reg.DVT_COUNT.COUNT 0)

/-- The packet as it goes: a WRITE's payload is read from LOCAL at each send (R412). -/
def Chip.fillPkt (d : Chip) (x : DvtSent) : DvtPkt :=
  match x.src with
  | some (a, n) => { x.pkt with
      data := d.bytes a n, flags := if d.anyPoison a n ∧ n ≠ 0 then x.pkt.flags ||| 0x40 else x.pkt.flags }
  | none => x.pkt

/-- Whether a packet's payload lies behind a host link that is stopped (R493, R495). -/
def Chip.sentHeld (d : Chip) (x : DvtSent) : Bool :=
  match x.src with
  | some (a, n) => d.hostHeld a n
  | none => false

/-- The read of a packet's payload where it lies in LOCAL. -/
def Chip.noteSent (d : Chip) (x : DvtSent) : Chip :=
  match x.src with
  | some (a, n) => d.noteRead a n
  | none => d

/-- Unsent packets go while a path has free window; an atomic beyond 64 unacknowledged ones waits (R416, R425). -/
def Chip.dvtPump : Nat → Chip → Nat → Chip
  | 0, d, _ => d
  | k + 1, d, c =>
    match d.conn c with
    | none => d
    | some x =>
      if x.state ≠ .open ∧ x.state ≠ .closing then d
      else match x.sent.find? (fun s => s.sends = 0), x.bestPath none with
        | some s, some j =>
          if x.inFlight j ≥ (x.pathOf j).window ∨ d.sentHeld s then d
          else
            let s' := { s with sends := 1, pkt := { s.pkt with path := j } }
            let d := d.noteSent s'
            let d := d.dvtPut c x (d.fillPkt s')
            Chip.dvtPump k (d.setConn c { x with sent := x.sent.map (fun t => if t.pkt.psn = s.pkt.psn then s' else t) }) c
        | _, _ => d

/-- Packets appended to the sending space, each with the next PSN. -/
def DvtConn.enqueue (x : DvtConn) (ps : List DvtSent) : DvtConn :=
  ps.foldl (fun (x : DvtConn) s =>
    { x with sent := x.sent ++ [{ s with pkt := { s.pkt with psn := x.nextPsn } }], nextPsn := (x.nextPsn + 1) % x.psnMod }) x

/-- Sizes of the packets of a message: full ones, then the remainder; one empty packet for no bytes. -/
def cutSizes (mtu n : Nat) : List Nat :=
  if n = 0 then [0] else (List.range (ceilDiv n mtu)).map (fun k => min mtu (n - k * mtu))

def edgeFlags (k n : Nat) : Nat := (if k = 0 then 1 else 0) + (if k + 1 = n then 6 else 0)

/-- The packets of an operation (R411, R413). -/
def Chip.opPackets (d : Chip) (c : DvtConn) (seq msn : Nat) (x : Desc) : List DvtSent :=
  let base : DvtPkt := ⟨x.rOp, 7, 0, 0, c.peerConn, 0, msn, x.rRemote, x.rKey, x.rLen, []⟩
  match x.rOp with
  | 1 =>
    let sz := cutSizes (d.mtu c) x.rLen
    sz.zipIdx.map (fun p => ⟨{ base with flags := edgeFlags p.2 sz.length + x.rNotify * 0x80, offset := x.rRemote + p.2 * d.mtu c }, seq,
      some (x.rLocal + p.2 * d.mtu c, p.1), 0, none⟩)
  | 4 => [⟨{ base with data := leBytes 8 x.w5.toNat }, seq, none, 0, none⟩]
  | 5 => [⟨{ base with data := leBytes 8 x.w5.toNat ++ leBytes 8 x.w6.toNat }, seq, none, 0, none⟩]
  | _ => [⟨base, seq, none, 0, none⟩]

/-- Atomics of the connection that are not acknowledged. -/
def DvtConn.atomicsOut (c : DvtConn) : Nat := (c.sent.filter (fun s => s.pkt.op = 4 || s.pkt.op = 5)).length

/-- Operations that wait are started in order: message number, PSNs, packets (R425, R426). -/
def Chip.startOps : Nat → Chip → Nat → Chip
  | 0, d, _ => d
  | k + 1, d, c =>
    match d.conn c with
    | none => d
    | some x =>
      match x.todo with
      | [] => d
      | q :: qs =>
        match d.item q with
        | none => Chip.startOps k (d.setConn c { x with todo := qs }) c
        | some i =>
          if (i.body.rOp = 4 ∨ i.body.rOp = 5) ∧ x.atomicsOut ≥ 64 then d
          else
            let ps := d.opPackets x q x.nextMsn i.body
            let first := x.nextPsn
            let x := x.enqueue ps
            let op : DvtOp := ⟨q, first, (x.nextPsn + x.psnMod - 1) % x.psnMod, x.nextMsn, 0, false⟩
            let d := d.setConn c { x with todo := qs, nextMsn := (x.nextMsn + 1) % 2 ^ 32, ops := x.ops ++ [op] }
            Chip.startOps k (d.updItem q (fun i => { i with state := .running })) c

def Chip.dvtGo (d : Chip) (c : Nat) : Chip :=
  let d := Chip.startOps (((d.conn c).map (·.todo.length)).getD 0) d c
  Chip.dvtPump (((d.conn c).map (·.sent.length)).getD 0) d c

/-- Cross-node collective messages handed over by the collective engine: each takes PSNs on its connection (R186, R204). -/
def Chip.dvtTakeColl (d : Chip) : Chip :=
  let ms := d.coll.out
  ms.foldl (fun (d : Chip) m =>
    match d.conn m.conn with
    | none => d
    | some x =>
      let sz := cutSizes (d.mtu x) m.data.length
      let ps := sz.zipIdx.map (fun p =>
        let bs := (m.data.drop (p.2 * d.mtu x)).take p.1
        (⟨⟨m.op, edgeFlags p.2 sz.length + (if bs.any (·.2) then 64 else 0), 0, 0, x.peerConn, 0, x.nextMsn, m.ofs + p.2 * d.mtu x, m.key,
          m.data.length, bs.map (·.1)⟩, 0, none, 0, none⟩ : DvtSent))
      (d.setConn m.conn { x.enqueue ps with nextMsn := (x.nextMsn + 1) % 2 ^ 32 }).dvtGo m.conn)
    { d with coll := { d.coll with out := [] } }

/-! ## Failure (R417, R418) -/

/-- The 32 bytes of CONNECT and CONNECT_ACK: the sender's connection, PSN and path count. -/
def connectBytes (c psn paths : Nat) : List Nat := leBytes 4 c ++ leBytes 4 psn ++ [paths] ++ List.replicate 23 0

/-- A connection in ERROR: its items are withdrawn, and requests of groups it joins with COL_PEER_LOST. -/
def Chip.connError (d : Chip) (c : Nat) : Chip :=
  let d : Chip := { d with coll := { d.coll with open_ := tdel d.coll.open_ c } }
  let d := d.updConn c (fun x => { x with state := .error, sent := [], todo := [], ops := [], staged := [] })
  let d := (d.count (Reg.DVT_COUNT.COUNT 8)).fault Src.DVT_CONN_FAIL c
  let d := (d.led.items.filter (fun i => !i.state.ended && i.domain = .conn c)).foldl
    (fun (d : Chip) i => d.withdraw i.seq Code.DVT_CONN_LOST c) d
  (d.led.items.filter (fun i => i.kind = .coll && !i.state.ended && (match d.group i.body.cGroup with
    | some g => g.gNodes > 1 && (List.range g.gNodes).any (fun q => q ≠ g.gRank && d.num (g.gPeers + 4 * q) 4 = c)
    | none => false))).foldl (fun (d : Chip) i => d.withdraw i.seq Code.COL_PEER_LOST) d

/-- A connection fails: one reconnection, or ERROR at once in MODE 2. -/
def Chip.connFail (d : Chip) (c : Nat) : Chip :=
  match d.conn c with
  | none => d
  | some x =>
    if x.mode = 2 then d.connError c
    else
      let d := d.setConn c { x with state := .reconnecting }
      let got := (x.expected + x.psnMod - 1) % x.psnMod
      d.dvtPut c x ⟨0x20, 0, 0, 0, x.peerConn, got, 0, 0, 0, 0, connectBytes c got x.paths⟩

/-- A path fails; the last one takes the connection with it. -/
def Chip.pathFail (d : Chip) (c j : Nat) : Chip :=
  match d.conn c with
  | none => d
  | some x =>
    let p := x.pathOf j
    if p.failed ∨ j ≥ x.paths then d
    else
      let x := { x with pathTbl := tput x.pathTbl j { p with failed := true, probeAt := d.tick } }
      let d := ((d.setConn c x).count (Reg.DVT_COUNT.COUNT 7)).fault Src.DVT_PATH_FAIL c
      if (List.range x.paths).all (fun k => (x.pathOf k).failed) then d.connFail c else d

/-- Unacknowledged packets sent again, on the path named or the best (R417). -/
def Chip.resendPkts (d : Chip) (c : Nat) (p : DvtSent → Bool) (skip : Option Nat) : Chip :=
  match d.conn c with
  | none => d
  | some x =>
    (x.sent.filter (fun s => p s && s.sends > 0 && !d.sentHeld s)).foldl (fun (d : Chip) s =>
      match d.conn c with
      | none => d
      | some x =>
        let j := (x.bestPath skip).getD s.pkt.path
        let s' := { s with sends := s.sends + 1, pkt := { s.pkt with path := j, flags := s.pkt.flags ||| 0x10 } }
        let d := (d.setConn c { x with sent := x.sent.map (fun t => if t.pkt.psn = s.pkt.psn then s' else t) }).count (Reg.DVT_COUNT.COUNT 2)
        let d := d.noteSent s'
        d.dvtPut c x (d.fillPkt s')) d

/-! ## Acknowledgement (R422) -/

/-- Regions whose revoke has no message in flight left commit it (R430). -/
def Chip.revokeDone (d : Chip) (r cut : Nat) : Chip :=
  match tget d.dvt.regions r with
  | none => d
  | some x =>
    if x.state ≠ 2 ∨ !x.inflight.isEmpty then d
    else
      let g := (tget d.dvt.gens r).getD 0
      let key := r + g * 2 ^ 18
      d.finishWith x.seq (fun d =>
        { d with dvt := { d.dvt with regions := tdel d.dvt.regions r, gens := tput d.dvt.gens r ((g + 1) % 2 ^ 14) } })
        Code.OK (key + cut * 2 ^ 32) d.tick

/-- A message of a region is no longer in flight. -/
def Chip.regionLeft (d : Chip) (r c msn : Nat) : Chip :=
  { d with dvt := { d.dvt with regions := tupd d.dvt.regions r (fun x => { x with inflight := x.inflight.filter (· ≠ (c, msn)) }) } }.revokeDone
    r 0

/-- Bytes 16 to 19 and 20 to 23 of an operation's reply. -/
def opLo (c msn : Nat) : Nat := c + msn * 2 ^ 32

/-- The cumulative acknowledgement advances: packets leave (an atomic stays until its response comes), WRITEs whose last PSN is
covered issue their commit records, windows rise, and the region of an answered READ is left. -/
def Chip.ackUpTo (d : Chip) (c psn : Nat) : Chip :=
  match d.conn c with
  | none => d
  | some x =>
    let n := x.above psn x.acked
    if n ≥ x.psnMod / 2 then d
    else
      let covered (p : Nat) : Bool := x.above p x.acked ≤ n
      let gone := x.sent.filter (fun s => s.sends > 0 && covered s.pkt.psn && s.pkt.op ≠ 4 && s.pkt.op ≠ 5)
      let x' := { x with
        acked := (psn + 1) % x.psnMod
        sent := x.sent.filter (fun s => !(s.sends > 0 && covered s.pkt.psn && s.pkt.op ≠ 4 && s.pkt.op ≠ 5)) }
      let d := d.setConn c x'
      let d := x.ops.foldl (fun (d : Chip) o =>
        match d.item o.seq with
        | some i => if i.body.rOp = 1 ∧ covered o.last then
            d.issueCommit o.seq ⟨if o.poison then Code.POISONED_DATA else Code.OK, opLo c o.msn, 0⟩ else d
        | none => d) d
      gone.foldl (fun (d : Chip) s =>
        match s.region with
        | some (r, m) => if s.pkt.flags / 2 % 2 = 1 then d.regionLeft r c m else d
        | none => d) d

/-- The acknowledgement the device sends: the cumulative PSN, HAVE and NEED; it clears the NEED bits and the path's ECN mark. -/
def Chip.sendAck (d : Chip) (c j : Nat) : Chip :=
  match d.conn c with
  | none => d
  | some x =>
    let last := (x.expected + x.psnMod - 1) % x.psnMod
    let bits (ps : List Nat) : List Nat := leBytes 32 (maskOf (ps.map (fun p => x.above p (last + 1)))) 
    let p := x.pathOf j
    let flags := (if p.ecn then 8 else 0) + if x.need.isEmpty then 0 else 0x20
    let d := if p.ecn then d.count (Reg.DVT_COUNT.COUNT 12) else d
    let d := d.setConn c { x with need := [], pathTbl := tput x.pathTbl j { p with ecn := false } }
    d.dvtPut c x ⟨0x10, flags, j, 0, x.peerConn, last, 0, 0, 0, 0, bits (x.staged.map (·.psn)) ++ bits x.need⟩

/-! ## Regions (R427 to R430) -/

/-- The check of R428: the region, or the CAUSE of the violation. `right` is the bit of RIGHTS needed. -/
def Chip.regionCheck (d : Chip) (c : Nat) (x : DvtConn) (p : DvtPkt) (right n : Nat) : Except Nat (Nat × DvtRegion) :=
  let r := p.rkey % 2 ^ 18
  match tget d.dvt.regions r with
  | none => .error (if (tget d.dvt.gens r).getD 0 ≠ p.rkey / 2 ^ 18 then 2 else 1)
  | some e =>
    if (tget d.dvt.gens r).getD 0 ≠ p.rkey / 2 ^ 18 then .error 2
    else if e.state = 2 ∧ !e.inflight.contains (c, p.msn) then .error 8
    else if e.state ≠ 1 ∧ e.state ≠ 2 then .error 3
    else if e.pd ≠ x.pd then .error 4
    else if !bitOf e.rights right then .error 5
    else if p.offset + n > e.len then .error 6
    else .ok (r, e)

/-- A violation record (R429). -/
def Chip.violRecord (d : Chip) (c side cause op rkey msn offset : Nat) : Chip :=
  let cap := 1024 * 2 ^ (d.rg Reg.DVT_VIOL_RING.SIZE)
  let k := d.rg Reg.DVT_VIOL_HEAD.HEAD
  let b := leBytes 8 d.tick ++ leBytes 4 c ++ [side, cause, op, 0] ++ leBytes 4 rkey ++ leBytes 4 msn ++ leBytes 8 offset
  (d.wr (d.rg Reg.DVT_VIOL_RING.BASE + 32 * (k % cap)) b).mr Reg.DVT_VIOL_HEAD.HEAD (· + 1)

/-- A violation at the responder: nothing is placed; NAK, record, count; MODE 2 enters ERROR (R429, R432). -/
def Chip.violation (d : Chip) (c : Nat) (p : DvtPkt) (cause : Nat) : Chip :=
  match d.conn c with
  | none => d
  | some x =>
    let d := d.dvtPut c x ⟨0x11, 0, p.path, 2, x.peerConn, p.psn, p.msn, p.offset, p.rkey, 0, []⟩
    let d := (d.violRecord c 0 cause p.op p.rkey p.msn p.offset).count (Reg.DVT_COUNT.COUNT 9)
    let d := d.fault Src.DVT_REMOTE_ACCESS c
    if x.mode = 2 then d.connError c else d

/-- A message of a region is in flight from its first checked packet (R430). -/
def Chip.regionIn (d : Chip) (r c msn : Nat) : Chip :=
  { d with dvt := { d.dvt with regions := tupd d.dvt.regions r (fun x =>
      { x with inflight := (c, msn) :: x.inflight.filter (· ≠ (c, msn)) }) } }

/-! ## Placing packets in PSN order (R414, R415, R420 to R425) -/

/-- An arrival record in the notify ring (R415). -/
def Chip.notify (d : Chip) (c msn : Nat) : Chip :=
  d.owe ⟨d.rg Reg.DVT_CFG.NOTIFY_RING, Code.OK, 0, 0, false, d.single, false, false, msn + c * 2 ^ 32, 0⟩

/-- A WRITE packet placed. -/
def placeWrite (d : Chip) (c : Nat) (x : DvtConn) (p : DvtPkt) : Chip :=
  match d.regionCheck c x p 1 p.data.length with
  | .error cause => d.violation c p cause
  | .ok (r, e) =>
    let d := d.regionIn r c p.msn
    let d := d.writeRange (e.base + p.offset) (p.data.map (fun b => (b, bitOf p.flags 6)))
    let got := ((tget x.incoming p.msn).map (·.2)).getD 0 + p.data.length
    let done := got ≥ p.msgBytes
    let d := d.updConn c (fun x => { x with incoming := if done then tdel x.incoming p.msn else tput x.incoming p.msn (r, got) })
    if done then
      let d := d.regionLeft r c p.msn
      if bitOf p.flags 7 then d.notify c p.msn else d
    else d

/-- A READ_REQ answered with READ_RESP packets, POISON set where the source is poisoned. -/
def placeRead (d : Chip) (c : Nat) (x : DvtConn) (p : DvtPkt) : Chip :=
  match d.regionCheck c x p 0 p.msgBytes with
  | .error cause => d.violation c p cause
  | .ok (r, e) =>
    let d := (d.regionIn r c p.msn).noteRead (e.base + p.offset) p.msgBytes
    let sz := cutSizes (d.mtu x) p.msgBytes
    let ps := sz.zipIdx.map (fun s =>
      let o := s.2 * d.mtu x
      let a := e.base + p.offset + o
      (⟨⟨3, edgeFlags s.2 sz.length + (if s.1 ≠ 0 ∧ d.anyPoison a s.1 then 0x40 else 0), 0, 0, x.peerConn, 0, p.msn, p.offset + o, p.rkey,
        p.msgBytes, d.bytes a s.1⟩, 0, none, 0, some (r, p.msn)⟩ : DvtSent))
    d.updConn c (fun x => x.enqueue ps)

/-- The new word of an atomic. -/
def atomicNew (op old : Nat) (data : List Nat) : Nat :=
  let a := leNat (data.take 8)
  if op = 4 then (old + a) % 2 ^ 64 else if old = a then leNat ((data.drop 8).take 8) else old

/-- The body of a responder atomic's item: opcode and path, PSN and message, target, operands and region. -/
def atomicBody (op path psn msn a r : Nat) (data : List Nat) : Desc :=
  descOf [op + path * 2 ^ 8, psn + msn * 2 ^ 32, a, leNat (data.take 8), leNat ((data.drop 8).take 8), r]

/-- The redo record of an atomic (R38, R424): its body with the old value, which is the result, and the new word in place of the
operands; its one plain write puts the new word at the target. -/
def atomicRecord (b : Desc) (old : Nat) : Desc :=
  { b with w3 := BitVec.ofNat 64 old
           w4 := BitVec.ofNat 64 (atomicNew (wf b.w0 0 8) old (leBytes 8 b.w3.toNat ++ leBytes 8 b.w4.toNat)) }

/-- The record of a committed atomic applied: the word changes, the result is kept, ATOMIC_RESP goes out (R424, R425). -/
def Chip.atomicApply (d : Chip) (c : Nat) (r : Desc) : Chip :=
  let psn := wf r.w1 0 32
  let msn := wf r.w1 32 32
  let old := r.w3.toNat
  let d := (d.wrNum r.w2.toNat 8 r.w4.toNat).updConn c (fun x => { x with atomics := ((psn, old) :: x.atomics).take 64 })
  let d := match d.conn c with
    | some x => d.dvtPut c x ⟨6, 3, wf r.w0 8 8, 0, x.peerConn, psn, msn, 0, 0, 8, leBytes 8 old⟩
    | none => d
  d.regionLeft r.w5.toNat c msn

/-- The commit of an atomic: its redo record is written from the word as it stands then, and applied. -/
def Chip.atomicCommit (d : Chip) (c seq : Nat) (b : Desc) : Chip :=
  let r := atomicRecord b (d.num b.w2.toNat 8)
  (d.updItem seq (fun i => { i with redoRec := some r })).atomicApply c r

/-- An atomic executed as a ledger item of its own. -/
def placeAtomic (d : Chip) (c : Nat) (x : DvtConn) (p : DvtPkt) : Chip :=
  match d.regionCheck c x p 2 8 with
  | .error cause => d.violation c p cause
  | .ok (r, e) =>
    let a := e.base + p.offset
    if a % 8 ≠ 0 ∨ !((isPlinth a && !deviceOwned a 8) || isNear a) then d.violation c p 7
    else
      let d := d.regionIn r c p.msn
      let b := atomicBody p.op p.path p.psn p.msn a r p.data
      let d := d.accept ⟨.conn c, 0, 0, .internal, 0x200, 0x53, .atomic c p.psn, b, none⟩
      let q := d.lastSeq
      d.finishWith q (fun d => d.atomicCommit c q b)

/-- A READ_RESP placed in LOCAL; the last one commits the item. -/
def placeResp (d : Chip) (c : Nat) (x : DvtConn) (p : DvtPkt) : Chip :=
  match x.ops.find? (fun o => o.msn = p.msn) with
  | none => d
  | some o =>
    match d.item o.seq with
    | none => d
    | some i =>
      if i.state.ended ∨ i.body.rOp ≠ 2 then d
      else
        let poison := bitOf p.flags 6
        let a := i.body.rLocal + (p.offset - i.body.rRemote)
        let lost := d.writeLost a p.data.length
        let d := d.writeRange a (p.data.map (fun b => (b, poison)))
        let o' := { o with got := o.got + p.data.length, poison := o.poison || poison || lost }
        let d := d.updConn c (fun x => { x with ops := x.ops.map (fun y => if y.seq = o.seq then o' else y) })
        if o'.got ≥ i.body.rLen then
          d.issueCommit o.seq ⟨if o'.poison then Code.POISONED_DATA else Code.OK, opLo c o.msn, 0⟩
        else d

/-- The packet at EXPECTED taken, and EXPECTED advanced. -/
def Chip.placePkt (d : Chip) (c : Nat) (p : DvtPkt) : Chip :=
  match d.conn c with
  | none => d
  | some x =>
    let d := d.setConn c { x with expected := (x.expected + 1) % x.psnMod }
    match p.op with
    | 1 => placeWrite d c x p
    | 2 => placeRead d c x p
    | 3 => placeResp d c x p
    | 4 => placeAtomic d c x p
    | 5 => placeAtomic d c x p
    | 8 => collPacket d c p
    | 9 => collAbort d c p.rkey (leNat (p.data.take 4))
    | _ => d

/-- Whether a packet's placement waits for a host link that is stopped (R493, R495): its target, or a READ's source, lies in a host window
then. The packet is then left unacknowledged, so that it is sent again (log entry 91). -/
def Chip.placeHeld (d : Chip) (x : DvtConn) (p : DvtPkt) : Bool :=
  let target : Option (Nat × Nat) := match p.op with
    | 1 | 2 => (tget d.dvt.regions (p.rkey % 2 ^ 18)).map (fun e => (e.base + p.offset, if p.op = 1 then p.data.length else p.msgBytes))
    | 3 => (x.ops.find? (fun o => o.msn = p.msn)).bind (fun o => (d.item o.seq).map (fun i =>
        (i.body.rLocal + (p.offset - i.body.rRemote), p.data.length)))
    | _ => none
  (target.map (fun t => d.hostHeld t.1 t.2)).getD false

/-- Cells a staged packet occupies. -/
def pktCells (p : DvtPkt) : Nat := max 1 (ceilDiv p.data.length 4096)

/-- Staged packets from EXPECTED onward copied out in PSN order. -/
def Chip.unstage : Nat → Chip → Nat → Chip
  | 0, d, _ => d
  | k + 1, d, c =>
    match d.conn c with
    | none => d
    | some x =>
      match x.staged.find? (fun p => p.psn = x.expected) with
      | none => d
      | some p =>
        if d.placeHeld x p then d else
        let d := d.setConn c { x with staged := x.staged.filter (fun q => q.psn ≠ p.psn) }
        Chip.unstage k ((d.mr Reg.DVT_REORDER_CFG.FREE (· + pktCells p)).placePkt c p) c

/-- A packet above EXPECTED staged, or dropped with its NEED bit set (R420). -/
def Chip.stage (d : Chip) (c : Nat) (x : DvtConn) (p : DvtPkt) : Chip :=
  if x.staged.any (fun q => q.psn = p.psn) then d
  else
    let budget := if x.budget = 0 then d.rg Reg.DVT_REORDER_CFG.BUDGET else x.budget
    let used := (x.staged.map pktCells).foldl (· + ·) 0
    let free := d.rg Reg.DVT_REORDER_CFG.FREE
    if (used + pktCells p) * 4 ≤ budget ∧ pktCells p ≤ free then
      ((d.setConn c { x with staged := x.staged ++ [p] }).sr Reg.DVT_REORDER_CFG.FREE (free - pktCells p)).count (Reg.DVT_COUNT.COUNT 3)
    else
      let d := if pktCells p ≤ free then d else d.fault Src.DVT_REORDER_FULL c
      let d := (d.setConn c { x with need := insNat p.psn x.need }).count (Reg.DVT_COUNT.COUNT 4)
      d.sendAck c p.path

/-! ## Received packets (R406, R420) -/

/-- A dropped packet, with or without DVT_PROTOCOL. -/
def Chip.dvtDrop (d : Chip) (raise : Bool) (detail : Nat) : Chip :=
  let d := d.count (Reg.DVT_COUNT.COUNT 5)
  if raise then d.fault Src.DVT_PROTOCOL detail else d

/-- Bytes of a message's last packet: the remainder. -/
def lastBytes (mtu n : Nat) : Nat := if n = 0 then 0 else (n - 1) % mtu + 1

/-- Whether a packet's payload has the length its header gives it (R403). -/
def lengthOk (mtu : Nat) (p : DvtPkt) : Bool :=
  match p.op with
  | 2 => p.data.isEmpty
  | 7 => p.data.isEmpty
  | 4 => p.data.length = 8
  | 5 => p.data.length = 16
  | 9 => p.data.length = 8
  | _ => p.data.length = if bitOf p.flags 1 then lastBytes mtu p.msgBytes else mtu

def Chip.dvtUp (d : Chip) : Bool := d.running .dvt && !(d.agentRec (.block .dvt)).fencing

/-- The common way of a received packet; a fenced block drops it, and so does a full ledger a packet that would start an atomic. -/
def Chip.dvtRx (d : Chip) (c : Nat) (bad : Bool) (k : Chip → DvtConn → Chip) : Chip :=
  if !d.dvtUp then d
  else
    let d := d.dvtTakeColl.count (Reg.DVT_COUNT.COUNT 1)
    match d.conn c with
    | none => d.dvtDrop true c
    | some x =>
      if bad ∨ (x.state ≠ .open ∧ x.state ≠ .closing) then d.dvtDrop true c
      else
        let fill := !d.dvt.cache.contains c
        let d := d.ctxIn c true
        if fill ∧ d.anyPoison (d.rg Reg.DVT_CTX_BASE.BASE + 256 * c) 256 then (d.fault Src.DVT_CTX_POISON c).connError c
        else (k d x).dvtGo c

/-- A CE mark on a received packet: ECN_ECHO in the path's next ACK (R405); in MODE 2 a CNP (R431, log entry 41). -/
def Chip.ceMark (d : Chip) (c : Nat) (x : DvtConn) (p : DvtPkt) : Chip :=
  if x.mode = 2 then d.dvtPut c x ⟨0x81, 0, p.path, 0, x.peerConn, 0, 0, 0, 0, 0, []⟩
  else d.updConn c (fun x => { x with pathTbl := tput x.pathTbl p.path { x.pathOf p.path with ecn := true } })

/-- A data, request or SKIP packet by its PSN (R420). In MODE 2 out-of-order packets are refused, and an opcode RoCEv2 has not got is
answered with NAK invalid request (R432, log entry 41). -/
def Chip.dvtSequenced (d : Chip) (c : Nat) (bad ce : Bool) (p : DvtPkt) : Chip :=
  d.dvtRx c bad (fun d x =>
    if x.mode = 2 ∧ p.op > 5 then d.dvtPut c x ⟨0x11, 0, p.path, 4, x.peerConn, p.psn, p.msn, 0, 0, 0, []⟩
    else if !lengthOk (d.mtu x) p then d.dvtDrop true c
    else if (p.op = 4 ∨ p.op = 5) ∧ !d.admits (.conn c) then d
    else
      let d := if ce then d.ceMark c x p else d
      let x := (d.conn c).getD x
      let n := x.above p.psn x.expected
      if n = 0 then
        if d.placeHeld x p then d else
        let d := Chip.unstage (x.staged.length) (d.placePkt c p) c
        if bitOf p.flags 1 ∨ bitOf p.flags 2 then d.sendAck c p.path else d
      else if n ≥ x.psnMod / 2 then
        (if p.op = 4 ∨ p.op = 5 then
          match x.atomics.find? (fun e => e.1 = p.psn) with
          | some (_, old) => (d.count (Reg.DVT_COUNT.COUNT 11)).dvtPut c x ⟨6, 3, p.path, 0, x.peerConn, p.psn, p.msn, 0, 0, 8, leBytes 8 old⟩
          | none => d.sendAck c p.path
        else d.sendAck c p.path)
      else if x.mode = 2 then d.dvtPut c x ⟨0x11, 0, p.path, 1, x.peerConn, x.expected, p.msn, 0, 0, 0, []⟩
      else if n ≤ 255 then d.stage c x p
      else d.dvtDrop false c)

def pktOf (op : Nat) (h : DvtHead) (data : List (BitVec 8)) : DvtPkt :=
  ⟨op, h.flags.toNat, h.path, h.reason.toNat, h.conn.toNat, h.psn.toNat, h.msn.toNat, h.offset.toNat, h.rkey.toNat, h.msgBytes.toNat,
   data.map (·.toNat)⟩

def Chip.dvtData (d : Chip) (op : Nat) (h : DvtHead) (data : List (BitVec 8)) : Chip := d.dvtSequenced h.conn.toNat h.bad h.ce (pktOf op h data)

def execWritePacket (h : DvtHead) (data : List (BitVec 8)) (s : State) : Out := s.on (fun d => d.dvtData 1 h data)
def execReadReq (h : DvtHead) (s : State) : Out := s.on (fun d => d.dvtData 2 h [])
def execReadResp (h : DvtHead) (data : List (BitVec 8)) (s : State) : Out := s.on (fun d => d.dvtData 3 h data)
def execFaddPacket (h : DvtHead) (addend : Word) (s : State) : Out :=
  s.on (fun d => d.dvtData 4 h ((leBytes 8 addend.toNat).map (BitVec.ofNat 8)))
def execCasPacket (h : DvtHead) (compare swap : Word) (s : State) : Out :=
  s.on (fun d => d.dvtData 5 h ((leBytes 8 compare.toNat ++ leBytes 8 swap.toNat).map (BitVec.ofNat 8)))
def execSkip (h : DvtHead) (s : State) : Out := s.on (fun d => d.dvtData 7 h [])
def execColl (h : DvtHead) (data : List (BitVec 8)) (s : State) : Out := s.on (fun d => d.dvtData 8 h data)
def execCollAbort (h : DvtHead) (tag : BitVec 32) (s : State) : Out :=
  s.on (fun d => d.dvtData 9 h ((leBytes 8 tag.toNat).map (BitVec.ofNat 8)))

/-- ATOMIC_RESP: the old value goes to LOCAL, and the atomic is acknowledged. -/
def atomicResp (d : Chip) (c : Nat) (bad : Bool) (psn value : Nat) : Chip :=
  d.dvtRx c bad (fun d x =>
    match x.sent.find? (fun s => s.pkt.psn = psn && (s.pkt.op = 4 || s.pkt.op = 5) && s.sends > 0) with
    | none => d
    | some s =>
      let d := d.setConn c { x with sent := x.sent.filter (fun t => t.pkt.psn ≠ psn) }
      match d.item s.item, x.ops.find? (fun o => o.seq = s.item) with
      | some i, some o =>
        if i.state.ended then d
        else (d.wrNum i.body.rLocal 8 value).issueCommit i.seq ⟨Code.OK, opLo c o.msn, value⟩
      | _, _ => d)

def execAtomicResp (h : DvtHead) (value : Word) (s : State) : Out :=
  s.on (fun d => atomicResp d h.conn.toNat h.bad h.psn.toNat value.toNat)

/-- ACK: the window of its path falls by half on ECN_ECHO and rises by 1 for a round trip without; its NEED packets go again; a
failed path whose probe it answers returns to service. -/
def ackRx (d : Chip) (c : Nat) (bad : Bool) (flags path psn : Nat) (need : Nat) : Chip :=
  d.dvtRx c bad (fun d x =>
    let p := x.pathOf path
    let trip := x.above psn p.mark < x.psnMod / 2
    let p' := { p with
      timeouts := 0, failed := false
      window := if bitOf flags 3 then max 1 (p.window / 2) else if trip then min 256 (p.window + 1) else p.window
      mark := if bitOf flags 3 ∨ !trip then p.mark else x.nextPsn }
    let d := d.setConn c { x with pathTbl := tput x.pathTbl path p' }
    let d := d.ackUpTo c psn
    if need = 0 then d
    else d.resendPkts c (fun s => (List.range 256).any (fun i => bitOf need i && s.pkt.psn = (psn + 1 + i) % x.psnMod)) none)

def execAck (h : DvtHead) (_have need : BitVec 256) (s : State) : Out :=
  s.on (fun d => ackRx d h.conn.toNat h.bad h.flags.toNat h.path h.psn.toNat need.toNat)

/-- A NAK: 1 and 3 make the sender resend from the PSN it carries; 2 withdraws the message's item (its CAUSE is not carried: a free
value). -/
def nakRx (d : Chip) (c : Nat) (bad : Bool) (reason psn msn : Nat) : Chip :=
  d.dvtRx c bad (fun d x =>
    if reason = 1 ∨ reason = 3 then
      let d := d.ackUpTo c ((psn + x.psnMod - 1) % x.psnMod)
      d.resendPkts c (fun _ => true) none
    else if reason = 2 then
      match x.ops.find? (fun o => o.msn = msn) with
      | none => d
      | some o =>
        match d.item o.seq with
        | none => d
        | some i =>
          let cause := Config.freeNat d.free % 8 + 1
          let d := d.takeFree.withdraw o.seq Code.REMOTE_VIOLATION (opLo c msn)
          let d := (d.violRecord c 1 cause i.body.rOp i.body.rKey msn i.body.rRemote).count (Reg.DVT_COUNT.COUNT 10)
          if x.mode = 2 then d.connError c else d
    else d.dvtDrop true c)

def execNakPacket (h : DvtHead) (s : State) : Out :=
  s.on (fun d => nakRx d h.conn.toNat h.bad h.reason.toNat h.psn.toNat h.msn.toNat)

/-! ## Opening and closing (R407 to R410, R418, R419) -/

/-- CONNECT: a connection that is CONNECTING to the same peer, or one that is up, learns the sender's connection and PSN and answers
with its own; one that is up resends from the PSN given. -/
def connectRx (d : Chip) (dst peer from_ psn paths : Nat) : Chip :=
  if !d.dvtUp then d
  else
    let hit : Option (Nat × DvtConn) := (d.conn dst).bind (fun (x : DvtConn) =>
      if (x.state = .open ∨ x.state = .reconnecting ∨ x.state = .closing) ∧ x.mode ≠ 2 ∧ x.peer = peer then some (dst, x) else none)
    match hit with
    | some (c, x) =>
      let d := (d.setConn c { x with peerConn := from_, state := if x.state = .reconnecting then .open else x.state }).ackUpTo c psn
      let d := d.dvtPut c x ⟨0x21, 0, 0, 0, from_, x.expected, 0, 0, 0, 0, connectBytes c x.expected x.paths⟩
      (d.resendPkts c (fun _ => true) none).dvtGo c
    | none =>
      match d.dvt.conns.find? (fun (y : Nat × DvtConn) => y.2.state = .connecting && y.2.peer = peer && y.2.paths = paths) with
      | some (c, x) =>
        let x := { x with peerConn := from_, expected := psn }
        (d.setConn c x).dvtPut c x ⟨0x21, 0, 0, 0, from_, x.start, 0, 0, 0, 0, connectBytes c x.start x.paths⟩
      | none => d.dvtDrop true dst

def execConnect (dst : BitVec 20) (peer : BitVec 128) (from_ : BitVec 20) (psn : BitVec 32) (paths : BitVec 8) (s : State) : Out :=
  s.on (fun d => connectRx d dst.toNat peer.toNat from_.toNat psn.toNat paths.toNat)

/-- CONNECT_ACK: the connection opens, or its reconnection completes and it resends from the peer's EXPECTED. -/
def connectAckRx (d : Chip) (dst from_ psn : Nat) : Chip :=
  if !d.dvtUp then d
  else match d.conn dst with
  | none => d.dvtDrop true dst
  | some x =>
    match x.state with
    | .connecting =>
      let d := d.setConn dst { x with state := .open, peerConn := from_, expected := psn, openSeq := 0 }
      d.finish x.openSeq Code.OK dst d.tick
    | .reconnecting =>
      let ps : Tbl DvtPath := x.pathTbl.map (fun (p : Nat × DvtPath) => (p.1, { p.2 with failed := false, timeouts := 0 }))
      let d := d.setConn dst { x with state := .open, peerConn := from_, pathTbl := ps }
      let d := d.ackUpTo dst ((psn + x.psnMod - 1) % x.psnMod)
      (d.resendPkts dst (fun _ => true) none).dvtGo dst
    | _ => d.dvtDrop true dst

def execConnectAck (dst from_ : BitVec 20) (psn : BitVec 32) (s : State) : Out :=
  s.on (fun d => connectAckRx d dst.toNat from_.toNat psn.toNat)

/-- CLOSE: the peer's side is gone: no new operation is taken and the open ones are withdrawn (log entry 41). -/
def closeRx (d : Chip) (dst : Nat) : Chip :=
  match d.conn dst with
  | none => d.dvtDrop true dst
  | some _ =>
    let d := d.updConn dst (fun x => { x with peerClosed := true, sent := [], todo := [] })
    (d.led.items.filter (fun i => !i.state.ended && i.kind = .dvt && i.body.rConn = dst)).foldl
      (fun (d : Chip) i => d.withdraw i.seq Code.DVT_CONN_LOST dst) d

def execClose (dst : BitVec 20) (s : State) : Out := s.on (fun d => if d.dvtUp then closeRx d dst.toNat else d)

/-- The record of CONN_OPEN (R407). -/
def connRecOk (d : Chip) (b : List Nat) : Bool :=
  let mode := fieldAt b 4 1
  let paths := fieldAt b 5 1
  let mask := fieldAt b 6 1
  mode ≤ 2 && 1 ≤ paths && (if mode = 2 then paths = 1 else paths ≤ 64) && mask ≠ 0 && mask < 16 && fieldAt b 7 1 = 0 &&
  fieldAt b 0 4 = 0 && fieldAt b 12 4 % 4 = 0 && zeroAt b 42 22 && (mode = 2 || zeroAt b 32 8) && (mode ≠ 0 || zeroAt b 20 12) &&
  (List.range 4).all (fun k => !bitOf mask k || (d.rg (Reg.LNK_PORT_CFG.MODE (8 + k)) = 0) = (mode = 0))

/-- CONN_OPEN. The first PSN in MODES 0 and 1 is a free value. -/
def connOpen (d : Chip) (src : Submit) (record : Nat) : Chip :=
  d.withRecord src record 64 (fun d =>
    let b := d.bytes record 64
    if !connRecOk d b then d.refuse src Code.DVT_BAD_REQ
    else match firstFree d.dvt.conns 1048576 with
      | none => d.refuse src Code.DVT_TABLE_FULL
      | some c =>
        let mode := fieldAt b 4 1
        let start := if mode = 2 then fieldAt b 36 4 % 2 ^ 24 else (Config.freeWord d.free).toNat % 2 ^ 32
        let d := d.takeFree.acceptCmd src (.general 0x0701) (genBody 0x0701 src [record, c]) (d.originDomain src.origin) (0x40 + d.roleCore 1)
        let q := d.lastSeq
        let x : DvtConn := {
          state := (if mode = 2 then ConnState.open else ConnState.connecting), mode := mode, paths := fieldAt b 5 1,
          portMask := fieldAt b 6 1, pd := fieldAt b 8 4, budget := fieldAt b 12 4, peer := fieldAt b 16 16, peerConn := fieldAt b 32 4,
          sport := fieldAt b 40 2, fn := d.originFn src.origin, openSeq := (if mode = 2 then 0 else q), connects := 1, start := start,
          nextPsn := start, acked := start, expected := (if mode = 2 then start else 0) }
        let d := (d.setConn c x).ctxIn c true
        if mode = 2 then d.finish q Code.OK c d.tick
        else d.dvtPut c x ⟨0x20, 0, 0, 0, 0, start, 0, 0, 0, 0, connectBytes c start x.paths⟩)

def execConnOpen (src : Submit) (record : Nat) (s : State) : Out :=
  s.on (fun d => d.served 1 (fun d => d.submit src .dvt true (fun d => connOpen d src record)))

/-- CONNECT_TIMEOUT: CONNECT once more, then CONN_OPEN is withdrawn. -/
def connectTimeout (d : Chip) (c : Nat) : Chip :=
  match d.conn c with
  | none => d
  | some x =>
    if x.state ≠ .connecting then d
    else if x.connects < 2 then
      (d.setConn c { x with connects := x.connects + 1 }).dvtPut c x ⟨0x20, 0, 0, 0, 0, x.start, 0, 0, 0, 0, connectBytes c x.start x.paths⟩
    else d.withdraw x.openSeq Code.TIMEOUT c

def execConnectTimeout (c : BitVec 20) (s : State) : Out := s.on (fun d => connectTimeout d c.toNat)

/-- CONN_CLOSE. -/
def connClose (d : Chip) (src : Submit) (c : Nat) : Chip :=
  match d.conn c with
  | none => d.refuse src Code.DVT_CONN_STATE
  | some x =>
    if x.state = .closing ∨ x.state = .connecting ∨ x.closeSeq ≠ 0 ∨ (isVF (d.originFn src.origin) ∧ x.fn ≠ d.originFn src.origin) then
      d.refuse src Code.DVT_CONN_STATE
    else
      let d := (d.ctxIn c true).acceptCmd src (.general 0x0702) (genBody 0x0702 src [c]) (d.originDomain src.origin) (0x40 + d.roleCore 1)
      let d := d.setConn c { x with state := .closing, closeSeq := d.lastSeq, closeFrom := x.state }
      d.drainConns.release

def execConnClose (src : Submit) (c : BitVec 32) (s : State) : Out :=
  s.on (fun d => d.served 1 (fun d => d.submit src .dvt true (fun d => connClose d src c.toNat)))

/-- RETRANSMISSION_TIMEOUT of a packet (R417, R418). -/
def retransTimeout (d : Chip) (c psn : Nat) : Chip :=
  match d.conn c with
  | none => d
  | some x =>
    match x.sent.find? (fun s => s.pkt.psn = psn && s.sends > 0) with
    | none => d
    | some s =>
      if x.state ≠ .open ∧ x.state ≠ .closing then d
      else
        let j := s.pkt.path
        let p := x.pathOf j
        let d := d.setConn c { x with pathTbl := tput x.pathTbl j { p with timeouts := p.timeouts + 1 } }
        let d := if p.timeouts + 1 ≥ d.rg Reg.DVT_RETRY_CFG.PATH_FAILS then d.pathFail c j else d
        match d.conn c with
        | none => d
        | some x =>
          if x.state ≠ .open ∧ x.state ≠ .closing then d
          else if s.sends ≥ d.rg Reg.DVT_RETRY_CFG.LIMIT then d.connFail c
          else d.resendPkts c (fun t => t.pkt.psn = psn) (some j)

def execRetransmissionTimeout (c : BitVec 20) (psn : BitVec 32) (s : State) : Out :=
  s.on (fun d => if d.dvtUp then retransTimeout d c.toNat psn.toNat else d)

/-- PATH_PROBE: an ACKREQ SKIP of PSN EXPECTED − 1 on a failed path, every 1,024 ticks. -/
def pathProbe (d : Chip) (c j : Nat) : Chip :=
  match d.conn c with
  | none => d
  | some x =>
    if (x.state = .open ∨ x.state = .closing) ∧ (x.pathOf j).failed ∧ d.tick ≥ (x.pathOf j).probeAt + 1024 then
      (d.setConn c { x with pathTbl := tput x.pathTbl j { x.pathOf j with probeAt := d.tick } }).dvtPut c x ⟨7, 4, j, 0, x.peerConn, (x.acked + x.psnMod - 1) % x.psnMod, 0, 0, 0, 0, []⟩
    else d

def execPathProbe (c : BitVec 20) (path : Fin 64) (s : State) : Out := s.on (fun d => if d.dvtUp then pathProbe d c.toNat path else d)

/-- RECONNECT_TIMEOUT: the connection enters ERROR. -/
def execReconnectTimeout (c : BitVec 20) (s : State) : Out :=
  s.on (fun d => match d.conn c.toNat with
    | some x => if x.state = .reconnecting then d.connError c.toNat else d
    | none => d)

/-! ## Operations (R411) -/

def dvtOp (d : Chip) (src : Submit) (x : Desc) : Chip :=
  let src := { src with tag := BitVec.ofNat 32 x.rTag }
  let c := x.rConn
  let atomic := x.rOp = 4 ∨ x.rOp = 5
  if !(x.rOp = 1 ∨ x.rOp = 2 ∨ atomic) ∨ (atomic ∧ (x.rLen ≠ 8 ∨ x.rRemote % 8 ≠ 0)) ∨ wf x.w0 9 23 ≠ 0 ∨ wf x.w2 52 12 ≠ 0 ∨
      wf x.w4 20 44 ≠ 0 ∨ x.w7 ≠ 0 then d.refuse src Code.DVT_BAD_REQ
  else if x.rLen > 0x4000_0000 then d.refuse src Code.LENGTH_OVER
  else if !d.unitOk (d.originFn src.origin) x.rLocal x.rLen (x.rOp ≠ 1) then d.refuse src Code.ACCESS_VIOLATION
  else match d.conn c with
    | none => d.refuse src Code.DVT_CONN_STATE
    | some y =>
      if y.state ≠ .open ∨ y.peerClosed then d.refuse src Code.DVT_CONN_STATE
      else if isVF (d.originFn src.origin) ∧ y.fn ≠ d.originFn src.origin then d.refuse src Code.ACCESS_VIOLATION
      else
        let d := d.dvtTakeColl.acceptCmd src .dvt x (.conn c) 0x53
        let q := d.lastSeq
        ((d.ctxIn c true).updConn c (fun y => { y with todo := y.todo ++ [q] })).dvtGo c

/-- The four operations: the row's OP is the entry's; an entry with a reserved OP comes by the first and is refused. -/
def dvtCmd (d : Chip) (src : Submit) (x : Desc) (op : Nat) : Chip :=
  let reserved := !(x.rOp = 1 ∨ x.rOp = 2 ∨ x.rOp = 4 ∨ x.rOp = 5)
  if x.rOp = op ∨ (op = 1 ∧ reserved) then d.submit src .dvt true (fun d => dvtOp d src x) 3 else d

def execWrite (src : Submit) (x : Desc) (s : State) : Out := s.on (fun d => dvtCmd d src x 1)
def execRead (src : Submit) (x : Desc) (s : State) : Out := s.on (fun d => dvtCmd d src x 2)
def execFadd (src : Submit) (x : Desc) (s : State) : Out := s.on (fun d => dvtCmd d src x 4)
def execCas (src : Submit) (x : Desc) (s : State) : Out := s.on (fun d => dvtCmd d src x 5)

/-! ## Regions (R427, R430) -/

/-- REGION_REG; `x` holds the region record in its words 0 to 3. -/
def regionReg (d : Chip) (src : Submit) (x : Desc) : Chip :=
  let base := x.w0.toNat
  let len := x.w1.toNat
  let rights := wf x.w2 32 8
  if base ≥ 2 ^ 52 ∨ len = 0 ∨ len > 2 ^ 46 ∨ wf x.w2 0 32 ≠ 0 ∨ rights > 7 ∨ wf x.w2 40 24 ≠ 0 ∨ wf x.w3 32 32 ≠ 0 then
    d.refuse src Code.DVT_BAD_REQ
  else if !d.unitOk (d.originFn src.origin) base len true then d.refuse src Code.ACCESS_VIOLATION
  else match firstFree d.dvt.regions 262144 with
    | none => d.refuse src Code.DVT_TABLE_FULL
    | some r =>
      let d := d.acceptCmd src (.general 0x0703) (genBody 0x0703 src [base, len, x.w2.toNat, x.w3.toNat]) (d.originDomain src.origin)
        (0x40 + d.roleCore 1)
      let q := d.lastSeq
      let e : DvtRegion := { base := base, len := len, rights := rights, state := 0, pd := wf x.w3 0 32, seq := q }
      let d : Chip := { d with dvt := { d.dvt with regions := tput d.dvt.regions r e } }
      d.finishWith q (fun d => { d with dvt := { d.dvt with regions := tupd d.dvt.regions r (fun e => { e with state := 1, seq := 0 }) } })
        Code.OK (r + (tget d.dvt.gens r).getD 0 * 2 ^ 18) d.tick

def execRegionReg (src : Submit) (x : Desc) (s : State) : Out :=
  s.on (fun d => d.served 1 (fun d => d.submit src .dvt true (fun d => regionReg d src x)))

/-- REGION_REVOKE: the revoke point at acceptance. -/
def regionRevoke (d : Chip) (src : Submit) (rkey : Nat) : Chip :=
  let r := rkey % 2 ^ 18
  match tget d.dvt.regions r with
  | none => d.refuse src Code.DVT_REGION_STATE
  | some e =>
    if e.state ≠ 1 ∨ (tget d.dvt.gens r).getD 0 ≠ rkey / 2 ^ 18 then d.refuse src Code.DVT_REGION_STATE
    else
      let d := d.acceptCmd src (.general 0x0704) (genBody 0x0704 src [rkey]) (d.originDomain src.origin) (0x40 + d.roleCore 1)
      let d : Chip := { d with dvt := { d.dvt with regions := tput d.dvt.regions r { e with state := 2, seq := d.lastSeq, since := d.tick } } }
      d.revokeDone r 0

def execRegionRevoke (src : Submit) (rkey : BitVec 32) (s : State) : Out :=
  s.on (fun d => d.served 1 (fun d => d.submit src .dvt true (fun d => regionRevoke d src rkey.toNat)))

/-- REVOKE_CUT: void before 100 ms have passed since the revoke point. -/
def revokeCut (d : Chip) (r : Nat) : Chip :=
  match tget d.dvt.regions r with
  | none => d
  | some e =>
    if e.state ≠ 2 ∨ e.inflight.isEmpty ∨ d.tick - e.since < 400_000 / max (d.rg Reg.TCK_PERIOD.PERIOD) 1 then d
    else
      let n := e.inflight.length
      let d : Chip := { d with dvt := { d.dvt with regions := tput d.dvt.regions r { e with inflight := [] } } }
      d.revokeDone r n

def execRevokeCut (r : BitVec 18) (s : State) : Out := s.on (fun d => revokeCut d r.toNat)

/-! ## Contexts and the agent (R409, R435) -/

/-- CONTEXT_FILL: a context arrives from the near tier; a poisoned line puts its connection in ERROR. -/
def execContextFill (c : BitVec 20) (s : State) : Out :=
  s.on (fun d =>
    let c := c.toNat
    if d.dvt.cache.contains c then d
    else
      let d := d.ctxIn c false
      if (d.conn c).isSome ∧ d.anyPoison (d.rg Reg.DVT_CTX_BASE.BASE + 256 * c) 256 then (d.fault Src.DVT_CTX_POISON c).connError c else d)

def execPathDown (c : BitVec 20) (path : Fin 64) (s : State) : Out :=
  s.on (fun d => match d.conn c.toNat with
    | some x => if path.val < x.paths then (d.pathFail c.toNat path).answered (.block .dvt) true else d.answered (.block .dvt) false
    | none => d.answered (.block .dvt) false)

/-- CTX_FLUSH: the cached contexts are written back, whose bytes the spec does not lay out, and stay in the cache. -/
def execCtxFlush (s : State) : Out := s.on (fun d => d.answered (.block .dvt) true)

/-! ## Packets on DVL ports (R404) -/

/-- A packet of MODE 0 as frames of TYPE 6. -/
def Chip.dvtFrames (d : Chip) (o : DvtOut) : Chip :=
  let p := o.pkt
  let b := [p.op, p.flags, p.path, p.reason] ++ leBytes 4 p.dst ++ leBytes 4 p.psn ++ leBytes 4 p.msn ++ leBytes 8 p.offset ++
    leBytes 4 p.rkey ++ leBytes 4 p.msgBytes ++ p.data
  let n := ceilDiv b.length 256
  (List.range n).foldl (fun (d : Chip) k =>
    let f := (b.drop (256 * k)).take 256
    d.sendFrame o.port 6 ((ceilDiv f.length 64 - 1) * 2 ^ 40 + (if k = 0 then 2 ^ 39 else 0) + (if k + 1 = n then 2 ^ 38 else 0) +
      p.path * 2 ^ 32 + o.route * 2 ^ 16) f) d

/-- What waits for DVL ports is handed to them: pace symbols in CTRL frames (R388), DVT packets of MODE 0. Those of a port that is
not UP stay (symbols) or are lost and retransmitted (packets). -/
def Chip.linkTake (d : Chip) : Chip :=
  let ps := d.coll.pace.filter (fun s => d.portUp s.port)
  let os := d.dvt.wire.filter (fun o => o.mode = 0)
  let d : Chip := { d with
    coll := { d.coll with pace := d.coll.pace.filter (fun s => !d.portUp s.port) }
    dvt := { d.dvt with wire := d.dvt.wire.filter (fun o => o.mode ≠ 0) } }
  let d := ps.foldl (fun (d : Chip) s => d.sendFrame s.port 8 0 [] (1, s.line, s.arg)) d
  os.foldl (fun (d : Chip) o => d.dvtFrames o) d

/-- A whole packet received in frames, by its opcode. -/
def Chip.dvtPacket (d : Chip) (b : List Nat) : Chip :=
  let op := fieldAt b 0 1
  let c := fieldAt b 4 4
  let data := b.drop 32
  let flags := fieldAt b 1 1
  let bytes := fieldAt b 28 4
  let n := match op with
    | 4 => 8 | 5 => 16 | 6 => 8 | 9 => 8 | 0x10 => 64 | 0x20 => 32 | 0x21 => 32 | 0x22 => 32 | 2 => 0 | 7 => 0 | 0x11 => 0
    | _ => if bitOf flags 1 then lastBytes 4096 bytes else 4096
  let p : DvtPkt := ⟨op, flags, fieldAt b 2 1 % 64, fieldAt b 3 1, c % 2 ^ 20, fieldAt b 8 4, fieldAt b 12 4, fieldAt b 16 8, fieldAt b 24 4,
    bytes, data.take n⟩
  let bad := fieldAt b 2 1 ≥ 64 || c ≥ 2 ^ 20
  if [1, 2, 3, 4, 5, 7, 8, 9].contains op then d.dvtSequenced p.dst bad false p
  else match op with
    | 6 => atomicResp d p.dst bad p.psn (leNat p.data)
    | 0x10 => ackRx d p.dst bad flags p.path p.psn (leNat ((p.data.drop 32).take 32))
    | 0x11 => nakRx d p.dst bad p.reason p.psn p.msn
    | 0x20 => connectRx d p.dst (match d.conn p.dst with | some x => x.peer | none => fieldAt b 24 4) (fieldAt data 0 4 % 2 ^ 20) (fieldAt data 4 4) (fieldAt data 8 1)
    | 0x21 => connectAckRx d p.dst (fieldAt data 0 4 % 2 ^ 20) (fieldAt data 4 4)
    | 0x22 => if d.dvtUp then closeRx d p.dst else d
    | _ => if d.dvtUp then d.dvtDrop true p.dst else d

/-- A frame of TYPE 6: the first starts a packet, the last completes it. -/
def Chip.dvtFlit (d : Chip) (port : Nat) (first last : Bool) (f : List Nat) : Chip :=
  if port < 8 then d.dvtDrop true port
  else
    let b := (if first then [] else (tget d.dvt.part port).getD []) ++ f
    if last then { d with dvt := { d.dvt with part := tdel d.dvt.part port } }.dvtPacket b
    else { d with dvt := { d.dvt with part := tput d.dvt.part port b } }

end Sys2Proof.Machine
end

