-- ==== Sys2Proof/Machine/Sec.lean ====
section
/-! DEFINITION. The security commands (R594 to R614): key slots, the bulk engine, inline keys, the DRBG, zeroisation, debug unlock,
and KOPEN and WQK of the Armature cores. -/
namespace Sys2Proof
open Sys2Proof.Machine

/-! ## The BULK descriptor (R606) -/

def Desc.bSlot (x : Desc) : Nat := wf x.w1 0 16
def Desc.bOp (x : Desc) : Nat := wf x.w1 16 8
def Desc.bLabelLen (x : Desc) : Nat := wf x.w1 24 8
def Desc.bLen (x : Desc) : Nat := wf x.w1 32 32
def Desc.bSrc (x : Desc) : Nat := x.w2.toNat
def Desc.bDst (x : Desc) : Nat := x.w3.toNat
def Desc.bAad (x : Desc) : Nat := x.w4.toNat
def Desc.bAadLen (x : Desc) : Nat := wf x.w5 0 32
def Desc.bIvTag (x : Desc) : Nat := x.w6.toNat
def Desc.bLabel (x : Desc) : Nat := x.w7.toNat

end Sys2Proof

namespace Sys2Proof.Machine
open Sys2Proof

/-! ## KEY_LOAD and KEY_ZERO (R595 to R597) -/

/-- Reserved encodings of a slot record, or one of the inline, MACsec and IDE uses with any other use (DEDUCED, log entry 93). -/
def slotRecordBad (b : List Nat) : Bool :=
  let u := b.getD 3 0
  let many := (b2n (bitOf u 0) + b2n (bitOf u 1) + b2n (bitOf u 2))
  b.getD 2 0 > 1 || u ≥ 128 || b.getD 4 0 > 127 || b.getD 5 0 ≠ 0 || (b.drop 14).take 2 ≠ [0, 0] || (b.drop 56).any (· ≠ 0) ||
  many > 1 || (many = 1 && u / 8 ≠ 0)

/-- The key a slot record gives: inline, or unwrapped under its key slot. -/
def Chip.recordKey (d : Chip) (b : List Nat) : Option (List Nat) :=
  if b.getD 2 0 = 1 then keyUnwrap (((d.kslot (leNat ((b.drop 12).take 2))).map (·.key)).getD []) ((b.drop 16).take 40)
  else some ((b.drop 16).take 32)

/-- The commit point of KEY_LOAD: LOADED is written, with the counter at 0. -/
def loadKey (record : Nat) (d : Chip) : Chip :=
  let b := d.bytes record 128
  match d.recordKey b with
  | some key =>
    (d.setKslot (leNat (b.take 2)) ⟨false, b.getD 3 0, b.getD 4 0, leNat ((b.drop 6).take 2), leNat ((b.drop 8).take 4), key, 0⟩).count
      (Reg.SEC_COUNT.COUNT 0)
  | none => d

/-- KEY_LOAD: checks before acceptance; a wrapped key that does not verify withdraws the item. -/
def Chip.keyLoad (d : Chip) (src : Submit) (record : Nat) : Chip :=
  d.withRecord src record 128 (fun d =>
    let b := d.bytes record 128
    if slotRecordBad b then d.refuse src Code.SEC_BAD_REQ
    else if (d.kslot (leNat (b.take 2))).isSome then d.refuse src Code.SEC_SLOT_STATE
    else if b.getD 2 0 = 1 ∧ !d.loadedFor (leNat ((b.drop 12).take 2)) uUNWRAP then d.refuse src Code.SEC_KEY_DENIED
    else
      let d := d.acceptCmd src (.general 0x0D01) (genBody 0x0D01 src [record]) (d.originDomain src.origin) 0x58
      if (d.recordKey b).isSome then d.finishWith d.lastSeq (loadKey record)
      else (d.withdraw d.lastSeq Code.AUTH_FAIL).count (Reg.SEC_COUNT.COUNT 4))

def execKeyLoad (src : Submit) (record : Nat) (s : State) : Out :=
  s.on (fun d => d.submit src .sec false (fun d => d.keyLoad src record))

/-- Items of BULK that have not reached their commit points. -/
def Chip.bulkOpen (d : Chip) : List Item := d.led.items.filter (fun i => i.kind = .general 0x0D03 && !i.state.ended && i.crec ≠ .taken)

/-- A slot becomes EMPTY, its key overwritten. -/
def Chip.emptySlot (d : Chip) (k : Nat) : Chip := { d with sec := { d.sec with slots := tdel d.sec.slots k } }

/-! ## KOPEN and WQK (R326, R328) -/

/-- The key a KEYH value names: bit 16 clear a slot, set a context. -/
def keyOfValue (v : Nat) : KeyName := if bitOf v 16 then .ctx (v % 64) else .slot (v % 2 ^ 16)

/-- Whether the permission list lets core n open a key. -/
def Chip.mayOpen (d : Chip) (n : Nat) (k : KeyName) : Bool :=
  match k with
  | .slot s => (match d.kslot s with | some x => bitOf x.cores n | none => false)
  | .ctx c => 4 ≤ c && bitOf (d.rg (Reg.SEC_CTX_CFG.CORES c)) n

def execKopen (n : Fin 16) (rd rs1 : Fin 32) (s : State) : Out :=
  s.on (fun d => d.insn n [rd] (fun d => d.typed1 n rs1 [.int] (fun x =>
    if d.mayOpen n (keyOfValue x.v.toNat) then d.writes n rd (BitVec.ofNat 64 (x.v.toNat % 2 ^ 17)) .keyh
    else .trap d tKEY_DENIED x.v.toNat false)))

def execWqk (n : Fin 16) (rd rs1 rs2 : Fin 32) (s : State) : Out :=
  s.on (fun d => d.insn n [rd] (fun d => d.typed1 n rs1 [.ptr] (fun p => d.typed1 n rs2 [.keyh] (fun k =>
    d.queueDesc n rd p.v.toNat 256 true (some (keyOfValue k.v.toNat))))))

/-! ## The bulk engine (R606 to R608) -/

/-- The key a BULK item uses: the handle's under WQK, else the slot named. -/
def Chip.bulkKey (d : Chip) (o : Origin) (x : Desc) : KeyName :=
  match o with
  | .core n h => ((tget (d.core n).handles h).bind (·.key)).getD (.slot x.bSlot)
  | _ => .slot x.bSlot

/-- The commit point of KEY_ZERO: EMPTY is written, and the BULK items of the slot that have not started are withdrawn. -/
def zeroKey (k : Nat) (d : Chip) : Chip :=
  ((d.bulkOpen.filter (fun i => i.state = .accepted && d.bulkKey i.origin i.body = .slot k)).foldl
    (fun (d : Chip) i => d.withdraw i.seq Code.SEC_KEY_GONE) (d.emptySlot k)).count (Reg.SEC_COUNT.COUNT 1)

/-- KEY_ZERO: refused while the slot is in use. -/
def Chip.keyZero (d : Chip) (src : Submit) (k : Nat) : Chip :=
  if d.slotBusy k then d.refuse src Code.SEC_SLOT_BUSY
  else
    let d := d.acceptCmd src (.general 0x0D02) (genBody 0x0D02 src [k]) (d.originDomain src.origin) 0x58
    d.finishWith d.lastSeq (zeroKey k)

def execKeyZero (src : Submit) (slot : Fin 65536) (s : State) : Out :=
  s.on (fun d => d.submit src .sec false (fun d => d.keyZero src slot))

def isCore (o : Origin) : Bool :=
  match o with
  | .core _ _ => true
  | _ => false

/-- A reserved encoding, or a LABEL_LEN that does not match the key kind. -/
def bulkBad (o : Origin) (x : Desc) (k : KeyName) : Bool :=
  wf x.w0 0 16 ≠ 0x0D03 || wf x.w0 16 16 ≠ 0 || x.bOp = 0 || x.bOp > 3 || wf x.w5 32 32 ≠ 0 || x.bAadLen > 65536 ||
  (x.bAadLen = 0 && x.bAad ≠ 0) || (isCore o && x.bSlot ≠ 0) ||
  (match k with | .slot _ => x.bLabelLen ≠ 0 | .ctx _ => x.bLabelLen = 0 || x.bLabelLen > 128)

/-- Whether a slot may serve an operation for a function. -/
def bulkDenied (s : KeySlot) (fn op : Nat) (core : Bool) : Bool :=
  !bitOf s.uses (if op = 3 then uKMAC else uBULK) || (!core && s.func ≠ fn && s.func ≠ 0x7F)

/-- The checks of R607 on the key. -/
def Chip.bulkKeyCheck (d : Chip) (fn : Nat) (o : Origin) (x : Desc) (k : KeyName) : Option Nat :=
  match k with
  | .slot n =>
    match d.kslot n with
    | none => some (if isCore o then Code.SEC_KEY_GONE else Code.SEC_SLOT_STATE)
    | some s =>
      if bulkDenied s fn x.bOp (isCore o) then some Code.SEC_KEY_DENIED
      else if s.exhausted ∧ x.bOp = 1 then some Code.KEY_EXHAUSTED else none
  | .ctx c =>
    if (d.rootKey c).isNone then some Code.SEC_SLOT_STATE
    else if x.bOp = 1 ∧ ((tget d.sec.ctxs c).getD {}).counter ≥ 2 ^ 48 - 1 then some Code.KEY_EXHAUSTED else none

/-- The checks of R607 on the ranges. -/
def Chip.bulkRanges (d : Chip) (fn : Nat) (x : Desc) : Bool :=
  d.unitOk fn x.bSrc x.bLen false && d.unitOk fn x.bDst (if x.bOp = 3 then 32 else x.bLen) true &&
  (x.bOp = 3 || d.unitOk fn x.bIvTag 28 (x.bOp = 1)) && (x.bAadLen = 0 || d.unitOk fn x.bAad x.bAadLen false) &&
  (x.bLabelLen = 0 || d.unitOk fn x.bLabel x.bLabelLen false)

/-- The checks of R607, in its order. -/
def Chip.bulkCheck (d : Chip) (fn : Nat) (o : Origin) (x : Desc) : Option Nat :=
  let k := d.bulkKey o x
  if bulkBad o x k then some Code.SEC_BAD_REQ
  else if x.bLen > 0x400_0000 then some Code.LENGTH_OVER
  else match d.bulkKeyCheck fn o x k with
    | some c => some c
    | none => if d.bulkRanges fn x then none else some Code.ACCESS_VIOLATION

/-- The key bytes and FIXED of a BULK item. -/
def Chip.bulkSecret (d : Chip) (x : Desc) (k : KeyName) : List Nat × Nat :=
  match k with
  | .slot n => ((d.kslot n).map (fun s => (s.key, s.fixed))).getD ([], 0)
  | .ctx c => ((d.derive c (d.bytes x.bLabel x.bLabelLen)).getD [], Config.fixedDev.toNat)

/-- Bytes written with one poison mark. -/
def Chip.wrMark (d : Chip) (a : Nat) (bs : List Nat) (poison : Bool) : Chip := d.writeRange a (bs.map (fun b => (b, poison)))

/-- The commit record of an item, issued at once; one that has read requests out waits for them. -/
def Chip.bulkEarn (d : Chip) (seq code : Nat) : Chip :=
  if d.readsOut seq then d.updItem seq (fun i => { i with fin := some ⟨code, 0, 0⟩ }) else d.issueCommit seq ⟨code, 0, 0⟩

/-- The engine's work on an accepted item: its writes, and the commit record or, for a tag that does not verify, the zeroed
destination and the withdrawal. `ctr` is the counter value an encryption took. -/
def Chip.bulkRun (d : Chip) (seq ctr : Nat) (x : Desc) (k : KeyName) : Chip :=
  let (key, fixed) := d.bulkSecret x k
  let d := ((d.noteRead x.bSrc x.bLen).noteRead x.bAad x.bAadLen).noteRead x.bIvTag (if x.bOp = 2 then 28 else 0)
  let lost := d.writeLost x.bDst (if x.bOp = 3 then 32 else x.bLen) || (x.bOp = 1 && d.writeLost x.bIvTag 28)
  let poison := d.anyPoison x.bSrc x.bLen || d.anyPoison x.bAad x.bAadLen || (x.bOp = 2 && d.anyPoison x.bIvTag 28)
  let code := if poison || lost then Code.POISONED_DATA else Code.OK
  let m := d.bytes x.bSrc x.bLen
  let aad := d.bytes x.bAad x.bAadLen
  let d := (d.count (Reg.SEC_COUNT.COUNT 2)).count (Reg.SEC_COUNT.COUNT 3) x.bLen
  match x.bOp with
  | 1 =>
    let iv := ivOf fixed 0 ctr
    let r := gcmEncrypt key iv aad m
    ((d.wrMark x.bDst r.1 poison).wrMark x.bIvTag (iv ++ r.2) poison).bulkEarn seq code
  | 2 =>
    let t := d.bytes x.bIvTag 28
    if poison then (d.wrMark x.bDst m true).bulkEarn seq code
    else match gcmDecrypt key (t.take 12) aad m (t.drop 12) with
      | some p => (d.wr x.bDst p).bulkEarn seq code
      | none => (d.withdraw seq Code.AUTH_FAIL).count (Reg.SEC_COUNT.COUNT 4)
  | _ => (d.wrMark x.bDst (kmac256 key m [] 32) poison).bulkEarn seq code

/-- The ledger body of a BULK item (R602): the operation, with the counter value it took in bits the descriptor reserves (DESIGN
CHOICE, log entry 90). -/
def bulkBody (x : Desc) (ctr : Nat) : Desc :=
  { x with w0 := x.w0 ||| BitVec.ofNat 64 (ctr % 2 ^ 16 * 2 ^ 16), w5 := x.w5 ||| BitVec.ofNat 64 (ctr / 2 ^ 16 % 2 ^ 32 * 2 ^ 32) }

/-- An accepted BULK item runs, unless the host link it needs is stopped (R493, R495); again after a fence, with the same counter value
(R602). -/
def Chip.bulkStart (d : Chip) (seq : Nat) : Chip :=
  match d.item seq with
  | none => d
  | some i =>
    if i.kind ≠ .general 0x0D03 ∨ i.state ≠ .accepted ∨ d.hostPaused i ∨ !d.running .sec ∨ d.flag Reg.FLT_SAFE.SAFE ∨ d.hub.inReset then d
    else
      let i' := { i with state := .running }
      ((d.updItem seq (fun i => { i with state := .running })).hostReads i').bulkRun seq (wf i.body.w0 16 16 + wf i.body.w5 32 32 * 2 ^ 16) i.body
        (d.bulkKey i.origin i.body)

def Chip.bulksGo (d : Chip) : Chip :=
  (d.led.items.filter (fun i => i.kind = .general 0x0D03 && i.state = .accepted)).foldl (fun (d : Chip) i => d.bulkStart i.seq) d

/-- The counter value of an encryption, taken before acceptance (R602). -/
def Chip.bulkCounter (d : Chip) (x : Desc) (k : KeyName) : Nat × Chip :=
  if x.bOp ≠ 1 then (0, d)
  else match (match k with | .slot n => d.slotCounter n | .ctx c => d.ctxCounter c) with
    | some r => r
    | none => (0, d)

def Chip.bulk (d : Chip) (src : Submit) (x : Desc) : Chip :=
  let src := { src with tag := BitVec.ofNat 32 (wf x.w0 32 32) }
  match d.bulkCheck (d.originFn src.origin) src.origin x with
  | some c => d.refuse src c
  | none =>
    let k := d.bulkKey src.origin x
    let (ctr, d) := d.bulkCounter x k
    let d := d.acceptCmd src (.general 0x0D03) (bulkBody x ctr) (d.originDomain src.origin) 0x58
    d.bulkStart d.lastSeq

/-- One BULK operation from a ring or a core; `ops` are the OP values this command is given. -/
def Chip.bulkCmd (d : Chip) (src : Submit) (x : Desc) (ops : Nat → Bool) : Chip :=
  if !ops x.bOp || (isCore src.origin && !d.ownDesc src.origin x true) then d
  else d.submit src .sec true (fun d => d.bulk src x)

/-- ENCRYPT; a BULK command with a reserved OP is refused here. -/
def execEncrypt (src : Submit) (x : Desc) (s : State) : Out := s.on (fun d => d.bulkCmd src x (fun o => o ≠ 2 && o ≠ 3))

def execDecrypt (src : Submit) (x : Desc) (s : State) : Out := s.on (fun d => d.bulkCmd src x (fun o => o = 2))

def execKmac (src : Submit) (x : Desc) (s : State) : Out := s.on (fun d => d.bulkCmd src x (fun o => o = 3))

/-! ## Inline keys (R603 to R605) -/

/-- SEC_PORT_PHASE written: a bit whose phase has no LOADED inline slot stays; the others take effect at the port's next record
boundary. -/
def Chip.portPhase (d : Chip) (v : Nat) : Chip :=
  (List.range 12).foldl (fun (d : Chip) p =>
    let new := bitsOf v p 1
    if new = d.txPhase p ∨ !d.loadedFor (d.rg (txSlotFld p new)) uINLINE then d
    else
      let d := d.endAttn (.keySlot (d.rg (txSlotFld p (d.txPhase p))))
      let d := d.setBit Reg.SEC_PORT_PHASE.TX p (new = 1)
      let x := d.port p
      if x.recFrames = 0 then (d.setPort p { x with phase := new }).syncDead p else d) d

def execSecPortPhase (value : BitVec 12) (s : State) : Out := s.on (fun d => d.portPhase value.toNat)

/-- SEC_PORT_KEY of a port written. A transmit slot that is not LOADED with INLINE_DVL, or that is the slot of the phase in use,
leaves its field; a new receive slot clears its phase's state (R604) and keys a port again that a failed tag put DOWN (R387; DEDUCED, log
entry 89). -/
def Chip.portKey (d : Chip) (p v : Nat) : Chip :=
  let inUse := d.rg (txSlotFld p (d.txPhase p))
  let d := (List.range 2).foldl (fun (d : Chip) ph =>
    let k := bitsOf v (16 * ph) 16
    if !d.loadedFor k uINLINE ∨ k = inUse then d else d.sr (txSlotFld p ph) k) d
  (List.range 2).foldl (fun (d : Chip) ph =>
    let k := bitsOf v (32 + 16 * ph) 16
    if k = d.rg (rxSlotFld p ph) then d
    else
      let d := { d.sr (rxSlotFld p ph) k with sec := { d.sec with rxCounter := tdel d.sec.rxCounter (2 * p + ph) } }
      d.setPort p { d.port p with unkeyed := false }) d

def execSecPortKey (p : Fin 12) (value : Word) (s : State) : Out := s.on (fun d => (d.portKey p value.toNat).syncDead p)

/-! ## Zeroisation, the DRBG and debug (R611 to R614) -/

/-- Zeroisation (R613); an inline-encrypted port stays DOWN until it is keyed again (R387). -/
def Chip.zeroise (d : Chip) : Chip :=
  let d := d.bulkOpen.foldl (fun (d : Chip) i => d.withdraw i.seq Code.SEC_KEY_GONE) d
  let down := (List.range 12).filter (fun p => d.portUp p && d.sealed p)
  let d := { d with sec := { d.sec with
    slots := [], cleared := true, drbgUsed := 0, spdm := d.sec.spdm.map (fun (c : Nat × SpdmConn) => (c.1, { c.2 with sessions := [], signed := none })) } }
  let d := (d.sr Reg.SEC_STATE.ZEROISED 1).count (Reg.SEC_COUNT.COUNT 8)
  down.foldl (fun (d : Chip) p => ((d.setPort p { d.port p with unkeyed := true }).fault Src.LNK_AUTH p).portDown p) d

def execSecZeroise (s : State) : Out := s.on Chip.zeroise

def execZeroiseAll (s : State) : Out := s.on (fun d => d.zeroise.answered (.block .sec) true)

/-- DRBG_RESEED; while the entropy source fails, the DRBG stands. -/
def execDrbgReseed (s : State) : Out := s.on (fun d => (if d.sec.drbgStopped then d else d.reseed).answered (.block .sec) true)

def execEntropyHealthFail (s : State) : Out :=
  s.on (fun d => ({ d with sec := { d.sec with drbgStopped := true } }.sr Reg.SEC_STATE.ENTROPY_OK 0).fault Src.SEC_ENTROPY)

def execEntropyHealthPass (s : State) : Out :=
  s.on (fun d => { d with sec := { d.sec with drbgStopped := false } }.sr Reg.SEC_STATE.ENTROPY_OK 1)

/-- The hash of the DeviceID public key, as the unlock token covers it. -/
def deviceIdHash : List Nat := sha384 ((List.range 32).map (fun i => (Config.certByte 2 i).toNat))

/-- What an unlock token covers: the 32-byte challenge the device draws, and the DeviceID public key hash (R612). -/
def Chip.unlockMessage (d : Chip) : List Nat := (d.random 32).1 ++ deviceIdHash

/-- DEBUG_UNLOCK_TOKEN: a token over the device's challenge, signed with both schemes by an unrevoked KEY_ID whose OTP record holds its
public keys; whether the signatures verify is a free value. The challenge is drawn as the token comes (DESIGN CHOICE, log entry 94: the
table has no row for its issue). -/
def debugToken (d : Chip) (keyId : Nat) (pub ed ml : List Nat) : Chip :=
  if d.sec.drbgStopped then d
  else
    let m := d.unlockMessage
    let d := (d.random 32).2
    if bitOf (d.rg Reg.SEC_STATE.REVOKED) keyId ∨ sha384 pub ≠ otpRecord keyId ∨ !Config.verifies (leNat (pub.take 32)) m ed ∨
        !Config.verifies (leNat (pub.drop 32)) m ml then d
    else d.zeroise.sr Reg.SEC_STATE.DEBUG 1

/-- DEBUG_UNLOCK_TOKEN; `sigs` is the token's two signatures. -/
def execDebugUnlockToken (keyId : Fin 4) (pub : List (BitVec 8)) (sigs : List (BitVec 8) × List (BitVec 8)) (s : State) : Out :=
  s.on (fun d => debugToken d keyId (pub.map (·.toNat)) (sigs.1.map (·.toNat)) (sigs.2.map (·.toNat)))

/-- The security core restarts from stage 1 and keeps the slots; its SPDM connections start afresh. -/
def execSecCoreWdog (s : State) : Out :=
  s.on (fun d => { d with sec := { d.sec with spdm := [] } }.fault Src.SEC_CORE_WDOG)

end Sys2Proof.Machine
end

