-- ==== Sys2Proof/Machine/Hosts.lean ====
section
/-! DEFINITION. The host endpoint (chapter 13): ring pairs, replies and interrupts, virtual functions, written-page logs, port freeze,
master enable, function-level reset and completion timeouts. Ring pairs are named by their global number. -/
namespace Sys2Proof.Machine
open Sys2Proof

def Chip.hf (d : Chip) (f : Hif → Hif) : Chip := { d with hif := f d.hif }

/-! ## Functions and their resources (R480, R489, R498) -/

def Chip.poolRec (d : Chip) (pf v : Nat) : PoolRec := (tget d.hif.pools (pf * 64 + v)).getD {}

/-- Key of a VF's records: PF × 64 + VF. -/
def vfKey (fn : Nat) : Nat := pfOf fn * 64 + vfOf fn

def Chip.vfPool (d : Chip) (fn : Nat) : PoolRec := (tget d.hif.pools (vfKey fn)).getD {}

def vfNum (pf v : Nat) : Nat := if pf = 0 then 1 + v else 64 + v

/-- The function that owns a ring pair. -/
def Chip.ringOwner (d : Chip) (r : Nat) : Option Nat :=
  match [0, 1].find? (fun p => d.rg (Reg.HIF_FUNC_RINGS.FIRST p) ≤ r && r < d.rg (Reg.HIF_FUNC_RINGS.FIRST p) + d.rg (Reg.HIF_FUNC_RINGS.COUNT p)) with
  | none => none
  | some p =>
    match ((List.range 63).map (· + 1)).find? (fun v =>
        let q := d.poolRec p v
        (q.state = 1 || q.state = 3) && q.ringFirst ≤ r && r < q.ringFirst + q.ringCount) with
    | some v => some (vfNum p v)
    | none => some p

/-- The first ring pair of a function, and how many it has. -/
def Chip.fnRings (d : Chip) (fn : Nat) : Nat × Nat :=
  if isVF fn then ((d.vfPool fn).ringFirst, (d.vfPool fn).ringCount)
  else (d.rg (Reg.HIF_FUNC_RINGS.FIRST fn), d.rg (Reg.HIF_FUNC_RINGS.COUNT fn))

/-- Whether a requester may write a ring pair's registers: the function that owns it; an Armature core in either view. -/
def Chip.mayWrite (d : Chip) (by_ : Req) (r : Nat) : Bool :=
  match by_ with
  | .fn f => d.ringOwner r = some f
  | .core _ => true

def reqPf : Req → Nat
  | .fn f => pfOf f
  | .core _ => 0

/-- A function's BAR2 mapping: its near-tier address and its length (R476). -/
def Chip.bar2 (d : Chip) (fn : Nat) : Nat × Nat :=
  if isVF fn then ((d.vfPool fn).memBase, 2 ^ d.rg (Reg.HIF_VF_CFG.BAR2_LOG2 (pfOf fn)))
  else (d.rg (Reg.HIF_BAR2_BASE.BASE fn), 0x1_0000_0000)

def Chip.cmdEntries (d : Chip) (r : Nat) : Nat := 2 ^ (6 + d.rg (Reg.HIF_RING.CMD_SIZE r))
def Chip.rplEntries (d : Chip) (r : Nat) : Nat := 2 ^ (6 + d.rg (Reg.HIF_RING.RPL_SIZE r))

/-! ## Interrupts (R488) -/

/-- A vector signalled: a message, or its pending bit where the vector is masked or the function may send nothing. -/
def Chip.sendVector (d : Chip) (fn v : Nat) : Chip :=
  if d.hostStopped fn ∨ !d.hif.unmasked.contains (fn * 2048 + v) then
    d.hf (fun h => { h with msiPend := insNat (fn * 2048 + v) h.msiPend })
  else d.hf (fun h => { h with msix := h.msix ++ [(fn, v)] })

/-- Pending messages of a function that may go out now. -/
def Chip.sendPending (d : Chip) (fn : Nat) : Chip :=
  if d.hostStopped fn then d
  else
    let go := d.hif.msiPend.filter (fun k => k / 2048 = fn && d.hif.unmasked.contains k)
    d.hf (fun h => { h with msiPend := h.msiPend.filter (fun k => !go.contains k), msix := h.msix ++ go.map (fun k => (k / 2048, k % 2048)) })

def Chip.ringSignal (d : Chip) (r : Nat) : Chip :=
  (d.sendVector (d.ringFn r) (d.rg (Reg.HIF_RING.VECTOR r))).hf (fun h => { h with
    ints := tput h.ints r { (tget h.ints r).getD {} with count := 0 } })

/-- A reply written counted towards the ring pair's message. -/
def Chip.ringInt (d : Chip) (r : Nat) : Chip :=
  let x := (tget d.hif.ints r).getD {}
  let a := d.attnLevel + d.attnClass * 16
  let now := a ≠ x.attn
  let x : RingInt := ⟨x.count + 1, if x.count = 0 then d.tick else x.first, a⟩
  let d := d.hf (fun h => { h with ints := tput h.ints r x })
  let n := d.rg (Reg.HIF_RING.MOD_COUNT r)
  if now ∨ n = 0 ∨ x.count ≥ n then d.ringSignal r else d

/-- INTERRUPT_MODERATION_EXPIRY: void without an unsignalled reply, or before MOD_US has passed in whole ticks. -/
def modExpiry (d : Chip) (r : Nat) : Chip :=
  let x := (tget d.hif.ints r).getD {}
  if x.count = 0 ∨ d.tick + 1 < x.first + d.usTicks (d.rg (Reg.HIF_RING.MOD_US r)) then d else d.ringSignal r

def execInterruptModerationExpiry (r : BitVec 14) (s : State) : Out := s.on (fun d => modExpiry d r.toNat)

def execMsixVectorUnmask (fn : Fin 128) (vector : BitVec 11) (s : State) : Out :=
  s.on (fun d => (d.hf (fun h => { h with unmasked := insNat (fn.val * 2048 + vector.toNat) h.unmasked })).sendPending fn)

/-! ## Doorbells and ring pair records (R481, R482) -/

/-- A doorbell or record write discarded. -/
def Chip.dbRefused (d : Chip) (pf : Nat) : Chip := d.count (Reg.HIF_COUNT.COUNT pf 7)

def Chip.doorbellBad (d : Chip) (pf : Nat) : Chip := (d.dbRefused pf).fault (Src.HIF_DOORBELL pf)

def sub32 (a b : Nat) : Nat := (a + 2 ^ 32 - b % 2 ^ 32) % 2 ^ 32

/-- Whether a write by this requester is discarded: its port is frozen, its function is in reset, or a warm reset is under way (R648). -/
def Chip.reqDead (d : Chip) (by_ : Req) : Bool :=
  match by_ with
  | .fn f => d.frozen f || d.hif.flr.contains f || d.hub.inReset || d.pwr.trigger ≠ 0
  | .core _ => false

def Chip.dbCmd (d : Chip) (by_ : Req) (r tail : Nat) : Chip :=
  let d := d.wake
  if d.reqDead by_ ∨ d.hub.inReset then d
  else if !d.flag Reg.PCR_STATE.READY then d.dbRefused (reqPf by_)
  else if !d.mayWrite by_ r ∨ sub32 tail (d.rg (Reg.HIF_RING_IDX.CMD_HEAD r)) > d.cmdEntries r then d.doorbellBad (reqPf by_)
  else d.sr (Reg.HIF_DB_CMD.CMD_TAIL r) tail

def Chip.dbRpl (d : Chip) (by_ : Req) (r tail : Nat) : Chip :=
  let d := d.wake
  if d.reqDead by_ ∨ d.hub.inReset then d
  else if !d.flag Reg.PCR_STATE.READY then d.dbRefused (reqPf by_)
  else if !d.mayWrite by_ r ∨ sub32 (d.rg (Reg.HIF_RING_IDX.RPL_HEAD r)) tail ≥ 2 ^ 31 then d.doorbellBad (reqPf by_)
  else d.sr (Reg.HIF_DB_RPL.RPL_TAIL r) tail

def execHifDbCmd (by_ : Req) (r : BitVec 14) (tail : BitVec 32) (s : State) : Out := s.on (fun d => d.dbCmd by_ r.toNat tail.toNat)
def execHifDbRpl (by_ : Req) (r : BitVec 14) (tail : BitVec 32) (s : State) : Out := s.on (fun d => d.dbRpl by_ r.toNat tail.toNat)

/-- The host window of an address names one of the VF's own entries (R502). -/
def Chip.ownWindow (d : Chip) (fn a : Nat) : Bool :=
  let q := d.vfPool fn
  let e := a / 2 ^ 40 % 128
  !isVF fn || (q.hwinFirst ≤ e && e < q.hwinFirst + q.hwinCount)

/-- The check of R481. -/
def Chip.ringOk (d : Chip) (fn r : Nat) : Bool :=
  let cb := d.rg (Reg.HIF_RING.CMD_BASE r)
  let rb := d.rg (Reg.HIF_RING.RPL_BASE r)
  let m := d.rg (Reg.HIF_RING.MIRROR r)
  let (b, n) := d.bar2 fn
  let inside (a k : Nat) : Bool := b ≤ a && a + k ≤ b + n
  cb % 4096 = 0 && rb % 4096 = 0 && inside cb (64 * d.cmdEntries r) && inside rb (32 * d.rplEntries r) &&
  d.rg (Reg.HIF_RING.KIND r) ≤ 3 &&
  decide (d.rg (Reg.HIF_RING.VECTOR r) < (if isVF fn then (d.vfPool fn).vectors else 2048)) &&
  (m = 0 || (m % 64 = 0 && isHostWin m && d.winOk fn m 1 true && d.ownWindow fn m)) &&
  d.rg (Reg.HIF_RING.CMD_SIZE r) ≤ 9 && d.rg (Reg.HIF_RING.RPL_SIZE r) ≤ 9

/-- Whether a ring pair still has an item that has not ended, or a reply not yet written. -/
def Chip.ringOpen (d : Chip) (r : Nat) : Bool :=
  d.led.items.any (fun i => i.origin = .ring r && (!i.state.ended || !i.replied)) || d.owed.any (fun x => x.ring = r)

def Chip.ringDrain (d : Chip) (r : Nat) : Chip :=
  if d.flag (Reg.HIF_RING.DRAINING r) ∧ !d.ringOpen r then d.sr (Reg.HIF_RING.DRAINING r) 0 else d

def Chip.ringEnable (d : Chip) (by_ : Req) (r : Nat) : Chip :=
  if d.reqDead by_ then d
  else if !d.mayWrite by_ r then d.dbRefused (reqPf by_)
  else if d.flag (Reg.HIF_RING.ENABLE r) then d
  else match d.ringOwner r with
    | none => d.sr (Reg.HIF_RING.ERR r) 1
    | some fn =>
      if !d.ringOk fn r then d.sr (Reg.HIF_RING.ERR r) 1
      else
        let d := ((d.sr (Reg.HIF_RING.ENABLE r) 1).sr (Reg.HIF_RING.ERR r) 0).sr (Reg.HIF_RING.FUNC r) fn
        let d := ((d.sr (Reg.HIF_RING_IDX.CMD_HEAD r) 0).sr (Reg.HIF_RING_IDX.RPL_HEAD r) 0)
        (((d.sr (Reg.HIF_DB_CMD.CMD_TAIL r) 0).sr (Reg.HIF_DB_RPL.RPL_TAIL r) 0).hf (fun h => { h with ints := tdel h.ints r })).endAttn (.ringParity r)

def Chip.ringDisable (d : Chip) (by_ : Req) (r : Nat) : Chip :=
  if d.reqDead by_ then d
  else if !d.mayWrite by_ r then d.dbRefused (reqPf by_)
  else if !d.flag (Reg.HIF_RING.ENABLE r) then d
  else ((d.sr (Reg.HIF_RING.ENABLE r) 0).sr (Reg.HIF_RING.DRAINING r) 1).ringDrain r

def execHifRingEnable (by_ : Req) (r : BitVec 14) (s : State) : Out := s.on (fun d => d.ringEnable by_ r.toNat)
def execHifRingDisable (by_ : Req) (r : BitVec 14) (s : State) : Out := s.on (fun d => d.ringDisable by_ r.toNat)

/-! ## Fetch (R483, R486) -/

/-- Opcodes of general commands (R487, and chapters 14 to 17). -/
def generalOpcode (op : Nat) : Bool :=
  let k := op % 256
  match op / 256 with
  | 1 => 1 ≤ k && k ≤ 3
  | 2 => 1 ≤ k && k ≤ 4
  | 3 => 1 ≤ k && k ≤ 7
  | 4 => 1 ≤ k && k ≤ 4
  | 5 => 1 ≤ k && k ≤ 3
  | 6 => 1 ≤ k && k ≤ 3
  | 7 => 1 ≤ k && k ≤ 4
  | 8 => 1 ≤ k && k ≤ 12
  | 9 => 1 ≤ k && k ≤ 3
  | 10 => k = 1
  | 11 => 1 ≤ k && k ≤ 4
  | 12 => 1 ≤ k && k ≤ 6
  | 13 => 1 ≤ k && k ≤ 3
  | _ => false

/-- Replies a ring pair owes for accepted items, with those written and not consumed. -/
def Chip.ringLoad (d : Chip) (r : Nat) : Nat :=
  (d.led.items.filter (fun i => !i.replied && (match i.origin with
    | .ring k => k = r
    | .step _ k => k = r
    | _ => false))).length + (d.owed.filter (fun x => x.ring = r && x.seq = 0)).length +
  sub32 (d.rg (Reg.HIF_RING_IDX.RPL_HEAD r)) (d.rg (Reg.HIF_DB_RPL.RPL_TAIL r))

/-- The function's traffic a ring pair belongs to is not stopped. -/
def Chip.ringDead (d : Chip) (r : Nat) : Bool := d.frozen (d.ringFn r) || d.hif.flr.contains (d.ringFn r)

/-- COMMAND_FETCH: void where the ring pair has no command to fetch, one still in hand, or too little reply room. -/
def commandFetch (d : Chip) (r : Nat) (e : Desc) (poison : Bool) : Chip :=
  let head := d.rg (Reg.HIF_RING_IDX.CMD_HEAD r)
  let at_ := d.rg (Reg.HIF_RING.CMD_BASE r) + head % d.cmdEntries r * 64
  if !d.flag (Reg.HIF_RING.ENABLE r) ∨ d.flag (Reg.HIF_RING.ERR r) ∨ d.fetched.contains r ∨ d.ringDead r ∨ !d.running .hif ∨
      (d.agentRec (.block .hif)).fencing ∨ head = d.rg (Reg.HIF_DB_CMD.CMD_TAIL r) ∨ d.ringLoad r + 16 ≥ d.rplEntries r then d
  else
    let src (tag : BitVec 32) : Submit := ⟨.ring r, tag⟩
    let tag := BitVec.ofNat 32 (wf e.w0 32 32)
    if poison ∨ d.anyPoison at_ 64 then d.refuse (src 0xFFFF_FFFF) Code.HIF_CMD_POISON head
    else if d.rg (Reg.HIF_RING.KIND r) = 0 ∧ (!generalOpcode (opcodeOf e) ∨ wf e.w0 16 16 ≠ 0) then d.refuse (src tag) Code.HIF_BAD_CMD
    else { d with fetched := d.fetched ++ [r] }

def execCommandFetch (r : BitVec 14) (entry : Desc) (poison : Bool) (s : State) : Out :=
  s.on (fun d => commandFetch d r.toNat entry poison)

/-! ## Replies (R484, R485, R51) -/

/-- Whether an owed reply may be the ring pair's next: an intermediate reply or a refusal at once, an end-state reply when every
earlier item of the ring pair has had its own. -/
def Chip.replyReady (d : Chip) (x : Reply) : Bool :=
  x.more || x.seq = 0 || !d.led.items.any (fun i => i.seq < x.seq && !i.replied && (match i.origin with
    | .ring k => k = x.ring
    | .step _ k => k = x.ring
    | _ => false))

/-- A mirror write, held while the function may send nothing (R495). -/
def Chip.mirrorWrite (d : Chip) (fn a : Nat) (bs : List Nat) : Chip :=
  if d.hostStopped fn then d.hf (fun h => { h with mirrorHeld := h.mirrorHeld ++ [(fn, a, bs)] }) else d.wr a bs

/-- A reply written at RPL_HEAD. -/
def Chip.putReply (d : Chip) (r : Nat) (x : Reply) : Chip :=
  let fn := d.ringFn r
  let head := d.rg (Reg.HIF_RING_IDX.RPL_HEAD r)
  let n := d.rplEntries r
  let m := d.rg (Reg.HIF_RING.MIRROR r)
  let bs := (d.replyWords x (m ≠ 0)).flatMap (leBytes 8)
  let d := d.wr (d.rg (Reg.HIF_RING.RPL_BASE r) + head % n * 32) bs
  let d := d.sr (Reg.HIF_RING_IDX.RPL_HEAD r) ((head + 1) % 2 ^ 32)
  let d := if m = 0 then d else
    ((d.mirrorWrite fn (m + head % n * 32) bs).mirrorWrite fn (m + n * 32) (leBytes 8 ((head + 1) % 2 ^ 32))).count
      (Reg.HIF_COUNT.COUNT (pfOf fn) 3)
  let d := (d.count (Reg.HIF_COUNT.COUNT (pfOf fn) 2)).ringInt r
  { d with attnServed := if d.attnServed.contains fn then d.attnServed else fn :: d.attnServed }

def Chip.ringFull (d : Chip) (r : Nat) : Bool :=
  sub32 (d.rg (Reg.HIF_RING_IDX.RPL_HEAD r)) (d.rg (Reg.HIF_DB_RPL.RPL_TAIL r)) ≥ d.rplEntries r

/-- REPLY_WRITE: void where nothing is due, the ring is full or neither enabled nor draining, or the function is in reset. A frozen port holds the mirror writes only
(R493, log entry 55). -/
def replyWrite (d : Chip) (r : Nat) : Chip :=
  if d.ringFull r ∨ d.hif.flr.contains (d.ringFn r) ∨ !(d.flag (Reg.HIF_RING.ENABLE r) || d.flag (Reg.HIF_RING.DRAINING r)) then d
  else match d.owed.find? (fun x => x.ring = r && d.replyReady x) with
    | none => d
    | some x =>
      let d := { d with owed := d.owed.erase x }
      let d := d.putReply r x
      let d := if x.more ∨ x.seq = 0 then d else d.updItem x.seq (fun i => { i with replied := true })
      d.freeSlots.ringDrain r

def execReplyWrite (r : BitVec 14) (s : State) : Out := s.on (fun d => replyWrite d r.toNat)

/-- ATTENTION_REPLY: void where no condition stands, the function was served since the rise, or its ring pair 0 is not enabled or full. -/
def attentionReply (d : Chip) (fn : Nat) : Chip :=
  let r := (d.fnRings fn).1
  if d.attnLevel = 0 ∨ d.attnServed.contains fn ∨ (d.fnRings fn).2 = 0 ∨ !d.flag (Reg.HIF_RING.ENABLE r) ∨ d.ringFn r ≠ fn ∨
      d.ringFull r ∨ d.hif.flr.contains (d.ringFn r) then d
  else d.putReply r ⟨r, Code.OK, 0xFFFF_FFFF, 0, false, d.single, false, false, 0, 0⟩

def execAttentionReply (fn : Nat) (s : State) : Out := s.on (fun d => attentionReply d fn)

/-! ## Reads, tags and completions (R495, R496) -/

/-- The outstanding reads of functions meeting a condition discarded: their tags quarantined, the reads to be reissued. -/
def Chip.dropReads (d : Chip) (p : Nat → Bool) : Chip :=
  d.hf (fun h => { h with
    quar := h.quar ++ (h.reads.filter (fun r => p r.fn)).filterMap (fun r => r.tag.map (fun t => (r.pf, t, d.tick)))
    reads := h.reads.map (fun r => if p r.fn then { r with tag := none } else r) })

/-- Reads that were discarded issued again, held mirror writes and interrupts sent, for the functions that may send now. -/
def Chip.hostResume (d : Chip) (fns : List Nat) : Chip :=
  let d := d.readsGo
  let go := d.hif.mirrorHeld.filter (fun m => fns.contains m.1 && !d.hostStopped m.1)
  let d := d.hf (fun h => { h with mirrorHeld := h.mirrorHeld.filter (fun m => !(fns.contains m.1 && !d.hostStopped m.1)) })
  let d := go.foldl (fun (d : Chip) m => d.wr m.2.1 m.2.2) d
  let d := (fns.foldl (fun (d : Chip) f => d.sendPending f) d).collsGo.bulksGo
  let d := (d.dvt.conns.map (·.1)).foldl (fun (d : Chip) c => d.dvtGo c) d
  (List.range 32).foldl (fun (d : Chip) c => d.dmaGo c) d

def cplTicks (d : Chip) : Nat := d.usTicks (d.rg Reg.HIF_CPL_TIMEOUT.LIMIT)

/-- COMPLETION_TIMEOUT: void where the tag has no read out, or before HIF_CPL_TIMEOUT has passed in whole ticks. -/
def completionTimeout (d : Chip) (pf tag : Nat) : Chip :=
  match d.hif.reads.find? (fun r => r.pf = pf && r.tag = some tag) with
  | none => d
  | some r =>
    if d.tick + 1 < r.since + cplTicks d then d
    else
      let d := (d.hf (fun h => { h with quar := h.quar ++ [(pf, tag, d.tick)], reads := h.reads.erase r })).count (Reg.HIF_COUNT.COUNT pf 4)
      let d := d.fault (Src.HIF_CPL_TIMEOUT pf)
      if r.retried then d.readsGo.readFailed r Code.TIMEOUT
      else
        let t := d.freeTag pf
        (d.hf (fun h => { h with reads := h.reads ++ [{ r with tag := some t, since := d.tick, retried := true }] })).count (Reg.HIF_COUNT.COUNT pf 6)

/-- COMPLETION_ARRIVAL: merged, or discarded for a quarantined tag; `ok` is false for Unsupported Request or Completer Abort. -/
def completionArrival (d : Chip) (pf tag : Nat) (ok : Bool) : Chip :=
  if d.hif.quar.any (fun q => q.1 = pf && q.2.1 = tag) then
    ((d.hf (fun h => { h with quar := h.quar.filter (fun q => !(q.1 = pf && q.2.1 = tag)) })).count (Reg.HIF_COUNT.COUNT pf 5)).fault
      (Src.HIF_LATE_CPL pf)
  else match d.hif.reads.find? (fun r => r.pf = pf && r.tag = some tag) with
    | none => d
    | some r =>
      let d := (d.hf (fun h => { h with reads := h.reads.erase r })).readsGo
      if ok then d else d.readFailed r Code.HIF_UR

def quarantineExpiry (d : Chip) (pf tag : Nat) : Chip :=
  d.hf (fun h => { h with quar := h.quar.filter (fun q => !(q.1 = pf && q.2.1 = tag && q.2.2 + cplTicks d ≤ d.tick + 1)) })

def execTagQuarantineExpiry (pf : Fin 2) (tag : BitVec 14) (s : State) : Out := s.on (fun d => quarantineExpiry d pf tag.toNat)

/-- ATS_INVALIDATION: every request that used a translation has issued by the time the device takes the invalidation. -/
def execAtsInvalidation (pf : Fin 2) (addr : Word) (pages : BitVec 32) (s : State) : Out :=
  s.on (fun d => d.hf (fun h => { h with atc := h.atc.filter (fun k =>
    !(k / 2 ^ 52 = pf.val && addr.toNat / 4096 ≤ k % 2 ^ 52 && k % 2 ^ 52 < addr.toNat / 4096 + pages.toNat)) }))

/-! ## Port freeze (R493, R494) -/

/-- The functions of a PF: itself and its VFs. -/
def pfFns (pf : Nat) : List Nat := pf :: ((List.range 63).map (fun v => vfNum pf (v + 1)))

def linkError (d : Chip) (pf cause : Nat) : Chip :=
  let d := d.hf (fun h => { h with aer := insNat (pf * 65536 + cause) h.aer })
  if d.frozen pf then d.fault (Src.HIF_UNCORR pf)
  else
    let d := (((d.sr (Reg.HIF_STATE.FROZEN pf) 1).sr (Reg.HIF_FREEZE.RELEASE pf) 0).sr (Reg.HIF_FREEZE.CAUSE pf) cause).count (Reg.HIF_COUNT.COUNT pf 8)
    ((d.dropReads (fun f => pfOf f = pf)).raiseAttn (.frozen pf) .degraded clsHost).fault (Src.HIF_UNCORR pf)

def execUncorrectableLinkError (pf : Fin 2) (cause : BitVec 5) (s : State) : Out := s.on (fun d => linkError d pf cause.toNat)

def Chip.freezeRelease (d : Chip) (pf : Nat) : Chip :=
  if !d.frozen pf ∨ d.hif.aer.contains (pf * 65536 + d.rg (Reg.HIF_FREEZE.CAUSE pf)) then d
  else (((d.sr (Reg.HIF_STATE.FROZEN pf) 0).sr (Reg.HIF_FREEZE.CAUSE pf) 0xFFFF).endAttn (.frozen pf)).hostResume (pfFns pf)

/-- AER_STATUS_CLEAR: the status bit that CAUSE names. -/
def execAerStatusClear (pf : Fin 2) (s : State) : Out :=
  s.on (fun d => d.hf (fun h => { h with aer := h.aer.filter (· ≠ pf.val * 65536 + d.rg (Reg.HIF_FREEZE.CAUSE pf.val)) }))

/-! ## Bus Master Enable (R495) -/

def Chip.setMaster (d : Chip) (fn : Nat) (b : Bool) : Chip :=
  if isVF fn then d.hf (fun h => { h with vfMe := if b then insNat fn h.vfMe else h.vfMe.filter (· ≠ fn) })
  else d.sr (Reg.HIF_STATE.ME fn) (b2n b)

def execBusMasterEnableClear (fn : Fin 128) (s : State) : Out :=
  s.on (fun d => (d.setMaster fn false).dropReads (· = fn.val))

/-! ## Virtual functions (R489, R491) -/

/-- Two ranges that share a number. -/
def rangesMeet (a n b m : Nat) : Bool := a < b + m && b < a + n && n ≠ 0 && m ≠ 0

/-- The check of a pool record against the PF and the other VFs that are being enabled or are active. -/
def Chip.poolOk (d : Chip) (pf v num : Nat) : Bool :=
  let q := d.poolRec pf v
  let size (p : Nat) : Nat := 2 ^ d.rg (Reg.HIF_VF_CFG.BAR2_LOG2 p)
  let others := ((List.range 63).map (· + 1)).filterMap (fun w => if w ≠ v ∧ w ≤ num then some (pf, d.poolRec pf w) else none) ++
    ((List.range 63).map (· + 1)).filterMap (fun w => if (d.poolRec (1 - pf) w).state = 1 ∨ (d.poolRec (1 - pf) w).state = 3 then
      some (1 - pf, d.poolRec (1 - pf) w) else none)
  let first := d.rg (Reg.HIF_FUNC_RINGS.FIRST pf)
  first ≤ q.ringFirst && q.ringFirst + q.ringCount ≤ first + d.rg (Reg.HIF_FUNC_RINGS.COUNT pf) &&
  1 ≤ q.ringCount && q.ringCount ≤ 1024 && 1 ≤ q.vectors && q.vectors ≤ 64 && q.hwinFirst + q.hwinCount ≤ 128 &&
  q.memBase % size pf = 0 && isNear q.memBase && d.inOne q.memBase (size pf) && !d.deviceNear q.memBase (size pf) &&
  [0, 1].all (fun p => !rangesMeet q.memBase (size pf) (d.rg (Reg.HIF_BAR2_BASE.BASE p)) 0x1_0000_0000) &&
  others.all (fun o =>
    !rangesMeet q.ringFirst q.ringCount o.2.ringFirst o.2.ringCount && !rangesMeet q.memBase (size pf) o.2.memBase (size o.1) &&
    (o.1 ≠ pf || !rangesMeet q.hwinFirst q.hwinCount o.2.hwinFirst o.2.hwinCount))

def Chip.setPool_ (d : Chip) (pf v : Nat) (f : PoolRec → PoolRec) : Chip :=
  d.hf (fun h => { h with pools := tput h.pools (pf * 64 + v) (f (d.poolRec pf v)) })

/-- VF_ENABLE_SET: AC0 checks the records of VFs 1 to NumVFs. -/
def vfEnable (d : Chip) (pf num : Nat) : Chip :=
  if d.rg (Reg.HIF_STATE.NUM_VFS pf) ≠ 0 then d
  else
    let d := d.sr (Reg.HIF_STATE.NUM_VFS pf) num
    ((List.range num).map (· + 1)).foldl (fun (e : Chip) v => e.setPool_ pf v (fun q => { q with state := if d.poolOk pf v num then 1 else 2 })) d

/-- VF_MBOX_DB: the message goes to AC0, whose DOORBELL is raised; discarded while one is pending. -/
def mboxDb (d : Chip) (pf v : Nat) (m : List Nat) : Chip :=
  let k := pf * 64 + v
  let x := (tget d.hif.mbox k).getD {}
  if v = 0 ∨ (d.poolRec pf v).state ≠ 1 ∨ d.frozen pf then d
  else if x.db then d.doorbellBad pf
  else (d.hf (fun h => { h with mbox := tput h.mbox k { x with out := (m ++ List.replicate 64 0).take 64, db := true } })).pend 0 2

def execVfMboxDb (pf : Fin 2) (vf : Fin 64) (message : List (BitVec 8)) (s : State) : Out :=
  s.on (fun d => mboxDb d.wake pf vf (message.map BitVec.toNat))

/-- AC0 takes the pending messages and answers each: TYPE and TAG come back, STATUS and the rest belong to the firmware's interface revision and are free. -/
def Chip.mboxTake (d : Chip) : Chip :=
  if !d.coreServes (d.roleCore 0) then d
  else (d.hif.mbox.filter (fun (m : Nat × Mbox) => m.2.db)).foldl (fun (d : Chip) (m : Nat × Mbox) =>
    let free (i : Nat) : Nat := (Config.randomByte d.free i).toNat
    let ans := m.2.out.take 2 ++ [free 2, free 3] ++ (m.2.out.drop 4).take 4 ++ (List.range 56).map (fun i => free (i + 8))
    let d := (d.hf (fun h => { h with mbox := tput h.mbox m.1 { m.2 with db := false, inn := ans, inValid := true } })).takeFree
    d.sendVector (vfNum (m.1 / 64) (m.1 % 64)) 0) d

/-! ## Function-level reset (R497, R498) -/

/-- Fetch stops, outstanding tags are quarantined, and a withdrawal reaches every item of the function. -/
def Chip.flr (d : Chip) (fn : Nat) : Chip :=
  if d.hif.flr.contains fn then d
  else
    let d := (d.hf (fun h => { h with flr := insNat fn h.flr })).count (Reg.HIF_COUNT.COUNT (pfOf fn) 9)
    let d := if isVF fn then d.setPool_ (pfOf fn) (vfOf fn) (fun q => { q with state := 3 }) else d.sr (Reg.HIF_STATE.FLR_BUSY fn) 1
    let d : Chip := { d with
      fetched := d.fetched.filter (fun r => d.ringFn r ≠ fn)
      nvs := { d.nvs with
        ctls := tupd d.nvs.ctls fn (fun c => if bitOf c.cc 0 then { c with cc := clrBitN c.cc 0, resetting := true } else c)
        hand := d.nvs.hand.filter (fun h => h.1 ≠ fn) } }
    let d := d.dropReads (· = fn)
    ((d.led.items.filter (fun i => i.fn = fn)).map (·.seq)).foldl (fun (d : Chip) q => d.withdraw q Code.WITHDRAWN) d

/-- Whether a function exists to be reset: a PF, or a VF that is enabled. -/
def Chip.fnExists (d : Chip) (fn : Nat) : Bool :=
  !isVF fn || (1 ≤ vfOf fn && vfOf fn ≤ d.rg (Reg.HIF_STATE.NUM_VFS (pfOf fn)) && (d.vfPool fn).state = 1)

/-- VF_ENABLE_CLEAR: each VF's items are withdrawn as by an FLR; its resources go back when they have ended. -/
def vfDisable (d : Chip) (pf : Nat) : Chip :=
  let vs := (List.range (d.rg (Reg.HIF_STATE.NUM_VFS pf))).map (· + 1)
  let d := vs.foldl (fun (d : Chip) v =>
    let q := d.poolRec pf v
    if q.state = 1 then (d.hf (fun h => { h with vfOff := insNat (vfNum pf v) h.vfOff })).flr (vfNum pf v)
    else if q.state = 3 then d.hf (fun h => { h with vfOff := insNat (vfNum pf v) h.vfOff })
    else d.setPool_ pf v (fun q => { q with state := 0 })) d
  d.sr (Reg.HIF_STATE.NUM_VFS pf) 0

/-- The records of a ring pair and its indices cleared. -/
def Chip.clearRing (d : Chip) (r : Nat) : Chip :=
  let lo := 8 * (0x180000 + r * 32)
  let hi := lo + 256
  let i := 8 * (0x140000 + r * 8)
  let b := 8 * (0x120000 + r * 8)
  { d with
    regs := d.regs.filter (fun p => !(lo ≤ p.1 && p.1 < hi) && !(i ≤ p.1 && p.1 < i + 64) && !(b ≤ p.1 && p.1 < b + 64))
    hif := { d.hif with ints := tdel d.hif.ints r } }

/-- One report record (R498). -/
def Chip.flrRecord (d : Chip) (fn : Nat) (x : Reply) : List Nat :=
  (d.replyWords x false).flatMap (leBytes 8) ++ leBytes 2 (x.ring - (d.fnRings fn).1) ++ List.replicate 30 0

/-- FLR_COMPLETE: void while an item of the function has not ended. -/
def flrComplete (d : Chip) (fn : Nat) : Chip :=
  if !d.hif.flr.contains fn ∨ d.led.items.any (fun i => i.fn = fn && !i.state.ended) ∨
      ((tget d.nvs.ctls fn).map (fun c => c.resetting)).getD false then d
  else
    let pf := pfOf fn
    let (first, n) := d.fnRings fn
    let mine (r : Nat) : Bool := first ≤ r && r < first + n && d.ringFn r = fn
    let rs := (d.owed.filter (fun x => mine x.ring && !x.more && x.seq ≠ 0)).mergeSort (fun a b => a.seq ≤ b.seq)
    let rs := rs.take 65536
    let base := d.rg Reg.HIF_FLR_BASE.BASE + fn * 0x40_0000
    let d := d.wr base (rs.flatMap (fun x => d.flrRecord fn x))
    let d := d.sr (Reg.HIF_FLR_COUNT.COUNT pf) rs.length
    let d := { d with owed := d.owed.filter (fun x => !mine x.ring) }
    let d : Chip := { d with led := { d.led with items := d.led.items.map (fun (i : Item) => if i.fn = fn then { i with replied := true } else i) } }
    let d := d.freeSlots
    let rings := ((d.regs.filter (fun (p : Nat × Nat) => 8 * 0x120000 ≤ p.1 && p.1 < 8 * 0x200000)).map (fun (p : Nat × Nat) =>
      let o := p.1 / 8
      if o ≥ 0x180000 then (o - 0x180000) / 32 else if o ≥ 0x140000 then (o - 0x140000) / 8 else (o - 0x120000) / 8)).eraseDups
    let d := (rings.filter (fun r => d.ringOwner r = some fn)).foldl (fun (d : Chip) r => d.clearRing r) d
    let q := d.vfPool fn
    let d := if isVF fn then
        d.hf (fun h => { h with
          mbox := tdel h.mbox (vfKey fn)
          hwin := h.hwin.filter (fun (w : Nat × HWin) => !(w.1 / 128 = pf && q.hwinFirst ≤ w.1 % 128 && w.1 % 128 < q.hwinFirst + q.hwinCount)) })
      else d.sr (Reg.HIF_STATE.FLR_BUSY fn) 0
    let off := d.hif.vfOff.contains fn
    let d := if isVF fn then d.setPool_ pf (vfOf fn) (fun q => { q with state := if off then 0 else 1 }) else d
    let d := (d.setMaster fn false).hf (fun h => { h with
      flr := h.flr.filter (· ≠ fn)
      vfOff := h.vfOff.filter (· ≠ fn)
      unmasked := h.unmasked.filter (fun k => k / 2048 ≠ fn)
      msiPend := h.msiPend.filter (fun k => k / 2048 ≠ fn)
      mirrorHeld := h.mirrorHeld.filter (fun m => m.1 ≠ fn)
      reads := h.reads.filter (fun r => r.fn ≠ fn) })
    d

/-! ## Written-page logs (R492) -/

def dirtyKey (d : Chip) (src : Submit) (vf : Nat) : Nat := pfOf (d.originFn src.origin) * 64 + vf

/-- The effect of DIRTY_LOG at its commit point; SWAP answers the old bitmap. -/
def Chip.dirtyEffect (d : Chip) (fn : Nat) (x : Desc) : Chip :=
  let k := pfOf fn * 64 + wf x.w1 0 8
  let b := x.w4.toNat
  match wf x.w1 8 8 with
  | 1 => d.hf (fun h => { h with dirty := tput h.dirty k ⟨x.w2.toNat, wf x.w3 0 32, b⟩ })
  | 2 => d.hf (fun h => { h with dirty := tupd h.dirty k (fun g => { g with bitmap := b }) })
  | _ => d.hf (fun h => { h with dirty := tdel h.dirty k })

def bitmapOk (d : Chip) (b pages : Nat) : Bool := d.inDieOrNear b (max 1 (ceilDiv pages 8))

def dirtyLog (d : Chip) (src : Submit) (op vf hbase pages bitmap : Nat) : Chip :=
  let g := tget d.hif.dirty (dirtyKey d src vf)
  let bad := vf = 0 ∨ vf > 63 ∨ (op = 1 ∧ hbase % 4096 ≠ 0) ∨
    (op ≠ 3 ∧ !bitmapOk d bitmap (if op = 1 then pages else (g.map (fun g => g.pages)).getD 0))
  if bad then d.refuse src Code.HIF_BAD_CMD
  else if (op = 1) = g.isSome then d.refuse src Code.HIF_LOG_STATE
  else
    let x := genBody 0x0902 src [vf + op * 2 ^ 8, hbase, pages, bitmap]
    let fn := d.originFn src.origin
    let d := d.acceptCmd src (.general 0x0902) x (d.originDomain src.origin) (0x40 + d.roleCore 0)
    d.finishWith d.lastSeq (fun d => d.dirtyEffect fn x) Code.OK 0 (if op = 2 then (g.map (fun g => g.bitmap)).getD 0 else 0)

def execDirtyLogStart (src : Submit) (vf : BitVec 8) (hbase : Nat) (pages : BitVec 32) (bitmap : Nat) (s : State) : Out :=
  s.on (fun d => d.served 0 (fun d => d.submit src .hif false (fun d => dirtyLog d src 1 vf.toNat hbase pages.toNat bitmap)))

def execDirtyLogSwap (src : Submit) (vf : BitVec 8) (bitmap : Nat) (s : State) : Out :=
  s.on (fun d => d.served 0 (fun d => d.submit src .hif false (fun d => dirtyLog d src 2 vf.toNat 0 0 bitmap)))

def execDirtyLogStop (src : Submit) (vf : BitVec 8) (s : State) : Out :=
  s.on (fun d => d.served 0 (fun d => d.submit src .hif false (fun d => dirtyLog d src 3 vf.toNat 0 0 0)))

end Sys2Proof.Machine
end

