-- ==== Sys2Proof/Machine/Nvme.lean ====
section
/-! DEFINITION. The storage front end (chapter 15): NVMe controllers and their queues, namespaces and targets, range locks. -/
namespace Sys2Proof.Machine
open Sys2Proof

def Chip.nv (d : Chip) (f : NvsUnit → NvsUnit) : Chip := { d with nvs := f d.nvs }

def Chip.ctl (d : Chip) (fn : Nat) : NvmeCtl := (tget d.nvs.ctls fn).getD {}

def Chip.setCtl (d : Chip) (fn : Nat) (c : NvmeCtl) : Chip := d.nv (fun u => { u with ctls := tput u.ctls fn c })

def Chip.updCtl (d : Chip) (fn : Nat) (f : NvmeCtl → NvmeCtl) : Chip := d.setCtl fn (f (d.ctl fn))

/-! ## The controller memory buffer (R528) -/

/-- The near-tier address and the length of a function's CMB. -/
def Chip.cmb (d : Chip) (fn : Nat) : Nat × Nat :=
  if isVF fn then
    let (b, n) := d.bar2 fn
    (b + n / 4 * 3, n / 4)
  else (d.rg Reg.NVS_CMB_BASE.BASE + fn * 0x1000_0000, 0x1000_0000)

/-- The near-tier address of a bus range that lies in the function's own CMB. -/
def Chip.inCmb (d : Chip) (fn a n : Nat) : Option Nat :=
  let m := (d.ctl fn).cmbmsc
  let cba := m / 4096 * 4096
  let (b, len) := d.cmb fn
  if bitOf m 1 ∧ cba ≤ a ∧ a + n ≤ cba + len then some (b + (a - cba)) else none

/-- Pieces of a transfer over its PRP entries: bus address and bytes. -/
def prpPieces : List Nat → Nat → List (Nat × Nat)
  | [], _ => []
  | p :: ps, n => if n = 0 then [] else (p, min n (4096 - p % 4096)) :: prpPieces ps (n - min n (4096 - p % 4096))

/-- The part of a transfer's pieces from one of its bytes on. -/
def subPieces : List (Nat × Nat) → Nat → Nat → List (Nat × Nat)
  | [], _, _ => []
  | p :: ps, o, n =>
    if n = 0 then []
    else if o ≥ p.2 then subPieces ps (o - p.2) n
    else (p.1 + o, min n (p.2 - o)) :: subPieces ps 0 (n - min n (p.2 - o))

/-- Bytes written through PRP entries: into the CMB, or to the host. -/
def Chip.prpWrite (d : Chip) (fn : Nat) : List (Nat × Nat) → List Nat → Chip
  | [], _ => d
  | p :: ps, bs =>
    let b := bs.take p.2
    let d := match d.inCmb fn p.1 p.2 with
      | some a => d.wr a b
      | none => d.nv (fun u => { u with hostOut := u.hostOut ++ [(fn, p.1, b)] })
    d.prpWrite fn ps (bs.drop p.2)

/-- Bytes read through PRP entries; `host` is what the host's memory gives for the whole transfer. -/
def Chip.prpRead (d : Chip) (fn : Nat) : List (Nat × Nat) → List Nat → List (Nat × Bool)
  | [], _ => []
  | p :: ps, host =>
    (match d.inCmb fn p.1 p.2 with
      | some a => d.readRange a p.2
      | none => ((host ++ List.replicate p.2 0).take p.2).map (fun b => (b, false))) ++ d.prpRead fn ps (host.drop p.2)

/-- Whether a transfer needs the host link, and whether that link is stopped. -/
def Chip.prpHost (d : Chip) (fn : Nat) (ps : List (Nat × Nat)) : Bool := ps.any (fun p => (d.inCmb fn p.1 p.2).isNone)

/-! ## Completions (R536, R546) -/

def nvOk : Nat := 0
def nvStatus (sct sc : Nat) : Nat := sct * 256 + sc

/-- The status of a device outcome; `op` is the I/O opcode, or 0xFF for an admin command. -/
def nvmeStatus (op code : Nat) : Nat :=
  if code = Code.OK then 0
  else if code = Code.WITHDRAWN then nvStatus 0 0x08
  else if code = Code.POISONED_DATA then nvStatus 2 (if op = 2 then 0x81 else 0x80)
  else if code = Code.TIMEOUT ∨ code = Code.NVS_TARGET_LOST then nvStatus 3 0
  else if code = Code.HIF_UR ∨ code = Code.HIF_XLAT_FAULT then nvStatus 0 0x04
  else if code = Code.FW_NOT_STAGED then nvStatus 1 0x06
  else if code = Code.FW_BAD_IMAGE ∨ code = Code.FW_ROLLBACK then nvStatus 1 0x07
  else if code = Code.FW_BUSY then nvStatus 1 0x13
  else nvStatus 0 0x06

/-- The 16 bytes of a completion queue entry. -/
def cqeBytes (c : NvmeCqe) (head phase : Nat) : List Nat :=
  leBytes 4 c.dw0 ++ leBytes 4 c.seq ++ leBytes 2 head ++ leBytes 2 c.sq ++ leBytes 2 c.cid ++ leBytes 2 (phase + c.status * 2)

/-- A waiting completion written where its queue has room and the host link it needs is not stopped, with its interrupt. -/
def Chip.cqPut (d : Chip) (fn q : Nat) (c : NvmeCqe) : Chip :=
  let x := d.ctl fn
  match tget x.cqs q with
  | none => d
  | some cq =>
    if (cq.tail + 1) % cq.size = cq.head ∨ (d.prpHost fn [(cq.base + cq.tail * 16, 16)] ∧ d.hostStopped fn) then d.setCtl fn { x with cqs := tput x.cqs q { cq with wait := cq.wait ++ [c] } }
    else
      let head := ((tget x.sqs c.sq).map (fun s => s.head)).getD 0
      let d := d.prpWrite fn [(cq.base + cq.tail * 16, 16)] (cqeBytes c head cq.phase)
      let t := (cq.tail + 1) % cq.size
      let d := d.setCtl fn { x with cqs := tput x.cqs q { cq with tail := t, phase := (if t = 0 then 1 - cq.phase else cq.phase) } }
      match cq.vector with
      | some v => d.sendVector fn v
      | none => d

/-- The entries that wait on a completion queue, written as far as there is room. -/
def Chip.cqFlush (d : Chip) (fn q : Nat) : Chip :=
  match tget (d.ctl fn).cqs q with
  | none => d
  | some cq =>
    let d := d.updCtl fn (fun x => { x with cqs := tupd x.cqs q (fun c => { c with wait := [] }) })
    cq.wait.foldl (fun (d : Chip) c => d.cqPut fn q c) d

/-- A command completed. -/
def Chip.nvPost (d : Chip) (fn sq cid status : Nat) (dw0 : Nat := 0) (seq : Nat := 0) : Chip :=
  match tget (d.ctl fn).sqs sq with
  | none => d
  | some s => d.cqPut fn s.cq ⟨sq, cid, status, dw0, seq⟩

/-! ## What goes on when an item has ended -/

/-- Whether an earlier command stands in the way of one (R539; a Flush waits for every earlier write of its namespace). -/
def Chip.lockedOut (d : Chip) (seq : Nat) (c : NvmeCmd) : Bool :=
  d.nvs.cmds.any (fun (o : Nat × NvmeCmd) => o.1 < seq && o.2.ns = c.ns &&
    (if c.op = 0 then o.2.op = 1 || o.2.op = 8
     else o.2.op ≠ 0 && !(o.2.op = 2 && c.op = 2) && rangesMeet c.slba c.count o.2.slba o.2.count))

/-- Range locks held, and those that wait on a conflict (R539). -/
def Chip.syncLocks (d : Chip) : Chip :=
  let ls := d.nvs.cmds.filter (fun (c : Nat × NvmeCmd) => c.2.op ≠ 0)
  (d.sr Reg.NVS_LOCKS.IN_USE ls.length).sr Reg.NVS_LOCKS.WAITING
    (ls.filter (fun (c : Nat × NvmeCmd) => !c.2.started && d.lockedOut c.1 c.2)).length

def NvmeNs.blockBytes (n : NvmeNs) : Nat := 2 ^ n.lbads

def Chip.targetState (d : Chip) (t : Nat) : Nat := ((tget d.nvs.targets t).map (fun x => x.state)).getD 0

/-- A command that no lock holds back starts: on a device tier it does its work; on a remote target its command goes out, after the host
data of a Write is here (R537: a rerun reads it again). -/
def Chip.nvStart (d : Chip) (seq : Nat) (c : NvmeCmd) (n : NvmeNs) : Chip :=
  let len := c.count * n.blockBytes
  let ps := prpPieces c.prps len
  let fin (d : Chip) (code : Nat) : Chip := d.updItem seq (fun i => { i with state := .running, fin := some ⟨code, 0, 0⟩ })
  let d := d.nv (fun u => { u with cmds := tput u.cmds seq { c with started := true } })
  if c.op = 0 ∧ n.backing = 0 then fin d Code.OK
  else if n.backing ≠ 0 then
    let d := d.updItem seq (fun i => { i with state := .running })
    if c.op = 1 ∧ d.prpHost c.fn ps then d.issueRead c.fn seq else d
  else
    let a := n.base + c.slba * n.blockBytes
    if d.unmapped a len then d.withdraw seq Code.MEM_UNMAPPED
    else match c.op with
      | 2 =>
        let d := d.noteRead a len
        let bs := d.readRange a len
        let bad := (List.range c.count).filter (fun k => ((bs.drop (k * n.blockBytes)).take n.blockBytes).any (·.2))
        let d := if bad.isEmpty then d.prpWrite c.fn ps (bs.map (·.1))
          else (List.range c.count).foldl (fun (d : Chip) k =>
            if bad.contains k then d
            else
              d.prpWrite c.fn (subPieces ps (k * n.blockBytes) n.blockBytes) (((bs.drop (k * n.blockBytes)).take n.blockBytes).map (·.1))) d
        fin (d.count (Reg.NVS_COUNT.COUNT 2) len) (if bad.isEmpty then Code.OK else Code.POISONED_DATA)
      | 1 =>
        let bs := d.prpRead c.fn ps c.data
        let d := if d.prpHost c.fn ps then d.issueRead c.fn seq else d
        let lost := d.writeLost a len
        fin ((d.writeRange a bs).count (Reg.NVS_COUNT.COUNT 3) len) (if lost || bs.any (·.2) then Code.POISONED_DATA else Code.OK)
      | _ =>
        let lost := d.writeLost a len
        fin (d.wr a (List.replicate len 0)) (if lost then Code.POISONED_DATA else Code.OK)

/-- Accepted commands that may start, started in acceptance order. -/
def Chip.nvStartAll (d : Chip) : Chip :=
  if !d.running .nvs || (d.agentRec (.block .nvs)).fencing then d
  else (d.nvs.cmds.map (fun (c : Nat × NvmeCmd) => c.1)).foldl (fun (d : Chip) seq =>
    match tget d.nvs.cmds seq with
    | none => d
    | some c =>
      match tget d.nvs.ns c.ns with
      | none => d
      | some n =>
        let stopped := d.prpHost c.fn (prpPieces c.prps (c.count * n.blockBytes)) && d.hostStopped c.fn
        if c.started ∨ d.lockedOut seq c ∨ stopped then d else d.nvStart seq c n) d

/-- What a started command of a remote target does next: its command goes out, or the data of its Read goes to the host. -/
def Chip.nvOut (d : Chip) (seq : Nat) (c : NvmeCmd) (n : NvmeNs) : Chip :=
  let ps := prpPieces c.prps (c.count * n.blockBytes)
  let open_ : Bool := (d.item seq).any (fun i => i.fin.isNone && !i.state.ended)
  if n.backing = 0 ∨ !c.started ∨ !open_ then d
  else if c.got then
    if d.prpHost c.fn ps ∧ d.hostStopped c.fn then d
    else ((d.prpWrite c.fn ps c.data).count (Reg.NVS_COUNT.COUNT 2) (c.count * n.blockBytes)).updItem seq (fun i => { i with fin := some ⟨Code.OK, 0, 0⟩ })
  else if !d.running .nvs ∨ d.readsOut seq ∨ d.nvs.back.any (fun b => b.seq = seq) then d
  else d.nv (fun u => { u with back := u.back ++ [(⟨seq, n.target, d.tick, false⟩ : NvmeBack)] })

def Chip.nvOutAll (d : Chip) : Chip :=
  (d.nvs.cmds.map (fun (c : Nat × NvmeCmd) => c.1)).foldl (fun (d : Chip) seq =>
    match tget d.nvs.cmds seq with
    | none => d
    | some c =>
      match tget d.nvs.ns c.ns with
      | none => d
      | some n => d.nvOut seq c n) d

/-- The completions that waited for a host link. -/
def Chip.nvCqs (d : Chip) : Chip :=
  d.nvs.ctls.foldl (fun (d : Chip) (c : Nat × NvmeCtl) =>
    c.2.cqs.foldl (fun (d : Chip) (q : Nat × NvmeCq) => if q.2.wait.isEmpty then d else d.cqFlush c.1 q.1) d) d

/-- Commands whose item has ended leave the range-lock table. -/
def Chip.nvDrop (d : Chip) : Chip :=
  let gone (seq : Nat) : Bool := match d.item seq with
    | some i => i.state.ended
    | none => true
  d.nv (fun u => { u with
    cmds := u.cmds.filter (fun (c : Nat × NvmeCmd) => !gone c.1)
    back := u.back.filter (fun b => !gone b.seq) })

/-- Replies that became due turned into completions: none for a controller in reset, whose withdrawn commands go to the report; a
staging that an activation follows is not completed yet. -/
def Chip.nvDue (d : Chip) (act : Chip → Submit → Nat → Nat → Chip) : Chip :=
  let due := d.nvs.due
  let d := d.nv (fun u => { u with due := [] })
  due.foldl (fun (d : Chip) (x : NvmeDue) =>
    let c := d.ctl x.fn
    if c.resetting then
      if x.seq = 0 then d else d.setCtl x.fn { c with report := c.report ++ [(x.seq, x.code)] }
    else
      let cmd := tget d.nvs.cmds x.seq
      let op := (cmd.map (fun c => c.op)).getD 0xFF
      let st := (cmd.bind (fun c => c.status)).getD (nvmeStatus op x.code)
      let d := if op = 0xFF ∨ x.code ≠ Code.WITHDRAWN then d else d.count (Reg.NVS_COUNT.COUNT 5)
      match c.chain with
      | some (cid, slot, mode) =>
        if x.qid = 0 ∧ x.cid = cid ∧ x.code = Code.OK then
          act (d.setCtl x.fn { c with chain := none }) ⟨.nvme x.fn 0 cid, BitVec.ofNat 32 cid⟩ slot mode
        else (d.setCtl x.fn { c with chain := none }).nvPost x.fn x.qid x.cid st 0 x.seq
      | none => d.nvPost x.fn x.qid x.cid st 0 x.seq) d

/-- One queue that a Delete command waits for (R541): gone once its items have ended and their completions are written. -/
def Chip.nvDeleted (d : Chip) (fn q : Nat) : Chip :=
  let c := d.ctl fn
  match tget c.sqs q with
  | none => d
  | some s =>
    match s.deleting with
    | none => d
    | some cid =>
      let open_ := d.nvs.cmds.any (fun (k : Nat × NvmeCmd) => k.2.fn = fn && k.2.qid = q)
      let waits := ((tget c.cqs s.cq).map (fun x => x.wait.any (fun e => e.sq = q))).getD false
      if open_ ∨ waits then d
      else
        let d := d.setCtl fn { c with sqs := tdel c.sqs q }
        let d := ((d.sr (Reg.NVS_SQ_MAP.VALID s.global) 0).sr (Reg.NVS_SQ_MAP.FUNC s.global) 0).sr (Reg.NVS_SQ_MAP.SQID s.global) 0
        d.nvPost fn 0 cid nvOk

/-- A controller whose reset has ended: RDY clears, its queues go, and the withdrawn commands are in the FLR report (R542). A reset
that is part of an FLR leaves the report to FLR_COMPLETE. -/
def Chip.nvReset (d : Chip) (fn : Nat) : Chip :=
  let c := d.ctl fn
  if !c.resetting ∨ d.led.items.any (fun i => !i.state.ended && (match i.kind with
      | .nvme f _ _ => f = fn
      | _ => false)) then d
  else
    let rs := c.report.filterMap (fun r => (d.item r.1).map (fun i => d.replyOf i 0 r.2 i.reply.lo i.reply.hi))
    let d := if d.hif.flr.contains fn then { d with owed := d.owed ++ rs.map (fun r => { r with ring := (d.fnRings fn).1 }) }
      else
        let base := d.rg Reg.HIF_FLR_BASE.BASE + fn * 0x40_0000
        (d.wr base (rs.flatMap (fun x => (d.replyWords x false).flatMap (leBytes 8) ++ List.replicate 32 0))).sr
          (Reg.HIF_FLR_COUNT.COUNT (pfOf fn)) rs.length
    let d := (c.sqs.filter (fun (s : Nat × NvmeSq) => s.1 ≠ 0)).foldl (fun (d : Chip) (s : Nat × NvmeSq) =>
      ((d.sr (Reg.NVS_SQ_MAP.VALID s.2.global) 0).sr (Reg.NVS_SQ_MAP.FUNC s.2.global) 0).sr (Reg.NVS_SQ_MAP.SQID s.2.global) 0) d
    d.setCtl fn { c with rdy := false, cfs := false, sqs := [], cqs := [], resetting := false, report := [], chain := none, image := 0 }

/-- What the front end does after an item has ended: completions, queues and controllers that waited, commands that may start. -/
def Chip.nvmeGo (d : Chip) : Chip :=
  let d := (d.nvDue fwActivate).nvDue fwActivate
  let d := d.nvDrop.nvCqs
  let d := d.nvs.ctls.foldl (fun (d : Chip) (c : Nat × NvmeCtl) =>
    (c.2.sqs.foldl (fun (d : Chip) (s : Nat × NvmeSq) => d.nvDeleted c.1 s.1) d).nvReset c.1) d
  d.nvStartAll.nvOutAll.nvDrop.syncLocks

/-- What waited for a host read or a host link goes on. -/
def Chip.nvResume (d : Chip) : Chip :=
  if d.nvs.cmds.isEmpty && d.nvs.ctls.all (fun (c : Nat × NvmeCtl) => c.2.cqs.all (fun (q : Nat × NvmeCq) => q.2.wait.isEmpty)) then d
  else d.nvmeGo

/-! ## The host events that the front end waits for (R493, R495, R496) -/

def execCompletionTimeout (pf : Fin 2) (tag : BitVec 14) (s : State) : Out := s.on (fun d => (completionTimeout d pf tag.toNat).nvResume)

def execCompletionArrival (pf : Fin 2) (tag : BitVec 14) (ok : Bool) (s : State) : Out :=
  s.on (fun d => (completionArrival d pf tag.toNat ok).nvResume)

def execHifFreezeRelease (pf : Fin 2) (s : State) : Out := s.on (fun d => (d.freezeRelease pf).nvResume)
def execRelease (pf : Fin 2) (s : State) : Out := s.on (fun d => ((d.freezeRelease pf).nvResume).answered (.block .hif) true)

def execBusMasterEnableSet (fn : Fin 128) (s : State) : Out :=
  s.on (fun d => ((d.setMaster fn true).hostResume [fn.val]).nvResume)

/-! ## Doorbells (R527, R544) and arbitration (R531) -/

def Chip.nvDoorbellBad (d : Chip) : Chip := (d.count (Reg.NVS_COUNT.COUNT 8)).fault Src.NVS_DOORBELL

def Chip.sqDoorbell (d : Chip) (fn q tail : Nat) : Chip :=
  let c := d.ctl fn
  match tget c.sqs q with
  | none => d.nvDoorbellBad
  | some s => if tail ≥ s.size then d.nvDoorbellBad else d.setCtl fn { c with sqs := tput c.sqs q { s with tail := tail } }

def Chip.cqDoorbell (d : Chip) (fn q head : Nat) : Chip :=
  let c := d.ctl fn
  match tget c.cqs q with
  | none => d.nvDoorbellBad
  | some x => if head ≥ x.size then d.nvDoorbellBad else
      ((d.setCtl fn { c with cqs := tput c.cqs q { x with head := head } }).cqFlush fn q).nvmeGo

/-- A doorbell is latched and wakes the device; one during a power-state entry is counted (R544). -/
def Chip.nvWake (d : Chip) : Chip :=
  (if d.pwr.entering ≠ 0 then d.count (Reg.NVS_COUNT.COUNT 9) else d).wake

def execNvmeSqDoorbell (fn : Fin 128) (qid tail : BitVec 16) (s : State) : Out :=
  s.on (fun d => if d.frozen fn then d else d.nvWake.sqDoorbell fn qid.toNat tail.toNat)

def execNvmeCqDoorbell (fn : Fin 128) (qid head : BitVec 16) (s : State) : Out :=
  s.on (fun d => if d.frozen fn then d else d.nvWake.cqDoorbell fn qid.toNat head.toNat)

/-- Queues of a priority class that hold a command and are not in hand or being deleted, those after `last` first. -/
def Chip.sqsWith (d : Chip) (fn prio last : Nat) : List Nat :=
  let c := d.ctl fn
  let qs := (c.sqs.filter (fun (s : Nat × NvmeSq) => s.1 ≠ 0 && s.2.prio = prio && s.2.head ≠ s.2.tail && s.2.deleting.isNone &&
    !d.nvs.hand.contains (fn, s.1))).map (fun (s : Nat × NvmeSq) => s.1)
  qs.filter (· > last) ++ qs.filter (· ≤ last)

/-- Arbitration: AB, and the weights of the high, medium and low classes. -/
def NvmeCtl.arb (c : NvmeCtl) : Nat := (tget c.features 1).getD 0
def NvmeCtl.ab (c : NvmeCtl) : Nat := if c.arb % 8 = 7 then 65536 else 2 ^ (c.arb % 8)
def NvmeCtl.weightOf (c : NvmeCtl) (k : Nat) : Nat := c.arb / 2 ^ (32 - 8 * k) % 256 + 1

/-- The queue a controller takes its next command from, with the arbitration state after it. -/
def Chip.pickSq (d : Chip) (fn : Nat) : Option (Nat × NvmeCtl) :=
  let c := d.ctl fn
  let admin := match tget c.sqs 0 with
    | some s => s.head ≠ s.tail && !d.nvs.hand.contains (fn, 0)
    | none => false
  if !c.rdy ∨ c.cfs ∨ c.resetting then none
  else if admin then some (0, c)
  else match d.sqsWith fn 0 c.lastUrgent with
    | q :: _ => some (q, { c with lastUrgent := q })
    | [] =>
      let last (k : Nat) : Nat := (tget c.lastOf k).getD 0
      let cur := (d.sqsWith fn c.cls (last c.cls)).headD 0
      let same := (d.sqsWith fn c.cls (last c.cls - 1)).headD 0
      if cur ≠ 0 ∧ c.weight > 0 ∧ c.burst > 0 ∧ same = last c.cls then
        some (same, { c with weight := c.weight - 1, burst := c.burst - 1 })
      else if cur ≠ 0 ∧ c.weight > 0 then
        some (cur, { c with weight := c.weight - 1, burst := c.ab - 1, lastOf := tput c.lastOf c.cls cur })
      else
        match ([1, 2, 3].map (fun i => (c.cls - 1 + i) % 3 + 1)).find? (fun k => d.sqsWith fn k (last k) ≠ []) with
        | none => none
        | some k =>
          let q := (d.sqsWith fn k (last k)).headD 0
          some (q, { c with cls := k, weight := c.weightOf k - 1, burst := c.ab - 1, lastOf := tput c.lastOf k q })

/-- NVME_COMMAND_FETCH: void where no controller has a command, or without a ledger slot and a range-lock entry. -/
def nvmeFetch (d : Chip) : Chip :=
  if !d.running .nvs || (d.agentRec (.block .nvs)).fencing || d.nextArising.isSome || !d.takesItems || d.rg Reg.NVS_LOCKS.IN_USE ≥ 8192 then d
  else
    let fns := d.nvs.ctls.map (fun (c : Nat × NvmeCtl) => c.1)
    let order := (if d.nvs.left > 0 then [d.nvs.pos] else []) ++ fns.filter (· > d.nvs.pos) ++ fns.filter (· ≤ d.nvs.pos)
    match order.findSome? (fun fn => if d.hif.flr.contains fn ∨ d.frozen fn then none else (d.pickSq fn).map (fun r => (fn, r))) with
    | none => d
    | some (fn, q, c) =>
      match tget c.sqs q with
      | none => d
      | some s =>
        if d.anyPoison (s.base + s.head * 64) 64 then (d.setCtl fn { c with cfs := true }).fault Src.NVS_SQ_POISON
        else
          let left := if fn = d.nvs.pos ∧ d.nvs.left > 0 then d.nvs.left - 1 else c.ab - 1
          let d := d.setCtl fn { c with sqs := tput c.sqs q { s with head := (s.head + 1) % s.size } }
          d.nv (fun u => { u with hand := u.hand ++ [(fn, q)], pos := fn, left := left })

def execNvmeCommandFetch (s : State) : Out := s.on nvmeFetch

/-- A command in hand taken out of it; void where it is not. -/
def Chip.nvTake (d : Chip) (fn q : Nat) (k : Chip → Chip) : Chip :=
  if !d.nvs.hand.contains (fn, q) then d else (k (d.nv (fun u => { u with hand := u.hand.erase (fn, q) }))).nvmeGo

/-- An admin command of a controller: an internal item of AC2 that commits with its completion. -/
def Chip.nvAdmin (d : Chip) (fn cid : Nat) (k : Chip → Chip × Nat × Nat) : Chip :=
  d.nvTake fn 0 (fun d =>
    let d := d.accept ⟨.core 2, cid, 0, .internal, fn, 0x42, .nvme fn 0 cid, genBody 0 ⟨.internal, BitVec.ofNat 32 cid⟩ [], none⟩
    let q := d.lastSeq
    let (d, st, dw0) := k d
    (d.finish q Code.OK).nvPost fn 0 cid st dw0 q)

/-! ## Admin commands (R526, R529, R541) -/

/-- The I/O queue pairs a controller has. -/
def Chip.queuePairs (d : Chip) (fn : Nat) : Nat :=
  if isVF fn then (d.ctl fn).pairs else if fn = 0 then d.rg Reg.NVS_QPAIRS.PF0 else d.rg Reg.NVS_QPAIRS.PF1

/-- VF controllers receive their queue pairs when VF Enable is set (R530). -/
def Chip.nvPairs (d : Chip) (pf : Nat) : Chip :=
  ((List.range (d.rg (Reg.HIF_STATE.NUM_VFS pf))).map (fun v => vfNum pf (v + 1))).foldl (fun (d : Chip) fn =>
    let used := d.rg Reg.NVS_QPAIRS.PF0 + d.rg Reg.NVS_QPAIRS.PF1 +
      ((d.nvs.ctls.filter (fun (c : Nat × NvmeCtl) => c.1 ≠ fn)).map (fun (c : Nat × NvmeCtl) => c.2.pairs)).foldl (· + ·) 0
    d.updCtl fn (fun c => { c with pairs := if (d.vfPool fn).state = 1 then min (d.vfPool fn).qpairs (4096 - used) else 0 })) d

def createCq (d : Chip) (fn qid size prp1 vector : Nat) (ien pc : Bool) : Chip × Nat × Nat :=
  let c := d.ctl fn
  let vectors := if isVF fn then (d.vfPool fn).vectors else 2048
  if qid = 0 ∨ qid > d.queuePairs fn ∨ (tget c.cqs qid).isSome then (d, nvStatus 1 0x01, 0)
  else if size = 0 ∨ size > 1023 then (d, nvStatus 1 0x02, 0)
  else if !pc then (d, nvStatus 0 0x02, 0)
  else if ien ∧ vector ≥ vectors then (d, nvStatus 1 0x08, 0)
  else if prp1 % 4096 ≠ 0 then (d, nvStatus 0 0x13, 0)
  else (d.setCtl fn { c with cqs := tput c.cqs qid { base := prp1, size := size + 1, vector := (if ien then some vector else none) } }, nvOk, 0)

def execCreateIoCq (fn : Fin 128) (cid qid size : BitVec 16) (prp1 : Nat) (vector : BitVec 16) (interrupts contiguous : Bool) (s : State) : Out :=
  s.on (fun d => d.nvAdmin fn cid.toNat (fun d => createCq d fn qid.toNat size.toNat prp1 vector.toNat interrupts contiguous))

def createSq (d : Chip) (fn qid size prp1 prio cqid : Nat) (pc : Bool) : Chip × Nat × Nat :=
  let c := d.ctl fn
  let g := (List.range 4096).find? (fun g => !d.flag (Reg.NVS_SQ_MAP.VALID g))
  if qid = 0 ∨ qid > d.queuePairs fn ∨ (tget c.sqs qid).isSome then (d, nvStatus 1 0x01, 0)
  else if cqid = 0 ∨ (tget c.cqs cqid).isNone then (d, nvStatus 1 0x00, 0)
  else if size = 0 ∨ size > 1023 then (d, nvStatus 1 0x02, 0)
  else if !pc then (d, nvStatus 0 0x02, 0)
  else match d.inCmb fn prp1 ((size + 1) * 64), g with
    | some a, some g =>
      let d := d.setCtl fn { c with sqs := tput c.sqs qid { base := a, size := size + 1, prio := prio, cq := cqid, global := g } }
      (((d.sr (Reg.NVS_SQ_MAP.VALID g) 1).sr (Reg.NVS_SQ_MAP.FUNC g) fn).sr (Reg.NVS_SQ_MAP.SQID g) qid, nvOk, 0)
    | _, _ => (d, nvStatus 0 0x12, 0)

def execCreateIoSq (fn : Fin 128) (cid qid size : BitVec 16) (prp1 : Nat) (prio : Fin 4) (cqid : BitVec 16) (contiguous : Bool) (s : State) : Out :=
  s.on (fun d => d.nvAdmin fn cid.toNat (fun d => createSq d fn qid.toNat size.toNat prp1 prio cqid.toNat contiguous))

/-- DELETE_IO_SQ: commands not accepted are discarded, those not committed withdrawn; it completes when the queue is empty. -/
def deleteSq (d : Chip) (fn cid qid : Nat) : Chip :=
  d.nvTake fn 0 (fun d =>
    let c := d.ctl fn
    let d := d.accept ⟨.core 2, cid, 0, .internal, fn, 0x42, .nvme fn 0 cid, genBody 0 ⟨.internal, BitVec.ofNat 32 cid⟩ [], none⟩
    let q := d.lastSeq
    match if qid = 0 then none else tget c.sqs qid with
    | none => (d.finish q Code.OK).nvPost fn 0 cid (nvStatus 1 0x01) 0 q
    | some s =>
      let d := d.setCtl fn { c with sqs := tput c.sqs qid { s with deleting := some cid, tail := s.head } }
      let d := d.nv (fun u => { u with hand := u.hand.filter (· ≠ (fn, qid)) })
      let d := ((d.nvs.cmds.filter (fun (k : Nat × NvmeCmd) => k.2.fn = fn && k.2.qid = qid)).map (fun (k : Nat × NvmeCmd) => k.1)).foldl
        (fun (d : Chip) q => d.withdraw q Code.WITHDRAWN) d
      d.finish q Code.OK)

def execDeleteIoSq (fn : Fin 128) (cid qid : BitVec 16) (s : State) : Out := s.on (fun d => deleteSq d fn cid.toNat qid.toNat)

def deleteCq (d : Chip) (fn qid : Nat) : Chip × Nat × Nat :=
  let c := d.ctl fn
  if qid = 0 ∨ (tget c.cqs qid).isNone then (d, nvStatus 1 0x01, 0)
  else if c.sqs.any (fun (s : Nat × NvmeSq) => s.2.cq = qid) then (d, nvStatus 1 0x0C, 0)
  else (d.setCtl fn { c with cqs := tdel c.cqs qid }, nvOk, 0)

def execDeleteIoCq (fn : Fin 128) (cid qid : BitVec 16) (s : State) : Out :=
  s.on (fun d => d.nvAdmin fn cid.toNat (fun d => deleteCq d fn qid.toNat))

/-- Whether a function sees a namespace. -/
def NvmeNs.seenBy (n : NvmeNs) (fn : Nat) : Bool := bitOf n.attach fn

def Chip.nsOf (d : Chip) (fn nsid : Nat) : Option (Nat × NvmeNs) :=
  d.nvs.ns.find? (fun (n : Nat × NvmeNs) => n.2.nsid = nsid && n.2.seenBy fn)

/-- Bytes with those the specification names put over free ones. -/
def overFree (draw n : Nat) (fs : List (Nat × List Nat)) : List Nat :=
  let base := (List.range n).map (fun i => (Config.randomByte draw i).toNat)
  fs.foldl (fun b f => b.take f.1 ++ f.2 ++ b.drop (f.1 + f.2.length)) base

/-- Identify data: what the chapter states in the places the NVMe specification gives it (log entry 53), the rest free. -/
def Chip.identifyData (d : Chip) (fn cns nsid : Nat) : Option (List Nat) :=
  match cns with
  | 0 => (d.nsOf fn nsid).map (fun n => overFree d.free 4096
      [(0, leBytes 8 n.2.nsze), (8, leBytes 8 n.2.nsze), (16, leBytes 8 n.2.nsze), (25, [0]), (26, [0]), (130, [n.2.lbads])])
  | 1 => some (overFree d.free 4096 [(77, [9]), (80, leBytes 4 0x2_0000), (256, leBytes 2 (if isVF fn then 0 else 4)),
      (260, [if isVF fn then 0 else 0x14]), (261, [63]), (319, [1]), (516, leBytes 4 1024), (520, leBytes 2 0x8), (525, [0])])
  | 2 =>
    let ids := ((d.nvs.ns.filter (fun (n : Nat × NvmeNs) => n.2.seenBy fn && n.2.nsid > nsid)).map (fun (n : Nat × NvmeNs) => n.2.nsid)).mergeSort
      (fun a b => a ≤ b)
    some ((ids.flatMap (leBytes 4) ++ List.replicate 4096 0).take 4096)
  | 3 => (d.nsOf fn nsid).map (fun _ => overFree d.free 4096 [])
  | _ => none

def identify (d : Chip) (fn cns nsid : Nat) (prps : List Nat) : Chip × Nat × Nat :=
  match d.identifyData fn cns nsid with
  | some b => ((d.takeFree).prpWrite fn (prpPieces prps 4096) b, nvOk, 0)
  | none => (d, if cns = 0 ∨ cns = 3 then nvStatus 0 0x0B else nvStatus 0 0x02, 0)

def execIdentify (fn : Fin 128) (cid : BitVec 16) (cns : BitVec 8) (nsid : BitVec 32) (prps : List Nat) (s : State) : Out :=
  s.on (fun d => d.nvAdmin fn cid.toNat (fun d => identify d fn cns.toNat nsid.toNat prps))

/-- GET_LOG_PAGE: pages 01h to 03h, whose contents the manual leaves to the device. -/
def getLogPage (d : Chip) (fn lid numd : Nat) (prps : List Nat) : Chip × Nat × Nat :=
  if lid < 1 ∨ lid > 3 then (d, nvStatus 1 0x09, 0)
  else
    let n := (numd + 1) * 4
    let act := (d.bootRec.map (fun r => r.active)).getD 0
    let fs := if lid = 3 then [(0, [act + 1])] else []
    (d.takeFree.prpWrite fn (prpPieces prps n) ((overFree d.free n fs).take n), nvOk, 0)

def execGetLogPage (fn : Fin 128) (cid : BitVec 16) (lid : BitVec 8) (numd : BitVec 16) (prps : List Nat) (s : State) : Out :=
  s.on (fun d => d.nvAdmin fn cid.toNat (fun d => getLogPage d fn lid.toNat numd.toNat prps))

def featureKnown (fid : Nat) : Bool := [1, 2, 6, 7, 8, 9].contains fid

/-- The value of Number of Queues: the count less one in both halves. -/
def Chip.queueCount (d : Chip) (fn : Nat) : Nat :=
  let n := d.queuePairs fn - 1
  n + n * 65536

def setFeatures (d : Chip) (fn fid v : Nat) : Chip × Nat × Nat :=
  if !featureKnown fid then (d, nvStatus 0 0x02, 0)
  else if fid = 6 then (if v % 2 = 0 then (d, nvOk, 0) else (d, nvStatus 1 0x0E, 0))
  else if fid = 2 ∧ v % 32 ≠ 0 then (d, nvStatus 0 0x02, 0)
  else if fid = 7 then (d, nvOk, d.queueCount fn)
  else (d.updCtl fn (fun c => { c with features := tput c.features fid v }), nvOk, 0)

def execSetFeatures (fn : Fin 128) (cid : BitVec 16) (fid : BitVec 8) (value : BitVec 32) (s : State) : Out :=
  s.on (fun d => d.nvAdmin fn cid.toNat (fun d => setFeatures d fn fid.toNat value.toNat))

def getFeatures (d : Chip) (fn fid : Nat) : Chip × Nat × Nat :=
  if !featureKnown fid then (d, nvStatus 0 0x02, 0)
  else if fid = 7 then (d, nvOk, d.queueCount fn)
  else (d, nvOk, (tget (d.ctl fn).features fid).getD 0)

def execGetFeatures (fn : Fin 128) (cid : BitVec 16) (fid : BitVec 8) (s : State) : Out :=
  s.on (fun d => d.nvAdmin fn cid.toNat (fun d => getFeatures d fn fid.toNat))

def execInvalidCommandOpcode (fn : Fin 128) (qid cid : BitVec 16) (s : State) : Out :=
  s.on (fun d => d.nvTake fn qid.toNat (fun d => d.nvPost fn qid.toNat cid.toNat (nvStatus 0 0x01)))

/-! ### Firmware (R545) -/

/-- FIRMWARE_IMAGE_DOWNLOAD: FW_DOWNLOAD with the PRP data as its source. -/
def imageDownload (d : Chip) (fn numd ofst : Nat) (prps data : List Nat) : Chip × Nat × Nat :=
  let off := ofst * 4
  let len := (numd + 1) * 4
  if isVF fn then (d, nvStatus 0 0x01, 0)
  else if off % 4096 ≠ 0 ∨ len % 4096 ≠ 0 ∨ len > 0x40_0000 ∨ off + len > mib32 then (d, nvStatus 0 0x06, 0)
  else
    let b := d.prpRead fn (prpPieces prps len) data
    let d := (d.writeRange (stagingBase + off) b).updCtl fn (fun c => { c with image := max c.image (off + len) })
    (d, if b.any (·.2) then nvStatus 2 0x80 else nvOk, 0)

def execFirmwareImageDownload (fn : Fin 128) (cid : BitVec 16) (numd ofst : BitVec 32) (prps : List Nat) (data : List (BitVec 8)) (s : State) : Out :=
  s.on (fun d => d.nvAdmin fn cid.toNat (fun d => imageDownload d fn numd.toNat ofst.toNat prps (data.map BitVec.toNat)))

/-- FIRMWARE_COMMIT: FW_STAGE and FW_ACTIVATE by its action. -/
def firmwareCommit (d : Chip) (fn cid fs ca : Nat) (flashOk : Bool) : Chip :=
  d.nvTake fn 0 (fun d =>
    let act := (d.bootRec.map (fun r => r.active)).getD 0
    let slot := if fs = 0 then 1 - act % 2 else fs - 1
    let src : Submit := ⟨.nvme fn 0 cid, BitVec.ofNat 32 cid⟩
    let mode := if ca = 3 then 1 else 0
    if isVF fn then d.nvPost fn 0 cid (nvStatus 0 0x01)
    else if ca > 3 then d.nvPost fn 0 cid (nvStatus 0 0x02)
    else if fs > 2 ∨ (ca ≠ 2 ∧ slot = act) then d.nvPost fn 0 cid (nvStatus 1 0x06)
    else if ca = 2 then fwActivate d src slot 0
    else
      let d := if ca = 0 then d else d.updCtl fn (fun c => { c with chain := some (cid, slot, mode) })
      fwStage d src (d.ctl fn).image flashOk)

def execFirmwareCommit (fn : Fin 128) (cid : BitVec 16) (fs ca : Fin 8) (flashOk : Bool) (s : State) : Out :=
  s.on (fun d => d.served 0 (fun d => firmwareCommit d fn cid.toNat fs ca flashOk))

/-! ## I/O commands (R535 to R540) -/

/-- An I/O command checked and accepted; it stays in hand while its target is not READY. -/
def nvIo (d : Chip) (fn q cid op nsid slba count : Nat) (prps data : List Nat) : Chip :=
  let lost : Bool := match d.nsOf fn nsid with
    | some n => n.2.backing ≠ 0 && decide (d.targetState n.2.target ≠ 2)
    | none => false
  let g := ((tget (d.ctl fn).sqs q).map (fun s => s.global)).getD 0
  if lost ∨ !d.admits (.nvme g) ∨ q = 0 ∨ (op ≠ 0 ∧ d.rg Reg.NVS_LOCKS.IN_USE ≥ 8192) then d
  else d.nvTake fn q (fun d =>
    match d.nsOf fn nsid with
    | none => d.nvPost fn q cid (nvStatus 0 0x0B)
    | some (k, n) =>
      let len := count * n.blockBytes
      if op ≠ 0 ∧ slba + count > n.nsze then d.nvPost fn q cid (nvStatus 0 0x80)
      else if (op = 1 ∨ op = 2) ∧ len > 0x20_0000 then d.nvPost fn q cid (nvStatus 0 0x02)
      else if (op = 1 ∨ op = 2) ∧ prps.headD 0 % 4 ≠ 0 then d.nvPost fn q cid (nvStatus 0 0x13)
      else
        let d := d.accept ⟨.nvme g, cid + g * 65536, 0, .nvme fn q cid, fn, 0x56, .nvme fn q cid,
          descOf [op + cid * 2 ^ 16, nsid, 0, prps.headD 0, prps.getD 1 0, slba, count - 1, 0], none⟩
        let seq := d.lastSeq
        let c : NvmeCmd := { fn := fn, qid := q, cid := cid, op := op, ns := k, slba := slba, count := count, prps := prps, data := data }
        let d := if d.lockedOut seq c ∧ op ≠ 0 then d.count (Reg.NVS_COUNT.COUNT 4) else d
        let d := if op = 2 then d.count (Reg.NVS_COUNT.COUNT 0) else if op = 1 then d.count (Reg.NVS_COUNT.COUNT 1) else d
        d.nv (fun u => { u with cmds := tput u.cmds seq c }))

def execNvmeRead (fn : Fin 128) (qid cid : BitVec 16) (nsid : BitVec 32) (slba : Word) (nlb : BitVec 16) (prps : List Nat) (s : State) : Out :=
  s.on (fun d => nvIo d fn qid.toNat cid.toNat 2 nsid.toNat slba.toNat (nlb.toNat + 1) prps [])

def execNvmeWrite (fn : Fin 128) (qid cid : BitVec 16) (nsid : BitVec 32) (slba : Word) (nlb : BitVec 16) (prps : List Nat)
    (data : List (BitVec 8)) (s : State) : Out :=
  s.on (fun d => nvIo d fn qid.toNat cid.toNat 1 nsid.toNat slba.toNat (nlb.toNat + 1) prps (data.map BitVec.toNat))

def execNvmeFlush (fn : Fin 128) (qid cid : BitVec 16) (nsid : BitVec 32) (s : State) : Out :=
  s.on (fun d => nvIo d fn qid.toNat cid.toNat 0 nsid.toNat 0 0 [] [])

def execWriteZeroes (fn : Fin 128) (qid cid : BitVec 16) (nsid : BitVec 32) (slba : Word) (nlb : BitVec 16) (s : State) : Out :=
  s.on (fun d => nvIo d fn qid.toNat cid.toNat 8 nsid.toNat slba.toNat (nlb.toNat + 1) [] [])

/-! ## Enabling and resetting a controller (R529, R542) -/

/-- CC.EN set: RDY with the admin queues, or CFS where the admin submission queue is outside the CMB. -/
def ccEnSet (d : Chip) (fn : Nat) : Chip :=
  let c := d.ctl fn
  let asqs := c.aqa % 4096 + 1
  let acqs := c.aqa / 65536 % 4096 + 1
  if bitOf c.cc 0 ∨ c.resetting then d
  else
    let c := { c with cc := setBitN c.cc 0 }
    match d.inCmb fn c.asq (asqs * 64) with
    | none => d.setCtl fn { c with cfs := true }
    | some a => d.setCtl fn { c with
        rdy := true
        sqs := [((0 : Nat), ({ base := a, size := asqs, prio := 0, cq := 0 } : NvmeSq))]
        cqs := [((0 : Nat), ({ base := c.acq, size := acqs, vector := some 0 } : NvmeCq))] }

/-- A reset of a controller begins: every command that has not reached its commit point is withdrawn, without a completion. -/
def Chip.nvDisable (d : Chip) (fn : Nat) : Chip :=
  let c := d.ctl fn
  if !bitOf c.cc 0 then d
  else
    let d := d.setCtl fn { c with cc := clrBitN c.cc 0, resetting := true }
    let d := d.nv (fun u => { u with hand := u.hand.filter (fun h => h.1 ≠ fn) })
    let mine := (d.led.items.filter (fun i => match i.kind with
      | .nvme f _ _ => f = fn
      | _ => false)).map (fun i => i.seq)
    mine.foldl (fun (d : Chip) q => d.withdraw q Code.WITHDRAWN) d

def execCcEnSet (fn : Fin 128) (s : State) : Out := s.on (fun d => ccEnSet d fn)
def execCcEnClear (fn : Fin 128) (s : State) : Out := s.on (fun d => (d.nvDisable fn).nvmeGo)
def execNvmSubsystemReset (fn : Fin 128) (s : State) : Out := s.on (fun d => (d.nvDisable fn).nvmeGo)

/-! ## Virtual functions and function-level reset (R489, R497) -/

def execVfEnableSet (pf : Fin 2) (num : Fin 64) (s : State) : Out := s.on (fun d => (vfEnable d pf num).nvPairs pf)

def execFunctionLevelReset (fn : Fin 128) (s : State) : Out := s.on (fun d => if d.fnExists fn then (d.flr fn).nvmeGo else d)

/-- VF_FLR: an agent command of AC0. -/
def execVfFlr (pf : Fin 2) (vf : Fin 64) (s : State) : Out :=
  s.on (fun d =>
    let fn := vfNum pf vf
    if vf.val ≠ 0 ∧ d.fnExists fn then (d.flr fn).nvmeGo.answered (.block .hif) true else d.answered (.block .hif) false)

/-- The queue pairs of the PF's VFs are free again (R530). -/
def Chip.nvUnpair (d : Chip) (pf : Nat) : Chip :=
  d.nv (fun u => { u with ctls := u.ctls.map (fun (c : Nat × NvmeCtl) => if isVF c.1 ∧ pfOf c.1 = pf then (c.1, { c.2 with pairs := 0 }) else c) })

def execVfEnableClear (pf : Fin 2) (s : State) : Out := s.on (fun d => ((vfDisable d pf).nvUnpair pf).nvmeGo)

def execFlrComplete (fn : Fin 128) (s : State) : Out := s.on (fun d => flrComplete d fn)

/-! ## Namespaces and targets (R532 to R534) -/

def nsOfRec (r : List Nat) : NvmeNs :=
  ⟨r.getD 3 0, leNat ((r.drop 4).take 4), r.getD 8 0, r.getD 9 0, leNat ((r.drop 16).take 8), leNat ((r.drop 24).take 8),
    leNat ((r.drop 32).take 16), r⟩

def Chip.nsOk (d : Chip) (index : Nat) (n : NvmeNs) : Bool :=
  n.backing ≤ 2 && 1 ≤ n.nsid && n.nsid ≤ 0xFFFF_FFFE && (n.lbads = 9 || n.lbads = 12) && index < 1024 &&
  ((n.raw.drop 10).take 6).all (· = 0) && (n.raw.drop 48).all (· = 0) && n.raw.getD 2 0 = 0 &&
  (n.backing = 0 || n.base < 2 ^ 32) &&
  (n.backing ≠ 0 || (n.base % 0x1_0000 = 0 && (isNear n.base || isQuarry n.base || isPaged n.base) &&
    d.rangeOk n.base (n.nsze * n.blockBytes) && d.writeOk n.base (n.nsze * n.blockBytes))) &&
  !d.nvs.ns.any (fun (m : Nat × NvmeNs) => m.1 ≠ index && m.2.nsid = n.nsid && (m.2.attach &&& n.attach) ≠ 0)

/-- The effects of the storage configuration commands at their commit points. -/
def Chip.nvsEffect (d : Chip) (seq op : Nat) (x : Desc) : Chip :=
  let r := (tget d.nvs.recs seq).getD []
  let d := d.nv (fun u => { u with recs := tdel u.recs seq })
  match op with
  | 0x0B01 => d.nv (fun u => { u with ns := tput u.ns (leNat (r.take 2)) (nsOfRec r) })
  | 0x0B02 => d.nv (fun u => { u with ns := tdel u.ns (wf x.w1 0 16) })
  | 0x0B03 => d.nv (fun u => { u with targets := tupd u.targets (r.getD 0 0) (fun t => { t with state := 2, seq := 0 }) })
  | 0x0B04 => d.nv (fun u => { u with targets := tdel u.targets (wf x.w1 0 8) })
  | _ => d

def nsSet (d : Chip) (src : Submit) (record : Nat) : Chip :=
  d.withRecord src record 64 (fun d =>
    let r := d.bytes record 64
    let k := leNat (r.take 2)
    if !d.nsOk k (nsOfRec r) then d.refuse src Code.NVS_BAD_REQ
    else if (tget d.nvs.ns k).isSome then d.refuse src Code.NVS_NS_STATE
    else
      let x := genBody 0x0B01 src [record]
      let d := d.acceptCmd src (.general 0x0B01) x (d.originDomain src.origin) (0x40 + d.roleCore 2)
      let q := d.lastSeq
      (d.nv (fun u => { u with recs := tput u.recs q r })).finishWith q (fun d => d.nvsEffect q 0x0B01 x))

def execNvsNsSet (src : Submit) (record : Nat) (s : State) : Out :=
  s.on (fun d => d.served 2 (fun d => d.submit src .nvs false (fun d => nsSet d src record)))

def nsClear (d : Chip) (src : Submit) (k : Nat) : Chip :=
  if k ≥ 1024 then d.refuse src Code.NVS_BAD_REQ
  else if (tget d.nvs.ns k).isNone ∨ d.nvs.cmds.any (fun (c : Nat × NvmeCmd) => c.2.ns = k) then d.refuse src Code.NVS_NS_STATE
  else
    let x := genBody 0x0B02 src [k]
    let d := d.acceptCmd src (.general 0x0B02) x (d.originDomain src.origin) (0x40 + d.roleCore 2)
    let q := d.lastSeq
    d.finishWith q (fun d => d.nvsEffect q 0x0B02 x)

def execNvsNsClear (src : Submit) (index : BitVec 16) (s : State) : Out :=
  s.on (fun d => d.served 2 (fun d => d.submit src .nvs false (fun d => nsClear d src index.toNat)))

def targetOk (r : List Nat) : Bool :=
  (r.getD 1 0 = 1 || r.getD 1 0 = 2) && 1 ≤ r.getD 2 0 && r.getD 2 0 ≤ 15 && 1 ≤ r.getD 3 0 && r.getD 3 0 ≤ 64 &&
  16 ≤ leNat ((r.drop 4).take 2) && leNat ((r.drop 4).take 2) ≤ 1024 && ((r.drop 25).take 7).all (· = 0) && r.getD 24 0 = 0 &&
  (r.drop 480).all (· = 0)

/-- NVS_TARGET_SET: the target is CONNECTING until TARGET_CONNECT_COMPLETE. -/
def targetSet (d : Chip) (src : Submit) (record : Nat) : Chip :=
  d.withRecord src record 512 (fun d =>
    let r := d.bytes record 512
    let t := r.getD 0 0
    if !targetOk r then d.refuse src Code.NVS_BAD_REQ
    else if (tget d.nvs.targets t).isSome then d.refuse src Code.NVS_TARGET_STATE
    else
      let d := d.acceptCmd src (.general 0x0B03) (genBody 0x0B03 src [record]) (d.originDomain src.origin) (0x40 + d.roleCore 2)
      let q := d.lastSeq
      d.nv (fun u => { u with recs := tput u.recs q r, targets := tput u.targets t ⟨r, 1, q, [], 0⟩ }))

def execNvsTargetSet (src : Submit) (record : Nat) (s : State) : Out :=
  s.on (fun d => d.served 2 (fun d => d.submit src .nvs false (fun d => targetSet d src record)))

def targetConnected (d : Chip) (t : Nat) : Chip :=
  match tget d.nvs.targets t with
  | none => d
  | some x =>
    if x.state ≠ 1 then d
    else
      let body := ((d.item x.seq).map (fun i => i.body)).getD {}
      d.finishWith x.seq (fun d => d.nvsEffect x.seq 0x0B03 body)

def execTargetConnectComplete (t : BitVec 8) (s : State) : Out := s.on (fun d => targetConnected d t.toNat)

def targetClear (d : Chip) (src : Submit) (t : Nat) : Chip :=
  let connecting : Bool := ((tget d.nvs.targets t).map (fun x => decide (x.state = 1))).getD false
  if (tget d.nvs.targets t).isNone ∨ connecting ∨ d.nvs.ns.any (fun (n : Nat × NvmeNs) => n.2.backing ≠ 0 && n.2.target = t) then
    d.refuse src Code.NVS_TARGET_STATE
  else
    let x := genBody 0x0B04 src [t]
    let d := d.acceptCmd src (.general 0x0B04) x (d.originDomain src.origin) (0x40 + d.roleCore 2)
    let q := d.lastSeq
    d.finishWith q (fun d => d.nvsEffect q 0x0B04 x)

def execNvsTargetClear (src : Submit) (t : BitVec 8) (s : State) : Out :=
  s.on (fun d => d.served 2 (fun d => d.submit src .nvs false (fun d => targetClear d src t.toNat)))

/-- A target goes to LOST: the items that still need it are withdrawn. -/
def Chip.targetLost (d : Chip) (t : Nat) : Chip :=
  if d.targetState t ≠ 2 then d
  else
    let d := d.nv (fun u => { u with targets := tupd u.targets t (fun x => { x with state := 3, tried := d.tick, timeouts := [] }) })
    let d := (d.count (Reg.NVS_COUNT.COUNT 7)).fault Src.NVS_TARGET_LOST t
    let mine := (d.nvs.cmds.filter (fun (c : Nat × NvmeCmd) => (d.item c.1).any (fun i => i.fin.isNone) && !c.2.got &&
      ((tget d.nvs.ns c.2.ns).map (fun n => n.backing ≠ 0 && n.target = t)).getD false)).map (fun (c : Nat × NvmeCmd) => c.1)
    (mine.foldl (fun (d : Chip) q => d.withdraw q Code.NVS_TARGET_LOST) d).nvmeGo

/-- BACKEND_COMPLETION: void where the item has no command out. -/
def backendCompletion (d : Chip) (seq sct sc : Nat) (data : List Nat) : Chip :=
  match d.nvs.back.find? (fun b => b.seq = seq), tget d.nvs.cmds seq with
  | some b, some c =>
    let len := c.count * (((tget d.nvs.ns c.ns).map (fun n => n.blockBytes)).getD 0)
    let d := d.nv (fun u => { u with back := u.back.erase b })
    let st := nvStatus sct sc
    let done (d : Chip) : Chip := d.updItem seq (fun i => { i with fin := some ⟨Code.OK, 0, 0⟩ })
    if st ≠ 0 then done (d.nv (fun u => { u with cmds := tput u.cmds seq { c with status := some st } }))
    else if c.op = 2 then
      (d.nv (fun u => { u with cmds := tput u.cmds seq { c with got := true, data := (data ++ List.replicate len 0).take len } })).nvOutAll
    else done (if c.op = 1 then d.count (Reg.NVS_COUNT.COUNT 3) len else d)
  | _, _ => d

def execBackendCompletion (seq : Nat) (sct : Fin 8) (sc : BitVec 8) (data : List (BitVec 8)) (s : State) : Out :=
  s.on (fun d => backendCompletion d seq sct sc.toNat (data.map BitVec.toNat))

/-- BACKEND_TIMEOUT: void before TARGET_TIMEOUT ms have passed in whole ticks. -/
def backendTimeout (d : Chip) (seq : Nat) : Chip :=
  match d.nvs.back.find? (fun b => b.seq = seq) with
  | none => d
  | some b =>
    if d.tick + 1 < b.since + d.usTicks (d.rg Reg.NVS_CFG.TARGET_TIMEOUT * 1000) then d
    else
      let d := d.count (Reg.NVS_COUNT.COUNT 6)
      let ts := (((tget d.nvs.targets b.target).map (fun t => t.timeouts)).getD []).filter (fun t => t + 1024 > d.tick) ++ [d.tick]
      let d := d.nv (fun u => { u with
        targets := tupd u.targets b.target (fun t => { t with timeouts := ts })
        back := u.back.map (fun x => if x = b then { x with since := d.tick, resent := true } else x) })
      let d := if b.resent then (d.withdraw seq Code.TIMEOUT).nvmeGo else d
      if ts.length ≥ 16 then d.targetLost b.target else d

def execBackendTimeout (seq : Nat) (s : State) : Out := s.on (fun d => backendTimeout d seq)

/-- TARGET_RECONNECT: void where the target is not LOST or 65,536 ticks have not passed since the last attempt. -/
def execTargetReconnect (t : BitVec 8) (ok : Bool) (s : State) : Out :=
  s.on (fun d => match tget d.nvs.targets t.toNat with
    | none => d
    | some x =>
      if x.state ≠ 3 ∨ d.tick < x.tried + 65536 then d
      else d.nv (fun u => { u with targets := tput u.targets t.toNat { x with state := (if ok then 2 else 3), tried := d.tick } }))

def execTargetDrop (t : BitVec 8) (s : State) : Out :=
  s.on (fun d => (d.targetLost t.toNat).answered (.block .nvs) (d.targetState t.toNat = 2))

/-! ## Controller properties (R527) -/

/-- A 32-bit word of the controller properties. -/
def Chip.nvProp (d : Chip) (fn off : Nat) : Nat :=
  let c := d.ctl fn
  let (_, n) := d.cmb fn
  match off with
  | 0x00 => 0x03FF + 2 ^ 16 + 2 ^ 17 + Config.freeNat 0 % 256 * 2 ^ 24
  | 0x04 => 2 ^ 5 + 2 ^ 25
  | 0x08 => 0x0002_0000
  | 0x14 => c.cc
  | 0x1C => b2n c.rdy + b2n c.cfs * 2
  | 0x24 => c.aqa
  | 0x28 => c.asq % 2 ^ 32
  | 0x2C => c.asq / 2 ^ 32
  | 0x30 => c.acq % 2 ^ 32
  | 0x34 => c.acq / 2 ^ 32
  | 0x38 => if isVF fn then 2 + n * 3 / 4096 * 4096 else 4
  | 0x3C => 0x1B + n / 4096 * 4096
  | 0x50 => c.cmbmsc % 2 ^ 32
  | 0x54 => c.cmbmsc / 2 ^ 32
  | _ => 0

def lowHalf (x v : Nat) : Nat := x / 2 ^ 32 * 2 ^ 32 + v
def highHalf (x v : Nat) : Nat := x % 2 ^ 32 + v * 2 ^ 32

/-- A 32-bit write of the controller properties and doorbells. -/
def Chip.nvPropWrite (d : Chip) (fn off v : Nat) : Chip :=
  let c := d.ctl fn
  match off with
  | 0x14 =>
    let d := d.setCtl fn { c with cc := v / 2 * 2 + c.cc % 2 }
    if v % 2 = 1 then (if bitOf c.cc 0 then d else ccEnSet d fn) else (d.nvDisable fn).nvmeGo
  | 0x20 => if v = 0x4E56_4D65 then (d.nvDisable fn).nvmeGo else d
  | 0x24 => if bitOf c.cc 0 then d else d.setCtl fn { c with aqa := v }
  | 0x28 => if bitOf c.cc 0 then d else d.setCtl fn { c with asq := lowHalf c.asq (v / 4096 * 4096) }
  | 0x2C => if bitOf c.cc 0 then d else d.setCtl fn { c with asq := highHalf c.asq v }
  | 0x30 => if bitOf c.cc 0 then d else d.setCtl fn { c with acq := lowHalf c.acq (v / 4096 * 4096) }
  | 0x34 => if bitOf c.cc 0 then d else d.setCtl fn { c with acq := highHalf c.acq v }
  | 0x50 => d.setCtl fn { c with cmbmsc := lowHalf c.cmbmsc v }
  | 0x54 => d.setCtl fn { c with cmbmsc := highHalf c.cmbmsc v }
  | _ =>
    if off < 0x1000 then d
    else if off % 8 = 0 then d.nvWake.sqDoorbell fn ((off - 0x1000) / 8) (v % 65536)
    else d.nvWake.cqDoorbell fn ((off - 0x1000) / 8) (v % 65536)

end Sys2Proof.Machine
end

