-- ==== Sys2Proof/Machine/Ckpt.lean ====
section
/-! DEFINITION. Checkpoint, restore and elasticity (chapter 16). What other nodes and the shared store contribute comes with the
commands; what this node writes to the store is recorded. -/
namespace Sys2Proof.Machine
open Sys2Proof

def Chip.ck (d : Chip) (f : CkpUnit → CkpUnit) : Chip := { d with ckp := f d.ckp }

def Chip.job (d : Chip) (j : Nat) : Option CkpJob := tget d.ckp.jobs j

def Chip.setJob (d : Chip) (j : Nat) (x : CkpJob) : Chip := d.ck (fun u => { u with jobs := tput u.jobs j x })

def Chip.setCkpRun (d : Chip) (j : Nat) (r : CkpRun) : Chip :=
  d.ck (fun u => { u with jobs := tupd u.jobs j (fun x => { x with run := some r }) })

def jobState (d : Chip) (j : Nat) : Nat := d.rg (Reg.CKP_JOB_STATE.STATE j)

/-! ## Fields of the job record (R550) -/

def fieldOf (r : List Nat) (o n : Nat) : Nat := leNat ((r.drop o).take n)

def CkpJob.f (x : CkpJob) (o n : Nat) : Nat := fieldOf x.raw o n
def CkpJob.rank (x : CkpJob) : Nat := x.f 4 2
def CkpJob.nodes (x : CkpJob) : Nat := x.f 6 2
def CkpJob.key (x : CkpJob) : Nat := x.f 8 8
def CkpJob.plan (x : CkpJob) : Nat := x.f 18 2
def CkpJob.ns (x : CkpJob) : Nat := x.f 20 2
def CkpJob.ring (x : CkpJob) : Nat := x.f 22 2
def CkpJob.region (x : CkpJob) : Nat := x.f 24 8
def CkpJob.blocks (x : CkpJob) : Nat := x.f 32 8
def CkpJob.commitLba (x : CkpJob) : Nat := x.f 40 8
def CkpJob.capBase (x : CkpJob) : Nat := x.f 48 8
def CkpJob.capPages (x : CkpJob) : Nat := x.f 56 4
def CkpJob.batch (x : CkpJob) : Nat := max 1 (x.f 60 4)
def CkpJob.tickEvery (x : CkpJob) : Nat := x.f 64 8
def CkpJob.stepEvery (x : CkpJob) : Nat := x.f 72 4
def CkpJob.lead (x : CkpJob) : Nat := x.f 77 1
def CkpJob.logical (x : CkpJob) : Nat := x.f 96 8
def CkpJob.rate (x : CkpJob) : Nat := x.f 104 4

def rangeOf (e : List Nat) : CkpRange := ⟨fieldOf e 0 8, fieldOf e 8 4, fieldOf e 16 8⟩

/-- Every page of a job with its logical page, in RANGE_LIST order. -/
def CkpJob.pages (x : CkpJob) : List (Nat × Nat) :=
  x.ranges.flatMap (fun r => (List.range r.pages).map (fun k => (pageOf r.addr + k, r.logical + k)))

/-! ## Defining jobs (R551) -/

/-- The checks of R551 that give CKP_BAD_REQ. -/
def Chip.jobBad (d : Chip) (r : List Nat) : Bool :=
  let f (o n : Nat) : Nat := fieldOf r o n
  let zero (o n : Nat) : Bool := ((r.drop o).take n).all (· = 0)
  let cap := f 48 8
  let capLen := f 56 4 * 0x1_0000
  let planOk := match d.plan (f 18 2) with
    | some p => p.hdr.kind = 4
    | none => false
  let groupOk := match d.group (f 16 2) with
    | some g => g.gNodes = f 6 2 && g.gRank = f 4 2
    | none => false
  let nsOk := match tget d.nvs.ns (f 20 2) with
    | some n => (n.backing = 1 || n.backing = 2) && n.lbads = 12
    | none => false
  f 0 1 > 63 || f 1 1 ≠ 0 || !zero 2 2 || !zero 78 2 || !zero 90 6 || !zero 108 20 || f 6 2 = 0 || f 6 2 > 4096 || f 4 2 ≥ f 6 2 ||
  !planOk || !groupOk || !nsOk || f 32 8 < 4096 || cap % 0x1_0000 ≠ 0 || !(isNear cap || isQuarry cap) || !d.inOne cap capLen ||
  deviceOwned cap capLen || d.deviceNear cap capLen || f 56 4 < 2 * f 60 4 || f 60 4 % 1024 ≠ 0 || f 60 4 < 1024 || f 60 4 > 1048576 ||
  f 76 1 < 1 || f 76 1 > 64 || f 77 1 = 0 || f 88 2 < 1 || f 88 2 > 256

/-- The checks of R551 that give CKP_LAYOUT. -/
def Chip.layoutBad (d : Chip) (rs : List CkpRange) (logical : Nat) : Bool :=
  rs.any (fun r => !isPaged r.addr || r.addr % 0x1_0000 ≠ 0 || r.pages = 0 || r.addr + r.pages * 0x1_0000 > 0x400_0000_0000 ||
    r.logical + r.pages > logical ||
    (List.range r.pages).any (fun k => (d.pte (pageOf r.addr + k)).state ≠ .valid || (d.ckpPage (pageOf r.addr + k)).isSome)) ||
  (List.range rs.length).any (fun i => (List.range i).any (fun k =>
    match rs[i]?, rs[k]? with
    | some a, some b => rangesMeet (pageOf a.addr) a.pages (pageOf b.addr) b.pages || rangesMeet a.logical a.pages b.logical b.pages
    | _, _ => false))

/-- The ranges a record's RANGE_LIST names. -/
def Chip.rangeList (d : Chip) (r : List Nat) : List CkpRange :=
  let a := fieldOf r 80 8
  (List.range (fieldOf r 88 2)).map (fun i => rangeOf (d.bytes (a + 32 * i) 32))

/-- The effects of CKP_JOB_SET, CKP_JOB_CLEAR and CKP_NOW at their commit points. -/
def Chip.ckpEffect (d : Chip) (seq op : Nat) (x : Desc) : Chip :=
  match op with
  | 0x0C01 =>
    let r := (tget d.ckp.recs seq).getD []
    let j := r.getD 0 0
    (d.setJob j { raw := r.take 128, ranges := (pieces 32 256 (r.drop 128)).map rangeOf }).sr (Reg.CKP_JOB_STATE.STATE j) 1
  | 0x0C02 =>
    let j := wf x.w1 0 8
    let d := d.ck (fun u => { u with jobs := tdel u.jobs j })
    let d := ((d.sr (Reg.CKP_JOB_STATE.STATE j) 0).sr (Reg.CKP_JOB_STATE.FULL_NEXT j) 1).sr (Reg.CKP_JOB_STEP.STEP j) 0
    ((d.sr (Reg.CKP_JOB_LAST.STEP j) 0).sr (Reg.CKP_LOG_HEAD.BLOCK j) 0).sr (Reg.CKP_LOG_TAIL.BLOCK j) 0
  | 0x0C04 =>
    let j := wf x.w1 0 8
    d.ck (fun u => { u with jobs := tupd u.jobs j (fun y => { y with now := true, nowFull := y.nowFull || wf x.w1 8 1 = 1 }) })
  | _ => d

def Chip.ckpAccept (d : Chip) (src : Submit) (op : Nat) (ws : List Nat) : Chip × Nat × Desc :=
  let x := genBody op src ws
  let d := d.acceptCmd src (.general op) x (d.originDomain src.origin) 0x57
  (d, d.lastSeq, x)

def jobSet (d : Chip) (src : Submit) (record : Nat) : Chip :=
  d.withRecord src record 128 (fun d =>
    let r := d.bytes record 128
    let list := fieldOf r 80 8
    let n := fieldOf r 88 2
    let d := if d.inDieOrNear list (32 * n) then d.noteRead list (32 * n) else d
    if d.jobBad r ∨ !d.inDieOrNear list (32 * n) ∨ d.anyPoison list (32 * n) then d.refuse src Code.CKP_BAD_REQ
    else if d.layoutBad (d.rangeList r) (fieldOf r 96 8) then d.refuse src Code.CKP_LAYOUT
    else if (d.job (fieldOf r 0 1)).isSome then d.refuse src Code.CKP_JOB_STATE
    else
      let (d, q, x) := d.ckpAccept src 0x0C01 [record]
      let d := d.ck (fun u => { u with recs := tput u.recs q (r ++ d.bytes list (32 * n)) })
      d.finishWith q (fun d => d.ckpEffect q 0x0C01 x))

def execCkpJobSet (src : Submit) (record : Nat) (s : State) : Out :=
  s.on (fun d => d.submit src .ckp false (fun d => jobSet d src record))

def jobClear (d : Chip) (src : Submit) (j : Nat) : Chip :=
  if j > 63 then d.refuse src Code.CKP_BAD_REQ
  else if jobState d j ≠ 1 then d.refuse src Code.CKP_JOB_STATE
  else
    let (d, q, x) := d.ckpAccept src 0x0C02 [j]
    d.finishWith q (fun d => d.ckpEffect q 0x0C02 x)

def execCkpJobClear (src : Submit) (job : BitVec 8) (s : State) : Out :=
  s.on (fun d => d.submit src .ckp false (fun d => jobClear d src job.toNat))

/-! ## Abandonment (R575) -/

def ckpLo (reason : Nat) (full : Bool) (lost pages : Nat) : Nat :=
  reason + b2n full * 2 ^ 8 + lost * 2 ^ 16 + min pages (2 ^ 32 - 1) * 2 ^ 32

/-- The running checkpoint of a job abandoned for a reason; void where none runs or its commit record is taken. -/
def Chip.ckpAbandon (d : Chip) (j reason : Nat) : Chip :=
  match (d.job j).bind (·.run) with
  | none => d
  | some r => d.withdraw r.seq Code.CKP_ABANDONED (ckpLo reason r.full r.lost.length r.wrote) r.step

/-- CKP_ABORT: on rank 0 the running checkpoint is abandoned for the reason ABORT; answered ALREADY_DONE where it is too late or none runs. -/
def ckpAbort (d : Chip) (src : Submit) (j : Nat) : Chip :=
  match d.job j with
  | none => d.refuse src Code.CKP_JOB_STATE
  | some x =>
    if x.rank ≠ 0 then d.refuse src Code.CKP_NOT_COORD
    else
      let (d, q, _) := d.ckpAccept src 0x0C06 [j]
      let can := match x.run with
        | some r => d.canWithdraw r.seq
        | none => false
      (d.ckpAbandon j 5).finish q (if can then Code.OK else Code.ALREADY_DONE)

def execCkpAbort (src : Submit) (job : BitVec 8) (s : State) : Out :=
  s.on (fun d => d.submit src .ckp false (fun d => ckpAbort d src job.toNat))

def execJobAbandon (job : Fin 64) (s : State) : Out :=
  s.on (fun d => (d.ckpAbandon job 5).answered (.block .ckp) ((d.job job).bind (·.run)).isSome)

/-! ## Steps, triggers and the fence (R554 to R558) -/

def ckpStep (d : Chip) (src : Submit) (j step : Nat) : Chip :=
  match d.job j with
  | none => d.refuse src Code.CKP_JOB_STATE
  | some x =>
    let cur := match x.stepSeq with
      | some s => s.2
      | none => d.rg (Reg.CKP_JOB_STEP.STEP j)
    if step ≤ cur then d.refuse src Code.CKP_BAD_REQ
    else
      let (d, q, _) := d.ckpAccept src 0x0C03 [j, step]
      if x.stepSeq.isSome then d.updItem q (fun i => { i with state := .running })
      else d.setJob j { x with stepSeq := some (q, step) }

def execCkpStep (src : Submit) (job : BitVec 8) (step : Word) (s : State) : Out :=
  s.on (fun d => if ((d.job job.toNat).bind (·.stepSeq)).isSome then d
    else d.submit src .ckp false (fun d => ckpStep d src job.toNat step.toNat))

def ckpNow (d : Chip) (src : Submit) (j flags : Nat) : Chip :=
  match d.job j with
  | none => d.refuse src (if j > 63 then Code.CKP_BAD_REQ else Code.CKP_JOB_STATE)
  | some x =>
    if flags > 1 then d.refuse src Code.CKP_BAD_REQ
    else if x.rank ≠ 0 then d.refuse src Code.CKP_NOT_COORD
    else
      let (d, q, b) := d.ckpAccept src 0x0C04 [j + flags * 2 ^ 8]
      d.finishWith q (fun d => d.ckpEffect q 0x0C04 b)

def execCkpNow (src : Submit) (job flags : BitVec 8) (s : State) : Out :=
  s.on (fun d => d.submit src .ckp false (fun d => ckpNow d src job.toNat flags.toNat))

/-- A checkpoint starts at the fence of the notified step (R558, R559, R574). -/
def Chip.ckpStart (d : Chip) (j : Nat) (x : CkpJob) (step : Nat) (askedFull : Bool) : Chip :=
  let full := d.flag (Reg.CKP_JOB_STATE.FULL_NEXT j) || askedFull
  let o : Origin := .step x.plan x.ring
  let d := d.accept ⟨.job j, 0, x.plan, o, d.originFn o, 0x57, .checkpoint j, descOf [j, step], none⟩ .running
  let d := (d.sr (Reg.CKP_JOB_STATE.STATE j) 2).sr (Reg.CKP_JOB_STATE.PHASE j) 1
  let d := ((d.sr (Reg.CKP_JOB_CURSOR.RANGE j) 0).sr (Reg.CKP_JOB_CURSOR.PAGE j) 0).sr (Reg.CKP_JOB_STATE.BATCHES j) 0
  d.setJob j { x with
    notice := none, lastStep := step, lastTick := d.tick, now := false, nowFull := false
    run := some { seq := d.lastSeq, step := step, full := full, credit := x.rate } }

/-- Whether a trigger of R556 is met at the fence of step S. -/
def Chip.triggered (d : Chip) (x : CkpJob) (step : Nat) : Bool :=
  (x.stepEvery ≠ 0 && step - x.lastStep ≥ x.stepEvery) || (x.tickEvery ≠ 0 && d.tick - x.lastTick ≥ x.tickEvery) || x.now

/-- The step fence of a job, at the first tick after its CKP_STEP was accepted: the step, rank 0's triggers, and the checkpoint
notified for it. -/
def Chip.stepFence (d : Chip) (j : Nat) : Chip :=
  match d.job j with
  | none => d
  | some x =>
    match x.stepSeq with
    | none => d
    | some (seq, step) =>
      if !(predsEnded d.led.items ((d.item seq).getD (Item.mk seq 0 .accepted (.core 0) 0 0 false false false 0 0 0 .internal 0 .work {} .none none none false false {}))) then d
      else
        let d := (d.setJob j { x with stepSeq := none }).sr (Reg.CKP_JOB_STEP.STEP j) step
        let d := d.finish seq Code.OK
        let d := match d.job j with
          | none => d
          | some x =>
            if x.rank ≠ 0 ∨ !d.triggered x step then d
            else if x.run.isSome then (d.count (Reg.CKP_COUNT.COUNT 2)).note clsMemory
            else if x.notice.isSome then d
            else
              let full := x.now && x.nowFull
              (d.setJob j { x with notice := some (step + x.lead, full) }).ck (fun u => { u with notices := u.notices ++ [(j, step + x.lead, full)] })
        match d.job j with
        | none => d
        | some x => match x.notice with
          | some (at_, full) => if at_ = step ∧ x.run.isNone ∧ jobState d j = 1 then d.ckpStart j x step full else d
          | none => d

/-- CHECKPOINT_NOTICE: taken at the node's fence of that step; one that arrives after it abandons that
checkpoint as LATE. -/
def checkpointNotice (d : Chip) (j step : Nat) (full : Bool) : Chip :=
  match d.job j with
  | none => d
  | some x =>
    if step ≤ d.rg (Reg.CKP_JOB_STEP.STEP j) then
      let d := d.fault Src.CKP_LATE j
      if (x.run.map (fun r => r.step)) = some step then d.ckpAbandon j 3
      else (d.sr (Reg.CKP_JOB_STATE.FULL_NEXT j) 1).count (Reg.CKP_COUNT.COUNT 1)
    else d.setJob j { x with notice := some (step, full) }

/-- CHECKPOINT_NOTICE; `step` is the step and whether its checkpoint is a full one. -/
def execCheckpointNotice (job : Fin 64) (step : Word × Bool) (s : State) : Out :=
  s.on (fun d => checkpointNotice d job step.1.toNat step.2)

/-! ## The snapshot (R560 to R563) -/

/-- COW_WRITE: a write to the paged range by the rule of R560; it waits, counted, while the page needs a copy and the capture buffer has
no free page. -/
def cowWriteCmd (d : Chip) (a : Nat) (bs : List Nat) : Chip :=
  let n := pageOf a
  let e := d.pte n
  let waits := match d.ckpPage n with
    | some (j, x, ri, pi) => match x.run with
      | some r =>
        let unvisited := !r.walked && !r.asking && (d.rg (Reg.CKP_JOB_CURSOR.RANGE j) < ri ||
          (d.rg (Reg.CKP_JOB_CURSOR.RANGE j) = ri && d.rg (Reg.CKP_JOB_CURSOR.PAGE j) ≤ pi))
        unvisited && !e.cow && (e.dirty || r.full) && (r.freeSlot x.capPages).isNone
      | none => false
    | none => false
  if !isPaged a ∨ bs.isEmpty ∨ !d.inOne a bs.length then d
  else if waits then d.count (Reg.CKP_COUNT.COUNT 7)
  else d.wr a bs

def execCowWrite (addr : Nat) (data : List (BitVec 8)) (s : State) : Out :=
  s.on (fun d => cowWriteCmd d addr (data.map BitVec.toNat))

/-- The cursor past one page; at the end of the last range the walk has ended. -/
def Chip.cursorNext (d : Chip) (j : Nat) (x : CkpJob) : Chip :=
  let r := d.rg (Reg.CKP_JOB_CURSOR.RANGE j)
  let p := d.rg (Reg.CKP_JOB_CURSOR.PAGE j) + 1
  let n := (x.ranges.map (fun g => g.pages)).getD r 0
  if p < n then d.sr (Reg.CKP_JOB_CURSOR.PAGE j) p
  else
    let d := (d.sr (Reg.CKP_JOB_CURSOR.PAGE j) 0).sr (Reg.CKP_JOB_CURSOR.RANGE j) (r + 1)
    if r + 1 < x.ranges.length then d
    else
      let d := match (d.job j).bind (·.run) with
        | some run => d.setCkpRun j { run with walked := true }
        | none => d
      d.sr (Reg.CKP_JOB_STATE.PHASE j) 2

/-- The walker's RATE begun anew in a frame; the part of a page already copied goes on counting for it. -/
def Chip.walkRate (d : Chip) (j : Nat) : Chip :=
  match d.job j with
  | none => d
  | some x =>
    match x.run with
    | none => d
    | some r => d.setCkpRun j { r with credit := x.rate + min r.credit 63 }

/-- WALKER_VISIT: void where no walk is under way, while a copy finds the capture buffer full or RATE used up, and where the plan's budget is
spent (R563). -/
def walkerVisit (d : Chip) (j : Nat) : Chip :=
  match d.job j with
  | none => d
  | some x =>
    match x.run with
    | none => d
    | some r =>
      if r.walked ∨ r.asking ∨ !d.running .ckp ∨ d.spent x.plan then d
      else
        let ri := d.rg (Reg.CKP_JOB_CURSOR.RANGE j)
        let g := x.ranges.getD ri ⟨0, 0, 0⟩
        let k := d.rg (Reg.CKP_JOB_CURSOR.PAGE j)
        let n := pageOf g.addr + k
        let e := d.pte n
        if e.cow then (d.setPte n { e with dirty := true, cow := false }).cursorNext j x
        else if !e.dirty ∧ !r.full then d.cursorNext j x
        else match r.freeSlot x.capPages with
          | none => d
          | some s =>
            if r.credit < 64 then d
            else
              let d := d.charge x.plan (d.captureUse (g.addr + k * 0x1_0000))
              let d := d.ckpCopy j x { r with credit := r.credit - 64 } n s (g.logical + k)
              (d.setPte n { e with dirty := false, cow := false }).cursorNext j x

def execWalkerVisit (job : Fin 64) (s : State) : Out := s.on (fun d => walkerVisit d job)

/-! ## Batches (R564 to R567) -/

def capAddr (x : CkpJob) (k : Nat) : Nat := x.capBase + k * 0x1_0000

/-- BATCH_HASHED: void until a whole batch, or after the walk a last short one, has been captured, and where the plan's budget is spent. A page found poisoned in the
buffer is recorded so (R577). -/
def batchHashed (d : Chip) (j : Nat) : Chip :=
  match d.job j with
  | none => d
  | some x =>
    match x.run with
    | none => d
    | some r =>
      let todo := (r.caps.filter (fun c => c.batch.isNone)).take x.batch
      if r.asking ∨ (todo.length < x.batch ∧ !(r.walked ∧ todo ≠ [])) ∨ !d.running .ckp ∨ d.spent x.plan then d
      else
        let k := r.batches.length
        let mine := todo.map (fun c => c.logical)
        let hash (c : CkpCap) : CkpCap :=
          let a := capAddr x (c.slot.getD 0)
          let bad := c.poison || d.anyPoison a 0x1_0000
          { c with batch := some k, poison := bad, hash := if bad then [] else sha256 (d.bytes a 0x1_0000) }
        let caps := r.caps.map (fun (c : CkpCap) => if c.batch.isNone ∧ mine.contains c.logical then hash c else c)
        let d := if caps.any (fun (c : CkpCap) => c.batch = some k && c.poison) then d.fault Src.CKP_CAP_POISON j else d
        d.setCkpRun j { r with caps := caps, batches := r.batches ++ [{}], poison := r.poison || caps.any (fun (c : CkpCap) => c.poison) }

def execBatchHashed (job : Fin 64) (s : State) : Out := s.on (fun d => batchHashed d job)

/-- The use of bytes written to the store: LINK_EGRESS of the lowest port that carries the namespace's target (R563, log entry 92). -/
def Chip.storeUse (d : Chip) (x : CkpJob) (n : Nat) : PlanUse :=
  let mask := match tget d.nvs.ns x.ns with
    | some ns => ((tget d.nvs.targets ns.target).map (fun t => t.raw.getD 2 0)).getD 0
    | none => 0
  match (List.range 4).find? (fun k => bitOf mask k) with
  | some k => { egress := [(8 + k, n)] }
  | none => {}

/-- Blocks written to the store at HEAD; none where they would pass TAIL (R569). A write that would wrap begins at REGION_LBA. -/
def Chip.storePut (d : Chip) (j : Nat) (x : CkpJob) (bs : List Nat) : Option (Chip × Nat) :=
  let n := ceilDiv bs.length 4096
  let head := d.rg (Reg.CKP_LOG_HEAD.BLOCK j)
  let tail := d.rg (Reg.CKP_LOG_TAIL.BLOCK j)
  let used := (head + x.blocks - tail) % x.blocks
  let pad := if head + n > x.blocks then x.blocks - head else 0
  if used + pad + n ≥ x.blocks then none
  else
    let at_ := if pad = 0 then head else 0
    let whole := bs ++ List.replicate (n * 4096 - bs.length) 0
    let d := d.ck (fun u => { u with store := u.store ++ [(x.ns, x.region + at_, whole)] })
    let d := d.charge x.plan (d.storeUse x (n * 4096))
    let d := (d.sr (Reg.CKP_LOG_HEAD.BLOCK j) ((at_ + n) % x.blocks)).count (Reg.CKP_COUNT.COUNT 9) (n * 4096)
    some (d, x.region + at_)

def ckpLabel (kind : Nat) (x : CkpJob) (step : Nat) (writer : Option Nat) : List Nat :=
  [kind] ++ leBytes 8 x.key ++ leBytes 8 step ++ (match writer with
    | some w => leBytes 2 w
    | none => [])

/-- One shard of at most 63 pages: each sealed under the checkpoint context, with its header block first (R570). -/
def Chip.shard (d : Chip) (x : CkpJob) (r : CkpRun) (caps : List CkpCap) (key : List Nat) : Option (Chip × List Nat) :=
  let one := fun (a : Option (Chip × List Nat × List Nat)) (c : CkpCap) =>
    match a with
    | none => none
    | some (d, ents, body) =>
      match d.ctxCounter 0 with
      | none => none
      | some (v, d) =>
        let iv := ivOf Config.fixedDev.toNat 0 v
        let (ct, tag) := gcmEncrypt key iv (leBytes 8 x.key ++ leBytes 8 r.step ++ c.hash) (d.bytes (capAddr x (c.slot.getD 0)) 0x1_0000)
        some (d, ents ++ c.hash ++ tag ++ iv ++ [0, 0, 0, 0], body ++ ct)
  match caps.foldl one (some (d, [], [])) with
  | none => none
  | some (d, ents, body) =>
    let head := leBytes 4 0x5348_5244 ++ leBytes 2 1 ++ [caps.length, 0] ++ leBytes 8 x.key ++ leBytes 8 r.step ++ leBytes 2 x.rank ++
      List.replicate 38 0 ++ ents
    some (d, head ++ List.replicate (4096 - head.length) 0 ++ body)

/-- Captured pages whose writer this node is and that it has not written. -/
def CkpRun.toWrite (r : CkpRun) (rank : Nat) : List Nat :=
  (r.caps.filter (fun c => c.writer = some rank && c.place.isNone && c.slot.isSome && !c.poison)).map (fun c => c.logical)

/-- The pages of a list found poisoned in the capture buffer recorded so (R577). -/
def Chip.ckpPoison (d : Chip) (j : Nat) (x : CkpJob) (r : CkpRun) (g : List Nat) : Chip × CkpRun :=
  let bad (c : CkpCap) : Bool := g.contains c.logical && c.slot.any (fun k => d.anyPoison (capAddr x k) 0x1_0000)
  if r.caps.any bad then
    let r := { r with poison := true, caps := r.caps.map (fun c => if bad c then { c with poison := true, hash := [], writer := none } else c) }
    ((d.fault Src.CKP_CAP_POISON j).setCkpRun j r, r)
  else (d, r)

/-- The pages this node is to write, written as shards while the block runs and the plan's budget lasts; the checkpoint is abandoned for the
reason STORE where the log or the key gives out. -/
def Chip.writeShards (d : Chip) (j : Nat) : List (List Nat) → Chip
  | [] => d
  | g :: gs =>
    match d.job j with
    | none => d
    | some x =>
      match x.run with
      | none => d
      | some r =>
        if !d.running .ckp ∨ d.spent x.plan then d
        else
        let (d, r) := d.ckpPoison j x r g
        let caps := r.caps.filter (fun c => g.contains c.logical && !c.poison)
        if caps.isEmpty then Chip.writeShards d j gs
        else match (d.derive 0 (ckpLabel 1 x r.step (some x.rank))).bind (fun key => d.shard x r caps key) with
        | none => d.ckpAbandon j 4
        | some (d, bs) =>
          match d.storePut j x bs with
          | none => d.ckpAbandon j 4
          | some (d, lba) =>
            let put (c : CkpCap) : CkpCap :=
              if g.contains c.logical ∧ !c.poison then { c with place := some (lba, (caps.findIdx (fun y => y.logical = c.logical))) } else c
            let r := { r with caps := r.caps.map put, wrote := r.wrote + caps.length }
            Chip.writeShards ((d.setCkpRun j r).count (Reg.CKP_COUNT.COUNT 4) caps.length) j gs

/-- Store writes that are due: at the round's answers, at the loss of a node, and again at each tick (R563). -/
def Chip.ckpWrites (d : Chip) (j : Nat) : Chip :=
  match d.job j with
  | none => d
  | some x =>
    match x.run with
    | none => d
    | some r =>
      let todo := r.toWrite x.rank
      d.writeShards j (pieces 63 todo.length todo)

/-- HASH_EXCHANGE_ROUND: the writers of the pages of the lowest batch without answers, in capture order (R565). -/
def exchangeRound (d : Chip) (j : Nat) (writers : List Nat) : Chip :=
  match d.job j with
  | none => d
  | some x =>
    match x.run with
    | none => d
    | some r =>
      match r.batches.findIdx? (fun b => !b.answered) with
      | none => d
      | some k =>
        if r.asking then d
        else
          let ls := (r.caps.filter (fun c => c.batch = some k && !c.poison)).map (fun c => c.logical)
          let w (l : Nat) : Nat := writers.getD (ls.findIdx (· = l)) x.rank
          let caps := r.caps.map (fun c => if ls.contains c.logical ∧ c.batch = some k then { c with writer := some (w c.logical) } else c)
          let own := ls.filter (fun l => w l = x.rank)
          let batches := (List.range r.batches.length).zip r.batches |>.map (fun b => if b.1 = k then { b.2 with answered := true } else b.2)
          let d := (d.setCkpRun j { r with caps := caps, batches := batches }).sr (Reg.CKP_JOB_STATE.PHASE j) 2
          let d := d.count (Reg.CKP_COUNT.COUNT 5) (ls.length - own.length)
          d.ckpWrites j

def execHashExchangeRound (job : Fin 64) (writers : List Nat) (s : State) : Out := s.on (fun d => exchangeRound d job writers)

/-- A batch that every writer named for it has confirmed: its capture-buffer pages are freed (R566). -/
def CkpRun.settle (r : CkpRun) (k : Nat) : CkpRun × Bool :=
  match r.batches[k]? with
  | none => (r, false)
  | some b =>
    let ws := (r.caps.filter (fun c => c.batch = some k)).filterMap (fun c => c.writer)
    if b.answered ∧ !b.done ∧ ws.all (fun w => b.confirmed.contains w) then
      ({ r with
        batches := (List.range r.batches.length).zip r.batches |>.map (fun y => if y.1 = k then { y.2 with done := true } else y.2)
        caps := r.caps.map (fun c => if c.batch = some k then { c with slot := none } else c) }, true)
    else (r, false)

/-- WRITER_CONFIRM (void for this node before it has written its pages of the batch): a writer's shard writes of a batch are complete; `places` says where its shards hold pages this node captured. A write
that ended with an error raises CKP_STORE_ERROR and abandons the checkpoint for the reason STORE. -/
def writerConfirm (d : Chip) (j k rank : Nat) (places : List (Nat × Nat × Nat)) (ok : Bool) : Chip :=
  match (d.job j).bind (·.run) with
  | none => d
  | some r =>
    if !ok then (d.fault Src.CKP_STORE_ERROR j).ckpAbandon j 4
    else match r.batches[k]? with
      | none => d
      | some b =>
        let unwritten : Bool := (d.job j).any (fun x => decide (x.rank = rank) && r.caps.any (fun c => c.batch = some k && (r.toWrite rank).contains c.logical))
        if !b.answered ∨ unwritten then d
        else
          let caps := r.caps.map (fun c =>
            if c.batch = some k ∧ c.writer = some rank ∧ c.place.isNone then
              { c with place := (places.find? (fun p => p.1 = c.logical)).map (fun p => p.2) } else c)
          let batches := (List.range r.batches.length).zip r.batches |>.map (fun y =>
            if y.1 = k then { y.2 with confirmed := if y.2.confirmed.contains rank then y.2.confirmed else y.2.confirmed ++ [rank] } else y.2)
          let (r, done) := CkpRun.settle { r with caps := caps, batches := batches } k
          let d := d.setCkpRun j r
          if done then d.mr (Reg.CKP_JOB_STATE.BATCHES j) (· + 1) else d

def execWriterConfirm (job : Fin 64) (batch rank : Nat) (places : List (Nat × Nat × Nat)) (ok : Bool) (s : State) : Out :=
  s.on (fun d => writerConfirm d job batch rank places ok)

/-- NODE_LOST: the writers chosen again for the pages of batches not yet confirmed whose writer was lost; without rank 0 the checkpoint is
abandoned, and on rank 0 also where no surviving node's ranges hold the lost node's pages (`covered`, R568). -/
def nodeLost (d : Chip) (j rank : Nat) (writers : List (Nat × Nat)) (covered : Bool) : Chip :=
  match d.job j with
  | none => d
  | some x =>
    match x.run with
    | none => d
    | some r =>
      if r.lost.contains rank ∨ rank = x.rank ∨ rank ≥ x.nodes then d
      else
        let d := d.fault Src.CKP_NODE_LOST rank
        if rank = 0 then d.ckpAbandon j 1
        else if x.rank = 0 ∧ !covered then (d.setCkpRun j { r with lost := r.lost ++ [rank] }).ckpAbandon j 2
        else
          let open_ (c : CkpCap) : Bool := c.writer = some rank && c.slot.isSome && !(match c.batch with
            | some k => (r.batches[k]?).any (fun b => b.confirmed.contains rank)
            | none => true)
          let new (l : Nat) : Nat := ((writers.find? (fun w => w.1 = l)).map (fun w => w.2)).getD x.rank
          let mine := (r.caps.filter (fun c => open_ c && new c.logical = x.rank)).map (fun c => c.logical)
          let caps := r.caps.map (fun c => if open_ c then { c with writer := some (new c.logical) } else c)
          let d := (d.setCkpRun j { r with caps := caps, lost := r.lost ++ [rank] }).count (Reg.CKP_COUNT.COUNT 8) mine.length
          d.ckpWrites j

/-- NODE_LOST; `writers` is the new writers and whether the pages are covered. -/
def execNodeLost (job : Fin 64) (rank : Nat) (writers : List (Nat × Nat) × Bool) (s : State) : Out :=
  s.on (fun d => nodeLost d job rank writers.1 writers.2)

/-! ## Segment, root and commit record (R571 to R574) -/

def insertCap (c : CkpCap) : List CkpCap → List CkpCap
  | [] => [c]
  | b :: bs => if c.logical ≤ b.logical then c :: b :: bs else b :: insertCap c bs

def segEntry (step : Nat) (c : CkpCap) : List Nat :=
  let (lba, i) := c.place.getD (0, 0)
  leBytes 8 c.logical ++ leBytes 8 lba ++ [i, b2n c.poison] ++ leBytes 2 (c.writer.getD 0) ++ [0, 0, 0, 0] ++ leBytes 8 step ++
    (c.hash ++ List.replicate 32 0).take 32

/-- Whether every captured page's batch is confirmed and the walk has ended. -/
def CkpRun.allConfirmed (r : CkpRun) : Bool := r.walked && r.caps.all (fun c => c.batch.isSome) && r.batches.all (fun b => b.done)

/-- SEGMENT_WRITE: void until the last batch is confirmed, and where the plan's budget is spent. -/
def segmentWrite (d : Chip) (j : Nat) : Chip :=
  match d.job j with
  | none => d
  | some x =>
    match x.run with
    | none => d
    | some r =>
      if r.asking ∨ !r.allConfirmed ∨ r.segment.isSome ∨ !d.running .ckp ∨ d.spent x.plan then d
      else
        let caps := r.caps.foldr insertCap []
        let bs := caps.flatMap (segEntry r.step)
        match d.storePut j x (if bs.isEmpty then List.replicate 4096 0 else bs) with
        | none => d.ckpAbandon j 4
        | some (d, lba) =>
          (d.setCkpRun j { r with segment := some (lba, caps.length, max 1 (ceilDiv bs.length 4096), sha256 bs) }).sr (Reg.CKP_JOB_STATE.PHASE j) 3

def execSegmentWrite (job : Fin 64) (s : State) : Out := s.on (fun d => segmentWrite d job)

/-- The root of a checkpoint (R572): its header, its MAC, and the table of the segments, this node's first, in whole blocks. -/
def rootImage (x : CkpJob) (r : CkpRun) (own : Nat × Nat × Nat × List Nat) (segs : List (Nat × Nat × Nat × Nat × List Nat)) (key : List Nat) : List Nat :=
  let all := (0, own.1, own.2.1, own.2.2.1, own.2.2.2) :: segs
  let table := all.flatMap (fun s => leBytes 2 s.1 ++ List.replicate 6 0 ++ leBytes 8 s.2.1 ++ leBytes 8 s.2.2.1 ++ leBytes 8 s.2.2.2.1 ++
    (s.2.2.2.2 ++ List.replicate 32 0).take 32)
  let base := if r.full then none else x.base
  let head := leBytes 4 0x524F_4F54 ++ leBytes 2 1 ++ leBytes 2 x.nodes ++ leBytes 8 x.key ++ leBytes 8 r.step ++
    leBytes 8 ((base.map (fun b => b.1)).getD 0) ++ leBytes 4 (if r.full then 0 else x.incr + 1) ++ leBytes 4 all.length ++
    leBytes 8 x.logical ++ leBytes 8 (x.number + 1) ++ leBytes 8 ((base.map (fun b => b.2.2.1)).getD 0) ++
    ((base.map (fun b => b.2.2.2)).getD (List.replicate 32 0))
  let whole := head ++ kmac256 key (head ++ table) [] 32 ++ List.replicate (4096 - 128) 0 ++ table
  whole ++ List.replicate (ceilDiv whole.length 4096 * 4096 - whole.length) 0

/-- ROOT_WRITE on rank 0, after every surviving node's segment: `segments` are those of the other nodes (rank, block, entries, blocks, SHA-256);
a lost node's pages that no surviving node holds abandon the checkpoint for the reason COVERAGE. -/
def rootWrite (d : Chip) (j : Nat) (segs : List (Nat × Nat × Nat × Nat × List Nat)) (covered : Bool) : Chip :=
  match d.job j with
  | none => d
  | some x =>
    match x.run with
    | none => d
    | some r =>
      match r.segment with
      | none => d
      | some own =>
        if x.rank ≠ 0 ∨ r.root.isSome ∨ r.asking ∨ !d.running .ckp ∨ d.spent x.plan then d
        else if !covered then d.ckpAbandon j 2
        else
          match d.derive 0 (ckpLabel 2 x r.step none) with
          | none => d.ckpAbandon j 4
          | some key =>
            let whole := rootImage x r own segs key
            match d.storePut j x whole with
            | none => d.ckpAbandon j 4
            | some (d, lba) =>
              (d.setCkpRun j { r with root := some (lba, whole.length / 4096, sha256 whole) }).sr (Reg.CKP_JOB_STATE.PHASE j) 4

def execRootWrite (job : Fin 64) (segments : List (Nat × Nat × Nat × Nat × List (BitVec 8))) (covered : Bool) (s : State) : Out :=
  s.on (fun d => rootWrite d job (segments.map (fun s => (s.1, s.2.1, s.2.2.1, s.2.2.2.1, s.2.2.2.2.map BitVec.toNat))) covered)

/-- The commit record's block (R573). -/
def commitBlock (x : CkpJob) (r : CkpRun) (root : Nat × Nat × List Nat) (key : List Nat) : List Nat :=
  let b := leBytes 4 0x434F_4D54 ++ leBytes 2 1 ++ [0, 0] ++ leBytes 8 x.key ++ leBytes 8 r.step ++ leBytes 8 (x.number + 1) ++ leBytes 8 root.1 ++
    leBytes 4 root.2.1 ++ [0, 0, 0, 0] ++ root.2.2
  let b := b ++ kmac256 key b [] 32
  b ++ List.replicate (4096 - b.length) 0

/-- A checkpoint's item ends well: TAIL goes to the first block kept. -/
def Chip.ckpCommit (d : Chip) (j : Nat) (x : CkpJob) (r : CkpRun) (tail : Nat) : Chip :=
  let d := d.sr (Reg.CKP_LOG_TAIL.BLOCK j) (tail % max x.blocks 1)
  let asked := r.asking
  let lo := if asked then ckpLo 0 r.full 0 0 else ckpLo 0 r.full r.lost.length r.wrote
  let d := match r.root with
    | some root => d.setJob j { x with base := some (r.step, 0, root.1, root.2.2) }
    | none => d
  d.finish r.seq (if r.poison && !asked then Code.POISONED_DATA else Code.OK) lo r.step

/-- Whether a checkpoint's item may still end: it has no end state, and no outcome of its own yet. -/
def Chip.ckpOpenEnd (d : Chip) (r : CkpRun) : Bool := (d.item r.seq).any (fun i => i.fin.isNone && i.crec = .none && !i.state.ended)

/-- COMMIT_RECORD_WRITE on rank 0: void before the root is written, and where the plan's budget is spent. -/
def commitRecordWrite (d : Chip) (j tail : Nat) : Chip :=
  match d.job j with
  | none => d
  | some x =>
    match x.run with
    | none => d
    | some r =>
      match r.root with
      | none => d
      | some root =>
        if !d.ckpOpenEnd r ∨ !d.running .ckp ∨ d.spent x.plan then d
        else match d.derive 0 (ckpLabel 2 x r.step none) with
        | none => d.ckpAbandon j 4
        | some key =>
          let d := d.ck (fun u => { u with store := u.store ++ [(x.ns, x.commitLba + (x.number + 1) % 2, commitBlock x r root key)] })
          let d := d.charge x.plan (d.storeUse x 4096)
          d.ckpCommit j x r tail

def execCommitRecordWrite (job : Fin 64) (tail : Nat) (s : State) : Out := s.on (fun d => commitRecordWrite d job tail)

/-- COMMITTED_MESSAGE on a node that is not rank 0. -/
def committedMessage (d : Chip) (j tail : Nat) : Chip :=
  match d.job j with
  | none => d
  | some x =>
    match x.run with
    | none => d
    | some r => if x.rank = 0 ∨ (r.segment.isNone ∧ !r.asking) ∨ !d.ckpOpenEnd r then d else d.ckpCommit j x r tail

def execCommittedMessage (job : Fin 64) (tail : Nat) (s : State) : Out := s.on (fun d => committedMessage d job tail)

/-- A returned checkpoint (R576): rank 0 abandons it for the reason RESET, another rank asks for the outcome. -/
def Chip.ckpReturn (d : Chip) (j : Nat) : Chip :=
  match d.job j with
  | none => d
  | some x =>
    match x.run with
    | none => d
    | some r =>
      if x.rank = 0 then d.ckpAbandon j 6
      else
        let d := d.ckpRelease x
        let d := d.updItem r.seq (fun i => if i.crec = .none then backToAccepted i else i)
        d.setCkpRun j { r with asking := true, caps := [], batches := [] }

def Chip.ckpFence (d : Chip) : Chip := (d.ckp.jobs.map (fun (j : Nat × CkpJob) => j.1)).foldl (fun (d : Chip) j => d.ckpReturn j) d

/-! ## Restore (R578 to R581) -/

/-- The store as a function of a block number. -/
def ckpBlock (st : List (Nat × List Nat)) (lba : Nat) : List Nat :=
  ((((st.find? (fun (b : Nat × List Nat) => b.1 = lba)).map (fun (b : Nat × List Nat) => b.2)).getD []) ++ List.replicate 4096 0).take 4096

def ckpBytes (st : List (Nat × List Nat)) (lba n : Nat) : List Nat := (List.range n).flatMap (fun i => ckpBlock st (lba + i))

/-- A commit block that verifies: step, number, root block, root blocks, root hash. -/
def Chip.commitOf (d : Chip) (x : CkpJob) (b : List Nat) : Option (Nat × Nat × Nat × Nat × List Nat) :=
  let step := fieldOf b 16 8
  match d.derive 0 (ckpLabel 2 x step none) with
  | none => none
  | some key =>
    if fieldOf b 0 4 = 0x434F_4D54 ∧ fieldOf b 4 2 = 1 ∧ fieldOf b 8 8 = x.key ∧ (b.drop 80).take 32 = kmac256 key (b.take 80) [] 32 then
      some (step, fieldOf b 24 8, fieldOf b 32 8, fieldOf b 40 4, (b.drop 48).take 32)
    else none

/-- A root that verifies: its bytes. -/
def Chip.rootOk (d : Chip) (x : CkpJob) (root : List Nat) : Bool :=
  let n := fieldOf root 36 4
  match d.derive 0 (ckpLabel 2 x (fieldOf root 16 8) none) with
  | none => false
  | some key => fieldOf root 0 4 = 0x524F_4F54 && (root.drop 96).take 32 = kmac256 key (root.take 96 ++ (root.drop 4096).take (64 * n)) [] 32

/-- Blocks of a root whose header block is given. -/
def rootBlocks (head : List Nat) : Nat := 1 + ceilDiv (64 * fieldOf head 36 4) 4096

/-- The chain of roots from the newest back to a full one; none where a base does not verify. -/
def Chip.rootChain (d : Chip) (x : CkpJob) (st : List (Nat × List Nat)) : Nat → List Nat → Option (List (List Nat))
  | 0, _ => none
  | k + 1, root =>
    if fieldOf root 32 4 = 0 then some [root]
    else
      let lba := fieldOf root 56 8
      let b := ckpBytes st lba (rootBlocks (ckpBlock st lba))
      if sha256 b ≠ (root.drop 64).take 32 ∨ !d.rootOk x b then none else (d.rootChain x st k b).map (fun c => root :: c)

/-- The segment entries of a root. -/
def rootEntries (st : List (Nat × List Nat)) (root : List Nat) : List (List Nat) :=
  (List.range (fieldOf root 36 4)).flatMap (fun i =>
    let t := (root.drop (4096 + 64 * i)).take 64
    let bs := ckpBytes st (fieldOf t 8 8) (fieldOf t 24 8)
    (List.range (fieldOf t 16 8)).map (fun e => (bs.drop (64 * e)).take 64))

/-- One page's content from its entry, or the code that withdraws the restore. -/
def Chip.restorePage (d : Chip) (x : CkpJob) (st : List (Nat × List Nat)) (e : List Nat) : Except Nat (List Nat) :=
  let lba := fieldOf e 8 8
  let i := fieldOf e 16 1
  let step := fieldOf e 24 8
  let h := ckpBlock st lba
  if fieldOf h 16 8 ≠ step ∨ fieldOf h 8 8 ≠ x.key then .error Code.CKP_STEP_MISMATCH
  else match d.derive 0 (ckpLabel 1 x step (some (fieldOf e 18 2))) with
    | none => .error Code.AUTH_FAIL
    | some key =>
      let ent := (h.drop (64 + 64 * i)).take 64
      let hash := ent.take 32
      match gcmDecrypt key ((ent.drop 48).take 12) (leBytes 8 x.key ++ leBytes 8 step ++ hash) (ckpBytes st (lba + 1 + 16 * i) 16) ((ent.drop 32).take 16) with
      | none => .error Code.AUTH_FAIL
      | some pt => if sha256 pt = (e.drop 32).take 32 then .ok pt else .error Code.CKP_SHARD_BAD

/-- Every page of the job's ranges written from the chain: the chip and whether a poisoned page was written, or the withdrawing code. -/
def Chip.restorePages (d : Chip) (x : CkpJob) (st : List (Nat × List Nat)) (chain : List (List (List Nat))) : List (Nat × Nat) → Bool → Except (Chip × Nat) (Chip × Bool)
  | [], p => .ok (d, p)
  | (n, l) :: rest, p =>
    let has := chain.flatMap (fun es => es.filter (fun e => fieldOf e 0 8 = l))
    let a := 0x300_0000_0000 + n * 0x1_0000
    match has.find? (fun e => fieldOf e 17 1 % 2 = 0) with
    | some e =>
      match d.restorePage x st e with
      | .error c => .error (d, c)
      | .ok pt => (d.wr a pt).restorePages x st chain rest p
    | none =>
      if has.isEmpty then .error (d, Code.CKP_INCOMPLETE)
      else (d.writeRange a (List.replicate 0x1_0000 (0, true))).restorePages x st chain rest true

/-- The blocks of this node's region that a chain references, as offsets. -/
def keptBlocks (x : CkpJob) (st : List (Nat × List Nat)) (chain : List (List Nat)) : List (Nat × Nat) :=
  let all := chain.flatMap (fun root =>
    ((List.range (fieldOf root 36 4)).map (fun i =>
      let t := (root.drop (4096 + 64 * i)).take 64
      (fieldOf t 8 8, fieldOf t 24 8))) ++
    (rootEntries st root).map (fun e => (fieldOf e 8 8, 1 + 16 * fieldOf (ckpBlock st (fieldOf e 8 8)) 6 1)))
  (all.filter (fun b => x.region ≤ b.1 && b.1 < x.region + x.blocks)).map (fun b => (b.1 - x.region, b.2))

/-- The end of a restore that succeeded (R581). -/
def Chip.restoreDone (d : Chip) (j : Nat) (x : CkpJob) (st : List (Nat × List Nat)) (chain : List (List Nat)) (number seq : Nat) (poison : Bool) : Chip :=
  let root := chain.headD []
  let step := fieldOf root 16 8
  let d := x.pages.foldl (fun (d : Chip) p => d.setPte p.1 { d.pte p.1 with dirty := false, cow := false }) d
  let kept := keptBlocks x st chain
  let head := (kept.map (fun b => b.1 + b.2)).foldl max 0
  let tail := (kept.map (fun b => b.1)).foldl min head
  let d := ((d.sr (Reg.CKP_JOB_STEP.STEP j) step).sr (Reg.CKP_JOB_LAST.STEP j) step).count (Reg.CKP_COUNT.COUNT 10)
  let d := (d.sr (Reg.CKP_LOG_HEAD.BLOCK j) (head % max x.blocks 1)).sr (Reg.CKP_LOG_TAIL.BLOCK j) tail
  let d := if fieldOf root 6 2 ≠ x.nodes then d.sr (Reg.CKP_JOB_STATE.FULL_NEXT j) 1 else d
  let d := d.setJob j { x with
    number := number, headKept := head % max x.blocks 1, incr := fieldOf root 32 4, lastStep := step, restore := some seq }
  d.issueCommit seq ⟨if poison then Code.POISONED_DATA else Code.OK, ckpLo 0 (fieldOf root 32 4 = 0) 0 x.pages.length, step⟩

/-- The commit record a restore takes: of the two blocks' that verify, for the step asked where one is, the newest whose root is there (R578). -/
def Chip.commitPick (d : Chip) (x : CkpJob) (step : Nat) (st : List (Nat × List Nat)) : Option (Nat × Nat × Nat × Nat × List Nat) :=
  let cs := ([0, 1].filterMap (fun k => d.commitOf x (ckpBlock st (x.commitLba + k)))).filter (fun c => step = 0 || c.1 = step)
  let cs := match cs with
    | [a, b] => if a.2.1 ≥ b.2.1 then [a, b] else [b, a]
    | l => l
  cs.find? (fun c => sha256 (ckpBytes st c.2.2.1 c.2.2.2.1) = c.2.2.2.2)

/-- CKP_RESTORE: `store` is what the shared store holds. -/
def ckpRestore (d : Chip) (src : Submit) (j step : Nat) (st : List (Nat × List Nat)) : Chip :=
  match d.job j with
  | none => d.refuse src Code.CKP_JOB_STATE
  | some x =>
    if jobState d j ≠ 1 then d.refuse src Code.CKP_JOB_STATE
    else
      let (d, q, _) := d.ckpAccept src 0x0C05 [j, step]
      let d := (d.setJob j { x with restore := some q }).sr (Reg.CKP_JOB_STATE.STATE j) 3
      let d := d.updItem q (fun i => { i with state := .running })
      match d.commitPick x step st with
      | none => d.withdraw q Code.CKP_NONE
      | some c =>
        let root := ckpBytes st c.2.2.1 c.2.2.2.1
        if !d.rootOk x root then d.withdraw q Code.CKP_NONE
        else if fieldOf root 40 8 ≠ x.logical then d.withdraw q Code.CKP_LAYOUT
        else match d.rootChain x st 65 root with
          | none => d.withdraw q Code.CKP_NONE
          | some chain =>
            match d.restorePages x st (chain.map (rootEntries st)) x.pages false with
            | .error (d, code) => d.withdraw q code (ckpLo 0 false 0 0) step
            | .ok (d, poison) => d.restoreDone j x st chain c.2.1 q poison

def execCkpRestore (src : Submit) (job : BitVec 8) (step : Word) (store : List (Nat × List (BitVec 8))) (s : State) : Out :=
  s.on (fun d => d.submit src .ckp false (fun d =>
    ckpRestore d src job.toNat step.toNat (store.map (fun b => (b.1, b.2.map BitVec.toNat)))))

end Sys2Proof.Machine
end

