-- ==== Sys2Proof/Machine/Packet.lean ====
section
/-! DEFINITION. Packet parsing, classification and traffic scheduling (chapter 12). Time in frame cycles is what the path's events
tell: each carries the cycles since the one before. -/
namespace Sys2Proof.Machine
open Sys2Proof

def Chip.pk (d : Chip) (f : PktUnit → PktUnit) : Chip := { d with pkt := f d.pkt }

/-- Time goes on by some frame cycles; the counts of frames taken and sent in the present cycle start again. -/
def Chip.pktTime (d : Chip) (cyc : Nat) : Chip :=
  if cyc = 0 then d else d.pk (fun p => { p with now := p.now + cyc, rxNow := 0, txNow := 0 })

/-- The frame cycle of the present moment: the cycles the path's events have told since the tick. -/
def Chip.pktOffset (d : Chip) : Nat := d.pkt.now - d.pkt.frameAt

/-- The timestamp of a frame received, or sent, on a MAC (R398). -/
def Chip.stampRx (d : Chip) (m : Nat) : Chip := { d with lnk := { d.lnk with rxStamp := tput d.lnk.rxStamp m (d.timestamp d.pktOffset) } }

def Chip.stampTx (d : Chip) (m : Nat) : Chip := { d with lnk := { d.lnk with txStamp := tput d.lnk.txStamp m (d.timestamp d.pktOffset) } }

/-! ## Versions (R454) -/

/-- The committed version C and the pending version P. -/
def Chip.pktC (d : Chip) : Nat := d.rg Reg.PKT_VERSION.COMMITTED
def Chip.pktP (d : Chip) : Nat := (d.pktC + 1) % 0x10000

/-- d(a, b): (a − b) mod 2^16 as a signed number. -/
def verDiff (a b : Nat) : Int :=
  let x := (a + 0x10000 - b % 0x10000) % 0x10000
  if x ≥ 0x8000 then (x : Int) - 0x10000 else x

def liveFor (v addVer delVer : Nat) (deleted : Bool) : Bool :=
  decide (verDiff v addVer ≥ 0) && (!deleted || decide (verDiff v delVer < 0))

def EmEntry.live (e : EmEntry) (v : Nat) : Bool := e.pend = 0 && liveFor v e.addVer e.delVer e.deleted
def TcamEntry.live (e : TcamEntry) (v : Nat) : Bool := e.pend = 0 && liveFor v e.addVer e.delVer e.deleted

def Chip.pktCopy (d : Chip) (v : Nat) : PktCopy := if v % 2 = 0 then d.pkt.copy0 else d.pkt.copy1

def Chip.setPktCopy (d : Chip) (v : Nat) (c : PktCopy) : Chip :=
  d.pk (fun p => if v % 2 = 0 then { p with copy0 := c } else { p with copy1 := c })

/-! ## The exact-match table (R445, R455) -/

/-- CRC-32C with a seed in place of the initial value, over PROFILE and KEY. -/
def emHash (seed : Nat) (profile : Nat) (key : List Nat) : Nat := ((profile :: key).foldl crc32cByte seed) ^^^ 0xFFFF_FFFF

/-- The two buckets of a key. -/
def EmCopy.buckets (c : EmCopy) (profile : Nat) (key : List Nat) : Nat × Nat :=
  (emHash c.seed0 profile key % 0x40_0000, emHash c.seed1 profile key % 0x40_0000)

/-- A FREE slot of a bucket. -/
def emFree (slots : Tbl EmEntry) (b : Nat) : Option Nat :=
  ((List.range 4).map (fun i => b * 4 + i)).find? (fun s => (tget slots s).isNone)

/-- An entry put into bucket b, residents moved to their other buckets for it: at most `k` moves; which resident moves is free. -/
def emKick (c : EmCopy) (pick : Nat → Nat) : Nat → Tbl EmEntry → EmEntry → Nat → Option (Tbl EmEntry)
  | 0, _, _, _ => none
  | k + 1, slots, e, b =>
    let s := b * 4 + pick k % 4
    match tget slots s with
    | none => some (tput slots s e)
    | some v =>
      let (b0, b1) := c.buckets v.profile v.key
      let b' := if b0 = b then b1 else b0
      match emFree slots b' with
      | some t => some (tput (tput slots t v) s e)
      | none => emKick c pick k (tput slots s e) v b'

/-- An entry's insertion: the slots after it, or none where no slot is found within 32 moves. -/
def EmCopy.insert (c : EmCopy) (pick : Nat → Nat) (e : EmEntry) : Option EmCopy :=
  let (b0, b1) := c.buckets e.profile e.key
  match emFree c.slots b0 with
  | some s => some { c with slots := tput c.slots s e }
  | none =>
    match emFree c.slots b1 with
    | some s => some { c with slots := tput c.slots s e }
    | none => (emKick c pick 32 c.slots e b0).map (fun t => { c with slots := t })

def emBytes (e : EmEntry) : List Nat :=
  e.key ++ [e.profile, b2n (e.pend = 0) + b2n e.deleted * 2] ++ leBytes 2 e.addVer ++ leBytes 2 e.delVer ++ leBytes 2 e.action ++
    List.replicate 16 0

def Chip.emActive (d : Chip) : Nat := d.rg Reg.PKT_EM_STATE.ACTIVE

def Chip.emCopy (d : Chip) (k : Nat) : EmCopy := if k = 0 then d.pkt.em0 else d.pkt.em1

def Chip.emAddr (d : Chip) (k slot : Nat) : Nat := d.rg Reg.PKT_EM_BASE.BASE + k * 0x4000_0000 + slot * 64

/-- A copy replaced: the near tier's bytes follow it. -/
def Chip.setEm (d : Chip) (k : Nat) (c : EmCopy) : Chip :=
  let old := (d.emCopy k).slots
  let gone := old.filter (fun (e : Nat × EmEntry) => (tget c.slots e.1).isNone)
  let new := c.slots.filter (fun (e : Nat × EmEntry) => tget old e.1 ≠ some e.2)
  let d := gone.foldl (fun (d : Chip) (e : Nat × EmEntry) => d.wr (d.emAddr k e.1) (List.replicate 64 0)) d
  let d := new.foldl (fun (d : Chip) (e : Nat × EmEntry) => d.wr (d.emAddr k e.1) (emBytes e.2)) d
  d.pk (fun p => if k = 0 then { p with em0 := c } else { p with em1 := c })

def Chip.syncEm (d : Chip) : Chip :=
  let v := d.pktC
  d.sr Reg.PKT_EM_STATE.ENTRIES (((d.emCopy d.emActive).slots.filter (fun (e : Nat × EmEntry) => e.2.live v)).length)

/-- Which resident a fresh walk moves. -/
def Chip.emPick (d : Chip) (k : Nat) : Nat := (Config.freeWord (d.free + k)).toNat

/-! ## The rebuild (R458, R459) -/

def Chip.rebState (d : Chip) : Nat := d.rg Reg.PKT_EM_STATE.REBUILD

/-- A rebuild begins its COPY under two seeds. -/
def Chip.rebCopy (d : Chip) (seq seed0 seed1 : Nat) : Chip :=
  let d := d.setEm (1 - d.emActive) { slots := [], seed0 := seed0, seed1 := seed1 }
  let d := d.pk (fun p => { p with reb := { p.reb with
    on := true, seed0 := seed0, seed1 := seed1, seq := seq, todo := (d.emCopy d.emActive).slots.map (fun (e : Nat × EmEntry) => e.2)
    log := [], restart := none } })
  d.sr Reg.PKT_EM_STATE.REBUILD 1

/-- Seeds drawn from the device's generator. -/
def Chip.rebDraw (d : Chip) (seq : Nat) : Chip :=
  (d.takeFree.takeFree).rebCopy seq ((Config.freeWord d.free).toNat % 2 ^ 32) ((Config.freeWord (d.free + 1)).toNat % 2 ^ 32)

/-- The oldest EM_REBUILD that waits starts when no rebuild runs or is to restart. -/
def Chip.rebNext (d : Chip) : Chip :=
  if d.pkt.reb.on then d
  else match d.led.items.find? (fun i => i.kind = .general 0x080C && !i.state.ended && i.crec = .none) with
    | none => d
    | some i =>
      let d := (d.sr Reg.PKT_EM_STATE.ABANDONS 0).updItem i.seq (fun i => { i with state := .running })
      d.rebCopy i.seq (wf i.body.w1 0 32) (wf i.body.w1 32 32)

/-- A rebuild abandoned: it restarts after 1,024 ticks; the fourth counted abandon ends it, and its EM_REBUILD is withdrawn. -/
def Chip.rebAbandon (d : Chip) (counted : Bool) : Chip :=
  if !(d.pkt.reb.on && d.rebState ≠ 0) then d
  else
    let r := d.pkt.reb
    let n := d.rg Reg.PKT_EM_STATE.ABANDONS + b2n counted
    let d := (d.sr Reg.PKT_EM_STATE.REBUILD 0).sr Reg.PKT_EM_STATE.ABANDONS n
    if counted ∧ n ≥ 4 then
      let d := d.pk (fun p => { p with reb := {} })
      ((if r.seq = 0 then d else d.withdraw r.seq Code.PKT_REBUILD_ABANDONED)).rebNext
    else d.pk (fun p => { p with reb := { r with todo := [], log := [], restart := some (d.tick + 1024) } })

/-- Changes of the active copy recorded while a rebuild copies or drains; a full log abandons it. -/
def Chip.emLog (d : Chip) (cs : List EmChange) : Chip :=
  if d.rebState = 1 ∨ d.rebState = 2 then
    if d.pkt.reb.log.length + cs.length > 65536 then d.rebAbandon true
    else d.pk (fun p => { p with reb := { p.reb with log := p.reb.log ++ cs } })
  else d

/-- The entries of the active copy changed one by one (none: the entry becomes FREE), the changes logged. -/
def Chip.emMap (d : Chip) (f : EmEntry → Option EmEntry) : Chip :=
  let k := d.emActive
  let c := d.emCopy k
  let d := d.setEm k { c with slots := c.slots.filterMap (fun (e : Nat × EmEntry) => (f e.2).map (fun e' => (e.1, e'))) }
  let cs := c.slots.filterMap (fun (e : Nat × EmEntry) =>
    match f e.2 with
    | none => some (EmChange.del e.2.id)
    | some e' => if e' = e.2 then none else some (EmChange.put e'))
  (d.emLog cs).syncEm

/-- A change applied to a copy: none where an insertion finds no slot. -/
def EmCopy.apply (c : EmCopy) (pick : Nat → Nat) : EmChange → Option EmCopy
  | .del i => some { c with slots := c.slots.filter (fun (e : Nat × EmEntry) => e.2.id ≠ i) }
  | .put e =>
    match c.slots.find? (fun (x : Nat × EmEntry) => x.2.id = e.id) with
    | some x => some { c with slots := tput c.slots x.1 e }
    | none => c.insert pick e

def EmCopy.applyAll (pick : Nat → Nat) (c : EmCopy) (cs : List EmChange) : Option EmCopy :=
  cs.foldl (fun (c : Option EmCopy) x => c.bind (fun c => c.apply pick x)) (some c)

/-- Changes applied to the inactive copy; a rebuild that finds no slot is abandoned. -/
def Chip.rebApply (d : Chip) (cs : List EmChange) (k : Chip → Chip) : Chip :=
  let j := 1 - d.emActive
  match (d.emCopy j).applyAll d.emPick cs with
  | none => d.takeFree.rebAbandon true
  | some c => k (d.takeFree.setEm j c)

def rebuildCopyDone (d : Chip) : Chip :=
  if d.rebState ≠ 1 then d
  else d.rebApply (d.pkt.reb.todo.map EmChange.put) (fun d =>
    (d.pk (fun p => { p with reb := { p.reb with todo := [] } })).sr Reg.PKT_EM_STATE.REBUILD 2)

def rebuildDrainDone (d : Chip) : Chip :=
  if d.rebState ≠ 2 then d
  else
    let n := d.pkt.reb.log.length - 1024
    d.rebApply (d.pkt.reb.log.take n) (fun d =>
      (d.pk (fun p => { p with reb := { p.reb with log := p.reb.log.drop n } })).sr Reg.PKT_EM_STATE.REBUILD 3)

/-- The rest of the log is applied, ACTIVE flips, and EM_REBUILD commits. -/
def rebuildSwitchDone (d : Chip) : Chip :=
  if d.rebState ≠ 3 then d
  else d.rebApply d.pkt.reb.log (fun d =>
    let seq := d.pkt.reb.seq
    let d := (d.sr Reg.PKT_EM_STATE.ACTIVE (1 - d.emActive)).sr Reg.PKT_EM_STATE.REBUILD 0
    let d := (d.pk (fun p => { p with reb := {}, cache := [] })).syncEm.count (Reg.PKT_COUNT.COUNT 15)
    (if seq = 0 then d else d.finish seq Code.OK).rebNext)

def rebuildRestart (d : Chip) : Chip :=
  match d.pkt.reb.restart with
  | none => d
  | some t => if d.tick < t ∨ !d.running .pkt then d else d.rebDraw d.pkt.reb.seq

def execRebuildCopyDone (s : State) : Out := s.on rebuildCopyDone
def execRebuildDrainDone (s : State) : Out := s.on rebuildDrainDone
def execRebuildSwitchDone (s : State) : Out := s.on rebuildSwitchDone
def execRebuildRestart (s : State) : Out := s.on rebuildRestart
def execRebuildAbandon (s : State) : Out := s.on (fun d => (d.rebAbandon false).answered (.block .pkt) true)
def execCacheFlush (s : State) : Out := s.on (fun d => (d.pk (fun p => { p with cache := [] })).answered (.block .pkt) true)

/-! ## Layouts and fields (R440 to R444) -/

/-- A field entry of a layout record. -/
structure LField where
  valid : Bool
  start : Nat
  width : Nat
  pos : Nat
  rsvd : Nat

def layoutField (r : List Nat) (i : Nat) : LField :=
  let w := leNat ((r.drop (4 * i)).take 4)
  ⟨w / 2 ^ 31 = 1, (w / 2 ^ 23 % 256) * 8 + w / 2 ^ 20 % 8, w / 2 ^ 13 % 128 + 1, w / 2 ^ 4 % 512, w % 16⟩

def layoutFields (r : List Nat) : List LField := (List.range 32).map (layoutField r)

def layoutMask (r : List Nat) : Nat := leNat ((r.drop 128).take 8)
def layoutAction (r : List Nat) : Nat := leNat ((r.drop 138).take 2)
def maskBytes (m : Nat) : List Nat := (List.range 64).filter (fun b => bitOf m b)

/-- Frame bit k, and a field's value, most significant bit first. -/
def frameBit (bs : List Nat) (k : Nat) : Nat := bs.getD (k / 8) 0 / 2 ^ (7 - k % 8) % 2

def LField.value (f : LField) (bs : List Nat) : Nat :=
  if f.start + f.width > 8 * bs.length then 0
  else (List.range f.width).foldl (fun v i => v * 2 + frameBit bs (f.start + i)) 0

/-- The field vector as a number of 512 bits, bit 0 of the vector its most significant. -/
def fieldVector (r bs : List Nat) : List Nat :=
  beBytes 64 ((layoutFields r).foldl (fun v f =>
    if f.valid ∧ f.pos + f.width ≤ 512 then v ||| (f.value bs * 2 ^ (512 - f.pos - f.width)) else v) 0)

/-- The valid mask (R442). -/
def validMask (r bs : List Nat) : Nat :=
  (List.range 32).foldl (fun m i =>
    let f := layoutField r i
    if f.valid ∧ f.start + f.width ≤ 8 * bs.length then m + 2 ^ i else m) 0

/-- The layout of a frame (R440). -/
def pickLayout (sel bs : List Nat) : Nat :=
  let ofs := sel.getD 0 0
  if bs.length + 4 < ofs + 2 then sel.getD 1 0
  else
    let k := bs.getD ofs 0 * 256 + bs.getD (ofs + 1) 0
    let ent (i : Nat) : List Nat := (sel.drop (8 + 8 * i)).take 8
    match (List.range 64).find? (fun i => (ent i).getD 0 0 % 2 = 1 &&
        (k &&& leNat (((ent i).drop 4).take 2)) = leNat (((ent i).drop 2).take 2)) with
    | some i => (ent i).getD 1 0
    | none => sel.getD 1 0

/-- A frame's priority. -/
def framePrio (r bs : List Nat) : Nat :=
  let i := r.getD 137 0
  if i ≥ 32 then 0
  else
    let f := layoutField r i
    if f.valid then f.value bs % 8 else 0

/-- The lookup vector (R444). -/
def lookupVector (r bs : List Nat) (m layout : Nat) : List Nat :=
  fieldVector r bs ++ leBytes 4 (validMask r bs) ++ [(8 + m / 4) * 16 + m % 4, layout] ++ leBytes 2 (bs.length + 4) ++
    List.replicate 8 0

/-- The exact-match key: PROFILE apart, the masked bytes padded to 40. -/
def emKey (r fv : List Nat) : List Nat :=
  let k := (maskBytes (layoutMask r)).map (fun b => fv.getD b 0)
  (k ++ List.replicate 40 0).take 40

def zeros256 : List Nat := List.replicate 256 0

def Chip.layoutRec (d : Chip) (v l : Nat) : List Nat := (tget (d.pktCopy v).layouts l).getD zeros256

/-- The check of R443. -/
def Chip.layoutOk (d : Chip) (r : List Nat) : Bool :=
  let fs := (layoutFields r).filter (·.valid)
  (layoutFields r).all (fun f => f.rsvd = 0) && fs.all (fun f => f.pos + f.width ≤ 512) &&
  decide ((fs.map (fun f => f.width)).foldl (· + ·) 0 =
    ((List.range 512).filter (fun b => fs.any (fun f => f.pos ≤ b && b < f.pos + f.width))).length) &&
  decide ((maskBytes (layoutMask r)).length ≤ 40) && (r.getD 137 0 < 32 || r.getD 137 0 = 0xFF) &&
  (r.drop 140).all (· = 0) && (tget d.pkt.actions (layoutAction r)).isSome

/-! ## Actions (R448 to R453) -/

def aKind (a : List Nat) : Nat := a.getD 0 0
def aFlag (a : List Nat) (i : Nat) : Bool := bitOf (a.getD 1 0) i
def aU16 (a : List Nat) (o : Nat) : Nat := leNat ((a.drop o).take 2)
def aEdit (a : List Nat) (e : Nat) : List Nat := (a.drop (32 + 24 * e)).take 24

def editOk (x : List Nat) : Bool :=
  let op := x.getD 0 0
  let n := x.getD 2 0
  op ≤ 3 && (op = 0 || ((1 ≤ n && n ≤ 16) && x.getD 3 0 ≤ 1 && (x.getD 3 0 = 0 || x.getD 4 0 + n ≤ 64))) &&
    ((x.drop 5).take 3).all (· = 0)

/-- The check of R449. -/
def actionOk (a : List Nat) : Bool :=
  let es := (List.range (a.getD 7 0)).map (aEdit a)
  let pushed : Nat := ((es.filter (fun x => x.getD 0 0 = 2)).map (fun x => x.getD 2 0)).foldl (fun (a : Nat) b => a + b) 0
  aKind a ≤ 3 && a.getD 1 0 ≤ 7 && (aU16 a 2 = 0xFFFF || aU16 a 2 < 16384) && a.getD 6 0 ≤ 12 && a.getD 7 0 ≤ 4 &&
    (!aFlag a 0 || decide (aU16 a 4 + 2 ^ a.getD 6 0 ≤ 4096)) && decide (pushed ≤ 64) && es.all editOk &&
    ((a.drop 21).take 11).all (· = 0)

/-- One edit of a frame without its FCS; none where it reaches past the end. -/
def applyEdit (fv : List Nat) (bs x : List Nat) : Option (List Nat) :=
  let o := x.getD 1 0
  let n := x.getD 2 0
  let data := if x.getD 3 0 = 0 then (x.drop 8).take n else (fv.drop (x.getD 4 0)).take n
  match x.getD 0 0 with
  | 1 => if o + n > bs.length then none else some (bs.take o ++ data ++ bs.drop (o + n))
  | 2 => if o > bs.length then none else some (bs.take o ++ data ++ bs.drop o)
  | 3 => if o + n > bs.length then none else some (bs.take o ++ bs.drop (o + n))
  | _ => some bs

/-- The IPv4 header checksum: the complement of the one's complement sum of the header's 16-bit words, the checksum field as 0. -/
def ipv4Sum (h : List Nat) : Nat :=
  let s := ((pieces 2 h.length h).map beNat).foldl (· + ·) 0
  let s := s % 0x10000 + s / 0x10000
  0xFFFF - (s % 0x10000 + s / 0x10000)

/-- IPV4_CSUM (R450); a header that the frame does not hold gets a free checksum where its field lies in the frame. -/
def ipv4Csum (free : Nat) (bs : List Nat) (o : Nat) : List Nat :=
  let n := bs.getD o 0 % 16 * 4
  if o + 12 > bs.length then bs
  else
    let h := (bs.drop o).take n
    let c := if n < 20 ∨ o + n > bs.length then free % 0x10000 else ipv4Sum (h.take 10 ++ [0, 0] ++ h.drop 12)
    bs.take (o + 10) ++ beBytes 2 c ++ bs.drop (o + 12)

/-- All of an action's edits; none where the frame is dropped. -/
def editFrame (free : Nat) (a fv bs : List Nat) : Option (List Nat) :=
  let r := (List.range (a.getD 7 0)).foldl (fun (x : Option (List Nat)) e => x.bind (fun bs => applyEdit fv bs (aEdit a e))) (some bs)
  match r with
  | none => none
  | some bs =>
    if bs.length + 4 > 9216 then none
    else
      let bs := if bs.length + 4 < 64 then bs ++ List.replicate (60 - bs.length) 0 else bs
      some (if aFlag a 2 then ipv4Csum free bs (a.getD 20 0) else bs)

/-- The 68-byte Toeplitz key of a copy. -/
def PktCopy.keyBytes (c : PktCopy) : List Nat := (List.range 17).flatMap (fun k => beBytes 4 ((tget c.key k).getD 0))

/-- The transmit queue of a FORWARD (R453). -/
def Chip.forwardQueue (d : Chip) (v : Nat) (a fv : List Nat) : Nat :=
  if !aFlag a 0 then aU16 a 4
  else
    let c := d.pktCopy v
    let inp := (maskBytes (leNat ((a.drop 8).take 8))).map (fun b => fv.getD b 0)
    let h := toeplitz c.keyBytes inp
    (tget c.indir (aU16 a 4 + h % 2 ^ a.getD 6 0)).getD 0

def Chip.policer (d : Chip) (k : Nat) : Policer := (tget d.pkt.policers k).getD {}
def Policer.level (p : Policer) (now : Nat) : Nat := min (p.burst * 2 ^ 16) (p.tokens + (now - p.at_) * p.rate)

/-- The counters that share counter 7, 24 bits each. -/
def Chip.pktCount7 (d : Chip) (hi : Bool) : Chip :=
  d.mr (Reg.PKT_COUNT.COUNT 7) (fun v =>
    let a := v % 2 ^ 24
    let b := v / 2 ^ 24
    if hi then a + min (b + 1) (2 ^ 24 - 1) * 2 ^ 24 else min (a + 1) (2 ^ 24 - 1) + b * 2 ^ 24)

/-- The policer of an action (R451): whether the frame conforms. -/
def Chip.police (d : Chip) (k len : Nat) : Chip × Bool :=
  if k = 0xFFFF then (d, true)
  else
    let p := d.policer k
    let t := p.level d.pkt.now
    if t ≥ len * 2 ^ 16 then
      (d.pk (fun x => { x with policers := tput x.policers k { p with tokens := t - len * 2 ^ 16, at_ := x.now } }), true)
    else
      ((d.pk (fun x => { x with policers := tput x.policers k { p with tokens := t, at_ := x.now, drops := p.drops + 1 } })).pktCount7 true,
        false)

/-! ## Queues, shapers and the timing wheel (R460 to R467) -/

def Chip.pq (d : Chip) (q : Nat) : PQueue := (tget d.pkt.queues q).getD {}
def Chip.setPq (d : Chip) (q : Nat) (x : PQueue) : Chip := d.pk (fun p => { p with queues := tput p.queues q x })

/-- A queue's tokens now, in 1/16,000 of a byte. -/
def PQueue.level (x : PQueue) (now : Nat) : Int :=
  min ((x.burst * 16000 : Nat) : Int) (x.tokens + (((now - x.at_) * x.rate : Nat) : Int))

/-- A held queue's next eligible time goes into the wheel, or the queue enters credit mode (R465, R466). -/
def Chip.shaperWait (d : Chip) (q : Nat) : Chip :=
  let x := d.pq q
  let t := x.level d.pkt.now
  let need := (16000 - t).toNat
  let delay := ceilDiv need (max x.rate 1)
  let due := d.pkt.now + delay
  let ahead := delay / max d.F 1
  if d.pkt.wheel.length < 32768 ∧ (delay < 262144 ∨ ahead < 64) then
    let e : WheelEntry := ⟨q, due, if delay < 262144 then none else some ((d.pkt.calendar + ahead) % 64)⟩
    (d.setPq q { x with credit := 0 }).pk (fun p => { p with wheel := p.wheel ++ [e] })
  else
    let d := d.setPq q { x with credit := 1 }
    if x.credit = 0 then d.count (Reg.PKT_COUNT.COUNT 13) else d

/-- Whether a queue's head may be held: in the wheel, or awaiting its credit. -/
def Chip.shaperHeld (d : Chip) (q : Nat) : Bool := (d.pq q).credit = 1 || d.pkt.wheel.any (fun e => e.q = q)

/-- A queue's eligibility decided anew (R467): held where it is shaped, holds frames and has no tokens. -/
def Chip.shaperDecide (d : Chip) (q : Nat) : Chip :=
  let x := d.pq q
  if x.shape ∧ x.frames ≠ [] ∧ x.level d.pkt.now ≤ 0 ∧ !d.shaperHeld q then d.shaperWait q else d

def Chip.queueEligible (d : Chip) (q : Nat) (x : PQueue) : Bool :=
  x.frames ≠ [] && !d.pkt.paused.contains (x.mac * 8 + x.prio) && !(x.shape && d.shaperHeld q)

/-- Bytes that arrived on a MAC with a priority and are still held. -/
def Chip.heldBytes (d : Chip) (m prio : Nat) : Nat :=
  (d.pkt.queues.flatMap (fun (q : Nat × PQueue) => (q.2.frames.filter (fun f => f.rx = some (m, prio))).map (fun f => f.len))).foldl
    (· + ·) 0 +
  ((d.pkt.miss.filter (fun f => f.mac = m && framePrio (d.layoutRec f.ver f.layout) f.data = prio)).map (fun f => f.data.length + 4)).foldl
    (· + ·) 0

/-- XOFF and XON of a MAC and priority (R463). -/
def Chip.pfcCheck (d : Chip) (m prio : Nat) : Chip :=
  let k := m * 8 + prio
  let n := d.heldBytes m prio
  if d.pkt.xoff.contains k then
    if n < d.rg (Reg.PKT_MAC_CFG.XON m) * 1024 then
      d.pk (fun p => { p with xoff := p.xoff.filter (· ≠ k), pfc := p.pfc ++ [(m, prio, 0)] })
    else d
  else if n > d.rg (Reg.PKT_MAC_CFG.XOFF m) * 1024 then
    d.pk (fun p => { p with xoff := insNat k p.xoff, pfc := p.pfc ++ [(m, prio, 1)] })
  else d

/-- A frame enqueued or dropped (R460 to R462). -/
def Chip.enqueue (d : Chip) (q : Nat) (bs : List Nat) (len : Nat) (rx : Option (Nat × Nat)) (room : Bool) : Chip :=
  let x := d.pq q
  let used := (x.frames.map (fun f => f.len)).foldl (· + ·) 0
  if x.weight = 0 then d.count (Reg.PKT_COUNT.COUNT 10)
  else if used > x.depth * 1024 ∨ !room then
    (d.setPq q { x with drops := x.drops + 1 }).count (Reg.PKT_COUNT.COUNT 9)
  else
    let v := (tget d.pkt.vtime x.mac).getD 0
    let s := match x.frames.getLast? with
      | none => max v x.fLast
      | some f => f.fin
    let f := s + ceilDiv (len * 65536) x.weight
    (d.setPq q { x with frames := x.frames ++ [⟨bs, len, rx, f⟩] }).shaperDecide q

/-- The queue whose head MAC m sends next. -/
def Chip.nextQueue (d : Chip) (m : Nat) : Option Nat :=
  ((d.pkt.queues.filter (fun (q : Nat × PQueue) => q.2.mac = m && d.queueEligible q.1 q.2)).foldl
    (fun (b : Option (Nat × Nat)) (q : Nat × PQueue) =>
      let f := (q.2.frames.head?.map (fun f => f.fin)).getD 0
      match b with
      | some (_, g) => if f < g then some (q.1, f) else b
      | none => some (q.1, f)) none).map (·.1)

/-- The head of a queue is sent. -/
def Chip.sendHead (d : Chip) (m q : Nat) : Chip :=
  let x := d.pq q
  match x.frames with
  | [] => d
  | f :: rest =>
    let t := x.level d.pkt.now - ((f.len * 16000 : Nat) : Int)
    let x := { x with frames := rest, fLast := f.fin }
    let x := if x.shape then { x with tokens := t, at_ := d.pkt.now } else x
    let d := (d.setPq q x).pk (fun p => { p with vtime := tput p.vtime m f.fin, txNow := p.txNow + 1, tx := p.tx ++ [(m, f.data)] })
    let d := (d.count (Reg.PKT_COUNT.COUNT 12)).shaperDecide q
    match f.rx with
    | some (a, b) => d.pfcCheck a b
    | none => d

/-! ### Frames of the transport engine (R405, R431, R463) -/

/-- The length of a packet's Ethernet frame: Ethernet, IPv4 or IPv6, UDP, and DVT's header or that of RoCEv2. -/
def Chip.dvtLen (d : Chip) (o : DvtOut) : Nat :=
  let v4 := match tget d.dvt.conns o.conn with
    | some c => decide (c.peer / 2 ^ 32 = 0xFFFF)
    | none => false
  let ip := if v4 then 20 else 40
  let n := o.pkt.data.length
  let pad := (n + 3) / 4 * 4
  let body := if o.mode = 1 then 32 + n
    else 12 + 4 + (match o.pkt.op with | 1 => 16 + pad | 2 => 16 | 3 => 4 + pad | 4 => 28 | 5 => 28 | 6 => 12 | _ => 4)
  max 64 (14 + ip + 8 + body + 4)

/-- The packets of MODES 1 and 2 that wait are enqueued on their MAC's DVT_QUEUE. -/
def Chip.dvtTake (d : Chip) : Chip :=
  let os := d.dvt.wire.filter (fun o => o.mode ≠ 0)
  let d : Chip := { d with dvt := { d.dvt with wire := d.dvt.wire.filter (fun o => o.mode = 0) } }
  os.foldl (fun (d : Chip) o =>
    d.enqueue (d.rg (Reg.PKT_MAC_CFG.DVT_QUEUE ((o.port - 8) * 4))) o.pkt.data (d.dvtLen o) none true) d

/-! ## The receive pipeline (R438 to R453) -/

/-- A frame's action taken: policed, edited, delivered. -/
def Chip.actFrame (d : Chip) (f : PktMiss) (action : Nat) : Chip :=
  let r := d.layoutRec f.ver f.layout
  let fv := fieldVector r f.data
  let prio := framePrio r f.data
  let a := (tget d.pkt.actions action).getD (List.replicate 128 0 |>.set 2 0xFF |>.set 3 0xFF)
  let (d, ok) := d.police (aU16 a 2) (f.data.length + 4)
  if !ok then d
  else
    match editFrame (Config.freeWord d.free).toNat a fv f.data with
    | none => d.count (Reg.PKT_COUNT.COUNT 8)
    | some bs =>
      let d := if aFlag a 2 then d.takeFree else d
      let len := bs.length + 4
      let d := match aKind a with
        | 0 => d.pktCount7 false
        | 1 => d.enqueue (d.forwardQueue f.ver a fv) bs len (some (f.mac, prio)) f.room
        | 2 => d.pk (fun p => { p with toHost := p.toHost ++ [(aU16 a 18, bs)] })
        | _ => d.pk (fun p => { p with toDvt := p.toDvt ++ [f.data] })
      let d := if aFlag a 1 then d.enqueue (aU16 a 16) bs len none f.room else d
      d.pfcCheck f.mac prio

/-- The winning ternary entry of a lookup vector. -/
def Chip.tcamHit (d : Chip) (v : Nat) (lv : List Nat) : Option TcamEntry :=
  (d.pkt.tcam.find? (fun (e : Nat × TcamEntry) => e.2.live v &&
    (lv.zipWith (· &&& ·) e.2.mask) = (e.2.value.zipWith (· &&& ·) e.2.mask))).map (·.2)

/-- The live exact-match entry of a key. -/
def Chip.emFind (d : Chip) (v profile : Nat) (key : List Nat) : Option EmEntry :=
  ((d.emCopy d.emActive).slots.find? (fun (e : Nat × EmEntry) =>
    e.2.profile = profile && e.2.key = key && e.2.live v)).map (·.2)

/-- A classified frame goes on (R447); `em` is its exact-match entry. -/
def Chip.classify (d : Chip) (f : PktMiss) (em : Option EmEntry) : Chip :=
  let r := d.layoutRec f.ver f.layout
  let t := d.tcamHit f.ver (lookupVector r f.data f.mac f.layout)
  let d := if em.isSome then d.count (Reg.PKT_COUNT.COUNT 2) else d
  let d := if t.isSome then d.count (Reg.PKT_COUNT.COUNT 5) else d
  match t, em with
  | some e, some m => d.actFrame f (if e.override then e.action else m.action)
  | some e, none => d.actFrame f e.action
  | none, some m => d.actFrame f m.action
  | none, none => (d.count (Reg.PKT_COUNT.COUNT 6)).actFrame f (layoutAction r)

/-- A received frame, given without its FCS. -/
def receivedFrame (d : Chip) (m cyc : Nat) (bs : List Nat) (room : Bool) : Chip :=
  let d := d.pktTime cyc
  let p := 8 + m / 4
  if !d.macUp p (m % 4) || bs.length + 4 < 64 || bs.length + 4 > 9216 then d
  else
  let d := d.stampRx m
  if !d.running .pkt || d.pkt.rxNow ≥ 4 then d.count (Reg.PKT_COUNT.COUNT 1)
  else
    let d := (d.pk (fun x => { x with rxNow := x.rxNow + 1 })).count (Reg.PKT_COUNT.COUNT 0)
    let v := d.pktC
    let sel := (tget (d.pktCopy v).selects p).getD []
    let l := pickLayout sel bs
    let r := d.layoutRec v l
    let f : PktMiss := ⟨bs, m, v, l, room⟩
    if layoutMask r = 0 then d.classify f none
    else
      let key := emKey r (fieldVector r bs)
      let prof := r.getD 136 0
      if d.pkt.cache.contains (prof :: key) then d.classify f (d.emFind v prof key)
      else
        let d := d.count (Reg.PKT_COUNT.COUNT 3)
        if d.pkt.miss.length ≥ 4096 then d.count (Reg.PKT_COUNT.COUNT 4)
        else (d.pk (fun x => { x with miss := x.miss ++ [f] })).pfcCheck m (framePrio r bs)

def execReceivedFrame (m : Fin 16) (cyc : BitVec 32) (data : List (BitVec 8)) (room : Bool) (s : State) : Out :=
  s.on (fun d => receivedFrame d m cyc.toNat (data.map BitVec.toNat) room)

/-- EM_MISS_FILL: the oldest waiting frame's buckets are read; a poisoned bucket sends it down the ternary or default path. -/
def emMissFill (d : Chip) (cyc : Nat) : Chip :=
  let d := d.pktTime cyc
  match d.pkt.miss with
  | [] => d
  | f :: rest =>
    if d.pkt.now < d.pkt.nextFill then d
    else
      let d := d.pk (fun p => { p with miss := rest, nextFill := p.now + 16 })
      let r := d.layoutRec f.ver f.layout
      let key := emKey r (fieldVector r f.data)
      let prof := r.getD 136 0
      let k := d.emActive
      let (b0, b1) := (d.emCopy k).buckets prof key
      if d.anyPoison (d.emAddr k (b0 * 4)) 256 ∨ d.anyPoison (d.emAddr k (b1 * 4)) 256 then
        (d.fault Src.PKT_EM_POISON).classify f none
      else
        match d.emFind f.ver prof key with
        | none => d.classify f none
        | some e => (d.pk (fun p => { p with cache := ((prof :: key) :: p.cache).take 32768 })).classify f (some e)

def execEmMissFill (cyc : BitVec 32) (s : State) : Out := s.on (fun d => emMissFill d cyc.toNat)

/-- SEND_OPPORTUNITY of a MAC: void in a cycle that has sent 4 frames, or while the block or the port does not run. -/
def sendOpportunity (d : Chip) (m cyc : Nat) : Chip :=
  let d := d.pktTime cyc
  let p := 8 + m / 4
  if !d.running .pkt || !d.macUp p (m % 4) || d.pkt.txNow ≥ 4 then d
  else
    let d := d.dvtTake
    match d.nextQueue m with
    | none => d
    | some q => (d.sendHead m q).stampTx m

def execSendOpportunity (m : Fin 16) (cyc : BitVec 32) (s : State) : Out := s.on (fun d => sendOpportunity d m cyc.toNat)

/-- PFC_PAUSE: a time of 0 ends the pause. -/
def execPfcPause (m : Fin 16) (prio : Fin 8) (time : BitVec 16) (s : State) : Out :=
  s.on (fun d => d.pk (fun p => { p with paused := (if time = 0 then p.paused.filter (· ≠ m.val * 8 + prio.val)
    else insNat (m.val * 8 + prio.val) p.paused) }))

def execPfcPauseExpiry (m : Fin 16) (prio : Fin 8) (s : State) : Out :=
  s.on (fun d => d.pk (fun p => { p with paused := p.paused.filter (· ≠ m.val * 8 + prio.val) }))

/-- SHAPER_CALENDAR_ADVANCE: the entries of the slot reached move into the fine ring. -/
def Chip.calendarAdvance (d : Chip) : Chip :=
  d.atCycle 2 (fun d => d.pk (fun p =>
    let k := (p.calendar + 1) % 64
    { p with calendar := k, wheel := p.wheel.map (fun e => if e.slot = some k then { e with slot := none } else e) }))

def execShaperCalendarAdvance (s : State) : Out := s.on Chip.calendarAdvance

/-- SHAPER_WHEEL_EXPIRY: void where the queue has no entry in the fine ring that is due. -/
def wheelExpiry (d : Chip) (q cyc : Nat) : Chip :=
  let d := d.pktTime cyc
  d.pk (fun p => { p with wheel := p.wheel.filter (fun e => !(e.q = q && e.slot.isNone && e.due ≤ p.now)) })

def execShaperWheelExpiry (q : BitVec 16) (cyc : BitVec 32) (s : State) : Out := s.on (fun d => wheelExpiry d q.toNat cyc.toNat)

/-- CREDIT_MODE_SCAN: the next 64 queues in credit mode; those with credit above 0 are eligible. -/
def creditScan (d : Chip) (cyc : Nat) : Chip :=
  let d := d.pktTime cyc
  let qs := (d.pkt.queues.filter (fun (q : Nat × PQueue) => q.2.credit = 1)).map (fun (q : Nat × PQueue) => q.1)
  let qs := (qs.filter (· ≥ d.pkt.scan) ++ qs.filter (· < d.pkt.scan)).take 64
  let d := qs.foldl (fun (d : Chip) q =>
    let x := d.pq q
    if x.level d.pkt.now > 0 then d.setPq q { x with credit := 2 } else d) d
  d.pk (fun p => { p with scan := (qs.getLast?.map (· + 1)).getD 0 % 65536 })

def execCreditModeScan (cyc : BitVec 32) (s : State) : Out := s.on (fun d => creditScan d cyc.toNat)

/-! ## Commands (R439, R448, R455 to R460, R467) -/

/-- A staged change counted. -/
def Chip.staged (d : Chip) : Chip := d.mr Reg.PKT_VERSION.STAGED (fun n => min (n + 1) 65535)

def stagingOp (op : Nat) : Bool := op = 0x0801 || op = 0x0802 || op = 0x0805 || op = 0x0806 || op = 0x0809

/-- Staged changes of the open group, those accepted and not yet committed among them. -/
def Chip.stagedOpen (d : Chip) : Nat :=
  d.rg Reg.PKT_VERSION.STAGED + (d.led.items.filter (fun i => !i.state.ended && (match i.kind with
    | .general op => stagingOp op
    | _ => false))).length

/-- Whether a packet command's commit point may fall now (R456, R457, R459). -/
def Chip.pktGate (d : Chip) (op : Nat) (body : Desc) : Bool :=
  let retiring := d.flag Reg.PKT_VERSION.RETIRING
  let switch := d.rebState = 3
  match op with
  | 0x0801 | 0x0802 | 0x0809 => !retiring
  | 0x0805 | 0x0806 => !(switch && wf body.w1 0 8 = 0)
  | 0x0807 | 0x0808 => !retiring && !switch
  | _ => true

/-- The second copies restored from the committed one. -/
def Chip.syncCopies (d : Chip) : Chip := d.setPktCopy d.pktP (d.pktCopy d.pktC)

/-- The effect of a packet command at its commit point; `r` is its record. A QUEUE_SET or POLICER_SET that leaves the shaper or policer as
it was keeps its tokens (R467). -/
def Chip.pktEffect (d : Chip) (seq op : Nat) (x : Desc) (r : List Nat) : Chip :=
  let p := d.pktP
  let c := d.pktCopy p
  match op with
  | 0x0801 => (d.setPktCopy p { c with layouts := tput c.layouts (wf x.w1 0 8) r }).staged
  | 0x0802 => (d.setPktCopy p { c with selects := tput c.selects (wf x.w1 0 8) r }).staged
  | 0x0803 => d.pk (fun u => { u with actions := tput u.actions (wf x.w1 0 16) r, actPend := u.actPend.filter (fun a => a.2 ≠ seq) })
  | 0x0804 => d.pk (fun u => { u with actions := tdel u.actions (wf x.w1 0 16) })
  | 0x0805 =>
    (if wf x.w1 0 8 = 0 then d.emMap (fun e => if e.pend = seq then some { e with pend := 0, addVer := p } else some e)
     else d.pk (fun u => { u with tcam := u.tcam.map (fun (e : Nat × TcamEntry) =>
       if e.2.pend = seq then (e.1, { e.2 with pend := 0, addVer := p }) else e) })).staged
  | 0x0806 =>
    (if wf x.w1 0 8 = 0 then d.emMap (fun e =>
       if e.key = r.take 40 ∧ e.profile = r.getD 40 0 ∧ e.live d.pktC then some { e with deleted := true, delVer := p } else some e)
     else d.pk (fun u => { u with tcam := tupd u.tcam (wf x.w1 32 16) (fun e =>
       if e.live d.pktC then { e with deleted := true, delVer := p } else e) })).staged
  | 0x0807 =>
    (((d.sr Reg.PKT_VERSION.COMMITTED p).sr Reg.PKT_VERSION.STAGED 0).sr Reg.PKT_VERSION.RETIRING 1).syncEm.count (Reg.PKT_COUNT.COUNT 14)
  | 0x0808 =>
    let d := d.emMap (fun e => if e.pend ≠ 0 then some e else if e.addVer = p then none
      else if e.deleted ∧ e.delVer = p then some { e with deleted := false } else some e)
    let d := d.pk (fun u => { u with tcam := u.tcam.filterMap (fun (e : Nat × TcamEntry) =>
      if e.2.pend ≠ 0 then some e else if e.2.addVer = p then none
      else if e.2.deleted ∧ e.2.delVer = p then some (e.1, { e.2 with deleted := false }) else some e) })
    (d.syncCopies).sr Reg.PKT_VERSION.STAGED 0
  | 0x0809 =>
    let n := wf x.w1 16 16
    let first := wf x.w1 0 16
    (d.setPktCopy p { c with indir := (List.range n).foldl (fun t i => tput t (first + i) (leNat ((r.drop (2 * i)).take 2))) c.indir }).staged
  | 0x080A =>
    let q := wf x.w1 0 16
    let o := d.pq q
    let burst := wf x.w3 0 32
    let full := bitOf (wf x.w1 48 8) 1
    let same := o.shape = bitOf (wf x.w1 48 8) 0 && o.rate = wf x.w2 32 32 && o.burst = burst
    let d := (d.pk (fun u => { u with wheel := u.wheel.filter (fun e => e.q ≠ q) })).setPq q { o with
      mac := wf x.w1 16 8, prio := wf x.w1 24 8, weight := wf x.w1 32 16, shape := bitOf (wf x.w1 48 8) 0, full := full
      depth := wf x.w2 0 32, rate := wf x.w2 32 32, burst := burst, credit := 0, at_ := d.pkt.now
      tokens := (if same then o.level d.pkt.now else if full then ((burst * 16000 : Nat) : Int) else 0) }
    d.shaperDecide q
  | 0x080B =>
    let k := wf x.w1 0 16
    let burst := wf x.w2 0 32
    let full := bitOf (wf x.w1 16 8) 1
    let o := d.policer k
    let same := o.rate = wf x.w1 32 32 && o.burst = burst
    d.pk (fun u => { u with policers := tput u.policers k { o with
      rate := wf x.w1 32 32, burst := burst, full := full, at_ := u.now
      tokens := (if same then o.level u.now else if full then burst * 2 ^ 16 else 0) } })
  | _ => d

/-- A packet command accepted, served by the packet-path engine; it commits at once, or when its predecessors and its gate let it. -/
def Chip.pktAccept (d : Chip) (src : Submit) (op : Nat) (ws r : List Nat) : Chip :=
  let body := genBody op src ws
  let d := d.acceptCmd src (.general op) body (d.originDomain src.origin) 0x54
  let q := d.lastSeq
  let d := d.pk (fun u => { u with
    recs := tput u.recs q r
    em0 := { u.em0 with slots := u.em0.slots.map (fun (e : Nat × EmEntry) => if e.2.pend = 2 ^ 64 then (e.1, { e.2 with pend := q }) else e) }
    em1 := { u.em1 with slots := u.em1.slots.map (fun (e : Nat × EmEntry) => if e.2.pend = 2 ^ 64 then (e.1, { e.2 with pend := q }) else e) }
    tcam := u.tcam.map (fun (e : Nat × TcamEntry) => if e.2.pend = 2 ^ 64 then (e.1, { e.2 with pend := q }) else e)
    actPend := u.actPend.map (fun a => if a.2 = 2 ^ 64 then (a.1, q) else a)
    reb := { u.reb with
      todo := u.reb.todo.map (fun e => if e.pend = 2 ^ 64 then { e with pend := q } else e)
      log := u.reb.log.map (fun c => match c with
        | .put e => .put (if e.pend = 2 ^ 64 then { e with pend := q } else e)
        | c => c) } })
  if d.pktGate op body then d.finishWith q (fun d => d.pktEffect q op body r)
  else d.updItem q (fun i => { i with crec := .held })

/-- A record checked (R486) and handed to its chapter's checks. -/
def Chip.withRec (d : Chip) (src : Submit) (a n : Nat) (k : Chip → List Nat → Chip) : Chip :=
  d.withRecord src a n (fun d => k d (d.bytes a n))

/-- The staging room of the open group (R455). -/
def Chip.withStage (d : Chip) (src : Submit) (k : Chip → Chip) : Chip :=
  if d.stagedOpen ≥ 65535 then d.refuse src Code.PKT_GROUP_FULL else k d

/-- A packet command from a ring pair of a PF (R439). -/
def Chip.pktCmd (d : Chip) (src : Submit) (k : Chip → Chip) : Chip := d.submit src .pkt false k

def layoutSet (d : Chip) (src : Submit) (layout record : Nat) : Chip :=
  d.withRec src record 256 (fun d r =>
    if !d.layoutOk r then d.refuse src Code.PKT_BAD_LAYOUT
    else d.withStage src (fun d => d.pktAccept src 0x0801 [layout, record] r))

def execLayoutSet (src : Submit) (layout : BitVec 8) (record : Nat) (s : State) : Out :=
  s.on (fun d => d.pktCmd src (fun d => layoutSet d src layout.toNat record))

def selectOk (r : List Nat) : Bool :=
  r.getD 0 0 ≤ 254 && ((r.drop 2).take 6).all (· = 0) &&
    (pieces 8 64 (r.drop 8)).all (fun e => e.getD 0 0 ≤ 1 && (e.drop 6).all (· = 0))

def selectSet (d : Chip) (src : Submit) (port record : Nat) : Chip :=
  if port < 8 ∨ port > 11 then d.refuse src Code.PKT_BAD_REQ
  else d.withRec src record 520 (fun d r =>
    if !selectOk r then d.refuse src Code.PKT_BAD_REQ
    else d.withStage src (fun d => d.pktAccept src 0x0802 [port, record] r))

def execSelectSet (src : Submit) (port : BitVec 8) (record : Nat) (s : State) : Out :=
  s.on (fun d => d.pktCmd src (fun d => selectSet d src port.toNat record))

def actionSet (d : Chip) (src : Submit) (index record : Nat) : Chip :=
  if index ≥ 16384 then d.refuse src Code.PKT_BAD_REQ
  else d.withRec src record 128 (fun d r =>
    if !actionOk r then d.refuse src Code.PKT_BAD_REQ
    else if (tget d.pkt.actions index).isSome ∨ d.pkt.actPend.any (fun a => a.1 = index) then d.refuse src Code.PKT_ACTION_STATE
    else (d.pk (fun u => { u with actPend := u.actPend ++ [(index, 2 ^ 64)] })).pktAccept src 0x0803 [index, record] r)

def execActionSet (src : Submit) (index : BitVec 16) (record : Nat) (s : State) : Out :=
  s.on (fun d => d.pktCmd src (fun d => actionSet d src index.toNat record))

/-- Whether a rule or a layout names an action (R448). -/
def Chip.actionNamed (d : Chip) (k : Nat) : Bool :=
  (d.emCopy d.emActive).slots.any (fun (e : Nat × EmEntry) => e.2.action = k) ||
  d.pkt.tcam.any (fun (e : Nat × TcamEntry) => e.2.action = k) ||
  d.pkt.copy0.layouts.any (fun (l : Nat × List Nat) => layoutAction l.2 = k) ||
  d.pkt.copy1.layouts.any (fun (l : Nat × List Nat) => layoutAction l.2 = k) ||
  d.led.items.any (fun i => !i.state.ended && i.kind = .general 0x0801 && layoutAction ((tget d.pkt.recs i.seq).getD []) = k)

def actionFree (d : Chip) (src : Submit) (index : Nat) : Chip :=
  if (tget d.pkt.actions index).isNone then d.refuse src (if index ≥ 16384 then Code.PKT_BAD_REQ else Code.PKT_ACTION_STATE)
  else if d.actionNamed index then d.refuse src Code.PKT_ACTION_BUSY
  else d.pktAccept src 0x0804 [index] []

def execActionFree (src : Submit) (index : BitVec 16) (s : State) : Out :=
  s.on (fun d => d.pktCmd src (fun d => actionFree d src index.toNat))

def emRecOk (r : List Nat) : Bool := (r.drop 41).all (· = 0)

/-- RULE_ADD's operand words (R487). -/
def ruleWords (table override action index record : Nat) : List Nat :=
  [table + override * 2 ^ 8 + action * 2 ^ 16 + index * 2 ^ 32, record]

def ruleAddExact (d : Chip) (src : Submit) (action index record : Nat) : Chip :=
  d.withRec src record 64 (fun d r =>
    let key := r.take 40
    let prof := r.getD 40 0
    let k := d.emActive
    let c := d.emCopy k
    if !emRecOk r then d.refuse src Code.PKT_BAD_REQ
    else if (tget d.pkt.actions action).isNone then d.refuse src Code.PKT_ACTION_STATE
    else if c.slots.any (fun (e : Nat × EmEntry) => e.2.key = key && e.2.profile = prof && (e.2.pend ≠ 0 || e.2.live d.pktP)) then
      d.refuse src Code.PKT_RULE_EXISTS
    else d.withStage src (fun d =>
      let e : EmEntry := ⟨d.pkt.nextId, key, prof, 0, 0, false, action, 2 ^ 64⟩
      match c.insert d.emPick e with
      | none =>
        let d := d.takeFree.refuse src Code.PKT_EM_FULL
        if d.flag Reg.PKT_EM_REBUILD.AUTO ∧ !d.pkt.reb.on ∧ !d.sec.drbgStopped then (d.sr Reg.PKT_EM_STATE.ABANDONS 0).rebDraw 0 else d
      | some c =>
        let d := (d.takeFree.setEm k c).pk (fun u => { u with nextId := u.nextId + 1 })
        (d.emLog [.put e]).pktAccept src 0x0805 (ruleWords 0 0 action index record) r))

def ruleAddTernary (d : Chip) (src : Submit) (override action index record : Nat) : Chip :=
  if index ≥ 8192 then d.refuse src Code.PKT_BAD_REQ
  else d.withRec src record 160 (fun d r =>
    if (tget d.pkt.actions action).isNone then d.refuse src Code.PKT_ACTION_STATE
    else if (tget d.pkt.tcam index).isSome then d.refuse src Code.PKT_RULE_STATE
    else d.withStage src (fun d =>
      let e : TcamEntry := ⟨r.take 80, r.drop 80, action, 0, 0, false, override = 1, 2 ^ 64⟩
      (d.pk (fun u => { u with tcam := tput u.tcam index e })).pktAccept src 0x0805 (ruleWords 1 override action index record) r))

/-- RULE_ADD: an exact-match one stays in its ring while entry changes stall in SWITCH. -/
def execRuleAdd (src : Submit) (table override : BitVec 8) (action index : BitVec 16) (record : Nat) (s : State) : Out :=
  s.on (fun d => if table = 0 ∧ d.rebState = 3 then d else d.pktCmd src (fun d =>
    if table.toNat > 1 ∨ override.toNat > 1 then d.refuse src Code.PKT_BAD_REQ
    else if table = 0 then ruleAddExact d src action.toNat index.toNat record
    else ruleAddTernary d src override.toNat action.toNat index.toNat record))

def ruleDel (d : Chip) (src : Submit) (table index record : Nat) : Chip :=
  if table > 1 then d.refuse src Code.PKT_BAD_REQ
  else if table = 1 then
    if index ≥ 8192 then d.refuse src Code.PKT_BAD_REQ
    else match tget d.pkt.tcam index with
      | some e => if e.live d.pktC then d.withStage src (fun d => d.pktAccept src 0x0806 (ruleWords 1 0 0 index record) [])
          else d.refuse src Code.PKT_RULE_STATE
      | none => d.refuse src Code.PKT_RULE_STATE
  else d.withRec src record 64 (fun d r =>
    if !emRecOk r then d.refuse src Code.PKT_BAD_REQ
    else if (d.emFind d.pktC (r.getD 40 0) (r.take 40)).isNone then d.refuse src Code.PKT_RULE_STATE
    else d.withStage src (fun d => d.pktAccept src 0x0806 (ruleWords 0 0 0 index record) r))

def execRuleDel (src : Submit) (table : BitVec 8) (index : BitVec 16) (record : Nat) (s : State) : Out :=
  s.on (fun d => d.pktCmd src (fun d => ruleDel d src table.toNat index.toNat record))

def execGroupCommit (src : Submit) (s : State) : Out := s.on (fun d => d.pktCmd src (fun d => d.pktAccept src 0x0807 [] []))

def execGroupAbort (src : Submit) (s : State) : Out := s.on (fun d => d.pktCmd src (fun d => d.pktAccept src 0x0808 [] []))

def indirWrite (d : Chip) (src : Submit) (first count record : Nat) : Chip :=
  if count = 0 ∨ first + count > 4096 then d.refuse src Code.PKT_BAD_REQ
  else d.withRec src record (2 * count) (fun d r =>
    d.withStage src (fun d => d.pktAccept src 0x0809 [first + count * 2 ^ 16, record] r))

def execIndirWrite (src : Submit) (first count : BitVec 16) (record : Nat) (s : State) : Out :=
  s.on (fun d => d.pktCmd src (fun d => indirWrite d src first.toNat count.toNat record))

def queueSet (d : Chip) (src : Submit) (q mac prio weight flags depth rate burst : Nat) : Chip :=
  if mac > 15 ∨ prio > 7 ∨ flags > 3 ∨ depth < 1 ∨ depth > 16384 ∨ rate < 1 ∨ rate > 16777215 ∨ burst < 9216 ∨ burst > 16777215 then
    d.refuse src Code.PKT_BAD_REQ
  else d.pktAccept src 0x080A
    [q + mac * 2 ^ 16 + prio * 2 ^ 24 + weight * 2 ^ 32 + flags * 2 ^ 48, depth + rate * 2 ^ 32, burst] []

def execQueueSet (src : Submit) (queue : BitVec 16) (mac prio : BitVec 8) (weight : BitVec 16) (flags : BitVec 8)
    (depth rate burst : BitVec 32) (s : State) : Out :=
  s.on (fun d => d.pktCmd src (fun d =>
    queueSet d src queue.toNat mac.toNat prio.toNat weight.toNat flags.toNat depth.toNat rate.toNat burst.toNat))

def policerSet (d : Chip) (src : Submit) (k flags rate burst : Nat) : Chip :=
  if k ≥ 16384 ∨ (flags ≠ 0 ∧ flags ≠ 2) then d.refuse src Code.PKT_BAD_REQ
  else d.pktAccept src 0x080B [k + flags * 2 ^ 16 + rate * 2 ^ 32, burst] []

def execPolicerSet (src : Submit) (policer : BitVec 16) (flags : BitVec 8) (rate burst : BitVec 32) (s : State) : Out :=
  s.on (fun d => d.pktCmd src (fun d => policerSet d src policer.toNat flags.toNat rate.toNat burst.toNat))

def emRebuild (d : Chip) (src : Submit) (seed0 seed1 : Nat) : Chip :=
  (d.acceptCmd src (.general 0x080C) (genBody 0x080C src [seed0 + seed1 * 2 ^ 32]) (d.originDomain src.origin) 0x54).rebNext

def execEmRebuild (src : Submit) (seed0 seed1 : BitVec 32) (s : State) : Out :=
  s.on (fun d => d.pktCmd src (fun d => emRebuild d src seed0.toNat seed1.toNat))

/-! ## Retirement, the Toeplitz key and the table window (R456, R457, R471) -/

/-- Toeplitz key bytes staged into the pending copy. -/
def Chip.stageKey (d : Chip) (k v : Nat) : Chip :=
  let c := d.pktCopy d.pktP
  (d.setPktCopy d.pktP { c with key := tput c.key k v }).staged

/-- A write of PKT_TOEPLITZ_KEY: it waits while the copies are being made equal. -/
def Chip.keyWrite (d : Chip) (k v : Nat) : Chip :=
  let d := d.sr (Reg.PKT_TOEPLITZ_KEY.KEY k) v
  if d.flag Reg.PKT_VERSION.RETIRING then d.pk (fun p => { p with keyWait := p.keyWait ++ [(k, v)] }) else d.stageKey k v

def execPktToeplitzKey (k : Fin 17) (value : BitVec 32) (s : State) : Out := s.on (fun d => d.keyWrite k value.toNat)

/-- VERSION_RETIRE: void while a frame of an older version waits. Entries deleted at C become FREE, the second copies are made equal,
and what waited is staged. -/
def versionRetire (d : Chip) : Chip :=
  let c := d.pktC
  if !d.flag Reg.PKT_VERSION.RETIRING || d.pkt.miss.any (fun f => f.ver ≠ c) || d.rebState = 3 then d
  else
    let d := d.emMap (fun e => if e.pend = 0 ∧ e.deleted ∧ e.delVer = c then none else some e)
    let d := d.pk (fun u => { u with tcam := u.tcam.filter (fun (e : Nat × TcamEntry) => !(e.2.pend = 0 && e.2.deleted && e.2.delVer = c)) })
    let d := d.syncCopies.sr Reg.PKT_VERSION.RETIRING 0
    let ks := d.pkt.keyWait
    ks.foldl (fun (d : Chip) k => d.stageKey k.1 k.2) (d.pk (fun u => { u with keyWait := [] }))

def execVersionRetire (s : State) : Out := s.on versionRetire

/-- A FENCE of the block (R469): the frames in the pipeline are dropped, and a rebuild is abandoned. -/
def Chip.pktFence (d : Chip) : Chip := (d.pk (fun p => { p with miss := [] })).rebAbandon true

/-- An entry as the table window shows it (log entry 52 for the tables whose entry has no layout of its own). -/
def Chip.treadEntry (d : Chip) (table copy index : Nat) : List Nat :=
  let c := d.pktCopy copy
  match table with
  | 0 => (tget c.layouts index).getD []
  | 1 => (tget c.selects index).getD []
  | 2 => (tget d.pkt.actions index).getD []
  | 3 =>
    match tget d.pkt.tcam index with
    | some e => e.value ++ e.mask ++ leBytes 2 e.action ++ leBytes 2 e.addVer ++ leBytes 2 e.delVer ++
        [b2n (e.pend = 0) + b2n e.deleted * 2 + b2n e.override * 4]
    | none => []
  | 4 => ((tget (d.emCopy d.emActive).slots index).map emBytes).getD []
  | 5 => leBytes 2 ((tget c.indir index).getD 0)
  | 6 =>
    let x := d.pq index
    [x.mac, x.prio] ++ leBytes 2 x.weight ++ [b2n x.shape + b2n x.full * 2, 0, 0, 0] ++ leBytes 4 x.depth ++ leBytes 4 x.rate ++
      leBytes 4 x.burst ++ leBytes 4 x.frames.length ++ leBytes 8 x.drops
  | 7 =>
    let x := d.policer index
    [b2n x.full * 2, 0, 0, 0] ++ leBytes 4 x.rate ++ leBytes 4 x.burst ++ [0, 0, 0, 0] ++ leBytes 8 x.drops
  | 8 => c.keyBytes
  | _ => []

/-- A write of PKT_TREAD_ADDR: a reserved TABLE leaves that field as it was (R9). -/
def Chip.treadWrite (d : Chip) (table copy part index : Nat) : Chip :=
  let d := if table ≤ 8 then d.sr Reg.PKT_TREAD_ADDR.TABLE table else d
  let d := ((d.sr Reg.PKT_TREAD_ADDR.COPY copy).sr Reg.PKT_TREAD_ADDR.PART part).sr Reg.PKT_TREAD_ADDR.INDEX index
  let e := d.treadEntry (d.rg Reg.PKT_TREAD_ADDR.TABLE) copy index
  (d.pk (fun p => { p with tread := (e.drop (256 * part) ++ zeros256).take 256 })).sr Reg.PKT_TREAD_ADDR.DONE 1

def execPktTreadAddr (table : Fin 16) (copy : Fin 2) (part : Fin 4) (index : BitVec 24) (s : State) : Out :=
  s.on (fun d => d.treadWrite table copy part index.toNat)

end Sys2Proof.Machine
end

