-- ==== Sys2Proof/Machine/Faults.lean ====
section
/-! DEFINITION. Fault collection and reaction (R617 to R635): source events with the effects their chapters give them, held
reactions, the hub's modes, the safe state and the chip watchdog. -/
namespace Sys2Proof.Machine
open Sys2Proof

/-! ## Sources (R617) -/

/-- Whether a number names a source. -/
def sourceNamed (s : Nat) : Bool :=
  if s < 512 then decide (s % 8 ≠ 7)
  else if s < 640 then decide (s % 8 < 5 ∨ s = 517)
  else s < 768 && !([650, 651, 658, 659, 665, 666, 667, 679, 680, 681, 682, 683, 699, 706, 707, 715, 723, 737, 738, 739, 746, 747,
    755].contains s)

/-! ## What a source's own chapter does at the event -/

/-- Items that use a key slot of a failed parity end with SEC_KEY_GONE, and the slot is EMPTY. -/
def Chip.slotParity (d : Chip) (k : Nat) : Chip :=
  (d.bulkOpen.filter (fun i => d.bulkKey i.origin i.body = .slot k)).foldl
    (fun (d : Chip) (i : Item) => d.withdraw i.seq Code.SEC_KEY_GONE) (d.emptySlot k)

/-- A ring pair record that fails parity: ERR, and ASK until the pair is enabled again. -/
def Chip.ringParity (d : Chip) (r : Nat) : Chip :=
  ((d.sr (Reg.HIF_RING.ERR r) 1).raiseAttn (.ringParity r) .ask clsHost)

/-- A wheel entry that fails parity: the queue leaves the wheel for credit mode. -/
def Chip.wheelParity (d : Chip) (q : Nat) : Chip :=
  if !d.pkt.wheel.any (fun e => e.q = q) then d
  else
    ((d.pk (fun u => { u with wheel := u.wheel.filter (fun e => e.q ≠ q) })).setPq q { d.pq q with credit := 1 }).count
      (Reg.PKT_COUNT.COUNT 13)

/-- A merge entry that fails parity: its word is written poisoned. -/
def Chip.mergeParity (d : Chip) (w : Nat) : Chip :=
  if (d.mergeEntry w).isNone then d
  else { (d.setPoison w true) with mu := { d.mu with merge := d.mu.merge.filter (fun e => e.word ≠ w), flips := tdel d.mu.flips w } }

/-- A failed packet-buffer line: the oldest frame of the queue is dropped (R461). -/
def Chip.bufferCrc (d : Chip) (q : Nat) : Chip :=
  let x := d.pq q
  if x.frames.isEmpty then d else (d.setPq q { x with frames := x.frames.drop 1 }).count (Reg.PKT_COUNT.COUNT 11)

/-- The effect of an event of a source beside the hub's record and reaction, for the sources whose events have no row of their own;
DETAIL is the index the chapter gives, and `addr` the Plinth word of MERGE_PARITY. -/
def Chip.faultEffect (d : Chip) (s detail addr : Nat) : Chip :=
  if s < 512 then (if s % 8 = 0 then d else d.fenceCore (s / 8))
  else if s < 640 then (if s % 8 < 2 then d.crash ((s - 512) / 8) else d)
  else if s = Src.FRIEZE_PARITY then { d with tck := { d.tck with skip := d.tck.skip ++ [detail] } }
  else if s = Src.COL_STEER_PARITY then
    (d.slotRec detail).firings.foldl (fun (d : Chip) f => d.firingResend detail f.number) d
  else if s = Src.COL_TABLE_PARITY then (if (d.slotRec detail).state = .empty then d else d.faultSlot detail)
  else if s = Src.MERGE_PARITY then d.mergeParity (addr / 32 * 32)
  else if s = Src.PKT_WHEEL_PARITY then d.wheelParity detail
  else if s = Src.PKT_BUFFER_CRC then d.bufferCrc detail
  else if s = Src.DMA_BUF_CRC then d.count (Reg.DMA_COUNT.COUNT 5)
  else if s = Src.DMA_QUEUE_PARITY then d.chanDrop (detail % 32)
  else if s = Src.NVS_LOCK_PARITY then d.setCtl (detail % 128) { d.ctl (detail % 128) with cfs := true }
  else if s = Src.CKP_TABLE_PARITY then d.ckpAbandon (detail % 64) 6
  else if s = Src.SEC_SLOT_PARITY then d.slotParity detail
  else if s = Src.PAT_FLASH then
    ({ d with pat := { d.pat with bad := insNat d.pat.block d.pat.bad, block := (d.pat.block + 1) % 6144 } }.mr Reg.PAT_STATE.BAD_BLOCKS
      (fun v => min (v + 1) 6144)).count (Reg.PAT_COUNT.COUNT 4)
  else if s = Src.PAT_MAC then d.count (Reg.PAT_COUNT.COUNT 3)
  else if s = Src.HIF_ATC_PARITY 0 ∨ s = Src.HIF_ATC_PARITY 1 then { d with hif := { d.hif with atc := d.hif.atc.eraseIdx detail } }
  else if s = Src.HIF_RING_PARITY 0 ∨ s = Src.HIF_RING_PARITY 1 then d.ringParity detail
  else d

/-- An event of a source, handled by the hub, with its chapter's effect. -/
def Chip.sourceEvent (d : Chip) (s detail addr : Nat) (inj : Bool) : Chip :=
  if !sourceNamed s then d else (d.fault s detail inj).faultEffect s detail addr

def execFaultEvent (source : Fin 768) (detail : BitVec 16) (addr : Nat) (s : State) : Out :=
  s.on (fun d => d.sourceEvent source detail.toNat addr false)

/-! ## Held reactions (R628) -/

/-- A hold ends: carried out, or dropped by software; the second entry has GRACE_END. -/
def Chip.holdEnds (d : Chip) (h : HeldReaction) (dropped : Bool) : Chip :=
  let d := { d with hub := { d.hub with held := d.hub.held.filter (fun x => x.source ≠ h.source) } }
  let d := (d.sr (Reg.FLT_SRC_STATE.HELD h.source) 0).syncHeld
  let severe := d.flag (Reg.FLT_SRC_STATE.SEVERE h.source)
  if dropped then d.history h.source h.detail 7 true true false severe h.injected false
  else (d.history h.source h.detail h.reaction true false false severe h.injected false).react h.source h.reaction

def Chip.heldOf (d : Chip) (s : Nat) : Option HeldReaction := d.hub.held.find? (fun h => h.source = s)

def Chip.endHold (d : Chip) (s : Nat) (dropped : Bool) : Chip :=
  match d.heldOf s with
  | none => d
  | some h => d.holdEnds h dropped

/-- GRACE_TIMER_EXPIRY: void unless a reaction of the source is held, and before FLT_GRACE.US has passed in whole ticks. -/
def graceExpiry (d : Chip) (source : Nat) : Chip :=
  if (d.heldOf source).any (fun h => d.tick + 1 < h.since + d.usTicks (d.rg Reg.FLT_GRACE.US)) then d else d.endHold source false

def execGraceTimerExpiry (source : Fin 768) (s : State) : Out := s.on (fun d => graceExpiry d source)

def execHeldReactionDrop (source : Fin 768) (s : State) : Out := s.on (fun d => d.endHold source true)

/-- NORMAL is entered: every held reaction is carried out at once. -/
def Chip.hubNormal (d : Chip) : Chip :=
  d.hub.held.foldl (fun (d : Chip) h => d.holdEnds h false) (d.sr Reg.FLT_MODE.MODE 1)

/-! ## Modes (R627) -/

/-- A write of FLT_MODE: STARTUP is no value it takes, and the hub stays in STARTUP until READY. -/
def Chip.setHubMode (d : Chip) (m : Nat) : Chip :=
  if m = 0 ∨ m > 3 ∨ !d.flag Reg.PCR_STATE.READY then d
  else if m = 1 then d.hubNormal
  else d.sr Reg.FLT_MODE.MODE m

def execFltModeNormal (s : State) : Out := s.on (fun d => d.setHubMode 1)
def execFltModeTest (s : State) : Out := s.on (fun d => d.setHubMode 2)
def execFltModeRecovery (s : State) : Out := s.on (fun d => d.setHubMode 3)

/-- STARTUP_MODE_EXPIRY: void outside STARTUP and before 30 s have passed since READY. -/
def execStartupModeExpiry (s : State) : Out :=
  s.on (fun d =>
    if d.rg Reg.FLT_MODE.MODE ≠ 0 ∨ !d.flag Reg.PCR_STATE.READY ∨ d.tick < d.pwr.readyTick + d.usTicks 30_000_000 - 1 then d
    else d.hubNormal)

/-! ## The safe state and the watchdog (R629, R632) -/

/-- FLT_SAFE.ENTER, written by AC0: the cause reads 0x3FF. -/
def execFltSafeEnter (s : State) : Out := s.on (fun d => d.enterSafe 0x3FF false)

/-- A warm-reset trigger by its WARM_CAUSE (R647): absorbed and counted while a warm reset runs. -/
def Chip.warmTrigger (d : Chip) (cause : Nat) : Chip :=
  if d.hub.inReset then d.count (Reg.PCR_COUNT.COUNT 5)
  else if d.pwr.trigger ≠ 0 then d
  else { d with pwr := { d.pwr with trigger := cause, entering := 0, exiting := false } }.sr Reg.PCR_STATE.POWER 0

/-- CHIP_WATCHDOG_EXPIRY: void while LIMIT is 0, while the last pet is younger than LIMIT ms in whole ticks, and while AC0 is halted at
a breakpoint. -/
def watchdogExpiry (d : Chip) : Chip :=
  let limit := d.rg Reg.FLT_CHIP_WDOG.LIMIT
  if limit = 0 ∨ d.tick < d.pwr.petTick + d.usTicks (limit * 1000) - 1 ∨ d.flag (Reg.OBS_DBG_CTRL.HALTED 0) then d
  else (d.fault Src.FLT_CHIP_WDOG).warmTrigger 2

def execChipWatchdogExpiry (s : State) : Out := s.on watchdogExpiry

def Chip.chipPet (d : Chip) : Chip := { d with pwr := { d.pwr with petTick := d.tick } }

def execFltChipPet (s : State) : Out := s.on Chip.chipPet

end Sys2Proof.Machine
end

