-- ==== Sys2Proof/Machine/Memory.lean ====
section
/-! DEFINITION. The commands of the memory chapter (R257 to R298): merge entries, scrubbing, page commands, MEM_INIT, the near
tier, the Quarry and page migration. -/
namespace Sys2Proof.Machine
open Sys2Proof

/-! ## The Plinth (R261, R266, R268, R270) -/

def execMergeEntryFlush (word : Nat) (s : State) : Out := s.on (fun d => d.flushMerge (word / 32 * 32))

/-- Whether a 64 KiB page is in the initialised map of the Plinth or of the near tier (R274). -/
def inMap (l : List (Nat × Nat)) (n : Nat) : Bool := l.any (fun r => r.1 ≤ n && n < r.1 + r.2)

def Chip.pageInit (d : Chip) (a : Nat) : Bool :=
  if isPlinth a then inMap d.mu.initPlinth (a / 0x1_0000)
  else isNear a && inMap d.mu.initNear ((a - 0x10_0000_0000) / 0x1_0000)

/-- The mover's allowance of the new frame, after what the last one left was spent on the copy in progress (R292). -/
def Chip.migTick (d : Chip) : Chip :=
  { d with mu := { d.mu with
    moving := d.mu.moving.map (fun m => { m with done := min 64 (m.done + d.mu.migLeft) })
    migLeft := d.rg Reg.MEM_MIG_CFG.RATE } }

/-- Pages marked in the initialised map. -/
def Chip.markInit (d : Chip) (a n : Nat) : Chip :=
  if isPlinth a then { d with mu := { d.mu with initPlinth := d.mu.initPlinth ++ [(a / 0x1_0000, n / 0x1_0000)] } }
  else { d with mu := { d.mu with initNear := d.mu.initNear ++ [((a - 0x10_0000_0000) / 0x1_0000, n / 0x1_0000)] } }

/-- The first initialised page of a die at or above a die offset's page, as a die offset. -/
def nextInit (l : List (Nat × Nat)) (die page : Nat) : Option Nat :=
  let lo := die * 0x4000 + page
  let c := l.filterMap (fun r =>
    let s := max r.1 lo
    if s < r.1 + r.2 ∧ s < (die + 1) * 0x4000 then some s else none)
  (c.foldl (fun (m : Option Nat) x => some (match m with | some y => min x y | none => x)) none).map (fun p =>
    (p - die * 0x4000) * 0x1_0000)

def Chip.scrubPos (d : Chip) (die : Nat) : Nat := if die = 0 then d.mu.scrub0 else d.mu.scrub1

def Chip.setScrubPos (d : Chip) (die p : Nat) : Chip :=
  if die = 0 then { d with mu := { d.mu with scrub0 := p } } else { d with mu := { d.mu with scrub1 := p } }

/-- One KiB of the scrub of a die: the words at its position if their page is initialised, else on to the next
initialised page; the end of the die completes a pass. -/
def Chip.scrubKib (d : Chip) (die : Nat) : Chip :=
  let p := d.scrubPos die
  let go (q : Nat) : Chip :=
    let d := d.settle (die * 0x4000_0000 + q) 1024
    if q + 1024 ≥ 0x4000_0000 then (d.setScrubPos die 0).count (Reg.MEM_COUNT.COUNT 6) else d.setScrubPos die (q + 1024)
  match nextInit d.mu.initPlinth die (p / 0x1_0000) with
  | some q => go (max p q)
  | none => if p = 0 then d else (d.setScrubPos die 0).count (Reg.MEM_COUNT.COUNT 6)

def Chip.scrubDie (d : Chip) (die : Nat) : Nat → Chip
  | 0 => d
  | k + 1 => (d.scrubKib die).scrubDie die k

/-- PATROL_SCRUB: a frame's share of both dies (R266); none while MEM is FENCED (R298). -/
def patrolScrub (d : Chip) : Chip :=
  if d.running .mem then
    let n := d.rg Reg.MEM_SCRUB_CFG.RATE
    (d.scrubDie 0 n).scrubDie 1 n
  else d

def execPatrolScrub (s : State) : Out := s.on patrolScrub

/-- SCRUB_PASS of the MEM agent (R297). -/
def execScrubPass (s : State) : Out :=
  s.on (fun d => ((d.setScrubPos 0 0).setScrubPos 1 0).answered (.block .mem) true)

/-- SPARE_BANK_READY: the poison fill ends; the rebuild has ended too unless the ledger still rebuilds (R268). -/
def spareBankReady (d : Chip) (bank : Nat) : Chip :=
  if d.mu.filling.contains bank then
    let d := { d with mu := { d.mu with filling := d.mu.filling.filter (· ≠ bank) } }
    if d.flag Reg.GLB_LEDGER_STATE.REBUILD then d else d.endAttn (.plinthBank bank)
  else d

def execSpareBankReady (bank : Fin 512) (s : State) : Out := s.on (fun d => spareBankReady d bank.val)

/-- Whether a word lies in a general region of the Plinth (R259). -/
def inGeneral (a : Nat) : Bool := a < 0x2C00_0000 || (0x4000_0000 ≤ a && a < 0x6C00_0000)

/-- A write of MEM_FLIP_CTRL with ARM set (R270). -/
def flipArm (d : Chip) (v : Nat) : Chip :=
  let d := ((d.sr Reg.MEM_FLIP_CTRL.DATA_EN (bitsOf v 24 1)).sr Reg.MEM_FLIP_CTRL.DATA_BIT (bitsOf v 16 8)).sr
    Reg.MEM_FLIP_CTRL.CHECK_MASK (bitsOf v 0 10)
  if bitOf v 31 ∧ inGeneral (d.rg Reg.MEM_FLIP_ADDR.ADDR * 32) then
    (d.sr Reg.MEM_FLIP_CTRL.ARM 1).sr Reg.MEM_FLIP_CTRL.DONE 0
  else d

def execMemFlipArm (value : BitVec 32) (s : State) : Out := s.on (fun d => flipArm d (value.toNat ||| 0x8000_0000))

/-! ## Cold-start initialisation (R272) -/

/-- A range zeroed and marked in the initialised map by the device. -/
def Chip.initRange (d : Chip) (a n : Nat) : Chip :=
  if n = 0 then d else (d.zeroRange a n).markInit a (n + 0xFFFF)

/-- The ranges of a pool. -/
def Chip.poolRanges (d : Chip) (k : Nat) : List (Nat × Nat) := (d.pool k).ext.map (fun e => (e.1, e.2 * (d.pool k).unit))

/-- The near tier and the host links trained alongside (R637): every channel that is not retired, and of each host link the speed
and width it came to, which the partner decides. -/
def Chip.trained (d : Chip) : Chip :=
  let d := d.sr Reg.MEM_NEAR_STATE.TRAINED (0xFFFFFF - d.rg Reg.MEM_NEAR_STATE.FAILED)
  [0, 1].foldl (fun (d : Chip) pf =>
    let x := (Config.freeWord d.free).toNat
    ((d.sr (Reg.HIF_STATE.SPEED pf) (1 + x % 6)).sr (Reg.HIF_STATE.WIDTH pf) (x / 6 % 5)).takeFree) d

/-- COLD_INIT_COMPLETE: the ledger, redo areas, system regions, block map, page table and pools are initialised, and
INIT_BUSY clears. -/
def coldInit (d : Chip) : Chip :=
  if !d.flag Reg.MEM_PLINTH_STATE.INIT_BUSY ∨ !d.flag Reg.PCR_STATE.MAQ_LOADED then d
  else
    let rs := [(0x3400_0000, 0xC00_0000), (0x7400_0000, 0xC00_0000), (0x3000_0000, 0x400_0000), (0x2C00_0000, 0x400_0000),
      (0x6C00_0000, 0x800_0000), (d.rg Reg.KVA_MAP_BASE.BASE, 0x5000_0000), (d.rg Reg.MEM_PT_BASE.BASE, 0x800_0000)] ++
      [0, 1, 3, 4, 6, 7].flatMap d.poolRanges
    (rs.foldl (fun (d : Chip) r => d.initRange r.1 r.2) d).trained.syncFill.sr Reg.MEM_PLINTH_STATE.INIT_BUSY 0

def execColdInitComplete (s : State) : Out := s.on coldInit

/-! ## MEM_INIT (R274) -/

/-- Whether a range overlaps a pool the device allocates from, or a near-tier structure only it writes. -/
def Chip.poolsOverlap (d : Chip) (a n : Nat) : Bool :=
  (List.range 8).any (fun k => (d.poolRanges k).any (fun e => overlaps a n e.1 e.2)) || d.deviceNear a n

/-- The first page of a range whose bit is set. -/
def Chip.firstInit (d : Chip) (a n : Nat) : Option Nat :=
  ((List.range (n / 0x1_0000)).map (fun k => a + k * 0x1_0000)).find? d.pageInit

/-- Bytes 16 to 23 of the reply (R296). -/
def memLo (pages tier : Nat) : Nat := pages + tier * 2 ^ 32

def memInit (d : Chip) (src : Submit) (a n pattern force : Nat) : Chip :=
  if force > 1 then d.refuse src Code.HIF_BAD_CMD
  else if a % 0x1_0000 ≠ 0 ∨ n = 0 ∨ n % 0x1_0000 ≠ 0 ∨ !d.inDieOrNear a n then d.refuse src Code.MEM_RANGE
  else if deviceOwned a n then d.refuse src Code.ACCESS_VIOLATION
  else if d.poolsOverlap a n then d.refuse src Code.MEM_RANGE
  else match (if force = 0 then d.firstInit a n else none) with
    | some p => d.refuse src Code.MEM_INIT_DONE 0 p
    | none =>
      let d := d.acceptCmd src (.general 0x0404) (genBody 0x0404 src [a, n, pattern, force]) (d.originDomain src.origin)
      let lost := d.writeLost a n
      let d := d.wr a ((List.replicate (n / 8) (leBytes 8 pattern)).flatten)
      d.finishWith d.lastSeq (fun d => d.markInit a n) (if lost then Code.POISONED_DATA else Code.OK) (memLo (n / 0x1_0000) 0) d.tick

def execMemInit (src : Submit) (addr length : Nat) (pattern : Word) (force : Nat) (s : State) : Out :=
  s.on (fun d => d.submit src .mem false (fun d => memInit d src addr length pattern.toNat force))

/-! ## Page commands (R289 to R295) -/

/-- Whether a page command's range lies in the paged range (MEM_RANGE). -/
def pageRangeBad (a n : Nat) : Bool := a % 0x1_0000 ≠ 0 || n = 0 || n > 65536 || !isPaged a || a + n * 0x1_0000 > 0x400_0000_0000

/-- The first named page that does not meet a condition, as its address. -/
def Chip.badPage (d : Chip) (a n : Nat) (ok : PTE → Bool) : Option Nat :=
  ((List.range n).map (fun k => a + k * 0x1_0000)).find? (fun p => !ok (d.pte (pageOf p)))

/-- n free units of a pool, not necessarily next to each other. -/
def Chip.someUnits (d : Chip) (k n : Nat) : Option (List Nat) :=
  let us := ((List.range (d.pool k).count).filter (fun i => d.unitsFree (d.pool k) i 1)).take n
  if us.length = n then some us else none

/-- Entries set VALID, or POISONED where the tier page was lost meanwhile: the commit point of PAGE_MAP. -/
def mapPages (p0 n : Nat) (d : Chip) : Chip :=
  (List.range n).foldl (fun (d : Chip) k =>
    let e := d.pte (p0 + k)
    d.setPte (p0 + k) { e with state := if d.lost (e.tpage * 0x1_0000) then .poisoned else .valid }) d

/-- Tier pages held for an entry that is still UNMAPPED. -/
def Chip.holdPages (d : Chip) (p0 tier : Nat) (pin : Bool) (us : List Nat) : Chip :=
  us.zipIdx.foldl (fun (d : Chip) u =>
    let a := d.unitAddr tier u.1
    ((d.takeUnits tier u.1 1).zeroRange a 0x1_0000).setPte (p0 + u.2) { noPage with tpage := a / 0x1_0000, tier := tier, pin := pin }) d

def pageMap (d : Chip) (src : Submit) (a n tier pin : Nat) : Chip :=
  if tier > 2 ∨ pin > 1 then d.refuse src Code.HIF_BAD_CMD
  else if pageRangeBad a n then d.refuse src Code.MEM_RANGE
  else match d.badPage a n (fun e => e = noPage) with
    | some p => d.refuse src Code.MEM_PAGE_STATE 0 p
    | none =>
      match d.someUnits tier n with
      | none => d.refuse src Code.MEM_POOL_FULL
      | some us =>
        let d := d.acceptCmd src (.general 0x0401) (genBody 0x0401 src [a, n + tier * 2 ^ 32 + pin * 2 ^ 40]) (d.originDomain src.origin)
        (d.holdPages (pageOf a) tier (pin = 1) us).finishWith d.lastSeq (mapPages (pageOf a) n) Code.OK (memLo n tier) d.tick

def execPageMap (src : Submit) (addr pages tier pin : Nat) (s : State) : Out :=
  s.on (fun d => d.submit src .mem false (fun d => pageMap d src addr pages tier pin))

/-- The page move in progress given up when its page is named (R294): VALID on the old page, the target freed. -/
def Chip.abandonPage (d : Chip) (counted : Bool) : Chip :=
  match d.mu.moving with
  | none => d
  | some m =>
    let d := d.freeUnits m.tier [m.unit]
    let d := if (d.pte m.page).state = .migrating then d.setPte m.page { d.pte m.page with state := .valid } else d
    let d := { d with mu := { d.mu with moving := none } }
    if counted then d.count (Reg.MEM_COUNT.COUNT 15) else d

def Chip.abandonIf (d : Chip) (p0 n : Nat) : Chip :=
  if d.mu.moving.any (fun m => p0 ≤ m.page && m.page < p0 + n) then d.abandonPage true else d

/-- A tier page given back when GLB_LEDGER_LOW exceeds H (R291). -/
def Chip.reclaimPage (d : Chip) (e : PTE) : Chip :=
  { d with mu := { d.mu with reclaim := ⟨e.tier, [d.unitOf e.tier (e.tpage * 0x1_0000)], d.ledgerHead⟩ :: d.mu.reclaim } }

/-- Entries set UNMAPPED: the commit point of PAGE_UNMAP. -/
def unmapPages (p0 n : Nat) (d : Chip) : Chip :=
  (List.range n).foldl (fun (d : Chip) k => (d.reclaimPage (d.pte (p0 + k))).setPte (p0 + k) noPage) (d.abandonIf p0 n)

def pageUnmap (d : Chip) (src : Submit) (a n : Nat) : Chip :=
  if pageRangeBad a n then d.refuse src Code.MEM_RANGE
  else match (d.badPage a n (fun e => e.state ≠ .unmapped)).orElse (fun _ => ((List.range n).find? (fun k => (d.ckpPage (pageOf a + k)).isSome)).map (fun k => a + k * 0x1_0000)) with
    | some p => d.refuse src Code.MEM_PAGE_STATE 0 p
    | none =>
      let d := d.acceptCmd src (.general 0x0402) (genBody 0x0402 src [a, n]) (d.originDomain src.origin)
      d.finishWith d.lastSeq (unmapPages (pageOf a) n) Code.OK (memLo n 0) d.tick

def execPageUnmap (src : Submit) (addr pages : Nat) (s : State) : Out :=
  s.on (fun d => d.submit src .mem false (fun d => pageUnmap d src addr pages))

/-- A page's bytes copied to a unit of a tier's pool, and the entry switched to it (R293). -/
def Chip.switchPage (d : Chip) (page tier u : Nat) : Chip :=
  let e := d.pte page
  let a := d.unitAddr tier u
  let d := d.noteRead (e.tpage * 0x1_0000) 0x1_0000
  let d := d.writePhys a (d.readRange (e.tpage * 0x1_0000) 0x1_0000)
  (d.reclaimPage e).setPte page { e with tpage := a / 0x1_0000, tier := tier, state := .valid }

/-- A page pinned in a tier, moved there if needed; a POISONED page does not move (R292). -/
def Chip.pinPage (d : Chip) (tier : Nat) (page : Nat) : Chip :=
  let e := d.pte page
  let d :=
    if e.tier = tier ∨ e.state = .poisoned then d
    else match d.findUnits tier 1 with
      | some u => (d.takeUnits tier u 1).switchPage page tier u
      | none => d
  d.setPte page { d.pte page with pin := true }

def pinPages (p0 n tier pin : Nat) (d : Chip) : Chip :=
  (List.range n).foldl (fun (d : Chip) k =>
    if pin = 1 then d.pinPage tier (p0 + k) else d.setPte (p0 + k) { d.pte (p0 + k) with pin := false }) (d.abandonIf p0 n)

def pagePin (d : Chip) (src : Submit) (a n tier pin : Nat) : Chip :=
  if tier > 2 ∨ pin > 1 then d.refuse src Code.HIF_BAD_CMD
  else if pageRangeBad a n then d.refuse src Code.MEM_RANGE
  else match d.badPage a n (fun e => e.state ≠ .unmapped) with
    | some p => d.refuse src Code.MEM_PAGE_STATE 0 p
    | none =>
      let moves := ((List.range n).filter (fun k => let e := d.pte (pageOf a + k); e.tier ≠ tier && e.state ≠ .poisoned)).length
      if pin = 1 ∧ (d.someUnits tier moves).isNone then d.refuse src Code.MEM_POOL_FULL
      else
        let d := d.acceptCmd src (.general 0x0403) (genBody 0x0403 src [a, n + tier * 2 ^ 32 + pin * 2 ^ 40]) (d.originDomain src.origin)
        d.finishWith d.lastSeq (pinPages (pageOf a) n tier pin) Code.OK (memLo n (if pin = 1 then tier else 0)) d.tick

def execPagePin (src : Submit) (addr pages tier pin : Nat) (s : State) : Out :=
  s.on (fun d => d.submit src .mem false (fun d => pagePin d src addr pages tier pin))

/-! ## The core-die SRAM and the near tier (R277, R281 to R283) -/

/-- SRAM_CRC: the line is refetched or recomputed, or, where it has no source, poisoned; of a core's local memory it raises AC_LMEM_CRC
too. -/
def sramCrc (d : Chip) (a : Nat) : Chip :=
  if !isSram a then d
  else
    let d := if isStaging a || isShared a || isLocal a then d.setPoison (a / 64 * 64) true else d
    let d := (d.count (Reg.MEM_COUNT.COUNT 8)).fault Src.SRAM_CRC ((a - 0x1_0000_0000) / 64)
    if isLocal a then d.fault (Src.AC_LMEM_CRC ((a - 0x1_0500_0000) / 0x4_0000)) else d

def execSramCrc (addr : Nat) (s : State) : Out := s.on (fun d => sramCrc d addr)

/-- Entries of the paged range backed by a lost store become POISONED (R283). -/
def Chip.poisonPages (d : Chip) : Chip :=
  d.mu.pt.foldl (fun (d : Chip) p =>
    if d.lost (p.2.tpage * 0x1_0000) ∧ p.2.state ≠ .unmapped then d.setPte p.1 { p.2 with state := .poisoned } else d) d

/-- A near-tier channel retired until cold start (R283). -/
def Chip.channelFail (d : Chip) (g : Nat) : Chip :=
  if bitOf (d.rg Reg.MEM_NEAR_STATE.FAILED) g then d
  else
    let d := ((d.setBit Reg.MEM_NEAR_STATE.FAILED g true).setBit Reg.MEM_NEAR_STATE.TRAINED g false).poisonPages
    ((d.fault Src.NEAR_CHANNEL_FAIL g).raiseAttn (.nearChannel g) .degraded clsMemory).patEvent 6 [g]

/-- NEAR_CRC: the line is poisoned after its retries; the sixteenth exhaustion of a channel within 1,024 ticks retires it. -/
def nearCrc (d : Chip) (a : Nat) : Chip :=
  if !isNear a then d
  else
    let g := nearChan a
    let d := (((d.setPoison (a / 128 * 128) true).count (Reg.MEM_COUNT.COUNT 10) 2).count (Reg.MEM_COUNT.COUNT 11)).fault Src.NEAR_CRC g
    let seen := ((g, d.tick) :: d.mu.edcSeen).filter (fun p => d.tick - p.2 < 1024)
    let d := { d with mu := { d.mu with edcSeen := seen } }
    if (seen.filter (fun p => p.1 = g)).length ≥ 16 then d.channelFail g else d

def execNearCrc (addr : Nat) (s : State) : Out := s.on (fun d => nearCrc d addr)

/-- A retraining window opens on a channel (R282). -/
def Chip.openWindow (d : Chip) (g : Nat) : Chip :=
  { d with mu := { d.mu with inWindow := insNat g d.mu.inWindow } }.count (Reg.MEM_COUNT.COUNT 16)

/-- RETRAIN_WINDOW_END: the channel trained, or failed; two windows in a row retire it. -/
def retrainEnd (d : Chip) (g : Nat) (pass : Bool) : Chip :=
  if !d.mu.inWindow.contains g then d
  else
    let n := if pass then 0 else (tget d.mu.retrainFails g).getD 0 + 1
    let d := { d with mu := { d.mu with inWindow := d.mu.inWindow.filter (· ≠ g), retrainFails := tput d.mu.retrainFails g n } }
    if n ≥ 2 then d.channelFail g else d

def execRetrainWindowEnd (chan : Fin 24) (pass : Bool) (s : State) : Out := s.on (fun d => retrainEnd d chan.val pass)

/-- RETIRE_CHANNEL of the MEM agent. -/
def execRetireChannel (chan : Fin 24) (s : State) : Out :=
  s.on (fun d => (d.channelFail chan.val).answered (.block .mem) true)

/-! ## The Quarry (R285 to R287) -/

/-- CXL_DEVICE_TRAINED: the lower of the reported capacity and 256 GiB, in units of 256 MiB. -/
def execCxlDeviceTrained (dev : Fin 8) (units : Nat) (s : State) : Out :=
  s.on (fun d => (d.setBit Reg.MEM_QUARRY_STATE.PRESENT dev.val true).sr (Reg.MEM_QUARRY_CAP.UNITS dev.val) (min units 1024))

/-- The ledger mirror leaves a failed device for the alternate, and is rewritten in full; without an alternate it is dropped (R28, R287). -/
def Chip.moveMirror (d : Chip) (k : Nat) : Chip :=
  if d.led.mirrorDev = some k then
    let alt := d.led.mirrorAlt
    let l : Ledger := { d.led with mirrorDev := alt, mirrorAlt := none, mirror := none, mirrored := [], pass := none }
    match alt with
    | some j => { d with led := l }.sr Reg.GLB_RECOVERY.DEVICE j
    | none => { d with led := l }.sr Reg.GLB_LEDGER_STATE.MIRROR 0
  else d

/-- A CXL device retired (R287). -/
def Chip.quarryFail (d : Chip) (k : Nat) : Chip :=
  if bitOf (d.rg Reg.MEM_QUARRY_STATE.FAILED) k then d
  else
    let d := ((d.setBit Reg.MEM_QUARRY_STATE.FAILED k true).poisonPages).moveMirror k
    ((d.fault Src.QUARRY_DEVICE_FAIL k).raiseAttn (.quarryDevice k) .degraded clsMemory).patEvent 6 [24 + k]

def execQuarryDeviceFail (dev : Fin 8) (s : State) : Out := s.on (fun d => d.quarryFail dev.val)

def execRetireQuarry (dev : Fin 8) (s : State) : Out :=
  s.on (fun d => (d.quarryFail dev.val).answered (.block .mem) true)

/-! ## Translation and migration (R289, R292 to R294) -/

/-- TRANSLATION_MISS: the page's entry is read into the cache; a poisoned page-table line reads as POISONED entries. -/
def translationMiss (d : Chip) (page : Nat) : Chip :=
  let a := d.rg Reg.MEM_PT_BASE.BASE + 8 * page
  let d := d.xlatTouch page 0
  if d.anyPoison (a / 128 * 128) 128 then
    let d := d.fault Src.PT_POISON page
    (List.range 16).foldl (fun (d : Chip) k =>
      let n := page / 16 * 16 + k
      if (d.pte n).state = .unmapped then d else d.setPte n { d.pte n with state := .poisoned }) d
  else d

def execTranslationMiss (page : Fin 16777216) (s : State) : Out := s.on (fun d => translationMiss d page.val)

/-- One page of the sweep (R244, R292): its cached accesses join HEAT, which may promote it; then HEAT is halved and a cold page queued
downward, dropped and counted where the queue is full (DESIGN CHOICE, log entry 83). -/
def Chip.sweepPage (d : Chip) (n : Nat) : Chip :=
  if (d.pte n).state ≠ .valid then d
  else
    let d := d.heatPage n ((tget d.mu.xlat n).getD 0)
    let d : Chip := { d with mu := { d.mu with xlat := d.mu.xlat.map (fun p => if p.1 = n then (n, 0) else p) } }
    let e := d.pte n
    let h := e.heat / 2
    let d := d.setPte n { e with heat := h }
    if e.pin then d
    else if e.tier = 0 ∧ h < d.rg Reg.MEM_MIG_CFG.COLD_PLINTH then d.queuePage n 1 false
    else if e.tier = 1 ∧ h < d.rg Reg.MEM_MIG_CFG.COLD_NEAR ∧ (d.pool 2).count ≠ 0 then d.queuePage n 2 false
    else d

/-- MIGRATION_SWEEP: every page; void before 2^DECAY ticks have passed since the last sweep, and in a block that does not run. -/
def migrationSweep (d : Chip) : Chip :=
  if d.tck.frames < d.mu.swept + 2 ^ d.rg Reg.MEM_MIG_CFG.DECAY ∨ !d.running .mem then d
  else
    let d : Chip := { d with mu := { d.mu with swept := d.tck.frames } }
    (d.mu.pt.map (·.1)).foldl (fun (d : Chip) n => d.sweepPage n) d

def execMigrationSweep (s : State) : Out := s.on migrationSweep

def migIdle (d : Chip) : Bool :=
  !d.mu.paused && d.running .mem && !(d.agentRec (.block .mem)).fencing && d.mu.moving.isNone && d.rg Reg.MEM_MIG_CFG.RATE ≠ 0

/-- A queued move begun: a target page taken and STATE MIGRATING (R293). -/
def startPage (m : PageMove) (d : Chip) : Chip :=
  let e := d.pte m.page
  if e.state ≠ .valid ∨ e.pin ∨ e.tier = m.tier then d.count (Reg.MEM_COUNT.COUNT 15)
  else match d.findUnits m.tier 1 with
    | none => d.count (Reg.MEM_COUNT.COUNT 15)
    | some u =>
      let d := (d.takeUnits m.tier u 1).setPte m.page { e with state := .migrating }
      { d with mu := { d.mu with moving := some ⟨m.page, m.tier, u, 0⟩ } }

def pageMigration (d : Chip) : Chip :=
  match d.mu.moveQ with
  | [] => d
  | m :: q => if migIdle d then startPage m { d with mu := { d.mu with moveQ := q } } else d

def execPageMigration (s : State) : Out := s.on pageMigration

/-- PAGE_MIGRATION_COMPLETE: the entry switches to the new tier page; void while this frame's RATE does not cover the rest of the copy
(R292). A page that became POISONED meanwhile stays so, and a target that was lost is given up (R283, R293). -/
def pageMigrationComplete (d : Chip) : Chip :=
  match d.mu.moving with
  | none => d
  | some m =>
    if d.mu.migLeft + m.done < 64 then d
    else
      let d : Chip := { d with mu := { d.mu with migLeft := d.mu.migLeft - (64 - m.done) } }
      if (d.pte m.page).state ≠ .migrating ∨ d.lost (d.unitAddr m.tier m.unit) then d.abandonPage false
      else ({ d with mu := { d.mu with moving := none } }.switchPage m.page m.tier m.unit).count (Reg.MEM_COUNT.COUNT 14)

def execPageMigrationComplete (s : State) : Out := s.on pageMigrationComplete

def execMigPause (s : State) : Out :=
  s.on (fun d => { d with mu := { d.mu with paused := true } }.answered (.block .mem) true)

def execMigResume (s : State) : Out :=
  s.on (fun d => { d with mu := { d.mu with paused := false } }.answered (.block .mem) true)

end Sys2Proof.Machine
end

