-- ==== Sys2Proof/Machine/Agents.lean ====
section
/-! DEFINITION. The block agents' common commands (R16 to R21) and what a fence, its end and a return to RUNNING do in each block. -/
namespace Sys2Proof.Machine
open Sys2Proof

/-! ## Sources and counters of an agent -/

/-- The sources of an agent that are ACTIVE. -/
def Chip.activeSources (d : Chip) (a : Agent) : List Nat :=
  (List.range 768).filter (fun s => sourceNamed s && agentOfSource s = a && d.flag (Reg.FLT_SRC_STATE.ACTIVE s))

/-- The agent in whose registers a stored field lies: a work core's or an Armature core's own, else its block's. -/
def agentOfBit (b : Nat) : Agent :=
  let off := b % fnStride / 8
  let k := off / 0x10_0000
  let o := off % 0x10_0000
  if k = 5 ∧ o / 0x4000 < 64 then wcAgent (o / 0x4000)
  else if k = 9 ∧ 0x100 ≤ o ∧ o < 0x280 then acAgent (o % 0x80 / 8)
  else if k = 9 ∧ 0x1000 ≤ o ∧ o < 0x1400 then acAgent ((o - 0x1000) / 0x40)
  else .block (([.glb, .hif, .flt, .pcr, .tck, .wkc, .col, .kva, .mem, .amt, .lnk, .dvt, .pkt, .dma, .nvs, .ckp, .sec, .obs, .pat] :
    List Block).getD k .glb)

/-- The live values of an agent's registers. -/
def Chip.bank (d : Chip) (a : Agent) : Tbl Nat := d.regs.filter (fun p => agentOfBit p.1 = a)

/-! ## What a fence does in a block -/

/-- Uncommitted items of a block return to ACCEPTED (R19 step 2), with what the block's chapter adds. -/
def Chip.blockFenced (d : Chip) (b : Block) : Chip :=
  match b with
  | .col => d.giveBack (fun i => !i.state.ended && (match i.kind with
      | .firing _ _ => true
      | .coll => true
      | _ => false))
  | .kva => (d.giveBack (fun i => !i.state.ended && (match i.kind with
      | .query _ _ => true
      | _ => false))).abandonMove.abandonCompact false
  | .mem => d.abandonPage false
  | .dvt => d.giveBack (fun i => !i.state.ended && i.kind = .dvt)
  | .pkt => d.pktFence
  | .dma =>
    let d := d.dmaBack.giveBack (fun i => !i.state.ended && (match i.kind with
      | .dma _ => true
      | _ => false))
    (List.range 32).foldl (fun (d : Chip) c =>
      if d.rg (Reg.DMA_CHAN_STATE.STATE c) = 0 then d else d.sr (Reg.DMA_CHAN_STATE.STATE c) 4) d
  | .nvs =>
    let d := d.giveBack (fun i => !i.state.ended && (match i.kind with
      | .nvme _ _ _ => true
      | _ => false))
    { d with nvs := { d.nvs with
      cmds := d.nvs.cmds.map (fun (c : Nat × NvmeCmd) =>
        if (d.item c.1).any (fun i => i.state = .accepted) then (c.1, { c.2 with started := false, got := false }) else c)
      back := d.nvs.back.filter (fun (k : NvmeBack) => !(d.item k.seq).any (fun i => i.state = .accepted)) } }
  | .ckp => d.ckpFence
  | .sec => d.giveBack (fun i => !i.state.ended && i.kind = .general 0x0D03)
  | .tck | .hif | .flt | .pcr | .lnk | .glb | .obs | .pat => d
  | .wkc => (List.range 64).foldl (fun (d : Chip) n => d.emptyCore n) d
  | .amt => (List.range 16).foldl (fun (d : Chip) n => d.coreGiveBack n) d

/-- The opcode group of the general commands a block runs (R486). The sessions of LNK go on through its fence (R401). -/
def opGroup : Block → Option Nat
  | .tck => some 1 | .col => some 2 | .kva => some 3 | .mem => some 4 | .dvt => some 7 | .pkt => some 8 | .hif => some 9
  | .nvs => some 11 | .ckp => some 12 | .sec => some 13
  | .glb | .flt | .pcr | .wkc | .amt | .lnk | .dma | .obs | .pat => none

/-- The slots whose stripe a core serves. -/
def Chip.slotsOnCore (d : Chip) (n : Nat) : List Nat :=
  (d.coll.slots.filter (fun (s : Nat × SlotRec) => s.2.state ≠ .empty && (d.stripeCores s.2).contains n)).map (fun (s : Nat × SlotRec) => s.1)

/-- A fence reaches its end (R19, R160, R202, R364). -/
def Chip.fenced (d : Chip) (a : Agent) : Chip :=
  let d := d.setAgentRec a { d.agentRec a with fencing := false }
  match a with
  | .wc n =>
    let ks := d.slotsOnCore n
    let d := (d.setAgentSt a .fenced).wcFenced n
    ks.foldl (fun (d : Chip) k => (d.slotRec k).firings.foldl (fun (d : Chip) f => d.firingResend k f.number) d) d
  | .ac n => (d.coreGiveBack n).setAgentSt a .fenced
  | .block b =>
    let d := (d.setAgentSt a .fenced).blockFenced b
    match opGroup b with
    | some k => d.opsBack k
    | none => d

/-- FENCE_COMPLETE: void unless a fence is in progress; a RESET that asked for it follows. -/
def fenceComplete (d : Chip) (a : Agent) : Chip :=
  let r := d.agentRec a
  if !r.fencing then d
  else
    let d := d.fenced a
    if r.resetAfter then d.resetAgent a else d

def execFenceComplete (agent : Agent) (s : State) : Out := s.on (fun d => fenceComplete d agent)

/-! ## Which commands an agent takes -/

/-- FLT and PCR refuse to be fenced, reset or gated (R634, R657). -/
def islandAgent (a : Agent) : Bool := a = .block .flt || a = .block .pcr

/-- TCK and MEM refuse RESET and GATE (R91, R297). -/
def keepsPower (a : Agent) : Bool := islandAgent a || a = .block .tck || a = .block .mem

/-- Whether a retired core is named; it takes no command that would return it. -/
def Chip.retiredAgent (d : Chip) (a : Agent) : Bool :=
  match a with
  | .wc n => d.rg (Reg.WKC_STATE.ROLE n) = 2
  | .ac n => d.rg (Reg.AMT_CORE_STATE.STATE n) = 6
  | .block _ => false

def execStatus (agent : Agent) (s : State) : Out :=
  s.on (fun d => { d with answer := some ⟨agent, true, d.agentSt agent, d.activeSources agent, []⟩ })

/-- FENCE: of a block that runs it begins; of one that is fenced or gated it is taken without effect. -/
def execFence (agent : Agent) (s : State) : Out :=
  s.on (fun d =>
    if islandAgent agent then d.answered agent false
    else if d.agentSt agent = .running ∧ !(d.agentRec agent).fencing then (d.beginFence agent false).answered agent true
    else d.answered agent true)

/-! ## Return to RUNNING -/

/-- What waits in a block goes on once it runs again. -/
def Chip.blockResumes (d : Chip) (b : Block) : Chip :=
  match b with
  | .col =>
    (d.resendWhere (fun _ => true)).collsGo
  | .kva =>
    let d := (d.led.items.filter (fun i => i.state = .accepted)).foldl (fun (d : Chip) i => d.queryStart i.seq) d
    ((d.kv.svcs.map (fun p => p.1)).foldl (fun (d : Chip) n => d.queriesTake n) d).kvNext
  | .dvt => d.dvt.conns.foldl (fun (d : Chip) (c : Nat × DvtConn) =>
      let mine := c.2.ops.map (fun (o : DvtOp) => o.seq)
      let d : Chip := { d with led := { d.led with items := d.led.items.map (fun i =>
        if i.kind = .dvt ∧ i.state = .accepted ∧ mine.contains i.seq then { i with state := .running } else i) } }
      (d.resendPkts c.1 (fun _ => true) none).dvtGo c.1) d
  | .dma => (List.range 32).foldl (fun (d : Chip) c =>
      let d := if d.rg (Reg.DMA_CHAN_STATE.STATE c) = 4 then d.sr (Reg.DMA_CHAN_STATE.STATE c) 1 else d
      d.dmaGo c) d
  | .nvs => d.nvmeGo
  | .sec => d.bulksGo
  | .pat =>
    let hs := d.pat.held
    let d := { d with pat := { d.pat with held := [] } }
    hs.foldl (fun (d : Chip) r => d.patEvent r.type r.body) d
  | _ => d

/-- UNFENCE: refused while a source of the agent is ACTIVE or a warm reset runs; a work core also needs its self test passed (R163, R164), and an
Armature core starts its restart (R376). -/
def unfence (d : Chip) (a : Agent) : Chip :=
  if d.hub.inReset ∨ islandAgent a ∨ d.agentSt a ≠ .fenced ∨ d.retiredAgent a then d.answered a false
  else match a with
    | .wc n => if wcUnfenceOk d n then (d.wcReturns n).answered a true else d.answered a false
    | .ac _ => if (d.activeSources a).isEmpty then (d.setAgentSt a .resetting).answered a true else d.answered a false
    | .block b =>
      if (d.activeSources a).isEmpty then
        (((d.setAgentRec a {}).setAgentSt a .running).blockResumes b).answered a true
      else d.answered a false

def execUnfence (agent : Agent) (s : State) : Out := s.on (fun d => unfence d agent)

/-- RESET: a block that runs is fenced first; a work core must be FENCED (R164). A block without power, or being reset already, has
nothing that a fence could stop: the command is taken and changes nothing. What a reset clears in a block beyond what the fence abandons the
chapters do not list: its registers and tables stay (DESIGN CHOICE, log entry 59). -/
def reset (d : Chip) (a : Agent) : Chip :=
  if keepsPower a ∨ d.retiredAgent a then d.answered a false
  else match d.agentSt a with
    | .fenced => (d.resetAgent a).answered a true
    | .running =>
      match a with
      | .wc _ => d.answered a false
      | _ => (d.beginFence a true).answered a true
    | _ =>
      match a with
      | .wc _ => d.answered a false
      | _ => d.answered a true

def execReset (agent : Agent) (s : State) : Out := s.on (fun d => reset d agent)

/-- GATE: of a fenced block only (R655). -/
def execGate (agent : Agent) (s : State) : Out :=
  s.on (fun d =>
    if keepsPower agent ∨ d.agentSt agent ≠ .fenced ∨ d.retiredAgent agent then d.answered agent false
    else (d.setAgentSt agent .gated).answered agent true)

/-- UNGATE: the block returns FENCED. -/
def execUngate (agent : Agent) (s : State) : Out :=
  s.on (fun d =>
    if islandAgent agent ∨ d.agentSt agent ≠ .gated ∨ d.retiredAgent agent then d.answered agent false
    else (d.setAgentSt agent .fenced).answered agent true)

/-- SAMPLE: the live counters latched beside the tick's latch. -/
def execSample (agent : Agent) (s : State) : Out :=
  s.on (fun d => { d with answer := some ⟨agent, true, d.agentSt agent, [], d.bank agent⟩ })

/-- INJECT: a source of the agent's block raised, in TEST only (R627). -/
def execInject (agent : Agent) (source : Fin 768) (detail : BitVec 16) (s : State) : Out :=
  s.on (fun d =>
    if d.rg Reg.FLT_MODE.MODE ≠ 2 ∨ !sourceNamed source ∨ agentOfSource source ≠ agent then d.answered agent false
    else (d.sourceEvent source detail.toNat 0 true).answered agent true)

end Sys2Proof.Machine
end

