-- ==== Sys2Proof/Machine/ArmCtl.lean ====
section
/-! DEFINITION. Control flow of an Armature core (R320, R321, R338): branches, jumps, calls and the return stack. -/
namespace Sys2Proof.Machine
open Sys2Proof

/-- BEQ and BNE take both operands of one tag, INT, PTR, SEQ or DESC (R305). -/
def ruleEq (a b : Tag) : Option Tag := if a = b ∧ (a = .int ∨ a = .ptr ∨ a = .seq ∨ a = .desc) then some .int else none

def ruleInt2 (a b : Tag) : Option Tag := if a = .int ∧ b = .int then some .int else none

def ruleOrd2 (a b : Tag) : Option Tag := if a = b ∧ (a = .int ∨ a = .ptr ∨ a = .seq) then some .int else none

/-- The address of the instruction plus a word offset × 4. -/
def Chip.relative (d : Chip) (n : Fin 16) (off : Word) : Nat := ((d.core n).pc + off * 4).toNat

/-- A branch. -/
def Chip.branch (d : Chip) (n : Fin 16) (rs1 rs2 : Fin 32) (off : BitVec 12) (rule : Tag → Tag → Option Tag)
    (taken : Word → Word → Bool) : Chip :=
  d.insn n [] (fun d => d.typed2 n rs1 rs2 rule (fun x y _ =>
    if taken x y then d.goto n (d.relative n (off.signExtend 64)) else .next d))

def execBeq (n : Fin 16) (rs1 rs2 : Fin 32) (off : BitVec 12) (s : State) : Out :=
  s.on (fun d => d.branch n rs1 rs2 off ruleEq (fun x y => x = y))

def execBne (n : Fin 16) (rs1 rs2 : Fin 32) (off : BitVec 12) (s : State) : Out :=
  s.on (fun d => d.branch n rs1 rs2 off ruleEq (fun x y => x ≠ y))

def execBlt (n : Fin 16) (rs1 rs2 : Fin 32) (off : BitVec 12) (s : State) : Out :=
  s.on (fun d => d.branch n rs1 rs2 off ruleInt2 (fun x y => x.slt y))

def execBge (n : Fin 16) (rs1 rs2 : Fin 32) (off : BitVec 12) (s : State) : Out :=
  s.on (fun d => d.branch n rs1 rs2 off ruleInt2 (fun x y => !x.slt y))

def execBltu (n : Fin 16) (rs1 rs2 : Fin 32) (off : BitVec 12) (s : State) : Out :=
  s.on (fun d => d.branch n rs1 rs2 off ruleOrd2 (fun x y => x.ult y))

def execBgeu (n : Fin 16) (rs1 rs2 : Fin 32) (off : BitVec 12) (s : State) : Out :=
  s.on (fun d => d.branch n rs1 rs2 off ruleOrd2 (fun x y => !x.ult y))

def execJump (n : Fin 16) (off : BitVec 25) (s : State) : Out :=
  s.on (fun d => d.insn n [] (fun d => d.goto n (d.relative n (off.signExtend 64))))

/-- JR: its register must be PTR, as an address. -/
def execJr (n : Fin 16) (rs1 : Fin 32) (s : State) : Out :=
  s.on (fun d => d.insn n [] (fun d => d.typed1 n rs1 [.ptr] (fun x => d.goto n x.v.toNat)))

/-- The return address kept, by RSMODE (R338). -/
def ArmCore.pushRet (c : ArmCore) (a : Word) : ArmCore :=
  if c.rsmode = 2 then c.setReg 31 ⟨a, .ptr⟩
  else { c with rs := tput c.rs c.rsPtr a, rsPtr := (c.rsPtr + 1) % 16, rsDepth := min (c.rsDepth + 1) 16 }

/-- A call of a target; in mode 1 it traps at depth 16. -/
def Chip.call (d : Chip) (n : Fin 16) (t : Nat) : IOut :=
  let c := d.core n
  let ret := c.pc + 4
  if c.rsmode = 1 ∧ c.rsDepth ≥ 16 then .trap d tRS_OVER ret.toNat false
  else d.goto n t (fun d => d.setCore n ((d.core n).pushRet ret))

/-- In link mode a call writes s31. -/
def Chip.callWrites (d : Chip) (n : Fin 16) : List (Fin 32) := if (d.core n).rsmode = 2 then [31] else []

def execCall (n : Fin 16) (off : BitVec 25) (s : State) : Out :=
  s.on (fun d => d.insn n (d.callWrites n) (fun d => d.call n (d.relative n (off.signExtend 64))))

def execCallr (n : Fin 16) (rs1 : Fin 32) (s : State) : Out :=
  s.on (fun d => d.insn n (d.callWrites n) (fun d => d.typed1 n rs1 [.ptr] (fun x => d.call n x.v.toNat)))

/-- RET: the entry under the pointer popped, or s31 in link mode. -/
def Chip.ret (d : Chip) (n : Fin 16) : IOut :=
  let c := d.core n
  if c.rsmode = 2 then d.typed1 n 31 [.ptr] (fun x => d.goto n x.v.toNat)
  else if c.rsmode = 1 ∧ c.rsDepth = 0 then .trap d tRS_UNDER 0 false
  else
    let p := (c.rsPtr + 15) % 16
    d.goto n ((tget c.rs p).getD 0).toNat (fun d =>
      let c := d.core n
      d.setCore n { c with rsPtr := p, rsDepth := c.rsDepth - 1 })

def execRetInsn (n : Fin 16) (s : State) : Out := s.on (fun d => d.insn n [] (fun d => d.ret n))

end Sys2Proof.Machine
end

