-- ==== Sys2Proof/Machine/ArmFp.lean ====
section
/-! DEFINITION. Floating-point instructions of an Armature core (R322): IEEE 754-2019, nearest-even, with the sticky FFLAGS. -/
namespace Sys2Proof.Machine
open Sys2Proof

/-! ## Conditions (R345: bit 0 invalid, 1 divide by zero, 2 overflow, 3 underflow, 4 inexact) -/

def ffInvalid : Nat := 1
def ffDivZero : Nat := 2
def ffOverflow : Nat := 4
def ffUnderflow : Nat := 8
def ffInexact : Nat := 16

/-- Equality of exact values, the sign of zero aside. -/
def sameVal (a b : Val) : Bool := valEq a b

/-- The least normal magnitude of a format. -/
def minNormal (f : FloatFmt) : Val := .fin false 1 (1 - (f.bias : Int))

/-- An exact result rounded into a format: the pattern and its conditions. Where a value below the normal range rounds up to it,
the standard lets tininess be detected before or after rounding, and `tiny` decides. -/
def roundFlags (f : FloatFmt) (tiny : Bool) (v : Val) : Nat × Nat :=
  let b := (convFloat f true .nearest true v).1
  let r := decodeFloat f b
  match v, r with
  | .fin _ _ _, .inf _ => (b, ffOverflow ||| ffInexact)
  | .fin _ _ _, _ =>
    let inexact := !sameVal v r
    let under := inexact && (valLt false r.abs (minNormal f) || (valLt false v.abs (minNormal f) && tiny))
    (b, (if inexact then ffInexact else 0) ||| (if under then ffUnderflow else 0))
  | _, _ => (b, 0)

/-- Invalid where an operation on operands that are not NaN has none for a result. -/
def invalidIf (xs : List Val) (r : Val) : Nat := if r.isNaN && xs.all (fun x => !x.isNaN) then ffInvalid else 0

/-- One operation on patterns of a format: result pattern and conditions. -/
abbrev FpOp := FloatFmt → Bool → Nat → Nat → Nat × Nat

def fpArith (op : Val → Val → Val) : FpOp := fun f tiny x y =>
  let a := decodeFloat f x
  let b := decodeFloat f y
  let r := op a b
  let p := roundFlags f tiny r
  (p.1, p.2 ||| invalidIf [a, b] r)

def fpDiv : FpOp := fun f tiny x y =>
  let a := decodeFloat f x
  let b := decodeFloat f y
  let p := fpArith divSticky f tiny x y
  let dz := b.isZero && !a.isZero && (match a with | .fin _ _ _ => true | _ => false)
  (p.1, p.2 ||| (if dz then ffDivZero else 0))

def fpSqrt : FpOp := fun f tiny x _ =>
  let a := decodeFloat f x
  let r := sqrtSticky a
  let p := roundFlags f tiny r
  (p.1, p.2 ||| invalidIf [a] r)

/-- FMIN and FMAX give one of their operands, or the canonical NaN (R122). -/
def fpPick (op : Val → Val → Val) : FpOp := fun f _ x y =>
  ((convFloat f true .nearest true (op (decodeFloat f x) (decodeFloat f y))).1, 0)

def fpCmp (op : Val → Val → Bool) (f : FloatFmt) (x y : Nat) : Bool := op (decodeFloat f x) (decodeFloat f y)

def valLe (a b : Val) : Bool := valLt false a b || valEq a b

/-! ## Operands and results -/

def ruleF64 (a b : Tag) : Option Tag := if a = .f64 ∧ b = .f64 then some .f64 else none
def ruleF32 (a b : Tag) : Option Tag := if a = .f32p ∧ b = .f32p then some .f32p else none

/-- Lane k of a pair. -/
def lane (x : Word) (k : Nat) : Nat := x.toNat / 2 ^ (32 * k) % 2 ^ 32

def pair (l0 l1 : Nat) : Word := BitVec.ofNat 64 (l0 % 2 ^ 32 + l1 % 2 ^ 32 * 2 ^ 32)

/-- A result with its conditions: the register and FFLAGS written, and a free choice used for tininess. -/
def Chip.fpWrite (d : Chip) (n : Fin 16) (rd : Fin 32) (v : Word) (t : Tag) (fl : Nat) : IOut :=
  .next ((d.setCore n ({ d.core n with fflags := (d.core n).fflags ||| fl }.setReg rd ⟨v, t⟩)).takeFree)

/-- The free choice of when tininess is detected, for lane k. -/
def Chip.tiny (d : Chip) (k : Nat) : Bool := bitOf (Config.freeNat d.free) k

def opD (op : FpOp) (tiny : Nat → Bool) (x y : Word) : Word × Nat :=
  let r := op fmtF64 (tiny 0) x.toNat y.toNat
  (BitVec.ofNat 64 r.1, r.2)

def opS (op : FpOp) (tiny : Nat → Bool) (x y : Word) : Word × Nat :=
  let a := op fmtF32 (tiny 0) (lane x 0) (lane y 0)
  let b := op fmtF32 (tiny 1) (lane x 1) (lane y 1)
  (pair a.1 b.1, a.2 ||| b.2)

/-- A two-operand instruction on F64 values, or on the lanes of F32P pairs. -/
def Chip.fp2 (d : Chip) (n : Fin 16) (rd rs1 rs2 : Fin 32) (rule : Tag → Tag → Option Tag)
    (op : (Nat → Bool) → Word → Word → Word × Nat) : Chip :=
  d.insn n [rd] (fun d => d.typed2 n rs1 rs2 rule (fun x y t =>
    let r := op d.tiny x y
    d.fpWrite n rd r.1 t r.2))

/-- A one-operand instruction. -/
def Chip.fp1 (d : Chip) (n : Fin 16) (rd rs1 : Fin 32) (tIn tOut : Tag) (op : (Nat → Bool) → Word → Word × Nat) : Chip :=
  d.insn n [rd] (fun d => d.typed1 n rs1 [tIn] (fun x =>
    let r := op d.tiny x.v
    d.fpWrite n rd r.1 tOut r.2))

/-- A compare: 1 or 0, or one bit a lane, as INT. -/
def Chip.fpCompare (d : Chip) (n : Fin 16) (rd rs1 rs2 : Fin 32) (rule : Tag → Tag → Option Tag) (op : Word → Word → Word) : Chip :=
  d.insn n [rd] (fun d => d.typed2 n rs1 rs2 rule (fun x y _ => d.writes n rd (op x y) .int))

def cmpD (op : Val → Val → Bool) (x y : Word) : Word := if fpCmp op fmtF64 x.toNat y.toNat then 1 else 0

def cmpS (op : Val → Val → Bool) (x y : Word) : Word :=
  BitVec.ofNat 64 (b2n (fpCmp op fmtF32 (lane x 0) (lane y 0)) + 2 * b2n (fpCmp op fmtF32 (lane x 1) (lane y 1)))

/-! ## The instructions -/

def execFaddD (n : Fin 16) (rd rs1 rs2 : Fin 32) (s : State) : Out := s.on (fun d => d.fp2 n rd rs1 rs2 ruleF64 (opD (fpArith addExact)))

def execFaddS (n : Fin 16) (rd rs1 rs2 : Fin 32) (s : State) : Out := s.on (fun d => d.fp2 n rd rs1 rs2 ruleF32 (opS (fpArith addExact)))

def execFsubD (n : Fin 16) (rd rs1 rs2 : Fin 32) (s : State) : Out := s.on (fun d => d.fp2 n rd rs1 rs2 ruleF64 (opD (fpArith (fun a b => addExact a b.neg))))

def execFsubS (n : Fin 16) (rd rs1 rs2 : Fin 32) (s : State) : Out := s.on (fun d => d.fp2 n rd rs1 rs2 ruleF32 (opS (fpArith (fun a b => addExact a b.neg))))

def execFmulD (n : Fin 16) (rd rs1 rs2 : Fin 32) (s : State) : Out := s.on (fun d => d.fp2 n rd rs1 rs2 ruleF64 (opD (fpArith mulExact)))

def execFmulS (n : Fin 16) (rd rs1 rs2 : Fin 32) (s : State) : Out := s.on (fun d => d.fp2 n rd rs1 rs2 ruleF32 (opS (fpArith mulExact)))

def execFdivD (n : Fin 16) (rd rs1 rs2 : Fin 32) (s : State) : Out := s.on (fun d => d.fp2 n rd rs1 rs2 ruleF64 (opD fpDiv))

def execFdivS (n : Fin 16) (rd rs1 rs2 : Fin 32) (s : State) : Out := s.on (fun d => d.fp2 n rd rs1 rs2 ruleF32 (opS fpDiv))

def execFminD (n : Fin 16) (rd rs1 rs2 : Fin 32) (s : State) : Out := s.on (fun d => d.fp2 n rd rs1 rs2 ruleF64 (opD (fpPick valMin)))

def execFminS (n : Fin 16) (rd rs1 rs2 : Fin 32) (s : State) : Out := s.on (fun d => d.fp2 n rd rs1 rs2 ruleF32 (opS (fpPick valMin)))

def execFmaxD (n : Fin 16) (rd rs1 rs2 : Fin 32) (s : State) : Out := s.on (fun d => d.fp2 n rd rs1 rs2 ruleF64 (opD (fpPick valMax)))

def execFmaxS (n : Fin 16) (rd rs1 rs2 : Fin 32) (s : State) : Out := s.on (fun d => d.fp2 n rd rs1 rs2 ruleF32 (opS (fpPick valMax)))

def execFsqrtD (n : Fin 16) (rd rs1 : Fin 32) (s : State) : Out := s.on (fun d => d.fp1 n rd rs1 .f64 .f64 (fun t x => opD fpSqrt t x x))

def execFsqrtS (n : Fin 16) (rd rs1 : Fin 32) (s : State) : Out := s.on (fun d => d.fp1 n rd rs1 .f32p .f32p (fun t x => opS fpSqrt t x x))

def execFeqD (n : Fin 16) (rd rs1 rs2 : Fin 32) (s : State) : Out := s.on (fun d => d.fpCompare n rd rs1 rs2 ruleF64 (cmpD valEq))

def execFeqS (n : Fin 16) (rd rs1 rs2 : Fin 32) (s : State) : Out := s.on (fun d => d.fpCompare n rd rs1 rs2 ruleF32 (cmpS valEq))

def execFltD (n : Fin 16) (rd rs1 rs2 : Fin 32) (s : State) : Out := s.on (fun d => d.fpCompare n rd rs1 rs2 ruleF64 (cmpD (valLt false)))

def execFltS (n : Fin 16) (rd rs1 rs2 : Fin 32) (s : State) : Out := s.on (fun d => d.fpCompare n rd rs1 rs2 ruleF32 (cmpS (valLt false)))

def execFleD (n : Fin 16) (rd rs1 rs2 : Fin 32) (s : State) : Out := s.on (fun d => d.fpCompare n rd rs1 rs2 ruleF64 (cmpD valLe))

def execFleS (n : Fin 16) (rd rs1 rs2 : Fin 32) (s : State) : Out := s.on (fun d => d.fpCompare n rd rs1 rs2 ruleF32 (cmpS valLe))

/-- INT to F64, nearest-even. -/
def cvtDI (t : Nat → Bool) (x : Word) : Word × Nat :=
  let r := roundFlags fmtF64 (t 0) (Val.ofInt x.toInt)
  (BitVec.ofNat 64 r.1, r.2)

/-- F64 to INT, nearest-even, saturating; NaN gives 0; both set the invalid condition. -/
def cvtID (x : Word) : Word × Nat :=
  match decodeFloat fmtF64 x.toNat with
  | .nan => (0, ffInvalid)
  | .inf neg => (BitVec.ofInt 64 (if neg then -(2 ^ 63) else 2 ^ 63 - 1), ffInvalid)
  | .fin neg m e =>
    let q : Int := quantise .nearest m e 0
    let i := if neg then -q else q
    if i < -(2 ^ 63) then (BitVec.ofInt 64 (-(2 ^ 63)), ffInvalid)
    else if i > 2 ^ 63 - 1 then (BitVec.ofInt 64 (2 ^ 63 - 1), ffInvalid)
    else (BitVec.ofInt 64 i, if sameVal (.fin neg m e) (Val.ofInt i) then 0 else ffInexact)

/-- Two F64 values, each rounded to FP32. -/
def cvtSD (t : Nat → Bool) (x y : Word) : Word × Nat :=
  let a := roundFlags fmtF32 (t 0) (decodeFloat fmtF64 x.toNat)
  let b := roundFlags fmtF32 (t 1) (decodeFloat fmtF64 y.toNat)
  (pair a.1 b.1, a.2 ||| b.2)

/-- One lane to F64, exactly. -/
def cvtDS (k : Nat) (x : Word) : Word × Nat :=
  (BitVec.ofNat 64 (convFloat fmtF64 true .nearest true (decodeFloat fmtF32 (lane x k))).1, 0)

def execCvtDI (n : Fin 16) (rd rs1 : Fin 32) (s : State) : Out := s.on (fun d => d.fp1 n rd rs1 .int .f64 cvtDI)

def execCvtID (n : Fin 16) (rd rs1 : Fin 32) (s : State) : Out := s.on (fun d => d.fp1 n rd rs1 .f64 .int (fun _ x => cvtID x))

def execCvtSD (n : Fin 16) (rd rs1 rs2 : Fin 32) (s : State) : Out :=
  s.on (fun d => d.fp2 n rd rs1 rs2 (fun a b => (ruleF64 a b).map (fun _ => .f32p)) cvtSD)

def execCvtDS0 (n : Fin 16) (rd rs1 : Fin 32) (s : State) : Out := s.on (fun d => d.fp1 n rd rs1 .f32p .f64 (fun _ x => cvtDS 0 x))

def execCvtDS1 (n : Fin 16) (rd rs1 : Fin 32) (s : State) : Out := s.on (fun d => d.fp1 n rd rs1 .f32p .f64 (fun _ x => cvtDS 1 x))

end Sys2Proof.Machine
end

