-- ==== Sys2Proof/Machine/ArmInt.lean ====
section
/-! DEFINITION. The integer and constant instructions of an Armature core (R316), with the tag rules of R305. -/
namespace Sys2Proof.Machine
open Sys2Proof

/-! ## Tag rules (R305) -/

def ruleAdd (a b : Tag) : Option Tag :=
  match a, b with
  | .int, .int => some .int
  | .ptr, .int => some .ptr
  | .int, .ptr => some .ptr
  | _, _ => none

def ruleSub (a b : Tag) : Option Tag :=
  match a, b with
  | .int, .int => some .int
  | .ptr, .int => some .ptr
  | .ptr, .ptr => some .int
  | _, _ => none

/-- Both INT, the result INT. -/
def ruleInt (a b : Tag) : Option Tag := if a = .int ∧ b = .int then some .int else none

/-- Both INT, both PTR or both SEQ; the result INT. -/
def ruleOrder (a b : Tag) : Option Tag := if a = b ∧ (a = .int ∨ a = .ptr ∨ a = .seq) then some .int else none

/-! ## The operations -/

/-- An instruction of two register operands under a tag rule. -/
def Chip.alu (d : Chip) (n : Fin 16) (rd rs1 rs2 : Fin 32) (rule : Tag → Tag → Option Tag) (f : Word → Word → Word) : Chip :=
  d.insn n [rd] (fun d => d.typed2 n rs1 rs2 rule (fun x y t => d.writes n rd (f x y) t))

/-- An instruction of one register operand and an immediate. -/
def Chip.aluImm (d : Chip) (n : Fin 16) (rd rs1 : Fin 32) (imm : BitVec 15) (rule : Tag → Tag → Option Tag)
    (f : Word → Word → Word) : Chip :=
  d.insn n [rd] (fun d => d.read1 n rs1 (fun x =>
    match rule x.t .int with
    | some t => d.writes n rd (f x.v (imm.signExtend 64)) t
    | none => .trap d tTAG_TYPE rs1 false))

/-- A division: a divisor of 0 traps. -/
def Chip.aluDiv (d : Chip) (n : Fin 16) (rd rs1 rs2 : Fin 32) (f : Word → Word → Word) : Chip :=
  d.insn n [rd] (fun d => d.typed2 n rs1 rs2 ruleInt (fun x y t =>
    if y = 0 then .trap d tDIV_ZERO 0 false else d.writes n rd (f x y) t))

def boolWord (b : Bool) : Word := if b then 1 else 0

/-- The high 64 bits of a signed product. -/
def mulHigh (x y : Word) : Word := ((x.signExtend 128) * (y.signExtend 128)).extractLsb' 64 64

def mulHighU (x y : Word) : Word := ((x.setWidth 128) * (y.setWidth 128)).extractLsb' 64 64

def shlOp (x y : Word) : Word := x <<< (y.toNat % 64)
def shrOp (x y : Word) : Word := x >>> (y.toNat % 64)
def sarOp (x y : Word) : Word := x.sshiftRight (y.toNat % 64)
def minS (x y : Word) : Word := if x.slt y then x else y
def maxS (x y : Word) : Word := if x.slt y then y else x
def minU (x y : Word) : Word := if x.ult y then x else y
def maxU (x y : Word) : Word := if x.ult y then y else x

/-! ## The instructions -/

def execAdd (n : Fin 16) (rd rs1 rs2 : Fin 32) (s : State) : Out := s.on (fun d => d.alu n rd rs1 rs2 ruleAdd (· + ·))

def execSub (n : Fin 16) (rd rs1 rs2 : Fin 32) (s : State) : Out := s.on (fun d => d.alu n rd rs1 rs2 ruleSub (· - ·))

def execAndInsn (n : Fin 16) (rd rs1 rs2 : Fin 32) (s : State) : Out := s.on (fun d => d.alu n rd rs1 rs2 ruleInt (· &&& ·))

def execOrInsn (n : Fin 16) (rd rs1 rs2 : Fin 32) (s : State) : Out := s.on (fun d => d.alu n rd rs1 rs2 ruleInt (· ||| ·))

def execXorInsn (n : Fin 16) (rd rs1 rs2 : Fin 32) (s : State) : Out := s.on (fun d => d.alu n rd rs1 rs2 ruleInt (· ^^^ ·))

def execShl (n : Fin 16) (rd rs1 rs2 : Fin 32) (s : State) : Out := s.on (fun d => d.alu n rd rs1 rs2 ruleInt shlOp)

def execShr (n : Fin 16) (rd rs1 rs2 : Fin 32) (s : State) : Out := s.on (fun d => d.alu n rd rs1 rs2 ruleInt shrOp)

def execSar (n : Fin 16) (rd rs1 rs2 : Fin 32) (s : State) : Out := s.on (fun d => d.alu n rd rs1 rs2 ruleInt sarOp)

def execSlt (n : Fin 16) (rd rs1 rs2 : Fin 32) (s : State) : Out := s.on (fun d => d.alu n rd rs1 rs2 ruleInt (fun x y => boolWord (x.slt y)))

def execSltu (n : Fin 16) (rd rs1 rs2 : Fin 32) (s : State) : Out := s.on (fun d => d.alu n rd rs1 rs2 ruleOrder (fun x y => boolWord (x.ult y)))

def execMinInsn (n : Fin 16) (rd rs1 rs2 : Fin 32) (s : State) : Out := s.on (fun d => d.alu n rd rs1 rs2 ruleInt minS)

def execMaxInsn (n : Fin 16) (rd rs1 rs2 : Fin 32) (s : State) : Out := s.on (fun d => d.alu n rd rs1 rs2 ruleInt maxS)

def execMinu (n : Fin 16) (rd rs1 rs2 : Fin 32) (s : State) : Out := s.on (fun d => d.alu n rd rs1 rs2 ruleOrder minU)

def execMaxu (n : Fin 16) (rd rs1 rs2 : Fin 32) (s : State) : Out := s.on (fun d => d.alu n rd rs1 rs2 ruleOrder maxU)

def execMul (n : Fin 16) (rd rs1 rs2 : Fin 32) (s : State) : Out := s.on (fun d => d.alu n rd rs1 rs2 ruleInt (· * ·))

def execMulh (n : Fin 16) (rd rs1 rs2 : Fin 32) (s : State) : Out := s.on (fun d => d.alu n rd rs1 rs2 ruleInt mulHigh)

def execMulhu (n : Fin 16) (rd rs1 rs2 : Fin 32) (s : State) : Out := s.on (fun d => d.alu n rd rs1 rs2 ruleInt mulHighU)

def execDiv (n : Fin 16) (rd rs1 rs2 : Fin 32) (s : State) : Out := s.on (fun d => d.aluDiv n rd rs1 rs2 BitVec.sdiv)

def execDivu (n : Fin 16) (rd rs1 rs2 : Fin 32) (s : State) : Out := s.on (fun d => d.aluDiv n rd rs1 rs2 (· / ·))

def execRem (n : Fin 16) (rd rs1 rs2 : Fin 32) (s : State) : Out := s.on (fun d => d.aluDiv n rd rs1 rs2 BitVec.srem)

def execRemu (n : Fin 16) (rd rs1 rs2 : Fin 32) (s : State) : Out := s.on (fun d => d.aluDiv n rd rs1 rs2 (· % ·))

def execAddi (n : Fin 16) (rd rs1 : Fin 32) (imm : BitVec 15) (s : State) : Out := s.on (fun d => d.aluImm n rd rs1 imm ruleAdd (· + ·))

def execAndi (n : Fin 16) (rd rs1 : Fin 32) (imm : BitVec 15) (s : State) : Out := s.on (fun d => d.aluImm n rd rs1 imm ruleInt (· &&& ·))

def execOri (n : Fin 16) (rd rs1 : Fin 32) (imm : BitVec 15) (s : State) : Out := s.on (fun d => d.aluImm n rd rs1 imm ruleInt (· ||| ·))

def execXori (n : Fin 16) (rd rs1 : Fin 32) (imm : BitVec 15) (s : State) : Out := s.on (fun d => d.aluImm n rd rs1 imm ruleInt (· ^^^ ·))

def execSlti (n : Fin 16) (rd rs1 : Fin 32) (imm : BitVec 15) (s : State) : Out := s.on (fun d => d.aluImm n rd rs1 imm ruleInt (fun x y => boolWord (x.slt y)))

def execSltiu (n : Fin 16) (rd rs1 : Fin 32) (imm : BitVec 15) (s : State) : Out := s.on (fun d => d.aluImm n rd rs1 imm ruleOrder (fun x y => boolWord (x.ult y)))

/-- SHI: amount in bits 5:0, kind in 7:6 (0 SHL, 1 SHR, 2 SAR); kind 3 and nonzero bits 14:8 are ILLEGAL (R315). -/
def execShi (n : Fin 16) (rd rs1 : Fin 32) (imm : BitVec 15) (s : State) : Out :=
  s.on (fun d => d.insn n [rd] (fun d =>
    let k := imm.toNat / 64
    let f : Word → Word → Word := if k = 0 then shlOp else if k = 1 then shrOp else sarOp
    if k > 2 then d.illegal (wordI 0x08 imm.toNat rs1 rd)
    else d.typed1 n rs1 [.int] (fun x => d.writes n rd (f x.v (BitVec.ofNat 64 (imm.toNat % 64))) .int)))

/-- LUI: IMM20 × 2^12, sign-extended. -/
def execLui (n : Fin 16) (rd : Fin 32) (imm : BitVec 20) (s : State) : Out :=
  s.on (fun d => d.insn n [rd] (fun d => d.writes n rd ((imm ++ (0 : BitVec 12)).signExtend 64) .int))

/-- LUIH: bits 63:32 of rd, from IMM20 zero-extended; it reads rd. -/
def execLuih (n : Fin 16) (rd : Fin 32) (imm : BitVec 20) (s : State) : Out :=
  s.on (fun d => d.insn n [rd] (fun d => d.typed1 n rd [.int] (fun x =>
    d.writes n rd ((imm.setWidth 32) ++ (x.v.setWidth 32 : BitVec 32)) .int)))

end Sys2Proof.Machine
end

