-- ==== Sys2Proof/Machine/ArmSys.lean ====
section
/-! DEFINITION. Tag, accumulator and system instructions of an Armature core (R306, R323, R324, R340 to R345), interrupts and the
return of load data (R336, R343). -/
namespace Sys2Proof.Machine
open Sys2Proof

/-! ## Tags (R306, R323) -/

def execMov (n : Fin 16) (rd rs1 : Fin 32) (s : State) : Out :=
  s.on (fun d => d.insn n [rd] (fun d => d.read1 n rs1 (fun x => d.writes n rd x.v x.t)))

def execTagof (n : Fin 16) (rd rs1 : Fin 32) (s : State) : Out :=
  s.on (fun d => d.insn n [rd] (fun d => d.writes n rd (BitVec.ofNat 64 ((d.core n).reg rs1).t.code) .int))

/-- The conversions R306 allows. -/
def retagOk (a b : Tag) : Bool :=
  match a, b with
  | .int, .ptr | .int, .f64 | .int, .f32p => true
  | .ptr, .int | .f64, .int | .f32p, .int | .seq, .int | .desc, .int => true
  | a, b => a = b && b ≠ .nul

/-- A new tag of DESC, SEQ or KEYH, or a KEYH source, is forging, whatever the source's tag. -/
def retagForges (a b : Tag) : Bool := a = .keyh || b = .desc || b = .seq || b = .keyh

def execRetag (n : Fin 16) (rd rs1 : Fin 32) (tag : Fin 32) (s : State) : Out :=
  s.on (fun d => d.insn n [rd] (fun d =>
    match Tag.ofCode tag with
    | none => d.illegal (wordR 0x31 2 tag rs1 rd)
    | some t => d.read1 n rs1 (fun x =>
      if retagForges x.t t then .trap d tTAG_FORGE rs1 false
      else if retagOk x.t t then d.writes n rd x.v t
      else .trap d tTAG_TYPE rs1 false)))

def execClr (n : Fin 16) (rd : Fin 32) (s : State) : Out :=
  s.on (fun d => d.insn n [rd] (fun d => d.writes n rd 0 .nul))

/-! ## Accumulators (R323, R334) -/

/-- Whether a MACD into an accumulator is outstanding. -/
def ArmCore.accBusy (c : ArmCore) (k : Fin 4) : Bool := c.macds.any (fun m => m.acc = k)

def execAcz (n : Fin 16) (acc : Fin 4) (s : State) : Out :=
  s.on (fun d => d.insn n [] (fun d =>
    if (d.core n).accBusy acc then .stall else d.thenCore n (fun c => c.setAccum acc 0)))

/-- Half HALF of an accumulator: bits 63:0 or 127:64. -/
def accHalf (v : BitVec 128) (half : Bool) : Word := v.extractLsb' (if half then 64 else 0) 64

def withHalf (v : BitVec 128) (half : Bool) (x : Word) : BitVec 128 :=
  if half then x ++ (v.extractLsb' 0 64 : Word) else (v.extractLsb' 64 64 : Word) ++ x

def Chip.acrd (d : Chip) (n : Fin 16) (rd : Fin 32) (acc : Fin 4) (half : Bool) (t : Tag) : Chip :=
  d.insn n [rd] (fun d =>
    if (d.core n).accBusy acc then .stall else d.writes n rd (accHalf ((d.core n).accum acc) half) t)

def execAcrdD (n : Fin 16) (rd : Fin 32) (acc : Fin 4) (half : Bool) (s : State) : Out := s.on (fun d => d.acrd n rd acc half .f64)

def execAcrdI (n : Fin 16) (rd : Fin 32) (acc : Fin 4) (half : Bool) (s : State) : Out := s.on (fun d => d.acrd n rd acc half .int)

def execAcwr (n : Fin 16) (acc : Fin 4) (half : Bool) (rs1 : Fin 32) (s : State) : Out :=
  s.on (fun d => d.insn n [] (fun d => d.typed1 n rs1 [.int, .f64] (fun x =>
    if (d.core n).accBusy acc then .stall
    else d.thenCore n (fun c => c.setAccum acc (withHalf (c.accum acc) half x.v)))))

/-! ## Control and status registers (R324, R339, R345) -/

def wordOf (x : Nat) : Word := BitVec.ofNat 64 x

/-- The value a CSR reads as, with its tag; none for an undefined CSR. CYCLE is a free value, since timing is not modelled. -/
def Chip.csrRead (d : Chip) (n : Fin 16) (k : Nat) : Option TVal :=
  let c := d.core n
  let int (x : Nat) : Option TVal := some ⟨wordOf x, .int⟩
  if 0x010 ≤ k ∧ k ≤ 0x01F then some ⟨(tget c.rs (k - 0x010)).getD 0, .int⟩
  else match k with
    | 0x000 => int (b2n c.ie + b2n c.pie * 2 + b2n c.intrap * 4)
    | 0x001 => int c.rsmode
    | 0x002 => some ⟨c.tvec, .int⟩
    | 0x003 => some ⟨c.epc, .int⟩
    | 0x004 => some ⟨c.cause, .int⟩
    | 0x005 => some ⟨c.tval, .int⟩
    | 0x006 => some c.scr0
    | 0x007 => some c.scr1
    | 0x008 => int (c.ldReg + c.ldTag * 2 ^ 5 + b2n c.ldValid * 2 ^ 9)
    | 0x009 => some ⟨c.ldVal, .int⟩
    | 0x00A => int (c.rsDepth + c.rsPtr * 2 ^ 8)
    | 0x020 => int c.fflags
    | 0x021 => int c.planctx
    | 0x030 => int n
    | 0x031 => some ⟨Config.freeWord d.free, .int⟩
    | 0x032 => int c.instret
    | 0x033 => int d.tick
    | 0x034 => int c.wmask
    | 0x040 => int (c.ien + 16)
    | 0x041 => int c.ipend
    | _ => none

/-- Whether a CSR may be written. -/
def csrWritable (k : Nat) : Bool :=
  k ≤ 0x00A || (0x010 ≤ k && k ≤ 0x01F) || k = 0x020 || k = 0x021 || k = 0x040 || k = 0x041

/-- A CSR written: reserved bits read 0, and a reserved value leaves its field unchanged (R8). -/
def ArmCore.csrWrite (c : ArmCore) (k : Nat) (x : TVal) : ArmCore :=
  let v := x.v.toNat
  if 0x010 ≤ k ∧ k ≤ 0x01F then { c with rs := tput c.rs (k - 0x010) x.v }
  else match k with
    | 0x000 => { c with ie := bitOf v 0, pie := bitOf v 1, intrap := bitOf v 2 }
    | 0x001 => if v % 4 = 3 then c else { c with rsmode := v % 4, rsDepth := 0 }
    | 0x002 => { c with tvec := wordOf (v / 4 * 4) }
    | 0x003 => { c with epc := x.v }
    | 0x004 => { c with cause := wordOf (v % 2 ^ 8 + v / 2 ^ 28 % 2 ^ 4 * 2 ^ 28) }
    | 0x005 => { c with tval := x.v }
    | 0x006 => { c with scr0 := x }
    | 0x007 => { c with scr1 := x }
    | 0x008 => { c with ldReg := v % 32, ldTag := v / 32 % 16, ldValid := bitOf v 9 }
    | 0x009 => { c with ldVal := x.v }
    | 0x00A => { c with rsDepth := if v % 32 ≤ 16 then v % 32 else c.rsDepth, rsPtr := v / 2 ^ 8 % 16 }
    | 0x020 => { c with fflags := v % 32 }
    | 0x021 => { c with planctx := v % 0x1_0000 }
    | 0x040 => { c with ien := v % 16 }
    | 0x041 => { c with ipend := c.ipend - (c.ipend &&& (v % 32)) }
    | _ => c

/-- The tags an operand of a CSR write may have (R305). -/
def csrTags (k : Nat) : List Tag :=
  if k = 0x006 ∨ k = 0x007 then [.int, .f64, .f32p, .ptr, .desc, .seq, .keyh] else [.int, .ptr]

def execCsrr (n : Fin 16) (rd : Fin 32) (csr : Fin 4096) (s : State) : Out :=
  s.on (fun d => d.insn n [rd] (fun d =>
    match d.csrRead n csr with
    | some x => .next ((d.setCore n ((d.core n).setReg rd x)).takeFree)
    | none => d.illegal (wordI 0x50 csr 0 rd)))

/-- CSRW, CSRS and CSRC: the written value is made of the old one and the operand; rd receives the old value. -/
def Chip.csrUpdate (d : Chip) (n : Fin 16) (rd : Fin 32) (csr : Fin 4096) (rs1 : Fin 32) (sub : Nat) (f : Word → Word → Word) : Chip :=
  d.insn n [rd] (fun d =>
    if !csrWritable csr then d.illegal (wordI 0x50 (csr + sub * 2 ^ 12) rs1 rd)
    else d.typed1 n rs1 (csrTags csr) (fun x =>
      let old := (d.csrRead n csr).getD {}
      d.thenCore n (fun c => (c.csrWrite csr ⟨f old.v x.v, x.t⟩).setReg rd old)))

def execCsrw (n : Fin 16) (csr : Fin 4096) (rs1 : Fin 32) (s : State) : Out :=
  s.on (fun d => d.csrUpdate n 0 csr rs1 1 (fun _ x => x))

def execCsrs (n : Fin 16) (rd : Fin 32) (csr : Fin 4096) (rs1 : Fin 32) (s : State) : Out :=
  s.on (fun d => d.csrUpdate n rd csr rs1 2 (fun o x => o ||| x))

def execCsrc (n : Fin 16) (rd : Fin 32) (csr : Fin 4096) (rs1 : Fin 32) (s : State) : Out :=
  s.on (fun d => d.csrUpdate n rd csr rs1 3 (fun o x => o &&& ~~~x))

/-! ## Traps and interrupts (R340 to R344) -/

/-- ERET: IE from PIE, INTRAP cleared, on at EPC. With LDPEND.VALID the instruction there is again a load's slot, the held data
following it (R337); a reserved tag in LDPEND is ILLEGAL (R303). -/
def execEret (n : Fin 16) (s : State) : Out :=
  s.on (fun d => d.insn n [] (fun d =>
    let c := d.core n
    let c' := { c with ie := c.pie, intrap := false }
    if !c.ldValid then .jump (d.setCore n c') c.epc.toNat
    else match Tag.ofCode c.ldTag with
      | none => d.illegal (wordR 0x51 0 0 0 0)
      | some t =>
        let l : InFlight := ⟨⟨c.ldReg % 32, Nat.mod_lt _ (by decide)⟩, ⟨c.ldVal, t⟩, false, true, true⟩
        .jump (d.setCore n { c' with loads := c.loads ++ [l] }) c.epc.toNat) 4)

/-- FENCE waits for earlier loads to return; stores are complete at once in this model. -/
def execFenceInsn (n : Fin 16) (s : State) : Out :=
  s.on (fun d => d.insn n [] (fun d => if (d.core n).loads.any (fun l => !l.ready) then .stall else .next d))

/-- IFENCE: code written earlier is what is fetched from here on (R313). -/
def execIfenceInsn (n : Fin 16) (s : State) : Out :=
  s.on (fun d => d.insn n [] (fun d => d.thenCore n (fun c => { c with codeStale := false })))

def execWaite (n : Fin 16) (s : State) : Out :=
  s.on (fun d => d.insn n [] (fun d =>
    let c := d.core n
    if c.ipend &&& (c.ien + 16) = 0 then .stall else .next d))

def execTrap (n : Fin 16) (code : Fin 1024) (s : State) : Out :=
  s.on (fun d => d.insn n [] (fun d => .trap d tSOFT code false))

def execBrk (n : Fin 16) (s : State) : Out :=
  s.on (fun d => d.insn n [] (fun d => .trap d tBREAK (d.core n).pc.toNat false))

/-- The interrupt a core would take now (R343, R622): NMI first, held while INTRAP is set, then the lowest enabled bit. -/
def ArmCore.interrupt (c : ArmCore) : Option Nat :=
  if bitOf c.ipend 4 ∧ !c.intrap then some 4
  else if c.ie then (List.range 4).find? (fun b => bitOf c.ipend b && bitOf c.ien b)
  else none

/-- An interrupt taken between instructions, not between a load and its slot (R336). -/
def execInterruptTaken (n : Fin 16) (s : State) : Out :=
  s.on (fun d =>
    let c := d.core n
    if !d.coreRuns n || c.inSlot then d
    else match c.interrupt with
      | some b => d.armTrap n (0x20 + b) 0 false false true
      | none => d)

/-! ## The return of a load's data (R336) -/

/-- The data of the oldest load that waits for it: kept until the slot has issued, else written to the destination. -/
def ArmCore.dataBack (c : ArmCore) : List InFlight → List InFlight → ArmCore
  | _, [] => c
  | before, l :: rest =>
    if l.ready then c.dataBack (before ++ [l]) rest
    else if l.slotDone then { c with loads := before ++ rest }.setReg l.rd l.val
    else { c with loads := before ++ { l with ready := true } :: rest }

def execLoadDataReturn (n : Fin 16) (s : State) : Out :=
  s.on (fun d => d.setCore n ((d.core n).dataBack [] (d.core n).loads))

end Sys2Proof.Machine
end

