-- ==== Sys2Proof/Machine/BarMap.lean ====
section
/-! DEFINITION. The register map as accesses see it: the fields that lie in a 32-bit word of BAR0 (R4, R10). -/
namespace Sys2Proof.Machine
open Sys2Proof

/-- The array indices of a register whose bytes cover an offset. -/
def rowIndex (r : Reg.Row) (off : Nat) : Option (Nat × Nat) :=
  if off < r.base then none
  else
    let o := off - r.base
    match r.dims with
    | [] => if o < r.size / 8 then some (0, 0) else none
    | (n, s) :: rest =>
      let i := o / s
      let o := o % s
      if i ≥ n then none
      else match rest with
        | [] => if o < r.size / 8 then some (i, 0) else none
        | (m, t) :: _ => if o / t < m ∧ o % t < r.size / 8 then some (i, o / t) else none

/-- The bit at which a field begins within BAR0, without its function. -/
def fieldBit (f : Fld) : Nat := f.bit % fnStride

/-- A field met by an access: its row and its descriptor. -/
structure Met where
  row : Reg.FldRow
  fld : Fld
  reg : String

/-- The fields that have bits in the 32-bit word at an offset, for a physical function. -/
def metIn (fn off : Nat) : List Met :=
  Reg.rows.flatMap (fun r =>
    match rowIndex r off with
    | none => []
    | some i => r.flds.filterMap (fun f =>
        let x := f.fld (if r.perFn then fn else 0) i
        if fieldBit x < 8 * off + 32 ∧ 8 * off < fieldBit x + x.w then some ⟨f, x, r.name⟩ else none))

/-- The part of a field's value that lies in the 32-bit word at an offset, in its place. -/
def inWord (f : Fld) (off v : Nat) : Nat :=
  if fieldBit f ≥ 8 * off then v * 2 ^ (fieldBit f - 8 * off) % 2 ^ 32 else v / 2 ^ (8 * off - fieldBit f) % 2 ^ 32

/-- Bits of a 64-bit access at an offset that belong to a field, as bits of the field; the value is taken likewise. -/
def fieldPart (f : Fld) (off v : Nat) : Nat :=
  if fieldBit f ≥ 8 * off then v / 2 ^ (fieldBit f - 8 * off) % 2 ^ f.w else v * 2 ^ (8 * off - fieldBit f) % 2 ^ f.w

/-- A field's bits under a mask replaced. -/
def masked (old v m : Nat) : Nat := old - (old &&& m) + (v &&& m)

/-- Whether a field is a counter: 48 bits, read-only, and not a checkpoint log position (R659). -/
def Met.counter (m : Met) : Bool := m.fld.w = 48 && m.row.acc = .ro && !(0xF01000 ≤ fieldBit m.fld / 8 && fieldBit m.fld / 8 < 0xF02000)

/-- The fields met by an access of 32 or 64 bits, each once. -/
def metAccess (fn off : Nat) (wide : Bool) : List Met :=
  let a := metIn fn off
  if wide then a ++ (metIn fn (off + 4)).filter (fun m => a.all (fun x => x.fld.bit ≠ m.fld.bit)) else a

end Sys2Proof.Machine
end

