-- ==== Sys2Proof/Machine/Maquette.lean ====
section
/-! DEFINITION. The Maquette (R636 to R643): its records, the checks of R641 and its commit, and stage 1. -/
namespace Sys2Proof.Machine
open Sys2Proof

/-! ## The image (R639, R640) -/

/-- An image read byte by byte, and the number in n bytes at an offset. -/
abbrev Rd := Nat → Nat

def rdNum (rd : Rd) (o n : Nat) : Nat := leNat ((List.range n).map (fun i => rd (o + i)))

def rdZero (rd : Rd) (o n : Nat) : Bool := (List.range n).all (fun i => rd (o + i) = 0)

/-- One record: its type, the offset of its body and its length. -/
structure MaqRec where
  type : Nat
  at_ : Nat
  len : Nat

/-- The records from an offset on; none where a record's header breaks R640 or the image ends before it. -/
def maqRecs (rd : Rd) (last : Nat) : Nat → Nat → Option (List MaqRec)
  | 0, _ => some []
  | k + 1, o =>
    let r : MaqRec := ⟨rdNum rd o 2, o + 8, rdNum rd (o + 2) 2⟩
    if r.type = 0 ∨ r.type > 6 ∨ !rdZero rd (o + 4) 4 ∨ o + 8 + r.len > last then none
    else (maqRecs rd last k (o + 8 + (r.len + 7) / 8 * 8)).map (fun rs => r :: rs)

/-- Entries of n bytes in a record's body. -/
def MaqRec.entries (r : MaqRec) (n : Nat) : List Nat := (List.range (r.len / n)).map (fun i => r.at_ + i * n)

/-- Whether a record's body keeps the reserved fields and encodings of its type. -/
def recOk (rd : Rd) (r : MaqRec) : Bool :=
  match r.type with
  | 1 => r.len % 24 = 0 && (r.entries 24).all (fun o => rdZero rd (o + 4) 4)
  | 2 => r.len = 68 && rd (r.at_ + 2) ≤ 1 && rd (r.at_ + 3) = 0
  | 3 => r.len % 24 = 0 && (r.entries 24).all (fun o => rdZero rd (o + 1) 7 && 1 ≤ rd o && rd o ≤ 12)
  | 4 => r.len % 8 = 0 && (r.entries 8).all (fun o => rdZero rd (o + 1) 3 && rd o ≤ 1 &&
      (let w := rdNum rd (o + 4) 4; bitsOf w 25 3 = 0 && bitsOf w 28 2 = 0 && bitsOf w 30 1 = 0))
  | 5 => 1 ≤ r.len && rd r.at_ < 16
  | _ => r.len = 2

/-- What a Maquette says. -/
structure Maq where
  version : Nat
  board : Nat
  writes : List (Nat × Nat × Nat)
  ring : Option (Nat × Nat × Nat × List Nat × List Nat)
  pools : List (Nat × Nat × Nat)
  remaps : List (Nat × Nat)
  revoke : Nat
  mirror : Option (Nat × Nat)

/-- The Maquette in an image of a length; none where check 1 of R641 fails. -/
def maqOf (rd : Rd) (len : Nat) : Option Maq :=
  if rdNum rd 0 4 ≠ 0x4D41_5154 ∨ rdNum rd 4 2 ≠ 1 ∨ rd 6 ≠ 0xB0 ∨ rd 7 ≠ 0 ∨ !rdZero rd 0x18 0xE4 ∨
      rdNum rd 0xFC 4 ≠ crc32c ((List.range 0xFC).map rd) then none
  else match maqRecs rd len (rdNum rd 0x10 4) 0x100 with
    | none => none
    | some rs =>
      if !rs.all (recOk rd) then none
      else
        let of_ (t : Nat) : List MaqRec := rs.filter (fun r => r.type = t)
        some {
          version := rdNum rd 8 8
          board := rdNum rd 0x14 4
          writes := (of_ 1).flatMap (fun r => (r.entries 24).map (fun o => (rdNum rd o 4, rdNum rd (o + 8) 8, rdNum rd (o + 16) 8)))
          ring := (of_ 2).getLast?.map (fun r => (rd r.at_, rd (r.at_ + 1), rd (r.at_ + 2),
            (List.range 16).map (fun n => rdNum rd (r.at_ + 4 + 4 * n) 2), (List.range 16).map (fun n => rdNum rd (r.at_ + 6 + 4 * n) 2)))
          pools := (of_ 3).flatMap (fun r => (r.entries 24).map (fun o => (rd o, rdNum rd (o + 8) 8, rdNum rd (o + 16) 8)))
          remaps := (of_ 4).flatMap (fun r => (r.entries 8).filterMap (fun o =>
            if bitsOf (rdNum rd (o + 4) 4) 31 1 = 1 then some (rd o, rdNum rd (o + 4) 4 % 2 ^ 25) else none))
          revoke := (of_ 5).foldl (fun (m : Nat) r => m ||| rd r.at_) 0
          mirror := (of_ 6).getLast?.map (fun r => (rd r.at_, rd (r.at_ + 1))) }

/-! ## Register writes (R640) -/

/-- Whether a bit of BAR0 belongs to a field. -/
def covers (f : Fld) (b : Nat) : Bool := fieldBit f ≤ b && b < fieldBit f + f.w

/-- The field the Maquette may write: RW or RWL. -/
def Met.writable (m : Met) : Bool := m.row.acc = .rw || m.row.acc = .rwl

/-- VALUE into the bits of one entry set in MASK; per-function registers take it in PF0's copy. -/
def Chip.maqWrite (d : Chip) (w : Nat × Nat × Nat) : Chip :=
  (metAccess 0 (w.1 / 4 * 4) true).foldl (fun (d : Chip) m =>
    let pm := fieldPart m.fld (w.1 / 4 * 4) w.2.2
    if pm = 0 then d else d.sr m.fld (masked (d.rg m.fld) (fieldPart m.fld (w.1 / 4 * 4) w.2.1) pm)) d

/-- Check 2 of R641 for one entry, on the shadow so far. -/
def Chip.maqWriteBad (d : Chip) (w : Nat × Nat × Nat) : Bool :=
  let off := w.1 / 4 * 4
  let ms := metAccess 0 off true
  w.1 % 4 ≠ 0 || off < 0x8_0000 || 0x130_0000 ≤ off ||
  (List.range 64).any (fun i => bitOf w.2.2 i && !ms.any (fun m => m.writable && covers m.fld (8 * off + i))) ||
  ms.any (fun m => let pm := fieldPart m.fld off w.2.2
    pm ≠ 0 && !m.row.ok (masked (d.rg m.fld) (fieldPart m.fld off w.2.1) pm))

/-- The shadow after every entry; none where an entry is refused. -/
def Chip.maqShadow (d : Chip) : List (Nat × Nat × Nat) → Option Chip
  | [] => some d
  | w :: ws => if d.maqWriteBad w then none else (d.maqWrite w).maqShadow ws

/-- Fault reactions under R619: a fixed source keeps its reactions, and a severe reaction below the normal one leaves both. -/
def Chip.keepReactions (d old : Chip) : Chip :=
  (List.range 768).foldl (fun (d : Chip) s =>
    let r := d.rg (Reg.FLT_SRC_CFG.REACT s)
    let v := d.rg (Reg.FLT_SRC_CFG.SEV_REACT s)
    let r0 := old.rg (Reg.FLT_SRC_CFG.REACT s)
    let v0 := old.rg (Reg.FLT_SRC_CFG.SEV_REACT s)
    if (r = r0 ∧ v = v0) ∨ (old.rg (Reg.FLT_SRC_CFG.FIXED s) = 0 ∧ r ≤ v) then d
    else (d.sr (Reg.FLT_SRC_CFG.REACT s) r0).sr (Reg.FLT_SRC_CFG.SEV_REACT s) v0) d

/-- NVS_QPAIRS: a load whose sum exceeds 4,096 leaves both fields. -/
def Chip.keepPairs (d old : Chip) : Chip :=
  if d.rg Reg.NVS_QPAIRS.PF0 + d.rg Reg.NVS_QPAIRS.PF1 ≤ 4096 then d
  else (d.sr Reg.NVS_QPAIRS.PF0 (old.rg Reg.NVS_QPAIRS.PF0)).sr Reg.NVS_QPAIRS.PF1 (old.rg Reg.NVS_QPAIRS.PF1)

/-- Whether BLOCK_RESET is set for a source of TCK, MEM, PCR or FLT, whose agents refuse it (R619). -/
def Chip.badReaction (d : Chip) : Bool :=
  (List.range 768).any (fun s =>
    (match agentOfSource s with
     | .block .tck => true
     | .block .mem => true
     | .block .pcr => true
     | .block .flt => true
     | _ => false) && (d.rg (Reg.FLT_SRC_CFG.REACT s) = 2 || d.rg (Reg.FLT_SRC_CFG.SEV_REACT s) = 2))

/-! ## The checks of R641 -/

/-- LNK_GROUP_MAP names each of the twelve groups once (R379). -/
def groupMapOk (v : Nat) : Bool :=
  let g := (List.range 12).map (fun p => v / 16 ^ p % 16)
  (List.range 12).all (fun k => g.contains k)

/-- The ranges that base registers name, and the image store. -/
def Chip.baseRanges (d : Chip) : List (Nat × Nat) :=
  [(d.rg Reg.KVA_MAP_BASE.BASE, 0x5000_0000), (d.rg Reg.MEM_PT_BASE.BASE, 0x800_0000), (d.rg Reg.DVT_CTX_BASE.BASE, 0x1000_0000),
   (0x10_5800_0000, 0x600_0000), (d.rg Reg.PKT_EM_BASE.BASE, 0x8000_0000),
   (d.rg Reg.AMT_LOG_CFG.BASE * 0x10_0000, 0x10_0000 * 2 ^ d.rg Reg.AMT_LOG_CFG.SIZE),
   (d.rg Reg.DVT_VIOL_RING.BASE, 32768 * 2 ^ d.rg Reg.DVT_VIOL_RING.SIZE),
   (d.rg (Reg.HIF_BAR2_BASE.BASE 0), 0x1_0000_0000), (d.rg (Reg.HIF_BAR2_BASE.BASE 1), 0x1_0000_0000),
   (d.rg Reg.HIF_FLR_BASE.BASE, 0x2000_0000), (d.rg Reg.NVS_CMB_BASE.BASE, 0x2000_0000),
   (d.rg Reg.PCR_WARM_REPORT.BASE * 0x1_0000, 0x4_0000),
   (d.rg Reg.OBS_TRACE_CFG.BASE * 0x1_0000, 0x10_0000 * 2 ^ d.rg Reg.OBS_TRACE_CFG.SIZE),
   (d.rg Reg.OBS_HANG.BASE, 97 * 64), (d.rg Reg.CAL_CFG.BASE, 131072 * 2 ^ d.rg Reg.CAL_CFG.SIZE)]

/-- The ledger mirror area of a Quarry device (R47): the last 512 MiB of its capacity. -/
def Chip.mirrorArea (d : Chip) (k : Nat) : Nat × Nat :=
  let cap := d.rg (Reg.MEM_QUARRY_CAP.UNITS k) * 0x1000_0000
  (0x100_0000_0000 + k * 0x40_0000_0000 + (cap - 0x2000_0000), if cap < 0x2000_0000 then 0 else 0x2000_0000)

/-- The tier a pool kind lies in (0 Plinth, 1 near tier, 2 Quarry); none for the general pool, which may lie in any. -/
def poolTier (kind : Nat) : Option Nat :=
  match kind with
  | 1 => some 0 | 2 => some 1 | 3 => some 2 | 4 => some 0 | 5 => some 1 | 6 => some 2
  | 7 => some 0 | 8 => some 0 | 9 => some 1 | 10 => some 2 | 11 => some 0 | _ => none

def inTier (t a n : Nat) : Bool :=
  match t with
  | 0 => a + n ≤ 0x8000_0000
  | 1 => isNear a && decide (a + n ≤ 0x27_4000_0000)
  | _ => isQuarry a && decide (a + n ≤ 0x300_0000_0000)

/-- Check 5, on the shadow. -/
def Chip.poolsOk (d : Chip) (m : Maq) : Bool :=
  let mirrors := match m.mirror with
    | none => []
    | some (k, alt) => d.mirrorArea k :: (if alt = 0xFF then [] else [d.mirrorArea alt])
  m.pools.zipIdx.all (fun p =>
    let (kind, a, n) := p.1
    a % 0x1_0000 = 0 && n % 0x1_0000 = 0 &&
    (match poolTier kind with
     | some t => inTier t a n
     | none => inTier 0 a n || inTier 1 a n || inTier 2 a n) &&
    !deviceOwned a n && (d.baseRanges ++ mirrors).all (fun r => !overlaps a n r.1 r.2) &&
    m.pools.zipIdx.all (fun q => q.2 = p.2 || !overlaps a n q.1.2.1 q.1.2.2))

/-- The cores left in service by WKC_RETIRE and WKC_SPARES_CFG (R158). -/
def Chip.coresKept (d : Chip) : List Nat := (List.range 64).filter (fun n => !bitOf (d.rg Reg.WKC_RETIRE.MASK) n)

/-- The first check of R641 that fails, or the shadow to commit. -/
def Chip.maqCheck (d : Chip) (m : Maq) (key : Nat) : Nat ⊕ Chip :=
  match d.maqShadow m.writes with
  | none => .inl 2
  | some x =>
    let x := (x.keepReactions d).keepPairs d
    if x.badReaction then .inl 2
    else if !groupMapOk (x.rg Reg.LNK_GROUP_MAP.GROUP) then .inl 3
    else if m.ring.any (fun r => decide (r.1 > 15 ∨ r.2.1 > 2)) then .inl 4
    else if !x.poolsOk m then .inl 5
    else if bitOf m.revoke key then .inl 6
    else if x.coresKept.length ≤ x.rg Reg.WKC_SPARES_CFG.COUNT then .inl 7
    else .inr x

/-! ## The commit -/

/-- The core pool formed (R158, R705). -/
def Chip.formPool (d : Chip) : Chip :=
  let kept := d.coresKept
  let up := kept.length - d.rg Reg.WKC_SPARES_CFG.COUNT
  let spares := kept.drop up
  let d := (List.range 64).foldl (fun (d : Chip) n =>
    if kept.contains n then d.sr (Reg.WKC_STATE.ROLE n) (b2n (spares.contains n))
    else (d.sr (Reg.WKC_STATE.ROLE n) 2).setAgentSt (.wc ⟨n % 64, Nat.mod_lt _ (by decide)⟩) .gated) d
  ({ d with wk := { d.wk with configured := up } }.sr Reg.WKC_SPARE_MASK.MASK (maskOf spares)).syncPool

/-- A pool of the memory controllers set from the Maquette's ranges of a kind. -/
def Chip.loadPool (d : Chip) (m : Maq) (kind k unit : Nat) : Chip :=
  let ext := (m.pools.filter (fun p => p.1 = kind)).map (fun p => (p.2.1, p.2.2 / unit))
  d.setPool k { d.pool k with ext := ext, unit := unit }

def poolBytes (m : Maq) (kind : Nat) : Nat := (m.pools.filter (fun p => p.1 = kind)).foldl (fun (n : Nat) p => n + p.2.2) 0

/-- Every pool of the Maquette; units in use are kept. -/
def Chip.loadPools (d : Chip) (m : Maq) : Chip :=
  let d : Chip := { d with mu := { d.mu with planPlinth := poolBytes m 1, planNear := poolBytes m 2, planQuarry := poolBytes m 3 } }
  let d := [(8, 0, 0x1_0000), (9, 1, 0x1_0000), (10, 2, 0x1_0000), (4, 3, 0x1000), (5, 4, 0x1000), (6, 5, 0x1000), (7, 6, 0x1000),
    (11, 7, 0x1000)].foldl (fun (d : Chip) (p : Nat × Nat × Nat) => d.loadPool m p.1 p.2.1 p.2.2) d
  (d.sr Reg.DVT_REORDER_CFG.FREE (d.pool 7).count).syncFill

/-- The remap tables and bank replacements of a cold start: the Maquette's entries, then Patina's (R267, R268); and the channels and CXL devices
that Patina records as retired, whose pages are left out of the pools (R283, R287; at every later cold start, DESIGN CHOICE, log entry 60). -/
def Chip.loadRemaps (d : Chip) (m : Maq) : Chip :=
  let room (d : Chip) (a : Nat) : Bool := decide ((d.remap (plinthDie a)).length < 32)
  let d := m.remaps.foldl (fun (d : Chip) r =>
    let a := r.1 % 2 * 0x4000_0000 + r.2 * 32
    if room d a then d.addRemap 0 a else d) d
  d.pat.log.foldl (fun (d : Chip) r =>
    if r.type = 2 then (if room d (r.body.headD 0) then d.addRemap 1 (r.body.headD 0) else d)
    else if r.type = 3 then
      let b := r.body.headD 0
      let die := b / 256
      { d with mu := { d.mu with spareOf := tput d.mu.spareOf b (r.body.getD 1 0) } }.sr (sparesFld die) (d.rg (sparesFld die) - 1)
    else if r.type = 6 then { d with mu := { d.mu with leftOut := insNat (r.body.headD 0) d.mu.leftOut } }
    else d) d

/-- The commit of a shadow (R641): `warm` keeps what a warm reset keeps. -/
def Chip.maqCommit (old shadow : Chip) (m : Maq) (warm : Bool) : Chip :=
  let retired := old.rg Reg.WKC_RETIRE.MASK
  let d := shadow.mr Reg.WKC_RETIRE.MASK (fun v => if warm then v ||| retired else v)
  let d : Chip := match m.ring with
    | none => d
    | some (pos, role, join, tr, by_) =>
      { (d.sr Reg.TCK_CTRL.POSITION pos).sr Reg.TCK_CTRL.ROLE role with
        tck := { d.tck with trace := tr, bypass := by_ }, pwr := { d.pwr with joinWanted := join = 1 } }
  let d := d.formPool
  let d := (if warm then d else d.loadRemaps m).loadPools m
  let d := d.mr Reg.SEC_STATE.REVOKED (fun v => v ||| m.revoke)
  let d : Chip := match m.mirror with
    | none => d
    | some (k, alt) =>
      if warm then d
      else { d with led := { d.led with mirrorDev := some k, mirrorAlt := if alt = 0xFF then none else some alt } }.sr Reg.GLB_RECOVERY.DEVICE k
  { d with pwr := { d.pwr with maqVersion := m.version, boardId := m.board } }.sr Reg.PCR_STATE.MAQ_LOADED 1

/-! ## Stage 1 (R588) -/

/-- Whether the device starts at all: POR_N released, STRAP_TEST low (R698), REFCLK locked. -/
def Chip.booting (d : Chip) : Bool := !d.pwr.por && d.pwr.straps < 4 && d.pwr.refclk && !d.flag Reg.FLT_SAFE.SAFE

/-- Stage 1 from the primary device, else from the alternate, else the safe state. -/
def stage1Verify (d : Chip) : Chip :=
  if !d.booting ∨ d.pwr.stage1 then d
  else
    let try_ (dev : Nat) : Verdict := d.verifyImg (fun o => d.flashByte dev (0x1_0000 + o)) 1 0xF_0000
    let use (d : Chip) (src svn : Nat) (dg : List Nat) : Chip :=
      { d with pwr := { d.pwr with stage1 := true, stage1Ver := svn }, sec := { d.sec with s1Digest := dg, s1Svn := svn } }.sr
        Reg.SEC_STATE.S1_SRC src
    match try_ 0 with
    | .ok _ svn dg => use d 0 svn dg
    | .bad _ =>
      let d := d.fault Src.SEC_AUTH
      match try_ 1 with
      | .ok _ svn dg => use d 1 svn dg
      | .bad _ => (d.fault Src.SEC_AUTH).enterSafe 0x3FF true

def execStage1Verify (s : State) : Out := s.on stage1Verify

/-! ## MAQUETTE_APPLY (R586, R641 to R643) -/

/-- A copy of the Maquette verified and checked: not verified, refused with its cause, or its length, SVN, digest, contents and shadow. -/
inductive MaqTry where
  | unverified
  | refused (cause : Nat)
  | taken (len svn : Nat) (digest : List Nat) (m : Maq) (shadow : Chip)

def Chip.maqTry (d : Chip) (rd : Rd) : MaqTry :=
  match d.verifyImg rd 2 0x40_0000 with
  | .bad _ => .unverified
  | .ok len svn dg =>
    match maqOf rd len with
    | none => .refused 1
    | some m =>
      match d.maqCheck m (rd (0x40_0000 - 0x2000 + 7)) with
      | .inl c => .refused c
      | .inr x => .taken len svn dg m x

def maqFlash (d : Chip) (dev : Nat) : Rd := fun o => d.flashByte dev (0x10_0000 + o)

/-- The copy a warm reset loads (R643). -/
def maqKept : Nat := 0x73C0_0000

/-- What follows the commit at a cold start: the OTP counts (R637), the kept copy and its digest. -/
def Chip.maqAfter (d : Chip) (rd : Rd) (len svn src : Nat) (digest : List Nat) : Chip :=
  let d := (d.mr Reg.SEC_SVN.STAGE1 (max d.sec.s1Svn)).mr Reg.SEC_SVN.MAQUETTE (max svn)
  let d := ((d.sr Reg.PCR_STATE.MAQ_SRC src).sr Reg.SEC_STATE.MAQ_SRC src).writePhys maqKept ((List.range len).map (fun o => (rd o, false)))
  { d with pwr := { d.pwr with maqDigest := digest, maqLen := len }, sec := { d.sec with maqDigest := digest, maqSvn := svn } }

/-- MAQUETTE_APPLY at cold start: void before stage 1 runs and once a Maquette is loaded. -/
def maquetteApply (d : Chip) : Chip :=
  if !d.booting ∨ !d.pwr.stage1 ∨ d.flag Reg.PCR_STATE.MAQ_LOADED ∨ d.hub.inReset then d
  else
    let alt (d : Chip) (c : Nat) : Chip :=
      match d.maqTry (maqFlash d 1) with
      | .taken len svn dg m x => ((d.maqCommit x m false).maqAfter (maqFlash d 1) len svn 1 dg).fault Src.PCR_MAQ_ALT c
      | .refused _ => d.enterSafe 0x3FF true
      | .unverified => (d.fault Src.SEC_AUTH).enterSafe 0x3FF true
    match d.maqTry (maqFlash d 0) with
    | .taken len svn dg m x => (d.maqCommit x m false).maqAfter (maqFlash d 0) len svn 0 dg
    | .refused c => alt (d.sr Reg.PCR_STATE.MAQ_CAUSE c) c
    | .unverified => alt (d.fault Src.SEC_AUTH) 0

def execMaquetteApply (s : State) : Out := s.on maquetteApply

/-- The Maquette of a warm reset: the kept copy, else the flash image of the same digest, else the safe state (R643); using the
alternate raises PCR_MAQ_ALT (R642). -/
def maquetteAgain (d : Chip) : Chip :=
  let go (d : Chip) (rd : Rd) (src : Nat) : Option Chip :=
    if sha384 ((List.range d.pwr.maqLen).map rd) ≠ d.pwr.maqDigest then none
    else match maqOf rd d.pwr.maqLen with
      | none => none
      | some m =>
        match d.maqShadow m.writes with
        | none => none
        | some x => some ((d.maqCommit ((x.keepReactions d).keepPairs d) m true).sr Reg.PCR_STATE.MAQ_SRC src)
  match (go d (fun o => d.byteAt (maqKept + o)) 2).orElse (fun _ => (go d (maqFlash d 0) 0).orElse (fun _ => (go d (maqFlash d 1) 1).map (fun (x : Chip) => x.fault Src.PCR_MAQ_ALT))) with
  | some x => x
  | none => d.enterSafe 0x3FF true

end Sys2Proof.Machine
end

