-- ==== Sys2Proof/Machine/RingUnit.lean ====
section
/-! DEFINITION. The Plumb ring (R55 to R70, R91): markers and cells received, probes, joining and leaving. -/
namespace Sys2Proof.Machine
open Sys2Proof

/-! ## The device's place on the ring -/

def ringPos (d : Chip) : Nat := d.rg Reg.TCK_CTRL.POSITION

/-- Ring STATE (R94): 0 PASSIVE, 1 LOCKED, 2 HOLDOVER, 3 MASTER. -/
def ringState (d : Chip) : Nat := d.rg Reg.TCK_STATUS.STATE

/-- Whether the bypass switch is open, so that the device forwards (R68). -/
def onRing (d : Chip) : Bool := d.rg Reg.TCK_STATUS.BYPASS = 0

/-- Whether the device holds the master role, or took it as standby, and has not stopped under R65. -/
def masterRole (d : Chip) : Bool := (d.rg Reg.TCK_CTRL.ROLE = 1 || d.tck.acting || ringState d = 3) && !d.tck.stopped

/-- The characters 1 to 13 of a cell: its TYPE and its payload (R57, R69, R70). -/
def RingCell.body : RingCell → List Nat
  | .marker => []
  | .tick n p m => 1 :: (leBytes 8 n ++ leBytes 2 p ++ [m, 0])
  | .flags b => 2 :: b :: List.replicate 11 0
  | .probe t l => 3 :: (leBytes 4 t ++ [l] ++ List.replicate 7 0)
  | .msg t f k x => 4 :: t :: f :: k :: (x ++ List.replicate 9 0).take 9
  | .bad c => c.body

/-- What stands on the line: K28.1 for the marker; a cell as K28.5, its body and its CRC-16, low byte first (R56, R57). One that came
with a bad CRC goes on with that CRC, which no rule gives: it is left out here. -/
def RingCell.chars : RingCell → List Nat
  | .marker => [0x3C]
  | .bad c => 0xBC :: c.body
  | c => 0xBC :: c.body ++ leBytes 2 (crc16 c.body)

/-- A cell forwarded or sent: what the device last put on the ring. -/
def Chip.forward (d : Chip) (c : RingCell) : Chip :=
  if onRing d then { d with tck := { d.tck with last := some c, line := c.chars } } else d

/-- A PROBE of the master is made ready to send (R62). -/
def Chip.sendProbe (d : Chip) : Chip :=
  { d with tck := { d.tck with out := d.tck.out ++ [.probe 0 (ringPos d)], probeOut := true, sinceProbe := 0 } }

/-- A cell that fails CRC-16 (R57): its content discarded, counted, the source RING_CRC raised, and the cell forwarded unchanged. -/
def Chip.badCell (d : Chip) (c : RingCell) : Chip := ((d.count Reg.TCK_CELL_ERRORS.COUNT).fault Src.RING_CRC).forward (.bad c)

/-! ## Markers (R63 to R66) -/

/-- A phase error in 0.25 ns units, as the 16-bit field holds it. -/
def phaseField (e : Int) : Nat := (e % 65536).toNat

def tickMarker (d : Chip) (error : Int) : Chip :=
  if ringState d = 3 then d
  else
    let d := (d.sr Reg.TCK_PHASE.ERROR (phaseField error)).sr Reg.TCK_STATUS.MISSES 0
    let run := if error.natAbs > 80 then d.tck.phaseRun + 1 else 0
    let d := { d with tck := { d.tck with phaseRun := run, markers := d.tck.markers + b2n (onRing d) } }
    if run = 4 then d.fault Src.PHASE_LIMIT else d

def execTickMarker (error : Int) (s : State) : Out := s.on (fun d => tickMarker d error)

/-- HOLDOVER is left (R66): the device relocks, and timestamps jump (R398). -/
def Chip.leaveHoldover (d : Chip) (number : Nat) : Chip :=
  let d := ((d.sr Reg.TCK_STATUS.STATE 1).endAttn .holdover).note clsLinks
  { d with tck := { d.tck with adopt := some number, lower := none } }

/-- A received tick number (R66, R67). In HOLDOVER one not below the local count is adopted at the next tick; a lower one raises
TICK_BACKWARD, once for as long as lower numbers go on coming (DESIGN CHOICE, log entry 61). The first one a device that is no master
receives after cold reset gives the count. -/
def receivedNumber (d : Chip) (number : Nat) : Chip :=
  let first := !d.tck.taken
  let d := { d with tck := { d.tck with
    rxAt := if d.tck.rxNumber.isNone then d.tck.frames else d.tck.rxAt, rxNumber := some number } }
  if ringState d = 2 then
    if number ≥ d.tick then d.leaveHoldover number
    else
      let seen := d.tck.lower.isSome
      let d := { d with tck := { d.tck with lower := some number } }
      if seen then d else d.fault Src.TICK_BACKWARD
  else if first ∧ !masterRole d then { d with tck := { d.tck with taken := true } }.sr Reg.TCK_NUMBER.NUMBER number
  else d

/-- A TICK cell (R57, R65). A second master is seen, DUAL_MASTER, whichever position is the lower; only the higher one stops. -/
def tickCell (d : Chip) (crcOk : Bool) (number period master : Nat) : Chip :=
  if !crcOk then d.badCell (.tick number period master)
  else if masterRole d ∧ onRing d ∧ master ≠ ringPos d then
    let d := d.fault Src.DUAL_MASTER
    if master < ringPos d then
      let d := { d with tck := { d.tck with stopped := true, acting := false, probeOut := false } }
      let d := (d.sr Reg.TCK_STATUS.STATE 1).sr Reg.TCK_STATUS.MASTER_POS master
      (receivedNumber d number).forward (.tick number period master)
    else d
  else if ringState d = 3 then d
  else
    let d := d.sr Reg.TCK_STATUS.MASTER_POS master
    let d := { d with tck := { d.tck with rxPeriod := period } }
    (receivedNumber d number).forward (.tick number period master)

def execTickCell (crcOk : Bool) (number period : Nat) (master : Fin 16) (s : State) : Out :=
  s.on (fun d => tickCell d crcOk (number % 2 ^ 64) (period % 65536) master.val)

/-- MARKER_MISS (R64, R65): the device ticks alone; the eighth consecutive miss enters HOLDOVER, and at the fourth a
standby on the ring becomes master. -/
def markerMiss (d : Chip) : Chip :=
  if ringState d = 3 then d
  else
    let d := d.mr Reg.TCK_STATUS.MISSES (fun n => min (n + 1) 255)
    let d := (d.count Reg.TCK_MISSES.COUNT).fault Src.RING_MISS
    let n := d.rg Reg.TCK_STATUS.MISSES
    if d.rg Reg.TCK_CTRL.ROLE = 2 ∧ onRing d ∧ n = 4 ∧ !d.tck.stopped then
      ({ (d.sr Reg.TCK_STATUS.STATE 3).sr Reg.TCK_STATUS.MASTER_POS (ringPos d) with tck := { d.tck with acting := true } }).sendProbe
    else if n = 8 ∧ ringState d = 1 then
      ((d.sr Reg.TCK_STATUS.STATE 2).fault Src.HOLDOVER).raiseAttn .holdover .degraded clsLinks
    else d

def execMarkerMiss (s : State) : Out := s.on markerMiss

/-- RELOCK (R66): in HOLDOVER, the lower number received is adopted at the next tick. -/
def Chip.relock (d : Chip) : Chip :=
  match d.tck.lower with
  | some n => if ringState d = 2 then d.leaveHoldover n else d
  | none => d

def execRelock (s : State) : Out := s.on Chip.relock

/-! ## Probes (R62) -/

/-- Trace and bypass delays of the positions after `last` and before `pos`, then the trace delay into `pos`. -/
def delayTo (trace bypass : List Nat) (last pos : Nat) : Nat :=
  let n := (pos + 16 - last - 1) % 16
  ((List.range n).map (fun i => trace.getD ((last + 1 + i) % 16) 0 + bypass.getD ((last + 1 + i) % 16) 0)).foldl (· + ·) 0 +
    trace.getD pos 0

/-- A PROBE received (R62): the offset taken, 24 ns and the own position added; a member that has joined is LOCKED once
it has passed (R69). A device whose switch is closed counts its own position as bypassed (R68): the delay through its own bypass is
added too (DEDUCED, log entry 62). -/
def probeCell (d : Chip) (crcOk : Bool) (delay last : Nat) : Chip :=
  if !crcOk then d.badCell (.probe delay last)
  else if d.tck.probeOut ∧ masterRole d then d
  else
    let total := delay + delayTo d.tck.trace d.tck.bypass last (ringPos d) + (if onRing d then 0 else d.tck.bypass.getD (ringPos d) 0)
    let d := (d.sr Reg.TCK_PHASE.OFFSET total).forward (.probe (total + 96) (ringPos d))
    if onRing d ∧ ringState d = 0 ∧ !masterRole d then d.sr Reg.TCK_STATUS.STATE 1 else d

def execProbeCell (crcOk : Bool) (delay : Nat) (last : Fin 16) (s : State) : Out :=
  s.on (fun d => probeCell d crcOk delay last.val)

/-- A PROBE back at the master (R62, R69): above 10 ns apart raises DELAY_MISMATCH, and a joining master is MASTER. -/
def probeReturn (d : Chip) (total loop : Nat) : Chip :=
  if !d.tck.probeOut then d
  else
    let d := { d with tck := { d.tck with probeOut := false } }.sr Reg.TCK_CTRL.PROBE 0
    let d := if total > loop + 40 ∨ loop > total + 40 then d.fault Src.DELAY_MISMATCH else d
    if onRing d ∧ ringState d = 0 ∧ masterRole d then
      (d.sr Reg.TCK_STATUS.STATE 3).sr Reg.TCK_STATUS.MASTER_POS (ringPos d)
    else d

def execProbeReturn (total loop : Nat) (s : State) : Out := s.on (fun d => probeReturn d total loop)

def execPeriodicProbe (s : State) : Out :=
  s.on (fun d => if ringState d = 3 ∧ d.tck.sinceProbe ≥ 65536 then d.sendProbe else d)

/-- PROBE of TCK_CTRL: master only (R94). -/
def Chip.probe (d : Chip) : Chip := if ringState d = 3 then d.sendProbe else d

def execProbe (s : State) : Out := s.on Chip.probe

/-- RING_PROBE (R91): the master's alone; refused elsewhere. -/
def execRingProbe (s : State) : Out :=
  s.on (fun d =>
    let ok := ringState d = 3
    let d := { d with answer := some ⟨.block .tck, ok, d.agentSt (.block .tck), [], []⟩ }
    if ok then d.sendProbe else d)

/-! ## Cells of members that join and leave (R69, R70) -/

/-- MSG JOINED reaches the master, which sends a PROBE. It is sent to the master (R69), so that one passed on names its position. -/
def execJoined (source : Fin 16) (s : State) : Out :=
  s.on (fun d => if ringState d = 3 then d.sendProbe else d.forward (.msg (d.rg Reg.TCK_STATUS.MASTER_POS) source.val 1 []))

/-- MSG LEAVING: the membership changes in the frame after it, and the master then sends a PROBE (R62). -/
def execLeaving (source : Fin 16) (s : State) : Out :=
  s.on (fun d =>
    if ringState d = 3 then { d with tck := { d.tck with probeDue := true } }
    else d.forward (.msg 0xFF source.val 2 []))

/-- The oldest waiting cell of the device goes out once the ring is idle (R60); the characters that arrive behind it
are held, sixteen at most, and have gone out by the end of the frame (`tickUnit`): the idle they drain in is not a command. -/
def ownCellSend (d : Chip) (held : List (BitVec 8)) : Chip :=
  match d.tck.out with
  | [] => d
  | c :: rest =>
    if !onRing d then d
    else
      let leave := match c with
        | .msg _ _ 2 _ => some d.tck.frames
        | _ => d.tck.leaveSent
      { d with tck := { d.tck with out := rest, last := some c, line := c.chars, behind := held.take 16, leaveSent := leave } }

def execOwnCellSend (held : List (BitVec 8)) (s : State) : Out := s.on (fun d => ownCellSend d held)

/-! ## Joining and leaving (R68 to R70) -/

/-- A join is asked, in a PASSIVE state with the switch closed. -/
def Chip.askJoin (d : Chip) : Chip :=
  if onRing d ∨ d.tck.join.isSome then d else { d with tck := { d.tck with join := some d.tck.frames } }.sr Reg.TCK_CTRL.JOIN 1

def execJoin (s : State) : Out := s.on (fun d => d.askJoin)

/-- RING_JOIN (R91). -/
def execRingJoin (s : State) : Out :=
  s.on (fun d => { d.askJoin with answer := some ⟨.block .tck, true, d.agentSt (.block .tck), [], []⟩ })

/-- 200 ns into a frame after the join is asked (R69): a member also needs a tick number received in an earlier frame; the master
starts its markers and sends a PROBE, a member sends MSG JOINED. -/
def joinSwitchover (d : Chip) : Chip :=
  match d.tck.join with
  | none => d
  | some t =>
    if onRing d ∨ ringState d ≠ 0 ∨ t = d.tck.frames ∨ d.flag Reg.FLT_SAFE.SAFE ∨
        (!masterRole d ∧ (d.tck.rxNumber.isNone ∨ d.tck.rxAt = d.tck.frames)) then d
    else
      let d := (d.sr Reg.TCK_STATUS.BYPASS 0).sr Reg.TCK_CTRL.JOIN 0
      let d := { d with tck := { d.tck with join := none } }
      if masterRole d then d.sendProbe
      else { d with tck := { d.tck with
        out := d.tck.out ++ [.msg (d.rg Reg.TCK_STATUS.MASTER_POS) (ringPos d) 1 []] } }

def execJoinSwitchover (s : State) : Out := s.on joinSwitchover

/-- A controlled leave begins with MSG LEAVING (R70), sent to all positions, 0xFF (DESIGN CHOICE, log entry 38: R70 names no
destination). -/
def Chip.askLeave (d : Chip) : Chip :=
  if !onRing d ∨ d.tck.leaving then d
  else { d with tck := { d.tck with
    leaving := true, leaveSent := none, out := d.tck.out ++ [RingCell.msg 0xFF (ringPos d) 2 []] } }.sr Reg.TCK_CTRL.LEAVE 1

def execLeave (s : State) : Out := s.on (fun d => d.askLeave)

/-- RING_LEAVE (R91). -/
def execRingLeave (s : State) : Out :=
  s.on (fun d => { d.askLeave with answer := some ⟨.block .tck, true, d.agentSt (.block .tck), [], []⟩ })

/-- 200 ns into the frame after MSG LEAVING the switch closes (R70). -/
def leaveSwitchover (d : Chip) : Chip :=
  match d.tck.leaveSent with
  | none => d
  | some t =>
    if !d.tck.leaving ∨ t = d.tck.frames then d
    else
      let d := ((d.sr Reg.TCK_STATUS.BYPASS 1).sr Reg.TCK_STATUS.STATE 0).sr Reg.TCK_CTRL.LEAVE 0
      { d with tck := { d.tck with leaving := false, leaveSent := none, probeOut := false, lower := none, acting := false, out := [] } }

def execLeaveSwitchover (s : State) : Out := s.on leaveSwitchover

end Sys2Proof.Machine
end

