-- ==== Sys2Proof/Machine/Power.lean ====
section
/-! DEFINITION. Start-up, clocks, power states and resets (R636 to R657, R684 to R698). -/
namespace Sys2Proof.Machine
open Sys2Proof

/-! ## Cold reset (R636, R650, R686) -/

/-- Register fields that are copies of the OTP or of what outlives every reset. -/
def otpBits : List Nat :=
  [Reg.SEC_SVN.FIRMWARE.bit, Reg.SEC_SVN.MAQUETTE.bit, Reg.SEC_SVN.STAGE1.bit, Reg.SEC_STATE.REVOKED.bit]

/-- The working copy rebuilt at start-up (R675): the summary, then every later event record of a lane that failed or a work core retired. -/
def patRebuilt (summary : Tbl Nat) (log : List PatRec) : Tbl Nat :=
  let set (t : Tbl Nat) (off b : Nat) : Tbl Nat := tput t off (setBitN ((tget t off).getD 0) b)
  (log.reverse.takeWhile (fun r => r.type ≠ 1)).foldl (fun t r =>
    if r.type = 4 then set t 0x1140 (r.body.headD 0)
    else if r.type = 5 ∧ r.body.headD 0 < 64 then set t 0x1260 (r.body.headD 0) else t) summary

/-- A cold reset: everything at its reset value but the OTP, the flash, Patina's log and what the Quarry holds. The event records
held are written first, the working copy of the summary is rebuilt from flash (R675, R676), and each derived context's counter resumes at
the end of the last recorded step (R601). -/
def Chip.coldReset (d : Chip) : Chip :=
  let held := d.pat.held.zipIdx.map (fun (r : PatRec × Nat) => { r.1 with seq := d.pat.nextSeq + r.2 })
  let x : Chip := {
    free := d.free
    regs := d.regs.filter (fun p => otpBits.contains p.1)
    mem := { cells := d.mem.cells.filter (fun c => isQuarry c.1), poison := d.mem.poison.filter isQuarry }
    led := { mirror := d.led.mirror }
    pat := { log := d.pat.log ++ held, nextSeq := d.pat.nextSeq + held.length, work := patRebuilt d.pat.summary (d.pat.log ++ held), summary := d.pat.summary,
             block := d.pat.block, bad := d.pat.bad }
    sec := { ctxs := (d.pat.log ++ held).foldl (fun t r => if r.type = 7 then tput t (r.body.getD 0 0) ⟨r.body.getD 1 0, r.body.getD 1 0⟩ else t) [] }
    fw := { flash := d.fw.flash }
    hub := { faultN := d.hub.faultN }
    pwr := { thermtrip := d.pwr.thermtrip, perst := d.pwr.perst } }
  x.patCount 8 32

/-- FAULT_N and THERMTRIP_N released (R697). -/
def Chip.pinsReleased (d : Chip) : Chip :=
  { d with hub := { d.hub with faultN := false }, pwr := { d.pwr with thermtrip := false } }

def execPorNAssert (s : State) : Out := s.on (fun d => d.coldReset.pinsReleased)

/-- POR_N_RELEASE with every rail within tolerance: the straps are sampled once (R698). -/
def execPorNRelease (straps : Fin 8) (s : State) : Out :=
  s.on (fun d => if d.pwr.por then { d with pwr := { d.pwr with por := false, straps := straps.val } } else d)

/-- REFCLK_LOCK: the tick generator starts; with STRAP_TEST high the device does not start. -/
def execRefclkLock (s : State) : Out :=
  s.on (fun d => if d.pwr.por ∨ d.pwr.straps ≥ 4 then d else { d with pwr := { d.pwr with refclk := true } })

/-- Whether every Armature core that is not retired has been released (R352). -/
def Chip.coresReleased (d : Chip) : Bool :=
  (List.range 16).all (fun n => (d.core n).released || d.rg (Reg.AMT_CORE_STATE.STATE n) = 6)

/-- START_UP_READY: initialisation and firmware start have completed; the ring join the Maquette asks for is started. -/
def startUpReady (d : Chip) : Chip :=
  if !d.booting ∨ d.hub.inReset ∨ d.flag Reg.PCR_STATE.READY ∨ !d.flag Reg.PCR_STATE.MAQ_LOADED ∨
      d.flag Reg.MEM_PLINTH_STATE.INIT_BUSY ∨ !d.coresReleased ∨ (d.led.mirrorDev.isSome ∧ !d.led.checked) then d
  else
    let d : Chip := { d with pwr := { d.pwr with readyTick := d.tick, petTick := d.tick } }.sr Reg.PCR_STATE.READY 1
    if d.pwr.joinWanted then d.askJoin else d

def execStartUpReady (s : State) : Out := s.on startUpReady

/-! ## Clocks (R644 to R646) -/

/-- PCR_CLK_CTRL.START: the PLLs start, and lock. -/
def pllStart (d : Chip) : Chip :=
  if !d.booting then d
  else { d with pwr := { d.pwr with pllStart := true } }.sr Reg.PCR_CLK_CTRL.START 1 |>.sr Reg.PCR_CLK_CTRL.LOCKED (b2n (d.pwr.pllLost = 0))

def execPllStart (s : State) : Out := s.on pllStart

/-- PCR_CLK_CTRL.SWITCH, ignored while LOCKED is 0: the core die moves at the next frame boundary. -/
def pllSwitch (d : Chip) : Chip :=
  if !d.flag Reg.PCR_CLK_CTRL.LOCKED ∨ d.flag Reg.PCR_STATE.CLK_SRC then d
  else { d with pwr := { d.pwr with switchDue := true } }.sr Reg.PCR_CLK_CTRL.SWITCH 1

def execPllSwitch (s : State) : Out := s.on pllSwitch

/-- The frame boundary at which the switch is made. -/
def Chip.switchClocks (d : Chip) : Chip :=
  if d.pwr.switchDue then
    ({ d with pwr := { d.pwr with switchDue := false } }.sr Reg.PCR_STATE.CLK_SRC 1).count (Reg.PCR_COUNT.COUNT 6)
  else d

/-- PLL_LOCK_LOSS of the core PLL (0) or the Armature PLL (1): its clock domains are held. -/
def execPllLockLoss (which : Fin 2) (s : State) : Out :=
  s.on (fun d =>
    if !d.pwr.pllStart ∨ bitOf d.pwr.pllLost which then d
    else
      let d : Chip := { d with pwr := { d.pwr with pllLost := setBitN d.pwr.pllLost which } }.sr Reg.PCR_CLK_CTRL.LOCKED 0
      if d.rg Reg.PCR_STATE.POWER = 0 then d.fault Src.PCR_PLL_LOCK which else d)

def execPllLockReturn (which : Fin 2) (s : State) : Out :=
  s.on (fun d =>
    if !bitOf d.pwr.pllLost which then d
    else
      let d : Chip := { d with pwr := { d.pwr with pllLost := clrBitN d.pwr.pllLost which } }
      d.sr Reg.PCR_CLK_CTRL.LOCKED (b2n (d.pwr.pllStart && d.pwr.pllLost = 0)))

/-- REFCLK_LOSS: the tick generator runs in HOLDOVER (R64). -/
def execRefclkLoss (s : State) : Out :=
  s.on (fun d =>
    if !d.pwr.refclk ∨ d.pwr.refLost then d
    else
      let d : Chip := { d with pwr := { d.pwr with refLost := true } }.fault Src.PCR_REFCLK
      if onRing d then
        (((d.sr Reg.TCK_STATUS.STATE 2).fault Src.HOLDOVER).raiseAttn .holdover .degraded clsLinks)
      else d)

/-- REFCLK_RETURN: the island runs on REFCLK again; a master ticks as master, a member relocks under R66. -/
def execRefclkReturn (s : State) : Out :=
  s.on (fun d =>
    if !d.pwr.refLost then d
    else
      let d : Chip := { d with pwr := { d.pwr with refLost := false } }
      if ringState d = 2 ∧ masterRole d then (d.sr Reg.TCK_STATUS.STATE 3).endAttn .holdover else d)

/-! ## Warm reset (R647 to R650, R705) -/

/-- PCR_RESET.WARM written, or WARM_RESET of the PCR agent (R657). -/
def Chip.askWarm (d : Chip) : Chip := if d.pwr.por then d else (d.sr Reg.PCR_RESET.WARM 1).warmTrigger 4

def execWarmReset (s : State) : Out := s.on (fun d => d.askWarm.answered (.block .pcr) true)

/-- What called for the warm reset, by its WARM_CAUSE. -/
def Chip.warmCause (d : Chip) : Nat :=
  if d.pwr.trigger ≠ 0 then d.pwr.trigger
  else if !d.hub.chipReset then 0
  else if d.attn.any (fun c => c.why = .faultReaction 767) then 2
  else if d.attn.any (fun c => c.why = .faultReaction 516) then 3 else 1

/-- Accepted items of a ring pair whose end-state reply is not yet written. -/
def Chip.owedOf (d : Chip) (r : Nat) : Nat :=
  (d.led.items.filter (fun i => !i.replied && (match i.origin with
    | .ring q => q = r
    | .step _ q => q = r
    | .slot k => decide ((d.slotRec k).img.sReplyRing = r)
    | _ => false))).length

/-- The warm-reset report (R649). -/
def Chip.warmReport (d : Chip) : Chip :=
  let rings := (List.range 16384).filter (fun r => d.flag (Reg.HIF_RING.ENABLE r))
  let bytes := rings.flatMap (fun r => leBytes 2 r ++ [d.ringFn r % 256, 0] ++ leBytes 4 (d.rg (Reg.HIF_RING_IDX.CMD_HEAD r)) ++
    leBytes 4 (d.rg (Reg.HIF_RING_IDX.RPL_HEAD r)) ++ leBytes 4 (d.owedOf r))
  (d.wr (d.rg Reg.PCR_WARM_REPORT.BASE * 0x1_0000) bytes).sr Reg.PCR_WARM_REPORT.COUNT rings.length

/-- Every block agent and core fences (R648): uncommitted items return to ACCEPTED, but those whose commit record is issued. -/
def Chip.allFenced (d : Chip) : Chip :=
  let d := (List.range 64).foldl (fun (d : Chip) n => d.emptyCore n) d
  let d := (List.range 16).foldl (fun (d : Chip) n => d.coreGiveBack n) d
  let bs : List Block := [.glb, .hif, .tck, .wkc, .col, .kva, .mem, .amt, .lnk, .dvt, .pkt, .dma, .nvs, .ckp, .sec, .obs, .pat]
  let d := bs.foldl (fun (d : Chip) b => (d.setAgentSt (.block b) .fenced).blockFenced b) d
  let keep (i : Item) : Nat := i.owner
  { d with led := { d.led with items := d.led.items.map (fun i =>
      let j := if i.crec = .none then backToAccepted i else i
      if 0x40 ≤ keep i ∧ keep i < 0x50 then { j with owner := keep i }
      else if j.state = .committed ∧ j.redo ∧ !j.replied then { j with replayed := true } else j) } }

/-- Fields not marked ST that report state which R650 and chapters 01 to 20 keep through the reset: they go on reporting it (DESIGN CHOICE,
log entry 74: R9 alone would return them to Reset while what they report stands). -/
def keptFields : List (String × List String) :=
  [("GLB_LEDGER_STATE", ["COPIES", "REBUILD", "MIRROR", "FREE"]), ("COL_SLOT_ARMED", ["MASK"]), ("KVA_MAP_FREE", ["LARGEST", "FREE"]), ("AMT_LOG_HEAD", ["HEAD"]),
   ("KVA_POOL_FILL", ["FREE", "SIZE"]), ("MEM_NEAR_STATE", ["TRAINED"]), ("MEM_QUARRY_STATE", ["PRESENT"]), ("MEM_QUARRY_CAP", ["UNITS"]),
   ("DVT_CONN_STATE", ["OPEN"]), ("PKT_VERSION", ["STAGED", "COMMITTED"]), ("PKT_EM_STATE", ["ENTRIES"]),
   ("DMA_CHAN_STATE", ["QUEUED", "STATE"]), ("HIF_STATE", ["ME", "NUM_VFS", "WIDTH", "SPEED"]), ("NVS_LOCKS", ["WAITING", "IN_USE"]), ("NVS_SQ_MAP", ["VALID", "FUNC", "SQID"]),
   ("SEC_STATE", ["DEBUG", "ZEROISED", "ENTROPY_OK", "REVOKED", "S1_SRC"]), ("SEC_SVN", ["FIRMWARE", "MAQUETTE", "STAGE1"]),
   ("PAT_STATE", ["BAD_BLOCKS"]), ("PAT_SEQ", ["SEQ"])]

/-- Whether a stored field survives a warm reset: ST, or one of those above. -/
def keptField (b : Nat) : Bool :=
  (metIn (b / fnStride) (b % fnStride / 8 / 4 * 4)).any (fun m =>
    m.fld.bit = b && (m.row.st || keptFields.any (fun k => k.1 = m.reg && k.2.contains m.row.name)))

/-- Attention conditions whose cause outlives the reset. -/
def keptAttn (a : Attn) : Bool :=
  match a with
  | .recoveryReport => true | .singleCopy => true | .plinthBank _ => true | .nearChannel _ => true | .quarryDevice _ => true
  | .coreRetired => true | .corePool => true | .other c _ => decide (c = clsFirmware) | .laneSpares _ => true | .keySlot _ => true | .planSuspended _ => true
  | _ => false

/-- The reset itself: what R650 keeps, and the tables that committed items wrote, on which accepted items rest (R44). -/
def Chip.warmCore (d : Chip) : Chip :=
  let fenced := (List.range 64).filter (fun n => d.rg (Reg.WKC_STATE.STATE n) = 1)
  { free := d.free
    regs := d.regs.filter (fun p => keptField p.1)
    latch := d.latch.filter (fun p => keptField p.1)
    satCtrs := d.satCtrs
    mem := { cells := d.mem.cells.filter (fun c => !isSram c.1), poison := d.mem.poison.filter (fun g => !isSram g) }
    led := { d.led with pass := none, stallRun := 0, checked := d.led.checked && !d.led.lost }
    attn := d.attn.filter (fun c => keptAttn c.why)
    owed := d.owed.filter (fun r => !r.more)
    agents := d.agents.filter (fun a => a.2.st = .fenced)
    hub := { faultN := d.hub.faultN, inReset := true }
    tck := { cycle := d.tck.cycle, frames := d.tck.frames, rxAt := d.tck.rxAt, taken := d.tck.taken, rxNumber := d.tck.rxNumber,
             adopt := d.tck.adopt, markersSent := d.tck.markersSent }
    ldr := { d.ldr with swap := false }
    mu := { d.mu with merge := [], inWindow := [], xlat := [], moveQ := [], moving := none, paused := false }
    wk := { d.wk with arrive := [], obFail := [] }
    coll := { d.coll with pace := [] }
    kv := { d.kv with moveQ := [], moving := none, paused := false, log := [], running := none, waiting := d.kv.running.toList ++ d.kv.waiting,
                      restart := none }
    hif := { hwin := d.hif.hwin, pools := d.hif.pools, vfMe := d.hif.vfMe, aer := d.hif.aer, unmasked := d.hif.unmasked, atc := d.hif.atc,
             dirty := d.hif.dirty }
    pat := d.pat
    lnk := { ports := d.lnk.ports.filterMap (fun (p : Nat × LinkPort) =>
               if p.2.upSeq = 0 ∧ p.2.half.isNone then none else some (p.1, { upSeq := p.2.upSeq, half := p.2.half })),
             sas := d.lnk.sas }
    sec := { d.sec with spdm := [], relayed := 0, rxCounter := [] }
    fw := { flash := d.fw.flash, actSeq := d.fw.actSeq, actSlot := d.fw.actSlot, actMode := d.fw.actMode, stepPlan := d.fw.stepPlan }
    dvt := { d.dvt with wire := [], part := [], cache := [],
                        conns := d.dvt.conns.map (fun (c : Nat × DvtConn) => (c.1, { c.2 with staged := [] })) }
    dma := d.dma
    pkt := { d.pkt with miss := [], wheel := [], paused := [], xoff := [], keyWait := [], cache := [], toHost := [], toDvt := [], tx := [], pfc := [],
                        queues := d.pkt.queues.map (fun (q : Nat × PQueue) => (q.1, { q.2 with frames := [], tokens := (q.2.burst * 16000 : Nat), at_ := d.pkt.now, credit := 0 })),
                        policers := d.pkt.policers.map (fun (p : Nat × Policer) => (p.1, { p.2 with tokens := p.2.burst * 2 ^ 16, at_ := d.pkt.now })) }
    nvs := { d.nvs with hand := [] }
    ckp := { d.ckp with notices := [] }
    pwr := { d.pwr with trigger := d.warmCause, released := false, fencedAt := fenced, pllStart := false, switchDue := false,
                        entering := 0, exiting := false, joinWanted := false } }

/-- A core retired stays retired until cold start, and roles stay where retirements moved them (R368). -/
def Chip.keepRetired (d old : Chip) : Chip :=
  (List.range 16).foldl (fun (d : Chip) n =>
    let d := d.sr (Reg.AMT_CORE_STATE.ROLE n) (old.rg (Reg.AMT_CORE_STATE.ROLE n))
    if old.rg (Reg.AMT_CORE_STATE.STATE n) = 6 then d.sr (Reg.AMT_CORE_STATE.STATE n) 6 else d) d

/-- Grants once the pool has formed again (R705): a position whose core is no longer in service takes the lowest in-service core that no plan
holds, plans in admission order. One that cannot be filled keeps its core until the loader's tick. -/
def Chip.refillGrants (d : Chip) : Chip :=
  d.ldr.plans.foldl (fun (d : Chip) p => d.regrant p.id (p.cores.foldl (fun (acc : List Nat) c =>
    acc ++ [if coreUp d c then c else ((freeCores d []).find? (fun k => !acc.contains k)).getD c]) [])) d

/-- WARM_CHIP_RESET: void where nothing calls for it, and while one runs. -/
def warmChipReset (d : Chip) : Chip :=
  let cause := d.warmCause
  if cause = 0 ∨ d.hub.inReset ∨ d.pwr.por then d
  else
    let d := d.allFenced
    let d := d.mu.merge.foldl (fun (d : Chip) e => d.flushMerge e.word) d
    let d := ((d.warmReport).warmCore.keepRetired d).syncFree
    let d := (d.mr Reg.PCR_STATE.WARM_COUNT (fun v => min (v + 1) 0xFFFF)).sr Reg.PCR_STATE.WARM_CAUSE cause
    ((d.sr Reg.PCR_STATE.LAST_RESET 1).sr Reg.PCR_RESET.WARM 1).attnUpdate.patCount 0xC 32

def execWarmChipReset (s : State) : Out := s.on warmChipReset

/-- WARM_RESET_RELEASE: RETAINED is set, and the Maquette copy is loaded. -/
def warmResetRelease (d : Chip) : Chip :=
  if !d.hub.inReset ∨ d.pwr.released then d
  else
    let d : Chip := { d with pwr := { d.pwr with released := true } }
    maquetteAgain ((d.sr Reg.MEM_PLINTH_STATE.RETAINED 1).sr Reg.MEM_PLINTH_STATE.INIT_BUSY 0)

def execWarmResetRelease (s : State) : Out := s.on warmResetRelease

/-- A core that was fenced at the reset runs SELFTEST (R705): one that fails is retired, one that passes is in the pool. -/
def Chip.testCore (d : Chip) (n : Nat) (fails : Bool) : Chip :=
  if d.rg (Reg.WKC_STATE.ROLE n) = 2 then d
  else
    let d := d.sr (Reg.WKC_STATE.SELFTEST n) (if fails then 2 else 1)
    if fails then d.retireCore n else d

def allBlocks : List Block :=
  [.glb, .hif, .tck, .wkc, .col, .kva, .mem, .amt, .lnk, .dvt, .pkt, .dma, .nvs, .ckp, .sec, .obs, .pat]

/-- NAK with REASON 3 on every OPEN connection (R419). -/
def Chip.resyncConns (d : Chip) : Chip :=
  (d.dvt.conns.filter (fun (c : Nat × DvtConn) => c.2.state = .open)).foldl (fun (d : Chip) (c : Nat × DvtConn) =>
    d.dvtPut c.1 c.2 ⟨0x11, 0, 0, 3, c.2.peerConn, c.2.expected, 0, 0, 0, 0, []⟩) d

/-- The cores that were fenced at the reset tested, the grants filled again, and the pool's attention ended once it is whole (R705). -/
def Chip.poolTested (d : Chip) (failed : Nat) : Chip :=
  let d := d.pwr.fencedAt.foldl (fun (d : Chip) n => d.testCore n (bitOf failed n)) d
  let d := d.refillGrants
  if (upCores d).length ≥ d.wk.configured then d.endAttn .corePool else d

/-- The reset is over: READY, with FAULT_N released, the ring join that was asked for started, and plans admitted again at the next tick. -/
def Chip.resetOver (d : Chip) : Chip :=
  let d : Chip := { d with
    hub := { d.hub with faultN := false, inReset := false, chipReset := false }, agents := [], ldr := { d.ldr with readmit := true }
    pwr := { d.pwr with trigger := 0, fencedAt := [], readyTick := d.tick, petTick := d.tick } }
  let d := (d.sr Reg.PCR_RESET.WARM 0).sr Reg.PCR_STATE.READY 1
  if d.pwr.joinWanted then d.askJoin else d

/-- Every block takes up what it holds. -/
def Chip.allResume (d : Chip) : Chip := (allBlocks.foldl (fun (d : Chip) b => d.blockResumes b) d).resyncConns

/-- WARM_RESET_READY: firmware runs on the PLLs, accepted items resume, FAULT_N is released; `failed` marks the fenced cores whose
self test fails. -/
def warmResetReady (d : Chip) (failed : Nat) : Chip :=
  if !d.hub.inReset ∨ !d.pwr.released ∨ d.flag Reg.FLT_SAFE.SAFE ∨ !d.flag Reg.PCR_STATE.MAQ_LOADED ∨ !d.coresReleased ∨
      !d.flag Reg.PCR_STATE.CLK_SRC ∨ d.led.lost then d
  else (d.poolTested failed).resetOver.allResume

def execWarmResetReady (failed : BitVec 64) (s : State) : Out := s.on (fun d => warmResetReady d failed.toNat)

/-! ## Power states (R651 to R654) -/

/-- The device is idle (R651), but for what its ports have sent. -/
def Chip.isIdle (d : Chip) : Bool :=
  d.led.items.all (fun i => i.state.ended && i.replied) && d.led.arising.isEmpty && d.owed.isEmpty && d.fetched.isEmpty &&
  (List.range 16384).all (fun r => !d.flag (Reg.HIF_RING.ENABLE r) || d.rg (Reg.HIF_DB_CMD.CMD_TAIL r) = d.rg (Reg.HIF_RING_IDX.CMD_HEAD r)) &&
  d.hif.mbox.all (fun (m : Nat × Mbox) => !m.2.db) && d.nvs.hand.isEmpty && d.nvs.due.isEmpty &&
  d.nvs.ctls.all (fun (c : Nat × NvmeCtl) => c.2.sqs.all (fun (q : Nat × NvmeSq) => q.2.head = q.2.tail) && c.2.cqs.all (fun (q : Nat × NvmeCq) => q.2.wait.isEmpty)) && d.ldr.cmds.isEmpty &&
  d.ldr.plans.all (fun p => p.state = .faulted || p.state = .suspended) &&
  d.coll.slots.all (fun (s : Nat × SlotRec) => s.2.state ≠ .armed) && d.kv.svcs.all (fun (s : Nat × SvcRec) => s.2.state ≠ .bound) &&
  d.ckp.jobs.all (fun (j : Nat × CkpJob) => j.2.run.isNone && j.2.restore.isNone) &&
  (List.range 32).all (fun c => d.rg (Reg.DMA_CHAN_STATE.STATE c) ≠ 2)

def Chip.allPortsDown (d : Chip) : Bool := (List.range 12).all (fun p => d.rg (Reg.LNK_PORT_STATE.STATE p) = 0)

/-- The summary record (R676): the working copy becomes the summary last written, with its place in the log. -/
def Chip.patSummary (d : Chip) : Chip :=
  let t := d.tick
  let d : Chip := { d with pat := { d.pat with summary := d.pat.work } }
  ((d.patEvent 1 []).sr Reg.PAT_STATE.LAST_SUMMARY t).count (Reg.PAT_COUNT.COUNT 1)

/-- An idle timer expires: entry to the state begins, with its steps (R652). -/
def enterPower (d : Chip) (k : Nat) : Chip :=
  if !d.flag Reg.PCR_STATE.READY ∨ d.hub.inReset ∨ d.pwr.trigger ≠ 0 ∨ d.pwr.exiting ∨ d.flag Reg.FLT_SAFE.SAFE ∨ !d.isIdle ∨
      d.rg Reg.PCR_IDLE_CFG.MAX_STATE < k ∨ d.rg Reg.PCR_STATE.POWER ≥ k ∨ d.pwr.entering ≥ k ∨ (k = 3 ∧ !d.allPortsDown) then d
  else
    let d : Chip := { d with pwr := { d.pwr with entering := k } }
    let d := if k = 1 then d else d.mu.merge.foldl (fun (d : Chip) e => d.flushMerge e.word) d
    if k < 3 then d
    else ({ d with dvt := { d.dvt with cache := [] }, mu := { d.mu with xlat := [] }, hif := { d.hif with atc := [] } }.sr
      Reg.DVT_CONN_STATE.CACHED 0).patSummary

def execIdleTimerA1 (s : State) : Out := s.on (fun d => enterPower d 1)
def execIdleTimerA2 (s : State) : Out := s.on (fun d => enterPower d 2)
def execIdleTimerA3 (s : State) : Out := s.on (fun d => enterPower d 3)

/-- The core-die SRAM loses its contents (R276, R650). -/
def Chip.sramLost (d : Chip) : Chip :=
  { d with mem := { cells := d.mem.cells.filter (fun c => !isSram c.1), poison := d.mem.poison.filter (fun g => !isSram g) } }

/-- POWER_STATE_ENTRY_COMPLETE: the clocks are gated; in A3 the core die is off and the core PLLs with it. -/
def entryComplete (d : Chip) : Chip :=
  let k := d.pwr.entering
  if k = 0 then d
  else
    let d : Chip := { d with pwr := { d.pwr with entering := 0 } }.sr Reg.PCR_STATE.POWER k |>.count (Reg.PCR_COUNT.COUNT (k - 1))
    if k < 3 then d
    else
      let d : Chip := { d.sramLost with pwr := { d.pwr with pllStart := false, switchDue := false } }
      ((d.sr Reg.PCR_STATE.CLK_SRC 0).sr Reg.PCR_CLK_CTRL.LOCKED 0).sr Reg.PCR_CLK_CTRL.START 0 |>.sr Reg.PCR_CLK_CTRL.SWITCH 0

def execPowerStateEntryComplete (s : State) : Out := s.on entryComplete

def execWakeEvent (s : State) : Out := s.on Chip.wake

/-- EXIT_COMPLETE: from A3 the PLL switch must have been made, and every Armature core is loaded from the running image. -/
def exitComplete (d : Chip) : Chip :=
  if !d.pwr.exiting ∨ (d.rg Reg.PCR_STATE.POWER = 3 ∧ !d.flag Reg.PCR_STATE.CLK_SRC) then d
  else
    let deep := decide (d.rg Reg.PCR_STATE.POWER = 3)
    let d : Chip := { d with pwr := { d.pwr with exiting := false } }.sr Reg.PCR_STATE.POWER 0
    if !deep then d
    else (List.range 16).foldl (fun (d : Chip) n =>
      if d.rg (Reg.AMT_CORE_STATE.STATE n) = 6 then d else d.coreReload n (d.coreImage n)) d

def execExitComplete (s : State) : Out := s.on exitComplete

/-- WAKE_BOUND_EXPIRY: the exit goes on. -/
def execWakeBoundExpiry (s : State) : Out :=
  s.on (fun d => if d.pwr.exiting then d.fault Src.PCR_WAKE_FAIL (d.rg Reg.PCR_STATE.POWER) else d)

/-! ## Rails, gating, the oscillator and the temperature (R657, R685, R697) -/

/-- RAIL_EXCURSION of a rail of R683 (0 VDD_AON, 1 VDD_IO, 2 VDD_PLINTH, ...): the Plinth rail forces a cold reset, and a fall of
VDD_AON is a power-down. -/
def execRailExcursion (rail : Fin 8) (s : State) : Out :=
  s.on (fun d =>
    if rail = 0 then d.coldReset.pinsReleased
    else
      let d := d.fault Src.PCR_RAIL rail
      if rail = 2 then d.coldReset else d)

/-- PCR_GATE_FAIL of a domain, numbered as DETAIL gives it. -/
def execPcrGateFail (domain : BitVec 16) (s : State) : Out := s.on (fun d => d.fault Src.PCR_GATE_FAIL domain.toNat)

/-- PCR_OSC: void for a frequency within 190 MHz to 210 MHz, which is measured without an event. -/
def execPcrOsc (mhz : BitVec 8) (s : State) : Out :=
  s.on (fun d =>
    let d := d.sr Reg.PCR_CLK_CTRL.OSC_MHZ mhz.toNat
    if 190 ≤ mhz.toNat ∧ mhz.toNat ≤ 210 then d else d.fault Src.PCR_OSC mhz.toNat)

def execThermtrip (s : State) : Out := s.on (fun d => { d with pwr := { d.pwr with thermtrip := true } })

end Sys2Proof.Machine
end

