-- ==== Sys2Proof/Machine/Obs.lean ====
section
/-! DEFINITION. Counters, trace, debug, hang snapshots, Caliper and Patina (R659 to R678), and the FLAGS cell (R59). -/
namespace Sys2Proof.Machine
open Sys2Proof

/-! ## Counters (R661) -/

/-- Whether a stored field is a counter: a COUNT of 48 bits (R659). -/
def isCounter (b : Nat) : Bool :=
  (metIn (b / fnStride) (b % fnStride / 8 / 4 * 4)).any (fun m => m.fld.bit = b && m.counter)

/-- The BAR0 block index of a field. -/
def blockOf (b : Nat) : Nat := b % fnStride / 8 / 0x10_0000

/-- Every counter of a block cleared, with its saturation. -/
def Chip.clearCounters (d : Chip) (k : Nat) : Chip :=
  if k > 18 then d
  else
    let d : Chip := { d with
      regs := d.regs.filter (fun p => !(blockOf p.1 = k && isCounter p.1))
      satCtrs := d.satCtrs.filter (fun b => blockOf b ≠ k) }
    d.setBit Reg.OBS_SAT_BLOCKS.BLOCKS k false

def execObsCtrClear (block : BitVec 5) (s : State) : Out := s.on (fun d => d.clearCounters block.toNat)

/-! ## Trace (R664 to R667, R678) -/

/-- ENABLE cleared: OFF, the stored records in place; those still in the FIFOs go (DESIGN CHOICE, log entry 57). -/
def Chip.traceOff (d : Chip) : Chip :=
  { d with trc := { d.trc with due := false, fifo := [], lost := [] } }.sr Reg.OBS_TRACE_CFG.ENABLE 0 |>.sr Reg.OBS_TRACE_STATE.STATE 0

/-- ENABLE set: PRE, with a SYNC record of every core traced. -/
def Chip.traceOn (d : Chip) : Chip :=
  let d := ((d.sr Reg.OBS_TRACE_CFG.ENABLE 1).sr Reg.OBS_TRACE_STATE.STATE 1).sr Reg.OBS_TRACE_TRIG.GO 0
  let d : Chip := { d with trc := { d.trc with high := 0, left := 0, due := false, fifo := [], lost := [] } }.mr Reg.OBS_TRACE_STATE.WRITE_INDEX (· % d.traceCap)
  (List.range 16).foldl (fun (d : Chip) n =>
    if bitOf (d.rg Reg.OBS_TRACE_CFG.CORES) n ∧ (d.core n).released then
      (d.setCore n { d.core n with icount := 0, trecs := 0 }).traceSync n else d) d

/-- A write of OBS_TRACE_CFG: while ENABLE is 1 it changes ENABLE only. -/
def Chip.traceCfg (d : Chip) (v : Nat) : Chip :=
  if d.flag Reg.OBS_TRACE_CFG.ENABLE then (if bitOf v 63 then d else d.traceOff)
  else
    let d := ((d.sr Reg.OBS_TRACE_CFG.DATA (bitsOf v 62 1)).sr Reg.OBS_TRACE_CFG.PRE (bitsOf v 59 3)).sr Reg.OBS_TRACE_CFG.CORES (bitsOf v 0 16)
    let d := d.sr Reg.OBS_TRACE_CFG.BASE (bitsOf v 16 36)
    let d := if bitsOf v 55 4 ≤ 9 then d.sr Reg.OBS_TRACE_CFG.SIZE (bitsOf v 55 4) else d
    if bitOf v 63 then d.traceOn else d

def execTraceEnable (value : BitVec 63) (s : State) : Out := s.on (fun d => d.traceCfg (value.toNat + 2 ^ 63))
/-- TRACE_DISABLE: ENABLE alone is cleared; with ENABLE 0 there is nothing to clear. -/
def execTraceDisable (s : State) : Out := s.on (fun d => if d.flag Reg.OBS_TRACE_CFG.ENABLE then d.traceOff else d)
def execTraceTrigger (s : State) : Out := s.on (fun d => d.traceTrigger 0)

/-- TRACE_POST_DONE: void until the buffer holds its share after the trigger; the funnel has then taken what waited. -/
def execTracePostDone (s : State) : Out :=
  s.on (fun d =>
    let d := d.funnelAll
    if d.rg Reg.OBS_TRACE_STATE.STATE = 2 ∧ d.trc.left = 0 then d.sr Reg.OBS_TRACE_STATE.STATE 3 else d)

def execTraceStop (s : State) : Out := s.on (fun d => d.traceOff.answered (.block .obs) true)

/-! ## Halt and debug access (R668, R669) -/

/-- OBS_DBG_CTRL.HALT: ignored without debug unlock, and of a core that does not run. -/
def Chip.halt (d : Chip) (n : Nat) : Chip :=
  if !d.flag Reg.SEC_STATE.DEBUG ∨ !d.coreRuns n then d else d.debugHalt n

def execHalt (n : Fin 16) (s : State) : Out := s.on (fun d => d.halt n)

/-- A halted core goes on; its watchdog, and the chip watchdog for AC0, were paused meanwhile. -/
def Chip.unhalt (d : Chip) (n : Nat) (stepping : Bool) : Chip :=
  if !d.flag (Reg.OBS_DBG_CTRL.HALTED n) then d
  else
    let gap := d.tick - (tget d.fw.haltAt n).getD d.tick
    let d := (d.sr (Reg.OBS_DBG_CTRL.HALTED n) 0).sr (Reg.AMT_CORE_STATE.STATE n) 0
    let d : Chip := { d with
      fw := { d.fw with pets := tupd d.fw.pets n (· + gap), haltAt := tdel d.fw.haltAt n }
      pwr := { d.pwr with petTick := if n = 0 then d.pwr.petTick + gap else d.pwr.petTick } }
    if stepping then d.setCore n { d.core n with stepping := true } else d.trace n 8 0 (d.core n).pc.toNat

def execResume (n : Fin 16) (s : State) : Out := s.on (fun d => d.unhalt n false)

/-- STEP: the core runs its next instruction and halts again. -/
def execStep (n : Fin 16) (s : State) : Out := s.on (fun d => d.unhalt n true)

/-- A register read by INDEX of OBS_DBG_ACC; none where the index names none. -/
def Chip.dbgRead (d : Chip) (n : Fin 16) (k : Nat) : Option TVal :=
  let c := d.core n
  if h : k < 32 then some (c.reg ⟨k, h⟩)
  else if k < 0x28 then some ⟨accHalf (c.accum ((k - 0x20) / 2)) (k % 2 = 1), .int⟩
  else if 0x100 ≤ k then d.csrRead n (k - 0x100) else none

/-- A register written; none where the write is refused. -/
def Chip.dbgWrite (d : Chip) (n : Fin 16) (k : Nat) (x : TVal) : Option Chip :=
  let c := d.core n
  if h : k < 32 then some (d.setCore n (c.setReg ⟨k, h⟩ x))
  else if k < 0x28 then
    let a := (k - 0x20) / 2
    some (d.setCore n (c.setAccum a (withHalf (c.accum a) (k % 2 = 1) x.v)))
  else if 0x100 ≤ k ∧ csrWritable (k - 0x100) then some (d.setCore n (c.csrWrite (k - 0x100) x)) else none

/-- The access that GO performs: a KEYH value reads 0, and tags NUL, DESC, SEQ and KEYH are not written. -/
def Chip.dbgAcc (d : Chip) (n : Fin 16) : Chip :=
  let k := d.rg (Reg.OBS_DBG_ACC.INDEX n)
  let err (b : Bool) (d : Chip) : Chip := d.sr (Reg.OBS_DBG_ACC.ERR n) (b2n b)
  if !d.flag (Reg.OBS_DBG_CTRL.HALTED n) then err true d
  else if d.flag (Reg.OBS_DBG_ACC.WRITE n) then
    match Tag.ofCode (d.rg (Reg.OBS_DBG_ACC.TAG n)) with
    | none => err true d
    | some t =>
      if [Tag.nul, .desc, .seq, .keyh].contains t then err true d
      else match d.dbgWrite n k ⟨BitVec.ofNat 64 (d.rg (Reg.OBS_DBG_DATA.DATA n)), t⟩ with
        | none => err true d
        | some d => err false d
  else match d.dbgRead n k with
    | none => (err false d).sr (Reg.OBS_DBG_DATA.DATA n) (Config.freeWord d.free).toNat |>.takeFree
    | some x =>
      ((err false d).sr (Reg.OBS_DBG_DATA.DATA n) (if x.t = .keyh then 0 else x.v.toNat)).sr (Reg.OBS_DBG_ACC.TAG n) x.t.code |>.takeFree

/-- A write of OBS_DBG_ACC with GO. -/
def execObsDbgAcc (n : Fin 16) (write : Bool) (tag : BitVec 4) (index : BitVec 12) (s : State) : Out :=
  s.on (fun d => Chip.dbgAcc (((d.sr (Reg.OBS_DBG_ACC.WRITE n) (b2n write)).sr (Reg.OBS_DBG_ACC.TAG n) tag.toNat).sr
    (Reg.OBS_DBG_ACC.INDEX n) index.toNat) n)

/-! ## Hang snapshots (R670) -/

/-- The block agents in the order of the source map (R617), 97 of them. -/
def agentAt (k : Nat) : Agent :=
  if k < 64 then wcAgent k else if k < 80 then acAgent (k - 64)
  else .block (([.tck, .col, .kva, .mem, .lnk, .dvt, .pkt, .hif, .dma, .nvs, .ckp, .sec, .pcr, .glb, .obs, .pat, .flt] : List Block).getD (k - 80) .glb)

/-- BLOCK and UNIT of an agent's record. -/
def agentUnit (a : Agent) : Nat × Nat :=
  match a with
  | .wc n => (5, n)
  | .ac n => (9, n)
  | .block b => (blockIdx b, 0)

/-- Whether an item is held by an agent: its engine, and for a core the one it runs on. -/
def heldByAgent (a : Agent) (i : Item) : Bool :=
  match a, i.kind with
  | .wc n, .work => i.owner = n.val
  | .wc _, _ => false
  | .ac n, _ => i.owner = 0x40 + n.val
  | .block .col, .coll => true
  | .block .col, .firing _ _ => true
  | .block .kva, .query _ _ => true
  | .block .dvt, .dvt => true
  | .block .dvt, .atomic _ _ => true
  | .block .dma, .dma _ => true
  | .block .nvs, .nvme _ _ _ => true
  | .block .ckp, .checkpoint _ => true
  | _, _ => false

/-- One record. What an item waits on and since when, the mesh credits and the queue counts are free values. -/
def Chip.hangRecord (d : Chip) (k : Nat) (noans : Bool) : Chip :=
  let a := agentAt k
  let is := d.led.items.filter (fun i => !i.state.ended && heldByAgent a i)
  let u := agentUnit a
  let free (j n : Nat) : List Nat := leBytes n (Config.freeWord (d.free + j)).toNat
  let head := [u.1, u.2, (d.agentSt a).code, b2n noans] ++ leBytes 4 is.length ++ leBytes 8 (((is.head?.map (fun (i : Item) => i.seq)).getD 0))
  let body := if noans then [u.1, u.2, 0, 1] ++ free 0 4 ++ (List.range 7).flatMap (fun j => free (j + 1) 8)
    else head ++ (if is.isEmpty then [0] else [(Config.freeWord d.free).toNat % 10]) ++ List.replicate 7 0 ++ free 1 8 ++ free 2 5 ++ [0, 0, 0] ++
      free 3 5 ++ [0, 0, 0] ++ free 4 8 ++ free 5 8
  { d.wr (d.rg Reg.OBS_HANG.BASE + 64 * k) body with free := d.free + 8 }

/-- DONE, once the last record is written; GO reads 1 until then (DESIGN CHOICE, log entry 17). -/
def Chip.hangDone (d : Chip) : Chip :=
  if d.hub.hang.isEmpty then ((d.sr Reg.OBS_HANG.DONE 1).sr Reg.OBS_HANG.GO 0).count (Reg.OBS_COUNT.COUNT 4) else d

/-- OBS_HANG.GO: every agent but the silent ones writes its record. -/
def Chip.hangGo (d : Chip) (silent : List Nat) : Chip :=
  let d := ((d.sr Reg.OBS_HANG.GO 1).sr Reg.OBS_HANG.DONE 0).sr Reg.OBS_HANG.NOANS 0
  let d := (List.range 97).foldl (fun (d : Chip) k => if silent.contains k then d else d.hangRecord k false) d
  { d with hub := { d.hub with hang := (List.range 97).filter (fun k => silent.contains k) } }.hangDone

def execObsHang (silent : List (Fin 97)) (s : State) : Out := s.on (fun d => d.hangGo (silent.map (fun k => k.val)))

/-- HANG_AGENT_TIMEOUT: void unless the agent's record is still owed. -/
def execHangAgentTimeout (agent : Fin 97) (s : State) : Out :=
  s.on (fun d =>
    if !d.hub.hang.contains agent.val then d
    else
      let d := (d.hangRecord agent true).mr Reg.OBS_HANG.NOANS (fun v => v + 1)
      { d with hub := { d.hub with hang := d.hub.hang.filter (· ≠ agent.val) } }.hangDone)

/-! ## Caliper (R671 to R674) -/

def sumOver (n : Nat) (f : Nat → Nat) : Nat := (List.range n).foldl (fun (a : Nat) k => a + f k) 0

/-- The counts of R671's record: FEC symbols, replays, Plinth corrections, near-tier retries, lines poisoned. -/
def Chip.calTotals (d : Chip) : List Nat :=
  let m (k : Nat) : Nat := d.rg (Reg.MEM_COUNT.COUNT k)
  [sumOver 12 (fun p => d.rg (Reg.LNK_COUNT.COUNT p 0)), sumOver 12 (fun p => d.rg (Reg.LNK_COUNT.COUNT p 2)), m 0 + m 1, m 9,
   m 2 + m 3 + m 8 + m 11 + m 13]

/-- Mean package power over the last 16 frames, in mW. -/
def Caliper.mean (c : Caliper) : Nat := sumOver c.means.length (fun k => c.means.getD k 0) / max c.means.length 1

/-- Lanes carried on spares. -/
def Chip.laneSpared (d : Chip) : Nat :=
  ((List.range 12).filter (fun p => d.rg (Reg.LNK_PORT_STATE.SPARED_POS p) ≠ 0x1F)).length

def signed16 (t : Int) : Nat := (t % 65536).toNat

/-- The record of the old frame (R671). -/
def Chip.calRecord (d : Chip) (x : CaliperSample) : List Nat :=
  let c := d.cal
  let delta (k : Nat) : Nat := c.totals.getD k 0 - c.base.getD k 0
  let em := c.emergency
  leBytes 8 c.frame ++ leBytes 4 x.pkgMw ++ leBytes 2 x.coreMv ++
    [b2n c.turbo + b2n (em && c.power) * 2 + b2n (em && c.thermal) * 4 + b2n em * 8 + b2n x.sensorFailed * 16,
     if em then d.rg Reg.CAL_LIMIT.DUTY else 16] ++
    (List.range 9).flatMap (fun k => leBytes 2 (signed16 (x.temps.getD k 0))) ++ [0, 0] ++
    leBytes 4 (delta 0) ++ leBytes 2 (delta 1) ++ leBytes 2 d.laneSpared ++ leBytes 4 (delta 2) ++ leBytes 4 (delta 3) ++ leBytes 2 (delta 4) ++
    [0, 0] ++ (List.range 8).flatMap (fun p => leBytes 2 (((tget c.sent p).map (fun s => s.1)).getD 0)) ++
    (List.range 8).flatMap (fun p => leBytes 2 ((tget c.reported p).getD 0)) ++ List.replicate 40 0

/-- The flags this device sets, and turbo, after a frame's sample (R672, R674). -/
def Chip.calJudge (d : Chip) (x : CaliperSample) : Chip :=
  let means := (x.pkgMw :: d.cal.means).take 16
  let c := { d.cal with means := means }
  let limit : Int := d.rg Reg.CAL_LIMIT.EMERG_C
  let hot := x.temps.any (fun t => decide (t > limit * 8)) || x.sensorFailed
  let cool := x.temps.all (fun t => decide (t ≤ (limit - 10) * 8)) && !x.sensorFailed
  { d with cal := { c with
      power := decide (c.mean > d.rg Reg.CAL_LIMIT.EMERG_W * 1000)
      thermal := hot
      turbo := !c.emergency && decide (c.mean < d.rg Reg.CAL_LIMIT.TURBO_W * 1000) && cool } }

/-- CALIPER_RECORD_CLOSE: void unless a frame has ended since the last record. -/
def caliperClose (d : Chip) (x : CaliperSample) : Chip :=
  if !d.cal.due then d
  else d.atCycle 8 fun d =>
    let cap := 1024 * 2 ^ d.rg Reg.CAL_CFG.SIZE
    let d := d.wr (d.rg Reg.CAL_CFG.BASE + 128 * (d.cal.frame % cap)) (d.calRecord x)
    let d := { d with cal := { d.cal with due := false } }.count (Reg.OBS_COUNT.COUNT 3)
    let d := if x.sensorFailed then d.fault Src.CAL_SENSOR else d
    d.calJudge x

def execCaliperRecordClose (sample : CaliperSample) (s : State) : Out := s.on (fun d => caliperClose d sample)

/-- The tick's part: the record of the frame that ends becomes due, and an emergency whose flag was set or received begins. -/
def Chip.calTick (d : Chip) (opened : Nat) : Chip :=
  let flag := d.cal.flagged || d.cal.power || d.cal.thermal
  let d : Chip := { d with cal := { d.cal with
    due := true, frame := opened, base := d.cal.totals, totals := d.calTotals, flagged := false
    lastFlag := if flag then d.tick else d.cal.lastFlag } }
  let d :=
    if flag ∧ !d.cal.emergency then
      let d := ({ d with cal := { d.cal with emergency := true, turbo := false } }.fault Src.CAL_EMERGENCY).raiseAttn .emergency .degraded clsPower
      if d.rg Reg.AMT_FW_STATE.ACT = 2 then d.sr Reg.AMT_FW_STATE.ACT 3 else d
    else d
  if d.cal.emergency then d.count (Reg.OBS_COUNT.COUNT 6) else d

/-- EMERGENCY_END: void until 16 ticks have passed without a flag. -/
def execEmergencyEnd (s : State) : Out :=
  s.on (fun d =>
    if !d.cal.emergency ∨ d.tick < d.cal.lastFlag + 16 then d
    else { d with cal := { d.cal with emergency := false, ended := d.tick } }.endAttn .emergency)

/-- REPORT from a position: power in 0.25 W units, for every port whose POS matches; no rule keeps the temperature. -/
def execReport (source : Fin 16) (power : BitVec 16) (_temp : BitVec 8) (s : State) : Out :=
  s.on (fun d =>
    let ps := (List.range 8).filter (fun p => d.rg (Reg.CAL_ACC.POS p) = source.val)
    let d := d.wake
    { d with cal := { d.cal with reported := ps.foldl (fun (t : Tbl Nat) p => tput t p power.toNat) d.cal.reported } })

/-- BUDGET or EMERG to one port's accelerator: when the value changes and at least once every 256 ticks. -/
def budget (d : Chip) (p : Nat) : Chip :=
  let v := if d.cal.emergency then d.rg (Reg.CAL_ACC.EMERG p) else d.rg (Reg.CAL_ACC.BUDGET p)
  let again := match tget d.cal.sent p with
    | none => true
    | some (w, t) => decide (w ≠ v ∨ d.tick ≥ t + 256)
  if !d.flag Reg.CAL_CFG.OWNER ∨ d.rg (Reg.CAL_ACC.BUDGET p) = 0 ∨ !again ∨ !onRing d then d
  else
    let cell : RingCell := .msg (d.rg (Reg.CAL_ACC.POS p)) (ringPos d) 0x10 (leBytes 2 v ++ [0, 0, b2n d.cal.emergency, 0, 0, 0, 0])
    { d with
      tck := { d.tck with out := d.tck.out ++ [cell] }
      cal := { d.cal with sent := tput d.cal.sent p (v, d.tick) } }.count (Reg.OBS_COUNT.COUNT 7)

def execBudget (p : Fin 8) (s : State) : Out := s.on (fun d => budget d p)

/-! ## The FLAGS cell (R59) -/

/-- The device's own flag bits. -/
def Chip.ownFlags (d : Chip) : Nat := b2n d.hub.faultN + b2n d.cal.power * 4 + b2n d.cal.thermal * 8

/-- FLAGS_CELL: the device's bits are ORed in as it forwards; those received draw its reaction. -/
def flagsCell (d : Chip) (crcOk : Bool) (f : Nat) : Chip :=
  if !crcOk then d.badCell (.flags f)
  else
    let d := d.forward (.flags (f ||| d.ownFlags))
    let d := d.sr Reg.TCK_STATUS.BOARD_FLAGS (f / 16)
    let d : Chip := if bitOf f 2 || bitOf f 3 then { d with cal := { d.cal with flagged := true } } else d
    let d := if bitOf f 0 then d.fault Src.RING_NODE_FAULT else d
    if bitOf f 1 then d.raiseAttn .haltRequest .halting clsFaults else d

def execFlagsCell (crcOk : Bool) (flags : BitVec 8) (s : State) : Out := s.on (fun d => flagsCell d crcOk flags.toNat)

/-! ## Patina (R675 to R678) -/

/-- The tick's part: tick time goes on, and POWER_ON_S with it. -/
def Chip.patTick (d : Chip) : Chip :=
  let t := d.pat.time + d.rg Reg.TCK_PERIOD.PERIOD
  let s := t / 4_000_000 - d.pat.time / 4_000_000
  let d := if s = 0 then d else d.patCount 0 64 s
  { d with pat := { d.pat with time := t } }

/-- PATINA_SUMMARY: void before 2^26 µs of tick time have passed since the last. -/
def execPatinaSummary (s : State) : Out :=
  s.on (fun d =>
    if d.pat.time < d.pat.sumDue + 2 ^ 28 then d
    else ({ d with pat := { d.pat with sumDue := d.pat.time } }).patSummary)

/-- The histogram bins of a temperature in 1/8 °C and of a core voltage in mV. -/
def tempBin (t : Int) : Nat := if t < 0 then 0 else min (t.toNat / 32 + 1) 31
def voltBin (mv : Nat) : Nat := if mv < 675 then 0 else if mv > 825 then 31 else min ((mv - 675) / 5 + 1) 30

/-- HISTOGRAM_SAMPLE: void before 262,144 µs of tick time have passed since the last. -/
def execHistogramSample (sample : CaliperSample) (s : State) : Out :=
  s.on (fun d =>
    if d.pat.time < d.pat.histDue + 2 ^ 20 then d
    else
      let d : Chip := { d with pat := { d.pat with histDue := d.pat.time } }
      let d := (List.range 9).foldl (fun (d : Chip) k => d.patCount (0x20 + (k * 32 + tempBin (sample.temps.getD k 0)) * 4) 32) d
      d.patCount (0x4A0 + voltBin sample.coreMv * 4) 32)

def execPatFlush (s : State) : Out := s.on (fun d => d.patSummary.answered (.block .pat) true)

end Sys2Proof.Machine
end

