-- ==== Sys2Proof/Machine/Board.lean ====
section
/-! DEFINITION. The board's side of the device (R633, R682, R694, R695) and the ledger mirror's training wait (R48). -/
namespace Sys2Proof.Machine
open Sys2Proof

/-! ## The I3C targets (R694, R695) -/

/-- The record of R633. FLAGS bit 0 reads 1 also with STRAP_TEST high (R698). -/
def Chip.i3cStatus (d : Chip) : List Nat :=
  let newest := (d.rg Reg.FLT_HIST_HEAD.HEAD + 31) % 32
  leBytes 8 d.tick ++ [d.attnLevel + d.attnClass * 16,
    b2n (d.flag Reg.FLT_SAFE.SAFE || decide (d.pwr.straps ≥ 4)) + b2n d.hub.faultN * 2 + d.rg Reg.FLT_MODE.MODE * 4 + b2n d.single * 16] ++
    leBytes 2 (d.rg (Reg.FLT_HIST.SOURCE newest)) ++ leBytes 4 (d.rg Reg.FLT_HIST_HEAD.HEAD) ++
    leBytes 8 (d.rg Reg.GLB_LEDGER_HEAD.HEAD) ++ leBytes 2 (d.rg Reg.FLT_SAFE.CAUSE) ++ List.replicate 6 0

/-- VID_TVN is not stated; the other fields of IDENT are. -/
def Chip.i3cIdent (d : Chip) : List Nat :=
  leBytes 2 (Config.freeWord 0).toNat ++ leBytes 2 0x9600 ++ [0xB0, d.pwr.straps % 4, 0, 0]

/-- The bytes of a register of the status target, padded with zeros past its end. -/
def Chip.i3cReg (d : Chip) (index n : Nat) : List Nat :=
  ((match index with
    | 0 => d.i3cStatus
    | 2 => d.i3cIdent
    | _ => []) ++ List.replicate n 0).take n

/-- I3C_STATUS_READ: a private write of the index, then a private read of a number of bytes, which latches what it returns. -/
def execI3cStatusRead (index : BitVec 8) (bytes : BitVec 8) (s : State) : Out :=
  s.on (fun d => { d with pwr := { d.pwr with i3cIndex := index.toNat, i3cLatch := d.i3cReg index.toNat bytes.toNat } })

/-- I3C_WAKE_WRITE: a wake event, without effect in A0. -/
def execI3cWakeWrite (_value : BitVec 8) (s : State) : Out :=
  s.on (fun d => { d.wake with pwr := { d.wake.pwr with i3cIndex := 1 } })

/-- A dynamic address of the management target (0) or the status target (1), by SETDASA or ENTDAA. -/
def execDynamicAddressAssignment (target : Fin 2) (addr : BitVec 7) (s : State) : Out :=
  s.on (fun d => { d with pwr := { d.pwr with i3cAddr := tput d.pwr.i3cAddr target.val addr.toNat } })

/-! ## PERST_N (R682) -/

/-- PERST_N_ASSERT on a PF's link: a PCI Express fundamental reset clears Bus Master Enable of the link's functions, masks their vectors
and drops their translations. -/
def perst (d : Chip) (pf : Nat) : Chip :=
  let fns := pfFns pf
  let d := fns.foldl (fun (d : Chip) f => d.setMaster f false) d
  let d := d.hf (fun h => { h with
    unmasked := h.unmasked.filter (fun v => !fns.contains (v / 2048)), msiPend := h.msiPend.filter (fun v => !fns.contains (v / 2048))
    atc := h.atc.filter (fun a => a / 2 ^ 52 ≠ pf) })
  { d with pwr := { d.pwr with perst := insNat pf d.pwr.perst } }

def execPerstNAssert (pf : Fin 2) (s : State) : Out := s.on (fun d => perst d pf)

end Sys2Proof.Machine
end

