-- ==== Sys2Proof/Machine/Links.lean ====
section
/-! DEFINITION. Ports (chapter 10): received frames, replay, records, rolling calibration, sparing and the link commands. -/
namespace Sys2Proof.Machine
open Sys2Proof

/-! ## Lanes (R379) -/

/-- The lane group of a port index, the port of a group, and the lane that carries a position (16 the spare) of a port: lanes 0 to
191, then S0 to S11. -/
def Chip.portGroup (d : Chip) (p : Nat) : Nat := bitsOf (d.rg Reg.LNK_GROUP_MAP.GROUP) (4 * p) 4

def Chip.laneOf (d : Chip) (p j : Nat) : Nat := if j = 16 then 192 + d.portGroup p else 16 * d.portGroup p + j

def Chip.posOfLane (d : Chip) (lane : Nat) : Option (Nat × Nat) :=
  ((List.range 12).find? (fun p => d.portGroup p = if lane < 192 then lane / 16 else lane - 192)).map (fun p =>
    (p, if lane < 192 then lane % 16 else 16))

/-! ## Lane failures (R391 to R394) -/

def Chip.posFailed (d : Chip) (p j : Nat) : Bool := bitOf (d.rg (Reg.LNK_PORT_STATE.FAILED p)) j

def Chip.halfGood (d : Chip) (p h : Nat) : Bool := (List.range 8).all (fun i => !d.posFailed p (8 * h + i))

/-- Rolling calibration stops for the port. -/
def Chip.endSession (d : Chip) (p : Nat) : Chip :=
  (d.setPort p { d.port p with session := none, retry := none }).sr (Reg.LNK_PORT_STATE.CAL_POS p) 0x1F

/-- The records of a failed lane (R392). -/
def Chip.laneRecorded (d : Chip) (p j : Nat) : Chip :=
  let lane := d.laneOf p j
  ((d.note clsLinks).patEvent 4 [lane]).patSet 0x1140 lane

/-- The switch to the half that holds no failed lane, by RETRAIN; none, and the port is DOWN (R394, R395). -/
def Chip.goHalf (d : Chip) (p : Nat) : Chip :=
  match [0, 1].find? (d.halfGood p) with
  | none => d.portDown p
  | some h =>
    let d := d.sendLink p 8 h
    let d := d.setPort p { d.port p with half := some h }
    { (d.retrain p).raiseAttn (.laneSpares p) .degraded clsLinks with ldr := { d.ldr with readmit := true } }

/-- A lane fails that carries position j (R392, R394, R397). -/
def Chip.laneFail (d : Chip) (p j : Nat) : Chip :=
  if d.posFailed p j then d
  else
    let d := d.setBit (Reg.LNK_PORT_STATE.FAILED p) j true
    let d := (d.count (Reg.LNK_COUNT.COUNT p 6)).fault Src.LNK_LANE_FAIL p
    let d := d.laneRecorded p j
    if !d.isDvl p then { d with ldr := { d.ldr with readmit := true } }
    else if d.rg (Reg.LNK_PORT_STATE.SPARE p) ≠ 2 ∧ d.rg (Reg.LNK_PORT_STATE.SPARED_POS p) = 0x1F then
      let d := (d.endSession p).sendLink p 6 j
      (d.sr (Reg.LNK_PORT_STATE.SPARE p) 1).sr (Reg.LNK_PORT_STATE.SPARED_POS p) j
    else match (d.port p).half with
      | some h => if j / 8 = h then d.portDown p else d
      | none => if d.portUp p ∨ d.portState p = 4 then (d.endSession p).goHalf p else d

/-- LANE_FAILURE. -/
def execLaneFailure (p : Fin 12) (position : Fin 16) (s : State) : Out := s.on (fun d => d.laneFail p position)

/-- A spare that carries no position fails (R393). -/
def Chip.spareFail (d : Chip) (p : Nat) : Chip :=
  if d.rg (Reg.LNK_PORT_STATE.SPARED_POS p) ≠ 0x1F ∨ d.rg (Reg.LNK_PORT_STATE.SPARE p) ≠ 0 then d
  else
    let d := (d.endSession p).sr (Reg.LNK_PORT_STATE.SPARE p) 2
    (d.laneRecorded p 16).fault Src.LNK_SPARE_FAIL p

/-- A spare lane that fails: carrying a spared position, that position fails with it (R394); carrying the position of a session, the position
returns to its own lane, and the spare fails (log entry 35). -/
def Chip.spareLaneFail (d : Chip) (p : Nat) : Chip :=
  let j := d.rg (Reg.LNK_PORT_STATE.SPARED_POS p)
  if d.rg (Reg.LNK_PORT_STATE.SPARE p) = 2 then d
  else if j = 0x1F then ((d.endSession p).sr (Reg.LNK_PORT_STATE.SPARE p) 0).spareFail p
  else
    let d := (d.sr (Reg.LNK_PORT_STATE.SPARE p) 2).count (Reg.LNK_COUNT.COUNT p 6)
    let d := (d.fault Src.LNK_LANE_FAIL p).laneRecorded p 16
    match (d.port p).half with
    | some h => if j / 8 = h then d.portDown p else d
    | none => if d.portUp p ∨ d.portState p = 4 then d.goHalf p else d

def execSpareFailure (p : Fin 12) (s : State) : Out := s.on (fun d => d.spareFail p)

/-! ## Received frames (R381 to R384) -/

/-- Frames up to an acknowledged SEQ leave the replay buffer; waiting frames may go. -/
def LinkPort.acked (x : LinkPort) (ack : Nat) : LinkPort :=
  if x.tx.any (fun f => f.seq = ack) then { x with tx := (x.tx.dropWhile (fun f => f.seq ≠ ack)).drop 1 } else x

/-- A frame discarded: the first discard sends a NAK. -/
def Chip.rxFail (d : Chip) (p : Nat) : Chip :=
  let d := d.count (Reg.LNK_COUNT.COUNT p 1)
  if (d.port p).nakSent then d else (d.setPort p { d.port p with nakSent := true }).sendLink p 1 0

/-- A frame or symbol dropped, with or without LNK_PROTOCOL (R382, R388). -/
def Chip.linkDrop (d : Chip) (p : Nat) (protocol : Bool) : Chip :=
  let d := d.count (Reg.LNK_COUNT.COUNT p 8)
  if protocol then d.fault Src.LNK_PROTOCOL p else d

/-- What the transmitter does for a LINK symbol of the partner's receiver (R388 to R394). -/
def Chip.linkSymbol (d : Chip) (p op arg : Nat) : Chip :=
  let x := d.port p
  match op with
  | 1 => d.resend p
  | 2 => d.setPort p { x with txMirror := some (arg % 16) }
  | 3 => d.setPort p { x with txTrain := some (arg % 16) }
  | 4 => d.setPort p { x with txTrain := none, txMirror := some (arg % 16) }
  | 5 => d.setPort p { x with txMirror := none, txTrain := none }
  | 6 => d.setPort p { x with txSpared := some (arg % 16), txMirror := none, txTrain := none, txSpareTrain := false }
  | 7 => d.setPort p { x with txSpareTrain := true, txMirror := none }
  | 8 =>
    if arg > 1 then d.linkDrop p false
    else
      let d := (d.setPort p { x with half := some arg }).endSession p
      { (d.retrain p).raiseAttn (.laneSpares p) .degraded clsLinks with ldr := { d.ldr with readmit := true } }
  | _ => d.linkDrop p false

/-- A PACE symbol: to the slot, service or DMA channel that holds the line for receiving (R388). -/
def Chip.paceSymbol (d : Chip) (p line arg : Nat) : Chip :=
  if d.svcHolds p line then query d p line arg
  else match d.dmaLine p line with
    | some c => d.dmaPace c
    | none => trigger d p line arg

/-- The symbol of a frame, delivered before its flit. -/
def Chip.frameSymbol (d : Chip) (p : Nat) (w : LinkWord) : Chip :=
  match w.symKind.val with
  | 0 => d
  | 1 => d.paceSymbol p w.symOp w.symArg.toNat
  | 2 => d.linkSymbol p w.symOp w.symArg.toNat
  | _ => d.linkDrop p true

/-- A sequenced frame received: discarded unless its SEQ is the next expected, else acknowledged, its credit taken, its symbol and
then its flit delivered. -/
def Chip.rxFrame (d : Chip) (p : Nat) (w : LinkWord) (vc : Option Nat) (deliver : Chip → Chip) : Chip :=
  if !d.portUp p || !d.isDvl p then d
  else
    let d := d.wake.linkTake
    let d := if w.fec.val = 0 then d else d.count (Reg.LNK_COUNT.COUNT p 0) w.fec
    let x := d.port p
    if w.seq.val ≠ x.rxNext then d.rxFail p
    else
      let x := { x.acked w.ack with
        rxNext := (x.rxNext + 1) % 2048, nakSent := false
        credit0 := if w.crdVc = 0 then x.credit0 + 8 * w.crdCount else x.credit0
        credit1 := if w.crdVc = 1 then x.credit1 + 8 * w.crdCount else x.credit1
        owe0 := if vc = some 0 then x.owe0 + 1 else x.owe0
        owe1 := if vc = some 1 then x.owe1 + 1 else x.owe1 }
      deliver (((d.setPort p x).drainPort p).frameSymbol p w)

/-- Whether an address lies in the query ring part of another port (R229). -/
def Chip.otherRing (d : Chip) (p a n : Nat) : Bool :=
  d.kv.svcs.any (fun s => (List.range 8).any (fun q =>
    q ≠ p && bitOf s.2.img.vMask q && overlaps a n (entryAddr s.2.img q 0) (s.2.img.vEntries * s.2.img.vEntryBytes)))

/-- The lines of a WRITE or WRITE_HP frame to device memory. -/
def frameWrite (d : Chip) (p addr lines rsvd : Nat) (flit : List (BitVec 8)) : Chip :=
  let a := addr * 256
  let n := 64 * (lines + 1)
  if rsvd ≠ 0 ∨ !d.writeOk a n ∨ isShared a ∨ isAccel a ∨ isHostWin a ∨ d.unmapped a n ∨ d.otherRing p a n then d.linkDrop p true
  else d.wr a (((flit.map BitVec.toNat) ++ List.replicate 256 0).take n)

def execWriteFrame (p : Fin 12) (w : LinkWord) (addr : BitVec 38) (lines rsvd : Fin 4) (flit : List (BitVec 8)) (s : State) : Out :=
  s.on (fun d => d.rxFrame p w (some 1) (fun d => frameWrite d p addr.toNat lines rsvd flit))

def execWriteHpFrame (p : Fin 12) (w : LinkWord) (addr : BitVec 38) (lines rsvd : Fin 4) (flit : List (BitVec 8)) (s : State) : Out :=
  s.on (fun d => d.rxFrame p w (some 0) (fun d => frameWrite d p addr.toNat lines rsvd flit))

/-- One read request (R382): its 32 bytes. -/
def requestOk (d : Chip) (b : List Nat) : Bool :=
  let a := fieldAt b 0 8
  let n := fieldAt b 8 4
  a % 64 = 0 && n % 64 = 0 && 64 ≤ n && n ≤ 4096 && zeroAt b 14 18 && d.rangeOk a n && !isShared a && !isAccel a && !isHostWin a && !d.unmapped a n

/-- The completions of a read request: a frame for every 256 bytes. -/
def readReply (d : Chip) (p : Nat) (b : List Nat) : Chip :=
  let a := fieldAt b 0 8
  let n := fieldAt b 8 4
  let d := d.noteRead a n
  (List.range (ceilDiv n 256)).foldl (fun (d : Chip) k =>
    let m := min 256 (n - 256 * k)
    d.sendFrame p 5 ((m / 64 - 1) * 2 ^ 40 + fieldAt b 12 2 * 2 ^ 24 + k) (d.bytes (a + 256 * k) m)) d

/-- READ_REQ: `count` is requests − 1, `rsvd` the reserved bits of CTX. -/
def frameReadReq (d : Chip) (p count rsvd : Nat) (flit : List (BitVec 8)) : Chip :=
  let f := flit.map BitVec.toNat
  let rs := (List.range (count + 1)).map (fun i => (f.drop (32 * i)).take 32)
  if rsvd = 0 ∧ rs.all (requestOk d) then rs.foldl (fun (d : Chip) b => readReply d p b) d else d.linkDrop p true

/-- The frame's reserved CTX bits, and its FLIT. -/
def execReadReqFrame (p : Fin 12) (w : LinkWord) (count : Fin 8) (flit : BitVec 39 × List (BitVec 8)) (s : State) : Out :=
  s.on (fun d => d.rxFrame p w (some 1) (fun d => frameReadReq d p count flit.1.toNat flit.2))

/-- READ_CPL: data for a request of the device at `addr` of the partner's memory; the bytes are what the window holds (log entry
34). -/
def frameReadCpl (d : Chip) (p lines offset addr : Nat) (flit : List (BitVec 8)) : Chip :=
  let a := memberWindow p + (addr + 256 * offset) % 2 ^ 45
  d.writeRange a ((((flit.map BitVec.toNat) ++ List.replicate 256 0).take (64 * (lines + 1))).map (fun b => (b, false)))

def execReadCplFrame (p : Fin 12) (w : LinkWord) (lines : Fin 4) (offset : BitVec 24) (addr : BitVec 45) (flit : List (BitVec 8))
    (s : State) : Out :=
  s.on (fun d => d.rxFrame p w (some 1) (fun d => frameReadCpl d p lines offset.toNat addr.toNat flit))

/-- DVT_FRAME: its flit goes to the packet being put together on the port (R404). -/
def execDvtFrame (p : Fin 12) (w : LinkWord) (first last : Bool) (flit : List (BitVec 8)) (s : State) : Out :=
  s.on (fun d => d.rxFrame p w (some 1) (fun d => d.dvtFlit p first last (flit.map BitVec.toNat)))

/-- CTRL_FRAME carries the frames of TYPE 8 and above: a CTRL frame's CTX is 0 and its flit empty, and the other types are reserved (R382). `w` is the
link word, TYPE less 8, and CTX. -/
def execCtrlFrame (p : Fin 12) (w : LinkWord × Fin 8 × BitVec 42) (s : State) : Out :=
  s.on (fun d =>
    if w.2.1 = 0 then d.rxFrame p w.1 (some 0) (fun d => if w.2.2 = 0 then d else d.linkDrop p true)
    else d.rxFrame p w.1 none (fun d => d.linkDrop p true))

/-- A stream write from a port: what consumes it is noted while its record is not verified (R387). -/
def streamFrame (d : Chip) (member stream offset : Nat) (bs : List Nat) (poison sealed : Bool) : Chip :=
  let d' := d.streamWrite member stream offset bs poison
  if !sealed then d'
  else
    let x := d'.port member
    if stream < 256 then
      let total := packedBytes (d.slotRec stream).img.sFmtIn (d.slotRec stream).img.sCount
      match (d.slotRec stream).firings.find? (fun f => f.members.contains member && !f.has member 0 total) with
      | some f => d'.setPort member { x with rxFirings := (stream, f.number) :: x.rxFirings.filter (· ≠ (stream, f.number)) }
      | none => d'
    else
      match d.led.items.find? (fun i => i.kind = .work && i.body.op = 0x04 && i.body.stream = stream && i.state = .running &&
          i.fin.isNone && i.crec = .none) with
      | some i => d'.setPort member { x with rxItems := insNat i.seq x.rxItems }
      | none => d'

/-- STREAM_FRAME: from an accelerator port with its link word, or within a DVT packet without one. A port's MEMBER is its index. -/
def execStreamFrame (member stream offset : Nat) (data : List (BitVec 8)) (poison : Bool) (link : Option LinkWord) (s : State) : Out :=
  s.on (fun d =>
    let bs := data.map (·.toNat)
    match link with
    | none => d.streamWrite member stream offset bs poison
    | some w => d.rxFrame (member % 12) w (some 0) (fun d => streamFrame d (member % 12) stream offset bs poison (d.sealed (member % 12))))

def execFrameReceiveFail (p : Fin 12) (s : State) : Out :=
  s.on (fun d => if d.portUp p ∧ d.isDvl p then d.rxFail p else d)

/-- UNHELD_PACE_SYMBOL: void on a line that is held for receiving. -/
def execUnheldPaceSymbol (p : Fin 12) (line : Fin 64) (s : State) : Out :=
  s.on (fun d0 => let d := d0.wake; if d.slotHolds p line ∨ d.svcHolds p line ∨ (d.dmaLine p line).isSome then d else d.linkDrop p false)

/-! ## Records (R386, R387, R603 to R605) -/

/-- A failed tag: what consumed the record is withdrawn with AUTH_FAIL, and the port goes DOWN until it is keyed again. -/
def Chip.tagFail (d : Chip) (p : Nat) : Chip :=
  let x := d.port p
  let d := d.setPort p { x with rxFirings := [], rxItems := [], unkeyed := true }
  let d := x.rxItems.foldl (fun (d : Chip) q => d.withdraw q Code.AUTH_FAIL) d
  let d := x.rxFirings.foldl (fun (d : Chip) f => d.firingWithdraw f.1 f.2 Code.AUTH_FAIL) d
  let d := ((d.count (Reg.LNK_COUNT.COUNT p 7)).count (Reg.SEC_COUNT.COUNT 5)).fault Src.LNK_AUTH p
  d.portDown p

/-- TAG_FRAME: the record's COUNTER must rise within its phase and the receive slot be LOADED; `tagOk` says whether the tag
verifies under the slot's key. -/
def frameTag (d : Chip) (p ctx counter phase : Nat) (tagOk : Bool) : Chip :=
  let last := tget d.sec.rxCounter (2 * p + phase)
  let rising := match last with
    | some c => decide (counter > c)
    | none => true
  if !d.sealed p ∨ ctx ≠ 0 then d.linkDrop p true
  else if !tagOk || !rising || !d.loadedFor (d.rg (rxSlotFld p phase)) uINLINE then d.tagFail p
  else
    let d : Chip := { d with sec := { d.sec with rxCounter := tput d.sec.rxCounter (2 * p + phase) counter } }
    (d.setBit Reg.SEC_PORT_PHASE.RX_SEEN p (phase = 1)).setPort p { d.port p with rxFirings := [], rxItems := [] }

/-- TAG_FRAME; `counter` is the frame's CTX and the record's COUNTER. -/
def execTagFrame (p : Fin 12) (w : LinkWord) (counter : BitVec 42 × BitVec 48) (phase : Fin 2) (tagOk : Bool) (s : State) : Out :=
  s.on (fun d => d.rxFrame p w none (fun d => frameTag d p counter.1.toNat counter.2.toNat phase tagOk))

/-- RECORD_CLOSE: the record's tag goes out with the slot's next counter (the tag's bytes, which depend on a packing the spec does
not state, are free), and a phase change takes effect. -/
def recordClose (d : Chip) (p : Nat) : Chip :=
  let x := d.port p
  if !d.portUp p || !d.sealed p || x.recFrames = 0 then d
  else match d.slotCounter (d.rg (txSlotFld p x.phase)) with
    | none => d.syncDead p
    | some (c, d) =>
      let tag := (List.range 16).map (fun i => (Config.randomByte d.free i).toNat)
      let d := d.takeFree.sendFrame p 7 0 (tag ++ leBytes 6 c ++ [0, 0, x.phase] ++ List.replicate 231 0)
      (d.setPort p { d.port p with recFrames := 0, recNo := x.recNo + 1, phase := d.txPhase p }).syncDead p

def execRecordClose (p : Fin 12) (s : State) : Out := s.on (fun d => recordClose d p)

/-! ## Replay and retraining (R384, R385) -/

def execNak (p : Fin 12) (s : State) : Out := s.on (fun d => if d.portUp p then d.linkSymbol p 1 0 else d)
def execReplayTimeout (p : Fin 12) (s : State) : Out := s.on (fun d => if d.portUp p then d.resend p else d)

/-- RETRAIN_COMPLETE: the port resumes from ACK + 1, or goes DOWN. -/
def execRetrainComplete (p : Fin 12) (ok : Bool) (s : State) : Out :=
  s.on (fun d =>
    if d.portState p ≠ 4 then d
    else if !ok then d.portDown p
    else
      let x := d.port p
      let x := { x with tx := x.tx.map (fun f => { f with resent := 0 }), nakSent := false }
      ((d.setPort p x).sr (Reg.LNK_PORT_STATE.STATE p) (if x.half.isSome then 3 else 2)).drainPort p)

def execLnkCredit (p : Fin 12) (s : State) : Out :=
  s.on (fun d => if d.portUp p ∧ !(d.port p).waiting.isEmpty then d.fault Src.LNK_CREDIT p else d)

/-! ## The transmitter's part of the partner's rotation (R389, R392, R394) -/

def execSteerPrep (p : Fin 12) (pos : Fin 16) (s : State) : Out := s.on (fun d => if d.portUp p then d.linkSymbol p 2 pos else d)
def execSteerDone (p : Fin 12) (pos : Fin 16) (s : State) : Out := s.on (fun d => if d.portUp p then d.linkSymbol p 3 pos else d)
def execReturnPrep (p : Fin 12) (pos : Fin 16) (s : State) : Out := s.on (fun d => if d.portUp p then d.linkSymbol p 4 pos else d)
def execReturnDone (p : Fin 12) (pos : Fin 16) (s : State) : Out := s.on (fun d => if d.portUp p then d.linkSymbol p 5 pos else d)
def execSpare (p : Fin 12) (pos : Fin 16) (s : State) : Out := s.on (fun d => if d.portUp p then d.linkSymbol p 6 pos else d)
def execSpareTrain (p : Fin 12) (s : State) : Out := s.on (fun d => if d.portUp p then d.linkSymbol p 7 0 else d)
def execHalf (p : Fin 12) (half : BitVec 8) (s : State) : Out := s.on (fun d => if d.portUp p then d.linkSymbol p 8 half.toNat else d)

/-! ## The receiver's rotation (R389 to R391) -/

/-- Whether a session may start on a port. -/
def Chip.mayCalibrate (d : Chip) (p : Nat) : Bool :=
  d.portState p = 2 && d.isDvl p && d.flag (Reg.LNK_PORT_CFG.CAL p) && !d.lnk.calPaused && d.running .lnk &&
  !(d.agentRec (.block .lnk)).fencing && (d.port p).session.isNone && d.rg (Reg.LNK_PORT_STATE.SPARED_POS p) = 0x1F &&
  d.rg (Reg.LNK_PORT_STATE.SPARE p) ≠ 2

/-- A session begun for a position; one abandoned while its position was on the spare goes on with its return. -/
def Chip.startSession (d : Chip) (p pos : Nat) : Chip :=
  let onSpare := d.rg (Reg.LNK_PORT_STATE.SPARE p) = 1
  let x := d.port p
  let s : Session := ⟨pos, if pos = 16 then 2 else if onSpare then 3 else 1⟩
  let d := (d.setPort p { x with session := some s, retry := none }).sr (Reg.LNK_PORT_STATE.CAL_POS p) pos
  if pos = 16 then d.sendLink p 7 0 else d.sendLink p (if onSpare then 4 else 2) pos

def execCalibrationSessionStart (p : Fin 12) (s : State) : Out :=
  s.on (fun d => if d.mayCalibrate p ∧ (d.port p).retry.isNone then d.startSession p (d.port p).nextPos else d)

/-- The position after a session. -/
def Chip.sessionOver (d : Chip) (p pos : Nat) : Chip :=
  let d := d.endSession p
  d.setPort p { d.port p with nextPos := (pos + 1) % 17 }

/-- Steering at a tick boundary (R389 steps 3 and 6). -/
def Chip.steerTick (d : Chip) (p : Nat) : Chip :=
  match (d.port p).session with
  | some ⟨pos, 1⟩ =>
    let d := (d.setPort p { d.port p with session := some ⟨pos, 2⟩ }).sr (Reg.LNK_PORT_STATE.SPARE p) 1
    (d.count (Reg.LNK_COUNT.COUNT p 4)).sendLink p 3 pos
  | some ⟨pos, 3⟩ =>
    let d := (d.sr (Reg.LNK_PORT_STATE.SPARE p) 0).count (Reg.LNK_COUNT.COUNT p 4)
    (d.sendLink p 5 pos).sessionOver p pos
  | _ => d

/-- TRAINING_TIME_EXPIRY: `reached` says whether the lane reached MIN_MARGIN within twice TRAIN_US. -/
def trainingExpiry (d : Chip) (p : Nat) (reached : Bool) : Chip :=
  match (d.port p).session with
  | some ⟨pos, 2⟩ =>
    if reached then
      let d := d.patCount (0x0E10 + 4 * d.laneOf p pos) 32
      if pos = 16 then d.sessionOver p 16
      else (d.setPort p { d.port p with session := some ⟨pos, 3⟩ }).sendLink p 4 pos
    else if pos = 16 then (d.endSession p).spareFail p
    else
      let d := d.setBit (Reg.LNK_PORT_STATE.FAILED p) pos true
      let d := (d.count (Reg.LNK_COUNT.COUNT p 6)).fault Src.LNK_LANE_FAIL p
      ((d.laneRecorded p pos).endSession p).sr (Reg.LNK_PORT_STATE.SPARED_POS p) pos
  | _ => d

def execTrainingTimeExpiry (p : Fin 12) (reached : Bool) (s : State) : Out := s.on (fun d => trainingExpiry d p reached)

/-- STEER_TIMEOUT: the session is abandoned, and its position retried after 1,024 ticks. -/
def execSteerTimeout (p : Fin 12) (s : State) : Out :=
  s.on (fun d =>
    match (d.port p).session with
    | some ⟨pos, st⟩ =>
      if st = 2 then d
      else
        let d := d.endSession p
        let d := d.setPort p { d.port p with retry := some (pos, d.tick + 1024) }
        (d.count (Reg.LNK_COUNT.COUNT p 5)).fault Src.LNK_STEER_TIMEOUT p
    | none => d)

def execSteerRetry (p : Fin 12) (s : State) : Out :=
  s.on (fun d =>
    match (d.port p).retry with
    | some (pos, due) => if d.tick ≥ due ∧ d.mayCalibrate p then d.startSession p pos else d
    | none => d)

/-! ## Link commands (R399) -/

/-- PORT_UP: the port trains; PORT_TRAINING_COMPLETE commits the item. A port that has to be keyed again first (R387) is in no state
for it. -/
def portUpCmd (d : Chip) (src : Submit) (p : Nat) : Chip :=
  if p > 11 then d.refuse src Code.LNK_BAD_REQ
  else if d.portState p ≠ 0 ∨ (d.port p).upSeq ≠ 0 ∨ (d.port p).unkeyed then d.refuse src Code.LNK_STATE
  else
    let d := d.acceptCmd src (.general 0x0601) (genBody 0x0601 src [p]) (d.originDomain src.origin) (0x40 + d.roleCore 1)
    (d.setPort p { d.port p with upSeq := d.lastSeq }).sr (Reg.LNK_PORT_STATE.STATE p) 1

def execPortUp (src : Submit) (p : BitVec 8) (s : State) : Out :=
  s.on (fun d => d.served 1 (fun d => d.submit src .lnk false (fun d => portUpCmd d src p.toNat)))

/-- A port enters UP with both ends' credits and sequence numbers as at link-up (R383). -/
def trainingComplete (d : Chip) (p : Nat) : Chip :=
  if d.portState p ≠ 1 then d
  else
    let x := d.port p
    let q := x.upSeq
    let d := d.setPort p { half := x.half, nextPos := x.nextPos, phase := d.txPhase p, dead := false }
    let d := (d.sr (Reg.LNK_PORT_STATE.STATE p) (if x.half.isSome then 3 else 2)).syncDead p
    let d := { d.endAttn (.portDown p) with ldr := { d.ldr with readmit := true } }
    if q = 0 then d else d.finish q Code.OK

def execPortTrainingComplete (p : Fin 12) (s : State) : Out := s.on (fun d => trainingComplete d p)

/-- PORT_DOWN: the port goes DOWN; the command commits at once, or once every item that used the port has ended. -/
def portDownCmd (d : Chip) (src : Submit) (p : Nat) : Chip :=
  if p > 11 then d.refuse src Code.LNK_BAD_REQ
  else if !(d.portState p = 2 ∨ d.portState p = 3 ∨ d.portState p = 4) then d.refuse src Code.LNK_STATE
  else
    let d := d.acceptCmd src (.general 0x0602) (genBody 0x0602 src [p]) (d.originDomain src.origin) (0x40 + d.roleCore 1)
    let q := d.lastSeq
    let d := d.portDown p
    if d.led.items.any (fun i => !i.state.ended && d.itemNeeds i p) then d.updItem q (fun i => { i with crec := .held })
    else d.finish q Code.OK

def execPortDown (src : Submit) (p : BitVec 8) (s : State) : Out :=
  s.on (fun d => d.served 1 (fun d => d.submit src .lnk false (fun d => portDownCmd d src p.toNat)))

def saKey (p mac sc sa : Nat) : Nat := ((p * 4 + mac) * 256 + sc) * 2 + sa

/-- The association installed. -/
def setSa (k slot xpn : Nat) (d : Chip) : Chip := { d with lnk := { d.lnk with sas := tput d.lnk.sas k ⟨slot, xpn⟩ } }

def macsecSa (d : Chip) (src : Submit) (p mac sc sa slot xpn : Nat) : Chip :=
  if p > 11 ∨ mac > 3 ∨ sa > 1 ∨ (128 ≤ sc ∧ sc - 128 > 7) ∨ (sc < 128 ∧ sc > 63) then d.refuse src Code.LNK_BAD_REQ
  else if d.isDvl p ∨ mac ≥ d.macCount p then d.refuse src Code.LNK_STATE
  else if !d.loadedFor slot uMACSEC then d.refuse src Code.SEC_SLOT_STATE
  else
    let d := d.acceptCmd src (.general 0x0603) (genBody 0x0603 src [p + mac * 2 ^ 8 + sc * 2 ^ 16 + sa * 2 ^ 24 + slot * 2 ^ 32, xpn])
      (d.originDomain src.origin) (0x40 + d.roleCore 1)
    d.finishWith d.lastSeq (setSa (saKey p mac sc sa) slot xpn)

def execMacsecSa (src : Submit) (p mac sc sa : BitVec 8) (slot : BitVec 16) (xpn : Word) (s : State) : Out :=
  s.on (fun d => d.served 1 (fun d => d.submit src .lnk false (fun d =>
    macsecSa d src p.toNat mac.toNat sc.toNat sa.toNat slot.toNat xpn.toNat)))

/-! ## LNK agent commands -/

def execCalPause (s : State) : Out :=
  s.on (fun d => { d with lnk := { d.lnk with calPaused := true } }.answered (.block .lnk) true)

def execCalResume (s : State) : Out :=
  s.on (fun d => { d with lnk := { d.lnk with calPaused := false } }.answered (.block .lnk) true)

/-- LANE_FAIL: lanes 0 to 191, then S0 to S11. -/
def execLaneFail (lane : Fin 204) (s : State) : Out :=
  s.on (fun d =>
    match d.posOfLane lane with
    | some (p, 16) => (d.spareLaneFail p).answered (.block .lnk) true
    | some (p, j) => (d.laneFail p j).answered (.block .lnk) true
    | none => d.answered (.block .lnk) false)

/-- An eye measurement on a lane: at the second in a row below MIN_MARGIN it fails (R391). A lane in training is judged at its end. -/
def Chip.eyeMeasured (d : Chip) (p j margin : Nat) : Chip :=
  let d := d.sr (Reg.LNK_PORT_STATE.MARGIN p) margin
  let x := d.port p
  if (x.session.map (fun s => (s.pos, s.step))) = some (j, 2) then d
  else if margin ≥ d.rg Reg.LNK_CAL_CFG.MIN_MARGIN then d.setPort p { x with low := tdel x.low j }
  else
    let n := ((tget x.low j).getD 0) + 1
    let d := d.setPort p { x with low := tput x.low j n }
    if n < 2 then d else if j = 16 then d.spareLaneFail p else d.laneFail p j

/-- MARGIN: the eye margin measured on a lane. -/
def execMargin (lane : Fin 204) (margin : BitVec 8) (s : State) : Out :=
  s.on (fun d =>
    match d.posOfLane lane with
    | some (p, j) => (d.eyeMeasured p j margin.toNat).answered (.block .lnk) true
    | none => d.answered (.block .lnk) false)

end Sys2Proof.Machine
end

