-- ==== Sys2Proof/Machine/Ledger.lean ====
section
/-! DEFINITION. The ledger unit: acceptance, commit records and commit points, withdrawal and CANCEL, the two copies, the Quarry mirror
and the recovery report (R22 to R54, R487). -/
namespace Sys2Proof.Machine
open Sys2Proof

/-! ## Acceptance (R27, R30) -/

/-- An item that has just been accepted starts where its engine waits for that. -/
def Chip.started (d : Chip) (seq : Nat) (k : ItemKind) : Chip :=
  match k with
  | .query _ _ => d.queryStart seq
  | .firing s _ => d.slotRun s
  | _ => d

/-- The item of a plan step checked as its chapter states, and accepted or refused (R706). What it becomes is the last item of its
Frieze slot. -/
def Chip.stepItem (d : Chip) (a : Arising) (slot logical : Nat) : Chip :=
  let src : Submit := ⟨a.origin, BitVec.ofNat 32 a.tag⟩
  let n := d.led.nextSeq
  let x := a.body
  let zero (k : Nat) : Bool := ((descWords x).drop k).all (· = 0)
  let d := match a.kind with
    | .work => d.submitWork src x logical
    | .coll => d.submitColl src x
    | .general 0x0C03 => if wf x.w0 16 16 = 0 ∧ wf x.w1 8 56 = 0 ∧ zero 3 then ckpStep d src (wf x.w1 0 8) x.w2.toNat else d.refuse src Code.HIF_BAD_CMD
    | .general 0x0C04 => if wf x.w0 16 16 = 0 ∧ wf x.w1 16 48 = 0 ∧ zero 2 then ckpNow d src (wf x.w1 0 8) (wf x.w1 8 8) else d.refuse src Code.HIF_BAD_CMD
    | _ => d.refuse src Code.HIF_BAD_CMD
  { d with tck := { d.tck with fired := if d.led.nextSeq = n then tdel d.tck.fired slot else tput d.tck.fired slot n } }

/-- ITEM_ACCEPTED: the item that has waited longest where it arose, once a slot is FREE; void where none waits. -/
def itemAccepted (d : Chip) : Chip :=
  match d.nextArising with
  | none => d
  | some a =>
    if !d.takesItems then d
    else
      let d : Chip := { d with led := { d.led with arising := d.led.arising.erase a } }
      match a.frieze with
      | some (slot, logical) => (d.stepItem a slot logical).drainPlans
      | none =>
        let d := d.accept a
        d.started d.lastSeq a.kind

def execItemAccepted (s : State) : Out := s.on itemAccepted

/-- LEDGER_STALL: frame cycles in which an item could not be accepted for lack of a FREE slot; from 1,000 in a row the fault is raised
(R27, R54). -/
def ledgerStall (d : Chip) (cycles : Nat) : Chip :=
  if d.led.items.length < ledgerSlots then d
  else
    let run := d.led.stallRun + cycles
    let d := ({ d with led := { d.led with stallRun := run } }).count Reg.GLB_LEDGER_STALLS.COUNT cycles
    if run ≥ 1000 ∧ run - cycles < 1000 then d.fault Src.LEDGER_STALL else d

def execLedgerStall (cycles : Nat) (s : State) : Out := s.on (fun d => ledgerStall d cycles)

/-! ## Commit (R32, R34, R41, R152) -/

/-- Whether the block that holds an item runs: one that is fenced issues no commit record (R19). -/
def Chip.heldRuns (d : Chip) (k : ItemKind) : Bool :=
  match k with
  | .work => d.running .wkc
  | .coll | .firing _ _ => d.running .col
  | .query _ _ => d.running .kva
  | .dvt | .atomic _ _ => d.running .dvt
  | .dma _ => d.running .dma
  | .nvme _ _ _ => d.running .nvs
  | .checkpoint _ => d.running .ckp
  | .armature _ => true
  | .general op =>
    match ([.tck, .col, .kva, .mem, .amt, .lnk, .dvt, .pkt, .hif, .dma, .nvs, .ckp, .sec] : List Block)[op / 256 - 1]? with
    | some b => b = .lnk || d.running b
    | none => true

/-- ITEM_FINISH: every plain write of the item is acknowledged; its engine issues the commit record, and a work core's unit is free
(R152, R153). -/
def itemFinish (d : Chip) (seq : Nat) : Chip :=
  match d.item seq with
  | none => d
  | some i =>
    match i.fin with
    | none => d
    | some r =>
      if i.crec ≠ .none ∨ i.state.ended ∨ (i.carried ∧ d.tck.carriedWait) ∨ d.itemUnverified seq ∨ d.readsOut seq ∨ d.hostPaused i ∨ !d.heldRuns i.kind ∨ d.over i.plan ∨
          d.flag Reg.FLT_SAFE.SAFE ∨ d.hub.inReset then d
      else
        let redo := if i.kind = .work then ((tget d.wk.runs seq).bind redoRecord) else i.redoRec
        let d := d.issueCommit seq r redo
        if i.kind = .work then d.leaveUnit i else d

def execItemFinish (seq : Nat) (s : State) : Out := s.on (fun d => itemFinish d seq)

/-- COMMIT_RECORD_TAKEN: an issued record is taken, or held while a predecessor has not ended (R34, R41). -/
def execCommitRecordTaken (seq : Nat) (s : State) : Out := s.on (fun d => if d.commits then d.takeCommit seq else d)

/-- Whether a taken record's commit point may fall now: PORT_DOWN waits for the port's items, a packet command for its gate, and a
revoke for the region's messages (R399, R430, R456). -/
def Chip.commitGate (d : Chip) (i : Item) : Bool :=
  match i.kind with
  | .general 0x0602 => !d.led.items.any (fun j => !j.state.ended && d.itemNeeds j (wf i.body.w1 0 8))
  | .general 0x0704 => !d.dvt.regions.any (fun (r : Nat × DvtRegion) => r.2.seq = i.seq && !r.2.inflight.isEmpty)
  | .general op => d.pktGate op i.body
  | _ => true

/-- The effect that a command's commit point has on the unit it commands. -/
def Chip.commitEffect (d : Chip) (i : Item) : Chip :=
  let x := i.body
  let a := x.w1.toNat
  match i.kind with
  | .atomic c _ => d.atomicCommit c i.seq x
  | .general 0x0201 => setGroup (d.desc a) d
  | .general 0x0202 => clearGroup a d
  | .general 0x0301 => openSeq { w0 := x.w1, w1 := x.w2, w2 := x.w3, w3 := x.w4 } d
  | .general 0x0302 => closeSeq (a % 65536) d
  | .general 0x0303 =>
    storeBlock ⟨a, x.w2.toNat, wf x.w3 0 16, wf x.w3 16 16, wf x.w3 32 32, wf x.w4 0 8, wf x.w4 8 8⟩ x.w6.toNat d
  | .general 0x0304 => dropBlocks (wf x.w1 0 16) (wf x.w1 16 16) (wf x.w1 32 32) x.w2.toNat d
  | .general 0x0305 => bindSvc (d.desc a) d
  | .general 0x0401 => mapPages (pageOf a) (wf x.w2 0 32) d
  | .general 0x0402 => unmapPages (pageOf a) (wf x.w2 0 32) d
  | .general 0x0403 => pinPages (pageOf a) (wf x.w2 0 32) (wf x.w2 32 8) (wf x.w2 40 8) d
  | .general 0x0404 => d.markInit a x.w2.toNat
  | .general 0x0502 => stageCommit d
  | .general 0x0603 =>
    setSa (saKey (wf x.w1 0 8) (wf x.w1 8 8) (wf x.w1 16 8) (wf x.w1 24 8)) (wf x.w1 32 16) x.w2.toNat d
  | .general 0x0703 => { d with dvt := { d.dvt with regions := d.dvt.regions.map (fun (r : Nat × DvtRegion) =>
      if r.2.seq = i.seq ∧ r.2.state = 0 then (r.1, { r.2 with state := 1, seq := 0 }) else r) } }
  | .general 0x0704 =>
    (d.dvt.regions.filter (fun (r : Nat × DvtRegion) => r.2.seq = i.seq && r.2.state = 2)).foldl (fun (d : Chip) (r : Nat × DvtRegion) =>
      { d with dvt := { d.dvt with regions := tdel d.dvt.regions r.1, gens := tput d.dvt.gens r.1 (((tget d.dvt.gens r.1).getD 0 + 1) % 2 ^ 14) } }) d
  | .general 0x0902 => d.dirtyEffect i.fn x
  | .general 0x0D01 => loadKey a d
  | .general 0x0D02 => zeroKey a d
  | .general op =>
    if 0x0801 ≤ op ∧ op ≤ 0x080B then d.pktEffect i.seq op x ((tget d.pkt.recs i.seq).getD [])
    else if 0x0B01 ≤ op ∧ op ≤ 0x0B04 then d.nvsEffect i.seq op x
    else if op = 0x0C01 ∨ op = 0x0C02 ∨ op = 0x0C04 then d.ckpEffect i.seq op x
    else d
  | _ => d

/-- Bytes 24 to 31 of the reply where they hold the tick of the commit, or what the commit replaced (R296, R492). -/
def Chip.commitHi (d : Chip) (i : Item) : Nat :=
  match i.kind with
  | .general 0x0401 | .general 0x0402 | .general 0x0403 | .general 0x0404 | .general 0x0703 | .general 0x0704 => d.tick
  | .general 0x0902 => if wf i.body.w1 8 8 = 2 then ((tget d.hif.dirty (pfOf i.fn * 64 + wf i.body.w1 0 8)).map (fun g => g.bitmap)).getD 0 else i.reply.hi
  | _ => i.reply.hi

/-- A work item's counters at its commit (R168). Its unit held it for the cycles of R150; a REDUCE_ARRIVE for as much longer as its contributions
took, which is a free value. -/
def Chip.countWork (d : Chip) (i : Item) : Chip :=
  if i.kind = .work then
    match tget d.wk.runs i.seq with
    | some r => (List.range 7).foldl (fun (d : Chip) b => if bitOf r.flags b then d.count (Reg.WKC_AFLAG_COUNT.COUNT r.core b) else d)
        ((d.count (Reg.WKC_ITEMS.COUNT r.core)).count (Reg.WKC_BUSY.COUNT r.core (opUnit i.body.op))
          (r.cycles + (if i.body.op = 0x04 then (Config.freeWord d.free).toNat % 2 ^ 32 else 0))).takeFree
    | none => d
  else d

/-- What an ended item lets its engine begin. -/
def Chip.engineGo (d : Chip) (i : Item) : Chip :=
  let d := match i.kind, i.domain with
    | .dma c, _ => d.dmaGo c
    | .dvt, .conn c => d.dvtGo c
    | _, _ => d
  d.nvmeGo

/-- A CANCEL's target withdrawn; the checkpoint item of rank 0 takes the whole checkpoint with it (R575). -/
def Chip.cancelItem (d : Chip) (i : Item) : Chip :=
  match i.kind with
  | .checkpoint j => if ((d.job j).map (fun (x : CkpJob) => decide (x.rank = 0))).getD false then d.ckpAbandon j 5 else d.withdraw i.seq Code.WITHDRAWN
  | _ => (d.withdraw i.seq Code.WITHDRAWN).engineGo i

/-- A CANCEL applied to its target: withdrawn where no commit record is taken, ALREADY_DONE where it has ended, and waiting while a taken
record is being written. -/
def Chip.cancelTry (d : Chip) (q target : Nat) : Chip :=
  match d.item target with
  | none => d.finish q Code.ALREADY_DONE
  | some i =>
    if d.canWithdraw target then (d.cancelItem i).finish q Code.OK
    else if i.state.ended then d.finish q Code.ALREADY_DONE else d

/-- The CANCELs that wait for an item's taken record. -/
def Chip.cancelsGo (d : Chip) (target : Nat) : Chip :=
  (d.led.items.filter (fun i => i.kind = .general 0x0901 && i.body.w1.toNat = target && !i.state.ended && i.crec = .none)).foldl
    (fun (d : Chip) i => d.cancelTry i.seq target) d

/-- COMMIT_POINT: the COMMITTED entry is complete in the copies. An in-place work item's reply waits for its redo copy (R153). -/
def commitPoint (d : Chip) (seq : Nat) : Chip :=
  match d.item seq with
  | none => d
  | some i =>
    if i.crec ≠ .taken ∨ i.state.ended ∨ !d.commits ∨ !d.commitGate i then d
    else if i.kind = .general 0x0503 then
      (if d.cal.emergency then d.updItem seq (fun i => { i with crec := .none }) else d).activateGo.cancelsGo seq
    else
      let hi := d.commitHi i
      let due := !(i.kind = .work && i.redoRec.isSome)
      ((((d.commitEffect i).endItem seq .committed i.reply.code i.reply.lo hi due).countWork i).engineGo i).cancelsGo seq

def execCommitPoint (seq : Nat) (s : State) : Out := s.on (fun d => commitPoint d seq)

/-! ## Withdrawal (R33 to R36) -/

/-- The codes with which an item is withdrawn: those of R53 and those of the chapters. -/
def withdrawCode (c : Nat) : Bool :=
  c = Code.WITHDRAWN || c = Code.TIMEOUT || c = Code.REMOTE_VIOLATION || c = Code.AUTH_FAIL || (0x100 ≤ c && c < 0x10000)

/-- WITHDRAWAL_APPLIED: before the commit record is taken the item is WITHDRAWN; after it the request is answered ALREADY_DONE and the
item stays as it is. -/
def execWithdrawalApplied (seq code : Nat) (s : State) : Out :=
  s.on (fun d => match d.item seq with
    | none => d
    | some i => if withdrawCode code then (d.withdraw seq code).engineGo i else d)

/-- CANCEL (R35, R487). A target whose slot has been freed is ALREADY_DONE whoever submitted it (DESIGN CHOICE, log entry 71: R35 gives a
cancel of another function's freed target both answers, and the entry that named its submitter is gone). A target whose commit record is
taken and still being written is waited for (R34). -/
def cancel (d : Chip) (src : Submit) (target : Nat) : Chip :=
  let fn := d.originFn src.origin
  if target = 0 ∨ target ≥ d.led.nextSeq ∨ (d.item target).any (fun i => decide (i.fn ≠ fn)) then d.refuse src Code.ACCESS_VIOLATION
  else
    let d := d.acceptCmd src (.general 0x0901) (genBody 0x0901 src [target]) (d.originDomain src.origin)
    d.cancelTry d.lastSeq target

def execCancel (src : Submit) (target : Nat) (s : State) : Out :=
  s.on (fun d => d.submit src .hif true (fun d => cancel d src (target % 2 ^ 64)))

/-- NOP commits at acceptance (R487). -/
def nop (d : Chip) (src : Submit) : Chip :=
  let d := d.acceptCmd src (.general 0x0903) (genBody 0x0903 src []) (d.originDomain src.origin)
  d.finish d.lastSeq Code.OK

def execNop (src : Submit) (s : State) : Out := s.on (fun d => d.submit src .hif true (fun d => nop d src))

/-! ## The two copies (R25, R29) -/

/-- ENTRY_CHECK_FAIL: read from the other copy and rewritten; with no other copy both are lost. -/
def execEntryCheckFail (slot : Fin 2097152) (copy : Fin 2) (s : State) : Out :=
  s.on (fun d =>
    let c := d.rg Reg.GLB_LEDGER_STATE.COPIES
    if d.led.lost ∨ !bitOf c copy then d
    else if bitOf c (1 - copy.val) then d.fault Src.LEDGER_CHECK (slot.val % 65536)
    else d.ledgerLost)

/-- The Plinth words of a ledger line in one copy: an entry has one, a body two. -/
def ledgerWords (copy slot : Nat) (body : Bool) : List Nat :=
  let o := copy * 0x4000_0000
  if body then [o + 0x3800_0000 + slot * 64, o + 0x3800_0000 + slot * 64 + 32] else [o + 0x3400_0000 + slot * 32]

/-- LEDGER_COPY_FAIL: a line fails its CHECK again on read-back; its words are redirected, or their bank is declared failed. -/
def ledgerCopyFail (d : Chip) (copy slot : Nat) (body : Bool) : Chip :=
  if d.led.lost ∨ !bitOf (d.rg Reg.GLB_LEDGER_STATE.COPIES) copy then d
  else
    let ws := ledgerWords copy slot body
    let new := ws.filter (fun w => !(d.remap copy).any (fun e => e.word = w % 0x4000_0000 / 32))
    if (d.remap copy).length + new.length > 32 then d.bankFail (plinthBank (ws.headD 0))
    else (new.foldl (fun (d : Chip) w => (d.addRemap 2 w).patEvent 2 [w]) d).copyFail copy true

def execLedgerCopyFail (copy : Fin 2) (slot : Fin 2097152) (body : Bool) (s : State) : Out :=
  s.on (fun d => ledgerCopyFail d copy slot body)

/-- LEDGER_REBUILD_COMPLETE: both copies serve again, and the conditions that lasted for the rebuild end (R29, R268). -/
def ledgerRebuilt (d : Chip) : Chip :=
  if !d.flag Reg.GLB_LEDGER_STATE.REBUILD then d
  else
    let d := ((d.sr Reg.GLB_LEDGER_STATE.REBUILD 0).sr Reg.GLB_LEDGER_STATE.COPIES 3).endAttn .singleCopy
    { d with attn := d.attn.filter (fun c => match c.why with
        | .plinthBank b => d.mu.filling.contains b || d.mu.retired.contains b
        | _ => true) }.attnUpdate

def execLedgerRebuildComplete (s : State) : Out := s.on ledgerRebuilt

def execLedgerLost (s : State) : Out := s.on (fun d => d.ledgerLost)

/-! ## The Quarry mirror and the recovery report (R46 to R48) -/

/-- Whether the device that holds the mirror area has trained and serves. -/
def Chip.mirrorUp (d : Chip) (k : Nat) : Bool :=
  bitOf (d.rg Reg.MEM_QUARRY_STATE.PRESENT) k && !bitOf (d.rg Reg.MEM_QUARRY_STATE.FAILED) k && d.rg (Reg.MEM_QUARRY_CAP.UNITS k) ≥ 2

/-- The mirror area: the last 512 MiB of a device's capacity. -/
def Chip.mirrorBase (d : Chip) (k : Nat) : Nat :=
  0x100_0000_0000 + k * 0x40_0000_0000 + d.rg (Reg.MEM_QUARRY_CAP.UNITS k) * 0x1000_0000 - 0x2000_0000

/-- The mirror header. -/
def mirrorHeader (tick head low : Nat) : List Nat :=
  let b := leBytes 4 0x4D495252 ++ leBytes 2 1 ++ [0, 0] ++ leBytes 8 tick ++ leBytes 8 head ++ leBytes 8 low ++ List.replicate 28 0
  b ++ leBytes 4 (crc32c b)

/-- HEAD of a header whose MAGIC and CHECK verify. -/
def headerHead (b : List Nat) : Option Nat :=
  if leNat (b.take 4) = 0x4D495252 ∧ leNat ((b.drop 60).take 4) = crc32c (b.take 60) then some (leNat ((b.drop 16).take 8)) else none

/-- MIRROR_PASS_COMPLETE: the header is written last, and slots that the pass has shown ended and replied are freed (R26, R28). -/
def mirrorPassComplete (d : Chip) : Chip :=
  match d.led.pass, d.led.mirrorDev with
  | some is, some k =>
    let d := d.wr (d.mirrorBase k) (mirrorHeader d.led.passTick d.led.passHead d.led.passLow)
    ({ d.takeFree with led := { d.led with
        pass := none, mirror := some ⟨d.mirrorBase k, d.free, d.led.passTick, d.led.passHead, d.led.passLow, is⟩
        mirrored := (is.filter (fun (i : Item) => i.state.ended && i.replied)).map (fun (i : Item) => i.seq) } }).freeSlots
  | _, _ => d

def execMirrorPassComplete (s : State) : Out := s.on mirrorPassComplete

/-- A record of the report. -/
def reportBytes (i : Item) : List Nat :=
  leBytes 8 i.seq ++ [i.domain.kind] ++ leBytes 3 i.domain.id ++ leBytes 4 i.tag ++ [i.owner, i.state.code] ++ leBytes 2 i.plan ++
    leBytes 4 i.acceptTick ++ List.replicate 8 0

/-- Items the mirror does not show as ended, up to HEAD. -/
def reported (is : List Item) (head : Nat) : List Item := is.filter (fun i => !i.state.ended && i.seq ≤ head)

/-- Whether the start-up step of R48 is due: at a cold start, or at a warm reset that follows the loss of both copies. -/
def Chip.reportDue (d : Chip) : Bool :=
  !d.led.checked && d.flag Reg.PCR_STATE.MAQ_LOADED &&
  ((d.booting && !d.flag Reg.PCR_STATE.READY && !d.hub.inReset) || (d.led.lost && d.hub.inReset && d.pwr.released))

/-- Both copies initialised (R23, R48): no item is left, and sequence numbers go on above HEAD where a report was written. What the
engines kept of items whose entries are lost goes with them. -/
def Chip.initLedger (d : Chip) (head : Option Nat) : Chip :=
  let retired (die : Nat) : Bool := d.mu.retired.any (fun b => b / 256 = die)
  let copies := b2n (!retired 0) + 2 * b2n (!retired 1)
  let next := match head with
    | some h => h + 1
    | none => d.led.nextSeq
  let lost := d.led.lost
  let d : Chip := { d with led := { d.led with
    items := [], arising := [], nextSeq := next, lost := false, pass := none, mirrored := [], checked := true } }
  let d := ((d.sr Reg.GLB_LEDGER_STATE.COPIES copies).sr Reg.GLB_LEDGER_STATE.MIRROR 0).syncFree
  let d := if copies = 3 then d.endAttn .singleCopy else d
  if !lost then d
  else
    let d := [(0x3400_0000, 0xC00_0000), (0x7400_0000, 0xC00_0000)].foldl (fun (d : Chip) r => d.initRange r.1 r.2) d
    { d with
      owed := []
      ldr := { d.ldr with cmds := [] }
      wk := { d.wk with runs := [], logical := [] }
      coll := { d.coll with runs := [], slots := d.coll.slots.map (fun (s : Nat × SlotRec) => (s.1, { s.2 with firings := [] })) }
      nvs := { d.nvs with due := [] } }

/-- RECOVERY_REPORT_BUILD: the header is read, and where it verifies and the copies decrypt the report is written, with ATTN ASK; then
the ledger is initialised. It waits for the mirror device to train. -/
def reportBuild (d : Chip) (decrypts : Bool) : Chip :=
  if !d.reportDue then d
  else
    let none_ := (d.sr Reg.GLB_RECOVERY.VALID 0).initLedger none
    match d.led.mirrorDev with
    | none => none_
    | some k =>
      if !d.mirrorUp k then d
      else
        let a := d.mirrorBase k
        match headerHead (d.bytes a 64), d.led.mirror with
        | some head, some m =>
          if !decrypts ∨ d.anyPoison a 64 then none_
          else
            let is := reported m.items head
            let d := d.wr (a + 0x0C10_0000) (is.flatMap reportBytes)
            let d : Chip := { d with led := { d.led with report := is.map (fun (i : Item) =>
              (⟨i.seq, i.domain, i.tag, i.owner, i.state = .running, i.plan, i.acceptTick⟩ : ReportRec)) } }
            let d := ((d.sr Reg.GLB_RECOVERY.VALID 1).sr Reg.GLB_RECOVERY.ACK 0).sr Reg.GLB_RECOVERY.COUNT is.length
            ((d.sr Reg.GLB_RECOVERY.DEVICE k).raiseAttn .recoveryReport .ask clsLedger).initLedger (some head)
        | _, _ => none_

def execRecoveryReportBuild (decrypts : Bool) (s : State) : Out := s.on (fun d => reportBuild d decrypts)

/-- MIRROR_TRAINING_WAIT_EXPIRY: the mirror device has not trained in 100 ms; no report is written. -/
def mirrorWaitExpiry (d : Chip) : Chip :=
  if !d.reportDue ∨ (d.led.mirrorDev.map d.mirrorUp).getD true ∨ d.flag Reg.MEM_PLINTH_STATE.INIT_BUSY then d
  else (d.sr Reg.GLB_RECOVERY.VALID 0).initLedger none

def execMirrorTrainingWaitExpiry (s : State) : Out := s.on mirrorWaitExpiry

/-! ## GLB_RECOVERY.ACK and GLB_ATTN_NOTE (R52, R54) -/

def Chip.recoveryAck (d : Chip) : Chip := (d.sr Reg.GLB_RECOVERY.ACK 1).endAttn .recoveryReport

def execGlbRecoveryAck (s : State) : Out := s.on (fun d => d.recoveryAck)

/-- The NOTE bits of a mask cleared. -/
def Chip.noteClear (d : Chip) (mask : Nat) : Chip :=
  (d.mr Reg.GLB_ATTN_NOTE.NOTE (fun v => v - (v &&& mask))).attnUpdate

def execGlbAttnNoteClear (mask : BitVec 16) (s : State) : Out := s.on (fun d => d.noteClear mask.toNat)

/-! ## GLB_LEDGER_HEAD and GLB_LEDGER_LOW at frame cycle 4 (R28, R72) -/

/-- The lowest sequence number that has not reached an end state. -/
def Chip.ledgerLow (d : Chip) : Nat :=
  ((d.led.items.filter (fun i => !i.state.ended)).map (·.seq)).foldl min d.led.nextSeq

/-- A mirror pass begins where none runs, the mirror device has trained and any report has been written. -/
def Chip.passBegins (d : Chip) : Chip :=
  match d.led.mirrorDev, d.led.pass with
  | some k, none =>
    if !d.mirrorUp k ∨ !d.led.checked ∨ d.led.lost then d
    else
      let l : Ledger := { d.led with
        pass := some d.led.items, passTick := d.tick, passHead := d.rg Reg.GLB_LEDGER_HEAD.HEAD, passLow := d.rg Reg.GLB_LEDGER_LOW.LOW }
      { d with led := l }.sr Reg.GLB_LEDGER_STATE.MIRROR 1
  | _, _ => d

/-- LEDGER_PUBLISH: the two marks, the pass, and what waits for GLB_LEDGER_LOW (R227, R248, R291). -/
def ledgerPublish (d : Chip) : Chip :=
  if !d.pwr.refclk ∨ !d.clocked 0 ∨ d.hub.inReset then d
  else d.atCycle 4 fun d =>
    let d := (d.sr Reg.GLB_LEDGER_HEAD.HEAD (d.led.nextSeq - 1)).sr Reg.GLB_LEDGER_LOW.LOW d.ledgerLow
    d.passBegins.freeSlots.kvPublish d.ledgerLow

def execLedgerPublish (s : State) : Out := s.on ledgerPublish

end Sys2Proof.Machine
end

