-- ==== Sys2Proof/Machine/BarTables.lean ====
section
/-! DEFINITION. The read-only tables of BAR0 and the tables of the host endpoint, by 64-bit word (R95, R209, R256, R300, R474, R477,
R489, R501, R549, R584, R635, R677, R679). -/
namespace Sys2Proof

def Desc.word (x : Desc) (i : Nat) : Nat :=
  (match i with
    | 0 => x.w0 | 1 => x.w1 | 2 => x.w2 | 3 => x.w3 | 4 => x.w4 | 5 => x.w5 | 6 => x.w6 | 7 => x.w7 | _ => 0).toNat

end Sys2Proof
namespace Sys2Proof.Machine
open Sys2Proof

/-- Byte i of a number replaced. -/
def numWithByte (x i v : Nat) : Nat := x - bitsOf x (8 * i) 8 * 2 ^ (8 * i) + v % 256 * 2 ^ (8 * i)

/-- Word i of a record kept as bytes, with its STATE byte. -/
def rawWord (raw : List Nat) (i at_ state : Nat) : Nat :=
  leNat (((((raw ++ List.replicate (at_ + 1 - raw.length) 0).set at_ state) ++ List.replicate 8 0).drop (8 * i)).take 8)

def PlanState.code : PlanState → Nat
  | .loading => 0 | .active => 1 | .faulted => 2 | .suspended => 3 | .unloading => 4

/-! ## The discovery table (R474) -/

def Chip.discWord (d : Chip) (fn o : Nat) : Nat :=
  let m := d.flag Reg.PCR_STATE.MAQ_LOADED
  let maq (v : Nat) : Nat := if m then v else 0
  match o with
  | 0x00 => 0x5444_5343 + 2 ^ 32 + 0x80 * 2 ^ 48
  | 0x08 => (Config.freeWord 0).toNat % 2 ^ 16 + 0x9600 * 2 ^ 16 + 0xB0 * 2 ^ 32 + b2n m * 2 ^ 40
  | 0x10 => 0x1FF
  | 0x18 => 64 + 16 * 2 ^ 8 + 16384 * 2 ^ 16 + 63 * 2 ^ 32
  | 0x20 => 2097152 + 33554432 * 2 ^ 32
  | 0x28 => 1048576
  | 0x40 => maq d.pwr.maqVersion
  | 0x48 => maq (d.rg Reg.WKC_SPARES_CFG.COUNT + (d.rg Reg.TCK_CTRL.POSITION + d.rg Reg.TCK_CTRL.ROLE * 16) * 2 ^ 8 +
      d.rg Reg.TCK_PERIOD.PERIOD * 2 ^ 16 + 93 * 1024 * 2 ^ 32)
  | 0x50 => maq (((List.range 8).map (fun k => if bitOf (d.rg Reg.MEM_QUARRY_STATE.PRESENT) k then d.rg (Reg.MEM_QUARRY_CAP.UNITS k) else 0)).foldl (· + ·) 0 / 4 +
      (d.rg (Reg.HIF_FUNC_RINGS.FIRST fn) + d.rg (Reg.HIF_FUNC_RINGS.COUNT fn) * 2 ^ 16) * 2 ^ 32)
  | 0x58 => maq (maskOf ((List.range 4).filter (fun k => d.rg (Reg.LNK_PORT_CFG.MODE (8 + k)) = 1)))
  | 0x60 => maq d.pwr.boardId
  | _ => 0

/-! ## Plans and the Frieze (R86, R95) -/

def FriezeSlot.word (f : FriezeSlot) : Nat :=
  2 ^ 63 + f.kind * 2 ^ 61 + f.plan * 2 ^ 45 + f.step * 2 ^ 33 + f.offset * 2 ^ 16 + f.target * 2 ^ 11 + f.phase * 2 ^ 4 + f.cadence

/-- Entry k of the plan table; SLOTS counts the plan's slots of the active Frieze, none of those of a LOADING plan (DESIGN CHOICE, log
entry 68: R95 says "Frieze slots held"). -/
def Chip.planWord (d : Chip) (k i : Nat) : Nat :=
  match d.ldr.plans.find? (fun p => p.entry = k) with
  | none => 0
  | some p =>
    let cores := maskOf p.cores
    let slots := (d.ldr.active.filter (fun (f : Nat × FriezeSlot) => f.2.plan = p.id && f.2.kind = 0)).length
    match i with
    | 0 => p.id + p.state.code * 2 ^ 16 + p.hdr.kind * 2 ^ 24 + cores % 2 ^ 32 * 2 ^ 32
    | 1 => cores / 2 ^ 32 + p.consec * 2 ^ 32 + slots * 2 ^ 48
    | 2 => p.overruns
    | _ => p.loadSeq

/-! ## The records of the engines -/

def Chip.slotWord (d : Chip) (k i : Nat) : Nat :=
  match tget d.coll.slots k with
  | none => 0
  | some s =>
    if s.state = .empty then 0
    else match i with
      | 0 => numWithByte (s.img.word 0) 2 s.state.code
      | 6 => s.firing
      | 7 => s.lastSeq
      | 8 => s.overdraws + s.resends % 2 ^ 16 * 2 ^ 48
      | 9 => s.resends / 2 ^ 16 + s.latMax * 2 ^ 32
      | i => if i < 6 then s.img.word i else 0

def Chip.seqWord (d : Chip) (k i : Nat) : Nat :=
  match tget d.kv.seqs k with
  | none => 0
  | some s => if i = 0 then numWithByte (s.img.word 0) 2 (match s.state with | .ready => 1 | .closing => 2) else s.img.word i

def Chip.svcWord (d : Chip) (k i : Nat) : Nat :=
  match tget d.kv.svcs k with
  | none => 0
  | some s => if i = 0 then numWithByte (s.img.word 0) 6 (match s.state with | .bound => 1 | .unbinding => 2) else s.img.word i

def RemapEntry.num (e : RemapEntry) : Nat := 2 ^ 31 + e.source * 2 ^ 28 + e.word % 0x4000_0000 / 32

def Chip.remapWord (d : Chip) (die i : Nat) : Nat :=
  let e (k : Nat) : Nat := ((d.remap die)[k]?.map RemapEntry.num).getD 0
  e (2 * i) + e (2 * i + 1) * 2 ^ 32

/-- Sixty-four bits of an initialised map from page n on. -/
def mapWord (l : List (Nat × Nat)) (n : Nat) : Nat := maskOf ((List.range 64).filter (fun b => l.any (fun r => r.1 ≤ n + b && n + b < r.1 + r.2)))

def Chip.jobWord (d : Chip) (j i : Nat) : Nat :=
  match tget d.ckp.jobs j with
  | none => 0
  | some x => rawWord x.raw i 1 (d.rg (Reg.CKP_JOB_STATE.STATE j))

def Chip.targetWord (d : Chip) (t i : Nat) : Nat :=
  match tget d.nvs.targets t with
  | none => 0
  | some x => rawWord x.raw i 24 x.state

def Chip.nsWord (d : Chip) (n i : Nat) : Nat :=
  match tget d.nvs.ns n with
  | none => 0
  | some x => rawWord x.raw i 2 1

/-- Bits of FLT_ACTIVE: the ACTIVE bits of 64 sources. -/
def Chip.activeWord (d : Chip) (k : Nat) : Nat := maskOf ((List.range 64).filter (fun b => d.flag (Reg.FLT_SRC_STATE.ACTIVE (64 * k + b))))

/-! ## Host windows and pools (R477, R489) -/

def HWin.num (w : HWin) : Nat :=
  w.base / 4096 * 4096 + w.limit * 2 ^ 64 + b2n w.valid * 2 ^ 104 + b2n w.read * 2 ^ 105 + b2n w.write * 2 ^ 106 + b2n w.at_ * 2 ^ 107 +
    b2n w.pasidEn * 2 ^ 108 + w.pasid * 2 ^ 112 + w.func * 2 ^ 132

def HWin.ofNum (v : Nat) : HWin :=
  { base := bitsOf v 12 52 * 4096, limit := bitsOf v 64 40, valid := bitOf v 104, read := bitOf v 105, write := bitOf v 106, at_ := bitOf v 107,
    pasidEn := bitOf v 108, pasid := bitsOf v 112 20, func := bitsOf v 132 7 }

def PoolRec.num (q : PoolRec) : Nat :=
  q.ringFirst + q.ringCount * 2 ^ 16 + q.vectors * 2 ^ 32 + q.hwinFirst * 2 ^ 40 + q.hwinCount * 2 ^ 48 + q.state * 2 ^ 56 + q.memBase * 2 ^ 64 +
    q.qpairs * 2 ^ 128

/-- A pool record as written: STATE is the device's. -/
def PoolRec.ofNum (v state : Nat) : PoolRec :=
  { ringFirst := bitsOf v 0 16, ringCount := bitsOf v 16 16, vectors := bitsOf v 32 8, hwinFirst := bitsOf v 40 8, hwinCount := bitsOf v 48 8,
    state := state, memBase := bitsOf v 64 64, qpairs := bitsOf v 128 16 }

def Chip.hwinAt (d : Chip) (pf e : Nat) : HWin := (tget d.hif.hwin (pf * 128 + e)).getD {}

/-- Whether a host window entry is held: by an item that runs through it, or by the MIRROR of a ring pair enabled or DRAINING. -/
def Chip.hwinHeld (d : Chip) (pf e : Nat) : Bool :=
  d.led.items.any (fun i => i.state = .running && i.hostAddrs.any (fun a => hostPf a = pf && a / 2 ^ 40 % 128 = e)) ||
  d.regs.any (fun p =>
    let r := (p.1 / 8 - 0x180000) / 0x20
    0x180000 ≤ p.1 / 8 && decide (p.1 / 8 < 0x200000) && (d.flag (Reg.HIF_RING.ENABLE r) || d.flag (Reg.HIF_RING.DRAINING r)) &&
    (let m := d.rg (Reg.HIF_RING.MIRROR r)
     m ≠ 0 && isHostWin m && hostPf m = pf && m / 2 ^ 40 % 128 = e))

/-- A write of 32 or 64 bits into a host window entry, discarded while the entry is in use. -/
def Chip.hwinWrite (d : Chip) (pf e o v bits : Nat) : Chip :=
  let w := d.hwinAt pf e
  if w.valid ∧ d.hwinHeld pf e then d
  else d.hf (fun h => { h with hwin := tput h.hwin (pf * 128 + e) (HWin.ofNum (masked w.num (v * 2 ^ (8 * o)) ((2 ^ bits - 1) * 2 ^ (8 * o)))) })

/-- A write into a pool record, discarded while VF Enable is set. -/
def Chip.poolWrite (d : Chip) (pf v o x bits : Nat) : Chip :=
  let q := d.poolRec pf v
  if d.rg (Reg.HIF_STATE.NUM_VFS pf) ≠ 0 then d
  else d.hf (fun h => { h with
    pools := tput h.pools (pf * 64 + v) (PoolRec.ofNum (masked q.num (x * 2 ^ (8 * o)) ((2 ^ bits - 1) * 2 ^ (8 * o))) q.state) })

/-! ## Which table an offset lies in -/

def within (o a n : Nat) : Bool := a ≤ o && decide (o < a + n)

/-- The 64-bit word of a table at an offset; none where no table lies. -/
def Chip.tableWord (d : Chip) (fn o : Nat) : Option Nat :=
  let at_ (a size : Nat) : Nat × Nat := ((o - a) / size, (o - a) % size / 8)
  if o < 0x1000 then some (d.discWord fn o)
  else if within o 0x101000 0x1000 then let (e, i) := at_ 0x101000 32; some (bitsOf (d.hwinAt fn e).num (64 * i) 64)
  else if within o 0x102000 0x7E0 then let (v, i) := at_ 0x102000 32; some (bitsOf (d.poolRec fn (v + 1)).num (64 * i) 64)
  else if within o 0x200100 0x60 then some (d.activeWord ((o - 0x200100) / 8))
  else if within o 0x401000 0x2000 then let (k, i) := at_ 0x401000 32; some (d.planWord k i)
  else if within o 0x404000 0x2000 then some (((tget d.ldr.active ((o - 0x404000) / 8)).map FriezeSlot.word).getD 0)
  else if within o 0x406000 0x2000 then some (((tget d.ldr.shadow ((o - 0x406000) / 8)).map FriezeSlot.word).getD 0)
  else if within o 0x620000 0x8000 then let (k, i) := at_ 0x620000 128; some (d.slotWord k i)
  else if within o 0x640000 0x40000 then let (g, i) := at_ 0x640000 64; some (((d.group g).map (fun x => x.word i)).getD 0)
  else if within o 0x710000 0x80000 then let (k, i) := at_ 0x710000 32; some (d.seqWord k i)
  else if within o 0x790000 0x1000 then let (k, i) := at_ 0x790000 64; some (d.svcWord k i)
  else if within o 0x801000 0x80 then some (d.remapWord 0 ((o - 0x801000) / 8))
  else if within o 0x801080 0x80 then some (d.remapWord 1 ((o - 0x801080) / 8))
  else if within o 0x810000 0x1000 then some (mapWord d.mu.initPlinth ((o - 0x810000) * 8))
  else if within o 0x820000 0x30000 then some (mapWord d.mu.initNear ((o - 0x820000) * 8))
  else if within o 0x902000 0x200 then
    some ((tget d.fw.traceMap ((o - 0x902000) / 4)).getD 0 + (tget d.fw.traceMap ((o - 0x902000) / 4 + 1)).getD 0 * 2 ^ 32)
  else if within o 0xC00100 0x100 then some (leNat ((d.pkt.tread.drop (o - 0xC00100)).take 8))
  else if within o 0xE00000 0x10000 then some (d.nvProp fn (o - 0xE00000) + d.nvProp fn (o - 0xE00000 + 4) * 2 ^ 32)
  else if within o 0xE20000 0x10000 then let (n, i) := at_ 0xE20000 64; some (d.nsWord n i)
  else if within o 0xE40000 0x20000 then let (t, i) := at_ 0xE40000 512; some (d.targetWord t i)
  else if within o 0xF20000 0x2000 then let (j, i) := at_ 0xF20000 128; some (d.jobWord j i)
  else if within o 0x1210000 0x4000 then
    some (leNat ((List.range 8).map (fun b => if o - 0x1210000 + b < 0x3FD8 then summaryByte d.pat.summary (o - 0x1210000 + b) else 0)))
  else none

end Sys2Proof.Machine
end

