-- ==== Sys2Proof/Machine/Tick.lean ====
section
/-! DEFINITION. The tick boundary and the firing of the Frieze (R72, R85 to R90, R706). -/
namespace Sys2Proof.Machine
open Sys2Proof

/-! ## The counter latch (R21, R658) -/

/-- Every running agent latches its bank; one that is fenced or gated keeps its last. -/
def Chip.latchCounters (d : Chip) : Chip :=
  let on (b : Nat) : Bool := d.agentSt (agentOfBit b) = .running
  { d with latch := (d.latch.filter (fun p => !on p.1)).foldl (fun (t : Tbl Nat) p => tput t p.1 p.2) (d.regs.filter (fun p => on p.1)) }

/-! ## Carried items and plan faults (R89, R90) -/

/-- A plan item that is carried over this tick. -/
def carries (i : Item) : Bool := i.plan ≠ 0 && !i.state.ended && i.crec = .none

def Chip.carryItems (d : Chip) : Chip :=
  let n := (d.led.items.filter carries).length
  let d : Chip := { d with
    led := { d.led with items := d.led.items.map (fun i => if carries i then { i with carried := true } else i) }
    tck := { d.tck with carriedWait := n ≠ 0 } }
  d.countEach Reg.TCK_CARRIES.COUNT n

/-- The consecutive overruns at which a plan faults. -/
def Chip.overrunLimit (d : Chip) (p : Plan) : Nat :=
  if p.hdr.overrunLimit = 0 then d.rg Reg.TCK_OVERRUN_LIMIT.LIMIT else p.hdr.overrunLimit

/-- A plan's overrun state brought up to date at the end of its frame. -/
def Chip.planFrame (d : Chip) (p : Plan) : Chip :=
  let consec := if p.overran then min (p.consec + 1) 65535 else 0
  let d := d.updPlan p.id (fun q => { q with
    consec := consec, overran := false, overruns := if p.overran then min (q.overruns + 1) (2 ^ 48 - 1) else q.overruns })
  if p.overran ∧ p.state = .active ∧ consec ≥ d.overrunLimit p then
    ((d.updPlan p.id (fun q => { q with state := .faulted })).fault Src.PLAN_FAULT p.id).raiseAttn (.planFault p.id) .ask clsCompute
  else d

/-- Every plan's frame ended, and the meters of R88 begun anew. -/
def Chip.planFrames (d : Chip) : Chip :=
  (d.ldr.plans.foldl (fun (d : Chip) p => d.planFrame p) d).nextMeters

/-! ## Admission again (R85, R163) -/

/-- Whether the sums of measures 0 to 3 fit their limits. -/
def sumsFit (d : Chip) : Bool :=
  let ps := sumPlans d 0
  let fit (s c : Nat) : Bool := s ≤ limitOf c
  fit (sumBy ps (·.wcCycles)) (capWc d) && fit (sumBy ps plinthCharge) (capPlinth d) && fit (sumBy ps (·.armInstr)) (capArm d) &&
  (List.range 12).all (fun p => fit (sumBy ps (egressOf p)) (linkCap d p) && fit (sumBy ps (ingressOf p)) (linkCap d p))

/-- Shrunk elastic plans are granted cores up to WC_DESIRED, in admission order, after a core has returned to service. -/
def Chip.regrantShrunk (d : Chip) : Chip :=
  if !d.ldr.regrant then d
  else
    (d.ldr.plans.filter (fun p => p.hdr.elastic && (p.state = .active || p.state = .faulted) && p.cores.length < p.hdr.wcDesired)).foldl
      (fun (d : Chip) p => d.regrant p.id (p.cores ++ (freeCores d []).take (p.hdr.wcDesired - p.cores.length)))
      { d with ldr := { d.ldr with regrant := false } }

/-- A plan that holds a core no longer in service shrinks where it can, else takes cores that no plan holds, else is SUSPENDED (R85, R160, R705). -/
def Chip.mendGrants (d : Chip) : Chip :=
  (d.ldr.plans.filter (fun p => p.cores.any (fun c => !coreUp d c))).foldl (fun (d : Chip) p =>
    let rest := p.cores.filter (coreUp d)
    let free := freeCores d []
    let take := p.cores.foldl (fun (a : List Nat × List Nat) c => if coreUp d c then (a.1 ++ [c], a.2) else (a.1 ++ a.2.take 1, a.2.drop 1)) ([], free)
    if canShrink d p rest.length then d.regrant p.id rest
    else if take.1.length = p.cores.length then d.regrant p.id take.1 else d.suspend p.id) d

/-- Non-elastic plans are SUSPENDED, the most recently admitted first, until the sums fit: admitted is taken as loaded, and a PLAN_RESUME
does not make a plan more recent (DESIGN CHOICE, log entry 66). -/
def Chip.suspendOver (d : Chip) : Chip :=
  (d.ldr.plans.reverse.filter (fun p => !p.hdr.elastic && p.state.live)).foldl (fun (d : Chip) p => if sumsFit d then d else d.suspend p.id) d

/-- The loader's part at a tick that follows a change of capacity; DEGRADED lasts while fewer cores are in service than configured (R160).
While TCK is FENCED admission stops (R92), and it is made good at the first tick after UNFENCE. -/
def Chip.readmit (d : Chip) : Chip :=
  if !d.ldr.readmit ∨ !d.running .tck then d
  else
    let d : Chip := { d with ldr := { d.ldr with readmit := false } }
    let low := decide ((upCores d).length < d.wk.configured)
    let d := if low then d.raiseAttn .corePool .degraded clsCompute else d.endAttn .corePool
    d.mendGrants.regrantShrunk.suspendOver.syncAdmit

/-! ## TICK -/

/-- W1S bits of TCK_CTRL at a tick: RELOCK has ended, and the others are kept only while what they asked for is under way (log entry 17). -/
def Chip.endRequests (d : Chip) : Chip :=
  let keep (d : Chip) (f : Fld) (b : Bool) : Chip := if b then d else d.sr f 0
  let d := keep (d.sr Reg.TCK_CTRL.RELOCK 0) Reg.TCK_CTRL.PROBE d.tck.probeOut
  keep (keep d Reg.TCK_CTRL.JOIN d.tck.join.isSome) Reg.TCK_CTRL.LEAVE d.tck.leaving

/-- The tick unit's own part, which the always-on island keeps through warm reset and A3 (R66, R67): the number that was adopted, plus 1
(DESIGN CHOICE, log entry 67: an adopted number is that of the frame that ends), or the next one. The master on the ring sends the marker and
makes its TICK and FLAGS cells ready (R58), and a PROBE after a change of membership (R62). What R60 held has drained. -/
def Chip.tickUnit (d : Chip) : Chip :=
  let n := ((d.tck.adopt.getD d.tick) + 1) % 2 ^ 64
  let d := d.sr Reg.TCK_NUMBER.NUMBER n
  let own (c : RingCell) : Bool := match c with
    | .tick _ _ _ => true
    | .flags _ => true
    | _ => false
  let master := onRing d && masterRole d
  let cells : List RingCell := if master then [.tick n (d.rg Reg.TCK_PERIOD.PERIOD) (ringPos d), .flags d.ownFlags] else []
  let d : Chip := { d with tck := { d.tck with
    cycle := 0, frames := d.tck.frames + 1, adopt := none, skip := [], turn := none, behind := [], sinceProbe := d.tck.sinceProbe + 1
    markersSent := d.tck.markersSent + b2n master, out := cells ++ d.tck.out.filter (fun c => !own c) } }
  let d := if master then d.forward .marker else d
  let d : Chip := { d.endRequests with pkt := { d.pkt with frameAt := d.pkt.now } }
  if d.tck.probeDue ∧ ringState d = 3 then { d with tck := { d.tck with probeDue := false } }.sendProbe else d

/-- IPEND bit 0 of every core (R343). -/
def Chip.tickInterrupt (d : Chip) : Chip := (List.range 16).foldl (fun (d : Chip) n => d.pend n 0) d

/-- What a budget or the tick's order held goes on where its engine needs no command to go on: firings, requests and queries. -/
def Chip.heldGo (d : Chip) : Chip :=
  let d := (d.coll.slots.map (·.1)).foldl (fun (d : Chip) k => d.slotRun k) d
  let d := d.collsGo.acceptsGo.bulksGo.dmaFrame
  let d := (d.led.items.filter (fun i => i.state = .accepted)).foldl (fun (d : Chip) i => d.queryStart i.seq) d
  (d.kv.svcs.map (·.1)).foldl (fun (d : Chip) n => d.queriesTake n) d

/-- What the core die does at the boundary, after the latch: lane steering, the plan items carried and the plans' frames, admission again,
the persistent slots' commands, the step fences of checkpoint jobs, and what waits for the ports. -/
def Chip.tickWork (d : Chip) : Chip :=
  let d := (List.range 12).foldl (fun (d : Chip) p => d.steerTick p) d
  let d := d.carryItems.planFrames.readmit.migTick.moveTick
  let d : Chip := { d with ldr := { d.ldr with cmds := d.ldr.cmds.map (fun c => { c with due := true }) } }
  let d := if d.running .col then d.slotTick else d
  let d := if d.running .ckp then d.ckp.jobs.foldl (fun (d : Chip) (j : Nat × CkpJob) => ((d.walkRate j.1).ckpWrites j.1).stepFence j.1) d else d
  d.heldGo.dvtTakeColl.linkTake.mboxTake.tickInterrupt

/-- CARRIED_ITEMS_RESUME at frame cycle 64 (R89). -/
def execCarriedItemsResume (s : State) : Out :=
  s.on (fun d => d.atCycle 64 (fun d => ({ d with tck := { d.tck with carriedWait := false } }).heldGo))

/-- TICK; void until REFCLK has locked. The counters are latched first: an event of cycle 0 belongs to the new frame (R72). -/
def tick (d : Chip) : Chip :=
  if !d.pwr.refclk then d
  else
    let opened := d.tick
    let d := d.tickUnit
    let runs (d : Chip) : Bool := d.clocked 0 && !d.hub.inReset && !d.flag Reg.FLT_SAFE.SAFE
    let d := if runs d then d.latchCounters else d
    let d := d.switchClocks
    let d := if runs d then (d.tickWork).calTick opened else d
    d.patTick.traceDue.funnelAll.obsTick

def execTick (s : State) : Out := s.on tick

/-! ## FRIEZE_SLOT_FIRE (R87, R706) -/

/-- Whether a slot's previous firing still runs: its item has not ended, waits to be accepted, or its body stands undecided in an inbox. -/
def Chip.stillRuns (d : Chip) (k : Nat) : Bool :=
  ((tget d.tck.fired k).bind d.item).any (fun i => !i.state.ended) || d.led.arising.any (fun a => a.frieze.any (fun f => f.1 = k)) ||
  d.fw.stepPlan.any (fun (e : Nat × Nat × Nat) => e.2.2 = k)

/-- A plan step acts, by its KIND. -/
def Chip.stepFires (d : Chip) (k : Nat) (p : Plan) (step : Nat) : Chip :=
  let s := parseStep (stepBytes d p.image p.hdr step)
  let a := p.image + s.body
  if s.kind = 0 then
    if s.slotRef < 256 ∧ (d.slotRec s.slotRef).img.sPlan = p.id then d.slotAllow s.slotRef else d
  else
    let d := d.noteRead a 64
    if d.anyPoison a 64 then d.updPlan p.id (fun q => { q with overran := true })
    else
    let x := d.desc a
    let o : Origin := .step p.id p.hdr.replyRing
    let arising (kind : ItemKind) (tag : Nat) : Arising := ⟨.plan p.id, tag, p.id, o, d.originFn o, 0xFF, kind, x, some (k, s.logical)⟩
    let go (b : Arising) : Chip :=
      if d.admits (.plan p.id) ∧ d.stepReady b then d.stepItem b k s.logical
      else { d with led := { d.led with arising := d.led.arising ++ [b] } }
    match s.kind with
    | 1 => go (arising .work x.tag)
    | 2 => go (arising .coll x.cTag)
    | 3 => d.armStep p.id step k x
    | 4 => go (arising (.general (wf x.w0 0 16)) (wf x.w0 32 32))
    | _ => d

/-- Whether a slot's turn has passed: a later cycle has come, or at its own cycle a slot of a higher index has fired (R87). -/
def Chip.turnPast (d : Chip) (k : Nat) (f : FriezeSlot) : Bool :=
  decide (f.offset < d.tck.cycle) ||
  (decide (f.offset = d.tck.cycle) && d.tck.turn.any (fun j => decide (k < j) && (tget d.ldr.active j).any (fun g => g.offset = f.offset)))

/-- A slot fires: void outside its phase, when its turn has passed, where it has fired in this frame, while carried items wait (R89), and
for a plan that is not ACTIVE. One whose previous firing still runs does not fire, and the frame is an overrun of its plan. -/
def friezeSlotFire (d : Chip) (k : Nat) : Chip :=
  match tget d.ldr.active k with
  | none => d
  | some f =>
    if d.tick % 2 ^ f.cadence ≠ f.phase ∨ d.turnPast k f ∨ (f.kind = 0 ∧ d.tck.carriedWait) ∨ d.tck.skip.contains k ∨ !d.pwr.refclk ∨ !d.clocked 0 ∨ d.hub.inReset ∨
        d.flag Reg.FLT_SAFE.SAFE ∨ !d.flag Reg.PCR_STATE.READY then d
    else
      let d : Chip := { d with tck := { d.tck with cycle := f.offset, turn := some k, skip := k :: d.tck.skip } }
      match f.kind with
      | 0 =>
        match d.plan f.plan with
        | none => d
        | some p =>
          if p.state ≠ .active then d
          else if d.stillRuns k then d.updPlan p.id (fun q => { q with overran := true })
          else d.stepFires k p f.step
      | 1 => if d.mu.inWindow.contains f.target ∨ bitOf (d.rg Reg.MEM_NEAR_STATE.FAILED) f.target then d else d.openWindow f.target
      | _ => d

def execFriezeSlotFire (slot : Fin 1024) (s : State) : Out := s.on (fun d => friezeSlotFire d slot)

end Sys2Proof.Machine
end

