-- ==== Sys2Proof/Machine/Bar.lean ====
section
/-! DEFINITION. Accesses to BAR0 (R4 to R11, R308, R475, R493, R502, R527, R630, R648, R703, R704): where an access goes, what a read returns and a
write does. -/
namespace Sys2Proof.Machine
open Sys2Proof

/-! ## Where an access goes (R475, R502, R704) -/

/-- A register or table of a physical function's layout, by the function whose copies are meant and the offset; the rest of a VF's page; or
no register at all. -/
inductive Place where
  | pf (fn off : Nat)
  | page (f off : Nat)
  | nothing
  deriving DecidableEq, Repr

/-- A VF's page: ring pairs are the function's own, by their global numbers. -/
def Chip.vfPlace (d : Chip) (f o : Nat) : Place :=
  let q := d.vfPool f
  let ring (a size dst : Nat) : Place :=
    if (o - a) / size < q.ringCount then .pf (pfOf f) (dst + (q.ringFirst + (o - a) / size) * size + (o - a) % size) else .nothing
  if q.state = 0 then .nothing
  else if within o 0x1000 0x2000 then ring 0x1000 8 0x120000
  else if within o 0x4000 0x2000 then ring 0x4000 8 0x140000
  else if within o 0x8000 0x8000 then ring 0x8000 32 0x180000
  else .page f o

def Chip.place (d : Chip) (by_ : Req) (addr : Nat) : Place :=
  match by_ with
  | .fn f => if isVF f then (if addr < 0x1_0000 then d.vfPlace f addr else .nothing) else if addr < 0x400_0000 then .pf f addr else .nothing
  | .core _ => if addr < 0x400_0000 then .pf 0 addr else if addr < 0x800_0000 then .pf 1 (addr - 0x400_0000) else .nothing

/-! ## Words (R4, R6) -/

/-- The row of a register of 64 bits or more that covers an offset. -/
def wideRow (o : Nat) : Option Reg.Row := Reg.rows.find? (fun r => 64 ≤ r.size && (rowIndex r o).isSome)

/-- FLT_ACTIVE (R635) and PKT_TREAD_DATA (R4), whose words are computed and not stored: registers of 64 bits and more all the same. -/
def wideComputed (o : Nat) : Bool := within o 0x200100 0x60 || within o 0xC00100 0x100

/-- Whether an offset lies in a 64-bit register or in a word of a wide one. -/
def Place.wide : Place → Bool
  | .pf _ o => wideComputed o || (wideRow o).isSome
  | _ => false

/-- The word of an access, as held halves and latches are kept: a per-function register has one a function. -/
def Place.key : Place → Nat
  | .pf fn o => o / 8 * 8 + (match wideRow o with | some r => if r.perFn then fn * 2 ^ 27 else 0 | none => 0)
  | .page _ o => 2 ^ 30 + o / 8 * 8
  | .nothing => 0

def Place.up : Place → Place
  | .pf fn o => .pf fn (o + 4)
  | .page f o => .page f (o + 4)
  | .nothing => .nothing

def Place.down : Place → Place
  | .pf fn o => .pf fn (o / 8 * 8)
  | .page f o => .page f (o / 8 * 8)
  | .nothing => .nothing

/-! ## Reads -/

/-- A field as a read sees it: a counter as latched at the last tick (R660), a WO field as 0. -/
def Chip.visible (d : Chip) (m : Met) : Nat :=
  if m.row.acc = .wo then 0 else if m.counter then (tget d.latch m.fld.bit).getD m.fld.rst else d.rg m.fld

/-- A field's value in its place in a 64-bit word. -/
def placed (f : Fld) (o v : Nat) : Nat :=
  if fieldBit f ≥ 8 * o then v * 2 ^ (fieldBit f - 8 * o) % 2 ^ 64 else v / 2 ^ (8 * o - fieldBit f) % 2 ^ 64

/-- SEC_SLOT_QUERY: the status of the slot named. -/
def Chip.slotQuery (d : Chip) : Nat :=
  let k := d.rg Reg.SEC_SLOT_QUERY.SLOT
  match d.kslot k with
  | none => k
  | some x => k + (if x.exhausted then 2 else 1) * 2 ^ 16 + x.func * 2 ^ 20 + x.uses * 2 ^ 28 + b2n (decide (x.counter ≥ 2 ^ 47)) * 2 ^ 35

/-- What registers report that no field stores: WKC_STATE.FAULTS, SEC_SLOT_QUERY, and PAT_STATE.FREE_BLOCKS, a free value. -/
def Chip.derived (d : Chip) (o : Nat) : Nat :=
  if within o 0x500000 0x100000 ∧ o % 0x4000 = 0 then
    maskOf ((List.range 7).filter (fun k => d.flag (Reg.FLT_SRC_STATE.ACTIVE (8 * ((o - 0x500000) / 0x4000) + k)))) * 2 ^ 16
  else if o = 0x1000018 then d.slotQuery - d.rg Reg.SEC_SLOT_QUERY.SLOT
  else if o = 0x1200000 then (Config.freeWord d.free).toNat % 6145
  else 0

/-- A 64-bit word of a physical function's layout. -/
def Chip.pfWord (d : Chip) (fn o : Nat) : Nat :=
  match d.tableWord fn o with
  | some v => v
  | none => (metAccess fn o true).foldl (fun (a : Nat) m => a + placed m.fld o (d.visible m)) (d.derived o)

def Chip.mboxOf (d : Chip) (f : Nat) : Mbox := (tget d.hif.mbox (vfKey f)).getD {}

/-- A 64-bit word of a VF's page (R502, R527). -/
def Chip.pageWord (d : Chip) (f o : Nat) : Nat :=
  let x := d.mboxOf f
  if o = 0 then (d.vfPool f).state + b2n (d.frozen f) * 2 ^ 8
  else if o = 8 then b2n x.db + b2n x.inValid * 2 ^ 32
  else if within o 0x40 0x40 then leNat ((x.out.drop (o - 0x40)).take 8)
  else if within o 0x80 0x40 then leNat ((x.inn.drop (o - 0x80)).take 8)
  else if within o 0x6000 0x2000 then d.nvProp f (o - 0x6000) + d.nvProp f (o - 0x6000 + 4) * 2 ^ 32
  else 0

def Chip.wordAt (d : Chip) (p : Place) : Nat :=
  match p.down with
  | .pf fn o => d.pfWord fn o
  | .page f o => d.pageWord f o
  | .nothing => 0

/-- RC fields in the bytes read cleared (R10). -/
def Chip.clearRC (d : Chip) (p : Place) (wide : Bool) : Chip :=
  match p with
  | .pf fn o => (metAccess fn o wide).foldl (fun (d : Chip) m =>
      if m.row.acc = .rc then d.sr m.fld (masked (d.rg m.fld) 0 (fieldPart m.fld o (if wide then 2 ^ 64 - 1 else 2 ^ 32 - 1))) else d) d
  | _ => d

/-- What a state of the device makes of a host read: data (none), all ones, or no answer (R489, R493, R630, R648). -/
inductive Gate where
  | open_ | ones | silent
  deriving DecidableEq

def Chip.readGate (d : Chip) (by_ : Req) (p : Place) : Gate :=
  match by_ with
  | .core _ => .open_
  | .fn f =>
    let o := match p with | .pf _ o => o | _ => 0x100000
    if d.hub.inReset ∨ d.pwr.trigger ≠ 0 then (if !isVF f ∧ (o < 0x1000 ∨ o / 8 * 8 = 0x300000) then .open_ else .ones)
    else if d.flag Reg.FLT_SAFE.SAFE then (if within o 0x80000 0x80000 ∨ within o 0x200000 0x100000 then .open_ else .silent)
    else if isVF f then (if (d.vfPool f).state = 2 then .ones else .open_)
    else if d.frozen f then (if within o 0x80000 0x180000 then .open_ else .ones)
    else .open_

def Bus.drop (b : Bus) (by_ : Req) (k : Nat) : Bus :=
  { b with held := b.held.filter (fun h => h.1 ≠ by_ || h.2.1 ≠ k) }

def Bus.unlatch (b : Bus) (by_ : Req) (k : Nat) : Bus :=
  { b with latch := b.latch.filter (fun h => h.1 ≠ by_ || h.2.1 ≠ k) }

def Bus.heldOf (b : Bus) (by_ : Req) (k : Nat) : Option Nat := (b.held.find? (fun h => h.1 = by_ && h.2.1 = k)).map (fun h => h.2.2)
def Bus.latchOf (b : Bus) (by_ : Req) (k : Nat) : Option Nat := (b.latch.find? (fun h => h.1 = by_ && h.2.1 = k)).map (fun h => h.2.2)

/-- A read that draws on a free value moves its counter on. -/
def Chip.tookFree (d : Chip) (p : Place) : Chip :=
  match p.down with
  | .pf _ 0x1200000 => d.takeFree
  | _ => d

/-- A completed read of a place: its data, and the device after it (R6, R11). -/
def Chip.readPlace (d : Chip) (by_ : Req) (p : Place) (wide : Bool) : Nat × Chip :=
  let v := d.wordAt p
  let k := p.key
  let d := d.tookFree p
  let high := match p with | .pf _ o => o % 8 = 4 | .page _ o => o % 8 = 4 | .nothing => false
  let gone (d : Chip) : Chip := { d with bus := d.bus.unlatch by_ k }
  if wide then (v, { (gone d).clearRC p true with bus := (d.bus.unlatch by_ k).drop by_ k })
  else if !p.wide then ((if high then v / 2 ^ 32 else v % 2 ^ 32), d.clearRC p false)
  else if !high then
    let d := (gone d).clearRC p true
    (v % 2 ^ 32, { d with bus := { d.bus with latch := (by_, k, v / 2 ^ 32) :: d.bus.latch } })
  else match d.bus.latchOf by_ k with
    | some h => (h, gone d)
    | none => (v / 2 ^ 32, d.clearRC p false)

/-- A read of BAR0 or of the MMIO window, 32 or 64 bits wide and aligned. -/
def Chip.barRead (d : Chip) (by_ : Req) (addr : Nat) (wide : Bool) : Nat × Chip :=
  let p := d.place by_ addr
  match d.readGate by_ p with
  | .open_ => d.readPlace by_ p wide
  | .ones => ((if wide then 2 ^ 64 - 1 else 2 ^ 32 - 1), d)
  | .silent => (d.bus.data, d)

/-! ## Writes: fields without an action of their own (R8, R10) -/

/-- The RW and RWL contents of a word, the bits that a write of one half keeps. -/
def Chip.storedWord (d : Chip) (fn o : Nat) : Nat :=
  (metAccess fn o true).foldl (fun (a : Nat) m => if m.writable then a + placed m.fld o (d.rg m.fld) else a) 0

def Chip.writeField (d : Chip) (m : Met) (o v pm : Nat) : Chip :=
  let old := d.rg m.fld
  let x := fieldPart m.fld o v
  match m.row.acc with
  | .ro => d
  | .rc => d
  | .wo => d
  | .w1c => d.sr m.fld (old - (old &&& x &&& pm))
  | .w1s => d.sr m.fld (old ||| (x &&& pm))
  | .rw => let new := masked old x pm; if m.row.ok new then d.sr m.fld new else d
  | .rwl => let new := masked old x pm; if !d.flag Reg.PCR_STATE.MAQ_LOADED && m.row.ok new then d.sr m.fld new else d

/-- The fields under a 32-bit or 64-bit write, but for those left out. -/
def Chip.writeFields (d : Chip) (fn o : Nat) (wide : Bool) (v : Nat) (skip : List Nat := []) : Chip :=
  (metAccess fn o wide).foldl (fun (d : Chip) m =>
    if skip.contains m.fld.bit then d else d.writeField m o v (fieldPart m.fld o (if wide then 2 ^ 64 - 1 else 2 ^ 32 - 1))) d

/-! ## Writes that act -/

/-- TCK_CTRL (R62, R66, R69, R70). A W1S bit reads 1 until what it starts has ended or, where it starts nothing, until the next tick
(DESIGN CHOICE, log entry 17). -/
def Chip.tckWrite (d : Chip) (v : Nat) : Chip :=
  let d := d.writeFields 0 0x400000 false v
  let d := if bitOf v 5 then d.relock else d
  let d := if bitOf v 2 then d.probe else d
  let d := if bitOf v 3 then d.askJoin else d
  if bitOf v 4 then d.askLeave else d

/-- NVS_QPAIRS before the Maquette load: a sum above 4,096 leaves both fields. -/
def Chip.pairsWrite (d : Chip) (v : Nat) : Chip := (d.writeFields 0 0xE10010 false v).keepPairs d

/-- FLT_SRC_CFG of a source (R619): reactions that do not rank, that a fixed source has, or that its agent refuses, are left. -/
def Chip.srcCfgWrite (d : Chip) (s v : Nat) : Chip :=
  let x := d.writeFields 0 (0x201000 + 8 * s) true v
  let r := x.rg (Reg.FLT_SRC_CFG.REACT s)
  let q := x.rg (Reg.FLT_SRC_CFG.SEV_REACT s)
  let refused := (match agentOfSource s with
    | .block .tck => true | .block .mem => true | .block .pcr => true | .block .flt => true | _ => false)
  let d0 := d.rg (Reg.FLT_SRC_CFG.REACT s)
  let q0 := d.rg (Reg.FLT_SRC_CFG.SEV_REACT s)
  let r := if refused && r = 2 then d0 else r
  let q := if refused && q = 2 then q0 else q
  if d.rg (Reg.FLT_SRC_CFG.FIXED s) = 1 ∨ q < r then (x.sr (Reg.FLT_SRC_CFG.REACT s) d0).sr (Reg.FLT_SRC_CFG.SEV_REACT s) q0
  else (x.sr (Reg.FLT_SRC_CFG.REACT s) r).sr (Reg.FLT_SRC_CFG.SEV_REACT s) q

/-- FLT_SRC_STATE of a source: HELD drops the held reaction (R628). -/
def Chip.srcStateWrite (d : Chip) (s v : Nat) : Chip :=
  (if bitOf v 2 then d.endHold s true else d).writeFields 0 (0x204000 + 8 * s) true v

/-- A word of HIF_RING of ring pair r (R481): while ENABLE or DRAINING is set a write changes ENABLE only. -/
def Chip.ringWrite (d : Chip) (by_ : Req) (r o v : Nat) : Chip :=
  if d.reqDead by_ then d
  else if !d.mayWrite by_ r then d.dbRefused (reqPf by_)
  else
    let d := if d.flag (Reg.HIF_RING.ENABLE r) ∨ d.flag (Reg.HIF_RING.DRAINING r) then d
      else d.writeFields 0 o true v [(Reg.HIF_RING.ENABLE r).bit]
    if o % 0x20 ≠ 0x18 then d else if bitOf v 19 then d.ringEnable by_ r else d.ringDisable by_ r

/-- DMA_CHAN_CFG of a channel (R505). -/
def Chip.chanWrite (d : Chip) (c v : Nat) : Chip :=
  let d := if d.flag (Reg.DMA_CHAN_CFG.ENABLE c) then d
    else d.writeFields 0 (0xD01000 + 0x20 * c) true v [(Reg.DMA_CHAN_CFG.ENABLE c).bit]
  if bitOf v 63 then d.chanEnable c else d.chanDrop c

/-- A word of AMT_CMD: only the core's own write counts, and one of OP starts the operation. A value of OP that the map gives no
operation clears DONE and RESULT and does nothing else (DESIGN CHOICE, log entry 40: the map says only that a write clears DONE). -/
def Chip.cmdWrite (d : Chip) (by_ : Req) (n o v : Nat) : Chip :=
  match by_ with
  | .fn _ => d
  | .core c =>
    if c.val ≠ n then d
    else if o % 0x40 ≠ 0x30 then d.writeFields 0 o true v
    else match v with
      | 1 => cmdAccept d n
      | 2 => cmdRefuse d n
      | 3 => cmdEnd d n
      | _ => d.sr (Reg.AMT_CMD.RESULT n) 0

/-- The word of OBS_BP with ENABLE (R668, R669): HALT needs debug unlock, and HITS starts anew as ENABLE is set. -/
def Chip.bpWrite (d : Chip) (o v : Nat) : Chip :=
  let n := (o - 0x1101000) / 0x100
  let i := (o - 0x1101000) % 0x100 / 0x10
  if o % 0x10 = 0 then d.writeFields 0 o true v
  else
    let was := d.flag (Reg.OBS_BP.ENABLE n i)
    let d := d.writeFields 0 o true v (if bitsOf v 27 2 = 1 ∧ !d.flag Reg.SEC_STATE.DEBUG then [(Reg.OBS_BP.ACTION n i).bit] else [])
    if !was ∧ d.flag (Reg.OBS_BP.ENABLE n i) then d.sr (Reg.OBS_BP.HITS n i) 0 else d

/-- Of HALT, RESUME and STEP the one last written reads 1 (DESIGN CHOICE, log entry 17). -/
def Chip.dbgAsked (d : Chip) (n k : Nat) : Chip :=
  ((d.sr (Reg.OBS_DBG_CTRL.HALT n) (b2n (k = 0))).sr (Reg.OBS_DBG_CTRL.RESUME n) (b2n (k = 1))).sr (Reg.OBS_DBG_CTRL.STEP n) (b2n (k = 2))

/-- OBS_DBG_CTRL and OBS_DBG_ACC of a core (R669). HALT is ignored without debug unlock. -/
def Chip.dbgWord (d : Chip) (o v : Nat) : Chip :=
  let n : Fin 16 := ⟨(o - 0x1102000) / 0x20 % 16, Nat.mod_lt _ (by decide)⟩
  match o % 0x20 with
  | 0 =>
    let d := if bitOf v 0 ∧ d.flag Reg.SEC_STATE.DEBUG then (d.dbgAsked n 0).halt n else d
    if bitOf v 1 then (d.dbgAsked n 1).unhalt n false else if bitOf v 2 then (d.dbgAsked n 2).unhalt n true else d
  | 8 =>
    let d := d.writeFields 0 o true v [(Reg.OBS_DBG_ACC.GO n).bit]
    if bitOf v 63 then d.dbgAcc n else d
  | _ => d.writeFields 0 o true v

/-- A write of a 32-bit register, or of 32 bits of a table, of a physical function's layout. -/
def Chip.pfWrite32 (d : Chip) (by_ : Req) (fn o v : Nat) : Chip :=
  if o = 0x80004 then d.noteClear (v % 2 ^ 16)
  else if o = 0x100008 then (if bitOf v ((Reg.HIF_FREEZE.RELEASE fn).bit % 32) then ((d.sr (Reg.HIF_FREEZE.RELEASE fn) 1).freezeRelease fn).nvResume else d)
  else if within o 0x101000 0x1000 then d.hwinWrite fn ((o - 0x101000) / 32) (o % 32) v 32
  else if within o 0x102000 0x7E0 then d.poolWrite fn ((o - 0x102000) / 32 + 1) (o % 32) v 32
  else if within o 0x120000 0x20000 then
    (if o % 8 = 0 then d.dbCmd by_ ((o - 0x120000) / 8) v else d.dbRpl by_ ((o - 0x120000) / 8) v)
  else if o = 0x200000 then d.setHubMode (v / 2 ^ (Reg.FLT_MODE.MODE.bit % 32) % 2 ^ Reg.FLT_MODE.MODE.w)
  else if o = 0x200018 then d.chipPet
  else if o = 0x200020 then (if bitOf v 30 then (d.sr Reg.FLT_SAFE.ENTER 1).enterSafe 0x3FF false else d)
  else if o = 0x300008 then (if bitOf v 0 then d.askWarm else d)
  else if o = 0x300018 then
    let d := if bitOf v 0 then pllStart d else d
    if bitOf v 1 then pllSwitch d else d
  else if o = 0x400000 then d.tckWrite v
  else if o = 0x800040 then flipArm d v
  else if within o 0x900180 0x80 ∧ o % 8 = 0 then pet d ((o - 0x900180) / 8)
  else if within o 0x902000 0x200 then { d with fw := { d.fw with traceMap := tput d.fw.traceMap ((o - 0x902000) / 4) v } }
  else if within o 0xC00040 0x44 then d.keyWrite ((o - 0xC00040) / 4) v
  else if within o 0xE00000 0x10000 then d.nvPropWrite fn (o - 0xE00000) v
  else if o = 0xE10010 then d.pairsWrite v
  else if o = 0x1000010 then (if bitOf v 0 then d.zeroise else d)
  else if o = 0x1000020 then d.portPhase (v % 2 ^ 12)
  else if o = 0x1100000 then d.clearCounters (v % 32)
  else if o = 0x1100030 then
    let d := d.writeFields 0 o false v
    if bitOf v (Reg.OBS_TRACE_TRIG.GO.bit % 32) then d.traceTrigger 0 else d
  else d.writeFields fn o false v

/-- A write of a 64-bit register or of a word of a wide one. -/
def Chip.pfWrite64 (d : Chip) (by_ : Req) (fn o v : Nat) : Chip :=
  if o = 0x80030 then (if bitOf v 62 then d.recoveryAck else d)
  else if within o 0x180000 0x80000 then d.ringWrite by_ ((o - 0x180000) / 0x20) o v
  else if within o 0x201000 0x1800 then d.srcCfgWrite ((o - 0x201000) / 8) v
  else if within o 0x204000 0x1800 then d.srcStateWrite ((o - 0x204000) / 8) v
  else if o = 0x300010 then (d.writeFields 0 o true v).wake
  else if within o 0x900200 0x80 then writeMsg d ((o - 0x900200) / 8) v
  else if within o 0x901000 0x400 then d.cmdWrite by_ ((o - 0x901000) / 0x40) o v
  else if o = 0xC00020 then d.treadWrite (bitsOf v (Reg.PKT_TREAD_ADDR.TABLE.bit % 64) Reg.PKT_TREAD_ADDR.TABLE.w)
    (bitsOf v (Reg.PKT_TREAD_ADDR.COPY.bit % 64) 1) (bitsOf v (Reg.PKT_TREAD_ADDR.PART.bit % 64) Reg.PKT_TREAD_ADDR.PART.w)
    (bitsOf v (Reg.PKT_TREAD_ADDR.INDEX.bit % 64) Reg.PKT_TREAD_ADDR.INDEX.w)
  else if within o 0xD01000 0x400 ∧ o % 0x20 = 0 then d.chanWrite ((o - 0xD01000) / 0x20) v
  else if within o 0x1000100 0x60 then (d.portKey ((o - 0x1000100) / 8) v).syncDead ((o - 0x1000100) / 8)
  else if o = 0x1100020 then d.traceCfg v
  else if o = 0x1100038 then
    let d := d.writeFields 0 o true v
    if bitOf v (Reg.OBS_HANG.GO.bit % 64) then d.hangGo [] else d
  else if within o 0x1101000 0x1000 then d.bpWrite o v
  else if within o 0x1102000 0x200 then d.dbgWord o v
  else d.writeFields fn o true v

/-- A 32-bit write of a VF's page (R491, R502, R527). -/
def Chip.pageWrite32 (d : Chip) (f o v : Nat) : Chip :=
  let x := d.mboxOf f
  let put (m : Mbox) : Chip := d.hf (fun h => { h with mbox := tput h.mbox (vfKey f) m })
  if o = 8 then (if bitOf v 0 then mboxDb d.wake (pfOf f) (vfOf f) x.out else d)
  else if o = 0xC then (if bitOf v 0 then put { x with inValid := false } else d)
  else if within o 0x40 0x40 then
    let m := (x.out ++ List.replicate 64 0).take 64
    put { x with out := m.take (o - 0x40) ++ leBytes 4 v ++ m.drop (o - 0x40 + 4) }
  else if within o 0x6000 0x2000 then d.nvPropWrite f (o - 0x6000) v
  else d

/-! ## A write, where it is not discarded -/

/-- Whether a write is discarded (R308, R489, R493, R630, R634, R648). -/
def Chip.writeShut (d : Chip) (by_ : Req) (p : Place) : Bool :=
  let o := match p with | .pf _ o => o | _ => 0
  match by_ with
  | .core n => (n.val ≠ 0 && !bitOf (d.core n).wmask (o / 0x10_0000)) || (n.val ≠ 0 && (o / 0x10_0000 = 2 || o / 0x10_0000 = 3))
  | .fn f =>
    d.hub.inReset || d.pwr.trigger ≠ 0 || (o / 0x10_0000 = 2) || (d.flag Reg.FLT_SAFE.SAFE && (isVF f || o ≠ 0x300008)) ||
    (if isVF f then (d.vfPool f).state = 2 || d.frozen f else d.frozen f && o ≠ 0x100008)

def Chip.write32 (d : Chip) (by_ : Req) (p : Place) (v : Nat) : Chip :=
  match p with
  | .pf fn o => d.pfWrite32 by_ fn o v
  | .page f o => d.pageWrite32 f o v
  | .nothing => d

/-- A word written whole, its lower half given or, where it is not held, as it stands. -/
def Chip.writeWord (d : Chip) (by_ : Req) (p : Place) (low : Option Nat) (high : Nat) : Chip :=
  match p with
  | .pf fn o => d.pfWrite64 by_ fn o (low.getD (d.storedWord fn o % 2 ^ 32) + high * 2 ^ 32)
  | _ => d

/-- A completed write of a place (R6). -/
def Chip.writePlace (d : Chip) (by_ : Req) (p : Place) (wide : Bool) (v : Nat) : Chip :=
  let k := p.key
  let high := match p with | .pf _ o => o % 8 = 4 | .page _ o => o % 8 = 4 | .nothing => false
  let d := { d with bus := d.bus.unlatch by_ k }
  if wide then
    let d := { d with bus := d.bus.drop by_ k }
    if p.wide then d.writeWord by_ p (some (v % 2 ^ 32)) (v / 2 ^ 32)
    else (d.write32 by_ p (v % 2 ^ 32)).write32 by_ p.up (v / 2 ^ 32)
  else if !p.wide then d.write32 by_ p v
  else if !high then { d with bus := { d.bus.drop by_ k with held := (by_, k, v) :: (d.bus.drop by_ k).held } }
  else
    let low := d.bus.heldOf by_ k
    { d with bus := d.bus.drop by_ k }.writeWord by_ p.down low v

/-- A write of BAR0 or of the MMIO window, 32 or 64 bits wide and aligned. -/
def Chip.barWrite (d : Chip) (by_ : Req) (addr : Nat) (wide : Bool) (v : Nat) : Chip :=
  let p := d.place by_ addr
  if d.writeShut by_ p then d else d.writePlace by_ p wide (v % 2 ^ (if wide then 64 else 32))

/-! ## The commands -/

def aligned (addr : Nat) (wide : Bool) : Bool := addr % (if wide then 8 else 4) = 0

/-- REGISTER_WRITE; a misaligned one is discarded. -/
def execRegisterWrite (by_ : Req) (addr : Nat) (wide : Bool) (value : Word) (s : State) : Out :=
  s.on (fun d => if aligned addr wide then d.barWrite by_ addr wide value.toNat else d)

/-- INVALID_BAR0_ACCESS: void for an access that R5 completes. -/
def execInvalidBar0Access (_by_ : Req) (addr bytes : Nat) (write : Bool) (s : State) : Out :=
  s.on (fun d =>
    if ((bytes = 4 ∨ bytes = 8) ∧ addr % bytes = 0) ∨ write then d else { d with bus := { d.bus with data := 0xFFFF_FFFF } })

/-- A 32-bit write of one half of a word of a 64-bit or wide register; void elsewhere. -/
def Chip.halfWrite (d : Chip) (by_ : Req) (addr half v : Nat) : Chip :=
  if addr % 8 = half ∧ (d.place by_ addr).wide then d.barWrite by_ addr false v else d

def execHeldLowerHalfWrite (by_ : Req) (addr : Nat) (value : BitVec 32) (s : State) : Out :=
  s.on (fun d => d.halfWrite by_ addr 0 value.toNat)

def execUpperHalfWrite (by_ : Req) (addr : Nat) (value : BitVec 32) (s : State) : Out :=
  s.on (fun d => d.halfWrite by_ addr 4 value.toNat)

/-- A read, its data left for the requester. -/
def Chip.read (d : Chip) (by_ : Req) (addr : Nat) (wide : Bool) : Chip :=
  let r := d.barRead by_ addr wide
  { r.2 with bus := { r.2.bus with data := r.1 } }

/-- LATCHING_LOWER_HALF_READ: void where no word of a 64-bit or wide register begins. -/
def execLatchingLowerHalfRead (by_ : Req) (addr : Nat) (s : State) : Out :=
  s.on (fun d => if addr % 8 = 0 ∧ (d.place by_ addr).wide then d.read by_ addr false else d)

/-- RC_FIELD_READ, and any other completed read. -/
def execRcFieldRead (by_ : Req) (addr : Nat) (wide : Bool) (s : State) : Out :=
  s.on (fun d => if aligned addr wide then d.read by_ addr wide else d)

end Sys2Proof.Machine
end

