-- ==== Sys2Proof/Machine/ArmMem.lean ====
section
/-! DEFINITION. The loads and stores of the Armature cores (R307 to R311, R317, R318, R336). -/
namespace Sys2Proof.Machine
open Sys2Proof

/-- Bytes of an SZ code; none for the reserved one. -/
def szBytes (sz : Fin 8) : Option Nat :=
  match sz.val with
  | 0 => some 1 | 1 => some 2 | 2 => some 4 | 3 => some 8 | 4 => some 1 | 5 => some 2 | 6 => some 4 | _ => none

/-- A loaded number extended by its SZ code. -/
def szExtend (sz : Fin 8) (v : Nat) : Word :=
  match sz.val with
  | 4 => (BitVec.ofNat 8 v).signExtend 64
  | 5 => (BitVec.ofNat 16 v).signExtend 64
  | 6 => (BitVec.ofNat 32 v).signExtend 64
  | _ => BitVec.ofNat 64 v

/-- A range of the MMIO window that a BAR0 layout covers (R704). -/
def mmioOffset (a : Nat) : Nat := a - 0x2_0000_0000

/-- The tag of the word at an address as core n sees it: its own local memory's, KEYH words of another's marked, else INT. -/
def Chip.seenTag (d : Chip) (a : Nat) : Tag := d.wordTag (a / 8 * 8)

/-- What a load of core n from memory yields (R309). -/
def Chip.loadVal (d : Chip) (n : Fin 16) (sz : Fin 8) (a size : Nat) : TVal :=
  let t := d.seenTag a
  let v := d.num a size
  if ownLocal n a then (if size = 8 then ⟨BitVec.ofNat 64 v, t⟩ else ⟨if t = .keyh then 0 else szExtend sz v, .int⟩)
  else ⟨if isLocal a ∧ t = .keyh then 0 else szExtend sz v, .int⟩

/-- A load begun: the base update seen at once, the datum after the slot (R336). -/
def Chip.loadInto (d : Chip) (n : Fin 16) (rd : Fin 32) (x : TVal) (base : Option (Fin 32 × Word)) : IOut :=
  d.thenCore n (fun c =>
    let c := { c with loads := c.loads ++ [(⟨rd, x, false, false, false⟩ : InFlight)] }
    match base with
    | none => c
    | some (r, v) => c.setReg r ⟨v, .ptr⟩)

/-- The access of a load at an address. -/
def Chip.loadAt (d : Chip) (n : Fin 16) (rd : Fin 32) (sz : Fin 8) (addr : Word) (base : Option (Fin 32 × Word)) (word : Nat) : IOut :=
  match szBytes sz with
  | none => d.illegal word
  | some size =>
    let a := addr.toNat
    if isMmio a then
      if size < 4 ∨ a % size ≠ 0 then .trap d tALIGN a false
      else if mmioOffset a ≥ 0x800_0000 then .trap d tACCESS a false
      else d.breaks n [(1, a)] (fun d =>
        let r := d.barRead (.core n) (mmioOffset a) (size = 8)
        (r.2.traceData n false sz a).loadInto n rd ⟨szExtend sz r.1, .int⟩ base)
    else if a % size ≠ 0 then .trap d tALIGN a false
    else if !d.coreLoads n a size then .trap d tACCESS a false
    else d.breaks n [(1, a)] (fun d => d.reads n a size (fun d _ =>
      (d.traceData n false sz a).loadInto n rd (d.loadVal n sz a size) base))

/-- Whether core n may write the block of an MMIO address (R308). -/
def Chip.mmioStore (d : Chip) (n : Fin 16) (a : Nat) : Bool :=
  mmioOffset a < 0x800_0000 && !d.writeShut (.core n) (d.place (.core n) (mmioOffset a))

/-- A store into memory with its tag (R310). -/
def Chip.storeVal (d : Chip) (n : Fin 16) (x : TVal) (a size : Nat) : Chip :=
  let w := a / 8 * 8
  let d := if isLocal a ∧ size < 8 ∧ d.wordTag w = .keyh then d.wr w (List.replicate 8 0) else d
  let d := (d.touchPage a true).coreWr n a (leBytes size (x.v.toNat % 2 ^ (8 * size)))
  if ownLocal n a ∧ size = 8 then d.setWordTag a x.t else d

/-- The access of a store at an address; `any` marks STT, which takes every tag and goes to the core's own memory only. -/
def Chip.storeAt (d : Chip) (n : Fin 16) (x : TVal) (sz : Fin 8) (size : Nat) (addr : Word) (base : Option (Fin 32 × Word)) (any : Bool) :
    IOut :=
  let a := addr.toNat
  let done (d : Chip) : IOut :=
    d.thenCore n (fun c => match base with | none => c | some (r, v) => c.setReg r ⟨v, .ptr⟩)
  if any ∧ !ownLocal n a then (if a % size ≠ 0 then .trap d tALIGN a false else .trap d tACCESS a false)
  else if isMmio a then
    if size < 4 ∨ a % size ≠ 0 then .trap d tALIGN a false
    else if !d.mmioStore n a then .trap d tACCESS a false
    else if x.t = .keyh then .trap d tTAG_LEAK a false
    else d.breaks n [(2, a)] (fun d =>
      done ((d.traceData n true sz a).barWrite (.core n) (mmioOffset a) (size = 8) x.v.toNat))
  else if a % size ≠ 0 then .trap d tALIGN a false
  else if !d.coreStores n a size then .trap d tACCESS a false
  else if x.t = .keyh ∧ !ownLocal n a then .trap d tTAG_LEAK a false
  else d.breaks n [(2, a)] (fun d => done ((d.traceData n true sz a).storeVal n x a size))

/-- Bytes of a store's SZ: 0 to 3 only. -/
def stBytes (sz : Fin 8) : Option Nat := if sz.val ≤ 3 then szBytes sz else none

/-- A store's operands: SZ held against R317, the base, the data. -/
def Chip.store (d : Chip) (n : Fin 16) (rs rs1 : Fin 32) (sz : Fin 8) (word : Nat) (addr : Word → Word)
    (base : Option (Word → Word)) : IOut :=
  match stBytes sz with
  | none => d.illegal word
  | some size => d.typed1 n rs1 [.ptr] (fun p => d.read1 n rs (fun x =>
      d.storeAt n x sz size (addr p.v) (base.map (fun f => (rs1, f p.v))) false))

/-- Whether an instruction with base update breaks R318. -/
def badBase (rd rs1 : Fin 32) : Bool := rd = rs1 || rs1 = 0

def execLd (n : Fin 16) (rd rs1 : Fin 32) (sz : Fin 8) (imm : BitVec 12) (s : State) : Out :=
  s.on (fun d => d.insn n [rd] (fun d =>
    let word := wordM 0x10 imm.toNat sz rs1 rd
    if sz = 7 then d.illegal word
    else d.typed1 n rs1 [.ptr] (fun p => d.loadAt n rd sz (p.v + imm.signExtend 64) none word)))

def execSt (n : Fin 16) (rs rs1 : Fin 32) (sz : Fin 8) (imm : BitVec 12) (s : State) : Out :=
  s.on (fun d => d.insn n [] (fun d =>
    d.store n rs rs1 sz (wordM 0x11 imm.toNat sz rs1 rs) (fun b => b + imm.signExtend 64) none))

def execLdp (n : Fin 16) (rd rs1 : Fin 32) (sz : Fin 8) (imm : BitVec 12) (s : State) : Out :=
  s.on (fun d => d.insn n [rd, rs1] (fun d =>
    let word := wordM 0x12 imm.toNat sz rs1 rd
    if sz = 7 ∨ badBase rd rs1 then d.illegal word
    else d.typed1 n rs1 [.ptr] (fun p => d.loadAt n rd sz p.v (some (rs1, p.v + imm.signExtend 64)) word)))

def execStp (n : Fin 16) (rs rs1 : Fin 32) (sz : Fin 8) (imm : BitVec 12) (s : State) : Out :=
  s.on (fun d => d.insn n [rs1] (fun d =>
    let word := wordM 0x13 imm.toNat sz rs1 rs
    if badBase rs rs1 then d.illegal word
    else d.store n rs rs1 sz word (fun b => b) (some (fun b => b + imm.signExtend 64))))

def execLdd (n : Fin 16) (rd rs1 : Fin 32) (sz : Fin 8) (imm : BitVec 12) (s : State) : Out :=
  s.on (fun d => d.insn n [rd, rs1] (fun d =>
    let word := wordM 0x14 imm.toNat sz rs1 rd
    if sz = 7 ∨ badBase rd rs1 then d.illegal word
    else d.typed1 n rs1 [.ptr] (fun p =>
      let a := p.v - imm.zeroExtend 64
      d.loadAt n rd sz a (some (rs1, a)) word)))

def execStd (n : Fin 16) (rs rs1 : Fin 32) (sz : Fin 8) (imm : BitVec 12) (s : State) : Out :=
  s.on (fun d => d.insn n [rs1] (fun d =>
    let word := wordM 0x15 imm.toNat sz rs1 rs
    if badBase rs rs1 then d.illegal word
    else d.store n rs rs1 sz word (fun b => b - imm.zeroExtend 64) (some (fun b => b - imm.zeroExtend 64))))

def execLdx (n : Fin 16) (rd rs1 rs2 : Fin 32) (sz : Fin 8) (sc : Fin 4) (s : State) : Out :=
  s.on (fun d => d.insn n [rd] (fun d =>
    let word := wordX 0x16 sc sz rs2 rs1 rd
    if sz = 7 then d.illegal word
    else d.typed1 n rs1 [.ptr] (fun p => d.typed1 n rs2 [.int] (fun x =>
      d.loadAt n rd sz (p.v + x.v <<< sc.val) none word))))

def execStx (n : Fin 16) (rs rs1 rs2 : Fin 32) (sz : Fin 8) (sc : Fin 4) (s : State) : Out :=
  s.on (fun d => d.insn n [] (fun d =>
    match stBytes sz with
    | none => d.illegal (wordX 0x17 sc sz rs2 rs1 rs)
    | some size => d.typed1 n rs1 [.ptr] (fun p => d.typed1 n rs2 [.int] (fun x => d.read1 n rs (fun v =>
        d.storeAt n v sz size (p.v + x.v <<< sc.val) none false)))))

/-- STT: any tag, NUL included, into the core's own local memory. -/
def execStt (n : Fin 16) (rs rs1 : Fin 32) (sz : Fin 8) (imm : BitVec 12) (s : State) : Out :=
  s.on (fun d => d.insn n [] (fun d =>
    if sz ≠ 3 then d.illegal (wordM 0x18 imm.toNat sz rs1 rs)
    else d.typed1 n rs1 [.ptr] (fun p => d.storeAt n ((d.core n).reg rs) sz 8 (p.v + imm.signExtend 64) none true)))

end Sys2Proof.Machine
end

