-- ==== Sys2Proof/Machine/Spdm.lean ====
section
/-! DEFINITION. The SPDM responder (R590 to R593), IDE key management (R609, R610) and MCTP relaying. A request's response is kept
in its connection: a response code of the SPDM standard and its payload. -/
namespace Sys2Proof.Machine
open Sys2Proof

/-! ## Connections -/

def Chip.spdmConn (d : Chip) (t : Nat) : SpdmConn := (tget d.sec.spdm t).getD {}

def Chip.setSpdm (d : Chip) (t : Nat) (c : SpdmConn) : Chip := { d with sec := { d.sec with spdm := tput d.sec.spdm t c } }

/-- SPDM ERROR codes. -/
def eINVALID_REQUEST : Nat := 0x01
def eINVALID_SESSION : Nat := 0x02
def eBUSY : Nat := 0x03
def eUNEXPECTED : Nat := 0x04
def eUNSPECIFIED : Nat := 0x05
def eSESSION_LIMIT : Nat := 0x0A

/-- An answer: the response kept, and the message it signs, if it does. -/
def SpdmConn.answer (c : SpdmConn) (code : Nat) (payload : List Nat) (signed : Option (List Nat) := none) : SpdmConn :=
  { c with response := code :: payload, signed := signed, transcript := c.transcript ++ code :: payload }

def SpdmConn.error (c : SpdmConn) (e : Nat) : SpdmConn := { c with response := [0x7F, e], signed := none }

/-- A request on a transport: 0 and 1 the PFs' DOE mailboxes, 2 MCTP, where AC0 must have relayed it. It is counted; while SEC is
FENCED the answer is ERROR Busy (R614). A request before its stage is answered ERROR UnexpectedRequest. -/
def Chip.spdm (d : Chip) (t : Fin 3) (req stage : Nat) (k : Chip → SpdmConn → Chip) : Chip :=
  if t.val = 2 ∧ d.sec.relayed = 0 then d
  else
    let d := if t.val = 2 then { d with sec := { d.sec with relayed := d.sec.relayed - 1 } } else d
    let d := d.count (Reg.SEC_COUNT.COUNT 6)
    let c := d.spdmConn t
    if !d.running .sec then d.setSpdm t (c.error eBUSY)
    else if c.stage < stage then d.setSpdm t (c.error eUNEXPECTED)
    else k d { c with transcript := c.transcript ++ [req] }

/-! ## Signing (R589, R591) -/

/-- A signature of n bytes under an Alias key (0 Ed25519, 1 ML-DSA-65): its bytes are free; it depends on the key, which follows
CDI_FW, and on the message. -/
def Chip.sign (d : Chip) (key n : Nat) (m : List Nat) : List Nat :=
  (List.range n).map (fun i => (Config.signByte key (d.cdiFw ++ m) i).toNat)

/-- The message a signed response covers: the SPDM signing prefix and the transcript hash. -/
def signingMessage (c : SpdmConn) (payload : List Nat) : List Nat :=
  ascii "dmtf-spdm-v1.3.*" ++ sha384 (c.transcript ++ payload)

/-- A signed response; once zeroised, signing requests are answered ERROR Unspecified (R613). -/
def Chip.signed (d : Chip) (t : Nat) (c : SpdmConn) (code : Nat) (payload : List Nat) : Chip :=
  if d.sec.cleared then d.setSpdm t (c.error eUNSPECIFIED)
  else
    let m := signingMessage c payload
    d.setSpdm t (c.answer code (payload ++ d.sign 0 64 m) (some m))

/-! ## Certificates and measurements (R590, R592) -/

/-- Bytes of a certificate chain: 0 the Ed25519 chain, 1 the ML-DSA-65 chain; free values. -/
def certPart (chain ofs n : Nat) : List Nat := (List.range n).map (fun i => (Config.certByte chain (ofs + i)).toNat)

/-- The summary record last written (R675, R676); its MAC is a free value. -/
def Chip.summaryRecord (d : Chip) : List Nat :=
  match d.pat.log.reverse.find? (fun (r : PatRec) => r.type = 1) with
  | none => []
  | some r => leBytes 2 1 ++ leBytes 2 0x4000 ++ [0, 0, 0, 0] ++ leBytes 8 r.seq ++ leBytes 8 r.tick ++
      (List.range 0x3FD8).map (summaryByte d.pat.summary) ++ (List.range 16).map (fun i => (Config.patMac r.seq i).toNat)

/-- What measurement block i digests. -/
def Chip.measured (d : Chip) (i : Nat) : List Nat :=
  match i with
  | 1 => certPart 3 0 48
  | 2 => d.sec.s1Digest ++ leBytes 4 d.sec.s1Svn
  | 3 => d.sec.maqDigest ++ leBytes 4 d.sec.maqSvn
  | 4 => d.sec.fwDigest ++ leBytes 8 (d.rg Reg.AMT_FW_VERSION.VERSION) ++ leBytes 4 (d.rg Reg.AMT_FW_IFACE.IFACE)
  | 5 => [d.rg Reg.SEC_SVN.STAGE1, d.rg Reg.SEC_SVN.MAQUETTE, d.rg Reg.SEC_SVN.FIRMWARE, d.rg Reg.SEC_STATE.REVOKED]
  | 6 => [d.rg Reg.SEC_STATE.DEBUG]
  | 7 => d.summaryRecord
  | _ => []

/-- A measurement block: index, SHA-384 digest. -/
def Chip.measurement (d : Chip) (i : Nat) : List Nat := i :: sha384 (d.measured i)

/-! ## The requests -/

def execGetVersion (t : Fin 3) (s : State) : Out :=
  s.on (fun d => d.spdm t 0x84 0 (fun d _ =>
    d.setSpdm t (SpdmConn.answer { stage := 1, transcript := [0x84] } 0x04 [0x13])))

def execGetCapabilities (t : Fin 3) (s : State) : Out :=
  s.on (fun d => d.spdm t 0xE1 1 (fun d c => d.setSpdm t { c.answer 0x61 [] with stage := max c.stage 2 }))

/-- Ed25519, SHA-384, secp384r1 and AES-256-GCM, and no others. -/
def execNegotiateAlgorithms (t : Fin 3) (offered : Bool) (s : State) : Out :=
  s.on (fun d => d.spdm t 0xE3 2 (fun d c =>
    d.setSpdm t (if offered then { c.answer 0x63 [] with stage := 3 } else c.error eINVALID_REQUEST)))

def execGetDigests (t : Fin 3) (length : Nat) (s : State) : Out :=
  s.on (fun d => d.spdm t 0x81 3 (fun d c => d.setSpdm t (c.answer 0x01 (sha384 (certPart 0 0 length)))))

/-- Part of the slot 0 chain; no other slot exists. -/
def execGetCertificate (t : Fin 3) (slot : Nat) (offset length : Nat) (s : State) : Out :=
  s.on (fun d => d.spdm t 0x82 3 (fun d c =>
    d.setSpdm t (if slot = 0 then { c.answer 0x02 (certPart 0 offset length) with big := certPart 0 offset length }
      else c.error eINVALID_REQUEST)))

def execChallenge (t : Fin 3) (nonce : List (BitVec 8)) (s : State) : Out :=
  s.on (fun d => d.spdm t 0x83 3 (fun d c => d.signed t c 0x03 (nonce.map (·.toNat))))

/-- The measurement blocks: one by index, or all for 0xFF; signed on request. -/
def execGetMeasurements (t : Fin 3) (index : Nat) (signed : Bool) (nonce : List (BitVec 8)) (s : State) : Out :=
  s.on (fun d => d.spdm t 0xE0 3 (fun d c =>
    let bs := if index = 0xFF then (List.range 7).flatMap (fun i => d.measurement (i + 1)) else d.measurement index
    if index = 0 ∨ (7 < index ∧ index ≠ 0xFF) then d.setSpdm t (c.error eINVALID_REQUEST)
    else if signed then d.signed t c 0x60 (bs ++ nonce.map (·.toNat)) else d.setSpdm t (c.answer 0x60 bs)))

/-- KEY_EXCHANGE: a session of the four a transport has; refused while the entropy source fails (R611). -/
def execKeyExchange (t : Fin 3) (exchange : List (BitVec 8)) (s : State) : Out :=
  s.on (fun d => d.spdm t 0xE4 3 (fun d c =>
    if d.sec.drbgStopped then d.setSpdm t (c.error eUNSPECIFIED)
    else if c.sessions.length ≥ 4 then d.setSpdm t (c.error eSESSION_LIMIT)
    else if d.sec.cleared then d.setSpdm t (c.error eUNSPECIFIED)
    else
      let (r, d) := d.random 2
      let x : SpdmSession := ⟨leNat r, false, 0⟩
      d.signed t { c with sessions := c.sessions ++ [x] } 0x64 (r ++ exchange.map (·.toNat))))

/-- A request that names a session of its transport. -/
def Chip.inSession (d : Chip) (t : Nat) (c : SpdmConn) (id : Nat) (k : SpdmSession → Chip) : Chip :=
  match c.sessions.find? (fun x => x.id = id) with
  | some x => k x
  | none => d.setSpdm t (c.error eINVALID_SESSION)

def SpdmConn.upd (c : SpdmConn) (id : Nat) (f : SpdmSession → SpdmSession) : SpdmConn :=
  { c with sessions := c.sessions.map (fun x => if x.id = id then f x else x) }

/-- FINISH: the session is established when the requester's MAC, an input, verifies. -/
def execFinish (t : Fin 3) (id : Nat) (macOk : Bool) (s : State) : Out :=
  s.on (fun d => d.spdm t 0xE5 3 (fun d c => d.inSession t c id (fun _ =>
    d.setSpdm t (if macOk then (c.upd id (fun x => { x with established := true })).answer 0x65 []
      else { c.error eINVALID_REQUEST with sessions := c.sessions.filter (fun x => x.id ≠ id) }))))

def execHeartbeat (t : Fin 3) (id : Nat) (s : State) : Out :=
  s.on (fun d => d.spdm t 0xE8 3 (fun d c => d.inSession t c id (fun x =>
    d.setSpdm t (if x.established then c.answer 0x68 [] else c.error eUNEXPECTED))))

def execKeyUpdate (t : Fin 3) (id : Nat) (s : State) : Out :=
  s.on (fun d => d.spdm t 0xE9 3 (fun d c => d.inSession t c id (fun x =>
    d.setSpdm t (if x.established then (c.upd id (fun x => { x with gen := x.gen + 1 })).answer 0x69 [] else c.error eUNEXPECTED))))

def execEndSession (t : Fin 3) (id : Nat) (s : State) : Out :=
  s.on (fun d => d.spdm t 0xEC 3 (fun d c => d.inSession t c id (fun _ =>
    d.setSpdm t { c.answer 0x6C [] with sessions := c.sessions.filter (fun x => x.id ≠ id) })))

/-- CHUNK_SEND: a piece of a large request, gathered until the last. -/
def execChunkSend (t : Fin 3) (last : Bool) (piece : List (BitVec 8)) (s : State) : Out :=
  s.on (fun d => d.spdm t 0x85 2 (fun d c =>
    let all := c.chunks ++ piece.map (·.toNat)
    d.setSpdm t { c.answer 0x05 [] with chunks := if last then [] else all, transcript := if last then c.transcript ++ all else c.transcript }))

/-- CHUNK_GET: a piece of the last large response. -/
def execChunkGet (t : Fin 3) (offset length : Nat) (s : State) : Out :=
  s.on (fun d => d.spdm t 0x86 2 (fun d c => d.setSpdm t { c with response := 0x06 :: (c.big.drop offset).take length, signed := none }))

/-- COMPANION_SIGN: the ML-DSA-65 signature over the message of the signed response it immediately follows (R591). -/
def execCompanionSign (t : Fin 3) (s : State) : Out :=
  s.on (fun d => d.spdm t 0xFE 3 (fun d c =>
    if d.sec.cleared then d.setSpdm t (c.error eUNSPECIFIED)
    else match c.signed with
      | none => d.setSpdm t (c.error eUNEXPECTED)
      | some m =>
        let sig := d.sign 1 3309 m
        (d.count (Reg.SEC_COUNT.COUNT 7)).setSpdm t { c with response := 0x7E :: sig, signed := none, big := sig }))

def execCompanionCert (t : Fin 3) (offset length : Nat) (s : State) : Out :=
  s.on (fun d => d.spdm t 0xFE 3 (fun d c =>
    d.setSpdm t { c.answer 0x7E (certPart 1 offset length) with big := certPart 1 offset length }))

/-! ## IDE (R609, R610) -/

/-- An IDE_KM request in an established session of a PF's DOE mailbox. -/
def Chip.ideKm (d : Chip) (pf : Fin 2) (id : Nat) (k : Chip → SpdmConn → Chip) : Chip :=
  d.spdm ⟨pf.val, by omega⟩ 0xFE 3 (fun d c => d.inSession pf.val c id (fun x =>
    if x.established then k d c else d.setSpdm pf.val (c.error eUNEXPECTED)))

/-- A stream a PF has: link IDE (0) or one of 4 selective streams. -/
def ideStream (n : Nat) : Bool := n ≤ 4

def execKeyProg (pf : Fin 2) (id : Nat) (stream set : Nat) (key : List (BitVec 8)) (s : State) : Out :=
  s.on (fun d => d.ideKm pf id (fun d c =>
    if !ideStream stream ∨ key.length ≠ 32 then d.setSpdm pf.val (c.error eINVALID_REQUEST)
    else
      let k : IdeKey := ⟨pf, stream, set, 0x1_0000, key.map (·.toNat), false⟩
      let d := { d with sec := { d.sec with
        ide := k :: d.sec.ide.filter (fun x => !(x.port = pf.val && x.stream = stream && x.set = set)) } }
      d.setSpdm pf.val (c.answer 0x7E [2])))

/-- A key set put in use or taken out of use. -/
def Chip.keySet (d : Chip) (pf : Fin 2) (id stream set : Nat) (go : Bool) : Chip :=
  d.ideKm pf id (fun d c =>
    if !d.sec.ide.any (fun x => x.port = pf.val && x.stream = stream && x.set = set) then d.setSpdm pf.val (c.error eINVALID_REQUEST)
    else
      let d := { d with sec := { d.sec with ide := d.sec.ide.map (fun (x : IdeKey) =>
        if x.port = pf.val ∧ x.stream = stream then { x with active := if x.set = set then go else if go then false else x.active } else x) } }
      d.setSpdm pf.val (c.answer 0x7E [5]))

def execKSetGo (pf : Fin 2) (id : Nat) (stream set : Nat) (s : State) : Out := s.on (fun d => d.keySet pf id stream set true)

def execKSetStop (pf : Fin 2) (id : Nat) (stream set : Nat) (s : State) : Out := s.on (fun d => d.keySet pf id stream set false)

/-- CXL_IDE_KEY_REFRESH: a new key for a CXL device, generated and programmed; an exchange that fails retires the device (R287).
While the entropy source fails no key is generated. -/
def execCxlIdeKeyRefresh (k : Fin 8) (ok : Bool) (s : State) : Out :=
  s.on (fun d =>
    if d.sec.drbgStopped then d
    else if !ok then d.quarryFail k
    else
      let (key, d) := d.random 32
      let x : IdeKey := ⟨2 + k, 0, 0, 0x1_0000, key, true⟩
      { d with sec := { d.sec with ide := x :: d.sec.ide.filter (fun y => y.port ≠ 2 + k.val) } })

/-! ## MCTP over I3C (R590) -/

/-- An MCTP message reaches AC0; SPDM and secured messages (types 5 and 6) are relayed to the island unchanged. -/
def execMctpMessage (type : Nat) (s : State) : Out :=
  s.on (fun d => if type = 5 ∨ type = 6 then { d with sec := { d.sec with relayed := d.sec.relayed + 1 } } else d)

end Sys2Proof.Machine
end

