-- ==== Sys2Proof/Machine/Dispatch.lean ====
section
/-! DEFINITION. What each command does: one arm per constructor of `Instr`, each one call of its meaning. -/
namespace Sys2Proof.Machine
open Sys2Proof

def exec (i : Instr) (s : State) : Host.Outcome State Fault Refusal :=
  match i with
  | .registerWrite by_ addr wide value => Sys2Proof.Machine.execRegisterWrite by_ addr wide value s
  | .invalidBar0Access by_ addr bytes write => Sys2Proof.Machine.execInvalidBar0Access by_ addr bytes write s
  | .heldLowerHalfWrite by_ addr value => Sys2Proof.Machine.execHeldLowerHalfWrite by_ addr value s
  | .upperHalfWrite by_ addr value => Sys2Proof.Machine.execUpperHalfWrite by_ addr value s
  | .latchingLowerHalfRead by_ addr => Sys2Proof.Machine.execLatchingLowerHalfRead by_ addr s
  | .rcFieldRead by_ addr wide => Sys2Proof.Machine.execRcFieldRead by_ addr wide s
  | .status agent => Sys2Proof.Machine.execStatus agent s
  | .fence agent => Sys2Proof.Machine.execFence agent s
  | .fenceComplete agent => Sys2Proof.Machine.execFenceComplete agent s
  | .unfence agent => Sys2Proof.Machine.execUnfence agent s
  | .reset agent => Sys2Proof.Machine.execReset agent s
  | .gate agent => Sys2Proof.Machine.execGate agent s
  | .ungate agent => Sys2Proof.Machine.execUngate agent s
  | .sample agent => Sys2Proof.Machine.execSample agent s
  | .inject agent source detail => Sys2Proof.Machine.execInject agent source detail s
  | .itemAccepted => Sys2Proof.Machine.execItemAccepted s
  | .commitRecordTaken seq => Sys2Proof.Machine.execCommitRecordTaken seq s
  | .commitPoint seq => Sys2Proof.Machine.execCommitPoint seq s
  | .withdrawalApplied seq code => Sys2Proof.Machine.execWithdrawalApplied seq code s
  | .entryCheckFail slot copy => Sys2Proof.Machine.execEntryCheckFail slot copy s
  | .ledgerStall cycles => Sys2Proof.Machine.execLedgerStall cycles s
  | .mirrorPassComplete => Sys2Proof.Machine.execMirrorPassComplete s
  | .ledgerCopyFail copy slot body => Sys2Proof.Machine.execLedgerCopyFail copy slot body s
  | .ledgerRebuildComplete => Sys2Proof.Machine.execLedgerRebuildComplete s
  | .ledgerLost => Sys2Proof.Machine.execLedgerLost s
  | .recoveryReportBuild decrypts => Sys2Proof.Machine.execRecoveryReportBuild decrypts s
  | .glbRecoveryAck => Sys2Proof.Machine.execGlbRecoveryAck s
  | .glbAttnNoteClear mask => Sys2Proof.Machine.execGlbAttnNoteClear mask s
  | .attentionReply fn => Sys2Proof.Machine.execAttentionReply fn s
  | .cancel src target => Sys2Proof.Machine.execCancel src target s
  | .nop src => Sys2Proof.Machine.execNop src s
  | .tick => Sys2Proof.Machine.execTick s
  | .shaperCalendarAdvance => Sys2Proof.Machine.execShaperCalendarAdvance s
  | .ledgerPublish => Sys2Proof.Machine.execLedgerPublish s
  | .caliperRecordClose sample => Sys2Proof.Machine.execCaliperRecordClose sample s
  | .pendingFriezeSwap => Sys2Proof.Machine.execPendingFriezeSwap s
  | .carriedItemsResume => Sys2Proof.Machine.execCarriedItemsResume s
  | .friezeSlotFire slot => Sys2Proof.Machine.execFriezeSlotFire slot s
  | .tickMarker error => Sys2Proof.Machine.execTickMarker error s
  | .tickCell crcOk number period master => Sys2Proof.Machine.execTickCell crcOk number period master s
  | .flagsCell crcOk flags => Sys2Proof.Machine.execFlagsCell crcOk flags s
  | .probeCell crcOk delay last => Sys2Proof.Machine.execProbeCell crcOk delay last s
  | .probeReturn total loop => Sys2Proof.Machine.execProbeReturn total loop s
  | .periodicProbe => Sys2Proof.Machine.execPeriodicProbe s
  | .joined source => Sys2Proof.Machine.execJoined source s
  | .leaving source => Sys2Proof.Machine.execLeaving source s
  | .ownCellSend held => Sys2Proof.Machine.execOwnCellSend held s
  | .markerMiss => Sys2Proof.Machine.execMarkerMiss s
  | .joinSwitchover => Sys2Proof.Machine.execJoinSwitchover s
  | .leaveSwitchover => Sys2Proof.Machine.execLeaveSwitchover s
  | .relock => Sys2Proof.Machine.execRelock s
  | .leave => Sys2Proof.Machine.execLeave s
  | .join => Sys2Proof.Machine.execJoin s
  | .probe => Sys2Proof.Machine.execProbe s
  | .ringProbe => Sys2Proof.Machine.execRingProbe s
  | .ringJoin => Sys2Proof.Machine.execRingJoin s
  | .ringLeave => Sys2Proof.Machine.execRingLeave s
  | .friezeSwap => Sys2Proof.Machine.execFriezeSwap s
  | .planLoad src image => Sys2Proof.Machine.execPlanLoad src image s
  | .planUnload src plan => Sys2Proof.Machine.execPlanUnload src plan s
  | .planResume src plan => Sys2Proof.Machine.execPlanResume src plan s
  | .workDescriptorSubmit src x => Sys2Proof.Machine.execWorkDescriptorSubmit src x s
  | .reduceSum seq core => Sys2Proof.Machine.execReduceSum seq core s
  | .reduceMax seq core => Sys2Proof.Machine.execReduceMax seq core s
  | .reduceMin seq core => Sys2Proof.Machine.execReduceMin seq core s
  | .reduceArrive seq core => Sys2Proof.Machine.execReduceArrive seq core s
  | .attnPartial seq core => Sys2Proof.Machine.execAttnPartial seq core s
  | .dotRows seq core => Sys2Proof.Machine.execDotRows seq core s
  | .convert seq core => Sys2Proof.Machine.execConvert seq core s
  | .quantEf seq core => Sys2Proof.Machine.execQuantEf seq core s
  | .topk seq core => Sys2Proof.Machine.execTopk seq core s
  | .topkEf seq core => Sys2Proof.Machine.execTopkEf seq core s
  | .sha256 seq core => Sys2Proof.Machine.execSha256 seq core s
  | .crc32c seq core => Sys2Proof.Machine.execCrc32c seq core s
  | .lz4Pack seq core => Sys2Proof.Machine.execLz4Pack seq core s
  | .lz4Unpack seq core => Sys2Proof.Machine.execLz4Unpack seq core s
  | .copy seq core => Sys2Proof.Machine.execCopy seq core s
  | .gather seq core => Sys2Proof.Machine.execGather seq core s
  | .scatter seq core => Sys2Proof.Machine.execScatter seq core s
  | .fill seq core => Sys2Proof.Machine.execFill seq core s
  | .itemFinish seq => Sys2Proof.Machine.execItemFinish seq s
  | .redoCopyComplete seq core => Sys2Proof.Machine.execRedoCopyComplete seq core s
  | .operandBufferCrc core line => Sys2Proof.Machine.execOperandBufferCrc core line s
  | .wcUnitParity core => Sys2Proof.Machine.execWcUnitParity core s
  | .wcQueueParity core => Sys2Proof.Machine.execWcQueueParity core s
  | .wcItemHang core unit => Sys2Proof.Machine.execWcItemHang core unit s
  | .wcNocCredit core => Sys2Proof.Machine.execWcNocCredit core s
  | .wcGateFail core => Sys2Proof.Machine.execWcGateFail core s
  | .promote core plan position => Sys2Proof.Machine.execPromote core plan position s
  | .selftest core => Sys2Proof.Machine.execSelftest core s
  | .selftestComplete core pass => Sys2Proof.Machine.execSelftestComplete core pass s
  | .retire core => Sys2Proof.Machine.execRetire core s
  | .allReduce src x => Sys2Proof.Machine.execAllReduce src x s
  | .reduceScatter src x => Sys2Proof.Machine.execReduceScatter src x s
  | .allGather src x => Sys2Proof.Machine.execAllGather src x s
  | .broadcast src x => Sys2Proof.Machine.execBroadcast src x s
  | .reduce src x => Sys2Proof.Machine.execReduce src x s
  | .allToAll src x => Sys2Proof.Machine.execAllToAll src x s
  | .send src x => Sys2Proof.Machine.execSend src x s
  | .receive src x => Sys2Proof.Machine.execReceive src x s
  | .sendMatchTimeout seq => Sys2Proof.Machine.execSendMatchTimeout seq s
  | .groupSet src record => Sys2Proof.Machine.execGroupSet src record s
  | .groupClear src group => Sys2Proof.Machine.execGroupClear src group s
  | .slotArm src x => Sys2Proof.Machine.execSlotArm src x s
  | .slotDisarm src slot => Sys2Proof.Machine.execSlotDisarm src slot s
  | .slotForceDisarm slot => Sys2Proof.Machine.execSlotForceDisarm slot s
  | .trigger port line arg => Sys2Proof.Machine.execTrigger port line arg s
  | .streamFrame member stream offset data poison link => Sys2Proof.Machine.execStreamFrame member stream offset data poison link s
  | .firingComplete slot number latency => Sys2Proof.Machine.execFiringComplete slot number latency s
  | .firingTimeout slot number => Sys2Proof.Machine.execFiringTimeout slot number s
  | .seqOpen src x => Sys2Proof.Machine.execSeqOpen src x s
  | .seqClose src sid => Sys2Proof.Machine.execSeqClose src sid s
  | .kvPut src from_ sumSrc sid layer block tokens tier => Sys2Proof.Machine.execKvPut src from_ sumSrc sid layer block tokens tier s
  | .kvDrop src sid layer first last => Sys2Proof.Machine.execKvDrop src sid layer first last s
  | .svcBind src record => Sys2Proof.Machine.execSvcBind src record s
  | .svcUnbind src service => Sys2Proof.Machine.execSvcUnbind src service s
  | .mapCompact src => Sys2Proof.Machine.execMapCompact src s
  | .query port line arg => Sys2Proof.Machine.execQuery port line arg s
  | .heatSweep => Sys2Proof.Machine.execHeatSweep s
  | .blockMove => Sys2Proof.Machine.execBlockMove s
  | .blockMoveComplete => Sys2Proof.Machine.execBlockMoveComplete s
  | .compactionCopyDone => Sys2Proof.Machine.execCompactionCopyDone s
  | .compactionDrainDone => Sys2Proof.Machine.execCompactionDrainDone s
  | .compactionSwitchDone => Sys2Proof.Machine.execCompactionSwitchDone s
  | .compactionRestart => Sys2Proof.Machine.execCompactionRestart s
  | .movePause => Sys2Proof.Machine.execMovePause s
  | .moveResume => Sys2Proof.Machine.execMoveResume s
  | .compactAbandon => Sys2Proof.Machine.execCompactAbandon s
  | .mergeEntryFlush word => Sys2Proof.Machine.execMergeEntryFlush word s
  | .patrolScrub => Sys2Proof.Machine.execPatrolScrub s
  | .spareBankReady bank => Sys2Proof.Machine.execSpareBankReady bank s
  | .memFlipArm value => Sys2Proof.Machine.execMemFlipArm value s
  | .pageMap src addr pages tier pin => Sys2Proof.Machine.execPageMap src addr pages tier pin s
  | .pageUnmap src addr pages => Sys2Proof.Machine.execPageUnmap src addr pages s
  | .pagePin src addr pages tier pin => Sys2Proof.Machine.execPagePin src addr pages tier pin s
  | .memInit src addr length pattern force => Sys2Proof.Machine.execMemInit src addr length pattern force s
  | .sramCrc addr => Sys2Proof.Machine.execSramCrc addr s
  | .nearCrc addr => Sys2Proof.Machine.execNearCrc addr s
  | .retrainWindowEnd chan pass => Sys2Proof.Machine.execRetrainWindowEnd chan pass s
  | .cxlDeviceTrained dev units => Sys2Proof.Machine.execCxlDeviceTrained dev units s
  | .quarryDeviceFail dev => Sys2Proof.Machine.execQuarryDeviceFail dev s
  | .translationMiss page => Sys2Proof.Machine.execTranslationMiss page s
  | .migrationSweep => Sys2Proof.Machine.execMigrationSweep s
  | .pageMigration => Sys2Proof.Machine.execPageMigration s
  | .pageMigrationComplete => Sys2Proof.Machine.execPageMigrationComplete s
  | .scrubPass => Sys2Proof.Machine.execScrubPass s
  | .migPause => Sys2Proof.Machine.execMigPause s
  | .migResume => Sys2Proof.Machine.execMigResume s
  | .retireChannel chan => Sys2Proof.Machine.execRetireChannel chan s
  | .retireQuarry dev => Sys2Proof.Machine.execRetireQuarry dev s
  | .add n rd rs1 rs2 => Sys2Proof.Machine.execAdd n rd rs1 rs2 s
  | .sub n rd rs1 rs2 => Sys2Proof.Machine.execSub n rd rs1 rs2 s
  | .andInsn n rd rs1 rs2 => Sys2Proof.Machine.execAndInsn n rd rs1 rs2 s
  | .orInsn n rd rs1 rs2 => Sys2Proof.Machine.execOrInsn n rd rs1 rs2 s
  | .xorInsn n rd rs1 rs2 => Sys2Proof.Machine.execXorInsn n rd rs1 rs2 s
  | .shl n rd rs1 rs2 => Sys2Proof.Machine.execShl n rd rs1 rs2 s
  | .shr n rd rs1 rs2 => Sys2Proof.Machine.execShr n rd rs1 rs2 s
  | .sar n rd rs1 rs2 => Sys2Proof.Machine.execSar n rd rs1 rs2 s
  | .slt n rd rs1 rs2 => Sys2Proof.Machine.execSlt n rd rs1 rs2 s
  | .sltu n rd rs1 rs2 => Sys2Proof.Machine.execSltu n rd rs1 rs2 s
  | .minInsn n rd rs1 rs2 => Sys2Proof.Machine.execMinInsn n rd rs1 rs2 s
  | .maxInsn n rd rs1 rs2 => Sys2Proof.Machine.execMaxInsn n rd rs1 rs2 s
  | .minu n rd rs1 rs2 => Sys2Proof.Machine.execMinu n rd rs1 rs2 s
  | .maxu n rd rs1 rs2 => Sys2Proof.Machine.execMaxu n rd rs1 rs2 s
  | .mul n rd rs1 rs2 => Sys2Proof.Machine.execMul n rd rs1 rs2 s
  | .mulh n rd rs1 rs2 => Sys2Proof.Machine.execMulh n rd rs1 rs2 s
  | .mulhu n rd rs1 rs2 => Sys2Proof.Machine.execMulhu n rd rs1 rs2 s
  | .div n rd rs1 rs2 => Sys2Proof.Machine.execDiv n rd rs1 rs2 s
  | .divu n rd rs1 rs2 => Sys2Proof.Machine.execDivu n rd rs1 rs2 s
  | .rem n rd rs1 rs2 => Sys2Proof.Machine.execRem n rd rs1 rs2 s
  | .remu n rd rs1 rs2 => Sys2Proof.Machine.execRemu n rd rs1 rs2 s
  | .addi n rd rs1 imm => Sys2Proof.Machine.execAddi n rd rs1 imm s
  | .andi n rd rs1 imm => Sys2Proof.Machine.execAndi n rd rs1 imm s
  | .ori n rd rs1 imm => Sys2Proof.Machine.execOri n rd rs1 imm s
  | .xori n rd rs1 imm => Sys2Proof.Machine.execXori n rd rs1 imm s
  | .slti n rd rs1 imm => Sys2Proof.Machine.execSlti n rd rs1 imm s
  | .sltiu n rd rs1 imm => Sys2Proof.Machine.execSltiu n rd rs1 imm s
  | .shi n rd rs1 imm => Sys2Proof.Machine.execShi n rd rs1 imm s
  | .lui n rd imm => Sys2Proof.Machine.execLui n rd imm s
  | .luih n rd imm => Sys2Proof.Machine.execLuih n rd imm s
  | .ld n rd rs1 sz imm => Sys2Proof.Machine.execLd n rd rs1 sz imm s
  | .st n rs rs1 sz imm => Sys2Proof.Machine.execSt n rs rs1 sz imm s
  | .ldp n rd rs1 sz imm => Sys2Proof.Machine.execLdp n rd rs1 sz imm s
  | .stp n rs rs1 sz imm => Sys2Proof.Machine.execStp n rs rs1 sz imm s
  | .ldd n rd rs1 sz imm => Sys2Proof.Machine.execLdd n rd rs1 sz imm s
  | .std n rs rs1 sz imm => Sys2Proof.Machine.execStd n rs rs1 sz imm s
  | .ldx n rd rs1 rs2 sz sc => Sys2Proof.Machine.execLdx n rd rs1 rs2 sz sc s
  | .stx n rs rs1 rs2 sz sc => Sys2Proof.Machine.execStx n rs rs1 rs2 sz sc s
  | .stt n rs rs1 sz imm => Sys2Proof.Machine.execStt n rs rs1 sz imm s
  | .amoadd n rd rs1 rs2 => Sys2Proof.Machine.execAmoadd n rd rs1 rs2 s
  | .amoswp n rd rs1 rs2 => Sys2Proof.Machine.execAmoswp n rd rs1 rs2 s
  | .amocas n rd rs1 rs2 => Sys2Proof.Machine.execAmocas n rd rs1 rs2 s
  | .beq n rs1 rs2 off => Sys2Proof.Machine.execBeq n rs1 rs2 off s
  | .bne n rs1 rs2 off => Sys2Proof.Machine.execBne n rs1 rs2 off s
  | .blt n rs1 rs2 off => Sys2Proof.Machine.execBlt n rs1 rs2 off s
  | .bge n rs1 rs2 off => Sys2Proof.Machine.execBge n rs1 rs2 off s
  | .bltu n rs1 rs2 off => Sys2Proof.Machine.execBltu n rs1 rs2 off s
  | .bgeu n rs1 rs2 off => Sys2Proof.Machine.execBgeu n rs1 rs2 off s
  | .jump n off => Sys2Proof.Machine.execJump n off s
  | .call n off => Sys2Proof.Machine.execCall n off s
  | .jr n rs1 => Sys2Proof.Machine.execJr n rs1 s
  | .callr n rs1 => Sys2Proof.Machine.execCallr n rs1 s
  | .retInsn n => Sys2Proof.Machine.execRetInsn n s
  | .faddD n rd rs1 rs2 => Sys2Proof.Machine.execFaddD n rd rs1 rs2 s
  | .fsubD n rd rs1 rs2 => Sys2Proof.Machine.execFsubD n rd rs1 rs2 s
  | .fmulD n rd rs1 rs2 => Sys2Proof.Machine.execFmulD n rd rs1 rs2 s
  | .fdivD n rd rs1 rs2 => Sys2Proof.Machine.execFdivD n rd rs1 rs2 s
  | .fsqrtD n rd rs1 => Sys2Proof.Machine.execFsqrtD n rd rs1 s
  | .fminD n rd rs1 rs2 => Sys2Proof.Machine.execFminD n rd rs1 rs2 s
  | .fmaxD n rd rs1 rs2 => Sys2Proof.Machine.execFmaxD n rd rs1 rs2 s
  | .feqD n rd rs1 rs2 => Sys2Proof.Machine.execFeqD n rd rs1 rs2 s
  | .fltD n rd rs1 rs2 => Sys2Proof.Machine.execFltD n rd rs1 rs2 s
  | .fleD n rd rs1 rs2 => Sys2Proof.Machine.execFleD n rd rs1 rs2 s
  | .faddS n rd rs1 rs2 => Sys2Proof.Machine.execFaddS n rd rs1 rs2 s
  | .fsubS n rd rs1 rs2 => Sys2Proof.Machine.execFsubS n rd rs1 rs2 s
  | .fmulS n rd rs1 rs2 => Sys2Proof.Machine.execFmulS n rd rs1 rs2 s
  | .fdivS n rd rs1 rs2 => Sys2Proof.Machine.execFdivS n rd rs1 rs2 s
  | .fsqrtS n rd rs1 => Sys2Proof.Machine.execFsqrtS n rd rs1 s
  | .fminS n rd rs1 rs2 => Sys2Proof.Machine.execFminS n rd rs1 rs2 s
  | .fmaxS n rd rs1 rs2 => Sys2Proof.Machine.execFmaxS n rd rs1 rs2 s
  | .feqS n rd rs1 rs2 => Sys2Proof.Machine.execFeqS n rd rs1 rs2 s
  | .fltS n rd rs1 rs2 => Sys2Proof.Machine.execFltS n rd rs1 rs2 s
  | .fleS n rd rs1 rs2 => Sys2Proof.Machine.execFleS n rd rs1 rs2 s
  | .cvtDI n rd rs1 => Sys2Proof.Machine.execCvtDI n rd rs1 s
  | .cvtID n rd rs1 => Sys2Proof.Machine.execCvtID n rd rs1 s
  | .cvtSD n rd rs1 rs2 => Sys2Proof.Machine.execCvtSD n rd rs1 rs2 s
  | .cvtDS0 n rd rs1 => Sys2Proof.Machine.execCvtDS0 n rd rs1 s
  | .cvtDS1 n rd rs1 => Sys2Proof.Machine.execCvtDS1 n rd rs1 s
  | .mov n rd rs1 => Sys2Proof.Machine.execMov n rd rs1 s
  | .tagof n rd rs1 => Sys2Proof.Machine.execTagof n rd rs1 s
  | .retag n rd rs1 tag => Sys2Proof.Machine.execRetag n rd rs1 tag s
  | .clr n rd => Sys2Proof.Machine.execClr n rd s
  | .macd n acc mode rs1 rs2 => Sys2Proof.Machine.execMacd n acc mode rs1 rs2 s
  | .macdComplete n => Sys2Proof.Machine.execMacdComplete n s
  | .acz n acc => Sys2Proof.Machine.execAcz n acc s
  | .acrdD n rd acc half => Sys2Proof.Machine.execAcrdD n rd acc half s
  | .acrdI n rd acc half => Sys2Proof.Machine.execAcrdI n rd acc half s
  | .acwr n acc half rs1 => Sys2Proof.Machine.execAcwr n acc half rs1 s
  | .wq n rd rs1 rs2 => Sys2Proof.Machine.execWq n rd rs1 rs2 s
  | .wqk n rd rs1 rs2 => Sys2Proof.Machine.execWqk n rd rs1 rs2 s
  | .wseq n rd rs1 => Sys2Proof.Machine.execWseq n rd rs1 s
  | .wwait n rd rs1 rs2 => Sys2Proof.Machine.execWwait n rd rs1 rs2 s
  | .wpoll n rd rs1 => Sys2Proof.Machine.execWpoll n rd rs1 s
  | .wfree n rs1 => Sys2Proof.Machine.execWfree n rs1 s
  | .kopen n rd rs1 => Sys2Proof.Machine.execKopen n rd rs1 s
  | .lacc n rd rs1 rs2 => Sys2Proof.Machine.execLacc n rd rs1 rs2 s
  | .lcmt n rd rs1 rs2 => Sys2Proof.Machine.execLcmt n rd rs1 rs2 s
  | .lwdr n rd rs1 => Sys2Proof.Machine.execLwdr n rd rs1 s
  | .csrr n rd csr => Sys2Proof.Machine.execCsrr n rd csr s
  | .csrw n csr rs1 => Sys2Proof.Machine.execCsrw n csr rs1 s
  | .csrs n rd csr rs1 => Sys2Proof.Machine.execCsrs n rd csr rs1 s
  | .csrc n rd csr rs1 => Sys2Proof.Machine.execCsrc n rd csr rs1 s
  | .eret n => Sys2Proof.Machine.execEret n s
  | .fenceInsn n => Sys2Proof.Machine.execFenceInsn n s
  | .ifenceInsn n => Sys2Proof.Machine.execIfenceInsn n s
  | .waite n => Sys2Proof.Machine.execWaite n s
  | .trap n code => Sys2Proof.Machine.execTrap n code s
  | .brk n => Sys2Proof.Machine.execBrk n s
  | .loadDataReturn n => Sys2Proof.Machine.execLoadDataReturn n s
  | .interruptTaken n => Sys2Proof.Machine.execInterruptTaken n s
  | .commandDispatch ring entry => Sys2Proof.Machine.execCommandDispatch ring entry s
  | .accept n => Sys2Proof.Machine.execAccept n s
  | .refuse n => Sys2Proof.Machine.execRefuse n s
  | .endItem n => Sys2Proof.Machine.execEndItem n s
  | .amtMsg n value => Sys2Proof.Machine.execAmtMsg n value s
  | .amtWdogPet n => Sys2Proof.Machine.execAmtWdogPet n s
  | .acWdog n => Sys2Proof.Machine.execAcWdog n s
  | .coreRestartComplete n => Sys2Proof.Machine.execCoreRestartComplete n s
  | .coreRestart n => Sys2Proof.Machine.execCoreRestart n s
  | .coreRetire n => Sys2Proof.Machine.execCoreRetire n s
  | .firmwareStart => Sys2Proof.Machine.execFirmwareStart s
  | .fwDownload src from_ off len => Sys2Proof.Machine.execFwDownload src from_ off len s
  | .fwStage src length flashOk => Sys2Proof.Machine.execFwStage src length flashOk s
  | .fwActivate src slot mode => Sys2Proof.Machine.execFwActivate src slot mode s
  | .activationDeferralEnd => Sys2Proof.Machine.execActivationDeferralEnd s
  | .coreSwitch n => Sys2Proof.Machine.execCoreSwitch n s
  | .writeFrame p w addr lines rsvd flit => Sys2Proof.Machine.execWriteFrame p w addr lines rsvd flit s
  | .writeHpFrame p w addr lines rsvd flit => Sys2Proof.Machine.execWriteHpFrame p w addr lines rsvd flit s
  | .readReqFrame p w count flit => Sys2Proof.Machine.execReadReqFrame p w count flit s
  | .readCplFrame p w lines offset addr flit => Sys2Proof.Machine.execReadCplFrame p w lines offset addr flit s
  | .dvtFrame p w first last flit => Sys2Proof.Machine.execDvtFrame p w first last flit s
  | .tagFrame p w counter phase tagOk => Sys2Proof.Machine.execTagFrame p w counter phase tagOk s
  | .ctrlFrame p w => Sys2Proof.Machine.execCtrlFrame p w s
  | .frameReceiveFail p => Sys2Proof.Machine.execFrameReceiveFail p s
  | .recordClose p => Sys2Proof.Machine.execRecordClose p s
  | .nak p => Sys2Proof.Machine.execNak p s
  | .replayTimeout p => Sys2Proof.Machine.execReplayTimeout p s
  | .retrainComplete p ok => Sys2Proof.Machine.execRetrainComplete p ok s
  | .unheldPaceSymbol p line => Sys2Proof.Machine.execUnheldPaceSymbol p line s
  | .steerPrep p pos => Sys2Proof.Machine.execSteerPrep p pos s
  | .steerDone p pos => Sys2Proof.Machine.execSteerDone p pos s
  | .returnPrep p pos => Sys2Proof.Machine.execReturnPrep p pos s
  | .returnDone p pos => Sys2Proof.Machine.execReturnDone p pos s
  | .spare p pos => Sys2Proof.Machine.execSpare p pos s
  | .spareTrain p => Sys2Proof.Machine.execSpareTrain p s
  | .half p half => Sys2Proof.Machine.execHalf p half s
  | .calibrationSessionStart p => Sys2Proof.Machine.execCalibrationSessionStart p s
  | .trainingTimeExpiry p reached => Sys2Proof.Machine.execTrainingTimeExpiry p reached s
  | .steerTimeout p => Sys2Proof.Machine.execSteerTimeout p s
  | .steerRetry p => Sys2Proof.Machine.execSteerRetry p s
  | .laneFailure p position => Sys2Proof.Machine.execLaneFailure p position s
  | .spareFailure p => Sys2Proof.Machine.execSpareFailure p s
  | .lnkCredit p => Sys2Proof.Machine.execLnkCredit p s
  | .portUp src p => Sys2Proof.Machine.execPortUp src p s
  | .portDown src p => Sys2Proof.Machine.execPortDown src p s
  | .macsecSa src p mac sc sa slot xpn => Sys2Proof.Machine.execMacsecSa src p mac sc sa slot xpn s
  | .calPause => Sys2Proof.Machine.execCalPause s
  | .calResume => Sys2Proof.Machine.execCalResume s
  | .laneFail lane => Sys2Proof.Machine.execLaneFail lane s
  | .margin lane margin => Sys2Proof.Machine.execMargin lane margin s
  | .write src x => Sys2Proof.Machine.execWrite src x s
  | .read src x => Sys2Proof.Machine.execRead src x s
  | .fadd src x => Sys2Proof.Machine.execFadd src x s
  | .cas src x => Sys2Proof.Machine.execCas src x s
  | .writePacket h data => Sys2Proof.Machine.execWritePacket h data s
  | .readReq h => Sys2Proof.Machine.execReadReq h s
  | .readResp h data => Sys2Proof.Machine.execReadResp h data s
  | .faddPacket h addend => Sys2Proof.Machine.execFaddPacket h addend s
  | .casPacket h compare swap => Sys2Proof.Machine.execCasPacket h compare swap s
  | .atomicResp h value => Sys2Proof.Machine.execAtomicResp h value s
  | .skip h => Sys2Proof.Machine.execSkip h s
  | .coll h data => Sys2Proof.Machine.execColl h data s
  | .collAbort h tag => Sys2Proof.Machine.execCollAbort h tag s
  | .ack h have_ need => Sys2Proof.Machine.execAck h have_ need s
  | .nakPacket h => Sys2Proof.Machine.execNakPacket h s
  | .connect dst peer from_ psn paths => Sys2Proof.Machine.execConnect dst peer from_ psn paths s
  | .connectAck dst from_ psn => Sys2Proof.Machine.execConnectAck dst from_ psn s
  | .close dst => Sys2Proof.Machine.execClose dst s
  | .retransmissionTimeout c psn => Sys2Proof.Machine.execRetransmissionTimeout c psn s
  | .pathProbe c path => Sys2Proof.Machine.execPathProbe c path s
  | .reconnectTimeout c => Sys2Proof.Machine.execReconnectTimeout c s
  | .connectTimeout c => Sys2Proof.Machine.execConnectTimeout c s
  | .connOpen src record => Sys2Proof.Machine.execConnOpen src record s
  | .connClose src c => Sys2Proof.Machine.execConnClose src c s
  | .regionReg src x => Sys2Proof.Machine.execRegionReg src x s
  | .regionRevoke src rkey => Sys2Proof.Machine.execRegionRevoke src rkey s
  | .revokeCut r => Sys2Proof.Machine.execRevokeCut r s
  | .contextFill c => Sys2Proof.Machine.execContextFill c s
  | .pathDown c path => Sys2Proof.Machine.execPathDown c path s
  | .ctxFlush => Sys2Proof.Machine.execCtxFlush s
  | .receivedFrame m cyc data room => Sys2Proof.Machine.execReceivedFrame m cyc data room s
  | .emMissFill cyc => Sys2Proof.Machine.execEmMissFill cyc s
  | .sendOpportunity m cyc => Sys2Proof.Machine.execSendOpportunity m cyc s
  | .pfcPause m prio time => Sys2Proof.Machine.execPfcPause m prio time s
  | .pfcPauseExpiry m prio => Sys2Proof.Machine.execPfcPauseExpiry m prio s
  | .shaperWheelExpiry q cyc => Sys2Proof.Machine.execShaperWheelExpiry q cyc s
  | .creditModeScan cyc => Sys2Proof.Machine.execCreditModeScan cyc s
  | .layoutSet src layout record => Sys2Proof.Machine.execLayoutSet src layout record s
  | .selectSet src port record => Sys2Proof.Machine.execSelectSet src port record s
  | .actionSet src index record => Sys2Proof.Machine.execActionSet src index record s
  | .actionFree src index => Sys2Proof.Machine.execActionFree src index s
  | .ruleAdd src table override action index record => Sys2Proof.Machine.execRuleAdd src table override action index record s
  | .ruleDel src table index record => Sys2Proof.Machine.execRuleDel src table index record s
  | .groupCommit src => Sys2Proof.Machine.execGroupCommit src s
  | .groupAbort src => Sys2Proof.Machine.execGroupAbort src s
  | .indirWrite src first count record => Sys2Proof.Machine.execIndirWrite src first count record s
  | .queueSet src queue mac prio weight flags depth rate burst => Sys2Proof.Machine.execQueueSet src queue mac prio weight flags depth rate burst s
  | .policerSet src policer flags rate burst => Sys2Proof.Machine.execPolicerSet src policer flags rate burst s
  | .emRebuild src seed0 seed1 => Sys2Proof.Machine.execEmRebuild src seed0 seed1 s
  | .versionRetire => Sys2Proof.Machine.execVersionRetire s
  | .rebuildCopyDone => Sys2Proof.Machine.execRebuildCopyDone s
  | .rebuildDrainDone => Sys2Proof.Machine.execRebuildDrainDone s
  | .rebuildSwitchDone => Sys2Proof.Machine.execRebuildSwitchDone s
  | .rebuildRestart => Sys2Proof.Machine.execRebuildRestart s
  | .rebuildAbandon => Sys2Proof.Machine.execRebuildAbandon s
  | .cacheFlush => Sys2Proof.Machine.execCacheFlush s
  | .pktTreadAddr table copy part index => Sys2Proof.Machine.execPktTreadAddr table copy part index s
  | .pktToeplitzKey k value => Sys2Proof.Machine.execPktToeplitzKey k value s
  | .hifDbCmd by_ r tail => Sys2Proof.Machine.execHifDbCmd by_ r tail s
  | .hifDbRpl by_ r tail => Sys2Proof.Machine.execHifDbRpl by_ r tail s
  | .commandFetch r entry poison => Sys2Proof.Machine.execCommandFetch r entry poison s
  | .replyWrite r => Sys2Proof.Machine.execReplyWrite r s
  | .interruptModerationExpiry r => Sys2Proof.Machine.execInterruptModerationExpiry r s
  | .hifRingEnable by_ r => Sys2Proof.Machine.execHifRingEnable by_ r s
  | .hifRingDisable by_ r => Sys2Proof.Machine.execHifRingDisable by_ r s
  | .uncorrectableLinkError pf cause => Sys2Proof.Machine.execUncorrectableLinkError pf cause s
  | .hifFreezeRelease pf => Sys2Proof.Machine.execHifFreezeRelease pf s
  | .release pf => Sys2Proof.Machine.execRelease pf s
  | .busMasterEnableClear fn => Sys2Proof.Machine.execBusMasterEnableClear fn s
  | .busMasterEnableSet fn => Sys2Proof.Machine.execBusMasterEnableSet fn s
  | .vfEnableSet pf num => Sys2Proof.Machine.execVfEnableSet pf num s
  | .vfEnableClear pf => Sys2Proof.Machine.execVfEnableClear pf s
  | .functionLevelReset fn => Sys2Proof.Machine.execFunctionLevelReset fn s
  | .flrComplete fn => Sys2Proof.Machine.execFlrComplete fn s
  | .vfFlr pf vf => Sys2Proof.Machine.execVfFlr pf vf s
  | .completionTimeout pf tag => Sys2Proof.Machine.execCompletionTimeout pf tag s
  | .completionArrival pf tag ok => Sys2Proof.Machine.execCompletionArrival pf tag ok s
  | .tagQuarantineExpiry pf tag => Sys2Proof.Machine.execTagQuarantineExpiry pf tag s
  | .atsInvalidation pf addr pages => Sys2Proof.Machine.execAtsInvalidation pf addr pages s
  | .vfMboxDb pf vf message => Sys2Proof.Machine.execVfMboxDb pf vf message s
  | .dirtyLogStart src vf hbase pages bitmap => Sys2Proof.Machine.execDirtyLogStart src vf hbase pages bitmap s
  | .dirtyLogSwap src vf bitmap => Sys2Proof.Machine.execDirtyLogSwap src vf bitmap s
  | .dirtyLogStop src vf => Sys2Proof.Machine.execDirtyLogStop src vf s
  | .dmaXfer src x => Sys2Proof.Machine.execDmaXfer src x s
  | .dmaChanEnable c => Sys2Proof.Machine.execDmaChanEnable c s
  | .dmaChanDisable c => Sys2Proof.Machine.execDmaChanDisable c s
  | .dmaPaceRequest c => Sys2Proof.Machine.execDmaPaceRequest c s
  | .burstWritesIssued c => Sys2Proof.Machine.execBurstWritesIssued c s
  | .readBackComplete seq poison => Sys2Proof.Machine.execReadBackComplete seq poison s
  | .dmaPaceTimeout c => Sys2Proof.Machine.execDmaPaceTimeout c s
  | .chanDrop c => Sys2Proof.Machine.execChanDrop c s
  | .nvmeSqDoorbell fn qid tail => Sys2Proof.Machine.execNvmeSqDoorbell fn qid tail s
  | .nvmeCqDoorbell fn qid head => Sys2Proof.Machine.execNvmeCqDoorbell fn qid head s
  | .nvmeCommandFetch => Sys2Proof.Machine.execNvmeCommandFetch s
  | .createIoSq fn cid qid size prp1 prio cqid contiguous => Sys2Proof.Machine.execCreateIoSq fn cid qid size prp1 prio cqid contiguous s
  | .deleteIoSq fn cid qid => Sys2Proof.Machine.execDeleteIoSq fn cid qid s
  | .createIoCq fn cid qid size prp1 vector interrupts contiguous => Sys2Proof.Machine.execCreateIoCq fn cid qid size prp1 vector interrupts contiguous s
  | .deleteIoCq fn cid qid => Sys2Proof.Machine.execDeleteIoCq fn cid qid s
  | .identify fn cid cns nsid prps => Sys2Proof.Machine.execIdentify fn cid cns nsid prps s
  | .getLogPage fn cid lid numd prps => Sys2Proof.Machine.execGetLogPage fn cid lid numd prps s
  | .setFeatures fn cid fid value => Sys2Proof.Machine.execSetFeatures fn cid fid value s
  | .getFeatures fn cid fid => Sys2Proof.Machine.execGetFeatures fn cid fid s
  | .firmwareImageDownload fn cid numd ofst prps data => Sys2Proof.Machine.execFirmwareImageDownload fn cid numd ofst prps data s
  | .firmwareCommit fn cid fs ca flashOk => Sys2Proof.Machine.execFirmwareCommit fn cid fs ca flashOk s
  | .invalidCommandOpcode fn qid cid => Sys2Proof.Machine.execInvalidCommandOpcode fn qid cid s
  | .nvmeRead fn qid cid nsid slba nlb prps => Sys2Proof.Machine.execNvmeRead fn qid cid nsid slba nlb prps s
  | .nvmeWrite fn qid cid nsid slba nlb prps data => Sys2Proof.Machine.execNvmeWrite fn qid cid nsid slba nlb prps data s
  | .nvmeFlush fn qid cid nsid => Sys2Proof.Machine.execNvmeFlush fn qid cid nsid s
  | .writeZeroes fn qid cid nsid slba nlb => Sys2Proof.Machine.execWriteZeroes fn qid cid nsid slba nlb s
  | .ccEnSet fn => Sys2Proof.Machine.execCcEnSet fn s
  | .ccEnClear fn => Sys2Proof.Machine.execCcEnClear fn s
  | .nvmSubsystemReset fn => Sys2Proof.Machine.execNvmSubsystemReset fn s
  | .nvsNsSet src record => Sys2Proof.Machine.execNvsNsSet src record s
  | .nvsNsClear src index => Sys2Proof.Machine.execNvsNsClear src index s
  | .nvsTargetSet src record => Sys2Proof.Machine.execNvsTargetSet src record s
  | .targetConnectComplete t => Sys2Proof.Machine.execTargetConnectComplete t s
  | .nvsTargetClear src t => Sys2Proof.Machine.execNvsTargetClear src t s
  | .backendCompletion seq sct sc data => Sys2Proof.Machine.execBackendCompletion seq sct sc data s
  | .backendTimeout seq => Sys2Proof.Machine.execBackendTimeout seq s
  | .targetReconnect t ok => Sys2Proof.Machine.execTargetReconnect t ok s
  | .targetDrop t => Sys2Proof.Machine.execTargetDrop t s
  | .ckpJobSet src record => Sys2Proof.Machine.execCkpJobSet src record s
  | .ckpJobClear src job => Sys2Proof.Machine.execCkpJobClear src job s
  | .ckpStep src job step => Sys2Proof.Machine.execCkpStep src job step s
  | .ckpNow src job flags => Sys2Proof.Machine.execCkpNow src job flags s
  | .ckpRestore src job step store => Sys2Proof.Machine.execCkpRestore src job step store s
  | .ckpAbort src job => Sys2Proof.Machine.execCkpAbort src job s
  | .checkpointNotice job step => Sys2Proof.Machine.execCheckpointNotice job step s
  | .cowWrite addr data => Sys2Proof.Machine.execCowWrite addr data s
  | .walkerVisit job => Sys2Proof.Machine.execWalkerVisit job s
  | .batchHashed job => Sys2Proof.Machine.execBatchHashed job s
  | .hashExchangeRound job writers => Sys2Proof.Machine.execHashExchangeRound job writers s
  | .writerConfirm job batch rank places ok => Sys2Proof.Machine.execWriterConfirm job batch rank places ok s
  | .nodeLost job rank writers => Sys2Proof.Machine.execNodeLost job rank writers s
  | .segmentWrite job => Sys2Proof.Machine.execSegmentWrite job s
  | .rootWrite job segments covered => Sys2Proof.Machine.execRootWrite job segments covered s
  | .commitRecordWrite job tail => Sys2Proof.Machine.execCommitRecordWrite job tail s
  | .committedMessage job tail => Sys2Proof.Machine.execCommittedMessage job tail s
  | .jobAbandon job => Sys2Proof.Machine.execJobAbandon job s
  | .keyLoad src record => Sys2Proof.Machine.execKeyLoad src record s
  | .keyZero src slot => Sys2Proof.Machine.execKeyZero src slot s
  | .encrypt src x => Sys2Proof.Machine.execEncrypt src x s
  | .decrypt src x => Sys2Proof.Machine.execDecrypt src x s
  | .kmac src x => Sys2Proof.Machine.execKmac src x s
  | .secPortPhase value => Sys2Proof.Machine.execSecPortPhase value s
  | .secPortKey p value => Sys2Proof.Machine.execSecPortKey p value s
  | .secZeroise => Sys2Proof.Machine.execSecZeroise s
  | .zeroiseAll => Sys2Proof.Machine.execZeroiseAll s
  | .drbgReseed => Sys2Proof.Machine.execDrbgReseed s
  | .getVersion t => Sys2Proof.Machine.execGetVersion t s
  | .getCapabilities t => Sys2Proof.Machine.execGetCapabilities t s
  | .negotiateAlgorithms t offered => Sys2Proof.Machine.execNegotiateAlgorithms t offered s
  | .getDigests t length => Sys2Proof.Machine.execGetDigests t length s
  | .getCertificate t slot offset length => Sys2Proof.Machine.execGetCertificate t slot offset length s
  | .challenge t nonce => Sys2Proof.Machine.execChallenge t nonce s
  | .getMeasurements t index signed nonce => Sys2Proof.Machine.execGetMeasurements t index signed nonce s
  | .keyExchange t exchange => Sys2Proof.Machine.execKeyExchange t exchange s
  | .finish t id macOk => Sys2Proof.Machine.execFinish t id macOk s
  | .heartbeat t id => Sys2Proof.Machine.execHeartbeat t id s
  | .keyUpdate t id => Sys2Proof.Machine.execKeyUpdate t id s
  | .endSession t id => Sys2Proof.Machine.execEndSession t id s
  | .chunkSend t last piece => Sys2Proof.Machine.execChunkSend t last piece s
  | .chunkGet t offset length => Sys2Proof.Machine.execChunkGet t offset length s
  | .companionSign t => Sys2Proof.Machine.execCompanionSign t s
  | .companionCert t offset length => Sys2Proof.Machine.execCompanionCert t offset length s
  | .keyProg pf id stream set key => Sys2Proof.Machine.execKeyProg pf id stream set key s
  | .kSetGo pf id stream set => Sys2Proof.Machine.execKSetGo pf id stream set s
  | .kSetStop pf id stream set => Sys2Proof.Machine.execKSetStop pf id stream set s
  | .cxlIdeKeyRefresh k ok => Sys2Proof.Machine.execCxlIdeKeyRefresh k ok s
  | .entropyHealthFail => Sys2Proof.Machine.execEntropyHealthFail s
  | .entropyHealthPass => Sys2Proof.Machine.execEntropyHealthPass s
  | .debugUnlockToken keyId pub sigs => Sys2Proof.Machine.execDebugUnlockToken keyId pub sigs s
  | .secCoreWdog => Sys2Proof.Machine.execSecCoreWdog s
  | .mctpMessage type => Sys2Proof.Machine.execMctpMessage type s
  | .faultEvent source detail addr => Sys2Proof.Machine.execFaultEvent source detail addr s
  | .graceTimerExpiry source => Sys2Proof.Machine.execGraceTimerExpiry source s
  | .heldReactionDrop source => Sys2Proof.Machine.execHeldReactionDrop source s
  | .fltModeNormal => Sys2Proof.Machine.execFltModeNormal s
  | .fltModeTest => Sys2Proof.Machine.execFltModeTest s
  | .fltModeRecovery => Sys2Proof.Machine.execFltModeRecovery s
  | .startupModeExpiry => Sys2Proof.Machine.execStartupModeExpiry s
  | .fltSafeEnter => Sys2Proof.Machine.execFltSafeEnter s
  | .chipWatchdogExpiry => Sys2Proof.Machine.execChipWatchdogExpiry s
  | .fltChipPet => Sys2Proof.Machine.execFltChipPet s
  | .i3cStatusRead index bytes => Sys2Proof.Machine.execI3cStatusRead index bytes s
  | .i3cWakeWrite value => Sys2Proof.Machine.execI3cWakeWrite value s
  | .porNAssert => Sys2Proof.Machine.execPorNAssert s
  | .porNRelease straps => Sys2Proof.Machine.execPorNRelease straps s
  | .refclkLock => Sys2Proof.Machine.execRefclkLock s
  | .stage1Verify => Sys2Proof.Machine.execStage1Verify s
  | .maquetteApply => Sys2Proof.Machine.execMaquetteApply s
  | .coldInitComplete => Sys2Proof.Machine.execColdInitComplete s
  | .startUpReady => Sys2Proof.Machine.execStartUpReady s
  | .pllStart => Sys2Proof.Machine.execPllStart s
  | .pllSwitch => Sys2Proof.Machine.execPllSwitch s
  | .pllLockLoss which => Sys2Proof.Machine.execPllLockLoss which s
  | .pllLockReturn which => Sys2Proof.Machine.execPllLockReturn which s
  | .refclkLoss => Sys2Proof.Machine.execRefclkLoss s
  | .warmChipReset => Sys2Proof.Machine.execWarmChipReset s
  | .warmReset => Sys2Proof.Machine.execWarmReset s
  | .warmResetRelease => Sys2Proof.Machine.execWarmResetRelease s
  | .warmResetReady failed => Sys2Proof.Machine.execWarmResetReady failed s
  | .idleTimerA1 => Sys2Proof.Machine.execIdleTimerA1 s
  | .idleTimerA2 => Sys2Proof.Machine.execIdleTimerA2 s
  | .idleTimerA3 => Sys2Proof.Machine.execIdleTimerA3 s
  | .wakeEvent => Sys2Proof.Machine.execWakeEvent s
  | .exitComplete => Sys2Proof.Machine.execExitComplete s
  | .wakeBoundExpiry => Sys2Proof.Machine.execWakeBoundExpiry s
  | .railExcursion rail => Sys2Proof.Machine.execRailExcursion rail s
  | .pcrGateFail domain => Sys2Proof.Machine.execPcrGateFail domain s
  | .pcrOsc mhz => Sys2Proof.Machine.execPcrOsc mhz s
  | .thermtrip => Sys2Proof.Machine.execThermtrip s
  | .obsCtrClear block => Sys2Proof.Machine.execObsCtrClear block s
  | .traceEnable value => Sys2Proof.Machine.execTraceEnable value s
  | .traceDisable => Sys2Proof.Machine.execTraceDisable s
  | .traceTrigger => Sys2Proof.Machine.execTraceTrigger s
  | .tracePostDone => Sys2Proof.Machine.execTracePostDone s
  | .halt n => Sys2Proof.Machine.execHalt n s
  | .resume n => Sys2Proof.Machine.execResume n s
  | .step n => Sys2Proof.Machine.execStep n s
  | .obsDbgAcc n write tag index => Sys2Proof.Machine.execObsDbgAcc n write tag index s
  | .obsHang silent => Sys2Proof.Machine.execObsHang silent s
  | .hangAgentTimeout agent => Sys2Proof.Machine.execHangAgentTimeout agent s
  | .emergencyEnd => Sys2Proof.Machine.execEmergencyEnd s
  | .report source power temp => Sys2Proof.Machine.execReport source power temp s
  | .budget p => Sys2Proof.Machine.execBudget p s
  | .patinaSummary => Sys2Proof.Machine.execPatinaSummary s
  | .histogramSample sample => Sys2Proof.Machine.execHistogramSample sample s
  | .patFlush => Sys2Proof.Machine.execPatFlush s
  | .traceStop => Sys2Proof.Machine.execTraceStop s
  | .portTrainingComplete p => Sys2Proof.Machine.execPortTrainingComplete p s
  | .mirrorTrainingWaitExpiry => Sys2Proof.Machine.execMirrorTrainingWaitExpiry s
  | .powerStateEntryComplete => Sys2Proof.Machine.execPowerStateEntryComplete s
  | .refclkReturn => Sys2Proof.Machine.execRefclkReturn s
  | .dynamicAddressAssignment target addr => Sys2Proof.Machine.execDynamicAddressAssignment target addr s
  | .aerStatusClear pf => Sys2Proof.Machine.execAerStatusClear pf s
  | .msixVectorUnmask fn vector => Sys2Proof.Machine.execMsixVectorUnmask fn vector s
  | .perstNAssert pf => Sys2Proof.Machine.execPerstNAssert pf s

end Sys2Proof.Machine
end

