-- ==== Sys2Proof/Machine/Step.lean ====
section
/-! DEFINITION. One step: the command at the front of the queue runs on the state with the queue's rest; on an empty
queue the block idles but for a trace point that firmware has reached (log entries 1 and 58). -/
namespace Sys2Proof.Machine
open Sys2Proof

/-- Take the command at the front of the queue. -/
def step (s : State) : Out :=
  match s.pending with
  | [] => .next { s with chip := s.chip.idle }
  | c :: rest => exec c { s with pending := rest }

/-- The state with the command that a word spells put at the front of its queue; unchanged where it spells none. -/
def State.withFetchWord (s : State) (nbits w : Nat) : State :=
  match decodeTableWord nbits w with
  | some c => { s with pending := c :: s.pending }
  | none => s

end Sys2Proof.Machine
end

