-- ==== Sys2Proof/Machine/ArmWord.lean ====
section
/-! DEFINITION. The words of the Armature instructions (R314 to R324): the encoder and the decoder. A word that decodes to no instruction
is ILLEGAL (R315); a reserved SZ, MODE or CSR and a register restriction are decoded and trap in the instruction's meaning. -/
namespace Sys2Proof.Machine
open Sys2Proof

/-- The word of an Armature instruction; none for every other command. -/
def encodeInsn (i : Instr) : Option Nat :=
  match i with
  | .add _ rd rs1 rs2 => some (wordR 0x01 0x000 rs2 rs1 rd)
  | .sub _ rd rs1 rs2 => some (wordR 0x01 0x001 rs2 rs1 rd)
  | .andInsn _ rd rs1 rs2 => some (wordR 0x01 0x002 rs2 rs1 rd)
  | .orInsn _ rd rs1 rs2 => some (wordR 0x01 0x003 rs2 rs1 rd)
  | .xorInsn _ rd rs1 rs2 => some (wordR 0x01 0x004 rs2 rs1 rd)
  | .shl _ rd rs1 rs2 => some (wordR 0x01 0x005 rs2 rs1 rd)
  | .shr _ rd rs1 rs2 => some (wordR 0x01 0x006 rs2 rs1 rd)
  | .sar _ rd rs1 rs2 => some (wordR 0x01 0x007 rs2 rs1 rd)
  | .slt _ rd rs1 rs2 => some (wordR 0x01 0x008 rs2 rs1 rd)
  | .sltu _ rd rs1 rs2 => some (wordR 0x01 0x009 rs2 rs1 rd)
  | .minInsn _ rd rs1 rs2 => some (wordR 0x01 0x00A rs2 rs1 rd)
  | .maxInsn _ rd rs1 rs2 => some (wordR 0x01 0x00B rs2 rs1 rd)
  | .minu _ rd rs1 rs2 => some (wordR 0x01 0x00C rs2 rs1 rd)
  | .maxu _ rd rs1 rs2 => some (wordR 0x01 0x00D rs2 rs1 rd)
  | .mul _ rd rs1 rs2 => some (wordR 0x01 0x010 rs2 rs1 rd)
  | .mulh _ rd rs1 rs2 => some (wordR 0x01 0x011 rs2 rs1 rd)
  | .mulhu _ rd rs1 rs2 => some (wordR 0x01 0x012 rs2 rs1 rd)
  | .div _ rd rs1 rs2 => some (wordR 0x01 0x014 rs2 rs1 rd)
  | .divu _ rd rs1 rs2 => some (wordR 0x01 0x015 rs2 rs1 rd)
  | .rem _ rd rs1 rs2 => some (wordR 0x01 0x016 rs2 rs1 rd)
  | .remu _ rd rs1 rs2 => some (wordR 0x01 0x017 rs2 rs1 rd)
  | .amoadd _ rd rs1 rs2 => some (wordR 0x19 0x000 rs2 rs1 rd)
  | .amoswp _ rd rs1 rs2 => some (wordR 0x19 0x001 rs2 rs1 rd)
  | .amocas _ rd rs1 rs2 => some (wordR 0x19 0x002 rs2 rs1 rd)
  | .faddD _ rd rs1 rs2 => some (wordR 0x30 0x000 rs2 rs1 rd)
  | .fsubD _ rd rs1 rs2 => some (wordR 0x30 0x001 rs2 rs1 rd)
  | .fmulD _ rd rs1 rs2 => some (wordR 0x30 0x002 rs2 rs1 rd)
  | .fdivD _ rd rs1 rs2 => some (wordR 0x30 0x003 rs2 rs1 rd)
  | .fminD _ rd rs1 rs2 => some (wordR 0x30 0x005 rs2 rs1 rd)
  | .fmaxD _ rd rs1 rs2 => some (wordR 0x30 0x006 rs2 rs1 rd)
  | .feqD _ rd rs1 rs2 => some (wordR 0x30 0x008 rs2 rs1 rd)
  | .fltD _ rd rs1 rs2 => some (wordR 0x30 0x009 rs2 rs1 rd)
  | .fleD _ rd rs1 rs2 => some (wordR 0x30 0x00A rs2 rs1 rd)
  | .faddS _ rd rs1 rs2 => some (wordR 0x30 0x100 rs2 rs1 rd)
  | .fsubS _ rd rs1 rs2 => some (wordR 0x30 0x101 rs2 rs1 rd)
  | .fmulS _ rd rs1 rs2 => some (wordR 0x30 0x102 rs2 rs1 rd)
  | .fdivS _ rd rs1 rs2 => some (wordR 0x30 0x103 rs2 rs1 rd)
  | .fminS _ rd rs1 rs2 => some (wordR 0x30 0x105 rs2 rs1 rd)
  | .fmaxS _ rd rs1 rs2 => some (wordR 0x30 0x106 rs2 rs1 rd)
  | .feqS _ rd rs1 rs2 => some (wordR 0x30 0x108 rs2 rs1 rd)
  | .fltS _ rd rs1 rs2 => some (wordR 0x30 0x109 rs2 rs1 rd)
  | .fleS _ rd rs1 rs2 => some (wordR 0x30 0x10A rs2 rs1 rd)
  | .cvtSD _ rd rs1 rs2 => some (wordR 0x30 0x042 rs2 rs1 rd)
  | .fsqrtD _ rd rs1 => some (wordR 0x30 0x004 0 rs1 rd)
  | .fsqrtS _ rd rs1 => some (wordR 0x30 0x104 0 rs1 rd)
  | .cvtDI _ rd rs1 => some (wordR 0x30 0x040 0 rs1 rd)
  | .cvtID _ rd rs1 => some (wordR 0x30 0x041 0 rs1 rd)
  | .cvtDS0 _ rd rs1 => some (wordR 0x30 0x043 0 rs1 rd)
  | .cvtDS1 _ rd rs1 => some (wordR 0x30 0x044 0 rs1 rd)
  | .addi _ rd rs1 imm => some (wordI 0x02 imm.toNat rs1 rd)
  | .andi _ rd rs1 imm => some (wordI 0x03 imm.toNat rs1 rd)
  | .ori _ rd rs1 imm => some (wordI 0x04 imm.toNat rs1 rd)
  | .xori _ rd rs1 imm => some (wordI 0x05 imm.toNat rs1 rd)
  | .slti _ rd rs1 imm => some (wordI 0x06 imm.toNat rs1 rd)
  | .sltiu _ rd rs1 imm => some (wordI 0x07 imm.toNat rs1 rd)
  | .shi _ rd rs1 imm => some (wordI 0x08 imm.toNat rs1 rd)
  | .lui _ rd imm => some (0x09 + rd * 2 ^ 7 + imm.toNat * 2 ^ 12)
  | .luih _ rd imm => some (0x0A + rd * 2 ^ 7 + imm.toNat * 2 ^ 12)
  | .ld _ rd rs1 sz imm => some (wordM 0x10 imm.toNat sz rs1 rd)
  | .st _ rd rs1 sz imm => some (wordM 0x11 imm.toNat sz rs1 rd)
  | .ldp _ rd rs1 sz imm => some (wordM 0x12 imm.toNat sz rs1 rd)
  | .stp _ rd rs1 sz imm => some (wordM 0x13 imm.toNat sz rs1 rd)
  | .ldd _ rd rs1 sz imm => some (wordM 0x14 imm.toNat sz rs1 rd)
  | .std _ rd rs1 sz imm => some (wordM 0x15 imm.toNat sz rs1 rd)
  | .stt _ rd rs1 sz imm => some (wordM 0x18 imm.toNat sz rs1 rd)
  | .ldx _ rd rs1 rs2 sz sc => some (wordX 0x16 sc sz rs2 rs1 rd)
  | .stx _ rd rs1 rs2 sz sc => some (wordX 0x17 sc sz rs2 rs1 rd)
  | .beq _ rs1 rs2 off => some (0x20 + rs1 * 2 ^ 7 + rs2 * 2 ^ 12 + 0 * 2 ^ 17 + off.toNat * 2 ^ 20)
  | .bne _ rs1 rs2 off => some (0x20 + rs1 * 2 ^ 7 + rs2 * 2 ^ 12 + 1 * 2 ^ 17 + off.toNat * 2 ^ 20)
  | .blt _ rs1 rs2 off => some (0x20 + rs1 * 2 ^ 7 + rs2 * 2 ^ 12 + 2 * 2 ^ 17 + off.toNat * 2 ^ 20)
  | .bge _ rs1 rs2 off => some (0x20 + rs1 * 2 ^ 7 + rs2 * 2 ^ 12 + 3 * 2 ^ 17 + off.toNat * 2 ^ 20)
  | .bltu _ rs1 rs2 off => some (0x20 + rs1 * 2 ^ 7 + rs2 * 2 ^ 12 + 4 * 2 ^ 17 + off.toNat * 2 ^ 20)
  | .bgeu _ rs1 rs2 off => some (0x20 + rs1 * 2 ^ 7 + rs2 * 2 ^ 12 + 5 * 2 ^ 17 + off.toNat * 2 ^ 20)
  | .jump _ off => some (0x21 + off.toNat * 2 ^ 7)
  | .call _ off => some (0x22 + off.toNat * 2 ^ 7)
  | .jr _ rs1 => some (wordR 0x23 0x000 0 rs1 0)
  | .callr _ rs1 => some (wordR 0x23 0x001 0 rs1 0)
  | .retInsn _ => some (wordR 0x23 0x002 0 0 0)
  | .mov _ rd rs1 => some (wordR 0x31 0x000 0 rs1 rd)
  | .tagof _ rd rs1 => some (wordR 0x31 0x001 0 rs1 rd)
  | .retag _ rd rs1 tag => some (wordR 0x31 0x002 tag rs1 rd)
  | .clr _ rd => some (wordR 0x31 0x003 0 0 rd)
  | .macd _ acc mode rs1 rs2 => some (wordR 0x38 0x000 rs2 rs1 (acc + mode * 4))
  | .acz _ acc => some (wordR 0x38 0x001 0 0 acc)
  | .acrdD _ rd acc half => some (wordR 0x38 0x002 half.toNat acc rd)
  | .acwr _ acc half rs1 => some (wordR 0x38 0x003 0 rs1 (acc + half.toNat * 4))
  | .acrdI _ rd acc half => some (wordR 0x38 0x004 half.toNat acc rd)
  | .wq _ rd rs1 rs2 => some (wordR 0x40 0x000 rs2 rs1 rd)
  | .wqk _ rd rs1 rs2 => some (wordR 0x40 0x001 rs2 rs1 rd)
  | .wseq _ rd rs1 => some (wordR 0x40 0x002 0 rs1 rd)
  | .wwait _ rd rs1 rs2 => some (wordR 0x40 0x003 rs2 rs1 rd)
  | .wpoll _ rd rs1 => some (wordR 0x40 0x004 0 rs1 rd)
  | .wfree _ rs1 => some (wordR 0x40 0x005 0 rs1 0)
  | .kopen _ rd rs1 => some (wordR 0x40 0x006 0 rs1 rd)
  | .lacc _ rd rs1 rs2 => some (wordR 0x41 0x000 rs2 rs1 rd)
  | .lcmt _ rd rs1 rs2 => some (wordR 0x41 0x001 rs2 rs1 rd)
  | .lwdr _ rd rs1 => some (wordR 0x41 0x002 0 rs1 rd)
  | .csrr _ rd csr => some (wordI 0x50 csr 0 rd)
  | .csrw _ csr rs1 => some (wordI 0x50 (csr + 1 * 2 ^ 12) rs1 0)
  | .csrs _ rd csr rs1 => some (wordI 0x50 (csr + 2 * 2 ^ 12) rs1 rd)
  | .csrc _ rd csr rs1 => some (wordI 0x50 (csr + 3 * 2 ^ 12) rs1 rd)
  | .eret _ => some (wordR 0x51 0x000 0 0 0)
  | .fenceInsn _ => some (wordR 0x51 0x001 0 0 0)
  | .ifenceInsn _ => some (wordR 0x51 0x002 0 0 0)
  | .waite _ => some (wordR 0x51 0x003 0 0 0)
  | .trap _ code => some (wordR 0x51 0x004 (code / 32) (code % 32) 0)
  | .brk _ => some (wordR 0x51 0x005 0 0 0)
  | _ => none

/-- The fields of the R format. -/
structure RFields where
  fn : Nat
  rd : Fin 32
  rs1 : Fin 32
  rs2 : Fin 32

/-- A number cut to a field. -/
def fin {k : Nat} [NeZero k] (v : Nat) : Fin k := Fin.ofNat k v

def fieldsOf (w : Nat) : RFields := ⟨w / 2 ^ 22, fin (w / 2 ^ 7), fin (w / 2 ^ 12), fin (w / 2 ^ 17)⟩

/-- An instruction whose other fields are reserved. -/
def RFields.only (_f : RFields) (p : Prop) [Decidable p] (i : Instr) : Option Instr := if p then some i else none

/-- The instructions of an R-format operation code. -/
def decodeR (n : Fin 16) (op : Nat) (f : RFields) : Option Instr :=
  match op with
  | 0x01 =>
    match f.fn with
    | 0x000 => some (.add n f.rd f.rs1 f.rs2)
    | 0x001 => some (.sub n f.rd f.rs1 f.rs2)
    | 0x002 => some (.andInsn n f.rd f.rs1 f.rs2)
    | 0x003 => some (.orInsn n f.rd f.rs1 f.rs2)
    | 0x004 => some (.xorInsn n f.rd f.rs1 f.rs2)
    | 0x005 => some (.shl n f.rd f.rs1 f.rs2)
    | 0x006 => some (.shr n f.rd f.rs1 f.rs2)
    | 0x007 => some (.sar n f.rd f.rs1 f.rs2)
    | 0x008 => some (.slt n f.rd f.rs1 f.rs2)
    | 0x009 => some (.sltu n f.rd f.rs1 f.rs2)
    | 0x00A => some (.minInsn n f.rd f.rs1 f.rs2)
    | 0x00B => some (.maxInsn n f.rd f.rs1 f.rs2)
    | 0x00C => some (.minu n f.rd f.rs1 f.rs2)
    | 0x00D => some (.maxu n f.rd f.rs1 f.rs2)
    | 0x010 => some (.mul n f.rd f.rs1 f.rs2)
    | 0x011 => some (.mulh n f.rd f.rs1 f.rs2)
    | 0x012 => some (.mulhu n f.rd f.rs1 f.rs2)
    | 0x014 => some (.div n f.rd f.rs1 f.rs2)
    | 0x015 => some (.divu n f.rd f.rs1 f.rs2)
    | 0x016 => some (.rem n f.rd f.rs1 f.rs2)
    | 0x017 => some (.remu n f.rd f.rs1 f.rs2)
    | _ => none
  | 0x19 =>
    match f.fn with
    | 0x000 => some (.amoadd n f.rd f.rs1 f.rs2)
    | 0x001 => some (.amoswp n f.rd f.rs1 f.rs2)
    | 0x002 => some (.amocas n f.rd f.rs1 f.rs2)
    | _ => none
  | 0x23 =>
    match f.fn with
    | 0x000 => f.only (f.rd = 0 ∧ f.rs2 = 0) (.jr n f.rs1)
    | 0x001 => f.only (f.rd = 0 ∧ f.rs2 = 0) (.callr n f.rs1)
    | 0x002 => f.only (f.rd = 0 ∧ f.rs1 = 0 ∧ f.rs2 = 0) (.retInsn n)
    | _ => none
  | 0x30 =>
    match f.fn with
    | 0x000 => some (.faddD n f.rd f.rs1 f.rs2)
    | 0x001 => some (.fsubD n f.rd f.rs1 f.rs2)
    | 0x002 => some (.fmulD n f.rd f.rs1 f.rs2)
    | 0x003 => some (.fdivD n f.rd f.rs1 f.rs2)
    | 0x005 => some (.fminD n f.rd f.rs1 f.rs2)
    | 0x006 => some (.fmaxD n f.rd f.rs1 f.rs2)
    | 0x008 => some (.feqD n f.rd f.rs1 f.rs2)
    | 0x009 => some (.fltD n f.rd f.rs1 f.rs2)
    | 0x00A => some (.fleD n f.rd f.rs1 f.rs2)
    | 0x100 => some (.faddS n f.rd f.rs1 f.rs2)
    | 0x101 => some (.fsubS n f.rd f.rs1 f.rs2)
    | 0x102 => some (.fmulS n f.rd f.rs1 f.rs2)
    | 0x103 => some (.fdivS n f.rd f.rs1 f.rs2)
    | 0x105 => some (.fminS n f.rd f.rs1 f.rs2)
    | 0x106 => some (.fmaxS n f.rd f.rs1 f.rs2)
    | 0x108 => some (.feqS n f.rd f.rs1 f.rs2)
    | 0x109 => some (.fltS n f.rd f.rs1 f.rs2)
    | 0x10A => some (.fleS n f.rd f.rs1 f.rs2)
    | 0x042 => some (.cvtSD n f.rd f.rs1 f.rs2)
    | 0x004 => f.only (f.rs2 = 0) (.fsqrtD n f.rd f.rs1)
    | 0x104 => f.only (f.rs2 = 0) (.fsqrtS n f.rd f.rs1)
    | 0x040 => f.only (f.rs2 = 0) (.cvtDI n f.rd f.rs1)
    | 0x041 => f.only (f.rs2 = 0) (.cvtID n f.rd f.rs1)
    | 0x043 => f.only (f.rs2 = 0) (.cvtDS0 n f.rd f.rs1)
    | 0x044 => f.only (f.rs2 = 0) (.cvtDS1 n f.rd f.rs1)
    | _ => none
  | 0x31 =>
    match f.fn with
    | 0x000 => f.only (f.rs2 = 0) (.mov n f.rd f.rs1)
    | 0x001 => f.only (f.rs2 = 0) (.tagof n f.rd f.rs1)
    | 0x002 => some (.retag n f.rd f.rs1 f.rs2)
    | 0x003 => f.only (f.rs1 = 0 ∧ f.rs2 = 0) (.clr n f.rd)
    | _ => none
  | 0x38 =>
    match f.fn with
    | 0x000 => f.only (f.rd < 16) (.macd n (fin f.rd) (fin (f.rd / 4)) f.rs1 f.rs2)
    | 0x001 => f.only (f.rd < 4 ∧ f.rs1 = 0 ∧ f.rs2 = 0) (.acz n (fin f.rd))
    | 0x002 => f.only (f.rs1 < 4 ∧ f.rs2 < 2) (.acrdD n f.rd (fin f.rs1) (f.rs2 = 1))
    | 0x003 => f.only (f.rd < 8 ∧ f.rs2 = 0) (.acwr n (fin f.rd) (f.rd.val / 4 = 1) f.rs1)
    | 0x004 => f.only (f.rs1 < 4 ∧ f.rs2 < 2) (.acrdI n f.rd (fin f.rs1) (f.rs2 = 1))
    | _ => none
  | 0x40 =>
    match f.fn with
    | 0x000 => some (.wq n f.rd f.rs1 f.rs2)
    | 0x001 => some (.wqk n f.rd f.rs1 f.rs2)
    | 0x002 => f.only (f.rs2 = 0) (.wseq n f.rd f.rs1)
    | 0x003 => some (.wwait n f.rd f.rs1 f.rs2)
    | 0x004 => f.only (f.rs2 = 0) (.wpoll n f.rd f.rs1)
    | 0x005 => f.only (f.rd = 0 ∧ f.rs2 = 0) (.wfree n f.rs1)
    | 0x006 => f.only (f.rs2 = 0) (.kopen n f.rd f.rs1)
    | _ => none
  | 0x41 =>
    match f.fn with
    | 0x000 => some (.lacc n f.rd f.rs1 f.rs2)
    | 0x001 => some (.lcmt n f.rd f.rs1 f.rs2)
    | 0x002 => f.only (f.rs2 = 0) (.lwdr n f.rd f.rs1)
    | _ => none
  | 0x51 =>
    match f.fn with
    | 0x000 => f.only (f.rd = 0 ∧ f.rs1 = 0 ∧ f.rs2 = 0) (.eret n)
    | 0x001 => f.only (f.rd = 0 ∧ f.rs1 = 0 ∧ f.rs2 = 0) (.fenceInsn n)
    | 0x002 => f.only (f.rd = 0 ∧ f.rs1 = 0 ∧ f.rs2 = 0) (.ifenceInsn n)
    | 0x003 => f.only (f.rd = 0 ∧ f.rs1 = 0 ∧ f.rs2 = 0) (.waite n)
    | 0x004 => f.only (f.rd = 0) (.trap n (fin (f.rs2.val * 32 + f.rs1.val)))
    | 0x005 => f.only (f.rd = 0 ∧ f.rs1 = 0 ∧ f.rs2 = 0) (.brk n)
    | _ => none
  | _ => none

/-- The instruction that core n reads from a word of 32 bits; none where the word is ILLEGAL. -/
def decodeInsn (n : Fin 16) (w : Nat) : Option Instr :=
  let op := w % 128
  let f := fieldsOf w
  let imm12 : BitVec 12 := BitVec.ofNat 12 (w / 2 ^ 20)
  let imm15 : BitVec 15 := BitVec.ofNat 15 (w / 2 ^ 17)
  let imm20 : BitVec 20 := BitVec.ofNat 20 (w / 2 ^ 12)
  let imm25 : BitVec 25 := BitVec.ofNat 25 (w / 2 ^ 7)
  let sz : Fin 8 := fin (w / 2 ^ 17)
  match op with
  | 0x02 => some (.addi n f.rd f.rs1 imm15)
  | 0x03 => some (.andi n f.rd f.rs1 imm15)
  | 0x04 => some (.ori n f.rd f.rs1 imm15)
  | 0x05 => some (.xori n f.rd f.rs1 imm15)
  | 0x06 => some (.slti n f.rd f.rs1 imm15)
  | 0x07 => some (.sltiu n f.rd f.rs1 imm15)
  | 0x08 => some (.shi n f.rd f.rs1 imm15)
  | 0x09 => some (.lui n f.rd imm20)
  | 0x0A => some (.luih n f.rd imm20)
  | 0x10 => some (.ld n f.rd f.rs1 sz imm12)
  | 0x11 => some (.st n f.rd f.rs1 sz imm12)
  | 0x12 => some (.ldp n f.rd f.rs1 sz imm12)
  | 0x13 => some (.stp n f.rd f.rs1 sz imm12)
  | 0x14 => some (.ldd n f.rd f.rs1 sz imm12)
  | 0x15 => some (.std n f.rd f.rs1 sz imm12)
  | 0x18 => some (.stt n f.rd f.rs1 sz imm12)
  | 0x16 => if w / 2 ^ 27 = 0 then some (.ldx n f.rd f.rs1 f.rs2 (fin (w / 2 ^ 22)) (fin (w / 2 ^ 25))) else none
  | 0x17 => if w / 2 ^ 27 = 0 then some (.stx n f.rd f.rs1 f.rs2 (fin (w / 2 ^ 22)) (fin (w / 2 ^ 25))) else none
  | 0x20 =>
    match w / 2 ^ 17 % 8 with
    | 0 => some (.beq n f.rd f.rs1 imm12)
    | 1 => some (.bne n f.rd f.rs1 imm12)
    | 2 => some (.blt n f.rd f.rs1 imm12)
    | 3 => some (.bge n f.rd f.rs1 imm12)
    | 4 => some (.bltu n f.rd f.rs1 imm12)
    | 5 => some (.bgeu n f.rd f.rs1 imm12)
    | _ => none
  | 0x21 => some (.jump n imm25)
  | 0x22 => some (.call n imm25)
  | 0x50 =>
    let csr : Fin 4096 := fin (w / 2 ^ 17)
    match w / 2 ^ 29 with
    | 0 => f.only (f.rs1 = 0) (.csrr n f.rd csr)
    | 1 => f.only (f.rd = 0) (.csrw n csr f.rs1)
    | 2 => some (.csrs n f.rd csr f.rs1)
    | 3 => some (.csrc n f.rd csr f.rs1)
    | _ => none
  | _ => decodeR n op f

end Sys2Proof.Machine
end

