-- ==== Sys2Proof/Safety.lean ====
section
/-! DEFINITION. The terms the statements use: a command that completes, what it leaves as it was, and a submitted command that its block takes. -/
namespace Sys2Proof.Machine
open Sys2Proof

/-- The command answers a next state; the queue is as it was, and the chip after it meets a condition. -/
def Completes (c : Instr) (s : State) (P : Chip → Prop) : Prop :=
  ∃ t, exec c s = .next t ∧ t.pending = s.pending ∧ P t.chip

/-- The parts of the chip. -/
inductive Part where
  | free | regs | latch | satCtrs | bus | mem | led | attn | attnServed | owed | fetched | agents | answer | hub | tck | ldr | arm | mu | wk | coll | kv | hif | pat | trc | lnk | sec | fw | cal | dvt | dma | pkt | nvs | ckp | pwr
  deriving DecidableEq, Repr

/-- Whether a part of two chips is the same. -/
def Part.same (p : Part) (a b : Chip) : Prop :=
  match p with
  | .free => a.free = b.free
  | .regs => a.regs = b.regs
  | .latch => a.latch = b.latch
  | .satCtrs => a.satCtrs = b.satCtrs
  | .bus => a.bus = b.bus
  | .mem => a.mem = b.mem
  | .led => a.led = b.led
  | .attn => a.attn = b.attn
  | .attnServed => a.attnServed = b.attnServed
  | .owed => a.owed = b.owed
  | .fetched => a.fetched = b.fetched
  | .agents => a.agents = b.agents
  | .answer => a.answer = b.answer
  | .hub => a.hub = b.hub
  | .tck => a.tck = b.tck
  | .ldr => a.ldr = b.ldr
  | .arm => a.arm = b.arm
  | .mu => a.mu = b.mu
  | .wk => a.wk = b.wk
  | .coll => a.coll = b.coll
  | .kv => a.kv = b.kv
  | .hif => a.hif = b.hif
  | .pat => a.pat = b.pat
  | .trc => a.trc = b.trc
  | .lnk => a.lnk = b.lnk
  | .sec => a.sec = b.sec
  | .fw => a.fw = b.fw
  | .cal => a.cal = b.cal
  | .dvt => a.dvt = b.dvt
  | .dma => a.dma = b.dma
  | .pkt => a.pkt = b.pkt
  | .nvs => a.nvs = b.nvs
  | .ckp => a.ckp = b.ckp
  | .pwr => a.pwr = b.pwr

/-- Every part but those named is as it was. -/
def Frame (changed : List Part) (d d' : Chip) : Prop := ∀ p : Part, p ∉ changed → p.same d' d

/-- The parts that a fault event, a counter that saturates or an attention condition may change: the hub's registers and state, the agents it
resets, the cores it interrupts, and the records it leaves. -/
def hubParts : List Part := [.regs, .satCtrs, .attn, .attnServed, .agents, .hub, .arm, .pat, .trc, .pwr]

/-- A submitted command is taken up for its chapter's checks: it is in the device's hand, from a ring pair of its kind, its block runs, the
device takes items and none that waits goes first, and its submitter may give it (R27, R31, R483, R486). -/
def TakenUp (d : Chip) (src : Submit) (b : Block) (v : Bool) (kind : Nat) : Prop :=
  d.inHand src.origin = true ∧ d.ringIs src.origin kind = true ∧ d.agentSt (.block b) = .running ∧
  (d.agentRec (.block b)).fencing = false ∧ d.admits (d.originDomain src.origin) = true ∧
  (match src.origin with | .ring r => v = true ∨ isVF (d.ringFn r) = false | _ => True)

/-- A record of n bytes that reads clean: at a place R486 allows, without poison and without an array error under it. -/
def RecordClean (d : Chip) (a n : Nat) : Prop :=
  a % 64 = 0 ∧ d.inDieOrNear a n = true ∧ (∀ p ∈ d.mu.flips, overlaps a n p.1 32 = false) ∧ d.anyPoison a n = false

/-- A record of n bytes that is refused for its place or for poison on it (R486). -/
def RecordBad (d : Chip) (a n : Nat) : Prop :=
  a % 64 ≠ 0 ∨ d.inDieOrNear a n = false ∨ ((∀ p ∈ d.mu.flips, overlaps a n p.1 32 = false) ∧ d.anyPoison a n = true)

/-- Whether a write of the 32-bit word at an offset of BAR0 does more than give its fields their bits. -/
def actsOn32 (o : Nat) : Bool :=
  [0x80004, 0x100008, 0x200000, 0x200018, 0x200020, 0x300008, 0x300018, 0x400000, 0x800040, 0xE10010, 0x1000010, 0x1000020, 0x1100000,
    0x1100030].contains o ||
  within o 0x101000 0x1000 || within o 0x102000 0x7E0 || within o 0x120000 0x20000 || (within o 0x900180 0x80 && o % 8 = 0) ||
  within o 0x902000 0x200 || within o 0xC00040 0x44 || within o 0xE00000 0x10000

/-- A command that is not taken: the ledger and its sequence numbers are as they were, and so are the parts named. -/
def NotAccepted (d d' : Chip) (kept : List Part) : Prop := d'.led = d.led ∧ ∀ p ∈ kept, p.same d' d

/-- An agent command answered. -/
def Answered (d' : Chip) (taken : Bool) : Prop := ∃ x, d'.answer = some x ∧ x.taken = taken

/-- Nothing waits for the ports and the device neither enters, holds nor leaves a power state: a received frame finds the chip as it is. -/
def PortsQuiet (d : Chip) : Prop := d.pwr.entering = 0 ∧ d.rg Reg.PCR_STATE.POWER = 0 ∧ d.coll.pace = [] ∧ d.dvt.wire = []

/-- No NVMe command runs and no completion waits for its queue: an event of the host link finds nothing of the front end to resume. -/
def NvmeQuiet (d : Chip) : Prop := d.nvs.cmds = [] ∧ ∀ c ∈ d.nvs.ctls, ∀ q ∈ c.2.cqs, q.2.wait = []

/-- Connection c is OPEN with its context on the die, it has nothing to send, and no collective message waits: a received packet finds the
chip as it is. -/
def ConnReady (d : Chip) (c : Nat) (x : DvtConn) : Prop :=
  d.dvtUp = true ∧ d.coll.out = [] ∧ d.conn c = some x ∧ x.state = .open ∧ x.todo = [] ∧ x.sent = [] ∧ d.dvt.cache.contains c = true

/-- What identifies an item for its whole life. -/
structure Ident where
  seq : Nat
  slot : Nat
  kind : ItemKind
  domain : Domain
  tag : Nat
  origin : Origin
  deriving DecidableEq, Repr

def Item.ident (i : Item) : Ident := ⟨i.seq, i.slot, i.kind, i.domain, i.tag, i.origin⟩

/-- The items the ledger holds, oldest first. -/
def Chip.ids (d : Chip) : List Ident := d.led.items.map Item.ident

/-- A command has been accepted as one item, with the next sequence number, beside the items that were there (R24, R30). -/
def Accepted (d d' : Chip) (src : Submit) (kind : ItemKind) (dom : Domain) : Prop :=
  d'.led.nextSeq = d.led.nextSeq + 1 ∧
  d'.ids = d.ids ++ [⟨d.led.nextSeq, lowestSlot d.led.items, kind, dom, src.tag.toNat, src.origin⟩]

/-! ## What every step keeps -/

/-- The ledger is in order: its items stand in the order of their sequence numbers, each below the next one to be given (R24), and no two
share a slot. -/
def LedgerInOrder (d : Chip) : Prop :=
  (d.led.items.map (fun i => i.seq)).Pairwise (· < ·) ∧ (∀ i ∈ d.led.items, i.seq < d.led.nextSeq) ∧
  (d.led.items.map (fun i => i.slot)).Nodup

/-- What every step keeps: the ledger in order, and memory in its one canonical form. -/
def Inv (d : Chip) : Prop := LedgerInOrder d ∧ cellsWf d.mem.cells = true

/-! ## Armature cores -/

/-- Core n can issue the instruction at its program counter: it runs, no load past its slot still waits for its data, the fetch is
allowed and clean, its plan's budget is not spent (R88), no breakpoint matches it, and the core neither steps nor leaves trace records (R307, R311, R336, R668, R669). -/
def CanIssue (d : Chip) (n : Fin 16) : Prop :=
  d.coreRuns n = true ∧ (d.core n).loads.any (fun l => l.slotDone) = false ∧ fetchable n (d.core n).pc.toNat = true ∧
  d.spent (d.core n).planctx = false ∧ (∀ p ∈ d.mu.flips, overlaps (d.core n).pc.toNat 4 p.1 32 = false) ∧ d.anyPoison (d.core n).pc.toNat 4 = false ∧ d.bpMatches n 0 (d.core n).pc.toNat = [] ∧ (d.core n).stepping = false ∧ d.tracing n = false

/-- The chip after core n's instruction has retired: the core as the instruction made it, the load delay gone on (R336), the pc, and one
more instruction retired and charged to its plan (R301); nothing else of the chip has changed. -/
def Chip.retires (d : Chip) (n : Fin 16) (wrote : List (Fin 32)) (c : ArmCore) (pc : Word) : Chip :=
  (d.setCore n { c.slotOver (d.core n).loads wrote with pc := pc, instret := (c.instret + 1) % 2 ^ 64 }).charge (d.core n).planctx { arm := 1 }

/-- The chip after core n has taken a trap at its instruction (R340): EPC, CAUSE and TVAL, IE kept in PIE and cleared, INTRAP, and on at TVEC,
with the load whose slot trapped held (R337); nothing else of the chip has changed. -/
def Chip.traps (d : Chip) (n : Fin 16) (code tval : Nat) (poison : Bool := false) : Chip :=
  d.setCore n { (d.core n).holdLoad with
    epc := (d.core n).pc, cause := BitVec.ofNat 64 (code + b2n poison * 2 ^ 28 + b2n (d.core n).inSlot * 2 ^ 30), tval := BitVec.ofNat 64 tval,
    pie := (d.core n).ie, ie := false, intrap := true, pc := (d.core n).tvec }

end Sys2Proof.Machine
end

