-- ==== Sys2Proof/WellFormed.lean ====
section
/-! DEFINITION. Which commands are well formed: every operand of a type without a bound of its own lies within the width the
specification gives it at the block's edge. -/
namespace Sys2Proof

/-- A number that fits in w bits. -/
def fits (w v : Nat) : Bool := decide (v < 2 ^ w)

/-- An integer that fits in w bits of two's complement. -/
def fitsInt (w : Nat) (v : Int) : Bool := decide (-(2 ^ (w - 1) : Int) ≤ v) && decide (v < 2 ^ (w - 1))

/-- A list of at most n entries. -/
def atMost {α : Type} (n : Nat) (l : List α) : Bool := decide (l.length ≤ n)

/-- A requester: a function numbered as in R498, or an Armature core. -/
def wfReq : Req → Bool
  | .fn f => fits 7 f
  | .core _ => true

/-- An origin: a ring pair (R480), a handle or an internal item of a core (R325, R329), a plan step (R706), a ring entry of a service (R229), a
persistent slot (R190), a submission queue's command (R531). -/
def wfOrigin : Origin → Bool
  | .ring r => fits 14 r
  | .core _ h => decide (h ≤ 256)
  | .step p r => fits 16 p && fits 16 r
  | .service s e => fits 6 s && fits 16 e
  | .slot k => fits 8 k
  | .nvme f q c => fits 7 f && fits 16 q && fits 16 c
  | .internal => true

/-- Whether a command is well formed. -/
def wellFormed (i : Instr) : Bool :=
  match i with
  | .registerWrite by_ addr _ _ => wfReq by_ && fits 32 addr
  | .invalidBar0Access by_ addr bytes _ => wfReq by_ && fits 32 addr && fits 16 bytes
  | .heldLowerHalfWrite by_ addr _ => wfReq by_ && fits 32 addr
  | .upperHalfWrite by_ addr _ => wfReq by_ && fits 32 addr
  | .latchingLowerHalfRead by_ addr => wfReq by_ && fits 32 addr
  | .rcFieldRead by_ addr _ => wfReq by_ && fits 32 addr
  | .commitRecordTaken seq => fits 64 seq
  | .commitPoint seq => fits 64 seq
  | .withdrawalApplied seq code => fits 64 seq && fits 16 code
  | .ledgerStall cycles => fits 32 cycles
  | .attentionReply fn => fits 7 fn
  | .cancel src target => wfOrigin src.origin && fits 64 target
  | .nop src => wfOrigin src.origin
  | .tickMarker error => fitsInt 32 error
  | .tickCell _ number period _ => fits 64 number && fits 16 period
  | .probeCell _ delay _ => fits 16 delay
  | .probeReturn total loop => fits 16 total && fits 16 loop
  | .ownCellSend held => atMost 16 held
  | .planLoad src image => wfOrigin src.origin && fits 52 image
  | .planUnload src plan => wfOrigin src.origin && fits 16 plan
  | .planResume src plan => wfOrigin src.origin && fits 16 plan
  | .workDescriptorSubmit src _ => wfOrigin src.origin
  | .reduceSum seq _ => fits 64 seq
  | .reduceMax seq _ => fits 64 seq
  | .reduceMin seq _ => fits 64 seq
  | .reduceArrive seq _ => fits 64 seq
  | .attnPartial seq _ => fits 64 seq
  | .dotRows seq _ => fits 64 seq
  | .convert seq _ => fits 64 seq
  | .quantEf seq _ => fits 64 seq
  | .topk seq _ => fits 64 seq
  | .topkEf seq _ => fits 64 seq
  | .sha256 seq _ => fits 64 seq
  | .crc32c seq _ => fits 64 seq
  | .lz4Pack seq _ => fits 64 seq
  | .lz4Unpack seq _ => fits 64 seq
  | .copy seq _ => fits 64 seq
  | .gather seq _ => fits 64 seq
  | .scatter seq _ => fits 64 seq
  | .fill seq _ => fits 64 seq
  | .itemFinish seq => fits 64 seq
  | .redoCopyComplete seq _ => fits 64 seq
  | .promote _ plan position => fits 16 plan && fits 8 position
  | .allReduce src _ => wfOrigin src.origin
  | .reduceScatter src _ => wfOrigin src.origin
  | .allGather src _ => wfOrigin src.origin
  | .broadcast src _ => wfOrigin src.origin
  | .reduce src _ => wfOrigin src.origin
  | .allToAll src _ => wfOrigin src.origin
  | .send src _ => wfOrigin src.origin
  | .receive src _ => wfOrigin src.origin
  | .sendMatchTimeout seq => fits 64 seq
  | .groupSet src record => wfOrigin src.origin && fits 52 record
  | .groupClear src group => wfOrigin src.origin && fits 16 group
  | .slotArm src _ => wfOrigin src.origin
  | .slotDisarm src slot => wfOrigin src.origin && fits 16 slot
  | .streamFrame member stream offset data _ _ => fits 3 member && fits 8 stream && fits 52 offset && atMost 4194304 data
  | .firingComplete _ number latency => fits 64 number && fits 32 latency
  | .firingTimeout _ number => fits 64 number
  | .seqOpen src _ => wfOrigin src.origin
  | .seqClose src sid => wfOrigin src.origin && fits 16 sid
  | .kvPut src from_ sumSrc sid layer block tokens tier => wfOrigin src.origin && fits 52 from_ && fits 52 sumSrc && fits 16 sid && fits 16 layer && fits 32 block && fits 8 tokens && fits 8 tier
  | .kvDrop src sid layer first last => wfOrigin src.origin && fits 16 sid && fits 16 layer && fits 32 first && fits 32 last
  | .svcBind src record => wfOrigin src.origin && fits 52 record
  | .svcUnbind src service => wfOrigin src.origin && fits 8 service
  | .mapCompact src => wfOrigin src.origin
  | .mergeEntryFlush word => fits 52 word
  | .pageMap src addr pages tier pin => wfOrigin src.origin && fits 52 addr && fits 32 pages && fits 8 tier && fits 8 pin
  | .pageUnmap src addr pages => wfOrigin src.origin && fits 52 addr && fits 32 pages
  | .pagePin src addr pages tier pin => wfOrigin src.origin && fits 52 addr && fits 32 pages && fits 8 tier && fits 8 pin
  | .memInit src addr length _ force => wfOrigin src.origin && fits 52 addr && fits 64 length && fits 8 force
  | .sramCrc addr => fits 52 addr
  | .nearCrc addr => fits 52 addr
  | .cxlDeviceTrained _ units => fits 16 units
  | .commandDispatch ring _ => fits 14 ring
  | .fwDownload src from_ off len => wfOrigin src.origin && fits 52 from_ && fits 32 off && fits 32 len
  | .fwStage src length _ => wfOrigin src.origin && fits 32 length
  | .fwActivate src _ _ => wfOrigin src.origin
  | .writeFrame _ _ _ _ _ flit => atMost 4096 flit
  | .writeHpFrame _ _ _ _ _ flit => atMost 4096 flit
  | .readReqFrame _ _ _ flit => atMost 4096 flit.2
  | .readCplFrame _ _ _ _ _ flit => atMost 4096 flit
  | .dvtFrame _ _ _ _ flit => atMost 4096 flit
  | .portUp src _ => wfOrigin src.origin
  | .portDown src _ => wfOrigin src.origin
  | .macsecSa src _ _ _ _ _ _ => wfOrigin src.origin
  | .write src _ => wfOrigin src.origin
  | .read src _ => wfOrigin src.origin
  | .fadd src _ => wfOrigin src.origin
  | .cas src _ => wfOrigin src.origin
  | .writePacket _ data => atMost 4194304 data
  | .readResp _ data => atMost 4194304 data
  | .coll _ data => atMost 4194304 data
  | .connOpen src record => wfOrigin src.origin && fits 52 record
  | .connClose src _ => wfOrigin src.origin
  | .regionReg src _ => wfOrigin src.origin
  | .regionRevoke src _ => wfOrigin src.origin
  | .receivedFrame _ _ data _ => atMost 4194304 data
  | .layoutSet src _ record => wfOrigin src.origin && fits 52 record
  | .selectSet src _ record => wfOrigin src.origin && fits 52 record
  | .actionSet src _ record => wfOrigin src.origin && fits 52 record
  | .actionFree src _ => wfOrigin src.origin
  | .ruleAdd src _ _ _ _ record => wfOrigin src.origin && fits 52 record
  | .ruleDel src _ _ record => wfOrigin src.origin && fits 52 record
  | .groupCommit src => wfOrigin src.origin
  | .groupAbort src => wfOrigin src.origin
  | .indirWrite src _ _ record => wfOrigin src.origin && fits 52 record
  | .queueSet src _ _ _ _ _ _ _ _ => wfOrigin src.origin
  | .policerSet src _ _ _ _ => wfOrigin src.origin
  | .emRebuild src _ _ => wfOrigin src.origin
  | .hifDbCmd by_ _ _ => wfReq by_
  | .hifDbRpl by_ _ _ => wfReq by_
  | .hifRingEnable by_ _ => wfReq by_
  | .hifRingDisable by_ _ => wfReq by_
  | .vfMboxDb _ _ message => atMost 64 message
  | .dirtyLogStart src _ hbase _ bitmap => wfOrigin src.origin && fits 64 hbase && fits 64 bitmap
  | .dirtyLogSwap src _ bitmap => wfOrigin src.origin && fits 64 bitmap
  | .dirtyLogStop src _ => wfOrigin src.origin
  | .dmaXfer src _ => wfOrigin src.origin
  | .readBackComplete seq _ => fits 64 seq
  | .createIoSq _ _ _ _ prp1 _ _ _ => fits 64 prp1
  | .createIoCq _ _ _ _ prp1 _ _ _ => fits 64 prp1
  | .identify _ _ _ _ prps => atMost 4096 prps
  | .getLogPage _ _ _ _ prps => atMost 4096 prps
  | .firmwareImageDownload _ _ _ _ prps data => atMost 4096 prps && atMost 4194304 data
  | .nvmeRead _ _ _ _ _ _ prps => atMost 4096 prps
  | .nvmeWrite _ _ _ _ _ _ prps data => atMost 4096 prps && atMost 4194304 data
  | .nvsNsSet src record => wfOrigin src.origin && fits 52 record
  | .nvsNsClear src _ => wfOrigin src.origin
  | .nvsTargetSet src record => wfOrigin src.origin && fits 52 record
  | .nvsTargetClear src _ => wfOrigin src.origin
  | .backendCompletion seq _ _ data => fits 64 seq && atMost 4194304 data
  | .backendTimeout seq => fits 64 seq
  | .ckpJobSet src record => wfOrigin src.origin && fits 52 record
  | .ckpJobClear src _ => wfOrigin src.origin
  | .ckpStep src _ _ => wfOrigin src.origin
  | .ckpNow src _ _ => wfOrigin src.origin
  | .ckpRestore src _ _ store => wfOrigin src.origin && atMost 4294967296 store
  | .ckpAbort src _ => wfOrigin src.origin
  | .cowWrite addr data => fits 52 addr && atMost 4194304 data
  | .hashExchangeRound _ writers => atMost 4096 writers
  | .writerConfirm _ batch rank places _ => fits 32 batch && fits 16 rank && atMost 4294967296 places
  | .nodeLost _ rank writers => fits 16 rank && atMost 4096 writers.1
  | .rootWrite _ segments _ => atMost 4096 segments
  | .commitRecordWrite _ tail => fits 64 tail
  | .committedMessage _ tail => fits 64 tail
  | .keyLoad src record => wfOrigin src.origin && fits 52 record
  | .keyZero src _ => wfOrigin src.origin
  | .encrypt src _ => wfOrigin src.origin
  | .decrypt src _ => wfOrigin src.origin
  | .kmac src _ => wfOrigin src.origin
  | .getDigests _ length => fits 32 length
  | .getCertificate _ slot offset length => fits 8 slot && fits 32 offset && fits 32 length
  | .challenge _ nonce => atMost 32 nonce
  | .getMeasurements _ index _ nonce => fits 8 index && atMost 32 nonce
  | .keyExchange _ exchange => atMost 4096 exchange
  | .finish _ id _ => fits 32 id
  | .heartbeat _ id => fits 32 id
  | .keyUpdate _ id => fits 32 id
  | .endSession _ id => fits 32 id
  | .chunkSend _ _ piece => atMost 65536 piece
  | .chunkGet _ offset length => fits 32 offset && fits 32 length
  | .companionCert _ offset length => fits 32 offset && fits 32 length
  | .keyProg _ id stream set key => fits 32 id && fits 16 stream && fits 8 set && atMost 32 key
  | .kSetGo _ id stream set => fits 32 id && fits 16 stream && fits 8 set
  | .kSetStop _ id stream set => fits 32 id && fits 16 stream && fits 8 set
  | .debugUnlockToken _ pub sigs => atMost 1984 pub && atMost 64 sigs.1 && atMost 3309 sigs.2
  | .mctpMessage type => fits 8 type
  | .faultEvent _ _ addr => fits 52 addr
  | .obsHang silent => atMost 97 silent
  | .add _ _ _ _ | .sub _ _ _ _ | .andInsn _ _ _ _ | .orInsn _ _ _ _ | .xorInsn _ _ _ _ | .shl _ _ _ _ | .shr _ _ _ _ | .sar _ _ _ _
  | .slt _ _ _ _ | .sltu _ _ _ _ | .minInsn _ _ _ _ | .maxInsn _ _ _ _ | .minu _ _ _ _ | .maxu _ _ _ _ | .mul _ _ _ _ | .mulh _ _ _ _
  | .mulhu _ _ _ _ | .div _ _ _ _ | .divu _ _ _ _ | .rem _ _ _ _ | .remu _ _ _ _ | .addi _ _ _ _ | .andi _ _ _ _ | .ori _ _ _ _
  | .xori _ _ _ _ | .slti _ _ _ _ | .sltiu _ _ _ _ | .shi _ _ _ _ | .lui _ _ _ | .luih _ _ _ | .ld _ _ _ _ _ | .st _ _ _ _ _
  | .ldp _ _ _ _ _ | .stp _ _ _ _ _ | .ldd _ _ _ _ _ | .std _ _ _ _ _ | .ldx _ _ _ _ _ _ | .stx _ _ _ _ _ _ | .stt _ _ _ _ _
  | .amoadd _ _ _ _ | .amoswp _ _ _ _ | .amocas _ _ _ _ | .beq _ _ _ _ | .bne _ _ _ _ | .blt _ _ _ _ | .bge _ _ _ _ | .bltu _ _ _ _
  | .bgeu _ _ _ _ | .jump _ _ | .call _ _ | .jr _ _ | .callr _ _ | .retInsn _ | .faddD _ _ _ _ | .fsubD _ _ _ _ | .fmulD _ _ _ _
  | .fdivD _ _ _ _ | .fsqrtD _ _ _ | .fminD _ _ _ _ | .fmaxD _ _ _ _ | .feqD _ _ _ _ | .fltD _ _ _ _ | .fleD _ _ _ _ | .faddS _ _ _ _
  | .fsubS _ _ _ _ | .fmulS _ _ _ _ | .fdivS _ _ _ _ | .fsqrtS _ _ _ | .fminS _ _ _ _ | .fmaxS _ _ _ _ | .feqS _ _ _ _ | .fltS _ _ _ _
  | .fleS _ _ _ _ | .cvtDI _ _ _ | .cvtID _ _ _ | .cvtSD _ _ _ _ | .cvtDS0 _ _ _ | .cvtDS1 _ _ _ | .mov _ _ _ | .tagof _ _ _
  | .retag _ _ _ _ | .clr _ _ | .macd _ _ _ _ _ | .acz _ _ | .acrdD _ _ _ _ | .acrdI _ _ _ _ | .acwr _ _ _ _ | .wq _ _ _ _ | .wqk _ _ _ _
  | .wseq _ _ _ | .wwait _ _ _ _ | .wpoll _ _ _ | .wfree _ _ | .kopen _ _ _ | .lacc _ _ _ _ | .lcmt _ _ _ _ | .lwdr _ _ _ | .csrr _ _ _
  | .csrw _ _ _ | .csrs _ _ _ _ | .csrc _ _ _ _ | .eret _ | .fenceInsn _ | .ifenceInsn _ | .waite _ | .trap _ _ | .brk _ | .status _
  | .fence _ | .fenceComplete _ | .unfence _ | .reset _ | .gate _ | .ungate _ | .sample _ | .inject _ _ _ | .itemAccepted
  | .entryCheckFail _ _ | .mirrorPassComplete | .ledgerCopyFail _ _ _ | .ledgerRebuildComplete | .ledgerLost | .recoveryReportBuild _
  | .glbRecoveryAck | .glbAttnNoteClear _ | .tick | .shaperCalendarAdvance | .ledgerPublish | .caliperRecordClose _ | .pendingFriezeSwap
  | .carriedItemsResume | .friezeSlotFire _ | .flagsCell _ _ | .periodicProbe | .joined _ | .leaving _ | .markerMiss | .joinSwitchover
  | .leaveSwitchover | .relock | .leave | .join | .probe | .ringProbe | .ringJoin | .ringLeave | .friezeSwap | .operandBufferCrc _ _
  | .wcUnitParity _ | .wcQueueParity _ | .wcItemHang _ _ | .wcNocCredit _ | .wcGateFail _ | .selftest _ | .selftestComplete _ _ | .retire _
  | .slotForceDisarm _ | .trigger _ _ _ | .query _ _ _ | .heatSweep | .blockMove | .blockMoveComplete | .compactionCopyDone
  | .compactionDrainDone | .compactionSwitchDone | .compactionRestart | .movePause | .moveResume | .compactAbandon | .patrolScrub
  | .spareBankReady _ | .memFlipArm _ | .retrainWindowEnd _ _ | .quarryDeviceFail _ | .translationMiss _ | .migrationSweep | .pageMigration
  | .pageMigrationComplete | .scrubPass | .migPause | .migResume | .retireChannel _ | .retireQuarry _ | .macdComplete _ | .loadDataReturn _
  | .interruptTaken _ | .accept _ | .refuse _ | .endItem _ | .amtMsg _ _ | .amtWdogPet _ | .acWdog _ | .coreRestartComplete _
  | .coreRestart _ | .coreRetire _ | .firmwareStart | .activationDeferralEnd | .coreSwitch _ | .tagFrame _ _ _ _ _ | .ctrlFrame _ _
  | .frameReceiveFail _ | .recordClose _ | .nak _ | .replayTimeout _ | .retrainComplete _ _ | .unheldPaceSymbol _ _ | .steerPrep _ _
  | .steerDone _ _ | .returnPrep _ _ | .returnDone _ _ | .spare _ _ | .spareTrain _ | .half _ _ | .calibrationSessionStart _
  | .trainingTimeExpiry _ _ | .steerTimeout _ | .steerRetry _ | .laneFailure _ _ | .spareFailure _ | .lnkCredit _ | .calPause | .calResume
  | .laneFail _ | .margin _ _ | .readReq _ | .faddPacket _ _ | .casPacket _ _ _ | .atomicResp _ _ | .skip _ | .collAbort _ _ | .ack _ _ _
  | .nakPacket _ | .connect _ _ _ _ _ | .connectAck _ _ _ | .close _ | .retransmissionTimeout _ _ | .pathProbe _ _ | .reconnectTimeout _
  | .connectTimeout _ | .revokeCut _ | .contextFill _ | .pathDown _ _ | .ctxFlush | .emMissFill _ | .sendOpportunity _ _ | .pfcPause _ _ _
  | .pfcPauseExpiry _ _ | .shaperWheelExpiry _ _ | .creditModeScan _ | .versionRetire | .rebuildCopyDone | .rebuildDrainDone
  | .rebuildSwitchDone | .rebuildRestart | .rebuildAbandon | .cacheFlush | .pktTreadAddr _ _ _ _ | .pktToeplitzKey _ _
  | .commandFetch _ _ _ | .replyWrite _ | .interruptModerationExpiry _ | .uncorrectableLinkError _ _ | .hifFreezeRelease _ | .release _
  | .busMasterEnableClear _ | .busMasterEnableSet _ | .vfEnableSet _ _ | .vfEnableClear _ | .functionLevelReset _ | .flrComplete _
  | .vfFlr _ _ | .completionTimeout _ _ | .completionArrival _ _ _ | .tagQuarantineExpiry _ _ | .atsInvalidation _ _ _ | .dmaChanEnable _
  | .dmaChanDisable _ | .dmaPaceRequest _ | .burstWritesIssued _ | .dmaPaceTimeout _ | .chanDrop _ | .nvmeSqDoorbell _ _ _
  | .nvmeCqDoorbell _ _ _ | .nvmeCommandFetch | .deleteIoSq _ _ _ | .deleteIoCq _ _ _ | .setFeatures _ _ _ _ | .getFeatures _ _ _
  | .firmwareCommit _ _ _ _ _ | .invalidCommandOpcode _ _ _ | .nvmeFlush _ _ _ _ | .writeZeroes _ _ _ _ _ _ | .ccEnSet _ | .ccEnClear _
  | .nvmSubsystemReset _ | .targetConnectComplete _ | .targetReconnect _ _ | .targetDrop _ | .checkpointNotice _ _ | .walkerVisit _
  | .batchHashed _ | .segmentWrite _ | .jobAbandon _ | .secPortPhase _ | .secPortKey _ _ | .secZeroise | .zeroiseAll | .drbgReseed
  | .getVersion _ | .getCapabilities _ | .negotiateAlgorithms _ _ | .companionSign _ | .cxlIdeKeyRefresh _ _ | .entropyHealthFail
  | .entropyHealthPass | .secCoreWdog | .graceTimerExpiry _ | .heldReactionDrop _ | .fltModeNormal | .fltModeTest | .fltModeRecovery
  | .startupModeExpiry | .fltSafeEnter | .chipWatchdogExpiry | .fltChipPet | .i3cStatusRead _ _ | .i3cWakeWrite _ | .porNAssert
  | .porNRelease _ | .refclkLock | .stage1Verify | .maquetteApply | .coldInitComplete | .startUpReady | .pllStart | .pllSwitch
  | .pllLockLoss _ | .pllLockReturn _ | .refclkLoss | .warmChipReset | .warmReset | .warmResetRelease | .warmResetReady _ | .idleTimerA1
  | .idleTimerA2 | .idleTimerA3 | .wakeEvent | .exitComplete | .wakeBoundExpiry | .railExcursion _ | .pcrGateFail _ | .pcrOsc _
  | .thermtrip | .obsCtrClear _ | .traceEnable _ | .traceDisable | .traceTrigger | .tracePostDone | .halt _ | .resume _ | .step _
  | .obsDbgAcc _ _ _ _ | .hangAgentTimeout _ | .emergencyEnd | .report _ _ _ | .budget _ | .patinaSummary | .histogramSample _ | .patFlush
  | .traceStop | .portTrainingComplete _ | .mirrorTrainingWaitExpiry | .powerStateEntryComplete | .refclkReturn
  | .dynamicAddressAssignment _ _ | .aerStatusClear _ | .msixVectorUnmask _ _ | .perstNAssert _ => true

end Sys2Proof
end

