-- ==== Sys2Proof/Certificates/Slice0/Obligations.lean ====
section
/-! DEFINITION. The statements for the provers. -/
open Sys2Proof Sys2Proof.Machine

/-- Every command of the table is run through `step` by this equation alone. What a step on an empty queue does is the model's choice of log entries 1 and 58. -/
def Obligations.StepRunsFront : Prop :=
  (∀ (c : Instr) (s : State) (rest : List Instr), step { s with pending := c :: rest } = exec c { s with pending := rest }) ∧
  (∀ s : State, s.pending = [] → step s = .next { s with chip := s.chip.idle }) ∧
  (∀ s : State, s.pending = [] → s.chip.fw.points = [] → s.chip.fw.accepting = [] → step s = .next s)

/-- No command of the table ends in a fault or a refusal, and none touches the queue. -/
def Obligations.EveryCommandCompletes : Prop := ∀ (c : Instr) (s : State), Completes c s (fun _ => True)

/-- The six commands of BAR0 access (R5, R6, R10), for every requester, address and value; and, by PF0 while the device runs, REGISTER_WRITE and
RC_FIELD_READ of the 32-bit register GLB_LEDGER_NOTE_FREE, HELD_LOWER_HALF_WRITE, UPPER_HALF_WRITE and LATCHING_LOWER_HALF_READ of the 64-bit
register GLB_LEDGER_HEAD. -/
def Obligations.Bar0Access : Prop :=
  (∀ (s : State) (by_ : Req) (addr : Nat),
    let p := s.chip.place by_ addr
    let others (d : Chip) : Prop := ∀ (q : Req) (k : Nat), (q, k) ≠ (by_, p.key) →
      d.bus.heldOf q k = s.chip.bus.heldOf q k ∧ d.bus.latchOf q k = s.chip.bus.latchOf q k
    (∀ (wide : Bool) (v : Word),
      (aligned addr wide = true → s.chip.writeShut by_ p = false →
        Completes (.registerWrite by_ addr wide v) s (fun d => d = s.chip.writePlace by_ p wide (v.toNat % 2 ^ (if wide then 64 else 32)))) ∧
      (aligned addr wide = false ∨ s.chip.writeShut by_ p = true → Completes (.registerWrite by_ addr wide v) s (fun d => d = s.chip))) ∧
    (∀ (fn o : Nat) (v : Word), p = .pf fn o → addr % 4 = 0 → p.wide = false → actsOn32 o = false → s.chip.writeShut by_ p = false →
      Completes (.registerWrite by_ addr false v) s (fun d =>
        d = (metAccess fn o false).foldl (fun d m => d.writeField m o (v.toNat % 2 ^ 32) (fieldPart m.fld o (2 ^ 32 - 1)))
          { s.chip with bus := s.chip.bus.unlatch by_ p.key })) ∧
    (∀ bytes : Nat, ¬ ((bytes = 4 ∨ bytes = 8) ∧ addr % bytes = 0) →
      Completes (.invalidBar0Access by_ addr bytes false) s (fun d =>
        d.bus.data = 0xFFFF_FFFF ∧ d.bus.held = s.chip.bus.held ∧ d.bus.latch = s.chip.bus.latch ∧ Frame [.bus] s.chip d) ∧
      Completes (.invalidBar0Access by_ addr bytes true) s (fun d => d = s.chip)) ∧
    (∀ v : BitVec 32, addr % 8 = 0 → p.wide = true → s.chip.writeShut by_ p = false →
      (∃ fn o, p = .pf fn o ∧ o % 8 = 0) → Completes (.heldLowerHalfWrite by_ addr v) s (fun d =>
        d.bus.heldOf by_ p.key = some v.toNat ∧ d.bus.latchOf by_ p.key = none ∧ others d ∧ d.bus.data = s.chip.bus.data ∧
        Frame [.bus] s.chip d)) ∧
    (∀ (v : BitVec 32) (fn o : Nat), addr % 8 = 4 → p.wide = true → p = .pf fn o → o % 8 = 4 → s.chip.writeShut by_ p = false →
      Completes (.upperHalfWrite by_ addr v) s (fun d =>
        let low := (s.chip.bus.heldOf by_ p.key).getD (s.chip.storedWord fn (o - 4) % 2 ^ 32)
        d = { s.chip with bus := (s.chip.bus.unlatch by_ p.key).drop by_ p.key }.pfWrite64 by_ fn (o - 4) (low + v.toNat * 2 ^ 32))) ∧
    (∀ v : BitVec 32, s.chip.writeShut by_ p = true →
      ∀ c ∈ [Instr.heldLowerHalfWrite by_ addr v, .upperHalfWrite by_ addr v], Completes c s (fun d => d = s.chip)) ∧
    ((∃ fn o, p = .pf fn o ∧ o % 8 = 0 ∧ o ≠ 0x1200000) → addr % 8 = 0 → p.wide = true → s.chip.readGate by_ p = .open_ →
      ∀ c ∈ [Instr.latchingLowerHalfRead by_ addr, .rcFieldRead by_ addr false], Completes c s (fun d =>
        d.bus.data = s.chip.wordAt p % 2 ^ 32 ∧ d.bus.latchOf by_ p.key = some (s.chip.wordAt p / 2 ^ 32) ∧
        (∀ (q : Req) (k : Nat), d.bus.heldOf q k = s.chip.bus.heldOf q k) ∧
        (∀ (q : Req) (k : Nat), (q, k) ≠ (by_, p.key) → d.bus.latchOf q k = s.chip.bus.latchOf q k) ∧ Frame [.bus, .regs] s.chip d)) ∧
    (∀ h : Nat, (∃ fn o, p = .pf fn o ∧ o % 8 = 4 ∧ o ≠ 0x1200004) → addr % 8 = 4 → p.wide = true → s.chip.readGate by_ p = .open_ →
      s.chip.bus.latchOf by_ p.key = some h →
      Completes (.rcFieldRead by_ addr false) s (fun d =>
        d.bus.data = h ∧ d.bus.latchOf by_ p.key = none ∧ (∀ (q : Req) (k : Nat), d.bus.heldOf q k = s.chip.bus.heldOf q k) ∧
        (∀ (q : Req) (k : Nat), (q, k) ≠ (by_, p.key) → d.bus.latchOf q k = s.chip.bus.latchOf q k) ∧ Frame [.bus] s.chip d)) ∧
    (∀ (fn o : Nat) (wide : Bool), p = .pf fn o → aligned addr wide = true →
      wide = true ∨ p.wide = false ∨ (o % 8 = 4 ∧ s.chip.bus.latchOf by_ p.key = none) →
      o / 8 * 8 ≠ 0x1200000 → s.chip.readGate by_ p = .open_ →
      Completes (.rcFieldRead by_ addr wide) s (fun d =>
        d.bus.data = (if wide then s.chip.wordAt p else if o % 8 = 4 then s.chip.wordAt p / 2 ^ 32 else s.chip.wordAt p % 2 ^ 32) ∧
        d.regs = (s.chip.clearRC p wide).regs ∧ Frame [.bus, .regs] s.chip d)) ∧
    (∀ wide : Bool, aligned addr wide = true → s.chip.readGate by_ p = .ones →
      Completes (.rcFieldRead by_ addr wide) s (fun d =>
        d = { s.chip with bus := { s.chip.bus with data := (if wide then 2 ^ 64 - 1 else 2 ^ 32 - 1) } }))) ∧
  ∀ (s : State), s.chip.hub.inReset = false → s.chip.pwr.trigger = 0 → s.chip.flag Reg.FLT_SAFE.SAFE = false → s.chip.frozen 0 = false →
    (∀ v : Word, Completes (.registerWrite (.fn 0) 0x80020 false v) s (fun d =>
      d.rg Reg.GLB_LEDGER_NOTE_FREE.THRESHOLD = v.toNat % 2 ^ 22 ∧
      (∀ f : Fld, f.bit ≠ Reg.GLB_LEDGER_NOTE_FREE.THRESHOLD.bit → d.rg f = s.chip.rg f) ∧ Frame [.regs, .bus] s.chip d)) ∧
    Completes (.rcFieldRead (.fn 0) 0x80020 false) s (fun d =>
      d.bus.data = s.chip.rg Reg.GLB_LEDGER_NOTE_FREE.THRESHOLD ∧ Frame [.bus] s.chip d) ∧
    (∀ v : BitVec 32, Completes (.heldLowerHalfWrite (.fn 0) 0x80010 v) s (fun d =>
      d.bus.heldOf (.fn 0) 0x80010 = some v.toNat ∧
      (∀ (q : Req) (k : Nat), (q, k) ≠ (.fn 0, 0x80010) → d.bus.heldOf q k = s.chip.bus.heldOf q k ∧ d.bus.latchOf q k = s.chip.bus.latchOf q k) ∧
      Frame [.bus] s.chip d)) ∧
    (∀ v : BitVec 32, Completes (.upperHalfWrite (.fn 0) 0x80014 v) s (fun d =>
      d.bus.heldOf (.fn 0) 0x80010 = none ∧ d.rg Reg.GLB_LEDGER_HEAD.HEAD = s.chip.rg Reg.GLB_LEDGER_HEAD.HEAD ∧
      (∀ (q : Req) (k : Nat), (q, k) ≠ (.fn 0, 0x80010) → d.bus.heldOf q k = s.chip.bus.heldOf q k ∧ d.bus.latchOf q k = s.chip.bus.latchOf q k) ∧
      Frame [.bus] s.chip d)) ∧
    Completes (.latchingLowerHalfRead (.fn 0) 0x80010) s (fun d =>
      d.bus.data = s.chip.rg Reg.GLB_LEDGER_HEAD.HEAD % 2 ^ 32 ∧
      d.bus.latchOf (.fn 0) 0x80010 = some (s.chip.rg Reg.GLB_LEDGER_HEAD.HEAD / 2 ^ 32) ∧
      (∀ (q : Req) (k : Nat), (q, k) ≠ (.fn 0, 0x80010) → d.bus.heldOf q k = s.chip.bus.heldOf q k ∧ d.bus.latchOf q k = s.chip.bus.latchOf q k) ∧
      Frame [.bus] s.chip d)

/-- R18 and R19, for the agents whose chapters add nothing to the command. -/
def Obligations.AgentCommands : Prop :=
  (∀ (a : Agent) (s : State), Completes (.status a) s (fun d => d = { s.chip with answer := some ⟨a, true, s.chip.agentSt a, s.chip.activeSources a, []⟩ })) ∧
  (∀ (a : Agent) (s : State), Completes (.sample a) s (fun d => d = { s.chip with answer := some ⟨a, true, s.chip.agentSt a, [], s.chip.bank a⟩ })) ∧
  (∀ (a : Agent) (s : State), islandAgent a = false → s.chip.agentSt a = .running → (s.chip.agentRec a).fencing = false →
    Completes (.fence a) s (fun d => (d.agentRec a).fencing = true ∧ d.agentSt a = .running ∧ d.answer = some ⟨a, true, .running, [], []⟩ ∧
      Frame [.agents, .answer] s.chip d)) ∧
  (∀ (b : Block) (s : State), b ∈ [Block.glb, .flt, .pcr, .lnk, .obs, .pat] →
    (s.chip.agentRec (.block b)).fencing = true → (s.chip.agentRec (.block b)).resetAfter = false →
    Completes (.fenceComplete (.block b)) s (fun d => d.agentSt (.block b) = .fenced ∧ (d.agentRec (.block b)).fencing = false ∧
      Frame [.agents] s.chip d)) ∧
  (∀ (b : Block) (k : Nat) (s : State), (b, k) ∈ [(Block.tck, 1), (.hif, 9)] →
    (s.chip.agentRec (.block b)).fencing = true → (s.chip.agentRec (.block b)).resetAfter = false →
    Completes (.fenceComplete (.block b)) s (fun d => d.agentSt (.block b) = .fenced ∧ (d.agentRec (.block b)).fencing = false ∧
      d.led.items = s.chip.led.items.map (fun i => if (match i.kind with | .general op => op / 256 == k | _ => false) && !i.state.ended && decide (i.crec = .none) then
        { i with state := .accepted, replayed := true } else i) ∧ Frame [.agents, .led] s.chip d)) ∧
  (∀ (b : Block) (s : State), (s.chip.agentRec (.block b)).fencing = true →
    Completes (.fenceComplete (.block b)) s (fun d => d.agentSt (.block b) = .fenced)) ∧
  (∀ s : State, (s.chip.agentRec (.block .dvt)).fencing = true → (s.chip.agentRec (.block .dvt)).resetAfter = false →
    Completes (.fenceComplete (.block .dvt)) s (fun d => d.agentSt (.block .dvt) = .fenced ∧
      (∀ i ∈ s.chip.led.items, i.state.ended = false → i.kind = .dvt → i.crec = .none → backToAccepted i ∈ d.led.items) ∧
      d.ids = s.chip.ids ∧ Frame [.agents, .led, .hif] s.chip d)) ∧
  (∀ (b : Block) (s : State), b ∈ [Block.glb, .hif, .tck, .wkc, .mem, .amt, .lnk, .pkt, .ckp, .sec, .obs] → s.chip.hub.inReset = false →
    s.chip.agentSt (.block b) = .fenced → s.chip.activeSources (.block b) = [] → (∀ i ∈ s.chip.led.items, i.kind ≠ .general 0x0D03) →
    Completes (.unfence (.block b)) s (fun d => d.agentSt (.block b) = .running ∧ d.answer = some ⟨.block b, true, .running, [], []⟩ ∧
      Frame [.agents, .answer] s.chip d)) ∧
  (∀ (b : Block) (s : State), keepsPower (.block b) = false → s.chip.agentSt (.block b) = .fenced →
    Completes (.reset (.block b)) s (fun d => d.agentSt (.block b) = .fenced ∧ (d.agentRec (.block b)).resetDone = true ∧
      d.answer = some ⟨.block b, true, .fenced, [], []⟩ ∧ Frame [.agents, .answer] s.chip d)) ∧
  (∀ (b : Block) (s : State), keepsPower (.block b) = false → s.chip.agentSt (.block b) = .running →
    Completes (.reset (.block b)) s (fun d => d.agentSt (.block b) = .running ∧ (d.agentRec (.block b)).fencing = true ∧
      (d.agentRec (.block b)).resetAfter = true ∧ Frame [.agents, .answer] s.chip d)) ∧
  (∀ (b : Block) (s : State), keepsPower (.block b) = false → s.chip.agentSt (.block b) = .fenced →
    Completes (.gate (.block b)) s (fun d => d.agentSt (.block b) = .gated ∧ Frame [.agents, .answer] s.chip d)) ∧
  (∀ (b : Block) (s : State), islandAgent (.block b) = false → s.chip.agentSt (.block b) = .gated →
    Completes (.ungate (.block b)) s (fun d => d.agentSt (.block b) = .fenced ∧ Frame [.agents, .answer] s.chip d)) ∧
  (∀ (a : Agent) (source : Fin 768) (detail : BitVec 16) (s : State), s.chip.rg Reg.FLT_MODE.MODE ≠ 2 →
    Completes (.inject a source detail) s (fun d => (∃ x, d.answer = some x ∧ x.taken = false) ∧ Frame [.answer] s.chip d)) ∧
  (∀ (a : Agent) (source : Fin 768) (detail : BitVec 16) (s : State), s.chip.rg Reg.FLT_MODE.MODE = 2 → sourceNamed source = true →
    agentOfSource source = a → Completes (.inject a source detail) s (fun d => d = (s.chip.sourceEvent source detail.toNat 0 true).answered a true)) ∧
  (∀ (a : Agent) (s : State), a = .block .flt ∨ a = .block .pcr →
    ∀ c ∈ [Instr.fence a, .unfence a, .reset a, .gate a, .ungate a], Completes c s (fun d => d = s.chip.answered a false)) ∧
  (∀ (b : Block) (s : State), b = .tck ∨ b = .mem → ∀ c ∈ [Instr.reset (.block b), .gate (.block b)],
    Completes c s (fun d => d = s.chip.answered (.block b) false))

/-- R24, R27, R30, R33 to R35 and R41 at the ledger unit. -/
def Obligations.LedgerAcceptance : Prop :=
  (∀ (s : State) (a : Arising), s.chip.nextArising = some a → a.frieze = none → s.chip.takesItems = true →
    (∀ n e, a.kind ≠ .query n e) → (∀ k n, a.kind ≠ .firing k n) →
    Completes .itemAccepted s (fun d => d.led.arising = s.chip.led.arising.erase a ∧ d.led.nextSeq = s.chip.led.nextSeq + 1 ∧
      d.ids = s.chip.ids ++ [⟨s.chip.led.nextSeq, lowestSlot s.chip.led.items, a.kind, a.domain, a.tag, a.origin⟩] ∧
      (∀ i ∈ d.led.items, i.seq = s.chip.led.nextSeq → i ∉ s.chip.led.items → i.state = .accepted))) ∧
  (∀ (s : State) (a : Arising), s.chip.nextArising = some a → s.chip.takesItems = true → Completes .itemAccepted s (fun d =>
    let rest : Chip := { s.chip with led := { s.chip.led with arising := s.chip.led.arising.erase a } }
    d = (match a.frieze with
      | some (slot, logical) => (rest.stepItem a slot logical).drainPlans
      | none => (rest.accept a).started (rest.accept a).lastSeq a.kind))) ∧
  (∀ (s : State) (i : Item), s.chip.commits = true → s.chip.item i.seq = some i → i.crec = .issued →
    Completes (.commitRecordTaken i.seq) s (fun d =>
      d.item i.seq = some { i with crec := if predsEnded s.chip.led.items i then .taken else .held } ∧
      d.led.items.length = s.chip.led.items.length ∧ Frame [.led] s.chip d)) ∧
  (∀ (s : State) (i : Item), s.chip.commits = true → s.chip.item i.seq = some i → i.crec = .taken → i.state.ended = false →
    (∃ n, i.kind = .armature n) →
    Completes (.commitPoint i.seq) s (fun d => ∃ j, d.item i.seq = some j ∧ j.state = .committed)) ∧
  (∀ (s : State) (i : Item), s.chip.commits = true → s.chip.item i.seq = some i → i.crec = .taken → i.state.ended = false →
    s.chip.commitGate i = true → i.kind ≠ .general 0x0503 →
    Completes (.commitPoint i.seq) s (fun d => d = ((((s.chip.commitEffect i).endItem i.seq .committed i.reply.code i.reply.lo (s.chip.commitHi i)
      (!(i.kind = .work && i.redoRec.isSome))).countWork i).engineGo i).cancelsGo i.seq)) ∧
  (∀ (s : State) (i : Item) (code : Nat), s.chip.item i.seq = some i → withdrawCode code = true →
    Completes (.withdrawalApplied i.seq code) s (fun d => d = (s.chip.withdraw i.seq code).engineGo i)) ∧
  (∀ (s : State) (seq code : Nat), s.chip.canWithdraw seq = false → s.chip.withdraw seq code = s.chip) ∧
  (∀ (s : State) (seq code : Nat), s.chip.canWithdraw seq = false → withdrawCode code = false →
    Completes (.withdrawalApplied seq code) s (fun d => d = s.chip)) ∧
  (∀ (s : State) (i : Item) (code : Nat), s.chip.item i.seq = some i → withdrawCode code = true → i.state.ended = false → i.crec ≠ .taken →
    s.chip.led.lost = false → (∃ n, i.kind = .armature n) →
    Completes (.withdrawalApplied i.seq code) s (fun d => ∃ j, d.item i.seq = some j ∧ j.state = .withdrawn)) ∧
  (∀ (s : State) (src : Submit) (target : Nat), TakenUp s.chip src .hif true 0 →
    (target % 2 ^ 64 = 0 ∨ s.chip.led.nextSeq ≤ target % 2 ^ 64 ∨
      ∃ i, s.chip.item (target % 2 ^ 64) = some i ∧ i.fn ≠ s.chip.originFn src.origin) →
    Completes (.cancel src target) s (fun d => d.led = s.chip.led)) ∧
  (∀ (s : State) (src : Submit) (target : Nat), TakenUp s.chip src .hif true 0 → 0 < target % 2 ^ 64 → target % 2 ^ 64 < s.chip.led.nextSeq →
    (∀ i, s.chip.item (target % 2 ^ 64) = some i → i.fn = s.chip.originFn src.origin) → s.chip.canWithdraw (target % 2 ^ 64) = false →
    Completes (.cancel src target) s (fun d =>
      Accepted s.chip d src (.general 0x0901) (s.chip.originDomain src.origin))) ∧
  (∀ (s : State) (src : Submit) (target : Nat), TakenUp s.chip src .hif true 0 → 0 < target % 2 ^ 64 → target % 2 ^ 64 < s.chip.led.nextSeq →
    (∀ i, s.chip.item (target % 2 ^ 64) = some i → i.fn = s.chip.originFn src.origin) →
    Completes (.cancel src target) s (fun d =>
      let b := (s.chip.dropHand src.origin).acceptCmd src (.general 0x0901) (genBody 0x0901 src [target % 2 ^ 64]) (s.chip.originDomain src.origin)
      d = b.cancelTry b.lastSeq (target % 2 ^ 64))) ∧
  (∀ (d : Chip) (q target : Nat) (i : Item), d.item target = some i → d.canWithdraw target = true → (∃ n, i.kind = .armature n) →
    d.led.lost = false → q ≠ target → ∃ j, (d.cancelTry q target).item target = some j ∧ j.state = .withdrawn)

/-- R25, R27 to R29, R48, R51 and R52. -/
def Obligations.LedgerCopies : Prop :=
  (∀ (s : State) (slot : Fin 2097152) (copy : Fin 2), s.chip.led.lost = false → s.chip.rg Reg.GLB_LEDGER_STATE.COPIES = 3 →
    Completes (.entryCheckFail slot copy) s (fun d => d = s.chip.fault Src.LEDGER_CHECK (slot.val % 65536) ∧ d.led = s.chip.led)) ∧
  (∀ (s : State) (slot : Fin 2097152) (copy : Fin 2), s.chip.led.lost = false → s.chip.rg Reg.GLB_LEDGER_STATE.COPIES = 2 ^ copy.val →
    Completes (.entryCheckFail slot copy) s (fun d => d = s.chip.ledgerLost ∧ d.led.lost = true)) ∧
  (∀ (s : State) (slot : Fin 2097152) (copy : Fin 2), s.chip.led.lost = false → s.chip.rg Reg.GLB_LEDGER_STATE.COPIES = 3 →
    s.chip.remap copy = [] → s.chip.mu.retired = [] →
    ∀ body : Bool, Completes (.ledgerCopyFail copy slot body) s (fun d => d.single = true ∧ d.led = s.chip.led ∧
      (d.remap copy).map (·.word) = (ledgerWords copy slot body).map (fun w => w % 0x4000_0000 / 32))) ∧
  (∀ s : State, s.chip.flag Reg.GLB_LEDGER_STATE.REBUILD = true →
    Completes .ledgerRebuildComplete s (fun d => d.rg Reg.GLB_LEDGER_STATE.COPIES = 3 ∧ d.rg Reg.GLB_LEDGER_STATE.REBUILD = 0 ∧
      (∀ c ∈ d.attn, c.why ≠ .singleCopy) ∧ Frame [.regs, .attn, .attnServed] s.chip d)) ∧
  (∀ s : State, s.chip.led.lost = false →
    Completes .ledgerLost s (fun d => d.led = { s.chip.led with lost := true } ∧ d.takesItems = false ∧ d.commits = false)) ∧
  (∀ (s : State) (n : Nat), ledgerSlots ≤ s.chip.led.items.length →
    Completes (.ledgerStall n) s (fun d => d.led = { s.chip.led with stallRun := s.chip.led.stallRun + n } ∧
      (s.chip.rg Reg.GLB_LEDGER_STALLS.COUNT + n < 2 ^ Reg.GLB_LEDGER_STALLS.COUNT.w → s.chip.led.stallRun + n < 1000 →
        d.rg Reg.GLB_LEDGER_STALLS.COUNT = s.chip.rg Reg.GLB_LEDGER_STALLS.COUNT + n))) ∧
  (∀ (s : State) (is : List Item) (k : Nat), s.chip.led.pass = some is → s.chip.led.mirrorDev = some k →
    Completes .mirrorPassComplete s (fun d => d.led.pass = none ∧
      (∃ m, d.led.mirror = some m ∧ m.base = s.chip.mirrorBase k ∧ m.tick = s.chip.led.passTick ∧ m.head = s.chip.led.passHead ∧
        m.low = s.chip.led.passLow ∧ m.items = is) ∧ d.led.nextSeq = s.chip.led.nextSeq)) ∧
  (∀ (s : State) (x : Bool), s.chip.reportDue = true → s.chip.led.mirrorDev = none → s.chip.led.lost = false →
    Completes (.recoveryReportBuild x) s (fun d => d.led.items = [] ∧ d.led.checked = true ∧ d.led.nextSeq = s.chip.led.nextSeq ∧
      d.led.report = s.chip.led.report ∧ d.rg Reg.GLB_RECOVERY.VALID = 0)) ∧
  (∀ (s : State) (k head : Nat) (m : MirrorArea), s.chip.reportDue = true → s.chip.led.mirrorDev = some k → s.chip.mirrorUp k = true →
    headerHead (s.chip.bytes (s.chip.mirrorBase k) 64) = some head → s.chip.led.mirror = some m → s.chip.anyPoison (s.chip.mirrorBase k) 64 = false →
    Completes (.recoveryReportBuild true) s (fun d => d.led.items = [] ∧ d.led.nextSeq = head + 1 ∧
      d.led.report.map (·.seq) = (reported m.items head).map (·.seq))) ∧
  (∀ (s : State) (k : Nat), s.chip.reportDue = true → s.chip.led.mirrorDev = some k → s.chip.mirrorUp k = false →
    s.chip.flag Reg.MEM_PLINTH_STATE.INIT_BUSY = false → s.chip.led.lost = false →
    Completes .mirrorTrainingWaitExpiry s (fun d => d.led.items = [] ∧ d.led.checked = true ∧ d.rg Reg.GLB_RECOVERY.VALID = 0)) ∧
  (∀ s : State, Completes .glbRecoveryAck s (fun d => (∀ c ∈ d.attn, c.why ≠ .recoveryReport) ∧ d.rg Reg.GLB_RECOVERY.ACK = 1 ∧
    Frame [.regs, .attn, .attnServed] s.chip d)) ∧
  (∀ (s : State) (m : BitVec 16), Completes (.glbAttnNoteClear m) s (fun d =>
    d.rg Reg.GLB_ATTN_NOTE.NOTE = s.chip.rg Reg.GLB_ATTN_NOTE.NOTE - (s.chip.rg Reg.GLB_ATTN_NOTE.NOTE &&& m.toNat) ∧
    Frame [.regs, .attnServed] s.chip d)) ∧
  (∀ (s : State) (fn : Nat), s.chip.attnLevel = 0 → Completes (.attentionReply fn) s (fun d => d = s.chip)) ∧
  (∀ (s : State) (fn : Nat), s.chip.attnLevel ≠ 0 → s.chip.attnServed.contains fn = false → (s.chip.fnRings fn).2 ≠ 0 →
    s.chip.flag (Reg.HIF_RING.ENABLE (s.chip.fnRings fn).1) = true → s.chip.ringFn (s.chip.fnRings fn).1 = fn →
    s.chip.ringFull (s.chip.fnRings fn).1 = false → s.chip.ringDead (s.chip.fnRings fn).1 = false →
    Completes (.attentionReply fn) s (fun d => d = s.chip.putReply (s.chip.fnRings fn).1
      ⟨(s.chip.fnRings fn).1, Code.OK, 0xFFFF_FFFF, 0, false, s.chip.single, false, false, 0, 0⟩ ∧ d.led.items = s.chip.led.items))

/-- R57 to R66 and R91, for TICK_MARKER, MARKER_MISS, TICK_CELL, FLAGS_CELL, PROBE_CELL, PROBE_RETURN, PERIODIC_PROBE, PROBE, RING_PROBE and RELOCK. -/
def Obligations.RingMarkersAndCells : Prop :=
  (∀ (s : State) (e : Int), ringState s.chip ≠ 3 → e.natAbs ≤ 80 →
    Completes (.tickMarker e) s (fun d => d.rg Reg.TCK_PHASE.ERROR = phaseField e % 2 ^ 16 ∧ d.rg Reg.TCK_STATUS.MISSES = 0 ∧
      d.tck.phaseRun = 0 ∧ Frame [.regs, .tck] s.chip d)) ∧
  (∀ (s : State) (e : Int), ringState s.chip ≠ 3 → e.natAbs > 80 → Completes (.tickMarker e) s (fun d =>
    let b : Chip := { (s.chip.sr Reg.TCK_PHASE.ERROR (phaseField e)).sr Reg.TCK_STATUS.MISSES 0 with
      tck := { s.chip.tck with phaseRun := s.chip.tck.phaseRun + 1, markers := s.chip.tck.markers + b2n (onRing s.chip) } }
    d = if s.chip.tck.phaseRun = 3 then b.fault Src.PHASE_LIMIT else b)) ∧
  (∀ (s : State) (e : Int), ringState s.chip = 3 → Completes (.tickMarker e) s (fun d => d = s.chip)) ∧
  (∀ s : State, ringState s.chip ≠ 3 →
    let b := ((s.chip.sr Reg.TCK_STATUS.MISSES (min (s.chip.rg Reg.TCK_STATUS.MISSES + 1) 255)).count Reg.TCK_MISSES.COUNT).fault Src.RING_MISS
    let standby := b.rg Reg.TCK_CTRL.ROLE = 2 ∧ onRing b = true ∧ b.rg Reg.TCK_STATUS.MISSES = 4 ∧ b.tck.stopped = false
    (standby → Completes .markerMiss s (fun d => ringState d = 3 ∧ d.rg Reg.TCK_STATUS.MASTER_POS = ringPos b ∧ d.tck.acting = true ∧
      d.tck.out = b.tck.out ++ [.probe 0 (ringPos b)] ∧ Frame [.regs, .tck] b d)) ∧
    (¬ standby → b.rg Reg.TCK_STATUS.MISSES = 8 → ringState b = 1 → Completes .markerMiss s (fun d =>
      d = ((b.sr Reg.TCK_STATUS.STATE 2).fault Src.HOLDOVER).raiseAttn .holdover .degraded clsLinks)) ∧
    (¬ standby → ¬ (b.rg Reg.TCK_STATUS.MISSES = 8 ∧ ringState b = 1) → Completes .markerMiss s (fun d => d = b))) ∧
  (∀ s : State, ringState s.chip = 3 → Completes .markerMiss s (fun d => d = s.chip)) ∧
  (∀ (s : State) (n p : Nat) (m : Fin 16), masterRole s.chip = false → ringState s.chip = 1 → n < 2 ^ 64 → p < 65536 → s.chip.tck.taken = true →
    onRing s.chip = true → Completes (.tickCell true n p m) s (fun d => d.rg Reg.TCK_STATUS.MASTER_POS = m.val ∧
      d.tck.last = some (.tick n p m.val) ∧ d.tck.rxNumber = some n ∧ d.tck.rxPeriod = p ∧ d.tick = s.chip.tick ∧ Frame [.regs, .tck] s.chip d)) ∧
  (∀ (s : State) (n p : Nat) (m : Fin 16), masterRole s.chip = false → ringState s.chip = 2 → n < 2 ^ 64 → s.chip.tick ≤ n →
    Completes (.tickCell true n p m) s (fun d => d.tck.adopt = some n ∧ d.tck.lower = none ∧ ringState d = 1 ∧ d.tick = s.chip.tick ∧
      d.rg Reg.TCK_STATUS.MASTER_POS = m.val ∧ Frame [.regs, .tck, .attn, .attnServed] s.chip d)) ∧
  (∀ (s : State) (n p : Nat) (m : Fin 16), masterRole s.chip = false → ringState s.chip = 2 → n < s.chip.tick → s.chip.tick ≤ 2 ^ 64 →
    s.chip.tck.lower.isSome = true →
    Completes (.tickCell true n p m) s (fun d => d.tck.lower = some n ∧ d.tck.adopt = s.chip.tck.adopt ∧ ringState d = 2 ∧ d.tick = s.chip.tick ∧
      Frame [.regs, .tck] s.chip d)) ∧
  (∀ (s : State) (n p : Nat) (m : Fin 16), masterRole s.chip = false → ringState s.chip ≠ 2 → ringState s.chip ≠ 3 → n < 2 ^ 64 →
    s.chip.tck.taken = false →
    Completes (.tickCell true n p m) s (fun d => d.tick = n ∧ d.tck.taken = true ∧ d.rg Reg.TCK_STATUS.MASTER_POS = m.val ∧
      Frame [.regs, .tck] s.chip d)) ∧
  (∀ (s : State) (n p : Nat) (m : Fin 16), masterRole s.chip = true → onRing s.chip = true → m.val < ringPos s.chip →
    Completes (.tickCell true n p m) s (fun d =>
      let b := s.chip.fault Src.DUAL_MASTER
      let c : Chip := { b with tck := { b.tck with stopped := true, acting := false, probeOut := false } }
      d = (receivedNumber ((c.sr Reg.TCK_STATUS.STATE 1).sr Reg.TCK_STATUS.MASTER_POS m.val) (n % 2 ^ 64)).forward
        (.tick (n % 2 ^ 64) (p % 65536) m.val))) ∧
  (∀ (s : State) (n p : Nat) (m : Fin 16), masterRole s.chip = true → onRing s.chip = true → ringPos s.chip < m.val →
    Completes (.tickCell true n p m) s (fun d => d = s.chip.fault Src.DUAL_MASTER)) ∧
  (∀ (s : State) (n p : Nat) (m : Fin 16), Completes (.tickCell false n p m) s (fun d =>
    d = ((s.chip.count Reg.TCK_CELL_ERRORS.COUNT).fault Src.RING_CRC).forward (.bad (.tick (n % 2 ^ 64) (p % 65536) m.val)))) ∧
  (∀ (s : State) (f : BitVec 8), Completes (.flagsCell false f) s (fun d =>
    d = ((s.chip.count Reg.TCK_CELL_ERRORS.COUNT).fault Src.RING_CRC).forward (.bad (.flags f.toNat)))) ∧
  (∀ (s : State) (delay : Nat) (last : Fin 16), Completes (.probeCell false delay last) s (fun d =>
    d = ((s.chip.count Reg.TCK_CELL_ERRORS.COUNT).fault Src.RING_CRC).forward (.bad (.probe delay last.val)))) ∧
  (∀ (s : State) (f : BitVec 8), f &&& 3 = 0 → onRing s.chip = true → Completes (.flagsCell true f) s (fun d =>
    d.tck.last = some (.flags (f.toNat ||| s.chip.ownFlags)) ∧ d.rg Reg.TCK_STATUS.BOARD_FLAGS = f.toNat / 16 ∧
    d.cal = { s.chip.cal with flagged := s.chip.cal.flagged || decide (f &&& 12 ≠ 0) } ∧ Frame [.regs, .tck, .cal] s.chip d)) ∧
  (∀ (s : State) (f : BitVec 8), Completes (.flagsCell true f) s (fun d =>
    let b := (s.chip.forward (.flags (f.toNat ||| s.chip.ownFlags))).sr Reg.TCK_STATUS.BOARD_FLAGS (f.toNat / 16)
    let b : Chip := if f &&& 12 = 0 then b else { b with cal := { b.cal with flagged := true } }
    let b := if f &&& 1 = 0 then b else b.fault Src.RING_NODE_FAULT
    d = if f &&& 2 = 0 then b else b.raiseAttn .haltRequest .halting clsFaults)) ∧
  (∀ (s : State) (delay : Nat) (last : Fin 16), s.chip.tck.probeOut = false → onRing s.chip = true → ringState s.chip = 1 →
    Completes (.probeCell true delay last) s (fun d =>
      d.rg Reg.TCK_PHASE.OFFSET = (delay + delayTo s.chip.tck.trace s.chip.tck.bypass last.val (ringPos s.chip)) % 2 ^ Reg.TCK_PHASE.OFFSET.w ∧
      d.tck.last = some (.probe (delay + delayTo s.chip.tck.trace s.chip.tck.bypass last.val (ringPos s.chip) + 96) (ringPos s.chip)) ∧
      Frame [.regs, .tck] s.chip d)) ∧
  (∀ (s : State) (total loop : Nat), s.chip.tck.probeOut = true → total ≤ loop + 40 → loop ≤ total + 40 →
    Completes (.probeReturn total loop) s (fun d => d.tck = { s.chip.tck with probeOut := false } ∧ Frame [.regs, .tck] s.chip d)) ∧
  (∀ (s : State) (total loop : Nat), s.chip.tck.probeOut = true → onRing s.chip = true → ringState s.chip = 0 → masterRole s.chip = true →
    total ≤ loop + 40 → loop ≤ total + 40 → Completes (.probeReturn total loop) s (fun d => ringState d = 3 ∧
      d.rg Reg.TCK_STATUS.MASTER_POS = ringPos s.chip ∧ Frame [.regs, .tck] s.chip d)) ∧
  (∀ (s : State) (total loop : Nat), s.chip.tck.probeOut = true → ringState s.chip = 3 → loop + 40 < total ∨ total + 40 < loop →
    let b := (({ s.chip with tck := { s.chip.tck with probeOut := false } }).sr Reg.TCK_CTRL.PROBE 0).fault Src.DELAY_MISMATCH
    ¬ (onRing b = true ∧ ringState b = 0) → Completes (.probeReturn total loop) s (fun d => d = b)) ∧
  (∀ s : State, ringState s.chip = 3 → s.chip.tck.sinceProbe ≥ 65536 →
    Completes .periodicProbe s (fun d => d.tck.out = s.chip.tck.out ++ [.probe 0 (ringPos s.chip)] ∧ d.tck.sinceProbe = 0 ∧ Frame [.tck] s.chip d)) ∧
  (∀ s : State, ringState s.chip = 3 →
    Completes .probe s (fun d => d.tck.out = s.chip.tck.out ++ [.probe 0 (ringPos s.chip)] ∧ d.tck.probeOut = true ∧ Frame [.tck] s.chip d)) ∧
  (∀ s : State, Completes .ringProbe s (fun d =>
    d.tck.out = (if ringState s.chip = 3 then s.chip.tck.out ++ [.probe 0 (ringPos s.chip)] else s.chip.tck.out) ∧
    (∃ x, d.answer = some x ∧ x.taken = decide (ringState s.chip = 3)) ∧ Frame [.tck, .answer] s.chip d)) ∧
  (∀ (s : State) (n : Nat), s.chip.tck.lower = some n → ringState s.chip = 2 →
    Completes .relock s (fun d => d.tck.adopt = some n ∧ d.tck.lower = none ∧ ringState d = 1 ∧ Frame [.regs, .tck, .attn, .attnServed] s.chip d))

/-- R60, R68 to R70 and R91. -/
def Obligations.RingMembership : Prop :=
  (∀ s : State, onRing s.chip = false → s.chip.tck.join = none →
    Completes .join s (fun d => d.tck.join = some s.chip.tck.frames ∧ d.rg Reg.TCK_CTRL.JOIN = 1 ∧ onRing d = false ∧ Frame [.regs, .tck] s.chip d)) ∧
  (∀ s : State, onRing s.chip = false → s.chip.tck.join = none →
    Completes .ringJoin s (fun d => d.tck.join = some s.chip.tck.frames ∧ d.rg Reg.TCK_CTRL.JOIN = 1 ∧ (∃ x, d.answer = some x ∧ x.taken = true) ∧ Frame [.regs, .tck, .answer] s.chip d)) ∧
  (∀ (s : State) (t : Nat), s.chip.tck.join = some t → t ≠ s.chip.tck.frames → onRing s.chip = false → ringState s.chip = 0 →
    s.chip.flag Reg.FLT_SAFE.SAFE = false → masterRole s.chip = false → s.chip.tck.rxNumber.isSome = true → s.chip.tck.rxAt ≠ s.chip.tck.frames →
    Completes .joinSwitchover s (fun d => onRing d = true ∧ d.tck.join = none ∧
      d.tck.out = s.chip.tck.out ++ [.msg (s.chip.rg Reg.TCK_STATUS.MASTER_POS) (ringPos s.chip) 1 []] ∧ Frame [.regs, .tck] s.chip d)) ∧
  (∀ (s : State) (t : Nat), s.chip.tck.join = some t → t ≠ s.chip.tck.frames → onRing s.chip = false → ringState s.chip = 0 →
    s.chip.flag Reg.FLT_SAFE.SAFE = false → masterRole s.chip = true →
    Completes .joinSwitchover s (fun d => onRing d = true ∧ d.tck.join = none ∧
      d.tck.out = s.chip.tck.out ++ [.probe 0 (ringPos s.chip)] ∧ Frame [.regs, .tck] s.chip d)) ∧
  (∀ s : State, onRing s.chip = true → s.chip.tck.leaving = false →
    Completes .leave s (fun d => d.tck.leaving = true ∧ d.tck.out = s.chip.tck.out ++ [.msg 0xFF (ringPos s.chip) 2 []] ∧
      d.rg Reg.TCK_CTRL.LEAVE = 1 ∧ onRing d = true ∧ Frame [.regs, .tck] s.chip d)) ∧
  (∀ s : State, onRing s.chip = true → s.chip.tck.leaving = false →
    Completes .ringLeave s (fun d => d.tck.leaving = true ∧ d.tck.out = s.chip.tck.out ++ [.msg 0xFF (ringPos s.chip) 2 []] ∧ (∃ x, d.answer = some x ∧ x.taken = true) ∧ Frame [.regs, .tck, .answer] s.chip d)) ∧
  (∀ (s : State) (t : Nat), s.chip.tck.leaveSent = some t → t ≠ s.chip.tck.frames → s.chip.tck.leaving = true →
    Completes .leaveSwitchover s (fun d => onRing d = false ∧ ringState d = 0 ∧ d.tck.leaving = false ∧ d.tck.out = [] ∧ Frame [.regs, .tck] s.chip d)) ∧
  (∀ (s : State) (p : Fin 16), ringState s.chip = 3 → Completes (.joined p) s (fun d =>
    d.tck.out = s.chip.tck.out ++ [.probe 0 (ringPos s.chip)] ∧ Frame [.tck] s.chip d)) ∧
  (∀ (s : State) (p : Fin 16), ringState s.chip ≠ 3 → onRing s.chip = true → Completes (.joined p) s (fun d =>
    d.tck.last = some (.msg (s.chip.rg Reg.TCK_STATUS.MASTER_POS) p.val 1 []) ∧ d.tck.out = s.chip.tck.out ∧ Frame [.tck] s.chip d)) ∧
  (∀ (s : State) (p : Fin 16), ringState s.chip = 3 → Completes (.leaving p) s (fun d => d.tck.probeDue = true ∧ Frame [.tck] s.chip d)) ∧
  (∀ (s : State) (p : Fin 16), ringState s.chip ≠ 3 → onRing s.chip = true → Completes (.leaving p) s (fun d =>
    d.tck.last = some (.msg 0xFF p.val 2 []) ∧ Frame [.tck] s.chip d)) ∧
  (∀ (s : State) (c : RingCell) (rest : List RingCell) (h : List (BitVec 8)), s.chip.tck.out = c :: rest → onRing s.chip = true →
    Completes (.ownCellSend h) s (fun d => d.tck.out = rest ∧ d.tck.last = some c ∧ d.tck.behind.length ≤ 16 ∧ d.tck.behind = h.take 16 ∧
      Frame [.tck] s.chip d))

/-- R72 to R93 for TICK, LEDGER_PUBLISH, PENDING_FRIEZE_SWAP, FRIEZE_SWAP, CARRIED_ITEMS_RESUME, FRIEZE_SLOT_FIRE, PLAN_LOAD, PLAN_UNLOAD and PLAN_RESUME. -/
def Obligations.TickAndPlans : Prop :=
  (∀ d : Chip, d.tickUnit.tick = (d.tck.adopt.getD d.tick + 1) % 2 ^ 64 ∧ d.tickUnit.tck.cycle = 0 ∧ d.tickUnit.tck.adopt = none ∧
    d.tickUnit.tck.skip = [] ∧ d.tickUnit.tck.frames = d.tck.frames + 1 ∧ Frame [.regs, .tck, .pkt] d d.tickUnit) ∧
  (∀ s : State, s.chip.pwr.refclk = true →
    let runs (d : Chip) : Bool := d.clocked 0 && !d.hub.inReset && !d.flag Reg.FLT_SAFE.SAFE
    let b := (if runs s.chip.tickUnit then s.chip.tickUnit.latchCounters else s.chip.tickUnit).switchClocks
    (runs b = false → Completes .tick s (fun d => d = b.patTick.traceDue.funnelAll.obsTick)) ∧
    (runs b = true → Completes .tick s (fun d => d = (b.tickWork.calTick s.chip.tick).patTick.traceDue.funnelAll.obsTick))) ∧
  (∀ s : State, s.chip.pwr.refclk = false → Completes .tick s (fun d => d = s.chip)) ∧
  (∀ s : State, s.chip.pwr.refclk = true → s.chip.clocked 0 = true → s.chip.hub.inReset = false → s.chip.tck.cycle < 4 →
    Completes .ledgerPublish s (fun d =>
      let b : Chip := { s.chip with tck := { s.chip.tck with cycle := 4 } }
      d = ((b.sr Reg.GLB_LEDGER_HEAD.HEAD (s.chip.led.nextSeq - 1)).sr Reg.GLB_LEDGER_LOW.LOW s.chip.ledgerLow).passBegins.freeSlots.kvPublish
        s.chip.ledgerLow)) ∧
  (∀ s : State, s.chip.pwr.refclk = true → s.chip.clocked 0 = true → s.chip.hub.inReset = false → s.chip.tck.cycle < 4 →
    s.chip.led.mirrorDev = none → s.chip.led.items = [] → s.chip.mu.reclaim = [] → s.chip.kv.seqs = [] → s.chip.kv.svcs = [] →
    s.chip.kv.running = none → s.chip.running .kva = false → s.chip.compactState = 0 → s.chip.led.nextSeq < 2 ^ 64 →
    Completes .ledgerPublish s (fun d => d.rg Reg.GLB_LEDGER_HEAD.HEAD = s.chip.led.nextSeq - 1 ∧ d.rg Reg.GLB_LEDGER_LOW.LOW = s.chip.led.nextSeq ∧
      d.tck.cycle = 4)) ∧
  (∀ s : State, 4 ≤ s.chip.tck.cycle → Completes .ledgerPublish s (fun d => d = s.chip)) ∧
  (∀ s : State, Completes .friezeSwap s (fun d => d.ldr = { s.chip.ldr with swap := true } ∧ Frame [.ldr, .answer] s.chip d)) ∧
  (∀ s : State, s.chip.tck.cycle < 16 → s.chip.running .tck = false →
    Completes .pendingFriezeSwap s (fun d => d = { s.chip with tck := { s.chip.tck with cycle := 16 } })) ∧
  (∀ s : State, s.chip.tck.cycle < 16 → s.chip.running .tck = true → (s.chip.agentRec (.block .tck)).fencing = false → s.chip.ldr.cmds = [] →
    Completes .pendingFriezeSwap s (fun d => d.ldr.swap = false ∧ d.ldr.plans = s.chip.ldr.plans ∧ d.led = s.chip.led ∧
      d.ldr.active = d.ldr.shadow.filter (fun q => q.2.kind ≠ 0 || d.ldr.plans.any (fun p => p.id = q.2.plan && p.state ≠ .loading)) ∧
      Frame [.regs, .tck, .ldr] s.chip d)) ∧
  (∀ s : State, s.chip.tck.cycle < 16 → s.chip.running .tck = true → (s.chip.agentRec (.block .tck)).fencing = false →
    Completes .pendingFriezeSwap s (fun d =>
      let b := (commitPlanCmds { s.chip with tck := { s.chip.tck with cycle := 16 } } s.chip.ldr.cmds).retrainSlots.activate
      d = { b with ldr := { b.ldr with swap := false } }.syncAdmit)) ∧
  (∀ s : State, 16 ≤ s.chip.tck.cycle → Completes .pendingFriezeSwap s (fun d => d = s.chip)) ∧
  (∀ s : State, s.chip.tck.cycle < 64 → Completes .carriedItemsResume s (fun d =>
    d = ({ s.chip with tck := { s.chip.tck with cycle := 64, carriedWait := false } }).heldGo)) ∧
  (∀ s : State, 64 ≤ s.chip.tck.cycle → Completes .carriedItemsResume s (fun d => d = s.chip)) ∧
  (∀ (s : State) (k : Fin 1024) (f : FriezeSlot), tget s.chip.ldr.active k.val = some f → s.chip.tick % 2 ^ f.cadence = f.phase →
    s.chip.turnPast k.val f = false → s.chip.tck.skip.contains k.val = false → s.chip.pwr.refclk = true → s.chip.clocked 0 = true →
    s.chip.hub.inReset = false → s.chip.flag Reg.FLT_SAFE.SAFE = false → s.chip.flag Reg.PCR_STATE.READY = true →
    let b : Chip := { s.chip with tck := { s.chip.tck with cycle := f.offset, turn := some k.val, skip := k.val :: s.chip.tck.skip } }
    (∀ p : Plan, f.kind = 0 → s.chip.tck.carriedWait = false → s.chip.plan f.plan = some p → p.state = .active →
      (s.chip.stillRuns k.val = false → Completes (.friezeSlotFire k) s (fun d => d = b.stepFires k.val p f.step)) ∧
      (s.chip.stillRuns k.val = true → Completes (.friezeSlotFire k) s (fun d => d.tck = b.tck ∧
        d.ldr.plans = s.chip.ldr.plans.map (fun q => if q.id = p.id then { q with overran := true } else q) ∧ Frame [.tck, .ldr] s.chip d))) ∧
    (f.kind = 1 → s.chip.mu.inWindow.contains f.target = false → bitOf (s.chip.rg Reg.MEM_NEAR_STATE.FAILED) f.target = false →
      Completes (.friezeSlotFire k) s (fun d => d = b.openWindow f.target ∧ d.mu.inWindow.contains f.target = true))) ∧
  (∀ (s : State) (k : Fin 1024), tget s.chip.ldr.active k.val = none → Completes (.friezeSlotFire k) s (fun d => d = s.chip)) ∧
  (∀ (s : State) (src : Submit) (image : Nat), s.chip.coreServes (s.chip.roleCore 0) = true → TakenUp s.chip src .tck false 0 →
    (s.chip.inDieOrNear image 192 = false) → Completes (.planLoad src image) s (fun d => d.led = s.chip.led ∧ d.ldr = s.chip.ldr)) ∧
  (∀ (s : State) (src : Submit) (image : Nat), s.chip.coreServes (s.chip.roleCore 0) = true → TakenUp s.chip src .tck false 0 →
    s.chip.inDieOrNear image 192 = true → s.chip.inDieOrNear image (parseHeader (s.chip.bytes image 192)).imageLen = true →
    (∀ p ∈ s.chip.mu.flips, overlaps image 192 p.1 32 = false ∧
      overlaps (image + (parseHeader (s.chip.bytes image 192)).stepTable) (32 * (parseHeader (s.chip.bytes image 192)).stepCount) p.1 32 = false) →
    s.chip.anyPoison image 192 = false → headerOk s.chip (s.chip.bytes image 192) (parseHeader (s.chip.bytes image 192)) = true →
    stepsPoisoned s.chip image (parseHeader (s.chip.bytes image 192)) = false →
    (∀ k < (parseHeader (s.chip.bytes image 192)).stepCount,
      stepOk (stepBytes s.chip image (parseHeader (s.chip.bytes image 192)) k) (parseStep (stepBytes s.chip image (parseHeader (s.chip.bytes image 192)) k)) = true ∧
      stepSlotOk s.chip (parseStep (stepBytes s.chip image (parseHeader (s.chip.bytes image 192)) k)) = true) →
    (parseHeader (s.chip.bytes image 192)).period = s.chip.rg Reg.TCK_PERIOD.PERIOD →
    (parseHeader (s.chip.bytes image 192)).slots = (parseHeader (s.chip.bytes image 192)).stepCount →
    s.chip.ldr.plans.length < 256 → unlocked s.chip = false → misfit s.chip (parseHeader (s.chip.bytes image 192)) 0 [] = none →
    Completes (.planLoad src image) s (fun d => d.ldr.plans.length = s.chip.ldr.plans.length + 1 ∧ d.ldr.cmds.length = s.chip.ldr.cmds.length + 1 ∧
      Accepted s.chip d src (.general 0x0101) (s.chip.originDomain src.origin))) ∧
  (∀ (s : State) (src : Submit) (plan : Nat), s.chip.coreServes (s.chip.roleCore 0) = true → TakenUp s.chip src .tck false 0 →
    named s.chip (plan % 65536) = none → Completes (.planUnload src plan) s (fun d => d.led = s.chip.led ∧ d.ldr = s.chip.ldr)) ∧
  (∀ (s : State) (src : Submit) (plan : Nat) (p : Plan), s.chip.coreServes (s.chip.roleCore 0) = true → TakenUp s.chip src .tck false 0 →
    named s.chip (plan % 65536) = some p → unlocked s.chip = false →
    Completes (.planUnload src plan) s (fun d => d.ldr.plans = s.chip.ldr.plans ∧
      d.ldr.cmds = s.chip.ldr.cmds ++ [⟨s.chip.led.nextSeq, plan % 65536, 1, false, []⟩] ∧
      Accepted s.chip d src (.general 0x0102) (s.chip.originDomain src.origin))) ∧
  (∀ (s : State) (src : Submit) (plan : Nat) (p : Plan), s.chip.coreServes (s.chip.roleCore 0) = true → TakenUp s.chip src .tck false 0 →
    named s.chip (plan % 65536) = some p → p.state = .faulted → unlocked s.chip = false →
    misfit s.chip p.hdr (plan % 65536) p.cores = none →
    Completes (.planResume src plan) s (fun d => d.ldr.plans = s.chip.ldr.plans ∧
      d.ldr.cmds = s.chip.ldr.cmds ++ [⟨s.chip.led.nextSeq, plan % 65536, 2, false, []⟩] ∧
      Accepted s.chip d src (.general 0x0103) (s.chip.originDomain src.origin))) ∧
  (∀ (s : State) (src : Submit) (plan : Nat) (p : Plan), s.chip.coreServes (s.chip.roleCore 0) = true → TakenUp s.chip src .tck false 0 →
    named s.chip (plan % 65536) = some p → p.state = .suspended → unlocked s.chip = false →
    misfit s.chip p.hdr (plan % 65536) p.cores = none →
    Completes (.planResume src plan) s (fun d =>
      d.ldr.plans = s.chip.ldr.plans.map (fun q => if q.id = plan % 65536 then { q with cores := grantOf s.chip p.hdr p.cores } else q) ∧
      d.ldr.cmds = s.chip.ldr.cmds ++ [⟨s.chip.led.nextSeq, plan % 65536, 2, false, grantOf s.chip p.hdr p.cores⟩] ∧
      Accepted s.chip d src (.general 0x0103) (s.chip.originDomain src.origin)))

/-- An operator of the menu (R131 to R150): its command, its code and what it makes of an item on a core. -/
structure MenuRow where
  cmd : Nat → Fin 64 → Instr
  code : Nat
  run : Chip → Item → Nat → Nat → WorkOut

/-- The operators that run from memory alone; REDUCE_ARRIVE waits for streams. -/
def opMenu : List MenuRow := [
  ⟨.reduceSum, 0x01, fun d i c q => opReduceSum d i.body (srKey d c) q⟩, ⟨.reduceMax, 0x02, fun d i c q => opReducePick valMax d i.body (srKey d c) q⟩,
  ⟨.reduceMin, 0x03, fun d i c q => opReducePick valMin d i.body (srKey d c) q⟩,
  ⟨.attnPartial, 0x10, fun d i c q => opAttnPartial d i.body i.fn (srKey d c) q⟩, ⟨.dotRows, 0x11, fun d i c q => opDotRows d i.body (srKey d c) q⟩,
  ⟨.convert, 0x20, fun d i c q => opConvert d i.body (srKey d c) q⟩, ⟨.quantEf, 0x21, fun d i c q => opQuantEf d i.body (srKey d c) q⟩,
  ⟨.topk, 0x22, fun d i c q => opTopk d i.body (srKey d c) q⟩, ⟨.topkEf, 0x23, fun d i c q => opTopkEf d i.body (srKey d c) q⟩,
  ⟨.sha256, 0x24, fun d i _ _ => opSha256 d i.body⟩, ⟨.crc32c, 0x25, fun d i _ _ => opCrc32c d i.body⟩,
  ⟨.lz4Pack, 0x26, fun d i _ _ => opLz4Pack d i.body⟩, ⟨.lz4Unpack, 0x27, fun d i _ _ => opLz4Unpack d i.body⟩,
  ⟨.copy, 0x30, fun d i _ _ => opCopy d i.body⟩, ⟨.gather, 0x31, fun d i _ _ => opGather d i.body i.fn⟩,
  ⟨.scatter, 0x32, fun d i _ _ => opScatter d i.body i.fn⟩, ⟨.fill, 0x33, fun _ i _ _ => opFill i.body⟩]

/-- R151 and R157: what every operator's run leaves in the ledger. -/
def Obligations.OperatorsRun : Prop :=
  (∀ o ∈ opMenu, ∀ (s : State) (i : Item) (core : Fin 64), s.chip.item i.seq = some i → canRun s.chip i core.val o.code = true →
    ((workRanges i).any (fun r => (s.chip.dispatch i core.val).unmapped r.addr r.bytes) = false) →
    (o.run (s.chip.opView i core.val) i core.val i.seq).fail = 0 →
    Completes (o.cmd i.seq core) s (fun d => ∃ (j : Item) (r : WorkRun), d.item i.seq = some j ∧ j.state = .running ∧ j.owner = core.val ∧
      j.fin = some (workReply r) ∧ r.core = core.val ∧ r.flags = (o.run (s.chip.opView i core.val) i core.val i.seq).flags ∧
      r.outLen = (o.run (s.chip.opView i core.val) i core.val i.seq).outLen % 2 ^ 32 ∧
      r.result = (o.run (s.chip.opView i core.val) i core.val i.seq).result % 2 ^ 64 ∧ d.ids = s.chip.ids ∧
      d = (s.chip.opView i core.val).applyRun i core.val (o.run (s.chip.opView i core.val) i core.val i.seq))) ∧
  (∀ o ∈ opMenu, ∀ (s : State) (i : Item) (core : Fin 64), s.chip.item i.seq = some i → canRun s.chip i core.val o.code = true →
    ((workRanges i).any (fun r => (s.chip.dispatch i core.val).unmapped r.addr r.bytes) = false) →
    Completes (o.cmd i.seq core) s (fun d =>
      d = (s.chip.opView i core.val).applyRun i core.val (o.run (s.chip.opView i core.val) i core.val i.seq))) ∧
  (∀ o ∈ opMenu, ∀ (s : State) (i : Item) (core : Fin 64), s.chip.item i.seq = some i → canRun s.chip i core.val o.code = true →
    ((workRanges i).any (fun r => (s.chip.dispatch i core.val).unmapped r.addr r.bytes) = true) →
    Completes (o.cmd i.seq core) s (fun d => d = (s.chip.dispatch i core.val).withdraw i.seq Code.MEM_UNMAPPED)) ∧
  (∀ (s : State) (i : Item) (core : Fin 64), s.chip.item i.seq = some i → canRun s.chip i core.val 0x04 = true → i.body.addrA = 0 →
    tget s.chip.wk.arrive i.seq = none → 0 < i.body.contrib → 0 < i.body.len →
    Completes (.reduceArrive i.seq core) s (fun d => ∃ j, d.item i.seq = some j ∧ j.state = .running ∧ j.owner = core.val ∧ j.fin = i.fin ∧
      tget d.wk.arrive i.seq = some [] ∧ d.ids = s.chip.ids))

/-- R128, R130, R152 and R153. -/
def Obligations.WorkItems : Prop :=
  (∀ (s : State) (src : Submit) (x : Desc) (c : Nat), s.chip.ownDesc src.origin x false = true → TakenUp s.chip src .wkc true 1 →
    s.chip.workCheck (s.chip.originFn src.origin) x = some c →
    Completes (.workDescriptorSubmit src x) s (fun d => d.led = s.chip.led ∧ d.wk = s.chip.wk)) ∧
  (∀ (s : State) (src : Submit) (x : Desc), s.chip.ownDesc src.origin x false = true → TakenUp s.chip src .wkc true 1 →
    s.chip.workCheck (s.chip.originFn src.origin) x = none →
    Completes (.workDescriptorSubmit src x) s (fun d =>
      Accepted s.chip d { src with tag := BitVec.ofNat 32 x.tag } .work (s.chip.originDomain src.origin) ∧
      tget d.wk.runs s.chip.led.nextSeq = some {})) ∧
  (∀ (s : State) (i : Item) (r : ReplyData), s.chip.item i.seq = some i → i.fin = some r → i.crec = .none → i.state = .running → i.carried = false →
    s.chip.itemUnverified i.seq = false → s.chip.readsOut i.seq = false → s.chip.hostPaused i = false → s.chip.flag Reg.FLT_SAFE.SAFE = false →
    s.chip.hub.inReset = false → i.kind = .work → s.chip.running .wkc = true → s.chip.over i.plan = false →
    Completes (.itemFinish i.seq) s (fun d => d.item i.seq = some { i with
        reply := r, redoRec := (tget s.chip.wk.runs i.seq).bind redoRecord, crec := .issued } ∧
      (∀ j ∈ s.chip.led.items, j.seq ≠ i.seq → j ∈ d.led.items) ∧ Frame [.led, .regs] s.chip d)) ∧
  (∀ (s : State) (i : Item) (r : WorkRun) (ring : Nat), s.chip.item i.seq = some i → tget s.chip.wk.runs i.seq = some r → i.state = .committed →
    i.redo = true → i.replied = false → r.staged ≠ [] → r.core < 64 → coreUp s.chip r.core = true → i.origin = .ring ring →
    s.chip.flag Reg.PCR_STATE.READY = true → s.chip.hub.inReset = false →
    ∀ core : Fin 64, core.val = r.core →
    Completes (.redoCopyComplete i.seq core) s (fun d => (∃ x ∈ d.owed, x.ring = ring ∧ x.seq = i.seq ∧ x.more = false) ∧
      (∃ q, tget d.wk.runs i.seq = some q ∧ q.staged = [])))

/-- R126, R160 and R163 to R166. -/
def Obligations.CorePool : Prop :=
  (∀ (s : State) (n : Fin 64), s.chip.agentSt (.wc n) = .running → ∀ c ∈ [Instr.wcUnitParity n, .wcQueueParity n, .wcNocCredit n, .wcGateFail n],
    Completes c s (fun d => (d.agentRec (.wc n)).fencing = true ∧ d.led = s.chip.led ∧ d.ldr = s.chip.ldr)) ∧
  (∀ (s : State) (n : Fin 64), ∀ c ∈ [(Instr.wcUnitParity n, Src.WC_UNIT_PARITY n.val), (.wcQueueParity n, Src.WC_QUEUE_PARITY n.val),
      (.wcNocCredit n, Src.WC_NOC_CREDIT n.val), (.wcGateFail n, Src.WC_GATE_FAIL n.val)],
    Completes c.1 s (fun d => d = (s.chip.fault c.2).fenceCore n.val)) ∧
  (∀ (s : State) (n : Fin 64) (u : Fin 4), s.chip.agentSt (.wc n) = .running → s.chip.rg (Reg.WKC_UNIT_SEQ.SEQ n.val u.val) ≠ 0 →
    Completes (.wcItemHang n u) s (fun d => d = (s.chip.fault (Src.WC_ITEM_HANG n.val) u.val).fenceCore n.val ∧
      (d.agentRec (.wc n)).fencing = true ∧ d.led = s.chip.led)) ∧
  (∀ (s : State) (n : Fin 64) (u : Fin 4), s.chip.rg (Reg.WKC_UNIT_SEQ.SEQ n.val u.val) = 0 → Completes (.wcItemHang n u) s (fun d => d = s.chip)) ∧
  (∀ (s : State) (n : Fin 64) (l : Fin 16384) (u : Fin 4), s.chip.wk.obFail = [] →
    Completes (.operandBufferCrc n (l, u)) s (fun d => (∃ x, d.wk.obFail = [x] ∧ x.core = n.val ∧ x.line = l.val ∧ x.count = 1) ∧ d.led = s.chip.led)) ∧
  (∀ (s : State) (n : Fin 64) (l : Fin 16384) (u : Fin 4), Completes (.operandBufferCrc n (l, u)) s (fun d =>
    let b := (s.chip.count (Reg.WKC_OB_REFETCH.COUNT n.val)).fault (Src.WC_OB_CRC n.val) l.val
    let q := b.rg (Reg.WKC_UNIT_SEQ.SEQ n.val u.val)
    let k := ((b.wk.obFail.find? (fun p => p.core = n.val && p.line = l.val && p.seq = q)).map (·.count)).getD 0 + 1
    let c : Chip := { b with wk := { b.wk with obFail :=
      ⟨n.val, l.val, q, k⟩ :: b.wk.obFail.filter (fun p => !(p.core = n.val && p.line = l.val)) } }
    d = if k = 3 then (c.fault (Src.WC_OB_STUCK n.val) l.val).fenceCore n.val else c)) ∧
  (∀ (s : State) (n : Fin 64), s.chip.rg (Reg.WKC_STATE.STATE n.val) = 1 → Completes (.selftest n) s (fun d =>
    d.rg (Reg.WKC_STATE.SELFTEST n.val) = 3 ∧ (∃ x, d.answer = some x ∧ x.taken = true) ∧ Frame [.regs, .answer] s.chip d)) ∧
  (∀ (s : State) (n : Fin 64), s.chip.rg (Reg.WKC_STATE.STATE n.val) ≠ 1 → ∀ c ∈ [Instr.selftest n, .retire n],
    Completes c s (fun d => (∃ x, d.answer = some x ∧ x.taken = false) ∧ Frame [.answer] s.chip d)) ∧
  (∀ (s : State) (n : Fin 64) (p : Bool), s.chip.rg (Reg.WKC_STATE.SELFTEST n.val) = 3 → Completes (.selftestComplete n p) s (fun d =>
    d.rg (Reg.WKC_STATE.SELFTEST n.val) = (if p then 1 else 2) ∧ Frame [.regs] s.chip d)) ∧
  (∀ (s : State) (n : Fin 64), s.chip.rg (Reg.WKC_STATE.STATE n.val) = 1 → Completes (.retire n) s (fun d =>
    d.rg (Reg.WKC_STATE.ROLE n.val) = 2 ∧ d.agentSt (.wc n) = .gated ∧ (∃ x, d.answer = some x ∧ x.taken = true) ∧ d.led = s.chip.led)) ∧
  (∀ (s : State) (n : Fin 64) (id pos : Nat), lowestSpare s.chip = none → Completes (.promote n id pos) s (fun d =>
    (∃ x, d.answer = some x ∧ x.taken = false) ∧ Frame [.answer] s.chip d)) ∧
  (∀ (s : State) (n : Fin 64) (id pos k : Nat) (p : Plan), lowestSpare s.chip = some k → s.chip.plan id = some p → pos < p.cores.length →
    s.chip.rg (Reg.WKC_STATE.STATE (p.cores.getD pos 0)) = 1 → Completes (.promote n id pos) s (fun d =>
    d.plan id = some { p with cores := p.cores.set pos k } ∧ (∃ x, d.answer = some x ∧ x.taken = true) ∧ d.led = s.chip.led)) ∧
  (∀ (s : State) (n : Fin 64) (id pos k : Nat) (p : Plan), lowestSpare s.chip = some k → s.chip.plan id = some p → pos = p.cores.length →
    p.hdr.elastic = true → p.cores.length < p.hdr.wcDesired → Completes (.promote n id pos) s (fun d =>
    d.plan id = some { p with cores := p.cores ++ [k] } ∧ (∃ x, d.answer = some x ∧ x.taken = true) ∧ d.led = s.chip.led))

/-- R169 and R174 to R177 for the eight requests, and R177's timeout. -/
def Obligations.CollectiveRequests : Prop :=
  (∀ p ∈ [(Instr.allReduce, 1), (Instr.reduceScatter, 2), (Instr.allGather, 3), (Instr.broadcast, 4), (Instr.reduce, 5), (Instr.allToAll, 6),
      (Instr.send, 7), (Instr.receive, 8)], ∀ (s : State) (src : Submit) (x : Desc) (n : Nat),
    x.cKind = p.2 → s.chip.groupCore x.cGroup = some n → s.chip.coreServes n = true → TakenUp s.chip src .col true 2 →
    (∀ c, s.chip.reqCheck (s.chip.originFn src.origin) x = some c → Completes (p.1 src x) s (fun d => d.led = s.chip.led ∧ d.coll = s.chip.coll)) ∧
    (s.chip.reqCheck (s.chip.originFn src.origin) x = none → Completes (p.1 src x) s (fun d =>
      Accepted s.chip d { src with tag := BitVec.ofNat 32 x.cTag } .coll (s.chip.originDomain src.origin) ∧
      (let src' : Submit := { src with tag := BitVec.ofNat 32 x.cTag }
       let b := (s.chip.dropHand src.origin).acceptCmd src' .coll x (s.chip.originDomain src.origin) (0x40 + n)
       d = ((b.setCollRun s.chip.led.nextSeq { stream := freeStream b }).collTry s.chip.led.nextSeq).offerEarly s.chip.led.nextSeq)))) ∧
  (∀ (d : Chip) (i : Item) (g : Desc), d.item i.seq = some i → d.group i.body.cGroup = some g → d.collGoes i = true → d.collUnmapped g i.body = false →
    1 ≤ i.body.cKind → i.body.cKind ≤ 6 →
    let ss := List.range (segCount (outerStage d g i.body) g i.body)
    let b := (d.collStart i g).collBegin i g
    let b := if reducing i.body.cKind then ss.foldl (fun (d : Chip) s => d.segUp i g s) b else b
    let b := ss.foldl (fun (d : Chip) s => d.segOn i g s) b
    d.collTry i.seq = (if ss.all (b.segDone i g) then b.collFinish i g else b)) ∧
  (∀ (d : Chip) (i : Item) (g : Desc), d.item i.seq = some i → ∃ j r, (d.collFinish i g).item i.seq = some j ∧ j.fin = some r ∧
    (r.code = Code.OK ∨ r.code = Code.POISONED_DATA)) ∧
  (∀ (s : State) (i : Item), s.chip.item i.seq = some i → i.kind = .coll → i.body.cKind = 7 → i.fin = none → i.state = .accepted → i.crec = .none →
    s.chip.led.lost = false → (s.chip.collRun i.seq).begun = false → Completes (.sendMatchTimeout i.seq) s (fun d => ∃ j, d.item i.seq = some j ∧ j.state = .withdrawn ∧ j.reply.code = Code.TIMEOUT))

/-- R172, R178 and R191 to R206. -/
def Obligations.GroupsAndSlots : Prop :=
  (∀ (s : State) (src : Submit) (a n : Nat), s.chip.groupCore (s.chip.desc a).gId = some n → s.chip.coreServes n = true → TakenUp s.chip src .col false 0 →
    RecordClean s.chip a 64 → groupOk s.chip (s.chip.desc a) = true →
    (s.chip.groupBusy (s.chip.desc a).gId = true → Completes (.groupSet src a) s (fun d => d.led = s.chip.led ∧ d.coll = s.chip.coll)) ∧
    (s.chip.groupBusy (s.chip.desc a).gId = false → Completes (.groupSet src a) s (fun d =>
      Accepted s.chip d src (.general 0x0201) (s.chip.originDomain src.origin) ∧
      (let b := (s.chip.dropHand src.origin).acceptCmd src (.general 0x0201) (genBody 0x0201 src [a]) (s.chip.originDomain src.origin) (0x40 + n)
       d = b.finishWith s.chip.led.nextSeq (setGroup (s.chip.desc a)))))) ∧
  (∀ (s : State) (src : Submit) (g n : Nat), s.chip.groupCore (g % 65536) = some n → s.chip.coreServes n = true → TakenUp s.chip src .col false 0 →
    (s.chip.groupBusy (g % 65536) = true → Completes (.groupClear src g) s (fun d => d.led = s.chip.led ∧ d.coll = s.chip.coll)) ∧
    (s.chip.groupBusy (g % 65536) = false → (s.chip.group (g % 65536)).isSome = true → Completes (.groupClear src g) s (fun d =>
      Accepted s.chip d src (.general 0x0202) (s.chip.originDomain src.origin) ∧
      (let b := (s.chip.dropHand src.origin).acceptCmd src (.general 0x0202) (genBody 0x0202 src [g % 65536]) (s.chip.originDomain src.origin) (0x40 + n)
       d = b.finishWith s.chip.led.nextSeq (clearGroup (g % 65536)))))) ∧
  (∀ (s : State) (src : Submit) (x : Desc), s.chip.coreServes (s.chip.roleCore 0) = true → TakenUp s.chip src .col false 0 → x.w6 = 0 → x.w7 = 0 →
    slotCheck s.chip x = none → Completes (.slotArm src x) s (fun d => d.slotRec x.sSlot = { img := x, state := .arming, armSeq := s.chip.led.nextSeq } ∧
      Accepted s.chip d src (.general 0x0203) (s.chip.originDomain src.origin))) ∧
  (∀ (s : State) (src : Submit) (k : Nat), s.chip.coreServes (s.chip.roleCore 0) = true → TakenUp s.chip src .col false 0 → k ≤ 255 →
    (s.chip.slotRec k).state = .armed ∨ (s.chip.slotRec k).state = .faulted → (s.chip.slotRec k).disarmSeq = 0 → Completes (.slotDisarm src k) s (fun d =>
      (d.slotRec k).disarmSeq = s.chip.led.nextSeq ∧ (d.slotRec k).state = (s.chip.slotRec k).state ∧
      Accepted s.chip d src (.general 0x0204) (s.chip.originDomain src.origin))) ∧
  (∀ (s : State) (k : Fin 256), (s.chip.slotRec k.val).firings = [] → (s.chip.slotRec k.val).state = .armed → (s.chip.slotRec k.val).disarmSeq = 0 →
    Completes (.slotForceDisarm k) s (fun d => (d.slotRec k.val).state = .empty ∧ (d.slotRec k.val).firings = [] ∧ (∃ x, d.answer = some x ∧ x.taken = true))) ∧
  (∀ (s : State) (port : Fin 8) (line : Fin 64) (arg : BitVec 8),
    s.chip.coll.slots.find? (fun p => p.2.state ≠ .empty && p.2.img.sLine = line.val && (s.chip.slotPorts p.2).contains port.val) = none →
    s.chip.svcHolds port.val line.val = false → s.chip.dmaLine port.val line.val = none →
    Completes (.trigger port line arg) s (fun d => d = s.chip.count (Reg.LNK_COUNT.COUNT port.val 8) ∧ d.coll = s.chip.coll ∧ d.led = s.chip.led)) ∧
  (∀ (s : State) (port : Fin 8) (line : Fin 64) (arg : BitVec 8) (k : Nat) (x : SlotRec),
    s.chip.coll.slots.find? (fun p => p.2.state ≠ .empty && p.2.img.sLine = line.val && (s.chip.slotPorts p.2).contains port.val) = some (k, x) →
    s.chip.slotRec k = x → x.state = .armed → s.chip.running .col = true → (s.chip.agentRec (.block .col)).fencing = false →
    expected x port.val arg.toNat = true → (x.firings.any (fun f => f.number = (tget x.next port.val).getD 0)) = false →
    Completes (.trigger port line arg) s (fun d => (d.slotRec k).firing = x.firing + 1 ∧ (d.slotRec k).firings.length = x.firings.length + 1 ∧
      tget (d.slotRec k).next port.val = some ((tget x.next port.val).getD 0 + 1))) ∧
  (∀ (s : State) (port : Fin 8) (line : Fin 64) (arg : BitVec 8) (k : Nat) (x : SlotRec),
    s.chip.coll.slots.find? (fun p => p.2.state ≠ .empty && p.2.img.sLine = line.val && (s.chip.slotPorts p.2).contains port.val) = some (k, x) →
    s.chip.slotRec k = x → x.state = .armed → s.chip.running .col = true → (s.chip.agentRec (.block .col)).fencing = false →
    expected x port.val arg.toNat = true → (x.firings.any (fun f => f.number = (tget x.next port.val).getD 0)) = true →
    Completes (.trigger port line arg) s (fun d => d = s.chip.setSlot k { x with
      firings := x.firings.map (fun f => if f.number = (tget x.next port.val).getD 0 then { f with members := port.val :: f.members } else f)
      next := tput x.next port.val ((tget x.next port.val).getD 0 + 1), dropping := x.dropping.filter (· ≠ port.val) })) ∧
  (∀ (s : State) (m st o : Nat) (bs : List (BitVec 8)) (p : Bool), st < 256 → (s.chip.slotRec st).state = .empty →
    Completes (.streamFrame m st o bs p none) s (fun d => d = (s.chip.count Reg.COL_ORPHANS.COUNT).fault Src.COL_STREAM_ORPHAN st ∧
      d.coll = s.chip.coll ∧ d.led = s.chip.led ∧ d.mem = s.chip.mem)) ∧
  (∀ (s : State) (m st o : Nat) (bs : List (BitVec 8)) (p : Bool) (i : Item), 256 ≤ st → st < 65536 → s.chip.streamItem st = some i →
    let cs := (tget s.chip.wk.arrive i.seq).getD []
    let data := (bs.map (·.toNat)).take (packedBytes i.body.fmtB i.body.len - 256 * o)
    data ≠ [] → heldBytes cs m (256 * o) data.length = 0 → i.fin = none → i.crec = .none →
    (cs.any (fun c => c.port = m) = true ∨ cs.length < i.body.contrib) →
    Completes (.streamFrame m st o bs p none) s (fun d =>
      d = { s.chip with wk := { s.chip.wk with arrive := tput s.chip.wk.arrive i.seq (addBytes cs m (256 * o) data p) } }.arriveDone i.seq i.owner)) ∧
  (∀ (s : State) (m st o : Nat) (bs : List (BitVec 8)) (poison : Bool) (f : Firing), st < 256 → (s.chip.slotRec st).state = .armed →
    (s.chip.slotRec st).dropping.contains m = false →
    (s.chip.slotRec st).firings.find? (fun f => f.members.contains m &&
      !f.has m 0 (packedBytes (s.chip.slotRec st).img.sFmtIn (s.chip.slotRec st).img.sCount)) = some f →
    (bs.map (·.toNat)).take (packedBytes (s.chip.slotRec st).img.sFmtIn (s.chip.slotRec st).img.sCount - 256 * o) ≠ [] →
    heldBytes f.contribs m (256 * o) ((bs.map (·.toNat)).take (packedBytes (s.chip.slotRec st).img.sFmtIn (s.chip.slotRec st).img.sCount - 256 * o)).length = 0 →
    (contributors (s.chip.slotRec st).img (s.chip.slotPorts (s.chip.slotRec st))).contains m = true →
    Completes (.streamFrame m st o bs poison none) s (fun d => ∃ g ∈ (d.slotRec st).firings, g.number = f.number ∧
      g.contribs = addBytes f.contribs m (256 * o)
        ((bs.map (·.toNat)).take (packedBytes (s.chip.slotRec st).img.sFmtIn (s.chip.slotRec st).img.sCount - 256 * o)) poison)) ∧
  (∀ (s : State) (k : Fin 256) (n lat : Nat) (f : Firing) (i : Item), (s.chip.slotRec k.val).firings.find? (fun f => f.number = n) = some f →
    s.chip.firingItem k.val n = some i → s.chip.item i.seq = some i → slotGranules (s.chip.slotRec k.val).img ≤ f.written.length → i.crec = .none → s.chip.unverified k.val n = false →
    s.chip.running .col = true → s.chip.over i.plan = false →
    Completes (.firingComplete k n lat) s (fun d => ∃ j, d.item i.seq = some j ∧ j.crec = .issued ∧ j.reply = firingReply (s.chip.slotRec k.val) (s.chip.slotPorts (s.chip.slotRec k.val)).length k.val f ∧
      d.ids = s.chip.ids)) ∧
  (∀ (s : State) (k : Fin 256) (n : Nat) (f : Firing), (s.chip.slotRec k.val).firings.find? (fun f => f.number = n) = some f →
    f.full (s.chip.slotRec k.val).img (s.chip.slotPorts (s.chip.slotRec k.val)) = false →
    Completes (.firingTimeout k n) s (fun d => (d.slotRec k.val).state = .faulted))

/-- R215, R216, R222, R223, R226, R228, R240 and R251, each command in the device's hand. `dropHand` is the chip once the command has left its ring. -/
def Obligations.KvCommands : Prop :=
  (∀ (s : State) (src : Submit) (x : Desc), TakenUp s.chip src .kva true 0 → x.w4 = 0 → x.w5 = 0 → x.w6 = 0 → x.w7 = 0 →
    (seqBad x = true ∨ seqOver x = true ∨ (s.chip.seqRec x.qSeq).isSome = true →
      Completes (.seqOpen src x) s (fun d => d.led = s.chip.led ∧ d.kv = s.chip.kv ∧ d.mem = s.chip.mem)) ∧
    (seqBad x = false → seqOver x = false → s.chip.seqRec x.qSeq = none → (s.chip.dir s.chip.kvActive x.qSeq 0).cap = 0 →
      (∃ r, (s.chip.dropHand src.origin).newRuns x x.qLayers 0 = .ok r) →
      Completes (.seqOpen src x) s (fun d => Accepted s.chip d src (.general 0x0301) (s.chip.originDomain src.origin) ∧
        (s.chip.led.items = [] → s.chip.commits = true → ∃ r, d.seqRec x.qSeq = some r ∧ r.state = .ready)))) ∧
  (∀ (s : State) (src : Submit) (n : Nat) (r : SeqRec), TakenUp s.chip src .kva true 0 → s.chip.seqRec (n % 65536) = some r →
    (r.state = .closing → Completes (.seqClose src n) s (fun d => d.led = s.chip.led ∧ d.kv = s.chip.kv ∧ d.mem = s.chip.mem)) ∧
    (r.state = .ready → n % 65536 < 16384 → Completes (.seqClose src n) s (fun d => Accepted s.chip d src (.general 0x0302) (s.chip.originDomain src.origin) ∧
      (s.chip.led.items = [] → s.chip.commits = true → d.seqRec (n % 65536) = none)))) ∧
  (∀ (s : State) (src : Submit) (a sa n l b k t : Nat) (r : SeqRec), TakenUp s.chip src .kva true 0 → n < 16384 → s.chip.seqRec n = some r →
    (r.state = .closing ∨ t > 3 ∨ a % 64 ≠ 0 ∨ sa % 64 ≠ 0 ∨ l ≥ r.img.qLayers ∨ b ≥ 65536 ∨ k = 0 ∨ k > 64 ∨ tailBad s.chip ⟨a, sa, n, l, b, k, t⟩ = true →
      Completes (.kvPut src a sa n l b k t) s (fun d => d.led = s.chip.led ∧ d.kv = s.chip.kv ∧ d.mem = s.chip.mem)) ∧
    (r.state = .ready → t ≤ 3 → a % 64 = 0 → sa = 0 → l < r.img.qLayers → b < 65536 → 0 < k → k ≤ 64 →
      s.chip.unitOk (s.chip.originFn src.origin) a (blockBytes r.img) false = true → tailBad s.chip ⟨a, sa, n, l, b, k, t⟩ = false →
      (s.chip.findCells (putTier r.img t) (cellsOf (blockBytes r.img))).isSome = true → b < (s.chip.dir s.chip.kvActive n l).cap → r.img.qSeq = n →
      Completes (.kvPut src a sa n l b k t) s (fun d => Accepted s.chip d src (.general 0x0303) (s.chip.originDomain src.origin)))) ∧
  (∀ (d : Chip) (p : KvPut) (addr i : Nat), d.entIndex p.s p.layer p.block = some i →
    storeBlock p addr d = (((d.dropEntry p.s i).setEnt d.kvActive i ⟨addr, 1, p.tokens, p.sumSrc = 0, 0, p.s, p.layer, p.block⟩).syncHigh
      p.s p.layer).kvSettle) ∧
  (∀ (s : State) (src : Submit) (n l lo hi : Nat) (r : SeqRec), TakenUp s.chip src .kva true 0 → n < 16384 → s.chip.seqRec n = some r →
    (r.state = .closing ∨ (l ≠ 0xFFFF ∧ l ≥ r.img.qLayers) ∨ hi < lo →
      Completes (.kvDrop src n l lo hi) s (fun d => d.led = s.chip.led ∧ d.kv = s.chip.kv ∧ d.mem = s.chip.mem)) ∧
    (r.state = .ready → l = 0xFFFF ∨ l < r.img.qLayers → lo ≤ hi → hi ≤ 65536 →
      Completes (.kvDrop src n l lo hi) s (fun d => Accepted s.chip d src (.general 0x0304) (s.chip.originDomain src.origin) ∧
        (let b := (s.chip.dropHand src.origin).acceptCmd src (.general 0x0304) (genBody 0x0304 src [n + l * 2 ^ 16 + lo * 2 ^ 32, hi])
           (s.chip.originDomain src.origin)
         d = b.finishWith s.chip.led.nextSeq (dropBlocks n l lo hi))))) ∧
  (∀ (s : State) (src : Submit) (a : Nat), TakenUp s.chip src .kva false 0 → RecordClean s.chip a 64 →
    (svcBad (s.chip.desc a) = true ∨ (s.chip.svc (s.chip.desc a).vService).isSome = true →
      Completes (.svcBind src a) s (fun d => d.led = s.chip.led ∧ d.kv = s.chip.kv)) ∧
    (svcBad (s.chip.desc a) = false → s.chip.svc (s.chip.desc a).vService = none →
      (named s.chip (s.chip.desc a).vPlan).any (fun p => p.state ≠ .loading && p.hdr.kind = 2) = true →
      (portsOf (s.chip.desc a).vMask).any (fun p => s.chip.slotHolds p (s.chip.desc a).vLine || s.chip.svcHolds p (s.chip.desc a).vLine) = false →
      ringsOk s.chip (s.chip.desc a) = true →
      Completes (.svcBind src a) s (fun d => Accepted s.chip d src (.general 0x0305) (s.chip.originDomain src.origin) ∧
        (s.chip.led.items = [] → s.chip.commits = true → ∃ v, d.svc (s.chip.desc a).vService = some v ∧ v.state = .bound ∧
          v.pending = [] ∧ v.queue = [])))) ∧
  (∀ (s : State) (src : Submit) (n : Nat) (v : SvcRec), TakenUp s.chip src .kva false 0 → s.chip.svc (n % 256) = some v →
    (v.state = .unbinding → Completes (.svcUnbind src n) s (fun d => d.led = s.chip.led ∧ d.kv = s.chip.kv)) ∧
    (v.state = .bound → s.chip.led.lost = false → Completes (.svcUnbind src n) s (fun d =>
      Accepted s.chip d src (.general 0x0306) (s.chip.originDomain src.origin)))) ∧
  (∀ (s : State) (src : Submit), TakenUp s.chip src .kva false 0 →
    Completes (.mapCompact src) s (fun d => Accepted s.chip d src (.general 0x0307) (s.chip.originDomain src.origin) ∧
      (s.chip.compactState = 0 → s.chip.kv.running = none → s.chip.kv.waiting = [] → d.compactState = 1 ∧
        d.kv.running = some s.chip.led.nextSeq ∧ d.kv.log = [] ∧
        d.rg Reg.KVA_MAP_STATE.ABANDONS = 0) ∧
      (s.chip.compactState ≠ 0 → d.kv.waiting = s.chip.kv.waiting ++ [s.chip.led.nextSeq] ∧ d.compactState = s.chip.compactState)))

/-- R229, R244 and R246 to R254. -/
def Obligations.KvEngines : Prop :=
  (∀ (s : State) (p : Fin 8) (l : Fin 64) (a : BitVec 8),
    s.chip.kv.svcs.find? (fun q => q.2.img.vLine = l.val && bitOf q.2.img.vMask p.val) = none → s.chip.slotHolds p.val l.val = false →
    s.chip.dmaLine p.val l.val = none →
    Completes (.query p l a) s (fun d => d = s.chip.count (Reg.LNK_COUNT.COUNT p.val 8) ∧ d.kv = s.chip.kv ∧ d.led = s.chip.led)) ∧
  (∀ (s : State) (p : Fin 8) (l : Fin 64) (a : BitVec 8) (n : Nat) (v : SvcRec),
    s.chip.kv.svcs.find? (fun q => q.2.img.vLine = l.val && bitOf q.2.img.vMask p.val) = some (n, v) → s.chip.svc n = some v →
    (v.pending.contains (p.val, a.toNat) = true → Completes (.query p l a) s (fun d =>
      d = (s.chip.count Reg.KVA_QUERY_ERRORS.COUNT).fault Src.KVA_QUERY_SEQ (n * 256 + a.toNat) ∧ d.kv = s.chip.kv ∧ d.led = s.chip.led)) ∧
    (v.pending.contains (p.val, a.toNat) = false → a.toNat < v.img.vEntries → v.state = .bound → s.chip.running .kva = false →
      Completes (.query p l a) s (fun d => d.svc n = some { v with pending := v.pending ++ [(p.val, a.toNat)], queue := v.queue ++ [(p.val, a.toNat)] } ∧
        Frame [.kv] s.chip d))) ∧
  (∀ (s : State) (p : Fin 8) (l : Fin 64) (a : BitVec 8) (n : Nat) (v : SvcRec),
    s.chip.kv.svcs.find? (fun q => q.2.img.vLine = l.val && bitOf q.2.img.vMask p.val) = some (n, v) →
    v.pending.contains (p.val, a.toNat) = false → a.toNat < v.img.vEntries → v.state ≠ .unbinding →
    Completes (.query p l a) s (fun d =>
      d = (s.chip.setSvc n { v with pending := v.pending ++ [(p.val, a.toNat)], queue := v.queue ++ [(p.val, a.toNat)] }).queriesTake n)) ∧
  (∀ (d : Chip) (n port entry : Nat) (v : SvcRec), d.svc n = some v →
    let a := entryAddr v.img port entry
    let b := d.noteRead a 64
    let c := b.setSvc n { v with queue := v.queue.filter (· ≠ (port, entry)) }
    (∀ code, c.queryCheck n v.img (b.desc a) (b.anyPoison a 64) = some code →
      d.queryTake n port entry = c.queryRefuse n port entry (b.desc a) code (b.anyPoison a 64)) ∧
    (c.queryCheck n v.img (b.desc a) (b.anyPoison a 64) = none →
      let e := c.arise ⟨.plan v.img.vPlan, (b.desc a).yTag, v.img.vPlan, .service n (port * 256 + entry), 0x200, 0x51,
        .query n (port * 256 + entry), b.desc a, none⟩
      d.queryTake n port entry = e.queryStart e.lastSeq)) ∧
  (∀ s : State, s.chip.tck.frames < s.chip.kv.swept + 2 ^ s.chip.rg Reg.KVA_HEAT_CFG.DECAY ∨ s.chip.kvaUp = false →
    Completes .heatSweep s (fun d => d = s.chip)) ∧
  (∀ s : State, s.chip.kv.swept + 2 ^ s.chip.rg Reg.KVA_HEAT_CFG.DECAY ≤ s.chip.tck.frames → s.chip.kvaUp = true →
    Completes .heatSweep s (fun d => d.led.items = s.chip.led.items ∧ d.kv.seqs = s.chip.kv.seqs ∧ d.kv.swept = s.chip.tck.frames ∧
      (∃ more, d.kv.moveQ = s.chip.kv.moveQ ++ more ∧ (s.chip.kv.moveQ.length ≤ 4096 → d.kv.moveQ.length ≤ 4096)) ∧
      d = s.chip.kv.seqs.foldl (fun (d : Chip) q => (List.range q.2.img.qLayers).foldl (fun (d : Chip) l =>
        (List.range (d.dir d.kvActive q.1 l).cap).foldl (fun (d : Chip) n => d.coolEntry q.1 l n) d) d)
        { s.chip with kv := { s.chip.kv with swept := s.chip.tck.frames } })) ∧
  (∀ (s : State) (m : KvMove) (q : List KvMove), s.chip.kv.moveQ = m :: q →
    (moverIdle s.chip = false → Completes .blockMove s (fun d => d = s.chip)) ∧
    (moverIdle s.chip = true → (s.chip.block m.block.s m.block.layer m.block.block).state ≠ 1 →
      Completes .blockMove s (fun d => d.kv = { s.chip.kv with moveQ := q } ∧ d.led = s.chip.led ∧ d.mem = s.chip.mem)) ∧
    (∀ u, moverIdle s.chip = true → (s.chip.block m.block.s m.block.layer m.block.block).state = 1 →
      tierOf (s.chip.block m.block.s m.block.layer m.block.block).addr ≠ m.tier →
      s.chip.findUnits (tierPool m.tier) (s.chip.blockCells m.block.s) = some u →
      Completes .blockMove s (fun d => d.kv.moveQ = q ∧ d.led = s.chip.led ∧ d.mem = s.chip.mem ∧
        d.kv.moving = some ⟨m.block, m.tier, (s.chip.block m.block.s m.block.layer m.block.block).addr, u, s.chip.blockCells m.block.s, 0⟩))) ∧
  (∀ (s : State) (m : KvMoving), s.chip.kv.moving = some m →
    (s.chip.seqRec m.block.s = none →
      Completes .blockMoveComplete s (fun d => d.kv.moving = none ∧ d.led = s.chip.led ∧ d.mem = s.chip.mem)) ∧
    (∀ (r : SeqRec) (i : Nat), s.chip.seqRec m.block.s = some r → s.chip.entIndex m.block.s m.block.layer m.block.block = some i →
      (s.chip.kv.moveLeft < 2 * blockBytes r.img - m.done → Completes .blockMoveComplete s (fun d => d = s.chip)) ∧
      (2 * blockBytes r.img - m.done ≤ s.chip.kv.moveLeft → (s.chip.ent s.chip.kvActive i).addr ≠ m.old →
        Completes .blockMoveComplete s (fun d => d.kv.moving = none ∧ d.led = s.chip.led ∧ d.mem = s.chip.mem)) ∧
      (2 * blockBytes r.img - m.done ≤ s.chip.kv.moveLeft → (s.chip.ent s.chip.kvActive i).state = 1 →
        (s.chip.ent s.chip.kvActive i).addr = m.old →
        s.chip.writeLost (s.chip.unitAddr (tierPool m.tier) m.cell) (blockBytes r.img) = false →
        Completes .blockMoveComplete s (fun d => d.kv.moving = none ∧ d.led.items = s.chip.led.items ∧
          ∃ x ∈ d.mu.reclaim, x.h = s.chip.led.nextSeq - 1)))) ∧
  (∀ s : State, Completes .movePause s (fun d => d.kv = { s.chip.kv with paused := true } ∧ (∃ x, d.answer = some x ∧ x.taken = true) ∧
    Frame [.kv, .answer] s.chip d)) ∧
  (∀ s : State, Completes .moveResume s (fun d => d.kv = { s.chip.kv with paused := false } ∧ (∃ x, d.answer = some x ∧ x.taken = true) ∧
    Frame [.kv, .answer] s.chip d)) ∧
  (∀ s : State, s.chip.kvaUp = true → s.chip.compactState = 1 → Completes .compactionCopyDone s (fun d => d.compactState = 2 ∧
    d.led.items = s.chip.led.items ∧ d = s.chip.clearInactive.packRuns.1.sr Reg.KVA_MAP_STATE.COMPACT 2)) ∧
  (∀ s : State, s.chip.kvaUp = true → s.chip.compactState = 2 → Completes .compactionDrainDone s (fun d => d.compactState = 3 ∧
    d.kv = { s.chip.kv with log := s.chip.kv.log.drop (s.chip.kv.log.length - 1024) } ∧ d.kv.log.length ≤ 1024 ∧
    Frame [.regs, .kv] s.chip d)) ∧
  (∀ s : State, s.chip.kvaUp = true → s.chip.compactState = 3 → s.chip.kvActive < 2 → Completes .compactionSwitchDone s (fun d => d.ids = s.chip.ids ∧
    (s.chip.kv.running = none → d.compactState = 4 ∧ d.kvActive = 1 - s.chip.kvActive ∧ d.kv.log = [] ∧ d.kv.running = none ∧
      d.kv.retireH = s.chip.led.nextSeq - 1 ∧ d.led.items = s.chip.led.items))) ∧
  (∀ s : State, s.chip.compactState = 0 ∨ s.chip.compactState = 4 → Completes .compactAbandon s (fun d =>
    (∃ x, d.answer = some x ∧ x.taken = false) ∧ Frame [.answer] s.chip d)) ∧
  (∀ s : State, s.chip.compactState ≠ 0 → s.chip.compactState ≠ 4 → (s.chip.kv.running.isSome = true ∨ s.chip.kv.waiting = []) →
    Completes .compactAbandon s (fun d => d.compactState = 0 ∧
    d.kv.restart = some (s.chip.tick + 1024) ∧ d.kv.log = [] ∧ d.rg Reg.KVA_MAP_STATE.ABANDONS = s.chip.rg Reg.KVA_MAP_STATE.ABANDONS ∧
    (∃ x, d.answer = some x ∧ x.taken = true) ∧ Frame [.kv, .regs, .answer] s.chip d)) ∧
  (∀ (s : State) (t : Nat), s.chip.kv.restart = some t → t ≤ s.chip.tick → s.chip.kvaUp = true → s.chip.compactState = 0 →
    Completes .compactionRestart s (fun d => d.compactState = 1 ∧ d.kv.restart = none ∧ d.kv.log = [] ∧ Frame [.kv, .regs] s.chip d))

/-- R274 and R289 to R295, each command in the device's hand. -/
def Obligations.MemoryCommands : Prop :=
  (∀ (s : State) (src : Submit) (a n t p : Nat), TakenUp s.chip src .mem false 0 → pageRangeBad a n = true →
    ∀ c ∈ [Instr.pageMap src a n t p, .pageUnmap src a n, .pagePin src a n t p],
      Completes c s (fun d => d.led = s.chip.led ∧ d.mu = s.chip.mu ∧ d.mem = s.chip.mem)) ∧
  (∀ (s : State) (src : Submit) (a n t p : Nat), TakenUp s.chip src .mem false 0 → pageRangeBad a n = false → t ≤ 2 → p ≤ 1 →
    s.chip.badPage a n (fun e => e = noPage) = none → (s.chip.someUnits t n).isSome = true →
    Completes (.pageMap src a n t p) s (fun d => Accepted s.chip d src (.general 0x0401) (s.chip.originDomain src.origin))) ∧
  (∀ (s : State) (src : Submit) (a n : Nat), TakenUp s.chip src .mem false 0 → pageRangeBad a n = false →
    s.chip.badPage a n (fun e => e.state ≠ .unmapped) = none → s.chip.ckp.jobs = [] →
    Completes (.pageUnmap src a n) s (fun d => Accepted s.chip d src (.general 0x0402) (s.chip.originDomain src.origin))) ∧
  (∀ (s : State) (src : Submit) (a n t p : Nat), TakenUp s.chip src .mem false 0 → pageRangeBad a n = false → t ≤ 2 → p ≤ 1 →
    s.chip.badPage a n (fun e => e.state ≠ .unmapped) = none → (p = 1 → (s.chip.someUnits t n).isSome = true) →
    Completes (.pagePin src a n t p) s (fun d => Accepted s.chip d src (.general 0x0403) (s.chip.originDomain src.origin))) ∧
  (∀ (s : State) (src : Submit) (a n f : Nat) (v : Word), TakenUp s.chip src .mem false 0 → f ≤ 1 →
    (a % 0x1_0000 ≠ 0 ∨ n = 0 ∨ n % 0x1_0000 ≠ 0 ∨ s.chip.inDieOrNear a n = false →
      Completes (.memInit src a n v f) s (fun d => d.led = s.chip.led ∧ d.mu = s.chip.mu ∧ d.mem = s.chip.mem)) ∧
    (a % 0x1_0000 = 0 → 0 < n → n % 0x1_0000 = 0 → s.chip.inDieOrNear a n = true → deviceOwned a n = false → s.chip.poolsOverlap a n = false →
      (f = 0 → s.chip.firstInit a n = none) →
      Completes (.memInit src a n v f) s (fun d => Accepted s.chip d src (.general 0x0404) (s.chip.originDomain src.origin)))) ∧
  (∀ (d : Chip) (p n k : Nat), k < n → (d.lost ((d.pte (p + k)).tpage * 0x1_0000) = false → ((mapPages p n d).pte (p + k)).state = .valid) ∧
    (d.lost ((d.pte (p + k)).tpage * 0x1_0000) = true → ((mapPages p n d).pte (p + k)).state = .poisoned) ∧ (unmapPages p n d).pte (p + k) = noPage ∧
    ((pinPages p n 0 0 d).pte (p + k)).pin = false ∧ ∀ t ≤ 2, ((pinPages p n t 1 d).pte (p + k)).pin = true)

/-- R261, R266, R268, R270, R272, R277, R281 to R287, R289, R292, R293 and R297. -/
def Obligations.MemoryEngines : Prop :=
  (∀ (s : State) (w : Nat) (e : MergeEntry), s.chip.mergeEntry (w / 32 * 32) = some e → e.bytes.length = 32 →
    Completes (.mergeEntryFlush w) s (fun d => d.mergeEntry (w / 32 * 32) = none ∧ w / 32 * 32 ∉ d.mem.poison ∧ Frame [.mem, .mu, .regs] s.chip d)) ∧
  (∀ (s : State) (w : Nat) (e : MergeEntry), s.chip.mergeEntry (w / 32 * 32) = some e → e.bytes.length ≠ 32 → s.chip.mu.flips = [] →
    Completes (.mergeEntryFlush w) s (fun d => d.mergeEntry (w / 32 * 32) = none ∧ d.mem.poison = s.chip.mem.poison ∧
      Frame (.mem :: .mu :: hubParts) s.chip d)) ∧
  (∀ (s : State) (w : Nat), s.chip.mergeEntry (w / 32 * 32) = none → Completes (.mergeEntryFlush w) s (fun d => d = s.chip)) ∧
  (∀ s : State, s.chip.running .mem = false → Completes .patrolScrub s (fun d => d = s.chip)) ∧
  (∀ (s : State) (q : Nat), s.chip.running .mem = true → s.chip.rg Reg.MEM_SCRUB_CFG.RATE = 1 → s.chip.mu.flips = [] →
    nextInit s.chip.mu.initPlinth 0 (s.chip.mu.scrub0 / 0x1_0000) = some q → max s.chip.mu.scrub0 q + 1024 < 0x4000_0000 →
    Completes .patrolScrub s (fun d => d.mu.scrub0 = max s.chip.mu.scrub0 q + 1024 ∧ d.mem = s.chip.mem ∧ d.led = s.chip.led)) ∧
  (∀ s : State, s.chip.running .mem = true → Completes .patrolScrub s (fun d =>
    d = (s.chip.scrubDie 0 (s.chip.rg Reg.MEM_SCRUB_CFG.RATE)).scrubDie 1 (s.chip.rg Reg.MEM_SCRUB_CFG.RATE))) ∧
  (∀ s : State, Completes .scrubPass s (fun d => d.mu = { s.chip.mu with scrub0 := 0, scrub1 := 0 } ∧ (∃ x, d.answer = some x ∧ x.taken = true) ∧
    Frame [.mu, .answer] s.chip d)) ∧
  (∀ (s : State) (b : Fin 512), s.chip.mu.filling.contains b.val = true → s.chip.flag Reg.GLB_LEDGER_STATE.REBUILD = false →
    Completes (.spareBankReady b) s (fun d => b.val ∉ d.mu.filling ∧ (∀ c ∈ d.attn, c.why ≠ .plinthBank b.val) ∧
      Frame [.mu, .attn, .attnServed, .regs] s.chip d)) ∧
  (∀ (s : State) (v : BitVec 32), inGeneral (s.chip.rg Reg.MEM_FLIP_ADDR.ADDR * 32) = true →
    Completes (.memFlipArm v) s (fun d => d.rg Reg.MEM_FLIP_CTRL.ARM = 1 ∧ d.rg Reg.MEM_FLIP_CTRL.DONE = 0 ∧
      d.rg Reg.MEM_FLIP_CTRL.CHECK_MASK = bitsOf v.toNat 0 10 ∧ d.rg Reg.MEM_FLIP_CTRL.DATA_BIT = bitsOf v.toNat 16 8 ∧
      d.rg Reg.MEM_FLIP_CTRL.DATA_EN = bitsOf v.toNat 24 1 ∧ Frame [.regs] s.chip d)) ∧
  (∀ (s : State) (v : BitVec 32), inGeneral (s.chip.rg Reg.MEM_FLIP_ADDR.ADDR * 32) = false →
    Completes (.memFlipArm v) s (fun d => d.rg Reg.MEM_FLIP_CTRL.ARM = s.chip.rg Reg.MEM_FLIP_CTRL.ARM ∧ Frame [.regs] s.chip d)) ∧
  (∀ (s : State) (a : Nat), (isSram a = true → isStaging a = true → Completes (.sramCrc a) s (fun d => a / 64 * 64 ∈ d.mem.poison ∧ d.led = s.chip.led)) ∧
    (isSram a = true → isStaging a = false → isShared a = false → isLocal a = false → Completes (.sramCrc a) s (fun d =>
      d = (s.chip.count (Reg.MEM_COUNT.COUNT 8)).fault Src.SRAM_CRC ((a - 0x1_0000_0000) / 64))) ∧
    (isSram a = false → Completes (.sramCrc a) s (fun d => d = s.chip))) ∧
  (∀ (s : State) (a : Nat), (isNear a = true → Completes (.nearCrc a) s (fun d => a / 128 * 128 ∈ d.mem.poison ∧ d.led = s.chip.led)) ∧
    (isNear a = false → Completes (.nearCrc a) s (fun d => d = s.chip))) ∧
  (∀ (s : State) (a : Nat), isNear a = true → (s.chip.mu.edcSeen.filter (fun p => p.1 = nearChan a)).length < 15 →
    Completes (.nearCrc a) s (fun d =>
      let b := (((s.chip.setPoison (a / 128 * 128) true).count (Reg.MEM_COUNT.COUNT 10) 2).count (Reg.MEM_COUNT.COUNT 11)).fault Src.NEAR_CRC (nearChan a)
      d = { b with mu := { b.mu with edcSeen := ((nearChan a, b.tick) :: b.mu.edcSeen).filter (fun p => b.tick - p.2 < 1024) } })) ∧
  (∀ (s : State) (g : Fin 24), s.chip.mu.inWindow.contains g.val = true →
    Completes (.retrainWindowEnd g true) s (fun d => g.val ∉ d.mu.inWindow ∧ tget d.mu.retrainFails g.val = some 0 ∧ Frame [.mu] s.chip d) ∧
    ((tget s.chip.mu.retrainFails g.val).getD 0 = 0 →
      Completes (.retrainWindowEnd g false) s (fun d => g.val ∉ d.mu.inWindow ∧ tget d.mu.retrainFails g.val = some 1 ∧ Frame [.mu] s.chip d)) ∧
    (0 < (tget s.chip.mu.retrainFails g.val).getD 0 →
      Completes (.retrainWindowEnd g false) s (fun d => bitOf (d.rg Reg.MEM_NEAR_STATE.FAILED) g.val = true ∧ d.led = s.chip.led))) ∧
  (∀ (s : State) (g : Fin 24), Completes (.retireChannel g) s (fun d => bitOf (d.rg Reg.MEM_NEAR_STATE.FAILED) g.val = true ∧
    (∃ x, d.answer = some x ∧ x.taken = true) ∧ d.led = s.chip.led)) ∧
  (∀ (s : State) (k : Fin 8), ∀ c ∈ [Instr.quarryDeviceFail k, .retireQuarry k], Completes c s (fun d =>
    bitOf (d.rg Reg.MEM_QUARRY_STATE.FAILED) k.val = true ∧ d.led.items = s.chip.led.items ∧ d.led.nextSeq = s.chip.led.nextSeq)) ∧
  (∀ (s : State) (k : Fin 8) (u : Nat), Completes (.cxlDeviceTrained k u) s (fun d => bitOf (d.rg Reg.MEM_QUARRY_STATE.PRESENT) k.val = true ∧
    d.rg (Reg.MEM_QUARRY_CAP.UNITS k.val) = min u 1024 ∧ Frame [.regs] s.chip d)) ∧
  (∀ (s : State) (p : Fin 16777216), Completes (.translationMiss p) s (fun d =>
    let b := s.chip.xlatTouch p.val 0
    d = if b.anyPoison ((s.chip.rg Reg.MEM_PT_BASE.BASE + 8 * p.val) / 128 * 128) 128 then
      (List.range 16).foldl (fun (d : Chip) k => if (d.pte (p.val / 16 * 16 + k)).state = .unmapped then d
        else d.setPte (p.val / 16 * 16 + k) { d.pte (p.val / 16 * 16 + k) with state := .poisoned }) (b.fault Src.PT_POISON p.val)
      else b)) ∧
  (∀ (s : State) (p : Fin 16777216), s.chip.anyPoison ((s.chip.rg Reg.MEM_PT_BASE.BASE + 8 * p.val) / 128 * 128) 128 = false →
    s.chip.mu.xlat.length < 16384 →
    Completes (.translationMiss p) s (fun d => tget d.mu.xlat p.val = some ((tget s.chip.mu.xlat p.val).getD 0) ∧ Frame [.mu] s.chip d)) ∧
  (∀ s : State, s.chip.tck.frames < s.chip.mu.swept + 2 ^ s.chip.rg Reg.MEM_MIG_CFG.DECAY ∨ s.chip.running .mem = false →
    Completes .migrationSweep s (fun d => d = s.chip)) ∧
  (∀ s : State, s.chip.mu.swept + 2 ^ s.chip.rg Reg.MEM_MIG_CFG.DECAY ≤ s.chip.tck.frames → s.chip.running .mem = true →
    Completes .migrationSweep s (fun d => d.mu.swept = s.chip.tck.frames ∧ d.led = s.chip.led ∧
      d = (s.chip.mu.pt.map (·.1)).foldl (fun (d : Chip) n => d.sweepPage n) { s.chip with mu := { s.chip.mu with swept := s.chip.tck.frames } })) ∧
  (∀ (s : State) (m : PageMove) (q : List PageMove), s.chip.mu.moveQ = m :: q →
    (migIdle s.chip = false → Completes .pageMigration s (fun d => d = s.chip)) ∧
    (∀ u, migIdle s.chip = true → (s.chip.pte m.page).state = .valid → (s.chip.pte m.page).pin = false → (s.chip.pte m.page).tier ≠ m.tier →
      s.chip.findUnits m.tier 1 = some u → Completes .pageMigration s (fun d => d.mu.moving = some ⟨m.page, m.tier, u, 0⟩ ∧ d.mu.moveQ = q ∧
        d.pte m.page = { s.chip.pte m.page with state := .migrating } ∧ d.led = s.chip.led))) ∧
  (∀ (s : State) (m : PageMoving), s.chip.mu.moving = some m → s.chip.mu.migLeft + m.done < 64 →
    Completes .pageMigrationComplete s (fun d => d = s.chip)) ∧
  (∀ (s : State) (m : PageMoving), s.chip.mu.moving = some m → 64 ≤ s.chip.mu.migLeft + m.done → (s.chip.pte m.page).state = .migrating →
    s.chip.lost (s.chip.unitAddr m.tier m.unit) = false →
    Completes .pageMigrationComplete s (fun d => d.mu.moving = none ∧ (d.pte m.page).state = .valid ∧ (d.pte m.page).tier = m.tier ∧
      (∃ x ∈ d.mu.reclaim, x.h = s.chip.led.nextSeq - 1) ∧ d.led.items = s.chip.led.items)) ∧
  (∀ s : State, Completes .migPause s (fun d => d.mu = { s.chip.mu with paused := true } ∧ (∃ x, d.answer = some x ∧ x.taken = true) ∧
    Frame [.mu, .answer] s.chip d)) ∧
  (∀ s : State, Completes .migResume s (fun d => d.mu = { s.chip.mu with paused := false } ∧ (∃ x, d.answer = some x ∧ x.taken = true) ∧
    Frame [.mu, .answer] s.chip d)) ∧
  (∀ s : State, s.chip.flag Reg.MEM_PLINTH_STATE.INIT_BUSY = true → s.chip.flag Reg.PCR_STATE.MAQ_LOADED = true →
    Completes .coldInitComplete s (fun d => d.rg Reg.MEM_PLINTH_STATE.INIT_BUSY = 0 ∧ d.led = s.chip.led ∧
      ∀ a, 0x3400_0000 ≤ a → a < 0x4000_0000 → d.byteAt a = 0))

/-- The two-operand integer instructions of R316: the command, the tags R305 accepts with the result's tag, and the result. -/
def aluMenu : List ((Fin 16 → Fin 32 → Fin 32 → Fin 32 → Instr) × (Tag → Tag → Option Tag) × (Word → Word → Word)) := [
  (.add, ruleAdd, fun x y => x + y), (.sub, ruleSub, fun x y => x - y), (.andInsn, ruleInt, fun x y => x &&& y),
  (.orInsn, ruleInt, fun x y => x ||| y), (.xorInsn, ruleInt, fun x y => x ^^^ y), (.shl, ruleInt, fun x y => x <<< (y.toNat % 64)),
  (.shr, ruleInt, fun x y => x >>> (y.toNat % 64)), (.sar, ruleInt, fun x y => x.sshiftRight (y.toNat % 64)),
  (.slt, ruleInt, fun x y => if x.toInt < y.toInt then 1 else 0), (.sltu, ruleOrder, fun x y => if x.toNat < y.toNat then 1 else 0),
  (.minInsn, ruleInt, fun x y => if x.toInt < y.toInt then x else y), (.maxInsn, ruleInt, fun x y => if x.toInt < y.toInt then y else x),
  (.minu, ruleOrder, fun x y => if x.toNat < y.toNat then x else y), (.maxu, ruleOrder, fun x y => if x.toNat < y.toNat then y else x),
  (.mul, ruleInt, fun x y => x * y), (.mulh, ruleInt, fun x y => BitVec.ofInt 64 (x.toInt * y.toInt / 2 ^ 64)),
  (.mulhu, ruleInt, fun x y => BitVec.ofNat 64 (x.toNat * y.toNat / 2 ^ 64))]

/-- The divisions of R316, rounding toward zero. -/
def divMenu : List ((Fin 16 → Fin 32 → Fin 32 → Fin 32 → Instr) × (Word → Word → Word)) := [
  (.div, fun x y => BitVec.ofInt 64 (x.toInt.tdiv y.toInt)), (.divu, fun x y => BitVec.ofNat 64 (x.toNat / y.toNat)),
  (.rem, fun x y => BitVec.ofInt 64 (x.toInt.tmod y.toInt)), (.remu, fun x y => BitVec.ofNat 64 (x.toNat % y.toNat))]

/-- The immediate instructions of R316, on the sign-extended immediate. -/
def immMenu : List ((Fin 16 → Fin 32 → Fin 32 → BitVec 15 → Instr) × (Tag → Tag → Option Tag) × (Word → Word → Word)) := [
  (.addi, ruleAdd, fun x y => x + y), (.andi, ruleInt, fun x y => x &&& y), (.ori, ruleInt, fun x y => x ||| y),
  (.xori, ruleInt, fun x y => x ^^^ y), (.slti, ruleInt, fun x y => if x.toInt < y.toInt then 1 else 0),
  (.sltiu, ruleOrder, fun x y => if x.toNat < y.toNat then 1 else 0)]

/-- R304, R305 and R316, for every register, s0 included, and every operand value, in any load's slot. -/
def Obligations.IntegerInstructions : Prop :=
  (∀ m ∈ aluMenu, ∀ (s : State) (n : Fin 16) (rd rs1 rs2 : Fin 32), CanIssue s.chip n →
    (∀ t, m.2.1 ((s.chip.core n).reg rs1).t ((s.chip.core n).reg rs2).t = some t → Completes (m.1 n rd rs1 rs2) s (fun d =>
      d = s.chip.retires n [rd] ((s.chip.core n).setReg rd ⟨m.2.2 ((s.chip.core n).reg rs1).v ((s.chip.core n).reg rs2).v, t⟩)
        ((s.chip.core n).pc + 4))) ∧
    ((s.chip.core n).intrap = false → ((s.chip.core n).reg rs1).t = .nul → Completes (m.1 n rd rs1 rs2) s (fun d =>
      d = s.chip.traps n 0x02 rs1)) ∧
    ((s.chip.core n).intrap = false → ((s.chip.core n).reg rs1).t ≠ .nul → ((s.chip.core n).reg rs2).t ≠ .nul →
      m.2.1 ((s.chip.core n).reg rs1).t ((s.chip.core n).reg rs2).t = none → Completes (m.1 n rd rs1 rs2) s (fun d =>
      d = s.chip.traps n 0x03 rs1 ∨ d = s.chip.traps n 0x03 rs2))) ∧
  (∀ m ∈ divMenu, ∀ (s : State) (n : Fin 16) (rd rs1 rs2 : Fin 32), CanIssue s.chip n →
    ((s.chip.core n).reg rs1).t = .int → ((s.chip.core n).reg rs2).t = .int →
    (((s.chip.core n).reg rs2).v ≠ 0 → Completes (m.1 n rd rs1 rs2) s (fun d =>
      d = s.chip.retires n [rd] ((s.chip.core n).setReg rd ⟨m.2 ((s.chip.core n).reg rs1).v ((s.chip.core n).reg rs2).v, .int⟩)
        ((s.chip.core n).pc + 4))) ∧
    ((s.chip.core n).intrap = false → ((s.chip.core n).reg rs2).v = 0 → Completes (m.1 n rd rs1 rs2) s (fun d => d = s.chip.traps n 0x0A 0))) ∧
  (∀ m ∈ immMenu, ∀ (s : State) (n : Fin 16) (rd rs1 : Fin 32) (imm : BitVec 15) (t : Tag), CanIssue s.chip n →
    m.2.1 ((s.chip.core n).reg rs1).t .int = some t → Completes (m.1 n rd rs1 imm) s (fun d =>
      d = s.chip.retires n [rd] ((s.chip.core n).setReg rd ⟨m.2.2 ((s.chip.core n).reg rs1).v (imm.signExtend 64), t⟩) ((s.chip.core n).pc + 4))) ∧
  (∀ (s : State) (n : Fin 16) (rd rs1 : Fin 32) (imm : BitVec 15), CanIssue s.chip n →
    (∀ k, imm.toNat / 64 = k → k ≤ 2 → ((s.chip.core n).reg rs1).t = .int → Completes (.shi n rd rs1 imm) s (fun d =>
      d = s.chip.retires n [rd] ((s.chip.core n).setReg rd ⟨(if k = 0 then ((s.chip.core n).reg rs1).v <<< (imm.toNat % 64)
        else if k = 1 then ((s.chip.core n).reg rs1).v >>> (imm.toNat % 64) else ((s.chip.core n).reg rs1).v.sshiftRight (imm.toNat % 64)), .int⟩)
        ((s.chip.core n).pc + 4))) ∧
    (2 < imm.toNat / 64 → (s.chip.core n).intrap = false → Completes (.shi n rd rs1 imm) s (fun d =>
      d = s.chip.traps n 0x01 (0x08 + rd * 2 ^ 7 + rs1 * 2 ^ 12 + imm.toNat * 2 ^ 17)))) ∧
  (∀ (s : State) (n : Fin 16) (rd : Fin 32) (imm : BitVec 20), CanIssue s.chip n →
    Completes (.lui n rd imm) s (fun d => d = s.chip.retires n [rd]
      ((s.chip.core n).setReg rd ⟨BitVec.ofInt 64 (imm.toInt * 4096), .int⟩) ((s.chip.core n).pc + 4)) ∧
    (((s.chip.core n).reg rd).t = .int → Completes (.luih n rd imm) s (fun d => d = s.chip.retires n [rd]
      ((s.chip.core n).setReg rd ⟨BitVec.ofNat 64 (imm.toNat * 2 ^ 32 + ((s.chip.core n).reg rd).v.toNat % 2 ^ 32), .int⟩)
      ((s.chip.core n).pc + 4))))

/-- The loads of R317 with an immediate: the command, the address from the base, and the base register's new value where it is updated. -/
def loadMenu : List ((Fin 16 → Fin 32 → Fin 32 → Fin 8 → BitVec 12 → Instr) × (Word → BitVec 12 → Word) × (Word → BitVec 12 → Option Word)) := [
  (.ld, fun b i => b + i.signExtend 64, fun _ _ => none), (.ldp, fun b _ => b, fun b i => some (b + i.signExtend 64)),
  (.ldd, fun b i => b - i.zeroExtend 64, fun b i => some (b - i.zeroExtend 64))]

/-- The stores of R317 with an immediate. -/
def storeMenu : List ((Fin 16 → Fin 32 → Fin 32 → Fin 8 → BitVec 12 → Instr) × (Word → BitVec 12 → Word) × (Word → BitVec 12 → Option Word)) := [
  (.st, fun b i => b + i.signExtend 64, fun _ _ => none), (.stp, fun b _ => b, fun b i => some (b + i.signExtend 64)),
  (.std, fun b i => b - i.zeroExtend 64, fun b i => some (b - i.zeroExtend 64))]

/-- Core n may load `size` bytes at an address of memory, and the read finds nothing amiss: no error, no poison, no breakpoint. -/
def CanLoad (d : Chip) (n : Fin 16) (a size : Nat) : Prop :=
  isMmio a = false ∧ a % size = 0 ∧ d.coreLoads n a size = true ∧ d.bpMatches n 1 a = [] ∧ d.noteRead a size = d ∧
  (d.touchPage a false).anyPoison a size = false

/-- Core n may store `size` bytes at an address of its own local memory, whose line is clean; a narrow store does not reach a KEYH word. -/
def CanStore (d : Chip) (n : Fin 16) (a size : Nat) : Prop :=
  ownLocal n a = true ∧ a % size = 0 ∧ d.coreStores n a size = true ∧ d.bpMatches n 2 a = [] ∧ d.anyPoison a size = false ∧
  (size < 8 → d.wordTag (a / 8 * 8) ≠ .keyh)

/-- What a store of core n into its own local memory leaves: the bytes stored, every other byte as it was, the word's tag, and the core's
registers but for the base. -/
def Stored (d d' : Chip) (n : Fin 16) (x : TVal) (a size : Nat) (base : Option (Fin 32 × Word)) (wrote : List (Fin 32)) : Prop :=
  d'.num a size = x.v.toNat % 2 ^ (8 * size) ∧ (∀ b, b < a ∨ a + size ≤ b → d'.byteAt b = d.byteAt b) ∧
  d'.wordTag (a / 8 * 8) = (if size = 8 then x.t else .int) ∧ (d'.core n).pc = (d.core n).pc + 4 ∧
  (∀ r, (d'.core n).reg r = (((match base with | some (b, v) => (d.core n).setReg b ⟨v, .ptr⟩ | none => d.core n) : ArmCore).slotOver
    (d.core n).loads wrote).reg r) ∧ Frame [.mem, .mu, .arm, .ldr] d d'

/-- R307 to R310, R317 to R319 and R336. -/
def Obligations.MemoryInstructions : Prop :=
  (∀ m ∈ loadMenu, ∀ (s : State) (n : Fin 16) (rd rs1 : Fin 32) (sz : Fin 8) (imm : BitVec 12) (size : Nat), CanIssue s.chip n →
    szBytes sz = some size → ((s.chip.core n).reg rs1).t = .ptr → ((m.2.2 0 0).isSome = true → badBase rd rs1 = false) →
    CanLoad s.chip n (m.2.1 ((s.chip.core n).reg rs1).v imm).toNat size →
    Completes (m.1 n rd rs1 sz imm) s (fun d =>
      d = (s.chip.touchPage (m.2.1 ((s.chip.core n).reg rs1).v imm).toNat false).retires n
        (if (m.2.2 0 0).isSome then [rd, rs1] else [rd])
        (match m.2.2 ((s.chip.core n).reg rs1).v imm with
         | some v => ({ s.chip.core n with loads := (s.chip.core n).loads ++
            [⟨rd, (s.chip.touchPage (m.2.1 ((s.chip.core n).reg rs1).v imm).toNat false).loadVal n sz (m.2.1 ((s.chip.core n).reg rs1).v imm).toNat size,
              false, false, false⟩] } : ArmCore).setReg rs1 ⟨v, .ptr⟩
         | none => { s.chip.core n with loads := (s.chip.core n).loads ++
            [⟨rd, (s.chip.touchPage (m.2.1 ((s.chip.core n).reg rs1).v imm).toNat false).loadVal n sz (m.2.1 ((s.chip.core n).reg rs1).v imm).toNat size,
              false, false, false⟩] })
        ((s.chip.core n).pc + 4))) ∧
  (∀ (s : State) (n : Fin 16) (rd rs1 rs2 : Fin 32) (sz : Fin 8) (sc : Fin 4) (size a : Nat), CanIssue s.chip n →
    szBytes sz = some size → ((s.chip.core n).reg rs1).t = .ptr → ((s.chip.core n).reg rs2).t = .int →
    a = (((s.chip.core n).reg rs1).v + ((s.chip.core n).reg rs2).v <<< sc.val).toNat → CanLoad s.chip n a size →
    Completes (.ldx n rd rs1 rs2 sz sc) s (fun d => d = (s.chip.touchPage a false).retires n [rd]
      { s.chip.core n with loads := (s.chip.core n).loads ++ [⟨rd, (s.chip.touchPage a false).loadVal n sz a size, false, false, false⟩] }
      ((s.chip.core n).pc + 4))) ∧
  (∀ (d : Chip) (n : Fin 16) (a : Nat), ownLocal n a = true → d.loadVal n 3 a 8 = ⟨BitVec.ofNat 64 (d.num a 8), d.wordTag (a / 8 * 8)⟩) ∧
  (∀ m ∈ storeMenu, ∀ (s : State) (n : Fin 16) (rs rs1 : Fin 32) (sz : Fin 8) (imm : BitVec 12) (size : Nat), CanIssue s.chip n →
    sz.val ≤ 3 → szBytes sz = some size → ((s.chip.core n).reg rs1).t = .ptr → ((s.chip.core n).reg rs).t ≠ .nul →
    ((m.2.2 0 0).isSome = true → badBase rs rs1 = false) → CanStore s.chip n (m.2.1 ((s.chip.core n).reg rs1).v imm).toNat size →
    Completes (m.1 n rs rs1 sz imm) s (fun d => Stored s.chip d n ((s.chip.core n).reg rs) (m.2.1 ((s.chip.core n).reg rs1).v imm).toNat size
      ((m.2.2 ((s.chip.core n).reg rs1).v imm).map (fun v => (rs1, v))) (if (m.2.2 0 0).isSome then [rs1] else []))) ∧
  (∀ (s : State) (n : Fin 16) (rs rs1 rs2 : Fin 32) (sz : Fin 8) (sc : Fin 4) (size a : Nat), CanIssue s.chip n →
    sz.val ≤ 3 → szBytes sz = some size → ((s.chip.core n).reg rs1).t = .ptr → ((s.chip.core n).reg rs2).t = .int → ((s.chip.core n).reg rs).t ≠ .nul →
    a = (((s.chip.core n).reg rs1).v + ((s.chip.core n).reg rs2).v <<< sc.val).toNat → CanStore s.chip n a size →
    Completes (.stx n rs rs1 rs2 sz sc) s (fun d => Stored s.chip d n ((s.chip.core n).reg rs) a size none [])) ∧
  (∀ (s : State) (n : Fin 16) (rs rs1 : Fin 32) (imm : BitVec 12), CanIssue s.chip n → ((s.chip.core n).reg rs1).t = .ptr →
    CanStore s.chip n (((s.chip.core n).reg rs1).v + imm.signExtend 64).toNat 8 →
    Completes (.stt n rs rs1 3 imm) s (fun d => Stored s.chip d n ((s.chip.core n).reg rs) (((s.chip.core n).reg rs1).v + imm.signExtend 64).toNat 8 none [])) ∧
  (∀ (s : State) (n : Fin 16) (r rs1 : Fin 32) (sz : Fin 8) (imm : BitVec 12) (size : Nat), CanIssue s.chip n → (s.chip.core n).intrap = false →
    ((s.chip.core n).reg rs1).t = .ptr → szBytes sz = some size → (((s.chip.core n).reg rs1).v + imm.signExtend 64).toNat % size ≠ 0 →
    Completes (.ld n r rs1 sz imm) s (fun d => d = s.chip.traps n 0x06 (((s.chip.core n).reg rs1).v + imm.signExtend 64).toNat) ∧
    Completes (.ld n r rs1 7 imm) s (fun d => d = s.chip.traps n 0x01 (0x10 + r * 2 ^ 7 + rs1 * 2 ^ 12 + 7 * 2 ^ 17 + imm.toNat * 2 ^ 20))) ∧
  (∀ (s : State) (n : Fin 16) (rd rs1 rs2 : Fin 32) (a : Nat), CanIssue s.chip n → ((s.chip.core n).reg rs1).t = .ptr → ((s.chip.core n).reg rs2).t = .int →
    a = ((s.chip.core n).reg rs1).v.toNat → a % 8 = 0 → isShared a = true → s.chip.coreLoads n a 8 = true → s.chip.bpMatches n 1 a = [] →
    s.chip.bpMatches n 2 a = [] → s.chip.anyPoison a 8 = false → s.chip.noteRead a 8 = s.chip →
    Completes (.amoadd n rd rs1 rs2) s (fun d => d.num a 8 = (s.chip.num a 8 + ((s.chip.core n).reg rs2).v.toNat) % 2 ^ 64 ∧
      (∀ b, b < a ∨ a + 8 ≤ b → d.byteAt b = s.chip.byteAt b) ∧ (d.core n).pc = (s.chip.core n).pc + 4 ∧
      ∀ r, (d.core n).reg r = (((s.chip.core n).setReg rd ⟨BitVec.ofNat 64 (s.chip.num a 8), .int⟩).slotOver (s.chip.core n).loads [rd]).reg r) ∧
    Completes (.amoswp n rd rs1 rs2) s (fun d => d.num a 8 = ((s.chip.core n).reg rs2).v.toNat ∧
      (∀ b, b < a ∨ a + 8 ≤ b → d.byteAt b = s.chip.byteAt b) ∧ (d.core n).pc = (s.chip.core n).pc + 4 ∧
      ∀ r, (d.core n).reg r = (((s.chip.core n).setReg rd ⟨BitVec.ofNat 64 (s.chip.num a 8), .int⟩).slotOver (s.chip.core n).loads [rd]).reg r) ∧
    (((s.chip.core n).reg rd).t = .int → Completes (.amocas n rd rs1 rs2) s (fun d =>
      d.num a 8 = (if BitVec.ofNat 64 (s.chip.num a 8) = ((s.chip.core n).reg rd).v then ((s.chip.core n).reg rs2).v.toNat else s.chip.num a 8) ∧
      (∀ b, b < a ∨ a + 8 ≤ b → d.byteAt b = s.chip.byteAt b) ∧ (d.core n).pc = (s.chip.core n).pc + 4 ∧
      ∀ r, (d.core n).reg r = (((s.chip.core n).setReg rd ⟨BitVec.ofNat 64 (s.chip.num a 8), .int⟩).slotOver (s.chip.core n).loads [rd]).reg r))) ∧
  (∀ (s : State) (rd rs1 : Fin 32), CanIssue s.chip 0 → (s.chip.core 0).reg rs1 = ⟨0x2_0008_0020, .ptr⟩ → s.chip.bpMatches 0 1 0x2_0008_0020 = [] →
    s.chip.bpMatches 0 2 0x2_0008_0020 = [] → s.chip.hub.inReset = false → s.chip.pwr.trigger = 0 → s.chip.flag Reg.FLT_SAFE.SAFE = false →
    Completes (.ld 0 rd rs1 2 0) s (fun d => Frame [.arm, .bus, .ldr] s.chip d ∧ (d.core 0).loads.getLast? =
      some ⟨rd, ⟨BitVec.ofNat 64 (s.chip.rg Reg.GLB_LEDGER_NOTE_FREE.THRESHOLD), .int⟩, false, false, false⟩) ∧
    (((s.chip.core 0).reg rd).t = .int → Completes (.st 0 rd rs1 2 0) s (fun d => Frame [.arm, .bus, .regs, .ldr] s.chip d ∧
      d.rg Reg.GLB_LEDGER_NOTE_FREE.THRESHOLD = ((s.chip.core 0).reg rd).v.toNat % 2 ^ 22 ∧
      ∀ f : Fld, f.bit ≠ Reg.GLB_LEDGER_NOTE_FREE.THRESHOLD.bit → d.rg f = s.chip.rg f))) ∧
  (∀ (s : State) (n : Fin 16) (l : InFlight) (rest : List InFlight), (s.chip.core n).loads = l :: rest → l.ready = false → l.slotDone = true →
    Completes (.loadDataReturn n) s (fun d => d = s.chip.setCore n (({ s.chip.core n with loads := rest } : ArmCore).setReg l.rd l.val))) ∧
  (∀ (s : State) (n : Fin 16) (l : InFlight) (rest : List InFlight), (s.chip.core n).loads = l :: rest → l.ready = false → l.slotDone = false →
    Completes (.loadDataReturn n) s (fun d => d = s.chip.setCore n { s.chip.core n with loads := { l with ready := true } :: rest }))

/-- The branches of R320: the command, the tags R305 accepts, and when the branch is taken. -/
def branchMenu : List ((Fin 16 → Fin 32 → Fin 32 → BitVec 12 → Instr) × (Tag → Tag → Bool) × (Word → Word → Bool)) := [
  (.beq, fun a b => a == b && (a == .int || a == .ptr || a == .seq || a == .desc), fun x y => x == y),
  (.bne, fun a b => a == b && (a == .int || a == .ptr || a == .seq || a == .desc), fun x y => x != y),
  (.blt, fun a b => a == .int && b == .int, fun x y => decide (x.toInt < y.toInt)), (.bge, fun a b => a == .int && b == .int, fun x y => decide (y.toInt ≤ x.toInt)),
  (.bltu, fun a b => a == b && (a == .int || a == .ptr || a == .seq), fun x y => decide (x.toNat < y.toNat)),
  (.bgeu, fun a b => a == b && (a == .int || a == .ptr || a == .seq), fun x y => decide (y.toNat ≤ x.toNat))]

/-- An aligned address core n may fetch from. -/
def CanGo (n : Fin 16) (t : Word) : Prop := t.toNat % 4 = 0 ∧ fetchable n t.toNat = true

/-- R320, R321 and R338. -/
def Obligations.ControlFlow : Prop :=
  (∀ m ∈ branchMenu, ∀ (s : State) (n : Fin 16) (rs1 rs2 : Fin 32) (off : BitVec 12), CanIssue s.chip n →
    m.2.1 ((s.chip.core n).reg rs1).t ((s.chip.core n).reg rs2).t = true →
    (m.2.2 ((s.chip.core n).reg rs1).v ((s.chip.core n).reg rs2).v = false → Completes (m.1 n rs1 rs2 off) s (fun d =>
      d = s.chip.retires n [] (s.chip.core n) ((s.chip.core n).pc + 4))) ∧
    (m.2.2 ((s.chip.core n).reg rs1).v ((s.chip.core n).reg rs2).v = true → CanGo n ((s.chip.core n).pc + off.signExtend 64 * 4) →
      Completes (m.1 n rs1 rs2 off) s (fun d => d = s.chip.retires n [] (s.chip.core n) ((s.chip.core n).pc + off.signExtend 64 * 4))) ∧
    (m.2.2 ((s.chip.core n).reg rs1).v ((s.chip.core n).reg rs2).v = true → ¬ CanGo n ((s.chip.core n).pc + off.signExtend 64 * 4) →
      (s.chip.core n).intrap = false → Completes (m.1 n rs1 rs2 off) s (fun d =>
        d = s.chip.traps n 0x08 ((s.chip.core n).pc + off.signExtend 64 * 4).toNat))) ∧
  (∀ (s : State) (n : Fin 16) (off : BitVec 25), CanIssue s.chip n → CanGo n ((s.chip.core n).pc + off.signExtend 64 * 4) →
    Completes (.jump n off) s (fun d => d = s.chip.retires n [] (s.chip.core n) ((s.chip.core n).pc + off.signExtend 64 * 4))) ∧
  (∀ (s : State) (n : Fin 16) (rs1 : Fin 32), CanIssue s.chip n → ((s.chip.core n).reg rs1).t = .ptr →
    (CanGo n ((s.chip.core n).reg rs1).v → Completes (.jr n rs1) s (fun d =>
      d = s.chip.retires n [] (s.chip.core n) ((s.chip.core n).reg rs1).v)) ∧
    (¬ CanGo n ((s.chip.core n).reg rs1).v → (s.chip.core n).intrap = false → Completes (.jr n rs1) s (fun d =>
      d = s.chip.traps n 0x08 ((s.chip.core n).reg rs1).v.toNat))) ∧
  (∀ (s : State) (n : Fin 16) (off : BitVec 25) (rs1 : Fin 32) (t : Word), CanIssue s.chip n → CanGo n t →
    ∀ c, (c = Instr.call n off ∧ t = (s.chip.core n).pc + off.signExtend 64 * 4 ∨
      c = Instr.callr n rs1 ∧ ((s.chip.core n).reg rs1).t = .ptr ∧ t = ((s.chip.core n).reg rs1).v) →
    ((s.chip.core n).rsmode = 2 → Completes c s (fun d =>
      d = s.chip.retires n [31] ((s.chip.core n).setReg 31 ⟨(s.chip.core n).pc + 4, .ptr⟩) t)) ∧
    ((s.chip.core n).rsmode = 0 ∨ (s.chip.core n).rsmode = 1 ∧ (s.chip.core n).rsDepth < 16 → Completes c s (fun d =>
      d = s.chip.retires n [] { s.chip.core n with
        rs := tput (s.chip.core n).rs (s.chip.core n).rsPtr ((s.chip.core n).pc + 4), rsPtr := ((s.chip.core n).rsPtr + 1) % 16,
        rsDepth := min ((s.chip.core n).rsDepth + 1) 16 } t)) ∧
    ((s.chip.core n).rsmode = 1 → 16 ≤ (s.chip.core n).rsDepth → (s.chip.core n).intrap = false → Completes c s (fun d =>
      d = s.chip.traps n 0x0B ((s.chip.core n).pc + 4).toNat))) ∧
  (∀ (s : State) (n : Fin 16) (off : BitVec 25), CanIssue s.chip n → ¬ CanGo n ((s.chip.core n).pc + off.signExtend 64 * 4) →
    (s.chip.core n).intrap = false → Completes (.jump n off) s (fun d => d = s.chip.traps n 0x08 ((s.chip.core n).pc + off.signExtend 64 * 4).toNat) ∧
    ((s.chip.core n).rsmode ≠ 1 → Completes (.call n off) s (fun d =>
      d = s.chip.traps n 0x08 ((s.chip.core n).pc + off.signExtend 64 * 4).toNat))) ∧
  (∀ (s : State) (n : Fin 16), CanIssue s.chip n →
    ((s.chip.core n).rsmode = 2 → ((s.chip.core n).reg 31).t = .ptr → CanGo n ((s.chip.core n).reg 31).v → Completes (.retInsn n) s (fun d =>
      d = s.chip.retires n [] (s.chip.core n) ((s.chip.core n).reg 31).v)) ∧
    (∀ t, (s.chip.core n).rsmode = 0 ∨ (s.chip.core n).rsmode = 1 ∧ 0 < (s.chip.core n).rsDepth →
      tget (s.chip.core n).rs (((s.chip.core n).rsPtr + 15) % 16) = some t → CanGo n t → Completes (.retInsn n) s (fun d =>
        d = s.chip.retires n [] { s.chip.core n with
          rsPtr := ((s.chip.core n).rsPtr + 15) % 16, rsDepth := (s.chip.core n).rsDepth - 1 } t)) ∧
    ((s.chip.core n).rsmode = 1 → (s.chip.core n).rsDepth = 0 → (s.chip.core n).intrap = false → Completes (.retInsn n) s (fun d =>
      d = s.chip.traps n 0x0C 0)))

/-- The two-operand floating-point instructions of R322: the command, the operands' tag, and the value and conditions of one operation;
its first argument says for each lane when tininess is detected, which the standard leaves open. -/
def fpMenu : List ((Fin 16 → Fin 32 → Fin 32 → Fin 32 → Instr) × Tag × ((Nat → Bool) → Word → Word → Word × Nat)) := [
  (.faddD, .f64, opD (fpArith addExact)), (.fsubD, .f64, opD (fpArith (fun a b => addExact a b.neg))), (.fmulD, .f64, opD (fpArith mulExact)),
  (.fdivD, .f64, opD fpDiv), (.fminD, .f64, opD (fpPick valMin)), (.fmaxD, .f64, opD (fpPick valMax)),
  (.faddS, .f32p, opS (fpArith addExact)), (.fsubS, .f32p, opS (fpArith (fun a b => addExact a b.neg))), (.fmulS, .f32p, opS (fpArith mulExact)),
  (.fdivS, .f32p, opS fpDiv), (.fminS, .f32p, opS (fpPick valMin)), (.fmaxS, .f32p, opS (fpPick valMax))]

/-- The one-operand forms: operand tag, result tag, operation. -/
def fp1Menu : List ((Fin 16 → Fin 32 → Fin 32 → Instr) × Tag × Tag × ((Nat → Bool) → Word → Word × Nat)) := [
  (.fsqrtD, .f64, .f64, fun t x => opD fpSqrt t x x), (.fsqrtS, .f32p, .f32p, fun t x => opS fpSqrt t x x), (.cvtDI, .int, .f64, cvtDI),
  (.cvtID, .f64, .int, fun _ x => cvtID x), (.cvtDS0, .f32p, .f64, fun _ x => cvtDS 0 x), (.cvtDS1, .f32p, .f64, fun _ x => cvtDS 1 x)]

/-- The compares: 1 or 0, or one bit a lane. -/
def fpCmpMenu : List ((Fin 16 → Fin 32 → Fin 32 → Fin 32 → Instr) × Tag × (Val → Val → Bool)) := [
  (.feqD, .f64, valEq), (.fltD, .f64, valLt false), (.fleD, .f64, valLe), (.feqS, .f32p, valEq), (.fltS, .f32p, valLt false), (.fleS, .f32p, valLe)]

/-- R322 with the conditions of R345. -/
def Obligations.FloatingPoint : Prop :=
  (∀ m ∈ fpMenu, ∀ (s : State) (n : Fin 16) (rd rs1 rs2 : Fin 32), CanIssue s.chip n → ((s.chip.core n).reg rs1).t = m.2.1 →
    ((s.chip.core n).reg rs2).t = m.2.1 → Completes (m.1 n rd rs1 rs2) s (fun d => ∃ r : Word × Nat,
      r = m.2.2 s.chip.tiny ((s.chip.core n).reg rs1).v ((s.chip.core n).reg rs2).v ∧
      d = (s.chip.retires n [rd] (({ s.chip.core n with fflags := (s.chip.core n).fflags ||| r.2 } : ArmCore).setReg rd ⟨r.1, m.2.1⟩)
        ((s.chip.core n).pc + 4)).takeFree)) ∧
  (∀ m ∈ fp1Menu, ∀ (s : State) (n : Fin 16) (rd rs1 : Fin 32), CanIssue s.chip n → ((s.chip.core n).reg rs1).t = m.2.1 →
    Completes (m.1 n rd rs1) s (fun d => ∃ r : Word × Nat, r = m.2.2.2 s.chip.tiny ((s.chip.core n).reg rs1).v ∧
      d = (s.chip.retires n [rd] (({ s.chip.core n with fflags := (s.chip.core n).fflags ||| r.2 } : ArmCore).setReg rd ⟨r.1, m.2.2.1⟩)
        ((s.chip.core n).pc + 4)).takeFree)) ∧
  (∀ (s : State) (n : Fin 16) (rd rs1 rs2 : Fin 32), CanIssue s.chip n → ((s.chip.core n).reg rs1).t = .f64 → ((s.chip.core n).reg rs2).t = .f64 →
    Completes (.cvtSD n rd rs1 rs2) s (fun d => ∃ r : Word × Nat,
      r = cvtSD s.chip.tiny ((s.chip.core n).reg rs1).v ((s.chip.core n).reg rs2).v ∧
      d = (s.chip.retires n [rd] (({ s.chip.core n with fflags := (s.chip.core n).fflags ||| r.2 } : ArmCore).setReg rd ⟨r.1, .f32p⟩)
        ((s.chip.core n).pc + 4)).takeFree)) ∧
  (∀ m ∈ fpCmpMenu, ∀ (s : State) (n : Fin 16) (rd rs1 rs2 : Fin 32), CanIssue s.chip n → ((s.chip.core n).reg rs1).t = m.2.1 →
    ((s.chip.core n).reg rs2).t = m.2.1 → Completes (m.1 n rd rs1 rs2) s (fun d =>
      d = s.chip.retires n [rd] ((s.chip.core n).setReg rd ⟨(if m.2.1 = .f64 then
          (if m.2.2 (decodeFloat fmtF64 ((s.chip.core n).reg rs1).v.toNat) (decodeFloat fmtF64 ((s.chip.core n).reg rs2).v.toNat) then 1 else 0)
        else BitVec.ofNat 64
          ((if m.2.2 (decodeFloat fmtF32 (((s.chip.core n).reg rs1).v.toNat % 2 ^ 32)) (decodeFloat fmtF32 (((s.chip.core n).reg rs2).v.toNat % 2 ^ 32)) then 1 else 0) +
          (if m.2.2 (decodeFloat fmtF32 (((s.chip.core n).reg rs1).v.toNat / 2 ^ 32)) (decodeFloat fmtF32 (((s.chip.core n).reg rs2).v.toNat / 2 ^ 32)) then 2 else 0))),
        .int⟩) ((s.chip.core n).pc + 4))) ∧
  (∀ (t : Nat → Bool) (x y : Word), decodeFloat fmtF64 x.toNat = .nan → (opD (fpArith addExact) t x y).1 = 0x7FF8_0000_0000_0000 ∧
    (opD (fpArith mulExact) t x y).1 = 0x7FF8_0000_0000_0000 ∧ (opD fpDiv t x y).1 = 0x7FF8_0000_0000_0000 ∧
    (opD fpSqrt t x x).1 = 0x7FF8_0000_0000_0000) ∧
  (∀ x : Word, decodeFloat fmtF64 x.toNat = .nan → cvtID x = (0, ffInvalid))

/-- R306, R323 and R331 to R335. -/
def Obligations.TagsAndAccumulators : Prop :=
  (∀ (s : State) (n : Fin 16) (rd rs1 : Fin 32), CanIssue s.chip n →
    (((s.chip.core n).reg rs1).t ≠ .nul → Completes (.mov n rd rs1) s (fun d =>
      d = s.chip.retires n [rd] ((s.chip.core n).setReg rd ((s.chip.core n).reg rs1)) ((s.chip.core n).pc + 4))) ∧
    Completes (.tagof n rd rs1) s (fun d => d = s.chip.retires n [rd]
      ((s.chip.core n).setReg rd ⟨BitVec.ofNat 64 ((s.chip.core n).reg rs1).t.code, .int⟩) ((s.chip.core n).pc + 4)) ∧
    Completes (.clr n rd) s (fun d => d = s.chip.retires n [rd] ((s.chip.core n).setReg rd ⟨0, .nul⟩) ((s.chip.core n).pc + 4))) ∧
  (∀ (s : State) (n : Fin 16) (rd rs1 k : Fin 32) (t : Tag), CanIssue s.chip n → ((s.chip.core n).reg rs1).t ≠ .nul → Tag.ofCode k = some t →
    (retagForges ((s.chip.core n).reg rs1).t t = false → retagOk ((s.chip.core n).reg rs1).t t = true → Completes (.retag n rd rs1 k) s (fun d =>
      d = s.chip.retires n [rd] ((s.chip.core n).setReg rd ⟨((s.chip.core n).reg rs1).v, t⟩) ((s.chip.core n).pc + 4))) ∧
    ((s.chip.core n).intrap = false → (t = .desc ∨ t = .seq ∨ t = .keyh ∨ ((s.chip.core n).reg rs1).t = .keyh) →
      Completes (.retag n rd rs1 k) s (fun d => d = s.chip.traps n 0x04 rs1)) ∧
    ((s.chip.core n).intrap = false → retagForges ((s.chip.core n).reg rs1).t t = false → retagOk ((s.chip.core n).reg rs1).t t = false →
      Completes (.retag n rd rs1 k) s (fun d => d = s.chip.traps n 0x03 rs1))) ∧
  (∀ (s : State) (n : Fin 16) (a : Fin 4) (h : Bool) (rd rs1 : Fin 32), CanIssue s.chip n →
    ((∀ m ∈ (s.chip.core n).macds, m.acc ≠ a) →
      Completes (.acz n a) s (fun d => d = s.chip.retires n [] ((s.chip.core n).setAccum a 0) ((s.chip.core n).pc + 4)) ∧
      Completes (.acrdD n rd a h) s (fun d => d = s.chip.retires n [rd] ((s.chip.core n).setReg rd
        ⟨((s.chip.core n).accum a).extractLsb' (if h then 64 else 0) 64, .f64⟩) ((s.chip.core n).pc + 4)) ∧
      Completes (.acrdI n rd a h) s (fun d => d = s.chip.retires n [rd] ((s.chip.core n).setReg rd
        ⟨((s.chip.core n).accum a).extractLsb' (if h then 64 else 0) 64, .int⟩) ((s.chip.core n).pc + 4)) ∧
      (((s.chip.core n).reg rs1).t = .int ∨ ((s.chip.core n).reg rs1).t = .f64 → Completes (.acwr n a h rs1) s (fun d => ∃ v : BitVec 128,
        d = s.chip.retires n [] ((s.chip.core n).setAccum a v) ((s.chip.core n).pc + 4) ∧
        v.extractLsb' (if h then 64 else 0) 64 = ((s.chip.core n).reg rs1).v ∧
        v.extractLsb' (if h then 0 else 64) 64 = ((s.chip.core n).accum a).extractLsb' (if h then 0 else 64) 64))) ∧
    ((∃ m ∈ (s.chip.core n).macds, m.acc = a) → Completes (.acz n a) s (fun d => d = s.chip) ∧ Completes (.acrdD n rd a h) s (fun d => d = s.chip) ∧
      Completes (.acrdI n rd a h) s (fun d => d = s.chip))) ∧
  (∀ (s : State) (n : Fin 16) (acc mode : Fin 4) (rs1 rs2 : Fin 32), CanIssue s.chip n → mode.val < 3 → rs1 ≠ 0 → rs2 ≠ 0 →
    ((s.chip.core n).macds.length ≥ 4 → Completes (.macd n acc mode rs1 rs2) s (fun d => d = s.chip)) ∧
    ((s.chip.core n).macds.length < 4 → ((s.chip.core n).reg rs1).t = .ptr → ((s.chip.core n).reg rs2).t = .ptr →
      (∀ r ∈ [rs1, rs2], CanLoad s.chip n ((s.chip.core n).reg r).v.toNat 8 ∧ isPaged ((s.chip.core n).reg r).v.toNat = false) →
      Completes (.macd n acc mode rs1 rs2) s (fun d =>
        (∃ m, (d.core n).macds = (s.chip.core n).macds ++ [m] ∧ m.acc = acc ∧ m.mode.val = mode.val ∧
          m.x = BitVec.ofNat 64 (s.chip.num ((s.chip.core n).reg rs1).v.toNat 8) ∧ m.y = BitVec.ofNat 64 (s.chip.num ((s.chip.core n).reg rs2).v.toNat 8)) ∧
        (d.core n).pc = (s.chip.core n).pc + 4 ∧ Frame [.arm, .ldr] s.chip d ∧
        ((s.chip.core n).loads = [] → (d.core n).reg rs1 = ⟨((s.chip.core n).reg rs1).v + 8, .ptr⟩ ∧
          (d.core n).reg rs2 = ⟨((s.chip.core n).reg rs2).v + 8, .ptr⟩ ∧
          ∀ r, r ≠ rs1 → r ≠ rs2 → (d.core n).reg r = (s.chip.core n).reg r)))) ∧
  (∀ (s : State) (n : Fin 16) (acc mode : Fin 4) (rs1 rs2 : Fin 32), CanIssue s.chip n → (s.chip.core n).intrap = false →
    (mode = 3 ∨ rs1 = 0 ∨ rs2 = 0) → Completes (.macd n acc mode rs1 rs2) s (fun d => ∃ w, d = s.chip.traps n 0x01 w)) ∧
  (∀ (s : State) (n : Fin 16) (m : Macd) (ms : List Macd), (s.chip.core n).macds = m :: ms → m.bad = none →
    Completes (.macdComplete n) s (fun d =>
      (m.mode = 0 → d = s.chip.setCore n (({ s.chip.core n with macds := ms } : ArmCore).setAccum m.acc
        ((s.chip.core n).accum m.acc + BitVec.ofInt 128 (m.x.toInt * m.y.toInt)))) ∧
      d = s.chip.setCore n (({ s.chip.core n with macds := ms } : ArmCore).setAccum m.acc (macdApply m.mode ((s.chip.core n).accum m.acc) m.x m.y)))) ∧
  (∀ (s : State) (n : Fin 16) (m : Macd) (ms : List Macd) (code : Nat) (a : Word), (s.chip.core n).macds = m :: ms → m.bad = some (code, a) →
    s.chip.coreRuns n = true → s.chip.tracing n = false → (s.chip.core n).intrap = false → (s.chip.core n).loads = [] →
    Completes (.macdComplete n) s (fun d => d = s.chip.setCore n { s.chip.core n with
      macds := [], epc := (s.chip.core n).pc, cause := BitVec.ofNat 64 (code + 2 ^ 29), tval := a, pie := (s.chip.core n).ie, ie := false,
      intrap := true, pc := (s.chip.core n).tvec }))

/-- R325 to R330. -/
def Obligations.WorkAndLedgerInstructions : Prop :=
  (∀ (s : State) (n : Fin 16) (rd rs1 rs2 : Fin 32) (h : Nat), CanIssue s.chip n → ((s.chip.core n).reg rs1).t = .ptr →
    CanLoad s.chip n ((s.chip.core n).reg rs1).v.toNat 64 → isPaged ((s.chip.core n).reg rs1).v.toNat = false →
    firstFree (s.chip.core n).handles 256 = some h →
    (((s.chip.core n).reg rs2).t = .int → ((s.chip.core n).reg rs2).v.toNat < 2 ^ 9 → Completes (.wq n rd rs1 rs2) s (fun d =>
      d = s.chip.retires n [rd] (({ s.chip.core n with
        handles := tput (s.chip.core n).handles h
          ⟨s.chip.desc ((s.chip.core n).reg rs1).v.toNat, (if 256 ≤ ((s.chip.core n).reg rs2).v.toNat then 256 else ((s.chip.core n).reg rs2).v.toNat),
          (s.chip.core n).planctx, none, false, none, none⟩ } : ArmCore).setReg rd ⟨BitVec.ofNat 64 (h + (s.chip.core n).gen h % 2 ^ 24 * 2 ^ 8), .desc⟩)
        ((s.chip.core n).pc + 4))) ∧
    (((s.chip.core n).reg rs2).t = .keyh → Completes (.wqk n rd rs1 rs2) s (fun d =>
      d = s.chip.retires n [rd] (({ s.chip.core n with
        handles := tput (s.chip.core n).handles h
          ⟨s.chip.desc ((s.chip.core n).reg rs1).v.toNat, 256, (s.chip.core n).planctx, some (keyOfValue ((s.chip.core n).reg rs2).v.toNat), true, none, none⟩ }
        : ArmCore).setReg rd ⟨BitVec.ofNat 64 (h + (s.chip.core n).gen h % 2 ^ 24 * 2 ^ 8), .desc⟩) ((s.chip.core n).pc + 4)))) ∧
  (∀ (s : State) (n : Fin 16) (rd rs1 : Fin 32) (h : Handle), CanIssue s.chip n → ((s.chip.core n).reg rs1).t = .desc →
    tget (s.chip.core n).handles (((s.chip.core n).reg rs1).v.toNat % 256) = some h →
    ((s.chip.core n).reg rs1).v = BitVec.ofNat 64 (((s.chip.core n).reg rs1).v.toNat % 256 +
      (s.chip.core n).gen (((s.chip.core n).reg rs1).v.toNat % 256) % 2 ^ 24 * 2 ^ 8) →
    (∀ q, h.seq = some q → Completes (.wseq n rd rs1) s (fun d =>
      d = s.chip.retires n [rd] ((s.chip.core n).setReg rd ⟨BitVec.ofNat 64 q, .seq⟩) ((s.chip.core n).pc + 4))) ∧
    (h.seq = none → Completes (.wseq n rd rs1) s (fun d => d = s.chip)) ∧
    (∀ ws, h.reply = some ws → Completes (.wwait n rd rs1 0) s (fun d =>
      d = s.chip.retires n [rd] ((s.chip.core n).setReg rd ⟨ws.headD 0, .int⟩) ((s.chip.core n).pc + 4))) ∧
    (h.reply = none → Completes (.wwait n rd rs1 0) s (fun d => d = s.chip)) ∧
    (∀ (ws : List Word) (rs2 : Fin 32), h.reply = some ws → ws.length = 4 → rs2 ≠ 0 → ((s.chip.core n).reg rs2).t = .ptr →
      CanStore s.chip n ((s.chip.core n).reg rs2).v.toNat 32 → Completes (.wwait n rd rs1 rs2) s (fun d =>
        d.num ((s.chip.core n).reg rs2).v.toNat 8 = (ws.headD 0).toNat ∧ (d.core n).pc = (s.chip.core n).pc + 4 ∧
        (∀ b, b < ((s.chip.core n).reg rs2).v.toNat ∨ ((s.chip.core n).reg rs2).v.toNat + 32 ≤ b → d.byteAt b = s.chip.byteAt b))) ∧
    Completes (.wpoll n rd rs1) s (fun d =>
      d = s.chip.retires n [rd] ((s.chip.core n).setReg rd ⟨(if h.reply.isSome then 1 else 0), .int⟩) ((s.chip.core n).pc + 4)) ∧
    (s.chip.handleDone h = true → Completes (.wfree n rs1) s (fun d => d = s.chip.retires n [] { s.chip.core n with
      handles := tdel (s.chip.core n).handles (((s.chip.core n).reg rs1).v.toNat % 256),
      gens := tput (s.chip.core n).gens (((s.chip.core n).reg rs1).v.toNat % 256)
          (((s.chip.core n).gen (((s.chip.core n).reg rs1).v.toNat % 256) + 1) % 2 ^ 24) } ((s.chip.core n).pc + 4))) ∧
    (s.chip.handleDone h = false → (s.chip.core n).intrap = false → Completes (.wfree n rs1) s (fun d =>
      d = s.chip.traps n 0x0D ((s.chip.core n).reg rs1).v.toNat))) ∧
  (∀ (s : State) (n : Fin 16) (rd rs1 : Fin 32), CanIssue s.chip n → ((s.chip.core n).reg rs1).t = .int →
    (s.chip.mayOpen n (keyOfValue ((s.chip.core n).reg rs1).v.toNat) = true → Completes (.kopen n rd rs1) s (fun d =>
      d = s.chip.retires n [rd] ((s.chip.core n).setReg rd ⟨BitVec.ofNat 64 (((s.chip.core n).reg rs1).v.toNat % 2 ^ 17), .keyh⟩)
        ((s.chip.core n).pc + 4))) ∧
    (s.chip.mayOpen n (keyOfValue ((s.chip.core n).reg rs1).v.toNat) = false → (s.chip.core n).intrap = false →
      Completes (.kopen n rd rs1) s (fun d => d = s.chip.traps n 0x0E ((s.chip.core n).reg rs1).v.toNat))) ∧
  (∀ (s : State) (n : Fin 16) (rd rs1 rs2 : Fin 32), CanIssue s.chip n → ((s.chip.core n).reg rs1).t = .ptr → ((s.chip.core n).reg rs2).t = .int →
    CanLoad s.chip n ((s.chip.core n).reg rs1).v.toNat 64 → isPaged ((s.chip.core n).reg rs1).v.toNat = false →
    s.chip.admits (s.chip.originDomain (.core n 256)) = true →
    s.chip.heldBy n < 4096 → (s.chip.core n).loads = [] → Completes (.lacc n rd rs1 rs2) s (fun d =>
      d.led.nextSeq = s.chip.led.nextSeq + 1 ∧ tget (d.core n).laccs s.chip.led.nextSeq = some 0 ∧
      d.ids = s.chip.ids ++ [⟨s.chip.led.nextSeq, lowestSlot s.chip.led.items, .armature n, s.chip.originDomain (.core n 256),
        ((s.chip.core n).reg rs2).v.toNat % 2 ^ 32, .core n 256⟩] ∧
      (rd ≠ 0 → (d.core n).reg rd = ⟨BitVec.ofNat 64 s.chip.led.nextSeq, .seq⟩) ∧ (d.core n).pc = (s.chip.core n).pc + 4)) ∧
  (∀ (s : State) (n : Fin 16) (rd rs1 : Fin 32) (i : Item), CanIssue s.chip n → ((s.chip.core n).reg rs1).t = .seq →
    i.seq = ((s.chip.core n).reg rs1).v.toNat → tget (s.chip.core n).laccs i.seq = some 0 → s.chip.item i.seq = some i → i.state.ended = false →
    i.kind = .armature n →
    (predsEnded s.chip.led.items i = true → s.chip.commits = true → Completes (.lcmt n rd rs1 0) s (fun d =>
      ∃ j, d.item i.seq = some j ∧ j.state = .committed)) ∧
    (∀ rs2 : Fin 32, rs2 ≠ 0 → ((s.chip.core n).reg rs2).t = .ptr → CanLoad s.chip n ((s.chip.core n).reg rs2).v.toNat 64 →
      isPaged ((s.chip.core n).reg rs2).v.toNat = false → predsEnded s.chip.led.items i = true → s.chip.commits = true →
      Completes (.lcmt n rd rs1 rs2) s (fun d => ∃ j, d.item i.seq = some j ∧ j.state = .committed ∧ j.redo = true ∧
        j.body = s.chip.desc ((s.chip.core n).reg rs2).v.toNat)) ∧
    (predsEnded s.chip.led.items i = false → Completes (.lcmt n rd rs1 0) s (fun d => d = s.chip)) ∧
    (s.chip.led.lost = false → i.crec ≠ .taken → Completes (.lwdr n rd rs1) s (fun d => ∃ j, d.item i.seq = some j ∧ j.state = .withdrawn)) ∧
    (i.crec = .taken → Completes (.lwdr n rd rs1) s (fun d => d = s.chip.retires n [rd]
      ((s.chip.core n).setReg rd ⟨BitVec.ofNat 64 Code.ALREADY_DONE, .int⟩) ((s.chip.core n).pc + 4))))

/-- R312, R313, R324, R337, R340 and R342 to R345. -/
def Obligations.SystemInstructions : Prop :=
  (∀ (s : State) (n : Fin 16) (rd : Fin 32) (k : Fin 4096), CanIssue s.chip n →
    (∀ x, s.chip.csrRead n k = some x → Completes (.csrr n rd k) s (fun d =>
      d = (s.chip.retires n [rd] ((s.chip.core n).setReg rd x) ((s.chip.core n).pc + 4)).takeFree)) ∧
    (s.chip.csrRead n k = none → (s.chip.core n).intrap = false → Completes (.csrr n rd k) s (fun d => ∃ w, d = s.chip.traps n 0x01 w))) ∧
  (∀ (s : State) (n : Fin 16) (rd rs1 : Fin 32) (k : Fin 4096) (old : TVal), CanIssue s.chip n → s.chip.csrRead n k = some old →
    csrWritable k = true → ((s.chip.core n).reg rs1).t = .int →
    Completes (.csrw n k rs1) s (fun d => d = s.chip.retires n [0] ((s.chip.core n).csrWrite k ((s.chip.core n).reg rs1)) ((s.chip.core n).pc + 4)) ∧
    Completes (.csrs n rd k rs1) s (fun d => d = s.chip.retires n [rd]
      (((s.chip.core n).csrWrite k ⟨old.v ||| ((s.chip.core n).reg rs1).v, .int⟩).setReg rd old) ((s.chip.core n).pc + 4)) ∧
    Completes (.csrc n rd k rs1) s (fun d => d = s.chip.retires n [rd]
      (((s.chip.core n).csrWrite k ⟨old.v &&& ~~~((s.chip.core n).reg rs1).v, .int⟩).setReg rd old) ((s.chip.core n).pc + 4))) ∧
  (∀ (s : State) (n : Fin 16) (rd rs1 : Fin 32) (k : Fin 4096), CanIssue s.chip n → csrWritable k = false → (s.chip.core n).intrap = false →
    ∀ c ∈ [Instr.csrw n k rs1, .csrs n rd k rs1, .csrc n rd k rs1], Completes c s (fun d => ∃ w, d = s.chip.traps n 0x01 w)) ∧
  (∀ (s : State) (n : Fin 16) (k : Fin 1024), CanIssue s.chip n → (s.chip.core n).intrap = false →
    Completes (.trap n k) s (fun d => d = s.chip.traps n 0x0F k) ∧ Completes (.brk n) s (fun d => d = s.chip.traps n 0x10 (s.chip.core n).pc.toNat)) ∧
  (∀ (s : State) (n : Fin 16), CanIssue s.chip n → (s.chip.core n).ldValid = false → Completes (.eret n) s (fun d =>
    d = s.chip.retires n [] { s.chip.core n with ie := (s.chip.core n).pie, intrap := false } (s.chip.core n).epc)) ∧
  (∀ (s : State) (n : Fin 16) (t : Tag), CanIssue s.chip n → (s.chip.core n).ldValid = true → Tag.ofCode (s.chip.core n).ldTag = some t →
    (s.chip.core n).loads = [] → Completes (.eret n) s (fun d => (d.core n).pc = (s.chip.core n).epc ∧ (d.core n).ie = (s.chip.core n).pie ∧
      (d.core n).intrap = false ∧ (∃ l, (d.core n).loads = [l] ∧ l.rd.val = (s.chip.core n).ldReg % 32 ∧ l.val = ⟨(s.chip.core n).ldVal, t⟩ ∧
        l.slotDone = false ∧ l.ready = true ∧ l.slotWins = true) ∧ Frame [.arm, .ldr] s.chip d)) ∧
  (∀ (s : State) (n : Fin 16), CanIssue s.chip n →
    ((∃ l ∈ (s.chip.core n).loads, l.ready = false) → Completes (.fenceInsn n) s (fun d => d = s.chip)) ∧
    ((∀ l ∈ (s.chip.core n).loads, l.ready = true) → Completes (.fenceInsn n) s (fun d =>
      d = s.chip.retires n [] (s.chip.core n) ((s.chip.core n).pc + 4))) ∧
    Completes (.ifenceInsn n) s (fun d => d = s.chip.retires n [] { s.chip.core n with codeStale := false } ((s.chip.core n).pc + 4)) ∧
    ((s.chip.core n).ipend &&& ((s.chip.core n).ien + 16) = 0 → Completes (.waite n) s (fun d => d = s.chip)) ∧
    ((s.chip.core n).ipend &&& ((s.chip.core n).ien + 16) ≠ 0 → Completes (.waite n) s (fun d =>
      d = s.chip.retires n [] (s.chip.core n) ((s.chip.core n).pc + 4)))) ∧
  (∀ (s : State) (n : Fin 16) (b : Nat), s.chip.coreRuns n = true → (s.chip.core n).loads = [] → s.chip.tracing n = false →
    (s.chip.core n).interrupt = some b → (s.chip.core n).intrap = false → Completes (.interruptTaken n) s (fun d => d = s.chip.setCore n { s.chip.core n with
      epc := (s.chip.core n).pc, cause := BitVec.ofNat 64 (0x20 + b + 2 ^ 31), tval := 0, pie := (s.chip.core n).ie, ie := false, intrap := true,
      pc := (s.chip.core n).tvec })) ∧
  (∀ (s : State) (n : Fin 16), (s.chip.core n).interrupt = none → Completes (.interruptTaken n) s (fun d => d = s.chip))

/-- R307, R311, R336, R340 and R341, shown on ADD, BRK and MOV. -/
def Obligations.TakingATrap : Prop :=
  (∀ (d : Chip) (n : Fin 16) (code tval : Nat), (d.core n).intrap = false → d.tracing n = false → (d.core n).loads = [] →
    d.armTrap n code tval false false false = d.traps n code tval ∧ ((d.traps n code tval).core n).epc = (d.core n).pc ∧
    ((d.traps n code tval).core n).pie = (d.core n).ie ∧ ((d.traps n code tval).core n).ie = false ∧
    ((d.traps n code tval).core n).intrap = true ∧ ((d.traps n code tval).core n).pc = (d.core n).tvec ∧
    (∀ r, ((d.traps n code tval).core n).reg r = (d.core n).reg r) ∧ ((d.traps n code tval).core n).a = (d.core n).a ∧
    ((d.traps n code tval).core n).rs = (d.core n).rs ∧ ((d.traps n code tval).core n).rsDepth = (d.core n).rsDepth ∧
    (∀ m : Nat, m ≠ n → (d.traps n code tval).core m = d.core m) ∧ Frame [.arm] d (d.traps n code tval)) ∧
  (∀ (s : State) (n : Fin 16) (rd rs1 rs2 : Fin 32), s.chip.coreRuns n = true → (s.chip.core n).loads = [] → (s.chip.core n).intrap = false →
    s.chip.tracing n = false → (s.chip.core n).stepping = false → s.chip.spent (s.chip.core n).planctx = false →
    (∀ p ∈ s.chip.mu.flips, overlaps (s.chip.core n).pc.toNat 4 p.1 32 = false) → ∀ c ∈ [Instr.add n rd rs1 rs2, .brk n, .mov n rd rs1],
    (fetchable n (s.chip.core n).pc.toNat = false → Completes c s (fun d => d = s.chip.traps n 0x08 (s.chip.core n).pc.toNat)) ∧
    (fetchable n (s.chip.core n).pc.toNat = true → s.chip.anyPoison (s.chip.core n).pc.toNat 4 = true →
      Completes c s (fun d => d = (s.chip.noteRead (s.chip.core n).pc.toNat 4).traps n 0x08 (s.chip.core n).pc.toNat true))) ∧
  (∀ (s : State) (n : Fin 16), CanIssue s.chip n → (s.chip.core n).intrap = true → Completes (.brk n) s (fun d =>
    d = ((s.chip.crash n).fault (Src.AC_DOUBLE_TRAP n)).stepOver n)) ∧
  (∀ (s : State) (n : Fin 16) (rd rs1 rs2 : Fin 32), (s.chip.coreRuns n = false ∨ s.chip.spent (s.chip.core n).planctx = true ∨ ∃ l ∈ (s.chip.core n).loads, l.slotDone = true) →
    ∀ c ∈ [Instr.add n rd rs1 rs2, .brk n, .mov n rd rs1], Completes c s (fun d => d = s.chip))

/-- R314 to R324: no bit of an encoding is dropped, in either direction. -/
def Obligations.EncodeDecode : Prop :=
  (∀ (i : Instr) (w : Nat), encodeInsn i = some w → w < 2 ^ 32 ∧ ∃ n : Fin 16, decodeInsn n w = some i) ∧
  (∀ (n : Fin 16) (w : Nat) (i : Instr), w < 2 ^ 32 → decodeInsn n w = some i → encodeInsn i = some w)

/-- The worked example's words, and the two words that are always ILLEGAL (R315). -/
def Obligations.ExampleWords : Prop :=
  decodeInsn 3 0x0000_0002 = some (.addi 3 0 0 0) ∧ decodeInsn 3 0x0007_4510 = some (.ld 3 10 20 3 0) ∧ decodeInsn 3 0x0087_4590 = some (.ld 3 11 20 3 8) ∧
  decodeInsn 3 0x0088_A531 = some (.retag 3 10 10 4) ∧ decodeInsn 3 0x0040_0038 = some (.acz 3 0) ∧
  decodeInsn 3 0x0070_05A0 = some (.beq 3 11 0 7) ∧ decodeInsn 3 0x0014_A438 = some (.macd 3 0 2 10 10) ∧
  decodeInsn 3 0xFFF8_B582 = some (.addi 3 11 11 (-4)) ∧ decodeInsn 3 0xFFB2_05A0 = some (.bne 3 11 0 (-5)) ∧
  decodeInsn 3 0x0080_0638 = some (.acrdD 3 12 0 false) ∧ decodeInsn 3 0x0082_06B8 = some (.acrdD 3 13 0 true) ∧
  decodeInsn 3 0x001A_C630 = some (.faddD 3 12 12 13) ∧ decodeInsn 3 0x0107_4611 = some (.st 3 12 20 3 16) ∧
  decodeInsn 3 0x0080_0023 = some (.retInsn 3) ∧ decodeInsn 3 0 = none ∧ decodeInsn 3 0xFFFF_FFFF = none

/-- R354 to R358 and R361. -/
def Obligations.CommandWindow : Prop :=
  (∀ (s : State) (r : Nat) (x : Desc), s.chip.fetched.contains (r % 2048) = false → Completes (.commandDispatch r x) s (fun d => d = s.chip)) ∧
  (∀ (s : State) (r n i : Nat) (x : Desc), s.chip.fetched.contains (r % 2048) = true → n < 16 →
    (if s.chip.rg (Reg.HIF_RING.KIND (r % 2048)) = 2 then s.chip.groupCore x.cGroup else s.chip.servingCore x) = some n →
    (List.range 256).find? (fun i => s.chip.inboxFlags n i % 2 = 0) = some i → Completes (.commandDispatch r x) s (fun d =>
      d.desc (inboxAddr n i) = x ∧ d.num (inboxAddr n i + 64) 8 = 0 ∧ d.num (inboxAddr n i + 72) 2 = r % 2048 ∧ d.inboxFlags n i = 1 ∧
      bitOf (d.core n).ipend 2 = true ∧ d.fetched = s.chip.fetched ∧ Frame [.mem, .mu, .arm] s.chip d)) ∧
  (∀ (s : State) (n : Fin 16) (i r : Nat), i = s.chip.rg (Reg.AMT_CMD.SEQ n) % 256 → s.chip.inboxOrigin n i = some (.ring r) → r < 2048 →
    r = s.chip.num (inboxAddr n i + 72) 2 →
    (s.chip.heldBy n < 4096 → s.chip.admits (.ring r) = true → Completes (.accept n) s (fun d => d.led.nextSeq = s.chip.led.nextSeq + 1 ∧
      d.ids = s.chip.ids ++ [⟨s.chip.led.nextSeq, lowestSlot s.chip.led.items, s.chip.entryKind r (s.chip.desc (inboxAddr n i)), .ring r,
        s.chip.entryTag r (s.chip.desc (inboxAddr n i)), .ring r⟩] ∧
      d.rg (Reg.AMT_CMD.ACCEPTED_SEQ n) = s.chip.led.nextSeq % 2 ^ 64 ∧ d.rg (Reg.AMT_CMD.RESULT n) = 2 ^ 63 ∧ d.fetched.contains r = false)) ∧
    (4096 ≤ s.chip.heldBy n ∨ s.chip.admits (.ring r) = false → Completes (.accept n) s (fun d => d.rg (Reg.AMT_CMD.RESULT n) = 0 ∧
      tget d.fw.accepting n = some i ∧ Frame [.regs, .fw] s.chip d)) ∧
    Completes (.refuse n) s (fun d => d.led.items = s.chip.led.items ∧ d.led.nextSeq = s.chip.led.nextSeq ∧ d.rg (Reg.AMT_CMD.RESULT n) = 2 ^ 63 ∧
      ∃ y ∈ d.owed, y.ring = r ∧ y.code = s.chip.rg (Reg.AMT_CMD.CODE n) ∧ y.seq = 0)) ∧
  (∀ (s : State) (n : Fin 16), s.chip.inboxOrigin n (s.chip.rg (Reg.AMT_CMD.SEQ n) % 256) = none →
    Completes (.accept n) s (fun d => d.rg (Reg.AMT_CMD.RESULT n) = 2 ^ 63 + Code.ACCESS_VIOLATION ∧ Frame [.regs, .arm] s.chip d) ∧
    Completes (.refuse n) s (fun d => d.rg (Reg.AMT_CMD.RESULT n) = 2 ^ 63 + Code.ACCESS_VIOLATION ∧ Frame [.regs, .arm] s.chip d)) ∧
  (∀ (s : State) (n : Fin 16) (i : Item), s.chip.item (s.chip.rg (Reg.AMT_CMD.SEQ n)) = some i → i.seq = s.chip.rg (Reg.AMT_CMD.SEQ n) →
    (i.owner ≠ 0x40 + n ∨ i.state = .committed → Completes (.endItem n) s (fun d =>
      d.rg (Reg.AMT_CMD.RESULT n) = 2 ^ 63 + Code.ACCESS_VIOLATION ∧ Frame [.regs, .arm] s.chip d)) ∧
    (i.owner = 0x40 + n → i.state.ended = false → s.chip.rg (Reg.AMT_CMD.CODE n) = Code.OK → s.chip.rg (Reg.AMT_CMD.REDO n) = 0 → s.chip.fw.ends = [] →
      predsEnded s.chip.led.items i = true → s.chip.commits = true → Completes (.endItem n) s (fun d =>
        (∃ j, d.item i.seq = some j ∧ j.state = .committed ∧ j.reply.code = Code.OK) ∧ d.ids = s.chip.ids))) ∧
  (∀ (s : State) (n : Fin 16) (v : Word), Completes (.amtMsg n v) s (fun d => bitOf (d.core n).ipend 3 = true ∧
    d.rg (Reg.AMT_MSG.BITS n) = s.chip.rg (Reg.AMT_MSG.BITS n) ||| (v.toNat % (if n = 0 then 2 ^ 62 else 2 ^ 64)) ∧ Frame [.regs, .arm] s.chip d))

/-- R352, R364 and R370 to R376. -/
def Obligations.FirmwareAndCores : Prop :=
  (∀ (s : State) (n : Fin 16), Completes (.amtWdogPet n) s (fun d => d = { s.chip with fw := { s.chip.fw with pets := tput s.chip.fw.pets n s.chip.tick } })) ∧
  (∀ (s : State) (n : Fin 16) (t : Nat), tget s.chip.fw.pets n = some t → s.chip.tick - t < s.chip.usTicks (s.chip.rg Reg.AMT_WDOG_CFG.LIMIT) - 1 →
    Completes (.acWdog n) s (fun d => d = s.chip)) ∧
  (∀ (s : State) (n : Fin 16), s.chip.coreRuns n = true →
    (∀ t, tget s.chip.fw.pets n = some t → s.chip.usTicks (s.chip.rg Reg.AMT_WDOG_CFG.LIMIT) - 1 ≤ s.chip.tick - t) → Completes (.acWdog n) s (fun d =>
    d = (s.chip.fault (Src.AC_WDOG n)).crash n ∧ d.ids = s.chip.ids)) ∧
  (∀ (s : State) (n : Fin 16), n = 0 ∨ s.chip.rg (Reg.AMT_CORE_STATE.STATE n) = 6 → ∀ c ∈ [Instr.coreRestart n, .coreRetire n],
    Completes c s (fun d => (∃ x, d.answer = some x ∧ x.taken = false) ∧ Frame [.answer] s.chip d)) ∧
  (∀ (s : State) (n : Fin 16), n ≠ 0 → s.chip.rg (Reg.AMT_CORE_STATE.STATE n) ≠ 6 →
    (Completes (.coreRestart n) s (fun d => d = (s.chip.crash n).answered (.ac n) true) ∧
      Completes (.coreRetire n) s (fun d => d = (s.chip.retireAc n).answered (.ac n) true)) ∧
    ((s.chip.core n).crashes = [] → Completes (.coreRestart n) s (fun d => d.rg (Reg.AMT_CORE_STATE.STATE n) = 1 ∧
      (∃ x, d.answer = some x ∧ x.taken = true) ∧ d.ids = s.chip.ids)) ∧
    Completes (.coreRetire n) s (fun d => (∃ x, d.answer = some x ∧ x.taken = true) ∧ d.ids = s.chip.ids ∧ d.ldr.readmit = true)) ∧
  (∀ (s : State) (n : Fin 16), s.chip.rg (Reg.AMT_CORE_STATE.STATE n) = 1 → s.chip.flag (Reg.OBS_DBG_CTRL.HALTED n) = false →
    (s.chip.core n).released = true → Completes (.coreRestartComplete n) s (fun d => d = (s.chip.coreGiveBack n).coreReload n (s.chip.coreImage n) ∧
      ((∀ i ∈ s.chip.led.items, i.kind ≠ .coll) → d.rg (Reg.AMT_CORE_STATE.STATE n) = 0 ∧ d.ids = s.chip.ids))) ∧
  (∀ s : State, s.chip.flag Reg.PCR_STATE.MAQ_LOADED = false ∨ s.chip.flag Reg.FLT_SAFE.SAFE = true ∨ (s.chip.core 0).released = true →
    Completes .firmwareStart s (fun d => d = s.chip)) ∧
  (∀ s : State, s.chip.flag Reg.PCR_STATE.MAQ_LOADED = true → s.chip.flag Reg.FLT_SAFE.SAFE = false → (s.chip.core 0).released = false →
    Completes .firmwareStart s (fun d => d = s.chip.firmwareStart) ∧
    ((∀ dev ≤ 1, ∀ slot ≤ 1, s.chip.slotImage dev slot = none) → Completes .firmwareStart s (fun d => d.flag Reg.FLT_SAFE.SAFE = true ∧ d.led = s.chip.led)) ∧
    ((s.chip.slotImage 0 ((s.chip.bootRec.getD ⟨0, 0, 0⟩).active % 2)).isSome = true → s.chip.rg (Reg.AMT_CORE_STATE.STATE 15) ≠ 6 →
      Completes .firmwareStart s (fun d => d.rg (Reg.AMT_CORE_STATE.STATE 15) = 0 ∨ d.rg (Reg.AMT_CORE_STATE.STATE 15) = 6))) ∧
  (∀ (s : State) (src : Submit) (a o l : Nat), s.chip.coreServes (s.chip.roleCore 0) = true → TakenUp s.chip src .amt false 0 → o < 2 ^ 32 → l < 2 ^ 32 →
    (o % 4096 ≠ 0 ∨ l % 4096 ≠ 0 ∨ l > 0x40_0000 ∨ o + l > 0x200_0000 → Completes (.fwDownload src a o l) s (fun d => d.led = s.chip.led ∧ d.mem = s.chip.mem)) ∧
    (o % 4096 = 0 → l % 4096 = 0 → l ≤ 0x40_0000 → o + l ≤ 0x200_0000 → s.chip.accessOk (s.chip.originFn src.origin) a l false = true →
      Completes (.fwDownload src a o l) s (fun d => Accepted s.chip d src (.general 0x0501) (s.chip.originDomain src.origin) ∧
        (let b := ((s.chip.dropHand src.origin).acceptCmd src (.general 0x0501) (genBody 0x0501 src [a, o + l * 2 ^ 32]) (s.chip.originDomain src.origin)
           (0x40 + s.chip.roleCore 0)).noteRead a l
         d = (b.writeRange (stagingBase + o) (b.lineRead a l)).finish s.chip.led.nextSeq
           (if b.writeLost (stagingBase + o) l || (b.lineRead a l).any (·.2) then Code.POISONED_DATA else Code.OK))))) ∧
  (∀ (s : State) (src : Submit) (l : Nat) (ok : Bool), s.chip.coreServes (s.chip.roleCore 0) = true → TakenUp s.chip src .amt false 0 →
    (s.chip.fw.actSeq ≠ 0 → Completes (.fwStage src l ok) s (fun d => d.led = s.chip.led ∧ d.fw = s.chip.fw)) ∧
    (s.chip.fw.actSeq = 0 → Completes (.fwStage src l ok) s (fun d => Accepted s.chip d src (.general 0x0502) (s.chip.originDomain src.origin)))) ∧
  (∀ (s : State) (src : Submit) (k m : BitVec 8) (b : BootRec), s.chip.coreServes (s.chip.roleCore 0) = true → TakenUp s.chip src .amt false 0 →
    s.chip.bootRec = some b →
    (m.toNat > 1 ∨ k.toNat > 1 ∨ bitOf b.state k.toNat = false ∨ k.toNat = b.active ∨ s.chip.fw.actSeq ≠ 0 →
      Completes (.fwActivate src k m) s (fun d => d.led = s.chip.led ∧ d.fw = s.chip.fw)) ∧
    (m.toNat = 0 → k.toNat ≤ 1 → bitOf b.state k.toNat = true → k.toNat ≠ b.active → s.chip.fw.actSeq = 0 →
      Completes (.fwActivate src k m) s (fun d => Accepted s.chip d src (.general 0x0503) (s.chip.originDomain src.origin)))) ∧
  (∀ s : State, s.chip.calm = false → Completes .activationDeferralEnd s (fun d => d = s.chip)) ∧
  (∀ s : State, s.chip.calm = true → s.chip.rg Reg.AMT_FW_STATE.ACT = 3 → Completes .activationDeferralEnd s (fun d =>
    d.rg Reg.AMT_FW_STATE.ACT = 2 ∧ Frame [.regs] s.chip d)) ∧
  (∀ s : State, s.chip.calm = true → s.chip.rg Reg.AMT_FW_STATE.ACT = 1 → Completes .activationDeferralEnd s (fun d =>
    d = (s.chip.sr Reg.AMT_FW_STATE.ACT 0).activateGo)) ∧
  (∀ (s : State) (n : Fin 16), s.chip.rg Reg.AMT_FW_STATE.ACT ≠ 2 ∨ n.val ≠ s.chip.fw.next → Completes (.coreSwitch n) s (fun d => d = s.chip)) ∧
  (∀ (s : State) (n : Fin 16), s.chip.rg Reg.AMT_FW_STATE.ACT = 2 → n.val = s.chip.fw.next →
    (s.chip.cal.emergency = true → Completes (.coreSwitch n) s (fun d => d.rg Reg.AMT_FW_STATE.ACT = 3 ∧ Frame [.regs] s.chip d)) ∧
    (s.chip.cal.emergency = false → n ≠ 0 → s.chip.rg (Reg.AMT_CORE_STATE.STATE n) ≠ 6 → Completes (.coreSwitch n) s (fun d =>
      d = (let b := (s.chip.coreGiveBack n).coreReload n (imageBase (!s.chip.fw.swapped))
           let c : Chip := { b with fw := { b.fw with next := n.val - 1 } }
           if c.cal.emergency then c.sr Reg.AMT_FW_STATE.ACT 3 else c) ∧
      ((∀ i ∈ s.chip.led.items, i.kind ≠ .coll) → d.fw.next = n.val - 1 ∧ d.rg (Reg.AMT_CORE_STATE.STATE n) = 0 ∧ d.ids = s.chip.ids))) ∧
    (s.chip.cal.emergency = false → n = 0 → s.chip.rg (Reg.AMT_CORE_STATE.STATE n) ≠ 6 → Completes (.coreSwitch n) s (fun d =>
      d = ((s.chip.coreGiveBack n).coreReload n (imageBase (!s.chip.fw.swapped))).activateDone)))

/-- R381 to R387. `s.chip.rxFrame p w vc id` is the chip once the link has taken the frame and delivered its symbol; a frame's flit acts on it. -/
def Obligations.LinkFrames : Prop :=
  (∀ (s : State) (p : Fin 12) (w : LinkWord) (a : BitVec 38) (l r : Fin 4) (cn : Fin 8) (o : BitVec 24) (b : BitVec 45) (c : BitVec 48) (ph : Fin 2) (ok : Bool)
      (fl : List (BitVec 8)) (rs : BitVec 39) (ty : Fin 8) (cx : BitVec 42),
    ∀ x ∈ [Instr.writeFrame p w a l r fl, .writeHpFrame p w a l r fl, .readReqFrame p w cn (rs, fl), .readCplFrame p w l o b fl, .tagFrame p w (cx, c) ph ok,
        .ctrlFrame p (w, ty, cx)],
      (s.chip.portUp p = false ∨ s.chip.isDvl p = false → Completes x s (fun d => d = s.chip)) ∧
      (s.chip.portUp p = true → s.chip.isDvl p = true → PortsQuiet s.chip → w.fec = 0 → w.seq.val ≠ (s.chip.port p).rxNext →
        ((s.chip.port p).nakSent = true → Completes x s (fun d => d = s.chip.count (Reg.LNK_COUNT.COUNT p 1))) ∧
        ((s.chip.port p).nakSent = false → (s.chip.port p).waiting = [] → s.chip.flag Reg.FLT_SAFE.SAFE = false → (s.chip.port p).maySend (s.chip.sealed p) 8 = true →
          Completes x s (fun d => d = (s.chip.count (Reg.LNK_COUNT.COUNT p 1)).setPort p
            ({ s.chip.port p with nakSent := true }.send ⟨0, 8, 0, [], (2, 1, 0), 0, 0⟩))))) ∧
  (∀ (s : State) (p : Fin 12) (w : LinkWord), s.chip.portUp p = true → s.chip.isDvl p = true → PortsQuiet s.chip → w.seq.val = (s.chip.port p).rxNext →
    (s.chip.port p).waiting = [] → Completes (.ctrlFrame p (w, 0, 0)) s (fun d =>
      d = Chip.frameSymbol ((if w.fec = 0 then s.chip else s.chip.count (Reg.LNK_COUNT.COUNT p 0) w.fec).setPort p { s.chip.port p with
        tx := ((s.chip.port p).acked w.ack).tx
        rxNext := ((s.chip.port p).rxNext + 1) % 2048
        nakSent := false
        credit0 := (s.chip.port p).credit0 + (if w.crdVc = 0 then 8 * w.crdCount.val else 0)
        credit1 := (s.chip.port p).credit1 + (if w.crdVc = 1 then 8 * w.crdCount.val else 0)
        owe0 := (s.chip.port p).owe0 + 1 }) p w)) ∧
  (∀ (s : State) (p : Fin 12) (w : LinkWord) (ty : Fin 8) (cx : BitVec 42), s.chip.portUp p = true → s.chip.isDvl p = true → PortsQuiet s.chip →
    w.seq.val = (s.chip.port p).rxNext →
    (ty = 0 → cx ≠ 0 → Completes (.ctrlFrame p (w, ty, cx)) s (fun d => d = (s.chip.rxFrame p w (some 0) id).linkDrop p true)) ∧
    (ty ≠ 0 → Completes (.ctrlFrame p (w, ty, cx)) s (fun d => d = (s.chip.rxFrame p w none id).linkDrop p true))) ∧
  (∀ (x : LinkPort) (f : TxFrame), (x.send f).tx = x.tx ++ [{ f with seq := x.txNext, crd := x.crd.1 }] ∧ (x.send f).txNext = (x.txNext + 1) % 2048 ∧
    (x.send f).owe0 + x.crd.2.1 = x.owe0 ∧ (x.send f).owe1 + x.crd.2.2 = x.owe1 ∧ x.crd.2.1 % 8 = 0 ∧ x.crd.2.1 ≤ 56 ∧
    (f.type = 7 → (x.send f).credit0 = x.credit0 ∧ (x.send f).credit1 = x.credit1 ∧ (x.send f).recFrames = x.recFrames)) ∧
  (∀ (x : LinkPort) (pre post : List TxFrame) (f : TxFrame), x.tx = pre ++ f :: post → (∀ g ∈ pre, g.seq ≠ f.seq) → (x.acked f.seq).tx = post) ∧
  (∀ (s : State) (p : Fin 12) (w : LinkWord) (a : BitVec 38) (l r : Fin 4) (fl : List (BitVec 8)) (vc : Nat) (x : Instr) (e : Chip),
    (vc, x) ∈ [(1, Instr.writeFrame p w a l r fl), (0, .writeHpFrame p w a l r fl)] → s.chip.portUp p = true → s.chip.isDvl p = true → PortsQuiet s.chip →
    w.seq.val = (s.chip.port p).rxNext → e = s.chip.rxFrame p w (some vc) id →
    (r ≠ 0 ∨ e.writeOk (a.toNat * 256) (64 * (l + 1)) = false ∨ isShared (a.toNat * 256) = true ∨ isAccel (a.toNat * 256) = true ∨
        isHostWin (a.toNat * 256) = true ∨ e.unmapped (a.toNat * 256) (64 * (l + 1)) = true ∨ e.otherRing p (a.toNat * 256) (64 * (l + 1)) = true →
      Completes x s (fun d => d = (e.count (Reg.LNK_COUNT.COUNT p 8)).fault Src.LNK_PROTOCOL p)) ∧
    (r = 0 → e.writeOk (a.toNat * 256) (64 * (l + 1)) = true → isShared (a.toNat * 256) = false → isAccel (a.toNat * 256) = false → isHostWin (a.toNat * 256) = false →
      e.unmapped (a.toNat * 256) (64 * (l + 1)) = false → e.otherRing p (a.toNat * 256) (64 * (l + 1)) = false → fl.length = 256 →
      Completes x s (fun d => d = e.wr (a.toNat * 256) ((fl.map BitVec.toNat).take (64 * (l + 1)))))) ∧
  (∀ (s : State) (p : Fin 12) (w : LinkWord) (cn : Fin 8) (rs : BitVec 39) (fl : List (BitVec 8)) (e : Chip) (qs : List (List Nat)), s.chip.portUp p = true →
    s.chip.isDvl p = true → PortsQuiet s.chip → w.seq.val = (s.chip.port p).rxNext → e = s.chip.rxFrame p w (some 1) id →
    qs = (List.range (cn + 1)).map (fun i => ((fl.map BitVec.toNat).drop (32 * i)).take 32) →
    ((rs ≠ 0 ∨ ∃ q ∈ qs, requestOk e q = false) → Completes (.readReqFrame p w cn (rs, fl)) s (fun d => d = (e.count (Reg.LNK_COUNT.COUNT p 8)).fault Src.LNK_PROTOCOL p)) ∧
    (rs = 0 → (∀ q ∈ qs, requestOk e q = true) → Completes (.readReqFrame p w cn (rs, fl)) s (fun d => d = qs.foldl (fun c q => readReply c p q) e))) ∧
  (∀ (s : State) (p : Fin 12) (w : LinkWord) (fl : List (BitVec 8)) (e : Chip) (q : List Nat), s.chip.portUp p = true → s.chip.isDvl p = true → PortsQuiet s.chip →
    w.seq.val = (s.chip.port p).rxNext → e = s.chip.rxFrame p w (some 1) id → q = (fl.map BitVec.toNat).take 32 →
    requestOk e q = true → fieldAt q 8 4 ≤ 256 → e.noteRead (fieldAt q 0 8) (fieldAt q 8 4) = e → e.portUp p = true → (e.port p).waiting = [] →
      e.flag Reg.FLT_SAFE.SAFE = false → (e.port p).maySend (e.sealed p) 5 = true → Completes (.readReqFrame p w 0 (0, fl)) s (fun d =>
        (d.port p).tx = (e.port p).tx ++ [⟨(e.port p).txNext, 5, (fieldAt q 8 4 / 64 - 1) * 2 ^ 40 + fieldAt q 12 2 * 2 ^ 24,
          e.bytes (fieldAt q 0 8) (fieldAt q 8 4), (0, 0, 0), 0, (e.port p).crd.1⟩] ∧ Frame [.lnk] e d)) ∧
  (∀ (s : State) (p : Fin 12) (w : LinkWord) (l : Fin 4) (o : BitVec 24) (b : BitVec 45) (fl : List (BitVec 8)), s.chip.portUp p = true → s.chip.isDvl p = true →
    PortsQuiet s.chip → w.seq.val = (s.chip.port p).rxNext → fl.length = 256 → Completes (.readCplFrame p w l o b fl) s (fun d =>
      d = (s.chip.rxFrame p w (some 1) id).writeRange (memberWindow p + (b.toNat + 256 * o.toNat) % 2 ^ 45)
        ((((fl.map BitVec.toNat)).take (64 * (l + 1))).map (fun y => (y, false))))) ∧
  (∀ (s : State) (p : Fin 12) (w : LinkWord) (cx : BitVec 42) (c : BitVec 48) (ph : Fin 2) (ok : Bool) (e : Chip), s.chip.portUp p = true → s.chip.isDvl p = true → PortsQuiet s.chip →
    w.seq.val = (s.chip.port p).rxNext → e = s.chip.rxFrame p w none id →
    (e.sealed p = false ∨ cx ≠ 0 → Completes (.tagFrame p w (cx, c) ph ok) s (fun d => d = (e.count (Reg.LNK_COUNT.COUNT p 8)).fault Src.LNK_PROTOCOL p)) ∧
    (e.sealed p = true → e.loadedFor (e.rg (rxSlotFld p ph)) uINLINE = true → (∀ k, tget e.sec.rxCounter (2 * p + ph) = some k → k < c.toNat) →
      Completes (.tagFrame p w (0, c) ph true) s (fun d => tget d.sec.rxCounter (2 * p + ph) = some c.toNat ∧ (d.port p).rxFirings = [] ∧ (d.port p).rxItems = [] ∧
        bitOf (d.rg Reg.SEC_PORT_PHASE.RX_SEEN) p = decide (ph = 1) ∧ Frame [.sec, .regs, .lnk] e d)) ∧
    (e.sealed p = true → (ok = false ∨ e.loadedFor (e.rg (rxSlotFld p ph)) uINLINE = false ∨ ∃ k, tget e.sec.rxCounter (2 * p + ph) = some k ∧ c.toNat ≤ k) →
      Completes (.tagFrame p w (0, c) ph ok) s (fun d => d = e.tagFail p))) ∧
  (∀ (e : Chip) (p : Nat), (e.port p).rxItems = [] → (e.port p).rxFirings = [] → e.tagFail p =
    ((((e.setPort p { e.port p with unkeyed := true }).count (Reg.LNK_COUNT.COUNT p 7)).count (Reg.SEC_COUNT.COUNT 5)).fault Src.LNK_AUTH p).portDown p) ∧
  (∀ (s : State) (p : Fin 12),
    (s.chip.portUp p = false ∨ s.chip.isDvl p = false → Completes (.frameReceiveFail p) s (fun d => d = s.chip)) ∧
    (s.chip.portUp p = true → s.chip.isDvl p = true → (s.chip.port p).nakSent = true →
      Completes (.frameReceiveFail p) s (fun d => d = s.chip.count (Reg.LNK_COUNT.COUNT p 1))) ∧
    (s.chip.portUp p = true → s.chip.isDvl p = true → (s.chip.port p).nakSent = false → (s.chip.port p).waiting = [] → s.chip.flag Reg.FLT_SAFE.SAFE = false →
      (s.chip.port p).maySend (s.chip.sealed p) 8 = true → Completes (.frameReceiveFail p) s (fun d => d = (s.chip.count (Reg.LNK_COUNT.COUNT p 1)).setPort p
        ({ s.chip.port p with nakSent := true }.send ⟨0, 8, 0, [], (2, 1, 0), 0, 0⟩)))) ∧
  (∀ (s : State) (p : Fin 12), s.chip.portUp p = true → ∀ x ∈ [Instr.nak p, .replayTimeout p],
    ((s.chip.port p).tx = [] → Completes x s (fun d => d = s.chip)) ∧
    ((s.chip.port p).tx ≠ [] → (∀ f ∈ (s.chip.port p).tx, f.resent < 2) → Completes x s (fun d =>
      d = (s.chip.setPort p { s.chip.port p with tx := (s.chip.port p).tx.map (fun f => { f with resent := f.resent + 1 }) }).count (Reg.LNK_COUNT.COUNT p 2))) ∧
    ((∃ f ∈ (s.chip.port p).tx, 2 ≤ f.resent) → Completes x s (fun d =>
      d = ((s.chip.setPort p { s.chip.port p with tx := (s.chip.port p).tx.map (fun f => { f with resent := f.resent + 1 }) }).count (Reg.LNK_COUNT.COUNT p 2)).retrain p ∧
      d.portState p = 4 ∧ d.led = s.chip.led ∧ (d.port p).tx.map (fun f => f.seq) = (s.chip.port p).tx.map (fun f => f.seq)))) ∧
  (∀ (s : State) (p : Fin 12) (ok : Bool), s.chip.portState p ≠ 4 → Completes (.retrainComplete p ok) s (fun d => d = s.chip)) ∧
  (∀ (s : State) (p : Fin 12), s.chip.portState p = 4 → (s.chip.port p).waiting = [] → Completes (.retrainComplete p true) s (fun d =>
    d.portState p = (if (s.chip.port p).half.isSome then 3 else 2) ∧
    d.port p = { s.chip.port p with tx := (s.chip.port p).tx.map (fun f => { f with resent := 0 }), nakSent := false } ∧ Frame [.regs, .lnk] s.chip d)) ∧
  (∀ (s : State) (p : Fin 12), s.chip.portState p = 4 → Completes (.retrainComplete p false) s (fun d => d = s.chip.portDown p)) ∧
  (∀ (s : State) (p : Fin 12), s.chip.portState p = 4 → s.chip.led.items = [] → Completes (.retrainComplete p false) s (fun d => d.portState p = 0 ∧ d.led = s.chip.led)) ∧
  (∀ (s : State) (p : Fin 12), s.chip.portUp p = true → s.chip.sealed p = true → (s.chip.port p).recFrames ≠ 0 →
    (s.chip.slotCounter (s.chip.rg (txSlotFld p (s.chip.port p).phase)) = none → Completes (.recordClose p) s (fun d => d = s.chip.syncDead p)) ∧
    (∀ (c : Nat) (e : Chip), s.chip.slotCounter (s.chip.rg (txSlotFld p (s.chip.port p).phase)) = some (c, e) → e.portUp p = true → e.lnk = s.chip.lnk →
      (s.chip.port p).waiting = [] → e.flag Reg.FLT_SAFE.SAFE = false → (s.chip.port p).maySend true 7 = true → Completes (.recordClose p) s (fun d =>
      (d.port p).recFrames = 0 ∧ (d.port p).recNo = (s.chip.port p).recNo + 1 ∧ (d.port p).phase = e.txPhase p ∧
      (∃ f, (d.port p).tx = (s.chip.port p).tx ++ [f] ∧ f.type = 7 ∧
        f.seq = (s.chip.port p).txNext ∧ (f.flit.drop 16).take 6 = leBytes 6 c ∧ f.flit.getD 24 0 = (s.chip.port p).phase) ∧ d.led = e.led))) ∧
  (∀ (s : State) (p : Fin 12), s.chip.portUp p = false ∨ s.chip.sealed p = false ∨ (s.chip.port p).recFrames = 0 → Completes (.recordClose p) s (fun d => d = s.chip))

/-- R388 to R394 and R399's LNK_CREDIT. -/
def Obligations.LinkCalibration : Prop :=
  (∀ (s : State) (p : Fin 12) (j : Fin 16), s.chip.portUp p = true →
    Completes (.steerPrep p j) s (fun d => d = s.chip.setPort p { s.chip.port p with txMirror := some j.val }) ∧
    Completes (.steerDone p j) s (fun d => d = s.chip.setPort p { s.chip.port p with txTrain := some j.val }) ∧
    Completes (.returnPrep p j) s (fun d => d = s.chip.setPort p { s.chip.port p with txTrain := none, txMirror := some j.val }) ∧
    Completes (.returnDone p j) s (fun d => d = s.chip.setPort p { s.chip.port p with txMirror := none, txTrain := none }) ∧
    Completes (.spare p j) s (fun d => d = s.chip.setPort p { s.chip.port p with txSpared := some j.val, txMirror := none, txTrain := none, txSpareTrain := false }) ∧
    Completes (.spareTrain p) s (fun d => d = s.chip.setPort p { s.chip.port p with txSpareTrain := true, txMirror := none })) ∧
  (∀ (s : State) (p : Fin 12) (h : BitVec 8), s.chip.portUp p = true →
    (1 < h.toNat → Completes (.half p h) s (fun d => d = s.chip.count (Reg.LNK_COUNT.COUNT p 8))) ∧
    (h.toNat ≤ 1 → Completes (.half p h) s (fun d => d = s.chip.linkSymbol p 8 h.toNat ∧ (d.port p).half = some h.toNat ∧ (d.port p).session = none ∧ d.portState p = 4 ∧ d.ldr.readmit = true ∧
      d.led = s.chip.led))) ∧
  (∀ (s : State) (p : Fin 12) (j : Fin 16) (h : BitVec 8), s.chip.portUp p = false →
    ∀ x ∈ [Instr.steerPrep p j, .steerDone p j, .returnPrep p j, .returnDone p j, .spare p j, .spareTrain p, .half p h, .nak p, .replayTimeout p],
      Completes x s (fun d => d = s.chip)) ∧
  (∀ (s : State) (p : Fin 12) (l : Fin 64), PortsQuiet s.chip → s.chip.slotHolds p l = false → s.chip.svcHolds p l = false → s.chip.dmaLine p l = none →
    Completes (.unheldPaceSymbol p l) s (fun d => d = s.chip.count (Reg.LNK_COUNT.COUNT p 8))) ∧
  (∀ (s : State) (p : Fin 12), s.chip.mayCalibrate p = false ∨ (s.chip.port p).retry.isSome = true →
    Completes (.calibrationSessionStart p) s (fun d => d = s.chip)) ∧
  (∀ (s : State) (p : Fin 12), s.chip.mayCalibrate p = true → (s.chip.port p).retry = none → s.chip.rg (Reg.LNK_PORT_STATE.SPARE p) = 0 → (s.chip.port p).nextPos ≤ 16 →
    Completes (.calibrationSessionStart p) s (fun d => (d.port p).session = some ⟨(s.chip.port p).nextPos, if (s.chip.port p).nextPos = 16 then 2 else 1⟩ ∧
      d.rg (Reg.LNK_PORT_STATE.CAL_POS p) = (s.chip.port p).nextPos ∧ Frame [.regs, .lnk] s.chip d)) ∧
  (∀ (s : State) (p : Fin 12) (ok : Bool), (∀ i, (s.chip.port p).session ≠ some ⟨i, 2⟩) → Completes (.trainingTimeExpiry p ok) s (fun d => d = s.chip)) ∧
  (∀ (s : State) (p : Fin 12) (i : Nat), (s.chip.port p).session = some ⟨i, 2⟩ → i ≤ 16 →
    Completes (.trainingTimeExpiry p true) s (fun d => (d.port p).session = (if i = 16 then none else some ⟨i, 3⟩) ∧
      (i = 16 → (d.port p).nextPos = 0) ∧ d.led = s.chip.led ∧ d.mem = s.chip.mem) ∧
    (i < 16 → Completes (.trainingTimeExpiry p false) s (fun d => (d.port p).session = none ∧ d.rg (Reg.LNK_PORT_STATE.SPARED_POS p) = i ∧
      d.rg (Reg.LNK_PORT_STATE.CAL_POS p) = 0x1F ∧ bitOf (d.rg (Reg.LNK_PORT_STATE.FAILED p)) i = true ∧ d.led = s.chip.led ∧ d.mem = s.chip.mem)) ∧
    (i = 16 → Completes (.trainingTimeExpiry p false) s (fun d => d = (s.chip.endSession p).spareFail p))) ∧
  (∀ (s : State) (p : Fin 12) (i st : Nat), (s.chip.port p).session = some ⟨i, st⟩ →
    (st = 2 → Completes (.steerTimeout p) s (fun d => d = s.chip)) ∧
    (st ≠ 2 → Completes (.steerTimeout p) s (fun d => d = ((((s.chip.setPort p { s.chip.port p with session := none, retry := none }).sr
        (Reg.LNK_PORT_STATE.CAL_POS p) 0x1F).setPort p { s.chip.port p with session := none, retry := some (i, s.chip.tick + 1024) }).count
        (Reg.LNK_COUNT.COUNT p 5)).fault Src.LNK_STEER_TIMEOUT p))) ∧
  (∀ (s : State) (p : Fin 12), ((s.chip.port p).session = none → Completes (.steerTimeout p) s (fun d => d = s.chip)) ∧
    ((s.chip.port p).retry = none → Completes (.steerRetry p) s (fun d => d = s.chip))) ∧
  (∀ (s : State) (p : Fin 12) (i due : Nat), (s.chip.port p).retry = some (i, due) →
    (s.chip.tick < due ∨ s.chip.mayCalibrate p = false → Completes (.steerRetry p) s (fun d => d = s.chip)) ∧
    (due ≤ s.chip.tick → s.chip.mayCalibrate p = true → i ≤ 16 → Completes (.steerRetry p) s (fun d =>
      (∃ st, (d.port p).session = some ⟨i, st⟩) ∧ (d.port p).retry = none ∧ d.rg (Reg.LNK_PORT_STATE.CAL_POS p) = i ∧ Frame [.regs, .lnk] s.chip d))) ∧
  (∀ (s : State) (p : Fin 12) (j : Fin 16), (s.chip.posFailed p j = true → Completes (.laneFailure p j) s (fun d => d = s.chip)) ∧
    (s.chip.posFailed p j = false → s.chip.isDvl p = true → s.chip.rg (Reg.LNK_PORT_STATE.SPARE p) ≠ 2 → s.chip.rg (Reg.LNK_PORT_STATE.SPARED_POS p) = 0x1F →
      Completes (.laneFailure p j) s (fun d => d.rg (Reg.LNK_PORT_STATE.SPARE p) = 1 ∧ d.rg (Reg.LNK_PORT_STATE.SPARED_POS p) = j ∧
        bitOf (d.rg (Reg.LNK_PORT_STATE.FAILED p)) j = true ∧ (d.port p).session = none ∧ d.led = s.chip.led ∧ d.mem = s.chip.mem)) ∧
    (s.chip.posFailed p j = false → s.chip.isDvl p = false → Completes (.laneFailure p j) s (fun d =>
      bitOf (d.rg (Reg.LNK_PORT_STATE.FAILED p)) j = true ∧ d.ldr.readmit = true ∧ d.led = s.chip.led ∧ d.lnk = s.chip.lnk))) ∧
  (∀ (s : State) (p : Fin 12), (s.chip.rg (Reg.LNK_PORT_STATE.SPARED_POS p) ≠ 0x1F ∨ s.chip.rg (Reg.LNK_PORT_STATE.SPARE p) ≠ 0 →
      Completes (.spareFailure p) s (fun d => d = s.chip)) ∧
    (s.chip.rg (Reg.LNK_PORT_STATE.SPARED_POS p) = 0x1F → s.chip.rg (Reg.LNK_PORT_STATE.SPARE p) = 0 → Completes (.spareFailure p) s (fun d =>
      d.rg (Reg.LNK_PORT_STATE.SPARE p) = 2 ∧ (d.port p).session = none ∧ d.led = s.chip.led ∧ d.mem = s.chip.mem))) ∧
  (∀ (s : State) (p : Fin 12), (s.chip.portUp p = true → (s.chip.port p).waiting ≠ [] →
      Completes (.lnkCredit p) s (fun d => d = s.chip.fault Src.LNK_CREDIT p ∧ Frame hubParts s.chip d)) ∧
    ((s.chip.port p).waiting = [] → Completes (.lnkCredit p) s (fun d => d = s.chip)))

/-- R379, R383, R397 and R399. -/
def Obligations.LinkCommands : Prop :=
  (∀ (s : State) (src : Submit) (p : BitVec 8), s.chip.coreServes (s.chip.roleCore 1) = true → TakenUp s.chip src .lnk false 0 →
    (11 < p.toNat ∨ s.chip.portState p.toNat ≠ 0 ∨ (s.chip.port p.toNat).upSeq ≠ 0 ∨ (s.chip.port p.toNat).unkeyed = true → Completes (.portUp src p) s (fun d => NotAccepted s.chip d [.lnk, .mem])) ∧
    (p.toNat ≤ 11 → s.chip.portState p.toNat = 0 → (s.chip.port p.toNat).upSeq = 0 → (s.chip.port p.toNat).unkeyed = false → Completes (.portUp src p) s (fun d =>
      Accepted s.chip d src (.general 0x0601) (s.chip.originDomain src.origin) ∧ d.portState p.toNat = 1 ∧ (d.port p.toNat).upSeq = s.chip.led.nextSeq)) ∧
    (11 < p.toNat ∨ s.chip.portState p.toNat = 0 ∨ s.chip.portState p.toNat = 1 → Completes (.portDown src p) s (fun d => NotAccepted s.chip d [.lnk, .mem])) ∧
    (p.toNat ≤ 11 → s.chip.portState p.toNat ∈ [2, 3, 4] → s.chip.led.lost = false → Completes (.portDown src p) s (fun d =>
      Accepted s.chip d src (.general 0x0602) (s.chip.originDomain src.origin) ∧ d.ldr.readmit = true ∧ (s.chip.led.items = [] → d.portState p.toNat = 0)))) ∧
  (∀ (s : State) (src : Submit) (p m sc sa : BitVec 8) (k : BitVec 16) (x : Word), s.chip.coreServes (s.chip.roleCore 1) = true → TakenUp s.chip src .lnk false 0 →
    (11 < p.toNat ∨ 3 < m.toNat ∨ 1 < sa.toNat ∨ s.chip.isDvl p.toNat = true ∨ s.chip.macCount p.toNat ≤ m.toNat ∨ s.chip.loadedFor k.toNat uMACSEC = false →
      Completes (.macsecSa src p m sc sa k x) s (fun d => NotAccepted s.chip d [.lnk, .mem])) ∧
    (p.toNat ≤ 11 → sa.toNat ≤ 1 → sc.toNat ≤ 63 ∨ (128 ≤ sc.toNat ∧ sc.toNat ≤ 135) → s.chip.isDvl p.toNat = false → m.toNat < s.chip.macCount p.toNat →
      s.chip.loadedFor k.toNat uMACSEC = true → Completes (.macsecSa src p m sc sa k x) s (fun d =>
        Accepted s.chip d src (.general 0x0603) (s.chip.originDomain src.origin) ∧ (s.chip.led.items = [] → s.chip.commits = true →
          tget d.lnk.sas (saKey p.toNat m.toNat sc.toNat sa.toNat) = some ⟨k.toNat, x.toNat⟩)))) ∧
  (∀ s : State, Completes .calPause s (fun d => d.lnk = { s.chip.lnk with calPaused := true } ∧ Answered d true ∧ Frame [.lnk, .answer] s.chip d) ∧
    Completes .calResume s (fun d => d.lnk = { s.chip.lnk with calPaused := false } ∧ Answered d true ∧ Frame [.lnk, .answer] s.chip d)) ∧
  (∀ (s : State) (l : Fin 204), (s.chip.posOfLane l = none → Completes (.laneFail l) s (fun d => Answered d false ∧ Frame [.answer] s.chip d) ∧
      ∀ m, Completes (.margin l m) s (fun d => Answered d false ∧ Frame [.answer] s.chip d)) ∧
    (∀ p j, s.chip.posOfLane l = some (p, j) → p < 12 →
      (∀ m : BitVec 8, Completes (.margin l m) s (fun d => d.rg (Reg.LNK_PORT_STATE.MARGIN p) = m.toNat ∧ Answered d true ∧
        ((s.chip.port p).session = some ⟨j, 2⟩ → Frame [.regs, .answer] s.chip d) ∧
        ((s.chip.port p).session ≠ some ⟨j, 2⟩ →
          (s.chip.rg Reg.LNK_CAL_CFG.MIN_MARGIN ≤ m.toNat → tget (d.port p).low j = none ∧ Frame [.regs, .lnk, .answer] s.chip d) ∧
          (m.toNat < s.chip.rg Reg.LNK_CAL_CFG.MIN_MARGIN → tget (s.chip.port p).low j = none → tget (d.port p).low j = some 1 ∧ Frame [.regs, .lnk, .answer] s.chip d) ∧
          (m.toNat < s.chip.rg Reg.LNK_CAL_CFG.MIN_MARGIN → (∃ n, tget (s.chip.port p).low j = some (n + 1)) →
            (j < 16 → bitOf (d.rg (Reg.LNK_PORT_STATE.FAILED p)) j = true) ∧ (j = 16 → d.rg (Reg.LNK_PORT_STATE.SPARE p) = 2))))) ∧
      (j < 16 → Completes (.laneFail l) s (fun d => bitOf (d.rg (Reg.LNK_PORT_STATE.FAILED p)) j = true ∧ Answered d true)) ∧
      (j = 16 → Completes (.laneFail l) s (fun d => d.rg (Reg.LNK_PORT_STATE.SPARE p) = 2 ∧ Answered d true))) ∧
    (s.chip.rg Reg.LNK_GROUP_MAP.GROUP = 0xBA9876543210 →
      s.chip.posOfLane l = some (if l.val < 192 then (l.val / 16, l.val % 16) else (l.val - 192, 16)))) ∧
  (∀ (s : State) (p : Fin 12), (s.chip.portState p ≠ 1 → Completes (.portTrainingComplete p) s (fun d => d = s.chip)) ∧
    (s.chip.portState p = 1 → Completes (.portTrainingComplete p) s (fun d => d.ids = s.chip.ids ∧
      ((s.chip.port p).upSeq = 0 → d.portState p = (if (s.chip.port p).half.isSome then 3 else 2) ∧ (d.port p).tx = [] ∧ (d.port p).txNext = 0 ∧
        (d.port p).rxNext = 0 ∧ (d.port p).credit0 = 256 ∧ (d.port p).credit1 = 1024 ∧ (d.port p).phase = d.txPhase p ∧ (d.port p).unkeyed = false ∧ d.ldr.readmit = true))))

/-- A data, request or SKIP packet of R420, as a packet and as a command. -/
def dvtMenu (h : DvtHead) (data : List (BitVec 8)) (v w : Word) (t : BitVec 32) (p : DvtPkt) (c : Instr) : Prop :=
  (p, c) ∈ [(pktOf 1 h data, .writePacket h data), (pktOf 2 h [], .readReq h), (pktOf 3 h data, .readResp h data),
   (pktOf 4 h ((leBytes 8 v.toNat).map (BitVec.ofNat 8)), .faddPacket h v),
   (pktOf 5 h ((leBytes 8 v.toNat ++ leBytes 8 w.toNat).map (BitVec.ofNat 8)), .casPacket h v w), (pktOf 7 h [], .skip h),
   (pktOf 8 h data, .coll h data), (pktOf 9 h ((leBytes 8 t.toNat).map (BitVec.ofNat 8)), .collAbort h t)]

/-- The chip once a packet for connection c has been counted and its context has been used. -/
def counted (d : Chip) (c : Nat) : Chip := (d.count (Reg.DVT_COUNT.COUNT 1)).ctxIn c true

/-- R403, R404, R406, R413, R420, R422, R425 and R435. -/
def Obligations.DvtArrival : Prop :=
  (∀ (s : State) (h : DvtHead) (data : List (BitVec 8)) (v w : Word) (t : BitVec 32), ∀ (p : DvtPkt) (c : Instr), dvtMenu h data v w t p c →
    (s.chip.dvtUp = false → Completes c s (fun d => d = s.chip)) ∧
    (s.chip.dvtUp = true → s.chip.coll.out = [] → h.bad = true ∨ (∀ y, s.chip.conn h.conn.toNat = some y → y.state ≠ .open ∧ y.state ≠ .closing) →
      Completes c s (fun d => d = ((s.chip.count (Reg.DVT_COUNT.COUNT 1)).count (Reg.DVT_COUNT.COUNT 5)).fault Src.DVT_PROTOCOL h.conn.toNat)) ∧
    (∀ x : DvtConn, ConnReady s.chip h.conn.toNat x → h.bad = false → h.ce = false →
      (x.mode = 2 → 5 < p.op → Completes c s (fun d =>
        d = (counted s.chip h.conn.toNat).dvtPut h.conn.toNat x ⟨0x11, 0, p.path, 4, x.peerConn, p.psn, p.msn, 0, 0, 0, []⟩)) ∧
      (x.mode = 2 → p.op ≤ 5 → lengthOk ((counted s.chip h.conn.toNat).mtu x) p = true → (p.op = 4 ∨ p.op = 5 → s.chip.admits (.conn h.conn.toNat) = true) →
        0 < x.above h.psn.toNat x.expected → x.above h.psn.toNat x.expected < 2 ^ 23 → Completes c s (fun d =>
        d = (counted s.chip h.conn.toNat).dvtPut h.conn.toNat x ⟨0x11, 0, p.path, 1, x.peerConn, x.expected, p.msn, 0, 0, 0, []⟩)) ∧
      (x.mode ≠ 2 ∨ p.op ≤ 5 → lengthOk ((counted s.chip h.conn.toNat).mtu x) p = true → p.op = 4 ∨ p.op = 5 → s.chip.admits (.conn h.conn.toNat) = false →
        Completes c s (fun d => d = counted s.chip h.conn.toNat)) ∧
      (x.mode ≠ 2 ∨ p.op ≤ 5 → lengthOk ((counted s.chip h.conn.toNat).mtu x) p = false → Completes c s (fun d =>
        d = ((counted s.chip h.conn.toNat).count (Reg.DVT_COUNT.COUNT 5)).fault Src.DVT_PROTOCOL h.conn.toNat)) ∧
      (lengthOk ((counted s.chip h.conn.toNat).mtu x) p = true → (p.op = 4 ∨ p.op = 5 → s.chip.admits (.conn h.conn.toNat) = true) → x.mode ≠ 2 → 0 < x.above h.psn.toNat x.expected →
        x.above h.psn.toNat x.expected < 2 ^ 31 →
        (255 < x.above h.psn.toNat x.expected → Completes c s (fun d => d = (counted s.chip h.conn.toNat).count (Reg.DVT_COUNT.COUNT 5))) ∧
        (x.above h.psn.toNat x.expected ≤ 255 → (∀ q ∈ x.staged, q.psn ≠ h.psn.toNat) →
          let cells := pktCells p
          let budget := if x.budget = 0 then s.chip.rg Reg.DVT_REORDER_CFG.BUDGET else x.budget
          ((((x.staged.map pktCells).foldl (· + ·) 0) + cells) * 4 ≤ budget → cells ≤ s.chip.rg Reg.DVT_REORDER_CFG.FREE → Completes c s (fun d =>
            d.conn h.conn.toNat = some { x with staged := x.staged ++ [p] } ∧ d.dvt.wire = s.chip.dvt.wire ∧
            d.rg Reg.DVT_REORDER_CFG.FREE = s.chip.rg Reg.DVT_REORDER_CFG.FREE - cells ∧ d.mem = s.chip.mem ∧ d.led = s.chip.led)) ∧
          (budget < (((x.staged.map pktCells).foldl (· + ·) 0) + cells) * 4 ∨ s.chip.rg Reg.DVT_REORDER_CFG.FREE < cells → Completes c s (fun d =>
            (∃ o, d.dvt.wire = s.chip.dvt.wire ++ [o] ∧ o.pkt.op = 0x10 ∧ bitOf o.pkt.flags 5 = true ∧
              o.pkt.psn = (x.expected + x.psnMod - 1) % x.psnMod) ∧
            (∃ y, d.conn h.conn.toNat = some y ∧ y.staged = x.staged ∧ y.expected = x.expected) ∧ d.mem = s.chip.mem ∧ d.led = s.chip.led)))) ∧
      (lengthOk ((counted s.chip h.conn.toNat).mtu x) p = true → (p.op = 4 ∨ p.op = 5 → s.chip.admits (.conn h.conn.toNat) = true) → x.mode ≠ 2 → 2 ^ 31 ≤ x.above h.psn.toNat x.expected →
        x.atomics.find? (fun e => e.1 = h.psn.toNat) = none ∨ (p.op ≠ 4 ∧ p.op ≠ 5) → Completes c s (fun d =>
          (∃ o, d.dvt.wire = s.chip.dvt.wire ++ [o] ∧ o.pkt.op = 0x10 ∧ o.pkt.psn = (x.expected + x.psnMod - 1) % x.psnMod) ∧
          (∃ y, d.conn h.conn.toNat = some y ∧ y.staged = x.staged ∧ y.expected = x.expected) ∧ d.mem = s.chip.mem ∧ d.led = s.chip.led))) ∧
    (∀ x : DvtConn, ConnReady s.chip h.conn.toNat x → h.bad = false → h.ce = true → x.mode ≠ 2 → lengthOk ((counted s.chip h.conn.toNat).mtu x) p = true →
      (p.op = 4 ∨ p.op = 5 → s.chip.admits (.conn h.conn.toNat) = true) → 255 < x.above h.psn.toNat x.expected → x.above h.psn.toNat x.expected < 2 ^ 31 →
      Completes c s (fun d => d = ((counted s.chip h.conn.toNat).updConn h.conn.toNat (fun y =>
        { y with pathTbl := tput y.pathTbl p.path { y.pathOf p.path with ecn := true } })).count (Reg.DVT_COUNT.COUNT 5)))) ∧
  (∀ (s : State) (h : DvtHead) (v w : Word) (x : DvtConn) (old : Nat), ConnReady s.chip h.conn.toNat x → h.bad = false → h.ce = false → s.chip.admits (.conn h.conn.toNat) = true →
    x.mode ≠ 2 → 2 ^ 31 ≤ x.above h.psn.toNat x.expected → x.atomics.find? (fun e => e.1 = h.psn.toNat) = some (h.psn.toNat, old) →
    ∀ c ∈ [Instr.faddPacket h v, .casPacket h v w], Completes c s (fun d => (∃ o, d.dvt.wire = s.chip.dvt.wire ++ [o] ∧ o.pkt.op = 6 ∧
      o.pkt.psn = h.psn.toNat ∧ o.pkt.data = leBytes 8 old) ∧ d.mem = s.chip.mem ∧ d.led = s.chip.led)) ∧
  (∀ (s : State) (h : DvtHead) (x : DvtConn), ConnReady s.chip h.conn.toNat x → h.bad = false → h.ce = false → x.staged = [] → x.mode ≠ 2 →
    x.above h.psn.toNat x.expected = 0 → ∀ e : Chip, e = (counted s.chip h.conn.toNat).setConn h.conn.toNat { x with expected := (x.expected + 1) % x.psnMod } →
    Completes (.skip h) s (fun d => d = (if bitOf h.flags.toNat 1 || bitOf h.flags.toNat 2 then e.sendAck h.conn.toNat h.path else e) ∧
      d.mem = s.chip.mem ∧ d.led = s.chip.led)) ∧
  (∀ (s : State) (h : DvtHead) (v : Word) (hv nd : BitVec 256), ∀ c ∈ [Instr.atomicResp h v, .ack h hv nd, .nakPacket h],
    (s.chip.dvtUp = false → Completes c s (fun d => d = s.chip)) ∧
    (s.chip.dvtUp = true → s.chip.coll.out = [] → h.bad = true ∨ (∀ y, s.chip.conn h.conn.toNat = some y → y.state ≠ .open ∧ y.state ≠ .closing) →
      Completes c s (fun d => d = ((s.chip.count (Reg.DVT_COUNT.COUNT 1)).count (Reg.DVT_COUNT.COUNT 5)).fault Src.DVT_PROTOCOL h.conn.toNat))) ∧
  (∀ (s : State) (p : Fin 12) (w : LinkWord) (first : Bool) (fl : List (BitVec 8)) (e : Chip), s.chip.portUp p = true → s.chip.isDvl p = true →
    PortsQuiet s.chip → w.seq.val = (s.chip.port p).rxNext → e = s.chip.rxFrame p w (some 1) id →
    (p < 8 → ∀ last, Completes (.dvtFrame p w first last fl) s (fun d => d = (e.count (Reg.DVT_COUNT.COUNT 5)).fault Src.DVT_PROTOCOL p)) ∧
    (8 ≤ p → Completes (.dvtFrame p w first false fl) s (fun d =>
      tget d.dvt.part p = some ((if first then [] else (tget e.dvt.part p).getD []) ++ fl.map BitVec.toNat) ∧ Frame [.dvt] e d) ∧
      Completes (.dvtFrame p w first true fl) s (fun d => d = ({ e with dvt := { e.dvt with part := tdel e.dvt.part p } } : Chip).dvtPacket
        ((if first then [] else (tget e.dvt.part p).getD []) ++ fl.map BitVec.toNat))))

/-- R414, R416, R420, R422, R424, R425, R428, R429 and R433. -/
def Obligations.DvtPlacement : Prop :=
  (∀ (s : State) (h : DvtHead) (data : List (BitVec 8)) (x : DvtConn) (e : Chip), ConnReady s.chip h.conn.toNat x → h.bad = false → h.ce = false → x.staged = [] →
    x.above h.psn.toNat x.expected = 0 → x.mode ≠ 2 → e = (counted s.chip h.conn.toNat).setConn h.conn.toNat { x with expected := (x.expected + 1) % x.psnMod } →
    lengthOk (e.mtu x) (pktOf 1 h data) = true →
    ((counted s.chip h.conn.toNat).placeHeld x (pktOf 1 h data) = true → Completes (.writePacket h data) s (fun d => d = counted s.chip h.conn.toNat)) ∧
    ((counted s.chip h.conn.toNat).placeHeld x (pktOf 1 h data) = false → (∀ r g, e.regionCheck h.conn.toNat x (pktOf 1 h data) 1 data.length = .ok (r, g) → g.state = 1 → Completes (.writePacket h data) s (fun d =>
      (∃ f, Frame [.dvt] e f ∧ d.mem = (f.writeRange (g.base + h.offset.toNat) (data.map (fun b => (b.toNat, bitOf h.flags.toNat 6)))).mem) ∧
      ∃ y, d.conn h.conn.toNat = some y ∧ y.expected = (x.expected + 1) % x.psnMod)) ∧
    (∀ cause, e.regionCheck h.conn.toNat x (pktOf 1 h data) 1 data.length = .error cause → bitOf h.flags.toNat 1 = false → bitOf h.flags.toNat 2 = false →
      Completes (.writePacket h data) s (fun d => (∃ y, d.conn h.conn.toNat = some y ∧ y.expected = (x.expected + 1) % x.psnMod ∧ y.state = .open) ∧
        (∃ o, d.dvt.wire = s.chip.dvt.wire ++ [o] ∧ o.pkt.op = 0x11 ∧ o.pkt.reason = 2 ∧ o.pkt.psn = h.psn.toNat) ∧ d.ids = s.chip.ids ∧
        d.led.nextSeq = s.chip.led.nextSeq)))) ∧
  (∀ (s : State) (h : DvtHead) (x : DvtConn) (r : Nat) (g : DvtRegion) (e : Chip), ConnReady s.chip h.conn.toNat x → h.bad = false → h.ce = false → x.staged = [] →
    x.above h.psn.toNat x.expected = 0 → x.mode ≠ 2 → h.flags = 3 → e = (counted s.chip h.conn.toNat).setConn h.conn.toNat { x with expected := (x.expected + 1) % x.psnMod } →
    (counted s.chip h.conn.toNat).placeHeld x (pktOf 2 h []) = false → e.regionCheck h.conn.toNat x (pktOf 2 h []) 0 h.msgBytes.toNat = .ok (r, g) → h.msgBytes.toNat ≤ 4096 → Completes (.readReq h) s (fun d =>
      (∃ y, d.conn h.conn.toNat = some y ∧ y.expected = (x.expected + 1) % x.psnMod ∧ y.nextPsn = (x.nextPsn + 1) % x.psnMod ∧
        ∃ t, y.sent = [t] ∧ t.pkt.op = 3 ∧ t.pkt.psn = x.nextPsn ∧ t.pkt.msn = h.msn.toNat ∧ t.region = some (r, h.msn.toNat) ∧
          ((e.regionIn r h.conn.toNat h.msn.toNat).noteRead (g.base + h.offset.toNat) h.msgBytes.toNat = e.regionIn r h.conn.toNat h.msn.toNat →
            t.pkt.data = s.chip.bytes (g.base + h.offset.toNat) h.msgBytes.toNat ∧ d.led = s.chip.led)))) ∧
  (∀ (s : State) (h : DvtHead) (v w : Word) (x : DvtConn) (r : Nat) (g : DvtRegion) (p : DvtPkt) (c : Instr) (e : Chip), ConnReady s.chip h.conn.toNat x →
    h.bad = false → h.ce = false → x.staged = [] → x.above h.psn.toNat x.expected = 0 → x.mode ≠ 2 → h.flags = 3 → s.chip.admits (.conn h.conn.toNat) = true → s.chip.commits = true →
    s.chip.led.items = [] → e = (counted s.chip h.conn.toNat).setConn h.conn.toNat { x with expected := (x.expected + 1) % x.psnMod } →
    (p, c) ∈ [(pktOf 4 h ((leBytes 8 v.toNat).map (BitVec.ofNat 8)), Instr.faddPacket h v),
      (pktOf 5 h ((leBytes 8 v.toNat ++ leBytes 8 w.toNat).map (BitVec.ofNat 8)), .casPacket h v w)] →
    e.regionCheck h.conn.toNat x p 2 8 = .ok (r, g) → g.state = 1 → (g.base + h.offset.toNat) % 8 = 0 →
    (isPlinth (g.base + h.offset.toNat) = true ∧ deviceOwned (g.base + h.offset.toNat) 8 = false) ∨ isNear (g.base + h.offset.toNat) = true → Completes c s (fun d =>
      d.led.nextSeq = s.chip.led.nextSeq + 1 ∧
      (∃ i, d.led.items = [i] ∧ i.state = .committed ∧ i.owner = 0x53 ∧ i.domain = .conn h.conn.toNat ∧ i.kind = .atomic h.conn.toNat h.psn.toNat) ∧
      ∃ y old, d.conn h.conn.toNat = some y ∧ y.expected = (x.expected + 1) % x.psnMod ∧ y.atomics = ((h.psn.toNat, old) :: x.atomics).take 64 ∧
        ∃ o ∈ d.dvt.wire, o.pkt.op = 6 ∧ o.pkt.psn = h.psn.toNat ∧ o.pkt.data = leBytes 8 old)) ∧
  (∀ (s : State) (h : DvtHead) (v w : Word) (x : DvtConn) (p : DvtPkt) (c : Instr) (e : Chip), ConnReady s.chip h.conn.toNat x →
    h.bad = false → h.ce = false → x.staged = [] → x.above h.psn.toNat x.expected = 0 → s.chip.admits (.conn h.conn.toNat) = true →
    e = (counted s.chip h.conn.toNat).setConn h.conn.toNat { x with expected := (x.expected + 1) % x.psnMod } →
    (p, c) ∈ [(pktOf 4 h ((leBytes 8 v.toNat).map (BitVec.ofNat 8)), Instr.faddPacket h v),
      (pktOf 5 h ((leBytes 8 v.toNat ++ leBytes 8 w.toNat).map (BitVec.ofNat 8)), .casPacket h v w)] →
    (∃ cause, e.regionCheck h.conn.toNat x p 2 8 = .error cause) ∨ (∃ r g, e.regionCheck h.conn.toNat x p 2 8 = .ok (r, g) ∧ (g.base + h.offset.toNat) % 8 ≠ 0) →
    Completes c s (fun d => (∃ o ∈ d.dvt.wire, o.pkt.op = 0x11 ∧ o.pkt.reason = 2 ∧ o.pkt.psn = h.psn.toNat) ∧ d.led.nextSeq = s.chip.led.nextSeq)) ∧
  (∀ (old : Nat) (a b : Nat), a < 2 ^ 64 → b < 2 ^ 64 → atomicNew 4 old (leBytes 8 a) = (old + a) % 2 ^ 64 ∧
    atomicNew 5 old (leBytes 8 a ++ leBytes 8 b) = if old = a then b else old) ∧
  (∀ (s : State) (h : DvtHead) (data : List (BitVec 8)) (t : BitVec 32) (x : DvtConn) (e : Chip), ConnReady s.chip h.conn.toNat x → h.bad = false → h.ce = false →
    x.staged = [] → x.above h.psn.toNat x.expected = 0 → x.mode ≠ 2 → bitOf h.flags.toNat 2 = false →
    e = (counted s.chip h.conn.toNat).setConn h.conn.toNat { x with expected := (x.expected + 1) % x.psnMod } →
    (s.chip.coll.groups.find? (fun p => p.2.gKey = h.rkey.toNat) = none → bitOf h.flags.toNat 1 = false →
      (bitOf h.flags.toNat 0 = true → lengthOk (e.mtu x) (pktOf 8 h data) = true → Completes (.coll h data) s (fun d => d = e.count Reg.COL_ORPHANS.COUNT)) ∧
      Completes (.collAbort h t) s (fun d => d = e.count Reg.COL_ORPHANS.COUNT)) ∧
    (bitOf h.flags.toNat 1 = false → lengthOk (e.mtu x) (pktOf 8 h data) = true →
      Completes (.coll h data) s (fun d => d = collPacket e h.conn.toNat (pktOf 8 h data)) ∧
      (∀ y, bitOf h.flags.toNat 0 = false → tget s.chip.coll.open_ h.conn.toNat = some y → Completes (.coll h data) s (fun d =>
        tget d.coll.open_ h.conn.toNat = some { y with data := y.data ++ data.map (fun b => (b.toNat, bitOf h.flags.toNat 6)) } ∧ Frame [.coll] e d))) ∧
    (bitOf h.flags.toNat 1 = false → ∀ (gid : Nat) (g : Desc), s.chip.coll.groups.find? (fun p => p.2.gKey = h.rkey.toNat) = some (gid, g) →
      ∀ find : Option Item, find = s.chip.led.items.find? (fun i => i.kind = .coll && !i.state.ended && i.body.cGroup = gid && i.body.cTag = t.toNat) →
      (find = none → Completes (.collAbort h t) s (fun d => d.led = s.chip.led ∧ d.mem = s.chip.mem)) ∧
      (∀ i, find = some i → s.chip.canWithdraw i.seq = true → s.chip.led.lost = false → s.chip.item i.seq = some i → Completes (.collAbort h t) s (fun d =>
        ∃ j, d.item i.seq = some j ∧ j.state = .withdrawn ∧ j.reply.code = Code.COL_ABORTED_BY_PEER)) ∧
      (∀ i, find = some i → s.chip.canWithdraw i.seq = false → Completes (.collAbort h t) s (fun d =>
        d.coll.answers = s.chip.coll.answers ++ [(h.conn.toNat, t.toNat)] ∧ Frame [.coll] e d)))) ∧
  (∀ (s : State) (h : DvtHead) (hv nd : BitVec 256) (x : DvtConn), ConnReady s.chip h.conn.toNat x → h.bad = false → x.ops = [] → x.mode ≠ 2 →
    x.above h.psn.toNat x.acked < 2 ^ 31 → Completes (.ack h hv nd) s (fun d => ∃ y, d.conn h.conn.toNat = some y ∧ y.acked = (h.psn.toNat + 1) % 2 ^ 32 ∧
      (y.pathOf h.path).failed = false ∧ (y.pathOf h.path).timeouts = 0 ∧
      (bitOf h.flags.toNat 3 = true → (y.pathOf h.path).window = max 1 ((x.pathOf h.path).window / 2)) ∧
      (bitOf h.flags.toNat 3 = false → x.above h.psn.toNat (x.pathOf h.path).mark < 2 ^ 31 → (y.pathOf h.path).window = min 256 ((x.pathOf h.path).window + 1)) ∧
      d.led = s.chip.led ∧ d.mem = s.chip.mem)) ∧
  (∀ (s : State) (h : DvtHead) (hv nd : BitVec 256) (x : DvtConn) (o : DvtOp) (i : Item), ConnReady s.chip h.conn.toNat x → h.bad = false → x.ops = [o] → x.mode ≠ 2 →
    x.above h.psn.toNat x.acked < 2 ^ 31 → s.chip.item o.seq = some i → i.seq = o.seq → i.body.rOp = 1 → i.state.ended = false → i.crec = .none →
    x.above o.last x.acked ≤ x.above h.psn.toNat x.acked → Completes (.ack h hv nd) s (fun d => (∃ j, d.item o.seq = some j ∧ j.crec = .issued) ∧ d.mem = s.chip.mem)) ∧
  (∀ (s : State) (h : DvtHead) (data : List (BitVec 8)) (x : DvtConn) (o : DvtOp) (i : Item), ConnReady s.chip h.conn.toNat x → h.bad = false → h.ce = false →
    x.staged = [] → x.ops = [o] → o.msn = h.msn.toNat → x.above h.psn.toNat x.expected = 0 → lengthOk ((counted s.chip h.conn.toNat).mtu x) (pktOf 3 h data) = true →
    (counted s.chip h.conn.toNat).placeHeld x (pktOf 3 h data) = false → s.chip.item o.seq = some i → i.seq = o.seq → i.body.rOp = 2 → i.state.ended = false → i.crec = .none → i.body.rLen ≤ o.got + data.length →
    Completes (.readResp h data) s (fun d => ∃ j, d.item o.seq = some j ∧ j.crec = .issued ∧
      j.reply.code = (if o.poison || bitOf h.flags.toNat 6 || s.chip.writeLost (i.body.rLocal + (h.offset.toNat - i.body.rRemote)) data.length then Code.POISONED_DATA else Code.OK))) ∧
  (∀ (s : State) (h : DvtHead) (v : Word) (x : DvtConn) (t : DvtSent) (o : DvtOp) (i : Item), s.chip.dvtUp = true → s.chip.coll.out = [] →
    s.chip.conn h.conn.toNat = some x → x.state = .open → x.todo = [] → x.sent = [t] → s.chip.dvt.cache.contains h.conn.toNat = true → h.bad = false →
    t.pkt.psn = h.psn.toNat → t.pkt.op = 4 ∨ t.pkt.op = 5 → 0 < t.sends → x.ops = [o] → o.seq = t.item → s.chip.item t.item = some i → i.seq = t.item →
    i.state.ended = false → i.crec = .none → Completes (.atomicResp h v) s (fun d => (∃ j, d.item t.item = some j ∧ j.crec = .issued ∧ j.reply.hi = v.toNat) ∧
      ∃ y, d.conn h.conn.toNat = some y ∧ y.sent = [])) ∧
  (∀ (s : State) (h : DvtHead) (x : DvtConn) (o : DvtOp) (i : Item), ConnReady s.chip h.conn.toNat x → h.bad = false → x.ops = [o] → o.msn = h.msn.toNat → h.reason = 2 →
    s.chip.item o.seq = some i → i.seq = o.seq → i.state.ended = false → i.crec ≠ .taken → s.chip.led.lost = false →
    Completes (.nakPacket h) s (fun d => ∃ j, d.item o.seq = some j ∧ j.state = .withdrawn ∧ j.reply.code = Code.REMOTE_VIOLATION)) ∧
  (∀ (s : State) (h : DvtHead) (x : DvtConn), ConnReady s.chip h.conn.toNat x → h.bad = false →
    (h.reason = 1 ∨ h.reason = 3 → Completes (.nakPacket h) s (fun d =>
      d = (counted s.chip h.conn.toNat).ackUpTo h.conn.toNat ((h.psn.toNat + x.psnMod - 1) % x.psnMod))) ∧
    (h.reason = 2 → (∀ o ∈ x.ops, o.msn ≠ h.msn.toNat) → Completes (.nakPacket h) s (fun d => d = counted s.chip h.conn.toNat)) ∧
    (h.reason ≠ 1 → h.reason ≠ 2 → h.reason ≠ 3 → Completes (.nakPacket h) s (fun d =>
      d = ((counted s.chip h.conn.toNat).count (Reg.DVT_COUNT.COUNT 5)).fault Src.DVT_PROTOCOL h.conn.toNat)))

/-- R406, R408 to R410, R417, R418, R430 and R435. -/
def Obligations.DvtConnections : Prop :=
  (∀ (s : State) (c f : BitVec 20) (peer : BitVec 128) (psn : BitVec 32) (n : BitVec 8) (j : Fin 64),
    ∀ x ∈ [Instr.connect c peer f psn n, .connectAck c f psn, .close c, .retransmissionTimeout c psn, .pathProbe c j], s.chip.dvtUp = false →
      Completes x s (fun d => d = s.chip)) ∧
  (∀ (s : State) (c f : BitVec 20) (peer : BitVec 128) (psn : BitVec 32) (n : BitVec 8), s.chip.dvtUp = true →
    (∀ x, s.chip.conn c.toNat = some x → x.peer ≠ peer.toNat ∨ x.mode = 2 ∨ (x.state ≠ .open ∧ x.state ≠ .reconnecting ∧ x.state ≠ .closing)) →
    (s.chip.dvt.conns.find? (fun (y : Nat × DvtConn) => y.2.state = .connecting && y.2.peer = peer.toNat && y.2.paths = n.toNat) = none →
      Completes (.connect c peer f psn n) s (fun d => d = (s.chip.count (Reg.DVT_COUNT.COUNT 5)).fault Src.DVT_PROTOCOL c.toNat)) ∧
    (∀ k y, s.chip.dvt.conns.find? (fun (y : Nat × DvtConn) => y.2.state = .connecting && y.2.peer = peer.toNat && y.2.paths = n.toNat) = some (k, y) →
      Completes (.connect c peer f psn n) s (fun d => d.conn k = some { y with peerConn := f.toNat, expected := psn.toNat } ∧
        (∃ o, d.dvt.wire = s.chip.dvt.wire ++ [o] ∧ o.pkt.op = 0x21 ∧ o.pkt.psn = y.start) ∧ d.led = s.chip.led))) ∧
  (∀ (s : State) (c f : BitVec 20) (peer : BitVec 128) (psn : BitVec 32) (n : BitVec 8) (x : DvtConn), s.chip.dvtUp = true → s.chip.conn c.toNat = some x →
    x.peer = peer.toNat → x.mode ≠ 2 → x.state = .open ∨ x.state = .reconnecting ∨ x.state = .closing → x.sent = [] → x.todo = [] → x.ops = [] →
    Completes (.connect c peer f psn n) s (fun d => (∃ y, d.conn c.toNat = some y ∧ y.peerConn = f.toNat ∧ y.expected = x.expected ∧
      y.state = (if x.state = .reconnecting then .open else x.state)) ∧
      (∃ o, d.dvt.wire = s.chip.dvt.wire ++ [o] ∧ o.pkt.op = 0x21 ∧ o.pkt.psn = x.expected) ∧ d.led = s.chip.led)) ∧
  (∀ (s : State) (c f : BitVec 20) (psn : BitVec 32), s.chip.dvtUp = true →
    (s.chip.conn c.toNat = none → ∀ x ∈ [Instr.connectAck c f psn, .close c], Completes x s (fun d =>
      d = (s.chip.count (Reg.DVT_COUNT.COUNT 5)).fault Src.DVT_PROTOCOL c.toNat)) ∧
    (∀ x : DvtConn, s.chip.conn c.toNat = some x →
      (x.state ≠ .connecting → x.state ≠ .reconnecting → Completes (.connectAck c f psn) s (fun d =>
        d = (s.chip.count (Reg.DVT_COUNT.COUNT 5)).fault Src.DVT_PROTOCOL c.toNat)) ∧
      (∀ i : Item, x.state = .connecting → s.chip.item x.openSeq = some i → i.seq = x.openSeq → i.state.ended = false → predsEnded s.chip.led.items i = true →
        s.chip.commits = true → Completes (.connectAck c f psn) s (fun d => (∃ y, d.conn c.toNat = some y ∧ y.state = .open ∧ y.peerConn = f.toNat ∧
          y.expected = psn.toNat) ∧ ∃ j, d.item x.openSeq = some j ∧ j.state = .committed ∧ j.reply.code = Code.OK)) ∧
      (x.state = .reconnecting → x.sent = [] → x.todo = [] → x.ops = [] → Completes (.connectAck c f psn) s (fun d => ∃ y, d.conn c.toNat = some y ∧ y.state = .open ∧
        y.peerConn = f.toNat ∧ ∀ k, (y.pathOf k).failed = true → False)) ∧
      (s.chip.led.items = [] → Completes (.close c) s (fun d => d.conn c.toNat = some { x with peerClosed := true, sent := [], todo := [] } ∧ Frame [.dvt] s.chip d)))) ∧
  (∀ (s : State) (c : BitVec 20), (s.chip.conn c.toNat = none → ∀ x ∈ [Instr.connectTimeout c, .reconnectTimeout c], Completes x s (fun d => d = s.chip)) ∧
    (∀ x : DvtConn, s.chip.conn c.toNat = some x →
      (x.state ≠ .connecting → Completes (.connectTimeout c) s (fun d => d = s.chip)) ∧
      (x.state = .connecting → x.connects < 2 → Completes (.connectTimeout c) s (fun d => d.conn c.toNat = some { x with connects := x.connects + 1 } ∧
        (∃ o, d.dvt.wire = s.chip.dvt.wire ++ [o] ∧ o.pkt.op = 0x20) ∧ d.led = s.chip.led)) ∧
      (∀ i : Item, x.state = .connecting → 2 ≤ x.connects → s.chip.item x.openSeq = some i → i.seq = x.openSeq → i.state.ended = false → i.crec ≠ .taken →
        s.chip.led.lost = false → Completes (.connectTimeout c) s (fun d => ∃ j, d.item x.openSeq = some j ∧ j.state = .withdrawn ∧ j.reply.code = Code.TIMEOUT)) ∧
      (x.state ≠ .reconnecting → Completes (.reconnectTimeout c) s (fun d => d = s.chip)) ∧
      (x.state = .reconnecting → s.chip.led.items = [] → Completes (.reconnectTimeout c) s (fun d => (∃ y, d.conn c.toNat = some y ∧ y.state = .error ∧ y.sent = []) ∧
        d.led = s.chip.led ∧ d.mem = s.chip.mem)))) ∧
  (∀ (s : State) (c : BitVec 20) (psn : BitVec 32), s.chip.dvtUp = true → s.chip.conn c.toNat = none → Completes (.retransmissionTimeout c psn) s (fun d => d = s.chip)) ∧
  (∀ (s : State) (c : BitVec 20) (psn : BitVec 32) (x : DvtConn), s.chip.dvtUp = true → s.chip.conn c.toNat = some x →
    (x.sent.find? (fun t => t.pkt.psn = psn.toNat && t.sends > 0) = none → Completes (.retransmissionTimeout c psn) s (fun d => d = s.chip)) ∧
    (∀ t, x.sent = [t] → t.pkt.psn = psn.toNat → 0 < t.sends → x.state = .open → (x.pathOf t.pkt.path).timeouts + 1 < s.chip.rg Reg.DVT_RETRY_CFG.PATH_FAILS →
      t.sends < s.chip.rg Reg.DVT_RETRY_CFG.LIMIT → s.chip.sentHeld t = false →
      (∀ a k, t.src = some (a, k) → ∀ q ∈ s.chip.mu.flips, overlaps a k q.1 32 = false) → Completes (.retransmissionTimeout c psn) s (fun d =>
        (∃ y u, d.conn c.toNat = some y ∧ y.sent = [u] ∧ u.sends = t.sends + 1 ∧ u.pkt.psn = psn.toNat ∧ bitOf u.pkt.flags 4 = true) ∧
        (∃ o, d.dvt.wire = s.chip.dvt.wire ++ [o] ∧ o.pkt.psn = psn.toNat) ∧ d.led = s.chip.led ∧ d.mem = s.chip.mem)) ∧
    (∀ t, x.sent = [t] → t.pkt.psn = psn.toNat → 0 < t.sends → x.state = .open → x.mode ≠ 2 → (x.pathOf t.pkt.path).timeouts + 1 < s.chip.rg Reg.DVT_RETRY_CFG.PATH_FAILS →
      s.chip.rg Reg.DVT_RETRY_CFG.LIMIT ≤ t.sends → Completes (.retransmissionTimeout c psn) s (fun d =>
        (∃ y, d.conn c.toNat = some y ∧ y.state = .reconnecting ∧ y.sent = [t]) ∧ (∃ o, d.dvt.wire = s.chip.dvt.wire ++ [o] ∧ o.pkt.op = 0x20)))) ∧
  (∀ (s : State) (c : BitVec 20) (j : Fin 64) (x : DvtConn), s.chip.dvtUp = true → s.chip.conn c.toNat = some x →
    ((x.pathOf j).failed = false ∨ s.chip.tick < (x.pathOf j).probeAt + 1024 → Completes (.pathProbe c j) s (fun d => d = s.chip)) ∧
    ((x.pathOf j).failed = true → x.state = .open ∨ x.state = .closing → (x.pathOf j).probeAt + 1024 ≤ s.chip.tick → Completes (.pathProbe c j) s (fun d => (∃ o, d.dvt.wire = s.chip.dvt.wire ++ [o] ∧ o.pkt.op = 7 ∧
      bitOf o.pkt.flags 2 = true ∧ o.pkt.path = j.val ∧ o.pkt.psn = (x.acked + x.psnMod - 1) % x.psnMod) ∧
      d.conn c.toNat = some { x with pathTbl := tput x.pathTbl j { x.pathOf j with probeAt := s.chip.tick } } ∧ d.led = s.chip.led))) ∧
  (∀ (s : State) (c : BitVec 20) (j : Fin 64), (s.chip.conn c.toNat = none → Completes (.pathDown c j) s (fun d => Answered d false ∧ Frame [.answer] s.chip d)) ∧
    (∀ x : DvtConn, s.chip.conn c.toNat = some x →
      (x.paths ≤ j.val → Completes (.pathDown c j) s (fun d => Answered d false ∧ Frame [.answer] s.chip d)) ∧
      (j.val < x.paths → (x.pathOf j).failed = false → (∃ k, k < x.paths ∧ k ≠ j.val ∧ (x.pathOf k).failed = false) → Completes (.pathDown c j) s (fun d =>
        Answered d true ∧ (∃ y, d.conn c.toNat = some y ∧ (y.pathOf j).failed = true ∧ y.state = x.state) ∧ d.led = s.chip.led)) ∧
      (x.paths = 1 → j = 0 → (x.pathOf 0).failed = false → x.mode ≠ 2 → Completes (.pathDown c j) s (fun d =>
        Answered d true ∧ (∃ y, d.conn c.toNat = some y ∧ y.state = .reconnecting) ∧ (∃ o, d.dvt.wire = s.chip.dvt.wire ++ [o] ∧ o.pkt.op = 0x20) ∧ d.led = s.chip.led)))) ∧
  (∀ s : State, Completes .ctxFlush s (fun d => d.dvt = s.chip.dvt ∧ Answered d true ∧ Frame [.answer] s.chip d)) ∧
  (∀ (s : State) (c : BitVec 20), (s.chip.dvt.cache.contains c.toNat = true → Completes (.contextFill c) s (fun d => d = s.chip)) ∧
    (s.chip.dvt.cache.contains c.toNat = false → s.chip.conn c.toNat = none → Completes (.contextFill c) s (fun d => c.toNat ∈ d.dvt.cache ∧ Frame [.dvt, .regs] s.chip d)) ∧
    (s.chip.dvt.cache.contains c.toNat = false → s.chip.anyPoison (s.chip.rg Reg.DVT_CTX_BASE.BASE + 256 * c.toNat) 256 = false →
      Completes (.contextFill c) s (fun d => c.toNat ∈ d.dvt.cache ∧ d.dvt.conns = s.chip.dvt.conns ∧ Frame [.dvt, .regs] s.chip d)) ∧
    (s.chip.dvt.cache.contains c.toNat = false → (s.chip.conn c.toNat).isSome = true → s.chip.led.items = [] →
      s.chip.anyPoison (s.chip.rg Reg.DVT_CTX_BASE.BASE + 256 * c.toNat) 256 = true → Completes (.contextFill c) s (fun d =>
        ∃ y, d.conn c.toNat = some y ∧ y.state = .error)))

/-- R407, R408, R410, R411, R427, R430 and R433. -/
def Obligations.DvtCommands : Prop :=
  (∀ (s : State) (src : Submit) (x : Desc) (c : Instr) (op : Nat), (op, c) ∈ [(1, Instr.write src x), (2, .read src x), (4, .fadd src x), (5, .cas src x)] →
    TakenUp s.chip src .dvt true 3 → x.rOp = op →
    (((op = 4 ∨ op = 5) ∧ (x.rLen ≠ 8 ∨ x.rRemote % 8 ≠ 0)) ∨ 0x40000000 < x.rLen ∨ wf x.w0 9 23 ≠ 0 ∨ wf x.w2 52 12 ≠ 0 ∨ wf x.w4 20 44 ≠ 0 ∨ x.w7 ≠ 0 ∨
      s.chip.unitOk (s.chip.originFn src.origin) x.rLocal x.rLen (op ≠ 1) = false ∨
      (∀ y, s.chip.conn x.rConn = some y → y.state ≠ .open ∨ y.peerClosed = true ∨ (isVF (s.chip.originFn src.origin) = true ∧ y.fn ≠ s.chip.originFn src.origin)) → Completes c s (fun d => NotAccepted s.chip d [.dvt, .mem])) ∧
    (∀ y : DvtConn, (op = 4 ∨ op = 5 → x.rLen = 8 ∧ x.rRemote % 8 = 0) → wf x.w0 9 23 = 0 → wf x.w2 52 12 = 0 → wf x.w4 20 44 = 0 → x.w7 = 0 → x.rLen ≤ 0x40000000 →
      s.chip.unitOk (s.chip.originFn src.origin) x.rLocal x.rLen (op ≠ 1) = true → s.chip.conn x.rConn = some y → y.state = .open → y.peerClosed = false →
      (isVF (s.chip.originFn src.origin) = true → y.fn = s.chip.originFn src.origin) → s.chip.coll.out = [] → y.todo = [] → (∀ i ∈ s.chip.led.items, i.seq < s.chip.led.nextSeq) → Completes c s (fun d =>
        d.led.nextSeq = s.chip.led.nextSeq + 1 ∧ d.ids = s.chip.ids ++ [⟨s.chip.led.nextSeq, lowestSlot s.chip.led.items, .dvt, .conn x.rConn, x.rTag % 2 ^ 32, src.origin⟩] ∧
        (y.atomicsOut < 64 → y.sent = [] → ∃ z, d.conn x.rConn = some z ∧ z.todo = [] ∧ z.nextMsn = (y.nextMsn + 1) % 2 ^ 32 ∧ z.nextPsn =
          (y.nextPsn + (if op = 1 then (cutSizes (s.chip.mtu y) x.rLen).length else 1)) % y.psnMod)))) ∧
  (∀ (s : State) (src : Submit) (x : Desc), x.rOp ∉ [1, 2, 4, 5] → TakenUp s.chip src .dvt true 3 →
    Completes (.write src x) s (fun d => NotAccepted s.chip d [.dvt, .mem])) ∧
  (∀ (s : State) (src : Submit) (x : Desc) (c : Instr) (op : Nat), (op, c) ∈ [(1, Instr.write src x), (2, .read src x), (4, .fadd src x), (5, .cas src x)] →
    x.rOp ≠ op → op ≠ 1 ∨ x.rOp ∈ [2, 4, 5] → Completes c s (fun d => d = s.chip)) ∧
  (∀ (s : State) (src : Submit) (a : Nat), s.chip.coreServes (s.chip.roleCore 1) = true → TakenUp s.chip src .dvt true 0 → RecordClean s.chip a 64 →
    (connRecOk s.chip (s.chip.bytes a 64) = false → Completes (.connOpen src a) s (fun d => NotAccepted s.chip d [.dvt, .mem])) ∧
    (∀ c, connRecOk s.chip (s.chip.bytes a 64) = true → firstFree s.chip.dvt.conns 1048576 = some c → Completes (.connOpen src a) s (fun d =>
      Accepted s.chip d src (.general 0x0701) (s.chip.originDomain src.origin) ∧ ∃ y, d.conn c = some y ∧ y.paths = fieldAt (s.chip.bytes a 64) 5 1 ∧
        y.state = (if fieldAt (s.chip.bytes a 64) 4 1 = 2 then .open else .connecting) ∧ y.sent = []))) ∧
  (∀ (s : State) (src : Submit) (c : BitVec 32), s.chip.coreServes (s.chip.roleCore 1) = true → TakenUp s.chip src .dvt true 0 →
    (s.chip.conn c.toNat = none → Completes (.connClose src c) s (fun d => NotAccepted s.chip d [.dvt, .mem])) ∧
    (∀ y : DvtConn, s.chip.conn c.toNat = some y →
      (y.state = .closing ∨ y.state = .connecting ∨ y.closeSeq ≠ 0 ∨ (isVF (s.chip.originFn src.origin) = true ∧ y.fn ≠ s.chip.originFn src.origin) → Completes (.connClose src c) s (fun d => NotAccepted s.chip d [.dvt, .mem])) ∧
      (y.state ≠ .closing → y.state ≠ .connecting → y.closeSeq = 0 → (isVF (s.chip.originFn src.origin) = true → y.fn = s.chip.originFn src.origin) → s.chip.led.nextSeq ≠ 0 → Completes (.connClose src c) s (fun d =>
        Accepted s.chip d src (.general 0x0702) (s.chip.originDomain src.origin) ∧ (s.chip.led.items = [] → s.chip.commits = true → d.conn c.toNat = none))))) ∧
  (∀ (s : State) (src : Submit) (x : Desc), s.chip.coreServes (s.chip.roleCore 1) = true → TakenUp s.chip src .dvt true 0 →
    (2 ^ 52 ≤ x.w0.toNat ∨ x.w1 = 0 ∨ 2 ^ 46 < x.w1.toNat ∨ 7 < wf x.w2 32 8 ∨ wf x.w2 0 32 ≠ 0 ∨ wf x.w2 40 24 ≠ 0 ∨ wf x.w3 32 32 ≠ 0 ∨ s.chip.unitOk (s.chip.originFn src.origin) x.w0.toNat x.w1.toNat true = false →
      Completes (.regionReg src x) s (fun d => NotAccepted s.chip d [.dvt, .mem])) ∧
    (∀ r, x.w0.toNat < 2 ^ 52 → x.w1 ≠ 0 → x.w1.toNat ≤ 2 ^ 46 → wf x.w2 32 8 ≤ 7 → wf x.w2 0 32 = 0 → wf x.w2 40 24 = 0 → wf x.w3 32 32 = 0 →
      s.chip.unitOk (s.chip.originFn src.origin) x.w0.toNat x.w1.toNat true = true → firstFree s.chip.dvt.regions 262144 = some r →
      Completes (.regionReg src x) s (fun d => Accepted s.chip d src (.general 0x0703) (s.chip.originDomain src.origin) ∧ ∃ g, tget d.dvt.regions r = some g ∧
        g.base = x.w0.toNat ∧ g.len = x.w1.toNat ∧ g.rights = wf x.w2 32 8 ∧ g.pd = wf x.w3 0 32 ∧ (s.chip.led.items = [] → s.chip.commits = true → g.state = 1)))) ∧
  (∀ (s : State) (src : Submit) (k : BitVec 32), s.chip.coreServes (s.chip.roleCore 1) = true → TakenUp s.chip src .dvt true 0 →
    (tget s.chip.dvt.regions (k.toNat % 2 ^ 18) = none → Completes (.regionRevoke src k) s (fun d => NotAccepted s.chip d [.dvt, .mem])) ∧
    (∀ g, tget s.chip.dvt.regions (k.toNat % 2 ^ 18) = some g →
      (g.state ≠ 1 ∨ (tget s.chip.dvt.gens (k.toNat % 2 ^ 18)).getD 0 ≠ k.toNat / 2 ^ 18 → Completes (.regionRevoke src k) s (fun d => NotAccepted s.chip d [.dvt, .mem])) ∧
      (g.state = 1 → (tget s.chip.dvt.gens (k.toNat % 2 ^ 18)).getD 0 = k.toNat / 2 ^ 18 → Completes (.regionRevoke src k) s (fun d =>
        Accepted s.chip d src (.general 0x0704) (s.chip.originDomain src.origin) ∧
        (g.inflight ≠ [] → ∃ z, tget d.dvt.regions (k.toNat % 2 ^ 18) = some z ∧ z.state = 2 ∧ z.inflight = g.inflight ∧ z.since = s.chip.tick) ∧
        (g.inflight = [] → s.chip.led.items = [] → s.chip.commits = true → tget d.dvt.regions (k.toNat % 2 ^ 18) = none ∧
          tget d.dvt.gens (k.toNat % 2 ^ 18) = some ((k.toNat / 2 ^ 18 + 1) % 2 ^ 14)))))) ∧
  (∀ (s : State) (r : BitVec 18), (tget s.chip.dvt.regions r.toNat = none → Completes (.revokeCut r) s (fun d => d = s.chip)) ∧
    (∀ g, tget s.chip.dvt.regions r.toNat = some g → (g.state ≠ 2 ∨ g.inflight = [] ∨ s.chip.tick < g.since + 400000 / max (s.chip.rg Reg.TCK_PERIOD.PERIOD) 1 →
        Completes (.revokeCut r) s (fun d => d = s.chip)) ∧
      (g.state = 2 → g.inflight ≠ [] → g.since + 400000 / max (s.chip.rg Reg.TCK_PERIOD.PERIOD) 1 ≤ s.chip.tick → s.chip.item g.seq = none →
        Completes (.revokeCut r) s (fun d => tget d.dvt.regions r.toNat = some { g with inflight := [] } ∧ Frame [.dvt] s.chip d)) ∧
      (g.state = 2 → g.inflight ≠ [] → g.since + 400000 / max (s.chip.rg Reg.TCK_PERIOD.PERIOD) 1 ≤ s.chip.tick → Completes (.revokeCut r) s (fun d =>
        d = Chip.revokeDone { s.chip with dvt := { s.chip.dvt with regions := tput s.chip.dvt.regions r.toNat { g with inflight := [] } } } r.toNat g.inflight.length))))

/-- R438, R442, R445, R447, R450, R452, R454 and R460 to R466. -/
def Obligations.PacketFrames : Prop :=
  (∀ (s : State) (m : Fin 16) (cyc : BitVec 32) (data : List (BitVec 8)) (room : Bool) (e c : Chip) (l : Nat) (r : List Nat) (f : PktMiss),
    e = (s.chip.pktTime cyc.toNat).stampRx m → c = (e.pk (fun x => { x with rxNow := x.rxNow + 1 })).count (Reg.PKT_COUNT.COUNT 0) →
    l = pickLayout ((tget (e.pktCopy e.pktC).selects (8 + m.val / 4)).getD []) (data.map BitVec.toNat) → r = e.layoutRec e.pktC l →
    f = ⟨data.map BitVec.toNat, m, e.pktC, l, room⟩ →
    (s.chip.macUp (8 + m.val / 4) (m.val % 4) = false ∨ data.length < 60 ∨ 9212 < data.length → Completes (.receivedFrame m cyc data room) s (fun d =>
      d = s.chip.pktTime cyc.toNat)) ∧
    (s.chip.macUp (8 + m.val / 4) (m.val % 4) = true → 60 ≤ data.length → data.length ≤ 9212 →
      (s.chip.running .pkt = false ∨ 4 ≤ e.pkt.rxNow → Completes (.receivedFrame m cyc data room) s (fun d => d = e.count (Reg.PKT_COUNT.COUNT 1))) ∧
      (s.chip.running .pkt = true → e.pkt.rxNow < 4 →
        (layoutMask r = 0 → Completes (.receivedFrame m cyc data room) s (fun d => d = c.classify f none)) ∧
        (layoutMask r ≠ 0 → e.pkt.cache.contains (r.getD 136 0 :: emKey r (fieldVector r (data.map BitVec.toNat))) = true →
          Completes (.receivedFrame m cyc data room) s (fun d => d = c.classify f (e.emFind e.pktC (r.getD 136 0) (emKey r (fieldVector r (data.map BitVec.toNat)))))) ∧
        (layoutMask r ≠ 0 → e.pkt.cache.contains (r.getD 136 0 :: emKey r (fieldVector r (data.map BitVec.toNat))) = false →
          (e.pkt.miss.length < 4096 → Completes (.receivedFrame m cyc data room) s (fun d =>
            d.pkt.miss = e.pkt.miss ++ [f] ∧ d.pkt.queues = e.pkt.queues ∧ d.led = s.chip.led ∧ d.mem = s.chip.mem)) ∧
          (4096 ≤ e.pkt.miss.length → Completes (.receivedFrame m cyc data room) s (fun d =>
            d = (c.count (Reg.PKT_COUNT.COUNT 3)).count (Reg.PKT_COUNT.COUNT 4))))))) ∧
  (∀ (d : Chip) (f : PktMiss) (em : Option EmEntry), ∃ e, Frame hubParts d e ∧
    d.classify f em = e.actFrame f (match d.tcamHit f.ver (lookupVector (d.layoutRec f.ver f.layout) f.data f.mac f.layout), em with
      | some t, some x => if t.override then t.action else x.action
      | some t, none => t.action
      | none, some x => x.action
      | none, none => layoutAction (d.layoutRec f.ver f.layout))) ∧
  (∀ (d : Chip) (f : PktMiss) (k : Nat) (a : List Nat), tget d.pkt.actions k = some a → a.getD 1 0 = 0 → a.getD 7 0 = 0 → aU16 a 2 = 0xFFFF →
    60 ≤ f.data.length → f.data.length ≤ 9212 →
    (aKind a = 0 → d.actFrame f k = (d.pktCount7 false).pfcCheck f.mac (framePrio (d.layoutRec f.ver f.layout) f.data)) ∧
    (aKind a = 1 → d.actFrame f k = (d.enqueue (aU16 a 4) f.data (f.data.length + 4) (some (f.mac, framePrio (d.layoutRec f.ver f.layout) f.data)) f.room).pfcCheck
      f.mac (framePrio (d.layoutRec f.ver f.layout) f.data)) ∧
    (aKind a = 2 → (d.actFrame f k).pkt.toHost = d.pkt.toHost ++ [(aU16 a 18, f.data)]) ∧
    (aKind a = 3 → (d.actFrame f k).pkt.toDvt = d.pkt.toDvt ++ [f.data])) ∧
  (∀ (d : Chip) (q : Nat) (bs : List Nat) (n : Nat) (rx : Option (Nat × Nat)) (room : Bool),
    ((d.pq q).weight = 0 → d.enqueue q bs n rx room = d.count (Reg.PKT_COUNT.COUNT 10)) ∧
    ((d.pq q).weight ≠ 0 → (d.pq q).depth * 1024 < (((d.pq q).frames.map (fun f => f.len)).foldl (· + ·) 0) ∨ room = false →
      d.enqueue q bs n rx room = (d.setPq q { d.pq q with drops := (d.pq q).drops + 1 }).count (Reg.PKT_COUNT.COUNT 9)) ∧
    ((d.pq q).weight ≠ 0 → (((d.pq q).frames.map (fun f => f.len)).foldl (· + ·) 0) ≤ (d.pq q).depth * 1024 → room = true →
      ((d.enqueue q bs n rx room).pq q).frames = (d.pq q).frames ++ [⟨bs, n, rx,
        (match (d.pq q).frames.getLast? with | some f => f.fin | none => max ((tget d.pkt.vtime (d.pq q).mac).getD 0) (d.pq q).fLast) +
          ceilDiv (n * 65536) (d.pq q).weight⟩])) ∧
  (∀ (d : Chip) (m q : Nat), (d.pkt.queues.map Prod.fst).Pairwise (· < ·) → d.nextQueue m = some q → ∃ x f rest, (q, x) ∈ d.pkt.queues ∧ x.mac = m ∧
    d.queueEligible q x = true ∧ x.frames = f :: rest ∧ ∀ p y g more, (p, y) ∈ d.pkt.queues → y.mac = m → d.queueEligible p y = true → y.frames = g :: more →
      f.fin < g.fin ∨ (f.fin = g.fin ∧ q ≤ p)) ∧
  (∀ (s : State) (m : Fin 16) (cyc : BitVec 32), s.chip.running .pkt = false ∨ s.chip.macUp (8 + m.val / 4) (m.val % 4) = false ∨
    4 ≤ (s.chip.pktTime cyc.toNat).pkt.txNow → Completes (.sendOpportunity m cyc) s (fun d => d = s.chip.pktTime cyc.toNat)) ∧
  (∀ (s : State) (m : Fin 16) (cyc : BitVec 32) (e : Chip), s.chip.running .pkt = true → s.chip.macUp (8 + m.val / 4) (m.val % 4) = true →
    (s.chip.pktTime cyc.toNat).pkt.txNow < 4 → e = (s.chip.pktTime cyc.toNat).dvtTake →
    (e.nextQueue m = none → Completes (.sendOpportunity m cyc) s (fun d => d = e)) ∧
    (∀ (q : Nat) (f : PFrame) (rest : List PFrame), e.nextQueue m = some q → (e.pq q).frames = f :: rest → Completes (.sendOpportunity m cyc) s (fun d =>
      (d.pq q).frames = rest ∧ d.pkt.tx = e.pkt.tx ++ [(m.val, f.data)] ∧ tget d.pkt.vtime m.val = some f.fin ∧
      tget d.lnk.txStamp m.val = some (d.timestamp d.pktOffset) ∧ d.pkt.txNow = e.pkt.txNow + 1 ∧ d.led = s.chip.led ∧ d.mem = s.chip.mem))) ∧
  (∀ (s : State) (cyc : BitVec 32), s.chip.pkt.miss = [] ∨ (s.chip.pktTime cyc.toNat).pkt.now < s.chip.pkt.nextFill →
    Completes (.emMissFill cyc) s (fun d => d = s.chip.pktTime cyc.toNat)) ∧
  (∀ (s : State) (cyc : BitVec 32) (f : PktMiss) (rest : List PktMiss) (e : Chip) (r key : List Nat) (b : Nat → Nat), s.chip.pkt.miss = f :: rest →
    s.chip.pkt.nextFill ≤ (s.chip.pktTime cyc.toNat).pkt.now →
    e = (s.chip.pktTime cyc.toNat).pk (fun p => { p with miss := rest, nextFill := p.now + 16 }) → r = s.chip.layoutRec f.ver f.layout →
    key = emKey r (fieldVector r f.data) →
    b = (fun i => s.chip.emAddr s.chip.emActive ((if i = 0 then ((s.chip.emCopy s.chip.emActive).buckets (r.getD 136 0) key).1
      else ((s.chip.emCopy s.chip.emActive).buckets (r.getD 136 0) key).2) * 4)) →
    (s.chip.anyPoison (b 0) 256 = true ∨ s.chip.anyPoison (b 1) 256 = true → Completes (.emMissFill cyc) s (fun d => d = (e.fault Src.PKT_EM_POISON).classify f none)) ∧
    (s.chip.anyPoison (b 0) 256 = false → s.chip.anyPoison (b 1) 256 = false →
    (s.chip.emFind f.ver (r.getD 136 0) key = none → Completes (.emMissFill cyc) s (fun d => d = e.classify f none)) ∧
    (∀ x, s.chip.emFind f.ver (r.getD 136 0) key = some x → Completes (.emMissFill cyc) s (fun d =>
      d = (e.pk (fun p => { p with cache := ((r.getD 136 0 :: key) :: p.cache).take 32768 })).classify f (some x))))) ∧
  (∀ (s : State) (m : Fin 16) (k : Fin 8) (t : BitVec 16), Completes (.pfcPause m k t) s (fun d => (m.val * 8 + k.val ∈ d.pkt.paused ↔ t ≠ 0) ∧
      (∀ n, n ≠ m.val * 8 + k.val → (n ∈ d.pkt.paused ↔ n ∈ s.chip.pkt.paused)) ∧ Frame [.pkt] s.chip d) ∧
    Completes (.pfcPauseExpiry m k) s (fun d => m.val * 8 + k.val ∉ d.pkt.paused ∧ (∀ n, n ≠ m.val * 8 + k.val → (n ∈ d.pkt.paused ↔ n ∈ s.chip.pkt.paused)) ∧
      Frame [.pkt] s.chip d)) ∧
  (∀ s : State, (2 ≤ s.chip.tck.cycle → Completes .shaperCalendarAdvance s (fun d => d = s.chip)) ∧
    (s.chip.tck.cycle < 2 → Completes .shaperCalendarAdvance s (fun d => d.pkt.calendar = (s.chip.pkt.calendar + 1) % 64 ∧ d.tck.cycle = 2 ∧
    (∀ e ∈ d.pkt.wheel, e.slot ≠ some d.pkt.calendar) ∧ d.pkt.wheel.length = s.chip.pkt.wheel.length ∧ Frame [.pkt, .tck] s.chip d))) ∧
  (∀ (s : State) (q : BitVec 16) (cyc : BitVec 32), Completes (.shaperWheelExpiry q cyc) s (fun d => d.pkt.now = (s.chip.pktTime cyc.toNat).pkt.now ∧
    (∀ e ∈ d.pkt.wheel, e.q = q.toNat → e.slot = none → d.pkt.now < e.due) ∧
    (∀ e ∈ s.chip.pkt.wheel, e.q ≠ q.toNat ∨ e.slot ≠ none ∨ d.pkt.now < e.due → e ∈ d.pkt.wheel) ∧ Frame [.pkt] s.chip d)) ∧
  (∀ (s : State) (cyc : BitVec 32), Completes (.creditModeScan cyc) s (fun d => Frame [.pkt] s.chip d ∧ d.pkt.now = (s.chip.pktTime cyc.toNat).pkt.now ∧
    ∀ q, (d.pq q).frames = (s.chip.pq q).frames ∧
    ((d.pq q).credit = (s.chip.pq q).credit ∨ ((s.chip.pq q).credit = 1 ∧ (d.pq q).credit = 2 ∧ 0 < (s.chip.pq q).level d.pkt.now)))) ∧
  (∀ (s : State) (cyc : BitVec 32) (q : Nat) (x : PQueue), s.chip.pkt.queues = [(q, x)] → x.credit = 1 → 0 < x.level (s.chip.pktTime cyc.toNat).pkt.now →
    Completes (.creditModeScan cyc) s (fun d => (d.pq q).credit = 2)) ∧
  (∀ a b : Nat, -32768 ≤ verDiff a b ∧ verDiff a b ≤ 32767 ∧ ((a : Int) - b - verDiff a b) % 65536 = 0) ∧
  (∀ (f : LField) (bs : List Nat), (8 * bs.length < f.start + f.width → f.value bs = 0) ∧
    (f.start + f.width ≤ 8 * bs.length → ∀ i, i < f.width → bitOf (f.value bs) (f.width - 1 - i) = decide (frameBit bs (f.start + i) = 1))) ∧
  (∀ (fv bs x : List Nat) (o n : Nat), x.getD 1 0 = o → x.getD 2 0 = n → x.getD 3 0 = 0 → n ≤ (x.drop 8).length → o + n ≤ bs.length →
    (x.getD 0 0 = 1 → applyEdit fv bs x = some (bs.take o ++ (x.drop 8).take n ++ bs.drop (o + n))) ∧
    (x.getD 0 0 = 2 → applyEdit fv bs x = some (bs.take o ++ (x.drop 8).take n ++ bs.drop o)) ∧
    (x.getD 0 0 = 3 → applyEdit fv bs x = some (bs.take o ++ bs.drop (o + n))))

/-- A command of the packet path. -/
def pktRow (src : Submit) (l p t o : BitVec 8) (x i f n : BitVec 16) (r : Nat) (a b c : BitVec 32) (ins : Instr) : Prop :=
  ins ∈ [Instr.layoutSet src l r, .selectSet src p r, .actionSet src x r, .actionFree src x, .ruleAdd src 1 o x i r, .ruleDel src t i r, .groupCommit src,
    .groupAbort src, .indirWrite src f n r, .queueSet src x l p f t a b c, .policerSet src x l a b, .emRebuild src a b]

/-- R439, R443, R448, R449, R455 to R459, R467, R468 and R471. -/
def Obligations.PacketCommands : Prop :=
  (∀ (s : State) (src : Submit) (l p t o : BitVec 8) (x i f n : BitVec 16) (r k : Nat) (a b c : BitVec 32) (ins : Instr), pktRow src l p t o x i f n r a b c ins →
    src.origin = .ring k → isVF (s.chip.ringFn k) = true → TakenUp s.chip src .pkt true 0 → Completes ins s (fun d => NotAccepted s.chip d [.pkt, .mem])) ∧
  (∀ (s : State) (src : Submit) (l : BitVec 8) (r : Nat), TakenUp s.chip src .pkt false 0 → RecordClean s.chip r 256 →
    (s.chip.layoutOk (s.chip.bytes r 256) = false ∨ 65535 ≤ s.chip.stagedOpen → Completes (.layoutSet src l r) s (fun d => NotAccepted s.chip d [.pkt, .mem])) ∧
    (s.chip.layoutOk (s.chip.bytes r 256) = true → s.chip.stagedOpen < 65535 → Completes (.layoutSet src l r) s (fun d =>
      Accepted s.chip d src (.general 0x0801) (s.chip.originDomain src.origin) ∧ (s.chip.led.items = [] → s.chip.commits = true →
        s.chip.flag Reg.PKT_VERSION.RETIRING = false → tget (d.pktCopy s.chip.pktP).layouts l.toNat = some (s.chip.bytes r 256) ∧
          d.pktCopy s.chip.pktC = s.chip.pktCopy s.chip.pktC)))) ∧
  (∀ (s : State) (src : Submit) (p : BitVec 8) (r : Nat), TakenUp s.chip src .pkt false 0 →
    (p.toNat < 8 ∨ 11 < p.toNat ∨ (RecordClean s.chip r 520 ∧ (selectOk (s.chip.bytes r 520) = false ∨ 65535 ≤ s.chip.stagedOpen)) → Completes (.selectSet src p r) s (fun d => NotAccepted s.chip d [.pkt, .mem])) ∧
    (8 ≤ p.toNat → p.toNat ≤ 11 → RecordClean s.chip r 520 → selectOk (s.chip.bytes r 520) = true → s.chip.stagedOpen < 65535 →
      Completes (.selectSet src p r) s (fun d => Accepted s.chip d src (.general 0x0802) (s.chip.originDomain src.origin) ∧
        (s.chip.led.items = [] → s.chip.commits = true → s.chip.flag Reg.PKT_VERSION.RETIRING = false →
          tget (d.pktCopy s.chip.pktP).selects p.toNat = some (s.chip.bytes r 520))))) ∧
  (∀ (s : State) (src : Submit) (x : BitVec 16) (r : Nat), TakenUp s.chip src .pkt false 0 → RecordClean s.chip r 128 →
    (16384 ≤ x.toNat ∨ actionOk (s.chip.bytes r 128) = false ∨ (tget s.chip.pkt.actions x.toNat).isSome = true ∨
      (∃ q, (x.toNat, q) ∈ s.chip.pkt.actPend) → Completes (.actionSet src x r) s (fun d => NotAccepted s.chip d [.pkt, .mem])) ∧
    (x.toNat < 16384 → actionOk (s.chip.bytes r 128) = true → tget s.chip.pkt.actions x.toNat = none → (∀ q, (x.toNat, q) ∉ s.chip.pkt.actPend) →
      Completes (.actionSet src x r) s (fun d => Accepted s.chip d src (.general 0x0803) (s.chip.originDomain src.origin) ∧
        (s.chip.led.items = [] → s.chip.commits = true → tget d.pkt.actions x.toNat = some (s.chip.bytes r 128))))) ∧
  (∀ (s : State) (src : Submit) (x : BitVec 16), TakenUp s.chip src .pkt false 0 →
    (tget s.chip.pkt.actions x.toNat = none ∨ s.chip.actionNamed x.toNat = true → Completes (.actionFree src x) s (fun d => NotAccepted s.chip d [.pkt, .mem])) ∧
    ((tget s.chip.pkt.actions x.toNat).isSome = true → s.chip.actionNamed x.toNat = false → Completes (.actionFree src x) s (fun d =>
      Accepted s.chip d src (.general 0x0804) (s.chip.originDomain src.origin) ∧ (s.chip.led.items = [] → s.chip.commits = true →
        tget d.pkt.actions x.toNat = none)))) ∧
  (∀ (s : State) (src : Submit) (o : BitVec 8) (x i : BitVec 16) (r : Nat), TakenUp s.chip src .pkt false 0 → o.toNat ≤ 1 → RecordClean s.chip r 160 →
    (8192 ≤ i.toNat ∨ tget s.chip.pkt.actions x.toNat = none ∨ (tget s.chip.pkt.tcam i.toNat).isSome = true ∨
      65535 ≤ s.chip.stagedOpen → Completes (.ruleAdd src 1 o x i r) s (fun d => NotAccepted s.chip d [.pkt, .mem])) ∧
    (i.toNat < 8192 → (tget s.chip.pkt.actions x.toNat).isSome = true → tget s.chip.pkt.tcam i.toNat = none → s.chip.stagedOpen < 65535 →
      Completes (.ruleAdd src 1 o x i r) s (fun d => Accepted s.chip d src (.general 0x0805) (s.chip.originDomain src.origin) ∧
        (s.chip.led.items = [] → s.chip.commits = true → ∃ e, tget d.pkt.tcam i.toNat = some e ∧ e.pend = 0 ∧ e.addVer = s.chip.pktP ∧ e.deleted = false ∧
          e.action = x.toNat ∧ e.value = (s.chip.bytes r 160).take 80 ∧ e.mask = (s.chip.bytes r 160).drop 80 ∧ e.live s.chip.pktC = false)))) ∧
  (∀ (s : State) (src : Submit) (x i : BitVec 16) (r : Nat), (s.chip.rebState = 3 → ∀ o, Completes (.ruleAdd src 0 o x i r) s (fun d => d = s.chip)) ∧
    (TakenUp s.chip src .pkt false 0 → s.chip.rebState ≠ 3 → RecordClean s.chip r 64 →
      (emRecOk (s.chip.bytes r 64) = false ∨ tget s.chip.pkt.actions x.toNat = none → Completes (.ruleAdd src 0 0 x i r) s (fun d => NotAccepted s.chip d [.pkt, .mem])) ∧
      (emRecOk (s.chip.bytes r 64) = true → (tget s.chip.pkt.actions x.toNat).isSome = true → s.chip.stagedOpen < 65535 →
        (s.chip.emCopy s.chip.emActive).slots = [] → s.chip.rebState = 0 → Completes (.ruleAdd src 0 0 x i r) s (fun d =>
          Accepted s.chip d src (.general 0x0805) (s.chip.originDomain src.origin) ∧ (s.chip.led.items = [] → s.chip.commits = true →
            ∃ k e, (d.emCopy d.emActive).slots = [(k, e)] ∧ e.key = (s.chip.bytes r 64).take 40 ∧ e.profile = (s.chip.bytes r 64).getD 40 0 ∧
              e.action = x.toNat ∧ e.pend = 0 ∧ e.addVer = s.chip.pktP ∧ e.deleted = false))) ∧
      (emRecOk (s.chip.bytes r 64) = true → (tget s.chip.pkt.actions x.toNat).isSome = true →
        (∃ y ∈ (s.chip.emCopy s.chip.emActive).slots, y.2.key = (s.chip.bytes r 64).take 40 ∧ y.2.profile = (s.chip.bytes r 64).getD 40 0 ∧
          (y.2.pend ≠ 0 ∨ y.2.live s.chip.pktP = true)) → Completes (.ruleAdd src 0 0 x i r) s (fun d => NotAccepted s.chip d [.pkt, .mem])) ∧
      (∀ c, emRecOk (s.chip.bytes r 64) = true → (tget s.chip.pkt.actions x.toNat).isSome = true → s.chip.stagedOpen < 65535 →
        (∀ y ∈ (s.chip.emCopy s.chip.emActive).slots, ¬ (y.2.key = (s.chip.bytes r 64).take 40 ∧ y.2.profile = (s.chip.bytes r 64).getD 40 0 ∧
          (y.2.pend ≠ 0 ∨ y.2.live s.chip.pktP = true))) →
        (s.chip.emCopy s.chip.emActive).insert (s.chip.dropHand src.origin).emPick ⟨s.chip.pkt.nextId, (s.chip.bytes r 64).take 40, (s.chip.bytes r 64).getD 40 0, 0, 0,
          false, x.toNat, 2 ^ 64⟩ = c →
        (c = none → Completes (.ruleAdd src 0 0 x i r) s (fun d => NotAccepted s.chip d [])) ∧
        (c ≠ none → s.chip.rebState = 0 → Completes (.ruleAdd src 0 0 x i r) s (fun d =>
          Accepted s.chip d src (.general 0x0805) (s.chip.originDomain src.origin)))))) ∧
  (∀ (s : State) (src : Submit) (i : BitVec 16) (r : Nat), TakenUp s.chip src .pkt false 0 → RecordClean s.chip r 64 →
    (emRecOk (s.chip.bytes r 64) = false ∨ s.chip.emFind s.chip.pktC ((s.chip.bytes r 64).getD 40 0) ((s.chip.bytes r 64).take 40) = none ∨
      65535 ≤ s.chip.stagedOpen → Completes (.ruleDel src 0 i r) s (fun d => NotAccepted s.chip d [.pkt, .mem])) ∧
    (∀ e, emRecOk (s.chip.bytes r 64) = true → s.chip.emFind s.chip.pktC ((s.chip.bytes r 64).getD 40 0) ((s.chip.bytes r 64).take 40) = some e →
      s.chip.stagedOpen < 65535 → Completes (.ruleDel src 0 i r) s (fun d => Accepted s.chip d src (.general 0x0806) (s.chip.originDomain src.origin) ∧
        (s.chip.led.items = [] → s.chip.commits = true → s.chip.rebState = 0 →
          d.emFind s.chip.pktC ((s.chip.bytes r 64).getD 40 0) ((s.chip.bytes r 64).take 40) = some { e with deleted := true, delVer := s.chip.pktP })))) ∧
  (∀ (s : State) (src : Submit) (l t o p : BitVec 8) (x i f n : BitVec 16) (r : Nat), TakenUp s.chip src .pkt false 0 →
    (1 < t.toNat ∨ 1 < o.toNat → ¬ (t = 0 ∧ s.chip.rebState = 3) → Completes (.ruleAdd src t o x i r) s (fun d => NotAccepted s.chip d [.pkt, .mem])) ∧
    (1 < t.toNat → Completes (.ruleDel src t i r) s (fun d => NotAccepted s.chip d [.pkt, .mem])) ∧
    (∀ (k : Nat) (c : Instr), (k, c) ∈ [(256, Instr.layoutSet src l r), (520, .selectSet src p r), (128, .actionSet src x r), (160, .ruleAdd src 1 o x i r),
      (64, .ruleDel src 0 i r), (2 * n.toNat, .indirWrite src f n r)] → r % 64 ≠ 0 ∨ s.chip.inDieOrNear r k = false ∨ s.chip.anyPoison r k = true →
      (∀ q ∈ s.chip.mu.flips, overlaps r k q.1 32 = false) → Completes c s (fun d => NotAccepted s.chip d [.pkt, .mem]))) ∧
  (∀ (s : State) (src : Submit) (i : BitVec 16) (r : Nat), TakenUp s.chip src .pkt false 0 →
    (8192 ≤ i.toNat ∨ (∀ e, tget s.chip.pkt.tcam i.toNat = some e → e.live s.chip.pktC = false) ∨ 65535 ≤ s.chip.stagedOpen → Completes (.ruleDel src 1 i r) s (fun d => NotAccepted s.chip d [.pkt, .mem])) ∧
    (∀ e, i.toNat < 8192 → tget s.chip.pkt.tcam i.toNat = some e → e.live s.chip.pktC = true → s.chip.stagedOpen < 65535 → Completes (.ruleDel src 1 i r) s (fun d =>
      Accepted s.chip d src (.general 0x0806) (s.chip.originDomain src.origin) ∧ (s.chip.led.items = [] → s.chip.commits = true →
        tget d.pkt.tcam i.toNat = some { e with deleted := true, delVer := s.chip.pktP })))) ∧
  (∀ (s : State) (src : Submit), TakenUp s.chip src .pkt false 0 →
    Completes (.groupCommit src) s (fun d => Accepted s.chip d src (.general 0x0807) (s.chip.originDomain src.origin) ∧
      (s.chip.led.items = [] → s.chip.commits = true → s.chip.flag Reg.PKT_VERSION.RETIRING = false → s.chip.rebState ≠ 3 →
        d.rg Reg.PKT_VERSION.COMMITTED = s.chip.pktP ∧ d.rg Reg.PKT_VERSION.STAGED = 0 ∧ d.flag Reg.PKT_VERSION.RETIRING = true) ∧
      (s.chip.flag Reg.PKT_VERSION.RETIRING = true → d.pktC = s.chip.pktC)) ∧
    Completes (.groupAbort src) s (fun d => Accepted s.chip d src (.general 0x0808) (s.chip.originDomain src.origin) ∧
      (s.chip.led.items = [] → s.chip.commits = true → s.chip.flag Reg.PKT_VERSION.RETIRING = false → s.chip.rebState ≠ 3 →
        d.rg Reg.PKT_VERSION.STAGED = 0 ∧ d.pkt.copy0 = d.pkt.copy1 ∧ d.pktC = s.chip.pktC ∧
        ∀ e ∈ d.pkt.tcam, e.2.pend = 0 → e.2.addVer ≠ s.chip.pktP))) ∧
  (∀ (s : State) (src : Submit) (f n : BitVec 16) (r : Nat), TakenUp s.chip src .pkt false 0 →
    (n = 0 ∨ 4096 < f.toNat + n.toNat → Completes (.indirWrite src f n r) s (fun d => NotAccepted s.chip d [.pkt, .mem])) ∧
    (0 < n.toNat → f.toNat + n.toNat ≤ 4096 → RecordClean s.chip r (2 * n.toNat) → s.chip.stagedOpen < 65535 →
      Completes (.indirWrite src f n r) s (fun d => Accepted s.chip d src (.general 0x0809) (s.chip.originDomain src.origin) ∧
        (s.chip.led.items = [] → s.chip.commits = true → s.chip.flag Reg.PKT_VERSION.RETIRING = false → ∀ k < n.toNat,
          tget (d.pktCopy s.chip.pktP).indir (f.toNat + k) = some (leNat (((s.chip.bytes r (2 * n.toNat)).drop (2 * k)).take 2)))))) ∧
  (∀ (s : State) (src : Submit) (q w : BitVec 16) (m p fl : BitVec 8) (de ra bu : BitVec 32), TakenUp s.chip src .pkt false 0 →
    (15 < m.toNat ∨ 7 < p.toNat ∨ 3 < fl.toNat ∨ de = 0 ∨ 16384 < de.toNat ∨ ra = 0 ∨ 16777215 < ra.toNat ∨ bu.toNat < 9216 ∨ 16777215 < bu.toNat →
      Completes (.queueSet src q m p w fl de ra bu) s (fun d => NotAccepted s.chip d [.pkt, .mem])) ∧
    (m.toNat ≤ 15 → p.toNat ≤ 7 → fl.toNat ≤ 3 → 0 < de.toNat → de.toNat ≤ 16384 → 0 < ra.toNat → ra.toNat ≤ 16777215 → 9216 ≤ bu.toNat → bu.toNat ≤ 16777215 →
      Completes (.queueSet src q m p w fl de ra bu) s (fun d => Accepted s.chip d src (.general 0x080A) (s.chip.originDomain src.origin) ∧
        (s.chip.led.items = [] → s.chip.commits = true → (d.pq q.toNat).mac = m.toNat ∧ (d.pq q.toNat).prio = p.toNat ∧ (d.pq q.toNat).weight = w.toNat ∧
          (d.pq q.toNat).depth = de.toNat ∧ (d.pq q.toNat).rate = ra.toNat ∧ (d.pq q.toNat).burst = bu.toNat ∧ (d.pq q.toNat).frames = (s.chip.pq q.toNat).frames ∧
          (d.pq q.toNat).shape = bitOf fl.toNat 0 ∧ (d.pq q.toNat).full = bitOf fl.toNat 1 ∧
          (d.pq q.toNat).tokens = (if (s.chip.pq q.toNat).shape = bitOf fl.toNat 0 ∧ (s.chip.pq q.toNat).rate = ra.toNat ∧ (s.chip.pq q.toNat).burst = bu.toNat then
            (s.chip.pq q.toNat).level s.chip.pkt.now else if bitOf fl.toNat 1 then ((bu.toNat * 16000 : Nat) : Int) else 0))))) ∧
  (∀ (s : State) (src : Submit) (k : BitVec 16) (fl : BitVec 8) (ra bu : BitVec 32), TakenUp s.chip src .pkt false 0 →
    (16384 ≤ k.toNat ∨ (fl ≠ 0 ∧ fl ≠ 2) → Completes (.policerSet src k fl ra bu) s (fun d => NotAccepted s.chip d [.pkt, .mem])) ∧
    (k.toNat < 16384 → fl = 0 ∨ fl = 2 → Completes (.policerSet src k fl ra bu) s (fun d => Accepted s.chip d src (.general 0x080B) (s.chip.originDomain src.origin) ∧
      (s.chip.led.items = [] → s.chip.commits = true → (d.policer k.toNat).rate = ra.toNat ∧ (d.policer k.toNat).burst = bu.toNat ∧
        (d.policer k.toNat).tokens = if (s.chip.policer k.toNat).rate = ra.toNat ∧ (s.chip.policer k.toNat).burst = bu.toNat then
          (s.chip.policer k.toNat).level s.chip.pkt.now else if fl = 2 then bu.toNat * 2 ^ 16 else 0)))) ∧
  (∀ (s : State) (src : Submit) (a b : BitVec 32), TakenUp s.chip src .pkt false 0 → Completes (.emRebuild src a b) s (fun d =>
    Accepted s.chip d src (.general 0x080C) (s.chip.originDomain src.origin) ∧ (s.chip.led.items = [] → s.chip.pkt.reb.on = false →
      d.rebState = 1 ∧ d.pkt.reb.seq = s.chip.led.nextSeq ∧ d.pkt.reb.seed0 = a.toNat ∧ d.pkt.reb.seed1 = b.toNat))) ∧
  (∀ s : State, (s.chip.flag Reg.PKT_VERSION.RETIRING = false ∨ (∃ f ∈ s.chip.pkt.miss, f.ver ≠ s.chip.pktC) ∨ s.chip.rebState = 3 →
      Completes .versionRetire s (fun d => d = s.chip)) ∧
    (s.chip.flag Reg.PKT_VERSION.RETIRING = true → s.chip.pkt.miss = [] → s.chip.rebState = 0 → s.chip.pkt.keyWait = [] → Completes .versionRetire s (fun d =>
      d.flag Reg.PKT_VERSION.RETIRING = false ∧ d.pkt.copy0 = d.pkt.copy1 ∧ d.pktC = s.chip.pktC ∧
      ∀ e ∈ d.pkt.tcam, ¬ (e.2.pend = 0 ∧ e.2.deleted = true ∧ e.2.delVer = s.chip.pktC)))) ∧
  (∀ s : State, (s.chip.rebState ≠ 1 → Completes .rebuildCopyDone s (fun d => d = s.chip)) ∧ (s.chip.rebState ≠ 2 → Completes .rebuildDrainDone s (fun d => d = s.chip)) ∧
    (s.chip.rebState ≠ 3 → Completes .rebuildSwitchDone s (fun d => d = s.chip)) ∧
    (s.chip.emActive ≤ 1 → ∀ c : EmCopy,
      (s.chip.rebState = 1 → (s.chip.emCopy (1 - s.chip.emActive)).applyAll s.chip.emPick (s.chip.pkt.reb.todo.map EmChange.put) = some c →
        Completes .rebuildCopyDone s (fun d => d.rebState = 2 ∧ d.emCopy (1 - s.chip.emActive) = c ∧ d.emCopy s.chip.emActive = s.chip.emCopy s.chip.emActive ∧
          d.pkt.reb.todo = [])) ∧
      (s.chip.rebState = 2 → (s.chip.emCopy (1 - s.chip.emActive)).applyAll s.chip.emPick (s.chip.pkt.reb.log.take (s.chip.pkt.reb.log.length - 1024)) = some c →
        Completes .rebuildDrainDone s (fun d => d.rebState = 3 ∧ d.emCopy (1 - s.chip.emActive) = c ∧
          d.pkt.reb.log = s.chip.pkt.reb.log.drop (s.chip.pkt.reb.log.length - 1024))) ∧
      (s.chip.rebState = 3 → (s.chip.emCopy (1 - s.chip.emActive)).applyAll s.chip.emPick s.chip.pkt.reb.log = some c → s.chip.led.items = [] →
        Completes .rebuildSwitchDone s (fun d => d.rebState = 0 ∧ d.emActive = 1 - s.chip.emActive ∧ d.emCopy d.emActive = c ∧ d.pkt.cache = [] ∧
          d.pkt.reb.on = false))) ∧
    (s.chip.rebState = 1 → s.chip.pkt.reb.todo = [] → Completes .rebuildCopyDone s (fun d => d.rebState = 2)) ∧
    (s.chip.rebState = 2 → s.chip.pkt.reb.log.length ≤ 1024 → Completes .rebuildDrainDone s (fun d => d.rebState = 3 ∧ d.pkt.reb.log = s.chip.pkt.reb.log)) ∧
    (s.chip.rebState = 3 → s.chip.pkt.reb.log = [] → s.chip.led.items = [] → s.chip.emActive ≤ 1 → Completes .rebuildSwitchDone s (fun d =>
      d.rebState = 0 ∧ d.emActive = 1 - s.chip.emActive ∧ d.pkt.cache = [] ∧ d.pkt.reb.on = false)) ∧
    (s.chip.rebState = 1 → s.chip.pkt.reb.on = true → s.chip.rg Reg.PKT_EM_STATE.ABANDONS < 3 →
      (s.chip.emCopy (1 - s.chip.emActive)).applyAll s.chip.emPick (s.chip.pkt.reb.todo.map EmChange.put) = none → Completes .rebuildCopyDone s (fun d =>
        d.rebState = 0 ∧ d.rg Reg.PKT_EM_STATE.ABANDONS = s.chip.rg Reg.PKT_EM_STATE.ABANDONS + 1 ∧ d.pkt.reb.restart = some (s.chip.tick + 1024) ∧ d.led = s.chip.led))) ∧
  (∀ s : State, (s.chip.pkt.reb.restart = none → Completes .rebuildRestart s (fun d => d = s.chip)) ∧
    (∀ t, s.chip.pkt.reb.restart = some t → (s.chip.tick < t ∨ s.chip.running .pkt = false → Completes .rebuildRestart s (fun d => d = s.chip)) ∧
      (t ≤ s.chip.tick → s.chip.running .pkt = true → Completes .rebuildRestart s (fun d => d.rebState = 1 ∧ d.pkt.reb.seq = s.chip.pkt.reb.seq ∧ d.pkt.reb.restart = none))) ∧
    ((s.chip.pkt.reb.on = false ∨ s.chip.rebState = 0) → Completes .rebuildAbandon s (fun d => Answered d true ∧ Frame [.answer] s.chip d)) ∧
    (s.chip.pkt.reb.on = true → s.chip.rebState ≠ 0 → Completes .rebuildAbandon s (fun d => d.rebState = 0 ∧
      d.rg Reg.PKT_EM_STATE.ABANDONS = s.chip.rg Reg.PKT_EM_STATE.ABANDONS ∧ d.pkt.reb.restart = some (s.chip.tick + 1024) ∧ Answered d true ∧
      Frame [.regs, .pkt, .answer] s.chip d)) ∧
    Completes .cacheFlush s (fun d => d.pkt = { s.chip.pkt with cache := [] } ∧ Answered d true ∧ Frame [.pkt, .answer] s.chip d)) ∧
  (∀ (s : State) (t : Fin 16) (c : Fin 2) (p : Fin 4) (i : BitVec 24), Completes (.pktTreadAddr t c p i) s (fun d =>
    d.rg Reg.PKT_TREAD_ADDR.TABLE = (if t.val ≤ 8 then t.val else s.chip.rg Reg.PKT_TREAD_ADDR.TABLE) ∧ d.rg Reg.PKT_TREAD_ADDR.COPY = c ∧
    d.rg Reg.PKT_TREAD_ADDR.PART = p ∧ d.rg Reg.PKT_TREAD_ADDR.INDEX = i.toNat ∧ d.rg Reg.PKT_TREAD_ADDR.DONE = 1 ∧ d.pkt.tread.length = 256 ∧
    d.pkt.tread = ((s.chip.treadEntry (if t.val ≤ 8 then t.val else s.chip.rg Reg.PKT_TREAD_ADDR.TABLE) c i.toNat).drop (256 * p) ++ List.replicate 256 0).take 256 ∧ Frame [.regs, .pkt] s.chip d)) ∧
  (∀ (s : State) (k : Fin 17) (v : BitVec 32), Completes (.pktToeplitzKey k v) s (fun d => d.rg (Reg.PKT_TOEPLITZ_KEY.KEY k) = v.toNat ∧
    (s.chip.flag Reg.PKT_VERSION.RETIRING = false → tget (d.pktCopy s.chip.pktP).key k.val = some v.toNat) ∧
    (s.chip.flag Reg.PKT_VERSION.RETIRING = true → d.pkt.keyWait = s.chip.pkt.keyWait ++ [(k.val, v.toNat)]) ∧ Frame [.regs, .pkt] s.chip d))

/-- R481 to R484, R486 to R488 and R492. -/
def Obligations.HostRings : Prop :=
  (∀ (s : State) (src : Submit), TakenUp s.chip src .hif true 0 → Completes (.nop src) s (fun d =>
    Accepted s.chip d src (.general 0x0903) (s.chip.originDomain src.origin) ∧ (s.chip.led.items = [] → s.chip.commits = true →
      ∃ i, d.item s.chip.led.nextSeq = some i ∧ i.state = .committed ∧ i.reply.code = Code.OK))) ∧
  (∀ (s : State) (q : Req) (r : BitVec 14) (t : BitVec 32) (e : Chip), e = s.chip.wake →
    (e.reqDead q = true ∨ e.hub.inReset = true → ∀ c ∈ [Instr.hifDbCmd q r t, .hifDbRpl q r t], Completes c s (fun d => d = e)) ∧
    (e.reqDead q = false → e.hub.inReset = false →
    (e.flag Reg.PCR_STATE.READY = false → ∀ c ∈ [Instr.hifDbCmd q r t, .hifDbRpl q r t], Completes c s (fun d => d = e.count (Reg.HIF_COUNT.COUNT (reqPf q) 7))) ∧
    (e.flag Reg.PCR_STATE.READY = true →
      (e.mayWrite q r.toNat = true → sub32 t.toNat (e.rg (Reg.HIF_RING_IDX.CMD_HEAD r.toNat)) ≤ e.cmdEntries r.toNat →
        Completes (.hifDbCmd q r t) s (fun d => d.rg (Reg.HIF_DB_CMD.CMD_TAIL r.toNat) = t.toNat ∧ Frame [.regs] e d)) ∧
      (e.mayWrite q r.toNat = true → sub32 (e.rg (Reg.HIF_RING_IDX.RPL_HEAD r.toNat)) t.toNat < 2 ^ 31 →
        Completes (.hifDbRpl q r t) s (fun d => d.rg (Reg.HIF_DB_RPL.RPL_TAIL r.toNat) = t.toNat ∧ Frame [.regs] e d)) ∧
      (e.mayWrite q r.toNat = false ∨ e.cmdEntries r.toNat < sub32 t.toNat (e.rg (Reg.HIF_RING_IDX.CMD_HEAD r.toNat)) →
        Completes (.hifDbCmd q r t) s (fun d => d = (e.count (Reg.HIF_COUNT.COUNT (reqPf q) 7)).fault (Src.HIF_DOORBELL (reqPf q)))) ∧
      (e.mayWrite q r.toNat = false ∨ 2 ^ 31 ≤ sub32 (e.rg (Reg.HIF_RING_IDX.RPL_HEAD r.toNat)) t.toNat →
        Completes (.hifDbRpl q r t) s (fun d => d = (e.count (Reg.HIF_COUNT.COUNT (reqPf q) 7)).fault (Src.HIF_DOORBELL (reqPf q))))))) ∧
  (∀ (s : State) (q : Req) (r : BitVec 14), s.chip.reqDead q = true →
    ∀ c ∈ [Instr.hifRingEnable q r, .hifRingDisable q r], Completes c s (fun d => d = s.chip)) ∧
  (∀ (s : State) (q : Req) (r : BitVec 14), s.chip.reqDead q = false → s.chip.mayWrite q r.toNat = false → ∀ c ∈ [Instr.hifRingEnable q r, .hifRingDisable q r],
    Completes c s (fun d => d = s.chip.count (Reg.HIF_COUNT.COUNT (reqPf q) 7))) ∧
  (∀ (s : State) (q : Req) (r : BitVec 14), s.chip.reqDead q = false → s.chip.mayWrite q r.toNat = true →
    (s.chip.flag (Reg.HIF_RING.ENABLE r.toNat) = true → Completes (.hifRingEnable q r) s (fun d => d = s.chip)) ∧
    (s.chip.flag (Reg.HIF_RING.ENABLE r.toNat) = false → Completes (.hifRingDisable q r) s (fun d => d = s.chip)) ∧
    (s.chip.flag (Reg.HIF_RING.ENABLE r.toNat) = false → s.chip.ringOwner r.toNat = none → Completes (.hifRingEnable q r) s (fun d =>
      d.flag (Reg.HIF_RING.ERR r.toNat) = true ∧ d.flag (Reg.HIF_RING.ENABLE r.toNat) = false ∧ Frame [.regs] s.chip d)) ∧
    (∀ f, s.chip.flag (Reg.HIF_RING.ENABLE r.toNat) = false → s.chip.ringOwner r.toNat = some f →
      (s.chip.ringOk f r.toNat = false → Completes (.hifRingEnable q r) s (fun d => d.flag (Reg.HIF_RING.ERR r.toNat) = true ∧
        d.flag (Reg.HIF_RING.ENABLE r.toNat) = false ∧ Frame [.regs] s.chip d)) ∧
      (s.chip.ringOk f r.toNat = true → Completes (.hifRingEnable q r) s (fun d => d.flag (Reg.HIF_RING.ENABLE r.toNat) = true ∧
        d.flag (Reg.HIF_RING.ERR r.toNat) = false ∧ d.rg (Reg.HIF_RING_IDX.CMD_HEAD r.toNat) = 0 ∧ d.rg (Reg.HIF_RING_IDX.RPL_HEAD r.toNat) = 0 ∧
        d.rg (Reg.HIF_DB_CMD.CMD_TAIL r.toNat) = 0 ∧ d.rg (Reg.HIF_DB_RPL.RPL_TAIL r.toNat) = 0 ∧ Frame [.regs, .hif, .attn, .attnServed] s.chip d))) ∧
    (s.chip.flag (Reg.HIF_RING.ENABLE r.toNat) = true → Completes (.hifRingDisable q r) s (fun d => d.flag (Reg.HIF_RING.ENABLE r.toNat) = false ∧
      d.flag (Reg.HIF_RING.DRAINING r.toNat) = s.chip.ringOpen r.toNat ∧ Frame [.regs] s.chip d))) ∧
  (∀ (s : State) (r : BitVec 14) (e : Desc) (p : Bool), s.chip.flag (Reg.HIF_RING.ENABLE r.toNat) = false ∨ s.chip.flag (Reg.HIF_RING.ERR r.toNat) = true ∨
      s.chip.fetched.contains r.toNat = true ∨ s.chip.ringDead r.toNat = true ∨ s.chip.running .hif = false ∨ (s.chip.agentRec (.block .hif)).fencing = true ∨
      s.chip.rg (Reg.HIF_RING_IDX.CMD_HEAD r.toNat) = s.chip.rg (Reg.HIF_DB_CMD.CMD_TAIL r.toNat) ∨ s.chip.rplEntries r.toNat ≤ s.chip.ringLoad r.toNat + 16 →
    Completes (.commandFetch r e p) s (fun d => d = s.chip)) ∧
  (∀ (s : State) (r : BitVec 14) (e : Desc), s.chip.flag (Reg.HIF_RING.ENABLE r.toNat) = true → s.chip.flag (Reg.HIF_RING.ERR r.toNat) = false →
    s.chip.fetched.contains r.toNat = false → s.chip.ringDead r.toNat = false → s.chip.running .hif = true → (s.chip.agentRec (.block .hif)).fencing = false →
    s.chip.rg (Reg.HIF_RING_IDX.CMD_HEAD r.toNat) ≠ s.chip.rg (Reg.HIF_DB_CMD.CMD_TAIL r.toNat) → s.chip.ringLoad r.toNat + 16 < s.chip.rplEntries r.toNat →
    Completes (.commandFetch r e true) s (fun d => (∃ x, d.owed = s.chip.owed ++ [x] ∧ x.ring = r.toNat ∧ x.code = Code.HIF_CMD_POISON ∧ x.tag = 0xFFFFFFFF ∧ x.seq = 0 ∧
      x.lo = s.chip.rg (Reg.HIF_RING_IDX.CMD_HEAD r.toNat)) ∧ d.fetched = s.chip.fetched ∧ d.led = s.chip.led ∧ d.mem = s.chip.mem) ∧
    (s.chip.anyPoison (s.chip.rg (Reg.HIF_RING.CMD_BASE r.toNat) + s.chip.rg (Reg.HIF_RING_IDX.CMD_HEAD r.toNat) % s.chip.cmdEntries r.toNat * 64) 64 = false →
      (s.chip.rg (Reg.HIF_RING.KIND r.toNat) = 0 → generalOpcode (opcodeOf e) = false ∨ wf e.w0 16 16 ≠ 0 → Completes (.commandFetch r e false) s (fun d =>
        (∃ x, d.owed = s.chip.owed ++ [x] ∧ x.ring = r.toNat ∧ x.code = Code.HIF_BAD_CMD ∧ x.tag = wf e.w0 32 32 ∧ x.seq = 0) ∧ d.fetched = s.chip.fetched ∧
        d.led = s.chip.led)) ∧
      (s.chip.rg (Reg.HIF_RING.KIND r.toNat) ≠ 0 ∨ (generalOpcode (opcodeOf e) = true ∧ wf e.w0 16 16 = 0) → Completes (.commandFetch r e false) s (fun d =>
        d.fetched = s.chip.fetched ++ [r.toNat] ∧ Frame [.fetched] s.chip d)))) ∧
  (∀ (s : State) (r : BitVec 14), s.chip.ringFull r.toNat = true ∨ s.chip.hif.flr.contains (s.chip.ringFn r.toNat) = true ∨
    (s.chip.flag (Reg.HIF_RING.ENABLE r.toNat) = false ∧ s.chip.flag (Reg.HIF_RING.DRAINING r.toNat) = false) ∨ s.chip.owed.find? (fun x => x.ring = r.toNat && s.chip.replyReady x) = none →
    Completes (.replyWrite r) s (fun d => d = s.chip)) ∧
  (∀ (s : State) (r : BitVec 14) (x : Reply), s.chip.ringFull r.toNat = false → s.chip.hif.flr.contains (s.chip.ringFn r.toNat) = false →
    s.chip.flag (Reg.HIF_RING.ENABLE r.toNat) = true ∨ s.chip.flag (Reg.HIF_RING.DRAINING r.toNat) = true →
    s.chip.owed.find? (fun x => x.ring = r.toNat && s.chip.replyReady x) = some x →
    Completes (.replyWrite r) s (fun d => d = (let b := ({ s.chip with owed := s.chip.owed.erase x } : Chip).putReply r.toNat x;
      ((if x.more ∨ x.seq = 0 then b else b.updItem x.seq (fun i => { i with replied := true })).freeSlots).ringDrain r.toNat)) ∧
    (s.chip.rg (Reg.HIF_RING.MIRROR r.toNat) = 0 → Completes (.replyWrite r) s (fun d => d.owed = s.chip.owed.erase x ∧
      d.rg (Reg.HIF_RING_IDX.RPL_HEAD r.toNat) = (s.chip.rg (Reg.HIF_RING_IDX.RPL_HEAD r.toNat) + 1) % 2 ^ 32 ∧
      d.mem = (({ s.chip with owed := s.chip.owed.erase x } : Chip).wr (s.chip.rg (Reg.HIF_RING.RPL_BASE r.toNat) +
        s.chip.rg (Reg.HIF_RING_IDX.RPL_HEAD r.toNat) % s.chip.rplEntries r.toNat * 32) ((s.chip.replyWords x false).flatMap (leBytes 8))).mem))) ∧
  (∀ (s : State) (r : BitVec 14), tget s.chip.hif.ints r.toNat = none → Completes (.interruptModerationExpiry r) s (fun d => d = s.chip)) ∧
  (∀ (s : State) (r : BitVec 14) (x : RingInt), tget s.chip.hif.ints r.toNat = some x →
    (x.count = 0 ∨ s.chip.tick + 1 < x.first + s.chip.usTicks (s.chip.rg (Reg.HIF_RING.MOD_US r.toNat)) → Completes (.interruptModerationExpiry r) s (fun d => d = s.chip)) ∧
    (x.count ≠ 0 → x.first + s.chip.usTicks (s.chip.rg (Reg.HIF_RING.MOD_US r.toNat)) ≤ s.chip.tick + 1 → Completes (.interruptModerationExpiry r) s (fun d =>
      tget d.hif.ints r.toNat = some { x with count := 0 } ∧
      ((s.chip.ringFn r.toNat, s.chip.rg (Reg.HIF_RING.VECTOR r.toNat)) ∈ d.hif.msix ∨
        s.chip.ringFn r.toNat * 2048 + s.chip.rg (Reg.HIF_RING.VECTOR r.toNat) ∈ d.hif.msiPend) ∧ Frame [.hif] s.chip d))) ∧
  (∀ (s : State) (src : Submit) (v : BitVec 8) (h b : Nat) (n : BitVec 32), s.chip.coreServes (s.chip.roleCore 0) = true → TakenUp s.chip src .hif false 0 →
    (v = 0 ∨ 63 < v.toNat ∨ h % 4096 ≠ 0 ∨ bitmapOk s.chip b n.toNat = false ∨ (tget s.chip.hif.dirty (dirtyKey s.chip src v.toNat)).isSome = true →
      Completes (.dirtyLogStart src v h n b) s (fun d => NotAccepted s.chip d [.hif, .mem])) ∧
    (0 < v.toNat → v.toNat ≤ 63 → h % 4096 = 0 → h < 2 ^ 64 → b < 2 ^ 64 → bitmapOk s.chip b n.toNat = true → tget s.chip.hif.dirty (dirtyKey s.chip src v.toNat) = none →
      Completes (.dirtyLogStart src v h n b) s (fun d => Accepted s.chip d src (.general 0x0902) (s.chip.originDomain src.origin) ∧
        (s.chip.led.items = [] → s.chip.commits = true → tget d.hif.dirty (dirtyKey s.chip src v.toNat) = some ⟨h, n.toNat, b⟩))) ∧
    (tget s.chip.hif.dirty (dirtyKey s.chip src v.toNat) = none → ∀ c ∈ [Instr.dirtyLogSwap src v b, .dirtyLogStop src v],
      Completes c s (fun d => NotAccepted s.chip d [.hif, .mem])) ∧
    (∀ g, 0 < v.toNat → v.toNat ≤ 63 → tget s.chip.hif.dirty (dirtyKey s.chip src v.toNat) = some g →
      (b < 2 ^ 64 → bitmapOk s.chip b g.pages = true → Completes (.dirtyLogSwap src v b) s (fun d => Accepted s.chip d src (.general 0x0902) (s.chip.originDomain src.origin) ∧
        (s.chip.led.items = [] → s.chip.commits = true → tget d.hif.dirty (dirtyKey s.chip src v.toNat) = some { g with bitmap := b } ∧
          ∃ i, d.item s.chip.led.nextSeq = some i ∧ i.reply.hi = g.bitmap))) ∧
      Completes (.dirtyLogStop src v) s (fun d => Accepted s.chip d src (.general 0x0902) (s.chip.originDomain src.origin) ∧
        (s.chip.led.items = [] → s.chip.commits = true → tget d.hif.dirty (dirtyKey s.chip src v.toNat) = none))))

/-- R479, R488, R489, R491 and R493 to R499. -/
def Obligations.HostFunctions : Prop :=
  (∀ (s : State) (p : Fin 2) (cause : BitVec 5), Completes (.uncorrectableLinkError p cause) s (fun d => d.flag (Reg.HIF_STATE.FROZEN p) = true ∧
    d.rg (Reg.HIF_FREEZE.CAUSE p) = (if s.chip.frozen p then s.chip.rg (Reg.HIF_FREEZE.CAUSE p) else cause.toNat) ∧ p.val * 65536 + cause.toNat ∈ d.hif.aer ∧
    (s.chip.frozen p = false → ∀ r ∈ d.hif.reads, pfOf r.fn = p.val → r.tag = none) ∧ d.led = s.chip.led ∧ d.mem = s.chip.mem)) ∧
  (∀ (s : State) (p : Fin 2),
    (s.chip.frozen p = false ∨ s.chip.hif.aer.contains (p.val * 65536 + s.chip.rg (Reg.HIF_FREEZE.CAUSE p)) = true →
      Completes (.hifFreezeRelease p) s (fun d => d = s.chip.nvResume) ∧ Completes (.release p) s (fun d => d = s.chip.nvResume.answered (.block .hif) true)) ∧
    (s.chip.frozen p = true → s.chip.hif.aer.contains (p.val * 65536 + s.chip.rg (Reg.HIF_FREEZE.CAUSE p)) = false →
      ∃ e : Chip, e.flag (Reg.HIF_STATE.FROZEN p) = false ∧ e.rg (Reg.HIF_FREEZE.CAUSE p) = 0xFFFF ∧ (∀ c ∈ e.attn, c.why ≠ .frozen p) ∧
        Frame [.regs, .attn, .attnServed] s.chip e ∧
        Completes (.hifFreezeRelease p) s (fun d => d = (e.hostResume (pfFns p)).nvResume) ∧
        Completes (.release p) s (fun d => d = ((e.hostResume (pfFns p)).nvResume).answered (.block .hif) true)) ∧
    (NvmeQuiet s.chip → s.chip.nvResume = s.chip) ∧
    Completes (.aerStatusClear p) s (fun d => d.hif.aer.contains (p.val * 65536 + s.chip.rg (Reg.HIF_FREEZE.CAUSE p)) = false ∧ Frame [.hif] s.chip d)) ∧
  (∀ (s : State) (f : Fin 128), Completes (.busMasterEnableClear f) s (fun d => d.busMaster f = false ∧ (∀ r ∈ d.hif.reads, r.fn = f.val → r.tag = none) ∧
      Frame [.hif, .regs] s.chip d) ∧
    ∃ e : Chip, e.busMaster f = true ∧ Frame [.hif, .regs] s.chip e ∧ e.hif.reads = s.chip.hif.reads ∧
      Completes (.busMasterEnableSet f) s (fun d => d = (e.hostResume [f.val]).nvResume)) ∧
  (∀ (s : State) (p : Fin 2) (n : Fin 64), s.chip.rg (Reg.HIF_STATE.NUM_VFS p) = 0 → Completes (.vfEnableSet p n) s (fun d =>
    d.rg (Reg.HIF_STATE.NUM_VFS p) = n.val ∧ (∀ v, 1 ≤ v → v ≤ n.val → (d.poolRec p v).state =
      (if (s.chip.sr (Reg.HIF_STATE.NUM_VFS p) n.val).poolOk p v n then 1 else 2)) ∧ Frame [.regs, .hif, .nvs] s.chip d)) ∧
  (∀ (s : State) (p : Fin 2) (n : Fin 64), s.chip.rg (Reg.HIF_STATE.NUM_VFS p) ≠ 0 → Completes (.vfEnableSet p n) s (fun d => Frame [.nvs] s.chip d)) ∧
  (∀ (s : State) (p : Fin 2), Completes (.vfEnableClear p) s (fun d => d = ((vfDisable s.chip p).nvUnpair p).nvmeGo) ∧
    (vfDisable s.chip p).rg (Reg.HIF_STATE.NUM_VFS p) = 0 ∧ (vfDisable s.chip p).ids = s.chip.ids ∧
    ∀ v, 1 ≤ v → v ≤ s.chip.rg (Reg.HIF_STATE.NUM_VFS p) → s.chip.rg (Reg.HIF_STATE.NUM_VFS p) ≤ 63 →
      ((s.chip.poolRec p v).state = 1 → vfNum p v ∈ (vfDisable s.chip p).hif.flr ∧ vfNum p v ∈ (vfDisable s.chip p).hif.vfOff) ∧
      ((s.chip.poolRec p v).state = 2 → ((vfDisable s.chip p).poolRec p v).state = 0)) ∧
  (∀ (s : State) (f : Fin 128), (s.chip.fnExists f = false → Completes (.functionLevelReset f) s (fun d => d = s.chip)) ∧
    (s.chip.fnExists f = true → ∀ e : Chip, e = s.chip.flr f → e.hif.flr.contains f.val = true ∧ e.ids = s.chip.ids ∧
      (∀ i : Item, s.chip.led.items = [i] → i.fn = f.val → i.state.ended = false → s.chip.led.lost = false → s.chip.canWithdraw i.seq = true →
        s.chip.hif.flr.contains f.val = false → ∃ j, e.item i.seq = some j ∧ j.state = .withdrawn) ∧
      (s.chip.hif.flr.contains f.val = false → (∀ r ∈ e.fetched, s.chip.ringFn r ≠ f.val) ∧ ∀ r ∈ e.hif.reads, r.fn = f.val → r.tag = none) ∧
      Completes (.functionLevelReset f) s (fun d => d = e.nvmeGo))) ∧
  (∀ (s : State) (p : Fin 2) (v : Fin 64), (v = 0 ∨ s.chip.fnExists (vfNum p v) = false → Completes (.vfFlr p v) s (fun d => Answered d false ∧ Frame [.answer] s.chip d)) ∧
    (v ≠ 0 → s.chip.fnExists (vfNum p v) = true → Completes (.vfFlr p v) s (fun d => d = ((s.chip.flr (vfNum p v)).nvmeGo).answered (.block .hif) true))) ∧
  (∀ (s : State) (f : Fin 128), s.chip.hif.flr.contains f.val = false ∨ (∃ i ∈ s.chip.led.items, i.fn = f.val ∧ i.state.ended = false) ∨
      ((tget s.chip.nvs.ctls f.val).map (fun c => c.resetting)).getD false = true →
    Completes (.flrComplete f) s (fun d => d = s.chip)) ∧
  (∀ (s : State) (f : Fin 128), s.chip.hif.flr.contains f.val = true → (∀ i ∈ s.chip.led.items, i.fn = f.val → i.state.ended = true) →
    ((tget s.chip.nvs.ctls f.val).map (fun c => c.resetting)).getD false = false → Completes (.flrComplete f) s (fun d => d.hif.flr.contains f.val = false ∧
      d.busMaster f = false ∧ (∀ r ∈ d.hif.reads, r.fn ≠ f.val) ∧ (∀ k ∈ d.hif.unmasked, k / 2048 ≠ f.val) ∧
      (isVF f = false → d.flag (Reg.HIF_STATE.FLR_BUSY f) = false) ∧
      (isVF f = true → (d.vfPool f).state = (if s.chip.hif.vfOff.contains f.val then 0 else 1)) ∧ d.led.nextSeq = s.chip.led.nextSeq)) ∧
  (∀ (s : State) (p : Fin 2) (t : BitVec 14), NvmeQuiet s.chip → (s.chip.hif.reads.find? (fun r => r.pf = p.val && r.tag = some t.toNat) = none →
      Completes (.completionTimeout p t) s (fun d => d = s.chip)) ∧
    (∀ r, s.chip.hif.reads.find? (fun r => r.pf = p.val && r.tag = some t.toNat) = some r →
      (s.chip.tick + 1 < r.since + cplTicks s.chip → Completes (.completionTimeout p t) s (fun d => d = s.chip)) ∧
      (r.since + cplTicks s.chip ≤ s.chip.tick + 1 → r.retried = false → Completes (.completionTimeout p t) s (fun d =>
        (p.val, t.toNat, s.chip.tick) ∈ d.hif.quar ∧ (∃ u, d.hif.reads = s.chip.hif.reads.erase r ++ [{ r with tag := some u, since := s.chip.tick, retried := true }]) ∧
        d.led = s.chip.led ∧ d.mem = s.chip.mem)) ∧
      (∀ i : Item, r.since + cplTicks s.chip ≤ s.chip.tick + 1 → r.retried = true → s.chip.item r.seq = some i → i.seq = r.seq → i.state.ended = false →
        i.crec ≠ .taken → s.chip.led.lost = false → Completes (.completionTimeout p t) s (fun d =>
          ∃ j, d.item r.seq = some j ∧ j.state = .withdrawn ∧ j.reply.code = Code.TIMEOUT)))) ∧
  (∀ (s : State) (p : Fin 2) (t : BitVec 14) (ok : Bool), NvmeQuiet s.chip → s.chip.hif.quar.any (fun q => q.1 = p.val && q.2.1 = t.toNat) = false →
    s.chip.hif.reads.find? (fun r => r.pf = p.val && r.tag = some t.toNat) = none → Completes (.completionArrival p t ok) s (fun d => d = s.chip)) ∧
  (∀ (s : State) (p : Fin 2) (t : BitVec 14) (ok : Bool), NvmeQuiet s.chip → s.chip.hif.quar.any (fun q => q.1 = p.val && q.2.1 = t.toNat) = true →
    Completes (.completionArrival p t ok) s (fun d => (∀ q ∈ d.hif.quar, ¬ (q.1 = p.val ∧ q.2.1 = t.toNat)) ∧ d.hif.reads = s.chip.hif.reads ∧ d.led = s.chip.led ∧
      d.mem = s.chip.mem)) ∧
  (∀ (s : State) (p : Fin 2) (t : BitVec 14) (r : HostRead), NvmeQuiet s.chip → s.chip.hif.quar.any (fun q => q.1 = p.val && q.2.1 = t.toNat) = false →
    s.chip.hif.reads.find? (fun r => r.pf = p.val && r.tag = some t.toNat) = some r →
    Completes (.completionArrival p t true) s (fun d => d = (s.chip.hf (fun h => { h with reads := h.reads.erase r })).readsGo ∧ Frame [.hif] s.chip d ∧
      d.hif.reads.length = (s.chip.hif.reads.erase r).length ∧ d.readsOut r.seq = (s.chip.hif.reads.erase r).any (fun x => x.seq = r.seq)) ∧
    (∀ i : Item, s.chip.item r.seq = some i → i.seq = r.seq → i.state.ended = false → i.crec ≠ .taken → s.chip.led.lost = false →
      Completes (.completionArrival p t false) s (fun d => ∃ j, d.item r.seq = some j ∧ j.state = .withdrawn ∧ j.reply.code = Code.HIF_UR))) ∧
  (∀ (s : State) (p : Fin 2) (t : BitVec 14), Completes (.tagQuarantineExpiry p t) s (fun d => Frame [.hif] s.chip d ∧ d.hif.reads = s.chip.hif.reads ∧
    (∀ q ∈ d.hif.quar, q ∈ s.chip.hif.quar ∧ (q.1 = p.val → q.2.1 = t.toNat → s.chip.tick + 1 < q.2.2 + cplTicks s.chip)))) ∧
  (∀ (s : State) (p : Fin 2) (a : Word) (n : BitVec 32), Completes (.atsInvalidation p a n) s (fun d => Frame [.hif] s.chip d ∧ ∀ k, k ∈ d.hif.atc ↔
    k ∈ s.chip.hif.atc ∧ ¬ (k / 2 ^ 52 = p.val ∧ a.toNat / 4096 ≤ k % 2 ^ 52 ∧ k % 2 ^ 52 < a.toNat / 4096 + n.toNat))) ∧
  (∀ (s : State) (p : Fin 2) (v : Fin 64) (m : List (BitVec 8)) (e : Chip), e = s.chip.wake →
    (v = 0 ∨ (e.poolRec p v).state ≠ 1 ∨ e.frozen p = true → Completes (.vfMboxDb p v m) s (fun d => d = e)) ∧
    (v ≠ 0 → (e.poolRec p v).state = 1 → e.frozen p = false →
      (((tget e.hif.mbox (p.val * 64 + v.val)).getD {}).db = true → Completes (.vfMboxDb p v m) s (fun d =>
        d = (e.count (Reg.HIF_COUNT.COUNT p 7)).fault (Src.HIF_DOORBELL p))) ∧
      (((tget e.hif.mbox (p.val * 64 + v.val)).getD {}).db = false → Completes (.vfMboxDb p v m) s (fun d =>
        (∃ x, tget d.hif.mbox (p.val * 64 + v.val) = some x ∧ x.db = true ∧ x.out = (m.map BitVec.toNat ++ List.replicate 64 0).take 64) ∧ bitOf (d.core 0).ipend 2 = true ∧ Frame [.hif, .arm] e d)))) ∧
  (∀ (s : State) (f : Fin 128) (v : BitVec 11), Completes (.msixVectorUnmask f v) s (fun d => Frame [.hif] s.chip d ∧ f.val * 2048 + v.toNat ∈ d.hif.unmasked ∧
    (s.chip.hostStopped f = false → f.val * 2048 + v.toNat ∈ s.chip.hif.msiPend → (f.val, v.toNat) ∈ d.hif.msix ∧ f.val * 2048 + v.toNat ∉ d.hif.msiPend)))

/-- A DMA_XFER with no reserved encoding, and a BURST and a PACED that its channel allows (R506, R507). -/
def dmaEncoded (d : Chip) (x : Desc) : Prop :=
  x.mChan ≤ 31 ∧ wf x.w3 42 22 = 0 ∧ wf x.w4 32 32 = 0 ∧ x.w5 = 0 ∧ x.w6 = 0 ∧ x.w7 = 0 ∧
  (x.mPaced = true → x.mBurst % 64 = 0 ∧ 64 ≤ x.mBurst ∧ x.mBurst ≤ d.rg (Reg.DMA_CHAN_CFG.BUF x.mChan) * 0x10000 ∧ d.rg (Reg.DMA_CHAN_CFG.PACE_SRC x.mChan) ≠ 0) ∧
  (x.mPaced = false → x.mBurst = 0)

/-- The channel, its function and both ranges allow the transfer (R504, R507). -/
def dmaAllowed (d : Chip) (src : Submit) (x : Desc) : Prop :=
  x.mLen ≤ 0x40000000 ∧ (x.mLen = 0 ∨ deviceOwned x.mSrc x.mLen = false) ∧ d.originFn src.origin = d.rg (Reg.DMA_CHAN_CFG.FUNC x.mChan) ∧ d.accessOk (d.originFn src.origin) x.mSrc x.mLen false = true ∧
  d.accessOk (d.originFn src.origin) x.mDst x.mLen true = true ∧ d.flag (Reg.DMA_CHAN_CFG.ENABLE x.mChan) = true

/-- The one open transfer of a channel, as the ledger holds it. -/
def dmaOnly (d : Chip) (c : Nat) (i : Item) : Prop := d.chanItems c = [i] ∧ d.item i.seq = some i

/-- R503, R504 and R506 to R513. -/
def Obligations.DmaTransfers : Prop :=
  (∀ (s : State) (src : Submit) (x : Desc), x.mChan ≤ 31 → 64 ≤ s.chip.rg (Reg.DMA_CHAN_STATE.QUEUED x.mChan) → Completes (.dmaXfer src x) s (fun d => d = s.chip)) ∧
  (∀ (s : State) (src : Submit) (x : Desc), (x.mChan ≤ 31 → s.chip.rg (Reg.DMA_CHAN_STATE.QUEUED x.mChan) < 64) → TakenUp s.chip src .dma true 0 →
    (¬ (dmaEncoded s.chip x ∧ dmaAllowed s.chip src x) → Completes (.dmaXfer src x) s (fun d => NotAccepted s.chip d [.dma, .mem])) ∧
    (dmaEncoded s.chip x → dmaAllowed s.chip src x → Completes (.dmaXfer src x) s (fun d => Accepted s.chip d src (.dma x.mChan) (.dma x.mChan) ∧
      d = (let a := ((s.chip.dropHand src.origin).acceptCmd src (.dma x.mChan) x (.dma x.mChan) 0x55).count (Reg.DMA_COUNT.COUNT 0);
           let b := (a.setRun s.chip.led.nextSeq {}).mr (Reg.DMA_CHAN_STATE.QUEUED x.mChan) (· + 1);
           if x.mLen = 0 then b.finish s.chip.led.nextSeq Code.OK else b.dmaGo x.mChan) ∧
      (s.chip.led.items = [] → s.chip.commits = true → s.chip.rg (Reg.DMA_COUNT.COUNT 0) ≠ 2 ^ 48 - 1 → x.mLen = 0 → ∃ i, d.item s.chip.led.nextSeq = some i ∧ i.state = .committed ∧ i.reply.code = Code.OK) ∧
      (s.chip.led.items = [] → 0 < x.mLen → isHostWin x.mSrc = false → isHostWin x.mDst = false → x.mPaced = false → s.chip.dmaRoom x.mLen = x.mLen → s.chip.unmapped x.mSrc x.mLen = false →
        s.chip.unmapped x.mDst x.mLen = false → (d.dmaRun s.chip.led.nextSeq).readback = true ∧ (d.dmaRun s.chip.led.nextSeq).bytes = x.mLen ∧
        ∃ i, d.item s.chip.led.nextSeq = some i ∧ i.state = .running ∧ i.owner = 0x55) ∧
      (s.chip.led.items = [] → 0 < x.mLen → isHostWin x.mSrc = false → isHostWin x.mDst = false → x.mPaced = true →
        s.chip.rg (Reg.DMA_CHAN_STATE.CREDITS x.mChan) = 0 → (d.dmaRun s.chip.led.nextSeq).waitSince = some s.chip.tick ∧
        d.rg (Reg.DMA_CHAN_STATE.STATE x.mChan) = 3 ∧ d.mem = s.chip.mem) ∧
      (s.chip.led.items = [] → 0 < x.mLen → isHostWin x.mSrc = false → isHostWin x.mDst = false → x.mPaced = true →
        0 < s.chip.rg (Reg.DMA_CHAN_STATE.CREDITS x.mChan) → (d.dmaRun s.chip.led.nextSeq).burst = true ∧
        d.rg (Reg.DMA_CHAN_STATE.CREDITS x.mChan) = (s.chip.rg (Reg.DMA_CHAN_STATE.CREDITS x.mChan) - 1) % 256 ∧ d.rg (Reg.DMA_CHAN_STATE.STATE x.mChan) = 2 ∧ d.mem = s.chip.mem)))) ∧
  (∀ (s : State) (c : Fin 32) (e : Chip), e = s.chip.wake →
    (s.chip.rg (Reg.DMA_CHAN_CFG.PACE_SRC c) = 0 → Completes (.dmaPaceRequest c) s (fun d => d = s.chip)) ∧
    (s.chip.rg (Reg.DMA_CHAN_CFG.PACE_SRC c) ≠ 0 → s.chip.flag (Reg.DMA_CHAN_CFG.ENABLE c) = false → Completes (.dmaPaceRequest c) s (fun d => d = e)) ∧
    (s.chip.rg (Reg.DMA_CHAN_CFG.PACE_SRC c) ≠ 0 → s.chip.flag (Reg.DMA_CHAN_CFG.ENABLE c) = true →
      (s.chip.rg (Reg.DMA_CHAN_STATE.CREDITS c) = 255 → Completes (.dmaPaceRequest c) s (fun d =>
        d = (e.count (Reg.DMA_COUNT.COUNT 2)).fault Src.DMA_PACE_OVER c)) ∧
      (s.chip.rg (Reg.DMA_CHAN_STATE.CREDITS c) ≠ 255 → Completes (.dmaPaceRequest c) s (fun d =>
        d = (e.sr (Reg.DMA_CHAN_STATE.CREDITS c) (s.chip.rg (Reg.DMA_CHAN_STATE.CREDITS c) + 1)).dmaGo c)) ∧
      (s.chip.rg (Reg.DMA_CHAN_STATE.CREDITS c) ≠ 255 → s.chip.chanItems c = [] → Completes (.dmaPaceRequest c) s (fun d =>
        d.rg (Reg.DMA_CHAN_STATE.CREDITS c) = (s.chip.rg (Reg.DMA_CHAN_STATE.CREDITS c) + 1) % 256 ∧ Frame [.regs] e d)))) ∧
  (∀ (s : State) (c : Fin 32), (∀ i ∈ s.chip.chanItems c, (s.chip.dmaRun i.seq).burst = false) → Completes (.burstWritesIssued c) s (fun d => d = s.chip)) ∧
  (∀ (s : State) (c : Fin 32) (i : Item) (w n : Nat), dmaOnly s.chip c i → (s.chip.dmaRun i.seq).burst = true → i.body.mPaced = true →
    w = min (((s.chip.dmaRun i.seq).moved + 1) * i.body.mBurst) i.body.mLen - (s.chip.dmaRun i.seq).bytes → n = s.chip.dmaRoom w →
    (n = 0 → Completes (.burstWritesIssued c) s (fun d => d = s.chip)) ∧
    (0 < n → s.chip.unmapped (i.body.mSrc + (s.chip.dmaRun i.seq).bytes) n = true ∨ s.chip.unmapped (i.body.mDst + (s.chip.dmaRun i.seq).bytes) n = true →
      i.crec = .none → s.chip.led.lost = false → Completes (.burstWritesIssued c) s (fun d => ∃ j, d.item i.seq = some j ∧ j.state = .withdrawn ∧
        j.reply.code = Code.MEM_UNMAPPED)) ∧
    (0 < n → s.chip.unmapped (i.body.mSrc + (s.chip.dmaRun i.seq).bytes) n = false → s.chip.unmapped (i.body.mDst + (s.chip.dmaRun i.seq).bytes) n = false →
      (n < w → Completes (.burstWritesIssued c) s (fun d => (d.dmaRun i.seq).bytes = (s.chip.dmaRun i.seq).bytes + n ∧
        (d.dmaRun i.seq).moved = (s.chip.dmaRun i.seq).moved ∧ (d.dmaRun i.seq).burst = true ∧ d.dma.read = s.chip.dma.read + n ∧ d.coll.pace = s.chip.coll.pace)) ∧
      (n = w → Completes (.burstWritesIssued c) s (fun d => (d.dmaRun i.seq).bytes = (s.chip.dmaRun i.seq).bytes + n ∧
        (d.dmaRun i.seq).moved = (s.chip.dmaRun i.seq).moved + 1 ∧ (i.body.mLen ≤ (s.chip.dmaRun i.seq).bytes + n → (d.dmaRun i.seq).readback = true) ∧
        d.coll.pace = s.chip.coll.pace ++ (if s.chip.rg (Reg.DMA_CHAN_CFG.PACE_SRC c) = 1 then
          [⟨s.chip.rg (Reg.DMA_CHAN_CFG.PORT c), s.chip.rg (Reg.DMA_CHAN_CFG.LINE c) + 1, 0⟩] else []))))) ∧
  (∀ (s : State) (q : Nat) (p : Bool), s.chip.item q = none ∨ (s.chip.dmaRun q).readback = false ∨ s.chip.readsOut q = true ∨
      (∃ i, s.chip.item q = some i ∧ i.state.ended = true) →
    Completes (.readBackComplete q p) s (fun d => d = s.chip)) ∧
  (∀ (s : State) (q : Nat) (p : Bool) (i : Item), s.chip.item q = some i → i.state.ended = false → (s.chip.dmaRun q).readback = true → s.chip.readsOut q = false →
    i.crec = .none → Completes (.readBackComplete q p) s (fun d => (∃ j, d.item q = some j ∧ j.crec = .issued ∧ j.state = i.state ∧
      j.reply.code = (if (s.chip.dmaRun q).poison || p then Code.POISONED_DATA else Code.OK)) ∧ Frame [.led] s.chip d)) ∧
  (∀ (s : State) (c : Fin 32), (∀ i ∈ s.chip.chanItems c, (s.chip.dmaRun i.seq).waitSince = none) ∨ s.chip.rg (Reg.DMA_CHAN_CFG.PACE_TIMEOUT c) = 0 →
    Completes (.dmaPaceTimeout c) s (fun d => d = s.chip)) ∧
  (∀ (s : State) (c : Fin 32) (i : Item) (t : Nat), dmaOnly s.chip c i → (s.chip.dmaRun i.seq).waitSince = some t → s.chip.rg (Reg.DMA_CHAN_CFG.PACE_TIMEOUT c) ≠ 0 →
    (s.chip.tick - t < s.chip.rg (Reg.DMA_CHAN_CFG.PACE_TIMEOUT c) * 4000 / max (s.chip.rg Reg.TCK_PERIOD.PERIOD) 1 → Completes (.dmaPaceTimeout c) s (fun d => d = s.chip)) ∧
    (s.chip.rg (Reg.DMA_CHAN_CFG.PACE_TIMEOUT c) * 4000 / max (s.chip.rg Reg.TCK_PERIOD.PERIOD) 1 ≤ s.chip.tick - t → i.crec ≠ .taken → s.chip.led.lost = false →
      Completes (.dmaPaceTimeout c) s (fun d => ∃ j, d.item i.seq = some j ∧ j.state = .withdrawn ∧ j.reply.code = Code.DMA_PACE_TIMEOUT)))

/-- R505, R510, R520 and R523. -/
def Obligations.DmaChannels : Prop :=
  (∀ (s : State) (c : Fin 32), (s.chip.flag (Reg.DMA_CHAN_CFG.ENABLE c) = true → Completes (.dmaChanEnable c) s (fun d => d = s.chip)) ∧
    (s.chip.flag (Reg.DMA_CHAN_CFG.ENABLE c) = false →
      (∀ k : Fin 32, k ≠ c → s.chip.flag (Reg.DMA_CHAN_CFG.ENABLE k) = true →
        128 < s.chip.rg (Reg.DMA_CHAN_CFG.BUF c) + s.chip.rg (Reg.DMA_CHAN_CFG.BUF k) ∨
        (s.chip.rg (Reg.DMA_CHAN_CFG.PACE_SRC c) = 2 ∧ s.chip.rg (Reg.DMA_CHAN_CFG.PACE_SRC k) = 2 ∧
          s.chip.rg (Reg.DMA_CHAN_CFG.PIN c) = s.chip.rg (Reg.DMA_CHAN_CFG.PIN k)) ∨
        (s.chip.rg (Reg.DMA_CHAN_CFG.PACE_SRC c) = 1 ∧ s.chip.rg (Reg.DMA_CHAN_CFG.PACE_SRC k) = 1 ∧
          s.chip.rg (Reg.DMA_CHAN_CFG.PORT c) = s.chip.rg (Reg.DMA_CHAN_CFG.PORT k) ∧ s.chip.rg (Reg.DMA_CHAN_CFG.LINE c) = s.chip.rg (Reg.DMA_CHAN_CFG.LINE k)) →
        Completes (.dmaChanEnable c) s (fun d => d.flag (Reg.DMA_CHAN_CFG.ENABLE c) = false ∧ d.flag (Reg.DMA_CHAN_CFG.ERR c) = true ∧ Frame [.regs] s.chip d)) ∧
      (s.chip.chanOk c = false → Completes (.dmaChanEnable c) s (fun d => d = s.chip.sr (Reg.DMA_CHAN_CFG.ERR c) 1)) ∧
      (s.chip.chanOk c = true → Completes (.dmaChanEnable c) s (fun d => d.flag (Reg.DMA_CHAN_CFG.ENABLE c) = true ∧ d.flag (Reg.DMA_CHAN_CFG.ERR c) = false ∧
        d.rg (Reg.DMA_CHAN_STATE.STATE c) = 1 ∧ d.rg (Reg.DMA_CHAN_STATE.CREDITS c) = 0 ∧ d.rg (Reg.DMA_CHAN_BYTES.COUNT c) = 0 ∧ Frame [.regs] s.chip d)))) ∧
  (∀ (s : State) (c : Fin 32), (s.chip.flag (Reg.DMA_CHAN_CFG.ENABLE c) = false → Completes (.dmaChanDisable c) s (fun d => d = s.chip) ∧
      Completes (.chanDrop c) s (fun d => Answered d true ∧ Frame [.answer] s.chip d)) ∧
    (s.chip.flag (Reg.DMA_CHAN_CFG.ENABLE c) = true → ∀ k ∈ [Instr.dmaChanDisable c, .chanDrop c],
      Completes k s (fun d => d.flag (Reg.DMA_CHAN_CFG.ENABLE c) = false ∧ d.rg (Reg.DMA_CHAN_STATE.CREDITS c) = 0 ∧ d.rg (Reg.DMA_CHAN_STATE.STATE c) = 0 ∧
        (s.chip.chanItems c = [] → Frame [.regs, .free, .answer] s.chip d) ∧
        (∀ i : Item, dmaOnly s.chip c i → i.crec ≠ .taken → s.chip.led.lost = false →
          ∃ j, d.item i.seq = some j ∧ j.state = .withdrawn ∧ j.reply.code = Code.DMA_DROPPED))))

/-- The storage front end owes nothing: no I/O command is open, no completion is due, no completion waits, no controller is in reset and no queue is being deleted. -/
def nvQuiet (d : Chip) : Prop :=
  d.nvs.due = [] ∧ d.nvs.cmds = [] ∧ d.nvs.back = [] ∧ ∀ c ∈ d.nvs.ctls, c.2.resetting = false ∧ (∀ q ∈ c.2.sqs, q.2.deleting = none) ∧ ∀ q ∈ c.2.cqs, q.2.wait = []

/-- A command of submission queue n is in hand, the ledger is empty and commits, and the queue's completion queue k has room and lies in host memory. -/
def sqReady (d : Chip) (fn n : Nat) (a : NvmeSq) (q : NvmeCq) : Prop :=
  d.nvs.hand.contains (fn, n) = true ∧ nvQuiet d ∧ d.led.items = [] ∧ d.commits = true ∧ tget (d.ctl fn).sqs n = some a ∧ tget (d.ctl fn).cqs a.cq = some q ∧
  (q.tail + 1) % q.size ≠ q.head ∧ d.hostStopped fn = false ∧ d.inCmb fn (q.base + q.tail * 16) 16 = none

/-- What the front end writes to host memory for a completion: requester, bus address, the entry's bytes (R536). -/
def cqeOut (fn n : Nat) (a : NvmeSq) (q : NvmeCq) (cid status dw0 seq : Nat) : Nat × Nat × List Nat :=
  (fn, q.base + q.tail * 16, cqeBytes ⟨n, cid, status, dw0, seq⟩ a.head q.phase)

/-- An admin command is completed with a status, and nothing else goes to the host; it is one committed item of the controller. -/
def adminDone (s d : Chip) (fn : Nat) (a : NvmeSq) (q : NvmeCq) (cid status dw0 : Nat) : Prop :=
  d.nvs.hostOut = s.nvs.hostOut ++ [cqeOut fn 0 a q cid status dw0 s.led.nextSeq] ∧ d.led.nextSeq = s.led.nextSeq + 1 ∧
  ∃ i, d.led.items = [i] ∧ i.state = .committed ∧ i.owner = 0x42 ∧ i.kind = .nvme fn 0 cid

/-- R526, R527, R529 to R531, R541, R542 and R546. -/
def Obligations.NvmeQueues : Prop :=
  (∀ (s : State) (fn : Fin 128) (n t : BitVec 16), s.chip.frozen fn = true → ∀ c ∈ [Instr.nvmeSqDoorbell fn n t, .nvmeCqDoorbell fn n t],
    Completes c s (fun d => d = s.chip)) ∧
  (∀ (s : State) (fn : Fin 128) (n t : BitVec 16), s.chip.frozen fn = false → ∀ e : Chip, e = s.chip.nvWake →
    ((tget (s.chip.ctl fn).sqs n.toNat = none ∨ ∃ a, tget (s.chip.ctl fn).sqs n.toNat = some a ∧ a.size ≤ t.toNat) → Completes (.nvmeSqDoorbell fn n t) s (fun d =>
      d = (e.count (Reg.NVS_COUNT.COUNT 8)).fault Src.NVS_DOORBELL)) ∧
    ((tget (s.chip.ctl fn).cqs n.toNat = none ∨ ∃ q, tget (s.chip.ctl fn).cqs n.toNat = some q ∧ q.size ≤ t.toNat) → Completes (.nvmeCqDoorbell fn n t) s (fun d =>
      d = (e.count (Reg.NVS_COUNT.COUNT 8)).fault Src.NVS_DOORBELL)) ∧
    (∀ a, tget (s.chip.ctl fn).sqs n.toNat = some a → t.toNat < a.size → Completes (.nvmeSqDoorbell fn n t) s (fun d =>
      tget (d.ctl fn).sqs n.toNat = some { a with tail := t.toNat } ∧ Frame [.nvs] e d)) ∧
    (∀ q, tget (s.chip.ctl fn).cqs n.toNat = some q → t.toNat < q.size → nvQuiet s.chip → q.wait = [] → Completes (.nvmeCqDoorbell fn n t) s (fun d =>
      tget (d.ctl fn).cqs n.toNat = some { q with head := t.toNat } ∧ Frame [.nvs, .regs] e d)) ∧
    (∀ q, tget (s.chip.ctl fn).cqs n.toNat = some q → t.toNat < q.size → Completes (.nvmeCqDoorbell fn n t) s (fun d =>
      d = ((e.setCtl fn { e.ctl fn with cqs := tput (e.ctl fn).cqs n.toNat { q with head := t.toNat } }).cqFlush fn n.toNat).nvmeGo))) ∧
  (∀ s : State, s.chip.running .nvs = false ∨ (s.chip.agentRec (.block .nvs)).fencing = true ∨ s.chip.takesItems = false ∨
    s.chip.nextArising.isSome = true ∨ 8192 ≤ s.chip.rg Reg.NVS_LOCKS.IN_USE ∨
    (s.chip.nvs.left = 0 ∧ ∀ c ∈ s.chip.nvs.ctls, (s.chip.ctl c.1).rdy = false) → Completes .nvmeCommandFetch s (fun d => d = s.chip)) ∧
  (∀ (s : State) (fn : Nat) (c : NvmeCtl) (a : NvmeSq), s.chip.running .nvs = true → (s.chip.agentRec (.block .nvs)).fencing = false → s.chip.takesItems = true → s.chip.nextArising = none →
    s.chip.rg Reg.NVS_LOCKS.IN_USE < 8192 → s.chip.nvs.left = 0 → s.chip.nvs.ctls = [(fn, c)] → s.chip.hif.flr.contains fn = false → s.chip.frozen fn = false →
    c.rdy = true → c.cfs = false → c.resetting = false → tget c.sqs 0 = some a → a.head ≠ a.tail → s.chip.nvs.hand.contains (fn, 0) = false →
    (s.chip.anyPoison (a.base + a.head * 64) 64 = false → Completes .nvmeCommandFetch s (fun d => d.nvs.hand = s.chip.nvs.hand ++ [(fn, 0)] ∧
      tget (d.ctl fn).sqs 0 = some { a with head := (a.head + 1) % a.size } ∧ Frame [.nvs] s.chip d)) ∧
    (s.chip.anyPoison (a.base + a.head * 64) 64 = true → Completes .nvmeCommandFetch s (fun d =>
      d = (s.chip.setCtl fn { c with cfs := true }).fault Src.NVS_SQ_POISON))) ∧
  (∀ (s : State) (fn : Fin 128), (bitOf (s.chip.ctl fn).cc 0 = true ∨ (s.chip.ctl fn).resetting = true → Completes (.ccEnSet fn) s (fun d => d = s.chip)) ∧
    (bitOf (s.chip.ctl fn).cc 0 = false → (s.chip.ctl fn).resetting = false →
      (s.chip.inCmb fn (s.chip.ctl fn).asq (((s.chip.ctl fn).aqa % 4096 + 1) * 64) = none → Completes (.ccEnSet fn) s (fun d =>
        (d.ctl fn).cfs = true ∧ (d.ctl fn).rdy = (s.chip.ctl fn).rdy ∧ Frame [.nvs] s.chip d)) ∧
      (∀ b, s.chip.inCmb fn (s.chip.ctl fn).asq (((s.chip.ctl fn).aqa % 4096 + 1) * 64) = some b → Completes (.ccEnSet fn) s (fun d =>
        (d.ctl fn).rdy = true ∧ bitOf (d.ctl fn).cc 0 = true ∧
        tget (d.ctl fn).sqs 0 = some { base := b, size := (s.chip.ctl fn).aqa % 4096 + 1, prio := 0, cq := 0 } ∧
        tget (d.ctl fn).cqs 0 = some { base := (s.chip.ctl fn).acq, size := (s.chip.ctl fn).aqa / 65536 % 4096 + 1, vector := some 0 } ∧ Frame [.nvs] s.chip d))) ∧
    (∀ c ∈ [Instr.ccEnClear fn, .nvmSubsystemReset fn], Completes c s (fun d => d = (s.chip.nvDisable fn).nvmeGo) ∧
      (bitOf (s.chip.ctl fn).cc 0 = false → nvQuiet s.chip → Completes c s (fun d => Frame [.regs] s.chip d)) ∧
      (bitOf (s.chip.ctl fn).cc 0 = true → nvQuiet s.chip → s.chip.led.items = [] → s.chip.hif.flr.contains fn.val = false → Completes c s (fun d =>
        bitOf (d.ctl fn).cc 0 = false ∧ (d.ctl fn).rdy = false ∧ (d.ctl fn).sqs = [] ∧ (d.ctl fn).cqs = [] ∧
        (∀ h ∈ d.nvs.hand, h.1 ≠ fn.val) ∧ d.ids = s.chip.ids)))) ∧
  (∀ (s : State) (fn : Fin 128) (cid n z k v : BitVec 16) (p : Nat) (pr : Fin 4) (ie pc : Bool), s.chip.nvs.hand.contains (fn.val, 0) = false →
    ∀ c ∈ [Instr.createIoCq fn cid n z p v ie pc, .createIoSq fn cid n z p pr k pc, .deleteIoCq fn cid n, .deleteIoSq fn cid n], Completes c s (fun d => d = s.chip)) ∧
  (∀ (s : State) (fn : Fin 128) (cid n z k v : BitVec 16) (p : Nat) (pr : Fin 4) (ie pc : Bool) (a : NvmeSq) (q : NvmeCq), sqReady s.chip fn 0 a q → a.cq = 0 →
    (n = 0 ∨ s.chip.queuePairs fn < n.toNat ∨ (tget (s.chip.ctl fn).cqs n.toNat).isSome = true → Completes (.createIoCq fn cid n z p v ie pc) s (fun d =>
      adminDone s.chip d fn a q cid.toNat 0x101 0)) ∧
    (n ≠ 0 → n.toNat ≤ s.chip.queuePairs fn → tget (s.chip.ctl fn).cqs n.toNat = none →
      (z = 0 ∨ 1023 < z.toNat → Completes (.createIoCq fn cid n z p v ie pc) s (fun d => adminDone s.chip d fn a q cid.toNat 0x102 0)) ∧
      (z ≠ 0 → z.toNat ≤ 1023 → Completes (.createIoCq fn cid n z p v ie false) s (fun d => adminDone s.chip d fn a q cid.toNat 0x002 0)) ∧
      (z ≠ 0 → z.toNat ≤ 1023 → ie = true → (if isVF fn then (s.chip.vfPool fn).vectors else 2048) ≤ v.toNat → Completes (.createIoCq fn cid n z p v ie true) s (fun d =>
        adminDone s.chip d fn a q cid.toNat 0x108 0)) ∧
      (z ≠ 0 → z.toNat ≤ 1023 → (ie = true → v.toNat < (if isVF fn then (s.chip.vfPool fn).vectors else 2048)) → p % 4096 ≠ 0 →
        Completes (.createIoCq fn cid n z p v ie true) s (fun d => adminDone s.chip d fn a q cid.toNat 0x013 0)) ∧
      (z ≠ 0 → z.toNat ≤ 1023 → (ie = true → v.toNat < (if isVF fn then (s.chip.vfPool fn).vectors else 2048)) → p % 4096 = 0 →
        Completes (.createIoCq fn cid n z p v ie true) s (fun d => adminDone s.chip d fn a q cid.toNat 0 0 ∧
          tget (d.ctl fn).cqs n.toNat = some { base := p, size := z.toNat + 1, vector := (if ie then some v.toNat else none) }))) ∧
    (n = 0 ∨ s.chip.queuePairs fn < n.toNat ∨ (tget (s.chip.ctl fn).sqs n.toNat).isSome = true → Completes (.createIoSq fn cid n z p pr k pc) s (fun d =>
      adminDone s.chip d fn a q cid.toNat 0x101 0)) ∧
    (n ≠ 0 → n.toNat ≤ s.chip.queuePairs fn → tget (s.chip.ctl fn).sqs n.toNat = none →
      (k = 0 ∨ tget (s.chip.ctl fn).cqs k.toNat = none → Completes (.createIoSq fn cid n z p pr k pc) s (fun d => adminDone s.chip d fn a q cid.toNat 0x100 0)) ∧
      (k ≠ 0 → (tget (s.chip.ctl fn).cqs k.toNat).isSome = true → z = 0 ∨ 1023 < z.toNat → Completes (.createIoSq fn cid n z p pr k pc) s (fun d =>
        adminDone s.chip d fn a q cid.toNat 0x102 0)) ∧
      (k ≠ 0 → (tget (s.chip.ctl fn).cqs k.toNat).isSome = true → z ≠ 0 → z.toNat ≤ 1023 → Completes (.createIoSq fn cid n z p pr k false) s (fun d =>
        adminDone s.chip d fn a q cid.toNat 0x002 0)) ∧
      (k ≠ 0 → (tget (s.chip.ctl fn).cqs k.toNat).isSome = true → z ≠ 0 → z.toNat ≤ 1023 →
        (s.chip.inCmb fn p ((z.toNat + 1) * 64) = none → Completes (.createIoSq fn cid n z p pr k true) s (fun d => adminDone s.chip d fn a q cid.toNat 0x012 0)) ∧
        (∀ b g, s.chip.inCmb fn p ((z.toNat + 1) * 64) = some b → (List.range 4096).find? (fun g => !s.chip.flag (Reg.NVS_SQ_MAP.VALID g)) = some g →
          Completes (.createIoSq fn cid n z p pr k true) s (fun d => adminDone s.chip d fn a q cid.toNat 0 0 ∧
            tget (d.ctl fn).sqs n.toNat = some { base := b, size := z.toNat + 1, prio := pr, cq := k.toNat, global := g } ∧
            d.flag (Reg.NVS_SQ_MAP.VALID g) = true ∧ d.rg (Reg.NVS_SQ_MAP.FUNC g) = fn.val)))) ∧
    (n = 0 ∨ tget (s.chip.ctl fn).cqs n.toNat = none → Completes (.deleteIoCq fn cid n) s (fun d => adminDone s.chip d fn a q cid.toNat 0x101 0)) ∧
    (n ≠ 0 → (tget (s.chip.ctl fn).cqs n.toNat).isSome = true →
      ((∃ x ∈ (s.chip.ctl fn).sqs, x.2.cq = n.toNat) → Completes (.deleteIoCq fn cid n) s (fun d => adminDone s.chip d fn a q cid.toNat 0x10C 0)) ∧
      ((∀ x ∈ (s.chip.ctl fn).sqs, x.2.cq ≠ n.toNat) → Completes (.deleteIoCq fn cid n) s (fun d => adminDone s.chip d fn a q cid.toNat 0 0 ∧
        tget (d.ctl fn).cqs n.toNat = none))) ∧
    (n = 0 ∨ tget (s.chip.ctl fn).sqs n.toNat = none → Completes (.deleteIoSq fn cid n) s (fun d => adminDone s.chip d fn a q cid.toNat 0x101 0)) ∧
    (∀ x, n ≠ 0 → tget (s.chip.ctl fn).sqs n.toNat = some x → x.global < 4096 → (∀ y, tget (s.chip.ctl fn).cqs x.cq = some y → y.wait = []) → Completes (.deleteIoSq fn cid n) s (fun d =>
      tget (d.ctl fn).sqs n.toNat = none ∧ d.flag (Reg.NVS_SQ_MAP.VALID x.global) = false ∧
      d.nvs.hostOut = s.chip.nvs.hostOut ++ [cqeOut fn 0 a q cid.toNat 0 0 0])))

/-- R526, R530, R534 to R536, R539, R545 and R546. -/
def Obligations.NvmeCommands : Prop :=
  (∀ (s : State) (fn : Fin 128) (cid lid nd w : BitVec 16) (b : BitVec 8) (u v o : BitVec 32) (l : Word) (ps : List Nat) (bs : List (BitVec 8)) (x y : Fin 8) (ok : Bool),
    (s.chip.nvs.hand.contains (fn.val, 0) = false → ∀ c ∈ [Instr.identify fn cid b u ps, .getLogPage fn cid b nd ps, .setFeatures fn cid b v, .getFeatures fn cid b,
      .firmwareImageDownload fn cid u o ps bs, .firmwareCommit fn cid x y ok], Completes c s (fun d => d = s.chip)) ∧
    (s.chip.nvs.hand.contains (fn.val, lid.toNat) = false → ∀ c ∈ [Instr.nvmeRead fn lid cid u l w ps, .nvmeWrite fn lid cid u l w ps bs, .nvmeFlush fn lid cid u,
      .writeZeroes fn lid cid u l w, .invalidCommandOpcode fn lid cid], Completes c s (fun d => d = s.chip)) ∧
    (8192 ≤ s.chip.rg Reg.NVS_LOCKS.IN_USE → ∀ c ∈ [Instr.nvmeRead fn lid cid u l w ps, .nvmeWrite fn lid cid u l w ps bs, .writeZeroes fn lid cid u l w],
      Completes c s (fun d => d = s.chip)) ∧
    (s.chip.admits (.nvme (((tget (s.chip.ctl fn).sqs lid.toNat).map (fun x => x.global)).getD 0)) = false ∨ lid = 0 ∨ (∃ k n, s.chip.nsOf fn u.toNat = some (k, n) ∧ n.backing ≠ 0 ∧ s.chip.targetState n.target ≠ 2) →
      ∀ c ∈ [Instr.nvmeRead fn lid cid u l w ps, .nvmeWrite fn lid cid u l w ps bs, .nvmeFlush fn lid cid u, .writeZeroes fn lid cid u l w],
      Completes c s (fun d => d = s.chip))) ∧
  (∀ (s : State) (fn : Fin 128) (cid nd : BitVec 16) (b : BitVec 8) (u v o : BitVec 32) (p : Nat) (ps : List Nat) (bs : List (BitVec 8)) (a : NvmeSq) (q : NvmeCq),
    sqReady s.chip fn 0 a q → a.cq = 0 →
    (∀ ds, s.chip.identifyData fn b.toNat u.toNat = some ds → p % 4096 = 0 → s.chip.inCmb fn p 4096 = none → Completes (.identify fn cid b u [p]) s (fun d =>
      d.nvs.hostOut = s.chip.nvs.hostOut ++ [(fn.val, p, ds.take 4096), cqeOut fn 0 a q cid.toNat 0 0 s.chip.led.nextSeq])) ∧
    (s.chip.identifyData fn b.toNat u.toNat = none → Completes (.identify fn cid b u ps) s (fun d =>
      adminDone s.chip d fn a q cid.toNat (if b = 0 ∨ b = 3 then 0x00B else 0x002) 0)) ∧
    (b = 0 ∨ 3 < b.toNat → Completes (.getLogPage fn cid b nd ps) s (fun d => adminDone s.chip d fn a q cid.toNat 0x109 0)) ∧
    (b ≠ 0 → b.toNat ≤ 3 → p % 4096 = 0 → nd.toNat < 1024 → s.chip.inCmb fn p ((nd.toNat + 1) * 4) = none → Completes (.getLogPage fn cid b nd [p]) s (fun d =>
      ∃ x, x.length = (nd.toNat + 1) * 4 ∧ d.nvs.hostOut = s.chip.nvs.hostOut ++ [(fn.val, p, x), cqeOut fn 0 a q cid.toNat 0 0 s.chip.led.nextSeq])) ∧
    (b ∉ [1, 2, 6, 7, 8, 9] → ∀ c ∈ [Instr.setFeatures fn cid b v, .getFeatures fn cid b], Completes c s (fun d => adminDone s.chip d fn a q cid.toNat 0x002 0)) ∧
    (b = 7 → ∀ c ∈ [Instr.setFeatures fn cid b v, .getFeatures fn cid b], Completes c s (fun d =>
      adminDone s.chip d fn a q cid.toNat 0 ((s.chip.queuePairs fn - 1) + (s.chip.queuePairs fn - 1) * 65536))) ∧
    (b = 6 → Completes (.setFeatures fn cid b v) s (fun d => adminDone s.chip d fn a q cid.toNat (if v.toNat % 2 = 0 then 0 else 0x10E) 0)) ∧
    (b = 2 → v.toNat % 32 ≠ 0 → Completes (.setFeatures fn cid b v) s (fun d => adminDone s.chip d fn a q cid.toNat 0x002 0)) ∧
    (b ∈ [1, 8, 9] ∨ (b = 2 ∧ v.toNat % 32 = 0) → Completes (.setFeatures fn cid b v) s (fun d => adminDone s.chip d fn a q cid.toNat 0 0 ∧ tget (d.ctl fn).features b.toNat = some v.toNat)) ∧
    (b ∈ [1, 2, 6, 8, 9] → Completes (.getFeatures fn cid b) s (fun d =>
      adminDone s.chip d fn a q cid.toNat 0 ((tget (s.chip.ctl fn).features b.toNat).getD 0) ∧ d.ctl fn = { s.chip.ctl fn with cqs := (d.ctl fn).cqs })) ∧
    (isVF fn = true → Completes (.firmwareImageDownload fn cid u o ps bs) s (fun d => adminDone s.chip d fn a q cid.toNat 0x001 0)) ∧
    (isVF fn = false → o.toNat % 1024 ≠ 0 ∨ u.toNat % 1024 ≠ 1023 ∨ 0x100000 < u.toNat + 1 ∨ mib32 < (o.toNat + u.toNat + 1) * 4 → Completes (.firmwareImageDownload fn cid u o ps bs) s (fun d =>
      adminDone s.chip d fn a q cid.toNat 0x006 0)) ∧
    (isVF fn = false → o.toNat % 1024 = 0 → u.toNat % 1024 = 1023 → u.toNat + 1 ≤ 0x100000 → (o.toNat + u.toNat + 1) * 4 ≤ mib32 →
      ∀ x, x = s.chip.prpRead fn (prpPieces ps ((u.toNat + 1) * 4)) (bs.map BitVec.toNat) → Completes (.firmwareImageDownload fn cid u o ps bs) s (fun d =>
        (d.ctl fn).image = max (s.chip.ctl fn).image ((o.toNat + u.toNat + 1) * 4) ∧ d.mem = (s.chip.writeRange (stagingBase + o.toNat * 4) x).mem ∧
        d.nvs.hostOut = s.chip.nvs.hostOut ++ [cqeOut fn 0 a q cid.toNat (if x.any (·.2) then 0x280 else 0) 0 s.chip.led.nextSeq])) ∧
    (∀ (fs ca : Fin 8) (ok : Bool), s.chip.coreServes (s.chip.roleCore 0) = true →
      (isVF fn = true → Completes (.firmwareCommit fn cid fs ca ok) s (fun d => d.nvs.hostOut = s.chip.nvs.hostOut ++ [cqeOut fn 0 a q cid.toNat 0x001 0 0] ∧ d.led = s.chip.led)) ∧
      (isVF fn = false → 3 < ca.val → Completes (.firmwareCommit fn cid fs ca ok) s (fun d =>
        d.nvs.hostOut = s.chip.nvs.hostOut ++ [cqeOut fn 0 a q cid.toNat 0x002 0 0] ∧ d.led = s.chip.led)) ∧
      (isVF fn = false → ca.val ≤ 3 → 2 < fs.val → Completes (.firmwareCommit fn cid fs ca ok) s (fun d =>
        d.nvs.hostOut = s.chip.nvs.hostOut ++ [cqeOut fn 0 a q cid.toNat 0x106 0 0] ∧ d.led = s.chip.led)) ∧
      (isVF fn = false → fs = 1 ∨ fs = 2 → Completes (.firmwareCommit fn cid fs 2 ok) s (fun d =>
        d = (fwActivate ({ s.chip with nvs := { s.chip.nvs with hand := s.chip.nvs.hand.erase (fn.val, 0) } } : Chip) ⟨.nvme fn 0 cid.toNat, BitVec.ofNat 32 cid.toNat⟩
          (fs.val - 1) 0).nvmeGo)) ∧
      (isVF fn = false → ca.val ≤ 3 → ca ≠ 2 → fs.val ≤ 2 → ∀ act slot : Nat, act = (s.chip.bootRec.map (fun r => r.active)).getD 0 →
        slot = (if fs = 0 then 1 - act % 2 else fs.val - 1) →
        (slot = act → Completes (.firmwareCommit fn cid fs ca ok) s (fun d =>
          d.nvs.hostOut = s.chip.nvs.hostOut ++ [cqeOut fn 0 a q cid.toNat 0x106 0 0] ∧ d.led = s.chip.led)) ∧
        (slot ≠ act → Completes (.firmwareCommit fn cid fs ca ok) s (fun d => d = (
          let h : Chip := { s.chip with nvs := { s.chip.nvs with hand := s.chip.nvs.hand.erase (fn.val, 0) } };
          let h := if ca = 0 then h else h.setCtl fn { h.ctl fn with chain := some (cid.toNat, slot, if ca = 3 then 1 else 0) };
          (fwStage h ⟨.nvme fn 0 cid.toNat, BitVec.ofNat 32 cid.toNat⟩ (h.ctl fn).image ok).nvmeGo))))) ) ∧
  (∀ (s : State) (fn : Fin 128) (cid n w : BitVec 16) (u : BitVec 32) (l : Word) (ps : List Nat) (bs : List (BitVec 8)) (a : NvmeSq) (q : NvmeCq),
    sqReady s.chip fn n.toNat a q →
    Completes (.invalidCommandOpcode fn n cid) s (fun d => d.nvs.hostOut = s.chip.nvs.hostOut ++ [cqeOut fn n.toNat a q cid.toNat 0x001 0 0] ∧ d.led = s.chip.led) ∧
    (s.chip.admits (.nvme a.global) = true → s.chip.rg Reg.NVS_LOCKS.IN_USE < 8192 → n ≠ 0 →
      (s.chip.nsOf fn u.toNat = none → ∀ c ∈ [Instr.nvmeRead fn n cid u l w ps, .nvmeWrite fn n cid u l w ps bs, .nvmeFlush fn n cid u, .writeZeroes fn n cid u l w],
        Completes c s (fun d => d.nvs.hostOut = s.chip.nvs.hostOut ++ [cqeOut fn n.toNat a q cid.toNat 0x00B 0 0] ∧ d.led = s.chip.led)) ∧
      (∀ k x, s.chip.nsOf fn u.toNat = some (k, x) → x.backing = 0 ∨ s.chip.targetState x.target = 2 →
        (x.nsze < l.toNat + (w.toNat + 1) → ∀ c ∈ [Instr.nvmeRead fn n cid u l w ps, .nvmeWrite fn n cid u l w ps bs, .writeZeroes fn n cid u l w],
          Completes c s (fun d => d.nvs.hostOut = s.chip.nvs.hostOut ++ [cqeOut fn n.toNat a q cid.toNat 0x080 0 0] ∧ d.led = s.chip.led)) ∧
        (l.toNat + (w.toNat + 1) ≤ x.nsze → 0x200000 < (w.toNat + 1) * x.blockBytes → ∀ c ∈ [Instr.nvmeRead fn n cid u l w ps, .nvmeWrite fn n cid u l w ps bs],
          Completes c s (fun d => d.nvs.hostOut = s.chip.nvs.hostOut ++ [cqeOut fn n.toNat a q cid.toNat 0x002 0 0] ∧ d.led = s.chip.led)) ∧
        (l.toNat + (w.toNat + 1) ≤ x.nsze → (w.toNat + 1) * x.blockBytes ≤ 0x200000 → ps.headD 0 % 4 ≠ 0 →
          ∀ c ∈ [Instr.nvmeRead fn n cid u l w ps, .nvmeWrite fn n cid u l w ps bs],
          Completes c s (fun d => d.nvs.hostOut = s.chip.nvs.hostOut ++ [cqeOut fn n.toNat a q cid.toNat 0x013 0 0] ∧ d.led = s.chip.led)) ∧
        (∀ c, (c ∈ [Instr.nvmeRead fn n cid u l w ps, .nvmeWrite fn n cid u l w ps bs] ∧ l.toNat + (w.toNat + 1) ≤ x.nsze ∧ (w.toNat + 1) * x.blockBytes ≤ 0x200000 ∧
            ps.headD 0 % 4 = 0) ∨ (c = .writeZeroes fn n cid u l w ∧ l.toNat + (w.toNat + 1) ≤ x.nsze) ∨ c = .nvmeFlush fn n cid u →
          Completes c s (fun d => d.led.nextSeq = s.chip.led.nextSeq + 1 ∧
            d.ids = [⟨s.chip.led.nextSeq, lowestSlot [], .nvme fn n.toNat cid.toNat, .nvme a.global, cid.toNat + a.global * 65536, .nvme fn n.toNat cid.toNat⟩])) ∧
        (x.backing ≠ 0 → tget s.chip.nvs.ns k = some x → s.chip.running .nvs = true → (s.chip.agentRec (.block .nvs)).fencing = false →
          ((∀ c, c = Instr.nvmeFlush fn n cid u ∨ (c = .writeZeroes fn n cid u l w ∧ l.toNat + (w.toNat + 1) ≤ x.nsze) ∨
              ((c = .nvmeRead fn n cid u l w ps ∨ (c = .nvmeWrite fn n cid u l w ps bs ∧ s.chip.prpHost fn (prpPieces ps ((w.toNat + 1) * x.blockBytes)) = false)) ∧
                l.toNat + (w.toNat + 1) ≤ x.nsze ∧ (w.toNat + 1) * x.blockBytes ≤ 0x200000 ∧ ps.headD 0 % 4 = 0) →
            Completes c s (fun d => d.nvs.back = [⟨s.chip.led.nextSeq, x.target, s.chip.tick, false⟩] ∧
              ∃ i, d.led.items = [i] ∧ i.state = .running ∧ i.owner = 0x56 ∧ i.fin = none)) ∧
          (l.toNat + (w.toNat + 1) ≤ x.nsze → (w.toNat + 1) * x.blockBytes ≤ 0x200000 → ps.headD 0 % 4 = 0 →
            s.chip.prpHost fn (prpPieces ps ((w.toNat + 1) * x.blockBytes)) = true → Completes (.nvmeWrite fn n cid u l w ps bs) s (fun d =>
              d.nvs.back = [] ∧ d.readsOut s.chip.led.nextSeq = true ∧ ∃ i, d.led.items = [i] ∧ i.state = .running ∧ i.owner = 0x56 ∧ i.fin = none)))) ∧
        (x.backing = 0 → tget s.chip.nvs.ns k = some x → s.chip.running .nvs = true → (s.chip.agentRec (.block .nvs)).fencing = false →
          l.toNat + (w.toNat + 1) ≤ x.nsze → (w.toNat + 1) * x.blockBytes ≤ 0x200000 → ps.headD 0 % 4 = 0 → ∀ (at_ len : Nat),
          at_ = x.base + l.toNat * x.blockBytes → len = (w.toNat + 1) * x.blockBytes → s.chip.unmapped at_ len = false →
          ((∀ f ∈ s.chip.mu.flips, overlaps at_ len f.1 32 = false) → s.chip.anyPoison at_ len = false → Completes (.nvmeRead fn n cid u l w ps) s (fun d =>
            (∃ i, d.led.items = [i] ∧ i.state = .running ∧ i.owner = 0x56 ∧ i.fin = some ⟨Code.OK, 0, 0⟩) ∧
            d.nvs.hostOut = (s.chip.prpWrite fn (prpPieces ps len) ((s.chip.readRange at_ len).map (·.1))).nvs.hostOut)) ∧
          Completes (.nvmeWrite fn n cid u l w ps bs) s (fun d =>
            (∃ i, d.led.items = [i] ∧ i.state = .running ∧ i.owner = 0x56 ∧ i.fin.isSome = true) ∧
            d.mem = (s.chip.writeRange at_ (s.chip.prpRead fn (prpPieces ps len) (bs.map BitVec.toNat))).mem ∧
            d.readsOut s.chip.led.nextSeq = (s.chip.readsOut s.chip.led.nextSeq || s.chip.prpHost fn (prpPieces ps len)))) ∧
        (x.backing = 0 → tget s.chip.nvs.ns k = some x → s.chip.running .nvs = true → (s.chip.agentRec (.block .nvs)).fencing = false →
          Completes (.nvmeFlush fn n cid u) s (fun d => ∃ i, d.led.items = [i] ∧ i.state = .running ∧ i.fin = some ⟨Code.OK, 0, 0⟩) ∧
          (l.toNat + (w.toNat + 1) ≤ x.nsze → s.chip.unmapped (x.base + l.toNat * x.blockBytes) ((w.toNat + 1) * x.blockBytes) = false →
            Completes (.writeZeroes fn n cid u l w) s (fun d => ∃ i, d.led.items = [i] ∧ i.state = .running ∧ i.fin.isSome = true)))))) ∧
  (∀ (s : State) (q : Nat) (sct : Fin 8) (sc : BitVec 8) (bs : List (BitVec 8)), (∀ b ∈ s.chip.nvs.back, b.seq ≠ q) →
    Completes (.backendCompletion q sct sc bs) s (fun d => d = s.chip) ∧ Completes (.backendTimeout q) s (fun d => d = s.chip)) ∧
  (∀ (s : State) (q : Nat) (sct : Fin 8) (sc : BitVec 8) (bs : List (BitVec 8)) (b : NvmeBack) (c : NvmeCmd) (i : Item), s.chip.nvs.back = [b] → b.seq = q →
    tget s.chip.nvs.cmds q = some c → s.chip.item q = some i → i.seq = q → nvStatus sct sc.toNat ≠ 0 ∨ c.op ≠ 2 → Completes (.backendCompletion q sct sc bs) s (fun d => d.nvs.back = [] ∧
      (∃ j, d.item q = some j ∧ j.fin = some ⟨Code.OK, 0, 0⟩ ∧ j.state = i.state) ∧
      (nvStatus sct sc.toNat ≠ 0 → tget d.nvs.cmds q = some { c with status := some (nvStatus sct sc.toNat) }))) ∧
  (∀ (s : State) (q : Nat) (bs : List (BitVec 8)) (b : NvmeBack) (c : NvmeCmd) (i : Item) (n : NvmeNs) (len : Nat) (x : List Nat), s.chip.nvs.back = [b] → b.seq = q →
    s.chip.nvs.cmds = [(q, c)] → c.op = 2 → c.started = true → s.chip.item q = some i → i.seq = q → i.fin = none → i.state.ended = false →
    tget s.chip.nvs.ns c.ns = some n → n.backing ≠ 0 → len = c.count * n.blockBytes → x = (bs.map BitVec.toNat ++ List.replicate len 0).take len →
    (s.chip.prpHost c.fn (prpPieces c.prps len) = true → s.chip.hostStopped c.fn = true → Completes (.backendCompletion q 0 0 bs) s (fun d => d.nvs.back = [] ∧
      tget d.nvs.cmds q = some { c with got := true, data := x } ∧ d.led = s.chip.led)) ∧
    (s.chip.prpHost c.fn (prpPieces c.prps len) = false ∨ s.chip.hostStopped c.fn = false → Completes (.backendCompletion q 0 0 bs) s (fun d => d.nvs.back = [] ∧
      d.nvs.hostOut = (s.chip.prpWrite c.fn (prpPieces c.prps len) x).nvs.hostOut ∧ ∃ j, d.item q = some j ∧ j.fin = some ⟨Code.OK, 0, 0⟩ ∧ j.state = i.state))) ∧
  (∀ (s : State) (q : Nat) (b : NvmeBack), s.chip.nvs.back = [b] → b.seq = q →
    (s.chip.tick + 1 < b.since + s.chip.usTicks (s.chip.rg Reg.NVS_CFG.TARGET_TIMEOUT * 1000) → Completes (.backendTimeout q) s (fun d => d = s.chip)) ∧
    (b.since + s.chip.usTicks (s.chip.rg Reg.NVS_CFG.TARGET_TIMEOUT * 1000) ≤ s.chip.tick + 1 → (∀ t, tget s.chip.nvs.targets b.target = some t → t.timeouts.length < 15) →
      (b.resent = false → Completes (.backendTimeout q) s (fun d => d.nvs.back = [{ b with since := s.chip.tick, resent := true }] ∧ d.led = s.chip.led ∧ d.mem = s.chip.mem)) ∧
      (∀ i : Item, b.resent = true → s.chip.item q = some i → i.seq = q → i.state.ended = false → i.crec ≠ .taken → s.chip.led.lost = false →
        Completes (.backendTimeout q) s (fun d => ∃ j, d.item q = some j ∧ j.state = .withdrawn ∧ j.reply.code = Code.TIMEOUT))))

/-- R532, R533, R534 and R547. -/
def Obligations.NvmeConfiguration : Prop :=
  (∀ (s : State) (src : Submit) (a : Nat), s.chip.coreServes (s.chip.roleCore 2) = true → TakenUp s.chip src .nvs false 0 →
    (RecordBad s.chip a 64 ∨ (RecordClean s.chip a 64 ∧ (s.chip.nsOk (leNat ((s.chip.bytes a 64).take 2)) (nsOfRec (s.chip.bytes a 64)) = false ∨
      (tget s.chip.nvs.ns (leNat ((s.chip.bytes a 64).take 2))).isSome = true)) → Completes (.nvsNsSet src a) s (fun d => NotAccepted s.chip d [.mem])) ∧
    (RecordClean s.chip a 64 → s.chip.nsOk (leNat ((s.chip.bytes a 64).take 2)) (nsOfRec (s.chip.bytes a 64)) = true →
      tget s.chip.nvs.ns (leNat ((s.chip.bytes a 64).take 2)) = none → Completes (.nvsNsSet src a) s (fun d =>
        Accepted s.chip d src (.general 0x0B01) (s.chip.originDomain src.origin) ∧ (s.chip.led.items = [] → s.chip.commits = true →
          tget d.nvs.ns (leNat ((s.chip.bytes a 64).take 2)) = some (nsOfRec (s.chip.bytes a 64))))) ∧
    (RecordBad s.chip a 512 ∨ (RecordClean s.chip a 512 ∧ (targetOk (s.chip.bytes a 512) = false ∨ (tget s.chip.nvs.targets ((s.chip.bytes a 512).getD 0 0)).isSome = true)) →
      Completes (.nvsTargetSet src a) s (fun d => NotAccepted s.chip d [.mem])) ∧
    (RecordClean s.chip a 512 → targetOk (s.chip.bytes a 512) = true →
      tget s.chip.nvs.targets ((s.chip.bytes a 512).getD 0 0) = none → Completes (.nvsTargetSet src a) s (fun d =>
        Accepted s.chip d src (.general 0x0B03) (s.chip.originDomain src.origin) ∧ d.targetState ((s.chip.bytes a 512).getD 0 0) = 1))) ∧
  (∀ (s : State) (src : Submit) (k : BitVec 16), s.chip.coreServes (s.chip.roleCore 2) = true → TakenUp s.chip src .nvs false 0 →
    (1024 ≤ k.toNat ∨ tget s.chip.nvs.ns k.toNat = none ∨ (∃ c ∈ s.chip.nvs.cmds, c.2.ns = k.toNat) → Completes (.nvsNsClear src k) s (fun d => NotAccepted s.chip d [.mem])) ∧
    (k.toNat < 1024 → (tget s.chip.nvs.ns k.toNat).isSome = true → (∀ c ∈ s.chip.nvs.cmds, c.2.ns ≠ k.toNat) → Completes (.nvsNsClear src k) s (fun d =>
      Accepted s.chip d src (.general 0x0B02) (s.chip.originDomain src.origin) ∧ (s.chip.led.items = [] → s.chip.commits = true → tget d.nvs.ns k.toNat = none)))) ∧
  (∀ (s : State) (src : Submit) (t : BitVec 8), s.chip.coreServes (s.chip.roleCore 2) = true → TakenUp s.chip src .nvs false 0 →
    (tget s.chip.nvs.targets t.toNat = none ∨ s.chip.targetState t.toNat = 1 ∨ (∃ n ∈ s.chip.nvs.ns, n.2.backing ≠ 0 ∧ n.2.target = t.toNat) →
      Completes (.nvsTargetClear src t) s (fun d => NotAccepted s.chip d [.mem])) ∧
    ((tget s.chip.nvs.targets t.toNat).isSome = true → s.chip.targetState t.toNat ≠ 1 → (∀ n ∈ s.chip.nvs.ns, n.2.backing = 0 ∨ n.2.target ≠ t.toNat) →
      Completes (.nvsTargetClear src t) s (fun d => Accepted s.chip d src (.general 0x0B04) (s.chip.originDomain src.origin) ∧
        (s.chip.led.items = [] → s.chip.commits = true → tget d.nvs.targets t.toNat = none)))) ∧
  (∀ (s : State) (t : BitVec 8), s.chip.targetState t.toNat ≠ 1 → Completes (.targetConnectComplete t) s (fun d => d = s.chip)) ∧
  (∀ (s : State) (t : BitVec 8) (x : NvmeTarget) (i : Item) (r : List Nat), tget s.chip.nvs.targets t.toNat = some x → x.state = 1 → s.chip.led.items = [i] → i.seq = x.seq →
    i.state.ended = false → s.chip.commits = true → tget s.chip.nvs.recs x.seq = some r → r.getD 0 0 = t.toNat → Completes (.targetConnectComplete t) s (fun d =>
      tget d.nvs.targets t.toNat = some { x with state := 2, seq := 0 } ∧ ∃ j, d.item x.seq = some j ∧ j.state = .committed ∧ j.reply.code = Code.OK)) ∧
  (∀ (s : State) (t : BitVec 8) (ok : Bool), (tget s.chip.nvs.targets t.toNat = none → Completes (.targetReconnect t ok) s (fun d => d = s.chip)) ∧
    (∀ x, tget s.chip.nvs.targets t.toNat = some x → (x.state ≠ 3 ∨ s.chip.tick < x.tried + 65536 → Completes (.targetReconnect t ok) s (fun d => d = s.chip)) ∧
      (x.state = 3 → x.tried + 65536 ≤ s.chip.tick → Completes (.targetReconnect t ok) s (fun d =>
        tget d.nvs.targets t.toNat = some { x with state := (if ok then 2 else 3), tried := s.chip.tick } ∧ Frame [.nvs] s.chip d)))) ∧
  (∀ (s : State) (t : BitVec 8), (s.chip.targetState t.toNat ≠ 2 → Completes (.targetDrop t) s (fun d => Answered d false ∧ Frame [.answer] s.chip d)) ∧
    (s.chip.targetState t.toNat = 2 → Completes (.targetDrop t) s (fun d => d = (s.chip.targetLost t.toNat).answered (.block .nvs) true ∧ Answered d true ∧ d.targetState t.toNat = 3)))

/-- Job j has a running checkpoint r. -/
def ckpRuns (d : Chip) (j : Nat) (x : CkpJob) (r : CkpRun) : Prop := d.job j = some x ∧ x.run = some r

/-- The item of job j's checkpoint r is open, and a withdrawal can still reach it. -/
def ckpOpen (d : Chip) (j : Nat) (r : CkpRun) : Prop :=
  d.led.lost = false ∧ ∃ i, d.item r.seq = some i ∧ i.seq = r.seq ∧ i.kind = .checkpoint j ∧ i.state.ended = false ∧ i.crec ≠ .taken

/-- The checkpoint of item q has been abandoned for a reason (R574, R575). -/
def ckpAbandoned (d : Chip) (q reason : Nat) : Prop :=
  ∃ i, d.item q = some i ∧ i.state = .withdrawn ∧ i.reply.code = Code.CKP_ABANDONED ∧ i.reply.lo % 256 = reason

/-- A page of a range of a running checkpoint that the walker has not reached (R559). -/
def ckpUnvisited (d : Chip) (j : Nat) (r : CkpRun) (ri pi : Nat) : Prop :=
  r.walked = false ∧ r.asking = false ∧
  (d.rg (Reg.CKP_JOB_CURSOR.RANGE j) < ri ∨ (d.rg (Reg.CKP_JOB_CURSOR.RANGE j) = ri ∧ d.rg (Reg.CKP_JOB_CURSOR.PAGE j) ≤ pi))

/-- R551, R553, R554, R556, R557, R575, R578 and R582. -/
def Obligations.CheckpointCommands : Prop :=
  (∀ (s : State) (src : Submit) (a : Nat), TakenUp s.chip src .ckp false 0 →
    let r := s.chip.bytes a 128
    (RecordBad s.chip a 128 ∨ (RecordClean s.chip a 128 ∧ (s.chip.jobBad r = true ∨ s.chip.inDieOrNear (fieldOf r 80 8) (32 * fieldOf r 88 2) = false ∨
      s.chip.anyPoison (fieldOf r 80 8) (32 * fieldOf r 88 2) = true ∨
      s.chip.layoutBad (s.chip.rangeList r) (fieldOf r 96 8) = true ∨ (s.chip.job (fieldOf r 0 1)).isSome = true)) →
      Completes (.ckpJobSet src a) s (fun d => NotAccepted s.chip d [.ckp, .mem])) ∧
    (RecordClean s.chip a 128 → s.chip.jobBad r = false → s.chip.inDieOrNear (fieldOf r 80 8) (32 * fieldOf r 88 2) = true →
      (∀ p ∈ s.chip.mu.flips, overlaps (fieldOf r 80 8) (32 * fieldOf r 88 2) p.1 32 = false) → s.chip.anyPoison (fieldOf r 80 8) (32 * fieldOf r 88 2) = false → s.chip.layoutBad (s.chip.rangeList r) (fieldOf r 96 8) = false →
      s.chip.job (fieldOf r 0 1) = none → Completes (.ckpJobSet src a) s (fun d => Accepted s.chip d src (.general 0x0C01) (s.chip.originDomain src.origin) ∧
        d = ((((s.chip.dropHand src.origin).ckpAccept src 0x0C01 [a]).1.ck (fun u => { u with
          recs := tput u.recs s.chip.led.nextSeq (r ++ s.chip.bytes (fieldOf r 80 8) (32 * fieldOf r 88 2)) })).finishWith s.chip.led.nextSeq
          (fun d => d.ckpEffect s.chip.led.nextSeq 0x0C01 (genBody 0x0C01 src [a]))) ∧
        (s.chip.led.items = [] → s.chip.commits = true → d.rg (Reg.CKP_JOB_STATE.STATE (fieldOf r 0 1)) = 1 ∧
          ∃ x, d.job (fieldOf r 0 1) = some x ∧ x.raw = r ∧ x.run = none ∧ x.stepSeq = none)))) ∧
  (∀ (s : State) (src : Submit) (j : BitVec 8) (n : Word) (f : BitVec 8) (st : List (Nat × List (BitVec 8))), TakenUp s.chip src .ckp false 0 →
    (63 < j.toNat ∨ s.chip.rg (Reg.CKP_JOB_STATE.STATE j.toNat) ≠ 1 → Completes (.ckpJobClear src j) s (fun d => NotAccepted s.chip d [.ckp, .mem])) ∧
    (j.toNat ≤ 63 → s.chip.rg (Reg.CKP_JOB_STATE.STATE j.toNat) = 1 → Completes (.ckpJobClear src j) s (fun d =>
      Accepted s.chip d src (.general 0x0C02) (s.chip.originDomain src.origin) ∧
      d = (((s.chip.dropHand src.origin).ckpAccept src 0x0C02 [j.toNat]).1.finishWith s.chip.led.nextSeq
        (fun d => d.ckpEffect s.chip.led.nextSeq 0x0C02 (genBody 0x0C02 src [j.toNat]))) ∧ (s.chip.led.items = [] → s.chip.commits = true → d.job j.toNat = none ∧
        d.rg (Reg.CKP_JOB_STATE.STATE j.toNat) = 0))) ∧
    (s.chip.job j.toNat = none → ∀ c ∈ [Instr.ckpStep src j n, .ckpNow src j f, .ckpRestore src j n st, .ckpAbort src j],
      Completes c s (fun d => NotAccepted s.chip d [.ckp, .mem])) ∧
    (∀ x, s.chip.job j.toNat = some x →
      (x.stepSeq.isSome = true → Completes (.ckpStep src j n) s (fun d => d = s.chip)) ∧
      (x.stepSeq = none → n.toNat ≤ s.chip.rg (Reg.CKP_JOB_STEP.STEP j.toNat) → Completes (.ckpStep src j n) s (fun d => NotAccepted s.chip d [.ckp, .mem])) ∧
      (x.stepSeq = none → s.chip.rg (Reg.CKP_JOB_STEP.STEP j.toNat) < n.toNat → Completes (.ckpStep src j n) s (fun d =>
        Accepted s.chip d src (.general 0x0C03) (s.chip.originDomain src.origin) ∧ d.job j.toNat = some { x with stepSeq := some (s.chip.led.nextSeq, n.toNat) } ∧
        d = (((s.chip.dropHand src.origin).ckpAccept src 0x0C03 [j.toNat, n.toNat]).1.setJob j.toNat { x with stepSeq := some (s.chip.led.nextSeq, n.toNat) }))) ∧
      (1 < f.toNat ∨ x.rank ≠ 0 → Completes (.ckpNow src j f) s (fun d => NotAccepted s.chip d [.ckp, .mem])) ∧
      (f.toNat ≤ 1 → x.rank = 0 → Completes (.ckpNow src j f) s (fun d => Accepted s.chip d src (.general 0x0C04) (s.chip.originDomain src.origin) ∧
        d = (((s.chip.dropHand src.origin).ckpAccept src 0x0C04 [j.toNat + f.toNat * 2 ^ 8]).1.finishWith s.chip.led.nextSeq
          (fun d => d.ckpEffect s.chip.led.nextSeq 0x0C04 (genBody 0x0C04 src [j.toNat + f.toNat * 2 ^ 8]))) ∧
        (s.chip.led.items = [] → s.chip.commits = true → ∃ y, d.job j.toNat = some y ∧ y.now = true ∧ y.nowFull = (x.nowFull || decide (f = 1))))) ∧
      (s.chip.rg (Reg.CKP_JOB_STATE.STATE j.toNat) ≠ 1 → Completes (.ckpRestore src j n st) s (fun d => NotAccepted s.chip d [.ckp, .mem])) ∧
      (s.chip.rg (Reg.CKP_JOB_STATE.STATE j.toNat) = 1 → Completes (.ckpRestore src j n st) s (fun d =>
        Accepted s.chip d src (.general 0x0C05) (s.chip.originDomain src.origin)) ∧
        (s.chip.led.items = [] → s.chip.led.lost = false → Completes (.ckpRestore src j n []) s (fun d => d.rg (Reg.CKP_JOB_STATE.STATE j.toNat) = 1 ∧
          ∃ i, d.led.items = [i] ∧ i.state = .withdrawn ∧ i.reply.code = Code.CKP_NONE))) ∧
      (s.chip.rg (Reg.CKP_JOB_STATE.STATE j.toNat) = 1 → ∀ (e : Chip) (t : List (Nat × List Nat)) (q : Nat), q = s.chip.led.nextSeq →
        t = st.map (fun b => (b.1, b.2.map BitVec.toNat)) →
        e = ((((s.chip.dropHand src.origin).ckpAccept src 0x0C05 [j.toNat, n.toNat]).1.setJob j.toNat { x with restore := some q }).sr
          (Reg.CKP_JOB_STATE.STATE j.toNat) 3).updItem q (fun i => { i with state := .running }) →
        (e.commitPick x n.toNat t = none → Completes (.ckpRestore src j n st) s (fun d => d = e.withdraw q Code.CKP_NONE)) ∧
        (∀ c root, e.commitPick x n.toNat t = some c → root = ckpBytes t c.2.2.1 c.2.2.2.1 →
          (e.rootOk x root = false → Completes (.ckpRestore src j n st) s (fun d => d = e.withdraw q Code.CKP_NONE)) ∧
          (e.rootOk x root = true → fieldOf root 40 8 ≠ x.logical → Completes (.ckpRestore src j n st) s (fun d => d = e.withdraw q Code.CKP_LAYOUT)) ∧
          (e.rootOk x root = true → fieldOf root 40 8 = x.logical →
            (e.rootChain x t 65 root = none → Completes (.ckpRestore src j n st) s (fun d => d = e.withdraw q Code.CKP_NONE)) ∧
            (∀ chain, e.rootChain x t 65 root = some chain →
              (∀ e' code, e.restorePages x t (chain.map (rootEntries t)) x.pages false = .error (e', code) → Completes (.ckpRestore src j n st) s (fun d =>
                d = e'.withdraw q code (ckpLo 0 false 0 0) n.toNat)) ∧
              (∀ e' bad, e.restorePages x t (chain.map (rootEntries t)) x.pages false = .ok (e', bad) → Completes (.ckpRestore src j n st) s (fun d =>
                d = e'.restoreDone j.toNat x t chain c.2.1 q bad)))))) ∧
      (x.rank ≠ 0 → Completes (.ckpAbort src j) s (fun d => NotAccepted s.chip d [.ckp, .mem])) ∧
      (x.rank = 0 → Completes (.ckpAbort src j) s (fun d => Accepted s.chip d src (.general 0x0C06) (s.chip.originDomain src.origin) ∧
        d = ((((s.chip.dropHand src.origin).ckpAccept src 0x0C06 [j.toNat]).1.ckpAbandon j.toNat 5).finish s.chip.led.nextSeq
          (if x.run.any (fun r => s.chip.canWithdraw r.seq) then Code.OK else Code.ALREADY_DONE)) ∧
        ∀ r, x.run = some r → ckpOpen s.chip j.toNat r → ckpAbandoned d r.seq 5)))) ∧
  (∀ (s : State) (j : Fin 64) (n : Word) (full : Bool), (s.chip.job j = none → Completes (.checkpointNotice j (n, full)) s (fun d => d = s.chip)) ∧
    Completes (.jobAbandon j) s (fun d => d = (s.chip.ckpAbandon j 5).answered (.block .ckp) ((s.chip.job j).bind (·.run)).isSome) ∧
    ((s.chip.job j).bind (·.run) = none → Completes (.jobAbandon j) s (fun d => Answered d false ∧ Frame [.answer] s.chip d)) ∧
    (∀ x, s.chip.job j = some x →
      (s.chip.rg (Reg.CKP_JOB_STEP.STEP j) < n.toNat → Completes (.checkpointNotice j (n, full)) s (fun d => d.job j = some { x with notice := some (n.toNat, full) } ∧
        Frame [.ckp] s.chip d)) ∧
      (n.toNat ≤ s.chip.rg (Reg.CKP_JOB_STEP.STEP j) → x.run = none ∨ (∃ r, x.run = some r ∧ r.step ≠ n.toNat) → Completes (.checkpointNotice j (n, full)) s (fun d =>
        d = ((s.chip.fault Src.CKP_LATE j).sr (Reg.CKP_JOB_STATE.FULL_NEXT j) 1).count (Reg.CKP_COUNT.COUNT 1))) ∧
      (∀ r, x.run = some r → ckpOpen s.chip j r →
        (n.toNat ≤ s.chip.rg (Reg.CKP_JOB_STEP.STEP j) → r.step = n.toNat → Completes (.checkpointNotice j (n, full)) s (fun d =>
          d = (s.chip.fault Src.CKP_LATE j).ckpAbandon j 3 ∧ ckpAbandoned d r.seq 3)) ∧
        Completes (.jobAbandon j) s (fun d => Answered d true ∧ ckpAbandoned d r.seq 5))))

/-- R559 to R562, R564 to R568, R571, R573 and R574. -/
def Obligations.CheckpointEngine : Prop :=
  (∀ (s : State) (a : Nat) (bs : List (BitVec 8)),
    (isPaged a = false ∨ bs = [] ∨ s.chip.inOne a bs.length = false → Completes (.cowWrite a bs) s (fun d => d = s.chip)) ∧
    (isPaged a = true → bs ≠ [] → s.chip.inOne a bs.length = true →
      (s.chip.ckpPage (pageOf a) = none → Completes (.cowWrite a bs) s (fun d => d = s.chip.wr a (bs.map BitVec.toNat))) ∧
      (∀ j x ri pi, s.chip.ckpPage (pageOf a) = some (j, x, ri, pi) →
        (∀ r, x.run = some r → ckpUnvisited s.chip j r ri pi → (s.chip.pte (pageOf a)).cow = true ∨ ((s.chip.pte (pageOf a)).dirty = false ∧ r.full = false) ∨
          (r.freeSlot x.capPages).isSome = true) → Completes (.cowWrite a bs) s (fun d => d = s.chip.wr a (bs.map BitVec.toNat))) ∧
      (∀ j x ri pi r, s.chip.ckpPage (pageOf a) = some (j, x, ri, pi) → x.run = some r → ckpUnvisited s.chip j r ri pi → (s.chip.pte (pageOf a)).state ≠ .unmapped →
        a % 0x10000 + bs.length ≤ 0x10000 →
        ((s.chip.pte (pageOf a)).cow = false → (s.chip.pte (pageOf a)).dirty = false → r.full = false → Completes (.cowWrite a bs) s (fun d =>
          (d.pte (pageOf a)).cow = true ∧ (d.pte (pageOf a)).dirty = false)) ∧
        ((s.chip.pte (pageOf a)).cow = false → (s.chip.pte (pageOf a)).dirty = true ∨ r.full = true →
          (r.freeSlot x.capPages = none → Completes (.cowWrite a bs) s (fun d => d = s.chip.count (Reg.CKP_COUNT.COUNT 7))) ∧
          (∀ k, r.freeSlot x.capPages = some k → Completes (.cowWrite a bs) s (fun d => (d.pte (pageOf a)).cow = true ∧ (d.pte (pageOf a)).dirty = true ∧
            ∃ y q, ckpRuns d j y q ∧ q.caps.length = r.caps.length + 1)))))) ∧
  (∀ (s : State) (j : Fin 64) (b n : Nat) (w : List Nat) (pl : List (Nat × Nat × Nat)) (wr : List (Nat × Nat)) (ok cv : Bool) (sg : List (Nat × Nat × Nat × Nat × List (BitVec 8))),
    (s.chip.job j).bind (·.run) = none → ∀ c ∈ [Instr.walkerVisit j, .batchHashed j, .hashExchangeRound j w, .writerConfirm j b n pl ok, .nodeLost j n (wr, cv), .segmentWrite j,
      .rootWrite j sg ok, .commitRecordWrite j n, .committedMessage j n], Completes c s (fun d => d = s.chip)) ∧
  (∀ (s : State) (j : Fin 64) (x : CkpJob) (r : CkpRun) (g : CkpRange) (n : Nat), ckpRuns s.chip j x r →
    g = x.ranges.getD (s.chip.rg (Reg.CKP_JOB_CURSOR.RANGE j)) ⟨0, 0, 0⟩ → n = pageOf g.addr + s.chip.rg (Reg.CKP_JOB_CURSOR.PAGE j) →
    (r.walked = true ∨ r.asking = true ∨ s.chip.running .ckp = false ∨ s.chip.spent x.plan = true → Completes (.walkerVisit j) s (fun d => d = s.chip)) ∧
    (r.walked = false → r.asking = false → s.chip.running .ckp = true → s.chip.spent x.plan = false →
      ((s.chip.pte n).cow = true → Completes (.walkerVisit j) s (fun d => d = (s.chip.setPte n { s.chip.pte n with dirty := true, cow := false }).cursorNext j x ∧
        (d.pte n).dirty = true ∧ (d.pte n).cow = false)) ∧
      ((s.chip.pte n).cow = false → (s.chip.pte n).dirty = false → r.full = false → Completes (.walkerVisit j) s (fun d => d = s.chip.cursorNext j x ∧
        d.mu = s.chip.mu ∧ d.mem = s.chip.mem ∧
        (s.chip.rg (Reg.CKP_JOB_CURSOR.PAGE j) + 1 < g.pages → g.pages < 2 ^ 25 → d.rg (Reg.CKP_JOB_CURSOR.PAGE j) = s.chip.rg (Reg.CKP_JOB_CURSOR.PAGE j) + 1))) ∧
      ((s.chip.pte n).cow = false → (s.chip.pte n).dirty = true ∨ r.full = true →
        (r.freeSlot x.capPages = none ∨ r.credit < 64 → Completes (.walkerVisit j) s (fun d => d = s.chip)) ∧
        (∀ k, r.freeSlot x.capPages = some k → 64 ≤ r.credit → Completes (.walkerVisit j) s (fun d => (d.pte n).dirty = false ∧ (d.pte n).cow = false ∧
          d = ((((s.chip.charge x.plan (s.chip.captureUse (g.addr + s.chip.rg (Reg.CKP_JOB_CURSOR.PAGE j) * 0x10000))).ckpCopy j x { r with credit := r.credit - 64 } n k
            (g.logical + s.chip.rg (Reg.CKP_JOB_CURSOR.PAGE j))).setPte n { s.chip.pte n with dirty := false, cow := false }).cursorNext j x) ∧
          ∃ y q, ckpRuns d j y q ∧ q.caps.length = r.caps.length + 1))))) ∧
  (∀ (s : State) (j : Fin 64) (x : CkpJob) (r : CkpRun), ckpRuns s.chip j x r →
    (r.asking = true ∨ s.chip.running .ckp = false ∨ s.chip.spent x.plan = true ∨
      ((r.caps.filter (fun c => c.batch.isNone)).length < x.batch ∧ (r.walked = false ∨ r.caps.filter (fun c => c.batch.isNone) = [])) →
      Completes (.batchHashed j) s (fun d => d = s.chip)) ∧
    (r.asking = false → s.chip.running .ckp = true → s.chip.spent x.plan = false →
      x.batch ≤ (r.caps.filter (fun c => c.batch.isNone)).length ∨ (r.walked = true ∧ r.caps.filter (fun c => c.batch.isNone) ≠ []) → Completes (.batchHashed j) s (fun d =>
      ∃ y q, ckpRuns d j y q ∧ q.batches = r.batches ++ [({} : CkpBatch)] ∧ q.caps.length = r.caps.length ∧ d.mem = s.chip.mem)) ∧
    (∀ c : CkpCap, r.asking = false → s.chip.running .ckp = true → s.chip.spent x.plan = false → r.walked = true → r.caps = [c] → c.batch = none →
      (c.poison = false → s.chip.anyPoison (capAddr x (c.slot.getD 0)) 0x10000 = false → Completes (.batchHashed j) s (fun d =>
        d = s.chip.setCkpRun j { r with
          caps := [{ c with batch := some r.batches.length, hash := sha256 (s.chip.bytes (capAddr x (c.slot.getD 0)) 0x10000) }], batches := r.batches ++ [{}] })) ∧
      (c.poison = true ∨ s.chip.anyPoison (capAddr x (c.slot.getD 0)) 0x10000 = true → Completes (.batchHashed j) s (fun d =>
        d = (s.chip.fault Src.CKP_CAP_POISON j).setCkpRun j { r with
          caps := [{ c with batch := some r.batches.length, poison := true, hash := [] }], batches := r.batches ++ [{}], poison := true })))) ∧
  (∀ (s : State) (j : Fin 64) (x : CkpJob) (r : CkpRun) (w : List Nat), ckpRuns s.chip j x r →
    (r.asking = true ∨ (∀ b ∈ r.batches, b.answered = true) → Completes (.hashExchangeRound j w) s (fun d => d = s.chip)) ∧
    (∀ k ls own, r.asking = false → r.batches.findIdx? (fun b => !b.answered) = some k →
      ls = (r.caps.filter (fun c => c.batch = some k && !c.poison)).map (fun c => c.logical) →
      own = ls.filter (fun l => w.getD (ls.findIdx (· = l)) x.rank = x.rank) → Completes (.hashExchangeRound j w) s (fun d =>
      d = (((s.chip.setCkpRun j { r with
        caps := r.caps.map (fun c => if ls.contains c.logical ∧ c.batch = some k then { c with writer := some (w.getD (ls.findIdx (· = c.logical)) x.rank) } else c)
        batches := (List.range r.batches.length).zip r.batches |>.map (fun b => if b.1 = k then { b.2 with answered := true } else b.2) }).sr
        (Reg.CKP_JOB_STATE.PHASE j) 2).count (Reg.CKP_COUNT.COUNT 5) (ls.length - own.length)).ckpWrites j))) ∧
  (∀ (s : State) (j : Fin 64) (x : CkpJob) (r : CkpRun) (b : CkpBatch) (c : CkpCap) (w : Nat), ckpRuns s.chip j x r → r.asking = false → r.batches = [b] → r.caps = [c] →
    c.batch = some 0 →
    (b.answered = true → Completes (.hashExchangeRound j [w]) s (fun d => d = s.chip)) ∧
    (b.answered = false → c.poison = false → w ≠ x.rank → Completes (.hashExchangeRound j [w]) s (fun d => d.rg (Reg.CKP_JOB_STATE.PHASE j) = 2 ∧
      d.ckp.store = s.chip.ckp.store ∧ ∃ y q, ckpRuns d j y q ∧ q.caps = [{ c with writer := some w }] ∧ q.batches = [{ b with answered := true }])) ∧
    (∀ k n pl, k ≠ 0 ∨ b.answered = false → Completes (.writerConfirm j k n pl true) s (fun d => d = s.chip)) ∧
    (∀ n pl, x.rank = n → c.writer = some n → c.place = none → c.slot.isSome = true → c.poison = false → Completes (.writerConfirm j 0 n pl true) s (fun d => d = s.chip)) ∧
    (∀ n pl, b.answered = true → b.done = false → c.writer = some n → x.rank ≠ n ∨ c.place.isSome = true ∨ c.slot = none ∨ c.poison = true →
      Completes (.writerConfirm j 0 n pl true) s (fun d =>
      d.rg (Reg.CKP_JOB_STATE.BATCHES j) = (s.chip.rg (Reg.CKP_JOB_STATE.BATCHES j) + 1) % 2 ^ 32 ∧
      ∃ y q, ckpRuns d j y q ∧ (∀ e ∈ q.caps, e.slot = none) ∧ (∀ e ∈ q.batches, e.done = true)))) ∧
  (∀ (s : State) (j : Fin 64) (x : CkpJob) (r : CkpRun) (k n : Nat) (b : CkpBatch) (pl : List (Nat × Nat × Nat)) (u : CkpRun × Bool), ckpRuns s.chip j x r →
    r.batches[k]? = some b → b.answered = true → x.rank ≠ n ∨ (∀ c ∈ r.caps, c.batch = some k → (r.toWrite n).contains c.logical = false) →
    u = CkpRun.settle { r with
      caps := r.caps.map (fun c => if c.batch = some k ∧ c.writer = some n ∧ c.place.isNone then
        { c with place := (pl.find? (fun p => p.1 = c.logical)).map (fun p => p.2) } else c),
      batches := (List.range r.batches.length).zip r.batches |>.map (fun y => if y.1 = k then
        { y.2 with confirmed := if y.2.confirmed.contains n then y.2.confirmed else y.2.confirmed ++ [n] } else y.2) } k →
    Completes (.writerConfirm j k n pl true) s (fun d =>
      d = if u.2 then (s.chip.setCkpRun j u.1).mr (Reg.CKP_JOB_STATE.BATCHES j) (· + 1) else s.chip.setCkpRun j u.1)) ∧
  (∀ (s : State) (j : Fin 64) (x : CkpJob) (r : CkpRun), ckpRuns s.chip j x r →
    (∀ k n pl, Completes (.writerConfirm j k n pl false) s (fun d => d = (s.chip.fault Src.CKP_STORE_ERROR j).ckpAbandon j 4)) ∧
    (∀ wr cv, r.lost.contains 0 = false → x.rank ≠ 0 → 0 < x.nodes → Completes (.nodeLost j 0 (wr, cv)) s (fun d => d = (s.chip.fault Src.CKP_NODE_LOST 0).ckpAbandon j 1)) ∧
    (∀ n wr, r.lost.contains n = false → n ≠ 0 → x.rank = 0 → n < x.nodes → Completes (.nodeLost j n (wr, false)) s (fun d =>
      d = ((s.chip.fault Src.CKP_NODE_LOST n).setCkpRun j { r with lost := r.lost ++ [n] }).ckpAbandon j 2)) ∧
    (∀ sg, x.rank = 0 → r.segment.isSome = true → r.root = none → r.asking = false → s.chip.running .ckp = true → s.chip.spent x.plan = false →
      Completes (.rootWrite j sg false) s (fun d => d = s.chip.ckpAbandon j 2))) ∧
  (∀ (s : State) (j : Fin 64) (x : CkpJob) (r : CkpRun), ckpRuns s.chip j x r → ckpOpen s.chip j r →
    (∀ k n pl, Completes (.writerConfirm j k n pl false) s (fun d => ckpAbandoned d r.seq 4)) ∧
    (∀ wr cv, r.lost.contains 0 = false → x.rank ≠ 0 → 0 < x.nodes → Completes (.nodeLost j 0 (wr, cv)) s (fun d => ckpAbandoned d r.seq 1)) ∧
    (∀ n wr, r.lost.contains n = false → n ≠ 0 → x.rank = 0 → n < x.nodes → Completes (.nodeLost j n (wr, false)) s (fun d => ckpAbandoned d r.seq 2)) ∧
    (∀ sg, x.rank = 0 → r.segment.isSome = true → r.root = none → r.asking = false → s.chip.running .ckp = true → s.chip.spent x.plan = false →
      Completes (.rootWrite j sg false) s (fun d => ckpAbandoned d r.seq 2) ∧
      Completes (.rootWrite j sg true) s (fun d => ckpAbandoned d r.seq 4 ∨ (d.rg (Reg.CKP_JOB_STATE.PHASE j) = 4 ∧ ∃ y q, ckpRuns d j y q ∧ q.root.isSome = true)))) ∧
  (∀ (s : State) (j : Fin 64) (x : CkpJob) (r : CkpRun) (n : Nat), ckpRuns s.chip j x r →
    (r.lost.contains n = true ∨ n = x.rank ∨ x.nodes ≤ n → ∀ wr cv, Completes (.nodeLost j n (wr, cv)) s (fun d => d = s.chip)) ∧
    (r.lost.contains n = false → n ≠ x.rank → n < x.nodes → n ≠ 0 → r.caps = [] → ∀ wr cv, x.rank ≠ 0 ∨ cv = true → Completes (.nodeLost j n (wr, cv)) s (fun d =>
      ∃ y q, ckpRuns d j y q ∧ q = { r with lost := r.lost ++ [n] } ∧ d.led = s.chip.led)) ∧
    (∀ c b wr cv w, r.lost.contains n = false → n ≠ x.rank → n < x.nodes → n ≠ 0 → x.rank ≠ 0 ∨ cv = true → r.caps = [c] → c.writer = some n → c.slot.isSome = true →
      c.batch = some 0 → r.batches = [b] → b.confirmed.contains n = false → w = ((wr.find? (fun (p : Nat × Nat) => p.1 = c.logical)).map (fun p => p.2)).getD x.rank →
      Completes (.nodeLost j n (wr, cv)) s (fun d => d = (((s.chip.fault Src.CKP_NODE_LOST n).setCkpRun j { r with
        caps := [{ c with writer := some w }], lost := r.lost ++ [n] }).count (Reg.CKP_COUNT.COUNT 8) (if w = x.rank then 1 else 0)).ckpWrites j)) ∧
    (r.asking = true ∨ r.walked = false ∨ (∃ c ∈ r.caps, c.batch = none) ∨ (∃ b ∈ r.batches, b.done = false) ∨ r.segment.isSome = true ∨
      s.chip.running .ckp = false ∨ s.chip.spent x.plan = true →
      Completes (.segmentWrite j) s (fun d => d = s.chip)) ∧
    (∀ bs caps, r.asking = false → r.allConfirmed = true → r.segment = none → s.chip.running .ckp = true → s.chip.spent x.plan = false →
      caps = r.caps.foldr insertCap [] → bs = caps.flatMap (segEntry r.step) →
      (s.chip.storePut j x (if bs.isEmpty then List.replicate 4096 0 else bs) = none → Completes (.segmentWrite j) s (fun d => d = s.chip.ckpAbandon j 4)) ∧
      (∀ e lba, s.chip.storePut j x (if bs.isEmpty then List.replicate 4096 0 else bs) = some (e, lba) → Completes (.segmentWrite j) s (fun d =>
        d = (e.setCkpRun j { r with segment := some (lba, caps.length, max 1 (ceilDiv bs.length 4096), sha256 bs) }).sr (Reg.CKP_JOB_STATE.PHASE j) 3))) ∧
    (∀ e lba, r.asking = false → r.walked = true → r.caps = [] → (∀ b ∈ r.batches, b.done = true) → r.segment = none → s.chip.running .ckp = true →
      s.chip.spent x.plan = false → s.chip.storePut j x (List.replicate 4096 0) = some (e, lba) → Completes (.segmentWrite j) s (fun d => d.rg (Reg.CKP_JOB_STATE.PHASE j) = 3 ∧
        d.ckp.store = s.chip.ckp.store ++ [(x.ns, lba, List.replicate 4096 0)] ∧ ∃ y q, ckpRuns d j y q ∧ q.segment.isSome = true)) ∧
    (∀ sg ok, x.rank ≠ 0 ∨ r.segment = none ∨ r.root.isSome = true ∨ r.asking = true ∨ s.chip.running .ckp = false ∨ s.chip.spent x.plan = true →
      Completes (.rootWrite j sg ok) s (fun d => d = s.chip)) ∧
    (∀ sg own, x.rank = 0 → r.segment = some own → r.root = none → r.asking = false → s.chip.running .ckp = true → s.chip.spent x.plan = false →
      (s.chip.derive 0 (ckpLabel 2 x r.step none) = none → Completes (.rootWrite j sg true) s (fun d => d = s.chip.ckpAbandon j 4)) ∧
      (∀ key w, s.chip.derive 0 (ckpLabel 2 x r.step none) = some key →
        w = rootImage x r own (sg.map (fun g => (g.1, g.2.1, g.2.2.1, g.2.2.2.1, g.2.2.2.2.map BitVec.toNat))) key →
        (s.chip.storePut j x w = none → Completes (.rootWrite j sg true) s (fun d => d = s.chip.ckpAbandon j 4)) ∧
        (∀ e lba, s.chip.storePut j x w = some (e, lba) → Completes (.rootWrite j sg true) s (fun d =>
          d = (e.setCkpRun j { r with root := some (lba, w.length / 4096, sha256 w) }).sr (Reg.CKP_JOB_STATE.PHASE j) 4)))) ∧
    (r.root = none ∨ s.chip.running .ckp = false ∨ s.chip.spent x.plan = true ∨ s.chip.ckpOpenEnd r = false → Completes (.commitRecordWrite j n) s (fun d => d = s.chip)) ∧
    (∀ root, r.root = some root → s.chip.running .ckp = true → s.chip.spent x.plan = false → s.chip.ckpOpenEnd r = true →
      (s.chip.derive 0 (ckpLabel 2 x r.step none) = none → Completes (.commitRecordWrite j n) s (fun d => d = s.chip.ckpAbandon j 4)) ∧
      (∀ key, s.chip.derive 0 (ckpLabel 2 x r.step none) = some key → Completes (.commitRecordWrite j n) s (fun d =>
        d = ((s.chip.ck (fun u => { u with store := u.store ++ [(x.ns, x.commitLba + (x.number + 1) % 2, commitBlock x r root key)] })).charge x.plan
          (s.chip.storeUse x 4096)).ckpCommit j x r n))) ∧
    (x.rank = 0 ∨ (r.segment = none ∧ r.asking = false) ∨ s.chip.ckpOpenEnd r = false → Completes (.committedMessage j n) s (fun d => d = s.chip)) ∧
    (x.rank ≠ 0 → r.segment.isSome = true ∨ r.asking = true → s.chip.ckpOpenEnd r = true → Completes (.committedMessage j n) s (fun d => d = s.chip.ckpCommit j x r n)) ∧
    (∀ i : Item, s.chip.led.items = [i] → i.seq = r.seq → i.kind = .checkpoint j.val → i.state.ended = false → i.fin = none → i.crec = .none → s.chip.commits = true →
      (∀ root key, s.chip.running .ckp = true → s.chip.spent x.plan = false → r.root = some root → s.chip.derive 0 (ckpLabel 2 x r.step none) = some key →
        Completes (.commitRecordWrite j n) s (fun d =>
        d.ckp.store = s.chip.ckp.store ++ [(x.ns, x.commitLba + (x.number + 1) % 2, commitBlock x r root key)] ∧
        d.rg (Reg.CKP_JOB_STATE.STATE j) = 1 ∧ d.rg (Reg.CKP_JOB_LAST.STEP j) = r.step % 2 ^ 64 ∧ ∃ k, d.led.items = [k] ∧ k.state = .committed)) ∧
      (x.rank ≠ 0 → r.segment.isSome = true → Completes (.committedMessage j n) s (fun d =>
        d.rg (Reg.CKP_JOB_STATE.STATE j) = 1 ∧ d.rg (Reg.CKP_JOB_LAST.STEP j) = r.step % 2 ^ 64 ∧ ∃ k, d.led.items = [k] ∧ k.state = .committed))))

/-- An SPDM request on transport t reaches the responder at a stage of its connection (R590, R614). -/
def spdmUp (d : Chip) (t stage : Nat) : Prop := (t = 2 → d.sec.relayed ≠ 0) ∧ d.running .sec = true ∧ stage ≤ (d.spdmConn t).stage

/-- Every SPDM request of a transport, with the stage its connection must have reached. -/
def spdmMenu (t : Fin 3) (n o z : Nat) (b : Bool) (m : List (BitVec 8)) (stage : Nat) (c : Instr) : Prop :=
  (stage, c) ∈ [(0, Instr.getVersion t), (1, .getCapabilities t), (2, .negotiateAlgorithms t b), (3, .getDigests t n), (3, .getCertificate t z o n), (3, .challenge t m),
    (3, .getMeasurements t n b m), (3, .keyExchange t m), (3, .finish t n b), (3, .heartbeat t n), (3, .keyUpdate t n), (3, .endSession t n), (2, .chunkSend t b m),
    (2, .chunkGet t o n), (3, .companionSign t), (3, .companionCert t o n)]

/-- A session of a connection. -/
def spdmSession (d : Chip) (t id : Nat) (x : SpdmSession) : Prop := (d.spdmConn t).sessions.find? (fun y => y.id = id) = some x

/-- R590 to R592, R609, R611, R613 and R614. -/
def Obligations.Attestation : Prop :=
  (∀ (s : State) (t : Fin 3) (n o z : Nat) (b : Bool) (m : List (BitVec 8)), ∀ (k : Nat) (c : Instr), spdmMenu t n o z b m k c →
    (t = 2 → s.chip.sec.relayed = 0 → Completes c s (fun d => d = s.chip)) ∧
    ((t = 2 → s.chip.sec.relayed ≠ 0) → Completes c s (fun d => d.led = s.chip.led ∧ d.mem = s.chip.mem ∧ d.sec.slots = s.chip.sec.slots ∧
      d.sec.relayed = s.chip.sec.relayed - (if t = 2 then 1 else 0) ∧
      (s.chip.running .sec = false → (d.spdmConn t).response = [0x7F, 0x03]) ∧
      (s.chip.running .sec = true → (s.chip.spdmConn t).stage < k → (d.spdmConn t).response = [0x7F, 0x04] ∧ (d.spdmConn t).stage = (s.chip.spdmConn t).stage ∧
        (d.spdmConn t).sessions = (s.chip.spdmConn t).sessions)))) ∧
  (∀ (s : State) (t : Fin 3), spdmUp s.chip t 0 → Completes (.getVersion t) s (fun d => (d.spdmConn t).stage = 1 ∧ (d.spdmConn t).response = [0x04, 0x13] ∧
    (d.spdmConn t).sessions = [])) ∧
  (∀ (s : State) (t : Fin 3), spdmUp s.chip t 1 → Completes (.getCapabilities t) s (fun d => (d.spdmConn t).stage = max (s.chip.spdmConn t).stage 2 ∧
    (d.spdmConn t).response = [0x61])) ∧
  (∀ (s : State) (t : Fin 3) (o n : Nat) (b : Bool) (m : List (BitVec 8)), spdmUp s.chip t 2 →
    Completes (.negotiateAlgorithms t b) s (fun d => (b = true → (d.spdmConn t).stage = 3 ∧ (d.spdmConn t).response = [0x63]) ∧
      (b = false → (d.spdmConn t).stage = (s.chip.spdmConn t).stage ∧ (d.spdmConn t).response = [0x7F, 0x01])) ∧
    Completes (.chunkSend t b m) s (fun d => (d.spdmConn t).response = [0x05] ∧
      (d.spdmConn t).chunks = if b then [] else (s.chip.spdmConn t).chunks ++ m.map BitVec.toNat) ∧
    Completes (.chunkGet t o n) s (fun d => (d.spdmConn t).response = 0x06 :: ((s.chip.spdmConn t).big.drop o).take n)) ∧
  (∀ (s : State) (t : Fin 3) (o n z : Nat) (m : List (BitVec 8)), spdmUp s.chip t 3 →
    Completes (.getDigests t n) s (fun d => (d.spdmConn t).response = 0x01 :: sha384 (certPart 0 0 n)) ∧
    Completes (.getCertificate t z o n) s (fun d => (d.spdmConn t).response = if z = 0 then 0x02 :: certPart 0 o n else [0x7F, 0x01]) ∧
    Completes (.companionCert t o n) s (fun d => (d.spdmConn t).response = 0x7E :: certPart 1 o n) ∧
    (∀ b, n = 0 ∨ (7 < n ∧ n ≠ 0xFF) → Completes (.getMeasurements t n b m) s (fun d => (d.spdmConn t).response = [0x7F, 0x01])) ∧
    (∀ bs, n = 0xFF ∧ bs = (List.range 7).flatMap (fun i => s.chip.measurement (i + 1)) ∨ 1 ≤ n ∧ n ≤ 7 ∧ bs = s.chip.measurement n →
      Completes (.getMeasurements t n false m) s (fun d => (d.spdmConn t).response = 0x60 :: bs ∧ (d.spdmConn t).signed = none) ∧
      (s.chip.sec.cleared = true → Completes (.getMeasurements t n true m) s (fun d => (d.spdmConn t).response = [0x7F, 0x05] ∧ (d.spdmConn t).signed = none)) ∧
      (s.chip.sec.cleared = false → Completes (.getMeasurements t n true m) s (fun d => ∃ g, (d.spdmConn t).signed = some g ∧
        (d.spdmConn t).response = 0x60 :: (bs ++ m.map BitVec.toNat ++ d.sign 0 64 g)))) ∧
    (1 ≤ n → n ≤ 7 → Completes (.getMeasurements t n false m) s (fun d => (d.spdmConn t).response = 0x60 :: n :: sha384 (d.measured n))) ∧
    (s.chip.sec.cleared = true → ∀ c ∈ [Instr.challenge t m, .getMeasurements t 1 true m, .keyExchange t m, .companionSign t], Completes c s (fun d =>
      (d.spdmConn t).signed = none ∧ ∃ e, (d.spdmConn t).response = [0x7F, e])) ∧
    (s.chip.sec.cleared = false →
      Completes (.challenge t m) s (fun d => ∃ g, (d.spdmConn t).signed = some g ∧ (d.spdmConn t).response = 0x03 :: (m.map BitVec.toNat ++ d.sign 0 64 g)) ∧
      Completes (.getMeasurements t 1 true m) s (fun d => ∃ g, (d.spdmConn t).signed = some g ∧
        (d.spdmConn t).response = 0x60 :: (d.measurement 1 ++ m.map BitVec.toNat ++ d.sign 0 64 g)) ∧
      ((s.chip.spdmConn t).signed = none → Completes (.companionSign t) s (fun d => (d.spdmConn t).response = [0x7F, 0x04])) ∧
      (∀ g, (s.chip.spdmConn t).signed = some g → Completes (.companionSign t) s (fun d => (d.spdmConn t).response = 0x7E :: d.sign 1 3309 g ∧ (d.spdmConn t).signed = none)) ∧
      (s.chip.sec.drbgStopped = true → Completes (.keyExchange t m) s (fun d => (d.spdmConn t).response = [0x7F, 0x05] ∧
        (d.spdmConn t).sessions = (s.chip.spdmConn t).sessions)) ∧
      (s.chip.sec.drbgStopped = false → 4 ≤ (s.chip.spdmConn t).sessions.length → Completes (.keyExchange t m) s (fun d => (d.spdmConn t).response = [0x7F, 0x0A] ∧
        (d.spdmConn t).sessions = (s.chip.spdmConn t).sessions)) ∧
      (s.chip.sec.drbgStopped = false → (s.chip.spdmConn t).sessions.length < 4 → Completes (.keyExchange t m) s (fun d =>
        (∃ k, (d.spdmConn t).sessions = (s.chip.spdmConn t).sessions ++ [⟨k, false, 0⟩]) ∧ (d.spdmConn t).signed.isSome = true)))) ∧
  (∀ (s : State) (t : Fin 3) (id : Nat), spdmUp s.chip t 3 →
    ((∀ x ∈ (s.chip.spdmConn t).sessions, x.id ≠ id) → ∀ b, ∀ c ∈ [Instr.finish t id b, .heartbeat t id, .keyUpdate t id, .endSession t id],
      Completes c s (fun d => (d.spdmConn t).response = [0x7F, 0x02] ∧ (d.spdmConn t).sessions = (s.chip.spdmConn t).sessions)) ∧
    (∀ x, spdmSession s.chip t id x →
      Completes (.finish t id true) s (fun d => (d.spdmConn t).response = [0x65] ∧ spdmSession d t id { x with established := true }) ∧
      Completes (.finish t id false) s (fun d => (d.spdmConn t).response = [0x7F, 0x01] ∧ ∀ y ∈ (d.spdmConn t).sessions, y.id ≠ id) ∧
      Completes (.endSession t id) s (fun d => (d.spdmConn t).response = [0x6C] ∧ ∀ y ∈ (d.spdmConn t).sessions, y.id ≠ id) ∧
      (x.established = true → Completes (.heartbeat t id) s (fun d => (d.spdmConn t).response = [0x68]) ∧
        Completes (.keyUpdate t id) s (fun d => (d.spdmConn t).response = [0x69] ∧ spdmSession d t id { x with gen := x.gen + 1 })) ∧
      (x.established = false → ∀ c ∈ [Instr.heartbeat t id, .keyUpdate t id], Completes c s (fun d => (d.spdmConn t).response = [0x7F, 0x04] ∧
        (d.spdmConn t).sessions = (s.chip.spdmConn t).sessions)))) ∧
  (∀ (s : State) (f : Fin 2) (id st se : Nat) (key : List (BitVec 8)), spdmUp s.chip f.val 3 →
    ((∀ x, spdmSession s.chip f.val id x → x.established = false) → ∀ c ∈ [Instr.keyProg f id st se key, .kSetGo f id st se, .kSetStop f id st se],
      Completes c s (fun d => d.sec.ide = s.chip.sec.ide ∧ ∃ e, (d.spdmConn f.val).response = [0x7F, e])) ∧
    (∀ x, spdmSession s.chip f.val id x → x.established = true →
      (4 < st ∨ key.length ≠ 32 → Completes (.keyProg f id st se key) s (fun d => d.sec.ide = s.chip.sec.ide ∧ (d.spdmConn f.val).response = [0x7F, 0x01])) ∧
      (st ≤ 4 → key.length = 32 → Completes (.keyProg f id st se key) s (fun d => (d.spdmConn f.val).response = [0x7E, 2] ∧
        ∃ k, d.sec.ide.filter (fun y => y.port = f.val && y.stream = st && y.set = se) = [k] ∧ k.key = key.map BitVec.toNat ∧ k.active = false)) ∧
      ((∀ y ∈ s.chip.sec.ide, ¬ (y.port = f.val ∧ y.stream = st ∧ y.set = se)) → ∀ c ∈ [Instr.kSetGo f id st se, .kSetStop f id st se],
        Completes c s (fun d => d.sec.ide = s.chip.sec.ide ∧ (d.spdmConn f.val).response = [0x7F, 0x01])) ∧
      ((∃ y ∈ s.chip.sec.ide, y.port = f.val ∧ y.stream = st ∧ y.set = se) →
        Completes (.kSetGo f id st se) s (fun d => (d.spdmConn f.val).response = [0x7E, 5] ∧ ∀ y ∈ d.sec.ide, y.port = f.val → y.stream = st → y.active = decide (y.set = se)) ∧
        Completes (.kSetStop f id st se) s (fun d => (d.spdmConn f.val).response = [0x7E, 5] ∧
          ∀ y ∈ d.sec.ide, y.port = f.val → y.stream = st → y.set = se → y.active = false))))

/-- R588, R590, R594, R595, R597, R600, R604, R605, R607 and R610 to R614. -/
def Obligations.KeysAndCipher : Prop :=
  (∀ (s : State) (src : Submit) (a : Nat), TakenUp s.chip src .sec false 0 →
    let r := s.chip.bytes a 128
    let k := leNat (r.take 2)
    let w := leNat ((r.drop 12).take 2)
    (RecordBad s.chip a 128 ∨ (RecordClean s.chip a 128 ∧ (slotRecordBad r = true ∨ (s.chip.kslot k).isSome = true ∨ (r.getD 2 0 = 1 ∧ s.chip.loadedFor w 4 = false))) →
      Completes (.keyLoad src a) s (fun d => NotAccepted s.chip d [.sec, .mem])) ∧
    (RecordClean s.chip a 128 → slotRecordBad r = false → s.chip.kslot k = none → (r.getD 2 0 = 1 → s.chip.loadedFor w 4 = true) →
      Completes (.keyLoad src a) s (fun d => Accepted s.chip d src (.general 0x0D01) (s.chip.originDomain src.origin) ∧
        (∀ e, e = (s.chip.dropHand src.origin).acceptCmd src (.general 0x0D01) (genBody 0x0D01 src [a]) (s.chip.originDomain src.origin) 0x58 →
          d = if (s.chip.recordKey r).isSome then e.finishWith s.chip.led.nextSeq (loadKey a)
            else (e.withdraw s.chip.led.nextSeq Code.AUTH_FAIL).count (Reg.SEC_COUNT.COUNT 4)) ∧
        (∀ key, s.chip.recordKey r = some key → s.chip.led.items = [] → s.chip.commits = true → d.kslot k =
          some { uses := r.getD 3 0, func := r.getD 4 0, cores := leNat ((r.drop 6).take 2), fixed := leNat ((r.drop 8).take 4), key := key, counter := 0 }) ∧
        (s.chip.recordKey r = none → s.chip.led.items = [] → s.chip.led.lost = false → d.kslot k = none ∧
          ∃ i, d.led.items = [i] ∧ i.state = .withdrawn ∧ i.reply.code = Code.AUTH_FAIL)))) ∧
  (∀ (s : State) (src : Submit) (k : Fin 65536), TakenUp s.chip src .sec false 0 →
    (s.chip.slotBusy k = true → Completes (.keyZero src k) s (fun d => NotAccepted s.chip d [.sec, .mem])) ∧
    (s.chip.slotBusy k = false → Completes (.keyZero src k) s (fun d => Accepted s.chip d src (.general 0x0D02) (s.chip.originDomain src.origin) ∧
      d = ((s.chip.dropHand src.origin).acceptCmd src (.general 0x0D02) (genBody 0x0D02 src [k]) (s.chip.originDomain src.origin) 0x58).finishWith
        s.chip.led.nextSeq (zeroKey k) ∧
      (s.chip.led.items = [] → s.chip.commits = true → d.kslot k = none)))) ∧
  (∀ (s : State) (src : Submit) (x : Desc),
    (x.bOp = 2 ∨ x.bOp = 3 → Completes (.encrypt src x) s (fun d => d = s.chip)) ∧ (x.bOp ≠ 2 → Completes (.decrypt src x) s (fun d => d = s.chip)) ∧
    (x.bOp ≠ 3 → Completes (.kmac src x) s (fun d => d = s.chip))) ∧
  (∀ (s : State) (src : Submit) (x : Desc) (c : Instr), TakenUp s.chip src .sec true 0 → s.chip.ownDesc src.origin x true = true →
    (x.bOp ≠ 2 ∧ x.bOp ≠ 3 ∧ c = .encrypt src x) ∨ (x.bOp = 2 ∧ c = .decrypt src x) ∨ (x.bOp = 3 ∧ c = .kmac src x) →
    (s.chip.bulkCheck (s.chip.originFn src.origin) src.origin x ≠ none → Completes c s (fun d => NotAccepted s.chip d [.sec, .mem])) ∧
    (s.chip.bulkCheck (s.chip.originFn src.origin) src.origin x = none → Completes c s (fun d =>
      Accepted s.chip d ⟨src.origin, BitVec.ofNat 32 (wf x.w0 32 32)⟩ (.general 0x0D03) (s.chip.originDomain src.origin) ∧
      (∀ e k u, e = s.chip.dropHand src.origin → k = e.bulkKey src.origin x → u = e.bulkCounter x k →
        d = (u.2.acceptCmd { src with tag := BitVec.ofNat 32 (wf x.w0 32 32) } (.general 0x0D03) (bulkBody x u.1) (u.2.originDomain src.origin) 0x58).bulkStart
          s.chip.led.nextSeq) ∧
      (s.chip.led.items = [] → s.chip.flag Reg.FLT_SAFE.SAFE = false → s.chip.hub.inReset = false → ∃ i, d.led.items = [i] ∧ i.owner = 0x58 ∧
        ((i.state = .accepted ∧ s.chip.hostPaused i = true) ∨ (i.state = .running ∧ (i.crec = .issued ∨ i.fin.isSome = true)) ∨
        (x.bOp = 2 ∧ i.state = .withdrawn ∧ i.reply.code = Code.AUTH_FAIL) ∨ d.led.lost = true)) ∧
      (∀ n y, x.bOp = 1 → s.chip.bulkKey src.origin x = .slot n → s.chip.kslot n = some y → y.counter + 1 < 2 ^ 48 - 1 →
        d.kslot n = some { y with counter := y.counter + 1 }) ∧
      (x.bOp ≠ 1 → d.sec = s.chip.sec)))) ∧
  (∀ (s : State) (v : BitVec 12) (p : Fin 12), Completes (.secPortPhase v) s (fun d => bitsOf (d.rg Reg.SEC_PORT_PHASE.TX) p 1 =
    (if s.chip.loadedFor (s.chip.rg (txSlotFld p (bitsOf v.toNat p 1))) 0 then bitsOf v.toNat p 1 else bitsOf (s.chip.rg Reg.SEC_PORT_PHASE.TX) p 1) ∧
    d.sec = s.chip.sec ∧ d.led = s.chip.led)) ∧
  (∀ (s : State) (p : Fin 12) (v : Word) (f : Fin 2), Completes (.secPortKey p v) s (fun d =>
    d.rg (txSlotFld p f) = (if s.chip.loadedFor (bitsOf v.toNat (16 * f.val) 16) 0 ∧ bitsOf v.toNat (16 * f.val) 16 ≠ s.chip.rg (txSlotFld p (s.chip.txPhase p)) then
      bitsOf v.toNat (16 * f.val) 16 else s.chip.rg (txSlotFld p f)) ∧
    d.rg (rxSlotFld p f) = bitsOf v.toNat (32 + 16 * f.val) 16 ∧
    tget d.sec.rxCounter (2 * p.val + f.val) = (if s.chip.rg (rxSlotFld p f) = bitsOf v.toNat (32 + 16 * f.val) 16 then tget s.chip.sec.rxCounter (2 * p.val + f.val) else none) ∧
    d.sec.slots = s.chip.sec.slots ∧ d.led = s.chip.led)) ∧
  (∀ s : State, Completes .secZeroise s (fun d => d = s.chip.zeroise) ∧ Completes .zeroiseAll s (fun d => d = s.chip.zeroise.answered (.block .sec) true) ∧
    Completes .secCoreWdog s (fun d => d = ({ s.chip with sec := { s.chip.sec with spdm := [] } } : Chip).fault Src.SEC_CORE_WDOG) ∧
    Completes .entropyHealthFail s (fun d =>
      d = (({ s.chip with sec := { s.chip.sec with drbgStopped := true } } : Chip).sr Reg.SEC_STATE.ENTROPY_OK 0).fault Src.SEC_ENTROPY)) ∧
  (∀ (s : State) (c : Instr), c ∈ [Instr.secZeroise, .zeroiseAll] → Completes c s (fun d => d.sec.slots = [] ∧ d.sec.cleared = true ∧
    d.rg Reg.SEC_STATE.ZEROISED = 1 ∧ (∀ x ∈ d.sec.spdm, x.2.sessions = [] ∧ x.2.signed = none) ∧ d.led.nextSeq = s.chip.led.nextSeq)) ∧
  (∀ s : State, Completes .zeroiseAll s (fun d => Answered d true) ∧
    (s.chip.sec.drbgStopped = true → Completes .drbgReseed s (fun d => Answered d true ∧ Frame [.answer] s.chip d)) ∧
    (s.chip.sec.drbgStopped = false → Completes .drbgReseed s (fun d => Answered d true ∧ d.sec = { s.chip.sec with drbgUsed := 0 } ∧ d.led = s.chip.led)) ∧
    Completes .entropyHealthFail s (fun d => d.sec = { s.chip.sec with drbgStopped := true } ∧ d.rg Reg.SEC_STATE.ENTROPY_OK = 0 ∧ d.led = s.chip.led ∧ d.mem = s.chip.mem) ∧
    Completes .entropyHealthPass s (fun d => d.sec = { s.chip.sec with drbgStopped := false } ∧ d.rg Reg.SEC_STATE.ENTROPY_OK = 1 ∧ Frame [.sec, .regs] s.chip d) ∧
    Completes .secCoreWdog s (fun d => d.sec = { s.chip.sec with spdm := [] } ∧ d.led = s.chip.led ∧ d.mem = s.chip.mem) ∧
    (∀ n, Completes (.mctpMessage n) s (fun d => d.sec = { s.chip.sec with relayed := s.chip.sec.relayed + (if n = 5 ∨ n = 6 then 1 else 0) } ∧ Frame [.sec] s.chip d))) ∧
  (∀ (s : State) (k : Fin 4) (pub ed ml : List (BitVec 8)) (p : List Nat), p = pub.map BitVec.toNat →
    (s.chip.sec.drbgStopped = true → Completes (.debugUnlockToken k pub (ed, ml)) s (fun d => d = s.chip)) ∧
    (s.chip.sec.drbgStopped = false →
      (bitOf (s.chip.rg Reg.SEC_STATE.REVOKED) k = true ∨ sha384 p ≠ otpRecord k ∨ Config.verifies (leNat (p.take 32)) s.chip.unlockMessage (ed.map BitVec.toNat) = false ∨
        Config.verifies (leNat (p.drop 32)) s.chip.unlockMessage (ml.map BitVec.toNat) = false →
        Completes (.debugUnlockToken k pub (ed, ml)) s (fun d => d = (s.chip.random 32).2)) ∧
      (bitOf (s.chip.rg Reg.SEC_STATE.REVOKED) k = false → sha384 p = otpRecord k → Config.verifies (leNat (p.take 32)) s.chip.unlockMessage (ed.map BitVec.toNat) = true →
        Config.verifies (leNat (p.drop 32)) s.chip.unlockMessage (ml.map BitVec.toNat) = true → Completes (.debugUnlockToken k pub (ed, ml)) s (fun d =>
        d = (s.chip.random 32).2.zeroise.sr Reg.SEC_STATE.DEBUG 1 ∧ d.rg Reg.SEC_STATE.DEBUG = 1 ∧ d.sec.slots = [] ∧ d.rg Reg.SEC_STATE.ZEROISED = 1)))) ∧
  (∀ (s : State) (k : Fin 8), (s.chip.sec.drbgStopped = true → ∀ ok, Completes (.cxlIdeKeyRefresh k ok) s (fun d => d = s.chip)) ∧
    (s.chip.sec.drbgStopped = false → Completes (.cxlIdeKeyRefresh k false) s (fun d => d = s.chip.quarryFail k) ∧
      Completes (.cxlIdeKeyRefresh k true) s (fun d => d.sec.ide = ⟨2 + k, 0, 0, 0x10000, (s.chip.random 32).1, true⟩ :: s.chip.sec.ide.filter (fun y => y.port ≠ 2 + k.val) ∧
        (∃ x, d.sec.ide.filter (fun y => y.port = 2 + k.val) = [x] ∧ x.active = true ∧ x.key.length = 32) ∧
        Frame ([.sec, .free] ++ hubParts) s.chip d))) ∧
  (∀ s : State, (s.chip.booting = false ∨ s.chip.pwr.stage1 = true → Completes .stage1Verify s (fun d => d = s.chip)) ∧
    (s.chip.booting = true → s.chip.pwr.stage1 = false →
      (∀ n v g, s.chip.verifyImg (fun o => s.chip.flashByte 0 (0x10000 + o)) 1 0xF0000 = .ok n v g → Completes .stage1Verify s (fun d =>
        d.pwr.stage1 = true ∧ d.rg Reg.SEC_STATE.S1_SRC = 0 ∧ d.sec.s1Digest = g ∧ d.sec.s1Svn = v ∧ Frame [.pwr, .sec, .regs] s.chip d)) ∧
      (∀ e, s.chip.verifyImg (fun o => s.chip.flashByte 0 (0x10000 + o)) 1 0xF0000 = .bad e →
        (∀ n v g, s.chip.verifyImg (fun o => s.chip.flashByte 1 (0x10000 + o)) 1 0xF0000 = .ok n v g → Completes .stage1Verify s (fun d =>
          d.pwr.stage1 = true ∧ d.rg Reg.SEC_STATE.S1_SRC = 1 ∧ d.sec.s1Digest = g ∧ d.sec.s1Svn = v)) ∧
        (∀ f, s.chip.verifyImg (fun o => s.chip.flashByte 1 (0x10000 + o)) 1 0xF0000 = .bad f → Completes .stage1Verify s (fun d =>
          d.flag Reg.FLT_SAFE.SAFE = true ∧ d.pwr.stage1 = false)))))

/-- Sources of blocks other than WKC and AMT whose event has no effect of its own chapter beside the hub's record and reaction. -/
def hubOnly (s : Nat) : Prop :=
  sourceNamed s = true ∧ 640 ≤ s ∧ s ∉ [Src.FRIEZE_PARITY, Src.COL_STEER_PARITY, Src.COL_TABLE_PARITY, Src.MERGE_PARITY, Src.PKT_WHEEL_PARITY, Src.PKT_BUFFER_CRC,
    Src.DMA_BUF_CRC, Src.DMA_QUEUE_PARITY, Src.NVS_LOCK_PARITY, Src.CKP_TABLE_PARITY, Src.SEC_SLOT_PARITY, Src.PAT_FLASH, Src.PAT_MAC, Src.HIF_RING_PARITY 0,
    Src.HIF_RING_PARITY 1, Src.OBS_COUNTER_SAT]

/-- The history entry of the next event (R624). -/
def histAt (d : Chip) : Nat := d.rg Reg.FLT_HIST_HEAD.HEAD % 32

/-- R617, R619, R620, R622, R624, R625, R627 to R629 and R632. -/
def Obligations.FaultHub : Prop :=
  (∀ (s : State) (f : Fin 768) (t : BitVec 16) (a : Nat), (sourceNamed f = false → Completes (.faultEvent f t a) s (fun d => d = s.chip)) ∧
    (sourceNamed f = true → Completes (.faultEvent f t a) s (fun d => d = (s.chip.fault f t.toNat).faultEffect f t.toNat a)) ∧
    (hubOnly f → ∀ e : Chip, e = s.chip.wake → e.rg (Reg.FLT_SRC_EVENTS.COUNT f) ≠ 2 ^ 48 - 1 → Completes (.faultEvent f t a) s (fun d =>
      d = e.raiseCore f t.toNat false ∧ d.flag (Reg.FLT_SRC_STATE.ACTIVE f) = true ∧
      d.rg (Reg.FLT_SRC_EVENTS.COUNT f) = min (e.rg (Reg.FLT_SRC_EVENTS.COUNT f) + 1) (2 ^ 48 - 1) ∧
      (e.rg (Reg.FLT_SRC_CFG.N f) ≠ 0 → e.rg (Reg.FLT_SRC_CFG.N f) ≤ d.rg (Reg.FLT_SRC_STATE.COUNT f) → d.rg (Reg.FLT_SRC_STATE.SEVERE f) = 1) ∧
      (e.rg (Reg.FLT_SRC_CFG.N f) = 0 → d.rg (Reg.FLT_SRC_STATE.SEVERE f) = e.rg (Reg.FLT_SRC_STATE.SEVERE f)) ∧
      d.rg (Reg.FLT_HIST.SEVERE (histAt e)) = b2n (d.rg (Reg.FLT_SRC_STATE.SEVERE f) = 1) ∧ d.rg (Reg.FLT_HIST.SOURCE (histAt e)) = f.val ∧
      d.rg (Reg.FLT_HIST.DETAIL (histAt e)) = t.toNat ∧
      (∀ r, r = (if d.rg (Reg.FLT_SRC_STATE.SEVERE f) = 1 then e.rg (Reg.FLT_SRC_CFG.SEV_REACT f) else e.rg (Reg.FLT_SRC_CFG.REACT f)) →
        d.rg (Reg.FLT_HIST.REACTION (histAt e)) = (if e.hub.inReset = true ∨ e.holds f r = true then 6 else r) ∧
        d.rg (Reg.FLT_HIST.HELD (histAt e)) = b2n (!e.hub.inReset && e.holds f r)))) ∧
    (hubOnly f → ∀ e : Chip, e = s.chip.wake → e.rg (Reg.FLT_SRC_EVENTS.COUNT f) ≠ 2 ^ 48 - 1 → e.rg (Reg.FLT_SRC_CFG.N f) = 0 →
      e.rg (Reg.FLT_SRC_STATE.SEVERE f) ≠ 1 → Completes (.faultEvent f t a) s (fun d =>
        d.flag (Reg.FLT_SRC_STATE.ACTIVE f) = true ∧ d.rg (Reg.FLT_SRC_EVENTS.COUNT f) = min (e.rg (Reg.FLT_SRC_EVENTS.COUNT f) + 1) (2 ^ 48 - 1) ∧
        d.rg (Reg.FLT_HIST.SOURCE (histAt e)) = f.val ∧ d.rg (Reg.FLT_HIST.DETAIL (histAt e)) = t.toNat ∧
        d.rg Reg.FLT_HIST_HEAD.HEAD = (e.rg Reg.FLT_HIST_HEAD.HEAD + 1) % 2 ^ 64 ∧ d.led = e.led ∧ d.mem = e.mem ∧
        (e.hub.inReset = true → d.rg (Reg.FLT_HIST.REACTION (histAt e)) = 6 ∧ d.hub = e.hub ∧ d.agents = e.agents ∧ d.arm = e.arm) ∧
        (e.hub.inReset = false → e.holds f (e.rg (Reg.FLT_SRC_CFG.REACT f)) = true → e.hub.held.any (fun h => h.source = f.val) = false →
          d.rg (Reg.FLT_HIST.HELD (histAt e)) = 1 ∧ d.flag (Reg.FLT_SRC_STATE.HELD f) = true ∧
          d.hub.held = e.hub.held ++ [⟨f, e.rg (Reg.FLT_SRC_CFG.REACT f), t.toNat, false, e.tick⟩] ∧ bitOf (d.core 0).ipend 4 = true ∧ d.agents = e.agents) ∧
        (e.hub.inReset = false → e.holds f (e.rg (Reg.FLT_SRC_CFG.REACT f)) = false →
          d.rg (Reg.FLT_HIST.REACTION (histAt e)) = e.rg (Reg.FLT_SRC_CFG.REACT f) % 8 ∧
          (e.rg (Reg.FLT_SRC_CFG.REACT f) = 0 → bitOf (d.rg (Reg.AMT_MSG.BITS 0)) 62 = true ∧ d.agents = e.agents ∧ d.hub = e.hub) ∧
          (e.rg (Reg.FLT_SRC_CFG.REACT f) = 1 → bitOf (d.rg (Reg.AMT_MSG.BITS 0)) 63 = true ∧ bitOf (d.core 0).ipend 4 = true ∧ d.agents = e.agents) ∧
          (e.rg (Reg.FLT_SRC_CFG.REACT f) = 2 → e.agentSt (agentOfSource f) = .running → (d.agentRec (agentOfSource f)).fencing = true ∧
            (d.agentRec (agentOfSource f)).resetAfter = true) ∧
          (e.rg (Reg.FLT_SRC_CFG.REACT f) = 3 → d.hub.chipReset = true) ∧ (e.rg (Reg.FLT_SRC_CFG.REACT f) = 4 → d.hub.faultN = true) ∧
          (e.rg (Reg.FLT_SRC_CFG.REACT f) = 5 → d.flag Reg.FLT_SAFE.SAFE = true ∧ d.hub.faultN = true ∧ d.rg Reg.FLT_SAFE.CAUSE = f.val))))) ∧
  (∀ (s : State) (f : Fin 768), (s.chip.heldOf f = none → ∀ c ∈ [Instr.graceTimerExpiry f, .heldReactionDrop f], Completes c s (fun d => d = s.chip)) ∧
    (∀ h, s.chip.heldOf f = some h →
      (s.chip.tick + 1 < h.since + s.chip.usTicks (s.chip.rg Reg.FLT_GRACE.US) → Completes (.graceTimerExpiry f) s (fun d => d = s.chip)) ∧
      Completes (.heldReactionDrop f) s (fun d => d = s.chip.holdEnds h true) ∧
      (h.since + s.chip.usTicks (s.chip.rg Reg.FLT_GRACE.US) ≤ s.chip.tick + 1 → Completes (.graceTimerExpiry f) s (fun d => d = s.chip.holdEnds h false)) ∧
      (∀ c, c = Instr.heldReactionDrop f ∨ (c = .graceTimerExpiry f ∧ h.since + s.chip.usTicks (s.chip.rg Reg.FLT_GRACE.US) ≤ s.chip.tick + 1) → Completes c s (fun d => (∀ x ∈ d.hub.held, x.source ≠ f.val) ∧ d.flag (Reg.FLT_SRC_STATE.HELD f) = false ∧
        d.rg (Reg.FLT_HIST.GRACE_END (histAt s.chip)) = 1 ∧ d.rg (Reg.FLT_HIST.SOURCE (histAt s.chip)) = f.val ∧ d.led = s.chip.led ∧ d.mem = s.chip.mem)) ∧
      Completes (.heldReactionDrop f) s (fun d => d.rg (Reg.FLT_HIST.HANDLED (histAt s.chip)) = 1 ∧ d.hub.chipReset = s.chip.hub.chipReset ∧ d.agents = s.chip.agents) ∧
      (h.since + s.chip.usTicks (s.chip.rg Reg.FLT_GRACE.US) ≤ s.chip.tick + 1 → Completes (.graceTimerExpiry f) s (fun d =>
        d.rg (Reg.FLT_HIST.HANDLED (histAt s.chip)) = 0 ∧ (h.reaction = 3 → d.hub.chipReset = true) ∧
        (h.reaction = 4 → d.hub.faultN = true))))) ∧
  (∀ s : State, (s.chip.flag Reg.PCR_STATE.READY = false → ∀ c ∈ [Instr.fltModeNormal, .fltModeTest, .fltModeRecovery, .startupModeExpiry], Completes c s (fun d => d = s.chip)) ∧
    (s.chip.flag Reg.PCR_STATE.READY = true →
      Completes .fltModeTest s (fun d => d.rg Reg.FLT_MODE.MODE = 2 ∧ Frame [.regs] s.chip d) ∧ Completes .fltModeRecovery s (fun d => d.rg Reg.FLT_MODE.MODE = 3 ∧ Frame [.regs] s.chip d) ∧
      (s.chip.rg Reg.FLT_MODE.MODE ≠ 0 ∨ s.chip.tick < s.chip.pwr.readyTick + s.chip.usTicks 30000000 - 1 → Completes .startupModeExpiry s (fun d => d = s.chip)) ∧
      (∀ c, c = .fltModeNormal ∨ (c = .startupModeExpiry ∧ s.chip.rg Reg.FLT_MODE.MODE = 0 ∧ s.chip.pwr.readyTick + s.chip.usTicks 30000000 - 1 ≤ s.chip.tick) →
        Completes c s (fun d => d = s.chip.hubNormal) ∧
        (s.chip.hub.held = [] → Completes c s (fun d => d.rg Reg.FLT_MODE.MODE = 1 ∧ Frame [.regs] s.chip d)) ∧
        (∀ h, s.chip.hub.held = [h] → h.source < 768 → Completes c s (fun d => d.rg Reg.FLT_MODE.MODE = 1 ∧ d.hub.held = [] ∧ (h.reaction = 3 → d.hub.chipReset = true)))))) ∧
  (∀ s : State, Completes .fltSafeEnter s (fun d => d = s.chip.enterSafe 0x3FF false ∧ d.flag Reg.FLT_SAFE.SAFE = true ∧ d.rg Reg.FLT_SAFE.CAUSE = 0x3FF ∧ d.flag Reg.FLT_SAFE.BOOT = false ∧ d.hub.faultN = true ∧
    d.rg Reg.TCK_STATUS.BYPASS = 1 ∧ d.rg Reg.TCK_STATUS.STATE = 0 ∧ d.commits = false ∧ Frame [.regs, .hub, .pat, .attn, .attnServed] s.chip d) ∧
    Completes .fltChipPet s (fun d => d.pwr.petTick = s.chip.tick ∧ Frame [.pwr] s.chip d) ∧
    (s.chip.rg Reg.FLT_CHIP_WDOG.LIMIT = 0 ∨ s.chip.tick < s.chip.pwr.petTick + s.chip.usTicks (s.chip.rg Reg.FLT_CHIP_WDOG.LIMIT * 1000) - 1 ∨
      s.chip.flag (Reg.OBS_DBG_CTRL.HALTED 0) = true → Completes .chipWatchdogExpiry s (fun d => d = s.chip)) ∧
    (s.chip.rg Reg.FLT_CHIP_WDOG.LIMIT ≠ 0 → s.chip.pwr.petTick + s.chip.usTicks (s.chip.rg Reg.FLT_CHIP_WDOG.LIMIT * 1000) - 1 ≤ s.chip.tick →
      s.chip.flag (Reg.OBS_DBG_CTRL.HALTED 0) = false → Completes .chipWatchdogExpiry s (fun d => d = (s.chip.fault Src.FLT_CHIP_WDOG).warmTrigger 2)) ∧
    (s.chip.rg Reg.FLT_CHIP_WDOG.LIMIT ≠ 0 → s.chip.pwr.petTick + s.chip.usTicks (s.chip.rg Reg.FLT_CHIP_WDOG.LIMIT * 1000) - 1 ≤ s.chip.tick →
      s.chip.flag (Reg.OBS_DBG_CTRL.HALTED 0) = false → s.chip.hub.inReset = false → s.chip.pwr.trigger = 0 → Completes .chipWatchdogExpiry s (fun d => d.pwr.trigger = 2 ∧
        d.flag (Reg.FLT_SRC_STATE.ACTIVE Src.FLT_CHIP_WDOG) = true ∧ d.led = s.chip.led ∧ d.mem = s.chip.mem)))

/-- R636, R637, R641 to R643, R645, R646, R650 and R698. -/
def Obligations.StartUp : Prop :=
  (∀ s : State, Completes .porNAssert s (fun d => (∀ f : Fld, f.bit ∉ otpBits → d.rg f = f.rst) ∧ (∀ f : Fld, f.bit ∈ otpBits → d.rg f = s.chip.rg f) ∧
    d.led.items = [] ∧ d.sec.slots = [] ∧ d.pwr.por = true ∧ d.hub.faultN = false ∧ d.fw.flash = s.chip.fw.flash ∧ d.fetched = [] ∧ d.owed = [] ∧
    (∀ c ∈ d.mem.cells, isQuarry c.1 = true ∧ c ∈ s.chip.mem.cells))) ∧
  (∀ (s : State) (x : Fin 8), (s.chip.pwr.por = false → Completes (.porNRelease x) s (fun d => d = s.chip)) ∧
    (s.chip.pwr.por = true → Completes (.porNRelease x) s (fun d => d.pwr = { s.chip.pwr with por := false, straps := x.val } ∧ Frame [.pwr] s.chip d))) ∧
  (∀ s : State, (s.chip.pwr.por = true ∨ 4 ≤ s.chip.pwr.straps → Completes .refclkLock s (fun d => d = s.chip)) ∧
    (s.chip.pwr.por = false → s.chip.pwr.straps < 4 → Completes .refclkLock s (fun d => d.pwr = { s.chip.pwr with refclk := true } ∧ Frame [.pwr] s.chip d))) ∧
  (∀ s : State, s.chip.booting = false ∨ s.chip.pwr.stage1 = false ∨ s.chip.flag Reg.PCR_STATE.MAQ_LOADED = true ∨ s.chip.hub.inReset = true →
    Completes .maquetteApply s (fun d => d = s.chip)) ∧
  (∀ s : State, s.chip.booting = true → s.chip.pwr.stage1 = true → s.chip.flag Reg.PCR_STATE.MAQ_LOADED = false → s.chip.hub.inReset = false →
    (∀ len svn g m x, s.chip.maqTry (maqFlash s.chip 0) = .taken len svn g m x → Completes .maquetteApply s (fun d =>
      d = (s.chip.maqCommit x m false).maqAfter (maqFlash s.chip 0) len svn 0 g ∧ d.flag Reg.PCR_STATE.MAQ_LOADED = true ∧
      d.rg Reg.PCR_STATE.MAQ_SRC = 0 ∧ d.sec.maqDigest = g ∧ d.sec.maqSvn = svn ∧ d.pwr.maqDigest = g ∧ d.pwr.maqLen = len)) ∧
    (∀ c e, (s.chip.maqTry (maqFlash s.chip 0) = .refused c ∧ e = s.chip.sr Reg.PCR_STATE.MAQ_CAUSE c) ∨
        (s.chip.maqTry (maqFlash s.chip 0) = .unverified ∧ c = 0 ∧ e = s.chip.fault Src.SEC_AUTH) →
      (∀ len svn g m x, e.maqTry (maqFlash e 1) = .taken len svn g m x → Completes .maquetteApply s (fun d =>
        d = ((e.maqCommit x m false).maqAfter (maqFlash e 1) len svn 1 g).fault Src.PCR_MAQ_ALT c)) ∧
      (∀ k, e.maqTry (maqFlash e 1) = .refused k → Completes .maquetteApply s (fun d => d = e.enterSafe 0x3FF true)) ∧
      (e.maqTry (maqFlash e 1) = .unverified → Completes .maquetteApply s (fun d => d = (e.fault Src.SEC_AUTH).enterSafe 0x3FF true))) ∧
    (∀ c, s.chip.maqTry (maqFlash s.chip 0) = .refused c → ∀ e : Chip, e = s.chip.sr Reg.PCR_STATE.MAQ_CAUSE c →
      (∀ len svn g m x, e.maqTry (maqFlash e 1) = .taken len svn g m x → Completes .maquetteApply s (fun d => d.flag Reg.PCR_STATE.MAQ_LOADED = true ∧
        d.rg Reg.PCR_STATE.MAQ_SRC = 1 ∧ d.sec.maqDigest = g ∧ d.flag (Reg.FLT_SRC_STATE.ACTIVE Src.PCR_MAQ_ALT) = true)) ∧
      (∀ k, e.maqTry (maqFlash e 1) = .refused k → Completes .maquetteApply s (fun d => d.flag Reg.FLT_SAFE.SAFE = true ∧ d.flag Reg.FLT_SAFE.BOOT = true ∧
        d.rg Reg.PCR_STATE.MAQ_CAUSE = c % 8 ∧ d.flag Reg.PCR_STATE.MAQ_LOADED = false)))) ∧
  (∀ s : State, (s.chip.booting = false ∨ s.chip.hub.inReset = true ∨ s.chip.flag Reg.PCR_STATE.READY = true ∨ s.chip.flag Reg.PCR_STATE.MAQ_LOADED = false ∨
      s.chip.flag Reg.MEM_PLINTH_STATE.INIT_BUSY = true ∨ s.chip.coresReleased = false ∨
      (s.chip.led.mirrorDev.isSome = true ∧ s.chip.led.checked = false) → Completes .startUpReady s (fun d => d = s.chip)) ∧
    (s.chip.booting = true → s.chip.hub.inReset = false → s.chip.flag Reg.PCR_STATE.READY = false → s.chip.flag Reg.PCR_STATE.MAQ_LOADED = true →
      s.chip.flag Reg.MEM_PLINTH_STATE.INIT_BUSY = false → s.chip.coresReleased = true → s.chip.led.mirrorDev = none ∨ s.chip.led.checked = true → Completes .startUpReady s (fun d =>
        d.flag Reg.PCR_STATE.READY = true ∧ d.pwr = { s.chip.pwr with readyTick := s.chip.tick, petTick := s.chip.tick } ∧ Frame [.pwr, .regs, .tck] s.chip d ∧
        (s.chip.pwr.joinWanted = false → Frame [.pwr, .regs] s.chip d)))) ∧
  (∀ s : State, (s.chip.booting = false → Completes .pllStart s (fun d => d = s.chip)) ∧
    (s.chip.booting = true → Completes .pllStart s (fun d => d.pwr = { s.chip.pwr with pllStart := true } ∧ d.flag Reg.PCR_CLK_CTRL.START = true ∧
      d.flag Reg.PCR_CLK_CTRL.LOCKED = decide (s.chip.pwr.pllLost = 0) ∧ Frame [.pwr, .regs] s.chip d)) ∧
    (s.chip.flag Reg.PCR_CLK_CTRL.LOCKED = false ∨ s.chip.flag Reg.PCR_STATE.CLK_SRC = true → Completes .pllSwitch s (fun d => d = s.chip)) ∧
    (s.chip.flag Reg.PCR_CLK_CTRL.LOCKED = true → s.chip.flag Reg.PCR_STATE.CLK_SRC = false → Completes .pllSwitch s (fun d => d.pwr = { s.chip.pwr with switchDue := true } ∧
      d.flag Reg.PCR_CLK_CTRL.SWITCH = true ∧ Frame [.pwr, .regs] s.chip d))) ∧
  (∀ (s : State) (k : Fin 2), (s.chip.pwr.pllStart = false ∨ bitOf s.chip.pwr.pllLost k = true → Completes (.pllLockLoss k) s (fun d => d = s.chip)) ∧
    (s.chip.pwr.pllStart = true → bitOf s.chip.pwr.pllLost k = false → Completes (.pllLockLoss k) s (fun d => bitOf d.pwr.pllLost k = true ∧
      d.flag Reg.PCR_CLK_CTRL.LOCKED = false ∧ (s.chip.rg Reg.PCR_STATE.POWER = 0 → d.flag (Reg.FLT_SRC_STATE.ACTIVE Src.PCR_PLL_LOCK) = true) ∧
      (s.chip.rg Reg.PCR_STATE.POWER ≠ 0 → Frame [.pwr, .regs] s.chip d) ∧ d.led = s.chip.led ∧ d.mem = s.chip.mem)) ∧
    (bitOf s.chip.pwr.pllLost k = false → Completes (.pllLockReturn k) s (fun d => d = s.chip)) ∧
    (bitOf s.chip.pwr.pllLost k = true → Completes (.pllLockReturn k) s (fun d => d.pwr.pllLost = clrBitN s.chip.pwr.pllLost k ∧
      (s.chip.pwr.pllStart = true → s.chip.pwr.pllLost = 2 ^ k.val → d.flag Reg.PCR_CLK_CTRL.LOCKED = true) ∧ Frame [.pwr, .regs] s.chip d))) ∧
  (∀ s : State, (s.chip.pwr.refclk = false ∨ s.chip.pwr.refLost = true → Completes .refclkLoss s (fun d => d = s.chip)) ∧
    (s.chip.pwr.refclk = true → s.chip.pwr.refLost = false → ∀ e : Chip, e = ({ s.chip with pwr := { s.chip.pwr with refLost := true } } : Chip).fault Src.PCR_REFCLK →
      (onRing e = false → Completes .refclkLoss s (fun d => d = e)) ∧
      (onRing e = true → Completes .refclkLoss s (fun d => d.pwr.refLost = true ∧ (∃ c ∈ d.attn, c.why = .holdover) ∧
        d.flag (Reg.FLT_SRC_STATE.ACTIVE Src.HOLDOVER) = true ∧ d.led = s.chip.led ∧ d.mem = s.chip.mem))) ∧
    (s.chip.pwr.refLost = false → Completes .refclkReturn s (fun d => d = s.chip)) ∧
    (s.chip.pwr.refLost = true → Completes .refclkReturn s (fun d => d.pwr = { s.chip.pwr with refLost := false } ∧
      (ringState s.chip = 2 → masterRole s.chip = true → ringState d = 3 ∧ ∀ c ∈ d.attn, c.why ≠ .holdover) ∧
      (ringState s.chip ≠ 2 ∨ masterRole s.chip = false → Frame [.pwr] s.chip d))))

/-- R645, R647, R648, R650 to R654 and R657. -/
def Obligations.ResetsAndPower : Prop :=
  (∀ s : State, (s.chip.warmCause = 0 ∨ s.chip.hub.inReset = true ∨ s.chip.pwr.por = true → Completes .warmChipReset s (fun d => d = s.chip)) ∧
    (s.chip.warmCause ≠ 0 → s.chip.hub.inReset = false → s.chip.pwr.por = false → Completes .warmChipReset s (fun d => d.hub.inReset = true ∧ d.ids = s.chip.ids ∧
      d.led.nextSeq = s.chip.led.nextSeq ∧ d.sec.slots = s.chip.sec.slots ∧ d.rg Reg.PCR_STATE.WARM_CAUSE = s.chip.warmCause % 16 ∧ d.rg Reg.PCR_STATE.LAST_RESET = 1 ∧
      d.takesItems = false ∧ d.fetched = [] ∧ d.pwr.released = false ∧ d.pwr.pllStart = false)) ∧
    (s.chip.pwr.por = true → Completes .warmReset s (fun d => Answered d true ∧ Frame [.answer] s.chip d)) ∧
    (s.chip.pwr.por = false → Completes .warmReset s (fun d => Answered d true ∧ d.flag Reg.PCR_RESET.WARM = true ∧ d.led = s.chip.led ∧ d.mem = s.chip.mem ∧
      (s.chip.hub.inReset = false → s.chip.pwr.trigger = 0 → d.pwr.trigger = 4 ∧ d.rg Reg.PCR_STATE.POWER = 0) ∧
      (s.chip.hub.inReset = true → d.pwr = s.chip.pwr ∧ d.hub.inReset = true))) ∧
    (s.chip.hub.inReset = false ∨ s.chip.pwr.released = true → Completes .warmResetRelease s (fun d => d = s.chip)) ∧
    (s.chip.hub.inReset = true → s.chip.pwr.released = false → Completes .warmResetRelease s (fun d => d.pwr.released = true ∧ d.ids = s.chip.ids ∧ d.hub.inReset = true ∧
      (d.flag Reg.PCR_STATE.MAQ_LOADED = true ∨ d.flag Reg.FLT_SAFE.SAFE = true) ∧
      d = maquetteAgain ((({ s.chip with pwr := { s.chip.pwr with released := true } } : Chip).sr Reg.MEM_PLINTH_STATE.RETAINED 1).sr Reg.MEM_PLINTH_STATE.INIT_BUSY 0)))) ∧
  (∀ (s : State) (w : BitVec 64), (s.chip.hub.inReset = false ∨ s.chip.pwr.released = false ∨ s.chip.flag Reg.FLT_SAFE.SAFE = true ∨
      s.chip.flag Reg.PCR_STATE.MAQ_LOADED = false ∨ s.chip.coresReleased = false ∨ s.chip.flag Reg.PCR_STATE.CLK_SRC = false ∨ s.chip.led.lost = true →
      Completes (.warmResetReady w) s (fun d => d = s.chip)) ∧
    (s.chip.hub.inReset = true → s.chip.pwr.released = true → s.chip.flag Reg.FLT_SAFE.SAFE = false → s.chip.flag Reg.PCR_STATE.MAQ_LOADED = true →
      s.chip.coresReleased = true → s.chip.flag Reg.PCR_STATE.CLK_SRC = true → s.chip.led.lost = false → Completes (.warmResetReady w) s (fun d =>
        d = (s.chip.poolTested w.toNat).resetOver.allResume ∧ d.hub.inReset = false ∧ d.flag Reg.PCR_STATE.READY = true))) ∧
  (∀ (s : State) (k : Fin 4) (c : Instr), ((k : Nat), c) ∈ [(1, Instr.idleTimerA1), (2, .idleTimerA2), (3, .idleTimerA3)] →
    (s.chip.flag Reg.PCR_STATE.READY = false ∨ s.chip.hub.inReset = true ∨ s.chip.flag Reg.FLT_SAFE.SAFE = true ∨ s.chip.isIdle = false ∨
      s.chip.rg Reg.PCR_IDLE_CFG.MAX_STATE < k ∨ k.val ≤ s.chip.rg Reg.PCR_STATE.POWER ∨ s.chip.pwr.trigger ≠ 0 ∨ s.chip.pwr.exiting = true ∨ k.val ≤ s.chip.pwr.entering ∨ (k = 3 ∧ s.chip.allPortsDown = false) → Completes c s (fun d => d = s.chip)) ∧
    (s.chip.flag Reg.PCR_STATE.READY = true → s.chip.hub.inReset = false → s.chip.pwr.trigger = 0 → s.chip.pwr.exiting = false → s.chip.flag Reg.FLT_SAFE.SAFE = false →
      s.chip.isIdle = true → k.val ≤ s.chip.rg Reg.PCR_IDLE_CFG.MAX_STATE → s.chip.rg Reg.PCR_STATE.POWER < k → s.chip.pwr.entering < k → (k = 3 → s.chip.allPortsDown = true) →
      (∀ e f : Chip, e = ({ s.chip with pwr := { s.chip.pwr with entering := k.val } } : Chip) →
        f = (if k.val = 1 then e else e.mu.merge.foldl (fun (d : Chip) m => d.flushMerge m.word) e) → Completes c s (fun d => (k.val < 3 → d = f) ∧
        (k = 3 → d = (({ f with dvt := { f.dvt with cache := [] }, mu := { f.mu with xlat := [] }, hif := { f.hif with atc := [] } } : Chip).sr
          Reg.DVT_CONN_STATE.CACHED 0).patSummary))) ∧
      (s.chip.mu.merge = [] → Completes c s (fun d => d.pwr = { s.chip.pwr with entering := k.val } ∧ d.led = s.chip.led ∧ d.mem = s.chip.mem ∧
        (k.val < 3 → Frame [.pwr] s.chip d) ∧ (k = 3 → d.dvt.cache = [] ∧ d.mu.xlat = [] ∧ d.hif.atc = []))))) ∧
  (∀ s : State, (s.chip.pwr.entering = 0 → Completes .powerStateEntryComplete s (fun d => d = s.chip)) ∧
    (0 < s.chip.pwr.entering → s.chip.pwr.entering ≤ 3 → Completes .powerStateEntryComplete s (fun d => d.rg Reg.PCR_STATE.POWER = s.chip.pwr.entering ∧ d.pwr.entering = 0 ∧
      d.led = s.chip.led ∧ (s.chip.pwr.entering < 3 → d.mem = s.chip.mem) ∧ (s.chip.pwr.entering = 3 → (∀ c ∈ d.mem.cells, isSram c.1 = false) ∧ d.pwr.pllStart = false ∧
        d.flag Reg.PCR_STATE.CLK_SRC = false ∧ d.flag Reg.PCR_CLK_CTRL.LOCKED = false))) ∧
    (s.chip.pwr.entering ≠ 0 → Completes .wakeEvent s (fun d => d.pwr = { s.chip.pwr with entering := 0 } ∧ d.led = s.chip.led ∧ d.mem = s.chip.mem)) ∧
    (s.chip.pwr.entering = 0 → s.chip.rg Reg.PCR_STATE.POWER ≠ 0 → s.chip.pwr.exiting = false → Completes .wakeEvent s (fun d => d.pwr = { s.chip.pwr with exiting := true } ∧
      d.led = s.chip.led ∧ d.mem = s.chip.mem)) ∧
    (s.chip.pwr.entering = 0 → s.chip.rg Reg.PCR_STATE.POWER = 0 ∨ s.chip.pwr.exiting = true → Completes .wakeEvent s (fun d => d = s.chip)) ∧
    (s.chip.pwr.exiting = false ∨ (s.chip.rg Reg.PCR_STATE.POWER = 3 ∧ s.chip.flag Reg.PCR_STATE.CLK_SRC = false) → Completes .exitComplete s (fun d => d = s.chip)) ∧
    (s.chip.pwr.exiting = true → s.chip.rg Reg.PCR_STATE.POWER ≠ 3 → Completes .exitComplete s (fun d => d.rg Reg.PCR_STATE.POWER = 0 ∧
      d.pwr = { s.chip.pwr with exiting := false } ∧ Frame [.pwr, .regs] s.chip d)) ∧
    (s.chip.pwr.exiting = true → s.chip.rg Reg.PCR_STATE.POWER = 3 → s.chip.flag Reg.PCR_STATE.CLK_SRC = true → Completes .exitComplete s (fun d =>
      d.rg Reg.PCR_STATE.POWER = 0 ∧ d.pwr.exiting = false ∧ d = (List.range 16).foldl (fun (d : Chip) n =>
        if d.rg (Reg.AMT_CORE_STATE.STATE n) = 6 then d else d.coreReload n (d.coreImage n))
        (({ s.chip with pwr := { s.chip.pwr with exiting := false } } : Chip).sr Reg.PCR_STATE.POWER 0))) ∧
    (s.chip.pwr.exiting = false → Completes .wakeBoundExpiry s (fun d => d = s.chip)) ∧
    (s.chip.pwr.exiting = true → Completes .wakeBoundExpiry s (fun d => d = s.chip.fault Src.PCR_WAKE_FAIL (s.chip.rg Reg.PCR_STATE.POWER))) ∧
    (∀ n : BitVec 16, Completes (.pcrGateFail n) s (fun d => d = s.chip.fault Src.PCR_GATE_FAIL n.toNat)) ∧
    (∀ n : BitVec 8, (190 ≤ n.toNat → n.toNat ≤ 210 → Completes (.pcrOsc n) s (fun d => d.rg Reg.PCR_CLK_CTRL.OSC_MHZ = n.toNat ∧ Frame [.regs] s.chip d)) ∧
      (n.toNat < 190 ∨ 210 < n.toNat → Completes (.pcrOsc n) s (fun d => d = (s.chip.sr Reg.PCR_CLK_CTRL.OSC_MHZ n.toNat).fault Src.PCR_OSC n.toNat))))

/-- R661, R666, R667, R669, R670 and TRACE_STOP of R678. -/
def Obligations.CountersTraceAndDebug : Prop :=
  (∀ (s : State) (b : BitVec 5), (18 < b.toNat → Completes (.obsCtrClear b) s (fun d => d = s.chip)) ∧
    (b.toNat ≤ 18 → Completes (.obsCtrClear b) s (fun d => Frame [.regs, .satCtrs] s.chip d ∧
      (∀ f : Fld, f.bit ≠ Reg.OBS_SAT_BLOCKS.BLOCKS.bit → isCounter f.bit = true → blockOf f.bit = b.toNat → d.rg f = f.rst) ∧
      (∀ f : Fld, f.bit ≠ Reg.OBS_SAT_BLOCKS.BLOCKS.bit → isCounter f.bit = false ∨ blockOf f.bit ≠ b.toNat → d.rg f = s.chip.rg f) ∧
      bitOf (d.rg Reg.OBS_SAT_BLOCKS.BLOCKS) b.toNat = false ∧ (∀ k ∈ d.satCtrs, k ∈ s.chip.satCtrs ∧ blockOf k ≠ b.toNat)))) ∧
  (∀ (s : State) (v : BitVec 63), (s.chip.flag Reg.OBS_TRACE_CFG.ENABLE = true → Completes (.traceEnable v) s (fun d => d = s.chip)) ∧
    (s.chip.flag Reg.OBS_TRACE_CFG.ENABLE = false → ∀ e f : Chip,
      e = (((s.chip.sr Reg.OBS_TRACE_CFG.DATA (v.toNat / 2 ^ 62 % 2)).sr Reg.OBS_TRACE_CFG.PRE (v.toNat / 2 ^ 59 % 8)).sr Reg.OBS_TRACE_CFG.CORES (v.toNat % 2 ^ 16)).sr
        Reg.OBS_TRACE_CFG.BASE (v.toNat / 2 ^ 16 % 2 ^ 36) →
      f = (if v.toNat / 2 ^ 55 % 16 ≤ 9 then e.sr Reg.OBS_TRACE_CFG.SIZE (v.toNat / 2 ^ 55 % 16) else e) → Completes (.traceEnable v) s (fun d => d = f.traceOn)) ∧
    (s.chip.flag Reg.OBS_TRACE_CFG.ENABLE = false → (∀ n : Fin 16, bitOf v.toNat n = true → (s.chip.core n).released = false) →
      Completes (.traceEnable v) s (fun d => d.flag Reg.OBS_TRACE_CFG.ENABLE = true ∧ d.rg Reg.OBS_TRACE_STATE.STATE = 1 ∧
        d.rg Reg.OBS_TRACE_CFG.CORES = v.toNat % 2 ^ 16 ∧ d.rg Reg.OBS_TRACE_CFG.BASE = v.toNat / 2 ^ 16 % 2 ^ 36 ∧
        d.rg Reg.OBS_TRACE_CFG.PRE = v.toNat / 2 ^ 59 % 8 ∧ d.rg Reg.OBS_TRACE_CFG.DATA = v.toNat / 2 ^ 62 % 2 ∧
        (v.toNat / 2 ^ 55 % 16 ≤ 9 → d.rg Reg.OBS_TRACE_CFG.SIZE = v.toNat / 2 ^ 55 % 16) ∧
        (9 < v.toNat / 2 ^ 55 % 16 → d.rg Reg.OBS_TRACE_CFG.SIZE = s.chip.rg Reg.OBS_TRACE_CFG.SIZE) ∧ Frame [.regs, .trc] s.chip d))) ∧
  (∀ s : State, (s.chip.flag Reg.OBS_TRACE_CFG.ENABLE = false → Completes .traceDisable s (fun d => d = s.chip)) ∧
    (s.chip.flag Reg.OBS_TRACE_CFG.ENABLE = true → Completes .traceDisable s (fun d => d.flag Reg.OBS_TRACE_CFG.ENABLE = false ∧ d.rg Reg.OBS_TRACE_STATE.STATE = 0 ∧
      d.rg Reg.OBS_TRACE_STATE.WRITE_INDEX = s.chip.rg Reg.OBS_TRACE_STATE.WRITE_INDEX ∧ Frame [.regs, .trc] s.chip d)) ∧
    Completes .traceStop s (fun d => Answered d true ∧ d.flag Reg.OBS_TRACE_CFG.ENABLE = false ∧ d.rg Reg.OBS_TRACE_STATE.STATE = 0 ∧ Frame [.regs, .trc, .answer] s.chip d) ∧
    (s.chip.rg Reg.OBS_TRACE_STATE.STATE ≠ 1 → Completes .traceTrigger s (fun d => d = s.chip)) ∧
    Completes .traceDisable s (fun d => d = if s.chip.flag Reg.OBS_TRACE_CFG.ENABLE then s.chip.traceOff else s.chip) ∧
    Completes .traceStop s (fun d => d = s.chip.traceOff.answered (.block .obs) true) ∧
    (∀ e : Chip, e = s.chip.funnelAll →
      (s.chip.rg Reg.OBS_TRACE_STATE.STATE = 1 → Completes .traceTrigger s (fun d => d.rg Reg.OBS_TRACE_STATE.STATE = 2 ∧
        d.rg Reg.OBS_TRACE_STATE.TRIG_INDEX = e.rg Reg.OBS_TRACE_STATE.WRITE_INDEX % 2 ^ 25 ∧ d.trc.high = 0 ∧ d.trc.due = false ∧
        d.trc.left = (8 - e.rg Reg.OBS_TRACE_CFG.PRE) * e.traceCap / 8)) ∧
      (e.rg Reg.OBS_TRACE_STATE.STATE = 2 → e.trc.left = 0 → Completes .tracePostDone s (fun d => d = e.sr Reg.OBS_TRACE_STATE.STATE 3 ∧
        d.rg Reg.OBS_TRACE_STATE.STATE = 3)) ∧
      (e.rg Reg.OBS_TRACE_STATE.STATE ≠ 2 ∨ e.trc.left ≠ 0 → Completes .tracePostDone s (fun d => d = e)))) ∧
  (∀ (s : State) (n : Fin 16),
    (s.chip.flag Reg.SEC_STATE.DEBUG = false ∨ s.chip.coreRuns n = false → Completes (.halt n) s (fun d => d = s.chip)) ∧
    (s.chip.flag Reg.SEC_STATE.DEBUG = true → s.chip.coreRuns n = true → s.chip.tracing n = false → Completes (.halt n) s (fun d =>
      d.rg (Reg.AMT_CORE_STATE.STATE n) = 1 ∧ d.flag (Reg.OBS_DBG_CTRL.HALTED n) = true ∧
      d.rg (Reg.OBS_DBG_CTRL.PC n) = (s.chip.core n).pc.toNat % 2 ^ 52 ∧ Frame [.regs, .fw] s.chip d)) ∧
    (s.chip.flag Reg.SEC_STATE.DEBUG = true → s.chip.coreRuns n = true → Completes (.halt n) s (fun d => d = s.chip.debugHalt n)) ∧
    (s.chip.flag (Reg.OBS_DBG_CTRL.HALTED n) = true → ∀ g e, g = s.chip.tick - (tget s.chip.fw.haltAt n).getD s.chip.tick →
      e = (({ s.chip with
        fw := { s.chip.fw with pets := tupd s.chip.fw.pets n (· + g), haltAt := tdel s.chip.fw.haltAt n },
        pwr := { s.chip.pwr with petTick := if n = 0 then s.chip.pwr.petTick + g else s.chip.pwr.petTick } } : Chip).sr (Reg.OBS_DBG_CTRL.HALTED n) 0).sr
        (Reg.AMT_CORE_STATE.STATE n) 0 →
      Completes (.resume n) s (fun d => d = e.trace n 8 0 (s.chip.core n).pc.toNat) ∧
      Completes (.step n) s (fun d => d = e.setCore n { s.chip.core n with stepping := true })) ∧
    (s.chip.flag (Reg.OBS_DBG_CTRL.HALTED n) = false → Completes (.resume n) s (fun d => d = s.chip) ∧ Completes (.step n) s (fun d => d = s.chip)) ∧
    (s.chip.flag (Reg.OBS_DBG_CTRL.HALTED n) = true → s.chip.tracing n = false → Completes (.resume n) s (fun d =>
      d.rg (Reg.AMT_CORE_STATE.STATE n) = 0 ∧ d.flag (Reg.OBS_DBG_CTRL.HALTED n) = false ∧ Frame [.regs, .fw, .pwr] s.chip d)) ∧
    (s.chip.flag (Reg.OBS_DBG_CTRL.HALTED n) = true → Completes (.step n) s (fun d =>
      d.rg (Reg.AMT_CORE_STATE.STATE n) = 0 ∧ d.flag (Reg.OBS_DBG_CTRL.HALTED n) = false ∧ d.core n = { s.chip.core n with stepping := true } ∧
      (∀ m : Fin 16, m ≠ n → d.core m = s.chip.core m) ∧ Frame [.regs, .fw, .pwr, .arm] s.chip d))) ∧
  (∀ (s : State) (n : Fin 16) (w : Bool) (t : BitVec 4) (k : BitVec 12),
    (s.chip.flag (Reg.OBS_DBG_CTRL.HALTED n) = false → Completes (.obsDbgAcc n w t k) s (fun d => d.flag (Reg.OBS_DBG_ACC.ERR n) = true ∧ Frame [.regs] s.chip d)) ∧
    (s.chip.flag (Reg.OBS_DBG_CTRL.HALTED n) = true → (∀ x : Tag, Tag.ofCode t.toNat = some x → x = .nul ∨ x = .desc ∨ x = .seq ∨ x = .keyh) →
      Completes (.obsDbgAcc n true t k) s (fun d => d.flag (Reg.OBS_DBG_ACC.ERR n) = true ∧ Frame [.regs] s.chip d)) ∧
    (s.chip.flag (Reg.OBS_DBG_CTRL.HALTED n) = true → ∀ x : Tag, Tag.ofCode t.toNat = some x → x ≠ .nul → x ≠ .desc → x ≠ .seq → x ≠ .keyh →
      ∀ h : k.toNat < 32, Completes (.obsDbgAcc n true t k) s (fun d => d.flag (Reg.OBS_DBG_ACC.ERR n) = false ∧
        d.core n = (s.chip.core n).setReg ⟨k.toNat, h⟩ ⟨BitVec.ofNat 64 (s.chip.rg (Reg.OBS_DBG_DATA.DATA n)), x⟩ ∧
        (∀ m : Fin 16, m ≠ n → d.core m = s.chip.core m) ∧ Frame [.regs, .arm] s.chip d)) ∧
    (s.chip.flag (Reg.OBS_DBG_CTRL.HALTED n) = true → ∀ h : k.toNat < 32, Completes (.obsDbgAcc n false t k) s (fun d => d.flag (Reg.OBS_DBG_ACC.ERR n) = false ∧
      d.rg (Reg.OBS_DBG_ACC.TAG n) = ((s.chip.core n).reg ⟨k.toNat, h⟩).t.code ∧
      (((s.chip.core n).reg ⟨k.toNat, h⟩).t = .keyh → d.rg (Reg.OBS_DBG_DATA.DATA n) = 0) ∧
      (((s.chip.core n).reg ⟨k.toNat, h⟩).t ≠ .keyh → d.rg (Reg.OBS_DBG_DATA.DATA n) = ((s.chip.core n).reg ⟨k.toNat, h⟩).v.toNat) ∧ Frame [.regs, .free] s.chip d))) ∧
  (∀ (s : State) (n : Fin 16) (w : Bool) (t : BitVec 4) (k : BitVec 12) (e : Chip), s.chip.flag (Reg.OBS_DBG_CTRL.HALTED n) = true →
    e = ((s.chip.sr (Reg.OBS_DBG_ACC.WRITE n) (b2n w)).sr (Reg.OBS_DBG_ACC.TAG n) t.toNat).sr (Reg.OBS_DBG_ACC.INDEX n) k.toNat →
    (w = true → ∀ x : Tag, Tag.ofCode t.toNat = some x → x ≠ .nul → x ≠ .desc → x ≠ .seq → x ≠ .keyh →
      (∀ f, e.dbgWrite n k.toNat ⟨BitVec.ofNat 64 (s.chip.rg (Reg.OBS_DBG_DATA.DATA n)), x⟩ = some f → Completes (.obsDbgAcc n w t k) s (fun d =>
        d = f.sr (Reg.OBS_DBG_ACC.ERR n) 0)) ∧
      (e.dbgWrite n k.toNat ⟨BitVec.ofNat 64 (s.chip.rg (Reg.OBS_DBG_DATA.DATA n)), x⟩ = none → Completes (.obsDbgAcc n w t k) s (fun d =>
        d = e.sr (Reg.OBS_DBG_ACC.ERR n) 1))) ∧
    (w = false → ∀ x, e.dbgRead n k.toNat = some x → Completes (.obsDbgAcc n w t k) s (fun d =>
      d = (((e.sr (Reg.OBS_DBG_ACC.ERR n) 0).sr (Reg.OBS_DBG_DATA.DATA n) (if x.t = .keyh then 0 else x.v.toNat)).sr (Reg.OBS_DBG_ACC.TAG n) x.t.code).takeFree))) ∧
  (∀ (s : State) (l : List (Fin 97)), Completes (.obsHang l) s (fun d => ∀ e : Chip,
      e = (List.range 97).foldl (fun (d : Chip) k => if (l.map (fun j => j.val)).contains k then d else d.hangRecord k false)
        (((s.chip.sr Reg.OBS_HANG.GO 1).sr Reg.OBS_HANG.DONE 0).sr Reg.OBS_HANG.NOANS 0) →
      d = ({ e with hub := { e.hub with hang := (List.range 97).filter (fun k => (l.map (fun j => j.val)).contains k) } } : Chip).hangDone)) ∧
  (∀ (s : State) (k : Fin 97), k.val ∈ s.chip.hub.hang → Completes (.hangAgentTimeout k) s (fun d => ∀ e : Chip,
      e = (s.chip.hangRecord k true).mr Reg.OBS_HANG.NOANS (fun v => v + 1) →
      d = ({ e with hub := { e.hub with hang := s.chip.hub.hang.filter (· ≠ k.val) } } : Chip).hangDone)) ∧
  (∀ (s : State) (l : List (Fin 97)), (l = [] → Completes (.obsHang l) s (fun d => d.flag Reg.OBS_HANG.DONE = true ∧ d.hub.hang = [])) ∧
    (l ≠ [] → Completes (.obsHang l) s (fun d => d.flag Reg.OBS_HANG.DONE = false ∧ ∀ k : Fin 97, k.val ∈ d.hub.hang ↔ k ∈ l))) ∧
  (∀ (s : State) (k : Fin 97), (k.val ∉ s.chip.hub.hang → Completes (.hangAgentTimeout k) s (fun d => d = s.chip)) ∧
    (k.val ∈ s.chip.hub.hang → Completes (.hangAgentTimeout k) s (fun d => d.hub.hang = s.chip.hub.hang.filter (· ≠ k.val) ∧
      d.rg Reg.OBS_HANG.NOANS = (s.chip.rg Reg.OBS_HANG.NOANS + 1) % 1024 ∧
      ((∀ j ∈ s.chip.hub.hang, j = k.val) → d.flag Reg.OBS_HANG.DONE = true))))

/-- R671 to R673, R676 and PAT_FLUSH of R678. -/
def Obligations.CaliperAndPatina : Prop :=
  (∀ (s : State) (x : CaliperSample), (s.chip.cal.due = false ∨ 8 ≤ s.chip.tck.cycle → Completes (.caliperRecordClose x) s (fun d => d = s.chip)) ∧
    (s.chip.cal.due = true → s.chip.tck.cycle < 8 → ∀ e f g : Chip, e = ({ s.chip with tck := { s.chip.tck with cycle := 8 } } : Chip) →
      f = (({ e.wr (s.chip.rg Reg.CAL_CFG.BASE + 128 * (s.chip.cal.frame % (1024 * 2 ^ s.chip.rg Reg.CAL_CFG.SIZE))) (e.calRecord x) with
        cal := { s.chip.cal with due := false } } : Chip).count (Reg.OBS_COUNT.COUNT 3)) → g = (if x.sensorFailed then f.fault Src.CAL_SENSOR else f) →
      Completes (.caliperRecordClose x) s (fun d => d = g.calJudge x)) ∧
    (s.chip.cal.due = true → s.chip.tck.cycle < 8 → Completes (.caliperRecordClose x) s (fun d => d.cal.due = false ∧ d.cal.emergency = s.chip.cal.emergency ∧
      d.cal.means = (x.pkgMw :: s.chip.cal.means).take 16 ∧
      (d.cal.power = true ↔ s.chip.rg Reg.CAL_LIMIT.EMERG_W * 1000 < d.cal.means.sum / d.cal.means.length) ∧
      (d.cal.thermal = true ↔ x.sensorFailed = true ∨ ∃ t ∈ x.temps, (8 * s.chip.rg Reg.CAL_LIMIT.EMERG_C : Int) < t) ∧
      (s.chip.cal.emergency = true → d.cal.turbo = false) ∧ (d.cal.turbo = true → d.cal.thermal = false) ∧
      (x.sensorFailed = true → d.flag (Reg.FLT_SRC_STATE.ACTIVE Src.CAL_SENSOR) = true)))) ∧
  (∀ s : State, (s.chip.cal.emergency = false ∨ s.chip.tick < s.chip.cal.lastFlag + 16 → Completes .emergencyEnd s (fun d => d = s.chip)) ∧
    (s.chip.cal.emergency = true → s.chip.cal.lastFlag + 16 ≤ s.chip.tick → Completes .emergencyEnd s (fun d =>
      d.cal = { s.chip.cal with emergency := false, ended := s.chip.tick } ∧ (∀ c ∈ d.attn, c.why ≠ .emergency) ∧ Frame [.cal, .attn, .attnServed, .regs] s.chip d))) ∧
  (∀ (s : State) (n : Fin 16) (w : BitVec 16) (t : BitVec 8) (e : Chip), e = s.chip.wake → Completes (.report n w t) s (fun d => Frame [.cal] e d ∧
    ∀ p : Fin 8, (s.chip.rg (Reg.CAL_ACC.POS p) = n.val → tget d.cal.reported p = some w.toNat) ∧
      (s.chip.rg (Reg.CAL_ACC.POS p) ≠ n.val → tget d.cal.reported p = tget s.chip.cal.reported p))) ∧
  (∀ (s : State) (p : Fin 8) (v : Nat), v = (if s.chip.cal.emergency = true then s.chip.rg (Reg.CAL_ACC.EMERG p) else s.chip.rg (Reg.CAL_ACC.BUDGET p)) →
    (s.chip.flag Reg.CAL_CFG.OWNER = false ∨ s.chip.rg (Reg.CAL_ACC.BUDGET p) = 0 ∨ onRing s.chip = false ∨
      (∃ t, tget s.chip.cal.sent p = some (v, t) ∧ s.chip.tick < t + 256) → Completes (.budget p) s (fun d => d = s.chip)) ∧
    (s.chip.flag Reg.CAL_CFG.OWNER = true → s.chip.rg (Reg.CAL_ACC.BUDGET p) ≠ 0 → onRing s.chip = true →
      (∀ t, tget s.chip.cal.sent p = some (v, t) → t + 256 ≤ s.chip.tick) → Completes (.budget p) s (fun d =>
        d.tck.out = s.chip.tck.out ++ [.msg (s.chip.rg (Reg.CAL_ACC.POS p)) (ringPos s.chip) 0x10 (leBytes 2 v ++ [0, 0, b2n s.chip.cal.emergency, 0, 0, 0, 0])] ∧
        tget d.cal.sent p = some (v, s.chip.tick) ∧ d.led = s.chip.led ∧ d.mem = s.chip.mem))) ∧
  (∀ s : State, (s.chip.pat.time < s.chip.pat.sumDue + 2 ^ 28 → Completes .patinaSummary s (fun d => d = s.chip)) ∧
    (s.chip.pat.sumDue + 2 ^ 28 ≤ s.chip.pat.time → Completes .patinaSummary s (fun d => d.pat.summary = s.chip.pat.work ∧ d.pat.sumDue = s.chip.pat.time ∧
      d = ({ s.chip with pat := { s.chip.pat with sumDue := s.chip.pat.time } } : Chip).patSummary ∧
      (s.chip.running .pat = true → ∃ r, d.pat.log = s.chip.pat.log ++ [r] ∧ r.type = 1 ∧ r.tick = s.chip.tick) ∧ d.led = s.chip.led ∧ d.mem = s.chip.mem)) ∧
    Completes .patFlush s (fun d => d = s.chip.patSummary.answered (.block .pat) true ∧ Answered d true ∧ d.pat.summary = s.chip.pat.work ∧ d.led = s.chip.led ∧ d.mem = s.chip.mem)) ∧
  (∀ (s : State) (x : CaliperSample), (s.chip.pat.time < s.chip.pat.histDue + 2 ^ 20 → Completes (.histogramSample x) s (fun d => d = s.chip)) ∧
    (s.chip.pat.histDue + 2 ^ 20 ≤ s.chip.pat.time → Completes (.histogramSample x) s (fun d => d.pat.histDue = s.chip.pat.time ∧ Frame [.pat] s.chip d ∧
      (∀ k : Fin 9, ∀ o : Nat, o = 0x20 + 4 * (32 * k.val + tempBin (x.temps.getD k 0)) →
        (tget d.pat.work o).getD 0 = min ((tget s.chip.pat.work o).getD 0 + 1) (2 ^ 32 - 1)) ∧
      (∀ o : Nat, o = 0x4A0 + 4 * voltBin x.coreMv → (tget d.pat.work o).getD 0 = min ((tget s.chip.pat.work o).getD 0 + 1) (2 ^ 32 - 1)))))

/-- R633, R653, R682, R685, R694, R695 and R697. What PERST_N clears is the model's choice (log entry 56). -/
def Obligations.BoardSide : Prop :=
  (∀ (s : State) (n : BitVec 8), Completes (.i3cStatusRead 0 n) s (fun d => Frame [.pwr] s.chip d ∧ d.pwr.i3cLatch.length = n.toNat ∧
      (∀ k : Nat, k < n.toNat → 32 ≤ k → d.pwr.i3cLatch.getD k 1 = 0) ∧
      (∀ k : Nat, k < n.toNat → k < 8 → d.pwr.i3cLatch.getD k 0 = s.chip.tick / 256 ^ k % 256) ∧
      (9 < n.toNat → bitOf (d.pwr.i3cLatch.getD 9 0) 1 = s.chip.hub.faultN))) ∧
  (∀ (s : State) (n : BitVec 8), Completes (.i3cStatusRead 2 n) s (fun d => Frame [.pwr] s.chip d ∧ d.pwr.i3cLatch.length = n.toNat ∧
      (5 < n.toNat → d.pwr.i3cLatch.getD 2 0 = 0 ∧ d.pwr.i3cLatch.getD 3 0 = 0x96 ∧ d.pwr.i3cLatch.getD 5 9 = s.chip.pwr.straps % 4) ∧
      ∀ k : Nat, k < n.toNat → 8 ≤ k → d.pwr.i3cLatch.getD k 1 = 0)) ∧
  (∀ (s : State) (i n : BitVec 8), i ≠ 0 → i ≠ 2 → Completes (.i3cStatusRead i n) s (fun d => Frame [.pwr] s.chip d ∧
      d.pwr.i3cLatch = List.replicate n.toNat 0)) ∧
  (∀ (s : State) (v : BitVec 8),
    Completes (.i3cWakeWrite v) s (fun d => ∀ e : Chip, e = s.chip.wake → d = ({ e with pwr := { e.pwr with i3cIndex := 1 } } : Chip)) ∧
    (s.chip.pwr.entering = 0 → s.chip.rg Reg.PCR_STATE.POWER = 0 → Completes (.i3cWakeWrite v) s (fun d => d.pwr = { s.chip.pwr with i3cIndex := 1 } ∧ Frame [.pwr] s.chip d)) ∧
    (s.chip.pwr.entering = 0 → s.chip.rg Reg.PCR_STATE.POWER ≠ 0 → Completes (.i3cWakeWrite v) s (fun d => d.pwr.exiting = true ∧ d.led = s.chip.led ∧ d.mem = s.chip.mem))) ∧
  (∀ (s : State) (t : Fin 2) (a : BitVec 7), Completes (.dynamicAddressAssignment t a) s (fun d => tget d.pwr.i3cAddr t.val = some a.toNat ∧
    (∀ u : Fin 2, u ≠ t → tget d.pwr.i3cAddr u.val = tget s.chip.pwr.i3cAddr u.val) ∧ Frame [.pwr] s.chip d)) ∧
  (∀ (s : State) (r : Fin 8), (r ≠ 0 → r ≠ 2 → Completes (.railExcursion r) s (fun d => d = s.chip.fault Src.PCR_RAIL r)) ∧
    (r = 0 → Completes (.railExcursion r) s (fun d => d = s.chip.coldReset.pinsReleased)) ∧
    (r = 2 → Completes (.railExcursion r) s (fun d => d = (s.chip.fault Src.PCR_RAIL r).coldReset)) ∧
    (r ≠ 0 → r ≠ 2 → Completes (.railExcursion r) s (fun d => d.flag (Reg.FLT_SRC_STATE.ACTIVE Src.PCR_RAIL) = true ∧
      d.led = s.chip.led ∧ d.mem = s.chip.mem)) ∧
    (r = 0 → Completes (.railExcursion r) s (fun d => d.led.items = [] ∧ d.hub.faultN = false ∧ d.pwr.thermtrip = false ∧ d.rg Reg.PCR_STATE.READY = 0)) ∧
    (r = 2 → Completes (.railExcursion r) s (fun d => d.led.items = [] ∧ d.pwr.thermtrip = s.chip.pwr.thermtrip ∧ d.rg Reg.PCR_STATE.READY = 0 ∧
      (∀ c ∈ d.mem.cells, isQuarry c.1 = true)))) ∧
  (∀ s : State, Completes .thermtrip s (fun d => d.pwr = { s.chip.pwr with thermtrip := true } ∧ Frame [.pwr] s.chip d)) ∧
  (∀ (s : State) (p : Fin 2), Completes (.perstNAssert p) s (fun d => Frame [.regs, .hif, .pwr] s.chip d ∧ d.flag (Reg.HIF_STATE.ME p) = false ∧
    d.flag (Reg.HIF_STATE.ME (1 - p.val)) = s.chip.flag (Reg.HIF_STATE.ME (1 - p.val)) ∧ (∀ v : Nat, 1 ≤ v → v ≤ 63 → vfNum p v ∉ d.hif.vfMe) ∧
    (∀ v ∈ d.hif.unmasked, (pfFns p).contains (v / 2048) = false ∧ v ∈ s.chip.hif.unmasked) ∧
    (∀ v ∈ s.chip.hif.unmasked, (pfFns p).contains (v / 2048) = false → v ∈ d.hif.unmasked) ∧ d.pwr = { s.chip.pwr with perst := insNat p s.chip.pwr.perst }))

/-- R98. A value `.fin neg m e` is ± m × 2^e; format code 0xA is MXINT8. -/
def Obligations.MxInt8Elements : Prop :=
  (∀ k : Int, -128 ≤ k → k ≤ 127 → decodeElem 0xA (toBits 8 k) = .fin (decide (k < 0)) k.natAbs (-6)) ∧
  decodeElem 0xA 0x80 = .fin true 128 (-6) ∧
  (∀ (r : Rnd) (nanp : Bool) (v : Val), ∃ k : Int, -127 ≤ k ∧ k ≤ 127 ∧ (convElem 0xA r nanp v).1 = toBits 8 k ∧ (convElem 0xA r nanp v).1 ≠ 0x80 ∧
    decodeElem 0xA (convElem 0xA r nanp v).1 = .fin (decide (k < 0)) k.natAbs (-6)) ∧
  (∀ (fit nanp : Bool) (r : Nat → Rnd) (vs : List Val), ∀ b ∈ (mxBlock 0xA fit nanp r vs).2.1, ∃ k : Int, -127 ≤ k ∧ k ≤ 127 ∧ b = toBits 8 k ∧ b ≠ 0x80)

/-- R633, with bit 0 of FLAGS as R698 has it. -/
def Obligations.StatusRecord : Prop :=
  ∀ s : State, Completes (.i3cStatusRead 0 32) s (fun d => Frame [.pwr] s.chip d ∧ d.pwr.i3cLatch.length = 32 ∧
    (∀ k : Nat, k < 8 → d.pwr.i3cLatch.getD k 0 = s.chip.tick / 256 ^ k % 256) ∧
    d.pwr.i3cLatch.getD 8 0 = s.chip.attnLevel + 16 * s.chip.attnClass ∧
    (bitOf (d.pwr.i3cLatch.getD 9 0) 0 = (s.chip.flag Reg.FLT_SAFE.SAFE || decide (4 ≤ s.chip.pwr.straps))) ∧
    bitOf (d.pwr.i3cLatch.getD 9 0) 1 = s.chip.hub.faultN ∧
    (s.chip.rg Reg.FLT_MODE.MODE < 4 → d.pwr.i3cLatch.getD 9 0 / 4 % 4 = s.chip.rg Reg.FLT_MODE.MODE ∧
      bitOf (d.pwr.i3cLatch.getD 9 0) 4 = s.chip.single ∧ d.pwr.i3cLatch.getD 9 0 < 32) ∧
    (∀ k : Nat, k < 2 → d.pwr.i3cLatch.getD (10 + k) 0 = s.chip.rg (Reg.FLT_HIST.SOURCE ((s.chip.rg Reg.FLT_HIST_HEAD.HEAD + 31) % 32)) / 256 ^ k % 256) ∧
    (∀ k : Nat, k < 4 → d.pwr.i3cLatch.getD (12 + k) 0 = s.chip.rg Reg.FLT_HIST_HEAD.HEAD / 256 ^ k % 256) ∧
    (∀ k : Nat, k < 8 → d.pwr.i3cLatch.getD (16 + k) 0 = s.chip.rg Reg.GLB_LEDGER_HEAD.HEAD / 256 ^ k % 256) ∧
    (∀ k : Nat, k < 2 → d.pwr.i3cLatch.getD (24 + k) 0 = s.chip.rg Reg.FLT_SAFE.CAUSE / 256 ^ k % 256) ∧
    (∀ k : Nat, k < 6 → d.pwr.i3cLatch.getD (26 + k) 1 = 0))

/-- R9, and the Reset columns of the registers named. That a byte nothing has written reads 0 is the model's choice (log entry 4). -/
def Obligations.ResetState : Prop :=
  (∀ f : Fld, State.reset.chip.rg f = f.rst) ∧ State.reset.pending = [] ∧ State.reset.chip.led.items = [] ∧ State.reset.chip.led.nextSeq = 1 ∧
  State.reset.chip.mem.cells = [] ∧ State.reset.chip.attn = [] ∧ State.reset.chip.hub.faultN = false ∧ State.reset.chip.pwr.thermtrip = false ∧
  State.reset.chip.rg Reg.TCK_PERIOD.PERIOD = 0x10 ∧ State.reset.chip.rg Reg.TCK_STATUS.BYPASS = 1 ∧ State.reset.chip.rg Reg.TCK_STATUS.STATE = 0 ∧
  State.reset.chip.rg Reg.GLB_LEDGER_STATE.COPIES = 3 ∧ State.reset.chip.rg Reg.GLB_LEDGER_STATE.FREE = 0x20_0000 ∧ State.reset.chip.rg Reg.GLB_LEDGER_LOW.LOW = 1 ∧
  State.reset.chip.rg Reg.FLT_MODE.MODE = 0 ∧ State.reset.chip.rg Reg.FLT_SAFE.CAUSE = 0x3FF ∧ State.reset.chip.rg Reg.PCR_STATE.READY = 0 ∧
  State.reset.chip.rg Reg.PCR_STATE.POWER = 0 ∧ State.reset.chip.rg Reg.PCR_IDLE_CFG.MAX_STATE = 3 ∧ State.reset.chip.rg Reg.PCR_IDLE_CFG.A3_MS = 0x3E8 ∧
  State.reset.chip.rg Reg.MEM_PLINTH_STATE.INIT_BUSY = 1 ∧ State.reset.chip.rg Reg.MEM_PLINTH_STATE.P0_SPARES = 4 ∧ State.reset.chip.rg Reg.COL_SLOT_TIMEOUT.LIMIT = 0x64 ∧
  State.reset.chip.rg Reg.CAL_LIMIT.EMERG_C = 0x69 ∧ State.reset.chip.rg Reg.OBS_TRACE_CFG.CORES = 0xFFFF ∧
  (∀ p : Fin 12, State.reset.chip.rg (Reg.LNK_PORT_STATE.SPARED_POS p) = 0x1F) ∧ (∀ n : Fin 16, State.reset.chip.rg (Reg.AMT_CORE_STATE.ROLE n) = n.val) ∧
  Inv State.reset.chip

/-- R24, R26, R30 and R31; the canonical form of memory is the model's own. -/
def Obligations.InvariantKept : Prop := ∀ s t : State, Inv s.chip → step s = .next t → Inv t.chip
end

