-- ==== Sys2Proof/Laws/Frame.lean ====
section
/-! SUPPORT. What the shared operations on registers, counters, attention, agents and the fault hub leave as it was: one frame for each. -/
namespace Sys2Proof.Machine
open Sys2Proof

theorem Part.same_refl (p : Part) (d : Chip) : p.same d d := by cases p <;> rfl

theorem Part.same_trans {p : Part} {a b c : Chip} (h : p.same b a) (k : p.same c b) : p.same c a := by
  cases p <;> exact Eq.trans k h

theorem Frame.refl (P : List Part) (d : Chip) : Frame P d d := fun p _ => p.same_refl d

theorem Frame.trans {P : List Part} {a b c : Chip} (h : Frame P a b) (k : Frame P b c) : Frame P a c :=
  fun p hp => Part.same_trans (h p hp) (k p hp)

theorem Frame.mono {P Q : List Part} {a b : Chip} (h : Frame P a b) (hs : ∀ p ∈ P, p ∈ Q) : Frame Q a b :=
  fun p hp => h p (fun hq => hp (hs p hq))

theorem Frame.ite {P : List Part} {a b c : Chip} {q : Prop} [Decidable q] (h : Frame P a b) (k : Frame P a c) :
    Frame P a (if q then b else c) := by split <;> assumption

/-- A fold of steps that each keep a frame keeps it. -/
theorem Frame.foldl {α : Type} {P : List Part} (f : Chip → α → Chip) (h : ∀ d x, Frame P d (f d x)) (l : List α) (d : Chip) :
    Frame P d (l.foldl f d) := by
  induction l generalizing d with
  | nil => exact .refl P d
  | cons x l ih => exact (h d x).trans (ih _)

/-! ## Registers -/

theorem sr_frame (d : Chip) (f : Fld) (v : Nat) : Frame [.regs] d (d.sr f v) := by
  intro p hp; cases p <;> first | rfl | exact absurd (by decide) hp

theorem sr_hub {P : List Part} (h : Part.regs ∈ P) (d : Chip) (f : Fld) (v : Nat) : Frame P d (d.sr f v) :=
  (sr_frame d f v).mono (by simpa using h)

theorem mr_hub {P : List Part} (h : Part.regs ∈ P) (d : Chip) (f : Fld) (g : Nat → Nat) : Frame P d (d.mr f g) := sr_hub h d f _

theorem setBit_hub {P : List Part} (h : Part.regs ∈ P) (d : Chip) (f : Fld) (i : Nat) (b : Bool) : Frame P d (d.setBit f i b) := mr_hub h d f _

/-! ## Attention -/

theorem attnUpdate_frame (d : Chip) : Frame [.regs, .attnServed] d d.attnUpdate := by
  have served (e : Chip) : Frame [.regs, .attnServed] e { e with attnServed := [] } := by
    intro p hp; cases p <;> first | rfl | exact absurd (by decide) hp
  unfold Chip.attnUpdate
  extract_lets old e
  have h : Frame [.regs, .attnServed] d e :=
    ((sr_hub (by decide) d _ _).trans (sr_hub (by decide) _ _ _)).trans (sr_hub (by decide) _ _ _)
  exact Frame.ite (h.trans (served e)) h

theorem raiseAttn_frame (d : Chip) (why : Attn) (l : Level) (cls : Nat) : Frame [.regs, .attn, .attnServed] d (d.raiseAttn why l cls) := by
  unfold Chip.raiseAttn
  refine Frame.trans (Frame.ite (.refl _ d) (b := d) ?_) ((attnUpdate_frame _).mono (by decide))
  intro p hp; cases p <;> first | rfl | exact absurd (by decide) hp

theorem endAttn_frame (d : Chip) (why : Attn) : Frame [.regs, .attn, .attnServed] d (d.endAttn why) := by
  refine Frame.trans (b := { d with attn := d.attn.filter (fun c => c.why ≠ why) }) ?_ ((attnUpdate_frame _).mono (by decide))
  intro p hp; cases p <;> first | rfl | exact absurd (by decide) hp

theorem note_frame (d : Chip) (cls : Nat) : Frame [.regs, .attnServed] d (d.note cls) :=
  (setBit_hub (by decide) d _ _ _).trans (attnUpdate_frame _)

/-! ## Cores and agents -/

theorem setCore_frame (d : Chip) (n : Nat) (c : ArmCore) : Frame [.arm] d (d.setCore n c) := by
  intro p hp; cases p <;> first | rfl | exact absurd (by decide) hp

theorem pend_frame (d : Chip) (n b : Nat) : Frame [.arm] d (d.pend n b) := setCore_frame d n _

theorem setAgentRec_frame (d : Chip) (a : Agent) (x : AgentState) : Frame [.agents] d (d.setAgentRec a x) := by
  intro p hp; cases p <;> first | rfl | exact absurd (by decide) hp

theorem setAgentSt_frame (d : Chip) (a : Agent) (st : BlockState) : Frame [.regs, .agents] d (d.setAgentSt a st) := by
  cases a with
  | block b => exact (setAgentRec_frame d _ _).mono (by decide)
  | wc n => exact (sr_hub (by decide) d _ _).trans (setBit_hub (by decide) _ _ _ _)
  | ac n => exact sr_hub (by decide) d _ _

theorem resetAgent_frame (d : Chip) (a : Agent) : Frame [.regs, .agents] d (d.resetAgent a) := by
  have h (x : AgentState) : Frame [.regs, .agents] d ((d.setAgentSt a .fenced).setAgentRec a x) :=
    (setAgentSt_frame d a .fenced).trans ((setAgentRec_frame _ a _).mono (by decide))
  cases a with
  | wc n => exact (h _).trans (sr_hub (by decide) _ _ _)
  | block b => exact h _
  | ac n => exact h _

theorem beginFence_frame (d : Chip) (a : Agent) (r : Bool) : Frame [.agents] d (d.beginFence a r) := setAgentRec_frame d a _

theorem blockReset_frame (d : Chip) (a : Agent) : Frame [.regs, .agents] d (d.blockReset a) := by
  unfold Chip.blockReset
  split
  · exact (beginFence_frame d a true).mono (by decide)
  · exact Frame.ite (.refl _ _) (resetAgent_frame d a)
  · exact .refl _ _
  · exact .refl _ _

theorem answered_frame (d : Chip) (a : Agent) (ok : Bool) : Frame [.answer] d (d.answered a ok) := by
  intro p hp; cases p <;> first | rfl | exact absurd (by decide) hp

/-! ## Patina's working copy -/

theorem patCount_frame (d : Chip) (off w n : Nat) : Frame [.pat] d (d.patCount off w n) := by
  intro p hp; cases p <;> first | rfl | exact absurd (by decide) hp

theorem patSet_frame (d : Chip) (off b : Nat) : Frame [.pat] d (d.patSet off b) := by
  intro p hp; cases p <;> first | rfl | exact absurd (by decide) hp

/-! ## The fault hub -/

theorem hubInterrupt_frame (d : Chip) : Frame [.regs, .arm] d d.hubInterrupt :=
  (setBit_hub (by decide) d _ _ _).trans ((pend_frame _ _ _).mono (by decide))

theorem hubNmi_frame (d : Chip) : Frame [.regs, .arm] d d.hubNmi :=
  (setBit_hub (by decide) d _ _ _).trans ((pend_frame _ _ _).mono (by decide))

/-- The hub's own state changed. -/
theorem hub_frame (d : Chip) (h : Hub) : Frame hubParts d { d with hub := h } := by
  intro p hp; cases p <;> first | rfl | exact absurd (by decide) hp

theorem enterSafe_frame (d : Chip) (cause : Nat) (boot : Bool) : Frame hubParts d (d.enterSafe cause boot) := by
  unfold Chip.enterSafe
  extract_lets e1 hb e2 e3
  have h1 : Frame hubParts d e1 := ((sr_hub (by decide) d _ _).trans (sr_hub (by decide) _ _ _)).trans (sr_hub (by decide) _ _ _)
  have h2 : Frame hubParts e1 e2 := (hub_frame e1 _).trans ((patCount_frame _ _ _ _).mono (by decide))
  have h3 : Frame hubParts e2 e3 := (sr_hub (by decide) e2 _ _).trans (sr_hub (by decide) _ _ _)
  exact ((h1.trans h2).trans h3).trans ((raiseAttn_frame _ _ _ _).mono (by decide))

theorem react_frame (d : Chip) (source r : Nat) : Frame hubParts d (d.react source r) := by
  unfold Chip.react
  split
  · exact (hubInterrupt_frame d).mono (by decide)
  · exact (hubNmi_frame d).mono (by decide)
  · exact (((blockReset_frame d _).mono (by decide)).trans ((hubInterrupt_frame _).mono (by decide))).trans ((note_frame _ _).mono (by decide))
  · exact ((raiseAttn_frame d _ _ _).mono (by decide)).trans (hub_frame _ _)
  · extract_lets hb e
    have h : Frame hubParts d e := (hub_frame d _).trans ((patCount_frame _ _ _ _).mono (by decide))
    exact h.trans (((raiseAttn_frame e _ _ _).mono (by decide)).trans ((hubNmi_frame _).mono (by decide)))
  · exact enterSafe_frame d _ _
  · exact .refl _ _

theorem history_frame (d : Chip) (source detail reaction : Nat) (a b c e f g : Bool) :
    Frame [.regs] d (d.history source detail reaction a b c e f g) := by
  have two (x : Chip) (f g : Fld) (v w : Nat) : Frame [.regs] x ((x.sr f v).sr g w) := (sr_frame x f v).trans (sr_frame _ g w)
  unfold Chip.history
  extract_lets n e1 e2 e3 e4 e5
  exact (((((two d _ _ _ _).trans (two e1 _ _ _ _)).trans (two e2 _ _ _ _)).trans (two e3 _ _ _ _)).trans (two e4 _ _ _ _)).trans
    ((sr_frame e5 _ _).trans (mr_hub (by decide) _ _ _))

theorem satMark_frame (d : Chip) (f : Fld) : Frame [.regs, .satCtrs] d (d.satMark f) := by
  intro p hp; cases p <;> first | rfl | exact absurd (by decide) hp

theorem bump_frame (d : Chip) (f : Fld) (n : Nat) : Frame [.regs, .satCtrs] d (d.bump f n) := by
  unfold Chip.bump
  exact Frame.ite (Frame.ite (.refl _ _) (satMark_frame d f)) (sr_hub (by decide) d _ _)

theorem window_frame (d : Chip) (s : Nat) : Frame [.regs] d (d.window s) := by
  unfold Chip.window
  extract_lets n ws start e
  have h : Frame [.regs] d e :=
    Frame.ite ((sr_hub (by decide) d _ _).trans (sr_hub (by decide) _ _ _)) (mr_hub (by decide) d _ _)
  exact Frame.ite (.refl _ d) (Frame.ite (h.trans (sr_hub (by decide) e _ _)) h)

theorem syncHeld_frame (d : Chip) : Frame [.regs] d d.syncHeld := sr_frame d _ _

theorem hold_frame (d : Chip) (s r detail : Nat) (inj : Bool) : Frame hubParts d (d.hold s r detail inj) := by
  unfold Chip.hold
  extract_lets hb e
  have h : Frame hubParts d e := Frame.ite (hub_frame d _) (hub_frame d _)
  exact ((h.trans (sr_hub (by decide) e _ _)).trans ((hubNmi_frame _).mono (by decide))).trans ((syncHeld_frame _).mono (by decide))

/-- An event of a source changes the hub's parts only. -/
theorem raiseCore_frame (d : Chip) (s detail : Nat) (inj : Bool) : Frame hubParts d (d.raiseCore s detail inj) := by
  have trig (q : Prop) [Decidable q] (e : Chip) : Frame hubParts e (if q then { e with trc := { e.trc with due := true } } else e) := by
    refine Frame.ite ?_ (.refl _ _)
    intro p hp; cases p <;> first | rfl | exact absurd (by decide) hp
  have end_ (e : Chip) (r : Nat) (b : Bool) : Frame hubParts e
      (if e.hub.inReset then e.history s detail 6 false false false b inj false
       else if e.holds s r then (e.history s detail 6 false false true b inj false).hold s r detail inj
       else (e.history s detail r false false false b inj (r = 5)).react s r) := by
    refine Frame.ite ((history_frame _ _ _ _ _ _ _ _ _ _).mono (by decide)) (Frame.ite ?_ ?_)
    · exact ((history_frame _ _ _ _ _ _ _ _ _ _).mono (by decide)).trans (hold_frame _ _ _ _ _)
    · exact ((history_frame _ _ _ _ _ _ _ _ _ _).mono (by decide)).trans (react_frame _ _ _)
  unfold Chip.raiseCore
  extract_lets e1 e2 tr e3 severe r
  have h : Frame hubParts d e3 := by
    refine Frame.trans (Frame.trans (Frame.trans (sr_hub (by decide) d _ _) ((bump_frame _ _ 1).mono (by decide)))
      ((window_frame _ s).mono (by decide))) (trig _ e2)
  exact h.trans (end_ e3 r severe)

/-- A counter counted changes the hub's parts only. -/
theorem count_frame (d : Chip) (f : Fld) (n : Nat := 1) : Frame hubParts d (d.count f n) := by
  have h : Frame hubParts d (d.bump f n) := (bump_frame d f n).mono (by decide)
  unfold Chip.count
  extract_lets k e
  exact Frame.ite (h.trans (((bump_frame _ _ _).mono (by decide)).trans (raiseCore_frame _ _ _ _))) h

theorem wake_frame (d : Chip) : Frame hubParts d d.wake := by
  have h (x : PwrUnit) : Frame hubParts d { d with pwr := x } := by
    intro p hp; cases p <;> first | rfl | exact absurd (by decide) hp
  unfold Chip.wake
  exact Frame.ite ((h _).trans (count_frame _ _)) (Frame.ite ((h _).trans (count_frame _ _)) (.refl _ _))

/-- A fault event changes the hub's parts only. -/
theorem fault_frame (d : Chip) (s : Nat) (detail : Nat := 0) (inj : Bool := false) : Frame hubParts d (d.fault s detail inj) := by
  have h : Frame hubParts d (d.wake.raiseCore s detail inj) := (wake_frame d).trans (raiseCore_frame _ s detail inj)
  unfold Chip.fault
  extract_lets k e
  exact Frame.ite (h.trans (raiseCore_frame _ _ _ _)) h

theorem patEvent_frame (d : Chip) (type : Nat) (body : List Nat) : Frame hubParts d (d.patEvent type body) := by
  have h (x : Patina) : Frame hubParts d { d with pat := x } := by
    intro p hp; cases p <;> first | rfl | exact absurd (by decide) hp
  unfold Chip.patEvent
  extract_lets r
  exact Frame.ite (((h _).trans (sr_hub (by decide) _ _ _)).trans (count_frame _ _)) (h _)

end Sys2Proof.Machine
end

