-- ==== Sys2Proof/Laws/Tables.lean ====
section
/-! SUPPORT. Lookups in sparse tables after a put or a delete. -/
namespace Sys2Proof.Machine
open Sys2Proof

theorem tget_tput_self {α : Type} (t : Tbl α) (a : Nat) (v : α) : tget (tput t a v) a = some v := by
  induction t with
  | nil => simp [tput, tget]
  | cons p t ih =>
    obtain ⟨k, w⟩ := p
    simp only [tput]
    split
    · simp [tget]
    · split
      · simp [tget]
      · rename_i h1 h2; simp [tget, h2, ih]

theorem tget_tput_ne {α : Type} (t : Tbl α) (a b : Nat) (v : α) (h : b ≠ a) : tget (tput t a v) b = tget t b := by
  induction t with
  | nil => simp [tput, tget, Ne.symm h]
  | cons p t ih =>
    obtain ⟨k, w⟩ := p
    simp only [tput]
    split
    · simp [tget, Ne.symm h]
    · split
      · rename_i h1 h2; subst h2; simp [tget, Ne.symm h]
      · simp [tget, ih]

theorem tget_tdel_self {α : Type} (t : Tbl α) (a : Nat) : tget (tdel t a) a = none := by
  induction t with
  | nil => rfl
  | cons p t ih =>
    obtain ⟨k, v⟩ := p
    by_cases hk : k = a <;> simp_all [tdel, tget]

theorem tget_tdel_ne {α : Type} (t : Tbl α) (a b : Nat) (h : b ≠ a) : tget (tdel t a) b = tget t b := by
  induction t with
  | nil => rfl
  | cons p t ih =>
    obtain ⟨k, v⟩ := p
    by_cases hk : k = a
    · subst hk; simp_all [tdel, tget, Ne.symm h]
    · by_cases hb : k = b <;> simp_all [tdel, tget]

/-- A lookup after a change under one key. -/
theorem tget_tupd {α : Type} (t : Tbl α) (a b : Nat) (f : α → α) :
    tget (tupd t a f) b = if b = a then (tget t b).map f else tget t b := by
  induction t with
  | nil => simp [tupd, tget]
  | cons p t ih =>
    obtain ⟨k, v⟩ := p
    by_cases hk : k = a <;> by_cases hb : k = b <;> simp_all [tupd, tget]

end Sys2Proof.Machine
end

