-- ==== Sys2Proof/Laws/Memory.lean ====
section
/-! SUPPORT. Device memory: its canonical form after every operation that writes it, a byte read after a write, and what memory operations
leave of the ledger. -/
namespace Sys2Proof.Machine
open Sys2Proof

/-! ## The canonical form -/

theorem cellsWf_iff (cs : List Host.Cell) :
    cellsWf cs = true ↔ cs.Pairwise (fun a b => a.1 < b.1) ∧ ∀ c ∈ cs, c.2 ≠ BitVec.ofNat 8 unwritten := by
  simp [cellsWf]

theorem cellsWf_filter (cs : List Host.Cell) (p : Host.Cell → Bool) (h : cellsWf cs = true) : cellsWf (cs.filter p) = true := by
  rw [cellsWf_iff] at h ⊢
  exact ⟨h.1.sublist List.filter_sublist, fun c hc => h.2 c (List.mem_filter.mp hc).1⟩

theorem mem_tput {α : Type} {t : Tbl α} {n : Nat} {v : α} {p : Nat × α} (h : p ∈ tput t n v) : p = (n, v) ∨ p ∈ t := by
  induction t with
  | nil => simpa [tput] using h
  | cons q t ih =>
    obtain ⟨k, w⟩ := q
    simp only [tput] at h
    split at h
    · simpa using h
    · split at h
      · rcases List.mem_cons.mp h with h | h
        · exact .inl h
        · exact .inr (List.mem_cons_of_mem _ h)
      · rcases List.mem_cons.mp h with h | h
        · exact .inr (h ▸ List.mem_cons_self)
        · exact (ih h).imp_right (List.mem_cons_of_mem _)

theorem tput_sorted {α : Type} {t : Tbl α} (n : Nat) (v : α) (h : t.Pairwise (fun a b => a.1 < b.1)) :
    (tput t n v).Pairwise (fun a b => a.1 < b.1) := by
  induction t with
  | nil => simp [tput]
  | cons q t ih =>
    obtain ⟨k, w⟩ := q
    have hq := List.pairwise_cons.mp h
    simp only [tput]
    split
    · rename_i hn
      refine List.pairwise_cons.mpr ⟨fun p hp => ?_, h⟩
      rcases List.mem_cons.mp hp with rfl | hp
      · exact hn
      · exact Nat.lt_trans hn (hq.1 p hp)
    · split
      · rename_i hk
        subst hk
        exact List.pairwise_cons.mpr ⟨hq.1, hq.2⟩
      · refine List.pairwise_cons.mpr ⟨fun p hp => ?_, ih hq.2⟩
        rcases mem_tput hp with rfl | hp
        · simp only; omega
        · exact hq.1 p hp

theorem cellsWf_put (cs : List Host.Cell) (a b : Nat) (h : cellsWf cs = true) : cellsWf (cellsPut cs a b) = true := by
  unfold cellsPut
  extract_lets v
  split
  · exact cellsWf_filter cs _ h
  · rename_i hv
    rw [cellsWf_iff] at h ⊢
    refine ⟨tput_sorted a v h.1, fun c hc => ?_⟩
    rcases mem_tput hc with rfl | hc
    · exact hv
    · exact h.2 c hc

theorem reset_cellsWf : cellsWf State.reset.chip.mem.cells = true := rfl

/-! ## Bytes read after a write -/

theorem tget_cellsPut_self (cs : List Host.Cell) (a b : Nat) :
    tget (cellsPut cs a b) a = if b % 256 = unwritten then none else some (BitVec.ofNat 8 b) := by
  have e : (BitVec.ofNat 8 b = BitVec.ofNat 8 unwritten) ↔ b % 256 = unwritten := by
    simp [← BitVec.toNat_inj, BitVec.toNat_ofNat, unwritten]
  unfold cellsPut
  extract_lets v
  by_cases h : b % 256 = unwritten
  · rw [if_pos (e.mpr h), if_pos h, tget_tdel_self]
  · rw [if_neg (mt e.mp h), if_neg h, tget_tput_self]

theorem tget_cellsPut_ne (cs : List Host.Cell) (a b c : Nat) (h : c ≠ a) : tget (cellsPut cs a b) c = tget cs c := by
  unfold cellsPut
  extract_lets v
  split
  · exact tget_tdel_ne _ _ _ h
  · exact tget_tput_ne _ _ _ _ h

theorem arrayByte_putByte_self (d : Chip) (a b : Nat) : (d.putByte a b).arrayByte a = b % 256 := by
  simp only [Chip.arrayByte, Chip.putByte, tget_cellsPut_self]
  by_cases h : b % 256 = unwritten <;> simp [h]

theorem arrayByte_putByte_ne (d : Chip) (a b c : Nat) (h : c ≠ a) : (d.putByte a b).arrayByte c = d.arrayByte c := by
  simp only [Chip.arrayByte, Chip.putByte, tget_cellsPut_ne _ _ _ _ h]

@[simp] theorem setPoison_cells (d : Chip) (g : Nat) (p : Bool) : (d.setPoison g p).mem.cells = d.mem.cells := rfl

@[simp] theorem setPoison_arrayByte (d : Chip) (g : Nat) (p : Bool) (a : Nat) : (d.setPoison g p).arrayByte a = d.arrayByte a := rfl

/-! ## What a memory operation keeps -/

/-- Memory stays in its canonical form, and the ledger holds the items it held and gives the sequence number it would have given. -/
def Keeps (d d' : Chip) : Prop :=
  (cellsWf d.mem.cells = true → cellsWf d'.mem.cells = true) ∧ d'.led.items = d.led.items ∧ d'.led.nextSeq = d.led.nextSeq

theorem Keeps.refl (d : Chip) : Keeps d d := ⟨id, rfl, rfl⟩

theorem Keeps.trans {a b c : Chip} (h : Keeps a b) (k : Keeps b c) : Keeps a c :=
  ⟨k.1 ∘ h.1, k.2.1.trans h.2.1, k.2.2.trans h.2.2⟩

theorem Keeps.ite {a b c : Chip} {q : Prop} [Decidable q] (h : Keeps a b) (k : Keeps a c) : Keeps a (if q then b else c) := by
  split <;> assumption

theorem Keeps.foldl {α : Type} (f : Chip → α → Chip) (h : ∀ d x, Keeps d (f d x)) (l : List α) (d : Chip) : Keeps d (l.foldl f d) := by
  induction l generalizing d with
  | nil => exact .refl d
  | cons x l ih => exact (h d x).trans (ih _)

/-- A frame that names neither memory nor the ledger keeps both. -/
theorem Keeps.of_frame {P : List Part} {a b : Chip} (h : Frame P a b) (hm : Part.mem ∉ P) (hl : Part.led ∉ P) : Keeps a b := by
  have m : b.mem = a.mem := h .mem hm
  have l : b.led = a.led := h .led hl
  exact ⟨fun w => m ▸ w, by rw [l], by rw [l]⟩

theorem Keeps.inv {a b : Chip} (h : Keeps a b) (i : Inv a) : Inv b := by
  obtain ⟨⟨h1, h2, h3⟩, h4⟩ := i
  unfold Inv LedgerInOrder
  rw [h.2.1, h.2.2]
  exact ⟨⟨h1, h2, h3⟩, h.1 h4⟩

theorem sr_keeps (d : Chip) (f : Fld) (v : Nat) : Keeps d (d.sr f v) := ⟨id, rfl, rfl⟩
theorem mr_keeps (d : Chip) (f : Fld) (g : Nat → Nat) : Keeps d (d.mr f g) := ⟨id, rfl, rfl⟩
theorem setBit_keeps (d : Chip) (f : Fld) (i : Nat) (b : Bool) : Keeps d (d.setBit f i b) := ⟨id, rfl, rfl⟩
theorem mu_keeps (d : Chip) (u : MemUnit) : Keeps d { d with mu := u } := ⟨id, rfl, rfl⟩
theorem patCount_keeps (d : Chip) (o w n : Nat) : Keeps d (d.patCount o w n) := ⟨id, rfl, rfl⟩
theorem takeFree_keeps (d : Chip) : Keeps d d.takeFree := ⟨id, rfl, rfl⟩
theorem count_keeps (d : Chip) (f : Fld) (n : Nat := 1) : Keeps d (d.count f n) := .of_frame (count_frame d f n) (by decide) (by decide)
theorem fault_keeps (d : Chip) (s : Nat) (detail : Nat := 0) (inj : Bool := false) : Keeps d (d.fault s detail inj) :=
  .of_frame (fault_frame d s detail inj) (by decide) (by decide)
theorem note_keeps (d : Chip) (c : Nat) : Keeps d (d.note c) := .of_frame (note_frame d c) (by decide) (by decide)
theorem raiseAttn_keeps (d : Chip) (why : Attn) (l : Level) (c : Nat) : Keeps d (d.raiseAttn why l c) :=
  .of_frame (raiseAttn_frame d why l c) (by decide) (by decide)
theorem patEvent_keeps (d : Chip) (t : Nat) (b : List Nat) : Keeps d (d.patEvent t b) := .of_frame (patEvent_frame d t b) (by decide) (by decide)

theorem putByte_keeps (d : Chip) (a b : Nat) : Keeps d (d.putByte a b) := ⟨cellsWf_put _ a b, rfl, rfl⟩

theorem putBytes_keeps (d : Chip) (a : Nat) (bs : List (Nat × Nat)) :
    Keeps d (bs.foldl (fun (d : Chip) (p : Nat × Nat) => d.putByte (a + p.1) p.2) d) :=
  .foldl _ (fun d p => putByte_keeps d _ _) bs d

theorem setPoison_keeps (d : Chip) (g : Nat) (p : Bool) : Keeps d (d.setPoison g p) := ⟨id, rfl, rfl⟩

theorem applyFlip_keeps (d : Chip) (w : Nat) : Keeps d (d.applyFlip w) := by
  unfold Chip.applyFlip
  split
  · extract_lets m n e
    have h : Keeps d e := (sr_keeps d _ _).trans (sr_keeps _ _ _)
    exact Keeps.ite h (h.trans (mu_keeps e _))
  · exact .refl d

theorem wordWritten_keeps (d : Chip) (w : Nat) : Keeps d (d.wordWritten w) := by
  unfold Chip.wordWritten
  extract_lets e
  exact ((setPoison_keeps d w false).trans (mu_keeps e _)).trans (applyFlip_keeps _ w)

/-! ## Plinth errors -/

theorem addRemap_keeps (d : Chip) (source a : Nat) : Keeps d (d.addRemap source a) := by
  unfold Chip.addRemap
  extract_lets die w ent u1 e
  refine Keeps.ite (.refl d) (Keeps.ite ?_ ?_)
  · exact ((count_keeps d _).trans (fault_keeps _ _ _)).trans (note_keeps _ _)
  · have h : Keeps d e := Keeps.ite (mu_keeps d _) (mu_keeps d _)
    exact h.trans (sr_keeps e _ _)

theorem plinthCE_keeps (d : Chip) (w : Nat) : Keeps d (d.plinthCE w) := by
  unfold Chip.plinthCE
  extract_lets e seen n u1 e' u2
  have h : Keeps d e := ((count_keeps d _).trans (patCount_keeps _ _ _ _)).trans (fault_keeps _ _ _)
  exact Keeps.ite (((h.trans (mu_keeps e _)).trans (addRemap_keeps e' 2 w)).trans (patEvent_keeps _ _ _)) (h.trans (mu_keeps e _))

theorem ledgerLost_keeps (d : Chip) : Keeps d d.ledgerLost := by
  unfold Chip.ledgerLost
  refine Keeps.ite (.refl d) ?_
  have h : Keeps d { d with led := { d.led with lost := true } } := ⟨id, rfl, rfl⟩
  exact ((h.trans (sr_keeps _ _ _)).trans (sr_keeps _ _ _)).trans (fault_keeps _ _ _)

theorem copyFail_keeps (d : Chip) (die : Nat) (room : Bool) : Keeps d (d.copyFail die room) := by
  unfold Chip.copyFail
  extract_lets c room' e
  refine Keeps.ite (ledgerLost_keeps d) ?_
  have h : Keeps d e := (setBit_keeps d _ _ _).trans (sr_keeps _ _ _)
  exact (Keeps.ite (h.trans (fault_keeps e _ _)) h).trans (raiseAttn_keeps _ _ _ _)

theorem bankFail_keeps (d : Chip) (bank : Nat) : Keeps d (d.bankFail bank) := by
  unfold Chip.bankFail
  extract_lets die left e1 clear e2 u1 e3 u2
  have h : Keeps d e2 := ((fault_keeps d _ _).trans (raiseAttn_keeps _ _ _ _)).trans (copyFail_keeps e1 _ _)
  exact Keeps.ite (h.trans (mu_keeps e2 _)) ((h.trans ((sr_keeps e2 _ _).trans (patEvent_keeps _ _ _))).trans (mu_keeps e3 _))

theorem plinthUE_keeps (d : Chip) (w : Nat) : Keeps d (d.plinthUE w) := by
  unfold Chip.plinthUE
  extract_lets e1 b seen u1 e2
  have h : Keeps d e2 :=
    ((((setPoison_keeps d w true).trans (count_keeps _ _)).trans (patCount_keeps _ _ _ _)).trans (fault_keeps _ _ _)).trans (mu_keeps e1 _)
  exact Keeps.ite (h.trans (bankFail_keeps e2 b)) h

theorem settle_keeps (d : Chip) (a n : Nat) : Keeps d (d.settle a n) := by
  refine Keeps.foldl _ (fun d p => ?_) _ d
  extract_lets u1 e1 corr e2
  have h : Keeps d e2 := (mu_keeps d _).trans (Keeps.ite (takeFree_keeps e1) (.refl e1))
  exact Keeps.ite (h.trans (plinthCE_keeps e2 _)) (h.trans (plinthUE_keeps e2 _))

/-! ## Writes -/

theorem flushMerge_keeps (d : Chip) (w : Nat) : Keeps d (d.flushMerge w) := by
  unfold Chip.flushMerge
  split
  · exact .refl d
  · rename_i e _
    extract_lets u1 e1 e2
    have h1 : Keeps d e1 := mu_keeps d _
    have h2 : Keeps e1 e2 := (count_keeps e1 _).trans (settle_keeps _ _ _)
    exact Keeps.ite ((h1.trans (putBytes_keeps e1 w _)).trans (wordWritten_keeps _ w))
      (Keeps.ite (h1.trans h2) (((h1.trans h2).trans (putBytes_keeps e2 w _)).trans (applyFlip_keeps _ w)))

theorem mergeWrite_keeps (d : Chip) (w : Nat) (bs : List (Nat × Nat)) : Keeps d (d.mergeWrite w bs) := by
  unfold Chip.mergeWrite
  split
  · extract_lets e u1 e1
    have h : Keeps d e1 := mu_keeps d _
    exact Keeps.ite (h.trans (flushMerge_keeps e1 w)) h
  · extract_lets bank e1
    have h : Keeps d e1 := Keeps.ite (flushMerge_keeps d _) (.refl d)
    exact h.trans (mu_keeps e1 _)

theorem writeGran_keeps (d : Chip) (g : Nat) (bs : List (Nat × Nat)) (poison : Bool) : Keeps d (d.writeGran g bs poison) := by
  unfold Chip.writeGran
  extract_lets whole u0 u1 e1 clears was e2 e3
  refine Keeps.ite (count_keeps d _) (Keeps.ite (Keeps.ite ?_ (Keeps.ite ?_ (mergeWrite_keeps d g bs))) ?_)
  · exact (setPoison_keeps d g true).trans (mu_keeps _ _)
  · exact ((mu_keeps d _).trans (putBytes_keeps e1 g bs)).trans (wordWritten_keeps _ g)
  · have h2 : Keeps d e2 := Keeps.ite ((setPoison_keeps d g was).trans (takeFree_keeps _)) (.refl d)
    have h3 : Keeps d e3 := h2.trans (Keeps.ite (.refl e2) (putBytes_keeps e2 g bs))
    exact Keeps.ite (h3.trans (setPoison_keeps e3 g true)) (Keeps.ite (h3.trans (setPoison_keeps e3 g false)) h3)

theorem writePhysAux_keeps (k : Nat) (d : Chip) (a : Nat) (bs : List (Nat × Bool)) : Keeps d (d.writePhysAux k a bs) := by
  induction k generalizing d a bs with
  | zero => exact .refl d
  | succ k ih =>
    unfold Chip.writePhysAux
    exact Keeps.ite (.refl d) ((writeGran_keeps d _ _ _).trans (ih _ _ _))

theorem writePhys_keeps (d : Chip) (a : Nat) (bs : List (Nat × Bool)) : Keeps d (d.writePhys a bs) := writePhysAux_keeps _ d a bs

theorem setPte_keeps (d : Chip) (n : Nat) (e : PTE) : Keeps d (d.setPte n e) := by
  unfold Chip.setPte
  extract_lets a e1
  have h : Keeps d e1 := .foldl _ (fun d b => putByte_keeps d _ _) _ d
  exact h.trans (mu_keeps e1 _)

theorem queuePage_keeps (d : Chip) (page tier : Nat) (up : Bool) : Keeps d (d.queuePage page tier up) := by
  unfold Chip.queuePage
  extract_lets p u
  exact Keeps.ite (count_keeps d _) (mu_keeps d _)

theorem heatPage_keeps (d : Chip) (n k : Nat) : Keeps d (d.heatPage n k) := by
  unfold Chip.heatPage
  extract_lets e h e1 crosses e2
  have h1 : Keeps d e1 := setPte_keeps d n _
  have h2 : Keeps d e2 := Keeps.ite (h1.trans (queuePage_keeps e1 _ _ _)) h1
  exact Keeps.ite (.refl d) (Keeps.ite (h2.trans (queuePage_keeps e2 _ _ _)) h2)

theorem xlatTouch_keeps (d : Chip) (n k : Nat) : Keeps d (d.xlatTouch n k) := by
  unfold Chip.xlatTouch
  generalize d.mu.xlat[Config.freeNat d.free % 16384]? = o
  extract_lets u1 e u2
  have h : Keeps d e := by
    refine Keeps.ite ?_ (.refl d)
    cases o with
    | none => exact .refl d
    | some v => exact (Keeps.trans (mu_keeps d _) (takeFree_keeps _)).trans (heatPage_keeps _ _ _)
  exact h.trans (mu_keeps e _)

theorem ckp_keeps (d : Chip) (u : CkpUnit) : Keeps d { d with ckp := u } := ⟨id, rfl, rfl⟩

theorem ckpCopy_keeps (d : Chip) (j : Nat) (x : CkpJob) (r : CkpRun) (n k logical : Nat) : Keeps d (d.ckpCopy j x r n k logical) := by
  unfold Chip.ckpCopy
  extract_lets a bs poison base e1 c u1 e2
  have h : Keeps d e1 := writePhys_keeps d _ _
  exact (h.trans (ckp_keeps e1 _)).trans (count_keeps e2 _)

theorem chargeOver_keeps (d : Chip) (p : Nat) (u : PlanUse) : Keeps d (d.chargeOver p u) := by
  unfold Chip.chargeOver
  split
  · exact .refl d
  · extract_lets c m cap ports kept e
    exact Keeps.ite ⟨id, rfl, rfl⟩ ⟨id, rfl, rfl⟩

theorem cowWrite_keeps (d : Chip) (n : Nat) : Keeps d (d.cowWrite n) := by
  have dirty (e : PTE) : Keeps d (if e.dirty then d else d.setPte n { e with dirty := true }) := Keeps.ite (.refl d) (setPte_keeps d n _)
  unfold Chip.cowWrite
  extract_lets e
  split
  · split
    · extract_lets cr cp logical
      refine Keeps.ite (dirty e) (Keeps.ite (.refl d) (Keeps.ite (setPte_keeps d n _) ?_))
      split
      · exact (((chargeOver_keeps d _ _).trans (ckpCopy_keeps _ _ _ _ _ _ _)).trans (count_keeps _ _)).trans (setPte_keeps _ n _)
      · exact (count_keeps d _).trans (setPte_keeps _ n _)
    · exact dirty e
  · exact dirty e

theorem touchPage_keeps (d : Chip) (a : Nat) (w : Bool) : Keeps d (d.touchPage a w) := by
  unfold Chip.touchPage
  exact Keeps.ite ((Keeps.ite (cowWrite_keeps d _) (.refl d)).trans (xlatTouch_keeps _ _ _)) (.refl d)

theorem writeRangeAux_keeps (k : Nat) (d : Chip) (a : Nat) (bs : List (Nat × Bool)) : Keeps d (d.writeRangeAux k a bs) := by
  induction k generalizing d a bs with
  | zero => exact .refl d
  | succ k ih =>
    unfold Chip.writeRangeAux
    extract_lets n e1 e2
    refine Keeps.ite (.refl d) (Keeps.ite ?_ (writePhys_keeps d a bs))
    have h : Keeps e1 e2 := by
      show Keeps e1 (match e1.xlate a with | some p => _ | none => _)
      split
      · exact Keeps.ite (count_keeps e1 _) (writePhys_keeps e1 _ _)
      · exact .refl e1
    exact ((touchPage_keeps d a true).trans h).trans (ih e2 _ _)

theorem hif_keeps (d : Chip) (u : Hif) : Keeps d { d with hif := u } := ⟨id, rfl, rfl⟩

theorem translate_keeps (d : Chip) (a n : Nat) : Keeps d (d.translate a n) := by
  unfold Chip.translate
  extract_lets p
  split
  · exact .refl d
  · extract_lets h
    refine Keeps.ite (.refl d) (.foldl _ (fun d k => ?_) _ d)
    extract_lets key u1
    exact Keeps.ite (.refl d) (Keeps.trans (hif_keeps d _) (count_keeps _ _))

theorem markDirty_keeps (d : Chip) (a n : Nat) : Keeps d (d.markDirty a n) := by
  unfold Chip.markDirty
  extract_lets p
  split
  · exact .refl d
  · split
    · exact .refl d
    · extract_lets h pages inside e
      have k : Keeps d e := .foldl _ (fun d k => writePhys_keeps d _ _) _ d
      exact Keeps.ite (k.trans (count_keeps e _)) k

/-- A write of a range keeps memory's canonical form and the ledger. -/
theorem writeRange_keeps (d : Chip) (a : Nat) (bs : List (Nat × Bool)) : Keeps d (d.writeRange a bs) := by
  unfold Chip.writeRange
  extract_lets e
  have h : Keeps d e := Keeps.ite ((translate_keeps d _ _).trans (markDirty_keeps _ _ _)) (.refl d)
  exact h.trans (writeRangeAux_keeps _ e a bs)

theorem wr_keeps (d : Chip) (a : Nat) (bs : List Nat) : Keeps d (d.wr a bs) := writeRange_keeps d a _

theorem wrNum_keeps (d : Chip) (a n v : Nat) : Keeps d (d.wrNum a n v) := wr_keeps d a _

theorem notePhys_keeps (d : Chip) (p n : Nat) : Keeps d (d.notePhys p n) := by
  unfold Chip.notePhys
  extract_lets e1 k q e2
  have h1 : Keeps d e1 := settle_keeps d p n
  have h2 : Keeps d e2 := Keeps.ite h1 (h1.trans (count_keeps e1 _ _))
  exact Keeps.ite h2 (h2.trans (count_keeps e2 _ _))

theorem noteRead_keeps (d : Chip) (a n : Nat) : Keeps d (d.noteRead a n) := by
  refine Keeps.foldl _ (fun d s => ?_) _ d
  split
  · exact .refl d
  · exact (touchPage_keeps d _ _).trans (notePhys_keeps _ _ _)

theorem zeroRange_keeps (d : Chip) (a n : Nat) : Keeps d (d.zeroRange a n) := by
  unfold Chip.zeroRange
  extract_lets words u1 e w
  have h : Keeps d e := ⟨cellsWf_filter _ _, rfl, rfl⟩
  exact Keeps.ite (h.trans (applyFlip_keeps e w)) h

end Sys2Proof.Machine
end

