-- ==== Sys2Proof/Laws/Ledger.lean ====
section
/-! SUPPORT. The ledger's shared operations: the slot an accepted item takes is free, and what acceptance, changes of items, replies and
the freeing of slots keep. -/
namespace Sys2Proof.Machine
open Sys2Proof

/-! ## Slots -/

/-- The slot an accepted item takes is free. -/
theorem lowestSlot_free (is : List Item) : ∀ i ∈ is, i.slot ≠ lowestSlot is := by
  have hsome : ((List.range (is.length + 1)).find? (fun n => is.all (fun i => decide (i.slot ≠ n)))).isSome = true := by
    rw [Option.isSome_iff_ne_none]
    intro hn
    have used : ∀ n ∈ List.range (is.length + 1), n ∈ is.map Item.slot := by
      intro n hm
      have := List.find?_eq_none.mp hn n hm
      simp only [List.all_eq_true, decide_eq_true_eq, not_forall, not_not] at this
      obtain ⟨i, hi, he⟩ := this
      exact List.mem_map.mpr ⟨i, hi, he⟩
    have := (List.nodup_range.subperm used).length_le
    simp at this
  obtain ⟨n, hn⟩ := Option.isSome_iff_exists.mp hsome
  have hp := List.find?_some hn
  have e : lowestSlot is = n := by simp only [lowestSlot, hn, Option.getD_some]
  intro i hi
  rw [e]
  exact of_decide_eq_true (List.all_eq_true.mp hp i hi)

/-! ## What a ledger operation keeps -/

/-- The number and the slot of every item. -/
def Chip.places (d : Chip) : List (Nat × Nat) := d.led.items.map (fun i => (i.seq, i.slot))

/-- Memory stays in its canonical form, and the ledger holds no item it did not hold, each in its slot and in its order. -/
def KeepsPlaces (d d' : Chip) : Prop :=
  (cellsWf d.mem.cells = true → cellsWf d'.mem.cells = true) ∧ d'.places.Sublist d.places ∧ d.led.nextSeq ≤ d'.led.nextSeq

theorem Keeps.places {d d' : Chip} (h : Keeps d d') : KeepsPlaces d d' :=
  ⟨h.1, by unfold Chip.places; rw [h.2.1], by rw [h.2.2]⟩

theorem KeepsPlaces.refl (d : Chip) : KeepsPlaces d d := (Keeps.refl d).places

theorem KeepsPlaces.trans {a b c : Chip} (h : KeepsPlaces a b) (k : KeepsPlaces b c) : KeepsPlaces a c :=
  ⟨k.1 ∘ h.1, k.2.1.trans h.2.1, Nat.le_trans h.2.2 k.2.2⟩

theorem KeepsPlaces.ite {a b c : Chip} {q : Prop} [Decidable q] (h : KeepsPlaces a b) (k : KeepsPlaces a c) :
    KeepsPlaces a (if q then b else c) := by split <;> assumption

theorem KeepsPlaces.foldl {α : Type} (f : Chip → α → Chip) (h : ∀ d x, KeepsPlaces d (f d x)) (l : List α) (d : Chip) :
    KeepsPlaces d (l.foldl f d) := by
  induction l generalizing d with
  | nil => exact .refl d
  | cons x l ih => exact (h d x).trans (ih _)

/-- An operation that keeps the places keeps the invariant. -/
theorem KeepsPlaces.inv {a b : Chip} (h : KeepsPlaces a b) (i : Inv a) : Inv b := by
  obtain ⟨⟨h1, h2, h3⟩, h4⟩ := i
  have seqs (d : Chip) : d.led.items.map (fun i => i.seq) = d.places.map Prod.fst := by simp [Chip.places]
  have slots (d : Chip) : d.led.items.map (fun i => i.slot) = d.places.map Prod.snd := by simp [Chip.places]
  refine ⟨⟨?_, fun i hi => ?_, ?_⟩, h.1 h4⟩
  · rw [seqs] at h1 ⊢
    exact h1.sublist (h.2.1.map _)
  · have : (i.seq, i.slot) ∈ a.places := h.2.1.subset (List.mem_map.mpr ⟨i, hi, rfl⟩)
    obtain ⟨j, hj, e⟩ := List.mem_map.mp this
    have := h2 j hj
    have := congrArg Prod.fst e
    have := h.2.2
    simp only at *
    omega
  · rw [slots] at h3 ⊢
    exact h3.sublist (h.2.1.map _)

/-- Items changed one by one, their numbers and slots as they were. -/
theorem mapItems_keeps (d : Chip) (f : Item → Item) (h : ∀ i, (f i).seq = i.seq ∧ (f i).slot = i.slot) :
    KeepsPlaces d { d with led := { d.led with items := d.led.items.map f } } := by
  refine ⟨id, ?_, Nat.le_refl _⟩
  have e : (d.led.items.map f).map (fun i => (i.seq, i.slot)) = d.places := by
    rw [List.map_map]
    exact List.map_congr_left (fun i _ => by simp [h i])
  unfold Chip.places at *
  rw [e]

theorem updItem_keeps (d : Chip) (seq : Nat) (f : Item → Item) (h : ∀ i, (f i).seq = i.seq ∧ (f i).slot = i.slot) :
    KeepsPlaces d (d.updItem seq f) :=
  mapItems_keeps d _ (fun i => by split <;> simp [h])

theorem filterItems_keeps (d : Chip) (p : Item → Bool) : KeepsPlaces d { d with led := { d.led with items := d.led.items.filter p } } :=
  ⟨id, List.filter_sublist.map _, Nat.le_refl _⟩

/-! ## Acceptance -/

theorem syncFree_frame (d : Chip) : Frame [.regs, .attnServed] d d.syncFree := by
  unfold Chip.syncFree
  extract_lets old n low e
  have h : Frame [.regs, .attnServed] d e := sr_hub (by decide) d _ _
  exact Frame.ite (h.trans (note_frame e _)) h

theorem syncFree_keeps (d : Chip) : Keeps d d.syncFree := .of_frame (syncFree_frame d) (by decide) (by decide)

/-- What acceptance does to the ledger: one item more, the newest, with the next number and a free slot (R24, R30). -/
theorem accept_places (d : Chip) (a : Arising) (st : ItemState) :
    (d.accept a st).places = d.places ++ [(d.led.nextSeq, lowestSlot d.led.items)] ∧ (d.accept a st).led.nextSeq = d.led.nextSeq + 1 ∧
    (d.accept a st).mem = d.mem := by
  unfold Chip.accept
  extract_lets i
  have k := syncFree_keeps { d with led := { d.led with nextSeq := d.led.nextSeq + 1, items := d.led.items ++ [i], stallRun := 0 } }
  refine ⟨?_, k.2.2, (syncFree_frame _) .mem (by decide)⟩
  unfold Chip.places
  rw [k.2.1]
  simp [i]

theorem accept_inv (d : Chip) (a : Arising) (st : ItemState) (h : Inv d) : Inv (d.accept a st) := by
  obtain ⟨⟨h1, h2, h3⟩, h4⟩ := h
  obtain ⟨p, n, m⟩ := accept_places d a st
  have seqs : (d.accept a st).led.items.map (fun i => i.seq) = d.led.items.map (fun i => i.seq) ++ [d.led.nextSeq] := by
    have := congrArg (List.map Prod.fst) p
    simpa [Chip.places, Function.comp_def] using this
  have slots : (d.accept a st).led.items.map (fun i => i.slot) = d.led.items.map (fun i => i.slot) ++ [lowestSlot d.led.items] := by
    have := congrArg (List.map Prod.snd) p
    simpa [Chip.places, Function.comp_def] using this
  refine ⟨⟨?_, fun i hi => ?_, ?_⟩, by rw [m]; exact h4⟩
  · rw [seqs]
    refine List.pairwise_append.mpr ⟨h1, List.pairwise_singleton _ _, fun x hx y hy => ?_⟩
    obtain ⟨i, hi, rfl⟩ := List.mem_map.mp hx
    rw [List.mem_singleton.mp hy]
    exact h2 i hi
  · rw [n]
    have : i.seq ∈ d.led.items.map (fun i => i.seq) ++ [d.led.nextSeq] := seqs ▸ List.mem_map.mpr ⟨i, hi, rfl⟩
    rcases List.mem_append.mp this with hm | hm
    · obtain ⟨j, hj, e⟩ := List.mem_map.mp hm
      have := h2 j hj
      omega
    · have := List.mem_singleton.mp hm
      omega
  · rw [slots]
    refine List.nodup_append.mpr ⟨h3, List.nodup_singleton _, fun x hx y hy => ?_⟩
    obtain ⟨i, hi, rfl⟩ := List.mem_map.mp hx
    rw [List.mem_singleton.mp hy]
    exact lowestSlot_free _ i hi

theorem arise_inv (d : Chip) (a : Arising) (h : Inv d) : Inv (d.arise a) := by
  unfold Chip.arise
  split
  · exact accept_inv d a _ h
  · exact h

/-! ## Replies and refusals -/

theorem owe_keeps (d : Chip) (r : Reply) : Keeps d (d.owe r) := ⟨id, rfl, rfl⟩

theorem setCore_keeps (d : Chip) (n : Nat) (c : ArmCore) : Keeps d (d.setCore n c) := ⟨id, rfl, rfl⟩

theorem pend_keeps (d : Chip) (n b : Nat) : Keeps d (d.pend n b) := ⟨id, rfl, rfl⟩

theorem coreReply_keeps (d : Chip) (n : Nat) (h : Option Nat) (r : Reply) : Keeps d (d.coreReply n h r) := by
  unfold Chip.coreReply
  extract_lets ws c e c'
  have k : Keeps d e := wr_keeps d _ _
  exact Keeps.ite ((k.trans (setCore_keeps e n _)).trans (pend_keeps _ n 1)) (k.trans (setCore_keeps e n _))

/-- A refusal accepts nothing. -/
theorem refuse_keeps (d : Chip) (src : Submit) (code lo hi : Nat) : Keeps d (d.refuse src code lo hi) := by
  unfold Chip.refuse
  extract_lets r
  split
  · exact ((owe_keeps d _).trans (mr_keeps _ _ _)).trans (count_keeps _ _)
  · exact owe_keeps d _
  · exact (setCore_keeps d _ _).trans (pend_keeps _ _ _)
  · exact ⟨id, rfl, rfl⟩
  · exact .refl d

theorem taken_keeps (d : Chip) (o : Origin) : Keeps d (d.taken o) := by
  unfold Chip.taken
  split
  · exact (mr_keeps d _ _).trans (count_keeps _ _)
  · exact setCore_keeps d _ _
  · exact .refl d

theorem acceptCmd_inv (d : Chip) (src : Submit) (kind : ItemKind) (body : Desc) (dom : Domain) (owner : Nat) (st : ItemState) (h : Inv d) :
    Inv (d.acceptCmd src kind body dom owner st) :=
  (taken_keeps _ _).inv (accept_inv d _ st h)

theorem dropHand_keeps (d : Chip) (o : Origin) : Keeps d (d.dropHand o) := by
  unfold Chip.dropHand
  split
  · exact ⟨id, rfl, rfl⟩
  · exact .refl d

/-- A submitted command leaves the invariant as it found it where its chapter's checks do. -/
theorem submit_inv (d : Chip) (src : Submit) (b : Block) (v : Bool) (k : Chip → Chip) (kind : Nat) (hk : ∀ e, Inv e → Inv (k e)) (h : Inv d) :
    Inv (d.submit src b v k kind) := by
  unfold Chip.submit
  extract_lets e
  have he : Inv e := (dropHand_keeps d _).inv h
  repeat' split
  all_goals first | exact h | exact hk e he | exact (refuse_keeps e _ _ _ _).inv he

theorem oweMore_keeps (d : Chip) (seq code lo hi : Nat) : Keeps d (d.oweMore seq code lo hi) := by
  unfold Chip.oweMore
  repeat' split
  all_goals first | exact owe_keeps d _ | exact .refl d

theorem replyDue_keeps (d : Chip) (i : Item) (code lo hi : Nat) : KeepsPlaces d (d.replyDue i code lo hi) := by
  have upd (e : Chip) : KeepsPlaces e (e.updItem i.seq (fun i => { i with replied := true })) := updItem_keeps e _ _ (fun _ => ⟨rfl, rfl⟩)
  unfold Chip.replyDue
  split
  · exact (owe_keeps d _).places
  · exact (owe_keeps d _).places
  · exact (coreReply_keeps d _ _ _).places.trans (upd _)
  · exact (owe_keeps d _).places
  · extract_lets e
    have h : Keeps d e := Keeps.ite (.refl d) (wr_keeps d _ _)
    exact h.places.trans (upd e)
  · exact KeepsPlaces.trans (Keeps.places ⟨id, rfl, rfl⟩) (upd _)
  · exact upd d

/-! ## Commit records, withdrawal and freed slots -/

theorem release_keeps (d : Chip) : KeepsPlaces d d.release :=
  mapItems_keeps d _ (fun i => by split <;> exact ⟨rfl, rfl⟩)

theorem issueCommit_keeps (d : Chip) (seq : Nat) (r : ReplyData) (redo : Option Desc) : KeepsPlaces d (d.issueCommit seq r redo) :=
  updItem_keeps d _ _ (fun i => by split <;> exact ⟨rfl, rfl⟩)

theorem takeCommit_keeps (d : Chip) (seq : Nat) : KeepsPlaces d (d.takeCommit seq) :=
  updItem_keeps d _ _ (fun i => by split <;> exact ⟨rfl, rfl⟩)

theorem giveBack_keeps (d : Chip) (p : Item → Bool) : KeepsPlaces d (d.giveBack p) :=
  mapItems_keeps d _ (fun i => by
    unfold backToAccepted
    repeat' split
    all_goals exact ⟨rfl, rfl⟩)

theorem dropFreed_keeps (d : Chip) : Keeps d d.dropFreed := by
  unfold Chip.dropFreed
  exact ⟨id, rfl, rfl⟩

theorem freeSlots_keeps (d : Chip) : KeepsPlaces d d.freeSlots := by
  unfold Chip.freeSlots
  exact (KeepsPlaces.trans (filterItems_keeps d _) (dropFreed_keeps _).places).trans (syncFree_keeps _).places

end Sys2Proof.Machine
end

