-- ==== Sys2Proof/Laws/State.lean ====
section
/-! SUPPORT. Registers after a field is set, and the fields of the chip after the plainest updates. -/
namespace Sys2Proof.Machine
open Sys2Proof

/-! ## Register fields -/

/-- A field set reads as the value, cut to its width. -/
@[simp] theorem rg_sr_self (d : Chip) (f : Fld) (v : Nat) : (d.sr f v).rg f = v % 2 ^ f.w := by
  simp only [Chip.sr, Chip.rg]
  split
  · rename_i h; rw [tget_tdel_self]; simp [h]
  · rw [tget_tput_self]; simp

/-- Setting a field leaves every field at another place. -/
theorem rg_sr_ne (d : Chip) (f g : Fld) (v : Nat) (h : g.bit ≠ f.bit) : (d.sr f v).rg g = d.rg g := by
  simp only [Chip.sr, Chip.rg]
  split
  · rw [tget_tdel_ne _ _ _ h]
  · rw [tget_tput_ne _ _ _ _ h]

/-- A field reads from the registers alone. -/
theorem rg_of_regs {d d' : Chip} (h : d'.regs = d.regs) (f : Fld) : d'.rg f = d.rg f := by simp only [Chip.rg, h]

/-! ## `Chip.sr` -/

@[simp] theorem Chip.sr_free (d : Chip) (f : Fld) (v : Nat) : (d.sr f v).free = d.free := rfl
@[simp] theorem Chip.sr_latch (d : Chip) (f : Fld) (v : Nat) : (d.sr f v).latch = d.latch := rfl
@[simp] theorem Chip.sr_satCtrs (d : Chip) (f : Fld) (v : Nat) : (d.sr f v).satCtrs = d.satCtrs := rfl
@[simp] theorem Chip.sr_bus (d : Chip) (f : Fld) (v : Nat) : (d.sr f v).bus = d.bus := rfl
@[simp] theorem Chip.sr_mem (d : Chip) (f : Fld) (v : Nat) : (d.sr f v).mem = d.mem := rfl
@[simp] theorem Chip.sr_led (d : Chip) (f : Fld) (v : Nat) : (d.sr f v).led = d.led := rfl
@[simp] theorem Chip.sr_attn (d : Chip) (f : Fld) (v : Nat) : (d.sr f v).attn = d.attn := rfl
@[simp] theorem Chip.sr_attnServed (d : Chip) (f : Fld) (v : Nat) : (d.sr f v).attnServed = d.attnServed := rfl
@[simp] theorem Chip.sr_owed (d : Chip) (f : Fld) (v : Nat) : (d.sr f v).owed = d.owed := rfl
@[simp] theorem Chip.sr_fetched (d : Chip) (f : Fld) (v : Nat) : (d.sr f v).fetched = d.fetched := rfl
@[simp] theorem Chip.sr_agents (d : Chip) (f : Fld) (v : Nat) : (d.sr f v).agents = d.agents := rfl
@[simp] theorem Chip.sr_answer (d : Chip) (f : Fld) (v : Nat) : (d.sr f v).answer = d.answer := rfl
@[simp] theorem Chip.sr_hub (d : Chip) (f : Fld) (v : Nat) : (d.sr f v).hub = d.hub := rfl
@[simp] theorem Chip.sr_tck (d : Chip) (f : Fld) (v : Nat) : (d.sr f v).tck = d.tck := rfl
@[simp] theorem Chip.sr_ldr (d : Chip) (f : Fld) (v : Nat) : (d.sr f v).ldr = d.ldr := rfl
@[simp] theorem Chip.sr_arm (d : Chip) (f : Fld) (v : Nat) : (d.sr f v).arm = d.arm := rfl
@[simp] theorem Chip.sr_mu (d : Chip) (f : Fld) (v : Nat) : (d.sr f v).mu = d.mu := rfl
@[simp] theorem Chip.sr_wk (d : Chip) (f : Fld) (v : Nat) : (d.sr f v).wk = d.wk := rfl
@[simp] theorem Chip.sr_coll (d : Chip) (f : Fld) (v : Nat) : (d.sr f v).coll = d.coll := rfl
@[simp] theorem Chip.sr_kv (d : Chip) (f : Fld) (v : Nat) : (d.sr f v).kv = d.kv := rfl
@[simp] theorem Chip.sr_hif (d : Chip) (f : Fld) (v : Nat) : (d.sr f v).hif = d.hif := rfl
@[simp] theorem Chip.sr_pat (d : Chip) (f : Fld) (v : Nat) : (d.sr f v).pat = d.pat := rfl
@[simp] theorem Chip.sr_trc (d : Chip) (f : Fld) (v : Nat) : (d.sr f v).trc = d.trc := rfl
@[simp] theorem Chip.sr_lnk (d : Chip) (f : Fld) (v : Nat) : (d.sr f v).lnk = d.lnk := rfl
@[simp] theorem Chip.sr_sec (d : Chip) (f : Fld) (v : Nat) : (d.sr f v).sec = d.sec := rfl
@[simp] theorem Chip.sr_fw (d : Chip) (f : Fld) (v : Nat) : (d.sr f v).fw = d.fw := rfl
@[simp] theorem Chip.sr_cal (d : Chip) (f : Fld) (v : Nat) : (d.sr f v).cal = d.cal := rfl
@[simp] theorem Chip.sr_dvt (d : Chip) (f : Fld) (v : Nat) : (d.sr f v).dvt = d.dvt := rfl
@[simp] theorem Chip.sr_dma (d : Chip) (f : Fld) (v : Nat) : (d.sr f v).dma = d.dma := rfl
@[simp] theorem Chip.sr_pkt (d : Chip) (f : Fld) (v : Nat) : (d.sr f v).pkt = d.pkt := rfl
@[simp] theorem Chip.sr_nvs (d : Chip) (f : Fld) (v : Nat) : (d.sr f v).nvs = d.nvs := rfl
@[simp] theorem Chip.sr_ckp (d : Chip) (f : Fld) (v : Nat) : (d.sr f v).ckp = d.ckp := rfl
@[simp] theorem Chip.sr_pwr (d : Chip) (f : Fld) (v : Nat) : (d.sr f v).pwr = d.pwr := rfl

/-! ## `Chip.mr` -/

@[simp] theorem Chip.mr_free (d : Chip) (f : Fld) (g : Nat → Nat) : (d.mr f g).free = d.free := rfl
@[simp] theorem Chip.mr_latch (d : Chip) (f : Fld) (g : Nat → Nat) : (d.mr f g).latch = d.latch := rfl
@[simp] theorem Chip.mr_satCtrs (d : Chip) (f : Fld) (g : Nat → Nat) : (d.mr f g).satCtrs = d.satCtrs := rfl
@[simp] theorem Chip.mr_bus (d : Chip) (f : Fld) (g : Nat → Nat) : (d.mr f g).bus = d.bus := rfl
@[simp] theorem Chip.mr_mem (d : Chip) (f : Fld) (g : Nat → Nat) : (d.mr f g).mem = d.mem := rfl
@[simp] theorem Chip.mr_led (d : Chip) (f : Fld) (g : Nat → Nat) : (d.mr f g).led = d.led := rfl
@[simp] theorem Chip.mr_attn (d : Chip) (f : Fld) (g : Nat → Nat) : (d.mr f g).attn = d.attn := rfl
@[simp] theorem Chip.mr_attnServed (d : Chip) (f : Fld) (g : Nat → Nat) : (d.mr f g).attnServed = d.attnServed := rfl
@[simp] theorem Chip.mr_owed (d : Chip) (f : Fld) (g : Nat → Nat) : (d.mr f g).owed = d.owed := rfl
@[simp] theorem Chip.mr_fetched (d : Chip) (f : Fld) (g : Nat → Nat) : (d.mr f g).fetched = d.fetched := rfl
@[simp] theorem Chip.mr_agents (d : Chip) (f : Fld) (g : Nat → Nat) : (d.mr f g).agents = d.agents := rfl
@[simp] theorem Chip.mr_answer (d : Chip) (f : Fld) (g : Nat → Nat) : (d.mr f g).answer = d.answer := rfl
@[simp] theorem Chip.mr_hub (d : Chip) (f : Fld) (g : Nat → Nat) : (d.mr f g).hub = d.hub := rfl
@[simp] theorem Chip.mr_tck (d : Chip) (f : Fld) (g : Nat → Nat) : (d.mr f g).tck = d.tck := rfl
@[simp] theorem Chip.mr_ldr (d : Chip) (f : Fld) (g : Nat → Nat) : (d.mr f g).ldr = d.ldr := rfl
@[simp] theorem Chip.mr_arm (d : Chip) (f : Fld) (g : Nat → Nat) : (d.mr f g).arm = d.arm := rfl
@[simp] theorem Chip.mr_mu (d : Chip) (f : Fld) (g : Nat → Nat) : (d.mr f g).mu = d.mu := rfl
@[simp] theorem Chip.mr_wk (d : Chip) (f : Fld) (g : Nat → Nat) : (d.mr f g).wk = d.wk := rfl
@[simp] theorem Chip.mr_coll (d : Chip) (f : Fld) (g : Nat → Nat) : (d.mr f g).coll = d.coll := rfl
@[simp] theorem Chip.mr_kv (d : Chip) (f : Fld) (g : Nat → Nat) : (d.mr f g).kv = d.kv := rfl
@[simp] theorem Chip.mr_hif (d : Chip) (f : Fld) (g : Nat → Nat) : (d.mr f g).hif = d.hif := rfl
@[simp] theorem Chip.mr_pat (d : Chip) (f : Fld) (g : Nat → Nat) : (d.mr f g).pat = d.pat := rfl
@[simp] theorem Chip.mr_trc (d : Chip) (f : Fld) (g : Nat → Nat) : (d.mr f g).trc = d.trc := rfl
@[simp] theorem Chip.mr_lnk (d : Chip) (f : Fld) (g : Nat → Nat) : (d.mr f g).lnk = d.lnk := rfl
@[simp] theorem Chip.mr_sec (d : Chip) (f : Fld) (g : Nat → Nat) : (d.mr f g).sec = d.sec := rfl
@[simp] theorem Chip.mr_fw (d : Chip) (f : Fld) (g : Nat → Nat) : (d.mr f g).fw = d.fw := rfl
@[simp] theorem Chip.mr_cal (d : Chip) (f : Fld) (g : Nat → Nat) : (d.mr f g).cal = d.cal := rfl
@[simp] theorem Chip.mr_dvt (d : Chip) (f : Fld) (g : Nat → Nat) : (d.mr f g).dvt = d.dvt := rfl
@[simp] theorem Chip.mr_dma (d : Chip) (f : Fld) (g : Nat → Nat) : (d.mr f g).dma = d.dma := rfl
@[simp] theorem Chip.mr_pkt (d : Chip) (f : Fld) (g : Nat → Nat) : (d.mr f g).pkt = d.pkt := rfl
@[simp] theorem Chip.mr_nvs (d : Chip) (f : Fld) (g : Nat → Nat) : (d.mr f g).nvs = d.nvs := rfl
@[simp] theorem Chip.mr_ckp (d : Chip) (f : Fld) (g : Nat → Nat) : (d.mr f g).ckp = d.ckp := rfl
@[simp] theorem Chip.mr_pwr (d : Chip) (f : Fld) (g : Nat → Nat) : (d.mr f g).pwr = d.pwr := rfl

/-! ## `Chip.setBit` -/

@[simp] theorem Chip.setBit_free (d : Chip) (f : Fld) (i : Nat) (b : Bool) : (d.setBit f i b).free = d.free := rfl
@[simp] theorem Chip.setBit_latch (d : Chip) (f : Fld) (i : Nat) (b : Bool) : (d.setBit f i b).latch = d.latch := rfl
@[simp] theorem Chip.setBit_satCtrs (d : Chip) (f : Fld) (i : Nat) (b : Bool) : (d.setBit f i b).satCtrs = d.satCtrs := rfl
@[simp] theorem Chip.setBit_bus (d : Chip) (f : Fld) (i : Nat) (b : Bool) : (d.setBit f i b).bus = d.bus := rfl
@[simp] theorem Chip.setBit_mem (d : Chip) (f : Fld) (i : Nat) (b : Bool) : (d.setBit f i b).mem = d.mem := rfl
@[simp] theorem Chip.setBit_led (d : Chip) (f : Fld) (i : Nat) (b : Bool) : (d.setBit f i b).led = d.led := rfl
@[simp] theorem Chip.setBit_attn (d : Chip) (f : Fld) (i : Nat) (b : Bool) : (d.setBit f i b).attn = d.attn := rfl
@[simp] theorem Chip.setBit_attnServed (d : Chip) (f : Fld) (i : Nat) (b : Bool) : (d.setBit f i b).attnServed = d.attnServed := rfl
@[simp] theorem Chip.setBit_owed (d : Chip) (f : Fld) (i : Nat) (b : Bool) : (d.setBit f i b).owed = d.owed := rfl
@[simp] theorem Chip.setBit_fetched (d : Chip) (f : Fld) (i : Nat) (b : Bool) : (d.setBit f i b).fetched = d.fetched := rfl
@[simp] theorem Chip.setBit_agents (d : Chip) (f : Fld) (i : Nat) (b : Bool) : (d.setBit f i b).agents = d.agents := rfl
@[simp] theorem Chip.setBit_answer (d : Chip) (f : Fld) (i : Nat) (b : Bool) : (d.setBit f i b).answer = d.answer := rfl
@[simp] theorem Chip.setBit_hub (d : Chip) (f : Fld) (i : Nat) (b : Bool) : (d.setBit f i b).hub = d.hub := rfl
@[simp] theorem Chip.setBit_tck (d : Chip) (f : Fld) (i : Nat) (b : Bool) : (d.setBit f i b).tck = d.tck := rfl
@[simp] theorem Chip.setBit_ldr (d : Chip) (f : Fld) (i : Nat) (b : Bool) : (d.setBit f i b).ldr = d.ldr := rfl
@[simp] theorem Chip.setBit_arm (d : Chip) (f : Fld) (i : Nat) (b : Bool) : (d.setBit f i b).arm = d.arm := rfl
@[simp] theorem Chip.setBit_mu (d : Chip) (f : Fld) (i : Nat) (b : Bool) : (d.setBit f i b).mu = d.mu := rfl
@[simp] theorem Chip.setBit_wk (d : Chip) (f : Fld) (i : Nat) (b : Bool) : (d.setBit f i b).wk = d.wk := rfl
@[simp] theorem Chip.setBit_coll (d : Chip) (f : Fld) (i : Nat) (b : Bool) : (d.setBit f i b).coll = d.coll := rfl
@[simp] theorem Chip.setBit_kv (d : Chip) (f : Fld) (i : Nat) (b : Bool) : (d.setBit f i b).kv = d.kv := rfl
@[simp] theorem Chip.setBit_hif (d : Chip) (f : Fld) (i : Nat) (b : Bool) : (d.setBit f i b).hif = d.hif := rfl
@[simp] theorem Chip.setBit_pat (d : Chip) (f : Fld) (i : Nat) (b : Bool) : (d.setBit f i b).pat = d.pat := rfl
@[simp] theorem Chip.setBit_trc (d : Chip) (f : Fld) (i : Nat) (b : Bool) : (d.setBit f i b).trc = d.trc := rfl
@[simp] theorem Chip.setBit_lnk (d : Chip) (f : Fld) (i : Nat) (b : Bool) : (d.setBit f i b).lnk = d.lnk := rfl
@[simp] theorem Chip.setBit_sec (d : Chip) (f : Fld) (i : Nat) (b : Bool) : (d.setBit f i b).sec = d.sec := rfl
@[simp] theorem Chip.setBit_fw (d : Chip) (f : Fld) (i : Nat) (b : Bool) : (d.setBit f i b).fw = d.fw := rfl
@[simp] theorem Chip.setBit_cal (d : Chip) (f : Fld) (i : Nat) (b : Bool) : (d.setBit f i b).cal = d.cal := rfl
@[simp] theorem Chip.setBit_dvt (d : Chip) (f : Fld) (i : Nat) (b : Bool) : (d.setBit f i b).dvt = d.dvt := rfl
@[simp] theorem Chip.setBit_dma (d : Chip) (f : Fld) (i : Nat) (b : Bool) : (d.setBit f i b).dma = d.dma := rfl
@[simp] theorem Chip.setBit_pkt (d : Chip) (f : Fld) (i : Nat) (b : Bool) : (d.setBit f i b).pkt = d.pkt := rfl
@[simp] theorem Chip.setBit_nvs (d : Chip) (f : Fld) (i : Nat) (b : Bool) : (d.setBit f i b).nvs = d.nvs := rfl
@[simp] theorem Chip.setBit_ckp (d : Chip) (f : Fld) (i : Nat) (b : Bool) : (d.setBit f i b).ckp = d.ckp := rfl
@[simp] theorem Chip.setBit_pwr (d : Chip) (f : Fld) (i : Nat) (b : Bool) : (d.setBit f i b).pwr = d.pwr := rfl

/-! ## `Chip.takeFree` -/

@[simp] theorem Chip.takeFree_regs (d : Chip) : (d.takeFree).regs = d.regs := rfl
@[simp] theorem Chip.takeFree_latch (d : Chip) : (d.takeFree).latch = d.latch := rfl
@[simp] theorem Chip.takeFree_satCtrs (d : Chip) : (d.takeFree).satCtrs = d.satCtrs := rfl
@[simp] theorem Chip.takeFree_bus (d : Chip) : (d.takeFree).bus = d.bus := rfl
@[simp] theorem Chip.takeFree_mem (d : Chip) : (d.takeFree).mem = d.mem := rfl
@[simp] theorem Chip.takeFree_led (d : Chip) : (d.takeFree).led = d.led := rfl
@[simp] theorem Chip.takeFree_attn (d : Chip) : (d.takeFree).attn = d.attn := rfl
@[simp] theorem Chip.takeFree_attnServed (d : Chip) : (d.takeFree).attnServed = d.attnServed := rfl
@[simp] theorem Chip.takeFree_owed (d : Chip) : (d.takeFree).owed = d.owed := rfl
@[simp] theorem Chip.takeFree_fetched (d : Chip) : (d.takeFree).fetched = d.fetched := rfl
@[simp] theorem Chip.takeFree_agents (d : Chip) : (d.takeFree).agents = d.agents := rfl
@[simp] theorem Chip.takeFree_answer (d : Chip) : (d.takeFree).answer = d.answer := rfl
@[simp] theorem Chip.takeFree_hub (d : Chip) : (d.takeFree).hub = d.hub := rfl
@[simp] theorem Chip.takeFree_tck (d : Chip) : (d.takeFree).tck = d.tck := rfl
@[simp] theorem Chip.takeFree_ldr (d : Chip) : (d.takeFree).ldr = d.ldr := rfl
@[simp] theorem Chip.takeFree_arm (d : Chip) : (d.takeFree).arm = d.arm := rfl
@[simp] theorem Chip.takeFree_mu (d : Chip) : (d.takeFree).mu = d.mu := rfl
@[simp] theorem Chip.takeFree_wk (d : Chip) : (d.takeFree).wk = d.wk := rfl
@[simp] theorem Chip.takeFree_coll (d : Chip) : (d.takeFree).coll = d.coll := rfl
@[simp] theorem Chip.takeFree_kv (d : Chip) : (d.takeFree).kv = d.kv := rfl
@[simp] theorem Chip.takeFree_hif (d : Chip) : (d.takeFree).hif = d.hif := rfl
@[simp] theorem Chip.takeFree_pat (d : Chip) : (d.takeFree).pat = d.pat := rfl
@[simp] theorem Chip.takeFree_trc (d : Chip) : (d.takeFree).trc = d.trc := rfl
@[simp] theorem Chip.takeFree_lnk (d : Chip) : (d.takeFree).lnk = d.lnk := rfl
@[simp] theorem Chip.takeFree_sec (d : Chip) : (d.takeFree).sec = d.sec := rfl
@[simp] theorem Chip.takeFree_fw (d : Chip) : (d.takeFree).fw = d.fw := rfl
@[simp] theorem Chip.takeFree_cal (d : Chip) : (d.takeFree).cal = d.cal := rfl
@[simp] theorem Chip.takeFree_dvt (d : Chip) : (d.takeFree).dvt = d.dvt := rfl
@[simp] theorem Chip.takeFree_dma (d : Chip) : (d.takeFree).dma = d.dma := rfl
@[simp] theorem Chip.takeFree_pkt (d : Chip) : (d.takeFree).pkt = d.pkt := rfl
@[simp] theorem Chip.takeFree_nvs (d : Chip) : (d.takeFree).nvs = d.nvs := rfl
@[simp] theorem Chip.takeFree_ckp (d : Chip) : (d.takeFree).ckp = d.ckp := rfl
@[simp] theorem Chip.takeFree_pwr (d : Chip) : (d.takeFree).pwr = d.pwr := rfl

/-! ## `Chip.setCore` -/

@[simp] theorem Chip.setCore_free (d : Chip) (n : Nat) (c : ArmCore) : (d.setCore n c).free = d.free := rfl
@[simp] theorem Chip.setCore_regs (d : Chip) (n : Nat) (c : ArmCore) : (d.setCore n c).regs = d.regs := rfl
@[simp] theorem Chip.setCore_latch (d : Chip) (n : Nat) (c : ArmCore) : (d.setCore n c).latch = d.latch := rfl
@[simp] theorem Chip.setCore_satCtrs (d : Chip) (n : Nat) (c : ArmCore) : (d.setCore n c).satCtrs = d.satCtrs := rfl
@[simp] theorem Chip.setCore_bus (d : Chip) (n : Nat) (c : ArmCore) : (d.setCore n c).bus = d.bus := rfl
@[simp] theorem Chip.setCore_mem (d : Chip) (n : Nat) (c : ArmCore) : (d.setCore n c).mem = d.mem := rfl
@[simp] theorem Chip.setCore_led (d : Chip) (n : Nat) (c : ArmCore) : (d.setCore n c).led = d.led := rfl
@[simp] theorem Chip.setCore_attn (d : Chip) (n : Nat) (c : ArmCore) : (d.setCore n c).attn = d.attn := rfl
@[simp] theorem Chip.setCore_attnServed (d : Chip) (n : Nat) (c : ArmCore) : (d.setCore n c).attnServed = d.attnServed := rfl
@[simp] theorem Chip.setCore_owed (d : Chip) (n : Nat) (c : ArmCore) : (d.setCore n c).owed = d.owed := rfl
@[simp] theorem Chip.setCore_fetched (d : Chip) (n : Nat) (c : ArmCore) : (d.setCore n c).fetched = d.fetched := rfl
@[simp] theorem Chip.setCore_agents (d : Chip) (n : Nat) (c : ArmCore) : (d.setCore n c).agents = d.agents := rfl
@[simp] theorem Chip.setCore_answer (d : Chip) (n : Nat) (c : ArmCore) : (d.setCore n c).answer = d.answer := rfl
@[simp] theorem Chip.setCore_hub (d : Chip) (n : Nat) (c : ArmCore) : (d.setCore n c).hub = d.hub := rfl
@[simp] theorem Chip.setCore_tck (d : Chip) (n : Nat) (c : ArmCore) : (d.setCore n c).tck = d.tck := rfl
@[simp] theorem Chip.setCore_ldr (d : Chip) (n : Nat) (c : ArmCore) : (d.setCore n c).ldr = d.ldr := rfl
@[simp] theorem Chip.setCore_mu (d : Chip) (n : Nat) (c : ArmCore) : (d.setCore n c).mu = d.mu := rfl
@[simp] theorem Chip.setCore_wk (d : Chip) (n : Nat) (c : ArmCore) : (d.setCore n c).wk = d.wk := rfl
@[simp] theorem Chip.setCore_coll (d : Chip) (n : Nat) (c : ArmCore) : (d.setCore n c).coll = d.coll := rfl
@[simp] theorem Chip.setCore_kv (d : Chip) (n : Nat) (c : ArmCore) : (d.setCore n c).kv = d.kv := rfl
@[simp] theorem Chip.setCore_hif (d : Chip) (n : Nat) (c : ArmCore) : (d.setCore n c).hif = d.hif := rfl
@[simp] theorem Chip.setCore_pat (d : Chip) (n : Nat) (c : ArmCore) : (d.setCore n c).pat = d.pat := rfl
@[simp] theorem Chip.setCore_trc (d : Chip) (n : Nat) (c : ArmCore) : (d.setCore n c).trc = d.trc := rfl
@[simp] theorem Chip.setCore_lnk (d : Chip) (n : Nat) (c : ArmCore) : (d.setCore n c).lnk = d.lnk := rfl
@[simp] theorem Chip.setCore_sec (d : Chip) (n : Nat) (c : ArmCore) : (d.setCore n c).sec = d.sec := rfl
@[simp] theorem Chip.setCore_fw (d : Chip) (n : Nat) (c : ArmCore) : (d.setCore n c).fw = d.fw := rfl
@[simp] theorem Chip.setCore_cal (d : Chip) (n : Nat) (c : ArmCore) : (d.setCore n c).cal = d.cal := rfl
@[simp] theorem Chip.setCore_dvt (d : Chip) (n : Nat) (c : ArmCore) : (d.setCore n c).dvt = d.dvt := rfl
@[simp] theorem Chip.setCore_dma (d : Chip) (n : Nat) (c : ArmCore) : (d.setCore n c).dma = d.dma := rfl
@[simp] theorem Chip.setCore_pkt (d : Chip) (n : Nat) (c : ArmCore) : (d.setCore n c).pkt = d.pkt := rfl
@[simp] theorem Chip.setCore_nvs (d : Chip) (n : Nat) (c : ArmCore) : (d.setCore n c).nvs = d.nvs := rfl
@[simp] theorem Chip.setCore_ckp (d : Chip) (n : Nat) (c : ArmCore) : (d.setCore n c).ckp = d.ckp := rfl
@[simp] theorem Chip.setCore_pwr (d : Chip) (n : Nat) (c : ArmCore) : (d.setCore n c).pwr = d.pwr := rfl

/-! ## `Chip.pend` -/

@[simp] theorem Chip.pend_free (d : Chip) (n : Nat) (b : Nat) : (d.pend n b).free = d.free := rfl
@[simp] theorem Chip.pend_regs (d : Chip) (n : Nat) (b : Nat) : (d.pend n b).regs = d.regs := rfl
@[simp] theorem Chip.pend_latch (d : Chip) (n : Nat) (b : Nat) : (d.pend n b).latch = d.latch := rfl
@[simp] theorem Chip.pend_satCtrs (d : Chip) (n : Nat) (b : Nat) : (d.pend n b).satCtrs = d.satCtrs := rfl
@[simp] theorem Chip.pend_bus (d : Chip) (n : Nat) (b : Nat) : (d.pend n b).bus = d.bus := rfl
@[simp] theorem Chip.pend_mem (d : Chip) (n : Nat) (b : Nat) : (d.pend n b).mem = d.mem := rfl
@[simp] theorem Chip.pend_led (d : Chip) (n : Nat) (b : Nat) : (d.pend n b).led = d.led := rfl
@[simp] theorem Chip.pend_attn (d : Chip) (n : Nat) (b : Nat) : (d.pend n b).attn = d.attn := rfl
@[simp] theorem Chip.pend_attnServed (d : Chip) (n : Nat) (b : Nat) : (d.pend n b).attnServed = d.attnServed := rfl
@[simp] theorem Chip.pend_owed (d : Chip) (n : Nat) (b : Nat) : (d.pend n b).owed = d.owed := rfl
@[simp] theorem Chip.pend_fetched (d : Chip) (n : Nat) (b : Nat) : (d.pend n b).fetched = d.fetched := rfl
@[simp] theorem Chip.pend_agents (d : Chip) (n : Nat) (b : Nat) : (d.pend n b).agents = d.agents := rfl
@[simp] theorem Chip.pend_answer (d : Chip) (n : Nat) (b : Nat) : (d.pend n b).answer = d.answer := rfl
@[simp] theorem Chip.pend_hub (d : Chip) (n : Nat) (b : Nat) : (d.pend n b).hub = d.hub := rfl
@[simp] theorem Chip.pend_tck (d : Chip) (n : Nat) (b : Nat) : (d.pend n b).tck = d.tck := rfl
@[simp] theorem Chip.pend_ldr (d : Chip) (n : Nat) (b : Nat) : (d.pend n b).ldr = d.ldr := rfl
@[simp] theorem Chip.pend_mu (d : Chip) (n : Nat) (b : Nat) : (d.pend n b).mu = d.mu := rfl
@[simp] theorem Chip.pend_wk (d : Chip) (n : Nat) (b : Nat) : (d.pend n b).wk = d.wk := rfl
@[simp] theorem Chip.pend_coll (d : Chip) (n : Nat) (b : Nat) : (d.pend n b).coll = d.coll := rfl
@[simp] theorem Chip.pend_kv (d : Chip) (n : Nat) (b : Nat) : (d.pend n b).kv = d.kv := rfl
@[simp] theorem Chip.pend_hif (d : Chip) (n : Nat) (b : Nat) : (d.pend n b).hif = d.hif := rfl
@[simp] theorem Chip.pend_pat (d : Chip) (n : Nat) (b : Nat) : (d.pend n b).pat = d.pat := rfl
@[simp] theorem Chip.pend_trc (d : Chip) (n : Nat) (b : Nat) : (d.pend n b).trc = d.trc := rfl
@[simp] theorem Chip.pend_lnk (d : Chip) (n : Nat) (b : Nat) : (d.pend n b).lnk = d.lnk := rfl
@[simp] theorem Chip.pend_sec (d : Chip) (n : Nat) (b : Nat) : (d.pend n b).sec = d.sec := rfl
@[simp] theorem Chip.pend_fw (d : Chip) (n : Nat) (b : Nat) : (d.pend n b).fw = d.fw := rfl
@[simp] theorem Chip.pend_cal (d : Chip) (n : Nat) (b : Nat) : (d.pend n b).cal = d.cal := rfl
@[simp] theorem Chip.pend_dvt (d : Chip) (n : Nat) (b : Nat) : (d.pend n b).dvt = d.dvt := rfl
@[simp] theorem Chip.pend_dma (d : Chip) (n : Nat) (b : Nat) : (d.pend n b).dma = d.dma := rfl
@[simp] theorem Chip.pend_pkt (d : Chip) (n : Nat) (b : Nat) : (d.pend n b).pkt = d.pkt := rfl
@[simp] theorem Chip.pend_nvs (d : Chip) (n : Nat) (b : Nat) : (d.pend n b).nvs = d.nvs := rfl
@[simp] theorem Chip.pend_ckp (d : Chip) (n : Nat) (b : Nat) : (d.pend n b).ckp = d.ckp := rfl
@[simp] theorem Chip.pend_pwr (d : Chip) (n : Nat) (b : Nat) : (d.pend n b).pwr = d.pwr := rfl

/-! ## `Chip.setAgentRec` -/

@[simp] theorem Chip.setAgentRec_free (d : Chip) (a : Agent) (x : AgentState) : (d.setAgentRec a x).free = d.free := rfl
@[simp] theorem Chip.setAgentRec_regs (d : Chip) (a : Agent) (x : AgentState) : (d.setAgentRec a x).regs = d.regs := rfl
@[simp] theorem Chip.setAgentRec_latch (d : Chip) (a : Agent) (x : AgentState) : (d.setAgentRec a x).latch = d.latch := rfl
@[simp] theorem Chip.setAgentRec_satCtrs (d : Chip) (a : Agent) (x : AgentState) : (d.setAgentRec a x).satCtrs = d.satCtrs := rfl
@[simp] theorem Chip.setAgentRec_bus (d : Chip) (a : Agent) (x : AgentState) : (d.setAgentRec a x).bus = d.bus := rfl
@[simp] theorem Chip.setAgentRec_mem (d : Chip) (a : Agent) (x : AgentState) : (d.setAgentRec a x).mem = d.mem := rfl
@[simp] theorem Chip.setAgentRec_led (d : Chip) (a : Agent) (x : AgentState) : (d.setAgentRec a x).led = d.led := rfl
@[simp] theorem Chip.setAgentRec_attn (d : Chip) (a : Agent) (x : AgentState) : (d.setAgentRec a x).attn = d.attn := rfl
@[simp] theorem Chip.setAgentRec_attnServed (d : Chip) (a : Agent) (x : AgentState) : (d.setAgentRec a x).attnServed = d.attnServed := rfl
@[simp] theorem Chip.setAgentRec_owed (d : Chip) (a : Agent) (x : AgentState) : (d.setAgentRec a x).owed = d.owed := rfl
@[simp] theorem Chip.setAgentRec_fetched (d : Chip) (a : Agent) (x : AgentState) : (d.setAgentRec a x).fetched = d.fetched := rfl
@[simp] theorem Chip.setAgentRec_answer (d : Chip) (a : Agent) (x : AgentState) : (d.setAgentRec a x).answer = d.answer := rfl
@[simp] theorem Chip.setAgentRec_hub (d : Chip) (a : Agent) (x : AgentState) : (d.setAgentRec a x).hub = d.hub := rfl
@[simp] theorem Chip.setAgentRec_tck (d : Chip) (a : Agent) (x : AgentState) : (d.setAgentRec a x).tck = d.tck := rfl
@[simp] theorem Chip.setAgentRec_ldr (d : Chip) (a : Agent) (x : AgentState) : (d.setAgentRec a x).ldr = d.ldr := rfl
@[simp] theorem Chip.setAgentRec_arm (d : Chip) (a : Agent) (x : AgentState) : (d.setAgentRec a x).arm = d.arm := rfl
@[simp] theorem Chip.setAgentRec_mu (d : Chip) (a : Agent) (x : AgentState) : (d.setAgentRec a x).mu = d.mu := rfl
@[simp] theorem Chip.setAgentRec_wk (d : Chip) (a : Agent) (x : AgentState) : (d.setAgentRec a x).wk = d.wk := rfl
@[simp] theorem Chip.setAgentRec_coll (d : Chip) (a : Agent) (x : AgentState) : (d.setAgentRec a x).coll = d.coll := rfl
@[simp] theorem Chip.setAgentRec_kv (d : Chip) (a : Agent) (x : AgentState) : (d.setAgentRec a x).kv = d.kv := rfl
@[simp] theorem Chip.setAgentRec_hif (d : Chip) (a : Agent) (x : AgentState) : (d.setAgentRec a x).hif = d.hif := rfl
@[simp] theorem Chip.setAgentRec_pat (d : Chip) (a : Agent) (x : AgentState) : (d.setAgentRec a x).pat = d.pat := rfl
@[simp] theorem Chip.setAgentRec_trc (d : Chip) (a : Agent) (x : AgentState) : (d.setAgentRec a x).trc = d.trc := rfl
@[simp] theorem Chip.setAgentRec_lnk (d : Chip) (a : Agent) (x : AgentState) : (d.setAgentRec a x).lnk = d.lnk := rfl
@[simp] theorem Chip.setAgentRec_sec (d : Chip) (a : Agent) (x : AgentState) : (d.setAgentRec a x).sec = d.sec := rfl
@[simp] theorem Chip.setAgentRec_fw (d : Chip) (a : Agent) (x : AgentState) : (d.setAgentRec a x).fw = d.fw := rfl
@[simp] theorem Chip.setAgentRec_cal (d : Chip) (a : Agent) (x : AgentState) : (d.setAgentRec a x).cal = d.cal := rfl
@[simp] theorem Chip.setAgentRec_dvt (d : Chip) (a : Agent) (x : AgentState) : (d.setAgentRec a x).dvt = d.dvt := rfl
@[simp] theorem Chip.setAgentRec_dma (d : Chip) (a : Agent) (x : AgentState) : (d.setAgentRec a x).dma = d.dma := rfl
@[simp] theorem Chip.setAgentRec_pkt (d : Chip) (a : Agent) (x : AgentState) : (d.setAgentRec a x).pkt = d.pkt := rfl
@[simp] theorem Chip.setAgentRec_nvs (d : Chip) (a : Agent) (x : AgentState) : (d.setAgentRec a x).nvs = d.nvs := rfl
@[simp] theorem Chip.setAgentRec_ckp (d : Chip) (a : Agent) (x : AgentState) : (d.setAgentRec a x).ckp = d.ckp := rfl
@[simp] theorem Chip.setAgentRec_pwr (d : Chip) (a : Agent) (x : AgentState) : (d.setAgentRec a x).pwr = d.pwr := rfl

/-! ## `Chip.setAgentSt` -/

@[simp] theorem Chip.setAgentSt_free (d : Chip) (a : Agent) (st : BlockState) : (d.setAgentSt a st).free = d.free := by cases a <;> rfl
@[simp] theorem Chip.setAgentSt_latch (d : Chip) (a : Agent) (st : BlockState) : (d.setAgentSt a st).latch = d.latch := by cases a <;> rfl
@[simp] theorem Chip.setAgentSt_satCtrs (d : Chip) (a : Agent) (st : BlockState) : (d.setAgentSt a st).satCtrs = d.satCtrs := by cases a <;> rfl
@[simp] theorem Chip.setAgentSt_bus (d : Chip) (a : Agent) (st : BlockState) : (d.setAgentSt a st).bus = d.bus := by cases a <;> rfl
@[simp] theorem Chip.setAgentSt_mem (d : Chip) (a : Agent) (st : BlockState) : (d.setAgentSt a st).mem = d.mem := by cases a <;> rfl
@[simp] theorem Chip.setAgentSt_led (d : Chip) (a : Agent) (st : BlockState) : (d.setAgentSt a st).led = d.led := by cases a <;> rfl
@[simp] theorem Chip.setAgentSt_attn (d : Chip) (a : Agent) (st : BlockState) : (d.setAgentSt a st).attn = d.attn := by cases a <;> rfl
@[simp] theorem Chip.setAgentSt_attnServed (d : Chip) (a : Agent) (st : BlockState) : (d.setAgentSt a st).attnServed = d.attnServed := by cases a <;> rfl
@[simp] theorem Chip.setAgentSt_owed (d : Chip) (a : Agent) (st : BlockState) : (d.setAgentSt a st).owed = d.owed := by cases a <;> rfl
@[simp] theorem Chip.setAgentSt_fetched (d : Chip) (a : Agent) (st : BlockState) : (d.setAgentSt a st).fetched = d.fetched := by cases a <;> rfl
@[simp] theorem Chip.setAgentSt_answer (d : Chip) (a : Agent) (st : BlockState) : (d.setAgentSt a st).answer = d.answer := by cases a <;> rfl
@[simp] theorem Chip.setAgentSt_hub (d : Chip) (a : Agent) (st : BlockState) : (d.setAgentSt a st).hub = d.hub := by cases a <;> rfl
@[simp] theorem Chip.setAgentSt_tck (d : Chip) (a : Agent) (st : BlockState) : (d.setAgentSt a st).tck = d.tck := by cases a <;> rfl
@[simp] theorem Chip.setAgentSt_ldr (d : Chip) (a : Agent) (st : BlockState) : (d.setAgentSt a st).ldr = d.ldr := by cases a <;> rfl
@[simp] theorem Chip.setAgentSt_arm (d : Chip) (a : Agent) (st : BlockState) : (d.setAgentSt a st).arm = d.arm := by cases a <;> rfl
@[simp] theorem Chip.setAgentSt_mu (d : Chip) (a : Agent) (st : BlockState) : (d.setAgentSt a st).mu = d.mu := by cases a <;> rfl
@[simp] theorem Chip.setAgentSt_wk (d : Chip) (a : Agent) (st : BlockState) : (d.setAgentSt a st).wk = d.wk := by cases a <;> rfl
@[simp] theorem Chip.setAgentSt_coll (d : Chip) (a : Agent) (st : BlockState) : (d.setAgentSt a st).coll = d.coll := by cases a <;> rfl
@[simp] theorem Chip.setAgentSt_kv (d : Chip) (a : Agent) (st : BlockState) : (d.setAgentSt a st).kv = d.kv := by cases a <;> rfl
@[simp] theorem Chip.setAgentSt_hif (d : Chip) (a : Agent) (st : BlockState) : (d.setAgentSt a st).hif = d.hif := by cases a <;> rfl
@[simp] theorem Chip.setAgentSt_pat (d : Chip) (a : Agent) (st : BlockState) : (d.setAgentSt a st).pat = d.pat := by cases a <;> rfl
@[simp] theorem Chip.setAgentSt_trc (d : Chip) (a : Agent) (st : BlockState) : (d.setAgentSt a st).trc = d.trc := by cases a <;> rfl
@[simp] theorem Chip.setAgentSt_lnk (d : Chip) (a : Agent) (st : BlockState) : (d.setAgentSt a st).lnk = d.lnk := by cases a <;> rfl
@[simp] theorem Chip.setAgentSt_sec (d : Chip) (a : Agent) (st : BlockState) : (d.setAgentSt a st).sec = d.sec := by cases a <;> rfl
@[simp] theorem Chip.setAgentSt_fw (d : Chip) (a : Agent) (st : BlockState) : (d.setAgentSt a st).fw = d.fw := by cases a <;> rfl
@[simp] theorem Chip.setAgentSt_cal (d : Chip) (a : Agent) (st : BlockState) : (d.setAgentSt a st).cal = d.cal := by cases a <;> rfl
@[simp] theorem Chip.setAgentSt_dvt (d : Chip) (a : Agent) (st : BlockState) : (d.setAgentSt a st).dvt = d.dvt := by cases a <;> rfl
@[simp] theorem Chip.setAgentSt_dma (d : Chip) (a : Agent) (st : BlockState) : (d.setAgentSt a st).dma = d.dma := by cases a <;> rfl
@[simp] theorem Chip.setAgentSt_pkt (d : Chip) (a : Agent) (st : BlockState) : (d.setAgentSt a st).pkt = d.pkt := by cases a <;> rfl
@[simp] theorem Chip.setAgentSt_nvs (d : Chip) (a : Agent) (st : BlockState) : (d.setAgentSt a st).nvs = d.nvs := by cases a <;> rfl
@[simp] theorem Chip.setAgentSt_ckp (d : Chip) (a : Agent) (st : BlockState) : (d.setAgentSt a st).ckp = d.ckp := by cases a <;> rfl
@[simp] theorem Chip.setAgentSt_pwr (d : Chip) (a : Agent) (st : BlockState) : (d.setAgentSt a st).pwr = d.pwr := by cases a <;> rfl

/-! ## `Chip.patCount` -/

@[simp] theorem Chip.patCount_free (d : Chip) (off : Nat) (w : Nat) (n : Nat) : (d.patCount off w n).free = d.free := rfl
@[simp] theorem Chip.patCount_regs (d : Chip) (off : Nat) (w : Nat) (n : Nat) : (d.patCount off w n).regs = d.regs := rfl
@[simp] theorem Chip.patCount_latch (d : Chip) (off : Nat) (w : Nat) (n : Nat) : (d.patCount off w n).latch = d.latch := rfl
@[simp] theorem Chip.patCount_satCtrs (d : Chip) (off : Nat) (w : Nat) (n : Nat) : (d.patCount off w n).satCtrs = d.satCtrs := rfl
@[simp] theorem Chip.patCount_bus (d : Chip) (off : Nat) (w : Nat) (n : Nat) : (d.patCount off w n).bus = d.bus := rfl
@[simp] theorem Chip.patCount_mem (d : Chip) (off : Nat) (w : Nat) (n : Nat) : (d.patCount off w n).mem = d.mem := rfl
@[simp] theorem Chip.patCount_led (d : Chip) (off : Nat) (w : Nat) (n : Nat) : (d.patCount off w n).led = d.led := rfl
@[simp] theorem Chip.patCount_attn (d : Chip) (off : Nat) (w : Nat) (n : Nat) : (d.patCount off w n).attn = d.attn := rfl
@[simp] theorem Chip.patCount_attnServed (d : Chip) (off : Nat) (w : Nat) (n : Nat) : (d.patCount off w n).attnServed = d.attnServed := rfl
@[simp] theorem Chip.patCount_owed (d : Chip) (off : Nat) (w : Nat) (n : Nat) : (d.patCount off w n).owed = d.owed := rfl
@[simp] theorem Chip.patCount_fetched (d : Chip) (off : Nat) (w : Nat) (n : Nat) : (d.patCount off w n).fetched = d.fetched := rfl
@[simp] theorem Chip.patCount_agents (d : Chip) (off : Nat) (w : Nat) (n : Nat) : (d.patCount off w n).agents = d.agents := rfl
@[simp] theorem Chip.patCount_answer (d : Chip) (off : Nat) (w : Nat) (n : Nat) : (d.patCount off w n).answer = d.answer := rfl
@[simp] theorem Chip.patCount_hub (d : Chip) (off : Nat) (w : Nat) (n : Nat) : (d.patCount off w n).hub = d.hub := rfl
@[simp] theorem Chip.patCount_tck (d : Chip) (off : Nat) (w : Nat) (n : Nat) : (d.patCount off w n).tck = d.tck := rfl
@[simp] theorem Chip.patCount_ldr (d : Chip) (off : Nat) (w : Nat) (n : Nat) : (d.patCount off w n).ldr = d.ldr := rfl
@[simp] theorem Chip.patCount_arm (d : Chip) (off : Nat) (w : Nat) (n : Nat) : (d.patCount off w n).arm = d.arm := rfl
@[simp] theorem Chip.patCount_mu (d : Chip) (off : Nat) (w : Nat) (n : Nat) : (d.patCount off w n).mu = d.mu := rfl
@[simp] theorem Chip.patCount_wk (d : Chip) (off : Nat) (w : Nat) (n : Nat) : (d.patCount off w n).wk = d.wk := rfl
@[simp] theorem Chip.patCount_coll (d : Chip) (off : Nat) (w : Nat) (n : Nat) : (d.patCount off w n).coll = d.coll := rfl
@[simp] theorem Chip.patCount_kv (d : Chip) (off : Nat) (w : Nat) (n : Nat) : (d.patCount off w n).kv = d.kv := rfl
@[simp] theorem Chip.patCount_hif (d : Chip) (off : Nat) (w : Nat) (n : Nat) : (d.patCount off w n).hif = d.hif := rfl
@[simp] theorem Chip.patCount_trc (d : Chip) (off : Nat) (w : Nat) (n : Nat) : (d.patCount off w n).trc = d.trc := rfl
@[simp] theorem Chip.patCount_lnk (d : Chip) (off : Nat) (w : Nat) (n : Nat) : (d.patCount off w n).lnk = d.lnk := rfl
@[simp] theorem Chip.patCount_sec (d : Chip) (off : Nat) (w : Nat) (n : Nat) : (d.patCount off w n).sec = d.sec := rfl
@[simp] theorem Chip.patCount_fw (d : Chip) (off : Nat) (w : Nat) (n : Nat) : (d.patCount off w n).fw = d.fw := rfl
@[simp] theorem Chip.patCount_cal (d : Chip) (off : Nat) (w : Nat) (n : Nat) : (d.patCount off w n).cal = d.cal := rfl
@[simp] theorem Chip.patCount_dvt (d : Chip) (off : Nat) (w : Nat) (n : Nat) : (d.patCount off w n).dvt = d.dvt := rfl
@[simp] theorem Chip.patCount_dma (d : Chip) (off : Nat) (w : Nat) (n : Nat) : (d.patCount off w n).dma = d.dma := rfl
@[simp] theorem Chip.patCount_pkt (d : Chip) (off : Nat) (w : Nat) (n : Nat) : (d.patCount off w n).pkt = d.pkt := rfl
@[simp] theorem Chip.patCount_nvs (d : Chip) (off : Nat) (w : Nat) (n : Nat) : (d.patCount off w n).nvs = d.nvs := rfl
@[simp] theorem Chip.patCount_ckp (d : Chip) (off : Nat) (w : Nat) (n : Nat) : (d.patCount off w n).ckp = d.ckp := rfl
@[simp] theorem Chip.patCount_pwr (d : Chip) (off : Nat) (w : Nat) (n : Nat) : (d.patCount off w n).pwr = d.pwr := rfl

/-! ## `Chip.patSet` -/

@[simp] theorem Chip.patSet_free (d : Chip) (off : Nat) (b : Nat) : (d.patSet off b).free = d.free := rfl
@[simp] theorem Chip.patSet_regs (d : Chip) (off : Nat) (b : Nat) : (d.patSet off b).regs = d.regs := rfl
@[simp] theorem Chip.patSet_latch (d : Chip) (off : Nat) (b : Nat) : (d.patSet off b).latch = d.latch := rfl
@[simp] theorem Chip.patSet_satCtrs (d : Chip) (off : Nat) (b : Nat) : (d.patSet off b).satCtrs = d.satCtrs := rfl
@[simp] theorem Chip.patSet_bus (d : Chip) (off : Nat) (b : Nat) : (d.patSet off b).bus = d.bus := rfl
@[simp] theorem Chip.patSet_mem (d : Chip) (off : Nat) (b : Nat) : (d.patSet off b).mem = d.mem := rfl
@[simp] theorem Chip.patSet_led (d : Chip) (off : Nat) (b : Nat) : (d.patSet off b).led = d.led := rfl
@[simp] theorem Chip.patSet_attn (d : Chip) (off : Nat) (b : Nat) : (d.patSet off b).attn = d.attn := rfl
@[simp] theorem Chip.patSet_attnServed (d : Chip) (off : Nat) (b : Nat) : (d.patSet off b).attnServed = d.attnServed := rfl
@[simp] theorem Chip.patSet_owed (d : Chip) (off : Nat) (b : Nat) : (d.patSet off b).owed = d.owed := rfl
@[simp] theorem Chip.patSet_fetched (d : Chip) (off : Nat) (b : Nat) : (d.patSet off b).fetched = d.fetched := rfl
@[simp] theorem Chip.patSet_agents (d : Chip) (off : Nat) (b : Nat) : (d.patSet off b).agents = d.agents := rfl
@[simp] theorem Chip.patSet_answer (d : Chip) (off : Nat) (b : Nat) : (d.patSet off b).answer = d.answer := rfl
@[simp] theorem Chip.patSet_hub (d : Chip) (off : Nat) (b : Nat) : (d.patSet off b).hub = d.hub := rfl
@[simp] theorem Chip.patSet_tck (d : Chip) (off : Nat) (b : Nat) : (d.patSet off b).tck = d.tck := rfl
@[simp] theorem Chip.patSet_ldr (d : Chip) (off : Nat) (b : Nat) : (d.patSet off b).ldr = d.ldr := rfl
@[simp] theorem Chip.patSet_arm (d : Chip) (off : Nat) (b : Nat) : (d.patSet off b).arm = d.arm := rfl
@[simp] theorem Chip.patSet_mu (d : Chip) (off : Nat) (b : Nat) : (d.patSet off b).mu = d.mu := rfl
@[simp] theorem Chip.patSet_wk (d : Chip) (off : Nat) (b : Nat) : (d.patSet off b).wk = d.wk := rfl
@[simp] theorem Chip.patSet_coll (d : Chip) (off : Nat) (b : Nat) : (d.patSet off b).coll = d.coll := rfl
@[simp] theorem Chip.patSet_kv (d : Chip) (off : Nat) (b : Nat) : (d.patSet off b).kv = d.kv := rfl
@[simp] theorem Chip.patSet_hif (d : Chip) (off : Nat) (b : Nat) : (d.patSet off b).hif = d.hif := rfl
@[simp] theorem Chip.patSet_trc (d : Chip) (off : Nat) (b : Nat) : (d.patSet off b).trc = d.trc := rfl
@[simp] theorem Chip.patSet_lnk (d : Chip) (off : Nat) (b : Nat) : (d.patSet off b).lnk = d.lnk := rfl
@[simp] theorem Chip.patSet_sec (d : Chip) (off : Nat) (b : Nat) : (d.patSet off b).sec = d.sec := rfl
@[simp] theorem Chip.patSet_fw (d : Chip) (off : Nat) (b : Nat) : (d.patSet off b).fw = d.fw := rfl
@[simp] theorem Chip.patSet_cal (d : Chip) (off : Nat) (b : Nat) : (d.patSet off b).cal = d.cal := rfl
@[simp] theorem Chip.patSet_dvt (d : Chip) (off : Nat) (b : Nat) : (d.patSet off b).dvt = d.dvt := rfl
@[simp] theorem Chip.patSet_dma (d : Chip) (off : Nat) (b : Nat) : (d.patSet off b).dma = d.dma := rfl
@[simp] theorem Chip.patSet_pkt (d : Chip) (off : Nat) (b : Nat) : (d.patSet off b).pkt = d.pkt := rfl
@[simp] theorem Chip.patSet_nvs (d : Chip) (off : Nat) (b : Nat) : (d.patSet off b).nvs = d.nvs := rfl
@[simp] theorem Chip.patSet_ckp (d : Chip) (off : Nat) (b : Nat) : (d.patSet off b).ckp = d.ckp := rfl
@[simp] theorem Chip.patSet_pwr (d : Chip) (off : Nat) (b : Nat) : (d.patSet off b).pwr = d.pwr := rfl

/-! ## `Chip.syncHeld` -/

@[simp] theorem Chip.syncHeld_free (d : Chip) : (d.syncHeld).free = d.free := rfl
@[simp] theorem Chip.syncHeld_latch (d : Chip) : (d.syncHeld).latch = d.latch := rfl
@[simp] theorem Chip.syncHeld_satCtrs (d : Chip) : (d.syncHeld).satCtrs = d.satCtrs := rfl
@[simp] theorem Chip.syncHeld_bus (d : Chip) : (d.syncHeld).bus = d.bus := rfl
@[simp] theorem Chip.syncHeld_mem (d : Chip) : (d.syncHeld).mem = d.mem := rfl
@[simp] theorem Chip.syncHeld_led (d : Chip) : (d.syncHeld).led = d.led := rfl
@[simp] theorem Chip.syncHeld_attn (d : Chip) : (d.syncHeld).attn = d.attn := rfl
@[simp] theorem Chip.syncHeld_attnServed (d : Chip) : (d.syncHeld).attnServed = d.attnServed := rfl
@[simp] theorem Chip.syncHeld_owed (d : Chip) : (d.syncHeld).owed = d.owed := rfl
@[simp] theorem Chip.syncHeld_fetched (d : Chip) : (d.syncHeld).fetched = d.fetched := rfl
@[simp] theorem Chip.syncHeld_agents (d : Chip) : (d.syncHeld).agents = d.agents := rfl
@[simp] theorem Chip.syncHeld_answer (d : Chip) : (d.syncHeld).answer = d.answer := rfl
@[simp] theorem Chip.syncHeld_hub (d : Chip) : (d.syncHeld).hub = d.hub := rfl
@[simp] theorem Chip.syncHeld_tck (d : Chip) : (d.syncHeld).tck = d.tck := rfl
@[simp] theorem Chip.syncHeld_ldr (d : Chip) : (d.syncHeld).ldr = d.ldr := rfl
@[simp] theorem Chip.syncHeld_arm (d : Chip) : (d.syncHeld).arm = d.arm := rfl
@[simp] theorem Chip.syncHeld_mu (d : Chip) : (d.syncHeld).mu = d.mu := rfl
@[simp] theorem Chip.syncHeld_wk (d : Chip) : (d.syncHeld).wk = d.wk := rfl
@[simp] theorem Chip.syncHeld_coll (d : Chip) : (d.syncHeld).coll = d.coll := rfl
@[simp] theorem Chip.syncHeld_kv (d : Chip) : (d.syncHeld).kv = d.kv := rfl
@[simp] theorem Chip.syncHeld_hif (d : Chip) : (d.syncHeld).hif = d.hif := rfl
@[simp] theorem Chip.syncHeld_pat (d : Chip) : (d.syncHeld).pat = d.pat := rfl
@[simp] theorem Chip.syncHeld_trc (d : Chip) : (d.syncHeld).trc = d.trc := rfl
@[simp] theorem Chip.syncHeld_lnk (d : Chip) : (d.syncHeld).lnk = d.lnk := rfl
@[simp] theorem Chip.syncHeld_sec (d : Chip) : (d.syncHeld).sec = d.sec := rfl
@[simp] theorem Chip.syncHeld_fw (d : Chip) : (d.syncHeld).fw = d.fw := rfl
@[simp] theorem Chip.syncHeld_cal (d : Chip) : (d.syncHeld).cal = d.cal := rfl
@[simp] theorem Chip.syncHeld_dvt (d : Chip) : (d.syncHeld).dvt = d.dvt := rfl
@[simp] theorem Chip.syncHeld_dma (d : Chip) : (d.syncHeld).dma = d.dma := rfl
@[simp] theorem Chip.syncHeld_pkt (d : Chip) : (d.syncHeld).pkt = d.pkt := rfl
@[simp] theorem Chip.syncHeld_nvs (d : Chip) : (d.syncHeld).nvs = d.nvs := rfl
@[simp] theorem Chip.syncHeld_ckp (d : Chip) : (d.syncHeld).ckp = d.ckp := rfl
@[simp] theorem Chip.syncHeld_pwr (d : Chip) : (d.syncHeld).pwr = d.pwr := rfl

end Sys2Proof.Machine
end

