-- ==== Sys2Proof/Tests/Base.lean ====
section
/-! SUPPORT. Helpers of the tests: a chip that is up, with rings in hand, items in its ledger and values in its registers, and
the decidability of a statement about what an option holds. -/
set_option Elab.async false
namespace Sys2Proof.Tests
open Sys2Proof Sys2Proof.Machine

def decAllSome {α : Type} {o : Option α} {P : α → Prop} [DecidablePred P] : Decidable (∀ a, o = some a → P a) :=
  match o with
  | none => isTrue (by simp)
  | some b => decidable_of_iff (P b) (by simp)

def decExSome {α : Type} {o : Option α} {P : α → Prop} [DecidablePred P] : Decidable (∃ a, o = some a ∧ P a) :=
  match o with
  | none => isFalse (by simp)
  | some b => decidable_of_iff (P b) (by simp)

def decOk {α ε : Type} [DecidableEq α] {e : Except ε α} {x : α} : Decidable (e = .ok x) :=
  match e with
  | .ok y => decidable_of_iff (y = x) (by simp)
  | .error _ => isFalse (by simp)

def decErr {α ε : Type} [DecidableEq ε] {e : Except ε α} {x : ε} : Decidable (e = .error x) :=
  match e with
  | .error y => decidable_of_iff (y = x) (by simp)
  | .ok _ => isFalse (by simp)

theorem eq_some_getD {α : Type} {o : Option α} (h : o.isSome = true) (z : α) : o = some (o.getD z) := by
  cases o with
  | none => cases h
  | some b => rfl

theorem eq_ok_getD {α ε : Type} {o : Except ε α} (h : o.toOption.isSome = true) (z : α) : o = .ok (o.toOption.getD z) := by
  cases o with
  | ok b => rfl
  | error e => cases h

theorem ex_err {α ε : Type} {o : Except ε α} (h : o.toOption.isNone = true) : ∃ e, o = .error e := by
  cases o with
  | ok b => cases h
  | error e => exact ⟨e, rfl⟩

theorem pair_all {α β : Type} [DecidableEq α] {o : Option (α × β)} {v : α} {P : β → Prop} [DecidablePred P]
    (h : o.all (fun p => !decide (p.1 = v) || decide (P p.2)) = true) : ∀ t, o = some (v, t) → P t := by
  rintro t rfl
  simpa using h

theorem firstFree_zero {α : Type} (t : Tbl α) (n : Nat) (h : (tget t 0).isNone = true) (hn : 0 < n) : firstFree t n = some 0 := by
  cases n with
  | zero => omega
  | succ n => simp [firstFree, List.range_succ_eq_map, h]

def up0 (d : Chip) : Chip :=
  ((((d.sr Reg.PCR_STATE.READY 1).sr Reg.PCR_STATE.CLK_SRC 1).sr Reg.PCR_STATE.MAQ_LOADED 1).sr Reg.MEM_PLINTH_STATE.INIT_BUSY 0).sr Reg.FLT_MODE.MODE 1
/-- a chip that is up: READY, clocks on the PLLs, NORMAL mode -/
def up : Chip := up0 { pwr := { por := false, refclk := true, stage1 := true, pllStart := true } }
def st (d : Chip) : State := ⟨[], d⟩
/-- rings 0 and 2 enabled with entries in hand, ring 2 of VF 5; core 1 handle 3 -/
def hand (d : Chip) : Chip :=
  let d := (((d.sr (Reg.HIF_RING.ENABLE 0) 1).sr (Reg.HIF_RING.ENABLE 2) 1).sr (Reg.HIF_RING.FUNC 2) 5).sr (Reg.HIF_FUNC_RINGS.COUNT 0) 4
  { d with fetched := [0, 2] }
def item0 (seq : Nat) (k : ItemKind) (c : CommitRec) : Item :=
  { seq := seq, slot := seq, state := .running, domain := .core 1, tag := 9, owner := 0x41, replied := false, redo := false, replayed := false, plan := 0,
    acceptTick := 0, endTick := 0, origin := .core 1 7, fn := 0x101, kind := k, body := {}, crec := c, fin := none, redoRec := none, carried := false,
    single := false, reply := {} }
def withItems (d : Chip) (is : List Item) : Chip := { d with led := { d.led with items := is, nextSeq := (is.map (fun i => i.seq)).foldl max 0 + 1 } }
/-- noise: memory, other attention, fault sources active -/
def noise (d : Chip) : Chip := { ((d.sr (Reg.FLT_SRC_STATE.ACTIVE 700) 1).sr Reg.FLT_HIST_HEAD.HEAD 33) with
  mem := { cells := [(0x1000, 7), (0x8000_0000, 9)] }, free := 5, attn := [⟨.haltRequest, .halting, 8⟩], answer := some ⟨.block .glb, true, .running, [], []⟩ }
def putBytes (d : Chip) (a : Nat) (bs : List Nat) : Chip := bs.zipIdx.foldl (fun d p => d.putByte (a + p.2) p.1) d
def cntMax (d : Chip) (fs : List Fld) : Chip := fs.foldl (fun d f => d.sr f (2 ^ f.w - 1)) d


end Sys2Proof.Tests
end

