-- ==== Sys2Proof/Tests/C00.lean ====
section
/-! SUPPORT. States and operands that meet the hypotheses of the statements of chapter 00, clause by clause. -/
set_option Elab.async false
set_option maxRecDepth 100000
namespace Sys2Proof.Tests.C00
open Sys2Proof Sys2Proof.Machine Sys2Proof.Tests

def pool : List Sys2Proof.Machine.State := [⟨[], {}⟩, st up, st (noise up), ⟨[.calPause], up⟩, st (up.sr Reg.PCR_STATE.POWER 2), st { up with bus := { up.bus with latch := [(.fn 0, 0x80010, 5)] } }, st { up with hub := { up.hub with inReset := true } }]

theorem test_StepRunsFront_witness :
    (∃ (s : State), s.pending = [] ∧ s.chip.fw.points = [] ∧ s.chip.fw.accepting = []) :=
  (⟨pool.getD 0 .reset, by
      decide +kernel⟩)

theorem test_Bar0Access_witness :
    (∃ (s : State) (by_ : Req) (addr : Nat) (fn : Nat) (o : Nat), (s.chip.place by_ addr) = .pf fn o ∧ addr % 4 = 0 ∧ (s.chip.place by_ addr).wide = false ∧ actsOn32 o = false ∧ s.chip.writeShut by_ (s.chip.place by_ addr) = false) ∧
    (∃ (addr : Nat) (bytes : Nat), ¬ ((bytes = 4 ∨ bytes = 8) ∧ addr % bytes = 0)) ∧
    (∃ (s : State) (by_ : Req) (addr : Nat), addr % 8 = 0 ∧ (s.chip.place by_ addr).wide = true ∧ s.chip.writeShut by_ (s.chip.place by_ addr) = false ∧ (∃ fn o, (s.chip.place by_ addr) = .pf fn o ∧ o % 8 = 0)) ∧
    (∃ (s : State) (by_ : Req) (addr : Nat) (fn : Nat) (o : Nat), addr % 8 = 4 ∧ (s.chip.place by_ addr).wide = true ∧ (s.chip.place by_ addr) = .pf fn o ∧ o % 8 = 4 ∧ s.chip.writeShut by_ (s.chip.place by_ addr) = false) ∧
    (∃ (s : State) (by_ : Req) (addr : Nat), s.chip.writeShut by_ (s.chip.place by_ addr) = true) ∧
    (∃ (s : State) (by_ : Req) (addr : Nat), (∃ fn o, (s.chip.place by_ addr) = .pf fn o ∧ o % 8 = 0 ∧ o ≠ 0x1200000) ∧ addr % 8 = 0 ∧ (s.chip.place by_ addr).wide = true ∧ s.chip.readGate by_ (s.chip.place by_ addr) = .open_) ∧
    (∃ (s : State) (by_ : Req) (addr : Nat) (h : Nat), (∃ fn o, (s.chip.place by_ addr) = .pf fn o ∧ o % 8 = 4 ∧ o ≠ 0x1200004) ∧ addr % 8 = 4 ∧ (s.chip.place by_ addr).wide = true ∧ s.chip.readGate by_ (s.chip.place by_ addr) = .open_ ∧ s.chip.bus.latchOf by_ (s.chip.place by_ addr).key = some h) ∧
    (∃ (s : State) (by_ : Req) (addr : Nat) (fn : Nat) (o : Nat) (wide : Bool), (s.chip.place by_ addr) = .pf fn o ∧ aligned addr wide = true ∧ (wide = true ∨ (s.chip.place by_ addr).wide = false ∨ (o % 8 = 4 ∧ s.chip.bus.latchOf by_ (s.chip.place by_ addr).key = none)) ∧ o / 8 * 8 ≠ 0x1200000 ∧ s.chip.readGate by_ (s.chip.place by_ addr) = .open_) ∧
    (∃ (s : State) (by_ : Req) (addr : Nat) (wide : Bool), aligned addr wide = true ∧ s.chip.readGate by_ (s.chip.place by_ addr) = .ones) ∧
    (∃ (s : State), s.chip.hub.inReset = false ∧ s.chip.pwr.trigger = 0 ∧ s.chip.flag Reg.FLT_SAFE.SAFE = false ∧ s.chip.frozen 0 = false) :=
  ⟨(⟨pool.getD 0 .reset, Req.fn 0, 0, 0, 0, by
      decide +kernel⟩),
   (⟨0, 0, by
      decide +kernel⟩),
   (⟨pool.getD 0 .reset, Req.fn 0, 524304, by decide +kernel, by decide +kernel, by decide +kernel, ⟨0, 0x80010, by decide +kernel⟩⟩),
   (⟨pool.getD 0 .reset, Req.fn 0, 524308, 0, 524308, by
      decide +kernel⟩),
   (⟨pool.getD 6 .reset, Req.fn 0, 0, by
      decide +kernel⟩),
   (⟨pool.getD 0 .reset, Req.fn 0, 524304, ⟨0, 0x80010, by decide +kernel⟩, by decide +kernel, by decide +kernel, by decide +kernel⟩),
   (⟨pool.getD 5 .reset, Req.fn 0, 524308, 5, ⟨0, 0x80014, by decide +kernel⟩, by decide +kernel, by decide +kernel, by decide +kernel, by decide +kernel⟩),
   (⟨pool.getD 0 .reset, Req.fn 0, 0, 0, 0, false, by
      decide +kernel⟩),
   (⟨pool.getD 6 .reset, Req.fn 0, 524304, false, by
      decide +kernel⟩),
   (⟨pool.getD 0 .reset, by
      decide +kernel⟩)⟩

end Sys2Proof.Tests.C00
end

