-- ==== Sys2Proof/Tests/C01.lean ====
section
/-! SUPPORT. States and operands that meet the hypotheses of the statements of chapter 01, clause by clause. -/
set_option Elab.async false
set_option maxRecDepth 100000
namespace Sys2Proof.Tests.C01
open Sys2Proof Sys2Proof.Machine Sys2Proof.Tests

def blocks : List Block := [.glb , .hif , .flt , .pcr , .tck , .wkc , .col , .kva , .mem , .amt , .lnk , .dvt , .pkt , .dma , .nvs , .ckp , .sec , .obs , .pat]
def ags (d : Chip) (x : AgentState) : Chip := { d with agents := (blocks.map (fun b => (Agent.block b, x))) ++ [(.wc 0, x), (.ac 3, x)] }
def it1 := withItems up [item0 3 (.armature 1) .issued, { item0 4 (.armature 1) .issued with crec := .taken }, {item0 5 .dvt .none with state := .running}, { item0 6 .work .taken with state := .committed }, item0 9 (.armature 2) .none]
def ms : List Chip := [{}, up, noise up, ags up {st := .fenced}, ags up {st := .gated}, ags up {fencing := true}, ags it1 {fencing := true, resetAfter := true}, ags (noise it1) {fencing := true},
  up.sr Reg.FLT_MODE.MODE 2, cntMax ((noise up).sr Reg.FLT_MODE.MODE 2) [Reg.OBS_COUNT.COUNT 8, Reg.FLT_SRC_EVENTS.COUNT 0, Reg.FLT_SRC_EVENTS.COUNT 1],
  it1, noise (hand it1), hand { up with led := { up.led with nextSeq := 6 } },
  { up with led := { up.led with arising := [⟨.core 1, 3, 0, .core 1 4, 0x101, 0x41, .work, {}, none⟩, ⟨.core 1, 3, 0, .core 1 4, 0x101, 0x41, .work, {}, none⟩] } },
  { it1 with led := { it1.led with lost := true } },
  (it1.sr Reg.GLB_LEDGER_STATE.REBUILD 1).sr Reg.GLB_LEDGER_STATE.COPIES 2,
  (noise it1).sr Reg.GLB_ATTN_NOTE.NOTE 0xFFFF,
  { (up.sr Reg.PCR_STATE.READY 0) with pwr := { up.pwr with } },
  { it1 with led := { it1.led with pass := some [item0 3 .work .taken, { item0 6 .work .taken with state := .committed, replied := true }], mirrorDev := some 1, passTick := 4, passHead := 9, passLow := 2 } },
  { it1 with led := { it1.led with mirrorDev := some 1, mirror := some ⟨up.mirrorBase 1, 0, 1, 9, 1, [item0 3 .work .none]⟩ } }.sr Reg.PCR_STATE.READY 0,
  { it1 with led := { it1.led with lost := true, mirrorDev := some 1 }, hub := { inReset := true}, pwr := {up.pwr with released := true} },
  { ((up.sr Reg.MEM_QUARRY_STATE.PRESENT 15).sr (Reg.MEM_QUARRY_CAP.UNITS 1) 2).sr Reg.PCR_STATE.READY 0 with led := { up.led with mirrorDev := some 1, mirror := some ⟨up.mirrorBase 1, 0, 1, 9, 1, [item0 3 .work .none, item0 12 .work .none]⟩ }, mem := { cells := ((mirrorHeader 7 9 1).zipIdx.filter (fun p => p.1 ≠ 0)).map (fun p => (((up.sr (Reg.MEM_QUARRY_CAP.UNITS 1) 2).mirrorBase 1) + p.2, BitVec.ofNat 8 p.1)) } },
 (hand (noise up)), { (hand (noise up)) with attnServed := [0] }]
def pool : List State := ms.map st

theorem test_AgentCommands_witness :
    (∃ (a : Agent) (s : State), islandAgent a = false ∧ s.chip.agentSt a = .running ∧ (s.chip.agentRec a).fencing = false) ∧
    (∃ (b : Block) (s : State), b ∈ [Block.glb, .flt, .pcr, .lnk, .obs, .pat] ∧ (s.chip.agentRec (.block b)).fencing = true ∧ (s.chip.agentRec (.block b)).resetAfter = false) ∧
    (∃ (b : Block) (k : Nat) (s : State), (b, k) ∈ [(Block.tck, 1), (.hif, 9)] ∧ (s.chip.agentRec (.block b)).fencing = true ∧ (s.chip.agentRec (.block b)).resetAfter = false) ∧
    (∃ (b : Block) (s : State), (s.chip.agentRec (.block b)).fencing = true) ∧
    (∃ (s : State), (s.chip.agentRec (.block .dvt)).fencing = true ∧ (s.chip.agentRec (.block .dvt)).resetAfter = false) ∧
    (∃ (b : Block) (s : State), b ∈ [Block.glb, .hif, .tck, .wkc, .mem, .amt, .lnk, .pkt, .ckp, .sec, .obs] ∧ s.chip.hub.inReset = false ∧ s.chip.agentSt (.block b) = .fenced ∧ s.chip.activeSources (.block b) = [] ∧ (∀ i ∈ s.chip.led.items, i.kind ≠ .general 0x0D03)) ∧
    (∃ (b : Block) (s : State), keepsPower (.block b) = false ∧ s.chip.agentSt (.block b) = .fenced) ∧
    (∃ (b : Block) (s : State), keepsPower (.block b) = false ∧ s.chip.agentSt (.block b) = .running) ∧
    (∃ (b : Block) (s : State), islandAgent (.block b) = false ∧ s.chip.agentSt (.block b) = .gated) ∧
    (∃ (s : State), s.chip.rg Reg.FLT_MODE.MODE ≠ 2) ∧
    (∃ (a : Agent) (source : Fin 768) (s : State), s.chip.rg Reg.FLT_MODE.MODE = 2 ∧ sourceNamed source = true ∧ agentOfSource source = a) ∧
    (∃ (a : Agent), (a = .block .flt ∨ a = .block .pcr)) ∧
    (∃ (b : Block), (b = .tck ∨ b = .mem)) :=
  ⟨(⟨Agent.block (Block.glb), pool.getD 0 .reset, by
      decide +kernel⟩),
   (⟨Block.glb, pool.getD 5 .reset, by
      decide +kernel⟩),
   (⟨Block.tck, 1, pool.getD 5 .reset, by
      decide +kernel⟩),
   (⟨Block.glb, pool.getD 5 .reset, by
      decide +kernel⟩),
   (⟨pool.getD 5 .reset, by
      decide +kernel⟩),
   (⟨Block.glb, pool.getD 3 .reset, by
      refine @of_decide_eq_true _ (by haveI := @decAllSome; haveI := @decExSome; haveI := @decOk; haveI := @decErr; infer_instance) ?_
      decide +kernel⟩),
   (⟨Block.glb, pool.getD 3 .reset, by
      decide +kernel⟩),
   (⟨Block.glb, pool.getD 0 .reset, by
      decide +kernel⟩),
   (⟨Block.glb, pool.getD 4 .reset, by
      decide +kernel⟩),
   (⟨pool.getD 0 .reset, by
      decide +kernel⟩),
   (⟨Agent.block (Block.flt), 767, pool.getD 8 .reset, by
      decide +kernel⟩),
   (⟨Agent.block (Block.flt), by
      decide +kernel⟩),
   (⟨Block.tck, by
      decide +kernel⟩)⟩

theorem test_LedgerAcceptance_witness :
    (∃ (s : State) (a : Arising), s.chip.nextArising = some a ∧ a.frieze = none ∧ s.chip.takesItems = true ∧ (∀ n e, a.kind ≠ .query n e) ∧ (∀ k n, a.kind ≠ .firing k n)) ∧
    (∃ (s : State) (a : Arising), s.chip.nextArising = some a ∧ s.chip.takesItems = true) ∧
    (∃ (s : State) (i : Item), s.chip.commits = true ∧ s.chip.item i.seq = some i ∧ i.crec = .issued) ∧
    (∃ (s : State) (i : Item), s.chip.commits = true ∧ s.chip.item i.seq = some i ∧ i.crec = .taken ∧ i.state.ended = false ∧ (∃ n, i.kind = .armature n)) ∧
    (∃ (s : State) (i : Item), s.chip.commits = true ∧ s.chip.item i.seq = some i ∧ i.crec = .taken ∧ i.state.ended = false ∧ s.chip.commitGate i = true ∧ i.kind ≠ .general 0x0503) ∧
    (∃ (s : State) (seq : Nat) (code : Nat), s.chip.canWithdraw seq = false ∧ withdrawCode code = false) ∧
    (∃ (s : State) (i : Item) (code : Nat), s.chip.item i.seq = some i ∧ withdrawCode code = true ∧ i.state.ended = false ∧ i.crec ≠ .taken ∧ s.chip.led.lost = false ∧ (∃ n, i.kind = .armature n)) ∧
    (∃ (s : State) (src : Submit) (target : Nat), TakenUp s.chip src .hif true 0 ∧ (target % 2 ^ 64 = 0 ∨ s.chip.led.nextSeq ≤ target % 2 ^ 64 ∨ ∃ i, s.chip.item (target % 2 ^ 64) = some i ∧ i.fn ≠ s.chip.originFn src.origin)) ∧
    (∃ (s : State) (src : Submit) (target : Nat), TakenUp s.chip src .hif true 0 ∧ 0 < target % 2 ^ 64 ∧ target % 2 ^ 64 < s.chip.led.nextSeq ∧ (∀ i, s.chip.item (target % 2 ^ 64) = some i → i.fn = s.chip.originFn src.origin) ∧ s.chip.canWithdraw (target % 2 ^ 64) = false) ∧
    (∃ (d : Chip) (q : Nat) (target : Nat) (i : Item), d.item target = some i ∧ d.canWithdraw target = true ∧ (∃ n, i.kind = .armature n) ∧ d.led.lost = false ∧ q ≠ target) :=
  ⟨(⟨pool.getD 13 .reset, { domain := Domain.core 1, tag := 3, plan := 0, origin := Origin.core 1 4, fn := 257, owner := 65, kind := ItemKind.work, body := { w0 := (0x0 : BitVec 64), w1 := (0x0 : BitVec 64), w2 := (0x0 : BitVec 64), w3 := (0x0 : BitVec 64), w4 := (0x0 : BitVec 64), w5 := (0x0 : BitVec 64), w6 := (0x0 : BitVec 64), w7 := (0x0 : BitVec 64) }, frieze := none }, by decide +kernel, by decide +kernel, by decide +kernel, (by intro _ _ h; cases h), (by intro _ _ h; cases h)⟩),
   (⟨pool.getD 13 .reset, { domain := Domain.core 1, tag := 3, plan := 0, origin := Origin.core 1 4, fn := 257, owner := 65, kind := ItemKind.work, body := { w0 := (0x0 : BitVec 64), w1 := (0x0 : BitVec 64), w2 := (0x0 : BitVec 64), w3 := (0x0 : BitVec 64), w4 := (0x0 : BitVec 64), w5 := (0x0 : BitVec 64), w6 := (0x0 : BitVec 64), w7 := (0x0 : BitVec 64) }, frieze := none }, by
      decide +kernel⟩),
   (⟨pool.getD 6 .reset, { seq := 3, slot := 3, state := ItemState.running, domain := Domain.core 1, tag := 9, owner := 65, replied := false, redo := false, replayed := false, plan := 0, acceptTick := 0, endTick := 0, origin := Origin.core 1 7, fn := 257, kind := ItemKind.armature 1, body := { w0 := (0x0 : BitVec 64), w1 := (0x0 : BitVec 64), w2 := (0x0 : BitVec 64), w3 := (0x0 : BitVec 64), w4 := (0x0 : BitVec 64), w5 := (0x0 : BitVec 64), w6 := (0x0 : BitVec 64), w7 := (0x0 : BitVec 64) }, crec := CommitRec.issued, fin := none, redoRec := none, carried := false, single := false, reply := { code := 0, lo := 0, hi := 0 } }, by
      decide +kernel⟩),
   (⟨pool.getD 6 .reset, { seq := 4, slot := 4, state := ItemState.running, domain := Domain.core 1, tag := 9, owner := 65, replied := false, redo := false, replayed := false, plan := 0, acceptTick := 0, endTick := 0, origin := Origin.core 1 7, fn := 257, kind := ItemKind.armature 1, body := { w0 := (0x0 : BitVec 64), w1 := (0x0 : BitVec 64), w2 := (0x0 : BitVec 64), w3 := (0x0 : BitVec 64), w4 := (0x0 : BitVec 64), w5 := (0x0 : BitVec 64), w6 := (0x0 : BitVec 64), w7 := (0x0 : BitVec 64) }, crec := CommitRec.taken, fin := none, redoRec := none, carried := false, single := false, reply := { code := 0, lo := 0, hi := 0 } }, by decide +kernel, by decide +kernel, by decide +kernel, by decide +kernel, ⟨1, rfl⟩⟩),
   (⟨pool.getD 6 .reset, { seq := 4, slot := 4, state := ItemState.running, domain := Domain.core 1, tag := 9, owner := 65, replied := false, redo := false, replayed := false, plan := 0, acceptTick := 0, endTick := 0, origin := Origin.core 1 7, fn := 257, kind := ItemKind.armature 1, body := { w0 := (0x0 : BitVec 64), w1 := (0x0 : BitVec 64), w2 := (0x0 : BitVec 64), w3 := (0x0 : BitVec 64), w4 := (0x0 : BitVec 64), w5 := (0x0 : BitVec 64), w6 := (0x0 : BitVec 64), w7 := (0x0 : BitVec 64) }, crec := CommitRec.taken, fin := none, redoRec := none, carried := false, single := false, reply := { code := 0, lo := 0, hi := 0 } }, by
      decide +kernel⟩),
   (⟨pool.getD 0 .reset, 0, 0, by
      decide +kernel⟩),
   (⟨pool.getD 6 .reset, { seq := 3, slot := 3, state := ItemState.running, domain := Domain.core 1, tag := 9, owner := 65, replied := false, redo := false, replayed := false, plan := 0, acceptTick := 0, endTick := 0, origin := Origin.core 1 7, fn := 257, kind := ItemKind.armature 1, body := { w0 := (0x0 : BitVec 64), w1 := (0x0 : BitVec 64), w2 := (0x0 : BitVec 64), w3 := (0x0 : BitVec 64), w4 := (0x0 : BitVec 64), w5 := (0x0 : BitVec 64), w6 := (0x0 : BitVec 64), w7 := (0x0 : BitVec 64) }, crec := CommitRec.issued, fin := none, redoRec := none, carried := false, single := false, reply := { code := 0, lo := 0, hi := 0 } }, 2, by decide +kernel, by decide +kernel, by decide +kernel, by decide +kernel, by decide +kernel, ⟨1, rfl⟩⟩),
   (⟨pool.getD 1 .reset, { origin := Origin.internal, tag := (0x1 : BitVec 32) }, 0, by
      unfold TakenUp
      refine @of_decide_eq_true _ (by haveI := @decAllSome; haveI := @decExSome; haveI := @decOk; haveI := @decErr; infer_instance) ?_
      decide +kernel⟩),
   (⟨pool.getD 10 .reset, { origin := Origin.internal, tag := (0x1 : BitVec 32) }, 1, by
      unfold TakenUp
      refine @of_decide_eq_true _ (by haveI := @decAllSome; haveI := @decExSome; haveI := @decOk; haveI := @decErr; infer_instance) ?_
      decide +kernel⟩),
   (⟨(pool.getD 6 .reset).chip, 0, 3, { seq := 3, slot := 3, state := ItemState.running, domain := Domain.core 1, tag := 9, owner := 65, replied := false, redo := false, replayed := false, plan := 0, acceptTick := 0, endTick := 0, origin := Origin.core 1 7, fn := 257, kind := ItemKind.armature 1, body := { w0 := (0x0 : BitVec 64), w1 := (0x0 : BitVec 64), w2 := (0x0 : BitVec 64), w3 := (0x0 : BitVec 64), w4 := (0x0 : BitVec 64), w5 := (0x0 : BitVec 64), w6 := (0x0 : BitVec 64), w7 := (0x0 : BitVec 64) }, crec := CommitRec.issued, fin := none, redoRec := none, carried := false, single := false, reply := { code := 0, lo := 0, hi := 0 } }, by decide +kernel, by decide +kernel, ⟨1, rfl⟩, by decide +kernel, by decide +kernel⟩)⟩

theorem test_LedgerCopies_witness :
    (∃ (s : State) (copy : Fin 2), s.chip.led.lost = false ∧ s.chip.rg Reg.GLB_LEDGER_STATE.COPIES = 2 ^ copy.val) ∧
    (∃ (s : State) (copy : Fin 2), s.chip.led.lost = false ∧ s.chip.rg Reg.GLB_LEDGER_STATE.COPIES = 3 ∧ s.chip.remap copy = [] ∧ s.chip.mu.retired = []) ∧
    (∃ (s : State), s.chip.flag Reg.GLB_LEDGER_STATE.REBUILD = true) ∧
    (∃ (s : State), s.chip.led.lost = false) ∧
    (∃ (s : State), ledgerSlots ≤ s.chip.led.items.length) ∧
    (∃ (s : State) (is : List Item) (k : Nat), s.chip.led.pass = some is ∧ s.chip.led.mirrorDev = some k) ∧
    (∃ (s : State), s.chip.reportDue = true ∧ s.chip.led.mirrorDev = none ∧ s.chip.led.lost = false) ∧
    (∃ (s : State) (k : Nat) (head : Nat) (m : MirrorArea), s.chip.reportDue = true ∧ s.chip.led.mirrorDev = some k ∧ s.chip.mirrorUp k = true ∧ headerHead (s.chip.bytes (s.chip.mirrorBase k) 64) = some head ∧ s.chip.led.mirror = some m ∧ s.chip.anyPoison (s.chip.mirrorBase k) 64 = false) ∧
    (∃ (s : State) (k : Nat), s.chip.reportDue = true ∧ s.chip.led.mirrorDev = some k ∧ s.chip.mirrorUp k = false ∧ s.chip.flag Reg.MEM_PLINTH_STATE.INIT_BUSY = false ∧ s.chip.led.lost = false) ∧
    (∃ (s : State), s.chip.attnLevel = 0) ∧
    (∃ (s : State) (fn : Nat), s.chip.attnLevel ≠ 0 ∧ s.chip.attnServed.contains fn = false ∧ (s.chip.fnRings fn).2 ≠ 0 ∧ s.chip.flag (Reg.HIF_RING.ENABLE (s.chip.fnRings fn).1) = true ∧ s.chip.ringFn (s.chip.fnRings fn).1 = fn ∧ s.chip.ringFull (s.chip.fnRings fn).1 = false ∧ s.chip.ringDead (s.chip.fnRings fn).1 = false) :=
  ⟨(⟨pool.getD 15 .reset, 1, by
      decide +kernel⟩),
   (⟨pool.getD 0 .reset, 0, by
      decide +kernel⟩),
   (⟨pool.getD 15 .reset, by
      decide +kernel⟩),
   (⟨pool.getD 0 .reset, by
      decide +kernel⟩),
   (⟨st (withItems up (List.replicate ledgerSlots (item0 3 .work .none))), by simp [st, withItems]⟩),
   (⟨pool.getD 18 .reset, [{ seq := 3, slot := 3, state := ItemState.running, domain := Domain.core 1, tag := 9, owner := 65, replied := false, redo := false, replayed := false, plan := 0, acceptTick := 0, endTick := 0, origin := Origin.core 1 7, fn := 257, kind := ItemKind.work, body := { w0 := (0x0 : BitVec 64), w1 := (0x0 : BitVec 64), w2 := (0x0 : BitVec 64), w3 := (0x0 : BitVec 64), w4 := (0x0 : BitVec 64), w5 := (0x0 : BitVec 64), w6 := (0x0 : BitVec 64), w7 := (0x0 : BitVec 64) }, crec := CommitRec.taken, fin := none, redoRec := none, carried := false, single := false, reply := { code := 0, lo := 0, hi := 0 } }, { seq := 6, slot := 6, state := ItemState.committed, domain := Domain.core 1, tag := 9, owner := 65, replied := true, redo := false, replayed := false, plan := 0, acceptTick := 0, endTick := 0, origin := Origin.core 1 7, fn := 257, kind := ItemKind.work, body := { w0 := (0x0 : BitVec 64), w1 := (0x0 : BitVec 64), w2 := (0x0 : BitVec 64), w3 := (0x0 : BitVec 64), w4 := (0x0 : BitVec 64), w5 := (0x0 : BitVec 64), w6 := (0x0 : BitVec 64), w7 := (0x0 : BitVec 64) }, crec := CommitRec.taken, fin := none, redoRec := none, carried := false, single := false, reply := { code := 0, lo := 0, hi := 0 } }], 1, by
      decide +kernel⟩),
   (⟨pool.getD 17 .reset, by
      decide +kernel⟩),
   (⟨pool.getD 21 .reset, 1, 9, { base := 1373852663808, draw := 0, tick := 1, head := 9, low := 1, items := [{ seq := 3, slot := 3, state := ItemState.running, domain := Domain.core 1, tag := 9, owner := 65, replied := false, redo := false, replayed := false, plan := 0, acceptTick := 0, endTick := 0, origin := Origin.core 1 7, fn := 257, kind := ItemKind.work, body := { w0 := (0x0 : BitVec 64), w1 := (0x0 : BitVec 64), w2 := (0x0 : BitVec 64), w3 := (0x0 : BitVec 64), w4 := (0x0 : BitVec 64), w5 := (0x0 : BitVec 64), w6 := (0x0 : BitVec 64), w7 := (0x0 : BitVec 64) }, crec := CommitRec.none, fin := none, redoRec := none, carried := false, single := false, reply := { code := 0, lo := 0, hi := 0 } }, { seq := 12, slot := 12, state := ItemState.running, domain := Domain.core 1, tag := 9, owner := 65, replied := false, redo := false, replayed := false, plan := 0, acceptTick := 0, endTick := 0, origin := Origin.core 1 7, fn := 257, kind := ItemKind.work, body := { w0 := (0x0 : BitVec 64), w1 := (0x0 : BitVec 64), w2 := (0x0 : BitVec 64), w3 := (0x0 : BitVec 64), w4 := (0x0 : BitVec 64), w5 := (0x0 : BitVec 64), w6 := (0x0 : BitVec 64), w7 := (0x0 : BitVec 64) }, crec := CommitRec.none, fin := none, redoRec := none, carried := false, single := false, reply := { code := 0, lo := 0, hi := 0 } }] }, by
      decide +kernel⟩),
   (⟨pool.getD 19 .reset, 1, by
      decide +kernel⟩),
   (⟨pool.getD 0 .reset, by
      decide +kernel⟩),
   (⟨pool.getD 11 .reset, 0, by
      decide +kernel⟩)⟩

end Sys2Proof.Tests.C01
end

