-- ==== Sys2Proof/Tests/C02.lean ====
section
/-! SUPPORT. States and operands that meet the hypotheses of the statements of chapter 02, clause by clause. -/
set_option Elab.async false
set_option maxRecDepth 100000
namespace Sys2Proof.Tests.C02
open Sys2Proof Sys2Proof.Machine Sys2Proof.Tests

def r0 := up.sr Reg.TCK_STATUS.BYPASS 0
def onr (k : Nat) := (r0.sr Reg.TCK_STATUS.STATE k)
def pl (id : Nat) (s : PlanState) : Plan := ⟨id, 0, s, ⟨0, false, 16, 1, 1, 256, 0, 0, 0, 0, 0, 0, 0, 0, 0, 192, 0, 0xFFFF, List.replicate 12 0, List.replicate 12 0⟩, 0x100000, [3], 0, 0, 0, false, 0⟩
def ld : Loader := { plans := [pl 1 .active, pl 2 .faulted, pl 3 .loading], active := [(0, ⟨0, 1, 0, 5, 0, 0, 0⟩), (1, ⟨0, 1, 0, 5, 0, 0, 0⟩)], shadow := [(2, ⟨0, 1, 0, 5, 0, 0, 0⟩), (3, ⟨0, 9, 0, 5, 0, 0, 0⟩)], swap := true, cmds := [] }
def img : List Nat :=
  let b := leBytes 4 0x504C414E ++ leBytes 2 1 ++ [1, 0] ++ leBytes 2 16 ++ [1, 2] ++ leBytes 4 512 ++ leBytes 4 0 ++ leBytes 4 0 ++ leBytes 4 0 ++ leBytes 2 1 ++ leBytes 2 1 ++
    leBytes 4 0 ++ leBytes 4 0 ++ leBytes 4 0 ++ [0,0,0,0] ++ leBytes 4 192 ++ leBytes 2 1 ++ leBytes 2 0
  let b := b ++ List.replicate (0xBC - b.length) 0
  b ++ leBytes 4 (crc32c b)
def stp : List Nat := [1, 0] ++ leBytes 2 0xFFFF ++ leBytes 4 64 ++ leBytes 4 256 ++ [0, 0] ++ List.replicate 18 0
def lk (d : Chip) : Chip := (d.sr Reg.TCK_STATUS.STATE 1).sr Reg.TCK_CTRL.ROLE 0
def withImg (d : Chip) : Chip := putBytes (putBytes d 0x4000 img) (0x4000 + 192) stp
def ms : List Chip := [{}, up, noise up, onr 0, onr 1, onr 2, onr 3, noise (onr 1), up.sr Reg.TCK_CTRL.ROLE 1,
  { onr 1 with tck := { rxNumber := some 5, trace := List.range 16, bypass := List.range 16, probeOut := false, lower := some 4, out := [.flags 3, .probe 0 1], phaseRun := 2, leaveSent := some 4, leaving := true } },
  { onr 3 with tck := { rxNumber := some 5, trace := List.range 16, bypass := List.range 16, probeOut := true, sinceProbe := 65536, out := [.flags 3], phaseRun := 3, lower := some 9 } },
  { up with tck := { join := some 4, rxNumber := some 5 } }, { (onr 1) with tck := { leaving := true, leaveSent := some 9 } },
  { up with hub := { inReset := true } }, { up with led := { up.led with pass := some [] } },
  { hand up with ldr := ld, tck := { fired := [(0, 3)], cycle := 0 }, led := { (withItems up [item0 3 .work .none]).led with pass := some [] } },
  { noise (hand up) with ldr := ld }, { hand up with ldr := { ld with readmit := true } },
  { up with agents := [(.block .tck, { st := .fenced })] }]
def msC : List Chip := ms.map (fun d => (List.range 16).foldl (fun d n => d.setCore n { d.core n with released := true }) d)
def msD : List Chip := (msC.map lk) ++ [lk (withImg (hand { up with ldr := { ld with plans := [pl 5 .active] } })), lk (hand { noise up with ldr := { ld with plans := [{ pl 2 .faulted with hdr := (pl 2 .active).hdr }] } })]
def tk (d : Chip) (t : TickUnit) : Chip := { d with tck := t }
def plz : Plan := ⟨5, 0, .suspended, ⟨0, false, 0, 0, 0, 0, 0, 0, 0, 0, 0, 0, 0, 0, 0, 192, 0, 0xFFFF, List.replicate 12 0, List.replicate 12 0⟩, 0x100000, [], 0, 0, 0, false, 0⟩
def exs : List Chip := [((onr 1).sr Reg.TCK_CTRL.ROLE 2).sr Reg.TCK_STATUS.MISSES 3, (onr 1).sr Reg.TCK_STATUS.MISSES 7, tk ((onr 1).sr Reg.TCK_CTRL.ROLE 0) { taken := true }, tk (((onr 2).sr Reg.TCK_CTRL.ROLE 0).sr Reg.TCK_NUMBER.NUMBER 7) { lower := some 9 },
  ((onr 3).sr Reg.TCK_CTRL.ROLE 1).sr Reg.TCK_CTRL.POSITION 5, tk ((onr 0).sr Reg.TCK_CTRL.ROLE 1) { probeOut := true }, tk (onr 2) { lower := some 4 },
  tk (((up.sr Reg.TCK_CTRL.ROLE 0).sr Reg.TCK_STATUS.BYPASS 1).sr Reg.TCK_STATUS.STATE 0) { join := some 4, frames := 7, rxNumber := some 5, rxAt := 6 }, tk up { cycle := 4 }, tk up { cycle := 16 }, tk up { cycle := 64 },
  { up with led := {}, agents := [(.block .kva, { st := .fenced })] }, { up with ldr := { active := [(0, ⟨1, 0, 0, 5, 3, 0, 0⟩)] } }, lk { hand up with ldr := { plans := [plz] } }]
def pool : List State := (ms ++ msC ++ msD ++ (ms.take 14).map (fun d => d.sr Reg.TCK_CTRL.ROLE 0) ++ exs).map st

theorem test_RingMarkersAndCells_witness :
    (∃ (s : State) (e : Int), ringState s.chip ≠ 3 ∧ e.natAbs ≤ 80) ∧
    (∃ (s : State) (e : Int), ringState s.chip ≠ 3 ∧ e.natAbs > 80) ∧
    (∃ (s : State), ringState s.chip = 3) ∧
    (∃ (s : State), ringState s.chip ≠ 3 ∧ ((((s.chip.sr Reg.TCK_STATUS.MISSES (min (s.chip.rg Reg.TCK_STATUS.MISSES + 1) 255)).count Reg.TCK_MISSES.COUNT).fault Src.RING_MISS).rg Reg.TCK_CTRL.ROLE = 2 ∧ onRing (((s.chip.sr Reg.TCK_STATUS.MISSES (min (s.chip.rg Reg.TCK_STATUS.MISSES + 1) 255)).count Reg.TCK_MISSES.COUNT).fault Src.RING_MISS) = true ∧ (((s.chip.sr Reg.TCK_STATUS.MISSES (min (s.chip.rg Reg.TCK_STATUS.MISSES + 1) 255)).count Reg.TCK_MISSES.COUNT).fault Src.RING_MISS).rg Reg.TCK_STATUS.MISSES = 4 ∧ (((s.chip.sr Reg.TCK_STATUS.MISSES (min (s.chip.rg Reg.TCK_STATUS.MISSES + 1) 255)).count Reg.TCK_MISSES.COUNT).fault Src.RING_MISS).tck.stopped = false)) ∧
    (∃ (s : State), ringState s.chip ≠ 3 ∧ ¬ ((((s.chip.sr Reg.TCK_STATUS.MISSES (min (s.chip.rg Reg.TCK_STATUS.MISSES + 1) 255)).count Reg.TCK_MISSES.COUNT).fault Src.RING_MISS).rg Reg.TCK_CTRL.ROLE = 2 ∧ onRing (((s.chip.sr Reg.TCK_STATUS.MISSES (min (s.chip.rg Reg.TCK_STATUS.MISSES + 1) 255)).count Reg.TCK_MISSES.COUNT).fault Src.RING_MISS) = true ∧ (((s.chip.sr Reg.TCK_STATUS.MISSES (min (s.chip.rg Reg.TCK_STATUS.MISSES + 1) 255)).count Reg.TCK_MISSES.COUNT).fault Src.RING_MISS).rg Reg.TCK_STATUS.MISSES = 4 ∧ (((s.chip.sr Reg.TCK_STATUS.MISSES (min (s.chip.rg Reg.TCK_STATUS.MISSES + 1) 255)).count Reg.TCK_MISSES.COUNT).fault Src.RING_MISS).tck.stopped = false) ∧ (((s.chip.sr Reg.TCK_STATUS.MISSES (min (s.chip.rg Reg.TCK_STATUS.MISSES + 1) 255)).count Reg.TCK_MISSES.COUNT).fault Src.RING_MISS).rg Reg.TCK_STATUS.MISSES = 8 ∧ ringState (((s.chip.sr Reg.TCK_STATUS.MISSES (min (s.chip.rg Reg.TCK_STATUS.MISSES + 1) 255)).count Reg.TCK_MISSES.COUNT).fault Src.RING_MISS) = 1) ∧
    (∃ (s : State), ringState s.chip ≠ 3 ∧ ¬ ((((s.chip.sr Reg.TCK_STATUS.MISSES (min (s.chip.rg Reg.TCK_STATUS.MISSES + 1) 255)).count Reg.TCK_MISSES.COUNT).fault Src.RING_MISS).rg Reg.TCK_CTRL.ROLE = 2 ∧ onRing (((s.chip.sr Reg.TCK_STATUS.MISSES (min (s.chip.rg Reg.TCK_STATUS.MISSES + 1) 255)).count Reg.TCK_MISSES.COUNT).fault Src.RING_MISS) = true ∧ (((s.chip.sr Reg.TCK_STATUS.MISSES (min (s.chip.rg Reg.TCK_STATUS.MISSES + 1) 255)).count Reg.TCK_MISSES.COUNT).fault Src.RING_MISS).rg Reg.TCK_STATUS.MISSES = 4 ∧ (((s.chip.sr Reg.TCK_STATUS.MISSES (min (s.chip.rg Reg.TCK_STATUS.MISSES + 1) 255)).count Reg.TCK_MISSES.COUNT).fault Src.RING_MISS).tck.stopped = false) ∧ ¬ ((((s.chip.sr Reg.TCK_STATUS.MISSES (min (s.chip.rg Reg.TCK_STATUS.MISSES + 1) 255)).count Reg.TCK_MISSES.COUNT).fault Src.RING_MISS).rg Reg.TCK_STATUS.MISSES = 8 ∧ ringState (((s.chip.sr Reg.TCK_STATUS.MISSES (min (s.chip.rg Reg.TCK_STATUS.MISSES + 1) 255)).count Reg.TCK_MISSES.COUNT).fault Src.RING_MISS) = 1)) ∧
    (∃ (s : State) (n : Nat) (p : Nat), masterRole s.chip = false ∧ ringState s.chip = 1 ∧ n < 2 ^ 64 ∧ p < 65536 ∧ s.chip.tck.taken = true ∧ onRing s.chip = true) ∧
    (∃ (s : State) (n : Nat), masterRole s.chip = false ∧ ringState s.chip = 2 ∧ n < 2 ^ 64 ∧ s.chip.tick ≤ n) ∧
    (∃ (s : State) (n : Nat), masterRole s.chip = false ∧ ringState s.chip = 2 ∧ n < s.chip.tick ∧ s.chip.tick ≤ 2 ^ 64 ∧ s.chip.tck.lower.isSome = true) ∧
    (∃ (s : State) (n : Nat), masterRole s.chip = false ∧ ringState s.chip ≠ 2 ∧ ringState s.chip ≠ 3 ∧ n < 2 ^ 64 ∧ s.chip.tck.taken = false) ∧
    (∃ (s : State) (m : Fin 16), masterRole s.chip = true ∧ onRing s.chip = true ∧ m.val < ringPos s.chip) ∧
    (∃ (s : State) (m : Fin 16), masterRole s.chip = true ∧ onRing s.chip = true ∧ ringPos s.chip < m.val) ∧
    (∃ (s : State) (f : BitVec 8), f &&& 3 = 0 ∧ onRing s.chip = true) ∧
    (∃ (s : State), s.chip.tck.probeOut = false ∧ onRing s.chip = true ∧ ringState s.chip = 1) ∧
    (∃ (s : State) (total : Nat) (loop : Nat), s.chip.tck.probeOut = true ∧ total ≤ loop + 40 ∧ loop ≤ total + 40) ∧
    (∃ (s : State) (total : Nat) (loop : Nat), s.chip.tck.probeOut = true ∧ onRing s.chip = true ∧ ringState s.chip = 0 ∧ masterRole s.chip = true ∧ total ≤ loop + 40 ∧ loop ≤ total + 40) ∧
    (∃ (s : State) (total : Nat) (loop : Nat), s.chip.tck.probeOut = true ∧ ringState s.chip = 3 ∧ (loop + 40 < total ∨ total + 40 < loop) ∧ ¬ (onRing ((({ s.chip with tck := { s.chip.tck with probeOut := false } }).sr Reg.TCK_CTRL.PROBE 0).fault Src.DELAY_MISMATCH) = true ∧ ringState ((({ s.chip with tck := { s.chip.tck with probeOut := false } }).sr Reg.TCK_CTRL.PROBE 0).fault Src.DELAY_MISMATCH) = 0)) ∧
    (∃ (s : State), ringState s.chip = 3 ∧ s.chip.tck.sinceProbe ≥ 65536) ∧
    (∃ (s : State) (n : Nat), s.chip.tck.lower = some n ∧ ringState s.chip = 2) :=
  ⟨(⟨pool.getD 0 .reset, 0, by
      decide +kernel⟩),
   (⟨pool.getD 0 .reset, 81, by
      decide +kernel⟩),
   (⟨pool.getD 6 .reset, by
      decide +kernel⟩),
   (⟨pool.getD 73 .reset, by
      decide +kernel⟩),
   (⟨pool.getD 74 .reset, by
      decide +kernel⟩),
   (⟨pool.getD 0 .reset, by
      decide +kernel⟩),
   (⟨pool.getD 75 .reset, 0, 0, by
      decide +kernel⟩),
   (⟨pool.getD 64 .reset, 0, by
      decide +kernel⟩),
   (⟨pool.getD 76 .reset, 0, by
      decide +kernel⟩),
   (⟨pool.getD 38 .reset, 0, by
      decide +kernel⟩),
   (⟨pool.getD 77 .reset, 0, by
      decide +kernel⟩),
   (⟨pool.getD 3 .reset, 1, by
      decide +kernel⟩),
   (⟨pool.getD 3 .reset, (0x0 : BitVec 8), by
      decide +kernel⟩),
   (⟨pool.getD 4 .reset, by
      decide +kernel⟩),
   (⟨pool.getD 10 .reset, 0, 0, by
      decide +kernel⟩),
   (⟨pool.getD 78 .reset, 0, 0, by
      decide +kernel⟩),
   (⟨pool.getD 10 .reset, 0, 16384, by
      decide +kernel⟩),
   (⟨pool.getD 10 .reset, by
      decide +kernel⟩),
   (⟨pool.getD 76 .reset, 9, by
      decide +kernel⟩)⟩

theorem test_RingMembership_witness :
    (∃ (s : State), onRing s.chip = false ∧ s.chip.tck.join = none) ∧
    (∃ (s : State) (t : Nat), s.chip.tck.join = some t ∧ t ≠ s.chip.tck.frames ∧ onRing s.chip = false ∧ ringState s.chip = 0 ∧ s.chip.flag Reg.FLT_SAFE.SAFE = false ∧ masterRole s.chip = false ∧ s.chip.tck.rxNumber.isSome = true ∧ s.chip.tck.rxAt ≠ s.chip.tck.frames) ∧
    (∃ (s : State) (t : Nat), s.chip.tck.join = some t ∧ t ≠ s.chip.tck.frames ∧ onRing s.chip = false ∧ ringState s.chip = 0 ∧ s.chip.flag Reg.FLT_SAFE.SAFE = false ∧ masterRole s.chip = true) ∧
    (∃ (s : State), onRing s.chip = true ∧ s.chip.tck.leaving = false) ∧
    (∃ (s : State) (t : Nat), s.chip.tck.leaveSent = some t ∧ t ≠ s.chip.tck.frames ∧ s.chip.tck.leaving = true) ∧
    (∃ (s : State), ringState s.chip = 3) ∧
    (∃ (s : State), ringState s.chip ≠ 3 ∧ onRing s.chip = true) ∧
    (∃ (s : State) (c : RingCell) (rest : List RingCell), s.chip.tck.out = c :: rest ∧ onRing s.chip = true) :=
  ⟨(⟨pool.getD 0 .reset, by
      decide +kernel⟩),
   (⟨pool.getD 80 .reset, 4, by
      decide +kernel⟩),
   (⟨pool.getD 11 .reset, 4, by
      decide +kernel⟩),
   (⟨pool.getD 3 .reset, by
      decide +kernel⟩),
   (⟨pool.getD 9 .reset, 4, by
      decide +kernel⟩),
   (⟨pool.getD 6 .reset, by
      decide +kernel⟩),
   (⟨pool.getD 3 .reset, by
      decide +kernel⟩),
   (⟨pool.getD 9 .reset, RingCell.flags 3, [RingCell.probe 0 1], by
      decide +kernel⟩)⟩

theorem test_TickAndPlans_witness :
    (∃ (s : State), let runs (d : Chip) : Bool := d.clocked 0 && !d.hub.inReset && !d.flag Reg.FLT_SAFE.SAFE; let b := (if runs s.chip.tickUnit then s.chip.tickUnit.latchCounters else s.chip.tickUnit).switchClocks; s.chip.pwr.refclk = true ∧ runs b = false) ∧
    (∃ (s : State), let runs (d : Chip) : Bool := d.clocked 0 && !d.hub.inReset && !d.flag Reg.FLT_SAFE.SAFE; let b := (if runs s.chip.tickUnit then s.chip.tickUnit.latchCounters else s.chip.tickUnit).switchClocks; s.chip.pwr.refclk = true ∧ runs b = true) ∧
    (∃ (s : State), s.chip.pwr.refclk = false) ∧
    (∃ (s : State), s.chip.pwr.refclk = true ∧ s.chip.clocked 0 = true ∧ s.chip.hub.inReset = false ∧ s.chip.tck.cycle < 4 ∧ s.chip.led.mirrorDev = none ∧ s.chip.led.items = [] ∧ s.chip.mu.reclaim = [] ∧ s.chip.kv.seqs = [] ∧ s.chip.kv.svcs = [] ∧ s.chip.kv.running = none ∧ s.chip.running .kva = false ∧ s.chip.compactState = 0 ∧ s.chip.led.nextSeq < 2 ^ 64) ∧
    (∃ (s : State), 4 ≤ s.chip.tck.cycle) ∧
    (∃ (s : State), s.chip.tck.cycle < 16 ∧ s.chip.running .tck = false) ∧
    (∃ (s : State), s.chip.tck.cycle < 16 ∧ s.chip.running .tck = true ∧ (s.chip.agentRec (.block .tck)).fencing = false ∧ s.chip.ldr.cmds = []) ∧
    (∃ (s : State), 16 ≤ s.chip.tck.cycle) ∧
    (∃ (s : State), s.chip.tck.cycle < 64) ∧
    (∃ (s : State), 64 ≤ s.chip.tck.cycle) ∧
    (∃ (s : State) (k : Fin 1024) (f : FriezeSlot) (p : Plan), tget s.chip.ldr.active k.val = some f ∧ s.chip.tick % 2 ^ f.cadence = f.phase ∧ s.chip.turnPast k.val f = false ∧ s.chip.tck.skip.contains k.val = false ∧ s.chip.pwr.refclk = true ∧ s.chip.clocked 0 = true ∧ s.chip.hub.inReset = false ∧ s.chip.flag Reg.FLT_SAFE.SAFE = false ∧ s.chip.flag Reg.PCR_STATE.READY = true ∧ f.kind = 0 ∧ s.chip.tck.carriedWait = false ∧ s.chip.plan f.plan = some p ∧ p.state = .active ∧ s.chip.stillRuns k.val = false) ∧
    (∃ (s : State) (k : Fin 1024) (f : FriezeSlot) (p : Plan), tget s.chip.ldr.active k.val = some f ∧ s.chip.tick % 2 ^ f.cadence = f.phase ∧ s.chip.turnPast k.val f = false ∧ s.chip.tck.skip.contains k.val = false ∧ s.chip.pwr.refclk = true ∧ s.chip.clocked 0 = true ∧ s.chip.hub.inReset = false ∧ s.chip.flag Reg.FLT_SAFE.SAFE = false ∧ s.chip.flag Reg.PCR_STATE.READY = true ∧ f.kind = 0 ∧ s.chip.tck.carriedWait = false ∧ s.chip.plan f.plan = some p ∧ p.state = .active ∧ s.chip.stillRuns k.val = true) ∧
    (∃ (s : State) (k : Fin 1024) (f : FriezeSlot), tget s.chip.ldr.active k.val = some f ∧ s.chip.tick % 2 ^ f.cadence = f.phase ∧ s.chip.turnPast k.val f = false ∧ s.chip.tck.skip.contains k.val = false ∧ s.chip.pwr.refclk = true ∧ s.chip.clocked 0 = true ∧ s.chip.hub.inReset = false ∧ s.chip.flag Reg.FLT_SAFE.SAFE = false ∧ s.chip.flag Reg.PCR_STATE.READY = true ∧ f.kind = 1 ∧ s.chip.mu.inWindow.contains f.target = false ∧ bitOf (s.chip.rg Reg.MEM_NEAR_STATE.FAILED) f.target = false) ∧
    (∃ (s : State) (k : Fin 1024), tget s.chip.ldr.active k.val = none) ∧
    (∃ (s : State) (src : Submit) (image : Nat), s.chip.coreServes (s.chip.roleCore 0) = true ∧ TakenUp s.chip src .tck false 0 ∧ (s.chip.inDieOrNear image 192 = false)) ∧
    (∃ (s : State) (src : Submit) (image : Nat), s.chip.coreServes (s.chip.roleCore 0) = true ∧ TakenUp s.chip src .tck false 0 ∧ s.chip.inDieOrNear image 192 = true ∧ s.chip.inDieOrNear image (parseHeader (s.chip.bytes image 192)).imageLen = true ∧ (∀ p ∈ s.chip.mu.flips, overlaps image 192 p.1 32 = false ∧ overlaps (image + (parseHeader (s.chip.bytes image 192)).stepTable) (32 * (parseHeader (s.chip.bytes image 192)).stepCount) p.1 32 = false) ∧ s.chip.anyPoison image 192 = false ∧ headerOk s.chip (s.chip.bytes image 192) (parseHeader (s.chip.bytes image 192)) = true ∧ stepsPoisoned s.chip image (parseHeader (s.chip.bytes image 192)) = false ∧ (∀ k < (parseHeader (s.chip.bytes image 192)).stepCount, stepOk (stepBytes s.chip image (parseHeader (s.chip.bytes image 192)) k) (parseStep (stepBytes s.chip image (parseHeader (s.chip.bytes image 192)) k)) = true ∧ stepSlotOk s.chip (parseStep (stepBytes s.chip image (parseHeader (s.chip.bytes image 192)) k)) = true) ∧ (parseHeader (s.chip.bytes image 192)).period = s.chip.rg Reg.TCK_PERIOD.PERIOD ∧ (parseHeader (s.chip.bytes image 192)).slots = (parseHeader (s.chip.bytes image 192)).stepCount ∧ s.chip.ldr.plans.length < 256 ∧ unlocked s.chip = false ∧ misfit s.chip (parseHeader (s.chip.bytes image 192)) 0 [] = none) ∧
    (∃ (s : State) (src : Submit) (plan : Nat), s.chip.coreServes (s.chip.roleCore 0) = true ∧ TakenUp s.chip src .tck false 0 ∧ named s.chip (plan % 65536) = none) ∧
    (∃ (s : State) (src : Submit) (plan : Nat) (p : Plan), s.chip.coreServes (s.chip.roleCore 0) = true ∧ TakenUp s.chip src .tck false 0 ∧ named s.chip (plan % 65536) = some p ∧ unlocked s.chip = false) ∧
    (∃ (s : State) (src : Submit) (plan : Nat) (p : Plan), s.chip.coreServes (s.chip.roleCore 0) = true ∧ TakenUp s.chip src .tck false 0 ∧ named s.chip (plan % 65536) = some p ∧ p.state = .faulted ∧ unlocked s.chip = false ∧ misfit s.chip p.hdr (plan % 65536) p.cores = none) ∧
    (∃ (s : State) (src : Submit) (plan : Nat) (p : Plan), s.chip.coreServes (s.chip.roleCore 0) = true ∧ TakenUp s.chip src .tck false 0 ∧ named s.chip (plan % 65536) = some p ∧ p.state = .suspended ∧ unlocked s.chip = false ∧ misfit s.chip p.hdr (plan % 65536) p.cores = none) :=
  ⟨(⟨pool.getD 13 .reset, by
      refine @of_decide_eq_true _ (by haveI := @decAllSome; haveI := @decExSome; haveI := @decOk; haveI := @decErr; infer_instance) ?_
      decide +kernel⟩),
   (⟨pool.getD 1 .reset, by
      refine @of_decide_eq_true _ (by haveI := @decAllSome; haveI := @decExSome; haveI := @decOk; haveI := @decErr; infer_instance) ?_
      decide +kernel⟩),
   (⟨pool.getD 0 .reset, by
      decide +kernel⟩),
   (⟨pool.getD 84 .reset, by
      decide +kernel⟩),
   (⟨pool.getD 81 .reset, by
      decide +kernel⟩),
   (⟨pool.getD 18 .reset, by
      decide +kernel⟩),
   (⟨pool.getD 0 .reset, by
      decide +kernel⟩),
   (⟨pool.getD 82 .reset, by
      decide +kernel⟩),
   (⟨pool.getD 0 .reset, by
      decide +kernel⟩),
   (⟨pool.getD 83 .reset, by
      decide +kernel⟩),
   (⟨pool.getD 15 .reset, 1, { kind := 0, plan := 1, step := 0, offset := 5, target := 0, phase := 0, cadence := 0 }, { id := 1, entry := 0, state := PlanState.active, hdr := { kind := 0, elastic := false, period := 16, wcMin := 1, wcDesired := 1, imageLen := 256, wcCycles := 0, plinthBytes := 0, armInstr := 0, items := 0, slots := 0, footPlinth := 0, footNear := 0, footQuarry := 0, overrunLimit := 0, stepTable := 192, stepCount := 0, replyRing := 65535, egress := (List.replicate 12 0), ingress := (List.replicate 12 0) }, image := 1048576, cores := [3], consec := 0, overruns := 0, loadSeq := 0, overran := false, unloadSeq := 0 }, by
      decide +kernel⟩),
   (⟨pool.getD 15 .reset, 0, { kind := 0, plan := 1, step := 0, offset := 5, target := 0, phase := 0, cadence := 0 }, { id := 1, entry := 0, state := PlanState.active, hdr := { kind := 0, elastic := false, period := 16, wcMin := 1, wcDesired := 1, imageLen := 256, wcCycles := 0, plinthBytes := 0, armInstr := 0, items := 0, slots := 0, footPlinth := 0, footNear := 0, footQuarry := 0, overrunLimit := 0, stepTable := 192, stepCount := 0, replyRing := 65535, egress := (List.replicate 12 0), ingress := (List.replicate 12 0) }, image := 1048576, cores := [3], consec := 0, overruns := 0, loadSeq := 0, overran := false, unloadSeq := 0 }, by
      decide +kernel⟩),
   (⟨pool.getD 85 .reset, 0, { kind := 1, plan := 0, step := 0, offset := 5, target := 3, phase := 0, cadence := 0 }, by
      decide +kernel⟩),
   (⟨pool.getD 0 .reset, 0, by
      decide +kernel⟩),
   (⟨pool.getD 1 .reset, { origin := Origin.internal, tag := (0x1 : BitVec 32) }, 4294967296, by
      unfold TakenUp
      refine @of_decide_eq_true _ (by haveI := @decAllSome; haveI := @decExSome; haveI := @decOk; haveI := @decErr; infer_instance) ?_
      decide +kernel⟩),
   (⟨pool.getD 57 .reset, { origin := Origin.ring 0, tag := (0x5 : BitVec 32) }, 16384, by
      unfold TakenUp
      refine @of_decide_eq_true _ (by haveI := @decAllSome; haveI := @decExSome; haveI := @decOk; haveI := @decErr; infer_instance) ?_
      decide +kernel⟩),
   (⟨pool.getD 1 .reset, { origin := Origin.internal, tag := (0x1 : BitVec 32) }, 0, by
      unfold TakenUp
      refine @of_decide_eq_true _ (by haveI := @decAllSome; haveI := @decExSome; haveI := @decOk; haveI := @decErr; infer_instance) ?_
      decide +kernel⟩),
   (⟨pool.getD 53 .reset, { origin := Origin.ring 0, tag := (0x5 : BitVec 32) }, 1, { id := 1, entry := 0, state := PlanState.active, hdr := { kind := 0, elastic := false, period := 16, wcMin := 1, wcDesired := 1, imageLen := 256, wcCycles := 0, plinthBytes := 0, armInstr := 0, items := 0, slots := 0, footPlinth := 0, footNear := 0, footQuarry := 0, overrunLimit := 0, stepTable := 192, stepCount := 0, replyRing := 65535, egress := (List.replicate 12 0), ingress := (List.replicate 12 0) }, image := 1048576, cores := [3], consec := 0, overruns := 0, loadSeq := 0, overran := false, unloadSeq := 0 }, by
      unfold TakenUp
      refine @of_decide_eq_true _ (by haveI := @decAllSome; haveI := @decExSome; haveI := @decOk; haveI := @decErr; infer_instance) ?_
      decide +kernel⟩),
   (⟨pool.getD 53 .reset, { origin := Origin.ring 0, tag := (0x5 : BitVec 32) }, 2, { id := 2, entry := 0, state := PlanState.faulted, hdr := { kind := 0, elastic := false, period := 16, wcMin := 1, wcDesired := 1, imageLen := 256, wcCycles := 0, plinthBytes := 0, armInstr := 0, items := 0, slots := 0, footPlinth := 0, footNear := 0, footQuarry := 0, overrunLimit := 0, stepTable := 192, stepCount := 0, replyRing := 65535, egress := (List.replicate 12 0), ingress := (List.replicate 12 0) }, image := 1048576, cores := [3], consec := 0, overruns := 0, loadSeq := 0, overran := false, unloadSeq := 0 }, by
      unfold TakenUp
      refine @of_decide_eq_true _ (by haveI := @decAllSome; haveI := @decExSome; haveI := @decOk; haveI := @decErr; infer_instance) ?_
      decide +kernel⟩),
   (⟨pool.getD 86 .reset, { origin := Origin.ring 0, tag := (0x5 : BitVec 32) }, 5, { id := 5, entry := 0, state := PlanState.suspended, hdr := { kind := 0, elastic := false, period := 0, wcMin := 0, wcDesired := 0, imageLen := 0, wcCycles := 0, plinthBytes := 0, armInstr := 0, items := 0, slots := 0, footPlinth := 0, footNear := 0, footQuarry := 0, overrunLimit := 0, stepTable := 192, stepCount := 0, replyRing := 65535, egress := (List.replicate 12 0), ingress := (List.replicate 12 0) }, image := 1048576, cores := [], consec := 0, overruns := 0, loadSeq := 0, overran := false, unloadSeq := 0 }, by
      unfold TakenUp
      refine @of_decide_eq_true _ (by haveI := @decAllSome; haveI := @decExSome; haveI := @decOk; haveI := @decErr; infer_instance) ?_
      decide +kernel⟩)⟩

end Sys2Proof.Tests.C02
end

