-- ==== Sys2Proof/Tests/C04.lean ====
section
/-! SUPPORT. States and operands that meet the hypotheses of the statements of chapter 04, clause by clause. -/
set_option Elab.async false
set_option maxRecDepth 100000
namespace Sys2Proof.Tests.C04
open Sys2Proof Sys2Proof.Machine Sys2Proof.Tests

def mk (op len fa fb fd : Nat) (w5 w6 w7 : Nat := 0) (par : Nat := 0) (fl : Nat := 0) (a : Nat := 0x1000_0000) (b : Nat := 0x1001_0000) (dd : Nat := 0x1002_0000) : Desc :=
  { w0 := BitVec.ofNat 64 (op + fa * 256 + fb * 4096 + fd * 65536 + fl * 2^20 + 7 * 2^32), w1 := BitVec.ofNat 64 (len + par * 2^32), w2 := BitVec.ofNat 64 a, w3 := BitVec.ofNat 64 b, w4 := BitVec.ofNat 64 dd,
    w5 := BitVec.ofNat 64 w5, w6 := BitVec.ofNat 64 w6, w7 := BitVec.ofNat 64 w7 }
def ds : List Desc := [mk 1 32 0 0 0, mk 2 32 0 0 1, mk 3 32 0 0 0, mk 4 4 0 0 0 (a := 0) (w5 := 1), mk 0x10 1 1 1 0 (b := 0x1010_0000) (w5 := 1 + 256 + 65536*16 + 2^32 * 2), mk 0x11 2 1 1 0 (w6 := 16 + 65536),
  mk 0x20 32 0 0 3, mk 0x20 32 0 0 0xA (w7 := 0x1003_0000) , mk 0x21 16 0 0 3 (w6 := 0x1004_0000), mk 0x22 16 0 0 0 (w6 := 0x1004_0000) (par := 2) (b := 0), mk 0x23 16 0 0 0 (w6 := 0x1004_0000) (w7 := 0x1005_0000) (par := 2),
  mk 0x24 64 0 0 0 (b := 0), mk 0x25 64 0 0 0 (b := 0), mk 0x26 64 0 0 0 (b := 0) (par := 100), mk 0x27 4 0 0 0 (a := 0x1020_0000) (b := 0) (par := 100), mk 0x30 64 0 0 0 (b := 0), mk 0x31 1 0 0 0 , mk 0x32 1 0 0 0, mk 0x33 64 0 0 0 (a := 0) (b := 0) (w5 := 0x0102030405060708),
  mk 1 32 0 0 0 (dd := 0x1000_0000), mk 0x31 0 0 0 0, mk 0x32 0 0 0 0, mk 0x99 1 0 0 0, mk 0x33 0 0 0 0 (a := 0) (b := 0)]
def wi (k : Nat) (x : Desc) : Item := { item0 (k + 1) .work .none with state := .accepted, body := x, owner := 0xFF, origin := .ring 0, domain := .ring 0, fn := 0 }
def w1 : Chip := withItems (hand up) (ds.zipIdx.map (fun p => wi p.2 p.1))
def w2 : Chip := { putBytes (putBytes (putBytes w1 0x1000_0000 (List.range 200)) 0x1010_0000 (leBytes 8 0x1011_0000 ++ leBytes 8 (slabBytes 1 16))) 0x1020_0000 [0x30, 1, 2, 3] with wk := { runs := (List.range 24).map (fun k => (k + 1, {})) } }
def rings1 (d : Chip) := ((d.sr (Reg.HIF_RING.KIND 0) 1).sr (Reg.HIF_RING.KIND 2) 1)
def p1 : Plan := ⟨1, 0, .active, ⟨0, false, 16, 1, 1, 256, 0, 0, 0, 0, 0, 0, 0, 0, 0, 192, 0, 0xFFFF, List.replicate 12 0, List.replicate 12 0⟩, 0x100000, [3, 0], 0, 0, 0, false, 0⟩
def fin1 : Chip := { withItems up [{ wi 2 (ds.getD 0 {}) with state := .running, fin := some ⟨0, 3, 4⟩, owner := 1 }, { wi 5 (ds.getD 19 {}) with state := .committed, redo := true, owner := 0, reply := ⟨0,0,0⟩ }] with
  wk := { runs := [(3, { core := 1, done := true }), (6, { core := 0, done := true, staged := [(0x3000_0000, 0x1000_0000, 128)] })] } }
def ms : List Chip := [{}, up, w1, w2, rings1 (hand up), rings1 (noise (hand up)), fin1, noise fin1, hand fin1, (up.sr (Reg.WKC_UNIT_SEQ.SEQ 1 1) 4).sr (Reg.WKC_UNIT_SEQ.SEQ 5 0) 4,
  cntMax ((List.range 64).foldl (fun d n => (d.sr (Reg.WKC_STATE.STATE n) 1).sr (Reg.WKC_STATE.SELFTEST n) 3) up) [Reg.WKC_ITEMS.COUNT 0], { up with ldr := { plans := [p1] } },
  { (List.range 62).foldl (fun d n => d.sr (Reg.WKC_STATE.ROLE n) 2) (up.sr (Reg.WKC_STATE.STATE 3) 1) with ldr := { plans := [p1] } },
  { (up.sr (Reg.WKC_STATE.STATE 3) 1).sr (Reg.WKC_STATE.ROLE 60) 1 with ldr := { plans := [p1] } },
  withItems (hand up) [wi 0 (mk 1 32 0 0 0 (dd := 0x300_0000_0000))], { up.sr Reg.WKC_SPARE_MASK.MASK 16 with ldr := { plans := [{ p1 with hdr := { p1.hdr with elastic := true, wcDesired := 3 } }] } }]
def pool : List State := (ms).map st

theorem test_OperatorsRun_witness :
    (∃ (s : State) (i : Item) (core : Fin 64), s.chip.item i.seq = some i ∧ canRun s.chip i core.val (opMenu[0]).code = true ∧ ((workRanges i).any (fun r => (s.chip.dispatch i core.val).unmapped r.addr r.bytes) = false) ∧ ((opMenu[0]).run (s.chip.opView i core.val) i core.val i.seq).fail = 0) ∧
    (∃ (s : State) (i : Item) (core : Fin 64), s.chip.item i.seq = some i ∧ canRun s.chip i core.val (opMenu[0]).code = true ∧ ((workRanges i).any (fun r => (s.chip.dispatch i core.val).unmapped r.addr r.bytes) = true)) ∧
    (∃ (s : State) (i : Item) (core : Fin 64), s.chip.item i.seq = some i ∧ canRun s.chip i core.val 0x04 = true ∧ i.body.addrA = 0 ∧ tget s.chip.wk.arrive i.seq = none ∧ 0 < i.body.contrib ∧ 0 < i.body.len) :=
  ⟨(⟨pool.getD 2 .reset, { seq := 1, slot := 1, state := ItemState.accepted, domain := Domain.ring 0, tag := 9, owner := 255, replied := false, redo := false, replayed := false, plan := 0, acceptTick := 0, endTick := 0, origin := Origin.ring 0, fn := 0, kind := ItemKind.work, body := { w0 := (0x700000001 : BitVec 64), w1 := (0x20 : BitVec 64), w2 := (0x10000000 : BitVec 64), w3 := (0x10010000 : BitVec 64), w4 := (0x10020000 : BitVec 64), w5 := (0x0 : BitVec 64), w6 := (0x0 : BitVec 64), w7 := (0x0 : BitVec 64) }, crec := CommitRec.none, fin := none, redoRec := none, carried := false, single := false, reply := { code := 0, lo := 0, hi := 0 } }, 0, by
      decide +kernel⟩),
   (⟨pool.getD 14 .reset, { seq := 1, slot := 1, state := ItemState.accepted, domain := Domain.ring 0, tag := 9, owner := 255, replied := false, redo := false, replayed := false, plan := 0, acceptTick := 0, endTick := 0, origin := Origin.ring 0, fn := 0, kind := ItemKind.work, body := { w0 := (0x700000001 : BitVec 64), w1 := (0x20 : BitVec 64), w2 := (0x10000000 : BitVec 64), w3 := (0x10010000 : BitVec 64), w4 := (0x30000000000 : BitVec 64), w5 := (0x0 : BitVec 64), w6 := (0x0 : BitVec 64), w7 := (0x0 : BitVec 64) }, crec := CommitRec.none, fin := none, redoRec := none, carried := false, single := false, reply := { code := 0, lo := 0, hi := 0 } }, 0, by
      decide +kernel⟩),
   (⟨pool.getD 2 .reset, { seq := 4, slot := 4, state := ItemState.accepted, domain := Domain.ring 0, tag := 9, owner := 255, replied := false, redo := false, replayed := false, plan := 0, acceptTick := 0, endTick := 0, origin := Origin.ring 0, fn := 0, kind := ItemKind.work, body := { w0 := (0x700000004 : BitVec 64), w1 := (0x4 : BitVec 64), w2 := (0x0 : BitVec 64), w3 := (0x10010000 : BitVec 64), w4 := (0x10020000 : BitVec 64), w5 := (0x1 : BitVec 64), w6 := (0x0 : BitVec 64), w7 := (0x0 : BitVec 64) }, crec := CommitRec.none, fin := none, redoRec := none, carried := false, single := false, reply := { code := 0, lo := 0, hi := 0 } }, 0, by
      decide +kernel⟩)⟩

theorem test_WorkItems_witness :
    (∃ (s : State) (src : Submit) (x : Desc) (c : Nat), s.chip.ownDesc src.origin x false = true ∧ TakenUp s.chip src .wkc true 1 ∧ s.chip.workCheck (s.chip.originFn src.origin) x = some c) ∧
    (∃ (s : State) (src : Submit) (x : Desc), s.chip.ownDesc src.origin x false = true ∧ TakenUp s.chip src .wkc true 1 ∧ s.chip.workCheck (s.chip.originFn src.origin) x = none) ∧
    (∃ (s : State) (i : Item) (r : ReplyData), s.chip.item i.seq = some i ∧ i.fin = some r ∧ i.crec = .none ∧ i.state = .running ∧ i.carried = false ∧ s.chip.itemUnverified i.seq = false ∧ s.chip.readsOut i.seq = false ∧ s.chip.hostPaused i = false ∧ s.chip.flag Reg.FLT_SAFE.SAFE = false ∧ s.chip.hub.inReset = false ∧ i.kind = .work ∧ s.chip.running .wkc = true ∧ s.chip.over i.plan = false) ∧
    (∃ (s : State) (i : Item) (r : WorkRun) (ring : Nat) (core : Fin 64), s.chip.item i.seq = some i ∧ tget s.chip.wk.runs i.seq = some r ∧ i.state = .committed ∧ i.redo = true ∧ i.replied = false ∧ r.staged ≠ [] ∧ r.core < 64 ∧ coreUp s.chip r.core = true ∧ i.origin = .ring ring ∧ s.chip.flag Reg.PCR_STATE.READY = true ∧ s.chip.hub.inReset = false ∧ core.val = r.core) :=
  ⟨(⟨pool.getD 1 .reset, { origin := Origin.internal, tag := (0x1 : BitVec 32) }, { w0 := (0x700000004 : BitVec 64), w1 := (0x4 : BitVec 64), w2 := (0x0 : BitVec 64), w3 := (0x10010000 : BitVec 64), w4 := (0x10020000 : BitVec 64), w5 := (0x1 : BitVec 64), w6 := (0x0 : BitVec 64), w7 := (0x0 : BitVec 64) }, 513, by
      unfold TakenUp
      refine @of_decide_eq_true _ (by haveI := @decAllSome; haveI := @decExSome; haveI := @decOk; haveI := @decErr; infer_instance) ?_
      decide +kernel⟩),
   (⟨pool.getD 1 .reset, { origin := Origin.internal, tag := (0x1 : BitVec 32) }, { w0 := (0x700000001 : BitVec 64), w1 := (0x20 : BitVec 64), w2 := (0x10000000 : BitVec 64), w3 := (0x10010000 : BitVec 64), w4 := (0x10020000 : BitVec 64), w5 := (0x0 : BitVec 64), w6 := (0x0 : BitVec 64), w7 := (0x0 : BitVec 64) }, by
      unfold TakenUp
      refine @of_decide_eq_true _ (by haveI := @decAllSome; haveI := @decExSome; haveI := @decOk; haveI := @decErr; infer_instance) ?_
      decide +kernel⟩),
   (⟨pool.getD 6 .reset, { seq := 3, slot := 3, state := ItemState.running, domain := Domain.ring 0, tag := 9, owner := 1, replied := false, redo := false, replayed := false, plan := 0, acceptTick := 0, endTick := 0, origin := Origin.ring 0, fn := 0, kind := ItemKind.work, body := { w0 := (0x700000001 : BitVec 64), w1 := (0x20 : BitVec 64), w2 := (0x10000000 : BitVec 64), w3 := (0x10010000 : BitVec 64), w4 := (0x10020000 : BitVec 64), w5 := (0x0 : BitVec 64), w6 := (0x0 : BitVec 64), w7 := (0x0 : BitVec 64) }, crec := CommitRec.none, fin := some { code := 0, lo := 3, hi := 4 }, redoRec := none, carried := false, single := false, reply := { code := 0, lo := 0, hi := 0 } }, { code := 0, lo := 3, hi := 4 }, by
      decide +kernel⟩),
   (⟨pool.getD 6 .reset, { seq := 6, slot := 6, state := ItemState.committed, domain := Domain.ring 0, tag := 9, owner := 0, replied := false, redo := true, replayed := false, plan := 0, acceptTick := 0, endTick := 0, origin := Origin.ring 0, fn := 0, kind := ItemKind.work, body := { w0 := (0x700000001 : BitVec 64), w1 := (0x20 : BitVec 64), w2 := (0x10000000 : BitVec 64), w3 := (0x10010000 : BitVec 64), w4 := (0x10000000 : BitVec 64), w5 := (0x0 : BitVec 64), w6 := (0x0 : BitVec 64), w7 := (0x0 : BitVec 64) }, crec := CommitRec.none, fin := none, redoRec := none, carried := false, single := false, reply := { code := 0, lo := 0, hi := 0 } }, { core := 0, runs := 0, done := true, flags := 0, outLen := 0, result := 0, poison := false, fail := 0, cycles := 0, staged := [(805306368, 268435456, 128)], key := 0, unit := 0 }, 0, 0, by
      decide +kernel⟩)⟩

theorem test_CorePool_witness :
    (∃ (s : State) (n : Fin 64), s.chip.agentSt (.wc n) = .running) ∧
    (∃ (s : State) (n : Fin 64) (u : Fin 4), s.chip.agentSt (.wc n) = .running ∧ s.chip.rg (Reg.WKC_UNIT_SEQ.SEQ n.val u.val) ≠ 0) ∧
    (∃ (s : State) (n : Fin 64) (u : Fin 4), s.chip.rg (Reg.WKC_UNIT_SEQ.SEQ n.val u.val) = 0) ∧
    (∃ (s : State), s.chip.wk.obFail = []) ∧
    (∃ (s : State) (n : Fin 64), s.chip.rg (Reg.WKC_STATE.STATE n.val) = 1) ∧
    (∃ (s : State) (n : Fin 64), s.chip.rg (Reg.WKC_STATE.STATE n.val) ≠ 1) ∧
    (∃ (s : State) (n : Fin 64), s.chip.rg (Reg.WKC_STATE.SELFTEST n.val) = 3) ∧
    (∃ (s : State), lowestSpare s.chip = none) ∧
    (∃ (s : State) (id : Nat) (pos : Nat) (k : Nat) (p : Plan), lowestSpare s.chip = some k ∧ s.chip.plan id = some p ∧ pos < p.cores.length ∧ s.chip.rg (Reg.WKC_STATE.STATE (p.cores.getD pos 0)) = 1) ∧
    (∃ (s : State) (id : Nat) (pos : Nat) (k : Nat) (p : Plan), lowestSpare s.chip = some k ∧ s.chip.plan id = some p ∧ pos = p.cores.length ∧ p.hdr.elastic = true ∧ p.cores.length < p.hdr.wcDesired) :=
  ⟨(⟨pool.getD 0 .reset, 0, by
      decide +kernel⟩),
   (⟨pool.getD 9 .reset, 1, 1, by
      decide +kernel⟩),
   (⟨pool.getD 0 .reset, 0, 0, by
      decide +kernel⟩),
   (⟨pool.getD 0 .reset, by
      decide +kernel⟩),
   (⟨pool.getD 10 .reset, 0, by
      decide +kernel⟩),
   (⟨pool.getD 0 .reset, 0, by
      decide +kernel⟩),
   (⟨pool.getD 10 .reset, 0, by
      decide +kernel⟩),
   (⟨pool.getD 10 .reset, by
      decide +kernel⟩),
   (⟨pool.getD 12 .reset, 1, 0, 60, { id := 1, entry := 0, state := PlanState.active, hdr := { kind := 0, elastic := false, period := 16, wcMin := 1, wcDesired := 1, imageLen := 256, wcCycles := 0, plinthBytes := 0, armInstr := 0, items := 0, slots := 0, footPlinth := 0, footNear := 0, footQuarry := 0, overrunLimit := 0, stepTable := 192, stepCount := 0, replyRing := 65535, egress := (List.replicate 12 0), ingress := (List.replicate 12 0) }, image := 1048576, cores := [3, 0], consec := 0, overruns := 0, loadSeq := 0, overran := false, unloadSeq := 0 }, by
      decide +kernel⟩),
   (⟨pool.getD 15 .reset, 1, 2, 4, { id := 1, entry := 0, state := PlanState.active, hdr := { kind := 0, elastic := true, period := 16, wcMin := 1, wcDesired := 3, imageLen := 256, wcCycles := 0, plinthBytes := 0, armInstr := 0, items := 0, slots := 0, footPlinth := 0, footNear := 0, footQuarry := 0, overrunLimit := 0, stepTable := 192, stepCount := 0, replyRing := 65535, egress := (List.replicate 12 0), ingress := (List.replicate 12 0) }, image := 1048576, cores := [3, 0], consec := 0, overruns := 0, loadSeq := 0, overran := false, unloadSeq := 0 }, by
      decide +kernel⟩)⟩

end Sys2Proof.Tests.C04
end

