-- ==== Sys2Proof/Tests/C05.lean ====
section
/-! SUPPORT. States and operands that meet the hypotheses of the statements of chapter 05, clause by clause. -/
set_option Elab.async false
set_option maxRecDepth 100000
namespace Sys2Proof.Tests.C05
open Sys2Proof Sys2Proof.Machine Sys2Proof.Tests

def dsc (l : List Nat) : Desc := descOf l
def ports2 := 3
def grp (g nodes : Nat) : Desc := dsc [g + 1 * 0x10000 + ports2 * 2^24 + nodes * 2^32, 0, 0, 0, 0,0,0,0]
def rec1 : Desc := dsc [1 + ports2 * 2^24 + 1 * 2^32, 0, 0, 0, 0, 0, 0, 0]
def slot (k : Nat) (kind : Nat := 1) : Desc := dsc [k + kind * 2^24 + 1 * 2^32 + 1 * 2^48, 0 + 4 * 2^24 + 1 * 2^32 + 9 * 2^40 + 1 * 2^48 + 2 * 2^56, 64, 0x1000, 0, 0, 0, 0]
def p1 : Plan := ⟨1, 0, .active, ⟨1, false, 16, 1, 1, 256, 0, 0, 0, 0, 0, 0, 0, 0, 0, 192, 1, 0xFFFF, List.replicate 12 0, List.replicate 12 0⟩, 0x4000, [3, 0], 0, 0, 0, false, 0⟩
def stp (k : Nat) : List Nat := [0, 0] ++ leBytes 2 k ++ leBytes 4 64 ++ leBytes 4 0 ++ [0, 0] ++ List.replicate 18 0
def req (k : Nat) (inn out : Nat := 0) (algo : Nat := 0) : Desc := dsc [k + inn * 2^8 + out * 2^16 + algo * 2^28 + 5 * 2^32, 64, 1, 0x1000, 0x2000, 0, 0, 0]
def rings2 (d : Chip) := ((d.sr (Reg.HIF_RING.KIND 0) 2).sr (Reg.HIF_RING.KIND 2) 2)
def g1 (d : Chip) : Chip := { d with coll := { d.coll with groups := [(1, grp 1 1)] } }
def withSlot (d : Chip) (x : SlotRec) : Chip := { d with coll := { d.coll with slots := [(2, x)] } }
def fr (n : Nat) (w : List Nat := []) : Firing := { number := n, members := [0], contribs := [], written := w }
def base : Chip := { putBytes (putBytes (hand up) 0x4000 (List.replicate 192 0)) 0x40C0 (stp 2) with ldr := { plans := [p1] } }
def recs (d : Chip) : Chip := putBytes d 0x8000 (descBytes rec1)
def fi (k n q : Nat) : Item := { item0 q (.firing k n) .none with origin := .slot k, domain := .slot k, owner := 0x50 }
def ms : List Chip := [{}, up, hand up, noise (hand up), recs (hand up), g1 (recs (hand up)), rings2 (g1 (hand up)), rings2 (noise (hand up)), g1 base, withSlot (g1 base) { img := slot 2, state := .armed, next := [(0, 3), (1, 2)] },
  noise (withSlot (g1 base) { img := slot 2, state := .armed, next := [(0, 3), (1, 2)], allowance := 3 }),
  withItems (withSlot (g1 (recs base)) { img := slot 2, state := .armed, next := [(0, 6), (1, 5)], allowance := 3, firings := [fr 5] }) [fi 2 5 3],
  withItems (withSlot (g1 (recs base)) { img := slot 2, state := .armed, next := [(0, 6), (1, 5)], allowance := 3, firings := [fr 5 (List.range 64)] }) [fi 2 5 3],
  withItems (g1 (hand up)) [{ item0 3 .coll .none with state := .accepted, body := req 7 }],
  withSlot (g1 base) { img := slot 2, state := .faulted },
  withItems up [{ item0 3 .work .none with body := { w0 := 4, w1 := 4, w5 := 300 * 65536 + 2 } }],
  withItems (g1 (hand up)) [{ item0 3 .coll .none with body := req 1 }]]
def pool : List State := (ms).map st

theorem test_CollectiveRequests_witness :
    (∃ (s : State) (src : Submit) (x : Desc) (n : Nat) (c : _), x.cKind = 1 ∧ s.chip.groupCore x.cGroup = some n ∧ s.chip.coreServes n = true ∧ TakenUp s.chip src .col true 2 ∧ s.chip.reqCheck (s.chip.originFn src.origin) x = some c) ∧
    (∃ (s : State) (src : Submit) (x : Desc) (n : Nat), x.cKind = 1 ∧ s.chip.groupCore x.cGroup = some n ∧ s.chip.coreServes n = true ∧ TakenUp s.chip src .col true 2 ∧ s.chip.reqCheck (s.chip.originFn src.origin) x = none) ∧
    (∃ (d : Chip) (i : Item) (g : Desc), d.item i.seq = some i ∧ d.group i.body.cGroup = some g ∧ d.collGoes i = true ∧ d.collUnmapped g i.body = false ∧ 1 ≤ i.body.cKind ∧ i.body.cKind ≤ 6) ∧
    (∃ (s : State) (i : Item), s.chip.item i.seq = some i ∧ i.kind = .coll ∧ i.body.cKind = 7 ∧ i.fin = none ∧ i.state = .accepted ∧ i.crec = .none ∧ s.chip.led.lost = false ∧ (s.chip.collRun i.seq).begun = false) :=
  ⟨(⟨pool.getD 1 .reset, { origin := Origin.internal, tag := (0x1 : BitVec 32) }, { w0 := (0x103000001 : BitVec 64), w1 := (0x0 : BitVec 64), w2 := (0x0 : BitVec 64), w3 := (0x0 : BitVec 64), w4 := (0x0 : BitVec 64), w5 := (0x0 : BitVec 64), w6 := (0x0 : BitVec 64), w7 := (0x0 : BitVec 64) }, 3, 545, by
      unfold TakenUp
      refine @of_decide_eq_true _ (by haveI := @decAllSome; haveI := @decExSome; haveI := @decOk; haveI := @decErr; infer_instance) ?_
      decide +kernel⟩),
   (⟨pool.getD 5 .reset, { origin := Origin.internal, tag := (0x1 : BitVec 32) }, { w0 := (0x500000001 : BitVec 64), w1 := (0x40 : BitVec 64), w2 := (0x1 : BitVec 64), w3 := (0x1000 : BitVec 64), w4 := (0x2000 : BitVec 64), w5 := (0x0 : BitVec 64), w6 := (0x0 : BitVec 64), w7 := (0x0 : BitVec 64) }, 4, by
      unfold TakenUp
      refine @of_decide_eq_true _ (by haveI := @decAllSome; haveI := @decExSome; haveI := @decOk; haveI := @decErr; infer_instance) ?_
      decide +kernel⟩),
   (⟨(pool.getD 16 .reset).chip, { seq := 3, slot := 3, state := ItemState.running, domain := Domain.core 1, tag := 9, owner := 65, replied := false, redo := false, replayed := false, plan := 0, acceptTick := 0, endTick := 0, origin := Origin.core 1 7, fn := 257, kind := ItemKind.coll, body := { w0 := (0x500000001 : BitVec 64), w1 := (0x40 : BitVec 64), w2 := (0x1 : BitVec 64), w3 := (0x1000 : BitVec 64), w4 := (0x2000 : BitVec 64), w5 := (0x0 : BitVec 64), w6 := (0x0 : BitVec 64), w7 := (0x0 : BitVec 64) }, crec := CommitRec.none, fin := none, redoRec := none, carried := false, single := false, reply := { code := 0, lo := 0, hi := 0 } }, { w0 := (0x103010001 : BitVec 64), w1 := (0x0 : BitVec 64), w2 := (0x0 : BitVec 64), w3 := (0x0 : BitVec 64), w4 := (0x0 : BitVec 64), w5 := (0x0 : BitVec 64), w6 := (0x0 : BitVec 64), w7 := (0x0 : BitVec 64) }, by
      decide +kernel⟩),
   (⟨pool.getD 13 .reset, { seq := 3, slot := 3, state := ItemState.accepted, domain := Domain.core 1, tag := 9, owner := 65, replied := false, redo := false, replayed := false, plan := 0, acceptTick := 0, endTick := 0, origin := Origin.core 1 7, fn := 257, kind := ItemKind.coll, body := { w0 := (0x500000007 : BitVec 64), w1 := (0x40 : BitVec 64), w2 := (0x1 : BitVec 64), w3 := (0x1000 : BitVec 64), w4 := (0x2000 : BitVec 64), w5 := (0x0 : BitVec 64), w6 := (0x0 : BitVec 64), w7 := (0x0 : BitVec 64) }, crec := CommitRec.none, fin := none, redoRec := none, carried := false, single := false, reply := { code := 0, lo := 0, hi := 0 } }, by
      decide +kernel⟩)⟩

theorem test_GroupsAndSlots_witness :
    (∃ (s : State) (src : Submit) (a : Nat) (n : Nat), s.chip.groupCore (s.chip.desc a).gId = some n ∧ s.chip.coreServes n = true ∧ TakenUp s.chip src .col false 0 ∧ RecordClean s.chip a 64 ∧ groupOk s.chip (s.chip.desc a) = true ∧ s.chip.groupBusy (s.chip.desc a).gId = true) ∧
    (∃ (s : State) (src : Submit) (a : Nat) (n : Nat), s.chip.groupCore (s.chip.desc a).gId = some n ∧ s.chip.coreServes n = true ∧ TakenUp s.chip src .col false 0 ∧ RecordClean s.chip a 64 ∧ groupOk s.chip (s.chip.desc a) = true ∧ s.chip.groupBusy (s.chip.desc a).gId = false) ∧
    (∃ (s : State) (src : Submit) (g : Nat) (n : Nat), s.chip.groupCore (g % 65536) = some n ∧ s.chip.coreServes n = true ∧ TakenUp s.chip src .col false 0 ∧ s.chip.groupBusy (g % 65536) = true) ∧
    (∃ (s : State) (src : Submit) (g : Nat) (n : Nat), s.chip.groupCore (g % 65536) = some n ∧ s.chip.coreServes n = true ∧ TakenUp s.chip src .col false 0 ∧ s.chip.groupBusy (g % 65536) = false ∧ (s.chip.group (g % 65536)).isSome = true) ∧
    (∃ (s : State) (src : Submit) (x : Desc), s.chip.coreServes (s.chip.roleCore 0) = true ∧ TakenUp s.chip src .col false 0 ∧ x.w6 = 0 ∧ x.w7 = 0 ∧ slotCheck s.chip x = none) ∧
    (∃ (s : State) (src : Submit) (k : Nat), s.chip.coreServes (s.chip.roleCore 0) = true ∧ TakenUp s.chip src .col false 0 ∧ k ≤ 255 ∧ ((s.chip.slotRec k).state = .armed ∨ (s.chip.slotRec k).state = .faulted) ∧ (s.chip.slotRec k).disarmSeq = 0) ∧
    (∃ (s : State) (k : Fin 256), (s.chip.slotRec k.val).firings = [] ∧ (s.chip.slotRec k.val).state = .armed ∧ (s.chip.slotRec k.val).disarmSeq = 0) ∧
    (∃ (s : State) (port : Fin 8) (line : Fin 64), s.chip.coll.slots.find? (fun p => p.2.state ≠ .empty && p.2.img.sLine = line.val && (s.chip.slotPorts p.2).contains port.val) = none ∧ s.chip.svcHolds port.val line.val = false ∧ s.chip.dmaLine port.val line.val = none) ∧
    (∃ (s : State) (port : Fin 8) (line : Fin 64) (arg : BitVec 8) (k : Nat) (x : SlotRec), s.chip.coll.slots.find? (fun p => p.2.state ≠ .empty && p.2.img.sLine = line.val && (s.chip.slotPorts p.2).contains port.val) = some (k, x) ∧ s.chip.slotRec k = x ∧ x.state = .armed ∧ s.chip.running .col = true ∧ (s.chip.agentRec (.block .col)).fencing = false ∧ expected x port.val arg.toNat = true ∧ (x.firings.any (fun f => f.number = (tget x.next port.val).getD 0)) = false) ∧
    (∃ (s : State) (port : Fin 8) (line : Fin 64) (arg : BitVec 8) (k : Nat) (x : SlotRec), s.chip.coll.slots.find? (fun p => p.2.state ≠ .empty && p.2.img.sLine = line.val && (s.chip.slotPorts p.2).contains port.val) = some (k, x) ∧ s.chip.slotRec k = x ∧ x.state = .armed ∧ s.chip.running .col = true ∧ (s.chip.agentRec (.block .col)).fencing = false ∧ expected x port.val arg.toNat = true ∧ (x.firings.any (fun f => f.number = (tget x.next port.val).getD 0)) = true) ∧
    (∃ (s : State) (st : Nat), st < 256 ∧ (s.chip.slotRec st).state = .empty) ∧
    (∃ (s : State) (m : Nat) (st : Nat) (o : Nat) (bs : List (BitVec 8)) (i : Item), 256 ≤ st ∧ st < 65536 ∧ s.chip.streamItem st = some i ∧ ((bs.map (·.toNat)).take (packedBytes i.body.fmtB i.body.len - 256 * o)) ≠ [] ∧ heldBytes ((tget s.chip.wk.arrive i.seq).getD []) m (256 * o) ((bs.map (·.toNat)).take (packedBytes i.body.fmtB i.body.len - 256 * o)).length = 0 ∧ i.fin = none ∧ i.crec = .none ∧ (((tget s.chip.wk.arrive i.seq).getD []).any (fun c => c.port = m) = true ∨ ((tget s.chip.wk.arrive i.seq).getD []).length < i.body.contrib)) ∧
    (∃ (s : State) (m : Nat) (st : Nat) (o : Nat) (bs : List (BitVec 8)) (f : Firing), st < 256 ∧ (s.chip.slotRec st).state = .armed ∧ (s.chip.slotRec st).dropping.contains m = false ∧ (s.chip.slotRec st).firings.find? (fun f => f.members.contains m && !f.has m 0 (packedBytes (s.chip.slotRec st).img.sFmtIn (s.chip.slotRec st).img.sCount)) = some f ∧ (bs.map (·.toNat)).take (packedBytes (s.chip.slotRec st).img.sFmtIn (s.chip.slotRec st).img.sCount - 256 * o) ≠ [] ∧ heldBytes f.contribs m (256 * o) ((bs.map (·.toNat)).take (packedBytes (s.chip.slotRec st).img.sFmtIn (s.chip.slotRec st).img.sCount - 256 * o)).length = 0 ∧ (contributors (s.chip.slotRec st).img (s.chip.slotPorts (s.chip.slotRec st))).contains m = true) ∧
    (∃ (s : State) (k : Fin 256) (n : Nat) (f : Firing) (i : Item), (s.chip.slotRec k.val).firings.find? (fun f => f.number = n) = some f ∧ s.chip.firingItem k.val n = some i ∧ s.chip.item i.seq = some i ∧ slotGranules (s.chip.slotRec k.val).img ≤ f.written.length ∧ i.crec = .none ∧ s.chip.unverified k.val n = false ∧ s.chip.running .col = true ∧ s.chip.over i.plan = false) ∧
    (∃ (s : State) (k : Fin 256) (n : Nat) (f : Firing), (s.chip.slotRec k.val).firings.find? (fun f => f.number = n) = some f ∧ f.full (s.chip.slotRec k.val).img (s.chip.slotPorts (s.chip.slotRec k.val)) = false) :=
  ⟨(⟨pool.getD 11 .reset, { origin := Origin.ring 0, tag := (0x5 : BitVec 32) }, 32768, 4, by
      unfold TakenUp RecordClean
      refine @of_decide_eq_true _ (by haveI := @decAllSome; haveI := @decExSome; haveI := @decOk; haveI := @decErr; infer_instance) ?_
      decide +kernel⟩),
   (⟨pool.getD 4 .reset, { origin := Origin.ring 0, tag := (0x5 : BitVec 32) }, 32768, 4, by
      unfold TakenUp RecordClean
      refine @of_decide_eq_true _ (by haveI := @decAllSome; haveI := @decExSome; haveI := @decOk; haveI := @decErr; infer_instance) ?_
      decide +kernel⟩),
   (⟨pool.getD 9 .reset, { origin := Origin.ring 0, tag := (0x5 : BitVec 32) }, 1, 4, by
      unfold TakenUp
      refine @of_decide_eq_true _ (by haveI := @decAllSome; haveI := @decExSome; haveI := @decOk; haveI := @decErr; infer_instance) ?_
      decide +kernel⟩),
   (⟨pool.getD 5 .reset, { origin := Origin.ring 0, tag := (0x5 : BitVec 32) }, 1, 4, by
      unfold TakenUp
      refine @of_decide_eq_true _ (by haveI := @decAllSome; haveI := @decExSome; haveI := @decOk; haveI := @decErr; infer_instance) ?_
      decide +kernel⟩),
   (⟨pool.getD 8 .reset, { origin := Origin.ring 0, tag := (0x5 : BitVec 32) }, { w0 := (0x1000101000002 : BitVec 64), w1 := (0x201090104000000 : BitVec 64), w2 := (0x40 : BitVec 64), w3 := (0x1000 : BitVec 64), w4 := (0x0 : BitVec 64), w5 := (0x0 : BitVec 64), w6 := (0x0 : BitVec 64), w7 := (0x0 : BitVec 64) }, by
      unfold TakenUp
      refine @of_decide_eq_true _ (by haveI := @decAllSome; haveI := @decExSome; haveI := @decOk; haveI := @decErr; infer_instance) ?_
      decide +kernel⟩),
   (⟨pool.getD 9 .reset, { origin := Origin.ring 0, tag := (0x5 : BitVec 32) }, 2, by
      unfold TakenUp
      refine @of_decide_eq_true _ (by haveI := @decAllSome; haveI := @decExSome; haveI := @decOk; haveI := @decErr; infer_instance) ?_
      decide +kernel⟩),
   (⟨pool.getD 9 .reset, 2, by
      decide +kernel⟩),
   (⟨pool.getD 0 .reset, 0, 0, by
      decide +kernel⟩),
   (⟨pool.getD 9 .reset, 0, 4, (0x3 : BitVec 8), 2, { img := { w0 := (0x1000101000002 : BitVec 64), w1 := (0x201090104000000 : BitVec 64), w2 := (0x40 : BitVec 64), w3 := (0x1000 : BitVec 64), w4 := (0x0 : BitVec 64), w5 := (0x0 : BitVec 64), w6 := (0x0 : BitVec 64), w7 := (0x0 : BitVec 64) }, state := SlotState.armed, firing := 0, lastSeq := 0, overdraws := 0, resends := 0, latMax := 0, allowance := 0, firings := [], next := [(0, 3), (1, 2)], dropping := [], armSeq := 0, disarmSeq := 0, due := false }, by
      decide +kernel⟩),
   (⟨pool.getD 11 .reset, 1, 4, (0x5 : BitVec 8), 2, { img := { w0 := (0x1000101000002 : BitVec 64), w1 := (0x201090104000000 : BitVec 64), w2 := (0x40 : BitVec 64), w3 := (0x1000 : BitVec 64), w4 := (0x0 : BitVec 64), w5 := (0x0 : BitVec 64), w6 := (0x0 : BitVec 64), w7 := (0x0 : BitVec 64) }, state := SlotState.armed, firing := 0, lastSeq := 0, overdraws := 0, resends := 0, latMax := 0, allowance := 3, firings := [{ number := 5, members := [0], contribs := [], written := [], waits := false, resends := 0, runs := 1, flags := 0, poison := false }], next := [(0, 6), (1, 5)], dropping := [], armSeq := 0, disarmSeq := 0, due := false }, by
      decide +kernel⟩),
   (⟨pool.getD 0 .reset, 0, by
      decide +kernel⟩),
   (⟨pool.getD 15 .reset, 0, 300, 0, (List.replicate 256 (0x3 : BitVec 8)), { seq := 3, slot := 3, state := ItemState.running, domain := Domain.core 1, tag := 9, owner := 65, replied := false, redo := false, replayed := false, plan := 0, acceptTick := 0, endTick := 0, origin := Origin.core 1 7, fn := 257, kind := ItemKind.work, body := { w0 := (0x4 : BitVec 64), w1 := (0x4 : BitVec 64), w2 := (0x0 : BitVec 64), w3 := (0x0 : BitVec 64), w4 := (0x0 : BitVec 64), w5 := (0x12c0002 : BitVec 64), w6 := (0x0 : BitVec 64), w7 := (0x0 : BitVec 64) }, crec := CommitRec.none, fin := none, redoRec := none, carried := false, single := false, reply := { code := 0, lo := 0, hi := 0 } }, by
      decide +kernel⟩),
   (⟨pool.getD 11 .reset, 0, 2, 0, (List.replicate 256 (0x3 : BitVec 8)), { number := 5, members := [0], contribs := [], written := [], waits := false, resends := 0, runs := 1, flags := 0, poison := false }, by
      decide +kernel⟩),
   (⟨pool.getD 12 .reset, 2, 5, { number := 5, members := [0], contribs := [], written := ([0, 1, 2, 3, 4, 5, 6, 7, 8, 9, 10, 11, 12, 13, 14, 15, 16, 17, 18, 19, 20, 21, 22, 23, 24, 25, 26, 27, 28, 29, 30, 31, 32, 33, 34, 35, 36, 37, 38, 39, 40, 41, 42, 43, 44, 45, 46, 47, 48, 49, 50, 51, 52, 53, 54, 55, 56, 57, 58, 59, 60, 61, 62, 63]), waits := false, resends := 0, runs := 1, flags := 0, poison := false }, { seq := 3, slot := 3, state := ItemState.running, domain := Domain.slot 2, tag := 9, owner := 80, replied := false, redo := false, replayed := false, plan := 0, acceptTick := 0, endTick := 0, origin := Origin.slot 2, fn := 257, kind := ItemKind.firing 2 5, body := { w0 := (0x0 : BitVec 64), w1 := (0x0 : BitVec 64), w2 := (0x0 : BitVec 64), w3 := (0x0 : BitVec 64), w4 := (0x0 : BitVec 64), w5 := (0x0 : BitVec 64), w6 := (0x0 : BitVec 64), w7 := (0x0 : BitVec 64) }, crec := CommitRec.none, fin := none, redoRec := none, carried := false, single := false, reply := { code := 0, lo := 0, hi := 0 } }, by
      decide +kernel⟩),
   (⟨pool.getD 11 .reset, 2, 5, { number := 5, members := [0], contribs := [], written := [], waits := false, resends := 0, runs := 1, flags := 0, poison := false }, by
      decide +kernel⟩)⟩

end Sys2Proof.Tests.C05
end

