-- ==== Sys2Proof/Tests/C06.lean ====
section
/-! SUPPORT. States and operands that meet the hypotheses of the statements of chapter 06, clause by clause. -/
set_option Elab.async false
set_option maxRecDepth 100000
namespace Sys2Proof.Tests.C06
open Sys2Proof Sys2Proof.Machine Sys2Proof.Tests

def dsc (l : List Nat) : Desc := descOf l
def pools (d : Chip) : Chip := { d with mu := { d.mu with pools := [(3, ⟨[(0x1000_0000, 100)], 4096, []⟩), (4, ⟨[(0x10_0000_0000, 100)], 4096, []⟩), (5, ⟨[(0x100_0000_0000, 100)], 4096, []⟩), (6, ⟨[(0x1100_0000, 100)], 4096, []⟩)] } }
def kup : Chip := pools (hand up)
def k1 : Chip := { kup with regs := ([(4194368, 2097151), (8388880, 4), (8390656, 1), (10485760, 1), (12583123, 1), (12583616, 5), (12583635, 1), (16777216, 1), (25165832, 1), (25165833, 1), (25165836, 1), (58720384, 33554368), (58720416, 33554368), (58721280, 100), (58721312, 100), (58721344, 100), (58721376, 100), (58721408, 100), (58721440, 100), (58721472, 100), (58721504, 99), (67108894, 0)]), mem := { cells := [(68719484931, (0x80 : BitVec 8)), (68719484939, (0x11 : BitVec 8))], poison := [] }, led := { nextSeq := 2, items := [{ seq := 1, slot := 0, state := ItemState.committed, domain := Domain.ring 0, tag := 5, owner := 255, replied := false, redo := false, replayed := false, plan := 0, acceptTick := 0, endTick := 0, origin := Origin.ring 0, fn := 0, kind := ItemKind.general 769, body := { w0 := (0x500000301 : BitVec 64), w1 := (0x10110100000001 : BitVec 64), w2 := (0x4000000020 : BitVec 64), w3 := (0x0 : BitVec 64), w4 := (0x0 : BitVec 64), w5 := (0x0 : BitVec 64), w6 := (0x0 : BitVec 64), w7 := (0x0 : BitVec 64) }, crec := CommitRec.none, fin := none, redoRec := none, carried := false, single := false, reply := { code := 0, lo := 0, hi := 0 } }], arising := [], freed := [], lost := false, stallRun := 0, pass := none, passHead := 0, passLow := 0, passTick := 0, mirrored := [], mirror := none, checked := false, mirrorDev := none, mirrorAlt := none, report := [] }, fetched := [2], mu := { merge := [], flips := [], ceSeen := [], ueSeen := [], remap0 := [], remap1 := [], spareOf := [], filling := [], retired := [], initPlinth := [], initNear := [], poisonBanks := [], scrub0 := 0, scrub1 := 0, inWindow := [], retrainFails := [], edcSeen := [], pt := [], xlat := [], pools := [(3, { ext := [(268435456, 100)], unit := 4096, used := [] }), (4, { ext := [(68719476736, 100)], unit := 4096, used := [] }), (5, { ext := [(1099511627776, 100)], unit := 4096, used := [] }), (6, { ext := [(285212672, 100)], unit := 4096, used := [0] })], planPlinth := 0, planNear := 0, planQuarry := 0, reclaim := [], moveQ := [], moving := none, paused := false }, kv := { seqs := [(1, { img := { w0 := (0x10110100010001 : BitVec 64), w1 := (0x4000000020 : BitVec 64), w2 := (0x0 : BitVec 64), w3 := (0x0 : BitVec 64), w4 := (0x0 : BitVec 64), w5 := (0x0 : BitVec 64), w6 := (0x0 : BitVec 64), w7 := (0x0 : BitVec 64) }, state := SeqState.ready })], svcs := [], ext := [{ base := 0, cap := 64 }], old := [], log := [], waiting := [], running := none, restart := none, retireH := 0, moveQ := [], moving := none, paused := false, runs := [] } }
def rh (d : Chip) : Chip := { d with fetched := [0, 2] }
def noItems (d : Chip) : Chip := { d with led := { d.led with items := [] } }
def k2 : Chip := { kup with regs := ([(4194368, 2097150), (8388880, 4), (8390656, 2), (10485760, 2), (12583123, 1), (12583616, 5), (12583635, 1), (16777216, 1), (25165832, 1), (25165833, 1), (25165836, 1), (58720384, 33554368), (58720416, 33554368), (58721280, 100), (58721312, 100), (58721344, 100), (58721376, 99), (58721408, 100), (58721440, 100), (58721472, 100), (58721504, 99), (67108894, 0)]), mem := { cells := ([(68719484931, (0x80 : BitVec 8)), (68719484933, (0x4 : BitVec 8)), (68719484939, (0x11 : BitVec 8)), (68853694467, (0x40 : BitVec 8)), (68853694469, (0x40 : BitVec 8)), (68853694470, (0xc0 : BitVec 8)), (68853694472, (0x1 : BitVec 8))]), poison := [] }, led := { nextSeq := 3, items := [{ seq := 1, slot := 0, state := ItemState.committed, domain := Domain.ring 0, tag := 5, owner := 255, replied := false, redo := false, replayed := false, plan := 0, acceptTick := 0, endTick := 0, origin := Origin.ring 0, fn := 0, kind := ItemKind.general 769, body := { w0 := (0x500000301 : BitVec 64), w1 := (0x10110100000001 : BitVec 64), w2 := (0x4000000020 : BitVec 64), w3 := (0x0 : BitVec 64), w4 := (0x0 : BitVec 64), w5 := (0x0 : BitVec 64), w6 := (0x0 : BitVec 64), w7 := (0x0 : BitVec 64) }, crec := CommitRec.none, fin := none, redoRec := none, carried := false, single := false, reply := { code := 0, lo := 0, hi := 0 } }, { seq := 2, slot := 1, state := ItemState.committed, domain := Domain.ring 0, tag := 5, owner := 255, replied := false, redo := false, replayed := false, plan := 0, acceptTick := 0, endTick := 0, origin := Origin.ring 0, fn := 0, kind := ItemKind.general 771, body := { w0 := (0x500000303 : BitVec 64), w1 := (0x1000 : BitVec 64), w2 := (0x0 : BitVec 64), w3 := (0x1 : BitVec 64), w4 := (0x40 : BitVec 64), w5 := (0x0 : BitVec 64), w6 := (0x1000000000 : BitVec 64), w7 := (0x0 : BitVec 64) }, crec := CommitRec.none, fin := none, redoRec := none, carried := false, single := false, reply := { code := 0, lo := 0, hi := 0 } }], arising := [], freed := [], lost := false, stallRun := 0, pass := none, passHead := 0, passLow := 0, passTick := 0, mirrored := [], mirror := none, checked := false, mirrorDev := none, mirrorAlt := none, report := [] }, fetched := [2], mu := { merge := [], flips := [], ceSeen := [], ueSeen := [], remap0 := [], remap1 := [], spareOf := [], filling := [], retired := [], initPlinth := [], initNear := [], poisonBanks := [], scrub0 := 0, scrub1 := 0, inWindow := [], retrainFails := [], edcSeen := [], pt := [], xlat := [], pools := [(3, { ext := [(268435456, 100)], unit := 4096, used := [] }), (4, { ext := [(68719476736, 100)], unit := 4096, used := [0] }), (5, { ext := [(1099511627776, 100)], unit := 4096, used := [] }), (6, { ext := [(285212672, 100)], unit := 4096, used := [0] })], planPlinth := 0, planNear := 0, planQuarry := 0, reclaim := [], moveQ := [], moving := none, paused := false }, kv := { seqs := [(1, { img := { w0 := (0x10110100010001 : BitVec 64), w1 := (0x4000000020 : BitVec 64), w2 := (0x0 : BitVec 64), w3 := (0x0 : BitVec 64), w4 := (0x0 : BitVec 64), w5 := (0x0 : BitVec 64), w6 := (0x0 : BitVec 64), w7 := (0x0 : BitVec 64) }, state := SeqState.ready })], svcs := [], ext := [{ base := 0, cap := 64 }], old := [], log := [], waiting := [], running := none, restart := none, retireH := 0, moveQ := [], moving := none, paused := false, runs := [] } }
def k3 : Chip := let d := noItems (rh k2); { d with kv := { d.kv with seqs := d.kv.seqs.map (fun p => (p.1, { p.2 with state := .closing })) } }
def svc : Desc := dsc [1 + 1 * 2^8 + 2 * 2^16 + 4 * 2^32 + 3 * 2^40, 64, 0x1200_0000, 0, 0, 0, 0, 0]
def p1 : Plan := ⟨2, 0, .active, ⟨2, false, 16, 1, 1, 256, 0, 0, 0, 0, 0, 0, 0, 0, 0, 192, 1, 0xFFFF, List.replicate 12 0, List.replicate 12 0⟩, 0x4000, [3, 0], 0, 0, 0, false, 0⟩
def s0 : Chip := { putBytes kup 0x8000 (descBytes svc) with ldr := { plans := [p1] } }
def s1 : Chip := { kup with regs := ([(4194368, 2097151), (8388880, 4), (8390656, 1), (10485760, 1), (12583123, 1), (12583616, 5), (12583635, 1), (16777216, 1), (25165832, 1), (25165833, 1), (25165836, 1), (67108894, 0)]), mem := { cells := ([(32768, (0x1 : BitVec 8)), (32769, (0x1 : BitVec 8)), (32770, (0x2 : BitVec 8)), (32772, (0x4 : BitVec 8)), (32773, (0x3 : BitVec 8)), (32776, (0x40 : BitVec 8)), (32787, (0x12 : BitVec 8))]), poison := [] }, led := { nextSeq := 2, items := [{ seq := 1, slot := 0, state := ItemState.committed, domain := Domain.ring 0, tag := 5, owner := 255, replied := false, redo := false, replayed := false, plan := 0, acceptTick := 0, endTick := 0, origin := Origin.ring 0, fn := 0, kind := ItemKind.general 773, body := { w0 := (0x500000305 : BitVec 64), w1 := (0x8000 : BitVec 64), w2 := (0x0 : BitVec 64), w3 := (0x0 : BitVec 64), w4 := (0x0 : BitVec 64), w5 := (0x0 : BitVec 64), w6 := (0x0 : BitVec 64), w7 := (0x0 : BitVec 64) }, crec := CommitRec.none, fin := none, redoRec := none, carried := false, single := false, reply := { code := 0, lo := 0, hi := 0 } }], arising := [], freed := [], lost := false, stallRun := 0, pass := none, passHead := 0, passLow := 0, passTick := 0, mirrored := [], mirror := none, checked := false, mirrorDev := none, mirrorAlt := none, report := [] }, fetched := [2], ldr := { plans := [{ id := 2, state := PlanState.active, hdr := { kind := 2, elastic := false, period := 16, wcMin := 1, wcDesired := 1, imageLen := 256, wcCycles := 0, plinthBytes := 0, armInstr := 0, items := 0, slots := 0, footPlinth := 0, footNear := 0, footQuarry := 0, overrunLimit := 0, stepTable := 192, stepCount := 1, replyRing := 65535, egress := (List.replicate 12 0), ingress := (List.replicate 12 0) }, image := 16384, cores := [3, 0], consec := 0, overruns := 0, loadSeq := 0, overran := false, unloadSeq := 0 }], cmds := [], active := [], shadow := [], swap := false, readmit := false,  }, kv := { seqs := [], svcs := [(1, { img := { w0 := (0x1030400020101 : BitVec 64), w1 := (0x40 : BitVec 64), w2 := (0x12000000 : BitVec 64), w3 := (0x0 : BitVec 64), w4 := (0x0 : BitVec 64), w5 := (0x0 : BitVec 64), w6 := (0x0 : BitVec 64), w7 := (0x0 : BitVec 64) }, state := SvcState.bound, queue := [], pending := [], unbindSeq := 0 })], ext := [], old := [], log := [], waiting := [], running := none, restart := none, retireH := 0, moveQ := [], moving := none, paused := false, runs := [] } }
def c (d : Chip) (k : Nat) := d.sr Reg.KVA_MAP_STATE.COMPACT k
def mv (d : Chip) : Chip := { noItems (rh d) with kv := { d.kv with moveQ := [⟨⟨1, 0, 0⟩, 0⟩, ⟨⟨1, 0, 1⟩, 2⟩] } }
def mv2 (d : Chip) (o : Nat) : Chip := { noItems (rh d) with kv := { d.kv with moving := some ⟨⟨1, 0, 0⟩, 0, o, 5, 1, 0⟩ } }
def big (d : Chip) : Chip := { d with kv := { d.kv with moveLeft := 2 ^ 30 } }
def qry : Desc := dsc [7 + 1 * 2 ^ 32, 0 + 1 * 2 ^ 8 + 1 * 2 ^ 16 + 1 * 2 ^ 24 + 1 * 2 ^ 32, 0, 1, 0x40_0000, 0, 0, 0]
def qsv : Chip := { putBytes (noItems (rh k2)) 0x1200_0000 (descBytes qry) with kv := { k2.kv with svcs := [(0, { img := dsc [0 + 1 * 2^8 + 2 * 2^16 + 4 * 2^32 + 3 * 2^40, 1024, 0x1200_0000, 0, 0, 0, 0, 0], state := .bound, queue := [(0, 0)] })] } }
def ms : List Chip := [{}, up, kup, noise kup, noItems (rh k1), noItems (rh k2), rh k2, k3, s0, noise s0, noItems (rh s1), rh s1, { noItems (rh s1) with kv := { s1.kv with svcs := s1.kv.svcs.map (fun p => (p.1, { p.2 with state := .unbinding, pending := [(0, 2)] })) } },
  { noItems (rh s1) with kv := { s1.kv with svcs := s1.kv.svcs.map (fun p => (p.1, { p.2 with pending := [(0, 2)] })) }, agents := [(.block .kva, { st := .fenced })] },
  c k2 1, c k2 2, c k2 3, c (noise k2) 3, c k2 4, c kup 1, { c (noItems (rh k2)) 2 with kv := { k2.kv with restart := some 0, log := List.replicate 5000 (.entry 1), running := some 3 } }, { (c kup 3) with kv := { running := some 3 } },
  (c k2 3).sr Reg.KVA_MAP_STATE.ACTIVE 1, mv k2, mv (k2.sr Reg.KVA_MOVE_CFG.BYTES 0), mv2 k2 (k2.block 1 0 0).addr, mv2 k2 64, mv kup, mv2 kup 3,
  cntMax (noItems (rh k2)) [Reg.KVA_QUERY_ERRORS.COUNT], { noItems (rh k2) with led := { k2.led with lost := true, items := [] } }, { kup with kv := { restart := some 0 } },
  big (mv2 k2 (k2.block 1 0 0).addr), big (mv2 k2 64), { kup with tck := { kup.tck with frames := 2 ^ 40 } }, qsv]
def pool : List State := (ms).map st

theorem test_KvCommands_witness :
    (∃ (s : State) (src : Submit) (x : Desc), TakenUp s.chip src .kva true 0 ∧ x.w4 = 0 ∧ x.w5 = 0 ∧ x.w6 = 0 ∧ x.w7 = 0 ∧ (seqBad x = true ∨ seqOver x = true ∨ (s.chip.seqRec x.qSeq).isSome = true)) ∧
    (∃ (s : State) (src : Submit) (x : Desc), TakenUp s.chip src .kva true 0 ∧ x.w4 = 0 ∧ x.w5 = 0 ∧ x.w6 = 0 ∧ x.w7 = 0 ∧ seqBad x = false ∧ seqOver x = false ∧ s.chip.seqRec x.qSeq = none ∧ (s.chip.dir s.chip.kvActive x.qSeq 0).cap = 0 ∧ (∃ r, (s.chip.dropHand src.origin).newRuns x x.qLayers 0 = .ok r)) ∧
    (∃ (s : State) (src : Submit) (n : Nat) (r : SeqRec), TakenUp s.chip src .kva true 0 ∧ s.chip.seqRec (n % 65536) = some r ∧ r.state = .closing) ∧
    (∃ (s : State) (src : Submit) (n : Nat) (r : SeqRec), TakenUp s.chip src .kva true 0 ∧ s.chip.seqRec (n % 65536) = some r ∧ r.state = .ready ∧ n % 65536 < 16384) ∧
    (∃ (s : State) (src : Submit) (a : Nat) (sa : Nat) (n : Nat) (l : Nat) (b : Nat) (k : Nat) (t : Nat) (r : SeqRec), TakenUp s.chip src .kva true 0 ∧ n < 16384 ∧ s.chip.seqRec n = some r ∧ (r.state = .closing ∨ t > 3 ∨ a % 64 ≠ 0 ∨ sa % 64 ≠ 0 ∨ l ≥ r.img.qLayers ∨ b ≥ 65536 ∨ k = 0 ∨ k > 64 ∨ tailBad s.chip ⟨a, sa, n, l, b, k, t⟩ = true)) ∧
    (∃ (s : State) (src : Submit) (a : Nat) (sa : Nat) (n : Nat) (l : Nat) (b : Nat) (k : Nat) (t : Nat) (r : SeqRec), TakenUp s.chip src .kva true 0 ∧ n < 16384 ∧ s.chip.seqRec n = some r ∧ r.state = .ready ∧ t ≤ 3 ∧ a % 64 = 0 ∧ sa = 0 ∧ l < r.img.qLayers ∧ b < 65536 ∧ 0 < k ∧ k ≤ 64 ∧ s.chip.unitOk (s.chip.originFn src.origin) a (blockBytes r.img) false = true ∧ tailBad s.chip ⟨a, sa, n, l, b, k, t⟩ = false ∧ (s.chip.findCells (putTier r.img t) (cellsOf (blockBytes r.img))).isSome = true ∧ b < (s.chip.dir s.chip.kvActive n l).cap ∧ r.img.qSeq = n) ∧
    (∃ (d : Chip) (p : KvPut) (i : Nat), d.entIndex p.s p.layer p.block = some i) ∧
    (∃ (s : State) (src : Submit) (n : Nat) (l : Nat) (lo : Nat) (hi : Nat) (r : SeqRec), TakenUp s.chip src .kva true 0 ∧ n < 16384 ∧ s.chip.seqRec n = some r ∧ (r.state = .closing ∨ (l ≠ 0xFFFF ∧ l ≥ r.img.qLayers) ∨ hi < lo)) ∧
    (∃ (s : State) (src : Submit) (n : Nat) (l : Nat) (lo : Nat) (hi : Nat) (r : SeqRec), TakenUp s.chip src .kva true 0 ∧ n < 16384 ∧ s.chip.seqRec n = some r ∧ r.state = .ready ∧ (l = 0xFFFF ∨ l < r.img.qLayers) ∧ lo ≤ hi ∧ hi ≤ 65536) ∧
    (∃ (s : State) (src : Submit) (a : Nat), TakenUp s.chip src .kva false 0 ∧ RecordClean s.chip a 64 ∧ (svcBad (s.chip.desc a) = true ∨ (s.chip.svc (s.chip.desc a).vService).isSome = true)) ∧
    (∃ (s : State) (src : Submit) (a : Nat), TakenUp s.chip src .kva false 0 ∧ RecordClean s.chip a 64 ∧ svcBad (s.chip.desc a) = false ∧ s.chip.svc (s.chip.desc a).vService = none ∧ (named s.chip (s.chip.desc a).vPlan).any (fun p => p.state ≠ .loading && p.hdr.kind = 2) = true ∧ (portsOf (s.chip.desc a).vMask).any (fun p => s.chip.slotHolds p (s.chip.desc a).vLine || s.chip.svcHolds p (s.chip.desc a).vLine) = false ∧ ringsOk s.chip (s.chip.desc a) = true) ∧
    (∃ (s : State) (src : Submit) (n : Nat) (v : SvcRec), TakenUp s.chip src .kva false 0 ∧ s.chip.svc (n % 256) = some v ∧ v.state = .unbinding) ∧
    (∃ (s : State) (src : Submit) (n : Nat) (v : SvcRec), TakenUp s.chip src .kva false 0 ∧ s.chip.svc (n % 256) = some v ∧ v.state = .bound ∧ s.chip.led.lost = false) ∧
    (∃ (s : State) (src : Submit), TakenUp s.chip src .kva false 0) :=
  ⟨(⟨pool.getD 1 .reset, { origin := Origin.internal, tag := (0x1 : BitVec 32) }, { w0 := (0x0 : BitVec 64), w1 := (0x0 : BitVec 64), w2 := (0x0 : BitVec 64), w3 := (0x0 : BitVec 64), w4 := (0x0 : BitVec 64), w5 := (0x0 : BitVec 64), w6 := (0x0 : BitVec 64), w7 := (0x0 : BitVec 64) }, by
      unfold TakenUp
      refine @of_decide_eq_true _ (by haveI := @decAllSome; haveI := @decExSome; haveI := @decOk; haveI := @decErr; infer_instance) ?_
      decide +kernel⟩),
   (⟨pool.getD 2 .reset, { origin := Origin.ring 0, tag := (0x5 : BitVec 32) }, { w0 := (0x10110100000001 : BitVec 64), w1 := (0x4000000020 : BitVec 64), w2 := (0x0 : BitVec 64), w3 := (0x0 : BitVec 64), w4 := (0x0 : BitVec 64), w5 := (0x0 : BitVec 64), w6 := (0x0 : BitVec 64), w7 := (0x0 : BitVec 64) }, by unfold TakenUp; refine @of_decide_eq_true _ (by haveI := @decAllSome; haveI := @decExSome; haveI := @decOk; haveI := @decErr; infer_instance) ?_; decide +kernel, by decide +kernel, by decide +kernel, by decide +kernel, by decide +kernel, by decide +kernel, by decide +kernel, by decide +kernel, by decide +kernel, ⟨((((pool.getD 2 .reset).chip.dropHand (.ring 0)).newRuns { w0 := (0x10110100000001 : BitVec 64), w1 := (0x4000000020 : BitVec 64), w2 := (0x0 : BitVec 64), w3 := (0x0 : BitVec 64), w4 := (0x0 : BitVec 64), w5 := (0x0 : BitVec 64), w6 := (0x0 : BitVec 64), w7 := (0x0 : BitVec 64) } (Desc.qLayers { w0 := (0x10110100000001 : BitVec 64), w1 := (0x4000000020 : BitVec 64), w2 := (0x0 : BitVec 64), w3 := (0x0 : BitVec 64), w4 := (0x0 : BitVec 64), w5 := (0x0 : BitVec 64), w6 := (0x0 : BitVec 64), w7 := (0x0 : BitVec 64) }) 0).toOption.getD {}), by refine @of_decide_eq_true _ (by haveI := @decOk; infer_instance) ?_; decide +kernel⟩⟩),
   (⟨pool.getD 7 .reset, { origin := Origin.ring 0, tag := (0x5 : BitVec 32) }, 1, { img := { w0 := (0x10110100010001 : BitVec 64), w1 := (0x4000000020 : BitVec 64), w2 := (0x0 : BitVec 64), w3 := (0x0 : BitVec 64), w4 := (0x0 : BitVec 64), w5 := (0x0 : BitVec 64), w6 := (0x0 : BitVec 64), w7 := (0x0 : BitVec 64) }, state := SeqState.closing }, by
      unfold TakenUp
      refine @of_decide_eq_true _ (by haveI := @decAllSome; haveI := @decExSome; haveI := @decOk; haveI := @decErr; infer_instance) ?_
      decide +kernel⟩),
   (⟨pool.getD 4 .reset, { origin := Origin.ring 0, tag := (0x5 : BitVec 32) }, 1, { img := { w0 := (0x10110100010001 : BitVec 64), w1 := (0x4000000020 : BitVec 64), w2 := (0x0 : BitVec 64), w3 := (0x0 : BitVec 64), w4 := (0x0 : BitVec 64), w5 := (0x0 : BitVec 64), w6 := (0x0 : BitVec 64), w7 := (0x0 : BitVec 64) }, state := SeqState.ready }, by
      unfold TakenUp
      refine @of_decide_eq_true _ (by haveI := @decAllSome; haveI := @decExSome; haveI := @decOk; haveI := @decErr; infer_instance) ?_
      decide +kernel⟩),
   (⟨pool.getD 4 .reset, { origin := Origin.ring 0, tag := (0x5 : BitVec 32) }, 0, 0, 1, 0, 0, 0, 0, { img := { w0 := (0x10110100010001 : BitVec 64), w1 := (0x4000000020 : BitVec 64), w2 := (0x0 : BitVec 64), w3 := (0x0 : BitVec 64), w4 := (0x0 : BitVec 64), w5 := (0x0 : BitVec 64), w6 := (0x0 : BitVec 64), w7 := (0x0 : BitVec 64) }, state := SeqState.ready }, by
      unfold TakenUp
      refine @of_decide_eq_true _ (by haveI := @decAllSome; haveI := @decExSome; haveI := @decOk; haveI := @decErr; infer_instance) ?_
      decide +kernel⟩),
   (⟨pool.getD 4 .reset, { origin := Origin.ring 0, tag := (0x5 : BitVec 32) }, 0, 0, 1, 0, 0, 1, 0, { img := { w0 := (0x10110100010001 : BitVec 64), w1 := (0x4000000020 : BitVec 64), w2 := (0x0 : BitVec 64), w3 := (0x0 : BitVec 64), w4 := (0x0 : BitVec 64), w5 := (0x0 : BitVec 64), w6 := (0x0 : BitVec 64), w7 := (0x0 : BitVec 64) }, state := SeqState.ready }, by
      unfold TakenUp
      refine @of_decide_eq_true _ (by haveI := @decAllSome; haveI := @decExSome; haveI := @decOk; haveI := @decErr; infer_instance) ?_
      decide +kernel⟩),
   (⟨(pool.getD 4 .reset).chip, { src := 0, sumSrc := 0, s := 1, layer := 0, block := 0, tokens := 16, tier := 0 }, 0, by
      decide +kernel⟩),
   (⟨pool.getD 4 .reset, { origin := Origin.ring 0, tag := (0x5 : BitVec 32) }, 1, 0, 1, 0, { img := { w0 := (0x10110100010001 : BitVec 64), w1 := (0x4000000020 : BitVec 64), w2 := (0x0 : BitVec 64), w3 := (0x0 : BitVec 64), w4 := (0x0 : BitVec 64), w5 := (0x0 : BitVec 64), w6 := (0x0 : BitVec 64), w7 := (0x0 : BitVec 64) }, state := SeqState.ready }, by
      unfold TakenUp
      refine @of_decide_eq_true _ (by haveI := @decAllSome; haveI := @decExSome; haveI := @decOk; haveI := @decErr; infer_instance) ?_
      decide +kernel⟩),
   (⟨pool.getD 4 .reset, { origin := Origin.ring 0, tag := (0x5 : BitVec 32) }, 1, 0, 0, 0, { img := { w0 := (0x10110100010001 : BitVec 64), w1 := (0x4000000020 : BitVec 64), w2 := (0x0 : BitVec 64), w3 := (0x0 : BitVec 64), w4 := (0x0 : BitVec 64), w5 := (0x0 : BitVec 64), w6 := (0x0 : BitVec 64), w7 := (0x0 : BitVec 64) }, state := SeqState.ready }, by
      unfold TakenUp
      refine @of_decide_eq_true _ (by haveI := @decAllSome; haveI := @decExSome; haveI := @decOk; haveI := @decErr; infer_instance) ?_
      decide +kernel⟩),
   (⟨pool.getD 1 .reset, { origin := Origin.internal, tag := (0x1 : BitVec 32) }, 0, by
      unfold TakenUp RecordClean
      refine @of_decide_eq_true _ (by haveI := @decAllSome; haveI := @decExSome; haveI := @decOk; haveI := @decErr; infer_instance) ?_
      decide +kernel⟩),
   (⟨pool.getD 8 .reset, { origin := Origin.ring 0, tag := (0x5 : BitVec 32) }, 32768, by
      unfold TakenUp RecordClean
      refine @of_decide_eq_true _ (by haveI := @decAllSome; haveI := @decExSome; haveI := @decOk; haveI := @decErr; infer_instance) ?_
      decide +kernel⟩),
   (⟨pool.getD 12 .reset, { origin := Origin.ring 0, tag := (0x5 : BitVec 32) }, 1, { img := { w0 := (0x1030400020101 : BitVec 64), w1 := (0x40 : BitVec 64), w2 := (0x12000000 : BitVec 64), w3 := (0x0 : BitVec 64), w4 := (0x0 : BitVec 64), w5 := (0x0 : BitVec 64), w6 := (0x0 : BitVec 64), w7 := (0x0 : BitVec 64) }, state := SvcState.unbinding, queue := [], pending := [(0, 2)], unbindSeq := 0 }, by
      unfold TakenUp
      refine @of_decide_eq_true _ (by haveI := @decAllSome; haveI := @decExSome; haveI := @decOk; haveI := @decErr; infer_instance) ?_
      decide +kernel⟩),
   (⟨pool.getD 10 .reset, { origin := Origin.ring 0, tag := (0x5 : BitVec 32) }, 1, { img := { w0 := (0x1030400020101 : BitVec 64), w1 := (0x40 : BitVec 64), w2 := (0x12000000 : BitVec 64), w3 := (0x0 : BitVec 64), w4 := (0x0 : BitVec 64), w5 := (0x0 : BitVec 64), w6 := (0x0 : BitVec 64), w7 := (0x0 : BitVec 64) }, state := SvcState.bound, queue := [], pending := [], unbindSeq := 0 }, by
      unfold TakenUp
      refine @of_decide_eq_true _ (by haveI := @decAllSome; haveI := @decExSome; haveI := @decOk; haveI := @decErr; infer_instance) ?_
      decide +kernel⟩),
   (⟨pool.getD 1 .reset, { origin := Origin.internal, tag := (0x1 : BitVec 32) }, by
      unfold TakenUp
      refine @of_decide_eq_true _ (by haveI := @decAllSome; haveI := @decExSome; haveI := @decOk; haveI := @decErr; infer_instance) ?_
      decide +kernel⟩)⟩

theorem test_KvEngines_witness :
    (∃ (s : State) (p : Fin 8) (l : Fin 64), s.chip.kv.svcs.find? (fun q => q.2.img.vLine = l.val && bitOf q.2.img.vMask p.val) = none ∧ s.chip.slotHolds p.val l.val = false ∧ s.chip.dmaLine p.val l.val = none) ∧
    (∃ (s : State) (p : Fin 8) (l : Fin 64) (a : BitVec 8) (n : Nat) (v : SvcRec), s.chip.kv.svcs.find? (fun q => q.2.img.vLine = l.val && bitOf q.2.img.vMask p.val) = some (n, v) ∧ s.chip.svc n = some v ∧ v.pending.contains (p.val, a.toNat) = true) ∧
    (∃ (s : State) (p : Fin 8) (l : Fin 64) (a : BitVec 8) (n : Nat) (v : SvcRec), s.chip.kv.svcs.find? (fun q => q.2.img.vLine = l.val && bitOf q.2.img.vMask p.val) = some (n, v) ∧ s.chip.svc n = some v ∧ v.pending.contains (p.val, a.toNat) = false ∧ a.toNat < v.img.vEntries ∧ v.state = .bound ∧ s.chip.running .kva = false) ∧
    (∃ (s : State) (p : Fin 8) (l : Fin 64) (a : BitVec 8) (n : Nat) (v : SvcRec), s.chip.kv.svcs.find? (fun q => q.2.img.vLine = l.val && bitOf q.2.img.vMask p.val) = some (n, v) ∧ v.pending.contains (p.val, a.toNat) = false ∧ a.toNat < v.img.vEntries ∧ v.state ≠ .unbinding) ∧
    (∃ (d : Chip) (n : Nat) (port : Nat) (entry : Nat) (v : SvcRec) (code : _), d.svc n = some v ∧ ((d.noteRead (entryAddr v.img port entry) 64).setSvc n { v with queue := v.queue.filter (· ≠ (port, entry)) }).queryCheck n v.img ((d.noteRead (entryAddr v.img port entry) 64).desc (entryAddr v.img port entry)) ((d.noteRead (entryAddr v.img port entry) 64).anyPoison (entryAddr v.img port entry) 64) = some code) ∧
    (∃ (d : Chip) (n : Nat) (port : Nat) (entry : Nat) (v : SvcRec), d.svc n = some v ∧ ((d.noteRead (entryAddr v.img port entry) 64).setSvc n { v with queue := v.queue.filter (· ≠ (port, entry)) }).queryCheck n v.img ((d.noteRead (entryAddr v.img port entry) 64).desc (entryAddr v.img port entry)) ((d.noteRead (entryAddr v.img port entry) 64).anyPoison (entryAddr v.img port entry) 64) = none) ∧
    (∃ (s : State), (s.chip.tck.frames < s.chip.kv.swept + 2 ^ s.chip.rg Reg.KVA_HEAT_CFG.DECAY ∨ s.chip.kvaUp = false)) ∧
    (∃ (s : State), s.chip.kv.swept + 2 ^ s.chip.rg Reg.KVA_HEAT_CFG.DECAY ≤ s.chip.tck.frames ∧ s.chip.kvaUp = true) ∧
    (∃ (s : State) (m : KvMove) (q : List KvMove), s.chip.kv.moveQ = m :: q ∧ moverIdle s.chip = false) ∧
    (∃ (s : State) (m : KvMove) (q : List KvMove), s.chip.kv.moveQ = m :: q ∧ moverIdle s.chip = true ∧ (s.chip.block m.block.s m.block.layer m.block.block).state ≠ 1) ∧
    (∃ (s : State) (m : KvMove) (q : List KvMove) (u : _), s.chip.kv.moveQ = m :: q ∧ moverIdle s.chip = true ∧ (s.chip.block m.block.s m.block.layer m.block.block).state = 1 ∧ tierOf (s.chip.block m.block.s m.block.layer m.block.block).addr ≠ m.tier ∧ s.chip.findUnits (tierPool m.tier) (s.chip.blockCells m.block.s) = some u) ∧
    (∃ (s : State) (m : KvMoving), s.chip.kv.moving = some m ∧ s.chip.seqRec m.block.s = none) ∧
    (∃ (s : State) (m : KvMoving) (r : SeqRec) (i : Nat), s.chip.kv.moving = some m ∧ s.chip.seqRec m.block.s = some r ∧ s.chip.entIndex m.block.s m.block.layer m.block.block = some i ∧ s.chip.kv.moveLeft < 2 * blockBytes r.img - m.done) ∧
    (∃ (s : State) (m : KvMoving) (r : SeqRec) (i : Nat), s.chip.kv.moving = some m ∧ s.chip.seqRec m.block.s = some r ∧ s.chip.entIndex m.block.s m.block.layer m.block.block = some i ∧ 2 * blockBytes r.img - m.done ≤ s.chip.kv.moveLeft ∧ (s.chip.ent s.chip.kvActive i).addr ≠ m.old) ∧
    (∃ (s : State) (m : KvMoving) (r : SeqRec) (i : Nat), s.chip.kv.moving = some m ∧ s.chip.seqRec m.block.s = some r ∧ s.chip.entIndex m.block.s m.block.layer m.block.block = some i ∧ 2 * blockBytes r.img - m.done ≤ s.chip.kv.moveLeft ∧ (s.chip.ent s.chip.kvActive i).state = 1 ∧ (s.chip.ent s.chip.kvActive i).addr = m.old ∧ s.chip.writeLost (s.chip.unitAddr (tierPool m.tier) m.cell) (blockBytes r.img) = false) ∧
    (∃ (s : State), s.chip.kvaUp = true ∧ s.chip.compactState = 1) ∧
    (∃ (s : State), s.chip.kvaUp = true ∧ s.chip.compactState = 2) ∧
    (∃ (s : State), s.chip.kvaUp = true ∧ s.chip.compactState = 3 ∧ s.chip.kvActive < 2) ∧
    (∃ (s : State), (s.chip.compactState = 0 ∨ s.chip.compactState = 4)) ∧
    (∃ (s : State), s.chip.compactState ≠ 0 ∧ s.chip.compactState ≠ 4 ∧ (s.chip.kv.running.isSome = true ∨ s.chip.kv.waiting = [])) ∧
    (∃ (s : State) (t : Nat), s.chip.kv.restart = some t ∧ t ≤ s.chip.tick ∧ s.chip.kvaUp = true ∧ s.chip.compactState = 0) :=
  ⟨(⟨pool.getD 0 .reset, 0, 0, by
      decide +kernel⟩),
   (⟨pool.getD 12 .reset, 0, 4, (0x2 : BitVec 8), 1, { img := { w0 := (0x1030400020101 : BitVec 64), w1 := (0x40 : BitVec 64), w2 := (0x12000000 : BitVec 64), w3 := (0x0 : BitVec 64), w4 := (0x0 : BitVec 64), w5 := (0x0 : BitVec 64), w6 := (0x0 : BitVec 64), w7 := (0x0 : BitVec 64) }, state := SvcState.unbinding, queue := [], pending := [(0, 2)], unbindSeq := 0 }, by
      decide +kernel⟩),
   (⟨pool.getD 13 .reset, 0, 4, (0x0 : BitVec 8), 1, { img := { w0 := (0x1030400020101 : BitVec 64), w1 := (0x40 : BitVec 64), w2 := (0x12000000 : BitVec 64), w3 := (0x0 : BitVec 64), w4 := (0x0 : BitVec 64), w5 := (0x0 : BitVec 64), w6 := (0x0 : BitVec 64), w7 := (0x0 : BitVec 64) }, state := SvcState.bound, queue := [], pending := [(0, 2)], unbindSeq := 0 }, by
      decide +kernel⟩),
   (⟨pool.getD 10 .reset, 0, 4, (0x0 : BitVec 8), 1, { img := { w0 := (0x1030400020101 : BitVec 64), w1 := (0x40 : BitVec 64), w2 := (0x12000000 : BitVec 64), w3 := (0x0 : BitVec 64), w4 := (0x0 : BitVec 64), w5 := (0x0 : BitVec 64), w6 := (0x0 : BitVec 64), w7 := (0x0 : BitVec 64) }, state := SvcState.bound, queue := [], pending := [], unbindSeq := 0 }, by
      decide +kernel⟩),
   (⟨(pool.getD 10 .reset).chip, 1, 0, 0, { img := { w0 := (0x1030400020101 : BitVec 64), w1 := (0x40 : BitVec 64), w2 := (0x12000000 : BitVec 64), w3 := (0x0 : BitVec 64), w4 := (0x0 : BitVec 64), w5 := (0x0 : BitVec 64), w6 := (0x0 : BitVec 64), w7 := (0x0 : BitVec 64) }, state := SvcState.bound, queue := [], pending := [], unbindSeq := 0 }, 769, by
      decide +kernel⟩),
   (⟨(pool.getD 35 .reset).chip, 0, 0, 0, { img := { w0 := (0x30400020100 : BitVec 64), w1 := (0x400 : BitVec 64), w2 := (0x12000000 : BitVec 64), w3 := (0x0 : BitVec 64), w4 := (0x0 : BitVec 64), w5 := (0x0 : BitVec 64), w6 := (0x0 : BitVec 64), w7 := (0x0 : BitVec 64) }, state := SvcState.bound, queue := [(0, 0)], pending := [], unbindSeq := 0 }, by
      decide +kernel⟩),
   (⟨pool.getD 0 .reset, by
      decide +kernel⟩),
   (⟨pool.getD 34 .reset, by
      decide +kernel⟩),
   (⟨pool.getD 24 .reset, { block := { s := 1, layer := 0, block := 0 }, tier := 0 }, [{ block := { s := 1, layer := 0, block := 1 }, tier := 2 }], by
      decide +kernel⟩),
   (⟨pool.getD 27 .reset, { block := { s := 1, layer := 0, block := 0 }, tier := 0 }, [{ block := { s := 1, layer := 0, block := 1 }, tier := 2 }], by
      decide +kernel⟩),
   (⟨pool.getD 23 .reset, { block := { s := 1, layer := 0, block := 0 }, tier := 0 }, [{ block := { s := 1, layer := 0, block := 1 }, tier := 2 }], 0, by
      decide +kernel⟩),
   (⟨pool.getD 28 .reset, { block := { s := 1, layer := 0, block := 0 }, tier := 0, old := 3, cell := 5, cells := 1, done := 0 }, by
      decide +kernel⟩),
   (⟨pool.getD 25 .reset, { block := { s := 1, layer := 0, block := 0 }, tier := 0, old := 68719476736, cell := 5, cells := 1, done := 0 }, { img := { w0 := (0x10110100010001 : BitVec 64), w1 := (0x4000000020 : BitVec 64), w2 := (0x0 : BitVec 64), w3 := (0x0 : BitVec 64), w4 := (0x0 : BitVec 64), w5 := (0x0 : BitVec 64), w6 := (0x0 : BitVec 64), w7 := (0x0 : BitVec 64) }, state := SeqState.ready }, 0, by
      decide +kernel⟩),
   (⟨pool.getD 33 .reset, { block := { s := 1, layer := 0, block := 0 }, tier := 0, old := 64, cell := 5, cells := 1, done := 0 }, { img := { w0 := (0x10110100010001 : BitVec 64), w1 := (0x4000000020 : BitVec 64), w2 := (0x0 : BitVec 64), w3 := (0x0 : BitVec 64), w4 := (0x0 : BitVec 64), w5 := (0x0 : BitVec 64), w6 := (0x0 : BitVec 64), w7 := (0x0 : BitVec 64) }, state := SeqState.ready }, 0, by
      decide +kernel⟩),
   (⟨pool.getD 32 .reset, { block := { s := 1, layer := 0, block := 0 }, tier := 0, old := 68719476736, cell := 5, cells := 1, done := 0 }, { img := { w0 := (0x10110100010001 : BitVec 64), w1 := (0x4000000020 : BitVec 64), w2 := (0x0 : BitVec 64), w3 := (0x0 : BitVec 64), w4 := (0x0 : BitVec 64), w5 := (0x0 : BitVec 64), w6 := (0x0 : BitVec 64), w7 := (0x0 : BitVec 64) }, state := SeqState.ready }, 0, by
      decide +kernel⟩),
   (⟨pool.getD 14 .reset, by
      decide +kernel⟩),
   (⟨pool.getD 15 .reset, by
      decide +kernel⟩),
   (⟨pool.getD 16 .reset, by
      decide +kernel⟩),
   (⟨pool.getD 0 .reset, by
      decide +kernel⟩),
   (⟨pool.getD 14 .reset, by
      decide +kernel⟩),
   (⟨pool.getD 31 .reset, 0, by
      decide +kernel⟩)⟩

end Sys2Proof.Tests.C06
end

