-- ==== Sys2Proof/Tests/C07.lean ====
section
/-! SUPPORT. States and operands that meet the hypotheses of the statements of chapter 07, clause by clause. -/
set_option Elab.async false
set_option maxRecDepth 100000
namespace Sys2Proof.Tests.C07
open Sys2Proof Sys2Proof.Machine Sys2Proof.Tests

def pools (d : Chip) : Chip := { d with mu := { d.mu with pools := [(0, ⟨[(0x2000_0000, 10)], 0x10000, []⟩), (1, ⟨[(0x10_0000_0000, 10)], 0x10000, []⟩), (2, ⟨[(0x100_0000_0000, 10)], 0x10000, []⟩)] } }
def kup : Chip := pools (hand up)
def pt (d : Chip) : Chip := { d with mu := { d.mu with pt := [(0, ⟨0, .valid, 0, false, false, false, 0⟩), (1, ⟨1, .valid, 0, false, false, false, 1⟩), (2, ⟨3, .poisoned, 1, true, false, false, 0⟩), (3, ⟨3, .migrating, 1, true, false, false, 1⟩)] } }
def p1 : Chip := pt kup
def mq (d : Chip) (l : List PageMove) : Chip := { d with mu := { d.mu with moveQ := l } }
def mer (d : Chip) : Chip := { d with mu := { d.mu with merge := [⟨0x40, (List.range 32).map (fun i => (i, i))⟩, ⟨0x1000, [(1, 3)]⟩] }, mem := { d.mem with poison := [0x40, 0x1000] } }
def ms : List Chip := [{}, kup, noise kup, p1, noise p1, cntMax kup [Reg.MEM_COUNT.COUNT 0, Reg.MEM_COUNT.COUNT 5, Reg.MEM_COUNT.COUNT 15]]
def ms_1 : List Chip := [{}, up, kup, noise kup, p1, noise p1, mer up, mer (noise up), { mer up with mu := { (mer up).mu with flips := [(0x40, 1)] } },
  (up.sr Reg.MEM_SCRUB_CFG.RATE 1), { (up.sr Reg.MEM_SCRUB_CFG.RATE 1) with mu := { up.mu with initPlinth := [(0, 3), (7, 9)], scrub0 := 0x2FC00 } }, { (noise up).sr Reg.MEM_SCRUB_CFG.RATE 1 with mu := { up.mu with initPlinth := [(2, 3), (7, 9)], scrub0 := 0x0 } },
  { up with mu := { up.mu with filling := [0, 511], spareOf := [(0, 5), (511, 6)] }, attn := [⟨.plinthBank 0, .halting, 8⟩, ⟨.plinthBank 511, .halting, 8⟩] },
  { up with mu := { up.mu with inWindow := [0, 1, 23], retrainFails := [(1, 1)] } }, { noise up with mu := { up.mu with inWindow := [0, 1, 23], retrainFails := [(23, 1)] } },
  up.sr Reg.MEM_FLIP_ADDR.ADDR (0x2C00_0000 / 32), up.sr Reg.MEM_FLIP_ADDR.ADDR (0x1000 / 32), 
  mq p1 [⟨0, 1⟩, ⟨1, 0⟩], mq (p1.sr Reg.MEM_MIG_CFG.RATE 1) [⟨0, 1⟩, ⟨1, 0⟩], mq (noise (p1.sr Reg.MEM_MIG_CFG.RATE 1)) [⟨0, 0⟩], mq (p1.sr Reg.MEM_MIG_CFG.RATE 1) [⟨3, 0⟩],
  { p1 with mu := { p1.mu with moving := some ⟨0, 1, 4, 0⟩ } }, { noise p1 with mu := { p1.mu with moving := some ⟨3, 1, 4, 0⟩, reclaim := [⟨1, [5], 7⟩] } }, { noise p1 with mu := { p1.mu with moving := some ⟨9, 2, 4, 0⟩, paused := true } },
  { up.sr Reg.MEM_PLINTH_STATE.INIT_BUSY 1 with mem := { cells := [(0x3400_0000, 5), (0x3500_0000, 4)] } }, { up with mem := { poison := [0, 64, 128] , cells := [] } },
  cntMax kup [Reg.MEM_COUNT.COUNT 0, Reg.MEM_COUNT.COUNT 5, Reg.MEM_COUNT.COUNT 15]]
def ms_2 : List Chip := [{}, up, kup, noise kup, p1, noise p1, mer up, mer (noise up), { mer up with mu := { (mer up).mu with flips := [(0x40, 1)] } },
  (up.sr Reg.MEM_SCRUB_CFG.RATE 1), { (up.sr Reg.MEM_SCRUB_CFG.RATE 1) with mu := { up.mu with initPlinth := [(0, 3), (7, 9)], scrub0 := 0x2FC00 } }, { (noise up).sr Reg.MEM_SCRUB_CFG.RATE 1 with mu := { up.mu with initPlinth := [(2, 3), (7, 9)], scrub0 := 0x0 } },
  { up with mu := { up.mu with filling := [0, 511], spareOf := [(0, 5), (511, 6)] }, attn := [⟨.plinthBank 0, .halting, 8⟩, ⟨.plinthBank 511, .halting, 8⟩] },
  { up with mu := { up.mu with inWindow := [0, 1, 23], retrainFails := [(1, 1)] } }, { noise up with mu := { up.mu with inWindow := [0, 1, 23], retrainFails := [(23, 1)] } },
  up.sr Reg.MEM_FLIP_ADDR.ADDR (0x2C00_0000 / 32), up.sr Reg.MEM_FLIP_ADDR.ADDR (0x1000 / 32), 
  mq p1 [⟨0, 1⟩, ⟨1, 0⟩], mq (p1.sr Reg.MEM_MIG_CFG.RATE 1) [⟨0, 1⟩, ⟨1, 0⟩], mq (noise (p1.sr Reg.MEM_MIG_CFG.RATE 1)) [⟨0, 0⟩], mq (p1.sr Reg.MEM_MIG_CFG.RATE 1) [⟨3, 0⟩],
  { p1 with mu := { p1.mu with moving := some ⟨0, 1, 4, 0⟩ } }, { noise p1 with mu := { p1.mu with moving := some ⟨3, 1, 4, 0⟩, reclaim := [⟨1, [5], 7⟩] } }, { noise p1 with mu := { p1.mu with moving := some ⟨9, 2, 4, 0⟩, paused := true } },
  { up.sr Reg.MEM_PLINTH_STATE.INIT_BUSY 1 with mem := { cells := [(0x3400_0000, 5), (0x3500_0000, 4)] } }, { up with mem := { poison := [0, 64, 128] , cells := [] } },
  cntMax kup [Reg.MEM_COUNT.COUNT 0, Reg.MEM_COUNT.COUNT 5, Reg.MEM_COUNT.COUNT 15]]
def ag (d : Chip) (a : Agent) (x : AgentState) : Chip := { d with agents := (a, x) :: d.agents }
def lostp : Chip := { p1 with mu := { p1.mu with retired := List.range 512 } }
def pool : List State := ((ms).map st) ++ ((ms_1).map st) ++ ((ms_2).map st) ++ (([lostp, ag up (.block .mem) { st := .fenced }, { mq p1 [⟨0, 1⟩, ⟨1, 0⟩] with mu := { (mq p1 [⟨0, 1⟩, ⟨1, 0⟩]).mu with moving := some ⟨0, 1, 4, 0⟩ } }, { kup with tck := { kup.tck with frames := 2 ^ 40 } }, { p1 with mu := { p1.mu with moving := some ⟨3, 1, 4, 0⟩, migLeft := 100 } }]).map st)

theorem test_MemoryCommands_witness :
    (∃ (s : State) (src : Submit) (a : Nat) (n : Nat), TakenUp s.chip src .mem false 0 ∧ pageRangeBad a n = true) ∧
    (∃ (s : State) (src : Submit) (a : Nat) (n : Nat) (t : Nat) (p : Nat), TakenUp s.chip src .mem false 0 ∧ pageRangeBad a n = false ∧ t ≤ 2 ∧ p ≤ 1 ∧ s.chip.badPage a n (fun e => e = noPage) = none ∧ (s.chip.someUnits t n).isSome = true) ∧
    (∃ (s : State) (src : Submit) (a : Nat) (n : Nat), TakenUp s.chip src .mem false 0 ∧ pageRangeBad a n = false ∧ s.chip.badPage a n (fun e => e.state ≠ .unmapped) = none ∧ s.chip.ckp.jobs = []) ∧
    (∃ (s : State) (src : Submit) (a : Nat) (n : Nat) (t : Nat) (p : Nat), TakenUp s.chip src .mem false 0 ∧ pageRangeBad a n = false ∧ t ≤ 2 ∧ p ≤ 1 ∧ s.chip.badPage a n (fun e => e.state ≠ .unmapped) = none ∧ (p = 1 → (s.chip.someUnits t n).isSome = true)) ∧
    (∃ (s : State) (src : Submit) (a : Nat) (n : Nat) (f : Nat), TakenUp s.chip src .mem false 0 ∧ f ≤ 1 ∧ (a % 0x1_0000 ≠ 0 ∨ n = 0 ∨ n % 0x1_0000 ≠ 0 ∨ s.chip.inDieOrNear a n = false)) ∧
    (∃ (s : State) (src : Submit) (a : Nat) (n : Nat) (f : Nat), TakenUp s.chip src .mem false 0 ∧ f ≤ 1 ∧ a % 0x1_0000 = 0 ∧ 0 < n ∧ n % 0x1_0000 = 0 ∧ s.chip.inDieOrNear a n = true ∧ deviceOwned a n = false ∧ s.chip.poolsOverlap a n = false ∧ (f = 0 → s.chip.firstInit a n = none)) ∧
    (∃ (d : Chip) (p : Nat) (n : Nat) (k : Nat), k < n ∧ d.lost ((d.pte (p + k)).tpage * 0x1_0000) = false) ∧
    (∃ (d : Chip) (p : Nat) (n : Nat) (k : Nat), k < n ∧ d.lost ((d.pte (p + k)).tpage * 0x1_0000) = true) ∧
    (∃ (n : Nat) (k : Nat), k < n) :=
  ⟨(⟨pool.getD 1 .reset, { origin := Origin.ring 0, tag := (0x5 : BitVec 32) }, 0, 0, by
      unfold TakenUp
      refine @of_decide_eq_true _ (by haveI := @decAllSome; haveI := @decExSome; haveI := @decOk; haveI := @decErr; infer_instance) ?_
      decide +kernel⟩),
   (⟨pool.getD 1 .reset, { origin := Origin.ring 0, tag := (0x5 : BitVec 32) }, 3298534883328, 1, 0, 0, by
      unfold TakenUp
      refine @of_decide_eq_true _ (by haveI := @decAllSome; haveI := @decExSome; haveI := @decOk; haveI := @decErr; infer_instance) ?_
      decide +kernel⟩),
   (⟨pool.getD 3 .reset, { origin := Origin.ring 0, tag := (0x5 : BitVec 32) }, 3298534883328, 1, by
      unfold TakenUp
      refine @of_decide_eq_true _ (by haveI := @decAllSome; haveI := @decExSome; haveI := @decOk; haveI := @decErr; infer_instance) ?_
      decide +kernel⟩),
   (⟨pool.getD 3 .reset, { origin := Origin.ring 0, tag := (0x5 : BitVec 32) }, 3298534883328, 1, 0, 0, by
      unfold TakenUp
      refine @of_decide_eq_true _ (by haveI := @decAllSome; haveI := @decExSome; haveI := @decOk; haveI := @decErr; infer_instance) ?_
      decide +kernel⟩),
   (⟨pool.getD 1 .reset, { origin := Origin.ring 0, tag := (0x5 : BitVec 32) }, 0, 0, 0, by
      unfold TakenUp
      refine @of_decide_eq_true _ (by haveI := @decAllSome; haveI := @decExSome; haveI := @decOk; haveI := @decErr; infer_instance) ?_
      decide +kernel⟩),
   (⟨pool.getD 1 .reset, { origin := Origin.ring 0, tag := (0x5 : BitVec 32) }, 0, 65536, 0, by
      unfold TakenUp
      refine @of_decide_eq_true _ (by haveI := @decAllSome; haveI := @decExSome; haveI := @decOk; haveI := @decErr; infer_instance) ?_
      decide +kernel⟩),
   (⟨(pool.getD 0 .reset).chip, 0, 1, 0, by
      decide +kernel⟩),
   (⟨(pool.getD 60 .reset).chip, 0, 1, 0, by
      decide +kernel⟩),
   (⟨1, 0, by
      decide +kernel⟩)⟩

theorem test_MemoryEngines_witness :
    (∃ (s : State) (w : Nat) (e : MergeEntry), s.chip.mergeEntry (w / 32 * 32) = some e ∧ e.bytes.length = 32) ∧
    (∃ (s : State) (w : Nat) (e : MergeEntry), s.chip.mergeEntry (w / 32 * 32) = some e ∧ e.bytes.length ≠ 32 ∧ s.chip.mu.flips = []) ∧
    (∃ (s : State) (w : Nat), s.chip.mergeEntry (w / 32 * 32) = none) ∧
    (∃ (s : State), s.chip.running .mem = false) ∧
    (∃ (s : State) (q : Nat), s.chip.running .mem = true ∧ s.chip.rg Reg.MEM_SCRUB_CFG.RATE = 1 ∧ s.chip.mu.flips = [] ∧ nextInit s.chip.mu.initPlinth 0 (s.chip.mu.scrub0 / 0x1_0000) = some q ∧ max s.chip.mu.scrub0 q + 1024 < 0x4000_0000) ∧
    (∃ (s : State), s.chip.running .mem = true) ∧
    (∃ (s : State) (b : Fin 512), s.chip.mu.filling.contains b.val = true ∧ s.chip.flag Reg.GLB_LEDGER_STATE.REBUILD = false) ∧
    (∃ (s : State), inGeneral (s.chip.rg Reg.MEM_FLIP_ADDR.ADDR * 32) = true) ∧
    (∃ (s : State), inGeneral (s.chip.rg Reg.MEM_FLIP_ADDR.ADDR * 32) = false) ∧
    (∃ (a : Nat), isSram a = true ∧ isStaging a = true) ∧
    (∃ (a : Nat), isSram a = true ∧ isStaging a = false ∧ isShared a = false ∧ isLocal a = false) ∧
    (∃ (a : Nat), isSram a = false) ∧
    (∃ (a : Nat), isNear a = false) ∧
    (∃ (s : State) (a : Nat), isNear a = true ∧ (s.chip.mu.edcSeen.filter (fun p => p.1 = nearChan a)).length < 15) ∧
    (∃ (s : State) (g : Fin 24), s.chip.mu.inWindow.contains g.val = true ∧ (tget s.chip.mu.retrainFails g.val).getD 0 = 0) ∧
    (∃ (s : State) (g : Fin 24), s.chip.mu.inWindow.contains g.val = true ∧ 0 < (tget s.chip.mu.retrainFails g.val).getD 0) ∧
    (∃ (s : State) (p : Fin 16777216), s.chip.anyPoison ((s.chip.rg Reg.MEM_PT_BASE.BASE + 8 * p.val) / 128 * 128) 128 = false ∧ s.chip.mu.xlat.length < 16384) ∧
    (∃ (s : State), (s.chip.tck.frames < s.chip.mu.swept + 2 ^ s.chip.rg Reg.MEM_MIG_CFG.DECAY ∨ s.chip.running .mem = false)) ∧
    (∃ (s : State), s.chip.mu.swept + 2 ^ s.chip.rg Reg.MEM_MIG_CFG.DECAY ≤ s.chip.tck.frames ∧ s.chip.running .mem = true) ∧
    (∃ (s : State) (m : PageMove) (q : List PageMove), s.chip.mu.moveQ = m :: q ∧ migIdle s.chip = false) ∧
    (∃ (s : State) (m : PageMove) (q : List PageMove) (u : _), s.chip.mu.moveQ = m :: q ∧ migIdle s.chip = true ∧ (s.chip.pte m.page).state = .valid ∧ (s.chip.pte m.page).pin = false ∧ (s.chip.pte m.page).tier ≠ m.tier ∧ s.chip.findUnits m.tier 1 = some u) ∧
    (∃ (s : State) (m : PageMoving), s.chip.mu.moving = some m ∧ s.chip.mu.migLeft + m.done < 64) ∧
    (∃ (s : State) (m : PageMoving), s.chip.mu.moving = some m ∧ 64 ≤ s.chip.mu.migLeft + m.done ∧ (s.chip.pte m.page).state = .migrating ∧ s.chip.lost (s.chip.unitAddr m.tier m.unit) = false) ∧
    (∃ (s : State), s.chip.flag Reg.MEM_PLINTH_STATE.INIT_BUSY = true ∧ s.chip.flag Reg.PCR_STATE.MAQ_LOADED = true) :=
  ⟨(⟨pool.getD 12 .reset, 64, { word := 64, bytes := ([(0, 0), (1, 1), (2, 2), (3, 3), (4, 4), (5, 5), (6, 6), (7, 7), (8, 8), (9, 9), (10, 10), (11, 11), (12, 12), (13, 13), (14, 14), (15, 15), (16, 16), (17, 17), (18, 18), (19, 19), (20, 20), (21, 21), (22, 22), (23, 23), (24, 24), (25, 25), (26, 26), (27, 27), (28, 28), (29, 29), (30, 30), (31, 31)]) }, by
      decide +kernel⟩),
   (⟨pool.getD 12 .reset, 4096, { word := 4096, bytes := [(1, 3)] }, by
      decide +kernel⟩),
   (⟨pool.getD 0 .reset, 0, by
      decide +kernel⟩),
   (⟨pool.getD 61 .reset, by
      decide +kernel⟩),
   (⟨pool.getD 16 .reset, 131072, by
      decide +kernel⟩),
   (⟨pool.getD 0 .reset, by
      decide +kernel⟩),
   (⟨pool.getD 18 .reset, 0, by
      decide +kernel⟩),
   (⟨pool.getD 0 .reset, by
      decide +kernel⟩),
   (⟨pool.getD 21 .reset, by
      decide +kernel⟩),
   (⟨4429185088, by
      decide +kernel⟩),
   (⟨4294967296, by
      decide +kernel⟩),
   (⟨0, by
      decide +kernel⟩),
   (⟨0, by
      decide +kernel⟩),
   (⟨pool.getD 0 .reset, 68719476864, by
      decide +kernel⟩),
   (⟨pool.getD 19 .reset, 0, by
      decide +kernel⟩),
   (⟨pool.getD 19 .reset, 1, by
      decide +kernel⟩),
   (⟨pool.getD 0 .reset, 0, by
      decide +kernel⟩),
   (⟨pool.getD 0 .reset, by
      decide +kernel⟩),
   (⟨pool.getD 63 .reset, by
      decide +kernel⟩),
   (⟨pool.getD 62 .reset, { page := 0, tier := 1 }, [{ page := 1, tier := 0 }], by
      decide +kernel⟩),
   (⟨pool.getD 23 .reset, { page := 0, tier := 1 }, [{ page := 1, tier := 0 }], 0, by
      decide +kernel⟩),
   (⟨pool.getD 27 .reset, { page := 0, tier := 1, unit := 4, done := 0 }, by
      decide +kernel⟩),
   (⟨pool.getD 64 .reset, { page := 3, tier := 1, unit := 4, done := 0 }, by
      decide +kernel⟩),
   (⟨pool.getD 30 .reset, by
      decide +kernel⟩)⟩

end Sys2Proof.Tests.C07
end

