-- ==== Sys2Proof/Tests/C08.lean ====
section
/-! SUPPORT. States and operands that meet the hypotheses of the statements of chapter 08, clause by clause. -/
set_option Elab.async false
set_option maxRecDepth 100000
namespace Sys2Proof.Tests.C08
open Sys2Proof Sys2Proof.Machine Sys2Proof.Tests

def L (n : Nat) : Nat := localBase n
def rel (d : Chip) (n : Fin 16) (c : ArmCore) : Chip := d.setCore n { c with released := true, pc := BitVec.ofNat 64 (if c.pc = 0 then 0x1_0400_0100 else c.pc.toNat), tvec := 0x1_0400_0800 }
def w (n : Nat) : Word := BitVec.ofNat 64 n
def rInt : Tbl TVal := [(1, ⟨5, .int⟩), (2, ⟨w (2^64 - 3), .int⟩), (3, ⟨w (L 0 + 64), .ptr⟩), (4, ⟨0, .int⟩), (31, ⟨w 0x1_0400_0200, .ptr⟩)]
def rPtr : Tbl TVal := [(1, ⟨w 0x1_0400_0040, .ptr⟩), (2, ⟨w (L 15 + 0x101), .ptr⟩), (3, ⟨w (L 15 + 0x100), .ptr⟩), (4, ⟨3, .seq⟩), (31, ⟨8, .int⟩)]
def rF : Tbl TVal := [(1, ⟨0x3FF8000000000000, .f64⟩), (2, ⟨0x7FF0000000000001, .f64⟩), (3, ⟨0x0000000000000001, .f64⟩), (4, ⟨0x7FEFFFFFFFFFFFFF, .f64⟩), (31, ⟨0x8000000000000000, .f64⟩)]
def rS : Tbl TVal := [(1, ⟨0x3FF800003F800000, .f32p⟩), (2, ⟨0x7F80000000000001, .f32p⟩), (3, ⟨0x00000001FFC00000, .f32p⟩), (4, ⟨0x7F7FFFFF80000000, .f32p⟩), (31, ⟨0x3F800001BF800000, .f32p⟩)]
def rO : Tbl TVal := [(1, ⟨7, .desc⟩), (2, ⟨3, .seq⟩), (3, ⟨5, .keyh⟩), (4, ⟨0x100, .desc⟩), (31, ⟨1, .int⟩)]
def rM : Tbl TVal := [(1, ⟨w (0x1_0400_0040), .ptr⟩), (2, ⟨0x11, .int⟩), (3, ⟨0x2_0008_0020, .ptr⟩), (4, ⟨w (L 0 + 256), .ptr⟩), (31, ⟨0x7000_0000_0000_0000, .int⟩)]
def ld1 : InFlight := ⟨3, ⟨77, .int⟩, false, false, false⟩
def ld2 : InFlight := ⟨2, ⟨78, .int⟩, true, false, false⟩
def core1 (r : Tbl TVal) : ArmCore := { s := r }
def files : List (Tbl TVal) := [rInt, rPtr, rF, rS, rO, rM]
def both (d : Chip) (c : ArmCore) : Chip := rel (rel d 0 c) 15 c
def mm (d : Chip) : Chip := putBytes (putBytes d 0x1_0400_0040 [1, 2, 3, 4, 5, 6, 7, 8, 9]) (L 0 + 64) [9, 8, 7, 6, 5, 4, 3, 0xF2]
def base : List Chip := files.map (fun r => both (mm up) (core1 r))
def slot : List Chip := [rInt, rF, rM].map (fun r => both (noise (mm up)) { core1 r with loads := [ld1] })
def stl : List Chip := [both up { core1 rInt with loads := [ld2] }, both up { core1 rInt with loads := [{ ld1 with ready := true }] }, both up { core1 rM with loads := [ld2, ld1] }]
def trapd : List Chip := [both up { core1 rInt with intrap := true }, both up { core1 rInt with pc := 0x3000 }, both ({ up with mem := { poison := [0x1_0400_0100] } }) (core1 rInt), up, both {} (core1 rInt), (both up (core1 rInt)).sr (Reg.AMT_CORE_STATE.STATE 0) 1,
   both up { core1 rInt with pc := 0x3000, loads := [ld1], intrap := true }, both up { core1 rInt with pc := 0x3000, stepping := true }]
def extra : List Chip := [both (noise (mm up)) { core1 rM with ltags := [(8, .int), (32, .keyh)] }, both { mm up with mem := { cells := [], poison := [0x1_0400_0040] } } (core1 rM), both (mm up) { core1 rInt with loads := [ld1], ltags := [(8, .f64)] }, both (mm up) { core1 rPtr with ltags := [(8, .f64)] }]
def cf (m dep : Nat) (l : List InFlight) : Chip := both (mm up) { core1 rInt with rsmode := m, rsDepth := dep, rsPtr := dep % 16, loads := l, rs := [(dep % 16, 0x1_0400_0300), ((dep + 15) % 16, w 0x1_0400_0400)] }
def extra_2 : List Chip := [0, 1, 2].flatMap (fun m => [0, 1, 15, 16].flatMap (fun k => [cf m k [], cf m k [ld1]]))
  ++ [both up { core1 rPtr with rsmode := 2 }, both up { core1 rInt with rsmode := 1, intrap := true, rsDepth := 16 }, both up { core1 rInt with pc := w (L 15 + 0x3FFFC) }]
def md (a : Fin 4) (m : Fin 3) : Macd := ⟨a, m, 0x3FF8000000000000, 0xC000000000000001, none⟩
def ac : Tbl (BitVec 128) := [(0, 0x3FF0000000000000_7FF0000000000001), (2, 0xFFFFFFFFFFFFFFFF_0000000000000001), (3, 0x3F8000013F800000)]
def rMM : Tbl TVal := [(1, ⟨w (0x1_0400_0040), .ptr⟩), (2, ⟨w (L 0 + 64), .ptr⟩), (3, ⟨0x2_0008_0020, .ptr⟩), (4, ⟨w (L 15 + 256), .ptr⟩), (31, ⟨0x7000_0000_0000_0000, .f64⟩)]
def extra_3 : List Chip := [both (mm up) { core1 rMM with a := ac, macds := [md 0 0, md 2 1] }, both (mm up) { core1 rMM with a := ac, macds := [md 0 0, md 2 1, md 3 2, md 1 1] }, both (noise (mm up)) { core1 rMM with a := ac, macds := [], loads := [ld1] },
  both (mm up) { core1 rMM with a := ac, macds := [{ md 0 0 with bad := some (6, 0x1234) }, md 1 1] }, both (noise (mm up)) { core1 rMM with a := ac }, both up { core1 rMM with a := ac, macds := [md 3 2] }, both up { core1 rF with a := ac, macds := [md 2 1] }]
def it (q : Nat) (k : ItemKind) (s : ItemState) : Item := { item0 q k .none with state := s, owner := 0x40 }
def hs : Tbl Handle := [(0, ⟨descOf [1], 256, 3, none, false, some 5, none⟩), (1, ⟨descOf [1], 256, 3, none, false, none, none⟩), (7, ⟨descOf [1], 256, 3, none, false, some 9, some [11, 12, 13, 14]⟩), (8, ⟨descOf [1], 256, 3, none, false, some 6, none⟩)]
def rH : Tbl TVal := [(1, ⟨w 0x107, .desc⟩), (2, ⟨0x108, .desc⟩), (3, ⟨1, .desc⟩), (4, ⟨w (L 0 + 64), .ptr⟩), (5, ⟨w (L 15 + 96), .ptr⟩), (6, ⟨3, .int⟩), (7, ⟨5, .seq⟩), (31, ⟨0, .desc⟩)]
def rW : Tbl TVal := [(1, ⟨w (L 0 + 64), .ptr⟩), (2, ⟨0x100, .int⟩), (3, ⟨0x5, .int⟩), (4, ⟨5, .keyh⟩), (5, ⟨6, .seq⟩), (6, ⟨5, .seq⟩), (7, ⟨7, .seq⟩), (31, ⟨0x10005, .int⟩)]
def its (d : Chip) : Chip := withItems d [it 5 (.armature 0) .running, it 6 (.armature 15) .committed, it 7 (.armature 15) .running]
def wk (d : Chip) (r : Tbl TVal) (l : List InFlight) : Chip := both d { s := r, handles := hs, gens := [(7, 1), (8, 1)], planctx := 4, loads := l, laccs := [(5, 0), (6, 0), (7, 0)] }
def own (d : Chip) (k : ItemKind) (c : CommitRec) : Chip := withItems d [{ it 5 k .running with crec := c }]
def extra_4 : List Chip := [wk (its (mm up)) rH [], wk (mm up) rH [ld1], wk (its (mm up)) rW [], wk (noise (mm up)) rW [ld1], wk (its (mm up)) rH [ld1], wk (own (mm up) (.armature 0) .none) rW [], wk (own (noise (mm up)) (.armature 15) .taken) rW [],
  wk (own (mm up) (.armature 15) .none) rW [], wk ((mm up).sr (Reg.SEC_CTX_CFG.CORES 5) 0x8001) rW [], wk { its (mm up) with led := { (its (mm up)).led with lost := true } } rW [],
  wk (withItems (mm up) [{ it 4 (.armature 0) .running with domain := .core 1 }, it 5 (.armature 0) .running]) rW [], both (mm up) { s := rW, handles := (List.range 256).map (fun i => (i, ⟨descOf [1], 256, 3, none, false, some 5, none⟩)) }]
def extra_5 : List Chip := [both (mm up) { core1 rInt with ldValid := true, ldTag := 1, ldReg := 5, ldVal := 9, epc := 0x1_0400_0100, intrap := true, pie := true, ipend := 16, ien := 2, ie := true }, both (mm up) { core1 rInt with ldValid := false, epc := 0x1_0400_0100, intrap := true, pie := true, ipend := 16, ien := 0, ie := false },
  both (mm up) { core1 rInt with ldValid := true, ldTag := 0xE, loads := [ld1], ipend := 2, ien := 2, ie := true, intrap := false }, both (mm up) { core1 rInt with loads := [], ipend := 0x1B, ien := 3, ie := true, intrap := false },
  both (mm up) { core1 rInt with loads := [], ipend := 0x0B, ien := 0xA, ie := true, intrap := false }, both (mm up) { core1 rInt with loads := [], ipend := 0x0B, ien := 0xA, ie := false, intrap := false }, both (mm up) { core1 rInt with loads := [{ ld1 with ready := true }], codeStale := true }]
def pool : List State := ((base ++ slot ++ stl ++ trapd).map st) ++ ((base ++ slot ++ stl ++ extra).map st) ++ ((base ++ slot ++ stl ++ extra_2).map st) ++ ((base ++ slot ++ stl ++ extra_3).map st) ++ ((base ++ slot ++ extra_4).map st) ++ ((base ++ slot ++ stl ++ extra_5).map st)

theorem test_IntegerInstructions_witness :
    (∃ (s : State) (n : Fin 16) (rs1 : Fin 32) (rs2 : Fin 32) (t : _), CanIssue s.chip n ∧ (aluMenu[0]).2.1 ((s.chip.core n).reg rs1).t ((s.chip.core n).reg rs2).t = some t) ∧
    (∃ (s : State) (n : Fin 16) (rs1 : Fin 32), CanIssue s.chip n ∧ (s.chip.core n).intrap = false ∧ ((s.chip.core n).reg rs1).t = .nul) ∧
    (∃ (s : State) (n : Fin 16) (rs1 : Fin 32) (rs2 : Fin 32), CanIssue s.chip n ∧ (s.chip.core n).intrap = false ∧ ((s.chip.core n).reg rs1).t ≠ .nul ∧ ((s.chip.core n).reg rs2).t ≠ .nul ∧ (aluMenu[0]).2.1 ((s.chip.core n).reg rs1).t ((s.chip.core n).reg rs2).t = none) ∧
    (∃ (s : State) (n : Fin 16) (rs1 : Fin 32) (rs2 : Fin 32), CanIssue s.chip n ∧ ((s.chip.core n).reg rs1).t = .int ∧ ((s.chip.core n).reg rs2).t = .int ∧ ((s.chip.core n).reg rs2).v ≠ 0) ∧
    (∃ (s : State) (n : Fin 16) (rs1 : Fin 32) (rs2 : Fin 32), CanIssue s.chip n ∧ ((s.chip.core n).reg rs1).t = .int ∧ ((s.chip.core n).reg rs2).t = .int ∧ (s.chip.core n).intrap = false ∧ ((s.chip.core n).reg rs2).v = 0) ∧
    (∃ (s : State) (n : Fin 16) (rs1 : Fin 32) (t : Tag), CanIssue s.chip n ∧ (immMenu[0]).2.1 ((s.chip.core n).reg rs1).t .int = some t) ∧
    (∃ (s : State) (n : Fin 16) (rs1 : Fin 32) (imm : BitVec 15) (k : _), CanIssue s.chip n ∧ imm.toNat / 64 = k ∧ k ≤ 2 ∧ ((s.chip.core n).reg rs1).t = .int) ∧
    (∃ (s : State) (n : Fin 16) (imm : BitVec 15), CanIssue s.chip n ∧ 2 < imm.toNat / 64 ∧ (s.chip.core n).intrap = false) ∧
    (∃ (s : State) (n : Fin 16) (rd : Fin 32), CanIssue s.chip n ∧ ((s.chip.core n).reg rd).t = .int) :=
  ⟨(⟨pool.getD 0 .reset, 0, 0, 0, Tag.int, by
      unfold CanIssue
      refine @of_decide_eq_true _ (by haveI := @decAllSome; haveI := @decExSome; haveI := @decOk; haveI := @decErr; infer_instance) ?_
      decide +kernel⟩),
   (⟨pool.getD 0 .reset, 0, 5, by
      unfold CanIssue
      refine @of_decide_eq_true _ (by haveI := @decAllSome; haveI := @decExSome; haveI := @decOk; haveI := @decErr; infer_instance) ?_
      decide +kernel⟩),
   (⟨pool.getD 0 .reset, 0, 3, 3, by
      unfold CanIssue
      refine @of_decide_eq_true _ (by haveI := @decAllSome; haveI := @decExSome; haveI := @decOk; haveI := @decErr; infer_instance) ?_
      decide +kernel⟩),
   (⟨pool.getD 0 .reset, 0, 0, 1, by
      unfold CanIssue
      refine @of_decide_eq_true _ (by haveI := @decAllSome; haveI := @decExSome; haveI := @decOk; haveI := @decErr; infer_instance) ?_
      decide +kernel⟩),
   (⟨pool.getD 0 .reset, 0, 0, 0, by
      unfold CanIssue
      refine @of_decide_eq_true _ (by haveI := @decAllSome; haveI := @decExSome; haveI := @decOk; haveI := @decErr; infer_instance) ?_
      decide +kernel⟩),
   (⟨pool.getD 0 .reset, 0, 0, Tag.int, by
      unfold CanIssue
      refine @of_decide_eq_true _ (by haveI := @decAllSome; haveI := @decExSome; haveI := @decOk; haveI := @decErr; infer_instance) ?_
      decide +kernel⟩),
   (⟨pool.getD 0 .reset, 0, 0, (0x0 : BitVec 15), 0, by
      unfold CanIssue
      refine @of_decide_eq_true _ (by haveI := @decAllSome; haveI := @decExSome; haveI := @decOk; haveI := @decErr; infer_instance) ?_
      decide +kernel⟩),
   (⟨pool.getD 0 .reset, 0, (0x7fff : BitVec 15), by
      unfold CanIssue
      refine @of_decide_eq_true _ (by haveI := @decAllSome; haveI := @decExSome; haveI := @decOk; haveI := @decErr; infer_instance) ?_
      decide +kernel⟩),
   (⟨pool.getD 0 .reset, 0, 0, by
      unfold CanIssue
      refine @of_decide_eq_true _ (by haveI := @decAllSome; haveI := @decExSome; haveI := @decOk; haveI := @decErr; infer_instance) ?_
      decide +kernel⟩)⟩

theorem test_MemoryInstructions_witness :
    (∃ (s : State) (n : Fin 16) (rd : Fin 32) (rs1 : Fin 32) (sz : Fin 8) (imm : BitVec 12) (size : Nat), CanIssue s.chip n ∧ szBytes sz = some size ∧ ((s.chip.core n).reg rs1).t = .ptr ∧ (((loadMenu[0]).2.2 0 0).isSome = true → badBase rd rs1 = false) ∧ CanLoad s.chip n ((loadMenu[0]).2.1 ((s.chip.core n).reg rs1).v imm).toNat size) ∧
    (∃ (s : State) (n : Fin 16) (rs1 : Fin 32) (rs2 : Fin 32) (sz : Fin 8) (sc : Fin 4) (size : Nat) (a : Nat), CanIssue s.chip n ∧ szBytes sz = some size ∧ ((s.chip.core n).reg rs1).t = .ptr ∧ ((s.chip.core n).reg rs2).t = .int ∧ a = (((s.chip.core n).reg rs1).v + ((s.chip.core n).reg rs2).v <<< sc.val).toNat ∧ CanLoad s.chip n a size) ∧
    (∃ (n : Fin 16) (a : Nat), ownLocal n a = true) ∧
    (∃ (s : State) (n : Fin 16) (rs : Fin 32) (rs1 : Fin 32) (sz : Fin 8) (imm : BitVec 12) (size : Nat), CanIssue s.chip n ∧ sz.val ≤ 3 ∧ szBytes sz = some size ∧ ((s.chip.core n).reg rs1).t = .ptr ∧ ((s.chip.core n).reg rs).t ≠ .nul ∧ (((storeMenu[0]).2.2 0 0).isSome = true → badBase rs rs1 = false) ∧ CanStore s.chip n ((storeMenu[0]).2.1 ((s.chip.core n).reg rs1).v imm).toNat size) ∧
    (∃ (s : State) (n : Fin 16) (rs : Fin 32) (rs1 : Fin 32) (rs2 : Fin 32) (sz : Fin 8) (sc : Fin 4) (size : Nat) (a : Nat), CanIssue s.chip n ∧ sz.val ≤ 3 ∧ szBytes sz = some size ∧ ((s.chip.core n).reg rs1).t = .ptr ∧ ((s.chip.core n).reg rs2).t = .int ∧ ((s.chip.core n).reg rs).t ≠ .nul ∧ a = (((s.chip.core n).reg rs1).v + ((s.chip.core n).reg rs2).v <<< sc.val).toNat ∧ CanStore s.chip n a size) ∧
    (∃ (s : State) (n : Fin 16) (rs1 : Fin 32) (imm : BitVec 12), CanIssue s.chip n ∧ ((s.chip.core n).reg rs1).t = .ptr ∧ CanStore s.chip n (((s.chip.core n).reg rs1).v + imm.signExtend 64).toNat 8) ∧
    (∃ (s : State) (n : Fin 16) (rs1 : Fin 32) (sz : Fin 8) (imm : BitVec 12) (size : Nat), CanIssue s.chip n ∧ (s.chip.core n).intrap = false ∧ ((s.chip.core n).reg rs1).t = .ptr ∧ szBytes sz = some size ∧ (((s.chip.core n).reg rs1).v + imm.signExtend 64).toNat % size ≠ 0) ∧
    (∃ (s : State) (n : Fin 16) (rd : Fin 32) (rs1 : Fin 32) (rs2 : Fin 32) (a : Nat), CanIssue s.chip n ∧ ((s.chip.core n).reg rs1).t = .ptr ∧ ((s.chip.core n).reg rs2).t = .int ∧ a = ((s.chip.core n).reg rs1).v.toNat ∧ a % 8 = 0 ∧ isShared a = true ∧ s.chip.coreLoads n a 8 = true ∧ s.chip.bpMatches n 1 a = [] ∧ s.chip.bpMatches n 2 a = [] ∧ s.chip.anyPoison a 8 = false ∧ s.chip.noteRead a 8 = s.chip ∧ ((s.chip.core n).reg rd).t = .int) ∧
    (∃ (s : State) (rd : Fin 32) (rs1 : Fin 32), CanIssue s.chip 0 ∧ (s.chip.core 0).reg rs1 = ⟨0x2_0008_0020, .ptr⟩ ∧ s.chip.bpMatches 0 1 0x2_0008_0020 = [] ∧ s.chip.bpMatches 0 2 0x2_0008_0020 = [] ∧ s.chip.hub.inReset = false ∧ s.chip.pwr.trigger = 0 ∧ s.chip.flag Reg.FLT_SAFE.SAFE = false ∧ ((s.chip.core 0).reg rd).t = .int) ∧
    (∃ (s : State) (n : Fin 16) (l : InFlight) (rest : List InFlight), (s.chip.core n).loads = l :: rest ∧ l.ready = false ∧ l.slotDone = true) ∧
    (∃ (s : State) (n : Fin 16) (l : InFlight) (rest : List InFlight), (s.chip.core n).loads = l :: rest ∧ l.ready = false ∧ l.slotDone = false) :=
  ⟨(⟨pool.getD 0 .reset, 0, 0, 3, 0, (0x0 : BitVec 12), 1, by
      unfold CanIssue CanLoad
      refine @of_decide_eq_true _ (by haveI := @decAllSome; haveI := @decExSome; haveI := @decOk; haveI := @decErr; infer_instance) ?_
      decide +kernel⟩),
   (⟨pool.getD 0 .reset, 0, 3, 0, 0, 0, 1, 4378853440, by
      unfold CanIssue CanLoad
      refine @of_decide_eq_true _ (by haveI := @decAllSome; haveI := @decExSome; haveI := @decOk; haveI := @decErr; infer_instance) ?_
      decide +kernel⟩),
   (⟨0, 4378853440, by
      decide +kernel⟩),
   (⟨pool.getD 0 .reset, 0, 0, 3, 0, (0x0 : BitVec 12), 1, by
      unfold CanIssue CanStore
      refine @of_decide_eq_true _ (by haveI := @decAllSome; haveI := @decExSome; haveI := @decOk; haveI := @decErr; infer_instance) ?_
      decide +kernel⟩),
   (⟨pool.getD 0 .reset, 0, 0, 3, 0, 0, 0, 1, 4378853440, by
      unfold CanIssue CanStore
      refine @of_decide_eq_true _ (by haveI := @decAllSome; haveI := @decExSome; haveI := @decOk; haveI := @decErr; infer_instance) ?_
      decide +kernel⟩),
   (⟨pool.getD 0 .reset, 0, 3, (0x0 : BitVec 12), by
      unfold CanIssue CanStore
      refine @of_decide_eq_true _ (by haveI := @decAllSome; haveI := @decExSome; haveI := @decOk; haveI := @decErr; infer_instance) ?_
      decide +kernel⟩),
   (⟨pool.getD 0 .reset, 0, 3, 1, (0xfff : BitVec 12), 2, by
      unfold CanIssue
      refine @of_decide_eq_true _ (by haveI := @decAllSome; haveI := @decExSome; haveI := @decOk; haveI := @decErr; infer_instance) ?_
      decide +kernel⟩),
   (⟨pool.getD 0 .reset, 0, 0, 31, 0, 4362076672, by
      unfold CanIssue
      refine @of_decide_eq_true _ (by haveI := @decAllSome; haveI := @decExSome; haveI := @decOk; haveI := @decErr; infer_instance) ?_
      decide +kernel⟩),
   (⟨pool.getD 5 .reset, 0, 3, by
      unfold CanIssue
      refine @of_decide_eq_true _ (by haveI := @decAllSome; haveI := @decExSome; haveI := @decOk; haveI := @decErr; infer_instance) ?_
      decide +kernel⟩),
   (⟨pool.getD 9 .reset, 0, { rd := 2, val := { v := (0x4e : BitVec 64), t := Tag.int }, slotDone := true, ready := false, slotWins := false }, [], by
      decide +kernel⟩),
   (⟨pool.getD 6 .reset, 0, { rd := 3, val := { v := (0x4d : BitVec 64), t := Tag.int }, slotDone := false, ready := false, slotWins := false }, [], by
      decide +kernel⟩)⟩

theorem test_ControlFlow_witness :
    (∃ (s : State) (n : Fin 16) (rs1 : Fin 32) (rs2 : Fin 32), CanIssue s.chip n ∧ (branchMenu[0]).2.1 ((s.chip.core n).reg rs1).t ((s.chip.core n).reg rs2).t = true ∧ (branchMenu[0]).2.2 ((s.chip.core n).reg rs1).v ((s.chip.core n).reg rs2).v = false) ∧
    (∃ (s : State) (n : Fin 16) (rs1 : Fin 32) (rs2 : Fin 32) (off : BitVec 12), CanIssue s.chip n ∧ (branchMenu[0]).2.1 ((s.chip.core n).reg rs1).t ((s.chip.core n).reg rs2).t = true ∧ (branchMenu[0]).2.2 ((s.chip.core n).reg rs1).v ((s.chip.core n).reg rs2).v = true ∧ CanGo n ((s.chip.core n).pc + off.signExtend 64 * 4)) ∧
    (∃ (s : State) (n : Fin 16) (rs1 : Fin 32) (rs2 : Fin 32) (off : BitVec 12), CanIssue s.chip n ∧ (branchMenu[0]).2.1 ((s.chip.core n).reg rs1).t ((s.chip.core n).reg rs2).t = true ∧ (branchMenu[0]).2.2 ((s.chip.core n).reg rs1).v ((s.chip.core n).reg rs2).v = true ∧ ¬ CanGo n ((s.chip.core n).pc + off.signExtend 64 * 4) ∧ (s.chip.core n).intrap = false) ∧
    (∃ (s : State) (n : Fin 16) (off : BitVec 25), CanIssue s.chip n ∧ CanGo n ((s.chip.core n).pc + off.signExtend 64 * 4)) ∧
    (∃ (s : State) (n : Fin 16) (rs1 : Fin 32), CanIssue s.chip n ∧ ((s.chip.core n).reg rs1).t = .ptr ∧ CanGo n ((s.chip.core n).reg rs1).v) ∧
    (∃ (s : State) (n : Fin 16) (rs1 : Fin 32), CanIssue s.chip n ∧ ((s.chip.core n).reg rs1).t = .ptr ∧ ¬ CanGo n ((s.chip.core n).reg rs1).v ∧ (s.chip.core n).intrap = false) ∧
    (∃ (s : State) (n : Fin 16) (off : BitVec 25) (t : Word), CanIssue s.chip n ∧ CanGo n t ∧ t = (s.chip.core n).pc + off.signExtend 64 * 4 ∧ (s.chip.core n).rsmode = 2) ∧
    (∃ (s : State) (n : Fin 16) (off : BitVec 25) (t : Word), CanIssue s.chip n ∧ CanGo n t ∧ t = (s.chip.core n).pc + off.signExtend 64 * 4 ∧ ((s.chip.core n).rsmode = 0 ∨ (s.chip.core n).rsmode = 1 ∧ (s.chip.core n).rsDepth < 16)) ∧
    (∃ (s : State) (n : Fin 16) (off : BitVec 25) (t : Word), CanIssue s.chip n ∧ CanGo n t ∧ t = (s.chip.core n).pc + off.signExtend 64 * 4 ∧ (s.chip.core n).rsmode = 1 ∧ 16 ≤ (s.chip.core n).rsDepth ∧ (s.chip.core n).intrap = false) ∧
    (∃ (s : State) (n : Fin 16) (off : BitVec 25), CanIssue s.chip n ∧ ¬ CanGo n ((s.chip.core n).pc + off.signExtend 64 * 4) ∧ (s.chip.core n).intrap = false ∧ (s.chip.core n).rsmode ≠ 1) ∧
    (∃ (s : State) (n : Fin 16), CanIssue s.chip n ∧ (s.chip.core n).rsmode = 2 ∧ ((s.chip.core n).reg 31).t = .ptr ∧ CanGo n ((s.chip.core n).reg 31).v) ∧
    (∃ (s : State) (n : Fin 16) (t : _), CanIssue s.chip n ∧ ((s.chip.core n).rsmode = 0 ∨ (s.chip.core n).rsmode = 1 ∧ 0 < (s.chip.core n).rsDepth) ∧ tget (s.chip.core n).rs (((s.chip.core n).rsPtr + 15) % 16) = some t ∧ CanGo n t) ∧
    (∃ (s : State) (n : Fin 16), CanIssue s.chip n ∧ (s.chip.core n).rsmode = 1 ∧ (s.chip.core n).rsDepth = 0 ∧ (s.chip.core n).intrap = false) :=
  ⟨(⟨pool.getD 0 .reset, 0, 0, 1, by
      unfold CanIssue
      refine @of_decide_eq_true _ (by haveI := @decAllSome; haveI := @decExSome; haveI := @decOk; haveI := @decErr; infer_instance) ?_
      decide +kernel⟩),
   (⟨pool.getD 0 .reset, 0, 0, 0, (0x0 : BitVec 12), by
      unfold CanIssue CanGo
      refine @of_decide_eq_true _ (by haveI := @decAllSome; haveI := @decExSome; haveI := @decOk; haveI := @decErr; infer_instance) ?_
      decide +kernel⟩),
   (⟨pool.getD 0 .reset, 0, 0, 0, (0x800 : BitVec 12), by
      unfold CanIssue CanGo
      refine @of_decide_eq_true _ (by haveI := @decAllSome; haveI := @decExSome; haveI := @decOk; haveI := @decErr; infer_instance) ?_
      decide +kernel⟩),
   (⟨pool.getD 0 .reset, 0, (0x0 : BitVec 25), by
      unfold CanIssue CanGo
      refine @of_decide_eq_true _ (by haveI := @decAllSome; haveI := @decExSome; haveI := @decOk; haveI := @decErr; infer_instance) ?_
      decide +kernel⟩),
   (⟨pool.getD 0 .reset, 0, 3, by
      unfold CanIssue CanGo
      refine @of_decide_eq_true _ (by haveI := @decAllSome; haveI := @decExSome; haveI := @decOk; haveI := @decErr; infer_instance) ?_
      decide +kernel⟩),
   (⟨pool.getD 0 .reset, 15, 3, by
      unfold CanIssue CanGo
      refine @of_decide_eq_true _ (by haveI := @decAllSome; haveI := @decExSome; haveI := @decOk; haveI := @decErr; infer_instance) ?_
      decide +kernel⟩),
   (⟨pool.getD 64 .reset, 0, (0x0 : BitVec 25), (0x104000100 : BitVec 64), by
      unfold CanIssue CanGo
      refine @of_decide_eq_true _ (by haveI := @decAllSome; haveI := @decExSome; haveI := @decOk; haveI := @decErr; infer_instance) ?_
      decide +kernel⟩),
   (⟨pool.getD 0 .reset, 0, (0x0 : BitVec 25), (0x104000100 : BitVec 64), by
      unfold CanIssue CanGo
      refine @of_decide_eq_true _ (by haveI := @decAllSome; haveI := @decExSome; haveI := @decOk; haveI := @decErr; infer_instance) ?_
      decide +kernel⟩),
   (⟨pool.getD 62 .reset, 0, (0x0 : BitVec 25), (0x104000100 : BitVec 64), by
      unfold CanIssue CanGo
      refine @of_decide_eq_true _ (by haveI := @decAllSome; haveI := @decExSome; haveI := @decOk; haveI := @decErr; infer_instance) ?_
      decide +kernel⟩),
   (⟨pool.getD 48 .reset, 0, (0x1000000 : BitVec 25), by
      unfold CanIssue CanGo
      refine @of_decide_eq_true _ (by haveI := @decAllSome; haveI := @decExSome; haveI := @decOk; haveI := @decErr; infer_instance) ?_
      decide +kernel⟩),
   (⟨pool.getD 64 .reset, 0, by
      unfold CanIssue CanGo
      refine @of_decide_eq_true _ (by haveI := @decAllSome; haveI := @decExSome; haveI := @decOk; haveI := @decErr; infer_instance) ?_
      decide +kernel⟩),
   (⟨pool.getD 48 .reset, 0, (0x104000400 : BitVec 64), by
      unfold CanIssue CanGo
      refine @of_decide_eq_true _ (by haveI := @decAllSome; haveI := @decExSome; haveI := @decOk; haveI := @decErr; infer_instance) ?_
      decide +kernel⟩),
   (⟨pool.getD 0 .reset, 0, by
      unfold CanIssue
      refine @of_decide_eq_true _ (by haveI := @decAllSome; haveI := @decExSome; haveI := @decOk; haveI := @decErr; infer_instance) ?_
      decide +kernel⟩)⟩

theorem test_FloatingPoint_witness :
    (∃ (s : State) (n : Fin 16) (rs1 : Fin 32) (rs2 : Fin 32), CanIssue s.chip n ∧ ((s.chip.core n).reg rs1).t = (fpMenu[0]).2.1 ∧ ((s.chip.core n).reg rs2).t = (fpMenu[0]).2.1) ∧
    (∃ (s : State) (n : Fin 16) (rs1 : Fin 32), CanIssue s.chip n ∧ ((s.chip.core n).reg rs1).t = (fp1Menu[0]).2.1) ∧
    (∃ (s : State) (n : Fin 16) (rs1 : Fin 32) (rs2 : Fin 32), CanIssue s.chip n ∧ ((s.chip.core n).reg rs1).t = .f64 ∧ ((s.chip.core n).reg rs2).t = .f64) ∧
    (∃ (s : State) (n : Fin 16) (rs1 : Fin 32) (rs2 : Fin 32), CanIssue s.chip n ∧ ((s.chip.core n).reg rs1).t = (fpCmpMenu[0]).2.1 ∧ ((s.chip.core n).reg rs2).t = (fpCmpMenu[0]).2.1) ∧
    (∃ (x : Word), decodeFloat fmtF64 x.toNat = .nan) :=
  ⟨(⟨pool.getD 2 .reset, 0, 1, 1, by
      unfold CanIssue
      refine @of_decide_eq_true _ (by haveI := @decAllSome; haveI := @decExSome; haveI := @decOk; haveI := @decErr; infer_instance) ?_
      decide +kernel⟩),
   (⟨pool.getD 2 .reset, 0, 1, by
      unfold CanIssue
      refine @of_decide_eq_true _ (by haveI := @decAllSome; haveI := @decExSome; haveI := @decOk; haveI := @decErr; infer_instance) ?_
      decide +kernel⟩),
   (⟨pool.getD 2 .reset, 0, 1, 1, by
      unfold CanIssue
      refine @of_decide_eq_true _ (by haveI := @decAllSome; haveI := @decExSome; haveI := @decOk; haveI := @decErr; infer_instance) ?_
      decide +kernel⟩),
   (⟨pool.getD 2 .reset, 0, 1, 1, by
      unfold CanIssue
      refine @of_decide_eq_true _ (by haveI := @decAllSome; haveI := @decExSome; haveI := @decOk; haveI := @decErr; infer_instance) ?_
      decide +kernel⟩),
   (⟨(0x7ff0000000000001 : BitVec 64), by
      decide +kernel⟩)⟩

theorem test_TagsAndAccumulators_witness :
    (∃ (s : State) (n : Fin 16) (rs1 : Fin 32), CanIssue s.chip n ∧ ((s.chip.core n).reg rs1).t ≠ .nul) ∧
    (∃ (s : State) (n : Fin 16) (rs1 : Fin 32) (k : Fin 32) (t : Tag), CanIssue s.chip n ∧ ((s.chip.core n).reg rs1).t ≠ .nul ∧ Tag.ofCode k = some t ∧ retagForges ((s.chip.core n).reg rs1).t t = false ∧ retagOk ((s.chip.core n).reg rs1).t t = true) ∧
    (∃ (s : State) (n : Fin 16) (rs1 : Fin 32) (k : Fin 32) (t : Tag), CanIssue s.chip n ∧ ((s.chip.core n).reg rs1).t ≠ .nul ∧ Tag.ofCode k = some t ∧ (s.chip.core n).intrap = false ∧ (t = .desc ∨ t = .seq ∨ t = .keyh ∨ ((s.chip.core n).reg rs1).t = .keyh)) ∧
    (∃ (s : State) (n : Fin 16) (rs1 : Fin 32) (k : Fin 32) (t : Tag), CanIssue s.chip n ∧ ((s.chip.core n).reg rs1).t ≠ .nul ∧ Tag.ofCode k = some t ∧ (s.chip.core n).intrap = false ∧ retagForges ((s.chip.core n).reg rs1).t t = false ∧ retagOk ((s.chip.core n).reg rs1).t t = false) ∧
    (∃ (s : State) (n : Fin 16) (a : Fin 4) (rs1 : Fin 32), CanIssue s.chip n ∧ (∀ m ∈ (s.chip.core n).macds, m.acc ≠ a) ∧ (((s.chip.core n).reg rs1).t = .int ∨ ((s.chip.core n).reg rs1).t = .f64)) ∧
    (∃ (s : State) (n : Fin 16) (a : Fin 4), CanIssue s.chip n ∧ (∃ m ∈ (s.chip.core n).macds, m.acc = a)) ∧
    (∃ (s : State) (n : Fin 16) (mode : Fin 4) (rs1 : Fin 32) (rs2 : Fin 32), CanIssue s.chip n ∧ mode.val < 3 ∧ rs1 ≠ 0 ∧ rs2 ≠ 0 ∧ (s.chip.core n).macds.length ≥ 4) ∧
    (∃ (s : State) (n : Fin 16) (mode : Fin 4) (rs1 : Fin 32) (rs2 : Fin 32), CanIssue s.chip n ∧ mode.val < 3 ∧ rs1 ≠ 0 ∧ rs2 ≠ 0 ∧ (s.chip.core n).macds.length < 4 ∧ ((s.chip.core n).reg rs1).t = .ptr ∧ ((s.chip.core n).reg rs2).t = .ptr ∧ (∀ r ∈ [rs1, rs2], CanLoad s.chip n ((s.chip.core n).reg r).v.toNat 8 ∧ isPaged ((s.chip.core n).reg r).v.toNat = false)) ∧
    (∃ (s : State) (n : Fin 16) (mode : Fin 4) (rs1 : Fin 32) (rs2 : Fin 32), CanIssue s.chip n ∧ (s.chip.core n).intrap = false ∧ (mode = 3 ∨ rs1 = 0 ∨ rs2 = 0)) ∧
    (∃ (s : State) (n : Fin 16) (m : Macd) (ms : List Macd), (s.chip.core n).macds = m :: ms ∧ m.bad = none) ∧
    (∃ (s : State) (n : Fin 16) (m : Macd) (ms : List Macd) (code : Nat) (a : Word), (s.chip.core n).macds = m :: ms ∧ m.bad = some (code, a) ∧ s.chip.coreRuns n = true ∧ s.chip.tracing n = false ∧ (s.chip.core n).intrap = false ∧ (s.chip.core n).loads = []) :=
  ⟨(⟨pool.getD 0 .reset, 0, 0, by
      unfold CanIssue
      refine @of_decide_eq_true _ (by haveI := @decAllSome; haveI := @decExSome; haveI := @decOk; haveI := @decErr; infer_instance) ?_
      decide +kernel⟩),
   (⟨pool.getD 0 .reset, 0, 0, 1, Tag.int, by
      unfold CanIssue
      refine @of_decide_eq_true _ (by haveI := @decAllSome; haveI := @decExSome; haveI := @decOk; haveI := @decErr; infer_instance) ?_
      decide +kernel⟩),
   (⟨pool.getD 0 .reset, 0, 0, 5, Tag.desc, by
      unfold CanIssue
      refine @of_decide_eq_true _ (by haveI := @decAllSome; haveI := @decExSome; haveI := @decOk; haveI := @decErr; infer_instance) ?_
      decide +kernel⟩),
   (⟨pool.getD 0 .reset, 0, 0, 0, Tag.nul, by
      unfold CanIssue
      refine @of_decide_eq_true _ (by haveI := @decAllSome; haveI := @decExSome; haveI := @decOk; haveI := @decErr; infer_instance) ?_
      decide +kernel⟩),
   (⟨pool.getD 0 .reset, 0, 0, 0, by
      unfold CanIssue
      refine @of_decide_eq_true _ (by haveI := @decAllSome; haveI := @decExSome; haveI := @decOk; haveI := @decErr; infer_instance) ?_
      decide +kernel⟩),
   (⟨pool.getD 87 .reset, 0, 0, by
      unfold CanIssue
      refine @of_decide_eq_true _ (by haveI := @decAllSome; haveI := @decExSome; haveI := @decOk; haveI := @decErr; infer_instance) ?_
      decide +kernel⟩),
   (⟨pool.getD 88 .reset, 0, 0, 1, 1, by
      unfold CanIssue
      refine @of_decide_eq_true _ (by haveI := @decAllSome; haveI := @decExSome; haveI := @decOk; haveI := @decErr; infer_instance) ?_
      decide +kernel⟩),
   (⟨pool.getD 0 .reset, 0, 0, 3, 3, by
      unfold CanIssue CanLoad
      refine @of_decide_eq_true _ (by haveI := @decAllSome; haveI := @decExSome; haveI := @decOk; haveI := @decErr; infer_instance) ?_
      decide +kernel⟩),
   (⟨pool.getD 0 .reset, 0, 0, 0, 0, by
      unfold CanIssue
      refine @of_decide_eq_true _ (by haveI := @decAllSome; haveI := @decExSome; haveI := @decOk; haveI := @decErr; infer_instance) ?_
      decide +kernel⟩),
   (⟨pool.getD 87 .reset, 0, { acc := 0, mode := 0, x := (0x3ff8000000000000 : BitVec 64), y := (0xc000000000000001 : BitVec 64), bad := none }, [{ acc := 2, mode := 1, x := (0x3ff8000000000000 : BitVec 64), y := (0xc000000000000001 : BitVec 64), bad := none }], by
      decide +kernel⟩),
   (⟨pool.getD 90 .reset, 0, { acc := 0, mode := 0, x := (0x3ff8000000000000 : BitVec 64), y := (0xc000000000000001 : BitVec 64), bad := some (6, (0x1234 : BitVec 64)) }, [{ acc := 1, mode := 1, x := (0x3ff8000000000000 : BitVec 64), y := (0xc000000000000001 : BitVec 64), bad := none }], 6, (0x1234 : BitVec 64), by
      decide +kernel⟩)⟩

theorem test_WorkAndLedgerInstructions_witness :
    (∃ (s : State) (n : Fin 16) (rs1 : Fin 32) (rs2 : Fin 32) (h : Nat), CanIssue s.chip n ∧ ((s.chip.core n).reg rs1).t = .ptr ∧ CanLoad s.chip n ((s.chip.core n).reg rs1).v.toNat 64 ∧ isPaged ((s.chip.core n).reg rs1).v.toNat = false ∧ firstFree (s.chip.core n).handles 256 = some h ∧ ((s.chip.core n).reg rs2).t = .int ∧ ((s.chip.core n).reg rs2).v.toNat < 2 ^ 9) ∧
    (∃ (s : State) (n : Fin 16) (rs1 : Fin 32) (rs2 : Fin 32) (h : Nat), CanIssue s.chip n ∧ ((s.chip.core n).reg rs1).t = .ptr ∧ CanLoad s.chip n ((s.chip.core n).reg rs1).v.toNat 64 ∧ isPaged ((s.chip.core n).reg rs1).v.toNat = false ∧ firstFree (s.chip.core n).handles 256 = some h ∧ ((s.chip.core n).reg rs2).t = .keyh) ∧
    (∃ (s : State) (n : Fin 16) (rs1 : Fin 32) (h : Handle) (q : _), CanIssue s.chip n ∧ ((s.chip.core n).reg rs1).t = .desc ∧ tget (s.chip.core n).handles (((s.chip.core n).reg rs1).v.toNat % 256) = some h ∧ ((s.chip.core n).reg rs1).v = BitVec.ofNat 64 (((s.chip.core n).reg rs1).v.toNat % 256 + (s.chip.core n).gen (((s.chip.core n).reg rs1).v.toNat % 256) % 2 ^ 24 * 2 ^ 8) ∧ h.seq = some q) ∧
    (∃ (s : State) (n : Fin 16) (rs1 : Fin 32) (h : Handle), CanIssue s.chip n ∧ ((s.chip.core n).reg rs1).t = .desc ∧ tget (s.chip.core n).handles (((s.chip.core n).reg rs1).v.toNat % 256) = some h ∧ ((s.chip.core n).reg rs1).v = BitVec.ofNat 64 (((s.chip.core n).reg rs1).v.toNat % 256 + (s.chip.core n).gen (((s.chip.core n).reg rs1).v.toNat % 256) % 2 ^ 24 * 2 ^ 8) ∧ h.seq = none) ∧
    (∃ (s : State) (n : Fin 16) (rs1 : Fin 32) (h : Handle) (ws : _), CanIssue s.chip n ∧ ((s.chip.core n).reg rs1).t = .desc ∧ tget (s.chip.core n).handles (((s.chip.core n).reg rs1).v.toNat % 256) = some h ∧ ((s.chip.core n).reg rs1).v = BitVec.ofNat 64 (((s.chip.core n).reg rs1).v.toNat % 256 + (s.chip.core n).gen (((s.chip.core n).reg rs1).v.toNat % 256) % 2 ^ 24 * 2 ^ 8) ∧ h.reply = some ws) ∧
    (∃ (s : State) (n : Fin 16) (rs1 : Fin 32) (h : Handle), CanIssue s.chip n ∧ ((s.chip.core n).reg rs1).t = .desc ∧ tget (s.chip.core n).handles (((s.chip.core n).reg rs1).v.toNat % 256) = some h ∧ ((s.chip.core n).reg rs1).v = BitVec.ofNat 64 (((s.chip.core n).reg rs1).v.toNat % 256 + (s.chip.core n).gen (((s.chip.core n).reg rs1).v.toNat % 256) % 2 ^ 24 * 2 ^ 8) ∧ h.reply = none) ∧
    (∃ (s : State) (n : Fin 16) (rs1 : Fin 32) (h : Handle) (ws : List Word) (rs2 : Fin 32), CanIssue s.chip n ∧ ((s.chip.core n).reg rs1).t = .desc ∧ tget (s.chip.core n).handles (((s.chip.core n).reg rs1).v.toNat % 256) = some h ∧ ((s.chip.core n).reg rs1).v = BitVec.ofNat 64 (((s.chip.core n).reg rs1).v.toNat % 256 + (s.chip.core n).gen (((s.chip.core n).reg rs1).v.toNat % 256) % 2 ^ 24 * 2 ^ 8) ∧ h.reply = some ws ∧ ws.length = 4 ∧ rs2 ≠ 0 ∧ ((s.chip.core n).reg rs2).t = .ptr ∧ CanStore s.chip n ((s.chip.core n).reg rs2).v.toNat 32) ∧
    (∃ (s : State) (n : Fin 16) (rs1 : Fin 32) (h : Handle), CanIssue s.chip n ∧ ((s.chip.core n).reg rs1).t = .desc ∧ tget (s.chip.core n).handles (((s.chip.core n).reg rs1).v.toNat % 256) = some h ∧ ((s.chip.core n).reg rs1).v = BitVec.ofNat 64 (((s.chip.core n).reg rs1).v.toNat % 256 + (s.chip.core n).gen (((s.chip.core n).reg rs1).v.toNat % 256) % 2 ^ 24 * 2 ^ 8) ∧ s.chip.handleDone h = true) ∧
    (∃ (s : State) (n : Fin 16) (rs1 : Fin 32) (h : Handle), CanIssue s.chip n ∧ ((s.chip.core n).reg rs1).t = .desc ∧ tget (s.chip.core n).handles (((s.chip.core n).reg rs1).v.toNat % 256) = some h ∧ ((s.chip.core n).reg rs1).v = BitVec.ofNat 64 (((s.chip.core n).reg rs1).v.toNat % 256 + (s.chip.core n).gen (((s.chip.core n).reg rs1).v.toNat % 256) % 2 ^ 24 * 2 ^ 8) ∧ s.chip.handleDone h = false ∧ (s.chip.core n).intrap = false) ∧
    (∃ (s : State) (n : Fin 16) (rs1 : Fin 32), CanIssue s.chip n ∧ ((s.chip.core n).reg rs1).t = .int ∧ s.chip.mayOpen n (keyOfValue ((s.chip.core n).reg rs1).v.toNat) = true) ∧
    (∃ (s : State) (n : Fin 16) (rs1 : Fin 32), CanIssue s.chip n ∧ ((s.chip.core n).reg rs1).t = .int ∧ s.chip.mayOpen n (keyOfValue ((s.chip.core n).reg rs1).v.toNat) = false ∧ (s.chip.core n).intrap = false) ∧
    (∃ (s : State) (n : Fin 16) (rs1 : Fin 32) (rs2 : Fin 32), CanIssue s.chip n ∧ ((s.chip.core n).reg rs1).t = .ptr ∧ ((s.chip.core n).reg rs2).t = .int ∧ CanLoad s.chip n ((s.chip.core n).reg rs1).v.toNat 64 ∧ isPaged ((s.chip.core n).reg rs1).v.toNat = false ∧ s.chip.admits (s.chip.originDomain (.core n 256)) = true ∧ s.chip.heldBy n < 4096 ∧ (s.chip.core n).loads = []) ∧
    (∃ (s : State) (n : Fin 16) (rs1 : Fin 32) (i : Item), CanIssue s.chip n ∧ ((s.chip.core n).reg rs1).t = .seq ∧ i.seq = ((s.chip.core n).reg rs1).v.toNat ∧ tget (s.chip.core n).laccs i.seq = some 0 ∧ s.chip.item i.seq = some i ∧ i.state.ended = false ∧ i.kind = .armature n ∧ predsEnded s.chip.led.items i = true ∧ s.chip.commits = true) ∧
    (∃ (s : State) (n : Fin 16) (rs1 : Fin 32) (i : Item) (rs2 : Fin 32), CanIssue s.chip n ∧ ((s.chip.core n).reg rs1).t = .seq ∧ i.seq = ((s.chip.core n).reg rs1).v.toNat ∧ tget (s.chip.core n).laccs i.seq = some 0 ∧ s.chip.item i.seq = some i ∧ i.state.ended = false ∧ i.kind = .armature n ∧ rs2 ≠ 0 ∧ ((s.chip.core n).reg rs2).t = .ptr ∧ CanLoad s.chip n ((s.chip.core n).reg rs2).v.toNat 64 ∧ isPaged ((s.chip.core n).reg rs2).v.toNat = false ∧ predsEnded s.chip.led.items i = true ∧ s.chip.commits = true) ∧
    (∃ (s : State) (n : Fin 16) (rs1 : Fin 32) (i : Item), CanIssue s.chip n ∧ ((s.chip.core n).reg rs1).t = .seq ∧ i.seq = ((s.chip.core n).reg rs1).v.toNat ∧ tget (s.chip.core n).laccs i.seq = some 0 ∧ s.chip.item i.seq = some i ∧ i.state.ended = false ∧ i.kind = .armature n ∧ predsEnded s.chip.led.items i = false) ∧
    (∃ (s : State) (n : Fin 16) (rs1 : Fin 32) (i : Item), CanIssue s.chip n ∧ ((s.chip.core n).reg rs1).t = .seq ∧ i.seq = ((s.chip.core n).reg rs1).v.toNat ∧ tget (s.chip.core n).laccs i.seq = some 0 ∧ s.chip.item i.seq = some i ∧ i.state.ended = false ∧ i.kind = .armature n ∧ s.chip.led.lost = false ∧ i.crec ≠ .taken) ∧
    (∃ (s : State) (n : Fin 16) (rs1 : Fin 32) (i : Item), CanIssue s.chip n ∧ ((s.chip.core n).reg rs1).t = .seq ∧ i.seq = ((s.chip.core n).reg rs1).v.toNat ∧ tget (s.chip.core n).laccs i.seq = some 0 ∧ s.chip.item i.seq = some i ∧ i.state.ended = false ∧ i.kind = .armature n ∧ i.crec = .taken) :=
  ⟨(⟨pool.getD 0 .reset, 0, 3, 0, 0, by
      unfold CanIssue CanLoad
      refine @of_decide_eq_true _ (by haveI := @decAllSome; haveI := @decExSome; haveI := @decOk; haveI := @decErr; infer_instance) ?_
      decide +kernel⟩),
   (⟨pool.getD 105 .reset, 0, 1, 4, 2, by
      unfold CanIssue CanLoad
      refine @of_decide_eq_true _ (by haveI := @decAllSome; haveI := @decExSome; haveI := @decOk; haveI := @decErr; infer_instance) ?_
      decide +kernel⟩),
   (⟨pool.getD 103 .reset, 0, 1, { desc := { w0 := (0x1 : BitVec 64), w1 := (0x0 : BitVec 64), w2 := (0x0 : BitVec 64), w3 := (0x0 : BitVec 64), w4 := (0x0 : BitVec 64), w5 := (0x0 : BitVec 64), w6 := (0x0 : BitVec 64), w7 := (0x0 : BitVec 64) }, target := 256, plan := 3, key := none, cipher := false, seq := some 9, reply := some [(0xb : BitVec 64), (0xc : BitVec 64), (0xd : BitVec 64), (0xe : BitVec 64)] }, 9, by
      unfold CanIssue
      refine @of_decide_eq_true _ (by haveI := @decAllSome; haveI := @decExSome; haveI := @decOk; haveI := @decErr; infer_instance) ?_
      decide +kernel⟩),
   (⟨pool.getD 103 .reset, 0, 3, { desc := { w0 := (0x1 : BitVec 64), w1 := (0x0 : BitVec 64), w2 := (0x0 : BitVec 64), w3 := (0x0 : BitVec 64), w4 := (0x0 : BitVec 64), w5 := (0x0 : BitVec 64), w6 := (0x0 : BitVec 64), w7 := (0x0 : BitVec 64) }, target := 256, plan := 3, key := none, cipher := false, seq := none, reply := none }, by
      unfold CanIssue
      refine @of_decide_eq_true _ (by haveI := @decAllSome; haveI := @decExSome; haveI := @decOk; haveI := @decErr; infer_instance) ?_
      decide +kernel⟩),
   (⟨pool.getD 103 .reset, 0, 1, { desc := { w0 := (0x1 : BitVec 64), w1 := (0x0 : BitVec 64), w2 := (0x0 : BitVec 64), w3 := (0x0 : BitVec 64), w4 := (0x0 : BitVec 64), w5 := (0x0 : BitVec 64), w6 := (0x0 : BitVec 64), w7 := (0x0 : BitVec 64) }, target := 256, plan := 3, key := none, cipher := false, seq := some 9, reply := some [(0xb : BitVec 64), (0xc : BitVec 64), (0xd : BitVec 64), (0xe : BitVec 64)] }, [(0xb : BitVec 64), (0xc : BitVec 64), (0xd : BitVec 64), (0xe : BitVec 64)], by
      unfold CanIssue
      refine @of_decide_eq_true _ (by haveI := @decAllSome; haveI := @decExSome; haveI := @decOk; haveI := @decErr; infer_instance) ?_
      decide +kernel⟩),
   (⟨pool.getD 103 .reset, 0, 3, { desc := { w0 := (0x1 : BitVec 64), w1 := (0x0 : BitVec 64), w2 := (0x0 : BitVec 64), w3 := (0x0 : BitVec 64), w4 := (0x0 : BitVec 64), w5 := (0x0 : BitVec 64), w6 := (0x0 : BitVec 64), w7 := (0x0 : BitVec 64) }, target := 256, plan := 3, key := none, cipher := false, seq := none, reply := none }, by
      unfold CanIssue
      refine @of_decide_eq_true _ (by haveI := @decAllSome; haveI := @decExSome; haveI := @decOk; haveI := @decErr; infer_instance) ?_
      decide +kernel⟩),
   (⟨pool.getD 103 .reset, 0, 1, { desc := { w0 := (0x1 : BitVec 64), w1 := (0x0 : BitVec 64), w2 := (0x0 : BitVec 64), w3 := (0x0 : BitVec 64), w4 := (0x0 : BitVec 64), w5 := (0x0 : BitVec 64), w6 := (0x0 : BitVec 64), w7 := (0x0 : BitVec 64) }, target := 256, plan := 3, key := none, cipher := false, seq := some 9, reply := some [(0xb : BitVec 64), (0xc : BitVec 64), (0xd : BitVec 64), (0xe : BitVec 64)] }, [(0xb : BitVec 64), (0xc : BitVec 64), (0xd : BitVec 64), (0xe : BitVec 64)], 4, by
      unfold CanIssue CanStore
      refine @of_decide_eq_true _ (by haveI := @decAllSome; haveI := @decExSome; haveI := @decOk; haveI := @decErr; infer_instance) ?_
      decide +kernel⟩),
   (⟨pool.getD 103 .reset, 0, 1, { desc := { w0 := (0x1 : BitVec 64), w1 := (0x0 : BitVec 64), w2 := (0x0 : BitVec 64), w3 := (0x0 : BitVec 64), w4 := (0x0 : BitVec 64), w5 := (0x0 : BitVec 64), w6 := (0x0 : BitVec 64), w7 := (0x0 : BitVec 64) }, target := 256, plan := 3, key := none, cipher := false, seq := some 9, reply := some [(0xb : BitVec 64), (0xc : BitVec 64), (0xd : BitVec 64), (0xe : BitVec 64)] }, by
      unfold CanIssue
      refine @of_decide_eq_true _ (by haveI := @decAllSome; haveI := @decExSome; haveI := @decOk; haveI := @decErr; infer_instance) ?_
      decide +kernel⟩),
   (⟨pool.getD 103 .reset, 0, 3, { desc := { w0 := (0x1 : BitVec 64), w1 := (0x0 : BitVec 64), w2 := (0x0 : BitVec 64), w3 := (0x0 : BitVec 64), w4 := (0x0 : BitVec 64), w5 := (0x0 : BitVec 64), w6 := (0x0 : BitVec 64), w7 := (0x0 : BitVec 64) }, target := 256, plan := 3, key := none, cipher := false, seq := none, reply := none }, by
      unfold CanIssue
      refine @of_decide_eq_true _ (by haveI := @decAllSome; haveI := @decExSome; haveI := @decOk; haveI := @decErr; infer_instance) ?_
      decide +kernel⟩),
   (⟨pool.getD 111 .reset, 0, 31, by
      unfold CanIssue
      refine @of_decide_eq_true _ (by haveI := @decAllSome; haveI := @decExSome; haveI := @decOk; haveI := @decErr; infer_instance) ?_
      decide +kernel⟩),
   (⟨pool.getD 0 .reset, 0, 0, by
      unfold CanIssue
      refine @of_decide_eq_true _ (by haveI := @decAllSome; haveI := @decExSome; haveI := @decOk; haveI := @decErr; infer_instance) ?_
      decide +kernel⟩),
   (⟨pool.getD 0 .reset, 0, 3, 0, by
      unfold CanIssue CanLoad
      refine @of_decide_eq_true _ (by haveI := @decAllSome; haveI := @decExSome; haveI := @decOk; haveI := @decErr; infer_instance) ?_
      decide +kernel⟩),
   (⟨pool.getD 103 .reset, 0, 7, { seq := 5, slot := 5, state := ItemState.running, domain := Domain.core 1, tag := 9, owner := 64, replied := false, redo := false, replayed := false, plan := 0, acceptTick := 0, endTick := 0, origin := Origin.core 1 7, fn := 257, kind := ItemKind.armature 0, body := { w0 := (0x0 : BitVec 64), w1 := (0x0 : BitVec 64), w2 := (0x0 : BitVec 64), w3 := (0x0 : BitVec 64), w4 := (0x0 : BitVec 64), w5 := (0x0 : BitVec 64), w6 := (0x0 : BitVec 64), w7 := (0x0 : BitVec 64) }, crec := CommitRec.none, fin := none, redoRec := none, carried := false, single := false, reply := { code := 0, lo := 0, hi := 0 } }, by
      unfold CanIssue
      refine @of_decide_eq_true _ (by haveI := @decAllSome; haveI := @decExSome; haveI := @decOk; haveI := @decErr; infer_instance) ?_
      decide +kernel⟩),
   (⟨pool.getD 103 .reset, 0, 7, { seq := 5, slot := 5, state := ItemState.running, domain := Domain.core 1, tag := 9, owner := 64, replied := false, redo := false, replayed := false, plan := 0, acceptTick := 0, endTick := 0, origin := Origin.core 1 7, fn := 257, kind := ItemKind.armature 0, body := { w0 := (0x0 : BitVec 64), w1 := (0x0 : BitVec 64), w2 := (0x0 : BitVec 64), w3 := (0x0 : BitVec 64), w4 := (0x0 : BitVec 64), w5 := (0x0 : BitVec 64), w6 := (0x0 : BitVec 64), w7 := (0x0 : BitVec 64) }, crec := CommitRec.none, fin := none, redoRec := none, carried := false, single := false, reply := { code := 0, lo := 0, hi := 0 } }, 4, by
      unfold CanIssue CanLoad
      refine @of_decide_eq_true _ (by haveI := @decAllSome; haveI := @decExSome; haveI := @decOk; haveI := @decErr; infer_instance) ?_
      decide +kernel⟩),
   (⟨pool.getD 105 .reset, 15, 7, { seq := 7, slot := 7, state := ItemState.running, domain := Domain.core 1, tag := 9, owner := 64, replied := false, redo := false, replayed := false, plan := 0, acceptTick := 0, endTick := 0, origin := Origin.core 1 7, fn := 257, kind := ItemKind.armature 15, body := { w0 := (0x0 : BitVec 64), w1 := (0x0 : BitVec 64), w2 := (0x0 : BitVec 64), w3 := (0x0 : BitVec 64), w4 := (0x0 : BitVec 64), w5 := (0x0 : BitVec 64), w6 := (0x0 : BitVec 64), w7 := (0x0 : BitVec 64) }, crec := CommitRec.none, fin := none, redoRec := none, carried := false, single := false, reply := { code := 0, lo := 0, hi := 0 } }, by
      unfold CanIssue
      refine @of_decide_eq_true _ (by haveI := @decAllSome; haveI := @decExSome; haveI := @decOk; haveI := @decErr; infer_instance) ?_
      decide +kernel⟩),
   (⟨pool.getD 103 .reset, 0, 7, { seq := 5, slot := 5, state := ItemState.running, domain := Domain.core 1, tag := 9, owner := 64, replied := false, redo := false, replayed := false, plan := 0, acceptTick := 0, endTick := 0, origin := Origin.core 1 7, fn := 257, kind := ItemKind.armature 0, body := { w0 := (0x0 : BitVec 64), w1 := (0x0 : BitVec 64), w2 := (0x0 : BitVec 64), w3 := (0x0 : BitVec 64), w4 := (0x0 : BitVec 64), w5 := (0x0 : BitVec 64), w6 := (0x0 : BitVec 64), w7 := (0x0 : BitVec 64) }, crec := CommitRec.none, fin := none, redoRec := none, carried := false, single := false, reply := { code := 0, lo := 0, hi := 0 } }, by
      unfold CanIssue
      refine @of_decide_eq_true _ (by haveI := @decAllSome; haveI := @decExSome; haveI := @decOk; haveI := @decErr; infer_instance) ?_
      decide +kernel⟩),
   (⟨pool.getD 109 .reset, 15, 6, { seq := 5, slot := 5, state := ItemState.running, domain := Domain.core 1, tag := 9, owner := 64, replied := false, redo := false, replayed := false, plan := 0, acceptTick := 0, endTick := 0, origin := Origin.core 1 7, fn := 257, kind := ItemKind.armature 15, body := { w0 := (0x0 : BitVec 64), w1 := (0x0 : BitVec 64), w2 := (0x0 : BitVec 64), w3 := (0x0 : BitVec 64), w4 := (0x0 : BitVec 64), w5 := (0x0 : BitVec 64), w6 := (0x0 : BitVec 64), w7 := (0x0 : BitVec 64) }, crec := CommitRec.taken, fin := none, redoRec := none, carried := false, single := false, reply := { code := 0, lo := 0, hi := 0 } }, by
      unfold CanIssue
      refine @of_decide_eq_true _ (by haveI := @decAllSome; haveI := @decExSome; haveI := @decOk; haveI := @decErr; infer_instance) ?_
      decide +kernel⟩)⟩

theorem test_SystemInstructions_witness :
    (∃ (s : State) (n : Fin 16) (k : Fin 4096) (x : _), CanIssue s.chip n ∧ s.chip.csrRead n k = some x) ∧
    (∃ (s : State) (n : Fin 16) (k : Fin 4096), CanIssue s.chip n ∧ s.chip.csrRead n k = none ∧ (s.chip.core n).intrap = false) ∧
    (∃ (s : State) (n : Fin 16) (rs1 : Fin 32) (k : Fin 4096) (old : TVal), CanIssue s.chip n ∧ s.chip.csrRead n k = some old ∧ csrWritable k = true ∧ ((s.chip.core n).reg rs1).t = .int) ∧
    (∃ (s : State) (n : Fin 16) (k : Fin 4096), CanIssue s.chip n ∧ csrWritable k = false ∧ (s.chip.core n).intrap = false) ∧
    (∃ (s : State) (n : Fin 16), CanIssue s.chip n ∧ (s.chip.core n).intrap = false) ∧
    (∃ (s : State) (n : Fin 16), CanIssue s.chip n ∧ (s.chip.core n).ldValid = false) ∧
    (∃ (s : State) (n : Fin 16) (t : Tag), CanIssue s.chip n ∧ (s.chip.core n).ldValid = true ∧ Tag.ofCode (s.chip.core n).ldTag = some t ∧ (s.chip.core n).loads = []) ∧
    (∃ (s : State) (n : Fin 16), CanIssue s.chip n ∧ (∃ l ∈ (s.chip.core n).loads, l.ready = false)) ∧
    (∃ (s : State) (n : Fin 16), CanIssue s.chip n ∧ (∀ l ∈ (s.chip.core n).loads, l.ready = true)) ∧
    (∃ (s : State) (n : Fin 16), CanIssue s.chip n ∧ (s.chip.core n).ipend &&& ((s.chip.core n).ien + 16) = 0) ∧
    (∃ (s : State) (n : Fin 16), CanIssue s.chip n ∧ (s.chip.core n).ipend &&& ((s.chip.core n).ien + 16) ≠ 0) ∧
    (∃ (s : State) (n : Fin 16) (b : Nat), s.chip.coreRuns n = true ∧ (s.chip.core n).loads = [] ∧ s.chip.tracing n = false ∧ (s.chip.core n).interrupt = some b ∧ (s.chip.core n).intrap = false) ∧
    (∃ (s : State) (n : Fin 16), (s.chip.core n).interrupt = none) :=
  ⟨(⟨pool.getD 0 .reset, 0, 0, { v := (0x0 : BitVec 64), t := Tag.int }, by
      unfold CanIssue
      refine @of_decide_eq_true _ (by haveI := @decAllSome; haveI := @decExSome; haveI := @decOk; haveI := @decErr; infer_instance) ?_
      decide +kernel⟩),
   (⟨pool.getD 0 .reset, 0, 11, by
      unfold CanIssue
      refine @of_decide_eq_true _ (by haveI := @decAllSome; haveI := @decExSome; haveI := @decOk; haveI := @decErr; infer_instance) ?_
      decide +kernel⟩),
   (⟨pool.getD 0 .reset, 0, 0, 0, { v := (0x0 : BitVec 64), t := Tag.int }, by
      unfold CanIssue
      refine @of_decide_eq_true _ (by haveI := @decAllSome; haveI := @decExSome; haveI := @decOk; haveI := @decErr; infer_instance) ?_
      decide +kernel⟩),
   (⟨pool.getD 0 .reset, 0, 11, by
      unfold CanIssue
      refine @of_decide_eq_true _ (by haveI := @decAllSome; haveI := @decExSome; haveI := @decOk; haveI := @decErr; infer_instance) ?_
      decide +kernel⟩),
   (⟨pool.getD 0 .reset, 0, by
      unfold CanIssue
      refine @of_decide_eq_true _ (by haveI := @decAllSome; haveI := @decExSome; haveI := @decOk; haveI := @decErr; infer_instance) ?_
      decide +kernel⟩),
   (⟨pool.getD 0 .reset, 0, by
      unfold CanIssue
      refine @of_decide_eq_true _ (by haveI := @decAllSome; haveI := @decExSome; haveI := @decOk; haveI := @decErr; infer_instance) ?_
      decide +kernel⟩),
   (⟨pool.getD 127 .reset, 0, Tag.int, by
      unfold CanIssue
      refine @of_decide_eq_true _ (by haveI := @decAllSome; haveI := @decExSome; haveI := @decOk; haveI := @decErr; infer_instance) ?_
      decide +kernel⟩),
   (⟨pool.getD 6 .reset, 0, by
      unfold CanIssue
      refine @of_decide_eq_true _ (by haveI := @decAllSome; haveI := @decExSome; haveI := @decOk; haveI := @decErr; infer_instance) ?_
      decide +kernel⟩),
   (⟨pool.getD 0 .reset, 0, by
      unfold CanIssue
      refine @of_decide_eq_true _ (by haveI := @decAllSome; haveI := @decExSome; haveI := @decOk; haveI := @decErr; infer_instance) ?_
      decide +kernel⟩),
   (⟨pool.getD 0 .reset, 0, by
      unfold CanIssue
      refine @of_decide_eq_true _ (by haveI := @decAllSome; haveI := @decExSome; haveI := @decOk; haveI := @decErr; infer_instance) ?_
      decide +kernel⟩),
   (⟨pool.getD 127 .reset, 0, by
      unfold CanIssue
      refine @of_decide_eq_true _ (by haveI := @decAllSome; haveI := @decExSome; haveI := @decOk; haveI := @decErr; infer_instance) ?_
      decide +kernel⟩),
   (⟨pool.getD 130 .reset, 0, 4, by
      decide +kernel⟩),
   (⟨pool.getD 0 .reset, 0, by
      decide +kernel⟩)⟩

theorem test_TakingATrap_witness :
    (∃ (d : Chip) (n : Fin 16), (d.core n).intrap = false ∧ d.tracing n = false ∧ (d.core n).loads = []) ∧
    (∃ (d : Chip) (n : Fin 16) (m : Nat), (d.core n).intrap = false ∧ d.tracing n = false ∧ (d.core n).loads = [] ∧ m ≠ n) ∧
    (∃ (s : State) (n : Fin 16), s.chip.coreRuns n = true ∧ (s.chip.core n).loads = [] ∧ (s.chip.core n).intrap = false ∧ s.chip.tracing n = false ∧ (s.chip.core n).stepping = false ∧ s.chip.spent (s.chip.core n).planctx = false ∧ (∀ p ∈ s.chip.mu.flips, overlaps (s.chip.core n).pc.toNat 4 p.1 32 = false) ∧ fetchable n (s.chip.core n).pc.toNat = false) ∧
    (∃ (s : State) (n : Fin 16), s.chip.coreRuns n = true ∧ (s.chip.core n).loads = [] ∧ (s.chip.core n).intrap = false ∧ s.chip.tracing n = false ∧ (s.chip.core n).stepping = false ∧ s.chip.spent (s.chip.core n).planctx = false ∧ (∀ p ∈ s.chip.mu.flips, overlaps (s.chip.core n).pc.toNat 4 p.1 32 = false) ∧ fetchable n (s.chip.core n).pc.toNat = true ∧ s.chip.anyPoison (s.chip.core n).pc.toNat 4 = true) ∧
    (∃ (s : State) (n : Fin 16), CanIssue s.chip n ∧ (s.chip.core n).intrap = true) ∧
    (∃ (s : State) (n : Fin 16), (s.chip.coreRuns n = false ∨ s.chip.spent (s.chip.core n).planctx = true ∨ ∃ l ∈ (s.chip.core n).loads, l.slotDone = true)) :=
  ⟨(⟨(pool.getD 0 .reset).chip, 0, by
      decide +kernel⟩),
   (⟨(pool.getD 0 .reset).chip, 0, 1, by
      decide +kernel⟩),
   (⟨pool.getD 13 .reset, 0, by
      refine @of_decide_eq_true _ (by haveI := @decAllSome; haveI := @decExSome; haveI := @decOk; haveI := @decErr; infer_instance) ?_
      decide +kernel⟩),
   (⟨pool.getD 14 .reset, 0, by
      refine @of_decide_eq_true _ (by haveI := @decAllSome; haveI := @decExSome; haveI := @decOk; haveI := @decErr; infer_instance) ?_
      decide +kernel⟩),
   (⟨pool.getD 12 .reset, 0, by
      unfold CanIssue
      refine @of_decide_eq_true _ (by haveI := @decAllSome; haveI := @decExSome; haveI := @decOk; haveI := @decErr; infer_instance) ?_
      decide +kernel⟩),
   (⟨pool.getD 9 .reset, 0, by
      refine @of_decide_eq_true _ (by haveI := @decAllSome; haveI := @decExSome; haveI := @decOk; haveI := @decErr; infer_instance) ?_
      decide +kernel⟩)⟩

theorem test_EncodeDecode_witness :
    (∃ (i : Instr) (w : Nat), encodeInsn i = some w) ∧
    (∃ (n : Fin 16) (w : Nat) (i : Instr), w < 2 ^ 32 ∧ decodeInsn n w = some i) :=
  ⟨(⟨.add 0 1 2 3, (encodeInsn (.add 0 1 2 3)).getD 0, by decide +kernel⟩),
   (⟨0, 1, Instr.add 0 0 0 0, by
      decide +kernel⟩)⟩

end Sys2Proof.Tests.C08
end

