-- ==== Sys2Proof/Tests/C09.lean ====
section
/-! SUPPORT. States and operands that meet the hypotheses of the statements of chapter 09, clause by clause. -/
set_option Elab.async false
set_option maxRecDepth 100000
namespace Sys2Proof.Tests.C09
open Sys2Proof Sys2Proof.Machine Sys2Proof.Tests

def outOf (o : Out) : Chip := match o with | .next t => t.chip | _ => {}
def rh (d : Chip) : Chip := { d with fetched := [0, 2] }
def kup : Chip := hand up
def x1 : Desc := descOf [0x0101 + 7 * 2^32, 5, 0, 0, 0, 0, 0, 0]
def x2 : Desc := descOf [0x0201 + 9 * 2^32, 0x1000, 0, 0, 0, 0, 0, 0]
def disp (d : Chip) (r : Nat) (x : Desc) : Chip := outOf (execCommandDispatch r x (st (rh d)))
def sseq (d : Chip) (k : Nat) : Chip := ((d.sr (Reg.AMT_CMD.SEQ 0) k).sr (Reg.AMT_CMD.SEQ 3) k).sr (Reg.AMT_CMD.SEQ 15) k
def own (d : Chip) (n : Nat) : Chip := withItems d ((List.range n).map (fun i => { item0 i (.general 1) .none with owner := 0x40 }))
def e1 (st_ : ItemState) (own : Nat) : Item := { item0 5 (.general 0x0101) .none with state := st_, owner := own, domain := .ring 1 }
def put (dev : Nat) : Tbl Nat := [0, 0x8000].flatMap (fun o => (bootBytes ⟨3, 0, 2⟩).zipIdx.map (fun b => (dev * 2 ^ 29 + o + b.2, b.1)))
def fl (d : Chip) : Chip := { d with fw := { d.fw with flash := put 0 } }
def rl (d : Chip) : Chip := (List.range 16).foldl (fun d n => d.setCore (Fin.ofNat 16 n) { d.core n with released := true }) d
def ms : List Chip := [{}, up, kup, rl kup, noise (rl kup), sseq (disp (rl kup) 0 x1) 0, sseq (disp (disp (rl kup) 0 x1) 2 x2) 1, sseq (disp (noise kup) 0 x1) 0, sseq (disp (own kup 3) 0 x1) 0,
  sseq (withItems kup [e1 .running 0x40]) 5, sseq (withItems kup [e1 .committed 0x40]) 5, sseq (withItems kup [e1 .running 0x43]) 5, (sseq (withItems (noise kup) [e1 .running 0x4F]) 5).sr (Reg.AMT_CMD.CODE 15) 7,
  sseq (withItems kup [{ e1 .running 0x40 with seq := 4 }, e1 .running 0x40]) 5,
  { rl kup with fw := { kup.fw with pets := [(0, 0), (3, 5)] } }, ((rl kup).sr (Reg.AMT_CORE_STATE.STATE 15) 1).sr (Reg.AMT_CORE_STATE.STATE 1) 6, ((rl (noise kup)).sr (Reg.AMT_CORE_STATE.STATE 15) 1).sr (Reg.AMT_CORE_STATE.STATE 1) 6,
  ((rl kup).setCore 15 { released := true, crashes := [0, 0, 0] }), fl (rl kup), { fl (rl kup) with fw := { (fl kup).fw with actSeq := 4 } },
  (rl kup).sr Reg.AMT_FW_STATE.ACT 3, { (rl kup).sr Reg.AMT_FW_STATE.ACT 2 with fw := { kup.fw with next := 15 } }, { (rl (noise kup)).sr Reg.AMT_FW_STATE.ACT 2 with fw := { kup.fw with next := 1 } },
  { (rl kup).sr Reg.AMT_FW_STATE.ACT 2 with fw := { kup.fw with next := 15 }, cal := { kup.cal with emergency := true } }, { (rl kup).sr Reg.AMT_FW_STATE.ACT 2 with fw := { kup.fw with next := 0 } },
  cntMax (rl kup) [Reg.OBS_DBG_CTRL.HALTED 3]]
def ms_1 : List Chip := [(kup.sr Reg.AMT_FW_STATE.ACT 1), sseq (disp (own kup 4096) 0 x1) 0]
def ms_3 : List Chip := [sseq (disp (own kup 4096) 0 x1) 0]
def pool : List State := ((ms).map st) ++ ((ms_1).map st) ++ ((ms).map st) ++ ((ms_3).map st)

theorem test_CommandWindow_witness :
    (∃ (s : State) (r : Nat), s.chip.fetched.contains (r % 2048) = false) ∧
    (∃ (s : State) (r : Nat) (n : Nat) (i : Nat) (x : Desc), s.chip.fetched.contains (r % 2048) = true ∧ n < 16 ∧ (if s.chip.rg (Reg.HIF_RING.KIND (r % 2048)) = 2 then s.chip.groupCore x.cGroup else s.chip.servingCore x) = some n ∧ (List.range 256).find? (fun i => s.chip.inboxFlags n i % 2 = 0) = some i) ∧
    (∃ (s : State) (n : Fin 16) (i : Nat) (r : Nat), i = s.chip.rg (Reg.AMT_CMD.SEQ n) % 256 ∧ s.chip.inboxOrigin n i = some (.ring r) ∧ r < 2048 ∧ r = s.chip.num (inboxAddr n i + 72) 2 ∧ s.chip.heldBy n < 4096 ∧ s.chip.admits (.ring r) = true) ∧
    (∃ (s : State) (n : Fin 16) (i : Nat) (r : Nat), i = s.chip.rg (Reg.AMT_CMD.SEQ n) % 256 ∧ s.chip.inboxOrigin n i = some (.ring r) ∧ r < 2048 ∧ r = s.chip.num (inboxAddr n i + 72) 2 ∧ (4096 ≤ s.chip.heldBy n ∨ s.chip.admits (.ring r) = false)) ∧
    (∃ (s : State) (n : Fin 16), s.chip.inboxOrigin n (s.chip.rg (Reg.AMT_CMD.SEQ n) % 256) = none) ∧
    (∃ (s : State) (n : Fin 16) (i : Item), s.chip.item (s.chip.rg (Reg.AMT_CMD.SEQ n)) = some i ∧ i.seq = s.chip.rg (Reg.AMT_CMD.SEQ n) ∧ (i.owner ≠ 0x40 + n ∨ i.state = .committed)) ∧
    (∃ (s : State) (n : Fin 16) (i : Item), s.chip.item (s.chip.rg (Reg.AMT_CMD.SEQ n)) = some i ∧ i.seq = s.chip.rg (Reg.AMT_CMD.SEQ n) ∧ i.owner = 0x40 + n ∧ i.state.ended = false ∧ s.chip.rg (Reg.AMT_CMD.CODE n) = Code.OK ∧ s.chip.rg (Reg.AMT_CMD.REDO n) = 0 ∧ s.chip.fw.ends = [] ∧ predsEnded s.chip.led.items i = true ∧ s.chip.commits = true) :=
  ⟨(⟨pool.getD 0 .reset, 0, by
      decide +kernel⟩),
   (⟨pool.getD 2 .reset, 0, 0, 0, { w0 := (0x700000101 : BitVec 64), w1 := (0x5 : BitVec 64), w2 := (0x0 : BitVec 64), w3 := (0x0 : BitVec 64), w4 := (0x0 : BitVec 64), w5 := (0x0 : BitVec 64), w6 := (0x0 : BitVec 64), w7 := (0x0 : BitVec 64) }, by
      decide +kernel⟩),
   (⟨pool.getD 5 .reset, 0, 0, 0, by
      decide +kernel⟩),
   (⟨pool.getD 27 .reset, 0, 0, 0, by
      decide +kernel⟩),
   (⟨pool.getD 0 .reset, 0, by
      decide +kernel⟩),
   (⟨pool.getD 8 .reset, 1, { seq := 0, slot := 0, state := ItemState.running, domain := Domain.core 1, tag := 9, owner := 64, replied := false, redo := false, replayed := false, plan := 0, acceptTick := 0, endTick := 0, origin := Origin.core 1 7, fn := 257, kind := ItemKind.general 1, body := { w0 := (0x0 : BitVec 64), w1 := (0x0 : BitVec 64), w2 := (0x0 : BitVec 64), w3 := (0x0 : BitVec 64), w4 := (0x0 : BitVec 64), w5 := (0x0 : BitVec 64), w6 := (0x0 : BitVec 64), w7 := (0x0 : BitVec 64) }, crec := CommitRec.none, fin := none, redoRec := none, carried := false, single := false, reply := { code := 0, lo := 0, hi := 0 } }, by
      decide +kernel⟩),
   (⟨pool.getD 8 .reset, 0, { seq := 0, slot := 0, state := ItemState.running, domain := Domain.core 1, tag := 9, owner := 64, replied := false, redo := false, replayed := false, plan := 0, acceptTick := 0, endTick := 0, origin := Origin.core 1 7, fn := 257, kind := ItemKind.general 1, body := { w0 := (0x0 : BitVec 64), w1 := (0x0 : BitVec 64), w2 := (0x0 : BitVec 64), w3 := (0x0 : BitVec 64), w4 := (0x0 : BitVec 64), w5 := (0x0 : BitVec 64), w6 := (0x0 : BitVec 64), w7 := (0x0 : BitVec 64) }, crec := CommitRec.none, fin := none, redoRec := none, carried := false, single := false, reply := { code := 0, lo := 0, hi := 0 } }, by
      decide +kernel⟩)⟩

theorem test_FirmwareAndCores_witness :
    (∃ (s : State) (n : Fin 16) (t : Nat), tget s.chip.fw.pets n = some t ∧ s.chip.tick - t < s.chip.usTicks (s.chip.rg Reg.AMT_WDOG_CFG.LIMIT) - 1) ∧
    (∃ (s : State) (n : Fin 16), s.chip.coreRuns n = true ∧ (∀ t, tget s.chip.fw.pets n = some t → s.chip.usTicks (s.chip.rg Reg.AMT_WDOG_CFG.LIMIT) - 1 ≤ s.chip.tick - t)) ∧
    (∃ (s : State) (n : Fin 16), (n = 0 ∨ s.chip.rg (Reg.AMT_CORE_STATE.STATE n) = 6)) ∧
    (∃ (s : State) (n : Fin 16), n ≠ 0 ∧ s.chip.rg (Reg.AMT_CORE_STATE.STATE n) ≠ 6 ∧ (s.chip.core n).crashes = []) ∧
    (∃ (s : State) (n : Fin 16), s.chip.rg (Reg.AMT_CORE_STATE.STATE n) = 1 ∧ s.chip.flag (Reg.OBS_DBG_CTRL.HALTED n) = false ∧ (s.chip.core n).released = true) ∧
    (∃ (s : State), (s.chip.flag Reg.PCR_STATE.MAQ_LOADED = false ∨ s.chip.flag Reg.FLT_SAFE.SAFE = true ∨ (s.chip.core 0).released = true)) ∧
    (∃ (s : State), s.chip.flag Reg.PCR_STATE.MAQ_LOADED = true ∧ s.chip.flag Reg.FLT_SAFE.SAFE = false ∧ (s.chip.core 0).released = false ∧ (∀ dev ≤ 1, ∀ slot ≤ 1, s.chip.slotImage dev slot = none)) ∧
    ((up.slotImage 0 ((up.bootRec.getD ⟨0, 0, 0⟩).active % 2)).isSome = true → ∃ (s : State), s.chip.flag Reg.PCR_STATE.MAQ_LOADED = true ∧ s.chip.flag Reg.FLT_SAFE.SAFE = false ∧ (s.chip.core 0).released = false ∧ (s.chip.slotImage 0 ((s.chip.bootRec.getD ⟨0, 0, 0⟩).active % 2)).isSome = true ∧ s.chip.rg (Reg.AMT_CORE_STATE.STATE 15) ≠ 6) ∧
    (∃ (s : State) (src : Submit) (o : Nat) (l : Nat), s.chip.coreServes (s.chip.roleCore 0) = true ∧ TakenUp s.chip src .amt false 0 ∧ o < 2 ^ 32 ∧ l < 2 ^ 32 ∧ (o % 4096 ≠ 0 ∨ l % 4096 ≠ 0 ∨ l > 0x40_0000 ∨ o + l > 0x200_0000)) ∧
    (∃ (s : State) (src : Submit) (a : Nat) (o : Nat) (l : Nat), s.chip.coreServes (s.chip.roleCore 0) = true ∧ TakenUp s.chip src .amt false 0 ∧ o < 2 ^ 32 ∧ l < 2 ^ 32 ∧ o % 4096 = 0 ∧ l % 4096 = 0 ∧ l ≤ 0x40_0000 ∧ o + l ≤ 0x200_0000 ∧ s.chip.accessOk (s.chip.originFn src.origin) a l false = true) ∧
    (∃ (s : State) (src : Submit), s.chip.coreServes (s.chip.roleCore 0) = true ∧ TakenUp s.chip src .amt false 0 ∧ s.chip.fw.actSeq ≠ 0) ∧
    (∃ (s : State) (src : Submit), s.chip.coreServes (s.chip.roleCore 0) = true ∧ TakenUp s.chip src .amt false 0 ∧ s.chip.fw.actSeq = 0) ∧
    (∃ (s : State) (src : Submit) (k : BitVec 8) (m : BitVec 8) (b : BootRec), s.chip.coreServes (s.chip.roleCore 0) = true ∧ TakenUp s.chip src .amt false 0 ∧ s.chip.bootRec = some b ∧ (m.toNat > 1 ∨ k.toNat > 1 ∨ bitOf b.state k.toNat = false ∨ k.toNat = b.active ∨ s.chip.fw.actSeq ≠ 0)) ∧
    (∃ (s : State) (src : Submit) (k : BitVec 8) (m : BitVec 8) (b : BootRec), s.chip.coreServes (s.chip.roleCore 0) = true ∧ TakenUp s.chip src .amt false 0 ∧ s.chip.bootRec = some b ∧ m.toNat = 0 ∧ k.toNat ≤ 1 ∧ bitOf b.state k.toNat = true ∧ k.toNat ≠ b.active ∧ s.chip.fw.actSeq = 0) ∧
    (∃ (s : State), s.chip.calm = false) ∧
    (∃ (s : State), s.chip.calm = true ∧ s.chip.rg Reg.AMT_FW_STATE.ACT = 3) ∧
    (∃ (s : State), s.chip.calm = true ∧ s.chip.rg Reg.AMT_FW_STATE.ACT = 1) ∧
    (∃ (s : State) (n : Fin 16), (s.chip.rg Reg.AMT_FW_STATE.ACT ≠ 2 ∨ n.val ≠ s.chip.fw.next)) ∧
    (∃ (s : State) (n : Fin 16), s.chip.rg Reg.AMT_FW_STATE.ACT = 2 ∧ n.val = s.chip.fw.next ∧ s.chip.cal.emergency = true) ∧
    (∃ (s : State) (n : Fin 16), s.chip.rg Reg.AMT_FW_STATE.ACT = 2 ∧ n.val = s.chip.fw.next ∧ s.chip.cal.emergency = false ∧ n ≠ 0 ∧ s.chip.rg (Reg.AMT_CORE_STATE.STATE n) ≠ 6) ∧
    (∃ (s : State) (n : Fin 16), s.chip.rg Reg.AMT_FW_STATE.ACT = 2 ∧ n.val = s.chip.fw.next ∧ s.chip.cal.emergency = false ∧ n = 0 ∧ s.chip.rg (Reg.AMT_CORE_STATE.STATE n) ≠ 6) :=
  ⟨(⟨pool.getD 14 .reset, 0, 0, by
      decide +kernel⟩),
   (⟨pool.getD 3 .reset, 0, by
      refine @of_decide_eq_true _ (by haveI := @decAllSome; haveI := @decExSome; haveI := @decOk; haveI := @decErr; infer_instance) ?_
      decide +kernel⟩),
   (⟨pool.getD 0 .reset, 0, by
      decide +kernel⟩),
   (⟨pool.getD 0 .reset, 1, by
      decide +kernel⟩),
   (⟨pool.getD 15 .reset, 15, by
      decide +kernel⟩),
   (⟨pool.getD 0 .reset, by
      decide +kernel⟩),
   (⟨st { up with fw := { up.fw with flash := [(50323456, 0), (50323457, 0), (50323458, 0), (50323459, 0), (83877888, 0), (83877889, 0), (83877890, 0), (83877891, 0), (587194368, 0), (587194369, 0), (587194370, 0), (587194371, 0), (620748800, 0), (620748801, 0), (620748802, 0), (620748803, 0)] } }, by decide +kernel, by decide +kernel, by decide +kernel, by refine @of_decide_eq_true _ (by haveI := @decAllSome; haveI := @decExSome; haveI := @decOk; haveI := @decErr; infer_instance) ?_; decide +kernel⟩),
   (fun h => ⟨st up, by decide +kernel, by decide +kernel, by decide +kernel, h, by decide +kernel⟩),
   (⟨pool.getD 2 .reset, { origin := Origin.ring 0, tag := (0x5 : BitVec 32) }, 0, 1, by
      unfold TakenUp
      refine @of_decide_eq_true _ (by haveI := @decAllSome; haveI := @decExSome; haveI := @decOk; haveI := @decErr; infer_instance) ?_
      decide +kernel⟩),
   (⟨pool.getD 2 .reset, { origin := Origin.ring 0, tag := (0x5 : BitVec 32) }, 0, 0, 0, by
      unfold TakenUp
      refine @of_decide_eq_true _ (by haveI := @decAllSome; haveI := @decExSome; haveI := @decOk; haveI := @decErr; infer_instance) ?_
      decide +kernel⟩),
   (⟨pool.getD 19 .reset, { origin := Origin.ring 0, tag := (0x5 : BitVec 32) }, by
      unfold TakenUp
      refine @of_decide_eq_true _ (by haveI := @decAllSome; haveI := @decExSome; haveI := @decOk; haveI := @decErr; infer_instance) ?_
      decide +kernel⟩),
   (⟨pool.getD 2 .reset, { origin := Origin.ring 0, tag := (0x5 : BitVec 32) }, by
      unfold TakenUp
      refine @of_decide_eq_true _ (by haveI := @decAllSome; haveI := @decExSome; haveI := @decOk; haveI := @decErr; infer_instance) ?_
      decide +kernel⟩),
   (⟨pool.getD 18 .reset, { origin := Origin.ring 0, tag := (0x5 : BitVec 32) }, (0x0 : BitVec 8), (0x0 : BitVec 8), { gen := 3, active := 0, state := 2 }, by
      unfold TakenUp
      refine @of_decide_eq_true _ (by haveI := @decAllSome; haveI := @decExSome; haveI := @decOk; haveI := @decErr; infer_instance) ?_
      decide +kernel⟩),
   (⟨pool.getD 18 .reset, { origin := Origin.ring 0, tag := (0x5 : BitVec 32) }, (0x1 : BitVec 8), (0x0 : BitVec 8), { gen := 3, active := 0, state := 2 }, by
      unfold TakenUp
      refine @of_decide_eq_true _ (by haveI := @decAllSome; haveI := @decExSome; haveI := @decOk; haveI := @decErr; infer_instance) ?_
      decide +kernel⟩),
   (⟨pool.getD 23 .reset, by
      decide +kernel⟩),
   (⟨pool.getD 20 .reset, by
      decide +kernel⟩),
   (⟨pool.getD 26 .reset, by
      decide +kernel⟩),
   (⟨pool.getD 0 .reset, 0, by
      decide +kernel⟩),
   (⟨pool.getD 23 .reset, 15, by
      decide +kernel⟩),
   (⟨pool.getD 21 .reset, 15, by
      decide +kernel⟩),
   (⟨pool.getD 24 .reset, 0, by
      decide +kernel⟩)⟩

end Sys2Proof.Tests.C09
end

