-- ==== Sys2Proof/Tests/C10.lean ====
section
/-! SUPPORT. States and operands that meet the hypotheses of the statements of chapter 10, clause by clause. -/
set_option Elab.async false
set_option maxRecDepth 100000
namespace Sys2Proof.Tests.C10
open Sys2Proof Sys2Proof.Machine Sys2Proof.Tests

def pu (d : Chip) (p st_ : Nat) : Chip := d.sr (Reg.LNK_PORT_STATE.STATE p) st_
def pp (d : Chip) (x : LinkPort) : Chip := ((d.setPort 0 x).setPort 1 x).setPort 11 x
def P (d : Chip) (s : Nat) : Chip := pu (pu (pu d 0 s) 1 s) 11 s
def gcm (d : Chip) : Chip := ((d.sr (Reg.LNK_PORT_CFG.GCM 0) 1).sr (Reg.LNK_PORT_CFG.GCM 11) 1).setKslot 0 { uses := 3, counter := 7 }
def fr (s r : Nat) : TxFrame := ⟨s, 3, 0, [1, 2], (0, 0, 0), r, 0⟩
def kup : Chip := hand up
def ses (p s : Nat) : LinkPort := { session := some ⟨p, s⟩ }
def msA : List Chip := [{}, up, P up 2, P (noise up) 3, P (noise up) 4, pp (P up 2) { nakSent := true }, pp (P up 2) { tx := [fr 0 0, fr 1 1], txNext := 2 }, pp (P (noise up) 2) { tx := [fr 0 2, fr 1 1], txNext := 2 }, 
  pp (P up 4) { tx := [fr 0 2, fr 1 1], txNext := 2, half := some 1 }, gcm (P up 2), gcm (pp (P up 2) { recFrames := 3, recNo := 2, txNext := 5 }), gcm (pp (P (noise up) 3) { recFrames := 3, recNo := 2, rxItems := [1], rxFirings := [(2, 3)] }),
  (P up 2).sr (Reg.LNK_PORT_CFG.MODE 11) 1, { gcm (P up 2) with sec := { (gcm up).sec with rxCounter := [(0, 0x123456789ABC), (1, 0)] } }, { P up 2 with mem := { cells := [], poison := [0, 64, 128, 256] } },
  cntMax (P up 2) [Reg.LNK_COUNT.COUNT 0 0, Reg.LNK_COUNT.COUNT 0 1, Reg.LNK_COUNT.COUNT 0 2, Reg.LNK_COUNT.COUNT 0 7, Reg.LNK_COUNT.COUNT 0 8, Reg.SEC_COUNT.COUNT 5], { P up 2 with pwr := { up.pwr with entering := 1 } }]
def nog (d : Chip) : Chip := ((d.sr (Reg.LNK_PORT_CFG.GCM 0) 0).sr (Reg.LNK_PORT_CFG.GCM 11) 0)
def msA_1 : List Chip := [{}, nog (P up 2), nog (P (noise up) 3), up, P up 2, P (noise up) 3, P (noise up) 4, pp (P up 2) { nakSent := true }, pp (P up 2) { tx := [fr 0 0, fr 1 1], txNext := 2 }, pp (P (noise up) 2) { tx := [fr 0 2, fr 1 1], txNext := 2 }, 
  pp (P up 4) { tx := [fr 0 2, fr 1 1], txNext := 2, half := some 1 }, gcm (P up 2), gcm (pp (P up 2) { recFrames := 3, recNo := 2, txNext := 5 }), gcm (pp (P (noise up) 3) { recFrames := 3, recNo := 2, rxItems := [1], rxFirings := [(2, 3)] }),
  (P up 2).sr (Reg.LNK_PORT_CFG.MODE 11) 1, { gcm (P up 2) with sec := { (gcm up).sec with rxCounter := [(0, 0x123456789ABC), (1, 0)] } }, { P up 2 with mem := { cells := [], poison := [0, 64, 128, 256] } },
  cntMax (P up 2) [Reg.LNK_COUNT.COUNT 0 0, Reg.LNK_COUNT.COUNT 0 1, Reg.LNK_COUNT.COUNT 0 2, Reg.LNK_COUNT.COUNT 0 7, Reg.LNK_COUNT.COUNT 0 8, Reg.SEC_COUNT.COUNT 5], { P up 2 with pwr := { up.pwr with entering := 1 } }]
def S (d : Chip) (x : LinkPort) : Chip := pp (P d 2) x
def sp (d : Chip) (f : Nat → Fld) (v : Nat) : Chip := ((d.sr (f 0) v).sr (f 1) v).sr (f 11) v
def fail (d : Chip) (v : Nat) : Chip := sp d (fun p => Reg.LNK_PORT_STATE.FAILED p) v
def msB : List Chip := [S up { nextPos := 16 }, S (noise up) { nextPos := 3 }, S (sp up (fun p => Reg.LNK_PORT_STATE.SPARE p) 2) { nextPos := 3 }, S (sp up (fun p => Reg.LNK_PORT_STATE.SPARED_POS p) 5) { nextPos := 3 },
  S up (ses 16 2), S (noise up) (ses 4 2), S up (ses 0 2), S up (ses 4 1), S up (ses 16 3), S up { ses 5 1 with retry := some (3, 1) }, S up { retry := some (3, 1) }, S up { retry := some (3, 0) }, S (noise up) { retry := some (16, 0) },
  fail (S up {}) 1, fail (S up { half := some 0, session := some ⟨3, 2⟩ }) 0x8, fail (S (sp up (fun p => Reg.LNK_PORT_STATE.SPARED_POS p) 5) {}) 0x28, { S up {} with led := (withItems up [item0 1 (.general 1) .none]).led },
  (P up 2).sr (Reg.LNK_PORT_CFG.MODE 11) 1, S up { waiting := [fr 0 0] }, S (noise up) { waiting := [fr 0 0] }, { S up { nextPos := 3 } with lnk := { (S up {}).lnk with calPaused := true } }, sp (S up {}) (fun p => Reg.LNK_PORT_STATE.SPARE p) 1]
def cal (d : Chip) : Chip := (((d.sr (Reg.LNK_PORT_CFG.CAL 0) 1).sr (Reg.LNK_PORT_CFG.CAL 1) 1).sr (Reg.LNK_PORT_CFG.CAL 11) 1)
def nod (d : Chip) : Chip := (((d.sr (Reg.LNK_PORT_CFG.MODE 11) 1).sr (Reg.LNK_PORT_CFG.MODE 8) 2).setKslot 0 { uses := 2 }).setKslot 5 { uses := 2, exhausted := true }
def msC : List Chip := [kup, noise kup, P kup 1, pp kup { upSeq := 3 }, pp (P kup 1) { half := some 0, tx := [fr 0 0], credit0 := 3 }, pp (P (noise kup) 1) { upSeq := 1 }, P kup 2, P (noise kup) 3, P kup 4, nod kup, nod (noise kup), { P kup 2 with led := { kup.led with items := [item0 1 (.general 1) .none], nextSeq := 2 } }, { nod kup with led := { kup.led with items := [item0 1 (.general 1) .none], nextSeq := 2 } },
  pp (P { kup with led := { kup.led with items := [{ item0 1 (.general 0x0601) .none with state := .running }], nextSeq := 2 } } 1) { upSeq := 1 }]
def pool : List State := ((msA).map st) ++ (((msA_1 ++ msB ++ msB.map cal)).map st) ++ (((msC)).map st) ++ (([up.sr Reg.LNK_GROUP_MAP.GROUP 0, (gcm (pp (P up 2) { recFrames := 3 })).setKslot 0 { uses := 3, exhausted := true }]).map st)

theorem test_LinkFrames_witness :
    (∃ (s : State) (p : Fin 12), (s.chip.portUp p = false ∨ s.chip.isDvl p = false)) ∧
    (∃ (s : State) (p : Fin 12) (w : LinkWord), s.chip.portUp p = true ∧ s.chip.isDvl p = true ∧ PortsQuiet s.chip ∧ w.fec = 0 ∧ w.seq.val ≠ (s.chip.port p).rxNext ∧ (s.chip.port p).nakSent = true) ∧
    (∃ (s : State) (p : Fin 12) (w : LinkWord), s.chip.portUp p = true ∧ s.chip.isDvl p = true ∧ PortsQuiet s.chip ∧ w.fec = 0 ∧ w.seq.val ≠ (s.chip.port p).rxNext ∧ (s.chip.port p).nakSent = false ∧ (s.chip.port p).waiting = [] ∧ s.chip.flag Reg.FLT_SAFE.SAFE = false ∧ (s.chip.port p).maySend (s.chip.sealed p) 8 = true) ∧
    (∃ (s : State) (p : Fin 12) (w : LinkWord), s.chip.portUp p = true ∧ s.chip.isDvl p = true ∧ PortsQuiet s.chip ∧ w.seq.val = (s.chip.port p).rxNext ∧ (s.chip.port p).waiting = []) ∧
    (∃ (s : State) (p : Fin 12) (w : LinkWord) (ty : Fin 8) (cx : BitVec 42), s.chip.portUp p = true ∧ s.chip.isDvl p = true ∧ PortsQuiet s.chip ∧ w.seq.val = (s.chip.port p).rxNext ∧ ty = 0 ∧ cx ≠ 0) ∧
    (∃ (s : State) (p : Fin 12) (w : LinkWord) (ty : Fin 8), s.chip.portUp p = true ∧ s.chip.isDvl p = true ∧ PortsQuiet s.chip ∧ w.seq.val = (s.chip.port p).rxNext ∧ ty ≠ 0) ∧
    (∃ (f : TxFrame), f.type = 7) ∧
    (∃ (x : LinkPort) (pre : List TxFrame) (post : List TxFrame) (f : TxFrame), x.tx = pre ++ f :: post ∧ (∀ g ∈ pre, g.seq ≠ f.seq)) ∧
    (∃ (s : State) (p : Fin 12) (w : LinkWord) (a : BitVec 38) (l : Fin 4) (r : Fin 4), s.chip.portUp p = true ∧ s.chip.isDvl p = true ∧ PortsQuiet s.chip ∧ w.seq.val = (s.chip.port p).rxNext ∧ (r ≠ 0 ∨ (s.chip.rxFrame p w (some 1) id).writeOk (a.toNat * 256) (64 * (l + 1)) = false ∨ isShared (a.toNat * 256) = true ∨ isAccel (a.toNat * 256) = true ∨ isHostWin (a.toNat * 256) = true ∨ (s.chip.rxFrame p w (some 1) id).unmapped (a.toNat * 256) (64 * (l + 1)) = true ∨ (s.chip.rxFrame p w (some 1) id).otherRing p (a.toNat * 256) (64 * (l + 1)) = true)) ∧
    (∃ (s : State) (p : Fin 12) (w : LinkWord) (a : BitVec 38) (l : Fin 4) (r : Fin 4) (fl : List (BitVec 8)), s.chip.portUp p = true ∧ s.chip.isDvl p = true ∧ PortsQuiet s.chip ∧ w.seq.val = (s.chip.port p).rxNext ∧ r = 0 ∧ (s.chip.rxFrame p w (some 1) id).writeOk (a.toNat * 256) (64 * (l + 1)) = true ∧ isShared (a.toNat * 256) = false ∧ isAccel (a.toNat * 256) = false ∧ isHostWin (a.toNat * 256) = false ∧ (s.chip.rxFrame p w (some 1) id).unmapped (a.toNat * 256) (64 * (l + 1)) = false ∧ (s.chip.rxFrame p w (some 1) id).otherRing p (a.toNat * 256) (64 * (l + 1)) = false ∧ fl.length = 256) ∧
    (∃ (s : State) (p : Fin 12) (w : LinkWord) (cn : Fin 8) (rs : BitVec 39) (fl : List (BitVec 8)) (qs : List (List Nat)), s.chip.portUp p = true ∧ s.chip.isDvl p = true ∧ PortsQuiet s.chip ∧ w.seq.val = (s.chip.port p).rxNext ∧ qs = (List.range (cn + 1)).map (fun i => ((fl.map BitVec.toNat).drop (32 * i)).take 32) ∧ (rs ≠ 0 ∨ ∃ q ∈ qs, requestOk (s.chip.rxFrame p w (some 1) id) q = false)) ∧
    (∃ (s : State) (p : Fin 12) (w : LinkWord) (cn : Fin 8) (rs : BitVec 39) (fl : List (BitVec 8)) (qs : List (List Nat)), s.chip.portUp p = true ∧ s.chip.isDvl p = true ∧ PortsQuiet s.chip ∧ w.seq.val = (s.chip.port p).rxNext ∧ qs = (List.range (cn + 1)).map (fun i => ((fl.map BitVec.toNat).drop (32 * i)).take 32) ∧ rs = 0 ∧ (∀ q ∈ qs, requestOk (s.chip.rxFrame p w (some 1) id) q = true)) ∧
    (∃ (s : State) (p : Fin 12) (w : LinkWord) (fl : List (BitVec 8)) (q : List Nat), s.chip.portUp p = true ∧ s.chip.isDvl p = true ∧ PortsQuiet s.chip ∧ w.seq.val = (s.chip.port p).rxNext ∧ q = (fl.map BitVec.toNat).take 32 ∧ requestOk (s.chip.rxFrame p w (some 1) id) q = true ∧ fieldAt q 8 4 ≤ 256 ∧ (s.chip.rxFrame p w (some 1) id).noteRead (fieldAt q 0 8) (fieldAt q 8 4) = (s.chip.rxFrame p w (some 1) id) ∧ (s.chip.rxFrame p w (some 1) id).portUp p = true ∧ ((s.chip.rxFrame p w (some 1) id).port p).waiting = [] ∧ (s.chip.rxFrame p w (some 1) id).flag Reg.FLT_SAFE.SAFE = false ∧ ((s.chip.rxFrame p w (some 1) id).port p).maySend ((s.chip.rxFrame p w (some 1) id).sealed p) 5 = true) ∧
    (∃ (s : State) (p : Fin 12) (w : LinkWord) (fl : List (BitVec 8)), s.chip.portUp p = true ∧ s.chip.isDvl p = true ∧ PortsQuiet s.chip ∧ w.seq.val = (s.chip.port p).rxNext ∧ fl.length = 256) ∧
    (∃ (s : State) (p : Fin 12) (w : LinkWord) (cx : BitVec 42), s.chip.portUp p = true ∧ s.chip.isDvl p = true ∧ PortsQuiet s.chip ∧ w.seq.val = (s.chip.port p).rxNext ∧ ((s.chip.rxFrame p w none id).sealed p = false ∨ cx ≠ 0)) ∧
    (∃ (s : State) (p : Fin 12) (w : LinkWord) (c : BitVec 48) (ph : Fin 2), s.chip.portUp p = true ∧ s.chip.isDvl p = true ∧ PortsQuiet s.chip ∧ w.seq.val = (s.chip.port p).rxNext ∧ (s.chip.rxFrame p w none id).sealed p = true ∧ (s.chip.rxFrame p w none id).loadedFor ((s.chip.rxFrame p w none id).rg (rxSlotFld p ph)) uINLINE = true ∧ (∀ k, tget (s.chip.rxFrame p w none id).sec.rxCounter (2 * p + ph) = some k → k < c.toNat)) ∧
    (∃ (s : State) (p : Fin 12) (w : LinkWord) (c : BitVec 48) (ph : Fin 2) (ok : Bool), s.chip.portUp p = true ∧ s.chip.isDvl p = true ∧ PortsQuiet s.chip ∧ w.seq.val = (s.chip.port p).rxNext ∧ (s.chip.rxFrame p w none id).sealed p = true ∧ (ok = false ∨ (s.chip.rxFrame p w none id).loadedFor ((s.chip.rxFrame p w none id).rg (rxSlotFld p ph)) uINLINE = false ∨ ∃ k, tget (s.chip.rxFrame p w none id).sec.rxCounter (2 * p + ph) = some k ∧ c.toNat ≤ k)) ∧
    (∃ (e : Chip) (p : Nat), (e.port p).rxItems = [] ∧ (e.port p).rxFirings = []) ∧
    (∃ (s : State) (p : Fin 12), s.chip.portUp p = true ∧ s.chip.isDvl p = true ∧ (s.chip.port p).nakSent = true) ∧
    (∃ (s : State) (p : Fin 12), s.chip.portUp p = true ∧ s.chip.isDvl p = true ∧ (s.chip.port p).nakSent = false ∧ (s.chip.port p).waiting = [] ∧ s.chip.flag Reg.FLT_SAFE.SAFE = false ∧ (s.chip.port p).maySend (s.chip.sealed p) 8 = true) ∧
    (∃ (s : State) (p : Fin 12), s.chip.portUp p = true ∧ (s.chip.port p).tx = []) ∧
    (∃ (s : State) (p : Fin 12), s.chip.portUp p = true ∧ (s.chip.port p).tx ≠ [] ∧ (∀ f ∈ (s.chip.port p).tx, f.resent < 2)) ∧
    (∃ (s : State) (p : Fin 12), s.chip.portUp p = true ∧ (∃ f ∈ (s.chip.port p).tx, 2 ≤ f.resent)) ∧
    (∃ (s : State) (p : Fin 12), s.chip.portState p ≠ 4) ∧
    (∃ (s : State) (p : Fin 12), s.chip.portState p = 4 ∧ (s.chip.port p).waiting = []) ∧
    (∃ (s : State) (p : Fin 12), s.chip.portState p = 4 ∧ s.chip.led.items = []) ∧
    (∃ (s : State) (p : Fin 12), s.chip.portUp p = true ∧ s.chip.sealed p = true ∧ (s.chip.port p).recFrames ≠ 0 ∧ s.chip.slotCounter (s.chip.rg (txSlotFld p (s.chip.port p).phase)) = none) ∧
    (∃ (s : State) (p : Fin 12) (c : Nat) (e : Chip), s.chip.portUp p = true ∧ s.chip.sealed p = true ∧ (s.chip.port p).recFrames ≠ 0 ∧ s.chip.slotCounter (s.chip.rg (txSlotFld p (s.chip.port p).phase)) = some (c, e) ∧ e.portUp p = true ∧ e.lnk = s.chip.lnk ∧ (s.chip.port p).waiting = [] ∧ e.flag Reg.FLT_SAFE.SAFE = false ∧ (s.chip.port p).maySend true 7 = true) ∧
    (∃ (s : State) (p : Fin 12), (s.chip.portUp p = false ∨ s.chip.sealed p = false ∨ (s.chip.port p).recFrames = 0)) :=
  ⟨(⟨pool.getD 0 .reset, 0, by
      decide +kernel⟩),
   (⟨pool.getD 5 .reset, 0, { seq := 1, ack := 1, symKind := 0, symOp := 0, symArg := (0x0 : BitVec 8), crdVc := 1, crdCount := 3, fec := 0 }, by
      unfold PortsQuiet
      refine @of_decide_eq_true _ (by haveI := @decAllSome; haveI := @decExSome; haveI := @decOk; haveI := @decErr; infer_instance) ?_
      decide +kernel⟩),
   (⟨pool.getD 2 .reset, 0, { seq := 1, ack := 1, symKind := 0, symOp := 0, symArg := (0x0 : BitVec 8), crdVc := 1, crdCount := 3, fec := 0 }, by
      unfold PortsQuiet
      refine @of_decide_eq_true _ (by haveI := @decAllSome; haveI := @decExSome; haveI := @decOk; haveI := @decErr; infer_instance) ?_
      decide +kernel⟩),
   (⟨pool.getD 2 .reset, 0, { seq := 0, ack := 0, symKind := 0, symOp := 0, symArg := (0x0 : BitVec 8), crdVc := 0, crdCount := 0, fec := 0 }, by
      unfold PortsQuiet
      refine @of_decide_eq_true _ (by haveI := @decAllSome; haveI := @decExSome; haveI := @decOk; haveI := @decErr; infer_instance) ?_
      decide +kernel⟩),
   (⟨pool.getD 2 .reset, 0, { seq := 0, ack := 0, symKind := 0, symOp := 0, symArg := (0x0 : BitVec 8), crdVc := 0, crdCount := 0, fec := 0 }, 0, (0x1 : BitVec 42), by
      unfold PortsQuiet
      refine @of_decide_eq_true _ (by haveI := @decAllSome; haveI := @decExSome; haveI := @decOk; haveI := @decErr; infer_instance) ?_
      decide +kernel⟩),
   (⟨pool.getD 2 .reset, 0, { seq := 0, ack := 0, symKind := 0, symOp := 0, symArg := (0x0 : BitVec 8), crdVc := 0, crdCount := 0, fec := 0 }, 1, by
      unfold PortsQuiet
      refine @of_decide_eq_true _ (by haveI := @decAllSome; haveI := @decExSome; haveI := @decOk; haveI := @decErr; infer_instance) ?_
      decide +kernel⟩),
   (⟨⟨3, 7, 0, [], (0, 0, 0), 0, 0⟩, rfl⟩),
   (⟨{ tx := [⟨3, 1, 0, [], (0, 0, 0), 0, 0⟩, ⟨4, 1, 0, [], (0, 0, 0), 0, 0⟩] }, [⟨3, 1, 0, [], (0, 0, 0), 0, 0⟩], [], ⟨4, 1, 0, [], (0, 0, 0), 0, 0⟩, by decide +kernel⟩),
   (⟨pool.getD 2 .reset, 0, { seq := 0, ack := 0, symKind := 0, symOp := 0, symArg := (0x0 : BitVec 8), crdVc := 0, crdCount := 0, fec := 0 }, (0x0 : BitVec 38), 0, 3, by
      unfold PortsQuiet
      refine @of_decide_eq_true _ (by haveI := @decAllSome; haveI := @decExSome; haveI := @decOk; haveI := @decErr; infer_instance) ?_
      decide +kernel⟩),
   (⟨pool.getD 2 .reset, 0, { seq := 0, ack := 0, symKind := 0, symOp := 0, symArg := (0x0 : BitVec 8), crdVc := 0, crdCount := 0, fec := 0 }, (0x0 : BitVec 38), 0, 0, ([(0x0 : BitVec 8), (0x1 : BitVec 8), (0x2 : BitVec 8), (0x3 : BitVec 8), (0x4 : BitVec 8), (0x5 : BitVec 8), (0x6 : BitVec 8), (0x7 : BitVec 8), (0x8 : BitVec 8), (0x9 : BitVec 8), (0xa : BitVec 8), (0xb : BitVec 8), (0xc : BitVec 8), (0xd : BitVec 8), (0xe : BitVec 8), (0xf : BitVec 8), (0x10 : BitVec 8), (0x11 : BitVec 8), (0x12 : BitVec 8), (0x13 : BitVec 8), (0x14 : BitVec 8), (0x15 : BitVec 8), (0x16 : BitVec 8), (0x17 : BitVec 8), (0x18 : BitVec 8), (0x19 : BitVec 8), (0x1a : BitVec 8), (0x1b : BitVec 8), (0x1c : BitVec 8), (0x1d : BitVec 8), (0x1e : BitVec 8), (0x1f : BitVec 8), (0x20 : BitVec 8), (0x21 : BitVec 8), (0x22 : BitVec 8), (0x23 : BitVec 8), (0x24 : BitVec 8), (0x25 : BitVec 8), (0x26 : BitVec 8), (0x27 : BitVec 8), (0x28 : BitVec 8), (0x29 : BitVec 8), (0x2a : BitVec 8), (0x2b : BitVec 8), (0x2c : BitVec 8), (0x2d : BitVec 8), (0x2e : BitVec 8), (0x2f : BitVec 8), (0x30 : BitVec 8), (0x31 : BitVec 8), (0x32 : BitVec 8), (0x33 : BitVec 8), (0x34 : BitVec 8), (0x35 : BitVec 8), (0x36 : BitVec 8), (0x37 : BitVec 8), (0x38 : BitVec 8), (0x39 : BitVec 8), (0x3a : BitVec 8), (0x3b : BitVec 8), (0x3c : BitVec 8), (0x3d : BitVec 8), (0x3e : BitVec 8), (0x3f : BitVec 8), (0x40 : BitVec 8), (0x41 : BitVec 8), (0x42 : BitVec 8), (0x43 : BitVec 8), (0x44 : BitVec 8), (0x45 : BitVec 8), (0x46 : BitVec 8), (0x47 : BitVec 8), (0x48 : BitVec 8), (0x49 : BitVec 8), (0x4a : BitVec 8), (0x4b : BitVec 8), (0x4c : BitVec 8), (0x4d : BitVec 8), (0x4e : BitVec 8), (0x4f : BitVec 8), (0x50 : BitVec 8), (0x51 : BitVec 8), (0x52 : BitVec 8), (0x53 : BitVec 8), (0x54 : BitVec 8), (0x55 : BitVec 8), (0x56 : BitVec 8), (0x57 : BitVec 8), (0x58 : BitVec 8), (0x59 : BitVec 8), (0x5a : BitVec 8), (0x5b : BitVec 8), (0x5c : BitVec 8), (0x5d : BitVec 8), (0x5e : BitVec 8), (0x5f : BitVec 8), (0x60 : BitVec 8), (0x61 : BitVec 8), (0x62 : BitVec 8), (0x63 : BitVec 8), (0x64 : BitVec 8), (0x65 : BitVec 8), (0x66 : BitVec 8), (0x67 : BitVec 8), (0x68 : BitVec 8), (0x69 : BitVec 8), (0x6a : BitVec 8), (0x6b : BitVec 8), (0x6c : BitVec 8), (0x6d : BitVec 8), (0x6e : BitVec 8), (0x6f : BitVec 8), (0x70 : BitVec 8), (0x71 : BitVec 8), (0x72 : BitVec 8), (0x73 : BitVec 8), (0x74 : BitVec 8), (0x75 : BitVec 8), (0x76 : BitVec 8), (0x77 : BitVec 8), (0x78 : BitVec 8), (0x79 : BitVec 8), (0x7a : BitVec 8), (0x7b : BitVec 8), (0x7c : BitVec 8), (0x7d : BitVec 8), (0x7e : BitVec 8), (0x7f : BitVec 8), (0x80 : BitVec 8), (0x81 : BitVec 8), (0x82 : BitVec 8), (0x83 : BitVec 8), (0x84 : BitVec 8), (0x85 : BitVec 8), (0x86 : BitVec 8), (0x87 : BitVec 8), (0x88 : BitVec 8), (0x89 : BitVec 8), (0x8a : BitVec 8), (0x8b : BitVec 8), (0x8c : BitVec 8), (0x8d : BitVec 8), (0x8e : BitVec 8), (0x8f : BitVec 8), (0x90 : BitVec 8), (0x91 : BitVec 8), (0x92 : BitVec 8), (0x93 : BitVec 8), (0x94 : BitVec 8), (0x95 : BitVec 8), (0x96 : BitVec 8), (0x97 : BitVec 8), (0x98 : BitVec 8), (0x99 : BitVec 8), (0x9a : BitVec 8), (0x9b : BitVec 8), (0x9c : BitVec 8), (0x9d : BitVec 8), (0x9e : BitVec 8), (0x9f : BitVec 8), (0xa0 : BitVec 8), (0xa1 : BitVec 8), (0xa2 : BitVec 8), (0xa3 : BitVec 8), (0xa4 : BitVec 8), (0xa5 : BitVec 8), (0xa6 : BitVec 8), (0xa7 : BitVec 8), (0xa8 : BitVec 8), (0xa9 : BitVec 8), (0xaa : BitVec 8), (0xab : BitVec 8), (0xac : BitVec 8), (0xad : BitVec 8), (0xae : BitVec 8), (0xaf : BitVec 8), (0xb0 : BitVec 8), (0xb1 : BitVec 8), (0xb2 : BitVec 8), (0xb3 : BitVec 8), (0xb4 : BitVec 8), (0xb5 : BitVec 8), (0xb6 : BitVec 8), (0xb7 : BitVec 8), (0xb8 : BitVec 8), (0xb9 : BitVec 8), (0xba : BitVec 8), (0xbb : BitVec 8), (0xbc : BitVec 8), (0xbd : BitVec 8), (0xbe : BitVec 8), (0xbf : BitVec 8), (0xc0 : BitVec 8), (0xc1 : BitVec 8), (0xc2 : BitVec 8), (0xc3 : BitVec 8), (0xc4 : BitVec 8), (0xc5 : BitVec 8), (0xc6 : BitVec 8), (0xc7 : BitVec 8), (0xc8 : BitVec 8), (0xc9 : BitVec 8), (0xca : BitVec 8), (0xcb : BitVec 8), (0xcc : BitVec 8), (0xcd : BitVec 8), (0xce : BitVec 8), (0xcf : BitVec 8), (0xd0 : BitVec 8), (0xd1 : BitVec 8), (0xd2 : BitVec 8), (0xd3 : BitVec 8), (0xd4 : BitVec 8), (0xd5 : BitVec 8), (0xd6 : BitVec 8), (0xd7 : BitVec 8), (0xd8 : BitVec 8), (0xd9 : BitVec 8), (0xda : BitVec 8), (0xdb : BitVec 8), (0xdc : BitVec 8), (0xdd : BitVec 8), (0xde : BitVec 8), (0xdf : BitVec 8), (0xe0 : BitVec 8), (0xe1 : BitVec 8), (0xe2 : BitVec 8), (0xe3 : BitVec 8), (0xe4 : BitVec 8), (0xe5 : BitVec 8), (0xe6 : BitVec 8), (0xe7 : BitVec 8), (0xe8 : BitVec 8), (0xe9 : BitVec 8), (0xea : BitVec 8), (0xeb : BitVec 8), (0xec : BitVec 8), (0xed : BitVec 8), (0xee : BitVec 8), (0xef : BitVec 8), (0xf0 : BitVec 8), (0xf1 : BitVec 8), (0xf2 : BitVec 8), (0xf3 : BitVec 8), (0xf4 : BitVec 8), (0xf5 : BitVec 8), (0xf6 : BitVec 8), (0xf7 : BitVec 8), (0xf8 : BitVec 8), (0xf9 : BitVec 8), (0xfa : BitVec 8), (0xfb : BitVec 8), (0xfc : BitVec 8), (0xfd : BitVec 8), (0xfe : BitVec 8), (0xff : BitVec 8)]), by
      unfold PortsQuiet
      refine @of_decide_eq_true _ (by haveI := @decAllSome; haveI := @decExSome; haveI := @decOk; haveI := @decErr; infer_instance) ?_
      decide +kernel⟩),
   (⟨pool.getD 2 .reset, 0, { seq := 0, ack := 0, symKind := 0, symOp := 0, symArg := (0x0 : BitVec 8), crdVc := 0, crdCount := 0, fec := 0 }, 0, (0x0 : BitVec 39), ([(0x0 : BitVec 8), (0x1 : BitVec 8), (0x2 : BitVec 8), (0x3 : BitVec 8), (0x4 : BitVec 8), (0x5 : BitVec 8), (0x6 : BitVec 8), (0x7 : BitVec 8), (0x8 : BitVec 8), (0x9 : BitVec 8), (0xa : BitVec 8), (0xb : BitVec 8), (0xc : BitVec 8), (0xd : BitVec 8), (0xe : BitVec 8), (0xf : BitVec 8), (0x10 : BitVec 8), (0x11 : BitVec 8), (0x12 : BitVec 8), (0x13 : BitVec 8), (0x14 : BitVec 8), (0x15 : BitVec 8), (0x16 : BitVec 8), (0x17 : BitVec 8), (0x18 : BitVec 8), (0x19 : BitVec 8), (0x1a : BitVec 8), (0x1b : BitVec 8), (0x1c : BitVec 8), (0x1d : BitVec 8), (0x1e : BitVec 8), (0x1f : BitVec 8), (0x20 : BitVec 8), (0x21 : BitVec 8), (0x22 : BitVec 8), (0x23 : BitVec 8), (0x24 : BitVec 8), (0x25 : BitVec 8), (0x26 : BitVec 8), (0x27 : BitVec 8), (0x28 : BitVec 8), (0x29 : BitVec 8), (0x2a : BitVec 8), (0x2b : BitVec 8), (0x2c : BitVec 8), (0x2d : BitVec 8), (0x2e : BitVec 8), (0x2f : BitVec 8), (0x30 : BitVec 8), (0x31 : BitVec 8), (0x32 : BitVec 8), (0x33 : BitVec 8), (0x34 : BitVec 8), (0x35 : BitVec 8), (0x36 : BitVec 8), (0x37 : BitVec 8), (0x38 : BitVec 8), (0x39 : BitVec 8), (0x3a : BitVec 8), (0x3b : BitVec 8), (0x3c : BitVec 8), (0x3d : BitVec 8), (0x3e : BitVec 8), (0x3f : BitVec 8), (0x40 : BitVec 8), (0x41 : BitVec 8), (0x42 : BitVec 8), (0x43 : BitVec 8), (0x44 : BitVec 8), (0x45 : BitVec 8), (0x46 : BitVec 8), (0x47 : BitVec 8), (0x48 : BitVec 8), (0x49 : BitVec 8), (0x4a : BitVec 8), (0x4b : BitVec 8), (0x4c : BitVec 8), (0x4d : BitVec 8), (0x4e : BitVec 8), (0x4f : BitVec 8), (0x50 : BitVec 8), (0x51 : BitVec 8), (0x52 : BitVec 8), (0x53 : BitVec 8), (0x54 : BitVec 8), (0x55 : BitVec 8), (0x56 : BitVec 8), (0x57 : BitVec 8), (0x58 : BitVec 8), (0x59 : BitVec 8), (0x5a : BitVec 8), (0x5b : BitVec 8), (0x5c : BitVec 8), (0x5d : BitVec 8), (0x5e : BitVec 8), (0x5f : BitVec 8), (0x60 : BitVec 8), (0x61 : BitVec 8), (0x62 : BitVec 8), (0x63 : BitVec 8), (0x64 : BitVec 8), (0x65 : BitVec 8), (0x66 : BitVec 8), (0x67 : BitVec 8), (0x68 : BitVec 8), (0x69 : BitVec 8), (0x6a : BitVec 8), (0x6b : BitVec 8), (0x6c : BitVec 8), (0x6d : BitVec 8), (0x6e : BitVec 8), (0x6f : BitVec 8), (0x70 : BitVec 8), (0x71 : BitVec 8), (0x72 : BitVec 8), (0x73 : BitVec 8), (0x74 : BitVec 8), (0x75 : BitVec 8), (0x76 : BitVec 8), (0x77 : BitVec 8), (0x78 : BitVec 8), (0x79 : BitVec 8), (0x7a : BitVec 8), (0x7b : BitVec 8), (0x7c : BitVec 8), (0x7d : BitVec 8), (0x7e : BitVec 8), (0x7f : BitVec 8), (0x80 : BitVec 8), (0x81 : BitVec 8), (0x82 : BitVec 8), (0x83 : BitVec 8), (0x84 : BitVec 8), (0x85 : BitVec 8), (0x86 : BitVec 8), (0x87 : BitVec 8), (0x88 : BitVec 8), (0x89 : BitVec 8), (0x8a : BitVec 8), (0x8b : BitVec 8), (0x8c : BitVec 8), (0x8d : BitVec 8), (0x8e : BitVec 8), (0x8f : BitVec 8), (0x90 : BitVec 8), (0x91 : BitVec 8), (0x92 : BitVec 8), (0x93 : BitVec 8), (0x94 : BitVec 8), (0x95 : BitVec 8), (0x96 : BitVec 8), (0x97 : BitVec 8), (0x98 : BitVec 8), (0x99 : BitVec 8), (0x9a : BitVec 8), (0x9b : BitVec 8), (0x9c : BitVec 8), (0x9d : BitVec 8), (0x9e : BitVec 8), (0x9f : BitVec 8), (0xa0 : BitVec 8), (0xa1 : BitVec 8), (0xa2 : BitVec 8), (0xa3 : BitVec 8), (0xa4 : BitVec 8), (0xa5 : BitVec 8), (0xa6 : BitVec 8), (0xa7 : BitVec 8), (0xa8 : BitVec 8), (0xa9 : BitVec 8), (0xaa : BitVec 8), (0xab : BitVec 8), (0xac : BitVec 8), (0xad : BitVec 8), (0xae : BitVec 8), (0xaf : BitVec 8), (0xb0 : BitVec 8), (0xb1 : BitVec 8), (0xb2 : BitVec 8), (0xb3 : BitVec 8), (0xb4 : BitVec 8), (0xb5 : BitVec 8), (0xb6 : BitVec 8), (0xb7 : BitVec 8), (0xb8 : BitVec 8), (0xb9 : BitVec 8), (0xba : BitVec 8), (0xbb : BitVec 8), (0xbc : BitVec 8), (0xbd : BitVec 8), (0xbe : BitVec 8), (0xbf : BitVec 8), (0xc0 : BitVec 8), (0xc1 : BitVec 8), (0xc2 : BitVec 8), (0xc3 : BitVec 8), (0xc4 : BitVec 8), (0xc5 : BitVec 8), (0xc6 : BitVec 8), (0xc7 : BitVec 8), (0xc8 : BitVec 8), (0xc9 : BitVec 8), (0xca : BitVec 8), (0xcb : BitVec 8), (0xcc : BitVec 8), (0xcd : BitVec 8), (0xce : BitVec 8), (0xcf : BitVec 8), (0xd0 : BitVec 8), (0xd1 : BitVec 8), (0xd2 : BitVec 8), (0xd3 : BitVec 8), (0xd4 : BitVec 8), (0xd5 : BitVec 8), (0xd6 : BitVec 8), (0xd7 : BitVec 8), (0xd8 : BitVec 8), (0xd9 : BitVec 8), (0xda : BitVec 8), (0xdb : BitVec 8), (0xdc : BitVec 8), (0xdd : BitVec 8), (0xde : BitVec 8), (0xdf : BitVec 8), (0xe0 : BitVec 8), (0xe1 : BitVec 8), (0xe2 : BitVec 8), (0xe3 : BitVec 8), (0xe4 : BitVec 8), (0xe5 : BitVec 8), (0xe6 : BitVec 8), (0xe7 : BitVec 8), (0xe8 : BitVec 8), (0xe9 : BitVec 8), (0xea : BitVec 8), (0xeb : BitVec 8), (0xec : BitVec 8), (0xed : BitVec 8), (0xee : BitVec 8), (0xef : BitVec 8), (0xf0 : BitVec 8), (0xf1 : BitVec 8), (0xf2 : BitVec 8), (0xf3 : BitVec 8), (0xf4 : BitVec 8), (0xf5 : BitVec 8), (0xf6 : BitVec 8), (0xf7 : BitVec 8), (0xf8 : BitVec 8), (0xf9 : BitVec 8), (0xfa : BitVec 8), (0xfb : BitVec 8), (0xfc : BitVec 8), (0xfd : BitVec 8), (0xfe : BitVec 8), (0xff : BitVec 8)]), [([0, 1, 2, 3, 4, 5, 6, 7, 8, 9, 10, 11, 12, 13, 14, 15, 16, 17, 18, 19, 20, 21, 22, 23, 24, 25, 26, 27, 28, 29, 30, 31])], by
      unfold PortsQuiet
      refine @of_decide_eq_true _ (by haveI := @decAllSome; haveI := @decExSome; haveI := @decOk; haveI := @decErr; infer_instance) ?_
      decide +kernel⟩),
   (⟨pool.getD 2 .reset, 0, { seq := 0, ack := 0, symKind := 0, symOp := 0, symArg := (0x0 : BitVec 8), crdVc := 0, crdCount := 0, fec := 0 }, 0, (0x0 : BitVec 39), ([(0x0 : BitVec 8), (0x10 : BitVec 8), (0x0 : BitVec 8), (0x0 : BitVec 8), (0x0 : BitVec 8), (0x0 : BitVec 8), (0x0 : BitVec 8), (0x0 : BitVec 8), (0x80 : BitVec 8)] ++ List.replicate 247 (0x0 : BitVec 8)), [([0, 16, 0, 0, 0, 0, 0, 0, 128] ++ List.replicate 23 0)], by
      unfold PortsQuiet
      refine @of_decide_eq_true _ (by haveI := @decAllSome; haveI := @decExSome; haveI := @decOk; haveI := @decErr; infer_instance) ?_
      decide +kernel⟩),
   (⟨pool.getD 2 .reset, 0, { seq := 0, ack := 0, symKind := 0, symOp := 0, symArg := (0x0 : BitVec 8), crdVc := 0, crdCount := 0, fec := 0 }, ([(0x0 : BitVec 8), (0x10 : BitVec 8), (0x0 : BitVec 8), (0x0 : BitVec 8), (0x0 : BitVec 8), (0x0 : BitVec 8), (0x0 : BitVec 8), (0x0 : BitVec 8), (0x80 : BitVec 8)] ++ List.replicate 247 (0x0 : BitVec 8)), ([0, 16, 0, 0, 0, 0, 0, 0, 128] ++ List.replicate 23 0), by
      unfold PortsQuiet
      refine @of_decide_eq_true _ (by haveI := @decAllSome; haveI := @decExSome; haveI := @decOk; haveI := @decErr; infer_instance) ?_
      decide +kernel⟩),
   (⟨pool.getD 2 .reset, 0, { seq := 0, ack := 0, symKind := 0, symOp := 0, symArg := (0x0 : BitVec 8), crdVc := 0, crdCount := 0, fec := 0 }, ([(0x0 : BitVec 8), (0x1 : BitVec 8), (0x2 : BitVec 8), (0x3 : BitVec 8), (0x4 : BitVec 8), (0x5 : BitVec 8), (0x6 : BitVec 8), (0x7 : BitVec 8), (0x8 : BitVec 8), (0x9 : BitVec 8), (0xa : BitVec 8), (0xb : BitVec 8), (0xc : BitVec 8), (0xd : BitVec 8), (0xe : BitVec 8), (0xf : BitVec 8), (0x10 : BitVec 8), (0x11 : BitVec 8), (0x12 : BitVec 8), (0x13 : BitVec 8), (0x14 : BitVec 8), (0x15 : BitVec 8), (0x16 : BitVec 8), (0x17 : BitVec 8), (0x18 : BitVec 8), (0x19 : BitVec 8), (0x1a : BitVec 8), (0x1b : BitVec 8), (0x1c : BitVec 8), (0x1d : BitVec 8), (0x1e : BitVec 8), (0x1f : BitVec 8), (0x20 : BitVec 8), (0x21 : BitVec 8), (0x22 : BitVec 8), (0x23 : BitVec 8), (0x24 : BitVec 8), (0x25 : BitVec 8), (0x26 : BitVec 8), (0x27 : BitVec 8), (0x28 : BitVec 8), (0x29 : BitVec 8), (0x2a : BitVec 8), (0x2b : BitVec 8), (0x2c : BitVec 8), (0x2d : BitVec 8), (0x2e : BitVec 8), (0x2f : BitVec 8), (0x30 : BitVec 8), (0x31 : BitVec 8), (0x32 : BitVec 8), (0x33 : BitVec 8), (0x34 : BitVec 8), (0x35 : BitVec 8), (0x36 : BitVec 8), (0x37 : BitVec 8), (0x38 : BitVec 8), (0x39 : BitVec 8), (0x3a : BitVec 8), (0x3b : BitVec 8), (0x3c : BitVec 8), (0x3d : BitVec 8), (0x3e : BitVec 8), (0x3f : BitVec 8), (0x40 : BitVec 8), (0x41 : BitVec 8), (0x42 : BitVec 8), (0x43 : BitVec 8), (0x44 : BitVec 8), (0x45 : BitVec 8), (0x46 : BitVec 8), (0x47 : BitVec 8), (0x48 : BitVec 8), (0x49 : BitVec 8), (0x4a : BitVec 8), (0x4b : BitVec 8), (0x4c : BitVec 8), (0x4d : BitVec 8), (0x4e : BitVec 8), (0x4f : BitVec 8), (0x50 : BitVec 8), (0x51 : BitVec 8), (0x52 : BitVec 8), (0x53 : BitVec 8), (0x54 : BitVec 8), (0x55 : BitVec 8), (0x56 : BitVec 8), (0x57 : BitVec 8), (0x58 : BitVec 8), (0x59 : BitVec 8), (0x5a : BitVec 8), (0x5b : BitVec 8), (0x5c : BitVec 8), (0x5d : BitVec 8), (0x5e : BitVec 8), (0x5f : BitVec 8), (0x60 : BitVec 8), (0x61 : BitVec 8), (0x62 : BitVec 8), (0x63 : BitVec 8), (0x64 : BitVec 8), (0x65 : BitVec 8), (0x66 : BitVec 8), (0x67 : BitVec 8), (0x68 : BitVec 8), (0x69 : BitVec 8), (0x6a : BitVec 8), (0x6b : BitVec 8), (0x6c : BitVec 8), (0x6d : BitVec 8), (0x6e : BitVec 8), (0x6f : BitVec 8), (0x70 : BitVec 8), (0x71 : BitVec 8), (0x72 : BitVec 8), (0x73 : BitVec 8), (0x74 : BitVec 8), (0x75 : BitVec 8), (0x76 : BitVec 8), (0x77 : BitVec 8), (0x78 : BitVec 8), (0x79 : BitVec 8), (0x7a : BitVec 8), (0x7b : BitVec 8), (0x7c : BitVec 8), (0x7d : BitVec 8), (0x7e : BitVec 8), (0x7f : BitVec 8), (0x80 : BitVec 8), (0x81 : BitVec 8), (0x82 : BitVec 8), (0x83 : BitVec 8), (0x84 : BitVec 8), (0x85 : BitVec 8), (0x86 : BitVec 8), (0x87 : BitVec 8), (0x88 : BitVec 8), (0x89 : BitVec 8), (0x8a : BitVec 8), (0x8b : BitVec 8), (0x8c : BitVec 8), (0x8d : BitVec 8), (0x8e : BitVec 8), (0x8f : BitVec 8), (0x90 : BitVec 8), (0x91 : BitVec 8), (0x92 : BitVec 8), (0x93 : BitVec 8), (0x94 : BitVec 8), (0x95 : BitVec 8), (0x96 : BitVec 8), (0x97 : BitVec 8), (0x98 : BitVec 8), (0x99 : BitVec 8), (0x9a : BitVec 8), (0x9b : BitVec 8), (0x9c : BitVec 8), (0x9d : BitVec 8), (0x9e : BitVec 8), (0x9f : BitVec 8), (0xa0 : BitVec 8), (0xa1 : BitVec 8), (0xa2 : BitVec 8), (0xa3 : BitVec 8), (0xa4 : BitVec 8), (0xa5 : BitVec 8), (0xa6 : BitVec 8), (0xa7 : BitVec 8), (0xa8 : BitVec 8), (0xa9 : BitVec 8), (0xaa : BitVec 8), (0xab : BitVec 8), (0xac : BitVec 8), (0xad : BitVec 8), (0xae : BitVec 8), (0xaf : BitVec 8), (0xb0 : BitVec 8), (0xb1 : BitVec 8), (0xb2 : BitVec 8), (0xb3 : BitVec 8), (0xb4 : BitVec 8), (0xb5 : BitVec 8), (0xb6 : BitVec 8), (0xb7 : BitVec 8), (0xb8 : BitVec 8), (0xb9 : BitVec 8), (0xba : BitVec 8), (0xbb : BitVec 8), (0xbc : BitVec 8), (0xbd : BitVec 8), (0xbe : BitVec 8), (0xbf : BitVec 8), (0xc0 : BitVec 8), (0xc1 : BitVec 8), (0xc2 : BitVec 8), (0xc3 : BitVec 8), (0xc4 : BitVec 8), (0xc5 : BitVec 8), (0xc6 : BitVec 8), (0xc7 : BitVec 8), (0xc8 : BitVec 8), (0xc9 : BitVec 8), (0xca : BitVec 8), (0xcb : BitVec 8), (0xcc : BitVec 8), (0xcd : BitVec 8), (0xce : BitVec 8), (0xcf : BitVec 8), (0xd0 : BitVec 8), (0xd1 : BitVec 8), (0xd2 : BitVec 8), (0xd3 : BitVec 8), (0xd4 : BitVec 8), (0xd5 : BitVec 8), (0xd6 : BitVec 8), (0xd7 : BitVec 8), (0xd8 : BitVec 8), (0xd9 : BitVec 8), (0xda : BitVec 8), (0xdb : BitVec 8), (0xdc : BitVec 8), (0xdd : BitVec 8), (0xde : BitVec 8), (0xdf : BitVec 8), (0xe0 : BitVec 8), (0xe1 : BitVec 8), (0xe2 : BitVec 8), (0xe3 : BitVec 8), (0xe4 : BitVec 8), (0xe5 : BitVec 8), (0xe6 : BitVec 8), (0xe7 : BitVec 8), (0xe8 : BitVec 8), (0xe9 : BitVec 8), (0xea : BitVec 8), (0xeb : BitVec 8), (0xec : BitVec 8), (0xed : BitVec 8), (0xee : BitVec 8), (0xef : BitVec 8), (0xf0 : BitVec 8), (0xf1 : BitVec 8), (0xf2 : BitVec 8), (0xf3 : BitVec 8), (0xf4 : BitVec 8), (0xf5 : BitVec 8), (0xf6 : BitVec 8), (0xf7 : BitVec 8), (0xf8 : BitVec 8), (0xf9 : BitVec 8), (0xfa : BitVec 8), (0xfb : BitVec 8), (0xfc : BitVec 8), (0xfd : BitVec 8), (0xfe : BitVec 8), (0xff : BitVec 8)]), by
      unfold PortsQuiet
      refine @of_decide_eq_true _ (by haveI := @decAllSome; haveI := @decExSome; haveI := @decOk; haveI := @decErr; infer_instance) ?_
      decide +kernel⟩),
   (⟨pool.getD 2 .reset, 0, { seq := 0, ack := 0, symKind := 0, symOp := 0, symArg := (0x0 : BitVec 8), crdVc := 0, crdCount := 0, fec := 0 }, (0x1 : BitVec 42), by
      unfold PortsQuiet
      refine @of_decide_eq_true _ (by haveI := @decAllSome; haveI := @decExSome; haveI := @decOk; haveI := @decErr; infer_instance) ?_
      decide +kernel⟩),
   (⟨pool.getD 9 .reset, 0, { seq := 0, ack := 0, symKind := 0, symOp := 0, symArg := (0x0 : BitVec 8), crdVc := 0, crdCount := 0, fec := 0 }, (0x0 : BitVec 48), 0, by
      unfold PortsQuiet
      refine @of_decide_eq_true _ (by haveI := @decAllSome; haveI := @decExSome; haveI := @decOk; haveI := @decErr; infer_instance) ?_
      decide +kernel⟩),
   (⟨pool.getD 2 .reset, 0, { seq := 0, ack := 0, symKind := 0, symOp := 0, symArg := (0x0 : BitVec 8), crdVc := 0, crdCount := 0, fec := 0 }, (0x0 : BitVec 48), 0, false, by
      unfold PortsQuiet
      refine @of_decide_eq_true _ (by haveI := @decAllSome; haveI := @decExSome; haveI := @decOk; haveI := @decErr; infer_instance) ?_
      decide +kernel⟩),
   (⟨(pool.getD 0 .reset).chip, 0, by
      decide +kernel⟩),
   (⟨pool.getD 5 .reset, 0, by
      decide +kernel⟩),
   (⟨pool.getD 2 .reset, 0, by
      decide +kernel⟩),
   (⟨pool.getD 2 .reset, 0, by
      decide +kernel⟩),
   (⟨pool.getD 6 .reset, 0, by
      refine @of_decide_eq_true _ (by haveI := @decAllSome; haveI := @decExSome; haveI := @decOk; haveI := @decErr; infer_instance) ?_
      decide +kernel⟩),
   (⟨pool.getD 7 .reset, 0, by
      refine @of_decide_eq_true _ (by haveI := @decAllSome; haveI := @decExSome; haveI := @decOk; haveI := @decErr; infer_instance) ?_
      decide +kernel⟩),
   (⟨pool.getD 0 .reset, 0, by
      decide +kernel⟩),
   (⟨pool.getD 4 .reset, 0, by
      decide +kernel⟩),
   (⟨pool.getD 4 .reset, 0, by
      decide +kernel⟩),
   (⟨pool.getD 95 .reset, 0, by
      decide +kernel⟩),
   (⟨pool.getD 10 .reset, 0, 7, (((pool.getD 10 .reset).chip.slotCounter ((pool.getD 10 .reset).chip.rg (txSlotFld (0) ((pool.getD 10 .reset).chip.port (0)).phase))).map Prod.snd).getD {}, by decide +kernel, by decide +kernel, by decide +kernel, by decide +kernel, by decide +kernel, by decide +kernel, by decide +kernel, by decide +kernel, by decide +kernel⟩),
   (⟨pool.getD 0 .reset, 0, by
      decide +kernel⟩)⟩

theorem test_LinkCalibration_witness :
    (∃ (s : State) (p : Fin 12), s.chip.portUp p = true) ∧
    (∃ (s : State) (p : Fin 12) (h : BitVec 8), s.chip.portUp p = true ∧ 1 < h.toNat) ∧
    (∃ (s : State) (p : Fin 12) (h : BitVec 8), s.chip.portUp p = true ∧ h.toNat ≤ 1) ∧
    (∃ (s : State) (p : Fin 12), s.chip.portUp p = false) ∧
    (∃ (s : State) (p : Fin 12) (l : Fin 64), PortsQuiet s.chip ∧ s.chip.slotHolds p l = false ∧ s.chip.svcHolds p l = false ∧ s.chip.dmaLine p l = none) ∧
    (∃ (s : State) (p : Fin 12), (s.chip.mayCalibrate p = false ∨ (s.chip.port p).retry.isSome = true)) ∧
    (∃ (s : State) (p : Fin 12), s.chip.mayCalibrate p = true ∧ (s.chip.port p).retry = none ∧ s.chip.rg (Reg.LNK_PORT_STATE.SPARE p) = 0 ∧ (s.chip.port p).nextPos ≤ 16) ∧
    (∃ (s : State) (p : Fin 12), (∀ i, (s.chip.port p).session ≠ some ⟨i, 2⟩)) ∧
    (∃ (s : State) (p : Fin 12) (i : Nat), (s.chip.port p).session = some ⟨i, 2⟩ ∧ i ≤ 16 ∧ i < 16) ∧
    (∃ (s : State) (p : Fin 12) (i : Nat), (s.chip.port p).session = some ⟨i, 2⟩ ∧ i ≤ 16 ∧ i = 16) ∧
    (∃ (s : State) (p : Fin 12) (i : Nat) (st : Nat), (s.chip.port p).session = some ⟨i, st⟩ ∧ st = 2) ∧
    (∃ (s : State) (p : Fin 12) (i : Nat) (st : Nat), (s.chip.port p).session = some ⟨i, st⟩ ∧ st ≠ 2) ∧
    (∃ (s : State) (p : Fin 12), (s.chip.port p).session = none) ∧
    (∃ (s : State) (p : Fin 12), (s.chip.port p).retry = none) ∧
    (∃ (s : State) (p : Fin 12) (i : Nat) (due : Nat), (s.chip.port p).retry = some (i, due) ∧ (s.chip.tick < due ∨ s.chip.mayCalibrate p = false)) ∧
    (∃ (s : State) (p : Fin 12) (i : Nat) (due : Nat), (s.chip.port p).retry = some (i, due) ∧ due ≤ s.chip.tick ∧ s.chip.mayCalibrate p = true ∧ i ≤ 16) ∧
    (∃ (s : State) (p : Fin 12) (j : Fin 16), s.chip.posFailed p j = true) ∧
    (∃ (s : State) (p : Fin 12) (j : Fin 16), s.chip.posFailed p j = false ∧ s.chip.isDvl p = true ∧ s.chip.rg (Reg.LNK_PORT_STATE.SPARE p) ≠ 2 ∧ s.chip.rg (Reg.LNK_PORT_STATE.SPARED_POS p) = 0x1F) ∧
    (∃ (s : State) (p : Fin 12) (j : Fin 16), s.chip.posFailed p j = false ∧ s.chip.isDvl p = false) ∧
    (∃ (s : State) (p : Fin 12), (s.chip.rg (Reg.LNK_PORT_STATE.SPARED_POS p) ≠ 0x1F ∨ s.chip.rg (Reg.LNK_PORT_STATE.SPARE p) ≠ 0)) ∧
    (∃ (s : State) (p : Fin 12), s.chip.rg (Reg.LNK_PORT_STATE.SPARED_POS p) = 0x1F ∧ s.chip.rg (Reg.LNK_PORT_STATE.SPARE p) = 0) ∧
    (∃ (s : State) (p : Fin 12), s.chip.portUp p = true ∧ (s.chip.port p).waiting ≠ []) ∧
    (∃ (s : State) (p : Fin 12), (s.chip.port p).waiting = []) :=
  ⟨(⟨pool.getD 2 .reset, 0, by
      decide +kernel⟩),
   (⟨pool.getD 2 .reset, 0, (0x2 : BitVec 8), by
      decide +kernel⟩),
   (⟨pool.getD 2 .reset, 0, (0x0 : BitVec 8), by
      decide +kernel⟩),
   (⟨pool.getD 0 .reset, 0, by
      decide +kernel⟩),
   (⟨pool.getD 0 .reset, 0, 0, by
      unfold PortsQuiet
      refine @of_decide_eq_true _ (by haveI := @decAllSome; haveI := @decExSome; haveI := @decOk; haveI := @decErr; infer_instance) ?_
      decide +kernel⟩),
   (⟨pool.getD 0 .reset, 0, by
      decide +kernel⟩),
   (⟨pool.getD 2 .reset, 0, by
      decide +kernel⟩),
   (⟨pool.getD 0 .reset, 0, by intro i h; have e : ((pool.getD 0 .reset).chip.port 0).session = none := (by decide +kernel); exact absurd (e.symm.trans h) (by simp)⟩),
   (⟨pool.getD 41 .reset, 0, 4, by
      decide +kernel⟩),
   (⟨pool.getD 40 .reset, 0, 16, by
      decide +kernel⟩),
   (⟨pool.getD 40 .reset, 0, 16, 2, by
      decide +kernel⟩),
   (⟨pool.getD 43 .reset, 0, 4, 1, by
      decide +kernel⟩),
   (⟨pool.getD 0 .reset, 0, by
      decide +kernel⟩),
   (⟨pool.getD 0 .reset, 0, by
      decide +kernel⟩),
   (⟨pool.getD 45 .reset, 0, 3, 1, by
      decide +kernel⟩),
   (⟨pool.getD 47 .reset, 0, 3, 0, by
      decide +kernel⟩),
   (⟨pool.getD 49 .reset, 0, 0, by
      decide +kernel⟩),
   (⟨pool.getD 0 .reset, 0, 0, by
      decide +kernel⟩),
   (⟨pool.getD 12 .reset, 11, 0, by
      decide +kernel⟩),
   (⟨pool.getD 38 .reset, 0, by
      decide +kernel⟩),
   (⟨pool.getD 0 .reset, 0, by
      decide +kernel⟩),
   (⟨pool.getD 54 .reset, 0, by
      decide +kernel⟩),
   (⟨pool.getD 0 .reset, 0, by
      decide +kernel⟩)⟩

theorem test_LinkCommands_witness :
    (∃ (s : State) (src : Submit) (p : BitVec 8), s.chip.coreServes (s.chip.roleCore 1) = true ∧ TakenUp s.chip src .lnk false 0 ∧ (11 < p.toNat ∨ s.chip.portState p.toNat ≠ 0 ∨ (s.chip.port p.toNat).upSeq ≠ 0 ∨ (s.chip.port p.toNat).unkeyed = true)) ∧
    (∃ (s : State) (src : Submit) (p : BitVec 8), s.chip.coreServes (s.chip.roleCore 1) = true ∧ TakenUp s.chip src .lnk false 0 ∧ p.toNat ≤ 11 ∧ s.chip.portState p.toNat = 0 ∧ (s.chip.port p.toNat).upSeq = 0 ∧ (s.chip.port p.toNat).unkeyed = false) ∧
    (∃ (s : State) (src : Submit) (p : BitVec 8), s.chip.coreServes (s.chip.roleCore 1) = true ∧ TakenUp s.chip src .lnk false 0 ∧ (11 < p.toNat ∨ s.chip.portState p.toNat = 0 ∨ s.chip.portState p.toNat = 1)) ∧
    (∃ (s : State) (src : Submit) (p : BitVec 8), s.chip.coreServes (s.chip.roleCore 1) = true ∧ TakenUp s.chip src .lnk false 0 ∧ p.toNat ≤ 11 ∧ s.chip.portState p.toNat ∈ [2, 3, 4] ∧ s.chip.led.lost = false) ∧
    (∃ (s : State) (src : Submit) (p : BitVec 8) (m : BitVec 8) (sa : BitVec 8) (k : BitVec 16), s.chip.coreServes (s.chip.roleCore 1) = true ∧ TakenUp s.chip src .lnk false 0 ∧ (11 < p.toNat ∨ 3 < m.toNat ∨ 1 < sa.toNat ∨ s.chip.isDvl p.toNat = true ∨ s.chip.macCount p.toNat ≤ m.toNat ∨ s.chip.loadedFor k.toNat uMACSEC = false)) ∧
    (∃ (s : State) (src : Submit) (p : BitVec 8) (m : BitVec 8) (sc : BitVec 8) (sa : BitVec 8) (k : BitVec 16), s.chip.coreServes (s.chip.roleCore 1) = true ∧ TakenUp s.chip src .lnk false 0 ∧ p.toNat ≤ 11 ∧ sa.toNat ≤ 1 ∧ (sc.toNat ≤ 63 ∨ (128 ≤ sc.toNat ∧ sc.toNat ≤ 135)) ∧ s.chip.isDvl p.toNat = false ∧ m.toNat < s.chip.macCount p.toNat ∧ s.chip.loadedFor k.toNat uMACSEC = true) ∧
    (∃ (s : State) (l : Fin 204), s.chip.posOfLane l = none) ∧
    (∃ (s : State) (l : Fin 204) (p : _) (j : _), s.chip.posOfLane l = some (p, j) ∧ p < 12) ∧
    (∃ (s : State) (l : Fin 204) (p : _) (j : _), s.chip.posOfLane l = some (p, j) ∧ p < 12 ∧ j < 16) ∧
    (∃ (s : State) (l : Fin 204) (p : _), s.chip.posOfLane l = some (p, (16)) ∧ p < 12) ∧
    (∃ (s : State), s.chip.rg Reg.LNK_GROUP_MAP.GROUP = 0xBA9876543210) ∧
    (∃ (s : State) (p : Fin 12), s.chip.portState p ≠ 1) ∧
    (∃ (s : State) (p : Fin 12), s.chip.portState p = 1) :=
  ⟨(⟨pool.getD 80 .reset, { origin := Origin.ring 0, tag := (0x5 : BitVec 32) }, (0xc : BitVec 8), by
      unfold TakenUp
      refine @of_decide_eq_true _ (by haveI := @decAllSome; haveI := @decExSome; haveI := @decOk; haveI := @decErr; infer_instance) ?_
      decide +kernel⟩),
   (⟨pool.getD 80 .reset, { origin := Origin.ring 0, tag := (0x5 : BitVec 32) }, (0x0 : BitVec 8), by
      unfold TakenUp
      refine @of_decide_eq_true _ (by haveI := @decAllSome; haveI := @decExSome; haveI := @decOk; haveI := @decErr; infer_instance) ?_
      decide +kernel⟩),
   (⟨pool.getD 80 .reset, { origin := Origin.ring 0, tag := (0x5 : BitVec 32) }, (0x0 : BitVec 8), by
      unfold TakenUp
      refine @of_decide_eq_true _ (by haveI := @decAllSome; haveI := @decExSome; haveI := @decOk; haveI := @decErr; infer_instance) ?_
      decide +kernel⟩),
   (⟨pool.getD 86 .reset, { origin := Origin.ring 0, tag := (0x5 : BitVec 32) }, (0x0 : BitVec 8), by
      unfold TakenUp
      refine @of_decide_eq_true _ (by haveI := @decAllSome; haveI := @decExSome; haveI := @decOk; haveI := @decErr; infer_instance) ?_
      decide +kernel⟩),
   (⟨pool.getD 80 .reset, { origin := Origin.ring 0, tag := (0x5 : BitVec 32) }, (0x0 : BitVec 8), (0x0 : BitVec 8), (0x0 : BitVec 8), (0x0 : BitVec 16), by
      unfold TakenUp
      refine @of_decide_eq_true _ (by haveI := @decAllSome; haveI := @decExSome; haveI := @decOk; haveI := @decErr; infer_instance) ?_
      decide +kernel⟩),
   (⟨pool.getD 89 .reset, { origin := Origin.ring 0, tag := (0x5 : BitVec 32) }, (0x8 : BitVec 8), (0x0 : BitVec 8), (0x0 : BitVec 8), (0x0 : BitVec 8), (0x0 : BitVec 16), by
      unfold TakenUp
      refine @of_decide_eq_true _ (by haveI := @decAllSome; haveI := @decExSome; haveI := @decOk; haveI := @decErr; infer_instance) ?_
      decide +kernel⟩),
   (⟨pool.getD 94 .reset, 17, by
      decide +kernel⟩),
   (⟨pool.getD 0 .reset, 0, 0, 0, by
      decide +kernel⟩),
   (⟨pool.getD 0 .reset, 0, 0, 0, by
      decide +kernel⟩),
   (⟨pool.getD 0 .reset, 192, 0, by
      decide +kernel⟩),
   (⟨pool.getD 0 .reset, by
      decide +kernel⟩),
   (⟨pool.getD 0 .reset, 0, by
      decide +kernel⟩),
   (⟨pool.getD 82 .reset, 0, by
      decide +kernel⟩)⟩

end Sys2Proof.Tests.C10
end

