-- ==== Sys2Proof/Tests/C11.lean ====
section
/-! SUPPORT. States and operands that meet the hypotheses of the statements of chapter 11, clause by clause. -/
set_option Elab.async false
set_option maxRecDepth 100000
namespace Sys2Proof.Tests.C11
open Sys2Proof Sys2Proof.Machine Sys2Proof.Tests

def cn (m : Nat := 1) : DvtConn := { state := .open, mode := m, paths := 2, portMask := 1, pd := 7, budget := 0, peer := 0x99, peerConn := 5, sport := 0, fn := 0, expected := 10, nextPsn := 3, acked := 3, nextMsn := 1 }
def rg0 (i : List (Nat × Nat) := []) (st_ : Nat := 1) : DvtRegion := ⟨0x1000, 0x10000, 7, st_, 7, i, 0, 0⟩
def setc (d : Chip) (x : DvtConn) (c : Nat := 3) : Chip := { d with dvt := { d.dvt with conns := tput d.dvt.conns c x, cache := [c] } }
def reg (d : Chip) : Chip := { d with dvt := { d.dvt with regions := [(0, rg0), (1, ⟨0x1000, 0x10000, 2, 1, 7, [], 0, 0⟩), (2, ⟨0x1000, 0x100, 7, 2, 7, [(3, 1)], 0, 0⟩), (3, ⟨0x2000, 0x100, 7, 0, 7, [], 0, 0⟩)], gens := [(1, 0), (4, 2)] } }
def kup : Chip := hand up
def pk (op psn : Nat) (n : Nat := 100) : DvtPkt := ⟨op, 0, 0, 0, 3, psn, 1, 0, 0, 0, List.replicate n 1⟩
def snt (op psn sends it : Nat) : DvtSent := ⟨pk op psn 8, it, none, sends, none⟩
def ito (q op : Nat) (c : CommitRec := .none) : Item := { item0 q .dvt c with body := descOf [op, 100 + 2^32*0, 0x5000, 0x0, 3, 0, 0, 0], domain := .conn 3 }
def D (x : DvtConn) : Chip := reg (setc kup x)
def DN (x : DvtConn) : Chip := reg (setc (noise kup) x)
def opn (q f l m : Nat) : DvtOp := ⟨q, f, l, m, 0, false⟩
def msA : List Chip := [{}, up, D (cn), DN (cn 0), D (cn 2), D { cn with atomics := [(8, 77), (9, 78)] }, DN { cn with staged := [pk 1 12 4000, pk 3 13], budget := 0 }, D { cn with staged := [pk 1 12 4000], budget := 1 }, (D cn).sr Reg.DVT_REORDER_CFG.FREE 1, D { cn with state := .closing }, { D cn with agents := [(.block .dvt, { st := .fenced })] },
   { (D cn) with dvt := { (D cn).dvt with part := [(8, [1, 2])] } }, D { cn with expected := 0xFFFFFFFF }, cntMax (D cn) [Reg.DVT_COUNT.COUNT 1, Reg.DVT_COUNT.COUNT 5, Reg.COL_ORPHANS.COUNT, Reg.DVT_COUNT.COUNT 6]]
def P (d : Chip) (s : Nat) : Chip := ((d.sr (Reg.LNK_PORT_STATE.STATE 0) s).sr (Reg.LNK_PORT_STATE.STATE 11) s).sr (Reg.LNK_PORT_STATE.STATE 8) s
def msP : List Chip := [P up 2, P (D cn) 3, { P (D cn) 2 with dvt := { (D cn).dvt with part := [(8, [1, 2])] } }]
def itms (d : Chip) (l : List Item) : Chip := { d with led := { d.led with items := l, nextSeq := 9 } }
def op1 (d : DvtConn) (m : Nat := 1) : DvtConn := { d with ops := [opn 4 3 6 m] }
def msB : List Chip := [D cn, DN (cn 0), D { cn with expected := 0 }, D { cn with expected := 0, atomics := (List.range 64).map (fun k => (k + 20, 5)) }, D { cn with pd := 8 }, itms (D (op1 cn)) [ito 4 1], itms (DN (op1 { cn with acked := 0 })) [ito 4 1], itms (DN (op1 cn)) [ito 4 2], itms (D (op1 cn)) [ito 4 2 .issued], itms (D (op1 cn)) [{ item0 2 .dvt .none with domain := .core 1 }, ito 4 2], itms (D { op1 cn with sent := [snt 4 10 1 4] }) [ito 4 4], itms (D { op1 cn with sent := [snt 5 11 2 4] }) [ito 4 5], itms (D { cn with pathTbl := [(0, { window := 3, failed := true, timeouts := 2, mark := 0 })] }) [], D { cn with pathTbl := [(0, { window := 256, mark := 9 })] }, (D cn).sr Reg.FLT_SAFE.SAFE 1, cntMax (D cn) [Reg.DVT_COUNT.COUNT 1, Reg.DVT_COUNT.COUNT 3,  Reg.DVT_COUNT.COUNT 5, Reg.COL_ORPHANS.COUNT, Reg.DVT_COUNT.COUNT 6],
   { itms (D (op1 cn)) [ito 4 1] with led := { (itms (D (op1 cn)) [ito 4 1]).led with lost := true } }]
def ito3 (q op : Nat) (c : CommitRec := .none) : Item := { item0 q .dvt c with body := descOf [op, 10 + 2^32*0, 0x5000, 0x0, 3, 0, 0, 0], domain := .conn 3 }
def msX : List Chip := [itms (DN (op1 cn)) [ito3 4 2], itms (D (op1 cn)) [ito3 4 2], itms (D (op1 cn)) [{ item0 2 .dvt .none with domain := .core 1 }, ito3 4 2], itms (D (op1 { cn with mode := 2 })) [ito3 4 2], { itms (D (op1 cn)) [ito3 4 2] with led := { (itms (D (op1 cn)) [ito3 4 2]).led with lost := true } }]
def P0 (w_ : Nat) (f : Bool) (t : Nat := 0) : DvtPath := { window := w_, failed := f, timeouts := t }
def cng (c : Nat) : Item := { item0 8 (.general 0x0701) .none with domain := .conn 3 }
def lst (d : Chip) : Chip := { d with led := { d.led with lost := true } }
def msC : List Chip := [{}, up, D cn, DN cn, D { cn with state := .connecting, openSeq := 8 }, itms (D { cn with state := .connecting, openSeq := 8, connects := 2 }) [cng 0], itms (DN { cn with state := .connecting, openSeq := 8, connects := 1, peer := 0 }) [cng 0], D { cn with state := .reconnecting, pathTbl := [(0, P0 3 true), (1, P0 3 true)] }, DN { cn with state := .reconnecting, sent := [snt 1 3 1 0] }, DN { cn with state := .reconnecting, sent := [], staged := [pk 1 12] },
  D { cn with sent := [snt 1 3 1 0] }, D { cn with sent := [snt 1 3 3 0] }, DN { cn with sent := [snt 4 3 1 0] , pathTbl := [(0, P0 3 false 1)] }, D { cn with pathTbl := [(0, P0 3 true)] }, DN { cn with paths := 1, mode := 0, sent := [snt 1 3 1 0] }, D { cn with paths := 1, mode := 2, sent := [snt 1 3 1 0] }, D { cn with paths := 1, pathTbl := [(0, P0 1 true)] }, { D cn with agents := [(.block .dvt, { st := .fenced })] },
  { D { cn with state := .error } with dvt := { (D { cn with state := .error }).dvt with cache := [] } }, { (D cn) with dvt := { (D cn).dvt with cache := [] }, mem := { cells := [], poison := [((D cn).rg Reg.DVT_CTX_BASE.BASE + 256 * 3) / 128 * 128] } }, itms (DN { op1 cn with sent := [snt 1 3 1 4] }) [ito 4 1], D { cn with state := .closing, closeSeq := 8 },
  { up with mem := { cells := [], poison := [(up.rg Reg.DVT_CTX_BASE.BASE) / 128 * 128] } },
  cntMax (D { cn with sent := [snt 1 3 1 0] }) [Reg.DVT_COUNT.COUNT 2, Reg.DVT_COUNT.COUNT 3, Reg.DVT_COUNT.COUNT 4, Reg.DVT_COUNT.COUNT 5, Reg.DVT_COUNT.COUNT 7, Reg.DVT_COUNT.COUNT 8, Reg.DVT_COUNT.COUNT 6]]
def crec (m p k : Nat) : List Nat := leBytes 4 0 ++ [m, p, k, 0] ++ leBytes 4 7 ++ leBytes 4 0 ++ List.replicate 48 0
def rec_ (d : Chip) : Chip := putBytes (putBytes (putBytes d 0x8000 (crec 0 2 1)) 0x8040 (crec 0 65 1)) 0x8080 (crec 2 1 1)
def seq2 (d : Chip) : Chip := { d with led := { d.led with nextSeq := 5 } }
def old (d : Chip) : Chip := itms d [item0 2 (.general 1) .none]
def msD : List Chip := [D cn, DN cn, seq2 (D cn), old (D cn), old (DN { cn with sent := [snt 1 3 1 0] }), rec_ (D cn), seq2 (rec_ (noise kup)), old (rec_ kup), D { cn with state := .closing }, seq2 (DN { cn with state := .connecting }), seq2 (D { cn with peerClosed := true }), seq2 (D { cn with closeSeq := 3 }),
  { kup with dvt := { kup.dvt with regions := [(3, { rg0 [(3, 1)] with since := 0 }), (0, rg0 [] 0), (9, rg0 [(1, 2)] 2)], gens := [(3, 1)] } }, { (seq2 (noise kup)) with dvt := { kup.dvt with regions := [(3, rg0), (0, rg0 [(3, 1)] 2), (9, { rg0 [(1,2)] 2 with since := 3 })] } }, old { kup with dvt := { kup.dvt with regions := [(3, rg0), (0, rg0), (9, { rg0 [(1,2)] 2 with since := 3 })] } },
  { (D cn) with dvt := { (D cn).dvt with regions := [(3, rg0)] }, led := { (D cn).led with nextSeq := 5 } }]
def tk (d : Chip) (n : Nat) : Chip := d.sr Reg.TCK_NUMBER.NUMBER n
def k3 (d : Chip) : Chip := (d.sr (Reg.HIF_RING.KIND 0) 3).sr (Reg.HIF_RING.KIND 2) 3
def HW : Nat := 0x2_0000_0000_0000
def cg (d : Chip) (y : Tbl CollPart) (its : List Item) : Chip := itms { d with coll := { d.coll with open_ := y, groups := [(1, descOf [1, 0, 0, 0, 0, 0, 0, 0])] } } its
def cit (c : CommitRec) : Item := { item0 4 .coll c with body := descOf [1 + 3 * 2 ^ 32, 0, 1, 0, 0, 0, 0, 0] }
def msE : List Chip := [cg (D cn) [(3, ⟨1, 0, 0, 1, 0, 0, []⟩)] [], cg (D cn) [] [], cg (D cn) [] [cit .none], cg (D cn) [] [cit .taken], D { cn with sent := [snt 1 3 200 0] }, tk (D { cn with pathTbl := [(0, P0 3 true)] }) 0xFFFFFF,
  lst (D cn), { (D cn).sr (Reg.HIF_STATE.FROZEN 0) 1 with dvt := { (D cn).dvt with regions := [(0, { rg0 with base := HW })] } }]
def pool : List State := (msE.map st) ++ ((msA).map st) ++ ((msX).map st) ++ (msC.map st) ++ ((msD.map (fun d => tk d 0xFFFFFF) ++ msD.map k3).map st) ++ ((msP ++ msB ++ [D { cn with ops := [opn 4 3 6 1] }, itms (D { cn with ops := [opn 4 3 6 1] }) [ito 4 1], itms (D { cn with ops := [opn 4 3 10 1] }) [ito 4 1], itms (D { cn with ops := [opn 4 3 10 1] }) [ito 4 2],itms (D { cn with sent := [snt 4 10 1 4], ops := [opn 4 10 10 1] }) [ito 4 4]]).map st)

theorem test_DvtArrival_witness :
    (∃ (s : State) (h : DvtHead) (data : List (BitVec 8)) (p : DvtPkt), p = pktOf 1 h data ∧ s.chip.dvtUp = false) ∧
    (∃ (s : State) (h : DvtHead) (data : List (BitVec 8)) (p : DvtPkt), p = pktOf 1 h data ∧ s.chip.dvtUp = true ∧ s.chip.coll.out = [] ∧ (h.bad = true ∨ (∀ y, s.chip.conn h.conn.toNat = some y → y.state ≠ .open ∧ y.state ≠ .closing))) ∧
    (∃ (s : State) (h : DvtHead) (p : DvtPkt) (x : DvtConn), p = pktOf 7 h [] ∧ ConnReady s.chip h.conn.toNat x ∧ h.bad = false ∧ h.ce = false ∧ x.mode = 2 ∧ 5 < p.op) ∧
    (∃ (s : State) (h : DvtHead) (data : List (BitVec 8)) (p : DvtPkt) (x : DvtConn), p = pktOf 1 h data ∧ ConnReady s.chip h.conn.toNat x ∧ h.bad = false ∧ h.ce = false ∧ x.mode = 2 ∧ p.op ≤ 5 ∧ lengthOk ((counted s.chip h.conn.toNat).mtu x) p = true ∧ (p.op = 4 ∨ p.op = 5 → s.chip.admits (.conn h.conn.toNat) = true) ∧ 0 < x.above h.psn.toNat x.expected ∧ x.above h.psn.toNat x.expected < 2 ^ 23) ∧
    (∃ (s : State) (h : DvtHead) (p : DvtPkt) (x : DvtConn), p = pktOf 4 h ((leBytes 8 (5 : Nat)).map (BitVec.ofNat 8)) ∧ ConnReady s.chip h.conn.toNat x ∧ h.bad = false ∧ h.ce = false ∧ (x.mode ≠ 2 ∨ p.op ≤ 5) ∧ lengthOk ((counted s.chip h.conn.toNat).mtu x) p = true ∧ (p.op = 4 ∨ p.op = 5) ∧ s.chip.admits (.conn h.conn.toNat) = false) ∧
    (∃ (s : State) (h : DvtHead) (data : List (BitVec 8)) (p : DvtPkt) (x : DvtConn), p = pktOf 1 h data ∧ ConnReady s.chip h.conn.toNat x ∧ h.bad = false ∧ h.ce = false ∧ (x.mode ≠ 2 ∨ p.op ≤ 5) ∧ lengthOk ((counted s.chip h.conn.toNat).mtu x) p = false) ∧
    (∃ (s : State) (h : DvtHead) (data : List (BitVec 8)) (p : DvtPkt) (x : DvtConn), p = pktOf 1 h data ∧ ConnReady s.chip h.conn.toNat x ∧ h.bad = false ∧ h.ce = false ∧ lengthOk ((counted s.chip h.conn.toNat).mtu x) p = true ∧ (p.op = 4 ∨ p.op = 5 → s.chip.admits (.conn h.conn.toNat) = true) ∧ x.mode ≠ 2 ∧ 0 < x.above h.psn.toNat x.expected ∧ x.above h.psn.toNat x.expected < 2 ^ 31 ∧ 255 < x.above h.psn.toNat x.expected) ∧
    (∃ (s : State) (h : DvtHead) (data : List (BitVec 8)) (p : DvtPkt) (x : DvtConn), p = pktOf 1 h data ∧ ConnReady s.chip h.conn.toNat x ∧ h.bad = false ∧ h.ce = false ∧ lengthOk ((counted s.chip h.conn.toNat).mtu x) p = true ∧ (p.op = 4 ∨ p.op = 5 → s.chip.admits (.conn h.conn.toNat) = true) ∧ x.mode ≠ 2 ∧ 0 < x.above h.psn.toNat x.expected ∧ x.above h.psn.toNat x.expected < 2 ^ 31 ∧ x.above h.psn.toNat x.expected ≤ 255 ∧ (∀ q ∈ x.staged, q.psn ≠ h.psn.toNat) ∧ (((x.staged.map pktCells).foldl (· + ·) 0) + (pktCells p)) * 4 ≤ (if x.budget = 0 then s.chip.rg Reg.DVT_REORDER_CFG.BUDGET else x.budget) ∧ (pktCells p) ≤ s.chip.rg Reg.DVT_REORDER_CFG.FREE) ∧
    (∃ (s : State) (h : DvtHead) (data : List (BitVec 8)) (p : DvtPkt) (x : DvtConn), p = pktOf 1 h data ∧ ConnReady s.chip h.conn.toNat x ∧ h.bad = false ∧ h.ce = false ∧ lengthOk ((counted s.chip h.conn.toNat).mtu x) p = true ∧ (p.op = 4 ∨ p.op = 5 → s.chip.admits (.conn h.conn.toNat) = true) ∧ x.mode ≠ 2 ∧ 0 < x.above h.psn.toNat x.expected ∧ x.above h.psn.toNat x.expected < 2 ^ 31 ∧ x.above h.psn.toNat x.expected ≤ 255 ∧ (∀ q ∈ x.staged, q.psn ≠ h.psn.toNat) ∧ ((if x.budget = 0 then s.chip.rg Reg.DVT_REORDER_CFG.BUDGET else x.budget) < (((x.staged.map pktCells).foldl (· + ·) 0) + (pktCells p)) * 4 ∨ s.chip.rg Reg.DVT_REORDER_CFG.FREE < (pktCells p))) ∧
    (∃ (s : State) (h : DvtHead) (data : List (BitVec 8)) (p : DvtPkt) (x : DvtConn), p = pktOf 1 h data ∧ ConnReady s.chip h.conn.toNat x ∧ h.bad = false ∧ h.ce = false ∧ lengthOk ((counted s.chip h.conn.toNat).mtu x) p = true ∧ (p.op = 4 ∨ p.op = 5 → s.chip.admits (.conn h.conn.toNat) = true) ∧ x.mode ≠ 2 ∧ 2 ^ 31 ≤ x.above h.psn.toNat x.expected ∧ (x.atomics.find? (fun e => e.1 = h.psn.toNat) = none ∨ (p.op ≠ 4 ∧ p.op ≠ 5))) ∧
    (∃ (s : State) (h : DvtHead) (data : List (BitVec 8)) (p : DvtPkt) (x : DvtConn), p = pktOf 1 h data ∧ ConnReady s.chip h.conn.toNat x ∧ h.bad = false ∧ h.ce = true ∧ x.mode ≠ 2 ∧ lengthOk ((counted s.chip h.conn.toNat).mtu x) p = true ∧ (p.op = 4 ∨ p.op = 5 → s.chip.admits (.conn h.conn.toNat) = true) ∧ 255 < x.above h.psn.toNat x.expected ∧ x.above h.psn.toNat x.expected < 2 ^ 31) ∧
    (∃ (s : State) (h : DvtHead) (x : DvtConn) (old : Nat), ConnReady s.chip h.conn.toNat x ∧ h.bad = false ∧ h.ce = false ∧ s.chip.admits (.conn h.conn.toNat) = true ∧ x.mode ≠ 2 ∧ 2 ^ 31 ≤ x.above h.psn.toNat x.expected ∧ x.atomics.find? (fun e => e.1 = h.psn.toNat) = some (h.psn.toNat, old)) ∧
    (∃ (s : State) (h : DvtHead) (x : DvtConn), ConnReady s.chip h.conn.toNat x ∧ h.bad = false ∧ h.ce = false ∧ x.staged = [] ∧ x.mode ≠ 2 ∧ x.above h.psn.toNat x.expected = 0) ∧
    (∃ (s : State), s.chip.dvtUp = false) ∧
    (∃ (s : State) (h : DvtHead), s.chip.dvtUp = true ∧ s.chip.coll.out = [] ∧ (h.bad = true ∨ (∀ y, s.chip.conn h.conn.toNat = some y → y.state ≠ .open ∧ y.state ≠ .closing))) ∧
    (∃ (s : State) (p : Fin 12) (w : LinkWord), s.chip.portUp p = true ∧ s.chip.isDvl p = true ∧ PortsQuiet s.chip ∧ w.seq.val = (s.chip.port p).rxNext ∧ p < 8) ∧
    (∃ (s : State) (p : Fin 12) (w : LinkWord), s.chip.portUp p = true ∧ s.chip.isDvl p = true ∧ PortsQuiet s.chip ∧ w.seq.val = (s.chip.port p).rxNext ∧ 8 ≤ p) :=
  ⟨(⟨pool.getD 18 .reset, { conn := (0x3 : BitVec 20), flags := (0x2 : BitVec 8), path := 0, reason := (0x0 : BitVec 8), psn := (0x12c : BitVec 32), msn := (0x1 : BitVec 32), offset := (0x0 : BitVec 64), rkey := (0x0 : BitVec 32), msgBytes := (0x10 : BitVec 32), ce := true, bad := false }, ([(0x0 : BitVec 8), (0x1 : BitVec 8), (0x2 : BitVec 8), (0x3 : BitVec 8), (0x4 : BitVec 8), (0x5 : BitVec 8), (0x6 : BitVec 8), (0x7 : BitVec 8), (0x8 : BitVec 8), (0x9 : BitVec 8), (0xa : BitVec 8), (0xb : BitVec 8), (0xc : BitVec 8), (0xd : BitVec 8), (0xe : BitVec 8), (0xf : BitVec 8)]), { op := 1, flags := 2, path := 0, reason := 0, dst := 3, psn := 300, msn := 1, offset := 0, rkey := 0, msgBytes := 16, data := ([0, 1, 2, 3, 4, 5, 6, 7, 8, 9, 10, 11, 12, 13, 14, 15]) }, by
      decide +kernel⟩),
   (⟨pool.getD 0 .reset, { conn := (0x4 : BitVec 20), flags := (0x2 : BitVec 8), path := 0, reason := (0x0 : BitVec 8), psn := (0x8 : BitVec 32), msn := (0x1 : BitVec 32), offset := (0x0 : BitVec 64), rkey := (0x0 : BitVec 32), msgBytes := (0x10 : BitVec 32), ce := false, bad := false }, ([(0x0 : BitVec 8), (0x1 : BitVec 8), (0x2 : BitVec 8), (0x3 : BitVec 8), (0x4 : BitVec 8), (0x5 : BitVec 8), (0x6 : BitVec 8), (0x7 : BitVec 8), (0x8 : BitVec 8), (0x9 : BitVec 8), (0xa : BitVec 8), (0xb : BitVec 8), (0xc : BitVec 8), (0xd : BitVec 8), (0xe : BitVec 8), (0xf : BitVec 8)]), { op := 1, flags := 2, path := 0, reason := 0, dst := 4, psn := 8, msn := 1, offset := 0, rkey := 0, msgBytes := 16, data := ([0, 1, 2, 3, 4, 5, 6, 7, 8, 9, 10, 11, 12, 13, 14, 15]) }, by
      refine @of_decide_eq_true _ (by haveI := @decAllSome; haveI := @decExSome; haveI := @decOk; haveI := @decErr; infer_instance) ?_
      decide +kernel⟩),
   (⟨pool.getD 12 .reset, { conn := (0x3 : BitVec 20), flags := (0x0 : BitVec 8), path := 0, reason := (0x1 : BitVec 8), psn := (0xa : BitVec 32), msn := (0x1 : BitVec 32), offset := (0x0 : BitVec 64), rkey := (0x0 : BitVec 32), msgBytes := (0x10 : BitVec 32), ce := false, bad := false }, { op := 7, flags := 0, path := 0, reason := 1, dst := 3, psn := 10, msn := 1, offset := 0, rkey := 0, msgBytes := 16, data := [] }, { state := ConnState.open, mode := 2, paths := 2, portMask := 1, pd := 7, budget := 0, peer := 153, peerConn := 5, sport := 0, fn := 0, openSeq := 0, closeSeq := 0, closeFrom := ConnState.open, connects := 0, peerClosed := false, start := 0, nextPsn := 3, nextMsn := 1, acked := 3, expected := 10, pathTbl := [], sent := [], todo := [], ops := [], staged := [], need := [], incoming := [], atomics := [] }, by
      unfold ConnReady
      refine @of_decide_eq_true _ (by haveI := @decAllSome; haveI := @decExSome; haveI := @decOk; haveI := @decErr; infer_instance) ?_
      decide +kernel⟩),
   (⟨pool.getD 12 .reset, { conn := (0x3 : BitVec 20), flags := (0x2 : BitVec 8), path := 0, reason := (0x0 : BitVec 8), psn := (0xc : BitVec 32), msn := (0x1 : BitVec 32), offset := (0x0 : BitVec 64), rkey := (0x0 : BitVec 32), msgBytes := (0x10 : BitVec 32), ce := false, bad := false }, ([(0x0 : BitVec 8), (0x1 : BitVec 8), (0x2 : BitVec 8), (0x3 : BitVec 8), (0x4 : BitVec 8), (0x5 : BitVec 8), (0x6 : BitVec 8), (0x7 : BitVec 8), (0x8 : BitVec 8), (0x9 : BitVec 8), (0xa : BitVec 8), (0xb : BitVec 8), (0xc : BitVec 8), (0xd : BitVec 8), (0xe : BitVec 8), (0xf : BitVec 8)]), { op := 1, flags := 2, path := 0, reason := 0, dst := 3, psn := 12, msn := 1, offset := 0, rkey := 0, msgBytes := 16, data := ([0, 1, 2, 3, 4, 5, 6, 7, 8, 9, 10, 11, 12, 13, 14, 15]) }, { state := ConnState.open, mode := 2, paths := 2, portMask := 1, pd := 7, budget := 0, peer := 153, peerConn := 5, sport := 0, fn := 0, openSeq := 0, closeSeq := 0, closeFrom := ConnState.open, connects := 0, peerClosed := false, start := 0, nextPsn := 3, nextMsn := 1, acked := 3, expected := 10, pathTbl := [], sent := [], todo := [], ops := [], staged := [], need := [], incoming := [], atomics := [] }, by
      unfold ConnReady
      refine @of_decide_eq_true _ (by haveI := @decAllSome; haveI := @decExSome; haveI := @decOk; haveI := @decErr; infer_instance) ?_
      decide +kernel⟩),
   (⟨pool.getD 6 .reset, { conn := (0x3 : BitVec 20), flags := (0x0 : BitVec 8), path := 0, reason := (0x1 : BitVec 8), psn := (0xa : BitVec 32), msn := (0x1 : BitVec 32), offset := (0x0 : BitVec 64), rkey := (0x0 : BitVec 32), msgBytes := (0x10 : BitVec 32), ce := false, bad := false }, { op := 4, flags := 0, path := 0, reason := 1, dst := 3, psn := 10, msn := 1, offset := 0, rkey := 0, msgBytes := 16, data := [5, 0, 0, 0, 0, 0, 0, 0] }, { state := ConnState.open, mode := 1, paths := 2, portMask := 1, pd := 7, budget := 0, peer := 153, peerConn := 5, sport := 0, fn := 0, openSeq := 0, closeSeq := 0, closeFrom := ConnState.open, connects := 0, peerClosed := false, start := 0, nextPsn := 3, nextMsn := 1, acked := 3, expected := 10, pathTbl := [], sent := [], todo := [], ops := [], staged := [], need := [], incoming := [], atomics := [] }, by
      unfold ConnReady
      refine @of_decide_eq_true _ (by haveI := @decAllSome; haveI := @decExSome; haveI := @decOk; haveI := @decErr; infer_instance) ?_
      decide +kernel⟩),
   (⟨pool.getD 0 .reset, { conn := (0x3 : BitVec 20), flags := (0x0 : BitVec 8), path := 0, reason := (0x1 : BitVec 8), psn := (0xa : BitVec 32), msn := (0x1 : BitVec 32), offset := (0x0 : BitVec 64), rkey := (0x0 : BitVec 32), msgBytes := (0x10 : BitVec 32), ce := false, bad := false }, ([(0x0 : BitVec 8), (0x1 : BitVec 8), (0x2 : BitVec 8), (0x3 : BitVec 8), (0x4 : BitVec 8), (0x5 : BitVec 8), (0x6 : BitVec 8), (0x7 : BitVec 8), (0x8 : BitVec 8), (0x9 : BitVec 8), (0xa : BitVec 8), (0xb : BitVec 8), (0xc : BitVec 8), (0xd : BitVec 8), (0xe : BitVec 8), (0xf : BitVec 8)]), { op := 1, flags := 0, path := 0, reason := 1, dst := 3, psn := 10, msn := 1, offset := 0, rkey := 0, msgBytes := 16, data := ([0, 1, 2, 3, 4, 5, 6, 7, 8, 9, 10, 11, 12, 13, 14, 15]) }, { state := ConnState.open, mode := 1, paths := 2, portMask := 1, pd := 7, budget := 0, peer := 153, peerConn := 5, sport := 0, fn := 0, openSeq := 0, closeSeq := 0, closeFrom := ConnState.open, connects := 0, peerClosed := false, start := 0, nextPsn := 3, nextMsn := 1, acked := 3, expected := 10, pathTbl := [], sent := [], todo := [], ops := [], staged := [], need := [], incoming := [], atomics := [] }, by
      unfold ConnReady
      refine @of_decide_eq_true _ (by haveI := @decAllSome; haveI := @decExSome; haveI := @decOk; haveI := @decErr; infer_instance) ?_
      decide +kernel⟩),
   (⟨pool.getD 0 .reset, { conn := (0x3 : BitVec 20), flags := (0x3 : BitVec 8), path := 0, reason := (0x0 : BitVec 8), psn := (0x12c : BitVec 32), msn := (0x1 : BitVec 32), offset := (0x0 : BitVec 64), rkey := (0x0 : BitVec 32), msgBytes := (0x10 : BitVec 32), ce := false, bad := false }, ([(0x0 : BitVec 8), (0x1 : BitVec 8), (0x2 : BitVec 8), (0x3 : BitVec 8), (0x4 : BitVec 8), (0x5 : BitVec 8), (0x6 : BitVec 8), (0x7 : BitVec 8), (0x8 : BitVec 8), (0x9 : BitVec 8), (0xa : BitVec 8), (0xb : BitVec 8), (0xc : BitVec 8), (0xd : BitVec 8), (0xe : BitVec 8), (0xf : BitVec 8)]), { op := 1, flags := 3, path := 0, reason := 0, dst := 3, psn := 300, msn := 1, offset := 0, rkey := 0, msgBytes := 16, data := ([0, 1, 2, 3, 4, 5, 6, 7, 8, 9, 10, 11, 12, 13, 14, 15]) }, { state := ConnState.open, mode := 1, paths := 2, portMask := 1, pd := 7, budget := 0, peer := 153, peerConn := 5, sport := 0, fn := 0, openSeq := 0, closeSeq := 0, closeFrom := ConnState.open, connects := 0, peerClosed := false, start := 0, nextPsn := 3, nextMsn := 1, acked := 3, expected := 10, pathTbl := [], sent := [], todo := [], ops := [], staged := [], need := [], incoming := [], atomics := [] }, by
      unfold ConnReady
      refine @of_decide_eq_true _ (by haveI := @decAllSome; haveI := @decExSome; haveI := @decOk; haveI := @decErr; infer_instance) ?_
      decide +kernel⟩),
   (⟨pool.getD 16 .reset, { conn := (0x3 : BitVec 20), flags := (0x2 : BitVec 8), path := 0, reason := (0x0 : BitVec 8), psn := (0xc : BitVec 32), msn := (0x1 : BitVec 32), offset := (0x0 : BitVec 64), rkey := (0x0 : BitVec 32), msgBytes := (0x10 : BitVec 32), ce := false, bad := false }, ([(0x0 : BitVec 8), (0x1 : BitVec 8), (0x2 : BitVec 8), (0x3 : BitVec 8), (0x4 : BitVec 8), (0x5 : BitVec 8), (0x6 : BitVec 8), (0x7 : BitVec 8), (0x8 : BitVec 8), (0x9 : BitVec 8), (0xa : BitVec 8), (0xb : BitVec 8), (0xc : BitVec 8), (0xd : BitVec 8), (0xe : BitVec 8), (0xf : BitVec 8)]), { op := 1, flags := 2, path := 0, reason := 0, dst := 3, psn := 12, msn := 1, offset := 0, rkey := 0, msgBytes := 16, data := ([0, 1, 2, 3, 4, 5, 6, 7, 8, 9, 10, 11, 12, 13, 14, 15]) }, { state := ConnState.open, mode := 1, paths := 2, portMask := 1, pd := 7, budget := 0, peer := 153, peerConn := 5, sport := 0, fn := 0, openSeq := 0, closeSeq := 0, closeFrom := ConnState.open, connects := 0, peerClosed := false, start := 0, nextPsn := 3, nextMsn := 1, acked := 3, expected := 10, pathTbl := [], sent := [], todo := [], ops := [], staged := [], need := [], incoming := [], atomics := [] }, by
      unfold ConnReady
      refine @of_decide_eq_true _ (by haveI := @decAllSome; haveI := @decExSome; haveI := @decOk; haveI := @decErr; infer_instance) ?_
      decide +kernel⟩),
   (⟨pool.getD 0 .reset, { conn := (0x3 : BitVec 20), flags := (0x2 : BitVec 8), path := 0, reason := (0x0 : BitVec 8), psn := (0xc : BitVec 32), msn := (0x1 : BitVec 32), offset := (0x0 : BitVec 64), rkey := (0x0 : BitVec 32), msgBytes := (0x10 : BitVec 32), ce := false, bad := false }, ([(0x0 : BitVec 8), (0x1 : BitVec 8), (0x2 : BitVec 8), (0x3 : BitVec 8), (0x4 : BitVec 8), (0x5 : BitVec 8), (0x6 : BitVec 8), (0x7 : BitVec 8), (0x8 : BitVec 8), (0x9 : BitVec 8), (0xa : BitVec 8), (0xb : BitVec 8), (0xc : BitVec 8), (0xd : BitVec 8), (0xe : BitVec 8), (0xf : BitVec 8)]), { op := 1, flags := 2, path := 0, reason := 0, dst := 3, psn := 12, msn := 1, offset := 0, rkey := 0, msgBytes := 16, data := ([0, 1, 2, 3, 4, 5, 6, 7, 8, 9, 10, 11, 12, 13, 14, 15]) }, { state := ConnState.open, mode := 1, paths := 2, portMask := 1, pd := 7, budget := 0, peer := 153, peerConn := 5, sport := 0, fn := 0, openSeq := 0, closeSeq := 0, closeFrom := ConnState.open, connects := 0, peerClosed := false, start := 0, nextPsn := 3, nextMsn := 1, acked := 3, expected := 10, pathTbl := [], sent := [], todo := [], ops := [], staged := [], need := [], incoming := [], atomics := [] }, by
      unfold ConnReady
      refine @of_decide_eq_true _ (by haveI := @decAllSome; haveI := @decExSome; haveI := @decOk; haveI := @decErr; infer_instance) ?_
      decide +kernel⟩),
   (⟨pool.getD 0 .reset, { conn := (0x3 : BitVec 20), flags := (0x0 : BitVec 8), path := 0, reason := (0x0 : BitVec 8), psn := (0x7 : BitVec 32), msn := (0x1 : BitVec 32), offset := (0x0 : BitVec 64), rkey := (0x0 : BitVec 32), msgBytes := (0x10 : BitVec 32), ce := false, bad := false }, (List.replicate 4096 (0x7 : BitVec 8)), { op := 1, flags := 0, path := 0, reason := 0, dst := 3, psn := 7, msn := 1, offset := 0, rkey := 0, msgBytes := 16, data := (List.replicate 4096 7) }, { state := ConnState.open, mode := 1, paths := 2, portMask := 1, pd := 7, budget := 0, peer := 153, peerConn := 5, sport := 0, fn := 0, openSeq := 0, closeSeq := 0, closeFrom := ConnState.open, connects := 0, peerClosed := false, start := 0, nextPsn := 3, nextMsn := 1, acked := 3, expected := 10, pathTbl := [], sent := [], todo := [], ops := [], staged := [], need := [], incoming := [], atomics := [] }, by
      unfold ConnReady
      refine @of_decide_eq_true _ (by haveI := @decAllSome; haveI := @decExSome; haveI := @decOk; haveI := @decErr; infer_instance) ?_
      decide +kernel⟩),
   (⟨pool.getD 0 .reset, { conn := (0x3 : BitVec 20), flags := (0x2 : BitVec 8), path := 0, reason := (0x0 : BitVec 8), psn := (0x12c : BitVec 32), msn := (0x1 : BitVec 32), offset := (0x0 : BitVec 64), rkey := (0x0 : BitVec 32), msgBytes := (0x10 : BitVec 32), ce := true, bad := false }, ([(0x0 : BitVec 8), (0x1 : BitVec 8), (0x2 : BitVec 8), (0x3 : BitVec 8), (0x4 : BitVec 8), (0x5 : BitVec 8), (0x6 : BitVec 8), (0x7 : BitVec 8), (0x8 : BitVec 8), (0x9 : BitVec 8), (0xa : BitVec 8), (0xb : BitVec 8), (0xc : BitVec 8), (0xd : BitVec 8), (0xe : BitVec 8), (0xf : BitVec 8)]), { op := 1, flags := 2, path := 0, reason := 0, dst := 3, psn := 300, msn := 1, offset := 0, rkey := 0, msgBytes := 16, data := ([0, 1, 2, 3, 4, 5, 6, 7, 8, 9, 10, 11, 12, 13, 14, 15]) }, { state := ConnState.open, mode := 1, paths := 2, portMask := 1, pd := 7, budget := 0, peer := 153, peerConn := 5, sport := 0, fn := 0, openSeq := 0, closeSeq := 0, closeFrom := ConnState.open, connects := 0, peerClosed := false, start := 0, nextPsn := 3, nextMsn := 1, acked := 3, expected := 10, pathTbl := [], sent := [], todo := [], ops := [], staged := [], need := [], incoming := [], atomics := [] }, by
      unfold ConnReady
      refine @of_decide_eq_true _ (by haveI := @decAllSome; haveI := @decExSome; haveI := @decOk; haveI := @decErr; infer_instance) ?_
      decide +kernel⟩),
   (⟨pool.getD 13 .reset, { conn := (0x3 : BitVec 20), flags := (0x2 : BitVec 8), path := 0, reason := (0x0 : BitVec 8), psn := (0x8 : BitVec 32), msn := (0x1 : BitVec 32), offset := (0x0 : BitVec 64), rkey := (0x0 : BitVec 32), msgBytes := (0x10 : BitVec 32), ce := false, bad := false }, { state := ConnState.open, mode := 1, paths := 2, portMask := 1, pd := 7, budget := 0, peer := 153, peerConn := 5, sport := 0, fn := 0, openSeq := 0, closeSeq := 0, closeFrom := ConnState.open, connects := 0, peerClosed := false, start := 0, nextPsn := 3, nextMsn := 1, acked := 3, expected := 10, pathTbl := [], sent := [], todo := [], ops := [], staged := [], need := [], incoming := [], atomics := [(8, 77), (9, 78)] }, 77, by
      unfold ConnReady
      refine @of_decide_eq_true _ (by haveI := @decAllSome; haveI := @decExSome; haveI := @decOk; haveI := @decErr; infer_instance) ?_
      decide +kernel⟩),
   (⟨pool.getD 0 .reset, { conn := (0x3 : BitVec 20), flags := (0x0 : BitVec 8), path := 0, reason := (0x1 : BitVec 8), psn := (0xa : BitVec 32), msn := (0x1 : BitVec 32), offset := (0x0 : BitVec 64), rkey := (0x0 : BitVec 32), msgBytes := (0x10 : BitVec 32), ce := false, bad := false }, { state := ConnState.open, mode := 1, paths := 2, portMask := 1, pd := 7, budget := 0, peer := 153, peerConn := 5, sport := 0, fn := 0, openSeq := 0, closeSeq := 0, closeFrom := ConnState.open, connects := 0, peerClosed := false, start := 0, nextPsn := 3, nextMsn := 1, acked := 3, expected := 10, pathTbl := [], sent := [], todo := [], ops := [], staged := [], need := [], incoming := [], atomics := [] }, by
      unfold ConnReady
      refine @of_decide_eq_true _ (by haveI := @decAllSome; haveI := @decExSome; haveI := @decOk; haveI := @decErr; infer_instance) ?_
      decide +kernel⟩),
   (⟨pool.getD 18 .reset, by
      decide +kernel⟩),
   (⟨pool.getD 0 .reset, { conn := (0x4 : BitVec 20), flags := (0x2 : BitVec 8), path := 0, reason := (0x0 : BitVec 8), psn := (0x8 : BitVec 32), msn := (0x1 : BitVec 32), offset := (0x0 : BitVec 64), rkey := (0x0 : BitVec 32), msgBytes := (0x10 : BitVec 32), ce := false, bad := false }, by
      refine @of_decide_eq_true _ (by haveI := @decAllSome; haveI := @decExSome; haveI := @decOk; haveI := @decErr; infer_instance) ?_
      decide +kernel⟩),
   (⟨pool.getD 83 .reset, 0, { seq := 0, ack := 0, symKind := 0, symOp := 0, symArg := (0x0 : BitVec 8), crdVc := 0, crdCount := 0, fec := 0 }, by
      unfold PortsQuiet
      refine @of_decide_eq_true _ (by haveI := @decAllSome; haveI := @decExSome; haveI := @decOk; haveI := @decErr; infer_instance) ?_
      decide +kernel⟩),
   (⟨pool.getD 83 .reset, 8, { seq := 0, ack := 0, symKind := 0, symOp := 0, symArg := (0x0 : BitVec 8), crdVc := 0, crdCount := 0, fec := 0 }, by
      unfold PortsQuiet
      refine @of_decide_eq_true _ (by haveI := @decAllSome; haveI := @decExSome; haveI := @decOk; haveI := @decErr; infer_instance) ?_
      decide +kernel⟩)⟩

theorem test_DvtPlacement_witness :
    (∃ (s : State) (h : DvtHead) (data : List (BitVec 8)) (x : DvtConn), ConnReady s.chip h.conn.toNat x ∧ h.bad = false ∧ h.ce = false ∧ x.staged = [] ∧ x.above h.psn.toNat x.expected = 0 ∧ x.mode ≠ 2 ∧ lengthOk (((counted s.chip h.conn.toNat).setConn h.conn.toNat { x with expected := (x.expected + 1) % x.psnMod }).mtu x) (pktOf 1 h data) = true ∧ (counted s.chip h.conn.toNat).placeHeld x (pktOf 1 h data) = true) ∧
    (∃ (s : State) (h : DvtHead) (data : List (BitVec 8)) (x : DvtConn) (r : _) (g : _), ConnReady s.chip h.conn.toNat x ∧ h.bad = false ∧ h.ce = false ∧ x.staged = [] ∧ x.above h.psn.toNat x.expected = 0 ∧ x.mode ≠ 2 ∧ lengthOk (((counted s.chip h.conn.toNat).setConn h.conn.toNat { x with expected := (x.expected + 1) % x.psnMod }).mtu x) (pktOf 1 h data) = true ∧ (counted s.chip h.conn.toNat).placeHeld x (pktOf 1 h data) = false ∧ ((counted s.chip h.conn.toNat).setConn h.conn.toNat { x with expected := (x.expected + 1) % x.psnMod }).regionCheck h.conn.toNat x (pktOf 1 h data) 1 data.length = .ok (r, g) ∧ g.state = 1) ∧
    (∃ (s : State) (h : DvtHead) (data : List (BitVec 8)) (x : DvtConn) (cause : _), ConnReady s.chip h.conn.toNat x ∧ h.bad = false ∧ h.ce = false ∧ x.staged = [] ∧ x.above h.psn.toNat x.expected = 0 ∧ x.mode ≠ 2 ∧ lengthOk (((counted s.chip h.conn.toNat).setConn h.conn.toNat { x with expected := (x.expected + 1) % x.psnMod }).mtu x) (pktOf 1 h data) = true ∧ (counted s.chip h.conn.toNat).placeHeld x (pktOf 1 h data) = false ∧ ((counted s.chip h.conn.toNat).setConn h.conn.toNat { x with expected := (x.expected + 1) % x.psnMod }).regionCheck h.conn.toNat x (pktOf 1 h data) 1 data.length = .error cause ∧ bitOf h.flags.toNat 1 = false ∧ bitOf h.flags.toNat 2 = false) ∧
    (∃ (s : State) (h : DvtHead) (x : DvtConn) (r : Nat) (g : DvtRegion), ConnReady s.chip h.conn.toNat x ∧ h.bad = false ∧ h.ce = false ∧ x.staged = [] ∧ x.above h.psn.toNat x.expected = 0 ∧ x.mode ≠ 2 ∧ h.flags = 3 ∧ (counted s.chip h.conn.toNat).placeHeld x (pktOf 2 h []) = false ∧ ((counted s.chip h.conn.toNat).setConn h.conn.toNat { x with expected := (x.expected + 1) % x.psnMod }).regionCheck h.conn.toNat x (pktOf 2 h []) 0 h.msgBytes.toNat = .ok (r, g) ∧ h.msgBytes.toNat ≤ 4096) ∧
    (∃ (s : State) (h : DvtHead) (v : Word) (x : DvtConn) (r : Nat) (g : DvtRegion), ConnReady s.chip h.conn.toNat x ∧ h.bad = false ∧ h.ce = false ∧ x.staged = [] ∧ x.above h.psn.toNat x.expected = 0 ∧ x.mode ≠ 2 ∧ h.flags = 3 ∧ s.chip.admits (.conn h.conn.toNat) = true ∧ s.chip.commits = true ∧ s.chip.led.items = [] ∧ ((counted s.chip h.conn.toNat).setConn h.conn.toNat { x with expected := (x.expected + 1) % x.psnMod }).regionCheck h.conn.toNat x (pktOf 4 h ((leBytes 8 v.toNat).map (BitVec.ofNat 8))) 2 8 = .ok (r, g) ∧ g.state = 1 ∧ (g.base + h.offset.toNat) % 8 = 0 ∧ ((isPlinth (g.base + h.offset.toNat) = true ∧ deviceOwned (g.base + h.offset.toNat) 8 = false) ∨ isNear (g.base + h.offset.toNat) = true)) ∧
    (∃ (s : State) (h : DvtHead) (v : Word) (x : DvtConn), ConnReady s.chip h.conn.toNat x ∧ h.bad = false ∧ h.ce = false ∧ x.staged = [] ∧ x.above h.psn.toNat x.expected = 0 ∧ s.chip.admits (.conn h.conn.toNat) = true ∧ ((∃ cause, ((counted s.chip h.conn.toNat).setConn h.conn.toNat { x with expected := (x.expected + 1) % x.psnMod }).regionCheck h.conn.toNat x (pktOf 4 h ((leBytes 8 v.toNat).map (BitVec.ofNat 8))) 2 8 = .error cause) ∨ (∃ r g, ((counted s.chip h.conn.toNat).setConn h.conn.toNat { x with expected := (x.expected + 1) % x.psnMod }).regionCheck h.conn.toNat x (pktOf 4 h ((leBytes 8 v.toNat).map (BitVec.ofNat 8))) 2 8 = .ok (r, g) ∧ (g.base + h.offset.toNat) % 8 ≠ 0))) ∧
    (∃ (a : Nat) (b : Nat), a < 2 ^ 64 ∧ b < 2 ^ 64) ∧
    (∃ (s : State) (h : DvtHead) (data : List (BitVec 8)) (x : DvtConn), ConnReady s.chip h.conn.toNat x ∧ h.bad = false ∧ h.ce = false ∧ x.staged = [] ∧ x.above h.psn.toNat x.expected = 0 ∧ x.mode ≠ 2 ∧ bitOf h.flags.toNat 2 = false ∧ s.chip.coll.groups.find? (fun p => p.2.gKey = h.rkey.toNat) = none ∧ bitOf h.flags.toNat 1 = false ∧ bitOf h.flags.toNat 0 = true ∧ lengthOk (((counted s.chip h.conn.toNat).setConn h.conn.toNat { x with expected := (x.expected + 1) % x.psnMod }).mtu x) (pktOf 8 h data) = true) ∧
    (∃ (s : State) (h : DvtHead) (data : List (BitVec 8)) (x : DvtConn) (y : _), ConnReady s.chip h.conn.toNat x ∧ h.bad = false ∧ h.ce = false ∧ x.staged = [] ∧ x.above h.psn.toNat x.expected = 0 ∧ x.mode ≠ 2 ∧ bitOf h.flags.toNat 2 = false ∧ bitOf h.flags.toNat 1 = false ∧ lengthOk (((counted s.chip h.conn.toNat).setConn h.conn.toNat { x with expected := (x.expected + 1) % x.psnMod }).mtu x) (pktOf 8 h data) = true ∧ bitOf h.flags.toNat 0 = false ∧ tget s.chip.coll.open_ h.conn.toNat = some y) ∧
    (∃ (s : State) (h : DvtHead) (t : BitVec 32) (x : DvtConn) (gid : Nat) (g : Desc) (find : Option Item), ConnReady s.chip h.conn.toNat x ∧ h.bad = false ∧ h.ce = false ∧ x.staged = [] ∧ x.above h.psn.toNat x.expected = 0 ∧ x.mode ≠ 2 ∧ bitOf h.flags.toNat 2 = false ∧ bitOf h.flags.toNat 1 = false ∧ s.chip.coll.groups.find? (fun p => p.2.gKey = h.rkey.toNat) = some (gid, g) ∧ find = s.chip.led.items.find? (fun i => i.kind = .coll && !i.state.ended && i.body.cGroup = gid && i.body.cTag = t.toNat) ∧ find = none) ∧
    (∃ (s : State) (h : DvtHead) (t : BitVec 32) (x : DvtConn) (gid : Nat) (g : Desc) (find : Option Item) (i : _), ConnReady s.chip h.conn.toNat x ∧ h.bad = false ∧ h.ce = false ∧ x.staged = [] ∧ x.above h.psn.toNat x.expected = 0 ∧ x.mode ≠ 2 ∧ bitOf h.flags.toNat 2 = false ∧ bitOf h.flags.toNat 1 = false ∧ s.chip.coll.groups.find? (fun p => p.2.gKey = h.rkey.toNat) = some (gid, g) ∧ find = s.chip.led.items.find? (fun i => i.kind = .coll && !i.state.ended && i.body.cGroup = gid && i.body.cTag = t.toNat) ∧ find = some i ∧ s.chip.canWithdraw i.seq = true ∧ s.chip.led.lost = false ∧ s.chip.item i.seq = some i) ∧
    (∃ (s : State) (h : DvtHead) (t : BitVec 32) (x : DvtConn) (gid : Nat) (g : Desc) (find : Option Item) (i : _), ConnReady s.chip h.conn.toNat x ∧ h.bad = false ∧ h.ce = false ∧ x.staged = [] ∧ x.above h.psn.toNat x.expected = 0 ∧ x.mode ≠ 2 ∧ bitOf h.flags.toNat 2 = false ∧ bitOf h.flags.toNat 1 = false ∧ s.chip.coll.groups.find? (fun p => p.2.gKey = h.rkey.toNat) = some (gid, g) ∧ find = s.chip.led.items.find? (fun i => i.kind = .coll && !i.state.ended && i.body.cGroup = gid && i.body.cTag = t.toNat) ∧ find = some i ∧ s.chip.canWithdraw i.seq = false) ∧
    (∃ (s : State) (h : DvtHead) (x : DvtConn), ConnReady s.chip h.conn.toNat x ∧ h.bad = false ∧ x.ops = [] ∧ x.mode ≠ 2 ∧ x.above h.psn.toNat x.acked < 2 ^ 31) ∧
    (∃ (s : State) (h : DvtHead) (x : DvtConn) (o : DvtOp) (i : Item), ConnReady s.chip h.conn.toNat x ∧ h.bad = false ∧ x.ops = [o] ∧ x.mode ≠ 2 ∧ x.above h.psn.toNat x.acked < 2 ^ 31 ∧ s.chip.item o.seq = some i ∧ i.seq = o.seq ∧ i.body.rOp = 1 ∧ i.state.ended = false ∧ i.crec = .none ∧ x.above o.last x.acked ≤ x.above h.psn.toNat x.acked) ∧
    (∃ (s : State) (h : DvtHead) (data : List (BitVec 8)) (x : DvtConn) (o : DvtOp) (i : Item), ConnReady s.chip h.conn.toNat x ∧ h.bad = false ∧ h.ce = false ∧ x.staged = [] ∧ x.ops = [o] ∧ o.msn = h.msn.toNat ∧ x.above h.psn.toNat x.expected = 0 ∧ lengthOk ((counted s.chip h.conn.toNat).mtu x) (pktOf 3 h data) = true ∧ (counted s.chip h.conn.toNat).placeHeld x (pktOf 3 h data) = false ∧ s.chip.item o.seq = some i ∧ i.seq = o.seq ∧ i.body.rOp = 2 ∧ i.state.ended = false ∧ i.crec = .none ∧ i.body.rLen ≤ o.got + data.length) ∧
    (∃ (s : State) (h : DvtHead) (x : DvtConn) (t : DvtSent) (o : DvtOp) (i : Item), s.chip.dvtUp = true ∧ s.chip.coll.out = [] ∧ s.chip.conn h.conn.toNat = some x ∧ x.state = .open ∧ x.todo = [] ∧ x.sent = [t] ∧ s.chip.dvt.cache.contains h.conn.toNat = true ∧ h.bad = false ∧ t.pkt.psn = h.psn.toNat ∧ (t.pkt.op = 4 ∨ t.pkt.op = 5) ∧ 0 < t.sends ∧ x.ops = [o] ∧ o.seq = t.item ∧ s.chip.item t.item = some i ∧ i.seq = t.item ∧ i.state.ended = false ∧ i.crec = .none) ∧
    (∃ (s : State) (h : DvtHead) (x : DvtConn) (o : DvtOp) (i : Item), ConnReady s.chip h.conn.toNat x ∧ h.bad = false ∧ x.ops = [o] ∧ o.msn = h.msn.toNat ∧ h.reason = 2 ∧ s.chip.item o.seq = some i ∧ i.seq = o.seq ∧ i.state.ended = false ∧ i.crec ≠ .taken ∧ s.chip.led.lost = false) ∧
    (∃ (s : State) (h : DvtHead) (x : DvtConn), ConnReady s.chip h.conn.toNat x ∧ h.bad = false ∧ (h.reason = 1 ∨ h.reason = 3)) ∧
    (∃ (s : State) (h : DvtHead) (x : DvtConn), ConnReady s.chip h.conn.toNat x ∧ h.bad = false ∧ h.reason = 2 ∧ (∀ o ∈ x.ops, o.msn ≠ h.msn.toNat)) ∧
    (∃ (s : State) (h : DvtHead) (x : DvtConn), ConnReady s.chip h.conn.toNat x ∧ h.bad = false ∧ h.reason ≠ 1 ∧ h.reason ≠ 2 ∧ h.reason ≠ 3) :=
  ⟨(⟨pool.getD 7 .reset, { conn := (0x3 : BitVec 20), flags := (0x0 : BitVec 8), path := 0, reason := (0x1 : BitVec 8), psn := (0xa : BitVec 32), msn := (0x1 : BitVec 32), offset := (0x0 : BitVec 64), rkey := (0x0 : BitVec 32), msgBytes := (0x10 : BitVec 32), ce := false, bad := false }, (List.replicate 4096 (0x7 : BitVec 8)), { state := ConnState.open, mode := 1, paths := 2, portMask := 1, pd := 7, budget := 0, peer := 153, peerConn := 5, sport := 0, fn := 0, openSeq := 0, closeSeq := 0, closeFrom := ConnState.open, connects := 0, peerClosed := false, start := 0, nextPsn := 3, nextMsn := 1, acked := 3, expected := 10, pathTbl := [], sent := [], todo := [], ops := [], staged := [], need := [], incoming := [], atomics := [] }, by
      unfold ConnReady
      refine @of_decide_eq_true _ (by haveI := @decAllSome; haveI := @decExSome; haveI := @decOk; haveI := @decErr; infer_instance) ?_
      decide +kernel⟩),
   (⟨pool.getD 0 .reset, { conn := (0x3 : BitVec 20), flags := (0x0 : BitVec 8), path := 0, reason := (0x1 : BitVec 8), psn := (0xa : BitVec 32), msn := (0x1 : BitVec 32), offset := (0x0 : BitVec 64), rkey := (0x0 : BitVec 32), msgBytes := (0x10 : BitVec 32), ce := false, bad := false }, (List.replicate 4096 (0x7 : BitVec 8)), { state := ConnState.open, mode := 1, paths := 2, portMask := 1, pd := 7, budget := 0, peer := 153, peerConn := 5, sport := 0, fn := 0, openSeq := 0, closeSeq := 0, closeFrom := ConnState.open, connects := 0, peerClosed := false, start := 0, nextPsn := 3, nextMsn := 1, acked := 3, expected := 10, pathTbl := [], sent := [], todo := [], ops := [], staged := [], need := [], incoming := [], atomics := [] }, 0, { base := 4096, len := 65536, rights := 7, state := 1, pd := 7, inflight := [], seq := 0, since := 0 }, by
      unfold ConnReady
      refine @of_decide_eq_true _ (by haveI := @decAllSome; haveI := @decExSome; haveI := @decOk; haveI := @decErr; infer_instance) ?_
      decide +kernel⟩),
   (⟨pool.getD 66 .reset, { conn := (0x3 : BitVec 20), flags := (0x0 : BitVec 8), path := 0, reason := (0x1 : BitVec 8), psn := (0xa : BitVec 32), msn := (0x1 : BitVec 32), offset := (0x0 : BitVec 64), rkey := (0x0 : BitVec 32), msgBytes := (0x10 : BitVec 32), ce := false, bad := false }, (List.replicate 4096 (0x7 : BitVec 8)), { state := ConnState.open, mode := 1, paths := 2, portMask := 1, pd := 7, budget := 0, peer := 153, peerConn := 5, sport := 0, fn := 0, openSeq := 0, closeSeq := 0, closeFrom := ConnState.open, connects := 0, peerClosed := false, start := 0, nextPsn := 3, nextMsn := 1, acked := 3, expected := 10, pathTbl := [], sent := [], todo := [], ops := [], staged := [], need := [], incoming := [], atomics := [] }, 1, by
      unfold ConnReady
      refine @of_decide_eq_true _ (by haveI := @decAllSome; haveI := @decExSome; haveI := @decOk; haveI := @decErr; infer_instance) ?_
      decide +kernel⟩),
   (⟨pool.getD 0 .reset, { conn := (0x3 : BitVec 20), flags := (0x3 : BitVec 8), path := 0, reason := (0x0 : BitVec 8), psn := (0xa : BitVec 32), msn := (0x1 : BitVec 32), offset := (0x0 : BitVec 64), rkey := (0x0 : BitVec 32), msgBytes := (0x10 : BitVec 32), ce := false, bad := false }, { state := ConnState.open, mode := 1, paths := 2, portMask := 1, pd := 7, budget := 0, peer := 153, peerConn := 5, sport := 0, fn := 0, openSeq := 0, closeSeq := 0, closeFrom := ConnState.open, connects := 0, peerClosed := false, start := 0, nextPsn := 3, nextMsn := 1, acked := 3, expected := 10, pathTbl := [], sent := [], todo := [], ops := [], staged := [], need := [], incoming := [], atomics := [] }, 0, { base := 4096, len := 65536, rights := 7, state := 1, pd := 7, inflight := [], seq := 0, since := 0 }, by
      unfold ConnReady
      refine @of_decide_eq_true _ (by haveI := @decAllSome; haveI := @decExSome; haveI := @decOk; haveI := @decErr; infer_instance) ?_
      decide +kernel⟩),
   (⟨pool.getD 0 .reset, { conn := (0x3 : BitVec 20), flags := (0x3 : BitVec 8), path := 0, reason := (0x0 : BitVec 8), psn := (0xa : BitVec 32), msn := (0x1 : BitVec 32), offset := (0x0 : BitVec 64), rkey := (0x0 : BitVec 32), msgBytes := (0x10 : BitVec 32), ce := false, bad := false }, (0x5 : BitVec 64), { state := ConnState.open, mode := 1, paths := 2, portMask := 1, pd := 7, budget := 0, peer := 153, peerConn := 5, sport := 0, fn := 0, openSeq := 0, closeSeq := 0, closeFrom := ConnState.open, connects := 0, peerClosed := false, start := 0, nextPsn := 3, nextMsn := 1, acked := 3, expected := 10, pathTbl := [], sent := [], todo := [], ops := [], staged := [], need := [], incoming := [], atomics := [] }, 0, { base := 4096, len := 65536, rights := 7, state := 1, pd := 7, inflight := [], seq := 0, since := 0 }, by
      unfold ConnReady
      refine @of_decide_eq_true _ (by haveI := @decAllSome; haveI := @decExSome; haveI := @decOk; haveI := @decErr; infer_instance) ?_
      decide +kernel⟩),
   (⟨pool.getD 66 .reset, { conn := (0x3 : BitVec 20), flags := (0x0 : BitVec 8), path := 0, reason := (0x1 : BitVec 8), psn := (0xa : BitVec 32), msn := (0x1 : BitVec 32), offset := (0x0 : BitVec 64), rkey := (0x0 : BitVec 32), msgBytes := (0x10 : BitVec 32), ce := false, bad := false }, (0x5 : BitVec 64), { state := ConnState.open, mode := 1, paths := 2, portMask := 1, pd := 7, budget := 0, peer := 153, peerConn := 5, sport := 0, fn := 0, openSeq := 0, closeSeq := 0, closeFrom := ConnState.open, connects := 0, peerClosed := false, start := 0, nextPsn := 3, nextMsn := 1, acked := 3, expected := 10, pathTbl := [], sent := [], todo := [], ops := [], staged := [], need := [], incoming := [], atomics := [] }, by unfold ConnReady; refine @of_decide_eq_true _ (by haveI := @decAllSome; haveI := @decExSome; haveI := @decOk; haveI := @decErr; infer_instance) ?_; decide +kernel, by decide +kernel, by decide +kernel, by decide +kernel, by decide +kernel, by decide +kernel, Or.inl (ex_err (by decide +kernel))⟩),
   (⟨0, 0, by
      decide +kernel⟩),
   (⟨pool.getD 5 .reset, { conn := (0x3 : BitVec 20), flags := (0x1 : BitVec 8), path := 0, reason := (0x2 : BitVec 8), psn := (0xa : BitVec 32), msn := (0x1 : BitVec 32), offset := (0x0 : BitVec 64), rkey := (0x0 : BitVec 32), msgBytes := (0x10 : BitVec 32), ce := false, bad := false }, (List.replicate 4096 (0x7 : BitVec 8)), { state := ConnState.open, mode := 1, paths := 2, portMask := 1, pd := 7, budget := 0, peer := 153, peerConn := 5, sport := 0, fn := 0, openSeq := 0, closeSeq := 0, closeFrom := ConnState.open, connects := 0, peerClosed := false, start := 0, nextPsn := 3, nextMsn := 1, acked := 3, expected := 10, pathTbl := [(0, { window := 3, mark := 0, timeouts := 0, failed := true, ecn := false, probeAt := 0 })], sent := [], todo := [], ops := [], staged := [], need := [], incoming := [], atomics := [] }, by
      unfold ConnReady
      refine @of_decide_eq_true _ (by haveI := @decAllSome; haveI := @decExSome; haveI := @decOk; haveI := @decErr; infer_instance) ?_
      decide +kernel⟩),
   (⟨pool.getD 0 .reset, { conn := (0x3 : BitVec 20), flags := (0x0 : BitVec 8), path := 0, reason := (0x1 : BitVec 8), psn := (0xa : BitVec 32), msn := (0x1 : BitVec 32), offset := (0x0 : BitVec 64), rkey := (0x0 : BitVec 32), msgBytes := (0x10 : BitVec 32), ce := false, bad := false }, (List.replicate 4096 (0x7 : BitVec 8)), { state := ConnState.open, mode := 1, paths := 2, portMask := 1, pd := 7, budget := 0, peer := 153, peerConn := 5, sport := 0, fn := 0, openSeq := 0, closeSeq := 0, closeFrom := ConnState.open, connects := 0, peerClosed := false, start := 0, nextPsn := 3, nextMsn := 1, acked := 3, expected := 10, pathTbl := [], sent := [], todo := [], ops := [], staged := [], need := [], incoming := [], atomics := [] }, { group := 1, node := 0, tag := 0, type := 1, rank := 0, ofs := 0, data := [] }, by
      unfold ConnReady
      refine @of_decide_eq_true _ (by haveI := @decAllSome; haveI := @decExSome; haveI := @decOk; haveI := @decErr; infer_instance) ?_
      decide +kernel⟩),
   (⟨pool.getD 0 .reset, { conn := (0x3 : BitVec 20), flags := (0x0 : BitVec 8), path := 0, reason := (0x1 : BitVec 8), psn := (0xa : BitVec 32), msn := (0x1 : BitVec 32), offset := (0x0 : BitVec 64), rkey := (0x0 : BitVec 32), msgBytes := (0x10 : BitVec 32), ce := false, bad := false }, (0x3 : BitVec 32), { state := ConnState.open, mode := 1, paths := 2, portMask := 1, pd := 7, budget := 0, peer := 153, peerConn := 5, sport := 0, fn := 0, openSeq := 0, closeSeq := 0, closeFrom := ConnState.open, connects := 0, peerClosed := false, start := 0, nextPsn := 3, nextMsn := 1, acked := 3, expected := 10, pathTbl := [], sent := [], todo := [], ops := [], staged := [], need := [], incoming := [], atomics := [] }, 1, { w0 := (0x1 : BitVec 64), w1 := (0x0 : BitVec 64), w2 := (0x0 : BitVec 64), w3 := (0x0 : BitVec 64), w4 := (0x0 : BitVec 64), w5 := (0x0 : BitVec 64), w6 := (0x0 : BitVec 64), w7 := (0x0 : BitVec 64) }, none, by
      unfold ConnReady
      refine @of_decide_eq_true _ (by haveI := @decAllSome; haveI := @decExSome; haveI := @decOk; haveI := @decErr; infer_instance) ?_
      decide +kernel⟩),
   (⟨pool.getD 2 .reset, { conn := (0x3 : BitVec 20), flags := (0x0 : BitVec 8), path := 0, reason := (0x1 : BitVec 8), psn := (0xa : BitVec 32), msn := (0x1 : BitVec 32), offset := (0x0 : BitVec 64), rkey := (0x0 : BitVec 32), msgBytes := (0x10 : BitVec 32), ce := false, bad := false }, (0x3 : BitVec 32), { state := ConnState.open, mode := 1, paths := 2, portMask := 1, pd := 7, budget := 0, peer := 153, peerConn := 5, sport := 0, fn := 0, openSeq := 0, closeSeq := 0, closeFrom := ConnState.open, connects := 0, peerClosed := false, start := 0, nextPsn := 3, nextMsn := 1, acked := 3, expected := 10, pathTbl := [], sent := [], todo := [], ops := [], staged := [], need := [], incoming := [], atomics := [] }, 1, { w0 := (0x1 : BitVec 64), w1 := (0x0 : BitVec 64), w2 := (0x0 : BitVec 64), w3 := (0x0 : BitVec 64), w4 := (0x0 : BitVec 64), w5 := (0x0 : BitVec 64), w6 := (0x0 : BitVec 64), w7 := (0x0 : BitVec 64) }, some { seq := 4, slot := 4, state := ItemState.running, domain := Domain.core 1, tag := 9, owner := 65, replied := false, redo := false, replayed := false, plan := 0, acceptTick := 0, endTick := 0, origin := Origin.core 1 7, fn := 257, kind := ItemKind.coll, body := { w0 := (0x300000001 : BitVec 64), w1 := (0x0 : BitVec 64), w2 := (0x1 : BitVec 64), w3 := (0x0 : BitVec 64), w4 := (0x0 : BitVec 64), w5 := (0x0 : BitVec 64), w6 := (0x0 : BitVec 64), w7 := (0x0 : BitVec 64) }, crec := CommitRec.none, fin := none, redoRec := none, carried := false, single := false, reply := { code := 0, lo := 0, hi := 0 } }, { seq := 4, slot := 4, state := ItemState.running, domain := Domain.core 1, tag := 9, owner := 65, replied := false, redo := false, replayed := false, plan := 0, acceptTick := 0, endTick := 0, origin := Origin.core 1 7, fn := 257, kind := ItemKind.coll, body := { w0 := (0x300000001 : BitVec 64), w1 := (0x0 : BitVec 64), w2 := (0x1 : BitVec 64), w3 := (0x0 : BitVec 64), w4 := (0x0 : BitVec 64), w5 := (0x0 : BitVec 64), w6 := (0x0 : BitVec 64), w7 := (0x0 : BitVec 64) }, crec := CommitRec.none, fin := none, redoRec := none, carried := false, single := false, reply := { code := 0, lo := 0, hi := 0 } }, by
      unfold ConnReady
      refine @of_decide_eq_true _ (by haveI := @decAllSome; haveI := @decExSome; haveI := @decOk; haveI := @decErr; infer_instance) ?_
      decide +kernel⟩),
   (⟨pool.getD 3 .reset, { conn := (0x3 : BitVec 20), flags := (0x0 : BitVec 8), path := 0, reason := (0x1 : BitVec 8), psn := (0xa : BitVec 32), msn := (0x1 : BitVec 32), offset := (0x0 : BitVec 64), rkey := (0x0 : BitVec 32), msgBytes := (0x10 : BitVec 32), ce := false, bad := false }, (0x3 : BitVec 32), { state := ConnState.open, mode := 1, paths := 2, portMask := 1, pd := 7, budget := 0, peer := 153, peerConn := 5, sport := 0, fn := 0, openSeq := 0, closeSeq := 0, closeFrom := ConnState.open, connects := 0, peerClosed := false, start := 0, nextPsn := 3, nextMsn := 1, acked := 3, expected := 10, pathTbl := [], sent := [], todo := [], ops := [], staged := [], need := [], incoming := [], atomics := [] }, 1, { w0 := (0x1 : BitVec 64), w1 := (0x0 : BitVec 64), w2 := (0x0 : BitVec 64), w3 := (0x0 : BitVec 64), w4 := (0x0 : BitVec 64), w5 := (0x0 : BitVec 64), w6 := (0x0 : BitVec 64), w7 := (0x0 : BitVec 64) }, some { seq := 4, slot := 4, state := ItemState.running, domain := Domain.core 1, tag := 9, owner := 65, replied := false, redo := false, replayed := false, plan := 0, acceptTick := 0, endTick := 0, origin := Origin.core 1 7, fn := 257, kind := ItemKind.coll, body := { w0 := (0x300000001 : BitVec 64), w1 := (0x0 : BitVec 64), w2 := (0x1 : BitVec 64), w3 := (0x0 : BitVec 64), w4 := (0x0 : BitVec 64), w5 := (0x0 : BitVec 64), w6 := (0x0 : BitVec 64), w7 := (0x0 : BitVec 64) }, crec := CommitRec.taken, fin := none, redoRec := none, carried := false, single := false, reply := { code := 0, lo := 0, hi := 0 } }, { seq := 4, slot := 4, state := ItemState.running, domain := Domain.core 1, tag := 9, owner := 65, replied := false, redo := false, replayed := false, plan := 0, acceptTick := 0, endTick := 0, origin := Origin.core 1 7, fn := 257, kind := ItemKind.coll, body := { w0 := (0x300000001 : BitVec 64), w1 := (0x0 : BitVec 64), w2 := (0x1 : BitVec 64), w3 := (0x0 : BitVec 64), w4 := (0x0 : BitVec 64), w5 := (0x0 : BitVec 64), w6 := (0x0 : BitVec 64), w7 := (0x0 : BitVec 64) }, crec := CommitRec.taken, fin := none, redoRec := none, carried := false, single := false, reply := { code := 0, lo := 0, hi := 0 } }, by
      unfold ConnReady
      refine @of_decide_eq_true _ (by haveI := @decAllSome; haveI := @decExSome; haveI := @decOk; haveI := @decErr; infer_instance) ?_
      decide +kernel⟩),
   (⟨pool.getD 0 .reset, { conn := (0x3 : BitVec 20), flags := (0x2 : BitVec 8), path := 0, reason := (0x0 : BitVec 8), psn := (0x12c : BitVec 32), msn := (0x1 : BitVec 32), offset := (0x0 : BitVec 64), rkey := (0x0 : BitVec 32), msgBytes := (0x10 : BitVec 32), ce := true, bad := false }, { state := ConnState.open, mode := 1, paths := 2, portMask := 1, pd := 7, budget := 0, peer := 153, peerConn := 5, sport := 0, fn := 0, openSeq := 0, closeSeq := 0, closeFrom := ConnState.open, connects := 0, peerClosed := false, start := 0, nextPsn := 3, nextMsn := 1, acked := 3, expected := 10, pathTbl := [], sent := [], todo := [], ops := [], staged := [], need := [], incoming := [], atomics := [] }, by
      unfold ConnReady
      refine @of_decide_eq_true _ (by haveI := @decAllSome; haveI := @decExSome; haveI := @decOk; haveI := @decErr; infer_instance) ?_
      decide +kernel⟩),
   (⟨pool.getD 91 .reset, { conn := (0x3 : BitVec 20), flags := (0x2 : BitVec 8), path := 0, reason := (0x0 : BitVec 8), psn := (0x12c : BitVec 32), msn := (0x1 : BitVec 32), offset := (0x0 : BitVec 64), rkey := (0x0 : BitVec 32), msgBytes := (0x10 : BitVec 32), ce := true, bad := false }, { state := ConnState.open, mode := 1, paths := 2, portMask := 1, pd := 7, budget := 0, peer := 153, peerConn := 5, sport := 0, fn := 0, openSeq := 0, closeSeq := 0, closeFrom := ConnState.open, connects := 0, peerClosed := false, start := 0, nextPsn := 3, nextMsn := 1, acked := 3, expected := 10, pathTbl := [], sent := [], todo := [], ops := [{ seq := 4, first := 3, last := 6, msn := 1, got := 0, poison := false }], staged := [], need := [], incoming := [], atomics := [] }, { seq := 4, first := 3, last := 6, msn := 1, got := 0, poison := false }, { seq := 4, slot := 4, state := ItemState.running, domain := Domain.conn 3, tag := 9, owner := 65, replied := false, redo := false, replayed := false, plan := 0, acceptTick := 0, endTick := 0, origin := Origin.core 1 7, fn := 257, kind := ItemKind.dvt, body := { w0 := (0x1 : BitVec 64), w1 := (0x64 : BitVec 64), w2 := (0x5000 : BitVec 64), w3 := (0x0 : BitVec 64), w4 := (0x3 : BitVec 64), w5 := (0x0 : BitVec 64), w6 := (0x0 : BitVec 64), w7 := (0x0 : BitVec 64) }, crec := CommitRec.none, fin := none, redoRec := none, carried := false, single := false, reply := { code := 0, lo := 0, hi := 0 } }, by
      unfold ConnReady
      refine @of_decide_eq_true _ (by haveI := @decAllSome; haveI := @decExSome; haveI := @decOk; haveI := @decErr; infer_instance) ?_
      decide +kernel⟩),
   (⟨pool.getD 22 .reset, { conn := (0x3 : BitVec 20), flags := (0x0 : BitVec 8), path := 0, reason := (0x1 : BitVec 8), psn := (0xa : BitVec 32), msn := (0x1 : BitVec 32), offset := (0x0 : BitVec 64), rkey := (0x0 : BitVec 32), msgBytes := (0x10 : BitVec 32), ce := false, bad := false }, (List.replicate 4096 (0x7 : BitVec 8)), { state := ConnState.open, mode := 1, paths := 2, portMask := 1, pd := 7, budget := 0, peer := 153, peerConn := 5, sport := 0, fn := 0, openSeq := 0, closeSeq := 0, closeFrom := ConnState.open, connects := 0, peerClosed := false, start := 0, nextPsn := 3, nextMsn := 1, acked := 3, expected := 10, pathTbl := [], sent := [], todo := [], ops := [{ seq := 4, first := 3, last := 6, msn := 1, got := 0, poison := false }], staged := [], need := [], incoming := [], atomics := [] }, { seq := 4, first := 3, last := 6, msn := 1, got := 0, poison := false }, { seq := 4, slot := 4, state := ItemState.running, domain := Domain.conn 3, tag := 9, owner := 65, replied := false, redo := false, replayed := false, plan := 0, acceptTick := 0, endTick := 0, origin := Origin.core 1 7, fn := 257, kind := ItemKind.dvt, body := { w0 := (0x2 : BitVec 64), w1 := (0xa : BitVec 64), w2 := (0x5000 : BitVec 64), w3 := (0x0 : BitVec 64), w4 := (0x3 : BitVec 64), w5 := (0x0 : BitVec 64), w6 := (0x0 : BitVec 64), w7 := (0x0 : BitVec 64) }, crec := CommitRec.none, fin := none, redoRec := none, carried := false, single := false, reply := { code := 0, lo := 0, hi := 0 } }, by
      unfold ConnReady
      refine @of_decide_eq_true _ (by haveI := @decAllSome; haveI := @decExSome; haveI := @decOk; haveI := @decErr; infer_instance) ?_
      decide +kernel⟩),
   (⟨pool.getD 96 .reset, { conn := (0x3 : BitVec 20), flags := (0x0 : BitVec 8), path := 0, reason := (0x1 : BitVec 8), psn := (0xa : BitVec 32), msn := (0x1 : BitVec 32), offset := (0x0 : BitVec 64), rkey := (0x0 : BitVec 32), msgBytes := (0x10 : BitVec 32), ce := false, bad := false }, { state := ConnState.open, mode := 1, paths := 2, portMask := 1, pd := 7, budget := 0, peer := 153, peerConn := 5, sport := 0, fn := 0, openSeq := 0, closeSeq := 0, closeFrom := ConnState.open, connects := 0, peerClosed := false, start := 0, nextPsn := 3, nextMsn := 1, acked := 3, expected := 10, pathTbl := [], sent := [{ pkt := { op := 4, flags := 0, path := 0, reason := 0, dst := 3, psn := 10, msn := 1, offset := 0, rkey := 0, msgBytes := 0, data := [1, 1, 1, 1, 1, 1, 1, 1] }, item := 4, src := none, sends := 1, region := none }], todo := [], ops := [{ seq := 4, first := 3, last := 6, msn := 1, got := 0, poison := false }], staged := [], need := [], incoming := [], atomics := [] }, { pkt := { op := 4, flags := 0, path := 0, reason := 0, dst := 3, psn := 10, msn := 1, offset := 0, rkey := 0, msgBytes := 0, data := [1, 1, 1, 1, 1, 1, 1, 1] }, item := 4, src := none, sends := 1, region := none }, { seq := 4, first := 3, last := 6, msn := 1, got := 0, poison := false }, { seq := 4, slot := 4, state := ItemState.running, domain := Domain.conn 3, tag := 9, owner := 65, replied := false, redo := false, replayed := false, plan := 0, acceptTick := 0, endTick := 0, origin := Origin.core 1 7, fn := 257, kind := ItemKind.dvt, body := { w0 := (0x4 : BitVec 64), w1 := (0x64 : BitVec 64), w2 := (0x5000 : BitVec 64), w3 := (0x0 : BitVec 64), w4 := (0x3 : BitVec 64), w5 := (0x0 : BitVec 64), w6 := (0x0 : BitVec 64), w7 := (0x0 : BitVec 64) }, crec := CommitRec.none, fin := none, redoRec := none, carried := false, single := false, reply := { code := 0, lo := 0, hi := 0 } }, by
      decide +kernel⟩),
   (⟨pool.getD 22 .reset, { conn := (0x3 : BitVec 20), flags := (0x1 : BitVec 8), path := 0, reason := (0x2 : BitVec 8), psn := (0xa : BitVec 32), msn := (0x1 : BitVec 32), offset := (0x0 : BitVec 64), rkey := (0x0 : BitVec 32), msgBytes := (0x10 : BitVec 32), ce := false, bad := false }, { state := ConnState.open, mode := 1, paths := 2, portMask := 1, pd := 7, budget := 0, peer := 153, peerConn := 5, sport := 0, fn := 0, openSeq := 0, closeSeq := 0, closeFrom := ConnState.open, connects := 0, peerClosed := false, start := 0, nextPsn := 3, nextMsn := 1, acked := 3, expected := 10, pathTbl := [], sent := [], todo := [], ops := [{ seq := 4, first := 3, last := 6, msn := 1, got := 0, poison := false }], staged := [], need := [], incoming := [], atomics := [] }, { seq := 4, first := 3, last := 6, msn := 1, got := 0, poison := false }, { seq := 4, slot := 4, state := ItemState.running, domain := Domain.conn 3, tag := 9, owner := 65, replied := false, redo := false, replayed := false, plan := 0, acceptTick := 0, endTick := 0, origin := Origin.core 1 7, fn := 257, kind := ItemKind.dvt, body := { w0 := (0x2 : BitVec 64), w1 := (0xa : BitVec 64), w2 := (0x5000 : BitVec 64), w3 := (0x0 : BitVec 64), w4 := (0x3 : BitVec 64), w5 := (0x0 : BitVec 64), w6 := (0x0 : BitVec 64), w7 := (0x0 : BitVec 64) }, crec := CommitRec.none, fin := none, redoRec := none, carried := false, single := false, reply := { code := 0, lo := 0, hi := 0 } }, by
      unfold ConnReady
      refine @of_decide_eq_true _ (by haveI := @decAllSome; haveI := @decExSome; haveI := @decOk; haveI := @decErr; infer_instance) ?_
      decide +kernel⟩),
   (⟨pool.getD 0 .reset, { conn := (0x3 : BitVec 20), flags := (0x0 : BitVec 8), path := 0, reason := (0x1 : BitVec 8), psn := (0xa : BitVec 32), msn := (0x1 : BitVec 32), offset := (0x0 : BitVec 64), rkey := (0x0 : BitVec 32), msgBytes := (0x10 : BitVec 32), ce := false, bad := false }, { state := ConnState.open, mode := 1, paths := 2, portMask := 1, pd := 7, budget := 0, peer := 153, peerConn := 5, sport := 0, fn := 0, openSeq := 0, closeSeq := 0, closeFrom := ConnState.open, connects := 0, peerClosed := false, start := 0, nextPsn := 3, nextMsn := 1, acked := 3, expected := 10, pathTbl := [], sent := [], todo := [], ops := [], staged := [], need := [], incoming := [], atomics := [] }, by
      unfold ConnReady
      refine @of_decide_eq_true _ (by haveI := @decAllSome; haveI := @decExSome; haveI := @decOk; haveI := @decErr; infer_instance) ?_
      decide +kernel⟩),
   (⟨pool.getD 0 .reset, { conn := (0x3 : BitVec 20), flags := (0x1 : BitVec 8), path := 0, reason := (0x2 : BitVec 8), psn := (0xa : BitVec 32), msn := (0x1 : BitVec 32), offset := (0x0 : BitVec 64), rkey := (0x0 : BitVec 32), msgBytes := (0x10 : BitVec 32), ce := false, bad := false }, { state := ConnState.open, mode := 1, paths := 2, portMask := 1, pd := 7, budget := 0, peer := 153, peerConn := 5, sport := 0, fn := 0, openSeq := 0, closeSeq := 0, closeFrom := ConnState.open, connects := 0, peerClosed := false, start := 0, nextPsn := 3, nextMsn := 1, acked := 3, expected := 10, pathTbl := [], sent := [], todo := [], ops := [], staged := [], need := [], incoming := [], atomics := [] }, by
      unfold ConnReady
      refine @of_decide_eq_true _ (by haveI := @decAllSome; haveI := @decExSome; haveI := @decOk; haveI := @decErr; infer_instance) ?_
      decide +kernel⟩),
   (⟨pool.getD 0 .reset, { conn := (0x3 : BitVec 20), flags := (0x2 : BitVec 8), path := 0, reason := (0x0 : BitVec 8), psn := (0x12c : BitVec 32), msn := (0x1 : BitVec 32), offset := (0x0 : BitVec 64), rkey := (0x0 : BitVec 32), msgBytes := (0x10 : BitVec 32), ce := true, bad := false }, { state := ConnState.open, mode := 1, paths := 2, portMask := 1, pd := 7, budget := 0, peer := 153, peerConn := 5, sport := 0, fn := 0, openSeq := 0, closeSeq := 0, closeFrom := ConnState.open, connects := 0, peerClosed := false, start := 0, nextPsn := 3, nextMsn := 1, acked := 3, expected := 10, pathTbl := [], sent := [], todo := [], ops := [], staged := [], need := [], incoming := [], atomics := [] }, by
      unfold ConnReady
      refine @of_decide_eq_true _ (by haveI := @decAllSome; haveI := @decExSome; haveI := @decOk; haveI := @decErr; infer_instance) ?_
      decide +kernel⟩)⟩

theorem test_DvtConnections_witness :
    (∃ (s : State), s.chip.dvtUp = false) ∧
    (∃ (s : State) (c : BitVec 20) (peer : BitVec 128) (n : BitVec 8), s.chip.dvtUp = true ∧ (∀ x, s.chip.conn c.toNat = some x → x.peer ≠ peer.toNat ∨ x.mode = 2 ∨ (x.state ≠ .open ∧ x.state ≠ .reconnecting ∧ x.state ≠ .closing)) ∧ s.chip.dvt.conns.find? (fun (y : Nat × DvtConn) => y.2.state = .connecting && y.2.peer = peer.toNat && y.2.paths = n.toNat) = none) ∧
    (∃ (s : State) (c : BitVec 20) (peer : BitVec 128) (n : BitVec 8) (k : _) (y : _), s.chip.dvtUp = true ∧ (∀ x, s.chip.conn c.toNat = some x → x.peer ≠ peer.toNat ∨ x.mode = 2 ∨ (x.state ≠ .open ∧ x.state ≠ .reconnecting ∧ x.state ≠ .closing)) ∧ s.chip.dvt.conns.find? (fun (y : Nat × DvtConn) => y.2.state = .connecting && y.2.peer = peer.toNat && y.2.paths = n.toNat) = some (k, y)) ∧
    (∃ (s : State) (c : BitVec 20) (peer : BitVec 128) (x : DvtConn), s.chip.dvtUp = true ∧ s.chip.conn c.toNat = some x ∧ x.peer = peer.toNat ∧ x.mode ≠ 2 ∧ (x.state = .open ∨ x.state = .reconnecting ∨ x.state = .closing) ∧ x.sent = [] ∧ x.todo = [] ∧ x.ops = []) ∧
    (∃ (s : State) (c : BitVec 20), s.chip.dvtUp = true ∧ s.chip.conn c.toNat = none) ∧
    (∃ (s : State) (c : BitVec 20) (x : DvtConn), s.chip.dvtUp = true ∧ s.chip.conn c.toNat = some x ∧ x.state ≠ .connecting ∧ x.state ≠ .reconnecting) ∧
    (∃ (s : State) (c : BitVec 20) (x : DvtConn) (i : Item), s.chip.dvtUp = true ∧ s.chip.conn c.toNat = some x ∧ x.state = .connecting ∧ s.chip.item x.openSeq = some i ∧ i.seq = x.openSeq ∧ i.state.ended = false ∧ predsEnded s.chip.led.items i = true ∧ s.chip.commits = true) ∧
    (∃ (s : State) (c : BitVec 20) (x : DvtConn), s.chip.dvtUp = true ∧ s.chip.conn c.toNat = some x ∧ x.state = .reconnecting ∧ x.sent = [] ∧ x.todo = [] ∧ x.ops = []) ∧
    (∃ (s : State) (c : BitVec 20) (x : DvtConn), s.chip.dvtUp = true ∧ s.chip.conn c.toNat = some x ∧ s.chip.led.items = []) ∧
    (∃ (s : State) (c : BitVec 20), s.chip.conn c.toNat = none) ∧
    (∃ (s : State) (c : BitVec 20) (x : DvtConn), s.chip.conn c.toNat = some x ∧ x.state ≠ .connecting) ∧
    (∃ (s : State) (c : BitVec 20) (x : DvtConn), s.chip.conn c.toNat = some x ∧ x.state = .connecting ∧ x.connects < 2) ∧
    (∃ (s : State) (c : BitVec 20) (x : DvtConn) (i : Item), s.chip.conn c.toNat = some x ∧ x.state = .connecting ∧ 2 ≤ x.connects ∧ s.chip.item x.openSeq = some i ∧ i.seq = x.openSeq ∧ i.state.ended = false ∧ i.crec ≠ .taken ∧ s.chip.led.lost = false) ∧
    (∃ (s : State) (c : BitVec 20) (x : DvtConn), s.chip.conn c.toNat = some x ∧ x.state ≠ .reconnecting) ∧
    (∃ (s : State) (c : BitVec 20) (x : DvtConn), s.chip.conn c.toNat = some x ∧ x.state = .reconnecting ∧ s.chip.led.items = []) ∧
    (∃ (s : State) (c : BitVec 20) (psn : BitVec 32) (x : DvtConn), s.chip.dvtUp = true ∧ s.chip.conn c.toNat = some x ∧ x.sent.find? (fun t => t.pkt.psn = psn.toNat && t.sends > 0) = none) ∧
    (∃ (s : State) (c : BitVec 20) (psn : BitVec 32) (x : DvtConn) (t : _), s.chip.dvtUp = true ∧ s.chip.conn c.toNat = some x ∧ x.sent = [t] ∧ t.pkt.psn = psn.toNat ∧ 0 < t.sends ∧ x.state = .open ∧ (x.pathOf t.pkt.path).timeouts + 1 < s.chip.rg Reg.DVT_RETRY_CFG.PATH_FAILS ∧ t.sends < s.chip.rg Reg.DVT_RETRY_CFG.LIMIT ∧ s.chip.sentHeld t = false ∧ (∀ a k, t.src = some (a, k) → ∀ q ∈ s.chip.mu.flips, overlaps a k q.1 32 = false)) ∧
    (∃ (s : State) (c : BitVec 20) (psn : BitVec 32) (x : DvtConn) (t : _), s.chip.dvtUp = true ∧ s.chip.conn c.toNat = some x ∧ x.sent = [t] ∧ t.pkt.psn = psn.toNat ∧ 0 < t.sends ∧ x.state = .open ∧ x.mode ≠ 2 ∧ (x.pathOf t.pkt.path).timeouts + 1 < s.chip.rg Reg.DVT_RETRY_CFG.PATH_FAILS ∧ s.chip.rg Reg.DVT_RETRY_CFG.LIMIT ≤ t.sends) ∧
    (∃ (s : State) (c : BitVec 20) (j : Fin 64) (x : DvtConn), s.chip.dvtUp = true ∧ s.chip.conn c.toNat = some x ∧ ((x.pathOf j).failed = false ∨ s.chip.tick < (x.pathOf j).probeAt + 1024)) ∧
    (∃ (s : State) (c : BitVec 20) (j : Fin 64) (x : DvtConn), s.chip.dvtUp = true ∧ s.chip.conn c.toNat = some x ∧ (x.pathOf j).failed = true ∧ (x.state = .open ∨ x.state = .closing) ∧ (x.pathOf j).probeAt + 1024 ≤ s.chip.tick) ∧
    (∃ (s : State) (c : BitVec 20) (j : Fin 64) (x : DvtConn), s.chip.conn c.toNat = some x ∧ x.paths ≤ j.val) ∧
    (∃ (s : State) (c : BitVec 20) (j : Fin 64) (x : DvtConn), s.chip.conn c.toNat = some x ∧ j.val < x.paths ∧ (x.pathOf j).failed = false ∧ (∃ k, k < x.paths ∧ k ≠ j.val ∧ (x.pathOf k).failed = false)) ∧
    (∃ (s : State) (c : BitVec 20) (j : Fin 64) (x : DvtConn), s.chip.conn c.toNat = some x ∧ x.paths = 1 ∧ j = 0 ∧ (x.pathOf 0).failed = false ∧ x.mode ≠ 2) ∧
    (∃ (s : State) (c : BitVec 20), s.chip.dvt.cache.contains c.toNat = true) ∧
    (∃ (s : State) (c : BitVec 20), s.chip.dvt.cache.contains c.toNat = false ∧ s.chip.conn c.toNat = none) ∧
    (∃ (s : State) (c : BitVec 20), s.chip.dvt.cache.contains c.toNat = false ∧ s.chip.anyPoison (s.chip.rg Reg.DVT_CTX_BASE.BASE + 256 * c.toNat) 256 = false) ∧
    (∃ (s : State) (c : BitVec 20), s.chip.dvt.cache.contains c.toNat = false ∧ (s.chip.conn c.toNat).isSome = true ∧ s.chip.led.items = [] ∧ s.chip.anyPoison (s.chip.rg Reg.DVT_CTX_BASE.BASE + 256 * c.toNat) 256 = true) :=
  ⟨(⟨pool.getD 18 .reset, by
      decide +kernel⟩),
   (⟨pool.getD 0 .reset, (0x0 : BitVec 20), (0x0 : BitVec 128), (0x2 : BitVec 8), by
      refine @of_decide_eq_true _ (by haveI := @decAllSome; haveI := @decExSome; haveI := @decOk; haveI := @decErr; infer_instance) ?_
      decide +kernel⟩),
   (⟨pool.getD 31 .reset, (0x0 : BitVec 20), (0x99 : BitVec 128), (0x2 : BitVec 8), 3, { state := ConnState.connecting, mode := 1, paths := 2, portMask := 1, pd := 7, budget := 0, peer := 153, peerConn := 5, sport := 0, fn := 0, openSeq := 8, closeSeq := 0, closeFrom := ConnState.open, connects := 0, peerClosed := false, start := 0, nextPsn := 3, nextMsn := 1, acked := 3, expected := 10, pathTbl := [], sent := [], todo := [], ops := [], staged := [], need := [], incoming := [], atomics := [] }, by
      refine @of_decide_eq_true _ (by haveI := @decAllSome; haveI := @decExSome; haveI := @decOk; haveI := @decErr; infer_instance) ?_
      decide +kernel⟩),
   (⟨pool.getD 0 .reset, (0x3 : BitVec 20), (0x99 : BitVec 128), { state := ConnState.open, mode := 1, paths := 2, portMask := 1, pd := 7, budget := 0, peer := 153, peerConn := 5, sport := 0, fn := 0, openSeq := 0, closeSeq := 0, closeFrom := ConnState.open, connects := 0, peerClosed := false, start := 0, nextPsn := 3, nextMsn := 1, acked := 3, expected := 10, pathTbl := [], sent := [], todo := [], ops := [], staged := [], need := [], incoming := [], atomics := [] }, by
      decide +kernel⟩),
   (⟨pool.getD 0 .reset, (0x0 : BitVec 20), by
      decide +kernel⟩),
   (⟨pool.getD 0 .reset, (0x3 : BitVec 20), { state := ConnState.open, mode := 1, paths := 2, portMask := 1, pd := 7, budget := 0, peer := 153, peerConn := 5, sport := 0, fn := 0, openSeq := 0, closeSeq := 0, closeFrom := ConnState.open, connects := 0, peerClosed := false, start := 0, nextPsn := 3, nextMsn := 1, acked := 3, expected := 10, pathTbl := [], sent := [], todo := [], ops := [], staged := [], need := [], incoming := [], atomics := [] }, by
      decide +kernel⟩),
   (⟨pool.getD 32 .reset, (0x3 : BitVec 20), { state := ConnState.connecting, mode := 1, paths := 2, portMask := 1, pd := 7, budget := 0, peer := 153, peerConn := 5, sport := 0, fn := 0, openSeq := 8, closeSeq := 0, closeFrom := ConnState.open, connects := 2, peerClosed := false, start := 0, nextPsn := 3, nextMsn := 1, acked := 3, expected := 10, pathTbl := [], sent := [], todo := [], ops := [], staged := [], need := [], incoming := [], atomics := [] }, { seq := 8, slot := 8, state := ItemState.running, domain := Domain.conn 3, tag := 9, owner := 65, replied := false, redo := false, replayed := false, plan := 0, acceptTick := 0, endTick := 0, origin := Origin.core 1 7, fn := 257, kind := ItemKind.general 1793, body := { w0 := (0x0 : BitVec 64), w1 := (0x0 : BitVec 64), w2 := (0x0 : BitVec 64), w3 := (0x0 : BitVec 64), w4 := (0x0 : BitVec 64), w5 := (0x0 : BitVec 64), w6 := (0x0 : BitVec 64), w7 := (0x0 : BitVec 64) }, crec := CommitRec.none, fin := none, redoRec := none, carried := false, single := false, reply := { code := 0, lo := 0, hi := 0 } }, by
      decide +kernel⟩),
   (⟨pool.getD 34 .reset, (0x3 : BitVec 20), { state := ConnState.reconnecting, mode := 1, paths := 2, portMask := 1, pd := 7, budget := 0, peer := 153, peerConn := 5, sport := 0, fn := 0, openSeq := 0, closeSeq := 0, closeFrom := ConnState.open, connects := 0, peerClosed := false, start := 0, nextPsn := 3, nextMsn := 1, acked := 3, expected := 10, pathTbl := [(0, { window := 3, mark := 0, timeouts := 0, failed := true, ecn := false, probeAt := 0 }), (1, { window := 3, mark := 0, timeouts := 0, failed := true, ecn := false, probeAt := 0 })], sent := [], todo := [], ops := [], staged := [], need := [], incoming := [], atomics := [] }, by
      decide +kernel⟩),
   (⟨pool.getD 0 .reset, (0x3 : BitVec 20), { state := ConnState.open, mode := 1, paths := 2, portMask := 1, pd := 7, budget := 0, peer := 153, peerConn := 5, sport := 0, fn := 0, openSeq := 0, closeSeq := 0, closeFrom := ConnState.open, connects := 0, peerClosed := false, start := 0, nextPsn := 3, nextMsn := 1, acked := 3, expected := 10, pathTbl := [], sent := [], todo := [], ops := [], staged := [], need := [], incoming := [], atomics := [] }, by
      decide +kernel⟩),
   (⟨pool.getD 0 .reset, (0x0 : BitVec 20), by
      decide +kernel⟩),
   (⟨pool.getD 0 .reset, (0x3 : BitVec 20), { state := ConnState.open, mode := 1, paths := 2, portMask := 1, pd := 7, budget := 0, peer := 153, peerConn := 5, sport := 0, fn := 0, openSeq := 0, closeSeq := 0, closeFrom := ConnState.open, connects := 0, peerClosed := false, start := 0, nextPsn := 3, nextMsn := 1, acked := 3, expected := 10, pathTbl := [], sent := [], todo := [], ops := [], staged := [], need := [], incoming := [], atomics := [] }, by
      decide +kernel⟩),
   (⟨pool.getD 31 .reset, (0x3 : BitVec 20), { state := ConnState.connecting, mode := 1, paths := 2, portMask := 1, pd := 7, budget := 0, peer := 153, peerConn := 5, sport := 0, fn := 0, openSeq := 8, closeSeq := 0, closeFrom := ConnState.open, connects := 0, peerClosed := false, start := 0, nextPsn := 3, nextMsn := 1, acked := 3, expected := 10, pathTbl := [], sent := [], todo := [], ops := [], staged := [], need := [], incoming := [], atomics := [] }, by
      decide +kernel⟩),
   (⟨pool.getD 32 .reset, (0x3 : BitVec 20), { state := ConnState.connecting, mode := 1, paths := 2, portMask := 1, pd := 7, budget := 0, peer := 153, peerConn := 5, sport := 0, fn := 0, openSeq := 8, closeSeq := 0, closeFrom := ConnState.open, connects := 2, peerClosed := false, start := 0, nextPsn := 3, nextMsn := 1, acked := 3, expected := 10, pathTbl := [], sent := [], todo := [], ops := [], staged := [], need := [], incoming := [], atomics := [] }, { seq := 8, slot := 8, state := ItemState.running, domain := Domain.conn 3, tag := 9, owner := 65, replied := false, redo := false, replayed := false, plan := 0, acceptTick := 0, endTick := 0, origin := Origin.core 1 7, fn := 257, kind := ItemKind.general 1793, body := { w0 := (0x0 : BitVec 64), w1 := (0x0 : BitVec 64), w2 := (0x0 : BitVec 64), w3 := (0x0 : BitVec 64), w4 := (0x0 : BitVec 64), w5 := (0x0 : BitVec 64), w6 := (0x0 : BitVec 64), w7 := (0x0 : BitVec 64) }, crec := CommitRec.none, fin := none, redoRec := none, carried := false, single := false, reply := { code := 0, lo := 0, hi := 0 } }, by
      decide +kernel⟩),
   (⟨pool.getD 0 .reset, (0x3 : BitVec 20), { state := ConnState.open, mode := 1, paths := 2, portMask := 1, pd := 7, budget := 0, peer := 153, peerConn := 5, sport := 0, fn := 0, openSeq := 0, closeSeq := 0, closeFrom := ConnState.open, connects := 0, peerClosed := false, start := 0, nextPsn := 3, nextMsn := 1, acked := 3, expected := 10, pathTbl := [], sent := [], todo := [], ops := [], staged := [], need := [], incoming := [], atomics := [] }, by
      decide +kernel⟩),
   (⟨pool.getD 34 .reset, (0x3 : BitVec 20), { state := ConnState.reconnecting, mode := 1, paths := 2, portMask := 1, pd := 7, budget := 0, peer := 153, peerConn := 5, sport := 0, fn := 0, openSeq := 0, closeSeq := 0, closeFrom := ConnState.open, connects := 0, peerClosed := false, start := 0, nextPsn := 3, nextMsn := 1, acked := 3, expected := 10, pathTbl := [(0, { window := 3, mark := 0, timeouts := 0, failed := true, ecn := false, probeAt := 0 }), (1, { window := 3, mark := 0, timeouts := 0, failed := true, ecn := false, probeAt := 0 })], sent := [], todo := [], ops := [], staged := [], need := [], incoming := [], atomics := [] }, by
      decide +kernel⟩),
   (⟨pool.getD 0 .reset, (0x3 : BitVec 20), (0x3 : BitVec 32), { state := ConnState.open, mode := 1, paths := 2, portMask := 1, pd := 7, budget := 0, peer := 153, peerConn := 5, sport := 0, fn := 0, openSeq := 0, closeSeq := 0, closeFrom := ConnState.open, connects := 0, peerClosed := false, start := 0, nextPsn := 3, nextMsn := 1, acked := 3, expected := 10, pathTbl := [], sent := [], todo := [], ops := [], staged := [], need := [], incoming := [], atomics := [] }, by
      decide +kernel⟩),
   (⟨pool.getD 37 .reset, (0x3 : BitVec 20), (0x3 : BitVec 32), { state := ConnState.open, mode := 1, paths := 2, portMask := 1, pd := 7, budget := 0, peer := 153, peerConn := 5, sport := 0, fn := 0, openSeq := 0, closeSeq := 0, closeFrom := ConnState.open, connects := 0, peerClosed := false, start := 0, nextPsn := 3, nextMsn := 1, acked := 3, expected := 10, pathTbl := [], sent := [{ pkt := { op := 1, flags := 0, path := 0, reason := 0, dst := 3, psn := 3, msn := 1, offset := 0, rkey := 0, msgBytes := 0, data := [1, 1, 1, 1, 1, 1, 1, 1] }, item := 0, src := none, sends := 1, region := none }], todo := [], ops := [], staged := [], need := [], incoming := [], atomics := [] }, { pkt := { op := 1, flags := 0, path := 0, reason := 0, dst := 3, psn := 3, msn := 1, offset := 0, rkey := 0, msgBytes := 0, data := [1, 1, 1, 1, 1, 1, 1, 1] }, item := 0, src := none, sends := 1, region := none }, by decide +kernel, by decide +kernel, by decide +kernel, by decide +kernel, by decide +kernel, by decide +kernel, by decide +kernel, by decide +kernel, by decide +kernel, (by intro _ _ h; cases h)⟩),
   (⟨pool.getD 4 .reset, (0x3 : BitVec 20), (0x3 : BitVec 32), { state := ConnState.open, mode := 1, paths := 2, portMask := 1, pd := 7, budget := 0, peer := 153, peerConn := 5, sport := 0, fn := 0, openSeq := 0, closeSeq := 0, closeFrom := ConnState.open, connects := 0, peerClosed := false, start := 0, nextPsn := 3, nextMsn := 1, acked := 3, expected := 10, pathTbl := [], sent := [{ pkt := { op := 1, flags := 0, path := 0, reason := 0, dst := 3, psn := 3, msn := 1, offset := 0, rkey := 0, msgBytes := 0, data := [1, 1, 1, 1, 1, 1, 1, 1] }, item := 0, src := none, sends := 200, region := none }], todo := [], ops := [], staged := [], need := [], incoming := [], atomics := [] }, { pkt := { op := 1, flags := 0, path := 0, reason := 0, dst := 3, psn := 3, msn := 1, offset := 0, rkey := 0, msgBytes := 0, data := [1, 1, 1, 1, 1, 1, 1, 1] }, item := 0, src := none, sends := 200, region := none }, by
      decide +kernel⟩),
   (⟨pool.getD 0 .reset, (0x3 : BitVec 20), 0, { state := ConnState.open, mode := 1, paths := 2, portMask := 1, pd := 7, budget := 0, peer := 153, peerConn := 5, sport := 0, fn := 0, openSeq := 0, closeSeq := 0, closeFrom := ConnState.open, connects := 0, peerClosed := false, start := 0, nextPsn := 3, nextMsn := 1, acked := 3, expected := 10, pathTbl := [], sent := [], todo := [], ops := [], staged := [], need := [], incoming := [], atomics := [] }, by
      decide +kernel⟩),
   (⟨pool.getD 5 .reset, (0x3 : BitVec 20), 0, { state := ConnState.open, mode := 1, paths := 2, portMask := 1, pd := 7, budget := 0, peer := 153, peerConn := 5, sport := 0, fn := 0, openSeq := 0, closeSeq := 0, closeFrom := ConnState.open, connects := 0, peerClosed := false, start := 0, nextPsn := 3, nextMsn := 1, acked := 3, expected := 10, pathTbl := [(0, { window := 3, mark := 0, timeouts := 0, failed := true, ecn := false, probeAt := 0 })], sent := [], todo := [], ops := [], staged := [], need := [], incoming := [], atomics := [] }, by
      decide +kernel⟩),
   (⟨pool.getD 0 .reset, (0x3 : BitVec 20), 2, { state := ConnState.open, mode := 1, paths := 2, portMask := 1, pd := 7, budget := 0, peer := 153, peerConn := 5, sport := 0, fn := 0, openSeq := 0, closeSeq := 0, closeFrom := ConnState.open, connects := 0, peerClosed := false, start := 0, nextPsn := 3, nextMsn := 1, acked := 3, expected := 10, pathTbl := [], sent := [], todo := [], ops := [], staged := [], need := [], incoming := [], atomics := [] }, by
      decide +kernel⟩),
   (⟨pool.getD 0 .reset, (0x3 : BitVec 20), 0, { state := ConnState.open, mode := 1, paths := 2, portMask := 1, pd := 7, budget := 0, peer := 153, peerConn := 5, sport := 0, fn := 0, openSeq := 0, closeSeq := 0, closeFrom := ConnState.open, connects := 0, peerClosed := false, start := 0, nextPsn := 3, nextMsn := 1, acked := 3, expected := 10, pathTbl := [], sent := [], todo := [], ops := [], staged := [], need := [], incoming := [], atomics := [] }, by decide +kernel, by decide +kernel, by decide +kernel, ⟨1, by decide +kernel⟩⟩),
   (⟨pool.getD 41 .reset, (0x3 : BitVec 20), 0, { state := ConnState.open, mode := 0, paths := 1, portMask := 1, pd := 7, budget := 0, peer := 153, peerConn := 5, sport := 0, fn := 0, openSeq := 0, closeSeq := 0, closeFrom := ConnState.open, connects := 0, peerClosed := false, start := 0, nextPsn := 3, nextMsn := 1, acked := 3, expected := 10, pathTbl := [], sent := [{ pkt := { op := 1, flags := 0, path := 0, reason := 0, dst := 3, psn := 3, msn := 1, offset := 0, rkey := 0, msgBytes := 0, data := [1, 1, 1, 1, 1, 1, 1, 1] }, item := 0, src := none, sends := 1, region := none }], todo := [], ops := [], staged := [], need := [], incoming := [], atomics := [] }, by
      decide +kernel⟩),
   (⟨pool.getD 0 .reset, (0x3 : BitVec 20), by
      decide +kernel⟩),
   (⟨pool.getD 0 .reset, (0x0 : BitVec 20), by
      decide +kernel⟩),
   (⟨pool.getD 0 .reset, (0x0 : BitVec 20), by
      decide +kernel⟩),
   (⟨pool.getD 46 .reset, (0x3 : BitVec 20), by
      decide +kernel⟩)⟩

theorem test_DvtCommands_witness :
    (∃ (s : State) (src : Submit) (x : Desc), TakenUp s.chip src .dvt true 3 ∧ x.rOp = 1 ∧ (((1 = 4 ∨ 1 = 5) ∧ (x.rLen ≠ 8 ∨ x.rRemote % 8 ≠ 0)) ∨ 0x40000000 < x.rLen ∨ wf x.w0 9 23 ≠ 0 ∨ wf x.w2 52 12 ≠ 0 ∨ wf x.w4 20 44 ≠ 0 ∨ x.w7 ≠ 0 ∨ s.chip.unitOk (s.chip.originFn src.origin) x.rLocal x.rLen (1 ≠ 1) = false ∨ (∀ y, s.chip.conn x.rConn = some y → y.state ≠ .open ∨ y.peerClosed = true ∨ (isVF (s.chip.originFn src.origin) = true ∧ y.fn ≠ s.chip.originFn src.origin)))) ∧
    (∃ (s : State) (src : Submit) (x : Desc) (y : DvtConn), TakenUp s.chip src .dvt true 3 ∧ x.rOp = 1 ∧ (1 = 4 ∨ 1 = 5 → x.rLen = 8 ∧ x.rRemote % 8 = 0) ∧ wf x.w0 9 23 = 0 ∧ wf x.w2 52 12 = 0 ∧ wf x.w4 20 44 = 0 ∧ x.w7 = 0 ∧ x.rLen ≤ 0x40000000 ∧ s.chip.unitOk (s.chip.originFn src.origin) x.rLocal x.rLen (1 ≠ 1) = true ∧ s.chip.conn x.rConn = some y ∧ y.state = .open ∧ y.peerClosed = false ∧ (isVF (s.chip.originFn src.origin) = true → y.fn = s.chip.originFn src.origin) ∧ s.chip.coll.out = [] ∧ y.todo = [] ∧ (∀ i ∈ s.chip.led.items, i.seq < s.chip.led.nextSeq)) ∧
    (∃ (s : State) (src : Submit) (x : Desc), x.rOp ∉ [1, 2, 4, 5] ∧ TakenUp s.chip src .dvt true 3) ∧
    (∃ (x : Desc), x.rOp ≠ 1 ∧ (1 ≠ 1 ∨ x.rOp ∈ [2, 4, 5])) ∧
    (∃ (s : State) (src : Submit) (a : Nat), s.chip.coreServes (s.chip.roleCore 1) = true ∧ TakenUp s.chip src .dvt true 0 ∧ RecordClean s.chip a 64 ∧ connRecOk s.chip (s.chip.bytes a 64) = false) ∧
    (∃ (s : State) (src : Submit) (a : Nat) (c : _), s.chip.coreServes (s.chip.roleCore 1) = true ∧ TakenUp s.chip src .dvt true 0 ∧ RecordClean s.chip a 64 ∧ connRecOk s.chip (s.chip.bytes a 64) = true ∧ firstFree s.chip.dvt.conns 1048576 = some c) ∧
    (∃ (s : State) (src : Submit) (c : BitVec 32), s.chip.coreServes (s.chip.roleCore 1) = true ∧ TakenUp s.chip src .dvt true 0 ∧ s.chip.conn c.toNat = none) ∧
    (∃ (s : State) (src : Submit) (c : BitVec 32) (y : DvtConn), s.chip.coreServes (s.chip.roleCore 1) = true ∧ TakenUp s.chip src .dvt true 0 ∧ s.chip.conn c.toNat = some y ∧ (y.state = .closing ∨ y.state = .connecting ∨ y.closeSeq ≠ 0 ∨ (isVF (s.chip.originFn src.origin) = true ∧ y.fn ≠ s.chip.originFn src.origin))) ∧
    (∃ (s : State) (src : Submit) (c : BitVec 32) (y : DvtConn), s.chip.coreServes (s.chip.roleCore 1) = true ∧ TakenUp s.chip src .dvt true 0 ∧ s.chip.conn c.toNat = some y ∧ y.state ≠ .closing ∧ y.state ≠ .connecting ∧ y.closeSeq = 0 ∧ (isVF (s.chip.originFn src.origin) = true → y.fn = s.chip.originFn src.origin) ∧ s.chip.led.nextSeq ≠ 0) ∧
    (∃ (s : State) (src : Submit) (x : Desc), s.chip.coreServes (s.chip.roleCore 1) = true ∧ TakenUp s.chip src .dvt true 0 ∧ (2 ^ 52 ≤ x.w0.toNat ∨ x.w1 = 0 ∨ 2 ^ 46 < x.w1.toNat ∨ 7 < wf x.w2 32 8 ∨ wf x.w2 0 32 ≠ 0 ∨ wf x.w2 40 24 ≠ 0 ∨ wf x.w3 32 32 ≠ 0 ∨ s.chip.unitOk (s.chip.originFn src.origin) x.w0.toNat x.w1.toNat true = false)) ∧
    (∃ (s : State) (src : Submit) (x : Desc) (r : _), s.chip.coreServes (s.chip.roleCore 1) = true ∧ TakenUp s.chip src .dvt true 0 ∧ x.w0.toNat < 2 ^ 52 ∧ x.w1 ≠ 0 ∧ x.w1.toNat ≤ 2 ^ 46 ∧ wf x.w2 32 8 ≤ 7 ∧ wf x.w2 0 32 = 0 ∧ wf x.w2 40 24 = 0 ∧ wf x.w3 32 32 = 0 ∧ s.chip.unitOk (s.chip.originFn src.origin) x.w0.toNat x.w1.toNat true = true ∧ firstFree s.chip.dvt.regions 262144 = some r) ∧
    (∃ (s : State) (src : Submit) (k : BitVec 32), s.chip.coreServes (s.chip.roleCore 1) = true ∧ TakenUp s.chip src .dvt true 0 ∧ tget s.chip.dvt.regions (k.toNat % 2 ^ 18) = none) ∧
    (∃ (s : State) (src : Submit) (k : BitVec 32) (g : _), s.chip.coreServes (s.chip.roleCore 1) = true ∧ TakenUp s.chip src .dvt true 0 ∧ tget s.chip.dvt.regions (k.toNat % 2 ^ 18) = some g ∧ (g.state ≠ 1 ∨ (tget s.chip.dvt.gens (k.toNat % 2 ^ 18)).getD 0 ≠ k.toNat / 2 ^ 18)) ∧
    (∃ (s : State) (src : Submit) (k : BitVec 32) (g : _), s.chip.coreServes (s.chip.roleCore 1) = true ∧ TakenUp s.chip src .dvt true 0 ∧ tget s.chip.dvt.regions (k.toNat % 2 ^ 18) = some g ∧ g.state = 1 ∧ (tget s.chip.dvt.gens (k.toNat % 2 ^ 18)).getD 0 = k.toNat / 2 ^ 18) ∧
    (∃ (s : State) (r : BitVec 18), tget s.chip.dvt.regions r.toNat = none) ∧
    (∃ (s : State) (r : BitVec 18) (g : _), tget s.chip.dvt.regions r.toNat = some g ∧ (g.state ≠ 2 ∨ g.inflight = [] ∨ s.chip.tick < g.since + 400000 / max (s.chip.rg Reg.TCK_PERIOD.PERIOD) 1)) ∧
    (∃ (s : State) (r : BitVec 18) (g : _), tget s.chip.dvt.regions r.toNat = some g ∧ g.state = 2 ∧ g.inflight ≠ [] ∧ g.since + 400000 / max (s.chip.rg Reg.TCK_PERIOD.PERIOD) 1 ≤ s.chip.tick ∧ s.chip.item g.seq = none) :=
  ⟨(⟨pool.getD 67 .reset, { origin := Origin.ring 0, tag := (0x5 : BitVec 32) }, { w0 := (0x700000001 : BitVec 64), w1 := (0x40000001 : BitVec 64), w2 := (0x1000 : BitVec 64), w3 := (0x8 : BitVec 64), w4 := (0x3 : BitVec 64), w5 := (0x0 : BitVec 64), w6 := (0x0 : BitVec 64), w7 := (0x0 : BitVec 64) }, by
      unfold TakenUp
      refine @of_decide_eq_true _ (by haveI := @decAllSome; haveI := @decExSome; haveI := @decOk; haveI := @decErr; infer_instance) ?_
      decide +kernel⟩),
   (⟨pool.getD 67 .reset, { origin := Origin.ring 0, tag := (0x5 : BitVec 32) }, { w0 := (0x700000001 : BitVec 64), w1 := (0x1388 : BitVec 64), w2 := (0x1000 : BitVec 64), w3 := (0x8 : BitVec 64), w4 := (0x3 : BitVec 64), w5 := (0x0 : BitVec 64), w6 := (0x0 : BitVec 64), w7 := (0x0 : BitVec 64) }, { state := ConnState.open, mode := 1, paths := 2, portMask := 1, pd := 7, budget := 0, peer := 153, peerConn := 5, sport := 0, fn := 0, openSeq := 0, closeSeq := 0, closeFrom := ConnState.open, connects := 0, peerClosed := false, start := 0, nextPsn := 3, nextMsn := 1, acked := 3, expected := 10, pathTbl := [], sent := [], todo := [], ops := [], staged := [], need := [], incoming := [], atomics := [] }, by
      unfold TakenUp
      refine @of_decide_eq_true _ (by haveI := @decAllSome; haveI := @decExSome; haveI := @decOk; haveI := @decErr; infer_instance) ?_
      decide +kernel⟩),
   (⟨pool.getD 67 .reset, { origin := Origin.ring 0, tag := (0x5 : BitVec 32) }, { w0 := (0x1000 : BitVec 64), w1 := (0x1000 : BitVec 64), w2 := (0x700000000 : BitVec 64), w3 := (0x5 : BitVec 64), w4 := (0x0 : BitVec 64), w5 := (0x0 : BitVec 64), w6 := (0x0 : BitVec 64), w7 := (0x0 : BitVec 64) }, by
      unfold TakenUp
      refine @of_decide_eq_true _ (by haveI := @decAllSome; haveI := @decExSome; haveI := @decOk; haveI := @decErr; infer_instance) ?_
      decide +kernel⟩),
   (⟨{ w0 := (0x700000002 : BitVec 64), w1 := (0x64 : BitVec 64), w2 := (0x1000 : BitVec 64), w3 := (0x8 : BitVec 64), w4 := (0x3 : BitVec 64), w5 := (0x0 : BitVec 64), w6 := (0x0 : BitVec 64), w7 := (0x0 : BitVec 64) }, by
      decide +kernel⟩),
   (⟨pool.getD 0 .reset, { origin := Origin.ring 0, tag := (0x5 : BitVec 32) }, 0, by
      unfold TakenUp RecordClean
      refine @of_decide_eq_true _ (by haveI := @decAllSome; haveI := @decExSome; haveI := @decOk; haveI := @decErr; infer_instance) ?_
      decide +kernel⟩),
   (⟨pool.getD 56 .reset, { origin := Origin.ring 0, tag := (0x5 : BitVec 32) }, 32768, 0, by decide +kernel, by unfold TakenUp; refine @of_decide_eq_true _ (by haveI := @decAllSome; haveI := @decExSome; haveI := @decOk; haveI := @decErr; infer_instance) ?_; decide +kernel, by unfold RecordClean; refine @of_decide_eq_true _ (by haveI := @decAllSome; haveI := @decExSome; haveI := @decOk; haveI := @decErr; infer_instance) ?_; decide +kernel, by decide +kernel, firstFree_zero _ _ (by decide +kernel) (by decide)⟩),
   (⟨pool.getD 0 .reset, { origin := Origin.ring 0, tag := (0x5 : BitVec 32) }, (0x9 : BitVec 32), by
      unfold TakenUp
      refine @of_decide_eq_true _ (by haveI := @decAllSome; haveI := @decExSome; haveI := @decOk; haveI := @decErr; infer_instance) ?_
      decide +kernel⟩),
   (⟨pool.getD 0 .reset, { origin := Origin.ring 2, tag := (0xfffffff0 : BitVec 32) }, (0x3 : BitVec 32), { state := ConnState.open, mode := 1, paths := 2, portMask := 1, pd := 7, budget := 0, peer := 153, peerConn := 5, sport := 0, fn := 0, openSeq := 0, closeSeq := 0, closeFrom := ConnState.open, connects := 0, peerClosed := false, start := 0, nextPsn := 3, nextMsn := 1, acked := 3, expected := 10, pathTbl := [], sent := [], todo := [], ops := [], staged := [], need := [], incoming := [], atomics := [] }, by
      unfold TakenUp
      refine @of_decide_eq_true _ (by haveI := @decAllSome; haveI := @decExSome; haveI := @decOk; haveI := @decErr; infer_instance) ?_
      decide +kernel⟩),
   (⟨pool.getD 0 .reset, { origin := Origin.ring 0, tag := (0x5 : BitVec 32) }, (0x3 : BitVec 32), { state := ConnState.open, mode := 1, paths := 2, portMask := 1, pd := 7, budget := 0, peer := 153, peerConn := 5, sport := 0, fn := 0, openSeq := 0, closeSeq := 0, closeFrom := ConnState.open, connects := 0, peerClosed := false, start := 0, nextPsn := 3, nextMsn := 1, acked := 3, expected := 10, pathTbl := [], sent := [], todo := [], ops := [], staged := [], need := [], incoming := [], atomics := [] }, by
      unfold TakenUp
      refine @of_decide_eq_true _ (by haveI := @decAllSome; haveI := @decExSome; haveI := @decOk; haveI := @decErr; infer_instance) ?_
      decide +kernel⟩),
   (⟨pool.getD 0 .reset, { origin := Origin.ring 0, tag := (0x5 : BitVec 32) }, { w0 := (0x700000001 : BitVec 64), w1 := (0x1388 : BitVec 64), w2 := (0x1000 : BitVec 64), w3 := (0x8 : BitVec 64), w4 := (0x3 : BitVec 64), w5 := (0x0 : BitVec 64), w6 := (0x0 : BitVec 64), w7 := (0x0 : BitVec 64) }, by
      unfold TakenUp
      refine @of_decide_eq_true _ (by haveI := @decAllSome; haveI := @decExSome; haveI := @decOk; haveI := @decErr; infer_instance) ?_
      decide +kernel⟩),
   (⟨st { (pool.getD 0 .reset).chip with dvt := { (pool.getD 0 .reset).chip.dvt with regions := [] } }, { origin := Origin.ring 0, tag := (0x5 : BitVec 32) }, { w0 := (0x1000 : BitVec 64), w1 := (0x1000 : BitVec 64), w2 := (0x700000000 : BitVec 64), w3 := (0x5 : BitVec 64), w4 := (0x0 : BitVec 64), w5 := (0x0 : BitVec 64), w6 := (0x0 : BitVec 64), w7 := (0x0 : BitVec 64) }, 0, by decide +kernel, by unfold TakenUp; refine @of_decide_eq_true _ (by haveI := @decAllSome; haveI := @decExSome; haveI := @decOk; haveI := @decErr; infer_instance) ?_; decide +kernel, by decide +kernel, by decide +kernel, by decide +kernel, by decide +kernel, by decide +kernel, by decide +kernel, by decide +kernel, by decide +kernel, firstFree_zero _ _ (by decide +kernel) (by decide)⟩),
   (⟨pool.getD 0 .reset, { origin := Origin.ring 0, tag := (0x5 : BitVec 32) }, (0x9 : BitVec 32), by
      unfold TakenUp
      refine @of_decide_eq_true _ (by haveI := @decAllSome; haveI := @decExSome; haveI := @decOk; haveI := @decErr; infer_instance) ?_
      decide +kernel⟩),
   (⟨pool.getD 0 .reset, { origin := Origin.ring 0, tag := (0x5 : BitVec 32) }, (0x3 : BitVec 32), { base := 8192, len := 256, rights := 7, state := 0, pd := 7, inflight := [], seq := 0, since := 0 }, by
      unfold TakenUp
      refine @of_decide_eq_true _ (by haveI := @decAllSome; haveI := @decExSome; haveI := @decOk; haveI := @decErr; infer_instance) ?_
      decide +kernel⟩),
   (⟨pool.getD 0 .reset, { origin := Origin.ring 0, tag := (0x5 : BitVec 32) }, (0x0 : BitVec 32), { base := 4096, len := 65536, rights := 7, state := 1, pd := 7, inflight := [], seq := 0, since := 0 }, by
      unfold TakenUp
      refine @of_decide_eq_true _ (by haveI := @decAllSome; haveI := @decExSome; haveI := @decOk; haveI := @decErr; infer_instance) ?_
      decide +kernel⟩),
   (⟨pool.getD 0 .reset, (0x9 : BitVec 18), by
      decide +kernel⟩),
   (⟨pool.getD 0 .reset, (0x0 : BitVec 18), { base := 4096, len := 65536, rights := 7, state := 1, pd := 7, inflight := [], seq := 0, since := 0 }, by
      decide +kernel⟩),
   (⟨pool.getD 63 .reset, (0x9 : BitVec 18), { base := 4096, len := 65536, rights := 7, state := 2, pd := 7, inflight := [(1, 2)], seq := 0, since := 0 }, by
      decide +kernel⟩)⟩

end Sys2Proof.Tests.C11
end

