-- ==== Sys2Proof/Tests/C12.lean ====
section
/-! SUPPORT. States and operands that meet the hypotheses of the statements of chapter 12, clause by clause. -/
set_option Elab.async false
set_option maxRecDepth 100000
namespace Sys2Proof.Tests.C12
open Sys2Proof Sys2Proof.Machine Sys2Proof.Tests

def kup : Chip := hand up
def lw (st_ w pos : Nat) : Nat := 2^31 + (st_/8) * 2^23 + (st_ % 8) * 2^20 + (w-1) * 2^13 + pos * 2^4
def pad (n : Nat) (l : List Nat) : List Nat := l ++ List.replicate (n - l.length) 0
def lay (mask : Nat) (act : Nat) : List Nat := pad 256 (pad 128 (leBytes 4 (lw 96 16 0) ++ leBytes 4 (lw 112 32 16)) ++ leBytes 8 mask ++ [3, 1] ++ leBytes 2 act)
def act (k fl pol : Nat) (tgt : Nat := 5) (n : Nat := 0) (es : List (List Nat) := []) (mir : Nat := 9) : List Nat := pad 128 (pad 32 ([k, fl] ++ leBytes 2 pol ++ leBytes 2 tgt ++ [0, n] ++ List.replicate 10 0 ++ leBytes 2 mir) ++ es.flatten)
def ed (op o n src pos : Nat) : List Nat := pad 24 ([op, o, n, src, pos, 0, 0, 0] ++ (List.range 16).map (· + 100))
def fr (n : Nat) (x : Nat := 0) : List Nat := (List.range n).map (fun i => (i * 7 + x) % 256)
def acts : Tbl (List Nat) := [(0, act 0 0 0xFFFF), (1, act 1 0 0xFFFF 5), (2, act 2 0 0xFFFF), (3, act 3 0 0xFFFF), (4, act 1 0 3 5), (5, act 1 0 0xFFFF 5 1 [ed 2 14 4 0 0])]
def pkc (d : Chip) (f : PktUnit → PktUnit) : Chip := d.pk f
def mset (d : Chip) (m : Nat := 1) : Chip := ((d.sr (Reg.LNK_PORT_CFG.MODE 8) m).sr (Reg.LNK_PORT_STATE.STATE 8) 2).sr (Reg.LNK_PORT_CFG.SPLIT 8) 2
def tabs (d : Chip) : Chip := pkc d (fun p => { p with actions := acts, copy0 := { p.copy0 with layouts := [(0, lay 3 1), (1, lay 0 0)], selects := [(8, pad 520 [12, 0])] }, copy1 := { p.copy1 with layouts := [(0, lay 3 2)] } })
def qs (d : Chip) : Chip := pkc d (fun p => { p with queues := [(5, { mac := 0, weight := 100, depth := 1, frames := [⟨fr 60, 64, none, 77⟩], burst := 10000, rate := 100 }), (6, { mac := 0, weight := 0, depth := 1 }), (7, { mac := 0, weight := 3, depth := 0, frames := [⟨fr 60, 64, none, 77⟩, ⟨fr 60, 64, some (0, 3), 99⟩] }), (9, { mac := 1, weight := 3, depth := 1, prio := 3, frames := [⟨fr 60, 64, none, 7⟩] }), (11, { mac := 1, weight := 3, depth := 4, fLast := 1000, credit := 1, tokens := 10, frames := [⟨fr 60, 64, none, 3⟩] })], vtime := [(0, 50)], wheel := [⟨5, 3, some 1⟩, ⟨6, 0, none⟩, ⟨7, 9, none⟩], paused := [3, 11] })
def base : Chip := qs (tabs (mset kup))
def ms0 (n : Nat) (l : Nat := 0) (v : Nat := 0) : PktMiss := ⟨fr 70, n, v, l, true⟩
def miss (d : Chip) (l : List PktMiss) : Chip := pkc d (fun p => { p with miss := l })
def emE (prof : Nat) (key : List Nat) (act_ : Nat) (pend : Nat := 0) (a : Nat := 0) (del : Bool := false) : EmEntry := ⟨1, key, prof, a, 0, del, act_, pend⟩
def withEm (d : Chip) : Chip := let r := lay 3 1; let key := emKey r (fieldVector r (fr 70)); let c : EmCopy := { slots := [], seed0 := 1, seed1 := 2 }
  let b := c.buckets 3 key; pkc d (fun p => { p with em0 := { c with slots := [(b.1 * 4, emE 3 key 2)] } })
def setfn (d : Chip) : Chip := pkc d (fun p => { p with cache := [3 :: emKey (lay 3 1) (fieldVector (lay 3 1) (fr 70))] })
def ms : List Chip := [{}, kup, base, noise base, setfn base, withEm base, miss (withEm base) [ms0 0, ms0 1], miss base [ms0 1, ms0 0], miss base [ms0 0 0 1], miss (noise base) [ms0 0 1], pkc base (fun p => { p with now := 7, scan := 5, calendar := 63 }), pkc base (fun p => { p with rxNow := 4, txNow := 4 }), pkc base (fun p => { p with rxNow := 3, txNow := 3, miss := [], nextFill := 0 }), mset kup 0, { base with agents := [(.block .pkt, { st := .fenced })] },
  miss (pkc base (fun p => { p with tcam := [(3, ⟨List.replicate 80 0, List.replicate 80 0, 1, 0, 0, false, true, 0⟩)] })) [ms0 0], miss (pkc base (fun p => { p with tcam := [(3, ⟨List.replicate 80 0, List.replicate 80 0, 1, 0, 0, false, false, 0⟩)] })) [ms0 0], miss base (List.replicate 4096 (ms0 0)),
  cntMax base [Reg.PKT_COUNT.COUNT 0, Reg.PKT_COUNT.COUNT 1, Reg.PKT_COUNT.COUNT 2, Reg.PKT_COUNT.COUNT 3, Reg.PKT_COUNT.COUNT 4, Reg.PKT_COUNT.COUNT 9, Reg.PKT_COUNT.COUNT 10]]
def R (d : Chip) : Chip := putBytes (putBytes (putBytes (putBytes d 0x8000 (lay 3 1)) 0x8100 (pad 256 (pad 128 (leBytes 4 (lw 96 16 0) ++ leBytes 4 (lw 112 32 8)) ++ leBytes 8 3 ++ [3, 1] ++ leBytes 2 1))) 0x8200 (pad 520 [12, 0])) 0x8480 (act 2 0 0xFFFF)
def R2 (d : Chip) : Chip := putBytes (putBytes (putBytes (R d) 0x8500 (act 7 0 0)) 0x8600 (List.replicate 80 7 ++ List.replicate 80 3)) 0x8700 (pad 64 ([1, 2, 3]))
def pu : Chip := R2 (pkc kup (fun p => { p with actions := acts }))
def pn : Chip := R2 (noise (pkc kup (fun p => { p with actions := acts })))
def old (d : Chip) : Chip := { d with led := { d.led with items := [item0 2 (.general 1) .none], nextSeq := 3 } }
def ret (d : Chip) : Chip := d.sr Reg.PKT_VERSION.RETIRING 1
def tc (a p : Nat) (del : Bool) (act_ : Nat := 1) : TcamEntry := ⟨List.replicate 80 0, List.replicate 80 0, act_, a, 0, del, false, p⟩
def rb (d : Chip) (s : Nat) (r : Rebuild) : Chip := (pkc d (fun p => { p with reb := r })).sr Reg.PKT_EM_STATE.REBUILD s
def vers (d : Chip) : Chip := d.sr Reg.PKT_VERSION.COMMITTED 0xFFFF
def ts : Chip := pkc pu (fun p => { p with tcam := [(0, tc 0 0 false), (5, tc 1 0 false 2), (6, tc 0 0 true 3), (7, tc 1 3 false)], actions := acts })
def msK : List Chip := [pu, pn, old pu, ret pu, old (ret pn), ts, vers (pkc ts (fun p => { p with tcam := [(0, tc 0xFFFF 0 false), (5, tc 0 0 false 2), (6, { tc 0xFFFE 0 true 3 with delVer := 0xFFFF })] })), pu.sr Reg.PKT_VERSION.STAGED 65535, ret ts, ret (pkc (old ts) (fun p => { p with keyWait := [(1, 2)], copy0 := { p.copy0 with indir := [(3, 4)] } })), ret (miss ts [ms0 0 0 1]),
  rb pu 1 {}, rb pu 2 { on := true }, rb pu 3 { on := true }, rb pn 1 { on := true, seed0 := 1, seed1 := 2, todo := [emE 3 [1] 1, { emE 3 [1, 2] 1 with id := 9 }], seq := 0 }, rb (pkc pu (fun p => { p with em0 := { slots := [(1, emE 3 [1] 1)] }, cache := [[1]] })) 3 { on := true, log := [] },
  rb (ret ts) 3 { on := true, log := [.del 1] }, rb pu 0 { restart := some 0, seq := 4 }, rb pn 0 { restart := some 99 }, rb pu 2 { on := true, log := [.del 1] },
  pkc pu (fun p => { p with policers := [(0, { rate := 3, burst := 4, tokens := 5 })], queues := [(0, { mac := 3, frames := [⟨fr 60, 64, none, 7⟩] })] }), qs pu]
def msK_5 : List Chip := [pu, rb pn 1 { on := true, seed0 := 1, seed1 := 2, todo := (List.range 9).map (fun i => { emE 3 [1] 1 with id := i }), seq := 0 }, pn, old pu, ret pu, old (ret pn), ts, vers (pkc ts (fun p => { p with tcam := [(0, tc 0xFFFF 0 false), (5, tc 0 0 false 2), (6, { tc 0xFFFE 0 true 3 with delVer := 0xFFFF })] })), pu.sr Reg.PKT_VERSION.STAGED 65535, ret ts, ret (pkc (old ts) (fun p => { p with keyWait := [(1, 2)], copy0 := { p.copy0 with indir := [(3, 4)] } })), ret (miss ts [ms0 0 0 1]),
  rb pu 1 {}, rb pu 2 { on := true }, rb pu 3 { on := true }, rb pn 1 { on := true, seed0 := 1, seed1 := 2, todo := [emE 3 [1] 1, { emE 3 [1, 2] 1 with id := 9 }], seq := 0 }, rb (pkc pu (fun p => { p with em0 := { slots := [(1, emE 3 [1] 1)] }, cache := [[1]] })) 3 { on := true, log := [] },
  rb (ret ts) 3 { on := true, log := [.del 1] }, rb pu 0 { restart := some 0, seq := 4 }, rb pn 0 { restart := some 99 }, rb pu 2 { on := true, log := [.del 1] },
  pkc pu (fun p => { p with policers := [(0, { rate := 3, burst := 4, tokens := 5 })], queues := [(0, { mac := 3, frames := [⟨fr 60, 64, none, 7⟩] })] }), qs pu]
def msK_6 : List Chip := [pu, rb pn 1 { on := true, seed0 := 1, seed1 := 2, todo := (List.range 9).map (fun i => { emE 3 [1] 1 with id := i }), seq := 0 }, pn, old pu, ret pu, old (ret pn), ts, vers (pkc ts (fun p => { p with tcam := [(0, tc 0xFFFF 0 false), (5, tc 0 0 false 2), (6, { tc 0xFFFE 0 true 3 with delVer := 0xFFFF })] })), pu.sr Reg.PKT_VERSION.STAGED 65535, ret ts, ret (pkc (old ts) (fun p => { p with keyWait := [(1, 2)], copy0 := { p.copy0 with indir := [(3, 4)] } })), ret (miss ts [ms0 0 0 1]),
  rb pu 1 {}, rb pu 2 { on := true }, rb pu 3 { on := true }, rb pn 1 { on := true, seed0 := 1, seed1 := 2, todo := [emE 3 [1] 1, { emE 3 [1, 2] 1 with id := 9 }], seq := 0 }, rb (pkc pu (fun p => { p with em0 := { slots := [(1, emE 3 [1] 1)] }, cache := [[1]] })) 3 { on := true, log := [] },
  rb (ret ts) 3 { on := true, log := [.del 1] }, rb pu 0 { restart := some 0, seq := 4 }, rb pn 0 { restart := some 99 }, rb pu 2 { on := true, log := [.del 1] },
  pkc pu (fun p => { p with policers := [(0, { rate := 3, burst := 4, tokens := 5 })], queues := [(0, { mac := 3, frames := [⟨fr 60, 64, none, 7⟩] })] }), qs pu]
def msK_8 : List Chip := [pu, rb pn 1 { on := true, seed0 := 1, seed1 := 2, todo := (List.range 9).map (fun i => { emE 3 [1] 1 with id := i }), seq := 0 }, pn, old pu, ret pu, old (ret pn), ts, vers (pkc ts (fun p => { p with tcam := [(0, tc 0xFFFF 0 false), (5, tc 0 0 false 2), (6, { tc 0xFFFE 0 true 3 with delVer := 0xFFFF })] })), pu.sr Reg.PKT_VERSION.STAGED 65535, ret ts, ret (pkc (old ts) (fun p => { p with keyWait := [(1, 2)], copy0 := { p.copy0 with indir := [(3, 4)] } })), ret (miss ts [ms0 0 0 1]),
  rb pu 1 {}, rb pu 2 { on := true }, rb pu 3 { on := true }, rb pn 1 { on := true, seed0 := 1, seed1 := 2, todo := [emE 3 [1] 1, { emE 3 [1, 2] 1 with id := 9 }], seq := 0 }, rb (pkc pu (fun p => { p with em0 := { slots := [(1, emE 3 [1] 1)] }, cache := [[1]] })) 3 { on := true, log := [] },
  rb (ret ts) 3 { on := true, log := [.del 1] }, rb pu 0 { restart := some 0, seq := 4 }, rb pn 0 { restart := some 99 }, rb pu 2 { on := true, log := [.del 1] },
  pkc pu (fun p => { p with policers := [(0, { rate := 3, burst := 4, tokens := 5 })], queues := [(0, { mac := 3, frames := [⟨fr 60, 64, none, 7⟩] })] }), qs pu]
def k40 : List Nat := pad 40 [1, 2, 3]
def pA (a : Nat) (bs : List Nat) : Chip := putBytes (pkc kup (fun p => { p with actions := acts })) a bs
def small : List Chip := [pA 0x8000 (lay 3 1), pA 0x8100 (pad 256 (pad 128 (leBytes 4 (lw 96 16 0) ++ leBytes 4 (lw 112 32 8)) ++ leBytes 8 3 ++ [3, 1] ++ leBytes 2 1)), pA 0x8200 (pad 520 [12, 0]), pA 0x8480 (act 2 0 0xFFFF), pA 0x8500 (act 7 0 0), pA 0x8600 (List.replicate 80 7 ++ List.replicate 80 3), pA 0x8700 (pad 64 [1, 2, 3])]
def exE (a : Nat) : Chip := pkc (pA 0x8700 (pad 64 [1, 2, 3])) (fun p => { p with em0 := { p.em0 with slots := [(1, ⟨1, k40, 0, a, 0, false, 1, 0⟩)] } })
def pois (d : Chip) (f : PktMiss) : Chip := let r := d.layoutRec f.ver f.layout; let b := (d.emCopy d.emActive).buckets (r.getD 136 0) (emKey r (fieldVector r f.data)); d.setPoison (d.emAddr d.emActive (b.1 * 4)) true
def msL : List Chip := [exE 0, exE 9, pois (miss (withEm base) [ms0 0]) (ms0 0), miss (withEm base) [ms0 0], miss base [ms0 0], { kup with tck := { kup.tck with cycle := 2 } },
  pkc kup (fun p => { p with queues := [(3, { weight := 1, credit := 1, burst := 100, tokens := 5 })] }), pkc base (fun p => { p with copy0 := { p.copy0 with layouts := [(0, lay 0 0)] } })]
def pool : List State := (small.map st) ++ (msL.map st) ++ (ms.map st) ++ (msK.map st) ++ (msK.map st) ++ (msK.map st) ++ (msK_5.map st) ++ (msK_6.map st) ++ (msK.map st) ++ (msK_8.map st)


theorem emFree_none (slots : Tbl EmEntry) (b : Nat) (h : ∀ i, i < 4 → (tget slots (b * 4 + i)).isSome = true) : emFree slots b = none := by
  simp only [emFree, List.find?_eq_none, List.mem_map, List.mem_range]
  rintro x ⟨i, hi, rfl⟩
  have := h i hi
  cases hx : tget slots (b * 4 + i) <;> simp_all

/-- While every slot of bucket b holds an entry whose two buckets are b, an insertion there finds no slot, whichever resident moves. -/
theorem emKick_full (c : EmCopy) (pick : Nat → Nat) (b : Nat) : ∀ (k : Nat) (slots : Tbl EmEntry) (e : EmEntry),
    (∀ i, i < 4 → ∃ v, tget slots (b * 4 + i) = some v ∧ c.buckets v.profile v.key = (b, b)) → c.buckets e.profile e.key = (b, b) →
    emKick c pick k slots e b = none := by
  intro k
  induction k with
  | zero => intros; rfl
  | succ k ih =>
    intro slots e h he
    obtain ⟨v, hv, hb⟩ := h (pick k % 4) (Nat.mod_lt _ (by decide))
    have hf : emFree slots b = none := emFree_none slots b (fun i hi => by obtain ⟨w, hw, _⟩ := h i hi; rw [hw]; rfl)
    simp only [emKick, hv, hb, if_true, hf]
    apply ih _ _ _ hb
    intro i hi
    by_cases hs : b * 4 + i = b * 4 + pick k % 4
    · rw [hs]; exact ⟨e, tget_tput_self _ _ _, he⟩
    · rw [tget_tput_ne _ _ _ _ hs]; exact h i hi

theorem emInsert_full (c : EmCopy) (pick : Nat → Nat) (b : Nat) (e : EmEntry)
    (h : ∀ i, i < 4 → ∃ v, tget c.slots (b * 4 + i) = some v ∧ c.buckets v.profile v.key = (b, b)) (he : c.buckets e.profile e.key = (b, b)) :
    c.insert pick e = none := by
  have hf : emFree c.slots b = none := emFree_none c.slots b (fun i hi => by obtain ⟨w, hw, _⟩ := h i hi; rw [hw]; rfl)
  simp only [EmCopy.insert, he, hf, emKick_full c pick b 32 c.slots e h he, Option.map_none]

def fullB : Nat := emHash 1 0 k40 % 0x40_0000
def fullE : EmCopy := { slots := (List.range 4).map (fun i => (fullB * 4 + i, ⟨i, k40, 0, 9, 0, false, 1, 0⟩)), seed0 := 1, seed1 := 1 }
def exFull : Chip := pkc (pA 0x8700 (pad 64 [1, 2, 3])) (fun p => { p with em0 := fullE })
theorem exFull_none (pick : Nat → Nat) : (exFull.emCopy exFull.emActive).insert pick ⟨exFull.pkt.nextId, (exFull.bytes 0x8700 64).take 40, (exFull.bytes 0x8700 64).getD 40 0, 0, 0, false, 0, 2 ^ 64⟩ = none := by
  have hc : exFull.emCopy exFull.emActive = fullE := by decide +kernel
  have hb : (exFull.bytes 0x8700 64).take 40 = k40 ∧ (exFull.bytes 0x8700 64).getD 40 0 = 0 := by decide +kernel
  rw [hc, hb.1, hb.2]
  exact emInsert_full fullE pick fullB _ (fun i hi => ⟨⟨i, k40, 0, 9, 0, false, 1, 0⟩, by revert i; decide +kernel⟩) (by decide +kernel)

def fullBucket : Nat := emHash 1 3 [1] % 0x40_0000
def fullCopy : EmCopy := { slots := (List.range 4).map (fun i => (fullBucket * 4 + i, { emE 3 [1] 1 with id := i })), seed0 := 1, seed1 := 1 }
def emFull : Chip := rb (pkc pu (fun p => { p with em0 := fullCopy, em1 := fullCopy })) 1 { on := true, todo := [⟨9, [1], 3, 0, 0, false, 1, 0⟩] }
theorem emFull_none : (emFull.emCopy (1 - emFull.emActive)).applyAll emFull.emPick (emFull.pkt.reb.todo.map EmChange.put) = none := by
  have hc : emFull.emCopy (1 - emFull.emActive) = fullCopy := by decide +kernel
  have ht : emFull.pkt.reb.todo.map EmChange.put = [EmChange.put ⟨9, [1], 3, 0, 0, false, 1, 0⟩] := by decide +kernel
  rw [hc, ht]
  have hk := emKick_full fullCopy emFull.emPick fullBucket 32 fullCopy.slots ⟨9, [1], 3, 0, 0, false, 1, 0⟩
    (fun i hi => ⟨{ emE 3 [1] 1 with id := i }, by revert i; decide +kernel⟩) (by decide +kernel)
  have h1 : fullCopy.slots.find? (fun (x : Nat × EmEntry) => x.2.id = 9) = none := by decide +kernel
  have h2 : emFree fullCopy.slots fullBucket = none := by decide +kernel
  have h3 : fullCopy.buckets 3 [1] = (fullBucket, fullBucket) := by decide +kernel
  simp only [EmCopy.applyAll, List.foldl, Option.bind_some, EmCopy.apply, h1, EmCopy.insert, h3, h2, hk, Option.map_none]

theorem test_PacketFrames_witness1 :
    (∃ (s : State) (m : Fin 16) (cyc : BitVec 32) (data : List (BitVec 8)) (room : Bool) (l : Nat) (r : List Nat) (f : PktMiss), l = pickLayout ((tget (((s.chip.pktTime cyc.toNat).stampRx m).pktCopy ((s.chip.pktTime cyc.toNat).stampRx m).pktC).selects (8 + m.val / 4)).getD []) (data.map BitVec.toNat) ∧ r = ((s.chip.pktTime cyc.toNat).stampRx m).layoutRec ((s.chip.pktTime cyc.toNat).stampRx m).pktC l ∧ f = ⟨data.map BitVec.toNat, m, ((s.chip.pktTime cyc.toNat).stampRx m).pktC, l, room⟩ ∧ (s.chip.macUp (8 + m.val / 4) (m.val % 4) = false ∨ data.length < 60 ∨ 9212 < data.length)) ∧
    (∃ (s : State) (m : Fin 16) (cyc : BitVec 32) (data : List (BitVec 8)) (room : Bool) (l : Nat) (r : List Nat) (f : PktMiss), l = pickLayout ((tget (((s.chip.pktTime cyc.toNat).stampRx m).pktCopy ((s.chip.pktTime cyc.toNat).stampRx m).pktC).selects (8 + m.val / 4)).getD []) (data.map BitVec.toNat) ∧ r = ((s.chip.pktTime cyc.toNat).stampRx m).layoutRec ((s.chip.pktTime cyc.toNat).stampRx m).pktC l ∧ f = ⟨data.map BitVec.toNat, m, ((s.chip.pktTime cyc.toNat).stampRx m).pktC, l, room⟩ ∧ s.chip.macUp (8 + m.val / 4) (m.val % 4) = true ∧ 60 ≤ data.length ∧ data.length ≤ 9212 ∧ (s.chip.running .pkt = false ∨ 4 ≤ ((s.chip.pktTime cyc.toNat).stampRx m).pkt.rxNow)) ∧
    (∃ (s : State) (m : Fin 16) (cyc : BitVec 32) (data : List (BitVec 8)) (room : Bool) (l : Nat) (r : List Nat) (f : PktMiss), l = pickLayout ((tget (((s.chip.pktTime cyc.toNat).stampRx m).pktCopy ((s.chip.pktTime cyc.toNat).stampRx m).pktC).selects (8 + m.val / 4)).getD []) (data.map BitVec.toNat) ∧ r = ((s.chip.pktTime cyc.toNat).stampRx m).layoutRec ((s.chip.pktTime cyc.toNat).stampRx m).pktC l ∧ f = ⟨data.map BitVec.toNat, m, ((s.chip.pktTime cyc.toNat).stampRx m).pktC, l, room⟩ ∧ s.chip.macUp (8 + m.val / 4) (m.val % 4) = true ∧ 60 ≤ data.length ∧ data.length ≤ 9212 ∧ s.chip.running .pkt = true ∧ ((s.chip.pktTime cyc.toNat).stampRx m).pkt.rxNow < 4 ∧ layoutMask r = 0) ∧
    (∃ (s : State) (m : Fin 16) (cyc : BitVec 32) (data : List (BitVec 8)) (room : Bool) (l : Nat) (r : List Nat) (f : PktMiss), l = pickLayout ((tget (((s.chip.pktTime cyc.toNat).stampRx m).pktCopy ((s.chip.pktTime cyc.toNat).stampRx m).pktC).selects (8 + m.val / 4)).getD []) (data.map BitVec.toNat) ∧ r = ((s.chip.pktTime cyc.toNat).stampRx m).layoutRec ((s.chip.pktTime cyc.toNat).stampRx m).pktC l ∧ f = ⟨data.map BitVec.toNat, m, ((s.chip.pktTime cyc.toNat).stampRx m).pktC, l, room⟩ ∧ s.chip.macUp (8 + m.val / 4) (m.val % 4) = true ∧ 60 ≤ data.length ∧ data.length ≤ 9212 ∧ s.chip.running .pkt = true ∧ ((s.chip.pktTime cyc.toNat).stampRx m).pkt.rxNow < 4 ∧ layoutMask r ≠ 0 ∧ ((s.chip.pktTime cyc.toNat).stampRx m).pkt.cache.contains (r.getD 136 0 :: emKey r (fieldVector r (data.map BitVec.toNat))) = true) ∧
    (∃ (s : State) (m : Fin 16) (cyc : BitVec 32) (data : List (BitVec 8)) (room : Bool) (l : Nat) (r : List Nat) (f : PktMiss), l = pickLayout ((tget (((s.chip.pktTime cyc.toNat).stampRx m).pktCopy ((s.chip.pktTime cyc.toNat).stampRx m).pktC).selects (8 + m.val / 4)).getD []) (data.map BitVec.toNat) ∧ r = ((s.chip.pktTime cyc.toNat).stampRx m).layoutRec ((s.chip.pktTime cyc.toNat).stampRx m).pktC l ∧ f = ⟨data.map BitVec.toNat, m, ((s.chip.pktTime cyc.toNat).stampRx m).pktC, l, room⟩ ∧ s.chip.macUp (8 + m.val / 4) (m.val % 4) = true ∧ 60 ≤ data.length ∧ data.length ≤ 9212 ∧ s.chip.running .pkt = true ∧ ((s.chip.pktTime cyc.toNat).stampRx m).pkt.rxNow < 4 ∧ layoutMask r ≠ 0 ∧ ((s.chip.pktTime cyc.toNat).stampRx m).pkt.cache.contains (r.getD 136 0 :: emKey r (fieldVector r (data.map BitVec.toNat))) = false ∧ ((s.chip.pktTime cyc.toNat).stampRx m).pkt.miss.length < 4096) ∧
    (∃ (s : State) (m : Fin 16) (cyc : BitVec 32) (data : List (BitVec 8)) (room : Bool) (l : Nat) (r : List Nat) (f : PktMiss), l = pickLayout ((tget (((s.chip.pktTime cyc.toNat).stampRx m).pktCopy ((s.chip.pktTime cyc.toNat).stampRx m).pktC).selects (8 + m.val / 4)).getD []) (data.map BitVec.toNat) ∧ r = ((s.chip.pktTime cyc.toNat).stampRx m).layoutRec ((s.chip.pktTime cyc.toNat).stampRx m).pktC l ∧ f = ⟨data.map BitVec.toNat, m, ((s.chip.pktTime cyc.toNat).stampRx m).pktC, l, room⟩ ∧ s.chip.macUp (8 + m.val / 4) (m.val % 4) = true ∧ 60 ≤ data.length ∧ data.length ≤ 9212 ∧ s.chip.running .pkt = true ∧ ((s.chip.pktTime cyc.toNat).stampRx m).pkt.rxNow < 4 ∧ layoutMask r ≠ 0 ∧ ((s.chip.pktTime cyc.toNat).stampRx m).pkt.cache.contains (r.getD 136 0 :: emKey r (fieldVector r (data.map BitVec.toNat))) = false ∧ 4096 ≤ ((s.chip.pktTime cyc.toNat).stampRx m).pkt.miss.length) ∧
    (∃ (d : Chip) (f : PktMiss) (k : Nat) (a : List Nat), tget d.pkt.actions k = some a ∧ a.getD 1 0 = 0 ∧ a.getD 7 0 = 0 ∧ aU16 a 2 = 0xFFFF ∧ 60 ≤ f.data.length ∧ f.data.length ≤ 9212 ∧ aKind a = 0) ∧
    (∃ (d : Chip) (f : PktMiss) (k : Nat) (a : List Nat), tget d.pkt.actions k = some a ∧ a.getD 1 0 = 0 ∧ a.getD 7 0 = 0 ∧ aU16 a 2 = 0xFFFF ∧ 60 ≤ f.data.length ∧ f.data.length ≤ 9212 ∧ aKind a = 1) ∧
    (∃ (d : Chip) (f : PktMiss) (k : Nat) (a : List Nat), tget d.pkt.actions k = some a ∧ a.getD 1 0 = 0 ∧ a.getD 7 0 = 0 ∧ aU16 a 2 = 0xFFFF ∧ 60 ≤ f.data.length ∧ f.data.length ≤ 9212 ∧ aKind a = 2) ∧
    (∃ (d : Chip) (f : PktMiss) (k : Nat) (a : List Nat), tget d.pkt.actions k = some a ∧ a.getD 1 0 = 0 ∧ a.getD 7 0 = 0 ∧ aU16 a 2 = 0xFFFF ∧ 60 ≤ f.data.length ∧ f.data.length ≤ 9212 ∧ aKind a = 3) ∧
    (∃ (d : Chip) (q : Nat), (d.pq q).weight = 0) ∧
    (∃ (d : Chip) (q : Nat) (room : Bool), (d.pq q).weight ≠ 0 ∧ ((d.pq q).depth * 1024 < (((d.pq q).frames.map (fun f => f.len)).foldl (· + ·) 0) ∨ room = false)) ∧
    (∃ (d : Chip) (q : Nat) (room : Bool), (d.pq q).weight ≠ 0 ∧ (((d.pq q).frames.map (fun f => f.len)).foldl (· + ·) 0) ≤ (d.pq q).depth * 1024 ∧ room = true) ∧
    (∃ (d : Chip) (m : Nat) (q : Nat), (d.pkt.queues.map Prod.fst).Pairwise (· < ·) ∧ d.nextQueue m = some q) :=
  ⟨(⟨pool.getD 0 .reset, 0, (0x1 : BitVec 32), ([(0x0 : BitVec 8), (0x7 : BitVec 8), (0xe : BitVec 8), (0x15 : BitVec 8), (0x1c : BitVec 8), (0x23 : BitVec 8), (0x2a : BitVec 8), (0x31 : BitVec 8), (0x38 : BitVec 8), (0x3f : BitVec 8), (0x46 : BitVec 8), (0x4d : BitVec 8), (0x54 : BitVec 8), (0x5b : BitVec 8), (0x62 : BitVec 8), (0x69 : BitVec 8), (0x70 : BitVec 8), (0x77 : BitVec 8), (0x7e : BitVec 8), (0x85 : BitVec 8), (0x8c : BitVec 8), (0x93 : BitVec 8), (0x9a : BitVec 8), (0xa1 : BitVec 8), (0xa8 : BitVec 8), (0xaf : BitVec 8), (0xb6 : BitVec 8), (0xbd : BitVec 8), (0xc4 : BitVec 8), (0xcb : BitVec 8), (0xd2 : BitVec 8), (0xd9 : BitVec 8), (0xe0 : BitVec 8), (0xe7 : BitVec 8), (0xee : BitVec 8), (0xf5 : BitVec 8), (0xfc : BitVec 8), (0x3 : BitVec 8), (0xa : BitVec 8), (0x11 : BitVec 8), (0x18 : BitVec 8), (0x1f : BitVec 8), (0x26 : BitVec 8), (0x2d : BitVec 8), (0x34 : BitVec 8), (0x3b : BitVec 8), (0x42 : BitVec 8), (0x49 : BitVec 8), (0x50 : BitVec 8), (0x57 : BitVec 8), (0x5e : BitVec 8), (0x65 : BitVec 8), (0x6c : BitVec 8), (0x73 : BitVec 8), (0x7a : BitVec 8), (0x81 : BitVec 8), (0x88 : BitVec 8), (0x8f : BitVec 8), (0x96 : BitVec 8), (0x9d : BitVec 8), (0xa4 : BitVec 8), (0xab : BitVec 8), (0xb2 : BitVec 8), (0xb9 : BitVec 8), (0xc0 : BitVec 8), (0xc7 : BitVec 8), (0xce : BitVec 8), (0xd5 : BitVec 8), (0xdc : BitVec 8), (0xe3 : BitVec 8)]), false, 0, (List.replicate 256 0), { data := ([0, 7, 14, 21, 28, 35, 42, 49, 56, 63, 70, 77, 84, 91, 98, 105, 112, 119, 126, 133, 140, 147, 154, 161, 168, 175, 182, 189, 196, 203, 210, 217, 224, 231, 238, 245, 252, 3, 10, 17, 24, 31, 38, 45, 52, 59, 66, 73, 80, 87, 94, 101, 108, 115, 122, 129, 136, 143, 150, 157, 164, 171, 178, 185, 192, 199, 206, 213, 220, 227]), mac := 0, ver := 0, layout := 0, room := false }, by
      decide +kernel⟩),
   (⟨pool.getD 26 .reset, 0, (0x0 : BitVec 32), ([(0x0 : BitVec 8), (0x7 : BitVec 8), (0xe : BitVec 8), (0x15 : BitVec 8), (0x1c : BitVec 8), (0x23 : BitVec 8), (0x2a : BitVec 8), (0x31 : BitVec 8), (0x38 : BitVec 8), (0x3f : BitVec 8), (0x46 : BitVec 8), (0x4d : BitVec 8), (0x54 : BitVec 8), (0x5b : BitVec 8), (0x62 : BitVec 8), (0x69 : BitVec 8), (0x70 : BitVec 8), (0x77 : BitVec 8), (0x7e : BitVec 8), (0x85 : BitVec 8), (0x8c : BitVec 8), (0x93 : BitVec 8), (0x9a : BitVec 8), (0xa1 : BitVec 8), (0xa8 : BitVec 8), (0xaf : BitVec 8), (0xb6 : BitVec 8), (0xbd : BitVec 8), (0xc4 : BitVec 8), (0xcb : BitVec 8), (0xd2 : BitVec 8), (0xd9 : BitVec 8), (0xe0 : BitVec 8), (0xe7 : BitVec 8), (0xee : BitVec 8), (0xf5 : BitVec 8), (0xfc : BitVec 8), (0x3 : BitVec 8), (0xa : BitVec 8), (0x11 : BitVec 8), (0x18 : BitVec 8), (0x1f : BitVec 8), (0x26 : BitVec 8), (0x2d : BitVec 8), (0x34 : BitVec 8), (0x3b : BitVec 8), (0x42 : BitVec 8), (0x49 : BitVec 8), (0x50 : BitVec 8), (0x57 : BitVec 8), (0x5e : BitVec 8), (0x65 : BitVec 8), (0x6c : BitVec 8), (0x73 : BitVec 8), (0x7a : BitVec 8), (0x81 : BitVec 8), (0x88 : BitVec 8), (0x8f : BitVec 8), (0x96 : BitVec 8), (0x9d : BitVec 8), (0xa4 : BitVec 8), (0xab : BitVec 8), (0xb2 : BitVec 8), (0xb9 : BitVec 8), (0xc0 : BitVec 8), (0xc7 : BitVec 8), (0xce : BitVec 8), (0xd5 : BitVec 8), (0xdc : BitVec 8), (0xe3 : BitVec 8)]), false, 0, ([0, 224, 1, 134, 0, 225, 3, 135] ++ List.replicate 120 0 ++ [3, 0, 0, 0, 0, 0, 0, 0, 3, 1, 1] ++ List.replicate 117 0), { data := ([0, 7, 14, 21, 28, 35, 42, 49, 56, 63, 70, 77, 84, 91, 98, 105, 112, 119, 126, 133, 140, 147, 154, 161, 168, 175, 182, 189, 196, 203, 210, 217, 224, 231, 238, 245, 252, 3, 10, 17, 24, 31, 38, 45, 52, 59, 66, 73, 80, 87, 94, 101, 108, 115, 122, 129, 136, 143, 150, 157, 164, 171, 178, 185, 192, 199, 206, 213, 220, 227]), mac := 0, ver := 0, layout := 0, room := false }, by
      decide +kernel⟩),
   (⟨pool.getD 14 .reset, 0, (0x1 : BitVec 32), ([(0x0 : BitVec 8), (0x7 : BitVec 8), (0xe : BitVec 8), (0x15 : BitVec 8), (0x1c : BitVec 8), (0x23 : BitVec 8), (0x2a : BitVec 8), (0x31 : BitVec 8), (0x38 : BitVec 8), (0x3f : BitVec 8), (0x46 : BitVec 8), (0x4d : BitVec 8), (0x54 : BitVec 8), (0x5b : BitVec 8), (0x62 : BitVec 8), (0x69 : BitVec 8), (0x70 : BitVec 8), (0x77 : BitVec 8), (0x7e : BitVec 8), (0x85 : BitVec 8), (0x8c : BitVec 8), (0x93 : BitVec 8), (0x9a : BitVec 8), (0xa1 : BitVec 8), (0xa8 : BitVec 8), (0xaf : BitVec 8), (0xb6 : BitVec 8), (0xbd : BitVec 8), (0xc4 : BitVec 8), (0xcb : BitVec 8), (0xd2 : BitVec 8), (0xd9 : BitVec 8), (0xe0 : BitVec 8), (0xe7 : BitVec 8), (0xee : BitVec 8), (0xf5 : BitVec 8), (0xfc : BitVec 8), (0x3 : BitVec 8), (0xa : BitVec 8), (0x11 : BitVec 8), (0x18 : BitVec 8), (0x1f : BitVec 8), (0x26 : BitVec 8), (0x2d : BitVec 8), (0x34 : BitVec 8), (0x3b : BitVec 8), (0x42 : BitVec 8), (0x49 : BitVec 8), (0x50 : BitVec 8), (0x57 : BitVec 8), (0x5e : BitVec 8), (0x65 : BitVec 8), (0x6c : BitVec 8), (0x73 : BitVec 8), (0x7a : BitVec 8), (0x81 : BitVec 8), (0x88 : BitVec 8), (0x8f : BitVec 8), (0x96 : BitVec 8), (0x9d : BitVec 8), (0xa4 : BitVec 8), (0xab : BitVec 8), (0xb2 : BitVec 8), (0xb9 : BitVec 8), (0xc0 : BitVec 8), (0xc7 : BitVec 8), (0xce : BitVec 8), (0xd5 : BitVec 8), (0xdc : BitVec 8), (0xe3 : BitVec 8)]), false, 0, ([0, 224, 1, 134, 0, 225, 3, 135] ++ List.replicate 128 0 ++ [3, 1] ++ List.replicate 118 0), { data := ([0, 7, 14, 21, 28, 35, 42, 49, 56, 63, 70, 77, 84, 91, 98, 105, 112, 119, 126, 133, 140, 147, 154, 161, 168, 175, 182, 189, 196, 203, 210, 217, 224, 231, 238, 245, 252, 3, 10, 17, 24, 31, 38, 45, 52, 59, 66, 73, 80, 87, 94, 101, 108, 115, 122, 129, 136, 143, 150, 157, 164, 171, 178, 185, 192, 199, 206, 213, 220, 227]), mac := 0, ver := 0, layout := 0, room := false }, by
      decide +kernel⟩),
   (⟨pool.getD 19 .reset, 0, (0x1 : BitVec 32), ([(0x0 : BitVec 8), (0x7 : BitVec 8), (0xe : BitVec 8), (0x15 : BitVec 8), (0x1c : BitVec 8), (0x23 : BitVec 8), (0x2a : BitVec 8), (0x31 : BitVec 8), (0x38 : BitVec 8), (0x3f : BitVec 8), (0x46 : BitVec 8), (0x4d : BitVec 8), (0x54 : BitVec 8), (0x5b : BitVec 8), (0x62 : BitVec 8), (0x69 : BitVec 8), (0x70 : BitVec 8), (0x77 : BitVec 8), (0x7e : BitVec 8), (0x85 : BitVec 8), (0x8c : BitVec 8), (0x93 : BitVec 8), (0x9a : BitVec 8), (0xa1 : BitVec 8), (0xa8 : BitVec 8), (0xaf : BitVec 8), (0xb6 : BitVec 8), (0xbd : BitVec 8), (0xc4 : BitVec 8), (0xcb : BitVec 8), (0xd2 : BitVec 8), (0xd9 : BitVec 8), (0xe0 : BitVec 8), (0xe7 : BitVec 8), (0xee : BitVec 8), (0xf5 : BitVec 8), (0xfc : BitVec 8), (0x3 : BitVec 8), (0xa : BitVec 8), (0x11 : BitVec 8), (0x18 : BitVec 8), (0x1f : BitVec 8), (0x26 : BitVec 8), (0x2d : BitVec 8), (0x34 : BitVec 8), (0x3b : BitVec 8), (0x42 : BitVec 8), (0x49 : BitVec 8), (0x50 : BitVec 8), (0x57 : BitVec 8), (0x5e : BitVec 8), (0x65 : BitVec 8), (0x6c : BitVec 8), (0x73 : BitVec 8), (0x7a : BitVec 8), (0x81 : BitVec 8), (0x88 : BitVec 8), (0x8f : BitVec 8), (0x96 : BitVec 8), (0x9d : BitVec 8), (0xa4 : BitVec 8), (0xab : BitVec 8), (0xb2 : BitVec 8), (0xb9 : BitVec 8), (0xc0 : BitVec 8), (0xc7 : BitVec 8), (0xce : BitVec 8), (0xd5 : BitVec 8), (0xdc : BitVec 8), (0xe3 : BitVec 8)]), false, 0, ([0, 224, 1, 134, 0, 225, 3, 135] ++ List.replicate 120 0 ++ [3, 0, 0, 0, 0, 0, 0, 0, 3, 1, 1] ++ List.replicate 117 0), { data := ([0, 7, 14, 21, 28, 35, 42, 49, 56, 63, 70, 77, 84, 91, 98, 105, 112, 119, 126, 133, 140, 147, 154, 161, 168, 175, 182, 189, 196, 203, 210, 217, 224, 231, 238, 245, 252, 3, 10, 17, 24, 31, 38, 45, 52, 59, 66, 73, 80, 87, 94, 101, 108, 115, 122, 129, 136, 143, 150, 157, 164, 171, 178, 185, 192, 199, 206, 213, 220, 227]), mac := 0, ver := 0, layout := 0, room := false }, by
      decide +kernel⟩),
   (⟨pool.getD 9 .reset, 0, (0x1 : BitVec 32), ([(0x0 : BitVec 8), (0x7 : BitVec 8), (0xe : BitVec 8), (0x15 : BitVec 8), (0x1c : BitVec 8), (0x23 : BitVec 8), (0x2a : BitVec 8), (0x31 : BitVec 8), (0x38 : BitVec 8), (0x3f : BitVec 8), (0x46 : BitVec 8), (0x4d : BitVec 8), (0x54 : BitVec 8), (0x5b : BitVec 8), (0x62 : BitVec 8), (0x69 : BitVec 8), (0x70 : BitVec 8), (0x77 : BitVec 8), (0x7e : BitVec 8), (0x85 : BitVec 8), (0x8c : BitVec 8), (0x93 : BitVec 8), (0x9a : BitVec 8), (0xa1 : BitVec 8), (0xa8 : BitVec 8), (0xaf : BitVec 8), (0xb6 : BitVec 8), (0xbd : BitVec 8), (0xc4 : BitVec 8), (0xcb : BitVec 8), (0xd2 : BitVec 8), (0xd9 : BitVec 8), (0xe0 : BitVec 8), (0xe7 : BitVec 8), (0xee : BitVec 8), (0xf5 : BitVec 8), (0xfc : BitVec 8), (0x3 : BitVec 8), (0xa : BitVec 8), (0x11 : BitVec 8), (0x18 : BitVec 8), (0x1f : BitVec 8), (0x26 : BitVec 8), (0x2d : BitVec 8), (0x34 : BitVec 8), (0x3b : BitVec 8), (0x42 : BitVec 8), (0x49 : BitVec 8), (0x50 : BitVec 8), (0x57 : BitVec 8), (0x5e : BitVec 8), (0x65 : BitVec 8), (0x6c : BitVec 8), (0x73 : BitVec 8), (0x7a : BitVec 8), (0x81 : BitVec 8), (0x88 : BitVec 8), (0x8f : BitVec 8), (0x96 : BitVec 8), (0x9d : BitVec 8), (0xa4 : BitVec 8), (0xab : BitVec 8), (0xb2 : BitVec 8), (0xb9 : BitVec 8), (0xc0 : BitVec 8), (0xc7 : BitVec 8), (0xce : BitVec 8), (0xd5 : BitVec 8), (0xdc : BitVec 8), (0xe3 : BitVec 8)]), false, 0, ([0, 224, 1, 134, 0, 225, 3, 135] ++ List.replicate 120 0 ++ [3, 0, 0, 0, 0, 0, 0, 0, 3, 1, 1] ++ List.replicate 117 0), { data := ([0, 7, 14, 21, 28, 35, 42, 49, 56, 63, 70, 77, 84, 91, 98, 105, 112, 119, 126, 133, 140, 147, 154, 161, 168, 175, 182, 189, 196, 203, 210, 217, 224, 231, 238, 245, 252, 3, 10, 17, 24, 31, 38, 45, 52, 59, 66, 73, 80, 87, 94, 101, 108, 115, 122, 129, 136, 143, 150, 157, 164, 171, 178, 185, 192, 199, 206, 213, 220, 227]), mac := 0, ver := 0, layout := 0, room := false }, by
      decide +kernel⟩),
   (⟨pool.getD 32 .reset, 0, (0x1 : BitVec 32), ([(0x0 : BitVec 8), (0x7 : BitVec 8), (0xe : BitVec 8), (0x15 : BitVec 8), (0x1c : BitVec 8), (0x23 : BitVec 8), (0x2a : BitVec 8), (0x31 : BitVec 8), (0x38 : BitVec 8), (0x3f : BitVec 8), (0x46 : BitVec 8), (0x4d : BitVec 8), (0x54 : BitVec 8), (0x5b : BitVec 8), (0x62 : BitVec 8), (0x69 : BitVec 8), (0x70 : BitVec 8), (0x77 : BitVec 8), (0x7e : BitVec 8), (0x85 : BitVec 8), (0x8c : BitVec 8), (0x93 : BitVec 8), (0x9a : BitVec 8), (0xa1 : BitVec 8), (0xa8 : BitVec 8), (0xaf : BitVec 8), (0xb6 : BitVec 8), (0xbd : BitVec 8), (0xc4 : BitVec 8), (0xcb : BitVec 8), (0xd2 : BitVec 8), (0xd9 : BitVec 8), (0xe0 : BitVec 8), (0xe7 : BitVec 8), (0xee : BitVec 8), (0xf5 : BitVec 8), (0xfc : BitVec 8), (0x3 : BitVec 8), (0xa : BitVec 8), (0x11 : BitVec 8), (0x18 : BitVec 8), (0x1f : BitVec 8), (0x26 : BitVec 8), (0x2d : BitVec 8), (0x34 : BitVec 8), (0x3b : BitVec 8), (0x42 : BitVec 8), (0x49 : BitVec 8), (0x50 : BitVec 8), (0x57 : BitVec 8), (0x5e : BitVec 8), (0x65 : BitVec 8), (0x6c : BitVec 8), (0x73 : BitVec 8), (0x7a : BitVec 8), (0x81 : BitVec 8), (0x88 : BitVec 8), (0x8f : BitVec 8), (0x96 : BitVec 8), (0x9d : BitVec 8), (0xa4 : BitVec 8), (0xab : BitVec 8), (0xb2 : BitVec 8), (0xb9 : BitVec 8), (0xc0 : BitVec 8), (0xc7 : BitVec 8), (0xce : BitVec 8), (0xd5 : BitVec 8), (0xdc : BitVec 8), (0xe3 : BitVec 8)]), false, 0, ([0, 224, 1, 134, 0, 225, 3, 135] ++ List.replicate 120 0 ++ [3, 0, 0, 0, 0, 0, 0, 0, 3, 1, 1] ++ List.replicate 117 0), { data := ([0, 7, 14, 21, 28, 35, 42, 49, 56, 63, 70, 77, 84, 91, 98, 105, 112, 119, 126, 133, 140, 147, 154, 161, 168, 175, 182, 189, 196, 203, 210, 217, 224, 231, 238, 245, 252, 3, 10, 17, 24, 31, 38, 45, 52, 59, 66, 73, 80, 87, 94, 101, 108, 115, 122, 129, 136, 143, 150, 157, 164, 171, 178, 185, 192, 199, 206, 213, 220, 227]), mac := 0, ver := 0, layout := 0, room := false }, by
      decide +kernel⟩),
   (⟨(pool.getD 0 .reset).chip, { data := ([0, 7, 14, 21, 28, 35, 42, 49, 56, 63, 70, 77, 84, 91, 98, 105, 112, 119, 126, 133, 140, 147, 154, 161, 168, 175, 182, 189, 196, 203, 210, 217, 224, 231, 238, 245, 252, 3, 10, 17, 24, 31, 38, 45, 52, 59, 66, 73, 80, 87, 94, 101, 108, 115, 122, 129, 136, 143, 150, 157, 164, 171, 178, 185, 192, 199, 206, 213, 220, 227]), mac := 0, ver := 0, layout := 0, room := true }, 0, ([0, 0, 255, 255, 5] ++ List.replicate 13 0 ++ [9] ++ List.replicate 109 0), by
      decide +kernel⟩),
   (⟨(pool.getD 0 .reset).chip, { data := ([0, 7, 14, 21, 28, 35, 42, 49, 56, 63, 70, 77, 84, 91, 98, 105, 112, 119, 126, 133, 140, 147, 154, 161, 168, 175, 182, 189, 196, 203, 210, 217, 224, 231, 238, 245, 252, 3, 10, 17, 24, 31, 38, 45, 52, 59, 66, 73, 80, 87, 94, 101, 108, 115, 122, 129, 136, 143, 150, 157, 164, 171, 178, 185, 192, 199, 206, 213, 220, 227]), mac := 0, ver := 0, layout := 0, room := true }, 1, ([1, 0, 255, 255, 5] ++ List.replicate 13 0 ++ [9] ++ List.replicate 109 0), by
      decide +kernel⟩),
   (⟨(pool.getD 0 .reset).chip, { data := ([0, 7, 14, 21, 28, 35, 42, 49, 56, 63, 70, 77, 84, 91, 98, 105, 112, 119, 126, 133, 140, 147, 154, 161, 168, 175, 182, 189, 196, 203, 210, 217, 224, 231, 238, 245, 252, 3, 10, 17, 24, 31, 38, 45, 52, 59, 66, 73, 80, 87, 94, 101, 108, 115, 122, 129, 136, 143, 150, 157, 164, 171, 178, 185, 192, 199, 206, 213, 220, 227]), mac := 0, ver := 0, layout := 0, room := true }, 2, ([2, 0, 255, 255, 5] ++ List.replicate 13 0 ++ [9] ++ List.replicate 109 0), by
      decide +kernel⟩),
   (⟨(pool.getD 0 .reset).chip, { data := ([0, 7, 14, 21, 28, 35, 42, 49, 56, 63, 70, 77, 84, 91, 98, 105, 112, 119, 126, 133, 140, 147, 154, 161, 168, 175, 182, 189, 196, 203, 210, 217, 224, 231, 238, 245, 252, 3, 10, 17, 24, 31, 38, 45, 52, 59, 66, 73, 80, 87, 94, 101, 108, 115, 122, 129, 136, 143, 150, 157, 164, 171, 178, 185, 192, 199, 206, 213, 220, 227]), mac := 0, ver := 0, layout := 0, room := true }, 3, ([3, 0, 255, 255, 5] ++ List.replicate 13 0 ++ [9] ++ List.replicate 109 0), by
      decide +kernel⟩),
   (⟨(pool.getD 0 .reset).chip, 0, by
      decide +kernel⟩),
   (⟨(pool.getD 9 .reset).chip, 7, false, by
      decide +kernel⟩),
   (⟨(pool.getD 9 .reset).chip, 5, true, by
      decide +kernel⟩),
   (⟨(pool.getD 9 .reset).chip, 0, 5, by
      decide +kernel⟩)⟩

theorem test_PacketFrames_witness2 :
    (∃ (s : State) (m : Fin 16) (cyc : BitVec 32), (s.chip.running .pkt = false ∨ s.chip.macUp (8 + m.val / 4) (m.val % 4) = false ∨ 4 ≤ (s.chip.pktTime cyc.toNat).pkt.txNow)) ∧
    (∃ (s : State) (m : Fin 16) (cyc : BitVec 32), s.chip.running .pkt = true ∧ s.chip.macUp (8 + m.val / 4) (m.val % 4) = true ∧ (s.chip.pktTime cyc.toNat).pkt.txNow < 4 ∧ ((s.chip.pktTime cyc.toNat).dvtTake).nextQueue m = none) ∧
    (∃ (s : State) (m : Fin 16) (cyc : BitVec 32) (q : Nat) (f : PFrame) (rest : List PFrame), s.chip.running .pkt = true ∧ s.chip.macUp (8 + m.val / 4) (m.val % 4) = true ∧ (s.chip.pktTime cyc.toNat).pkt.txNow < 4 ∧ ((s.chip.pktTime cyc.toNat).dvtTake).nextQueue m = some q ∧ (((s.chip.pktTime cyc.toNat).dvtTake).pq q).frames = f :: rest) ∧
    (∃ (s : State) (cyc : BitVec 32), (s.chip.pkt.miss = [] ∨ (s.chip.pktTime cyc.toNat).pkt.now < s.chip.pkt.nextFill)) ∧
    (∃ (s : State) (cyc : BitVec 32) (f : PktMiss) (rest : List PktMiss) (r : List Nat) (key : List Nat), s.chip.pkt.miss = f :: rest ∧ s.chip.pkt.nextFill ≤ (s.chip.pktTime cyc.toNat).pkt.now ∧ r = s.chip.layoutRec f.ver f.layout ∧ key = emKey r (fieldVector r f.data) ∧ (s.chip.anyPoison (((fun i => s.chip.emAddr s.chip.emActive ((if i = 0 then ((s.chip.emCopy s.chip.emActive).buckets (r.getD 136 0) key).1 else ((s.chip.emCopy s.chip.emActive).buckets (r.getD 136 0) key).2) * 4))) 0) 256 = true ∨ s.chip.anyPoison (((fun i => s.chip.emAddr s.chip.emActive ((if i = 0 then ((s.chip.emCopy s.chip.emActive).buckets (r.getD 136 0) key).1 else ((s.chip.emCopy s.chip.emActive).buckets (r.getD 136 0) key).2) * 4))) 1) 256 = true)) ∧
    (∃ (s : State) (cyc : BitVec 32) (f : PktMiss) (rest : List PktMiss) (r : List Nat) (key : List Nat), s.chip.pkt.miss = f :: rest ∧ s.chip.pkt.nextFill ≤ (s.chip.pktTime cyc.toNat).pkt.now ∧ r = s.chip.layoutRec f.ver f.layout ∧ key = emKey r (fieldVector r f.data) ∧ s.chip.anyPoison (((fun i => s.chip.emAddr s.chip.emActive ((if i = 0 then ((s.chip.emCopy s.chip.emActive).buckets (r.getD 136 0) key).1 else ((s.chip.emCopy s.chip.emActive).buckets (r.getD 136 0) key).2) * 4))) 0) 256 = false ∧ s.chip.anyPoison (((fun i => s.chip.emAddr s.chip.emActive ((if i = 0 then ((s.chip.emCopy s.chip.emActive).buckets (r.getD 136 0) key).1 else ((s.chip.emCopy s.chip.emActive).buckets (r.getD 136 0) key).2) * 4))) 1) 256 = false ∧ s.chip.emFind f.ver (r.getD 136 0) key = none) ∧
    (∃ (s : State) (cyc : BitVec 32) (f : PktMiss) (rest : List PktMiss) (r : List Nat) (key : List Nat) (x : _), s.chip.pkt.miss = f :: rest ∧ s.chip.pkt.nextFill ≤ (s.chip.pktTime cyc.toNat).pkt.now ∧ r = s.chip.layoutRec f.ver f.layout ∧ key = emKey r (fieldVector r f.data) ∧ s.chip.anyPoison (((fun i => s.chip.emAddr s.chip.emActive ((if i = 0 then ((s.chip.emCopy s.chip.emActive).buckets (r.getD 136 0) key).1 else ((s.chip.emCopy s.chip.emActive).buckets (r.getD 136 0) key).2) * 4))) 0) 256 = false ∧ s.chip.anyPoison (((fun i => s.chip.emAddr s.chip.emActive ((if i = 0 then ((s.chip.emCopy s.chip.emActive).buckets (r.getD 136 0) key).1 else ((s.chip.emCopy s.chip.emActive).buckets (r.getD 136 0) key).2) * 4))) 1) 256 = false ∧ s.chip.emFind f.ver (r.getD 136 0) key = some x) ∧
    (∃ (s : State), 2 ≤ s.chip.tck.cycle) ∧
    (∃ (s : State), s.chip.tck.cycle < 2) ∧
    (∃ (s : State) (cyc : BitVec 32) (q : Nat) (x : PQueue), s.chip.pkt.queues = [(q, x)] ∧ x.credit = 1 ∧ 0 < x.level (s.chip.pktTime cyc.toNat).pkt.now) ∧
    (∃ (f : LField) (bs : List Nat), 8 * bs.length < f.start + f.width) ∧
    (∃ (f : LField) (bs : List Nat) (i : _), f.start + f.width ≤ 8 * bs.length ∧ i < f.width) ∧
    (∃ (bs : List Nat) (x : List Nat) (o : Nat) (n : Nat), x.getD 1 0 = o ∧ x.getD 2 0 = n ∧ x.getD 3 0 = 0 ∧ n ≤ (x.drop 8).length ∧ o + n ≤ bs.length ∧ x.getD 0 0 = 1) ∧
    (∃ (bs : List Nat) (x : List Nat) (o : Nat) (n : Nat), x.getD 1 0 = o ∧ x.getD 2 0 = n ∧ x.getD 3 0 = 0 ∧ n ≤ (x.drop 8).length ∧ o + n ≤ bs.length ∧ x.getD 0 0 = 2) :=
  ⟨(⟨pool.getD 0 .reset, 0, (0x1 : BitVec 32), by
      decide +kernel⟩),
   (⟨pool.getD 9 .reset, 2, (0x1 : BitVec 32), by
      decide +kernel⟩),
   (⟨pool.getD 9 .reset, 0, (0x1 : BitVec 32), 5, { data := ([0, 7, 14, 21, 28, 35, 42, 49, 56, 63, 70, 77, 84, 91, 98, 105, 112, 119, 126, 133, 140, 147, 154, 161, 168, 175, 182, 189, 196, 203, 210, 217, 224, 231, 238, 245, 252, 3, 10, 17, 24, 31, 38, 45, 52, 59, 66, 73, 80, 87, 94, 101, 108, 115, 122, 129, 136, 143, 150, 157]), len := 64, rx := none, fin := 77 }, [], by
      decide +kernel⟩),
   (⟨pool.getD 0 .reset, (0x1 : BitVec 32), by
      decide +kernel⟩),
   (⟨pool.getD 9 .reset, (0x1 : BitVec 32), { data := ([0, 7, 14, 21, 28, 35, 42, 49, 56, 63, 70, 77, 84, 91, 98, 105, 112, 119, 126, 133, 140, 147, 154, 161, 168, 175, 182, 189, 196, 203, 210, 217, 224, 231, 238, 245, 252, 3, 10, 17, 24, 31, 38, 45, 52, 59, 66, 73, 80, 87, 94, 101, 108, 115, 122, 129, 136, 143, 150, 157, 164, 171, 178, 185, 192, 199, 206, 213, 220, 227]), mac := 0, ver := 0, layout := 0, room := true }, [], ([0, 224, 1, 134, 0, 225, 3, 135] ++ List.replicate 120 0 ++ [3, 0, 0, 0, 0, 0, 0, 0, 3, 1, 1] ++ List.replicate 117 0), ([84, 91] ++ List.replicate 38 0), by
      decide +kernel⟩),
   (⟨pool.getD 11 .reset, (0x1 : BitVec 32), { data := ([0, 7, 14, 21, 28, 35, 42, 49, 56, 63, 70, 77, 84, 91, 98, 105, 112, 119, 126, 133, 140, 147, 154, 161, 168, 175, 182, 189, 196, 203, 210, 217, 224, 231, 238, 245, 252, 3, 10, 17, 24, 31, 38, 45, 52, 59, 66, 73, 80, 87, 94, 101, 108, 115, 122, 129, 136, 143, 150, 157, 164, 171, 178, 185, 192, 199, 206, 213, 220, 227]), mac := 0, ver := 0, layout := 0, room := true }, [], ([0, 224, 1, 134, 0, 225, 3, 135] ++ List.replicate 120 0 ++ [3, 0, 0, 0, 0, 0, 0, 0, 3, 1, 1] ++ List.replicate 117 0), ([84, 91] ++ List.replicate 38 0), by
      decide +kernel⟩),
   (⟨pool.getD 10 .reset, (0x1 : BitVec 32), { data := ([0, 7, 14, 21, 28, 35, 42, 49, 56, 63, 70, 77, 84, 91, 98, 105, 112, 119, 126, 133, 140, 147, 154, 161, 168, 175, 182, 189, 196, 203, 210, 217, 224, 231, 238, 245, 252, 3, 10, 17, 24, 31, 38, 45, 52, 59, 66, 73, 80, 87, 94, 101, 108, 115, 122, 129, 136, 143, 150, 157, 164, 171, 178, 185, 192, 199, 206, 213, 220, 227]), mac := 0, ver := 0, layout := 0, room := true }, [], ([0, 224, 1, 134, 0, 225, 3, 135] ++ List.replicate 120 0 ++ [3, 0, 0, 0, 0, 0, 0, 0, 3, 1, 1] ++ List.replicate 117 0), ([84, 91] ++ List.replicate 38 0), { id := 1, key := ([84, 91] ++ List.replicate 38 0), profile := 3, addVer := 0, delVer := 0, deleted := false, action := 2, pend := 0 }, by
      decide +kernel⟩),
   (⟨pool.getD 12 .reset, by
      decide +kernel⟩),
   (⟨pool.getD 0 .reset, by
      decide +kernel⟩),
   (⟨pool.getD 13 .reset, (0x1 : BitVec 32), 3, { mac := 0, prio := 0, weight := 1, depth := 0, shape := false, full := false, rate := 0, burst := 100, tokens := 5, at_ := 0, frames := [], fLast := 0, credit := 1, drops := 0 }, by
      decide +kernel⟩),
   (⟨(⟨true, 0, 8, 0, 0⟩), [], by
      decide +kernel⟩),
   (⟨(⟨true, 0, 8, 0, 0⟩), ([0, 7, 14, 21, 28, 35, 42, 49, 56, 63, 70, 77, 84, 91, 98, 105, 112, 119, 126, 133, 140, 147, 154, 161, 168, 175, 182, 189, 196, 203, 210, 217, 224, 231, 238, 245, 252, 3, 10, 17, 24, 31, 38, 45, 52, 59, 66, 73, 80, 87, 94, 101, 108, 115, 122, 129, 136, 143, 150, 157]), 0, by
      decide +kernel⟩),
   (⟨([0, 7, 14, 21, 28, 35, 42, 49, 56, 63, 70, 77, 84, 91, 98, 105, 112, 119, 126, 133, 140, 147, 154, 161, 168, 175, 182, 189, 196, 203, 210, 217, 224, 231, 238, 245, 252, 3, 10, 17, 24, 31, 38, 45, 52, 59, 66, 73, 80, 87, 94, 101, 108, 115, 122, 129, 136, 143, 150, 157]), ([1, 14, 4, 0, 0, 0, 0, 0, 100, 101, 102, 103, 104, 105, 106, 107, 108, 109, 110, 111, 112, 113, 114, 115]), 14, 4, by
      decide +kernel⟩),
   (⟨([0, 7, 14, 21, 28, 35, 42, 49, 56, 63, 70, 77, 84, 91, 98, 105, 112, 119, 126, 133, 140, 147, 154, 161, 168, 175, 182, 189, 196, 203, 210, 217, 224, 231, 238, 245, 252, 3, 10, 17, 24, 31, 38, 45, 52, 59, 66, 73, 80, 87, 94, 101, 108, 115, 122, 129, 136, 143, 150, 157]), ([2, 14, 4, 0, 0, 0, 0, 0, 100, 101, 102, 103, 104, 105, 106, 107, 108, 109, 110, 111, 112, 113, 114, 115]), 14, 4, by
      decide +kernel⟩)⟩

theorem test_PacketFrames_witness3 :
    (∃ (bs : List Nat) (x : List Nat) (o : Nat) (n : Nat), x.getD 1 0 = o ∧ x.getD 2 0 = n ∧ x.getD 3 0 = 0 ∧ n ≤ (x.drop 8).length ∧ o + n ≤ bs.length ∧ x.getD 0 0 = 3) :=
  (⟨([0, 7, 14, 21, 28, 35, 42, 49, 56, 63, 70, 77, 84, 91, 98, 105, 112, 119, 126, 133, 140, 147, 154, 161, 168, 175, 182, 189, 196, 203, 210, 217, 224, 231, 238, 245, 252, 3, 10, 17, 24, 31, 38, 45, 52, 59, 66, 73, 80, 87, 94, 101, 108, 115, 122, 129, 136, 143, 150, 157]), ([3, 14, 4, 0, 0, 0, 0, 0, 100, 101, 102, 103, 104, 105, 106, 107, 108, 109, 110, 111, 112, 113, 114, 115]), 14, 4, by
      decide +kernel⟩)

theorem test_PacketCommands_witness1 :
    (∃ (s : State) (src : Submit) (k : Nat), src.origin = .ring k ∧ isVF (s.chip.ringFn k) = true ∧ TakenUp s.chip src .pkt true 0) ∧
    (∃ (s : State) (src : Submit) (r : Nat), TakenUp s.chip src .pkt false 0 ∧ RecordClean s.chip r 256 ∧ (s.chip.layoutOk (s.chip.bytes r 256) = false ∨ 65535 ≤ s.chip.stagedOpen)) ∧
    (∃ (s : State) (src : Submit) (r : Nat), TakenUp s.chip src .pkt false 0 ∧ RecordClean s.chip r 256 ∧ s.chip.layoutOk (s.chip.bytes r 256) = true ∧ s.chip.stagedOpen < 65535) ∧
    (∃ (s : State) (src : Submit) (p : BitVec 8) (r : Nat), TakenUp s.chip src .pkt false 0 ∧ (p.toNat < 8 ∨ 11 < p.toNat ∨ (RecordClean s.chip r 520 ∧ (selectOk (s.chip.bytes r 520) = false ∨ 65535 ≤ s.chip.stagedOpen)))) ∧
    (∃ (s : State) (src : Submit) (p : BitVec 8) (r : Nat), TakenUp s.chip src .pkt false 0 ∧ 8 ≤ p.toNat ∧ p.toNat ≤ 11 ∧ RecordClean s.chip r 520 ∧ selectOk (s.chip.bytes r 520) = true ∧ s.chip.stagedOpen < 65535) ∧
    (∃ (s : State) (src : Submit) (x : BitVec 16) (r : Nat), TakenUp s.chip src .pkt false 0 ∧ RecordClean s.chip r 128 ∧ (16384 ≤ x.toNat ∨ actionOk (s.chip.bytes r 128) = false ∨ (tget s.chip.pkt.actions x.toNat).isSome = true ∨ (∃ q, (x.toNat, q) ∈ s.chip.pkt.actPend))) ∧
    (∃ (s : State) (src : Submit) (x : BitVec 16) (r : Nat), TakenUp s.chip src .pkt false 0 ∧ RecordClean s.chip r 128 ∧ x.toNat < 16384 ∧ actionOk (s.chip.bytes r 128) = true ∧ tget s.chip.pkt.actions x.toNat = none ∧ (∀ q, (x.toNat, q) ∉ s.chip.pkt.actPend)) ∧
    (∃ (s : State) (src : Submit) (x : BitVec 16), TakenUp s.chip src .pkt false 0 ∧ (tget s.chip.pkt.actions x.toNat = none ∨ s.chip.actionNamed x.toNat = true)) ∧
    (∃ (s : State) (src : Submit) (x : BitVec 16), TakenUp s.chip src .pkt false 0 ∧ (tget s.chip.pkt.actions x.toNat).isSome = true ∧ s.chip.actionNamed x.toNat = false) ∧
    (∃ (s : State) (src : Submit) (o : BitVec 8) (x : BitVec 16) (i : BitVec 16) (r : Nat), TakenUp s.chip src .pkt false 0 ∧ o.toNat ≤ 1 ∧ RecordClean s.chip r 160 ∧ (8192 ≤ i.toNat ∨ tget s.chip.pkt.actions x.toNat = none ∨ (tget s.chip.pkt.tcam i.toNat).isSome = true ∨ 65535 ≤ s.chip.stagedOpen)) ∧
    (∃ (s : State) (src : Submit) (o : BitVec 8) (x : BitVec 16) (i : BitVec 16) (r : Nat), TakenUp s.chip src .pkt false 0 ∧ o.toNat ≤ 1 ∧ RecordClean s.chip r 160 ∧ i.toNat < 8192 ∧ (tget s.chip.pkt.actions x.toNat).isSome = true ∧ tget s.chip.pkt.tcam i.toNat = none ∧ s.chip.stagedOpen < 65535) ∧
    (∃ (s : State), s.chip.rebState = 3) ∧
    (∃ (s : State) (src : Submit) (x : BitVec 16) (r : Nat), TakenUp s.chip src .pkt false 0 ∧ s.chip.rebState ≠ 3 ∧ RecordClean s.chip r 64 ∧ (emRecOk (s.chip.bytes r 64) = false ∨ tget s.chip.pkt.actions x.toNat = none)) ∧
    (∃ (s : State) (src : Submit) (x : BitVec 16) (r : Nat), TakenUp s.chip src .pkt false 0 ∧ s.chip.rebState ≠ 3 ∧ RecordClean s.chip r 64 ∧ emRecOk (s.chip.bytes r 64) = true ∧ (tget s.chip.pkt.actions x.toNat).isSome = true ∧ s.chip.stagedOpen < 65535 ∧ (s.chip.emCopy s.chip.emActive).slots = [] ∧ s.chip.rebState = 0) :=
  ⟨(⟨pool.getD 0 .reset, { origin := Origin.ring 2, tag := (0xfffffff0 : BitVec 32) }, 2, by
      unfold TakenUp
      refine @of_decide_eq_true _ (by haveI := @decAllSome; haveI := @decExSome; haveI := @decOk; haveI := @decErr; infer_instance) ?_
      decide +kernel⟩),
   (⟨pool.getD 1 .reset, { origin := Origin.ring 0, tag := (0x5 : BitVec 32) }, 33024, by
      unfold TakenUp RecordClean
      refine @of_decide_eq_true _ (by haveI := @decAllSome; haveI := @decExSome; haveI := @decOk; haveI := @decErr; infer_instance) ?_
      decide +kernel⟩),
   (⟨pool.getD 0 .reset, { origin := Origin.ring 0, tag := (0x5 : BitVec 32) }, 0, by
      unfold TakenUp RecordClean
      refine @of_decide_eq_true _ (by haveI := @decAllSome; haveI := @decExSome; haveI := @decOk; haveI := @decErr; infer_instance) ?_
      decide +kernel⟩),
   (⟨pool.getD 0 .reset, { origin := Origin.ring 0, tag := (0x5 : BitVec 32) }, (0x0 : BitVec 8), 0, by
      unfold TakenUp RecordClean
      refine @of_decide_eq_true _ (by haveI := @decAllSome; haveI := @decExSome; haveI := @decOk; haveI := @decErr; infer_instance) ?_
      decide +kernel⟩),
   (⟨pool.getD 0 .reset, { origin := Origin.ring 0, tag := (0x5 : BitVec 32) }, (0x8 : BitVec 8), 0, by
      unfold TakenUp RecordClean
      refine @of_decide_eq_true _ (by haveI := @decAllSome; haveI := @decExSome; haveI := @decOk; haveI := @decErr; infer_instance) ?_
      decide +kernel⟩),
   (⟨pool.getD 0 .reset, { origin := Origin.ring 0, tag := (0x5 : BitVec 32) }, (0x0 : BitVec 16), 0, by unfold TakenUp; refine @of_decide_eq_true _ (by haveI := @decAllSome; haveI := @decExSome; haveI := @decOk; haveI := @decErr; infer_instance) ?_; decide +kernel, by unfold RecordClean; refine @of_decide_eq_true _ (by haveI := @decAllSome; haveI := @decExSome; haveI := @decOk; haveI := @decErr; infer_instance) ?_; decide +kernel, (Or.inr (Or.inr (Or.inl (by decide +kernel))))⟩),
   (⟨pool.getD 0 .reset, { origin := Origin.ring 0, tag := (0x5 : BitVec 32) }, (0x6 : BitVec 16), 0, by unfold TakenUp; refine @of_decide_eq_true _ (by haveI := @decAllSome; haveI := @decExSome; haveI := @decOk; haveI := @decErr; infer_instance) ?_; decide +kernel, by unfold RecordClean; refine @of_decide_eq_true _ (by haveI := @decAllSome; haveI := @decExSome; haveI := @decOk; haveI := @decErr; infer_instance) ?_; decide +kernel, by decide +kernel, by decide +kernel, by decide +kernel, (by intro q h; have e : (pool.getD 0 .reset).chip.pkt.actPend = [] := (by decide +kernel); rw [e] at h; cases h)⟩),
   (⟨pool.getD 0 .reset, { origin := Origin.ring 0, tag := (0x5 : BitVec 32) }, (0x6 : BitVec 16), by
      unfold TakenUp
      refine @of_decide_eq_true _ (by haveI := @decAllSome; haveI := @decExSome; haveI := @decOk; haveI := @decErr; infer_instance) ?_
      decide +kernel⟩),
   (⟨pool.getD 0 .reset, { origin := Origin.ring 0, tag := (0x5 : BitVec 32) }, (0x0 : BitVec 16), by
      unfold TakenUp
      refine @of_decide_eq_true _ (by haveI := @decAllSome; haveI := @decExSome; haveI := @decOk; haveI := @decErr; infer_instance) ?_
      decide +kernel⟩),
   (⟨pool.getD 0 .reset, { origin := Origin.ring 0, tag := (0x5 : BitVec 32) }, (0x0 : BitVec 8), (0x0 : BitVec 16), (0x2000 : BitVec 16), 0, by
      unfold TakenUp RecordClean
      refine @of_decide_eq_true _ (by haveI := @decAllSome; haveI := @decExSome; haveI := @decOk; haveI := @decErr; infer_instance) ?_
      decide +kernel⟩),
   (⟨pool.getD 0 .reset, { origin := Origin.ring 0, tag := (0x5 : BitVec 32) }, (0x0 : BitVec 8), (0x0 : BitVec 16), (0x0 : BitVec 16), 0, by
      unfold TakenUp RecordClean
      refine @of_decide_eq_true _ (by haveI := @decAllSome; haveI := @decExSome; haveI := @decOk; haveI := @decErr; infer_instance) ?_
      decide +kernel⟩),
   (⟨pool.getD 47 .reset, by
      decide +kernel⟩),
   (⟨pool.getD 0 .reset, { origin := Origin.ring 0, tag := (0x5 : BitVec 32) }, (0x6 : BitVec 16), 0, by
      unfold TakenUp RecordClean
      refine @of_decide_eq_true _ (by haveI := @decAllSome; haveI := @decExSome; haveI := @decOk; haveI := @decErr; infer_instance) ?_
      decide +kernel⟩),
   (⟨pool.getD 0 .reset, { origin := Origin.ring 0, tag := (0x5 : BitVec 32) }, (0x0 : BitVec 16), 0, by
      unfold TakenUp RecordClean
      refine @of_decide_eq_true _ (by haveI := @decAllSome; haveI := @decExSome; haveI := @decOk; haveI := @decErr; infer_instance) ?_
      decide +kernel⟩)⟩

theorem test_PacketCommands_witness2 :
    (∃ (s : State) (src : Submit) (x : BitVec 16) (r : Nat), TakenUp s.chip src .pkt false 0 ∧ s.chip.rebState ≠ 3 ∧ RecordClean s.chip r 64 ∧ emRecOk (s.chip.bytes r 64) = true ∧ (tget s.chip.pkt.actions x.toNat).isSome = true ∧ (∃ y ∈ (s.chip.emCopy s.chip.emActive).slots, y.2.key = (s.chip.bytes r 64).take 40 ∧ y.2.profile = (s.chip.bytes r 64).getD 40 0 ∧ (y.2.pend ≠ 0 ∨ y.2.live s.chip.pktP = true))) ∧
    (∃ (s : State) (src : Submit) (x : BitVec 16) (r : Nat), TakenUp s.chip src .pkt false 0 ∧ s.chip.rebState ≠ 3 ∧ RecordClean s.chip r 64 ∧ emRecOk (s.chip.bytes r 64) = true ∧ (tget s.chip.pkt.actions x.toNat).isSome = true ∧ s.chip.stagedOpen < 65535 ∧ (∀ y ∈ (s.chip.emCopy s.chip.emActive).slots, ¬ (y.2.key = (s.chip.bytes r 64).take 40 ∧ y.2.profile = (s.chip.bytes r 64).getD 40 0 ∧ (y.2.pend ≠ 0 ∨ y.2.live s.chip.pktP = true))) ∧ ((s.chip.emCopy s.chip.emActive).insert (s.chip.dropHand src.origin).emPick ⟨s.chip.pkt.nextId, (s.chip.bytes r 64).take 40, (s.chip.bytes r 64).getD 40 0, 0, 0, false, x.toNat, 2 ^ 64⟩) = none) ∧
    (∃ (s : State) (src : Submit) (x : BitVec 16) (r : Nat), TakenUp s.chip src .pkt false 0 ∧ s.chip.rebState ≠ 3 ∧ RecordClean s.chip r 64 ∧ emRecOk (s.chip.bytes r 64) = true ∧ (tget s.chip.pkt.actions x.toNat).isSome = true ∧ s.chip.stagedOpen < 65535 ∧ (∀ y ∈ (s.chip.emCopy s.chip.emActive).slots, ¬ (y.2.key = (s.chip.bytes r 64).take 40 ∧ y.2.profile = (s.chip.bytes r 64).getD 40 0 ∧ (y.2.pend ≠ 0 ∨ y.2.live s.chip.pktP = true))) ∧ ((s.chip.emCopy s.chip.emActive).insert (s.chip.dropHand src.origin).emPick ⟨s.chip.pkt.nextId, (s.chip.bytes r 64).take 40, (s.chip.bytes r 64).getD 40 0, 0, 0, false, x.toNat, 2 ^ 64⟩) ≠ none ∧ s.chip.rebState = 0) ∧
    (∃ (s : State) (src : Submit) (r : Nat), TakenUp s.chip src .pkt false 0 ∧ RecordClean s.chip r 64 ∧ (emRecOk (s.chip.bytes r 64) = false ∨ s.chip.emFind s.chip.pktC ((s.chip.bytes r 64).getD 40 0) ((s.chip.bytes r 64).take 40) = none ∨ 65535 ≤ s.chip.stagedOpen)) ∧
    (∃ (s : State) (src : Submit) (r : Nat) (e : _), TakenUp s.chip src .pkt false 0 ∧ RecordClean s.chip r 64 ∧ emRecOk (s.chip.bytes r 64) = true ∧ s.chip.emFind s.chip.pktC ((s.chip.bytes r 64).getD 40 0) ((s.chip.bytes r 64).take 40) = some e ∧ s.chip.stagedOpen < 65535) ∧
    (∃ (s : State) (src : Submit) (t : BitVec 8) (o : BitVec 8), TakenUp s.chip src .pkt false 0 ∧ (1 < t.toNat ∨ 1 < o.toNat) ∧ ¬ (t = 0 ∧ s.chip.rebState = 3)) ∧
    (∃ (s : State) (src : Submit) (t : BitVec 8), TakenUp s.chip src .pkt false 0 ∧ 1 < t.toNat) ∧
    (∃ (s : State) (src : Submit) (r : Nat), TakenUp s.chip src .pkt false 0 ∧ (r % 64 ≠ 0 ∨ s.chip.inDieOrNear r 256 = false ∨ s.chip.anyPoison r 256 = true) ∧ (∀ q ∈ s.chip.mu.flips, overlaps r 256 q.1 32 = false)) ∧
    (∃ (s : State) (src : Submit) (i : BitVec 16), TakenUp s.chip src .pkt false 0 ∧ (8192 ≤ i.toNat ∨ (∀ e, tget s.chip.pkt.tcam i.toNat = some e → e.live s.chip.pktC = false) ∨ 65535 ≤ s.chip.stagedOpen)) ∧
    (∃ (s : State) (src : Submit) (i : BitVec 16) (e : _), TakenUp s.chip src .pkt false 0 ∧ i.toNat < 8192 ∧ tget s.chip.pkt.tcam i.toNat = some e ∧ e.live s.chip.pktC = true ∧ s.chip.stagedOpen < 65535) ∧
    (∃ (s : State) (src : Submit), TakenUp s.chip src .pkt false 0) ∧
    (∃ (s : State) (src : Submit) (f : BitVec 16) (n : BitVec 16), TakenUp s.chip src .pkt false 0 ∧ (n = 0 ∨ 4096 < f.toNat + n.toNat)) ∧
    (∃ (s : State) (src : Submit) (f : BitVec 16) (n : BitVec 16) (r : Nat), TakenUp s.chip src .pkt false 0 ∧ 0 < n.toNat ∧ f.toNat + n.toNat ≤ 4096 ∧ RecordClean s.chip r (2 * n.toNat) ∧ s.chip.stagedOpen < 65535) ∧
    (∃ (s : State) (src : Submit) (m : BitVec 8) (p : BitVec 8) (fl : BitVec 8) (de : BitVec 32) (ra : BitVec 32) (bu : BitVec 32), TakenUp s.chip src .pkt false 0 ∧ (15 < m.toNat ∨ 7 < p.toNat ∨ 3 < fl.toNat ∨ de = 0 ∨ 16384 < de.toNat ∨ ra = 0 ∨ 16777215 < ra.toNat ∨ bu.toNat < 9216 ∨ 16777215 < bu.toNat)) :=
  ⟨(⟨pool.getD 7 .reset, { origin := Origin.ring 0, tag := (0x5 : BitVec 32) }, (0x0 : BitVec 16), 34560, by
      unfold TakenUp RecordClean
      refine @of_decide_eq_true _ (by haveI := @decAllSome; haveI := @decExSome; haveI := @decOk; haveI := @decErr; infer_instance) ?_
      decide +kernel⟩),
   (⟨st exFull, ⟨.ring 0, 5⟩, 0, 0x8700, by unfold TakenUp; refine @of_decide_eq_true _ (by haveI := @decAllSome; haveI := @decExSome; haveI := @decOk; haveI := @decErr; infer_instance) ?_; decide +kernel, by decide +kernel, by unfold RecordClean; refine @of_decide_eq_true _ (by haveI := @decAllSome; haveI := @decExSome; haveI := @decOk; haveI := @decErr; infer_instance) ?_; decide +kernel, by decide +kernel, by decide +kernel, by decide +kernel, by refine @of_decide_eq_true _ (by haveI := @decAllSome; haveI := @decExSome; haveI := @decOk; haveI := @decErr; infer_instance) ?_; decide +kernel, exFull_none _⟩),
   (⟨pool.getD 0 .reset, { origin := Origin.ring 0, tag := (0x5 : BitVec 32) }, (0x0 : BitVec 16), 0, by
      unfold TakenUp RecordClean
      refine @of_decide_eq_true _ (by haveI := @decAllSome; haveI := @decExSome; haveI := @decOk; haveI := @decErr; infer_instance) ?_
      decide +kernel⟩),
   (⟨pool.getD 0 .reset, { origin := Origin.ring 0, tag := (0x5 : BitVec 32) }, 0, by
      unfold TakenUp RecordClean
      refine @of_decide_eq_true _ (by haveI := @decAllSome; haveI := @decExSome; haveI := @decOk; haveI := @decErr; infer_instance) ?_
      decide +kernel⟩),
   (⟨pool.getD 7 .reset, { origin := Origin.ring 0, tag := (0x5 : BitVec 32) }, 34560, { id := 1, key := ([1, 2, 3] ++ List.replicate 37 0), profile := 0, addVer := 0, delVer := 0, deleted := false, action := 1, pend := 0 }, by
      unfold TakenUp RecordClean
      refine @of_decide_eq_true _ (by haveI := @decAllSome; haveI := @decExSome; haveI := @decOk; haveI := @decErr; infer_instance) ?_
      decide +kernel⟩),
   (⟨pool.getD 0 .reset, { origin := Origin.ring 0, tag := (0x5 : BitVec 32) }, (0x0 : BitVec 8), (0x2 : BitVec 8), by
      unfold TakenUp
      refine @of_decide_eq_true _ (by haveI := @decAllSome; haveI := @decExSome; haveI := @decOk; haveI := @decErr; infer_instance) ?_
      decide +kernel⟩),
   (⟨pool.getD 0 .reset, { origin := Origin.ring 0, tag := (0x5 : BitVec 32) }, (0x2 : BitVec 8), by
      unfold TakenUp
      refine @of_decide_eq_true _ (by haveI := @decAllSome; haveI := @decExSome; haveI := @decOk; haveI := @decErr; infer_instance) ?_
      decide +kernel⟩),
   (⟨pool.getD 0 .reset, { origin := Origin.ring 0, tag := (0x5 : BitVec 32) }, 1, by
      unfold TakenUp
      refine @of_decide_eq_true _ (by haveI := @decAllSome; haveI := @decExSome; haveI := @decOk; haveI := @decErr; infer_instance) ?_
      decide +kernel⟩),
   (⟨pool.getD 0 .reset, { origin := Origin.ring 0, tag := (0x5 : BitVec 32) }, (0x0 : BitVec 16), by
      unfold TakenUp
      refine @of_decide_eq_true _ (by haveI := @decAllSome; haveI := @decExSome; haveI := @decOk; haveI := @decErr; infer_instance) ?_
      decide +kernel⟩),
   (⟨pool.getD 30 .reset, { origin := Origin.ring 0, tag := (0x5 : BitVec 32) }, (0x3 : BitVec 16), { value := (List.replicate 80 0), mask := (List.replicate 80 0), action := 1, addVer := 0, delVer := 0, deleted := false, override := true, pend := 0 }, by
      unfold TakenUp
      refine @of_decide_eq_true _ (by haveI := @decAllSome; haveI := @decExSome; haveI := @decOk; haveI := @decErr; infer_instance) ?_
      decide +kernel⟩),
   (⟨pool.getD 0 .reset, { origin := Origin.ring 0, tag := (0x5 : BitVec 32) }, by
      unfold TakenUp
      refine @of_decide_eq_true _ (by haveI := @decAllSome; haveI := @decExSome; haveI := @decOk; haveI := @decErr; infer_instance) ?_
      decide +kernel⟩),
   (⟨pool.getD 0 .reset, { origin := Origin.ring 0, tag := (0x5 : BitVec 32) }, (0x0 : BitVec 16), (0x0 : BitVec 16), by
      unfold TakenUp
      refine @of_decide_eq_true _ (by haveI := @decAllSome; haveI := @decExSome; haveI := @decOk; haveI := @decErr; infer_instance) ?_
      decide +kernel⟩),
   (⟨pool.getD 0 .reset, { origin := Origin.ring 0, tag := (0x5 : BitVec 32) }, (0x0 : BitVec 16), (0x5 : BitVec 16), 0, by
      unfold TakenUp RecordClean
      refine @of_decide_eq_true _ (by haveI := @decAllSome; haveI := @decExSome; haveI := @decOk; haveI := @decErr; infer_instance) ?_
      decide +kernel⟩),
   (⟨pool.getD 0 .reset, { origin := Origin.ring 0, tag := (0x5 : BitVec 32) }, (0x0 : BitVec 8), (0x0 : BitVec 8), (0x0 : BitVec 8), (0x1 : BitVec 32), (0x1 : BitVec 32), (0x1 : BitVec 32), by
      unfold TakenUp
      refine @of_decide_eq_true _ (by haveI := @decAllSome; haveI := @decExSome; haveI := @decOk; haveI := @decErr; infer_instance) ?_
      decide +kernel⟩)⟩

theorem test_PacketCommands_witness3 :
    (∃ (s : State) (src : Submit) (m : BitVec 8) (p : BitVec 8) (fl : BitVec 8) (de : BitVec 32) (ra : BitVec 32) (bu : BitVec 32), TakenUp s.chip src .pkt false 0 ∧ m.toNat ≤ 15 ∧ p.toNat ≤ 7 ∧ fl.toNat ≤ 3 ∧ 0 < de.toNat ∧ de.toNat ≤ 16384 ∧ 0 < ra.toNat ∧ ra.toNat ≤ 16777215 ∧ 9216 ≤ bu.toNat ∧ bu.toNat ≤ 16777215) ∧
    (∃ (s : State) (src : Submit) (k : BitVec 16) (fl : BitVec 8), TakenUp s.chip src .pkt false 0 ∧ (16384 ≤ k.toNat ∨ (fl ≠ 0 ∧ fl ≠ 2))) ∧
    (∃ (s : State) (src : Submit) (k : BitVec 16) (fl : BitVec 8), TakenUp s.chip src .pkt false 0 ∧ k.toNat < 16384 ∧ (fl = 0 ∨ fl = 2)) ∧
    (∃ (s : State), (s.chip.flag Reg.PKT_VERSION.RETIRING = false ∨ (∃ f ∈ s.chip.pkt.miss, f.ver ≠ s.chip.pktC) ∨ s.chip.rebState = 3)) ∧
    (∃ (s : State), s.chip.flag Reg.PKT_VERSION.RETIRING = true ∧ s.chip.pkt.miss = [] ∧ s.chip.rebState = 0 ∧ s.chip.pkt.keyWait = []) ∧
    (∃ (s : State), s.chip.rebState ≠ 1) ∧
    (∃ (s : State), s.chip.rebState ≠ 2) ∧
    (∃ (s : State), s.chip.rebState ≠ 3) ∧
    (∃ (s : State) (c : EmCopy), s.chip.emActive ≤ 1 ∧ s.chip.rebState = 1 ∧ (s.chip.emCopy (1 - s.chip.emActive)).applyAll s.chip.emPick (s.chip.pkt.reb.todo.map EmChange.put) = some c) ∧
    (∃ (s : State) (c : EmCopy), s.chip.emActive ≤ 1 ∧ s.chip.rebState = 2 ∧ (s.chip.emCopy (1 - s.chip.emActive)).applyAll s.chip.emPick (s.chip.pkt.reb.log.take (s.chip.pkt.reb.log.length - 1024)) = some c) ∧
    (∃ (s : State) (c : EmCopy), s.chip.emActive ≤ 1 ∧ s.chip.rebState = 3 ∧ (s.chip.emCopy (1 - s.chip.emActive)).applyAll s.chip.emPick s.chip.pkt.reb.log = some c ∧ s.chip.led.items = []) ∧
    (∃ (s : State), s.chip.rebState = 1 ∧ s.chip.pkt.reb.todo = []) ∧
    (∃ (s : State), s.chip.rebState = 2 ∧ s.chip.pkt.reb.log.length ≤ 1024) ∧
    (∃ (s : State), s.chip.rebState = 3 ∧ s.chip.pkt.reb.log = [] ∧ s.chip.led.items = [] ∧ s.chip.emActive ≤ 1) :=
  ⟨(⟨pool.getD 0 .reset, { origin := Origin.ring 0, tag := (0x5 : BitVec 32) }, (0x0 : BitVec 8), (0x0 : BitVec 8), (0x0 : BitVec 8), (0x1 : BitVec 32), (0x1 : BitVec 32), (0x2400 : BitVec 32), by
      unfold TakenUp
      refine @of_decide_eq_true _ (by haveI := @decAllSome; haveI := @decExSome; haveI := @decOk; haveI := @decErr; infer_instance) ?_
      decide +kernel⟩),
   (⟨pool.getD 0 .reset, { origin := Origin.ring 0, tag := (0x5 : BitVec 32) }, (0x0 : BitVec 16), (0x8 : BitVec 8), by
      unfold TakenUp
      refine @of_decide_eq_true _ (by haveI := @decAllSome; haveI := @decExSome; haveI := @decOk; haveI := @decErr; infer_instance) ?_
      decide +kernel⟩),
   (⟨pool.getD 0 .reset, { origin := Origin.ring 0, tag := (0x5 : BitVec 32) }, (0x0 : BitVec 16), (0x0 : BitVec 8), by
      unfold TakenUp
      refine @of_decide_eq_true _ (by haveI := @decAllSome; haveI := @decExSome; haveI := @decOk; haveI := @decErr; infer_instance) ?_
      decide +kernel⟩),
   (⟨pool.getD 0 .reset, by
      refine @of_decide_eq_true _ (by haveI := @decAllSome; haveI := @decExSome; haveI := @decOk; haveI := @decErr; infer_instance) ?_
      decide +kernel⟩),
   (⟨pool.getD 37 .reset, by
      decide +kernel⟩),
   (⟨pool.getD 0 .reset, by
      decide +kernel⟩),
   (⟨pool.getD 0 .reset, by
      decide +kernel⟩),
   (⟨pool.getD 0 .reset, by
      decide +kernel⟩),
   (⟨pool.getD 45 .reset, { slots := [], seed0 := 0, seed1 := 0 }, by
      decide +kernel⟩),
   (⟨pool.getD 46 .reset, { slots := [], seed0 := 0, seed1 := 0 }, by
      decide +kernel⟩),
   (⟨pool.getD 47 .reset, { slots := [], seed0 := 0, seed1 := 0 }, by
      decide +kernel⟩),
   (⟨pool.getD 45 .reset, by
      decide +kernel⟩),
   (⟨pool.getD 46 .reset, by
      decide +kernel⟩),
   (⟨pool.getD 47 .reset, by
      decide +kernel⟩)⟩

theorem test_PacketCommands_witness4 :
    (∃ (s : State), s.chip.rebState = 1 ∧ s.chip.pkt.reb.on = true ∧ s.chip.rg Reg.PKT_EM_STATE.ABANDONS < 3 ∧ (s.chip.emCopy (1 - s.chip.emActive)).applyAll s.chip.emPick (s.chip.pkt.reb.todo.map EmChange.put) = none) ∧
    (∃ (s : State), s.chip.pkt.reb.restart = none) ∧
    (∃ (s : State) (t : _), s.chip.pkt.reb.restart = some t ∧ (s.chip.tick < t ∨ s.chip.running .pkt = false)) ∧
    (∃ (s : State) (t : _), s.chip.pkt.reb.restart = some t ∧ t ≤ s.chip.tick ∧ s.chip.running .pkt = true) ∧
    (∃ (s : State), (s.chip.pkt.reb.on = false ∨ s.chip.rebState = 0)) ∧
    (∃ (s : State), s.chip.pkt.reb.on = true ∧ s.chip.rebState ≠ 0) :=
  ⟨(⟨st emFull, by decide +kernel, by decide +kernel, by decide +kernel, emFull_none⟩),
   (⟨pool.getD 0 .reset, by
      decide +kernel⟩),
   (⟨pool.getD 52 .reset, 99, by
      decide +kernel⟩),
   (⟨pool.getD 51 .reset, 0, by
      decide +kernel⟩),
   (⟨pool.getD 0 .reset, by
      decide +kernel⟩),
   (⟨pool.getD 46 .reset, by
      decide +kernel⟩)⟩

end Sys2Proof.Tests.C12
end

