-- ==== Sys2Proof/Tests/C13.lean ====
section
/-! SUPPORT. States and operands that meet the hypotheses of the statements of chapter 13, clause by clause. -/
set_option Elab.async false
set_option maxRecDepth 100000
namespace Sys2Proof.Tests.C13
open Sys2Proof Sys2Proof.Machine Sys2Proof.Tests

def hfx (d : Chip) (f : Hif → Hif) : Chip := { d with hif := f d.hif }
def ringb (d : Chip) (r : Nat) (k : Nat := 0) : Chip := ((((d.sr (Reg.HIF_RING.CMD_BASE r) 0x10_0000_0000).sr (Reg.HIF_RING.RPL_BASE r) 0x10_0000_8000).sr (Reg.HIF_RING.KIND r) k).sr (Reg.HIF_RING.MIRROR r) 0).sr (Reg.HIF_DB_CMD.CMD_TAIL r) 3
def pool1 (st_ : Nat) : PoolRec := { ringFirst := 2, ringCount := 2, vectors := 4, hwinFirst := 3, hwinCount := 1, state := st_, memBase := 0x11_0000_0000 }
def kup : Chip := (hand up).sr (Reg.HIF_BAR2_BASE.BASE 0) 0x10_0000_0000
def nf (d : Chip) : Chip := { d with fetched := [] }
def pk (d : Chip) (r : List Nat) : Chip := r.foldl (fun d r => ringb d r) d
def vfp (st_ : Nat) : Tbl PoolRec := [(1, pool1 st_), (2, ({ pool1 st_ with ringFirst := 0, vectors := 0 } : PoolRec)), (65, pool1 1)]
def vf (d : Chip) (st_ : Nat) : Chip := let d : Chip := hfx d (fun (h : Hif) => { h with pools := vfp st_ }); (d.sr (Reg.HIF_STATE.NUM_VFS 0) 2).sr (Reg.HIF_VF_CFG.BAR2_LOG2 0) 20
def rpl (r seq : Nat) (q : Nat := 5) : Reply := { ring := r, code := q, tag := 7, seq := seq, replayed := false, single := false, carried := false, lo := 1, hi := 2, more := false }
def owe (d : Chip) (l : List Reply) : Chip := { d with owed := l }
def rd (t : Option Nat) (seq fn since : Nat) (re : Bool := false) : HostRead := ⟨pfOf fn, t, seq, fn, since, re, false⟩
def me (d : Chip) : Chip := (d.sr (Reg.HIF_STATE.ME 0) 1)
def fz (d : Chip) (c : Nat) : Chip := (d.sr (Reg.HIF_STATE.FROZEN 0) 1).sr (Reg.HIF_FREEZE.CAUSE 0) c
def itm (q : Nat) (o : Origin) (f : Nat) : Item := { item0 q (.general 1) .none with origin := o, fn := f }
def msA : List Chip := [{}, kup, noise kup, pk (nf kup) [0, 1, 2, 3], pk (nf (noise kup)) [0, 1, 3], vf (pk (nf kup) [0, 2]) 1, (pk (nf kup) [0, 3]).sr (Reg.HIF_RING.ENABLE 0) 0, vf ((noise (pk (nf kup) [0, 2])).sr (Reg.HIF_RING.ENABLE 2) 0) 1, ((ringb (nf kup) 0 3).sr (Reg.HIF_RING.RPL_BASE 0) 0x10).sr (Reg.HIF_RING.ENABLE 0) 0, ringb (nf (noise kup)) 0 3,
  (ringb (nf kup) 0 0).sr (Reg.HIF_RING.ERR 0) 1, { ringb (nf kup) 0 0 with mem := { cells := [], poison := [0x10_0000_0000] } }, (ringb (nf kup) 0).sr (Reg.HIF_RING_IDX.RPL_HEAD 0) 60, fz (ringb (nf kup) 0) 3, owe (ringb (nf kup) 0) [rpl 0 0, rpl 1 3], owe (ringb (nf (noise kup)) 0) [rpl 0 3, rpl 0 0], owe (withItems (ringb (nf kup) 0) [itm 2 (.ring 0) 0]) [rpl 0 3], hfx (owe (ringb (nf kup) 0) [rpl 0 0]) (fun h => { h with flr := [0] }),
  hfx kup (fun h => { h with ints := [(0, { count := 0, first := 0 }), (2, { count := 3, first := 0 }), (1, { count := 3, first := 1000 })] }), me (hfx (noise kup) (fun h => { h with ints := [(0, { count := 2, first := 0 })], unmasked := [0, 1] })), withItems (hfx kup (fun h => { h with dirty := [(2, ⟨0x1000, 64, 0x9000⟩), (63, ⟨0x1000, 64, 0x9000⟩)] })) [],
  { hfx kup (fun h => { h with dirty := [(2, ⟨0x1000, 64, 0x9000⟩)] }) with led := { kup.led with items := [itm 1 (.ring 0) 0], nextSeq := 3 } }, cntMax kup [Reg.HIF_COUNT.COUNT 0 7], { kup with pwr := { kup.pwr with trigger := 3 } }, kup.sr Reg.PCR_STATE.READY 0, ((ringb (nf kup) 0).sr (Reg.HIF_RING_IDX.RPL_HEAD 0) 0xFFFFFFFF).sr (Reg.HIF_DB_RPL.RPL_TAIL 0) 0xFFFFFFF0,
  owe (((ringb (nf kup) 0).sr (Reg.HIF_RING_IDX.RPL_HEAD 0) 0xFFFFFFFF).sr (Reg.HIF_DB_RPL.RPL_TAIL 0) 0xFFFFFFF0) [rpl 0 0]]
def rds (d : Chip) : Chip := hfx d (fun (h : Hif) => { h with reads := [rd (some 1) 2 0 0, rd (some 2) 3 1 0, rd none 2 0 0, rd (some 5) 2 0 900 true, rd (some 6) 2 0 0 true, rd (some 7) 3 2 0, rd (some 8) 4 0 0 true], quar := [(0, 3, 0), (0, 4, 100), (1, 1, 5)], atc := [5, 2^52 + 5, 6, 700], vfMe := [2], unmasked := [1, 2048 * 2 + 3], msiPend := [3, 2048 * 2, 1], aer := [3, 65536 + 5] })
def its (d : Chip) : Chip := { d with led := { d.led with items := [itm 2 (.ring 0) 0, itm 3 (.ring 1) 2, { itm 4 (.ring 0) 0 with state := .committed }], nextSeq := 9 } }
def t0 (d : Chip) : Chip := d.sr Reg.TCK_NUMBER.NUMBER 1000
def mb (d : Chip) : Chip := hfx d (fun (h : Hif) => { h with mbox := [(1, { db := true }), (2, { out := [1] })] })
def msB : List Chip := [{}, kup, noise kup, fz kup 3, fz (rds kup) 3, fz (rds (noise kup)) 4, me (rds (its (t0 kup))), rds (vf (its (noise (t0 kup))) 1), me (rds (vf (t0 (pk (hand kup) [0, 2])) 1)), mb (vf kup 1), mb (vf (noise kup) 3), hfx (rds (its kup)) (fun (h : Hif) => { h with flr := [0, 2] }), hfx (rds (t0 (noise kup))) (fun (h : Hif) => { h with flr := [0, 2] }), { rds (its (t0 kup)) with led := { (its kup).led with lost := true } },
  (rds (t0 (noise kup))).sr (Reg.HIF_STATE.NUM_VFS 0) 0, (vf (noise kup) 1).sr (Reg.HIF_STATE.NUM_VFS 0) 0, (vf kup 0).sr (Reg.HIF_STATE.NUM_VFS 0) 0, cntMax (vf (rds kup) 1) [Reg.HIF_COUNT.COUNT 0 9, Reg.HIF_COUNT.COUNT 0 7, Reg.HIF_COUNT.COUNT 0 8, Reg.HIF_COUNT.COUNT 0 3]]
def t0_2 (d : Chip) : Chip := d.sr Reg.TCK_NUMBER.NUMBER (2^44)
def msB_2 : List Chip := [{}, kup, noise kup, fz kup 3, fz (rds kup) 3, fz (rds (noise kup)) 4, me (rds (its (t0_2 kup))), rds (vf (its (noise (t0_2 kup))) 1), me (rds (vf (t0_2 (pk (hand kup) [0, 2])) 1)), mb (vf kup 1), mb (vf (noise kup) 3), hfx (rds (its kup)) (fun (h : Hif) => { h with flr := [0, 2] }), hfx (rds (t0_2 (noise kup))) (fun (h : Hif) => { h with flr := [0, 2] }), { rds (its (t0_2 kup)) with led := { (its kup).led with lost := true } },
  (rds (t0_2 (noise kup))).sr (Reg.HIF_STATE.NUM_VFS 0) 0, (vf (noise kup) 1).sr (Reg.HIF_STATE.NUM_VFS 0) 0, (vf kup 0).sr (Reg.HIF_STATE.NUM_VFS 0) 0, cntMax (vf (rds kup) 1) [Reg.HIF_COUNT.COUNT 0 9, Reg.HIF_COUNT.COUNT 0 7, Reg.HIF_COUNT.COUNT 0 8, Reg.HIF_COUNT.COUNT 0 3]]
def pool : List State := ([vf kup 2].map st) ++ (msA.map st) ++ (msB.map st) ++ (msB_2.map st)

theorem test_HostRings_witness1 :
    (∃ (s : State) (src : Submit), TakenUp s.chip src .hif true 0) ∧
    (∃ (s : State) (q : Req), ((s.chip.wake).reqDead q = true ∨ (s.chip.wake).hub.inReset = true)) ∧
    (∃ (s : State) (q : Req), (s.chip.wake).reqDead q = false ∧ (s.chip.wake).hub.inReset = false ∧ (s.chip.wake).flag Reg.PCR_STATE.READY = false) ∧
    (∃ (s : State) (q : Req) (r : BitVec 14) (t : BitVec 32), (s.chip.wake).reqDead q = false ∧ (s.chip.wake).hub.inReset = false ∧ (s.chip.wake).flag Reg.PCR_STATE.READY = true ∧ (s.chip.wake).mayWrite q r.toNat = true ∧ sub32 t.toNat ((s.chip.wake).rg (Reg.HIF_RING_IDX.CMD_HEAD r.toNat)) ≤ (s.chip.wake).cmdEntries r.toNat) ∧
    (∃ (s : State) (q : Req) (r : BitVec 14) (t : BitVec 32), (s.chip.wake).reqDead q = false ∧ (s.chip.wake).hub.inReset = false ∧ (s.chip.wake).flag Reg.PCR_STATE.READY = true ∧ (s.chip.wake).mayWrite q r.toNat = true ∧ sub32 ((s.chip.wake).rg (Reg.HIF_RING_IDX.RPL_HEAD r.toNat)) t.toNat < 2 ^ 31) ∧
    (∃ (s : State) (q : Req) (r : BitVec 14) (t : BitVec 32), (s.chip.wake).reqDead q = false ∧ (s.chip.wake).hub.inReset = false ∧ (s.chip.wake).flag Reg.PCR_STATE.READY = true ∧ ((s.chip.wake).mayWrite q r.toNat = false ∨ (s.chip.wake).cmdEntries r.toNat < sub32 t.toNat ((s.chip.wake).rg (Reg.HIF_RING_IDX.CMD_HEAD r.toNat)))) ∧
    (∃ (s : State) (q : Req) (r : BitVec 14) (t : BitVec 32), (s.chip.wake).reqDead q = false ∧ (s.chip.wake).hub.inReset = false ∧ (s.chip.wake).flag Reg.PCR_STATE.READY = true ∧ ((s.chip.wake).mayWrite q r.toNat = false ∨ 2 ^ 31 ≤ sub32 ((s.chip.wake).rg (Reg.HIF_RING_IDX.RPL_HEAD r.toNat)) t.toNat)) ∧
    (∃ (s : State) (q : Req), s.chip.reqDead q = true) ∧
    (∃ (s : State) (q : Req) (r : BitVec 14), s.chip.reqDead q = false ∧ s.chip.mayWrite q r.toNat = false) ∧
    (∃ (s : State) (q : Req) (r : BitVec 14), s.chip.reqDead q = false ∧ s.chip.mayWrite q r.toNat = true ∧ s.chip.flag (Reg.HIF_RING.ENABLE r.toNat) = true) ∧
    (∃ (s : State) (q : Req) (r : BitVec 14), s.chip.reqDead q = false ∧ s.chip.mayWrite q r.toNat = true ∧ s.chip.flag (Reg.HIF_RING.ENABLE r.toNat) = false ∧ s.chip.ringOwner r.toNat = none) ∧
    (∃ (s : State) (q : Req) (r : BitVec 14) (f : _), s.chip.reqDead q = false ∧ s.chip.mayWrite q r.toNat = true ∧ s.chip.flag (Reg.HIF_RING.ENABLE r.toNat) = false ∧ s.chip.ringOwner r.toNat = some f ∧ s.chip.ringOk f r.toNat = false) ∧
    (∃ (s : State) (q : Req) (r : BitVec 14) (f : _), s.chip.reqDead q = false ∧ s.chip.mayWrite q r.toNat = true ∧ s.chip.flag (Reg.HIF_RING.ENABLE r.toNat) = false ∧ s.chip.ringOwner r.toNat = some f ∧ s.chip.ringOk f r.toNat = true) ∧
    (∃ (s : State) (r : BitVec 14), (s.chip.flag (Reg.HIF_RING.ENABLE r.toNat) = false ∨ s.chip.flag (Reg.HIF_RING.ERR r.toNat) = true ∨ s.chip.fetched.contains r.toNat = true ∨ s.chip.ringDead r.toNat = true ∨ s.chip.running .hif = false ∨ (s.chip.agentRec (.block .hif)).fencing = true ∨ s.chip.rg (Reg.HIF_RING_IDX.CMD_HEAD r.toNat) = s.chip.rg (Reg.HIF_DB_CMD.CMD_TAIL r.toNat) ∨ s.chip.rplEntries r.toNat ≤ s.chip.ringLoad r.toNat + 16)) :=
  ⟨(⟨pool.getD 0 .reset, { origin := Origin.ring 0, tag := (0x5 : BitVec 32) }, by
      unfold TakenUp
      refine @of_decide_eq_true _ (by haveI := @decAllSome; haveI := @decExSome; haveI := @decOk; haveI := @decErr; infer_instance) ?_
      decide +kernel⟩),
   (⟨pool.getD 14 .reset, Req.fn 0, by
      decide +kernel⟩),
   (⟨pool.getD 1 .reset, Req.fn 0, by
      decide +kernel⟩),
   (⟨pool.getD 0 .reset, Req.fn 0, (0x0 : BitVec 14), (0x0 : BitVec 32), by
      decide +kernel⟩),
   (⟨pool.getD 0 .reset, Req.fn 0, (0x0 : BitVec 14), (0x0 : BitVec 32), by
      decide +kernel⟩),
   (⟨pool.getD 0 .reset, Req.fn 0, (0x0 : BitVec 14), (0x64 : BitVec 32), by
      decide +kernel⟩),
   (⟨pool.getD 0 .reset, Req.fn 0, (0x0 : BitVec 14), (0x3 : BitVec 32), by
      decide +kernel⟩),
   (⟨pool.getD 14 .reset, Req.fn 0, by
      decide +kernel⟩),
   (⟨pool.getD 0 .reset, Req.fn 0, (0x4 : BitVec 14), by
      decide +kernel⟩),
   (⟨pool.getD 0 .reset, Req.fn 0, (0x0 : BitVec 14), by
      decide +kernel⟩),
   (⟨pool.getD 0 .reset, Req.core 0, (0x4 : BitVec 14), by
      decide +kernel⟩),
   (⟨pool.getD 0 .reset, Req.fn 0, (0x1 : BitVec 14), 0, by
      decide +kernel⟩),
   (⟨pool.getD 4 .reset, Req.fn 0, (0x1 : BitVec 14), 0, by
      decide +kernel⟩),
   (⟨pool.getD 0 .reset, (0x0 : BitVec 14), by
      decide +kernel⟩)⟩

theorem test_HostRings_witness2 :
    (∃ (s : State) (r : BitVec 14) (e : Desc), s.chip.flag (Reg.HIF_RING.ENABLE r.toNat) = true ∧ s.chip.flag (Reg.HIF_RING.ERR r.toNat) = false ∧ s.chip.fetched.contains r.toNat = false ∧ s.chip.ringDead r.toNat = false ∧ s.chip.running .hif = true ∧ (s.chip.agentRec (.block .hif)).fencing = false ∧ s.chip.rg (Reg.HIF_RING_IDX.CMD_HEAD r.toNat) ≠ s.chip.rg (Reg.HIF_DB_CMD.CMD_TAIL r.toNat) ∧ s.chip.ringLoad r.toNat + 16 < s.chip.rplEntries r.toNat ∧ s.chip.anyPoison (s.chip.rg (Reg.HIF_RING.CMD_BASE r.toNat) + s.chip.rg (Reg.HIF_RING_IDX.CMD_HEAD r.toNat) % s.chip.cmdEntries r.toNat * 64) 64 = false ∧ s.chip.rg (Reg.HIF_RING.KIND r.toNat) = 0 ∧ (generalOpcode (opcodeOf e) = false ∨ wf e.w0 16 16 ≠ 0)) ∧
    (∃ (s : State) (r : BitVec 14) (e : Desc), s.chip.flag (Reg.HIF_RING.ENABLE r.toNat) = true ∧ s.chip.flag (Reg.HIF_RING.ERR r.toNat) = false ∧ s.chip.fetched.contains r.toNat = false ∧ s.chip.ringDead r.toNat = false ∧ s.chip.running .hif = true ∧ (s.chip.agentRec (.block .hif)).fencing = false ∧ s.chip.rg (Reg.HIF_RING_IDX.CMD_HEAD r.toNat) ≠ s.chip.rg (Reg.HIF_DB_CMD.CMD_TAIL r.toNat) ∧ s.chip.ringLoad r.toNat + 16 < s.chip.rplEntries r.toNat ∧ s.chip.anyPoison (s.chip.rg (Reg.HIF_RING.CMD_BASE r.toNat) + s.chip.rg (Reg.HIF_RING_IDX.CMD_HEAD r.toNat) % s.chip.cmdEntries r.toNat * 64) 64 = false ∧ (s.chip.rg (Reg.HIF_RING.KIND r.toNat) ≠ 0 ∨ (generalOpcode (opcodeOf e) = true ∧ wf e.w0 16 16 = 0))) ∧
    (∃ (s : State) (r : BitVec 14), (s.chip.ringFull r.toNat = true ∨ s.chip.hif.flr.contains (s.chip.ringFn r.toNat) = true ∨ (s.chip.flag (Reg.HIF_RING.ENABLE r.toNat) = false ∧ s.chip.flag (Reg.HIF_RING.DRAINING r.toNat) = false) ∨ s.chip.owed.find? (fun x => x.ring = r.toNat && s.chip.replyReady x) = none)) ∧
    (∃ (s : State) (r : BitVec 14) (x : Reply), s.chip.ringFull r.toNat = false ∧ s.chip.hif.flr.contains (s.chip.ringFn r.toNat) = false ∧ (s.chip.flag (Reg.HIF_RING.ENABLE r.toNat) = true ∨ s.chip.flag (Reg.HIF_RING.DRAINING r.toNat) = true) ∧ s.chip.owed.find? (fun x => x.ring = r.toNat && s.chip.replyReady x) = some x ∧ s.chip.rg (Reg.HIF_RING.MIRROR r.toNat) = 0) ∧
    (∃ (s : State) (r : BitVec 14), tget s.chip.hif.ints r.toNat = none) ∧
    (∃ (s : State) (r : BitVec 14) (x : RingInt), tget s.chip.hif.ints r.toNat = some x ∧ (x.count = 0 ∨ s.chip.tick + 1 < x.first + s.chip.usTicks (s.chip.rg (Reg.HIF_RING.MOD_US r.toNat)))) ∧
    (∃ (s : State) (r : BitVec 14) (x : RingInt), tget s.chip.hif.ints r.toNat = some x ∧ x.count ≠ 0 ∧ x.first + s.chip.usTicks (s.chip.rg (Reg.HIF_RING.MOD_US r.toNat)) ≤ s.chip.tick + 1) ∧
    (∃ (s : State) (src : Submit) (v : BitVec 8) (h : Nat) (b : Nat) (n : BitVec 32), s.chip.coreServes (s.chip.roleCore 0) = true ∧ TakenUp s.chip src .hif false 0 ∧ (v = 0 ∨ 63 < v.toNat ∨ h % 4096 ≠ 0 ∨ bitmapOk s.chip b n.toNat = false ∨ (tget s.chip.hif.dirty (dirtyKey s.chip src v.toNat)).isSome = true)) ∧
    (∃ (s : State) (src : Submit) (v : BitVec 8) (h : Nat) (b : Nat) (n : BitVec 32), s.chip.coreServes (s.chip.roleCore 0) = true ∧ TakenUp s.chip src .hif false 0 ∧ 0 < v.toNat ∧ v.toNat ≤ 63 ∧ h % 4096 = 0 ∧ h < 2 ^ 64 ∧ b < 2 ^ 64 ∧ bitmapOk s.chip b n.toNat = true ∧ tget s.chip.hif.dirty (dirtyKey s.chip src v.toNat) = none) ∧
    (∃ (s : State) (src : Submit) (v : BitVec 8), s.chip.coreServes (s.chip.roleCore 0) = true ∧ TakenUp s.chip src .hif false 0 ∧ tget s.chip.hif.dirty (dirtyKey s.chip src v.toNat) = none) ∧
    (∃ (s : State) (src : Submit) (v : BitVec 8) (b : Nat) (g : _), s.chip.coreServes (s.chip.roleCore 0) = true ∧ TakenUp s.chip src .hif false 0 ∧ 0 < v.toNat ∧ v.toNat ≤ 63 ∧ tget s.chip.hif.dirty (dirtyKey s.chip src v.toNat) = some g ∧ b < 2 ^ 64 ∧ bitmapOk s.chip b g.pages = true) :=
  ⟨(⟨pool.getD 4 .reset, (0x0 : BitVec 14), { w0 := (0x90000ff01 : BitVec 64), w1 := (0x0 : BitVec 64), w2 := (0x0 : BitVec 64), w3 := (0x0 : BitVec 64), w4 := (0x0 : BitVec 64), w5 := (0x0 : BitVec 64), w6 := (0x0 : BitVec 64), w7 := (0x0 : BitVec 64) }, by
      decide +kernel⟩),
   (⟨pool.getD 4 .reset, (0x0 : BitVec 14), { w0 := (0x900000101 : BitVec 64), w1 := (0x0 : BitVec 64), w2 := (0x0 : BitVec 64), w3 := (0x0 : BitVec 64), w4 := (0x0 : BitVec 64), w5 := (0x0 : BitVec 64), w6 := (0x0 : BitVec 64), w7 := (0x0 : BitVec 64) }, by
      decide +kernel⟩),
   (⟨pool.getD 0 .reset, (0x0 : BitVec 14), by
      decide +kernel⟩),
   (⟨pool.getD 15 .reset, (0x0 : BitVec 14), { ring := 0, code := 5, tag := 7, seq := 0, replayed := false, single := false, carried := false, more := false, lo := 1, hi := 2 }, by
      decide +kernel⟩),
   (⟨pool.getD 0 .reset, (0x0 : BitVec 14), by
      decide +kernel⟩),
   (⟨pool.getD 19 .reset, (0x0 : BitVec 14), { count := 0, first := 0, attn := 0 }, by
      decide +kernel⟩),
   (⟨pool.getD 19 .reset, (0x2 : BitVec 14), { count := 3, first := 0, attn := 0 }, by
      decide +kernel⟩),
   (⟨pool.getD 0 .reset, { origin := Origin.ring 0, tag := (0x5 : BitVec 32) }, (0x0 : BitVec 8), 0, 0, (0x0 : BitVec 32), by
      unfold TakenUp
      refine @of_decide_eq_true _ (by haveI := @decAllSome; haveI := @decExSome; haveI := @decOk; haveI := @decErr; infer_instance) ?_
      decide +kernel⟩),
   (⟨pool.getD 0 .reset, { origin := Origin.ring 0, tag := (0x5 : BitVec 32) }, (0x2 : BitVec 8), 0, 0, (0x0 : BitVec 32), by
      unfold TakenUp
      refine @of_decide_eq_true _ (by haveI := @decAllSome; haveI := @decExSome; haveI := @decOk; haveI := @decErr; infer_instance) ?_
      decide +kernel⟩),
   (⟨pool.getD 0 .reset, { origin := Origin.ring 0, tag := (0x5 : BitVec 32) }, (0x0 : BitVec 8), by
      unfold TakenUp
      refine @of_decide_eq_true _ (by haveI := @decAllSome; haveI := @decExSome; haveI := @decOk; haveI := @decErr; infer_instance) ?_
      decide +kernel⟩),
   (⟨pool.getD 21 .reset, { origin := Origin.ring 0, tag := (0x5 : BitVec 32) }, (0x2 : BitVec 8), 0, { hbase := 4096, pages := 64, bitmap := 36864 }, by
      unfold TakenUp
      refine @of_decide_eq_true _ (by haveI := @decAllSome; haveI := @decExSome; haveI := @decOk; haveI := @decErr; infer_instance) ?_
      decide +kernel⟩)⟩

theorem test_HostFunctions_witness1 :
    (∃ (s : State) (p : Fin 2), (s.chip.frozen p = false ∨ s.chip.hif.aer.contains (p.val * 65536 + s.chip.rg (Reg.HIF_FREEZE.CAUSE p)) = true)) ∧
    (∃ (s : State) (p : Fin 2), s.chip.frozen p = true ∧ s.chip.hif.aer.contains (p.val * 65536 + s.chip.rg (Reg.HIF_FREEZE.CAUSE p)) = false) ∧
    (∃ (s : State), NvmeQuiet s.chip) ∧
    (∃ (s : State) (p : Fin 2), s.chip.rg (Reg.HIF_STATE.NUM_VFS p) = 0) ∧
    (∃ (s : State) (p : Fin 2), s.chip.rg (Reg.HIF_STATE.NUM_VFS p) ≠ 0) ∧
    (∃ (s : State) (p : Fin 2) (v : _), 1 ≤ v ∧ v ≤ s.chip.rg (Reg.HIF_STATE.NUM_VFS p) ∧ s.chip.rg (Reg.HIF_STATE.NUM_VFS p) ≤ 63 ∧ (s.chip.poolRec p v).state = 1) ∧
    (∃ (s : State) (p : Fin 2) (v : _), 1 ≤ v ∧ v ≤ s.chip.rg (Reg.HIF_STATE.NUM_VFS p) ∧ s.chip.rg (Reg.HIF_STATE.NUM_VFS p) ≤ 63 ∧ (s.chip.poolRec p v).state = 2) ∧
    (∃ (s : State) (f : Fin 128), s.chip.fnExists f = false) ∧
    (∃ (s : State) (f : Fin 128) (i : Item), s.chip.fnExists f = true ∧ s.chip.led.items = [i] ∧ i.fn = f.val ∧ i.state.ended = false ∧ s.chip.led.lost = false ∧ s.chip.canWithdraw i.seq = true ∧ s.chip.hif.flr.contains f.val = false) ∧
    (∃ (s : State) (f : Fin 128) (r : _), s.chip.fnExists f = true ∧ s.chip.hif.flr.contains f.val = false ∧ r ∈ (s.chip.flr f).fetched) ∧
    (∃ (s : State) (f : Fin 128) (r : _), s.chip.fnExists f = true ∧ s.chip.hif.flr.contains f.val = false ∧ r ∈ (s.chip.flr f).hif.reads ∧ r.fn = f.val) ∧
    (∃ (s : State) (p : Fin 2) (v : Fin 64), (v = 0 ∨ s.chip.fnExists (vfNum p v) = false)) ∧
    (∃ (s : State) (p : Fin 2) (v : Fin 64), v ≠ 0 ∧ s.chip.fnExists (vfNum p v) = true) ∧
    (∃ (s : State) (f : Fin 128), (s.chip.hif.flr.contains f.val = false ∨ (∃ i ∈ s.chip.led.items, i.fn = f.val ∧ i.state.ended = false) ∨ ((tget s.chip.nvs.ctls f.val).map (fun c => c.resetting)).getD false = true)) :=
  ⟨(⟨pool.getD 0 .reset, 0, by
      decide +kernel⟩),
   (⟨pool.getD 14 .reset, 0, by
      decide +kernel⟩),
   (⟨pool.getD 0 .reset, by
      unfold NvmeQuiet
      refine @of_decide_eq_true _ (by haveI := @decAllSome; haveI := @decExSome; haveI := @decOk; haveI := @decErr; infer_instance) ?_
      decide +kernel⟩),
   (⟨pool.getD 0 .reset, 1, by
      decide +kernel⟩),
   (⟨pool.getD 0 .reset, 0, by
      decide +kernel⟩),
   (⟨pool.getD 6 .reset, 0, 1, by
      decide +kernel⟩),
   (⟨pool.getD 0 .reset, 0, 1, by
      decide +kernel⟩),
   (⟨pool.getD 0 .reset, 2, by
      decide +kernel⟩),
   (⟨pool.getD 17 .reset, 0, { seq := 2, slot := 2, state := ItemState.running, domain := Domain.core 1, tag := 9, owner := 65, replied := false, redo := false, replayed := false, plan := 0, acceptTick := 0, endTick := 0, origin := Origin.ring 0, fn := 0, kind := ItemKind.general 1, body := { w0 := (0x0 : BitVec 64), w1 := (0x0 : BitVec 64), w2 := (0x0 : BitVec 64), w3 := (0x0 : BitVec 64), w4 := (0x0 : BitVec 64), w5 := (0x0 : BitVec 64), w6 := (0x0 : BitVec 64), w7 := (0x0 : BitVec 64) }, crec := CommitRec.none, fin := none, redoRec := none, carried := false, single := false, reply := { code := 0, lo := 0, hi := 0 } }, by
      decide +kernel⟩),
   (⟨pool.getD 0 .reset, 0, 2, by
      decide +kernel⟩),
   (⟨pool.getD 32 .reset, 0, { pf := 0, tag := none, seq := 2, fn := 0, since := 0, retried := false, back := false }, by
      decide +kernel⟩),
   (⟨pool.getD 0 .reset, 0, 0, by
      decide +kernel⟩),
   (⟨pool.getD 6 .reset, 0, 1, by
      decide +kernel⟩),
   (⟨pool.getD 0 .reset, 0, by
      refine @of_decide_eq_true _ (by haveI := @decAllSome; haveI := @decExSome; haveI := @decOk; haveI := @decErr; infer_instance) ?_
      decide +kernel⟩)⟩

theorem test_HostFunctions_witness2 :
    (∃ (s : State) (f : Fin 128), s.chip.hif.flr.contains f.val = true ∧ (∀ i ∈ s.chip.led.items, i.fn = f.val → i.state.ended = true) ∧ ((tget s.chip.nvs.ctls f.val).map (fun c => c.resetting)).getD false = false) ∧
    (∃ (s : State) (p : Fin 2) (t : BitVec 14), NvmeQuiet s.chip ∧ s.chip.hif.reads.find? (fun r => r.pf = p.val && r.tag = some t.toNat) = none) ∧
    (∃ (s : State) (p : Fin 2) (t : BitVec 14) (r : _), NvmeQuiet s.chip ∧ s.chip.hif.reads.find? (fun r => r.pf = p.val && r.tag = some t.toNat) = some r ∧ s.chip.tick + 1 < r.since + cplTicks s.chip) ∧
    (∃ (s : State) (p : Fin 2) (t : BitVec 14) (r : _), NvmeQuiet s.chip ∧ s.chip.hif.reads.find? (fun r => r.pf = p.val && r.tag = some t.toNat) = some r ∧ r.since + cplTicks s.chip ≤ s.chip.tick + 1 ∧ r.retried = false) ∧
    (∃ (s : State) (p : Fin 2) (t : BitVec 14) (r : _) (i : Item), NvmeQuiet s.chip ∧ s.chip.hif.reads.find? (fun r => r.pf = p.val && r.tag = some t.toNat) = some r ∧ r.since + cplTicks s.chip ≤ s.chip.tick + 1 ∧ r.retried = true ∧ s.chip.item r.seq = some i ∧ i.seq = r.seq ∧ i.state.ended = false ∧ i.crec ≠ .taken ∧ s.chip.led.lost = false) ∧
    (∃ (s : State) (p : Fin 2) (t : BitVec 14), NvmeQuiet s.chip ∧ s.chip.hif.quar.any (fun q => q.1 = p.val && q.2.1 = t.toNat) = false ∧ s.chip.hif.reads.find? (fun r => r.pf = p.val && r.tag = some t.toNat) = none) ∧
    (∃ (s : State) (p : Fin 2) (t : BitVec 14), NvmeQuiet s.chip ∧ s.chip.hif.quar.any (fun q => q.1 = p.val && q.2.1 = t.toNat) = true) ∧
    (∃ (s : State) (p : Fin 2) (t : BitVec 14) (r : HostRead) (i : Item), NvmeQuiet s.chip ∧ s.chip.hif.quar.any (fun q => q.1 = p.val && q.2.1 = t.toNat) = false ∧ s.chip.hif.reads.find? (fun r => r.pf = p.val && r.tag = some t.toNat) = some r ∧ s.chip.item r.seq = some i ∧ i.seq = r.seq ∧ i.state.ended = false ∧ i.crec ≠ .taken ∧ s.chip.led.lost = false) ∧
    (∃ (s : State) (p : Fin 2) (v : Fin 64), (v = 0 ∨ ((s.chip.wake).poolRec p v).state ≠ 1 ∨ (s.chip.wake).frozen p = true)) ∧
    (∃ (s : State) (p : Fin 2) (v : Fin 64), v ≠ 0 ∧ ((s.chip.wake).poolRec p v).state = 1 ∧ (s.chip.wake).frozen p = false ∧ ((tget (s.chip.wake).hif.mbox (p.val * 64 + v.val)).getD {}).db = true) ∧
    (∃ (s : State) (p : Fin 2) (v : Fin 64), v ≠ 0 ∧ ((s.chip.wake).poolRec p v).state = 1 ∧ (s.chip.wake).frozen p = false ∧ ((tget (s.chip.wake).hif.mbox (p.val * 64 + v.val)).getD {}).db = false) :=
  ⟨(⟨pool.getD 18 .reset, 0, by
      refine @of_decide_eq_true _ (by haveI := @decAllSome; haveI := @decExSome; haveI := @decOk; haveI := @decErr; infer_instance) ?_
      decide +kernel⟩),
   (⟨pool.getD 0 .reset, 0, (0x0 : BitVec 14), by
      unfold NvmeQuiet
      refine @of_decide_eq_true _ (by haveI := @decAllSome; haveI := @decExSome; haveI := @decOk; haveI := @decErr; infer_instance) ?_
      decide +kernel⟩),
   (⟨pool.getD 32 .reset, 0, (0x1 : BitVec 14), { pf := 0, tag := some 1, seq := 2, fn := 0, since := 0, retried := false, back := false }, by
      unfold NvmeQuiet
      refine @of_decide_eq_true _ (by haveI := @decAllSome; haveI := @decExSome; haveI := @decOk; haveI := @decErr; infer_instance) ?_
      decide +kernel⟩),
   (⟨pool.getD 52 .reset, 0, (0x1 : BitVec 14), { pf := 0, tag := some 1, seq := 2, fn := 0, since := 0, retried := false, back := false }, by
      unfold NvmeQuiet
      refine @of_decide_eq_true _ (by haveI := @decAllSome; haveI := @decExSome; haveI := @decOk; haveI := @decErr; infer_instance) ?_
      decide +kernel⟩),
   (⟨pool.getD 52 .reset, 0, (0x5 : BitVec 14), { pf := 0, tag := some 5, seq := 2, fn := 0, since := 900, retried := true, back := false }, { seq := 2, slot := 2, state := ItemState.running, domain := Domain.core 1, tag := 9, owner := 65, replied := false, redo := false, replayed := false, plan := 0, acceptTick := 0, endTick := 0, origin := Origin.ring 0, fn := 0, kind := ItemKind.general 1, body := { w0 := (0x0 : BitVec 64), w1 := (0x0 : BitVec 64), w2 := (0x0 : BitVec 64), w3 := (0x0 : BitVec 64), w4 := (0x0 : BitVec 64), w5 := (0x0 : BitVec 64), w6 := (0x0 : BitVec 64), w7 := (0x0 : BitVec 64) }, crec := CommitRec.none, fin := none, redoRec := none, carried := false, single := false, reply := { code := 0, lo := 0, hi := 0 } }, by
      unfold NvmeQuiet
      refine @of_decide_eq_true _ (by haveI := @decAllSome; haveI := @decExSome; haveI := @decOk; haveI := @decErr; infer_instance) ?_
      decide +kernel⟩),
   (⟨pool.getD 0 .reset, 0, (0x0 : BitVec 14), by
      unfold NvmeQuiet
      refine @of_decide_eq_true _ (by haveI := @decAllSome; haveI := @decExSome; haveI := @decOk; haveI := @decErr; infer_instance) ?_
      decide +kernel⟩),
   (⟨pool.getD 32 .reset, 0, (0x4 : BitVec 14), by
      unfold NvmeQuiet
      refine @of_decide_eq_true _ (by haveI := @decAllSome; haveI := @decExSome; haveI := @decOk; haveI := @decErr; infer_instance) ?_
      decide +kernel⟩),
   (⟨pool.getD 34 .reset, 0, (0x1 : BitVec 14), { pf := 0, tag := some 1, seq := 2, fn := 0, since := 0, retried := false, back := false }, { seq := 2, slot := 2, state := ItemState.running, domain := Domain.core 1, tag := 9, owner := 65, replied := false, redo := false, replayed := false, plan := 0, acceptTick := 0, endTick := 0, origin := Origin.ring 0, fn := 0, kind := ItemKind.general 1, body := { w0 := (0x0 : BitVec 64), w1 := (0x0 : BitVec 64), w2 := (0x0 : BitVec 64), w3 := (0x0 : BitVec 64), w4 := (0x0 : BitVec 64), w5 := (0x0 : BitVec 64), w6 := (0x0 : BitVec 64), w7 := (0x0 : BitVec 64) }, crec := CommitRec.none, fin := none, redoRec := none, carried := false, single := false, reply := { code := 0, lo := 0, hi := 0 } }, by
      unfold NvmeQuiet
      refine @of_decide_eq_true _ (by haveI := @decAllSome; haveI := @decExSome; haveI := @decOk; haveI := @decErr; infer_instance) ?_
      decide +kernel⟩),
   (⟨pool.getD 0 .reset, 0, 0, by
      decide +kernel⟩),
   (⟨pool.getD 37 .reset, 0, 1, by
      decide +kernel⟩),
   (⟨pool.getD 0 .reset, 1, 1, by
      decide +kernel⟩)⟩

end Sys2Proof.Tests.C13
end

