-- ==== Sys2Proof/Tests/C14.lean ====
section
/-! SUPPORT. States and operands that meet the hypotheses of the statements of chapter 14, clause by clause. -/
set_option Elab.async false
set_option maxRecDepth 100000
namespace Sys2Proof.Tests.C14
open Sys2Proof Sys2Proof.Machine Sys2Proof.Tests

def kup : Chip := hand up
def outOf (o : Out) : Chip := match o with | .next t => t.chip | _ => {}
def xf (src dst len ch : Nat) (fence paced : Nat := 0) (burst : Nat := 0) (t : Nat := 9) : Desc := descOf [t, src, dst, len + ch * 2^32 + fence * 2^40 + paced * 2^41, burst, 0, 0, 0]
def cfg (d : Chip) (c : Nat) (src pin port line buf : Nat) : Chip := ((((d.sr (Reg.DMA_CHAN_CFG.PACE_SRC c) src).sr (Reg.DMA_CHAN_CFG.PIN c) pin).sr (Reg.DMA_CHAN_CFG.PORT c) port).sr (Reg.DMA_CHAN_CFG.LINE c) line).sr (Reg.DMA_CHAN_CFG.BUF c) buf
def en (d : Chip) (c : Fin 32) : Chip := outOf (execDmaChanEnable c (st d))
def k1 : Chip := en (en (cfg (cfg kup 0 0 0 0 0 4) 3 1 0 2 4 4) 0) 3
def k2 : Chip := en (en (cfg (cfg (noise kup) 0 2 1 0 0 4) 3 1 0 2 4 4) 0) 3
def sub : Submit := ⟨.ring 0, 5⟩
def rh (d : Chip) : Chip := { d with fetched := [0, 2] }
def x1 (d : Chip) (x : Desc) : Chip := rh (outOf (execDmaXfer sub x (st d)))
def crd (d : Chip) (c n : Nat) : Chip := d.sr (Reg.DMA_CHAN_STATE.CREDITS c) n
def pt (d : Chip) (c n : Nat) : Chip := d.sr (Reg.DMA_CHAN_CFG.PACE_TIMEOUT c) n
def ms : List Chip := [{}, kup, noise kup, k1, k2, crd k1 3 5, crd k2 3 255, cfg k1 5 2 1 0 0 4, cfg k2 5 2 1 0 0 4, cfg k1 5 1 0 2 4 4, cfg k1 5 1 0 2 5 4, cfg k1 5 1 0 3 8 126, x1 k1 (xf 0x1000 0x2000 100 3 0 1 64), x1 (crd k1 3 2) (xf 0x1000 0x2000 100 3 0 1 64), x1 (crd k2 3 2) (xf 0x1000 0x2000 64 3 0 1 64), x1 k1 (xf 0x1000 0x2000 100 0), x1 k2 (xf 0x8000_0000 0x2000 100 0),
  pt (x1 k1 (xf 0x1000 0x2000 100 3 0 1 64)) 3 1, (pt (x1 k2 (xf 0x1000 0x2000 100 3 0 1 64)) 3 1).sr Reg.TCK_NUMBER.NUMBER (2^44), { x1 k1 (xf 0x1000 0x2000 100 0) with led := { (x1 k1 (xf 0x1000 0x2000 100 0)).led with lost := true } }, (x1 (x1 k1 (xf 0x1000 0x2000 100 0)) (xf 0x1000 0x2000 100 0)), crd (x1 k1 (xf 0x1000 0x2000 100 3 0 1 64)) 3 1, k1.sr (Reg.DMA_CHAN_STATE.QUEUED 0) 64, cntMax (crd k1 3 255) [Reg.DMA_COUNT.COUNT 0, Reg.DMA_COUNT.COUNT 2]]
def bs (d : Chip) : Chip := match (d.chanItems 3) with | i :: _ => d.setRun i.seq { d.dmaRun i.seq with burst := true } | [] => d
def rt (d : Chip) (n : Nat) : Chip := { d.sr Reg.DMA_CFG.RATE 1 with dma := { d.dma with read := n } }
def pc : Chip := x1 (crd k1 3 2) (xf 0x1000 0x2000 100 3 0 1 64)
def ms2 : List Chip := [rt (bs pc) 1024, rt (bs pc) 1000, bs (x1 (crd k1 3 2) (xf 0x1000 0x300_0000_0000 100 3 0 1 64)), bs pc]
def pool : List State := (ms2.map st) ++ (ms.map st)

theorem test_DmaTransfers_witness1 :
    (∃ (s : State) (x : Desc), x.mChan ≤ 31 ∧ 64 ≤ s.chip.rg (Reg.DMA_CHAN_STATE.QUEUED x.mChan)) ∧
    (∃ (s : State) (src : Submit) (x : Desc), (x.mChan ≤ 31 → s.chip.rg (Reg.DMA_CHAN_STATE.QUEUED x.mChan) < 64) ∧ TakenUp s.chip src .dma true 0 ∧ ¬ (dmaEncoded s.chip x ∧ dmaAllowed s.chip src x)) ∧
    (∃ (s : State) (src : Submit) (x : Desc), (x.mChan ≤ 31 → s.chip.rg (Reg.DMA_CHAN_STATE.QUEUED x.mChan) < 64) ∧ TakenUp s.chip src .dma true 0 ∧ dmaEncoded s.chip x ∧ dmaAllowed s.chip src x) ∧
    (∃ (s : State) (c : Fin 32), s.chip.rg (Reg.DMA_CHAN_CFG.PACE_SRC c) = 0) ∧
    (∃ (s : State) (c : Fin 32), s.chip.rg (Reg.DMA_CHAN_CFG.PACE_SRC c) ≠ 0 ∧ s.chip.flag (Reg.DMA_CHAN_CFG.ENABLE c) = false) ∧
    (∃ (s : State) (c : Fin 32), s.chip.rg (Reg.DMA_CHAN_CFG.PACE_SRC c) ≠ 0 ∧ s.chip.flag (Reg.DMA_CHAN_CFG.ENABLE c) = true ∧ s.chip.rg (Reg.DMA_CHAN_STATE.CREDITS c) = 255) ∧
    (∃ (s : State) (c : Fin 32), s.chip.rg (Reg.DMA_CHAN_CFG.PACE_SRC c) ≠ 0 ∧ s.chip.flag (Reg.DMA_CHAN_CFG.ENABLE c) = true ∧ s.chip.rg (Reg.DMA_CHAN_STATE.CREDITS c) ≠ 255 ∧ s.chip.chanItems c = []) ∧
    (∃ (s : State) (c : Fin 32), (∀ i ∈ s.chip.chanItems c, (s.chip.dmaRun i.seq).burst = false)) ∧
    (∃ (s : State) (c : Fin 32) (i : Item) (w : Nat) (n : Nat), dmaOnly s.chip c i ∧ (s.chip.dmaRun i.seq).burst = true ∧ i.body.mPaced = true ∧ w = min (((s.chip.dmaRun i.seq).moved + 1) * i.body.mBurst) i.body.mLen - (s.chip.dmaRun i.seq).bytes ∧ n = s.chip.dmaRoom w ∧ n = 0) ∧
    (∃ (s : State) (c : Fin 32) (i : Item) (w : Nat) (n : Nat), dmaOnly s.chip c i ∧ (s.chip.dmaRun i.seq).burst = true ∧ i.body.mPaced = true ∧ w = min (((s.chip.dmaRun i.seq).moved + 1) * i.body.mBurst) i.body.mLen - (s.chip.dmaRun i.seq).bytes ∧ n = s.chip.dmaRoom w ∧ 0 < n ∧ (s.chip.unmapped (i.body.mSrc + (s.chip.dmaRun i.seq).bytes) n = true ∨ s.chip.unmapped (i.body.mDst + (s.chip.dmaRun i.seq).bytes) n = true) ∧ i.crec = .none ∧ s.chip.led.lost = false) ∧
    (∃ (s : State) (c : Fin 32) (i : Item) (w : Nat) (n : Nat), dmaOnly s.chip c i ∧ (s.chip.dmaRun i.seq).burst = true ∧ i.body.mPaced = true ∧ w = min (((s.chip.dmaRun i.seq).moved + 1) * i.body.mBurst) i.body.mLen - (s.chip.dmaRun i.seq).bytes ∧ n = s.chip.dmaRoom w ∧ 0 < n ∧ s.chip.unmapped (i.body.mSrc + (s.chip.dmaRun i.seq).bytes) n = false ∧ s.chip.unmapped (i.body.mDst + (s.chip.dmaRun i.seq).bytes) n = false ∧ n < w) ∧
    (∃ (s : State) (c : Fin 32) (i : Item) (w : Nat) (n : Nat), dmaOnly s.chip c i ∧ (s.chip.dmaRun i.seq).burst = true ∧ i.body.mPaced = true ∧ w = min (((s.chip.dmaRun i.seq).moved + 1) * i.body.mBurst) i.body.mLen - (s.chip.dmaRun i.seq).bytes ∧ n = s.chip.dmaRoom w ∧ 0 < n ∧ s.chip.unmapped (i.body.mSrc + (s.chip.dmaRun i.seq).bytes) n = false ∧ s.chip.unmapped (i.body.mDst + (s.chip.dmaRun i.seq).bytes) n = false ∧ n = w) ∧
    (∃ (s : State) (q : Nat), (s.chip.item q = none ∨ (s.chip.dmaRun q).readback = false ∨ s.chip.readsOut q = true ∨ (∃ i, s.chip.item q = some i ∧ i.state.ended = true))) ∧
    (∃ (s : State) (q : Nat) (i : Item), s.chip.item q = some i ∧ i.state.ended = false ∧ (s.chip.dmaRun q).readback = true ∧ s.chip.readsOut q = false ∧ i.crec = .none) :=
  ⟨(⟨pool.getD 26 .reset, { w0 := (0x9 : BitVec 64), w1 := (0x1000 : BitVec 64), w2 := (0x2000 : BitVec 64), w3 := (0x64 : BitVec 64), w4 := (0x0 : BitVec 64), w5 := (0x0 : BitVec 64), w6 := (0x0 : BitVec 64), w7 := (0x0 : BitVec 64) }, by
      decide +kernel⟩),
   (⟨pool.getD 0 .reset, { origin := Origin.ring 0, tag := (0x5 : BitVec 32) }, { w0 := (0x9 : BitVec 64), w1 := (0x1000 : BitVec 64), w2 := (0x2000 : BitVec 64), w3 := (0x40000001 : BitVec 64), w4 := (0x0 : BitVec 64), w5 := (0x0 : BitVec 64), w6 := (0x0 : BitVec 64), w7 := (0x0 : BitVec 64) }, by
      unfold TakenUp dmaEncoded dmaAllowed
      refine @of_decide_eq_true _ (by haveI := @decAllSome; haveI := @decExSome; haveI := @decOk; haveI := @decErr; infer_instance) ?_
      decide +kernel⟩),
   (⟨pool.getD 0 .reset, { origin := Origin.ring 0, tag := (0x5 : BitVec 32) }, { w0 := (0x9 : BitVec 64), w1 := (0x1000 : BitVec 64), w2 := (0x2000 : BitVec 64), w3 := (0x20300000064 : BitVec 64), w4 := (0x40 : BitVec 64), w5 := (0x0 : BitVec 64), w6 := (0x0 : BitVec 64), w7 := (0x0 : BitVec 64) }, by
      unfold TakenUp dmaEncoded dmaAllowed
      refine @of_decide_eq_true _ (by haveI := @decAllSome; haveI := @decExSome; haveI := @decOk; haveI := @decErr; infer_instance) ?_
      decide +kernel⟩),
   (⟨pool.getD 0 .reset, 0, by
      decide +kernel⟩),
   (⟨pool.getD 11 .reset, 5, by
      decide +kernel⟩),
   (⟨pool.getD 10 .reset, 3, by
      decide +kernel⟩),
   (⟨pool.getD 7 .reset, 3, by
      decide +kernel⟩),
   (⟨pool.getD 0 .reset, 0, by
      refine @of_decide_eq_true _ (by haveI := @decAllSome; haveI := @decExSome; haveI := @decOk; haveI := @decErr; infer_instance) ?_
      decide +kernel⟩),
   (⟨pool.getD 0 .reset, 3, { seq := 1, slot := 0, state := ItemState.running, domain := Domain.dma 3, tag := 5, owner := 85, replied := false, redo := false, replayed := false, plan := 0, acceptTick := 0, endTick := 0, origin := Origin.ring 0, fn := 0, kind := ItemKind.dma 3, body := { w0 := (0x9 : BitVec 64), w1 := (0x1000 : BitVec 64), w2 := (0x2000 : BitVec 64), w3 := (0x20300000064 : BitVec 64), w4 := (0x40 : BitVec 64), w5 := (0x0 : BitVec 64), w6 := (0x0 : BitVec 64), w7 := (0x0 : BitVec 64) }, crec := CommitRec.none, fin := none, redoRec := none, carried := false, single := false, reply := { code := 0, lo := 0, hi := 0 } }, 64, 0, by
      unfold dmaOnly
      refine @of_decide_eq_true _ (by haveI := @decAllSome; haveI := @decExSome; haveI := @decOk; haveI := @decErr; infer_instance) ?_
      decide +kernel⟩),
   (⟨pool.getD 2 .reset, 3, { seq := 1, slot := 0, state := ItemState.running, domain := Domain.dma 3, tag := 5, owner := 85, replied := false, redo := false, replayed := false, plan := 0, acceptTick := 0, endTick := 0, origin := Origin.ring 0, fn := 0, kind := ItemKind.dma 3, body := { w0 := (0x9 : BitVec 64), w1 := (0x1000 : BitVec 64), w2 := (0x30000000000 : BitVec 64), w3 := (0x20300000064 : BitVec 64), w4 := (0x40 : BitVec 64), w5 := (0x0 : BitVec 64), w6 := (0x0 : BitVec 64), w7 := (0x0 : BitVec 64) }, crec := CommitRec.none, fin := none, redoRec := none, carried := false, single := false, reply := { code := 0, lo := 0, hi := 0 } }, 64, 64, by
      unfold dmaOnly
      refine @of_decide_eq_true _ (by haveI := @decAllSome; haveI := @decExSome; haveI := @decOk; haveI := @decErr; infer_instance) ?_
      decide +kernel⟩),
   (⟨pool.getD 1 .reset, 3, { seq := 1, slot := 0, state := ItemState.running, domain := Domain.dma 3, tag := 5, owner := 85, replied := false, redo := false, replayed := false, plan := 0, acceptTick := 0, endTick := 0, origin := Origin.ring 0, fn := 0, kind := ItemKind.dma 3, body := { w0 := (0x9 : BitVec 64), w1 := (0x1000 : BitVec 64), w2 := (0x2000 : BitVec 64), w3 := (0x20300000064 : BitVec 64), w4 := (0x40 : BitVec 64), w5 := (0x0 : BitVec 64), w6 := (0x0 : BitVec 64), w7 := (0x0 : BitVec 64) }, crec := CommitRec.none, fin := none, redoRec := none, carried := false, single := false, reply := { code := 0, lo := 0, hi := 0 } }, 64, 24, by
      unfold dmaOnly
      refine @of_decide_eq_true _ (by haveI := @decAllSome; haveI := @decExSome; haveI := @decOk; haveI := @decErr; infer_instance) ?_
      decide +kernel⟩),
   (⟨pool.getD 3 .reset, 3, { seq := 1, slot := 0, state := ItemState.running, domain := Domain.dma 3, tag := 5, owner := 85, replied := false, redo := false, replayed := false, plan := 0, acceptTick := 0, endTick := 0, origin := Origin.ring 0, fn := 0, kind := ItemKind.dma 3, body := { w0 := (0x9 : BitVec 64), w1 := (0x1000 : BitVec 64), w2 := (0x2000 : BitVec 64), w3 := (0x20300000064 : BitVec 64), w4 := (0x40 : BitVec 64), w5 := (0x0 : BitVec 64), w6 := (0x0 : BitVec 64), w7 := (0x0 : BitVec 64) }, crec := CommitRec.none, fin := none, redoRec := none, carried := false, single := false, reply := { code := 0, lo := 0, hi := 0 } }, 64, 64, by
      unfold dmaOnly
      refine @of_decide_eq_true _ (by haveI := @decAllSome; haveI := @decExSome; haveI := @decOk; haveI := @decErr; infer_instance) ?_
      decide +kernel⟩),
   (⟨pool.getD 0 .reset, 0, by
      refine @of_decide_eq_true _ (by haveI := @decAllSome; haveI := @decExSome; haveI := @decOk; haveI := @decErr; infer_instance) ?_
      decide +kernel⟩),
   (⟨pool.getD 19 .reset, 1, { seq := 1, slot := 0, state := ItemState.running, domain := Domain.dma 0, tag := 5, owner := 85, replied := false, redo := false, replayed := false, plan := 0, acceptTick := 0, endTick := 0, origin := Origin.ring 0, fn := 0, kind := ItemKind.dma 0, body := { w0 := (0x9 : BitVec 64), w1 := (0x1000 : BitVec 64), w2 := (0x2000 : BitVec 64), w3 := (0x64 : BitVec 64), w4 := (0x0 : BitVec 64), w5 := (0x0 : BitVec 64), w6 := (0x0 : BitVec 64), w7 := (0x0 : BitVec 64) }, crec := CommitRec.none, fin := none, redoRec := none, carried := false, single := false, reply := { code := 0, lo := 0, hi := 0 } }, by
      decide +kernel⟩)⟩

theorem test_DmaTransfers_witness2 :
    (∃ (s : State) (c : Fin 32), ((∀ i ∈ s.chip.chanItems c, (s.chip.dmaRun i.seq).waitSince = none) ∨ s.chip.rg (Reg.DMA_CHAN_CFG.PACE_TIMEOUT c) = 0)) ∧
    (∃ (s : State) (c : Fin 32) (i : Item) (t : Nat), dmaOnly s.chip c i ∧ (s.chip.dmaRun i.seq).waitSince = some t ∧ s.chip.rg (Reg.DMA_CHAN_CFG.PACE_TIMEOUT c) ≠ 0 ∧ s.chip.tick - t < s.chip.rg (Reg.DMA_CHAN_CFG.PACE_TIMEOUT c) * 4000 / max (s.chip.rg Reg.TCK_PERIOD.PERIOD) 1) ∧
    (∃ (s : State) (c : Fin 32) (i : Item) (t : Nat), dmaOnly s.chip c i ∧ (s.chip.dmaRun i.seq).waitSince = some t ∧ s.chip.rg (Reg.DMA_CHAN_CFG.PACE_TIMEOUT c) ≠ 0 ∧ s.chip.rg (Reg.DMA_CHAN_CFG.PACE_TIMEOUT c) * 4000 / max (s.chip.rg Reg.TCK_PERIOD.PERIOD) 1 ≤ s.chip.tick - t ∧ i.crec ≠ .taken ∧ s.chip.led.lost = false) :=
  ⟨(⟨pool.getD 0 .reset, 0, by
      refine @of_decide_eq_true _ (by haveI := @decAllSome; haveI := @decExSome; haveI := @decOk; haveI := @decErr; infer_instance) ?_
      decide +kernel⟩),
   (⟨pool.getD 21 .reset, 3, { seq := 1, slot := 0, state := ItemState.running, domain := Domain.dma 3, tag := 5, owner := 85, replied := false, redo := false, replayed := false, plan := 0, acceptTick := 0, endTick := 0, origin := Origin.ring 0, fn := 0, kind := ItemKind.dma 3, body := { w0 := (0x9 : BitVec 64), w1 := (0x1000 : BitVec 64), w2 := (0x2000 : BitVec 64), w3 := (0x20300000064 : BitVec 64), w4 := (0x40 : BitVec 64), w5 := (0x0 : BitVec 64), w6 := (0x0 : BitVec 64), w7 := (0x0 : BitVec 64) }, crec := CommitRec.none, fin := none, redoRec := none, carried := false, single := false, reply := { code := 0, lo := 0, hi := 0 } }, 0, by
      unfold dmaOnly
      refine @of_decide_eq_true _ (by haveI := @decAllSome; haveI := @decExSome; haveI := @decOk; haveI := @decErr; infer_instance) ?_
      decide +kernel⟩),
   (⟨pool.getD 22 .reset, 3, { seq := 1, slot := 0, state := ItemState.running, domain := Domain.dma 3, tag := 5, owner := 85, replied := false, redo := false, replayed := false, plan := 0, acceptTick := 0, endTick := 0, origin := Origin.ring 0, fn := 0, kind := ItemKind.dma 3, body := { w0 := (0x9 : BitVec 64), w1 := (0x1000 : BitVec 64), w2 := (0x2000 : BitVec 64), w3 := (0x20300000064 : BitVec 64), w4 := (0x40 : BitVec 64), w5 := (0x0 : BitVec 64), w6 := (0x0 : BitVec 64), w7 := (0x0 : BitVec 64) }, crec := CommitRec.none, fin := none, redoRec := none, carried := false, single := false, reply := { code := 0, lo := 0, hi := 0 } }, 0, by
      unfold dmaOnly
      refine @of_decide_eq_true _ (by haveI := @decAllSome; haveI := @decExSome; haveI := @decOk; haveI := @decErr; infer_instance) ?_
      decide +kernel⟩)⟩

theorem test_DmaChannels_witness :
    (∃ (s : State) (c : Fin 32) (k : Fin 32), s.chip.flag (Reg.DMA_CHAN_CFG.ENABLE c) = false ∧ k ≠ c ∧ s.chip.flag (Reg.DMA_CHAN_CFG.ENABLE k) = true ∧ (128 < s.chip.rg (Reg.DMA_CHAN_CFG.BUF c) + s.chip.rg (Reg.DMA_CHAN_CFG.BUF k) ∨ (s.chip.rg (Reg.DMA_CHAN_CFG.PACE_SRC c) = 2 ∧ s.chip.rg (Reg.DMA_CHAN_CFG.PACE_SRC k) = 2 ∧ s.chip.rg (Reg.DMA_CHAN_CFG.PIN c) = s.chip.rg (Reg.DMA_CHAN_CFG.PIN k)) ∨ (s.chip.rg (Reg.DMA_CHAN_CFG.PACE_SRC c) = 1 ∧ s.chip.rg (Reg.DMA_CHAN_CFG.PACE_SRC k) = 1 ∧ s.chip.rg (Reg.DMA_CHAN_CFG.PORT c) = s.chip.rg (Reg.DMA_CHAN_CFG.PORT k) ∧ s.chip.rg (Reg.DMA_CHAN_CFG.LINE c) = s.chip.rg (Reg.DMA_CHAN_CFG.LINE k)))) ∧
    (∃ (s : State) (c : Fin 32), s.chip.flag (Reg.DMA_CHAN_CFG.ENABLE c) = false ∧ s.chip.chanOk c = false) ∧
    (∃ (s : State) (c : Fin 32), s.chip.flag (Reg.DMA_CHAN_CFG.ENABLE c) = false ∧ s.chip.chanOk c = true) ∧
    (∃ (s : State) (c : Fin 32), s.chip.flag (Reg.DMA_CHAN_CFG.ENABLE c) = true) :=
  ⟨(⟨pool.getD 12 .reset, 5, 0, by
      decide +kernel⟩),
   (⟨pool.getD 12 .reset, 5, by
      decide +kernel⟩),
   (⟨pool.getD 0 .reset, 5, by
      decide +kernel⟩),
   (⟨pool.getD 0 .reset, 0, by
      decide +kernel⟩)⟩

end Sys2Proof.Tests.C14
end

