-- ==== Sys2Proof/Tests/C15.lean ====
section
/-! SUPPORT. States and operands that meet the hypotheses of the statements of chapter 15, clause by clause. -/
set_option Elab.async false
set_option maxRecDepth 100000
namespace Sys2Proof.Tests.C15
open Sys2Proof Sys2Proof.Machine Sys2Proof.Tests

def kup : Chip := hand up
def sq0 (h t : Nat) : NvmeSq := { base := 0x2000, size := 8, prio := 0, cq := 0, head := h, tail := t }
def cq0 : NvmeCq := { base := 0x9000_0000, size := 4, vector := some 0 }
def sq1 (c : Nat) (g : Nat := 5) : NvmeSq := { base := 0x3000, size := 8, prio := 1, cq := c, head := 2, tail := 3, global := g }
def cq1 : NvmeCq := { base := 0x9001_0000, size := 4, vector := none, head := 2, tail := 0, phase := 0 }
def ctlA : NvmeCtl := { cc := 1, rdy := true, aqa := 0x00030007, asq := 0x5000_0000, acq := 0x9000_0000, cmbmsc := 0x5000_0000 + 3, features := [(1, 7), (8, 99)], sqs := [(0, sq0 1 2), (3, sq1 2), (9, sq1 7)], cqs := [(0, cq0), (2, cq1), (5, { cq1 with head := 3 })], pairs := 9 }
def ctlOff : NvmeCtl := { aqa := 0x00030007, asq := 0x5000_0000, acq := 0x9000_0000, cmbmsc := 0x5000_0000 + 3, pairs := 9 }
def ns1 : NvmeNs := ⟨1, 1, 9, 4, 1000, 0, 0xFFFFFFFF, []⟩
def ns2 : NvmeNs := ⟨0, 2, 9, 0, 1000, 0x2000_0000, 0xFFFFFFFF, []⟩
def ns3 : NvmeNs := ⟨0, 3, 12, 0, 70000, 0x2000_0000, 0xFFFFFFFF, []⟩
def tg4 (s : Nat) : NvmeTarget := ⟨List.replicate 512 0, s, 0, [], 0⟩
def nv (d : Chip) (c : NvmeCtl) (hd : List (Nat × Nat)) (ts : Nat := 2) (fn : Nat := 1) : Chip :=
  let d := (d.sr Reg.NVS_QPAIRS.PF0 64).sr Reg.NVS_QPAIRS.PF1 64
  { d with nvs := { d.nvs with ctls := [(fn, c)], hand := hd, ns := [(0, ns1), (1, ns2), (2, ns3)], targets := [(4, tg4 ts), (5, tg4 1)] } }
def vfp (d : Chip) (f : Nat) : Chip := { d with hif := { d.hif with pools := [(vfKey f, { state := 1, qpairs := 9, vectors := 4, memBase := 0x4000_0000 })] } }
def ms : List Chip := [{}, kup, nv kup ctlOff [], nv kup { ctlOff with asq := 0x1000 } [], nv kup ctlA [], nv kup { ctlA with cc := 0 } [], nv kup ctlA [(1, 0), (1,3)], nv (noise kup) ctlA [(1, 0), (1,9), (0, 3)] 3,
  nv {} ctlA [(1, 0), (1, 3)], vfp (nv kup ctlA [(5, 0), (5, 3)] 2 5) 5, vfp (nv (noise kup) ctlA [(5, 0), (5, 3)] 2 5) 5, nv kup { ctlA with cqs := [(0, { cq0 with tail := 3, phase := 0 }), (2, { cq1 with tail := 3, head := 0 })] } [(1,0), (1,3)],
  nv kup { ctlA with resetting := true } [(1,0)], nv kup { ctlA with cfs := true, rdy := false } [],
  nv (kup.sr (Reg.NVS_SQ_MAP.VALID 0) 1) { ctlA with sqs := [(0, sq0 0 0), (9, sq1 7 6)] } [(1,0)], nv (kup.setPoison 0x2040 true) ctlA [], nv kup ctlA [] 2 0, nv kup ctlA [(0,0)] 2 0, nv (kup.sr (Reg.HIF_STATE.FROZEN 1) 1) ctlA []]
def itN (q : Nat) (c : Bool := false) : Item := { item0 q (.nvme 1 3 7) (if c then .taken else .none) with owner := 0x56, origin := .nvme 1 3 7, fn := 1 }
def cm (op : Nat) : NvmeCmd := ⟨1, 3, 7, op, 0, 0, 2, [0x7000], [], true, false, none⟩
def bk (q op since : Nat) (rs : Bool) (d : Chip := nv kup ctlA []) : Chip :=
  let d := withItems d [itN q]
  { d with nvs := { d.nvs with cmds := [(q, cm op)], back := [⟨q, 4, since, rs⟩] } }
def rec64 (ix bk ns lb tg nsze : Nat) (base : Nat := 0) : List Nat := (leBytes 2 ix ++ [0, bk] ++ leBytes 4 ns ++ [lb, tg, 0,0,0,0,0,0] ++ leBytes 8 nsze ++ leBytes 8 base ++ leBytes 16 0xFF ++ List.replicate 16 0)
def rec512 (t tr : Nat) : List Nat := ([t, tr, 1, 1] ++ leBytes 2 16 ++ List.replicate 506 0)
def pb (d : Chip) : Chip := { (putBytes (putBytes (putBytes (putBytes d 0x1000 (rec64 9 1 9 9 4 100)) 0x2000 (rec64 1 1 9 9 4 100)) 0x3000 (rec512 8 1)) 0x4000 (rec512 4 1)) with fetched := [0, 2] }
def tgC : NvmeTarget := ⟨rec512 5 1, 1, 6, [], 3⟩
def itT : Item := { item0 6 (.general 0x0B03) .none with owner := 0x42, body := genBody 0x0B03 ⟨.core 1 7, 1⟩ [0x3000] }
def nvT (d : Chip) : Chip := let d := withItems d [itT]; { d with nvs := { d.nvs with targets := [(4, tg4 2), (5, tgC), (6, ⟨[], 3, 0, [], 3⟩), (3, ⟨[], 2, 0, [], 3⟩)], recs := [(6, rec512 5 1)], ns := [(0, ns1)] } }
def ms3 : List Chip := [{}, pb kup, pb (nv kup ctlA []), pb (nvT kup), pb (nvT (noise kup)), nvT kup, (nvT kup).sr Reg.TCK_NUMBER.NUMBER 70000, { pb (nv kup ctlA []) with nvs := { (nv kup ctlA []).nvs with cmds := [(9, ⟨1, 3, 7, 2, 1, 0, 2, [], [], true, false, none⟩)] } }]
def late (d : Chip) : Chip := (d.sr Reg.TCK_NUMBER.NUMBER 0xFFFFFF).sr Reg.NVS_CFG.TARGET_TIMEOUT 1
def nvp2 : Chip := nv kup { ctlA with sqs := [(0, { sq0 1 2 with base := 0x2000_2000 })] } []
def noNs (d : Chip) : Chip := { d with nvs := { d.nvs with ns := [] } }
def bm (d : Chip) : Chip :=
  let d := d.sr (Reg.HIF_STATE.ME 1) 1
  { d with hif := { d.hif with vfMe := [5] } }
def rdy1 : Chip := bm (nv kup ctlA [(1, 0), (1, 3)])
def rdyB : Chip := { rdy1 with fw := { rdy1.fw with flash := [0, 0x8000, 0x20000000, 0x20008000].flatMap (fun o => (bootBytes ⟨1, 0, 0⟩).zipIdx.map (fun p => (o + p.2, p.1))) } }
def rdy5 : Chip := bm (vfp (nv kup ctlA [(5, 0), (5, 3)] 2 5) 5)
def pool : List State := ([rdyB, rdy5, bm (bk 4 2 0 false), rdy1.sr Reg.NVS_LOCKS.IN_USE 8192] ++ ms.drop 1 ++ [nvp2.setPoison 0x2000_2040 true, { nvp2 with mem := { nvp2.mem with poison := [0x2000_2000] } }, { nvp2 with mem := { nvp2.mem with poison := [0x2000_2040] } }] ++ [bk 4 2 0 false, bk 4 1 0 true, late (bk 4 2 0 false), late (bk 4 1 0 true)] ++ ms3.drop 1 ++ [noNs (pb (nvT kup)), {}]).map st

theorem test_NvmeQueues_witness1 :
    (∃ (s : State) (fn : Fin 128), s.chip.frozen fn = true) ∧
    (∃ (s : State) (fn : Fin 128) (n : BitVec 16) (t : BitVec 16), s.chip.frozen fn = false ∧ (tget (s.chip.ctl fn).sqs n.toNat = none ∨ ∃ a, tget (s.chip.ctl fn).sqs n.toNat = some a ∧ a.size ≤ t.toNat)) ∧
    (∃ (s : State) (fn : Fin 128) (n : BitVec 16) (t : BitVec 16), s.chip.frozen fn = false ∧ (tget (s.chip.ctl fn).cqs n.toNat = none ∨ ∃ q, tget (s.chip.ctl fn).cqs n.toNat = some q ∧ q.size ≤ t.toNat)) ∧
    (∃ (s : State) (fn : Fin 128) (n : BitVec 16) (t : BitVec 16) (a : _), s.chip.frozen fn = false ∧ tget (s.chip.ctl fn).sqs n.toNat = some a ∧ t.toNat < a.size) ∧
    (∃ (s : State) (fn : Fin 128) (n : BitVec 16) (t : BitVec 16) (q : _), s.chip.frozen fn = false ∧ tget (s.chip.ctl fn).cqs n.toNat = some q ∧ t.toNat < q.size ∧ nvQuiet s.chip ∧ q.wait = []) ∧
    (∃ (s : State), (s.chip.running .nvs = false ∨ (s.chip.agentRec (.block .nvs)).fencing = true ∨ s.chip.takesItems = false ∨ s.chip.nextArising.isSome = true ∨ 8192 ≤ s.chip.rg Reg.NVS_LOCKS.IN_USE ∨ (s.chip.nvs.left = 0 ∧ ∀ c ∈ s.chip.nvs.ctls, (s.chip.ctl c.1).rdy = false))) ∧
    (∃ (s : State) (fn : Nat) (c : NvmeCtl) (a : NvmeSq), s.chip.running .nvs = true ∧ (s.chip.agentRec (.block .nvs)).fencing = false ∧ s.chip.takesItems = true ∧ s.chip.nextArising = none ∧ s.chip.rg Reg.NVS_LOCKS.IN_USE < 8192 ∧ s.chip.nvs.left = 0 ∧ s.chip.nvs.ctls = [(fn, c)] ∧ s.chip.hif.flr.contains fn = false ∧ s.chip.frozen fn = false ∧ c.rdy = true ∧ c.cfs = false ∧ c.resetting = false ∧ tget c.sqs 0 = some a ∧ a.head ≠ a.tail ∧ s.chip.nvs.hand.contains (fn, 0) = false ∧ s.chip.anyPoison (a.base + a.head * 64) 64 = false) ∧
    (∃ (s : State) (fn : Nat) (c : NvmeCtl) (a : NvmeSq), s.chip.running .nvs = true ∧ (s.chip.agentRec (.block .nvs)).fencing = false ∧ s.chip.takesItems = true ∧ s.chip.nextArising = none ∧ s.chip.rg Reg.NVS_LOCKS.IN_USE < 8192 ∧ s.chip.nvs.left = 0 ∧ s.chip.nvs.ctls = [(fn, c)] ∧ s.chip.hif.flr.contains fn = false ∧ s.chip.frozen fn = false ∧ c.rdy = true ∧ c.cfs = false ∧ c.resetting = false ∧ tget c.sqs 0 = some a ∧ a.head ≠ a.tail ∧ s.chip.nvs.hand.contains (fn, 0) = false ∧ s.chip.anyPoison (a.base + a.head * 64) 64 = true) ∧
    (∃ (s : State) (fn : Fin 128), (bitOf (s.chip.ctl fn).cc 0 = true ∨ (s.chip.ctl fn).resetting = true)) ∧
    (∃ (s : State) (fn : Fin 128), bitOf (s.chip.ctl fn).cc 0 = false ∧ (s.chip.ctl fn).resetting = false ∧ s.chip.inCmb fn (s.chip.ctl fn).asq (((s.chip.ctl fn).aqa % 4096 + 1) * 64) = none) ∧
    (∃ (s : State) (fn : Fin 128) (b : _), bitOf (s.chip.ctl fn).cc 0 = false ∧ (s.chip.ctl fn).resetting = false ∧ s.chip.inCmb fn (s.chip.ctl fn).asq (((s.chip.ctl fn).aqa % 4096 + 1) * 64) = some b) ∧
    (∃ (s : State) (fn : Fin 128), bitOf (s.chip.ctl fn).cc 0 = false ∧ nvQuiet s.chip) ∧
    (∃ (s : State) (fn : Fin 128), bitOf (s.chip.ctl fn).cc 0 = true ∧ nvQuiet s.chip ∧ s.chip.led.items = [] ∧ s.chip.hif.flr.contains fn.val = false) ∧
    (∃ (s : State) (fn : Fin 128), s.chip.nvs.hand.contains (fn.val, 0) = false) :=
  ⟨(⟨pool.getD 21 .reset, 1, by
      decide +kernel⟩),
   (⟨pool.getD 0 .reset, 1, (0x2 : BitVec 16), (0x2 : BitVec 16), by
      refine @of_decide_eq_true _ (by haveI := @decAllSome; haveI := @decExSome; haveI := @decOk; haveI := @decErr; infer_instance) ?_
      decide +kernel⟩),
   (⟨pool.getD 0 .reset, 1, (0x2 : BitVec 16), (0x7 : BitVec 16), by
      refine @of_decide_eq_true _ (by haveI := @decAllSome; haveI := @decExSome; haveI := @decOk; haveI := @decErr; infer_instance) ?_
      decide +kernel⟩),
   (⟨pool.getD 0 .reset, 1, (0x3 : BitVec 16), (0x2 : BitVec 16), { base := 12288, size := 8, prio := 1, cq := 2, head := 2, tail := 3, global := 5, deleting := none }, by
      decide +kernel⟩),
   (⟨pool.getD 0 .reset, 1, (0x2 : BitVec 16), (0x2 : BitVec 16), { base := 2415984640, size := 4, vector := none, head := 2, tail := 0, phase := 0, wait := [] }, by
      unfold nvQuiet
      refine @of_decide_eq_true _ (by haveI := @decAllSome; haveI := @decExSome; haveI := @decOk; haveI := @decErr; infer_instance) ?_
      decide +kernel⟩),
   (⟨pool.getD 3 .reset, by
      refine @of_decide_eq_true _ (by haveI := @decAllSome; haveI := @decExSome; haveI := @decOk; haveI := @decErr; infer_instance) ?_
      decide +kernel⟩),
   (⟨pool.getD 2 .reset, 1, { cc := 1, rdy := true, cfs := false, aqa := 196615, asq := 1342177280, acq := 2415919104, cmbmsc := 1342177283, features := [(1, 7), (8, 99)], sqs := [(0, { base := 8192, size := 8, prio := 0, cq := 0, head := 1, tail := 2, global := 0, deleting := none }), (3, { base := 12288, size := 8, prio := 1, cq := 2, head := 2, tail := 3, global := 5, deleting := none }), (9, { base := 12288, size := 8, prio := 1, cq := 7, head := 2, tail := 3, global := 5, deleting := none })], cqs := [(0, { base := 2415919104, size := 4, vector := some 0, head := 0, tail := 0, phase := 1, wait := [] }), (2, { base := 2415984640, size := 4, vector := none, head := 2, tail := 0, phase := 0, wait := [] }), (5, { base := 2415984640, size := 4, vector := none, head := 3, tail := 0, phase := 0, wait := [] })], lastUrgent := 0, lastOf := [], cls := 1, weight := 0, burst := 0, pairs := 9, image := 0, chain := none, resetting := false, report := [] }, { base := 8192, size := 8, prio := 0, cq := 0, head := 1, tail := 2, global := 0, deleting := none }, by
      decide +kernel⟩),
   (⟨pool.getD 18 .reset, 1, { cc := 1, rdy := true, cfs := false, aqa := 196615, asq := 1342177280, acq := 2415919104, cmbmsc := 1342177283, features := [(1, 7), (8, 99)], sqs := [(0, { base := 8192, size := 8, prio := 0, cq := 0, head := 1, tail := 2, global := 0, deleting := none }), (3, { base := 12288, size := 8, prio := 1, cq := 2, head := 2, tail := 3, global := 5, deleting := none }), (9, { base := 12288, size := 8, prio := 1, cq := 7, head := 2, tail := 3, global := 5, deleting := none })], cqs := [(0, { base := 2415919104, size := 4, vector := some 0, head := 0, tail := 0, phase := 1, wait := [] }), (2, { base := 2415984640, size := 4, vector := none, head := 2, tail := 0, phase := 0, wait := [] }), (5, { base := 2415984640, size := 4, vector := none, head := 3, tail := 0, phase := 0, wait := [] })], lastUrgent := 0, lastOf := [], cls := 1, weight := 0, burst := 0, pairs := 9, image := 0, chain := none, resetting := false, report := [] }, { base := 8192, size := 8, prio := 0, cq := 0, head := 1, tail := 2, global := 0, deleting := none }, by
      decide +kernel⟩),
   (⟨pool.getD 0 .reset, 1, by
      decide +kernel⟩),
   (⟨pool.getD 0 .reset, 0, by
      decide +kernel⟩),
   (⟨pool.getD 5 .reset, 1, 90462748672, by
      decide +kernel⟩),
   (⟨pool.getD 0 .reset, 0, by
      unfold nvQuiet
      refine @of_decide_eq_true _ (by haveI := @decAllSome; haveI := @decExSome; haveI := @decOk; haveI := @decErr; infer_instance) ?_
      decide +kernel⟩),
   (⟨pool.getD 0 .reset, 1, by
      unfold nvQuiet
      refine @of_decide_eq_true _ (by haveI := @decAllSome; haveI := @decExSome; haveI := @decOk; haveI := @decErr; infer_instance) ?_
      decide +kernel⟩),
   (⟨pool.getD 0 .reset, 0, by
      decide +kernel⟩)⟩

theorem test_NvmeQueues_witness2 :
    (∃ (s : State) (fn : Fin 128) (n : BitVec 16) (a : NvmeSq) (q : NvmeCq), sqReady s.chip fn 0 a q ∧ a.cq = 0 ∧ (n = 0 ∨ s.chip.queuePairs fn < n.toNat ∨ (tget (s.chip.ctl fn).cqs n.toNat).isSome = true)) ∧
    (∃ (s : State) (fn : Fin 128) (n : BitVec 16) (z : BitVec 16) (a : NvmeSq) (q : NvmeCq), sqReady s.chip fn 0 a q ∧ a.cq = 0 ∧ n ≠ 0 ∧ n.toNat ≤ s.chip.queuePairs fn ∧ tget (s.chip.ctl fn).cqs n.toNat = none ∧ (z = 0 ∨ 1023 < z.toNat)) ∧
    (∃ (s : State) (fn : Fin 128) (n : BitVec 16) (z : BitVec 16) (v : BitVec 16) (ie : Bool) (a : NvmeSq) (q : NvmeCq), sqReady s.chip fn 0 a q ∧ a.cq = 0 ∧ n ≠ 0 ∧ n.toNat ≤ s.chip.queuePairs fn ∧ tget (s.chip.ctl fn).cqs n.toNat = none ∧ z ≠ 0 ∧ z.toNat ≤ 1023 ∧ ie = true ∧ (if isVF fn then (s.chip.vfPool fn).vectors else 2048) ≤ v.toNat) ∧
    (∃ (s : State) (fn : Fin 128) (n : BitVec 16) (z : BitVec 16) (v : BitVec 16) (p : Nat) (ie : Bool) (a : NvmeSq) (q : NvmeCq), sqReady s.chip fn 0 a q ∧ a.cq = 0 ∧ n ≠ 0 ∧ n.toNat ≤ s.chip.queuePairs fn ∧ tget (s.chip.ctl fn).cqs n.toNat = none ∧ z ≠ 0 ∧ z.toNat ≤ 1023 ∧ (ie = true → v.toNat < (if isVF fn then (s.chip.vfPool fn).vectors else 2048)) ∧ p % 4096 ≠ 0) ∧
    (∃ (s : State) (fn : Fin 128) (n : BitVec 16) (z : BitVec 16) (v : BitVec 16) (p : Nat) (ie : Bool) (a : NvmeSq) (q : NvmeCq), sqReady s.chip fn 0 a q ∧ a.cq = 0 ∧ n ≠ 0 ∧ n.toNat ≤ s.chip.queuePairs fn ∧ tget (s.chip.ctl fn).cqs n.toNat = none ∧ z ≠ 0 ∧ z.toNat ≤ 1023 ∧ (ie = true → v.toNat < (if isVF fn then (s.chip.vfPool fn).vectors else 2048)) ∧ p % 4096 = 0) ∧
    (∃ (s : State) (fn : Fin 128) (n : BitVec 16) (a : NvmeSq) (q : NvmeCq), sqReady s.chip fn 0 a q ∧ a.cq = 0 ∧ (n = 0 ∨ s.chip.queuePairs fn < n.toNat ∨ (tget (s.chip.ctl fn).sqs n.toNat).isSome = true)) ∧
    (∃ (s : State) (fn : Fin 128) (n : BitVec 16) (k : BitVec 16) (a : NvmeSq) (q : NvmeCq), sqReady s.chip fn 0 a q ∧ a.cq = 0 ∧ n ≠ 0 ∧ n.toNat ≤ s.chip.queuePairs fn ∧ tget (s.chip.ctl fn).sqs n.toNat = none ∧ (k = 0 ∨ tget (s.chip.ctl fn).cqs k.toNat = none)) ∧
    (∃ (s : State) (fn : Fin 128) (n : BitVec 16) (z : BitVec 16) (k : BitVec 16) (a : NvmeSq) (q : NvmeCq), sqReady s.chip fn 0 a q ∧ a.cq = 0 ∧ n ≠ 0 ∧ n.toNat ≤ s.chip.queuePairs fn ∧ tget (s.chip.ctl fn).sqs n.toNat = none ∧ k ≠ 0 ∧ (tget (s.chip.ctl fn).cqs k.toNat).isSome = true ∧ (z = 0 ∨ 1023 < z.toNat)) ∧
    (∃ (s : State) (fn : Fin 128) (n : BitVec 16) (z : BitVec 16) (k : BitVec 16) (p : Nat) (a : NvmeSq) (q : NvmeCq), sqReady s.chip fn 0 a q ∧ a.cq = 0 ∧ n ≠ 0 ∧ n.toNat ≤ s.chip.queuePairs fn ∧ tget (s.chip.ctl fn).sqs n.toNat = none ∧ k ≠ 0 ∧ (tget (s.chip.ctl fn).cqs k.toNat).isSome = true ∧ z ≠ 0 ∧ z.toNat ≤ 1023 ∧ s.chip.inCmb fn p ((z.toNat + 1) * 64) = none) ∧
    (∃ (s : State) (fn : Fin 128) (n : BitVec 16) (z : BitVec 16) (k : BitVec 16) (p : Nat) (a : NvmeSq) (q : NvmeCq) (b : _) (g : _), sqReady s.chip fn 0 a q ∧ a.cq = 0 ∧ n ≠ 0 ∧ n.toNat ≤ s.chip.queuePairs fn ∧ tget (s.chip.ctl fn).sqs n.toNat = none ∧ k ≠ 0 ∧ (tget (s.chip.ctl fn).cqs k.toNat).isSome = true ∧ z ≠ 0 ∧ z.toNat ≤ 1023 ∧ s.chip.inCmb fn p ((z.toNat + 1) * 64) = some b ∧ (List.range 4096).find? (fun g => !s.chip.flag (Reg.NVS_SQ_MAP.VALID g)) = some g) ∧
    (∃ (s : State) (fn : Fin 128) (n : BitVec 16) (a : NvmeSq) (q : NvmeCq), sqReady s.chip fn 0 a q ∧ a.cq = 0 ∧ (n = 0 ∨ tget (s.chip.ctl fn).cqs n.toNat = none)) ∧
    (∃ (s : State) (fn : Fin 128) (n : BitVec 16) (a : NvmeSq) (q : NvmeCq), sqReady s.chip fn 0 a q ∧ a.cq = 0 ∧ n ≠ 0 ∧ (tget (s.chip.ctl fn).cqs n.toNat).isSome = true ∧ (∃ x ∈ (s.chip.ctl fn).sqs, x.2.cq = n.toNat)) ∧
    (∃ (s : State) (fn : Fin 128) (n : BitVec 16) (a : NvmeSq) (q : NvmeCq), sqReady s.chip fn 0 a q ∧ a.cq = 0 ∧ n ≠ 0 ∧ (tget (s.chip.ctl fn).cqs n.toNat).isSome = true ∧ (∀ x ∈ (s.chip.ctl fn).sqs, x.2.cq ≠ n.toNat)) ∧
    (∃ (s : State) (fn : Fin 128) (n : BitVec 16) (a : NvmeSq) (q : NvmeCq), sqReady s.chip fn 0 a q ∧ a.cq = 0 ∧ (n = 0 ∨ tget (s.chip.ctl fn).sqs n.toNat = none)) :=
  ⟨(⟨pool.getD 0 .reset, 1, (0x2 : BitVec 16), { base := 8192, size := 8, prio := 0, cq := 0, head := 1, tail := 2, global := 0, deleting := none }, { base := 2415919104, size := 4, vector := some 0, head := 0, tail := 0, phase := 1, wait := [] }, by
      unfold sqReady nvQuiet
      refine @of_decide_eq_true _ (by haveI := @decAllSome; haveI := @decExSome; haveI := @decOk; haveI := @decErr; infer_instance) ?_
      decide +kernel⟩),
   (⟨pool.getD 0 .reset, 1, (0x3 : BitVec 16), (0x0 : BitVec 16), { base := 8192, size := 8, prio := 0, cq := 0, head := 1, tail := 2, global := 0, deleting := none }, { base := 2415919104, size := 4, vector := some 0, head := 0, tail := 0, phase := 1, wait := [] }, by
      unfold sqReady nvQuiet
      refine @of_decide_eq_true _ (by haveI := @decAllSome; haveI := @decExSome; haveI := @decOk; haveI := @decErr; infer_instance) ?_
      decide +kernel⟩),
   (⟨pool.getD 0 .reset, 1, (0x3 : BitVec 16), (0x2 : BitVec 16), (0x800 : BitVec 16), true, { base := 8192, size := 8, prio := 0, cq := 0, head := 1, tail := 2, global := 0, deleting := none }, { base := 2415919104, size := 4, vector := some 0, head := 0, tail := 0, phase := 1, wait := [] }, by
      unfold sqReady nvQuiet
      refine @of_decide_eq_true _ (by haveI := @decAllSome; haveI := @decExSome; haveI := @decOk; haveI := @decErr; infer_instance) ?_
      decide +kernel⟩),
   (⟨pool.getD 0 .reset, 1, (0x3 : BitVec 16), (0x2 : BitVec 16), (0x2 : BitVec 16), 2415919112, false, { base := 8192, size := 8, prio := 0, cq := 0, head := 1, tail := 2, global := 0, deleting := none }, { base := 2415919104, size := 4, vector := some 0, head := 0, tail := 0, phase := 1, wait := [] }, by
      unfold sqReady nvQuiet
      refine @of_decide_eq_true _ (by haveI := @decAllSome; haveI := @decExSome; haveI := @decOk; haveI := @decErr; infer_instance) ?_
      decide +kernel⟩),
   (⟨pool.getD 0 .reset, 1, (0x3 : BitVec 16), (0x2 : BitVec 16), (0x2 : BitVec 16), 1342181376, false, { base := 8192, size := 8, prio := 0, cq := 0, head := 1, tail := 2, global := 0, deleting := none }, { base := 2415919104, size := 4, vector := some 0, head := 0, tail := 0, phase := 1, wait := [] }, by
      unfold sqReady nvQuiet
      refine @of_decide_eq_true _ (by haveI := @decAllSome; haveI := @decExSome; haveI := @decOk; haveI := @decErr; infer_instance) ?_
      decide +kernel⟩),
   (⟨pool.getD 0 .reset, 1, (0x3 : BitVec 16), { base := 8192, size := 8, prio := 0, cq := 0, head := 1, tail := 2, global := 0, deleting := none }, { base := 2415919104, size := 4, vector := some 0, head := 0, tail := 0, phase := 1, wait := [] }, by
      unfold sqReady nvQuiet
      refine @of_decide_eq_true _ (by haveI := @decAllSome; haveI := @decExSome; haveI := @decOk; haveI := @decErr; infer_instance) ?_
      decide +kernel⟩),
   (⟨pool.getD 0 .reset, 1, (0x2 : BitVec 16), (0x3 : BitVec 16), { base := 8192, size := 8, prio := 0, cq := 0, head := 1, tail := 2, global := 0, deleting := none }, { base := 2415919104, size := 4, vector := some 0, head := 0, tail := 0, phase := 1, wait := [] }, by
      unfold sqReady nvQuiet
      refine @of_decide_eq_true _ (by haveI := @decAllSome; haveI := @decExSome; haveI := @decOk; haveI := @decErr; infer_instance) ?_
      decide +kernel⟩),
   (⟨pool.getD 0 .reset, 1, (0x2 : BitVec 16), (0x0 : BitVec 16), (0x2 : BitVec 16), { base := 8192, size := 8, prio := 0, cq := 0, head := 1, tail := 2, global := 0, deleting := none }, { base := 2415919104, size := 4, vector := some 0, head := 0, tail := 0, phase := 1, wait := [] }, by
      unfold sqReady nvQuiet
      refine @of_decide_eq_true _ (by haveI := @decAllSome; haveI := @decExSome; haveI := @decOk; haveI := @decErr; infer_instance) ?_
      decide +kernel⟩),
   (⟨pool.getD 0 .reset, 1, (0x2 : BitVec 16), (0x2 : BitVec 16), (0x2 : BitVec 16), 2415919112, { base := 8192, size := 8, prio := 0, cq := 0, head := 1, tail := 2, global := 0, deleting := none }, { base := 2415919104, size := 4, vector := some 0, head := 0, tail := 0, phase := 1, wait := [] }, by
      unfold sqReady nvQuiet
      refine @of_decide_eq_true _ (by haveI := @decAllSome; haveI := @decExSome; haveI := @decOk; haveI := @decErr; infer_instance) ?_
      decide +kernel⟩),
   (⟨pool.getD 0 .reset, 1, (0x2 : BitVec 16), (0x2 : BitVec 16), (0x2 : BitVec 16), 1342181376, { base := 8192, size := 8, prio := 0, cq := 0, head := 1, tail := 2, global := 0, deleting := none }, { base := 2415919104, size := 4, vector := some 0, head := 0, tail := 0, phase := 1, wait := [] }, 90462752768, 0, by
      unfold sqReady nvQuiet
      refine @of_decide_eq_true _ (by haveI := @decAllSome; haveI := @decExSome; haveI := @decOk; haveI := @decErr; infer_instance) ?_
      decide +kernel⟩),
   (⟨pool.getD 0 .reset, 1, (0x3 : BitVec 16), { base := 8192, size := 8, prio := 0, cq := 0, head := 1, tail := 2, global := 0, deleting := none }, { base := 2415919104, size := 4, vector := some 0, head := 0, tail := 0, phase := 1, wait := [] }, by
      unfold sqReady nvQuiet
      refine @of_decide_eq_true _ (by haveI := @decAllSome; haveI := @decExSome; haveI := @decOk; haveI := @decErr; infer_instance) ?_
      decide +kernel⟩),
   (⟨pool.getD 0 .reset, 1, (0x2 : BitVec 16), { base := 8192, size := 8, prio := 0, cq := 0, head := 1, tail := 2, global := 0, deleting := none }, { base := 2415919104, size := 4, vector := some 0, head := 0, tail := 0, phase := 1, wait := [] }, by
      unfold sqReady nvQuiet
      refine @of_decide_eq_true _ (by haveI := @decAllSome; haveI := @decExSome; haveI := @decOk; haveI := @decErr; infer_instance) ?_
      decide +kernel⟩),
   (⟨pool.getD 0 .reset, 1, (0x5 : BitVec 16), { base := 8192, size := 8, prio := 0, cq := 0, head := 1, tail := 2, global := 0, deleting := none }, { base := 2415919104, size := 4, vector := some 0, head := 0, tail := 0, phase := 1, wait := [] }, by
      unfold sqReady nvQuiet
      refine @of_decide_eq_true _ (by haveI := @decAllSome; haveI := @decExSome; haveI := @decOk; haveI := @decErr; infer_instance) ?_
      decide +kernel⟩),
   (⟨pool.getD 0 .reset, 1, (0x2 : BitVec 16), { base := 8192, size := 8, prio := 0, cq := 0, head := 1, tail := 2, global := 0, deleting := none }, { base := 2415919104, size := 4, vector := some 0, head := 0, tail := 0, phase := 1, wait := [] }, by
      unfold sqReady nvQuiet
      refine @of_decide_eq_true _ (by haveI := @decAllSome; haveI := @decExSome; haveI := @decOk; haveI := @decErr; infer_instance) ?_
      decide +kernel⟩)⟩

theorem test_NvmeQueues_witness3 :
    (∃ (s : State) (fn : Fin 128) (n : BitVec 16) (a : NvmeSq) (q : NvmeCq) (x : _), sqReady s.chip fn 0 a q ∧ a.cq = 0 ∧ n ≠ 0 ∧ tget (s.chip.ctl fn).sqs n.toNat = some x ∧ x.global < 4096 ∧ (∀ y, tget (s.chip.ctl fn).cqs x.cq = some y → y.wait = [])) :=
  (⟨pool.getD 0 .reset, 1, (0x3 : BitVec 16), { base := 8192, size := 8, prio := 0, cq := 0, head := 1, tail := 2, global := 0, deleting := none }, { base := 2415919104, size := 4, vector := some 0, head := 0, tail := 0, phase := 1, wait := [] }, { base := 12288, size := 8, prio := 1, cq := 2, head := 2, tail := 3, global := 5, deleting := none }, by
      unfold sqReady nvQuiet
      refine @of_decide_eq_true _ (by haveI := @decAllSome; haveI := @decExSome; haveI := @decOk; haveI := @decErr; infer_instance) ?_
      decide +kernel⟩)

theorem test_NvmeCommands_witness1 :
    (∃ (s : State) (fn : Fin 128), s.chip.nvs.hand.contains (fn.val, 0) = false) ∧
    (∃ (s : State) (fn : Fin 128) (lid : BitVec 16), s.chip.nvs.hand.contains (fn.val, lid.toNat) = false) ∧
    (∃ (s : State), 8192 ≤ s.chip.rg Reg.NVS_LOCKS.IN_USE) ∧
    (∃ (s : State) (fn : Fin 128) (lid : BitVec 16) (u : BitVec 32) (x : Fin 8), (s.chip.admits (.nvme (((tget (s.chip.ctl fn).sqs lid.toNat).map (fun x => x.global)).getD 0)) = false ∨ lid = 0 ∨ (∃ k n, s.chip.nsOf fn u.toNat = some (k, n) ∧ n.backing ≠ 0 ∧ s.chip.targetState n.target ≠ 2))) ∧
    (∃ (s : State) (fn : Fin 128) (b : BitVec 8) (u : BitVec 32) (p : Nat) (a : NvmeSq) (q : NvmeCq) (ds : _), sqReady s.chip fn 0 a q ∧ a.cq = 0 ∧ s.chip.identifyData fn b.toNat u.toNat = some ds ∧ p % 4096 = 0 ∧ s.chip.inCmb fn p 4096 = none) ∧
    (∃ (s : State) (fn : Fin 128) (b : BitVec 8) (u : BitVec 32) (a : NvmeSq) (q : NvmeCq), sqReady s.chip fn 0 a q ∧ a.cq = 0 ∧ s.chip.identifyData fn b.toNat u.toNat = none) ∧
    (∃ (s : State) (fn : Fin 128) (b : BitVec 8) (a : NvmeSq) (q : NvmeCq), sqReady s.chip fn 0 a q ∧ a.cq = 0 ∧ (b = 0 ∨ 3 < b.toNat)) ∧
    (∃ (s : State) (fn : Fin 128) (nd : BitVec 16) (b : BitVec 8) (p : Nat) (a : NvmeSq) (q : NvmeCq), sqReady s.chip fn 0 a q ∧ a.cq = 0 ∧ b ≠ 0 ∧ b.toNat ≤ 3 ∧ p % 4096 = 0 ∧ nd.toNat < 1024 ∧ s.chip.inCmb fn p ((nd.toNat + 1) * 4) = none) ∧
    (∃ (s : State) (fn : Fin 128) (b : BitVec 8) (a : NvmeSq) (q : NvmeCq), sqReady s.chip fn 0 a q ∧ a.cq = 0 ∧ b ∉ [1, 2, 6, 7, 8, 9]) ∧
    (∃ (s : State) (fn : Fin 128) (b : BitVec 8) (a : NvmeSq) (q : NvmeCq), sqReady s.chip fn 0 a q ∧ a.cq = 0 ∧ b = 7) ∧
    (∃ (s : State) (fn : Fin 128) (b : BitVec 8) (a : NvmeSq) (q : NvmeCq), sqReady s.chip fn 0 a q ∧ a.cq = 0 ∧ b = 6) ∧
    (∃ (s : State) (fn : Fin 128) (b : BitVec 8) (v : BitVec 32) (a : NvmeSq) (q : NvmeCq), sqReady s.chip fn 0 a q ∧ a.cq = 0 ∧ b = 2 ∧ v.toNat % 32 ≠ 0) ∧
    (∃ (s : State) (fn : Fin 128) (b : BitVec 8) (v : BitVec 32) (a : NvmeSq) (q : NvmeCq), sqReady s.chip fn 0 a q ∧ a.cq = 0 ∧ (b ∈ [1, 8, 9] ∨ (b = 2 ∧ v.toNat % 32 = 0))) ∧
    (∃ (s : State) (fn : Fin 128) (b : BitVec 8) (a : NvmeSq) (q : NvmeCq), sqReady s.chip fn 0 a q ∧ a.cq = 0 ∧ b ∈ [1, 2, 6, 8, 9]) :=
  ⟨(⟨pool.getD 0 .reset, 0, by
      decide +kernel⟩),
   (⟨pool.getD 0 .reset, 1, (0x2 : BitVec 16), by
      decide +kernel⟩),
   (⟨pool.getD 3 .reset, by
      decide +kernel⟩),
   (⟨pool.getD 0 .reset, 1, (0x0 : BitVec 16), (0x1 : BitVec 32), 2, Or.inr (Or.inl rfl)⟩),
   (⟨pool.getD 0 .reset, 1, (0x1 : BitVec 8), (0x1 : BitVec 32), 0, { base := 8192, size := 8, prio := 0, cq := 0, head := 1, tail := 2, global := 0, deleting := none }, { base := 2415919104, size := 4, vector := some 0, head := 0, tail := 0, phase := 1, wait := [] }, ((pool.getD 0 .reset).chip.identifyData (1) (BitVec.toNat (0x1 : BitVec 8)) (BitVec.toNat (0x1 : BitVec 32))).getD [], by unfold sqReady nvQuiet; refine @of_decide_eq_true _ (by haveI := @decAllSome; haveI := @decExSome; haveI := @decOk; haveI := @decErr; infer_instance) ?_; decide +kernel, by decide +kernel, eq_some_getD (by decide +kernel) _, by decide +kernel, by decide +kernel⟩),
   (⟨pool.getD 0 .reset, 1, (0x0 : BitVec 8), (0x0 : BitVec 32), { base := 8192, size := 8, prio := 0, cq := 0, head := 1, tail := 2, global := 0, deleting := none }, { base := 2415919104, size := 4, vector := some 0, head := 0, tail := 0, phase := 1, wait := [] }, by
      unfold sqReady nvQuiet
      refine @of_decide_eq_true _ (by haveI := @decAllSome; haveI := @decExSome; haveI := @decOk; haveI := @decErr; infer_instance) ?_
      decide +kernel⟩),
   (⟨pool.getD 0 .reset, 1, (0x0 : BitVec 8), { base := 8192, size := 8, prio := 0, cq := 0, head := 1, tail := 2, global := 0, deleting := none }, { base := 2415919104, size := 4, vector := some 0, head := 0, tail := 0, phase := 1, wait := [] }, by
      unfold sqReady nvQuiet
      refine @of_decide_eq_true _ (by haveI := @decAllSome; haveI := @decExSome; haveI := @decOk; haveI := @decErr; infer_instance) ?_
      decide +kernel⟩),
   (⟨pool.getD 0 .reset, 1, (0x2 : BitVec 16), (0x1 : BitVec 8), 0, { base := 8192, size := 8, prio := 0, cq := 0, head := 1, tail := 2, global := 0, deleting := none }, { base := 2415919104, size := 4, vector := some 0, head := 0, tail := 0, phase := 1, wait := [] }, by
      unfold sqReady nvQuiet
      refine @of_decide_eq_true _ (by haveI := @decAllSome; haveI := @decExSome; haveI := @decOk; haveI := @decErr; infer_instance) ?_
      decide +kernel⟩),
   (⟨pool.getD 0 .reset, 1, (0x0 : BitVec 8), { base := 8192, size := 8, prio := 0, cq := 0, head := 1, tail := 2, global := 0, deleting := none }, { base := 2415919104, size := 4, vector := some 0, head := 0, tail := 0, phase := 1, wait := [] }, by
      unfold sqReady nvQuiet
      refine @of_decide_eq_true _ (by haveI := @decAllSome; haveI := @decExSome; haveI := @decOk; haveI := @decErr; infer_instance) ?_
      decide +kernel⟩),
   (⟨pool.getD 0 .reset, 1, (0x7 : BitVec 8), { base := 8192, size := 8, prio := 0, cq := 0, head := 1, tail := 2, global := 0, deleting := none }, { base := 2415919104, size := 4, vector := some 0, head := 0, tail := 0, phase := 1, wait := [] }, by
      unfold sqReady nvQuiet
      refine @of_decide_eq_true _ (by haveI := @decAllSome; haveI := @decExSome; haveI := @decOk; haveI := @decErr; infer_instance) ?_
      decide +kernel⟩),
   (⟨pool.getD 0 .reset, 1, (0x6 : BitVec 8), { base := 8192, size := 8, prio := 0, cq := 0, head := 1, tail := 2, global := 0, deleting := none }, { base := 2415919104, size := 4, vector := some 0, head := 0, tail := 0, phase := 1, wait := [] }, by
      unfold sqReady nvQuiet
      refine @of_decide_eq_true _ (by haveI := @decAllSome; haveI := @decExSome; haveI := @decOk; haveI := @decErr; infer_instance) ?_
      decide +kernel⟩),
   (⟨pool.getD 0 .reset, 1, (0x2 : BitVec 8), (0x1 : BitVec 32), { base := 8192, size := 8, prio := 0, cq := 0, head := 1, tail := 2, global := 0, deleting := none }, { base := 2415919104, size := 4, vector := some 0, head := 0, tail := 0, phase := 1, wait := [] }, by
      unfold sqReady nvQuiet
      refine @of_decide_eq_true _ (by haveI := @decAllSome; haveI := @decExSome; haveI := @decOk; haveI := @decErr; infer_instance) ?_
      decide +kernel⟩),
   (⟨pool.getD 0 .reset, 1, (0x1 : BitVec 8), (0x1 : BitVec 32), { base := 8192, size := 8, prio := 0, cq := 0, head := 1, tail := 2, global := 0, deleting := none }, { base := 2415919104, size := 4, vector := some 0, head := 0, tail := 0, phase := 1, wait := [] }, by
      unfold sqReady nvQuiet
      refine @of_decide_eq_true _ (by haveI := @decAllSome; haveI := @decExSome; haveI := @decOk; haveI := @decErr; infer_instance) ?_
      decide +kernel⟩),
   (⟨pool.getD 0 .reset, 1, (0x1 : BitVec 8), { base := 8192, size := 8, prio := 0, cq := 0, head := 1, tail := 2, global := 0, deleting := none }, { base := 2415919104, size := 4, vector := some 0, head := 0, tail := 0, phase := 1, wait := [] }, by
      unfold sqReady nvQuiet
      refine @of_decide_eq_true _ (by haveI := @decAllSome; haveI := @decExSome; haveI := @decOk; haveI := @decErr; infer_instance) ?_
      decide +kernel⟩)⟩

theorem test_NvmeCommands_witness2 :
    (∃ (s : State) (fn : Fin 128) (a : NvmeSq) (q : NvmeCq), sqReady s.chip fn 0 a q ∧ a.cq = 0 ∧ isVF fn = true) ∧
    (∃ (s : State) (fn : Fin 128) (u : BitVec 32) (o : BitVec 32) (a : NvmeSq) (q : NvmeCq), sqReady s.chip fn 0 a q ∧ a.cq = 0 ∧ isVF fn = false ∧ (o.toNat % 1024 ≠ 0 ∨ u.toNat % 1024 ≠ 1023 ∨ 0x100000 < u.toNat + 1 ∨ mib32 < (o.toNat + u.toNat + 1) * 4)) ∧
    (∃ (s : State) (fn : Fin 128) (u : BitVec 32) (o : BitVec 32) (a : NvmeSq) (q : NvmeCq), sqReady s.chip fn 0 a q ∧ a.cq = 0 ∧ isVF fn = false ∧ o.toNat % 1024 = 0 ∧ u.toNat % 1024 = 1023 ∧ u.toNat + 1 ≤ 0x100000 ∧ (o.toNat + u.toNat + 1) * 4 ≤ mib32) ∧
    (∃ (s : State) (fn : Fin 128) (a : NvmeSq) (q : NvmeCq), sqReady s.chip fn 0 a q ∧ a.cq = 0 ∧ s.chip.coreServes (s.chip.roleCore 0) = true ∧ isVF fn = true) ∧
    (∃ (s : State) (fn : Fin 128) (a : NvmeSq) (q : NvmeCq) (ca : Fin 8), sqReady s.chip fn 0 a q ∧ a.cq = 0 ∧ s.chip.coreServes (s.chip.roleCore 0) = true ∧ isVF fn = false ∧ 3 < ca.val) ∧
    (∃ (s : State) (fn : Fin 128) (a : NvmeSq) (q : NvmeCq) (fs : Fin 8) (ca : Fin 8), sqReady s.chip fn 0 a q ∧ a.cq = 0 ∧ s.chip.coreServes (s.chip.roleCore 0) = true ∧ isVF fn = false ∧ ca.val ≤ 3 ∧ 2 < fs.val) ∧
    (∃ (s : State) (fn : Fin 128) (a : NvmeSq) (q : NvmeCq) (fs : Fin 8), sqReady s.chip fn 0 a q ∧ a.cq = 0 ∧ s.chip.coreServes (s.chip.roleCore 0) = true ∧ isVF fn = false ∧ (fs = 1 ∨ fs = 2)) ∧
    (∃ (s : State) (fn : Fin 128) (a : NvmeSq) (q : NvmeCq) (fs : Fin 8) (ca : Fin 8) (act : Nat) (slot : Nat), sqReady s.chip fn 0 a q ∧ a.cq = 0 ∧ s.chip.coreServes (s.chip.roleCore 0) = true ∧ isVF fn = false ∧ ca.val ≤ 3 ∧ ca ≠ 2 ∧ fs.val ≤ 2 ∧ act = (s.chip.bootRec.map (fun r => r.active)).getD 0 ∧ slot = (if fs = 0 then 1 - act % 2 else fs.val - 1) ∧ slot = act) ∧
    (∃ (s : State) (fn : Fin 128) (a : NvmeSq) (q : NvmeCq) (fs : Fin 8) (ca : Fin 8) (act : Nat) (slot : Nat), sqReady s.chip fn 0 a q ∧ a.cq = 0 ∧ s.chip.coreServes (s.chip.roleCore 0) = true ∧ isVF fn = false ∧ ca.val ≤ 3 ∧ ca ≠ 2 ∧ fs.val ≤ 2 ∧ act = (s.chip.bootRec.map (fun r => r.active)).getD 0 ∧ slot = (if fs = 0 then 1 - act % 2 else fs.val - 1) ∧ slot ≠ act) ∧
    (∃ (s : State) (fn : Fin 128) (n : BitVec 16) (u : BitVec 32) (a : NvmeSq) (q : NvmeCq), sqReady s.chip fn n.toNat a q ∧ s.chip.admits (.nvme a.global) = true ∧ s.chip.rg Reg.NVS_LOCKS.IN_USE < 8192 ∧ n ≠ 0 ∧ s.chip.nsOf fn u.toNat = none) ∧
    (∃ (s : State) (fn : Fin 128) (n : BitVec 16) (w : BitVec 16) (u : BitVec 32) (l : Word) (a : NvmeSq) (q : NvmeCq) (k : _) (x : _), sqReady s.chip fn n.toNat a q ∧ s.chip.admits (.nvme a.global) = true ∧ s.chip.rg Reg.NVS_LOCKS.IN_USE < 8192 ∧ n ≠ 0 ∧ s.chip.nsOf fn u.toNat = some (k, x) ∧ (x.backing = 0 ∨ s.chip.targetState x.target = 2) ∧ x.nsze < l.toNat + (w.toNat + 1)) ∧
    (∃ (s : State) (fn : Fin 128) (n : BitVec 16) (w : BitVec 16) (u : BitVec 32) (l : Word) (a : NvmeSq) (q : NvmeCq) (k : _) (x : _), sqReady s.chip fn n.toNat a q ∧ s.chip.admits (.nvme a.global) = true ∧ s.chip.rg Reg.NVS_LOCKS.IN_USE < 8192 ∧ n ≠ 0 ∧ s.chip.nsOf fn u.toNat = some (k, x) ∧ (x.backing = 0 ∨ s.chip.targetState x.target = 2) ∧ l.toNat + (w.toNat + 1) ≤ x.nsze ∧ 0x200000 < (w.toNat + 1) * x.blockBytes) ∧
    (∃ (s : State) (fn : Fin 128) (n : BitVec 16) (w : BitVec 16) (u : BitVec 32) (l : Word) (ps : List Nat) (a : NvmeSq) (q : NvmeCq) (k : _) (x : _), sqReady s.chip fn n.toNat a q ∧ s.chip.admits (.nvme a.global) = true ∧ s.chip.rg Reg.NVS_LOCKS.IN_USE < 8192 ∧ n ≠ 0 ∧ s.chip.nsOf fn u.toNat = some (k, x) ∧ (x.backing = 0 ∨ s.chip.targetState x.target = 2) ∧ l.toNat + (w.toNat + 1) ≤ x.nsze ∧ (w.toNat + 1) * x.blockBytes ≤ 0x200000 ∧ ps.headD 0 % 4 ≠ 0) ∧
    (∃ (s : State) (fn : Fin 128) (n : BitVec 16) (w : BitVec 16) (u : BitVec 32) (l : Word) (ps : List Nat) (a : NvmeSq) (q : NvmeCq) (k : _) (x : _), sqReady s.chip fn n.toNat a q ∧ s.chip.admits (.nvme a.global) = true ∧ s.chip.rg Reg.NVS_LOCKS.IN_USE < 8192 ∧ n ≠ 0 ∧ s.chip.nsOf fn u.toNat = some (k, x) ∧ (x.backing = 0 ∨ s.chip.targetState x.target = 2) ∧ l.toNat + (w.toNat + 1) ≤ x.nsze ∧ (w.toNat + 1) * x.blockBytes ≤ 0x200000 ∧ ps.headD 0 % 4 = 0) :=
  ⟨(⟨pool.getD 1 .reset, 5, { base := 8192, size := 8, prio := 0, cq := 0, head := 1, tail := 2, global := 0, deleting := none }, { base := 2415919104, size := 4, vector := some 0, head := 0, tail := 0, phase := 1, wait := [] }, by
      unfold sqReady nvQuiet
      refine @of_decide_eq_true _ (by haveI := @decAllSome; haveI := @decExSome; haveI := @decOk; haveI := @decErr; infer_instance) ?_
      decide +kernel⟩),
   (⟨pool.getD 0 .reset, 1, (0x1 : BitVec 32), (0x1 : BitVec 32), { base := 8192, size := 8, prio := 0, cq := 0, head := 1, tail := 2, global := 0, deleting := none }, { base := 2415919104, size := 4, vector := some 0, head := 0, tail := 0, phase := 1, wait := [] }, by
      unfold sqReady nvQuiet
      refine @of_decide_eq_true _ (by haveI := @decAllSome; haveI := @decExSome; haveI := @decOk; haveI := @decErr; infer_instance) ?_
      decide +kernel⟩),
   (⟨pool.getD 0 .reset, 1, (0x3ff : BitVec 32), (0x0 : BitVec 32), { base := 8192, size := 8, prio := 0, cq := 0, head := 1, tail := 2, global := 0, deleting := none }, { base := 2415919104, size := 4, vector := some 0, head := 0, tail := 0, phase := 1, wait := [] }, by
      unfold sqReady nvQuiet
      refine @of_decide_eq_true _ (by haveI := @decAllSome; haveI := @decExSome; haveI := @decOk; haveI := @decErr; infer_instance) ?_
      decide +kernel⟩),
   (⟨pool.getD 1 .reset, 5, { base := 8192, size := 8, prio := 0, cq := 0, head := 1, tail := 2, global := 0, deleting := none }, { base := 2415919104, size := 4, vector := some 0, head := 0, tail := 0, phase := 1, wait := [] }, by
      unfold sqReady nvQuiet
      refine @of_decide_eq_true _ (by haveI := @decAllSome; haveI := @decExSome; haveI := @decOk; haveI := @decErr; infer_instance) ?_
      decide +kernel⟩),
   (⟨pool.getD 0 .reset, 1, { base := 8192, size := 8, prio := 0, cq := 0, head := 1, tail := 2, global := 0, deleting := none }, { base := 2415919104, size := 4, vector := some 0, head := 0, tail := 0, phase := 1, wait := [] }, 4, by
      unfold sqReady nvQuiet
      refine @of_decide_eq_true _ (by haveI := @decAllSome; haveI := @decExSome; haveI := @decOk; haveI := @decErr; infer_instance) ?_
      decide +kernel⟩),
   (⟨pool.getD 0 .reset, 1, { base := 8192, size := 8, prio := 0, cq := 0, head := 1, tail := 2, global := 0, deleting := none }, { base := 2415919104, size := 4, vector := some 0, head := 0, tail := 0, phase := 1, wait := [] }, 4, 2, by
      unfold sqReady nvQuiet
      refine @of_decide_eq_true _ (by haveI := @decAllSome; haveI := @decExSome; haveI := @decOk; haveI := @decErr; infer_instance) ?_
      decide +kernel⟩),
   (⟨pool.getD 0 .reset, 1, { base := 8192, size := 8, prio := 0, cq := 0, head := 1, tail := 2, global := 0, deleting := none }, { base := 2415919104, size := 4, vector := some 0, head := 0, tail := 0, phase := 1, wait := [] }, 2, by
      unfold sqReady nvQuiet
      refine @of_decide_eq_true _ (by haveI := @decAllSome; haveI := @decExSome; haveI := @decOk; haveI := @decErr; infer_instance) ?_
      decide +kernel⟩),
   (⟨pool.getD 0 .reset, 1, { base := 8192, size := 8, prio := 0, cq := 0, head := 1, tail := 2, global := 0, deleting := none }, { base := 2415919104, size := 4, vector := some 0, head := 0, tail := 0, phase := 1, wait := [] }, 1, 0, 0, 0, by
      unfold sqReady nvQuiet
      refine @of_decide_eq_true _ (by haveI := @decAllSome; haveI := @decExSome; haveI := @decOk; haveI := @decErr; infer_instance) ?_
      decide +kernel⟩),
   (⟨pool.getD 0 .reset, 1, { base := 8192, size := 8, prio := 0, cq := 0, head := 1, tail := 2, global := 0, deleting := none }, { base := 2415919104, size := 4, vector := some 0, head := 0, tail := 0, phase := 1, wait := [] }, 2, 0, 0, 1, by
      unfold sqReady nvQuiet
      refine @of_decide_eq_true _ (by haveI := @decAllSome; haveI := @decExSome; haveI := @decOk; haveI := @decErr; infer_instance) ?_
      decide +kernel⟩),
   (⟨pool.getD 0 .reset, 1, (0x3 : BitVec 16), (0x0 : BitVec 32), { base := 12288, size := 8, prio := 1, cq := 2, head := 2, tail := 3, global := 5, deleting := none }, { base := 2415984640, size := 4, vector := none, head := 2, tail := 0, phase := 0, wait := [] }, by
      unfold sqReady nvQuiet
      refine @of_decide_eq_true _ (by haveI := @decAllSome; haveI := @decExSome; haveI := @decOk; haveI := @decErr; infer_instance) ?_
      decide +kernel⟩),
   (⟨pool.getD 0 .reset, 1, (0x3 : BitVec 16), (0x2 : BitVec 16), (0x1 : BitVec 32), (0x3e7 : BitVec 64), { base := 12288, size := 8, prio := 1, cq := 2, head := 2, tail := 3, global := 5, deleting := none }, { base := 2415984640, size := 4, vector := none, head := 2, tail := 0, phase := 0, wait := [] }, 0, { backing := 1, nsid := 1, lbads := 9, target := 4, nsze := 1000, base := 0, attach := 4294967295, raw := [] }, by
      unfold sqReady nvQuiet
      refine @of_decide_eq_true _ (by haveI := @decAllSome; haveI := @decExSome; haveI := @decOk; haveI := @decErr; infer_instance) ?_
      decide +kernel⟩),
   (⟨pool.getD 0 .reset, 1, (0x3 : BitVec 16), (0x7ff : BitVec 16), (0x3 : BitVec 32), (0x0 : BitVec 64), { base := 12288, size := 8, prio := 1, cq := 2, head := 2, tail := 3, global := 5, deleting := none }, { base := 2415984640, size := 4, vector := none, head := 2, tail := 0, phase := 0, wait := [] }, 2, { backing := 0, nsid := 3, lbads := 12, target := 0, nsze := 70000, base := 536870912, attach := 4294967295, raw := [] }, by
      unfold sqReady nvQuiet
      refine @of_decide_eq_true _ (by haveI := @decAllSome; haveI := @decExSome; haveI := @decOk; haveI := @decErr; infer_instance) ?_
      decide +kernel⟩),
   (⟨pool.getD 0 .reset, 1, (0x3 : BitVec 16), (0x2 : BitVec 16), (0x1 : BitVec 32), (0x0 : BitVec 64), [1610612737], { base := 12288, size := 8, prio := 1, cq := 2, head := 2, tail := 3, global := 5, deleting := none }, { base := 2415984640, size := 4, vector := none, head := 2, tail := 0, phase := 0, wait := [] }, 0, { backing := 1, nsid := 1, lbads := 9, target := 4, nsze := 1000, base := 0, attach := 4294967295, raw := [] }, by
      unfold sqReady nvQuiet
      refine @of_decide_eq_true _ (by haveI := @decAllSome; haveI := @decExSome; haveI := @decOk; haveI := @decErr; infer_instance) ?_
      decide +kernel⟩),
   (⟨pool.getD 0 .reset, 1, (0x3 : BitVec 16), (0x2 : BitVec 16), (0x1 : BitVec 32), (0x0 : BitVec 64), [1610612736], { base := 12288, size := 8, prio := 1, cq := 2, head := 2, tail := 3, global := 5, deleting := none }, { base := 2415984640, size := 4, vector := none, head := 2, tail := 0, phase := 0, wait := [] }, 0, { backing := 1, nsid := 1, lbads := 9, target := 4, nsze := 1000, base := 0, attach := 4294967295, raw := [] }, by
      unfold sqReady nvQuiet
      refine @of_decide_eq_true _ (by haveI := @decAllSome; haveI := @decExSome; haveI := @decOk; haveI := @decErr; infer_instance) ?_
      decide +kernel⟩)⟩

theorem test_NvmeCommands_witness3 :
    (∃ (s : State) (fn : Fin 128) (n : BitVec 16) (w : BitVec 16) (u : BitVec 32) (l : Word) (ps : List Nat) (a : NvmeSq) (q : NvmeCq) (k : _) (x : _), sqReady s.chip fn n.toNat a q ∧ s.chip.admits (.nvme a.global) = true ∧ s.chip.rg Reg.NVS_LOCKS.IN_USE < 8192 ∧ n ≠ 0 ∧ s.chip.nsOf fn u.toNat = some (k, x) ∧ (x.backing = 0 ∨ s.chip.targetState x.target = 2) ∧ x.backing ≠ 0 ∧ tget s.chip.nvs.ns k = some x ∧ s.chip.running .nvs = true ∧ (s.chip.agentRec (.block .nvs)).fencing = false ∧ l.toNat + (w.toNat + 1) ≤ x.nsze ∧ (w.toNat + 1) * x.blockBytes ≤ 0x200000 ∧ ps.headD 0 % 4 = 0) ∧
    (∃ (s : State) (fn : Fin 128) (n : BitVec 16) (w : BitVec 16) (u : BitVec 32) (l : Word) (ps : List Nat) (a : NvmeSq) (q : NvmeCq) (k : _) (x : _), sqReady s.chip fn n.toNat a q ∧ s.chip.admits (.nvme a.global) = true ∧ s.chip.rg Reg.NVS_LOCKS.IN_USE < 8192 ∧ n ≠ 0 ∧ s.chip.nsOf fn u.toNat = some (k, x) ∧ (x.backing = 0 ∨ s.chip.targetState x.target = 2) ∧ x.backing ≠ 0 ∧ tget s.chip.nvs.ns k = some x ∧ s.chip.running .nvs = true ∧ (s.chip.agentRec (.block .nvs)).fencing = false ∧ l.toNat + (w.toNat + 1) ≤ x.nsze ∧ (w.toNat + 1) * x.blockBytes ≤ 0x200000 ∧ ps.headD 0 % 4 = 0 ∧ s.chip.prpHost fn (prpPieces ps ((w.toNat + 1) * x.blockBytes)) = true) ∧
    (∃ (s : State) (fn : Fin 128) (n : BitVec 16) (w : BitVec 16) (u : BitVec 32) (l : Word) (ps : List Nat) (a : NvmeSq) (q : NvmeCq) (k : _) (x : _) (at_ : Nat) (len : Nat), sqReady s.chip fn n.toNat a q ∧ s.chip.admits (.nvme a.global) = true ∧ s.chip.rg Reg.NVS_LOCKS.IN_USE < 8192 ∧ n ≠ 0 ∧ s.chip.nsOf fn u.toNat = some (k, x) ∧ (x.backing = 0 ∨ s.chip.targetState x.target = 2) ∧ x.backing = 0 ∧ tget s.chip.nvs.ns k = some x ∧ s.chip.running .nvs = true ∧ (s.chip.agentRec (.block .nvs)).fencing = false ∧ l.toNat + (w.toNat + 1) ≤ x.nsze ∧ (w.toNat + 1) * x.blockBytes ≤ 0x200000 ∧ ps.headD 0 % 4 = 0 ∧ at_ = x.base + l.toNat * x.blockBytes ∧ len = (w.toNat + 1) * x.blockBytes ∧ s.chip.unmapped at_ len = false ∧ (∀ f ∈ s.chip.mu.flips, overlaps at_ len f.1 32 = false) ∧ s.chip.anyPoison at_ len = false) ∧
    (∃ (s : State) (fn : Fin 128) (n : BitVec 16) (w : BitVec 16) (u : BitVec 32) (l : Word) (a : NvmeSq) (q : NvmeCq) (k : _) (x : _), sqReady s.chip fn n.toNat a q ∧ s.chip.admits (.nvme a.global) = true ∧ s.chip.rg Reg.NVS_LOCKS.IN_USE < 8192 ∧ n ≠ 0 ∧ s.chip.nsOf fn u.toNat = some (k, x) ∧ (x.backing = 0 ∨ s.chip.targetState x.target = 2) ∧ x.backing = 0 ∧ tget s.chip.nvs.ns k = some x ∧ s.chip.running .nvs = true ∧ (s.chip.agentRec (.block .nvs)).fencing = false ∧ l.toNat + (w.toNat + 1) ≤ x.nsze ∧ s.chip.unmapped (x.base + l.toNat * x.blockBytes) ((w.toNat + 1) * x.blockBytes) = false) ∧
    (∃ (s : State) (q : Nat), (∀ b ∈ s.chip.nvs.back, b.seq ≠ q)) ∧
    (∃ (s : State) (q : Nat) (sct : Fin 8) (sc : BitVec 8) (b : NvmeBack) (c : NvmeCmd) (i : Item), s.chip.nvs.back = [b] ∧ b.seq = q ∧ tget s.chip.nvs.cmds q = some c ∧ s.chip.item q = some i ∧ i.seq = q ∧ (nvStatus sct sc.toNat ≠ 0 ∨ c.op ≠ 2)) ∧
    (∃ (s : State) (q : Nat) (bs : List (BitVec 8)) (b : NvmeBack) (c : NvmeCmd) (i : Item) (n : NvmeNs) (len : Nat) (x : List Nat), s.chip.nvs.back = [b] ∧ b.seq = q ∧ s.chip.nvs.cmds = [(q, c)] ∧ c.op = 2 ∧ c.started = true ∧ s.chip.item q = some i ∧ i.seq = q ∧ i.fin = none ∧ i.state.ended = false ∧ tget s.chip.nvs.ns c.ns = some n ∧ n.backing ≠ 0 ∧ len = c.count * n.blockBytes ∧ x = (bs.map BitVec.toNat ++ List.replicate len 0).take len ∧ s.chip.prpHost c.fn (prpPieces c.prps len) = true ∧ s.chip.hostStopped c.fn = true) ∧
    (∃ (s : State) (q : Nat) (bs : List (BitVec 8)) (b : NvmeBack) (c : NvmeCmd) (i : Item) (n : NvmeNs) (len : Nat) (x : List Nat), s.chip.nvs.back = [b] ∧ b.seq = q ∧ s.chip.nvs.cmds = [(q, c)] ∧ c.op = 2 ∧ c.started = true ∧ s.chip.item q = some i ∧ i.seq = q ∧ i.fin = none ∧ i.state.ended = false ∧ tget s.chip.nvs.ns c.ns = some n ∧ n.backing ≠ 0 ∧ len = c.count * n.blockBytes ∧ x = (bs.map BitVec.toNat ++ List.replicate len 0).take len ∧ (s.chip.prpHost c.fn (prpPieces c.prps len) = false ∨ s.chip.hostStopped c.fn = false)) ∧
    (∃ (s : State) (q : Nat) (b : NvmeBack), s.chip.nvs.back = [b] ∧ b.seq = q ∧ s.chip.tick + 1 < b.since + s.chip.usTicks (s.chip.rg Reg.NVS_CFG.TARGET_TIMEOUT * 1000)) ∧
    (∃ (s : State) (q : Nat) (b : NvmeBack), s.chip.nvs.back = [b] ∧ b.seq = q ∧ b.since + s.chip.usTicks (s.chip.rg Reg.NVS_CFG.TARGET_TIMEOUT * 1000) ≤ s.chip.tick + 1 ∧ (∀ t, tget s.chip.nvs.targets b.target = some t → t.timeouts.length < 15) ∧ b.resent = false) ∧
    (∃ (s : State) (q : Nat) (b : NvmeBack) (i : Item), s.chip.nvs.back = [b] ∧ b.seq = q ∧ b.since + s.chip.usTicks (s.chip.rg Reg.NVS_CFG.TARGET_TIMEOUT * 1000) ≤ s.chip.tick + 1 ∧ (∀ t, tget s.chip.nvs.targets b.target = some t → t.timeouts.length < 15) ∧ b.resent = true ∧ s.chip.item q = some i ∧ i.seq = q ∧ i.state.ended = false ∧ i.crec ≠ .taken ∧ s.chip.led.lost = false) :=
  ⟨(⟨pool.getD 0 .reset, 1, (0x3 : BitVec 16), (0x2 : BitVec 16), (0x1 : BitVec 32), (0x0 : BitVec 64), [1610612736], { base := 12288, size := 8, prio := 1, cq := 2, head := 2, tail := 3, global := 5, deleting := none }, { base := 2415984640, size := 4, vector := none, head := 2, tail := 0, phase := 0, wait := [] }, 0, { backing := 1, nsid := 1, lbads := 9, target := 4, nsze := 1000, base := 0, attach := 4294967295, raw := [] }, by
      unfold sqReady nvQuiet
      refine @of_decide_eq_true _ (by haveI := @decAllSome; haveI := @decExSome; haveI := @decOk; haveI := @decErr; infer_instance) ?_
      decide +kernel⟩),
   (⟨pool.getD 0 .reset, 1, (0x3 : BitVec 16), (0x2 : BitVec 16), (0x1 : BitVec 32), (0x0 : BitVec 64), [1610612736], { base := 12288, size := 8, prio := 1, cq := 2, head := 2, tail := 3, global := 5, deleting := none }, { base := 2415984640, size := 4, vector := none, head := 2, tail := 0, phase := 0, wait := [] }, 0, { backing := 1, nsid := 1, lbads := 9, target := 4, nsze := 1000, base := 0, attach := 4294967295, raw := [] }, by
      unfold sqReady nvQuiet
      refine @of_decide_eq_true _ (by haveI := @decAllSome; haveI := @decExSome; haveI := @decOk; haveI := @decErr; infer_instance) ?_
      decide +kernel⟩),
   (⟨pool.getD 0 .reset, 1, (0x3 : BitVec 16), (0x2 : BitVec 16), (0x2 : BitVec 32), (0x0 : BitVec 64), [1610612736], { base := 12288, size := 8, prio := 1, cq := 2, head := 2, tail := 3, global := 5, deleting := none }, { base := 2415984640, size := 4, vector := none, head := 2, tail := 0, phase := 0, wait := [] }, 1, { backing := 0, nsid := 2, lbads := 9, target := 0, nsze := 1000, base := 536870912, attach := 4294967295, raw := [] }, 536870912, 1536, by
      unfold sqReady nvQuiet
      refine @of_decide_eq_true _ (by haveI := @decAllSome; haveI := @decExSome; haveI := @decOk; haveI := @decErr; infer_instance) ?_
      decide +kernel⟩),
   (⟨pool.getD 0 .reset, 1, (0x3 : BitVec 16), (0x2 : BitVec 16), (0x2 : BitVec 32), (0x0 : BitVec 64), { base := 12288, size := 8, prio := 1, cq := 2, head := 2, tail := 3, global := 5, deleting := none }, { base := 2415984640, size := 4, vector := none, head := 2, tail := 0, phase := 0, wait := [] }, 1, { backing := 0, nsid := 2, lbads := 9, target := 0, nsze := 1000, base := 536870912, attach := 4294967295, raw := [] }, by
      unfold sqReady nvQuiet
      refine @of_decide_eq_true _ (by haveI := @decAllSome; haveI := @decExSome; haveI := @decOk; haveI := @decErr; infer_instance) ?_
      decide +kernel⟩),
   (⟨pool.getD 0 .reset, 1342181376, by
      refine @of_decide_eq_true _ (by haveI := @decAllSome; haveI := @decExSome; haveI := @decOk; haveI := @decErr; infer_instance) ?_
      decide +kernel⟩),
   (⟨pool.getD 2 .reset, 4, 2, (0x1 : BitVec 8), { seq := 4, target := 4, since := 0, resent := false }, { fn := 1, qid := 3, cid := 7, op := 2, ns := 0, slba := 0, count := 2, prps := [28672], data := [], started := true, got := false, status := none }, { seq := 4, slot := 4, state := ItemState.running, domain := Domain.core 1, tag := 9, owner := 86, replied := false, redo := false, replayed := false, plan := 0, acceptTick := 0, endTick := 0, origin := Origin.nvme 1 3 7, fn := 1, kind := ItemKind.nvme 1 3 7, body := { w0 := (0x0 : BitVec 64), w1 := (0x0 : BitVec 64), w2 := (0x0 : BitVec 64), w3 := (0x0 : BitVec 64), w4 := (0x0 : BitVec 64), w5 := (0x0 : BitVec 64), w6 := (0x0 : BitVec 64), w7 := (0x0 : BitVec 64) }, crec := CommitRec.none, fin := none, redoRec := none, carried := false, single := false, reply := { code := 0, lo := 0, hi := 0 } }, by
      decide +kernel⟩),
   (⟨pool.getD 25 .reset, 4, [], { seq := 4, target := 4, since := 0, resent := false }, { fn := 1, qid := 3, cid := 7, op := 2, ns := 0, slba := 0, count := 2, prps := [28672], data := [], started := true, got := false, status := none }, { seq := 4, slot := 4, state := ItemState.running, domain := Domain.core 1, tag := 9, owner := 86, replied := false, redo := false, replayed := false, plan := 0, acceptTick := 0, endTick := 0, origin := Origin.nvme 1 3 7, fn := 1, kind := ItemKind.nvme 1 3 7, body := { w0 := (0x0 : BitVec 64), w1 := (0x0 : BitVec 64), w2 := (0x0 : BitVec 64), w3 := (0x0 : BitVec 64), w4 := (0x0 : BitVec 64), w5 := (0x0 : BitVec 64), w6 := (0x0 : BitVec 64), w7 := (0x0 : BitVec 64) }, crec := CommitRec.none, fin := none, redoRec := none, carried := false, single := false, reply := { code := 0, lo := 0, hi := 0 } }, { backing := 1, nsid := 1, lbads := 9, target := 4, nsze := 1000, base := 0, attach := 4294967295, raw := [] }, 1024, (List.replicate 1024 0), by
      decide +kernel⟩),
   (⟨pool.getD 2 .reset, 4, [], { seq := 4, target := 4, since := 0, resent := false }, { fn := 1, qid := 3, cid := 7, op := 2, ns := 0, slba := 0, count := 2, prps := [28672], data := [], started := true, got := false, status := none }, { seq := 4, slot := 4, state := ItemState.running, domain := Domain.core 1, tag := 9, owner := 86, replied := false, redo := false, replayed := false, plan := 0, acceptTick := 0, endTick := 0, origin := Origin.nvme 1 3 7, fn := 1, kind := ItemKind.nvme 1 3 7, body := { w0 := (0x0 : BitVec 64), w1 := (0x0 : BitVec 64), w2 := (0x0 : BitVec 64), w3 := (0x0 : BitVec 64), w4 := (0x0 : BitVec 64), w5 := (0x0 : BitVec 64), w6 := (0x0 : BitVec 64), w7 := (0x0 : BitVec 64) }, crec := CommitRec.none, fin := none, redoRec := none, carried := false, single := false, reply := { code := 0, lo := 0, hi := 0 } }, { backing := 1, nsid := 1, lbads := 9, target := 4, nsze := 1000, base := 0, attach := 4294967295, raw := [] }, 1024, (List.replicate 1024 0), by
      decide +kernel⟩),
   (⟨pool.getD 2 .reset, 4, { seq := 4, target := 4, since := 0, resent := false }, by
      decide +kernel⟩),
   (⟨pool.getD 27 .reset, 4, { seq := 4, target := 4, since := 0, resent := false }, by
      refine @of_decide_eq_true _ (by haveI := @decAllSome; haveI := @decExSome; haveI := @decOk; haveI := @decErr; infer_instance) ?_
      decide +kernel⟩),
   (⟨pool.getD 28 .reset, 4, { seq := 4, target := 4, since := 0, resent := true }, { seq := 4, slot := 4, state := ItemState.running, domain := Domain.core 1, tag := 9, owner := 86, replied := false, redo := false, replayed := false, plan := 0, acceptTick := 0, endTick := 0, origin := Origin.nvme 1 3 7, fn := 1, kind := ItemKind.nvme 1 3 7, body := { w0 := (0x0 : BitVec 64), w1 := (0x0 : BitVec 64), w2 := (0x0 : BitVec 64), w3 := (0x0 : BitVec 64), w4 := (0x0 : BitVec 64), w5 := (0x0 : BitVec 64), w6 := (0x0 : BitVec 64), w7 := (0x0 : BitVec 64) }, crec := CommitRec.none, fin := none, redoRec := none, carried := false, single := false, reply := { code := 0, lo := 0, hi := 0 } }, by
      refine @of_decide_eq_true _ (by haveI := @decAllSome; haveI := @decExSome; haveI := @decOk; haveI := @decErr; infer_instance) ?_
      decide +kernel⟩)⟩

theorem test_NvmeConfiguration_witness1 :
    (∃ (s : State) (src : Submit) (a : Nat), s.chip.coreServes (s.chip.roleCore 2) = true ∧ TakenUp s.chip src .nvs false 0 ∧ (RecordBad s.chip a 64 ∨ (RecordClean s.chip a 64 ∧ (s.chip.nsOk (leNat ((s.chip.bytes a 64).take 2)) (nsOfRec (s.chip.bytes a 64)) = false ∨ (tget s.chip.nvs.ns (leNat ((s.chip.bytes a 64).take 2))).isSome = true)))) ∧
    (∃ (s : State) (src : Submit) (a : Nat), s.chip.coreServes (s.chip.roleCore 2) = true ∧ TakenUp s.chip src .nvs false 0 ∧ RecordClean s.chip a 64 ∧ s.chip.nsOk (leNat ((s.chip.bytes a 64).take 2)) (nsOfRec (s.chip.bytes a 64)) = true ∧ tget s.chip.nvs.ns (leNat ((s.chip.bytes a 64).take 2)) = none) ∧
    (∃ (s : State) (src : Submit) (a : Nat), s.chip.coreServes (s.chip.roleCore 2) = true ∧ TakenUp s.chip src .nvs false 0 ∧ (RecordBad s.chip a 512 ∨ (RecordClean s.chip a 512 ∧ (targetOk (s.chip.bytes a 512) = false ∨ (tget s.chip.nvs.targets ((s.chip.bytes a 512).getD 0 0)).isSome = true)))) ∧
    (∃ (s : State) (src : Submit) (a : Nat), s.chip.coreServes (s.chip.roleCore 2) = true ∧ TakenUp s.chip src .nvs false 0 ∧ RecordClean s.chip a 512 ∧ targetOk (s.chip.bytes a 512) = true ∧ tget s.chip.nvs.targets ((s.chip.bytes a 512).getD 0 0) = none) ∧
    (∃ (s : State) (src : Submit) (k : BitVec 16), s.chip.coreServes (s.chip.roleCore 2) = true ∧ TakenUp s.chip src .nvs false 0 ∧ (1024 ≤ k.toNat ∨ tget s.chip.nvs.ns k.toNat = none ∨ (∃ c ∈ s.chip.nvs.cmds, c.2.ns = k.toNat))) ∧
    (∃ (s : State) (src : Submit) (k : BitVec 16), s.chip.coreServes (s.chip.roleCore 2) = true ∧ TakenUp s.chip src .nvs false 0 ∧ k.toNat < 1024 ∧ (tget s.chip.nvs.ns k.toNat).isSome = true ∧ (∀ c ∈ s.chip.nvs.cmds, c.2.ns ≠ k.toNat)) ∧
    (∃ (s : State) (src : Submit) (t : BitVec 8), s.chip.coreServes (s.chip.roleCore 2) = true ∧ TakenUp s.chip src .nvs false 0 ∧ (tget s.chip.nvs.targets t.toNat = none ∨ s.chip.targetState t.toNat = 1 ∨ (∃ n ∈ s.chip.nvs.ns, n.2.backing ≠ 0 ∧ n.2.target = t.toNat))) ∧
    (∃ (s : State) (src : Submit) (t : BitVec 8), s.chip.coreServes (s.chip.roleCore 2) = true ∧ TakenUp s.chip src .nvs false 0 ∧ (tget s.chip.nvs.targets t.toNat).isSome = true ∧ s.chip.targetState t.toNat ≠ 1 ∧ (∀ n ∈ s.chip.nvs.ns, n.2.backing = 0 ∨ n.2.target ≠ t.toNat)) ∧
    (∃ (s : State) (t : BitVec 8), s.chip.targetState t.toNat ≠ 1) ∧
    (∃ (s : State) (t : BitVec 8) (x : NvmeTarget) (i : Item) (r : List Nat), tget s.chip.nvs.targets t.toNat = some x ∧ x.state = 1 ∧ s.chip.led.items = [i] ∧ i.seq = x.seq ∧ i.state.ended = false ∧ s.chip.commits = true ∧ tget s.chip.nvs.recs x.seq = some r ∧ r.getD 0 0 = t.toNat) ∧
    (∃ (s : State) (t : BitVec 8), tget s.chip.nvs.targets t.toNat = none) ∧
    (∃ (s : State) (t : BitVec 8) (x : _), tget s.chip.nvs.targets t.toNat = some x ∧ (x.state ≠ 3 ∨ s.chip.tick < x.tried + 65536)) ∧
    (∃ (s : State) (t : BitVec 8) (x : _), tget s.chip.nvs.targets t.toNat = some x ∧ x.state = 3 ∧ x.tried + 65536 ≤ s.chip.tick) ∧
    (∃ (s : State) (t : BitVec 8), s.chip.targetState t.toNat ≠ 2) :=
  ⟨(⟨pool.getD 0 .reset, { origin := Origin.ring 0, tag := (0x5 : BitVec 32) }, 1342181376, by
      unfold TakenUp RecordClean RecordBad
      refine @of_decide_eq_true _ (by haveI := @decAllSome; haveI := @decExSome; haveI := @decOk; haveI := @decErr; infer_instance) ?_
      decide +kernel⟩),
   (⟨pool.getD 29 .reset, { origin := Origin.ring 0, tag := (0x5 : BitVec 32) }, 4096, by
      unfold TakenUp RecordClean
      refine @of_decide_eq_true _ (by haveI := @decAllSome; haveI := @decExSome; haveI := @decOk; haveI := @decErr; infer_instance) ?_
      decide +kernel⟩),
   (⟨pool.getD 0 .reset, { origin := Origin.ring 0, tag := (0x5 : BitVec 32) }, 1342181376, by
      unfold TakenUp RecordClean RecordBad
      refine @of_decide_eq_true _ (by haveI := @decAllSome; haveI := @decExSome; haveI := @decOk; haveI := @decErr; infer_instance) ?_
      decide +kernel⟩),
   (⟨pool.getD 29 .reset, { origin := Origin.ring 0, tag := (0x5 : BitVec 32) }, 12288, by
      unfold TakenUp RecordClean
      refine @of_decide_eq_true _ (by haveI := @decAllSome; haveI := @decExSome; haveI := @decOk; haveI := @decErr; infer_instance) ?_
      decide +kernel⟩),
   (⟨pool.getD 0 .reset, { origin := Origin.ring 0, tag := (0x5 : BitVec 32) }, (0x3 : BitVec 16), by
      unfold TakenUp
      refine @of_decide_eq_true _ (by haveI := @decAllSome; haveI := @decExSome; haveI := @decOk; haveI := @decErr; infer_instance) ?_
      decide +kernel⟩),
   (⟨pool.getD 0 .reset, { origin := Origin.ring 0, tag := (0x5 : BitVec 32) }, (0x2 : BitVec 16), by
      unfold TakenUp
      refine @of_decide_eq_true _ (by haveI := @decAllSome; haveI := @decExSome; haveI := @decOk; haveI := @decErr; infer_instance) ?_
      decide +kernel⟩),
   (⟨pool.getD 0 .reset, { origin := Origin.ring 0, tag := (0x5 : BitVec 32) }, (0x1 : BitVec 8), by
      unfold TakenUp
      refine @of_decide_eq_true _ (by haveI := @decAllSome; haveI := @decExSome; haveI := @decOk; haveI := @decErr; infer_instance) ?_
      decide +kernel⟩),
   (⟨pool.getD 31 .reset, { origin := Origin.ring 0, tag := (0x5 : BitVec 32) }, (0x3 : BitVec 8), by
      unfold TakenUp
      refine @of_decide_eq_true _ (by haveI := @decAllSome; haveI := @decExSome; haveI := @decOk; haveI := @decErr; infer_instance) ?_
      decide +kernel⟩),
   (⟨pool.getD 0 .reset, (0x1 : BitVec 8), by
      decide +kernel⟩),
   (⟨pool.getD 31 .reset, (0x5 : BitVec 8), { raw := ([5, 1, 1, 1, 16] ++ List.replicate 507 0), state := 1, seq := 6, timeouts := [], tried := 3 }, { seq := 6, slot := 6, state := ItemState.running, domain := Domain.core 1, tag := 9, owner := 66, replied := false, redo := false, replayed := false, plan := 0, acceptTick := 0, endTick := 0, origin := Origin.core 1 7, fn := 257, kind := ItemKind.general 2819, body := { w0 := (0x100000b03 : BitVec 64), w1 := (0x3000 : BitVec 64), w2 := (0x0 : BitVec 64), w3 := (0x0 : BitVec 64), w4 := (0x0 : BitVec 64), w5 := (0x0 : BitVec 64), w6 := (0x0 : BitVec 64), w7 := (0x0 : BitVec 64) }, crec := CommitRec.none, fin := none, redoRec := none, carried := false, single := false, reply := { code := 0, lo := 0, hi := 0 } }, ([5, 1, 1, 1, 16] ++ List.replicate 507 0), by
      decide +kernel⟩),
   (⟨pool.getD 0 .reset, (0x1 : BitVec 8), by
      decide +kernel⟩),
   (⟨pool.getD 0 .reset, (0x4 : BitVec 8), { raw := (List.replicate 512 0), state := 2, seq := 0, timeouts := [], tried := 0 }, by
      decide +kernel⟩),
   (⟨pool.getD 34 .reset, (0x6 : BitVec 8), { raw := [], state := 3, seq := 0, timeouts := [], tried := 3 }, by
      decide +kernel⟩),
   (⟨pool.getD 0 .reset, (0x1 : BitVec 8), by
      decide +kernel⟩)⟩

theorem test_NvmeConfiguration_witness2 :
    (∃ (s : State) (t : BitVec 8), s.chip.targetState t.toNat = 2) :=
  (⟨pool.getD 0 .reset, (0x4 : BitVec 8), by
      decide +kernel⟩)

end Sys2Proof.Tests.C15
end

