-- ==== Sys2Proof/Tests/C16.lean ====
section
/-! SUPPORT. States and operands that meet the hypotheses of the statements of chapter 16, clause by clause. -/
set_option Elab.async false
set_option maxRecDepth 100000
namespace Sys2Proof.Tests.C16
open Sys2Proof Sys2Proof.Machine Sys2Proof.Tests

def kup : Chip := hand up
def pl4 : Plan := ⟨3, 0, .active, ⟨4, false, 16, 1, 1, 256, 0, 0, 0, 0, 0, 0, 0, 0, 0, 192, 0, 0xFFFF, List.replicate 12 0, List.replicate 12 0⟩, 0x100000, [3], 0, 0, 0, false, 0⟩
def recJ (j rank nodes ns blocks capb capp batch rl nr logical : Nat) : List Nat :=
  [j, 0, 0, 0] ++ leBytes 2 rank ++ leBytes 2 nodes ++ leBytes 8 0x55 ++ leBytes 2 6 ++ leBytes 2 3 ++ leBytes 2 ns ++ leBytes 2 2 ++ leBytes 8 1000 ++ leBytes 8 blocks ++ leBytes 8 77 ++
  leBytes 8 capb ++ leBytes 4 capp ++ leBytes 4 batch ++ leBytes 8 0 ++ leBytes 4 0 ++ [1, 1, 0, 0] ++ leBytes 8 rl ++ leBytes 2 nr ++ List.replicate 6 0 ++ leBytes 8 logical ++ List.replicate 24 0
def rge (a p l : Nat) : List Nat := leBytes 8 a ++ leBytes 4 p ++ leBytes 4 0 ++ leBytes 8 l ++ leBytes 8 0
def nsr (b : Nat) : NvmeNs := ⟨b, 1, 12, 4, 100000, 0, 1, []⟩
def PG : Nat := 0x300_0000_0000
def env (d : Chip) : Chip :=
  let d := putBytes (putBytes (putBytes (putBytes d 0x1000 (recJ 5 1 4 0 8192 0x18_0000_0000 2048 1024 0x2000 1 100)) 0x1100 (recJ 5 1 4 0 8192 0x18_0000_0000 2048 1024 0x2020 1 100)) 0x1200 (recJ 5 4 4 0 8192 0x18_0000_0000 2048 1024 0x2000 1 100)) 0x1300 (recJ 2 1 4 0 8192 0x18_0000_0000 2048 1024 0x2000 1 100)
  let d := putBytes d 0x2000 (rge PG 2 0 ++ rge (PG + 0x50000) 2 0)
  { d with
    ldr := { plans := [pl4] }
    coll := { d.coll with groups := [(6, ({ w0 := BitVec.ofNat 64 (6 * 65536 + 4 * 2^32 + 1 * 2^48) } : Desc))] }
    nvs := { d.nvs with ns := [(0, nsr 1)], targets := [] }
    mu := { d.mu with pt := [(0, ⟨0x5000, .valid, 0, false, false, false, 0⟩), (1, ⟨0x5001, .valid, 0, false, false, false, 0⟩), (10, ⟨0x500A, .valid, 0, false, false, false, 0⟩), (11, ⟨0x500B, .valid, 0, false, true, false, 0⟩), (12, ⟨0x500C, .valid, 0, false, true, true, 0⟩), (13, ⟨0x500D, .valid, 0, false, false, true, 0⟩)] } }
def rn : CkpRun := { seq := 8, step := 3, full := false }
def jb (j rank capp batch : Nat) (run : Option CkpRun) (ss : Option (Nat × Nat) := none) : CkpJob :=
  { raw := recJ j rank 4 0 8192 0x18_0000_0000 capp batch 0x2000 1 100, ranges := [⟨PG + 0xA0000, 4, 7⟩, ⟨PG + 0x140000, 1, 60⟩], run := run, stepSeq := ss, lastStep := 3, nowFull := true }
def itC (j : Nat) (c : Bool := false) : Item := { item0 8 (.checkpoint j) (if c then .taken else .none) with owner := 0x57, domain := .job j }
def wj (d : Chip) (x : CkpJob) (c : Bool := false) (cr : Nat := 0) : Chip :=
  let d := env d
  let d := if x.run.isSome then withItems d [itC 1 c] else d
  let d := (((d.sr (Reg.CKP_JOB_STATE.STATE 1) (if x.run.isSome then 2 else 1)).sr (Reg.CKP_JOB_STATE.STATE 2) 1).sr (Reg.CKP_JOB_STEP.STEP 1) 5).sr (Reg.CKP_JOB_CURSOR.PAGE 1) cr
  { d with ckp := { d.ckp with jobs := [(1, x), (2, jb 2 1 2 1 none)] } }
def ms : List Chip := [{}, kup, env kup, env (noise kup), wj kup (jb 1 0 2 1 none), wj (noise kup) (jb 1 0 2 1 (some rn)), wj kup (jb 1 0 2 1 (some rn)) true, wj kup (jb 1 1 2 1 (some rn)), wj kup (jb 1 0 2 1 none (some (3, 9))), { wj (noise kup) (jb 1 0 2 1 (some rn)) with led := { (wj (noise kup) (jb 1 0 2 1 (some rn))).led with lost := true } }]
def cp (b : Option Nat) (w : Option Nat := none) (p : Bool := false) : CkpCap := { slot := some 0, logical := 9, poison := p, batch := b, writer := w, hash := List.replicate 32 7 }
def at_ (cr : Nat) (x : CkpJob) : Chip := wj kup x false cr
def runs : List CkpRun := [rn, { rn with full := true }, { rn with caps := [cp none] }, { rn with caps := [cp none, cp none], full := true }]
def ms_1 : List Chip := [{}, kup, env kup] ++ runs.flatMap (fun r => [0,1,2,3].map (fun k => at_ k (jb 1 0 (if r.caps.length = 2 then 1 else 2) 1 (some r))))
def runs2 : List CkpRun := [{ rn with walked := true }, { rn with caps := [cp (some 0)], batches := [{}] }, { rn with asking := true },
  { rn with walked := true, caps := [cp (some 0)], batches := [{ answered := true }] }, { rn with caps := [cp (some 0) (some 2)], batches := [{ answered := true }] }, { rn with caps := [cp (some 0) (some 1) true], batches := [{ }] },
  { rn with caps := [], walked := true, batches := [{ answered := true, done := true }] }, { rn with caps := [], walked := true, segment := some (3, 3, 3, []) }, { rn with segment := some (3, 3, 3, []), root := some (3, 3, [6,7]), lost := [2] }]
def ms2 : List Chip := runs2.flatMap (fun r => [wj kup (jb 1 0 2 1 (some r)), wj (noise kup) (jb 1 1 2 1 (some r)), wj {} (jb 1 1 2 1 (some r))])
def alls := ms_1 ++ ms2
def ms_2 : List Chip := [{}, kup, env kup] ++ runs.flatMap (fun r => [0,1,2,3].map (fun k => at_ k (jb 1 0 (if r.caps.length = 2 then 1 else 2) 1 (some r))))
def alls_2 := ms_2 ++ ms2
def ms_3 : List Chip := [{}, kup, env kup] ++ runs.flatMap (fun r => [0,1,2,3].map (fun k => at_ k (jb 1 0 (if r.caps.length = 2 then 1 else 2) 1 (some r))))
def alls_3 := ms_3 ++ ms2
def ms_4 : List Chip := [{}, kup, env kup] ++ runs.flatMap (fun r => [0,1,2,3].map (fun k => at_ k (jb 1 0 (if r.caps.length = 2 then 1 else 2) 1 (some r))))
def alls_4 := ms_4 ++ ms2
def ms_5 : List Chip := [{}, kup, env kup] ++ runs.flatMap (fun r => [0,1,2,3].map (fun k => at_ k (jb 1 0 (if r.caps.length = 2 then 1 else 2) 1 (some r))))
def alls_5 := ms_5 ++ ms2
def ms_6 : List Chip := [{}, kup, env kup] ++ runs.flatMap (fun r => [0,1,2,3].map (fun k => at_ k (jb 1 0 (if r.caps.length = 2 then 1 else 2) 1 (some r))))
def alls_6 := ms_6 ++ ms2
def ms_7 : List Chip := [{}, kup, env kup] ++ runs.flatMap (fun r => [0,1,2,3].map (fun k => at_ k (jb 1 0 (if r.caps.length = 2 then 1 else 2) 1 (some r))))
def alls_7 := ms_7 ++ ms2
def ms_8 : List Chip := [{}, kup, env kup] ++ runs.flatMap (fun r => [0,1,2,3].map (fun k => at_ k (jb 1 0 (if r.caps.length = 2 then 1 else 2) 1 (some r))))
def alls_8 := ms_8 ++ ms2
def wk2 (d : Chip) : Chip := (d.sr (Reg.SEC_CTX_CFG.ROOT_SLOT 0) 3).setKslot 3 { uses := 32, key := List.range 32 }
def ms_9 : List Chip := [{}, kup, env kup] ++ runs.flatMap (fun r => [0,1,2,3].map (fun k => at_ k (jb 1 0 (if r.caps.length = 2 then 1 else 2) 1 (some r))))
def alls_9 := ms_9 ++ ms2
def runs3 : List CkpRun := [{ rn with full := true, credit := 100 }, { rn with walked := true, caps := [cp none] }, { rn with walked := true, caps := [cp none none true] }, { rn with caps := [cp (some 0) (some 0)], batches := [{}] },
  { rn with caps := [cp (some 0) (some 2)], batches := [{}] }, { rn with caps := [], walked := true, batches := [{ answered := true, done := true }] }, { rn with caps := [], walked := true, segment := some (3, 3, 3, []) }]
def more : List Chip := runs3.flatMap (fun r => [wk2 (at_ 1 (jb 1 0 2 1 (some r))), (wk2 (at_ 1 (jb 1 0 2 1 (some r)))).sr (Reg.CKP_LOG_HEAD.BLOCK 1) 8191])
def pool : List State := (ms.map st) ++ (alls.map st) ++ (alls_2.map st) ++ (alls_3.map st) ++ (alls_4.map st) ++ (alls_5.map st) ++ (alls_6.map st) ++ (alls_7.map st) ++ ((alls_8.map (fun d => st (wk2 d)))) ++ ((alls_9.map (fun d => st (wk2 d)))) ++ more.map st

theorem leBytes_lt (n : Nat) : ∀ x, ∀ b ∈ leBytes n x, b < 256 := by
  induction n with
  | zero => intro x b h; cases h
  | succ n ih =>
    intro x b h
    rcases List.mem_cons.mp h with h | h
    · omega
    · exact ih _ _ h

theorem sha256_lt (m : List Nat) : ∀ b ∈ sha256 m, b < 256 := by
  intro b h
  obtain ⟨w, _, hb⟩ := List.mem_flatMap.mp h
  exact leBytes_lt _ _ _ (List.mem_reverse.mp hb)

theorem keccakSqueeze_lt (k r : Nat) : ∀ a, ∀ b ∈ keccakSqueeze k r a, b < 256 := by
  induction k with
  | zero => intro a b h; cases h
  | succ k ih =>
    intro a b h
    rcases List.mem_append.mp h with h | h
    · obtain ⟨w, _, hb⟩ := List.mem_flatMap.mp (List.mem_of_mem_take h)
      exact leBytes_lt _ _ _ hb
    · exact ih _ _ h

theorem kmac256_lt (key m c : List Nat) (n : Nat) : ∀ b ∈ kmac256 key m c n, b < 256 :=
  fun b h => keccakSqueeze_lt _ _ _ b (List.mem_of_mem_take h)

theorem bytes_back (l : List Nat) (h : ∀ b ∈ l, b < 256) : (l.map (BitVec.ofNat 8)).map BitVec.toNat = l := by
  rw [List.map_map]
  conv => rhs; rw [← List.map_id l]
  exact List.map_congr_left (fun b hb => by simp [Nat.mod_eq_of_lt (h b hb)])

theorem block_at {t : List (Nat × List Nat)} {n : Nat} {b : List Nat} (h : t.find? (fun p => p.1 = n) = some (n, b)) (hl : b.length = 4096) :
    ckpBlock t n = b := by
  simp only [ckpBlock, h, Option.map_some, Option.getD_some]
  exact List.take_left' hl

theorem commit_sym {d : Chip} {x : CkpJob} {key P H M Z : List Nat} {n : Nat} (hP : P.length = 48) (hH : H.length = 32) (hM : M.length = 32)
    (hk : d.derive 0 (ckpLabel 2 x 3 none) = some key) (hm : M = kmac256 key (P ++ H) [] 32)
    (hf : (fieldOf P 0 4, fieldOf P 4 2, fieldOf P 8 8, fieldOf P 16 8, fieldOf P 24 8, fieldOf P 32 8, fieldOf P 40 4) = (0x434F4D54, 1, x.key, 3, 1, 50, n)) :
    d.commitOf x (P ++ (H ++ (M ++ Z))) = some (3, 1, 50, n, H) := by
  have f : ∀ o m, o + m ≤ 48 → fieldOf (P ++ (H ++ (M ++ Z))) o m = fieldOf P o m := by
    intro o m h
    unfold fieldOf
    rw [List.drop_append_of_le_length (by omega), List.take_append_of_le_length (by simp; omega)]
  have h1 : ((P ++ (H ++ (M ++ Z))).drop 48).take 32 = H := by
    rw [List.drop_left' hP, List.take_left' hH]
  have h2 : ((P ++ (H ++ (M ++ Z))).drop 80).take 32 = M := by
    rw [← List.append_assoc, List.drop_left' (by simp; omega), List.take_left' hM]
  have h3 : (P ++ (H ++ (M ++ Z))).take 80 = P ++ H := by
    rw [← List.append_assoc, List.take_left' (by simp; omega)]
  simp only [Prod.mk.injEq] at hf
  obtain ⟨a, b, c, e, g, k, l⟩ := hf
  have f0 := f 0 4 (by decide)
  have f1 := f 4 2 (by decide)
  have f2 := f 8 8 (by decide)
  have f3 := f 16 8 (by decide)
  have f4 := f 24 8 (by decide)
  have f5 := f 32 8 (by decide)
  have f6 := f 40 4 (by decide)
  simp only [Chip.commitOf, f0, f1, f2, f3, f4, f5, f6, h1, h2, h3, hk, a, b, c, e, g, k, l]
  simp [← hm]

/-- The root of step 3: with a base (1) or without (0); `m` is its authentication value. -/
def rootHead (b : Nat) : List Nat := leBytes 8 0x524F4F54 ++ leBytes 8 0 ++ leBytes 8 3 ++ leBytes 8 0 ++ leBytes 4 b ++ leBytes 4 0 ++ leBytes 8 100 ++ leBytes 8 0 ++ leBytes 8 0 ++ List.replicate 32 0
def rootA : List Nat := rootHead 0 ++ [160, 197, 233, 86, 70, 120, 217, 110, 157, 129, 139, 13, 205, 211, 19, 25, 213, 94, 233, 133, 88, 119, 106, 233, 89, 91, 212, 232, 124, 26, 32, 187]  ++ List.replicate 3968 0
def rootB : List Nat := rootHead 1 ++ [4, 52, 124, 31, 49, 180, 101, 120, 81, 234, 142, 216, 208, 142, 250, 234, 78, 220, 39, 138, 175, 21, 224, 151, 123, 110, 184, 178, 129, 44, 113, 111]  ++ List.replicate 3968 0
def keyA : List Nat := [29, 221, 64, 191, 190, 168, 227, 50, 182, 114, 203, 118, 70, 96, 19, 99, 72, 170, 133, 192, 165, 228, 184, 43, 29, 250, 169, 75, 98, 58, 184, 237]
/-- The first 48 bytes of a commit block whose root has n blocks from block 50 on. -/
def commitHead (n : Nat) : List Nat := leBytes 4 0x434F4D54 ++ leBytes 4 1 ++ leBytes 8 0x55 ++ leBytes 8 3 ++ leBytes 8 1 ++ leBytes 8 50 ++ leBytes 8 n
def commitBlock (n : Nat) (root : List Nat) : List Nat :=
  commitHead n ++ (sha256 root ++ (kmac256 keyA (commitHead n ++ sha256 root) [] 32 ++ List.replicate 3984 0))
/-- A store with a commit block that verifies and its root. -/
def store (n : Nat) (root : List Nat) : List (Nat × List Nat) := [(77, commitBlock n root), (50, root)]
def toSt (l : List (Nat × List Nat)) : List (Nat × List (BitVec 8)) := l.map (fun b => (b.1, b.2.map (BitVec.ofNat 8)))

theorem store_back {n : Nat} {root : List Nat} (hc : ∀ b ∈ commitHead n, b < 256) (hr : ∀ b ∈ root, b < 256) :
    store n root = (toSt (store n root)).map (fun b => (b.1, b.2.map BitVec.toNat)) := by
  have h : ∀ b ∈ commitBlock n root, b < 256 := by
    intro b hb
    simp only [commitBlock, List.mem_append] at hb
    rcases hb with hb | hb | hb | hb
    · exact hc b hb
    · exact sha256_lt _ b hb
    · exact kmac256_lt _ _ _ _ b hb
    · exact (List.eq_of_mem_replicate hb) ▸ (by decide)
  simp only [store, toSt, List.map_cons, List.map_nil, bytes_back _ h, bytes_back _ hr]

def xA : CkpJob := jb 1 0 2 1 none
/-- The same job with no range, and with another logical address range. -/
def xN : CkpJob := { xA with ranges := [] }
def xL : CkpJob := { xA with raw := recJ 1 0 4 0 8192 0x18_0000_0000 2 1 0x2000 1 101 }
def stOf (x : CkpJob) : State := st (wk2 (wj kup x))

theorem pick_of {d : Chip} {x : CkpJob} {n : Nat} {root : List Nat} (hs : (sha256 root).length = 32)
    (hm : (kmac256 keyA (commitHead n ++ sha256 root) [] 32).length = 32) (hx : x.commitLba = 77)
    (hk : d.derive 0 (ckpLabel 2 x 3 none) = some keyA)
    (hf : (fieldOf (commitHead n) 0 4, fieldOf (commitHead n) 4 2, fieldOf (commitHead n) 8 8, fieldOf (commitHead n) 16 8, fieldOf (commitHead n) 24 8,
      fieldOf (commitHead n) 32 8, fieldOf (commitHead n) 40 4) = (0x434F4D54, 1, x.key, 3, 1, 50, n))
    (h1 : d.commitOf x (ckpBlock (store n root) 78) = none)
    (hr : ckpBytes (store n root) 50 n = root) : d.commitPick x 0 (store n root) = some (3, 1, 50, n, sha256 root) := by
  have hP : (commitHead n).length = 48 := rfl
  have hb : ckpBlock (store n root) 77 = commitBlock n root :=
    block_at (by simp [store]) (by simp only [commitBlock, List.length_append, hP, hs, hm, List.length_replicate])
  have h0 : d.commitOf x (ckpBlock (store n root) 77) = some (3, 1, 50, n, sha256 root) := by
    rw [hb]; exact commit_sym hP hs hm hk rfl hf
  simp [Chip.commitPick, hx, h0, h1, hr]

theorem chain_none {d : Chip} {x : CkpJob} {t : List (Nat × List Nat)} {root : List Nat} {k : Nat} (h : fieldOf root 32 4 ≠ 0)
    (hb : d.rootOk x (ckpBytes t (fieldOf root 56 8) (rootBlocks (ckpBlock t (fieldOf root 56 8)))) = false) : d.rootChain x t (k + 1) root = none := by
  rw [Chip.rootChain, if_neg h]
  exact if_pos (Or.inr (by simp [hb]))

theorem chain_one {d : Chip} {x : CkpJob} {t : List (Nat × List Nat)} {root : List Nat} {k : Nat} (h : fieldOf root 32 4 = 0) :
    d.rootChain x t (k + 1) root = some [root] := by
  rw [Chip.rootChain, if_pos h]

def errOf {α : Type} (o : Except (Chip × Nat) α) : Chip × Nat := match o with | .error p => p | .ok _ => ({}, 0)
theorem errOf_eq {α : Type} {o : Except (Chip × Nat) α} (h : o.toOption.isNone = true) : o = .error ((errOf o).1, (errOf o).2) := by
  cases o with
  | ok b => cases h
  | error e => rfl

/-- A range below the paged window of a chip that holds no poison and has lost no store is free of poison. -/
theorem quiet_range {d : Chip} {a n : Nat} (ha : a + n ≤ 0x300_0000_0000) (hp : d.mem.poison = []) (hr : d.mu.retired = []) (hb : d.mu.poisonBanks = [])
    (hn : d.rg Reg.MEM_NEAR_STATE.FAILED = 0) (hq : d.rg Reg.MEM_QUARRY_STATE.FAILED = 0) : d.anyPoison a n = false := by
  have hl : ∀ x, d.poisonedAt x = false := by
    intro x
    simp only [Chip.poisonedAt, Chip.lost, Chip.bankPoison, hp, hr, hb, hn, hq, tget, List.contains_nil, bitOf, Nat.zero_div, Bool.and_false, Bool.or_false, Bool.false_or]
    split
    · rfl
    · split
      · rfl
      · split <;> rfl
  refine List.any_eq_false.mpr (fun p hp' => ?_)
  obtain ⟨i, hi, rfl⟩ := List.mem_map.mp hp'
  have hi := List.mem_range.mp hi
  have hg : isPaged (a + i) = false := by simp only [isPaged, Bool.and_eq_false_iff, decide_eq_false_iff_not]; omega
  simp [Chip.xlate, Chip.pagePoisoned, hg, hl]

theorem test_CheckpointCommands_witness1 :
    (∃ (s : State) (src : Submit) (a : Nat), TakenUp s.chip src .ckp false 0 ∧ (RecordBad s.chip a 128 ∨ (RecordClean s.chip a 128 ∧ (s.chip.jobBad (s.chip.bytes a 128) = true ∨ s.chip.inDieOrNear (fieldOf (s.chip.bytes a 128) 80 8) (32 * fieldOf (s.chip.bytes a 128) 88 2) = false ∨ s.chip.anyPoison (fieldOf (s.chip.bytes a 128) 80 8) (32 * fieldOf (s.chip.bytes a 128) 88 2) = true ∨ s.chip.layoutBad (s.chip.rangeList (s.chip.bytes a 128)) (fieldOf (s.chip.bytes a 128) 96 8) = true ∨ (s.chip.job (fieldOf (s.chip.bytes a 128) 0 1)).isSome = true)))) ∧
    (∃ (s : State) (src : Submit) (a : Nat), TakenUp s.chip src .ckp false 0 ∧ RecordClean s.chip a 128 ∧ s.chip.jobBad (s.chip.bytes a 128) = false ∧ s.chip.inDieOrNear (fieldOf (s.chip.bytes a 128) 80 8) (32 * fieldOf (s.chip.bytes a 128) 88 2) = true ∧ (∀ p ∈ s.chip.mu.flips, overlaps (fieldOf (s.chip.bytes a 128) 80 8) (32 * fieldOf (s.chip.bytes a 128) 88 2) p.1 32 = false) ∧ s.chip.anyPoison (fieldOf (s.chip.bytes a 128) 80 8) (32 * fieldOf (s.chip.bytes a 128) 88 2) = false ∧ s.chip.layoutBad (s.chip.rangeList (s.chip.bytes a 128)) (fieldOf (s.chip.bytes a 128) 96 8) = false ∧ s.chip.job (fieldOf (s.chip.bytes a 128) 0 1) = none) :=
  ⟨(⟨pool.getD 1 .reset, { origin := Origin.ring 0, tag := (0x5 : BitVec 32) }, 4096, by
      unfold TakenUp RecordClean RecordBad
      refine @of_decide_eq_true _ (by haveI := @decAllSome; haveI := @decExSome; haveI := @decOk; haveI := @decErr; infer_instance) ?_
      decide +kernel⟩),
   (⟨pool.getD 2 .reset, { origin := Origin.ring 0, tag := (0x5 : BitVec 32) }, 4096, by
      unfold TakenUp RecordClean
      refine @of_decide_eq_true _ (by haveI := @decAllSome; haveI := @decExSome; haveI := @decOk; haveI := @decErr; infer_instance) ?_
      decide +kernel⟩)⟩

theorem test_CheckpointCommands_witness2 :
    (∃ (s : State) (src : Submit) (j : BitVec 8), TakenUp s.chip src .ckp false 0 ∧ (63 < j.toNat ∨ s.chip.rg (Reg.CKP_JOB_STATE.STATE j.toNat) ≠ 1)) ∧
    (∃ (s : State) (src : Submit) (j : BitVec 8), TakenUp s.chip src .ckp false 0 ∧ j.toNat ≤ 63 ∧ s.chip.rg (Reg.CKP_JOB_STATE.STATE j.toNat) = 1) :=
  ⟨(⟨pool.getD 1 .reset, { origin := Origin.ring 0, tag := (0x5 : BitVec 32) }, (0x0 : BitVec 8), by
      unfold TakenUp
      refine @of_decide_eq_true _ (by haveI := @decAllSome; haveI := @decExSome; haveI := @decOk; haveI := @decErr; infer_instance) ?_
      decide +kernel⟩),
   (⟨pool.getD 4 .reset, { origin := Origin.ring 0, tag := (0x5 : BitVec 32) }, (0x1 : BitVec 8), by
      unfold TakenUp
      refine @of_decide_eq_true _ (by haveI := @decAllSome; haveI := @decExSome; haveI := @decOk; haveI := @decErr; infer_instance) ?_
      decide +kernel⟩)⟩

theorem test_CheckpointCommands_witness3 :
    (∃ (s : State) (src : Submit) (j : BitVec 8), TakenUp s.chip src .ckp false 0 ∧ s.chip.job j.toNat = none) ∧
    (∃ (s : State) (src : Submit) (j : BitVec 8) (x : _), TakenUp s.chip src .ckp false 0 ∧ s.chip.job j.toNat = some x ∧ x.stepSeq.isSome = true) :=
  ⟨(⟨pool.getD 1 .reset, { origin := Origin.ring 0, tag := (0x5 : BitVec 32) }, (0x0 : BitVec 8), by
      unfold TakenUp
      refine @of_decide_eq_true _ (by haveI := @decAllSome; haveI := @decExSome; haveI := @decOk; haveI := @decErr; infer_instance) ?_
      decide +kernel⟩),
   (⟨pool.getD 8 .reset, { origin := Origin.ring 0, tag := (0x5 : BitVec 32) }, (0x1 : BitVec 8), { raw := ([1, 0, 0, 0, 0, 0, 4, 0, 85, 0, 0, 0, 0, 0, 0, 0, 6, 0, 3, 0, 0, 0, 2, 0, 232, 3, 0, 0, 0, 0, 0, 0, 0, 32, 0, 0, 0, 0, 0, 0, 77] ++ List.replicate 11 0 ++ [24, 0, 0, 0, 2, 0, 0, 0, 1] ++ List.replicate 15 0 ++ [1, 1, 0, 0, 0, 32, 0, 0, 0, 0, 0, 0, 1, 0, 0, 0, 0, 0, 0, 0, 100] ++ List.replicate 31 0), ranges := [{ addr := 3298535538688, pages := 4, logical := 7 }, { addr := 3298536194048, pages := 1, logical := 60 }], stepSeq := some (3, 9), notice := none, lastStep := 3, lastTick := 0, now := false, nowFull := true, incr := 0, headKept := 0, number := 0, base := none, run := none, restore := none }, by
      unfold TakenUp
      refine @of_decide_eq_true _ (by haveI := @decAllSome; haveI := @decExSome; haveI := @decOk; haveI := @decErr; infer_instance) ?_
      decide +kernel⟩)⟩

theorem test_CheckpointCommands_witness4 :
    (∃ (s : State) (src : Submit) (j : BitVec 8) (n : Word) (x : _), TakenUp s.chip src .ckp false 0 ∧ s.chip.job j.toNat = some x ∧ x.stepSeq = none ∧ n.toNat ≤ s.chip.rg (Reg.CKP_JOB_STEP.STEP j.toNat)) ∧
    (∃ (s : State) (src : Submit) (j : BitVec 8) (n : Word) (x : _), TakenUp s.chip src .ckp false 0 ∧ s.chip.job j.toNat = some x ∧ x.stepSeq = none ∧ s.chip.rg (Reg.CKP_JOB_STEP.STEP j.toNat) < n.toNat) :=
  ⟨(⟨pool.getD 4 .reset, { origin := Origin.ring 0, tag := (0x5 : BitVec 32) }, (0x1 : BitVec 8), (0x0 : BitVec 64), { raw := ([1, 0, 0, 0, 0, 0, 4, 0, 85, 0, 0, 0, 0, 0, 0, 0, 6, 0, 3, 0, 0, 0, 2, 0, 232, 3, 0, 0, 0, 0, 0, 0, 0, 32, 0, 0, 0, 0, 0, 0, 77] ++ List.replicate 11 0 ++ [24, 0, 0, 0, 2, 0, 0, 0, 1] ++ List.replicate 15 0 ++ [1, 1, 0, 0, 0, 32, 0, 0, 0, 0, 0, 0, 1, 0, 0, 0, 0, 0, 0, 0, 100] ++ List.replicate 31 0), ranges := [{ addr := 3298535538688, pages := 4, logical := 7 }, { addr := 3298536194048, pages := 1, logical := 60 }], stepSeq := none, notice := none, lastStep := 3, lastTick := 0, now := false, nowFull := true, incr := 0, headKept := 0, number := 0, base := none, run := none, restore := none }, by
      unfold TakenUp
      refine @of_decide_eq_true _ (by haveI := @decAllSome; haveI := @decExSome; haveI := @decOk; haveI := @decErr; infer_instance) ?_
      decide +kernel⟩),
   (⟨pool.getD 4 .reset, { origin := Origin.ring 0, tag := (0x5 : BitVec 32) }, (0x1 : BitVec 8), (0x9 : BitVec 64), { raw := ([1, 0, 0, 0, 0, 0, 4, 0, 85, 0, 0, 0, 0, 0, 0, 0, 6, 0, 3, 0, 0, 0, 2, 0, 232, 3, 0, 0, 0, 0, 0, 0, 0, 32, 0, 0, 0, 0, 0, 0, 77] ++ List.replicate 11 0 ++ [24, 0, 0, 0, 2, 0, 0, 0, 1] ++ List.replicate 15 0 ++ [1, 1, 0, 0, 0, 32, 0, 0, 0, 0, 0, 0, 1, 0, 0, 0, 0, 0, 0, 0, 100] ++ List.replicate 31 0), ranges := [{ addr := 3298535538688, pages := 4, logical := 7 }, { addr := 3298536194048, pages := 1, logical := 60 }], stepSeq := none, notice := none, lastStep := 3, lastTick := 0, now := false, nowFull := true, incr := 0, headKept := 0, number := 0, base := none, run := none, restore := none }, by
      unfold TakenUp
      refine @of_decide_eq_true _ (by haveI := @decAllSome; haveI := @decExSome; haveI := @decOk; haveI := @decErr; infer_instance) ?_
      decide +kernel⟩)⟩

theorem test_CheckpointCommands_witness5 :
    (∃ (s : State) (src : Submit) (j : BitVec 8) (f : BitVec 8) (x : _), TakenUp s.chip src .ckp false 0 ∧ s.chip.job j.toNat = some x ∧ (1 < f.toNat ∨ x.rank ≠ 0)) ∧
    (∃ (s : State) (src : Submit) (j : BitVec 8) (f : BitVec 8) (x : _), TakenUp s.chip src .ckp false 0 ∧ s.chip.job j.toNat = some x ∧ f.toNat ≤ 1 ∧ x.rank = 0) :=
  ⟨(⟨pool.getD 4 .reset, { origin := Origin.ring 0, tag := (0x5 : BitVec 32) }, (0x1 : BitVec 8), (0x2 : BitVec 8), { raw := ([1, 0, 0, 0, 0, 0, 4, 0, 85, 0, 0, 0, 0, 0, 0, 0, 6, 0, 3, 0, 0, 0, 2, 0, 232, 3, 0, 0, 0, 0, 0, 0, 0, 32, 0, 0, 0, 0, 0, 0, 77] ++ List.replicate 11 0 ++ [24, 0, 0, 0, 2, 0, 0, 0, 1] ++ List.replicate 15 0 ++ [1, 1, 0, 0, 0, 32, 0, 0, 0, 0, 0, 0, 1, 0, 0, 0, 0, 0, 0, 0, 100] ++ List.replicate 31 0), ranges := [{ addr := 3298535538688, pages := 4, logical := 7 }, { addr := 3298536194048, pages := 1, logical := 60 }], stepSeq := none, notice := none, lastStep := 3, lastTick := 0, now := false, nowFull := true, incr := 0, headKept := 0, number := 0, base := none, run := none, restore := none }, by
      unfold TakenUp
      refine @of_decide_eq_true _ (by haveI := @decAllSome; haveI := @decExSome; haveI := @decOk; haveI := @decErr; infer_instance) ?_
      decide +kernel⟩),
   (⟨pool.getD 4 .reset, { origin := Origin.ring 0, tag := (0x5 : BitVec 32) }, (0x1 : BitVec 8), (0x0 : BitVec 8), { raw := ([1, 0, 0, 0, 0, 0, 4, 0, 85, 0, 0, 0, 0, 0, 0, 0, 6, 0, 3, 0, 0, 0, 2, 0, 232, 3, 0, 0, 0, 0, 0, 0, 0, 32, 0, 0, 0, 0, 0, 0, 77] ++ List.replicate 11 0 ++ [24, 0, 0, 0, 2, 0, 0, 0, 1] ++ List.replicate 15 0 ++ [1, 1, 0, 0, 0, 32, 0, 0, 0, 0, 0, 0, 1, 0, 0, 0, 0, 0, 0, 0, 100] ++ List.replicate 31 0), ranges := [{ addr := 3298535538688, pages := 4, logical := 7 }, { addr := 3298536194048, pages := 1, logical := 60 }], stepSeq := none, notice := none, lastStep := 3, lastTick := 0, now := false, nowFull := true, incr := 0, headKept := 0, number := 0, base := none, run := none, restore := none }, by
      unfold TakenUp
      refine @of_decide_eq_true _ (by haveI := @decAllSome; haveI := @decExSome; haveI := @decOk; haveI := @decErr; infer_instance) ?_
      decide +kernel⟩)⟩

theorem test_CheckpointCommands_witness6 :
    (∃ (s : State) (src : Submit) (j : BitVec 8) (x : _), TakenUp s.chip src .ckp false 0 ∧ s.chip.job j.toNat = some x ∧ s.chip.rg (Reg.CKP_JOB_STATE.STATE j.toNat) ≠ 1) ∧
    (∃ (s : State) (src : Submit) (j : BitVec 8) (x : _), TakenUp s.chip src .ckp false 0 ∧ s.chip.job j.toNat = some x ∧ s.chip.rg (Reg.CKP_JOB_STATE.STATE j.toNat) = 1 ∧ s.chip.led.items = [] ∧ s.chip.led.lost = false) :=
  ⟨(⟨pool.getD 5 .reset, { origin := Origin.ring 0, tag := (0x5 : BitVec 32) }, (0x1 : BitVec 8), { raw := ([1, 0, 0, 0, 0, 0, 4, 0, 85, 0, 0, 0, 0, 0, 0, 0, 6, 0, 3, 0, 0, 0, 2, 0, 232, 3, 0, 0, 0, 0, 0, 0, 0, 32, 0, 0, 0, 0, 0, 0, 77] ++ List.replicate 11 0 ++ [24, 0, 0, 0, 2, 0, 0, 0, 1] ++ List.replicate 15 0 ++ [1, 1, 0, 0, 0, 32, 0, 0, 0, 0, 0, 0, 1, 0, 0, 0, 0, 0, 0, 0, 100] ++ List.replicate 31 0), ranges := [{ addr := 3298535538688, pages := 4, logical := 7 }, { addr := 3298536194048, pages := 1, logical := 60 }], stepSeq := none, notice := none, lastStep := 3, lastTick := 0, now := false, nowFull := true, incr := 0, headKept := 0, number := 0, base := none, run := some { seq := 8, step := 3, full := false, lost := [], caps := [], batches := [], walked := false, segment := none, root := none, wrote := 0, asking := false, poison := false, credit := 0 }, restore := none }, by
      unfold TakenUp
      refine @of_decide_eq_true _ (by haveI := @decAllSome; haveI := @decExSome; haveI := @decOk; haveI := @decErr; infer_instance) ?_
      decide +kernel⟩),
   (⟨pool.getD 4 .reset, { origin := Origin.ring 0, tag := (0x5 : BitVec 32) }, (0x1 : BitVec 8), { raw := ([1, 0, 0, 0, 0, 0, 4, 0, 85, 0, 0, 0, 0, 0, 0, 0, 6, 0, 3, 0, 0, 0, 2, 0, 232, 3, 0, 0, 0, 0, 0, 0, 0, 32, 0, 0, 0, 0, 0, 0, 77] ++ List.replicate 11 0 ++ [24, 0, 0, 0, 2, 0, 0, 0, 1] ++ List.replicate 15 0 ++ [1, 1, 0, 0, 0, 32, 0, 0, 0, 0, 0, 0, 1, 0, 0, 0, 0, 0, 0, 0, 100] ++ List.replicate 31 0), ranges := [{ addr := 3298535538688, pages := 4, logical := 7 }, { addr := 3298536194048, pages := 1, logical := 60 }], stepSeq := none, notice := none, lastStep := 3, lastTick := 0, now := false, nowFull := true, incr := 0, headKept := 0, number := 0, base := none, run := none, restore := none }, by
      unfold TakenUp
      refine @of_decide_eq_true _ (by haveI := @decAllSome; haveI := @decExSome; haveI := @decOk; haveI := @decErr; infer_instance) ?_
      decide +kernel⟩)⟩

theorem test_CheckpointCommands_witness7 :
    (∃ (s : State) (src : Submit) (j : BitVec 8) (n : Word) (st : List (Nat × List (BitVec 8))) (x : _) (t : List (Nat × List Nat)) (q : Nat), TakenUp s.chip src .ckp false 0 ∧ s.chip.job j.toNat = some x ∧ s.chip.rg (Reg.CKP_JOB_STATE.STATE j.toNat) = 1 ∧ q = s.chip.led.nextSeq ∧ t = st.map (fun b => (b.1, b.2.map BitVec.toNat)) ∧ (((((s.chip.dropHand src.origin).ckpAccept src 0x0C05 [j.toNat, n.toNat]).1.setJob j.toNat { x with restore := some q }).sr (Reg.CKP_JOB_STATE.STATE j.toNat) 3).updItem q (fun i => { i with state := .running })).commitPick x n.toNat t = none) ∧
    (∃ (s : State) (src : Submit) (j : BitVec 8) (n : Word) (st : List (Nat × List (BitVec 8))) (x : _) (t : List (Nat × List Nat)) (q : Nat) (c : _), TakenUp s.chip src .ckp false 0 ∧ s.chip.job j.toNat = some x ∧ s.chip.rg (Reg.CKP_JOB_STATE.STATE j.toNat) = 1 ∧ q = s.chip.led.nextSeq ∧ t = st.map (fun b => (b.1, b.2.map BitVec.toNat)) ∧ (((((s.chip.dropHand src.origin).ckpAccept src 0x0C05 [j.toNat, n.toNat]).1.setJob j.toNat { x with restore := some q }).sr (Reg.CKP_JOB_STATE.STATE j.toNat) 3).updItem q (fun i => { i with state := .running })).commitPick x n.toNat t = some c ∧ (((((s.chip.dropHand src.origin).ckpAccept src 0x0C05 [j.toNat, n.toNat]).1.setJob j.toNat { x with restore := some q }).sr (Reg.CKP_JOB_STATE.STATE j.toNat) 3).updItem q (fun i => { i with state := .running })).rootOk x (ckpBytes t c.2.2.1 c.2.2.2.1) = false) :=
  ⟨(⟨pool.getD 4 .reset, { origin := Origin.ring 0, tag := (0x5 : BitVec 32) }, (0x1 : BitVec 8), (0x0 : BitVec 64), [], { raw := ([1, 0, 0, 0, 0, 0, 4, 0, 85, 0, 0, 0, 0, 0, 0, 0, 6, 0, 3, 0, 0, 0, 2, 0, 232, 3, 0, 0, 0, 0, 0, 0, 0, 32, 0, 0, 0, 0, 0, 0, 77] ++ List.replicate 11 0 ++ [24, 0, 0, 0, 2, 0, 0, 0, 1] ++ List.replicate 15 0 ++ [1, 1, 0, 0, 0, 32, 0, 0, 0, 0, 0, 0, 1, 0, 0, 0, 0, 0, 0, 0, 100] ++ List.replicate 31 0), ranges := [{ addr := 3298535538688, pages := 4, logical := 7 }, { addr := 3298536194048, pages := 1, logical := 60 }], stepSeq := none, notice := none, lastStep := 3, lastTick := 0, now := false, nowFull := true, incr := 0, headKept := 0, number := 0, base := none, run := none, restore := none }, [], 1, by
      unfold TakenUp
      refine @of_decide_eq_true _ (by haveI := @decAllSome; haveI := @decExSome; haveI := @decOk; haveI := @decErr; infer_instance) ?_
      decide +kernel⟩),
   (⟨stOf xA, ⟨.ring 0, 5⟩, 1, 0, toSt (store 0 []), xA, (store 0 []), State.chip (stOf xA) |>.led.nextSeq, (3, 1, 50, 0, sha256 []), by unfold TakenUp; refine @of_decide_eq_true _ (by haveI := @decAllSome; haveI := @decExSome; haveI := @decOk; haveI := @decErr; infer_instance) ?_; decide +kernel, by decide +kernel, by decide +kernel, rfl, store_back (by decide +kernel) (by decide +kernel), pick_of (by decide +kernel) (by decide +kernel) (by decide +kernel) (by decide +kernel) (by decide +kernel) (by decide +kernel) (by decide +kernel), by decide +kernel⟩)⟩

theorem test_CheckpointCommands_witness8 :
    (∃ (s : State) (src : Submit) (j : BitVec 8) (n : Word) (st : List (Nat × List (BitVec 8))) (x : _) (t : List (Nat × List Nat)) (q : Nat) (c : _), TakenUp s.chip src .ckp false 0 ∧ s.chip.job j.toNat = some x ∧ s.chip.rg (Reg.CKP_JOB_STATE.STATE j.toNat) = 1 ∧ q = s.chip.led.nextSeq ∧ t = st.map (fun b => (b.1, b.2.map BitVec.toNat)) ∧ (((((s.chip.dropHand src.origin).ckpAccept src 0x0C05 [j.toNat, n.toNat]).1.setJob j.toNat { x with restore := some q }).sr (Reg.CKP_JOB_STATE.STATE j.toNat) 3).updItem q (fun i => { i with state := .running })).commitPick x n.toNat t = some c ∧ (((((s.chip.dropHand src.origin).ckpAccept src 0x0C05 [j.toNat, n.toNat]).1.setJob j.toNat { x with restore := some q }).sr (Reg.CKP_JOB_STATE.STATE j.toNat) 3).updItem q (fun i => { i with state := .running })).rootOk x (ckpBytes t c.2.2.1 c.2.2.2.1) = true ∧ fieldOf (ckpBytes t c.2.2.1 c.2.2.2.1) 40 8 ≠ x.logical) ∧
    (∃ (s : State) (src : Submit) (j : BitVec 8) (n : Word) (st : List (Nat × List (BitVec 8))) (x : _) (t : List (Nat × List Nat)) (q : Nat) (c : _), TakenUp s.chip src .ckp false 0 ∧ s.chip.job j.toNat = some x ∧ s.chip.rg (Reg.CKP_JOB_STATE.STATE j.toNat) = 1 ∧ q = s.chip.led.nextSeq ∧ t = st.map (fun b => (b.1, b.2.map BitVec.toNat)) ∧ (((((s.chip.dropHand src.origin).ckpAccept src 0x0C05 [j.toNat, n.toNat]).1.setJob j.toNat { x with restore := some q }).sr (Reg.CKP_JOB_STATE.STATE j.toNat) 3).updItem q (fun i => { i with state := .running })).commitPick x n.toNat t = some c ∧ (((((s.chip.dropHand src.origin).ckpAccept src 0x0C05 [j.toNat, n.toNat]).1.setJob j.toNat { x with restore := some q }).sr (Reg.CKP_JOB_STATE.STATE j.toNat) 3).updItem q (fun i => { i with state := .running })).rootOk x (ckpBytes t c.2.2.1 c.2.2.2.1) = true ∧ fieldOf (ckpBytes t c.2.2.1 c.2.2.2.1) 40 8 = x.logical ∧ (((((s.chip.dropHand src.origin).ckpAccept src 0x0C05 [j.toNat, n.toNat]).1.setJob j.toNat { x with restore := some q }).sr (Reg.CKP_JOB_STATE.STATE j.toNat) 3).updItem q (fun i => { i with state := .running })).rootChain x t 65 (ckpBytes t c.2.2.1 c.2.2.2.1) = none) :=
  ⟨(⟨stOf xL, ⟨.ring 0, 5⟩, 1, 0, toSt (store 1 rootA), xL, (store 1 rootA), State.chip (stOf xL) |>.led.nextSeq, (3, 1, 50, 1, sha256 rootA), by unfold TakenUp; refine @of_decide_eq_true _ (by haveI := @decAllSome; haveI := @decExSome; haveI := @decOk; haveI := @decErr; infer_instance) ?_; decide +kernel, by decide +kernel, by decide +kernel, rfl, store_back (by decide +kernel) (by decide +kernel), pick_of (by decide +kernel) (by decide +kernel) (by decide +kernel) (by decide +kernel) (by decide +kernel) (by decide +kernel) (by decide +kernel), by decide +kernel, by decide +kernel⟩),
   (⟨stOf xA, ⟨.ring 0, 5⟩, 1, 0, toSt (store 1 rootB), xA, (store 1 rootB), State.chip (stOf xA) |>.led.nextSeq, (3, 1, 50, 1, sha256 rootB), by unfold TakenUp; refine @of_decide_eq_true _ (by haveI := @decAllSome; haveI := @decExSome; haveI := @decOk; haveI := @decErr; infer_instance) ?_; decide +kernel, by decide +kernel, by decide +kernel, rfl, store_back (by decide +kernel) (by decide +kernel), pick_of (by decide +kernel) (by decide +kernel) (by decide +kernel) (by decide +kernel) (by decide +kernel) (by decide +kernel) (by decide +kernel), by decide +kernel, by decide +kernel, chain_none (k := 64) (by decide +kernel) (by decide +kernel)⟩)⟩

theorem test_CheckpointCommands_witness9 :
    (∃ (s : State) (src : Submit) (j : BitVec 8) (n : Word) (st : List (Nat × List (BitVec 8))) (x : _) (t : List (Nat × List Nat)) (q : Nat) (c : _) (chain : _) (e' : _) (code : _), TakenUp s.chip src .ckp false 0 ∧ s.chip.job j.toNat = some x ∧ s.chip.rg (Reg.CKP_JOB_STATE.STATE j.toNat) = 1 ∧ q = s.chip.led.nextSeq ∧ t = st.map (fun b => (b.1, b.2.map BitVec.toNat)) ∧ (((((s.chip.dropHand src.origin).ckpAccept src 0x0C05 [j.toNat, n.toNat]).1.setJob j.toNat { x with restore := some q }).sr (Reg.CKP_JOB_STATE.STATE j.toNat) 3).updItem q (fun i => { i with state := .running })).commitPick x n.toNat t = some c ∧ (((((s.chip.dropHand src.origin).ckpAccept src 0x0C05 [j.toNat, n.toNat]).1.setJob j.toNat { x with restore := some q }).sr (Reg.CKP_JOB_STATE.STATE j.toNat) 3).updItem q (fun i => { i with state := .running })).rootOk x (ckpBytes t c.2.2.1 c.2.2.2.1) = true ∧ fieldOf (ckpBytes t c.2.2.1 c.2.2.2.1) 40 8 = x.logical ∧ (((((s.chip.dropHand src.origin).ckpAccept src 0x0C05 [j.toNat, n.toNat]).1.setJob j.toNat { x with restore := some q }).sr (Reg.CKP_JOB_STATE.STATE j.toNat) 3).updItem q (fun i => { i with state := .running })).rootChain x t 65 (ckpBytes t c.2.2.1 c.2.2.2.1) = some chain ∧ (((((s.chip.dropHand src.origin).ckpAccept src 0x0C05 [j.toNat, n.toNat]).1.setJob j.toNat { x with restore := some q }).sr (Reg.CKP_JOB_STATE.STATE j.toNat) 3).updItem q (fun i => { i with state := .running })).restorePages x t (chain.map (rootEntries t)) x.pages false = .error (e', code)) ∧
    (∃ (s : State) (src : Submit) (j : BitVec 8) (n : Word) (st : List (Nat × List (BitVec 8))) (x : _) (t : List (Nat × List Nat)) (q : Nat) (c : _) (chain : _) (e' : _) (bad : _), TakenUp s.chip src .ckp false 0 ∧ s.chip.job j.toNat = some x ∧ s.chip.rg (Reg.CKP_JOB_STATE.STATE j.toNat) = 1 ∧ q = s.chip.led.nextSeq ∧ t = st.map (fun b => (b.1, b.2.map BitVec.toNat)) ∧ (((((s.chip.dropHand src.origin).ckpAccept src 0x0C05 [j.toNat, n.toNat]).1.setJob j.toNat { x with restore := some q }).sr (Reg.CKP_JOB_STATE.STATE j.toNat) 3).updItem q (fun i => { i with state := .running })).commitPick x n.toNat t = some c ∧ (((((s.chip.dropHand src.origin).ckpAccept src 0x0C05 [j.toNat, n.toNat]).1.setJob j.toNat { x with restore := some q }).sr (Reg.CKP_JOB_STATE.STATE j.toNat) 3).updItem q (fun i => { i with state := .running })).rootOk x (ckpBytes t c.2.2.1 c.2.2.2.1) = true ∧ fieldOf (ckpBytes t c.2.2.1 c.2.2.2.1) 40 8 = x.logical ∧ (((((s.chip.dropHand src.origin).ckpAccept src 0x0C05 [j.toNat, n.toNat]).1.setJob j.toNat { x with restore := some q }).sr (Reg.CKP_JOB_STATE.STATE j.toNat) 3).updItem q (fun i => { i with state := .running })).rootChain x t 65 (ckpBytes t c.2.2.1 c.2.2.2.1) = some chain ∧ (((((s.chip.dropHand src.origin).ckpAccept src 0x0C05 [j.toNat, n.toNat]).1.setJob j.toNat { x with restore := some q }).sr (Reg.CKP_JOB_STATE.STATE j.toNat) 3).updItem q (fun i => { i with state := .running })).restorePages x t (chain.map (rootEntries t)) x.pages false = .ok (e', bad)) :=
  ⟨(⟨stOf xA, ⟨.ring 0, 5⟩, 1, 0, toSt (store 1 rootA), xA, (store 1 rootA), State.chip (stOf xA) |>.led.nextSeq, (3, 1, 50, 1, sha256 rootA), [ckpBytes (store 1 rootA) 50 1], (errOf (((((((stOf xA).chip.dropHand ((⟨.ring 0, 5⟩ : Submit)).origin).ckpAccept ((⟨.ring 0, 5⟩ : Submit)) 0x0C05 [((1 : BitVec 8)).toNat, ((0 : Word)).toNat]).1.setJob ((1 : BitVec 8)).toNat { (xA) with restore := some (State.chip (stOf xA) |>.led.nextSeq) }).sr (Reg.CKP_JOB_STATE.STATE ((1 : BitVec 8)).toNat) 3).updItem (State.chip (stOf xA) |>.led.nextSeq) (fun i => { i with state := .running })).restorePages (xA) ((store 1 rootA)) (([ckpBytes (store 1 rootA) 50 1]).map (rootEntries ((store 1 rootA)))) (xA).pages false)).1, (errOf (((((((stOf xA).chip.dropHand ((⟨.ring 0, 5⟩ : Submit)).origin).ckpAccept ((⟨.ring 0, 5⟩ : Submit)) 0x0C05 [((1 : BitVec 8)).toNat, ((0 : Word)).toNat]).1.setJob ((1 : BitVec 8)).toNat { (xA) with restore := some (State.chip (stOf xA) |>.led.nextSeq) }).sr (Reg.CKP_JOB_STATE.STATE ((1 : BitVec 8)).toNat) 3).updItem (State.chip (stOf xA) |>.led.nextSeq) (fun i => { i with state := .running })).restorePages (xA) ((store 1 rootA)) (([ckpBytes (store 1 rootA) 50 1]).map (rootEntries ((store 1 rootA)))) (xA).pages false)).2, by unfold TakenUp; refine @of_decide_eq_true _ (by haveI := @decAllSome; haveI := @decExSome; haveI := @decOk; haveI := @decErr; infer_instance) ?_; decide +kernel, by decide +kernel, by decide +kernel, rfl, store_back (by decide +kernel) (by decide +kernel), pick_of (by decide +kernel) (by decide +kernel) (by decide +kernel) (by decide +kernel) (by decide +kernel) (by decide +kernel) (by decide +kernel), by decide +kernel, by decide +kernel, chain_one (k := 64) (by decide +kernel), errOf_eq (by decide +kernel)⟩),
   (⟨stOf xN, ⟨.ring 0, 5⟩, 1, 0, toSt (store 1 rootA), xN, (store 1 rootA), State.chip (stOf xN) |>.led.nextSeq, (3, 1, 50, 1, sha256 rootA), [ckpBytes (store 1 rootA) 50 1], ((((((((stOf xN).chip.dropHand ((⟨.ring 0, 5⟩ : Submit)).origin).ckpAccept ((⟨.ring 0, 5⟩ : Submit)) 0x0C05 [((1 : BitVec 8)).toNat, ((0 : Word)).toNat]).1.setJob ((1 : BitVec 8)).toNat { (xN) with restore := some (State.chip (stOf xN) |>.led.nextSeq) }).sr (Reg.CKP_JOB_STATE.STATE ((1 : BitVec 8)).toNat) 3).updItem (State.chip (stOf xN) |>.led.nextSeq) (fun i => { i with state := .running })).restorePages (xN) ((store 1 rootA)) (([ckpBytes (store 1 rootA) 50 1]).map (rootEntries ((store 1 rootA)))) (xN).pages false).toOption.getD ({}, false)).1, ((((((((stOf xN).chip.dropHand ((⟨.ring 0, 5⟩ : Submit)).origin).ckpAccept ((⟨.ring 0, 5⟩ : Submit)) 0x0C05 [((1 : BitVec 8)).toNat, ((0 : Word)).toNat]).1.setJob ((1 : BitVec 8)).toNat { (xN) with restore := some (State.chip (stOf xN) |>.led.nextSeq) }).sr (Reg.CKP_JOB_STATE.STATE ((1 : BitVec 8)).toNat) 3).updItem (State.chip (stOf xN) |>.led.nextSeq) (fun i => { i with state := .running })).restorePages (xN) ((store 1 rootA)) (([ckpBytes (store 1 rootA) 50 1]).map (rootEntries ((store 1 rootA)))) (xN).pages false).toOption.getD ({}, false)).2, by unfold TakenUp; refine @of_decide_eq_true _ (by haveI := @decAllSome; haveI := @decExSome; haveI := @decOk; haveI := @decErr; infer_instance) ?_; decide +kernel, by decide +kernel, by decide +kernel, rfl, store_back (by decide +kernel) (by decide +kernel), pick_of (by decide +kernel) (by decide +kernel) (by decide +kernel) (by decide +kernel) (by decide +kernel) (by decide +kernel) (by decide +kernel), by decide +kernel, by decide +kernel, chain_one (k := 64) (by decide +kernel), eq_ok_getD (by decide +kernel) ({}, false)⟩)⟩

theorem test_CheckpointCommands_witness10 :
    (∃ (s : State) (src : Submit) (j : BitVec 8) (x : _), TakenUp s.chip src .ckp false 0 ∧ s.chip.job j.toNat = some x ∧ x.rank ≠ 0) ∧
    (∃ (s : State) (src : Submit) (j : BitVec 8) (x : _), TakenUp s.chip src .ckp false 0 ∧ s.chip.job j.toNat = some x ∧ x.rank = 0) :=
  ⟨(⟨pool.getD 4 .reset, { origin := Origin.ring 0, tag := (0x5 : BitVec 32) }, (0x2 : BitVec 8), { raw := ([2, 0, 0, 0, 1, 0, 4, 0, 85, 0, 0, 0, 0, 0, 0, 0, 6, 0, 3, 0, 0, 0, 2, 0, 232, 3, 0, 0, 0, 0, 0, 0, 0, 32, 0, 0, 0, 0, 0, 0, 77] ++ List.replicate 11 0 ++ [24, 0, 0, 0, 2, 0, 0, 0, 1] ++ List.replicate 15 0 ++ [1, 1, 0, 0, 0, 32, 0, 0, 0, 0, 0, 0, 1, 0, 0, 0, 0, 0, 0, 0, 100] ++ List.replicate 31 0), ranges := [{ addr := 3298535538688, pages := 4, logical := 7 }, { addr := 3298536194048, pages := 1, logical := 60 }], stepSeq := none, notice := none, lastStep := 3, lastTick := 0, now := false, nowFull := true, incr := 0, headKept := 0, number := 0, base := none, run := none, restore := none }, by
      unfold TakenUp
      refine @of_decide_eq_true _ (by haveI := @decAllSome; haveI := @decExSome; haveI := @decOk; haveI := @decErr; infer_instance) ?_
      decide +kernel⟩),
   (⟨pool.getD 4 .reset, { origin := Origin.ring 0, tag := (0x5 : BitVec 32) }, (0x1 : BitVec 8), { raw := ([1, 0, 0, 0, 0, 0, 4, 0, 85, 0, 0, 0, 0, 0, 0, 0, 6, 0, 3, 0, 0, 0, 2, 0, 232, 3, 0, 0, 0, 0, 0, 0, 0, 32, 0, 0, 0, 0, 0, 0, 77] ++ List.replicate 11 0 ++ [24, 0, 0, 0, 2, 0, 0, 0, 1] ++ List.replicate 15 0 ++ [1, 1, 0, 0, 0, 32, 0, 0, 0, 0, 0, 0, 1, 0, 0, 0, 0, 0, 0, 0, 100] ++ List.replicate 31 0), ranges := [{ addr := 3298535538688, pages := 4, logical := 7 }, { addr := 3298536194048, pages := 1, logical := 60 }], stepSeq := none, notice := none, lastStep := 3, lastTick := 0, now := false, nowFull := true, incr := 0, headKept := 0, number := 0, base := none, run := none, restore := none }, by
      unfold TakenUp
      refine @of_decide_eq_true _ (by haveI := @decAllSome; haveI := @decExSome; haveI := @decOk; haveI := @decErr; infer_instance) ?_
      decide +kernel⟩)⟩

theorem test_CheckpointCommands_witness11 :
    (∃ (s : State) (j : Fin 64), s.chip.job j = none) ∧
    (∃ (s : State) (j : Fin 64), (s.chip.job j).bind (·.run) = none) :=
  ⟨(⟨pool.getD 0 .reset, 0, by
      decide +kernel⟩),
   (⟨pool.getD 0 .reset, 0, by
      decide +kernel⟩)⟩

theorem test_CheckpointCommands_witness12 :
    (∃ (s : State) (j : Fin 64) (n : Word) (x : _), s.chip.job j = some x ∧ s.chip.rg (Reg.CKP_JOB_STEP.STEP j) < n.toNat) ∧
    (∃ (s : State) (j : Fin 64) (n : Word) (x : _), s.chip.job j = some x ∧ n.toNat ≤ s.chip.rg (Reg.CKP_JOB_STEP.STEP j) ∧ (x.run = none ∨ (∃ r, x.run = some r ∧ r.step ≠ n.toNat))) :=
  ⟨(⟨pool.getD 4 .reset, 1, (0x9 : BitVec 64), { raw := ([1, 0, 0, 0, 0, 0, 4, 0, 85, 0, 0, 0, 0, 0, 0, 0, 6, 0, 3, 0, 0, 0, 2, 0, 232, 3, 0, 0, 0, 0, 0, 0, 0, 32, 0, 0, 0, 0, 0, 0, 77] ++ List.replicate 11 0 ++ [24, 0, 0, 0, 2, 0, 0, 0, 1] ++ List.replicate 15 0 ++ [1, 1, 0, 0, 0, 32, 0, 0, 0, 0, 0, 0, 1, 0, 0, 0, 0, 0, 0, 0, 100] ++ List.replicate 31 0), ranges := [{ addr := 3298535538688, pages := 4, logical := 7 }, { addr := 3298536194048, pages := 1, logical := 60 }], stepSeq := none, notice := none, lastStep := 3, lastTick := 0, now := false, nowFull := true, incr := 0, headKept := 0, number := 0, base := none, run := none, restore := none }, by
      decide +kernel⟩),
   (⟨pool.getD 4 .reset, 1, (0x0 : BitVec 64), { raw := ([1, 0, 0, 0, 0, 0, 4, 0, 85, 0, 0, 0, 0, 0, 0, 0, 6, 0, 3, 0, 0, 0, 2, 0, 232, 3, 0, 0, 0, 0, 0, 0, 0, 32, 0, 0, 0, 0, 0, 0, 77] ++ List.replicate 11 0 ++ [24, 0, 0, 0, 2, 0, 0, 0, 1] ++ List.replicate 15 0 ++ [1, 1, 0, 0, 0, 32, 0, 0, 0, 0, 0, 0, 1, 0, 0, 0, 0, 0, 0, 0, 100] ++ List.replicate 31 0), ranges := [{ addr := 3298535538688, pages := 4, logical := 7 }, { addr := 3298536194048, pages := 1, logical := 60 }], stepSeq := none, notice := none, lastStep := 3, lastTick := 0, now := false, nowFull := true, incr := 0, headKept := 0, number := 0, base := none, run := none, restore := none }, by
      refine @of_decide_eq_true _ (by haveI := @decAllSome; haveI := @decExSome; haveI := @decOk; haveI := @decErr; infer_instance) ?_
      decide +kernel⟩)⟩

theorem test_CheckpointCommands_witness13 :
    (∃ (s : State) (j : Fin 64) (n : Word) (x : _) (r : _), s.chip.job j = some x ∧ x.run = some r ∧ ckpOpen s.chip j r ∧ n.toNat ≤ s.chip.rg (Reg.CKP_JOB_STEP.STEP j) ∧ r.step = n.toNat) :=
  (⟨pool.getD 5 .reset, 1, (0x3 : BitVec 64), { raw := ([1, 0, 0, 0, 0, 0, 4, 0, 85, 0, 0, 0, 0, 0, 0, 0, 6, 0, 3, 0, 0, 0, 2, 0, 232, 3, 0, 0, 0, 0, 0, 0, 0, 32, 0, 0, 0, 0, 0, 0, 77] ++ List.replicate 11 0 ++ [24, 0, 0, 0, 2, 0, 0, 0, 1] ++ List.replicate 15 0 ++ [1, 1, 0, 0, 0, 32, 0, 0, 0, 0, 0, 0, 1, 0, 0, 0, 0, 0, 0, 0, 100] ++ List.replicate 31 0), ranges := [{ addr := 3298535538688, pages := 4, logical := 7 }, { addr := 3298536194048, pages := 1, logical := 60 }], stepSeq := none, notice := none, lastStep := 3, lastTick := 0, now := false, nowFull := true, incr := 0, headKept := 0, number := 0, base := none, run := some { seq := 8, step := 3, full := false, lost := [], caps := [], batches := [], walked := false, segment := none, root := none, wrote := 0, asking := false, poison := false, credit := 0 }, restore := none }, { seq := 8, step := 3, full := false, lost := [], caps := [], batches := [], walked := false, segment := none, root := none, wrote := 0, asking := false, poison := false, credit := 0 }, by
      unfold ckpOpen
      refine @of_decide_eq_true _ (by haveI := @decAllSome; haveI := @decExSome; haveI := @decOk; haveI := @decErr; infer_instance) ?_
      decide +kernel⟩)

theorem test_CheckpointEngine_witness1 :
    (∃ (s : State) (a : Nat) (bs : List (BitVec 8)), (isPaged a = false ∨ bs = [] ∨ s.chip.inOne a bs.length = false)) ∧
    (∃ (s : State) (a : Nat) (bs : List (BitVec 8)), isPaged a = true ∧ bs ≠ [] ∧ s.chip.inOne a bs.length = true ∧ s.chip.ckpPage (pageOf a) = none) :=
  ⟨(⟨pool.getD 0 .reset, 4096, [], by
      decide +kernel⟩),
   (⟨pool.getD 0 .reset, 3298535538688, [(0x1 : BitVec 8), (0x2 : BitVec 8)], by
      decide +kernel⟩)⟩

theorem test_CheckpointEngine_witness2 :
    (∃ (s : State) (a : Nat) (bs : List (BitVec 8)) (j : _) (x : _) (ri : _) (pi : _), isPaged a = true ∧ bs ≠ [] ∧ s.chip.inOne a bs.length = true ∧ s.chip.ckpPage (pageOf a) = some (j, x, ri, pi) ∧ (∀ r, x.run = some r → ckpUnvisited s.chip j r ri pi → (s.chip.pte (pageOf a)).cow = true ∨ ((s.chip.pte (pageOf a)).dirty = false ∧ r.full = false) ∨ (r.freeSlot x.capPages).isSome = true)) ∧
    (∃ (s : State) (a : Nat) (bs : List (BitVec 8)) (j : _) (x : _) (ri : _) (pi : _) (r : _), isPaged a = true ∧ bs ≠ [] ∧ s.chip.inOne a bs.length = true ∧ s.chip.ckpPage (pageOf a) = some (j, x, ri, pi) ∧ x.run = some r ∧ ckpUnvisited s.chip j r ri pi ∧ (s.chip.pte (pageOf a)).state ≠ .unmapped ∧ a % 0x10000 + bs.length ≤ 0x10000 ∧ (s.chip.pte (pageOf a)).cow = false ∧ (s.chip.pte (pageOf a)).dirty = false ∧ r.full = false) :=
  ⟨(⟨pool.getD 4 .reset, 3298535538688, [(0x1 : BitVec 8), (0x2 : BitVec 8)], 1, { raw := ([1, 0, 0, 0, 0, 0, 4, 0, 85, 0, 0, 0, 0, 0, 0, 0, 6, 0, 3, 0, 0, 0, 2, 0, 232, 3, 0, 0, 0, 0, 0, 0, 0, 32, 0, 0, 0, 0, 0, 0, 77] ++ List.replicate 11 0 ++ [24, 0, 0, 0, 2, 0, 0, 0, 1] ++ List.replicate 15 0 ++ [1, 1, 0, 0, 0, 32, 0, 0, 0, 0, 0, 0, 1, 0, 0, 0, 0, 0, 0, 0, 100] ++ List.replicate 31 0), ranges := [{ addr := 3298535538688, pages := 4, logical := 7 }, { addr := 3298536194048, pages := 1, logical := 60 }], stepSeq := none, notice := none, lastStep := 3, lastTick := 0, now := false, nowFull := true, incr := 0, headKept := 0, number := 0, base := none, run := none, restore := none }, 0, 0, by
      unfold ckpUnvisited
      refine @of_decide_eq_true _ (by haveI := @decAllSome; haveI := @decExSome; haveI := @decOk; haveI := @decErr; infer_instance) ?_
      decide +kernel⟩),
   (⟨pool.getD 5 .reset, 3298535538688, [(0x1 : BitVec 8), (0x2 : BitVec 8)], 1, { raw := ([1, 0, 0, 0, 0, 0, 4, 0, 85, 0, 0, 0, 0, 0, 0, 0, 6, 0, 3, 0, 0, 0, 2, 0, 232, 3, 0, 0, 0, 0, 0, 0, 0, 32, 0, 0, 0, 0, 0, 0, 77] ++ List.replicate 11 0 ++ [24, 0, 0, 0, 2, 0, 0, 0, 1] ++ List.replicate 15 0 ++ [1, 1, 0, 0, 0, 32, 0, 0, 0, 0, 0, 0, 1, 0, 0, 0, 0, 0, 0, 0, 100] ++ List.replicate 31 0), ranges := [{ addr := 3298535538688, pages := 4, logical := 7 }, { addr := 3298536194048, pages := 1, logical := 60 }], stepSeq := none, notice := none, lastStep := 3, lastTick := 0, now := false, nowFull := true, incr := 0, headKept := 0, number := 0, base := none, run := some { seq := 8, step := 3, full := false, lost := [], caps := [], batches := [], walked := false, segment := none, root := none, wrote := 0, asking := false, poison := false, credit := 0 }, restore := none }, 0, 0, { seq := 8, step := 3, full := false, lost := [], caps := [], batches := [], walked := false, segment := none, root := none, wrote := 0, asking := false, poison := false, credit := 0 }, by
      unfold ckpUnvisited
      refine @of_decide_eq_true _ (by haveI := @decAllSome; haveI := @decExSome; haveI := @decOk; haveI := @decErr; infer_instance) ?_
      decide +kernel⟩)⟩

theorem test_CheckpointEngine_witness3 :
    (∃ (s : State) (a : Nat) (bs : List (BitVec 8)) (j : _) (x : _) (ri : _) (pi : _) (r : _), isPaged a = true ∧ bs ≠ [] ∧ s.chip.inOne a bs.length = true ∧ s.chip.ckpPage (pageOf a) = some (j, x, ri, pi) ∧ x.run = some r ∧ ckpUnvisited s.chip j r ri pi ∧ (s.chip.pte (pageOf a)).state ≠ .unmapped ∧ a % 0x10000 + bs.length ≤ 0x10000 ∧ (s.chip.pte (pageOf a)).cow = false ∧ ((s.chip.pte (pageOf a)).dirty = true ∨ r.full = true) ∧ r.freeSlot x.capPages = none) ∧
    (∃ (s : State) (a : Nat) (bs : List (BitVec 8)) (j : _) (x : _) (ri : _) (pi : _) (r : _) (k : _), isPaged a = true ∧ bs ≠ [] ∧ s.chip.inOne a bs.length = true ∧ s.chip.ckpPage (pageOf a) = some (j, x, ri, pi) ∧ x.run = some r ∧ ckpUnvisited s.chip j r ri pi ∧ (s.chip.pte (pageOf a)).state ≠ .unmapped ∧ a % 0x10000 + bs.length ≤ 0x10000 ∧ (s.chip.pte (pageOf a)).cow = false ∧ ((s.chip.pte (pageOf a)).dirty = true ∨ r.full = true) ∧ r.freeSlot x.capPages = some k) :=
  ⟨(⟨pool.getD 25 .reset, 3298535538688, [(0x1 : BitVec 8), (0x2 : BitVec 8)], 1, { raw := ([1, 0, 0, 0, 0, 0, 4, 0, 85, 0, 0, 0, 0, 0, 0, 0, 6, 0, 3, 0, 0, 0, 2, 0, 232, 3, 0, 0, 0, 0, 0, 0, 0, 32, 0, 0, 0, 0, 0, 0, 77] ++ List.replicate 11 0 ++ [24, 0, 0, 0, 1, 0, 0, 0, 1] ++ List.replicate 15 0 ++ [1, 1, 0, 0, 0, 32, 0, 0, 0, 0, 0, 0, 1, 0, 0, 0, 0, 0, 0, 0, 100] ++ List.replicate 31 0), ranges := [{ addr := 3298535538688, pages := 4, logical := 7 }, { addr := 3298536194048, pages := 1, logical := 60 }], stepSeq := none, notice := none, lastStep := 3, lastTick := 0, now := false, nowFull := true, incr := 0, headKept := 0, number := 0, base := none, run := some { seq := 8, step := 3, full := true, lost := [], caps := [{ slot := some 0, logical := 9, poison := false, batch := none, hash := (List.replicate 32 7), writer := none, place := none }, { slot := some 0, logical := 9, poison := false, batch := none, hash := (List.replicate 32 7), writer := none, place := none }], batches := [], walked := false, segment := none, root := none, wrote := 0, asking := false, poison := false, credit := 0 }, restore := none }, 0, 0, { seq := 8, step := 3, full := true, lost := [], caps := [{ slot := some 0, logical := 9, poison := false, batch := none, hash := (List.replicate 32 7), writer := none, place := none }, { slot := some 0, logical := 9, poison := false, batch := none, hash := (List.replicate 32 7), writer := none, place := none }], batches := [], walked := false, segment := none, root := none, wrote := 0, asking := false, poison := false, credit := 0 }, by
      unfold ckpUnvisited
      refine @of_decide_eq_true _ (by haveI := @decAllSome; haveI := @decExSome; haveI := @decOk; haveI := @decErr; infer_instance) ?_
      decide +kernel⟩),
   (⟨pool.getD 5 .reset, 3298535604228, [(0x1 : BitVec 8), (0x2 : BitVec 8)], 1, { raw := ([1, 0, 0, 0, 0, 0, 4, 0, 85, 0, 0, 0, 0, 0, 0, 0, 6, 0, 3, 0, 0, 0, 2, 0, 232, 3, 0, 0, 0, 0, 0, 0, 0, 32, 0, 0, 0, 0, 0, 0, 77] ++ List.replicate 11 0 ++ [24, 0, 0, 0, 2, 0, 0, 0, 1] ++ List.replicate 15 0 ++ [1, 1, 0, 0, 0, 32, 0, 0, 0, 0, 0, 0, 1, 0, 0, 0, 0, 0, 0, 0, 100] ++ List.replicate 31 0), ranges := [{ addr := 3298535538688, pages := 4, logical := 7 }, { addr := 3298536194048, pages := 1, logical := 60 }], stepSeq := none, notice := none, lastStep := 3, lastTick := 0, now := false, nowFull := true, incr := 0, headKept := 0, number := 0, base := none, run := some { seq := 8, step := 3, full := false, lost := [], caps := [], batches := [], walked := false, segment := none, root := none, wrote := 0, asking := false, poison := false, credit := 0 }, restore := none }, 0, 1, { seq := 8, step := 3, full := false, lost := [], caps := [], batches := [], walked := false, segment := none, root := none, wrote := 0, asking := false, poison := false, credit := 0 }, 0, by
      unfold ckpUnvisited
      refine @of_decide_eq_true _ (by haveI := @decAllSome; haveI := @decExSome; haveI := @decOk; haveI := @decErr; infer_instance) ?_
      decide +kernel⟩)⟩

theorem test_CheckpointEngine_witness4 :
    (∃ (s : State) (j : Fin 64), (s.chip.job j).bind (·.run) = none) ∧
    (∃ (s : State) (j : Fin 64) (x : CkpJob) (r : CkpRun) (g : CkpRange) (n : Nat), ckpRuns s.chip j x r ∧ g = x.ranges.getD (s.chip.rg (Reg.CKP_JOB_CURSOR.RANGE j)) ⟨0, 0, 0⟩ ∧ n = pageOf g.addr + s.chip.rg (Reg.CKP_JOB_CURSOR.PAGE j) ∧ (r.walked = true ∨ r.asking = true ∨ s.chip.running .ckp = false ∨ s.chip.spent x.plan = true)) :=
  ⟨(⟨pool.getD 0 .reset, 0, by
      decide +kernel⟩),
   (⟨pool.getD 29 .reset, 1, { raw := ([1, 0, 0, 0, 0, 0, 4, 0, 85, 0, 0, 0, 0, 0, 0, 0, 6, 0, 3, 0, 0, 0, 2, 0, 232, 3, 0, 0, 0, 0, 0, 0, 0, 32, 0, 0, 0, 0, 0, 0, 77] ++ List.replicate 11 0 ++ [24, 0, 0, 0, 2, 0, 0, 0, 1] ++ List.replicate 15 0 ++ [1, 1, 0, 0, 0, 32, 0, 0, 0, 0, 0, 0, 1, 0, 0, 0, 0, 0, 0, 0, 100] ++ List.replicate 31 0), ranges := [{ addr := 3298535538688, pages := 4, logical := 7 }, { addr := 3298536194048, pages := 1, logical := 60 }], stepSeq := none, notice := none, lastStep := 3, lastTick := 0, now := false, nowFull := true, incr := 0, headKept := 0, number := 0, base := none, run := some { seq := 8, step := 3, full := false, lost := [], caps := [], batches := [], walked := true, segment := none, root := none, wrote := 0, asking := false, poison := false, credit := 0 }, restore := none }, { seq := 8, step := 3, full := false, lost := [], caps := [], batches := [], walked := true, segment := none, root := none, wrote := 0, asking := false, poison := false, credit := 0 }, { addr := 3298535538688, pages := 4, logical := 7 }, 10, by
      unfold ckpRuns
      refine @of_decide_eq_true _ (by haveI := @decAllSome; haveI := @decExSome; haveI := @decOk; haveI := @decErr; infer_instance) ?_
      decide +kernel⟩)⟩

theorem test_CheckpointEngine_witness5 :
    (∃ (s : State) (j : Fin 64) (x : CkpJob) (r : CkpRun) (g : CkpRange) (n : Nat), ckpRuns s.chip j x r ∧ g = x.ranges.getD (s.chip.rg (Reg.CKP_JOB_CURSOR.RANGE j)) ⟨0, 0, 0⟩ ∧ n = pageOf g.addr + s.chip.rg (Reg.CKP_JOB_CURSOR.PAGE j) ∧ r.walked = false ∧ r.asking = false ∧ s.chip.running .ckp = true ∧ s.chip.spent x.plan = false ∧ (s.chip.pte n).cow = true) ∧
    (∃ (s : State) (j : Fin 64) (x : CkpJob) (r : CkpRun) (g : CkpRange) (n : Nat), ckpRuns s.chip j x r ∧ g = x.ranges.getD (s.chip.rg (Reg.CKP_JOB_CURSOR.RANGE j)) ⟨0, 0, 0⟩ ∧ n = pageOf g.addr + s.chip.rg (Reg.CKP_JOB_CURSOR.PAGE j) ∧ r.walked = false ∧ r.asking = false ∧ s.chip.running .ckp = true ∧ s.chip.spent x.plan = false ∧ (s.chip.pte n).cow = false ∧ (s.chip.pte n).dirty = false ∧ r.full = false) :=
  ⟨(⟨pool.getD 15 .reset, 1, { raw := ([1, 0, 0, 0, 0, 0, 4, 0, 85, 0, 0, 0, 0, 0, 0, 0, 6, 0, 3, 0, 0, 0, 2, 0, 232, 3, 0, 0, 0, 0, 0, 0, 0, 32, 0, 0, 0, 0, 0, 0, 77] ++ List.replicate 11 0 ++ [24, 0, 0, 0, 2, 0, 0, 0, 1] ++ List.replicate 15 0 ++ [1, 1, 0, 0, 0, 32, 0, 0, 0, 0, 0, 0, 1, 0, 0, 0, 0, 0, 0, 0, 100] ++ List.replicate 31 0), ranges := [{ addr := 3298535538688, pages := 4, logical := 7 }, { addr := 3298536194048, pages := 1, logical := 60 }], stepSeq := none, notice := none, lastStep := 3, lastTick := 0, now := false, nowFull := true, incr := 0, headKept := 0, number := 0, base := none, run := some { seq := 8, step := 3, full := false, lost := [], caps := [], batches := [], walked := false, segment := none, root := none, wrote := 0, asking := false, poison := false, credit := 0 }, restore := none }, { seq := 8, step := 3, full := false, lost := [], caps := [], batches := [], walked := false, segment := none, root := none, wrote := 0, asking := false, poison := false, credit := 0 }, { addr := 3298535538688, pages := 4, logical := 7 }, 12, by
      unfold ckpRuns
      refine @of_decide_eq_true _ (by haveI := @decAllSome; haveI := @decExSome; haveI := @decOk; haveI := @decErr; infer_instance) ?_
      decide +kernel⟩),
   (⟨pool.getD 5 .reset, 1, { raw := ([1, 0, 0, 0, 0, 0, 4, 0, 85, 0, 0, 0, 0, 0, 0, 0, 6, 0, 3, 0, 0, 0, 2, 0, 232, 3, 0, 0, 0, 0, 0, 0, 0, 32, 0, 0, 0, 0, 0, 0, 77] ++ List.replicate 11 0 ++ [24, 0, 0, 0, 2, 0, 0, 0, 1] ++ List.replicate 15 0 ++ [1, 1, 0, 0, 0, 32, 0, 0, 0, 0, 0, 0, 1, 0, 0, 0, 0, 0, 0, 0, 100] ++ List.replicate 31 0), ranges := [{ addr := 3298535538688, pages := 4, logical := 7 }, { addr := 3298536194048, pages := 1, logical := 60 }], stepSeq := none, notice := none, lastStep := 3, lastTick := 0, now := false, nowFull := true, incr := 0, headKept := 0, number := 0, base := none, run := some { seq := 8, step := 3, full := false, lost := [], caps := [], batches := [], walked := false, segment := none, root := none, wrote := 0, asking := false, poison := false, credit := 0 }, restore := none }, { seq := 8, step := 3, full := false, lost := [], caps := [], batches := [], walked := false, segment := none, root := none, wrote := 0, asking := false, poison := false, credit := 0 }, { addr := 3298535538688, pages := 4, logical := 7 }, 10, by
      unfold ckpRuns
      refine @of_decide_eq_true _ (by haveI := @decAllSome; haveI := @decExSome; haveI := @decOk; haveI := @decErr; infer_instance) ?_
      decide +kernel⟩)⟩

theorem test_CheckpointEngine_witness6 :
    (∃ (s : State) (j : Fin 64) (x : CkpJob) (r : CkpRun) (g : CkpRange) (n : Nat), ckpRuns s.chip j x r ∧ g = x.ranges.getD (s.chip.rg (Reg.CKP_JOB_CURSOR.RANGE j)) ⟨0, 0, 0⟩ ∧ n = pageOf g.addr + s.chip.rg (Reg.CKP_JOB_CURSOR.PAGE j) ∧ r.walked = false ∧ r.asking = false ∧ s.chip.running .ckp = true ∧ s.chip.spent x.plan = false ∧ (s.chip.pte n).cow = false ∧ ((s.chip.pte n).dirty = true ∨ r.full = true) ∧ (r.freeSlot x.capPages = none ∨ r.credit < 64)) ∧
    (∃ (s : State) (j : Fin 64) (x : CkpJob) (r : CkpRun) (g : CkpRange) (n : Nat) (k : _), ckpRuns s.chip j x r ∧ g = x.ranges.getD (s.chip.rg (Reg.CKP_JOB_CURSOR.RANGE j)) ⟨0, 0, 0⟩ ∧ n = pageOf g.addr + s.chip.rg (Reg.CKP_JOB_CURSOR.PAGE j) ∧ r.walked = false ∧ r.asking = false ∧ s.chip.running .ckp = true ∧ s.chip.spent x.plan = false ∧ (s.chip.pte n).cow = false ∧ ((s.chip.pte n).dirty = true ∨ r.full = true) ∧ r.freeSlot x.capPages = some k ∧ 64 ≤ r.credit) :=
  ⟨(⟨pool.getD 14 .reset, 1, { raw := ([1, 0, 0, 0, 0, 0, 4, 0, 85, 0, 0, 0, 0, 0, 0, 0, 6, 0, 3, 0, 0, 0, 2, 0, 232, 3, 0, 0, 0, 0, 0, 0, 0, 32, 0, 0, 0, 0, 0, 0, 77] ++ List.replicate 11 0 ++ [24, 0, 0, 0, 2, 0, 0, 0, 1] ++ List.replicate 15 0 ++ [1, 1, 0, 0, 0, 32, 0, 0, 0, 0, 0, 0, 1, 0, 0, 0, 0, 0, 0, 0, 100] ++ List.replicate 31 0), ranges := [{ addr := 3298535538688, pages := 4, logical := 7 }, { addr := 3298536194048, pages := 1, logical := 60 }], stepSeq := none, notice := none, lastStep := 3, lastTick := 0, now := false, nowFull := true, incr := 0, headKept := 0, number := 0, base := none, run := some { seq := 8, step := 3, full := false, lost := [], caps := [], batches := [], walked := false, segment := none, root := none, wrote := 0, asking := false, poison := false, credit := 0 }, restore := none }, { seq := 8, step := 3, full := false, lost := [], caps := [], batches := [], walked := false, segment := none, root := none, wrote := 0, asking := false, poison := false, credit := 0 }, { addr := 3298535538688, pages := 4, logical := 7 }, 11, by
      unfold ckpRuns
      refine @of_decide_eq_true _ (by haveI := @decAllSome; haveI := @decExSome; haveI := @decOk; haveI := @decErr; infer_instance) ?_
      decide +kernel⟩),
   (⟨pool.getD 424 .reset, 1, { raw := ([1, 0, 0, 0, 0, 0, 4, 0, 85, 0, 0, 0, 0, 0, 0, 0, 6, 0, 3, 0, 0, 0, 2, 0, 232, 3, 0, 0, 0, 0, 0, 0, 0, 32, 0, 0, 0, 0, 0, 0, 77] ++ List.replicate 11 0 ++ [24, 0, 0, 0, 2, 0, 0, 0, 1] ++ List.replicate 15 0 ++ [1, 1, 0, 0, 0, 32, 0, 0, 0, 0, 0, 0, 1, 0, 0, 0, 0, 0, 0, 0, 100] ++ List.replicate 31 0), ranges := [{ addr := 3298535538688, pages := 4, logical := 7 }, { addr := 3298536194048, pages := 1, logical := 60 }], stepSeq := none, notice := none, lastStep := 3, lastTick := 0, now := false, nowFull := true, incr := 0, headKept := 0, number := 0, base := none, run := some { seq := 8, step := 3, full := true, lost := [], caps := [], batches := [], walked := false, segment := none, root := none, wrote := 0, asking := false, poison := false, credit := 100 }, restore := none }, { seq := 8, step := 3, full := true, lost := [], caps := [], batches := [], walked := false, segment := none, root := none, wrote := 0, asking := false, poison := false, credit := 100 }, { addr := 3298535538688, pages := 4, logical := 7 }, 11, 0, by
      unfold ckpRuns
      refine @of_decide_eq_true _ (by haveI := @decAllSome; haveI := @decExSome; haveI := @decOk; haveI := @decErr; infer_instance) ?_
      decide +kernel⟩)⟩

theorem test_CheckpointEngine_witness7 :
    (∃ (s : State) (j : Fin 64) (x : CkpJob) (r : CkpRun), ckpRuns s.chip j x r ∧ (r.asking = true ∨ s.chip.running .ckp = false ∨ s.chip.spent x.plan = true ∨ ((r.caps.filter (fun c => c.batch.isNone)).length < x.batch ∧ (r.walked = false ∨ r.caps.filter (fun c => c.batch.isNone) = [])))) ∧
    (∃ (s : State) (j : Fin 64) (x : CkpJob) (r : CkpRun), ckpRuns s.chip j x r ∧ r.asking = false ∧ s.chip.running .ckp = true ∧ s.chip.spent x.plan = false ∧ (x.batch ≤ (r.caps.filter (fun c => c.batch.isNone)).length ∨ (r.walked = true ∧ r.caps.filter (fun c => c.batch.isNone) ≠ []))) :=
  ⟨(⟨pool.getD 5 .reset, 1, { raw := ([1, 0, 0, 0, 0, 0, 4, 0, 85, 0, 0, 0, 0, 0, 0, 0, 6, 0, 3, 0, 0, 0, 2, 0, 232, 3, 0, 0, 0, 0, 0, 0, 0, 32, 0, 0, 0, 0, 0, 0, 77] ++ List.replicate 11 0 ++ [24, 0, 0, 0, 2, 0, 0, 0, 1] ++ List.replicate 15 0 ++ [1, 1, 0, 0, 0, 32, 0, 0, 0, 0, 0, 0, 1, 0, 0, 0, 0, 0, 0, 0, 100] ++ List.replicate 31 0), ranges := [{ addr := 3298535538688, pages := 4, logical := 7 }, { addr := 3298536194048, pages := 1, logical := 60 }], stepSeq := none, notice := none, lastStep := 3, lastTick := 0, now := false, nowFull := true, incr := 0, headKept := 0, number := 0, base := none, run := some { seq := 8, step := 3, full := false, lost := [], caps := [], batches := [], walked := false, segment := none, root := none, wrote := 0, asking := false, poison := false, credit := 0 }, restore := none }, { seq := 8, step := 3, full := false, lost := [], caps := [], batches := [], walked := false, segment := none, root := none, wrote := 0, asking := false, poison := false, credit := 0 }, by
      unfold ckpRuns
      refine @of_decide_eq_true _ (by haveI := @decAllSome; haveI := @decExSome; haveI := @decOk; haveI := @decErr; infer_instance) ?_
      decide +kernel⟩),
   (⟨pool.getD 21 .reset, 1, { raw := ([1, 0, 0, 0, 0, 0, 4, 0, 85, 0, 0, 0, 0, 0, 0, 0, 6, 0, 3, 0, 0, 0, 2, 0, 232, 3, 0, 0, 0, 0, 0, 0, 0, 32, 0, 0, 0, 0, 0, 0, 77] ++ List.replicate 11 0 ++ [24, 0, 0, 0, 2, 0, 0, 0, 1] ++ List.replicate 15 0 ++ [1, 1, 0, 0, 0, 32, 0, 0, 0, 0, 0, 0, 1, 0, 0, 0, 0, 0, 0, 0, 100] ++ List.replicate 31 0), ranges := [{ addr := 3298535538688, pages := 4, logical := 7 }, { addr := 3298536194048, pages := 1, logical := 60 }], stepSeq := none, notice := none, lastStep := 3, lastTick := 0, now := false, nowFull := true, incr := 0, headKept := 0, number := 0, base := none, run := some { seq := 8, step := 3, full := false, lost := [], caps := [{ slot := some 0, logical := 9, poison := false, batch := none, hash := (List.replicate 32 7), writer := none, place := none }], batches := [], walked := false, segment := none, root := none, wrote := 0, asking := false, poison := false, credit := 0 }, restore := none }, { seq := 8, step := 3, full := false, lost := [], caps := [{ slot := some 0, logical := 9, poison := false, batch := none, hash := (List.replicate 32 7), writer := none, place := none }], batches := [], walked := false, segment := none, root := none, wrote := 0, asking := false, poison := false, credit := 0 }, by
      unfold ckpRuns
      refine @of_decide_eq_true _ (by haveI := @decAllSome; haveI := @decExSome; haveI := @decOk; haveI := @decErr; infer_instance) ?_
      decide +kernel⟩)⟩

theorem test_CheckpointEngine_witness8 :
    (∃ (s : State) (j : Fin 64) (x : CkpJob) (r : CkpRun) (c : CkpCap), ckpRuns s.chip j x r ∧ r.asking = false ∧ s.chip.running .ckp = true ∧ s.chip.spent x.plan = false ∧ r.walked = true ∧ r.caps = [c] ∧ c.batch = none ∧ c.poison = false ∧ s.chip.anyPoison (capAddr x (c.slot.getD 0)) 0x10000 = false) ∧
    (∃ (s : State) (j : Fin 64) (x : CkpJob) (r : CkpRun) (c : CkpCap), ckpRuns s.chip j x r ∧ r.asking = false ∧ s.chip.running .ckp = true ∧ s.chip.spent x.plan = false ∧ r.walked = true ∧ r.caps = [c] ∧ c.batch = none ∧ (c.poison = true ∨ s.chip.anyPoison (capAddr x (c.slot.getD 0)) 0x10000 = true)) :=
  ⟨(⟨pool.getD 426 .reset, 1, { raw := ([1, 0, 0, 0, 0, 0, 4, 0, 85, 0, 0, 0, 0, 0, 0, 0, 6, 0, 3, 0, 0, 0, 2, 0, 232, 3, 0, 0, 0, 0, 0, 0, 0, 32, 0, 0, 0, 0, 0, 0, 77] ++ List.replicate 11 0 ++ [24, 0, 0, 0, 2, 0, 0, 0, 1] ++ List.replicate 15 0 ++ [1, 1, 0, 0, 0, 32, 0, 0, 0, 0, 0, 0, 1, 0, 0, 0, 0, 0, 0, 0, 100] ++ List.replicate 31 0), ranges := [{ addr := 3298535538688, pages := 4, logical := 7 }, { addr := 3298536194048, pages := 1, logical := 60 }], stepSeq := none, notice := none, lastStep := 3, lastTick := 0, now := false, nowFull := true, incr := 0, headKept := 0, number := 0, base := none, run := some { seq := 8, step := 3, full := false, lost := [], caps := [{ slot := some 0, logical := 9, poison := false, batch := none, hash := (List.replicate 32 7), writer := none, place := none }], batches := [], walked := true, segment := none, root := none, wrote := 0, asking := false, poison := false, credit := 0 }, restore := none }, { seq := 8, step := 3, full := false, lost := [], caps := [{ slot := some 0, logical := 9, poison := false, batch := none, hash := (List.replicate 32 7), writer := none, place := none }], batches := [], walked := true, segment := none, root := none, wrote := 0, asking := false, poison := false, credit := 0 }, { slot := some 0, logical := 9, poison := false, batch := none, hash := (List.replicate 32 7), writer := none, place := none }, by unfold ckpRuns; refine @of_decide_eq_true _ (by haveI := @decAllSome; haveI := @decExSome; haveI := @decOk; haveI := @decErr; infer_instance) ?_; decide +kernel, by decide +kernel, by decide +kernel, by decide +kernel, by decide +kernel, by decide +kernel, by decide +kernel, by decide +kernel, quiet_range (by decide +kernel) (by decide +kernel) (by decide +kernel) (by decide +kernel) (by decide +kernel) (by decide +kernel)⟩),
   (⟨pool.getD 428 .reset, 1, { raw := ([1, 0, 0, 0, 0, 0, 4, 0, 85, 0, 0, 0, 0, 0, 0, 0, 6, 0, 3, 0, 0, 0, 2, 0, 232, 3, 0, 0, 0, 0, 0, 0, 0, 32, 0, 0, 0, 0, 0, 0, 77] ++ List.replicate 11 0 ++ [24, 0, 0, 0, 2, 0, 0, 0, 1] ++ List.replicate 15 0 ++ [1, 1, 0, 0, 0, 32, 0, 0, 0, 0, 0, 0, 1, 0, 0, 0, 0, 0, 0, 0, 100] ++ List.replicate 31 0), ranges := [{ addr := 3298535538688, pages := 4, logical := 7 }, { addr := 3298536194048, pages := 1, logical := 60 }], stepSeq := none, notice := none, lastStep := 3, lastTick := 0, now := false, nowFull := true, incr := 0, headKept := 0, number := 0, base := none, run := some { seq := 8, step := 3, full := false, lost := [], caps := [{ slot := some 0, logical := 9, poison := true, batch := none, hash := (List.replicate 32 7), writer := none, place := none }], batches := [], walked := true, segment := none, root := none, wrote := 0, asking := false, poison := false, credit := 0 }, restore := none }, { seq := 8, step := 3, full := false, lost := [], caps := [{ slot := some 0, logical := 9, poison := true, batch := none, hash := (List.replicate 32 7), writer := none, place := none }], batches := [], walked := true, segment := none, root := none, wrote := 0, asking := false, poison := false, credit := 0 }, { slot := some 0, logical := 9, poison := true, batch := none, hash := (List.replicate 32 7), writer := none, place := none }, by
      unfold ckpRuns
      refine @of_decide_eq_true _ (by haveI := @decAllSome; haveI := @decExSome; haveI := @decOk; haveI := @decErr; infer_instance) ?_
      decide +kernel⟩)⟩

theorem test_CheckpointEngine_witness9 :
    (∃ (s : State) (j : Fin 64) (x : CkpJob) (r : CkpRun), ckpRuns s.chip j x r ∧ (r.asking = true ∨ (∀ b ∈ r.batches, b.answered = true))) ∧
    (∃ (s : State) (j : Fin 64) (x : CkpJob) (r : CkpRun) (k : _), ckpRuns s.chip j x r ∧ r.asking = false ∧ r.batches.findIdx? (fun b => !b.answered) = some k) :=
  ⟨(⟨pool.getD 5 .reset, 1, { raw := ([1, 0, 0, 0, 0, 0, 4, 0, 85, 0, 0, 0, 0, 0, 0, 0, 6, 0, 3, 0, 0, 0, 2, 0, 232, 3, 0, 0, 0, 0, 0, 0, 0, 32, 0, 0, 0, 0, 0, 0, 77] ++ List.replicate 11 0 ++ [24, 0, 0, 0, 2, 0, 0, 0, 1] ++ List.replicate 15 0 ++ [1, 1, 0, 0, 0, 32, 0, 0, 0, 0, 0, 0, 1, 0, 0, 0, 0, 0, 0, 0, 100] ++ List.replicate 31 0), ranges := [{ addr := 3298535538688, pages := 4, logical := 7 }, { addr := 3298536194048, pages := 1, logical := 60 }], stepSeq := none, notice := none, lastStep := 3, lastTick := 0, now := false, nowFull := true, incr := 0, headKept := 0, number := 0, base := none, run := some { seq := 8, step := 3, full := false, lost := [], caps := [], batches := [], walked := false, segment := none, root := none, wrote := 0, asking := false, poison := false, credit := 0 }, restore := none }, { seq := 8, step := 3, full := false, lost := [], caps := [], batches := [], walked := false, segment := none, root := none, wrote := 0, asking := false, poison := false, credit := 0 }, by
      unfold ckpRuns
      refine @of_decide_eq_true _ (by haveI := @decAllSome; haveI := @decExSome; haveI := @decOk; haveI := @decErr; infer_instance) ?_
      decide +kernel⟩),
   (⟨pool.getD 32 .reset, 1, { raw := ([1, 0, 0, 0, 0, 0, 4, 0, 85, 0, 0, 0, 0, 0, 0, 0, 6, 0, 3, 0, 0, 0, 2, 0, 232, 3, 0, 0, 0, 0, 0, 0, 0, 32, 0, 0, 0, 0, 0, 0, 77] ++ List.replicate 11 0 ++ [24, 0, 0, 0, 2, 0, 0, 0, 1] ++ List.replicate 15 0 ++ [1, 1, 0, 0, 0, 32, 0, 0, 0, 0, 0, 0, 1, 0, 0, 0, 0, 0, 0, 0, 100] ++ List.replicate 31 0), ranges := [{ addr := 3298535538688, pages := 4, logical := 7 }, { addr := 3298536194048, pages := 1, logical := 60 }], stepSeq := none, notice := none, lastStep := 3, lastTick := 0, now := false, nowFull := true, incr := 0, headKept := 0, number := 0, base := none, run := some { seq := 8, step := 3, full := false, lost := [], caps := [{ slot := some 0, logical := 9, poison := false, batch := some 0, hash := (List.replicate 32 7), writer := none, place := none }], batches := [{ answered := false, confirmed := [], done := false }], walked := false, segment := none, root := none, wrote := 0, asking := false, poison := false, credit := 0 }, restore := none }, { seq := 8, step := 3, full := false, lost := [], caps := [{ slot := some 0, logical := 9, poison := false, batch := some 0, hash := (List.replicate 32 7), writer := none, place := none }], batches := [{ answered := false, confirmed := [], done := false }], walked := false, segment := none, root := none, wrote := 0, asking := false, poison := false, credit := 0 }, 0, by
      unfold ckpRuns
      refine @of_decide_eq_true _ (by haveI := @decAllSome; haveI := @decExSome; haveI := @decOk; haveI := @decErr; infer_instance) ?_
      decide +kernel⟩)⟩

theorem test_CheckpointEngine_witness10 :
    (∃ (s : State) (j : Fin 64) (x : CkpJob) (r : CkpRun) (b : CkpBatch) (c : CkpCap), ckpRuns s.chip j x r ∧ r.asking = false ∧ r.batches = [b] ∧ r.caps = [c] ∧ c.batch = some 0 ∧ b.answered = true) ∧
    (∃ (s : State) (j : Fin 64) (x : CkpJob) (r : CkpRun) (b : CkpBatch) (c : CkpCap) (w : Nat), ckpRuns s.chip j x r ∧ r.asking = false ∧ r.batches = [b] ∧ r.caps = [c] ∧ c.batch = some 0 ∧ b.answered = false ∧ c.poison = false ∧ w ≠ x.rank) :=
  ⟨(⟨pool.getD 38 .reset, 1, { raw := ([1, 0, 0, 0, 0, 0, 4, 0, 85, 0, 0, 0, 0, 0, 0, 0, 6, 0, 3, 0, 0, 0, 2, 0, 232, 3, 0, 0, 0, 0, 0, 0, 0, 32, 0, 0, 0, 0, 0, 0, 77] ++ List.replicate 11 0 ++ [24, 0, 0, 0, 2, 0, 0, 0, 1] ++ List.replicate 15 0 ++ [1, 1, 0, 0, 0, 32, 0, 0, 0, 0, 0, 0, 1, 0, 0, 0, 0, 0, 0, 0, 100] ++ List.replicate 31 0), ranges := [{ addr := 3298535538688, pages := 4, logical := 7 }, { addr := 3298536194048, pages := 1, logical := 60 }], stepSeq := none, notice := none, lastStep := 3, lastTick := 0, now := false, nowFull := true, incr := 0, headKept := 0, number := 0, base := none, run := some { seq := 8, step := 3, full := false, lost := [], caps := [{ slot := some 0, logical := 9, poison := false, batch := some 0, hash := (List.replicate 32 7), writer := none, place := none }], batches := [{ answered := true, confirmed := [], done := false }], walked := true, segment := none, root := none, wrote := 0, asking := false, poison := false, credit := 0 }, restore := none }, { seq := 8, step := 3, full := false, lost := [], caps := [{ slot := some 0, logical := 9, poison := false, batch := some 0, hash := (List.replicate 32 7), writer := none, place := none }], batches := [{ answered := true, confirmed := [], done := false }], walked := true, segment := none, root := none, wrote := 0, asking := false, poison := false, credit := 0 }, { answered := true, confirmed := [], done := false }, { slot := some 0, logical := 9, poison := false, batch := some 0, hash := (List.replicate 32 7), writer := none, place := none }, by
      unfold ckpRuns
      refine @of_decide_eq_true _ (by haveI := @decAllSome; haveI := @decExSome; haveI := @decOk; haveI := @decErr; infer_instance) ?_
      decide +kernel⟩),
   (⟨pool.getD 32 .reset, 1, { raw := ([1, 0, 0, 0, 0, 0, 4, 0, 85, 0, 0, 0, 0, 0, 0, 0, 6, 0, 3, 0, 0, 0, 2, 0, 232, 3, 0, 0, 0, 0, 0, 0, 0, 32, 0, 0, 0, 0, 0, 0, 77] ++ List.replicate 11 0 ++ [24, 0, 0, 0, 2, 0, 0, 0, 1] ++ List.replicate 15 0 ++ [1, 1, 0, 0, 0, 32, 0, 0, 0, 0, 0, 0, 1, 0, 0, 0, 0, 0, 0, 0, 100] ++ List.replicate 31 0), ranges := [{ addr := 3298535538688, pages := 4, logical := 7 }, { addr := 3298536194048, pages := 1, logical := 60 }], stepSeq := none, notice := none, lastStep := 3, lastTick := 0, now := false, nowFull := true, incr := 0, headKept := 0, number := 0, base := none, run := some { seq := 8, step := 3, full := false, lost := [], caps := [{ slot := some 0, logical := 9, poison := false, batch := some 0, hash := (List.replicate 32 7), writer := none, place := none }], batches := [{ answered := false, confirmed := [], done := false }], walked := false, segment := none, root := none, wrote := 0, asking := false, poison := false, credit := 0 }, restore := none }, { seq := 8, step := 3, full := false, lost := [], caps := [{ slot := some 0, logical := 9, poison := false, batch := some 0, hash := (List.replicate 32 7), writer := none, place := none }], batches := [{ answered := false, confirmed := [], done := false }], walked := false, segment := none, root := none, wrote := 0, asking := false, poison := false, credit := 0 }, { answered := false, confirmed := [], done := false }, { slot := some 0, logical := 9, poison := false, batch := some 0, hash := (List.replicate 32 7), writer := none, place := none }, 4096, by
      unfold ckpRuns
      refine @of_decide_eq_true _ (by haveI := @decAllSome; haveI := @decExSome; haveI := @decOk; haveI := @decErr; infer_instance) ?_
      decide +kernel⟩)⟩

theorem test_CheckpointEngine_witness11 :
    (∃ (s : State) (j : Fin 64) (x : CkpJob) (r : CkpRun) (b : CkpBatch) (c : CkpCap) (k : _), ckpRuns s.chip j x r ∧ r.asking = false ∧ r.batches = [b] ∧ r.caps = [c] ∧ c.batch = some 0 ∧ (k ≠ 0 ∨ b.answered = false)) ∧
    (∃ (s : State) (j : Fin 64) (x : CkpJob) (r : CkpRun) (b : CkpBatch) (c : CkpCap), ckpRuns s.chip j x r ∧ r.asking = false ∧ r.batches = [b] ∧ r.caps = [c] ∧ c.batch = some 0 ∧ c.writer = some (x.rank) ∧ c.place = none ∧ c.slot.isSome = true ∧ c.poison = false) :=
  ⟨(⟨pool.getD 32 .reset, 1, { raw := ([1, 0, 0, 0, 0, 0, 4, 0, 85, 0, 0, 0, 0, 0, 0, 0, 6, 0, 3, 0, 0, 0, 2, 0, 232, 3, 0, 0, 0, 0, 0, 0, 0, 32, 0, 0, 0, 0, 0, 0, 77] ++ List.replicate 11 0 ++ [24, 0, 0, 0, 2, 0, 0, 0, 1] ++ List.replicate 15 0 ++ [1, 1, 0, 0, 0, 32, 0, 0, 0, 0, 0, 0, 1, 0, 0, 0, 0, 0, 0, 0, 100] ++ List.replicate 31 0), ranges := [{ addr := 3298535538688, pages := 4, logical := 7 }, { addr := 3298536194048, pages := 1, logical := 60 }], stepSeq := none, notice := none, lastStep := 3, lastTick := 0, now := false, nowFull := true, incr := 0, headKept := 0, number := 0, base := none, run := some { seq := 8, step := 3, full := false, lost := [], caps := [{ slot := some 0, logical := 9, poison := false, batch := some 0, hash := (List.replicate 32 7), writer := none, place := none }], batches := [{ answered := false, confirmed := [], done := false }], walked := false, segment := none, root := none, wrote := 0, asking := false, poison := false, credit := 0 }, restore := none }, { seq := 8, step := 3, full := false, lost := [], caps := [{ slot := some 0, logical := 9, poison := false, batch := some 0, hash := (List.replicate 32 7), writer := none, place := none }], batches := [{ answered := false, confirmed := [], done := false }], walked := false, segment := none, root := none, wrote := 0, asking := false, poison := false, credit := 0 }, { answered := false, confirmed := [], done := false }, { slot := some 0, logical := 9, poison := false, batch := some 0, hash := (List.replicate 32 7), writer := none, place := none }, 4096, by
      unfold ckpRuns
      refine @of_decide_eq_true _ (by haveI := @decAllSome; haveI := @decExSome; haveI := @decOk; haveI := @decErr; infer_instance) ?_
      decide +kernel⟩),
   (⟨pool.getD 430 .reset, 1, { raw := ([1, 0, 0, 0, 0, 0, 4, 0, 85, 0, 0, 0, 0, 0, 0, 0, 6, 0, 3, 0, 0, 0, 2, 0, 232, 3, 0, 0, 0, 0, 0, 0, 0, 32, 0, 0, 0, 0, 0, 0, 77] ++ List.replicate 11 0 ++ [24, 0, 0, 0, 2, 0, 0, 0, 1] ++ List.replicate 15 0 ++ [1, 1, 0, 0, 0, 32, 0, 0, 0, 0, 0, 0, 1, 0, 0, 0, 0, 0, 0, 0, 100] ++ List.replicate 31 0), ranges := [{ addr := 3298535538688, pages := 4, logical := 7 }, { addr := 3298536194048, pages := 1, logical := 60 }], stepSeq := none, notice := none, lastStep := 3, lastTick := 0, now := false, nowFull := true, incr := 0, headKept := 0, number := 0, base := none, run := some { seq := 8, step := 3, full := false, lost := [], caps := [{ slot := some 0, logical := 9, poison := false, batch := some 0, hash := (List.replicate 32 7), writer := some 0, place := none }], batches := [{ answered := false, confirmed := [], done := false }], walked := false, segment := none, root := none, wrote := 0, asking := false, poison := false, credit := 0 }, restore := none }, { seq := 8, step := 3, full := false, lost := [], caps := [{ slot := some 0, logical := 9, poison := false, batch := some 0, hash := (List.replicate 32 7), writer := some 0, place := none }], batches := [{ answered := false, confirmed := [], done := false }], walked := false, segment := none, root := none, wrote := 0, asking := false, poison := false, credit := 0 }, { answered := false, confirmed := [], done := false }, { slot := some 0, logical := 9, poison := false, batch := some 0, hash := (List.replicate 32 7), writer := some 0, place := none }, by
      unfold ckpRuns
      refine @of_decide_eq_true _ (by haveI := @decAllSome; haveI := @decExSome; haveI := @decOk; haveI := @decErr; infer_instance) ?_
      decide +kernel⟩)⟩

theorem test_CheckpointEngine_witness12 :
    (∃ (s : State) (j : Fin 64) (x : CkpJob) (r : CkpRun) (b : CkpBatch) (c : CkpCap) (n : _), ckpRuns s.chip j x r ∧ r.asking = false ∧ r.batches = [b] ∧ r.caps = [c] ∧ c.batch = some 0 ∧ b.answered = true ∧ b.done = false ∧ c.writer = some n ∧ (x.rank ≠ n ∨ c.place.isSome = true ∨ c.slot = none ∨ c.poison = true)) ∧
    (∃ (s : State) (j : Fin 64) (x : CkpJob) (r : CkpRun) (k : Nat) (n : Nat) (b : CkpBatch) (pl : List (Nat × Nat × Nat)) (u : CkpRun × Bool), ckpRuns s.chip j x r ∧ r.batches[k]? = some b ∧ b.answered = true ∧ (x.rank ≠ n ∨ (∀ c ∈ r.caps, c.batch = some k → (r.toWrite n).contains c.logical = false)) ∧ u = CkpRun.settle { r with caps := r.caps.map (fun c => if c.batch = some k ∧ c.writer = some n ∧ c.place.isNone then { c with place := (pl.find? (fun p => p.1 = c.logical)).map (fun p => p.2) } else c), batches := (List.range r.batches.length).zip r.batches |>.map (fun y => if y.1 = k then { y.2 with confirmed := if y.2.confirmed.contains n then y.2.confirmed else y.2.confirmed ++ [n] } else y.2) } k) :=
  ⟨(⟨pool.getD 41 .reset, 1, { raw := ([1, 0, 0, 0, 0, 0, 4, 0, 85, 0, 0, 0, 0, 0, 0, 0, 6, 0, 3, 0, 0, 0, 2, 0, 232, 3, 0, 0, 0, 0, 0, 0, 0, 32, 0, 0, 0, 0, 0, 0, 77] ++ List.replicate 11 0 ++ [24, 0, 0, 0, 2, 0, 0, 0, 1] ++ List.replicate 15 0 ++ [1, 1, 0, 0, 0, 32, 0, 0, 0, 0, 0, 0, 1, 0, 0, 0, 0, 0, 0, 0, 100] ++ List.replicate 31 0), ranges := [{ addr := 3298535538688, pages := 4, logical := 7 }, { addr := 3298536194048, pages := 1, logical := 60 }], stepSeq := none, notice := none, lastStep := 3, lastTick := 0, now := false, nowFull := true, incr := 0, headKept := 0, number := 0, base := none, run := some { seq := 8, step := 3, full := false, lost := [], caps := [{ slot := some 0, logical := 9, poison := false, batch := some 0, hash := (List.replicate 32 7), writer := some 2, place := none }], batches := [{ answered := true, confirmed := [], done := false }], walked := false, segment := none, root := none, wrote := 0, asking := false, poison := false, credit := 0 }, restore := none }, { seq := 8, step := 3, full := false, lost := [], caps := [{ slot := some 0, logical := 9, poison := false, batch := some 0, hash := (List.replicate 32 7), writer := some 2, place := none }], batches := [{ answered := true, confirmed := [], done := false }], walked := false, segment := none, root := none, wrote := 0, asking := false, poison := false, credit := 0 }, { answered := true, confirmed := [], done := false }, { slot := some 0, logical := 9, poison := false, batch := some 0, hash := (List.replicate 32 7), writer := some 2, place := none }, 2, by
      unfold ckpRuns
      refine @of_decide_eq_true _ (by haveI := @decAllSome; haveI := @decExSome; haveI := @decOk; haveI := @decErr; infer_instance) ?_
      decide +kernel⟩),
   (⟨pool.getD 38 .reset, 1, { raw := ([1, 0, 0, 0, 0, 0, 4, 0, 85, 0, 0, 0, 0, 0, 0, 0, 6, 0, 3, 0, 0, 0, 2, 0, 232, 3, 0, 0, 0, 0, 0, 0, 0, 32, 0, 0, 0, 0, 0, 0, 77] ++ List.replicate 11 0 ++ [24, 0, 0, 0, 2, 0, 0, 0, 1] ++ List.replicate 15 0 ++ [1, 1, 0, 0, 0, 32, 0, 0, 0, 0, 0, 0, 1, 0, 0, 0, 0, 0, 0, 0, 100] ++ List.replicate 31 0), ranges := [{ addr := 3298535538688, pages := 4, logical := 7 }, { addr := 3298536194048, pages := 1, logical := 60 }], stepSeq := none, notice := none, lastStep := 3, lastTick := 0, now := false, nowFull := true, incr := 0, headKept := 0, number := 0, base := none, run := some { seq := 8, step := 3, full := false, lost := [], caps := [{ slot := some 0, logical := 9, poison := false, batch := some 0, hash := (List.replicate 32 7), writer := none, place := none }], batches := [{ answered := true, confirmed := [], done := false }], walked := true, segment := none, root := none, wrote := 0, asking := false, poison := false, credit := 0 }, restore := none }, { seq := 8, step := 3, full := false, lost := [], caps := [{ slot := some 0, logical := 9, poison := false, batch := some 0, hash := (List.replicate 32 7), writer := none, place := none }], batches := [{ answered := true, confirmed := [], done := false }], walked := true, segment := none, root := none, wrote := 0, asking := false, poison := false, credit := 0 }, 0, 4096, { answered := true, confirmed := [], done := false }, [(9, 50, 0)], ({ seq := 8, step := 3, full := false, lost := [], caps := [{ slot := none, logical := 9, poison := false, batch := some 0, hash := (List.replicate 32 7), writer := none, place := none }], batches := [{ answered := true, confirmed := [4096], done := true }], walked := true, segment := none, root := none, wrote := 0, asking := false, poison := false, credit := 0 }, true), by
      unfold ckpRuns
      refine @of_decide_eq_true _ (by haveI := @decAllSome; haveI := @decExSome; haveI := @decOk; haveI := @decErr; infer_instance) ?_
      decide +kernel⟩)⟩

theorem test_CheckpointEngine_witness13 :
    (∃ (s : State) (j : Fin 64) (x : CkpJob) (r : CkpRun), ckpRuns s.chip j x r) ∧
    (∃ (s : State) (j : Fin 64) (x : CkpJob) (r : CkpRun), ckpRuns s.chip j x r ∧ r.lost.contains 0 = false ∧ x.rank ≠ 0 ∧ 0 < x.nodes) :=
  ⟨(⟨pool.getD 5 .reset, 1, { raw := ([1, 0, 0, 0, 0, 0, 4, 0, 85, 0, 0, 0, 0, 0, 0, 0, 6, 0, 3, 0, 0, 0, 2, 0, 232, 3, 0, 0, 0, 0, 0, 0, 0, 32, 0, 0, 0, 0, 0, 0, 77] ++ List.replicate 11 0 ++ [24, 0, 0, 0, 2, 0, 0, 0, 1] ++ List.replicate 15 0 ++ [1, 1, 0, 0, 0, 32, 0, 0, 0, 0, 0, 0, 1, 0, 0, 0, 0, 0, 0, 0, 100] ++ List.replicate 31 0), ranges := [{ addr := 3298535538688, pages := 4, logical := 7 }, { addr := 3298536194048, pages := 1, logical := 60 }], stepSeq := none, notice := none, lastStep := 3, lastTick := 0, now := false, nowFull := true, incr := 0, headKept := 0, number := 0, base := none, run := some { seq := 8, step := 3, full := false, lost := [], caps := [], batches := [], walked := false, segment := none, root := none, wrote := 0, asking := false, poison := false, credit := 0 }, restore := none }, { seq := 8, step := 3, full := false, lost := [], caps := [], batches := [], walked := false, segment := none, root := none, wrote := 0, asking := false, poison := false, credit := 0 }, by
      unfold ckpRuns
      refine @of_decide_eq_true _ (by haveI := @decAllSome; haveI := @decExSome; haveI := @decOk; haveI := @decErr; infer_instance) ?_
      decide +kernel⟩),
   (⟨pool.getD 7 .reset, 1, { raw := ([1, 0, 0, 0, 1, 0, 4, 0, 85, 0, 0, 0, 0, 0, 0, 0, 6, 0, 3, 0, 0, 0, 2, 0, 232, 3, 0, 0, 0, 0, 0, 0, 0, 32, 0, 0, 0, 0, 0, 0, 77] ++ List.replicate 11 0 ++ [24, 0, 0, 0, 2, 0, 0, 0, 1] ++ List.replicate 15 0 ++ [1, 1, 0, 0, 0, 32, 0, 0, 0, 0, 0, 0, 1, 0, 0, 0, 0, 0, 0, 0, 100] ++ List.replicate 31 0), ranges := [{ addr := 3298535538688, pages := 4, logical := 7 }, { addr := 3298536194048, pages := 1, logical := 60 }], stepSeq := none, notice := none, lastStep := 3, lastTick := 0, now := false, nowFull := true, incr := 0, headKept := 0, number := 0, base := none, run := some { seq := 8, step := 3, full := false, lost := [], caps := [], batches := [], walked := false, segment := none, root := none, wrote := 0, asking := false, poison := false, credit := 0 }, restore := none }, { seq := 8, step := 3, full := false, lost := [], caps := [], batches := [], walked := false, segment := none, root := none, wrote := 0, asking := false, poison := false, credit := 0 }, by
      unfold ckpRuns
      refine @of_decide_eq_true _ (by haveI := @decAllSome; haveI := @decExSome; haveI := @decOk; haveI := @decErr; infer_instance) ?_
      decide +kernel⟩)⟩

theorem test_CheckpointEngine_witness14 :
    (∃ (s : State) (j : Fin 64) (x : CkpJob) (r : CkpRun) (n : _), ckpRuns s.chip j x r ∧ r.lost.contains n = false ∧ n ≠ 0 ∧ x.rank = 0 ∧ n < x.nodes) ∧
    (∃ (s : State) (j : Fin 64) (x : CkpJob) (r : CkpRun), ckpRuns s.chip j x r ∧ x.rank = 0 ∧ r.segment.isSome = true ∧ r.root = none ∧ r.asking = false ∧ s.chip.running .ckp = true ∧ s.chip.spent x.plan = false) :=
  ⟨(⟨pool.getD 5 .reset, 1, { raw := ([1, 0, 0, 0, 0, 0, 4, 0, 85, 0, 0, 0, 0, 0, 0, 0, 6, 0, 3, 0, 0, 0, 2, 0, 232, 3, 0, 0, 0, 0, 0, 0, 0, 32, 0, 0, 0, 0, 0, 0, 77] ++ List.replicate 11 0 ++ [24, 0, 0, 0, 2, 0, 0, 0, 1] ++ List.replicate 15 0 ++ [1, 1, 0, 0, 0, 32, 0, 0, 0, 0, 0, 0, 1, 0, 0, 0, 0, 0, 0, 0, 100] ++ List.replicate 31 0), ranges := [{ addr := 3298535538688, pages := 4, logical := 7 }, { addr := 3298536194048, pages := 1, logical := 60 }], stepSeq := none, notice := none, lastStep := 3, lastTick := 0, now := false, nowFull := true, incr := 0, headKept := 0, number := 0, base := none, run := some { seq := 8, step := 3, full := false, lost := [], caps := [], batches := [], walked := false, segment := none, root := none, wrote := 0, asking := false, poison := false, credit := 0 }, restore := none }, { seq := 8, step := 3, full := false, lost := [], caps := [], batches := [], walked := false, segment := none, root := none, wrote := 0, asking := false, poison := false, credit := 0 }, 1, by
      unfold ckpRuns
      refine @of_decide_eq_true _ (by haveI := @decAllSome; haveI := @decExSome; haveI := @decOk; haveI := @decErr; infer_instance) ?_
      decide +kernel⟩),
   (⟨pool.getD 50 .reset, 1, { raw := ([1, 0, 0, 0, 0, 0, 4, 0, 85, 0, 0, 0, 0, 0, 0, 0, 6, 0, 3, 0, 0, 0, 2, 0, 232, 3, 0, 0, 0, 0, 0, 0, 0, 32, 0, 0, 0, 0, 0, 0, 77] ++ List.replicate 11 0 ++ [24, 0, 0, 0, 2, 0, 0, 0, 1] ++ List.replicate 15 0 ++ [1, 1, 0, 0, 0, 32, 0, 0, 0, 0, 0, 0, 1, 0, 0, 0, 0, 0, 0, 0, 100] ++ List.replicate 31 0), ranges := [{ addr := 3298535538688, pages := 4, logical := 7 }, { addr := 3298536194048, pages := 1, logical := 60 }], stepSeq := none, notice := none, lastStep := 3, lastTick := 0, now := false, nowFull := true, incr := 0, headKept := 0, number := 0, base := none, run := some { seq := 8, step := 3, full := false, lost := [], caps := [], batches := [], walked := true, segment := some (3, 3, 3, []), root := none, wrote := 0, asking := false, poison := false, credit := 0 }, restore := none }, { seq := 8, step := 3, full := false, lost := [], caps := [], batches := [], walked := true, segment := some (3, 3, 3, []), root := none, wrote := 0, asking := false, poison := false, credit := 0 }, by
      unfold ckpRuns
      refine @of_decide_eq_true _ (by haveI := @decAllSome; haveI := @decExSome; haveI := @decOk; haveI := @decErr; infer_instance) ?_
      decide +kernel⟩)⟩

theorem test_CheckpointEngine_witness15 :
    (∃ (s : State) (j : Fin 64) (x : CkpJob) (r : CkpRun), ckpRuns s.chip j x r ∧ ckpOpen s.chip j r) ∧
    (∃ (s : State) (j : Fin 64) (x : CkpJob) (r : CkpRun), ckpRuns s.chip j x r ∧ ckpOpen s.chip j r ∧ r.lost.contains 0 = false ∧ x.rank ≠ 0 ∧ 0 < x.nodes) :=
  ⟨(⟨pool.getD 5 .reset, 1, { raw := ([1, 0, 0, 0, 0, 0, 4, 0, 85, 0, 0, 0, 0, 0, 0, 0, 6, 0, 3, 0, 0, 0, 2, 0, 232, 3, 0, 0, 0, 0, 0, 0, 0, 32, 0, 0, 0, 0, 0, 0, 77] ++ List.replicate 11 0 ++ [24, 0, 0, 0, 2, 0, 0, 0, 1] ++ List.replicate 15 0 ++ [1, 1, 0, 0, 0, 32, 0, 0, 0, 0, 0, 0, 1, 0, 0, 0, 0, 0, 0, 0, 100] ++ List.replicate 31 0), ranges := [{ addr := 3298535538688, pages := 4, logical := 7 }, { addr := 3298536194048, pages := 1, logical := 60 }], stepSeq := none, notice := none, lastStep := 3, lastTick := 0, now := false, nowFull := true, incr := 0, headKept := 0, number := 0, base := none, run := some { seq := 8, step := 3, full := false, lost := [], caps := [], batches := [], walked := false, segment := none, root := none, wrote := 0, asking := false, poison := false, credit := 0 }, restore := none }, { seq := 8, step := 3, full := false, lost := [], caps := [], batches := [], walked := false, segment := none, root := none, wrote := 0, asking := false, poison := false, credit := 0 }, by
      unfold ckpRuns ckpOpen
      refine @of_decide_eq_true _ (by haveI := @decAllSome; haveI := @decExSome; haveI := @decOk; haveI := @decErr; infer_instance) ?_
      decide +kernel⟩),
   (⟨pool.getD 7 .reset, 1, { raw := ([1, 0, 0, 0, 1, 0, 4, 0, 85, 0, 0, 0, 0, 0, 0, 0, 6, 0, 3, 0, 0, 0, 2, 0, 232, 3, 0, 0, 0, 0, 0, 0, 0, 32, 0, 0, 0, 0, 0, 0, 77] ++ List.replicate 11 0 ++ [24, 0, 0, 0, 2, 0, 0, 0, 1] ++ List.replicate 15 0 ++ [1, 1, 0, 0, 0, 32, 0, 0, 0, 0, 0, 0, 1, 0, 0, 0, 0, 0, 0, 0, 100] ++ List.replicate 31 0), ranges := [{ addr := 3298535538688, pages := 4, logical := 7 }, { addr := 3298536194048, pages := 1, logical := 60 }], stepSeq := none, notice := none, lastStep := 3, lastTick := 0, now := false, nowFull := true, incr := 0, headKept := 0, number := 0, base := none, run := some { seq := 8, step := 3, full := false, lost := [], caps := [], batches := [], walked := false, segment := none, root := none, wrote := 0, asking := false, poison := false, credit := 0 }, restore := none }, { seq := 8, step := 3, full := false, lost := [], caps := [], batches := [], walked := false, segment := none, root := none, wrote := 0, asking := false, poison := false, credit := 0 }, by
      unfold ckpRuns ckpOpen
      refine @of_decide_eq_true _ (by haveI := @decAllSome; haveI := @decExSome; haveI := @decOk; haveI := @decErr; infer_instance) ?_
      decide +kernel⟩)⟩

theorem test_CheckpointEngine_witness16 :
    (∃ (s : State) (j : Fin 64) (x : CkpJob) (r : CkpRun) (n : _), ckpRuns s.chip j x r ∧ ckpOpen s.chip j r ∧ r.lost.contains n = false ∧ n ≠ 0 ∧ x.rank = 0 ∧ n < x.nodes) ∧
    (∃ (s : State) (j : Fin 64) (x : CkpJob) (r : CkpRun), ckpRuns s.chip j x r ∧ ckpOpen s.chip j r ∧ x.rank = 0 ∧ r.segment.isSome = true ∧ r.root = none ∧ r.asking = false ∧ s.chip.running .ckp = true ∧ s.chip.spent x.plan = false) :=
  ⟨(⟨pool.getD 5 .reset, 1, { raw := ([1, 0, 0, 0, 0, 0, 4, 0, 85, 0, 0, 0, 0, 0, 0, 0, 6, 0, 3, 0, 0, 0, 2, 0, 232, 3, 0, 0, 0, 0, 0, 0, 0, 32, 0, 0, 0, 0, 0, 0, 77] ++ List.replicate 11 0 ++ [24, 0, 0, 0, 2, 0, 0, 0, 1] ++ List.replicate 15 0 ++ [1, 1, 0, 0, 0, 32, 0, 0, 0, 0, 0, 0, 1, 0, 0, 0, 0, 0, 0, 0, 100] ++ List.replicate 31 0), ranges := [{ addr := 3298535538688, pages := 4, logical := 7 }, { addr := 3298536194048, pages := 1, logical := 60 }], stepSeq := none, notice := none, lastStep := 3, lastTick := 0, now := false, nowFull := true, incr := 0, headKept := 0, number := 0, base := none, run := some { seq := 8, step := 3, full := false, lost := [], caps := [], batches := [], walked := false, segment := none, root := none, wrote := 0, asking := false, poison := false, credit := 0 }, restore := none }, { seq := 8, step := 3, full := false, lost := [], caps := [], batches := [], walked := false, segment := none, root := none, wrote := 0, asking := false, poison := false, credit := 0 }, 1, by
      unfold ckpRuns ckpOpen
      refine @of_decide_eq_true _ (by haveI := @decAllSome; haveI := @decExSome; haveI := @decOk; haveI := @decErr; infer_instance) ?_
      decide +kernel⟩),
   (⟨pool.getD 50 .reset, 1, { raw := ([1, 0, 0, 0, 0, 0, 4, 0, 85, 0, 0, 0, 0, 0, 0, 0, 6, 0, 3, 0, 0, 0, 2, 0, 232, 3, 0, 0, 0, 0, 0, 0, 0, 32, 0, 0, 0, 0, 0, 0, 77] ++ List.replicate 11 0 ++ [24, 0, 0, 0, 2, 0, 0, 0, 1] ++ List.replicate 15 0 ++ [1, 1, 0, 0, 0, 32, 0, 0, 0, 0, 0, 0, 1, 0, 0, 0, 0, 0, 0, 0, 100] ++ List.replicate 31 0), ranges := [{ addr := 3298535538688, pages := 4, logical := 7 }, { addr := 3298536194048, pages := 1, logical := 60 }], stepSeq := none, notice := none, lastStep := 3, lastTick := 0, now := false, nowFull := true, incr := 0, headKept := 0, number := 0, base := none, run := some { seq := 8, step := 3, full := false, lost := [], caps := [], batches := [], walked := true, segment := some (3, 3, 3, []), root := none, wrote := 0, asking := false, poison := false, credit := 0 }, restore := none }, { seq := 8, step := 3, full := false, lost := [], caps := [], batches := [], walked := true, segment := some (3, 3, 3, []), root := none, wrote := 0, asking := false, poison := false, credit := 0 }, by
      unfold ckpRuns ckpOpen
      refine @of_decide_eq_true _ (by haveI := @decAllSome; haveI := @decExSome; haveI := @decOk; haveI := @decErr; infer_instance) ?_
      decide +kernel⟩)⟩

theorem test_CheckpointEngine_witness17 :
    (∃ (s : State) (j : Fin 64) (x : CkpJob) (r : CkpRun) (n : Nat), ckpRuns s.chip j x r ∧ (r.lost.contains n = true ∨ n = x.rank ∨ x.nodes ≤ n)) ∧
    (∃ (s : State) (j : Fin 64) (x : CkpJob) (r : CkpRun) (n : Nat) (cv : _), ckpRuns s.chip j x r ∧ r.lost.contains n = false ∧ n ≠ x.rank ∧ n < x.nodes ∧ n ≠ 0 ∧ r.caps = [] ∧ (x.rank ≠ 0 ∨ cv = true)) :=
  ⟨(⟨pool.getD 5 .reset, 1, { raw := ([1, 0, 0, 0, 0, 0, 4, 0, 85, 0, 0, 0, 0, 0, 0, 0, 6, 0, 3, 0, 0, 0, 2, 0, 232, 3, 0, 0, 0, 0, 0, 0, 0, 32, 0, 0, 0, 0, 0, 0, 77] ++ List.replicate 11 0 ++ [24, 0, 0, 0, 2, 0, 0, 0, 1] ++ List.replicate 15 0 ++ [1, 1, 0, 0, 0, 32, 0, 0, 0, 0, 0, 0, 1, 0, 0, 0, 0, 0, 0, 0, 100] ++ List.replicate 31 0), ranges := [{ addr := 3298535538688, pages := 4, logical := 7 }, { addr := 3298536194048, pages := 1, logical := 60 }], stepSeq := none, notice := none, lastStep := 3, lastTick := 0, now := false, nowFull := true, incr := 0, headKept := 0, number := 0, base := none, run := some { seq := 8, step := 3, full := false, lost := [], caps := [], batches := [], walked := false, segment := none, root := none, wrote := 0, asking := false, poison := false, credit := 0 }, restore := none }, { seq := 8, step := 3, full := false, lost := [], caps := [], batches := [], walked := false, segment := none, root := none, wrote := 0, asking := false, poison := false, credit := 0 }, 4096, by
      unfold ckpRuns
      refine @of_decide_eq_true _ (by haveI := @decAllSome; haveI := @decExSome; haveI := @decOk; haveI := @decErr; infer_instance) ?_
      decide +kernel⟩),
   (⟨pool.getD 5 .reset, 1, { raw := ([1, 0, 0, 0, 0, 0, 4, 0, 85, 0, 0, 0, 0, 0, 0, 0, 6, 0, 3, 0, 0, 0, 2, 0, 232, 3, 0, 0, 0, 0, 0, 0, 0, 32, 0, 0, 0, 0, 0, 0, 77] ++ List.replicate 11 0 ++ [24, 0, 0, 0, 2, 0, 0, 0, 1] ++ List.replicate 15 0 ++ [1, 1, 0, 0, 0, 32, 0, 0, 0, 0, 0, 0, 1, 0, 0, 0, 0, 0, 0, 0, 100] ++ List.replicate 31 0), ranges := [{ addr := 3298535538688, pages := 4, logical := 7 }, { addr := 3298536194048, pages := 1, logical := 60 }], stepSeq := none, notice := none, lastStep := 3, lastTick := 0, now := false, nowFull := true, incr := 0, headKept := 0, number := 0, base := none, run := some { seq := 8, step := 3, full := false, lost := [], caps := [], batches := [], walked := false, segment := none, root := none, wrote := 0, asking := false, poison := false, credit := 0 }, restore := none }, { seq := 8, step := 3, full := false, lost := [], caps := [], batches := [], walked := false, segment := none, root := none, wrote := 0, asking := false, poison := false, credit := 0 }, 1, true, by
      unfold ckpRuns
      refine @of_decide_eq_true _ (by haveI := @decAllSome; haveI := @decExSome; haveI := @decOk; haveI := @decErr; infer_instance) ?_
      decide +kernel⟩)⟩

theorem test_CheckpointEngine_witness18 :
    (∃ (s : State) (j : Fin 64) (x : CkpJob) (r : CkpRun) (n : Nat) (c : _) (b : _) (cv : _), ckpRuns s.chip j x r ∧ r.lost.contains n = false ∧ n ≠ x.rank ∧ n < x.nodes ∧ n ≠ 0 ∧ (x.rank ≠ 0 ∨ cv = true) ∧ r.caps = [c] ∧ c.writer = some n ∧ c.slot.isSome = true ∧ c.batch = some 0 ∧ r.batches = [b] ∧ b.confirmed.contains n = false) ∧
    (∃ (s : State) (j : Fin 64) (x : CkpJob) (r : CkpRun), ckpRuns s.chip j x r ∧ (r.asking = true ∨ r.walked = false ∨ (∃ c ∈ r.caps, c.batch = none) ∨ (∃ b ∈ r.batches, b.done = false) ∨ r.segment.isSome = true ∨ s.chip.running .ckp = false ∨ s.chip.spent x.plan = true)) :=
  ⟨(⟨pool.getD 41 .reset, 1, { raw := ([1, 0, 0, 0, 0, 0, 4, 0, 85, 0, 0, 0, 0, 0, 0, 0, 6, 0, 3, 0, 0, 0, 2, 0, 232, 3, 0, 0, 0, 0, 0, 0, 0, 32, 0, 0, 0, 0, 0, 0, 77] ++ List.replicate 11 0 ++ [24, 0, 0, 0, 2, 0, 0, 0, 1] ++ List.replicate 15 0 ++ [1, 1, 0, 0, 0, 32, 0, 0, 0, 0, 0, 0, 1, 0, 0, 0, 0, 0, 0, 0, 100] ++ List.replicate 31 0), ranges := [{ addr := 3298535538688, pages := 4, logical := 7 }, { addr := 3298536194048, pages := 1, logical := 60 }], stepSeq := none, notice := none, lastStep := 3, lastTick := 0, now := false, nowFull := true, incr := 0, headKept := 0, number := 0, base := none, run := some { seq := 8, step := 3, full := false, lost := [], caps := [{ slot := some 0, logical := 9, poison := false, batch := some 0, hash := (List.replicate 32 7), writer := some 2, place := none }], batches := [{ answered := true, confirmed := [], done := false }], walked := false, segment := none, root := none, wrote := 0, asking := false, poison := false, credit := 0 }, restore := none }, { seq := 8, step := 3, full := false, lost := [], caps := [{ slot := some 0, logical := 9, poison := false, batch := some 0, hash := (List.replicate 32 7), writer := some 2, place := none }], batches := [{ answered := true, confirmed := [], done := false }], walked := false, segment := none, root := none, wrote := 0, asking := false, poison := false, credit := 0 }, 2, { slot := some 0, logical := 9, poison := false, batch := some 0, hash := (List.replicate 32 7), writer := some 2, place := none }, { answered := true, confirmed := [], done := false }, true, by
      unfold ckpRuns
      refine @of_decide_eq_true _ (by haveI := @decAllSome; haveI := @decExSome; haveI := @decOk; haveI := @decErr; infer_instance) ?_
      decide +kernel⟩),
   (⟨pool.getD 5 .reset, 1, { raw := ([1, 0, 0, 0, 0, 0, 4, 0, 85, 0, 0, 0, 0, 0, 0, 0, 6, 0, 3, 0, 0, 0, 2, 0, 232, 3, 0, 0, 0, 0, 0, 0, 0, 32, 0, 0, 0, 0, 0, 0, 77] ++ List.replicate 11 0 ++ [24, 0, 0, 0, 2, 0, 0, 0, 1] ++ List.replicate 15 0 ++ [1, 1, 0, 0, 0, 32, 0, 0, 0, 0, 0, 0, 1, 0, 0, 0, 0, 0, 0, 0, 100] ++ List.replicate 31 0), ranges := [{ addr := 3298535538688, pages := 4, logical := 7 }, { addr := 3298536194048, pages := 1, logical := 60 }], stepSeq := none, notice := none, lastStep := 3, lastTick := 0, now := false, nowFull := true, incr := 0, headKept := 0, number := 0, base := none, run := some { seq := 8, step := 3, full := false, lost := [], caps := [], batches := [], walked := false, segment := none, root := none, wrote := 0, asking := false, poison := false, credit := 0 }, restore := none }, { seq := 8, step := 3, full := false, lost := [], caps := [], batches := [], walked := false, segment := none, root := none, wrote := 0, asking := false, poison := false, credit := 0 }, by
      unfold ckpRuns
      refine @of_decide_eq_true _ (by haveI := @decAllSome; haveI := @decExSome; haveI := @decOk; haveI := @decErr; infer_instance) ?_
      decide +kernel⟩)⟩

theorem test_CheckpointEngine_witness19 :
    (∃ (s : State) (j : Fin 64) (x : CkpJob) (r : CkpRun), ckpRuns s.chip j x r ∧ r.asking = false ∧ r.allConfirmed = true ∧ r.segment = none ∧ s.chip.running .ckp = true ∧ s.chip.spent x.plan = false ∧ s.chip.storePut j x (if ((r.caps.foldr insertCap []).flatMap (segEntry r.step)).isEmpty then List.replicate 4096 0 else ((r.caps.foldr insertCap []).flatMap (segEntry r.step))) = none) ∧
    (∃ (s : State) (j : Fin 64) (x : CkpJob) (r : CkpRun) (e : _) (lba : _), ckpRuns s.chip j x r ∧ r.asking = false ∧ r.allConfirmed = true ∧ r.segment = none ∧ s.chip.running .ckp = true ∧ s.chip.spent x.plan = false ∧ s.chip.storePut j x (if ((r.caps.foldr insertCap []).flatMap (segEntry r.step)).isEmpty then List.replicate 4096 0 else ((r.caps.foldr insertCap []).flatMap (segEntry r.step))) = some (e, lba)) :=
  ⟨(⟨pool.getD 435 .reset, 1, { raw := ([1, 0, 0, 0, 0, 0, 4, 0, 85, 0, 0, 0, 0, 0, 0, 0, 6, 0, 3, 0, 0, 0, 2, 0, 232, 3, 0, 0, 0, 0, 0, 0, 0, 32, 0, 0, 0, 0, 0, 0, 77] ++ List.replicate 11 0 ++ [24, 0, 0, 0, 2, 0, 0, 0, 1] ++ List.replicate 15 0 ++ [1, 1, 0, 0, 0, 32, 0, 0, 0, 0, 0, 0, 1, 0, 0, 0, 0, 0, 0, 0, 100] ++ List.replicate 31 0), ranges := [{ addr := 3298535538688, pages := 4, logical := 7 }, { addr := 3298536194048, pages := 1, logical := 60 }], stepSeq := none, notice := none, lastStep := 3, lastTick := 0, now := false, nowFull := true, incr := 0, headKept := 0, number := 0, base := none, run := some { seq := 8, step := 3, full := false, lost := [], caps := [], batches := [{ answered := true, confirmed := [], done := true }], walked := true, segment := none, root := none, wrote := 0, asking := false, poison := false, credit := 0 }, restore := none }, { seq := 8, step := 3, full := false, lost := [], caps := [], batches := [{ answered := true, confirmed := [], done := true }], walked := true, segment := none, root := none, wrote := 0, asking := false, poison := false, credit := 0 }, by
      unfold ckpRuns
      refine @of_decide_eq_true _ (by haveI := @decAllSome; haveI := @decExSome; haveI := @decOk; haveI := @decErr; infer_instance) ?_
      decide +kernel⟩),
   (⟨pool.getD 29 .reset, 1, { raw := ([1, 0, 0, 0, 0, 0, 4, 0, 85, 0, 0, 0, 0, 0, 0, 0, 6, 0, 3, 0, 0, 0, 2, 0, 232, 3, 0, 0, 0, 0, 0, 0, 0, 32, 0, 0, 0, 0, 0, 0, 77] ++ List.replicate 11 0 ++ [24, 0, 0, 0, 2, 0, 0, 0, 1] ++ List.replicate 15 0 ++ [1, 1, 0, 0, 0, 32, 0, 0, 0, 0, 0, 0, 1, 0, 0, 0, 0, 0, 0, 0, 100] ++ List.replicate 31 0), ranges := [{ addr := 3298535538688, pages := 4, logical := 7 }, { addr := 3298536194048, pages := 1, logical := 60 }], stepSeq := none, notice := none, lastStep := 3, lastTick := 0, now := false, nowFull := true, incr := 0, headKept := 0, number := 0, base := none, run := some { seq := 8, step := 3, full := false, lost := [], caps := [], batches := [], walked := true, segment := none, root := none, wrote := 0, asking := false, poison := false, credit := 0 }, restore := none }, { seq := 8, step := 3, full := false, lost := [], caps := [], batches := [], walked := true, segment := none, root := none, wrote := 0, asking := false, poison := false, credit := 0 }, (((pool.getD 29 .reset).chip.storePut (1) (({ raw := ([1, 0, 0, 0, 0, 0, 4, 0, 85, 0, 0, 0, 0, 0, 0, 0, 6, 0, 3, 0, 0, 0, 2, 0, 232, 3, 0, 0, 0, 0, 0, 0, 0, 32, 0, 0, 0, 0, 0, 0, 77] ++ List.replicate 11 0 ++ [24, 0, 0, 0, 2, 0, 0, 0, 1] ++ List.replicate 15 0 ++ [1, 1, 0, 0, 0, 32, 0, 0, 0, 0, 0, 0, 1, 0, 0, 0, 0, 0, 0, 0, 100] ++ List.replicate 31 0), ranges := [{ addr := 3298535538688, pages := 4, logical := 7 }, { addr := 3298536194048, pages := 1, logical := 60 }], stepSeq := none, notice := none, lastStep := 3, lastTick := 0, now := false, nowFull := true, incr := 0, headKept := 0, number := 0, base := none, run := some { seq := 8, step := 3, full := false, lost := [], caps := [], batches := [], walked := true, segment := none, root := none, wrote := 0, asking := false, poison := false, credit := 0 }, restore := none } : CkpJob)) (if (((({ seq := 8, step := 3, full := false, lost := [], caps := [], batches := [], walked := true, segment := none, root := none, wrote := 0, asking := false, poison := false, credit := 0 } : CkpRun)).caps.foldr insertCap []).flatMap (segEntry (({ seq := 8, step := 3, full := false, lost := [], caps := [], batches := [], walked := true, segment := none, root := none, wrote := 0, asking := false, poison := false, credit := 0 } : CkpRun)).step)).isEmpty then List.replicate 4096 0 else (((({ seq := 8, step := 3, full := false, lost := [], caps := [], batches := [], walked := true, segment := none, root := none, wrote := 0, asking := false, poison := false, credit := 0 } : CkpRun)).caps.foldr insertCap []).flatMap (segEntry (({ seq := 8, step := 3, full := false, lost := [], caps := [], batches := [], walked := true, segment := none, root := none, wrote := 0, asking := false, poison := false, credit := 0 } : CkpRun)).step)))).map Prod.fst).getD {}, 1000, by unfold ckpRuns; refine @of_decide_eq_true _ (by haveI := @decAllSome; haveI := @decExSome; haveI := @decOk; haveI := @decErr; infer_instance) ?_; decide +kernel, by decide +kernel, by decide +kernel, by decide +kernel, by decide +kernel, by decide +kernel, by decide +kernel⟩)⟩

theorem test_CheckpointEngine_witness20 :
    (∃ (s : State) (j : Fin 64) (x : CkpJob) (r : CkpRun) (e : _) (lba : _), ckpRuns s.chip j x r ∧ r.asking = false ∧ r.walked = true ∧ r.caps = [] ∧ (∀ b ∈ r.batches, b.done = true) ∧ r.segment = none ∧ s.chip.running .ckp = true ∧ s.chip.spent x.plan = false ∧ s.chip.storePut j x (List.replicate 4096 0) = some (e, lba)) ∧
    (∃ (s : State) (j : Fin 64) (x : CkpJob) (r : CkpRun), ckpRuns s.chip j x r ∧ (x.rank ≠ 0 ∨ r.segment = none ∨ r.root.isSome = true ∨ r.asking = true ∨ s.chip.running .ckp = false ∨ s.chip.spent x.plan = true)) :=
  ⟨(⟨pool.getD 29 .reset, 1, { raw := ([1, 0, 0, 0, 0, 0, 4, 0, 85, 0, 0, 0, 0, 0, 0, 0, 6, 0, 3, 0, 0, 0, 2, 0, 232, 3, 0, 0, 0, 0, 0, 0, 0, 32, 0, 0, 0, 0, 0, 0, 77] ++ List.replicate 11 0 ++ [24, 0, 0, 0, 2, 0, 0, 0, 1] ++ List.replicate 15 0 ++ [1, 1, 0, 0, 0, 32, 0, 0, 0, 0, 0, 0, 1, 0, 0, 0, 0, 0, 0, 0, 100] ++ List.replicate 31 0), ranges := [{ addr := 3298535538688, pages := 4, logical := 7 }, { addr := 3298536194048, pages := 1, logical := 60 }], stepSeq := none, notice := none, lastStep := 3, lastTick := 0, now := false, nowFull := true, incr := 0, headKept := 0, number := 0, base := none, run := some { seq := 8, step := 3, full := false, lost := [], caps := [], batches := [], walked := true, segment := none, root := none, wrote := 0, asking := false, poison := false, credit := 0 }, restore := none }, { seq := 8, step := 3, full := false, lost := [], caps := [], batches := [], walked := true, segment := none, root := none, wrote := 0, asking := false, poison := false, credit := 0 }, (((pool.getD 29 .reset).chip.storePut (1) (({ raw := ([1, 0, 0, 0, 0, 0, 4, 0, 85, 0, 0, 0, 0, 0, 0, 0, 6, 0, 3, 0, 0, 0, 2, 0, 232, 3, 0, 0, 0, 0, 0, 0, 0, 32, 0, 0, 0, 0, 0, 0, 77] ++ List.replicate 11 0 ++ [24, 0, 0, 0, 2, 0, 0, 0, 1] ++ List.replicate 15 0 ++ [1, 1, 0, 0, 0, 32, 0, 0, 0, 0, 0, 0, 1, 0, 0, 0, 0, 0, 0, 0, 100] ++ List.replicate 31 0), ranges := [{ addr := 3298535538688, pages := 4, logical := 7 }, { addr := 3298536194048, pages := 1, logical := 60 }], stepSeq := none, notice := none, lastStep := 3, lastTick := 0, now := false, nowFull := true, incr := 0, headKept := 0, number := 0, base := none, run := some { seq := 8, step := 3, full := false, lost := [], caps := [], batches := [], walked := true, segment := none, root := none, wrote := 0, asking := false, poison := false, credit := 0 }, restore := none } : CkpJob)) (List.replicate 4096 0)).map Prod.fst).getD {}, 1000, by unfold ckpRuns; refine @of_decide_eq_true _ (by haveI := @decAllSome; haveI := @decExSome; haveI := @decOk; haveI := @decErr; infer_instance) ?_; decide +kernel, by decide +kernel, by decide +kernel, by decide +kernel, by refine @of_decide_eq_true _ (by haveI := @decAllSome; haveI := @decExSome; haveI := @decOk; haveI := @decErr; infer_instance) ?_; decide +kernel, by decide +kernel, by decide +kernel, by decide +kernel, by decide +kernel⟩),
   (⟨pool.getD 5 .reset, 1, { raw := ([1, 0, 0, 0, 0, 0, 4, 0, 85, 0, 0, 0, 0, 0, 0, 0, 6, 0, 3, 0, 0, 0, 2, 0, 232, 3, 0, 0, 0, 0, 0, 0, 0, 32, 0, 0, 0, 0, 0, 0, 77] ++ List.replicate 11 0 ++ [24, 0, 0, 0, 2, 0, 0, 0, 1] ++ List.replicate 15 0 ++ [1, 1, 0, 0, 0, 32, 0, 0, 0, 0, 0, 0, 1, 0, 0, 0, 0, 0, 0, 0, 100] ++ List.replicate 31 0), ranges := [{ addr := 3298535538688, pages := 4, logical := 7 }, { addr := 3298536194048, pages := 1, logical := 60 }], stepSeq := none, notice := none, lastStep := 3, lastTick := 0, now := false, nowFull := true, incr := 0, headKept := 0, number := 0, base := none, run := some { seq := 8, step := 3, full := false, lost := [], caps := [], batches := [], walked := false, segment := none, root := none, wrote := 0, asking := false, poison := false, credit := 0 }, restore := none }, { seq := 8, step := 3, full := false, lost := [], caps := [], batches := [], walked := false, segment := none, root := none, wrote := 0, asking := false, poison := false, credit := 0 }, by
      unfold ckpRuns
      refine @of_decide_eq_true _ (by haveI := @decAllSome; haveI := @decExSome; haveI := @decOk; haveI := @decErr; infer_instance) ?_
      decide +kernel⟩)⟩

theorem test_CheckpointEngine_witness21 :
    (∃ (s : State) (j : Fin 64) (x : CkpJob) (r : CkpRun) (own : _), ckpRuns s.chip j x r ∧ x.rank = 0 ∧ r.segment = some own ∧ r.root = none ∧ r.asking = false ∧ s.chip.running .ckp = true ∧ s.chip.spent x.plan = false ∧ s.chip.derive 0 (ckpLabel 2 x r.step none) = none) ∧
    (∃ (s : State) (j : Fin 64) (x : CkpJob) (r : CkpRun) (sg : List (Nat × Nat × Nat × Nat × List (BitVec 8))) (own : _) (key : _), ckpRuns s.chip j x r ∧ x.rank = 0 ∧ r.segment = some own ∧ r.root = none ∧ r.asking = false ∧ s.chip.running .ckp = true ∧ s.chip.spent x.plan = false ∧ s.chip.derive 0 (ckpLabel 2 x r.step none) = some key ∧ s.chip.storePut j x (rootImage x r own (sg.map (fun g => (g.1, g.2.1, g.2.2.1, g.2.2.2.1, g.2.2.2.2.map BitVec.toNat))) key) = none) :=
  ⟨(⟨pool.getD 50 .reset, 1, { raw := ([1, 0, 0, 0, 0, 0, 4, 0, 85, 0, 0, 0, 0, 0, 0, 0, 6, 0, 3, 0, 0, 0, 2, 0, 232, 3, 0, 0, 0, 0, 0, 0, 0, 32, 0, 0, 0, 0, 0, 0, 77] ++ List.replicate 11 0 ++ [24, 0, 0, 0, 2, 0, 0, 0, 1] ++ List.replicate 15 0 ++ [1, 1, 0, 0, 0, 32, 0, 0, 0, 0, 0, 0, 1, 0, 0, 0, 0, 0, 0, 0, 100] ++ List.replicate 31 0), ranges := [{ addr := 3298535538688, pages := 4, logical := 7 }, { addr := 3298536194048, pages := 1, logical := 60 }], stepSeq := none, notice := none, lastStep := 3, lastTick := 0, now := false, nowFull := true, incr := 0, headKept := 0, number := 0, base := none, run := some { seq := 8, step := 3, full := false, lost := [], caps := [], batches := [], walked := true, segment := some (3, 3, 3, []), root := none, wrote := 0, asking := false, poison := false, credit := 0 }, restore := none }, { seq := 8, step := 3, full := false, lost := [], caps := [], batches := [], walked := true, segment := some (3, 3, 3, []), root := none, wrote := 0, asking := false, poison := false, credit := 0 }, (3, 3, 3, []), by
      unfold ckpRuns
      refine @of_decide_eq_true _ (by haveI := @decAllSome; haveI := @decExSome; haveI := @decOk; haveI := @decErr; infer_instance) ?_
      decide +kernel⟩),
   (⟨pool.getD 437 .reset, 1, { raw := ([1, 0, 0, 0, 0, 0, 4, 0, 85, 0, 0, 0, 0, 0, 0, 0, 6, 0, 3, 0, 0, 0, 2, 0, 232, 3, 0, 0, 0, 0, 0, 0, 0, 32, 0, 0, 0, 0, 0, 0, 77] ++ List.replicate 11 0 ++ [24, 0, 0, 0, 2, 0, 0, 0, 1] ++ List.replicate 15 0 ++ [1, 1, 0, 0, 0, 32, 0, 0, 0, 0, 0, 0, 1, 0, 0, 0, 0, 0, 0, 0, 100] ++ List.replicate 31 0), ranges := [{ addr := 3298535538688, pages := 4, logical := 7 }, { addr := 3298536194048, pages := 1, logical := 60 }], stepSeq := none, notice := none, lastStep := 3, lastTick := 0, now := false, nowFull := true, incr := 0, headKept := 0, number := 0, base := none, run := some { seq := 8, step := 3, full := false, lost := [], caps := [], batches := [], walked := true, segment := some (3, 3, 3, []), root := none, wrote := 0, asking := false, poison := false, credit := 0 }, restore := none }, { seq := 8, step := 3, full := false, lost := [], caps := [], batches := [], walked := true, segment := some (3, 3, 3, []), root := none, wrote := 0, asking := false, poison := false, credit := 0 }, [], (3, 3, 3, []), ([29, 221, 64, 191, 190, 168, 227, 50, 182, 114, 203, 118, 70, 96, 19, 99, 72, 170, 133, 192, 165, 228, 184, 43, 29, 250, 169, 75, 98, 58, 184, 237]), by
      unfold ckpRuns
      refine @of_decide_eq_true _ (by haveI := @decAllSome; haveI := @decExSome; haveI := @decOk; haveI := @decErr; infer_instance) ?_
      decide +kernel⟩)⟩

theorem test_CheckpointEngine_witness22 :
    (∃ (s : State) (j : Fin 64) (x : CkpJob) (r : CkpRun) (sg : List (Nat × Nat × Nat × Nat × List (BitVec 8))) (own : _) (key : _) (e : _) (lba : _), ckpRuns s.chip j x r ∧ x.rank = 0 ∧ r.segment = some own ∧ r.root = none ∧ r.asking = false ∧ s.chip.running .ckp = true ∧ s.chip.spent x.plan = false ∧ s.chip.derive 0 (ckpLabel 2 x r.step none) = some key ∧ s.chip.storePut j x (rootImage x r own (sg.map (fun g => (g.1, g.2.1, g.2.2.1, g.2.2.2.1, g.2.2.2.2.map BitVec.toNat))) key) = some (e, lba)) ∧
    (∃ (s : State) (j : Fin 64) (x : CkpJob) (r : CkpRun), ckpRuns s.chip j x r ∧ (r.root = none ∨ s.chip.running .ckp = false ∨ s.chip.spent x.plan = true ∨ s.chip.ckpOpenEnd r = false)) :=
  ⟨(⟨pool.getD 372 .reset, 1, { raw := ([1, 0, 0, 0, 0, 0, 4, 0, 85, 0, 0, 0, 0, 0, 0, 0, 6, 0, 3, 0, 0, 0, 2, 0, 232, 3, 0, 0, 0, 0, 0, 0, 0, 32, 0, 0, 0, 0, 0, 0, 77] ++ List.replicate 11 0 ++ [24, 0, 0, 0, 2, 0, 0, 0, 1] ++ List.replicate 15 0 ++ [1, 1, 0, 0, 0, 32, 0, 0, 0, 0, 0, 0, 1, 0, 0, 0, 0, 0, 0, 0, 100] ++ List.replicate 31 0), ranges := [{ addr := 3298535538688, pages := 4, logical := 7 }, { addr := 3298536194048, pages := 1, logical := 60 }], stepSeq := none, notice := none, lastStep := 3, lastTick := 0, now := false, nowFull := true, incr := 0, headKept := 0, number := 0, base := none, run := some { seq := 8, step := 3, full := false, lost := [], caps := [], batches := [], walked := true, segment := some (3, 3, 3, []), root := none, wrote := 0, asking := false, poison := false, credit := 0 }, restore := none }, { seq := 8, step := 3, full := false, lost := [], caps := [], batches := [], walked := true, segment := some (3, 3, 3, []), root := none, wrote := 0, asking := false, poison := false, credit := 0 }, [], (3, 3, 3, []), ([29, 221, 64, 191, 190, 168, 227, 50, 182, 114, 203, 118, 70, 96, 19, 99, 72, 170, 133, 192, 165, 228, 184, 43, 29, 250, 169, 75, 98, 58, 184, 237]), (((pool.getD 372 .reset).chip.storePut (1) (({ raw := ([1, 0, 0, 0, 0, 0, 4, 0, 85, 0, 0, 0, 0, 0, 0, 0, 6, 0, 3, 0, 0, 0, 2, 0, 232, 3, 0, 0, 0, 0, 0, 0, 0, 32, 0, 0, 0, 0, 0, 0, 77] ++ List.replicate 11 0 ++ [24, 0, 0, 0, 2, 0, 0, 0, 1] ++ List.replicate 15 0 ++ [1, 1, 0, 0, 0, 32, 0, 0, 0, 0, 0, 0, 1, 0, 0, 0, 0, 0, 0, 0, 100] ++ List.replicate 31 0), ranges := [{ addr := 3298535538688, pages := 4, logical := 7 }, { addr := 3298536194048, pages := 1, logical := 60 }], stepSeq := none, notice := none, lastStep := 3, lastTick := 0, now := false, nowFull := true, incr := 0, headKept := 0, number := 0, base := none, run := some { seq := 8, step := 3, full := false, lost := [], caps := [], batches := [], walked := true, segment := some (3, 3, 3, []), root := none, wrote := 0, asking := false, poison := false, credit := 0 }, restore := none } : CkpJob)) (rootImage (({ raw := ([1, 0, 0, 0, 0, 0, 4, 0, 85, 0, 0, 0, 0, 0, 0, 0, 6, 0, 3, 0, 0, 0, 2, 0, 232, 3, 0, 0, 0, 0, 0, 0, 0, 32, 0, 0, 0, 0, 0, 0, 77] ++ List.replicate 11 0 ++ [24, 0, 0, 0, 2, 0, 0, 0, 1] ++ List.replicate 15 0 ++ [1, 1, 0, 0, 0, 32, 0, 0, 0, 0, 0, 0, 1, 0, 0, 0, 0, 0, 0, 0, 100] ++ List.replicate 31 0), ranges := [{ addr := 3298535538688, pages := 4, logical := 7 }, { addr := 3298536194048, pages := 1, logical := 60 }], stepSeq := none, notice := none, lastStep := 3, lastTick := 0, now := false, nowFull := true, incr := 0, headKept := 0, number := 0, base := none, run := some { seq := 8, step := 3, full := false, lost := [], caps := [], batches := [], walked := true, segment := some (3, 3, 3, []), root := none, wrote := 0, asking := false, poison := false, credit := 0 }, restore := none } : CkpJob)) (({ seq := 8, step := 3, full := false, lost := [], caps := [], batches := [], walked := true, segment := some (3, 3, 3, []), root := none, wrote := 0, asking := false, poison := false, credit := 0 } : CkpRun)) ((3, 3, 3, [])) ((([] : List (Nat × Nat × Nat × Nat × List (BitVec 8)))).map (fun g => (g.1, g.2.1, g.2.2.1, g.2.2.2.1, g.2.2.2.2.map BitVec.toNat))) (([29, 221, 64, 191, 190, 168, 227, 50, 182, 114, 203, 118, 70, 96, 19, 99, 72, 170, 133, 192, 165, 228, 184, 43, 29, 250, 169, 75, 98, 58, 184, 237])))).map Prod.fst).getD {}, 1000, by unfold ckpRuns; refine @of_decide_eq_true _ (by haveI := @decAllSome; haveI := @decExSome; haveI := @decOk; haveI := @decErr; infer_instance) ?_; decide +kernel, by decide +kernel, by decide +kernel, by decide +kernel, by decide +kernel, by decide +kernel, by decide +kernel, by decide +kernel, by decide +kernel⟩),
   (⟨pool.getD 5 .reset, 1, { raw := ([1, 0, 0, 0, 0, 0, 4, 0, 85, 0, 0, 0, 0, 0, 0, 0, 6, 0, 3, 0, 0, 0, 2, 0, 232, 3, 0, 0, 0, 0, 0, 0, 0, 32, 0, 0, 0, 0, 0, 0, 77] ++ List.replicate 11 0 ++ [24, 0, 0, 0, 2, 0, 0, 0, 1] ++ List.replicate 15 0 ++ [1, 1, 0, 0, 0, 32, 0, 0, 0, 0, 0, 0, 1, 0, 0, 0, 0, 0, 0, 0, 100] ++ List.replicate 31 0), ranges := [{ addr := 3298535538688, pages := 4, logical := 7 }, { addr := 3298536194048, pages := 1, logical := 60 }], stepSeq := none, notice := none, lastStep := 3, lastTick := 0, now := false, nowFull := true, incr := 0, headKept := 0, number := 0, base := none, run := some { seq := 8, step := 3, full := false, lost := [], caps := [], batches := [], walked := false, segment := none, root := none, wrote := 0, asking := false, poison := false, credit := 0 }, restore := none }, { seq := 8, step := 3, full := false, lost := [], caps := [], batches := [], walked := false, segment := none, root := none, wrote := 0, asking := false, poison := false, credit := 0 }, by
      unfold ckpRuns
      refine @of_decide_eq_true _ (by haveI := @decAllSome; haveI := @decExSome; haveI := @decOk; haveI := @decErr; infer_instance) ?_
      decide +kernel⟩)⟩

theorem test_CheckpointEngine_witness23 :
    (∃ (s : State) (j : Fin 64) (x : CkpJob) (r : CkpRun) (root : _), ckpRuns s.chip j x r ∧ r.root = some root ∧ s.chip.running .ckp = true ∧ s.chip.spent x.plan = false ∧ s.chip.ckpOpenEnd r = true ∧ s.chip.derive 0 (ckpLabel 2 x r.step none) = none) ∧
    (∃ (s : State) (j : Fin 64) (x : CkpJob) (r : CkpRun) (root : _) (key : _), ckpRuns s.chip j x r ∧ r.root = some root ∧ s.chip.running .ckp = true ∧ s.chip.spent x.plan = false ∧ s.chip.ckpOpenEnd r = true ∧ s.chip.derive 0 (ckpLabel 2 x r.step none) = some key) :=
  ⟨(⟨pool.getD 53 .reset, 1, { raw := ([1, 0, 0, 0, 0, 0, 4, 0, 85, 0, 0, 0, 0, 0, 0, 0, 6, 0, 3, 0, 0, 0, 2, 0, 232, 3, 0, 0, 0, 0, 0, 0, 0, 32, 0, 0, 0, 0, 0, 0, 77] ++ List.replicate 11 0 ++ [24, 0, 0, 0, 2, 0, 0, 0, 1] ++ List.replicate 15 0 ++ [1, 1, 0, 0, 0, 32, 0, 0, 0, 0, 0, 0, 1, 0, 0, 0, 0, 0, 0, 0, 100] ++ List.replicate 31 0), ranges := [{ addr := 3298535538688, pages := 4, logical := 7 }, { addr := 3298536194048, pages := 1, logical := 60 }], stepSeq := none, notice := none, lastStep := 3, lastTick := 0, now := false, nowFull := true, incr := 0, headKept := 0, number := 0, base := none, run := some { seq := 8, step := 3, full := false, lost := [2], caps := [], batches := [], walked := false, segment := some (3, 3, 3, []), root := some (3, 3, [6, 7]), wrote := 0, asking := false, poison := false, credit := 0 }, restore := none }, { seq := 8, step := 3, full := false, lost := [2], caps := [], batches := [], walked := false, segment := some (3, 3, 3, []), root := some (3, 3, [6, 7]), wrote := 0, asking := false, poison := false, credit := 0 }, (3, 3, [6, 7]), by
      unfold ckpRuns
      refine @of_decide_eq_true _ (by haveI := @decAllSome; haveI := @decExSome; haveI := @decOk; haveI := @decErr; infer_instance) ?_
      decide +kernel⟩),
   (⟨pool.getD 375 .reset, 1, { raw := ([1, 0, 0, 0, 0, 0, 4, 0, 85, 0, 0, 0, 0, 0, 0, 0, 6, 0, 3, 0, 0, 0, 2, 0, 232, 3, 0, 0, 0, 0, 0, 0, 0, 32, 0, 0, 0, 0, 0, 0, 77] ++ List.replicate 11 0 ++ [24, 0, 0, 0, 2, 0, 0, 0, 1] ++ List.replicate 15 0 ++ [1, 1, 0, 0, 0, 32, 0, 0, 0, 0, 0, 0, 1, 0, 0, 0, 0, 0, 0, 0, 100] ++ List.replicate 31 0), ranges := [{ addr := 3298535538688, pages := 4, logical := 7 }, { addr := 3298536194048, pages := 1, logical := 60 }], stepSeq := none, notice := none, lastStep := 3, lastTick := 0, now := false, nowFull := true, incr := 0, headKept := 0, number := 0, base := none, run := some { seq := 8, step := 3, full := false, lost := [2], caps := [], batches := [], walked := false, segment := some (3, 3, 3, []), root := some (3, 3, [6, 7]), wrote := 0, asking := false, poison := false, credit := 0 }, restore := none }, { seq := 8, step := 3, full := false, lost := [2], caps := [], batches := [], walked := false, segment := some (3, 3, 3, []), root := some (3, 3, [6, 7]), wrote := 0, asking := false, poison := false, credit := 0 }, (3, 3, [6, 7]), ([29, 221, 64, 191, 190, 168, 227, 50, 182, 114, 203, 118, 70, 96, 19, 99, 72, 170, 133, 192, 165, 228, 184, 43, 29, 250, 169, 75, 98, 58, 184, 237]), by
      unfold ckpRuns
      refine @of_decide_eq_true _ (by haveI := @decAllSome; haveI := @decExSome; haveI := @decOk; haveI := @decErr; infer_instance) ?_
      decide +kernel⟩)⟩

theorem test_CheckpointEngine_witness24 :
    (∃ (s : State) (j : Fin 64) (x : CkpJob) (r : CkpRun), ckpRuns s.chip j x r ∧ (x.rank = 0 ∨ (r.segment = none ∧ r.asking = false) ∨ s.chip.ckpOpenEnd r = false)) ∧
    (∃ (s : State) (j : Fin 64) (x : CkpJob) (r : CkpRun), ckpRuns s.chip j x r ∧ x.rank ≠ 0 ∧ (r.segment.isSome = true ∨ r.asking = true) ∧ s.chip.ckpOpenEnd r = true) :=
  ⟨(⟨pool.getD 5 .reset, 1, { raw := ([1, 0, 0, 0, 0, 0, 4, 0, 85, 0, 0, 0, 0, 0, 0, 0, 6, 0, 3, 0, 0, 0, 2, 0, 232, 3, 0, 0, 0, 0, 0, 0, 0, 32, 0, 0, 0, 0, 0, 0, 77] ++ List.replicate 11 0 ++ [24, 0, 0, 0, 2, 0, 0, 0, 1] ++ List.replicate 15 0 ++ [1, 1, 0, 0, 0, 32, 0, 0, 0, 0, 0, 0, 1, 0, 0, 0, 0, 0, 0, 0, 100] ++ List.replicate 31 0), ranges := [{ addr := 3298535538688, pages := 4, logical := 7 }, { addr := 3298536194048, pages := 1, logical := 60 }], stepSeq := none, notice := none, lastStep := 3, lastTick := 0, now := false, nowFull := true, incr := 0, headKept := 0, number := 0, base := none, run := some { seq := 8, step := 3, full := false, lost := [], caps := [], batches := [], walked := false, segment := none, root := none, wrote := 0, asking := false, poison := false, credit := 0 }, restore := none }, { seq := 8, step := 3, full := false, lost := [], caps := [], batches := [], walked := false, segment := none, root := none, wrote := 0, asking := false, poison := false, credit := 0 }, by
      unfold ckpRuns
      refine @of_decide_eq_true _ (by haveI := @decAllSome; haveI := @decExSome; haveI := @decOk; haveI := @decErr; infer_instance) ?_
      decide +kernel⟩),
   (⟨pool.getD 36 .reset, 1, { raw := ([1, 0, 0, 0, 1, 0, 4, 0, 85, 0, 0, 0, 0, 0, 0, 0, 6, 0, 3, 0, 0, 0, 2, 0, 232, 3, 0, 0, 0, 0, 0, 0, 0, 32, 0, 0, 0, 0, 0, 0, 77] ++ List.replicate 11 0 ++ [24, 0, 0, 0, 2, 0, 0, 0, 1] ++ List.replicate 15 0 ++ [1, 1, 0, 0, 0, 32, 0, 0, 0, 0, 0, 0, 1, 0, 0, 0, 0, 0, 0, 0, 100] ++ List.replicate 31 0), ranges := [{ addr := 3298535538688, pages := 4, logical := 7 }, { addr := 3298536194048, pages := 1, logical := 60 }], stepSeq := none, notice := none, lastStep := 3, lastTick := 0, now := false, nowFull := true, incr := 0, headKept := 0, number := 0, base := none, run := some { seq := 8, step := 3, full := false, lost := [], caps := [], batches := [], walked := false, segment := none, root := none, wrote := 0, asking := true, poison := false, credit := 0 }, restore := none }, { seq := 8, step := 3, full := false, lost := [], caps := [], batches := [], walked := false, segment := none, root := none, wrote := 0, asking := true, poison := false, credit := 0 }, by
      unfold ckpRuns
      refine @of_decide_eq_true _ (by haveI := @decAllSome; haveI := @decExSome; haveI := @decOk; haveI := @decErr; infer_instance) ?_
      decide +kernel⟩)⟩

theorem test_CheckpointEngine_witness25 :
    (∃ (s : State) (j : Fin 64) (x : CkpJob) (r : CkpRun) (i : Item) (root : _) (key : _), ckpRuns s.chip j x r ∧ s.chip.led.items = [i] ∧ i.seq = r.seq ∧ i.kind = .checkpoint j.val ∧ i.state.ended = false ∧ i.fin = none ∧ i.crec = .none ∧ s.chip.commits = true ∧ s.chip.running .ckp = true ∧ s.chip.spent x.plan = false ∧ r.root = some root ∧ s.chip.derive 0 (ckpLabel 2 x r.step none) = some key) ∧
    (∃ (s : State) (j : Fin 64) (x : CkpJob) (r : CkpRun) (i : Item), ckpRuns s.chip j x r ∧ s.chip.led.items = [i] ∧ i.seq = r.seq ∧ i.kind = .checkpoint j.val ∧ i.state.ended = false ∧ i.fin = none ∧ i.crec = .none ∧ s.chip.commits = true ∧ x.rank ≠ 0 ∧ r.segment.isSome = true) :=
  ⟨(⟨pool.getD 375 .reset, 1, { raw := ([1, 0, 0, 0, 0, 0, 4, 0, 85, 0, 0, 0, 0, 0, 0, 0, 6, 0, 3, 0, 0, 0, 2, 0, 232, 3, 0, 0, 0, 0, 0, 0, 0, 32, 0, 0, 0, 0, 0, 0, 77] ++ List.replicate 11 0 ++ [24, 0, 0, 0, 2, 0, 0, 0, 1] ++ List.replicate 15 0 ++ [1, 1, 0, 0, 0, 32, 0, 0, 0, 0, 0, 0, 1, 0, 0, 0, 0, 0, 0, 0, 100] ++ List.replicate 31 0), ranges := [{ addr := 3298535538688, pages := 4, logical := 7 }, { addr := 3298536194048, pages := 1, logical := 60 }], stepSeq := none, notice := none, lastStep := 3, lastTick := 0, now := false, nowFull := true, incr := 0, headKept := 0, number := 0, base := none, run := some { seq := 8, step := 3, full := false, lost := [2], caps := [], batches := [], walked := false, segment := some (3, 3, 3, []), root := some (3, 3, [6, 7]), wrote := 0, asking := false, poison := false, credit := 0 }, restore := none }, { seq := 8, step := 3, full := false, lost := [2], caps := [], batches := [], walked := false, segment := some (3, 3, 3, []), root := some (3, 3, [6, 7]), wrote := 0, asking := false, poison := false, credit := 0 }, { seq := 8, slot := 8, state := ItemState.running, domain := Domain.job 1, tag := 9, owner := 87, replied := false, redo := false, replayed := false, plan := 0, acceptTick := 0, endTick := 0, origin := Origin.core 1 7, fn := 257, kind := ItemKind.checkpoint 1, body := { w0 := (0x0 : BitVec 64), w1 := (0x0 : BitVec 64), w2 := (0x0 : BitVec 64), w3 := (0x0 : BitVec 64), w4 := (0x0 : BitVec 64), w5 := (0x0 : BitVec 64), w6 := (0x0 : BitVec 64), w7 := (0x0 : BitVec 64) }, crec := CommitRec.none, fin := none, redoRec := none, carried := false, single := false, reply := { code := 0, lo := 0, hi := 0 } }, (3, 3, [6, 7]), ([29, 221, 64, 191, 190, 168, 227, 50, 182, 114, 203, 118, 70, 96, 19, 99, 72, 170, 133, 192, 165, 228, 184, 43, 29, 250, 169, 75, 98, 58, 184, 237]), by
      unfold ckpRuns
      refine @of_decide_eq_true _ (by haveI := @decAllSome; haveI := @decExSome; haveI := @decOk; haveI := @decErr; infer_instance) ?_
      decide +kernel⟩),
   (⟨pool.getD 51 .reset, 1, { raw := ([1, 0, 0, 0, 1, 0, 4, 0, 85, 0, 0, 0, 0, 0, 0, 0, 6, 0, 3, 0, 0, 0, 2, 0, 232, 3, 0, 0, 0, 0, 0, 0, 0, 32, 0, 0, 0, 0, 0, 0, 77] ++ List.replicate 11 0 ++ [24, 0, 0, 0, 2, 0, 0, 0, 1] ++ List.replicate 15 0 ++ [1, 1, 0, 0, 0, 32, 0, 0, 0, 0, 0, 0, 1, 0, 0, 0, 0, 0, 0, 0, 100] ++ List.replicate 31 0), ranges := [{ addr := 3298535538688, pages := 4, logical := 7 }, { addr := 3298536194048, pages := 1, logical := 60 }], stepSeq := none, notice := none, lastStep := 3, lastTick := 0, now := false, nowFull := true, incr := 0, headKept := 0, number := 0, base := none, run := some { seq := 8, step := 3, full := false, lost := [], caps := [], batches := [], walked := true, segment := some (3, 3, 3, []), root := none, wrote := 0, asking := false, poison := false, credit := 0 }, restore := none }, { seq := 8, step := 3, full := false, lost := [], caps := [], batches := [], walked := true, segment := some (3, 3, 3, []), root := none, wrote := 0, asking := false, poison := false, credit := 0 }, { seq := 8, slot := 8, state := ItemState.running, domain := Domain.job 1, tag := 9, owner := 87, replied := false, redo := false, replayed := false, plan := 0, acceptTick := 0, endTick := 0, origin := Origin.core 1 7, fn := 257, kind := ItemKind.checkpoint 1, body := { w0 := (0x0 : BitVec 64), w1 := (0x0 : BitVec 64), w2 := (0x0 : BitVec 64), w3 := (0x0 : BitVec 64), w4 := (0x0 : BitVec 64), w5 := (0x0 : BitVec 64), w6 := (0x0 : BitVec 64), w7 := (0x0 : BitVec 64) }, crec := CommitRec.none, fin := none, redoRec := none, carried := false, single := false, reply := { code := 0, lo := 0, hi := 0 } }, by
      unfold ckpRuns
      refine @of_decide_eq_true _ (by haveI := @decAllSome; haveI := @decExSome; haveI := @decOk; haveI := @decErr; infer_instance) ?_
      decide +kernel⟩)⟩

end Sys2Proof.Tests.C16
end

