-- ==== Sys2Proof/Tests/C17.lean ====
section
/-! SUPPORT. States and operands that meet the hypotheses of the statements of chapter 17, clause by clause. -/
set_option Elab.async false
set_option maxRecDepth 100000
namespace Sys2Proof.Tests.C17
open Sys2Proof Sys2Proof.Machine Sys2Proof.Tests

def kup : Chip := hand up
def cn (st : Nat) (ss : List SpdmSession) (sg : Option (List Nat) := none) : SpdmConn := ⟨st, [1,2], sg, ss, [9], [5,6,7,8], [3]⟩
def ss2 : List SpdmSession := [⟨5, false, 0⟩, ⟨6, true, 3⟩]
def ss4 : List SpdmSession := [⟨5, false, 0⟩, ⟨6, true, 3⟩, ⟨7, true, 3⟩, ⟨6, false, 3⟩]
def sx (d : Chip) (f : SecUnit → SecUnit) : Chip := { d with sec := f d.sec }
def K (u : Nat) (ex : Bool := false) (ctr : Nat := 4) : KeySlot := ⟨ex, u, 0x7F, 0xFFFF, 0x11, List.range 32, ctr⟩
def slots : Tbl KeySlot := [(0, K 1), (1, K 1 true), (2, K 8), (3, K 16), (4, K 64), (5, K 32), (6, K 8 false (2^48-3)), (7, K 8 true), (9, K 1)]
def base (d : Chip) (c : SpdmConn) (rel : Nat := 1) : Chip := sx d (fun u => { u with spdm := [(0, c), (1, c), (2, c)], relayed := rel, slots := slots, ide := [⟨0, 1, 2, 0x10000, [1], false⟩, ⟨0, 1, 3, 0x10000, [1], true⟩, ⟨3, 1, 3, 0x10000, [1], true⟩] })
def nr (d : Chip) : Chip := d.setAgentSt (.block .sec) .fenced
def msA : List Chip := [{}, kup, base kup (cn 0 []), base (noise kup) (cn 1 ss2), base kup (cn 2 ss2), base kup (cn 3 ss2 (some [4])), sx (base (noise kup) (cn 3 ss2 none) 0) (fun u => { u with cleared := true }), base (noise kup) (cn 3 ss4 none) 0,
  sx (base (noise kup) (cn 3 ss2 none) 2) (fun u => { u with drbgStopped := true }), nr (base (noise kup) (cn 3 ss2 (some [4])) 2), nr (base kup (cn 3 ss2 none) 0), cntMax (base kup (cn 3 ss2)) [Reg.SEC_COUNT.COUNT 6]]
def pu (d : Chip) (p st_ : Nat) : Chip := d.sr (Reg.LNK_PORT_STATE.STATE p) st_
def P (d : Chip) (s : Nat) : Chip := pu (pu (pu d 0 s) 1 s) 11 s
def slotAt (d : Chip) (p a b c e : Nat) : Chip := (((d.sr (Reg.SEC_PORT_KEY.TX_SLOT0 p) a).sr (Reg.SEC_PORT_KEY.TX_SLOT1 p) b).sr (Reg.SEC_PORT_KEY.RX_SLOT0 p) c).sr (Reg.SEC_PORT_KEY.RX_SLOT1 p) e
def gcm (d : Chip) : Chip := slotAt (slotAt ((d.sr (Reg.LNK_PORT_CFG.GCM 0) 1).sr (Reg.LNK_PORT_CFG.GCM 11) 1) 0 0 9 0 9) 11 0 1 9 2
def kr (k src uses : Nat) (wrap : Nat := 0) (key : List Nat := List.range 32) : List Nat := leBytes 2 k ++ [src, uses, 0x7F, 0] ++ leBytes 2 0xFFFF ++ leBytes 4 0x77 ++ leBytes 2 wrap ++ [0,0] ++ key ++ List.replicate (112 - key.length) 0
def wk : List Nat := (List.range 40)
def mem (d : Chip) : Chip := { (putBytes (putBytes (putBytes (putBytes (putBytes (putBytes d 0x1000 (kr 20 0 8)) 0x1080 (kr 20 1 8 3 wk)) 0x1100 (kr 0 0 8)) 0x1180 (kr 20 1 8 2 wk)) 0x1200 (kr 20 2 8)) 0x2000 [1,2,3,4]) with fetched := [0, 2] }
def B1 := mem (base kup (cn 3 ss2))
def B2 := mem (base (noise kup) (cn 3 ss2))
def pb_ (d : Chip) : Chip := d.setPoison 0x2000 true
def bulkIt : Item := { item0 4 (.general 0x0D03) .none with owner := 0x58 }
def bulkT : Item := { item0 5 (.general 0x0D03) .taken with owner := 0x58 }
def bt : Chip := { ({} : Chip) with pwr := { ({} : Chip).pwr with por := false, straps := 0, refclk := true } }
def pool : List State := (msA.map st) ++ (msA.map st) ++ (msA.map st) ++ (msA.map st) ++ (msA.map st) ++ (msA.map st) ++ (msA.map st) ++ ([st B1, st B2, st (withItems B2 [bulkIt])]) ++ ([st B1, st B2, st (gcm (P B1 2)), st (withItems B2 [bulkIt])]) ++ ([st B1, st B2]) ++ ([st B1, st B2, st (pb_ B1), st (withItems B2 [bulkIt]), st { B2 with led := { B2.led with lost := true } }, st (cntMax B1 [Reg.SEC_COUNT.COUNT 2])]) ++ ([st {}, st B1, st (gcm (P B1 2)), st (gcm (P B2 3)), st ((gcm (P B2 2)).sr Reg.SEC_PORT_PHASE.TX 0x801), st (gcm { (P B2 2) with lnk := { (P B2 2).lnk with ports := [(0, { waiting := [⟨0, 3, 0, [1, 2], (0, 0, 0), 0, 0⟩], dead := true }), (11, { recFrames := 3 })] } })]) ++ ([st {}, st B1, st (gcm (P B1 2)), st (gcm (P B2 3)), st ((gcm (P B2 2)).sr Reg.SEC_PORT_PHASE.TX 0x801), st (gcm { (P B2 2) with lnk := { (P B2 2).lnk with ports := [(0, { waiting := [⟨0, 3, 0, [1, 2], (0, 0, 0), 0, 0⟩], dead := true }), (11, { recFrames := 3 })] } })]) ++ ([st {}, st (withItems (gcm (P B2 2)) [bulkIt, bulkT]), st (base (withItems kup [bulkIt]) (cn 3 ss4 (some [7]))), st (cntMax B1 [Reg.SEC_COUNT.COUNT 8]), st B1, st (gcm (P B1 2)), st (gcm (P B2 3)), st ((gcm (P B2 2)).sr Reg.SEC_PORT_PHASE.TX 0x801), st (gcm { (P B2 2) with lnk := { (P B2 2).lnk with ports := [(0, { waiting := [⟨0, 3, 0, [1, 2], (0, 0, 0), 0, 0⟩], dead := true }), (11, { recFrames := 3 })] } })]) ++ ([st {}, st (sx B1 (fun u => { u with drbgStopped := true })), st (withItems (gcm (P B2 2)) [bulkIt, bulkT]), st (base (withItems kup [bulkIt]) (cn 3 ss4 (some [7]))), st (cntMax B1 [Reg.SEC_COUNT.COUNT 8]), st B1, st (gcm (P B1 2)), st (gcm (P B2 3)), st ((gcm (P B2 2)).sr Reg.SEC_PORT_PHASE.TX 0x801), st (gcm { (P B2 2) with lnk := { (P B2 2).lnk with ports := [(0, { waiting := [⟨0, 3, 0, [1, 2], (0, 0, 0), 0, 0⟩], dead := true }), (11, { recFrames := 3 })] } })]) ++ ([st {}, st (sx B1 (fun u => { u with drbgStopped := true })), st (withItems (gcm (P B2 2)) [bulkIt, bulkT]), st (base (withItems kup [bulkIt]) (cn 3 ss4 (some [7]))), st (cntMax B1 [Reg.SEC_COUNT.COUNT 8]), st B1, st (gcm (P B1 2)), st (gcm (P B2 3)), st ((gcm (P B2 2)).sr Reg.SEC_PORT_PHASE.TX 0x801), st (gcm { (P B2 2) with lnk := { (P B2 2).lnk with ports := [(0, { waiting := [⟨0, 3, 0, [1, 2], (0, 0, 0), 0, 0⟩], dead := true }), (11, { recFrames := 3 })] } })]) ++ ([st {}, st (sx B1 (fun u => { u with drbgStopped := true })), st (withItems (gcm (P B2 2)) [bulkIt, bulkT]), st (base (withItems kup [bulkIt]) (cn 3 ss4 (some [7]))), st (cntMax B1 [Reg.SEC_COUNT.COUNT 8]), st B1, st (gcm (P B1 2)), st (gcm (P B2 3)), st ((gcm (P B2 2)).sr Reg.SEC_PORT_PHASE.TX 0x801), st (gcm { (P B2 2) with lnk := { (P B2 2).lnk with ports := [(0, { waiting := [⟨0, 3, 0, [1, 2], (0, 0, 0), 0, 0⟩], dead := true }), (11, { recFrames := 3 })] } })]) ++ ([st {}, st B1, st bt])


def bootBad : State := st { bt with fw := { bt.fw with flash := [(1040384, 0), (1040385, 0), (1040386, 0), (1040387, 0), (537911296, 0), (537911297, 0), (537911298, 0), (537911299, 0)] } }
def bootBad0 : State := st { bt with fw := { bt.fw with flash := [(1040384, 0), (1040385, 0), (1040386, 0), (1040387, 0)] } }
theorem bootBad_verdict (dev : Fin 2) : bootBad.chip.verifyImg (fun o => bootBad.chip.flashByte dev.val (0x10000 + o)) 1 0xF0000 = .bad Code.FW_BAD_IMAGE := by
  simp only [Chip.verifyImg]
  exact if_pos (Or.inr (Or.inl (by revert dev; decide +kernel)))
theorem bootBad0_verdict : bootBad0.chip.verifyImg (fun o => bootBad0.chip.flashByte 0 (0x10000 + o)) 1 0xF0000 = .bad Code.FW_BAD_IMAGE := by
  simp only [Chip.verifyImg]
  exact if_pos (Or.inr (Or.inl (by decide +kernel)))

theorem test_Attestation_witness1 :
    (∃ (s : State) (t : Fin 3) (k : Nat), k = 0 ∧ t = 2 ∧ s.chip.sec.relayed = 0) ∧
    (∃ (s : State) (t : Fin 3) (k : Nat), k = 0 ∧ (t = 2 → s.chip.sec.relayed ≠ 0)) ∧
    (∃ (s : State) (t : Fin 3), spdmUp s.chip t 0) ∧
    (∃ (s : State) (t : Fin 3), spdmUp s.chip t 1) ∧
    (∃ (s : State) (t : Fin 3), spdmUp s.chip t 2) ∧
    (∃ (s : State) (t : Fin 3) (n : Nat), spdmUp s.chip t 3 ∧ (n = 0 ∨ (7 < n ∧ n ≠ 0xFF))) ∧
    (∃ (s : State) (t : Fin 3) (n : Nat) (bs : _), spdmUp s.chip t 3 ∧ (n = 0xFF ∧ bs = (List.range 7).flatMap (fun i => s.chip.measurement (i + 1)) ∨ 1 ≤ n ∧ n ≤ 7 ∧ bs = s.chip.measurement n) ∧ s.chip.sec.cleared = true) ∧
    (∃ (s : State) (t : Fin 3) (n : Nat) (bs : _), spdmUp s.chip t 3 ∧ (n = 0xFF ∧ bs = (List.range 7).flatMap (fun i => s.chip.measurement (i + 1)) ∨ 1 ≤ n ∧ n ≤ 7 ∧ bs = s.chip.measurement n) ∧ s.chip.sec.cleared = false) ∧
    (∃ (s : State) (t : Fin 3) (n : Nat), spdmUp s.chip t 3 ∧ 1 ≤ n ∧ n ≤ 7) ∧
    (∃ (s : State) (t : Fin 3), spdmUp s.chip t 3 ∧ s.chip.sec.cleared = true) ∧
    (∃ (s : State) (t : Fin 3), spdmUp s.chip t 3 ∧ s.chip.sec.cleared = false ∧ (s.chip.spdmConn t).signed = none) ∧
    (∃ (s : State) (t : Fin 3) (g : _), spdmUp s.chip t 3 ∧ s.chip.sec.cleared = false ∧ (s.chip.spdmConn t).signed = some g) ∧
    (∃ (s : State) (t : Fin 3), spdmUp s.chip t 3 ∧ s.chip.sec.cleared = false ∧ s.chip.sec.drbgStopped = true) ∧
    (∃ (s : State) (t : Fin 3), spdmUp s.chip t 3 ∧ s.chip.sec.cleared = false ∧ s.chip.sec.drbgStopped = false ∧ 4 ≤ (s.chip.spdmConn t).sessions.length) :=
  ⟨(⟨pool.getD 0 .reset, 2, 0, by
      decide +kernel⟩),
   (⟨pool.getD 0 .reset, 0, 0, by
      refine @of_decide_eq_true _ (by haveI := @decAllSome; haveI := @decExSome; haveI := @decOk; haveI := @decErr; infer_instance) ?_
      decide +kernel⟩),
   (⟨pool.getD 0 .reset, 0, by
      unfold spdmUp
      refine @of_decide_eq_true _ (by haveI := @decAllSome; haveI := @decExSome; haveI := @decOk; haveI := @decErr; infer_instance) ?_
      decide +kernel⟩),
   (⟨pool.getD 3 .reset, 0, by
      unfold spdmUp
      refine @of_decide_eq_true _ (by haveI := @decAllSome; haveI := @decExSome; haveI := @decOk; haveI := @decErr; infer_instance) ?_
      decide +kernel⟩),
   (⟨pool.getD 4 .reset, 0, by
      unfold spdmUp
      refine @of_decide_eq_true _ (by haveI := @decAllSome; haveI := @decExSome; haveI := @decOk; haveI := @decErr; infer_instance) ?_
      decide +kernel⟩),
   (⟨pool.getD 5 .reset, 0, 0, by
      unfold spdmUp
      refine @of_decide_eq_true _ (by haveI := @decAllSome; haveI := @decExSome; haveI := @decOk; haveI := @decErr; infer_instance) ?_
      decide +kernel⟩),
   (⟨pool.getD 6 .reset, 0, 1, (pool.getD 6 .reset).chip.measurement 1, by unfold spdmUp; refine @of_decide_eq_true _ (by haveI := @decAllSome; haveI := @decExSome; haveI := @decOk; haveI := @decErr; infer_instance) ?_; decide +kernel, Or.inr ⟨by decide, by decide, rfl⟩, by decide +kernel⟩),
   (⟨pool.getD 5 .reset, 0, 1, (pool.getD 5 .reset).chip.measurement 1, by unfold spdmUp; refine @of_decide_eq_true _ (by haveI := @decAllSome; haveI := @decExSome; haveI := @decOk; haveI := @decErr; infer_instance) ?_; decide +kernel, Or.inr ⟨by decide, by decide, rfl⟩, by decide +kernel⟩),
   (⟨pool.getD 5 .reset, 0, 1, by
      unfold spdmUp
      refine @of_decide_eq_true _ (by haveI := @decAllSome; haveI := @decExSome; haveI := @decOk; haveI := @decErr; infer_instance) ?_
      decide +kernel⟩),
   (⟨pool.getD 6 .reset, 0, by
      unfold spdmUp
      refine @of_decide_eq_true _ (by haveI := @decAllSome; haveI := @decExSome; haveI := @decOk; haveI := @decErr; infer_instance) ?_
      decide +kernel⟩),
   (⟨pool.getD 7 .reset, 0, by
      unfold spdmUp
      refine @of_decide_eq_true _ (by haveI := @decAllSome; haveI := @decExSome; haveI := @decOk; haveI := @decErr; infer_instance) ?_
      decide +kernel⟩),
   (⟨pool.getD 5 .reset, 0, [4], by
      unfold spdmUp
      refine @of_decide_eq_true _ (by haveI := @decAllSome; haveI := @decExSome; haveI := @decOk; haveI := @decErr; infer_instance) ?_
      decide +kernel⟩),
   (⟨pool.getD 8 .reset, 0, by
      unfold spdmUp
      refine @of_decide_eq_true _ (by haveI := @decAllSome; haveI := @decExSome; haveI := @decOk; haveI := @decErr; infer_instance) ?_
      decide +kernel⟩),
   (⟨pool.getD 7 .reset, 0, by
      unfold spdmUp
      refine @of_decide_eq_true _ (by haveI := @decAllSome; haveI := @decExSome; haveI := @decOk; haveI := @decErr; infer_instance) ?_
      decide +kernel⟩)⟩

theorem test_Attestation_witness2 :
    (∃ (s : State) (t : Fin 3), spdmUp s.chip t 3 ∧ s.chip.sec.cleared = false ∧ s.chip.sec.drbgStopped = false ∧ (s.chip.spdmConn t).sessions.length < 4) ∧
    (∃ (s : State) (t : Fin 3) (id : Nat), spdmUp s.chip t 3 ∧ (∀ x ∈ (s.chip.spdmConn t).sessions, x.id ≠ id)) ∧
    (∃ (s : State) (t : Fin 3) (id : Nat) (x : _), spdmUp s.chip t 3 ∧ spdmSession s.chip t id x ∧ x.established = true) ∧
    (∃ (s : State) (t : Fin 3) (id : Nat) (x : _), spdmUp s.chip t 3 ∧ spdmSession s.chip t id x ∧ x.established = false) ∧
    (∃ (s : State) (f : Fin 2) (id : Nat), spdmUp s.chip f.val 3 ∧ (∀ x, spdmSession s.chip f.val id x → x.established = false)) ∧
    (∃ (s : State) (f : Fin 2) (id : Nat) (st : Nat) (key : List (BitVec 8)) (x : _), spdmUp s.chip f.val 3 ∧ spdmSession s.chip f.val id x ∧ x.established = true ∧ (4 < st ∨ key.length ≠ 32)) ∧
    (∃ (s : State) (f : Fin 2) (id : Nat) (st : Nat) (key : List (BitVec 8)) (x : _), spdmUp s.chip f.val 3 ∧ spdmSession s.chip f.val id x ∧ x.established = true ∧ st ≤ 4 ∧ key.length = 32) ∧
    (∃ (s : State) (f : Fin 2) (id : Nat) (st : Nat) (se : Nat) (x : _), spdmUp s.chip f.val 3 ∧ spdmSession s.chip f.val id x ∧ x.established = true ∧ (∀ y ∈ s.chip.sec.ide, ¬ (y.port = f.val ∧ y.stream = st ∧ y.set = se))) ∧
    (∃ (s : State) (f : Fin 2) (id : Nat) (st : Nat) (se : Nat) (x : _), spdmUp s.chip f.val 3 ∧ spdmSession s.chip f.val id x ∧ x.established = true ∧ (∃ y ∈ s.chip.sec.ide, y.port = f.val ∧ y.stream = st ∧ y.set = se)) :=
  ⟨(⟨pool.getD 5 .reset, 0, by
      unfold spdmUp
      refine @of_decide_eq_true _ (by haveI := @decAllSome; haveI := @decExSome; haveI := @decOk; haveI := @decErr; infer_instance) ?_
      decide +kernel⟩),
   (⟨pool.getD 5 .reset, 0, 0, by
      unfold spdmUp
      refine @of_decide_eq_true _ (by haveI := @decAllSome; haveI := @decExSome; haveI := @decOk; haveI := @decErr; infer_instance) ?_
      decide +kernel⟩),
   (⟨pool.getD 5 .reset, 0, 6, { id := 6, established := true, gen := 3 }, by
      unfold spdmUp spdmSession
      refine @of_decide_eq_true _ (by haveI := @decAllSome; haveI := @decExSome; haveI := @decOk; haveI := @decErr; infer_instance) ?_
      decide +kernel⟩),
   (⟨pool.getD 5 .reset, 0, 5, { id := 5, established := false, gen := 0 }, by
      unfold spdmUp spdmSession
      refine @of_decide_eq_true _ (by haveI := @decAllSome; haveI := @decExSome; haveI := @decOk; haveI := @decErr; infer_instance) ?_
      decide +kernel⟩),
   (⟨pool.getD 5 .reset, 0, 0, by
      unfold spdmUp spdmSession
      refine @of_decide_eq_true _ (by haveI := @decAllSome; haveI := @decExSome; haveI := @decOk; haveI := @decErr; infer_instance) ?_
      decide +kernel⟩),
   (⟨pool.getD 5 .reset, 0, 6, 0, [(0x1 : BitVec 8), (0x2 : BitVec 8)], { id := 6, established := true, gen := 3 }, by
      unfold spdmUp spdmSession
      refine @of_decide_eq_true _ (by haveI := @decAllSome; haveI := @decExSome; haveI := @decOk; haveI := @decErr; infer_instance) ?_
      decide +kernel⟩),
   (⟨pool.getD 5 .reset, 0, 6, 0, (List.replicate 32 (0x7 : BitVec 8)), { id := 6, established := true, gen := 3 }, by
      unfold spdmUp spdmSession
      refine @of_decide_eq_true _ (by haveI := @decAllSome; haveI := @decExSome; haveI := @decOk; haveI := @decErr; infer_instance) ?_
      decide +kernel⟩),
   (⟨pool.getD 5 .reset, 0, 6, 0, 0, { id := 6, established := true, gen := 3 }, by
      unfold spdmUp spdmSession
      refine @of_decide_eq_true _ (by haveI := @decAllSome; haveI := @decExSome; haveI := @decOk; haveI := @decErr; infer_instance) ?_
      decide +kernel⟩),
   (⟨pool.getD 5 .reset, 0, 6, 1, 2, { id := 6, established := true, gen := 3 }, by
      unfold spdmUp spdmSession
      refine @of_decide_eq_true _ (by haveI := @decAllSome; haveI := @decExSome; haveI := @decOk; haveI := @decErr; infer_instance) ?_
      decide +kernel⟩)⟩

theorem test_KeysAndCipher_witness1 :
    (∃ (s : State) (src : Submit) (a : Nat), let r := s.chip.bytes a 128; let k := leNat (r.take 2); let w := leNat ((r.drop 12).take 2); TakenUp s.chip src .sec false 0 ∧ (RecordBad s.chip a 128 ∨ (RecordClean s.chip a 128 ∧ (slotRecordBad r = true ∨ (s.chip.kslot k).isSome = true ∨ (r.getD 2 0 = 1 ∧ s.chip.loadedFor w 4 = false))))) ∧
    (∃ (s : State) (src : Submit) (a : Nat), let r := s.chip.bytes a 128; let k := leNat (r.take 2); let w := leNat ((r.drop 12).take 2); TakenUp s.chip src .sec false 0 ∧ RecordClean s.chip a 128 ∧ slotRecordBad r = false ∧ s.chip.kslot k = none ∧ (r.getD 2 0 = 1 → s.chip.loadedFor w 4 = true)) ∧
    (∃ (s : State) (src : Submit) (k : Fin 65536), TakenUp s.chip src .sec false 0 ∧ s.chip.slotBusy k = true) ∧
    (∃ (s : State) (src : Submit) (k : Fin 65536), TakenUp s.chip src .sec false 0 ∧ s.chip.slotBusy k = false) ∧
    (∃ (x : Desc), (x.bOp = 2 ∨ x.bOp = 3)) ∧
    (∃ (x : Desc), x.bOp ≠ 2) ∧
    (∃ (x : Desc), x.bOp ≠ 3) ∧
    (∃ (s : State) (src : Submit) (x : Desc), TakenUp s.chip src .sec true 0 ∧ s.chip.ownDesc src.origin x true = true ∧ x.bOp ≠ 2 ∧ x.bOp ≠ 3 ∧ s.chip.bulkCheck (s.chip.originFn src.origin) src.origin x ≠ none) ∧
    (∃ (s : State) (src : Submit) (x : Desc), TakenUp s.chip src .sec true 0 ∧ s.chip.ownDesc src.origin x true = true ∧ x.bOp ≠ 2 ∧ x.bOp ≠ 3 ∧ s.chip.bulkCheck (s.chip.originFn src.origin) src.origin x = none) ∧
    (∃ (s : State), s.chip.sec.drbgStopped = true) ∧
    (∃ (s : State), s.chip.sec.drbgStopped = false) ∧
    (∃ (s : State) (pub : List (BitVec 8)) (p : List Nat), p = pub.map BitVec.toNat ∧ s.chip.sec.drbgStopped = true) ∧
    (∃ (s : State) (k : Fin 4) (pub : List (BitVec 8)) (ed : List (BitVec 8)) (ml : List (BitVec 8)) (p : List Nat), p = pub.map BitVec.toNat ∧ s.chip.sec.drbgStopped = false ∧ (bitOf (s.chip.rg Reg.SEC_STATE.REVOKED) k = true ∨ sha384 p ≠ otpRecord k ∨ Config.verifies (leNat (p.take 32)) s.chip.unlockMessage (ed.map BitVec.toNat) = false ∨ Config.verifies (leNat (p.drop 32)) s.chip.unlockMessage (ml.map BitVec.toNat) = false)) ∧
    (∀ (k : Fin 4) (pub ed ml : List (BitVec 8)), sha384 (pub.map BitVec.toNat) = otpRecord k → Config.verifies (leNat (((pub.map BitVec.toNat)).take 32)) State.reset.chip.unlockMessage (ed.map BitVec.toNat) = true → Config.verifies (leNat (((pub.map BitVec.toNat)).drop 32)) State.reset.chip.unlockMessage (ml.map BitVec.toNat) = true → ∃ (s : State) (k : Fin 4) (pub : List (BitVec 8)) (ed : List (BitVec 8)) (ml : List (BitVec 8)) (p : List Nat), p = pub.map BitVec.toNat ∧ s.chip.sec.drbgStopped = false ∧ bitOf (s.chip.rg Reg.SEC_STATE.REVOKED) k = false ∧ sha384 p = otpRecord k ∧ Config.verifies (leNat (p.take 32)) s.chip.unlockMessage (ed.map BitVec.toNat) = true ∧ Config.verifies (leNat (p.drop 32)) s.chip.unlockMessage (ml.map BitVec.toNat) = true) :=
  ⟨(⟨pool.getD 1 .reset, { origin := Origin.ring 0, tag := (0x5 : BitVec 32) }, 1, by
      unfold TakenUp RecordClean RecordBad
      refine @of_decide_eq_true _ (by haveI := @decAllSome; haveI := @decExSome; haveI := @decOk; haveI := @decErr; infer_instance) ?_
      decide +kernel⟩),
   (⟨pool.getD 1 .reset, { origin := Origin.ring 0, tag := (0x5 : BitVec 32) }, 0, by
      unfold TakenUp RecordClean
      refine @of_decide_eq_true _ (by haveI := @decAllSome; haveI := @decExSome; haveI := @decOk; haveI := @decErr; infer_instance) ?_
      decide +kernel⟩),
   (⟨pool.getD 89 .reset, { origin := Origin.ring 0, tag := (0x5 : BitVec 32) }, 0, by
      unfold TakenUp
      refine @of_decide_eq_true _ (by haveI := @decAllSome; haveI := @decExSome; haveI := @decOk; haveI := @decErr; infer_instance) ?_
      decide +kernel⟩),
   (⟨pool.getD 1 .reset, { origin := Origin.ring 0, tag := (0x5 : BitVec 32) }, 0, by
      unfold TakenUp
      refine @of_decide_eq_true _ (by haveI := @decAllSome; haveI := @decExSome; haveI := @decOk; haveI := @decErr; infer_instance) ?_
      decide +kernel⟩),
   (⟨{ w0 := (0x900000d03 : BitVec 64), w1 := (0x400020002 : BitVec 64), w2 := (0x2000 : BitVec 64), w3 := (0x3000 : BitVec 64), w4 := (0x0 : BitVec 64), w5 := (0x0 : BitVec 64), w6 := (0x4000 : BitVec 64), w7 := (0x0 : BitVec 64) }, by
      decide +kernel⟩),
   (⟨{ w0 := (0x900000d03 : BitVec 64), w1 := (0x400000002 : BitVec 64), w2 := (0x2000 : BitVec 64), w3 := (0x3000 : BitVec 64), w4 := (0x0 : BitVec 64), w5 := (0x0 : BitVec 64), w6 := (0x4000 : BitVec 64), w7 := (0x0 : BitVec 64) }, by
      decide +kernel⟩),
   (⟨{ w0 := (0x900000d03 : BitVec 64), w1 := (0x400000002 : BitVec 64), w2 := (0x2000 : BitVec 64), w3 := (0x3000 : BitVec 64), w4 := (0x0 : BitVec 64), w5 := (0x0 : BitVec 64), w6 := (0x4000 : BitVec 64), w7 := (0x0 : BitVec 64) }, by
      decide +kernel⟩),
   (⟨pool.getD 1 .reset, { origin := Origin.ring 0, tag := (0x5 : BitVec 32) }, { w0 := (0x900000d03 : BitVec 64), w1 := (0x400000002 : BitVec 64), w2 := (0x2000 : BitVec 64), w3 := (0x3000 : BitVec 64), w4 := (0x0 : BitVec 64), w5 := (0x0 : BitVec 64), w6 := (0x4000 : BitVec 64), w7 := (0x0 : BitVec 64) }, by
      unfold TakenUp
      refine @of_decide_eq_true _ (by haveI := @decAllSome; haveI := @decExSome; haveI := @decOk; haveI := @decErr; infer_instance) ?_
      decide +kernel⟩),
   (⟨pool.getD 2 .reset, { origin := Origin.ring 0, tag := (0x5 : BitVec 32) }, { w0 := (0x900000d03 : BitVec 64), w1 := (0x400010002 : BitVec 64), w2 := (0x2000 : BitVec 64), w3 := (0x3000 : BitVec 64), w4 := (0x0 : BitVec 64), w5 := (0x0 : BitVec 64), w6 := (0x4000 : BitVec 64), w7 := (0x0 : BitVec 64) }, by
      unfold TakenUp
      refine @of_decide_eq_true _ (by haveI := @decAllSome; haveI := @decExSome; haveI := @decOk; haveI := @decErr; infer_instance) ?_
      decide +kernel⟩),
   (⟨pool.getD 8 .reset, by
      decide +kernel⟩),
   (⟨pool.getD 0 .reset, by
      decide +kernel⟩),
   (⟨pool.getD 8 .reset, [(0x1 : BitVec 8), (0x2 : BitVec 8)], [1, 2], by
      decide +kernel⟩),
   (⟨st (kup.sr Reg.SEC_STATE.REVOKED 1), 0, [(0x1 : BitVec 8), (0x2 : BitVec 8)], [(0x1 : BitVec 8), (0x2 : BitVec 8)], [(0x1 : BitVec 8), (0x2 : BitVec 8)], _, rfl, by decide +kernel, Or.inl (by decide +kernel)⟩),
   (fun k pub ed ml hp h1 h2 => ⟨.reset, k, pub, ed, ml, _, rfl, by decide +kernel, (by decide +kernel : ∀ k : Fin 4, bitOf (State.reset.chip.rg Reg.SEC_STATE.REVOKED) k = false) k, hp, h1, h2⟩)⟩

theorem test_KeysAndCipher_witness2 :
    (∃ (s : State), (s.chip.booting = false ∨ s.chip.pwr.stage1 = true)) ∧
    (∀ n v g, (st bt).chip.verifyImg (fun o => (st bt).chip.flashByte 0 (0x10000 + o)) 1 0xF0000 = .ok n v g → ∃ (s : State) (n : _) (v : _) (g : _), s.chip.booting = true ∧ s.chip.pwr.stage1 = false ∧ s.chip.verifyImg (fun o => s.chip.flashByte 0 (0x10000 + o)) 1 0xF0000 = .ok n v g) ∧
    (∀ n v g, bootBad0.chip.verifyImg (fun o => bootBad0.chip.flashByte 1 (0x10000 + o)) 1 0xF0000 = .ok n v g → ∃ (s : State) (e : _) (n : _) (v : _) (g : _), s.chip.booting = true ∧ s.chip.pwr.stage1 = false ∧ s.chip.verifyImg (fun o => s.chip.flashByte 0 (0x10000 + o)) 1 0xF0000 = .bad e ∧ s.chip.verifyImg (fun o => s.chip.flashByte 1 (0x10000 + o)) 1 0xF0000 = .ok n v g) ∧
    (∃ (s : State) (e : _) (f : _), s.chip.booting = true ∧ s.chip.pwr.stage1 = false ∧ s.chip.verifyImg (fun o => s.chip.flashByte 0 (0x10000 + o)) 1 0xF0000 = .bad e ∧ s.chip.verifyImg (fun o => s.chip.flashByte 1 (0x10000 + o)) 1 0xF0000 = .bad f) :=
  ⟨(⟨pool.getD 0 .reset, by
      decide +kernel⟩),
   (fun n v g h => ⟨st bt, n, v, g, by decide +kernel, by decide +kernel, h⟩),
   (fun n v g h => ⟨bootBad0, _, n, v, g, by decide +kernel, by decide +kernel, bootBad0_verdict, h⟩),
   (⟨bootBad, _, _, by decide +kernel, by decide +kernel, bootBad_verdict 0, bootBad_verdict 1⟩)⟩

end Sys2Proof.Tests.C17
end

