-- ==== Sys2Proof/Tests/C18.lean ====
section
/-! SUPPORT. States and operands that meet the hypotheses of the statements of chapter 18, clause by clause. -/
set_option Elab.async false
set_option maxRecDepth 100000
namespace Sys2Proof.Tests.C18
open Sys2Proof Sys2Proof.Machine Sys2Proof.Tests

def kup : Chip := hand up
def allS : List Nat := (List.range 768).filter (fun s => 640 ≤ s)
def rct (d : Chip) (k : Nat) : Chip := allS.foldl (fun d s => d.sr (Reg.FLT_SRC_CFG.REACT s) k) d
def md (d : Chip) (k : Nat) : Chip := d.sr Reg.FLT_MODE.MODE k
def hd (d : Chip) (hs : List HeldReaction) : Chip := { d with hub := { d.hub with held := hs } }
def inr (d : Chip) : Chip := { d with hub := { d.hub with inReset := true } }
def H (s r : Nat) : HeldReaction := ⟨s, r, 9, false, 0⟩
def fx (d : Chip) : Chip := allS.foldl (fun d s => d.sr (Reg.FLT_SRC_CFG.FIXED s) 1) d
def mb : List Chip := [kup, noise kup, kup.sr Reg.FLT_HIST_HEAD.HEAD (2^64-1)]
def ms : List Chip := [inr kup, hd (md (rct kup 3) 2) [H 640 3], fx (md (rct kup 4) 3), allS.foldl (fun d s => d.sr (Reg.FLT_SRC_EVENTS.COUNT s) (2^48-2)) kup, nc] ++ [0,1,2,3,4,5,6,7].flatMap (fun k => [rct kup k, md (rct (noise kup) k) 0]) ++ [md (rct (mb.getD 2 {}) 3) 3, rct (mb.getD 2 {}) 0]
where nc := (rct (noise kup) 2).setAgentSt (.block .mem) .fenced
def ms_1 : List Chip := [kup, hd kup [H 640 3], hd (md (noise kup) 2) [H 640 2, H 700 4], hd (md (noise kup) 2) [H 700 4], hd kup [H 700 5], hd kup [H 3 2], hd kup [H 700 2], inr (hd kup [H 700 3]), hd (kup.sr Reg.FLT_HIST_HEAD.HEAD (2^64-1)) [H 700 4, H 640 3]]
def tk (d : Chip) (n : Nat) : Chip := (d.sr Reg.TCK_NUMBER.NUMBER n)
def ms_2 : List Chip := [{}, kup, noise kup, hd kup [H 640 3], hd (md (noise kup) 2) [H 640 2, H 700 4], hd (md (noise kup) 0) [H 700 4], tk (hd (md (noise kup) 0) [H 700 4]) (2^44), tk (md kup 0) (2^44), tk (hd (md (noise kup) 0) [H 700 3]) (2^44), hd kup [H 700 5], hd kup [H 3 2]]
def wd (d : Chip) : Chip := d.sr Reg.FLT_CHIP_WDOG.LIMIT 5
def arm_ (d : Chip) : Chip := { d with arm := [(0, { released := true }), (3, { released := true })] }
def ms_3 : List Chip := [{}, kup, noise kup, arm_ (noise kup), wd kup, wd (arm_ (noise kup)), tk (wd kup) (2^40), tk (wd (noise kup)) (2^40), tk (wd (rct kup 5)) (2^40), tk (wd (rct kup 2)) (2^40), tk (wd (rct (md kup 0) 3)) (2^40), (tk (wd kup) (2^40)).sr (Reg.OBS_DBG_CTRL.HALTED 0) 1, inr (tk (wd kup) (2^40)), hd (kup.sr (Reg.TCK_STATUS.STATE) 3) [H 640 3]]
def pool : List State := (ms.map st) ++ (ms_1.map st) ++ (ms_2.map st) ++ (ms_3.map st)

theorem test_FaultHub_witness :
    (∃ (f : Fin 768), sourceNamed f = false) ∧
    (∃ (f : Fin 768), sourceNamed f = true) ∧
    (∃ (s : State) (f : Fin 768), hubOnly f ∧ (s.chip.wake).rg (Reg.FLT_SRC_EVENTS.COUNT f) ≠ 2 ^ 48 - 1 ∧ (s.chip.wake).rg (Reg.FLT_SRC_CFG.N f) = 0 ∧ (s.chip.wake).rg (Reg.FLT_SRC_STATE.SEVERE f) ≠ 1) ∧
    (∃ (s : State) (f : Fin 768), s.chip.heldOf f = none) ∧
    (∃ (s : State) (f : Fin 768) (h : _), s.chip.heldOf f = some h ∧ s.chip.tick + 1 < h.since + s.chip.usTicks (s.chip.rg Reg.FLT_GRACE.US)) ∧
    (∃ (s : State) (f : Fin 768) (h : _), s.chip.heldOf f = some h ∧ h.since + s.chip.usTicks (s.chip.rg Reg.FLT_GRACE.US) ≤ s.chip.tick + 1) ∧
    (∃ (s : State), s.chip.flag Reg.PCR_STATE.READY = false) ∧
    (∃ (s : State), s.chip.flag Reg.PCR_STATE.READY = true ∧ (s.chip.rg Reg.FLT_MODE.MODE ≠ 0 ∨ s.chip.tick < s.chip.pwr.readyTick + s.chip.usTicks 30000000 - 1)) ∧
    (∃ (s : State), s.chip.flag Reg.PCR_STATE.READY = true ∧ s.chip.hub.held = []) ∧
    (∃ (s : State) (h : _), s.chip.flag Reg.PCR_STATE.READY = true ∧ s.chip.hub.held = [h] ∧ h.source < 768) ∧
    (∃ (s : State), (s.chip.rg Reg.FLT_CHIP_WDOG.LIMIT = 0 ∨ s.chip.tick < s.chip.pwr.petTick + s.chip.usTicks (s.chip.rg Reg.FLT_CHIP_WDOG.LIMIT * 1000) - 1 ∨ s.chip.flag (Reg.OBS_DBG_CTRL.HALTED 0) = true)) ∧
    (∃ (s : State), s.chip.rg Reg.FLT_CHIP_WDOG.LIMIT ≠ 0 ∧ s.chip.pwr.petTick + s.chip.usTicks (s.chip.rg Reg.FLT_CHIP_WDOG.LIMIT * 1000) - 1 ≤ s.chip.tick ∧ s.chip.flag (Reg.OBS_DBG_CTRL.HALTED 0) = false ∧ s.chip.hub.inReset = false ∧ s.chip.pwr.trigger = 0) :=
  ⟨(⟨7, by
      decide +kernel⟩),
   (⟨640, by
      decide +kernel⟩),
   (⟨pool.getD 0 .reset, 642, by
      unfold hubOnly
      refine @of_decide_eq_true _ (by haveI := @decAllSome; haveI := @decExSome; haveI := @decOk; haveI := @decErr; infer_instance) ?_
      decide +kernel⟩),
   (⟨pool.getD 0 .reset, 7, by
      decide +kernel⟩),
   (⟨pool.getD 1 .reset, 640, { source := 640, reaction := 3, detail := 9, injected := false, since := 0 }, by
      decide +kernel⟩),
   (⟨pool.getD 38 .reset, 700, { source := 700, reaction := 4, detail := 9, injected := false, since := 0 }, by
      decide +kernel⟩),
   (⟨pool.getD 32 .reset, by
      decide +kernel⟩),
   (⟨pool.getD 0 .reset, by
      decide +kernel⟩),
   (⟨pool.getD 0 .reset, by
      decide +kernel⟩),
   (⟨pool.getD 1 .reset, { source := 640, reaction := 3, detail := 9, injected := false, since := 0 }, by
      decide +kernel⟩),
   (⟨pool.getD 0 .reset, by
      decide +kernel⟩),
   (⟨pool.getD 49 .reset, by
      decide +kernel⟩)⟩

end Sys2Proof.Tests.C18
end

