-- ==== Sys2Proof/Tests/C19.lean ====
section
/-! SUPPORT. States and operands that meet the hypotheses of the statements of chapter 19, clause by clause. -/
set_option Elab.async false
set_option maxRecDepth 100000
namespace Sys2Proof.Tests.C19
open Sys2Proof Sys2Proof.Machine Sys2Proof.Tests

def kup : Chip := hand up
def px (d : Chip) (f : PwrUnit → PwrUnit) : Chip := { d with pwr := f d.pwr }
def hx (d : Chip) (f : Hub → Hub) : Chip := { d with hub := f d.hub }
def bt : Chip := { ({} : Chip) with pwr := { ({} : Chip).pwr with por := false, straps := 0, refclk := true } }
def rel (d : Chip) : Chip := { d with arm := (List.range 16).map (fun n => (n, { released := true })) }
def K : KeySlot := ⟨false, 8, 0x7F, 0xFFFF, 0x11, List.range 32, 4⟩
def rich (d : Chip) : Chip := { (((d.sr Reg.SEC_SVN.FIRMWARE 5).sr Reg.SEC_STATE.REVOKED 3).sr Reg.MEM_PLINTH_STATE.INIT_BUSY 0) with
   mem := { cells := [(0x1000, 5), (0x8000_0000, 7), (0x10_0000_0000, 6), (0x80_0000_0000, 6), (0x100_0000_0000, 6), (0x200_0000_0000, 6)], poison := [0x40, 0x100_0000_0000] }
   sec := { d.sec with slots := [(3, K)] }
   hub := { d.hub with faultN := true }
   fw := { d.fw with flash := [(3, 4)] }
   pat := { d.pat with held := [⟨2, 0, 5, [1]⟩] }
   led := { (withItems d [item0 3 .work .none, { item0 4 (.general 0x0B01) .taken with state := .committed, redo := true }, { item0 6 (.checkpoint 3) .issued with owner := 0x57 }, { item0 9 (.nvme 1 0 3) .none with owner := 0x42 }]).led with mirrorDev := none } }
def rs (d : Chip) : Chip := hx d (fun h => { h with inReset := true })
def trig (d : Chip) (k : Nat) : Chip := px d (fun p => { p with trigger := k })
def relz (d : Chip) : Chip := px d (fun p => { p with released := true, fencedAt := [3, 60] })
def ent (d : Chip) (k : Nat) : Chip := px d (fun p => { p with entering := k })
def pow (d : Chip) (k : Nat) : Chip := d.sr Reg.PCR_STATE.POWER k
def exi (d : Chip) : Chip := px d (fun p => { p with exiting := true })
def pll (d : Chip) (l : Nat) (b : Bool := true) : Chip := px d (fun p => { p with pllLost := l, pllStart := b })
def rf (d : Chip) : Chip := px d (fun p => { p with refLost := true })
def onr (d : Chip) (k : Nat) : Chip := (d.sr Reg.TCK_STATUS.BYPASS 0).sr Reg.TCK_STATUS.STATE k
def idl (d : Chip) : Chip := { d with fetched := [], answer := none, attn := [] }
def rdy (d : Chip) : Chip := ((rel d).sr Reg.PCR_STATE.MAQ_LOADED 1).sr Reg.MEM_PLINTH_STATE.INIT_BUSY 0
def cr (d : Chip) : Chip := hx d (fun h => { h with chipReset := true })
def rdy_9 (d : Chip) : Chip := relz (rs (rel d))
def cx : DvtConn := ⟨.open, 0, 1, 1, 0, 0, 2, 3, 0, 0, 0, 0, .open, 0, false, 0, 0, 0, 0, 0, [], [], [], [], [], [], [], []⟩
def I := idl kup
def J := idl (noise kup)
def pool : List State := ([st {}, st kup, st (rich kup), st (rich (noise kup)), st (rich bt)]) ++ ([st {}, st kup, st (px {} (fun p => { p with thermtrip := true })), st (px kup (fun p => { p with por := true }))]) ++ ([st {}, st kup, st (px {} (fun p => { p with thermtrip := true })), st (px kup (fun p => { p with por := true }))]) ++ ([st {}, st kup, st bt, st (px bt (fun p => { p with stage1 := true }))]) ++ ([st {}, st kup, st bt, st (rdy bt), st (px (rdy (noise bt)) (fun p => { p with joinWanted := true })), st (rs (rdy bt)), st (rel bt), st (rdy { bt with led := { bt.led with mirrorDev := some 3 } })]) ++ ([st {}, st kup, st bt, st (pll bt 1), st (pll (noise bt) 0), st (kup.sr Reg.PCR_CLK_CTRL.LOCKED 1), st ((noise bt).sr Reg.PCR_CLK_CTRL.LOCKED 1)]) ++ ([st {}, st kup, st (pll kup 0), st (pll (noise kup) 1), st (pll (noise kup) 2), st (pll kup 3), st (pow (pll kup 0) 3), st (pow (pll kup 1) 2), st (pll kup 1 false), st (ent (pll kup 0) 2)]) ++ ([st {}, st kup, st (rf kup), st bt, st (onr kup 1), st (onr (noise kup) 3), st (rf (onr kup 2)), st (rf (onr (noise kup) 2)), st (rf ((onr kup 2).sr Reg.TCK_CTRL.ROLE 1)), st { rf (onr (noise kup) 2) with attn := [⟨.holdover, .degraded, 3⟩] }, st (ent (onr kup 3) 2), st (rf (onr kup 1)), st ((rf (onr kup 2)).sr Reg.TCK_CTRL.ROLE 0), st ({ ((rf (onr (noise kup) 2)).sr Reg.TCK_CTRL.ROLE 0) with attn := [⟨.haltRequest, .halting, 8⟩, ⟨.holdover, .degraded, 3⟩] })]) ++ ([st {}, st kup, st (trig kup 4), st (trig (rich (noise kup)) 2), st (cr (rich (noise kup))), st (cr (ent kup 2)), st (rs (trig (rich kup) 1)), st (rs (relz (trig kup 1))), st (px (trig kup 3) (fun p => { p with por := true })), st (pow (rich kup) 3), st { cr (rich kup) with ldr := { plans := [⟨3, 0, .active, ⟨0, false, 16, 1, 1, 256, 0, 0, 0, 0, 0, 0, 0, 0, 0, 192, 0, 0xFFFF, List.replicate 12 0, List.replicate 12 0⟩, 0x100000, [3], 0, 0, 0, false, 0⟩] } }, st { cr (rich kup) with mu := { kup.mu with merge := [⟨0x1000, [(0, 3)]⟩] } }]) ++ ([st { rdy_9 kup with dvt := { kup.dvt with conns := [(3, cx)] } }, st {}, st kup, st (rdy_9 kup), st (rdy_9 (rich kup)), st (rdy_9 (rich (noise kup))), st ((rdy_9 kup).sr (Reg.WKC_STATE.ROLE 3) 2), st (px (rdy_9 kup) (fun p => { p with joinWanted := true })), st (rs (rel kup))]) ++ ([st {}, st kup, st I, st J, st (pow I 1), st (ent I 1), st (ent J 3), st (exi I), st (trig I 2), st (rs I), st (I.sr Reg.PCR_IDLE_CFG.MAX_STATE 1), st (I.sr (Reg.LNK_PORT_STATE.STATE 3) 2), st { J with dvt := { J.dvt with cache := [3] }, mu := { J.mu with xlat := [(3,4)] } }]) ++ ([st {}, st kup, st (ent kup 1), st (ent (rich (noise kup)) 2), st (ent (rich (noise kup)) 3), st (pow kup 1), st (exi (pow (rich kup) 2)), st (exi (pow kup 3)), st (exi ((pow (rich (noise kup)) 3).sr Reg.PCR_STATE.CLK_SRC 0)), st (exi kup), st (ent (exi (pow kup 1)) 2)])


def maqBt : State := st { bt with pwr := { bt.pwr with stage1 := true } }


theorem tget_none {α : Type} (t : Tbl α) (n : Nat) (h : ∀ p ∈ t, p.1 ≠ n) : tget t n = none := by
  induction t with
  | nil => rfl
  | cons p t ih =>
    obtain ⟨k, v⟩ := p
    simp only [List.mem_cons, forall_eq_or_imp] at h
    simp [tget, h.1, ih h.2]

/-- With no register of a ring pair written, every ring pair is idle. -/
theorem rings_idle (d : Chip) (h : ∀ p ∈ d.regs, p.1 < 8 * 0x180000 ∨ 8 * 0x200000 ≤ p.1) :
    (List.range 16384).all (fun r => !d.flag (Reg.HIF_RING.ENABLE r) || d.rg (Reg.HIF_DB_CMD.CMD_TAIL r) = d.rg (Reg.HIF_RING_IDX.CMD_HEAD r)) = true := by
  refine List.all_eq_true.mpr (fun r hr => ?_)
  have hr := List.mem_range.mp hr
  have e : tget d.regs (Reg.HIF_RING.ENABLE r).bit = none :=
    tget_none _ _ (fun p hp => by have := h p hp; simp only [Reg.HIF_RING.ENABLE]; omega)
  have f : d.flag (Reg.HIF_RING.ENABLE r) = false := by simp only [Chip.flag, Chip.rg, e]; rfl
  simp [f]

/-- A chip none of whose ring pairs has been written. -/
def noRings (s : State) : State := st { s.chip with regs := s.chip.regs.filter (fun p => p.1 < 8 * 0x180000 || decide (8 * 0x200000 ≤ p.1)) }
theorem test_StartUp_witness1 :
    (∃ (s : State), s.chip.pwr.por = false) ∧
    (∃ (s : State), s.chip.pwr.por = true) ∧
    (∃ (s : State), (s.chip.pwr.por = true ∨ 4 ≤ s.chip.pwr.straps)) ∧
    (∃ (s : State), s.chip.pwr.por = false ∧ s.chip.pwr.straps < 4) ∧
    (∃ (s : State), (s.chip.booting = false ∨ s.chip.pwr.stage1 = false ∨ s.chip.flag Reg.PCR_STATE.MAQ_LOADED = true ∨ s.chip.hub.inReset = true)) ∧
    (∀ len svn g m x, (maqBt.chip.maqTry (maqFlash maqBt.chip 0) = .taken len svn g m x) → ∃ (s : State) (len : _) (svn : _) (g : _) (m : _) (x : _), s.chip.booting = true ∧ s.chip.pwr.stage1 = true ∧ s.chip.flag Reg.PCR_STATE.MAQ_LOADED = false ∧ s.chip.hub.inReset = false ∧ s.chip.maqTry (maqFlash s.chip 0) = .taken len svn g m x) ∧
    (∀ c e len svn g m x, ((maqBt.chip.maqTry (maqFlash maqBt.chip 0) = .refused c ∧ e = maqBt.chip.sr Reg.PCR_STATE.MAQ_CAUSE c) ∨ (maqBt.chip.maqTry (maqFlash maqBt.chip 0) = .unverified ∧ c = 0 ∧ e = maqBt.chip.fault Src.SEC_AUTH)) → (e.maqTry (maqFlash e 1) = .taken len svn g m x) → ∃ (s : State) (c : _) (e : _) (len : _) (svn : _) (g : _) (m : _) (x : _), s.chip.booting = true ∧ s.chip.pwr.stage1 = true ∧ s.chip.flag Reg.PCR_STATE.MAQ_LOADED = false ∧ s.chip.hub.inReset = false ∧ ((s.chip.maqTry (maqFlash s.chip 0) = .refused c ∧ e = s.chip.sr Reg.PCR_STATE.MAQ_CAUSE c) ∨ (s.chip.maqTry (maqFlash s.chip 0) = .unverified ∧ c = 0 ∧ e = s.chip.fault Src.SEC_AUTH)) ∧ e.maqTry (maqFlash e 1) = .taken len svn g m x) ∧
    (∀ c e k, ((maqBt.chip.maqTry (maqFlash maqBt.chip 0) = .refused c ∧ e = maqBt.chip.sr Reg.PCR_STATE.MAQ_CAUSE c) ∨ (maqBt.chip.maqTry (maqFlash maqBt.chip 0) = .unverified ∧ c = 0 ∧ e = maqBt.chip.fault Src.SEC_AUTH)) → (e.maqTry (maqFlash e 1) = .refused k) → ∃ (s : State) (c : _) (e : _) (k : _), s.chip.booting = true ∧ s.chip.pwr.stage1 = true ∧ s.chip.flag Reg.PCR_STATE.MAQ_LOADED = false ∧ s.chip.hub.inReset = false ∧ ((s.chip.maqTry (maqFlash s.chip 0) = .refused c ∧ e = s.chip.sr Reg.PCR_STATE.MAQ_CAUSE c) ∨ (s.chip.maqTry (maqFlash s.chip 0) = .unverified ∧ c = 0 ∧ e = s.chip.fault Src.SEC_AUTH)) ∧ e.maqTry (maqFlash e 1) = .refused k) ∧
    (∀ c e, ((maqBt.chip.maqTry (maqFlash maqBt.chip 0) = .refused c ∧ e = maqBt.chip.sr Reg.PCR_STATE.MAQ_CAUSE c) ∨ (maqBt.chip.maqTry (maqFlash maqBt.chip 0) = .unverified ∧ c = 0 ∧ e = maqBt.chip.fault Src.SEC_AUTH)) → (e.maqTry (maqFlash e 1) = .unverified) → ∃ (s : State) (c : _) (e : _), s.chip.booting = true ∧ s.chip.pwr.stage1 = true ∧ s.chip.flag Reg.PCR_STATE.MAQ_LOADED = false ∧ s.chip.hub.inReset = false ∧ ((s.chip.maqTry (maqFlash s.chip 0) = .refused c ∧ e = s.chip.sr Reg.PCR_STATE.MAQ_CAUSE c) ∨ (s.chip.maqTry (maqFlash s.chip 0) = .unverified ∧ c = 0 ∧ e = s.chip.fault Src.SEC_AUTH)) ∧ e.maqTry (maqFlash e 1) = .unverified) ∧
    (∀ c len svn g m x, (maqBt.chip.maqTry (maqFlash maqBt.chip 0) = .refused c) → ((maqBt.chip.sr Reg.PCR_STATE.MAQ_CAUSE c).maqTry (maqFlash (maqBt.chip.sr Reg.PCR_STATE.MAQ_CAUSE c) 1) = .taken len svn g m x) → ∃ (s : State) (c : _) (len : _) (svn : _) (g : _) (m : _) (x : _), s.chip.booting = true ∧ s.chip.pwr.stage1 = true ∧ s.chip.flag Reg.PCR_STATE.MAQ_LOADED = false ∧ s.chip.hub.inReset = false ∧ s.chip.maqTry (maqFlash s.chip 0) = .refused c ∧ (s.chip.sr Reg.PCR_STATE.MAQ_CAUSE c).maqTry (maqFlash (s.chip.sr Reg.PCR_STATE.MAQ_CAUSE c) 1) = .taken len svn g m x) ∧
    (∀ c k, (maqBt.chip.maqTry (maqFlash maqBt.chip 0) = .refused c) → ((maqBt.chip.sr Reg.PCR_STATE.MAQ_CAUSE c).maqTry (maqFlash (maqBt.chip.sr Reg.PCR_STATE.MAQ_CAUSE c) 1) = .refused k) → ∃ (s : State) (c : _) (k : _), s.chip.booting = true ∧ s.chip.pwr.stage1 = true ∧ s.chip.flag Reg.PCR_STATE.MAQ_LOADED = false ∧ s.chip.hub.inReset = false ∧ s.chip.maqTry (maqFlash s.chip 0) = .refused c ∧ (s.chip.sr Reg.PCR_STATE.MAQ_CAUSE c).maqTry (maqFlash (s.chip.sr Reg.PCR_STATE.MAQ_CAUSE c) 1) = .refused k) ∧
    (∃ (s : State), (s.chip.booting = false ∨ s.chip.hub.inReset = true ∨ s.chip.flag Reg.PCR_STATE.READY = true ∨ s.chip.flag Reg.PCR_STATE.MAQ_LOADED = false ∨ s.chip.flag Reg.MEM_PLINTH_STATE.INIT_BUSY = true ∨ s.chip.coresReleased = false ∨ (s.chip.led.mirrorDev.isSome = true ∧ s.chip.led.checked = false))) ∧
    (∃ (s : State), s.chip.booting = true ∧ s.chip.hub.inReset = false ∧ s.chip.flag Reg.PCR_STATE.READY = false ∧ s.chip.flag Reg.PCR_STATE.MAQ_LOADED = true ∧ s.chip.flag Reg.MEM_PLINTH_STATE.INIT_BUSY = false ∧ s.chip.coresReleased = true ∧ (s.chip.led.mirrorDev = none ∨ s.chip.led.checked = true)) ∧
    (∃ (s : State), s.chip.booting = false) :=
  ⟨(⟨pool.getD 1 .reset, by
      decide +kernel⟩),
   (⟨pool.getD 0 .reset, by
      decide +kernel⟩),
   (⟨pool.getD 0 .reset, by
      decide +kernel⟩),
   (⟨pool.getD 1 .reset, by
      decide +kernel⟩),
   (⟨pool.getD 0 .reset, by
      decide +kernel⟩),
   (fun len svn g m x h0 => ⟨maqBt, len, svn, g, m, x, by decide +kernel, by decide +kernel, by decide +kernel, by decide +kernel, h0⟩),
   (fun c e len svn g m x h0 h1 => ⟨maqBt, c, e, len, svn, g, m, x, by decide +kernel, by decide +kernel, by decide +kernel, by decide +kernel, h0, h1⟩),
   (fun c e k h0 h1 => ⟨maqBt, c, e, k, by decide +kernel, by decide +kernel, by decide +kernel, by decide +kernel, h0, h1⟩),
   (fun c e h0 h1 => ⟨maqBt, c, e, by decide +kernel, by decide +kernel, by decide +kernel, by decide +kernel, h0, h1⟩),
   (fun c len svn g m x h0 h1 => ⟨maqBt, c, len, svn, g, m, x, by decide +kernel, by decide +kernel, by decide +kernel, by decide +kernel, h0, h1⟩),
   (fun c k h0 h1 => ⟨maqBt, c, k, by decide +kernel, by decide +kernel, by decide +kernel, by decide +kernel, h0, h1⟩),
   (⟨pool.getD 0 .reset, by
      decide +kernel⟩),
   (⟨pool.getD 20 .reset, by
      decide +kernel⟩),
   (⟨pool.getD 0 .reset, by
      decide +kernel⟩)⟩

theorem test_StartUp_witness2 :
    (∃ (s : State), (s.chip.flag Reg.PCR_CLK_CTRL.LOCKED = false ∨ s.chip.flag Reg.PCR_STATE.CLK_SRC = true)) ∧
    (∃ (s : State), s.chip.flag Reg.PCR_CLK_CTRL.LOCKED = true ∧ s.chip.flag Reg.PCR_STATE.CLK_SRC = false) ∧
    (∃ (s : State) (k : Fin 2), (s.chip.pwr.pllStart = false ∨ bitOf s.chip.pwr.pllLost k = true)) ∧
    (∃ (s : State) (k : Fin 2), s.chip.pwr.pllStart = true ∧ bitOf s.chip.pwr.pllLost k = false) ∧
    (∃ (s : State) (k : Fin 2), bitOf s.chip.pwr.pllLost k = false) ∧
    (∃ (s : State) (k : Fin 2), bitOf s.chip.pwr.pllLost k = true) ∧
    (∃ (s : State), (s.chip.pwr.refclk = false ∨ s.chip.pwr.refLost = true)) ∧
    (∃ (s : State), s.chip.pwr.refclk = true ∧ s.chip.pwr.refLost = false ∧ onRing (({ s.chip with pwr := { s.chip.pwr with refLost := true } } : Chip).fault Src.PCR_REFCLK) = false) ∧
    (∃ (s : State), s.chip.pwr.refclk = true ∧ s.chip.pwr.refLost = false ∧ onRing (({ s.chip with pwr := { s.chip.pwr with refLost := true } } : Chip).fault Src.PCR_REFCLK) = true) ∧
    (∃ (s : State), s.chip.pwr.refLost = false) ∧
    (∃ (s : State), s.chip.pwr.refLost = true) :=
  ⟨(⟨pool.getD 0 .reset, by
      decide +kernel⟩),
   (⟨pool.getD 31 .reset, by
      decide +kernel⟩),
   (⟨pool.getD 0 .reset, 0, by
      decide +kernel⟩),
   (⟨pool.getD 1 .reset, 0, by
      decide +kernel⟩),
   (⟨pool.getD 0 .reset, 0, by
      decide +kernel⟩),
   (⟨pool.getD 28 .reset, 0, by
      decide +kernel⟩),
   (⟨pool.getD 0 .reset, by
      decide +kernel⟩),
   (⟨pool.getD 1 .reset, by
      decide +kernel⟩),
   (⟨pool.getD 46 .reset, by
      decide +kernel⟩),
   (⟨pool.getD 0 .reset, by
      decide +kernel⟩),
   (⟨pool.getD 44 .reset, by
      decide +kernel⟩)⟩

theorem test_ResetsAndPower_witness1 :
    (∃ (s : State), (s.chip.warmCause = 0 ∨ s.chip.hub.inReset = true ∨ s.chip.pwr.por = true)) ∧
    (∃ (s : State), s.chip.warmCause ≠ 0 ∧ s.chip.hub.inReset = false ∧ s.chip.pwr.por = false) ∧
    (∃ (s : State), s.chip.pwr.por = true) ∧
    (∃ (s : State), s.chip.pwr.por = false) ∧
    (∃ (s : State), (s.chip.hub.inReset = false ∨ s.chip.pwr.released = true)) ∧
    (∃ (s : State), s.chip.hub.inReset = true ∧ s.chip.pwr.released = false) ∧
    (∃ (s : State), (s.chip.hub.inReset = false ∨ s.chip.pwr.released = false ∨ s.chip.flag Reg.FLT_SAFE.SAFE = true ∨ s.chip.flag Reg.PCR_STATE.MAQ_LOADED = false ∨ s.chip.coresReleased = false ∨ s.chip.flag Reg.PCR_STATE.CLK_SRC = false ∨ s.chip.led.lost = true)) ∧
    (∃ (s : State), s.chip.hub.inReset = true ∧ s.chip.pwr.released = true ∧ s.chip.flag Reg.FLT_SAFE.SAFE = false ∧ s.chip.flag Reg.PCR_STATE.MAQ_LOADED = true ∧ s.chip.coresReleased = true ∧ s.chip.flag Reg.PCR_STATE.CLK_SRC = true ∧ s.chip.led.lost = false) ∧
    (∃ (s : State) (k : Fin 4), k.val = 1 ∧ (s.chip.flag Reg.PCR_STATE.READY = false ∨ s.chip.hub.inReset = true ∨ s.chip.flag Reg.FLT_SAFE.SAFE = true ∨ s.chip.isIdle = false ∨ s.chip.rg Reg.PCR_IDLE_CFG.MAX_STATE < k ∨ k.val ≤ s.chip.rg Reg.PCR_STATE.POWER ∨ s.chip.pwr.trigger ≠ 0 ∨ s.chip.pwr.exiting = true ∨ k.val ≤ s.chip.pwr.entering ∨ (k = 3 ∧ s.chip.allPortsDown = false))) ∧
    (∃ (s : State) (k : Fin 4), k.val = 1 ∧ s.chip.flag Reg.PCR_STATE.READY = true ∧ s.chip.hub.inReset = false ∧ s.chip.pwr.trigger = 0 ∧ s.chip.pwr.exiting = false ∧ s.chip.flag Reg.FLT_SAFE.SAFE = false ∧ s.chip.isIdle = true ∧ k.val ≤ s.chip.rg Reg.PCR_IDLE_CFG.MAX_STATE ∧ s.chip.rg Reg.PCR_STATE.POWER < k ∧ s.chip.pwr.entering < k ∧ (k = 3 → s.chip.allPortsDown = true)) ∧
    (∃ (s : State) (k : Fin 4), k.val = 1 ∧ s.chip.flag Reg.PCR_STATE.READY = true ∧ s.chip.hub.inReset = false ∧ s.chip.pwr.trigger = 0 ∧ s.chip.pwr.exiting = false ∧ s.chip.flag Reg.FLT_SAFE.SAFE = false ∧ s.chip.isIdle = true ∧ k.val ≤ s.chip.rg Reg.PCR_IDLE_CFG.MAX_STATE ∧ s.chip.rg Reg.PCR_STATE.POWER < k ∧ s.chip.pwr.entering < k ∧ (k = 3 → s.chip.allPortsDown = true) ∧ s.chip.mu.merge = []) ∧
    (∃ (s : State), 0 < s.chip.pwr.entering ∧ s.chip.pwr.entering ≤ 3) ∧
    (∃ (s : State), s.chip.pwr.entering ≠ 0) ∧
    (∃ (s : State), s.chip.pwr.entering = 0 ∧ s.chip.rg Reg.PCR_STATE.POWER ≠ 0 ∧ s.chip.pwr.exiting = false) :=
  ⟨(⟨pool.getD 0 .reset, by
      decide +kernel⟩),
   (⟨pool.getD 58 .reset, by
      decide +kernel⟩),
   (⟨pool.getD 0 .reset, by
      decide +kernel⟩),
   (⟨pool.getD 1 .reset, by
      decide +kernel⟩),
   (⟨pool.getD 0 .reset, by
      decide +kernel⟩),
   (⟨pool.getD 22 .reset, by
      decide +kernel⟩),
   (⟨pool.getD 0 .reset, by
      decide +kernel⟩),
   (⟨pool.getD 68 .reset, by
      decide +kernel⟩),
   (⟨pool.getD 0 .reset, 1, by
      decide +kernel⟩),
   (⟨noRings (pool.getD 79 .reset), 1, by decide +kernel, by decide +kernel, by decide +kernel, by decide +kernel, by decide +kernel, by decide +kernel, by
      unfold Chip.isIdle
      rw [rings_idle _ (by decide +kernel)]
      decide +kernel, by decide +kernel, by decide +kernel, by decide +kernel, by refine @of_decide_eq_true _ (by haveI := @decAllSome; haveI := @decExSome; haveI := @decOk; haveI := @decErr; infer_instance) ?_; decide +kernel⟩),
   (⟨noRings (pool.getD 79 .reset), 1, by decide +kernel, by decide +kernel, by decide +kernel, by decide +kernel, by decide +kernel, by decide +kernel, by
      unfold Chip.isIdle
      rw [rings_idle _ (by decide +kernel)]
      decide +kernel, by decide +kernel, by decide +kernel, by decide +kernel, by refine @of_decide_eq_true _ (by haveI := @decAllSome; haveI := @decExSome; haveI := @decOk; haveI := @decErr; infer_instance) ?_; decide +kernel, by decide +kernel⟩),
   (⟨pool.getD 41 .reset, by
      decide +kernel⟩),
   (⟨pool.getD 41 .reset, by
      decide +kernel⟩),
   (⟨pool.getD 38 .reset, by
      decide +kernel⟩)⟩

theorem test_ResetsAndPower_witness2 :
    (∃ (s : State), s.chip.pwr.entering = 0 ∧ (s.chip.rg Reg.PCR_STATE.POWER = 0 ∨ s.chip.pwr.exiting = true)) ∧
    (∃ (s : State), (s.chip.pwr.exiting = false ∨ (s.chip.rg Reg.PCR_STATE.POWER = 3 ∧ s.chip.flag Reg.PCR_STATE.CLK_SRC = false))) ∧
    (∃ (s : State), s.chip.pwr.exiting = true ∧ s.chip.rg Reg.PCR_STATE.POWER ≠ 3) ∧
    (∃ (s : State), s.chip.pwr.exiting = true ∧ s.chip.rg Reg.PCR_STATE.POWER = 3 ∧ s.chip.flag Reg.PCR_STATE.CLK_SRC = true) ∧
    (∃ (s : State), s.chip.pwr.exiting = false) ∧
    (∃ (n : BitVec 8), 190 ≤ n.toNat ∧ n.toNat ≤ 210) ∧
    (∃ (n : BitVec 8), (n.toNat < 190 ∨ 210 < n.toNat)) :=
  ⟨(⟨pool.getD 0 .reset, by
      decide +kernel⟩),
   (⟨pool.getD 0 .reset, by
      decide +kernel⟩),
   (⟨pool.getD 84 .reset, by
      decide +kernel⟩),
   (⟨pool.getD 97 .reset, by
      decide +kernel⟩),
   (⟨pool.getD 0 .reset, by
      decide +kernel⟩),
   (⟨(0xbe : BitVec 8), by
      decide +kernel⟩),
   (⟨(0x0 : BitVec 8), by
      decide +kernel⟩)⟩

end Sys2Proof.Tests.C19
end

