-- ==== Sys2Proof/Tests/C20.lean ====
section
/-! SUPPORT. States and operands that meet the hypotheses of the statements of chapter 20, clause by clause. -/
set_option Elab.async false
set_option maxRecDepth 100000
namespace Sys2Proof.Tests.C20
open Sys2Proof Sys2Proof.Machine Sys2Proof.Tests

def d1 := ((up.sr Reg.OBS_TRACE_CFG.ENABLE 1).sr Reg.OBS_TRACE_STATE.STATE 1).sr Reg.OBS_TRACE_CFG.CORES 0
def d2 := (((d1.sr Reg.OBS_TRACE_STATE.STATE 2).sr Reg.SEC_STATE.DEBUG 1).setCore 1 { released := true, pc := 0x1234567 }).sr (Reg.OBS_DBG_CTRL.HALTED 0) 1
def d3 := { (d2.sr (Reg.MEM_COUNT.COUNT 0) 7).sr (Reg.OBS_COUNT.COUNT 3) 9 with trc := { left := 3 }, satCtrs := [(Reg.OBS_COUNT.COUNT 3).bit], hub := { hang := [1, 96] } }
def d4 := { d3 with hub := { hang := [96] }, cal := { due := true, emergency := true, lastFlag := 0 }, pat := { time := 2^29 } }
def d5 := (((d4.sr Reg.CAL_CFG.OWNER 1).sr (Reg.CAL_ACC.BUDGET 0) 5).sr (Reg.CAL_ACC.EMERG 0) 7).sr Reg.TCK_NUMBER.NUMBER 300
def d6 := { ((d5.sr Reg.TCK_STATUS.STATE 1).sr Reg.TCK_STATUS.BYPASS 0) with cal := { d5.cal with emergency := false, sent := [(0, (5, 290))] } }
def d7 := { (cntMax d6 [Reg.OBS_COUNT.COUNT 3, Reg.OBS_COUNT.COUNT 4, Reg.OBS_COUNT.COUNT 7, Reg.PAT_COUNT.COUNT 0, Reg.PAT_COUNT.COUNT 1]) with cal := { d6.cal with sent := [(0, (4, 290))] } }
def d8 := (d7.sr Reg.CAL_LIMIT.EMERG_C 0).sr Reg.PCR_STATE.POWER 1
def pool : List State := ([st {}, st up, st d1, st d2, st d3, st d4, st d5, st d6, st d7, st d8])

theorem test_CountersTraceAndDebug_witness :
    (∃ (b : BitVec 5), 18 < b.toNat) ∧
    (∃ (b : BitVec 5), b.toNat ≤ 18) ∧
    (∃ (s : State), s.chip.flag Reg.OBS_TRACE_CFG.ENABLE = true) ∧
    (∃ (s : State), s.chip.flag Reg.OBS_TRACE_CFG.ENABLE = false) ∧
    (∃ (s : State) (v : BitVec 63), s.chip.flag Reg.OBS_TRACE_CFG.ENABLE = false ∧ (∀ n : Fin 16, bitOf v.toNat n = true → (s.chip.core n).released = false)) ∧
    (∃ (s : State), s.chip.rg Reg.OBS_TRACE_STATE.STATE ≠ 1) ∧
    (∃ (s : State), s.chip.rg Reg.OBS_TRACE_STATE.STATE = 1) ∧
    (∃ (s : State), (s.chip.funnelAll).rg Reg.OBS_TRACE_STATE.STATE = 2 ∧ (s.chip.funnelAll).trc.left = 0) ∧
    (∃ (s : State), ((s.chip.funnelAll).rg Reg.OBS_TRACE_STATE.STATE ≠ 2 ∨ (s.chip.funnelAll).trc.left ≠ 0)) ∧
    (∃ (s : State) (n : Fin 16), (s.chip.flag Reg.SEC_STATE.DEBUG = false ∨ s.chip.coreRuns n = false)) ∧
    (∃ (s : State) (n : Fin 16), s.chip.flag Reg.SEC_STATE.DEBUG = true ∧ s.chip.coreRuns n = true ∧ s.chip.tracing n = false) ∧
    (∃ (s : State) (n : Fin 16), s.chip.flag (Reg.OBS_DBG_CTRL.HALTED n) = true) ∧
    (∃ (s : State) (n : Fin 16), s.chip.flag (Reg.OBS_DBG_CTRL.HALTED n) = false) ∧
    (∃ (s : State) (n : Fin 16), s.chip.flag (Reg.OBS_DBG_CTRL.HALTED n) = true ∧ s.chip.tracing n = false) ∧
    (∃ (s : State) (n : Fin 16) (t : BitVec 4), s.chip.flag (Reg.OBS_DBG_CTRL.HALTED n) = true ∧ (∀ x : Tag, Tag.ofCode t.toNat = some x → x = .nul ∨ x = .desc ∨ x = .seq ∨ x = .keyh)) ∧
    (∃ (s : State) (n : Fin 16) (t : BitVec 4) (x : Tag), s.chip.flag (Reg.OBS_DBG_CTRL.HALTED n) = true ∧ Tag.ofCode t.toNat = some x ∧ x ≠ .nul ∧ x ≠ .desc ∧ x ≠ .seq ∧ x ≠ .keyh) ∧
    (∃ (s : State) (n : Fin 16) (w : Bool) (t : BitVec 4) (k : BitVec 12) (x : Tag) (f : _), s.chip.flag (Reg.OBS_DBG_CTRL.HALTED n) = true ∧ w = true ∧ Tag.ofCode t.toNat = some x ∧ x ≠ .nul ∧ x ≠ .desc ∧ x ≠ .seq ∧ x ≠ .keyh ∧ (((s.chip.sr (Reg.OBS_DBG_ACC.WRITE n) (b2n w)).sr (Reg.OBS_DBG_ACC.TAG n) t.toNat).sr (Reg.OBS_DBG_ACC.INDEX n) k.toNat).dbgWrite n k.toNat ⟨BitVec.ofNat 64 (s.chip.rg (Reg.OBS_DBG_DATA.DATA n)), x⟩ = some f) ∧
    (∃ (s : State) (n : Fin 16) (w : Bool) (t : BitVec 4) (k : BitVec 12) (x : Tag), s.chip.flag (Reg.OBS_DBG_CTRL.HALTED n) = true ∧ w = true ∧ Tag.ofCode t.toNat = some x ∧ x ≠ .nul ∧ x ≠ .desc ∧ x ≠ .seq ∧ x ≠ .keyh ∧ (((s.chip.sr (Reg.OBS_DBG_ACC.WRITE n) (b2n w)).sr (Reg.OBS_DBG_ACC.TAG n) t.toNat).sr (Reg.OBS_DBG_ACC.INDEX n) k.toNat).dbgWrite n k.toNat ⟨BitVec.ofNat 64 (s.chip.rg (Reg.OBS_DBG_DATA.DATA n)), x⟩ = none) ∧
    (∃ (s : State) (n : Fin 16) (w : Bool) (t : BitVec 4) (k : BitVec 12) (x : _), s.chip.flag (Reg.OBS_DBG_CTRL.HALTED n) = true ∧ w = false ∧ (((s.chip.sr (Reg.OBS_DBG_ACC.WRITE n) (b2n w)).sr (Reg.OBS_DBG_ACC.TAG n) t.toNat).sr (Reg.OBS_DBG_ACC.INDEX n) k.toNat).dbgRead n k.toNat = some x) ∧
    (∃ (s : State) (k : Fin 97), k.val ∈ s.chip.hub.hang) ∧
    (∃ (l : List (Fin 97)), l = []) ∧
    (∃ (l : List (Fin 97)), l ≠ []) ∧
    (∃ (s : State) (k : Fin 97), k.val ∉ s.chip.hub.hang) :=
  ⟨(⟨(0x1f : BitVec 5), by
      decide +kernel⟩),
   (⟨(0x0 : BitVec 5), by
      decide +kernel⟩),
   (⟨pool.getD 2 .reset, by
      decide +kernel⟩),
   (⟨pool.getD 0 .reset, by
      decide +kernel⟩),
   (⟨pool.getD 0 .reset, (0x0 : BitVec 63), by
      refine @of_decide_eq_true _ (by haveI := @decAllSome; haveI := @decExSome; haveI := @decOk; haveI := @decErr; infer_instance) ?_
      decide +kernel⟩),
   (⟨pool.getD 0 .reset, by
      decide +kernel⟩),
   (⟨pool.getD 2 .reset, by
      decide +kernel⟩),
   (⟨pool.getD 3 .reset, by
      decide +kernel⟩),
   (⟨pool.getD 0 .reset, by
      decide +kernel⟩),
   (⟨pool.getD 0 .reset, 0, by
      decide +kernel⟩),
   (⟨pool.getD 3 .reset, 1, by
      decide +kernel⟩),
   (⟨pool.getD 3 .reset, 0, by
      decide +kernel⟩),
   (⟨pool.getD 0 .reset, 0, by
      decide +kernel⟩),
   (⟨pool.getD 3 .reset, 0, by
      decide +kernel⟩),
   (⟨pool.getD 3 .reset, 0, (0x0 : BitVec 4), by decide +kernel, by intro x; cases x <;> decide⟩),
   (⟨pool.getD 3 .reset, 0, (0x1 : BitVec 4), Tag.int, by
      decide +kernel⟩),
   (⟨pool.getD 3 .reset, 0, true, (0x1 : BitVec 4), (0x0 : BitVec 12), Tag.int, (((((pool.getD 3 .reset).chip.sr (Reg.OBS_DBG_ACC.WRITE (0)) (b2n (true))).sr (Reg.OBS_DBG_ACC.TAG (0)) ((0x1 : BitVec 4)).toNat).sr (Reg.OBS_DBG_ACC.INDEX (0)) ((0x0 : BitVec 12)).toNat).dbgWrite (0) ((0x0 : BitVec 12)).toNat ⟨BitVec.ofNat 64 ((pool.getD 3 .reset).chip.rg (Reg.OBS_DBG_DATA.DATA (0))), (Tag.int)⟩).getD {}, by decide +kernel, by decide +kernel, by decide +kernel, by decide +kernel, by decide +kernel, by decide +kernel, by decide +kernel, eq_some_getD (by decide +kernel) _⟩),
   (⟨pool.getD 3 .reset, 0, true, (0x1 : BitVec 4), (0xfff : BitVec 12), Tag.int, by
      decide +kernel⟩),
   (⟨pool.getD 3 .reset, 0, false, (0x0 : BitVec 4), (0x0 : BitVec 12), { v := (0x0 : BitVec 64), t := Tag.int }, by
      decide +kernel⟩),
   (⟨pool.getD 4 .reset, 1, by
      decide +kernel⟩),
   (⟨[], by
      decide +kernel⟩),
   (⟨[3], by
      decide +kernel⟩),
   (⟨pool.getD 0 .reset, 0, by
      decide +kernel⟩)⟩

theorem test_CaliperAndPatina_witness :
    (∃ (s : State), (s.chip.cal.due = false ∨ 8 ≤ s.chip.tck.cycle)) ∧
    (∃ (s : State), s.chip.cal.due = true ∧ s.chip.tck.cycle < 8) ∧
    (∃ (s : State), (s.chip.cal.emergency = false ∨ s.chip.tick < s.chip.cal.lastFlag + 16)) ∧
    (∃ (s : State), s.chip.cal.emergency = true ∧ s.chip.cal.lastFlag + 16 ≤ s.chip.tick) ∧
    (∃ (s : State) (p : Fin 8) (v : Nat), v = (if s.chip.cal.emergency = true then s.chip.rg (Reg.CAL_ACC.EMERG p) else s.chip.rg (Reg.CAL_ACC.BUDGET p)) ∧ (s.chip.flag Reg.CAL_CFG.OWNER = false ∨ s.chip.rg (Reg.CAL_ACC.BUDGET p) = 0 ∨ onRing s.chip = false ∨ (∃ t, tget s.chip.cal.sent p = some (v, t) ∧ s.chip.tick < t + 256))) ∧
    (∃ (s : State) (p : Fin 8) (v : Nat), v = (if s.chip.cal.emergency = true then s.chip.rg (Reg.CAL_ACC.EMERG p) else s.chip.rg (Reg.CAL_ACC.BUDGET p)) ∧ s.chip.flag Reg.CAL_CFG.OWNER = true ∧ s.chip.rg (Reg.CAL_ACC.BUDGET p) ≠ 0 ∧ onRing s.chip = true ∧ (∀ t, tget s.chip.cal.sent p = some (v, t) → t + 256 ≤ s.chip.tick)) ∧
    (∃ (s : State), s.chip.pat.time < s.chip.pat.sumDue + 2 ^ 28) ∧
    (∃ (s : State), s.chip.pat.sumDue + 2 ^ 28 ≤ s.chip.pat.time) ∧
    (∃ (s : State), s.chip.pat.time < s.chip.pat.histDue + 2 ^ 20) ∧
    (∃ (s : State), s.chip.pat.histDue + 2 ^ 20 ≤ s.chip.pat.time) :=
  ⟨(⟨pool.getD 0 .reset, by
      decide +kernel⟩),
   (⟨pool.getD 5 .reset, by
      decide +kernel⟩),
   (⟨pool.getD 0 .reset, by
      decide +kernel⟩),
   (⟨pool.getD 6 .reset, by
      decide +kernel⟩),
   (⟨pool.getD 0 .reset, 0, 0, by decide +kernel, Or.inr (Or.inr (Or.inl (by decide +kernel)))⟩),
   (⟨st { (pool.getD 7 .reset).chip with cal := { (pool.getD 7 .reset).chip.cal with sent := [] } }, 0, 5, by decide +kernel, by decide +kernel, by decide +kernel, by decide +kernel, pair_all (by decide +kernel)⟩),
   (⟨pool.getD 0 .reset, by
      decide +kernel⟩),
   (⟨pool.getD 5 .reset, by
      decide +kernel⟩),
   (⟨pool.getD 0 .reset, by
      decide +kernel⟩),
   (⟨pool.getD 5 .reset, by
      decide +kernel⟩)⟩

end Sys2Proof.Tests.C20
end

