-- ==== Sys2Proof/Tests/C21.lean ====
section
/-! SUPPORT. States and operands that meet the hypotheses of the statements of chapter 21, clause by clause. -/
set_option Elab.async false
set_option maxRecDepth 100000
namespace Sys2Proof.Tests.C21
open Sys2Proof Sys2Proof.Machine Sys2Proof.Tests

def pool : List Sys2Proof.Machine.State := [⟨[], {}⟩, st up, st (noise up), ⟨[.calPause], up⟩, st (up.sr Reg.PCR_STATE.POWER 2)]

theorem test_BoardSide_witness :
    (∃ (i : BitVec 8), i ≠ 0 ∧ i ≠ 2) ∧
    (∃ (s : State), s.chip.pwr.entering = 0 ∧ s.chip.rg Reg.PCR_STATE.POWER = 0) ∧
    (∃ (s : State), s.chip.pwr.entering = 0 ∧ s.chip.rg Reg.PCR_STATE.POWER ≠ 0) ∧
    (∃ (r : Fin 8), r ≠ 0 ∧ r ≠ 2) ∧
    (∃ (r : Fin 8), r = 0) ∧
    (∃ (r : Fin 8), r = 2) :=
  ⟨(⟨(0x1 : BitVec 8), by
      decide +kernel⟩),
   (⟨pool.getD 0 .reset, by
      decide +kernel⟩),
   (⟨pool.getD 4 .reset, by
      decide +kernel⟩),
   (⟨1, by
      decide +kernel⟩),
   (⟨0, by
      decide +kernel⟩),
   (⟨2, by
      decide +kernel⟩)⟩

end Sys2Proof.Tests.C21
end

