-- ==== Sys2Proof/Tests/C22.lean ====
section
/-! SUPPORT. States and operands that meet the hypotheses of the statements of chapter 22, clause by clause. -/
set_option Elab.async false
set_option maxRecDepth 100000
namespace Sys2Proof.Tests.C22
open Sys2Proof Sys2Proof.Machine Sys2Proof.Tests

def kup : Chip := hand up
def px (d : Chip) (f : PwrUnit → PwrUnit) : Chip := { d with pwr := f d.pwr }
def m : List Chip := [{}, kup, noise kup, px (noise kup) (fun p => { p with straps := 5, i3cIndex := 7 }), (((noise kup).sr Reg.TCK_NUMBER.NUMBER 0xFEDCBA9876543210).sr Reg.GLB_LEDGER_HEAD.HEAD 0x1122334455667788).sr Reg.FLT_HIST_HEAD.HEAD (2^64-1), ((kup.sr (Reg.FLT_HIST.SOURCE 0) 0x2FF).sr Reg.FLT_HIST_HEAD.HEAD 0x12345678901).sr Reg.GLB_LEDGER_STATE.COPIES 1, { noise kup with bus := { data := 5, held := [(.fn 0, 0x80010, 7), (.fn 3, 0x80010, 8)], latch := [(.fn 0, 0x80010, 7), (.fn 1, 0x80018, 9)] } }, (kup.sr (Reg.HIF_STATE.FROZEN 0) 1)]
def pool : List State := (m.map st)

theorem test_MxInt8Elements_witness :
    (∃ (k : Int), -128 ≤ k ∧ k ≤ 127) :=
  (⟨0, by
      decide +kernel⟩)

theorem test_InvariantKept_witness :
    (∃ (s : State) (t : State), Machine.Inv s.chip ∧ step s = .next t) :=
  (⟨.reset, .reset, by unfold Machine.Inv LedgerInOrder; decide +kernel, rfl⟩)

end Sys2Proof.Tests.C22
end

