-- ==== Sys2Proof/Tests/Slice0.lean ====
section
/-! SUPPORT. Tests of the shape of commands and of the Armature's words, whose expected results stand in the specification. -/
set_option Elab.async false
set_option maxRecDepth 100000
namespace Sys2Proof.Tests
open Sys2Proof Sys2Proof.Machine

/-- One ill-formed origin for each bound of `wfOrigin`. -/
theorem test_illFormed_origins : [Origin.ring 16384, Origin.core 0 257, Origin.step 65536 0, Origin.step 0 65536, Origin.service 64 0, Origin.service 0 65536, Origin.slot 256, Origin.nvme 128 0 0, Origin.nvme 0 65536 0, Origin.nvme 0 0 65536].all (fun o => !wfOrigin o) = true := by decide

theorem test_illFormed_requester : wfReq (.fn 128) = false ∧ wfReq (.fn 127) = true := by decide

/-- Commands with one operand a value past the bound the check gives it: each is refused. -/
theorem test_illFormed_bounds1 : ([.registerWrite (.fn 128) 0 false 0,
    .registerWrite (.fn 0) 4294967296 false 0,
    .invalidBar0Access (.fn 128) 0 0 false,
    .invalidBar0Access (.fn 0) 4294967296 0 false,
    .invalidBar0Access (.fn 0) 0 65536 false,
    .heldLowerHalfWrite (.fn 128) 0 0,
    .heldLowerHalfWrite (.fn 0) 4294967296 0,
    .upperHalfWrite (.fn 128) 0 0,
    .upperHalfWrite (.fn 0) 4294967296 0,
    .latchingLowerHalfRead (.fn 128) 0,
    .latchingLowerHalfRead (.fn 0) 4294967296,
    .rcFieldRead (.fn 128) 0 false,
    .rcFieldRead (.fn 0) 4294967296 false,
    .commitRecordTaken 18446744073709551616,
    .commitPoint 18446744073709551616,
    .withdrawalApplied 18446744073709551616 0,
    .withdrawalApplied 0 65536,
    .ledgerStall 4294967296,
    .attentionReply 128,
    .cancel ⟨.ring 16384, 0⟩ 0,
    .cancel ⟨.internal, 0⟩ 18446744073709551616,
    .nop ⟨.ring 16384, 0⟩,
    .tickMarker 2147483648,
    .tickCell false 18446744073709551616 0 0,
    .tickCell false 0 65536 0,
    .probeCell false 65536 0,
    .probeReturn 65536 0,
    .probeReturn 0 65536,
    .planLoad ⟨.ring 16384, 0⟩ 0,
    .planLoad ⟨.internal, 0⟩ 4503599627370496,
    .planUnload ⟨.ring 16384, 0⟩ 0,
    .planUnload ⟨.internal, 0⟩ 65536,
    .planResume ⟨.ring 16384, 0⟩ 0,
    .planResume ⟨.internal, 0⟩ 65536,
    .workDescriptorSubmit ⟨.ring 16384, 0⟩ {},
    .reduceSum 18446744073709551616 0,
    .reduceMax 18446744073709551616 0,
    .reduceMin 18446744073709551616 0,
    .reduceArrive 18446744073709551616 0,
    .attnPartial 18446744073709551616 0,
    .dotRows 18446744073709551616 0,
    .convert 18446744073709551616 0,
    .quantEf 18446744073709551616 0,
    .topk 18446744073709551616 0,
    .topkEf 18446744073709551616 0,
    .sha256 18446744073709551616 0,
    .crc32c 18446744073709551616 0,
    .lz4Pack 18446744073709551616 0,
    .lz4Unpack 18446744073709551616 0,
    .copy 18446744073709551616 0,
    .gather 18446744073709551616 0,
    .scatter 18446744073709551616 0,
    .fill 18446744073709551616 0,
    .itemFinish 18446744073709551616,
    .redoCopyComplete 18446744073709551616 0,
    .promote 0 65536 0,
    .promote 0 0 256,
    .allReduce ⟨.ring 16384, 0⟩ {},
    .reduceScatter ⟨.ring 16384, 0⟩ {},
    .allGather ⟨.ring 16384, 0⟩ {}] : List Instr).all (fun i => !wellFormed i) = true := by
  decide +kernel

/-- Commands with one operand a value past the bound the check gives it: each is refused. -/
theorem test_illFormed_bounds2 : ([.broadcast ⟨.ring 16384, 0⟩ {},
    .reduce ⟨.ring 16384, 0⟩ {},
    .allToAll ⟨.ring 16384, 0⟩ {},
    .send ⟨.ring 16384, 0⟩ {},
    .receive ⟨.ring 16384, 0⟩ {},
    .sendMatchTimeout 18446744073709551616,
    .groupSet ⟨.ring 16384, 0⟩ 0,
    .groupSet ⟨.internal, 0⟩ 4503599627370496,
    .groupClear ⟨.ring 16384, 0⟩ 0,
    .groupClear ⟨.internal, 0⟩ 65536,
    .slotArm ⟨.ring 16384, 0⟩ {},
    .slotDisarm ⟨.ring 16384, 0⟩ 0,
    .slotDisarm ⟨.internal, 0⟩ 65536,
    .streamFrame 8 0 0 [] false none,
    .streamFrame 0 256 0 [] false none,
    .streamFrame 0 0 4503599627370496 [] false none,
    .firingComplete 0 18446744073709551616 0,
    .firingComplete 0 0 4294967296,
    .firingTimeout 0 18446744073709551616,
    .seqOpen ⟨.ring 16384, 0⟩ {},
    .seqClose ⟨.ring 16384, 0⟩ 0,
    .seqClose ⟨.internal, 0⟩ 65536,
    .kvPut ⟨.ring 16384, 0⟩ 0 0 0 0 0 0 0,
    .kvPut ⟨.internal, 0⟩ 4503599627370496 0 0 0 0 0 0,
    .kvPut ⟨.internal, 0⟩ 0 4503599627370496 0 0 0 0 0,
    .kvPut ⟨.internal, 0⟩ 0 0 65536 0 0 0 0,
    .kvPut ⟨.internal, 0⟩ 0 0 0 65536 0 0 0,
    .kvPut ⟨.internal, 0⟩ 0 0 0 0 4294967296 0 0,
    .kvPut ⟨.internal, 0⟩ 0 0 0 0 0 256 0,
    .kvPut ⟨.internal, 0⟩ 0 0 0 0 0 0 256,
    .kvDrop ⟨.ring 16384, 0⟩ 0 0 0 0,
    .kvDrop ⟨.internal, 0⟩ 65536 0 0 0,
    .kvDrop ⟨.internal, 0⟩ 0 65536 0 0,
    .kvDrop ⟨.internal, 0⟩ 0 0 4294967296 0,
    .kvDrop ⟨.internal, 0⟩ 0 0 0 4294967296,
    .svcBind ⟨.ring 16384, 0⟩ 0,
    .svcBind ⟨.internal, 0⟩ 4503599627370496,
    .svcUnbind ⟨.ring 16384, 0⟩ 0,
    .svcUnbind ⟨.internal, 0⟩ 256,
    .mapCompact ⟨.ring 16384, 0⟩,
    .mergeEntryFlush 4503599627370496,
    .pageMap ⟨.ring 16384, 0⟩ 0 0 0 0,
    .pageMap ⟨.internal, 0⟩ 4503599627370496 0 0 0,
    .pageMap ⟨.internal, 0⟩ 0 4294967296 0 0,
    .pageMap ⟨.internal, 0⟩ 0 0 256 0,
    .pageMap ⟨.internal, 0⟩ 0 0 0 256,
    .pageUnmap ⟨.ring 16384, 0⟩ 0 0,
    .pageUnmap ⟨.internal, 0⟩ 4503599627370496 0,
    .pageUnmap ⟨.internal, 0⟩ 0 4294967296,
    .pagePin ⟨.ring 16384, 0⟩ 0 0 0 0,
    .pagePin ⟨.internal, 0⟩ 4503599627370496 0 0 0,
    .pagePin ⟨.internal, 0⟩ 0 4294967296 0 0,
    .pagePin ⟨.internal, 0⟩ 0 0 256 0,
    .pagePin ⟨.internal, 0⟩ 0 0 0 256,
    .memInit ⟨.ring 16384, 0⟩ 0 0 0 0,
    .memInit ⟨.internal, 0⟩ 4503599627370496 0 0 0,
    .memInit ⟨.internal, 0⟩ 0 18446744073709551616 0 0,
    .memInit ⟨.internal, 0⟩ 0 0 0 256,
    .sramCrc 4503599627370496,
    .nearCrc 4503599627370496] : List Instr).all (fun i => !wellFormed i) = true := by
  decide +kernel

/-- Commands with one operand a value past the bound the check gives it: each is refused. -/
theorem test_illFormed_bounds3 : ([.cxlDeviceTrained 0 65536,
    .commandDispatch 16384 {},
    .fwDownload ⟨.ring 16384, 0⟩ 0 0 0,
    .fwDownload ⟨.internal, 0⟩ 4503599627370496 0 0,
    .fwDownload ⟨.internal, 0⟩ 0 4294967296 0,
    .fwDownload ⟨.internal, 0⟩ 0 0 4294967296,
    .fwStage ⟨.ring 16384, 0⟩ 0 false,
    .fwStage ⟨.internal, 0⟩ 4294967296 false,
    .fwActivate ⟨.ring 16384, 0⟩ 0 0,
    .portUp ⟨.ring 16384, 0⟩ 0,
    .portDown ⟨.ring 16384, 0⟩ 0,
    .macsecSa ⟨.ring 16384, 0⟩ 0 0 0 0 0 0,
    .write ⟨.ring 16384, 0⟩ {},
    .read ⟨.ring 16384, 0⟩ {},
    .fadd ⟨.ring 16384, 0⟩ {},
    .cas ⟨.ring 16384, 0⟩ {},
    .connOpen ⟨.ring 16384, 0⟩ 0,
    .connOpen ⟨.internal, 0⟩ 4503599627370496,
    .connClose ⟨.ring 16384, 0⟩ 0,
    .regionReg ⟨.ring 16384, 0⟩ {},
    .regionRevoke ⟨.ring 16384, 0⟩ 0,
    .layoutSet ⟨.ring 16384, 0⟩ 0 0,
    .layoutSet ⟨.internal, 0⟩ 0 4503599627370496,
    .selectSet ⟨.ring 16384, 0⟩ 0 0,
    .selectSet ⟨.internal, 0⟩ 0 4503599627370496,
    .actionSet ⟨.ring 16384, 0⟩ 0 0,
    .actionSet ⟨.internal, 0⟩ 0 4503599627370496,
    .actionFree ⟨.ring 16384, 0⟩ 0,
    .ruleAdd ⟨.ring 16384, 0⟩ 0 0 0 0 0,
    .ruleAdd ⟨.internal, 0⟩ 0 0 0 0 4503599627370496,
    .ruleDel ⟨.ring 16384, 0⟩ 0 0 0,
    .ruleDel ⟨.internal, 0⟩ 0 0 4503599627370496,
    .groupCommit ⟨.ring 16384, 0⟩,
    .groupAbort ⟨.ring 16384, 0⟩,
    .indirWrite ⟨.ring 16384, 0⟩ 0 0 0,
    .indirWrite ⟨.internal, 0⟩ 0 0 4503599627370496,
    .queueSet ⟨.ring 16384, 0⟩ 0 0 0 0 0 0 0 0,
    .policerSet ⟨.ring 16384, 0⟩ 0 0 0 0,
    .emRebuild ⟨.ring 16384, 0⟩ 0 0,
    .hifDbCmd (.fn 128) 0 0,
    .hifDbRpl (.fn 128) 0 0,
    .hifRingEnable (.fn 128) 0,
    .hifRingDisable (.fn 128) 0,
    .dirtyLogStart ⟨.ring 16384, 0⟩ 0 0 0 0,
    .dirtyLogStart ⟨.internal, 0⟩ 0 18446744073709551616 0 0,
    .dirtyLogStart ⟨.internal, 0⟩ 0 0 0 18446744073709551616,
    .dirtyLogSwap ⟨.ring 16384, 0⟩ 0 0,
    .dirtyLogSwap ⟨.internal, 0⟩ 0 18446744073709551616,
    .dirtyLogStop ⟨.ring 16384, 0⟩ 0,
    .dmaXfer ⟨.ring 16384, 0⟩ {},
    .readBackComplete 18446744073709551616 false,
    .createIoSq 0 0 0 0 18446744073709551616 0 0 false,
    .createIoCq 0 0 0 0 18446744073709551616 0 false false,
    .nvsNsSet ⟨.ring 16384, 0⟩ 0,
    .nvsNsSet ⟨.internal, 0⟩ 4503599627370496,
    .nvsNsClear ⟨.ring 16384, 0⟩ 0,
    .nvsTargetSet ⟨.ring 16384, 0⟩ 0,
    .nvsTargetSet ⟨.internal, 0⟩ 4503599627370496,
    .nvsTargetClear ⟨.ring 16384, 0⟩ 0,
    .backendCompletion 18446744073709551616 0 0 []] : List Instr).all (fun i => !wellFormed i) = true := by
  decide +kernel

/-- Commands with one operand a value past the bound the check gives it: each is refused. -/
theorem test_illFormed_bounds4 : ([.backendTimeout 18446744073709551616,
    .ckpJobSet ⟨.ring 16384, 0⟩ 0,
    .ckpJobSet ⟨.internal, 0⟩ 4503599627370496,
    .ckpJobClear ⟨.ring 16384, 0⟩ 0,
    .ckpStep ⟨.ring 16384, 0⟩ 0 0,
    .ckpNow ⟨.ring 16384, 0⟩ 0 0,
    .ckpRestore ⟨.ring 16384, 0⟩ 0 0 [],
    .ckpAbort ⟨.ring 16384, 0⟩ 0,
    .cowWrite 4503599627370496 [],
    .writerConfirm 0 4294967296 0 [] false,
    .writerConfirm 0 0 65536 [] false,
    .nodeLost 0 65536 ([], false),
    .commitRecordWrite 0 18446744073709551616,
    .committedMessage 0 18446744073709551616,
    .keyLoad ⟨.ring 16384, 0⟩ 0,
    .keyLoad ⟨.internal, 0⟩ 4503599627370496,
    .keyZero ⟨.ring 16384, 0⟩ 0,
    .encrypt ⟨.ring 16384, 0⟩ {},
    .decrypt ⟨.ring 16384, 0⟩ {},
    .kmac ⟨.ring 16384, 0⟩ {},
    .getDigests 0 4294967296,
    .getCertificate 0 256 0 0,
    .getCertificate 0 0 4294967296 0,
    .getCertificate 0 0 0 4294967296,
    .getMeasurements 0 256 false [],
    .finish 0 4294967296 false,
    .heartbeat 0 4294967296,
    .keyUpdate 0 4294967296,
    .endSession 0 4294967296,
    .chunkGet 0 4294967296 0,
    .chunkGet 0 0 4294967296,
    .companionCert 0 4294967296 0,
    .companionCert 0 0 4294967296,
    .keyProg 0 4294967296 0 0 [],
    .keyProg 0 0 65536 0 [],
    .keyProg 0 0 0 256 [],
    .kSetGo 0 4294967296 0 0,
    .kSetGo 0 0 65536 0,
    .kSetGo 0 0 0 256,
    .kSetStop 0 4294967296 0 0,
    .kSetStop 0 0 65536 0,
    .kSetStop 0 0 0 256,
    .mctpMessage 256,
    .faultEvent 0 0 4503599627370496] : List Instr).all (fun i => !wellFormed i) = true := by
  decide +kernel

/-- Commands with one operand a list one entry past the bound the check gives it: each is refused. -/
theorem test_illFormed_lists : ([.ownCellSend (List.replicate 17 0),
    .vfMboxDb 0 0 (List.replicate 65 0),
    .challenge 0 (List.replicate 33 0),
    .getMeasurements 0 0 false (List.replicate 33 0),
    .keyProg 0 0 0 0 (List.replicate 33 0),
    .debugUnlockToken 0 [] ((List.replicate 65 0), []),
    .obsHang (List.replicate 98 0)] : List Instr).all (fun i => !wellFormed i) = true := by
  decide +kernel

/-- A list one entry longer than its bound is refused by the check. -/
theorem test_tooLong {α : Type} (n : Nat) (x : α) : atMost n (List.replicate (n + 1) x) = false := by simp [atMost]

/-- Commands with a list longer than the bound the check gives it: each is refused. -/
theorem test_illFormed_longLists1 :
    (∀ l, atMost 4194304 l = false → wellFormed (.streamFrame 0 0 0 l false none) = false) ∧
    (∀ l, atMost 4096 l = false → wellFormed (.writeFrame 0 ⟨0, 0, 0, 0, 0, 0, 0, 0⟩ 0 0 0 l) = false) ∧
    (∀ l, atMost 4096 l = false → wellFormed (.writeHpFrame 0 ⟨0, 0, 0, 0, 0, 0, 0, 0⟩ 0 0 0 l) = false) ∧
    (∀ l, atMost 4096 l = false → wellFormed (.readReqFrame 0 ⟨0, 0, 0, 0, 0, 0, 0, 0⟩ 0 (0, l)) = false) ∧
    (∀ l, atMost 4096 l = false → wellFormed (.readCplFrame 0 ⟨0, 0, 0, 0, 0, 0, 0, 0⟩ 0 0 0 l) = false) ∧
    (∀ l, atMost 4096 l = false → wellFormed (.dvtFrame 0 ⟨0, 0, 0, 0, 0, 0, 0, 0⟩ false false l) = false) ∧
    (∀ l, atMost 4194304 l = false → wellFormed (.writePacket ⟨0, 0, 0, 0, 0, 0, 0, 0, 0, false, false⟩ l) = false) ∧
    (∀ l, atMost 4194304 l = false → wellFormed (.readResp ⟨0, 0, 0, 0, 0, 0, 0, 0, 0, false, false⟩ l) = false) ∧
    (∀ l, atMost 4194304 l = false → wellFormed (.coll ⟨0, 0, 0, 0, 0, 0, 0, 0, 0, false, false⟩ l) = false) ∧
    (∀ l, atMost 4194304 l = false → wellFormed (.receivedFrame 0 0 l false) = false) ∧
    (∀ l, atMost 4096 l = false → wellFormed (.identify 0 0 0 0 l) = false) ∧
    (∀ l, atMost 4096 l = false → wellFormed (.getLogPage 0 0 0 0 l) = false) ∧
    (∀ l, atMost 4096 l = false → wellFormed (.firmwareImageDownload 0 0 0 0 l []) = false) ∧
    (∀ l, atMost 4194304 l = false → wellFormed (.firmwareImageDownload 0 0 0 0 [] l) = false) :=
  ⟨fun _ h => h, fun _ h => h, fun _ h => h, fun _ h => h, fun _ h => h, fun _ h => h, fun _ h => h, fun _ h => h, fun _ h => h, fun _ h => h, fun _ h => h, fun _ h => h, fun _ h => congrArg (· && true) h, fun _ h => h⟩

/-- Commands with a list longer than the bound the check gives it: each is refused. -/
theorem test_illFormed_longLists2 :
    (∀ l, atMost 4096 l = false → wellFormed (.nvmeRead 0 0 0 0 0 0 l) = false) ∧
    (∀ l, atMost 4096 l = false → wellFormed (.nvmeWrite 0 0 0 0 0 0 l []) = false) ∧
    (∀ l, atMost 4194304 l = false → wellFormed (.nvmeWrite 0 0 0 0 0 0 [] l) = false) ∧
    (∀ l, atMost 4194304 l = false → wellFormed (.backendCompletion 0 0 0 l) = false) ∧
    (∀ l, atMost 4294967296 l = false → wellFormed (.ckpRestore ⟨.internal, 0⟩ 0 0 l) = false) ∧
    (∀ l, atMost 4194304 l = false → wellFormed (.cowWrite 0 l) = false) ∧
    (∀ l, atMost 4096 l = false → wellFormed (.hashExchangeRound 0 l) = false) ∧
    (∀ l, atMost 4294967296 l = false → wellFormed (.writerConfirm 0 0 0 l false) = false) ∧
    (∀ l, atMost 4096 l = false → wellFormed (.nodeLost 0 0 (l, false)) = false) ∧
    (∀ l, atMost 4096 l = false → wellFormed (.rootWrite 0 l false) = false) ∧
    (∀ l, atMost 4096 l = false → wellFormed (.keyExchange 0 l) = false) ∧
    (∀ l, atMost 65536 l = false → wellFormed (.chunkSend 0 false l) = false) ∧
    (∀ l, atMost 1984 l = false → wellFormed (.debugUnlockToken 0 l ([], [])) = false) ∧
    (∀ l, atMost 3309 l = false → wellFormed (.debugUnlockToken 0 [] ([], l)) = false) :=
  ⟨fun _ h => h, fun _ h => congrArg (· && true) h, fun _ h => h, fun _ h => h, fun _ h => h, fun _ h => h, fun _ h => h, fun _ h => h, fun _ h => h, fun _ h => h, fun _ h => h, fun _ h => h, fun l h => by simp [wellFormed, h], fun l h => by simp [wellFormed, h]⟩

/-- Well-formed commands the check admits. -/
theorem test_wellFormed_admits : wellFormed (.registerWrite (.fn 127) 0x3FFFFC true 0) = true ∧ wellFormed (.cancel ⟨.ring 16383, 5⟩ (2 ^ 64 - 1)) = true ∧
    wellFormed (.tickMarker (-80)) = true ∧ wellFormed (.nop ⟨.core 15 256, 0⟩) = true := by decide

/-! ## The worked MXFP4 block of 03_arithmetic.md -/

/-- 63.0, −20.0, 0.7, −0.3, 3.1, 0.0, 0.0 (0.7, −0.3 and 3.1 as their FP32 values). -/
def mxInputs : List Val := [.fin false 63 0, .fin true 20 0, decodeElem 0 0x3F333333, decodeElem 0 0xBE99999A, decodeElem 0 0x40466666, .fin false 0 0, .fin false 0 0]

/-- FLOOR: scale 0x82, codes 7, C, 0, 8, 1, 0, 0, flags SAT and UFLOW. -/
theorem test_mxfp4_floor : mxBlock 0x9 false false (fun _ => .nearest) mxInputs = (0x82, [7, 0xC, 0, 8, 1, 0, 0], afSAT + afUFLOW) := by decide +kernel

/-- FIT: scale 0x83, codes 6, A, 0, 8, 0, 0, 0, flag UFLOW. -/
theorem test_mxfp4_fit : mxBlock 0x9 true false (fun _ => .nearest) mxInputs = (0x83, [6, 0xA, 0, 8, 0, 0, 0], afUFLOW) := by decide +kernel

/-! ## The check values the standards publish -/

/-- CRC-32C of "123456789". -/
theorem test_crc32c : crc32c [0x31, 0x32, 0x33, 0x34, 0x35, 0x36, 0x37, 0x38, 0x39] = 0xE306_9283 := by decide +kernel

/-- SHA-256 of "abc": its first four bytes. -/
theorem test_sha256 : (sha256 [0x61, 0x62, 0x63]).take 4 = [0xBA, 0x78, 0x16, 0xBF] := by decide +kernel

/-- SHA-384 of "abc": its first four bytes. -/
theorem test_sha384 : (sha384 [0x61, 0x62, 0x63]).take 4 = [0xCB, 0x00, 0x75, 0x3F] := by decide +kernel

/-! ## Armature words, from the worked routine of 08_armature_isa.md -/

/-- The routine's words are those the chapter prints. -/
theorem test_armature_words : encodeInsn (.ld 3 10 20 3 0) = some 0x0007_4510 ∧ encodeInsn (.retag 3 10 10 4) = some 0x0088_A531 ∧
    encodeInsn (.bne 3 11 0 (-5)) = some 0xFFB2_05A0 ∧ encodeInsn (.faddD 3 12 12 13) = some 0x001A_C630 ∧ encodeInsn (.retInsn 3) = some 0x0080_0023 := by
  decide +kernel

/-! ## Single steps -/

/-- ADD wraps: 5 + (2^64 − 5) is 0 (R316). -/
theorem test_add_wraps : (match exec (.add 0 3 1 2) (st (up.setCore 0 { s := [(1, ⟨5, .int⟩), (2, ⟨0xFFFF_FFFF_FFFF_FFFB, .int⟩)], released := true, pc := 0x1_0400_0100 })) with
    | .next t => (t.chip.core 0).reg 3 | _ => ⟨1, .nul⟩) = ⟨0, .int⟩ := by decide +kernel

/-- A NOP submitted with a free ring entry gets sequence number 1, the next one 2 (R26). -/
theorem test_nop_accepted : (match exec (.nop ⟨.ring 0, 5⟩) (st (hand up)) with | .next t => t.chip.led.nextSeq | _ => 0) = 2 := by decide +kernel

/-- A step takes the front command only, and an empty queue idles. -/
theorem test_step_queue : (match step ⟨[.calPause, .calResume], up⟩ with | .next t => (t.pending, t.chip.lnk.calPaused) | _ => ([], false)) = ([.calResume], true) ∧
    step (⟨[], up⟩ : State) = .next ⟨[], up⟩ := ⟨by decide +kernel, rfl⟩

end Sys2Proof.Tests
end

section
/-! The state after reset, and reads of BAR0 at GLB_LEDGER_NOTE_FREE (R5, R6, R9). -/
namespace Sys2Proof.Machine
open Sys2Proof

/-! ## Reset -/

/-- R9: no field is stored at reset, so each reads its Reset value. -/
theorem reset_rg (f : Fld) : State.reset.chip.rg f = f.rst := rfl

theorem reset_inv : Inv State.reset.chip := ⟨⟨.nil, List.forall_mem_nil _, .nil⟩, reset_cellsWf⟩

/-- Settles O59: each register clause is `reset_rg` at its field. -/
theorem resetState : Obligations.ResetState := by
  unfold Obligations.ResetState
  refine ⟨reset_rg, rfl, rfl, rfl, rfl, rfl, rfl, rfl, ?_⟩
  iterate 17 refine ⟨reset_rg _, ?_⟩
  exact ⟨fun _ => reset_rg _, fun _ => reset_rg _, reset_inv⟩

/-! ## Reads of BAR0 -/

/-- A command that only changes the chip completes exactly where its condition holds of the changed chip. -/
theorem completes_iff_of_on {c : Instr} {s : State} {f : Chip → Chip} (h : exec c s = s.on f) (P : Chip → Prop) :
    Completes c s P ↔ P (f s.chip) := by
  constructor
  · rintro ⟨t, ht, -, hP⟩
    obtain rfl := Host.Outcome.next.inj (h.symm.trans ht)
    exact hP
  · exact fun hP => ⟨_, h, rfl, hP⟩

theorem completes_rcFieldRead_iff (r : Req) (addr : Nat) (wide : Bool) (s : State) (P : Chip → Prop) :
    Completes (.rcFieldRead r addr wide) s P ↔ P (if aligned addr wide then s.chip.read r addr wide else s.chip) :=
  completes_iff_of_on (f := fun d => if aligned addr wide then d.read r addr wide else d) rfl P

/-- The access of a physical function goes to its own layout (R704). -/
theorem place_of_pf (d : Chip) {f addr : Nat} (hf : isVF f = false) (ha : addr < 0x400_0000) : d.place (.fn f) addr = .pf f addr := by
  simp [Chip.place, hf, ha]

/-- Out of reset and of the safe state, and not frozen, the device answers every read of a physical function (R489, R493, R630, R648). -/
theorem readGate_of_pf {d : Chip} {f : Nat} (hf : isVF f = false) (hreset : d.hub.inReset = false) (htrig : d.pwr.trigger = 0)
    (hsafe : d.flag Reg.FLT_SAFE.SAFE = false) (hfrozen : d.frozen f = false) (p : Place) : d.readGate (.fn f) p = .open_ := by
  simp [Chip.readGate, hf, hreset, htrig, hsafe, hfrozen]

/-- A 32-bit read of a 32-bit register in the lower half of its 64-bit word returns that half. -/
theorem read_data_of_narrow {d : Chip} {r : Req} {addr fn o : Nat} (hp : d.place r addr = .pf fn o)
    (hg : d.readGate r (.pf fn o) = .open_) (hw : (Place.pf fn o).wide = false) (ho : o % 8 = 0) :
    (d.read r addr false).bus.data = d.wordAt (.pf fn o) % 2 ^ 32 := by
  simp [Chip.read, Chip.barRead, Chip.readPlace, hp, hg, hw, ho]

/-! ## GLB_LEDGER_NOTE_FREE, at 0x0008_0020 -/

/-- What an access of GLB_LEDGER_NOTE_FREE meets. -/
def noteFreeMet : Met where
  row := { name := "THRESHOLD", acc := .rw, st := false, fld := fun _ _ => Reg.GLB_LEDGER_NOTE_FREE.THRESHOLD }
  fld := Reg.GLB_LEDGER_NOTE_FREE.THRESHOLD
  reg := "GLB_LEDGER_NOTE_FREE"

theorem metAccess_noteFree (wide : Bool) : metAccess 0 0x80020 wide = [noteFreeMet] := by
  cases wide <;> rfl

theorem noteFree_narrow : (Place.pf 0 0x80020).wide = false := rfl

/-- The word is the stored threshold, cut to 64 bits but not to the field's own 22. -/
theorem pfWord_noteFree (d : Chip) : d.pfWord 0 0x80020 = d.rg Reg.GLB_LEDGER_NOTE_FREE.THRESHOLD % 2 ^ 64 := by
  have htable : d.tableWord 0 0x80020 = none := by simp [Chip.tableWord, within]
  have hderived : d.derived 0x80020 = 0 := by simp [Chip.derived, within]
  have hvisible : d.visible noteFreeMet = d.rg Reg.GLB_LEDGER_NOTE_FREE.THRESHOLD := rfl
  have hplaced (v : Nat) : placed noteFreeMet.fld 0x80020 v = v % 2 ^ 64 := congrArg (· % 2 ^ 64) (Nat.mul_one v)
  simp only [Chip.pfWord, htable, hderived, metAccess_noteFree, List.foldl_cons, List.foldl_nil, hvisible, hplaced, Nat.zero_add]

/-- PF0's read of GLB_LEDGER_NOTE_FREE returns the stored threshold cut to the 32 bits of the access. -/
theorem read_noteFree_data {d : Chip} (hg : d.readGate (.fn 0) (.pf 0 0x80020) = .open_) :
    (d.read (.fn 0) 0x80020 false).bus.data = d.rg Reg.GLB_LEDGER_NOTE_FREE.THRESHOLD % 2 ^ 32 := by
  calc (d.read (.fn 0) 0x80020 false).bus.data
      = d.wordAt (.pf 0 0x80020) % 2 ^ 32 := read_data_of_narrow (place_of_pf d rfl (by decide)) hg noteFree_narrow rfl
    _ = d.rg Reg.GLB_LEDGER_NOTE_FREE.THRESHOLD % 2 ^ 64 % 2 ^ 32 := congrArg (· % 2 ^ 32) (pfWord_noteFree d)
    _ = d.rg Reg.GLB_LEDGER_NOTE_FREE.THRESHOLD % 2 ^ 32 := Nat.mod_mod_of_dvd _ (by decide)

/-- The chip after reset but for a threshold of 2^32 stored in the 22-bit field: a value of the type `State` that no write leaves, as `Chip.sr`
cuts every value to its field's width. -/
def overwideThreshold : State := { pending := [], chip := { regs := [(Reg.GLB_LEDGER_NOTE_FREE.THRESHOLD.bit, 2 ^ 32)] } }

/-- Refutes O3. The statement ranges over every `State`, also over one whose field holds more than its width, and says that PF0's 32-bit read of
GLB_LEDGER_NOTE_FREE returns the stored threshold; in `overwideThreshold` that is 2^32, and the read returns 0 (`read_noteFree_data`). -/
theorem not_bar0Access : ¬ Obligations.Bar0Access := by
  unfold Obligations.Bar0Access
  rintro ⟨-, hregs⟩
  obtain ⟨-, hread, -⟩ := hregs overwideThreshold rfl rfl rfl rfl
  rw [completes_rcFieldRead_iff] at hread
  obtain ⟨hdata, -⟩ := hread
  have hreturned : (overwideThreshold.chip.read (.fn 0) 0x80020 false).bus.data = 2 ^ 32 % 2 ^ 32 :=
    read_noteFree_data (readGate_of_pf rfl rfl rfl rfl rfl _)
  exact absurd (hreturned.symm.trans hdata) (by decide)

end Sys2Proof.Machine
end

section
/-! The invariant of O60 through every command (R24, R26, R30, R31): the ledger in order and memory in its canonical form. -/
namespace Sys2Proof.Machine
open Sys2Proof

/-! ## Rules for the invariant

The two parts of `Inv` speak of memory's bytes, the ledger's items and its next number. Each of the lemmas below says of one operation of the
model that it keeps the invariant; a proof names the lemmas of the operations that its operation calls, in the order of the calls.

Some definitions match on what a long computation answers. Their proofs open the definition with `delta` in place of `unfold`: the equation
lemma that `unfold` uses would have the kernel run that computation; `obtain` makes such an expression
opaque first where a later step would do the same. -/

/-- What changes neither memory's bytes, nor the items, nor the next number keeps the invariant. -/
theorem Inv.congr {d d' : Chip} (h : Inv d) (hc : d'.mem.cells = d.mem.cells := by rfl) (hi : d'.led.items = d.led.items := by rfl)
    (hn : d'.led.nextSeq = d.led.nextSeq := by rfl) : Inv d' := Keeps.inv ⟨fun w => hc ▸ w, hi, hn⟩ h

section
variable {d : Chip}
  {free regs latch satCtrs bus attn attnServed owed fetched agents answer hub tck ldr arm mu wk coll kv hif pat trc lnk sec fw cal dvt dma pkt nvs ckp pwr}
  {arising freed lost stallRun pass passHead passLow passTick mirrored mirror checked mirrorDev mirrorAlt report}

/-- A change of any parts but memory and the ledger. -/
theorem Inv.elsewhere (h : Inv d) :
    Inv ⟨free, regs, latch, satCtrs, bus, d.mem, d.led, attn, attnServed, owed, fetched, agents, answer, hub, tck, ldr, arm, mu, wk,
      coll, kv, hif, pat, trc, lnk, sec, fw, cal, dvt, dma, pkt, nvs, ckp, pwr⟩ := h

/-- A change of any parts but memory, the items and the next number. -/
theorem Inv.besideItems (h : Inv d) :
    Inv ⟨free, regs, latch, satCtrs, bus, d.mem,
      ⟨d.led.nextSeq, d.led.items, arising, freed, lost, stallRun, pass, passHead, passLow, passTick, mirrored, mirror, checked, mirrorDev,
        mirrorAlt, report⟩,
      attn, attnServed, owed, fetched, agents, answer, hub, tck, ldr, arm, mu, wk,
      coll, kv, hif, pat, trc, lnk, sec, fw, cal, dvt, dma, pkt, nvs, ckp, pwr⟩ := h

end

theorem inv_ite {a b : Chip} {q : Prop} [Decidable q] (h : Inv a) (k : Inv b) : Inv (if q then a else b) := by split <;> assumption

theorem inv_foldl {α : Type} {d : Chip} {f : Chip → α → Chip} {l : List α} (hf : ∀ d x, Inv d → Inv (f d x)) (h : Inv d) : Inv (l.foldl f d) := by
  induction l generalizing d with
  | nil => exact h
  | cons x l ih => exact ih (hf d x h)

/-- Items changed one by one, their numbers and slots as they were. -/
theorem mapItems_inv {d : Chip} {f : Item → Item} (h : Inv d) (hf : ∀ i, (f i).seq = i.seq ∧ (f i).slot = i.slot) :
    Inv { d with led := { d.led with items := d.led.items.map f } } :=
  (mapItems_keeps d f hf).inv h

/-- A fold that carries something else along with the chip. -/
theorem inv_foldl_fst {α β : Type} {p : Chip × β} {f : Chip × β → α → Chip × β} {l : List α} (hf : ∀ p x, Inv p.1 → Inv (f p x).1) (h : Inv p.1) :
    Inv (l.foldl f p).1 := by
  induction l generalizing p with
  | nil => exact h
  | cons x l ih => exact ih (hf p x h)

theorem inv_foldl_snd {α β : Type} {p : β × Chip} {f : β × Chip → α → β × Chip} {l : List α} (hf : ∀ p x, Inv p.2 → Inv (f p x).2) (h : Inv p.2) :
    Inv (l.foldl f p).2 := by
  induction l generalizing p with
  | nil => exact h
  | cons x l ih => exact ih (hf p x h)

theorem Inv.of_fst {α : Type} {d : Chip} {x : α} {p : Chip × α} (h : Inv p.1) (e : p = (d, x)) : Inv d := by subst e; exact h

theorem Inv.of_snd {α : Type} {d : Chip} {x : α} {p : α × Chip} (h : Inv p.2) (e : p = (x, d)) : Inv d := by subst e; exact h

/-- The invariant of the state that a command answers, if it answers one. -/
def OutInv (o : Out) : Prop := ∀ t, o = .next t → Inv t.chip

theorem on_inv {s : State} {f : Chip → Chip} (h : Inv (f s.chip)) : OutInv (s.on f) := by
  rintro t ⟨⟩
  exact h

theorem outInv_ite {a b : Out} {q : Prop} [Decidable q] (h : OutInv a) (k : OutInv b) : OutInv (if q then a else b) := by split <;> assumption

/-- The invariant of the chip that an instruction of an Armature core leaves, however it ends. -/
def IOutInv : IOut → Prop
  | .next d => Inv d
  | .jump d _ => Inv d
  | .trap d _ _ _ => Inv d
  | .halt d => Inv d
  | .stall => True

theorem next_inv {d : Chip} (h : Inv d) : IOutInv (.next d) := h
theorem jump_inv {d : Chip} {t : Nat} (h : Inv d) : IOutInv (.jump d t) := h
theorem trap_inv {d : Chip} {a b : Nat} {c : Bool} (h : Inv d) : IOutInv (.trap d a b c) := h
theorem halt_inv {d : Chip} (h : Inv d) : IOutInv (.halt d) := h
theorem stall_inv : IOutInv .stall := trivial
theorem iOutInv_ite {a b : IOut} {q : Prop} [Decidable q] (h : IOutInv a) (k : IOutInv b) : IOutInv (if q then a else b) := by split <;> assumption

/-! ## Each operation of the model keeps the invariant -/

section
variable {d : Chip}

/-! ### The named operations on the chip that the commands share -/

theorem sr_inv {f : Fld} {v : Nat} (h : Inv d) : Inv (d.sr f v) := (sr_keeps _ _ _).inv h

theorem mr_inv {f : Fld} {g : Nat → Nat} (h : Inv d) : Inv (d.mr f g) := (mr_keeps _ _ _).inv h

theorem setBit_inv {f : Fld} {i : Nat} {b : Bool} (h : Inv d) : Inv (d.setBit f i b) := (setBit_keeps _ _ _ _).inv h

theorem atCycle_inv {c : Nat} {f : Chip → Chip} (h : Inv d) (hf : ∀ e, Inv e → Inv (f e)) : Inv (d.atCycle c f) := inv_ite h (hf _ h.elsewhere)

theorem takeFree_inv (h : Inv d) : Inv (d.takeFree) := (takeFree_keeps _).inv h

theorem attnUpdate_inv (h : Inv d) : Inv (d.attnUpdate) := inv_ite ((sr_inv (sr_inv (sr_inv h))).elsewhere) (sr_inv (sr_inv (sr_inv h)))

theorem raiseAttn_inv {why : Attn} {l : Level} {cls : Nat} (h : Inv d) : Inv (d.raiseAttn why l cls) := (raiseAttn_keeps _ _ _ _).inv h

theorem endAttn_inv {why : Attn} (h : Inv d) : Inv (d.endAttn why) := attnUpdate_inv h.elsewhere

theorem note_inv {cls : Nat} (h : Inv d) : Inv (d.note cls) := (note_keeps _ _).inv h

theorem setCore_inv {n : Nat} {c : ArmCore} (h : Inv d) : Inv (d.setCore n c) := (setCore_keeps _ _ _).inv h

theorem pend_inv {n b : Nat} (h : Inv d) : Inv (d.pend n b) := (pend_keeps _ _ _).inv h

theorem setAgentRec_inv {a : Agent} {x : AgentState} (h : Inv d) : Inv (d.setAgentRec a x) := h.elsewhere

theorem setAgentSt_inv {a : Agent} {st : BlockState} (h : Inv d) : Inv (d.setAgentSt a st) := by
  unfold Chip.setAgentSt
  split
  · extract_lets _
    exact setAgentRec_inv h
  · extract_lets d1
    have hd1 : Inv d1 := sr_inv h
    exact setBit_inv hd1
  · exact sr_inv h

theorem resetAgent_inv {a : Agent} (h : Inv d) : Inv (d.resetAgent a) := by
  unfold Chip.resetAgent
  extract_lets d1 _ d2
  have hd1 : Inv d1 := setAgentSt_inv h
  have hd2 : Inv d2 := setAgentRec_inv hd1
  split
  · exact sr_inv hd2
  · exact hd2

theorem beginFence_inv {a : Agent} {thenReset : Bool} (h : Inv d) : Inv (d.beginFence a thenReset) := setAgentRec_inv h

theorem blockReset_inv {a : Agent} (h : Inv d) : Inv (d.blockReset a) := by
  unfold Chip.blockReset
  split
  · exact beginFence_inv h
  · exact inv_ite h (resetAgent_inv h)
  · exact h
  · exact h

theorem answered_inv {a : Agent} {ok : Bool} (h : Inv d) : Inv (d.answered a ok) := h.elsewhere

theorem patCount_inv {off w n : Nat} (h : Inv d) : Inv (d.patCount off w n) := (patCount_keeps _ _ _ _).inv h

theorem patSet_inv {off b : Nat} (h : Inv d) : Inv (d.patSet off b) := h.elsewhere

theorem hubInterrupt_inv (h : Inv d) : Inv (d.hubInterrupt) := pend_inv (setBit_inv h)

theorem hubNmi_inv (h : Inv d) : Inv (d.hubNmi) := pend_inv (setBit_inv h)

theorem enterSafe_inv {cause : Nat} {boot : Bool} (h : Inv d) : Inv (d.enterSafe cause boot) :=
  raiseAttn_inv (sr_inv (sr_inv (patCount_inv ((sr_inv (sr_inv (sr_inv h))).elsewhere))))

theorem react_inv {source r : Nat} (h : Inv d) : Inv (d.react source r) := by
  unfold Chip.react
  split
  · exact hubInterrupt_inv h
  · exact hubNmi_inv h
  · exact note_inv (hubInterrupt_inv (blockReset_inv h))
  · extract_lets base _
    have hbase : Inv base := raiseAttn_inv h
    exact hbase.elsewhere
  · extract_lets _ d1
    have hd1 : Inv d1 := patCount_inv h.elsewhere
    exact hubNmi_inv (raiseAttn_inv hd1)
  · exact enterSafe_inv h
  · exact h

theorem history_inv {source detail reaction : Nat} {graceEnd handled held severe injected safe : Bool} (h : Inv d) :
    Inv (d.history source detail reaction graceEnd handled held severe injected safe) :=
  mr_inv (sr_inv (sr_inv (sr_inv (sr_inv (sr_inv (sr_inv (sr_inv (sr_inv (sr_inv (sr_inv (sr_inv h)))))))))))

theorem syncHeld_inv (h : Inv d) : Inv (d.syncHeld) := sr_inv h

theorem count_inv {f : Fld} {n : Nat} (h : Inv d) : Inv (d.count f n) := (count_keeps _ _ _).inv h

theorem countEach_inv {f : Fld} {n : Nat} (h : Inv d) : Inv (d.countEach f n) := inv_ite h (inv_ite (count_inv (count_inv h)) (count_inv h))

theorem wake_inv (h : Inv d) : Inv (d.wake) := inv_ite (count_inv h.elsewhere) (inv_ite (count_inv h.elsewhere) h)

theorem fault_inv {s detail : Nat} {inj : Bool} (h : Inv d) : Inv (d.fault s detail inj) := (fault_keeps _ _ _ _).inv h

theorem patEvent_inv {type : Nat} {body : List Nat} (h : Inv d) : Inv (d.patEvent type body) := (patEvent_keeps _ _ _).inv h

/-! ### The meters of R88 -/

theorem updPlan_inv {id : Nat} {f : Plan → Plan} (h : Inv d) : Inv (d.updPlan id f) := h.elsewhere

theorem charge_inv {p : Nat} {u : PlanUse} (h : Inv d) : Inv (d.charge p u) := by
  unfold Chip.charge
  split
  · exact h
  · extract_lets _ _ d1
    have hd1 : Inv d1 := h.elsewhere
    exact inv_ite (updPlan_inv hd1) hd1

theorem nextMeters_inv (h : Inv d) : Inv (d.nextMeters) := inv_foldl (fun _ _ h1 => inv_ite (charge_inv h1) h1) h.elsewhere

/-! ### Device memory -/

theorem setPoison_inv {g : Nat} {p : Bool} (h : Inv d) : Inv (d.setPoison g p) := (setPoison_keeps _ _ _).inv h

theorem addRemap_inv {source a : Nat} (h : Inv d) : Inv (d.addRemap source a) := (addRemap_keeps _ _ _).inv h

theorem ledgerLost_inv (h : Inv d) : Inv (d.ledgerLost) := (ledgerLost_keeps _).inv h

theorem copyFail_inv {die : Nat} {room : Bool} (h : Inv d) : Inv (d.copyFail die room) := (copyFail_keeps _ _ _).inv h

theorem bankFail_inv {bank : Nat} (h : Inv d) : Inv (d.bankFail bank) := (bankFail_keeps _ _).inv h

theorem settle_inv {a n : Nat} (h : Inv d) : Inv (d.settle a n) := (settle_keeps _ _ _).inv h

theorem flushMerge_inv {w : Nat} (h : Inv d) : Inv (d.flushMerge w) := (flushMerge_keeps _ _).inv h

theorem writePhys_inv {a : Nat} {bs : List (Nat × Bool)} (h : Inv d) : Inv (d.writePhys a bs) := (writePhys_keeps _ _ _).inv h

theorem setPool_inv {k : Nat} {p : Pool} (h : Inv d) : Inv (d.setPool k p) := h.elsewhere

theorem takeUnits_inv {k i n : Nat} (h : Inv d) : Inv (d.takeUnits k i n) := setPool_inv h

theorem freeUnits_inv {k : Nat} {us : List Nat} (h : Inv d) : Inv (d.freeUnits k us) := setPool_inv h

theorem syncFill_inv (h : Inv d) : Inv (d.syncFill) := inv_foldl (fun _ _ h1 => sr_inv (sr_inv h1)) h

theorem setPte_inv {n : Nat} {e : PTE} (h : Inv d) : Inv (d.setPte n e) := (setPte_keeps _ _ _).inv h

theorem poisonLine_inv {a : Nat} (h : Inv d) : Inv (d.poisonLine a) := by
  unfold Chip.poisonLine
  split
  · exact h
  · extract_lets _ _
    refine inv_ite h (inv_foldl ?_ h)
    intro d1 x h1
    extract_lets base _
    have hbase : Inv base := setPoison_inv h1
    exact hbase.elsewhere

theorem queuePage_inv {page tier : Nat} {up : Bool} (h : Inv d) : Inv (d.queuePage page tier up) := (queuePage_keeps _ _ _ _).inv h

theorem heatPage_inv {n k : Nat} (h : Inv d) : Inv (d.heatPage n k) := (heatPage_keeps _ _ _).inv h

theorem xlatTouch_inv {n k : Nat} (h : Inv d) : Inv (d.xlatTouch n k) := (xlatTouch_keeps _ _ _).inv h

theorem ckpCopy_inv {j : Nat} {x : CkpJob} {r : CkpRun} {n k logical : Nat} (h : Inv d) : Inv (d.ckpCopy j x r n k logical) :=
  (ckpCopy_keeps _ _ _ _ _ _ _).inv h

theorem touchPage_inv {a : Nat} {write : Bool} (h : Inv d) : Inv (d.touchPage a write) := (touchPage_keeps _ _ _).inv h

theorem noteRead_inv {a n : Nat} (h : Inv d) : Inv (d.noteRead a n) := (noteRead_keeps _ _ _).inv h

theorem translate_inv {a n : Nat} (h : Inv d) : Inv (d.translate a n) := (translate_keeps _ _ _).inv h

theorem writeRange_inv {a : Nat} {bs : List (Nat × Bool)} (h : Inv d) : Inv (d.writeRange a bs) := (writeRange_keeps _ _ _).inv h

theorem wr_inv {a : Nat} {bs : List Nat} (h : Inv d) : Inv (d.wr a bs) := (wr_keeps _ _ _).inv h

theorem wrNum_inv {a n v : Nat} (h : Inv d) : Inv (d.wrNum a n v) := (wrNum_keeps _ _ _ _).inv h

theorem zeroRange_inv {a n : Nat} (h : Inv d) : Inv (d.zeroRange a n) := (zeroRange_keeps _ _ _).inv h

/-! ### Group and slot records -/

theorem pace_inv {port line arg : Nat} (h : Inv d) : Inv (d.pace port line arg) := h.elsewhere

theorem paceAll_inv {ports : List Nat} {line arg : Nat} (h : Inv d) : Inv (d.paceAll ports line arg) := inv_foldl (fun _ _ h1 => pace_inv h1) h

theorem setSlot_inv {k : Nat} {s : SlotRec} (h : Inv d) : Inv (d.setSlot k s) := setBit_inv h.elsewhere

theorem faultSlot_inv {k : Nat} (h : Inv d) : Inv (d.faultSlot k) := inv_ite h (raiseAttn_inv (setSlot_inv h))

theorem firingEnd_inv {k n seq : Nat} {committed : Bool} (h : Inv d) : Inv (d.firingEnd k n seq committed) := setSlot_inv (count_inv (paceAll_inv h))

theorem abortPeers_inv {g : Desc} {tag : Nat} (h : Inv d) : Inv (d.abortPeers g tag) := h.elsewhere

theorem collWithdrawn_inv {body : Desc} {code : Nat} (h : Inv d) : Inv (d.collWithdrawn body code) := by
  unfold Chip.collWithdrawn
  extract_lets d1
  have hd1 : Inv d1 := count_inv h
  split
  · exact hd1
  · exact inv_ite hd1 (abortPeers_inv hd1)

/-! ### Service records -/

theorem setSvc_inv {n : Nat} {s : SvcRec} (h : Inv d) : Inv (d.setSvc n s) := h.elsewhere

theorem answerQuery_inv {n p e : Nat} {ok : Bool} (h : Inv d) : Inv (d.answerQuery n p e ok) := by
  unfold Chip.answerQuery
  split
  · exact h
  · exact setSvc_inv (pace_inv h)

theorem queryEnd_inv {n entry seq : Nat} {committed : Bool} (h : Inv d) : Inv (d.queryEnd n entry seq committed) := by
  unfold Chip.queryEnd
  extract_lets _ _ d1 d2 d3
  have hd1 : Inv d1 := h.elsewhere
  have hd2 : Inv d2 := count_inv (count_inv hd1)
  have hd3 : Inv d3 := inv_ite (inv_ite hd2 (count_inv hd2)) hd1
  exact answerQuery_inv hd3

/-! ### Sequences, the run directory and the block map in device memory -/

theorem logMap_inv {r : KvLog} (h : Inv d) : Inv (d.logMap r) := inv_ite h.elsewhere h

theorem setDir_inv {v s l : Nat} {e : DirEnt} (h : Inv d) : Inv (d.setDir v s l e) := wrNum_inv (wrNum_inv (wrNum_inv (inv_ite (logMap_inv h) h)))

theorem setEnt_inv {v i : Nat} {e : MapEnt} {logged : Bool} (h : Inv d) : Inv (d.setEnt v i e logged) :=
  inv_ite (logMap_inv (wrNum_inv (wrNum_inv h))) (wrNum_inv (wrNum_inv h))

theorem touchDir_inv {s l : Nat} (h : Inv d) : Inv (d.touchDir s l) := inv_ite (fault_inv h) h

theorem syncHigh_inv {s l : Nat} (h : Inv d) : Inv (d.syncHigh s l) := setDir_inv h

theorem syncMap_inv (h : Inv d) : Inv (d.syncMap) := sr_inv (sr_inv h)

theorem takeExtent_inv {base n : Nat} (h : Inv d) : Inv (d.takeExtent base n) := syncMap_inv h.elsewhere

theorem dropExtent_inv {base n : Nat} (h : Inv d) : Inv (d.dropExtent base n) := syncMap_inv h.elsewhere

theorem takeCells_inv {pool i n : Nat} (h : Inv d) : Inv (d.takeCells pool i n) := syncFill_inv (takeUnits_inv h)

theorem freeCells_inv {a n : Nat} (h : Inv d) : Inv (d.freeCells a n) := syncFill_inv (freeUnits_inv h)

theorem reclaimCells_inv {pool a n : Nat} (h : Inv d) : Inv (d.reclaimCells pool a n) := h.elsewhere

theorem dropEntry_inv {s i : Nat} (h : Inv d) : Inv (d.dropEntry s i) := inv_ite (setEnt_inv (reclaimCells_inv h)) h

theorem newRun_inv {x : Desc} {cap : Nat} {r : Chip × DirEnt} (h : Inv d) (e : d.newRun x cap = .ok r) : Inv r.1 := by
  unfold Chip.newRun at e
  extract_lets c at e
  split at e
  · cases e
  · split at e
    · cases e
    · cases e
      exact wr_inv (wr_inv (zeroRange_inv (takeCells_inv (takeExtent_inv h))))

theorem dropRun_inv {x : Desc} {e : DirEnt} (h : Inv d) : Inv (d.dropRun x e) :=
  inv_ite (inv_ite h (dropExtent_inv h)) (reclaimCells_inv (inv_ite h (dropExtent_inv h)))

theorem freeSeq_inv {x : Desc} (h : Inv d) : Inv (d.freeSeq x) := inv_foldl (fun _ _ h1 => setDir_inv (dropRun_inv h1)) h

/-! ### What an item's end does to the engine it ran in, by the item's kind -/

theorem leaveUnit_inv {i : Item} (h : Inv d) : Inv (d.leaveUnit i) := inv_foldl (fun _ _ h1 => inv_ite (sr_inv h1) h1) h.elsewhere

theorem workWithdrawn_inv {i : Item} (h : Inv d) : Inv (d.workWithdrawn i) := (leaveUnit_inv h).elsewhere

theorem slotCmdWithdrawn_inv {seq : Nat} (h : Inv d) : Inv (d.slotCmdWithdrawn seq) :=
  inv_foldl (fun _ _ h1 => inv_ite (setSlot_inv h1) (inv_ite (setSlot_inv h1) h1)) h

theorem kvWithdrawn_inv {op : Nat} {body : Desc} (h : Inv d) : Inv (d.kvWithdrawn op body) := by
  unfold Chip.kvWithdrawn
  split
  · exact freeSeq_inv h
  · extract_lets _
    exact h.elsewhere
  · exact freeCells_inv h
  · extract_lets _
    refine inv_foldl ?_ h
    intro d1 x h1
    extract_lets _
    exact inv_ite (setPte_inv (freeUnits_inv h1)) h1
  · exact inv_ite (wr_inv h) h
  · exact h

theorem kvCmdWithdrawn_inv {seq : Nat} (h : Inv d) : Inv (d.kvCmdWithdrawn seq) := h.elsewhere

theorem inboxEnded_inv {n seq : Nat} {committed : Bool} (h : Inv d) : Inv (d.inboxEnded n seq committed) :=
  inv_foldl (fun _ _ h1 => inv_ite (wrNum_inv h1) h1) h

theorem endDone_inv {seq : Nat} {committed : Bool} (h : Inv d) : Inv (d.endDone seq committed) := by
  unfold Chip.endDone
  split
  · exact h
  · extract_lets _ d1
    have hd1 : Inv d1 := h.elsewhere
    exact pend_inv (sr_inv hd1)

theorem actWithdrawn_inv {seq : Nat} (h : Inv d) : Inv (d.actWithdrawn seq) := inv_ite (sr_inv h.elsewhere) h

theorem dvtWithdrawn_inv {seq : Nat} (h : Inv d) : Inv (d.dvtWithdrawn seq) := (inv_ite (mr_inv h) h).elsewhere

theorem pktEnded_inv {seq : Nat} {committed : Bool} (h : Inv d) : Inv (d.pktEnded seq committed) :=
  inv_ite h.elsewhere ((inv_ite (sr_inv h) h).elsewhere)

theorem ckpRelease_inv {x : CkpJob} (h : Inv d) : Inv (d.ckpRelease x) :=
  inv_foldl (fun _ _ h1 => inv_foldl (fun _ _ h2 => inv_ite (setPte_inv h2) h2) h1) h

theorem ckpEnded_inv {j : Nat} {committed : Bool} (h : Inv d) : Inv (d.ckpEnded j committed) := by
  unfold Chip.ckpEnded
  split
  · exact h
  · split
    · exact h
    · extract_lets d1 _ d2 d3 _ d4 d5 _
      have hd1 : Inv d1 := sr_inv (sr_inv h)
      have hd2 : Inv d2 := count_inv (sr_inv hd1)
      have hd3 : Inv d3 := sr_inv hd2
      have hd4 : Inv d4 := ckpRelease_inv hd1
      have hd5 : Inv d5 := count_inv (sr_inv (sr_inv hd4))
      exact inv_ite hd3.elsewhere hd5.elsewhere

theorem ckpCmdEnded_inv {seq : Nat} {committed : Bool} (h : Inv d) : Inv (d.ckpCmdEnded seq committed) :=
  (inv_foldl (fun _ _ h1 => sr_inv h1) h).elsewhere

theorem onEnd_inv {i : Item} {committed : Bool} {code : Nat} (h : Inv d) : Inv (d.onEnd i committed code) := by
  unfold Chip.onEnd
  extract_lets d1 d2 _ _ d3 _ d4
  have hd1 : Inv d1 := endDone_inv h
  have hd2 : Inv d2 := inv_ite (inboxEnded_inv hd1) hd1
  have hd3 : Inv d3 := hd2.elsewhere
  have hd4 : Inv d4 := hd2.elsewhere
  split
  · exact inv_ite hd2.elsewhere (dvtWithdrawn_inv hd2)
  · extract_lets d5
    have hd5 : Inv d5 := mr_inv hd3
    exact inv_ite (sr_inv hd5) hd5
  · exact inv_ite hd2 (workWithdrawn_inv hd2)
  · exact firingEnd_inv hd2
  · exact inv_ite hd4 (collWithdrawn_inv hd4)
  · extract_lets _
    exact setCore_inv hd2
  · exact queryEnd_inv hd2
  · exact ckpEnded_inv hd2
  · extract_lets d5 d6
    have hd5 : Inv d5 := inv_ite (pktEnded_inv hd2) hd2
    have hd6 : Inv d6 := inv_ite (ckpCmdEnded_inv hd5) hd5
    exact inv_ite hd6 (kvWithdrawn_inv (kvCmdWithdrawn_inv (slotCmdWithdrawn_inv (actWithdrawn_inv (dvtWithdrawn_inv hd6)))))
  · exact hd2

/-! ### Frame capacities and the sums of admission -/

theorem syncAdmit_inv (h : Inv d) : Inv (d.syncAdmit) := sr_inv (sr_inv (sr_inv (sr_inv h)))

/-! ### The ledger and replies -/

theorem updItem_inv {seq : Nat} {f : Item → Item} (h : Inv d) (hf : ∀ i, (f i).seq = i.seq ∧ (f i).slot = i.slot) : Inv (d.updItem seq f) :=
  (updItem_keeps d seq f hf).inv h

theorem syncFree_inv (h : Inv d) : Inv (d.syncFree) := (syncFree_keeps _).inv h

theorem owe_inv {r : Reply} (h : Inv d) : Inv (d.owe r) := (owe_keeps _ _).inv h

theorem coreReply_inv {n : Nat} {hdr : Option Nat} {r : Reply} (h : Inv d) : Inv (d.coreReply n hdr r) := (coreReply_keeps _ _ _ _).inv h

theorem refuse_inv {src : Submit} {code lo hi : Nat} (h : Inv d) : Inv (d.refuse src code lo hi) := (refuse_keeps _ _ _ _ _).inv h

theorem taken_inv {o : Origin} (h : Inv d) : Inv (d.taken o) := (taken_keeps _ _).inv h

theorem oweMore_inv {seq code lo hi : Nat} (h : Inv d) : Inv (d.oweMore seq code lo hi) := (oweMore_keeps _ _ _ _ _).inv h

theorem replyDue_inv {i : Item} {code lo hi : Nat} (h : Inv d) : Inv (d.replyDue i code lo hi) := (replyDue_keeps _ _ _ _ _).inv h

theorem release_inv (h : Inv d) : Inv (d.release) := (release_keeps _).inv h

theorem drainPlans_inv (h : Inv d) : Inv (d.drainPlans) := by
  unfold Chip.drainPlans
  refine inv_foldl ?_ h
  intro d1 x h1
  extract_lets _ d2 d3
  have hd2 : Inv d2 := h1.elsewhere
  have hd3 : Inv d3 := inv_foldl (fun _ _ h2 => sr_inv (sr_inv h2)) hd2
  split
  · exact replyDue_inv hd3
  · exact hd3

theorem dropPlanCmd_inv {seq : Nat} (h : Inv d) : Inv (d.dropPlanCmd seq) := by
  unfold Chip.dropPlanCmd
  split
  · exact h
  · extract_lets _ d1 d2 _
    have hd1 : Inv d1 := h.elsewhere
    have hd2 : Inv d2 := inv_foldl (fun _ _ h1 => sr_inv (sr_inv h1)) hd1
    refine syncAdmit_inv ?_
    split
    · exact hd2.elsewhere
    · exact hd2.elsewhere
    · exact hd2.elsewhere

theorem drainSlots_inv (h : Inv d) : Inv (d.drainSlots) := by
  unfold Chip.drainSlots
  refine inv_foldl ?_ h
  intro d1 x h1
  extract_lets _ d2
  have hd2 : Inv d2 := setSlot_inv h1
  split
  · exact inv_ite (replyDue_inv hd2) hd2
  · exact hd2

theorem endOne_inv {i : Item} {st : ItemState} {code lo hi : Nat} {due : Bool} (h : Inv d) : Inv (d.endOne i st code lo hi due) := by
  unfold Chip.endOne
  split
  · extract_lets d1 d2 d3
    have hd1 : Inv d1 := updItem_inv h (fun _ => ⟨rfl, rfl⟩)
    have hd2 : Inv d2 := inv_ite (replyDue_inv hd1) hd1
    have hd3 : Inv d3 := onEnd_inv hd2
    exact inv_ite (dropPlanCmd_inv hd3) hd3

theorem drainSvcs_inv (h : Inv d) : Inv (d.drainSvcs) := by
  unfold Chip.drainSvcs
  refine inv_foldl ?_ h
  intro d1 x h1
  extract_lets _ d2
  have hd2 : Inv d2 := h1.elsewhere
  split
  · exact inv_ite hd2 (inv_ite (endOne_inv hd2) (updItem_inv hd2 (fun _ => ⟨rfl, rfl⟩)))
  · exact hd2

theorem drainConns_inv (h : Inv d) : Inv (d.drainConns) := by
  unfold Chip.drainConns
  refine inv_foldl ?_ h
  intro d1 x h1
  extract_lets _ d2 d3
  have hd2 : Inv d2 := h1.elsewhere
  have hd3 : Inv d3 := sr_inv hd2
  split
  · exact inv_ite hd3 (inv_ite (endOne_inv hd3) (updItem_inv hd3 (fun _ => ⟨rfl, rfl⟩)))
  · exact hd3

theorem endItem_inv {seq : Nat} {st : ItemState} {code lo hi : Nat} {due : Bool} (h : Inv d) : Inv (d.endItem seq st code lo hi due) := by
  unfold Chip.endItem
  split
  · exact h
  · exact inv_ite h (inv_ite (updItem_inv h (fun _ => ⟨rfl, rfl⟩)) (drainSlots_inv (drainPlans_inv
      (release_inv (drainConns_inv (drainSvcs_inv (endOne_inv h)))))))

theorem finish_inv {seq code lo hi : Nat} {due : Bool} (h : Inv d) : Inv (d.finish seq code lo hi due) := by
  unfold Chip.finish
  split
  · exact h
  · exact inv_ite (endItem_inv h) (updItem_inv h (fun _ => by split <;> exact ⟨rfl, rfl⟩))

theorem finishWith_inv {seq : Nat} {effect : Chip → Chip} {code lo hi : Nat} (h : Inv d) (heffect : ∀ e, Inv e → Inv (effect e)) :
    Inv (d.finishWith seq effect code lo hi) := by
  unfold Chip.finishWith
  split
  · exact h
  · exact inv_ite (endItem_inv (heffect _ h)) (updItem_inv h (fun _ => by split <;> exact ⟨rfl, rfl⟩))

theorem withdraw_inv {seq code lo hi : Nat} (h : Inv d) : Inv (d.withdraw seq code lo hi) := inv_ite (endItem_inv h) h

theorem issueCommit_inv {seq : Nat} {r : ReplyData} {redo : Option Desc} (h : Inv d) : Inv (d.issueCommit seq r redo) :=
  (issueCommit_keeps _ _ _ _).inv h

theorem takeCommit_inv {seq : Nat} (h : Inv d) : Inv (d.takeCommit seq) := (takeCommit_keeps _ _).inv h

theorem giveBack_inv {p : Item → Bool} (h : Inv d) : Inv (d.giveBack p) := (giveBack_keeps _ _).inv h

theorem opsBack_inv {k : Nat} (h : Inv d) : Inv (d.opsBack k) := by
  refine mapItems_inv h fun i => ?_
  split
  · split <;> exact ⟨rfl, rfl⟩
  · exact ⟨rfl, rfl⟩

theorem freeSlots_inv (h : Inv d) : Inv (d.freeSlots) := (freeSlots_keeps _).inv h

theorem dropHand_inv {o : Origin} (h : Inv d) : Inv (d.dropHand o) := (dropHand_keeps _ _).inv h

theorem served_inv {r : Nat} {k : Chip → Chip} (h : Inv d) (hk : ∀ e, Inv e → Inv (k e)) : Inv (d.served r k) := inv_ite (hk _ h) h

theorem groupServed_inv {src : Submit} {g : Nat} {k : Nat → Chip} (h : Inv d) (hk : ∀ x0, Inv (k x0)) : Inv (d.groupServed src g k) := by
  unfold Chip.groupServed
  split
  · exact refuse_inv h
  · exact hk _

theorem withRecord_inv {src : Submit} {a n : Nat} {k : Chip → Chip} (h : Inv d) (hk : ∀ e, Inv e → Inv (k e)) : Inv (d.withRecord src a n k) :=
  inv_ite (refuse_inv h) (inv_ite (refuse_inv (noteRead_inv h)) (hk _ (noteRead_inv h)))

/-! ### What the engines need of the host endpoint (chapter 13) -/

theorem issueRead_inv {fn seq : Nat} {back : Bool} (h : Inv d) : Inv (d.issueRead fn seq back) := h.elsewhere

theorem readsGo_inv (h : Inv d) : Inv (d.readsGo) := inv_foldl (fun _ _ h1 => inv_ite h1.elsewhere h1) h

theorem hostReads_inv {i : Item} (h : Inv d) : Inv (d.hostReads i) := inv_foldl (fun _ _ h1 => inv_ite h1 (issueRead_inv (translate_inv h1))) h

/-! ### The plan loader -/

theorem grant_inv {plan : Nat} {cores : List Nat} (h : Inv d) : Inv (d.grant plan cores) := inv_foldl (fun _ _ h1 => sr_inv (sr_inv h1)) h

theorem ungrant_inv {cores : List Nat} (h : Inv d) : Inv (d.ungrant cores) := inv_foldl (fun _ _ h1 => sr_inv (sr_inv h1)) h

theorem refuseFit_inv {src : Submit} {id : Nat} {m : Misfit} (h : Inv d) : Inv (d.refuseFit src id m) := refuse_inv h

theorem loadPlan_inv {src : Submit} {image : Nat} {hdr : PlanHeader} {steps : List Step} (h : Inv d) : Inv (loadPlan d src image hdr steps) :=
  syncAdmit_inv (grant_inv ((acceptCmd_inv _ _ _ _ _ _ _ h).elsewhere))

theorem planLoad_inv {src : Submit} {image : Nat} (h : Inv d) : Inv (planLoad d src image) := by
  unfold planLoad
  extract_lets d1 _ _ d2 _ _
  have hd1 : Inv d1 := inv_ite (noteRead_inv h) h
  have hd2 : Inv d2 := inv_ite (noteRead_inv hd1) hd1
  refine inv_ite (refuse_inv hd2) (inv_ite (refuse_inv hd2) (inv_ite (refuse_inv hd2)
    (inv_ite (refuse_inv hd2) (inv_ite (refuse_inv hd2) (inv_ite (refuse_inv hd2) (inv_ite (refuse_inv hd2) ?_))))))
  split
  · exact refuseFit_inv hd2
  · exact loadPlan_inv hd2

theorem execPlanLoad_inv {src : Submit} {image : Nat} {s : State} (h : Inv s.chip) : OutInv (execPlanLoad src image s) :=
  on_inv (served_inv h (fun _ h1 => submit_inv _ _ _ _ _ _ (fun _ h2 => planLoad_inv h2) h1))

theorem planUnload_inv {src : Submit} {id : Nat} (h : Inv d) : Inv (planUnload d src id) := by
  unfold planUnload
  split
  · exact refuse_inv h
  · extract_lets d1 _ _
    have hd1 : Inv d1 := acceptCmd_inv _ _ _ _ _ _ _ h
    exact inv_ite (refuse_inv h) hd1.elsewhere

theorem execPlanUnload_inv {src : Submit} {plan : Nat} {s : State} (h : Inv s.chip) : OutInv (execPlanUnload src plan s) :=
  on_inv (served_inv h (fun _ h1 => submit_inv _ _ _ _ _ _ (fun _ h2 => planUnload_inv h2) h1))

theorem planResume_inv {src : Submit} {id : Nat} (h : Inv d) : Inv (planResume d src id) := by
  unfold planResume
  split
  · exact refuse_inv h
  · refine inv_ite (refuse_inv h) (inv_ite (refuse_inv h) ?_)
    split
    · exact refuseFit_inv h
    · extract_lets _ d1 _ _ d2
      have hd1 : Inv d1 := acceptCmd_inv _ _ _ _ _ _ _ h
      have hd2 : Inv d2 := hd1.elsewhere
      exact syncAdmit_inv (inv_ite (grant_inv (updPlan_inv (ungrant_inv hd2))) hd2)

theorem execPlanResume_inv {src : Submit} {plan : Nat} {s : State} (h : Inv s.chip) : OutInv (execPlanResume src plan s) :=
  on_inv (served_inv h (fun _ h1 => submit_inv _ _ _ _ _ _ (fun _ h2 => planResume_inv h2) h1))

theorem activate_inv (h : Inv d) : Inv (d.activate) := h.elsewhere

theorem retrainSlots_inv (h : Inv d) : Inv (d.retrainSlots) := h.elsewhere

theorem commitPlanCmd_inv {c : PlanCmd} (h : Inv d) : Inv (commitPlanCmd d c) := by
  unfold commitPlanCmd
  extract_lets _ d1 _ d2 _ d3 d4 d5 d6
  have hd1 : Inv d1 := h.elsewhere
  have hd2 : Inv d2 := updPlan_inv hd1
  have hd3 : Inv d3 := hd2.elsewhere
  have hd4 : Inv d4 := endAttn_inv (endAttn_inv hd3)
  have hd5 : Inv d5 := updPlan_inv hd1
  have hd6 : Inv d6 := endAttn_inv (endAttn_inv hd5)
  split
  · exact endItem_inv (updPlan_inv hd1)
  · exact endItem_inv hd4
  · exact endItem_inv hd6

theorem commitPlanCmds_inv {cs : List PlanCmd} (h : Inv d) : Inv (commitPlanCmds d cs) := by
  induction cs generalizing d with
  | nil => exact h
  | cons c cs ih => exact ih (inv_ite (commitPlanCmd_inv h) h)

theorem friezeSwap_inv (h : Inv d) : Inv (friezeSwap d) := by
  unfold friezeSwap
  refine atCycle_inv h ?_
  intro e h1
  extract_lets d1 _
  have hd1 : Inv d1 := activate_inv (retrainSlots_inv (commitPlanCmds_inv h1))
  exact inv_ite (syncAdmit_inv hd1.elsewhere) h1

theorem execPendingFriezeSwap_inv {s : State} (h : Inv s.chip) : OutInv (execPendingFriezeSwap s) := on_inv (friezeSwap_inv h)

theorem execFriezeSwap_inv {s : State} (h : Inv s.chip) : OutInv (execFriezeSwap s) := on_inv h.elsewhere

/-! ### Work items on the work cores -/

theorem submitWork_inv {src : Submit} {x : Desc} {logical : Nat} (h : Inv d) : Inv (d.submitWork src x logical) := by
  unfold Chip.submitWork
  extract_lets _ d1 _
  have hd1 : Inv d1 := acceptCmd_inv _ _ _ _ _ _ _ h
  split
  · exact refuse_inv h
  · exact hd1.elsewhere

theorem execWorkDescriptorSubmit_inv {src : Submit} {x : Desc} {s : State} (h : Inv s.chip) : OutInv (execWorkDescriptorSubmit src x s) :=
  on_inv (inv_ite (submit_inv _ _ _ _ _ _ (fun _ h1 => submitWork_inv h1) h) h)

theorem workWrites_inv {x : Desc} {core ofs : Nat} {ws : List (Nat × List PByte)} (h : Inv d) : Inv (d.workWrites x core ofs ws).1 := by
  induction ws generalizing d ofs with
  | nil => exact h
  | cons w ws ih =>
    rw [Chip.workWrites]
    extract_lets
    split
    · exact ih (writePhys_inv h)
    · exact ih (writeRange_inv h)

theorem poisonEnds_inv {a : Nat} {bs : List PByte} (h : Inv d) : Inv (d.poisonEnds a bs) :=
  inv_ite (poisonLine_inv (inv_ite (poisonLine_inv h) h)) (inv_ite (poisonLine_inv h) h)

theorem dispatch_inv {i : Item} {core : Nat} (h : Inv d) : Inv (d.dispatch i core) := by
  unfold Chip.dispatch
  extract_lets _ d1 d2 d3 _ _
  have hd1 : Inv d1 := updItem_inv h (fun _ => ⟨rfl, rfl⟩)
  have hd2 : Inv d2 := sr_inv hd1
  have hd3 : Inv d3 := inv_ite (count_inv hd2) hd2
  exact hostReads_inv hd3.elsewhere

theorem applyRun_inv {i : Item} {core : Nat} {o : WorkOut} (h : Inv d) : Inv (d.applyRun i core o) := by
  unfold Chip.applyRun
  extract_lets _ _ w d1 d2 _ _ _ d3
  have hw : Inv w.1 := workWrites_inv h
  have hd1 : Inv d1 := inv_foldl (fun _ _ h1 => inv_ite h1 (poisonEnds_inv h1)) hw
  have hd2 : Inv d2 := charge_inv (takeFree_inv hd1)
  have hd3 : Inv d3 := hd2.elsewhere
  exact inv_ite (withdraw_inv hd2) (updItem_inv hd3 (fun _ => ⟨rfl, rfl⟩))

theorem opView_inv {i : Item} {core : Nat} (h : Inv d) : Inv (d.opView i core) := by
  unfold Chip.opView
  extract_lets d1
  have hd1 : Inv d1 := inv_foldl (fun _ _ h1 => inv_ite h1 (noteRead_inv h1)) (dispatch_inv h)
  exact inv_foldl (fun _ _ h1 => noteRead_inv h1) hd1

theorem runWork_inv {seq core op : Nat} {f : Chip → Item → WorkOut} (h : Inv d) : Inv (d.runWork seq core op f) := by
  unfold Chip.runWork
  split
  · exact h
  · exact inv_ite h (inv_ite (withdraw_inv (dispatch_inv h)) (applyRun_inv (opView_inv h)))

theorem execReduceSum_inv {seq : Nat} {core : Fin 64} {s : State} (h : Inv s.chip) : OutInv (execReduceSum seq core s) := on_inv (runWork_inv h)

theorem execReduceMax_inv {seq : Nat} {core : Fin 64} {s : State} (h : Inv s.chip) : OutInv (execReduceMax seq core s) := on_inv (runWork_inv h)

theorem execReduceMin_inv {seq : Nat} {core : Fin 64} {s : State} (h : Inv s.chip) : OutInv (execReduceMin seq core s) := on_inv (runWork_inv h)

theorem execDotRows_inv {seq : Nat} {core : Fin 64} {s : State} (h : Inv s.chip) : OutInv (execDotRows seq core s) := on_inv (runWork_inv h)

theorem execConvert_inv {seq : Nat} {core : Fin 64} {s : State} (h : Inv s.chip) : OutInv (execConvert seq core s) := on_inv (runWork_inv h)

theorem execQuantEf_inv {seq : Nat} {core : Fin 64} {s : State} (h : Inv s.chip) : OutInv (execQuantEf seq core s) := on_inv (runWork_inv h)

theorem execTopk_inv {seq : Nat} {core : Fin 64} {s : State} (h : Inv s.chip) : OutInv (execTopk seq core s) := on_inv (runWork_inv h)

theorem execTopkEf_inv {seq : Nat} {core : Fin 64} {s : State} (h : Inv s.chip) : OutInv (execTopkEf seq core s) := on_inv (runWork_inv h)

theorem execSha256_inv {seq : Nat} {core : Fin 64} {s : State} (h : Inv s.chip) : OutInv (execSha256 seq core s) := on_inv (runWork_inv h)

theorem execCrc32c_inv {seq : Nat} {core : Fin 64} {s : State} (h : Inv s.chip) : OutInv (execCrc32c seq core s) := on_inv (runWork_inv h)

theorem execLz4Pack_inv {seq : Nat} {core : Fin 64} {s : State} (h : Inv s.chip) : OutInv (execLz4Pack seq core s) := on_inv (runWork_inv h)

theorem execLz4Unpack_inv {seq : Nat} {core : Fin 64} {s : State} (h : Inv s.chip) : OutInv (execLz4Unpack seq core s) := on_inv (runWork_inv h)

theorem execCopy_inv {seq : Nat} {core : Fin 64} {s : State} (h : Inv s.chip) : OutInv (execCopy seq core s) := on_inv (runWork_inv h)

theorem execGather_inv {seq : Nat} {core : Fin 64} {s : State} (h : Inv s.chip) : OutInv (execGather seq core s) := on_inv (runWork_inv h)

theorem execScatter_inv {seq : Nat} {core : Fin 64} {s : State} (h : Inv s.chip) : OutInv (execScatter seq core s) := on_inv (runWork_inv h)

theorem execFill_inv {seq : Nat} {core : Fin 64} {s : State} (h : Inv s.chip) : OutInv (execFill seq core s) := on_inv (runWork_inv h)

theorem arriveDone_inv {seq core : Nat} (h : Inv d) : Inv (d.arriveDone seq core) := by
  unfold Chip.arriveDone
  split
  · exact h
  · extract_lets _ _
    exact inv_ite (applyRun_inv h) h

theorem execReduceArrive_inv {seq : Nat} {core : Fin 64} {s : State} (h : Inv s.chip) : OutInv (execReduceArrive seq core s) := by
  unfold execReduceArrive
  refine on_inv ?_
  split
  · exact h
  · extract_lets d1 d2 _ d3
    have hd1 : Inv d1 := dispatch_inv h
    have hd2 : Inv d2 := inv_ite hd1 (noteRead_inv hd1)
    have hd3 : Inv d3 := inv_ite hd2 hd2.elsewhere
    exact inv_ite h (arriveDone_inv hd3)

theorem copyStaged_inv {st : List (Nat × Nat × Nat)} (h : Inv d) : Inv (d.copyStaged st) :=
  inv_foldl (fun _ _ h1 => poisonEnds_inv (writeRange_inv h1)) h

theorem redoCopyComplete_inv {seq core : Nat} (h : Inv d) : Inv (redoCopyComplete d seq core) := by
  unfold redoCopyComplete
  split
  · extract_lets d1 _ d2 _ _ d3
    have hd1 : Inv d1 := copyStaged_inv h
    have hd2 : Inv d2 := inv_ite (updItem_inv (count_inv hd1) (fun _ => ⟨rfl, rfl⟩)) hd1
    have hd3 : Inv d3 := hd2.elsewhere
    refine inv_ite h ?_
    split
    · exact replyDue_inv hd3
    · exact hd3
  · exact h

theorem execRedoCopyComplete_inv {seq : Nat} {core : Fin 64} {s : State} (h : Inv s.chip) : OutInv (execRedoCopyComplete seq core s) :=
  on_inv (redoCopyComplete_inv h)

theorem syncPool_inv (h : Inv d) : Inv (d.syncPool) := sr_inv (sr_inv (sr_inv (sr_inv h)))

theorem enterService_inv {k : Nat} (h : Inv d) : Inv (d.enterService k) := setBit_inv (sr_inv h)

theorem regrant_inv {id : Nat} {cores : List Nat} (h : Inv d) : Inv (d.regrant id cores) := by
  unfold Chip.regrant
  split
  · exact h
  · exact grant_inv (updPlan_inv (ungrant_inv h))

theorem suspend_inv {id : Nat} (h : Inv d) : Inv (d.suspend id) := inv_ite (regrant_inv h) (raiseAttn_inv (updPlan_inv (regrant_inv h)))

theorem replaceCore_inv {n : Nat} (h : Inv d) : Inv (d.replaceCore n) := by
  unfold Chip.replaceCore
  extract_lets holder _ d1
  have hd1 : Inv d1 := h.elsewhere
  split
  · extract_lets d2
    have hd2 : Inv d2 := note_inv (enterService_inv h)
    clear_value holder
    split
    · exact regrant_inv hd2
    · exact hd2
  · clear_value holder
    split
    · exact hd1
    · extract_lets _
      refine inv_ite (regrant_inv hd1) ?_
      split
      · exact regrant_inv hd1
      · exact suspend_inv hd1

theorem emptyCore_inv {n : Nat} (h : Inv d) : Inv (d.emptyCore n) := by
  unfold Chip.emptyCore
  extract_lets d1 _ d2 d3 _ _
  have hd1 : Inv d1 := giveBack_inv h
  have hd2 : Inv d2 := mapItems_inv hd1 (fun _ => by split <;> exact ⟨rfl, rfl⟩)
  have hd3 : Inv d3 := inv_foldl (fun _ _ h1 => sr_inv h1) hd2
  exact hd3.elsewhere

theorem wcFenced_inv {n : Nat} (h : Inv d) : Inv (d.wcFenced n) :=
  syncPool_inv (inv_ite (replaceCore_inv (patCount_inv (emptyCore_inv h))) (patCount_inv (emptyCore_inv h)))

theorem wcReturns_inv {n : Nat} (h : Inv d) : Inv (d.wcReturns n) := by
  unfold Chip.wcReturns
  extract_lets _ d1 d2 d3 _
  have hd1 : Inv d1 := setAgentSt_inv h
  have hd2 : Inv d2 := inv_ite (enterService_inv hd1) (setBit_inv (sr_inv hd1))
  have hd3 : Inv d3 := inv_ite (endAttn_inv hd2) hd2
  exact syncPool_inv hd3.elsewhere

theorem retireCore_inv {n : Nat} (h : Inv d) : Inv (d.retireCore n) :=
  syncPool_inv (patSet_inv (patEvent_inv (setAgentSt_inv (setBit_inv (setBit_inv (sr_inv h))))))

theorem promote_inv {id pos : Nat} {a : Agent} (h : Inv d) : Inv (promote d id pos a) := by
  unfold promote
  split
  · extract_lets _
    exact inv_ite (answered_inv (syncPool_inv (note_inv (regrant_inv (enterService_inv h)))))
      (inv_ite (answered_inv (syncPool_inv (regrant_inv (enterService_inv h)))) (answered_inv h))
  · exact answered_inv h

theorem execPromote_inv {core : Fin 64} {plan position : Nat} {s : State} (h : Inv s.chip) : OutInv (execPromote core plan position s) :=
  on_inv (promote_inv h)

theorem execSelftest_inv {core : Fin 64} {s : State} (h : Inv s.chip) : OutInv (execSelftest core s) :=
  on_inv (inv_ite (answered_inv (sr_inv h)) (answered_inv h))

theorem execSelftestComplete_inv {core : Fin 64} {pass : Bool} {s : State} (h : Inv s.chip) : OutInv (execSelftestComplete core pass s) :=
  on_inv (inv_ite (sr_inv h) h)

theorem execRetire_inv {core : Fin 64} {s : State} (h : Inv s.chip) : OutInv (execRetire core s) :=
  on_inv (inv_ite (answered_inv (retireCore_inv h)) (answered_inv h))

theorem fenceCore_inv {n : Nat} (h : Inv d) : Inv (d.fenceCore n) := inv_ite (beginFence_inv h) h

theorem operandBufferCrc_inv {n line unit : Nat} (h : Inv d) : Inv (operandBufferCrc d n line unit) := by
  unfold operandBufferCrc
  extract_lets d1 _ _ _ _ d2
  have hd1 : Inv d1 := fault_inv (count_inv h)
  have hd2 : Inv d2 := hd1.elsewhere
  exact inv_ite (fenceCore_inv (fault_inv hd2)) hd2

theorem execOperandBufferCrc_inv {core : Fin 64} {line : Fin 16384 × Fin 4} {s : State} (h : Inv s.chip) :
    OutInv (execOperandBufferCrc core line s) :=
  on_inv (operandBufferCrc_inv h)

theorem execWcUnitParity_inv {core : Fin 64} {s : State} (h : Inv s.chip) : OutInv (execWcUnitParity core s) := on_inv (fenceCore_inv (fault_inv h))

theorem execWcQueueParity_inv {core : Fin 64} {s : State} (h : Inv s.chip) : OutInv (execWcQueueParity core s) := on_inv (fenceCore_inv (fault_inv h))

theorem execWcItemHang_inv {core : Fin 64} {unit : Fin 4} {s : State} (h : Inv s.chip) : OutInv (execWcItemHang core unit s) :=
  on_inv (inv_ite h (fenceCore_inv (fault_inv h)))

theorem execWcNocCredit_inv {core : Fin 64} {s : State} (h : Inv s.chip) : OutInv (execWcNocCredit core s) := on_inv (fenceCore_inv (fault_inv h))

theorem execWcGateFail_inv {core : Fin 64} {s : State} (h : Inv s.chip) : OutInv (execWcGateFail core s) := on_inv (fenceCore_inv (fault_inv h))

/-! ### Groups and persistent slots -/

theorem setGroup_inv {x : Desc} (h : Inv d) : Inv (setGroup x d) := h.elsewhere

theorem groupSet_inv {src : Submit} {record : Nat} (h : Inv d) : Inv (groupSet d src record) := by
  unfold groupSet
  refine withRecord_inv h ?_
  intro e h1
  extract_lets _
  refine groupServed_inv h1 ?_
  intro x0
  extract_lets d1
  have hd1 : Inv d1 := acceptCmd_inv _ _ _ _ _ _ _ h1
  exact inv_ite (refuse_inv h1) (inv_ite (refuse_inv h1) (finishWith_inv hd1 (fun _ h2 => setGroup_inv h2)))

theorem execGroupSet_inv {src : Submit} {record : Nat} {s : State} (h : Inv s.chip) : OutInv (execGroupSet src record s) :=
  on_inv (inv_ite h (submit_inv _ _ _ _ _ _ (fun _ h1 => groupSet_inv h1) h))

theorem clearGroup_inv {g : Nat} (h : Inv d) : Inv (clearGroup g d) := h.elsewhere

theorem groupClear_inv {src : Submit} {g : Nat} (h : Inv d) : Inv (groupClear d src g) := by
  unfold groupClear
  refine groupServed_inv h ?_
  intro x0
  extract_lets d1
  have hd1 : Inv d1 := acceptCmd_inv _ _ _ _ _ _ _ h
  exact inv_ite (refuse_inv h) (inv_ite (refuse_inv h) (finishWith_inv hd1 (fun _ h1 => clearGroup_inv h1)))

theorem execGroupClear_inv {src : Submit} {group : Nat} {s : State} (h : Inv s.chip) : OutInv (execGroupClear src group s) :=
  on_inv (inv_ite h (submit_inv _ _ _ _ _ _ (fun _ h1 => groupClear_inv h1) h))

theorem slotArm_inv {src : Submit} {x : Desc} (h : Inv d) : Inv (slotArm d src x) := by
  unfold slotArm
  refine inv_ite (refuse_inv h) ?_
  split
  · exact refuse_inv h
  · extract_lets d1
    have hd1 : Inv d1 := acceptCmd_inv _ _ _ _ _ _ _ h
    exact setSlot_inv hd1

theorem execSlotArm_inv {src : Submit} {x : Desc} {s : State} (h : Inv s.chip) : OutInv (execSlotArm src x s) :=
  on_inv (served_inv h (fun _ h1 => submit_inv _ _ _ _ _ _ (fun _ h2 => slotArm_inv h2) h1))

theorem slotDisarm_inv {src : Submit} {k : Nat} (h : Inv d) : Inv (slotDisarm d src k) :=
  inv_ite (refuse_inv h) (setSlot_inv (acceptCmd_inv _ _ _ _ _ _ _ h))

theorem execSlotDisarm_inv {src : Submit} {slot : Nat} {s : State} (h : Inv s.chip) : OutInv (execSlotDisarm src slot s) :=
  on_inv (served_inv h (fun _ h1 => submit_inv _ _ _ _ _ _ (fun _ h2 => slotDisarm_inv h2) h1))

theorem slotTick_inv (h : Inv d) : Inv (d.slotTick) := by
  unfold Chip.slotTick
  refine inv_foldl ?_ h
  intro d1 x h1
  extract_lets _ _
  split
  · exact h1
  · exact inv_ite h1 (inv_ite (endItem_inv (setSlot_inv h1)) (endItem_inv (endAttn_inv (setSlot_inv h1))))

theorem firingRun_inv {k : Nat} {f : Firing} (h : Inv d) : Inv (d.firingRun k f) := by
  unfold Chip.firingRun
  extract_lets _ _ _
  split
  · exact h
  · extract_lets r _ d1
    have hr : Inv r.1 := by
      unfold r
      refine inv_foldl_fst ?_ (inv_ite (charge_inv h) h)
      intro p x h1
      extract_lets _
      exact inv_foldl (fun _ _ h2 => writeRange_inv h2) (takeFree_inv h1)
    have hd1 : Inv d1 := updItem_inv hr (fun _ => ⟨rfl, rfl⟩)
    exact inv_ite h (setSlot_inv hd1)

theorem slotRun_inv {k : Nat} (h : Inv d) : Inv (d.slotRun k) := inv_foldl (fun _ _ h1 => firingRun_inv h1) h

theorem newFiring_inv {k port : Nat} (h : Inv d) : Inv (d.newFiring k port) :=
  arise_inv _ _ (takeFree_inv (inv_ite (updPlan_inv (count_inv (setSlot_inv h))) (setSlot_inv h)))

theorem slotTrigger_inv {k port arg : Nat} (h : Inv d) : Inv (slotTrigger d k port arg) := by
  unfold slotTrigger
  extract_lets _ _
  exact inv_ite (pace_inv (setSlot_inv h)) (inv_ite (pace_inv (fault_inv (setSlot_inv h))) (inv_ite (setSlot_inv h) (slotRun_inv (newFiring_inv h))))

theorem trigger_inv {port line arg : Nat} (h : Inv d) : Inv (trigger d port line arg) := by
  unfold trigger
  split
  · exact slotTrigger_inv h
  · exact inv_ite h (count_inv h)

theorem execTrigger_inv {port : Fin 8} {line : Fin 64} {arg : BitVec 8} {s : State} (h : Inv s.chip) : OutInv (execTrigger port line arg s) :=
  on_inv (trigger_inv h)

theorem countRepeat_inv {held : Nat} (h : Inv d) : Inv (d.countRepeat held) := inv_ite h (count_inv h)

theorem orphan_inv {stream : Nat} (h : Inv d) : Inv (d.orphan stream) := fault_inv (count_inv h)

theorem slotStream_inv {k port ofs : Nat} {data : List Nat} {poison : Bool} (h : Inv d) : Inv (slotStream d k port ofs data poison) := by
  unfold slotStream
  extract_lets _ _ _
  refine inv_ite (orphan_inv h) (inv_ite h ?_)
  split
  · exact inv_ite (count_inv h) (orphan_inv h)
  · extract_lets _ d1 _
    have hd1 : Inv d1 := countRepeat_inv h
    exact inv_ite (count_inv h) (slotRun_inv (setSlot_inv hd1))

theorem arriveStream_inv {stream member ofs : Nat} {data : List Nat} {poison : Bool} (h : Inv d) :
    Inv (arriveStream d stream member ofs data poison) := by
  unfold arriveStream
  split
  · exact inv_ite (count_inv h) (orphan_inv h)
  · extract_lets _ _ _ d1 _
    have hd1 : Inv d1 := countRepeat_inv h
    exact inv_ite (count_inv h) (arriveDone_inv hd1.elsewhere)

theorem streamWrite_inv {member stream offset : Nat} {bs : List Nat} {poison : Bool} (h : Inv d) :
    Inv (d.streamWrite member stream offset bs poison) :=
  inv_ite (slotStream_inv h) (arriveStream_inv h)

theorem firingComplete_inv {k n latency : Nat} (h : Inv d) : Inv (firingComplete d k n latency) := by
  unfold firingComplete
  extract_lets _ _
  split
  · extract_lets d1 d2
    have hd1 : Inv d1 := issueCommit_inv h
    have hd2 : Inv d2 := setSlot_inv hd1
    exact inv_ite h (inv_ite (sr_inv (sr_inv hd2)) hd2)
  · exact h

theorem execFiringComplete_inv {slot : Fin 256} {number latency : Nat} {s : State} (h : Inv s.chip) :
    OutInv (execFiringComplete slot number latency s) :=
  on_inv (firingComplete_inv h)

theorem firingWithdraw_inv {k n code : Nat} (h : Inv d) : Inv (d.firingWithdraw k n code) := by
  unfold Chip.firingWithdraw
  split
  · exact withdraw_inv h
  · extract_lets _ d1
    have hd1 : Inv d1 := h.besideItems
    exact firingEnd_inv hd1

theorem firingTimeout_inv {k n : Nat} (h : Inv d) : Inv (firingTimeout d k n) := by
  unfold firingTimeout
  extract_lets _
  split
  · exact h
  · exact inv_ite h (faultSlot_inv (firingWithdraw_inv (fault_inv h)))

theorem execFiringTimeout_inv {slot : Fin 256} {number : Nat} {s : State} (h : Inv s.chip) : OutInv (execFiringTimeout slot number s) :=
  on_inv (firingTimeout_inv h)

theorem firingResend_inv {k n : Nat} (h : Inv d) : Inv (d.firingResend k n) := by
  unfold Chip.firingResend
  extract_lets _
  split
  · exact h
  · extract_lets _ d1 d2
    have hd1 : Inv d1 := setSlot_inv h
    have hd2 : Inv d2 := paceAll_inv (count_inv hd1)
    exact inv_ite h (inv_ite (faultSlot_inv (firingWithdraw_inv (fault_inv h))) (giveBack_inv hd2))

theorem resendWhere_inv {p : SlotRec → Bool} (h : Inv d) : Inv (d.resendWhere p) :=
  inv_foldl (fun _ _ h1 => inv_foldl (fun _ _ h2 => firingResend_inv h2) h1) h

theorem slotAllow_inv {k : Nat} (h : Inv d) : Inv (d.slotAllow k) := inv_ite h (slotRun_inv (setSlot_inv h))

theorem slotForceDisarm_inv {k : Nat} (h : Inv d) : Inv (slotForceDisarm d k) := by
  unfold slotForceDisarm
  extract_lets _ d1 d2 d3 _ d4
  have hd1 : Inv d1 := inv_foldl (fun _ _ h1 => firingWithdraw_inv h1) h
  have hd2 : Inv d2 := inv_ite (withdraw_inv hd1) hd1
  have hd3 : Inv d3 := inv_ite (finish_inv hd2) hd2
  have hd4 : Inv d4 := drainSlots_inv (setSlot_inv hd3)
  exact answered_inv (endAttn_inv hd4)

theorem execSlotForceDisarm_inv {slot : Fin 256} {s : State} (h : Inv s.chip) : OutInv (execSlotForceDisarm slot s) := on_inv (slotForceDisarm_inv h)

/-! ### What the nodes of a collective exchange -/

theorem setCollRun_inv {seq : Nat} {r : CollRun} (h : Inv d) : Inv (d.setCollRun seq r) := h.elsewhere

theorem keepChunk_inv {g : Desc} {seq node ofs : Nat} {data : List PByte} (h : Inv d) : Inv (d.keepChunk g seq node ofs data) :=
  inv_ite h (inv_ite (setCollRun_inv h) (writeRange_inv (setCollRun_inv h)))

theorem keepChunks_inv {g : Desc} {seq node ofs : Nat} {data : List PByte} (h : Inv d) : Inv (d.keepChunks g seq node ofs data) :=
  inv_foldl (fun _ _ h1 => keepChunk_inv h1) h

theorem collSend_inv {g : Desc} {i : Item} {node type rank ofs : Nat} {data : List PByte} (h : Inv d) :
    Inv (d.collSend g i node type rank ofs data) :=
  charge_inv h.elsewhere

theorem collSendAll_inv {g : Desc} {i : Item} {node type rank ofs : Nat} {data : List PByte} (h : Inv d) :
    Inv (d.collSendAll g i node type rank ofs data) :=
  inv_foldl (fun _ _ h1 => collSend_inv h1) h

theorem sendOnce_inv {g : Desc} {i : Item} {mark : Nat} {nodes : List Nat} {ofs : Nat} {data : List PByte} (h : Inv d) :
    Inv (d.sendOnce g i mark nodes ofs data) :=
  inv_ite h (inv_foldl (fun _ _ h1 => collSendAll_inv h1) (setCollRun_inv h))

/-! ### Collective requests -/

theorem rankWrite_inv {x : Desc} {p : Option Nat} {o : List PByte × List PByte × Nat} (h : Inv d) : Inv (d.rankWrite x p o) :=
  inv_ite (writeRange_inv (writeRange_inv h)) (writeRange_inv h)

theorem residWrite_inv {i : Item} {bs : List PByte} (h : Inv d) : Inv (d.residWrite i bs) :=
  inv_ite (writeRange_inv h) (inv_foldl (fun _ _ h1 => writeRange_inv (writePhys_inv h1)) h)

theorem collStart_inv {i : Item} {g : Desc} (h : Inv d) : Inv (d.collStart i g) :=
  inv_ite h (charge_inv (updItem_inv (setCollRun_inv h) (fun _ => ⟨rfl, rfl⟩)))

theorem collBegin_inv {i : Item} {g : Desc} (h : Inv d) : Inv (d.collBegin i g) := by
  unfold Chip.collBegin
  extract_lets _ _ _ d1 _ d2 d3 d4 _
  have hd1 : Inv d1 := inv_ite h (noteRead_inv h)
  have hd2 : Inv d2 := setCollRun_inv (takeFree_inv hd1)
  have hd3 : Inv d3 := inv_foldl (fun _ _ h1 => keepChunks_inv h1) hd2
  have hd4 : Inv d4 := setCollRun_inv h
  exact inv_ite h (inv_ite (inv_ite hd3 (residWrite_inv (keepChunks_inv hd3))) (takeFree_inv (inv_foldl (fun _ _ h1 => keepChunks_inv h1) hd4)))

theorem segUp_inv {i : Item} {g : Desc} {s : Nat} (h : Inv d) : Inv (d.segUp i g s) := by
  unfold Chip.segUp
  extract_lets _ _ _ _ _ _ _
  exact inv_ite h (inv_ite (inv_ite h (keepChunks_inv (setCollRun_inv (takeFree_inv h))))
    (inv_ite h (inv_ite (sendOnce_inv h) (sendOnce_inv (setCollRun_inv (takeFree_inv h))))))

theorem segOn_inv {i : Item} {g : Desc} {s : Nat} (h : Inv d) : Inv (d.segOn i g s) := by
  unfold Chip.segOn
  extract_lets _
  split
  · exact h
  · exact sendOnce_inv h

theorem collFinish_inv {i : Item} {g : Desc} (h : Inv d) : Inv (d.collFinish i g) :=
  updItem_inv (inv_foldl (fun _ _ h1 => rankWrite_inv h1) h) (fun _ => ⟨rfl, rfl⟩)

theorem exchange_inv {i : Item} {g : Desc} (h : Inv d) : Inv (d.exchange i g) := by
  unfold Chip.exchange
  extract_lets _ d1 d2 d3
  have hd1 : Inv d1 := collBegin_inv h
  have hd2 : Inv d2 := inv_ite (inv_foldl (fun _ _ h1 => segUp_inv h1) hd1) hd1
  have hd3 : Inv d3 := inv_foldl (fun _ _ h1 => segOn_inv h1) hd2
  exact inv_ite (collFinish_inv hd3) hd3

theorem receiveTry_inv {i : Item} {g : Desc} (h : Inv d) : Inv (d.receiveTry i g) := by
  unfold Chip.receiveTry
  extract_lets _ _
  split
  · exact h
  · extract_lets _ _ _ _ _
    split
    · exact h
    · extract_lets _ _ d1
      have hd1 : Inv d1 := rankWrite_inv h
      exact updItem_inv hd1 (fun _ => ⟨rfl, rfl⟩)

theorem sendDone_inv {i : Item} {g : Desc} {bad : Bool} (h : Inv d) : Inv (d.sendDone i g bad) := updItem_inv h (fun _ => ⟨rfl, rfl⟩)

theorem deliver_inv {g : Desc} {s r : Item} (h : Inv d) : Inv (d.deliver g s r) := by
  unfold Chip.deliver
  extract_lets _ d1 _ d2 d3 _ d4
  have hd1 : Inv d1 := takeFree_inv (collStart_inv h)
  have hd2 : Inv d2 := setCollRun_inv hd1
  have hd3 : Inv d3 := collStart_inv (sendDone_inv hd2)
  have hd4 : Inv d4 := setCollRun_inv hd3
  exact receiveTry_inv (keepChunks_inv hd4)

theorem sendTry_inv {i : Item} {g : Desc} (h : Inv d) : Inv (d.sendTry i g) := by
  unfold Chip.sendTry
  extract_lets _ _ _
  refine inv_ite (sendDone_inv (collStart_inv h)) (inv_ite ?_ ?_)
  · split
    · exact inv_ite (deliver_inv h) h
    · exact h
  · split
    · exact h
    · extract_lets _ d1 d2 _ d3
      have hd1 : Inv d1 := h.elsewhere
      have hd2 : Inv d2 := takeFree_inv (collStart_inv hd1)
      have hd3 : Inv d3 := setCollRun_inv hd2
      exact sendDone_inv (collSendAll_inv hd3)

theorem receiveGo_inv {i : Item} {g : Desc} (h : Inv d) : Inv (d.receiveGo i g) := by
  unfold Chip.receiveGo
  extract_lets _ _ d1 _
  have hd1 : Inv d1 := collStart_inv h
  refine inv_ite (receiveTry_inv (collStart_inv h)) (inv_ite ?_ (inv_ite (collSend_inv (setCollRun_inv hd1)) (collStart_inv h)))
  split
  · exact deliver_inv h
  · exact h

theorem collTry_inv {seq : Nat} (h : Inv d) : Inv (d.collTry seq) := by
  unfold Chip.collTry
  split
  · exact h
  · split
    · exact h
    · refine inv_ite h (inv_ite (withdraw_inv h) ?_)
      split
      · exact sendTry_inv h
      · exact receiveGo_inv h
      · exact exchange_inv (collStart_inv h)

theorem collsGo_inv (h : Inv d) : Inv (d.collsGo) := inv_foldl (fun _ _ h1 => collTry_inv h1) h

theorem takePart_inv {i : Item} {p : CollPart} (h : Inv d) : Inv (d.takePart i p) := by
  unfold Chip.takePart
  split
  · exact h
  · extract_lets d1 _ d2
    have hd1 : Inv d1 := charge_inv h
    have hd2 : Inv d2 := inv_ite (setCollRun_inv hd1) hd1
    exact collTry_inv (keepChunk_inv hd2)

theorem collTake_inv {p : CollPart} (h : Inv d) : Inv (d.collTake p) := by
  unfold Chip.collTake
  extract_lets _ d1
  have hd1 : Inv d1 := h.elsewhere
  refine inv_ite (inv_foldl (fun _ _ h1 => collTry_inv h1) hd1) ?_
  split
  · exact takePart_inv h
  · exact h.elsewhere

theorem offerEarly_inv {seq : Nat} (h : Inv d) : Inv (d.offerEarly seq) := by
  unfold Chip.offerEarly
  refine inv_foldl ?_ h
  intro d1 x h1
  split
  · exact inv_ite (takePart_inv h1.elsewhere) h1
  · exact h1

theorem collPacket_inv {c : Nat} {p : DvtPkt} (h : Inv d) : Inv (collPacket d c p) := by
  unfold collPacket
  extract_lets _ cur _
  clear_value cur
  split
  · exact count_inv h
  · exact inv_ite (collTake_inv h.elsewhere) h.elsewhere

theorem collAbort_inv {c key tag : Nat} (h : Inv d) : Inv (collAbort d c key tag) := by
  unfold collAbort
  split
  · exact count_inv h
  · extract_lets _ _
    split
    · exact count_inv h.elsewhere
    · exact inv_ite (withdraw_inv h.elsewhere) h.elsewhere

theorem submitColl_inv {src : Submit} {x : Desc} (h : Inv d) : Inv (d.submitColl src x) := by
  unfold Chip.submitColl
  extract_lets _
  refine groupServed_inv h ?_
  intro x0
  split
  · exact refuse_inv h
  · extract_lets d1 _
    have hd1 : Inv d1 := acceptCmd_inv _ _ _ _ _ _ _ h
    exact offerEarly_inv (collTry_inv (setCollRun_inv hd1))

theorem request_inv {src : Submit} {x : Desc} {kind : Nat} (h : Inv d) : Inv (d.request src x kind) :=
  inv_ite (inv_ite h (submit_inv _ _ _ _ _ _ (fun _ h1 => submitColl_inv h1) h)) h

theorem execAllReduce_inv {src : Submit} {x : Desc} {s : State} (h : Inv s.chip) : OutInv (execAllReduce src x s) := on_inv (request_inv h)

theorem execReduceScatter_inv {src : Submit} {x : Desc} {s : State} (h : Inv s.chip) : OutInv (execReduceScatter src x s) := on_inv (request_inv h)

theorem execAllGather_inv {src : Submit} {x : Desc} {s : State} (h : Inv s.chip) : OutInv (execAllGather src x s) := on_inv (request_inv h)

theorem execBroadcast_inv {src : Submit} {x : Desc} {s : State} (h : Inv s.chip) : OutInv (execBroadcast src x s) := on_inv (request_inv h)

theorem execReduce_inv {src : Submit} {x : Desc} {s : State} (h : Inv s.chip) : OutInv (execReduce src x s) := on_inv (request_inv h)

theorem execAllToAll_inv {src : Submit} {x : Desc} {s : State} (h : Inv s.chip) : OutInv (execAllToAll src x s) := on_inv (request_inv h)

theorem execSend_inv {src : Submit} {x : Desc} {s : State} (h : Inv s.chip) : OutInv (execSend src x s) := on_inv (request_inv h)

theorem execReceive_inv {src : Submit} {x : Desc} {s : State} (h : Inv s.chip) : OutInv (execReceive src x s) := on_inv (request_inv h)

theorem execSendMatchTimeout_inv {seq : Nat} {s : State} (h : Inv s.chip) : OutInv (execSendMatchTimeout seq s) := by
  unfold execSendMatchTimeout
  refine on_inv ?_
  split
  · exact inv_ite (withdraw_inv h) h
  · exact h

/-! ### The KV store -/

theorem abandonCompact_inv {counted : Bool} (h : Inv d) : Inv (d.abandonCompact counted) := by
  unfold Chip.abandonCompact
  extract_lets _ d1 d2 _
  have hd1 : Inv d1 := sr_inv h.elsewhere
  have hd2 : Inv d2 := fault_inv (mr_inv hd1)
  refine inv_ite h (inv_ite hd1 (inv_ite hd2 ?_))
  split
  · exact withdraw_inv hd2.elsewhere
  · exact hd2

theorem logCheck_inv (h : Inv d) : Inv (d.logCheck) := inv_ite (abandonCompact_inv h) h

theorem beginCompact_inv {seq : Option Nat} (h : Inv d) : Inv (d.beginCompact seq) := sr_inv (sr_inv h.elsewhere)

theorem kvNext_inv (h : Inv d) : Inv (d.kvNext) := by
  unfold Chip.kvNext
  refine inv_ite h ?_
  split
  · exact beginCompact_inv h.elsewhere
  · exact inv_ite (beginCompact_inv h) h

theorem kvSettle_inv (h : Inv d) : Inv (d.kvSettle) := kvNext_inv (logCheck_inv h)

theorem newRuns_inv {x : Desc} {k l : Nat} {r : Chip} (h : Inv d) (e : d.newRuns x k l = .ok r) : Inv r := by
  induction k generalizing d l with
  | zero => cases e; exact h
  | succ k ih =>
    rw [Chip.newRuns] at e
    split at e
    · cases e
    next e' => exact ih (setDir_inv (newRun_inv h e')) e

theorem openSeq_inv {x : Desc} (h : Inv d) : Inv (openSeq x d) := kvSettle_inv h.elsewhere

theorem seqOpen_inv {src : Submit} {x : Desc} (h : Inv d) : Inv (seqOpen d src x) := by
  unfold seqOpen
  refine inv_ite (refuse_inv h) (inv_ite (refuse_inv h) (inv_ite (refuse_inv h) (inv_ite (refuse_inv h) ?_)))
  split
  · rename_i x1 c e
    exact refuse_inv h
  · rename_i x1 d1 e
    have hd1 : Inv d1 := newRuns_inv h e
    extract_lets d2
    have hd2 : Inv d2 := acceptCmd_inv _ _ _ _ _ _ _ hd1
    exact finishWith_inv hd2 (fun _ h1 => openSeq_inv h1)

theorem execSeqOpen_inv {src : Submit} {x : Desc} {s : State} (h : Inv s.chip) : OutInv (execSeqOpen src x s) :=
  on_inv (submit_inv _ _ _ _ _ _ (fun _ h1 => seqOpen_inv h1) h)

theorem closeSeq_inv {n : Nat} (h : Inv d) : Inv (closeSeq n d) := by
  unfold closeSeq
  split
  · exact h
  · extract_lets d1 d2 _
    have hd1 : Inv d1 := by
      unfold d1
      refine inv_foldl ?_ h
      intro d3 x h1
      extract_lets _
      exact inv_foldl (fun _ _ h2 => dropEntry_inv h2) h1
    have hd2 : Inv d2 := freeSeq_inv hd1
    exact kvSettle_inv hd2.elsewhere

theorem seqClose_inv {src : Submit} {n : Nat} (h : Inv d) : Inv (seqClose d src n) := by
  unfold seqClose
  refine inv_ite (refuse_inv h) ?_
  split
  · exact refuse_inv h
  · extract_lets d1 _ d2
    have hd1 : Inv d1 := acceptCmd_inv _ _ _ _ _ _ _ h
    have hd2 : Inv d2 := hd1.elsewhere
    exact inv_ite (refuse_inv h) (finishWith_inv hd2 (fun _ h1 => closeSeq_inv h1))

theorem execSeqClose_inv {src : Submit} {sid : Nat} {s : State} (h : Inv s.chip) : OutInv (execSeqClose src sid s) :=
  on_inv (submit_inv _ _ _ _ _ _ (fun _ h1 => seqClose_inv h1) h)

theorem growRun_inv {x : Desc} {l n : Nat} {r : Chip} (h : Inv d) (e : d.growRun x l n = .ok r) : Inv r := by
  unfold Chip.growRun at e
  extract_lets f at e
  split at e
  · cases e; exact h
  · split at e
    · cases e
    next e' =>
      cases e
      have hrun := newRun_inv h e'
      exact setDir_inv (dropRun_inv (writeRange_inv (writeRange_inv (noteRead_inv (noteRead_inv
        (inv_foldl (fun _ _ h => inv_ite h (setEnt_inv h)) hrun))))))

theorem storeBlock_inv {p : KvPut} {addr : Nat} (h : Inv d) : Inv (storeBlock p addr d) := by
  generalize hf : storeBlock = f
  delta storeBlock at hf
  subst hf
  beta_reduce
  split
  · exact h
  · exact kvSettle_inv (syncHigh_inv (setEnt_inv (dropEntry_inv h)))

theorem copyBlock_inv {x : Desc} {p : KvPut} {addr : Nat} (h : Inv d) : Inv (copyBlock d x p addr) :=
  inv_ite (writeRange_inv h) (writeRange_inv (writeRange_inv (writeRange_inv h)))

theorem kvPut_inv {src : Submit} {p : KvPut} (h : Inv d) : Inv (kvPut d src p) := by
  unfold kvPut
  refine inv_ite (refuse_inv h) ?_
  split
  · exact refuse_inv h
  · extract_lets x fn
    refine inv_ite (refuse_inv h) (inv_ite (refuse_inv h) (inv_ite (refuse_inv h) (inv_ite (refuse_inv h) (inv_ite (refuse_inv h) ?_))))
    generalize d.findCells (putTier x p.tier) (cellsOf (blockBytes x)) = cell
    rcases cell with _ | ⟨t, u⟩
    · exact refuse_inv h
    · generalize e : d.growRun x p.layer p.block = grown
      rcases grown with c | d1
      · exact refuse_inv h
      · have hd1 : Inv d1 := growRun_inv h e
        have hd2 := noteRead_inv (a := p.src) (n := blockBytes x) (takeCells_inv (pool := tierPool t) (i := u) (n := cellsOf (blockBytes x)) hd1)
        have hd3 := inv_ite (q := p.sumSrc = 0) hd2 (noteRead_inv (a := p.sumSrc) (n := rowElem x + rowScale x) hd2)
        exact kvSettle_inv (finishWith_inv (acceptCmd_inv _ _ _ _ _ _ _ (copyBlock_inv (touchDir_inv hd3))) fun _ h => storeBlock_inv h)

theorem execKvPut_inv {src : Submit} {from_ sumSrc sid layer block tokens tier : Nat} {s : State} (h : Inv s.chip) :
    OutInv (execKvPut src from_ sumSrc sid layer block tokens tier s) :=
  on_inv (submit_inv _ _ _ _ _ _ (fun _ h1 => kvPut_inv h1) h)

theorem dropBlocks_inv {n l lo hi : Nat} (h : Inv d) : Inv (dropBlocks n l lo hi d) := by
  unfold dropBlocks
  split
  · exact h
  · refine inv_foldl ?_ h
    intro d1 x h1
    extract_lets d2 _ d3
    have hd2 : Inv d2 := touchDir_inv h1
    have hd3 : Inv d3 := inv_foldl (fun _ _ h2 => inv_ite (dropEntry_inv h2) h2) hd2
    exact kvSettle_inv (syncHigh_inv hd3)

theorem kvDrop_inv {src : Submit} {n l lo hi : Nat} (h : Inv d) : Inv (kvDrop d src n l lo hi) := by
  unfold kvDrop
  refine inv_ite (refuse_inv h) ?_
  split
  · exact refuse_inv h
  · extract_lets d1
    have hd1 : Inv d1 := acceptCmd_inv _ _ _ _ _ _ _ h
    exact inv_ite (refuse_inv h) (inv_ite (refuse_inv h) (finishWith_inv hd1 (fun _ h1 => dropBlocks_inv h1)))

theorem execKvDrop_inv {src : Submit} {sid layer first last : Nat} {s : State} (h : Inv s.chip) : OutInv (execKvDrop src sid layer first last s) :=
  on_inv (submit_inv _ _ _ _ _ _ (fun _ h1 => kvDrop_inv h1) h)

theorem bindSvc_inv {x : Desc} (h : Inv d) : Inv (bindSvc x d) := setSvc_inv h

theorem svcBind_inv {src : Submit} {record : Nat} (h : Inv d) : Inv (svcBind d src record) := by
  unfold svcBind
  refine withRecord_inv h ?_
  intro e h1
  extract_lets _ d1
  have hd1 : Inv d1 := acceptCmd_inv _ _ _ _ _ _ _ h1
  exact inv_ite (refuse_inv h1) (inv_ite (refuse_inv h1) (inv_ite (refuse_inv h1) (inv_ite (refuse_inv h1)
    (finishWith_inv hd1 (fun _ h2 => bindSvc_inv h2)))))

theorem execSvcBind_inv {src : Submit} {record : Nat} {s : State} (h : Inv s.chip) : OutInv (execSvcBind src record s) :=
  on_inv (submit_inv _ _ _ _ _ _ (fun _ h1 => svcBind_inv h1) h)

theorem svcUnbind_inv {src : Submit} {n : Nat} (h : Inv d) : Inv (svcUnbind d src n) := by
  unfold svcUnbind
  split
  · exact refuse_inv h
  · extract_lets d1 d2 _ _ _ _ d3 d4 d5
    have hd1 : Inv d1 := acceptCmd_inv _ _ _ _ _ _ _ h
    have hd2 : Inv d2 := setSvc_inv hd1
    have hd3 : Inv d3 := hd2.besideItems
    have hd4 : Inv d4 := inv_foldl (fun _ _ h1 => answerQuery_inv (count_inv h1)) hd3
    have hd5 : Inv d5 := inv_foldl (fun _ _ h1 => withdraw_inv h1) hd4
    exact inv_ite (refuse_inv h) (release_inv (drainSvcs_inv hd5))

theorem execSvcUnbind_inv {src : Submit} {service : Nat} {s : State} (h : Inv s.chip) : OutInv (execSvcUnbind src service s) :=
  on_inv (submit_inv _ _ _ _ _ _ (fun _ h1 => svcUnbind_inv h1) h)

theorem Chip_promote_inv {b : BlockId} {tier : Nat} (h : Inv d) : Inv (d.promote b tier) := inv_ite (count_inv h) h.elsewhere

theorem heatUp_inv {s l n : Nat} (h : Inv d) : Inv (d.heatUp s l n) := by
  generalize hf : Chip.heatUp = f
  delta Chip.heatUp at hf
  subst hf
  beta_reduce
  split
  · exact h
  · extract_lets _ _ _ d1 d2
    have hd1 : Inv d1 := setEnt_inv h
    have hd2 : Inv d2 := inv_ite (Chip_promote_inv hd1) hd1
    exact inv_ite (Chip_promote_inv hd2) hd2

theorem coolEntry_inv {s l n : Nat} (h : Inv d) : Inv (d.coolEntry s l n) := by
  generalize hf : Chip.coolEntry = f
  delta Chip.coolEntry at hf
  subst hf
  beta_reduce
  split
  · exact h
  · extract_lets _ _ d1 _ _ down
    have hd1 : Inv d1 := setEnt_inv h
    have hdown (t : Nat) : Inv (down t) := inv_ite (count_inv hd1) hd1.elsewhere
    exact inv_ite h (inv_ite (hdown 1) (inv_ite (hdown 2) hd1))

theorem heatSweep_inv (h : Inv d) : Inv (heatSweep d) := by
  unfold heatSweep
  extract_lets _ d1
  have hd1 : Inv d1 := h.elsewhere
  exact inv_ite h (inv_foldl (fun _ _ h1 => inv_foldl (fun _ _ h2 => inv_foldl (fun _ _ h3 => coolEntry_inv h3) h2) h1) hd1)

theorem execHeatSweep_inv {s : State} (h : Inv s.chip) : OutInv (execHeatSweep s) := on_inv (heatSweep_inv h)

theorem startMove_inv {m : KvMove} (h : Inv d) : Inv (startMove m d) := by
  unfold startMove
  extract_lets _ _
  refine inv_ite (count_inv h) ?_
  split
  · exact fault_inv h
  · extract_lets c _
    have hc : Inv c := takeCells_inv h
    exact hc.elsewhere

theorem blockMove_inv (h : Inv d) : Inv (blockMove d) := by
  unfold blockMove
  split
  · exact h
  · exact inv_ite (startMove_inv h.elsewhere) h

theorem execBlockMove_inv {s : State} (h : Inv s.chip) : OutInv (execBlockMove s) := on_inv (blockMove_inv h)

theorem abandonMove_inv (h : Inv d) : Inv (d.abandonMove) := by
  unfold Chip.abandonMove
  split
  · exact h
  · exact syncFill_inv (freeUnits_inv h.elsewhere)

theorem moveTick_inv (h : Inv d) : Inv (d.moveTick) := h.elsewhere

theorem blockMoveComplete_inv (h : Inv d) : Inv (blockMoveComplete d) := by
  have given : Inv (d.abandonMove.count Reg.KVA_MOVE_DROPS.COUNT) := count_inv (abandonMove_inv h)
  generalize hf : blockMoveComplete = f
  delta blockMoveComplete at hf
  subst hf
  beta_reduce
  obtain ⟨entry, hentry⟩ : ∃ e, e = d.entIndex := ⟨_, rfl⟩
  obtain ⟨record, hrecord⟩ : ∃ r, r = d.seqRec := ⟨_, rfl⟩
  rw [← hentry, ← hrecord]
  split
  · exact h
  · split
    · refine inv_ite h (inv_ite ?_ given)
      exact inv_ite (fault_inv (abandonMove_inv h.elsewhere))
        (kvSettle_inv (count_inv (Inv.elsewhere (reclaimCells_inv (setEnt_inv (writeRange_inv (noteRead_inv h.elsewhere)))))))
    · exact given

theorem execBlockMoveComplete_inv {s : State} (h : Inv s.chip) : OutInv (execBlockMoveComplete s) := on_inv (blockMoveComplete_inv h)

theorem execMovePause_inv {s : State} (h : Inv s.chip) : OutInv (execMovePause s) := on_inv (answered_inv h.elsewhere)

theorem execMoveResume_inv {s : State} (h : Inv s.chip) : OutInv (execMoveResume s) := on_inv (answered_inv h.elsewhere)

theorem mapCompact_inv {src : Submit} (h : Inv d) : Inv (mapCompact d src) := by
  unfold mapCompact
  extract_lets d1 _
  have hd1 : Inv d1 := acceptCmd_inv _ _ _ _ _ _ _ h
  exact inv_ite (beginCompact_inv hd1) (oweMore_inv hd1.elsewhere)

theorem execMapCompact_inv {src : Submit} {s : State} (h : Inv s.chip) : OutInv (execMapCompact src s) :=
  on_inv (submit_inv _ _ _ _ _ _ (fun _ h1 => mapCompact_inv h1) h)

theorem packRuns_inv (h : Inv d) : Inv (d.packRuns).1 := inv_foldl_fst (fun _ _ h1 => setDir_inv (inv_foldl (fun _ _ h2 => setEnt_inv h2) h1)) h

theorem clearInactive_inv (h : Inv d) : Inv (d.clearInactive) := zeroRange_inv h

theorem execCompactionCopyDone_inv {s : State} (h : Inv s.chip) : OutInv (execCompactionCopyDone s) :=
  on_inv (inv_ite (sr_inv (packRuns_inv (clearInactive_inv h))) h)

theorem execCompactionDrainDone_inv {s : State} (h : Inv s.chip) : OutInv (execCompactionDrainDone s) := on_inv (inv_ite (sr_inv h.elsewhere) h)

theorem compactionSwitch_inv (h : Inv d) : Inv (compactionSwitch d) := by
  unfold compactionSwitch
  refine inv_ite h ?_
  extract_lets +onlyGivenNames p d1 seq
  have hp : Inv p.1 := packRuns_inv (clearInactive_inv h)
  have hd1 : Inv d1 := sr_inv (sr_inv hp)
  clear_value seq d1
  cases seq with
  | none => exact count_inv (syncMap_inv hd1.elsewhere)
  | some s => exact finish_inv (count_inv (syncMap_inv hd1.elsewhere))

theorem execCompactionSwitchDone_inv {s : State} (h : Inv s.chip) : OutInv (execCompactionSwitchDone s) := on_inv (compactionSwitch_inv h)

theorem execCompactAbandon_inv {s : State} (h : Inv s.chip) : OutInv (execCompactAbandon s) :=
  on_inv (inv_ite (answered_inv h) (answered_inv (kvNext_inv (abandonCompact_inv h))))

theorem execCompactionRestart_inv {s : State} (h : Inv s.chip) : OutInv (execCompactionRestart s) := by
  unfold execCompactionRestart
  refine on_inv ?_
  split
  · exact inv_ite (sr_inv h.elsewhere) h
  · exact h

theorem kvPublish_inv {low : Nat} (h : Inv d) : Inv (d.kvPublish low) := by
  unfold Chip.kvPublish
  extract_lets _ _ _ d1 d2 d3
  have hd1 : Inv d1 := h.elsewhere
  have hd2 : Inv d2 := syncMap_inv (syncFill_inv (inv_foldl (fun _ _ h1 => freeUnits_inv h1) hd1))
  have hd3 : Inv d3 := inv_ite (sr_inv hd2) hd2
  exact kvNext_inv hd3

/-! ### Attention queries -/

theorem execAttnPartial_inv {seq : Nat} {core : Fin 64} {s : State} (h : Inv s.chip) : OutInv (execAttnPartial seq core s) := on_inv (runWork_inv h)

theorem writeResult_inv {i : Item} {port : Nat} {ps : List PartOut} {size code : Nat} {tail : List Nat} (h : Inv d) :
    Inv (d.writeResult i port ps size code tail) :=
  wr_inv (inv_foldl (fun _ _ h1 => writeRange_inv h1) h)

theorem queryReads_inv {x q : Desc} {qa : Nat} (h : Inv d) : Inv (d.queryReads x q qa) := by
  unfold Chip.queryReads
  extract_lets _ d1 d2 _
  have hd1 : Inv d1 := noteRead_inv h
  have hd2 : Inv d2 := inv_ite hd1 (noteRead_inv (noteRead_inv hd1))
  exact inv_foldl (fun _ _ h1 => noteRead_inv h1) hd2

theorem queryRun_inv {i : Item} {v q : Desc} {port entry : Nat} (h : Inv d) : Inv (d.queryRun i v q port entry) := by
  unfold Chip.queryRun
  extract_lets _ _ d1 _ _ _ _ _ _ _ _ _ _ _ _ d2 d3 d4 d5 d6 _ d7
  have hd1 : Inv d1 := queryReads_inv h
  have hd2 : Inv d2 := inv_ite (fault_inv hd1) (touchDir_inv hd1)
  have hd3 : Inv d3 := by
    unfold d3
    refine inv_foldl ?_ hd2
    intro d8 x1 h1
    split
    · extract_lets _
      exact setEnt_inv h1
    · exact h1
  have hd4 : Inv d4 := inv_ite hd3 (kvSettle_inv (syncHigh_inv hd3))
  have hd5 : Inv d5 := inv_foldl (fun _ _ h1 => heatUp_inv h1) hd4
  have hd6 : Inv d6 := writeResult_inv (takeFree_inv hd5)
  have hd7 : Inv d7 := hd6.elsewhere
  exact charge_inv (updItem_inv hd7 (fun _ => ⟨rfl, rfl⟩))

theorem queryStart_inv {seq : Nat} (h : Inv d) : Inv (d.queryStart seq) := by
  unfold Chip.queryStart
  split
  · exact h
  · split
    · refine inv_ite h ?_
      split
      · exact queryRun_inv h
      · exact h
    · exact h

theorem queryRefuse_inv {n port entry : Nat} {x : Desc} {code : Nat} {poison : Bool} (h : Inv d) : Inv (d.queryRefuse n port entry x code poison) :=
  answerQuery_inv (count_inv (inv_ite (wr_inv h) h))

theorem queryTake_inv {n port entry : Nat} (h : Inv d) : Inv (d.queryTake n port entry) := by
  unfold Chip.queryTake
  split
  · exact h
  · extract_lets _ d1 _ _ d2 d3
    have hd1 : Inv d1 := noteRead_inv h
    have hd2 : Inv d2 := setSvc_inv hd1
    have hd3 : Inv d3 := arise_inv _ _ hd2
    split
    · exact queryRefuse_inv hd2
    · exact queryStart_inv hd3

theorem queriesTake_inv {n : Nat} (h : Inv d) : Inv (d.queriesTake n) := by
  unfold Chip.queriesTake
  split
  · exact h
  · exact inv_ite (inv_foldl (fun _ _ h1 => queryTake_inv h1) h) h

theorem query_inv {port line arg : Nat} (h : Inv d) : Inv (query d port line arg) := by
  unfold query
  split
  · exact inv_ite h (count_inv h)
  · exact inv_ite (fault_inv (count_inv h)) (inv_ite (pace_inv (count_inv h)) (queriesTake_inv (setSvc_inv h)))

theorem execQuery_inv {port : Fin 8} {line : Fin 64} {arg : BitVec 8} {s : State} (h : Inv s.chip) : OutInv (execQuery port line arg s) :=
  on_inv (query_inv h)

/-! ### Ports -/

theorem setPort_inv {p : Nat} {x : LinkPort} (h : Inv d) : Inv (d.setPort p x) := h.elsewhere

theorem drainPort_inv {p : Nat} (h : Inv d) : Inv (d.drainPort p) := inv_ite h (setPort_inv h)

theorem sendFrame_inv {p type ctx : Nat} {flit : List Nat} {sym : Nat × Nat × Nat} (h : Inv d) : Inv (d.sendFrame p type ctx flit sym) :=
  inv_ite (drainPort_inv (setPort_inv h)) (inv_ite (setPort_inv h) h)

theorem sendLink_inv {p op arg : Nat} (h : Inv d) : Inv (d.sendLink p op arg) := sendFrame_inv h

theorem portDown_inv {p : Nat} (h : Inv d) : Inv (d.portDown p) := by
  unfold Chip.portDown
  extract_lets d1 d2 _ d3 _ d4 d5
  have hd1 : Inv d1 := sr_inv h
  have hd2 : Inv d2 := sr_inv hd1
  have hd3 : Inv d3 := setPort_inv hd2
  have hd4 : Inv d4 := hd3.elsewhere
  have hd5 : Inv d5 := raiseAttn_inv (fault_inv hd4)
  exact inv_foldl (fun _ _ h1 => withdraw_inv h1) hd5

theorem retrain_inv {p : Nat} (h : Inv d) : Inv (d.retrain p) := fault_inv (count_inv (sr_inv h))

theorem resend_inv {p : Nat} (h : Inv d) : Inv (d.resend p) :=
  inv_ite h (inv_ite (retrain_inv (count_inv (setPort_inv h))) (count_inv (setPort_inv h)))

/-! ### DMA engines (chapter 14) -/

theorem setRun_inv {seq : Nat} {r : DmaRun} (h : Inv d) : Inv (d.setRun seq r) := h.elsewhere

theorem dmaCopy_inv {x : Desc} {ofs n : Nat} {r : Chip × Bool} (h : Inv d) (e : d.dmaCopy x ofs n = some r) : Inv r.1 := by
  unfold Chip.dmaCopy at e
  extract_lets a b d1 bs lost at e
  split at e
  · cases e; exact h
  · split at e
    · cases e
    · cases e; exact writeRange_inv (noteRead_inv h)

theorem dmaMoved_inv {c n : Nat} (h : Inv d) : Inv (d.dmaMoved c n) := mr_inv h.elsewhere

theorem dmaReadback_inv {i : Item} {r : DmaRun} (h : Inv d) : Inv (d.dmaReadback i r) :=
  inv_ite (issueRead_inv (count_inv (setRun_inv h))) (count_inv (setRun_inv h))

theorem dmaGoAux_inv {k c : Nat} (h : Inv d) : Inv (Chip.dmaGoAux k d c) := by
  induction k generalizing d with
  | zero => exact h
  | succ k ih =>
    unfold Chip.dmaGoAux
    refine inv_ite h ?_
    split
    · exact h
    · extract_lets r x earlier d1 fresh d2 r' n cr d3
      have hd1 : Inv d1 := updItem_inv h (fun _ => ⟨rfl, rfl⟩)
      have hd2 : Inv d2 := inv_ite (hostReads_inv hd1) hd1
      have hd3 : Inv d3 := sr_inv (sr_inv hd2)
      refine inv_ite h (inv_ite ?_ (inv_ite hd2 (inv_ite (sr_inv (setRun_inv hd2)) (inv_ite (setRun_inv hd3) (sr_inv (setRun_inv hd2))))))
      split
      · exact ih (withdraw_inv hd2)
      next e =>
        extract_lets d4 r2
        have hd4 : Inv d4 := sr_inv (dmaMoved_inv (dmaCopy_inv hd2 e))
        exact inv_ite (setRun_inv hd4) (ih (dmaReadback_inv hd4))

theorem dmaGo_inv {c : Nat} (h : Inv d) : Inv (d.dmaGo c) := dmaGoAux_inv h

theorem dmaXfer_inv {src : Submit} {x : Desc} (h : Inv d) : Inv (dmaXfer d src x) := by
  unfold dmaXfer
  extract_lets _ _ _ d1 _ d2
  have hd1 : Inv d1 := count_inv (acceptCmd_inv _ _ _ _ _ _ _ h)
  have hd2 : Inv d2 := mr_inv (setRun_inv hd1)
  exact inv_ite (refuse_inv h) (inv_ite (refuse_inv h) (inv_ite (refuse_inv h) (inv_ite (refuse_inv h) (inv_ite (finish_inv hd2) (dmaGo_inv hd2)))))

theorem execDmaXfer_inv {src : Submit} {x : Desc} {s : State} (h : Inv s.chip) : OutInv (execDmaXfer src x s) :=
  on_inv (inv_ite h (submit_inv _ _ _ _ _ _ (fun _ h1 => dmaXfer_inv h1) h))

theorem chanEnable_inv {c : Nat} (h : Inv d) : Inv (d.chanEnable c) := inv_ite h (inv_ite (sr_inv h) (sr_inv (sr_inv (sr_inv (sr_inv (sr_inv h))))))

theorem execDmaChanEnable_inv {c : Fin 32} {s : State} (h : Inv s.chip) : OutInv (execDmaChanEnable c s) := on_inv (chanEnable_inv h)

theorem chanDrop_inv {c : Nat} (h : Inv d) : Inv (d.chanDrop c) := by
  unfold Chip.chanDrop
  extract_lets _ d1 d2
  have hd1 : Inv d1 := inv_foldl (fun _ _ h1 => withdraw_inv (count_inv (setRun_inv h1))) h
  have hd2 : Inv d2 := sr_inv (sr_inv hd1)
  exact inv_ite h (sr_inv (sr_inv (takeFree_inv hd2)))

theorem execDmaChanDisable_inv {c : Fin 32} {s : State} (h : Inv s.chip) : OutInv (execDmaChanDisable c s) := on_inv (chanDrop_inv h)

theorem execChanDrop_inv {c : Fin 32} {s : State} (h : Inv s.chip) : OutInv (execChanDrop c s) := on_inv (answered_inv (chanDrop_inv h))

theorem dmaPace_inv {c : Nat} (h : Inv d) : Inv (d.dmaPace c) := inv_ite h (inv_ite (fault_inv (count_inv h)) (dmaGo_inv (sr_inv h)))

theorem execDmaPaceRequest_inv {c : Fin 32} {s : State} (h : Inv s.chip) : OutInv (execDmaPaceRequest c s) :=
  on_inv (inv_ite h (dmaPace_inv (wake_inv h)))

theorem burstIssued_inv {c : Nat} (h : Inv d) : Inv (burstIssued d c) := by
  unfold burstIssued
  split
  · exact h
  · refine inv_ite h ?_
    split
    · exact dmaGo_inv (withdraw_inv h)
    · next e poison hc =>
      have he : Inv e := dmaCopy_inv h hc
      refine inv_ite (setRun_inv (dmaMoved_inv he)) (inv_ite (dmaGo_inv (dmaReadback_inv ?_)) (dmaGo_inv (setRun_inv ?_)))
      all_goals exact inv_ite (pace_inv (count_inv (dmaMoved_inv he))) (count_inv (dmaMoved_inv he))

theorem execBurstWritesIssued_inv {c : Fin 32} {s : State} (h : Inv s.chip) : OutInv (execBurstWritesIssued c s) := on_inv (burstIssued_inv h)

theorem readBack_inv {seq : Nat} {poison : Bool} (h : Inv d) : Inv (readBack d seq poison) := by
  unfold readBack
  split
  · exact h
  · extract_lets _
    exact inv_ite h (issueCommit_inv h)

theorem execReadBackComplete_inv {seq : Nat} {poison : Bool} {s : State} (h : Inv s.chip) : OutInv (execReadBackComplete seq poison s) :=
  on_inv (readBack_inv h)

theorem paceTimeout_inv {c : Nat} (h : Inv d) : Inv (paceTimeout d c) := by
  unfold paceTimeout
  extract_lets _
  split
  · exact h
  · extract_lets _
    exact inv_ite h (dmaGo_inv (count_inv (withdraw_inv h)))

theorem execDmaPaceTimeout_inv {c : Fin 32} {s : State} (h : Inv s.chip) : OutInv (execDmaPaceTimeout c s) := on_inv (paceTimeout_inv h)

theorem dmaBack_inv (h : Inv d) : Inv (d.dmaBack) := h.elsewhere

theorem dmaFrame_inv (h : Inv d) : Inv (d.dmaFrame) := inv_foldl (fun _ _ h1 => dmaGo_inv h1) h.elsewhere

theorem readFailed_inv {r : HostRead} {code : Nat} (h : Inv d) : Inv (d.readFailed r code) := withdraw_inv (inv_ite (fault_inv h) h)

/-! ### Crash, fence, retirement and restart of an Armature core -/

theorem inboxPut_inv {n : Nat} {x : Desc} {seq ring fn flags : Nat} (h : Inv d) : Inv (d.inboxPut n x seq ring fn flags) := by
  generalize hf : Chip.inboxPut = f
  delta Chip.inboxPut at hf
  subst hf
  beta_reduce
  obtain ⟨entries, hentries⟩ : ∃ l, l = List.range 256 := ⟨_, rfl⟩
  rw [← hentries]
  split
  · exact h
  · exact pend_inv (wr_inv h)

theorem inboxClear_inv {n i : Nat} (h : Inv d) : Inv (d.inboxClear n i) := (wrNum_inv h).elsewhere

theorem coreGiveBack_inv {n : Nat} (h : Inv d) : Inv (d.coreGiveBack n) := mapItems_inv h (fun _ => by split <;> exact ⟨rfl, rfl⟩)

theorem noCores_inv (h : Inv d) : Inv (d.noCores) := inv_ite (inv_foldl (fun _ _ h1 => withdraw_inv h1) h) h

theorem moveInbox_inv {n m : Nat} (h : Inv d) : Inv (d.moveInbox n m) := by
  unfold Chip.moveInbox
  obtain ⟨entries, hentries⟩ : ∃ l, l = List.range 256 := ⟨_, rfl⟩
  rw [← hentries]
  refine inv_foldl (fun e i h1 => ?_) h
  refine inv_ite (inboxClear_inv (inboxPut_inv ?_)) h1
  split
  · exact h1.elsewhere
  · exact h1

/-- The owner fields of the items a retired core held: RETIRE changes nothing else of an item. -/
theorem ownersMoved_inv {g : Item → Nat} {p : Item → Bool} (h : Inv d) :
    Inv { d with
      ldr := { d.ldr with readmit := true }
      led := { d.led with items := d.led.items.map (fun i => if p i then { i with owner := g i } else i) } } :=
  mapItems_inv (h.elsewhere : Inv { d with ldr := { d.ldr with readmit := true } }) (fun _ => by split <;> exact ⟨rfl, rfl⟩)

theorem retireAc_inv {n : Nat} (h : Inv d) : Inv (d.retireAc n) := by
  generalize hf : Chip.retireAc = f
  delta Chip.retireAc at hf
  subst hf
  beta_reduce
  refine noCores_inv (moveInbox_inv (ownersMoved_inv (coreGiveBack_inv (patEvent_inv (raiseAttn_inv ?_)))))
  split
  · exact sr_inv (sr_inv h)
  · exact sr_inv h

theorem crash_inv {n : Nat} (h : Inv d) : Inv (d.crash n) := by
  unfold Chip.crash
  extract_lets d1 d2 d3 _ _ d4 _ d5
  have hd1 : Inv d1 := sr_inv (sr_inv h)
  have hd2 : Inv d2 := mr_inv hd1
  have hd3 : Inv d3 := patCount_inv hd2
  have hd4 : Inv d4 := coreGiveBack_inv (setCore_inv hd3)
  have hd5 : Inv d5 := setCore_inv hd4
  exact inv_ite hd4 (inv_ite (fault_inv hd5) (retireAc_inv hd5))

/-! ### The instruction trace -/

theorem traceBuffer_inv {bs : List Nat} (h : Inv d) : Inv (d.traceBuffer bs) := sr_inv (wr_inv h)

theorem traceWrite_inv {bs : List Nat} (h : Inv d) : Inv (d.traceWrite bs) := by
  unfold Chip.traceWrite
  extract_lets _ d1 d2 _ base2 _ d3 base4 _
  have hd1 : Inv d1 := h.elsewhere
  have hd2 : Inv d2 := wr_inv (traceBuffer_inv hd1)
  have hbase2 : Inv base2 := traceBuffer_inv hd1
  have hd3 : Inv d3 := inv_ite hd1 (count_inv hbase2.elsewhere)
  have hbase4 : Inv base4 := wr_inv hd3
  refine inv_ite h ?_
  split
  · exact count_inv hd2.elsewhere
  · exact inv_ite hbase4.elsewhere hd3
  · exact hd1

theorem obsDrop_inv (h : Inv d) : Inv (d.obsDrop) := h.elsewhere

theorem obsTick_inv (h : Inv d) : Inv (d.obsTick) := inv_ite (count_inv h.elsewhere) h.elsewhere

theorem setTraceFifo_inv {n : Nat} {l : List (List Nat)} (h : Inv d) : Inv (d.setTraceFifo n l) := h.elsewhere

theorem funnelOne_inv (h : Inv d) : Inv (d.funnelOne) := by
  unfold Chip.funnelOne
  split
  · exact h
  · split
    · exact h
    · extract_lets base _
      have hbase : Inv base := setTraceFifo_inv h
      exact traceWrite_inv hbase.elsewhere

theorem funnel_inv {k w : Nat} (h : Inv d) : Inv (d.funnel k w) := by
  induction w with
  | zero => exact h
  | succ w ih =>
    unfold Chip.funnel
    exact inv_ite ih (funnelOne_inv ih)

theorem funnelSome_inv (h : Inv d) : Inv (d.funnelSome) := inv_ite h (takeFree_inv (funnel_inv h))

theorem funnelAll_inv (h : Inv d) : Inv (d.funnelAll) := funnel_inv h

theorem tracePush_inv {n : Nat} {bs : List Nat} (h : Inv d) : Inv (d.tracePush n bs) := inv_ite (setTraceFifo_inv h) h.elsewhere

theorem traceRoom_inv {n : Nat} (h : Inv d) : Inv (d.traceRoom n) :=
  inv_ite h (takeFree_inv (tracePush_inv (fault_inv (count_inv ((tracePush_inv h).elsewhere)))))

theorem traceSend_inv {n : Nat} {bs : List Nat} (h : Inv d) : Inv (d.traceSend n bs) :=
  inv_ite h (inv_ite (obsDrop_inv h.elsewhere) (tracePush_inv (traceRoom_inv h)))

theorem traceOne_inv {n type aux addr : Nat} (h : Inv d) : Inv (d.traceOne n type aux addr) := takeFree_inv (traceSend_inv (setCore_inv h))

theorem traceSync_inv {n : Nat} (h : Inv d) : Inv (d.traceSync n) := traceOne_inv h

theorem traceTrigger_inv {n : Nat} (h : Inv d) : Inv (d.traceTrigger n) :=
  inv_ite h ((sr_inv (sr_inv (takeFree_inv (traceWrite_inv (funnelAll_inv h))))).elsewhere)

theorem traceDue_inv (h : Inv d) : Inv (d.traceDue) := inv_ite (traceTrigger_inv h) h

theorem trace_inv {n type aux addr : Nat} (h : Inv d) : Inv (d.trace n type aux addr) := by
  unfold Chip.trace
  extract_lets d1
  have hd1 : Inv d1 := traceOne_inv (funnelSome_inv (traceDue_inv h))
  exact inv_ite h (inv_ite (traceSync_inv hd1) hd1)

theorem traceRetire_inv {n : Nat} (h : Inv d) : Inv (d.traceRetire n) := inv_ite h (setCore_inv (inv_ite (trace_inv h) h))

/-! ### How an Armature core runs one instruction -/

theorem read1_inv {n : Fin 16} {r : Fin 32} {k : TVal → IOut} (h : Inv d) (hk : ∀ x0, IOutInv (k x0)) : IOutInv (d.read1 n r k) :=
  iOutInv_ite (trap_inv h) (hk _)

theorem read2_inv {n : Fin 16} {r1 r2 : Fin 32} {k : TVal → TVal → IOut} (h : Inv d) (hk : ∀ x0 x1, IOutInv (k x0 x1)) :
    IOutInv (d.read2 n r1 r2 k) :=
  read1_inv h (fun _ => read1_inv h (fun _ => hk _ _))

theorem typed1_inv {n : Fin 16} {r : Fin 32} {ts : List Tag} {k : TVal → IOut} (h : Inv d) (hk : ∀ x0, IOutInv (k x0)) :
    IOutInv (d.typed1 n r ts k) :=
  read1_inv h (fun _ => iOutInv_ite (hk _) (trap_inv h))

theorem typed2_inv {n : Fin 16} {r1 r2 : Fin 32} {rule : Tag → Tag → Option Tag} {k : Word → Word → Tag → IOut} (h : Inv d)
    (hk : ∀ x0 x1 x2, IOutInv (k x0 x1 x2)) : IOutInv (d.typed2 n r1 r2 rule k) := by
  unfold Chip.typed2
  refine read2_inv h ?_
  intro x0 x1
  split
  · exact hk _ _ _
  · exact trap_inv h

theorem thenCore_inv {n : Fin 16} {f : ArmCore → ArmCore} (h : Inv d) : IOutInv (d.thenCore n f) := next_inv (setCore_inv h)

theorem writes_inv {n : Fin 16} {rd : Fin 32} {v : Word} {t : Tag} (h : Inv d) : IOutInv (d.writes n rd v t) := thenCore_inv h

theorem armTrap_inv {n : Fin 16} {code tval : Nat} {poison deferred intr : Bool} (h : Inv d) : Inv (d.armTrap n code tval poison deferred intr) :=
  inv_ite (fault_inv (crash_inv h)) (trace_inv (setCore_inv h))

theorem bpHit_inv {n : Nat} {is : List Nat} (h : Inv d) : Inv (d.bpHit n is).1 := by
  unfold Chip.bpHit
  refine inv_foldl_fst ?_ h
  intro p x h1
  extract_lets d1
  have hd1 : Inv d1 := mr_inv h1
  split
  · exact count_inv hd1
  · exact hd1

theorem breaks_inv {n : Fin 16} {as : List (Nat × Nat)} {k : Chip → IOut} (h : Inv d) (hk : ∀ e, Inv e → IOutInv (k e)) :
    IOutInv (d.breaks n as k) := by
  unfold Chip.breaks
  split
  · rename_i x d1 acts e
    have hd1 : Inv d1 := (bpHit_inv h).of_fst e
    exact iOutInv_ite (halt_inv hd1) (iOutInv_ite (trap_inv hd1) (hk _ (inv_ite (traceTrigger_inv hd1) hd1)))

theorem debugHalt_inv {n : Nat} (h : Inv d) : Inv (d.debugHalt n) := trace_inv (sr_inv (sr_inv (sr_inv h.elsewhere)))

theorem stepOver_inv {n : Nat} (h : Inv d) : Inv (d.stepOver n) := inv_ite (debugHalt_inv (setCore_inv h)) h

theorem retire_inv {n : Fin 16} {old : List InFlight} {wrote : List (Fin 32)} {pc : Nat} (h : Inv d) : Inv (d.retire n old wrote pc) :=
  stepOver_inv (traceRetire_inv (setCore_inv h))

theorem settleInsn_inv {n : Fin 16} {old : List InFlight} {wrote : List (Fin 32)} {kind : Nat} {o : IOut} (h : Inv d) (ho : IOutInv o) :
    Inv (d.settleInsn n old wrote kind o) := by
  cases o with
  | next d' => exact charge_inv (retire_inv ho)
  | jump d' t => exact trace_inv (charge_inv (retire_inv ho))
  | trap d' code tval poison => exact stepOver_inv (armTrap_inv ho)
  | halt d' => exact debugHalt_inv ho
  | stall => exact h

theorem insn_inv {n : Fin 16} {wrote : List (Fin 32)} {body : Chip → IOut} {kind : Nat} (h : Inv d) (hbody : ∀ e, Inv e → IOutInv (body e)) :
    Inv (d.insn n wrote body kind) := by
  unfold Chip.insn
  extract_lets _ _ d1
  have hd1 : Inv d1 := inv_ite (noteRead_inv h) h
  exact inv_ite h (settleInsn_inv hd1 (iOutInv_ite (trap_inv hd1) (iOutInv_ite (trap_inv hd1) (breaks_inv hd1 (fun _ h1 => hbody _ h1)))))

theorem goto_inv {n : Fin 16} {t : Nat} {k : Chip → Chip} (h : Inv d) (hk : ∀ e, Inv e → Inv (k e)) : IOutInv (d.goto n t k) :=
  iOutInv_ite (trap_inv h) (jump_inv (hk _ h))

theorem illegal_inv {word : Nat} (h : Inv d) : IOutInv (d.illegal word) := trap_inv h

/-! ### Device memory as an Armature core sees it -/

theorem setWordTag_inv {a : Nat} {t : Tag} (h : Inv d) : Inv (d.setWordTag a t) := by
  unfold Chip.setWordTag
  split
  · extract_lets _ _
    exact setCore_inv h
  · exact h

theorem tagInt_inv {a n : Nat} (h : Inv d) : Inv (d.tagInt a n) := inv_ite h (inv_foldl (fun _ _ h1 => setWordTag_inv h1) h)

theorem coreWr_inv {n a : Nat} {bs : List Nat} (h : Inv d) : Inv (d.coreWr n a bs) :=
  inv_ite (setCore_inv (tagInt_inv (wr_inv h))) (tagInt_inv (wr_inv h))

theorem traceData_inv {n : Nat} {store : Bool} {sz a : Nat} (h : Inv d) : Inv (d.traceData n store sz a) := inv_ite (trace_inv h) h

theorem reads_inv {n : Fin 16} {a size : Nat} {k : Chip → List Nat → IOut} (h : Inv d) (hk : ∀ e x1, Inv e → IOutInv (k e x1)) :
    IOutInv (d.reads n a size k) := by
  unfold Chip.reads
  extract_lets d1
  have hd1 : Inv d1 := noteRead_inv h
  exact iOutInv_ite (trap_inv h) (iOutInv_ite (trap_inv h) (iOutInv_ite (trap_inv hd1) (hk _ _ hd1)))

theorem amo_inv {n : Fin 16} {rd rs1 rs2 : Fin 32} {useRd : Bool} {f : Word → Word → Word → Option Word} (h : Inv d) :
    Inv (d.amo n rd rs1 rs2 useRd f) := by
  unfold Chip.amo
  refine insn_inv h ?_
  intro e h1
  refine typed1_inv h1 ?_
  intro x0
  refine typed1_inv h1 ?_
  intro x01
  extract_lets _ go
  have hgo (z : Word) : IOutInv (go z) := by
    unfold go
    refine iOutInv_ite (trap_inv h1) (iOutInv_ite (trap_inv h1) (breaks_inv h1 ?_))
    intro e1 h2
    refine reads_inv h2 ?_
    intro e2 x1 h3
    extract_lets _ d1
    have hd1 : Inv d1 := by
      unfold d1
      split
      · exact coreWr_inv (traceData_inv h3)
      · exact h3
    exact writes_inv (traceData_inv hd1)
  exact iOutInv_ite (typed1_inv h1 (fun _ => hgo _)) (hgo _)

theorem execAmoadd_inv {n : Fin 16} {rd rs1 rs2 : Fin 32} {s : State} (h : Inv s.chip) : OutInv (execAmoadd n rd rs1 rs2 s) := on_inv (amo_inv h)

theorem execAmoswp_inv {n : Fin 16} {rd rs1 rs2 : Fin 32} {s : State} (h : Inv s.chip) : OutInv (execAmoswp n rd rs1 rs2 s) := on_inv (amo_inv h)

theorem execAmocas_inv {n : Fin 16} {rd rs1 rs2 : Fin 32} {s : State} (h : Inv s.chip) : OutInv (execAmocas n rd rs1 rs2 s) := on_inv (amo_inv h)

theorem execMacd_inv {n : Fin 16} {acc mode : Fin 4} {rs1 rs2 : Fin 32} {s : State} (h : Inv s.chip) : OutInv (execMacd n acc mode rs1 rs2 s) := by
  unfold execMacd
  refine on_inv (insn_inv h ?_)
  intro e h1
  extract_lets _
  split
  · refine iOutInv_ite (illegal_inv h1) (iOutInv_ite stall_inv (typed1_inv h1 ?_))
    intro x0
    refine typed1_inv h1 ?_
    intro x01
    extract_lets _ _
    split
    · exact trap_inv h1
    · exact trap_inv h1
    · refine breaks_inv h1 ?_
      intro e1 h2
      extract_lets d1 d2 _ _ _
      have hd1 : Inv d1 := noteRead_inv (noteRead_inv h2)
      have hd2 : Inv d2 := traceData_inv (traceData_inv hd1)
      exact thenCore_inv hd2
  · exact illegal_inv h1

theorem execMacdComplete_inv {n : Fin 16} {s : State} (h : Inv s.chip) : OutInv (execMacdComplete n s) := by
  unfold execMacdComplete
  refine on_inv ?_
  extract_lets _
  split
  · exact h
  · split
    · exact setCore_inv h
    · exact inv_ite h (armTrap_inv (setCore_inv h))

theorem queueDesc_inv {n : Fin 16} {rd : Fin 32} {a target : Nat} {cipher : Bool} {key : Option KeyName} (h : Inv d) :
    IOutInv (d.queueDesc n rd a target cipher key) := by
  unfold Chip.queueDesc
  refine reads_inv h ?_
  intro e x1 h1
  extract_lets _ _
  split
  · exact trap_inv h1
  · exact next_inv (setCore_inv h1)

theorem execWq_inv {n : Fin 16} {rd rs1 rs2 : Fin 32} {s : State} (h : Inv s.chip) : OutInv (execWq n rd rs1 rs2 s) := by
  unfold execWq
  exact on_inv (insn_inv h (fun _ h1 => typed1_inv h1 (fun _ => typed1_inv h1 (fun _ => iOutInv_ite (trap_inv h1) (queueDesc_inv h1)))))

theorem handleOf_inv {n : Fin 16} {r : Fin 32} {k : Nat → Handle → IOut} (h : Inv d) (hk : ∀ x0 x1, IOutInv (k x0 x1)) :
    IOutInv (d.handleOf n r k) := by
  unfold Chip.handleOf
  refine typed1_inv h ?_
  intro x0
  extract_lets _ _
  split
  · exact iOutInv_ite (hk _ _) (trap_inv h)
  · exact trap_inv h

theorem execWseq_inv {n : Fin 16} {rd rs1 : Fin 32} {s : State} (h : Inv s.chip) : OutInv (execWseq n rd rs1 s) := by
  unfold execWseq
  refine on_inv (insn_inv h ?_)
  intro e h1
  refine handleOf_inv h1 ?_
  intro x0 x1
  split
  · exact stall_inv
  · exact writes_inv h1

/-- The answer of WWAIT: its handle's reply, written where the command names a place. -/
theorem wwaitReply_inv {n : Fin 16} {rd : Fin 32} {reply : Option (List Word)} {dst : Option Nat} (h : Inv d) :
    IOutInv (match reply with
      | none => .stall
      | some ws => (match dst with
        | some a => d.coreWr n a (ws.flatMap (fun (w : Word) => leBytes 8 w.toNat))
        | none => d).writes n rd (ws.headD 0) .int) := by
  cases reply with
  | none => exact stall_inv
  | some ws =>
    cases dst with
    | none => exact writes_inv h
    | some a => exact writes_inv (coreWr_inv h)

theorem execWwait_inv {n : Fin 16} {rd rs1 rs2 : Fin 32} {s : State} (h : Inv s.chip) : OutInv (execWwait n rd rs1 rs2 s) := by
  refine on_inv (insn_inv h fun e h1 => handleOf_inv h1 fun _ _ => ?_)
  refine iOutInv_ite (wwaitReply_inv (dst := none) h1) (typed1_inv h1 fun p => iOutInv_ite (trap_inv h1) (iOutInv_ite (trap_inv h1) ?_))
  exact breaks_inv h1 (fun _ h2 => wwaitReply_inv (dst := some _) h2)

theorem execWpoll_inv {n : Fin 16} {rd rs1 : Fin 32} {s : State} (h : Inv s.chip) : OutInv (execWpoll n rd rs1 s) :=
  on_inv (insn_inv h (fun _ h1 => handleOf_inv h1 (fun _ _ => writes_inv h1)))

theorem execWfree_inv {n : Fin 16} {rs1 : Fin 32} {s : State} (h : Inv s.chip) : OutInv (execWfree n rs1 s) :=
  on_inv (insn_inv h (fun _ h1 => handleOf_inv h1 (fun _ _ => iOutInv_ite (trap_inv h1) (thenCore_inv h1))))

theorem execLacc_inv {n : Fin 16} {rd rs1 rs2 : Fin 32} {s : State} (h : Inv s.chip) : OutInv (execLacc n rd rs1 rs2 s) := by
  unfold execLacc
  refine on_inv (insn_inv h ?_)
  intro e h1
  refine typed1_inv h1 ?_
  intro x0
  refine typed1_inv h1 ?_
  intro x01
  refine reads_inv h1 ?_
  intro e1 x1 h2
  extract_lets _ d1 _
  have hd1 : Inv d1 := accept_inv _ _ _ h2
  exact iOutInv_ite stall_inv (thenCore_inv hd1)

theorem laccOf_inv {n : Fin 16} {r : Fin 32} {k : Nat → Nat → IOut} (h : Inv d) (hk : ∀ x0 x1, IOutInv (k x0 x1)) : IOutInv (d.laccOf n r k) := by
  unfold Chip.laccOf
  refine typed1_inv h ?_
  intro x0
  split
  · exact hk _ _
  · exact trap_inv h

theorem lcmt_inv {n : Fin 16} {rd : Fin 32} {seq : Nat} {redo : Option (List Nat)} (h : Inv d) : IOutInv (d.lcmt n rd seq redo) := by
  unfold Chip.lcmt
  split
  · exact stall_inv
  · extract_lets _ d1
    have hd1 : Inv d1 := by
      unfold d1
      split
      · exact updItem_inv h (fun _ => ⟨rfl, rfl⟩)
      · exact h
    exact iOutInv_ite stall_inv (writes_inv (endItem_inv hd1))

theorem execLcmt_inv {n : Fin 16} {rd rs1 rs2 : Fin 32} {s : State} (h : Inv s.chip) : OutInv (execLcmt n rd rs1 rs2 s) := by
  unfold execLcmt
  refine on_inv (insn_inv h ?_)
  intro e h1
  refine laccOf_inv h1 ?_
  intro x0 x1
  extract_lets go
  have hgo (d : Chip) (hd : Inv d) (redo : Option (List Nat)) : IOutInv (go d redo) := by
    unfold go
    exact iOutInv_ite (lcmt_inv hd) (writes_inv hd)
  exact iOutInv_ite (hgo _ h1 _) (typed1_inv h1 (fun _ => reads_inv h1 (fun _ _ h2 => hgo _ h2 _)))

theorem execLwdr_inv {n : Fin 16} {rd rs1 : Fin 32} {s : State} (h : Inv s.chip) : OutInv (execLwdr n rd rs1 s) := by
  unfold execLwdr
  exact on_inv (insn_inv h (fun _ h1 => laccOf_inv h1 (fun _ _ => iOutInv_ite (writes_inv h1) (writes_inv (withdraw_inv h1)))))

/-! ### Signed images in the boot flash -/

theorem flashWrite_inv {dev o : Nat} {bs : List Nat} (h : Inv d) : Inv (d.flashWrite dev o bs) := h.elsewhere

theorem putBootRec_inv {active state : Nat} (h : Inv d) : Inv (d.putBootRec active state) :=
  sr_inv (flashWrite_inv (flashWrite_inv (flashWrite_inv (flashWrite_inv h))))

/-! ### Key slots and derived-key contexts -/

theorem setKslot_inv {k : Nat} {s : KeySlot} (h : Inv d) : Inv (d.setKslot k s) := h.elsewhere

theorem slotCounter_inv {k : Nat} {r : Nat × Chip} (h : Inv d) (e : d.slotCounter k = some r) : Inv r.2 := by
  unfold Chip.slotCounter at e
  split at e
  · cases e
  · split at e
    · cases e
    · cases e
      exact inv_ite (fault_inv (inv_ite (note_inv (setKslot_inv h)) (setKslot_inv h))) (inv_ite (note_inv (setKslot_inv h)) (setKslot_inv h))

theorem ctxCounter_inv {c : Nat} {r : Nat × Chip} (h : Inv d) (e : d.ctxCounter c = some r) : Inv r.2 := by
  unfold Chip.ctxCounter at e
  extract_lets x at e
  split at e
  · cases e
  · cases e
    exact inv_ite (note_inv (inv_ite (patEvent_inv h.elsewhere) h.elsewhere)) (inv_ite (patEvent_inv h.elsewhere) h.elsewhere)

theorem syncDead_inv {p : Nat} (h : Inv d) : Inv (d.syncDead p) :=
  inv_ite (raiseAttn_inv (drainPort_inv (setPort_inv h))) (drainPort_inv (setPort_inv h))

theorem reseed_inv (h : Inv d) : Inv (d.reseed) := count_inv h.elsewhere

theorem random_inv {n : Nat} (h : Inv d) : Inv (d.random n).2 := inv_ite (reseed_inv (takeFree_inv h)) ((takeFree_inv h).elsewhere)

/-! ### Armature firmware (chapter 09) -/

theorem commandDispatch_inv {ring : Nat} {x : Desc} (h : Inv d) : Inv (commandDispatch d ring x) := by
  unfold commandDispatch
  refine inv_ite h ?_
  split
  · exact inboxPut_inv h
  · exact h

theorem execCommandDispatch_inv {ring : Nat} {entry : Desc} {s : State} (h : Inv s.chip) : OutInv (execCommandDispatch ring entry s) :=
  on_inv (commandDispatch_inv h)

theorem armStep_inv {plan step slot : Nat} {x : Desc} (h : Inv d) : Inv (d.armStep plan step slot x) := by
  generalize hf : Chip.armStep = f
  delta Chip.armStep at hf
  subst hf
  beta_reduce
  obtain ⟨entries, hentries⟩ : ∃ l, l = List.range 256 := ⟨_, rfl⟩
  rw [← hentries]
  split
  · exact h
  · extract_lets late e
    have he : Inv e := inv_ite (updPlan_inv h) h
    clear_value e
    split
    · exact updPlan_inv he
    · exact Inv.elsewhere (inboxPut_inv he)

theorem cmdResult_inv {n code : Nat} (h : Inv d) : Inv (d.cmdResult n code) := pend_inv (sr_inv h)

theorem acceptEntry_inv {n i : Nat} (h : Inv d) : Inv (acceptEntry d n i) := by
  generalize hf : acceptEntry = f
  delta acceptEntry at hf
  subst hf
  beta_reduce
  obtain ⟨origin, horigin⟩ : ∃ f, f = Chip.inboxOrigin := ⟨_, rfl⟩
  rw [← horigin]
  split
  · exact cmdResult_inv h
  · split
    exact inv_ite h.elsewhere (cmdResult_inv (sr_inv (wrNum_inv (taken_inv (accept_inv _ _ _ (Inv.elsewhere (dropHand_inv h)))))))

theorem cmdAccept_inv {n : Nat} (h : Inv d) : Inv (cmdAccept d n) := acceptEntry_inv (sr_inv h)

theorem acceptsGo_inv (h : Inv d) : Inv (d.acceptsGo) := inv_foldl (fun _ _ h1 => acceptEntry_inv h1) h

theorem execAccept_inv {n : Fin 16} {s : State} (h : Inv s.chip) : OutInv (execAccept n s) := on_inv (cmdAccept_inv h)

theorem cmdRefuse_inv {n : Nat} (h : Inv d) : Inv (cmdRefuse d n) := by
  generalize hf : cmdRefuse = f
  delta cmdRefuse at hf
  subst hf
  beta_reduce
  obtain ⟨origin, horigin⟩ : ∃ f, f = Chip.inboxOrigin := ⟨_, rfl⟩
  rw [← horigin]
  extract_lets _ _ _ e
  have he : Inv e := sr_inv (sr_inv h)
  clear_value e
  split
  · exact cmdResult_inv he
  · exact cmdResult_inv (drainPlans_inv (inv_ite (coreReply_inv (inboxClear_inv (dropHand_inv he))) (refuse_inv (inboxClear_inv (dropHand_inv he)))))

theorem execRefuse_inv {n : Fin 16} {s : State} (h : Inv s.chip) : OutInv (execRefuse n s) := on_inv (cmdRefuse_inv h)

theorem cmdEnd_inv {n : Nat} (h : Inv d) : Inv (cmdEnd d n) := by
  unfold cmdEnd
  extract_lets _ _ _ _ d1 _ _ d2 _ d3
  have hd1 : Inv d1 := sr_inv (sr_inv h)
  have hd2 : Inv d2 := inv_ite hd1 (updItem_inv hd1 (fun _ => ⟨rfl, rfl⟩))
  have hd3 : Inv d3 := hd2.elsewhere
  split
  · exact cmdResult_inv hd1
  · exact inv_ite (cmdResult_inv hd1) (inv_ite (cmdResult_inv (inboxEnded_inv hd1))
      (inv_ite (cmdResult_inv hd1) (inv_ite (cmdResult_inv (oweMore_inv hd1)) (inv_ite (finish_inv hd3)
        (cmdResult_inv (inboxEnded_inv (endItem_inv hd1)))))))

theorem execEndItem_inv {n : Fin 16} {s : State} (h : Inv s.chip) : OutInv (execEndItem n s) := on_inv (cmdEnd_inv h)

theorem writeMsg_inv {n v : Nat} (h : Inv d) : Inv (writeMsg d n v) := pend_inv (mr_inv h)

theorem execAmtMsg_inv {n : Fin 16} {value : Word} {s : State} (h : Inv s.chip) : OutInv (execAmtMsg n value s) := on_inv (writeMsg_inv h)

theorem pet_inv {n : Nat} (h : Inv d) : Inv (pet d n) := h.elsewhere

theorem execAmtWdogPet_inv {n : Fin 16} {s : State} (h : Inv s.chip) : OutInv (execAmtWdogPet n s) := on_inv (pet_inv h)

theorem execAcWdog_inv {n : Fin 16} {s : State} (h : Inv s.chip) : OutInv (execAcWdog n s) := on_inv (inv_ite h (crash_inv (fault_inv h)))

theorem loadSection_inv {n base : Nat} {x : FwSection} (h : Inv d) : Inv (d.loadSection n base x) := by
  unfold Chip.loadSection
  split
  · extract_lets d1
    have hd1 : Inv d1 := inv_ite h (fault_inv h)
    exact tagInt_inv (wr_inv hd1)

theorem present_inv {n : Nat} {seqs : List Nat} (h : Inv d) : Inv (d.present n seqs) := by
  unfold Chip.present
  refine inv_foldl ?_ h
  intro d1 x h1
  split
  · extract_lets _
    split
    · exact inv_ite h1 (inboxPut_inv h1)
    · exact h1
  · exact h1

theorem coreReload_inv {n base : Nat} (h : Inv d) : Inv (d.coreReload n base) := by
  unfold Chip.coreReload
  extract_lets _ _ _ _ _ base1 _ d1 d2 d3 _ d4 d5 d6
  have hbase1 : Inv base1 := takeFree_inv h
  have hd1 : Inv d1 := setCore_inv hbase1.elsewhere
  have hd2 : Inv d2 := by
    unfold d2
    split
    · exact loadSection_inv hd1
    · exact hd1
  have hd3 : Inv d3 := inv_foldl (fun _ _ h2 => inv_ite h2 (loadSection_inv h2)) hd2
  have hd4 : Inv d4 := wr_inv hd3
  have hd5 : Inv d5 := sr_inv (sr_inv hd4)
  have hd6 : Inv d6 := setAgentRec_inv (sr_inv hd5)
  exact collsGo_inv (present_inv (pet_inv hd6))

theorem execCoreRestartComplete_inv {n : Fin 16} {s : State} (h : Inv s.chip) : OutInv (execCoreRestartComplete n s) :=
  on_inv (inv_ite (coreReload_inv (coreGiveBack_inv h)) h)

theorem execCoreRestart_inv {n : Fin 16} {s : State} (h : Inv s.chip) : OutInv (execCoreRestart n s) :=
  on_inv (inv_ite (answered_inv h) (answered_inv (crash_inv h)))

theorem execCoreRetire_inv {n : Fin 16} {s : State} (h : Inv s.chip) : OutInv (execCoreRetire n s) :=
  on_inv (inv_ite (answered_inv h) (answered_inv (retireAc_inv h)))

theorem nowRunning_inv {hdr : FwHead} {slot source : Nat} {digest : List Nat} (h : Inv d) : Inv (d.nowRunning hdr slot source digest) :=
  (sr_inv (sr_inv (sr_inv (sr_inv h)))).elsewhere

theorem firmwareStart_inv (h : Inv d) : Inv (d.firmwareStart) := by
  unfold Chip.firmwareStart
  extract_lets _ _ _ _
  split
  · exact enterSafe_inv (inv_foldl (fun _ _ h1 => fault_inv h1) h)
  · extract_lets d1 d2 d3 _ _ d4 _ d5 _ d6 d7
    have hd1 : Inv d1 := inv_foldl (fun _ _ h2 => fault_inv h2) h
    have hd2 : Inv d2 := sr_inv hd1
    have hd3 : Inv d3 := inv_ite hd2 (fault_inv (note_inv hd2))
    have hd4 : Inv d4 := sr_inv hd3.elsewhere
    have hd5 : Inv d5 := writeRange_inv hd4
    have hd6 : Inv d6 := nowRunning_inv hd5
    have hd7 : Inv d7 := inv_foldl (fun _ _ h2 => loadSection_inv h2) hd6
    exact inv_foldl (fun _ _ h2 => inv_ite h2 (coreReload_inv h2)) hd7

theorem execFirmwareStart_inv {s : State} (h : Inv s.chip) : OutInv (execFirmwareStart s) := on_inv (inv_ite h (firmwareStart_inv h))

theorem fwDownload_inv {src : Submit} {from_ off len : Nat} (h : Inv d) : Inv (fwDownload d src from_ off len) := by
  unfold fwDownload
  extract_lets d1 d2 _ _ d3
  have hd1 : Inv d1 := acceptCmd_inv _ _ _ _ _ _ _ h
  have hd2 : Inv d2 := noteRead_inv hd1
  have hd3 : Inv d3 := writeRange_inv hd2
  exact inv_ite (refuse_inv h) (inv_ite (refuse_inv h) (inv_ite (refuse_inv h) (finish_inv hd3)))

theorem execFwDownload_inv {src : Submit} {from_ off len : Nat} {s : State} (h : Inv s.chip) : OutInv (execFwDownload src from_ off len s) :=
  on_inv (served_inv h (fun _ h1 => submit_inv _ _ _ _ _ _ (fun _ h2 => fwDownload_inv h2) h1))

theorem slotBit_inv {slot : Nat} {b : Bool} (h : Inv d) : Inv (d.slotBit slot b) := putBootRec_inv h

theorem stageCommit_inv (h : Inv d) : Inv (stageCommit d) := slotBit_inv h

theorem fwStage_inv {src : Submit} {len : Nat} {flashOk : Bool} (h : Inv d) : Inv (fwStage d src len flashOk) := by
  unfold fwStage
  extract_lets d1 _ _ _ d2 _
  have hd1 : Inv d1 := acceptCmd_inv _ _ _ _ _ _ _ h
  have hd2 : Inv d2 := slotBit_inv hd1
  refine inv_ite (refuse_inv h) (inv_ite (withdraw_inv hd1) ?_)
  split
  · exact withdraw_inv (fault_inv hd1)
  · extract_lets _ put d3 d4
    have hput (d : Chip) (hd : Inv d) (dev : Nat) : Inv (put d dev) := by
      unfold put
      exact flashWrite_inv (flashWrite_inv hd)
    have hd3 : Inv d3 := hput _ (hput _ hd2 _) _
    have hd4 : Inv d4 := inv_foldl (fun _ _ h1 => oweMore_inv h1) hd3
    exact inv_ite (withdraw_inv hd1) (inv_ite (withdraw_inv hd3) (finishWith_inv hd4 (fun _ h1 => stageCommit_inv h1)))

theorem execFwStage_inv {src : Submit} {length : Nat} {flashOk : Bool} {s : State} (h : Inv s.chip) : OutInv (execFwStage src length flashOk s) :=
  on_inv (served_inv h (fun _ h1 => submit_inv _ _ _ _ _ _ (fun _ h2 => fwStage_inv h2) h1))

theorem activateCommit_inv (h : Inv d) : Inv (d.activateCommit) := by
  unfold Chip.activateCommit
  extract_lets _ _ _ _ d1 d2 base _ d3 d4 _
  have hd1 : Inv d1 := putBootRec_inv h
  have hd2 : Inv d2 := mr_inv hd1
  have hbase : Inv base := endItem_inv hd2
  have hd3 : Inv d3 := endItem_inv hd2
  have hd4 : Inv d4 := writeRange_inv hd3
  exact inv_ite (sr_inv hbase.elsewhere) (sr_inv hd4.elsewhere)

theorem activateGo_inv (h : Inv d) : Inv (d.activateGo) := by
  unfold Chip.activateGo
  split
  · exact h
  · exact inv_ite (inv_ite h (sr_inv (oweMore_inv h))) (inv_ite (activateCommit_inv h) (updItem_inv h (fun _ => ⟨rfl, rfl⟩)))

theorem fwActivate_inv {src : Submit} {slot mode : Nat} (h : Inv d) : Inv (fwActivate d src slot mode) := by
  unfold fwActivate
  extract_lets _ d1 _
  have hd1 : Inv d1 := acceptCmd_inv _ _ _ _ _ _ _ h
  exact inv_ite (refuse_inv h) (inv_ite (refuse_inv h) (inv_ite (refuse_inv h) (inv_ite (refuse_inv h) (activateGo_inv hd1.elsewhere))))

theorem execFwActivate_inv {src : Submit} {slot mode : BitVec 8} {s : State} (h : Inv s.chip) : OutInv (execFwActivate src slot mode s) :=
  on_inv (served_inv h (fun _ h1 => submit_inv _ _ _ _ _ _ (fun _ h2 => fwActivate_inv h2) h1))

theorem execActivationDeferralEnd_inv {s : State} (h : Inv s.chip) : OutInv (execActivationDeferralEnd s) :=
  on_inv (inv_ite h (inv_ite (activateGo_inv (sr_inv h)) (inv_ite (sr_inv h) h)))

theorem activateDone_inv (h : Inv d) : Inv (d.activateDone) := by
  unfold Chip.activateDone
  extract_lets _ _ _ d1 _ d2
  have hd1 : Inv d1 := nowRunning_inv h
  have hd2 : Inv d2 := sr_inv hd1.elsewhere
  split
  · exact replyDue_inv hd2
  · exact hd2

theorem execCoreSwitch_inv {n : Fin 16} {s : State} (h : Inv s.chip) : OutInv (execCoreSwitch n s) := by
  unfold execCoreSwitch
  refine on_inv (inv_ite h (inv_ite (sr_inv h) ?_))
  extract_lets d1 _ d2
  have hd1 : Inv d1 := inv_ite h (coreReload_inv (coreGiveBack_inv h))
  have hd2 : Inv d2 := hd1.elsewhere
  exact inv_ite (activateDone_inv hd1) (inv_ite (sr_inv hd2) hd2)

theorem logWrite_inv {p : TracePoint} (h : Inv d) : Inv (d.logWrite p) := mr_inv ((wr_inv h).elsewhere)

theorem tracePoint_inv {p : TracePoint} (h : Inv d) : Inv (d.tracePoint p) :=
  inv_ite (charge_inv h) (inv_ite (obsDrop_inv (count_inv (charge_inv h))) (logWrite_inv (charge_inv h)))

theorem idle_inv (h : Inv d) : Inv (d.idle) := by
  unfold Chip.idle
  extract_lets d1 _
  have hd1 : Inv d1 := acceptsGo_inv h
  split
  · exact hd1
  · exact tracePoint_inv hd1.elsewhere

/-! ### Remote memory access and Dalivitric Transport (chapter 11) -/

theorem syncConns_inv (h : Inv d) : Inv (d.syncConns) := sr_inv h

theorem setConn_inv {c : Nat} {x : DvtConn} (h : Inv d) : Inv (d.setConn c x) := syncConns_inv h.elsewhere

theorem updConn_inv {c : Nat} {f : DvtConn → DvtConn} (h : Inv d) : Inv (d.updConn c f) := h.elsewhere

theorem ctxIn_inv {c : Nat} {miss : Bool} (h : Inv d) : Inv (d.ctxIn c miss) := sr_inv ((inv_ite (count_inv h) h).elsewhere)

theorem dvtPut_inv {c : Nat} {x : DvtConn} {p : DvtPkt} (h : Inv d) : Inv (d.dvtPut c x p) := count_inv h.elsewhere

theorem noteSent_inv {x : DvtSent} (h : Inv d) : Inv (d.noteSent x) := by
  unfold Chip.noteSent
  split
  · exact noteRead_inv h
  · exact h

theorem dvtPump_inv {k : Nat} {c : Nat} (h : Inv d) : Inv (Chip.dvtPump k d c) := by
  induction k generalizing d with
  | zero => exact h
  | succ k ih =>
    unfold Chip.dvtPump
    split
    · exact h
    · refine inv_ite h ?_
      split
      · exact inv_ite h (ih (setConn_inv (dvtPut_inv (noteSent_inv h))))
      · exact h

theorem startOps_inv {k : Nat} {c : Nat} (h : Inv d) : Inv (Chip.startOps k d c) := by
  induction k generalizing d with
  | zero => exact h
  | succ k ih =>
    unfold Chip.startOps
    split
    · exact h
    · split
      · exact h
      · split
        · exact ih (setConn_inv h)
        · exact inv_ite h (ih (updItem_inv (setConn_inv h) (fun _ => ⟨rfl, rfl⟩)))

theorem dvtGo_inv {c : Nat} (h : Inv d) : Inv (d.dvtGo c) := dvtPump_inv (startOps_inv h)

theorem dvtTakeColl_inv (h : Inv d) : Inv (d.dvtTakeColl) := by
  unfold Chip.dvtTakeColl
  extract_lets _ _
  refine inv_foldl ?_ h.elsewhere
  intro d1 x h1
  split
  · exact h1
  · extract_lets _ _ _
    exact dvtGo_inv (setConn_inv h1)

theorem connError_inv {c : Nat} (h : Inv d) : Inv (d.connError c) := by
  unfold Chip.connError
  extract_lets _ d1 d2 d3 d4
  have hd1 : Inv d1 := h.elsewhere
  have hd2 : Inv d2 := updConn_inv hd1
  have hd3 : Inv d3 := fault_inv (count_inv hd2)
  have hd4 : Inv d4 := inv_foldl (fun _ _ h1 => withdraw_inv h1) hd3
  exact inv_foldl (fun _ _ h1 => withdraw_inv h1) hd4

theorem connFail_inv {c : Nat} (h : Inv d) : Inv (d.connFail c) := by
  unfold Chip.connFail
  split
  · exact h
  · extract_lets d1 _
    have hd1 : Inv d1 := setConn_inv h
    exact inv_ite (connError_inv h) (dvtPut_inv hd1)

theorem pathFail_inv {c j : Nat} (h : Inv d) : Inv (d.pathFail c j) := by
  unfold Chip.pathFail
  split
  · exact h
  · extract_lets _ _ d1
    have hd1 : Inv d1 := fault_inv (count_inv (setConn_inv h))
    exact inv_ite h (inv_ite (connFail_inv hd1) hd1)

theorem resendPkts_inv {c : Nat} {p : DvtSent → Bool} {skip : Option Nat} (h : Inv d) : Inv (d.resendPkts c p skip) := by
  unfold Chip.resendPkts
  split
  · exact h
  · refine inv_foldl ?_ h
    intro d1 x h1
    split
    · exact h1
    · extract_lets _ _ _ d2 d3
      have hd2 : Inv d2 := count_inv (setConn_inv h1)
      have hd3 : Inv d3 := noteSent_inv hd2
      exact dvtPut_inv hd3

theorem revokeDone_inv {r cut : Nat} (h : Inv d) : Inv (d.revokeDone r cut) := by
  unfold Chip.revokeDone
  split
  · exact h
  · extract_lets _ _
    exact inv_ite h (finishWith_inv h (fun _ h1 => h1.elsewhere))

theorem regionLeft_inv {r c msn : Nat} (h : Inv d) : Inv (d.regionLeft r c msn) := revokeDone_inv h.elsewhere

theorem ackUpTo_inv {c psn : Nat} (h : Inv d) : Inv (d.ackUpTo c psn) := by
  unfold Chip.ackUpTo
  split
  · exact h
  · extract_lets _ _ _ _ d1 d2
    have hd1 : Inv d1 := setConn_inv h
    have hd2 : Inv d2 := by
      unfold d2
      refine inv_foldl ?_ hd1
      intro d3 x h1
      split
      · exact inv_ite (issueCommit_inv h1) h1
      · exact h1
    refine inv_ite h (inv_foldl ?_ hd2)
    intro d3 x h1
    split
    · exact inv_ite (regionLeft_inv h1) h1
    · exact h1

theorem sendAck_inv {c j : Nat} (h : Inv d) : Inv (d.sendAck c j) := by
  unfold Chip.sendAck
  split
  · exact h
  · extract_lets _ _ _ _ d1 d2
    have hd1 : Inv d1 := inv_ite (count_inv h) h
    have hd2 : Inv d2 := setConn_inv hd1
    exact dvtPut_inv hd2

theorem violRecord_inv {c side cause op rkey msn offset : Nat} (h : Inv d) : Inv (d.violRecord c side cause op rkey msn offset) := mr_inv (wr_inv h)

theorem violation_inv {c : Nat} {p : DvtPkt} {cause : Nat} (h : Inv d) : Inv (d.violation c p cause) := by
  unfold Chip.violation
  split
  · exact h
  · extract_lets d1 d2 d3
    have hd1 : Inv d1 := dvtPut_inv h
    have hd2 : Inv d2 := count_inv (violRecord_inv hd1)
    have hd3 : Inv d3 := fault_inv hd2
    exact inv_ite (connError_inv hd3) hd3

theorem regionIn_inv {r c msn : Nat} (h : Inv d) : Inv (d.regionIn r c msn) := h.elsewhere

theorem notify_inv {c msn : Nat} (h : Inv d) : Inv (d.notify c msn) := owe_inv h

theorem placeWrite_inv {c : Nat} {x : DvtConn} {p : DvtPkt} (h : Inv d) : Inv (placeWrite d c x p) := by
  unfold placeWrite
  split
  · exact violation_inv h
  · extract_lets d1 d2 _ _ d3 d4
    have hd1 : Inv d1 := regionIn_inv h
    have hd2 : Inv d2 := writeRange_inv hd1
    have hd3 : Inv d3 := updConn_inv hd2
    have hd4 : Inv d4 := regionLeft_inv hd3
    exact inv_ite (inv_ite (notify_inv hd4) hd4) hd3

theorem placeRead_inv {c : Nat} {x : DvtConn} {p : DvtPkt} (h : Inv d) : Inv (placeRead d c x p) := by
  unfold placeRead
  split
  · exact violation_inv h
  · extract_lets d1 _ _
    have hd1 : Inv d1 := noteRead_inv (regionIn_inv h)
    exact updConn_inv hd1

theorem atomicApply_inv {c : Nat} {r : Desc} (h : Inv d) : Inv (d.atomicApply c r) := by
  unfold Chip.atomicApply
  extract_lets _ _ _ d1 d2
  have hd1 : Inv d1 := updConn_inv (wrNum_inv h)
  have hd2 : Inv d2 := by
    unfold d2
    split
    · exact dvtPut_inv hd1
    · exact hd1
  exact regionLeft_inv hd2

theorem atomicCommit_inv {c seq : Nat} {b : Desc} (h : Inv d) : Inv (d.atomicCommit c seq b) := atomicApply_inv (updItem_inv h (fun _ => ⟨rfl, rfl⟩))

theorem placeAtomic_inv {c : Nat} {x : DvtConn} {p : DvtPkt} (h : Inv d) : Inv (placeAtomic d c x p) := by
  unfold placeAtomic
  split
  · exact violation_inv h
  · extract_lets _ d1 _ d2 _
    have hd1 : Inv d1 := regionIn_inv h
    have hd2 : Inv d2 := accept_inv _ _ _ hd1
    exact inv_ite (violation_inv h) (finishWith_inv hd2 (fun _ h1 => atomicCommit_inv h1))

theorem placeResp_inv {c : Nat} {x : DvtConn} {p : DvtPkt} (h : Inv d) : Inv (placeResp d c x p) := by
  unfold placeResp
  split
  · exact h
  · split
    · exact h
    · extract_lets _ _ _ d1 _ d2
      have hd1 : Inv d1 := writeRange_inv h
      have hd2 : Inv d2 := updConn_inv hd1
      exact inv_ite h (inv_ite (issueCommit_inv hd2) hd2)

theorem placePkt_inv {c : Nat} {p : DvtPkt} (h : Inv d) : Inv (d.placePkt c p) := by
  unfold Chip.placePkt
  split
  · exact h
  · extract_lets d1
    have hd1 : Inv d1 := setConn_inv h
    split
    · exact placeWrite_inv hd1
    · exact placeRead_inv hd1
    · exact placeResp_inv hd1
    · exact placeAtomic_inv hd1
    · exact placeAtomic_inv hd1
    · exact collPacket_inv hd1
    · exact collAbort_inv hd1
    · exact hd1

theorem unstage_inv {k : Nat} {c : Nat} (h : Inv d) : Inv (Chip.unstage k d c) := by
  induction k generalizing d with
  | zero => exact h
  | succ k ih =>
    unfold Chip.unstage
    split
    · exact h
    · split
      · exact h
      · exact inv_ite h (ih (placePkt_inv (mr_inv (setConn_inv h))))

theorem stage_inv {c : Nat} {x : DvtConn} {p : DvtPkt} (h : Inv d) : Inv (d.stage c x p) := by
  unfold Chip.stage
  extract_lets _ _ _ d1 d2
  have hd1 : Inv d1 := inv_ite h (fault_inv h)
  have hd2 : Inv d2 := count_inv (setConn_inv hd1)
  exact inv_ite h (inv_ite (count_inv (sr_inv (setConn_inv h))) (sendAck_inv hd2))

theorem dvtDrop_inv {raise : Bool} {detail : Nat} (h : Inv d) : Inv (d.dvtDrop raise detail) := inv_ite (fault_inv (count_inv h)) (count_inv h)

theorem dvtRx_inv {c : Nat} {bad : Bool} {k : Chip → DvtConn → Chip} (h : Inv d) (hk : ∀ e x1, Inv e → Inv (k e x1)) : Inv (d.dvtRx c bad k) := by
  unfold Chip.dvtRx
  extract_lets d1 _ d2
  have hd1 : Inv d1 := count_inv (dvtTakeColl_inv h)
  have hd2 : Inv d2 := ctxIn_inv hd1
  refine inv_ite h ?_
  split
  · exact dvtDrop_inv hd1
  · exact inv_ite (dvtDrop_inv hd1) (inv_ite (connError_inv (fault_inv hd2)) (dvtGo_inv (hk _ _ hd2)))

theorem ceMark_inv {c : Nat} {x : DvtConn} {p : DvtPkt} (h : Inv d) : Inv (d.ceMark c x p) := inv_ite (dvtPut_inv h) (updConn_inv h)

theorem dvtSequenced_inv {c : Nat} {bad ce : Bool} {p : DvtPkt} (h : Inv d) : Inv (d.dvtSequenced c bad ce p) := by
  unfold Chip.dvtSequenced
  refine dvtRx_inv h ?_
  intro e x1 h1
  extract_lets d1 _ _ d2
  have hd1 : Inv d1 := inv_ite (ceMark_inv h1) h1
  have hd2 : Inv d2 := unstage_inv (placePkt_inv hd1)
  refine inv_ite (dvtPut_inv h1) (inv_ite (dvtDrop_inv h1) (inv_ite h1 (inv_ite (inv_ite hd1 (inv_ite (sendAck_inv hd2) hd2))
    (inv_ite (inv_ite ?_ (sendAck_inv hd1)) (inv_ite (dvtPut_inv hd1) (inv_ite (stage_inv hd1) (dvtDrop_inv hd1)))))))
  split
  · exact dvtPut_inv (count_inv hd1)
  · exact sendAck_inv hd1

theorem dvtData_inv {op : Nat} {hdr : DvtHead} {data : List (BitVec 8)} (h : Inv d) : Inv (d.dvtData op hdr data) := dvtSequenced_inv h

theorem execWritePacket_inv {hdr : DvtHead} {data : List (BitVec 8)} {s : State} (h : Inv s.chip) : OutInv (execWritePacket hdr data s) :=
  on_inv (dvtData_inv h)

theorem execReadReq_inv {hdr : DvtHead} {s : State} (h : Inv s.chip) : OutInv (execReadReq hdr s) := on_inv (dvtData_inv h)

theorem execReadResp_inv {hdr : DvtHead} {data : List (BitVec 8)} {s : State} (h : Inv s.chip) : OutInv (execReadResp hdr data s) :=
  on_inv (dvtData_inv h)

theorem execFaddPacket_inv {hdr : DvtHead} {addend : Word} {s : State} (h : Inv s.chip) : OutInv (execFaddPacket hdr addend s) :=
  on_inv (dvtData_inv h)

theorem execCasPacket_inv {hdr : DvtHead} {compare swap : Word} {s : State} (h : Inv s.chip) : OutInv (execCasPacket hdr compare swap s) :=
  on_inv (dvtData_inv h)

theorem execSkip_inv {hdr : DvtHead} {s : State} (h : Inv s.chip) : OutInv (execSkip hdr s) := on_inv (dvtData_inv h)

theorem execColl_inv {hdr : DvtHead} {data : List (BitVec 8)} {s : State} (h : Inv s.chip) : OutInv (execColl hdr data s) := on_inv (dvtData_inv h)

theorem execCollAbort_inv {hdr : DvtHead} {tag : BitVec 32} {s : State} (h : Inv s.chip) : OutInv (execCollAbort hdr tag s) := on_inv (dvtData_inv h)

theorem atomicResp_inv {c : Nat} {bad : Bool} {psn value : Nat} (h : Inv d) : Inv (atomicResp d c bad psn value) := by
  unfold atomicResp
  refine dvtRx_inv h ?_
  intro e x1 h1
  split
  · exact h1
  · extract_lets d1
    have hd1 : Inv d1 := setConn_inv h1
    split
    · exact inv_ite hd1 (issueCommit_inv (wrNum_inv hd1))
    · exact hd1

theorem execAtomicResp_inv {hdr : DvtHead} {value : Word} {s : State} (h : Inv s.chip) : OutInv (execAtomicResp hdr value s) :=
  on_inv (atomicResp_inv h)

theorem ackRx_inv {c : Nat} {bad : Bool} {flags path psn need : Nat} (h : Inv d) : Inv (ackRx d c bad flags path psn need) := by
  unfold ackRx
  refine dvtRx_inv h ?_
  intro e x1 h1
  extract_lets _ _ _ d1 d2
  have hd1 : Inv d1 := setConn_inv h1
  have hd2 : Inv d2 := ackUpTo_inv hd1
  exact inv_ite hd2 (resendPkts_inv hd2)

theorem execAck_inv {hdr : DvtHead} {got need : BitVec 256} {s : State} (h : Inv s.chip) : OutInv (execAck hdr got need s) := on_inv (ackRx_inv h)

theorem nakRx_inv {c : Nat} {bad : Bool} {reason psn msn : Nat} (h : Inv d) : Inv (nakRx d c bad reason psn msn) := by
  unfold nakRx
  refine dvtRx_inv h ?_
  intro e x1 h1
  extract_lets d1 _
  have hd1 : Inv d1 := ackUpTo_inv h1
  refine inv_ite (resendPkts_inv hd1) (inv_ite ?_ (dvtDrop_inv h1))
  split
  · exact h1
  · split
    · exact h1
    · extract_lets d2 d3
      have hd2 : Inv d2 := withdraw_inv (takeFree_inv h1)
      have hd3 : Inv d3 := count_inv (violRecord_inv hd2)
      exact inv_ite (connError_inv hd3) hd3

theorem execNakPacket_inv {hdr : DvtHead} {s : State} (h : Inv s.chip) : OutInv (execNakPacket hdr s) := on_inv (nakRx_inv h)

theorem connectRx_inv {dst peer from_ psn paths : Nat} (h : Inv d) : Inv (connectRx d dst peer from_ psn paths) := by
  unfold connectRx
  extract_lets hit
  refine inv_ite h ?_
  clear_value hit
  split
  · extract_lets d1 d2
    have hd1 : Inv d1 := ackUpTo_inv (setConn_inv h)
    have hd2 : Inv d2 := dvtPut_inv hd1
    exact dvtGo_inv (resendPkts_inv hd2)
  · split
    · extract_lets _
      exact dvtPut_inv (setConn_inv h)
    · exact dvtDrop_inv h

theorem execConnect_inv {dst : BitVec 20} {peer : BitVec 128} {from_ : BitVec 20} {psn : BitVec 32} {paths : BitVec 8} {s : State} (h : Inv s.chip) :
    OutInv (execConnect dst peer from_ psn paths s) :=
  on_inv (connectRx_inv h)

theorem connectAckRx_inv {dst from_ psn : Nat} (h : Inv d) : Inv (connectAckRx d dst from_ psn) := by
  unfold connectAckRx
  refine inv_ite h ?_
  split
  · exact dvtDrop_inv h
  · split
    · extract_lets d1
      have hd1 : Inv d1 := setConn_inv h
      exact finish_inv hd1
    · extract_lets _ d1 d2
      have hd1 : Inv d1 := setConn_inv h
      have hd2 : Inv d2 := ackUpTo_inv hd1
      exact dvtGo_inv (resendPkts_inv hd2)
    · exact dvtDrop_inv h

theorem execConnectAck_inv {dst from_ : BitVec 20} {psn : BitVec 32} {s : State} (h : Inv s.chip) : OutInv (execConnectAck dst from_ psn s) :=
  on_inv (connectAckRx_inv h)

theorem closeRx_inv {dst : Nat} (h : Inv d) : Inv (closeRx d dst) := by
  unfold closeRx
  split
  · exact dvtDrop_inv h
  · extract_lets d1
    have hd1 : Inv d1 := updConn_inv h
    exact inv_foldl (fun _ _ h1 => withdraw_inv h1) hd1

theorem execClose_inv {dst : BitVec 20} {s : State} (h : Inv s.chip) : OutInv (execClose dst s) := on_inv (inv_ite (closeRx_inv h) h)

theorem connOpen_inv {src : Submit} {record : Nat} (h : Inv d) : Inv (connOpen d src record) := by
  generalize hf : connOpen = f
  delta connOpen at hf
  subst hf
  beta_reduce
  generalize 1048576 = n
  refine withRecord_inv h fun e h1 => ?_
  refine inv_ite (refuse_inv h1) ?_
  split
  · exact refuse_inv h1
  · refine inv_ite (finish_inv (ctxIn_inv (setConn_inv ?_))) (dvtPut_inv (ctxIn_inv (setConn_inv ?_)))
    all_goals exact acceptCmd_inv _ _ _ _ _ _ _ (takeFree_inv h1)

theorem execConnOpen_inv {src : Submit} {record : Nat} {s : State} (h : Inv s.chip) : OutInv (execConnOpen src record s) :=
  on_inv (served_inv h (fun _ h1 => submit_inv _ _ _ _ _ _ (fun _ h2 => connOpen_inv h2) h1))

theorem connectTimeout_inv {c : Nat} (h : Inv d) : Inv (connectTimeout d c) := by
  unfold connectTimeout
  split
  · exact h
  · exact inv_ite h (inv_ite (dvtPut_inv (setConn_inv h)) (withdraw_inv h))

theorem execConnectTimeout_inv {c : BitVec 20} {s : State} (h : Inv s.chip) : OutInv (execConnectTimeout c s) := on_inv (connectTimeout_inv h)

theorem connClose_inv {src : Submit} {c : Nat} (h : Inv d) : Inv (connClose d src c) := by
  unfold connClose
  split
  · exact refuse_inv h
  · extract_lets d1 d2
    have hd1 : Inv d1 := acceptCmd_inv _ _ _ _ _ _ _ (ctxIn_inv h)
    have hd2 : Inv d2 := setConn_inv hd1
    exact inv_ite (refuse_inv h) (release_inv (drainConns_inv hd2))

theorem execConnClose_inv {src : Submit} {c : BitVec 32} {s : State} (h : Inv s.chip) : OutInv (execConnClose src c s) :=
  on_inv (served_inv h (fun _ h1 => submit_inv _ _ _ _ _ _ (fun _ h2 => connClose_inv h2) h1))

theorem retransTimeout_inv {c psn : Nat} (h : Inv d) : Inv (retransTimeout d c psn) := by
  unfold retransTimeout
  split
  · exact h
  · split
    · exact h
    · extract_lets _ _ d1 d2
      have hd1 : Inv d1 := setConn_inv h
      have hd2 : Inv d2 := inv_ite (pathFail_inv hd1) hd1
      refine inv_ite h ?_
      split
      · exact hd2
      · exact inv_ite hd2 (inv_ite (connFail_inv hd2) (resendPkts_inv hd2))

theorem execRetransmissionTimeout_inv {c : BitVec 20} {psn : BitVec 32} {s : State} (h : Inv s.chip) : OutInv (execRetransmissionTimeout c psn s) :=
  on_inv (inv_ite (retransTimeout_inv h) h)

theorem pathProbe_inv {c j : Nat} (h : Inv d) : Inv (pathProbe d c j) := by
  unfold pathProbe
  split
  · exact h
  · exact inv_ite (dvtPut_inv (setConn_inv h)) h

theorem execPathProbe_inv {c : BitVec 20} {path : Fin 64} {s : State} (h : Inv s.chip) : OutInv (execPathProbe c path s) :=
  on_inv (inv_ite (pathProbe_inv h) h)

theorem execReconnectTimeout_inv {c : BitVec 20} {s : State} (h : Inv s.chip) : OutInv (execReconnectTimeout c s) := by
  unfold execReconnectTimeout
  refine on_inv ?_
  split
  · exact inv_ite (connError_inv h) h
  · exact h

theorem dvtOp_inv {src : Submit} {x : Desc} (h : Inv d) : Inv (dvtOp d src x) := by
  unfold dvtOp
  extract_lets _ _ _ d1 _
  have hd1 : Inv d1 := acceptCmd_inv _ _ _ _ _ _ _ (dvtTakeColl_inv h)
  refine inv_ite (refuse_inv h) (inv_ite (refuse_inv h) (inv_ite (refuse_inv h) ?_))
  split
  · exact refuse_inv h
  · exact inv_ite (refuse_inv h) (inv_ite (refuse_inv h) (dvtGo_inv (updConn_inv (ctxIn_inv hd1))))

theorem dvtCmd_inv {src : Submit} {x : Desc} {op : Nat} (h : Inv d) : Inv (dvtCmd d src x op) :=
  inv_ite (submit_inv _ _ _ _ _ _ (fun _ h1 => dvtOp_inv h1) h) h

theorem execWrite_inv {src : Submit} {x : Desc} {s : State} (h : Inv s.chip) : OutInv (execWrite src x s) := on_inv (dvtCmd_inv h)

theorem execRead_inv {src : Submit} {x : Desc} {s : State} (h : Inv s.chip) : OutInv (execRead src x s) := on_inv (dvtCmd_inv h)

theorem execFadd_inv {src : Submit} {x : Desc} {s : State} (h : Inv s.chip) : OutInv (execFadd src x s) := on_inv (dvtCmd_inv h)

theorem execCas_inv {src : Submit} {x : Desc} {s : State} (h : Inv s.chip) : OutInv (execCas src x s) := on_inv (dvtCmd_inv h)

theorem regionReg_inv {src : Submit} {x : Desc} (h : Inv d) : Inv (regionReg d src x) := by
  generalize hf : regionReg = f
  delta regionReg at hf
  subst hf
  beta_reduce
  generalize 262144 = n
  refine inv_ite (refuse_inv h) (inv_ite (refuse_inv h) ?_)
  split
  · exact refuse_inv h
  · exact finishWith_inv (Inv.elsewhere (acceptCmd_inv _ _ _ _ _ _ _ h)) (fun _ h1 => h1.elsewhere)

theorem execRegionReg_inv {src : Submit} {x : Desc} {s : State} (h : Inv s.chip) : OutInv (execRegionReg src x s) :=
  on_inv (served_inv h (fun _ h1 => submit_inv _ _ _ _ _ _ (fun _ h2 => regionReg_inv h2) h1))

theorem regionRevoke_inv {src : Submit} {rkey : Nat} (h : Inv d) : Inv (regionRevoke d src rkey) := by
  unfold regionRevoke
  extract_lets _ d1 _
  have hd1 : Inv d1 := acceptCmd_inv _ _ _ _ _ _ _ h
  split
  · exact refuse_inv h
  · extract_lets d2
    have hd2 : Inv d2 := hd1.elsewhere
    exact inv_ite (refuse_inv h) (revokeDone_inv hd2)

theorem execRegionRevoke_inv {src : Submit} {rkey : BitVec 32} {s : State} (h : Inv s.chip) : OutInv (execRegionRevoke src rkey s) :=
  on_inv (served_inv h (fun _ h1 => submit_inv _ _ _ _ _ _ (fun _ h2 => regionRevoke_inv h2) h1))

theorem revokeCut_inv {r : Nat} (h : Inv d) : Inv (revokeCut d r) := by
  unfold revokeCut
  split
  · exact h
  · extract_lets _ _ d1
    have hd1 : Inv d1 := h.elsewhere
    exact inv_ite h (revokeDone_inv hd1)

theorem execRevokeCut_inv {r : BitVec 18} {s : State} (h : Inv s.chip) : OutInv (execRevokeCut r s) := on_inv (revokeCut_inv h)

theorem execContextFill_inv {c : BitVec 20} {s : State} (h : Inv s.chip) : OutInv (execContextFill c s) :=
  on_inv (inv_ite h (inv_ite (connError_inv (fault_inv (ctxIn_inv h))) (ctxIn_inv h)))

theorem execPathDown_inv {c : BitVec 20} {path : Fin 64} {s : State} (h : Inv s.chip) : OutInv (execPathDown c path s) := by
  unfold execPathDown
  refine on_inv ?_
  split
  · exact inv_ite (answered_inv (pathFail_inv h)) (answered_inv h)
  · exact answered_inv h

theorem execCtxFlush_inv {s : State} (h : Inv s.chip) : OutInv (execCtxFlush s) := on_inv (answered_inv h)

theorem dvtFrames_inv {o : DvtOut} (h : Inv d) : Inv (d.dvtFrames o) := inv_foldl (fun _ _ h1 => sendFrame_inv h1) h

theorem linkTake_inv (h : Inv d) : Inv (d.linkTake) :=
  inv_foldl (fun _ _ h1 => dvtFrames_inv h1) (inv_foldl (fun _ _ h1 => sendFrame_inv h1) h.elsewhere)

theorem dvtPacket_inv {b : List Nat} (h : Inv d) : Inv (d.dvtPacket b) := by
  unfold Chip.dvtPacket
  extract_lets op _ _ _ _ _ _ _
  refine inv_ite (dvtSequenced_inv h) ?_
  clear_value op
  split
  · exact atomicResp_inv h
  · exact ackRx_inv h
  · exact nakRx_inv h
  · exact connectRx_inv h
  · exact connectAckRx_inv h
  · exact inv_ite (closeRx_inv h) h
  · exact inv_ite (dvtDrop_inv h) h

theorem dvtFlit_inv {port : Nat} {first last : Bool} {f : List Nat} (h : Inv d) : Inv (d.dvtFlit port first last f) :=
  inv_ite (dvtDrop_inv h) (inv_ite (dvtPacket_inv h.elsewhere) h.elsewhere)

/-! ### The security commands -/

theorem loadKey_inv {record : Nat} (h : Inv d) : Inv (loadKey record d) := by
  unfold loadKey
  extract_lets _
  split
  · exact count_inv (setKslot_inv h)
  · exact h

theorem keyLoad_inv {src : Submit} {record : Nat} (h : Inv d) : Inv (d.keyLoad src record) := by
  unfold Chip.keyLoad
  refine withRecord_inv h ?_
  intro e h1
  extract_lets _ d1
  have hd1 : Inv d1 := acceptCmd_inv _ _ _ _ _ _ _ h1
  exact inv_ite (refuse_inv h1) (inv_ite (refuse_inv h1) (inv_ite (refuse_inv h1) (inv_ite (finishWith_inv hd1 (fun _ h2 => loadKey_inv h2))
    (count_inv (withdraw_inv hd1)))))

theorem execKeyLoad_inv {src : Submit} {record : Nat} {s : State} (h : Inv s.chip) : OutInv (execKeyLoad src record s) :=
  on_inv (submit_inv _ _ _ _ _ _ (fun _ h1 => keyLoad_inv h1) h)

theorem emptySlot_inv {k : Nat} (h : Inv d) : Inv (d.emptySlot k) := h.elsewhere

theorem execKopen_inv {n : Fin 16} {rd rs1 : Fin 32} {s : State} (h : Inv s.chip) : OutInv (execKopen n rd rs1 s) :=
  on_inv (insn_inv h (fun _ h1 => typed1_inv h1 (fun _ => iOutInv_ite (writes_inv h1) (trap_inv h1))))

theorem execWqk_inv {n : Fin 16} {rd rs1 rs2 : Fin 32} {s : State} (h : Inv s.chip) : OutInv (execWqk n rd rs1 rs2 s) :=
  on_inv (insn_inv h (fun _ h1 => typed1_inv h1 (fun _ => typed1_inv h1 (fun _ => queueDesc_inv h1))))

theorem zeroKey_inv {k : Nat} (h : Inv d) : Inv (zeroKey k d) := count_inv (inv_foldl (fun _ _ h1 => withdraw_inv h1) (emptySlot_inv h))

theorem keyZero_inv {src : Submit} {k : Nat} (h : Inv d) : Inv (d.keyZero src k) :=
  inv_ite (refuse_inv h) (finishWith_inv (acceptCmd_inv _ _ _ _ _ _ _ h) (fun _ h1 => zeroKey_inv h1))

theorem execKeyZero_inv {src : Submit} {slot : Fin 65536} {s : State} (h : Inv s.chip) : OutInv (execKeyZero src slot s) :=
  on_inv (submit_inv _ _ _ _ _ _ (fun _ h1 => keyZero_inv h1) h)

theorem wrMark_inv {a : Nat} {bs : List Nat} {poison : Bool} (h : Inv d) : Inv (d.wrMark a bs poison) := writeRange_inv h

theorem bulkEarn_inv {seq code : Nat} (h : Inv d) : Inv (d.bulkEarn seq code) := inv_ite (updItem_inv h (fun _ => ⟨rfl, rfl⟩)) (issueCommit_inv h)

theorem bulkRun_inv {seq ctr : Nat} {x : Desc} {k : KeyName} (h : Inv d) : Inv (d.bulkRun seq ctr x k) := by
  unfold Chip.bulkRun
  split
  · extract_lets d1 _ _ _ _ _ d2 _ _ _
    have hd1 : Inv d1 := noteRead_inv (noteRead_inv (noteRead_inv h))
    have hd2 : Inv d2 := count_inv (count_inv hd1)
    split
    · exact bulkEarn_inv (wrMark_inv (wrMark_inv hd2))
    · refine inv_ite (bulkEarn_inv (wrMark_inv hd2)) ?_
      split
      · exact bulkEarn_inv (wr_inv hd2)
      · exact count_inv (withdraw_inv hd2)
    · exact bulkEarn_inv (wrMark_inv hd2)

theorem bulkStart_inv {seq : Nat} (h : Inv d) : Inv (d.bulkStart seq) := by
  unfold Chip.bulkStart
  split
  · exact h
  · extract_lets _
    exact inv_ite h (bulkRun_inv (hostReads_inv (updItem_inv h (fun _ => ⟨rfl, rfl⟩))))

theorem bulksGo_inv (h : Inv d) : Inv (d.bulksGo) := inv_foldl (fun _ _ h1 => bulkStart_inv h1) h

theorem bulkCounter_inv {x : Desc} {k : KeyName} (h : Inv d) : Inv (d.bulkCounter x k).2 := by
  unfold Chip.bulkCounter
  split
  · exact h
  · split
    · next hr =>
      split at hr
      · exact slotCounter_inv h hr
      · exact ctxCounter_inv h hr
    · exact h

theorem bulk_inv {src : Submit} {x : Desc} (h : Inv d) : Inv (d.bulk src x) := by
  unfold Chip.bulk
  extract_lets _ _
  split
  · exact refuse_inv h
  · split
    · rename_i x1 ctr d1 e
      have hd1 : Inv d1 := (bulkCounter_inv h).of_snd e
      extract_lets d2
      have hd2 : Inv d2 := acceptCmd_inv _ _ _ _ _ _ _ hd1
      exact bulkStart_inv hd2

theorem bulkCmd_inv {src : Submit} {x : Desc} {ops : Nat → Bool} (h : Inv d) : Inv (d.bulkCmd src x ops) :=
  inv_ite h (submit_inv _ _ _ _ _ _ (fun _ h1 => bulk_inv h1) h)

theorem execEncrypt_inv {src : Submit} {x : Desc} {s : State} (h : Inv s.chip) : OutInv (execEncrypt src x s) := on_inv (bulkCmd_inv h)

theorem execDecrypt_inv {src : Submit} {x : Desc} {s : State} (h : Inv s.chip) : OutInv (execDecrypt src x s) := on_inv (bulkCmd_inv h)

theorem execKmac_inv {src : Submit} {x : Desc} {s : State} (h : Inv s.chip) : OutInv (execKmac src x s) := on_inv (bulkCmd_inv h)

theorem portPhase_inv {v : Nat} (h : Inv d) : Inv (d.portPhase v) := by
  unfold Chip.portPhase
  refine inv_foldl ?_ h
  intro d1 x h1
  extract_lets _ d2 d3 _
  have hd2 : Inv d2 := endAttn_inv h1
  have hd3 : Inv d3 := setBit_inv hd2
  exact inv_ite h1 (inv_ite (syncDead_inv (setPort_inv hd3)) hd3)

theorem execSecPortPhase_inv {value : BitVec 12} {s : State} (h : Inv s.chip) : OutInv (execSecPortPhase value s) := on_inv (portPhase_inv h)

theorem portKey_inv {p v : Nat} (h : Inv d) : Inv (d.portKey p v) := by
  unfold Chip.portKey
  extract_lets _ d1
  have hd1 : Inv d1 := by
    unfold d1
    refine inv_foldl ?_ h
    intro d2 x h1
    extract_lets _
    exact inv_ite h1 (sr_inv h1)
  refine inv_foldl ?_ hd1
  intro d2 x h1
  extract_lets _ base _ d3 _
  have hbase : Inv base := sr_inv h1
  have hd3 : Inv d3 := hbase.elsewhere
  exact inv_ite h1 (setPort_inv hd3)

theorem execSecPortKey_inv {p : Fin 12} {value : Word} {s : State} (h : Inv s.chip) : OutInv (execSecPortKey p value s) :=
  on_inv (syncDead_inv (portKey_inv h))

theorem zeroise_inv (h : Inv d) : Inv (d.zeroise) := by
  unfold Chip.zeroise
  extract_lets d1 _ _ d2 d3
  have hd1 : Inv d1 := inv_foldl (fun _ _ h1 => withdraw_inv h1) h
  have hd2 : Inv d2 := hd1.elsewhere
  have hd3 : Inv d3 := count_inv (sr_inv hd2)
  exact inv_foldl (fun _ _ h1 => portDown_inv (fault_inv (setPort_inv h1))) hd3

theorem execSecZeroise_inv {s : State} (h : Inv s.chip) : OutInv (execSecZeroise s) := on_inv (zeroise_inv h)

theorem execZeroiseAll_inv {s : State} (h : Inv s.chip) : OutInv (execZeroiseAll s) := on_inv (answered_inv (zeroise_inv h))

theorem execDrbgReseed_inv {s : State} (h : Inv s.chip) : OutInv (execDrbgReseed s) := on_inv (answered_inv (inv_ite h (reseed_inv h)))

theorem execEntropyHealthFail_inv {s : State} (h : Inv s.chip) : OutInv (execEntropyHealthFail s) := on_inv (fault_inv (sr_inv h.elsewhere))

theorem execEntropyHealthPass_inv {s : State} (h : Inv s.chip) : OutInv (execEntropyHealthPass s) := on_inv (sr_inv h.elsewhere)

theorem debugToken_inv {keyId : Nat} {pub ed ml : List Nat} (h : Inv d) : Inv (debugToken d keyId pub ed ml) :=
  inv_ite h (inv_ite (random_inv h) (sr_inv (zeroise_inv (random_inv h))))

theorem execDebugUnlockToken_inv {keyId : Fin 4} {pub : List (BitVec 8)} {sigs : List (BitVec 8) × List (BitVec 8)} {s : State} (h : Inv s.chip) :
    OutInv (execDebugUnlockToken keyId pub sigs s) :=
  on_inv (debugToken_inv h)

theorem execSecCoreWdog_inv {s : State} (h : Inv s.chip) : OutInv (execSecCoreWdog s) := on_inv (fault_inv h.elsewhere)

/-! ### The host endpoint (chapter 13) -/

theorem hf_inv {f : Hif → Hif} (h : Inv d) : Inv (d.hf f) := h.elsewhere

theorem sendVector_inv {fn v : Nat} (h : Inv d) : Inv (d.sendVector fn v) := inv_ite (hf_inv h) (hf_inv h)

theorem sendPending_inv {fn : Nat} (h : Inv d) : Inv (d.sendPending fn) := inv_ite h (hf_inv h)

theorem ringSignal_inv {r : Nat} (h : Inv d) : Inv (d.ringSignal r) := hf_inv (sendVector_inv h)

theorem ringInt_inv {r : Nat} (h : Inv d) : Inv (d.ringInt r) := inv_ite (ringSignal_inv (hf_inv h)) (hf_inv h)

theorem modExpiry_inv {r : Nat} (h : Inv d) : Inv (modExpiry d r) := inv_ite h (ringSignal_inv h)

theorem execInterruptModerationExpiry_inv {r : BitVec 14} {s : State} (h : Inv s.chip) : OutInv (execInterruptModerationExpiry r s) :=
  on_inv (modExpiry_inv h)

theorem execMsixVectorUnmask_inv {fn : Fin 128} {vector : BitVec 11} {s : State} (h : Inv s.chip) : OutInv (execMsixVectorUnmask fn vector s) :=
  on_inv (sendPending_inv (hf_inv h))

theorem dbRefused_inv {pf : Nat} (h : Inv d) : Inv (d.dbRefused pf) := count_inv h

theorem doorbellBad_inv {pf : Nat} (h : Inv d) : Inv (d.doorbellBad pf) := fault_inv (dbRefused_inv h)

theorem dbCmd_inv {by_ : Req} {r tail : Nat} (h : Inv d) : Inv (d.dbCmd by_ r tail) := by
  unfold Chip.dbCmd
  extract_lets d1
  have hd1 : Inv d1 := wake_inv h
  exact inv_ite hd1 (inv_ite (dbRefused_inv hd1) (inv_ite (doorbellBad_inv hd1) (sr_inv hd1)))

theorem dbRpl_inv {by_ : Req} {r tail : Nat} (h : Inv d) : Inv (d.dbRpl by_ r tail) := by
  unfold Chip.dbRpl
  extract_lets d1
  have hd1 : Inv d1 := wake_inv h
  exact inv_ite hd1 (inv_ite (dbRefused_inv hd1) (inv_ite (doorbellBad_inv hd1) (sr_inv hd1)))

theorem execHifDbCmd_inv {by_ : Req} {r : BitVec 14} {tail : BitVec 32} {s : State} (h : Inv s.chip) : OutInv (execHifDbCmd by_ r tail s) :=
  on_inv (dbCmd_inv h)

theorem execHifDbRpl_inv {by_ : Req} {r : BitVec 14} {tail : BitVec 32} {s : State} (h : Inv s.chip) : OutInv (execHifDbRpl by_ r tail s) :=
  on_inv (dbRpl_inv h)

theorem ringDrain_inv {r : Nat} (h : Inv d) : Inv (d.ringDrain r) := inv_ite (sr_inv h) h

theorem ringEnable_inv {by_ : Req} {r : Nat} (h : Inv d) : Inv (d.ringEnable by_ r) := by
  unfold Chip.ringEnable
  refine inv_ite h (inv_ite (dbRefused_inv h) (inv_ite h ?_))
  split
  · exact sr_inv h
  · extract_lets d1 d2
    have hd1 : Inv d1 := sr_inv (sr_inv (sr_inv h))
    have hd2 : Inv d2 := sr_inv (sr_inv hd1)
    exact inv_ite (sr_inv h) (endAttn_inv (hf_inv (sr_inv (sr_inv hd2))))

theorem ringDisable_inv {by_ : Req} {r : Nat} (h : Inv d) : Inv (d.ringDisable by_ r) :=
  inv_ite h (inv_ite (dbRefused_inv h) (inv_ite h (ringDrain_inv (sr_inv (sr_inv h)))))

theorem execHifRingEnable_inv {by_ : Req} {r : BitVec 14} {s : State} (h : Inv s.chip) : OutInv (execHifRingEnable by_ r s) :=
  on_inv (ringEnable_inv h)

theorem execHifRingDisable_inv {by_ : Req} {r : BitVec 14} {s : State} (h : Inv s.chip) : OutInv (execHifRingDisable by_ r s) :=
  on_inv (ringDisable_inv h)

theorem commandFetch_inv {r : Nat} {e : Desc} {poison : Bool} (h : Inv d) : Inv (commandFetch d r e poison) :=
  inv_ite h (inv_ite (refuse_inv h) (inv_ite (refuse_inv h) h.elsewhere))

theorem execCommandFetch_inv {r : BitVec 14} {entry : Desc} {poison : Bool} {s : State} (h : Inv s.chip) :
    OutInv (execCommandFetch r entry poison s) :=
  on_inv (commandFetch_inv h)

theorem mirrorWrite_inv {fn a : Nat} {bs : List Nat} (h : Inv d) : Inv (d.mirrorWrite fn a bs) := inv_ite (hf_inv h) (wr_inv h)

theorem putReply_inv {r : Nat} {x : Reply} (h : Inv d) : Inv (d.putReply r x) := by
  unfold Chip.putReply
  extract_lets _ _ _ _ _ d1 d2 d3 d4
  have hd1 : Inv d1 := wr_inv h
  have hd2 : Inv d2 := sr_inv hd1
  have hd3 : Inv d3 := inv_ite hd2 (count_inv (mirrorWrite_inv (mirrorWrite_inv hd2)))
  have hd4 : Inv d4 := ringInt_inv (count_inv hd3)
  exact hd4.elsewhere

theorem replyWrite_inv {r : Nat} (h : Inv d) : Inv (replyWrite d r) := by
  unfold replyWrite
  refine inv_ite h ?_
  split
  · exact h
  · extract_lets d1 d2 d3
    have hd1 : Inv d1 := h.elsewhere
    have hd2 : Inv d2 := putReply_inv hd1
    have hd3 : Inv d3 := inv_ite hd2 (updItem_inv hd2 (fun _ => ⟨rfl, rfl⟩))
    exact ringDrain_inv (freeSlots_inv hd3)

theorem execReplyWrite_inv {r : BitVec 14} {s : State} (h : Inv s.chip) : OutInv (execReplyWrite r s) := on_inv (replyWrite_inv h)

theorem attentionReply_inv {fn : Nat} (h : Inv d) : Inv (attentionReply d fn) := inv_ite h (putReply_inv h)

theorem execAttentionReply_inv {fn : Nat} {s : State} (h : Inv s.chip) : OutInv (execAttentionReply fn s) := on_inv (attentionReply_inv h)

theorem dropReads_inv {p : Nat → Bool} (h : Inv d) : Inv (d.dropReads p) := hf_inv h

theorem hostResume_inv {fns : List Nat} (h : Inv d) : Inv (d.hostResume fns) := by
  unfold Chip.hostResume
  extract_lets d1 _ d2 d3 d4 d5
  have hd1 : Inv d1 := readsGo_inv h
  have hd2 : Inv d2 := hf_inv hd1
  have hd3 : Inv d3 := inv_foldl (fun _ _ h1 => wr_inv h1) hd2
  have hd4 : Inv d4 := bulksGo_inv (collsGo_inv (inv_foldl (fun _ _ h1 => sendPending_inv h1) hd3))
  have hd5 : Inv d5 := inv_foldl (fun _ _ h1 => dvtGo_inv h1) hd4
  exact inv_foldl (fun _ _ h1 => dmaGo_inv h1) hd5

theorem completionTimeout_inv {pf tag : Nat} (h : Inv d) : Inv (completionTimeout d pf tag) := by
  unfold completionTimeout
  split
  · exact h
  · extract_lets d1 d2 _
    have hd1 : Inv d1 := count_inv (hf_inv h)
    have hd2 : Inv d2 := fault_inv hd1
    exact inv_ite h (inv_ite (readFailed_inv (readsGo_inv hd2)) (count_inv (hf_inv hd2)))

theorem completionArrival_inv {pf tag : Nat} {ok : Bool} (h : Inv d) : Inv (completionArrival d pf tag ok) := by
  unfold completionArrival
  refine inv_ite (fault_inv (count_inv (hf_inv h))) ?_
  split
  · exact h
  · extract_lets d1
    have hd1 : Inv d1 := readsGo_inv (hf_inv h)
    exact inv_ite hd1 (readFailed_inv hd1)

theorem quarantineExpiry_inv {pf tag : Nat} (h : Inv d) : Inv (quarantineExpiry d pf tag) := hf_inv h

theorem execTagQuarantineExpiry_inv {pf : Fin 2} {tag : BitVec 14} {s : State} (h : Inv s.chip) : OutInv (execTagQuarantineExpiry pf tag s) :=
  on_inv (quarantineExpiry_inv h)

theorem execAtsInvalidation_inv {pf : Fin 2} {addr : Word} {pages : BitVec 32} {s : State} (h : Inv s.chip) :
    OutInv (execAtsInvalidation pf addr pages s) :=
  on_inv (hf_inv h)

theorem linkError_inv {pf cause : Nat} (h : Inv d) : Inv (linkError d pf cause) := by
  unfold linkError
  extract_lets d1 d2
  have hd1 : Inv d1 := hf_inv h
  have hd2 : Inv d2 := count_inv (sr_inv (sr_inv (sr_inv hd1)))
  exact inv_ite (fault_inv hd1) (fault_inv (raiseAttn_inv (dropReads_inv hd2)))

theorem execUncorrectableLinkError_inv {pf : Fin 2} {cause : BitVec 5} {s : State} (h : Inv s.chip) :
    OutInv (execUncorrectableLinkError pf cause s) :=
  on_inv (linkError_inv h)

theorem freezeRelease_inv {pf : Nat} (h : Inv d) : Inv (d.freezeRelease pf) := inv_ite h (hostResume_inv (endAttn_inv (sr_inv (sr_inv h))))

theorem execAerStatusClear_inv {pf : Fin 2} {s : State} (h : Inv s.chip) : OutInv (execAerStatusClear pf s) := on_inv (hf_inv h)

theorem setMaster_inv {fn : Nat} {b : Bool} (h : Inv d) : Inv (d.setMaster fn b) := inv_ite (hf_inv h) (sr_inv h)

theorem execBusMasterEnableClear_inv {fn : Fin 128} {s : State} (h : Inv s.chip) : OutInv (execBusMasterEnableClear fn s) :=
  on_inv (dropReads_inv (setMaster_inv h))

theorem setPoolRec_inv {pf v : Nat} {f : PoolRec → PoolRec} (h : Inv d) : Inv (d.setPool_ pf v f) := hf_inv h

theorem vfEnable_inv {pf num : Nat} (h : Inv d) : Inv (vfEnable d pf num) := inv_ite h (inv_foldl (fun _ _ h1 => setPoolRec_inv h1) (sr_inv h))

theorem mboxDb_inv {pf v : Nat} {m : List Nat} (h : Inv d) : Inv (mboxDb d pf v m) := inv_ite h (inv_ite (doorbellBad_inv h) (pend_inv (hf_inv h)))

theorem execVfMboxDb_inv {pf : Fin 2} {vf : Fin 64} {message : List (BitVec 8)} {s : State} (h : Inv s.chip) :
    OutInv (execVfMboxDb pf vf message s) :=
  on_inv (mboxDb_inv (wake_inv h))

theorem mboxTake_inv (h : Inv d) : Inv (d.mboxTake) := inv_ite h (inv_foldl (fun _ _ h1 => sendVector_inv (takeFree_inv (hf_inv h1))) h)

theorem flr_inv {fn : Nat} (h : Inv d) : Inv (d.flr fn) := by
  unfold Chip.flr
  extract_lets d1 d2 _ d3 d4
  have hd1 : Inv d1 := count_inv (hf_inv h)
  have hd2 : Inv d2 := inv_ite (setPoolRec_inv hd1) (sr_inv hd1)
  have hd3 : Inv d3 := hd2.elsewhere
  have hd4 : Inv d4 := dropReads_inv hd3
  exact inv_ite h (inv_foldl (fun _ _ h1 => withdraw_inv h1) hd4)

theorem vfDisable_inv {pf : Nat} (h : Inv d) : Inv (vfDisable d pf) :=
  sr_inv (inv_foldl (fun _ _ h1 => inv_ite (flr_inv (hf_inv h1)) (inv_ite (hf_inv h1) (setPoolRec_inv h1))) h)

theorem clearRing_inv {r : Nat} (h : Inv d) : Inv (d.clearRing r) := h.elsewhere

theorem flrComplete_inv {fn : Nat} (h : Inv d) : Inv (flrComplete d fn) := by
  unfold flrComplete
  extract_lets _ _
  refine inv_ite h ?_
  split
  · extract_lets _ _ _ d1 d2 d3 _ d4 d5 _ d6 _ d7 _ d8 d9
    have hd1 : Inv d1 := wr_inv h
    have hd2 : Inv d2 := sr_inv hd1
    have hd3 : Inv d3 := hd2.elsewhere
    have hd4 : Inv d4 := mapItems_inv hd3 (fun _ => by split <;> exact ⟨rfl, rfl⟩)
    have hd5 : Inv d5 := freeSlots_inv hd4
    have hd6 : Inv d6 := inv_foldl (fun _ _ h1 => clearRing_inv h1) hd5
    have hd7 : Inv d7 := inv_ite (hf_inv hd6) (sr_inv hd6)
    have hd8 : Inv d8 := inv_ite (setPoolRec_inv hd7) hd7
    have hd9 : Inv d9 := hf_inv (setMaster_inv hd8)
    exact hd9

theorem dirtyEffect_inv {fn : Nat} {x : Desc} (h : Inv d) : Inv (d.dirtyEffect fn x) := by
  unfold Chip.dirtyEffect
  extract_lets _ _
  split
  · exact hf_inv h
  · exact hf_inv h
  · exact hf_inv h

theorem dirtyLog_inv {src : Submit} {op vf hbase pages bitmap : Nat} (h : Inv d) : Inv (dirtyLog d src op vf hbase pages bitmap) := by
  unfold dirtyLog
  extract_lets _ _ _ _ d1
  have hd1 : Inv d1 := acceptCmd_inv _ _ _ _ _ _ _ h
  exact inv_ite (refuse_inv h) (inv_ite (refuse_inv h) (finishWith_inv hd1 (fun _ h1 => dirtyEffect_inv h1)))

theorem execDirtyLogStart_inv {src : Submit} {vf : BitVec 8} {hbase : Nat} {pages : BitVec 32} {bitmap : Nat} {s : State} (h : Inv s.chip) :
    OutInv (execDirtyLogStart src vf hbase pages bitmap s) :=
  on_inv (served_inv h (fun _ h1 => submit_inv _ _ _ _ _ _ (fun _ h2 => dirtyLog_inv h2) h1))

theorem execDirtyLogSwap_inv {src : Submit} {vf : BitVec 8} {bitmap : Nat} {s : State} (h : Inv s.chip) : OutInv (execDirtyLogSwap src vf bitmap s) :=
  on_inv (served_inv h (fun _ h1 => submit_inv _ _ _ _ _ _ (fun _ h2 => dirtyLog_inv h2) h1))

theorem execDirtyLogStop_inv {src : Submit} {vf : BitVec 8} {s : State} (h : Inv s.chip) : OutInv (execDirtyLogStop src vf s) :=
  on_inv (served_inv h (fun _ h1 => submit_inv _ _ _ _ _ _ (fun _ h2 => dirtyLog_inv h2) h1))

/-! ### The storage front end (chapter 15) -/

theorem nv_inv {f : NvsUnit → NvsUnit} (h : Inv d) : Inv (d.nv f) := h.elsewhere

theorem setCtl_inv {fn : Nat} {c : NvmeCtl} (h : Inv d) : Inv (d.setCtl fn c) := nv_inv h

theorem updCtl_inv {fn : Nat} {f : NvmeCtl → NvmeCtl} (h : Inv d) : Inv (d.updCtl fn f) := setCtl_inv h

theorem prpWrite_inv {fn : Nat} {ps : List (Nat × Nat)} {bs : List Nat} (h : Inv d) : Inv (d.prpWrite fn ps bs) := by
  induction ps generalizing d bs with
  | nil => exact h
  | cons p ps ih =>
    unfold Chip.prpWrite
    refine ih ?_
    split
    · exact wr_inv h
    · exact nv_inv h

theorem cqPut_inv {fn q : Nat} {c : NvmeCqe} (h : Inv d) : Inv (d.cqPut fn q c) := by
  unfold Chip.cqPut
  extract_lets _ _
  split
  · exact h
  · extract_lets d1 _ d2
    have hd1 : Inv d1 := prpWrite_inv h
    have hd2 : Inv d2 := setCtl_inv hd1
    refine inv_ite (setCtl_inv h) ?_
    split
    · exact sendVector_inv hd2
    · exact hd2

theorem cqFlush_inv {fn q : Nat} (h : Inv d) : Inv (d.cqFlush fn q) := by
  unfold Chip.cqFlush
  split
  · exact h
  · extract_lets d1
    have hd1 : Inv d1 := updCtl_inv h
    exact inv_foldl (fun _ _ h1 => cqPut_inv h1) hd1

theorem nvPost_inv {fn sq cid status dw0 seq : Nat} (h : Inv d) : Inv (d.nvPost fn sq cid status dw0 seq) := by
  unfold Chip.nvPost
  split
  · exact h
  · exact cqPut_inv h

theorem syncLocks_inv (h : Inv d) : Inv (d.syncLocks) := sr_inv (sr_inv h)

theorem nvStart_inv {seq : Nat} {c : NvmeCmd} {n : NvmeNs} (h : Inv d) : Inv (d.nvStart seq c n) := by
  unfold Chip.nvStart
  extract_lets _ _ fin d1 d2 _ d3 _ _ d4 _ d5 _ _
  have hfin (d : Chip) (hd : Inv d) (code : Nat) : Inv (fin d code) := by
    unfold fin
    exact updItem_inv hd (fun _ => ⟨rfl, rfl⟩)
  have hd1 : Inv d1 := nv_inv h
  have hd2 : Inv d2 := updItem_inv hd1 (fun _ => ⟨rfl, rfl⟩)
  have hd3 : Inv d3 := noteRead_inv hd1
  have hd4 : Inv d4 := inv_ite (prpWrite_inv hd3) (inv_foldl (fun _ _ h1 => inv_ite h1 (prpWrite_inv h1)) hd3)
  have hd5 : Inv d5 := inv_ite (issueRead_inv hd1) hd1
  refine inv_ite (hfin _ hd1 _) (inv_ite (inv_ite (issueRead_inv hd2) hd2) (inv_ite (withdraw_inv hd1) ?_))
  split
  · exact hfin _ (count_inv hd4) _
  · exact hfin _ (count_inv (writeRange_inv hd5)) _
  · exact hfin _ (wr_inv hd1) _

theorem nvStartAll_inv (h : Inv d) : Inv (d.nvStartAll) := by
  unfold Chip.nvStartAll
  refine inv_ite h (inv_foldl ?_ h)
  intro d1 x h1
  split
  · exact h1
  · split
    · exact h1
    · extract_lets _
      exact inv_ite h1 (nvStart_inv h1)

theorem nvOut_inv {seq : Nat} {c : NvmeCmd} {n : NvmeNs} (h : Inv d) : Inv (d.nvOut seq c n) := by
  unfold Chip.nvOut
  extract_lets _ _
  exact inv_ite h (inv_ite (inv_ite h (updItem_inv (count_inv (prpWrite_inv h)) (fun _ => ⟨rfl, rfl⟩))) (inv_ite h (nv_inv h)))

theorem nvOutAll_inv (h : Inv d) : Inv (d.nvOutAll) := by
  unfold Chip.nvOutAll
  refine inv_foldl ?_ h
  intro d1 x h1
  split
  · exact h1
  · split
    · exact h1
    · exact nvOut_inv h1

theorem nvCqs_inv (h : Inv d) : Inv (d.nvCqs) := inv_foldl (fun _ _ h1 => inv_foldl (fun _ _ h2 => inv_ite h2 (cqFlush_inv h2)) h1) h

theorem nvDrop_inv (h : Inv d) : Inv (d.nvDrop) := nv_inv h

theorem nvDue_inv {act : Chip → Submit → Nat → Nat → Chip} (h : Inv d) (hact : ∀ e x1 x2 x3, Inv e → Inv (act e x1 x2 x3)) : Inv (d.nvDue act) := by
  unfold Chip.nvDue
  extract_lets _ d1
  have hd1 : Inv d1 := nv_inv h
  refine inv_foldl ?_ hd1
  intro d2 x h1
  extract_lets _ _ _ _ d3
  have hd3 : Inv d3 := inv_ite h1 (count_inv h1)
  refine inv_ite (inv_ite h1 (setCtl_inv h1)) ?_
  split
  · exact inv_ite (hact _ _ _ _ (setCtl_inv hd3)) (nvPost_inv (setCtl_inv hd3))
  · exact nvPost_inv hd3

theorem nvDeleted_inv {fn q : Nat} (h : Inv d) : Inv (d.nvDeleted fn q) := by
  unfold Chip.nvDeleted
  extract_lets _ _ d1
  have hd1 : Inv d1 := setCtl_inv h
  split
  · exact h
  · split
    · exact h
    · extract_lets _ d2
      have hd2 : Inv d2 := sr_inv (sr_inv (sr_inv hd1))
      exact inv_ite h (nvPost_inv hd2)

theorem nvReset_inv {fn : Nat} (h : Inv d) : Inv (d.nvReset fn) := by
  unfold Chip.nvReset
  extract_lets _ _ _ d1 d2
  have hd1 : Inv d1 := inv_ite h.elsewhere (sr_inv (wr_inv h))
  have hd2 : Inv d2 := inv_foldl (fun _ _ h1 => sr_inv (sr_inv (sr_inv h1))) hd1
  exact inv_ite h (setCtl_inv hd2)

theorem nvmeGo_inv (h : Inv d) : Inv (d.nvmeGo) := by
  unfold Chip.nvmeGo
  extract_lets d1 d2 d3
  have hd1 : Inv d1 := nvDue_inv (nvDue_inv h (fun _ _ _ _ h1 => fwActivate_inv h1)) (fun _ _ _ _ h1 => fwActivate_inv h1)
  have hd2 : Inv d2 := nvCqs_inv (nvDrop_inv hd1)
  have hd3 : Inv d3 := inv_foldl (fun _ _ h1 => nvReset_inv (inv_foldl (fun _ _ h2 => nvDeleted_inv h2) h1)) hd2
  exact syncLocks_inv (nvDrop_inv (nvOutAll_inv (nvStartAll_inv hd3)))

theorem nvResume_inv (h : Inv d) : Inv (d.nvResume) := inv_ite h (nvmeGo_inv h)

theorem execCompletionTimeout_inv {pf : Fin 2} {tag : BitVec 14} {s : State} (h : Inv s.chip) : OutInv (execCompletionTimeout pf tag s) :=
  on_inv (nvResume_inv (completionTimeout_inv h))

theorem execCompletionArrival_inv {pf : Fin 2} {tag : BitVec 14} {ok : Bool} {s : State} (h : Inv s.chip) :
    OutInv (execCompletionArrival pf tag ok s) :=
  on_inv (nvResume_inv (completionArrival_inv h))

theorem execHifFreezeRelease_inv {pf : Fin 2} {s : State} (h : Inv s.chip) : OutInv (execHifFreezeRelease pf s) :=
  on_inv (nvResume_inv (freezeRelease_inv h))

theorem execRelease_inv {pf : Fin 2} {s : State} (h : Inv s.chip) : OutInv (execRelease pf s) :=
  on_inv (answered_inv (nvResume_inv (freezeRelease_inv h)))

theorem execBusMasterEnableSet_inv {fn : Fin 128} {s : State} (h : Inv s.chip) : OutInv (execBusMasterEnableSet fn s) :=
  on_inv (nvResume_inv (hostResume_inv (setMaster_inv h)))

theorem nvDoorbellBad_inv (h : Inv d) : Inv (d.nvDoorbellBad) := fault_inv (count_inv h)

theorem sqDoorbell_inv {fn q tail : Nat} (h : Inv d) : Inv (d.sqDoorbell fn q tail) := by
  unfold Chip.sqDoorbell
  extract_lets _
  split
  · exact nvDoorbellBad_inv h
  · exact inv_ite (nvDoorbellBad_inv h) (setCtl_inv h)

theorem cqDoorbell_inv {fn q head : Nat} (h : Inv d) : Inv (d.cqDoorbell fn q head) := by
  unfold Chip.cqDoorbell
  extract_lets _
  split
  · exact nvDoorbellBad_inv h
  · exact inv_ite (nvDoorbellBad_inv h) (nvmeGo_inv (cqFlush_inv (setCtl_inv h)))

theorem nvWake_inv (h : Inv d) : Inv (d.nvWake) := wake_inv (inv_ite (count_inv h) h)

theorem execNvmeSqDoorbell_inv {fn : Fin 128} {qid tail : BitVec 16} {s : State} (h : Inv s.chip) : OutInv (execNvmeSqDoorbell fn qid tail s) :=
  on_inv (inv_ite h (sqDoorbell_inv (nvWake_inv h)))

theorem execNvmeCqDoorbell_inv {fn : Fin 128} {qid head : BitVec 16} {s : State} (h : Inv s.chip) : OutInv (execNvmeCqDoorbell fn qid head s) :=
  on_inv (inv_ite h (cqDoorbell_inv (nvWake_inv h)))

theorem nvmeFetch_inv (h : Inv d) : Inv (nvmeFetch d) := by
  unfold nvmeFetch
  extract_lets _ _
  refine inv_ite h ?_
  split
  · exact h
  · split
    · exact h
    · extract_lets _ d1
      have hd1 : Inv d1 := setCtl_inv h
      exact inv_ite (fault_inv (setCtl_inv h)) (nv_inv hd1)

theorem execNvmeCommandFetch_inv {s : State} (h : Inv s.chip) : OutInv (execNvmeCommandFetch s) := on_inv (nvmeFetch_inv h)

theorem nvTake_inv {fn q : Nat} {k : Chip → Chip} (h : Inv d) (hk : ∀ e, Inv e → Inv (k e)) : Inv (d.nvTake fn q k) :=
  inv_ite h (nvmeGo_inv (hk _ (nv_inv h)))

theorem nvAdmin_inv {fn cid : Nat} {k : Chip → Chip × Nat × Nat} (h : Inv d) (hk : ∀ e, Inv e → Inv (k e).1) : Inv (d.nvAdmin fn cid k) :=
  nvTake_inv h (fun _ h1 => nvPost_inv (finish_inv (hk _ (accept_inv _ _ _ h1))))

theorem nvPairs_inv {pf : Nat} (h : Inv d) : Inv (d.nvPairs pf) := inv_foldl (fun _ _ h1 => updCtl_inv h1) h

theorem createCq_inv {fn qid size prp1 vector : Nat} {ien pc : Bool} (h : Inv d) : Inv (createCq d fn qid size prp1 vector ien pc).1 := by
  unfold createCq
  extract_lets _ _
  split
  · exact h
  · split
    · exact h
    · split
      · exact h
      · split
        · exact h
        · split
          · exact h
          · exact setCtl_inv h

theorem execCreateIoCq_inv {fn : Fin 128} {cid qid size : BitVec 16} {prp1 : Nat} {vector : BitVec 16} {interrupts contiguous : Bool} {s : State}
    (h : Inv s.chip) : OutInv (execCreateIoCq fn cid qid size prp1 vector interrupts contiguous s) :=
  on_inv (nvAdmin_inv h (fun _ h1 => createCq_inv h1))

theorem createSq_inv {fn qid size prp1 prio cqid : Nat} {pc : Bool} (h : Inv d) : Inv (createSq d fn qid size prp1 prio cqid pc).1 := by
  unfold createSq
  extract_lets _ g
  split
  · exact h
  · split
    · exact h
    · split
      · exact h
      · split
        · exact h
        · clear_value g
          split
          · extract_lets d1
            have hd1 : Inv d1 := setCtl_inv h
            exact sr_inv (sr_inv (sr_inv hd1))
          · exact h

theorem execCreateIoSq_inv {fn : Fin 128} {cid qid size : BitVec 16} {prp1 : Nat} {prio : Fin 4} {cqid : BitVec 16} {contiguous : Bool} {s : State}
    (h : Inv s.chip) : OutInv (execCreateIoSq fn cid qid size prp1 prio cqid contiguous s) :=
  on_inv (nvAdmin_inv h (fun _ h1 => createSq_inv h1))

theorem deleteSq_inv {fn cid qid : Nat} (h : Inv d) : Inv (deleteSq d fn cid qid) := by
  unfold deleteSq
  refine nvTake_inv h ?_
  intro e h1
  extract_lets _ d1 _
  have hd1 : Inv d1 := accept_inv _ _ _ h1
  split
  · exact nvPost_inv (finish_inv hd1)
  · extract_lets d2 d3 d4
    have hd2 : Inv d2 := setCtl_inv hd1
    have hd3 : Inv d3 := nv_inv hd2
    have hd4 : Inv d4 := inv_foldl (fun _ _ h2 => withdraw_inv h2) hd3
    exact finish_inv hd4

theorem execDeleteIoSq_inv {fn : Fin 128} {cid qid : BitVec 16} {s : State} (h : Inv s.chip) : OutInv (execDeleteIoSq fn cid qid s) :=
  on_inv (deleteSq_inv h)

theorem deleteCq_inv {fn qid : Nat} (h : Inv d) : Inv (deleteCq d fn qid).1 := by
  unfold deleteCq
  extract_lets _
  split
  · exact h
  · split
    · exact h
    · exact setCtl_inv h

theorem execDeleteIoCq_inv {fn : Fin 128} {cid qid : BitVec 16} {s : State} (h : Inv s.chip) : OutInv (execDeleteIoCq fn cid qid s) :=
  on_inv (nvAdmin_inv h (fun _ h1 => deleteCq_inv h1))

theorem identify_inv {fn cns nsid : Nat} {prps : List Nat} (h : Inv d) : Inv (identify d fn cns nsid prps).1 := by
  unfold identify
  split
  · exact prpWrite_inv (takeFree_inv h)
  · exact h

theorem execIdentify_inv {fn : Fin 128} {cid : BitVec 16} {cns : BitVec 8} {nsid : BitVec 32} {prps : List Nat} {s : State} (h : Inv s.chip) :
    OutInv (execIdentify fn cid cns nsid prps s) :=
  on_inv (nvAdmin_inv h (fun _ h1 => identify_inv h1))

theorem getLogPage_inv {fn lid numd : Nat} {prps : List Nat} (h : Inv d) : Inv (getLogPage d fn lid numd prps).1 := by
  unfold getLogPage
  extract_lets _ _ _
  split
  · exact h
  · exact prpWrite_inv (takeFree_inv h)

theorem execGetLogPage_inv {fn : Fin 128} {cid : BitVec 16} {lid : BitVec 8} {numd : BitVec 16} {prps : List Nat} {s : State} (h : Inv s.chip) :
    OutInv (execGetLogPage fn cid lid numd prps s) :=
  on_inv (nvAdmin_inv h (fun _ h1 => getLogPage_inv h1))

theorem setFeatures_inv {fn fid v : Nat} (h : Inv d) : Inv (setFeatures d fn fid v).1 := by
  unfold setFeatures
  split
  · exact h
  · split
    · split
      · exact h
      · exact h
    · split
      · exact h
      · split
        · exact h
        · exact updCtl_inv h

theorem execSetFeatures_inv {fn : Fin 128} {cid : BitVec 16} {fid : BitVec 8} {value : BitVec 32} {s : State} (h : Inv s.chip) :
    OutInv (execSetFeatures fn cid fid value s) :=
  on_inv (nvAdmin_inv h (fun _ h1 => setFeatures_inv h1))

theorem getFeatures_inv {fn fid : Nat} (h : Inv d) : Inv (getFeatures d fn fid).1 := by
  unfold getFeatures
  split
  · exact h
  · split
    · exact h
    · exact h

theorem execGetFeatures_inv {fn : Fin 128} {cid : BitVec 16} {fid : BitVec 8} {s : State} (h : Inv s.chip) : OutInv (execGetFeatures fn cid fid s) :=
  on_inv (nvAdmin_inv h (fun _ h1 => getFeatures_inv h1))

theorem execInvalidCommandOpcode_inv {fn : Fin 128} {qid cid : BitVec 16} {s : State} (h : Inv s.chip) :
    OutInv (execInvalidCommandOpcode fn qid cid s) :=
  on_inv (nvTake_inv h (fun _ h1 => nvPost_inv h1))

theorem imageDownload_inv {fn numd ofst : Nat} {prps data : List Nat} (h : Inv d) : Inv (imageDownload d fn numd ofst prps data).1 := by
  unfold imageDownload
  extract_lets _ _ _ d1
  have hd1 : Inv d1 := updCtl_inv (writeRange_inv h)
  split
  · exact h
  · split
    · exact h
    · exact hd1

theorem execFirmwareImageDownload_inv {fn : Fin 128} {cid : BitVec 16} {numd ofst : BitVec 32} {prps : List Nat} {data : List (BitVec 8)} {s : State}
    (h : Inv s.chip) : OutInv (execFirmwareImageDownload fn cid numd ofst prps data s) :=
  on_inv (nvAdmin_inv h (fun _ h1 => imageDownload_inv h1))

theorem firmwareCommit_inv {fn cid fs ca : Nat} {flashOk : Bool} (h : Inv d) : Inv (firmwareCommit d fn cid fs ca flashOk) := by
  unfold firmwareCommit
  refine nvTake_inv h ?_
  intro e h1
  extract_lets _ _ _ _ d1
  have hd1 : Inv d1 := inv_ite h1 (updCtl_inv h1)
  exact inv_ite (nvPost_inv h1) (inv_ite (nvPost_inv h1) (inv_ite (nvPost_inv h1) (inv_ite (fwActivate_inv h1) (fwStage_inv hd1))))

theorem execFirmwareCommit_inv {fn : Fin 128} {cid : BitVec 16} {fs ca : Fin 8} {flashOk : Bool} {s : State} (h : Inv s.chip) :
    OutInv (execFirmwareCommit fn cid fs ca flashOk s) :=
  on_inv (served_inv h (fun _ h1 => firmwareCommit_inv h1))

theorem nvIo_inv {fn q cid op nsid slba count : Nat} {prps data : List Nat} (h : Inv d) : Inv (nvIo d fn q cid op nsid slba count prps data) := by
  unfold nvIo
  extract_lets _ _
  refine inv_ite h (nvTake_inv h ?_)
  intro e h1
  split
  · exact nvPost_inv h1
  · extract_lets _ d1 _ _ d2 d3
    have hd1 : Inv d1 := accept_inv _ _ _ h1
    have hd2 : Inv d2 := inv_ite (count_inv hd1) hd1
    have hd3 : Inv d3 := inv_ite (count_inv hd2) (inv_ite (count_inv hd2) hd2)
    exact inv_ite (nvPost_inv h1) (inv_ite (nvPost_inv h1) (inv_ite (nvPost_inv h1) (nv_inv hd3)))

theorem execNvmeRead_inv {fn : Fin 128} {qid cid : BitVec 16} {nsid : BitVec 32} {slba : Word} {nlb : BitVec 16} {prps : List Nat} {s : State}
    (h : Inv s.chip) : OutInv (execNvmeRead fn qid cid nsid slba nlb prps s) :=
  on_inv (nvIo_inv h)

theorem execNvmeWrite_inv {fn : Fin 128} {qid cid : BitVec 16} {nsid : BitVec 32} {slba : Word} {nlb : BitVec 16} {prps : List Nat}
    {data : List (BitVec 8)} {s : State} (h : Inv s.chip) : OutInv (execNvmeWrite fn qid cid nsid slba nlb prps data s) :=
  on_inv (nvIo_inv h)

theorem execNvmeFlush_inv {fn : Fin 128} {qid cid : BitVec 16} {nsid : BitVec 32} {s : State} (h : Inv s.chip) :
    OutInv (execNvmeFlush fn qid cid nsid s) :=
  on_inv (nvIo_inv h)

theorem execWriteZeroes_inv {fn : Fin 128} {qid cid : BitVec 16} {nsid : BitVec 32} {slba : Word} {nlb : BitVec 16} {s : State} (h : Inv s.chip) :
    OutInv (execWriteZeroes fn qid cid nsid slba nlb s) :=
  on_inv (nvIo_inv h)

theorem ccEnSet_inv {fn : Nat} (h : Inv d) : Inv (ccEnSet d fn) := by
  unfold ccEnSet
  extract_lets _ _ _ _
  refine inv_ite h ?_
  split
  · exact setCtl_inv h
  · exact setCtl_inv h

theorem nvDisable_inv {fn : Nat} (h : Inv d) : Inv (d.nvDisable fn) := inv_ite h (inv_foldl (fun _ _ h1 => withdraw_inv h1) (nv_inv (setCtl_inv h)))

theorem execCcEnSet_inv {fn : Fin 128} {s : State} (h : Inv s.chip) : OutInv (execCcEnSet fn s) := on_inv (ccEnSet_inv h)

theorem execCcEnClear_inv {fn : Fin 128} {s : State} (h : Inv s.chip) : OutInv (execCcEnClear fn s) := on_inv (nvmeGo_inv (nvDisable_inv h))

theorem execNvmSubsystemReset_inv {fn : Fin 128} {s : State} (h : Inv s.chip) : OutInv (execNvmSubsystemReset fn s) :=
  on_inv (nvmeGo_inv (nvDisable_inv h))

theorem execVfEnableSet_inv {pf : Fin 2} {num : Fin 64} {s : State} (h : Inv s.chip) : OutInv (execVfEnableSet pf num s) :=
  on_inv (nvPairs_inv (vfEnable_inv h))

theorem execFunctionLevelReset_inv {fn : Fin 128} {s : State} (h : Inv s.chip) : OutInv (execFunctionLevelReset fn s) :=
  on_inv (inv_ite (nvmeGo_inv (flr_inv h)) h)

theorem execVfFlr_inv {pf : Fin 2} {vf : Fin 64} {s : State} (h : Inv s.chip) : OutInv (execVfFlr pf vf s) :=
  on_inv (inv_ite (answered_inv (nvmeGo_inv (flr_inv h))) (answered_inv h))

theorem nvUnpair_inv {pf : Nat} (h : Inv d) : Inv (d.nvUnpair pf) := nv_inv h

theorem execVfEnableClear_inv {pf : Fin 2} {s : State} (h : Inv s.chip) : OutInv (execVfEnableClear pf s) :=
  on_inv (nvmeGo_inv (nvUnpair_inv (vfDisable_inv h)))

theorem execFlrComplete_inv {fn : Fin 128} {s : State} (h : Inv s.chip) : OutInv (execFlrComplete fn s) := on_inv (flrComplete_inv h)

theorem nvsEffect_inv {seq op : Nat} {x : Desc} (h : Inv d) : Inv (d.nvsEffect seq op x) := by
  unfold Chip.nvsEffect
  extract_lets _ d1
  have hd1 : Inv d1 := nv_inv h
  split
  · exact nv_inv hd1
  · exact nv_inv hd1
  · exact nv_inv hd1
  · exact nv_inv hd1
  · exact hd1

theorem nsSet_inv {src : Submit} {record : Nat} (h : Inv d) : Inv (nsSet d src record) := by
  unfold nsSet
  refine withRecord_inv h ?_
  intro e h1
  extract_lets _ _ _ d1 _
  have hd1 : Inv d1 := acceptCmd_inv _ _ _ _ _ _ _ h1
  exact inv_ite (refuse_inv h1) (inv_ite (refuse_inv h1) (finishWith_inv (nv_inv hd1) (fun _ h2 => nvsEffect_inv h2)))

theorem execNvsNsSet_inv {src : Submit} {record : Nat} {s : State} (h : Inv s.chip) : OutInv (execNvsNsSet src record s) :=
  on_inv (served_inv h (fun _ h1 => submit_inv _ _ _ _ _ _ (fun _ h2 => nsSet_inv h2) h1))

theorem nsClear_inv {src : Submit} {k : Nat} (h : Inv d) : Inv (nsClear d src k) := by
  unfold nsClear
  extract_lets _ d1 _
  have hd1 : Inv d1 := acceptCmd_inv _ _ _ _ _ _ _ h
  exact inv_ite (refuse_inv h) (inv_ite (refuse_inv h) (finishWith_inv hd1 (fun _ h1 => nvsEffect_inv h1)))

theorem execNvsNsClear_inv {src : Submit} {index : BitVec 16} {s : State} (h : Inv s.chip) : OutInv (execNvsNsClear src index s) :=
  on_inv (served_inv h (fun _ h1 => submit_inv _ _ _ _ _ _ (fun _ h2 => nsClear_inv h2) h1))

theorem targetSet_inv {src : Submit} {record : Nat} (h : Inv d) : Inv (targetSet d src record) := by
  unfold targetSet
  refine withRecord_inv h ?_
  intro e h1
  extract_lets _ _ d1 _
  have hd1 : Inv d1 := acceptCmd_inv _ _ _ _ _ _ _ h1
  exact inv_ite (refuse_inv h1) (inv_ite (refuse_inv h1) (nv_inv hd1))

theorem execNvsTargetSet_inv {src : Submit} {record : Nat} {s : State} (h : Inv s.chip) : OutInv (execNvsTargetSet src record s) :=
  on_inv (served_inv h (fun _ h1 => submit_inv _ _ _ _ _ _ (fun _ h2 => targetSet_inv h2) h1))

theorem targetConnected_inv {t : Nat} (h : Inv d) : Inv (targetConnected d t) := by
  unfold targetConnected
  split
  · exact h
  · extract_lets _
    exact inv_ite h (finishWith_inv h (fun _ h1 => nvsEffect_inv h1))

theorem execTargetConnectComplete_inv {t : BitVec 8} {s : State} (h : Inv s.chip) : OutInv (execTargetConnectComplete t s) :=
  on_inv (targetConnected_inv h)

theorem targetClear_inv {src : Submit} {t : Nat} (h : Inv d) : Inv (targetClear d src t) :=
  inv_ite (refuse_inv h) (finishWith_inv (acceptCmd_inv _ _ _ _ _ _ _ h) (fun _ h1 => nvsEffect_inv h1))

theorem execNvsTargetClear_inv {src : Submit} {t : BitVec 8} {s : State} (h : Inv s.chip) : OutInv (execNvsTargetClear src t s) :=
  on_inv (served_inv h (fun _ h1 => submit_inv _ _ _ _ _ _ (fun _ h2 => targetClear_inv h2) h1))

theorem targetLost_inv {t : Nat} (h : Inv d) : Inv (d.targetLost t) :=
  inv_ite h (nvmeGo_inv (inv_foldl (fun _ _ h1 => withdraw_inv h1) (fault_inv (count_inv (nv_inv h)))))

theorem backendCompletion_inv {seq sct sc : Nat} {data : List Nat} (h : Inv d) : Inv (backendCompletion d seq sct sc data) := by
  unfold backendCompletion
  split
  · extract_lets _ d1 _ done
    have hd1 : Inv d1 := nv_inv h
    have hdone (d : Chip) (hd : Inv d) : Inv (done d) := by
      unfold done
      exact updItem_inv hd (fun _ => ⟨rfl, rfl⟩)
    exact inv_ite (hdone _ (nv_inv hd1)) (inv_ite (nvOutAll_inv (nv_inv hd1)) (hdone _ (inv_ite (count_inv hd1) hd1)))
  · exact h

theorem execBackendCompletion_inv {seq : Nat} {sct : Fin 8} {sc : BitVec 8} {data : List (BitVec 8)} {s : State} (h : Inv s.chip) :
    OutInv (execBackendCompletion seq sct sc data s) :=
  on_inv (backendCompletion_inv h)

theorem backendTimeout_inv {seq : Nat} (h : Inv d) : Inv (backendTimeout d seq) := by
  unfold backendTimeout
  split
  · exact h
  · extract_lets d1 _ d2 d3
    have hd1 : Inv d1 := count_inv h
    have hd2 : Inv d2 := nv_inv hd1
    have hd3 : Inv d3 := inv_ite (nvmeGo_inv (withdraw_inv hd2)) hd2
    exact inv_ite h (inv_ite (targetLost_inv hd3) hd3)

theorem execBackendTimeout_inv {seq : Nat} {s : State} (h : Inv s.chip) : OutInv (execBackendTimeout seq s) := on_inv (backendTimeout_inv h)

theorem execTargetReconnect_inv {t : BitVec 8} {ok : Bool} {s : State} (h : Inv s.chip) : OutInv (execTargetReconnect t ok s) := by
  unfold execTargetReconnect
  refine on_inv ?_
  split
  · exact h
  · exact inv_ite h (nv_inv h)

theorem execTargetDrop_inv {t : BitVec 8} {s : State} (h : Inv s.chip) : OutInv (execTargetDrop t s) := on_inv (answered_inv (targetLost_inv h))

theorem nvPropWrite_inv {fn off v : Nat} (h : Inv d) : Inv (d.nvPropWrite fn off v) := by
  unfold Chip.nvPropWrite
  extract_lets _ d1
  have hd1 : Inv d1 := setCtl_inv h
  split
  · exact inv_ite (inv_ite hd1 (ccEnSet_inv hd1)) (nvmeGo_inv (nvDisable_inv hd1))
  · exact inv_ite (nvmeGo_inv (nvDisable_inv h)) h
  · exact inv_ite h (setCtl_inv h)
  · exact inv_ite h (setCtl_inv h)
  · exact inv_ite h (setCtl_inv h)
  · exact inv_ite h (setCtl_inv h)
  · exact inv_ite h (setCtl_inv h)
  · exact setCtl_inv h
  · exact setCtl_inv h
  · exact inv_ite h (inv_ite (sqDoorbell_inv (nvWake_inv h)) (cqDoorbell_inv (nvWake_inv h)))

/-! ### Checkpoint, restore and elasticity (chapter 16) -/

theorem ck_inv {f : CkpUnit → CkpUnit} (h : Inv d) : Inv (d.ck f) := h.elsewhere

theorem setJob_inv {j : Nat} {x : CkpJob} (h : Inv d) : Inv (d.setJob j x) := ck_inv h

theorem setCkpRun_inv {j : Nat} {r : CkpRun} (h : Inv d) : Inv (d.setCkpRun j r) := ck_inv h

theorem ckpEffect_inv {seq op : Nat} {x : Desc} (h : Inv d) : Inv (d.ckpEffect seq op x) := by
  unfold Chip.ckpEffect
  split
  · extract_lets _ _
    exact sr_inv (setJob_inv h)
  · extract_lets _ d1 d2
    have hd1 : Inv d1 := ck_inv h
    have hd2 : Inv d2 := sr_inv (sr_inv (sr_inv hd1))
    exact sr_inv (sr_inv (sr_inv hd2))
  · extract_lets _
    exact ck_inv h
  · exact h

theorem ckpAccept_inv {src : Submit} {op : Nat} {ws : List Nat} (h : Inv d) : Inv (d.ckpAccept src op ws).1 := acceptCmd_inv _ _ _ _ _ _ _ h

theorem jobSet_inv {src : Submit} {record : Nat} (h : Inv d) : Inv (jobSet d src record) := by
  unfold jobSet
  refine withRecord_inv h ?_
  intro e h1
  extract_lets _ _ _ d1
  have hd1 : Inv d1 := inv_ite (noteRead_inv h1) h1
  refine inv_ite (refuse_inv hd1) (inv_ite (refuse_inv hd1) (inv_ite (refuse_inv hd1) ?_))
  split
  · rename_i x d2 q x1 e1
    have hd2 : Inv d2 := (ckpAccept_inv hd1).of_fst e1
    extract_lets d3
    have hd3 : Inv d3 := ck_inv hd2
    exact finishWith_inv hd3 (fun _ h2 => ckpEffect_inv h2)

theorem execCkpJobSet_inv {src : Submit} {record : Nat} {s : State} (h : Inv s.chip) : OutInv (execCkpJobSet src record s) :=
  on_inv (submit_inv _ _ _ _ _ _ (fun _ h1 => jobSet_inv h1) h)

theorem jobClear_inv {src : Submit} {j : Nat} (h : Inv d) : Inv (jobClear d src j) := by
  unfold jobClear
  refine inv_ite (refuse_inv h) (inv_ite (refuse_inv h) ?_)
  split
  · rename_i x d1 q x1 e
    have hd1 : Inv d1 := (ckpAccept_inv h).of_fst e
    exact finishWith_inv hd1 (fun _ h1 => ckpEffect_inv h1)

theorem execCkpJobClear_inv {src : Submit} {job : BitVec 8} {s : State} (h : Inv s.chip) : OutInv (execCkpJobClear src job s) :=
  on_inv (submit_inv _ _ _ _ _ _ (fun _ h1 => jobClear_inv h1) h)

theorem ckpAbandon_inv {j reason : Nat} (h : Inv d) : Inv (d.ckpAbandon j reason) := by
  unfold Chip.ckpAbandon
  split
  · exact h
  · exact withdraw_inv h

theorem ckpAbort_inv {src : Submit} {j : Nat} (h : Inv d) : Inv (ckpAbort d src j) := by
  unfold ckpAbort
  split
  · exact refuse_inv h
  · refine inv_ite (refuse_inv h) ?_
    split
    · rename_i x d1 q x1 e
      have hd1 : Inv d1 := (ckpAccept_inv h).of_fst e
      extract_lets _
      exact finish_inv (ckpAbandon_inv hd1)

theorem execCkpAbort_inv {src : Submit} {job : BitVec 8} {s : State} (h : Inv s.chip) : OutInv (execCkpAbort src job s) :=
  on_inv (submit_inv _ _ _ _ _ _ (fun _ h1 => ckpAbort_inv h1) h)

theorem execJobAbandon_inv {job : Fin 64} {s : State} (h : Inv s.chip) : OutInv (execJobAbandon job s) := on_inv (answered_inv (ckpAbandon_inv h))

theorem ckpStep_inv {src : Submit} {j step : Nat} (h : Inv d) : Inv (ckpStep d src j step) := by
  unfold ckpStep
  split
  · exact refuse_inv h
  · extract_lets _
    refine inv_ite (refuse_inv h) ?_
    split
    · rename_i x d1 q x1 e
      have hd1 : Inv d1 := (ckpAccept_inv h).of_fst e
      exact inv_ite (updItem_inv hd1 (fun _ => ⟨rfl, rfl⟩)) (setJob_inv hd1)

theorem execCkpStep_inv {src : Submit} {job : BitVec 8} {step : Word} {s : State} (h : Inv s.chip) : OutInv (execCkpStep src job step s) :=
  on_inv (inv_ite h (submit_inv _ _ _ _ _ _ (fun _ h1 => ckpStep_inv h1) h))

theorem ckpNow_inv {src : Submit} {j flags : Nat} (h : Inv d) : Inv (ckpNow d src j flags) := by
  unfold ckpNow
  split
  · exact refuse_inv h
  · refine inv_ite (refuse_inv h) (inv_ite (refuse_inv h) ?_)
    split
    · rename_i x d1 q x1 e
      have hd1 : Inv d1 := (ckpAccept_inv h).of_fst e
      exact finishWith_inv hd1 (fun _ h1 => ckpEffect_inv h1)

theorem execCkpNow_inv {src : Submit} {job flags : BitVec 8} {s : State} (h : Inv s.chip) : OutInv (execCkpNow src job flags s) :=
  on_inv (submit_inv _ _ _ _ _ _ (fun _ h1 => ckpNow_inv h1) h)

theorem ckpStart_inv {j : Nat} {x : CkpJob} {step : Nat} {askedFull : Bool} (h : Inv d) : Inv (d.ckpStart j x step askedFull) :=
  setJob_inv (sr_inv (sr_inv (sr_inv (sr_inv (sr_inv (accept_inv _ _ _ h))))))

theorem stepFence_inv {j : Nat} (h : Inv d) : Inv (d.stepFence j) := by
  unfold Chip.stepFence
  split
  · exact h
  · split
    · exact h
    · extract_lets d1 d2 d3
      have hd1 : Inv d1 := sr_inv (setJob_inv h)
      have hd2 : Inv d2 := finish_inv hd1
      have hd3 : Inv d3 := by
        unfold d3
        split
        · exact hd2
        · extract_lets _
          exact inv_ite hd2 (inv_ite (note_inv (count_inv hd2)) (inv_ite hd2 (ck_inv (setJob_inv hd2))))
      refine inv_ite h ?_
      split
      · exact hd3
      · split
        · exact inv_ite (ckpStart_inv hd3) hd3
        · exact hd3

theorem checkpointNotice_inv {j step : Nat} {full : Bool} (h : Inv d) : Inv (checkpointNotice d j step full) := by
  unfold checkpointNotice
  split
  · exact h
  · extract_lets d1
    have hd1 : Inv d1 := fault_inv h
    exact inv_ite (inv_ite (ckpAbandon_inv hd1) (count_inv (sr_inv hd1))) (setJob_inv h)

theorem execCheckpointNotice_inv {job : Fin 64} {step : Word × Bool} {s : State} (h : Inv s.chip) : OutInv (execCheckpointNotice job step s) :=
  on_inv (checkpointNotice_inv h)

theorem cowWriteCmd_inv {a : Nat} {bs : List Nat} (h : Inv d) : Inv (cowWriteCmd d a bs) := inv_ite h (inv_ite (count_inv h) (wr_inv h))

theorem execCowWrite_inv {addr : Nat} {data : List (BitVec 8)} {s : State} (h : Inv s.chip) : OutInv (execCowWrite addr data s) :=
  on_inv (cowWriteCmd_inv h)

theorem cursorNext_inv {j : Nat} {x : CkpJob} (h : Inv d) : Inv (d.cursorNext j x) := by
  unfold Chip.cursorNext
  extract_lets _ _ _ d1 d2
  have hd1 : Inv d1 := sr_inv (sr_inv h)
  have hd2 : Inv d2 := by
    unfold d2
    split
    · exact setCkpRun_inv hd1
    · exact hd1
  exact inv_ite (sr_inv h) (inv_ite hd1 (sr_inv hd2))

theorem walkRate_inv {j : Nat} (h : Inv d) : Inv (d.walkRate j) := by
  unfold Chip.walkRate
  split
  · exact h
  · split
    · exact h
    · exact setCkpRun_inv h

theorem walkerVisit_inv {j : Nat} (h : Inv d) : Inv (walkerVisit d j) := by
  unfold walkerVisit
  split
  · exact h
  · split
    · exact h
    · extract_lets _ _ _ _ _ d1
      have hd1 : Inv d1 := charge_inv h
      refine inv_ite h (inv_ite (cursorNext_inv (setPte_inv h)) (inv_ite (cursorNext_inv h) ?_))
      split
      · exact h
      · extract_lets d2
        have hd2 : Inv d2 := ckpCopy_inv hd1
        exact inv_ite h (cursorNext_inv (setPte_inv hd2))

theorem execWalkerVisit_inv {job : Fin 64} {s : State} (h : Inv s.chip) : OutInv (execWalkerVisit job s) := on_inv (walkerVisit_inv h)

theorem batchHashed_inv {j : Nat} (h : Inv d) : Inv (batchHashed d j) := by
  unfold batchHashed
  split
  · exact h
  · split
    · exact h
    · extract_lets _ _ _ _ _ d1
      have hd1 : Inv d1 := inv_ite (fault_inv h) h
      exact inv_ite h (setCkpRun_inv hd1)

theorem execBatchHashed_inv {job : Fin 64} {s : State} (h : Inv s.chip) : OutInv (execBatchHashed job s) := on_inv (batchHashed_inv h)

theorem storePut_inv {j : Nat} {x : CkpJob} {bs : List Nat} {r : Chip × Nat} (h : Inv d) (e : d.storePut j x bs = some r) : Inv r.1 := by
  unfold Chip.storePut at e
  extract_lets n head tail used pad at e
  split at e
  · cases e
  · cases e
    exact count_inv (sr_inv (charge_inv (ck_inv h)))

/-- A fold that may stop keeps what each of its steps keeps. -/
theorem inv_foldl_option {α β : Type} {f : Option (Chip × β) → α → Option (Chip × β)} {l : List α} {o : Option (Chip × β)}
    (hf : ∀ o x, (∀ r, o = some r → Inv r.1) → ∀ r, f o x = some r → Inv r.1) (h : ∀ r, o = some r → Inv r.1) :
    ∀ r, l.foldl f o = some r → Inv r.1 := by
  induction l generalizing o with
  | nil => exact h
  | cons x l ih => exact ih (hf o x h)

theorem shard_inv {x : CkpJob} {r : CkpRun} {caps : List CkpCap} {key : List Nat} {y : Chip × List Nat} (h : Inv d)
    (e : d.shard x r caps key = some y) :
    Inv y.1 := by
  unfold Chip.shard at e
  extract_lets one at e
  have hone : ∀ o c, (∀ r, o = some r → Inv r.1) → ∀ r, one o c = some r → Inv r.1 := fun o c ho r hr => by
    simp only [one] at hr
    split at hr
    · cases hr
    · split at hr
      · cases hr
      · next hv =>
        cases hr
        exact ctxCounter_inv (ho _ rfl) hv
  clear_value one
  split at e
  · cases e
  · next hc =>
    cases e
    exact inv_foldl_option hone (fun _ hr => by cases hr; exact h) _ hc

theorem ckpPoison_inv {j : Nat} {x : CkpJob} {r : CkpRun} {g : List Nat} (h : Inv d) : Inv (d.ckpPoison j x r g).1 := by
  unfold Chip.ckpPoison
  extract_lets _ _
  split
  · exact setCkpRun_inv (fault_inv h)
  · exact h

theorem writeShards_inv {j : Nat} {gs : List (List Nat)} (h : Inv d) : Inv (d.writeShards j gs) := by
  induction gs generalizing d with
  | nil => exact h
  | cons g gs ih =>
    unfold Chip.writeShards
    split
    · exact h
    · split
      · exact h
      · refine inv_ite h ?_
        split
        next hp =>
        have poisoned := (ckpPoison_inv h).of_fst hp
        refine inv_ite (ih poisoned) ?_
        split
        · exact ckpAbandon_inv poisoned
        · next hs =>
          obtain ⟨_, _, hs⟩ := Option.bind_eq_some_iff.mp hs
          have written := shard_inv poisoned hs
          split
          · exact ckpAbandon_inv written
          · next hp => exact ih (count_inv (setCkpRun_inv (storePut_inv written hp)))

theorem ckpWrites_inv {j : Nat} (h : Inv d) : Inv (d.ckpWrites j) := by
  unfold Chip.ckpWrites
  split
  · exact h
  · split
    · exact h
    · extract_lets _
      exact writeShards_inv h

theorem exchangeRound_inv {j : Nat} {writers : List Nat} (h : Inv d) : Inv (exchangeRound d j writers) := by
  unfold exchangeRound
  split
  · exact h
  · split
    · exact h
    · split
      · exact h
      · extract_lets _ _ _ _ _ d1 d2
        have hd1 : Inv d1 := sr_inv (setCkpRun_inv h)
        have hd2 : Inv d2 := count_inv hd1
        exact inv_ite h (ckpWrites_inv hd2)

theorem execHashExchangeRound_inv {job : Fin 64} {writers : List Nat} {s : State} (h : Inv s.chip) : OutInv (execHashExchangeRound job writers s) :=
  on_inv (exchangeRound_inv h)

theorem writerConfirm_inv {j k rank : Nat} {places : List (Nat × Nat × Nat)} {ok : Bool} (h : Inv d) : Inv (writerConfirm d j k rank places ok) := by
  unfold writerConfirm
  split
  · exact h
  · refine inv_ite (ckpAbandon_inv (fault_inv h)) ?_
    split
    · exact h
    · extract_lets _ _ _
      refine inv_ite h ?_
      split
      · extract_lets d1
        have hd1 : Inv d1 := setCkpRun_inv h
        exact inv_ite (mr_inv hd1) hd1

theorem execWriterConfirm_inv {job : Fin 64} {batch rank : Nat} {places : List (Nat × Nat × Nat)} {ok : Bool} {s : State} (h : Inv s.chip) :
    OutInv (execWriterConfirm job batch rank places ok s) :=
  on_inv (writerConfirm_inv h)

theorem nodeLost_inv {j rank : Nat} {writers : List (Nat × Nat)} {covered : Bool} (h : Inv d) : Inv (nodeLost d j rank writers covered) := by
  unfold nodeLost
  split
  · exact h
  · split
    · exact h
    · extract_lets d1 _ _ _ _ d2
      have hd1 : Inv d1 := fault_inv h
      have hd2 : Inv d2 := count_inv (setCkpRun_inv hd1)
      exact inv_ite h (inv_ite (ckpAbandon_inv hd1) (inv_ite (ckpAbandon_inv (setCkpRun_inv hd1)) (ckpWrites_inv hd2)))

theorem execNodeLost_inv {job : Fin 64} {rank : Nat} {writers : List (Nat × Nat) × Bool} {s : State} (h : Inv s.chip) :
    OutInv (execNodeLost job rank writers s) :=
  on_inv (nodeLost_inv h)

theorem segmentWrite_inv {j : Nat} (h : Inv d) : Inv (segmentWrite d j) := by
  unfold segmentWrite
  split
  · exact h
  · split
    · exact h
    · refine inv_ite h ?_
      extract_lets caps bs
      split
      · exact ckpAbandon_inv h
      · next hp => exact sr_inv (setCkpRun_inv (storePut_inv h hp))

theorem execSegmentWrite_inv {job : Fin 64} {s : State} (h : Inv s.chip) : OutInv (execSegmentWrite job s) := on_inv (segmentWrite_inv h)

theorem rootWrite_inv {j : Nat} {segs : List (Nat × Nat × Nat × Nat × List Nat)} {covered : Bool} (h : Inv d) : Inv (rootWrite d j segs covered) := by
  unfold rootWrite
  split
  · exact h
  · split
    · exact h
    · split
      · exact h
      · refine inv_ite h (inv_ite (ckpAbandon_inv h) ?_)
        split
        · exact ckpAbandon_inv h
        · extract_lets whole
          split
          · exact ckpAbandon_inv h
          · next hp => exact sr_inv (setCkpRun_inv (storePut_inv h hp))

theorem execRootWrite_inv {job : Fin 64} {segments : List (Nat × Nat × Nat × Nat × List (BitVec 8))} {covered : Bool} {s : State} (h : Inv s.chip) :
    OutInv (execRootWrite job segments covered s) :=
  on_inv (rootWrite_inv h)

theorem ckpCommit_inv {j : Nat} {x : CkpJob} {r : CkpRun} {tail : Nat} (h : Inv d) : Inv (d.ckpCommit j x r tail) := by
  unfold Chip.ckpCommit
  extract_lets d1 _ _ d2
  have hd1 : Inv d1 := sr_inv h
  have hd2 : Inv d2 := by
    unfold d2
    split
    · exact setJob_inv hd1
    · exact hd1
  exact finish_inv hd2

theorem commitRecordWrite_inv {j tail : Nat} (h : Inv d) : Inv (commitRecordWrite d j tail) := by
  unfold commitRecordWrite
  split
  · exact h
  · split
    · exact h
    · split
      · exact h
      · refine inv_ite h ?_
        split
        · exact ckpAbandon_inv h
        · extract_lets d1 d2
          have hd1 : Inv d1 := ck_inv h
          have hd2 : Inv d2 := charge_inv hd1
          exact ckpCommit_inv hd2

theorem execCommitRecordWrite_inv {job : Fin 64} {tail : Nat} {s : State} (h : Inv s.chip) : OutInv (execCommitRecordWrite job tail s) :=
  on_inv (commitRecordWrite_inv h)

theorem committedMessage_inv {j tail : Nat} (h : Inv d) : Inv (committedMessage d j tail) := by
  unfold committedMessage
  split
  · exact h
  · split
    · exact h
    · exact inv_ite h (ckpCommit_inv h)

theorem execCommittedMessage_inv {job : Fin 64} {tail : Nat} {s : State} (h : Inv s.chip) : OutInv (execCommittedMessage job tail s) :=
  on_inv (committedMessage_inv h)

/-- An item returned to ACCEPTED keeps its number and its slot. -/
theorem backToAccepted_places (i : Item) : (backToAccepted i).seq = i.seq ∧ (backToAccepted i).slot = i.slot := by
  unfold backToAccepted
  split <;> exact ⟨rfl, rfl⟩

theorem ckpReturn_inv {j : Nat} (h : Inv d) : Inv (d.ckpReturn j) := by
  unfold Chip.ckpReturn
  split
  · exact h
  · split
    · exact h
    · refine inv_ite (ckpAbandon_inv h) (setCkpRun_inv (updItem_inv (ckpRelease_inv h) fun i => ?_))
      split
      · exact backToAccepted_places i
      · exact ⟨rfl, rfl⟩

theorem ckpFence_inv (h : Inv d) : Inv (d.ckpFence) := inv_foldl (fun _ _ h1 => ckpReturn_inv h1) h

/-- What a restore leaves, whether it ran to its end or stopped with a code. -/
def restored : Except (Chip × Nat) (Chip × Bool) → Chip
  | .ok r => r.1
  | .error r => r.1

theorem of_ok {o : Except (Chip × Nat) (Chip × Bool)} {x : Chip} {p : Bool} (h : Inv (restored o)) (e : o = .ok (x, p)) : Inv x := by
  subst e
  exact h

theorem of_error {o : Except (Chip × Nat) (Chip × Bool)} {x : Chip} {c : Nat} (h : Inv (restored o)) (e : o = .error (x, c)) : Inv x := by
  subst e
  exact h

theorem restorePages_inv {x : CkpJob} {st : List (Nat × List Nat)} {chain : List (List (List Nat))} {ps : List (Nat × Nat)} {p : Bool} (h : Inv d) :
    Inv (restored (d.restorePages x st chain ps p)) := by
  induction ps generalizing d p with
  | nil => exact h
  | cons q ps ih =>
    unfold Chip.restorePages
    extract_lets has a
    split
    · split
      · exact h
      · exact ih (wr_inv h)
    · split
      · exact h
      · exact ih (writeRange_inv h)

theorem restoreDone_inv {j : Nat} {x : CkpJob} {st : List (Nat × List Nat)} {chain : List (List Nat)} {number seq : Nat} {poison : Bool} (h : Inv d) :
    Inv (d.restoreDone j x st chain number seq poison) := by
  unfold Chip.restoreDone
  extract_lets _ _ d1 _ _ _ d2 d3 d4 d5
  have hd1 : Inv d1 := inv_foldl (fun _ _ h1 => setPte_inv h1) h
  have hd2 : Inv d2 := count_inv (sr_inv (sr_inv hd1))
  have hd3 : Inv d3 := sr_inv (sr_inv hd2)
  have hd4 : Inv d4 := inv_ite (sr_inv hd3) hd3
  have hd5 : Inv d5 := setJob_inv hd4
  exact issueCommit_inv hd5

theorem ckpRestore_inv {src : Submit} {j step : Nat} {st : List (Nat × List Nat)} (h : Inv d) : Inv (ckpRestore d src j step st) := by
  unfold ckpRestore
  split
  · exact refuse_inv h
  · refine inv_ite (refuse_inv h) ?_
    split
    next hd =>
    have accepted := (ckpAccept_inv h).of_fst hd
    extract_lets d1 d2
    have taken : Inv d2 := updItem_inv (sr_inv (setJob_inv accepted)) (fun _ => ⟨rfl, rfl⟩)
    clear_value d2
    split
    · exact withdraw_inv taken
    · refine inv_ite (withdraw_inv taken) (inv_ite (withdraw_inv taken) ?_)
      split
      · exact withdraw_inv taken
      · split
        · next he => exact withdraw_inv (of_error (restorePages_inv taken) he)
        · next he => exact restoreDone_inv (of_ok (restorePages_inv taken) he)

theorem execCkpRestore_inv {src : Submit} {job : BitVec 8} {step : Word} {store : List (Nat × List (BitVec 8))} {s : State} (h : Inv s.chip) :
    OutInv (execCkpRestore src job step store s) :=
  on_inv (submit_inv _ _ _ _ _ _ (fun _ h1 => ckpRestore_inv h1) h)

/-! ### Packet parsing, classification and traffic scheduling (chapter 12) -/

theorem pk_inv {f : PktUnit → PktUnit} (h : Inv d) : Inv (d.pk f) := h.elsewhere

theorem pktTime_inv {cyc : Nat} (h : Inv d) : Inv (d.pktTime cyc) := inv_ite h (pk_inv h)

theorem stampRx_inv {m : Nat} (h : Inv d) : Inv (d.stampRx m) := h.elsewhere

theorem stampTx_inv {m : Nat} (h : Inv d) : Inv (d.stampTx m) := h.elsewhere

theorem setPktCopy_inv {v : Nat} {c : PktCopy} (h : Inv d) : Inv (d.setPktCopy v c) := pk_inv h

theorem setEm_inv {k : Nat} {c : EmCopy} (h : Inv d) : Inv (d.setEm k c) :=
  pk_inv (inv_foldl (fun _ _ h1 => wr_inv h1) (inv_foldl (fun _ _ h1 => wr_inv h1) h))

theorem syncEm_inv (h : Inv d) : Inv (d.syncEm) := sr_inv h

theorem rebCopy_inv {seq seed0 seed1 : Nat} (h : Inv d) : Inv (d.rebCopy seq seed0 seed1) := sr_inv (pk_inv (setEm_inv h))

theorem rebDraw_inv {seq : Nat} (h : Inv d) : Inv (d.rebDraw seq) := rebCopy_inv (takeFree_inv (takeFree_inv h))

theorem rebNext_inv (h : Inv d) : Inv (d.rebNext) := by
  unfold Chip.rebNext
  refine inv_ite h ?_
  split
  · exact h
  · extract_lets d1
    have hd1 : Inv d1 := updItem_inv (sr_inv h) (fun _ => ⟨rfl, rfl⟩)
    exact rebCopy_inv hd1

theorem rebAbandon_inv {counted : Bool} (h : Inv d) : Inv (d.rebAbandon counted) := by
  unfold Chip.rebAbandon
  extract_lets _ _ d1 d2
  have hd1 : Inv d1 := sr_inv (sr_inv h)
  have hd2 : Inv d2 := pk_inv hd1
  exact inv_ite h (inv_ite (rebNext_inv (inv_ite hd2 (withdraw_inv hd2))) (pk_inv hd1))

theorem emLog_inv {cs : List EmChange} (h : Inv d) : Inv (d.emLog cs) := inv_ite (inv_ite (rebAbandon_inv h) (pk_inv h)) h

theorem emMap_inv {f : EmEntry → Option EmEntry} (h : Inv d) : Inv (d.emMap f) := syncEm_inv (emLog_inv (setEm_inv h))

theorem rebApply_inv {cs : List EmChange} {k : Chip → Chip} (h : Inv d) (hk : ∀ e, Inv e → Inv (k e)) : Inv (d.rebApply cs k) := by
  unfold Chip.rebApply
  extract_lets _
  split
  · exact rebAbandon_inv (takeFree_inv h)
  · exact hk _ (setEm_inv (takeFree_inv h))

theorem rebuildCopyDone_inv (h : Inv d) : Inv (rebuildCopyDone d) := inv_ite h (rebApply_inv h (fun _ h1 => sr_inv (pk_inv h1)))

theorem rebuildDrainDone_inv (h : Inv d) : Inv (rebuildDrainDone d) := inv_ite h (rebApply_inv h (fun _ h1 => sr_inv (pk_inv h1)))

theorem rebuildSwitchDone_inv (h : Inv d) : Inv (rebuildSwitchDone d) := by
  unfold rebuildSwitchDone
  refine inv_ite h (rebApply_inv h ?_)
  intro e h1
  extract_lets _ d1 d2
  have hd1 : Inv d1 := sr_inv (sr_inv h1)
  have hd2 : Inv d2 := count_inv (syncEm_inv (pk_inv hd1))
  exact rebNext_inv (inv_ite hd2 (finish_inv hd2))

theorem rebuildRestart_inv (h : Inv d) : Inv (rebuildRestart d) := by
  unfold rebuildRestart
  split
  · exact h
  · exact inv_ite h (rebDraw_inv h)

theorem execRebuildCopyDone_inv {s : State} (h : Inv s.chip) : OutInv (execRebuildCopyDone s) := on_inv (rebuildCopyDone_inv h)

theorem execRebuildDrainDone_inv {s : State} (h : Inv s.chip) : OutInv (execRebuildDrainDone s) := on_inv (rebuildDrainDone_inv h)

theorem execRebuildSwitchDone_inv {s : State} (h : Inv s.chip) : OutInv (execRebuildSwitchDone s) := on_inv (rebuildSwitchDone_inv h)

theorem execRebuildRestart_inv {s : State} (h : Inv s.chip) : OutInv (execRebuildRestart s) := on_inv (rebuildRestart_inv h)

theorem execRebuildAbandon_inv {s : State} (h : Inv s.chip) : OutInv (execRebuildAbandon s) := on_inv (answered_inv (rebAbandon_inv h))

theorem execCacheFlush_inv {s : State} (h : Inv s.chip) : OutInv (execCacheFlush s) := on_inv (answered_inv (pk_inv h))

theorem pktCount7_inv {hi : Bool} (h : Inv d) : Inv (d.pktCount7 hi) := mr_inv h

theorem police_inv {k len : Nat} (h : Inv d) : Inv (d.police k len).1 := by
  unfold Chip.police
  extract_lets _ _
  split
  · exact h
  · split
    · exact pk_inv h
    · exact pktCount7_inv (pk_inv h)

theorem setPq_inv {q : Nat} {x : PQueue} (h : Inv d) : Inv (d.setPq q x) := pk_inv h

theorem shaperWait_inv {q : Nat} (h : Inv d) : Inv (d.shaperWait q) :=
  inv_ite (pk_inv (setPq_inv h)) (inv_ite (count_inv (setPq_inv h)) (setPq_inv h))

theorem shaperDecide_inv {q : Nat} (h : Inv d) : Inv (d.shaperDecide q) := inv_ite (shaperWait_inv h) h

theorem pfcCheck_inv {m prio : Nat} (h : Inv d) : Inv (d.pfcCheck m prio) := inv_ite (inv_ite (pk_inv h) h) (inv_ite (pk_inv h) h)

theorem enqueue_inv {q : Nat} {bs : List Nat} {len : Nat} {rx : Option (Nat × Nat)} {room : Bool} (h : Inv d) : Inv (d.enqueue q bs len rx room) :=
  inv_ite (count_inv h) (inv_ite (count_inv (setPq_inv h)) (shaperDecide_inv (setPq_inv h)))

theorem sendHead_inv {m q : Nat} (h : Inv d) : Inv (d.sendHead m q) := by
  unfold Chip.sendHead
  extract_lets _
  split
  · exact h
  · extract_lets _ _ _ d1 d2
    have hd1 : Inv d1 := pk_inv (setPq_inv h)
    have hd2 : Inv d2 := shaperDecide_inv (count_inv hd1)
    split
    · exact pfcCheck_inv hd2
    · exact hd2

theorem dvtTake_inv (h : Inv d) : Inv (d.dvtTake) := inv_foldl (fun _ _ h1 => enqueue_inv h1) h.elsewhere

theorem actFrame_inv {f : PktMiss} {action : Nat} (h : Inv d) : Inv (d.actFrame f action) := by
  unfold Chip.actFrame
  extract_lets _ _ _ _
  split
  · rename_i x d1 ok e
    have hd1 : Inv d1 := (police_inv h).of_fst e
    refine inv_ite hd1 ?_
    split
    · exact count_inv hd1
    · extract_lets d2 _ d3 d4
      have hd2 : Inv d2 := inv_ite (takeFree_inv hd1) hd1
      have hd3 : Inv d3 := by
        unfold d3
        split
        · exact pktCount7_inv hd2
        · exact enqueue_inv hd2
        · exact pk_inv hd2
        · exact pk_inv hd2
      have hd4 : Inv d4 := inv_ite (enqueue_inv hd3) hd3
      exact pfcCheck_inv hd4

theorem classify_inv {f : PktMiss} {em : Option EmEntry} (h : Inv d) : Inv (d.classify f em) := by
  unfold Chip.classify
  extract_lets _ t d1 d2
  have hd1 : Inv d1 := inv_ite (count_inv h) h
  have hd2 : Inv d2 := inv_ite (count_inv hd1) hd1
  clear_value t
  split
  · exact actFrame_inv hd2
  · exact actFrame_inv hd2
  · exact actFrame_inv hd2
  · exact actFrame_inv (count_inv hd2)

theorem receivedFrame_inv {m cyc : Nat} {bs : List Nat} {room : Bool} (h : Inv d) : Inv (receivedFrame d m cyc bs room) := by
  unfold receivedFrame
  extract_lets d1 _ d2 d3 _ _ _ _ _ _ _ d4
  have hd1 : Inv d1 := pktTime_inv h
  have hd2 : Inv d2 := stampRx_inv hd1
  have hd3 : Inv d3 := count_inv (pk_inv hd2)
  have hd4 : Inv d4 := count_inv hd3
  exact inv_ite hd1 (inv_ite (count_inv hd2) (inv_ite (classify_inv hd3) (inv_ite (classify_inv hd3)
    (inv_ite (count_inv hd4) (pfcCheck_inv (pk_inv hd4))))))

theorem execReceivedFrame_inv {m : Fin 16} {cyc : BitVec 32} {data : List (BitVec 8)} {room : Bool} {s : State} (h : Inv s.chip) :
    OutInv (execReceivedFrame m cyc data room s) :=
  on_inv (receivedFrame_inv h)

theorem emMissFill_inv {cyc : Nat} (h : Inv d) : Inv (emMissFill d cyc) := by
  unfold emMissFill
  extract_lets d1
  have hd1 : Inv d1 := pktTime_inv h
  split
  · exact hd1
  · extract_lets d2 _ _ _ _
    have hd2 : Inv d2 := pk_inv hd1
    refine inv_ite hd1 ?_
    split
    · refine inv_ite (classify_inv (fault_inv hd2)) ?_
      split
      · exact classify_inv hd2
      · exact classify_inv (pk_inv hd2)

theorem execEmMissFill_inv {cyc : BitVec 32} {s : State} (h : Inv s.chip) : OutInv (execEmMissFill cyc s) := on_inv (emMissFill_inv h)

theorem sendOpportunity_inv {m cyc : Nat} (h : Inv d) : Inv (sendOpportunity d m cyc) := by
  unfold sendOpportunity
  extract_lets d1 _ d2
  have hd1 : Inv d1 := pktTime_inv h
  have hd2 : Inv d2 := dvtTake_inv hd1
  refine inv_ite hd1 ?_
  split
  · exact hd2
  · exact stampTx_inv (sendHead_inv hd2)

theorem execSendOpportunity_inv {m : Fin 16} {cyc : BitVec 32} {s : State} (h : Inv s.chip) : OutInv (execSendOpportunity m cyc s) :=
  on_inv (sendOpportunity_inv h)

theorem execPfcPause_inv {m : Fin 16} {prio : Fin 8} {time : BitVec 16} {s : State} (h : Inv s.chip) : OutInv (execPfcPause m prio time s) :=
  on_inv (pk_inv h)

theorem execPfcPauseExpiry_inv {m : Fin 16} {prio : Fin 8} {s : State} (h : Inv s.chip) : OutInv (execPfcPauseExpiry m prio s) := on_inv (pk_inv h)

theorem calendarAdvance_inv (h : Inv d) : Inv (d.calendarAdvance) := atCycle_inv h (fun _ h1 => pk_inv h1)

theorem execShaperCalendarAdvance_inv {s : State} (h : Inv s.chip) : OutInv (execShaperCalendarAdvance s) := on_inv (calendarAdvance_inv h)

theorem wheelExpiry_inv {q cyc : Nat} (h : Inv d) : Inv (wheelExpiry d q cyc) := pk_inv (pktTime_inv h)

theorem execShaperWheelExpiry_inv {q : BitVec 16} {cyc : BitVec 32} {s : State} (h : Inv s.chip) : OutInv (execShaperWheelExpiry q cyc s) :=
  on_inv (wheelExpiry_inv h)

theorem creditScan_inv {cyc : Nat} (h : Inv d) : Inv (creditScan d cyc) :=
  pk_inv (inv_foldl (fun _ _ h1 => inv_ite (setPq_inv h1) h1) (pktTime_inv h))

theorem execCreditModeScan_inv {cyc : BitVec 32} {s : State} (h : Inv s.chip) : OutInv (execCreditModeScan cyc s) := on_inv (creditScan_inv h)

theorem staged_inv (h : Inv d) : Inv (d.staged) := mr_inv h

theorem syncCopies_inv (h : Inv d) : Inv (d.syncCopies) := setPktCopy_inv h

theorem pktEffect_inv {seq op : Nat} {x : Desc} {r : List Nat} (h : Inv d) : Inv (d.pktEffect seq op x r) := by
  unfold Chip.pktEffect
  extract_lets _ _ d1 d2 _ _ _ _ _ _ d3 _ _ _ _
  have hd1 : Inv d1 := emMap_inv h
  have hd2 : Inv d2 := pk_inv hd1
  have hd3 : Inv d3 := setPq_inv (pk_inv h)
  split
  · exact staged_inv (setPktCopy_inv h)
  · exact staged_inv (setPktCopy_inv h)
  · exact pk_inv h
  · exact pk_inv h
  · exact staged_inv (inv_ite (emMap_inv h) (pk_inv h))
  · exact staged_inv (inv_ite (emMap_inv h) (pk_inv h))
  · exact count_inv (syncEm_inv (sr_inv (sr_inv (sr_inv h))))
  · exact sr_inv (syncCopies_inv hd2)
  · exact staged_inv (setPktCopy_inv h)
  · exact shaperDecide_inv hd3
  · exact pk_inv h
  · exact h

theorem pktAccept_inv {src : Submit} {op : Nat} {ws r : List Nat} (h : Inv d) : Inv (d.pktAccept src op ws r) := by
  unfold Chip.pktAccept
  extract_lets _ d1 _ d2
  have hd1 : Inv d1 := acceptCmd_inv _ _ _ _ _ _ _ h
  have hd2 : Inv d2 := pk_inv hd1
  exact inv_ite (finishWith_inv hd2 (fun _ h1 => pktEffect_inv h1)) (updItem_inv hd2 (fun _ => ⟨rfl, rfl⟩))

theorem withRec_inv {src : Submit} {a n : Nat} {k : Chip → List Nat → Chip} (h : Inv d) (hk : ∀ e x1, Inv e → Inv (k e x1)) :
    Inv (d.withRec src a n k) :=
  withRecord_inv h (fun _ h1 => hk _ _ h1)

theorem withStage_inv {src : Submit} {k : Chip → Chip} (h : Inv d) (hk : ∀ e, Inv e → Inv (k e)) : Inv (d.withStage src k) :=
  inv_ite (refuse_inv h) (hk _ h)

theorem pktCmd_inv {src : Submit} {k : Chip → Chip} (h : Inv d) (hk : ∀ e, Inv e → Inv (k e)) : Inv (d.pktCmd src k) :=
  submit_inv _ _ _ _ _ _ (fun _ h1 => hk _ h1) h

theorem layoutSet_inv {src : Submit} {layout record : Nat} (h : Inv d) : Inv (layoutSet d src layout record) :=
  withRec_inv h (fun _ _ h1 => inv_ite (refuse_inv h1) (withStage_inv h1 (fun _ h2 => pktAccept_inv h2)))

theorem execLayoutSet_inv {src : Submit} {layout : BitVec 8} {record : Nat} {s : State} (h : Inv s.chip) :
    OutInv (execLayoutSet src layout record s) :=
  on_inv (pktCmd_inv h (fun _ h1 => layoutSet_inv h1))

theorem selectSet_inv {src : Submit} {port record : Nat} (h : Inv d) : Inv (selectSet d src port record) := by
  unfold selectSet
  exact inv_ite (refuse_inv h) (withRec_inv h (fun _ _ h1 => inv_ite (refuse_inv h1) (withStage_inv h1 (fun _ h2 => pktAccept_inv h2))))

theorem execSelectSet_inv {src : Submit} {port : BitVec 8} {record : Nat} {s : State} (h : Inv s.chip) : OutInv (execSelectSet src port record s) :=
  on_inv (pktCmd_inv h (fun _ h1 => selectSet_inv h1))

theorem actionSet_inv {src : Submit} {index record : Nat} (h : Inv d) : Inv (actionSet d src index record) := by
  unfold actionSet
  exact inv_ite (refuse_inv h) (withRec_inv h (fun _ _ h1 => inv_ite (refuse_inv h1) (inv_ite (refuse_inv h1) (pktAccept_inv (pk_inv h1)))))

theorem execActionSet_inv {src : Submit} {index : BitVec 16} {record : Nat} {s : State} (h : Inv s.chip) :
    OutInv (execActionSet src index record s) :=
  on_inv (pktCmd_inv h (fun _ h1 => actionSet_inv h1))

theorem actionFree_inv {src : Submit} {index : Nat} (h : Inv d) : Inv (actionFree d src index) :=
  inv_ite (refuse_inv h) (inv_ite (refuse_inv h) (pktAccept_inv h))

theorem execActionFree_inv {src : Submit} {index : BitVec 16} {s : State} (h : Inv s.chip) : OutInv (execActionFree src index s) :=
  on_inv (pktCmd_inv h (fun _ h1 => actionFree_inv h1))

theorem ruleAddExact_inv {src : Submit} {action index record : Nat} (h : Inv d) : Inv (ruleAddExact d src action index record) := by
  unfold ruleAddExact
  refine withRec_inv h ?_
  intro e x1 h1
  extract_lets _ _ _ _
  refine inv_ite (refuse_inv h1) (inv_ite (refuse_inv h1) (inv_ite (refuse_inv h1) (withStage_inv h1 ?_)))
  intro e1 h2
  extract_lets _ d1
  have hd1 : Inv d1 := refuse_inv (takeFree_inv h2)
  split
  · exact inv_ite (rebDraw_inv (sr_inv hd1)) hd1
  · extract_lets d2
    have hd2 : Inv d2 := pk_inv (setEm_inv (takeFree_inv h2))
    exact pktAccept_inv (emLog_inv hd2)

theorem ruleAddTernary_inv {src : Submit} {override action index record : Nat} (h : Inv d) :
    Inv (ruleAddTernary d src override action index record) := by
  unfold ruleAddTernary
  refine inv_ite (refuse_inv h) (withRec_inv h ?_)
  intro e x1 h1
  refine inv_ite (refuse_inv h1) (inv_ite (refuse_inv h1) (withStage_inv h1 ?_))
  intro e1 h2
  extract_lets _
  exact pktAccept_inv (pk_inv h2)

theorem execRuleAdd_inv {src : Submit} {table override : BitVec 8} {action index : BitVec 16} {record : Nat} {s : State} (h : Inv s.chip) :
    OutInv (execRuleAdd src table override action index record s) := by
  unfold execRuleAdd
  exact on_inv (inv_ite h (pktCmd_inv h (fun _ h1 => inv_ite (refuse_inv h1) (inv_ite (ruleAddExact_inv h1) (ruleAddTernary_inv h1)))))

theorem ruleDel_inv {src : Submit} {table index record : Nat} (h : Inv d) : Inv (ruleDel d src table index record) := by
  unfold ruleDel
  refine inv_ite (refuse_inv h) (inv_ite (inv_ite (refuse_inv h) ?_) (withRec_inv h
    (fun _ _ h1 => inv_ite (refuse_inv h1) (inv_ite (refuse_inv h1) (withStage_inv h1 (fun _ h2 => pktAccept_inv h2))))))
  split
  · exact inv_ite (withStage_inv h (fun _ h1 => pktAccept_inv h1)) (refuse_inv h)
  · exact refuse_inv h

theorem execRuleDel_inv {src : Submit} {table : BitVec 8} {index : BitVec 16} {record : Nat} {s : State} (h : Inv s.chip) :
    OutInv (execRuleDel src table index record s) :=
  on_inv (pktCmd_inv h (fun _ h1 => ruleDel_inv h1))

theorem execGroupCommit_inv {src : Submit} {s : State} (h : Inv s.chip) : OutInv (execGroupCommit src s) :=
  on_inv (pktCmd_inv h (fun _ h1 => pktAccept_inv h1))

theorem execGroupAbort_inv {src : Submit} {s : State} (h : Inv s.chip) : OutInv (execGroupAbort src s) :=
  on_inv (pktCmd_inv h (fun _ h1 => pktAccept_inv h1))

theorem indirWrite_inv {src : Submit} {first count record : Nat} (h : Inv d) : Inv (indirWrite d src first count record) :=
  inv_ite (refuse_inv h) (withRec_inv h (fun _ _ h1 => withStage_inv h1 (fun _ h2 => pktAccept_inv h2)))

theorem execIndirWrite_inv {src : Submit} {first count : BitVec 16} {record : Nat} {s : State} (h : Inv s.chip) :
    OutInv (execIndirWrite src first count record s) :=
  on_inv (pktCmd_inv h (fun _ h1 => indirWrite_inv h1))

theorem queueSet_inv {src : Submit} {q mac prio weight flags depth rate burst : Nat} (h : Inv d) :
    Inv (queueSet d src q mac prio weight flags depth rate burst) :=
  inv_ite (refuse_inv h) (pktAccept_inv h)

theorem execQueueSet_inv {src : Submit} {queue : BitVec 16} {mac prio : BitVec 8} {weight : BitVec 16} {flags : BitVec 8}
    {depth rate burst : BitVec 32} {s : State} (h : Inv s.chip) : OutInv (execQueueSet src queue mac prio weight flags depth rate burst s) :=
  on_inv (pktCmd_inv h (fun _ h1 => queueSet_inv h1))

theorem policerSet_inv {src : Submit} {k flags rate burst : Nat} (h : Inv d) : Inv (policerSet d src k flags rate burst) :=
  inv_ite (refuse_inv h) (pktAccept_inv h)

theorem execPolicerSet_inv {src : Submit} {policer : BitVec 16} {flags : BitVec 8} {rate burst : BitVec 32} {s : State} (h : Inv s.chip) :
    OutInv (execPolicerSet src policer flags rate burst s) :=
  on_inv (pktCmd_inv h (fun _ h1 => policerSet_inv h1))

theorem emRebuild_inv {src : Submit} {seed0 seed1 : Nat} (h : Inv d) : Inv (emRebuild d src seed0 seed1) :=
  rebNext_inv (acceptCmd_inv _ _ _ _ _ _ _ h)

theorem execEmRebuild_inv {src : Submit} {seed0 seed1 : BitVec 32} {s : State} (h : Inv s.chip) : OutInv (execEmRebuild src seed0 seed1 s) :=
  on_inv (pktCmd_inv h (fun _ h1 => emRebuild_inv h1))

theorem stageKey_inv {k v : Nat} (h : Inv d) : Inv (d.stageKey k v) := staged_inv (setPktCopy_inv h)

theorem keyWrite_inv {k v : Nat} (h : Inv d) : Inv (d.keyWrite k v) := inv_ite (pk_inv (sr_inv h)) (stageKey_inv (sr_inv h))

theorem execPktToeplitzKey_inv {k : Fin 17} {value : BitVec 32} {s : State} (h : Inv s.chip) : OutInv (execPktToeplitzKey k value s) :=
  on_inv (keyWrite_inv h)

theorem versionRetire_inv (h : Inv d) : Inv (versionRetire d) := by
  unfold versionRetire
  extract_lets _ d1 d2 d3 _
  have hd1 : Inv d1 := emMap_inv h
  have hd2 : Inv d2 := pk_inv hd1
  have hd3 : Inv d3 := sr_inv (syncCopies_inv hd2)
  exact inv_ite h (inv_foldl (fun _ _ h1 => stageKey_inv h1) (pk_inv hd3))

theorem execVersionRetire_inv {s : State} (h : Inv s.chip) : OutInv (execVersionRetire s) := on_inv (versionRetire_inv h)

theorem pktFence_inv (h : Inv d) : Inv (d.pktFence) := rebAbandon_inv (pk_inv h)

theorem treadWrite_inv {table copy part index : Nat} (h : Inv d) : Inv (d.treadWrite table copy part index) :=
  sr_inv (pk_inv (sr_inv (sr_inv (sr_inv (inv_ite (sr_inv h) h)))))

theorem execPktTreadAddr_inv {table : Fin 16} {copy : Fin 2} {part : Fin 4} {index : BitVec 24} {s : State} (h : Inv s.chip) :
    OutInv (execPktTreadAddr table copy part index s) :=
  on_inv (treadWrite_inv h)

/-! ### Fault collection and reaction -/

theorem slotParity_inv {k : Nat} (h : Inv d) : Inv (d.slotParity k) := inv_foldl (fun _ _ h1 => withdraw_inv h1) (emptySlot_inv h)

theorem ringParity_inv {r : Nat} (h : Inv d) : Inv (d.ringParity r) := raiseAttn_inv (sr_inv h)

theorem wheelParity_inv {q : Nat} (h : Inv d) : Inv (d.wheelParity q) := inv_ite h (count_inv (setPq_inv (pk_inv h)))

theorem mergeParity_inv {w : Nat} (h : Inv d) : Inv (d.mergeParity w) := inv_ite h ((setPoison_inv h).elsewhere)

theorem bufferCrc_inv {q : Nat} (h : Inv d) : Inv (d.bufferCrc q) := inv_ite h (count_inv (setPq_inv h))

theorem faultEffect_inv {s detail addr : Nat} (h : Inv d) : Inv (d.faultEffect s detail addr) := by
  unfold Chip.faultEffect
  extract_lets _ _ _ _
  exact inv_ite (inv_ite h (fenceCore_inv h)) (inv_ite (inv_ite (crash_inv h) h) (inv_ite h.elsewhere
    (inv_ite (inv_foldl (fun _ _ h1 => firingResend_inv h1) h) (inv_ite (inv_ite h (faultSlot_inv h))
      (inv_ite (mergeParity_inv h) (inv_ite (wheelParity_inv h) (inv_ite (bufferCrc_inv h)
        (inv_ite (count_inv h) (inv_ite (chanDrop_inv h) (inv_ite (setCtl_inv h) (inv_ite (ckpAbandon_inv h)
          (inv_ite (slotParity_inv h) (inv_ite (count_inv (mr_inv h.elsewhere)) (inv_ite (count_inv h)
            (inv_ite h.elsewhere (inv_ite (ringParity_inv h) h))))))))))))))))

theorem sourceEvent_inv {s detail addr : Nat} {inj : Bool} (h : Inv d) : Inv (d.sourceEvent s detail addr inj) :=
  inv_ite h (faultEffect_inv (fault_inv h))

theorem execFaultEvent_inv {source : Fin 768} {detail : BitVec 16} {addr : Nat} {s : State} (h : Inv s.chip) :
    OutInv (execFaultEvent source detail addr s) :=
  on_inv (sourceEvent_inv h)

theorem holdEnds_inv {hdr : HeldReaction} {dropped : Bool} (h : Inv d) : Inv (d.holdEnds hdr dropped) := by
  unfold Chip.holdEnds
  extract_lets _ d1 d2 _
  have hd1 : Inv d1 := h.elsewhere
  have hd2 : Inv d2 := syncHeld_inv (sr_inv hd1)
  exact inv_ite (history_inv hd2) (react_inv (history_inv hd2))

theorem endHold_inv {s : Nat} {dropped : Bool} (h : Inv d) : Inv (d.endHold s dropped) := by
  unfold Chip.endHold
  split
  · exact h
  · exact holdEnds_inv h

theorem graceExpiry_inv {source : Nat} (h : Inv d) : Inv (graceExpiry d source) := inv_ite h (endHold_inv h)

theorem execGraceTimerExpiry_inv {source : Fin 768} {s : State} (h : Inv s.chip) : OutInv (execGraceTimerExpiry source s) :=
  on_inv (graceExpiry_inv h)

theorem execHeldReactionDrop_inv {source : Fin 768} {s : State} (h : Inv s.chip) : OutInv (execHeldReactionDrop source s) := on_inv (endHold_inv h)

theorem hubNormal_inv (h : Inv d) : Inv (d.hubNormal) := inv_foldl (fun _ _ h1 => holdEnds_inv h1) (sr_inv h)

theorem setHubMode_inv {m : Nat} (h : Inv d) : Inv (d.setHubMode m) := inv_ite h (inv_ite (hubNormal_inv h) (sr_inv h))

theorem execFltModeNormal_inv {s : State} (h : Inv s.chip) : OutInv (execFltModeNormal s) := on_inv (setHubMode_inv h)

theorem execFltModeTest_inv {s : State} (h : Inv s.chip) : OutInv (execFltModeTest s) := on_inv (setHubMode_inv h)

theorem execFltModeRecovery_inv {s : State} (h : Inv s.chip) : OutInv (execFltModeRecovery s) := on_inv (setHubMode_inv h)

theorem execStartupModeExpiry_inv {s : State} (h : Inv s.chip) : OutInv (execStartupModeExpiry s) := on_inv (inv_ite h (hubNormal_inv h))

theorem execFltSafeEnter_inv {s : State} (h : Inv s.chip) : OutInv (execFltSafeEnter s) := on_inv (enterSafe_inv h)

theorem warmTrigger_inv {cause : Nat} (h : Inv d) : Inv (d.warmTrigger cause) := inv_ite (count_inv h) (inv_ite h (sr_inv h.elsewhere))

theorem watchdogExpiry_inv (h : Inv d) : Inv (watchdogExpiry d) := inv_ite h (warmTrigger_inv (fault_inv h))

theorem execChipWatchdogExpiry_inv {s : State} (h : Inv s.chip) : OutInv (execChipWatchdogExpiry s) := on_inv (watchdogExpiry_inv h)

theorem chipPet_inv (h : Inv d) : Inv (d.chipPet) := h.elsewhere

theorem execFltChipPet_inv {s : State} (h : Inv s.chip) : OutInv (execFltChipPet s) := on_inv (chipPet_inv h)

/-! ### The commands of the memory chapter -/

theorem execMergeEntryFlush_inv {word : Nat} {s : State} (h : Inv s.chip) : OutInv (execMergeEntryFlush word s) := on_inv (flushMerge_inv h)

theorem migTick_inv (h : Inv d) : Inv (d.migTick) := h.elsewhere

theorem markInit_inv {a n : Nat} (h : Inv d) : Inv (d.markInit a n) := inv_ite h.elsewhere h.elsewhere

theorem setScrubPos_inv {die p : Nat} (h : Inv d) : Inv (d.setScrubPos die p) := inv_ite h.elsewhere h.elsewhere

theorem scrubKib_inv {die : Nat} (h : Inv d) : Inv (d.scrubKib die) := by
  unfold Chip.scrubKib
  extract_lets _ go
  have hgo (q : Nat) : Inv (go q) := by
    unfold go
    extract_lets d1
    have hd1 : Inv d1 := settle_inv h
    exact inv_ite (count_inv (setScrubPos_inv hd1)) (setScrubPos_inv hd1)
  split
  · exact hgo _
  · exact inv_ite h (count_inv (setScrubPos_inv h))

theorem scrubDie_inv {die k : Nat} (h : Inv d) : Inv (d.scrubDie die k) := by
  induction k generalizing d with
  | zero => exact h
  | succ k ih => exact ih (scrubKib_inv h)

theorem patrolScrub_inv (h : Inv d) : Inv (patrolScrub d) := inv_ite (scrubDie_inv (scrubDie_inv h)) h

theorem execPatrolScrub_inv {s : State} (h : Inv s.chip) : OutInv (execPatrolScrub s) := on_inv (patrolScrub_inv h)

theorem execScrubPass_inv {s : State} (h : Inv s.chip) : OutInv (execScrubPass s) := on_inv (answered_inv (setScrubPos_inv (setScrubPos_inv h)))

theorem spareBankReady_inv {bank : Nat} (h : Inv d) : Inv (spareBankReady d bank) := inv_ite (inv_ite h.elsewhere (endAttn_inv h.elsewhere)) h

theorem execSpareBankReady_inv {bank : Fin 512} {s : State} (h : Inv s.chip) : OutInv (execSpareBankReady bank s) := on_inv (spareBankReady_inv h)

theorem flipArm_inv {v : Nat} (h : Inv d) : Inv (flipArm d v) := inv_ite (sr_inv (sr_inv (sr_inv (sr_inv (sr_inv h))))) (sr_inv (sr_inv (sr_inv h)))

theorem execMemFlipArm_inv {value : BitVec 32} {s : State} (h : Inv s.chip) : OutInv (execMemFlipArm value s) := on_inv (flipArm_inv h)

theorem initRange_inv {a n : Nat} (h : Inv d) : Inv (d.initRange a n) := inv_ite h (markInit_inv (zeroRange_inv h))

theorem trained_inv (h : Inv d) : Inv (d.trained) := inv_foldl (fun _ _ h1 => takeFree_inv (sr_inv (sr_inv h1))) (sr_inv h)

theorem coldInit_inv (h : Inv d) : Inv (coldInit d) := inv_ite h (sr_inv (syncFill_inv (trained_inv (inv_foldl (fun _ _ h1 => initRange_inv h1) h))))

theorem execColdInitComplete_inv {s : State} (h : Inv s.chip) : OutInv (execColdInitComplete s) := on_inv (coldInit_inv h)

theorem memInit_inv {src : Submit} {a n pattern force : Nat} (h : Inv d) : Inv (memInit d src a n pattern force) := by
  unfold memInit
  refine inv_ite (refuse_inv h) (inv_ite (refuse_inv h) (inv_ite (refuse_inv h) (inv_ite (refuse_inv h) ?_)))
  split
  · exact refuse_inv h
  · extract_lets d1 _ d2
    have hd1 : Inv d1 := acceptCmd_inv _ _ _ _ _ _ _ h
    have hd2 : Inv d2 := wr_inv hd1
    exact finishWith_inv hd2 (fun _ h1 => markInit_inv h1)

theorem execMemInit_inv {src : Submit} {addr length : Nat} {pattern : Word} {force : Nat} {s : State} (h : Inv s.chip) :
    OutInv (execMemInit src addr length pattern force s) :=
  on_inv (submit_inv _ _ _ _ _ _ (fun _ h1 => memInit_inv h1) h)

theorem mapPages_inv {p0 n : Nat} (h : Inv d) : Inv (mapPages p0 n d) := inv_foldl (fun _ _ h1 => setPte_inv h1) h

theorem holdPages_inv {p0 tier : Nat} {pin : Bool} {us : List Nat} (h : Inv d) : Inv (d.holdPages p0 tier pin us) :=
  inv_foldl (fun _ _ h1 => setPte_inv (zeroRange_inv (takeUnits_inv h1))) h

theorem pageMap_inv {src : Submit} {a n tier pin : Nat} (h : Inv d) : Inv (pageMap d src a n tier pin) := by
  unfold pageMap
  refine inv_ite (refuse_inv h) (inv_ite (refuse_inv h) ?_)
  split
  · exact refuse_inv h
  · split
    · exact refuse_inv h
    · extract_lets d1
      have hd1 : Inv d1 := acceptCmd_inv _ _ _ _ _ _ _ h
      exact finishWith_inv (holdPages_inv hd1) (fun _ h1 => mapPages_inv h1)

theorem execPageMap_inv {src : Submit} {addr pages tier pin : Nat} {s : State} (h : Inv s.chip) : OutInv (execPageMap src addr pages tier pin s) :=
  on_inv (submit_inv _ _ _ _ _ _ (fun _ h1 => pageMap_inv h1) h)

theorem abandonPage_inv {counted : Bool} (h : Inv d) : Inv (d.abandonPage counted) := by
  unfold Chip.abandonPage
  split
  · exact h
  · extract_lets d1 _ d2 _ d3
    have hd1 : Inv d1 := freeUnits_inv h
    have hd2 : Inv d2 := inv_ite (setPte_inv hd1) hd1
    have hd3 : Inv d3 := hd2.elsewhere
    exact inv_ite (count_inv hd3) hd3

theorem abandonIf_inv {p0 n : Nat} (h : Inv d) : Inv (d.abandonIf p0 n) := inv_ite (abandonPage_inv h) h

theorem reclaimPage_inv {e : PTE} (h : Inv d) : Inv (d.reclaimPage e) := h.elsewhere

theorem unmapPages_inv {p0 n : Nat} (h : Inv d) : Inv (unmapPages p0 n d) :=
  inv_foldl (fun _ _ h1 => setPte_inv (reclaimPage_inv h1)) (abandonIf_inv h)

theorem pageUnmap_inv {src : Submit} {a n : Nat} (h : Inv d) : Inv (pageUnmap d src a n) := by
  unfold pageUnmap
  refine inv_ite (refuse_inv h) ?_
  split
  · exact refuse_inv h
  · extract_lets d1
    have hd1 : Inv d1 := acceptCmd_inv _ _ _ _ _ _ _ h
    exact finishWith_inv hd1 (fun _ h1 => unmapPages_inv h1)

theorem execPageUnmap_inv {src : Submit} {addr pages : Nat} {s : State} (h : Inv s.chip) : OutInv (execPageUnmap src addr pages s) :=
  on_inv (submit_inv _ _ _ _ _ _ (fun _ h1 => pageUnmap_inv h1) h)

theorem switchPage_inv {page tier u : Nat} (h : Inv d) : Inv (d.switchPage page tier u) :=
  setPte_inv (reclaimPage_inv (writePhys_inv (noteRead_inv h)))

theorem pinPage_inv {tier page : Nat} (h : Inv d) : Inv (d.pinPage tier page) := by
  unfold Chip.pinPage
  extract_lets _ d1 _
  have hd1 : Inv d1 := by
    unfold d1
    refine inv_ite h ?_
    split
    · exact switchPage_inv (takeUnits_inv h)
    · exact h
  exact setPte_inv hd1

theorem pinPages_inv {p0 n tier pin : Nat} (h : Inv d) : Inv (pinPages p0 n tier pin d) :=
  inv_foldl (fun _ _ h1 => inv_ite (pinPage_inv h1) (setPte_inv h1)) (abandonIf_inv h)

theorem pagePin_inv {src : Submit} {a n tier pin : Nat} (h : Inv d) : Inv (pagePin d src a n tier pin) := by
  unfold pagePin
  refine inv_ite (refuse_inv h) (inv_ite (refuse_inv h) ?_)
  split
  · exact refuse_inv h
  · extract_lets _ d1
    have hd1 : Inv d1 := acceptCmd_inv _ _ _ _ _ _ _ h
    exact inv_ite (refuse_inv h) (finishWith_inv hd1 (fun _ h1 => pinPages_inv h1))

theorem execPagePin_inv {src : Submit} {addr pages tier pin : Nat} {s : State} (h : Inv s.chip) : OutInv (execPagePin src addr pages tier pin s) :=
  on_inv (submit_inv _ _ _ _ _ _ (fun _ h1 => pagePin_inv h1) h)

theorem sramCrc_inv {a : Nat} (h : Inv d) : Inv (sramCrc d a) := by
  unfold sramCrc
  extract_lets d1 d2
  have hd1 : Inv d1 := inv_ite (setPoison_inv h) h
  have hd2 : Inv d2 := fault_inv (count_inv hd1)
  exact inv_ite h (inv_ite (fault_inv hd2) hd2)

theorem execSramCrc_inv {addr : Nat} {s : State} (h : Inv s.chip) : OutInv (execSramCrc addr s) := on_inv (sramCrc_inv h)

theorem poisonPages_inv (h : Inv d) : Inv (d.poisonPages) := inv_foldl (fun _ _ h1 => inv_ite (setPte_inv h1) h1) h

theorem channelFail_inv {g : Nat} (h : Inv d) : Inv (d.channelFail g) :=
  inv_ite h (patEvent_inv (raiseAttn_inv (fault_inv (poisonPages_inv (setBit_inv (setBit_inv h))))))

theorem nearCrc_inv {a : Nat} (h : Inv d) : Inv (nearCrc d a) := by
  unfold nearCrc
  extract_lets _ d1 _ _ d2
  have hd1 : Inv d1 := fault_inv (count_inv (count_inv (setPoison_inv h)))
  have hd2 : Inv d2 := hd1.elsewhere
  exact inv_ite h (inv_ite (channelFail_inv hd2) hd2)

theorem execNearCrc_inv {addr : Nat} {s : State} (h : Inv s.chip) : OutInv (execNearCrc addr s) := on_inv (nearCrc_inv h)

theorem openWindow_inv {g : Nat} (h : Inv d) : Inv (d.openWindow g) := count_inv h.elsewhere

theorem retrainEnd_inv {g : Nat} {pass : Bool} (h : Inv d) : Inv (retrainEnd d g pass) :=
  inv_ite h (inv_ite (channelFail_inv h.elsewhere) h.elsewhere)

theorem execRetrainWindowEnd_inv {chan : Fin 24} {pass : Bool} {s : State} (h : Inv s.chip) : OutInv (execRetrainWindowEnd chan pass s) :=
  on_inv (retrainEnd_inv h)

theorem execRetireChannel_inv {chan : Fin 24} {s : State} (h : Inv s.chip) : OutInv (execRetireChannel chan s) :=
  on_inv (answered_inv (channelFail_inv h))

theorem execCxlDeviceTrained_inv {dev : Fin 8} {units : Nat} {s : State} (h : Inv s.chip) : OutInv (execCxlDeviceTrained dev units s) :=
  on_inv (sr_inv (setBit_inv h))

theorem moveMirror_inv {k : Nat} (h : Inv d) : Inv (d.moveMirror k) := by
  unfold Chip.moveMirror
  refine inv_ite ?_ h
  extract_lets alt
  clear_value alt
  split
  · exact sr_inv h.besideItems
  · exact sr_inv h.besideItems

theorem quarryFail_inv {k : Nat} (h : Inv d) : Inv (d.quarryFail k) :=
  inv_ite h (patEvent_inv (raiseAttn_inv (fault_inv (moveMirror_inv (poisonPages_inv (setBit_inv h))))))

theorem execQuarryDeviceFail_inv {dev : Fin 8} {s : State} (h : Inv s.chip) : OutInv (execQuarryDeviceFail dev s) := on_inv (quarryFail_inv h)

theorem execRetireQuarry_inv {dev : Fin 8} {s : State} (h : Inv s.chip) : OutInv (execRetireQuarry dev s) := on_inv (answered_inv (quarryFail_inv h))

theorem translationMiss_inv {page : Nat} (h : Inv d) : Inv (translationMiss d page) := by
  unfold translationMiss
  extract_lets _ d1 d2
  have hd1 : Inv d1 := xlatTouch_inv h
  have hd2 : Inv d2 := fault_inv hd1
  refine inv_ite (inv_foldl ?_ hd2) hd1
  intro d3 x h1
  extract_lets _ _
  exact inv_ite h1 (setPte_inv h1)

theorem execTranslationMiss_inv {page : Fin 16777216} {s : State} (h : Inv s.chip) : OutInv (execTranslationMiss page s) :=
  on_inv (translationMiss_inv h)

theorem sweepPage_inv {n : Nat} (h : Inv d) : Inv (d.sweepPage n) := by
  unfold Chip.sweepPage
  extract_lets d1 _ d2 _ _ d3
  have hd1 : Inv d1 := heatPage_inv h
  have hd2 : Inv d2 := hd1.elsewhere
  have hd3 : Inv d3 := setPte_inv hd2
  exact inv_ite h (inv_ite hd3 (inv_ite (queuePage_inv hd3) (inv_ite (queuePage_inv hd3) hd3)))

theorem migrationSweep_inv (h : Inv d) : Inv (migrationSweep d) := inv_ite h (inv_foldl (fun _ _ h1 => sweepPage_inv h1) h.elsewhere)

theorem execMigrationSweep_inv {s : State} (h : Inv s.chip) : OutInv (execMigrationSweep s) := on_inv (migrationSweep_inv h)

theorem startPage_inv {m : PageMove} (h : Inv d) : Inv (startPage m d) := by
  unfold startPage
  extract_lets _
  refine inv_ite (count_inv h) ?_
  split
  · exact count_inv h
  · extract_lets d1 _
    have hd1 : Inv d1 := setPte_inv (takeUnits_inv h)
    exact hd1.elsewhere

theorem pageMigration_inv (h : Inv d) : Inv (pageMigration d) := by
  unfold pageMigration
  split
  · exact h
  · exact inv_ite (startPage_inv h.elsewhere) h

theorem execPageMigration_inv {s : State} (h : Inv s.chip) : OutInv (execPageMigration s) := on_inv (pageMigration_inv h)

theorem pageMigrationComplete_inv (h : Inv d) : Inv (pageMigrationComplete d) := by
  unfold pageMigrationComplete
  split
  · exact h
  · extract_lets _ d1 _
    have hd1 : Inv d1 := h.elsewhere
    exact inv_ite h (inv_ite (abandonPage_inv hd1) (count_inv (switchPage_inv hd1.elsewhere)))

theorem execPageMigrationComplete_inv {s : State} (h : Inv s.chip) : OutInv (execPageMigrationComplete s) := on_inv (pageMigrationComplete_inv h)

theorem execMigPause_inv {s : State} (h : Inv s.chip) : OutInv (execMigPause s) := on_inv (answered_inv h.elsewhere)

theorem execMigResume_inv {s : State} (h : Inv s.chip) : OutInv (execMigResume s) := on_inv (answered_inv h.elsewhere)

/-! ### The block agents' common commands -/

theorem blockFenced_inv {b : Block} (h : Inv d) : Inv (d.blockFenced b) := by
  unfold Chip.blockFenced
  split
  · exact giveBack_inv h
  · exact abandonCompact_inv (abandonMove_inv (giveBack_inv h))
  · exact abandonPage_inv h
  · exact giveBack_inv h
  · exact pktFence_inv h
  · extract_lets d1
    have hd1 : Inv d1 := giveBack_inv (dmaBack_inv h)
    exact inv_foldl (fun _ _ h1 => inv_ite h1 (sr_inv h1)) hd1
  · extract_lets d1 _
    have hd1 : Inv d1 := giveBack_inv h
    exact hd1.elsewhere
  · exact ckpFence_inv h
  · exact giveBack_inv h
  · exact h
  · exact h
  · exact h
  · exact h
  · exact h
  · exact h
  · exact h
  · exact h
  · exact inv_foldl (fun _ _ h1 => emptyCore_inv h1) h
  · exact inv_foldl (fun _ _ h1 => coreGiveBack_inv h1) h

theorem fenced_inv {a : Agent} (h : Inv d) : Inv (d.fenced a) := by
  unfold Chip.fenced
  extract_lets _ d1
  have hd1 : Inv d1 := setAgentRec_inv h
  split
  · extract_lets _ d2
    have hd2 : Inv d2 := wcFenced_inv (setAgentSt_inv hd1)
    exact inv_foldl (fun _ _ h1 => inv_foldl (fun _ _ h2 => firingResend_inv h2) h1) hd2
  · exact setAgentSt_inv (coreGiveBack_inv hd1)
  · extract_lets d2
    have hd2 : Inv d2 := blockFenced_inv (setAgentSt_inv hd1)
    split
    · exact opsBack_inv hd2
    · exact hd2

theorem fenceComplete_inv {a : Agent} (h : Inv d) : Inv (fenceComplete d a) := inv_ite h (inv_ite (resetAgent_inv (fenced_inv h)) (fenced_inv h))

theorem execFenceComplete_inv {agent : Agent} {s : State} (h : Inv s.chip) : OutInv (execFenceComplete agent s) := on_inv (fenceComplete_inv h)

theorem execStatus_inv {agent : Agent} {s : State} (h : Inv s.chip) : OutInv (execStatus agent s) := on_inv h.elsewhere

theorem execFence_inv {agent : Agent} {s : State} (h : Inv s.chip) : OutInv (execFence agent s) :=
  on_inv (inv_ite (answered_inv h) (inv_ite (answered_inv (beginFence_inv h)) (answered_inv h)))

theorem blockResumes_inv {b : Block} (h : Inv d) : Inv (d.blockResumes b) := by
  unfold Chip.blockResumes
  split
  · exact collsGo_inv (resendWhere_inv h)
  · extract_lets d1
    have hd1 : Inv d1 := inv_foldl (fun _ _ h1 => queryStart_inv h1) h
    exact kvNext_inv (inv_foldl (fun _ _ h1 => queriesTake_inv h1) hd1)
  · refine inv_foldl ?_ h
    intro d1 x h1
    extract_lets _ _ d2
    have hd2 : Inv d2 := mapItems_inv h1 (fun _ => by split <;> exact ⟨rfl, rfl⟩)
    exact dvtGo_inv (resendPkts_inv hd2)
  · refine inv_foldl ?_ h
    intro d1 x h1
    extract_lets d2
    have hd2 : Inv d2 := inv_ite (sr_inv h1) h1
    exact dmaGo_inv hd2
  · exact nvmeGo_inv h
  · exact bulksGo_inv h
  · extract_lets _ _ d1
    have hd1 : Inv d1 := h.elsewhere
    exact inv_foldl (fun _ _ h1 => patEvent_inv h1) hd1
  · exact h

theorem unfence_inv {a : Agent} (h : Inv d) : Inv (unfence d a) := by
  unfold unfence
  refine inv_ite (answered_inv h) ?_
  split
  · exact inv_ite (answered_inv (wcReturns_inv h)) (answered_inv h)
  · exact inv_ite (answered_inv (setAgentSt_inv h)) (answered_inv h)
  · exact inv_ite (answered_inv (blockResumes_inv (setAgentSt_inv (setAgentRec_inv h)))) (answered_inv h)

theorem execUnfence_inv {agent : Agent} {s : State} (h : Inv s.chip) : OutInv (execUnfence agent s) := on_inv (unfence_inv h)

theorem resetCmd_inv {a : Agent} (h : Inv d) : Inv (reset d a) := by
  unfold reset
  refine inv_ite (answered_inv h) ?_
  split
  · exact answered_inv (resetAgent_inv h)
  · split
    · exact answered_inv h
    · exact answered_inv (beginFence_inv h)
  · split
    · exact answered_inv h
    · exact answered_inv h

theorem execReset_inv {agent : Agent} {s : State} (h : Inv s.chip) : OutInv (execReset agent s) := on_inv (resetCmd_inv h)

theorem execGate_inv {agent : Agent} {s : State} (h : Inv s.chip) : OutInv (execGate agent s) :=
  on_inv (inv_ite (answered_inv h) (answered_inv (setAgentSt_inv h)))

theorem execUngate_inv {agent : Agent} {s : State} (h : Inv s.chip) : OutInv (execUngate agent s) :=
  on_inv (inv_ite (answered_inv h) (answered_inv (setAgentSt_inv h)))

theorem execSample_inv {agent : Agent} {s : State} (h : Inv s.chip) : OutInv (execSample agent s) := on_inv h.elsewhere

theorem execInject_inv {agent : Agent} {source : Fin 768} {detail : BitVec 16} {s : State} (h : Inv s.chip) :
    OutInv (execInject agent source detail s) :=
  on_inv (inv_ite (answered_inv h) (answered_inv (sourceEvent_inv h)))

/-! ### Control flow of an Armature core -/

theorem branch_inv {n : Fin 16} {rs1 rs2 : Fin 32} {off : BitVec 12} {rule : Tag → Tag → Option Tag} {taken : Word → Word → Bool} (h : Inv d) :
    Inv (d.branch n rs1 rs2 off rule taken) := by
  unfold Chip.branch
  exact insn_inv h (fun _ h1 => typed2_inv h1 (fun _ _ _ => iOutInv_ite (goto_inv h1 (fun _ h2 => h2)) (next_inv h1)))

theorem execBeq_inv {n : Fin 16} {rs1 rs2 : Fin 32} {off : BitVec 12} {s : State} (h : Inv s.chip) : OutInv (execBeq n rs1 rs2 off s) :=
  on_inv (branch_inv h)

theorem execBne_inv {n : Fin 16} {rs1 rs2 : Fin 32} {off : BitVec 12} {s : State} (h : Inv s.chip) : OutInv (execBne n rs1 rs2 off s) :=
  on_inv (branch_inv h)

theorem execBlt_inv {n : Fin 16} {rs1 rs2 : Fin 32} {off : BitVec 12} {s : State} (h : Inv s.chip) : OutInv (execBlt n rs1 rs2 off s) :=
  on_inv (branch_inv h)

theorem execBge_inv {n : Fin 16} {rs1 rs2 : Fin 32} {off : BitVec 12} {s : State} (h : Inv s.chip) : OutInv (execBge n rs1 rs2 off s) :=
  on_inv (branch_inv h)

theorem execBltu_inv {n : Fin 16} {rs1 rs2 : Fin 32} {off : BitVec 12} {s : State} (h : Inv s.chip) : OutInv (execBltu n rs1 rs2 off s) :=
  on_inv (branch_inv h)

theorem execBgeu_inv {n : Fin 16} {rs1 rs2 : Fin 32} {off : BitVec 12} {s : State} (h : Inv s.chip) : OutInv (execBgeu n rs1 rs2 off s) :=
  on_inv (branch_inv h)

theorem execJump_inv {n : Fin 16} {off : BitVec 25} {s : State} (h : Inv s.chip) : OutInv (execJump n off s) :=
  on_inv (insn_inv h (fun _ h1 => goto_inv h1 (fun _ h2 => h2)))

theorem execJr_inv {n : Fin 16} {rs1 : Fin 32} {s : State} (h : Inv s.chip) : OutInv (execJr n rs1 s) :=
  on_inv (insn_inv h (fun _ h1 => typed1_inv h1 (fun _ => goto_inv h1 (fun _ h2 => h2))))

theorem call_inv {n : Fin 16} {t : Nat} (h : Inv d) : IOutInv (d.call n t) := iOutInv_ite (trap_inv h) (goto_inv h (fun _ h1 => setCore_inv h1))

theorem execCall_inv {n : Fin 16} {off : BitVec 25} {s : State} (h : Inv s.chip) : OutInv (execCall n off s) :=
  on_inv (insn_inv h (fun _ h1 => call_inv h1))

theorem execCallr_inv {n : Fin 16} {rs1 : Fin 32} {s : State} (h : Inv s.chip) : OutInv (execCallr n rs1 s) :=
  on_inv (insn_inv h (fun _ h1 => typed1_inv h1 (fun _ => call_inv h1)))

theorem ret_inv {n : Fin 16} (h : Inv d) : IOutInv (d.ret n) := by
  unfold Chip.ret
  extract_lets _ _
  refine iOutInv_ite (typed1_inv h (fun _ => goto_inv h (fun _ h1 => h1))) (iOutInv_ite (trap_inv h) (goto_inv h ?_))
  intro e h1
  extract_lets _
  exact setCore_inv h1

theorem execRetInsn_inv {n : Fin 16} {s : State} (h : Inv s.chip) : OutInv (execRetInsn n s) := on_inv (insn_inv h (fun _ h1 => ret_inv h1))

/-! ### Floating-point instructions of an Armature core -/

theorem fpWrite_inv {n : Fin 16} {rd : Fin 32} {v : Word} {t : Tag} {fl : Nat} (h : Inv d) : IOutInv (d.fpWrite n rd v t fl) :=
  next_inv (takeFree_inv (setCore_inv h))

theorem fp2_inv {n : Fin 16} {rd rs1 rs2 : Fin 32} {rule : Tag → Tag → Option Tag} {op : (Nat → Bool) → Word → Word → Word × Nat} (h : Inv d) :
    Inv (d.fp2 n rd rs1 rs2 rule op) :=
  insn_inv h (fun _ h1 => typed2_inv h1 (fun _ _ _ => fpWrite_inv h1))

theorem fp1_inv {n : Fin 16} {rd rs1 : Fin 32} {tIn tOut : Tag} {op : (Nat → Bool) → Word → Word × Nat} (h : Inv d) :
    Inv (d.fp1 n rd rs1 tIn tOut op) :=
  insn_inv h (fun _ h1 => typed1_inv h1 (fun _ => fpWrite_inv h1))

theorem fpCompare_inv {n : Fin 16} {rd rs1 rs2 : Fin 32} {rule : Tag → Tag → Option Tag} {op : Word → Word → Word} (h : Inv d) :
    Inv (d.fpCompare n rd rs1 rs2 rule op) :=
  insn_inv h (fun _ h1 => typed2_inv h1 (fun _ _ _ => writes_inv h1))

theorem execFaddD_inv {n : Fin 16} {rd rs1 rs2 : Fin 32} {s : State} (h : Inv s.chip) : OutInv (execFaddD n rd rs1 rs2 s) := on_inv (fp2_inv h)

theorem execFaddS_inv {n : Fin 16} {rd rs1 rs2 : Fin 32} {s : State} (h : Inv s.chip) : OutInv (execFaddS n rd rs1 rs2 s) := on_inv (fp2_inv h)

theorem execFsubD_inv {n : Fin 16} {rd rs1 rs2 : Fin 32} {s : State} (h : Inv s.chip) : OutInv (execFsubD n rd rs1 rs2 s) := on_inv (fp2_inv h)

theorem execFsubS_inv {n : Fin 16} {rd rs1 rs2 : Fin 32} {s : State} (h : Inv s.chip) : OutInv (execFsubS n rd rs1 rs2 s) := on_inv (fp2_inv h)

theorem execFmulD_inv {n : Fin 16} {rd rs1 rs2 : Fin 32} {s : State} (h : Inv s.chip) : OutInv (execFmulD n rd rs1 rs2 s) := on_inv (fp2_inv h)

theorem execFmulS_inv {n : Fin 16} {rd rs1 rs2 : Fin 32} {s : State} (h : Inv s.chip) : OutInv (execFmulS n rd rs1 rs2 s) := on_inv (fp2_inv h)

theorem execFdivD_inv {n : Fin 16} {rd rs1 rs2 : Fin 32} {s : State} (h : Inv s.chip) : OutInv (execFdivD n rd rs1 rs2 s) := on_inv (fp2_inv h)

theorem execFdivS_inv {n : Fin 16} {rd rs1 rs2 : Fin 32} {s : State} (h : Inv s.chip) : OutInv (execFdivS n rd rs1 rs2 s) := on_inv (fp2_inv h)

theorem execFminD_inv {n : Fin 16} {rd rs1 rs2 : Fin 32} {s : State} (h : Inv s.chip) : OutInv (execFminD n rd rs1 rs2 s) := on_inv (fp2_inv h)

theorem execFminS_inv {n : Fin 16} {rd rs1 rs2 : Fin 32} {s : State} (h : Inv s.chip) : OutInv (execFminS n rd rs1 rs2 s) := on_inv (fp2_inv h)

theorem execFmaxD_inv {n : Fin 16} {rd rs1 rs2 : Fin 32} {s : State} (h : Inv s.chip) : OutInv (execFmaxD n rd rs1 rs2 s) := on_inv (fp2_inv h)

theorem execFmaxS_inv {n : Fin 16} {rd rs1 rs2 : Fin 32} {s : State} (h : Inv s.chip) : OutInv (execFmaxS n rd rs1 rs2 s) := on_inv (fp2_inv h)

theorem execFsqrtD_inv {n : Fin 16} {rd rs1 : Fin 32} {s : State} (h : Inv s.chip) : OutInv (execFsqrtD n rd rs1 s) := on_inv (fp1_inv h)

theorem execFsqrtS_inv {n : Fin 16} {rd rs1 : Fin 32} {s : State} (h : Inv s.chip) : OutInv (execFsqrtS n rd rs1 s) := on_inv (fp1_inv h)

theorem execFeqD_inv {n : Fin 16} {rd rs1 rs2 : Fin 32} {s : State} (h : Inv s.chip) : OutInv (execFeqD n rd rs1 rs2 s) := on_inv (fpCompare_inv h)

theorem execFeqS_inv {n : Fin 16} {rd rs1 rs2 : Fin 32} {s : State} (h : Inv s.chip) : OutInv (execFeqS n rd rs1 rs2 s) := on_inv (fpCompare_inv h)

theorem execFltD_inv {n : Fin 16} {rd rs1 rs2 : Fin 32} {s : State} (h : Inv s.chip) : OutInv (execFltD n rd rs1 rs2 s) := on_inv (fpCompare_inv h)

theorem execFltS_inv {n : Fin 16} {rd rs1 rs2 : Fin 32} {s : State} (h : Inv s.chip) : OutInv (execFltS n rd rs1 rs2 s) := on_inv (fpCompare_inv h)

theorem execFleD_inv {n : Fin 16} {rd rs1 rs2 : Fin 32} {s : State} (h : Inv s.chip) : OutInv (execFleD n rd rs1 rs2 s) := on_inv (fpCompare_inv h)

theorem execFleS_inv {n : Fin 16} {rd rs1 rs2 : Fin 32} {s : State} (h : Inv s.chip) : OutInv (execFleS n rd rs1 rs2 s) := on_inv (fpCompare_inv h)

theorem execCvtDI_inv {n : Fin 16} {rd rs1 : Fin 32} {s : State} (h : Inv s.chip) : OutInv (execCvtDI n rd rs1 s) := on_inv (fp1_inv h)

theorem execCvtID_inv {n : Fin 16} {rd rs1 : Fin 32} {s : State} (h : Inv s.chip) : OutInv (execCvtID n rd rs1 s) := on_inv (fp1_inv h)

theorem execCvtSD_inv {n : Fin 16} {rd rs1 rs2 : Fin 32} {s : State} (h : Inv s.chip) : OutInv (execCvtSD n rd rs1 rs2 s) := on_inv (fp2_inv h)

theorem execCvtDS0_inv {n : Fin 16} {rd rs1 : Fin 32} {s : State} (h : Inv s.chip) : OutInv (execCvtDS0 n rd rs1 s) := on_inv (fp1_inv h)

theorem execCvtDS1_inv {n : Fin 16} {rd rs1 : Fin 32} {s : State} (h : Inv s.chip) : OutInv (execCvtDS1 n rd rs1 s) := on_inv (fp1_inv h)

/-! ### The integer and constant instructions of an Armature core -/

theorem alu_inv {n : Fin 16} {rd rs1 rs2 : Fin 32} {rule : Tag → Tag → Option Tag} {f : Word → Word → Word} (h : Inv d) :
    Inv (d.alu n rd rs1 rs2 rule f) :=
  insn_inv h (fun _ h1 => typed2_inv h1 (fun _ _ _ => writes_inv h1))

theorem aluImm_inv {n : Fin 16} {rd rs1 : Fin 32} {imm : BitVec 15} {rule : Tag → Tag → Option Tag} {f : Word → Word → Word} (h : Inv d) :
    Inv (d.aluImm n rd rs1 imm rule f) := by
  unfold Chip.aluImm
  refine insn_inv h ?_
  intro e h1
  refine read1_inv h1 ?_
  intro x0
  split
  · exact writes_inv h1
  · exact trap_inv h1

theorem aluDiv_inv {n : Fin 16} {rd rs1 rs2 : Fin 32} {f : Word → Word → Word} (h : Inv d) : Inv (d.aluDiv n rd rs1 rs2 f) :=
  insn_inv h (fun _ h1 => typed2_inv h1 (fun _ _ _ => iOutInv_ite (trap_inv h1) (writes_inv h1)))

theorem execAdd_inv {n : Fin 16} {rd rs1 rs2 : Fin 32} {s : State} (h : Inv s.chip) : OutInv (execAdd n rd rs1 rs2 s) := on_inv (alu_inv h)

theorem execSub_inv {n : Fin 16} {rd rs1 rs2 : Fin 32} {s : State} (h : Inv s.chip) : OutInv (execSub n rd rs1 rs2 s) := on_inv (alu_inv h)

theorem execAndInsn_inv {n : Fin 16} {rd rs1 rs2 : Fin 32} {s : State} (h : Inv s.chip) : OutInv (execAndInsn n rd rs1 rs2 s) := on_inv (alu_inv h)

theorem execOrInsn_inv {n : Fin 16} {rd rs1 rs2 : Fin 32} {s : State} (h : Inv s.chip) : OutInv (execOrInsn n rd rs1 rs2 s) := on_inv (alu_inv h)

theorem execXorInsn_inv {n : Fin 16} {rd rs1 rs2 : Fin 32} {s : State} (h : Inv s.chip) : OutInv (execXorInsn n rd rs1 rs2 s) := on_inv (alu_inv h)

theorem execShl_inv {n : Fin 16} {rd rs1 rs2 : Fin 32} {s : State} (h : Inv s.chip) : OutInv (execShl n rd rs1 rs2 s) := on_inv (alu_inv h)

theorem execShr_inv {n : Fin 16} {rd rs1 rs2 : Fin 32} {s : State} (h : Inv s.chip) : OutInv (execShr n rd rs1 rs2 s) := on_inv (alu_inv h)

theorem execSar_inv {n : Fin 16} {rd rs1 rs2 : Fin 32} {s : State} (h : Inv s.chip) : OutInv (execSar n rd rs1 rs2 s) := on_inv (alu_inv h)

theorem execSlt_inv {n : Fin 16} {rd rs1 rs2 : Fin 32} {s : State} (h : Inv s.chip) : OutInv (execSlt n rd rs1 rs2 s) := on_inv (alu_inv h)

theorem execSltu_inv {n : Fin 16} {rd rs1 rs2 : Fin 32} {s : State} (h : Inv s.chip) : OutInv (execSltu n rd rs1 rs2 s) := on_inv (alu_inv h)

theorem execMinInsn_inv {n : Fin 16} {rd rs1 rs2 : Fin 32} {s : State} (h : Inv s.chip) : OutInv (execMinInsn n rd rs1 rs2 s) := on_inv (alu_inv h)

theorem execMaxInsn_inv {n : Fin 16} {rd rs1 rs2 : Fin 32} {s : State} (h : Inv s.chip) : OutInv (execMaxInsn n rd rs1 rs2 s) := on_inv (alu_inv h)

theorem execMinu_inv {n : Fin 16} {rd rs1 rs2 : Fin 32} {s : State} (h : Inv s.chip) : OutInv (execMinu n rd rs1 rs2 s) := on_inv (alu_inv h)

theorem execMaxu_inv {n : Fin 16} {rd rs1 rs2 : Fin 32} {s : State} (h : Inv s.chip) : OutInv (execMaxu n rd rs1 rs2 s) := on_inv (alu_inv h)

theorem execMul_inv {n : Fin 16} {rd rs1 rs2 : Fin 32} {s : State} (h : Inv s.chip) : OutInv (execMul n rd rs1 rs2 s) := on_inv (alu_inv h)

theorem execMulh_inv {n : Fin 16} {rd rs1 rs2 : Fin 32} {s : State} (h : Inv s.chip) : OutInv (execMulh n rd rs1 rs2 s) := on_inv (alu_inv h)

theorem execMulhu_inv {n : Fin 16} {rd rs1 rs2 : Fin 32} {s : State} (h : Inv s.chip) : OutInv (execMulhu n rd rs1 rs2 s) := on_inv (alu_inv h)

theorem execDiv_inv {n : Fin 16} {rd rs1 rs2 : Fin 32} {s : State} (h : Inv s.chip) : OutInv (execDiv n rd rs1 rs2 s) := on_inv (aluDiv_inv h)

theorem execDivu_inv {n : Fin 16} {rd rs1 rs2 : Fin 32} {s : State} (h : Inv s.chip) : OutInv (execDivu n rd rs1 rs2 s) := on_inv (aluDiv_inv h)

theorem execRem_inv {n : Fin 16} {rd rs1 rs2 : Fin 32} {s : State} (h : Inv s.chip) : OutInv (execRem n rd rs1 rs2 s) := on_inv (aluDiv_inv h)

theorem execRemu_inv {n : Fin 16} {rd rs1 rs2 : Fin 32} {s : State} (h : Inv s.chip) : OutInv (execRemu n rd rs1 rs2 s) := on_inv (aluDiv_inv h)

theorem execAddi_inv {n : Fin 16} {rd rs1 : Fin 32} {imm : BitVec 15} {s : State} (h : Inv s.chip) : OutInv (execAddi n rd rs1 imm s) :=
  on_inv (aluImm_inv h)

theorem execAndi_inv {n : Fin 16} {rd rs1 : Fin 32} {imm : BitVec 15} {s : State} (h : Inv s.chip) : OutInv (execAndi n rd rs1 imm s) :=
  on_inv (aluImm_inv h)

theorem execOri_inv {n : Fin 16} {rd rs1 : Fin 32} {imm : BitVec 15} {s : State} (h : Inv s.chip) : OutInv (execOri n rd rs1 imm s) :=
  on_inv (aluImm_inv h)

theorem execXori_inv {n : Fin 16} {rd rs1 : Fin 32} {imm : BitVec 15} {s : State} (h : Inv s.chip) : OutInv (execXori n rd rs1 imm s) :=
  on_inv (aluImm_inv h)

theorem execSlti_inv {n : Fin 16} {rd rs1 : Fin 32} {imm : BitVec 15} {s : State} (h : Inv s.chip) : OutInv (execSlti n rd rs1 imm s) :=
  on_inv (aluImm_inv h)

theorem execSltiu_inv {n : Fin 16} {rd rs1 : Fin 32} {imm : BitVec 15} {s : State} (h : Inv s.chip) : OutInv (execSltiu n rd rs1 imm s) :=
  on_inv (aluImm_inv h)

theorem execShi_inv {n : Fin 16} {rd rs1 : Fin 32} {imm : BitVec 15} {s : State} (h : Inv s.chip) : OutInv (execShi n rd rs1 imm s) :=
  on_inv (insn_inv h (fun _ h1 => iOutInv_ite (illegal_inv h1) (typed1_inv h1 (fun _ => writes_inv h1))))

theorem execLui_inv {n : Fin 16} {rd : Fin 32} {imm : BitVec 20} {s : State} (h : Inv s.chip) : OutInv (execLui n rd imm s) :=
  on_inv (insn_inv h (fun _ h1 => writes_inv h1))

theorem execLuih_inv {n : Fin 16} {rd : Fin 32} {imm : BitVec 20} {s : State} (h : Inv s.chip) : OutInv (execLuih n rd imm s) :=
  on_inv (insn_inv h (fun _ h1 => typed1_inv h1 (fun _ => writes_inv h1)))

/-! ### Tag, accumulator and system instructions of an Armature core -/

theorem execMov_inv {n : Fin 16} {rd rs1 : Fin 32} {s : State} (h : Inv s.chip) : OutInv (execMov n rd rs1 s) :=
  on_inv (insn_inv h (fun _ h1 => read1_inv h1 (fun _ => writes_inv h1)))

theorem execTagof_inv {n : Fin 16} {rd rs1 : Fin 32} {s : State} (h : Inv s.chip) : OutInv (execTagof n rd rs1 s) :=
  on_inv (insn_inv h (fun _ h1 => writes_inv h1))

theorem execRetag_inv {n : Fin 16} {rd rs1 tag : Fin 32} {s : State} (h : Inv s.chip) : OutInv (execRetag n rd rs1 tag s) := by
  unfold execRetag
  refine on_inv (insn_inv h ?_)
  intro e h1
  split
  · exact illegal_inv h1
  · exact read1_inv h1 (fun _ => iOutInv_ite (trap_inv h1) (iOutInv_ite (writes_inv h1) (trap_inv h1)))

theorem execClr_inv {n : Fin 16} {rd : Fin 32} {s : State} (h : Inv s.chip) : OutInv (execClr n rd s) :=
  on_inv (insn_inv h (fun _ h1 => writes_inv h1))

theorem execAcz_inv {n : Fin 16} {acc : Fin 4} {s : State} (h : Inv s.chip) : OutInv (execAcz n acc s) :=
  on_inv (insn_inv h (fun _ h1 => iOutInv_ite stall_inv (thenCore_inv h1)))

theorem acrd_inv {n : Fin 16} {rd : Fin 32} {acc : Fin 4} {half : Bool} {t : Tag} (h : Inv d) : Inv (d.acrd n rd acc half t) :=
  insn_inv h (fun _ h1 => iOutInv_ite stall_inv (writes_inv h1))

theorem execAcrdD_inv {n : Fin 16} {rd : Fin 32} {acc : Fin 4} {half : Bool} {s : State} (h : Inv s.chip) : OutInv (execAcrdD n rd acc half s) :=
  on_inv (acrd_inv h)

theorem execAcrdI_inv {n : Fin 16} {rd : Fin 32} {acc : Fin 4} {half : Bool} {s : State} (h : Inv s.chip) : OutInv (execAcrdI n rd acc half s) :=
  on_inv (acrd_inv h)

theorem execAcwr_inv {n : Fin 16} {acc : Fin 4} {half : Bool} {rs1 : Fin 32} {s : State} (h : Inv s.chip) : OutInv (execAcwr n acc half rs1 s) :=
  on_inv (insn_inv h (fun _ h1 => typed1_inv h1 (fun _ => iOutInv_ite stall_inv (thenCore_inv h1))))

theorem execCsrr_inv {n : Fin 16} {rd : Fin 32} {csr : Fin 4096} {s : State} (h : Inv s.chip) : OutInv (execCsrr n rd csr s) := by
  unfold execCsrr
  refine on_inv (insn_inv h ?_)
  intro e h1
  split
  · exact next_inv (takeFree_inv (setCore_inv h1))
  · exact illegal_inv h1

theorem csrUpdate_inv {n : Fin 16} {rd : Fin 32} {csr : Fin 4096} {rs1 : Fin 32} {sub : Nat} {f : Word → Word → Word} (h : Inv d) :
    Inv (d.csrUpdate n rd csr rs1 sub f) :=
  insn_inv h (fun _ h1 => iOutInv_ite (illegal_inv h1) (typed1_inv h1 (fun _ => thenCore_inv h1)))

theorem execCsrw_inv {n : Fin 16} {csr : Fin 4096} {rs1 : Fin 32} {s : State} (h : Inv s.chip) : OutInv (execCsrw n csr rs1 s) :=
  on_inv (csrUpdate_inv h)

theorem execCsrs_inv {n : Fin 16} {rd : Fin 32} {csr : Fin 4096} {rs1 : Fin 32} {s : State} (h : Inv s.chip) : OutInv (execCsrs n rd csr rs1 s) :=
  on_inv (csrUpdate_inv h)

theorem execCsrc_inv {n : Fin 16} {rd : Fin 32} {csr : Fin 4096} {rs1 : Fin 32} {s : State} (h : Inv s.chip) : OutInv (execCsrc n rd csr rs1 s) :=
  on_inv (csrUpdate_inv h)

theorem execEret_inv {n : Fin 16} {s : State} (h : Inv s.chip) : OutInv (execEret n s) := by
  unfold execEret
  refine on_inv (insn_inv h ?_)
  intro e h1
  extract_lets _ _
  refine iOutInv_ite (jump_inv (setCore_inv h1)) ?_
  split
  · exact illegal_inv h1
  · extract_lets _
    exact jump_inv (setCore_inv h1)

theorem execFenceInsn_inv {n : Fin 16} {s : State} (h : Inv s.chip) : OutInv (execFenceInsn n s) :=
  on_inv (insn_inv h (fun _ h1 => iOutInv_ite stall_inv (next_inv h1)))

theorem execIfenceInsn_inv {n : Fin 16} {s : State} (h : Inv s.chip) : OutInv (execIfenceInsn n s) :=
  on_inv (insn_inv h (fun _ h1 => thenCore_inv h1))

theorem execWaite_inv {n : Fin 16} {s : State} (h : Inv s.chip) : OutInv (execWaite n s) :=
  on_inv (insn_inv h (fun _ h1 => iOutInv_ite stall_inv (next_inv h1)))

theorem execTrap_inv {n : Fin 16} {code : Fin 1024} {s : State} (h : Inv s.chip) : OutInv (execTrap n code s) :=
  on_inv (insn_inv h (fun _ h1 => trap_inv h1))

theorem execBrk_inv {n : Fin 16} {s : State} (h : Inv s.chip) : OutInv (execBrk n s) := on_inv (insn_inv h (fun _ h1 => trap_inv h1))

theorem execInterruptTaken_inv {n : Fin 16} {s : State} (h : Inv s.chip) : OutInv (execInterruptTaken n s) := by
  unfold execInterruptTaken
  refine on_inv ?_
  extract_lets _
  refine inv_ite h ?_
  split
  · exact armTrap_inv h
  · exact h

theorem execLoadDataReturn_inv {n : Fin 16} {s : State} (h : Inv s.chip) : OutInv (execLoadDataReturn n s) := on_inv (setCore_inv h)

/-! ### The Maquette -/

theorem maqWrite_inv {w : Nat × Nat × Nat} (h : Inv d) : Inv (d.maqWrite w) := inv_foldl (fun _ _ h1 => inv_ite h1 (sr_inv h1)) h

theorem maqShadow_inv {ws : List (Nat × Nat × Nat)} {x : Chip} (h : Inv d) (e : d.maqShadow ws = some x) : Inv x := by
  induction ws generalizing d with
  | nil => cases e; exact h
  | cons w ws ih =>
    unfold Chip.maqShadow at e
    split at e
    · cases e
    · exact ih (maqWrite_inv h) e

theorem keepReactions_inv {d old : Chip} (h : Inv d) : Inv (d.keepReactions old) :=
  inv_foldl (fun _ _ h1 => inv_ite h1 (sr_inv (sr_inv h1))) h

theorem keepPairs_inv {d old : Chip} (h : Inv d) : Inv (d.keepPairs old) := inv_ite h (sr_inv (sr_inv h))

theorem inr_of_ite {α β : Type} {q : Prop} [Decidable q] {a : α} {b : β} {o : α ⊕ β} (e : (if q then .inl a else o) = .inr b) : o = .inr b := by
  split at e
  · cases e
  · exact e

theorem maqCheck_inv {m : Maq} {key : Nat} {x : Chip} (h : Inv d) (e : d.maqCheck m key = .inr x) : Inv x := by
  unfold Chip.maqCheck at e
  split at e
  · cases e
  · next hx =>
    iterate 6 replace e := inr_of_ite e
    exact Sum.inr.inj e ▸ keepPairs_inv (keepReactions_inv (maqShadow_inv h hx))

theorem maqTry_inv {rd : Rd} {len svn : Nat} {dg : List Nat} {m : Maq} {x : Chip} (h : Inv d) (e : d.maqTry rd = .taken len svn dg m x) : Inv x := by
  unfold Chip.maqTry at e
  split at e
  · cases e
  · split at e
    · cases e
    · split at e
      · cases e
      · next hx =>
        cases e
        exact maqCheck_inv h hx

theorem formPool_inv (h : Inv d) : Inv (d.formPool) := by
  unfold Chip.formPool
  extract_lets _ _ _ d1 _
  have hd1 : Inv d1 := inv_foldl (fun _ _ h1 => inv_ite (sr_inv h1) (setAgentSt_inv (sr_inv h1))) h
  exact syncPool_inv (sr_inv hd1.elsewhere)

theorem loadPool_inv {m : Maq} {kind k unit : Nat} (h : Inv d) : Inv (d.loadPool m kind k unit) := setPool_inv h

theorem loadPools_inv {m : Maq} (h : Inv d) : Inv (d.loadPools m) := syncFill_inv (sr_inv (inv_foldl (fun _ _ h1 => loadPool_inv h1) h.elsewhere))

theorem loadRemaps_inv {m : Maq} (h : Inv d) : Inv (d.loadRemaps m) := by
  unfold Chip.loadRemaps
  extract_lets _ d1
  have hd1 : Inv d1 := by
    unfold d1
    refine inv_foldl ?_ h
    intro d2 x h1
    extract_lets _
    exact inv_ite (addRemap_inv h1) h1
  refine inv_foldl ?_ hd1
  intro d2 x h1
  extract_lets _ _ _
  exact inv_ite (inv_ite (addRemap_inv h1) h1) (inv_ite (sr_inv h1.elsewhere) (inv_ite h1.elsewhere h1))

theorem maqCommit_inv {old shadow : Chip} {m : Maq} {warm : Bool} (hshadow : Inv shadow) : Inv (old.maqCommit shadow m warm) := by
  unfold Chip.maqCommit
  extract_lets _ d1 _ _ d2 d3 d4 d5 _ d6 _
  have hd1 : Inv d1 := mr_inv hshadow
  have hd2 : Inv d2 := by
    unfold d2
    split
    · exact hd1
    · extract_lets base4
      have hbase4 : Inv base4 := sr_inv (sr_inv hd1)
      exact hbase4.elsewhere
  have hd3 : Inv d3 := formPool_inv hd2
  have hd4 : Inv d4 := loadPools_inv (inv_ite hd3 (loadRemaps_inv hd3))
  have hd5 : Inv d5 := mr_inv hd4
  have hd6 : Inv d6 := by
    unfold d6
    split
    · exact hd5
    · exact inv_ite hd5 (sr_inv hd5.besideItems)
  exact sr_inv hd6.elsewhere

theorem stage1Verify_inv (h : Inv d) : Inv (stage1Verify d) := by
  unfold stage1Verify
  extract_lets _ use d1
  have huse (d : Chip) (hd : Inv d) (src : Nat) (svn : Nat) (dg : List Nat) : Inv (use d src svn dg) := by
    unfold use
    exact sr_inv hd.elsewhere
  have hd1 : Inv d1 := fault_inv h
  refine inv_ite h ?_
  split
  · exact huse _ h _ _ _
  · split
    · exact huse _ hd1 _ _ _
    · exact enterSafe_inv (fault_inv hd1)

theorem execStage1Verify_inv {s : State} (h : Inv s.chip) : OutInv (execStage1Verify s) := on_inv (stage1Verify_inv h)

theorem maqAfter_inv {rd : Rd} {len svn src : Nat} {digest : List Nat} (h : Inv d) : Inv (d.maqAfter rd len svn src digest) :=
  (writePhys_inv (sr_inv (sr_inv (mr_inv (mr_inv h))))).elsewhere

theorem maquetteApply_inv (h : Inv d) : Inv (maquetteApply d) := by
  unfold maquetteApply
  refine inv_ite h ?_
  extract_lets alt
  have halt : ∀ e c, Inv e → Inv (alt e c) := fun e c he => by
    simp only [alt]
    split
    · next hx => exact fault_inv (maqAfter_inv (maqCommit_inv (maqTry_inv he hx)))
    · exact enterSafe_inv he
    · exact enterSafe_inv (fault_inv he)
  clear_value alt
  split
  · next hx => exact maqAfter_inv (maqCommit_inv (maqTry_inv h hx))
  · exact halt _ _ (sr_inv h)
  · exact halt _ _ (fault_inv h)

theorem execMaquetteApply_inv {s : State} (h : Inv s.chip) : OutInv (execMaquetteApply s) := on_inv (maquetteApply_inv h)

theorem some_of_orElse {α : Type} {o : Option α} {k : Unit → Option α} {x : α} (e : o.orElse k = some x) : o = some x ∨ k () = some x := by
  cases o with
  | none => exact .inr e
  | some y => exact .inl e

theorem maquetteAgain_inv (h : Inv d) : Inv (maquetteAgain d) := by
  unfold maquetteAgain
  extract_lets go
  have hgo : ∀ rd src x, go d rd src = some x → Inv x := fun rd src x e => by
    simp only [go] at e
    split at e
    · cases e
    · split at e
      · cases e
      · split at e
        · cases e
        · next hx =>
          cases e
          exact sr_inv (maqCommit_inv (keepPairs_inv (keepReactions_inv (maqShadow_inv h hx))))
  clear_value go
  split
  · next hx =>
    rcases some_of_orElse hx with hx | hx
    · exact hgo _ _ _ hx
    · rcases some_of_orElse hx with hx | hx
      · exact hgo _ _ _ hx
      · obtain ⟨y, hy, rfl⟩ := Option.map_eq_some_iff.mp hx
        exact fault_inv (hgo _ _ _ hy)
  · exact enterSafe_inv h

/-! ### The Plumb ring -/

theorem forward_inv {c : RingCell} (h : Inv d) : Inv (d.forward c) := inv_ite h.elsewhere h

theorem sendProbe_inv (h : Inv d) : Inv (d.sendProbe) := h.elsewhere

theorem badCell_inv {c : RingCell} (h : Inv d) : Inv (d.badCell c) := forward_inv (fault_inv (count_inv h))

theorem tickMarker_inv {error : ℤ} (h : Inv d) : Inv (tickMarker d error) :=
  inv_ite h (inv_ite (fault_inv ((sr_inv (sr_inv h)).elsewhere)) ((sr_inv (sr_inv h)).elsewhere))

theorem execTickMarker_inv {error : ℤ} {s : State} (h : Inv s.chip) : OutInv (execTickMarker error s) := on_inv (tickMarker_inv h)

theorem leaveHoldover_inv {number : Nat} (h : Inv d) : Inv (d.leaveHoldover number) := (note_inv (endAttn_inv (sr_inv h))).elsewhere

theorem receivedNumber_inv {number : Nat} (h : Inv d) : Inv (receivedNumber d number) := by
  unfold receivedNumber
  extract_lets _ _ d1 _ _ d2
  have hd1 : Inv d1 := h.elsewhere
  have hd2 : Inv d2 := hd1.elsewhere
  exact inv_ite (inv_ite (leaveHoldover_inv hd1) (inv_ite hd2 (fault_inv hd2))) (inv_ite (sr_inv hd1.elsewhere) hd1)

theorem tickCell_inv {crcOk : Bool} {number period master : Nat} (h : Inv d) : Inv (tickCell d crcOk number period master) := by
  unfold tickCell
  extract_lets d1 _ d2 d3 d4 _ d5
  have hd1 : Inv d1 := fault_inv h
  have hd2 : Inv d2 := hd1.elsewhere
  have hd3 : Inv d3 := sr_inv (sr_inv hd2)
  have hd4 : Inv d4 := sr_inv h
  have hd5 : Inv d5 := hd4.elsewhere
  exact inv_ite (badCell_inv h) (inv_ite (inv_ite (forward_inv (receivedNumber_inv hd3)) hd1) (inv_ite h (forward_inv (receivedNumber_inv hd5))))

theorem execTickCell_inv {crcOk : Bool} {number period : Nat} {master : Fin 16} {s : State} (h : Inv s.chip) :
    OutInv (execTickCell crcOk number period master s) :=
  on_inv (tickCell_inv h)

theorem markerMiss_inv (h : Inv d) : Inv (markerMiss d) := by
  unfold markerMiss
  extract_lets d1 d2 _ base _
  have hd1 : Inv d1 := mr_inv h
  have hd2 : Inv d2 := fault_inv (count_inv hd1)
  have hbase : Inv base := sr_inv (sr_inv hd2)
  exact inv_ite h (inv_ite (sendProbe_inv hbase.elsewhere) (inv_ite (raiseAttn_inv (fault_inv (sr_inv hd2))) hd2))

theorem execMarkerMiss_inv {s : State} (h : Inv s.chip) : OutInv (execMarkerMiss s) := on_inv (markerMiss_inv h)

theorem relock_inv (h : Inv d) : Inv (d.relock) := by
  unfold Chip.relock
  split
  · exact inv_ite (leaveHoldover_inv h) h
  · exact h

theorem execRelock_inv {s : State} (h : Inv s.chip) : OutInv (execRelock s) := on_inv (relock_inv h)

theorem probeCell_inv {crcOk : Bool} {delay last : Nat} (h : Inv d) : Inv (probeCell d crcOk delay last) :=
  inv_ite (badCell_inv h) (inv_ite h (inv_ite (sr_inv (forward_inv (sr_inv h))) (forward_inv (sr_inv h))))

theorem execProbeCell_inv {crcOk : Bool} {delay : Nat} {last : Fin 16} {s : State} (h : Inv s.chip) : OutInv (execProbeCell crcOk delay last s) :=
  on_inv (probeCell_inv h)

theorem probeReturn_inv {total loop : Nat} (h : Inv d) : Inv (probeReturn d total loop) := by
  unfold probeReturn
  extract_lets _ d1 d2
  have hd1 : Inv d1 := sr_inv h.elsewhere
  have hd2 : Inv d2 := inv_ite (fault_inv hd1) hd1
  exact inv_ite h (inv_ite (sr_inv (sr_inv hd2)) hd2)

theorem execProbeReturn_inv {total loop : Nat} {s : State} (h : Inv s.chip) : OutInv (execProbeReturn total loop s) := on_inv (probeReturn_inv h)

theorem execPeriodicProbe_inv {s : State} (h : Inv s.chip) : OutInv (execPeriodicProbe s) := on_inv (inv_ite (sendProbe_inv h) h)

theorem probe_inv (h : Inv d) : Inv (d.probe) := inv_ite (sendProbe_inv h) h

theorem execProbe_inv {s : State} (h : Inv s.chip) : OutInv (execProbe s) := on_inv (probe_inv h)

theorem execRingProbe_inv {s : State} (h : Inv s.chip) : OutInv (execRingProbe s) := on_inv (inv_ite (sendProbe_inv h.elsewhere) h.elsewhere)

theorem execJoined_inv {source : Fin 16} {s : State} (h : Inv s.chip) : OutInv (execJoined source s) :=
  on_inv (inv_ite (sendProbe_inv h) (forward_inv h))

theorem execLeaving_inv {source : Fin 16} {s : State} (h : Inv s.chip) : OutInv (execLeaving source s) := on_inv (inv_ite h.elsewhere (forward_inv h))

theorem ownCellSend_inv {held : List (BitVec 8)} (h : Inv d) : Inv (ownCellSend d held) := by
  unfold ownCellSend
  split
  · exact h
  · extract_lets _ _
    exact inv_ite h h.elsewhere

theorem execOwnCellSend_inv {held : List (BitVec 8)} {s : State} (h : Inv s.chip) : OutInv (execOwnCellSend held s) := on_inv (ownCellSend_inv h)

theorem askJoin_inv (h : Inv d) : Inv (d.askJoin) := inv_ite h (sr_inv h.elsewhere)

theorem execJoin_inv {s : State} (h : Inv s.chip) : OutInv (execJoin s) := on_inv (askJoin_inv h)

theorem execRingJoin_inv {s : State} (h : Inv s.chip) : OutInv (execRingJoin s) := on_inv ((askJoin_inv h).elsewhere)

theorem joinSwitchover_inv (h : Inv d) : Inv (joinSwitchover d) := by
  unfold joinSwitchover
  split
  · exact h
  · extract_lets d1 _ d2 _
    have hd1 : Inv d1 := sr_inv (sr_inv h)
    have hd2 : Inv d2 := hd1.elsewhere
    exact inv_ite h (inv_ite (sendProbe_inv hd2) hd2.elsewhere)

theorem execJoinSwitchover_inv {s : State} (h : Inv s.chip) : OutInv (execJoinSwitchover s) := on_inv (joinSwitchover_inv h)

theorem askLeave_inv (h : Inv d) : Inv (d.askLeave) := inv_ite h (sr_inv h.elsewhere)

theorem execLeave_inv {s : State} (h : Inv s.chip) : OutInv (execLeave s) := on_inv (askLeave_inv h)

theorem execRingLeave_inv {s : State} (h : Inv s.chip) : OutInv (execRingLeave s) := on_inv ((askLeave_inv h).elsewhere)

theorem leaveSwitchover_inv (h : Inv d) : Inv (leaveSwitchover d) := by
  unfold leaveSwitchover
  split
  · exact h
  · extract_lets d1 _
    have hd1 : Inv d1 := sr_inv (sr_inv (sr_inv h))
    exact inv_ite h hd1.elsewhere

theorem execLeaveSwitchover_inv {s : State} (h : Inv s.chip) : OutInv (execLeaveSwitchover s) := on_inv (leaveSwitchover_inv h)

/-! ### Start-up, clocks, power states and resets -/

/-- A reset keeps some of the bytes of memory and starts an empty ledger. -/
theorem inv_of_kept_cells {d e : Chip} {p : Host.Cell → Bool} (h : Inv d) (hc : e.mem.cells = d.mem.cells.filter p) (hi : e.led.items = []) :
    Inv e := by
  refine ⟨⟨?_, ?_, ?_⟩, hc ▸ cellsWf_filter _ _ h.2⟩
  · rw [hi]; exact .nil
  · rw [hi]; exact List.forall_mem_nil _
  · rw [hi]; exact .nil

theorem coldReset_inv (h : Inv d) : Inv (d.coldReset) := by
  unfold Chip.coldReset
  exact patCount_inv (inv_of_kept_cells h rfl rfl)

theorem pinsReleased_inv (h : Inv d) : Inv (d.pinsReleased) := h.elsewhere

theorem execPorNAssert_inv {s : State} (h : Inv s.chip) : OutInv (execPorNAssert s) := on_inv (pinsReleased_inv (coldReset_inv h))

theorem execPorNRelease_inv {straps : Fin 8} {s : State} (h : Inv s.chip) : OutInv (execPorNRelease straps s) := on_inv (inv_ite h.elsewhere h)

theorem execRefclkLock_inv {s : State} (h : Inv s.chip) : OutInv (execRefclkLock s) := on_inv (inv_ite h h.elsewhere)

theorem startUpReady_inv (h : Inv d) : Inv (startUpReady d) := inv_ite h (inv_ite (askJoin_inv (sr_inv h.elsewhere)) (sr_inv h.elsewhere))

theorem execStartUpReady_inv {s : State} (h : Inv s.chip) : OutInv (execStartUpReady s) := on_inv (startUpReady_inv h)

theorem pllStart_inv (h : Inv d) : Inv (pllStart d) := inv_ite h (sr_inv (sr_inv h.elsewhere))

theorem execPllStart_inv {s : State} (h : Inv s.chip) : OutInv (execPllStart s) := on_inv (pllStart_inv h)

theorem pllSwitch_inv (h : Inv d) : Inv (pllSwitch d) := inv_ite h (sr_inv h.elsewhere)

theorem execPllSwitch_inv {s : State} (h : Inv s.chip) : OutInv (execPllSwitch s) := on_inv (pllSwitch_inv h)

theorem switchClocks_inv (h : Inv d) : Inv (d.switchClocks) := inv_ite (count_inv (sr_inv h.elsewhere)) h

theorem execPllLockLoss_inv {which : Fin 2} {s : State} (h : Inv s.chip) : OutInv (execPllLockLoss which s) :=
  on_inv (inv_ite h (inv_ite (fault_inv (sr_inv h.elsewhere)) (sr_inv h.elsewhere)))

theorem execPllLockReturn_inv {which : Fin 2} {s : State} (h : Inv s.chip) : OutInv (execPllLockReturn which s) :=
  on_inv (inv_ite h (sr_inv h.elsewhere))

theorem execRefclkLoss_inv {s : State} (h : Inv s.chip) : OutInv (execRefclkLoss s) := by
  unfold execRefclkLoss
  refine on_inv (inv_ite h ?_)
  extract_lets _ d1
  have hd1 : Inv d1 := fault_inv h.elsewhere
  exact inv_ite (raiseAttn_inv (fault_inv (sr_inv hd1))) hd1

theorem execRefclkReturn_inv {s : State} (h : Inv s.chip) : OutInv (execRefclkReturn s) :=
  on_inv (inv_ite h (inv_ite (endAttn_inv (sr_inv h.elsewhere)) h.elsewhere))

theorem askWarm_inv (h : Inv d) : Inv (d.askWarm) := inv_ite h (warmTrigger_inv (sr_inv h))

theorem execWarmReset_inv {s : State} (h : Inv s.chip) : OutInv (execWarmReset s) := on_inv (answered_inv (askWarm_inv h))

theorem warmReport_inv (h : Inv d) : Inv (d.warmReport) := sr_inv (wr_inv h)

/-- What a fence of every agent makes of an item keeps its number and its slot. -/
theorem fencedItem_places (i : Item) (own : Nat) : let j := if i.crec = .none then backToAccepted i else i
    let k := if 0x40 ≤ own ∧ own < 0x50 then { j with owner := own } else if j.state = .committed ∧ j.redo ∧ !j.replied then
      { j with replayed := true } else j
    k.seq = i.seq ∧ k.slot = i.slot := by
  intro j k
  have hj : j.seq = i.seq ∧ j.slot = i.slot := by
    simp only [j]
    split
    · exact backToAccepted_places i
    · exact ⟨rfl, rfl⟩
  simp only [k]
  split
  · exact hj
  · split <;> exact hj

theorem allFenced_inv (h : Inv d) : Inv (d.allFenced) := by
  unfold Chip.allFenced
  refine mapItems_inv (inv_foldl (fun _ _ h1 => blockFenced_inv (setAgentSt_inv h1)) (inv_foldl (fun _ _ h1 => coreGiveBack_inv h1)
    (inv_foldl (fun _ _ h1 => emptyCore_inv h1) h))) (fun i => fencedItem_places i _)

theorem warmCore_inv (h : Inv d) : Inv (d.warmCore) := ⟨h.1, cellsWf_filter _ _ h.2⟩

theorem keepRetired_inv {d old : Chip} (h : Inv d) : Inv (d.keepRetired old) :=
  inv_foldl (fun _ _ h1 => inv_ite (sr_inv (sr_inv h1)) (sr_inv h1)) h

theorem refillGrants_inv (h : Inv d) : Inv (d.refillGrants) := inv_foldl (fun _ _ h1 => regrant_inv h1) h

theorem warmChipReset_inv (h : Inv d) : Inv (warmChipReset d) := by
  unfold warmChipReset
  extract_lets _ d1 d2 d3 d4
  have hd1 : Inv d1 := allFenced_inv h
  have hd2 : Inv d2 := inv_foldl (fun _ _ h1 => flushMerge_inv h1) hd1
  have hd3 : Inv d3 := syncFree_inv (keepRetired_inv (warmCore_inv (warmReport_inv hd2)))
  have hd4 : Inv d4 := sr_inv (mr_inv hd3)
  exact inv_ite h (patCount_inv (attnUpdate_inv (sr_inv (sr_inv hd4))))

theorem execWarmChipReset_inv {s : State} (h : Inv s.chip) : OutInv (execWarmChipReset s) := on_inv (warmChipReset_inv h)

theorem warmResetRelease_inv (h : Inv d) : Inv (warmResetRelease d) := inv_ite h (maquetteAgain_inv (sr_inv (sr_inv h.elsewhere)))

theorem execWarmResetRelease_inv {s : State} (h : Inv s.chip) : OutInv (execWarmResetRelease s) := on_inv (warmResetRelease_inv h)

theorem testCore_inv {n : Nat} {fails : Bool} (h : Inv d) : Inv (d.testCore n fails) := inv_ite h (inv_ite (retireCore_inv (sr_inv h)) (sr_inv h))

theorem resyncConns_inv (h : Inv d) : Inv (d.resyncConns) := inv_foldl (fun _ _ h1 => dvtPut_inv h1) h

theorem poolTested_inv {failed : Nat} (h : Inv d) : Inv (d.poolTested failed) := by
  unfold Chip.poolTested
  extract_lets d1 d2
  have hd1 : Inv d1 := inv_foldl (fun _ _ h1 => testCore_inv h1) h
  have hd2 : Inv d2 := refillGrants_inv hd1
  exact inv_ite (endAttn_inv hd2) hd2

theorem resetOver_inv (h : Inv d) : Inv (d.resetOver) := inv_ite (askJoin_inv (sr_inv (sr_inv h.elsewhere))) (sr_inv (sr_inv h.elsewhere))

theorem allResume_inv (h : Inv d) : Inv (d.allResume) := resyncConns_inv (inv_foldl (fun _ _ h1 => blockResumes_inv h1) h)

theorem warmResetReady_inv {failed : Nat} (h : Inv d) : Inv (warmResetReady d failed) := inv_ite h (allResume_inv (resetOver_inv (poolTested_inv h)))

theorem execWarmResetReady_inv {failed : BitVec 64} {s : State} (h : Inv s.chip) : OutInv (execWarmResetReady failed s) :=
  on_inv (warmResetReady_inv h)

theorem patSummary_inv (h : Inv d) : Inv (d.patSummary) := count_inv (sr_inv (patEvent_inv h.elsewhere))

theorem enterPower_inv {k : Nat} (h : Inv d) : Inv (enterPower d k) := by
  unfold enterPower
  extract_lets _ d1 d2 _ _ _
  have hd1 : Inv d1 := h.elsewhere
  have hd2 : Inv d2 := inv_ite hd1 (inv_foldl (fun _ _ h1 => flushMerge_inv h1) hd1)
  exact inv_ite h (inv_ite hd2 (patSummary_inv (sr_inv hd2.elsewhere)))

theorem execIdleTimerA1_inv {s : State} (h : Inv s.chip) : OutInv (execIdleTimerA1 s) := on_inv (enterPower_inv h)

theorem execIdleTimerA2_inv {s : State} (h : Inv s.chip) : OutInv (execIdleTimerA2 s) := on_inv (enterPower_inv h)

theorem execIdleTimerA3_inv {s : State} (h : Inv s.chip) : OutInv (execIdleTimerA3 s) := on_inv (enterPower_inv h)

theorem sramLost_inv (h : Inv d) : Inv (d.sramLost) := ⟨h.1, cellsWf_filter _ _ h.2⟩

theorem entryComplete_inv (h : Inv d) : Inv (entryComplete d) := by
  unfold entryComplete
  extract_lets _ _ d1 base1 _ d2
  have hd1 : Inv d1 := count_inv (sr_inv h.elsewhere)
  have hbase1 : Inv base1 := sramLost_inv hd1
  have hd2 : Inv d2 := hbase1.elsewhere
  exact inv_ite h (inv_ite hd1 (sr_inv (sr_inv (sr_inv (sr_inv hd2)))))

theorem execPowerStateEntryComplete_inv {s : State} (h : Inv s.chip) : OutInv (execPowerStateEntryComplete s) := on_inv (entryComplete_inv h)

theorem execWakeEvent_inv {s : State} (h : Inv s.chip) : OutInv (execWakeEvent s) := on_inv (wake_inv h)

theorem exitComplete_inv (h : Inv d) : Inv (exitComplete d) := by
  unfold exitComplete
  extract_lets _ _ d1
  have hd1 : Inv d1 := sr_inv h.elsewhere
  exact inv_ite h (inv_ite hd1 (inv_foldl (fun _ _ h1 => inv_ite h1 (coreReload_inv h1)) hd1))

theorem execExitComplete_inv {s : State} (h : Inv s.chip) : OutInv (execExitComplete s) := on_inv (exitComplete_inv h)

theorem execWakeBoundExpiry_inv {s : State} (h : Inv s.chip) : OutInv (execWakeBoundExpiry s) := on_inv (inv_ite (fault_inv h) h)

theorem execRailExcursion_inv {rail : Fin 8} {s : State} (h : Inv s.chip) : OutInv (execRailExcursion rail s) :=
  on_inv (inv_ite (pinsReleased_inv (coldReset_inv h)) (inv_ite (coldReset_inv (fault_inv h)) (fault_inv h)))

theorem execPcrGateFail_inv {domain : BitVec 16} {s : State} (h : Inv s.chip) : OutInv (execPcrGateFail domain s) := on_inv (fault_inv h)

theorem execPcrOsc_inv {mhz : BitVec 8} {s : State} (h : Inv s.chip) : OutInv (execPcrOsc mhz s) := on_inv (inv_ite (sr_inv h) (fault_inv (sr_inv h)))

theorem execThermtrip_inv {s : State} (h : Inv s.chip) : OutInv (execThermtrip s) := on_inv h.elsewhere

/-! ### Counters, trace, debug, hang snapshots, Caliper and Patina -/

theorem clearCounters_inv {k : Nat} (h : Inv d) : Inv (d.clearCounters k) := inv_ite h (setBit_inv h.elsewhere)

theorem execObsCtrClear_inv {block : BitVec 5} {s : State} (h : Inv s.chip) : OutInv (execObsCtrClear block s) := on_inv (clearCounters_inv h)

theorem traceOff_inv (h : Inv d) : Inv (d.traceOff) := sr_inv (sr_inv h.elsewhere)

theorem traceOn_inv (h : Inv d) : Inv (d.traceOn) := by
  unfold Chip.traceOn
  extract_lets d1 _ d2
  have hd1 : Inv d1 := sr_inv (sr_inv (sr_inv h))
  have hd2 : Inv d2 := mr_inv hd1.elsewhere
  exact inv_foldl (fun _ _ h1 => inv_ite (traceSync_inv (setCore_inv h1)) h1) hd2

theorem traceCfg_inv {v : Nat} (h : Inv d) : Inv (d.traceCfg v) := by
  unfold Chip.traceCfg
  extract_lets d1 d2 d3
  have hd1 : Inv d1 := sr_inv (sr_inv (sr_inv h))
  have hd2 : Inv d2 := sr_inv hd1
  have hd3 : Inv d3 := inv_ite (sr_inv hd2) hd2
  exact inv_ite (inv_ite h (traceOff_inv h)) (inv_ite (traceOn_inv hd3) hd3)

theorem execTraceEnable_inv {value : BitVec 63} {s : State} (h : Inv s.chip) : OutInv (execTraceEnable value s) := on_inv (traceCfg_inv h)

theorem execTraceDisable_inv {s : State} (h : Inv s.chip) : OutInv (execTraceDisable s) := on_inv (inv_ite (traceOff_inv h) h)

theorem execTraceTrigger_inv {s : State} (h : Inv s.chip) : OutInv (execTraceTrigger s) := on_inv (traceTrigger_inv h)

theorem execTracePostDone_inv {s : State} (h : Inv s.chip) : OutInv (execTracePostDone s) :=
  on_inv (inv_ite (sr_inv (funnelAll_inv h)) (funnelAll_inv h))

theorem execTraceStop_inv {s : State} (h : Inv s.chip) : OutInv (execTraceStop s) := on_inv (answered_inv (traceOff_inv h))

theorem Chip_halt_inv {n : Nat} (h : Inv d) : Inv (d.halt n) := inv_ite h (debugHalt_inv h)

theorem execHalt_inv {n : Fin 16} {s : State} (h : Inv s.chip) : OutInv (execHalt n s) := on_inv (Chip_halt_inv h)

theorem unhalt_inv {n : Nat} {stepping : Bool} (h : Inv d) : Inv (d.unhalt n stepping) :=
  inv_ite h (inv_ite (setCore_inv ((sr_inv (sr_inv h)).elsewhere)) (trace_inv ((sr_inv (sr_inv h)).elsewhere)))

theorem execResume_inv {n : Fin 16} {s : State} (h : Inv s.chip) : OutInv (execResume n s) := on_inv (unhalt_inv h)

theorem execStep_inv {n : Fin 16} {s : State} (h : Inv s.chip) : OutInv (execStep n s) := on_inv (unhalt_inv h)

theorem dbgWrite_inv {n : Fin 16} {k : Nat} {x : TVal} {e : Chip} (h : Inv d) (w : d.dbgWrite n k x = some e) : Inv e := by
  unfold Chip.dbgWrite at w
  split at w
  · cases w; exact setCore_inv h
  · split at w
    · cases w; exact setCore_inv h
    · split at w
      · cases w; exact setCore_inv h
      · cases w

theorem dbgAcc_inv {n : Fin 16} (h : Inv d) : Inv (d.dbgAcc n) := by
  unfold Chip.dbgAcc
  refine inv_ite (sr_inv h) (inv_ite ?_ ?_)
  · split
    · exact sr_inv h
    · refine inv_ite (sr_inv h) ?_
      split
      · exact sr_inv h
      · next hw => exact sr_inv (dbgWrite_inv h hw)
  · split
    · exact takeFree_inv (sr_inv (sr_inv h))
    · exact takeFree_inv (sr_inv (sr_inv (sr_inv h)))

theorem execObsDbgAcc_inv {n : Fin 16} {write : Bool} {tag : BitVec 4} {index : BitVec 12} {s : State} (h : Inv s.chip) :
    OutInv (execObsDbgAcc n write tag index s) :=
  on_inv (dbgAcc_inv (sr_inv (sr_inv (sr_inv h))))

theorem hangRecord_inv {k : Nat} {noans : Bool} (h : Inv d) : Inv (d.hangRecord k noans) := (wr_inv h).elsewhere

theorem hangDone_inv (h : Inv d) : Inv (d.hangDone) := inv_ite (count_inv (sr_inv (sr_inv h))) h

theorem hangGo_inv {silent : List Nat} (h : Inv d) : Inv (d.hangGo silent) := by
  unfold Chip.hangGo
  extract_lets d1 d2 _
  have hd1 : Inv d1 := sr_inv (sr_inv (sr_inv h))
  have hd2 : Inv d2 := inv_foldl (fun _ _ h1 => inv_ite h1 (hangRecord_inv h1)) hd1
  exact hangDone_inv hd2.elsewhere

theorem execObsHang_inv {silent : List (Fin 97)} {s : State} (h : Inv s.chip) : OutInv (execObsHang silent s) := on_inv (hangGo_inv h)

theorem execHangAgentTimeout_inv {agent : Fin 97} {s : State} (h : Inv s.chip) : OutInv (execHangAgentTimeout agent s) :=
  on_inv (inv_ite h (hangDone_inv ((mr_inv (hangRecord_inv h)).elsewhere)))

theorem calJudge_inv {x : CaliperSample} (h : Inv d) : Inv (d.calJudge x) := h.elsewhere

theorem caliperClose_inv {x : CaliperSample} (h : Inv d) : Inv (caliperClose d x) := by
  unfold caliperClose
  refine inv_ite h (atCycle_inv h ?_)
  intro e h1
  extract_lets _ d1 _ d2 d3
  have hd1 : Inv d1 := wr_inv h1
  have hd2 : Inv d2 := count_inv hd1.elsewhere
  have hd3 : Inv d3 := inv_ite (fault_inv hd2) hd2
  exact calJudge_inv hd3

theorem execCaliperRecordClose_inv {sample : CaliperSample} {s : State} (h : Inv s.chip) : OutInv (execCaliperRecordClose sample s) :=
  on_inv (caliperClose_inv h)

theorem calTick_inv {opened : Nat} (h : Inv d) : Inv (d.calTick opened) := by
  unfold Chip.calTick
  extract_lets _ _ d1 _ d2 d3
  have hd1 : Inv d1 := h.elsewhere
  have hd2 : Inv d2 := raiseAttn_inv (fault_inv hd1.elsewhere)
  have hd3 : Inv d3 := inv_ite (inv_ite (sr_inv hd2) hd2) hd1
  exact inv_ite (count_inv hd3) hd3

theorem execEmergencyEnd_inv {s : State} (h : Inv s.chip) : OutInv (execEmergencyEnd s) := on_inv (inv_ite h (endAttn_inv h.elsewhere))

theorem execReport_inv {source : Fin 16} {power : BitVec 16} {temp : BitVec 8} {s : State} (h : Inv s.chip) :
    OutInv (execReport source power temp s) :=
  on_inv ((wake_inv h).elsewhere)

theorem budget_inv {p : Nat} (h : Inv d) : Inv (budget d p) := inv_ite h (count_inv h.elsewhere)

theorem execBudget_inv {p : Fin 8} {s : State} (h : Inv s.chip) : OutInv (execBudget p s) := on_inv (budget_inv h)

theorem flagsCell_inv {crcOk : Bool} {f : Nat} (h : Inv d) : Inv (flagsCell d crcOk f) := by
  unfold flagsCell
  extract_lets d1 d2 _ d3 d4
  have hd1 : Inv d1 := forward_inv h
  have hd2 : Inv d2 := sr_inv hd1
  have hd3 : Inv d3 := inv_ite hd2.elsewhere hd2
  have hd4 : Inv d4 := inv_ite (fault_inv hd3) hd3
  exact inv_ite (badCell_inv h) (inv_ite (raiseAttn_inv hd4) hd4)

theorem execFlagsCell_inv {crcOk : Bool} {flags : BitVec 8} {s : State} (h : Inv s.chip) : OutInv (execFlagsCell crcOk flags s) :=
  on_inv (flagsCell_inv h)

theorem patTick_inv (h : Inv d) : Inv (d.patTick) := (inv_ite h (patCount_inv h)).elsewhere

theorem execPatinaSummary_inv {s : State} (h : Inv s.chip) : OutInv (execPatinaSummary s) := on_inv (inv_ite h (patSummary_inv h.elsewhere))

theorem execHistogramSample_inv {sample : CaliperSample} {s : State} (h : Inv s.chip) : OutInv (execHistogramSample sample s) :=
  on_inv (inv_ite h (patCount_inv (inv_foldl (fun _ _ h1 => patCount_inv h1) h.elsewhere)))

theorem execPatFlush_inv {s : State} (h : Inv s.chip) : OutInv (execPatFlush s) := on_inv (answered_inv (patSummary_inv h))

/-! ### The board's side of the device -/

theorem execI3cStatusRead_inv {index bytes : BitVec 8} {s : State} (h : Inv s.chip) : OutInv (execI3cStatusRead index bytes s) := on_inv h.elsewhere

theorem execI3cWakeWrite_inv {value : BitVec 8} {s : State} (h : Inv s.chip) : OutInv (execI3cWakeWrite value s) := on_inv ((wake_inv h).elsewhere)

theorem execDynamicAddressAssignment_inv {target : Fin 2} {addr : BitVec 7} {s : State} (h : Inv s.chip) :
    OutInv (execDynamicAddressAssignment target addr s) :=
  on_inv h.elsewhere

theorem perst_inv {pf : Nat} (h : Inv d) : Inv (perst d pf) := (hf_inv (inv_foldl (fun _ _ h1 => setMaster_inv h1) h)).elsewhere

theorem execPerstNAssert_inv {pf : Fin 2} {s : State} (h : Inv s.chip) : OutInv (execPerstNAssert pf s) := on_inv (perst_inv h)

/-! ### Ports (chapter 10) -/

theorem endSession_inv {p : Nat} (h : Inv d) : Inv (d.endSession p) := sr_inv (setPort_inv h)

theorem laneRecorded_inv {p j : Nat} (h : Inv d) : Inv (d.laneRecorded p j) := patSet_inv (patEvent_inv (note_inv h))

theorem goHalf_inv {p : Nat} (h : Inv d) : Inv (d.goHalf p) := by
  unfold Chip.goHalf
  split
  · exact portDown_inv h
  · extract_lets d1 _ d2 base1 _
    have hd1 : Inv d1 := sendLink_inv h
    have hd2 : Inv d2 := setPort_inv hd1
    have hbase1 : Inv base1 := raiseAttn_inv (retrain_inv hd2)
    exact hbase1.elsewhere

theorem laneFail_inv {p j : Nat} (h : Inv d) : Inv (d.laneFail p j) := by
  unfold Chip.laneFail
  extract_lets d1 d2 d3 _ d4
  have hd1 : Inv d1 := setBit_inv h
  have hd2 : Inv d2 := fault_inv (count_inv hd1)
  have hd3 : Inv d3 := laneRecorded_inv hd2
  have hd4 : Inv d4 := sendLink_inv (endSession_inv hd3)
  refine inv_ite h (inv_ite hd3.elsewhere (inv_ite (sr_inv (sr_inv hd4)) ?_))
  split
  · exact inv_ite (portDown_inv hd3) hd3
  · exact inv_ite (goHalf_inv (endSession_inv hd3)) hd3

theorem execLaneFailure_inv {p : Fin 12} {position : Fin 16} {s : State} (h : Inv s.chip) : OutInv (execLaneFailure p position s) :=
  on_inv (laneFail_inv h)

theorem spareFail_inv {p : Nat} (h : Inv d) : Inv (d.spareFail p) := inv_ite h (fault_inv (laneRecorded_inv (sr_inv (endSession_inv h))))

theorem spareLaneFail_inv {p : Nat} (h : Inv d) : Inv (d.spareLaneFail p) := by
  unfold Chip.spareLaneFail
  extract_lets _ d1 d2
  have hd1 : Inv d1 := count_inv (sr_inv h)
  have hd2 : Inv d2 := laneRecorded_inv (fault_inv hd1)
  refine inv_ite h (inv_ite (spareFail_inv (sr_inv (endSession_inv h))) ?_)
  split
  · exact inv_ite (portDown_inv hd2) hd2
  · exact inv_ite (goHalf_inv hd2) hd2

theorem execSpareFailure_inv {p : Fin 12} {s : State} (h : Inv s.chip) : OutInv (execSpareFailure p s) := on_inv (spareFail_inv h)

theorem rxFail_inv {p : Nat} (h : Inv d) : Inv (d.rxFail p) := inv_ite (count_inv h) (sendLink_inv (setPort_inv (count_inv h)))

theorem linkDrop_inv {p : Nat} {protocol : Bool} (h : Inv d) : Inv (d.linkDrop p protocol) := inv_ite (fault_inv (count_inv h)) (count_inv h)

theorem linkSymbol_inv {p op arg : Nat} (h : Inv d) : Inv (d.linkSymbol p op arg) := by
  unfold Chip.linkSymbol
  extract_lets _ d1 base _
  have hd1 : Inv d1 := endSession_inv (setPort_inv h)
  have hbase : Inv base := raiseAttn_inv (retrain_inv hd1)
  split
  · exact resend_inv h
  · exact setPort_inv h
  · exact setPort_inv h
  · exact setPort_inv h
  · exact setPort_inv h
  · exact setPort_inv h
  · exact setPort_inv h
  · exact inv_ite (linkDrop_inv h) hbase.elsewhere
  · exact linkDrop_inv h

theorem paceSymbol_inv {p line arg : Nat} (h : Inv d) : Inv (d.paceSymbol p line arg) := by
  unfold Chip.paceSymbol
  refine inv_ite (query_inv h) ?_
  split
  · exact dmaPace_inv h
  · exact trigger_inv h

theorem frameSymbol_inv {p : Nat} {w : LinkWord} (h : Inv d) : Inv (d.frameSymbol p w) := by
  unfold Chip.frameSymbol
  split
  · exact h
  · exact paceSymbol_inv h
  · exact linkSymbol_inv h
  · exact linkDrop_inv h

theorem rxFrame_inv {p : Nat} {w : LinkWord} {vc : Option Nat} {deliver : Chip → Chip} (h : Inv d) (hdeliver : ∀ e, Inv e → Inv (deliver e)) :
    Inv (d.rxFrame p w vc deliver) := by
  unfold Chip.rxFrame
  extract_lets d1 d2 _ _ _
  have hd1 : Inv d1 := linkTake_inv (wake_inv h)
  have hd2 : Inv d2 := inv_ite hd1 (count_inv hd1)
  exact inv_ite h (inv_ite (rxFail_inv hd2) (hdeliver _ (frameSymbol_inv (drainPort_inv (setPort_inv hd2)))))

theorem frameWrite_inv {p addr lines rsvd : Nat} {flit : List (BitVec 8)} (h : Inv d) : Inv (frameWrite d p addr lines rsvd flit) :=
  inv_ite (linkDrop_inv h) (wr_inv h)

theorem execWriteFrame_inv {p : Fin 12} {w : LinkWord} {addr : BitVec 38} {lines rsvd : Fin 4} {flit : List (BitVec 8)} {s : State} (h : Inv s.chip) :
    OutInv (execWriteFrame p w addr lines rsvd flit s) :=
  on_inv (rxFrame_inv h (fun _ h1 => frameWrite_inv h1))

theorem execWriteHpFrame_inv {p : Fin 12} {w : LinkWord} {addr : BitVec 38} {lines rsvd : Fin 4} {flit : List (BitVec 8)} {s : State} (h : Inv s.chip) :
    OutInv (execWriteHpFrame p w addr lines rsvd flit s) :=
  on_inv (rxFrame_inv h (fun _ h1 => frameWrite_inv h1))

theorem readReply_inv {p : Nat} {b : List Nat} (h : Inv d) : Inv (readReply d p b) := inv_foldl (fun _ _ h1 => sendFrame_inv h1) (noteRead_inv h)

theorem frameReadReq_inv {p count rsvd : Nat} {flit : List (BitVec 8)} (h : Inv d) : Inv (frameReadReq d p count rsvd flit) :=
  inv_ite (inv_foldl (fun _ _ h1 => readReply_inv h1) h) (linkDrop_inv h)

theorem execReadReqFrame_inv {p : Fin 12} {w : LinkWord} {count : Fin 8} {flit : BitVec 39 × List (BitVec 8)} {s : State} (h : Inv s.chip) :
    OutInv (execReadReqFrame p w count flit s) :=
  on_inv (rxFrame_inv h (fun _ h1 => frameReadReq_inv h1))

theorem frameReadCpl_inv {p lines offset addr : Nat} {flit : List (BitVec 8)} (h : Inv d) : Inv (frameReadCpl d p lines offset addr flit) :=
  writeRange_inv h

theorem execReadCplFrame_inv {p : Fin 12} {w : LinkWord} {lines : Fin 4} {offset : BitVec 24} {addr : BitVec 45} {flit : List (BitVec 8)} {s : State}
    (h : Inv s.chip) : OutInv (execReadCplFrame p w lines offset addr flit s) :=
  on_inv (rxFrame_inv h (fun _ h1 => frameReadCpl_inv h1))

theorem execDvtFrame_inv {p : Fin 12} {w : LinkWord} {first last : Bool} {flit : List (BitVec 8)} {s : State} (h : Inv s.chip) :
    OutInv (execDvtFrame p w first last flit s) :=
  on_inv (rxFrame_inv h (fun _ h1 => dvtFlit_inv h1))

theorem execCtrlFrame_inv {p : Fin 12} {w : LinkWord × Fin 8 × BitVec 42} {s : State} (h : Inv s.chip) : OutInv (execCtrlFrame p w s) := by
  unfold execCtrlFrame
  exact on_inv (inv_ite (rxFrame_inv h (fun _ h1 => inv_ite h1 (linkDrop_inv h1))) (rxFrame_inv h (fun _ h1 => linkDrop_inv h1)))

theorem streamFrame_inv {member stream offset : Nat} {bs : List Nat} {poison sealed : Bool} (h : Inv d) :
    Inv (streamFrame d member stream offset bs poison sealed) := by
  unfold streamFrame
  extract_lets d' _ _
  have hd' : Inv d' := streamWrite_inv h
  refine inv_ite hd' (inv_ite ?_ ?_)
  · split
    · exact setPort_inv hd'
    · exact hd'
  · split
    · exact setPort_inv hd'
    · exact hd'

theorem execStreamFrame_inv {member stream offset : Nat} {data : List (BitVec 8)} {poison : Bool} {link : Option LinkWord} {s : State}
    (h : Inv s.chip) : OutInv (execStreamFrame member stream offset data poison link s) := by
  unfold execStreamFrame
  refine on_inv ?_
  extract_lets _
  split
  · exact streamWrite_inv h
  · exact rxFrame_inv h (fun _ h1 => streamFrame_inv h1)

theorem execFrameReceiveFail_inv {p : Fin 12} {s : State} (h : Inv s.chip) : OutInv (execFrameReceiveFail p s) := on_inv (inv_ite (rxFail_inv h) h)

theorem execUnheldPaceSymbol_inv {p : Fin 12} {line : Fin 64} {s : State} (h : Inv s.chip) : OutInv (execUnheldPaceSymbol p line s) :=
  on_inv (inv_ite (wake_inv h) (linkDrop_inv (wake_inv h)))

theorem tagFail_inv {p : Nat} (h : Inv d) : Inv (d.tagFail p) := by
  unfold Chip.tagFail
  extract_lets _ d1 d2 d3 d4
  have hd1 : Inv d1 := setPort_inv h
  have hd2 : Inv d2 := inv_foldl (fun _ _ h1 => withdraw_inv h1) hd1
  have hd3 : Inv d3 := inv_foldl (fun _ _ h1 => firingWithdraw_inv h1) hd2
  have hd4 : Inv d4 := fault_inv (count_inv (count_inv hd3))
  exact portDown_inv hd4

theorem frameTag_inv {p ctx counter phase : Nat} {tagOk : Bool} (h : Inv d) : Inv (frameTag d p ctx counter phase tagOk) :=
  inv_ite (linkDrop_inv h) (inv_ite (tagFail_inv h) (setPort_inv (setBit_inv h.elsewhere)))

theorem execTagFrame_inv {p : Fin 12} {w : LinkWord} {counter : BitVec 42 × BitVec 48} {phase : Fin 2} {tagOk : Bool} {s : State} (h : Inv s.chip) :
    OutInv (execTagFrame p w counter phase tagOk s) :=
  on_inv (rxFrame_inv h (fun _ h1 => frameTag_inv h1))

theorem recordClose_inv {p : Nat} (h : Inv d) : Inv (recordClose d p) := by
  unfold recordClose
  refine inv_ite h ?_
  split
  · exact syncDead_inv h
  · next hc => exact syncDead_inv (setPort_inv (sendFrame_inv (takeFree_inv (slotCounter_inv h hc))))

theorem execRecordClose_inv {p : Fin 12} {s : State} (h : Inv s.chip) : OutInv (execRecordClose p s) := on_inv (recordClose_inv h)

theorem execNak_inv {p : Fin 12} {s : State} (h : Inv s.chip) : OutInv (execNak p s) := on_inv (inv_ite (linkSymbol_inv h) h)

theorem execReplayTimeout_inv {p : Fin 12} {s : State} (h : Inv s.chip) : OutInv (execReplayTimeout p s) := on_inv (inv_ite (resend_inv h) h)

theorem execRetrainComplete_inv {p : Fin 12} {ok : Bool} {s : State} (h : Inv s.chip) : OutInv (execRetrainComplete p ok s) :=
  on_inv (inv_ite h (inv_ite (portDown_inv h) (drainPort_inv (sr_inv (setPort_inv h)))))

theorem execLnkCredit_inv {p : Fin 12} {s : State} (h : Inv s.chip) : OutInv (execLnkCredit p s) := on_inv (inv_ite (fault_inv h) h)

theorem execSteerPrep_inv {p : Fin 12} {pos : Fin 16} {s : State} (h : Inv s.chip) : OutInv (execSteerPrep p pos s) :=
  on_inv (inv_ite (linkSymbol_inv h) h)

theorem execSteerDone_inv {p : Fin 12} {pos : Fin 16} {s : State} (h : Inv s.chip) : OutInv (execSteerDone p pos s) :=
  on_inv (inv_ite (linkSymbol_inv h) h)

theorem execReturnPrep_inv {p : Fin 12} {pos : Fin 16} {s : State} (h : Inv s.chip) : OutInv (execReturnPrep p pos s) :=
  on_inv (inv_ite (linkSymbol_inv h) h)

theorem execReturnDone_inv {p : Fin 12} {pos : Fin 16} {s : State} (h : Inv s.chip) : OutInv (execReturnDone p pos s) :=
  on_inv (inv_ite (linkSymbol_inv h) h)

theorem execSpare_inv {p : Fin 12} {pos : Fin 16} {s : State} (h : Inv s.chip) : OutInv (execSpare p pos s) := on_inv (inv_ite (linkSymbol_inv h) h)

theorem execSpareTrain_inv {p : Fin 12} {s : State} (h : Inv s.chip) : OutInv (execSpareTrain p s) := on_inv (inv_ite (linkSymbol_inv h) h)

theorem execHalf_inv {p : Fin 12} {half : BitVec 8} {s : State} (h : Inv s.chip) : OutInv (execHalf p half s) := on_inv (inv_ite (linkSymbol_inv h) h)

theorem startSession_inv {p pos : Nat} (h : Inv d) : Inv (d.startSession p pos) :=
  inv_ite (sendLink_inv (sr_inv (setPort_inv h))) (sendLink_inv (sr_inv (setPort_inv h)))

theorem execCalibrationSessionStart_inv {p : Fin 12} {s : State} (h : Inv s.chip) : OutInv (execCalibrationSessionStart p s) :=
  on_inv (inv_ite (startSession_inv h) h)

theorem sessionOver_inv {p pos : Nat} (h : Inv d) : Inv (d.sessionOver p pos) := setPort_inv (endSession_inv h)

theorem steerTick_inv {p : Nat} (h : Inv d) : Inv (d.steerTick p) := by
  unfold Chip.steerTick
  split
  · extract_lets _ d1
    have hd1 : Inv d1 := sr_inv (setPort_inv h)
    exact sendLink_inv (count_inv hd1)
  · extract_lets d1
    have hd1 : Inv d1 := count_inv (sr_inv h)
    exact sessionOver_inv (sendLink_inv hd1)
  · exact h

theorem trainingExpiry_inv {p : Nat} {reached : Bool} (h : Inv d) : Inv (trainingExpiry d p reached) := by
  unfold trainingExpiry
  split
  · extract_lets d1 _ d2 d3
    have hd1 : Inv d1 := patCount_inv h
    have hd2 : Inv d2 := setBit_inv h
    have hd3 : Inv d3 := fault_inv (count_inv hd2)
    exact inv_ite (inv_ite (sessionOver_inv hd1) (sendLink_inv (setPort_inv hd1))) (inv_ite (spareFail_inv (endSession_inv h))
      (sr_inv (endSession_inv (laneRecorded_inv hd3))))
  · exact h

theorem execTrainingTimeExpiry_inv {p : Fin 12} {reached : Bool} {s : State} (h : Inv s.chip) : OutInv (execTrainingTimeExpiry p reached s) :=
  on_inv (trainingExpiry_inv h)

theorem execSteerTimeout_inv {p : Fin 12} {s : State} (h : Inv s.chip) : OutInv (execSteerTimeout p s) := by
  unfold execSteerTimeout
  refine on_inv ?_
  split
  · extract_lets d1 _ d2
    have hd1 : Inv d1 := endSession_inv h
    have hd2 : Inv d2 := setPort_inv hd1
    exact inv_ite h (fault_inv (count_inv hd2))
  · exact h

theorem execSteerRetry_inv {p : Fin 12} {s : State} (h : Inv s.chip) : OutInv (execSteerRetry p s) := by
  unfold execSteerRetry
  refine on_inv ?_
  split
  · exact inv_ite (startSession_inv h) h
  · exact h

theorem portUpCmd_inv {src : Submit} {p : Nat} (h : Inv d) : Inv (portUpCmd d src p) :=
  inv_ite (refuse_inv h) (inv_ite (refuse_inv h) (sr_inv (setPort_inv (acceptCmd_inv _ _ _ _ _ _ _ h))))

theorem execPortUp_inv {src : Submit} {p : BitVec 8} {s : State} (h : Inv s.chip) : OutInv (execPortUp src p s) :=
  on_inv (served_inv h (fun _ h1 => submit_inv _ _ _ _ _ _ (fun _ h2 => portUpCmd_inv h2) h1))

theorem trainingComplete_inv {p : Nat} (h : Inv d) : Inv (trainingComplete d p) := by
  unfold trainingComplete
  extract_lets _ _ d1 d2 base _ d3
  have hd1 : Inv d1 := setPort_inv h
  have hd2 : Inv d2 := syncDead_inv (sr_inv hd1)
  have hbase : Inv base := endAttn_inv hd2
  have hd3 : Inv d3 := hbase.elsewhere
  exact inv_ite h (inv_ite hd3 (finish_inv hd3))

theorem execPortTrainingComplete_inv {p : Fin 12} {s : State} (h : Inv s.chip) : OutInv (execPortTrainingComplete p s) :=
  on_inv (trainingComplete_inv h)

theorem portDownCmd_inv {src : Submit} {p : Nat} (h : Inv d) : Inv (portDownCmd d src p) := by
  unfold portDownCmd
  extract_lets d1 _ d2
  have hd1 : Inv d1 := acceptCmd_inv _ _ _ _ _ _ _ h
  have hd2 : Inv d2 := portDown_inv hd1
  exact inv_ite (refuse_inv h) (inv_ite (refuse_inv h) (inv_ite (updItem_inv hd2 (fun _ => ⟨rfl, rfl⟩)) (finish_inv hd2)))

theorem execPortDown_inv {src : Submit} {p : BitVec 8} {s : State} (h : Inv s.chip) : OutInv (execPortDown src p s) :=
  on_inv (served_inv h (fun _ h1 => submit_inv _ _ _ _ _ _ (fun _ h2 => portDownCmd_inv h2) h1))

theorem setSa_inv {k slot xpn : Nat} (h : Inv d) : Inv (setSa k slot xpn d) := h.elsewhere

theorem macsecSa_inv {src : Submit} {p mac sc sa slot xpn : Nat} (h : Inv d) : Inv (macsecSa d src p mac sc sa slot xpn) := by
  unfold macsecSa
  extract_lets d1
  have hd1 : Inv d1 := acceptCmd_inv _ _ _ _ _ _ _ h
  exact inv_ite (refuse_inv h) (inv_ite (refuse_inv h) (inv_ite (refuse_inv h) (finishWith_inv hd1 (fun _ h1 => setSa_inv h1))))

theorem execMacsecSa_inv {src : Submit} {p mac sc sa : BitVec 8} {slot : BitVec 16} {xpn : Word} {s : State} (h : Inv s.chip) :
    OutInv (execMacsecSa src p mac sc sa slot xpn s) :=
  on_inv (served_inv h (fun _ h1 => submit_inv _ _ _ _ _ _ (fun _ h2 => macsecSa_inv h2) h1))

theorem execCalPause_inv {s : State} (h : Inv s.chip) : OutInv (execCalPause s) := on_inv (answered_inv h.elsewhere)

theorem execCalResume_inv {s : State} (h : Inv s.chip) : OutInv (execCalResume s) := on_inv (answered_inv h.elsewhere)

theorem execLaneFail_inv {lane : Fin 204} {s : State} (h : Inv s.chip) : OutInv (execLaneFail lane s) := by
  unfold execLaneFail
  refine on_inv ?_
  split
  · exact answered_inv (spareLaneFail_inv h)
  · exact answered_inv (laneFail_inv h)
  · exact answered_inv h

theorem eyeMeasured_inv {p j margin : Nat} (h : Inv d) : Inv (d.eyeMeasured p j margin) := by
  unfold Chip.eyeMeasured
  extract_lets d1 _ _ d2
  have hd1 : Inv d1 := sr_inv h
  have hd2 : Inv d2 := setPort_inv hd1
  exact inv_ite hd1 (inv_ite (setPort_inv hd1) (inv_ite hd2 (inv_ite (spareLaneFail_inv hd2) (laneFail_inv hd2))))

theorem execMargin_inv {lane : Fin 204} {margin : BitVec 8} {s : State} (h : Inv s.chip) : OutInv (execMargin lane margin s) := by
  unfold execMargin
  refine on_inv ?_
  split
  · exact answered_inv (eyeMeasured_inv h)
  · exact answered_inv h

/-! ### The ledger unit -/

theorem started_inv {seq : Nat} {k : ItemKind} (h : Inv d) : Inv (d.started seq k) := by
  unfold Chip.started
  split
  · exact queryStart_inv h
  · exact slotRun_inv h
  · exact h

theorem stepItem_inv {a : Arising} {slot logical : Nat} (h : Inv d) : Inv (d.stepItem a slot logical) := by
  unfold Chip.stepItem
  extract_lets _ _ _ _ d1 _
  have hd1 : Inv d1 := by
    unfold d1
    split
    · exact submitWork_inv h
    · exact submitColl_inv h
    · exact inv_ite (ckpStep_inv h) (refuse_inv h)
    · exact inv_ite (ckpNow_inv h) (refuse_inv h)
    · exact refuse_inv h
  exact hd1.elsewhere

theorem itemAccepted_inv (h : Inv d) : Inv (itemAccepted d) := by
  unfold itemAccepted
  split
  · exact h
  · extract_lets _ d1 d2
    have hd1 : Inv d1 := h.besideItems
    have hd2 : Inv d2 := accept_inv _ _ _ hd1
    refine inv_ite h ?_
    split
    · exact drainPlans_inv (stepItem_inv hd1)
    · exact started_inv hd2

theorem execItemAccepted_inv {s : State} (h : Inv s.chip) : OutInv (execItemAccepted s) := on_inv (itemAccepted_inv h)

theorem ledgerStall_inv {cycles : Nat} (h : Inv d) : Inv (ledgerStall d cycles) :=
  inv_ite h (inv_ite (fault_inv (count_inv h.besideItems)) (count_inv h.besideItems))

theorem execLedgerStall_inv {cycles : Nat} {s : State} (h : Inv s.chip) : OutInv (execLedgerStall cycles s) := on_inv (ledgerStall_inv h)

theorem itemFinish_inv {seq : Nat} (h : Inv d) : Inv (itemFinish d seq) := by
  unfold itemFinish
  split
  · exact h
  · split
    · exact h
    · extract_lets _ d1
      have hd1 : Inv d1 := issueCommit_inv h
      exact inv_ite h (inv_ite (leaveUnit_inv hd1) hd1)

theorem execItemFinish_inv {seq : Nat} {s : State} (h : Inv s.chip) : OutInv (execItemFinish seq s) := on_inv (itemFinish_inv h)

theorem execCommitRecordTaken_inv {seq : Nat} {s : State} (h : Inv s.chip) : OutInv (execCommitRecordTaken seq s) :=
  on_inv (inv_ite (takeCommit_inv h) h)

theorem commitEffect_inv {i : Item} (h : Inv d) : Inv (d.commitEffect i) := by
  unfold Chip.commitEffect
  extract_lets _ _ _
  split
  · exact atomicCommit_inv h
  · exact setGroup_inv h
  · exact clearGroup_inv h
  · exact openSeq_inv h
  · exact closeSeq_inv h
  · exact storeBlock_inv h
  · exact dropBlocks_inv h
  · exact bindSvc_inv h
  · exact mapPages_inv h
  · exact unmapPages_inv h
  · exact pinPages_inv h
  · exact markInit_inv h
  · exact stageCommit_inv h
  · exact setSa_inv h
  · exact h.elsewhere
  · exact inv_foldl (fun _ _ h1 => h1.elsewhere) h
  · exact dirtyEffect_inv h
  · exact loadKey_inv h
  · exact zeroKey_inv h
  · exact inv_ite (pktEffect_inv h) (inv_ite (nvsEffect_inv h) (inv_ite (ckpEffect_inv h) h))
  · exact h

theorem countWork_inv {i : Item} (h : Inv d) : Inv (d.countWork i) := by
  unfold Chip.countWork
  refine inv_ite ?_ h
  split
  · exact inv_foldl (fun _ _ h1 => inv_ite (count_inv h1) h1) (takeFree_inv (count_inv (count_inv h)))
  · exact h

theorem engineGo_inv {i : Item} (h : Inv d) : Inv (d.engineGo i) := by
  unfold Chip.engineGo
  extract_lets d1
  have hd1 : Inv d1 := by
    unfold d1
    split
    · exact dmaGo_inv h
    · exact dvtGo_inv h
    · exact h
  exact nvmeGo_inv hd1

theorem cancelItem_inv {i : Item} (h : Inv d) : Inv (d.cancelItem i) := by
  unfold Chip.cancelItem
  split
  · exact inv_ite (ckpAbandon_inv h) (withdraw_inv h)
  · exact engineGo_inv (withdraw_inv h)

theorem cancelTry_inv {q target : Nat} (h : Inv d) : Inv (d.cancelTry q target) := by
  unfold Chip.cancelTry
  split
  · exact finish_inv h
  · exact inv_ite (finish_inv (cancelItem_inv h)) (inv_ite (finish_inv h) h)

theorem cancelsGo_inv {target : Nat} (h : Inv d) : Inv (d.cancelsGo target) := inv_foldl (fun _ _ h1 => cancelTry_inv h1) h

theorem commitPoint_inv {seq : Nat} (h : Inv d) : Inv (commitPoint d seq) := by
  unfold commitPoint
  split
  · exact h
  · extract_lets _ _
    exact inv_ite h (inv_ite (cancelsGo_inv (activateGo_inv (inv_ite (updItem_inv h (fun _ => ⟨rfl, rfl⟩)) h)))
      (cancelsGo_inv (engineGo_inv (countWork_inv (endItem_inv (commitEffect_inv h))))))

theorem execCommitPoint_inv {seq : Nat} {s : State} (h : Inv s.chip) : OutInv (execCommitPoint seq s) := on_inv (commitPoint_inv h)

theorem execWithdrawalApplied_inv {seq code : Nat} {s : State} (h : Inv s.chip) : OutInv (execWithdrawalApplied seq code s) := by
  unfold execWithdrawalApplied
  refine on_inv ?_
  split
  · exact h
  · exact inv_ite (engineGo_inv (withdraw_inv h)) h

theorem cancel_inv {src : Submit} {target : Nat} (h : Inv d) : Inv (cancel d src target) :=
  inv_ite (refuse_inv h) (cancelTry_inv (acceptCmd_inv _ _ _ _ _ _ _ h))

theorem execCancel_inv {src : Submit} {target : Nat} {s : State} (h : Inv s.chip) : OutInv (execCancel src target s) :=
  on_inv (submit_inv _ _ _ _ _ _ (fun _ h1 => cancel_inv h1) h)

theorem nop_inv {src : Submit} (h : Inv d) : Inv (nop d src) := finish_inv (acceptCmd_inv _ _ _ _ _ _ _ h)

theorem execNop_inv {src : Submit} {s : State} (h : Inv s.chip) : OutInv (execNop src s) := on_inv (submit_inv _ _ _ _ _ _ (fun _ h1 => nop_inv h1) h)

theorem execEntryCheckFail_inv {slot : Fin 2097152} {copy : Fin 2} {s : State} (h : Inv s.chip) : OutInv (execEntryCheckFail slot copy s) :=
  on_inv (inv_ite h (inv_ite (fault_inv h) (ledgerLost_inv h)))

theorem ledgerCopyFail_inv {copy slot : Nat} {body : Bool} (h : Inv d) : Inv (ledgerCopyFail d copy slot body) := by
  unfold ledgerCopyFail
  extract_lets _ _
  exact inv_ite h (inv_ite (bankFail_inv h) (copyFail_inv (inv_foldl (fun _ _ h1 => patEvent_inv (addRemap_inv h1)) h)))

theorem execLedgerCopyFail_inv {copy : Fin 2} {slot : Fin 2097152} {body : Bool} {s : State} (h : Inv s.chip) :
    OutInv (execLedgerCopyFail copy slot body s) :=
  on_inv (ledgerCopyFail_inv h)

theorem ledgerRebuilt_inv (h : Inv d) : Inv (ledgerRebuilt d) := inv_ite h (attnUpdate_inv ((endAttn_inv (sr_inv (sr_inv h))).elsewhere))

theorem execLedgerRebuildComplete_inv {s : State} (h : Inv s.chip) : OutInv (execLedgerRebuildComplete s) := on_inv (ledgerRebuilt_inv h)

theorem execLedgerLost_inv {s : State} (h : Inv s.chip) : OutInv (execLedgerLost s) := on_inv (ledgerLost_inv h)

/-- The end of a mirror pass is a change of the mirror's records alone. -/
theorem passEnded_inv {m : Option MirrorArea} {l : List Nat} (h : Inv d) :
    Inv { d.takeFree with led := { d.led with pass := none, mirror := m, mirrored := l } } :=
  h.besideItems

theorem mirrorPassComplete_inv (h : Inv d) : Inv (mirrorPassComplete d) := by
  unfold mirrorPassComplete
  generalize d.led.pass = pass
  generalize d.led.mirrorDev = dev
  rcases pass with _ | is
  · exact h
  · rcases dev with _ | k
    · exact h
    · exact freeSlots_inv (passEnded_inv (wr_inv h))

theorem execMirrorPassComplete_inv {s : State} (h : Inv s.chip) : OutInv (execMirrorPassComplete s) := on_inv (mirrorPassComplete_inv h)

/-- A ledger with no item is in order whatever its next number. -/
theorem inv_of_no_items {d e : Chip} (h : Inv d) (hc : e.mem.cells = d.mem.cells) (hi : e.led.items = []) : Inv e := by
  refine ⟨⟨?_, ?_, ?_⟩, hc ▸ h.2⟩
  · rw [hi]; exact .nil
  · rw [hi]; exact List.forall_mem_nil _
  · rw [hi]; exact .nil

theorem initLedger_inv {head : Option Nat} (h : Inv d) : Inv (d.initLedger head) := by
  unfold Chip.initLedger
  refine inv_ite ?_ (Inv.elsewhere (inv_foldl (fun _ _ h1 => initRange_inv h1) ?_))
  all_goals refine inv_ite (endAttn_inv (syncFree_inv (sr_inv (sr_inv ?_)))) (syncFree_inv (sr_inv (sr_inv ?_)))
  all_goals exact inv_of_no_items h rfl rfl

theorem reportBuild_inv {decrypts : Bool} (h : Inv d) : Inv (reportBuild d decrypts) := by
  unfold reportBuild
  extract_lets none_
  have hnone_ : Inv none_ := initLedger_inv (sr_inv h)
  refine inv_ite h ?_
  split
  · exact hnone_
  · extract_lets _
    refine inv_ite h ?_
    split
    · extract_lets _ d1 _ d2 d3
      have hd1 : Inv d1 := wr_inv h
      have hd2 : Inv d2 := hd1.besideItems
      have hd3 : Inv d3 := sr_inv (sr_inv (sr_inv hd2))
      exact inv_ite hnone_ (initLedger_inv (raiseAttn_inv (sr_inv hd3)))
    · exact hnone_

theorem execRecoveryReportBuild_inv {decrypts : Bool} {s : State} (h : Inv s.chip) : OutInv (execRecoveryReportBuild decrypts s) :=
  on_inv (reportBuild_inv h)

theorem mirrorWaitExpiry_inv (h : Inv d) : Inv (mirrorWaitExpiry d) := inv_ite h (initLedger_inv (sr_inv h))

theorem execMirrorTrainingWaitExpiry_inv {s : State} (h : Inv s.chip) : OutInv (execMirrorTrainingWaitExpiry s) := on_inv (mirrorWaitExpiry_inv h)

theorem recoveryAck_inv (h : Inv d) : Inv (d.recoveryAck) := endAttn_inv (sr_inv h)

theorem execGlbRecoveryAck_inv {s : State} (h : Inv s.chip) : OutInv (execGlbRecoveryAck s) := on_inv (recoveryAck_inv h)

theorem noteClear_inv {mask : Nat} (h : Inv d) : Inv (d.noteClear mask) := attnUpdate_inv (mr_inv h)

theorem execGlbAttnNoteClear_inv {mask : BitVec 16} {s : State} (h : Inv s.chip) : OutInv (execGlbAttnNoteClear mask s) := on_inv (noteClear_inv h)

theorem passBegins_inv (h : Inv d) : Inv (d.passBegins) := by
  unfold Chip.passBegins
  split
  · exact inv_ite h (sr_inv h.besideItems)
  · exact h

theorem ledgerPublish_inv (h : Inv d) : Inv (ledgerPublish d) :=
  inv_ite h (atCycle_inv h (fun _ h1 => kvPublish_inv (freeSlots_inv (passBegins_inv (sr_inv (sr_inv h1))))))

theorem execLedgerPublish_inv {s : State} (h : Inv s.chip) : OutInv (execLedgerPublish s) := on_inv (ledgerPublish_inv h)

/-! ### The read-only tables of BAR0 and the tables of the host endpoint, by 64-bit word -/

theorem hwinWrite_inv {pf e o v bits : Nat} (h : Inv d) : Inv (d.hwinWrite pf e o v bits) := inv_ite h (hf_inv h)

theorem poolWrite_inv {pf v o x bits : Nat} (h : Inv d) : Inv (d.poolWrite pf v o x bits) := inv_ite h (hf_inv h)

/-! ### The tick boundary and the firing of the Frieze -/

theorem latchCounters_inv (h : Inv d) : Inv (d.latchCounters) := h.elsewhere

theorem carryItems_inv (h : Inv d) : Inv (d.carryItems) := countEach_inv (mapItems_inv h (fun _ => by split <;> exact ⟨rfl, rfl⟩))

theorem planFrame_inv {p : Plan} (h : Inv d) : Inv (d.planFrame p) :=
  inv_ite (raiseAttn_inv (fault_inv (updPlan_inv (updPlan_inv h)))) (updPlan_inv h)

theorem planFrames_inv (h : Inv d) : Inv (d.planFrames) := nextMeters_inv (inv_foldl (fun _ _ h1 => planFrame_inv h1) h)

theorem regrantShrunk_inv (h : Inv d) : Inv (d.regrantShrunk) := inv_ite h (inv_foldl (fun _ _ h1 => regrant_inv h1) h.elsewhere)

theorem mendGrants_inv (h : Inv d) : Inv (d.mendGrants) :=
  inv_foldl (fun _ _ h1 => inv_ite (regrant_inv h1) (inv_ite (regrant_inv h1) (suspend_inv h1))) h

theorem suspendOver_inv (h : Inv d) : Inv (d.suspendOver) := inv_foldl (fun _ _ h1 => inv_ite h1 (suspend_inv h1)) h

theorem readmit_inv (h : Inv d) : Inv (d.readmit) := by
  unfold Chip.readmit
  extract_lets _ d1 _ d2
  have hd1 : Inv d1 := h.elsewhere
  have hd2 : Inv d2 := inv_ite (raiseAttn_inv hd1) (endAttn_inv hd1)
  exact inv_ite h (syncAdmit_inv (suspendOver_inv (regrantShrunk_inv (mendGrants_inv hd2))))

theorem endRequests_inv (h : Inv d) : Inv (d.endRequests) := by
  unfold Chip.endRequests
  extract_lets keep d1
  have hkeep (d : Chip) (hd : Inv d) (f : Fld) (b : Bool) : Inv (keep d f b) := by
    unfold keep
    exact inv_ite hd (sr_inv hd)
  have hd1 : Inv d1 := hkeep _ (sr_inv h) _ _
  exact hkeep _ (hkeep _ hd1 _ _) _ _

theorem tickUnit_inv (h : Inv d) : Inv (d.tickUnit) := by
  unfold Chip.tickUnit
  extract_lets _ d1 _ _ _ _ d2 d3 base1 _ d4 _
  have hd1 : Inv d1 := sr_inv h
  have hd2 : Inv d2 := hd1.elsewhere
  have hd3 : Inv d3 := inv_ite (forward_inv hd2) hd2
  have hbase1 : Inv base1 := endRequests_inv hd3
  have hd4 : Inv d4 := hbase1.elsewhere
  exact inv_ite (sendProbe_inv hd4.elsewhere) hd4

theorem tickInterrupt_inv (h : Inv d) : Inv (d.tickInterrupt) := inv_foldl (fun _ _ h1 => pend_inv h1) h

theorem heldGo_inv (h : Inv d) : Inv (d.heldGo) := by
  unfold Chip.heldGo
  extract_lets d1 d2 d3
  have hd1 : Inv d1 := inv_foldl (fun _ _ h1 => slotRun_inv h1) h
  have hd2 : Inv d2 := dmaFrame_inv (bulksGo_inv (acceptsGo_inv (collsGo_inv hd1)))
  have hd3 : Inv d3 := inv_foldl (fun _ _ h1 => queryStart_inv h1) hd2
  exact inv_foldl (fun _ _ h1 => queriesTake_inv h1) hd3

theorem tickWork_inv (h : Inv d) : Inv (d.tickWork) := by
  unfold Chip.tickWork
  extract_lets d1 d2 _ d3 d4 d5
  have hd1 : Inv d1 := inv_foldl (fun _ _ h1 => steerTick_inv h1) h
  have hd2 : Inv d2 := moveTick_inv (migTick_inv (readmit_inv (planFrames_inv (carryItems_inv hd1))))
  have hd3 : Inv d3 := hd2.elsewhere
  have hd4 : Inv d4 := inv_ite (slotTick_inv hd3) hd3
  have hd5 : Inv d5 := inv_ite (inv_foldl (fun _ _ h1 => stepFence_inv (ckpWrites_inv (walkRate_inv h1))) hd4) hd4
  exact tickInterrupt_inv (mboxTake_inv (linkTake_inv (dvtTakeColl_inv (heldGo_inv hd5))))

theorem execCarriedItemsResume_inv {s : State} (h : Inv s.chip) : OutInv (execCarriedItemsResume s) :=
  on_inv (atCycle_inv h (fun _ h1 => heldGo_inv h1.elsewhere))

theorem tick_inv (h : Inv d) : Inv (tick d) := by
  unfold tick
  extract_lets _ d1 _ d2 d3 d4
  have hd1 : Inv d1 := tickUnit_inv h
  have hd2 : Inv d2 := inv_ite (latchCounters_inv hd1) hd1
  have hd3 : Inv d3 := switchClocks_inv hd2
  have hd4 : Inv d4 := inv_ite (calTick_inv (tickWork_inv hd3)) hd3
  exact inv_ite h (obsTick_inv (funnelAll_inv (traceDue_inv (patTick_inv hd4))))

theorem execTick_inv {s : State} (h : Inv s.chip) : OutInv (execTick s) := on_inv (tick_inv h)

theorem stepFires_inv {k : Nat} {p : Plan} {step : Nat} (h : Inv d) : Inv (d.stepFires k p step) := by
  unfold Chip.stepFires
  extract_lets _ _ d1 _ _ _ _ go
  have hd1 : Inv d1 := noteRead_inv h
  have hgo (b : Arising) : Inv (go b) := by
    unfold go
    exact inv_ite (stepItem_inv hd1) hd1.besideItems
  refine inv_ite (inv_ite (slotAllow_inv h) h) (inv_ite (updPlan_inv hd1) ?_)
  split
  · exact hgo _
  · exact hgo _
  · exact armStep_inv hd1
  · exact hgo _
  · exact hd1

theorem friezeSlotFire_inv {k : Nat} (h : Inv d) : Inv (friezeSlotFire d k) := by
  unfold friezeSlotFire
  split
  · exact h
  · extract_lets _ d1
    have hd1 : Inv d1 := h.elsewhere
    refine inv_ite h ?_
    split
    · split
      · exact hd1
      · exact inv_ite hd1 (inv_ite (updPlan_inv hd1) (stepFires_inv hd1))
    · exact inv_ite hd1 (openWindow_inv hd1)
    · exact hd1

theorem execFriezeSlotFire_inv {slot : Fin 1024} {s : State} (h : Inv s.chip) : OutInv (execFriezeSlotFire slot s) := on_inv (friezeSlotFire_inv h)

/-! ### Accesses to BAR0 -/

theorem clearRC_inv {p : Place} {wide : Bool} (h : Inv d) : Inv (d.clearRC p wide) := by
  unfold Chip.clearRC
  split
  · exact inv_foldl (fun _ _ h1 => inv_ite (sr_inv h1) h1) h
  · exact h

theorem tookFree_inv {p : Place} (h : Inv d) : Inv (d.tookFree p) := by
  unfold Chip.tookFree
  split
  · exact takeFree_inv h
  · exact h

theorem readPlace_inv {by_ : Req} {p : Place} {wide : Bool} (h : Inv d) : Inv (d.readPlace by_ p wide).2 := by
  unfold Chip.readPlace
  extract_lets _ _ d1 _ gone base _
  have hd1 : Inv d1 := tookFree_inv h
  have hgone (d : Chip) (hd : Inv d) : Inv (gone d) := by
    unfold gone
    exact hd.elsewhere
  have hbase : Inv base := clearRC_inv (hgone _ hd1)
  split
  · exact hbase.elsewhere
  · split
    · exact clearRC_inv hd1
    · split
      · exact hbase.elsewhere
      · split
        · exact hgone _ hd1
        · exact clearRC_inv hd1

theorem barRead_inv {by_ : Req} {addr : Nat} {wide : Bool} (h : Inv d) : Inv (d.barRead by_ addr wide).2 := by
  unfold Chip.barRead
  extract_lets _
  split
  · exact readPlace_inv h
  · exact h
  · exact h

theorem writeField_inv {m : Met} {o v pm : Nat} (h : Inv d) : Inv (d.writeField m o v pm) := by
  unfold Chip.writeField
  extract_lets _ _ _
  split
  · exact h
  · exact h
  · exact h
  · exact sr_inv h
  · exact sr_inv h
  · exact inv_ite (sr_inv h) h
  · exact inv_ite (sr_inv h) h

theorem writeFields_inv {fn o : Nat} {wide : Bool} {v : Nat} {skip : List Nat} (h : Inv d) : Inv (d.writeFields fn o wide v skip) :=
  inv_foldl (fun _ _ h1 => inv_ite h1 (writeField_inv h1)) h

theorem tckWrite_inv {v : Nat} (h : Inv d) : Inv (d.tckWrite v) := by
  unfold Chip.tckWrite
  extract_lets d1 d2 d3 d4
  have hd1 : Inv d1 := writeFields_inv h
  have hd2 : Inv d2 := inv_ite (relock_inv hd1) hd1
  have hd3 : Inv d3 := inv_ite (probe_inv hd2) hd2
  have hd4 : Inv d4 := inv_ite (askJoin_inv hd3) hd3
  exact inv_ite (askLeave_inv hd4) hd4

theorem pairsWrite_inv {v : Nat} (h : Inv d) : Inv (d.pairsWrite v) := keepPairs_inv (writeFields_inv h)

theorem srcCfgWrite_inv {s v : Nat} (h : Inv d) : Inv (d.srcCfgWrite s v) :=
  inv_ite (sr_inv (sr_inv (writeFields_inv h))) (sr_inv (sr_inv (writeFields_inv h)))

theorem srcStateWrite_inv {s v : Nat} (h : Inv d) : Inv (d.srcStateWrite s v) := writeFields_inv (inv_ite (endHold_inv h) h)

theorem ringWrite_inv {by_ : Req} {r o v : Nat} (h : Inv d) : Inv (d.ringWrite by_ r o v) := by
  unfold Chip.ringWrite
  extract_lets d1
  have hd1 : Inv d1 := inv_ite h (writeFields_inv h)
  exact inv_ite h (inv_ite (dbRefused_inv h) (inv_ite hd1 (inv_ite (ringEnable_inv hd1) (ringDisable_inv hd1))))

theorem chanWrite_inv {c v : Nat} (h : Inv d) : Inv (d.chanWrite c v) :=
  inv_ite (chanEnable_inv (inv_ite h (writeFields_inv h))) (chanDrop_inv (inv_ite h (writeFields_inv h)))

theorem cmdWrite_inv {by_ : Req} {n o v : Nat} (h : Inv d) : Inv (d.cmdWrite by_ n o v) := by
  unfold Chip.cmdWrite
  split
  · exact h
  · refine inv_ite h (inv_ite (writeFields_inv h) ?_)
    split
    · exact cmdAccept_inv h
    · exact cmdRefuse_inv h
    · exact cmdEnd_inv h
    · exact sr_inv h

theorem bpWrite_inv {o v : Nat} (h : Inv d) : Inv (d.bpWrite o v) :=
  inv_ite (writeFields_inv h) (inv_ite (sr_inv (writeFields_inv h)) (writeFields_inv h))

theorem dbgAsked_inv {n k : Nat} (h : Inv d) : Inv (d.dbgAsked n k) := sr_inv (sr_inv (sr_inv h))

theorem dbgWord_inv {o v : Nat} (h : Inv d) : Inv (d.dbgWord o v) := by
  unfold Chip.dbgWord
  extract_lets _ d1 d2
  have hd1 : Inv d1 := inv_ite (Chip_halt_inv (dbgAsked_inv h)) h
  have hd2 : Inv d2 := writeFields_inv h
  split
  · exact inv_ite (unhalt_inv (dbgAsked_inv hd1)) (inv_ite (unhalt_inv (dbgAsked_inv hd1)) hd1)
  · exact inv_ite (dbgAcc_inv hd2) hd2
  · exact writeFields_inv h

theorem pfWrite32_inv {by_ : Req} {fn o v : Nat} (h : Inv d) : Inv (d.pfWrite32 by_ fn o v) := by
  unfold Chip.pfWrite32
  extract_lets d1 _ d2
  have hd1 : Inv d1 := inv_ite (pllStart_inv h) h
  have hd2 : Inv d2 := writeFields_inv h
  exact inv_ite (noteClear_inv h) (inv_ite (inv_ite (nvResume_inv (freezeRelease_inv (sr_inv h))) h)
    (inv_ite (hwinWrite_inv h) (inv_ite (poolWrite_inv h) (inv_ite (inv_ite (dbCmd_inv h) (dbRpl_inv h))
      (inv_ite (setHubMode_inv h) (inv_ite (chipPet_inv h) (inv_ite (inv_ite (enterSafe_inv (sr_inv h)) h)
        (inv_ite (inv_ite (askWarm_inv h) h) (inv_ite (inv_ite (pllSwitch_inv hd1) hd1)
          (inv_ite (tckWrite_inv h) (inv_ite (flipArm_inv h) (inv_ite (pet_inv h) (inv_ite h.elsewhere
            (inv_ite (keyWrite_inv h) (inv_ite (nvPropWrite_inv h) (inv_ite (pairsWrite_inv h)
              (inv_ite (inv_ite (zeroise_inv h) h) (inv_ite (portPhase_inv h) (inv_ite (clearCounters_inv h)
                (inv_ite (inv_ite (traceTrigger_inv hd2) hd2) (writeFields_inv h)))))))))))))))))))))

theorem pfWrite64_inv {by_ : Req} {fn o v : Nat} (h : Inv d) : Inv (d.pfWrite64 by_ fn o v) := by
  unfold Chip.pfWrite64
  extract_lets d1
  have hd1 : Inv d1 := writeFields_inv h
  exact inv_ite (inv_ite (recoveryAck_inv h) h) (inv_ite (ringWrite_inv h) (inv_ite (srcCfgWrite_inv h)
    (inv_ite (srcStateWrite_inv h) (inv_ite (wake_inv (writeFields_inv h)) (inv_ite (writeMsg_inv h)
      (inv_ite (cmdWrite_inv h) (inv_ite (treadWrite_inv h) (inv_ite (chanWrite_inv h)
        (inv_ite (syncDead_inv (portKey_inv h)) (inv_ite (traceCfg_inv h) (inv_ite (inv_ite (hangGo_inv hd1) hd1)
          (inv_ite (bpWrite_inv h) (inv_ite (dbgWord_inv h) (writeFields_inv h))))))))))))))

theorem pageWrite32_inv {f o v : Nat} (h : Inv d) : Inv (d.pageWrite32 f o v) := by
  unfold Chip.pageWrite32
  extract_lets _ put m
  have hput (m : Mbox) : Inv (put m) := by
    unfold put
    exact hf_inv h
  exact inv_ite (inv_ite (mboxDb_inv (wake_inv h)) h) (inv_ite (inv_ite (hput _) h) (inv_ite (hput _) (inv_ite (nvPropWrite_inv h) h)))

theorem write32_inv {by_ : Req} {p : Place} {v : Nat} (h : Inv d) : Inv (d.write32 by_ p v) := by
  unfold Chip.write32
  split
  · exact pfWrite32_inv h
  · exact pageWrite32_inv h
  · exact h

theorem writeWord_inv {by_ : Req} {p : Place} {low : Option Nat} {high : Nat} (h : Inv d) : Inv (d.writeWord by_ p low high) := by
  unfold Chip.writeWord
  split
  · exact pfWrite64_inv h
  · exact h

theorem writePlace_inv {by_ : Req} {p : Place} {wide : Bool} {v : Nat} (h : Inv d) : Inv (d.writePlace by_ p wide v) := by
  unfold Chip.writePlace
  extract_lets _ _ d1 d2 _ _
  have hd1 : Inv d1 := h.elsewhere
  have hd2 : Inv d2 := hd1.elsewhere
  exact inv_ite (inv_ite (writeWord_inv hd2) (write32_inv (write32_inv hd2))) (inv_ite (write32_inv hd1)
    (inv_ite hd1.elsewhere (writeWord_inv hd1.elsewhere)))

theorem barWrite_inv {by_ : Req} {addr : Nat} {wide : Bool} {v : Nat} (h : Inv d) : Inv (d.barWrite by_ addr wide v) := inv_ite h (writePlace_inv h)

theorem execRegisterWrite_inv {by_ : Req} {addr : Nat} {wide : Bool} {value : Word} {s : State} (h : Inv s.chip) :
    OutInv (execRegisterWrite by_ addr wide value s) :=
  on_inv (inv_ite (barWrite_inv h) h)

theorem execInvalidBar0Access_inv {by_ : Req} {addr bytes : Nat} {write : Bool} {s : State} (h : Inv s.chip) :
    OutInv (execInvalidBar0Access by_ addr bytes write s) :=
  on_inv (inv_ite h h.elsewhere)

theorem halfWrite_inv {by_ : Req} {addr half v : Nat} (h : Inv d) : Inv (d.halfWrite by_ addr half v) := inv_ite (barWrite_inv h) h

theorem execHeldLowerHalfWrite_inv {by_ : Req} {addr : Nat} {value : BitVec 32} {s : State} (h : Inv s.chip) :
    OutInv (execHeldLowerHalfWrite by_ addr value s) :=
  on_inv (halfWrite_inv h)

theorem execUpperHalfWrite_inv {by_ : Req} {addr : Nat} {value : BitVec 32} {s : State} (h : Inv s.chip) :
    OutInv (execUpperHalfWrite by_ addr value s) :=
  on_inv (halfWrite_inv h)

theorem read_inv {by_ : Req} {addr : Nat} {wide : Bool} (h : Inv d) : Inv (d.read by_ addr wide) := (barRead_inv h).elsewhere

theorem execLatchingLowerHalfRead_inv {by_ : Req} {addr : Nat} {s : State} (h : Inv s.chip) : OutInv (execLatchingLowerHalfRead by_ addr s) :=
  on_inv (inv_ite (read_inv h) h)

theorem execRcFieldRead_inv {by_ : Req} {addr : Nat} {wide : Bool} {s : State} (h : Inv s.chip) : OutInv (execRcFieldRead by_ addr wide s) :=
  on_inv (inv_ite (read_inv h) h)

/-! ### The loads and stores of the Armature cores -/

theorem loadInto_inv {n : Fin 16} {rd : Fin 32} {x : TVal} {base : Option (Fin 32 × Word)} (h : Inv d) : IOutInv (d.loadInto n rd x base) :=
  thenCore_inv h

theorem loadAt_inv {n : Fin 16} {rd : Fin 32} {sz : Fin 8} {addr : Word} {base : Option (Fin 32 × Word)} {word : Nat} (h : Inv d) :
    IOutInv (d.loadAt n rd sz addr base word) := by
  unfold Chip.loadAt
  split
  · exact illegal_inv h
  · extract_lets a
    generalize mmioOffset a = o
    refine iOutInv_ite (iOutInv_ite (trap_inv h) (iOutInv_ite (trap_inv h) ?_)) (iOutInv_ite (trap_inv h) (iOutInv_ite (trap_inv h) ?_))
    · exact breaks_inv h (fun _ h1 => loadInto_inv (traceData_inv (barRead_inv h1)))
    · exact breaks_inv h (fun _ h1 => reads_inv h1 (fun _ _ h2 => loadInto_inv (traceData_inv h2)))

theorem storeVal_inv {n : Fin 16} {x : TVal} {a size : Nat} (h : Inv d) : Inv (d.storeVal n x a size) := by
  unfold Chip.storeVal
  extract_lets _ d1 d2
  have hd1 : Inv d1 := inv_ite (wr_inv h) h
  have hd2 : Inv d2 := coreWr_inv (touchPage_inv hd1)
  exact inv_ite (setWordTag_inv hd2) hd2

theorem storeAt_inv {n : Fin 16} {x : TVal} {sz : Fin 8} {size : Nat} {addr : Word} {base : Option (Fin 32 × Word)} {any : Bool} (h : Inv d) :
    IOutInv (d.storeAt n x sz size addr base any) := by
  unfold Chip.storeAt
  extract_lets a done
  have hdone : ∀ e, Inv e → IOutInv (done e) := fun _ h1 => thenCore_inv h1
  clear_value done
  generalize mmioOffset a = o
  generalize d.mmioStore n a = registerStore
  refine iOutInv_ite (iOutInv_ite (trap_inv h) (trap_inv h)) (iOutInv_ite
    (iOutInv_ite (trap_inv h) (iOutInv_ite (trap_inv h) (iOutInv_ite (trap_inv h) ?_)))
    (iOutInv_ite (trap_inv h) (iOutInv_ite (trap_inv h) (iOutInv_ite (trap_inv h) ?_))))
  · exact breaks_inv h (fun _ h1 => hdone _ (barWrite_inv (traceData_inv h1)))
  · exact breaks_inv h (fun _ h1 => hdone _ (storeVal_inv (traceData_inv h1)))

theorem store_inv {n : Fin 16} {rs rs1 : Fin 32} {sz : Fin 8} {word : Nat} {addr : Word → Word} {base : Option (Word → Word)} (h : Inv d) :
    IOutInv (d.store n rs rs1 sz word addr base) := by
  unfold Chip.store
  split
  · exact illegal_inv h
  · exact typed1_inv h (fun _ => read1_inv h (fun _ => storeAt_inv h))

theorem execLd_inv {n : Fin 16} {rd rs1 : Fin 32} {sz : Fin 8} {imm : BitVec 12} {s : State} (h : Inv s.chip) : OutInv (execLd n rd rs1 sz imm s) :=
  on_inv (insn_inv h (fun _ h1 => iOutInv_ite (illegal_inv h1) (typed1_inv h1 (fun _ => loadAt_inv h1))))

theorem execSt_inv {n : Fin 16} {rs rs1 : Fin 32} {sz : Fin 8} {imm : BitVec 12} {s : State} (h : Inv s.chip) : OutInv (execSt n rs rs1 sz imm s) :=
  on_inv (insn_inv h (fun _ h1 => store_inv h1))

theorem execLdp_inv {n : Fin 16} {rd rs1 : Fin 32} {sz : Fin 8} {imm : BitVec 12} {s : State} (h : Inv s.chip) : OutInv (execLdp n rd rs1 sz imm s) :=
  on_inv (insn_inv h (fun _ h1 => iOutInv_ite (illegal_inv h1) (typed1_inv h1 (fun _ => loadAt_inv h1))))

theorem execStp_inv {n : Fin 16} {rs rs1 : Fin 32} {sz : Fin 8} {imm : BitVec 12} {s : State} (h : Inv s.chip) : OutInv (execStp n rs rs1 sz imm s) :=
  on_inv (insn_inv h (fun _ h1 => iOutInv_ite (illegal_inv h1) (store_inv h1)))

theorem execLdd_inv {n : Fin 16} {rd rs1 : Fin 32} {sz : Fin 8} {imm : BitVec 12} {s : State} (h : Inv s.chip) : OutInv (execLdd n rd rs1 sz imm s) :=
  on_inv (insn_inv h (fun _ h1 => iOutInv_ite (illegal_inv h1) (typed1_inv h1 (fun _ => loadAt_inv h1))))

theorem execStd_inv {n : Fin 16} {rs rs1 : Fin 32} {sz : Fin 8} {imm : BitVec 12} {s : State} (h : Inv s.chip) : OutInv (execStd n rs rs1 sz imm s) :=
  on_inv (insn_inv h (fun _ h1 => iOutInv_ite (illegal_inv h1) (store_inv h1)))

theorem execLdx_inv {n : Fin 16} {rd rs1 rs2 : Fin 32} {sz : Fin 8} {sc : Fin 4} {s : State} (h : Inv s.chip) :
    OutInv (execLdx n rd rs1 rs2 sz sc s) := by
  unfold execLdx
  refine on_inv (insn_inv h ?_)
  intro e h1
  extract_lets _
  exact iOutInv_ite (illegal_inv h1) (typed1_inv h1 (fun _ => typed1_inv h1 (fun _ => loadAt_inv h1)))

theorem execStx_inv {n : Fin 16} {rs rs1 rs2 : Fin 32} {sz : Fin 8} {sc : Fin 4} {s : State} (h : Inv s.chip) :
    OutInv (execStx n rs rs1 rs2 sz sc s) := by
  unfold execStx
  refine on_inv (insn_inv h ?_)
  intro e h1
  split
  · exact illegal_inv h1
  · exact typed1_inv h1 (fun _ => typed1_inv h1 (fun _ => read1_inv h1 (fun _ => storeAt_inv h1)))

theorem execStt_inv {n : Fin 16} {rs rs1 : Fin 32} {sz : Fin 8} {imm : BitVec 12} {s : State} (h : Inv s.chip) : OutInv (execStt n rs rs1 sz imm s) :=
  on_inv (insn_inv h (fun _ h1 => iOutInv_ite (illegal_inv h1) (typed1_inv h1 (fun _ => storeAt_inv h1))))

/-! ### The SPDM responder -/

theorem setSpdm_inv {t : Nat} {c : SpdmConn} (h : Inv d) : Inv (d.setSpdm t c) := h.elsewhere

theorem spdm_inv {t : Fin 3} {req stage : Nat} {k : Chip → SpdmConn → Chip} (h : Inv d) (hk : ∀ e x1, Inv e → Inv (k e x1)) :
    Inv (d.spdm t req stage k) := by
  unfold Chip.spdm
  extract_lets _ d1 d2 _
  have hd1 : Inv d1 := inv_ite h.elsewhere h
  have hd2 : Inv d2 := count_inv hd1
  exact inv_ite h (inv_ite (setSpdm_inv hd2) (inv_ite (setSpdm_inv hd2) (hk _ _ hd2)))

theorem signed_inv {t : Nat} {c : SpdmConn} {code : Nat} {payload : List Nat} (h : Inv d) : Inv (d.signed t c code payload) :=
  inv_ite (setSpdm_inv h) (setSpdm_inv h)

theorem execGetVersion_inv {t : Fin 3} {s : State} (h : Inv s.chip) : OutInv (execGetVersion t s) :=
  on_inv (spdm_inv h (fun _ _ h1 => setSpdm_inv h1))

theorem execGetCapabilities_inv {t : Fin 3} {s : State} (h : Inv s.chip) : OutInv (execGetCapabilities t s) :=
  on_inv (spdm_inv h (fun _ _ h1 => setSpdm_inv h1))

theorem execNegotiateAlgorithms_inv {t : Fin 3} {offered : Bool} {s : State} (h : Inv s.chip) : OutInv (execNegotiateAlgorithms t offered s) :=
  on_inv (spdm_inv h (fun _ _ h1 => setSpdm_inv h1))

theorem execGetDigests_inv {t : Fin 3} {length : Nat} {s : State} (h : Inv s.chip) : OutInv (execGetDigests t length s) :=
  on_inv (spdm_inv h (fun _ _ h1 => setSpdm_inv h1))

theorem execGetCertificate_inv {t : Fin 3} {slot offset length : Nat} {s : State} (h : Inv s.chip) :
    OutInv (execGetCertificate t slot offset length s) :=
  on_inv (spdm_inv h (fun _ _ h1 => setSpdm_inv h1))

theorem execChallenge_inv {t : Fin 3} {nonce : List (BitVec 8)} {s : State} (h : Inv s.chip) : OutInv (execChallenge t nonce s) :=
  on_inv (spdm_inv h (fun _ _ h1 => signed_inv h1))

theorem execGetMeasurements_inv {t : Fin 3} {index : Nat} {signed : Bool} {nonce : List (BitVec 8)} {s : State} (h : Inv s.chip) :
    OutInv (execGetMeasurements t index signed nonce s) :=
  on_inv (spdm_inv h (fun _ _ h1 => inv_ite (setSpdm_inv h1) (inv_ite (signed_inv h1) (setSpdm_inv h1))))

theorem execKeyExchange_inv {t : Fin 3} {exchange : List (BitVec 8)} {s : State} (h : Inv s.chip) : OutInv (execKeyExchange t exchange s) := by
  unfold execKeyExchange
  refine on_inv (spdm_inv h ?_)
  intro e x1 h1
  refine inv_ite (setSpdm_inv h1) (inv_ite (setSpdm_inv h1) (inv_ite (setSpdm_inv h1) ?_))
  split
  · rename_i x r d1 e1
    have hd1 : Inv d1 := (random_inv h1).of_snd e1
    extract_lets _
    exact signed_inv hd1

theorem inSession_inv {t : Nat} {c : SpdmConn} {id : Nat} {k : SpdmSession → Chip} (h : Inv d) (hk : ∀ x0, Inv (k x0)) :
    Inv (d.inSession t c id k) := by
  unfold Chip.inSession
  split
  · exact hk _
  · exact setSpdm_inv h

theorem execFinish_inv {t : Fin 3} {id : Nat} {macOk : Bool} {s : State} (h : Inv s.chip) : OutInv (execFinish t id macOk s) :=
  on_inv (spdm_inv h (fun _ _ h1 => inSession_inv h1 (fun _ => setSpdm_inv h1)))

theorem execHeartbeat_inv {t : Fin 3} {id : Nat} {s : State} (h : Inv s.chip) : OutInv (execHeartbeat t id s) :=
  on_inv (spdm_inv h (fun _ _ h1 => inSession_inv h1 (fun _ => setSpdm_inv h1)))

theorem execKeyUpdate_inv {t : Fin 3} {id : Nat} {s : State} (h : Inv s.chip) : OutInv (execKeyUpdate t id s) :=
  on_inv (spdm_inv h (fun _ _ h1 => inSession_inv h1 (fun _ => setSpdm_inv h1)))

theorem execEndSession_inv {t : Fin 3} {id : Nat} {s : State} (h : Inv s.chip) : OutInv (execEndSession t id s) :=
  on_inv (spdm_inv h (fun _ _ h1 => inSession_inv h1 (fun _ => setSpdm_inv h1)))

theorem execChunkSend_inv {t : Fin 3} {last : Bool} {piece : List (BitVec 8)} {s : State} (h : Inv s.chip) : OutInv (execChunkSend t last piece s) :=
  on_inv (spdm_inv h (fun _ _ h1 => setSpdm_inv h1))

theorem execChunkGet_inv {t : Fin 3} {offset length : Nat} {s : State} (h : Inv s.chip) : OutInv (execChunkGet t offset length s) :=
  on_inv (spdm_inv h (fun _ _ h1 => setSpdm_inv h1))

theorem execCompanionSign_inv {t : Fin 3} {s : State} (h : Inv s.chip) : OutInv (execCompanionSign t s) := by
  unfold execCompanionSign
  refine on_inv (spdm_inv h ?_)
  intro e x1 h1
  refine inv_ite (setSpdm_inv h1) ?_
  split
  · exact setSpdm_inv h1
  · extract_lets _
    exact setSpdm_inv (count_inv h1)

theorem execCompanionCert_inv {t : Fin 3} {offset length : Nat} {s : State} (h : Inv s.chip) : OutInv (execCompanionCert t offset length s) :=
  on_inv (spdm_inv h (fun _ _ h1 => setSpdm_inv h1))

theorem ideKm_inv {pf : Fin 2} {id : Nat} {k : Chip → SpdmConn → Chip} (h : Inv d) (hk : ∀ e x1, Inv e → Inv (k e x1)) : Inv (d.ideKm pf id k) :=
  spdm_inv h (fun _ _ h1 => inSession_inv h1 (fun _ => inv_ite (hk _ _ h1) (setSpdm_inv h1)))

theorem execKeyProg_inv {pf : Fin 2} {id stream set : Nat} {key : List (BitVec 8)} {s : State} (h : Inv s.chip) :
    OutInv (execKeyProg pf id stream set key s) :=
  on_inv (ideKm_inv h (fun _ _ h1 => inv_ite (setSpdm_inv h1) (setSpdm_inv h1.elsewhere)))

theorem keySet_inv {pf : Fin 2} {id stream set : Nat} {go : Bool} (h : Inv d) : Inv (d.keySet pf id stream set go) :=
  ideKm_inv h (fun _ _ h1 => inv_ite (setSpdm_inv h1) (setSpdm_inv h1.elsewhere))

theorem execKSetGo_inv {pf : Fin 2} {id stream set : Nat} {s : State} (h : Inv s.chip) : OutInv (execKSetGo pf id stream set s) :=
  on_inv (keySet_inv h)

theorem execKSetStop_inv {pf : Fin 2} {id stream set : Nat} {s : State} (h : Inv s.chip) : OutInv (execKSetStop pf id stream set s) :=
  on_inv (keySet_inv h)

theorem execCxlIdeKeyRefresh_inv {k : Fin 8} {ok : Bool} {s : State} (h : Inv s.chip) : OutInv (execCxlIdeKeyRefresh k ok s) := by
  unfold execCxlIdeKeyRefresh
  refine on_inv (inv_ite h (inv_ite (quarryFail_inv h) ?_))
  split
  · rename_i x r d1 e
    have hd1 : Inv d1 := (random_inv h).of_snd e
    extract_lets _ _
    exact hd1.elsewhere

theorem execMctpMessage_inv {type : Nat} {s : State} (h : Inv s.chip) : OutInv (execMctpMessage type s) := on_inv (inv_ite h.elsewhere h)

end

/-! ## Every command, and every step -/

/-- One lemma for each command of the table. -/
theorem exec_inv {i : Instr} {s : State} (h : Inv s.chip) : OutInv (exec i s) := by
  cases i with
  | registerWrite => exact execRegisterWrite_inv h
  | invalidBar0Access by_ addr bytes write => exact execInvalidBar0Access_inv (by_ := by_) h
  | heldLowerHalfWrite => exact execHeldLowerHalfWrite_inv h
  | upperHalfWrite => exact execUpperHalfWrite_inv h
  | latchingLowerHalfRead => exact execLatchingLowerHalfRead_inv h
  | rcFieldRead => exact execRcFieldRead_inv h
  | status => exact execStatus_inv h
  | fence => exact execFence_inv h
  | fenceComplete => exact execFenceComplete_inv h
  | unfence => exact execUnfence_inv h
  | reset => exact execReset_inv h
  | gate => exact execGate_inv h
  | ungate => exact execUngate_inv h
  | sample => exact execSample_inv h
  | inject => exact execInject_inv h
  | itemAccepted => exact execItemAccepted_inv h
  | commitRecordTaken => exact execCommitRecordTaken_inv h
  | commitPoint => exact execCommitPoint_inv h
  | withdrawalApplied => exact execWithdrawalApplied_inv h
  | entryCheckFail => exact execEntryCheckFail_inv h
  | ledgerStall => exact execLedgerStall_inv h
  | mirrorPassComplete => exact execMirrorPassComplete_inv h
  | ledgerCopyFail => exact execLedgerCopyFail_inv h
  | ledgerRebuildComplete => exact execLedgerRebuildComplete_inv h
  | ledgerLost => exact execLedgerLost_inv h
  | recoveryReportBuild => exact execRecoveryReportBuild_inv h
  | glbRecoveryAck => exact execGlbRecoveryAck_inv h
  | glbAttnNoteClear => exact execGlbAttnNoteClear_inv h
  | attentionReply => exact execAttentionReply_inv h
  | cancel => exact execCancel_inv h
  | nop => exact execNop_inv h
  | tick => exact execTick_inv h
  | shaperCalendarAdvance => exact execShaperCalendarAdvance_inv h
  | ledgerPublish => exact execLedgerPublish_inv h
  | caliperRecordClose => exact execCaliperRecordClose_inv h
  | pendingFriezeSwap => exact execPendingFriezeSwap_inv h
  | carriedItemsResume => exact execCarriedItemsResume_inv h
  | friezeSlotFire => exact execFriezeSlotFire_inv h
  | tickMarker => exact execTickMarker_inv h
  | tickCell => exact execTickCell_inv h
  | flagsCell => exact execFlagsCell_inv h
  | probeCell => exact execProbeCell_inv h
  | probeReturn => exact execProbeReturn_inv h
  | periodicProbe => exact execPeriodicProbe_inv h
  | joined => exact execJoined_inv h
  | leaving => exact execLeaving_inv h
  | ownCellSend => exact execOwnCellSend_inv h
  | markerMiss => exact execMarkerMiss_inv h
  | joinSwitchover => exact execJoinSwitchover_inv h
  | leaveSwitchover => exact execLeaveSwitchover_inv h
  | relock => exact execRelock_inv h
  | leave => exact execLeave_inv h
  | join => exact execJoin_inv h
  | probe => exact execProbe_inv h
  | ringProbe => exact execRingProbe_inv h
  | ringJoin => exact execRingJoin_inv h
  | ringLeave => exact execRingLeave_inv h
  | friezeSwap => exact execFriezeSwap_inv h
  | planLoad => exact execPlanLoad_inv h
  | planUnload => exact execPlanUnload_inv h
  | planResume => exact execPlanResume_inv h
  | workDescriptorSubmit => exact execWorkDescriptorSubmit_inv h
  | reduceSum => exact execReduceSum_inv h
  | reduceMax => exact execReduceMax_inv h
  | reduceMin => exact execReduceMin_inv h
  | reduceArrive => exact execReduceArrive_inv h
  | attnPartial => exact execAttnPartial_inv h
  | dotRows => exact execDotRows_inv h
  | convert => exact execConvert_inv h
  | quantEf => exact execQuantEf_inv h
  | topk => exact execTopk_inv h
  | topkEf => exact execTopkEf_inv h
  | sha256 => exact execSha256_inv h
  | crc32c => exact execCrc32c_inv h
  | lz4Pack => exact execLz4Pack_inv h
  | lz4Unpack => exact execLz4Unpack_inv h
  | copy => exact execCopy_inv h
  | gather => exact execGather_inv h
  | scatter => exact execScatter_inv h
  | fill => exact execFill_inv h
  | itemFinish => exact execItemFinish_inv h
  | redoCopyComplete => exact execRedoCopyComplete_inv h
  | operandBufferCrc => exact execOperandBufferCrc_inv h
  | wcUnitParity => exact execWcUnitParity_inv h
  | wcQueueParity => exact execWcQueueParity_inv h
  | wcItemHang => exact execWcItemHang_inv h
  | wcNocCredit => exact execWcNocCredit_inv h
  | wcGateFail => exact execWcGateFail_inv h
  | promote => exact execPromote_inv h
  | selftest => exact execSelftest_inv h
  | selftestComplete => exact execSelftestComplete_inv h
  | retire => exact execRetire_inv h
  | allReduce => exact execAllReduce_inv h
  | reduceScatter => exact execReduceScatter_inv h
  | allGather => exact execAllGather_inv h
  | broadcast => exact execBroadcast_inv h
  | reduce => exact execReduce_inv h
  | allToAll => exact execAllToAll_inv h
  | send => exact execSend_inv h
  | receive => exact execReceive_inv h
  | sendMatchTimeout => exact execSendMatchTimeout_inv h
  | groupSet => exact execGroupSet_inv h
  | groupClear => exact execGroupClear_inv h
  | slotArm => exact execSlotArm_inv h
  | slotDisarm => exact execSlotDisarm_inv h
  | slotForceDisarm => exact execSlotForceDisarm_inv h
  | trigger => exact execTrigger_inv h
  | streamFrame => exact execStreamFrame_inv h
  | firingComplete => exact execFiringComplete_inv h
  | firingTimeout => exact execFiringTimeout_inv h
  | seqOpen => exact execSeqOpen_inv h
  | seqClose => exact execSeqClose_inv h
  | kvPut => exact execKvPut_inv h
  | kvDrop => exact execKvDrop_inv h
  | svcBind => exact execSvcBind_inv h
  | svcUnbind => exact execSvcUnbind_inv h
  | mapCompact => exact execMapCompact_inv h
  | query => exact execQuery_inv h
  | heatSweep => exact execHeatSweep_inv h
  | blockMove => exact execBlockMove_inv h
  | blockMoveComplete => exact execBlockMoveComplete_inv h
  | compactionCopyDone => exact execCompactionCopyDone_inv h
  | compactionDrainDone => exact execCompactionDrainDone_inv h
  | compactionSwitchDone => exact execCompactionSwitchDone_inv h
  | compactionRestart => exact execCompactionRestart_inv h
  | movePause => exact execMovePause_inv h
  | moveResume => exact execMoveResume_inv h
  | compactAbandon => exact execCompactAbandon_inv h
  | mergeEntryFlush => exact execMergeEntryFlush_inv h
  | patrolScrub => exact execPatrolScrub_inv h
  | spareBankReady => exact execSpareBankReady_inv h
  | memFlipArm => exact execMemFlipArm_inv h
  | pageMap => exact execPageMap_inv h
  | pageUnmap => exact execPageUnmap_inv h
  | pagePin => exact execPagePin_inv h
  | memInit => exact execMemInit_inv h
  | sramCrc => exact execSramCrc_inv h
  | nearCrc => exact execNearCrc_inv h
  | retrainWindowEnd => exact execRetrainWindowEnd_inv h
  | cxlDeviceTrained => exact execCxlDeviceTrained_inv h
  | quarryDeviceFail => exact execQuarryDeviceFail_inv h
  | translationMiss => exact execTranslationMiss_inv h
  | migrationSweep => exact execMigrationSweep_inv h
  | pageMigration => exact execPageMigration_inv h
  | pageMigrationComplete => exact execPageMigrationComplete_inv h
  | scrubPass => exact execScrubPass_inv h
  | migPause => exact execMigPause_inv h
  | migResume => exact execMigResume_inv h
  | retireChannel => exact execRetireChannel_inv h
  | retireQuarry => exact execRetireQuarry_inv h
  | add => exact execAdd_inv h
  | sub => exact execSub_inv h
  | andInsn => exact execAndInsn_inv h
  | orInsn => exact execOrInsn_inv h
  | xorInsn => exact execXorInsn_inv h
  | shl => exact execShl_inv h
  | shr => exact execShr_inv h
  | sar => exact execSar_inv h
  | slt => exact execSlt_inv h
  | sltu => exact execSltu_inv h
  | minInsn => exact execMinInsn_inv h
  | maxInsn => exact execMaxInsn_inv h
  | minu => exact execMinu_inv h
  | maxu => exact execMaxu_inv h
  | mul => exact execMul_inv h
  | mulh => exact execMulh_inv h
  | mulhu => exact execMulhu_inv h
  | div => exact execDiv_inv h
  | divu => exact execDivu_inv h
  | rem => exact execRem_inv h
  | remu => exact execRemu_inv h
  | addi => exact execAddi_inv h
  | andi => exact execAndi_inv h
  | ori => exact execOri_inv h
  | xori => exact execXori_inv h
  | slti => exact execSlti_inv h
  | sltiu => exact execSltiu_inv h
  | shi => exact execShi_inv h
  | lui => exact execLui_inv h
  | luih => exact execLuih_inv h
  | ld => exact execLd_inv h
  | st => exact execSt_inv h
  | ldp => exact execLdp_inv h
  | stp => exact execStp_inv h
  | ldd => exact execLdd_inv h
  | std => exact execStd_inv h
  | ldx => exact execLdx_inv h
  | stx => exact execStx_inv h
  | stt => exact execStt_inv h
  | amoadd => exact execAmoadd_inv h
  | amoswp => exact execAmoswp_inv h
  | amocas => exact execAmocas_inv h
  | beq => exact execBeq_inv h
  | bne => exact execBne_inv h
  | blt => exact execBlt_inv h
  | bge => exact execBge_inv h
  | bltu => exact execBltu_inv h
  | bgeu => exact execBgeu_inv h
  | jump => exact execJump_inv h
  | call => exact execCall_inv h
  | jr => exact execJr_inv h
  | callr => exact execCallr_inv h
  | retInsn => exact execRetInsn_inv h
  | faddD => exact execFaddD_inv h
  | fsubD => exact execFsubD_inv h
  | fmulD => exact execFmulD_inv h
  | fdivD => exact execFdivD_inv h
  | fsqrtD => exact execFsqrtD_inv h
  | fminD => exact execFminD_inv h
  | fmaxD => exact execFmaxD_inv h
  | feqD => exact execFeqD_inv h
  | fltD => exact execFltD_inv h
  | fleD => exact execFleD_inv h
  | faddS => exact execFaddS_inv h
  | fsubS => exact execFsubS_inv h
  | fmulS => exact execFmulS_inv h
  | fdivS => exact execFdivS_inv h
  | fsqrtS => exact execFsqrtS_inv h
  | fminS => exact execFminS_inv h
  | fmaxS => exact execFmaxS_inv h
  | feqS => exact execFeqS_inv h
  | fltS => exact execFltS_inv h
  | fleS => exact execFleS_inv h
  | cvtDI => exact execCvtDI_inv h
  | cvtID => exact execCvtID_inv h
  | cvtSD => exact execCvtSD_inv h
  | cvtDS0 => exact execCvtDS0_inv h
  | cvtDS1 => exact execCvtDS1_inv h
  | mov => exact execMov_inv h
  | tagof => exact execTagof_inv h
  | retag => exact execRetag_inv h
  | clr => exact execClr_inv h
  | macd => exact execMacd_inv h
  | macdComplete => exact execMacdComplete_inv h
  | acz => exact execAcz_inv h
  | acrdD => exact execAcrdD_inv h
  | acrdI => exact execAcrdI_inv h
  | acwr => exact execAcwr_inv h
  | wq => exact execWq_inv h
  | wqk => exact execWqk_inv h
  | wseq => exact execWseq_inv h
  | wwait => exact execWwait_inv h
  | wpoll => exact execWpoll_inv h
  | wfree => exact execWfree_inv h
  | kopen => exact execKopen_inv h
  | lacc => exact execLacc_inv h
  | lcmt => exact execLcmt_inv h
  | lwdr => exact execLwdr_inv h
  | csrr => exact execCsrr_inv h
  | csrw => exact execCsrw_inv h
  | csrs => exact execCsrs_inv h
  | csrc => exact execCsrc_inv h
  | eret => exact execEret_inv h
  | fenceInsn => exact execFenceInsn_inv h
  | ifenceInsn => exact execIfenceInsn_inv h
  | waite => exact execWaite_inv h
  | trap => exact execTrap_inv h
  | brk => exact execBrk_inv h
  | loadDataReturn => exact execLoadDataReturn_inv h
  | interruptTaken => exact execInterruptTaken_inv h
  | commandDispatch => exact execCommandDispatch_inv h
  | accept => exact execAccept_inv h
  | refuse => exact execRefuse_inv h
  | endItem => exact execEndItem_inv h
  | amtMsg => exact execAmtMsg_inv h
  | amtWdogPet => exact execAmtWdogPet_inv h
  | acWdog => exact execAcWdog_inv h
  | coreRestartComplete => exact execCoreRestartComplete_inv h
  | coreRestart => exact execCoreRestart_inv h
  | coreRetire => exact execCoreRetire_inv h
  | firmwareStart => exact execFirmwareStart_inv h
  | fwDownload => exact execFwDownload_inv h
  | fwStage => exact execFwStage_inv h
  | fwActivate => exact execFwActivate_inv h
  | activationDeferralEnd => exact execActivationDeferralEnd_inv h
  | coreSwitch => exact execCoreSwitch_inv h
  | writeFrame => exact execWriteFrame_inv h
  | writeHpFrame => exact execWriteHpFrame_inv h
  | readReqFrame => exact execReadReqFrame_inv h
  | readCplFrame => exact execReadCplFrame_inv h
  | dvtFrame => exact execDvtFrame_inv h
  | tagFrame => exact execTagFrame_inv h
  | ctrlFrame => exact execCtrlFrame_inv h
  | frameReceiveFail => exact execFrameReceiveFail_inv h
  | recordClose => exact execRecordClose_inv h
  | nak => exact execNak_inv h
  | replayTimeout => exact execReplayTimeout_inv h
  | retrainComplete => exact execRetrainComplete_inv h
  | unheldPaceSymbol => exact execUnheldPaceSymbol_inv h
  | steerPrep => exact execSteerPrep_inv h
  | steerDone => exact execSteerDone_inv h
  | returnPrep => exact execReturnPrep_inv h
  | returnDone => exact execReturnDone_inv h
  | spare => exact execSpare_inv h
  | spareTrain => exact execSpareTrain_inv h
  | half => exact execHalf_inv h
  | calibrationSessionStart => exact execCalibrationSessionStart_inv h
  | trainingTimeExpiry => exact execTrainingTimeExpiry_inv h
  | steerTimeout => exact execSteerTimeout_inv h
  | steerRetry => exact execSteerRetry_inv h
  | laneFailure => exact execLaneFailure_inv h
  | spareFailure => exact execSpareFailure_inv h
  | lnkCredit => exact execLnkCredit_inv h
  | portUp => exact execPortUp_inv h
  | portDown => exact execPortDown_inv h
  | macsecSa => exact execMacsecSa_inv h
  | calPause => exact execCalPause_inv h
  | calResume => exact execCalResume_inv h
  | laneFail => exact execLaneFail_inv h
  | margin => exact execMargin_inv h
  | write => exact execWrite_inv h
  | read => exact execRead_inv h
  | fadd => exact execFadd_inv h
  | cas => exact execCas_inv h
  | writePacket => exact execWritePacket_inv h
  | readReq => exact execReadReq_inv h
  | readResp => exact execReadResp_inv h
  | faddPacket => exact execFaddPacket_inv h
  | casPacket => exact execCasPacket_inv h
  | atomicResp => exact execAtomicResp_inv h
  | skip => exact execSkip_inv h
  | coll => exact execColl_inv h
  | collAbort => exact execCollAbort_inv h
  | ack hdr got need => exact execAck_inv (got := got) h
  | nakPacket => exact execNakPacket_inv h
  | connect => exact execConnect_inv h
  | connectAck => exact execConnectAck_inv h
  | close => exact execClose_inv h
  | retransmissionTimeout => exact execRetransmissionTimeout_inv h
  | pathProbe => exact execPathProbe_inv h
  | reconnectTimeout => exact execReconnectTimeout_inv h
  | connectTimeout => exact execConnectTimeout_inv h
  | connOpen => exact execConnOpen_inv h
  | connClose => exact execConnClose_inv h
  | regionReg => exact execRegionReg_inv h
  | regionRevoke => exact execRegionRevoke_inv h
  | revokeCut => exact execRevokeCut_inv h
  | contextFill => exact execContextFill_inv h
  | pathDown => exact execPathDown_inv h
  | ctxFlush => exact execCtxFlush_inv h
  | receivedFrame => exact execReceivedFrame_inv h
  | emMissFill => exact execEmMissFill_inv h
  | sendOpportunity => exact execSendOpportunity_inv h
  | pfcPause => exact execPfcPause_inv h
  | pfcPauseExpiry => exact execPfcPauseExpiry_inv h
  | shaperWheelExpiry => exact execShaperWheelExpiry_inv h
  | creditModeScan => exact execCreditModeScan_inv h
  | layoutSet => exact execLayoutSet_inv h
  | selectSet => exact execSelectSet_inv h
  | actionSet => exact execActionSet_inv h
  | actionFree => exact execActionFree_inv h
  | ruleAdd => exact execRuleAdd_inv h
  | ruleDel => exact execRuleDel_inv h
  | groupCommit => exact execGroupCommit_inv h
  | groupAbort => exact execGroupAbort_inv h
  | indirWrite => exact execIndirWrite_inv h
  | queueSet => exact execQueueSet_inv h
  | policerSet => exact execPolicerSet_inv h
  | emRebuild => exact execEmRebuild_inv h
  | versionRetire => exact execVersionRetire_inv h
  | rebuildCopyDone => exact execRebuildCopyDone_inv h
  | rebuildDrainDone => exact execRebuildDrainDone_inv h
  | rebuildSwitchDone => exact execRebuildSwitchDone_inv h
  | rebuildRestart => exact execRebuildRestart_inv h
  | rebuildAbandon => exact execRebuildAbandon_inv h
  | cacheFlush => exact execCacheFlush_inv h
  | pktTreadAddr => exact execPktTreadAddr_inv h
  | pktToeplitzKey => exact execPktToeplitzKey_inv h
  | hifDbCmd => exact execHifDbCmd_inv h
  | hifDbRpl => exact execHifDbRpl_inv h
  | commandFetch => exact execCommandFetch_inv h
  | replyWrite => exact execReplyWrite_inv h
  | interruptModerationExpiry => exact execInterruptModerationExpiry_inv h
  | hifRingEnable => exact execHifRingEnable_inv h
  | hifRingDisable => exact execHifRingDisable_inv h
  | uncorrectableLinkError => exact execUncorrectableLinkError_inv h
  | hifFreezeRelease => exact execHifFreezeRelease_inv h
  | release => exact execRelease_inv h
  | busMasterEnableClear => exact execBusMasterEnableClear_inv h
  | busMasterEnableSet => exact execBusMasterEnableSet_inv h
  | vfEnableSet => exact execVfEnableSet_inv h
  | vfEnableClear => exact execVfEnableClear_inv h
  | functionLevelReset => exact execFunctionLevelReset_inv h
  | flrComplete => exact execFlrComplete_inv h
  | vfFlr => exact execVfFlr_inv h
  | completionTimeout => exact execCompletionTimeout_inv h
  | completionArrival => exact execCompletionArrival_inv h
  | tagQuarantineExpiry => exact execTagQuarantineExpiry_inv h
  | atsInvalidation => exact execAtsInvalidation_inv h
  | vfMboxDb => exact execVfMboxDb_inv h
  | dirtyLogStart => exact execDirtyLogStart_inv h
  | dirtyLogSwap => exact execDirtyLogSwap_inv h
  | dirtyLogStop => exact execDirtyLogStop_inv h
  | dmaXfer => exact execDmaXfer_inv h
  | dmaChanEnable => exact execDmaChanEnable_inv h
  | dmaChanDisable => exact execDmaChanDisable_inv h
  | dmaPaceRequest => exact execDmaPaceRequest_inv h
  | burstWritesIssued => exact execBurstWritesIssued_inv h
  | readBackComplete => exact execReadBackComplete_inv h
  | dmaPaceTimeout => exact execDmaPaceTimeout_inv h
  | chanDrop => exact execChanDrop_inv h
  | nvmeSqDoorbell => exact execNvmeSqDoorbell_inv h
  | nvmeCqDoorbell => exact execNvmeCqDoorbell_inv h
  | nvmeCommandFetch => exact execNvmeCommandFetch_inv h
  | createIoSq => exact execCreateIoSq_inv h
  | deleteIoSq => exact execDeleteIoSq_inv h
  | createIoCq => exact execCreateIoCq_inv h
  | deleteIoCq => exact execDeleteIoCq_inv h
  | identify => exact execIdentify_inv h
  | getLogPage => exact execGetLogPage_inv h
  | setFeatures => exact execSetFeatures_inv h
  | getFeatures => exact execGetFeatures_inv h
  | firmwareImageDownload => exact execFirmwareImageDownload_inv h
  | firmwareCommit => exact execFirmwareCommit_inv h
  | invalidCommandOpcode => exact execInvalidCommandOpcode_inv h
  | nvmeRead => exact execNvmeRead_inv h
  | nvmeWrite => exact execNvmeWrite_inv h
  | nvmeFlush => exact execNvmeFlush_inv h
  | writeZeroes => exact execWriteZeroes_inv h
  | ccEnSet => exact execCcEnSet_inv h
  | ccEnClear => exact execCcEnClear_inv h
  | nvmSubsystemReset => exact execNvmSubsystemReset_inv h
  | nvsNsSet => exact execNvsNsSet_inv h
  | nvsNsClear => exact execNvsNsClear_inv h
  | nvsTargetSet => exact execNvsTargetSet_inv h
  | targetConnectComplete => exact execTargetConnectComplete_inv h
  | nvsTargetClear => exact execNvsTargetClear_inv h
  | backendCompletion => exact execBackendCompletion_inv h
  | backendTimeout => exact execBackendTimeout_inv h
  | targetReconnect => exact execTargetReconnect_inv h
  | targetDrop => exact execTargetDrop_inv h
  | ckpJobSet => exact execCkpJobSet_inv h
  | ckpJobClear => exact execCkpJobClear_inv h
  | ckpStep => exact execCkpStep_inv h
  | ckpNow => exact execCkpNow_inv h
  | ckpRestore => exact execCkpRestore_inv h
  | ckpAbort => exact execCkpAbort_inv h
  | checkpointNotice => exact execCheckpointNotice_inv h
  | cowWrite => exact execCowWrite_inv h
  | walkerVisit => exact execWalkerVisit_inv h
  | batchHashed => exact execBatchHashed_inv h
  | hashExchangeRound => exact execHashExchangeRound_inv h
  | writerConfirm => exact execWriterConfirm_inv h
  | nodeLost => exact execNodeLost_inv h
  | segmentWrite => exact execSegmentWrite_inv h
  | rootWrite => exact execRootWrite_inv h
  | commitRecordWrite => exact execCommitRecordWrite_inv h
  | committedMessage => exact execCommittedMessage_inv h
  | jobAbandon => exact execJobAbandon_inv h
  | keyLoad => exact execKeyLoad_inv h
  | keyZero => exact execKeyZero_inv h
  | encrypt => exact execEncrypt_inv h
  | decrypt => exact execDecrypt_inv h
  | kmac => exact execKmac_inv h
  | secPortPhase => exact execSecPortPhase_inv h
  | secPortKey => exact execSecPortKey_inv h
  | secZeroise => exact execSecZeroise_inv h
  | zeroiseAll => exact execZeroiseAll_inv h
  | drbgReseed => exact execDrbgReseed_inv h
  | getVersion => exact execGetVersion_inv h
  | getCapabilities => exact execGetCapabilities_inv h
  | negotiateAlgorithms => exact execNegotiateAlgorithms_inv h
  | getDigests => exact execGetDigests_inv h
  | getCertificate => exact execGetCertificate_inv h
  | challenge => exact execChallenge_inv h
  | getMeasurements => exact execGetMeasurements_inv h
  | keyExchange => exact execKeyExchange_inv h
  | finish => exact execFinish_inv h
  | heartbeat => exact execHeartbeat_inv h
  | keyUpdate => exact execKeyUpdate_inv h
  | endSession => exact execEndSession_inv h
  | chunkSend => exact execChunkSend_inv h
  | chunkGet => exact execChunkGet_inv h
  | companionSign => exact execCompanionSign_inv h
  | companionCert => exact execCompanionCert_inv h
  | keyProg => exact execKeyProg_inv h
  | kSetGo => exact execKSetGo_inv h
  | kSetStop => exact execKSetStop_inv h
  | cxlIdeKeyRefresh => exact execCxlIdeKeyRefresh_inv h
  | entropyHealthFail => exact execEntropyHealthFail_inv h
  | entropyHealthPass => exact execEntropyHealthPass_inv h
  | debugUnlockToken => exact execDebugUnlockToken_inv h
  | secCoreWdog => exact execSecCoreWdog_inv h
  | mctpMessage => exact execMctpMessage_inv h
  | faultEvent => exact execFaultEvent_inv h
  | graceTimerExpiry => exact execGraceTimerExpiry_inv h
  | heldReactionDrop => exact execHeldReactionDrop_inv h
  | fltModeNormal => exact execFltModeNormal_inv h
  | fltModeTest => exact execFltModeTest_inv h
  | fltModeRecovery => exact execFltModeRecovery_inv h
  | startupModeExpiry => exact execStartupModeExpiry_inv h
  | fltSafeEnter => exact execFltSafeEnter_inv h
  | chipWatchdogExpiry => exact execChipWatchdogExpiry_inv h
  | fltChipPet => exact execFltChipPet_inv h
  | i3cStatusRead => exact execI3cStatusRead_inv h
  | i3cWakeWrite value => exact execI3cWakeWrite_inv (value := value) h
  | porNAssert => exact execPorNAssert_inv h
  | porNRelease => exact execPorNRelease_inv h
  | refclkLock => exact execRefclkLock_inv h
  | stage1Verify => exact execStage1Verify_inv h
  | maquetteApply => exact execMaquetteApply_inv h
  | coldInitComplete => exact execColdInitComplete_inv h
  | startUpReady => exact execStartUpReady_inv h
  | pllStart => exact execPllStart_inv h
  | pllSwitch => exact execPllSwitch_inv h
  | pllLockLoss => exact execPllLockLoss_inv h
  | pllLockReturn => exact execPllLockReturn_inv h
  | refclkLoss => exact execRefclkLoss_inv h
  | warmChipReset => exact execWarmChipReset_inv h
  | warmReset => exact execWarmReset_inv h
  | warmResetRelease => exact execWarmResetRelease_inv h
  | warmResetReady => exact execWarmResetReady_inv h
  | idleTimerA1 => exact execIdleTimerA1_inv h
  | idleTimerA2 => exact execIdleTimerA2_inv h
  | idleTimerA3 => exact execIdleTimerA3_inv h
  | wakeEvent => exact execWakeEvent_inv h
  | exitComplete => exact execExitComplete_inv h
  | wakeBoundExpiry => exact execWakeBoundExpiry_inv h
  | railExcursion => exact execRailExcursion_inv h
  | pcrGateFail => exact execPcrGateFail_inv h
  | pcrOsc => exact execPcrOsc_inv h
  | thermtrip => exact execThermtrip_inv h
  | obsCtrClear => exact execObsCtrClear_inv h
  | traceEnable => exact execTraceEnable_inv h
  | traceDisable => exact execTraceDisable_inv h
  | traceTrigger => exact execTraceTrigger_inv h
  | tracePostDone => exact execTracePostDone_inv h
  | halt => exact execHalt_inv h
  | resume => exact execResume_inv h
  | step => exact execStep_inv h
  | obsDbgAcc => exact execObsDbgAcc_inv h
  | obsHang => exact execObsHang_inv h
  | hangAgentTimeout => exact execHangAgentTimeout_inv h
  | emergencyEnd => exact execEmergencyEnd_inv h
  | report source power temp => exact execReport_inv (temp := temp) h
  | budget => exact execBudget_inv h
  | patinaSummary => exact execPatinaSummary_inv h
  | histogramSample => exact execHistogramSample_inv h
  | patFlush => exact execPatFlush_inv h
  | traceStop => exact execTraceStop_inv h
  | portTrainingComplete => exact execPortTrainingComplete_inv h
  | mirrorTrainingWaitExpiry => exact execMirrorTrainingWaitExpiry_inv h
  | powerStateEntryComplete => exact execPowerStateEntryComplete_inv h
  | refclkReturn => exact execRefclkReturn_inv h
  | dynamicAddressAssignment => exact execDynamicAddressAssignment_inv h
  | aerStatusClear => exact execAerStatusClear_inv h
  | msixVectorUnmask => exact execMsixVectorUnmask_inv h
  | perstNAssert => exact execPerstNAssert_inv h

theorem step_inv {s : State} (h : Inv s.chip) : OutInv (step s) := by
  unfold step
  split
  · exact on_inv (f := Chip.idle) (idle_inv h)
  · exact exec_inv h

/-- Settles O60: each command's execution keeps the invariant (`exec_inv`), and so does an idle step (`idle_inv`). -/
theorem invariantKept : Obligations.InvariantKept := by
  unfold Obligations.InvariantKept
  exact fun _ _ h e => step_inv h _ e

end Sys2Proof.Machine
end

section
/-! O6: NOTE bits cleared in a GLB_ATTN_NOTE that holds more than its 16 bits (R54). -/
namespace Sys2Proof.Machine
open Sys2Proof

/-- The attention update writes the three fields of GLB_ATTN alone. -/
theorem rg_attnUpdate {d : Chip} {f : Fld} (hl : f.bit ≠ Reg.GLB_ATTN.LEVEL.bit) (hc : f.bit ≠ Reg.GLB_ATTN.CLASS.bit)
    (ha : f.bit ≠ Reg.GLB_ATTN.ACTIVE.bit) : d.attnUpdate.rg f = d.rg f := by
  have fields : (((d.sr Reg.GLB_ATTN.LEVEL d.attnLevel).sr Reg.GLB_ATTN.CLASS d.attnClass).sr Reg.GLB_ATTN.ACTIVE d.attnActive).rg f = d.rg f := by
    rw [rg_sr_ne _ _ _ _ ha, rg_sr_ne _ _ _ _ hc, rg_sr_ne _ _ _ _ hl]
  simp only [Chip.attnUpdate]
  split <;> exact fields

/-- The NOTE bits that a clear leaves are cut to the field's width. -/
theorem rg_noteClear (d : Chip) (mask : Nat) :
    (d.noteClear mask).rg Reg.GLB_ATTN_NOTE.NOTE =
      (d.rg Reg.GLB_ATTN_NOTE.NOTE - (d.rg Reg.GLB_ATTN_NOTE.NOTE &&& mask)) % 2 ^ Reg.GLB_ATTN_NOTE.NOTE.w := by
  unfold Chip.noteClear
  rw [rg_attnUpdate (by decide) (by decide) (by decide), Chip.mr, rg_sr_self]

/-- The chip after reset but for 2^16 stored in the 16 NOTE bits: a value of the type `State` that no write leaves, as `Chip.sr` cuts every
value to its field's width. -/
def overwideNote : State := { pending := [], chip := { regs := [(Reg.GLB_ATTN_NOTE.NOTE.bit, 2 ^ 16)] } }

/-- Refutes O6. The statement ranges over every `State`, also over one whose field holds more than its width, and says that GLB_ATTN_NOTE keeps
exactly the bits not written with 1; in `overwideNote` a clear of no bit would keep 2^16, and the field holds 0 (`rg_noteClear`). -/
theorem not_ledgerCopies : ¬ Obligations.LedgerCopies := by
  unfold Obligations.LedgerCopies
  rintro ⟨-, -, -, -, -, -, -, -, -, -, -, hnote, -⟩
  have hclear := hnote overwideNote 0
  rw [completes_iff_of_on (f := fun d => d.noteClear (0 : BitVec 16).toNat) rfl] at hclear
  obtain ⟨hkept, -⟩ := hclear
  rw [rg_noteClear] at hkept
  exact absurd hkept (by decide)

end Sys2Proof.Machine
end

section
/-! What the ledger unit's work leaves as it is (R19, R24, R30, R33): the items and their numbers, the end states, and the fenced blocks. -/
namespace Sys2Proof.Machine
open Sys2Proof

/-! ## Rules for what stays -/

/-- What the ledger unit and the engines never undo: an item that has ended keeps its end state, a fenced block stays fenced, and no NVMe
command begins. -/
structure Lasting (c d : Chip) : Prop where
  ended : ∀ q i, c.item q = some i → i.state.ended = true → ∃ j, d.item q = some j ∧ j.state = i.state
  fenced : ∀ b, c.agentSt (.block b) = .fenced → d.agentSt (.block b) = .fenced
  cmds : ∀ q ∈ d.nvs.cmds.map Prod.fst, q ∈ c.nvs.cmds.map Prod.fst

/-- With that, the ledger holds the same items under the same numbers. -/
structure Steady (c d : Chip) : Prop extends Lasting c d where
  ids : d.ids = c.ids
  nextSeq : d.led.nextSeq = c.led.nextSeq

theorem Lasting.refl (c : Chip) : Lasting c c := ⟨fun _ i h _ => ⟨i, h, rfl⟩, fun _ => id, fun _ => id⟩

theorem Lasting.trans {c d e : Chip} (h : Lasting c d) (k : Lasting d e) : Lasting c e := by
  refine ⟨fun q i hi he => ?_, fun b hb => k.fenced b (h.fenced b hb), fun q hq => h.cmds q (k.cmds q hq)⟩
  obtain ⟨j, hj, hst⟩ := h.ended q i hi he
  obtain ⟨m, hm, hst'⟩ := k.ended q j hj (hst ▸ he)
  exact ⟨m, hm, hst'.trans hst⟩

theorem Steady.refl (c : Chip) : Steady c c := ⟨.refl c, rfl, rfl⟩

theorem Steady.trans {c d e : Chip} (h : Steady c d) (k : Steady d e) : Steady c e :=
  ⟨h.toLasting.trans k.toLasting, k.ids.trans h.ids, k.nextSeq.trans h.nextSeq⟩

section
variable {c d : Chip}
  {free regs latch satCtrs bus mem attn attnServed owed fetched answer hub tck ldr arm mu wk coll kv hif pat trc lnk sec fw cal dvt dma pkt ckp pwr}
  {arising freed lost stallRun pass passHead passLow passTick mirrored mirror checked mirrorDev mirrorAlt report}
  {ctls ns targets back due hand pos left recs hostOut}

/-- A change of any parts but the ledger, the agents and the NVMe front end. -/
theorem Steady.elsewhere (h : Steady c d) :
    Steady c ⟨free, regs, latch, satCtrs, bus, mem, d.led, attn, attnServed, owed, fetched, d.agents, answer, hub, tck, ldr, arm, mu, wk,
      coll, kv, hif, pat, trc, lnk, sec, fw, cal, dvt, dma, pkt, d.nvs, ckp, pwr⟩ :=
  ⟨⟨h.ended, h.fenced, h.cmds⟩, h.ids, h.nextSeq⟩

/-- A change of the ledger beside its items and the next number. -/
theorem Steady.besideItems (h : Steady c d) :
    Steady c ⟨free, regs, latch, satCtrs, bus, mem,
      ⟨d.led.nextSeq, d.led.items, arising, freed, lost, stallRun, pass, passHead, passLow, passTick, mirrored, mirror, checked, mirrorDev,
        mirrorAlt, report⟩,
      attn, attnServed, owed, fetched, d.agents, answer, hub, tck, ldr, arm, mu, wk,
      coll, kv, hif, pat, trc, lnk, sec, fw, cal, dvt, dma, pkt, d.nvs, ckp, pwr⟩ :=
  ⟨⟨h.ended, h.fenced, h.cmds⟩, h.ids, h.nextSeq⟩

/-- A change of the NVMe front end beside its commands. -/
theorem Steady.besideCmds (h : Steady c d) :
    Steady c ⟨free, regs, latch, satCtrs, bus, mem, d.led, attn, attnServed, owed, fetched, d.agents, answer, hub, tck, ldr, arm, mu, wk,
      coll, kv, hif, pat, trc, lnk, sec, fw, cal, dvt, dma, pkt,
      ⟨ctls, ns, targets, d.nvs.cmds, back, due, hand, pos, left, recs, hostOut⟩, ckp, pwr⟩ :=
  ⟨⟨h.ended, h.fenced, h.cmds⟩, h.ids, h.nextSeq⟩

end

theorem steady_ite {c a b : Chip} {q : Prop} [Decidable q] (h : Steady c a) (k : Steady c b) : Steady c (if q then a else b) := by
  split <;> assumption

theorem steady_foldl {α : Type} {c d : Chip} {f : Chip → α → Chip} {l : List α} (hf : ∀ d x, Steady c d → Steady c (f d x)) (h : Steady c d) :
    Steady c (l.foldl f d) := by
  induction l generalizing d with
  | nil => exact h
  | cons x l ih => exact ih (hf d x h)

theorem Steady.of_fst {α : Type} {c d : Chip} {x : α} {p : Chip × α} (h : Steady c p.1) (e : p = (d, x)) : Steady c d := by subst e; exact h

theorem Steady.of_snd {α : Type} {c d : Chip} {x : α} {p : α × Chip} (h : Steady c p.2) (e : p = (x, d)) : Steady c d := by subst e; exact h

/-- A change of an item that keeps what identifies it, and its state if it has ended. -/
def EndKept (i j : Item) : Prop := j.ident = i.ident ∧ (i.state.ended = true → j.state = i.state)

theorem EndKept.refl (i : Item) : EndKept i i := ⟨rfl, fun _ => rfl⟩

theorem EndKept.seq {i j : Item} (h : EndKept i j) : j.seq = i.seq := congrArg Ident.seq h.1

/-- The item that a number names, after a change of the items that keeps their numbers. -/
theorem item_mapItems {d : Chip} {f : Item → Item} (hf : ∀ i, (f i).seq = i.seq) (q : Nat) :
    Chip.item { d with led := { d.led with items := d.led.items.map f } } q = (d.item q).map f := by
  have h : (fun i => decide (i.seq = q)) ∘ f = fun i => decide (i.seq = q) := funext fun i => by simp [hf i]
  show List.find? (fun i => decide (i.seq = q)) (d.led.items.map f) = (List.find? (fun i => decide (i.seq = q)) d.led.items).map f
  rw [List.find?_map, h]

theorem ids_mapItems {d : Chip} {f : Item → Item} (hf : ∀ i, (f i).ident = i.ident) :
    Chip.ids { d with led := { d.led with items := d.led.items.map f } } = d.ids := by
  show (d.led.items.map f).map Item.ident = d.led.items.map Item.ident
  rw [List.map_map]
  exact List.map_congr_left fun i _ => hf i

theorem mapItems_steady {c d : Chip} {f : Item → Item} (h : Steady c d) (hf : ∀ i, EndKept i (f i)) :
    Steady c { d with led := { d.led with items := d.led.items.map f } } := by
  refine ⟨⟨fun q i hi he => ?_, h.fenced, h.cmds⟩, (ids_mapItems fun i => (hf i).1).trans h.ids, h.nextSeq⟩
  obtain ⟨j, hj, hst⟩ := h.ended q i hi he
  exact ⟨f j, by rw [item_mapItems fun i => (hf i).seq, hj]; rfl, ((hf j).2 (hst ▸ he)).trans hst⟩

theorem updItem_steady {c d : Chip} {seq : Nat} {f : Item → Item} (h : Steady c d) (hf : ∀ i, EndKept i (f i)) : Steady c (d.updItem seq f) :=
  mapItems_steady h fun i => by
    split
    · exact hf i
    · exact .refl i

/-- An item that had not ended may change its state. -/
theorem updOpenItem_steady {c d : Chip} {seq : Nat} {f : Item → Item} (h : Steady c d) (hseq : ∀ i, c.item seq = some i → i.state.ended = false)
    (hf : ∀ i, (f i).ident = i.ident) : Steady c (d.updItem seq f) := by
  have ident (i : Item) : (if i.seq = seq then f i else i).ident = i.ident := by
    split
    · exact hf i
    · rfl
  refine ⟨⟨fun q i hi he => ?_, h.fenced, h.cmds⟩, (ids_mapItems ident).trans h.ids, h.nextSeq⟩
  obtain ⟨j, hj, hst⟩ := h.ended q i hi he
  have hq : j.seq ≠ seq := fun e => by
    have hjq : j.seq = q := by simpa using List.find?_some hj
    rw [← hjq, e] at hi
    simp [hseq i hi] at he
  refine ⟨j, ?_, hst⟩
  rw [Chip.updItem, item_mapItems (fun i => congrArg Ident.seq (ident i)), hj, Option.map_some, if_neg hq]

/-- A chip that differs in neither of the three parts concerned. -/
theorem Steady.of_frame {P : List Part} {c d e : Chip} (h : Steady c d) (f : Frame P d e) (hl : Part.led ∉ P) (ha : Part.agents ∉ P)
    (hn : Part.nvs ∉ P) : Steady c e := by
  have led : e.led = d.led := f .led hl
  have agents : e.agents = d.agents := f .agents ha
  have nvs : e.nvs = d.nvs := f .nvs hn
  refine ⟨⟨fun q i hi he => ?_, fun b hb => ?_, nvs ▸ h.cmds⟩, ?_, led ▸ h.nextSeq⟩
  · simpa only [Chip.item, led] using h.ended q i hi he
  · simpa only [Chip.agentSt, Chip.agentRec, agents] using h.fenced b hb
  · simpa only [Chip.ids, led] using h.ids

/-- An item found open had not ended before. -/
theorem Steady.open_of_item {c d : Chip} (h : Steady c d) {q : Nat} {i : Item} (hi : d.item q = some i) (ho : ¬i.state.ended = true) :
    ∀ j, c.item i.seq = some j → j.state.ended = false := by
  intro j hj
  have hq : i.seq = q := by simpa using List.find?_some hi
  by_contra hne
  obtain ⟨k, hk, hst⟩ := h.ended _ j hj (by simpa using hne)
  rw [hq, hi] at hk
  cases hk
  rw [hst] at ho
  exact hne (by simpa using ho)

/-! ## What the end of an item leaves as it is -/

section
variable {d₀ d : Chip}

/-! ### The named operations on the chip that the commands share -/

theorem sr_steady {f : Fld} {v : Nat} (h : Steady d₀ d) : Steady d₀ (d.sr f v) := h.elsewhere

theorem mr_steady {f : Fld} {g : Nat → Nat} (h : Steady d₀ d) : Steady d₀ (d.mr f g) := sr_steady h

theorem setBit_steady {f : Fld} {i : Nat} {b : Bool} (h : Steady d₀ d) : Steady d₀ (d.setBit f i b) := mr_steady h

theorem takeFree_steady (h : Steady d₀ d) : Steady d₀ (d.takeFree) := h.elsewhere

theorem attnUpdate_steady (h : Steady d₀ d) : Steady d₀ (d.attnUpdate) :=
  steady_ite ((sr_steady (sr_steady (sr_steady h))).elsewhere) (sr_steady (sr_steady (sr_steady h)))

theorem raiseAttn_steady {why : Attn} {l : Level} {cls : Nat} (h : Steady d₀ d) : Steady d₀ (d.raiseAttn why l cls) :=
  attnUpdate_steady (steady_ite h h.elsewhere)

theorem note_steady {cls : Nat} (h : Steady d₀ d) : Steady d₀ (d.note cls) := attnUpdate_steady (setBit_steady h)

theorem setCore_steady {n : Nat} {c : ArmCore} (h : Steady d₀ d) : Steady d₀ (d.setCore n c) := h.elsewhere

theorem pend_steady {n b : Nat} (h : Steady d₀ d) : Steady d₀ (d.pend n b) := setCore_steady h

/-- Another agent's record is as it was, and this one's is the new one. -/
theorem agentRec_setAgentRec (e : Chip) (a b : Agent) (x : AgentState) : (e.setAgentRec a x).agentRec b = if b = a then x else e.agentRec b := by
  unfold Chip.setAgentRec Chip.agentRec
  by_cases h : b = a
  · simp [h]
  · have h' : ¬a = b := fun k => h k.symm
    rw [if_neg h, List.find?_cons_of_neg (by simpa using h'), List.find?_filter]
    congr 3
    funext p
    by_cases hp : p.1 = b
    · simp [hp, h]
    · simp [hp]

/-- A record that leaves a fenced agent FENCED. -/
theorem setAgentRec_steady {a : Agent} {x : AgentState} (h : Steady d₀ d) (hx : (d.agentRec a).st = .fenced → x.st = .fenced) :
    Steady d₀ (d.setAgentRec a x) := by
  refine ⟨⟨h.ended, fun b hb => ?_, h.cmds⟩, h.ids, h.nextSeq⟩
  have hd := h.fenced b hb
  show ((d.setAgentRec a x).agentRec (.block b)).st = .fenced
  rw [agentRec_setAgentRec]
  split
  · next e => exact hx (e ▸ hd)
  · exact hd

theorem beginFence_steady {a : Agent} {r : Bool} (h : Steady d₀ d) : Steady d₀ (d.beginFence a r) := setAgentRec_steady h id

theorem setAgentSt_fenced_steady {a : Agent} (h : Steady d₀ d) : Steady d₀ (d.setAgentSt a .fenced) := by
  cases a with
  | block b => exact setAgentRec_steady h fun _ => rfl
  | wc n => exact setBit_steady (sr_steady h)
  | ac n => exact sr_steady h

theorem resetAgent_steady {a : Agent} (h : Steady d₀ d) : Steady d₀ (d.resetAgent a) := by
  cases a with
  | block b => exact setAgentRec_steady (setAgentSt_fenced_steady h) id
  | wc n => exact sr_steady (setAgentRec_steady (setAgentSt_fenced_steady h) id)
  | ac n => exact setAgentRec_steady (setAgentSt_fenced_steady h) id

theorem blockReset_steady {a : Agent} (h : Steady d₀ d) : Steady d₀ (d.blockReset a) := by
  unfold Chip.blockReset
  split
  · exact beginFence_steady h
  · exact steady_ite h (resetAgent_steady h)
  · exact h
  · exact h

theorem patCount_steady {off w n : Nat} (h : Steady d₀ d) : Steady d₀ (d.patCount off w n) := h.elsewhere

theorem hubInterrupt_steady (h : Steady d₀ d) : Steady d₀ (d.hubInterrupt) := pend_steady (setBit_steady h)

theorem hubNmi_steady (h : Steady d₀ d) : Steady d₀ (d.hubNmi) := pend_steady (setBit_steady h)

theorem enterSafe_steady {cause : Nat} {boot : Bool} (h : Steady d₀ d) : Steady d₀ (d.enterSafe cause boot) :=
  raiseAttn_steady (sr_steady (sr_steady (patCount_steady ((sr_steady (sr_steady (sr_steady h))).elsewhere))))

theorem react_steady {source r : Nat} (h : Steady d₀ d) : Steady d₀ (d.react source r) := by
  unfold Chip.react
  split
  · exact hubInterrupt_steady h
  · exact hubNmi_steady h
  · exact note_steady (hubInterrupt_steady (blockReset_steady h))
  · extract_lets base _
    have hbase : Steady d₀ base := raiseAttn_steady h
    exact hbase.elsewhere
  · extract_lets _ d1
    have hd1 : Steady d₀ d1 := patCount_steady h.elsewhere
    exact hubNmi_steady (raiseAttn_steady hd1)
  · exact enterSafe_steady h
  · exact h

theorem history_steady {source detail reaction : Nat} {graceEnd handled held severe injected safe : Bool} (h : Steady d₀ d) :
    Steady d₀ (d.history source detail reaction graceEnd handled held severe injected safe) := by
  unfold Chip.history
  extract_lets _ d1 d2 d3 d4 d5
  have hd1 : Steady d₀ d1 := sr_steady (sr_steady h)
  have hd2 : Steady d₀ d2 := sr_steady (sr_steady hd1)
  have hd3 : Steady d₀ d3 := sr_steady (sr_steady hd2)
  have hd4 : Steady d₀ d4 := sr_steady (sr_steady hd3)
  have hd5 : Steady d₀ d5 := sr_steady (sr_steady hd4)
  exact mr_steady (sr_steady hd5)

theorem satMark_steady {f : Fld} (h : Steady d₀ d) : Steady d₀ (d.satMark f) := mr_steady (sr_steady (setBit_steady h.elsewhere))

theorem bump_steady {f : Fld} {n : Nat} (h : Steady d₀ d) : Steady d₀ (d.bump f n) := steady_ite (steady_ite h (satMark_steady h)) (sr_steady h)

theorem window_steady {s : Nat} (h : Steady d₀ d) : Steady d₀ (d.window s) := by
  unfold Chip.window
  extract_lets _ _ _ d1
  have hd1 : Steady d₀ d1 := steady_ite (sr_steady (sr_steady h)) (mr_steady h)
  exact steady_ite h (steady_ite (sr_steady hd1) hd1)

theorem syncHeld_steady (h : Steady d₀ d) : Steady d₀ (d.syncHeld) := sr_steady h

theorem hold_steady {s r detail : Nat} {inj : Bool} (h : Steady d₀ d) : Steady d₀ (d.hold s r detail inj) :=
  syncHeld_steady (hubNmi_steady (sr_steady (steady_ite h.elsewhere h.elsewhere)))

theorem raiseCore_steady {s detail : Nat} {inj : Bool} (h : Steady d₀ d) : Steady d₀ (d.raiseCore s detail inj) := by
  unfold Chip.raiseCore
  extract_lets d1 d2 _ d3 _ _
  have hd1 : Steady d₀ d1 := bump_steady (sr_steady h)
  have hd2 : Steady d₀ d2 := window_steady hd1
  have hd3 : Steady d₀ d3 := steady_ite hd2.elsewhere hd2
  exact steady_ite (history_steady hd3) (steady_ite (hold_steady (history_steady hd3)) (react_steady (history_steady hd3)))

theorem count_steady {f : Fld} {n : Nat} (h : Steady d₀ d) : Steady d₀ (d.count f n) :=
  steady_ite (raiseCore_steady (bump_steady (bump_steady h))) (bump_steady h)

theorem wake_steady (h : Steady d₀ d) : Steady d₀ (d.wake) := steady_ite (count_steady h.elsewhere) (steady_ite (count_steady h.elsewhere) h)

theorem fault_steady {s detail : Nat} {inj : Bool} (h : Steady d₀ d) : Steady d₀ (d.fault s detail inj) :=
  steady_ite (raiseCore_steady (raiseCore_steady (wake_steady h))) (raiseCore_steady (wake_steady h))

theorem patEvent_steady {type : Nat} {body : List Nat} (h : Steady d₀ d) : Steady d₀ (d.patEvent type body) :=
  steady_ite (count_steady (sr_steady h.elsewhere)) h.elsewhere

/-! ### The meters of R88 -/

theorem updPlan_steady {id : Nat} {f : Plan → Plan} (h : Steady d₀ d) : Steady d₀ (d.updPlan id f) := h.elsewhere

theorem chargeOver_steady {p : Nat} {u : PlanUse} (h : Steady d₀ d) : Steady d₀ (d.chargeOver p u) := by
  unfold Chip.chargeOver
  split
  · exact h
  · extract_lets _ _ _ _ _ _ d1
    have hd1 : Steady d₀ d1 := h.elsewhere
    exact steady_ite (updPlan_steady hd1) hd1

/-! ### Device memory -/

theorem setPoison_steady {g : Nat} {p : Bool} (h : Steady d₀ d) : Steady d₀ (d.setPoison g p) := h.elsewhere

theorem putByte_steady {a b : Nat} (h : Steady d₀ d) : Steady d₀ (d.putByte a b) := h.elsewhere

theorem applyFlip_steady {w : Nat} (h : Steady d₀ d) : Steady d₀ (d.applyFlip w) :=
  steady_ite (steady_ite (sr_steady (sr_steady h)) ((sr_steady (sr_steady h)).elsewhere)) h

theorem wordWritten_steady {w : Nat} (h : Steady d₀ d) : Steady d₀ (d.wordWritten w) := applyFlip_steady ((setPoison_steady h).elsewhere)

theorem addRemap_steady {source a : Nat} (h : Steady d₀ d) : Steady d₀ (d.addRemap source a) := by
  unfold Chip.addRemap
  extract_lets _ _ _ _ d1
  have hd1 : Steady d₀ d1 := steady_ite h.elsewhere h.elsewhere
  exact steady_ite h (steady_ite (note_steady (fault_steady (count_steady h))) (sr_steady hd1))

theorem plinthCE_steady {w : Nat} (h : Steady d₀ d) : Steady d₀ (d.plinthCE w) := by
  unfold Chip.plinthCE
  extract_lets d1 _ _ _ d2
  have hd1 : Steady d₀ d1 := fault_steady (patCount_steady (count_steady h))
  have hd2 : Steady d₀ d2 := hd1.elsewhere
  exact steady_ite (patEvent_steady (addRemap_steady hd2)) hd1.elsewhere

theorem ledgerLost_steady (h : Steady d₀ d) : Steady d₀ (d.ledgerLost) := steady_ite h (fault_steady (sr_steady (sr_steady h.besideItems)))

theorem copyFail_steady {die : Nat} {room : Bool} (h : Steady d₀ d) : Steady d₀ (d.copyFail die room) := by
  unfold Chip.copyFail
  extract_lets _ _ d1
  have hd1 : Steady d₀ d1 := sr_steady (setBit_steady h)
  exact steady_ite (ledgerLost_steady h) (raiseAttn_steady (steady_ite (fault_steady hd1) hd1))

theorem bankFail_steady {bank : Nat} (h : Steady d₀ d) : Steady d₀ (d.bankFail bank) := by
  unfold Chip.bankFail
  extract_lets _ _ d1 _ d2 _ d3 _
  have hd1 : Steady d₀ d1 := raiseAttn_steady (fault_steady h)
  have hd2 : Steady d₀ d2 := copyFail_steady hd1
  have hd3 : Steady d₀ d3 := patEvent_steady (sr_steady hd2)
  exact steady_ite hd2.elsewhere hd3.elsewhere

theorem plinthUE_steady {w : Nat} (h : Steady d₀ d) : Steady d₀ (d.plinthUE w) := by
  unfold Chip.plinthUE
  extract_lets d1 _ _ _ d2
  have hd1 : Steady d₀ d1 := fault_steady (patCount_steady (count_steady (setPoison_steady h)))
  have hd2 : Steady d₀ d2 := hd1.elsewhere
  exact steady_ite (bankFail_steady hd2) hd2

theorem settle_steady {a n : Nat} (h : Steady d₀ d) : Steady d₀ (d.settle a n) := by
  unfold Chip.settle
  refine steady_foldl ?_ h
  intro d1 x h1
  extract_lets _ d' _ d'1
  have hd' : Steady d₀ d' := h1.elsewhere
  have hd'1 : Steady d₀ d'1 := steady_ite (takeFree_steady hd') hd'
  exact steady_ite (plinthCE_steady hd'1) (plinthUE_steady hd'1)

theorem flushMerge_steady {w : Nat} (h : Steady d₀ d) : Steady d₀ (d.flushMerge w) := by
  unfold Chip.flushMerge
  split
  · exact h
  · extract_lets _ d1 d2
    have hd1 : Steady d₀ d1 := h.elsewhere
    have hd2 : Steady d₀ d2 := settle_steady (count_steady hd1)
    exact steady_ite (wordWritten_steady (steady_foldl (fun _ _ h1 => putByte_steady h1) hd1))
      (steady_ite hd2 (applyFlip_steady (steady_foldl (fun _ _ h1 => putByte_steady h1) hd2)))

theorem mergeWrite_steady {w : Nat} {bs : List (Nat × Nat)} (h : Steady d₀ d) : Steady d₀ (d.mergeWrite w bs) := by
  unfold Chip.mergeWrite
  split
  · extract_lets _ _ d1
    have hd1 : Steady d₀ d1 := h.elsewhere
    exact steady_ite (flushMerge_steady hd1) hd1
  · extract_lets _ d1 _
    have hd1 : Steady d₀ d1 := steady_ite (flushMerge_steady h) h
    exact hd1.elsewhere

theorem writeGran_steady {g : Nat} {bs : List (Nat × Nat)} {poison : Bool} (h : Steady d₀ d) : Steady d₀ (d.writeGran g bs poison) := by
  unfold Chip.writeGran
  extract_lets _ base _ d1 _ _ d2 d3
  have hbase : Steady d₀ base := setPoison_steady h
  have hd1 : Steady d₀ d1 := h.elsewhere
  have hd2 : Steady d₀ d2 := steady_ite (takeFree_steady (setPoison_steady h)) h
  have hd3 : Steady d₀ d3 := steady_ite hd2 (steady_foldl (fun _ _ h1 => putByte_steady h1) hd2)
  exact steady_ite (count_steady h) (steady_ite (steady_ite hbase.elsewhere (steady_ite
    (wordWritten_steady (steady_foldl (fun _ _ h1 => putByte_steady h1) hd1)) (mergeWrite_steady h)))
      (steady_ite (setPoison_steady hd3) (steady_ite (setPoison_steady hd3) hd3)))

theorem writePhysAux_steady {k a : Nat} {bs : List (Nat × Bool)} (h : Steady d₀ d) : Steady d₀ (d.writePhysAux k a bs) := by
  induction k generalizing d a bs with
  | zero => exact h
  | succ k ih =>
    unfold Chip.writePhysAux
    exact steady_ite h (ih (writeGran_steady h))

theorem writePhys_steady {a : Nat} {bs : List (Nat × Bool)} (h : Steady d₀ d) : Steady d₀ (d.writePhys a bs) := writePhysAux_steady h

theorem setPool_steady {k : Nat} {p : Pool} (h : Steady d₀ d) : Steady d₀ (d.setPool k p) := h.elsewhere

theorem freeUnits_steady {k : Nat} {us : List Nat} (h : Steady d₀ d) : Steady d₀ (d.freeUnits k us) := setPool_steady h

theorem syncFill_steady (h : Steady d₀ d) : Steady d₀ (d.syncFill) := steady_foldl (fun _ _ h1 => sr_steady (sr_steady h1)) h

theorem setPte_steady {n : Nat} {e : PTE} (h : Steady d₀ d) : Steady d₀ (d.setPte n e) := (steady_foldl (fun _ _ h1 => putByte_steady h1) h).elsewhere

theorem queuePage_steady {page tier : Nat} {up : Bool} (h : Steady d₀ d) :
    Steady d₀ (d.queuePage page tier up) := steady_ite (count_steady h) h.elsewhere

theorem heatPage_steady {n k : Nat} (h : Steady d₀ d) : Steady d₀ (d.heatPage n k) := by
  unfold Chip.heatPage
  extract_lets _ _ d1 _ d2
  have hd1 : Steady d₀ d1 := setPte_steady h
  have hd2 : Steady d₀ d2 := steady_ite (queuePage_steady hd1) hd1
  exact steady_ite h (steady_ite (queuePage_steady hd2) hd2)

theorem xlatTouch_steady {n k : Nat} (h : Steady d₀ d) : Steady d₀ (d.xlatTouch n k) := by
  unfold Chip.xlatTouch
  extract_lets _ d1 _
  have hd1 : Steady d₀ d1 := by
    unfold d1
    refine steady_ite ?_ h
    split
    · exact heatPage_steady (takeFree_steady h.elsewhere)
    · exact h
  exact hd1.elsewhere

theorem ckpCopy_steady {j : Nat} {x : CkpJob} {r : CkpRun} {n k logical : Nat} (h : Steady d₀ d) : Steady d₀ (d.ckpCopy j x r n k logical) := by
  unfold Chip.ckpCopy
  extract_lets _ _ _ _ d1 _ _ d2
  have hd1 : Steady d₀ d1 := writePhys_steady h
  have hd2 : Steady d₀ d2 := hd1.elsewhere
  exact count_steady hd2

theorem cowWrite_steady {n : Nat} (h : Steady d₀ d) : Steady d₀ (d.cowWrite n) := by
  unfold Chip.cowWrite
  extract_lets _
  split
  · split
    · extract_lets _ _ _ d1
      have hd1 : Steady d₀ d1 := chargeOver_steady h
      refine steady_ite (steady_ite h (setPte_steady h)) (steady_ite h (steady_ite (setPte_steady h) ?_))
      split
      · exact setPte_steady (count_steady (ckpCopy_steady hd1))
      · exact setPte_steady (count_steady h)
    · exact steady_ite h (setPte_steady h)
  · exact steady_ite h (setPte_steady h)

theorem touchPage_steady {a : Nat} {write : Bool} (h : Steady d₀ d) : Steady d₀ (d.touchPage a write) :=
  steady_ite (xlatTouch_steady (steady_ite (cowWrite_steady h) h)) h

theorem notePhys_steady {p n : Nat} (h : Steady d₀ d) : Steady d₀ (d.notePhys p n) := by
  unfold Chip.notePhys
  extract_lets d1 _ _ d2
  have hd1 : Steady d₀ d1 := settle_steady h
  have hd2 : Steady d₀ d2 := steady_ite hd1 (count_steady hd1)
  exact steady_ite hd2 (count_steady hd2)

theorem noteRead_steady {a n : Nat} (h : Steady d₀ d) : Steady d₀ (d.noteRead a n) := by
  unfold Chip.noteRead
  refine steady_foldl ?_ h
  intro d1 x h1
  split
  · exact h1
  · exact notePhys_steady (touchPage_steady h1)

theorem writeRangeAux_steady {k a : Nat} {bs : List (Nat × Bool)} (h : Steady d₀ d) : Steady d₀ (d.writeRangeAux k a bs) := by
  induction k generalizing d a bs with
  | zero => exact h
  | succ k ih =>
    unfold Chip.writeRangeAux
    refine steady_ite h (steady_ite (ih ?_) (writePhys_steady h))
    have touched := touchPage_steady (a := a) (write := true) h
    split
    · exact steady_ite (count_steady touched) (writePhys_steady touched)
    · exact touched

theorem translate_steady {a n : Nat} (h : Steady d₀ d) : Steady d₀ (d.translate a n) := by
  unfold Chip.translate
  extract_lets _
  split
  · exact h
  · extract_lets _
    refine steady_ite h (steady_foldl ?_ h)
    intro d1 x h2
    extract_lets _ _
    exact steady_ite h2 (count_steady h2.elsewhere)

theorem markDirty_steady {a n : Nat} (h : Steady d₀ d) : Steady d₀ (d.markDirty a n) := by
  unfold Chip.markDirty
  extract_lets _
  split
  · exact h
  · split
    · exact h
    · extract_lets _ _ _ d1
      have hd1 : Steady d₀ d1 := by
        unfold d1
        refine steady_foldl ?_ h
        intro d2 x h2
        extract_lets _ _
        exact writePhys_steady h2
      exact steady_ite (count_steady hd1) hd1

theorem writeRange_steady {a : Nat} {bs : List (Nat × Bool)} (h : Steady d₀ d) : Steady d₀ (d.writeRange a bs) :=
  writeRangeAux_steady (steady_ite (markDirty_steady (translate_steady h)) h)

theorem wr_steady {a : Nat} {bs : List Nat} (h : Steady d₀ d) : Steady d₀ (d.wr a bs) := writeRange_steady h

theorem wrNum_steady {a n v : Nat} (h : Steady d₀ d) : Steady d₀ (d.wrNum a n v) := wr_steady h

/-! ### Group and slot records -/

theorem pace_steady {port line arg : Nat} (h : Steady d₀ d) : Steady d₀ (d.pace port line arg) := h.elsewhere

theorem paceAll_steady {ports : List Nat} {line arg : Nat} (h : Steady d₀ d) : Steady d₀ (d.paceAll ports line arg) :=
  steady_foldl (fun _ _ h1 => pace_steady h1) h

theorem setSlot_steady {k : Nat} {s : SlotRec} (h : Steady d₀ d) : Steady d₀ (d.setSlot k s) := setBit_steady h.elsewhere

theorem firingEnd_steady {k n seq : Nat} {committed : Bool} (h : Steady d₀ d) : Steady d₀ (d.firingEnd k n seq committed) :=
  setSlot_steady (count_steady (paceAll_steady h))

theorem abortPeers_steady {g : Desc} {tag : Nat} (h : Steady d₀ d) : Steady d₀ (d.abortPeers g tag) := h.elsewhere

theorem collWithdrawn_steady {body : Desc} {code : Nat} (h : Steady d₀ d) : Steady d₀ (d.collWithdrawn body code) := by
  unfold Chip.collWithdrawn
  extract_lets d1
  have hd1 : Steady d₀ d1 := count_steady h
  split
  · exact hd1
  · exact steady_ite hd1 (abortPeers_steady hd1)

/-! ### Service records -/

theorem setSvc_steady {n : Nat} {s : SvcRec} (h : Steady d₀ d) : Steady d₀ (d.setSvc n s) := h.elsewhere

theorem answerQuery_steady {n p e : Nat} {ok : Bool} (h : Steady d₀ d) : Steady d₀ (d.answerQuery n p e ok) := by
  unfold Chip.answerQuery
  split
  · exact h
  · exact setSvc_steady (pace_steady h)

theorem queryEnd_steady {n entry seq : Nat} {committed : Bool} (h : Steady d₀ d) : Steady d₀ (d.queryEnd n entry seq committed) := by
  unfold Chip.queryEnd
  extract_lets _ _ d1 d2 d3
  have hd1 : Steady d₀ d1 := h.elsewhere
  have hd2 : Steady d₀ d2 := count_steady (count_steady hd1)
  have hd3 : Steady d₀ d3 := steady_ite (steady_ite hd2 (count_steady hd2)) hd1
  exact answerQuery_steady hd3

/-! ### Sequences, the run directory and the block map in device memory -/

theorem logMap_steady {r : KvLog} (h : Steady d₀ d) : Steady d₀ (d.logMap r) := steady_ite h.elsewhere h

theorem setDir_steady {v s l : Nat} {e : DirEnt} (h : Steady d₀ d) : Steady d₀ (d.setDir v s l e) :=
  wrNum_steady (wrNum_steady (wrNum_steady (steady_ite (logMap_steady h) h)))

theorem syncMap_steady (h : Steady d₀ d) : Steady d₀ (d.syncMap) := sr_steady (sr_steady h)

theorem dropExtent_steady {base n : Nat} (h : Steady d₀ d) : Steady d₀ (d.dropExtent base n) := syncMap_steady h.elsewhere

theorem freeCells_steady {a n : Nat} (h : Steady d₀ d) : Steady d₀ (d.freeCells a n) := syncFill_steady (freeUnits_steady h)

theorem reclaimCells_steady {pool a n : Nat} (h : Steady d₀ d) : Steady d₀ (d.reclaimCells pool a n) := h.elsewhere

theorem dropRun_steady {x : Desc} {e : DirEnt} (h : Steady d₀ d) : Steady d₀ (d.dropRun x e) :=
  steady_ite (steady_ite h (dropExtent_steady h)) (reclaimCells_steady (steady_ite h (dropExtent_steady h)))

theorem freeSeq_steady {x : Desc} (h : Steady d₀ d) : Steady d₀ (d.freeSeq x) := steady_foldl (fun _ _ h1 => setDir_steady (dropRun_steady h1)) h

/-! ### What an item's end does to the engine it ran in, by the item's kind -/

theorem leaveUnit_steady {i : Item} (h : Steady d₀ d) :
    Steady d₀ (d.leaveUnit i) := steady_foldl (fun _ _ h1 => steady_ite (sr_steady h1) h1) h.elsewhere

theorem workWithdrawn_steady {i : Item} (h : Steady d₀ d) : Steady d₀ (d.workWithdrawn i) := (leaveUnit_steady h).elsewhere

theorem slotCmdWithdrawn_steady {seq : Nat} (h : Steady d₀ d) : Steady d₀ (d.slotCmdWithdrawn seq) :=
  steady_foldl (fun _ _ h1 => steady_ite (setSlot_steady h1) (steady_ite (setSlot_steady h1) h1)) h

theorem kvWithdrawn_steady {op : Nat} {body : Desc} (h : Steady d₀ d) : Steady d₀ (d.kvWithdrawn op body) := by
  unfold Chip.kvWithdrawn
  split
  · exact freeSeq_steady h
  · extract_lets _
    exact h.elsewhere
  · exact freeCells_steady h
  · extract_lets _
    refine steady_foldl ?_ h
    intro d1 x h1
    extract_lets _
    exact steady_ite (setPte_steady (freeUnits_steady h1)) h1
  · exact steady_ite (wr_steady h) h
  · exact h

theorem kvCmdWithdrawn_steady {seq : Nat} (h : Steady d₀ d) : Steady d₀ (d.kvCmdWithdrawn seq) := h.elsewhere

theorem inboxEnded_steady {n seq : Nat} {committed : Bool} (h : Steady d₀ d) : Steady d₀ (d.inboxEnded n seq committed) :=
  steady_foldl (fun _ _ h1 => steady_ite (wrNum_steady h1) h1) h

theorem endDone_steady {seq : Nat} {committed : Bool} (h : Steady d₀ d) : Steady d₀ (d.endDone seq committed) := by
  unfold Chip.endDone
  split
  · exact h
  · extract_lets _ d1
    have hd1 : Steady d₀ d1 := h.elsewhere
    exact pend_steady (sr_steady hd1)

theorem actWithdrawn_steady {seq : Nat} (h : Steady d₀ d) : Steady d₀ (d.actWithdrawn seq) := steady_ite (sr_steady h.elsewhere) h

theorem dvtWithdrawn_steady {seq : Nat} (h : Steady d₀ d) : Steady d₀ (d.dvtWithdrawn seq) := (steady_ite (mr_steady h) h).elsewhere

theorem pktEnded_steady {seq : Nat} {committed : Bool} (h : Steady d₀ d) : Steady d₀ (d.pktEnded seq committed) :=
  steady_ite h.elsewhere ((steady_ite (sr_steady h) h).elsewhere)

theorem ckpRelease_steady {x : CkpJob} (h : Steady d₀ d) : Steady d₀ (d.ckpRelease x) :=
  steady_foldl (fun _ _ h1 => steady_foldl (fun _ _ h2 => steady_ite (setPte_steady h2) h2) h1) h

theorem ckpEnded_steady {j : Nat} {committed : Bool} (h : Steady d₀ d) : Steady d₀ (d.ckpEnded j committed) := by
  unfold Chip.ckpEnded
  split
  · exact h
  · split
    · exact h
    · extract_lets d1 _ d2 d3 _ d4 d5 _
      have hd1 : Steady d₀ d1 := sr_steady (sr_steady h)
      have hd2 : Steady d₀ d2 := count_steady (sr_steady hd1)
      have hd3 : Steady d₀ d3 := sr_steady hd2
      have hd4 : Steady d₀ d4 := ckpRelease_steady hd1
      have hd5 : Steady d₀ d5 := count_steady (sr_steady (sr_steady hd4))
      exact steady_ite hd3.elsewhere hd5.elsewhere

theorem ckpCmdEnded_steady {seq : Nat} {committed : Bool} (h : Steady d₀ d) : Steady d₀ (d.ckpCmdEnded seq committed) :=
  (steady_foldl (fun _ _ h1 => sr_steady h1) h).elsewhere

theorem onEnd_steady {i : Item} {committed : Bool} {code : Nat} (h : Steady d₀ d) : Steady d₀ (d.onEnd i committed code) := by
  unfold Chip.onEnd
  extract_lets d1 d2 _ _ d3 _ d4
  have hd1 : Steady d₀ d1 := endDone_steady h
  have hd2 : Steady d₀ d2 := steady_ite (inboxEnded_steady hd1) hd1
  have hd3 : Steady d₀ d3 := hd2.elsewhere
  have hd4 : Steady d₀ d4 := hd2.elsewhere
  split
  · exact steady_ite hd2.elsewhere (dvtWithdrawn_steady hd2)
  · extract_lets d5
    have hd5 : Steady d₀ d5 := mr_steady hd3
    exact steady_ite (sr_steady hd5) hd5
  · exact steady_ite hd2 (workWithdrawn_steady hd2)
  · exact firingEnd_steady hd2
  · exact steady_ite hd4 (collWithdrawn_steady hd4)
  · extract_lets _
    exact setCore_steady hd2
  · exact queryEnd_steady hd2
  · exact ckpEnded_steady hd2
  · extract_lets d5 d6
    have hd5 : Steady d₀ d5 := steady_ite (pktEnded_steady hd2) hd2
    have hd6 : Steady d₀ d6 := steady_ite (ckpCmdEnded_steady hd5) hd5
    exact steady_ite hd6 (kvWithdrawn_steady (kvCmdWithdrawn_steady (slotCmdWithdrawn_steady (actWithdrawn_steady (dvtWithdrawn_steady hd6)))))
  · exact hd2

/-! ### Frame capacities and the sums of admission -/

theorem syncAdmit_steady (h : Steady d₀ d) : Steady d₀ (d.syncAdmit) := sr_steady (sr_steady (sr_steady (sr_steady h)))

/-! ### The ledger and replies -/

theorem owe_steady {r : Reply} (h : Steady d₀ d) : Steady d₀ (d.owe r) := h.elsewhere

theorem coreReply_steady {n : Nat} {hdr : Option Nat} {r : Reply} (h : Steady d₀ d) : Steady d₀ (d.coreReply n hdr r) :=
  steady_ite (pend_steady (setCore_steady (wr_steady h))) (setCore_steady (wr_steady h))

theorem refuse_steady {src : Submit} {code lo hi : Nat} (h : Steady d₀ d) : Steady d₀ (d.refuse src code lo hi) := by
  unfold Chip.refuse
  extract_lets _ _
  split
  · exact count_steady (mr_steady (owe_steady h))
  · exact owe_steady h
  · extract_lets _
    exact pend_steady (setCore_steady h)
  · exact h.besideCmds
  · exact h

theorem taken_steady {o : Origin} (h : Steady d₀ d) : Steady d₀ (d.taken o) := by
  unfold Chip.taken
  split
  · exact count_steady (mr_steady h)
  · extract_lets _
    exact setCore_steady h
  · exact h

theorem oweMore_steady {seq code lo hi : Nat} (h : Steady d₀ d) : Steady d₀ (d.oweMore seq code lo hi) := by
  unfold Chip.oweMore
  split
  · split
    · extract_lets _
      exact owe_steady h
    · extract_lets _
      exact owe_steady h
    · exact h
  · exact h

theorem replyDue_steady {i : Item} {code lo hi : Nat} (h : Steady d₀ d) : Steady d₀ (d.replyDue i code lo hi) := by
  unfold Chip.replyDue
  split
  · exact owe_steady h
  · exact owe_steady h
  · exact updItem_steady (coreReply_steady h) (fun _ => ⟨rfl, fun _ => rfl⟩)
  · exact owe_steady h
  · extract_lets d1
    have hd1 : Steady d₀ d1 := steady_ite h (wr_steady h)
    exact updItem_steady hd1 (fun _ => ⟨rfl, fun _ => rfl⟩)
  · refine updItem_steady ?_ (fun _ => ⟨rfl, fun _ => rfl⟩)
    extract_lets _
    exact h.besideCmds
  · exact updItem_steady h (fun _ => ⟨rfl, fun _ => rfl⟩)

theorem release_steady (h : Steady d₀ d) : Steady d₀ (d.release) := mapItems_steady h (fun _ => by split <;> exact ⟨rfl, fun _ => rfl⟩)

theorem drainPlans_steady (h : Steady d₀ d) : Steady d₀ (d.drainPlans) := by
  unfold Chip.drainPlans
  refine steady_foldl ?_ h
  intro d1 x h1
  extract_lets _ d2 d3
  have hd2 : Steady d₀ d2 := h1.elsewhere
  have hd3 : Steady d₀ d3 := steady_foldl (fun _ _ h2 => sr_steady (sr_steady h2)) hd2
  split
  · exact replyDue_steady hd3
  · exact hd3

theorem dropPlanCmd_steady {seq : Nat} (h : Steady d₀ d) : Steady d₀ (d.dropPlanCmd seq) := by
  unfold Chip.dropPlanCmd
  split
  · exact h
  · extract_lets _ d1 d2 _
    have hd1 : Steady d₀ d1 := h.elsewhere
    have hd2 : Steady d₀ d2 := steady_foldl (fun _ _ h1 => sr_steady (sr_steady h1)) hd1
    refine syncAdmit_steady ?_
    split
    · exact hd2.elsewhere
    · exact hd2.elsewhere
    · exact hd2.elsewhere

theorem drainSlots_steady (h : Steady d₀ d) : Steady d₀ (d.drainSlots) := by
  unfold Chip.drainSlots
  refine steady_foldl ?_ h
  intro d1 x h1
  extract_lets _ d2
  have hd2 : Steady d₀ d2 := setSlot_steady h1
  split
  · exact steady_ite (replyDue_steady hd2) hd2
  · exact hd2

/-- An item that had not ended is ended. -/
theorem endOne_steady {i : Item} {st : ItemState} {code lo hi : Nat} {due : Bool} (h : Steady d₀ d)
    (hopen : ∀ j, d₀.item i.seq = some j → j.state.ended = false) : Steady d₀ (d.endOne i st code lo hi due) := by
  unfold Chip.endOne
  split
  extract_lets e1 e2 e3
  have he1 : Steady d₀ e1 := updOpenItem_steady h hopen fun _ => rfl
  have he3 : Steady d₀ e3 := onEnd_steady (steady_ite (replyDue_steady he1) he1)
  exact steady_ite (dropPlanCmd_steady he3) he3

theorem drainSvcs_steady (h : Steady d₀ d) : Steady d₀ (d.drainSvcs) := by
  unfold Chip.drainSvcs
  refine steady_foldl (fun e p h1 => ?_) h
  extract_lets _ e1
  have he1 : Steady d₀ e1 := h1.elsewhere
  split
  · next i hi =>
    split
    · exact he1
    · next ho => exact steady_ite (endOne_steady he1 (he1.open_of_item hi ho)) (updItem_steady he1 (fun _ => ⟨rfl, fun _ => rfl⟩))
  · exact he1

theorem drainConns_steady (h : Steady d₀ d) : Steady d₀ (d.drainConns) := by
  unfold Chip.drainConns
  refine steady_foldl (fun e p h1 => ?_) h
  extract_lets _ e1 e2
  have he2 : Steady d₀ e2 := sr_steady h1.elsewhere
  split
  · next i hi =>
    split
    · exact he2
    · next ho => exact steady_ite (endOne_steady he2 (he2.open_of_item hi ho)) (updItem_steady he2 (fun _ => ⟨rfl, fun _ => rfl⟩))
  · exact he2

theorem endItem_steady {seq : Nat} {st : ItemState} {code lo hi : Nat} {due : Bool} (h : Steady d₀ d) :
    Steady d₀ (d.endItem seq st code lo hi due) := by
  unfold Chip.endItem
  split
  · exact h
  · next i hi =>
    split
    · exact h
    · next ho =>
      refine steady_ite (updItem_steady h (fun _ => ⟨rfl, fun _ => rfl⟩))
        (drainSlots_steady (drainPlans_steady (release_steady (drainConns_steady (drainSvcs_steady (endOne_steady h ?_))))))
      exact h.open_of_item hi fun he => ho (.inl he)

theorem finish_steady {seq code lo hi : Nat} {due : Bool} (h : Steady d₀ d) : Steady d₀ (d.finish seq code lo hi due) := by
  unfold Chip.finish
  split
  · exact h
  · exact steady_ite (endItem_steady h) (updItem_steady h (fun _ => by split <;> exact ⟨rfl, fun _ => rfl⟩))

theorem withdraw_steady {seq code lo hi : Nat} (h : Steady d₀ d) : Steady d₀ (d.withdraw seq code lo hi) := steady_ite (endItem_steady h) h

theorem backToAccepted_kept (i : Item) : EndKept i (backToAccepted i) := by
  unfold backToAccepted
  split
  · exact ⟨rfl, fun _ => rfl⟩
  · next h => exact ⟨rfl, fun he => absurd he h⟩

theorem giveBack_steady {p : Item → Bool} (h : Steady d₀ d) : Steady d₀ (d.giveBack p) := by
  have returned : Steady d₀ { d with led := { d.led with items := d.led.items.map (fun i => if p i && i.crec = .none then backToAccepted i else i) } }
    :=
    mapItems_steady h fun i => by
      split
      · exact backToAccepted_kept i
      · exact ⟨rfl, fun _ => rfl⟩
  exact returned.elsewhere

theorem opsBack_steady {k : Nat} (h : Steady d₀ d) : Steady d₀ (d.opsBack k) :=
  mapItems_steady h fun i => by
    split
    · split
      · next hc => exact ⟨rfl, fun he => absurd he (by simpa using hc.2.1)⟩
      · exact ⟨rfl, fun _ => rfl⟩
    · exact ⟨rfl, fun _ => rfl⟩

/-! ### What the engines need of the host endpoint (chapter 13) -/

theorem issueRead_steady {fn seq : Nat} {back : Bool} (h : Steady d₀ d) : Steady d₀ (d.issueRead fn seq back) := h.elsewhere

/-! ### Work items on the work cores -/

theorem emptyCore_steady {n : Nat} (h : Steady d₀ d) : Steady d₀ (d.emptyCore n) := by
  unfold Chip.emptyCore
  refine Steady.elsewhere (steady_foldl (fun _ _ h1 => sr_steady h1) ?_)
  exact mapItems_steady (giveBack_steady h) (fun _ => by split <;> exact ⟨rfl, fun _ => rfl⟩)

/-! ### The KV store -/

theorem abandonCompact_steady {counted : Bool} (h : Steady d₀ d) : Steady d₀ (d.abandonCompact counted) := by
  unfold Chip.abandonCompact
  extract_lets _ d1 d2 _
  have hd1 : Steady d₀ d1 := sr_steady h.elsewhere
  have hd2 : Steady d₀ d2 := fault_steady (mr_steady hd1)
  refine steady_ite h (steady_ite hd1 (steady_ite hd2 ?_))
  split
  · exact withdraw_steady hd2.elsewhere
  · exact hd2

theorem abandonMove_steady (h : Steady d₀ d) : Steady d₀ (d.abandonMove) := by
  unfold Chip.abandonMove
  split
  · exact h
  · exact syncFill_steady (freeUnits_steady h.elsewhere)

/-! ### DMA engines (chapter 14) -/

theorem dmaBack_steady (h : Steady d₀ d) : Steady d₀ (d.dmaBack) := h.elsewhere

/-! ### Crash, fence, retirement and restart of an Armature core -/

theorem coreGiveBack_steady {n : Nat} (h : Steady d₀ d) : Steady d₀ (d.coreGiveBack n) := by
  unfold Chip.coreGiveBack
  refine Steady.elsewhere (mapItems_steady h fun i => ?_)
  split
  · next hc =>
    obtain ⟨hown, -⟩ := hc
    exact ⟨rfl, fun he => by simp [ownedBy, he] at hown⟩
  · exact ⟨rfl, fun _ => rfl⟩

/-! ### Signed images in the boot flash -/

theorem flashWrite_steady {dev o : Nat} {bs : List Nat} (h : Steady d₀ d) : Steady d₀ (d.flashWrite dev o bs) := h.elsewhere

theorem putBootRec_steady {active state : Nat} (h : Steady d₀ d) : Steady d₀ (d.putBootRec active state) :=
  sr_steady (flashWrite_steady (flashWrite_steady (flashWrite_steady (flashWrite_steady h))))

/-! ### Armature firmware (chapter 09) -/

theorem activateCommit_steady (h : Steady d₀ d) : Steady d₀ (d.activateCommit) := by
  unfold Chip.activateCommit
  extract_lets _ _ _ _ d1 d2 base _ d3 d4 _
  have hd1 : Steady d₀ d1 := putBootRec_steady h
  have hd2 : Steady d₀ d2 := mr_steady hd1
  have hbase : Steady d₀ base := endItem_steady hd2
  have hd3 : Steady d₀ d3 := endItem_steady hd2
  have hd4 : Steady d₀ d4 := writeRange_steady hd3
  exact steady_ite (sr_steady hbase.elsewhere) (sr_steady hd4.elsewhere)

theorem activateGo_steady (h : Steady d₀ d) : Steady d₀ (d.activateGo) := by
  unfold Chip.activateGo
  split
  · exact h
  · exact steady_ite (steady_ite h (sr_steady (oweMore_steady h))) (steady_ite (activateCommit_steady h)
      (updItem_steady h (fun _ => ⟨rfl, fun _ => rfl⟩)))

/-! ### The host endpoint (chapter 13) -/

theorem hf_steady {f : Hif → Hif} (h : Steady d₀ d) : Steady d₀ (d.hf f) := h.elsewhere

theorem sendVector_steady {fn v : Nat} (h : Steady d₀ d) : Steady d₀ (d.sendVector fn v) := steady_ite (hf_steady h) (hf_steady h)

/-! ### The storage front end (chapter 15) -/

theorem nv_steady {f : NvsUnit → NvsUnit} (h : Steady d₀ d) (hf : ∀ q, q ∈ (f d.nvs).cmds.map Prod.fst → q ∈ d.nvs.cmds.map Prod.fst) :
    Steady d₀ (d.nv f) :=
  ⟨⟨h.ended, h.fenced, fun q hq => h.cmds q (hf q hq)⟩, h.ids, h.nextSeq⟩

theorem setCtl_steady {fn : Nat} {c : NvmeCtl} (h : Steady d₀ d) : Steady d₀ (d.setCtl fn c) := nv_steady h (fun _ => id)

theorem updCtl_steady {fn : Nat} {f : NvmeCtl → NvmeCtl} (h : Steady d₀ d) : Steady d₀ (d.updCtl fn f) := setCtl_steady h

theorem prpWrite_steady {fn : Nat} {ps : List (Nat × Nat)} {bs : List Nat} (h : Steady d₀ d) : Steady d₀ (d.prpWrite fn ps bs) := by
  induction ps generalizing d bs with
  | nil => exact h
  | cons p ps ih =>
    unfold Chip.prpWrite
    refine ih ?_
    split
    · exact wr_steady h
    · exact nv_steady h (fun _ => id)

theorem cqPut_steady {fn q : Nat} {c : NvmeCqe} (h : Steady d₀ d) : Steady d₀ (d.cqPut fn q c) := by
  unfold Chip.cqPut
  extract_lets _ _
  split
  · exact h
  · extract_lets d1 _ d2
    have hd1 : Steady d₀ d1 := prpWrite_steady h
    have hd2 : Steady d₀ d2 := setCtl_steady hd1
    refine steady_ite (setCtl_steady h) ?_
    split
    · exact sendVector_steady hd2
    · exact hd2

theorem cqFlush_steady {fn q : Nat} (h : Steady d₀ d) : Steady d₀ (d.cqFlush fn q) := by
  unfold Chip.cqFlush
  split
  · exact h
  · extract_lets d1
    have hd1 : Steady d₀ d1 := updCtl_steady h
    exact steady_foldl (fun _ _ h1 => cqPut_steady h1) hd1

theorem nvPost_steady {fn sq cid status dw0 seq : Nat} (h : Steady d₀ d) : Steady d₀ (d.nvPost fn sq cid status dw0 seq) := by
  unfold Chip.nvPost
  split
  · exact h
  · exact cqPut_steady h

theorem syncLocks_steady (h : Steady d₀ d) : Steady d₀ (d.syncLocks) := sr_steady (sr_steady h)

/-- A command of an item that had not ended starts. -/
theorem nvStart_steady {seq : Nat} {x : NvmeCmd} {n : NvmeNs} (h : Steady d₀ d) (hseq : seq ∈ d.nvs.cmds.map Prod.fst)
    (hopen : ∀ i, d₀.item seq = some i → i.state.ended = false) : Steady d₀ (d.nvStart seq x n) := by
  unfold Chip.nvStart
  extract_lets len ps fin e a
  have hfin : ∀ e code, Steady d₀ e → Steady d₀ (fin e code) := fun _ _ h1 => updOpenItem_steady h1 hopen fun _ => rfl
  clear_value fin
  have he : Steady d₀ e := nv_steady h fun q hq => by
    obtain ⟨k, hk, rfl⟩ := List.mem_map.mp hq
    rcases mem_tput hk with rfl | hk
    · exact hseq
    · exact List.mem_map_of_mem hk
  clear_value e
  have running := updOpenItem_steady (f := fun i => { i with state := .running }) he hopen fun _ => rfl
  refine steady_ite (hfin _ _ he) (steady_ite (steady_ite (issueRead_steady running) running) (steady_ite (withdraw_steady he) ?_))
  split
  · refine hfin _ _ (count_steady (steady_ite (prpWrite_steady (noteRead_steady he)) ?_))
    exact steady_foldl (fun _ _ h1 => steady_ite h1 (prpWrite_steady h1)) (noteRead_steady he)
  · exact hfin _ _ (count_steady (writeRange_steady (steady_ite (issueRead_steady he) he)))
  · exact hfin _ _ (wr_steady he)

theorem nvOut_steady {seq : Nat} {c : NvmeCmd} {n : NvmeNs} (h : Steady d₀ d) : Steady d₀ (d.nvOut seq c n) := by
  unfold Chip.nvOut
  extract_lets _ _
  exact steady_ite h (steady_ite (steady_ite h (updItem_steady (count_steady (prpWrite_steady h)) (fun _ => ⟨rfl, fun _ => rfl⟩)))
    (steady_ite h (nv_steady h (fun _ => id))))

theorem nvOutAll_steady (h : Steady d₀ d) : Steady d₀ (d.nvOutAll) := by
  unfold Chip.nvOutAll
  refine steady_foldl ?_ h
  intro d1 x h1
  split
  · exact h1
  · split
    · exact h1
    · exact nvOut_steady h1

theorem nvCqs_steady (h : Steady d₀ d) :
    Steady d₀ (d.nvCqs) := steady_foldl (fun _ _ h1 => steady_foldl (fun _ _ h2 => steady_ite h2 (cqFlush_steady h2)) h1) h

theorem nvDrop_steady (h : Steady d₀ d) : Steady d₀ (d.nvDrop) := by
  unfold Chip.nvDrop
  exact nv_steady h fun _ hq => (List.filter_sublist.map Prod.fst).subset hq

theorem nvDeleted_steady {fn q : Nat} (h : Steady d₀ d) : Steady d₀ (d.nvDeleted fn q) := by
  unfold Chip.nvDeleted
  extract_lets _ _ d1
  have hd1 : Steady d₀ d1 := setCtl_steady h
  split
  · exact h
  · split
    · exact h
    · extract_lets _ d2
      have hd2 : Steady d₀ d2 := sr_steady (sr_steady (sr_steady hd1))
      exact steady_ite h (nvPost_steady hd2)

theorem nvReset_steady {fn : Nat} (h : Steady d₀ d) : Steady d₀ (d.nvReset fn) := by
  unfold Chip.nvReset
  extract_lets _ _ _ d1 d2
  have hd1 : Steady d₀ d1 := steady_ite h.elsewhere (sr_steady (wr_steady h))
  have hd2 : Steady d₀ d2 := steady_foldl (fun _ _ h1 => sr_steady (sr_steady (sr_steady h1))) hd1
  exact steady_ite h (setCtl_steady hd2)

/-! ### Checkpoint, restore and elasticity (chapter 16) -/

theorem ck_steady {f : CkpUnit → CkpUnit} (h : Steady d₀ d) : Steady d₀ (d.ck f) := h.elsewhere

theorem setCkpRun_steady {j : Nat} {r : CkpRun} (h : Steady d₀ d) : Steady d₀ (d.setCkpRun j r) := ck_steady h

theorem ckpAbandon_steady {j reason : Nat} (h : Steady d₀ d) : Steady d₀ (d.ckpAbandon j reason) := by
  unfold Chip.ckpAbandon
  split
  · exact h
  · exact withdraw_steady h

theorem ckpReturn_steady {j : Nat} (h : Steady d₀ d) : Steady d₀ (d.ckpReturn j) := by
  unfold Chip.ckpReturn
  split
  · exact h
  · split
    · exact h
    · refine steady_ite (ckpAbandon_steady h) (setCkpRun_steady (updItem_steady (ckpRelease_steady h) fun i => ?_))
      split
      · exact backToAccepted_kept i
      · exact ⟨rfl, fun _ => rfl⟩

theorem ckpFence_steady (h : Steady d₀ d) : Steady d₀ (d.ckpFence) := steady_foldl (fun _ _ h1 => ckpReturn_steady h1) h

/-! ### Packet parsing, classification and traffic scheduling (chapter 12) -/

theorem pk_steady {f : PktUnit → PktUnit} (h : Steady d₀ d) : Steady d₀ (d.pk f) := h.elsewhere

theorem setEm_steady {k : Nat} {c : EmCopy} (h : Steady d₀ d) : Steady d₀ (d.setEm k c) := by
  unfold Chip.setEm
  extract_lets _ _ _ d1 d2
  have hd1 : Steady d₀ d1 := steady_foldl (fun _ _ h1 => wr_steady h1) h
  have hd2 : Steady d₀ d2 := steady_foldl (fun _ _ h1 => wr_steady h1) hd1
  exact pk_steady hd2

theorem rebCopy_steady {seq seed0 seed1 : Nat} (h : Steady d₀ d) : Steady d₀ (d.rebCopy seq seed0 seed1) := sr_steady (pk_steady (setEm_steady h))

/-! ### The commands of the memory chapter -/

theorem abandonPage_steady {counted : Bool} (h : Steady d₀ d) : Steady d₀ (d.abandonPage counted) := by
  unfold Chip.abandonPage
  split
  · exact h
  · extract_lets d1 _ d2 _ d3
    have hd1 : Steady d₀ d1 := freeUnits_steady h
    have hd2 : Steady d₀ d2 := steady_ite (setPte_steady hd1) hd1
    have hd3 : Steady d₀ d3 := hd2.elsewhere
    exact steady_ite (count_steady hd3) hd3

end

end Sys2Proof.Machine
end

section
/-! What lasts through an acceptance, through what the NVMe front end begins, and through an item's end (R24, R33, R34). -/
namespace Sys2Proof.Machine
open Sys2Proof

theorem Lasting.then {c d e : Chip} (h : Lasting c d) (k : Steady d e) : Lasting c e := h.trans k.toLasting

theorem lasting_ite {c a b : Chip} {q : Prop} [Decidable q] (h : Lasting c a) (k : Lasting c b) : Lasting c (if q then a else b) := by
  split <;> assumption

theorem lasting_foldl {α : Type} {c d : Chip} {f : Chip → α → Chip} {l : List α} (hf : ∀ d x, Lasting c d → Lasting c (f d x))
    (h : Lasting c d) : Lasting c (l.foldl f d) := by
  induction l generalizing d with
  | nil => exact h
  | cons x l ih => exact ih (hf d x h)

/-! ### Acceptance -/

/-- The items after an acceptance: those there were, and the new one with the next number. -/
theorem accept_items (d : Chip) (a : Arising) (st : ItemState) :
    ∃ i, (d.accept a st).led.items = d.led.items ++ [i] ∧ i.state = st ∧
      i.ident = ⟨d.led.nextSeq, lowestSlot d.led.items, a.kind, a.domain, a.tag, a.origin⟩ :=
  ⟨_, congrArg Ledger.items (syncFree_frame _ .led (by decide)), rfl, rfl⟩

theorem accept_nextSeq (d : Chip) (a : Arising) (st : ItemState) : (d.accept a st).led.nextSeq = d.led.nextSeq + 1 :=
  congrArg Ledger.nextSeq (syncFree_frame _ .led (by decide))

theorem accept_arising (d : Chip) (a : Arising) (st : ItemState) : (d.accept a st).led.arising = d.led.arising :=
  (congrArg Ledger.arising (syncFree_frame _ .led (by decide))).trans rfl

/-- A change of the ledger alone. -/
theorem frame_led (d : Chip) (l : Ledger) : Frame [.led] d { d with led := l } := by
  intro p hp
  cases p with
  | led => exact absurd (List.mem_singleton_self _) hp
  | _ => rfl

theorem accept_frame (d : Chip) (a : Arising) (st : ItemState) : Frame [.led, .regs, .attnServed] d (d.accept a st) :=
  ((frame_led d _).mono (by decide)).trans ((syncFree_frame _).mono (by decide))

theorem accept_ids (d : Chip) (a : Arising) (st : ItemState) :
    (d.accept a st).ids = d.ids ++ [⟨d.led.nextSeq, lowestSlot d.led.items, a.kind, a.domain, a.tag, a.origin⟩] := by
  obtain ⟨i, hitems, -, hident⟩ := accept_items d a st
  simp only [Chip.ids, hitems, List.map_append, List.map_cons, List.map_nil, hident]

theorem accept_lasting {a : Arising} {st : ItemState} {c d : Chip} (h : Lasting c d) : Lasting c (d.accept a st) := by
  obtain ⟨i, hitems, -, -⟩ := accept_items d a st
  have agents : (d.accept a st).agents = d.agents := accept_frame d a st .agents (by decide)
  have nvs : (d.accept a st).nvs = d.nvs := accept_frame d a st .nvs (by decide)
  refine ⟨fun q j hj he => ?_, fun b hb => ?_, nvs ▸ h.cmds⟩
  · obtain ⟨k, hk, hst⟩ := h.ended q j hj he
    refine ⟨k, ?_, hst⟩
    rw [Chip.item] at hk
    rw [Chip.item, hitems, List.find?_append, hk, Option.some_or]
  · simpa only [Chip.agentSt, Chip.agentRec, agents] using h.fenced b hb

theorem acceptCmd_lasting {src : Submit} {kind : ItemKind} {body : Desc} {dom : Domain} {owner : Nat} {st : ItemState} {c d : Chip}
    (h : Lasting c d) : Lasting c (d.acceptCmd src kind body dom owner st) :=
  (accept_lasting h).then (taken_steady (.refl _))

/-- A command accepted is one item, with the next sequence number, beside those that were there. -/
theorem acceptCmd_accepted (d : Chip) (src : Submit) (kind : ItemKind) (body : Desc) (dom : Domain) (owner : Nat) (st : ItemState) :
    Accepted d (d.acceptCmd src kind body dom owner st) src kind dom := by
  have taken := taken_steady (o := src.origin) (.refl (d.accept ⟨dom, src.tag.toNat, d.originPlan src.origin, src.origin, d.originFn src.origin, owner,
    kind, body, none⟩ st))
  exact ⟨taken.nextSeq.trans (accept_nextSeq d _ st), taken.ids.trans (accept_ids d _ st)⟩

/-! ### What an ended item lets the NVMe front end begin -/

theorem fwActivate_lasting {src : Submit} {slot mode : Nat} {c d : Chip} (h : Lasting c d) : Lasting c (fwActivate d src slot mode) := by
  unfold fwActivate
  refine lasting_ite (h.then (refuse_steady (.refl _))) (lasting_ite (h.then (refuse_steady (.refl _))) (lasting_ite (h.then (refuse_steady (.refl _)))
    (lasting_ite (h.then (refuse_steady (.refl _))) ?_)))
  exact (acceptCmd_lasting h).then (activateGo_steady (Steady.refl _).elsewhere)

theorem nvDue_lasting {act : Chip → Submit → Nat → Nat → Chip} {c d : Chip} (hact : ∀ e src slot mode, Lasting c e → Lasting c (act e src slot mode))
    (h : Lasting c d) : Lasting c (d.nvDue act) := by
  unfold Chip.nvDue
  refine lasting_foldl (fun e x h1 => ?_) (h.then (nv_steady (.refl _) fun _ => id))
  refine lasting_ite (lasting_ite h1 (h1.then (setCtl_steady (.refl _)))) ?_
  have counted := h1.then (count_steady (f := Reg.NVS_COUNT.COUNT 5) (n := 1) (.refl _))
  split
  · refine lasting_ite (hact _ _ _ _ (Lasting.then ?_ (setCtl_steady (.refl _)))) (Lasting.then ?_ (nvPost_steady (setCtl_steady (.refl _))))
    all_goals exact lasting_ite h1 counted
  · exact (lasting_ite h1 counted).then (nvPost_steady (.refl _))

theorem mem_keys_of_tget {α : Type} {t : Tbl α} {n : Nat} {x : α} (h : tget t n = some x) : n ∈ t.map Prod.fst := by
  induction t with
  | nil => simp [tget] at h
  | cons p t ih =>
    rw [tget] at h
    split at h
    · next e => exact List.mem_map.mpr ⟨p, List.mem_cons_self, e⟩
    · exact List.mem_cons_of_mem _ (ih h)

/-- Every command of the NVMe front end is of an item that has not ended. -/
def OpenCmds (c : Chip) : Prop := ∀ q ∈ c.nvs.cmds.map Prod.fst, ∀ i, c.item q = some i → i.state.ended = false

theorem nvDrop_openCmds (d : Chip) : OpenCmds d.nvDrop := by
  intro q hq i hi
  obtain ⟨x, hx, rfl⟩ := List.mem_map.mp hq
  have live := (List.mem_filter.mp hx).2
  have hi' : d.item x.1 = some i := hi
  simpa [hi'] using live

theorem nvStartAll_steady {c d : Chip} (h : Steady c d) (ho : OpenCmds c) : Steady c d.nvStartAll := by
  refine steady_ite h (steady_foldl (fun e seq h1 => ?_) h)
  split
  · exact h1
  · next x hx =>
    have mem : seq ∈ e.nvs.cmds.map Prod.fst := mem_keys_of_tget hx
    split
    · exact h1
    · exact steady_ite h1 (nvStart_steady h1 mem (ho seq (h1.cmds seq mem)))

theorem nvmeGo_lasting {c d : Chip} (h : Lasting c d) : Lasting c d.nvmeGo := by
  unfold Chip.nvmeGo
  extract_lets e1 e2 e3
  have he1 : Lasting c e1 := nvDue_lasting (fun _ _ _ _ => fwActivate_lasting) (nvDue_lasting (fun _ _ _ _ => fwActivate_lasting) h)
  have he3 : Steady e1.nvDrop e3 :=
    steady_foldl (fun _ _ h1 => nvReset_steady (steady_foldl (fun _ _ h2 => nvDeleted_steady h2) h1)) (nvCqs_steady (.refl _))
  refine (he1.then (nvDrop_steady (.refl _))).then ?_
  exact syncLocks_steady (nvDrop_steady (nvOutAll_steady (nvStartAll_steady he3 (nvDrop_openCmds _))))

/-! ### The end of an item -/

/-- An item has reached an end state. -/
def EndedAs (d : Chip) (q : Nat) (st : ItemState) : Prop := ∃ i, d.item q = some i ∧ i.state = st

theorem EndedAs.after {c d : Chip} {q : Nat} {st : ItemState} (h : EndedAs c q st) (hst : st.ended = true) (k : Lasting c d) : EndedAs d q st := by
  obtain ⟨i, hi, rfl⟩ := h
  exact k.ended q i hi hst

theorem seq_of_item {d : Chip} {q : Nat} {i : Item} (h : d.item q = some i) : i.seq = q := by
  simpa using List.find?_some h

theorem updItem_item {d : Chip} {q : Nat} {f : Item → Item} {i : Item} (hi : d.item q = some i) (hf : ∀ i, (f i).seq = i.seq) :
    (d.updItem q f).item q = some (f i) := by
  rw [Chip.updItem, item_mapItems, hi, Option.map_some, if_pos (seq_of_item hi)]
  intro j
  split
  · exact hf j
  · rfl

theorem endOne_ends {d : Chip} {i : Item} {st : ItemState} {code lo hi : Nat} {due : Bool} (h : d.item i.seq = some i) (hst : st.ended = true) :
    EndedAs (d.endOne i st code lo hi due) i.seq st := by
  unfold Chip.endOne
  split
  extract_lets e1 e2 e3
  have he1 : EndedAs e1 i.seq st := ⟨_, updItem_item h fun _ => rfl, rfl⟩
  have he3 : Steady e1 e3 := onEnd_steady (steady_ite (replyDue_steady (.refl _)) (.refl _))
  exact he1.after hst (steady_ite (dropPlanCmd_steady he3) he3).toLasting

/-- An item that has not ended reaches the end state it is given, where the ledger is not lost and lets it. -/
theorem endItem_ends {d : Chip} {q : Nat} {st : ItemState} {code lo hi : Nat} {due : Bool} {i : Item} (h : d.item q = some i)
    (ho : i.state.ended = false) (hl : d.led.lost = false) (hst : st.ended = true) (hc : st = .committed → d.commits = true) :
    EndedAs (d.endItem q st code lo hi due) q st := by
  obtain rfl := seq_of_item h
  have free : ¬(i.state.ended = true ∨ d.led.lost = true) := by simp [ho, hl]
  have may : ¬(st = .committed ∧ (!d.commits) = true) := fun ⟨e, n⟩ => by simp [hc e] at n
  simp only [Chip.endItem, h, if_neg free, if_neg may]
  have after (e : Chip) : Steady e e.drainSvcs.drainConns.release.drainPlans.drainSlots :=
    drainSlots_steady (drainPlans_steady (release_steady (drainConns_steady (drainSvcs_steady (.refl e)))))
  exact (endOne_ends h hst).after hst (after _).toLasting

theorem canWithdraw_of_item {d : Chip} {q : Nat} {i : Item} (h : d.item q = some i) :
    d.canWithdraw q = (!i.state.ended && i.crec ≠ .taken) := by
  simp [Chip.canWithdraw, h]

theorem withdraw_of_not {d : Chip} {q : Nat} (h : d.canWithdraw q = false) (code lo hi : Nat) : d.withdraw q code lo hi = d := by
  simp [Chip.withdraw, h]

theorem withdraw_ends {d : Chip} {q code : Nat} (h : d.canWithdraw q = true) (hl : d.led.lost = false) :
    EndedAs (d.withdraw q code) q .withdrawn := by
  rw [Chip.withdraw, if_pos h]
  cases hi : d.item q with
  | none => simp [Chip.canWithdraw, hi] at h
  | some i =>
    rw [canWithdraw_of_item hi] at h
    exact endItem_ends hi (by simpa using (Bool.and_eq_true_iff.mp h).1) hl rfl nofun

/-- An item of an Armature core lets no transfer and no connection begin. -/
theorem engineGo_armature {i : Item} {n : Nat} (d : Chip) (h : i.kind = .armature n) : d.engineGo i = d.nvmeGo := by
  simp [Chip.engineGo, h]

/-- A CANCEL of an item that cannot be withdrawn withdraws nothing. -/
theorem cancelTry_steady {c d : Chip} {q target : Nat} (h : Steady c d) (hn : d.canWithdraw target = false) : Steady c (d.cancelTry q target) := by
  unfold Chip.cancelTry
  split
  · exact finish_steady h
  · rw [if_neg (by simp [hn])]
    exact steady_ite (finish_steady h) h

theorem EndedAs.canWithdraw {d : Chip} {q : Nat} {st : ItemState} (h : EndedAs d q st) (hst : st.ended = true) : d.canWithdraw q = false := by
  obtain ⟨i, hi, rfl⟩ := h
  simp [canWithdraw_of_item hi, hst]

/-- The CANCELs that waited leave an ended item's end. -/
theorem cancelsGo_endedAs {d : Chip} {q : Nat} {st : ItemState} (h : EndedAs d q st) (hst : st.ended = true) : EndedAs (d.cancelsGo q) q st := by
  unfold Chip.cancelsGo
  generalize d.led.items.filter _ = waiting
  induction waiting generalizing d with
  | nil => exact h
  | cons x l ih => exact ih (h.after hst (cancelTry_steady (.refl _) (h.canWithdraw hst)).toLasting)

/-! ### Submission -/

theorem submit_of_takenUp {d : Chip} {src : Submit} {b : Block} {v : Bool} {kind : Nat} (h : TakenUp d src b v kind) (k : Chip → Chip) :
    d.submit src b v k kind = k (d.dropHand src.origin) := by
  obtain ⟨hand, ring, runs, fencing, admits, may⟩ := h
  unfold Chip.submit
  simp only [hand, ring, runs, fencing, admits]
  cases ho : src.origin with
  | ring r =>
    rw [ho] at may
    rcases may with hv | hv
    · simp [hv]
    · have same : isVF ((d.dropHand (.ring r)).ringFn r) = isVF (d.ringFn r) := rfl
      simp [same, hv]
  | _ => simp

end Sys2Proof.Machine
end

section
/-! Obligation O5: acceptance, commit records, withdrawal and CANCEL (R24, R27, R30, R33 to R35, R41). -/
namespace Sys2Proof.Machine
open Sys2Proof


theorem dropHand_led (d : Chip) (o : Origin) : (d.dropHand o).led = d.led := by
  cases o <;> rfl

theorem dropHand_originFn (d : Chip) (o p : Origin) : (d.dropHand o).originFn p = d.originFn p := by
  cases o <;> cases p <;> rfl

theorem dropHand_originDomain (d : Chip) (o p : Origin) : (d.dropHand o).originDomain p = d.originDomain p := by
  cases o <;> cases p <;> rfl

theorem refuse_led (d : Chip) (src : Submit) (code lo hi : Nat) : (d.refuse src code lo hi).led = d.led := by
  unfold Chip.refuse
  split
  · exact count_frame _ _ _ .led (by decide)
  all_goals rfl

/-! ### The ledger unit's commands -/

section
variable {s : State}

/-- The chip once the item that has waited longest is taken up. -/
def Chip.withoutArising (d : Chip) (a : Arising) : Chip := { d with led := { d.led with arising := d.led.arising.erase a } }

theorem itemAccepted_step {d : Chip} {a : Arising} {slot logical : Nat} (ha : d.nextArising = some a) (ht : d.takesItems = true)
    (hz : a.frieze = some (slot, logical)) : itemAccepted d = ((d.withoutArising a).stepItem a slot logical).drainPlans := by
  simp only [itemAccepted, ha, ht, hz, Bool.not_true, Bool.false_eq_true, if_false]
  rfl

theorem itemAccepted_own {d : Chip} {a : Arising} (ha : d.nextArising = some a) (ht : d.takesItems = true) (hz : a.frieze = none) :
    itemAccepted d = ((d.withoutArising a).accept a).started ((d.withoutArising a).accept a).lastSeq a.kind := by
  simp only [itemAccepted, ha, ht, hz, Bool.not_true, Bool.false_eq_true, if_false]
  rfl

/-- An item that starts nothing on its acceptance. -/
theorem started_of_plain {d : Chip} {seq : Nat} {k : ItemKind} (hq : ∀ n e, k ≠ .query n e) (hf : ∀ c n, k ≠ .firing c n) : d.started seq k = d := by
  cases k with
  | query n e => exact absurd rfl (hq n e)
  | firing c n => exact absurd rfl (hf c n)
  | _ => rfl

/-- Acceptance of an item of the device itself on which no unit starts (R24, R27, R30). -/
theorem itemAccepted_plain {a : Arising} (ha : s.chip.nextArising = some a) (hz : a.frieze = none) (ht : s.chip.takesItems = true)
    (hq : ∀ n e, a.kind ≠ .query n e) (hf : ∀ k n, a.kind ≠ .firing k n) : Completes .itemAccepted s (fun d =>
      d.led.arising = s.chip.led.arising.erase a ∧ d.led.nextSeq = s.chip.led.nextSeq + 1 ∧
      d.ids = s.chip.ids ++ [⟨s.chip.led.nextSeq, lowestSlot s.chip.led.items, a.kind, a.domain, a.tag, a.origin⟩] ∧
      (∀ i ∈ d.led.items, i.seq = s.chip.led.nextSeq → i ∉ s.chip.led.items → i.state = .accepted)) := by
  rw [completes_iff_of_on (f := itemAccepted) rfl, itemAccepted_own ha ht hz, started_of_plain hq hf]
  obtain ⟨x, hitems, hst, -⟩ := accept_items (s.chip.withoutArising a) a .accepted
  refine ⟨accept_arising _ a _, accept_nextSeq _ a _, accept_ids _ a _, fun i hi _ hnew => ?_⟩
  rw [hitems, List.mem_append] at hi
  rcases hi with hi | hi
  · exact absurd hi hnew
  · exact (List.mem_singleton.mp hi) ▸ hst

/-- An issued commit record is taken, or held while a predecessor has not ended (R32, R41). -/
theorem commitRecordTaken_issued {i : Item} (hc : s.chip.commits = true) (hi : s.chip.item i.seq = some i) (hr : i.crec = .issued) :
    Completes (.commitRecordTaken i.seq) s (fun d =>
      d.item i.seq = some { i with crec := if predsEnded s.chip.led.items i then .taken else .held } ∧
      d.led.items.length = s.chip.led.items.length ∧ Frame [.led] s.chip d) := by
  rw [completes_iff_of_on (f := fun d => if d.commits then d.takeCommit i.seq else d) rfl]
  simp only [if_pos hc, Chip.takeCommit]
  refine ⟨?_, List.length_map .., frame_led _ _⟩
  rw [updItem_item hi]
  · rw [if_pos (.inl hr)]
  · intro j
    split
    · rfl
    · rfl

theorem commitPoint_of_taken {d : Chip} {i : Item} (hc : d.commits = true) (hi : d.item i.seq = some i) (hr : i.crec = .taken)
    (ho : i.state.ended = false) (hg : d.commitGate i = true) (hk : i.kind ≠ .general 0x0503) :
    commitPoint d i.seq = ((((d.commitEffect i).endItem i.seq .committed i.reply.code i.reply.lo (d.commitHi i)
      (!(i.kind = .work && i.redoRec.isSome))).countWork i).engineGo i).cancelsGo i.seq := by
  rw [commitPoint, hi]
  simp only [hc, hr, ho, hg, if_neg hk, ne_eq, not_true_eq_false, Bool.not_true, Bool.false_eq_true, or_self, if_false]

theorem commits_led {d : Chip} (h : d.commits = true) : d.led.lost = false := by
  simp only [Chip.commits, Bool.and_eq_true, Bool.not_eq_true'] at h
  exact h.1.1

/-- The commit point of an item of an Armature core, which has no effect of its own. -/
theorem commitPoint_armature {i : Item} {n : Nat} (hc : s.chip.commits = true) (hi : s.chip.item i.seq = some i) (hr : i.crec = .taken)
    (ho : i.state.ended = false) (hk : i.kind = .armature n) : EndedAs (commitPoint s.chip i.seq) i.seq .committed := by
  have gate : s.chip.commitGate i = true := by simp only [Chip.commitGate, hk]
  have effect : s.chip.commitEffect i = s.chip := by simp only [Chip.commitEffect, hk]
  have noWork (d : Chip) : d.countWork i = d := by simp [Chip.countWork, hk]
  rw [commitPoint_of_taken hc hi hr ho gate (by simp [hk]), effect, noWork, engineGo_armature _ hk]
  exact cancelsGo_endedAs ((endItem_ends hi ho (commits_led hc) rfl fun _ => hc).after rfl (nvmeGo_lasting (.refl _))) rfl

/-- What WITHDRAWAL_APPLIED does to the chip. -/
def withdrawalApplied (seq code : Nat) (d : Chip) : Chip :=
  match d.item seq with
  | none => d
  | some i => if withdrawCode code then (d.withdraw seq code).engineGo i else d

theorem exec_withdrawalApplied (seq code : Nat) : exec (.withdrawalApplied seq code) s = s.on (withdrawalApplied seq code) := by
  show execWithdrawalApplied seq code s = _
  unfold execWithdrawalApplied withdrawalApplied
  rfl

theorem withdrawalApplied_of_item {i : Item} {code : Nat} (hi : s.chip.item i.seq = some i) (hw : withdrawCode code = true) (P : Chip → Prop) :
    Completes (.withdrawalApplied i.seq code) s P ↔ P ((s.chip.withdraw i.seq code).engineGo i) := by
  rw [completes_iff_of_on (exec_withdrawalApplied _ _), withdrawalApplied, hi]
  simp only [if_pos hw]

theorem withdrawalApplied_of_other {d : Chip} {seq code : Nat} (hw : withdrawCode code = false) : withdrawalApplied seq code d = d := by
  unfold withdrawalApplied
  split
  · rfl
  · simp [hw]

/-- A withdrawal of an item of an Armature core that can be withdrawn. -/
theorem withdrawEngine_armature {d : Chip} {i : Item} {n q code : Nat} (hc : d.canWithdraw q = true) (hl : d.led.lost = false)
    (hk : i.kind = .armature n) : EndedAs ((d.withdraw q code).engineGo i) q .withdrawn := by
  rw [engineGo_armature _ hk]
  exact (withdraw_ends hc hl).after rfl (nvmeGo_lasting (.refl _))

/-! ### CANCEL (R35) -/

theorem acceptCmd_item {d : Chip} {src : Submit} {kind : ItemKind} {body : Desc} {dom : Domain} {owner : Nat} {st : ItemState} {q : Nat}
    (hq : q ≠ d.led.nextSeq) : (d.acceptCmd src kind body dom owner st).item q = d.item q := by
  obtain ⟨x, hitems, -, hid⟩ := accept_items d
    ⟨dom, src.tag.toNat, d.originPlan src.origin, src.origin, d.originFn src.origin, owner, kind, body, none⟩ st
  have items : (d.acceptCmd src kind body dom owner st).led.items = d.led.items ++ [x] := (taken_keeps _ _).2.1.trans hitems
  have other : x.seq ≠ q := fun e => hq (e.symm.trans (congrArg Ident.seq hid))
  rw [Chip.item, items, List.find?_append, Chip.item]
  simp [other]

/-- The CANCEL of a target that is its function's and has been issued. -/
def cancelOf (d : Chip) (src : Submit) (target : Nat) : Chip :=
  let b := (d.dropHand src.origin).acceptCmd src (.general 0x0901) (genBody 0x0901 src [target]) (d.originDomain src.origin)
  b.cancelTry b.lastSeq target

theorem completes_cancel {src : Submit} {target : Nat} (h : TakenUp s.chip src .hif true 0) (P : Chip → Prop) :
    Completes (.cancel src target) s P ↔ P (cancel (s.chip.dropHand src.origin) src (target % 2 ^ 64)) := by
  rw [completes_iff_of_on (f := fun d => d.submit src .hif true fun d => cancel d src (target % 2 ^ 64)) rfl, submit_of_takenUp h]

theorem item_of_led {c d : Chip} (h : d.led = c.led) (q : Nat) : d.item q = c.item q := by
  rw [Chip.item, h, Chip.item]

/-- Whether CANCEL is refused (R35): its target was never issued, or is another function's. -/
def CancelBad (d : Chip) (src : Submit) (target : Nat) : Prop :=
  target = 0 ∨ d.led.nextSeq ≤ target ∨ ∃ i, d.item target = some i ∧ i.fn ≠ d.originFn src.origin

theorem cancel_guard {d : Chip} {src : Submit} {target : Nat} :
    (target = 0 ∨ target ≥ (d.dropHand src.origin).led.nextSeq ∨
      ((d.dropHand src.origin).item target).any (fun i => decide (i.fn ≠ (d.dropHand src.origin).originFn src.origin)) = true) ↔
    CancelBad d src target := by
  rw [dropHand_originFn, item_of_led (dropHand_led d src.origin), dropHand_led, CancelBad]
  simp [Option.any_eq_true]

theorem cancel_bad {d : Chip} {src : Submit} {target : Nat} (h : CancelBad d src target) :
    (cancel (d.dropHand src.origin) src target).led = d.led := by
  rw [cancel, if_pos (cancel_guard.mpr h), refuse_led, dropHand_led]

theorem cancel_good {d : Chip} {src : Submit} {target : Nat} (h : ¬ CancelBad d src target) :
    cancel (d.dropHand src.origin) src target = cancelOf d src target := by
  rw [cancel, if_neg (mt cancel_guard.mp h), dropHand_originDomain]
  rfl

theorem not_cancelBad {d : Chip} {src : Submit} {target : Nat} (h0 : 0 < target) (h1 : target < d.led.nextSeq)
    (hf : ∀ i, d.item target = some i → i.fn = d.originFn src.origin) : ¬ CancelBad d src target := by
  rintro (rfl | h | ⟨i, hi, hn⟩)
  · exact absurd h0 (lt_irrefl _)
  · exact absurd h1 (not_lt.mpr h)
  · exact hn (hf i hi)

/-- A CANCEL whose target cannot be withdrawn is one item more, and no other. -/
theorem cancelOf_accepted {d : Chip} {src : Submit} {target : Nat} (h1 : target < d.led.nextSeq) (hn : d.canWithdraw target = false) :
    Accepted d (cancelOf d src target) src (.general 0x0901) (d.originDomain src.origin) := by
  unfold cancelOf
  extract_lets b
  have led := dropHand_led d src.origin
  have accepted : Accepted (d.dropHand src.origin) b src (.general 0x0901) (d.originDomain src.origin) := acceptCmd_accepted _ _ _ _ _ _ _
  have same : b.item target = d.item target := (acceptCmd_item (led ▸ h1.ne)).trans (item_of_led led target)
  have stay := cancelTry_steady (q := b.lastSeq) (.refl b) (show b.canWithdraw target = false by rwa [Chip.canWithdraw, same])
  have ids : (d.dropHand src.origin).ids = d.ids := congrArg (fun l : Ledger => l.items.map Item.ident) led
  rw [Accepted, ids, led] at accepted
  exact ⟨stay.nextSeq.trans accepted.1, stay.ids.trans accepted.2⟩

theorem cancelTry_armature {d : Chip} {q target n : Nat} {i : Item} (hi : d.item target = some i) (hc : d.canWithdraw target = true)
    (hk : i.kind = .armature n) (hl : d.led.lost = false) : EndedAs (d.cancelTry q target) target .withdrawn := by
  have whole : d.cancelItem i = (d.withdraw i.seq Code.WITHDRAWN).engineGo i := by simp only [Chip.cancelItem, hk]
  rw [Chip.cancelTry, hi]
  simp only [if_pos hc, whole, seq_of_item hi]
  exact (withdrawEngine_armature hc hl hk).after rfl (finish_steady (.refl _)).toLasting

end

/-- Settles O5: what an item's acceptance, the taking of its commit record, its withdrawal and a CANCEL of it do to the ledger. -/
theorem ledgerAcceptance : Obligations.LedgerAcceptance := by
  refine ⟨fun s a ha hz ht hq hf => itemAccepted_plain ha hz ht hq hf, fun s a ha ht => ?_, fun s i hc hi hr => commitRecordTaken_issued hc hi hr,
    fun s i hc hi hr ho ⟨n, hk⟩ => ?_, fun s i hc hi hr ho hg hk => ?_, fun s i code hi hw => (withdrawalApplied_of_item hi hw _).mpr rfl,
    fun s seq code hn => withdraw_of_not hn code 0 0, fun s seq code _ hw => ?_, fun s i code hi hw ho hr hl ⟨n, hk⟩ => ?_,
    fun s src target ht hbad => (completes_cancel ht _).mpr (cancel_bad hbad), fun s src target ht h0 h1 hf hn => ?_,
    fun s src target ht h0 h1 hf => ?_, fun d q target i hi hc ⟨n, hk⟩ hl _ => cancelTry_armature hi hc hk hl⟩
  · rw [completes_iff_of_on (f := itemAccepted) rfl]
    cases hz : a.frieze with
    | some p => exact itemAccepted_step ha ht hz
    | none => exact itemAccepted_own ha ht hz
  · rw [completes_iff_of_on (f := fun d => commitPoint d i.seq) rfl]
    exact commitPoint_armature hc hi hr ho hk
  · rw [completes_iff_of_on (f := fun d => commitPoint d i.seq) rfl]
    exact commitPoint_of_taken hc hi hr ho hg hk
  · rw [completes_iff_of_on (exec_withdrawalApplied _ _)]
    exact withdrawalApplied_of_other hw
  · rw [withdrawalApplied_of_item hi hw]
    exact withdrawEngine_armature (by simp [canWithdraw_of_item hi, ho, hr]) hl hk
  · rw [completes_cancel ht, cancel_good (not_cancelBad h0 h1 hf)]
    exact cancelOf_accepted h1 hn
  · rw [completes_cancel ht, cancel_good (not_cancelBad h0 h1 hf)]
    rfl

end Sys2Proof.Machine
end

section
/-! Obligation O4: the block agents' common commands (R18, R19). -/
namespace Sys2Proof.Machine
open Sys2Proof


/-! ### The agents' records and states -/

theorem agentRec_setAgentRec_self (d : Chip) (a : Agent) (x : AgentState) : (d.setAgentRec a x).agentRec a = x := by
  rw [agentRec_setAgentRec, if_pos rfl]

/-- A record that leaves an agent's state leaves what the agent reports. -/
theorem agentSt_setAgentRec {d : Chip} {a : Agent} {x : AgentState} (hx : x.st = (d.agentRec a).st) :
    (d.setAgentRec a x).agentSt a = d.agentSt a := by
  cases a with
  | block b =>
    show ((d.setAgentRec (.block b) x).agentRec (.block b)).st = _
    rw [agentRec_setAgentRec_self]
    exact hx
  | _ => rfl

theorem agentRec_setAgentSt_block (d : Chip) (b : Block) (st : BlockState) :
    (d.setAgentSt (.block b) st).agentRec (.block b) = { d.agentRec (.block b) with st := st } := agentRec_setAgentRec_self _ _ _

theorem agentSt_setAgentSt_block (d : Chip) (b : Block) (st : BlockState) : (d.setAgentSt (.block b) st).agentSt (.block b) = st :=
  congrArg AgentState.st (agentRec_setAgentSt_block d b st)

theorem setAgentSt_block_frame (d : Chip) (b : Block) (st : BlockState) : Frame [.agents] d (d.setAgentSt (.block b) st) :=
  setAgentRec_frame d _ _

theorem agentRec_resetAgent_block (d : Chip) (b : Block) :
    (d.resetAgent (.block b)).agentRec (.block b) = ⟨.fenced, false, false, true⟩ := by
  show (((d.setAgentSt (.block b) .fenced).setAgentRec (.block b) _).agentRec (.block b)) = _
  rw [agentRec_setAgentRec_self, agentRec_setAgentSt_block]

theorem agentSt_resetAgent_block (d : Chip) (b : Block) : (d.resetAgent (.block b)).agentSt (.block b) = .fenced :=
  congrArg AgentState.st (agentRec_resetAgent_block d b)

theorem resetAgent_block_frame (d : Chip) (b : Block) : Frame [.agents] d (d.resetAgent (.block b)) :=
  (setAgentSt_block_frame d b .fenced).trans (setAgentRec_frame _ _ _)

theorem agentRec_beginFence (d : Chip) (a : Agent) (r : Bool) :
    (d.beginFence a r).agentRec a =
      { d.agentRec a with fencing := true, resetAfter := r || (d.agentRec a).resetAfter, resetDone := false } :=
  agentRec_setAgentRec_self _ _ _

theorem agentSt_beginFence (d : Chip) (a : Agent) (r : Bool) : (d.beginFence a r).agentSt a = d.agentSt a := agentSt_setAgentRec rfl

/-- What the answered command left of every part but the agents and the answer. -/
theorem frame_answered {c d : Chip} (h : Frame [.agents] c d) (a : Agent) (ok : Bool) : Frame [.agents, .answer] c (d.answered a ok) :=
  (h.mono (by decide)).trans ((answered_frame d a ok).mono (by decide))

theorem agentSt_answered (d : Chip) (a b : Agent) (ok : Bool) : (d.answered a ok).agentSt b = d.agentSt b := by
  cases b <;> rfl

theorem answer_answered {d : Chip} {a : Agent} {st : BlockState} (h : d.agentSt a = st) (ok : Bool) :
    (d.answered a ok).answer = some ⟨a, ok, st, [], []⟩ := h ▸ rfl

/-! ### The end of a fence (R19) -/

/-- A block whose fence has ended, before what its chapter adds. -/
def Chip.blockStopped (d : Chip) (b : Block) : Chip :=
  (d.setAgentRec (.block b) { d.agentRec (.block b) with fencing := false }).setAgentSt (.block b) .fenced

theorem agentSt_blockStopped (d : Chip) (b : Block) : (d.blockStopped b).agentSt (.block b) = .fenced := agentSt_setAgentSt_block _ b _

theorem agentRec_blockStopped (d : Chip) (b : Block) : ((d.blockStopped b).agentRec (.block b)).fencing = false := by
  rw [Chip.blockStopped, agentRec_setAgentSt_block, agentRec_setAgentRec_self]

theorem blockStopped_frame (d : Chip) (b : Block) : Frame [.agents] d (d.blockStopped b) :=
  (setAgentRec_frame d _ _).trans (setAgentSt_block_frame _ b _)

/-- The end of a fence in a block with a group of general commands, or without. -/
theorem fenced_block (d : Chip) (b : Block) :
    d.fenced (.block b) = match opGroup b with
      | some k => ((d.blockStopped b).blockFenced b).opsBack k
      | none => (d.blockStopped b).blockFenced b := by
  cases b <;> rfl

theorem fenceComplete_of {d : Chip} {a : Agent} (hf : (d.agentRec a).fencing = true) :
    fenceComplete d a = if (d.agentRec a).resetAfter then (d.fenced a).resetAgent a else d.fenced a := by
  simp only [fenceComplete, hf, Bool.not_true, Bool.false_eq_true, if_false]

/-- FENCE_COMPLETE with no RESET to follow. -/
theorem completes_fenceComplete {s : State} {a : Agent} (hf : (s.chip.agentRec a).fencing = true) (hr : (s.chip.agentRec a).resetAfter = false)
    (P : Chip → Prop) : Completes (.fenceComplete a) s P ↔ P (s.chip.fenced a) := by
  rw [completes_iff_of_on (f := fun d => fenceComplete d a) rfl, fenceComplete_of hf, hr]
  rfl

/-- The end of a fence in a block without items and general commands of its own. -/
theorem fenced_own {b : Block} (hb : b ∈ [Block.glb, .flt, .pcr, .lnk, .obs, .pat]) (d : Chip) : d.fenced (.block b) = d.blockStopped b := by
  cases b with
  | glb | flt | pcr | lnk | obs | pat => rfl
  | _ => exact absurd hb (by decide)

/-- The end of a fence in a block whose only items are general commands. -/
theorem fenced_ops {b : Block} {k : Nat} (hb : (b, k) ∈ [(Block.tck, 1), (.hif, 9)]) (d : Chip) :
    d.fenced (.block b) = (d.blockStopped b).opsBack k := by
  simp only [List.mem_cons, List.not_mem_nil, or_false, Prod.mk.injEq] at hb
  rcases hb with ⟨rfl, rfl⟩ | ⟨rfl, rfl⟩ <;> rfl

theorem opsBack_items (d : Chip) (k : Nat) : (d.opsBack k).led.items = d.led.items.map (fun i =>
    if (match i.kind with | .general op => op / 256 == k | _ => false) && !i.state.ended && decide (i.crec = .none) then
      { i with state := .accepted, replayed := true } else i) := by
  refine List.map_congr_left fun i _ => ?_
  cases i.kind with
  | general op => simp [and_assoc]
  | _ => rfl

theorem opsBack_frame (d : Chip) (k : Nat) : Frame [.led] d (d.opsBack k) := frame_led d _

theorem opsBack_agentSt (d : Chip) (k : Nat) (a : Agent) : (d.opsBack k).agentSt a = d.agentSt a := by
  cases a <;> rfl

/-- What the end of a rebuild lets begin leaves a fenced block FENCED. -/
theorem rebNext_fenced {d : Chip} {b : Block} (h : d.agentSt (.block b) = .fenced) : d.rebNext.agentSt (.block b) = .fenced := by
  unfold Chip.rebNext
  split
  · exact h
  · split
    · exact h
    · exact (rebCopy_steady (.refl _)).fenced b h

theorem pktFence_fenced {d : Chip} {b : Block} (h : d.agentSt (.block b) = .fenced) : d.pktFence.agentSt (.block b) = .fenced := by
  unfold Chip.pktFence Chip.rebAbandon
  extract_lets
  split
  · exact h
  · split
    · refine rebNext_fenced ?_
      split
      · exact h
      · exact (withdraw_steady (.refl _)).fenced b h
    · exact h

/-- What the end of a fence adds in a block leaves every fenced block FENCED. -/
theorem blockFenced_fenced {d : Chip} {b : Block} (a : Block) (h : d.agentSt (.block b) = .fenced) : (d.blockFenced a).agentSt (.block b) = .fenced := by
  cases a with
  | kva => exact (abandonCompact_steady (abandonMove_steady (giveBack_steady (.refl _)))).fenced b h
  | mem => exact (abandonPage_steady (.refl _)).fenced b h
  | pkt => exact pktFence_fenced h
  | dma => exact (steady_foldl (fun _ _ h1 => steady_ite h1 (sr_steady h1)) (giveBack_steady (dmaBack_steady (.refl d)))).fenced b h
  | ckp => exact (ckpFence_steady (.refl d)).fenced b h
  | wkc => exact (steady_foldl (fun _ _ h1 => emptyCore_steady h1) (.refl d)).fenced b h
  | amt => exact (steady_foldl (fun _ _ h1 => coreGiveBack_steady h1) (.refl d)).fenced b h
  | col | dvt | sec | nvs | tck | hif | flt | pcr | lnk | glb | obs | pat => exact h

theorem fenced_agentSt (d : Chip) (b : Block) : (d.fenced (.block b)).agentSt (.block b) = .fenced := by
  have stopped := blockFenced_fenced b (agentSt_blockStopped d b)
  rw [fenced_block]
  split
  · rwa [opsBack_agentSt]
  · exact stopped

/-- The end of a fence of any block leaves it FENCED, whether a RESET follows or not. -/
theorem fenceComplete_agentSt {d : Chip} {b : Block} (hf : (d.agentRec (.block b)).fencing = true) :
    (fenceComplete d (.block b)).agentSt (.block b) = .fenced := by
  rw [fenceComplete_of hf]
  split
  · exact agentSt_resetAgent_block _ b
  · exact fenced_agentSt d b

/-- The items of DVT that a fence returns to ACCEPTED. -/
def dvtOpen (i : Item) : Bool := !i.state.ended && i.kind = .dvt

theorem fenced_dvt (d : Chip) : d.fenced (.block .dvt) = ((d.blockStopped .dvt).giveBack dvtOpen).opsBack 7 := rfl

theorem giveBack_frame (d : Chip) (p : Item → Bool) : Frame [.led, .hif] d (d.giveBack p) := by
  intro q hq
  cases q with
  | led => exact absurd (by decide) hq
  | hif => exact absurd (by decide) hq
  | _ => rfl

theorem fenced_dvt_frame (d : Chip) : Frame [.agents, .led, .hif] d (d.fenced (.block .dvt)) :=
  ((blockStopped_frame d .dvt).mono (by decide)).trans (((giveBack_frame _ _).mono (by decide)).trans ((opsBack_frame _ 7).mono (by decide)))

theorem fenced_dvt_ids (d : Chip) : (d.fenced (.block .dvt)).ids = d.ids :=
  (opsBack_steady (giveBack_steady (.refl (d.blockStopped .dvt)))).ids

/-- An uncommitted item of DVT returns to ACCEPTED. -/
theorem fenced_dvt_back {d : Chip} {i : Item} (hi : i ∈ d.led.items) (ho : i.state.ended = false) (hk : i.kind = .dvt) (hr : i.crec = .none) :
    backToAccepted i ∈ (d.fenced (.block .dvt)).led.items := by
  have given : backToAccepted i ∈ ((d.blockStopped .dvt).giveBack dvtOpen).led.items := by
    refine List.mem_map.mpr ⟨i, hi, ?_⟩
    rw [if_pos (by simp [dvtOpen, ho, hk, hr])]
  have kind : (backToAccepted i).kind = .dvt := by simp [backToAccepted, ho, hk]
  rw [fenced_dvt, opsBack_items]
  exact List.mem_map.mpr ⟨_, given, by simp [kind]⟩

/-! ### Return to RUNNING -/

/-- Nothing waits in these blocks for their return; in SEC only a BULK does (R604). -/
theorem blockResumes_own {d : Chip} {b : Block} (hb : b ∈ [Block.glb, .hif, .tck, .wkc, .mem, .amt, .lnk, .pkt, .ckp, .sec, .obs])
    (hk : ∀ i ∈ d.led.items, i.kind ≠ .general 0x0D03) : d.blockResumes b = d := by
  cases b with
  | sec =>
    have none : d.led.items.filter (fun i => i.kind = .general 0x0D03 && i.state = .accepted) = [] :=
      List.filter_eq_nil_iff.mpr fun i hi => by simp [hk i hi]
    show Chip.bulksGo d = d
    rw [Chip.bulksGo, none, List.foldl_nil]
  | col | kva | dvt | dma | nvs | pat | flt | pcr => exact absurd hb (by decide)
  | _ => rfl

/-- UNFENCE of a fenced block none of whose sources is ACTIVE. -/
theorem unfence_block {d : Chip} {b : Block} (hi : islandAgent (.block b) = false) (hr : d.hub.inReset = false)
    (hs : d.agentSt (.block b) = .fenced) (ha : d.activeSources (.block b) = []) : unfence d (.block b) =
      (((d.setAgentRec (.block b) {}).setAgentSt (.block b) .running).blockResumes b).answered (.block b) true := by
  rw [unfence, if_neg (by simp [hr, hi, hs, Chip.retiredAgent])]
  simp only [ha, List.isEmpty_nil, if_true]

/-! ### RESET -/

theorem reset_fenced {d : Chip} {b : Block} (hk : keepsPower (.block b) = false) (hs : d.agentSt (.block b) = .fenced) :
    reset d (.block b) = (d.resetAgent (.block b)).answered (.block b) true := by
  unfold reset
  rw [if_neg (by simp [hk, Chip.retiredAgent]), hs]

theorem reset_running {d : Chip} {b : Block} (hk : keepsPower (.block b) = false) (hs : d.agentSt (.block b) = .running) :
    reset d (.block b) = (d.beginFence (.block b) true).answered (.block b) true := by
  unfold reset
  rw [if_neg (by simp [hk, Chip.retiredAgent]), hs]

theorem reset_keepsPower {d : Chip} {a : Agent} (hk : keepsPower a = true) : reset d a = d.answered a false := by
  unfold reset
  rw [if_pos (.inl hk)]

/-! ### The commands -/

section
variable {s : State} {a : Agent} {b : Block}

theorem completes_fence (P : Chip → Prop) : Completes (.fence a) s P ↔ P (if islandAgent a then s.chip.answered a false
    else if s.chip.agentSt a = .running ∧ !(s.chip.agentRec a).fencing then (s.chip.beginFence a false).answered a true
    else s.chip.answered a true) :=
  completes_iff_of_on (f := fun d => if islandAgent a then d.answered a false
    else if d.agentSt a = .running ∧ !(d.agentRec a).fencing then (d.beginFence a false).answered a true else d.answered a true) rfl P

theorem completes_gate (P : Chip → Prop) : Completes (.gate a) s P ↔
    P (if keepsPower a ∨ s.chip.agentSt a ≠ .fenced ∨ s.chip.retiredAgent a then s.chip.answered a false
      else (s.chip.setAgentSt a .gated).answered a true) :=
  completes_iff_of_on (f := fun d => if keepsPower a ∨ d.agentSt a ≠ .fenced ∨ d.retiredAgent a then d.answered a false
    else (d.setAgentSt a .gated).answered a true) rfl P

theorem completes_ungate (P : Chip → Prop) : Completes (.ungate a) s P ↔
    P (if islandAgent a ∨ s.chip.agentSt a ≠ .gated ∨ s.chip.retiredAgent a then s.chip.answered a false
      else (s.chip.setAgentSt a .fenced).answered a true) :=
  completes_iff_of_on (f := fun d => if islandAgent a ∨ d.agentSt a ≠ .gated ∨ d.retiredAgent a then d.answered a false
    else (d.setAgentSt a .fenced).answered a true) rfl P

theorem completes_inject {source : Fin 768} {detail : BitVec 16} (P : Chip → Prop) : Completes (.inject a source detail) s P ↔
    P (if s.chip.rg Reg.FLT_MODE.MODE ≠ 2 ∨ !sourceNamed source ∨ agentOfSource source ≠ a then s.chip.answered a false
      else (s.chip.sourceEvent source detail.toNat 0 true).answered a true) :=
  completes_iff_of_on (f := fun d => if d.rg Reg.FLT_MODE.MODE ≠ 2 ∨ !sourceNamed source ∨ agentOfSource source ≠ a then d.answered a false
    else (d.sourceEvent source detail.toNat 0 true).answered a true) rfl P

theorem completes_reset (P : Chip → Prop) : Completes (.reset a) s P ↔ P (reset s.chip a) :=
  completes_iff_of_on (f := fun d => reset d a) rfl P

theorem completes_unfence (P : Chip → Prop) : Completes (.unfence a) s P ↔ P (unfence s.chip a) :=
  completes_iff_of_on (f := fun d => unfence d a) rfl P

theorem fence_running (hi : islandAgent a = false) (hs : s.chip.agentSt a = .running) (hf : (s.chip.agentRec a).fencing = false) :
    Completes (.fence a) s (fun d => (d.agentRec a).fencing = true ∧ d.agentSt a = .running ∧ d.answer = some ⟨a, true, .running, [], []⟩ ∧
      Frame [.agents, .answer] s.chip d) := by
  have runs : (s.chip.beginFence a false).agentSt a = .running := (agentSt_beginFence _ _ _).trans hs
  rw [completes_fence, if_neg (by simp [hi]), if_pos (by simp [hs, hf])]
  exact ⟨congrArg AgentState.fencing (agentRec_beginFence _ _ _), (agentSt_answered _ _ _ _).trans runs, answer_answered runs true,
    frame_answered (beginFence_frame _ _ _) a true⟩

theorem unfence_own (hb : b ∈ [Block.glb, .hif, .tck, .wkc, .mem, .amt, .lnk, .pkt, .ckp, .sec, .obs]) (hr : s.chip.hub.inReset = false)
    (hs : s.chip.agentSt (.block b) = .fenced) (ha : s.chip.activeSources (.block b) = [])
    (hk : ∀ i ∈ s.chip.led.items, i.kind ≠ .general 0x0D03) : Completes (.unfence (.block b)) s (fun d =>
      d.agentSt (.block b) = .running ∧ d.answer = some ⟨.block b, true, .running, [], []⟩ ∧ Frame [.agents, .answer] s.chip d) := by
  have land : islandAgent (.block b) = false :=
    (by decide : ∀ b ∈ [Block.glb, .hif, .tck, .wkc, .mem, .amt, .lnk, .pkt, .ckp, .sec, .obs], islandAgent (.block b) = false) b hb
  have runs := agentSt_setAgentSt_block (s.chip.setAgentRec (.block b) {}) b .running
  have back : ((s.chip.setAgentRec (.block b) {}).setAgentSt (.block b) .running).blockResumes b = _ := blockResumes_own hb hk
  rw [completes_unfence, unfence_block land hr hs ha, back]
  exact ⟨(agentSt_answered _ _ _ _).trans runs, answer_answered runs true,
    frame_answered ((setAgentRec_frame _ _ _).trans (setAgentSt_block_frame _ b _)) _ true⟩

theorem reset_of_fenced (hk : keepsPower (.block b) = false) (hs : s.chip.agentSt (.block b) = .fenced) :
    Completes (.reset (.block b)) s (fun d => d.agentSt (.block b) = .fenced ∧ (d.agentRec (.block b)).resetDone = true ∧
      d.answer = some ⟨.block b, true, .fenced, [], []⟩ ∧ Frame [.agents, .answer] s.chip d) := by
  rw [completes_reset, reset_fenced hk hs]
  exact ⟨agentSt_resetAgent_block _ b, congrArg AgentState.resetDone (agentRec_resetAgent_block s.chip b),
    answer_answered (agentSt_resetAgent_block _ b) true, frame_answered (resetAgent_block_frame _ b) _ true⟩

theorem reset_of_running (hk : keepsPower (.block b) = false) (hs : s.chip.agentSt (.block b) = .running) :
    Completes (.reset (.block b)) s (fun d => d.agentSt (.block b) = .running ∧ (d.agentRec (.block b)).fencing = true ∧
      (d.agentRec (.block b)).resetAfter = true ∧ Frame [.agents, .answer] s.chip d) := by
  have record := agentRec_beginFence s.chip (.block b) true
  rw [completes_reset, reset_running hk hs]
  exact ⟨(agentSt_beginFence _ _ _).trans hs, congrArg AgentState.fencing record, congrArg AgentState.resetAfter record,
    frame_answered (beginFence_frame _ _ _) _ true⟩

theorem gate_of_fenced (hk : keepsPower (.block b) = false) (hs : s.chip.agentSt (.block b) = .fenced) :
    Completes (.gate (.block b)) s (fun d => d.agentSt (.block b) = .gated ∧ Frame [.agents, .answer] s.chip d) := by
  rw [completes_gate, if_neg (by simp [hk, hs, Chip.retiredAgent])]
  exact ⟨agentSt_setAgentSt_block _ b _, frame_answered (setAgentSt_block_frame _ b _) _ true⟩

theorem ungate_of_gated (hi : islandAgent (.block b) = false) (hs : s.chip.agentSt (.block b) = .gated) :
    Completes (.ungate (.block b)) s (fun d => d.agentSt (.block b) = .fenced ∧ Frame [.agents, .answer] s.chip d) := by
  rw [completes_ungate, if_neg (by simp [hi, hs, Chip.retiredAgent])]
  exact ⟨agentSt_setAgentSt_block _ b _, frame_answered (setAgentSt_block_frame _ b _) _ true⟩

theorem gate_keepsPower (hk : keepsPower a = true) : Completes (.gate a) s (fun d => d = s.chip.answered a false) := by
  rw [completes_gate, if_pos (.inl hk)]

theorem reset_of_keepsPower (hk : keepsPower a = true) : Completes (.reset a) s (fun d => d = s.chip.answered a false) := by
  rw [completes_reset, reset_keepsPower hk]

/-- FLT and PCR take none of the commands that would stop them. -/
theorem island_refuses (hi : islandAgent a = true) : ∀ c ∈ [Instr.fence a, .unfence a, .reset a, .gate a, .ungate a],
    Completes c s (fun d => d = s.chip.answered a false) := by
  have power : keepsPower a = true := by simp [keepsPower, hi]
  simp only [List.forall_mem_cons]
  refine ⟨?_, ?_, reset_of_keepsPower power, gate_keepsPower power, ?_, List.forall_mem_nil _⟩
  · rw [completes_fence, if_pos hi]
  · rw [completes_unfence]
    unfold unfence
    rw [if_pos (.inr (.inl hi))]
  · rw [completes_ungate, if_pos (.inl hi)]

end

/-- Settles O4: the common commands by the agent's record and state, FENCE_COMPLETE by what each block's chapter adds. -/
theorem agentCommands : Obligations.AgentCommands := by
  refine ⟨fun a s => ?_, fun a s => ?_, fun a s hi hs hf => fence_running hi hs hf, fun b s hb hf hr => ?_, fun b k s hb hf hr => ?_,
    fun b s hf => ?_, fun s hf hr => ?_, fun b s hb hr hs ha hk => unfence_own hb hr hs ha hk, fun b s hk hs => reset_of_fenced hk hs,
    fun b s hk hs => reset_of_running hk hs, fun b s hk hs => gate_of_fenced hk hs, fun b s hi hs => ungate_of_gated hi hs,
    fun a source detail s hm => ?_, fun a source detail s hm hn ha => ?_, fun a s ha => island_refuses (by rcases ha with rfl | rfl <;> rfl),
    fun b s hb => ?_⟩
  · rw [completes_iff_of_on (f := fun d => { d with answer := some ⟨a, true, d.agentSt a, d.activeSources a, []⟩ }) rfl]
  · rw [completes_iff_of_on (f := fun d => { d with answer := some ⟨a, true, d.agentSt a, [], d.bank a⟩ }) rfl]
  · rw [completes_fenceComplete hf hr, fenced_own hb]
    exact ⟨agentSt_blockStopped _ b, agentRec_blockStopped _ b, blockStopped_frame _ b⟩
  · rw [completes_fenceComplete hf hr, fenced_ops hb]
    exact ⟨agentSt_blockStopped s.chip b, agentRec_blockStopped s.chip b, opsBack_items _ k,
      ((blockStopped_frame _ b).mono (by decide)).trans ((opsBack_frame _ k).mono (by decide))⟩
  · rw [completes_iff_of_on (f := fun d => fenceComplete d (.block b)) rfl]
    exact fenceComplete_agentSt hf
  · rw [completes_fenceComplete hf hr]
    exact ⟨fenced_agentSt _ _, fun i hi ho hk hc => fenced_dvt_back hi ho hk hc, fenced_dvt_ids _, fenced_dvt_frame _⟩
  · rw [completes_inject, if_pos (.inl hm)]
    exact ⟨⟨_, rfl, rfl⟩, answered_frame _ _ _⟩
  · rw [completes_inject, if_neg (by simp [hm, hn, ha])]
  · have power : keepsPower (.block b) = true := by rcases hb with rfl | rfl <;> rfl
    simp only [List.forall_mem_cons]
    exact ⟨reset_of_keepsPower power, gate_keepsPower power, List.forall_mem_nil _⟩

end Sys2Proof.Machine
end

section
/-! Obligation O8: joining and leaving the Plumb ring (R60, R68 to R70, R91). -/
namespace Sys2Proof.Machine
open Sys2Proof

/-! ### The tick unit, the answer and the ring's registers -/

theorem frame_tck (d : Chip) (t : TickUnit) : Frame [.tck] d { d with tck := t } := by
  intro p hp
  cases p
  case tck => exact absurd (List.mem_singleton_self _) hp
  all_goals rfl

theorem frame_answer {P : List Part} {c d : Chip} (h : Frame P c d) (x : Option AgentAnswer) : Frame (P ++ [.answer]) c { d with answer := x } := by
  refine (h.mono fun _ => List.mem_append_left _).trans ?_
  intro p hp
  cases p
  case answer => exact absurd (List.mem_append_right _ (List.mem_singleton_self _)) hp
  all_goals rfl

/-- Setting a field other than BYPASS leaves the switch. -/
theorem onRing_sr {d : Chip} {f : Fld} {v : Nat} (h : Reg.TCK_STATUS.BYPASS.bit ≠ f.bit) : onRing (d.sr f v) = onRing d := by
  unfold onRing
  rw [rg_sr_ne _ _ _ _ h]

/-- Setting neither ROLE nor STATE leaves the master role. -/
theorem masterRole_sr {d : Chip} {f : Fld} {v : Nat} (hr : Reg.TCK_CTRL.ROLE.bit ≠ f.bit) (hs : Reg.TCK_STATUS.STATE.bit ≠ f.bit) :
    masterRole (d.sr f v) = masterRole d := by
  unfold masterRole ringState
  rw [rg_sr_ne _ _ _ _ hr, rg_sr_ne _ _ _ _ hs]
  rfl

theorem forward_of_onRing {d : Chip} (h : onRing d = true) (c : RingCell) :
    d.forward c = { d with tck := { d.tck with last := some c, line := c.chars } } := if_pos h

/-! ### Joining (R69) -/

theorem askJoin_joins {d : Chip} (hr : onRing d = false) (hj : d.tck.join = none) :
    d.askJoin.tck.join = some d.tck.frames ∧ d.askJoin.rg Reg.TCK_CTRL.JOIN = 1 ∧ onRing d.askJoin = false ∧
    Frame [.regs, .tck] d d.askJoin := by
  have he : d.askJoin = ({ d with tck := { d.tck with join := some d.tck.frames } }).sr Reg.TCK_CTRL.JOIN 1 :=
    if_neg (by simp [hr, hj])
  rw [he]
  refine ⟨rfl, rg_sr_self _ _ _, ?_, ((frame_tck d _).mono (by decide)).trans (sr_hub (by decide) _ _ _)⟩
  rw [onRing_sr (by decide)]
  exact hr

/-- The device with its switch opened for a join, before it sends its first cell. -/
def Chip.joinOpened (d : Chip) : Chip :=
  { (d.sr Reg.TCK_STATUS.BYPASS 0).sr Reg.TCK_CTRL.JOIN 0 with tck := { d.tck with join := none } }

theorem onRing_joinOpened (d : Chip) : onRing d.joinOpened = true := by
  have h : onRing ((d.sr Reg.TCK_STATUS.BYPASS 0).sr Reg.TCK_CTRL.JOIN 0) = true := by
    rw [onRing_sr (by decide)]
    simp [onRing]
  exact h

theorem masterRole_joinOpened (d : Chip) : masterRole d.joinOpened = masterRole d := by
  have h : masterRole ((d.sr Reg.TCK_STATUS.BYPASS 0).sr Reg.TCK_CTRL.JOIN 0) = masterRole d := by
    rw [masterRole_sr (by decide) (by decide), masterRole_sr (by decide) (by decide)]
  exact h

/-- The registers of a join but for BYPASS and JOIN are as they were. -/
theorem rg_joinOpened {d : Chip} {f : Fld} (hb : f.bit ≠ Reg.TCK_STATUS.BYPASS.bit) (hj : f.bit ≠ Reg.TCK_CTRL.JOIN.bit) :
    d.joinOpened.rg f = d.rg f :=
  (rg_sr_ne (d.sr Reg.TCK_STATUS.BYPASS 0) Reg.TCK_CTRL.JOIN f 0 hj).trans (rg_sr_ne _ _ _ _ hb)

theorem ringPos_joinOpened (d : Chip) : ringPos d.joinOpened = ringPos d := rg_joinOpened (by decide) (by decide)

theorem joinOpened_frame (d : Chip) : Frame [.regs, .tck] d d.joinOpened :=
  ((sr_hub (by decide) d _ _).trans (sr_hub (by decide) _ _ _)).trans ((frame_tck _ _).mono (by decide))

/-- A join takes effect in a frame after the one it was asked in; a member also needs a tick number of an earlier frame. -/
theorem joinSwitchover_opens {d : Chip} {t : Nat} (hj : d.tck.join = some t) (ht : t ≠ d.tck.frames) (hr : onRing d = false)
    (hs : ringState d = 0) (hsafe : d.flag Reg.FLT_SAFE.SAFE = false)
    (hm : masterRole d = true ∨ (d.tck.rxNumber.isSome = true ∧ d.tck.rxAt ≠ d.tck.frames)) :
    joinSwitchover d = if masterRole d then d.joinOpened.sendProbe else { d.joinOpened with tck := { d.joinOpened.tck with
      out := d.tck.out ++ [.msg (d.rg Reg.TCK_STATUS.MASTER_POS) (ringPos d) 1 []] } } := by
  have pos : (d.joinOpened).rg Reg.TCK_STATUS.MASTER_POS = d.rg Reg.TCK_STATUS.MASTER_POS := rg_joinOpened (by decide) (by decide)
  have guard : ¬ (onRing d = true ∨ ringState d ≠ 0 ∨ t = d.tck.frames ∨ d.flag Reg.FLT_SAFE.SAFE = true ∨
      (!masterRole d) = true ∧ (d.tck.rxNumber.isNone = true ∨ d.tck.rxAt = d.tck.frames)) := by
    rcases hm with hm | ⟨hn, ha⟩
    · simp [hr, hs, ht, hsafe, hm]
    · obtain ⟨n, hn⟩ := Option.isSome_iff_exists.mp hn
      simp [hr, hs, ht, hsafe, hn, ha]
  unfold joinSwitchover
  rw [hj]
  refine (if_neg guard).trans ?_
  rw [← masterRole_joinOpened d, ← pos, ← ringPos_joinOpened d]
  rfl

/-! ### Leaving (R70) -/

theorem askLeave_leaves {d : Chip} (hr : onRing d = true) (hl : d.tck.leaving = false) :
    d.askLeave.tck.leaving = true ∧ d.askLeave.tck.out = d.tck.out ++ [.msg 0xFF (ringPos d) 2 []] ∧
    d.askLeave.rg Reg.TCK_CTRL.LEAVE = 1 ∧ onRing d.askLeave = true ∧ Frame [.regs, .tck] d d.askLeave := by
  have he : d.askLeave = ({ d with tck := { d.tck with
      leaving := true, leaveSent := none, out := d.tck.out ++ [RingCell.msg 0xFF (ringPos d) 2 []] } }).sr Reg.TCK_CTRL.LEAVE 1 :=
    if_neg (by simp [hr, hl])
  rw [he]
  refine ⟨rfl, rfl, rg_sr_self _ _ _, ?_, ((frame_tck d _).mono (by decide)).trans (sr_hub (by decide) _ _ _)⟩
  rw [onRing_sr (by decide)]
  exact hr

/-- The device with its switch closed at the end of a leave. -/
def Chip.leaveClosed (d : Chip) : Chip := ((d.sr Reg.TCK_STATUS.BYPASS 1).sr Reg.TCK_STATUS.STATE 0).sr Reg.TCK_CTRL.LEAVE 0

theorem onRing_leaveClosed (d : Chip) : onRing d.leaveClosed = false := by
  unfold Chip.leaveClosed
  rw [onRing_sr (by decide), onRing_sr (by decide)]
  exact decide_eq_false (by rw [rg_sr_self]; decide)

theorem ringState_leaveClosed (d : Chip) : ringState d.leaveClosed = 0 := by
  unfold ringState Chip.leaveClosed
  rw [rg_sr_ne _ _ _ _ (by decide)]
  exact rg_sr_self _ _ _

theorem leaveClosed_frame (d : Chip) : Frame [.regs, .tck] d d.leaveClosed :=
  ((sr_hub (by decide) d _ _).trans (sr_hub (by decide) _ _ _)).trans (sr_hub (by decide) _ _ _)

theorem leaveSwitchover_closes {d : Chip} {t : Nat} (hs : d.tck.leaveSent = some t) (ht : t ≠ d.tck.frames) (hl : d.tck.leaving = true) :
    leaveSwitchover d = { d.leaveClosed with tck := { d.leaveClosed.tck with
      leaving := false, leaveSent := none, probeOut := false, lower := none, acting := false, out := [] } } := by
  unfold leaveSwitchover
  rw [hs]
  exact if_neg (by simp [ht, hl])

/-! ### The device's own cells (R60) -/

/-- The oldest waiting cell goes out, with at most sixteen characters held behind it. -/
theorem ownCellSend_sends {d : Chip} {c : RingCell} {rest : List RingCell} (ho : d.tck.out = c :: rest) (hr : onRing d = true)
    (held : List (BitVec 8)) : ∃ leave, ownCellSend d held = { d with tck := { d.tck with
      out := rest, last := some c, line := c.chars, behind := held.take 16, leaveSent := leave } } := by
  unfold ownCellSend
  rw [ho]
  exact ⟨_, if_neg (by simp [hr])⟩

/-! ### The commands -/

section
variable {s : State} (P : Chip → Prop)

theorem completes_join : Completes .join s P ↔ P s.chip.askJoin := completes_iff_of_on (f := Chip.askJoin) rfl P

theorem completes_ringJoin : Completes .ringJoin s P ↔
    P { s.chip.askJoin with answer := some ⟨.block .tck, true, s.chip.agentSt (.block .tck), [], []⟩ } :=
  completes_iff_of_on (f := fun d => { d.askJoin with answer := some ⟨.block .tck, true, d.agentSt (.block .tck), [], []⟩ }) rfl P

theorem completes_joinSwitchover : Completes .joinSwitchover s P ↔ P (joinSwitchover s.chip) := completes_iff_of_on (f := joinSwitchover) rfl P

theorem completes_leave : Completes .leave s P ↔ P s.chip.askLeave := completes_iff_of_on (f := Chip.askLeave) rfl P

theorem completes_ringLeave : Completes .ringLeave s P ↔
    P { s.chip.askLeave with answer := some ⟨.block .tck, true, s.chip.agentSt (.block .tck), [], []⟩ } :=
  completes_iff_of_on (f := fun d => { d.askLeave with answer := some ⟨.block .tck, true, d.agentSt (.block .tck), [], []⟩ }) rfl P

theorem completes_leaveSwitchover : Completes .leaveSwitchover s P ↔ P (leaveSwitchover s.chip) := completes_iff_of_on (f := leaveSwitchover) rfl P

theorem completes_joined (p : Fin 16) : Completes (.joined p) s P ↔ P (if ringState s.chip = 3 then s.chip.sendProbe
    else s.chip.forward (.msg (s.chip.rg Reg.TCK_STATUS.MASTER_POS) p.val 1 [])) :=
  completes_iff_of_on (f := fun d => if ringState d = 3 then d.sendProbe else d.forward (.msg (d.rg Reg.TCK_STATUS.MASTER_POS) p.val 1 [])) rfl P

theorem completes_leaving (p : Fin 16) : Completes (.leaving p) s P ↔ P (if ringState s.chip = 3 then
      { s.chip with tck := { s.chip.tck with probeDue := true } } else s.chip.forward (.msg 0xFF p.val 2 [])) :=
  completes_iff_of_on (f := fun d => if ringState d = 3 then { d with tck := { d.tck with probeDue := true } } else d.forward (.msg 0xFF p.val 2 [])) rfl P

theorem completes_ownCellSend (held : List (BitVec 8)) : Completes (.ownCellSend held) s P ↔ P (ownCellSend s.chip held) :=
  completes_iff_of_on (f := fun d => ownCellSend d held) rfl P

end

/-- Settles O8: each command by what the tick unit does when it is asked (`askJoin_joins`, `askLeave_leaves`), at the frame boundary
(`joinSwitchover_opens`, `leaveSwitchover_closes`) and with the cells it forwards and sends. -/
theorem ringMembership : Obligations.RingMembership := by
  refine ⟨fun s hr hj => ?_, fun s hr hj => ?_, fun s t hj ht hr hs hsafe hm hn ha => ?_, fun s t hj ht hr hs hsafe hm => ?_, fun s hr hl => ?_,
    fun s hr hl => ?_, fun s t hs ht hl => ?_, fun s p hs => ?_, fun s p hs hr => ?_, fun s p hs => ?_, fun s p hs hr => ?_,
    fun s c rest held ho hr => ?_⟩
  · rw [completes_join]
    exact askJoin_joins hr hj
  · rw [completes_ringJoin]
    obtain ⟨join, bit, -, frame⟩ := askJoin_joins hr hj
    exact ⟨join, bit, ⟨_, rfl, rfl⟩, frame_answer frame _⟩
  · rw [completes_joinSwitchover, joinSwitchover_opens hj ht hr hs hsafe (.inr ⟨hn, ha⟩), hm]
    exact ⟨onRing_joinOpened _, rfl, rfl, (joinOpened_frame _).trans ((frame_tck _ _).mono (by decide))⟩
  · rw [completes_joinSwitchover, joinSwitchover_opens hj ht hr hs hsafe (.inl hm), hm, ← ringPos_joinOpened]
    exact ⟨onRing_joinOpened _, rfl, rfl, (joinOpened_frame _).trans ((frame_tck _ _).mono (by decide))⟩
  · rw [completes_leave]
    exact askLeave_leaves hr hl
  · rw [completes_ringLeave]
    obtain ⟨leaving, out, -, -, frame⟩ := askLeave_leaves hr hl
    exact ⟨leaving, out, ⟨_, rfl, rfl⟩, frame_answer frame _⟩
  · rw [completes_leaveSwitchover, leaveSwitchover_closes hs ht hl]
    exact ⟨onRing_leaveClosed _, ringState_leaveClosed _, rfl, rfl, (leaveClosed_frame _).trans ((frame_tck _ _).mono (by decide))⟩
  · rw [completes_joined, if_pos hs]
    exact ⟨rfl, frame_tck _ _⟩
  · rw [completes_joined, if_neg hs, forward_of_onRing hr]
    exact ⟨rfl, rfl, frame_tck _ _⟩
  · rw [completes_leaving, if_pos hs]
    exact ⟨rfl, frame_tck _ _⟩
  · rw [completes_leaving, if_neg hs, forward_of_onRing hr]
    exact ⟨rfl, frame_tck _ _⟩
  · rw [completes_ownCellSend]
    obtain ⟨leave, he⟩ := ownCellSend_sends ho hr held
    rw [he]
    exact ⟨rfl, rfl, List.length_take_le _ _, rfl, frame_tck _ _⟩

end Sys2Proof.Machine
end

section
/-! Obligation O7: a PROBE back at a joining master whose POSITION holds more than its 4 bits (R62, R69). -/
namespace Sys2Proof.Machine
open Sys2Proof

theorem completes_probeReturn {s : State} {total loop : Nat} (P : Chip → Prop) :
    Completes (.probeReturn total loop) s P ↔ P (probeReturn s.chip total loop) :=
  completes_iff_of_on (f := fun d => probeReturn d total loop) rfl P

/-- A joining master whose PROBE is under way, on the ring at position 16: a value of the type `State` that no write leaves in the 4-bit
field, as `Chip.sr` cuts every value to its field's width. -/
def overwidePosition : State where
  pending := []
  chip := { regs := [(Reg.TCK_CTRL.POSITION.bit, 16), (Reg.TCK_STATUS.BYPASS.bit, 0)], tck := { probeOut := true } }

theorem probeReturn_overwidePosition : (probeReturn overwidePosition.chip 0 0).rg Reg.TCK_STATUS.MASTER_POS = 16 % 2 ^ 4 := by decide +kernel

/-- Refutes O7. The statement ranges over every `State`, also over one whose field holds more than its width, and says that a PROBE back at a
joining master makes MASTER_POS the master's POSITION; in `overwidePosition` that is 16, and the 4-bit MASTER_POS becomes 0
(`probeReturn_overwidePosition`). -/
theorem not_ringMarkersAndCells : ¬ Obligations.RingMarkersAndCells := by
  unfold Obligations.RingMarkersAndCells
  rintro ⟨-, -, -, -, -, -, -, -, -, -, -, -, -, -, -, -, -, -, hreturn, -⟩
  have h := hreturn overwidePosition 0 0 rfl rfl rfl rfl (by decide) (by decide)
  rw [completes_probeReturn] at h
  obtain ⟨-, hpos, -⟩ := h
  exact absurd (probeReturn_overwidePosition.symm.trans hpos) (by decide)

end Sys2Proof.Machine
end

section
/-! Obligation O9: a PLAN_LOAD refused for its image's place, whose step table is read all the same (R48, R81, R93, R264, R268). -/
namespace Sys2Proof.Machine
open Sys2Proof

theorem completes_planLoad {s : State} {src : Submit} {image : Nat} (hs : s.chip.coreServes (s.chip.roleCore 0) = true)
    (ht : TakenUp s.chip src .tck false 0) (P : Chip → Prop) :
    Completes (.planLoad src image) s P ↔ P (planLoad (s.chip.dropHand src.origin) src image) := by
  rw [completes_iff_of_on (f := fun d => d.served 0 (fun d => d.submit src .tck false (fun d => planLoad d src image))) rfl]
  simp only [Chip.served, hs, if_true, submit_of_takenUp ht]

/-- An image address 32 bytes below the end of Plinth die P0: the image's 192-byte header runs on into P1. -/
def straddlingImage : Nat := 0x3FFF_FFE0

/-- A chip that takes items, with one ledger copy left, on P1. The header at `straddlingImage` has IMAGE_LEN 0 (the copy on P0 is out of service
and reads as zeros), STEP_TABLE 0x40 and STEP_COUNT 1, so that the step table is one word of P1. That word has a double error, and fifteen other
words of its bank have failed within 1,024 ticks. -/
def failingStepTable : State where
  pending := []
  chip := ((((({
    mem := { cells := [(0x4000_0010, 0x40), (0x4000_0014, 1)] }
    mu := { flips := [(0x4000_0020, 2)], ueSeen := (List.range 15).map (fun k => (256, 0x4001_0000 + 0x1_0000 * k, 0)) }
    pwr := { por := false, refclk := true, stage1 := true, pllStart := true } } : Chip).sr Reg.PCR_STATE.READY 1).sr Reg.PCR_STATE.CLK_SRC 1).sr
    Reg.PCR_STATE.MAQ_LOADED 1).sr Reg.MEM_PLINTH_STATE.INIT_BUSY 0).sr Reg.GLB_LEDGER_STATE.COPIES 2

theorem failingStepTable_takenUp : TakenUp failingStepTable.chip ⟨.internal, 0⟩ .tck false 0 :=
  ⟨rfl, rfl, rfl, rfl, by decide +kernel, trivial⟩

/-- The refused PLAN_LOAD reads the step table: the word's bank fails, and with it the last ledger copy. -/
theorem planLoad_failingStepTable_lost : (planLoad failingStepTable.chip ⟨.internal, 0⟩ straddlingImage).led.lost = true := by decide +kernel

/-- Refutes O9. It says that a PLAN_LOAD whose header does not lie in one die or the near tier leaves the ledger unit's state as it was. The
model notes the read of the step table before that check wherever the table itself lies well: in `failingStepTable` the read finds the sixteenth
uncorrectable word of a bank of P1, and the bank's failure loses the last ledger copy (`planLoad_failingStepTable_lost`). -/
theorem not_tickAndPlans : ¬ Obligations.TickAndPlans := by
  unfold Obligations.TickAndPlans
  rintro ⟨-, -, -, -, -, -, -, -, -, -, -, -, -, -, -, houtside, -⟩
  have h := houtside failingStepTable ⟨.internal, 0⟩ straddlingImage (by decide +kernel) failingStepTable_takenUp (by decide +kernel)
  rw [completes_planLoad (by decide +kernel) failingStepTable_takenUp] at h
  obtain ⟨hled, -⟩ := h
  have hlost : failingStepTable.chip.led.lost = true := hled ▸ planLoad_failingStepTable_lost
  exact absurd hlost (by decide)

end Sys2Proof.Machine
end

section
/-! Obligation O57: MXINT8 elements, alone and in a block of 32 (R98, R109). -/
namespace Sys2Proof.Machine
open Sys2Proof

/-! ### Two's-complement patterns -/

theorem sint_toBits {n : Nat} (hn : 0 < n) {k : Int} (hlo : -2 ^ (n - 1) ≤ k) (hhi : k < 2 ^ (n - 1)) : sint n (toBits n k) = k := by
  obtain ⟨n, rfl⟩ := Nat.exists_eq_add_of_lt hn
  simp only [Nat.zero_add, Nat.add_sub_cancel] at hlo hhi
  have hpos : (0 : Int) < 2 ^ n := by positivity
  have hcast : ((toBits (n + 1) k : Nat) : Int) = k % (2 * 2 ^ n) := by
    rw [toBits, Int.toNat_of_nonneg (Int.emod_nonneg _ (by positivity))]
    push_cast
    rw [pow_succ']
  have hlt : toBits (n + 1) k < 2 ^ (n + 1) := by
    zify
    rw [hcast, pow_succ']
    exact Int.emod_lt_of_pos _ (by positivity)
  simp only [sint, Nat.zero_add, Nat.add_sub_cancel, Nat.mod_eq_of_lt hlt]
  zify
  rw [hcast, pow_succ']
  obtain hneg | hnonneg := lt_or_ge k 0
  · have hmod : k % (2 * 2 ^ n) = k + 2 * 2 ^ n := by
      rw [← Int.add_emod_right, Int.emod_eq_of_lt (by omega) (by omega)]
    rw [hmod, if_neg (by omega), add_sub_cancel_right]
  · rw [Int.emod_eq_of_lt hnonneg (by omega), if_pos hhi]

/-! ### MXINT8 elements -/

theorem decodeElem_mxInt8 (bits : Nat) : decodeElem 0xA bits = .fin (decide (sint 8 bits < 0)) (sint 8 bits).natAbs (-6) := rfl

theorem decodeElem_mxInt8_toBits {k : Int} (hlo : -128 ≤ k) (hhi : k ≤ 127) :
    decodeElem 0xA (toBits 8 k) = .fin (decide (k < 0)) k.natAbs (-6) := by
  rw [decodeElem_mxInt8, sint_toBits (by decide) (by omega) (by omega)]

/-- 0x80 is the pattern of -128 alone. -/
theorem toBits_ne_0x80 {k : Int} (hlo : -127 ≤ k) (hhi : k ≤ 127) : toBits 8 k ≠ 0x80 := by
  intro h
  have hk : sint 8 0x80 = k := h ▸ sint_toBits (by decide) (by omega) (by omega)
  have h80 : sint 8 0x80 = -128 := by decide
  omega

/-- What a conversion into MXINT8 writes: NaN gives 0, an infinity and a magnitude above 127/64 the largest magnitude of their sign, and any
other value its multiple of 2^-6. -/
theorem convMxInt8_writes (rnd : Rnd) (v : Val) : ∃ k : Int, -127 ≤ k ∧ k ≤ 127 ∧ (convMxInt8 rnd v).1 = toBits 8 k := by
  cases v with
  | nan => exact ⟨0, by decide, by decide, rfl⟩
  | inf neg => exact ⟨if neg then -127 else 127, by split <;> decide, by split <;> decide, rfl⟩
  | fin neg m e =>
    simp only [convMxInt8]
    split
    case isTrue => exact ⟨if neg then -127 else 127, by split <;> decide, by split <;> decide, rfl⟩
    case isFalse hle =>
      split
      case isTrue => exact ⟨0, by decide, by decide, rfl⟩
      case isFalse => exact ⟨_, by split <;> omega, by split <;> omega, rfl⟩

theorem convElem_mxInt8_writes (rnd : Rnd) (nanp : Bool) (v : Val) :
    ∃ k : Int, -127 ≤ k ∧ k ≤ 127 ∧ (convElem 0xA rnd nanp v).1 = toBits 8 k :=
  convMxInt8_writes rnd v

/-- An element of a block is a converted element or, in a block whose scale is NaN, 0. -/
theorem mem_mxBlock {code : Nat} {fit nanp : Bool} {rnd : Nat → Rnd} {vs : List Val} {b : Nat} (hb : b ∈ (mxBlock code fit nanp rnd vs).2.1) :
    b = 0 ∨ ∃ r v, b = (convElem code r nanp v).1 := by
  unfold mxBlock at hb
  split at hb
  case isTrue =>
    obtain ⟨-, -, rfl⟩ := List.mem_map.mp hb
    exact .inl rfl
  case isFalse =>
    obtain ⟨_, hc, rfl⟩ := List.mem_map.mp hb
    obtain ⟨p, -, rfl⟩ := List.mem_map.mp hc
    exact .inr ⟨_, _, rfl⟩

theorem mxBlock_mxInt8_writes {fit nanp : Bool} {rnd : Nat → Rnd} {vs : List Val} {b : Nat} (hb : b ∈ (mxBlock 0xA fit nanp rnd vs).2.1) :
    ∃ k : Int, -127 ≤ k ∧ k ≤ 127 ∧ b = toBits 8 k := by
  obtain rfl | ⟨r, v, rfl⟩ := mem_mxBlock hb
  · exact ⟨0, by decide, by decide, rfl⟩
  · exact convElem_mxInt8_writes r nanp v

/-- Settles O57: decoding undoes the two's-complement pattern (`sint_toBits`), and every conversion writes the pattern of a value in -127 to 127
(`convElem_mxInt8_writes`, `mxBlock_mxInt8_writes`), which 0x80 is not (`toBits_ne_0x80`). -/
theorem mxInt8Elements : Obligations.MxInt8Elements := by
  refine ⟨fun k => decodeElem_mxInt8_toBits, ?_, fun r nanp v => ?_, fun fit nanp r vs b hb => ?_⟩
  · exact decodeElem_mxInt8_toBits (k := -128) (by decide) (by decide)
  · obtain ⟨k, hlo, hhi, hk⟩ := convElem_mxInt8_writes r nanp v
    rw [hk]
    exact ⟨k, hlo, hhi, rfl, toBits_ne_0x80 hlo hhi, decodeElem_mxInt8_toBits (by omega) hhi⟩
  · obtain ⟨k, hlo, hhi, rfl⟩ := mxBlock_mxInt8_writes hb
    exact ⟨k, hlo, hhi, rfl, toBits_ne_0x80 hlo hhi⟩

end Sys2Proof.Machine
end

section
/-! Obligation O11: an item's finish, which also forgets the operand-buffer failures counted for it (R126, R152). -/
namespace Sys2Proof.Machine
open Sys2Proof

theorem completes_itemFinish {s : State} {seq : Nat} (P : Chip → Prop) : Completes (.itemFinish seq) s P ↔ P (itemFinish s.chip seq) :=
  completes_iff_of_on (f := fun d => itemFinish d seq) rfl P

/-- A FILL of 64 bytes that runs on core 0, its writes acknowledged. -/
def refetchedFill : Item where
  seq := 1
  slot := 0
  state := .running
  domain := .ring 0
  tag := 7
  owner := 0
  replied := false
  redo := false
  replayed := false
  plan := 0
  acceptTick := 0
  endTick := 0
  origin := .ring 0
  fn := 0
  kind := .work
  body := { w0 := 0x7_0000_0033, w1 := 64, w4 := 0x1000_0000 }
  crec := .none
  fin := some ⟨Code.OK, 0, 0⟩
  redoRec := none
  carried := false
  single := false
  reply := {}

/-- The chip with that item on a unit of core 0, after line 5 of the core's operand buffer has failed its CRC-32C once within the item. -/
def refetchedLine : State where
  pending := []
  chip := ({
    led := { nextSeq := 2, items := [refetchedFill] }
    wk := { runs := [(1, { runs := 1, done := true, unit := opUnit 0x33 })], obFail := [⟨0, 5, 1, 1⟩] } } : Chip).sr
      (Reg.WKC_UNIT_SEQ.SEQ 0 (opUnit 0x33)) 1

theorem itemFinish_refetchedLine_obFail : (itemFinish refetchedLine.chip 1).wk.obFail = [] := by decide +kernel

/-- Refutes O11. It says that ITEM_FINISH changes the ledger and the registers alone. The item leaves its unit there, and the failures of
operand-buffer lines counted within it, which the work cores keep, are dropped: in `refetchedLine` there is one such failure, and after the
item's finish none (`itemFinish_refetchedLine_obFail`). -/
theorem not_workItems : ¬ Obligations.WorkItems := by
  unfold Obligations.WorkItems
  rintro ⟨-, -, hfinish, -⟩
  have h := hfinish refetchedLine refetchedFill ⟨Code.OK, 0, 0⟩ rfl rfl rfl rfl rfl rfl rfl (by decide +kernel) rfl rfl rfl rfl rfl
  rw [completes_itemFinish] at h
  obtain ⟨-, -, frame⟩ := h
  have same : (itemFinish refetchedLine.chip 1).wk = refetchedLine.chip.wk := frame .wk (by decide)
  have lines : refetchedLine.chip.wk.obFail = [] := same ▸ itemFinish_refetchedLine_obFail
  exact absurd lines (by decide)

end Sys2Proof.Machine
end

section
/-! What reading and writing device memory leaves as it is (R257 to R289): every part but those named, and the ledger's items. -/
namespace Sys2Proof.Machine
open Sys2Proof

/-- The parts that an access to device memory may change: memory with its error handling, which ends in the hub and may lose the ledger, the
meters and capture buffers of a checkpoint, and the host endpoint's translations. -/
def memParts : List Part := hubParts ++ [.free, .mem, .led, .ldr, .mu, .hif, .ckp]

/-- Nothing but the parts of a memory access has changed, and the ledger holds the items it held. -/
structure MemStep (c d : Chip) : Prop where
  frame : Frame memParts c d
  items : d.led.items = c.led.items

theorem MemStep.refl (c : Chip) : MemStep c c := ⟨.refl _ c, rfl⟩

theorem MemStep.wk {c d : Chip} (h : MemStep c d) : d.wk = c.wk := h.frame .wk (by decide)

theorem MemStep.item {c d : Chip} (h : MemStep c d) (q : Nat) : d.item q = c.item q := by
  simp only [Chip.item, h.items]

theorem MemStep.ids {c d : Chip} (h : MemStep c d) : d.ids = c.ids := by
  simp only [Chip.ids, h.items]

/-- A step with a known frame, within the parts of a memory access and without the ledger. -/
theorem MemStep.then {P : List Part} {c d e : Chip} (h : MemStep c d) (k : Frame P d e) (hp : ∀ p ∈ P, p ∈ memParts) (hl : Part.led ∉ P) :
    MemStep c e := by
  have led : e.led = d.led := k .led hl
  exact ⟨h.frame.trans (k.mono hp), by rw [led, h.items]⟩

theorem memStep_ite {c a b : Chip} {q : Prop} [Decidable q] (h : MemStep c a) (k : MemStep c b) : MemStep c (if q then a else b) := by
  split <;> assumption

theorem memStep_foldl {α : Type} {c d : Chip} {f : Chip → α → Chip} {l : List α} (hf : ∀ d x, MemStep c d → MemStep c (f d x))
    (h : MemStep c d) : MemStep c (l.foldl f d) := by
  induction l generalizing d with
  | nil => exact h
  | cons x l ih => exact ih (hf d x h)

section
variable {c d : Chip} {free regs satCtrs mem attn attnServed agents hub ldr arm mu hif pat trc ckp pwr}

/-- New values for the parts of a memory access but the ledger. -/
theorem MemStep.elsewhere (h : MemStep c d) :
    MemStep c ⟨free, regs, d.latch, satCtrs, d.bus, mem, d.led, attn, attnServed, d.owed, d.fetched, agents, d.answer, hub, d.tck, ldr, arm, mu,
      d.wk, d.coll, d.kv, hif, pat, trc, d.lnk, d.sec, d.fw, d.cal, d.dvt, d.dma, d.pkt, d.nvs, ckp, pwr⟩ := by
  refine ⟨fun p hp => ?_, h.items⟩
  have same := h.frame p hp
  cases p with
  | free | regs | satCtrs | mem | attn | attnServed | agents | hub | ldr | arm | mu | hif | pat | trc | ckp | pwr => exact absurd (by decide) hp
  | _ => exact same

/-! ### The hub -/

theorem sr_memStep {f : Fld} {v : Nat} (h : MemStep c d) : MemStep c (d.sr f v) := h.elsewhere

theorem count_memStep {f : Fld} {n : Nat} (h : MemStep c d) : MemStep c (d.count f n) := h.then (count_frame d f n) (by decide) (by decide)

theorem fault_memStep {s detail : Nat} {inj : Bool} (h : MemStep c d) : MemStep c (d.fault s detail inj) :=
  h.then (fault_frame d s detail inj) (by decide) (by decide)

theorem raiseAttn_memStep {why : Attn} {l : Level} {cls : Nat} (h : MemStep c d) : MemStep c (d.raiseAttn why l cls) :=
  h.then (raiseAttn_frame d why l cls) (by decide) (by decide)

theorem note_memStep {cls : Nat} (h : MemStep c d) : MemStep c (d.note cls) := h.then (note_frame d cls) (by decide) (by decide)

theorem patEvent_memStep {type : Nat} {body : List Nat} (h : MemStep c d) : MemStep c (d.patEvent type body) :=
  h.then (patEvent_frame d type body) (by decide) (by decide)

/-! ### Plinth errors (R263 to R270) -/

theorem setPoison_memStep {g : Nat} {p : Bool} (h : MemStep c d) : MemStep c (d.setPoison g p) := h.elsewhere

theorem applyFlip_memStep {w : Nat} (h : MemStep c d) : MemStep c (d.applyFlip w) := by
  have disarmed : MemStep c ((d.sr Reg.MEM_FLIP_CTRL.ARM 0).sr Reg.MEM_FLIP_CTRL.DONE 1) := sr_memStep (sr_memStep h)
  exact memStep_ite (memStep_ite disarmed disarmed.elsewhere) h

theorem wordWritten_memStep {w : Nat} (h : MemStep c d) : MemStep c (d.wordWritten w) := applyFlip_memStep h.elsewhere

theorem addRemap_memStep {source a : Nat} (h : MemStep c d) : MemStep c (d.addRemap source a) := by
  unfold Chip.addRemap
  extract_lets _ _ _ _ added
  have hadded : MemStep c added := memStep_ite h.elsewhere h.elsewhere
  exact memStep_ite h (memStep_ite (note_memStep (fault_memStep (count_memStep h))) (sr_memStep hadded))

theorem plinthCE_memStep {w : Nat} (h : MemStep c d) : MemStep c (d.plinthCE w) := by
  unfold Chip.plinthCE
  extract_lets counted _ _ _ cleared
  have hcounted : MemStep c counted := fault_memStep (count_memStep h).elsewhere
  have hcleared : MemStep c cleared := hcounted.elsewhere
  exact memStep_ite (patEvent_memStep (addRemap_memStep hcleared)) hcounted.elsewhere

/-- The ledger's copies are lost, and its items are kept. -/
theorem ledgerLost_memStep (h : MemStep c d) : MemStep c d.ledgerLost := by
  have lost : MemStep c { d with led := { d.led with lost := true } } :=
    ⟨h.frame.trans ((frame_led d _).mono (by decide)), h.items⟩
  exact memStep_ite h (fault_memStep (sr_memStep (sr_memStep lost)))

theorem copyFail_memStep {die : Nat} {room : Bool} (h : MemStep c d) : MemStep c (d.copyFail die room) := by
  unfold Chip.copyFail
  extract_lets _ _ alone
  have halone : MemStep c alone := sr_memStep (sr_memStep h)
  exact memStep_ite (ledgerLost_memStep h) (raiseAttn_memStep (memStep_ite (fault_memStep halone) halone))

theorem bankFail_memStep {bank : Nat} (h : MemStep c d) : MemStep c (d.bankFail bank) := by
  unfold Chip.bankFail
  extract_lets _ _ raised _ copies _ spared _
  have hcopies : MemStep c copies := copyFail_memStep (raiseAttn_memStep (fault_memStep h))
  have hspared : MemStep c spared := patEvent_memStep (sr_memStep hcopies)
  exact memStep_ite hcopies.elsewhere hspared.elsewhere

theorem plinthUE_memStep {w : Nat} (h : MemStep c d) : MemStep c (d.plinthUE w) := by
  unfold Chip.plinthUE
  extract_lets counted _ _ _ noted
  have hcounted : MemStep c counted := fault_memStep (count_memStep (setPoison_memStep h)).elsewhere
  have hnoted : MemStep c noted := hcounted.elsewhere
  exact memStep_ite (bankFail_memStep hnoted) hnoted

theorem settle_memStep {a n : Nat} (h : MemStep c d) : MemStep c (d.settle a n) := by
  unfold Chip.settle
  refine memStep_foldl (fun e p he => ?_) h
  extract_lets _ cleared _ chosen
  have hcleared : MemStep c cleared := he.elsewhere
  have hchosen : MemStep c chosen := memStep_ite hcleared.elsewhere hcleared
  exact memStep_ite (plinthCE_memStep hchosen) (plinthUE_memStep hchosen)

/-! ### Writes at physical addresses (R260 to R265) -/

theorem putBytes_memStep {a : Nat} {bs : List (Nat × Nat)} (h : MemStep c d) :
    MemStep c (bs.foldl (fun (d : Chip) (p : Nat × Nat) => d.putByte (a + p.1) p.2) d) :=
  memStep_foldl (fun _ _ he => he.elsewhere) h

theorem flushMerge_memStep {w : Nat} (h : MemStep c d) : MemStep c (d.flushMerge w) := by
  unfold Chip.flushMerge
  split
  · exact h
  · extract_lets _ left settled
    have hleft : MemStep c left := h.elsewhere
    have hsettled : MemStep c settled := settle_memStep (count_memStep hleft)
    exact memStep_ite (wordWritten_memStep (putBytes_memStep hleft)) (memStep_ite hsettled (applyFlip_memStep (putBytes_memStep hsettled)))

theorem mergeWrite_memStep {w : Nat} {bs : List (Nat × Nat)} (h : MemStep c d) : MemStep c (d.mergeWrite w bs) := by
  unfold Chip.mergeWrite
  split
  · extract_lets _ _ merged
    have hmerged : MemStep c merged := h.elsewhere
    exact memStep_ite (flushMerge_memStep hmerged) hmerged
  · extract_lets _ room _
    have hroom : MemStep c room := memStep_ite (flushMerge_memStep h) h
    exact hroom.elsewhere

theorem writeGran_memStep {g : Nat} {bs : List (Nat × Nat)} {poison : Bool} (h : MemStep c d) : MemStep c (d.writeGran g bs poison) := by
  unfold Chip.writeGran
  extract_lets _ poisoned _ unmerged _ _ cleared written
  have hpoisoned : MemStep c poisoned := setPoison_memStep h
  have hunmerged : MemStep c unmerged := h.elsewhere
  have hcleared : MemStep c cleared := memStep_ite (setPoison_memStep h).elsewhere h
  have hwritten : MemStep c written := memStep_ite hcleared (putBytes_memStep hcleared)
  exact memStep_ite (count_memStep h) (memStep_ite
    (memStep_ite hpoisoned.elsewhere (memStep_ite (wordWritten_memStep (putBytes_memStep hunmerged)) (mergeWrite_memStep h)))
    (memStep_ite (setPoison_memStep hwritten) (memStep_ite (setPoison_memStep hwritten) hwritten)))

theorem writePhysAux_memStep {k a : Nat} {bs : List (Nat × Bool)} (h : MemStep c d) : MemStep c (d.writePhysAux k a bs) := by
  induction k generalizing d a bs with
  | zero => exact h
  | succ k ih => exact memStep_ite h (ih (writeGran_memStep h))

theorem writePhys_memStep {a : Nat} {bs : List (Nat × Bool)} (h : MemStep c d) : MemStep c (d.writePhys a bs) := writePhysAux_memStep h

/-! ### The paged range (R288 to R293, R560) -/

theorem setPte_memStep {n : Nat} {e : PTE} (h : MemStep c d) : MemStep c (d.setPte n e) :=
  (memStep_foldl (fun _ _ he => he.elsewhere) h).elsewhere

theorem queuePage_memStep {page tier : Nat} {up : Bool} (h : MemStep c d) : MemStep c (d.queuePage page tier up) :=
  memStep_ite (count_memStep h) h.elsewhere

theorem heatPage_memStep {n k : Nat} (h : MemStep c d) : MemStep c (d.heatPage n k) := by
  unfold Chip.heatPage
  extract_lets _ _ heated _ near
  have hheated : MemStep c heated := setPte_memStep h
  have hnear : MemStep c near := memStep_ite (queuePage_memStep hheated) hheated
  exact memStep_ite h (memStep_ite (queuePage_memStep hnear) hnear)

theorem xlatTouch_memStep {n k : Nat} (h : MemStep c d) : MemStep c (d.xlatTouch n k) := by
  unfold Chip.xlatTouch
  extract_lets _ evicted _
  have hevicted : MemStep c evicted := by
    refine memStep_ite ?_ h
    split
    · exact heatPage_memStep (h.elsewhere)
    · exact h
  exact hevicted.elsewhere

theorem chargeOver_memStep {p : Nat} {u : PlanUse} (h : MemStep c d) : MemStep c (d.chargeOver p u) := by
  unfold Chip.chargeOver
  split
  · exact h
  · exact memStep_ite h.elsewhere h.elsewhere

theorem ckpCopy_memStep {j : Nat} {x : CkpJob} {r : CkpRun} {n k logical : Nat} (h : MemStep c d) : MemStep c (d.ckpCopy j x r n k logical) := by
  unfold Chip.ckpCopy
  extract_lets _ _ _ _ copied _ _ kept
  have hcopied : MemStep c copied := writePhys_memStep h
  have hkept : MemStep c kept := hcopied.elsewhere
  exact count_memStep hkept

theorem cowWrite_memStep {n : Nat} (h : MemStep c d) : MemStep c (d.cowWrite n) := by
  have dirty : MemStep c (if (d.pte n).dirty then d else d.setPte n { d.pte n with dirty := true }) := memStep_ite h (setPte_memStep h)
  unfold Chip.cowWrite
  extract_lets _
  split
  · split
    · refine memStep_ite dirty (memStep_ite h (memStep_ite (setPte_memStep h) ?_))
      split
      · exact setPte_memStep (count_memStep (ckpCopy_memStep (chargeOver_memStep h)))
      · exact setPte_memStep (count_memStep h)
    · exact dirty
  · exact dirty

theorem touchPage_memStep {a : Nat} {write : Bool} (h : MemStep c d) : MemStep c (d.touchPage a write) :=
  memStep_ite (xlatTouch_memStep (memStep_ite (cowWrite_memStep h) h)) h

/-! ### Reads and writes of ranges -/

theorem notePhys_memStep {p n : Nat} (h : MemStep c d) : MemStep c (d.notePhys p n) := by
  unfold Chip.notePhys
  extract_lets settled _ _ counted
  have hsettled : MemStep c settled := settle_memStep h
  have hcounted : MemStep c counted := memStep_ite hsettled (count_memStep hsettled)
  exact memStep_ite hcounted (count_memStep hcounted)

/-- The effects of a read of a range are those of a memory access. -/
theorem noteRead_memStep {a n : Nat} (h : MemStep c d) : MemStep c (d.noteRead a n) := by
  unfold Chip.noteRead
  refine memStep_foldl (fun e s he => ?_) h
  split
  · exact he
  · exact notePhys_memStep (touchPage_memStep he)

theorem writeRangeAux_memStep {k a : Nat} {bs : List (Nat × Bool)} (h : MemStep c d) : MemStep c (d.writeRangeAux k a bs) := by
  induction k generalizing d a bs with
  | zero => exact h
  | succ k ih =>
    unfold Chip.writeRangeAux
    refine memStep_ite h (memStep_ite (ih ?_) (writePhys_memStep h))
    have touched := touchPage_memStep (a := a) (write := true) h
    split
    · exact memStep_ite (count_memStep touched) (writePhys_memStep touched)
    · exact touched

theorem translate_memStep {a n : Nat} (h : MemStep c d) : MemStep c (d.translate a n) := by
  unfold Chip.translate
  extract_lets _
  split
  · exact h
  · exact memStep_ite h (memStep_foldl (fun _ _ he => memStep_ite he (count_memStep he.elsewhere)) h)

theorem markDirty_memStep {a n : Nat} (h : MemStep c d) : MemStep c (d.markDirty a n) := by
  unfold Chip.markDirty
  extract_lets _
  split
  · exact h
  · split
    · exact h
    · extract_lets _ _ _ marked
      have hmarked : MemStep c marked := memStep_foldl (fun _ _ he => writePhys_memStep he) h
      exact memStep_ite (count_memStep hmarked) hmarked

/-- A write of a range is a memory access. -/
theorem writeRange_memStep {a : Nat} {bs : List (Nat × Bool)} (h : MemStep c d) : MemStep c (d.writeRange a bs) :=
  writeRangeAux_memStep (memStep_ite (markDirty_memStep (translate_memStep h)) h)

theorem poisonLine_memStep {a : Nat} (h : MemStep c d) : MemStep c (d.poisonLine a) := by
  unfold Chip.poisonLine
  split
  · exact h
  · exact memStep_ite h (memStep_foldl (fun _ _ he => he.elsewhere) h)

end

end Sys2Proof.Machine
end

section
/-! Obligation O10: the run of an operator of the menu on a core (R131, R136, R140, R141, R147, R151, R157). -/
namespace Sys2Proof.Machine
open Sys2Proof

section
variable {c d : Chip}

/-! ### What a run's reads and writes leave of the ledger and the work cores -/

theorem charge_memStep {p : Nat} {u : PlanUse} (h : MemStep c d) : MemStep c (d.charge p u) := by
  unfold Chip.charge
  split
  · exact h
  · exact memStep_ite h.elsewhere h.elsewhere

theorem hostReads_memStep {i : Item} (h : MemStep c d) : MemStep c (d.hostReads i) :=
  memStep_foldl (fun _ _ he => memStep_ite he (translate_memStep he).elsewhere) h

theorem workWrites_memStep {x : Desc} {core ofs : Nat} {ws : List (Nat × List PByte)} (h : MemStep c d) :
    MemStep c (d.workWrites x core ofs ws).1 := by
  induction ws generalizing d ofs with
  | nil => exact h
  | cons w ws ih =>
    unfold Chip.workWrites
    extract_lets
    split
    · exact ih (writePhys_memStep h)
    · exact ih (writeRange_memStep h)

theorem poisonEnds_memStep {a : Nat} {bs : List PByte} (h : MemStep c d) : MemStep c (d.poisonEnds a bs) := by
  have first : MemStep c (if bs.head?.any (·.2) then d.poisonLine a else d) := memStep_ite (poisonLine_memStep h) h
  exact memStep_ite (poisonLine_memStep first) first

/-! ### Dispatch (R151) -/

/-- A dispatched item is RUNNING on its core, and no other item has changed. -/
theorem dispatch_items (d : Chip) (i : Item) (core : Nat) :
    (d.dispatch i core).led.items = (d.updItem i.seq fun j => { j with state := .running, owner := core }).led.items := by
  unfold Chip.dispatch
  extract_lets _ taken held counted _
  have hcounted : MemStep taken counted := memStep_ite (count_memStep (sr_memStep (.refl _))) (sr_memStep (.refl _))
  exact (hostReads_memStep (.refl _)).items.trans hcounted.items

/-- Of the work cores, a dispatch changes the item's run alone, and that is on its core. -/
theorem dispatch_wk (d : Chip) (i : Item) (core : Nat) :
    ∃ r : WorkRun, r.core = core ∧ (d.dispatch i core).wk = { d.wk with runs := tput d.wk.runs i.seq r } := by
  unfold Chip.dispatch
  extract_lets _ taken held counted run
  have hcounted : MemStep taken counted := memStep_ite (count_memStep (sr_memStep (.refl _))) (sr_memStep (.refl _))
  have wk : counted.wk = d.wk := hcounted.wk
  refine ⟨run, rfl, (hostReads_memStep (.refl _)).wk.trans ?_⟩
  show { counted.wk with runs := tput counted.wk.runs i.seq run } = _
  rw [wk]

theorem dispatch_item {d : Chip} {i : Item} (hi : d.item i.seq = some i) (core : Nat) :
    (d.dispatch i core).item i.seq = some { i with state := .running, owner := core } := by
  have same : (d.dispatch i core).item i.seq = (d.updItem i.seq fun j => { j with state := .running, owner := core }).item i.seq := by
    simp only [Chip.item, dispatch_items]
  rw [same, Chip.updItem, item_mapItems (fun j => by split <;> rfl), hi, Option.map_some, if_pos rfl]

theorem dispatch_ids (d : Chip) (i : Item) (core : Nat) : (d.dispatch i core).ids = d.ids := by
  have same : (d.dispatch i core).ids = (d.updItem i.seq fun j => { j with state := .running, owner := core }).ids := by
    simp only [Chip.ids, dispatch_items]
  exact same.trans (ids_mapItems fun j => by split <;> rfl)

/-- The operator's view is the dispatched item's chip after the reads of its sources. -/
theorem opView_memStep (d : Chip) (i : Item) (core : Nat) : MemStep (d.dispatch i core) (d.opView i core) :=
  memStep_foldl (fun _ _ he => noteRead_memStep he) (memStep_foldl (fun _ _ he => memStep_ite he (noteRead_memStep he)) (.refl _))

theorem opView_core (d : Chip) (i : Item) (core : Nat) : ((tget (d.opView i core).wk.runs i.seq).getD {}).core = core := by
  obtain ⟨r, hcore, hwk⟩ := dispatch_wk d i core
  rw [(opView_memStep d i core).wk, hwk, tget_tput_self, Option.getD_some, hcore]

/-! ### The outcome of a run (R131, R157) -/

/-- An item's run kept as it ended, and the reply it has earned. -/
def Chip.earned (d : Chip) (seq : Nat) (r : WorkRun) : Chip :=
  { d with wk := { d.wk with runs := tput d.wk.runs seq r } }.updItem seq fun i => { i with fin := some (workReply r) }

theorem earned_item {d : Chip} {seq : Nat} {i : Item} (hi : d.item seq = some i) (r : WorkRun) :
    (d.earned seq r).item seq = some { i with fin := some (workReply r) } := by
  have hq : i.seq = seq := by simpa using List.find?_some hi
  have hi' : Chip.item { d with wk := { d.wk with runs := tput d.wk.runs seq r } } seq = some i := hi
  rw [Chip.earned, Chip.updItem, item_mapItems (fun j => by split <;> rfl), hi', Option.map_some, if_pos hq]

theorem earned_ids (d : Chip) (seq : Nat) (r : WorkRun) : (d.earned seq r).ids = d.ids := ids_mapItems fun j => by split <;> rfl

/-- A run that does not fail: after its writes, the item has earned the reply of the run. -/
theorem applyRun_earned {d : Chip} {i : Item} {core : Nat} {o : WorkOut} (hf : o.fail = 0) :
    ∃ (e : Chip) (r : WorkRun), MemStep d e ∧ d.applyRun i core o = e.earned i.seq r ∧ r.core = ((tget d.wk.runs i.seq).getD {}).core ∧
      r.flags = o.flags ∧ r.outLen = o.outLen % 2 ^ 32 ∧ r.result = o.result % 2 ^ 64 := by
  unfold Chip.applyRun
  extract_lets lost use w written charged r0 r _
  have hwritten : MemStep d written :=
    memStep_foldl (fun _ _ he => memStep_ite he (poisonEnds_memStep he)) (workWrites_memStep (.refl _))
  have hcharged : MemStep d charged := charge_memStep hwritten.elsewhere
  rw [if_neg (by simp [hf])]
  refine ⟨charged, r, hcharged, rfl, ?_, rfl, rfl, rfl⟩
  show ((tget charged.wk.runs i.seq).getD {}).core = _
  rw [hcharged.wk]

end

/-! ### The operators' commands -/

/-- Each command of the menu is the run of its operator. -/
theorem exec_opMenu {o : MenuRow} (ho : o ∈ opMenu) (s : State) (seq : Nat) (core : Fin 64) :
    exec (o.cmd seq core) s = s.on fun d => d.runWork seq core.val o.code fun d i => o.run d i core.val seq := by
  have rows : opMenu.Forall fun o => exec (o.cmd seq core) s = s.on fun d => d.runWork seq core.val o.code fun d i => o.run d i core.val seq :=
    ⟨rfl, rfl, rfl, rfl, rfl, rfl, rfl, rfl, rfl, rfl, rfl, rfl, rfl, rfl, rfl, rfl, rfl⟩
  exact List.forall_iff_forall_mem.mp rows o ho

/-- The run of an item that may run: it is withdrawn where it touches an unmapped page. -/
theorem runWork_of_canRun {d : Chip} {i : Item} {core op : Nat} (hi : d.item i.seq = some i) (hc : canRun d i core op = true)
    (f : Chip → Item → WorkOut) :
    d.runWork i.seq core op f = if (workRanges i).any (fun r => (d.dispatch i core).unmapped r.addr r.bytes) then
      (d.dispatch i core).withdraw i.seq Code.MEM_UNMAPPED else (d.opView i core).applyRun i core (f (d.opView i core) i) := by
  simp only [Chip.runWork, hi, hc, Bool.not_true, Bool.false_eq_true, if_false]

theorem completes_opMenu {o : MenuRow} (ho : o ∈ opMenu) {s : State} {i : Item} {core : Fin 64} (hi : s.chip.item i.seq = some i)
    (hc : canRun s.chip i core.val o.code = true) (P : Chip → Prop) :
    Completes (o.cmd i.seq core) s P ↔ P (if (workRanges i).any (fun r => (s.chip.dispatch i core.val).unmapped r.addr r.bytes) then
      (s.chip.dispatch i core.val).withdraw i.seq Code.MEM_UNMAPPED
      else (s.chip.opView i core.val).applyRun i core.val (o.run (s.chip.opView i core.val) i core.val i.seq)) := by
  rw [completes_iff_of_on (exec_opMenu ho s i.seq core), runWork_of_canRun hi hc]

/-- An item that runs to its end is RUNNING on its core with the reply its run has earned, and no item is added or lost. -/
theorem applyRun_opView {d : Chip} {i : Item} {core : Nat} {o : WorkOut} (hi : d.item i.seq = some i) (hf : o.fail = 0) :
    ∃ (j : Item) (r : WorkRun), ((d.opView i core).applyRun i core o).item i.seq = some j ∧ j.state = .running ∧ j.owner = core ∧
      j.fin = some (workReply r) ∧ r.core = core ∧ r.flags = o.flags ∧ r.outLen = o.outLen % 2 ^ 32 ∧ r.result = o.result % 2 ^ 64 ∧
      ((d.opView i core).applyRun i core o).ids = d.ids := by
  obtain ⟨e, r, hstep, hrun, hcore, hflags, hout, hres⟩ := applyRun_earned (d := d.opView i core) (i := i) (core := core) hf
  have onCore : e.item i.seq = some { i with state := .running, owner := core } := by
    rw [hstep.item, (opView_memStep d i core).item, dispatch_item hi]
  have ids : e.ids = d.ids := by rw [hstep.ids, (opView_memStep d i core).ids, dispatch_ids]
  rw [hrun]
  exact ⟨_, r, earned_item onCore r, rfl, rfl, rfl, hcore.trans (opView_core d i core), hflags, hout, hres, (earned_ids e i.seq r).trans ids⟩

/-! ### REDUCE_ARRIVE (R137) -/

/-- The accumulator of an item opened, without a contribution. -/
def Chip.arriveOpened (d : Chip) (seq : Nat) : Chip := { d with wk := { d.wk with arrive := tput d.wk.arrive seq [] } }

/-- REDUCE_ARRIVE of an item without an accumulator operand, whose contributions are still to come. -/
theorem completes_reduceArrive {s : State} {i : Item} {core : Fin 64} (hi : s.chip.item i.seq = some i)
    (hc : canRun s.chip i core.val 0x04 = true) (ha : i.body.addrA = 0) (hn : tget s.chip.wk.arrive i.seq = none) (P : Chip → Prop) :
    Completes (.reduceArrive i.seq core) s P ↔
      P (((s.chip.dispatch i core.val).arriveOpened i.seq).arriveDone i.seq core.val) := by
  obtain ⟨r, -, hwk⟩ := dispatch_wk s.chip i core.val
  have hn' : tget (s.chip.dispatch i core.val).wk.arrive i.seq = none := by rw [hwk]; exact hn
  have runs : exec (.reduceArrive i.seq core) s = execReduceArrive i.seq core s := rfl
  rw [completes_iff_of_on (runs.trans rfl)]
  simp only [hi, hc, ha, hn', Bool.not_true, Bool.false_eq_true, if_false, if_true, Option.isSome_none, Chip.arriveOpened]

/-- With a contribution outstanding nothing is written yet. -/
theorem arriveDone_waits {d : Chip} {seq core : Nat} {i : Item} (hi : d.item seq = some i) (hk : 0 < i.body.contrib) (hl : 0 < i.body.len) :
    (d.arriveOpened seq).arriveDone seq core = d.arriveOpened seq := by
  have hi : (d.arriveOpened seq).item seq = some i := hi
  have ha : tget (d.arriveOpened seq).wk.arrive seq = some [] := tget_tput_self _ _ _
  simp only [Chip.arriveDone, hi, ha, Option.getD_some, List.length_nil]
  rw [if_neg]
  rintro ⟨-, -, h0 | ⟨h1, -⟩⟩ <;> omega

/-- Settles O10: a command of the menu is its operator's run (`completes_opMenu`), which leaves the item on its core with its reply
(`applyRun_opView`); a REDUCE_ARRIVE with contributions outstanding stops after its dispatch (`arriveDone_waits`). -/
theorem operatorsRun : Obligations.OperatorsRun := by
  unfold Obligations.OperatorsRun
  refine ⟨fun o ho s i core hi hc hu hf => ?_, fun o ho s i core hi hc hu => ?_, fun o ho s i core hi hc hu => ?_,
    fun s i core hi hc ha hn hk hl => ?_⟩
  · rw [completes_opMenu ho hi hc, hu]
    obtain ⟨j, r, hj, hst, hown, hfin, hcore, hflags, hout, hres, hids⟩ := applyRun_opView (core := core.val) hi hf
    exact ⟨j, r, hj, hst, hown, hfin, hcore, hflags, hout, hres, hids, rfl⟩
  · rw [completes_opMenu ho hi hc, hu]
    rfl
  · rw [completes_opMenu ho hi hc, hu]
    rfl
  · have onCore := dispatch_item hi core.val
    rw [completes_reduceArrive hi hc ha hn, arriveDone_waits onCore hk hl]
    exact ⟨_, onCore, rfl, rfl, rfl, tget_tput_self _ _ _, dispatch_ids s.chip i core.val⟩

end Sys2Proof.Machine
end

section
/-! What a fault event leaves of the work cores: the registers of their block, and so the states they report (R617 to R629). -/
namespace Sys2Proof.Machine
open Sys2Proof

/-- A field of the WKC block of BAR0 (R661). -/
def inWkc (f : Fld) : Bool := decide (0x280_0000 ≤ f.bit) && decide (f.bit < 0x300_0000)

/-- Every field of the WKC block reads as it did. -/
def WkcKept (c d : Chip) : Prop := ∀ g, inWkc g = true → d.rg g = c.rg g

theorem WkcKept.refl (c : Chip) : WkcKept c c := fun _ _ => rfl

theorem wkcKept_ite {c a b : Chip} {q : Prop} [Decidable q] (h : WkcKept c a) (k : WkcKept c b) : WkcKept c (if q then a else b) := by
  split <;> assumption

theorem inWkc_iff {f : Fld} : inWkc f = true ↔ 0x280_0000 ≤ f.bit ∧ f.bit < 0x300_0000 := by
  simp [inWkc]

theorem not_inWkc_iff {f : Fld} : inWkc f = false ↔ f.bit < 0x280_0000 ∨ 0x300_0000 ≤ f.bit := by
  rw [← Bool.not_eq_true, inWkc_iff]
  omega

/-- A field of a fault source's state lies in FLT. -/
theorem inWkc_srcState {s k w r : Nat} (hs : s < 768) (hk : k < 64) : inWkc ⟨8 * (0x204000 + s * 8) + k, w, r⟩ = false :=
  not_inWkc_iff.mpr (.inl (by show 8 * (0x204000 + s * 8) + k < _; omega))

/-- A field of an entry of the fault history lies in FLT. -/
theorem inWkc_hist {e k w r : Nat} (he : e < 32) (hk : k < 128) : inWkc ⟨8 * (0x200800 + e * 0x10) + k, w, r⟩ = false :=
  not_inWkc_iff.mpr (.inl (by show 8 * (0x200800 + e * 0x10) + k < _; omega))

theorem inWkc_srcEvents {s : Nat} (hs : s < 768) : inWkc (Reg.FLT_SRC_EVENTS.COUNT s) = false :=
  not_inWkc_iff.mpr (.inl (by show 8 * (0x206000 + s * 8) < _; omega))

theorem inWkc_satLog (e : Nat) : inWkc (Reg.OBS_SAT_LOG.OFFSET e) = false :=
  not_inWkc_iff.mpr (.inr (by show _ ≤ 8 * (0x1100100 + e * 4); omega))

section
variable {c d : Chip}

theorem WkcKept.of_regs {e : Chip} (h : WkcKept c d) (hr : e.regs = d.regs) : WkcKept c e := fun g hg => (rg_of_regs hr g).trans (h g hg)

theorem WkcKept.agentSt (h : WkcKept c d) (n : Fin 64) : d.agentSt (.wc n) = c.agentSt (.wc n) := by
  have field : inWkc (Reg.WKC_STATE.STATE n) = true := inWkc_iff.mpr (by simp only [Reg.WKC_STATE.STATE]; omega)
  simp only [Chip.agentSt, h _ field]

theorem sr_wkcKept {f : Fld} {v : Nat} (hf : inWkc f = false) (h : WkcKept c d) : WkcKept c (d.sr f v) := fun g hg =>
  (rg_sr_ne d f g v fun e => by simp [inWkc, e] at hf hg; omega).trans (h g hg)

theorem setBit_wkcKept {f : Fld} {i : Nat} {b : Bool} (hf : inWkc f = false) (h : WkcKept c d) : WkcKept c (d.setBit f i b) := sr_wkcKept hf h

theorem attnUpdate_wkcKept (h : WkcKept c d) : WkcKept c d.attnUpdate := by
  have fields : WkcKept c (((d.sr Reg.GLB_ATTN.LEVEL d.attnLevel).sr Reg.GLB_ATTN.CLASS d.attnClass).sr Reg.GLB_ATTN.ACTIVE d.attnActive) :=
    sr_wkcKept (by decide) (sr_wkcKept (by decide) (sr_wkcKept (by decide) h))
  exact wkcKept_ite (fields.of_regs rfl) fields

theorem raiseAttn_wkcKept {why : Attn} {l : Level} {cls : Nat} (h : WkcKept c d) : WkcKept c (d.raiseAttn why l cls) :=
  attnUpdate_wkcKept (wkcKept_ite h (h.of_regs rfl))

theorem note_wkcKept {cls : Nat} (h : WkcKept c d) : WkcKept c (d.note cls) := attnUpdate_wkcKept (setBit_wkcKept (by decide) h)

theorem hubInterrupt_wkcKept (h : WkcKept c d) : WkcKept c d.hubInterrupt := (setBit_wkcKept (by decide) h).of_regs rfl

theorem hubNmi_wkcKept (h : WkcKept c d) : WkcKept c d.hubNmi := (setBit_wkcKept (by decide) h).of_regs rfl

theorem enterSafe_wkcKept {cause : Nat} {boot : Bool} (h : WkcKept c d) : WkcKept c (d.enterSafe cause boot) := by
  unfold Chip.enterSafe
  extract_lets safe _ kept closed
  have hsafe : WkcKept c safe := sr_wkcKept (by decide) (sr_wkcKept (by decide) (sr_wkcKept (by decide) h))
  have hkept : WkcKept c kept := hsafe.of_regs rfl
  exact raiseAttn_wkcKept (sr_wkcKept (by decide) (sr_wkcKept (by decide) hkept))

/-- A reset of a block or of an Armature core writes no field of the WKC block. -/
theorem resetAgent_wkcKept {a : Agent} (ha : ∀ n, a ≠ .wc n) (h : WkcKept c d) : WkcKept c (d.resetAgent a) := by
  cases a with
  | block b => exact h.of_regs rfl
  | wc n => exact absurd rfl (ha n)
  | ac n =>
    have field : inWkc (Reg.AMT_CORE_STATE.STATE n) = false := by
      revert n
      decide
    exact (sr_wkcKept (v := 2) field h).of_regs rfl

/-- BLOCK_RESET of a work core that runs begins its fence, and writes no field of the WKC block. -/
theorem blockReset_wkcKept {a : Agent} (ha : ∀ n, a = .wc n → c.agentSt (.wc n) = .running) (h : WkcKept c d) : WkcKept c (d.blockReset a) := by
  unfold Chip.blockReset
  split
  · exact h.of_regs rfl
  · next hs =>
    refine wkcKept_ite h (resetAgent_wkcKept (fun n e => ?_) h)
    have runs := (h.agentSt n).trans (ha n e)
    rw [← e, hs] at runs
    exact absurd runs (by decide)
  · exact h
  · exact h

/-- A reaction of the hub, to a source whose agent is no work core, or one that runs. -/
theorem react_wkcKept {s r : Nat} (hs : ∀ n, agentOfSource s = .wc n → c.agentSt (.wc n) = .running) (h : WkcKept c d) :
    WkcKept c (d.react s r) := by
  unfold Chip.react
  split
  · exact hubInterrupt_wkcKept h
  · exact hubNmi_wkcKept h
  · exact note_wkcKept (hubInterrupt_wkcKept (blockReset_wkcKept hs h))
  · exact (raiseAttn_wkcKept h).of_regs rfl
  · exact hubNmi_wkcKept (raiseAttn_wkcKept (h.of_regs rfl))
  · exact enterSafe_wkcKept h
  · exact h

theorem history_wkcKept {source detail reaction : Nat} {graceEnd handled held severe injected safe : Bool} (h : WkcKept c d) :
    WkcKept c (d.history source detail reaction graceEnd handled held severe injected safe) := by
  have he : d.rg Reg.FLT_HIST_HEAD.HEAD % 32 < 32 := Nat.mod_lt _ (by decide)
  have two {x : Chip} {k l w u v z : Nat} (hk : k < 128) (hl : l < 128) (hx : WkcKept c x) : WkcKept c
      ((x.sr ⟨8 * (0x200800 + d.rg Reg.FLT_HIST_HEAD.HEAD % 32 * 0x10) + k, w, 0⟩ v).sr
        ⟨8 * (0x200800 + d.rg Reg.FLT_HIST_HEAD.HEAD % 32 * 0x10) + l, u, 0⟩ z) :=
    sr_wkcKept (inWkc_hist he hl) (sr_wkcKept (inWkc_hist he hk) hx)
  unfold Chip.history
  extract_lets _ d1 d2 d3 d4 d5
  have h1 : WkcKept c d1 := two (by decide) (by decide) h
  have h2 : WkcKept c d2 := two (by decide) (by decide) h1
  have h3 : WkcKept c d3 := two (by decide) (by decide) h2
  have h4 : WkcKept c d4 := two (by decide) (by decide) h3
  have h5 : WkcKept c d5 := two (by decide) (by decide) h4
  exact sr_wkcKept (by decide) (sr_wkcKept (inWkc_hist he (k := 0) (by decide)) h5)

theorem satMark_wkcKept {f : Fld} (h : WkcKept c d) : WkcKept c (d.satMark f) :=
  sr_wkcKept (by decide) (sr_wkcKept (inWkc_satLog _) (setBit_wkcKept (by decide) (h.of_regs rfl)))

theorem bump_wkcKept {f : Fld} {n : Nat} (hf : inWkc f = false) (h : WkcKept c d) : WkcKept c (d.bump f n) :=
  wkcKept_ite (wkcKept_ite h (satMark_wkcKept h)) (sr_wkcKept hf h)

theorem window_wkcKept {s : Nat} (hs : s < 768) (h : WkcKept c d) : WkcKept c (d.window s) := by
  have state {x : Chip} {k w v : Nat} (hk : k < 64) (hx : WkcKept c x) : WkcKept c (x.sr ⟨8 * (0x204000 + s * 8) + k, w, 0⟩ v) :=
    sr_wkcKept (inWkc_srcState hs hk) hx
  unfold Chip.window
  extract_lets _ _ _ counted
  have hcounted : WkcKept c counted := wkcKept_ite (state (by decide) (state (by decide) h)) (state (by decide) h)
  exact wkcKept_ite h (wkcKept_ite (state (by decide) hcounted) hcounted)

theorem hold_wkcKept {s r detail : Nat} {inj : Bool} (hs : s < 768) (h : WkcKept c d) : WkcKept c (d.hold s r detail inj) :=
  sr_wkcKept (by decide) (hubNmi_wkcKept (sr_wkcKept (inWkc_srcState hs (by decide)) (wkcKept_ite (h.of_regs rfl) (h.of_regs rfl))))

/-- An event of a source whose agent is no work core, or one that runs. -/
theorem raiseCore_wkcKept {s detail : Nat} {inj : Bool} (hs : s < 768) (ha : ∀ n, agentOfSource s = .wc n → c.agentSt (.wc n) = .running)
    (h : WkcKept c d) : WkcKept c (d.raiseCore s detail inj) := by
  unfold Chip.raiseCore
  extract_lets counted windowed _ traced _ _
  have hcounted : WkcKept c counted := bump_wkcKept (inWkc_srcEvents hs) (sr_wkcKept (inWkc_srcState hs (k := 0) (by decide)) h)
  have hwindowed : WkcKept c windowed := window_wkcKept hs hcounted
  have htraced : WkcKept c traced := wkcKept_ite (hwindowed.of_regs rfl) hwindowed
  exact wkcKept_ite (history_wkcKept htraced)
    (wkcKept_ite (hold_wkcKept hs (history_wkcKept htraced)) (react_wkcKept ha (history_wkcKept htraced)))

/-- An event of OBS_COUNTER_SAT. -/
theorem raiseSat_wkcKept {detail : Nat} {inj : Bool} (h : WkcKept c d) : WkcKept c (d.raiseCore Src.OBS_COUNTER_SAT detail inj) :=
  raiseCore_wkcKept (by decide) (fun n e => by rw [show agentOfSource Src.OBS_COUNTER_SAT = .block .obs from rfl] at e; cases e) h

theorem count_wkcKept {f : Fld} {n : Nat} (hf : inWkc f = false) (h : WkcKept c d) : WkcKept c (d.count f n) :=
  wkcKept_ite (raiseSat_wkcKept (bump_wkcKept (by decide) (bump_wkcKept hf h))) (bump_wkcKept hf h)

theorem wake_wkcKept (h : WkcKept c d) : WkcKept c d.wake :=
  wkcKept_ite (count_wkcKept (by decide) (h.of_regs rfl)) (wkcKept_ite (count_wkcKept (by decide) (h.of_regs rfl)) h)

theorem fault_wkcKept {s detail : Nat} {inj : Bool} (hs : s < 768) (ha : ∀ n, agentOfSource s = .wc n → c.agentSt (.wc n) = .running)
    (h : WkcKept c d) : WkcKept c (d.fault s detail inj) := by
  have raised : WkcKept c (d.wake.raiseCore s detail inj) := raiseCore_wkcKept hs ha (wake_wkcKept h)
  exact wkcKept_ite (raiseSat_wkcKept raised) raised

theorem patEvent_wkcKept {type : Nat} {body : List Nat} (h : WkcKept c d) : WkcKept c (d.patEvent type body) :=
  wkcKept_ite (count_wkcKept (by decide) (sr_wkcKept (by decide) (h.of_regs rfl))) (h.of_regs rfl)

end

end Sys2Proof.Machine
end

section
/-! Obligation O12: the faults, the self test and the pool of the work cores (R126, R160, R163 to R166). -/
namespace Sys2Proof.Machine
open Sys2Proof

/-! ### Faults of a work core -/

/-- Fault sources 8n to 8n + 7 are those of work core n (R617). -/
theorem agentOfSource_wc (n : Fin 64) {k : Nat} (hk : k < 8) : agentOfSource (8 * n + k) = .wc n := by
  rw [agentOfSource, dif_pos (by omega)]
  congr 1
  exact Fin.ext (by show (8 * n.val + k) / 8 = n.val; omega)

/-- A work core that runs still runs after an event of its sources. -/
theorem fault_agentSt_wc {d : Chip} {n : Fin 64} (hr : d.agentSt (.wc n) = .running) {k : Nat} (hk : k < 8) (detail : Nat) :
    (d.fault (8 * n + k) detail).agentSt (.wc n) = .running := by
  have kept : WkcKept d (d.fault (8 * n + k) detail) := by
    refine fault_wkcKept (by omega) (fun m e => ?_) (.refl d)
    rw [agentOfSource_wc n hk] at e
    cases e
    exact hr
  rw [kept.agentSt n, hr]

theorem fenceCore_wc (d : Chip) (n : Fin 64) :
    d.fenceCore n.val = if d.agentSt (.wc n) = .running ∧ !(d.agentRec (.wc n)).fencing then d.beginFence (.wc n) false else d := by
  have core (h : n.val % 64 < 64) : (⟨n.val % 64, h⟩ : Fin 64) = n := Fin.ext (Nat.mod_eq_of_lt n.isLt)
  simp only [Chip.fenceCore, core]

theorem fenceCore_frame (d : Chip) (n : Fin 64) : Frame [.agents] d (d.fenceCore n.val) := by
  rw [fenceCore_wc]
  exact Frame.ite (beginFence_frame d _ _) (.refl _ d)

theorem fenceCore_fencing {d : Chip} {n : Fin 64} (hr : d.agentSt (.wc n) = .running) :
    ((d.fenceCore n.val).agentRec (.wc n)).fencing = true := by
  rw [fenceCore_wc]
  split
  · rw [agentRec_beginFence]
  · next h => simpa [hr] using h

/-- A fault of a work core that runs fences it, and touches neither the ledger nor the plans. -/
theorem fault_fenceCore {d : Chip} {n : Fin 64} (hr : d.agentSt (.wc n) = .running) {k : Nat} (hk : k < 8) (detail : Nat) :
    (((d.fault (8 * n + k) detail).fenceCore n.val).agentRec (.wc n)).fencing = true ∧
      ((d.fault (8 * n + k) detail).fenceCore n.val).led = d.led ∧ ((d.fault (8 * n + k) detail).fenceCore n.val).ldr = d.ldr := by
  have frame : Frame (hubParts ++ [.agents]) d ((d.fault (8 * n + k) detail).fenceCore n.val) :=
    ((fault_frame d _ _).mono (by decide)).trans ((fenceCore_frame _ n).mono (by decide))
  exact ⟨fenceCore_fencing (fault_agentSt_wc hr hk detail), frame .led (by decide), frame .ldr (by decide)⟩

/-- The four faults of a core that name no unit: their commands and sources. -/
def coreFaultCmds (n : Fin 64) : List (Instr × Nat) :=
  [(.wcUnitParity n, Src.WC_UNIT_PARITY n), (.wcQueueParity n, Src.WC_QUEUE_PARITY n), (.wcNocCredit n, Src.WC_NOC_CREDIT n),
    (.wcGateFail n, Src.WC_GATE_FAIL n)]

theorem completes_coreFault {n : Fin 64} {c : Instr × Nat} (hc : c ∈ coreFaultCmds n) (s : State) (P : Chip → Prop) :
    Completes c.1 s P ↔ P ((s.chip.fault c.2).fenceCore n.val) := by
  have execs : (coreFaultCmds n).Forall fun c => exec c.1 s = s.on fun d => (d.fault c.2).fenceCore n.val := ⟨rfl, rfl, rfl, rfl⟩
  exact completes_iff_of_on (List.forall_iff_forall_mem.mp execs c hc) P

theorem coreFault_source {n : Fin 64} {c : Instr × Nat} (hc : c ∈ coreFaultCmds n) : ∃ k < 8, c.2 = 8 * n.val + k := by
  have sources : (coreFaultCmds n).Forall fun c => ∃ k < 8, c.2 = 8 * n.val + k :=
    ⟨⟨2, by decide, rfl⟩, ⟨4, by decide, rfl⟩, ⟨5, by decide, rfl⟩, ⟨6, by decide, rfl⟩⟩
  exact List.forall_iff_forall_mem.mp sources c hc

/-- Each of the four fences a core that runs. -/
theorem coreFault_fences {s : State} {n : Fin 64} (hr : s.chip.agentSt (.wc n) = .running) {c : Instr} (hc : c ∈ (coreFaultCmds n).map Prod.fst) :
    Completes c s fun d => (d.agentRec (.wc n)).fencing = true ∧ d.led = s.chip.led ∧ d.ldr = s.chip.ldr := by
  obtain ⟨p, hp, rfl⟩ := List.mem_map.mp hc
  obtain ⟨k, hk, hsrc⟩ := coreFault_source hp
  rw [completes_coreFault hp, hsrc]
  exact fault_fenceCore hr hk 0

section
variable {s : State} {n : Fin 64} (P : Chip → Prop)

theorem completes_wcItemHang (u : Fin 4) : Completes (.wcItemHang n u) s P ↔ P (if s.chip.rg (Reg.WKC_UNIT_SEQ.SEQ n.val u.val) = 0 then s.chip
    else (s.chip.fault (Src.WC_ITEM_HANG n.val) u.val).fenceCore n.val) :=
  completes_iff_of_on (f := fun d => if d.rg (Reg.WKC_UNIT_SEQ.SEQ n.val u.val) = 0 then d
    else (d.fault (Src.WC_ITEM_HANG n.val) u.val).fenceCore n.val) rfl P

theorem completes_operandBufferCrc (l : Fin 16384) (u : Fin 4) :
    Completes (.operandBufferCrc n (l, u)) s P ↔ P (operandBufferCrc s.chip n.val l.val u.val) :=
  completes_iff_of_on (f := fun d => operandBufferCrc d n.val l.val u.val) rfl P

theorem completes_selftest : Completes (.selftest n) s P ↔ P (if s.chip.rg (Reg.WKC_STATE.STATE n.val) = 1 then
      (s.chip.sr (Reg.WKC_STATE.SELFTEST n.val) 3).answered (.wc n) true else s.chip.answered (.wc n) false) :=
  completes_iff_of_on (f := fun d => if d.rg (Reg.WKC_STATE.STATE n.val) = 1 then
    (d.sr (Reg.WKC_STATE.SELFTEST n.val) 3).answered (.wc n) true else d.answered (.wc n) false) rfl P

theorem completes_selftestComplete (p : Bool) : Completes (.selftestComplete n p) s P ↔
    P (if s.chip.rg (Reg.WKC_STATE.SELFTEST n.val) = 3 then s.chip.sr (Reg.WKC_STATE.SELFTEST n.val) (if p then 1 else 2) else s.chip) :=
  completes_iff_of_on (f := fun d => if d.rg (Reg.WKC_STATE.SELFTEST n.val) = 3 then
    d.sr (Reg.WKC_STATE.SELFTEST n.val) (if p then 1 else 2) else d) rfl P

theorem completes_retire : Completes (.retire n) s P ↔ P (if s.chip.rg (Reg.WKC_STATE.STATE n.val) = 1 then
      (s.chip.retireCore n.val).answered (.wc n) true else s.chip.answered (.wc n) false) :=
  completes_iff_of_on (f := fun d => if d.rg (Reg.WKC_STATE.STATE n.val) = 1 then
    (d.retireCore n.val).answered (.wc n) true else d.answered (.wc n) false) rfl P

theorem completes_promote (id pos : Nat) : Completes (.promote n id pos) s P ↔ P (promote s.chip id pos (.wc n)) :=
  completes_iff_of_on (f := fun d => promote d id pos (.wc n)) rfl P

end

/-- The failures of a line within a unit's item, after one more: the third fences the core (R126). -/
def Chip.lineFailed (d : Chip) (n line unit : Nat) : Chip :=
  let q := d.rg (Reg.WKC_UNIT_SEQ.SEQ n unit)
  let here (p : ObLine) : Bool := p.core = n && p.line = line
  let k := ((d.wk.obFail.find? (fun p => here p && p.seq = q)).map (·.count)).getD 0 + 1
  let d := { d with wk := { d.wk with obFail := ⟨n, line, q, k⟩ :: d.wk.obFail.filter (fun p => !here p) } }
  if k = 3 then (d.fault (Src.WC_OB_STUCK n) line).fenceCore n else d

theorem operandBufferCrc_eq (d : Chip) (n l u : Nat) :
    operandBufferCrc d n l u = ((d.count (Reg.WKC_OB_REFETCH.COUNT n)).fault (Src.WC_OB_CRC n) l).lineFailed n l u := rfl

/-- The first failure, where none of any line is kept, is counted and fences nothing. -/
theorem lineFailed_first {d : Chip} (ho : d.wk.obFail = []) (n l u : Nat) :
    (d.lineFailed n l u).wk.obFail = [⟨n, l, d.rg (Reg.WKC_UNIT_SEQ.SEQ n u), 1⟩] ∧ (d.lineFailed n l u).led = d.led := by
  simp [Chip.lineFailed, ho]

theorem operandBufferCrc_first {d : Chip} (ho : d.wk.obFail = []) (n l u : Nat) :
    ∃ q, (operandBufferCrc d n l u).wk.obFail = [⟨n, l, q, 1⟩] ∧ (operandBufferCrc d n l u).led = d.led := by
  have frame : Frame hubParts d ((d.count (Reg.WKC_OB_REFETCH.COUNT n)).fault (Src.WC_OB_CRC n) l) := (count_frame d _ _).trans (fault_frame _ _ _)
  have wk := congrArg WorkUnit.obFail (frame .wk (by decide))
  obtain ⟨lines, led⟩ := lineFailed_first (wk.trans ho) n l u
  rw [operandBufferCrc_eq]
  exact ⟨_, lines, led.trans (frame .led (by decide))⟩

/-! ### RETIRE -/

theorem syncPool_frame (d : Chip) : Frame [.regs] d d.syncPool :=
  (((sr_frame d _ _).trans (sr_frame _ _ _)).trans (sr_frame _ _ _)).trans (sr_frame _ _ _)

/-- WKC_POOL brought up to date leaves the fields of the cores. -/
theorem rg_syncPool {d : Chip} {f : Fld} (hf : f.bit < Reg.WKC_POOL.IN_SERVICE.bit ∨ Reg.WKC_POOL.RETIRED.bit < f.bit) :
    d.syncPool.rg f = d.rg f := by
  simp only [Reg.WKC_POOL.IN_SERVICE, Reg.WKC_POOL.RETIRED] at hf
  unfold Chip.syncPool
  extract_lets
  rw [rg_sr_ne, rg_sr_ne, rg_sr_ne, rg_sr_ne]
  all_goals
    simp only [Reg.WKC_POOL.IN_SERVICE, Reg.WKC_POOL.SPARES, Reg.WKC_POOL.FENCED, Reg.WKC_POOL.RETIRED]
    omega

theorem retireCore_wc (d : Chip) (n : Fin 64) : d.retireCore n.val =
    ((((((d.sr (Reg.WKC_STATE.ROLE n) 2).setBit Reg.WKC_RETIRE.MASK n true).setBit Reg.WKC_SPARE_MASK.MASK n false).setAgentSt (.wc n) .gated).patEvent
      5 [n.val]).patSet 0x1260 n).syncPool := by
  have core (h : n.val % 64 < 64) : (⟨n.val % 64, h⟩ : Fin 64) = n := Fin.ext (Nat.mod_eq_of_lt n.isLt)
  simp only [Chip.retireCore, core]

theorem retireCore_frame (d : Chip) (n : Fin 64) : Frame hubParts d (d.retireCore n.val) := by
  rw [retireCore_wc]
  refine Frame.trans (Frame.trans (Frame.trans ?_ (patEvent_frame _ _ _)) ((patSet_frame _ _ _).mono (by decide))) ((syncPool_frame _).mono (by decide))
  exact (((sr_hub (by decide) d _ _).trans (setBit_hub (by decide) _ _ _ _)).trans (setBit_hub (by decide) _ _ _ _)).trans
    ((setAgentSt_frame _ _ _).mono (by decide))

/-- What is left of a retirement once the core's registers are written changes no field of the cores. -/
theorem rg_retired {d : Chip} {n : Nat} {f : Fld} (hf : inWkc f = true) (hp : f.bit < Reg.WKC_POOL.IN_SERVICE.bit ∨ Reg.WKC_POOL.RETIRED.bit < f.bit) :
    ((d.patEvent 5 [n]).patSet 0x1260 n).syncPool.rg f = d.rg f := by
  rw [rg_syncPool hp]
  exact ((patEvent_wkcKept (.refl d)).of_regs rfl) f hf

/-- Setting a bit of a mask leaves the other fields. -/
theorem rg_setBit_ne (d : Chip) (f g : Fld) (i : Nat) (b : Bool) (h : g.bit ≠ f.bit) : (d.setBit f i b).rg g = d.rg g := rg_sr_ne d f g _ h

/-- A work core's state is the one it is given. -/
theorem agentSt_setAgentSt_wc (d : Chip) (n : Fin 64) (st : BlockState) : (d.setAgentSt (.wc n) st).agentSt (.wc n) = st := by
  have state : (d.setAgentSt (.wc n) st).rg (Reg.WKC_STATE.STATE n.val) = st.code := by
    simp only [Chip.setAgentSt]
    rw [rg_setBit_ne _ _ _ _ _ (by simp only [Reg.WKC_STATE.STATE, Reg.WKC_FENCED.MASK]; omega), rg_sr_self]
    cases st <;> rfl
  simp only [Chip.agentSt, state]
  cases st <;> rfl

/-- A work core's state and the masks leave its role. -/
theorem rg_role_setAgentSt (d : Chip) (n : Fin 64) (st : BlockState) :
    (d.setAgentSt (.wc n) st).rg (Reg.WKC_STATE.ROLE n.val) = d.rg (Reg.WKC_STATE.ROLE n.val) := by
  simp only [Chip.setAgentSt]
  rw [rg_setBit_ne _ _ _ _ _ (by simp only [Reg.WKC_STATE.ROLE, Reg.WKC_FENCED.MASK]; omega),
    rg_sr_ne _ _ _ _ (by simp only [Reg.WKC_STATE.ROLE, Reg.WKC_STATE.STATE]; omega)]

/-- A retired core is GATED, with ROLE 2 (R163, R164). -/
theorem retireCore_fields (d : Chip) (n : Fin 64) :
    (d.retireCore n.val).rg (Reg.WKC_STATE.ROLE n.val) = 2 ∧ (d.retireCore n.val).agentSt (.wc n) = .gated := by
  rw [retireCore_wc]
  constructor
  · rw [rg_retired, rg_role_setAgentSt, rg_setBit_ne, rg_setBit_ne, rg_sr_self]
    · rfl
    all_goals
      simp only [inWkc_iff, Reg.WKC_STATE.ROLE, Reg.WKC_RETIRE.MASK, Reg.WKC_SPARE_MASK.MASK, Reg.WKC_POOL.IN_SERVICE, Reg.WKC_POOL.RETIRED, ne_eq]
      omega
  · rw [Chip.agentSt, rg_retired]
    · exact agentSt_setAgentSt_wc _ n .gated
    all_goals
      simp only [inWkc_iff, Reg.WKC_STATE.STATE, Reg.WKC_POOL.IN_SERVICE, Reg.WKC_POOL.RETIRED]
      omega

/-! ### PROMOTE -/

theorem plan_of_ldr {c d : Chip} (h : d.ldr = c.ldr) (id : Nat) : d.plan id = c.plan id := by
  simp only [Chip.plan, h]

/-- The plan that a number names, after a change of it that keeps its number. -/
theorem plan_updPlan {d : Chip} {id : Nat} {f : Plan → Plan} (hf : ∀ p, (f p).id = p.id) : (d.updPlan id f).plan id = (d.plan id).map f := by
  have number (p : Plan) : (if p.id = id then f p else p).id = p.id := by
    split
    · exact hf p
    · rfl
  have same : (fun p => decide (p.id = id)) ∘ (fun p => if p.id = id then f p else p) = fun p => decide (p.id = id) :=
    funext fun p => by simp [number p]
  show List.find? (fun p => decide (p.id = id)) (d.ldr.plans.map fun p => if p.id = id then f p else p) =
    (List.find? (fun p => decide (p.id = id)) d.ldr.plans).map f
  rw [List.find?_map, same]
  cases hp : List.find? (fun p => decide (p.id = id)) d.ldr.plans with
  | none => rfl
  | some p => simp [show p.id = id by simpa using List.find?_some hp]

theorem enterService_frame (d : Chip) (k : Nat) : Frame [.regs] d (d.enterService k) := (sr_frame d _ _).trans (setBit_hub (by decide) _ _ _ _)

theorem ungrant_frame (d : Chip) (cores : List Nat) : Frame [.regs] d (d.ungrant cores) :=
  Frame.foldl _ (fun e _ => (sr_frame e _ _).trans (sr_frame _ _ _)) cores d

theorem grant_frame (d : Chip) (plan : Nat) (cores : List Nat) : Frame [.regs] d (d.grant plan cores) :=
  Frame.foldl _ (fun e _ => (sr_frame e _ _).trans (sr_frame _ _ _)) cores.zipIdx d

theorem updPlan_frame (d : Chip) (id : Nat) (f : Plan → Plan) : Frame [.ldr] d (d.updPlan id f) := by
  intro p hp
  cases p with
  | ldr => exact absurd (by decide) hp
  | _ => rfl

theorem regrant_frame (d : Chip) (id : Nat) (cores : List Nat) : Frame [.regs, .ldr] d (d.regrant id cores) := by
  unfold Chip.regrant
  split
  · exact .refl _ d
  · exact (((ungrant_frame d _).mono (by decide)).trans ((updPlan_frame _ _ _).mono (by decide))).trans ((grant_frame _ _ _).mono (by decide))

/-- A plan's grant is the one it is given. -/
theorem regrant_plan {d : Chip} {id : Nat} {p : Plan} (hp : d.plan id = some p) (cores : List Nat) :
    (d.regrant id cores).plan id = some { p with cores := cores } := by
  have ungranted : (d.ungrant p.cores).plan id = some p := (plan_of_ldr (ungrant_frame d _ .ldr (by decide)) id).trans hp
  simp only [Chip.regrant, hp]
  refine (plan_of_ldr (grant_frame _ id cores .ldr (by decide)) id).trans ((plan_updPlan (f := fun p => { p with cores := cores }) fun _ => rfl).trans ?_)
  rw [ungranted, Option.map_some]

theorem promote_without_spare {d : Chip} (hk : lowestSpare d = none) (id pos : Nat) (a : Agent) : promote d id pos a = d.answered a false := by
  unfold promote
  rw [hk]
  cases d.plan id <;> rfl

/-- What PROMOTE leaves once a plan has the spare's grant and the answer is given. -/
theorem promoted {d e : Chip} {id k : Nat} {p : Plan} (hp : d.plan id = some p) (cores : List Nat)
    (he : Frame [.regs, .attnServed] ((d.enterService k).regrant id cores) e) (a : Agent) :
    (e.syncPool.answered a true).plan id = some { p with cores := cores } ∧
      (∃ x, (e.syncPool.answered a true).answer = some x ∧ x.taken = true) ∧ (e.syncPool.answered a true).led = d.led := by
  have entered : (d.enterService k).plan id = some p := (plan_of_ldr (enterService_frame d k .ldr (by decide)) id).trans hp
  have after : Frame [.regs, .attnServed, .answer] ((d.enterService k).regrant id cores) (e.syncPool.answered a true) :=
    (he.mono (by decide)).trans (((syncPool_frame e).mono (by decide)).trans ((answered_frame _ _ _).mono (by decide)))
  have whole : Frame [.regs, .ldr, .attnServed, .answer] d (e.syncPool.answered a true) :=
    (((enterService_frame d k).mono (by decide)).trans ((regrant_frame _ id cores).mono (by decide))).trans (after.mono (by decide))
  exact ⟨(plan_of_ldr (after .ldr (by decide)) id).trans (regrant_plan entered cores), ⟨_, rfl, rfl⟩, whole .led (by decide)⟩

/-- Settles O12: a fault of a core that runs fences it (`fault_fenceCore`), as the hub leaves the state the core reports (`fault_wkcKept`);
a RETIRE leaves the core GATED (`retireCore_fields`), and a PROMOTE gives the plan its new grant (`promoted`). -/
theorem corePool : Obligations.CorePool := by
  unfold Obligations.CorePool
  refine ⟨fun s n hr c hc => coreFault_fences hr hc, fun s n c hc => ?_, fun s n u hr hu => ?_, fun s n u hu => ?_, fun s n l u ho => ?_,
    fun s n l u => ?_, fun s n hs => ?_, fun s n hs c hc => ?_, fun s n p hs => ?_, fun s n hs => ?_, fun s n id pos hk => ?_,
    fun s n id pos k p hk hp hpos hst => ?_, fun s n id pos k p hk hp hpos he hd => ?_⟩
  · rw [completes_coreFault hc]
  · rw [completes_wcItemHang, if_neg hu]
    obtain ⟨fencing, led, -⟩ := fault_fenceCore hr (k := 3) (by decide) u.val
    exact ⟨rfl, fencing, led⟩
  · rw [completes_wcItemHang, if_pos hu]
  · rw [completes_operandBufferCrc]
    obtain ⟨q, hq, led⟩ := operandBufferCrc_first ho n.val l.val u.val
    exact ⟨⟨_, hq, rfl, rfl, rfl⟩, led⟩
  · rw [completes_operandBufferCrc]
    rfl
  · rw [completes_selftest, if_pos hs]
    exact ⟨(rg_of_regs rfl _).trans (rg_sr_self s.chip (Reg.WKC_STATE.SELFTEST n.val) 3), ⟨_, rfl, rfl⟩,
      ((sr_frame _ _ _).mono (by decide)).trans ((answered_frame _ _ _).mono (by decide))⟩
  · have refused : (∃ x, (s.chip.answered (.wc n) false).answer = some x ∧ x.taken = false) ∧ Frame [.answer] s.chip (s.chip.answered (.wc n) false) :=
      ⟨⟨_, rfl, rfl⟩, answered_frame _ _ _⟩
    simp only [List.mem_cons, List.not_mem_nil, or_false] at hc
    rcases hc with rfl | rfl
    · rwa [completes_selftest, if_neg hs]
    · rwa [completes_retire, if_neg hs]
  · rw [completes_selftestComplete, if_pos hs]
    refine ⟨?_, sr_frame _ _ _⟩
    rw [rg_sr_self]
    cases p <;> rfl
  · rw [completes_retire, if_pos hs]
    obtain ⟨role, gated⟩ := retireCore_fields s.chip n
    exact ⟨role, (agentSt_answered _ _ _ _).trans gated, ⟨_, rfl, rfl⟩, retireCore_frame s.chip n .led (by decide)⟩
  · rw [completes_promote, promote_without_spare hk]
    exact ⟨⟨_, rfl, rfl⟩, answered_frame _ _ _⟩
  · rw [completes_promote]
    simp only [promote, hk, hp, if_pos (And.intro hpos hst)]
    exact promoted hp _ (note_frame _ _) _
  · rw [completes_promote]
    simp only [promote, hk, hp]
    rw [if_neg (by omega), if_pos ⟨hpos, he, hd⟩]
    exact promoted hp _ (.refl _ _) _

end Sys2Proof.Machine
end

section
/-! What an item's end leaves of the ledger (R32 to R34): its engine's part changes no item, and an item that has ended keeps its reply. -/
namespace Sys2Proof.Machine
open Sys2Proof

/-! ### What an item's end does to the engine it ran in, by the item's kind -/

theorem setSlot_keeps (d : Chip) (k : Nat) (s : SlotRec) : Keeps d (d.setSlot k s) := ⟨id, rfl, rfl⟩

theorem pace_keeps (d : Chip) (port line arg : Nat) : Keeps d (d.pace port line arg) := ⟨id, rfl, rfl⟩

theorem paceAll_keeps (d : Chip) (ports : List Nat) (line arg : Nat) : Keeps d (d.paceAll ports line arg) :=
  .foldl _ (fun e p => pace_keeps e p line arg) ports d

theorem firingEnd_keeps (d : Chip) (k n seq : Nat) (committed : Bool) : Keeps d (d.firingEnd k n seq committed) :=
  ((paceAll_keeps d _ _ _).trans (count_keeps _ _)).trans (setSlot_keeps _ k _)

theorem collWithdrawn_keeps (d : Chip) (body : Desc) (code : Nat) : Keeps d (d.collWithdrawn body code) := by
  unfold Chip.collWithdrawn
  extract_lets e
  have he : Keeps d e := count_keeps d _
  split
  · exact he
  · exact .ite he (he.trans ⟨id, rfl, rfl⟩)

theorem answerQuery_keeps (d : Chip) (n p e : Nat) (ok : Bool) : Keeps d (d.answerQuery n p e ok) := by
  unfold Chip.answerQuery
  split
  · exact .refl d
  · exact ⟨id, rfl, rfl⟩

theorem queryEnd_keeps (d : Chip) (n entry seq : Nat) (committed : Bool) : Keeps d (d.queryEnd n entry seq committed) := by
  unfold Chip.queryEnd
  extract_lets _ _ e c e'
  have he : Keeps d e := ⟨id, rfl, rfl⟩
  have hc : Keeps d c := (he.trans (count_keeps _ _)).trans (count_keeps _ _ _)
  have he' : Keeps d e' := .ite (.ite hc (hc.trans (count_keeps _ _ _))) he
  exact he'.trans (answerQuery_keeps _ _ _ _ _)

theorem setDir_keeps (d : Chip) (v s l : Nat) (x : DirEnt) : Keeps d (d.setDir v s l x) := by
  unfold Chip.setDir
  extract_lets a e
  have he : Keeps d e := .ite (.ite ⟨id, rfl, rfl⟩ (.refl d)) (.refl d)
  exact ((he.trans (wrNum_keeps _ _ _ _)).trans (wrNum_keeps _ _ _ _)).trans (wrNum_keeps _ _ _ _)

theorem dropRun_keeps (d : Chip) (x : Desc) (r : DirEnt) : Keeps d (d.dropRun x r) := by
  unfold Chip.dropRun
  extract_lets c e
  have he : Keeps d e := .ite (.refl d) ⟨id, rfl, rfl⟩
  exact .ite he (he.trans ⟨id, rfl, rfl⟩)

theorem freeSeq_keeps (d : Chip) (x : Desc) : Keeps d (d.freeSeq x) :=
  .foldl _ (fun e _ => (dropRun_keeps e x _).trans (setDir_keeps _ _ _ _ _)) _ d

theorem freeUnits_keeps (d : Chip) (k : Nat) (us : List Nat) : Keeps d (d.freeUnits k us) := ⟨id, rfl, rfl⟩

theorem syncFill_keeps (d : Chip) : Keeps d d.syncFill := .foldl _ (fun e _ => (sr_keeps e _ _).trans (sr_keeps _ _ _)) _ d

theorem kvWithdrawn_keeps (d : Chip) (op : Nat) (body : Desc) : Keeps d (d.kvWithdrawn op body) := by
  unfold Chip.kvWithdrawn
  split
  · exact freeSeq_keeps d _
  · exact ⟨id, rfl, rfl⟩
  · exact (freeUnits_keeps d _ _).trans (syncFill_keeps _)
  · exact .foldl _ (fun e _ => .ite ((freeUnits_keeps e _ _).trans (setPte_keeps _ _ _)) (.refl e)) _ d
  · exact .ite (wr_keeps d _ _) (.refl d)
  · exact .refl d

theorem leaveUnit_keeps (d : Chip) (i : Item) : Keeps d (d.leaveUnit i) := by
  unfold Chip.leaveUnit
  extract_lets _ e
  have he : Keeps d e := ⟨id, rfl, rfl⟩
  exact he.trans (.foldl _ (fun e _ => .ite (sr_keeps e _ _) (.refl e)) _ e)

theorem workWithdrawn_keeps (d : Chip) (i : Item) : Keeps d (d.workWithdrawn i) := (leaveUnit_keeps d i).trans ⟨id, rfl, rfl⟩

theorem slotCmdWithdrawn_keeps (d : Chip) (seq : Nat) : Keeps d (d.slotCmdWithdrawn seq) :=
  .foldl _ (fun e _ => .ite (setSlot_keeps e _ _) (.ite (setSlot_keeps e _ _) (.refl e))) _ d

theorem kvCmdWithdrawn_keeps (d : Chip) (seq : Nat) : Keeps d (d.kvCmdWithdrawn seq) := ⟨id, rfl, rfl⟩

theorem inboxEnded_keeps (d : Chip) (n seq : Nat) (committed : Bool) : Keeps d (d.inboxEnded n seq committed) :=
  .foldl _ (fun e _ => .ite (wrNum_keeps e _ _ _) (.refl e)) _ d

theorem endDone_keeps (d : Chip) (seq : Nat) (committed : Bool) : Keeps d (d.endDone seq committed) := by
  unfold Chip.endDone
  split
  · exact .refl d
  · exact ⟨id, rfl, rfl⟩

theorem actWithdrawn_keeps (d : Chip) (seq : Nat) : Keeps d (d.actWithdrawn seq) := .ite ⟨id, rfl, rfl⟩ (.refl d)

theorem dvtWithdrawn_keeps (d : Chip) (seq : Nat) : Keeps d (d.dvtWithdrawn seq) := by
  unfold Chip.dvtWithdrawn
  extract_lets gone e
  have he : Keeps d e := .ite (mr_keeps d _ _) (.refl d)
  exact he.trans ⟨id, rfl, rfl⟩

theorem pktEnded_keeps (d : Chip) (seq : Nat) (committed : Bool) : Keeps d (d.pktEnded seq committed) := by
  unfold Chip.pktEnded
  extract_lets _ _ e
  have he : Keeps d e := .ite (sr_keeps d _ _) (.refl d)
  exact .ite ⟨id, rfl, rfl⟩ (he.trans ⟨id, rfl, rfl⟩)

theorem ckpRelease_keeps (d : Chip) (x : CkpJob) : Keeps d (d.ckpRelease x) :=
  .foldl _ (fun e _ => .foldl _ (fun e _ => .ite (setPte_keeps e _ _) (.refl e)) _ e) _ d

theorem ckpEnded_keeps (d : Chip) (j : Nat) (committed : Bool) : Keeps d (d.ckpEnded j committed) := by
  unfold Chip.ckpEnded
  split
  · exact .refl d
  · split
    · exact .refl d
    · extract_lets idle _ done _ _ released dropped _
      have hidle : Keeps d idle := ⟨id, rfl, rfl⟩
      have hdone : Keeps d done := (hidle.trans (sr_keeps _ _ _)).trans (count_keeps _ _)
      have hreleased : Keeps d released := hidle.trans (ckpRelease_keeps _ _)
      have hdropped : Keeps d dropped := ((hreleased.trans (sr_keeps _ _ _)).trans (sr_keeps _ _ _)).trans (count_keeps _ _)
      exact .ite (hdone.trans ⟨id, rfl, rfl⟩) (hdropped.trans ⟨id, rfl, rfl⟩)

theorem ckpCmdEnded_keeps (d : Chip) (seq : Nat) (committed : Bool) : Keeps d (d.ckpCmdEnded seq committed) :=
  Keeps.trans (.foldl _ (fun e _ => sr_keeps e _ _) _ d) ⟨id, rfl, rfl⟩

/-- An engine's part of an item's end changes no item. -/
theorem onEnd_keeps (d : Chip) (i : Item) (committed : Bool) (code : Nat) : Keeps d (d.onEnd i committed code) := by
  unfold Chip.onEnd
  extract_lets e e' _ _ _ _ t
  have he : Keeps d e := endDone_keeps d _ _
  have he' : Keeps d e' := .ite (he.trans (inboxEnded_keeps _ _ _ _)) he
  split
  · exact .ite (he'.trans ⟨id, rfl, rfl⟩) (he'.trans (dvtWithdrawn_keeps _ _))
  · extract_lets c
    have hc : Keeps d c := he'.trans ⟨id, rfl, rfl⟩
    exact .ite (hc.trans (sr_keeps _ _ _)) hc
  · exact .ite he' (he'.trans (workWithdrawn_keeps _ _))
  · exact he'.trans (firingEnd_keeps _ _ _ _ _)
  · have ht : Keeps d t := he'.trans ⟨id, rfl, rfl⟩
    exact .ite ht (ht.trans (collWithdrawn_keeps _ _ _))
  · exact he'.trans (setCore_keeps _ _ _)
  · exact he'.trans (queryEnd_keeps _ _ _ _ _)
  · exact he'.trans (ckpEnded_keeps _ _ _)
  · extract_lets f g
    have hf : Keeps d f := .ite (he'.trans (pktEnded_keeps _ _ _)) he'
    have hg : Keeps d g := .ite (hf.trans (ckpCmdEnded_keeps _ _ _)) hf
    exact .ite hg (((((hg.trans (dvtWithdrawn_keeps _ _)).trans (actWithdrawn_keeps _ _)).trans (slotCmdWithdrawn_keeps _ _)).trans
      (kvCmdWithdrawn_keeps _ _)).trans (kvWithdrawn_keeps _ _ _))
  · exact he'

theorem ungranted_keeps (d : Chip) (cores : List Nat) :
    Keeps d (cores.foldl (fun (d : Chip) n => (d.sr (Reg.WKC_GRANT.PLAN n) 0).sr (Reg.WKC_GRANT.LOGICAL n) 0) d) :=
  .foldl _ (fun e _ => (sr_keeps e _ _).trans (sr_keeps _ _ _)) cores d

theorem dropPlanCmd_keeps (d : Chip) (seq : Nat) : Keeps d (d.dropPlanCmd seq) := by
  unfold Chip.dropPlanCmd
  split
  · exact .refl d
  · extract_lets _ e f _
    have he : Keeps d e := ⟨id, rfl, rfl⟩
    have hf : Keeps d f := he.trans (ungranted_keeps e _)
    refine hf.trans ?_
    split <;> exact ⟨id, rfl, rfl⟩

/-! ### An item that has ended keeps its end -/

/-- Every item that has ended has the end state and the reply it ended with. -/
def Settled (c d : Chip) : Prop :=
  ∀ q i, c.item q = some i → i.state.ended = true → ∃ j, d.item q = some j ∧ j.state = i.state ∧ j.reply = i.reply

theorem Settled.refl (c : Chip) : Settled c c := fun _ i hi _ => ⟨i, hi, rfl, rfl⟩

theorem Settled.trans {c d e : Chip} (h : Settled c d) (k : Settled d e) : Settled c e := by
  intro q i hi he
  obtain ⟨j, hj, hst, hr⟩ := h q i hi he
  obtain ⟨m, hm, hst', hr'⟩ := k q j hj (hst ▸ he)
  exact ⟨m, hm, hst'.trans hst, hr'.trans hr⟩

theorem Settled.foldl {α : Type} {f : Chip → α → Chip} (h : ∀ d x, Settled d (f d x)) (l : List α) (d : Chip) : Settled d (l.foldl f d) := by
  induction l generalizing d with
  | nil => exact .refl d
  | cons x l ih => exact (h d x).trans (ih _)

theorem item_of_keeps {c d : Chip} (h : Keeps c d) (q : Nat) : d.item q = c.item q := by
  obtain ⟨-, items, -⟩ := h
  rw [Chip.item, items, Chip.item]

theorem Keeps.settled {c d : Chip} (h : Keeps c d) : Settled c d := fun q i hi _ => ⟨i, (item_of_keeps h q).trans hi, rfl, rfl⟩

/-- A change of an item that keeps its number, and its end if it has ended. -/
def EndHeld (i j : Item) : Prop := j.seq = i.seq ∧ (i.state.ended = true → j.state = i.state ∧ j.reply = i.reply)

theorem mapItems_settled (d : Chip) {f : Item → Item} (hf : ∀ i, EndHeld i (f i)) :
    Settled d { d with led := { d.led with items := d.led.items.map f } } := by
  intro q i hi he
  obtain ⟨hst, hr⟩ := (hf i).2 he
  exact ⟨f i, by rw [item_mapItems fun i => (hf i).1, hi, Option.map_some], hst, hr⟩

theorem updItem_settled (d : Chip) (seq : Nat) {f : Item → Item} (hf : ∀ i, EndHeld i (f i)) : Settled d (d.updItem seq f) :=
  mapItems_settled d fun i => by
    split
    · exact hf i
    · exact ⟨rfl, fun _ => ⟨rfl, rfl⟩⟩

/-- An item that has not ended may change as it will. -/
theorem updOpenItem_settled {d : Chip} {i : Item} (hi : d.item i.seq = some i) (ho : i.state.ended = false) {f : Item → Item}
    (hf : ∀ i, (f i).seq = i.seq) : Settled d (d.updItem i.seq f) := by
  intro q j hj he
  have other : j.seq ≠ i.seq := fun e => by
    rw [← seq_of_item hj, e, hi] at hj
    cases hj
    simp [ho] at he
  refine ⟨j, ?_, rfl, rfl⟩
  rw [Chip.updItem, item_mapItems, hj, Option.map_some, if_neg other]
  intro k
  split
  · exact hf k
  · rfl

theorem replyDue_settled (d : Chip) (i : Item) (code lo hi : Nat) : Settled d (d.replyDue i code lo hi) := by
  have replied (e : Chip) : Settled e (e.updItem i.seq fun i => { i with replied := true }) :=
    updItem_settled e _ fun _ => ⟨rfl, fun _ => ⟨rfl, rfl⟩⟩
  unfold Chip.replyDue
  split
  · exact (owe_keeps d _).settled
  · exact (owe_keeps d _).settled
  · exact (coreReply_keeps d _ _ _).settled.trans (replied _)
  · exact (owe_keeps d _).settled
  · extract_lets e
    have he : Keeps d e := .ite (.refl d) (wr_keeps d _ _)
    exact he.settled.trans (replied e)
  · exact (Keeps.settled ⟨id, rfl, rfl⟩).trans (replied _)
  · exact replied d

/-- An item with the end state and the reply it ends with. -/
def Item.endedAs (i : Item) (st : ItemState) (tick : Nat) (r : ReplyData) : Item :=
  { i with state := st, crec := .none, fin := none, endTick := tick, reply := r, redo := st = .committed && i.redoRec.isSome
           body := if st = .committed then i.redoRec.getD i.body else i.body }

/-- What follows on an item's end leaves it its end. -/
theorem endOne_after (d : Chip) (i : Item) (st : ItemState) (code lo hi : Nat) (due : Bool) : ∃ r : ReplyData, r.code = code ∧
    Settled (d.updItem i.seq fun i => i.endedAs st (d.tick % 2 ^ 32) r) (d.endOne i st code lo hi due) := by
  unfold Chip.endOne
  split
  next lo' hi' _ =>
  extract_lets e1 e2 e3
  have he2 : Settled e1 e2 := by
    unfold e2
    split
    · exact replyDue_settled e1 i code _ _
    · exact .refl e1
  have he3 : Settled e1 e3 := he2.trans (onEnd_keeps e2 i _ _).settled
  refine ⟨⟨code, lo', hi'⟩, rfl, ?_⟩
  split
  · exact he3.trans (dropPlanCmd_keeps e3 _).settled
  · exact he3

theorem endOne_settled {d : Chip} {q : Nat} {i : Item} (hi : d.item q = some i) (ho : ¬i.state.ended = true) (st : ItemState) (code lo hi' : Nat)
    (due : Bool) : Settled d (d.endOne i st code lo hi' due) := by
  obtain ⟨_, _, rest⟩ := endOne_after d i st code lo hi' due
  refine .trans ?_ rest
  exact updOpenItem_settled (seq_of_item hi ▸ hi) (by simpa using ho) fun _ => rfl

/-- A commit record held on an item. -/
theorem held_settled {d : Chip} {i : Item} (hi : d.item i.seq = some i) (ho : ¬i.state.ended = true) (r : ReplyData) :
    Settled d (d.updItem i.seq fun i => { i with crec := .held, reply := r }) :=
  updOpenItem_settled hi (by simpa using ho) fun _ => rfl

theorem drainSvcs_settled (d : Chip) : Settled d d.drainSvcs := by
  unfold Chip.drainSvcs
  refine .foldl (fun e p => ?_) _ d
  extract_lets _ e1
  have he1 : Settled e e1 := Keeps.settled ⟨id, rfl, rfl⟩
  split
  · next i hi =>
    split
    · exact he1
    · next ho =>
      split
      · exact he1.trans (endOne_settled hi ho _ _ _ _ _)
      · exact he1.trans (held_settled (seq_of_item hi ▸ hi) ho _)
  · exact he1

theorem drainConns_settled (d : Chip) : Settled d d.drainConns := by
  unfold Chip.drainConns
  refine .foldl (fun e c => ?_) _ d
  extract_lets _ e1 e2
  have he2 : Settled e e2 := Keeps.settled ⟨id, rfl, rfl⟩
  split
  · next i hi =>
    split
    · exact he2
    · next ho =>
      split
      · exact he2.trans (endOne_settled hi ho _ _ _ _ _)
      · exact he2.trans (held_settled (seq_of_item hi ▸ hi) ho _)
  · exact he2

theorem release_settled (d : Chip) : Settled d d.release := mapItems_settled d fun _ => by split <;> exact ⟨rfl, fun _ => ⟨rfl, rfl⟩⟩

theorem drainPlans_settled (d : Chip) : Settled d d.drainPlans := by
  unfold Chip.drainPlans
  refine .foldl (fun e p => ?_) _ d
  extract_lets _ e1 e2
  have he1 : Keeps e e1 := ⟨id, rfl, rfl⟩
  have he2 : Keeps e e2 := he1.trans (ungranted_keeps e1 _)
  split
  · exact he2.settled.trans (replyDue_settled _ _ _ _ _)
  · exact he2.settled

theorem drainSlots_settled (d : Chip) : Settled d d.drainSlots := by
  unfold Chip.drainSlots
  refine .foldl (fun e p => ?_) _ d
  extract_lets _ e1
  have he1 : Settled e e1 := (setSlot_keeps e _ _).settled
  split
  · split
    · exact he1.trans (replyDue_settled _ _ _ _ _)
    · exact he1
  · exact he1

/-- A withdrawal of an item that can be withdrawn ends it with its code (R33, R34). -/
theorem withdraw_reply {d : Chip} {i : Item} (hi : d.item i.seq = some i) (ho : i.state.ended = false) (hc : i.crec ≠ .taken)
    (hl : d.led.lost = false) (code : Nat) :
    ∃ j, (d.withdraw i.seq code).item i.seq = some j ∧ j.state = .withdrawn ∧ j.reply.code = code := by
  have can : d.canWithdraw i.seq = true := by simp [canWithdraw_of_item hi, ho, hc]
  have free : ¬(i.state.ended = true ∨ d.led.lost = true) := by simp [ho, hl]
  rw [Chip.withdraw, if_pos can, Chip.endItem, hi]
  simp only [if_neg free, reduceCtorEq, false_and, if_false]
  obtain ⟨r, rfl, one⟩ := endOne_after d i .withdrawn code 0 0 true
  have whole := ((((one.trans (drainSvcs_settled _)).trans (drainConns_settled _)).trans (release_settled _)).trans (drainPlans_settled _)).trans
    (drainSlots_settled _)
  obtain ⟨j, hj, hst, hr⟩ := whole i.seq _ (updItem_item hi fun _ => rfl) rfl
  exact ⟨j, hj, hst, congrArg ReplyData.code hr⟩

end Sys2Proof.Machine
end

section
/-! What a collective request brought forward leaves of the ledger (R169 to R177, R183 to R189): the same items under the same numbers. -/
namespace Sys2Proof.Machine
open Sys2Proof

/-- The ledger holds the same items, by what identifies them, and gives the number it would have given. -/
structure SameIds (c d : Chip) : Prop where
  ids : d.ids = c.ids
  nextSeq : d.led.nextSeq = c.led.nextSeq

theorem SameIds.refl (c : Chip) : SameIds c c := ⟨rfl, rfl⟩

theorem SameIds.trans {c d e : Chip} (h : SameIds c d) (k : SameIds d e) : SameIds c e := ⟨k.ids.trans h.ids, k.nextSeq.trans h.nextSeq⟩

theorem Keeps.sameIds {c d : Chip} (h : Keeps c d) : SameIds c d := by
  obtain ⟨-, items, next⟩ := h
  exact ⟨by rw [Chip.ids, items, Chip.ids], next⟩

theorem Steady.sameIds {c d : Chip} (h : Steady c d) : SameIds c d := ⟨h.ids, h.nextSeq⟩

theorem SameIds.then {c d e : Chip} (h : SameIds c d) (k : Keeps d e) : SameIds c e := h.trans k.sameIds

theorem Keeps.then_foldl {α : Type} {f : Chip → α → Chip} {l : List α} {c d : Chip} (h : Keeps c d) (hf : ∀ d x, Keeps d (f d x)) :
    Keeps c (l.foldl f d) :=
  h.trans (.foldl f hf l d)

theorem sameIds_ite {c a b : Chip} {q : Prop} [Decidable q] (h : SameIds c a) (k : SameIds c b) : SameIds c (if q then a else b) := by
  split <;> assumption

theorem sameIds_foldl {α : Type} {f : Chip → α → Chip} (hf : ∀ d x, SameIds d (f d x)) (l : List α) (d : Chip) :
    SameIds d (l.foldl f d) := by
  induction l generalizing d with
  | nil => exact .refl d
  | cons x l ih => exact (hf d x).trans (ih _)

theorem updItem_sameIds (d : Chip) (seq : Nat) {f : Item → Item} (hf : ∀ i, (f i).ident = i.ident) : SameIds d (d.updItem seq f) :=
  ⟨ids_mapItems fun i => by
    split
    · exact hf i
    · rfl, rfl⟩

/-! ### The nodes' exchange, which changes no item -/

theorem charge_keeps (d : Chip) (p : Nat) (u : PlanUse) : Keeps d (d.charge p u) := by
  unfold Chip.charge
  split
  · exact .refl d
  · exact .ite ⟨id, rfl, rfl⟩ ⟨id, rfl, rfl⟩

theorem setCollRun_keeps (d : Chip) (seq : Nat) (r : CollRun) : Keeps d (d.setCollRun seq r) := ⟨id, rfl, rfl⟩

theorem keepChunk_keeps (d : Chip) (g : Desc) (seq node ofs : Nat) (data : List PByte) : Keeps d (d.keepChunk g seq node ofs data) :=
  .ite (.refl d) (.ite (setCollRun_keeps d _ _) ((setCollRun_keeps d _ _).trans (writeRange_keeps _ _ _)))

theorem keepChunks_keeps (d : Chip) (g : Desc) (seq node ofs : Nat) (data : List PByte) : Keeps d (d.keepChunks g seq node ofs data) :=
  .foldl _ (fun e _ => keepChunk_keeps e g seq node _ _) _ d

theorem collSend_keeps (d : Chip) (g : Desc) (i : Item) (node type rank ofs : Nat) (data : List PByte) :
    Keeps d (d.collSend g i node type rank ofs data) := by
  unfold Chip.collSend
  extract_lets _ _ _ out
  have hout : Keeps d out := ⟨id, rfl, rfl⟩
  exact hout.trans (charge_keeps _ _ _)

theorem collSendAll_keeps (d : Chip) (g : Desc) (i : Item) (node type rank ofs : Nat) (data : List PByte) :
    Keeps d (d.collSendAll g i node type rank ofs data) :=
  .foldl _ (fun e _ => collSend_keeps e g i node type rank _ _) _ d

theorem sendOnce_keeps (d : Chip) (g : Desc) (i : Item) (mark : Nat) (nodes : List Nat) (ofs : Nat) (data : List PByte) :
    Keeps d (d.sendOnce g i mark nodes ofs data) :=
  .ite (.refl d) ((setCollRun_keeps d _ _).then_foldl fun _ _ => collSendAll_keeps _ _ _ _ _ _ _ _)

theorem rankWrite_keeps (d : Chip) (x : Desc) (p : Option Nat) (o : List PByte × List PByte × Nat) : Keeps d (d.rankWrite x p o) :=
  .ite ((writeRange_keeps d _ _).trans (writeRange_keeps _ _ _)) (writeRange_keeps d _ _)

theorem residWrite_keeps (d : Chip) (i : Item) (bs : List PByte) : Keeps d (d.residWrite i bs) :=
  .ite (writeRange_keeps d _ _) (.foldl _ (fun e _ => (writePhys_keeps e _ _).trans (writeRange_keeps _ _ _)) _ d)

theorem collBegin_keeps (d : Chip) (i : Item) (g : Desc) : Keeps d (d.collBegin i g) := by
  unfold Chip.collBegin
  extract_lets x o r noted part begun kept moved mine
  have hnoted : Keeps d noted := .ite (.refl d) (noteRead_keeps d _ _)
  have hbegun : Keeps d begun := (hnoted.trans (takeFree_keeps _)).trans (setCollRun_keeps _ _ _)
  have hkept : Keeps d kept := hbegun.then_foldl fun _ _ => keepChunks_keeps _ _ _ _ _ _
  have hmoved : Keeps d moved := setCollRun_keeps d _ _
  refine .ite (.refl d) (.ite (.ite hkept ((hkept.trans (keepChunks_keeps _ _ _ _ _ _)).trans (residWrite_keeps _ _ _))) ?_)
  exact (hmoved.then_foldl fun _ _ => keepChunks_keeps _ _ _ _ _ _).trans (takeFree_keeps _)

theorem segUp_keeps (d : Chip) (i : Item) (g : Desc) (s : Nat) : Keeps d (d.segUp i g s) := by
  have flagged (r : CollRun) : Keeps d (d.takeFree.setCollRun i.seq r) := ⟨id, rfl, rfl⟩
  unfold Chip.segUp
  extract_lets
  refine .ite (.refl d) (.ite (.ite (.refl d) ((flagged _).trans (keepChunks_keeps _ _ _ _ _ _))) (.ite (.refl d) (.ite ?_ ?_)))
  · exact sendOnce_keeps d _ _ _ _ _ _
  · exact (flagged _).trans (sendOnce_keeps _ _ _ _ _ _ _)

theorem segOn_keeps (d : Chip) (i : Item) (g : Desc) (s : Nat) : Keeps d (d.segOn i g s) := by
  unfold Chip.segOn
  extract_lets o
  split
  · exact .refl d
  · exact sendOnce_keeps d _ _ _ _ _ _

/-! ### A request brought forward -/

theorem collStart_sameIds (d : Chip) (i : Item) (g : Desc) : SameIds d (d.collStart i g) := by
  unfold Chip.collStart
  extract_lets r star r'
  refine sameIds_ite (.refl d) (SameIds.then ?_ (charge_keeps _ _ _))
  refine SameIds.trans ?_ (updItem_sameIds _ _ fun _ => rfl)
  exact (setCollRun_keeps _ _ _).sameIds

theorem collFinish_sameIds (d : Chip) (i : Item) (g : Desc) : SameIds d (d.collFinish i g) :=
  .trans (Keeps.foldl _ (fun e _ => rankWrite_keeps e i.body _ _) _ d).sameIds (updItem_sameIds _ _ fun _ => rfl)

theorem exchange_sameIds (d : Chip) (i : Item) (g : Desc) : SameIds d (d.exchange i g) := by
  unfold Chip.exchange
  extract_lets ss begun up on
  have hbegun : Keeps d begun := collBegin_keeps d i g
  have hup : Keeps d up := .ite (hbegun.then_foldl fun _ _ => segUp_keeps _ _ _ _) hbegun
  have hon : Keeps d on := hup.then_foldl fun _ _ => segOn_keeps _ _ _ _
  exact sameIds_ite (hon.sameIds.trans (collFinish_sameIds on i g)) hon.sameIds

theorem receiveTry_sameIds (d : Chip) (i : Item) (g : Desc) : SameIds d (d.receiveTry i g) := by
  unfold Chip.receiveTry
  extract_lets node x
  split
  · exact .refl d
  · extract_lets
    split
    · exact .refl d
    · extract_lets _ _ e
      have he : Keeps d e := rankWrite_keeps d _ _ _
      exact he.sameIds.trans (updItem_sameIds e _ fun _ => rfl)

theorem sendDone_sameIds (d : Chip) (i : Item) (g : Desc) (bad : Bool) : SameIds d (d.sendDone i g bad) := updItem_sameIds d _ fun _ => rfl

theorem deliver_sameIds (d : Chip) (g : Desc) (s r : Item) : SameIds d (d.deliver g s r) := by
  unfold Chip.deliver
  extract_lets bs started _ begun ready _ ranked
  have hstarted : SameIds d started := (collStart_sameIds d s g).then (takeFree_keeps _)
  have hbegun : SameIds d begun := hstarted.then (setCollRun_keeps _ _ _)
  have hready : SameIds d ready := (hbegun.trans (sendDone_sameIds _ _ _ _)).trans (collStart_sameIds _ _ _)
  have hranked : SameIds d ranked := hready.then (setCollRun_keeps _ _ _)
  exact (hranked.then (keepChunks_keeps _ _ _ _ _ _)).trans (receiveTry_sameIds _ _ _)

theorem sendTry_sameIds (d : Chip) (i : Item) (g : Desc) : SameIds d (d.sendTry i g) := by
  unfold Chip.sendTry
  extract_lets node r
  refine sameIds_ite ((collStart_sameIds d i g).trans (sendDone_sameIds _ _ _ _)) (sameIds_ite ?_ ?_)
  · split
    · exact sameIds_ite (deliver_sameIds d g i _) (.refl d)
    · exact .refl d
  · split
    · exact .refl d
    · extract_lets bs matched started run begun
      have hmatched : Keeps d matched := ⟨id, rfl, rfl⟩
      have hstarted : SameIds d started := (hmatched.sameIds.trans (collStart_sameIds _ _ _)).then (takeFree_keeps _)
      have hbegun : SameIds d begun := hstarted.then (setCollRun_keeps _ _ _)
      exact (hbegun.then (collSendAll_keeps _ _ _ _ _ _ _ _)).trans (sendDone_sameIds _ _ _ _)

theorem receiveGo_sameIds (d : Chip) (i : Item) (g : Desc) : SameIds d (d.receiveGo i g) := by
  have started := collStart_sameIds d i g
  unfold Chip.receiveGo
  refine sameIds_ite (started.trans (receiveTry_sameIds _ _ _)) (sameIds_ite ?_ (sameIds_ite ?_ started))
  · split
    · exact deliver_sameIds d g _ i
    · exact .refl d
  · exact (started.then (setCollRun_keeps _ _ _)).then (collSend_keeps _ _ _ _ _ _ _ _)

theorem collTry_sameIds (d : Chip) (seq : Nat) : SameIds d (d.collTry seq) := by
  unfold Chip.collTry
  split
  · exact .refl d
  · split
    · exact .refl d
    · refine sameIds_ite (.refl d) (sameIds_ite (withdraw_steady (.refl d)).sameIds ?_)
      split
      · exact sendTry_sameIds d _ _
      · exact receiveGo_sameIds d _ _
      · exact (collStart_sameIds d _ _).trans (exchange_sameIds _ _ _)

theorem takePart_sameIds (d : Chip) (i : Item) (p : CollPart) : SameIds d (d.takePart i p) := by
  unfold Chip.takePart
  split
  · exact .refl d
  · extract_lets charged _ ranked
    have hcharged : Keeps d charged := charge_keeps d _ _
    have hranked : Keeps d ranked := .ite (hcharged.trans (setCollRun_keeps _ _ _)) hcharged
    exact (hranked.trans (keepChunk_keeps _ _ _ _ _ _)).sameIds.trans (collTry_sameIds _ _)

theorem offerEarly_sameIds (d : Chip) (seq : Nat) : SameIds d (d.offerEarly seq) := by
  unfold Chip.offerEarly
  refine sameIds_foldl (fun e p => ?_) _ d
  split
  · extract_lets coll
    refine sameIds_ite (SameIds.trans ?_ (takePart_sameIds _ _ _)) (.refl e)
    exact ⟨rfl, rfl⟩
  · exact .refl e

end Sys2Proof.Machine
end

section
/-! Obligation O13: the eight collective requests (R169, R174 to R177). -/
namespace Sys2Proof.Machine
open Sys2Proof

/-! ### Submission (R174, R176) -/

/-- The eight requests with their KINDs (R174). -/
def requestCmds : List ((Submit → Desc → Instr) × Nat) :=
  [(.allReduce, 1), (.reduceScatter, 2), (.allGather, 3), (.broadcast, 4), (.reduce, 5), (.allToAll, 6), (.send, 7), (.receive, 8)]

theorem exec_request {p : (Submit → Desc → Instr) × Nat} (hp : p ∈ requestCmds) (src : Submit) (x : Desc) (s : State) :
    exec (p.1 src x) s = s.on fun d => d.request src x p.2 := by
  simp only [requestCmds, List.mem_cons, List.not_mem_nil, or_false] at hp
  rcases hp with rfl | rfl | rfl | rfl | rfl | rfl | rfl | rfl <;> rfl

theorem dropHand_groupCore (d : Chip) (o : Origin) (g : Nat) : (d.dropHand o).groupCore g = d.groupCore g := by
  cases o <;> rfl

theorem dropHand_reqCheck (d : Chip) (o : Origin) (fn : Nat) (x : Desc) : (d.dropHand o).reqCheck fn x = d.reqCheck fn x := by
  cases o <;> rfl

theorem dropHand_coll (d : Chip) (o : Origin) : (d.dropHand o).coll = d.coll := by
  cases o <;> rfl

theorem refuse_coll (d : Chip) (src : Submit) (code lo hi : Nat) : (d.refuse src code lo hi).coll = d.coll := by
  unfold Chip.refuse
  split
  · exact count_frame _ _ _ .coll (by decide)
  all_goals rfl

theorem groupWaits_of_serves {d : Chip} {g n : Nat} (hg : d.groupCore g = some n) (hn : d.coreServes n = true) : d.groupWaits g = false := by
  simp [Chip.groupWaits, hg, hn]

theorem groupServed_of_core {d : Chip} {g n : Nat} (hg : d.groupCore g = some n) (src : Submit) (k : Nat → Chip) :
    d.groupServed src g k = k (0x40 + n) := by
  simp [Chip.groupServed, hg]

/-- A submitted request takes the number after the last one (R24). -/
theorem acceptCmd_lastSeq (d : Chip) (src : Submit) (kind : ItemKind) (body : Desc) (dom : Domain) (owner : Nat) :
    (d.acceptCmd src kind body dom owner).lastSeq = d.led.nextSeq := by
  obtain ⟨next, -⟩ := acceptCmd_accepted d src kind body dom owner .accepted
  rw [Chip.lastSeq, next, Nat.add_sub_cancel]

/-- A command accepted once it has left its ring. -/
theorem acceptCmd_dropHand_accepted (d : Chip) (o : Origin) (src : Submit) (kind : ItemKind) (body : Desc) (dom : Domain) (owner : Nat) :
    Accepted d ((d.dropHand o).acceptCmd src kind body dom owner) src kind dom := by
  have accepted := acceptCmd_accepted (d.dropHand o) src kind body dom owner .accepted
  have led := dropHand_led d o
  have ids : (d.dropHand o).ids = d.ids := congrArg (fun l : Ledger => l.items.map Item.ident) led
  rwa [Accepted, ids, led] at accepted

/-- What follows an acceptance leaves it one. -/
theorem Accepted.then {c d e : Chip} {src : Submit} {kind : ItemKind} {dom : Domain} (h : Accepted c d src kind dom) (k : SameIds d e) :
    Accepted c e src kind dom :=
  ⟨k.nextSeq.trans h.1, k.ids.trans h.2⟩

section
variable {s : State} {src : Submit} {x : Desc} {n : Nat} {p : (Submit → Desc → Instr) × Nat}

/-- A request whose group's core serves and that is taken up goes to its checks. -/
theorem completes_request (hp : p ∈ requestCmds) (hk : x.cKind = p.2) (hg : s.chip.groupCore x.cGroup = some n)
    (hn : s.chip.coreServes n = true) (ht : TakenUp s.chip src .col true 2) (P : Chip → Prop) :
    Completes (p.1 src x) s P ↔ P ((s.chip.dropHand src.origin).submitColl src x) := by
  rw [completes_iff_of_on (exec_request hp src x s), Chip.request, if_pos (.inl hk), groupWaits_of_serves hg hn, if_neg (by simp),
    submit_of_takenUp ht]

/-- The request with its tag. -/
def tagged (src : Submit) (x : Desc) : Submit := { src with tag := BitVec.ofNat 32 x.cTag }

theorem submitColl_refused (hg : s.chip.groupCore x.cGroup = some n) {c : Nat} (hc : s.chip.reqCheck (s.chip.originFn src.origin) x = some c) :
    (s.chip.dropHand src.origin).submitColl src x = (s.chip.dropHand src.origin).refuse (tagged src x) c := by
  have check : (s.chip.dropHand src.origin).reqCheck ((s.chip.dropHand src.origin).originFn src.origin) x = some c := by
    rw [dropHand_originFn, dropHand_reqCheck, hc]
  rw [Chip.submitColl, groupServed_of_core ((dropHand_groupCore _ _ _).trans hg)]
  simp only [check]
  rfl

/-- A request accepted as an item with its tag, and its stream. -/
def Chip.collAccepted (d : Chip) (src : Submit) (x : Desc) (n : Nat) : Chip :=
  let b := (d.dropHand src.origin).acceptCmd (tagged src x) .coll x (d.originDomain src.origin) (0x40 + n)
  b.setCollRun d.led.nextSeq { stream := freeStream b }

theorem submitColl_accepted (hg : s.chip.groupCore x.cGroup = some n) (hc : s.chip.reqCheck (s.chip.originFn src.origin) x = none) :
    (s.chip.dropHand src.origin).submitColl src x =
      ((s.chip.collAccepted src x n).collTry s.chip.led.nextSeq).offerEarly s.chip.led.nextSeq := by
  have check : (s.chip.dropHand src.origin).reqCheck ((s.chip.dropHand src.origin).originFn src.origin) x = none := by
    rw [dropHand_originFn, dropHand_reqCheck, hc]
  rw [Chip.submitColl, groupServed_of_core ((dropHand_groupCore _ _ _).trans hg)]
  simp only [check, dropHand_originDomain, acceptCmd_lastSeq, dropHand_led]
  rfl

/-- Bringing the new request forward adds no item. -/
theorem collAccepted_accepted (d : Chip) (src : Submit) (x : Desc) (n : Nat) :
    Accepted d (((d.collAccepted src x n).collTry d.led.nextSeq).offerEarly d.led.nextSeq) (tagged src x) .coll (d.originDomain src.origin) := by
  have accepted := acceptCmd_dropHand_accepted d src.origin (tagged src x) .coll x (d.originDomain src.origin) (0x40 + n)
  exact ((accepted.then (setCollRun_keeps _ _ _).sameIds).then (collTry_sameIds _ _)).then (offerEarly_sameIds _ _)

end

/-! ### A request brought forward, and its results (R169, R183 to R188) -/

theorem charge_regs (d : Chip) (p : Nat) (u : PlanUse) : (d.charge p u).regs = d.regs := by
  unfold Chip.charge
  split
  · rfl
  · extract_lets
    split <;> rfl

/-- The start of a run leaves the registers that choose the algorithm. -/
theorem collStart_outerStage (d : Chip) (i : Item) (g x : Desc) : outerStage (d.collStart i g) g x = outerStage d g x := by
  have regs : (d.collStart i g).regs = d.regs := by
    unfold Chip.collStart
    split
    · rfl
    · exact charge_regs _ _ _
  rw [outerStage, rg_of_regs regs, outerStage]

/-- A request of KIND 1 to 6 that goes on starts a run and exchanges its segments. -/
theorem collTry_exchange {d : Chip} {i : Item} {g : Desc} (hi : d.item i.seq = some i) (hg : d.group i.body.cGroup = some g)
    (hgo : d.collGoes i = true) (hm : d.collUnmapped g i.body = false) (hk : i.body.cKind ≤ 6) :
    d.collTry i.seq = (d.collStart i g).exchange i g := by
  rw [Chip.collTry, hi]
  simp only [hg, hgo, hm, Bool.not_true, Bool.false_eq_true, if_false]
  split
  · omega
  · omega
  · rfl

/-- The results are written and the reply is ready: OK, or POISONED_DATA. -/
theorem collFinish_fin {d : Chip} {i : Item} (hi : d.item i.seq = some i) (g : Desc) :
    ∃ j r, (d.collFinish i g).item i.seq = some j ∧ j.fin = some r ∧ (r.code = Code.OK ∨ r.code = Code.POISONED_DATA) := by
  unfold Chip.collFinish
  extract_lets x segs outs lost written poison flags
  have hwritten : Keeps d written := (Keeps.refl d).then_foldl fun _ _ => rankWrite_keeps _ _ _ _
  refine ⟨_, _, updItem_item ((item_of_keeps hwritten _).trans hi) fun _ => rfl, rfl, ?_⟩
  cases poison
  · exact .inl rfl
  · exact .inr rfl

/-! ### SEND_MATCH_TIMEOUT (R177) -/

/-- What SEND_MATCH_TIMEOUT does to the chip. -/
def sendMatchTimeout (seq : Nat) (d : Chip) : Chip :=
  match d.item seq with
  | some i => if i.kind = .coll ∧ i.body.cKind = 7 ∧ i.fin.isNone ∧ !(d.collRun seq).begun then d.withdraw seq Code.TIMEOUT else d
  | none => d

theorem exec_sendMatchTimeout (seq : Nat) (s : State) : exec (.sendMatchTimeout seq) s = s.on (sendMatchTimeout seq) := by
  show execSendMatchTimeout seq s = _
  unfold execSendMatchTimeout sendMatchTimeout
  rfl

theorem sendMatchTimeout_waiting {d : Chip} {i : Item} (hi : d.item i.seq = some i) (hk : i.kind = .coll) (h7 : i.body.cKind = 7)
    (hf : i.fin = none) (hb : (d.collRun i.seq).begun = false) : sendMatchTimeout i.seq d = d.withdraw i.seq Code.TIMEOUT := by
  rw [sendMatchTimeout, hi]
  simp [hk, h7, hf, hb]

/-- Settles O13: a request goes to its checks (`completes_request`) and is refused or one item more (`collAccepted_accepted`); brought forward
it exchanges its segments (`collTry_exchange`) to its results (`collFinish_fin`), and a send that waits is withdrawn (`withdraw_reply`). -/
theorem collectiveRequests : Obligations.CollectiveRequests := by
  unfold Obligations.CollectiveRequests
  refine ⟨fun p hp s src x n hk hg hn ht => ⟨fun c hc => ?_, fun hc => ?_⟩, fun d i g hi hg hgo hm _ hk => ?_,
    fun d i g hi => collFinish_fin hi g, fun s i hi hk h7 hf hst hc hl hb => ?_⟩
  · rw [completes_request hp hk hg hn ht, submitColl_refused hg hc, refuse_led, refuse_coll, dropHand_led, dropHand_coll]
    exact ⟨rfl, rfl⟩
  · rw [completes_request hp hk hg hn ht, submitColl_accepted hg hc]
    exact ⟨collAccepted_accepted s.chip src x n, rfl⟩
  · rw [collTry_exchange hi hg hgo hm hk, Chip.exchange, collStart_outerStage]
  · rw [completes_iff_of_on (exec_sendMatchTimeout _ s), sendMatchTimeout_waiting hi hk h7 hf hb]
    exact withdraw_reply hi (by rw [hst]; rfl) (by rw [hc]; nofun) hl _

end Sys2Proof.Machine
end

section
/-! Obligation O14: the timeout of a firing whose slot is DISARMING (R196, R197). -/
namespace Sys2Proof.Machine
open Sys2Proof

theorem completes_firingTimeout {s : State} {k : Fin 256} {n : Nat} (P : Chip → Prop) :
    Completes (.firingTimeout k n) s P ↔ P (firingTimeout s.chip k.val n) :=
  completes_iff_of_on (f := fun d => firingTimeout d k.val n) rfl P

theorem slotRec_of_coll {c d : Chip} (h : d.coll = c.coll) (k : Nat) : d.slotRec k = c.slotRec k := by
  rw [Chip.slotRec, h, Chip.slotRec]

theorem slotRec_setSlot (d : Chip) (k : Nat) (x : SlotRec) : (d.setSlot k x).slotRec k = x :=
  congrArg (·.getD {}) (tget_tput_self d.coll.slots k x)

theorem paceAll_slots (d : Chip) (ports : List Nat) (line arg : Nat) : (d.paceAll ports line arg).coll.slots = d.coll.slots := by
  unfold Chip.paceAll
  induction ports generalizing d with
  | nil => rfl
  | cons p ports ih => exact ih _

/-- The end of a firing leaves its slot's state. -/
theorem firingEnd_state (d : Chip) (k n seq : Nat) (committed : Bool) : ((d.firingEnd k n seq committed).slotRec k).state = (d.slotRec k).state := by
  unfold Chip.firingEnd
  rw [slotRec_setSlot]

theorem fault_firingItem (d : Chip) (source detail k n : Nat) : (d.fault source detail).firingItem k n = d.firingItem k n := by
  have led : (d.fault source detail).led = d.led := fault_frame d source detail false .led (by decide)
  rw [Chip.firingItem, led, Chip.firingItem]

/-- The withdrawal of a firing whose item has not yet arisen leaves its slot's state. -/
theorem firingWithdraw_state {d : Chip} {k n : Nat} (hi : d.firingItem k n = none) (code : Nat) :
    ((d.firingWithdraw k n code).slotRec k).state = (d.slotRec k).state := by
  rw [Chip.firingWithdraw, hi]
  exact firingEnd_state _ k n 0 false

theorem faultSlot_disarming {d : Chip} {k : Nat} (h : (d.slotRec k).state = .disarming) : d.faultSlot k = d := by
  rw [Chip.faultSlot, if_pos h]

/-- A slot that is DISARMING stays so at the timeout of a firing whose item waits to be accepted: it has left ARMED by its SLOT_DISARM, which
ends once it has no firing left (R196). -/
theorem firingTimeout_disarming {d : Chip} {k n : Nat} (hs : (d.slotRec k).state = .disarming) (hi : d.firingItem k n = none) :
    ((firingTimeout d k n).slotRec k).state = .disarming := by
  have withdrawn : (((d.fault Src.COL_SLOT_TIMEOUT k).firingWithdraw k n Code.COL_MEMBER_LOST).slotRec k).state = .disarming := by
    rw [firingWithdraw_state ((fault_firingItem d _ _ k n).trans hi), slotRec_of_coll (fault_frame d _ _ _ .coll (by decide)), hs]
  unfold firingTimeout
  extract_lets x
  split
  · exact hs
  · split
    · exact hs
    · rw [faultSlot_disarming withdrawn, withdrawn]

/-- An all-reduce of 64 FP32 elements in group 1, on slot 2 and line 4. -/
def disarmingImage : Desc := { w0 := 0x1_0001_0100_0002, w1 := 0x0201_0901_0400_0000, w2 := 64, w3 := 0x1000 }

/-- Group 1 of the ports 0 and 1 of one node, READY. -/
def twoPorts : Desc := { w0 := 0x1_0301_0001 }

/-- The chip with that slot DISARMING. Its firing 5 has been triggered by both members, of which none has contributed yet, and the firing's
item waits where it arose. -/
def disarmingSlot : State where
  pending := []
  chip := {
    led := { arising := [⟨.slot 2, 5, 1, .slot 2, 0x200, 0x50, .firing 2 5, disarmingImage, none⟩] }
    coll := {
      groups := [(1, twoPorts)]
      slots := [(2, {
        img := disarmingImage, state := .disarming, firing := 1, firings := [{ number := 5, members := [1, 0] }], next := [(0, 6), (1, 6)] })] } }

/-- Refutes O14. It says that a firing which lacks a contribution at its timeout leaves its slot FAULTED, whatever state the slot is in. A slot
that its SLOT_DISARM has taken out of ARMED while the firing went on is DISARMING and stays so (`firingTimeout_disarming`): the slot of
`disarmingSlot`, whose firing lacks both contributions. -/
theorem not_groupsAndSlots : ¬ Obligations.GroupsAndSlots := by
  unfold Obligations.GroupsAndSlots
  rintro ⟨-, -, -, -, -, -, -, -, -, -, -, -, faults⟩
  have lacks : ({ number := 5, members := [1, 0] } : Firing).full disarmingImage
      (disarmingSlot.chip.slotPorts (disarmingSlot.chip.slotRec 2)) = false := by decide
  have faulted := (completes_firingTimeout _).mp (faults disarmingSlot 2 5 { number := 5, members := [1, 0] } rfl lacks)
  have disarming := firingTimeout_disarming (d := disarmingSlot.chip) (k := 2) (n := 5) rfl rfl
  exact absurd (disarming.symm.trans faulted) (by decide)

end Sys2Proof.Machine
end

section
/-! Obligation O15: a SEQ_CLOSE whose acceptance stops the device from committing (R216, R619, R629, R659, R662). -/
namespace Sys2Proof.Machine
open Sys2Proof

theorem completes_seqClose {s : State} {src : Submit} {n : Nat} (ht : TakenUp s.chip src .kva true 0) (P : Chip → Prop) :
    Completes (.seqClose src n) s P ↔ P (seqClose (s.chip.dropHand src.origin) src (n % 65536)) := by
  rw [completes_iff_of_on (f := fun d => d.submit src .kva true (fun d => seqClose d src (n % 65536))) rfl, submit_of_takenUp ht]

/-- The chip with a SEQ_CLOSE of sequence n accepted, and the sequence CLOSING (R216). -/
def Chip.closingSeq (d : Chip) (src : Submit) (n : Nat) : Chip :=
  let b := d.acceptCmd src (.general 0x0302) (genBody 0x0302 src [n]) (d.originDomain src.origin)
  { b with kv := { b.kv with seqs := tupd b.kv.seqs n (fun r => { r with state := .closing }) } }

theorem seqClose_ready {d : Chip} {src : Submit} {n : Nat} {r : SeqRec} (hn : n < 16384) (hr : d.seqRec n = some r) (hs : r.state = .ready) :
    seqClose d src n = (d.closingSeq src n).finishWith (d.closingSeq src n).lastSeq (closeSeq n) := by
  rw [seqClose, if_neg (by omega), hr]
  simp only [hs, reduceCtorEq, if_false]
  rfl

/-- The acceptance of a command leaves the KV store as it was. -/
theorem acceptCmd_kv (d : Chip) (src : Submit) (kind : ItemKind) (body : Desc) (dom : Domain) (owner : Nat := 0xFF)
    (st : ItemState := .accepted) : (d.acceptCmd src kind body dom owner st).kv = d.kv := by
  have accepted := accept_frame d ⟨dom, src.tag.toNat, d.originPlan src.origin, src.origin, d.originFn src.origin, owner, kind, body, none⟩ st
    .kv (by decide)
  refine Eq.trans ?_ accepted
  unfold Chip.acceptCmd Chip.taken
  split
  · exact count_frame _ _ _ .kv (by decide)
  all_goals rfl

theorem closingSeq_seqRec (d : Chip) (src : Submit) (n : Nat) :
    (d.closingSeq src n).seqRec n = (d.seqRec n).map (fun r => { r with state := .closing }) := by
  have kv := acceptCmd_kv d src (.general 0x0302) (genBody 0x0302 src [n]) (d.originDomain src.origin)
  simp only [Chip.closingSeq, Chip.seqRec, kv, tget_tupd, if_true]

/-- While the device does not commit, an item whose effect is its commit point is held and its effect is not applied. -/
theorem finishWith_kv_of_not_commits {d : Chip} (hc : d.commits = false) (seq : Nat) (effect : Chip → Chip) (code lo hi : Nat) :
    (d.finishWith seq effect code lo hi).kv = d.kv := by
  unfold Chip.finishWith
  split
  · rfl
  · simp only [hc, Bool.false_eq_true, and_false, if_false]
    rfl

/-- A SEQ_CLOSE whose acceptance stops the device from committing leaves its sequence CLOSING. -/
theorem seqClose_held {d : Chip} {src : Submit} {n : Nat} {r : SeqRec} (hn : n < 16384) (hr : d.seqRec n = some r) (hs : r.state = .ready)
    (hc : (d.closingSeq src n).commits = false) : (seqClose d src n).seqRec n = some { r with state := .closing } := by
  rw [seqClose_ready hn hr hs, Chip.seqRec, finishWith_kv_of_not_commits hc]
  exact (closingSeq_seqRec d src n).trans (by rw [hr]; rfl)

/-- Sequence 1, READY: one layer of one KV head, DIM 16, its blocks and summaries in BF16, so that a block is 4,096 bytes. -/
def openSequence : SeqRec where
  img := { w0 := 0x10_1101_0001_0001, w1 := 0x40_0000_0020 }
  state := .ready

/-- A chip that takes items and commits, its ledger empty, with that sequence and a command of ring pair 0 in hand. The counter of the commands
taken from rings of PF0 is at its maximum, not yet marked saturated, and the hub's reaction to OBS_COUNTER_SAT is the safe state, which no write
gives a source (R619). -/
def lastCountedCommand : State where
  pending := []
  chip := ((((((({
    fetched := [0]
    kv := { seqs := [(1, openSequence)] }
    pwr := { por := false, refclk := true, stage1 := true, pllStart := true } } : Chip).sr Reg.PCR_STATE.READY 1).sr Reg.PCR_STATE.CLK_SRC 1).sr
    Reg.MEM_PLINTH_STATE.INIT_BUSY 0).sr (Reg.HIF_COUNT.COUNT 0 0) (2 ^ 48 - 1)).sr (Reg.FLT_SRC_CFG.SEV_REACT Src.OBS_COUNTER_SAT) 5).sr
    (Reg.FLT_SRC_CFG.REACT Src.OBS_COUNTER_SAT) 5)

theorem lastCountedCommand_takenUp : TakenUp lastCountedCommand.chip ⟨.ring 0, 0⟩ .kva true 0 :=
  ⟨rfl, by decide +kernel, rfl, rfl, by decide +kernel, .inl rfl⟩

/-- The accepted command saturates its counter, and the event of the saturation takes the device into the safe state. -/
theorem closingSeq_lastCountedCommand_commits :
    ((lastCountedCommand.chip.dropHand (.ring 0)).closingSeq ⟨.ring 0, 0⟩ 1).commits = false := by decide +kernel

/-- Refutes O15. It says that a SEQ_CLOSE taken up by a device that commits leaves its sequence EMPTY when no other item is in the ledger. The
command is counted as it is accepted, and that may end in a fault event; in `lastCountedCommand` the event's reaction is the safe state, in which
nothing commits (`closingSeq_lastCountedCommand_commits`), and the sequence stays CLOSING (`seqClose_held`). -/
theorem not_kvCommands : ¬ Obligations.KvCommands := by
  unfold Obligations.KvCommands
  rintro ⟨-, hclose, -⟩
  obtain ⟨-, hready⟩ := hclose lastCountedCommand ⟨.ring 0, 0⟩ 1 openSequence lastCountedCommand_takenUp rfl
  have h := hready rfl (by decide)
  rw [completes_seqClose lastCountedCommand_takenUp] at h
  obtain ⟨-, hempty⟩ := h
  have empty := hempty rfl (by decide +kernel)
  have closing := seqClose_held (d := lastCountedCommand.chip.dropHand (.ring 0)) (src := ⟨.ring 0, 0⟩) (n := 1) (r := openSequence)
    (by decide) rfl rfl closingSeq_lastCountedCommand_commits
  exact absurd (closing.symm.trans empty) (by decide)

end Sys2Proof.Machine
end

section
/-! Obligation O16: a move whose map write fills the change log for the fourth time, which withdraws MAP_COMPACT (R246, R250). -/
namespace Sys2Proof.Machine
open Sys2Proof

theorem completes_blockMoveComplete {s : State} (P : Chip → Prop) : Completes .blockMoveComplete s P ↔ P (blockMoveComplete s.chip) :=
  completes_iff_of_on (f := blockMoveComplete) rfl P

/-! ### A full log (R250) -/

theorem MemStep.kv {c d : Chip} (h : MemStep c d) : d.kv = c.kv := h.frame .kv (by decide)

theorem beginCompact_led (d : Chip) (seq : Option Nat) : (d.beginCompact seq).led = d.led := rfl

/-- What starts at IDLE changes no item. -/
theorem kvNext_led (d : Chip) : d.kvNext.led = d.led := by
  unfold Chip.kvNext
  split
  · rfl
  · split
    · exact beginCompact_led _ _
    · split
      · exact beginCompact_led _ _
      · rfl

theorem logCheck_full {d : Chip} (hlog : 65536 ≤ d.kv.log.length) (hc : d.compactState = 1) : d.logCheck = d.abandonCompact true := by
  rw [Chip.logCheck, if_pos ⟨hlog, .inl hc⟩]

/-- Compaction abandoned for a full log and counted. -/
def Chip.abandonCounted (d : Chip) : Chip :=
  ((({ d with kv := { d.kv with log := [], restart := some (d.tick + 1024) } }).sr Reg.KVA_MAP_STATE.COMPACT 0).mr
    Reg.KVA_MAP_STATE.ABANDONS (fun n => min (n + 1) 15)).fault Src.KVA_LOG_FULL

theorem abandonCounted_kv (d : Chip) : d.abandonCounted.kv = { d.kv with log := [], restart := some (d.tick + 1024) } :=
  fault_frame _ _ _ _ .kv (by decide)

theorem abandonCounted_led (d : Chip) : d.abandonCounted.led = d.led := fault_frame _ _ _ _ .led (by decide)

/-- Compaction serves no MAP_COMPACT, and does not begin again by itself. -/
def Chip.compactUnserved (d : Chip) : Chip := { d with kv := { d.kv with running := none, restart := none } }

theorem compactUnserved_led (d : Chip) : d.compactUnserved.led = d.led := rfl

/-- The fourth abandonment withdraws the MAP_COMPACT that compaction serves. -/
theorem abandonCompact_fourth {d : Chip} {q : Nat} (hc : d.compactState = 1) (ha : 4 ≤ d.abandonCounted.rg Reg.KVA_MAP_STATE.ABANDONS)
    (hq : d.kv.running = some q) : d.abandonCompact true = d.abandonCounted.compactUnserved.withdraw q Code.KVA_LOG_FULL := by
  have serves : d.abandonCounted.kv.running = some q := by rw [abandonCounted_kv, hq]
  delta Chip.abandonCompact
  rw [if_neg (by omega)]
  simp only [Bool.not_true, Bool.false_eq_true, if_false]
  rw [← Chip.abandonCounted, if_neg (by omega)]
  -- made opaque: the kernel would run the fault event in the match on the command served
  obtain ⟨e, he⟩ : ∃ e, e = d.abandonCounted := ⟨_, rfl⟩
  rw [← he] at serves ⊢
  rw [serves]
  rfl

/-- A map write that fills the log for the fourth time ends the item of the MAP_COMPACT that compaction serves. -/
theorem kvSettle_fourth {d : Chip} {i : Item} (hlog : 65536 ≤ d.kv.log.length) (hc : d.compactState = 1)
    (ha : 4 ≤ d.abandonCounted.rg Reg.KVA_MAP_STATE.ABANDONS) (hq : d.kv.running = some i.seq) (hi : d.item i.seq = some i)
    (ho : i.state.ended = false) (hr : i.crec ≠ .taken) (hl : d.led.lost = false) :
    ∃ j, d.kvSettle.item i.seq = some j ∧ j.state = .withdrawn := by
  have led : d.abandonCounted.compactUnserved.led = d.led := (compactUnserved_led _).trans (abandonCounted_led d)
  obtain ⟨j, hj, hst, -⟩ := withdraw_reply ((item_of_led led i.seq).trans hi) ho hr ((congrArg Ledger.lost led).trans hl) Code.KVA_LOG_FULL
  refine ⟨j, ?_, hst⟩
  rw [Chip.kvSettle, item_of_led (kvNext_led _), logCheck_full hlog hc, abandonCompact_fourth hc ha hq, hj]

/-! ### A move that completes (R246) -/

theorem logMap_led (d : Chip) (r : KvLog) : (d.logMap r).led = d.led := by
  unfold Chip.logMap
  extract_lets c
  split <;> rfl

theorem logMap_compactState (d : Chip) (r : KvLog) : (d.logMap r).compactState = d.compactState := by
  unfold Chip.logMap
  extract_lets c
  split <;> rfl

theorem wrNum_memStep {c d : Chip} {a n v : Nat} (h : MemStep c d) : MemStep c (d.wrNum a n v) := writeRange_memStep h

/-- The bytes of a map entry are two memory writes. -/
theorem setEnt_written (d : Chip) (v i : Nat) (e : MapEnt) : ∃ c, MemStep d c ∧ d.setEnt v i e = c.logMap (.entry i) := by
  simp only [Chip.setEnt, if_true]
  exact ⟨_, wrNum_memStep (wrNum_memStep (.refl d)), rfl⟩

/-- A map write while compaction copies is logged, and changes nothing else of the KV store. -/
theorem setEnt_kv {d : Chip} {v i : Nat} {e : MapEnt} (hc : (d.setEnt v i e).compactState = 1) :
    (d.setEnt v i e).kv = { d.kv with log := d.kv.log ++ [.entry i] } := by
  obtain ⟨c, written, set⟩ := setEnt_written d v i e
  rw [set, logMap_compactState] at hc
  rw [set, ← written.kv, Chip.logMap]
  exact congrArg Chip.kv (if_pos (.inl hc))

theorem setEnt_items (d : Chip) (v i : Nat) (e : MapEnt) : (d.setEnt v i e).led.items = d.led.items := by
  obtain ⟨c, written, set⟩ := setEnt_written d v i e
  rw [set, logMap_led, written.items]

/-- The chip with a block copied to its new cells and the entry that names it written (R246). -/
def Chip.blockCopied (d : Chip) (m : KvMoving) (i : Nat) (r : SeqRec) : Chip :=
  let dst := d.unitAddr (tierPool m.tier) m.cell
  let e := d.ent d.kvActive i
  let d : Chip := { d with kv := { d.kv with moveLeft := d.kv.moveLeft - (2 * blockBytes r.img - m.done) } }
  let d := d.noteRead m.old (blockBytes r.img)
  let d := d.writeRange dst (d.readRange m.old (blockBytes r.img))
  d.setEnt d.kvActive i { e with addr := dst }

/-- The chip with the old cells given up and no move in progress, before what the map write brings about. -/
def Chip.moveDone (d : Chip) (m : KvMoving) : Chip :=
  let d := d.reclaimCells (tierPool (tierOf m.old)) m.old m.cells
  { d with kv := { d.kv with moving := none } }

theorem moveDone_kv (d : Chip) (m : KvMoving) : (d.moveDone m).kv = { d.kv with moving := none } := rfl

theorem moveDone_led (d : Chip) (m : KvMoving) : (d.moveDone m).led = d.led := rfl

/-- Whether a write is lost does not turn on the KV store's own state. -/
theorem writeLost_kv (d : Chip) (k : KvUnit) (a n : Nat) : Chip.writeLost { d with kv := k } a n = d.writeLost a n := rfl

theorem blockMoveComplete_done {d : Chip} {m : KvMoving} {i : Nat} {r : SeqRec} (hm : d.kv.moving = some m) (hr : d.seqRec m.block.s = some r)
    (hi : d.entIndex m.block.s m.block.layer m.block.block = some i) (hn : 2 * blockBytes r.img - m.done ≤ d.kv.moveLeft)
    (hs : (d.ent d.kvActive i).state = 1) (ha : (d.ent d.kvActive i).addr = m.old)
    (hw : d.writeLost (d.unitAddr (tierPool m.tier) m.cell) (blockBytes r.img) = false) :
    blockMoveComplete d = (((d.blockCopied m i r).moveDone m).count Reg.KVA_MOVES.COUNT).kvSettle := by
  -- the two lookups made opaque: the kernel would run them in the match on what they answer
  delta blockMoveComplete
  obtain ⟨entry, hentry⟩ : ∃ e, e = d.entIndex := ⟨_, rfl⟩
  obtain ⟨record, hrecord⟩ : ∃ r, r = d.seqRec := ⟨_, rfl⟩
  rw [← hentry] at hi ⊢
  rw [← hrecord] at hr ⊢
  rw [hm]
  simp only [hr, hi]
  rw [if_neg (by omega), if_pos ⟨hs, ha⟩, writeLost_kv, hw]
  simp only [Bool.false_eq_true, if_false]
  rw [Chip.moveDone, Chip.blockCopied]

theorem blockCopied_kv {d : Chip} {m : KvMoving} {i : Nat} {r : SeqRec} (hc : (d.blockCopied m i r).compactState = 1) :
    (d.blockCopied m i r).kv =
      { d.kv with moveLeft := d.kv.moveLeft - (2 * blockBytes r.img - m.done), log := d.kv.log ++ [.entry i] } := by
  refine (setEnt_kv hc).trans ?_
  rw [(writeRange_memStep (noteRead_memStep (.refl _))).kv]

theorem blockCopied_items (d : Chip) (m : KvMoving) (i : Nat) (r : SeqRec) : (d.blockCopied m i r).led.items = d.led.items :=
  (setEnt_items _ _ _ _).trans (writeRange_memStep (noteRead_memStep (.refl _))).items

/-! ### The move that fills the log -/

/-- Block 0 of sequence 1 on its way from the near tier to cell 5 of the Plinth's pool. -/
def promotedBlock : KvMoving := ⟨⟨1, 0, 0⟩, 0, 0x11_0000_0000, 5, 1, 0⟩

/-- A MAP_COMPACT that compaction serves. -/
def servedCompact : Item where
  seq := 7
  slot := 0
  state := .accepted
  domain := .ring 0
  tag := 0
  owner := 0xFF
  replied := false
  redo := false
  replayed := false
  plan := 0
  acceptTick := 0
  endTick := 0
  origin := .ring 0
  fn := 0
  kind := .general 0x0307
  body := { w0 := 0x0307 }
  crec := .none
  fin := none
  redoRec := none
  carried := false
  single := false
  reply := {}

/-- A chip whose compaction is in COPY, for `servedCompact`, after three abandonments and with room for one record in its log. The move of
`promotedBlock`, whose entry is VALID in the first run of the map, has this frame's bytes for its whole copy. -/
def lastLogRecord : State where
  pending := []
  chip := ((({
    led := { nextSeq := 8, items := [servedCompact] }
    mem := { cells := [(0x10_0000_2003, 0x80), (0x10_0000_2005, 0x04), (0x10_0000_200B, 0x11), (0x10_0800_0003, 0x44), (0x10_0800_0005, 0x40),
      (0x10_0800_0006, 0x40), (0x10_0800_0008, 0x01)] }
    mu := { pools := [(3, ⟨[(0x1000_0000, 100)], 4096, [5]⟩), (4, ⟨[(0x11_0000_0000, 100)], 4096, [0]⟩)] }
    kv := {
      seqs := [(1, openSequence)], ext := [⟨0, 64⟩], log := List.replicate 65535 (.entry 1), running := some 7
      moving := some promotedBlock, moveLeft := 8192 } } : Chip).sr
    Reg.KVA_MAP_STATE.COMPACT 1).sr Reg.KVA_MAP_STATE.ABANDONS 3)

theorem entIndex_lastLogRecord : lastLogRecord.chip.entIndex 1 0 0 = some 0 := by decide +kernel

theorem ent_lastLogRecord : (lastLogRecord.chip.ent lastLogRecord.chip.kvActive 0).state = 1 ∧
    (lastLogRecord.chip.ent lastLogRecord.chip.kvActive 0).addr = promotedBlock.old := by decide +kernel

theorem writeLost_lastLogRecord : lastLogRecord.chip.writeLost (lastLogRecord.chip.unitAddr (tierPool promotedBlock.tier) promotedBlock.cell)
    (blockBytes openSequence.img) = false := by decide +kernel

theorem moveLeft_lastLogRecord : 2 * blockBytes openSequence.img - promotedBlock.done ≤ lastLogRecord.chip.kv.moveLeft := by decide +kernel

/-- That chip once the move is complete. -/
def fullLog : Chip := ((lastLogRecord.chip.blockCopied promotedBlock 0 openSequence).moveDone promotedBlock).count Reg.KVA_MOVES.COUNT

theorem blockCopied_lastLogRecord_compactState : (lastLogRecord.chip.blockCopied promotedBlock 0 openSequence).compactState = 1 := by
  decide +kernel

/-- Compaction still copies, what the full log brings about is its fourth abandonment, and the ledger is not lost. -/
theorem fullLog_fourth : fullLog.compactState = 1 ∧ fullLog.abandonCounted.rg Reg.KVA_MAP_STATE.ABANDONS = 4 ∧ fullLog.led.lost = false := by
  decide +kernel

theorem fullLog_kv : fullLog.kv = { lastLogRecord.chip.kv with
    moveLeft := 8192 - (2 * blockBytes openSequence.img - promotedBlock.done)
    log := List.replicate 65535 (.entry 1) ++ [.entry 0]
    moving := none } := by
  rw [fullLog, count_frame _ _ _ .kv (by decide), moveDone_kv, blockCopied_kv blockCopied_lastLogRecord_compactState]
  rfl

theorem fullLog_item : fullLog.item 7 = some servedCompact := by
  have items : fullLog.led.items = lastLogRecord.chip.led.items := by
    rw [fullLog, count_frame _ _ _ .led (by decide), moveDone_led, blockCopied_items]
  rw [Chip.item, items]
  rfl

/-- Once the move is complete, the item of that MAP_COMPACT is withdrawn. -/
theorem blockMoveComplete_lastLogRecord : ∃ j, (blockMoveComplete lastLogRecord.chip).item 7 = some j ∧ j.state = .withdrawn := by
  obtain ⟨valid, there⟩ := ent_lastLogRecord
  obtain ⟨copies, fourth, kept⟩ := fullLog_fourth
  have room : 65536 ≤ fullLog.kv.log.length := by
    rw [fullLog_kv, List.length_append, List.length_replicate]
    exact le_rfl
  have serves : fullLog.kv.running = some servedCompact.seq := by rw [fullLog_kv]; rfl
  rw [blockMoveComplete_done (m := promotedBlock) rfl rfl entIndex_lastLogRecord moveLeft_lastLogRecord valid there writeLost_lastLogRecord,
    ← fullLog]
  exact kvSettle_fourth (i := servedCompact) room copies fourth.ge serves fullLog_item rfl nofun kept

/-- Refutes O16. It says that a move which completes leaves the ledger's items as they were. The move writes the map, and a map write may fill
the change log: in `lastLogRecord` it does so for the fourth time, and the MAP_COMPACT that compaction serves is withdrawn with KVA_LOG_FULL
(R250, `blockMoveComplete_lastLogRecord`). -/
theorem not_kvEngines : ¬ Obligations.KvEngines := by
  unfold Obligations.KvEngines
  rintro ⟨-, -, -, -, -, -, -, hmove, -⟩
  obtain ⟨-, hentry⟩ := hmove lastLogRecord promotedBlock rfl
  obtain ⟨-, -, hdone⟩ := hentry openSequence 0 rfl entIndex_lastLogRecord
  obtain ⟨valid, there⟩ := ent_lastLogRecord
  have h := hdone moveLeft_lastLogRecord valid there writeLost_lastLogRecord
  rw [completes_blockMoveComplete] at h
  obtain ⟨-, items, -⟩ := h
  obtain ⟨j, hj, withdrawn⟩ := blockMoveComplete_lastLogRecord
  have kept : (blockMoveComplete lastLogRecord.chip).item 7 = some servedCompact := by
    rw [Chip.item, items]
    rfl
  obtain rfl := Option.some.inj (kept.symm.trans hj)
  exact absurd withdrawn (by decide)

end Sys2Proof.Machine
end

section
/-! What the work on the paged range leaves (R289 to R295): the ledger's items, and every PIN that it does not set. -/
namespace Sys2Proof.Machine
open Sys2Proof

/-! ### The ledger -/

theorem takeUnits_keeps (d : Chip) (k i n : Nat) : Keeps d (d.takeUnits k i n) := ⟨id, rfl, rfl⟩

theorem markInit_keeps (d : Chip) (a n : Nat) : Keeps d (d.markInit a n) := .ite (mu_keeps d _) (mu_keeps d _)

theorem mapPages_keeps (p n : Nat) (d : Chip) : Keeps d (mapPages p n d) := .foldl _ (fun e _ => setPte_keeps e _ _) _ d

theorem holdPages_keeps (d : Chip) (p tier : Nat) (pin : Bool) (us : List Nat) : Keeps d (d.holdPages p tier pin us) :=
  .foldl _ (fun e _ => ((takeUnits_keeps e _ _ _).trans (zeroRange_keeps _ _ _)).trans (setPte_keeps _ _ _)) _ d

theorem abandonPage_keeps (d : Chip) (counted : Bool) : Keeps d (d.abandonPage counted) := by
  unfold Chip.abandonPage
  split
  · exact .refl d
  · extract_lets freed _ back _ idle
    have hfreed : Keeps d freed := freeUnits_keeps d _ _
    have hback : Keeps d back := .ite (hfreed.trans (setPte_keeps freed _ _)) hfreed
    have hidle : Keeps d idle := hback.trans (mu_keeps back _)
    exact .ite (hidle.trans (count_keeps idle _)) hidle

theorem abandonIf_keeps (d : Chip) (p n : Nat) : Keeps d (d.abandonIf p n) := .ite (abandonPage_keeps d true) (.refl d)

theorem unmapPages_keeps (p n : Nat) (d : Chip) : Keeps d (unmapPages p n d) :=
  (abandonIf_keeps d p n).then_foldl fun e _ => (mu_keeps e _).trans (setPte_keeps _ _ _)

theorem switchPage_keeps (d : Chip) (page tier u : Nat) : Keeps d (d.switchPage page tier u) :=
  (((noteRead_keeps d _ _).trans (writePhys_keeps _ _ _)).trans (mu_keeps _ _)).trans (setPte_keeps _ _ _)

theorem pinPage_keeps (d : Chip) (tier page : Nat) : Keeps d (d.pinPage tier page) := by
  unfold Chip.pinPage
  extract_lets e moved
  have hmoved : Keeps d moved := by
    refine .ite (.refl d) ?_
    split
    · exact (takeUnits_keeps d _ _ _).trans (switchPage_keeps _ _ _ _)
    · exact .refl d
  exact hmoved.trans (setPte_keeps moved _ _)

theorem pinPages_keeps (p n tier pin : Nat) (d : Chip) : Keeps d (pinPages p n tier pin d) :=
  (abandonIf_keeps d p n).then_foldl fun e _ => .ite (pinPage_keeps e _ _) (setPte_keeps e _ _)

/-- An item whose effect is its commit point stays the item it is, whether the effect is applied now or its commit record is held. -/
theorem finishWith_sameIds (d : Chip) (seq : Nat) {effect : Chip → Chip} (heffect : ∀ e, Keeps e (effect e)) (code lo hi : Nat) :
    SameIds d (d.finishWith seq effect code lo hi) := by
  unfold Chip.finishWith
  split
  · exact .refl d
  · refine sameIds_ite ((heffect d).sameIds.trans (endItem_steady (.refl _)).sameIds) (updItem_sameIds d _ fun i => ?_)
    split <;> rfl

/-! ### Page-table entries -/

theorem putByte_frame (d : Chip) (a b : Nat) : Frame [.mem] d (d.putByte a b) := by
  intro p hp
  cases p with
  | mem => exact absurd (List.mem_singleton_self _) hp
  | _ => rfl

/-- The bytes of an entry as it is written to the near tier. -/
theorem pteBytes_frame (d : Chip) (a : Nat) (bs : List (Nat × Nat)) :
    Frame [.mem] d (bs.foldl (fun (d : Chip) b => d.putByte (a + b.2) b.1) d) :=
  .foldl _ (fun e _ => putByte_frame e _ _) bs d

theorem setPte_mu (d : Chip) (n : Nat) (e : PTE) :
    (d.setPte n e).mu = { d.mu with pt := if e = noPage then tdel d.mu.pt n else tput d.mu.pt n e } := by
  have mu := pteBytes_frame d (d.rg Reg.MEM_PT_BASE.BASE + 8 * n) (leBytes 8 (pteWord e)).zipIdx .mu (by decide)
  simp only [Part.same] at mu
  simp only [Chip.setPte, mu]

theorem setPte_regs (d : Chip) (n : Nat) (e : PTE) : (d.setPte n e).regs = d.regs := by
  have regs := pteBytes_frame d (d.rg Reg.MEM_PT_BASE.BASE + 8 * n) (leBytes 8 (pteWord e)).zipIdx .regs (by decide)
  simp only [Part.same] at regs
  simp only [Chip.setPte, regs]

@[simp] theorem pte_setPte_self (d : Chip) (n : Nat) (e : PTE) : (d.setPte n e).pte n = e := by
  simp only [Chip.pte, setPte_mu]
  split
  · next h => rw [tget_tdel_self, h, Option.getD_none]
  · rw [tget_tput_self, Option.getD_some]

theorem pte_setPte_ne (d : Chip) {n q : Nat} (e : PTE) (h : q ≠ n) : (d.setPte n e).pte q = d.pte q := by
  simp only [Chip.pte, setPte_mu]
  split
  · rw [tget_tdel_ne _ _ _ h]
  · rw [tget_tput_ne _ _ _ _ h]

/-- Which stores are lost does not turn on the page table. -/
theorem lost_setPte (d : Chip) (n : Nat) (e : PTE) (a : Nat) : (d.setPte n e).lost a = d.lost a := by
  simp only [Chip.lost, setPte_mu, rg_of_regs (setPte_regs d n e)]

/-! ### The PIN of every page -/

/-- Every page's PIN is as it was. -/
def PinsKept (c d : Chip) : Prop := ∀ q, (d.pte q).pin = (c.pte q).pin

theorem PinsKept.refl (c : Chip) : PinsKept c c := fun _ => rfl

/-- A step that leaves the page table as it is. -/
theorem PinsKept.elsewhere {c d e : Chip} (h : PinsKept c d) (pt : e.mu.pt = d.mu.pt) : PinsKept c e := by
  intro q
  rw [Chip.pte, pt]
  exact h q

/-- A step that leaves the memory unit as it is. -/
theorem PinsKept.then {P : List Part} {c d e : Chip} (h : PinsKept c d) (k : Frame P d e) (hm : Part.mu ∉ P) : PinsKept c e :=
  h.elsewhere (congrArg MemUnit.pt (k .mu hm))

theorem pinsKept_ite {c a b : Chip} {q : Prop} [Decidable q] (h : PinsKept c a) (k : PinsKept c b) : PinsKept c (if q then a else b) := by
  split <;> assumption

theorem pinsKept_foldl {α : Type} {c d : Chip} {f : Chip → α → Chip} {l : List α} (hf : ∀ d x, PinsKept c d → PinsKept c (f d x))
    (h : PinsKept c d) : PinsKept c (l.foldl f d) :=
  List.foldlRecOn l f h fun e he x _ => hf e x he

section
variable {c d : Chip}

theorem count_pinsKept {f : Fld} {n : Nat} (h : PinsKept c d) : PinsKept c (d.count f n) := h.then (count_frame d f n) (by decide)

theorem fault_pinsKept {s detail : Nat} {inj : Bool} (h : PinsKept c d) : PinsKept c (d.fault s detail inj) :=
  h.then (fault_frame d s detail inj) (by decide)

theorem raiseAttn_pinsKept {why : Attn} {l : Level} {cls : Nat} (h : PinsKept c d) : PinsKept c (d.raiseAttn why l cls) :=
  h.then (raiseAttn_frame d why l cls) (by decide)

theorem patEvent_pinsKept {type : Nat} {body : List Nat} (h : PinsKept c d) : PinsKept c (d.patEvent type body) :=
  h.then (patEvent_frame d type body) (by decide)

theorem applyFlip_pinsKept {w : Nat} (h : PinsKept c d) : PinsKept c (d.applyFlip w) := by
  have disarmed : PinsKept c ((d.sr Reg.MEM_FLIP_CTRL.ARM 0).sr Reg.MEM_FLIP_CTRL.DONE 1) := h.elsewhere rfl
  exact pinsKept_ite (pinsKept_ite disarmed (disarmed.elsewhere rfl)) h

theorem wordWritten_pinsKept {w : Nat} (h : PinsKept c d) : PinsKept c (d.wordWritten w) := applyFlip_pinsKept (h.elsewhere rfl)

theorem addRemap_pinsKept {source a : Nat} (h : PinsKept c d) : PinsKept c (d.addRemap source a) := by
  unfold Chip.addRemap
  extract_lets _ _ _ _ added
  have hadded : PinsKept c added := pinsKept_ite (h.elsewhere rfl) (h.elsewhere rfl)
  exact pinsKept_ite h (pinsKept_ite ((fault_pinsKept (count_pinsKept h)).then (note_frame _ _) (by decide)) (hadded.elsewhere rfl))

theorem plinthCE_pinsKept {w : Nat} (h : PinsKept c d) : PinsKept c (d.plinthCE w) := by
  unfold Chip.plinthCE
  extract_lets counted _ _ _ cleared
  have hcounted : PinsKept c counted := fault_pinsKept ((count_pinsKept h).elsewhere rfl)
  clear_value counted
  have hcleared : PinsKept c cleared := hcounted.elsewhere rfl
  exact pinsKept_ite (patEvent_pinsKept (addRemap_pinsKept hcleared)) (hcounted.elsewhere rfl)

theorem ledgerLost_pinsKept (h : PinsKept c d) : PinsKept c d.ledgerLost := pinsKept_ite h (fault_pinsKept (h.elsewhere rfl))

theorem copyFail_pinsKept {die : Nat} {room : Bool} (h : PinsKept c d) : PinsKept c (d.copyFail die room) := by
  unfold Chip.copyFail
  extract_lets _ _ alone
  have halone : PinsKept c alone := h.elsewhere rfl
  exact pinsKept_ite (ledgerLost_pinsKept h) (raiseAttn_pinsKept (pinsKept_ite (fault_pinsKept halone) halone))

theorem bankFail_pinsKept {bank : Nat} (h : PinsKept c d) : PinsKept c (d.bankFail bank) := by
  unfold Chip.bankFail
  extract_lets _ _ raised _ copies _ spared _
  have hcopies : PinsKept c copies := copyFail_pinsKept (raiseAttn_pinsKept (fault_pinsKept h))
  have hspared : PinsKept c spared := patEvent_pinsKept (hcopies.elsewhere rfl)
  exact pinsKept_ite (hcopies.elsewhere rfl) (hspared.elsewhere rfl)

theorem plinthUE_pinsKept {w : Nat} (h : PinsKept c d) : PinsKept c (d.plinthUE w) := by
  unfold Chip.plinthUE
  extract_lets counted _ _ _ noted
  have poisoned : PinsKept c (d.setPoison w true) := h.elsewhere rfl
  have hcounted : PinsKept c counted := fault_pinsKept ((count_pinsKept poisoned).elsewhere rfl)
  clear_value counted
  have hnoted : PinsKept c noted := hcounted.elsewhere rfl
  exact pinsKept_ite (bankFail_pinsKept hnoted) hnoted

theorem settle_pinsKept {a n : Nat} (h : PinsKept c d) : PinsKept c (d.settle a n) := by
  refine pinsKept_foldl (fun e p he => ?_) h
  extract_lets _ cleared _ chosen
  have hcleared : PinsKept c cleared := he.elsewhere rfl
  have hchosen : PinsKept c chosen := pinsKept_ite (hcleared.elsewhere rfl) hcleared
  exact pinsKept_ite (plinthCE_pinsKept hchosen) (plinthUE_pinsKept hchosen)

theorem putBytes_pinsKept {a : Nat} {bs : List (Nat × Nat)} (h : PinsKept c d) :
    PinsKept c (bs.foldl (fun (d : Chip) (p : Nat × Nat) => d.putByte (a + p.1) p.2) d) :=
  pinsKept_foldl (fun _ _ he => he.elsewhere rfl) h

theorem flushMerge_pinsKept {w : Nat} (h : PinsKept c d) : PinsKept c (d.flushMerge w) := by
  unfold Chip.flushMerge
  split
  · exact h
  · extract_lets _ left settled
    have hleft : PinsKept c left := h.elsewhere rfl
    have hsettled : PinsKept c settled := settle_pinsKept (count_pinsKept hleft)
    exact pinsKept_ite (wordWritten_pinsKept (putBytes_pinsKept hleft))
      (pinsKept_ite hsettled (applyFlip_pinsKept (putBytes_pinsKept hsettled)))

theorem mergeWrite_pinsKept {w : Nat} {bs : List (Nat × Nat)} (h : PinsKept c d) : PinsKept c (d.mergeWrite w bs) := by
  unfold Chip.mergeWrite
  split
  · extract_lets _ _ merged
    have hmerged : PinsKept c merged := h.elsewhere rfl
    exact pinsKept_ite (flushMerge_pinsKept hmerged) hmerged
  · extract_lets _ room
    have hroom : PinsKept c room := pinsKept_ite (flushMerge_pinsKept h) h
    exact hroom.elsewhere rfl

theorem writeGran_pinsKept {g : Nat} {bs : List (Nat × Nat)} {poison : Bool} (h : PinsKept c d) : PinsKept c (d.writeGran g bs poison) := by
  unfold Chip.writeGran
  extract_lets _ poisoned _ unmerged _ _ cleared written
  have hunmerged : PinsKept c unmerged := h.elsewhere rfl
  have hcleared : PinsKept c cleared := pinsKept_ite (h.elsewhere rfl) h
  have hwritten : PinsKept c written := pinsKept_ite hcleared (putBytes_pinsKept hcleared)
  exact pinsKept_ite (count_pinsKept h) (pinsKept_ite
    (pinsKept_ite (h.elsewhere rfl) (pinsKept_ite (wordWritten_pinsKept (putBytes_pinsKept hunmerged)) (mergeWrite_pinsKept h)))
    (pinsKept_ite (hwritten.elsewhere rfl) (pinsKept_ite (hwritten.elsewhere rfl) hwritten)))

theorem writePhysAux_pinsKept {k a : Nat} {bs : List (Nat × Bool)} (h : PinsKept c d) : PinsKept c (d.writePhysAux k a bs) := by
  induction k generalizing d a bs with
  | zero => exact h
  | succ k ih => exact pinsKept_ite h (ih (writeGran_pinsKept h))

theorem writePhys_pinsKept {a : Nat} {bs : List (Nat × Bool)} (h : PinsKept c d) : PinsKept c (d.writePhys a bs) := writePhysAux_pinsKept h

/-- An entry written with the PIN it has. -/
theorem setPte_pinsKept {n : Nat} {e : PTE} (h : PinsKept c d) (hp : e.pin = (d.pte n).pin) : PinsKept c (d.setPte n e) := by
  intro q
  by_cases hq : q = n
  · rw [hq, pte_setPte_self, hp, h n]
  · rw [pte_setPte_ne d e hq, h q]

theorem queuePage_pinsKept {page tier : Nat} {up : Bool} (h : PinsKept c d) : PinsKept c (d.queuePage page tier up) :=
  pinsKept_ite (count_pinsKept h) (h.elsewhere rfl)

theorem heatPage_pinsKept {n k : Nat} (h : PinsKept c d) : PinsKept c (d.heatPage n k) := by
  unfold Chip.heatPage
  extract_lets _ _ heated _ near
  have hheated : PinsKept c heated := setPte_pinsKept h rfl
  have hnear : PinsKept c near := pinsKept_ite (queuePage_pinsKept hheated) hheated
  exact pinsKept_ite h (pinsKept_ite (queuePage_pinsKept hnear) hnear)

theorem xlatTouch_pinsKept {n k : Nat} (h : PinsKept c d) : PinsKept c (d.xlatTouch n k) := by
  unfold Chip.xlatTouch
  extract_lets _ evicted
  have hevicted : PinsKept c evicted := by
    refine pinsKept_ite ?_ h
    split
    · exact heatPage_pinsKept (h.elsewhere rfl)
    · exact h
  exact hevicted.elsewhere rfl

theorem notePhys_pinsKept {p n : Nat} (h : PinsKept c d) : PinsKept c (d.notePhys p n) := by
  unfold Chip.notePhys
  extract_lets settled _ _ counted
  have hsettled : PinsKept c settled := settle_pinsKept h
  have hcounted : PinsKept c counted := pinsKept_ite hsettled (count_pinsKept hsettled)
  exact pinsKept_ite hcounted (count_pinsKept hcounted)

theorem noteRead_pinsKept {a n : Nat} (h : PinsKept c d) : PinsKept c (d.noteRead a n) := by
  refine pinsKept_foldl (fun e s he => ?_) h
  split
  · exact he
  · exact notePhys_pinsKept (pinsKept_ite (xlatTouch_pinsKept he) he)

end

/-- A page's copy to another tier reads memory, which heats pages, and writes it: every other page has the PIN it had. -/
theorem switchPage_pin_ne (d : Chip) {page q : Nat} (tier u : Nat) (h : q ≠ page) : ((d.switchPage page tier u).pte q).pin = (d.pte q).pin := by
  unfold Chip.switchPage
  extract_lets e a read copied
  have hcopied : PinsKept d copied := writePhys_pinsKept (noteRead_pinsKept (.refl d))
  clear_value copied
  rw [pte_setPte_ne _ _ h]
  exact hcopied q

/-- A page pinned leaves the PIN of every other page. -/
theorem pinPage_pin_ne (d : Chip) (tier : Nat) {page q : Nat} (h : q ≠ page) : ((d.pinPage tier page).pte q).pin = (d.pte q).pin := by
  unfold Chip.pinPage
  extract_lets e moved
  have hmoved : (moved.pte q).pin = (d.pte q).pin := by
    unfold moved
    split
    · rfl
    · split
      · exact switchPage_pin_ne _ _ _ h
      · rfl
  rw [pte_setPte_ne _ _ h, hmoved]

theorem pinPage_pin_self (d : Chip) (tier page : Nat) : ((d.pinPage tier page).pte page).pin = true := by
  rw [Chip.pinPage, pte_setPte_self]

end Sys2Proof.Machine
end

section
/-! Obligation O17: PAGE_MAP, PAGE_UNMAP, PAGE_PIN and MEM_INIT (R274, R289 to R295). -/
namespace Sys2Proof.Machine
open Sys2Proof

/-! ### The commit points -/

/-- What the step for `k` of a loop over `0, …, n - 1` brings about holds at its end, where the other steps neither spoil what that step needs
nor what it brings about. -/
theorem foldl_range_step {α : Type} {f : α → Nat → α} {P Q : α → Prop} {k n : Nat} {d : α} (hP : ∀ c j, j ≠ k → P c → P (f c j))
    (hk : ∀ c, P c → Q (f c k)) (hQ : ∀ c j, j ≠ k → Q c → Q (f c j)) (hn : k < n) (hd : P d) : Q ((List.range n).foldl f d) := by
  induction n with
  | zero => omega
  | succ n ih =>
    rw [List.range_succ, List.foldl_append]
    by_cases h : k < n
    · exact hQ _ n (by omega) (ih h)
    · obtain rfl : k = n := by omega
      exact hk _ (List.foldlRecOn _ f hd fun c hc j hj => hP c j (List.mem_range.mp hj).ne hc)

/-- Each entry that PAGE_MAP named is VALID, or POISONED where its tier page was lost meanwhile. -/
theorem pte_mapPages (d : Chip) (p : Nat) {n k : Nat} (hk : k < n) :
    (mapPages p n d).pte (p + k) =
      { d.pte (p + k) with state := if d.lost ((d.pte (p + k)).tpage * 0x1_0000) then .poisoned else .valid } := by
  refine foldl_range_step (P := fun c : Chip => c.pte (p + k) = d.pte (p + k) ∧ ∀ a, c.lost a = d.lost a)
    (Q := fun c : Chip => c.pte (p + k) = _) (fun c j hj ⟨entry, lost⟩ => ⟨?_, fun a => ?_⟩) (fun c ⟨entry, lost⟩ => ?_)
    (fun c j hj entry => ?_) hk ⟨rfl, fun _ => rfl⟩
  · rw [pte_setPte_ne c _ (by omega), entry]
  · rw [lost_setPte, lost]
  · rw [pte_setPte_self, entry, lost]
  · rw [pte_setPte_ne c _ (by omega), entry]

theorem pte_unmapPages (d : Chip) (p : Nat) {n k : Nat} (hk : k < n) : (unmapPages p n d).pte (p + k) = noPage := by
  refine foldl_range_step (P := fun _ => True) (Q := fun c : Chip => c.pte (p + k) = noPage) (fun _ _ _ _ => trivial) (fun c _ => ?_)
    (fun c j hj entry => ?_) hk trivial
  · rw [pte_setPte_self]
  · rw [pte_setPte_ne _ _ (by omega)]
    exact entry

theorem pin_unpinPages (d : Chip) (p tier : Nat) {n k : Nat} (hk : k < n) : ((pinPages p n tier 0 d).pte (p + k)).pin = false := by
  refine foldl_range_step (P := fun _ => True) (Q := fun c : Chip => (c.pte (p + k)).pin = false) (fun _ _ _ _ => trivial) (fun c _ => ?_)
    (fun c j hj pin => ?_) hk trivial
  · rw [if_neg (by decide), pte_setPte_self]
  · rw [if_neg (by decide), pte_setPte_ne _ _ (by omega), pin]

theorem pin_pinPages (d : Chip) (p tier : Nat) {n k : Nat} (hk : k < n) : ((pinPages p n tier 1 d).pte (p + k)).pin = true := by
  refine foldl_range_step (P := fun _ => True) (Q := fun c : Chip => (c.pte (p + k)).pin = true) (fun _ _ _ _ => trivial) (fun c _ => ?_)
    (fun c j hj pin => ?_) hk trivial
  · rw [if_pos rfl, pinPage_pin_self]
  · rw [if_pos rfl, pinPage_pin_ne c tier (by omega), pin]

/-! ### The command once it has left its ring -/

theorem dropHand_frame (d : Chip) (o : Origin) : Frame [.fetched] d (d.dropHand o) := by
  unfold Chip.dropHand
  split
  · intro p hp
    cases p with
    | fetched => exact absurd (List.mem_singleton_self _) hp
    | _ => rfl
  · exact .refl _ d

theorem dropHand_badPage (d : Chip) (o : Origin) (a n : Nat) (ok : PTE → Bool) : (d.dropHand o).badPage a n ok = d.badPage a n ok := by
  cases o <;> rfl

theorem dropHand_someUnits (d : Chip) (o : Origin) (k n : Nat) : (d.dropHand o).someUnits k n = d.someUnits k n := by
  cases o <;> rfl

theorem dropHand_inDieOrNear (d : Chip) (o : Origin) (a n : Nat) : (d.dropHand o).inDieOrNear a n = d.inDieOrNear a n := by
  cases o <;> rfl

theorem dropHand_poolsOverlap (d : Chip) (o : Origin) (a n : Nat) : (d.dropHand o).poolsOverlap a n = d.poolsOverlap a n := by
  cases o <;> rfl

theorem dropHand_firstInit (d : Chip) (o : Origin) (a n : Nat) : (d.dropHand o).firstInit a n = d.firstInit a n := by
  cases o <;> rfl

/-- A refusal changes where its reply goes, and what counts it. -/
theorem refuse_frame (d : Chip) (src : Submit) (code lo hi : Nat) : Frame (hubParts ++ [.owed, .nvs]) d (d.refuse src code lo hi) := by
  have owe (r : Reply) : Frame [.owed] d (d.owe r) := by
    intro p hp
    cases p with
    | owed => exact absurd (List.mem_singleton_self _) hp
    | _ => rfl
  unfold Chip.refuse
  extract_lets r
  split
  · exact (((owe _).mono (by decide)).trans (mr_hub (by decide) _ _ _)).trans ((count_frame _ _).mono (by decide))
  · exact (owe _).mono (by decide)
  · exact ((setCore_frame d _ _).mono (by decide)).trans ((pend_frame _ _ _).mono (by decide))
  · intro p hp
    cases p with
    | nvs => exact absurd (by decide) hp
    | _ => rfl
  · exact .refl _ d

/-- A command refused leaves the ledger, the memory unit and memory as they are. -/
theorem refused_kept (d : Chip) (src : Submit) (code lo hi : Nat) :
    ((d.dropHand src.origin).refuse src code lo hi).led = d.led ∧ ((d.dropHand src.origin).refuse src code lo hi).mu = d.mu ∧
      ((d.dropHand src.origin).refuse src code lo hi).mem = d.mem := by
  have whole : Frame (hubParts ++ [.owed, .nvs, .fetched]) d ((d.dropHand src.origin).refuse src code lo hi) :=
    ((dropHand_frame d _).mono (by decide)).trans ((refuse_frame _ src code lo hi).mono (by decide))
  exact ⟨whole .led (by decide), whole .mu (by decide), whole .mem (by decide)⟩

/-- A general command that is accepted, and then leaves the ledger's items under their numbers, is one item more. -/
theorem accepted_of_sameIds {d e : Chip} {src : Submit} {op : Nat} {ws : List Nat}
    (h : SameIds ((d.dropHand src.origin).acceptCmd src (.general op) (genBody op src ws) ((d.dropHand src.origin).originDomain src.origin)) e) :
    Accepted d e src (.general op) (d.originDomain src.origin) := by
  rw [dropHand_originDomain] at h
  exact (acceptCmd_dropHand_accepted d src.origin src _ _ _ _).then h

/-! ### The page commands (R289 to R295) -/

section
variable {s : State} {src : Submit}

theorem completes_pageMap (ht : TakenUp s.chip src .mem false 0) (a n t p : Nat) (P : Chip → Prop) :
    Completes (.pageMap src a n t p) s P ↔ P (pageMap (s.chip.dropHand src.origin) src a n t p) := by
  rw [completes_iff_of_on (f := fun d => d.submit src .mem false fun d => pageMap d src a n t p) rfl, submit_of_takenUp ht]

theorem completes_pageUnmap (ht : TakenUp s.chip src .mem false 0) (a n : Nat) (P : Chip → Prop) :
    Completes (.pageUnmap src a n) s P ↔ P (pageUnmap (s.chip.dropHand src.origin) src a n) := by
  rw [completes_iff_of_on (f := fun d => d.submit src .mem false fun d => pageUnmap d src a n) rfl, submit_of_takenUp ht]

theorem completes_pagePin (ht : TakenUp s.chip src .mem false 0) (a n t p : Nat) (P : Chip → Prop) :
    Completes (.pagePin src a n t p) s P ↔ P (pagePin (s.chip.dropHand src.origin) src a n t p) := by
  rw [completes_iff_of_on (f := fun d => d.submit src .mem false fun d => pagePin d src a n t p) rfl, submit_of_takenUp ht]

theorem completes_memInit (ht : TakenUp s.chip src .mem false 0) (a n : Nat) (v : Word) (f : Nat) (P : Chip → Prop) :
    Completes (.memInit src a n v f) s P ↔ P (memInit (s.chip.dropHand src.origin) src a n v.toNat f) := by
  rw [completes_iff_of_on (f := fun d => d.submit src .mem false fun d => memInit d src a n v.toNat f) rfl, submit_of_takenUp ht]

end

section
variable {d : Chip} {src : Submit} {a n t p : Nat}

theorem pageMap_outside (h : pageRangeBad a n = true) : ∃ code, pageMap d src a n t p = d.refuse src code := by
  unfold pageMap
  rw [if_pos h]
  split <;> exact ⟨_, rfl⟩

theorem pageUnmap_outside (h : pageRangeBad a n = true) : ∃ code, pageUnmap d src a n = d.refuse src code :=
  ⟨_, if_pos h⟩

theorem pagePin_outside (h : pageRangeBad a n = true) : ∃ code, pagePin d src a n t p = d.refuse src code := by
  unfold pagePin
  rw [if_pos h]
  split <;> exact ⟨_, rfl⟩

theorem someUnits_isSome {k : Nat} :
    (d.someUnits k n).isSome = true ↔ n ≤ ((List.range (d.pool k).count).filter (fun i => d.unitsFree (d.pool k) i 1)).length := by
  simp only [Chip.someUnits, List.length_take]
  split <;> simp <;> omega

/-- Where so many units are free, fewer are. -/
theorem someUnits_isSome_of_le {k m : Nat} (h : m ≤ n) (hn : (d.someUnits k n).isSome = true) : (d.someUnits k m).isSome = true :=
  someUnits_isSome.mpr (h.trans (someUnits_isSome.mp hn))

theorem pageMap_sameIds (ht : t ≤ 2) (hp : p ≤ 1) (hr : pageRangeBad a n = false) (hb : d.badPage a n (fun e => e = noPage) = none)
    (hu : (d.someUnits t n).isSome = true) :
    SameIds (d.acceptCmd src (.general 0x0401) (genBody 0x0401 src [a, n + t * 2 ^ 32 + p * 2 ^ 40]) (d.originDomain src.origin))
      (pageMap d src a n t p) := by
  obtain ⟨us, hus⟩ := Option.isSome_iff_exists.mp hu
  unfold pageMap
  rw [if_neg (by omega), if_neg (by simp [hr])]
  simp only [hb, hus]
  exact (holdPages_keeps _ _ _ _ _).sameIds.trans (finishWith_sameIds _ _ (mapPages_keeps _ _) _ _ _)

theorem ckpPage_of_noJobs (h : d.ckp.jobs = []) (q : Nat) : d.ckpPage q = none := by
  rw [Chip.ckpPage, h, List.findSome?_nil]

theorem pageUnmap_sameIds (hr : pageRangeBad a n = false) (hb : d.badPage a n (fun e => e.state ≠ .unmapped) = none) (hj : d.ckp.jobs = []) :
    SameIds (d.acceptCmd src (.general 0x0402) (genBody 0x0402 src [a, n]) (d.originDomain src.origin)) (pageUnmap d src a n) := by
  unfold pageUnmap
  rw [if_neg (by simp [hr])]
  have free : (List.range n).find? (fun k => (d.ckpPage (pageOf a + k)).isSome) = none := by simp [ckpPage_of_noJobs hj]
  simp only [hb, free, Option.map_none, Option.orElse_none]
  exact finishWith_sameIds _ _ (unmapPages_keeps _ _) _ _ _

theorem pagePin_sameIds (ht : t ≤ 2) (hp : p ≤ 1) (hr : pageRangeBad a n = false)
    (hb : d.badPage a n (fun e => e.state ≠ .unmapped) = none) (hu : p = 1 → (d.someUnits t n).isSome = true) :
    SameIds (d.acceptCmd src (.general 0x0403) (genBody 0x0403 src [a, n + t * 2 ^ 32 + p * 2 ^ 40]) (d.originDomain src.origin))
      (pagePin d src a n t p) := by
  unfold pagePin
  rw [if_neg (by omega), if_neg (by simp [hr])]
  simp only [hb]
  rw [if_neg]
  · exact finishWith_sameIds _ _ (pinPages_keeps _ _ _ _) _ _ _
  · rintro ⟨pinned, full⟩
    have fewer (q : Nat → Bool) : ((List.range n).filter q).length ≤ n := (List.length_filter_le q _).trans_eq List.length_range
    exact Option.not_isSome_iff_eq_none.mpr (Option.isNone_iff_eq_none.mp full) (someUnits_isSome_of_le (fewer _) (hu pinned))

/-! ### MEM_INIT (R274) -/

theorem memInit_outside {v f : Nat} (hf : f ≤ 1) (h : a % 0x1_0000 ≠ 0 ∨ n = 0 ∨ n % 0x1_0000 ≠ 0 ∨ d.inDieOrNear a n = false) :
    memInit d src a n v f = d.refuse src Code.MEM_RANGE := by
  unfold memInit
  rw [if_neg (by omega), if_pos (by simpa using h)]

theorem memInit_sameIds {v f : Nat} (hf : f ≤ 1) (ha : a % 0x1_0000 = 0) (hn : 0 < n) (hm : n % 0x1_0000 = 0) (hd : d.inDieOrNear a n = true)
    (ho : deviceOwned a n = false) (hp : d.poolsOverlap a n = false) (hi : f = 0 → d.firstInit a n = none) :
    SameIds (d.acceptCmd src (.general 0x0404) (genBody 0x0404 src [a, n, v, f]) (d.originDomain src.origin)) (memInit d src a n v f) := by
  have unset : (if f = 0 then d.firstInit a n else none) = none := by
    split
    · next h => exact hi h
    · rfl
  unfold memInit
  rw [if_neg (by omega), if_neg (by simp [ha, hm, hd]; omega), if_neg (by simp [ho]), if_neg (by simp [hp])]
  simp only [unset]
  exact (wr_keeps _ _ _).sameIds.trans (finishWith_sameIds _ _ (fun e => markInit_keeps e _ _) _ _ _)

end

/-- Settles O17: a command outside its ranges is refused (`pageMap_outside`, `memInit_outside`), one that passes its checks is an item more whose
commit point adds none (`pageMap_sameIds` and the like), and the commit points set the entries one after another (`foldl_range_step`). -/
theorem memoryCommands : Obligations.MemoryCommands := by
  unfold Obligations.MemoryCommands
  refine ⟨fun s src a n t p ht hr c hc => ?_, fun s src a n t p ht hr htier hpin hb hu => ?_, fun s src a n ht hr hb hj => ?_,
    fun s src a n t p ht hr htier hpin hb hu => ?_,
    fun s src a n f v ht hf => ⟨fun h => ?_, fun ha hn hm hd ho hp hi => ?_⟩,
    fun d p n k hk => ⟨fun hl => ?_, fun hl => ?_, ?_, ?_, fun t _ => ?_⟩⟩
  · simp only [List.mem_cons, List.not_mem_nil, or_false] at hc
    rcases hc with rfl | rfl | rfl
    · obtain ⟨code, refused⟩ := pageMap_outside (d := s.chip.dropHand src.origin) (src := src) (t := t) (p := p) hr
      rw [completes_pageMap ht, refused]
      exact refused_kept _ _ _ _ _
    · obtain ⟨code, refused⟩ := pageUnmap_outside (d := s.chip.dropHand src.origin) (src := src) hr
      rw [completes_pageUnmap ht, refused]
      exact refused_kept _ _ _ _ _
    · obtain ⟨code, refused⟩ := pagePin_outside (d := s.chip.dropHand src.origin) (src := src) (t := t) (p := p) hr
      rw [completes_pagePin ht, refused]
      exact refused_kept _ _ _ _ _
  · rw [completes_pageMap ht]
    exact accepted_of_sameIds (pageMap_sameIds htier hpin hr ((dropHand_badPage _ _ _ _ _).trans hb) (by rwa [dropHand_someUnits]))
  · rw [completes_pageUnmap ht]
    exact accepted_of_sameIds (pageUnmap_sameIds hr ((dropHand_badPage _ _ _ _ _).trans hb)
      ((congrArg CkpUnit.jobs (dropHand_frame _ _ .ckp (by decide))).trans hj))
  · rw [completes_pagePin ht]
    exact accepted_of_sameIds (pagePin_sameIds htier hpin hr ((dropHand_badPage _ _ _ _ _).trans hb) (by rwa [dropHand_someUnits]))
  · rw [completes_memInit ht, memInit_outside hf (by rwa [dropHand_inDieOrNear])]
    exact refused_kept _ _ _ _ _
  · rw [completes_memInit ht]
    exact accepted_of_sameIds (memInit_sameIds hf ha hn hm ((dropHand_inDieOrNear _ _ _ _).trans hd) ho
      ((dropHand_poolsOverlap _ _ _ _).trans hp) (by rwa [dropHand_firstInit]))
  · rw [pte_mapPages d p hk, hl]
    rfl
  · rw [pte_mapPages d p hk, hl]
    rfl
  · exact pte_unmapPages d p hk
  · exact pin_unpinPages d p 0 hk
  · exact pin_pinPages d p t hk

end Sys2Proof.Machine
end

section
/-! Obligation O18: COLD_INIT_COMPLETE while the ledger holds an item (R22, R272). -/
namespace Sys2Proof.Machine
open Sys2Proof

/-- A byte of the ledger regions turns on the items, and on which copies are in service. -/
theorem byteAt_ledger {c d : Chip} {a : Nat} (ha : isLedger a = true) (items : d.led.items = c.led.items)
    (copies : d.rg Reg.GLB_LEDGER_STATE.COPIES = c.rg Reg.GLB_LEDGER_STATE.COPIES) : d.byteAt a = c.byteAt a := by
  simp only [Chip.byteAt, ha, if_true, Chip.ledgerByte, items, copies]

/-! ### The copies in service, which the cold-start initialisation leaves as they are -/

theorem rg_foldl {α : Type} {f : Fld} {g : Chip → α → Chip} (h : ∀ d x, (g d x).rg f = d.rg f) (l : List α) (d : Chip) :
    (l.foldl g d).rg f = d.rg f :=
  List.foldlRecOn (motive := fun e => e.rg f = d.rg f) l g rfl fun e he x _ => (h e x).trans he

theorem rg_applyFlip (d : Chip) (w : Nat) {f : Fld} (harm : f.bit ≠ Reg.MEM_FLIP_CTRL.ARM.bit) (hdone : f.bit ≠ Reg.MEM_FLIP_CTRL.DONE.bit) :
    (d.applyFlip w).rg f = d.rg f := by
  have disarmed : ((d.sr Reg.MEM_FLIP_CTRL.ARM 0).sr Reg.MEM_FLIP_CTRL.DONE 1).rg f = d.rg f := by
    rw [rg_sr_ne _ _ _ _ hdone, rg_sr_ne _ _ _ _ harm]
  unfold Chip.applyFlip
  split
  · extract_lets
    split <;> exact disarmed
  · rfl

theorem copies_initRange (d : Chip) (a n : Nat) : (d.initRange a n).rg Reg.GLB_LEDGER_STATE.COPIES = d.rg Reg.GLB_LEDGER_STATE.COPIES := by
  have zeroed : (d.zeroRange a n).rg Reg.GLB_LEDGER_STATE.COPIES = d.rg Reg.GLB_LEDGER_STATE.COPIES := by
    unfold Chip.zeroRange
    extract_lets
    split
    · exact rg_applyFlip _ _ (by decide) (by decide)
    · rfl
  unfold Chip.initRange Chip.markInit
  split
  · rfl
  · split <;> exact zeroed

theorem copies_trained (d : Chip) : d.trained.rg Reg.GLB_LEDGER_STATE.COPIES = d.rg Reg.GLB_LEDGER_STATE.COPIES := by
  refine (rg_foldl (fun e pf => ?_) _ _).trans (rg_sr_ne _ _ _ _ (by decide))
  refine (rg_sr_ne _ _ _ _ ?_).trans (rg_sr_ne _ _ _ _ ?_)
  · simp only [Reg.GLB_LEDGER_STATE.COPIES, Reg.HIF_STATE.WIDTH]; omega
  · simp only [Reg.GLB_LEDGER_STATE.COPIES, Reg.HIF_STATE.SPEED]; omega

theorem copies_syncFill (d : Chip) : d.syncFill.rg Reg.GLB_LEDGER_STATE.COPIES = d.rg Reg.GLB_LEDGER_STATE.COPIES := by
  refine rg_foldl (fun e k => (rg_sr_ne _ _ _ _ ?_).trans (rg_sr_ne _ _ _ _ ?_)) _ d
  · simp only [Reg.GLB_LEDGER_STATE.COPIES, Reg.KVA_POOL_FILL.SIZE]; omega
  · simp only [Reg.GLB_LEDGER_STATE.COPIES, Reg.KVA_POOL_FILL.FREE]; omega

theorem copies_coldInit (d : Chip) : (coldInit d).rg Reg.GLB_LEDGER_STATE.COPIES = d.rg Reg.GLB_LEDGER_STATE.COPIES := by
  unfold coldInit
  split
  · rfl
  · rw [rg_sr_ne _ _ _ _ (by decide), copies_syncFill, copies_trained]
    exact rg_foldl (fun e (r : Nat × Nat) => copies_initRange e r.1 r.2) _ _

/-- A chip whose Maquette is loaded and whose cold-start initialisation runs, both ledger copies in service, with an item in slot 0: a value of
the type `State` that no cold start leaves, as no item is accepted before the initialisation is done (R272). -/
def initBusyWithItem : State where
  pending := []
  chip := { led := { nextSeq := 8, items := [servedCompact] }, regs := [(Reg.PCR_STATE.MAQ_LOADED.bit, 1)] }

/-- The first byte of slot 0 is the lowest of the item's sequence number. -/
theorem byteAt_initBusyWithItem : initBusyWithItem.chip.byteAt 0x3400_0000 = 7 := by decide +kernel

/-- Refutes O18. The statement ranges over every `State`, also over one whose ledger holds an item while INIT_BUSY is set, and says that
COLD_INIT_COMPLETE leaves the ledger unit's state as it is and each byte of the first copy's range zero. Those bytes show the items
(`byteAt_ledger`), and in `initBusyWithItem` the first of them is still 7. -/
theorem not_memoryEngines : ¬ Obligations.MemoryEngines := by
  unfold Obligations.MemoryEngines
  rintro ⟨-, -, -, -, -, -, -, -, -, -, -, -, -, -, -, -, -, -, -, -, -, -, -, -, -, -, hcold⟩
  have h := hcold initBusyWithItem (by decide) (by decide)
  rw [completes_iff_of_on (f := coldInit) rfl] at h
  obtain ⟨-, led, zero⟩ := h
  have cleared := zero 0x3400_0000 le_rfl (by decide)
  rw [byteAt_ledger rfl (congrArg Ledger.items led) (copies_coldInit _), byteAt_initBusyWithItem] at cleared
  exact absurd cleared (by decide)

end Sys2Proof.Machine
end

section
/-! Obligation O27: the words of the Armature instructions (R314 to R317, R319, R320, R322 to R324). -/
namespace Sys2Proof.Machine
open Sys2Proof

/-! ### Numbers cut to a field -/

@[simp] theorem fin_val {k : Nat} [NeZero k] (x : Fin k) : fin x.val = x := Fin.ofNat_val_eq_self x

theorem val_fin {k : Nat} [NeZero k] (v : Nat) : (fin v : Fin k).val = v % k := rfl

theorem fin_eq_iff {k : Nat} [NeZero k] {v : Nat} {x : Fin k} : fin v = x ↔ v % k = x.val := Fin.ext_iff

theorem ofNat_eq_iff {k v : Nat} {x : BitVec k} : BitVec.ofNat k v = x ↔ v % 2 ^ k = x.toNat := by
  rw [← BitVec.toNat_inj, BitVec.toNat_ofNat]

/-! ### The R format -/

/-- The operation codes of the R format. -/
def rOps : List Nat := [0x01, 0x19, 0x23, 0x30, 0x31, 0x38, 0x40, 0x41, 0x51]

theorem rOps_lt {op : Nat} (h : op ∈ rOps) : op < 128 := (by decide : ∀ o ∈ rOps, o < 128) op h

theorem decodeInsn_of_rOps {n : Fin 16} {w : Nat} (h : w % 128 ∈ rOps) : decodeInsn n w = decodeR n (w % 128) (fieldsOf w) := by
  simp only [rOps, List.mem_cons, List.not_mem_nil, or_false] at h
  unfold decodeInsn
  rcases h with h | h | h | h | h | h | h | h | h <;> simp only [h]

theorem fieldsOf_wordR {op fn rs2 rs1 rd : Nat} (hop : op < 128) (h2 : rs2 < 32) (h1 : rs1 < 32) (hd : rd < 32) :
    fieldsOf (wordR op fn rs2 rs1 rd) = ⟨fn, fin rd, fin rs1, fin rs2⟩ := by
  simp only [fieldsOf, wordR, RFields.mk.injEq, fin_eq_iff, val_fin]
  omega

theorem decodeInsn_wordR {n : Fin 16} {op fn rs2 rs1 rd : Nat} (hop : op ∈ rOps) (h2 : rs2 < 32) (h1 : rs1 < 32) (hd : rd < 32) :
    decodeInsn n (wordR op fn rs2 rs1 rd) = decodeR n op ⟨fn, fin rd, fin rs1, fin rs2⟩ := by
  have hmod : wordR op fn rs2 rs1 rd % 128 = op := by
    have := rOps_lt hop
    unfold wordR
    omega
  rw [decodeInsn_of_rOps (hmod.symm ▸ hop), hmod, fieldsOf_wordR (rOps_lt hop) h2 h1 hd]

/-- A word is made of its fields. -/
theorem wordR_fieldsOf (w : Nat) :
    wordR (w % 128) (fieldsOf w).fn (fieldsOf w).rs2 (fieldsOf w).rs1 (fieldsOf w).rd = w := by
  simp only [fieldsOf, wordR, val_fin]
  omega

/-! ### From an instruction to its word -/

/-- A number of 32 bits that decodes, on some core, to an instruction. -/
def Spells (w : Nat) (i : Instr) : Prop := w < 2 ^ 32 ∧ ∃ n : Fin 16, decodeInsn n w = some i

section
variable {n : Fin 16} {rd rs1 rs2 : Fin 32} {op w : Nat}

theorem spells_wordR {fn r2 r1 r0 : Nat} {i : Instr} (hw : some (wordR op fn r2 r1 r0) = some w) (hop : op ∈ rOps) (hfn : fn < 1024)
    (h2 : r2 < 32) (h1 : r1 < 32) (h0 : r0 < 32) (hi : decodeR n op ⟨fn, fin r0, fin r1, fin r2⟩ = some i) : Spells w i := by
  obtain rfl := Option.some.inj hw
  refine ⟨?_, n, (decodeInsn_wordR hop h2 h1 h0).trans hi⟩
  have := rOps_lt hop
  unfold wordR
  omega

/-- The instructions with a 15-bit immediate. -/
theorem spells_wordI {imm : BitVec 15} {mk : Fin 16 → Fin 32 → Fin 32 → BitVec 15 → Instr} (hw : some (wordI op imm.toNat rs1 rd) = some w)
    (hop : op < 128)
    (hmk : ∀ v, v % 128 = op → decodeInsn n v = some (mk n (fieldsOf v).rd (fieldsOf v).rs1 (BitVec.ofNat 15 (v / 2 ^ 17)))) :
    Spells w (mk n rd rs1 imm) := by
  obtain rfl := Option.some.inj hw
  have hi := imm.isLt
  refine ⟨by unfold wordI; omega, n, ?_⟩
  have hd : (fieldsOf (wordI op imm.toNat rs1 rd)).rd = rd := fin_eq_iff.mpr (by unfold wordI; omega)
  have h1 : (fieldsOf (wordI op imm.toNat rs1 rd)).rs1 = rs1 := fin_eq_iff.mpr (by unfold wordI; omega)
  have hm : BitVec.ofNat 15 (wordI op imm.toNat rs1 rd / 2 ^ 17) = imm := ofNat_eq_iff.mpr (by unfold wordI; omega)
  rw [hmk _ (by unfold wordI; omega), hd, h1, hm]

/-- The instructions with a 12-bit immediate and an SZ, and the branches, whose condition stands in its place. -/
theorem spells_wordM {imm : BitVec 12} {sz : Fin 8} {mk : Fin 16 → Fin 32 → Fin 32 → Fin 8 → BitVec 12 → Instr}
    (hw : some (wordM op imm.toNat sz rs1 rd) = some w) (hop : op < 128)
    (hmk : ∀ v, v % 128 = op → v / 2 ^ 17 % 8 = sz.val →
      decodeInsn n v = some (mk n (fieldsOf v).rd (fieldsOf v).rs1 (fin (v / 2 ^ 17)) (BitVec.ofNat 12 (v / 2 ^ 20)))) :
    Spells w (mk n rd rs1 sz imm) := by
  obtain rfl := Option.some.inj hw
  have hi := imm.isLt
  refine ⟨by unfold wordM; omega, n, ?_⟩
  have hd : (fieldsOf (wordM op imm.toNat sz rs1 rd)).rd = rd := fin_eq_iff.mpr (by unfold wordM; omega)
  have h1 : (fieldsOf (wordM op imm.toNat sz rs1 rd)).rs1 = rs1 := fin_eq_iff.mpr (by unfold wordM; omega)
  have hs : fin (wordM op imm.toNat sz rs1 rd / 2 ^ 17) = sz := fin_eq_iff.mpr (by unfold wordM; omega)
  have hm : BitVec.ofNat 12 (wordM op imm.toNat sz rs1 rd / 2 ^ 20) = imm := ofNat_eq_iff.mpr (by unfold wordM; omega)
  rw [hmk _ (by unfold wordM; omega) (by unfold wordM; omega), hd, h1, hs, hm]

theorem spells_wordX {sz : Fin 8} {sc : Fin 4} {mk : Fin 16 → Fin 32 → Fin 32 → Fin 32 → Fin 8 → Fin 4 → Instr}
    (hw : some (wordX op sc sz rs2 rs1 rd) = some w) (hop : op < 128)
    (hmk : ∀ v, v % 128 = op → v / 2 ^ 27 = 0 → decodeInsn n v = some (mk n (fieldsOf v).rd (fieldsOf v).rs1 (fieldsOf v).rs2
      (fin (v / 2 ^ 22)) (fin (v / 2 ^ 25)))) :
    Spells w (mk n rd rs1 rs2 sz sc) := by
  obtain rfl := Option.some.inj hw
  refine ⟨by unfold wordX; omega, n, ?_⟩
  have hd : (fieldsOf (wordX op sc sz rs2 rs1 rd)).rd = rd := fin_eq_iff.mpr (by unfold wordX; omega)
  have h1 : (fieldsOf (wordX op sc sz rs2 rs1 rd)).rs1 = rs1 := fin_eq_iff.mpr (by unfold wordX; omega)
  have h2 : (fieldsOf (wordX op sc sz rs2 rs1 rd)).rs2 = rs2 := fin_eq_iff.mpr (by unfold wordX; omega)
  have hs : fin (wordX op sc sz rs2 rs1 rd / 2 ^ 22) = sz := fin_eq_iff.mpr (by unfold wordX; omega)
  have hc : fin (wordX op sc sz rs2 rs1 rd / 2 ^ 25) = sc := fin_eq_iff.mpr (by unfold wordX; omega)
  rw [hmk _ (by unfold wordX; omega) (by unfold wordX; omega), hd, h1, h2, hs, hc]

/-- The branches; `k` is the condition. -/
theorem spells_branch {k : Nat} {off : BitVec 12} {mk : Fin 16 → Fin 32 → Fin 32 → BitVec 12 → Instr}
    (hw : some (0x20 + rs1.val * 2 ^ 7 + rs2.val * 2 ^ 12 + k * 2 ^ 17 + off.toNat * 2 ^ 20) = some w) (hk : k < 8)
    (hmk : ∀ v, v % 128 = 0x20 → v / 2 ^ 17 % 8 = k →
      decodeInsn n v = some (mk n (fieldsOf v).rd (fieldsOf v).rs1 (BitVec.ofNat 12 (v / 2 ^ 20)))) : Spells w (mk n rs1 rs2 off) := by
  refine spells_wordM (sz := ⟨k, hk⟩) (mk := fun n rd rs1 _ imm => mk n rd rs1 imm) (op := 0x20) ?_ (by decide) hmk
  rw [← hw, wordM, Nat.mod_eq_of_lt off.isLt]

theorem spells_imm20 {imm : BitVec 20} {mk : Fin 16 → Fin 32 → BitVec 20 → Instr} (hw : some (op + rd.val * 2 ^ 7 + imm.toNat * 2 ^ 12) = some w)
    (hop : op < 128) (hmk : ∀ v, v % 128 = op → decodeInsn n v = some (mk n (fieldsOf v).rd (BitVec.ofNat 20 (v / 2 ^ 12)))) :
    Spells w (mk n rd imm) := by
  obtain rfl := Option.some.inj hw
  have hi := imm.isLt
  refine ⟨by omega, n, ?_⟩
  have hd : (fieldsOf (op + rd.val * 2 ^ 7 + imm.toNat * 2 ^ 12)).rd = rd := fin_eq_iff.mpr (by omega)
  have hm : BitVec.ofNat 20 ((op + rd.val * 2 ^ 7 + imm.toNat * 2 ^ 12) / 2 ^ 12) = imm := ofNat_eq_iff.mpr (by omega)
  rw [hmk _ (by omega), hd, hm]

theorem spells_imm25 {off : BitVec 25} {mk : Fin 16 → BitVec 25 → Instr} (hw : some (op + off.toNat * 2 ^ 7) = some w) (hop : op < 128)
    (hmk : ∀ v, v % 128 = op → decodeInsn n v = some (mk n (BitVec.ofNat 25 (v / 2 ^ 7)))) : Spells w (mk n off) := by
  obtain rfl := Option.some.inj hw
  have hi := off.isLt
  have hm : BitVec.ofNat 25 ((op + off.toNat * 2 ^ 7) / 2 ^ 7) = off := ofNat_eq_iff.mpr (by omega)
  exact ⟨by omega, n, by rw [hmk _ (by omega), hm]⟩

/-- The accesses of control and status registers; `k` is the form. -/
theorem spells_csr {csr : Fin 4096} {k imm r1 r0 : Nat} {i : Instr} (hw : some (wordI 0x50 imm r1 r0) = some w) (hi : imm = csr.val + k * 2 ^ 12)
    (hk : k < 4) (h1 : r1 < 32) (h0 : r0 < 32)
    (hmk : ∀ v, v % 128 = 0x50 → v / 2 ^ 29 = k → (fieldsOf v).rd = fin r0 → (fieldsOf v).rs1 = fin r1 → fin (v / 2 ^ 17) = csr →
      decodeInsn n v = some i) : Spells w i := by
  obtain rfl := Option.some.inj hw
  subst hi
  unfold wordI
  refine ⟨by omega, n, hmk _ (by omega) (by omega) ?_ ?_ ?_⟩ <;>
  · simp only [fieldsOf, fin_eq_iff, val_fin]
    omega

end


/-! The accumulator's number, its half and the mode stand in register fields (R323, R331), a trap's code in two (R324). -/

theorem decodeR_macd (n : Fin 16) (acc mode : Fin 4) (rs1 rs2 : Fin 32) :
    decodeR n 0x38 ⟨0, fin (acc + mode * 4), fin rs1, fin rs2⟩ = some (.macd n acc mode rs1 rs2) := by
  simp only [decodeR, RFields.only, fin_val]
  rw [if_pos (Fin.lt_def.mpr (by simp only [val_fin]; omega))]
  simp only [Option.some.injEq, Instr.macd.injEq, fin_eq_iff, val_fin, and_self, and_true, true_and]
  omega

theorem decodeR_acz (n : Fin 16) : ∀ acc : Fin 4, decodeR n 0x38 ⟨1, fin acc, fin 0, fin 0⟩ = some (.acz n acc)
  | 0 => rfl | 1 => rfl | 2 => rfl | 3 => rfl

theorem decodeR_acrd (n : Fin 16) (rd : Fin 32) (half : Bool) (acc : Fin 4) :
    decodeR n 0x38 ⟨2, fin rd, fin acc, fin half.toNat⟩ = some (.acrdD n rd acc half) ∧
    decodeR n 0x38 ⟨4, fin rd, fin acc, fin half.toNat⟩ = some (.acrdI n rd acc half) := by
  rw [fin_val]
  cases half <;> match acc with | 0 | 1 | 2 | 3 => exact ⟨rfl, rfl⟩

theorem decodeR_acwr (n : Fin 16) (rs1 : Fin 32) (half : Bool) (acc : Fin 4) :
    decodeR n 0x38 ⟨3, fin (acc + half.toNat * 4), fin rs1, fin 0⟩ = some (.acwr n acc half rs1) := by
  have hb := Bool.toNat_lt half
  simp only [decodeR, RFields.only, fin_val]
  rw [if_pos ⟨Fin.lt_def.mpr (by simp only [val_fin]; omega), rfl⟩]
  simp only [Option.some.injEq, Instr.acwr.injEq, fin_eq_iff, val_fin, true_and, and_true]
  refine ⟨by omega, ?_⟩
  cases half
  · exact decide_eq_false (by simp only [Bool.toNat_false]; omega)
  · exact decide_eq_true (by simp only [Bool.toNat_true]; omega)

theorem decodeR_trap (n : Fin 16) (code : Fin 1024) :
    decodeR n 0x51 ⟨4, fin 0, fin (code % 32), fin (code / 32)⟩ = some (.trap n code) := by
  refine congrArg (fun c => some (Instr.trap n c)) (fin_eq_iff.mpr ?_)
  simp only [val_fin]
  omega

theorem bit_lt (b : Bool) : b.toNat < 32 := (Bool.toNat_lt b).trans (by decide)

/-- By the rows of the encoder, in its order; each row is of one format. -/
theorem spells_of_encodeInsn {i : Instr} {w : Nat} (h : encodeInsn i = some w) : Spells w i := by
  unfold encodeInsn at h
  split at h
  iterate 49 exact spells_wordR h (by decide) (by omega) (by omega) (by omega) (by omega) (by simp only [fin_val]; rfl)
  iterate 7 exact spells_wordI h (by decide) fun v hv => by simp only [decodeInsn, hv]
  iterate 2 exact spells_imm20 h (by decide) fun v hv => by simp only [decodeInsn, hv]
  iterate 7 exact spells_wordM h (by decide) fun v hv _ => by simp only [decodeInsn, hv]
  iterate 2 exact spells_wordX h (by decide) fun v hv h0 => by simp only [decodeInsn, hv, h0, if_true]
  iterate 6 exact spells_branch h (by decide) fun v hv hk => by simp only [decodeInsn, hv, hk]
  iterate 2 exact spells_imm25 h (by decide) fun v hv => by simp only [decodeInsn, hv]
  iterate 2 exact spells_wordR h (by decide) (by omega) (by omega) (by omega) (by omega) (by simp only [fin_val]; rfl)
  · exact spells_wordR h (by decide) (by omega) (by omega) (by omega) (by omega) rfl
  iterate 4 exact spells_wordR h (by decide) (by omega) (by omega) (by omega) (by omega) (by simp only [fin_val]; rfl)
  · exact spells_wordR h (by decide) (by omega) (by omega) (by omega) (by omega) (decodeR_macd _ _ _ _ _)
  · exact spells_wordR h (by decide) (by omega) (by omega) (by omega) (by omega) (decodeR_acz _ _)
  · exact spells_wordR h (by decide) (by omega) (bit_lt _) (by omega) (by omega) (decodeR_acrd _ _ _ _).1
  · exact spells_wordR h (by decide) (by omega) (by omega) (by omega) (by have := Bool.toNat_lt ‹Bool›; omega) (decodeR_acwr _ _ _ _)
  · exact spells_wordR h (by decide) (by omega) (bit_lt _) (by omega) (by omega) (decodeR_acrd _ _ _ _).2
  iterate 10 exact spells_wordR h (by decide) (by omega) (by omega) (by omega) (by omega) (by simp only [fin_val]; rfl)
  · exact spells_csr (k := 0) h rfl (by decide) (by omega) (by omega) fun v hv hk hd h1 hc => by
      simp only [decodeInsn, hv, hk, hd, h1, hc, fin_val]; rfl
  · exact spells_csr (k := 1) h rfl (by decide) (by omega) (by omega) fun v hv hk hd h1 hc => by
      simp only [decodeInsn, hv, hk, hd, h1, hc, fin_val]; rfl
  iterate 2
    exact spells_csr h rfl (by decide) (by omega) (by omega) fun v hv hk hd h1 hc => by
      simp only [decodeInsn, hv, hk, hd, h1, hc, fin_val]; rfl
  iterate 4 exact spells_wordR h (by decide) (by omega) (by omega) (by omega) (by omega) rfl
  · exact spells_wordR h (by decide) (by omega) (by omega) (by omega) (by omega) (decodeR_trap _ _)
  · exact spells_wordR h (by decide) (by omega) (by omega) (by omega) (by omega) rfl
  · cases h

/-! ### From a word to its instruction -/

theorem only_eq_some {f : RFields} {p : Prop} [Decidable p] {i j : Instr} : f.only p i = some j ↔ p ∧ i = j := by
  simp [RFields.only]

theorem val_accMode {r : Fin 32} (h : r < 16) : (fin r.val : Fin 4).val + (fin (r.val / 4) : Fin 4).val * 4 = r.val := by
  have := Fin.lt_def.mp h
  simp only [val_fin]
  omega

theorem val_bit {r : Fin 32} (h : r < 2) : (decide (r = 1)).toNat = r.val := by
  revert h
  revert r
  decide

theorem val_accHalf {r : Fin 32} (h : r < 8) : (fin r.val : Fin 4).val + (decide (r.val / 4 = 1)).toNat * 4 = r.val := by
  revert h
  revert r
  decide

theorem val_trapCode (a b : Fin 32) :
    (fin (a.val * 32 + b.val) : Fin 1024).val / 32 = a.val ∧ (fin (a.val * 32 + b.val) : Fin 1024).val % 32 = b.val := by
  simp only [val_fin]
  omega

/-- By the rows of the decoder, in its order: an instruction whose other fields are reserved comes with their values. -/
theorem encodeInsn_of_decodeR {n : Fin 16} {op : Nat} {f : RFields} {i : Instr} (h : decodeR n op f = some i) :
    encodeInsn i = some (wordR op f.fn f.rs2 f.rs1 f.rd) := by
  obtain ⟨fn, rd, rs1, rs2⟩ := f
  unfold decodeR at h
  split at h
  · split at h
    iterate 21 rename_i e; rw [e, ← Option.some.inj h]; rfl
    cases h
  · split at h
    iterate 3 rename_i e; rw [e, ← Option.some.inj h]; rfl
    cases h
  · split at h
    iterate 2 rename_i e; obtain ⟨⟨rfl, rfl⟩, rfl⟩ := only_eq_some.mp h; rw [e]; rfl
    · rename_i e; obtain ⟨⟨rfl, rfl, rfl⟩, rfl⟩ := only_eq_some.mp h; rw [e]; rfl
    · cases h
  · split at h
    iterate 19 rename_i e; rw [e, ← Option.some.inj h]; rfl
    iterate 6 rename_i e; obtain ⟨rfl, rfl⟩ := only_eq_some.mp h; rw [e]; rfl
    cases h
  · split at h
    iterate 2 rename_i e; obtain ⟨rfl, rfl⟩ := only_eq_some.mp h; rw [e]; rfl
    · rename_i e; rw [e, ← Option.some.inj h]; rfl
    · rename_i e; obtain ⟨⟨rfl, rfl⟩, rfl⟩ := only_eq_some.mp h; rw [e]; rfl
    · cases h
  · split at h
    · rename_i e; obtain ⟨hd, rfl⟩ := only_eq_some.mp h; rw [e]; exact congrArg (some <| wordR 0x38 0 rs2 rs1 ·) (val_accMode hd)
    · rename_i e; obtain ⟨⟨hd, rfl, rfl⟩, rfl⟩ := only_eq_some.mp h; rw [e]; exact congrArg (some <| wordR 0x38 1 0 0 ·) (Nat.mod_eq_of_lt hd)
    · rename_i e; obtain ⟨⟨h1, h2⟩, rfl⟩ := only_eq_some.mp h; rw [e]; exact congrArg₂ (some <| wordR 0x38 2 · · rd) (val_bit h2) (Nat.mod_eq_of_lt h1)
    · rename_i e; obtain ⟨⟨hd, rfl⟩, rfl⟩ := only_eq_some.mp h; rw [e]; exact congrArg (some <| wordR 0x38 3 0 rs1 ·) (val_accHalf hd)
    · rename_i e; obtain ⟨⟨h1, h2⟩, rfl⟩ := only_eq_some.mp h; rw [e]; exact congrArg₂ (some <| wordR 0x38 4 · · rd) (val_bit h2) (Nat.mod_eq_of_lt h1)
    · cases h
  · split at h
    iterate 2 rename_i e; rw [e, ← Option.some.inj h]; rfl
    · rename_i e; obtain ⟨rfl, rfl⟩ := only_eq_some.mp h; rw [e]; rfl
    · rename_i e; rw [e, ← Option.some.inj h]; rfl
    · rename_i e; obtain ⟨rfl, rfl⟩ := only_eq_some.mp h; rw [e]; rfl
    · rename_i e; obtain ⟨⟨rfl, rfl⟩, rfl⟩ := only_eq_some.mp h; rw [e]; rfl
    · rename_i e; obtain ⟨rfl, rfl⟩ := only_eq_some.mp h; rw [e]; rfl
    · cases h
  · split at h
    iterate 2 rename_i e; rw [e, ← Option.some.inj h]; rfl
    · rename_i e; obtain ⟨rfl, rfl⟩ := only_eq_some.mp h; rw [e]; rfl
    · cases h
  · split at h
    iterate 4 rename_i e; obtain ⟨⟨rfl, rfl, rfl⟩, rfl⟩ := only_eq_some.mp h; rw [e]; rfl
    · rename_i e; obtain ⟨rfl, rfl⟩ := only_eq_some.mp h; rw [e]
      exact congrArg₂ (some <| wordR 0x51 4 · · 0) (val_trapCode rs2 rs1).1 (val_trapCode rs2 rs1).2
    · rename_i e; obtain ⟨⟨rfl, rfl, rfl⟩, rfl⟩ := only_eq_some.mp h; rw [e]; rfl
    · cases h
  · cases h

section
variable {w op : Nat}

/-! A word of 32 bits is made of the fields that the decoder reads from it, format by format. -/

theorem wordI_self (e : w % 128 = op) (hw : w < 2 ^ 32) :
    wordI op (BitVec.ofNat 15 (w / 2 ^ 17)).toNat (fieldsOf w).rs1 (fieldsOf w).rd = w := by
  simp only [wordI, fieldsOf, val_fin, BitVec.toNat_ofNat]
  omega

theorem wordM_self (e : w % 128 = op) (hw : w < 2 ^ 32) :
    wordM op (BitVec.ofNat 12 (w / 2 ^ 20)).toNat (fin (w / 2 ^ 17) : Fin 8) (fieldsOf w).rs1 (fieldsOf w).rd = w := by
  simp only [wordM, fieldsOf, val_fin, BitVec.toNat_ofNat]
  omega

theorem wordX_self (e : w % 128 = op) (h0 : w / 2 ^ 27 = 0) :
    wordX op (fin (w / 2 ^ 25) : Fin 4) (fin (w / 2 ^ 22) : Fin 8) (fieldsOf w).rs2 (fieldsOf w).rs1 (fieldsOf w).rd = w := by
  simp only [wordX, fieldsOf, val_fin]
  omega

theorem branch_self {k : Nat} (e : w % 128 = 0x20) (hk : w / 2 ^ 17 % 8 = k) (hw : w < 2 ^ 32) :
    0x20 + (fieldsOf w).rd.val * 2 ^ 7 + (fieldsOf w).rs1.val * 2 ^ 12 + k * 2 ^ 17 + (BitVec.ofNat 12 (w / 2 ^ 20)).toNat * 2 ^ 20 = w := by
  simp only [fieldsOf, val_fin, BitVec.toNat_ofNat]
  omega

theorem imm20_self (e : w % 128 = op) (hw : w < 2 ^ 32) :
    op + (fieldsOf w).rd.val * 2 ^ 7 + (BitVec.ofNat 20 (w / 2 ^ 12)).toNat * 2 ^ 12 = w := by
  simp only [fieldsOf, val_fin, BitVec.toNat_ofNat]
  omega

theorem imm25_self (e : w % 128 = op) (hw : w < 2 ^ 32) : op + (BitVec.ofNat 25 (w / 2 ^ 7)).toNat * 2 ^ 7 = w := by
  simp only [BitVec.toNat_ofNat]
  omega

theorem csr_self {k : Nat} (e : w % 128 = 0x50) (hk : w / 2 ^ 29 = k) (hw : w < 2 ^ 32) :
    wordI 0x50 ((fin (w / 2 ^ 17) : Fin 4096).val + k * 2 ^ 12) (fieldsOf w).rs1 (fieldsOf w).rd = w := by
  simp only [wordI, fieldsOf, val_fin]
  omega

end

theorem encodeInsn_of_decodeInsn {n : Fin 16} {w : Nat} {i : Instr} (hw : w < 2 ^ 32) (h : decodeInsn n w = some i) :
    encodeInsn i = some w := by
  unfold decodeInsn at h
  dsimp only at h
  split at h
  iterate 7 rw [← Option.some.inj h]; exact congrArg some (wordI_self ‹_› hw)
  iterate 2 rw [← Option.some.inj h]; exact congrArg some (imm20_self ‹_› hw)
  iterate 7 rw [← Option.some.inj h]; exact congrArg some (wordM_self ‹_› hw)
  iterate 2
    obtain ⟨h0, hi⟩ := Option.ite_none_right_eq_some.mp h
    rw [← Option.some.inj hi]
    exact congrArg some (wordX_self ‹_› h0)
  · split at h
    iterate 6 rw [← Option.some.inj h]; exact congrArg some (branch_self ‹_› ‹_› hw)
    cases h
  iterate 2 rw [← Option.some.inj h]; exact congrArg some (imm25_self ‹_› hw)
  · rename_i e
    split at h
    · rename_i k; obtain ⟨h1, rfl⟩ := only_eq_some.mp h; have := csr_self e k hw; rw [h1] at this; exact congrArg some this
    · rename_i k; obtain ⟨h1, rfl⟩ := only_eq_some.mp h; have := csr_self e k hw; rw [h1] at this; exact congrArg some this
    iterate 2 rw [← Option.some.inj h]; exact congrArg some (csr_self e ‹_› hw)
    cases h
  · rw [encodeInsn_of_decodeR h, wordR_fieldsOf]

/-- Settles O27, row by row of the encoder (`spells_of_encodeInsn`) and of the decoder (`encodeInsn_of_decodeInsn`). -/
theorem encodeDecode : Obligations.EncodeDecode :=
  ⟨fun _ _ => spells_of_encodeInsn, fun _ _ _ => encodeInsn_of_decodeInsn⟩

end Sys2Proof.Machine
end

section
/-! How an Armature core's instruction settles (R301, R304, R305, R307, R321, R336, R340): what it reads, and what its outcome leaves. -/
namespace Sys2Proof.Machine
open Sys2Proof

/-! ### The cores' table -/

theorem tput_tput {α : Type} (t : Tbl α) (n : Nat) (v w : α) : tput (tput t n v) n w = tput t n w := by
  induction t with
  | nil => simp [tput]
  | cons p t ih =>
    obtain ⟨k, x⟩ := p
    simp only [tput]
    split
    · simp [tput]
    · split
      · simp [tput]
      · rename_i hlt hne
        simp [tput, hlt, hne, ih]

@[simp] theorem core_setCore_self (d : Chip) (n : Nat) (c : ArmCore) : (d.setCore n c).core n = c := by
  simp only [Chip.core, Chip.setCore, tget_tput_self, Option.getD_some]

theorem core_setCore_ne (d : Chip) {n m : Nat} (c : ArmCore) (h : m ≠ n) : (d.setCore n c).core m = d.core m := by
  simp only [Chip.core, Chip.setCore, tget_tput_ne _ _ _ _ h]

@[simp] theorem setCore_setCore (d : Chip) (n : Nat) (c c' : ArmCore) : (d.setCore n c).setCore n c' = d.setCore n c' := by
  simp only [Chip.setCore, tput_tput]

@[simp] theorem tracing_setCore (d : Chip) (n m : Nat) (c : ArmCore) : (d.setCore n c).tracing m = d.tracing m := rfl

@[simp] theorem core_takeFree (d : Chip) (n : Nat) : d.takeFree.core n = d.core n := rfl

@[simp] theorem tracing_takeFree (d : Chip) (n : Nat) : d.takeFree.tracing n = d.tracing n := rfl

theorem setCore_takeFree (d : Chip) (n : Nat) (c : ArmCore) : d.takeFree.setCore n c = (d.setCore n c).takeFree := rfl

theorem charge_takeFree (d : Chip) (p : Nat) (u : PlanUse) : d.takeFree.charge p u = (d.charge p u).takeFree := by
  unfold Chip.charge
  rw [show d.takeFree.plan p = d.plan p from rfl]
  cases d.plan p with
  | none => rfl
  | some x =>
    dsimp only
    rw [apply_ite Chip.takeFree]
    rfl

theorem tracing_charge (d : Chip) (p : Nat) (u : PlanUse) (n : Nat) : (d.charge p u).tracing n = d.tracing n := by
  simp only [Chip.tracing, Chip.flag, rg_of_regs (charge_regs d p u)]

/-! ### Registers -/

@[simp] theorem reg_zero (c : ArmCore) : c.reg 0 = ⟨0, .int⟩ := rfl

@[simp] theorem setReg_zero (c : ArmCore) (x : TVal) : c.setReg 0 x = c := rfl

theorem reg_setReg_self (c : ArmCore) {r : Fin 32} (x : TVal) (h : r ≠ 0) : (c.setReg r x).reg r = x := by
  simp only [ArmCore.reg, ArmCore.setReg, if_neg h, tget_tput_self, Option.getD_some]

/-! ### The load delay (R336) -/

/-- The load delay changes the registers, the loads in flight and LDPEND.VALID alone. -/
theorem slotOver_kept {α : Type} {f : ArmCore → α} (hloads : ∀ c l, f { c with loads := l } = f c)
    (hvalid : ∀ c, f { c with ldValid := false } = f c) (hreg : ∀ c r x, f (ArmCore.setReg c r x) = f c) (c : ArmCore) (old : List InFlight)
    (wrote : List (Fin 32)) : f (c.slotOver old wrote) = f c := by
  unfold ArmCore.slotOver
  refine List.foldlRecOn (motive := fun e => f e = f c) old _ (hloads c _) fun e he l _ => ?_
  have hwon : f (if l.slotWins then { e with ldValid := false } else e) = f c := by
    split
    · exact (hvalid e).trans he
    · exact he
  extract_lets e'
  split
  · exact (hloads e' _).trans hwon
  · split
    · exact hwon
    · exact (hreg e' _ _).trans hwon

theorem setReg_stepping (c : ArmCore) (r : Fin 32) (x : TVal) : (c.setReg r x).stepping = c.stepping := by
  unfold ArmCore.setReg
  split <;> rfl

theorem setReg_pc (c : ArmCore) (r : Fin 32) (x : TVal) : (c.setReg r x).pc = c.pc := by
  unfold ArmCore.setReg
  split <;> rfl

theorem slotOver_stepping (c : ArmCore) (old : List InFlight) (wrote : List (Fin 32)) : (c.slotOver old wrote).stepping = c.stepping :=
  slotOver_kept (fun _ _ => rfl) (fun _ => rfl) setReg_stepping c old wrote

/-! ### Operands (R304, R305) -/

section
variable {d : Chip} {n : Fin 16} {r r1 r2 : Fin 32}

theorem read1_of_ne_nul (h : ((d.core n).reg r).t ≠ .nul) (k : TVal → IOut) : d.read1 n r k = k ((d.core n).reg r) := if_neg h

theorem read1_of_nul (h : ((d.core n).reg r).t = .nul) (k : TVal → IOut) : d.read1 n r k = .trap d 0x02 r false := if_pos h

theorem typed1_of {ts : List Tag} (h : ((d.core n).reg r).t ∈ ts) (hn : .nul ∉ ts) (k : TVal → IOut) :
    d.typed1 n r ts k = k ((d.core n).reg r) := by
  unfold Chip.typed1
  rw [read1_of_ne_nul (fun e => hn (e ▸ h)), if_pos (List.contains_iff_mem.mpr h)]

/-- One operand of one tag. -/
theorem typed1_one {t : Tag} (h : ((d.core n).reg r).t = t) (ht : t ≠ .nul) (k : TVal → IOut) : d.typed1 n r [t] k = k ((d.core n).reg r) :=
  typed1_of (List.mem_singleton.mpr h) (fun e => ht (List.mem_singleton.mp e).symm) k

/-- A tag rule that no NUL operand satisfies. -/
def NoNul (rule : Tag → Tag → Option Tag) : Prop := ∀ t, rule .nul t = none ∧ rule t .nul = none

theorem NoNul.left {rule : Tag → Tag → Option Tag} (hr : NoNul rule) {a b t : Tag} (h : rule a b = some t) : a ≠ .nul := by
  rintro rfl
  rw [(hr b).1] at h
  cases h

theorem NoNul.right {rule : Tag → Tag → Option Tag} (hr : NoNul rule) {a b t : Tag} (h : rule a b = some t) : b ≠ .nul := by
  rintro rfl
  rw [(hr a).2] at h
  cases h

theorem typed2_some {rule : Tag → Tag → Option Tag} (hr : NoNul rule) {t : Tag} (h : rule ((d.core n).reg r1).t ((d.core n).reg r2).t = some t)
    (k : Word → Word → Tag → IOut) : d.typed2 n r1 r2 rule k = k ((d.core n).reg r1).v ((d.core n).reg r2).v t := by
  unfold Chip.typed2 Chip.read2
  rw [read1_of_ne_nul (hr.left h), read1_of_ne_nul (hr.right h)]
  dsimp only
  rw [h]

theorem typed2_nul (h : ((d.core n).reg r1).t = .nul) (rule : Tag → Tag → Option Tag) (k : Word → Word → Tag → IOut) :
    d.typed2 n r1 r2 rule k = .trap d 0x02 r1 false := by
  unfold Chip.typed2 Chip.read2
  exact read1_of_nul h _

/-- A combination of tags outside the rule traps with TAG_TYPE and one of the two registers. -/
theorem typed2_none {rule : Tag → Tag → Option Tag} (h1 : ((d.core n).reg r1).t ≠ .nul) (h2 : ((d.core n).reg r2).t ≠ .nul)
    (h : rule ((d.core n).reg r1).t ((d.core n).reg r2).t = none) (k : Word → Word → Tag → IOut) :
    ∃ r, (r = r1 ∨ r = r2) ∧ d.typed2 n r1 r2 rule k = .trap d 0x03 r.val false := by
  unfold Chip.typed2 Chip.read2
  rw [read1_of_ne_nul h1, read1_of_ne_nul h2]
  simp only [h]
  by_cases hfirst : allTags.any (fun t => (rule ((d.core n).reg r1).t t).isSome) = true
  · exact ⟨r2, .inr rfl, by rw [if_pos hfirst]; rfl⟩
  · exact ⟨r1, .inl rfl, by rw [if_neg hfirst]; rfl⟩

end

/-! ### The fetch, and the breakpoints (R307, R668) -/

theorem fetchable_place {n a : Nat} (hn : n < 16) (h : fetchable n a = true) : 0x1_0400_0000 ≤ a ∧ a < 0x1_0540_0000 := by
  simp only [fetchable, ownLocal, isShared, Bool.or_eq_true, Bool.and_eq_true, decide_eq_true_eq] at h
  unfold localBase at h
  omega

/-- A read of SRAM that no array error lies under leaves the chip as it is (R263, R281). -/
theorem noteRead_sram {d : Chip} {a n : Nat} (hlo : 0x1_0000_0000 ≤ a) (hhi : a + n ≤ 0x1_0900_0000)
    (hf : ∀ p ∈ d.mu.flips, overlaps a n p.1 32 = false) : d.noteRead a n = d := by
  have hpaged : isPaged a = false := by simp only [isPaged, Bool.and_eq_false_iff, decide_eq_false_iff_not]; omega
  have hplinth : isPlinth a = false := by simp only [isPlinth, decide_eq_false_iff_not]; omega
  have hsettle : d.settle a n = d := by
    unfold Chip.settle
    rw [List.filter_eq_nil_iff.mpr fun p hp => by simp [hf p hp]]
    rfl
  have hquarry : d.mem.poison.filter (fun g => isQuarry g && overlaps a n g 64) = [] := List.filter_eq_nil_iff.mpr fun g _ => by
    simp only [isQuarry, overlaps, Bool.and_eq_true, decide_eq_true_eq]
    omega
  have hnote : d.notePhys a n = d := by simp [Chip.notePhys, hsettle, hplinth, hquarry]
  unfold Chip.noteRead pageSpans
  split
  · rfl
  · simp [hpaged, Chip.xlate, Chip.touchPage, hnote]

theorem breaks_of_none {d : Chip} {n : Fin 16} {as : List (Nat × Nat)} (h : ∀ a ∈ as, d.bpMatches n a.1 a.2 = []) (k : Chip → IOut) :
    d.breaks n as k = k d := by
  unfold Chip.breaks
  rw [List.flatMap_eq_nil_iff.mpr h]
  simp [Chip.bpHit]

/-! ### What an outcome leaves -/

/-- Core n neither steps nor leaves trace records (R664, R669). -/
def QuietCore (d : Chip) (n : Nat) : Prop := (d.core n).stepping = false ∧ d.tracing n = false

theorem CanIssue.quiet {d : Chip} {n : Fin 16} (h : CanIssue d n) : QuietCore d n := by
  obtain ⟨-, -, -, -, -, -, -, hs, ht⟩ := h
  exact ⟨hs, ht⟩

section
variable {d : Chip} {n : Fin 16}

theorem QuietCore.setCore (h : QuietCore d n) {c : ArmCore} (hc : c.stepping = (d.core n).stepping) : QuietCore (d.setCore n c) n :=
  ⟨by rw [core_setCore_self, hc, h.1], h.2⟩

theorem trace_off {n : Nat} (h : d.tracing n = false) (type aux addr : Nat) : d.trace n type aux addr = d := by
  simp [Chip.trace, h]

theorem trace_of_quiet (h : QuietCore d n) (type aux addr : Nat) : d.trace n type aux addr = d := trace_off h.2 type aux addr

theorem traceData_of_quiet (h : QuietCore d n) (store : Bool) (sz a : Nat) : d.traceData n store sz a = d := by
  unfold Chip.traceData
  rw [trace_of_quiet h, ite_self]

theorem stepOver_of_quiet (h : QuietCore d n) : d.stepOver n = d := by
  simp [Chip.stepOver, h.1]

theorem retire_of_quiet (h : QuietCore d n) (old : List InFlight) (wrote : List (Fin 32)) (pc : Nat) :
    d.retire n old wrote pc = d.setCore n { (d.core n).slotOver old wrote with
      pc := BitVec.ofNat 64 pc, instret := ((d.core n).instret + 1) % 2 ^ 64 } := by
  have retired {e : Chip} (he : QuietCore e n) : (e.traceRetire n).stepOver n = e := by
    rw [Chip.traceRetire, he.2]
    exact stepOver_of_quiet he
  exact retired (h.setCore (slotOver_stepping _ _ _))

/-- The chip in which core n has become `c`, retired. -/
theorem retire_setCore (h : QuietCore d n) {c : ArmCore} (hc : c.stepping = (d.core n).stepping) (wrote : List (Fin 32)) (pc : Word) :
    ((d.setCore n c).retire n (d.core n).loads wrote pc.toNat).charge (d.core n).planctx { arm := 1 } = d.retires n wrote c pc := by
  rw [retire_of_quiet (h.setCore hc), core_setCore_self, setCore_setCore, BitVec.ofNat_toNat, BitVec.setWidth_eq]
  rfl

theorem retire_self (h : QuietCore d n) (wrote : List (Fin 32)) (pc : Word) :
    (d.retire n (d.core n).loads wrote pc.toNat).charge (d.core n).planctx { arm := 1 } = d.retires n wrote (d.core n) pc := by
  rw [retire_of_quiet h, BitVec.ofNat_toNat, BitVec.setWidth_eq]
  rfl

theorem retire_next (e : Chip) (old : List InFlight) (wrote : List (Fin 32)) (pc : Word) :
    e.retire n old wrote (pc.toNat + 4) = e.retire n old wrote (pc + 4).toNat := by
  have hpc : BitVec.ofNat 64 (pc.toNat + 4) = pc + 4 := by rw [BitVec.ofNat_add, BitVec.ofNat_toNat, BitVec.setWidth_eq]; rfl
  unfold Chip.retire
  rw [hpc, BitVec.ofNat_toNat, BitVec.setWidth_eq]

/-- An instruction that goes on to the next one, its core become `c`. -/
theorem settle_next (h : QuietCore d n) {c : ArmCore} (hc : c.stepping = (d.core n).stepping) (hp : c.pc = (d.core n).pc)
    (wrote : List (Fin 32)) (kind : Nat) :
    d.settleInsn n (d.core n).loads wrote kind (.next (d.setCore n c)) = d.retires n wrote c ((d.core n).pc + 4) := by
  unfold Chip.settleInsn
  simp only [core_setCore_self, hp, retire_next, retire_setCore h hc]

/-- One that writes a register. -/
theorem settle_writes (h : QuietCore d n) (wrote : List (Fin 32)) (kind : Nat) (rd : Fin 32) (v : Word) (t : Tag) :
    d.settleInsn n (d.core n).loads wrote kind (d.writes n rd v t) =
      d.retires n wrote ((d.core n).setReg rd ⟨v, t⟩) ((d.core n).pc + 4) :=
  settle_next h (setReg_stepping _ _ _) (setReg_pc _ _ _) wrote kind

theorem settle_next_self (h : QuietCore d n) (wrote : List (Fin 32)) (kind : Nat) :
    d.settleInsn n (d.core n).loads wrote kind (.next d) = d.retires n wrote (d.core n) ((d.core n).pc + 4) := by
  unfold Chip.settleInsn
  simp only [retire_next, retire_self h]

/-- One that goes on to the next with a free value taken. -/
theorem settle_next_takeFree (h : QuietCore d n) {c : ArmCore} (hc : c.stepping = (d.core n).stepping) (hp : c.pc = (d.core n).pc)
    (wrote : List (Fin 32)) (kind : Nat) :
    d.settleInsn n (d.core n).loads wrote kind (.next (d.setCore n c).takeFree) = (d.retires n wrote c ((d.core n).pc + 4)).takeFree := by
  have hq : QuietCore (d.setCore n c).takeFree n := h.setCore hc
  unfold Chip.settleInsn
  simp only [retire_next, core_takeFree, core_setCore_self, hp, retire_of_quiet hq, setCore_takeFree, charge_takeFree, setCore_setCore,
    BitVec.ofNat_toNat, BitVec.setWidth_eq]
  rfl

theorem retires_quiet (h : QuietCore d n) {c : ArmCore} (wrote : List (Fin 32)) (pc : Word) :
    (d.retires n wrote c pc).tracing n = false := by
  unfold Chip.retires
  rw [tracing_charge, tracing_setCore, h.2]

/-- An instruction that goes to a target, its core become `c`. -/
theorem settle_jump (h : QuietCore d n) {c : ArmCore} (hc : c.stepping = (d.core n).stepping) (wrote : List (Fin 32)) (kind : Nat) (t : Word) :
    d.settleInsn n (d.core n).loads wrote kind (.jump (d.setCore n c) t.toNat) = d.retires n wrote c t := by
  unfold Chip.settleInsn
  simp only [retire_setCore h hc]
  simp [Chip.trace, retires_quiet h]

theorem settle_jump_self (h : QuietCore d n) (wrote : List (Fin 32)) (kind : Nat) (t : Word) :
    d.settleInsn n (d.core n).loads wrote kind (.jump d t.toNat) = d.retires n wrote (d.core n) t := by
  unfold Chip.settleInsn
  simp only [retire_self h]
  simp [Chip.trace, retires_quiet h]

theorem holdLoad_stepping (c : ArmCore) : c.holdLoad.stepping = c.stepping := by
  unfold ArmCore.holdLoad
  split <;> rfl

theorem traps_quiet (h : QuietCore d n) (code tval : Nat) (poison : Bool) : QuietCore (d.traps n code tval poison) n :=
  h.setCore (holdLoad_stepping _)

/-- A trap outside INTRAP, of a core that leaves no trace records. -/
theorem armTrap_off (h : d.tracing n = false) (hi : (d.core n).intrap = false) (code tval : Nat) (poison : Bool) :
    d.armTrap n code tval poison false false = d.traps n code tval poison := by
  have hcause (a b c : Nat) : a + b2n false * 2 ^ 29 + b * c + b2n false * 2 ^ 31 = a + b * c := by
    rw [show b2n false = 0 from rfl, Nat.zero_mul, Nat.zero_mul, Nat.add_zero, Nat.add_zero]
  unfold Chip.armTrap
  simp only [hi, Bool.false_eq_true, if_false, hcause]
  exact trace_off ((tracing_setCore d n n _).trans h) _ _ _

theorem settle_trap (h : QuietCore d n) (hi : (d.core n).intrap = false) (old : List InFlight) (wrote : List (Fin 32)) (kind code tval : Nat)
    (poison : Bool) : d.settleInsn n old wrote kind (.trap d code tval poison) = d.traps n code tval poison := by
  unfold Chip.settleInsn
  simp only [armTrap_off h.2 hi, stepOver_of_quiet (traps_quiet h _ _ _)]

/-! ### One instruction -/

/-- A core that can issue runs its instruction on the chip as it is. -/
theorem insn_of_canIssue (h : CanIssue d n) (wrote : List (Fin 32)) (body : Chip → IOut) (kind : Nat) :
    d.insn n wrote body kind = d.settleInsn n (d.core n).loads wrote kind (body d) := by
  obtain ⟨hruns, hslot, hfetch, hspent, hflips, hclean, hbp, -, -⟩ := h
  have hplace := fetchable_place n.isLt hfetch
  have hnote : d.noteRead (d.core n).pc.toNat 4 = d := noteRead_sram (by omega) (by omega) hflips
  unfold Chip.insn
  simp only [hruns, hslot, hspent, hfetch, hnote, hclean, Bool.not_true, Bool.or_false, Bool.false_eq_true, if_false, if_true]
  rw [breaks_of_none (by simpa using hbp)]

/-- The command of an instruction that its core can issue. -/
theorem completes_insn {c : Instr} {s : State} {wrote : List (Fin 32)} {body : Chip → IOut} {kind : Nat}
    (he : exec c s = .next { s with chip := s.chip.insn n wrote body kind }) (h : CanIssue s.chip n) (P : Chip → Prop) :
    Completes c s P ↔ P (s.chip.settleInsn n (s.chip.core n).loads wrote kind (body s.chip)) := by
  rw [← insn_of_canIssue h]
  exact completes_iff_of_on (f := fun d => d.insn n wrote body kind) he P

end

end Sys2Proof.Machine
end

section
/-! Obligation O19: the integer and constant instructions (R304, R305, R315, R316). -/
namespace Sys2Proof.Machine
open Sys2Proof

/-! ### The tag rules, which no NUL operand satisfies -/

theorem ruleAdd_noNul : NoNul ruleAdd := fun t => by cases t <;> exact ⟨rfl, rfl⟩

theorem ruleSub_noNul : NoNul ruleSub := fun t => by cases t <;> exact ⟨rfl, rfl⟩

theorem ruleInt_noNul : NoNul ruleInt := fun t => by cases t <;> exact ⟨rfl, rfl⟩

theorem ruleOrder_noNul : NoNul ruleOrder := fun t => by cases t <;> exact ⟨rfl, rfl⟩

/-! ### The operations as numbers -/

theorem boolWord_slt (x y : Word) : boolWord (x.slt y) = if x.toInt < y.toInt then 1 else 0 := by
  simp only [boolWord, BitVec.slt, decide_eq_true_eq]

theorem boolWord_ult (x y : Word) : boolWord (x.ult y) = if x.toNat < y.toNat then 1 else 0 := by
  simp only [boolWord, BitVec.ult, decide_eq_true_eq]

theorem minS_eq (x y : Word) : minS x y = if x.toInt < y.toInt then x else y := by
  simp only [minS, BitVec.slt, decide_eq_true_eq]

theorem maxS_eq (x y : Word) : maxS x y = if x.toInt < y.toInt then y else x := by
  simp only [maxS, BitVec.slt, decide_eq_true_eq]

theorem minU_eq (x y : Word) : minU x y = if x.toNat < y.toNat then x else y := by
  simp only [minU, BitVec.ult, decide_eq_true_eq]

theorem maxU_eq (x y : Word) : maxU x y = if x.toNat < y.toNat then y else x := by
  simp only [maxU, BitVec.ult, decide_eq_true_eq]

/-- Bits 127:64 of a 128-bit number. -/
theorem ofInt128_high (a : Int) : (BitVec.ofInt 128 a).extractLsb' 64 64 = BitVec.ofInt 64 (a / 2 ^ 64) := by
  apply BitVec.eq_of_toNat_eq
  rw [BitVec.extractLsb'_toNat, BitVec.toNat_ofInt, BitVec.toNat_ofInt, Nat.shiftRight_eq_div_pow]
  omega

theorem mulHigh_eq (x y : Word) : mulHigh x y = BitVec.ofInt 64 (x.toInt * y.toInt / 2 ^ 64) := by
  rw [mulHigh, BitVec.signExtend, BitVec.signExtend, ← BitVec.ofInt_mul, ofInt128_high]

theorem mulHighU_eq (x y : Word) : mulHighU x y = BitVec.ofNat 64 (x.toNat * y.toNat / 2 ^ 64) := by
  have hx := x.isLt
  have hy := y.isLt
  have hlt : x.toNat * y.toNat < 2 ^ 128 := calc
    x.toNat * y.toNat < 2 ^ 64 * 2 ^ 64 := Nat.mul_lt_mul'' hx hy
    _ = 2 ^ 128 := by norm_num
  apply BitVec.eq_of_toNat_eq
  rw [mulHighU, BitVec.extractLsb'_toNat, BitVec.toNat_mul, BitVec.toNat_setWidth, BitVec.toNat_setWidth, BitVec.toNat_ofNat,
    Nat.mod_eq_of_lt (hx.trans (by norm_num)), Nat.mod_eq_of_lt (hy.trans (by norm_num)), Nat.mod_eq_of_lt hlt, Nat.shiftRight_eq_div_pow]

theorem sdiv_eq (x y : Word) : x.sdiv y = BitVec.ofInt 64 (x.toInt.tdiv y.toInt) := by
  rw [← BitVec.toInt_inj, BitVec.toInt_sdiv, BitVec.toInt_ofInt]

theorem srem_eq (x y : Word) : x.srem y = BitVec.ofInt 64 (x.toInt.tmod y.toInt) := by
  rw [← BitVec.toInt_srem, BitVec.ofInt_toInt]

theorem udiv_eq (x y : Word) : x / y = BitVec.ofNat 64 (x.toNat / y.toNat) := by
  rw [← BitVec.toNat_udiv, BitVec.ofNat_toNat, BitVec.setWidth_eq]

theorem umod_eq (x y : Word) : x % y = BitVec.ofNat 64 (x.toNat % y.toNat) := by
  rw [← BitVec.toNat_umod, BitVec.ofNat_toNat, BitVec.setWidth_eq]

theorem lui_eq (imm : BitVec 20) : (imm ++ (0 : BitVec 12)).signExtend 64 = BitVec.ofInt 64 (imm.toInt * 4096) := by
  rw [BitVec.signExtend, show (0 : BitVec 12) = 0#12 from rfl, BitVec.toInt_append_zero, Int.mul_comm]
  rfl

theorem luih_eq (imm : BitVec 20) (x : Word) :
    ((imm.setWidth 32 ++ (x.setWidth 32 : BitVec 32)) : Word) = BitVec.ofNat 64 (imm.toNat * 2 ^ 32 + x.toNat % 2 ^ 32) := by
  have himm := imm.isLt
  apply BitVec.eq_of_toNat_eq
  rw [BitVec.toNat_append, BitVec.toNat_setWidth, BitVec.toNat_setWidth, BitVec.toNat_ofNat,
    ← Nat.shiftLeft_add_eq_or_of_lt (Nat.mod_lt _ (by norm_num)),
    Nat.shiftLeft_eq]
  omega

/-! ### Two register operands -/

section
variable {d : Chip} {n : Fin 16} {rd rs1 rs2 : Fin 32} {rule : Tag → Tag → Option Tag}

theorem alu_eq (h : CanIssue d n) (hr : NoNul rule) {t : Tag} (ht : rule ((d.core n).reg rs1).t ((d.core n).reg rs2).t = some t)
    (f : Word → Word → Word) : d.alu n rd rs1 rs2 rule f =
      d.retires n [rd] ((d.core n).setReg rd ⟨f ((d.core n).reg rs1).v ((d.core n).reg rs2).v, t⟩) ((d.core n).pc + 4) := by
  rw [Chip.alu, insn_of_canIssue h, typed2_some hr ht, settle_writes h.quiet]

theorem alu_nul (h : CanIssue d n) (hi : (d.core n).intrap = false) (hn : ((d.core n).reg rs1).t = .nul) (f : Word → Word → Word) :
    d.alu n rd rs1 rs2 rule f = d.traps n 0x02 rs1 := by
  rw [Chip.alu, insn_of_canIssue h, typed2_nul hn, settle_trap h.quiet hi]

theorem alu_tagType (h : CanIssue d n) (hi : (d.core n).intrap = false) (h1 : ((d.core n).reg rs1).t ≠ .nul)
    (h2 : ((d.core n).reg rs2).t ≠ .nul) (ht : rule ((d.core n).reg rs1).t ((d.core n).reg rs2).t = none) (f : Word → Word → Word) :
    d.alu n rd rs1 rs2 rule f = d.traps n 0x03 rs1 ∨ d.alu n rd rs1 rs2 rule f = d.traps n 0x03 rs2 := by
  obtain ⟨r, hr, he⟩ := typed2_none h1 h2 ht (fun x y t => d.writes n rd (f x y) t)
  have htrap : d.alu n rd rs1 rs2 rule f = d.traps n 0x03 r := by
    rw [Chip.alu, insn_of_canIssue h, he, settle_trap h.quiet hi]
  rcases hr with rfl | rfl
  · exact .inl htrap
  · exact .inr htrap

theorem aluDiv_typed (h : CanIssue d n) (h1 : ((d.core n).reg rs1).t = .int) (h2 : ((d.core n).reg rs2).t = .int) (f : Word → Word → Word) :
    d.aluDiv n rd rs1 rs2 f = d.settleInsn n (d.core n).loads [rd] 2 (if ((d.core n).reg rs2).v = 0 then .trap d 0x0A 0 false
      else d.writes n rd (f ((d.core n).reg rs1).v ((d.core n).reg rs2).v) .int) := by
  have hrule : ruleInt ((d.core n).reg rs1).t ((d.core n).reg rs2).t = some .int := if_pos ⟨h1, h2⟩
  rw [Chip.aluDiv, insn_of_canIssue h, typed2_some ruleInt_noNul hrule, tDIV_ZERO]

theorem aluDiv_eq (h : CanIssue d n) (h1 : ((d.core n).reg rs1).t = .int) (h2 : ((d.core n).reg rs2).t = .int)
    (hz : ((d.core n).reg rs2).v ≠ 0) (f : Word → Word → Word) : d.aluDiv n rd rs1 rs2 f =
      d.retires n [rd] ((d.core n).setReg rd ⟨f ((d.core n).reg rs1).v ((d.core n).reg rs2).v, .int⟩) ((d.core n).pc + 4) := by
  rw [aluDiv_typed h h1 h2, if_neg hz, settle_writes h.quiet]

theorem aluDiv_zero (h : CanIssue d n) (h1 : ((d.core n).reg rs1).t = .int) (h2 : ((d.core n).reg rs2).t = .int)
    (hi : (d.core n).intrap = false) (hz : ((d.core n).reg rs2).v = 0) (f : Word → Word → Word) :
    d.aluDiv n rd rs1 rs2 f = d.traps n 0x0A 0 := by
  rw [aluDiv_typed h h1 h2, if_pos hz, settle_trap h.quiet hi]

theorem aluImm_eq (h : CanIssue d n) (hr : NoNul rule) {t : Tag} (ht : rule ((d.core n).reg rs1).t .int = some t) (imm : BitVec 15)
    (f : Word → Word → Word) : d.aluImm n rd rs1 imm rule f =
      d.retires n [rd] ((d.core n).setReg rd ⟨f ((d.core n).reg rs1).v (imm.signExtend 64), t⟩) ((d.core n).pc + 4) := by
  rw [Chip.aluImm, insn_of_canIssue h, read1_of_ne_nul (hr.left ht)]
  simp only [ht]
  exact settle_writes h.quiet _ _ _ _ _

end

/-! ### The menus -/

/-- A command of the menu is an instruction of two registers under its rule, with its operation. -/
def AluRow (m : (Fin 16 → Fin 32 → Fin 32 → Fin 32 → Instr) × (Tag → Tag → Option Tag) × (Word → Word → Word)) : Prop :=
  NoNul m.2.1 ∧ ∀ n rd rs1 rs2 s, exec (m.1 n rd rs1 rs2) s = s.on (fun d => d.alu n rd rs1 rs2 m.2.1 m.2.2)

theorem AluRow.of {instr : Fin 16 → Fin 32 → Fin 32 → Fin 32 → Instr} {rule : Tag → Tag → Option Tag} {f g : Word → Word → Word}
    (hr : NoNul rule) (hf : ∀ x y, f x y = g x y)
    (he : ∀ n rd rs1 rs2 s, exec (instr n rd rs1 rs2) s = s.on (fun d => d.alu n rd rs1 rs2 rule f)) : AluRow (instr, rule, g) := by
  rw [← funext₂ hf]
  exact ⟨hr, he⟩

theorem aluMenu_rows : ∀ m ∈ aluMenu, AluRow m := by
  simp only [aluMenu, List.forall_mem_cons, List.not_mem_nil, false_imp_iff, implies_true, and_true]
  refine ⟨.of ruleAdd_noNul (fun _ _ => rfl) ?_, .of ruleSub_noNul (fun _ _ => rfl) ?_, .of ruleInt_noNul (fun _ _ => rfl) ?_,
    .of ruleInt_noNul (fun _ _ => rfl) ?_, .of ruleInt_noNul (fun _ _ => rfl) ?_, .of ruleInt_noNul (fun _ _ => rfl) ?_,
    .of ruleInt_noNul (fun _ _ => rfl) ?_, .of ruleInt_noNul (fun _ _ => rfl) ?_, .of ruleInt_noNul boolWord_slt ?_,
    .of ruleOrder_noNul boolWord_ult ?_, .of ruleInt_noNul minS_eq ?_, .of ruleInt_noNul maxS_eq ?_, .of ruleOrder_noNul minU_eq ?_,
    .of ruleOrder_noNul maxU_eq ?_, .of ruleInt_noNul (fun _ _ => rfl) ?_, .of ruleInt_noNul mulHigh_eq ?_,
    .of ruleInt_noNul mulHighU_eq ?_⟩ <;> exact fun _ _ _ _ _ => rfl

/-- A command of the menu is a division, with its operation. -/
def DivRow (m : (Fin 16 → Fin 32 → Fin 32 → Fin 32 → Instr) × (Word → Word → Word)) : Prop :=
  ∀ n rd rs1 rs2 s, exec (m.1 n rd rs1 rs2) s = s.on (fun d => d.aluDiv n rd rs1 rs2 m.2)

theorem DivRow.of {instr : Fin 16 → Fin 32 → Fin 32 → Fin 32 → Instr} {f g : Word → Word → Word} (hf : ∀ x y, f x y = g x y)
    (he : ∀ n rd rs1 rs2 s, exec (instr n rd rs1 rs2) s = s.on (fun d => d.aluDiv n rd rs1 rs2 f)) : DivRow (instr, g) := by
  rw [← funext₂ hf]
  exact he

theorem divMenu_rows : ∀ m ∈ divMenu, DivRow m := by
  simp only [divMenu, List.forall_mem_cons, List.not_mem_nil, false_imp_iff, implies_true, and_true]
  refine ⟨.of sdiv_eq ?_, .of udiv_eq ?_, .of srem_eq ?_, .of umod_eq ?_⟩ <;> exact fun _ _ _ _ _ => rfl

/-- A command of the menu is an instruction of a register and an immediate under its rule, with its operation. -/
def ImmRow (m : (Fin 16 → Fin 32 → Fin 32 → BitVec 15 → Instr) × (Tag → Tag → Option Tag) × (Word → Word → Word)) : Prop :=
  NoNul m.2.1 ∧ ∀ n rd rs1 imm s, exec (m.1 n rd rs1 imm) s = s.on (fun d => d.aluImm n rd rs1 imm m.2.1 m.2.2)

theorem ImmRow.of {instr : Fin 16 → Fin 32 → Fin 32 → BitVec 15 → Instr} {rule : Tag → Tag → Option Tag} {f g : Word → Word → Word}
    (hr : NoNul rule) (hf : ∀ x y, f x y = g x y)
    (he : ∀ n rd rs1 imm s, exec (instr n rd rs1 imm) s = s.on (fun d => d.aluImm n rd rs1 imm rule f)) : ImmRow (instr, rule, g) := by
  rw [← funext₂ hf]
  exact ⟨hr, he⟩

theorem immMenu_rows : ∀ m ∈ immMenu, ImmRow m := by
  simp only [immMenu, List.forall_mem_cons, List.not_mem_nil, false_imp_iff, implies_true, and_true]
  refine ⟨.of ruleAdd_noNul (fun _ _ => rfl) ?_, .of ruleInt_noNul (fun _ _ => rfl) ?_, .of ruleInt_noNul (fun _ _ => rfl) ?_,
    .of ruleInt_noNul (fun _ _ => rfl) ?_, .of ruleInt_noNul boolWord_slt ?_, .of ruleOrder_noNul boolWord_ult ?_⟩ <;>
    exact fun _ _ _ _ _ => rfl

/-! ### SHI, LUI and LUIH -/

section
variable {s : State} {n : Fin 16}

theorem shi_shifts (h : CanIssue s.chip n) {rd rs1 : Fin 32} {imm : BitVec 15} (hk : imm.toNat / 64 ≤ 2)
    (ht : ((s.chip.core n).reg rs1).t = .int) (P : Chip → Prop) : Completes (.shi n rd rs1 imm) s P ↔
      P (s.chip.retires n [rd] ((s.chip.core n).setReg rd ⟨(if imm.toNat / 64 = 0 then ((s.chip.core n).reg rs1).v <<< (imm.toNat % 64)
        else if imm.toNat / 64 = 1 then ((s.chip.core n).reg rs1).v >>> (imm.toNat % 64)
        else ((s.chip.core n).reg rs1).v.sshiftRight (imm.toNat % 64)), .int⟩) ((s.chip.core n).pc + 4)) := by
  have hamount : (BitVec.ofNat 64 (imm.toNat % 64)).toNat % 64 = imm.toNat % 64 := by rw [BitVec.toNat_ofNat]; omega
  rw [completes_insn (n := n) rfl h, if_neg (by omega), typed1_one ht (by decide), settle_writes h.quiet]
  rw [ite_apply, ite_apply, ite_apply, ite_apply, shlOp, shrOp, sarOp, hamount]

theorem shi_illegal (h : CanIssue s.chip n) (hi : (s.chip.core n).intrap = false) {rd rs1 : Fin 32} {imm : BitVec 15}
    (hk : 2 < imm.toNat / 64) (P : Chip → Prop) : Completes (.shi n rd rs1 imm) s P ↔
      P (s.chip.traps n 0x01 (0x08 + rd * 2 ^ 7 + rs1 * 2 ^ 12 + imm.toNat * 2 ^ 17)) := by
  rw [completes_insn (n := n) rfl h, if_pos hk, Chip.illegal, settle_trap h.quiet hi]
  rw [wordI, Nat.mod_eq_of_lt imm.isLt, tILLEGAL]

theorem completes_lui (h : CanIssue s.chip n) (rd : Fin 32) (imm : BitVec 20) (P : Chip → Prop) : Completes (.lui n rd imm) s P ↔
    P (s.chip.retires n [rd] ((s.chip.core n).setReg rd ⟨BitVec.ofInt 64 (imm.toInt * 4096), .int⟩) ((s.chip.core n).pc + 4)) := by
  rw [completes_insn (n := n) rfl h, settle_writes h.quiet, lui_eq]

theorem completes_luih (h : CanIssue s.chip n) {rd : Fin 32} (ht : ((s.chip.core n).reg rd).t = .int) (imm : BitVec 20) (P : Chip → Prop) :
    Completes (.luih n rd imm) s P ↔ P (s.chip.retires n [rd]
      ((s.chip.core n).setReg rd ⟨BitVec.ofNat 64 (imm.toNat * 2 ^ 32 + ((s.chip.core n).reg rd).v.toNat % 2 ^ 32), .int⟩)
      ((s.chip.core n).pc + 4)) := by
  rw [completes_insn (n := n) rfl h, typed1_one ht (by decide), settle_writes h.quiet, luih_eq]

end

/-- Settles O19: each command of the menus is one of three forms (two registers, a division, a register and an immediate), and each form is
followed once. -/
theorem integerInstructions : Obligations.IntegerInstructions := by
  unfold Obligations.IntegerInstructions
  refine ⟨fun m hm s n rd rs1 rs2 hc => ?_, fun m hm s n rd rs1 rs2 hc h1 h2 => ?_, fun m hm s n rd rs1 imm t hc ht => ?_,
    fun s n rd rs1 imm hc => ⟨?_, fun hk hi => (shi_illegal hc hi hk _).mpr rfl⟩,
    fun s n rd imm hc => ⟨(completes_lui hc rd imm _).mpr rfl, fun ht => (completes_luih hc ht imm _).mpr rfl⟩⟩
  · obtain ⟨hrule, he⟩ := aluMenu_rows m hm
    simp only [completes_iff_of_on (he n rd rs1 rs2 s)]
    exact ⟨fun t ht => alu_eq hc hrule ht _, fun hi hn => alu_nul hc hi hn _, fun hi hn1 hn2 ht => alu_tagType hc hi hn1 hn2 ht _⟩
  · simp only [completes_iff_of_on (divMenu_rows m hm n rd rs1 rs2 s)]
    exact ⟨fun hz => aluDiv_eq hc h1 h2 hz _, fun hi hz => aluDiv_zero hc h1 h2 hi hz _⟩
  · obtain ⟨hrule, he⟩ := immMenu_rows m hm
    exact (completes_iff_of_on (he n rd rs1 imm s) _).mpr (aluImm_eq hc hrule ht imm _)
  · rintro _ rfl hk ht
    exact (shi_shifts hc hk ht _).mpr rfl

end Sys2Proof.Machine
end

section
/-! Obligation O21: branches, jumps, calls and returns (R320, R321, R338). -/
namespace Sys2Proof.Machine
open Sys2Proof

/-! ### The tag rules of the branches -/

theorem ruleEq_noNul : NoNul ruleEq := fun t => by cases t <;> exact ⟨rfl, rfl⟩

theorem ruleInt2_noNul : NoNul ruleInt2 := fun t => by cases t <;> exact ⟨rfl, rfl⟩

theorem ruleOrd2_noNul : NoNul ruleOrd2 := fun t => by cases t <;> exact ⟨rfl, rfl⟩

theorem ruleEq_some {a b : Tag} (h : (a == b && (a == .int || a == .ptr || a == .seq || a == .desc)) = true) : ruleEq a b = some .int :=
  if_pos (by simpa [or_assoc] using h)

theorem ruleInt2_some {a b : Tag} (h : (a == .int && b == .int) = true) : ruleInt2 a b = some .int :=
  if_pos (by simpa using h)

theorem ruleOrd2_some {a b : Tag} (h : (a == b && (a == .int || a == .ptr || a == .seq)) = true) : ruleOrd2 a b = some .int :=
  if_pos (by simpa [or_assoc] using h)

/-! ### A transfer to a target (R321) -/

section
variable {d : Chip} {n : Fin 16} {t : Word}

theorem goto_of_canGo (h : CanGo n t) (k : Chip → Chip) : d.goto n t.toNat k = .jump (k d) t.toNat :=
  if_neg (by simp [h.1, h.2])

theorem goto_of_not_canGo (h : ¬ CanGo n t) (k : Chip → Chip) : d.goto n t.toNat k = .trap d 0x08 t.toNat false :=
  if_pos (by
    simp only [CanGo, not_and_or] at h
    simpa using h)

theorem settle_goto (hq : QuietCore d n) (h : CanGo n t) (wrote : List (Fin 32)) (kind : Nat) :
    d.settleInsn n (d.core n).loads wrote kind (d.goto n t.toNat) = d.retires n wrote (d.core n) t := by
  rw [goto_of_canGo h, id, settle_jump_self hq]

theorem settle_goto_bad (hq : QuietCore d n) (hi : (d.core n).intrap = false) (h : ¬ CanGo n t) (old : List InFlight)
    (wrote : List (Fin 32)) (kind : Nat) (k : Chip → Chip) :
    d.settleInsn n old wrote kind (d.goto n t.toNat k) = d.traps n 0x08 t.toNat := by
  rw [goto_of_not_canGo h, settle_trap hq hi]

/-! ### Calls and returns (R338) -/

theorem pushRet_link {c : ArmCore} (h : c.rsmode = 2) (a : Word) : c.pushRet a = c.setReg 31 ⟨a, .ptr⟩ := if_pos h

theorem pushRet_stack {c : ArmCore} (h : c.rsmode ≠ 2) (a : Word) : c.pushRet a =
    { c with rs := tput c.rs c.rsPtr a, rsPtr := (c.rsPtr + 1) % 16, rsDepth := min (c.rsDepth + 1) 16 } := if_neg h

theorem pushRet_stepping (c : ArmCore) (a : Word) : (c.pushRet a).stepping = c.stepping := by
  unfold ArmCore.pushRet
  split
  · exact setReg_stepping _ _ _
  · rfl

theorem call_over (h1 : (d.core n).rsmode = 1) (h2 : 16 ≤ (d.core n).rsDepth) (t : Nat) :
    d.call n t = .trap d 0x0B ((d.core n).pc + 4).toNat false := if_pos ⟨h1, h2⟩

theorem call_goto (h : ¬ ((d.core n).rsmode = 1 ∧ (d.core n).rsDepth ≥ 16)) (t : Nat) :
    d.call n t = d.goto n t (fun e => e.setCore n ((e.core n).pushRet ((d.core n).pc + 4))) := if_neg h

/-- A call that its mode allows, of a target that can be fetched. -/
theorem settle_call (hq : QuietCore d n) (h : ¬ ((d.core n).rsmode = 1 ∧ (d.core n).rsDepth ≥ 16)) (hgo : CanGo n t)
    (wrote : List (Fin 32)) (kind : Nat) : d.settleInsn n (d.core n).loads wrote kind (d.call n t.toNat) =
      d.retires n wrote ((d.core n).pushRet ((d.core n).pc + 4)) t := by
  rw [call_goto h, goto_of_canGo hgo, settle_jump hq (pushRet_stepping _ _)]

/-- A return from the stack, to the entry under its pointer. -/
theorem settle_ret (hq : QuietCore d n) (h2 : (d.core n).rsmode ≠ 2) (h1 : ¬ ((d.core n).rsmode = 1 ∧ (d.core n).rsDepth = 0))
    (ht : tget (d.core n).rs (((d.core n).rsPtr + 15) % 16) = some t) (hgo : CanGo n t) (wrote : List (Fin 32)) (kind : Nat) :
    d.settleInsn n (d.core n).loads wrote kind (d.ret n) = d.retires n wrote { d.core n with
      rsPtr := ((d.core n).rsPtr + 15) % 16, rsDepth := (d.core n).rsDepth - 1 } t := by
  rw [Chip.ret, if_neg h2, if_neg h1]
  dsimp only
  rw [ht, Option.getD_some, goto_of_canGo hgo]
  exact settle_jump hq (by rfl) wrote kind t

end

/-! ### Branches -/

/-- A command of the menu is a branch under a rule that accepts the tags it names, with its condition. -/
def BranchRow (m : (Fin 16 → Fin 32 → Fin 32 → BitVec 12 → Instr) × (Tag → Tag → Bool) × (Word → Word → Bool)) : Prop :=
  ∃ rule, NoNul rule ∧ (∀ a b, m.2.1 a b = true → rule a b = some .int) ∧
    ∀ n rs1 rs2 off s, exec (m.1 n rs1 rs2 off) s = s.on (fun d => d.branch n rs1 rs2 off rule m.2.2)

theorem BranchRow.of {instr : Fin 16 → Fin 32 → Fin 32 → BitVec 12 → Instr} {rule : Tag → Tag → Option Tag} {tags : Tag → Tag → Bool}
    {f g : Word → Word → Bool} (hr : NoNul rule) (hs : ∀ {a b}, tags a b = true → rule a b = some .int) (hf : ∀ x y, f x y = g x y)
    (he : ∀ n rs1 rs2 off s, exec (instr n rs1 rs2 off) s = s.on (fun d => d.branch n rs1 rs2 off rule f)) : BranchRow (instr, tags, g) := by
  rw [← funext₂ hf]
  exact ⟨rule, hr, fun _ _ => hs, he⟩

theorem bne_eq_decide (x y : Word) : decide (x ≠ y) = (x != y) := by
  rw [bne, beq_eq_decide, decide_not]

theorem not_slt_eq (x y : Word) : (!x.slt y) = decide (y.toInt ≤ x.toInt) := by
  simp only [BitVec.slt, ← decide_not, Int.not_lt]

theorem not_ult_eq (x y : Word) : (!x.ult y) = decide (y.toNat ≤ x.toNat) := by
  simp only [BitVec.ult, ← decide_not, Nat.not_lt]

theorem branchMenu_rows : ∀ m ∈ branchMenu, BranchRow m := by
  simp only [branchMenu, List.forall_mem_cons, List.not_mem_nil, false_imp_iff, implies_true, and_true]
  refine ⟨.of ruleEq_noNul ruleEq_some (fun x y => (beq_eq_decide x y).symm) ?_,
    .of ruleEq_noNul ruleEq_some (fun x y => bne_eq_decide x y) ?_,
    .of ruleInt2_noNul ruleInt2_some (fun _ _ => rfl) ?_, .of ruleInt2_noNul ruleInt2_some not_slt_eq ?_,
    .of ruleOrd2_noNul ruleOrd2_some (fun _ _ => rfl) ?_, .of ruleOrd2_noNul ruleOrd2_some not_ult_eq ?_⟩ <;>
    exact fun _ _ _ _ _ => rfl

theorem branch_settles {d : Chip} {n : Fin 16} (h : CanIssue d n) {rule : Tag → Tag → Option Tag} (hr : NoNul rule) {rs1 rs2 : Fin 32} {t : Tag}
    (ht : rule ((d.core n).reg rs1).t ((d.core n).reg rs2).t = some t) (off : BitVec 12) (taken : Word → Word → Bool) :
    d.branch n rs1 rs2 off rule taken = d.settleInsn n (d.core n).loads [] 2
      (if taken ((d.core n).reg rs1).v ((d.core n).reg rs2).v = true
        then d.goto n ((d.core n).pc + off.signExtend 64 * 4).toNat else .next d) := by
  rw [Chip.branch, insn_of_canIssue h, typed2_some hr ht]
  rfl

/-! ### The commands -/

section
variable {s : State} {n : Fin 16}

theorem completes_jump (h : CanIssue s.chip n) (off : BitVec 25) (P : Chip → Prop) : Completes (.jump n off) s P ↔
    P (s.chip.settleInsn n (s.chip.core n).loads [] 2 (s.chip.goto n ((s.chip.core n).pc + off.signExtend 64 * 4).toNat)) := by
  rw [completes_insn (n := n) rfl h, Chip.relative]

theorem completes_jr (h : CanIssue s.chip n) {rs1 : Fin 32} (ht : ((s.chip.core n).reg rs1).t = .ptr) (P : Chip → Prop) :
    Completes (.jr n rs1) s P ↔ P (s.chip.settleInsn n (s.chip.core n).loads [] 2 (s.chip.goto n ((s.chip.core n).reg rs1).v.toNat)) := by
  rw [completes_insn (n := n) rfl h, typed1_one ht (by decide)]

theorem completes_call (h : CanIssue s.chip n) (off : BitVec 25) (P : Chip → Prop) : Completes (.call n off) s P ↔
    P (s.chip.settleInsn n (s.chip.core n).loads (s.chip.callWrites n) 2
      (s.chip.call n ((s.chip.core n).pc + off.signExtend 64 * 4).toNat)) := by
  rw [completes_insn (n := n) rfl h, Chip.relative]

theorem completes_callr (h : CanIssue s.chip n) {rs1 : Fin 32} (ht : ((s.chip.core n).reg rs1).t = .ptr) (P : Chip → Prop) :
    Completes (.callr n rs1) s P ↔ P (s.chip.settleInsn n (s.chip.core n).loads (s.chip.callWrites n) 2
      (s.chip.call n ((s.chip.core n).reg rs1).v.toNat)) := by
  rw [completes_insn (n := n) rfl h, typed1_one ht (by decide)]

theorem completes_ret (h : CanIssue s.chip n) (P : Chip → Prop) : Completes (.retInsn n) s P ↔
    P (s.chip.settleInsn n (s.chip.core n).loads [] 2 (s.chip.ret n)) := by
  rw [completes_insn (n := n) rfl h]

/-- CALL and CALLR come to a call of their targets. -/
theorem completes_calls (h : CanIssue s.chip n) {off : BitVec 25} {rs1 : Fin 32} {t : Word} {c : Instr}
    (hc : c = Instr.call n off ∧ t = (s.chip.core n).pc + off.signExtend 64 * 4 ∨
      c = Instr.callr n rs1 ∧ ((s.chip.core n).reg rs1).t = .ptr ∧ t = ((s.chip.core n).reg rs1).v) (P : Chip → Prop) :
    Completes c s P ↔ P (s.chip.settleInsn n (s.chip.core n).loads (s.chip.callWrites n) 2 (s.chip.call n t.toNat)) := by
  obtain ⟨rfl, rfl⟩ | ⟨rfl, ht, rfl⟩ := hc
  · exact completes_call h off P
  · exact completes_callr h ht P

end

/-- Settles O21: every transfer comes to `goto` with its target, and the return stack is followed by its mode. -/
theorem controlFlow : Obligations.ControlFlow := by
  unfold Obligations.ControlFlow
  refine ⟨fun m hm s n rs1 rs2 off h htags => ?_, fun s n off h hgo => (completes_jump h off _).mpr (settle_goto h.quiet hgo _ _),
    fun s n rs1 h ht => ⟨fun hgo => (completes_jr h ht _).mpr (settle_goto h.quiet hgo _ _),
      fun hgo hi => (completes_jr h ht _).mpr (settle_goto_bad h.quiet hi hgo _ _ _ _)⟩,
    fun s n off rs1 t h hgo c hc => ?_,
    fun s n off h hgo hi => ⟨(completes_jump h off _).mpr (settle_goto_bad h.quiet hi hgo _ _ _ _), fun hmode => ?_⟩,
    fun s n h => ⟨fun hmode ht hgo => ?_, fun t hmode ht hgo => ?_, fun hmode hdepth hi => ?_⟩⟩
  · obtain ⟨rule, hr, hsome, he⟩ := branchMenu_rows m hm
    simp only [completes_iff_of_on (he n rs1 rs2 off s), branch_settles h hr (hsome _ _ htags)]
    refine ⟨fun hf => ?_, fun htaken hgo => ?_, fun htaken hgo hi => ?_⟩
    · rw [if_neg (by simp [hf]), settle_next_self h.quiet]
    · rw [if_pos htaken, settle_goto h.quiet hgo]
    · rw [if_pos htaken, settle_goto_bad h.quiet hi hgo]
  · simp only [completes_calls h hc]
    refine ⟨fun hmode => ?_, fun hmode => ?_, fun hmode hdepth hi => ?_⟩
    · rw [settle_call h.quiet (by omega) hgo, pushRet_link hmode, Chip.callWrites, if_pos hmode]
    · rw [settle_call h.quiet (by omega) hgo, pushRet_stack (by omega), Chip.callWrites, if_neg (by omega)]
    · rw [call_over hmode hdepth, settle_trap h.quiet hi]
  · rw [completes_call h, call_goto (by omega), settle_goto_bad h.quiet hi hgo]
  · rw [completes_ret h, Chip.ret, if_pos hmode, typed1_one ht (by decide), settle_goto h.quiet hgo]
  · rw [completes_ret h, settle_ret h.quiet (by omega) (by omega) ht hgo]
  · rw [completes_ret h, Chip.ret, if_neg (by omega), if_pos ⟨hmode, hdepth⟩, settle_trap h.quiet hi, tRS_UNDER]

end Sys2Proof.Machine
end

section
/-! Obligation O22: the floating-point instructions (R322, R345). -/
namespace Sys2Proof.Machine
open Sys2Proof

/-! ### The tag rules -/

theorem ruleF64_noNul : NoNul ruleF64 := fun t => by cases t <;> exact ⟨rfl, rfl⟩

theorem ruleF32_noNul : NoNul ruleF32 := fun t => by cases t <;> exact ⟨rfl, rfl⟩

/-- CVT_S_D takes two F64 values and gives an F32P one. -/
theorem ruleCvtSD_noNul : NoNul (fun a b => (ruleF64 a b).map (fun _ => Tag.f32p)) := fun t => by cases t <;> exact ⟨rfl, rfl⟩

/-! ### The three forms -/

section
variable {d : Chip} {n : Fin 16} {rd rs1 rs2 : Fin 32} {rule : Tag → Tag → Option Tag} {t : Tag}

theorem settle_fpWrite (h : QuietCore d n) (wrote : List (Fin 32)) (kind : Nat) (v : Word) (fl : Nat) :
    d.settleInsn n (d.core n).loads wrote kind (d.fpWrite n rd v t fl) = (d.retires n wrote
      (({ d.core n with fflags := (d.core n).fflags ||| fl } : ArmCore).setReg rd ⟨v, t⟩) ((d.core n).pc + 4)).takeFree := by
  rw [Chip.fpWrite, settle_next_takeFree h]
  · rw [setReg_stepping]
  · rw [setReg_pc]

theorem fp2_eq (h : CanIssue d n) (hr : NoNul rule) (ht : rule ((d.core n).reg rs1).t ((d.core n).reg rs2).t = some t)
    (op : (Nat → Bool) → Word → Word → Word × Nat) : ∃ r : Word × Nat, r = op d.tiny ((d.core n).reg rs1).v ((d.core n).reg rs2).v ∧
      d.fp2 n rd rs1 rs2 rule op = (d.retires n [rd]
        (({ d.core n with fflags := (d.core n).fflags ||| r.2 } : ArmCore).setReg rd ⟨r.1, t⟩) ((d.core n).pc + 4)).takeFree := by
  refine ⟨_, rfl, ?_⟩
  rw [Chip.fp2, insn_of_canIssue h, typed2_some hr ht]
  exact settle_fpWrite h.quiet _ _ _ _

theorem fp1_eq (h : CanIssue d n) {tIn : Tag} (hn : tIn ≠ .nul) (ht : ((d.core n).reg rs1).t = tIn)
    (op : (Nat → Bool) → Word → Word × Nat) : ∃ r : Word × Nat, r = op d.tiny ((d.core n).reg rs1).v ∧
      d.fp1 n rd rs1 tIn t op = (d.retires n [rd]
        (({ d.core n with fflags := (d.core n).fflags ||| r.2 } : ArmCore).setReg rd ⟨r.1, t⟩) ((d.core n).pc + 4)).takeFree := by
  refine ⟨_, rfl, ?_⟩
  rw [Chip.fp1, insn_of_canIssue h, typed1_one ht hn]
  exact settle_fpWrite h.quiet _ _ _ _

theorem fpCompare_eq (h : CanIssue d n) (hr : NoNul rule) (ht : rule ((d.core n).reg rs1).t ((d.core n).reg rs2).t = some t)
    (op : Word → Word → Word) : d.fpCompare n rd rs1 rs2 rule op =
      d.retires n [rd] ((d.core n).setReg rd ⟨op ((d.core n).reg rs1).v ((d.core n).reg rs2).v, .int⟩) ((d.core n).pc + 4) := by
  rw [Chip.fpCompare, insn_of_canIssue h, typed2_some hr ht, settle_writes h.quiet]

end

/-! ### The menus -/

/-- The tag rule of two operands of one floating-point tag. -/
def fpRule (t : Tag) : Tag → Tag → Option Tag := if t = .f64 then ruleF64 else ruleF32

theorem fpRule_noNul (t : Tag) : NoNul (fpRule t) := by
  unfold fpRule
  split
  · exact ruleF64_noNul
  · exact ruleF32_noNul

theorem fpRule_self {t : Tag} (ht : t = .f64 ∨ t = .f32p) : fpRule t t t = some t := by
  rcases ht with rfl | rfl <;> rfl

/-- A command of the menu takes two operands of its tag, F64 or F32P, to its operation's value and conditions. -/
def FpRow (m : (Fin 16 → Fin 32 → Fin 32 → Fin 32 → Instr) × Tag × ((Nat → Bool) → Word → Word → Word × Nat)) : Prop :=
  (m.2.1 = .f64 ∨ m.2.1 = .f32p) ∧
    ∀ n rd rs1 rs2 s, exec (m.1 n rd rs1 rs2) s = s.on (fun d => d.fp2 n rd rs1 rs2 (fpRule m.2.1) m.2.2)

theorem fpMenu_rows : ∀ m ∈ fpMenu, FpRow m := by
  simp only [fpMenu, List.forall_mem_cons, List.not_mem_nil, false_imp_iff, implies_true, and_true]
  refine ⟨⟨.inl rfl, ?_⟩, ⟨.inl rfl, ?_⟩, ⟨.inl rfl, ?_⟩, ⟨.inl rfl, ?_⟩, ⟨.inl rfl, ?_⟩, ⟨.inl rfl, ?_⟩, ⟨.inr rfl, ?_⟩, ⟨.inr rfl, ?_⟩,
    ⟨.inr rfl, ?_⟩, ⟨.inr rfl, ?_⟩, ⟨.inr rfl, ?_⟩, ⟨.inr rfl, ?_⟩⟩ <;> exact fun _ _ _ _ _ => rfl

/-- A command of the menu takes one operand of its tag to its operation's value, of the result's tag, and conditions. -/
def Fp1Row (m : (Fin 16 → Fin 32 → Fin 32 → Instr) × Tag × Tag × ((Nat → Bool) → Word → Word × Nat)) : Prop :=
  m.2.1 ≠ .nul ∧ ∀ n rd rs1 s, exec (m.1 n rd rs1) s = s.on (fun d => d.fp1 n rd rs1 m.2.1 m.2.2.1 m.2.2.2)

theorem fp1Menu_rows : ∀ m ∈ fp1Menu, Fp1Row m := by
  simp only [fp1Menu, List.forall_mem_cons, List.not_mem_nil, false_imp_iff, implies_true, and_true]
  refine ⟨⟨by decide, ?_⟩, ⟨by decide, ?_⟩, ⟨by decide, ?_⟩, ⟨by decide, ?_⟩, ⟨by decide, ?_⟩, ⟨by decide, ?_⟩⟩ <;> exact fun _ _ _ _ => rfl

/-- A compare of F64 values, or of the lanes of F32P ones. -/
def cmpOf (t : Tag) (op : Val → Val → Bool) : Word → Word → Word := if t = .f64 then cmpD op else cmpS op

/-- A command of the menu compares two operands of its tag, F64 or F32P. -/
def CmpRow (m : (Fin 16 → Fin 32 → Fin 32 → Fin 32 → Instr) × Tag × (Val → Val → Bool)) : Prop :=
  (m.2.1 = .f64 ∨ m.2.1 = .f32p) ∧
    ∀ n rd rs1 rs2 s, exec (m.1 n rd rs1 rs2) s = s.on (fun d => d.fpCompare n rd rs1 rs2 (fpRule m.2.1) (cmpOf m.2.1 m.2.2))

theorem fpCmpMenu_rows : ∀ m ∈ fpCmpMenu, CmpRow m := by
  simp only [fpCmpMenu, List.forall_mem_cons, List.not_mem_nil, false_imp_iff, implies_true, and_true]
  refine ⟨⟨.inl rfl, ?_⟩, ⟨.inl rfl, ?_⟩, ⟨.inl rfl, ?_⟩, ⟨.inr rfl, ?_⟩, ⟨.inr rfl, ?_⟩, ⟨.inr rfl, ?_⟩⟩ <;> exact fun _ _ _ _ _ => rfl

theorem lane_zero (x : Word) : lane x 0 = x.toNat % 2 ^ 32 := by
  rw [lane, Nat.mul_zero, Nat.pow_zero, Nat.div_one]

theorem lane_one (x : Word) : lane x 1 = x.toNat / 2 ^ 32 := by
  have h := x.isLt
  rw [lane, Nat.mul_one]
  omega

/-- A compare as the statement writes it: 1 or 0, or one bit a lane. -/
theorem cmpOf_eq (t : Tag) (op : Val → Val → Bool) (x y : Word) : cmpOf t op x y = if t = .f64 then
      (if op (decodeFloat fmtF64 x.toNat) (decodeFloat fmtF64 y.toNat) then 1 else 0)
    else BitVec.ofNat 64 ((if op (decodeFloat fmtF32 (x.toNat % 2 ^ 32)) (decodeFloat fmtF32 (y.toNat % 2 ^ 32)) then 1 else 0) +
      (if op (decodeFloat fmtF32 (x.toNat / 2 ^ 32)) (decodeFloat fmtF32 (y.toNat / 2 ^ 32)) then 2 else 0)) := by
  unfold cmpOf
  by_cases ht : t = .f64
  · rw [if_pos ht, if_pos ht]
    rfl
  · rw [if_neg ht, if_neg ht, cmpS, fpCmp, fpCmp, lane_zero, lane_zero, lane_one, lane_one, b2n, b2n, mul_ite]

/-! ### NaN results (R322) -/

theorem roundFlags_nan (tiny : Bool) : roundFlags fmtF64 tiny .nan = (0x7FF8_0000_0000_0000, 0) := rfl

theorem opD_arith_nan {op : Val → Val → Val} {x y : Word} (h : op (decodeFloat fmtF64 x.toNat) (decodeFloat fmtF64 y.toNat) = .nan)
    (t : Nat → Bool) : (opD (fpArith op) t x y).1 = 0x7FF8_0000_0000_0000 := by
  simp only [opD, fpArith, h, roundFlags_nan]
  rfl

theorem addExact_nan (b : Val) : addExact .nan b = .nan := by cases b <;> rfl

theorem mulExact_nan (b : Val) : mulExact .nan b = .nan := by cases b <;> rfl

theorem divSticky_nan (b : Val) : divSticky .nan b = .nan := by cases b <;> rfl

theorem opD_sqrt_nan {x : Word} (h : decodeFloat fmtF64 x.toNat = .nan) (t : Nat → Bool) :
    (opD fpSqrt t x x).1 = 0x7FF8_0000_0000_0000 := by
  simp only [opD, fpSqrt, h, sqrtSticky, roundFlags_nan]
  rfl

theorem cvtID_nan {x : Word} (h : decodeFloat fmtF64 x.toNat = .nan) : cvtID x = (0, ffInvalid) := by
  rw [cvtID, h]

/-- Settles O22: each command of the menus is one of three forms, each followed once; the NaN clauses are computed. -/
theorem floatingPoint : Obligations.FloatingPoint := by
  unfold Obligations.FloatingPoint
  refine ⟨fun m hm s n rd rs1 rs2 h h1 h2 => ?_, fun m hm s n rd rs1 h h1 => ?_, fun s n rd rs1 rs2 h h1 h2 => ?_,
    fun m hm s n rd rs1 rs2 h h1 h2 => ?_, fun t x y hx => ⟨?_, ?_, ?_, opD_sqrt_nan hx t⟩, fun x hx => cvtID_nan hx⟩
  · obtain ⟨htag, he⟩ := fpMenu_rows m hm
    exact (completes_iff_of_on (he n rd rs1 rs2 s) _).mpr (fp2_eq h (fpRule_noNul _) (by rw [h1, h2, fpRule_self htag]) _)
  · obtain ⟨hn, he⟩ := fp1Menu_rows m hm
    exact (completes_iff_of_on (he n rd rs1 s) _).mpr (fp1_eq h hn h1 _)
  · exact (completes_iff_of_on (f := fun d => d.fp2 n rd rs1 rs2 _ cvtSD) rfl _).mpr (fp2_eq h ruleCvtSD_noNul (by rw [h1, h2]; rfl) _)
  · obtain ⟨htag, he⟩ := fpCmpMenu_rows m hm
    rw [completes_iff_of_on (he n rd rs1 rs2 s), fpCompare_eq h (fpRule_noNul _) (by rw [h1, h2, fpRule_self htag]), cmpOf_eq]
  · exact opD_arith_nan (by rw [hx, addExact_nan]) t
  · exact opD_arith_nan (by rw [hx, mulExact_nan]) t
  · exact opD_arith_nan (op := divSticky) (by rw [hx, divSticky_nan]) t

end Sys2Proof.Machine
end

section
/-! Obligation O25: the control and status registers, software traps, ERET, fences, WAITE and interrupts (R312, R313, R324, R337, R340, R342,
R343, R345). -/
namespace Sys2Proof.Machine
open Sys2Proof

/-! ### What a charge and a CSR write leave -/

theorem charge_frame (d : Chip) (p : Nat) (u : PlanUse) : Frame [.ldr] d (d.charge p u) := by
  have metered (e : Chip) (m : Tbl PlanUse) : Frame [.ldr] e { e with ldr := { e.ldr with meters := m } } := by
    intro q hq; cases q <;> first | rfl | exact absurd (by decide) hq
  have updated (e : Chip) (f : Plan → Plan) : Frame [.ldr] e (e.updPlan p f) := by
    intro q hq; cases q <;> first | rfl | exact absurd (by decide) hq
  unfold Chip.charge
  split
  · exact .refl _ _
  · exact .ite ((metered _ _).trans (updated _ _)) (metered _ _)

theorem core_charge (d : Chip) (p : Nat) (u : PlanUse) (n : Nat) : (d.charge p u).core n = d.core n := by
  have harm : (d.charge p u).arm = d.arm := charge_frame d p u .arm (by decide)
  simp only [Chip.core, harm]

/-- A CSR write leaves the pc and the stepping (RSMODE's reserved value leaves the core). -/
theorem csrWrite_pc_stepping (c : ArmCore) (k : Nat) (x : TVal) :
    (c.csrWrite k x).pc = c.pc ∧ (c.csrWrite k x).stepping = c.stepping := by
  unfold ArmCore.csrWrite
  extract_lets v
  split
  · exact ⟨rfl, rfl⟩
  · split
    case h_2 => split <;> exact ⟨rfl, rfl⟩
    all_goals exact ⟨rfl, rfl⟩

theorem retires_core (d : Chip) (n : Fin 16) (wrote : List (Fin 32)) (c : ArmCore) (pc : Word) : (d.retires n wrote c pc).core n =
    { c.slotOver (d.core n).loads wrote with pc := pc, instret := (c.instret + 1) % 2 ^ 64 } := by
  rw [Chip.retires, core_charge, core_setCore_self]

theorem retires_frame (d : Chip) (n : Fin 16) (wrote : List (Fin 32)) (c : ArmCore) (pc : Word) :
    Frame [.arm, .ldr] d (d.retires n wrote c pc) :=
  ((setCore_frame d n _).mono (by decide)).trans ((charge_frame _ _ _).mono (by decide))

/-! ### The CSRs (R324, R345) -/

section
variable {d : Chip} {n : Fin 16}

theorem int_mem_csrTags (k : Nat) : Tag.int ∈ csrTags k := by
  unfold csrTags
  split <;> decide

theorem nul_not_mem_csrTags (k : Nat) : Tag.nul ∉ csrTags k := by
  unfold csrTags
  split <;> decide

theorem csrUpdate_eq (h : CanIssue d n) {rd rs1 : Fin 32} {k : Fin 4096} {old : TVal} (hold : d.csrRead n k = some old)
    (hw : csrWritable k = true) (ht : ((d.core n).reg rs1).t = .int) (sub : Nat) (f : Word → Word → Word) :
    d.csrUpdate n rd k rs1 sub f = d.retires n [rd]
      (((d.core n).csrWrite k ⟨f old.v ((d.core n).reg rs1).v, .int⟩).setReg rd old) ((d.core n).pc + 4) := by
  rw [Chip.csrUpdate, insn_of_canIssue h, if_neg (by simp [hw]), typed1_of (ht ▸ int_mem_csrTags k) (nul_not_mem_csrTags k)]
  simp only [hold, Option.getD_some, ht]
  obtain ⟨hpc, hstepping⟩ := csrWrite_pc_stepping (d.core n) k ⟨f old.v ((d.core n).reg rs1).v, .int⟩
  exact settle_next h.quiet ((setReg_stepping _ _ _).trans hstepping) ((setReg_pc _ _ _).trans hpc) _ _

theorem csrUpdate_readOnly (h : CanIssue d n) (hi : (d.core n).intrap = false) {k : Fin 4096} (hw : csrWritable k = false)
    (rd rs1 : Fin 32) (sub : Nat) (f : Word → Word → Word) : ∃ w, d.csrUpdate n rd k rs1 sub f = d.traps n 0x01 w := by
  refine ⟨wordI 0x50 (k + sub * 2 ^ 12) rs1 rd, ?_⟩
  rw [Chip.csrUpdate, insn_of_canIssue h, if_pos (by simp [hw]), Chip.illegal, settle_trap h.quiet hi, tILLEGAL]

end

/-! ### The commands -/

section
variable {s : State} {n : Fin 16}

theorem csrr_defined (h : CanIssue s.chip n) {k : Fin 4096} {x : TVal} (hx : s.chip.csrRead n k = some x) (rd : Fin 32) (P : Chip → Prop) :
    Completes (.csrr n rd k) s P ↔ P (s.chip.retires n [rd] ((s.chip.core n).setReg rd x) ((s.chip.core n).pc + 4)).takeFree := by
  rw [completes_insn (n := n) rfl h]
  simp only [hx]
  rw [settle_next_takeFree h.quiet (setReg_stepping _ _ _) (setReg_pc _ _ _)]

theorem csrr_undefined (h : CanIssue s.chip n) (hi : (s.chip.core n).intrap = false) {k : Fin 4096} (hx : s.chip.csrRead n k = none)
    (rd : Fin 32) (P : Chip → Prop) : Completes (.csrr n rd k) s P ↔ P (s.chip.traps n 0x01 (wordI 0x50 k 0 rd)) := by
  rw [completes_insn (n := n) rfl h]
  simp only [hx, Chip.illegal]
  rw [settle_trap h.quiet hi, tILLEGAL]

theorem completes_trap (h : CanIssue s.chip n) (hi : (s.chip.core n).intrap = false) (k : Fin 1024) (P : Chip → Prop) :
    Completes (.trap n k) s P ↔ P (s.chip.traps n 0x0F k) := by
  rw [completes_insn (n := n) rfl h, settle_trap h.quiet hi, tSOFT]

theorem completes_brk (h : CanIssue s.chip n) (hi : (s.chip.core n).intrap = false) (P : Chip → Prop) :
    Completes (.brk n) s P ↔ P (s.chip.traps n 0x10 (s.chip.core n).pc.toNat) := by
  rw [completes_insn (n := n) rfl h, settle_trap h.quiet hi, tBREAK]

theorem eret_plain (h : CanIssue s.chip n) (hl : (s.chip.core n).ldValid = false) (P : Chip → Prop) : Completes (.eret n) s P ↔
    P (s.chip.retires n [] { s.chip.core n with ie := (s.chip.core n).pie, intrap := false } (s.chip.core n).epc) := by
  rw [completes_insn (n := n) rfl h]
  simp only [hl, Bool.not_false, if_true]
  rw [settle_jump h.quiet (by rfl)]

/-- The load that LDPEND and LDVAL hold, back in flight with its data (R337). -/
def ArmCore.heldLoad (c : ArmCore) (t : Tag) : InFlight :=
  ⟨⟨c.ldReg % 32, Nat.mod_lt _ (by decide)⟩, ⟨c.ldVal, t⟩, false, true, true⟩

theorem eret_held (h : CanIssue s.chip n) (hl : (s.chip.core n).ldValid = true) {t : Tag} (ht : Tag.ofCode (s.chip.core n).ldTag = some t)
    (P : Chip → Prop) : Completes (.eret n) s P ↔ P (s.chip.retires n [] { s.chip.core n with
      ie := (s.chip.core n).pie, intrap := false, loads := (s.chip.core n).loads ++ [(s.chip.core n).heldLoad t] } (s.chip.core n).epc) := by
  rw [completes_insn (n := n) rfl h]
  simp only [hl, ht, Bool.not_true, Bool.false_eq_true, if_false]
  rw [settle_jump h.quiet (by rfl), ArmCore.heldLoad]

theorem completes_fenceInsn (h : CanIssue s.chip n) (P : Chip → Prop) : Completes (.fenceInsn n) s P ↔
    P (if (s.chip.core n).loads.any (fun l => !l.ready) then s.chip else s.chip.retires n [] (s.chip.core n) ((s.chip.core n).pc + 4)) := by
  rw [completes_insn (n := n) rfl h, apply_ite (s.chip.settleInsn n _ _ _), settle_next_self h.quiet]
  rfl

theorem completes_ifence (h : CanIssue s.chip n) (P : Chip → Prop) : Completes (.ifenceInsn n) s P ↔
    P (s.chip.retires n [] { s.chip.core n with codeStale := false } ((s.chip.core n).pc + 4)) := by
  rw [completes_insn (n := n) rfl h, Chip.thenCore, settle_next h.quiet (by rfl) (by rfl)]

theorem completes_waiteInsn (h : CanIssue s.chip n) (P : Chip → Prop) : Completes (.waite n) s P ↔
    P (if (s.chip.core n).ipend &&& ((s.chip.core n).ien + 16) = 0 then s.chip
      else s.chip.retires n [] (s.chip.core n) ((s.chip.core n).pc + 4)) := by
  rw [completes_insn (n := n) rfl h, apply_ite (s.chip.settleInsn n _ _ _), settle_next_self h.quiet]
  rfl

/-! ### Interrupts (R343) -/

theorem holdLoad_of_nil {c : ArmCore} (h : c.loads = []) : c.holdLoad = c := by
  simp [ArmCore.holdLoad, h]

theorem inSlot_of_nil {c : ArmCore} (h : c.loads = []) : c.inSlot = false := by
  simp [ArmCore.inSlot, h]

/-- An interrupt that a core outside a trap takes between instructions. -/
theorem armTrap_interrupt {d : Chip} (hi : (d.core n).intrap = false) (ht : d.tracing n = false) (hl : (d.core n).loads = []) (code : Nat) :
    d.armTrap n code 0 false false true = d.setCore n { d.core n with
      epc := (d.core n).pc, cause := BitVec.ofNat 64 (code + 2 ^ 31), tval := 0, pie := (d.core n).ie, ie := false, intrap := true,
      pc := (d.core n).tvec } := by
  have hcause : code + b2n false * 2 ^ 28 + b2n false * 2 ^ 29 + b2n false * 2 ^ 30 + b2n true * 2 ^ 31 = code + 2 ^ 31 := by
    rw [show b2n false = 0 from rfl, show b2n true = 1 from rfl, Nat.zero_mul, Nat.zero_mul, Nat.zero_mul, Nat.one_mul]
    exact rfl
  unfold Chip.armTrap
  simp only [hi, Bool.false_eq_true, if_false, holdLoad_of_nil hl, inSlot_of_nil hl, hcause]
  exact trace_off ((tracing_setCore d n n _).trans ht) _ _ _

theorem completes_interruptTaken (P : Chip → Prop) : Completes (.interruptTaken n) s P ↔
    P (if !s.chip.coreRuns n || (s.chip.core n).inSlot then s.chip else match (s.chip.core n).interrupt with
      | some b => s.chip.armTrap n (0x20 + b) 0 false false true
      | none => s.chip) :=
  completes_iff_of_on (f := fun d => if !d.coreRuns n || (d.core n).inSlot then d else match (d.core n).interrupt with
      | some b => d.armTrap n (0x20 + b) 0 false false true
      | none => d) rfl P

end

/-- Settles O25: each command's outcome, through what `settleInsn` leaves of it. -/
theorem systemInstructions : Obligations.SystemInstructions := by
  unfold Obligations.SystemInstructions
  refine ⟨fun s n rd k h => ⟨fun x hx => (csrr_defined h hx rd _).mpr rfl, fun hx hi => (csrr_undefined h hi hx rd _).mpr ⟨_, rfl⟩⟩,
    fun s n rd rs1 k old h hold hw ht => ⟨?_, ?_, ?_⟩, fun s n rd rs1 k h hw hi => ?_,
    fun s n k h hi => ⟨(completes_trap h hi k _).mpr rfl, (completes_brk h hi _).mpr rfl⟩, fun s n h hl => (eret_plain h hl _).mpr rfl,
    fun s n t h hl ht hloads => (eret_held h hl ht _).mpr ?_, fun s n h => ⟨fun hex => ?_, fun hall => ?_, (completes_ifence h _).mpr rfl,
      fun hz => (completes_waiteInsn h _).mpr (if_pos hz), fun hz => (completes_waiteInsn h _).mpr (if_neg hz)⟩,
    fun s n b hr hl htr hint hi => ?_, fun s n hint => ?_⟩
  · refine (completes_iff_of_on (f := fun d => d.csrUpdate n 0 k rs1 1 (fun _ x => x)) rfl _).mpr ?_
    rw [csrUpdate_eq h hold hw ht, setReg_zero, ← ht]
  · exact (completes_iff_of_on (f := fun d => d.csrUpdate n rd k rs1 2 (fun o x => o ||| x)) rfl _).mpr (csrUpdate_eq h hold hw ht _ _)
  · exact (completes_iff_of_on (f := fun d => d.csrUpdate n rd k rs1 3 (fun o x => o &&& ~~~x)) rfl _).mpr (csrUpdate_eq h hold hw ht _ _)
  · simp only [List.forall_mem_cons, List.not_mem_nil, false_imp_iff, implies_true, and_true]
    refine ⟨?_, ?_, ?_⟩
    · exact (completes_iff_of_on (f := fun d => d.csrUpdate n 0 k rs1 1 (fun _ x => x)) rfl _).mpr (csrUpdate_readOnly h hi hw _ _ _ _)
    · exact (completes_iff_of_on (f := fun d => d.csrUpdate n rd k rs1 2 (fun o x => o ||| x)) rfl _).mpr (csrUpdate_readOnly h hi hw _ _ _ _)
    · exact (completes_iff_of_on (f := fun d => d.csrUpdate n rd k rs1 3 (fun o x => o &&& ~~~x)) rfl _).mpr
        (csrUpdate_readOnly h hi hw _ _ _ _)
  · rw [retires_core, hloads]
    exact ⟨rfl, rfl, rfl, ⟨_, rfl, rfl, rfl, rfl, rfl, rfl⟩, retires_frame _ _ _ _ _⟩
  · exact (completes_fenceInsn h _).mpr (if_pos (by simpa using hex))
  · exact (completes_fenceInsn h _).mpr (if_neg (by simpa using hall))
  · rw [completes_interruptTaken, if_neg (by simp [hr, inSlot_of_nil hl]), hint]
    exact armTrap_interrupt hi htr hl _
  · rw [completes_interruptTaken, hint]
    exact ite_self _

end Sys2Proof.Machine
end

section
/-! Obligation O26: what a trap and a double trap do (R307, R311, R336, R340, R341). -/
namespace Sys2Proof.Machine
open Sys2Proof

section
variable {d : Chip} {n : Fin 16}

/-! ### What a trap leaves -/

theorem traps_core (d : Chip) (n : Fin 16) (code tval : Nat) (poison : Bool) : (d.traps n code tval poison).core n =
    { (d.core n).holdLoad with
      epc := (d.core n).pc, cause := BitVec.ofNat 64 (code + b2n poison * 2 ^ 28 + b2n (d.core n).inSlot * 2 ^ 30), tval := BitVec.ofNat 64 tval,
      pie := (d.core n).ie, ie := false, intrap := true, pc := (d.core n).tvec } := core_setCore_self _ _ _

theorem traps_core_ne (d : Chip) (n : Fin 16) (code tval : Nat) (poison : Bool) {m : Nat} (h : m ≠ n) :
    (d.traps n code tval poison).core m = d.core m := core_setCore_ne _ _ h

theorem traps_frame (d : Chip) (n : Fin 16) (code tval : Nat) (poison : Bool) : Frame [.arm] d (d.traps n code tval poison) :=
  setCore_frame d n _

/-! ### A fetch that traps, and a core that issues nothing -/

/-- A core that can go on to its next instruction, whatever its fetch comes to. -/
def Ready (d : Chip) (n : Fin 16) : Prop :=
  d.coreRuns n = true ∧ (d.core n).loads.any (fun l => l.slotDone) = false ∧ d.spent (d.core n).planctx = false

theorem insn_not_fetchable (h : Ready d n) (hq : QuietCore d n) (hi : (d.core n).intrap = false)
    (hf : fetchable n (d.core n).pc.toNat = false) (wrote : List (Fin 32)) (body : Chip → IOut) (kind : Nat) :
    d.insn n wrote body kind = d.traps n 0x08 (d.core n).pc.toNat := by
  obtain ⟨hruns, hslot, hspent⟩ := h
  unfold Chip.insn
  simp only [hruns, hslot, hspent, hf, Bool.not_true, Bool.not_false, Bool.or_false, Bool.false_eq_true, if_false, if_true]
  rw [settle_trap hq hi, tFETCH]

/-- A fetch of a poisoned word; the read finds no array error. -/
theorem insn_poisoned (h : Ready d n) (hq : QuietCore d n) (hi : (d.core n).intrap = false)
    (hflips : ∀ p ∈ d.mu.flips, overlaps (d.core n).pc.toNat 4 p.1 32 = false) (hf : fetchable n (d.core n).pc.toNat = true)
    (hp : d.anyPoison (d.core n).pc.toNat 4 = true) (wrote : List (Fin 32)) (body : Chip → IOut) (kind : Nat) :
    d.insn n wrote body kind = (d.noteRead (d.core n).pc.toNat 4).traps n 0x08 (d.core n).pc.toNat true := by
  obtain ⟨hruns, hslot, hspent⟩ := h
  have hplace := fetchable_place n.isLt hf
  have hnote : d.noteRead (d.core n).pc.toNat 4 = d := noteRead_sram (by omega) (by omega) hflips
  unfold Chip.insn
  simp only [hruns, hslot, hspent, hf, hnote, hp, Bool.not_true, Bool.or_false, Bool.false_eq_true, if_false, if_true]
  rw [settle_trap hq hi, tFETCH]

theorem insn_idle (h : d.coreRuns n = false ∨ d.spent (d.core n).planctx = true ∨ ∃ l ∈ (d.core n).loads, l.slotDone = true)
    (wrote : List (Fin 32)) (body : Chip → IOut) (kind : Nat) : d.insn n wrote body kind = d := by
  refine if_pos ?_
  rcases h with h | h | ⟨l, hl, hs⟩
  · simp [h]
  · simp [h]
  · simp only [Bool.or_eq_true, List.any_eq_true]
    exact .inl (.inr ⟨l, hl, hs⟩)

/-- A trap while INTRAP is set (R341). -/
theorem armTrap_double (hi : (d.core n).intrap = true) (code tval : Nat) (poison deferred intr : Bool) :
    d.armTrap n code tval poison deferred intr = (d.crash n).fault (Src.AC_DOUBLE_TRAP n) := if_pos hi

end

/-- ADD, BRK and MOV are instructions of their core. -/
theorem exec_insn_of_mem {n : Fin 16} {rd rs1 rs2 : Fin 32} {c : Instr} (hc : c ∈ [Instr.add n rd rs1 rs2, .brk n, .mov n rd rs1]) (s : State) :
    ∃ wrote body, exec c s = s.on (fun d => d.insn n wrote body) := by
  simp only [List.mem_cons, List.not_mem_nil, or_false] at hc
  rcases hc with rfl | rfl | rfl <;> exact ⟨_, _, rfl⟩

/-- Settles O26: the core that a trap leaves, the two fetches that trap, the double trap, and the core that issues nothing. -/
theorem takingATrap : Obligations.TakingATrap := by
  unfold Obligations.TakingATrap
  refine ⟨fun d n code tval hi ht hl => ?_, fun s n rd rs1 rs2 hr hl hi ht hst hsp hflips c hc => ?_, fun s n h hi => ?_,
    fun s n rd rs1 rs2 h c hc => ?_⟩
  · refine ⟨armTrap_off ht hi code tval false, ?_⟩
    rw [traps_core, holdLoad_of_nil hl]
    exact ⟨rfl, rfl, rfl, rfl, rfl, fun _ => rfl, rfl, rfl, rfl, fun _ hm => traps_core_ne d n code tval false hm,
      traps_frame d n code tval false⟩
  · obtain ⟨wrote, body, he⟩ := exec_insn_of_mem hc s
    have hready : Ready s.chip n := ⟨hr, by simp [hl], hsp⟩
    simp only [completes_iff_of_on he]
    exact ⟨fun hf => insn_not_fetchable hready ⟨hst, ht⟩ hi hf _ _ _, fun hf hp => insn_poisoned hready ⟨hst, ht⟩ hi hflips hf hp _ _ _⟩
  · rw [completes_insn (n := n) rfl h]
    simp only [Chip.settleInsn, armTrap_double hi]
  · obtain ⟨wrote, body, he⟩ := exec_insn_of_mem hc s
    exact (completes_iff_of_on he _).mpr (insn_idle h _ _ _)

end Sys2Proof.Machine
end

section
/-! Obligations O20, O23 and O24: concrete states where the model's outcome is another than the stated one. -/
namespace Sys2Proof.Machine
open Sys2Proof

/-- The chip that a command leaves; the chip as it was where it answers no next state. -/
def chipAfter (c : Instr) (s : State) : Chip :=
  match exec c s with
  | .next t => t.chip
  | _ => s.chip

theorem Completes.holds {c : Instr} {s : State} {P : Chip → Prop} (h : Completes c s P) : P (chipAfter c s) := by
  obtain ⟨t, he, -, hP⟩ := h
  rw [chipAfter, he]
  exact hP

/-! ### KEYH words of another core's local memory (R307)

AC0 reaches the local memories of all cores, and a KEYH word of another core reads as 0 there (`Chip.coreBytes`). The statements give the bytes
that stand in memory. -/

/-- AC0 about to read core 1's local memory, whose first word is 1, tagged KEYH; its address is in s1. -/
def peekState : State := { pending := [], chip := {
  arm := [(0, { pc := 0x1_0500_0000, released := true, s := [(1, ⟨0x1_0504_0000, .ptr⟩)] }), (1, { ltags := [(0, .keyh)] })]
  mem := { cells := [(0x1_0504_0000, 1)] } } }

theorem peekState_canIssue : CanIssue peekState.chip 0 := by
  unfold CanIssue
  decide +kernel

theorem peekState_canLoad : CanLoad peekState.chip 0 0x1_0504_0000 8 := by
  unfold CanLoad
  decide +kernel

theorem peekState_canLoad_line : CanLoad peekState.chip 0 0x1_0504_0000 64 := by
  unfold CanLoad
  decide +kernel

/-- The word that stands in memory is 1. -/
theorem peekState_num : peekState.chip.num 0x1_0504_0000 8 = 1 := by decide +kernel

/-- MACD fetches 0. -/
theorem peekState_macd : ((chipAfter (.macd 0 0 0 1 1) peekState).core 0).macds = [⟨0, 0, 0, 0, none⟩] := by decide +kernel

/-- Refutes O23: MACD is said to fetch the number that stands at rs1, and AC0's MACD on a KEYH word 1 of core 1's local memory fetches 0. -/
theorem not_tagsAndAccumulators : ¬ Obligations.TagsAndAccumulators := by
  unfold Obligations.TagsAndAccumulators
  rintro ⟨-, -, -, hmacd, -⟩
  obtain ⟨-, hfetch⟩ := hmacd peekState 0 0 0 1 1 peekState_canIssue (by decide) (by decide) (by decide)
  have hload : ∀ r ∈ [(1 : Fin 32), 1], CanLoad peekState.chip 0 ((peekState.chip.core 0).reg r).v.toNat 8 ∧
      isPaged ((peekState.chip.core 0).reg r).v.toNat = false := by
    intro r hr
    obtain rfl : r = 1 := by simpa using hr
    exact ⟨peekState_canLoad, by decide⟩
  obtain ⟨⟨m, hm, -, -, hx, -⟩, -⟩ := (hfetch (by decide) rfl rfl hload).holds
  obtain rfl : (⟨0, 0, 0, 0, none⟩ : Macd) = m := List.cons.inj (peekState_macd.symm.trans hm) |>.1
  have hnum : (0 : Word) = BitVec.ofNat 64 1 := peekState_num ▸ hx
  exact absurd hnum (by decide)

/-- WQ copies a descriptor whose first word is 0. -/
theorem peekState_wq : (tget ((chipAfter (.wq 0 2 1 0) peekState).core 0).handles 0).map (·.desc.w0) = some 0 := by decide +kernel

/-- The descriptor that stands in memory begins with 1. -/
theorem peekState_desc : (peekState.chip.desc 0x1_0504_0000).w0 = 1 := by decide +kernel

/-- Refutes O24: WQ is said to take the 64 bytes that stand at rs1, and AC0's WQ on core 1's local memory takes a KEYH word 1 as 0. -/
theorem not_workAndLedgerInstructions : ¬ Obligations.WorkAndLedgerInstructions := by
  unfold Obligations.WorkAndLedgerInstructions
  rintro ⟨hwq, -⟩
  obtain ⟨hint, -⟩ := hwq peekState 0 2 1 0 0 peekState_canIssue rfl peekState_canLoad_line (by decide) (by decide)
  have hafter := (hint rfl (by decide)).holds
  have hstated : (tget ((chipAfter (.wq 0 2 1 0) peekState).core (0 : Fin 16)).handles 0).map (·.desc.w0) =
      some (peekState.chip.desc 0x1_0504_0000).w0 := by
    rw [hafter, retires_core]
    rfl
  exact absurd (peekState_wq.symm.trans (hstated.trans (congrArg some peekState_desc))) (by decide)

/-! ### A field that holds more than its width (R4)

The statement ranges over every `State`, also over one whose field holds more than its width; a read gives the field's 32 bits. -/

/-- AC0 about to load GLB_LEDGER_NOTE_FREE, whose THRESHOLD holds 2^32; its address is in s1. -/
def overwideLoad : State := { pending := [], chip := {
  regs := [(Reg.GLB_LEDGER_NOTE_FREE.THRESHOLD.bit, 2 ^ 32)]
  arm := [(0, { pc := 0x1_0500_0000, released := true, s := [(1, ⟨0x2_0008_0020, .ptr⟩)] })] } }

theorem overwideLoad_canIssue : CanIssue overwideLoad.chip 0 := by
  unfold CanIssue
  decide +kernel

/-- The load brings 0. -/
theorem overwideLoad_ld : ((chipAfter (.ld 0 2 1 2 0) overwideLoad).core 0).loads.getLast?.map (·.val.v) = some 0 := by decide +kernel

theorem overwideLoad_threshold : overwideLoad.chip.rg Reg.GLB_LEDGER_NOTE_FREE.THRESHOLD = 2 ^ 32 := by decide +kernel

/-- Refutes O20: AC0's load of GLB_LEDGER_NOTE_FREE is said to bring the stored threshold; in `overwideLoad` that is 2^32, and the load brings
0. -/
theorem not_memoryInstructions : ¬ Obligations.MemoryInstructions := by
  unfold Obligations.MemoryInstructions
  rintro ⟨-, -, -, -, -, -, -, -, hmmio, -⟩
  obtain ⟨hload, -⟩ := hmmio overwideLoad 2 1 overwideLoad_canIssue rfl (by decide +kernel) (by decide +kernel) rfl rfl (by decide +kernel)
  obtain ⟨-, hlast⟩ := hload.holds
  have hval := overwideLoad_ld
  rw [hlast, overwideLoad_threshold] at hval
  exact absurd hval (by decide)

end Sys2Proof.Machine
end

section
/-! Obligation O29: a REFUSE while a plan that unloads has no work left, which answers the plan's PLAN_UNLOAD (R83, R357, R359). -/
namespace Sys2Proof.Machine
open Sys2Proof

theorem completes_refuse {s : State} {n : Fin 16} (P : Chip → Prop) : Completes (.refuse n) s P ↔ P (cmdRefuse s.chip n) :=
  completes_iff_of_on (f := fun d => cmdRefuse d n) rfl P

/-- The end-state reply of an item that a core queued marks the item replied (R359). -/
theorem replyDue_items_of_core {i : Item} {n : Fin 16} {h : Nat} (horigin : i.origin = .core n h) (d : Chip) (code lo hi : Nat) :
    (d.replyDue i code lo hi).led.items = d.led.items.map (fun j => if j.seq = i.seq then { j with replied := true } else j) := by
  obtain ⟨-, hitems, -⟩ := coreReply_keeps d n (if h < 256 then some h else none) (d.replyOf i 0 code lo hi)
  simp only [Chip.replyDue, horigin, Chip.updItem, hitems]

/-- The drain of the only plan, UNLOADING with no work left and without cores, answers its PLAN_UNLOAD (R83). -/
theorem drainPlans_of_unloading {d : Chip} {p : Plan} {i : Item} (hplans : d.ldr.plans = [p]) (hstate : p.state = .unloading)
    (hcmds : d.ldr.cmds = []) (hbusy : d.planBusy p.id = false) (hcores : p.cores = []) (hitem : d.item p.unloadSeq = some i) :
    d.drainPlans = Chip.replyDue { d with ldr := { d.ldr with plans := d.ldr.plans.filter (fun q => q.id ≠ p.id) } } i i.reply.code i.reply.lo
      i.reply.hi := by
  have hdue : d.ldr.plans.filter (fun q => q.state = .unloading && !d.ldr.cmds.any (fun c => c.plan = q.id) && !d.planBusy q.id) = [p] := by
    simp [hplans, hstate, hcmds, hbusy]
  rw [Chip.drainPlans, hdue]
  simp only [List.foldl_cons, List.foldl_nil, hcores]
  rw [show Chip.item { d with ldr := { d.ldr with plans := d.ldr.plans.filter (fun q => q.id ≠ p.id) } } p.unloadSeq = some i from hitem]

/-- The Armature cores' shared memory is no other part of the address map (R257, R275). -/
theorem isShared_apart {a : Nat} (h : isShared a = true) :
    isPlinth a = false ∧ isNear a = false ∧ isQuarry a = false ∧ isPaged a = false ∧ isHostWin a = false := by
  simp only [isShared, Bool.and_eq_true, decide_eq_true_eq] at h
  simp only [isPlinth, isNear, isQuarry, isPaged, isHostWin, Bool.and_eq_false_iff, decide_eq_false_iff_not]
  omega

/-- A write to a granule of the shared memory changes memory and its poison alone. -/
theorem writeGran_frame_of_shared (d : Chip) {g : Nat} (hg : isShared g = true) (bs : List (Nat × Nat)) (poison : Bool) :
    Frame [.mem, .mu] d (d.writeGran g bs poison) := by
  obtain ⟨hplinth, hnear, hquarry, -, -⟩ := isShared_apart hg
  have hlost : d.lost g = false := by simp [Chip.lost, hplinth, hnear, hquarry]
  have poisoned (e : Chip) (p : Bool) : Frame [.mem, .mu] e (e.setPoison g p) := by
    intro p hp
    cases p with
    | mem | mu => exact absurd (by decide) hp
    | _ => rfl
  have put (e : Chip) (b : Nat × Nat) : Frame [.mem] e (e.putByte (g + b.1) b.2) := by
    intro p hp
    cases p with
    | mem => exact absurd (by decide) hp
    | _ => rfl
  simp only [Chip.writeGran, hlost, hplinth, hquarry, Bool.false_eq_true, if_false, Bool.false_and]
  have hwritten (w : Bool) : Frame [.mem, .mu] d (if w then d else bs.foldl (fun (d : Chip) p => d.putByte (g + p.1) p.2) d) :=
    .ite (.refl _ d) (.foldl _ (fun e b => (put e b).mono (by decide)) bs d)
  exact .ite ((hwritten _).trans (poisoned _ _)) (.ite ((hwritten _).trans (poisoned _ _)) (hwritten _))

theorem wrNum_byte_frame_of_shared (d : Chip) {a : Nat} (ha : isShared a = true) (v : Nat) : Frame [.mem, .mu] d (d.wrNum a 1 v) := by
  obtain ⟨hplinth, hnear, -, hpaged, hhost⟩ := isShared_apart ha
  have hgran : isShared (granOf a) = true := by
    simp only [isShared, Bool.and_eq_true, decide_eq_true_eq] at ha ⊢
    simp only [granOf, granule, hplinth, hnear, Bool.false_eq_true, if_false]
    omega
  simp only [Chip.wrNum, Chip.wr, Chip.writeRange, Chip.writeRangeAux, Chip.writePhys, leBytes, List.map_cons, List.map_nil, List.length_singleton,
    Chip.writePhysAux, List.isEmpty_cons, hpaged, hhost, Bool.false_eq_true, false_and, if_false]
  exact writeGran_frame_of_shared d hgran _ _

/-- An inbox entry stands in the shared memory (R355). -/
theorem inbox_shared {n i o : Nat} (hn : n < 16) (hi : i < 256) (ho : o < 128) : isShared (inboxAddr n i + o) = true := by
  have bounds : 0x1_0400_0000 ≤ inboxAddr n i + o ∧ inboxAddr n i + o ≤ 0x1_04FF_FFFF := by
    unfold inboxAddr
    omega
  simpa only [isShared, Bool.and_eq_true, decide_eq_true_eq] using bounds

theorem inboxClear_frame (d : Chip) {n i : Nat} (hn : n < 16) (hi : i < 256) : Frame [.mem, .mu, .fw] d (d.inboxClear n i) := by
  have unit (e : Chip) (x : FwUnit) : Frame [.fw] e { e with fw := x } := by
    intro p hp
    cases p with
    | fw => exact absurd (by decide) hp
    | _ => rfl
  exact ((wrNum_byte_frame_of_shared d (inbox_shared hn hi (by decide : 75 < 128)) 0).mono (by decide)).trans
    ((unit _ _).mono (by decide))

/-- A ring's command refused (R357): no longer in hand, its inbox entry free, and the reply owed. -/
def Chip.refuseEntry (d : Chip) (n i r : Nat) : Chip :=
  ((d.dropHand (.ring r)).inboxClear n i).refuse ⟨.ring r, BitVec.ofNat 32 (d.entryTag r (d.desc (inboxAddr n i)))⟩ (d.rg (Reg.AMT_CMD.CODE n))
    (d.rg (Reg.AMT_CMD.REPLY n) % 2 ^ 64) (d.rg (Reg.AMT_CMD.REPLY n) / 2 ^ 64)

/-- A refusal leaves the ledger and the loader as they are. -/
theorem refuseEntry_frame (d : Chip) {n i : Nat} (hn : n < 16) (hi : i < 256) (r : Nat) :
    Frame (hubParts ++ [Part.fetched, .mem, .mu, .fw, .owed, .nvs]) d (d.refuseEntry n i r) :=
  (((dropHand_frame d _).mono (by decide)).trans ((inboxClear_frame _ hn hi).mono (by decide))).trans
    ((refuse_frame _ _ _ _ _).mono (by decide))

/-- An inbox entry freed is no plan step's any more. -/
theorem refuseEntry_stepPlan (d : Chip) (n i r : Nat) : (d.refuseEntry n i r).fw.stepPlan = tdel d.fw.stepPlan (n * 256 + i) := by
  have fw : (d.refuseEntry n i r).fw = ((d.dropHand (.ring r)).inboxClear n i).fw := refuse_frame _ _ _ _ _ .fw (by decide)
  rw [fw]
  rfl

/-- The REFUSE of a ring's command, where the window holds no outcome of an earlier operation, refuses the entry and then drains the plans. -/
theorem cmdRefuse_of_ring {d : Chip} {n r : Nat} (hwindow : (d.sr (Reg.AMT_CMD.RESULT n) 0).sr (Reg.AMT_CMD.ACCEPTED_SEQ n) 0 = d)
    (horigin : d.inboxOrigin n (d.rg (Reg.AMT_CMD.SEQ n) % 256) = some (.ring r))
    (hring : d.num (inboxAddr n (d.rg (Reg.AMT_CMD.SEQ n) % 256) + 72) 2 = r) (hr : r ≠ 0xFFFF) :
    cmdRefuse d n = (d.refuseEntry n (d.rg (Reg.AMT_CMD.SEQ n) % 256) r).drainPlans.cmdResult n Code.OK := by
  delta cmdRefuse
  simp only [hwindow, horigin, hring, if_neg hr]
  rfl

/-- A PLAN_UNLOAD that AC1 queued with WQ: COMMITTED, its reply not yet written, as its plan may still have work (R83). -/
def committedUnload : Item where
  seq := 1
  slot := 0
  state := .committed
  domain := .core 1
  tag := 9
  owner := 0x40
  replied := false
  redo := false
  replayed := false
  plan := 0
  acceptTick := 0
  endTick := 0
  origin := .core 1 7
  fn := 0x101
  kind := .general 0x0102
  body := { w0 := 0x9_0000_0102, w1 := 5 }
  crec := .none
  fin := none
  redoRec := none
  carried := false
  single := false
  reply := {}

/-- Plan 5, UNLOADING by that PLAN_UNLOAD. -/
def unloadingPlan : Plan where
  id := 5
  state := .unloading
  hdr := {
    kind := 1, elastic := false, period := 1, wcMin := 0, wcDesired := 0, imageLen := 256, wcCycles := 0, plinthBytes := 0, armInstr := 0
    items := 0, slots := 0, footPlinth := 0, footNear := 0, footQuarry := 0, overrunLimit := 0, stepTable := 192, stepCount := 0
    replyRing := 0xFFFF, egress := [], ingress := [] }
  image := 0x4000
  cores := []
  consec := 0
  overruns := 0
  loadSeq := 0
  overran := false
  unloadSeq := 1

/-- The chip with that plan, which has no work left, and a command of ring pair 0 undecided in entry 0 of AC0's inbox: of the entry's bytes
only FLAGS, 1 at offset 75, is not 0. No item's end has drained the plan, as when its last step body is dropped with the inbox of a core that
retires while the inbox to take it over is full (`Chip.moveInbox`). -/
def refusalDrains : State where
  pending := []
  chip := {
    fetched := [0]
    mem := { cells := [(0x1_04E0_004B, 1)] }
    led := { nextSeq := 2, items := [committedUnload] }
    ldr := { plans := [unloadingPlan] }
    arm := [(1, { handles := [(7, ⟨committedUnload.body, 256, 0, none, false, some 1, none⟩)] })] }

theorem refusalDrains_inboxOrigin : refusalDrains.chip.inboxOrigin (0 : Fin 16) 0 = some (.ring 0) := by decide

theorem refusalDrains_ring : refusalDrains.chip.num (inboxAddr (0 : Fin 16) 0 + 72) 2 = 0 := by decide

/-- The refusal of the ring's command leaves nothing that keeps the plan from being drained. -/
theorem refusalDrains_drainPlans :
    (refusalDrains.chip.refuseEntry 0 0 0).drainPlans.led.items = [{ committedUnload with replied := true }] := by
  have frame := refuseEntry_frame refusalDrains.chip (n := 0) (i := 0) (by decide) (by decide) 0
  have steps := refuseEntry_stepPlan refusalDrains.chip 0 0 0
  generalize refusalDrains.chip.refuseEntry 0 0 0 = e at frame steps ⊢
  have led : e.led = refusalDrains.chip.led := frame .led (by decide)
  have ldr : e.ldr = refusalDrains.chip.ldr := frame .ldr (by decide)
  have plans : e.ldr.plans = [unloadingPlan] := by rw [ldr]; rfl
  have idle : e.planBusy 5 = false := by rw [Chip.planBusy, led, steps]; rfl
  have item : e.item 1 = some committedUnload := by rw [Chip.item, led]; rfl
  rw [drainPlans_of_unloading plans rfl (by rw [ldr]; rfl) idle rfl item, replyDue_items_of_core rfl, led]
  rfl

/-- The REFUSE answers the PLAN_UNLOAD in AC1's reply ring, and its item is marked replied. -/
theorem refuse_refusalDrains_items : (cmdRefuse refusalDrains.chip (0 : Fin 16)).led.items = [{ committedUnload with replied := true }] := by
  rw [cmdRefuse_of_ring rfl refusalDrains_inboxOrigin refusalDrains_ring (by decide)]
  exact refusalDrains_drainPlans

/-- Refutes O29. It says that the REFUSE of a ring's command leaves every item of the ledger as it is. A REFUSE drains the plans that unload and
have no work left (R83), whichever entry it frees; in `refusalDrains` that answers a PLAN_UNLOAD and marks its item replied
(`refuse_refusalDrains_items`). -/
theorem not_commandWindow : ¬ Obligations.CommandWindow := by
  unfold Obligations.CommandWindow
  rintro ⟨-, -, hring, -⟩
  obtain ⟨-, -, hrefuse⟩ := hring refusalDrains 0 0 0 rfl refusalDrains_inboxOrigin (by decide) refusalDrains_ring.symm
  obtain ⟨hitems, -⟩ := (completes_refuse _).mp hrefuse
  exact absurd (hitems.symm.trans refuse_refusalDrains_items) (by decide)

end Sys2Proof.Machine
end

section
/-! What a fault event, a count or an attention condition leaves of the LNK block: its registers, but for the counter counted (R617 to R629, R661). -/
namespace Sys2Proof.Machine
open Sys2Proof

/-- A field of the LNK block of BAR0 (R661). -/
def inLnk (f : Fld) : Bool := decide (0x500_0000 ≤ f.bit) && decide (f.bit < 0x580_0000)

theorem inLnk_iff {f : Fld} : inLnk f = true ↔ 0x500_0000 ≤ f.bit ∧ f.bit < 0x580_0000 := by
  simp [inLnk]

theorem not_inLnk_iff {f : Fld} : inLnk f = false ↔ f.bit < 0x500_0000 ∨ 0x580_0000 ≤ f.bit := by
  rw [← Bool.not_eq_true, inLnk_iff]
  omega

/-- A field of a fault source's state lies in FLT. -/
theorem inLnk_srcState {s k w r : Nat} (hs : s < 768) (hk : k < 64) : inLnk ⟨8 * (0x204000 + s * 8) + k, w, r⟩ = false :=
  not_inLnk_iff.mpr (.inl (by show 8 * (0x204000 + s * 8) + k < _; omega))

/-- A field of an entry of the fault history lies in FLT. -/
theorem inLnk_hist {e k w r : Nat} (he : e < 32) (hk : k < 128) : inLnk ⟨8 * (0x200800 + e * 0x10) + k, w, r⟩ = false :=
  not_inLnk_iff.mpr (.inl (by show 8 * (0x200800 + e * 0x10) + k < _; omega))

/-- The state of a work core or of an Armature core lies in WKC or in AMT. -/
theorem inLnk_coreState (n : Fin 64) (m : Fin 16) :
    inLnk (Reg.WKC_STATE.STATE n) = false ∧ inLnk (Reg.WKC_STATE.SELFTEST n) = false ∧ inLnk (Reg.AMT_CORE_STATE.STATE m) = false := by
  simp only [not_inLnk_iff, Reg.WKC_STATE.STATE, Reg.WKC_STATE.SELFTEST, Reg.AMT_CORE_STATE.STATE]
  omega

theorem rg_ite {a b : Chip} {q : Prop} [Decidable q] {g : Fld} {v : Nat} (ha : a.rg g = v) (hb : b.rg g = v) :
    (if q then a else b).rg g = v := by
  split <;> assumption

section
variable {g : Fld} (hg : inLnk g = true)
include hg

theorem rg_sr_beside {f : Fld} (hf : inLnk f = false) (d : Chip) (v : Nat) : (d.sr f v).rg g = d.rg g :=
  rg_sr_ne d f g v fun e => by simp [inLnk, e] at hf hg; omega

theorem rg_setBit_beside {f : Fld} (hf : inLnk f = false) (d : Chip) (i : Nat) (b : Bool) : (d.setBit f i b).rg g = d.rg g :=
  rg_sr_beside hg hf d _

theorem rg_attnUpdate_beside (d : Chip) : d.attnUpdate.rg g = d.rg g := by
  have apart {f : Fld} (hf : inLnk f = false) : g.bit ≠ f.bit := fun e => by simp [inLnk, e] at hf hg; omega
  exact rg_attnUpdate (apart (by decide)) (apart (by decide)) (apart (by decide))

theorem rg_raiseAttn (d : Chip) (why : Attn) (l : Level) (cls : Nat) : (d.raiseAttn why l cls).rg g = d.rg g :=
  (rg_attnUpdate_beside hg _).trans (rg_ite rfl rfl)

theorem rg_note (d : Chip) (cls : Nat) : (d.note cls).rg g = d.rg g :=
  (rg_attnUpdate_beside hg _).trans (rg_setBit_beside hg (by decide) d _ _)

theorem rg_hubInterrupt (d : Chip) : d.hubInterrupt.rg g = d.rg g := rg_setBit_beside hg (by decide) d _ _

theorem rg_hubNmi (d : Chip) : d.hubNmi.rg g = d.rg g := rg_setBit_beside hg (by decide) d _ _

theorem rg_enterSafe (d : Chip) (cause : Nat) (boot : Bool) : (d.enterSafe cause boot).rg g = d.rg g := by
  unfold Chip.enterSafe
  extract_lets safe _ kept closed
  have hsafe : safe.rg g = d.rg g :=
    (rg_sr_beside hg (by decide) _ _).trans ((rg_sr_beside hg (by decide) _ _).trans (rg_sr_beside hg (by decide) d _))
  have hclosed : closed.rg g = kept.rg g := (rg_sr_beside hg (by decide) _ _).trans (rg_sr_beside hg (by decide) kept _)
  exact (rg_raiseAttn hg closed _ _ _).trans (hclosed.trans hsafe)

theorem rg_setAgentSt (d : Chip) (a : Agent) (st : BlockState) : (d.setAgentSt a st).rg g = d.rg g := by
  cases a with
  | block b => rfl
  | wc n => exact (rg_setBit_beside hg (by decide) _ _ _).trans (rg_sr_beside hg (inLnk_coreState n 0).1 d _)
  | ac n => exact rg_sr_beside hg (inLnk_coreState 0 n).2.2 d _

theorem rg_blockReset (d : Chip) (a : Agent) : (d.blockReset a).rg g = d.rg g := by
  have reset : (d.resetAgent a).rg g = d.rg g := by
    refine Eq.trans ?_ (rg_setAgentSt hg d a .fenced)
    cases a with
    | wc n => exact rg_sr_beside hg (inLnk_coreState n 0).2.1 _ _
    | block b => rfl
    | ac n => rfl
  unfold Chip.blockReset
  split
  · rfl
  · exact rg_ite rfl reset
  · rfl
  · rfl

theorem rg_react (d : Chip) (s r : Nat) : (d.react s r).rg g = d.rg g := by
  unfold Chip.react
  split
  · exact rg_hubInterrupt hg d
  · exact rg_hubNmi hg d
  · exact (rg_note hg _ _).trans ((rg_hubInterrupt hg _).trans (rg_blockReset hg d _))
  · exact rg_raiseAttn hg d _ _ _
  · exact (rg_hubNmi hg _).trans (rg_raiseAttn hg _ _ _ _)
  · exact rg_enterSafe hg d _ _
  · rfl

theorem rg_history (d : Chip) (source detail reaction : Nat) (a b c e f s : Bool) :
    (d.history source detail reaction a b c e f s).rg g = d.rg g := by
  have entry : d.rg Reg.FLT_HIST_HEAD.HEAD % 32 < 32 := Nat.mod_lt _ (by decide)
  have two {x : Chip} {k l w u v z : Nat} (hk : k < 128) (hl : l < 128) :
      ((x.sr ⟨8 * (0x200800 + d.rg Reg.FLT_HIST_HEAD.HEAD % 32 * 0x10) + k, w, 0⟩ v).sr
        ⟨8 * (0x200800 + d.rg Reg.FLT_HIST_HEAD.HEAD % 32 * 0x10) + l, u, 0⟩ z).rg g = x.rg g :=
    (rg_sr_beside hg (inLnk_hist entry hl) _ _).trans (rg_sr_beside hg (inLnk_hist entry hk) x _)
  unfold Chip.history
  extract_lets _ d1 d2 d3 d4 d5
  have h5 : d5.rg g = d.rg g := calc
    d5.rg g = d4.rg g := two (by decide) (by decide)
    _ = d3.rg g := two (by decide) (by decide)
    _ = d2.rg g := two (by decide) (by decide)
    _ = d1.rg g := two (by decide) (by decide)
    _ = d.rg g := two (by decide) (by decide)
  exact (rg_sr_beside hg (by decide) _ _).trans ((rg_sr_beside hg (inLnk_hist entry (k := 0) (by decide)) d5 _).trans h5)

theorem rg_satMark (d : Chip) (f : Fld) : (d.satMark f).rg g = d.rg g := by
  have log (e : Nat) : inLnk (Reg.OBS_SAT_LOG.OFFSET e) = false := not_inLnk_iff.mpr (.inr (by show _ ≤ 8 * (0x1100100 + e * 4); omega))
  exact (rg_sr_beside hg (by decide) _ _).trans ((rg_sr_beside hg (log _) _ _).trans (rg_setBit_beside hg (by decide) _ _ _))

/-- A counter that steps on is the one field that changes. -/
theorem rg_bump {f : Fld} (hf : g.bit ≠ f.bit) (d : Chip) (n : Nat) : (d.bump f n).rg g = d.rg g :=
  rg_ite (rg_ite rfl (rg_satMark hg d f)) (rg_sr_ne d f g _ hf)

theorem rg_window {s : Nat} (hs : s < 768) (d : Chip) : (d.window s).rg g = d.rg g := by
  have state {x : Chip} {k w v : Nat} (hk : k < 64) : (x.sr ⟨8 * (0x204000 + s * 8) + k, w, 0⟩ v).rg g = x.rg g :=
    rg_sr_beside hg (inLnk_srcState hs hk) x _
  unfold Chip.window
  extract_lets _ _ _ counted
  have hcounted : counted.rg g = d.rg g := rg_ite ((state (by decide)).trans (state (by decide))) (state (by decide))
  exact rg_ite rfl (rg_ite ((state (by decide)).trans hcounted) hcounted)

theorem rg_hold {s : Nat} (hs : s < 768) (d : Chip) (r detail : Nat) (inj : Bool) : (d.hold s r detail inj).rg g = d.rg g :=
  (rg_sr_beside hg (by decide) _ _).trans ((rg_hubNmi hg _).trans
    ((rg_sr_beside hg (inLnk_srcState hs (by decide)) _ _).trans (rg_ite rfl rfl)))

theorem rg_raiseCore {s : Nat} (hs : s < 768) (d : Chip) (detail : Nat) (inj : Bool) : (d.raiseCore s detail inj).rg g = d.rg g := by
  have events : inLnk (Reg.FLT_SRC_EVENTS.COUNT s) = false := not_inLnk_iff.mpr (.inl (by show 8 * (0x206000 + s * 8) < _; omega))
  have apart : g.bit ≠ (Reg.FLT_SRC_EVENTS.COUNT s).bit := fun e => by simp [inLnk, e] at events hg; omega
  unfold Chip.raiseCore
  extract_lets counted windowed _ traced severe r
  have htraced : traced.rg g = d.rg g := calc
    traced.rg g = windowed.rg g := rg_ite rfl rfl
    _ = counted.rg g := rg_window hg hs counted
    _ = (d.sr (Reg.FLT_SRC_STATE.ACTIVE s) 1).rg g := rg_bump hg apart _ _
    _ = d.rg g := rg_sr_beside hg (inLnk_srcState hs (k := 0) (by decide)) d _
  have kept (reaction : Nat) (held safe : Bool) : (traced.history s detail reaction false false held severe inj safe).rg g = d.rg g :=
    (rg_history hg traced _ _ _ _ _ _ _ _ _).trans htraced
  exact rg_ite (kept _ _ _) (rg_ite ((rg_hold hg hs _ _ _ _).trans (kept _ _ _)) ((rg_react hg _ _ _).trans (kept _ _ _)))

/-- Of the LNK block, a count changes the counter alone. -/
theorem rg_count {f : Fld} (hf : g.bit ≠ f.bit) (d : Chip) (n : Nat := 1) : (d.count f n).rg g = d.rg g := by
  have apart : g.bit ≠ (Reg.OBS_COUNT.COUNT 8).bit := fun e => by rw [inLnk_iff, e] at hg; exact absurd hg (by decide)
  exact rg_ite ((rg_raiseCore hg (by decide) _ _ _).trans ((rg_bump hg apart _ _).trans (rg_bump hg hf d n))) (rg_bump hg hf d n)

theorem rg_count_beside {f : Fld} (hf : inLnk f = false) (d : Chip) (n : Nat := 1) : (d.count f n).rg g = d.rg g :=
  rg_count hg (fun e => by simp [inLnk, e] at hf hg; omega) d n

theorem rg_wake (d : Chip) : d.wake.rg g = d.rg g :=
  rg_ite (rg_count_beside hg (by decide) _) (rg_ite (rg_count_beside hg (by decide) _) rfl)

/-- A fault event changes no register of the LNK block. -/
theorem rg_fault {s : Nat} (hs : s < 768) (d : Chip) (detail : Nat := 0) (inj : Bool := false) : (d.fault s detail inj).rg g = d.rg g := by
  have raised : (d.wake.raiseCore s detail inj).rg g = d.rg g := (rg_raiseCore hg hs _ _ _).trans (rg_wake hg d)
  exact rg_ite ((rg_raiseCore hg (by decide) _ _ _).trans raised) raised

theorem rg_patEvent (d : Chip) (type : Nat) (body : List Nat) : (d.patEvent type body).rg g = d.rg g :=
  rg_ite ((rg_count_beside hg (by decide) _).trans (rg_sr_beside hg (by decide) _ _)) rfl

end

end Sys2Proof.Machine
end

section
/-! What the operations on a port change: its record, its registers, and the hub's parts (R383, R385, R389 to R394). -/
namespace Sys2Proof.Machine
open Sys2Proof

/-! ### The port's record -/

theorem setPort_frame (d : Chip) (p : Nat) (x : LinkPort) : Frame [.lnk] d (d.setPort p x) := by
  intro q hq
  cases q with
  | lnk => exact absurd (List.mem_singleton_self _) hq
  | _ => rfl

@[simp] theorem port_setPort (d : Chip) (p : Nat) (x : LinkPort) : (d.setPort p x).port p = x := by
  simp only [Chip.port, Chip.setPort, tget_tput_self, Option.getD_some]

@[simp] theorem port_sr (d : Chip) (f : Fld) (v p : Nat) : (d.sr f v).port p = d.port p := rfl

/-- What leaves the links' unit as it is leaves every port's record. -/
theorem port_of_frame {P : List Part} {c d : Chip} (h : Frame P c d) (hl : Part.lnk ∉ P) (p : Nat) : d.port p = c.port p := by
  have lnk : d.lnk = c.lnk := h .lnk hl
  simp only [Chip.port, lnk]

theorem rg_of_frame {P : List Part} {c d : Chip} (h : Frame P c d) (hr : Part.regs ∉ P) (f : Fld) : d.rg f = c.rg f :=
  rg_of_regs (h .regs hr) f

/-- Frames that go leave the rotation of the lanes as it is. -/
theorem drain_rotation (gcm : Bool) (k : Nat) (x : LinkPort) :
    (x.drain gcm k).session = x.session ∧ (x.drain gcm k).retry = x.retry := by
  induction k generalizing x with
  | zero => exact ⟨rfl, rfl⟩
  | succ k ih =>
    unfold LinkPort.drain
    split
    · exact ⟨rfl, rfl⟩
    · split
      · exact ih _
      · exact ⟨rfl, rfl⟩

theorem drainPort_frame (d : Chip) (p : Nat) : Frame [.lnk] d (d.drainPort p) := Frame.ite (.refl _ d) (setPort_frame d p _)

theorem drainPort_rotation (d : Chip) (p : Nat) :
    ((d.drainPort p).port p).session = (d.port p).session ∧ ((d.drainPort p).port p).retry = (d.port p).retry := by
  unfold Chip.drainPort
  extract_lets x
  split
  · exact ⟨rfl, rfl⟩
  · rw [port_setPort]
    exact drain_rotation _ _ x

theorem sendFrame_frame (d : Chip) (p type ctx : Nat) (flit : List Nat) (sym : Nat × Nat × Nat) :
    Frame [.lnk] d (d.sendFrame p type ctx flit sym) :=
  Frame.ite ((setPort_frame d p _).trans (drainPort_frame _ p)) (Frame.ite (setPort_frame d p _) (.refl _ d))

/-- A symbol sent leaves the rotation of the port's lanes as it is. -/
theorem sendLink_rotation (d : Chip) (p op arg : Nat) :
    ((d.sendLink p op arg).port p).session = (d.port p).session ∧ ((d.sendLink p op arg).port p).retry = (d.port p).retry := by
  unfold Chip.sendLink Chip.sendFrame
  extract_lets x f
  split
  · have h := drainPort_rotation (d.setPort p { x with waiting := if 8 = 7 then f :: x.waiting else x.waiting ++ [f] }) p
    rwa [port_setPort] at h
  · split
    · rw [port_setPort]
      exact ⟨rfl, rfl⟩
    · exact ⟨rfl, rfl⟩

theorem sendLink_frame (d : Chip) (p op arg : Nat) : Frame [.lnk] d (d.sendLink p op arg) := sendFrame_frame d p 8 0 [] (2, op, arg)

/-! ### The ports' registers -/

/-- A field of the configuration or the state of a port: the LNK block between the chip's own fields and the counters. -/
def inPorts (f : Fld) : Bool := decide (0x500_0800 ≤ f.bit) && decide (f.bit < 0x500_8000)

theorem inPorts_iff {f : Fld} : inPorts f = true ↔ 0x500_0800 ≤ f.bit ∧ f.bit < 0x500_8000 := by
  simp [inPorts]

theorem inLnk_of_inPorts {f : Fld} (h : inPorts f = true) : inLnk f = true := by
  rw [inPorts_iff] at h
  exact inLnk_iff.mpr (by omega)

theorem inPorts_state {p k w r : Nat} (hp : p < 12) (hk : k < 64) : inPorts ⟨8 * (0xa00108 + p * 0x20) + k, w, r⟩ = true :=
  inPorts_iff.mpr (by simp only; omega)

theorem inPorts_mode {p : Nat} (hp : p < 12) : inPorts (Reg.LNK_PORT_CFG.MODE p) = true :=
  inPorts_iff.mpr (by simp only [Reg.LNK_PORT_CFG.MODE]; omega)

/-- A link counter that counts changes no configuration and no state of a port. -/
theorem rg_count_link {g : Fld} (hg : inPorts g = true) (d : Chip) (p k : Nat) (n : Nat := 1) :
    (d.count (Reg.LNK_COUNT.COUNT p k) n).rg g = d.rg g := by
  refine rg_count (inLnk_of_inPorts hg) (fun e => ?_) d n
  simp only [inPorts_iff, e, Reg.LNK_COUNT.COUNT] at hg
  omega

/-- A bit set reads set, and whatever value the field held, the field is cut to its width. -/
theorem bitOf_setBit (d : Chip) {f : Fld} {i : Nat} (hi : i < f.w) : bitOf ((d.setBit f i true).rg f) i = true := by
  have cut (v : Nat) : bitOf (v % 2 ^ f.w) i = bitOf v i := by
    have h := Nat.testBit_mod_two_pow v f.w i
    simpa [Nat.testBit_eq_decide_div_mod_eq, hi, bitOf] using h
  rw [Chip.setBit, Chip.mr, rg_sr_self, cut]
  split
  · assumption
  · next clear =>
    have pos : 0 < 2 ^ i := Nat.two_pow_pos i
    simp only [bitOf, decide_eq_true_eq] at clear
    simp only [if_true, bitOf, Nat.add_div_right _ pos, decide_eq_true_eq]
    omega

/-! ### Sessions and retraining -/

@[simp] theorem port_endSession (d : Chip) (p : Nat) : (d.endSession p).port p = { d.port p with session := none, retry := none } :=
  port_setPort d p _

theorem calPos_endSession (d : Chip) (p : Nat) : (d.endSession p).rg (Reg.LNK_PORT_STATE.CAL_POS p) = 0x1F := rg_sr_self _ _ _

theorem rg_endSession (d : Chip) (p : Nat) {f : Fld} (hf : f.bit ≠ (Reg.LNK_PORT_STATE.CAL_POS p).bit) :
    (d.endSession p).rg f = d.rg f := rg_sr_ne _ _ _ _ hf

theorem retrain_frame (d : Chip) (p : Nat) : Frame hubParts d (d.retrain p) :=
  ((sr_hub (by decide) d _ _).trans (count_frame _ _)).trans (fault_frame _ _ _)

/-- A port that retrains is in RETRAIN, whatever the events of it do (R385). -/
theorem portState_retrain (d : Chip) {p : Nat} (hp : p < 12) : (d.retrain p).portState p = 4 := by
  have ports : inPorts (Reg.LNK_PORT_STATE.STATE p) = true := inPorts_state hp (k := 0) (by decide)
  exact (rg_fault (inLnk_of_inPorts ports) (by decide) _ _).trans ((rg_count_link ports _ _ _).trans (rg_sr_self _ _ _))

/-! ### A failed lane -/

theorem laneRecorded_frame (d : Chip) (p j : Nat) : Frame hubParts d (d.laneRecorded p j) :=
  (((note_frame d _).mono (by decide)).trans (patEvent_frame _ _ _)).trans ((patSet_frame _ _ _).mono (by decide))

theorem rg_laneRecorded {g : Fld} (hg : inLnk g = true) (d : Chip) (p j : Nat) : (d.laneRecorded p j).rg g = d.rg g :=
  (rg_patEvent hg _ _ _).trans (rg_note hg d _)

/-- A lane of position j fails: its bit of FAILED, its count, its fault event and its records (R392). -/
def Chip.laneMarked (d : Chip) (p j : Nat) : Chip :=
  (((d.setBit (Reg.LNK_PORT_STATE.FAILED p) j true).count (Reg.LNK_COUNT.COUNT p 6)).fault Src.LNK_LANE_FAIL p).laneRecorded p j

theorem laneMarked_frame (d : Chip) (p j : Nat) : Frame hubParts d (d.laneMarked p j) :=
  (((setBit_hub (by decide) d _ _ _).trans (count_frame _ _)).trans (fault_frame _ _ _)).trans (laneRecorded_frame _ p j)

theorem rg_laneMarked {g : Fld} (hg : inPorts g = true) (d : Chip) (p j : Nat) :
    (d.laneMarked p j).rg g = (d.setBit (Reg.LNK_PORT_STATE.FAILED p) j true).rg g :=
  (rg_laneRecorded (inLnk_of_inPorts hg) _ _ _).trans
    ((rg_fault (inLnk_of_inPorts hg) (by decide) _ _).trans (rg_count_link hg _ _ _))

theorem failed_laneMarked (d : Chip) {p j : Nat} (hp : p < 12) (hj : j < 16) :
    bitOf ((d.laneMarked p j).rg (Reg.LNK_PORT_STATE.FAILED p)) j = true := by
  rw [rg_laneMarked (g := Reg.LNK_PORT_STATE.FAILED p) (inPorts_state hp (by decide))]
  exact bitOf_setBit d hj

/-- A failed lane's marks leave every other field of the ports. -/
theorem rg_laneMarked_ne {g : Fld} (hg : inPorts g = true) (d : Chip) (p j : Nat) (hf : g.bit ≠ (Reg.LNK_PORT_STATE.FAILED p).bit) :
    (d.laneMarked p j).rg g = d.rg g := (rg_laneMarked hg d p j).trans (rg_setBit_ne d _ g _ _ hf)

theorem sparing_laneMarked (d : Chip) {p : Nat} (hp : p < 12) (j : Nat) :
    (d.laneMarked p j).rg (Reg.LNK_PORT_STATE.SPARE p) = d.rg (Reg.LNK_PORT_STATE.SPARE p) ∧
      (d.laneMarked p j).rg (Reg.LNK_PORT_STATE.SPARED_POS p) = d.rg (Reg.LNK_PORT_STATE.SPARED_POS p) :=
  ⟨rg_laneMarked_ne (inPorts_state hp (by decide)) d p j (by simp only [Reg.LNK_PORT_STATE.FAILED]; omega),
    rg_laneMarked_ne (inPorts_state hp (by decide)) d p j (by simp only [Reg.LNK_PORT_STATE.FAILED]; omega)⟩

theorem isDvl_laneMarked (d : Chip) {p : Nat} (hp : p < 12) (j : Nat) : (d.laneMarked p j).isDvl p = d.isDvl p := by
  have mode := rg_laneMarked_ne (inPorts_mode hp) d p j (by simp only [Reg.LNK_PORT_CFG.MODE, Reg.LNK_PORT_STATE.FAILED]; omega)
  simp only [Chip.isDvl, mode]

end Sys2Proof.Machine
end

section
/-! Obligation O32: the transmitter's symbols, the receiver's sessions and the sparing of lanes (R388 to R394, R399). -/
namespace Sys2Proof.Machine
open Sys2Proof

/-! ### Symbols of the partner's receiver -/

/-- The port with the half that HALF names, its session over. -/
def Chip.halved (d : Chip) (p h : Nat) : Chip := (d.setPort p { d.port p with half := some h }).endSession p

theorem port_halved (d : Chip) (p h : Nat) : (d.halved p h).port p = { d.port p with half := some h, session := none, retry := none } := by
  simp [Chip.halved]

theorem linkSymbol_half (d : Chip) (p : Nat) {h : Nat} (hh : h ≤ 1) :
    d.linkSymbol p 8 h = { ((d.halved p h).retrain p).raiseAttn (.laneSpares p) .degraded clsLinks with
      ldr := { (d.halved p h).ldr with readmit := true } } := if_neg (by omega)

/-- HALF of 0 or 1: the port retrains with that half (R394). -/
theorem linkSymbol_half_retrains (d : Chip) {p h : Nat} (hp : p < 12) (hh : h ≤ 1) :
    ((d.linkSymbol p 8 h).port p).half = some h ∧ ((d.linkSymbol p 8 h).port p).session = none ∧ (d.linkSymbol p 8 h).portState p = 4 ∧
      (d.linkSymbol p 8 h).ldr.readmit = true ∧ (d.linkSymbol p 8 h).led = d.led := by
  have inState : inLnk (Reg.LNK_PORT_STATE.STATE p) = true := inLnk_of_inPorts (inPorts_state hp (k := 0) (by decide))
  have frame : Frame hubParts (d.halved p h) (((d.halved p h).retrain p).raiseAttn (.laneSpares p) .degraded clsLinks) :=
    (retrain_frame _ p).trans ((raiseAttn_frame _ _ _ _).mono (by decide))
  have port := (port_of_frame frame (by decide) p).trans (port_halved d p h)
  have state := (rg_raiseAttn inState ((d.halved p h).retrain p) (.laneSpares p) .degraded clsLinks).trans (portState_retrain _ hp)
  have led := frame .led (by decide)
  rw [linkSymbol_half d p hh]
  generalize ((d.halved p h).retrain p).raiseAttn (.laneSpares p) .degraded clsLinks = e at port state led ⊢
  exact ⟨congrArg LinkPort.half port, congrArg LinkPort.session port, state, rfl, led⟩

theorem wake_of_quiet {d : Chip} (h : PortsQuiet d) : d.wake = d := by
  obtain ⟨entering, power, -, -⟩ := h
  simp [Chip.wake, entering, power]

/-! ### Sessions (R389, R390) -/

/-- A session begun: its position in CAL_POS and the step it begins with, and nothing waits to be retried. -/
theorem startSession_begins (d : Chip) (p : Nat) {pos : Nat} (hpos : pos ≤ 16) :
    ((d.startSession p pos).port p).session =
        some ⟨pos, if pos = 16 then 2 else if d.rg (Reg.LNK_PORT_STATE.SPARE p) = 1 then 3 else 1⟩ ∧
      ((d.startSession p pos).port p).retry = none ∧ (d.startSession p pos).rg (Reg.LNK_PORT_STATE.CAL_POS p) = pos ∧
      Frame [.regs, .lnk] d (d.startSession p pos) := by
  unfold Chip.startSession
  extract_lets onSpare x session e
  have begun : e.port p = { x with session := some session, retry := none } := port_setPort d p _
  have calPos : e.rg (Reg.LNK_PORT_STATE.CAL_POS p) = pos := (rg_sr_self _ _ _).trans (Nat.mod_eq_of_lt (by show pos < 2 ^ 5; omega))
  have frame : Frame [.regs, .lnk] d e := ((setPort_frame d p _).mono (by decide)).trans (sr_hub (by decide) _ _ _)
  have sent (op arg : Nat) : ((e.sendLink p op arg).port p).session = some session ∧ ((e.sendLink p op arg).port p).retry = none ∧
      (e.sendLink p op arg).rg (Reg.LNK_PORT_STATE.CAL_POS p) = pos ∧ Frame [.regs, .lnk] d (e.sendLink p op arg) := by
    obtain ⟨onSession, onRetry⟩ := sendLink_rotation e p op arg
    exact ⟨onSession.trans (by rw [begun]), onRetry.trans (by rw [begun]), (rg_of_frame (sendLink_frame e p op arg) (by decide) _).trans calPos,
      frame.trans ((sendLink_frame e p op arg).mono (by decide))⟩
  change ((if pos = 16 then e.sendLink p 7 0 else e.sendLink p (if onSpare then 4 else 2) pos).port p).session = some session ∧ _
  clear_value session
  split
  · exact sent 7 0
  · exact sent _ pos

theorem trainingExpiry_idle {d : Chip} {p : Nat} (h : ∀ i, (d.port p).session ≠ some ⟨i, 2⟩) (reached : Bool) :
    trainingExpiry d p reached = d := by
  unfold trainingExpiry
  split
  · next pos session => exact absurd session (h pos)
  · rfl

section
variable {d : Chip} {p i : Nat} (hs : (d.port p).session = some ⟨i, 2⟩)
include hs

/-- The lane reached its margin: the session goes on to its return, or, of the spare, is over. -/
theorem trainingExpiry_reached :
    ((trainingExpiry d p true).port p).session = (if i = 16 then none else some ⟨i, 3⟩) ∧
      (i = 16 → ((trainingExpiry d p true).port p).nextPos = 0) ∧ (trainingExpiry d p true).led = d.led ∧
      (trainingExpiry d p true).mem = d.mem := by
  simp only [trainingExpiry, hs, if_true]
  generalize hcounted : d.patCount (0x0E10 + 4 * d.laneOf p i) 32 = e
  have frame : Frame [.pat] d e := hcounted ▸ patCount_frame d _ _ _
  have led : e.led = d.led := frame .led (by decide)
  have mem : e.mem = d.mem := frame .mem (by decide)
  split
  · have ended : (e.sessionOver p 16).port p = { e.port p with session := none, retry := none, nextPos := 0 } := by simp [Chip.sessionOver]
    exact ⟨by rw [ended], fun _ => by rw [ended], led, mem⟩
  · next notSpare =>
    have sent := sendLink_frame (e.setPort p { e.port p with session := some ⟨i, 3⟩ }) p 4 i
    exact ⟨(sendLink_rotation _ p 4 i).1.trans (by rw [port_setPort]), fun spare => absurd spare notSpare,
      (sent .led (by decide)).trans led, (sent .mem (by decide)).trans mem⟩

/-- The lane did not reach its margin: it is marked failed, and its position goes to the spare (R391). -/
theorem trainingExpiry_failed (hp : p < 12) (hi : i < 16) :
    ((trainingExpiry d p false).port p).session = none ∧ (trainingExpiry d p false).rg (Reg.LNK_PORT_STATE.SPARED_POS p) = i ∧
      (trainingExpiry d p false).rg (Reg.LNK_PORT_STATE.CAL_POS p) = 0x1F ∧
      bitOf ((trainingExpiry d p false).rg (Reg.LNK_PORT_STATE.FAILED p)) i = true ∧ (trainingExpiry d p false).led = d.led ∧
      (trainingExpiry d p false).mem = d.mem := by
  have eq : trainingExpiry d p false = ((d.laneMarked p i).endSession p).sr (Reg.LNK_PORT_STATE.SPARED_POS p) i := by
    simp only [trainingExpiry, hs, Bool.false_eq_true, if_false, if_neg (Nat.ne_of_lt hi)]
    rfl
  have failed := failed_laneMarked d hp hi
  have led : (d.laneMarked p i).led = d.led := laneMarked_frame d p i .led (by decide)
  have mem : (d.laneMarked p i).mem = d.mem := laneMarked_frame d p i .mem (by decide)
  rw [eq]
  generalize d.laneMarked p i = e at failed led mem ⊢
  refine ⟨by rw [port_sr, port_endSession], (rg_sr_self _ _ _).trans (Nat.mod_eq_of_lt (by show i < 2 ^ 5; omega)), ?_, ?_, led, mem⟩
  · rw [rg_sr_ne _ _ _ _ (by simp only [Reg.LNK_PORT_STATE.CAL_POS, Reg.LNK_PORT_STATE.SPARED_POS]; omega), calPos_endSession]
  · rwa [rg_sr_ne _ _ _ _ (by simp only [Reg.LNK_PORT_STATE.FAILED, Reg.LNK_PORT_STATE.SPARED_POS]; omega),
      rg_endSession _ _ (by simp only [Reg.LNK_PORT_STATE.FAILED, Reg.LNK_PORT_STATE.CAL_POS]; omega)]

theorem trainingExpiry_spareFailed (hi : i = 16) : trainingExpiry d p false = (d.endSession p).spareFail p := by
  simp only [trainingExpiry, hs, Bool.false_eq_true, if_false, if_pos hi]

end

/-! ### Sparing (R391 to R393) -/

theorem laneFail_of_failed {d : Chip} {p j : Nat} (h : d.posFailed p j = true) : d.laneFail p j = d := if_pos h

/-- A DVL port's lane that fails while the spare is free is spared there, and the session ends. -/
theorem laneFail_spares {d : Chip} {p j : Nat} (hp : p < 12) (hj : d.posFailed p j = false) (hd : d.isDvl p = true)
    (hs : d.rg (Reg.LNK_PORT_STATE.SPARE p) ≠ 2) (hf : d.rg (Reg.LNK_PORT_STATE.SPARED_POS p) = 0x1F) :
    d.laneFail p j = ((((d.laneMarked p j).endSession p).sendLink p 6 j).sr (Reg.LNK_PORT_STATE.SPARE p) 1).sr
      (Reg.LNK_PORT_STATE.SPARED_POS p) j := by
  obtain ⟨spare, spared⟩ := sparing_laneMarked d hp j
  have free : (d.laneMarked p j).rg (Reg.LNK_PORT_STATE.SPARE p) ≠ 2 ∧ (d.laneMarked p j).rg (Reg.LNK_PORT_STATE.SPARED_POS p) = 0x1F := by
    rw [spare, spared]
    exact ⟨hs, hf⟩
  rw [Chip.laneFail, if_neg (by simp [hj])]
  refine (if_neg (c := (!(d.laneMarked p j).isDvl p) = true) ?_).trans (if_pos free)
  rw [isDvl_laneMarked d hp, hd]
  decide

theorem laneFail_spares_outcome {d : Chip} {p j : Nat} (hp : p < 12) (hlane : j < 16) (hj : d.posFailed p j = false) (hd : d.isDvl p = true)
    (hs : d.rg (Reg.LNK_PORT_STATE.SPARE p) ≠ 2) (hf : d.rg (Reg.LNK_PORT_STATE.SPARED_POS p) = 0x1F) :
    (d.laneFail p j).rg (Reg.LNK_PORT_STATE.SPARE p) = 1 ∧ (d.laneFail p j).rg (Reg.LNK_PORT_STATE.SPARED_POS p) = j ∧
      bitOf ((d.laneFail p j).rg (Reg.LNK_PORT_STATE.FAILED p)) j = true ∧ ((d.laneFail p j).port p).session = none ∧
      (d.laneFail p j).led = d.led ∧ (d.laneFail p j).mem = d.mem := by
  have failed := failed_laneMarked d hp hlane
  have led : (d.laneMarked p j).led = d.led := laneMarked_frame d p j .led (by decide)
  have mem : (d.laneMarked p j).mem = d.mem := laneMarked_frame d p j .mem (by decide)
  rw [laneFail_spares hp hj hd hs hf]
  generalize d.laneMarked p j = e at failed led mem ⊢
  have sent := sendLink_frame (e.endSession p) p 6 j
  refine ⟨?_, (rg_sr_self _ _ _).trans (Nat.mod_eq_of_lt (by show j < 2 ^ 5; omega)), ?_, ?_, (sent .led (by decide)).trans led,
    (sent .mem (by decide)).trans mem⟩
  · rw [rg_sr_ne _ _ _ _ (by simp only [Reg.LNK_PORT_STATE.SPARE, Reg.LNK_PORT_STATE.SPARED_POS]; omega), rg_sr_self]
    rfl
  · rwa [rg_sr_ne _ _ _ _ (by simp only [Reg.LNK_PORT_STATE.FAILED, Reg.LNK_PORT_STATE.SPARED_POS]; omega),
      rg_sr_ne _ _ _ _ (by simp only [Reg.LNK_PORT_STATE.FAILED, Reg.LNK_PORT_STATE.SPARE]; omega), rg_of_frame sent (by decide),
      rg_endSession _ _ (by simp only [Reg.LNK_PORT_STATE.FAILED, Reg.LNK_PORT_STATE.CAL_POS]; omega)]
  · rw [port_sr, port_sr, (sendLink_rotation _ p 6 j).1, port_endSession]

/-- An Ethernet port's lane that fails is marked, and the loader reads the bandwidth again at the next tick (R397). -/
theorem laneFail_ethernet {d : Chip} {p j : Nat} (hp : p < 12) (hlane : j < 16) (hj : d.posFailed p j = false) (hd : d.isDvl p = false) :
    bitOf ((d.laneFail p j).rg (Reg.LNK_PORT_STATE.FAILED p)) j = true ∧ (d.laneFail p j).ldr.readmit = true ∧
      (d.laneFail p j).led = d.led ∧ (d.laneFail p j).lnk = d.lnk := by
  have failed := failed_laneMarked d hp hlane
  have led : (d.laneMarked p j).led = d.led := laneMarked_frame d p j .led (by decide)
  have lnk : (d.laneMarked p j).lnk = d.lnk := laneMarked_frame d p j .lnk (by decide)
  have eq : d.laneFail p j = { d.laneMarked p j with ldr := { (d.laneMarked p j).ldr with readmit := true } } := by
    rw [Chip.laneFail, if_neg (by simp [hj])]
    exact if_pos (c := (!(d.laneMarked p j).isDvl p) = true) (by rw [isDvl_laneMarked d hp, hd]; rfl)
  rw [eq]
  generalize d.laneMarked p j = e at failed led lnk ⊢
  exact ⟨failed, rfl, led, lnk⟩

/-- A free spare that fails: FAILED in SPARE, and the session ends (R393). -/
theorem spareFail_fails {d : Chip} {p : Nat} (hp : p < 12) (hf : d.rg (Reg.LNK_PORT_STATE.SPARED_POS p) = 0x1F)
    (hs : d.rg (Reg.LNK_PORT_STATE.SPARE p) = 0) :
    (d.spareFail p).rg (Reg.LNK_PORT_STATE.SPARE p) = 2 ∧ ((d.spareFail p).port p).session = none ∧ (d.spareFail p).led = d.led ∧
      (d.spareFail p).mem = d.mem := by
  have inSpare : inLnk (Reg.LNK_PORT_STATE.SPARE p) = true := inLnk_of_inPorts (inPorts_state hp (by decide))
  have eq : d.spareFail p = ((((d.endSession p).sr (Reg.LNK_PORT_STATE.SPARE p) 2).laneRecorded p 16).fault Src.LNK_SPARE_FAIL p) :=
    if_neg (by simp [hf, hs])
  have frame : Frame hubParts ((d.endSession p).sr (Reg.LNK_PORT_STATE.SPARE p) 2) (d.spareFail p) :=
    eq ▸ (laneRecorded_frame _ p 16).trans (fault_frame _ _ _)
  refine ⟨?_, ?_, frame .led (by decide), frame .mem (by decide)⟩
  · rw [eq]
    exact (rg_fault inSpare (by decide) _ _).trans ((rg_laneRecorded inSpare _ _ _).trans (rg_sr_self _ _ _))
  · rw [port_of_frame frame (by decide) p, port_sr, port_endSession]

/-! ### The commands -/

section
variable {s : State} {p : Fin 12}

theorem completes_calibrationSessionStart (P : Chip → Prop) : Completes (.calibrationSessionStart p) s P ↔
    P (if s.chip.mayCalibrate p ∧ (s.chip.port p).retry.isNone then s.chip.startSession p (s.chip.port p).nextPos else s.chip) :=
  completes_iff_of_on (f := fun d => if d.mayCalibrate p ∧ (d.port p).retry.isNone then d.startSession p (d.port p).nextPos else d) rfl P

theorem completes_trainingTimeExpiry (reached : Bool) (P : Chip → Prop) :
    Completes (.trainingTimeExpiry p reached) s P ↔ P (trainingExpiry s.chip p reached) :=
  completes_iff_of_on (f := fun d => trainingExpiry d p reached) rfl P

theorem completes_laneFailure (j : Fin 16) (P : Chip → Prop) : Completes (.laneFailure p j) s P ↔ P (s.chip.laneFail p j) :=
  completes_iff_of_on (f := fun d => d.laneFail p j) rfl P

theorem completes_spareFailure (P : Chip → Prop) : Completes (.spareFailure p) s P ↔ P (s.chip.spareFail p) :=
  completes_iff_of_on (f := fun d => d.spareFail p) rfl P

theorem completes_lnkCredit (P : Chip → Prop) : Completes (.lnkCredit p) s P ↔
    P (if s.chip.portUp p ∧ !(s.chip.port p).waiting.isEmpty then s.chip.fault Src.LNK_CREDIT p else s.chip) :=
  completes_iff_of_on (f := fun d => if d.portUp p ∧ !(d.port p).waiting.isEmpty then d.fault Src.LNK_CREDIT p else d) rfl P

/-- A session that times out outside its training is given up, and its position is tried again 1,024 ticks later (R389). -/
theorem steerTimeout_givesUp {i st : Nat} (hs : (s.chip.port p).session = some ⟨i, st⟩) (hst : st ≠ 2) :
    Completes (.steerTimeout p) s (fun d => d = ((((s.chip.setPort p { s.chip.port p with session := none, retry := none }).sr
      (Reg.LNK_PORT_STATE.CAL_POS p) 0x1F).setPort p { s.chip.port p with session := none, retry := some (i, s.chip.tick + 1024) }).count
      (Reg.LNK_COUNT.COUNT p 5)).fault Src.LNK_STEER_TIMEOUT p) := by
  have tick : (s.chip.endSession p).tick = s.chip.tick :=
    rg_endSession _ _ (by simp only [Reg.TCK_NUMBER.NUMBER, Reg.LNK_PORT_STATE.CAL_POS]; omega)
  refine ⟨_, rfl, rfl, ?_⟩
  simp only [hs, if_neg hst, port_endSession, tick]
  rfl

/-- A position is tried again once its tick has come and its port may calibrate. -/
theorem completes_steerRetry {i due : Nat} (hr : (s.chip.port p).retry = some (i, due)) (P : Chip → Prop) : Completes (.steerRetry p) s P ↔
    P (if s.chip.tick ≥ due ∧ s.chip.mayCalibrate p = true then s.chip.startSession p i else s.chip) := by
  have next : exec (.steerRetry p) s =
      s.on fun _ => if s.chip.tick ≥ due ∧ s.chip.mayCalibrate p = true then s.chip.startSession p i else s.chip := by
    refine congrArg Host.Outcome.next (congrArg (State.mk s.pending) ?_)
    simp only [hr]
  exact completes_iff_of_on next P

end

/-- Settles O32: the symbols by what each sets, a session by how it begins (`startSession_begins`) and how its training ends, a failed lane by
its marks (`rg_laneMarked`), which leave what decides where it is spared. -/
theorem linkCalibration : Obligations.LinkCalibration := by
  unfold Obligations.LinkCalibration
  refine ⟨fun s p j up => ?_, fun s p h up => ⟨fun big => ?_, fun small => ?_⟩, fun s p j h down x hx => ?_,
    fun s p l quiet slot svc dma => ?_, fun s p may => ?_, fun s p may retry spare pos => ?_, fun s p ok idle => ?_,
    fun s p i hs hi => ⟨?_, fun lane => ?_, fun spare => ?_⟩, fun s p i st hs => ⟨fun training => ?_, steerTimeout_givesUp hs⟩,
    fun s p => ⟨fun hs => ?_, fun hr => ?_⟩, fun s p i due hr => ⟨fun wait => ?_, fun reached may hi => ?_⟩,
    fun s p j => ⟨fun failed => ?_, fun good dvl spare free => ?_, fun good eth => ?_⟩, fun s p => ⟨fun busy => ?_, fun free spare => ?_⟩,
    fun s p => ⟨fun up waits => ?_, fun idle => ?_⟩⟩
  · have position : j.val % 16 = j.val := Nat.mod_eq_of_lt j.isLt
    refine ⟨?_, ?_, ?_, ?_, ?_, ?_⟩
    all_goals
      refine (completes_iff_of_on (f := _) rfl _).mpr ((if_pos up).trans ?_)
      simp only [Chip.linkSymbol, position]
  · exact (completes_iff_of_on (f := _) rfl _).mpr ((if_pos up).trans (if_pos big))
  · rw [completes_iff_of_on (f := fun d => if d.portUp p then d.linkSymbol p 8 h.toNat else d) rfl, if_pos up]
    exact ⟨rfl, linkSymbol_half_retrains s.chip p.isLt small⟩
  · fin_cases hx
    all_goals exact (completes_iff_of_on (f := _) rfl _).mpr (if_neg (by simp [down]))
  · refine ⟨_, rfl, rfl, ?_⟩
    simp only [wake_of_quiet quiet, slot, svc, dma]
    rfl
  · refine (completes_calibrationSessionStart _).mpr (if_neg ?_)
    rcases may with no | waits
    · simp [no]
    · simp [Option.isSome_iff_ne_none.mp waits]
  · rw [completes_calibrationSessionStart, if_pos ⟨may, by simp [retry]⟩]
    obtain ⟨session, -, calPos, frame⟩ := startSession_begins s.chip p pos
    exact ⟨by rw [session, spare]; rfl, calPos, frame⟩
  · exact (completes_trainingTimeExpiry ok _).mpr (trainingExpiry_idle idle ok)
  · exact (completes_trainingTimeExpiry true _).mpr (trainingExpiry_reached hs)
  · exact (completes_trainingTimeExpiry false _).mpr (trainingExpiry_failed hs p.isLt lane)
  · exact (completes_trainingTimeExpiry false _).mpr (trainingExpiry_spareFailed hs spare)
  · refine ⟨_, rfl, rfl, ?_⟩
    simp only [hs, training, if_true]
  · refine ⟨_, rfl, rfl, ?_⟩
    simp only [hs]
  · refine ⟨_, rfl, rfl, ?_⟩
    simp only [hr]
  · refine (completes_steerRetry hr _).mpr (if_neg ?_)
    rcases wait with early | no
    · omega
    · simp [no]
  · rw [completes_steerRetry hr, if_pos ⟨reached, may⟩]
    obtain ⟨session, retry, calPos, frame⟩ := startSession_begins s.chip p hi
    exact ⟨⟨_, session⟩, retry, calPos, frame⟩
  · exact (completes_laneFailure j _).mpr (laneFail_of_failed failed)
  · exact (completes_laneFailure j _).mpr (laneFail_spares_outcome p.isLt j.isLt good dvl spare free)
  · exact (completes_laneFailure j _).mpr (laneFail_ethernet p.isLt j.isLt good eth)
  · exact (completes_spareFailure _).mpr (if_pos busy)
  · exact (completes_spareFailure _).mpr (spareFail_fails p.isLt free spare)
  · rw [completes_lnkCredit, if_pos ⟨up, by simp [waits]⟩]
    exact ⟨rfl, fault_frame _ _ _⟩
  · exact (completes_lnkCredit _).mpr (if_neg (by simp [idle]))

end Sys2Proof.Machine
end

section
/-! Obligation O31: a discarded frame whose count takes the device into the safe state (R381, R384, R629, R659, R662). -/
namespace Sys2Proof.Machine
open Sys2Proof

theorem completes_frameReceiveFail {s : State} {p : Fin 12} (hu : s.chip.portUp p = true) (hd : s.chip.isDvl p = true) (P : Chip → Prop) :
    Completes (.frameReceiveFail p) s P ↔ P (s.chip.rxFail p) := by
  rw [completes_iff_of_on (f := fun d => if d.portUp p ∧ d.isDvl p then d.rxFail p else d) rfl, if_pos ⟨hu, hd⟩]

/-- In the safe state a symbol of a port that is up waits (R629). -/
theorem sendLink_waits {d : Chip} {p : Nat} (hu : d.portUp p = true) (hs : d.flag Reg.FLT_SAFE.SAFE = true) (op arg : Nat) :
    ((d.sendLink p op arg).port p).waiting = (d.port p).waiting ++ [⟨0, 8, 0, [], (2, op, arg), 0, 0⟩] := by
  have kept : d.sendLink p op arg = d.setPort p { d.port p with waiting := (d.port p).waiting ++ [⟨0, 8, 0, [], (2, op, arg), 0, 0⟩] } :=
    (if_pos hu).trans (if_pos hs)
  rw [kept, port_setPort]

/-- Where the count of a discarded frame takes the device into the safe state, the NAK waits. -/
theorem rxFail_waits {d : Chip} {p : Nat} (hn : (d.port p).nakSent = false) (hu : (d.count (Reg.LNK_COUNT.COUNT p 1)).portUp p = true)
    (hs : (d.count (Reg.LNK_COUNT.COUNT p 1)).flag Reg.FLT_SAFE.SAFE = true) :
    ((d.rxFail p).port p).waiting = (d.port p).waiting ++ [⟨0, 8, 0, [], (2, 1, 0), 0, 0⟩] := by
  have port := port_of_frame (count_frame d (Reg.LNK_COUNT.COUNT p 1)) (by decide) p
  rw [Chip.rxFail, if_neg (by rw [port, hn]; decide)]
  exact (sendLink_waits (d := Chip.setPort _ p _) hu hs 1 0).trans (by rw [port_setPort, port])

/-- A chip whose port 0 is UP with nothing sent and nothing received. The counter of the frames it discards is at its maximum, not yet marked
saturated, and the hub's reaction to OBS_COUNTER_SAT is the safe state, which no write gives a source (R619). -/
def lastCountedDiscard : State where
  pending := []
  chip := (((({} : Chip).sr (Reg.LNK_PORT_STATE.STATE 0) 2).sr (Reg.LNK_COUNT.COUNT 0 1) (2 ^ 48 - 1)).sr
    (Reg.FLT_SRC_CFG.SEV_REACT Src.OBS_COUNTER_SAT) 5).sr (Reg.FLT_SRC_CFG.REACT Src.OBS_COUNTER_SAT) 5

/-- The discarded frame saturates its counter, and the event of the saturation takes the device into the safe state. -/
theorem lastCountedDiscard_safe :
    (lastCountedDiscard.chip.count (Reg.LNK_COUNT.COUNT 0 1)).portUp 0 = true ∧
      (lastCountedDiscard.chip.count (Reg.LNK_COUNT.COUNT 0 1)).flag Reg.FLT_SAFE.SAFE = true := by decide +kernel

/-- Refutes O31. The statement ranges over every `State`, also over one that gives OBS_COUNTER_SAT the safe state for its reaction, and says that a
frame which fails on a port that may send leaves the NAK sent when the device was not in the safe state before. The frame is counted first, and
that may end in a fault event; in `lastCountedDiscard` the event's reaction is the safe state (`lastCountedDiscard_safe`), in which no frame goes,
and the NAK waits (`rxFail_waits`). -/
theorem not_linkFrames : ¬ Obligations.LinkFrames := by
  unfold Obligations.LinkFrames
  rintro ⟨-, -, -, -, -, -, -, -, -, -, -, hfail, -⟩
  obtain ⟨-, -, hnak⟩ := hfail lastCountedDiscard 0
  have sent := hnak rfl rfl rfl rfl rfl rfl
  rw [completes_frameReceiveFail rfl rfl] at sent
  have waits := rxFail_waits (d := lastCountedDiscard.chip) (p := 0) rfl lastCountedDiscard_safe.1 lastCountedDiscard_safe.2
  have nothing : ((lastCountedDiscard.chip.rxFail 0).port 0).waiting = [] := (congrArg (fun d : Chip => (d.port 0).waiting) sent).trans
    (congrArg LinkPort.waiting (port_setPort _ _ _))
  exact absurd (nothing.symm.trans waits) (by decide)

end Sys2Proof.Machine
end

section
/-! Obligation O33: a MACSEC_SA whose acceptance stops the device from committing (R397, R629, R659, R662). -/
namespace Sys2Proof.Machine
open Sys2Proof

theorem completes_macsecSa {s : State} {src : Submit} {p m sc sa : BitVec 8} {k : BitVec 16} {x : Word}
    (hc : s.chip.coreServes (s.chip.roleCore 1) = true) (ht : TakenUp s.chip src .lnk false 0) (P : Chip → Prop) :
    Completes (.macsecSa src p m sc sa k x) s P ↔
      P (macsecSa (s.chip.dropHand src.origin) src p.toNat m.toNat sc.toNat sa.toNat k.toNat x.toNat) := by
  rw [completes_iff_of_on (f := fun d => d.served 1 fun d => d.submit src .lnk false fun d =>
    macsecSa d src p.toNat m.toNat sc.toNat sa.toNat k.toNat x.toNat) rfl, Chip.served, if_pos hc, submit_of_takenUp ht]

/-- A command taken from its ring or its core's handle changes what counts it and where it waited. -/
theorem taken_frame (d : Chip) (o : Origin) : Frame hubParts d (d.taken o) := by
  unfold Chip.taken
  split
  · exact (mr_hub (by decide) _ _ _).trans (count_frame _ _)
  · exact (setCore_frame _ _ _).mono (by decide)
  · exact .refl _ _

theorem acceptCmd_frame (d : Chip) (src : Submit) (kind : ItemKind) (body : Desc) (dom : Domain) (owner : Nat := 0xFF)
    (st : ItemState := .accepted) : Frame (.led :: hubParts) d (d.acceptCmd src kind body dom owner st) :=
  ((accept_frame d _ st).mono (by decide)).trans ((taken_frame _ src.origin).mono (by decide))

/-- While the device does not commit, an item whose effect is its commit point is held, and its effect is not applied. -/
theorem finishWith_frame_of_not_commits {d : Chip} (hc : d.commits = false) (seq : Nat) (effect : Chip → Chip) (code lo hi : Nat) :
    Frame [.led] d (d.finishWith seq effect code lo hi) := by
  unfold Chip.finishWith
  split
  · exact .refl _ d
  · simp only [hc, Bool.false_eq_true, and_false, if_false]
    exact frame_led d _

/-- The chip with a MACSEC_SA accepted. -/
def Chip.macsecAccepted (d : Chip) (src : Submit) (p m sc sa k x : Nat) : Chip :=
  d.acceptCmd src (.general 0x0603) (genBody 0x0603 src [p + m * 2 ^ 8 + sc * 2 ^ 16 + sa * 2 ^ 24 + k * 2 ^ 32, x])
    (d.originDomain src.origin) (0x40 + d.roleCore 1)

/-- A MACSEC_SA whose acceptance stops the device from committing leaves every secure association as it was. -/
theorem macsecSa_held {d : Chip} {src : Submit} {p m sc sa k x : Nat} (hp : p ≤ 11) (hm : m ≤ 3) (hsa : sa ≤ 1) (hsc : sc ≤ 63)
    (he : d.isDvl p = false) (hmac : m < d.macCount p) (hk : d.loadedFor k uMACSEC = true)
    (hc : (d.macsecAccepted src p m sc sa k x).commits = false) : (macsecSa d src p m sc sa k x).lnk = d.lnk := by
  rw [macsecSa, if_neg (by omega), if_neg (by simp [he]; omega), if_neg (by simp [hk])]
  exact (finishWith_frame_of_not_commits hc _ _ _ _ _ .lnk (by decide)).trans (acceptCmd_frame d _ _ _ _ _ _ .lnk (by decide))

/-- The chip of `lastCountedCommand`, whose next command of ring pair 0 saturates its counter and enters the safe state, with port 8 an Ethernet
port and key slot 0 LOADED for MACsec. -/
def lastCountedMacsec : State where
  pending := []
  chip := (lastCountedCommand.chip.sr (Reg.LNK_PORT_CFG.MODE 8) 1).setKslot 0 { uses := 2 }

theorem lastCountedMacsec_takenUp : TakenUp lastCountedMacsec.chip ⟨.ring 0, 0⟩ .lnk false 0 :=
  ⟨rfl, by decide +kernel, rfl, rfl, by decide +kernel, .inr (by decide +kernel)⟩

theorem lastCountedMacsec_serves : lastCountedMacsec.chip.coreServes (lastCountedMacsec.chip.roleCore 1) = true := by decide +kernel

theorem macsecAccepted_lastCountedMacsec_commits :
    ((lastCountedMacsec.chip.dropHand (.ring 0)).macsecAccepted ⟨.ring 0, 0⟩ 8 0 0 0 0 0).commits = false := by decide +kernel

/-- Refutes O33. The statement ranges over every `State`, also over one that gives OBS_COUNTER_SAT the safe state for its reaction, and says that a
MACSEC_SA taken up by a device that commits installs its secure association when no other item is in the ledger. The command is counted as it is
accepted, and that may end in a fault event; in `lastCountedMacsec` the event's reaction is the safe state, in which nothing commits
(`macsecAccepted_lastCountedMacsec_commits`), and no association is installed (`macsecSa_held`). -/
theorem not_linkCommands : ¬ Obligations.LinkCommands := by
  unfold Obligations.LinkCommands
  rintro ⟨-, hmacsec, -⟩
  obtain ⟨-, haccepted⟩ := hmacsec lastCountedMacsec ⟨.ring 0, 0⟩ 8 0 0 0 0 0 lastCountedMacsec_serves lastCountedMacsec_takenUp
  have h := haccepted (by decide) (by decide) (.inl (by decide)) (by decide +kernel) (by decide +kernel) (by decide +kernel)
  rw [completes_macsecSa lastCountedMacsec_serves lastCountedMacsec_takenUp] at h
  obtain ⟨-, hinstalled⟩ := h
  have installed := hinstalled rfl (by decide +kernel)
  have held := macsecSa_held (d := lastCountedMacsec.chip.dropHand (.ring 0)) (src := ⟨.ring 0, 0⟩) (p := 8) (m := 0) (sc := 0) (sa := 0) (k := 0)
    (x := 0) (by decide) (by decide) (by decide) (by decide) (by decide +kernel) (by decide +kernel) (by decide +kernel)
    macsecAccepted_lastCountedMacsec_commits
  have absent : tget lastCountedMacsec.chip.lnk.sas (saKey 8 0 0 0) = none := rfl
  exact absurd (((congrArg (fun u : LinkUnit => tget u.sas (saKey 8 0 0 0)) held).symm.trans installed).symm.trans absent) (by decide)

end Sys2Proof.Machine
end
